-- ==== Sys2Proof/Word.lean ====
section
/-!
DEFINITION. The word types of the DW3240: bytes, the 32-bit registers of BAR0, the 64-bit words of records, Tellers
and the Coffer, wider bit strings for microwords and key vectors, and the names of what the outside world can report
with a command.
-/
namespace Sys2Proof

/-- One byte of packet data, memory or an image. -/
abbrev Byte := BitVec 8

/-- A 32-bit BAR0 register value (R3). -/
abbrev Word32 := BitVec 32

/-- A 64-bit word: a record word, a Teller register, a Coffer word, a Ledger time. -/
abbrev Word64 := BitVec 64

/-- A 512-bit key vector (chapter 03). -/
abbrev KeyVec := BitVec 512

/-- A 160-bit microword of a Desk control store (chapter 07). -/
abbrev MicroWord := BitVec 160

/-- A sequence of bytes in increasing address or wire order. -/
abbrev Bytes := List Byte

/-- A sparse table: pairs of a key and a value, keys strictly rising, no pair equal to what an unlisted key reads as. -/
abbrev Tbl (α : Type) := List (Nat × α)

/-- What the code of an on-chip word found on a read, after the single retry of R396 (R394, R395, R399). -/
inductive EccResult
  | clean
  | corrected
  | transient
  /-- rebuilt from the other words of its page (R395); a memory without a page code takes it as lasting -/
  | rebuilt
  | lasting
deriving DecidableEq, Repr

/-- Why a port lost its link (R310). -/
inductive LinkLoss
  | signal
  | alignment
  | hiBer
  | localFault
  | remoteFault
deriving DecidableEq, Repr

/-- Who made a Vault access (AUDIT_UE_INFO.REQUESTER, Table 16.9). -/
inductive VaultAccess
  | auditor
  | ledger
  | teller (t : Fin 128)
  | host
  | migration
  | peer
  | partWrite
deriving DecidableEq, Repr

/-- What a DIMM's SPD says (R363): none for an empty channel or a DIMM that is no x4 ECC RDIMM. -/
structure Spd where
  ok : Bool
  ranks : Nat
  gib : Nat
  maxSpeed : Nat
deriving DecidableEq, Repr

/-- A read of a word of an on-chip memory without a page code: what its code found, and where the word lies (R396, R399). -/
structure SramRead where
  ecc : EccResult
  branch : Fin 4
  addr : BitVec 24
deriving DecidableEq, Repr

/-- A read of a Sieve entry in the parsing Branch: its index, what the code found, and the Branches whose replicas of it are
uncorrectable as well (Table 16.4). -/
structure SieveRead where
  index : Nat
  ecc : EccResult
  bad : BitVec 4
deriving DecidableEq, Repr

/-- What a read of a Vault record by the Auditor or a migration finds (R381, R405): `correctable` lists the devices whose symbols
were corrected, `transient` and `lasting` the codewords that were uncorrectable. -/
inductive AuditFound
  | clean
  | correctable (devs : List Nat)
  | transient (codewords : BitVec 8)
  | lasting (codewords : BitVec 8)
deriving DecidableEq, Repr

/-- Bits in error in a word of a page of the Till or the Coffer as it is read and as it is read once more (R394 to R396): the page
and its word, of which 64 is the parity word, and for each read bits [63:0] in the data and [71:64] in the check bits. -/
structure WordFlips where
  page : Nat
  word : Fin 65
  first : BitVec 72
  again : BitVec 72
deriving DecidableEq, Repr

end Sys2Proof
end

