-- ==== Sys2Proof/Syntax.lean ====
section
/-!
DEFINITION. The commands of the DW3240: one constructor for each row of spec/opcode_table.json, with the instance it
names and what the outside world supplies with it (log entry 1). Each docstring names the rule the row cites.
-/
namespace Sys2Proof

/-- The commands that the block takes, one for each row of the table (log entries 1 and 2). -/
inductive Instr
  /-- REGISTER_WRITE (R4). -/
  | registerWrite (off : Nat) (size : Nat) (data : Word64)
  /-- RC_READ (R6). -/
  | rcRead (off : Nat) (size : Nat)
  /-- UNSUPPORTED_REQUEST (R3). -/
  | unsupportedRequest (off : Nat) (size : Nat) (write : Bool)
  /-- PACE_UPDATE (R12). -/
  | paceUpdate (b : Fin 4) (descs : Nat) (steps : Nat)
  /-- FRAME_RX_START (R252). -/
  | frameRxStart (p : Fin 64) (data : Bytes) (full : Bool)
  /-- MINT_ROUND (R258). -/
  | mintRound
  /-- FRAME_RX_TAIL (R51). -/
  | frameRxTail (p : Fin 64) (data : Bytes) (fcsOk : Bool) (fec : Nat) (syms : List Nat)
  /-- MAC_CONTROL_FRAME (R315). -/
  | macControlFrame (p : Fin 64) (data : Bytes) (fcsOk : Bool)
  /-- ASSAY_ADMIT (R43). -/
  | assayAdmit (b : Fin 4)
  /-- PARSE_PASS (R53). -/
  | parsePass (b : Fin 4) (frame : Nat) (sieve : List SieveRead)
  /-- XCH_HOLD_RELEASE (R63). -/
  | xchHoldRelease (b : Fin 4)
  /-- XCH_STALL_INTERVAL (R63). -/
  | xchStallInterval (b : Fin 4)
  /-- RECIRC_PLACE_FREED (R44). -/
  | recircPlaceFreed (b : Fin 4)
  /-- TILL_PROBE (R113). -/
  | tillProbe (b : Fin 4) (flips : List WordFlips)
  /-- CANDIDATE_READ_DONE (R126). -/
  | candidateReadDone (b : Fin 4) (entry : Nat)
  /-- FILL_RETRY (R107). -/
  | fillRetry (b : Fin 4) (entry : Nat)
  /-- OCC_LIMIT_WRITE (R511). -/
  | occLimitWrite (v : Word32)
  /-- SETUP_BURST_WRITE (R139). -/
  | setupBurstWrite (b : Fin 4) (v : Word32)
  /-- MISS_TIMEOUT (R135). -/
  | missTimeout (b : Fin 4) (entry : Nat) (frame : Nat)
  /-- DURABLE_DIRTY_EXPIRY (R109). -/
  | durableDirtyExpiry (b : Fin 4) (way : Nat)
  /-- TILL_FLUSH_START (R109). -/
  | tillFlushStart (b : Fin 4) (v : Word32)
  /-- TILL_FLUSH_DONE (R109). -/
  | tillFlushDone (b : Fin 4)
  /-- LOCK_WAIT_TIMEOUT (R118). -/
  | lockWaitTimeout (t : Fin 128)
  /-- LOCK_ALARM (R118). -/
  | lockAlarm (b : Fin 4) (way : Nat)
  /-- TILL_LOOKUP (R119). -/
  | tillLookup (b : Fin 4)
  /-- TILL_WRITE (R119). -/
  | tillWrite (b : Fin 4) (wmask : BitVec 16)
  /-- TILL_CREATE (R119). -/
  | tillCreate (b : Fin 4)
  /-- TILL_DELETE (R119). -/
  | tillDelete (b : Fin 4)
  /-- TILL_FLUSH (R119). -/
  | tillFlush (b : Fin 4)
  /-- TILL_READ_SLOT (R119). -/
  | tillReadSlot (b : Fin 4)
  /-- HREQ_DONE (R121). -/
  | hreqDone (b : Fin 4)
  /-- SIEVE_WRITE (R80). -/
  | sieveWrite (cmd : Word32)
  /-- SIEVE_INSERT (R73). -/
  | sieveInsert (cmd : Word32)
  /-- SIEVE_FIND (R80). -/
  | sieveFind (cmd : Word32)
  /-- SIEVE_INVALIDATE (R80). -/
  | sieveInvalidate (cmd : Word32)
  /-- SIEVE_SET_EM (R80). -/
  | sieveSetEm (cmd : Word32)
  /-- SIEVE_READ (R80). -/
  | sieveRead (cmd : Word32)
  /-- SIEVE_OP_DONE (R82). -/
  | sieveOpDone
  /-- ACCORD_SWAP (R87). -/
  | accordSwap
  /-- ACCORD_T_SWAP (R87). -/
  | accordTSwap
  /-- ACCORD_DRAINED (R88). -/
  | accordDrained
  /-- ACCORD_DRAIN_TMO (R88). -/
  | accordDrainTmo
  /-- MEM_REPLY (R159). -/
  | memReply (t : Fin 128) (op : Nat)
  /-- MICRO_TRAP (R176). -/
  | microTrap (t : Fin 128)
  /-- CS_SCRUB (R154). -/
  | csScrub (d : Fin 16) (addr : BitVec 14) (e : EccResult)
  /-- CS_READ (R154). -/
  | csRead (d : Fin 16) (addr : BitVec 14)
  /-- CS_READ_DONE (R154). -/
  | csReadDone (d : Fin 16) (e : EccResult)
  /-- TCTRL_STOP (R175). -/
  | tctrlStop (t : Fin 128)
  /-- TCTRL_CONT (R182). -/
  | tctrlCont (t : Fin 128)
  /-- MW_FENCE (R160). -/
  | mwFence (t : Fin 128) (e : EccResult)
  /-- MW_HOLD (R177). -/
  | mwHold (t : Fin 128) (e : EccResult)
  /-- SEQ_NEXT (R161). -/
  | seqNext (t : Fin 128) (e : EccResult)
  /-- SEQ_JUMP (R161). -/
  | seqJump (t : Fin 128) (e : EccResult)
  /-- SEQ_BRT (R161). -/
  | seqBrt (t : Fin 128) (e : EccResult)
  /-- SEQ_BRF (R161). -/
  | seqBrf (t : Fin 128) (e : EccResult)
  /-- SEQ_CALL (R161). -/
  | seqCall (t : Fin 128) (e : EccResult)
  /-- SEQ_CALLT (R161). -/
  | seqCallt (t : Fin 128) (e : EccResult)
  /-- SEQ_RET (R161). -/
  | seqRet (t : Fin 128) (e : EccResult)
  /-- SEQ_RETT (R161). -/
  | seqRett (t : Fin 128) (e : EccResult)
  /-- SEQ_LOOP (R161). -/
  | seqLoop (t : Fin 128) (e : EccResult)
  /-- SEQ_LDLOOP (R161). -/
  | seqLdloop (t : Fin 128) (e : EccResult)
  /-- SEQ_LDLOOPG (R161). -/
  | seqLdloopg (t : Fin 128) (e : EccResult)
  /-- SEQ_JTAB (R161). -/
  | seqJtab (t : Fin 128) (e : EccResult)
  /-- SEQ_END (R180). -/
  | seqEnd (t : Fin 128) (e : EccResult)
  /-- SEQ_RESUME (R180). -/
  | seqResume (t : Fin 128) (e : EccResult)
  /-- SEQ_TRAPV (R161). -/
  | seqTrapv (t : Fin 128) (e : EccResult)
  /-- SEQ_HALT (R182). -/
  | seqHalt (t : Fin 128) (e : EccResult)
  /-- AOP_ADD (R163). -/
  | aopAdd (t : Fin 128) (e : EccResult)
  /-- AOP_SUB (R163). -/
  | aopSub (t : Fin 128) (e : EccResult)
  /-- AOP_AND (R163). -/
  | aopAnd (t : Fin 128) (e : EccResult)
  /-- AOP_OR (R163). -/
  | aopOr (t : Fin 128) (e : EccResult)
  /-- AOP_XOR (R163). -/
  | aopXor (t : Fin 128) (e : EccResult)
  /-- AOP_ANDN (R163). -/
  | aopAndn (t : Fin 128) (e : EccResult)
  /-- AOP_MOV (R163). -/
  | aopMov (t : Fin 128) (e : EccResult)
  /-- AOP_SHL (R163). -/
  | aopShl (t : Fin 128) (e : EccResult)
  /-- AOP_SHR (R163). -/
  | aopShr (t : Fin 128) (e : EccResult)
  /-- AOP_SAR (R163). -/
  | aopSar (t : Fin 128) (e : EccResult)
  /-- AOP_ROL (R163). -/
  | aopRol (t : Fin 128) (e : EccResult)
  /-- AOP_ROR (R163). -/
  | aopRor (t : Fin 128) (e : EccResult)
  /-- AOP_MINU (R163). -/
  | aopMinu (t : Fin 128) (e : EccResult)
  /-- AOP_MAXU (R163). -/
  | aopMaxu (t : Fin 128) (e : EccResult)
  /-- AOP_MINS (R163). -/
  | aopMins (t : Fin 128) (e : EccResult)
  /-- AOP_MAXS (R163). -/
  | aopMaxs (t : Fin 128) (e : EccResult)
  /-- AOP_CMP (R163). -/
  | aopCmp (t : Fin 128) (e : EccResult)
  /-- AOP_TST (R163). -/
  | aopTst (t : Fin 128) (e : EccResult)
  /-- AOP_MUL (R163). -/
  | aopMul (t : Fin 128) (e : EccResult)
  /-- AOP_MULHU (R163). -/
  | aopMulhu (t : Fin 128) (e : EccResult)
  /-- AOP_ADDSU (R163). -/
  | aopAddsu (t : Fin 128) (e : EccResult)
  /-- AOP_SUBSU (R163). -/
  | aopSubsu (t : Fin 128) (e : EccResult)
  /-- AOP_EXT (R163). -/
  | aopExt (t : Fin 128) (e : EccResult)
  /-- AOP_INS (R163). -/
  | aopIns (t : Fin 128) (e : EccResult)
  /-- AOP_POPC (R163). -/
  | aopPopc (t : Fin 128) (e : EccResult)
  /-- AOP_CLZ (R163). -/
  | aopClz (t : Fin 128) (e : EccResult)
  /-- AOP_CTZ (R163). -/
  | aopCtz (t : Fin 128) (e : EccResult)
  /-- AOP_BSWAP (R163). -/
  | aopBswap (t : Fin 128) (e : EccResult)
  /-- AOP_SEXT (R163). -/
  | aopSext (t : Fin 128) (e : EccResult)
  /-- AOP_ZEXT (R163). -/
  | aopZext (t : Fin 128) (e : EccResult)
  /-- AOP_SETC (R163). -/
  | aopSetc (t : Fin 128) (e : EccResult)
  /-- BOP_MOV (R164). -/
  | bopMov (t : Fin 128) (e : EccResult)
  /-- BOP_ADD (R164). -/
  | bopAdd (t : Fin 128) (e : EccResult)
  /-- BOP_SUB (R164). -/
  | bopSub (t : Fin 128) (e : EccResult)
  /-- BOP_AND (R164). -/
  | bopAnd (t : Fin 128) (e : EccResult)
  /-- BOP_OR (R164). -/
  | bopOr (t : Fin 128) (e : EccResult)
  /-- BOP_XOR (R164). -/
  | bopXor (t : Fin 128) (e : EccResult)
  /-- BOP_SHL (R164). -/
  | bopShl (t : Fin 128) (e : EccResult)
  /-- BOP_SHR (R164). -/
  | bopShr (t : Fin 128) (e : EccResult)
  /-- BOP_INC (R164). -/
  | bopInc (t : Fin 128) (e : EccResult)
  /-- BOP_DEC (R164). -/
  | bopDec (t : Fin 128) (e : EccResult)
  /-- BOP_NOT (R164). -/
  | bopNot (t : Fin 128) (e : EccResult)
  /-- BOP_ZX8 (R164). -/
  | bopZx8 (t : Fin 128) (e : EccResult)
  /-- BOP_ZX16 (R164). -/
  | bopZx16 (t : Fin 128) (e : EccResult)
  /-- BOP_ZX32 (R164). -/
  | bopZx32 (t : Fin 128) (e : EccResult)
  /-- BOP_HI32 (R164). -/
  | bopHi32 (t : Fin 128) (e : EccResult)
  /-- BOP_LO32IN (R164). -/
  | bopLo32in (t : Fin 128) (e : EccResult)
  /-- BOP_HI32IN (R164). -/
  | bopHi32in (t : Fin 128) (e : EccResult)
  /-- FOP_LD (R165). -/
  | fopLd (t : Fin 128) (e : EccResult)
  /-- FOP_ST (R165). -/
  | fopSt (t : Fin 128) (e : EccResult)
  /-- FOP_ADD (R165). -/
  | fopAdd (t : Fin 128) (e : EccResult)
  /-- FOP_OR (R165). -/
  | fopOr (t : Fin 128) (e : EccResult)
  /-- FOP_ANDN (R165). -/
  | fopAndn (t : Fin 128) (e : EccResult)
  /-- FOP_STM (R165). -/
  | fopStm (t : Fin 128) (e : EccResult)
  /-- FOP_SETSTATE (R166). -/
  | fopSetstate (t : Fin 128) (e : EccResult)
  /-- FOP_OPEN (R166). -/
  | fopOpen (t : Fin 128) (e : EccResult)
  /-- FOP_RELWIN (R166). -/
  | fopRelwin (t : Fin 128) (e : EccResult)
  /-- FOP_FLUSH (R165). -/
  | fopFlush (t : Fin 128) (e : EccResult)
  /-- MOP_LD (R167). -/
  | mopLd (t : Fin 128) (e : EccResult)
  /-- MOP_LD2 (R167). -/
  | mopLd2 (t : Fin 128) (e : EccResult)
  /-- MOP_ST (R167). -/
  | mopSt (t : Fin 128) (e : EccResult)
  /-- MOP_ST2 (R167). -/
  | mopSt2 (t : Fin 128) (e : EccResult)
  /-- MOP_FADD (R167). -/
  | mopFadd (t : Fin 128) (e : EccResult)
  /-- MOP_SWAP (R167). -/
  | mopSwap (t : Fin 128) (e : EccResult)
  /-- MOP_CAS (R167). -/
  | mopCas (t : Fin 128) (e : EccResult)
  /-- MOP_LOOKUP (R167). -/
  | mopLookup (t : Fin 128) (e : EccResult)
  /-- MOP_GUARD (R131). -/
  | mopGuard (t : Fin 128) (e : EccResult)
  /-- MOP_FTWR (R167). -/
  | mopFtwr (t : Fin 128) (e : EccResult)
  /-- MOP_UNGUARD (R167). -/
  | mopUnguard (t : Fin 128) (e : EccResult)
  /-- MOP_SWEEP (R167). -/
  | mopSweep (t : Fin 128) (e : EccResult)
  /-- HOP_FMIX (R169). -/
  | hopFmix (t : Fin 128) (e : EccResult)
  /-- HOP_FLOW (R169). -/
  | hopFlow (t : Fin 128) (e : EccResult)
  /-- HOP_CRC32C (R169). -/
  | hopCrc32c (t : Fin 128) (e : EccResult)
  /-- HOP_RANGE (R169). -/
  | hopRange (t : Fin 128) (e : EccResult)
  /-- HOP_CANDA (R169). -/
  | hopCanda (t : Fin 128) (e : EccResult)
  /-- HOP_CANDB (R169). -/
  | hopCandb (t : Fin 128) (e : EccResult)
  /-- QOP_LDPKT (R170). -/
  | qopLdpkt (t : Fin 128) (e : EccResult)
  /-- QOP_LDDESC (R170). -/
  | qopLddesc (t : Fin 128) (e : EccResult)
  /-- QOP_SETACT (R171). -/
  | qopSetact (t : Fin 128) (e : EccResult)
  /-- QOP_PARAM (R171). -/
  | qopParam (t : Fin 128) (e : EccResult)
  /-- QOP_RECIRC (R64). -/
  | qopRecirc (t : Fin 128) (e : EccResult)
  /-- QOP_PUNT (R170). -/
  | qopPunt (t : Fin 128) (e : EccResult)
  /-- QOP_MIRROR (R171). -/
  | qopMirror (t : Fin 128) (e : EccResult)
  /-- QOP_DROP (R170). -/
  | qopDrop (t : Fin 128) (e : EccResult)
  /-- QOP_POLICE (R300). -/
  | qopPolice (t : Fin 128) (e : EccResult)
  /-- QOP_SCAN (R234). -/
  | qopScan (t : Fin 128) (e : EccResult)
  /-- QOP_NOSEGET (R237). -/
  | qopNoseget (t : Fin 128) (e : EccResult)
  /-- QOP_RELEASE (R171). -/
  | qopRelease (t : Fin 128) (e : EccResult)
  /-- COP_INC (R172). -/
  | copInc (t : Fin 128) (e : EccResult)
  /-- COP_ADD (R172). -/
  | copAdd (t : Fin 128) (e : EccResult)
  /-- COP_RD (R172). -/
  | copRd (t : Fin 128) (e : EccResult)
  /-- COP_RDCLR (R172). -/
  | copRdclr (t : Fin 128) (e : EccResult)
  /-- COP_PERF (R172). -/
  | copPerf (t : Fin 128) (e : EccResult)
  /-- COP_TICK (R172). -/
  | copTick (t : Fin 128) (e : EccResult)
  /-- TOP_NOW (R173). -/
  | topNow (t : Fin 128) (e : EccResult)
  /-- TOP_ARR (R173). -/
  | topArr (t : Fin 128) (e : EccResult)
  /-- TOP_ELAPSED (R173). -/
  | topElapsed (t : Fin 128) (e : EccResult)
  /-- TOP_LOCKT (R173). -/
  | topLockt (t : Fin 128) (e : EccResult)
  /-- TOP_SEC (R173). -/
  | topSec (t : Fin 128) (e : EccResult)
  /-- TOP_NSFRAC (R173). -/
  | topNsfrac (t : Fin 128) (e : EccResult)
  /-- XOP_YIELD (R181). -/
  | xopYield (t : Fin 128) (e : EccResult)
  /-- XOP_POST (R174). -/
  | xopPost (t : Fin 128) (e : EccResult)
  /-- XOP_TRACE (R174). -/
  | xopTrace (t : Fin 128) (e : EccResult)
  /-- XOP_NOAFF (R174). -/
  | xopNoaff (t : Fin 128) (e : EccResult)
  /-- DISPATCH_DECISION (R194). -/
  | dispatchDecision (b : Fin 4)
  /-- AFF_WAIT_EXPIRY (R194). -/
  | affWaitExpiry (b : Fin 4) (item : Nat)
  /-- PREEMPT_WAIT_EXPIRY (R194). -/
  | preemptWaitExpiry (b : Fin 4) (item : Nat)
  /-- DISP_STALL_INTERVAL (R189). -/
  | dispStallInterval (b : Fin 4)
  /-- HOST_ITEM_POST (R197). -/
  | hostItemPost (b : Fin 4)
  /-- SWEEP_OFFER (R198). -/
  | sweepOffer (b : Fin 4)
  /-- AFF_DATA_ACCESS (R199). -/
  | affDataAccess (b : Fin 4) (w : Option Word32)
  /-- TM_SELECT (R281). -/
  | tmSelect (k : Fin 66) (desc : SramRead) (buf : SramRead)
  /-- TX_COPY_END (R283). -/
  | txCopyEnd (k : Fin 66) (buf : SramRead)
  /-- SWC_GRP_WRITE (R263). -/
  | swcGrpWrite (cmd : Word32)
  /-- SWC_GRP_READ (R263). -/
  | swcGrpRead (cmd : Word32)
  /-- SAMPLE_SEED_WRITE (R271). -/
  | sampleSeedWrite (p : Fin 64) (v : Word32)
  /-- SAMPLER_ENABLE (R271). -/
  | samplerEnable (p : Fin 64) (v : Word32)
  /-- SHAPER_UPDATE (R285). -/
  | shaperUpdate (k : Fin 66) (c : Fin 16)
  /-- CLEAR_DEBT (R286). -/
  | clearDebt (n : Fin 536) (v : Word32)
  /-- GCL_DUR_WRITE (R289). -/
  | gclDurWrite (v : Word32)
  /-- GCL_DUR_READ (R287). -/
  | gclDurRead
  /-- GATE_CHANGE (R289). -/
  | gateChange (p : Fin 64) (v : Word32)
  /-- GATE_SWITCH (R289). -/
  | gateSwitch (p : Fin 64)
  /-- GATE_ENTRY_BOUNDARY (R288). -/
  | gateEntryBoundary (p : Fin 64)
  /-- GATE_DISABLE (R289). -/
  | gateDisable (p : Fin 64) (v : Word32)
  /-- PAUSE_EXPIRY (R294). -/
  | pauseExpiry (p : Fin 64) (c : Fin 8)
  /-- FC_XOFF_REPEAT (R295). -/
  | fcXoffRepeat (p : Fin 64) (c : Fin 9)
  /-- HOLD_EXPIRY (R297). -/
  | holdExpiry (n : Fin 536)
  /-- POL_WRITE (R302). -/
  | polWrite (cmd : Word32)
  /-- POL_READ (R302). -/
  | polRead (cmd : Word32)
  /-- POL_READ_CLEAR (R302). -/
  | polReadClear (cmd : Word32)
  /-- POL_REFILL (R302). -/
  | polRefill (cmd : Word32)
  /-- PORT_ENABLE (R309). -/
  | portEnable (p : Fin 64) (v : Word32)
  /-- PORT_DISABLE (R309). -/
  | portDisable (p : Fin 64) (v : Word32)
  /-- PORT_ACQUIRE_DONE (R309). -/
  | portAcquireDone (p : Fin 64)
  /-- PORT_ALIGN_DONE (R309). -/
  | portAlignDone (p : Fin 64)
  /-- PORT_LINK_UP (R310). -/
  | portLinkUp (p : Fin 64)
  /-- PORT_LINK_DOWN (R310). -/
  | portLinkDown (p : Fin 64) (cause : LinkLoss) (lane : Fin 8)
  /-- REMOTE_FAULT (R310). -/
  | remoteFault (p : Fin 64)
  /-- REFCLK_ETH_LOSS (R307). -/
  | refclkEthLoss
  /-- TETH_RETRAIN (R319). -/
  | tethRetrain (v : Word32)
  /-- TETH_TRAIN_DONE (R319). -/
  | tethTrainDone
  /-- TETH_LANE_CHECK (R319). -/
  | tethLaneCheck (errors : List Nat) (peer : BitVec 8)
  /-- TETH_LINK_UP (R320). -/
  | tethLinkUp (peer set : BitVec 8)
  /-- TETH_REFORM (R320). -/
  | tethReform (lane : Fin 8) (set : BitVec 8)
  /-- TETH_LINK_DOWN (R320). -/
  | tethLinkDown
  /-- LINK_FRAME_RX (R321). -/
  | linkFrameRx (kind : Nat) (seq : BitVec 16) (crcOk : Bool) (ack : Option (BitVec 16)) (nak : Option (BitVec 16)) (buf : SramRead)
  /-- HEARTBEAT_SEND (R323). -/
  | heartbeatSend
  /-- HEARTBEAT_RX (R323). -/
  | heartbeatRx (msg : Bytes)
  /-- PEER_LOST (R323). -/
  | peerLost
  /-- MIRROR_APPLY (R327). -/
  | mirrorApply (msg : Bytes)
  /-- TETHER_COPY_RX (R330). -/
  | tetherCopyRx (header : Bytes) (data : Bytes)
  /-- RECOVERY_REQUEST_RX (R331). -/
  | recoveryRequestRx (msg : Bytes)
  /-- RECOVERY_RESPONSE_RX (R331). -/
  | recoveryResponseRx (msg : Bytes)
  /-- RECOVERY_TIMEOUT (R331). -/
  | recoveryTimeout
  /-- TIME_SNAP (R336). -/
  | timeSnap
  /-- TIME_INCR_WRITE (R337). -/
  | timeIncrWrite (half : Option Bool) (w : Word64)
  /-- TIME_APPLY (R338). -/
  | timeApply (v : Word32)
  /-- OFFSET_ADD (R338). -/
  | offsetAdd
  /-- FOLLOW_CHECK (R340). -/
  | followCheck
  /-- REFCLK_TIME_LOSS (R341). -/
  | refclkTimeLoss
  /-- REFCLK_TIME_RETURN (R341). -/
  | refclkTimeReturn
  /-- TS2_POP (R347). -/
  | ts2Pop
  /-- TRIG_ARM (R348). -/
  | trigArm (n : Fin 8) (v : Word32)
  /-- TRIG_DISARM (R348). -/
  | trigDisarm (n : Fin 8) (v : Word32)
  /-- TRIG_EDGE (R348). -/
  | trigEdge (n : Fin 8)
  /-- TRIG_PULSE_END (R348). -/
  | trigPulseEnd (n : Fin 8)
  /-- CAPTURE_EDGE (R350). -/
  | captureEdge (n : Fin 9) (rising : Bool)
  /-- CAPTURE_POP (R350). -/
  | capturePop (n : Fin 9)
  /-- PPS_EDGE (R351). -/
  | ppsEdge
  /-- PPS_PULSE_END (R351). -/
  | ppsPulseEnd
  /-- SILLAGE_DELIVER (R357). -/
  | sillageDeliver
  /-- DISP_SAMPLE_CFG_WRITE (R359). -/
  | dispSampleCfgWrite (v : Word32)
  /-- VAULT_REQUEST_DONE (R368). -/
  | vaultRequestDone (record : Nat) (user : VaultAccess) (noise : Bytes) (retryNoise : Bytes)
  /-- REFRESH_ACCRUAL (R370). -/
  | refreshAccrual (c : Fin 8) (cs : Fin 2) (set : Fin 4)
  /-- REFRESH_ISSUE (R370). -/
  | refreshIssue (c : Fin 8) (cs : Fin 2) (set : Fin 4)
  /-- DIMM_TEMP_READ (R371). -/
  | dimmTempRead (c : Fin 8) (temps : List Int)
  /-- SR_ENTERED (R373). -/
  | srEntered (c : Fin 8)
  /-- SR_REQUEST_ARRIVAL (R374). -/
  | srRequestArrival (c : Fin 8) (issued : Bool)
  /-- SR_EXIT_DONE (R375). -/
  | srExitDone (c : Fin 8)
  /-- SR_ENTRY_RETRY (R374). -/
  | srEntryRetry (c : Fin 8)
  /-- VAULT_TRAINING_DONE (R376). -/
  | vaultTrainingDone (c : Fin 8) (spd : Spd) (failure : Option (Fin 4 × Fin 2))
  /-- ZQ_CALIBRATION (R377). -/
  | zqCalibration (rank : Fin 16) (zqOk : Bool) (dqsOk : Bool)
  /-- CA_PARITY_ALERT (R378). -/
  | caParityAlert (c : Fin 8) (rank : Fin 16) (retryOk : Bool) (reads : List Nat) (writes : List Nat)
  /-- CE_WINDOW_END (R379). -/
  | ceWindowEnd (c : Fin 8)
  /-- SPARE_START (R379). -/
  | spareStart (v : Word32)
  /-- MIGRATION_COPY (R381). -/
  | migrationCopy (found : AuditFound)
  /-- VAULT_WINDOW_READ (R384). -/
  | vaultWindowRead (off : Nat) (len : Nat)
  /-- VAULT_WINDOW_WRITE (R384). -/
  | vaultWindowWrite (off : Nat) (data : Bytes) (be : List Bool)
  /-- MERGE_WINDOW_EXPIRY (R402). -/
  | mergeWindowExpiry (c : Fin 8) (record : Nat)
  /-- AUDIT_VISIT (R405). -/
  | auditVisit (m : Fin 6) (c : Fin 8) (found : AuditFound) (flips : List WordFlips)
  /-- AUDIT_LAP_ALARM (R404). -/
  | auditLapAlarm (m : Fin 6)
  /-- DOMAIN_REQUEST (R411). -/
  | domainRequest (v : Word32)
  /-- DOMAIN_RAMP_START (R412). -/
  | domainRampStart (d : Fin 30)
  /-- DOMAIN_RAMP_DONE (R412). -/
  | domainRampDone (d : Fin 30)
  /-- DOMAIN_POWER_DOWN (R412). -/
  | domainPowerDown (d : Fin 30)
  /-- QUIET_ENTER (R414). -/
  | quietEnter (v : Word32)
  /-- QUIET_ENTRY_COMPLETE (R414). -/
  | quietEntryComplete
  /-- QUIET_STALL (R414). -/
  | quietStall
  /-- QUIET_EXIT (R414). -/
  | quietExit (v : Word32)
  /-- POWER_OFF_CMD (R414). -/
  | powerOffCmd (v : Word32)
  /-- ALLOWANCE_REQUEST (R415). -/
  | allowanceRequest (u : Fin 11)
  /-- ALLOWANCE_GRANT (R415). -/
  | allowanceGrant
  /-- ALLOWANCE_RETURN (R416). -/
  | allowanceReturn (u : Fin 11)
  /-- SLEW_STEP (R417). -/
  | slewStep
  /-- AVS_UPDATE (R419). -/
  | avsUpdate (iout : Nat) (vrmOk : Bool)
  /-- AVS_RESTART (R418). -/
  | avsRestart (v : Word32)
  /-- TEMP_SAMPLE (R420). -/
  | tempSample (temps : List Int)
  /-- PWRWARN_ASSERT (R425). -/
  | pwrwarnAssert
  /-- VDD_CORE_WARN (R424). -/
  | vddCoreWarn (mv : Nat)
  /-- BROWNOUT_SR (R425). -/
  | brownoutSr
  /-- BROWNOUT_RECOVER (R425). -/
  | brownoutRecover (mv : Nat)
  /-- BROWNOUT_NORMAL (R425). -/
  | brownoutNormal
  /-- VDD_CORE_RESET (R427). -/
  | vddCoreReset (mv : Nat)
  /-- RAIL_MONITOR_RESET (R424). -/
  | railMonitorReset (rail : Fin 4)
  /-- SMB_TEMPS (R428). -/
  | smbTemps (pec : Bool)
  /-- SMB_STATE (R428). -/
  | smbState (pec : Bool)
  /-- SMB_BROWN (R428). -/
  | smbBrown (pec : Bool)
  /-- SMB_IOUT (R428). -/
  | smbIout (pec : Bool)
  /-- SMB_PSTATE (R428). -/
  | smbPstate (val : Byte) (pec : Bool)
  /-- PORST_ASSERT (R497). -/
  | porstAssert (ns : Nat)
  /-- PORST_RELEASE (R436). -/
  | porstRelease (bootSel : BitVec 2) (smbAddr : BitVec 2)
  /-- START_PUSH (R30). -/
  | startPush (v : Word32)
  /-- START_FLASH (R30). -/
  | startFlash (v : Word32)
  /-- CHARTER_ABORT (R30). -/
  | charterAbort (v : Word32)
  /-- CHARTER_LOCK (R37). -/
  | charterLock (v : Word32)
  /-- PUSH_CHUNK (R32). -/
  | pushChunk (v : Word32)
  /-- FLASH_READ_DONE (R31). -/
  | flashReadDone (density : Option Nat) (data : Option Bytes)
  /-- VERIFY_DONE (R438). -/
  | verifyDone
  /-- DRAIN_TIMEOUT (R34). -/
  | drainTimeout
  /-- LOAD_START (R29). -/
  | loadStart
  /-- SECTION_DONE (R39). -/
  | sectionDone
  /-- CHARTER_RUN (R29). -/
  | charterRun
  /-- MBOX_GET_IDENTITY (R442). -/
  | mboxGetIdentity (side : Bool)
  /-- MBOX_GET_CHALLENGE (R443). -/
  | mboxGetChallenge (side : Bool)
  /-- MBOX_ATTEST (R445). -/
  | mboxAttest (side : Bool)
  /-- MBOX_PROVISION (R447). -/
  | mboxProvision (blown : Bool)
  /-- ADD_SLOT (R446). -/
  | addSlot (blown : Bool)
  /-- REVOKE_SLOT (R446). -/
  | revokeSlot (blown : Bool)
  /-- RAISE_SVN (R446). -/
  | raiseSvn (blown : Bool)
  /-- OWNER_LOCK (R446). -/
  | ownerLock (blown : Bool)
  /-- DEBUG_UNLOCK (R446). -/
  | debugUnlock
  /-- OWNER_RETURN (R446). -/
  | ownerReturn (blown : Bool)
  /-- MBOX_QUEUED_START (R442). -/
  | mboxQueuedStart (side : Bool)
  /-- MBOX_OP_DONE (R442). -/
  | mboxOpDone (side : Bool)
  /-- MB_OP (R449). -/
  | mbOp (op : Byte) (pec : Bool)
  /-- MB_STATUS (R449). -/
  | mbStatus (pec : Bool)
  /-- MB_NONCE (R449). -/
  | mbNonce (nonce : Bytes) (pec : Bool)
  /-- MB_OFFSET (R449). -/
  | mbOffset (offset : BitVec 16) (pec : Bool)
  /-- MB_READ (R449). -/
  | mbRead (pec : Bool)
  /-- JTAG_BYPASS (R448). -/
  | jtagBypass (trst : Bool) (bits : List Bool)
  /-- JTAG_IDCODE (R492). -/
  | jtagIdcode (trst : Bool)
  /-- JTAG_SAMPLE_PRELOAD (R448). -/
  | jtagSamplePreload (trst : Bool) (bits : List Bool)
  /-- JTAG_EXTEST (R448). -/
  | jtagExtest (trst : Bool) (bits : List Bool)
  /-- JTAG_MBOX (R448). -/
  | jtagMbox (trst : Bool) (off : Nat) (w : Option Word32)
  /-- JTAG_DEBUG_INSTRUCTION (R448). -/
  | jtagDebugInstruction (trst : Bool) (code : Nat)
  /-- PERST_ASSERT (R454). -/
  | perstAssert
  /-- PERST_RELEASE (R498). -/
  | perstRelease
  /-- PCIE_HOT_RESET (R454). -/
  | pcieHotReset
  /-- PCIE_DL_DOWN (R454). -/
  | pcieDlDown
  /-- COFFER_ROUND (R458). -/
  | cofferRound (flips : List WordFlips)
  /-- COFFER_HOST_READ (R457). -/
  | cofferHostRead (off : Nat) (len : Nat) (flips : List WordFlips)
  /-- COFFER_HOST_WRITE (R459). -/
  | cofferHostWrite (off : Nat) (data : Bytes) (be : List Bool) (flips : List WordFlips)
  /-- COFFER_SET_WRITE (R459). -/
  | cofferSetWrite (off : Nat) (data : Bytes) (be : List Bool) (flips : List WordFlips)
  /-- COFFER_CLEAR_WRITE (R459). -/
  | cofferClearWrite (off : Nat) (data : Bytes) (be : List Bool) (flips : List WordFlips)
  /-- DMA_RING_ENABLE (R461). -/
  | dmaRingEnable (n : Fin 32) (v : Word32)
  /-- DMA_RING_DISABLE (R461). -/
  | dmaRingDisable (n : Fin 32) (v : Word32)
  /-- DMA_TAIL_WRITE (R461). -/
  | dmaTailWrite (n : Fin 32) (v : Word32)
  /-- DMA_DESC_FETCH (R461). -/
  | dmaDescFetch (n : Fin 32) (desc : Option Bytes) (data : Option Bytes)
  /-- DMA_RECORD_WRITE (R463). -/
  | dmaRecordWrite (n : Fin 32)
  /-- DMA_FLUSH_TIMEOUT (R463). -/
  | dmaFlushTimeout (n : Fin 32)
  /-- DMA_STARVE_INTERVAL (R465). -/
  | dmaStarveInterval (n : Fin 32)
  /-- INJECT_FRAME_READ (R467). -/
  | injectFrameRead (n : Fin 32) (data : Option Bytes)
  /-- BATCH_SIEVE (R469). -/
  | batchSieve (n : Fin 32)
  /-- BATCH_REG32 (R469). -/
  | batchReg32 (n : Fin 32)
  /-- BATCH_SWAP (R469). -/
  | batchSwap (n : Fin 32)
  /-- BATCH_WAIT_DRAINED (R469). -/
  | batchWaitDrained (n : Fin 32)
  /-- BATCH_WAIT_TIMEOUT (R469). -/
  | batchWaitTimeout (n : Fin 32)
  /-- BATCH_DONE (R470). -/
  | batchDone (n : Fin 32)
  /-- IRQ_FORCE (R474). -/
  | irqForce (off : Nat) (v : Word32)
  /-- MSIX_SEND (R478). -/
  | msixSend
  /-- IRQ_EOI (R478). -/
  | irqEoi (v : Word32)
  /-- MSIX_HOLDOFF_EXPIRY (R478). -/
  | msixHoldoffExpiry
  /-- MSIX_UNMASK (R478). -/
  | msixUnmask (func : Bool) (vec : Bool) (enable : Bool)
  /-- PORT_WINDOW_LATCH (R483). -/
  | portWindowLatch
  /-- PERF_FREEZE (R484). -/
  | perfFreeze (v : Word32)
  /-- PERF_UNFREEZE (R484). -/
  | perfUnfreeze (v : Word32)
  /-- PERF_SCHEDULED_ACT (R484). -/
  | perfScheduledAct
  /-- PERF_CLEAR (R487). -/
  | perfClear (v : Word32)
  /-- PERF_DUMP (R485). -/
  | perfDump
  /-- EXPORT_TAKE (R222). -/
  | exportTake (b : Fin 4)
  /-- EXPORT_ITEM_RETRY (R222). -/
  | exportItemRetry (b : Fin 4)
  /-- IPFIX_FLUSH (R223). -/
  | ipfixFlush (b : Fin 4)
  /-- IPFIX_TEMPLATE_RESEND (R223). -/
  | ipfixTemplateResend (b : Fin 4)
  /-- NPT_MAP_VALIDATE (R215). -/
  | nptMapValidate (m : Fin 64) (v : Word32)
  /-- NOSE_REQUEST_START (R232). -/
  | noseRequestStart (b : Fin 4)
  /-- NOSE_SCAN_DONE (R236). -/
  | noseScanDone (b : Fin 4) (mem : EccResult) (at_ : Nat)
  /-- NOSE_REPORT_RETRY (R244). -/
  | noseReportRetry (b : Fin 4)
  /-- NOSE_BURST_RETURN (R241). -/
  | noseBurstReturn (b : Fin 4)
  /-- NOSE_INVALIDATE (R245). -/
  | noseInvalidate (v : Word32)
  /-- NOSE_QUIESCED (R245). -/
  | noseQuiesced (g : Fin 64)
  /-- NOSE_VALIDATE (R247). -/
  | noseValidate (v : Word32)
  /-- NOSE_MEM_WRITE (R246). -/
  | noseMemWrite (v : Word32)
  /-- REFCLK_ETH_RETURN (R307). -/
  | refclkEthReturn
  /-- PCIE_LINK_UP (R454). -/
  | pcieLinkUp (rate : Fin 8) (width : Fin 32)
  /-- PUSH_HALF_CONSUMED (R32). -/
  | pushHalfConsumed
  /-- EGRESS_UNDERRUN (R16). -/
  | egressUnderrun (k : Fin 66)
  /-- FEC_UNCORR_CODEWORD (R332). -/
  | fecUncorrCodeword (p : Fin 64)
  /-- RAIL_RESET_RELEASE (R424). -/
  | railResetRelease (rail : Fin 4)
deriving DecidableEq, Repr

end Sys2Proof
end

