-- ==== Sys2Proof/Decode.lean ====
section
/-! DEFINITION. Words of the opcode table: its rows are commands without bits, so no word spells a command. -/
namespace Sys2Proof

/-- The command that a word of the table's bits spells: no row of spec/opcode_table.json gives bits, so there is none. -/
def decodeTableWord (_nbits _w : Nat) : Option Instr := none

end Sys2Proof
end

