-- ==== Sys2Proof/Config.lean ====
section
/-!
DEFINITION. What an implementation fixes and what the spec leaves open: constants without a body, so that nothing can
be proved of a value that the spec does not state (log entry 4), and the cryptographic functions that the spec names
by their standards (log entry 5).
-/
namespace Sys2Proof.Config

/-- Free values, one for each number of a free value taken. -/
opaque freeWord : Nat → Word64

/-- Ticks that the write engine takes for a replica: the tick at which an operation began and the replica (R81, R82). -/
opaque replicaDelay : Nat → Nat → Nat

/-- The 20-bit descriptor handle of a stored frame (Table 8.1, DESC). -/
opaque descHandle : Nat → BitVec 20

/-- SHA-384: digest byte i in bits [8i+7 : 8i] (R21, R25). -/
opaque sha384 : Bytes → BitVec 384

/-- The digest of the boot ROM, and the key-pair hash of the factory keys that it holds (R436, R437). -/
opaque romDigest : BitVec 384
opaque factoryHash : BitVec 384

/-- Signature checks by algorithm number: key, message digest or message, signature (chapters 02 and 18). -/
opaque sigVerify : Nat → Bytes → Bytes → Bytes → Bool

/-- Signatures by the identity key number: message to signature (chapter 18). -/
opaque sign : Nat → Word64 → Bytes → Bytes

/-- The identity public keys unwrapped from the identity blob for a device; none when the blob does not unwrap (R434). -/
opaque unwrapIdentity : Word64 → Bytes → Option Bytes

/-- The random source of the security engine: 32 bytes for each draw (R443). -/
opaque random : Nat → BitVec 256

/-- The CRC-32C of a link frame with a kind, a sequence and a payload: R321 does not lay out the header that it covers. -/
opaque linkCrc : Nat → Nat → Bytes → BitVec 32

end Sys2Proof.Config
end

