-- ==== Sys2Proof/Machine/Bits.lean ====
section
/-!
DEFINITION. Bit fields, byte orders and sparse tables: the shared helpers that every chapter's operations use.
-/
namespace Sys2Proof.Machine

/-- Bits [hi:lo] of a number. -/
def bits (v hi lo : Nat) : Nat := (v >>> lo) % 2 ^ (hi + 1 - lo)

/-- Bit i of a number. -/
def bit (v i : Nat) : Bool := v.testBit i

/-- The number with bits [hi:lo] replaced by the low bits of x. -/
def setBits (v hi lo x : Nat) : Nat :=
  v - (bits v hi lo) * 2 ^ lo + (x % 2 ^ (hi + 1 - lo)) * 2 ^ lo

/-- A Bool as a number. -/
def b2n (b : Bool) : Nat := if b then 1 else 0

/-- Set bits among the low w bits of a number. -/
def popNat (n w : Nat) : Nat := (List.range w).countP n.testBit

/-- Least of a limit and a number: a counter that holds at its limit. -/
def capAt (limit n : Nat) : Nat := if limit < n then limit else n

/-- A number taken as signed in w bits. -/
def signed (w v : Nat) : Int := if v % 2 ^ w < 2 ^ (w - 1) then ((v % 2 ^ w : Nat) : Int) else ((v % 2 ^ w : Nat) : Int) - ((2 ^ w : Nat) : Int)

/-- The w-bit two's complement of an integer. -/
def unsigned (w : Nat) (i : Int) : Nat := (i % ((2 ^ w : Nat) : Int)).toNat

/-- Byte i of a byte string; bytes past its end read as 0. -/
def byteAt (b : Bytes) (i : Nat) : Nat := (b.getD i 0).toNat

/-- A byte string as a little-endian number (R2). -/
def leNat : Bytes → Nat
  | [] => 0
  | b :: bs => b.toNat + 256 * leNat bs

/-- A byte string as a big-endian number (wire order). -/
def beNat (b : Bytes) : Nat := b.foldl (fun acc x => 256 * acc + x.toNat) 0

/-- The n low bytes of a number, lowest first. -/
def leBytes : Nat → Nat → Bytes
  | 0, _ => []
  | n + 1, v => BitVec.ofNat 8 v :: leBytes n (v / 256)

/-- The n low bytes of a number in wire order. -/
def beBytes (n v : Nat) : Bytes := (leBytes n v).reverse

/-- The n bytes from offset i; bytes past the end read as 0. -/
def slice (b : Bytes) (i n : Nat) : Bytes := (List.range n).map fun k => BitVec.ofNat 8 (byteAt b (i + k))

/-- Little-endian field of n bytes at offset i. -/
def leAt (b : Bytes) (i n : Nat) : Nat := leNat (slice b i n)

/-- Big-endian field of n bytes at offset i. -/
def beAt (b : Bytes) (i n : Nat) : Nat := beNat (slice b i n)

/-- The byte string with the bytes x written from offset i on, within its length. -/
def patch (b : Bytes) (i : Nat) (x : Bytes) : Bytes := b.take i ++ (x.take (b.length - i)) ++ b.drop (i + x.length)

/-- All bytes of a string are 0. -/
def allZero (b : Bytes) : Bool := b.all (· == 0)

/-- What a sparse table holds at a key, if it lists it. -/
def Tbl.find {α : Type} : Tbl α → Nat → Option α
  | [], _ => none
  | (k, v) :: t, i => if k = i then some v else Tbl.find t i

/-- What a sparse table reads at a key, d standing for every unlisted key. -/
def Tbl.get {α : Type} (t : Tbl α) (i : Nat) (d : α) : α := (Tbl.find t i).getD d

/-- Insertion of a pair before the first larger key. -/
def Tbl.ins {α : Type} : Tbl α → Nat → α → Tbl α
  | [], i, v => [(i, v)]
  | (k, w) :: t, i, v => if i < k then (i, v) :: (k, w) :: t else (k, w) :: Tbl.ins t i v

/-- Removal of a key. -/
def Tbl.del {α : Type} (t : Tbl α) (i : Nat) : Tbl α := t.filter fun p => p.1 ≠ i

/-- A write that lists the key whatever the value. -/
def Tbl.put {α : Type} (t : Tbl α) (i : Nat) (v : α) : Tbl α := Tbl.ins (Tbl.del t i) i v

/-- A write that keeps the table canonical over the default d: writing d removes the entry. -/
def Tbl.set {α : Type} [DecidableEq α] (t : Tbl α) (i : Nat) (d v : α) : Tbl α :=
  if v = d then Tbl.del t i else Tbl.put t i v

/-- The canonical form of a sparse table over the default d: keys strictly rising, and no entry that reads as d. -/
abbrev Tbl.wf {α : Type} [DecidableEq α] (d : α) (t : Tbl α) : Prop :=
  t.Pairwise (fun p q => p.1 < q.1) ∧ ∀ p ∈ t, p.2 ≠ d

/-- Replacement of the first element that meets a test. -/
def updFirst {α : Type} (p : α → Bool) (f : α → α) : List α → List α
  | [] => []
  | x :: xs => if p x then f x :: xs else x :: updFirst p f xs

/-- Removal of the first element that meets a test. -/
def delFirst {α : Type} (p : α → Bool) : List α → List α
  | [] => []
  | x :: xs => if p x then xs else x :: delFirst p xs

/-- Word n of a record or frame; words outside read 0. -/
def wordAt {n : Nat} (v : Vector Word64 n) (i : Nat) : Word64 := v.toList.getD i 0

/-- A record or frame with word i replaced. -/
def withWord {n : Nat} (v : Vector Word64 n) (i : Nat) (x : Word64) : Vector Word64 n := v.setIfInBounds i x

/-- Bits [hi:lo] of a 64-bit word, as a number. -/
def wbits (v : Word64) (hi lo : Nat) : Nat := bits v.toNat hi lo

/-- A 64-bit word with bits [hi:lo] replaced. -/
def setWbits (v : Word64) (hi lo x : Nat) : Word64 := BitVec.ofNat 64 (setBits v.toNat hi lo x)

end Sys2Proof.Machine
end

