-- ==== Sys2Proof/Machine/Hash.lean ====
section
/-!
DEFINITION. The hash functions of the spec: fmix and flow_hash (R58), exact_bucket (R73), ft_candidates (R124) and
CRC-32C (R169).
-/
namespace Sys2Proof.Machine

/-- fmix of R58. -/
def fmix (x : Word64) : Word64 :=
  let x := (x ^^^ (x >>> 31)) * 0x9E6C63D0676A9A99#64
  let x := (x ^^^ (x >>> 29)) * 0xB7F23A5DC1E40F2B#64
  x ^^^ (x >>> 32)

/-- Word i of a canonical key: W(1+i) of R94. -/
def keyWord (k : BitVec 320) (i : Nat) : Word64 := k.extractLsb' (64 * i) 64

/-- The flow hash of R58. -/
def flowHash (k : BitVec 320) (seed : Word64) : Word64 :=
  let h := (List.range 5).foldl (fun h i => fmix (h ^^^ keyWord k i)) (seed ^^^ 0x6A5D39C284F10B7E#64)
  fmix (h ^^^ 40#64)

/-- The home Branch of a flow hash (R59). -/
def homeOf (h : Word64) : Nat := wbits h 63 62

/-- The Till set of a flow hash (R102). -/
def tillSet (h : Word64) : Nat := wbits h 47 16 % 24576

/-- exact_bucket of R73, on the two halves of the key. -/
def exactBucket (lo hi : Word64) (tag : Nat) (second : Bool) (nb : Nat) : Nat :=
  let h := fmix (hi ^^^ fmix (lo ^^^ (BitVec.ofNat 64 tag <<< 56) ^^^ 0x3C1F7A905E2D8B64#64))
  (if second then wbits h 63 32 else wbits h 31 0) % nb

/-- Candidate slots A and B of a flow hash in a table of 2^k slots (R124). -/
def candidates (h : Word64) (k : Nat) : Nat × Nat :=
  let q := 2 ^ (k - 2)
  let a := h.toNat % q
  let b0 := (fmix (h ^^^ 0xC2B85E179D406AF3#64)).toNat % q
  let b := if b0 = a then a ^^^ 1 else b0
  (homeOf h * q + a, homeOf h * q + b)

/-- The candidate of a key other than the given slot (R125). -/
def alternate (h : Word64) (k slot : Nat) : Nat :=
  let c := candidates h k
  if slot = c.1 then c.2 else c.1

/-- One bit of the reflected CRC-32C. -/
def crcBit (c : Word32) : Word32 := if c.getLsbD 0 then (c >>> 1) ^^^ 0x82F63B78#32 else c >>> 1

/-- One byte of the reflected CRC-32C. -/
def crcByte (c : Word32) (b : Byte) : Word32 :=
  (List.range 8).foldl (fun c _ => crcBit c) (c ^^^ b.setWidth 32)

/-- CRC-32C over the 8 bytes of a word, byte 0 first, not inverted (Table 7.10). -/
def crc32c (init : Word32) (w : Word64) : Word32 :=
  (List.range 8).foldl (fun c i => crcByte c (w.extractLsb' (8 * i) 8)) init

/-- One bit of the reflected CRC-32 of IEEE 802.3. -/
def fcsBit (c : Word32) : Word32 := if c.getLsbD 0 then (c >>> 1) ^^^ 0xEDB88320#32 else c >>> 1

/-- The frame check sequence of a frame, in wire order (R266). -/
def fcsOf (b : Bytes) : Bytes :=
  let c := b.foldl (fun c x => (List.range 8).foldl (fun c _ => fcsBit c) (c ^^^ x.setWidth 32)) 0xFFFFFFFF#32
  leBytes 4 (~~~ c).toNat

end Sys2Proof.Machine
end

