-- ==== Sys2Proof/Machine/RegMap.lean ====
section
/-!
DEFINITION. The BAR0 register map: every register of the Register Index (spec/22_register_index.md, R507 to R509)
with its place, its scope, its fields, their types (Table 0.3 of spec/00_scope.md) and its reset value, transcribed
from the register tables of chapters 01 to 20. Fields whose Reset column reads CH or UND, and the fuse fields, stand
here with reset 0 (log entry 3).
-/
namespace Sys2Proof.Machine

/-- The field types of Table 0.3 (R4). -/
inductive FieldType | rw | ro | w1c | w1s | wo | rc | rwl
deriving DecidableEq, Repr

/-- One field of a register: its bit range, its type and its name in the spec. -/
structure RegField where
  hi : Nat
  lo : Nat
  ty : FieldType
  name : String
deriving DecidableEq, Repr

/-- How the instances of a register relate (R79, R122, R251): one per instance, written at B0 and replicated to every
Branch, or existing at B0 alone. -/
inductive Scope | per | repl | b0
deriving DecidableEq, Repr

/-- The blocks of Table 22.1. -/
inductive Block
  | top | sec | treas | time | perf | sill | dma | port | lane | teth | assay | sieve | disp | tell | till | vault | vaultCh | audit | nose | mint | swc | tm | egr | dispo
deriving DecidableEq, Repr

/-- One row of the register map: a register, or an array of registers with the given strides and counts. -/
structure RegRow where
  name : String
  off : Nat
  dims : List (Nat × Nat)
  scope : Scope
  reset : Nat
  fields : List RegField
deriving DecidableEq, Repr

/-- Registers of the TOP block (chapter 20 and 02). -/
def rowsTop : List RegRow := [
  ⟨"TOP_ID", 0x0, [], .per, 0x0, [⟨31, 24, .ro, "BLOCK"⟩, ⟨23, 16, .ro, "INSTANCE"⟩, ⟨7, 0, .ro, "STEPPING"⟩]⟩,
  ⟨"TOP_IRQ_CAUSE", 0x10, [], .per, 0x0, [⟨4, 4, .w1c, "LOAD_REFUSED"⟩, ⟨3, 3, .w1c, "WAIT_PUSH"⟩, ⟨2, 2, .w1c, "PUSH_FREE"⟩, ⟨1, 1, .w1c, "CHARTER_FAIL"⟩, ⟨0, 0, .w1c, "CHARTER_RUN"⟩]⟩,
  ⟨"TOP_IRQ_MASK", 0x14, [], .per, 0x0, [⟨31, 0, .rw, "MASK"⟩]⟩,
  ⟨"TOP_IRQ_FORCE", 0x18, [], .per, 0x0, [⟨31, 0, .wo, "FORCE"⟩]⟩,
  ⟨"TOP_IRQ_SUB", 0x1C, [], .per, 0x0, [⟨31, 0, .ro, "SUB"⟩]⟩,
  ⟨"TOP_IRQ_SUMMARY", 0x40, [], .per, 0x0, [⟨22, 0, .ro, "BLOCKS"⟩]⟩,
  ⟨"TOP_IRQ_SUM_MASK", 0x44, [], .per, 0x7FFFFF, [⟨22, 0, .rw, "BLOCKS"⟩]⟩,
  ⟨"TOP_IRQ_CTRL", 0x48, [], .per, 0x0, [⟨31, 31, .rw, "PIN_EN"⟩, ⟨30, 30, .rw, "MSIX_EN"⟩, ⟨15, 0, .rw, "HOLDOFF_US"⟩]⟩,
  ⟨"TOP_IRQ_EOI", 0x4C, [], .per, 0x0, [⟨0, 0, .wo, "EOI"⟩]⟩,
  ⟨"TOP_IRQ_INST_PORT_LO", 0x50, [], .per, 0x0, [⟨31, 0, .ro, "INST"⟩]⟩,
  ⟨"TOP_IRQ_INST_PORT_HI", 0x54, [], .per, 0x0, [⟨31, 0, .ro, "INST"⟩]⟩,
  ⟨"TOP_IRQ_INST_LANE_LO", 0x58, [], .per, 0x0, [⟨31, 0, .ro, "INST"⟩]⟩,
  ⟨"TOP_IRQ_INST_LANE_HI", 0x5C, [], .per, 0x0, [⟨31, 0, .ro, "INST"⟩]⟩,
  ⟨"TOP_IRQ_INST_TELL", 0x60, [], .per, 0x0, [⟨15, 0, .ro, "DESKS"⟩]⟩,
  ⟨"TOP_IRQ_INST_BRANCH", 0x64, [], .per, 0x0, [⟨19, 0, .ro, "BRANCHES"⟩]⟩,
  ⟨"TOP_IRQ_STATUS", 0x68, [], .per, 0x0, [⟨2, 2, .ro, "LEVEL"⟩, ⟨1, 1, .ro, "AWAIT_EOI"⟩, ⟨0, 0, .ro, "PIN"⟩]⟩,
  ⟨"TOP_COFFER_IRQ_CAUSE", 0x80, [], .per, 0x0, [⟨1, 1, .w1c, "ALIAS_BAD"⟩, ⟨0, 0, .w1c, "ACCESS_OFF"⟩]⟩,
  ⟨"TOP_COFFER_IRQ_MASK", 0x84, [], .per, 0x0, [⟨1, 0, .rw, "MASK"⟩]⟩,
  ⟨"TOP_COFFER_IRQ_FORCE", 0x88, [], .per, 0x0, [⟨1, 0, .wo, "FORCE"⟩]⟩,
  ⟨"TOP_CHARTER_CTRL", 0x200, [], .per, 0x100, [⟨8, 8, .rw, "KEEP_LINKS"⟩, ⟨4, 4, .wo, "ABORT"⟩, ⟨3, 3, .w1s, "LOCK"⟩, ⟨1, 1, .wo, "START_FLASH"⟩, ⟨0, 0, .wo, "START_PUSH"⟩]⟩,
  ⟨"TOP_CHARTER_STATUS", 0x204, [], .per, 0xC000, [⟨31, 24, .ro, "SECTIONS_DONE"⟩, ⟨15, 15, .ro, "PUSH_FREE1"⟩, ⟨14, 14, .ro, "PUSH_FREE0"⟩, ⟨13, 13, .ro, "VAULT_KEPT"⟩, ⟨12, 12, .ro, "LOCKED"⟩, ⟨9, 8, .ro, "SOURCE"⟩, ⟨3, 0, .ro, "STATE"⟩]⟩,
  ⟨"TOP_CHARTER_ERR", 0x208, [], .per, 0xFF00, [⟨15, 8, .ro, "SECTION"⟩, ⟨7, 0, .ro, "CODE"⟩]⟩,
  ⟨"TOP_CHARTER_PUSH_OFF", 0x20C, [], .per, 0x0, [⟨25, 0, .rw, "OFFSET"⟩]⟩,
  ⟨"TOP_CHARTER_PUSH_LEN", 0x210, [], .per, 0x0, [⟨24, 24, .rw, "HALF"⟩, ⟨20, 0, .wo, "LENGTH"⟩]⟩,
  ⟨"TOP_CHARTER_DRAIN_TMO", 0x214, [], .per, 0x2710, [⟨15, 0, .rw, "TIMEOUT_US"⟩]⟩,
  ⟨"TOP_CHARTER_SVN", 0x218, [], .per, 0x0, [⟨31, 0, .ro, "SVN"⟩]⟩,
  ⟨"TOP_CHARTER_DISCARD_CNT", 0x21C, [], .per, 0x0, [⟨31, 0, .rc, "FRAMES"⟩]⟩,
  ⟨"TOP_CHARTER_LOCKABORT_CNT", 0x220, [], .per, 0x0, [⟨31, 0, .rc, "RECORDS"⟩]⟩,
  ⟨"TOP_CHARTER_MDIGEST", 0x240, [(4, 12)], .per, 0x0, [⟨31, 0, .ro, "DIGEST"⟩]⟩,
  ⟨"TOP_CHARTER_IMAGE_ID", 0x280, [(4, 8)], .per, 0x0, [⟨31, 0, .ro, "ID"⟩]⟩]

/-- Registers of the SEC block (chapter 18). -/
def rowsSec : List RegRow := [
  ⟨"SEC_ID", 0x0, [], .per, 0x0, [⟨31, 24, .ro, "BLOCK"⟩, ⟨23, 16, .ro, "INSTANCE"⟩, ⟨7, 0, .ro, "STEPPING"⟩]⟩,
  ⟨"SEC_IRQ_CAUSE", 0x10, [], .per, 0x0, [⟨7, 7, .w1c, "FACTORY_IGNORED"⟩, ⟨6, 6, .w1c, "FUSE_FAIL"⟩, ⟨5, 5, .w1c, "ID_BAD"⟩, ⟨4, 4, .w1c, "DEBUG_OPEN"⟩, ⟨3, 3, .w1c, "LIFECYCLE"⟩, ⟨2, 2, .w1c, "CMD_REFUSED"⟩, ⟨1, 1, .w1c, "SMB_DONE"⟩, ⟨0, 0, .w1c, "MBOX_DONE"⟩]⟩,
  ⟨"SEC_IRQ_MASK", 0x14, [], .per, 0x0, [⟨31, 0, .rw, "MASK"⟩]⟩,
  ⟨"SEC_IRQ_FORCE", 0x18, [], .per, 0x0, [⟨31, 0, .wo, "FORCE"⟩]⟩,
  ⟨"SEC_IRQ_SUB", 0x1C, [], .per, 0x0, [⟨31, 0, .ro, "SUB"⟩]⟩,
  ⟨"SEC_MBOX_CMD", 0x100, [], .per, 0x0, [⟨31, 31, .wo, "GO"⟩, ⟨2, 0, .rw, "OP"⟩]⟩,
  ⟨"SEC_MBOX_STATUS", 0x104, [], .per, 0x0, [⟨31, 31, .ro, "BUSY"⟩, ⟨30, 30, .ro, "QUEUED"⟩, ⟨23, 8, .ro, "OUT_LEN"⟩, ⟨3, 0, .ro, "RESULT"⟩]⟩,
  ⟨"SEC_MBOX_LEN", 0x108, [], .per, 0x0, [⟨14, 0, .rw, "LEN"⟩]⟩,
  ⟨"SEC_LIFECYCLE", 0x10C, [], .per, 0x0, [⟨1, 0, .ro, "STATE"⟩]⟩,
  ⟨"SEC_DEVICE_ID_LO", 0x110, [], .per, 0x0, [⟨31, 0, .ro, "ID"⟩]⟩,
  ⟨"SEC_DEVICE_ID_HI", 0x114, [], .per, 0x0, [⟨31, 0, .ro, "ID"⟩]⟩,
  ⟨"SEC_FUSE_CFG", 0x118, [], .per, 0x0, [⟨19, 19, .ro, "ID_DESTROYED"⟩, ⟨18, 18, .ro, "ID_PRESENT"⟩, ⟨17, 10, .ro, "SVN_FLOOR"⟩, ⟨9, 6, .ro, "REVOKED"⟩, ⟨5, 2, .ro, "PROGRAMMED"⟩, ⟨1, 0, .ro, "LIFECYCLE"⟩]⟩,
  ⟨"SEC_SLOT_STATUS", 0x11C, [], .per, 0xF, [⟨3, 0, .ro, "ACTIVE"⟩]⟩,
  ⟨"SEC_STATUS", 0x120, [], .per, 0x0, [⟨0, 0, .ro, "ID_BAD"⟩]⟩,
  ⟨"SEC_DEBUG", 0x124, [], .per, 0x0, [⟨0, 0, .ro, "OPEN"⟩]⟩,
  ⟨"SEC_BOOT_STATUS", 0x128, [], .per, 0x0, [⟨6, 6, .ro, "IGNORED"⟩, ⟨5, 4, .ro, "BOOT_SEL"⟩, ⟨2, 0, .ro, "STEP"⟩]⟩,
  ⟨"SEC_ROM_DIGEST", 0x140, [(4, 12)], .per, 0x0, [⟨31, 0, .ro, "DIGEST"⟩]⟩,
  ⟨"SEC_CHALLENGE", 0x180, [(4, 8)], .per, 0x0, [⟨31, 0, .ro, "CHALLENGE"⟩]⟩,
  ⟨"SEC_MBOX_BUF", 0x8000, [(4, 8192)], .per, 0x0, [⟨31, 0, .rw, "DATA"⟩]⟩]

/-- Registers of the TREAS block (chapter 01 and 17), part 1. -/
def rowsTreas0 : List RegRow := [
  ⟨"TREAS_ID", 0x0, [], .per, 0x0, [⟨31, 24, .ro, "BLOCK"⟩, ⟨23, 16, .ro, "INSTANCE"⟩, ⟨7, 0, .ro, "STEPPING"⟩]⟩,
  ⟨"TREAS_IRQ_CAUSE", 0x10, [], .per, 0x0, [⟨10, 10, .w1c, "DOMAIN_REFUSED"⟩, ⟨9, 9, .w1c, "PSTATE_REFUSED"⟩, ⟨8, 8, .w1c, "QUIET_STALL"⟩, ⟨7, 7, .w1c, "THERM_TRIP"⟩, ⟨6, 6, .w1c, "THERM_HOT"⟩, ⟨5, 5, .w1c, "THERM_WARN"⟩, ⟨4, 4, .w1c, "VRM_FAIL"⟩, ⟨3, 3, .w1c, "AVS_LIMIT"⟩, ⟨2, 2, .w1c, "BROWN"⟩, ⟨1, 1, .w1c, "PACE_FLOOR"⟩, ⟨0, 0, .w1c, "REFUSED"⟩]⟩,
  ⟨"TREAS_IRQ_MASK", 0x14, [], .per, 0x0, [⟨31, 0, .rw, "MASK"⟩]⟩,
  ⟨"TREAS_IRQ_FORCE", 0x18, [], .per, 0x0, [⟨31, 0, .wo, "FORCE"⟩]⟩,
  ⟨"TREAS_IRQ_SUB", 0x1C, [], .per, 0x0, [⟨31, 0, .ro, "SUB"⟩]⟩,
  ⟨"TREAS_PACE_STATUS", 0x100, [(4, 4)], .per, 0x0, [⟨31, 31, .ro, "BELOW_FLOOR"⟩, ⟨30, 30, .ro, "BELOW_TARGET"⟩, ⟨29, 29, .ro, "VALID"⟩, ⟨23, 0, .ro, "MARGIN_PPM"⟩]⟩,
  ⟨"TREAS_PACE_VIOL_CNT", 0x110, [(4, 4)], .per, 0x0, [⟨31, 0, .rc, "INTERVALS"⟩]⟩,
  ⟨"TREAS_STATE", 0x120, [], .per, 0x0, [⟨15, 15, .ro, "BUSY"⟩, ⟨11, 8, .ro, "STEP"⟩, ⟨1, 0, .ro, "PSTATE"⟩]⟩,
  ⟨"TREAS_PSTATE_CMD", 0x124, [], .per, 0x1, [⟨31, 31, .wo, "GO"⟩, ⟨1, 0, .rw, "TARGET"⟩]⟩,
  ⟨"TREAS_DOMAIN_REQ", 0x128, [], .per, 0x200, [⟨31, 31, .wo, "GO"⟩, ⟨9, 8, .rw, "STATE"⟩, ⟨4, 0, .rw, "DOMAIN"⟩]⟩,
  ⟨"TREAS_DOMAIN_STATE0", 0x130, [], .per, 0x2, [⟨31, 0, .ro, "STATES"⟩]⟩,
  ⟨"TREAS_DOMAIN_STATE1", 0x134, [], .per, 0x0, [⟨27, 0, .ro, "STATES"⟩]⟩,
  ⟨"TREAS_RAMP", 0x138, [], .per, 0x32, [⟨15, 0, .rw, "US"⟩]⟩,
  ⟨"TREAS_QUIET_TMO", 0x13C, [], .per, 0x2710, [⟨31, 0, .rw, "US"⟩]⟩,
  ⟨"TREAS_BUDGET_CFG", 0x140, [], .per, 0x280, [⟨9, 0, .rwl, "LIMIT_QA"⟩]⟩,
  ⟨"TREAS_BUDGET_STATUS", 0x144, [], .per, 0x0, [⟨25, 16, .ro, "GRANTED_QA"⟩, ⟨9, 0, .ro, "RESERVE_QA"⟩]⟩,
  ⟨"TREAS_SLEW_CFG", 0x148, [], .per, 0x1, [⟨0, 0, .rwl, "BALLAST_EN"⟩]⟩,
  ⟨"TREAS_AVS_CFG", 0x160, [], .per, 0x853202A8, [⟨31, 31, .rw, "AVS_EN"⟩, ⟨30, 30, .wo, "RESTART"⟩, ⟨29, 24, .rw, "STEP_MV"⟩, ⟨23, 12, .rwl, "VMAX_MV"⟩, ⟨11, 0, .rwl, "VMIN_MV"⟩]⟩,
  ⟨"TREAS_AVS_STATUS", 0x164, [], .per, 0x2EE, [⟨27, 16, .ro, "IOUT_QA"⟩, ⟨11, 0, .ro, "VOUT_MV"⟩]⟩,
  ⟨"TREAS_VRM_CFG", 0x168, [], .per, 0x140, [⟨8, 8, .rwl, "PEC"⟩, ⟨6, 0, .rwl, "ADDR"⟩]⟩,
  ⟨"TREAS_BROWN_CFG", 0x170, [], .per, 0x5064280, [⟨31, 24, .rw, "SR_MS"⟩, ⟨23, 12, .rw, "RECOVER_US"⟩, ⟨11, 0, .rw, "WARN_MV"⟩]⟩,
  ⟨"TREAS_BROWN_STATUS", 0x174, [], .per, 0x0, [⟨15, 15, .ro, "PWRWARN"⟩, ⟨14, 3, .ro, "VDD_MV"⟩, ⟨1, 0, .ro, "STATE"⟩]⟩,
  ⟨"TREAS_RESET_CAUSE", 0x178, [], .per, 0x0, [⟨4, 4, .w1c, "OFF_CMD"⟩, ⟨3, 3, .w1c, "TRIP"⟩, ⟨2, 2, .w1c, "RAIL"⟩, ⟨1, 1, .w1c, "CORE_LOW"⟩, ⟨0, 0, .w1c, "PIN"⟩]⟩,
  ⟨"TREAS_SMB_CFG", 0x17C, [], .per, 0x0, [⟨0, 0, .rwl, "PSTATE_EN"⟩]⟩,
  ⟨"TREAS_USER_NOSE", 0x180, [(4, 4)], .per, 0x10, [⟨31, 30, .ro, "STATE"⟩, ⟨23, 16, .ro, "GRANT_QA"⟩, ⟨7, 0, .ro, "AMOUNT_QA"⟩]⟩,
  ⟨"TREAS_USER_RECIRC", 0x190, [(4, 4)], .per, 0x8, [⟨31, 30, .ro, "STATE"⟩, ⟨23, 16, .ro, "GRANT_QA"⟩, ⟨7, 0, .rw, "AMOUNT_QA"⟩]⟩,
  ⟨"TREAS_USER_MIGR", 0x1A0, [], .per, 0x8, [⟨31, 30, .ro, "STATE"⟩, ⟨23, 16, .ro, "GRANT_QA"⟩, ⟨7, 0, .rw, "AMOUNT_QA"⟩]⟩,
  ⟨"TREAS_USER_AUDIT", 0x1A4, [], .per, 0x2, [⟨31, 30, .ro, "STATE"⟩, ⟨23, 16, .ro, "GRANT_QA"⟩, ⟨7, 0, .rw, "AMOUNT_QA"⟩]⟩,
  ⟨"TREAS_USER_DOMAIN", 0x1A8, [], .per, 0x0, [⟨31, 30, .ro, "STATE"⟩, ⟨23, 16, .ro, "GRANT_QA"⟩, ⟨7, 0, .ro, "AMOUNT_QA"⟩]⟩,
  ⟨"TREAS_TEMP", 0x200, [(4, 16)], .per, 0x0, [⟨31, 31, .ro, "VALID"⟩, ⟨15, 0, .ro, "TEMP"⟩]⟩]

/-- Registers of the TREAS block (chapter 01 and 17), part 2. -/
def rowsTreas1 : List RegRow := [
  ⟨"TREAS_THERM_CFG", 0x240, [], .per, 0x7364, [⟨15, 8, .rwl, "TRIP_C"⟩, ⟨7, 0, .rw, "WARN_C"⟩]⟩,
  ⟨"TREAS_BROWN_CNT", 0x280, [], .per, 0x0, [⟨31, 0, .rc, "COUNT"⟩]⟩,
  ⟨"TREAS_REFUSE_CNT", 0x284, [], .per, 0x0, [⟨31, 0, .rc, "COUNT"⟩]⟩,
  ⟨"TREAS_REVOKE_CNT", 0x288, [], .per, 0x0, [⟨31, 0, .rc, "COUNT"⟩]⟩,
  ⟨"TREAS_AVS_STEP_CNT", 0x28C, [], .per, 0x0, [⟨31, 0, .rc, "COUNT"⟩]⟩]

/-- Every register of the TREAS block. -/
def rowsTreas : List RegRow := rowsTreas0 ++ rowsTreas1

/-- Registers of the TIME block (chapter 14), part 1. -/
def rowsTime0 : List RegRow := [
  ⟨"TIME_ID", 0x0, [], .per, 0x0, [⟨31, 24, .ro, "BLOCK"⟩, ⟨23, 16, .ro, "INSTANCE"⟩, ⟨7, 0, .ro, "STEPPING"⟩]⟩,
  ⟨"TIME_IRQ_CAUSE", 0x10, [], .per, 0x0, [⟨5, 5, .w1c, "FOLLOW_STEP"⟩, ⟨4, 4, .w1c, "TS2_OVF"⟩, ⟨3, 3, .w1c, "CAP_OVF"⟩, ⟨2, 2, .w1c, "TRIG_MISSED"⟩, ⟨1, 1, .w1c, "REF_LOST"⟩, ⟨0, 0, .w1c, "STEP_DONE"⟩]⟩,
  ⟨"TIME_IRQ_MASK", 0x14, [], .per, 0x0, [⟨31, 0, .rw, "MASK"⟩]⟩,
  ⟨"TIME_IRQ_FORCE", 0x18, [], .per, 0x0, [⟨31, 0, .wo, "FORCE"⟩]⟩,
  ⟨"TIME_IRQ_SUB", 0x1C, [], .per, 0x0, [⟨31, 0, .ro, "SUB"⟩]⟩,
  ⟨"TIME_CTRL", 0x100, [], .per, 0x0, [⟨8, 8, .rw, "FOLLOW"⟩, ⟨1, 1, .wo, "APPLY"⟩, ⟨0, 0, .wo, "SNAP"⟩]⟩,
  ⟨"TIME_STATUS", 0x104, [], .per, 0x0, [⟨1, 1, .ro, "OFFSET_BUSY"⟩, ⟨0, 0, .ro, "REF_LOST"⟩]⟩,
  ⟨"TIME_INCR_LO", 0x108, [], .per, 0x0, [⟨31, 0, .rw, "INCR"⟩]⟩,
  ⟨"TIME_INCR_HI", 0x10C, [], .per, 0x1, [⟨31, 0, .rw, "INCR"⟩]⟩,
  ⟨"TIME_OFFSET_LO", 0x110, [], .per, 0x0, [⟨31, 0, .rw, "OFFSET"⟩]⟩,
  ⟨"TIME_OFFSET_HI", 0x114, [], .per, 0x0, [⟨31, 0, .rw, "OFFSET"⟩]⟩,
  ⟨"TIME_FOLLOW_THR", 0x118, [], .per, 0x14, [⟨31, 0, .rw, "NS"⟩]⟩,
  ⟨"TIME_SNAP_SEC_LO", 0x120, [], .per, 0x0, [⟨31, 0, .ro, "SEC"⟩]⟩,
  ⟨"TIME_SNAP_SEC_HI", 0x124, [], .per, 0x0, [⟨31, 0, .ro, "SEC"⟩]⟩,
  ⟨"TIME_SNAP_NS", 0x128, [], .per, 0x0, [⟨29, 0, .ro, "NS"⟩]⟩,
  ⟨"TIME_SNAP_FRAC", 0x12C, [], .per, 0x0, [⟨15, 0, .ro, "FRAC"⟩]⟩,
  ⟨"TIME_PPS_CFG", 0x130, [], .per, 0x64, [⟨31, 31, .rw, "EN"⟩, ⟨9, 0, .rw, "WIDTH_MS"⟩]⟩,
  ⟨"TIME_TRIG_CTRL", 0x140, [(32, 8)], .per, 0x0, [⟨31, 31, .rw, "EN"⟩, ⟨30, 30, .rw, "POL"⟩]⟩,
  ⟨"TIME_TRIG_START_SEC_LO", 0x144, [(32, 8)], .per, 0x0, [⟨31, 0, .rw, "START_SEC"⟩]⟩,
  ⟨"TIME_TRIG_START_SEC_HI", 0x148, [(32, 8)], .per, 0x0, [⟨31, 0, .rw, "START_SEC"⟩]⟩,
  ⟨"TIME_TRIG_START_NS", 0x14C, [(32, 8)], .per, 0x0, [⟨29, 0, .rw, "START_NS"⟩]⟩,
  ⟨"TIME_TRIG_PERIOD_NS", 0x150, [(32, 8)], .per, 0x0, [⟨31, 0, .rw, "PERIOD_NS"⟩]⟩,
  ⟨"TIME_TRIG_WIDTH_NS", 0x154, [(32, 8)], .per, 0x64, [⟨31, 0, .rw, "WIDTH_NS"⟩]⟩,
  ⟨"TIME_TRIG_MISSED_CNT", 0x158, [(32, 8)], .per, 0x0, [⟨31, 0, .rc, "MISSED_CNT"⟩]⟩,
  ⟨"TIME_CAP_CTRL", 0x240, [(16, 9)], .per, 0x0, [⟨31, 31, .rw, "TRACE"⟩, ⟨29, 24, .rc, "OVF_CNT"⟩, ⟨20, 16, .ro, "COUNT"⟩, ⟨1, 0, .rw, "EDGE"⟩]⟩,
  ⟨"TIME_CAP_HEAD_NS", 0x244, [(16, 9)], .per, 0x0, [⟨31, 31, .ro, "VALID"⟩, ⟨30, 30, .ro, "RISING"⟩, ⟨29, 0, .ro, "NS"⟩]⟩,
  ⟨"TIME_CAP_HEAD_SEC", 0x248, [(16, 9)], .per, 0x0, [⟨31, 0, .ro, "SEC"⟩]⟩,
  ⟨"TIME_CAP_POP", 0x24C, [(16, 9)], .per, 0x0, [⟨0, 0, .wo, "POP"⟩]⟩,
  ⟨"TIME_TS2_STATUS", 0x300, [], .per, 0x0, [⟨6, 0, .ro, "COUNT"⟩]⟩,
  ⟨"TIME_TS2_INFO", 0x304, [], .per, 0x0, [⟨31, 16, .ro, "SEQ_ID"⟩, ⟨11, 8, .ro, "MSG_TYPE"⟩, ⟨5, 0, .ro, "PORT"⟩]⟩]

/-- Registers of the TIME block (chapter 14), part 2. -/
def rowsTime1 : List RegRow := [
  ⟨"TIME_TS2_NS", 0x308, [], .per, 0x0, [⟨29, 0, .ro, "NS"⟩]⟩,
  ⟨"TIME_TS2_SEC", 0x30C, [], .per, 0x0, [⟨31, 0, .ro, "SEC"⟩]⟩,
  ⟨"TIME_TS2_FRAC", 0x310, [], .per, 0x0, [⟨15, 0, .ro, "FRAC"⟩]⟩,
  ⟨"TIME_TS2_POP", 0x314, [], .per, 0x0, [⟨0, 0, .wo, "POP"⟩]⟩,
  ⟨"TIME_TS2_LOST_CNT", 0x318, [], .per, 0x0, [⟨31, 0, .rc, "COUNT"⟩]⟩,
  ⟨"TIME_PORT_RX_ADJ", 0x400, [(8, 64)], .per, 0x0, [⟨31, 0, .rw, "ADJ"⟩]⟩,
  ⟨"TIME_PORT_TX_ADJ", 0x404, [(8, 64)], .per, 0x0, [⟨31, 0, .rw, "ADJ"⟩]⟩]

/-- Every register of the TIME block. -/
def rowsTime : List RegRow := rowsTime0 ++ rowsTime1

/-- Registers of the PERF block (chapter 20). -/
def rowsPerf : List RegRow := [
  ⟨"PERF_ID", 0x0, [], .per, 0x0, [⟨31, 24, .ro, "BLOCK"⟩, ⟨23, 16, .ro, "INSTANCE"⟩, ⟨7, 0, .ro, "STEPPING"⟩]⟩,
  ⟨"PERF_IRQ_CAUSE", 0x10, [], .per, 0x0, [⟨2, 2, .w1c, "FROZEN"⟩, ⟨1, 1, .w1c, "DUMP_SKIP"⟩, ⟨0, 0, .w1c, "OVF"⟩]⟩,
  ⟨"PERF_IRQ_MASK", 0x14, [], .per, 0x0, [⟨31, 0, .rw, "MASK"⟩]⟩,
  ⟨"PERF_IRQ_FORCE", 0x18, [], .per, 0x0, [⟨31, 0, .wo, "FORCE"⟩]⟩,
  ⟨"PERF_IRQ_SUB", 0x1C, [], .per, 0x0, [⟨31, 0, .ro, "SUB"⟩]⟩,
  ⟨"PERF_CTRL", 0x100, [], .per, 0x0, [⟨31, 31, .rwl, "USER_EN"⟩, ⟨0, 0, .wo, "CLEAR"⟩]⟩,
  ⟨"PERF_FREEZE_CTRL", 0x104, [], .per, 0x0, [⟨2, 2, .rw, "AT"⟩, ⟨1, 1, .wo, "UNFREEZE"⟩, ⟨0, 0, .wo, "FREEZE"⟩]⟩,
  ⟨"PERF_FREEZE_STATUS", 0x108, [], .per, 0x0, [⟨1, 1, .ro, "PENDING"⟩, ⟨0, 0, .ro, "FROZEN"⟩]⟩,
  ⟨"PERF_FREEZE_AT_SEC_LO", 0x10C, [], .per, 0x0, [⟨31, 0, .rw, "SEC"⟩]⟩,
  ⟨"PERF_FREEZE_AT_SEC_HI", 0x110, [], .per, 0x0, [⟨31, 0, .rw, "SEC"⟩]⟩,
  ⟨"PERF_FREEZE_AT_NS", 0x114, [], .per, 0x0, [⟨29, 0, .rw, "NS"⟩]⟩,
  ⟨"PERF_FROZEN_SEC", 0x118, [], .per, 0x0, [⟨31, 0, .ro, "SEC"⟩]⟩,
  ⟨"PERF_FROZEN_NS", 0x11C, [], .per, 0x0, [⟨29, 0, .ro, "NS"⟩]⟩,
  ⟨"PERF_WIN_CFG", 0x120, [], .per, 0x3E8, [⟨23, 0, .rw, "LEN_US"⟩]⟩,
  ⟨"PERF_DUMP_CFG", 0x124, [], .per, 0x303E8, [⟨31, 31, .rw, "EN"⟩, ⟨27, 24, .rw, "RING"⟩, ⟨18, 16, .rw, "CONTENT"⟩, ⟨13, 0, .rw, "PERIOD_MS"⟩]⟩,
  ⟨"PERF_DUMP_SEQ", 0x128, [], .per, 0x0, [⟨31, 0, .ro, "SEQ"⟩]⟩,
  ⟨"PERF_DUMP_SKIP_CNT", 0x12C, [], .per, 0x0, [⟨31, 0, .rc, "COUNT"⟩]⟩,
  ⟨"PERF_TICK_LO", 0x1000, [(128, 45)], .per, 0x0, [⟨31, 0, .ro, "TICK"⟩]⟩,
  ⟨"PERF_TICK_HI", 0x1004, [(128, 45)], .per, 0x0, [⟨31, 0, .ro, "TICK"⟩]⟩,
  ⟨"PERF_UNIT_CTRL", 0x1008, [(128, 45)], .per, 0x0, [⟨7, 0, .w1c, "OVF"⟩]⟩,
  ⟨"PERF_EVT_SEL", 0x1020, [(128, 45), (4, 8)], .per, 0x0, [⟨31, 31, .rw, "OVF_IRQ"⟩, ⟨7, 0, .rw, "EVENT"⟩]⟩,
  ⟨"PERF_CNT_LO", 0x1040, [(128, 45), (8, 8)], .per, 0x0, [⟨31, 0, .rw, "CNT_LO"⟩]⟩,
  ⟨"PERF_CNT_HI", 0x1044, [(128, 45), (8, 8)], .per, 0x0, [⟨15, 0, .rw, "CNT_HI"⟩]⟩]

/-- Registers of the SILL block (chapter 14). -/
def rowsSill : List RegRow := [
  ⟨"SILL_ID", 0x0, [], .per, 0x0, [⟨31, 24, .ro, "BLOCK"⟩, ⟨23, 16, .ro, "INSTANCE"⟩, ⟨7, 0, .ro, "STEPPING"⟩]⟩,
  ⟨"SILL_IRQ_CAUSE", 0x10, [], .per, 0x0, [⟨1, 1, .w1c, "HALF_FULL"⟩, ⟨0, 0, .w1c, "LOST"⟩]⟩,
  ⟨"SILL_IRQ_MASK", 0x14, [], .per, 0x0, [⟨31, 0, .rw, "MASK"⟩]⟩,
  ⟨"SILL_IRQ_FORCE", 0x18, [], .per, 0x0, [⟨31, 0, .wo, "FORCE"⟩]⟩,
  ⟨"SILL_IRQ_SUB", 0x1C, [], .per, 0x0, [⟨31, 0, .ro, "SUB"⟩]⟩,
  ⟨"SILL_CFG", 0x100, [], .per, 0x0, [⟨31, 31, .rw, "EN"⟩, ⟨3, 0, .rw, "RING"⟩]⟩,
  ⟨"SILL_STATUS", 0x104, [], .per, 0x0, [⟨12, 0, .ro, "DEPTH"⟩]⟩,
  ⟨"SILL_DISP_CFG", 0x108, [], .per, 0xFFFF, [⟨31, 31, .rw, "EN"⟩, ⟨30, 30, .rw, "DROPS_ONLY"⟩, ⟨23, 0, .rw, "N_M1"⟩]⟩,
  ⟨"SILL_RECORD_CNT_LO", 0x110, [], .per, 0x0, [⟨31, 0, .ro, "COUNT"⟩]⟩,
  ⟨"SILL_RECORD_CNT_HI", 0x114, [], .per, 0x0, [⟨31, 0, .ro, "COUNT"⟩]⟩,
  ⟨"SILL_LOST_CNT", 0x118, [], .per, 0x0, [⟨31, 0, .rc, "LOST"⟩]⟩,
  ⟨"SILL_KIND_MASK", 0x140, [(4, 8)], .per, 0x0, [⟨31, 0, .rw, "MASK"⟩]⟩]

/-- Registers of the DMA block (chapter 19). -/
def rowsDma : List RegRow := [
  ⟨"DMA_ID", 0x0, [], .per, 0x0, [⟨31, 24, .ro, "BLOCK"⟩, ⟨23, 16, .ro, "INSTANCE"⟩, ⟨7, 0, .ro, "STEPPING"⟩]⟩,
  ⟨"DMA_IRQ_CAUSE", 0x10, [], .per, 0x0, [⟨3, 3, .w1c, "STARVED"⟩, ⟨2, 2, .w1c, "INJECT_BAD"⟩, ⟨1, 1, .w1c, "BATCH_ERR"⟩, ⟨0, 0, .w1c, "RING_ERR"⟩]⟩,
  ⟨"DMA_IRQ_MASK", 0x14, [], .per, 0x0, [⟨31, 0, .rw, "MASK"⟩]⟩,
  ⟨"DMA_IRQ_FORCE", 0x18, [], .per, 0x0, [⟨31, 0, .wo, "FORCE"⟩]⟩,
  ⟨"DMA_IRQ_SUB", 0x1C, [], .per, 0x0, [⟨31, 0, .ro, "SUB"⟩]⟩,
  ⟨"DMA_RING_BASE_LO", 0x1000, [(64, 32)], .per, 0x0, [⟨31, 0, .rw, "BASE"⟩]⟩,
  ⟨"DMA_RING_BASE_HI", 0x1004, [(64, 32)], .per, 0x0, [⟨31, 0, .rw, "BASE"⟩]⟩,
  ⟨"DMA_RING_CFG", 0x1008, [(64, 32)], .per, 0x60100, [⟨31, 31, .rw, "EN"⟩, ⟨24, 24, .rw, "TYPE"⟩, ⟨19, 16, .rw, "SIZE_LOG2"⟩, ⟨15, 8, .rw, "FLUSH_US"⟩, ⟨1, 1, .rw, "HEAD_WB_EN"⟩, ⟨0, 0, .rw, "IRQ_EN"⟩]⟩,
  ⟨"DMA_RING_HEAD", 0x100C, [(64, 32)], .per, 0x0, [⟨15, 0, .ro, "INDEX"⟩]⟩,
  ⟨"DMA_RING_TAIL", 0x1010, [(64, 32)], .per, 0x0, [⟨15, 0, .rw, "INDEX"⟩]⟩,
  ⟨"DMA_RING_STATUS", 0x1014, [(64, 32)], .per, 0x80000000, [⟨31, 31, .ro, "IDLE"⟩, ⟨30, 30, .ro, "ERR"⟩, ⟨29, 28, .ro, "ERR_CODE"⟩, ⟨0, 0, .w1c, "DONE_PEND"⟩]⟩,
  ⟨"DMA_RING_HWB_LO", 0x1018, [(64, 32)], .per, 0x0, [⟨31, 0, .rw, "ADDR"⟩]⟩,
  ⟨"DMA_RING_HWB_HI", 0x101C, [(64, 32)], .per, 0x0, [⟨31, 0, .rw, "ADDR"⟩]⟩,
  ⟨"DMA_RING_DESC_CNT", 0x1020, [(64, 32)], .per, 0x0, [⟨31, 0, .rc, "COUNT"⟩]⟩,
  ⟨"DMA_RING_STARVE_CNT", 0x1024, [(64, 32)], .per, 0x0, [⟨31, 0, .rc, "COUNT"⟩]⟩,
  ⟨"DMA_MSIX_TABLE", 0x8000, [(4, 4)], .per, 0x0, [⟨31, 0, .rw, "DATA"⟩]⟩,
  ⟨"DMA_MSIX_PBA", 0x8800, [(4, 2)], .per, 0x0, [⟨31, 0, .ro, "PBA"⟩]⟩]

/-- Registers of the PORT block (chapter 13). -/
def rowsPort : List RegRow := [
  ⟨"PORT_ID", 0x0, [], .per, 0x0, [⟨31, 24, .ro, "BLOCK"⟩, ⟨23, 16, .ro, "INSTANCE"⟩, ⟨7, 0, .ro, "STEPPING"⟩]⟩,
  ⟨"PORT_IRQ_CAUSE", 0x10, [], .per, 0x0, [⟨4, 4, .w1c, "FEC_UNCORR"⟩, ⟨3, 3, .w1c, "OVERRUN"⟩, ⟨2, 2, .w1c, "REMOTE_FAULT"⟩, ⟨1, 1, .w1c, "LINK_DOWN"⟩, ⟨0, 0, .w1c, "LINK_UP"⟩]⟩,
  ⟨"PORT_IRQ_MASK", 0x14, [], .per, 0x0, [⟨31, 0, .rw, "MASK"⟩]⟩,
  ⟨"PORT_IRQ_FORCE", 0x18, [], .per, 0x0, [⟨31, 0, .wo, "FORCE"⟩]⟩,
  ⟨"PORT_IRQ_SUB", 0x1C, [], .per, 0x0, [⟨31, 0, .ro, "SUB"⟩]⟩,
  ⟨"PORT_CTRL", 0x100, [], .per, 0x0, [⟨0, 0, .rw, "EN"⟩]⟩,
  ⟨"PORT_STATUS", 0x104, [], .per, 0x0, [⟨31, 31, .ro, "REFCLK_BAD"⟩, ⟨30, 30, .ro, "HI_BER"⟩, ⟨29, 29, .ro, "REMOTE_FAULT"⟩, ⟨28, 28, .ro, "LOCAL_FAULT"⟩, ⟨15, 8, .ro, "LANE_LOCK"⟩, ⟨1, 0, .ro, "STATE"⟩]⟩,
  ⟨"PORT_RX_CFG", 0x108, [], .per, 0x2400, [⟨29, 29, .rw, "CLASS_SRC"⟩, ⟨26, 24, .rw, "DEFAULT_CLASS"⟩, ⟨13, 0, .rw, "MAX_FRAME"⟩]⟩,
  ⟨"PORT_PCP_MAP", 0x10C, [], .per, 0xFAC688, [⟨23, 0, .rw, "MAP"⟩]⟩,
  ⟨"PORT_LINK_CFG", 0x110, [], .per, 0xA0001, [⟨31, 16, .rw, "DOWN_DEBOUNCE_US"⟩, ⟨15, 0, .rw, "UP_HOLD_MS"⟩]⟩,
  ⟨"PORT_MODE", 0x114, [], .per, 0x0, [⟨11, 8, .ro, "LANES"⟩, ⟨7, 4, .ro, "FEC"⟩, ⟨3, 0, .ro, "SPEED"⟩]⟩,
  ⟨"PORT_RX_FCS_ERR_CNT", 0x120, [], .per, 0x0, [⟨31, 0, .rc, "COUNT"⟩]⟩,
  ⟨"PORT_RX_OVERRUN_CNT", 0x124, [], .per, 0x0, [⟨31, 0, .rc, "COUNT"⟩]⟩,
  ⟨"PORT_RX_MACCTL_CNT", 0x128, [], .per, 0x0, [⟨31, 16, .rc, "OTHER"⟩, ⟨15, 0, .rc, "FC"⟩]⟩,
  ⟨"PORT_LINK_DOWN_CNT", 0x12C, [], .per, 0x0, [⟨31, 0, .rc, "COUNT"⟩]⟩,
  ⟨"PORT_FEC_CORR_CNT_LO", 0x130, [], .per, 0x0, [⟨31, 0, .ro, "COUNT"⟩]⟩,
  ⟨"PORT_FEC_CORR_CNT_HI", 0x134, [], .per, 0x0, [⟨31, 0, .ro, "COUNT"⟩]⟩,
  ⟨"PORT_FEC_UNCORR_CNT", 0x138, [], .per, 0x0, [⟨31, 0, .rc, "COUNT"⟩]⟩]

/-- Registers of the LANE block (chapter 13). -/
def rowsLane : List RegRow := [
  ⟨"LANE_ID", 0x0, [], .per, 0x0, [⟨31, 24, .ro, "BLOCK"⟩, ⟨23, 16, .ro, "INSTANCE"⟩, ⟨7, 0, .ro, "STEPPING"⟩]⟩,
  ⟨"LANE_IRQ_CAUSE", 0x10, [], .per, 0x0, []⟩,
  ⟨"LANE_IRQ_MASK", 0x14, [], .per, 0x0, [⟨31, 0, .rw, "MASK"⟩]⟩,
  ⟨"LANE_IRQ_FORCE", 0x18, [], .per, 0x0, [⟨31, 0, .wo, "FORCE"⟩]⟩,
  ⟨"LANE_IRQ_SUB", 0x1C, [], .per, 0x0, [⟨31, 0, .ro, "SUB"⟩]⟩,
  ⟨"LANE_TX_EQ", 0x100, [], .per, 0x0, [⟨23, 16, .ro, "POST"⟩, ⟨15, 8, .ro, "MAIN"⟩, ⟨7, 0, .ro, "PRE"⟩]⟩,
  ⟨"LANE_STATUS", 0x104, [], .per, 0x0, [⟨3, 3, .ro, "BLOCK_LOCK"⟩, ⟨2, 2, .ro, "ADAPTED"⟩, ⟨1, 1, .ro, "CDR_LOCK"⟩, ⟨0, 0, .ro, "SIGNAL"⟩]⟩,
  ⟨"LANE_FEC_SYM_CNT", 0x108, [], .per, 0x0, [⟨31, 0, .rc, "COUNT"⟩]⟩]

/-- Registers of the TETH block (chapter 13). -/
def rowsTeth : List RegRow := [
  ⟨"TETH_ID", 0x0, [], .per, 0x0, [⟨31, 24, .ro, "BLOCK"⟩, ⟨23, 16, .ro, "INSTANCE"⟩, ⟨7, 0, .ro, "STEPPING"⟩]⟩,
  ⟨"TETH_IRQ_CAUSE", 0x10, [], .per, 0x0, [⟨7, 7, .w1c, "LASTING_ERR"⟩, ⟨6, 6, .w1c, "MIRROR_LOST"⟩, ⟨5, 5, .w1c, "MISMATCH"⟩, ⟨4, 4, .w1c, "PAIRED"⟩, ⟨3, 3, .w1c, "PEER_LOST"⟩, ⟨2, 2, .w1c, "DEGRADED"⟩, ⟨1, 1, .w1c, "LINK_DOWN"⟩, ⟨0, 0, .w1c, "LINK_UP"⟩]⟩,
  ⟨"TETH_IRQ_MASK", 0x14, [], .per, 0x0, [⟨31, 0, .rw, "MASK"⟩]⟩,
  ⟨"TETH_IRQ_FORCE", 0x18, [], .per, 0x0, [⟨31, 0, .wo, "FORCE"⟩]⟩,
  ⟨"TETH_IRQ_SUB", 0x1C, [], .per, 0x0, [⟨31, 0, .ro, "SUB"⟩]⟩,
  ⟨"TETH_CFG", 0x100, [], .per, 0x0, [⟨24, 24, .ro, "SSC"⟩, ⟨23, 16, .ro, "TRAIN_MS"⟩, ⟨15, 8, .ro, "LANES"⟩, ⟨0, 0, .ro, "SIDE"⟩]⟩,
  ⟨"TETH_CTRL", 0x104, [], .per, 0x1000000, [⟨31, 31, .wo, "RETRAIN"⟩, ⟨24, 24, .rw, "RESYNC_EN"⟩, ⟨19, 0, .rw, "HOLD_US"⟩]⟩,
  ⟨"TETH_STATUS", 0x108, [], .per, 0x0, [⟨31, 24, .ro, "LANES_SVC"⟩, ⟨23, 16, .ro, "LANES_GOOD"⟩, ⟨10, 8, .ro, "PAIR"⟩, ⟨0, 0, .ro, "UP"⟩]⟩,
  ⟨"TETH_RECOVER_TMO", 0x10C, [], .per, 0xF, [⟨15, 0, .rw, "US"⟩]⟩,
  ⟨"TETH_LANE_ERR_LIMIT", 0x110, [], .per, 0x40, [⟨31, 0, .rw, "ERRORS"⟩]⟩,
  ⟨"TETH_PEER_OFFSET_LO", 0x118, [], .per, 0x0, [⟨31, 0, .ro, "OFFSET"⟩]⟩,
  ⟨"TETH_PEER_OFFSET_HI", 0x11C, [], .per, 0x0, [⟨31, 0, .ro, "OFFSET"⟩]⟩,
  ⟨"TETH_LOST_SEC", 0x120, [], .per, 0x0, [⟨31, 0, .ro, "SEC"⟩]⟩,
  ⟨"TETH_LOST_NS", 0x124, [], .per, 0x0, [⟨29, 0, .ro, "NS"⟩]⟩,
  ⟨"TETH_LANE_EQ", 0x140, [(4, 8)], .per, 0x0, [⟨23, 16, .ro, "POST"⟩, ⟨15, 8, .ro, "MAIN"⟩, ⟨7, 0, .ro, "PRE"⟩]⟩,
  ⟨"TETH_MIRROR_TX_CNT", 0x180, [], .per, 0x0, [⟨31, 0, .rc, "COUNT"⟩]⟩,
  ⟨"TETH_MIRROR_RX_CNT", 0x184, [], .per, 0x0, [⟨31, 0, .rc, "COUNT"⟩]⟩,
  ⟨"TETH_MIRROR_LOST_CNT", 0x188, [], .per, 0x0, [⟨31, 0, .rc, "COUNT"⟩]⟩,
  ⟨"TETH_MIRROR_IGNORED_CNT", 0x18C, [], .per, 0x0, [⟨31, 0, .rc, "COUNT"⟩]⟩,
  ⟨"TETH_MIRROR_NOSLOT_CNT", 0x190, [], .per, 0x0, [⟨31, 0, .rc, "COUNT"⟩]⟩,
  ⟨"TETH_RETRY_CNT", 0x194, [], .per, 0x0, [⟨31, 0, .rc, "COUNT"⟩]⟩,
  ⟨"TETH_LASTING_CNT", 0x198, [], .per, 0x0, [⟨31, 0, .rc, "COUNT"⟩]⟩,
  ⟨"TETH_HB_MISS_CNT", 0x19C, [], .per, 0x0, [⟨31, 0, .rc, "COUNT"⟩]⟩,
  ⟨"TETH_RECOVER_REQ_CNT", 0x1A0, [], .per, 0x0, [⟨31, 0, .rc, "COUNT"⟩]⟩,
  ⟨"TETH_RECOVER_FAIL_CNT", 0x1A4, [], .per, 0x0, [⟨31, 0, .rc, "COUNT"⟩]⟩,
  ⟨"TETH_DEGRADE_CNT", 0x1A8, [], .per, 0x0, [⟨31, 0, .rc, "COUNT"⟩]⟩,
  ⟨"TETH_RX_DATA_CNT", 0x1AC, [], .per, 0x0, [⟨31, 0, .rc, "COUNT"⟩]⟩]

/-- Registers of the ASSAY block (chapter 03). -/
def rowsAssay : List RegRow := [
  ⟨"ASSAY_ID", 0x0, [], .per, 0x0, [⟨31, 24, .ro, "BLOCK"⟩, ⟨23, 16, .ro, "INSTANCE"⟩, ⟨7, 0, .ro, "STEPPING"⟩]⟩,
  ⟨"ASSAY_IRQ_CAUSE", 0x10, [], .per, 0x0, [⟨3, 3, .w1c, "RECIRC_FULL"⟩, ⟨2, 2, .w1c, "XCH_STALL"⟩, ⟨1, 1, .w1c, "LEN_TAIL"⟩, ⟨0, 0, .w1c, "PASS_LIMIT"⟩]⟩,
  ⟨"ASSAY_IRQ_MASK", 0x14, [], .per, 0x0, [⟨31, 0, .rw, "MASK"⟩]⟩,
  ⟨"ASSAY_IRQ_FORCE", 0x18, [], .per, 0x0, [⟨31, 0, .wo, "FORCE"⟩]⟩,
  ⟨"ASSAY_IRQ_SUB", 0x1C, [], .per, 0x0, [⟨31, 0, .ro, "SUB"⟩]⟩,
  ⟨"ASSAY_RECIRC_CFG", 0x100, [], .per, 0x67, [⟨9, 0, .rw, "RESERVE"⟩]⟩,
  ⟨"ASSAY_RECIRC_STATUS", 0x104, [], .per, 0x0, [⟨26, 16, .rc, "PEAK"⟩, ⟨10, 0, .ro, "DEPTH"⟩]⟩,
  ⟨"ASSAY_HASH_SEED_LO", 0x108, [], .per, 0x0, [⟨31, 0, .ro, "SEED"⟩]⟩,
  ⟨"ASSAY_HASH_SEED_HI", 0x10C, [], .per, 0x0, [⟨31, 0, .ro, "SEED"⟩]⟩,
  ⟨"ASSAY_PORT_ACT", 0x200, [(4, 16)], .per, 0x4, [⟨31, 16, .rwl, "ZONE"⟩, ⟨11, 8, .rw, "PUNT_RING"⟩, ⟨5, 4, .rw, "PROFILE"⟩, ⟨3, 2, .rw, "LEN_ACT"⟩, ⟨1, 0, .rw, "DEEP_ACT"⟩]⟩,
  ⟨"ASSAY_DEEP_CNT", 0x300, [], .per, 0x0, [⟨31, 0, .rc, "COUNT"⟩]⟩,
  ⟨"ASSAY_LEN_CNT", 0x304, [], .per, 0x0, [⟨31, 0, .rc, "COUNT"⟩]⟩,
  ⟨"ASSAY_LEN_TAIL_CNT", 0x308, [], .per, 0x0, [⟨31, 0, .rc, "COUNT"⟩]⟩,
  ⟨"ASSAY_PASS_LIMIT_CNT", 0x30C, [], .per, 0x0, [⟨31, 0, .rc, "COUNT"⟩]⟩,
  ⟨"ASSAY_XCH_STALL_CNT", 0x310, [], .per, 0x0, [⟨31, 0, .rc, "INTERVALS"⟩]⟩,
  ⟨"ASSAY_RECIRC_CNT", 0x314, [], .per, 0x0, [⟨31, 0, .rc, "PASSES"⟩]⟩,
  ⟨"ASSAY_XCH_OUT_CNT", 0x320, [(4, 4)], .per, 0x0, [⟨31, 0, .rc, "DESCRIPTORS"⟩]⟩,
  ⟨"ASSAY_TEMPLATE_HIT", 0x1000, [(4, 256)], .per, 0x0, [⟨31, 0, .rc, "PASSES"⟩]⟩]

/-- Registers of the SIEVE block (chapter 04). -/
def rowsSieve : List RegRow := [
  ⟨"SIEVE_ID", 0x0, [], .per, 0x0, [⟨31, 24, .ro, "BLOCK"⟩, ⟨23, 16, .ro, "INSTANCE"⟩, ⟨7, 0, .ro, "STEPPING"⟩]⟩,
  ⟨"SIEVE_IRQ_CAUSE", 0x10, [], .per, 0x0, [⟨5, 5, .w1c, "CFG_BUSY"⟩, ⟨4, 4, .w1c, "SWAP_REFUSED"⟩, ⟨3, 3, .w1c, "DRAIN_TMO"⟩, ⟨2, 2, .w1c, "DRAINED"⟩, ⟨1, 1, .w1c, "WR_REFUSED"⟩, ⟨0, 0, .w1c, "WR_DONE"⟩]⟩,
  ⟨"SIEVE_IRQ_MASK", 0x14, [], .per, 0x0, [⟨31, 0, .rw, "MASK"⟩]⟩,
  ⟨"SIEVE_IRQ_FORCE", 0x18, [], .per, 0x0, [⟨31, 0, .wo, "FORCE"⟩]⟩,
  ⟨"SIEVE_IRQ_SUB", 0x1C, [], .per, 0x0, [⟨31, 0, .ro, "SUB"⟩]⟩,
  ⟨"SIEVE_WR_CMD", 0x100, [], .b0, 0x0, [⟨29, 28, .rw, "BRANCH"⟩, ⟨27, 26, .rw, "EM"⟩, ⟨25, 8, .rw, "INDEX"⟩, ⟨3, 0, .wo, "OP"⟩]⟩,
  ⟨"SIEVE_WR_STATUS", 0x104, [], .b0, 0x0, [⟨31, 31, .ro, "BUSY"⟩, ⟨25, 8, .ro, "INDEX"⟩, ⟨3, 0, .ro, "RESULT"⟩]⟩,
  ⟨"SIEVE_WR_DONE_SEC", 0x108, [], .b0, 0x0, [⟨31, 0, .ro, "SEC"⟩]⟩,
  ⟨"SIEVE_WR_DONE_NS", 0x10C, [], .b0, 0x0, [⟨29, 0, .ro, "NS"⟩]⟩,
  ⟨"SIEVE_WR_DATA", 0x140, [(4, 24)], .b0, 0x0, [⟨31, 0, .rw, "DATA"⟩]⟩,
  ⟨"SIEVE_ACCORD_CTRL", 0x200, [], .b0, 0x0, [⟨0, 0, .wo, "SWAP"⟩]⟩,
  ⟨"SIEVE_ACCORD_STATUS", 0x204, [], .repl, 0x20000, [⟨17, 17, .ro, "DRAINED"⟩, ⟨16, 16, .ro, "EPOCH"⟩, ⟨15, 0, .ro, "GEN"⟩]⟩,
  ⟨"SIEVE_ACCORD_SWAP_SEC", 0x208, [], .repl, 0x0, [⟨31, 0, .ro, "SEC"⟩]⟩,
  ⟨"SIEVE_ACCORD_SWAP_NS", 0x20C, [], .repl, 0x0, [⟨29, 0, .ro, "NS"⟩]⟩,
  ⟨"SIEVE_ACCORD_DRAIN_SEC", 0x210, [], .repl, 0x0, [⟨31, 0, .ro, "SEC"⟩]⟩,
  ⟨"SIEVE_ACCORD_DRAIN_NS", 0x214, [], .repl, 0x0, [⟨29, 0, .ro, "NS"⟩]⟩,
  ⟨"SIEVE_ACCORD_INFLIGHT", 0x218, [], .per, 0x0, [⟨16, 0, .ro, "COUNT"⟩]⟩,
  ⟨"SIEVE_ACCORD_DRAIN_TMO", 0x21C, [], .b0, 0x2710, [⟨31, 0, .rw, "LIMIT_US"⟩]⟩,
  ⟨"SIEVE_DEFAULT_A_LO", 0x220, [], .repl, 0x200, [⟨31, 0, .rw, "ACTION"⟩]⟩,
  ⟨"SIEVE_DEFAULT_A_HI", 0x224, [], .repl, 0x0, [⟨31, 0, .rw, "ACTION"⟩]⟩,
  ⟨"SIEVE_DEFAULT_B_LO", 0x228, [], .repl, 0x200, [⟨31, 0, .rw, "ACTION"⟩]⟩,
  ⟨"SIEVE_DEFAULT_B_HI", 0x22C, [], .repl, 0x0, [⟨31, 0, .rw, "ACTION"⟩]⟩,
  ⟨"SIEVE_LOOKUP_CNT", 0x300, [], .per, 0x0, [⟨31, 0, .rc, "COUNT"⟩]⟩,
  ⟨"SIEVE_MISS_CNT", 0x304, [], .per, 0x0, [⟨31, 0, .rc, "COUNT"⟩]⟩,
  ⟨"SIEVE_TIE_CNT", 0x308, [], .per, 0x0, [⟨31, 0, .rc, "COUNT"⟩]⟩,
  ⟨"SIEVE_STALE_CNT", 0x30C, [], .per, 0x0, [⟨31, 0, .rc, "COUNT"⟩]⟩,
  ⟨"SIEVE_WR_REFUSED_CNT", 0x310, [], .b0, 0x0, [⟨31, 0, .rc, "COUNT"⟩]⟩,
  ⟨"SIEVE_SPLIT", 0x400, [], .per, 0x0, [⟨31, 24, .ro, "LPM6_GRAN"⟩, ⟨23, 16, .ro, "LPM4_GRAN"⟩, ⟨15, 8, .ro, "EXACT_GRAN"⟩, ⟨7, 0, .ro, "TERN_GRAN"⟩]⟩,
  ⟨"SIEVE_TPL_CFG_A", 0x1000, [(4, 256)], .repl, 0x0, [⟨23, 16, .rw, "LPM_TAG"⟩, ⟨15, 8, .rw, "EXACT_TAG"⟩, ⟨5, 4, .rw, "LPM_Q"⟩, ⟨3, 3, .rw, "LPM6_EN"⟩, ⟨2, 2, .rw, "LPM4_EN"⟩, ⟨1, 1, .rw, "EXACT_EN"⟩, ⟨0, 0, .rw, "TERN_EN"⟩]⟩,
  ⟨"SIEVE_TPL_CFG_B", 0x1400, [(4, 256)], .repl, 0x0, [⟨23, 16, .rw, "LPM_TAG"⟩, ⟨15, 8, .rw, "EXACT_TAG"⟩, ⟨5, 4, .rw, "LPM_Q"⟩, ⟨3, 3, .rw, "LPM6_EN"⟩, ⟨2, 2, .rw, "LPM4_EN"⟩, ⟨1, 1, .rw, "EXACT_EN"⟩, ⟨0, 0, .rw, "TERN_EN"⟩]⟩]

/-- Registers of the DISP block (chapter 08), part 1. -/
def rowsDisp0 : List RegRow := [
  ⟨"DISP_ID", 0x0, [], .per, 0x0, [⟨31, 24, .ro, "BLOCK"⟩, ⟨23, 16, .ro, "INSTANCE"⟩, ⟨7, 0, .ro, "STEPPING"⟩]⟩,
  ⟨"DISP_IRQ_CAUSE", 0x10, [], .per, 0x0, [⟨3, 3, .w1c, "NO_TELLER"⟩, ⟨2, 2, .w1c, "LIST_FULL"⟩, ⟨1, 1, .w1c, "POST_REFUSED"⟩, ⟨0, 0, .w1c, "HOST_DONE"⟩]⟩,
  ⟨"DISP_IRQ_MASK", 0x14, [], .per, 0x0, [⟨31, 0, .rw, "MASK"⟩]⟩,
  ⟨"DISP_IRQ_FORCE", 0x18, [], .per, 0x0, [⟨31, 0, .wo, "FORCE"⟩]⟩,
  ⟨"DISP_IRQ_SUB", 0x1C, [], .per, 0x0, [⟨31, 0, .ro, "SUB"⟩]⟩,
  ⟨"DISP_CFG", 0x100, [], .per, 0x23, [⟨5, 4, .rw, "TRIES"⟩, ⟨2, 2, .rw, "LEARN"⟩, ⟨1, 1, .rw, "AFF_TBL_EN"⟩, ⟨0, 0, .rw, "AFF_REC_EN"⟩]⟩,
  ⟨"DISP_LIST_CFG", 0x104, [], .per, 0x100400, [⟨23, 12, .rw, "P2_MAX"⟩, ⟨11, 0, .rw, "P3_MAX"⟩]⟩,
  ⟨"DISP_SHARE_CFG", 0x108, [], .per, 0x2000404, [⟨27, 16, .rw, "P0_RSV"⟩, ⟨15, 8, .rw, "P3_MIN"⟩, ⟨7, 0, .rw, "P2_MIN"⟩]⟩,
  ⟨"DISP_WAIT_CFG", 0x10C, [], .per, 0x1900032, [⟨31, 16, .rw, "PREEMPT_NS"⟩, ⟨15, 0, .rw, "AFF_WAIT_NS"⟩]⟩,
  ⟨"DISP_TRACE_CFG", 0x110, [], .per, 0x1D0, [⟨31, 8, .rw, "SAMPLE_N"⟩, ⟨7, 0, .rw, "KINDS"⟩]⟩,
  ⟨"DISP_MAINT_ROUTINE", 0x114, [], .per, 0x0, [⟨31, 24, .rw, "NOSE"⟩, ⟨23, 16, .rw, "EXPORT"⟩, ⟨15, 8, .rw, "SWEEP"⟩, ⟨7, 0, .rw, "RELOC"⟩]⟩,
  ⟨"DISP_SWEEP_CFG", 0x118, [], .per, 0x1000064, [⟨31, 16, .rw, "SLOTS"⟩, ⟨15, 0, .rw, "PERIOD_US"⟩]⟩,
  ⟨"DISP_SWEEP_CURSOR", 0x11C, [], .per, 0x0, [⟨29, 0, .rw, "CURSOR"⟩]⟩,
  ⟨"DISP_HOST_CMD", 0x130, [], .per, 0x0, [⟨0, 0, .wo, "POST"⟩]⟩,
  ⟨"DISP_HOST_STATUS", 0x134, [], .per, 0x0, [⟨1, 0, .ro, "RESULT"⟩]⟩,
  ⟨"DISP_HOST_DONE_SEC", 0x138, [], .per, 0x0, [⟨31, 0, .ro, "SEC"⟩]⟩,
  ⟨"DISP_HOST_DONE_NS", 0x13C, [], .per, 0x0, [⟨29, 0, .ro, "NS"⟩]⟩,
  ⟨"DISP_HOST_ITEM", 0x140, [(4, 8)], .per, 0x0, [⟨31, 0, .rw, "DATA"⟩]⟩,
  ⟨"DISP_AFF_ADDR", 0x180, [], .per, 0x0, [⟨31, 31, .rw, "AUTOINC"⟩, ⟨15, 0, .rw, "INDEX"⟩]⟩,
  ⟨"DISP_AFF_DATA", 0x184, [], .per, 0x80, [⟨7, 7, .rw, "VALID"⟩, ⟨4, 0, .rw, "TELLER"⟩]⟩,
  ⟨"DISP_DEPTH", 0x200, [(4, 4)], .per, 0x0, [⟨28, 16, .ro, "WAITING"⟩, ⟨12, 0, .ro, "HELD"⟩]⟩,
  ⟨"DISP_PEAK", 0x210, [], .per, 0x0, [⟨12, 0, .rc, "PEAK"⟩]⟩,
  ⟨"DISP_START_CNT", 0x300, [(4, 4)], .per, 0x0, [⟨31, 0, .rc, "STARTS"⟩]⟩,
  ⟨"DISP_AFF_HIT_CNT", 0x310, [], .per, 0x0, [⟨31, 0, .rc, "COUNT"⟩]⟩,
  ⟨"DISP_AFF_FALLBACK_CNT", 0x314, [], .per, 0x0, [⟨31, 0, .rc, "COUNT"⟩]⟩,
  ⟨"DISP_PREEMPT_REQ_CNT", 0x318, [], .per, 0x0, [⟨31, 0, .rc, "COUNT"⟩]⟩,
  ⟨"DISP_PREEMPT_DECLINE_CNT", 0x31C, [], .per, 0x0, [⟨31, 0, .rc, "COUNT"⟩]⟩,
  ⟨"DISP_PARK_CNT", 0x320, [], .per, 0x0, [⟨31, 0, .rc, "COUNT"⟩]⟩,
  ⟨"DISP_LOCK_WAIT_CNT", 0x324, [], .per, 0x0, [⟨31, 0, .rc, "COUNT"⟩]⟩,
  ⟨"DISP_FULL_STALL_CNT", 0x328, [], .per, 0x0, [⟨31, 0, .rc, "COUNT"⟩]⟩]

/-- Registers of the DISP block (chapter 08), part 2. -/
def rowsDisp1 : List RegRow := [
  ⟨"DISP_POST_REFUSED_CNT", 0x32C, [], .per, 0x0, [⟨31, 0, .rc, "COUNT"⟩]⟩,
  ⟨"DISP_HOST_DONE_CNT", 0x330, [], .per, 0x0, [⟨31, 0, .rc, "COUNT"⟩]⟩]

/-- Every register of the DISP block. -/
def rowsDisp : List RegRow := rowsDisp0 ++ rowsDisp1

/-- Registers of the TELL block (chapter 07), part 1. -/
def rowsTell0 : List RegRow := [
  ⟨"TELL_ID", 0x0, [], .per, 0x0, [⟨31, 24, .ro, "BLOCK"⟩, ⟨23, 16, .ro, "INSTANCE"⟩, ⟨7, 0, .ro, "STEPPING"⟩]⟩,
  ⟨"TELL_IRQ_CAUSE", 0x10, [], .per, 0x0, [⟨3, 3, .w1c, "DRAINED"⟩, ⟨2, 2, .w1c, "HOLD_OVR"⟩, ⟨1, 1, .w1c, "CS_UNCORR"⟩, ⟨0, 0, .w1c, "CS_CORR"⟩]⟩,
  ⟨"TELL_IRQ_MASK", 0x14, [], .per, 0x0, [⟨31, 0, .rw, "MASK"⟩]⟩,
  ⟨"TELL_IRQ_FORCE", 0x18, [], .per, 0x0, [⟨31, 0, .wo, "FORCE"⟩]⟩,
  ⟨"TELL_IRQ_SUB", 0x1C, [], .per, 0x0, [⟨31, 0, .ro, "SUB"⟩]⟩,
  ⟨"TELL_DESK_CTRL", 0x100, [], .per, 0x0, [⟨0, 0, .rw, "DRAIN"⟩]⟩,
  ⟨"TELL_DESK_STATUS", 0x104, [], .per, 0x0, [⟨31, 31, .ro, "DRAINED"⟩, ⟨30, 30, .ro, "FAILED"⟩, ⟨7, 0, .ro, "BUSY"⟩]⟩,
  ⟨"TELL_STEP_BUDGET", 0x108, [], .per, 0x1000, [⟨15, 0, .rw, "STEPS"⟩]⟩,
  ⟨"TELL_TRAP_TRACE", 0x10C, [], .per, 0x59, [⟨6, 0, .rw, "CAUSES"⟩]⟩,
  ⟨"TELL_PERM", 0x110, [], .per, 0x0, [⟨0, 0, .rwl, "PERF_MC_EN"⟩]⟩,
  ⟨"TELL_BRK", 0x120, [(4, 4)], .per, 0x0, [⟨31, 31, .rw, "EN"⟩, ⟨13, 0, .rw, "ADDR"⟩]⟩,
  ⟨"TELL_TCTRL", 0x140, [(4, 8)], .per, 0x0, [⟨2, 2, .rw, "BRK_EN"⟩, ⟨1, 1, .wo, "STOP"⟩, ⟨0, 0, .wo, "CONT"⟩]⟩,
  ⟨"TELL_TSTATUS", 0x160, [(4, 8)], .per, 0x0, [⟨31, 29, .ro, "STATE"⟩, ⟨28, 28, .ro, "PARKED"⟩, ⟨27, 24, .ro, "FRAMES"⟩, ⟨23, 22, .ro, "PRIO"⟩, ⟨21, 21, .ro, "WINDOW"⟩, ⟨13, 0, .ro, "PC"⟩]⟩,
  ⟨"TELL_FRAME_SEL", 0x180, [], .per, 0x0, [⟨6, 4, .rw, "TELLER"⟩, ⟨2, 0, .rw, "FRAME"⟩]⟩,
  ⟨"TELL_FRAME_STATUS", 0x184, [], .per, 0x0, [⟨31, 31, .ro, "VALID"⟩, ⟨30, 30, .ro, "PARKED"⟩, ⟨7, 0, .ro, "CAUSE"⟩]⟩,
  ⟨"TELL_TCAUSE", 0x1A0, [(4, 8)], .per, 0x0, [⟨4, 4, .w1c, "POISON"⟩, ⟨3, 3, .w1c, "ILLEGAL"⟩, ⟨2, 2, .w1c, "BUDGET"⟩, ⟨1, 1, .w1c, "HALTED"⟩, ⟨0, 0, .w1c, "FRAME_FULL"⟩]⟩,
  ⟨"TELL_TCAUSE_MASK", 0x1C0, [], .per, 0x0, [⟨4, 0, .rw, "MASK"⟩]⟩,
  ⟨"TELL_FRAME_DATA", 0x200, [(4, 96)], .per, 0x0, [⟨31, 0, .ro, "DATA"⟩]⟩,
  ⟨"TELL_CS_ADDR", 0x380, [], .per, 0x0, [⟨13, 0, .rw, "ADDR"⟩]⟩,
  ⟨"TELL_CS_STATUS", 0x384, [], .per, 0x0, [⟨31, 31, .ro, "BUSY"⟩, ⟨2, 2, .ro, "DENIED"⟩, ⟨1, 0, .ro, "ECC"⟩]⟩,
  ⟨"TELL_CS_DATA", 0x390, [(4, 5)], .per, 0x0, [⟨31, 0, .ro, "DATA"⟩]⟩,
  ⟨"TELL_STEP_CNT_LO", 0x400, [], .per, 0x0, [⟨31, 0, .ro, "COUNT"⟩]⟩,
  ⟨"TELL_STEP_CNT_HI", 0x404, [], .per, 0x0, [⟨31, 0, .ro, "COUNT"⟩]⟩,
  ⟨"TELL_ITEM_CNT_LO", 0x408, [], .per, 0x0, [⟨31, 0, .ro, "COUNT"⟩]⟩,
  ⟨"TELL_ITEM_CNT_HI", 0x40C, [], .per, 0x0, [⟨31, 0, .ro, "COUNT"⟩]⟩,
  ⟨"TELL_WAIT_NS_LO", 0x410, [], .per, 0x0, [⟨31, 0, .ro, "COUNT"⟩]⟩,
  ⟨"TELL_WAIT_NS_HI", 0x414, [], .per, 0x0, [⟨31, 0, .ro, "COUNT"⟩]⟩,
  ⟨"TELL_TRAP_CNT", 0x420, [(4, 8)], .per, 0x0, [⟨31, 0, .rc, "COUNT"⟩]⟩,
  ⟨"TELL_HOLD_OVR_CNT", 0x440, [], .per, 0x0, [⟨31, 0, .rc, "COUNT"⟩]⟩,
  ⟨"TELL_CS_CORR_CNT", 0x444, [], .per, 0x0, [⟨31, 0, .rc, "COUNT"⟩]⟩]

/-- Registers of the TELL block (chapter 07), part 2. -/
def rowsTell1 : List RegRow := [
  ⟨"TELL_CS_UNCORR_CNT", 0x448, [], .per, 0x0, [⟨31, 0, .rc, "COUNT"⟩]⟩,
  ⟨"TELL_MC_CNT_LO", 0x800, [(8, 64)], .per, 0x0, [⟨31, 0, .rw, "COUNT"⟩]⟩,
  ⟨"TELL_MC_CNT_HI", 0x804, [(8, 64)], .per, 0x0, [⟨31, 0, .rw, "COUNT"⟩]⟩]

/-- Every register of the TELL block. -/
def rowsTell : List RegRow := rowsTell0 ++ rowsTell1

/-- Registers of the TILL block (chapter 05, 06 and 09), part 1. -/
def rowsTill0 : List RegRow := [
  ⟨"TILL_ID", 0x0, [], .per, 0x0, [⟨31, 24, .ro, "BLOCK"⟩, ⟨23, 16, .ro, "INSTANCE"⟩, ⟨7, 0, .ro, "STEPPING"⟩]⟩,
  ⟨"TILL_IRQ_CAUSE", 0x10, [], .per, 0x0, [⟨5, 5, .w1c, "STATE_BAD"⟩, ⟨4, 4, .w1c, "PIN_REFUSED"⟩, ⟨3, 3, .w1c, "NOWAY"⟩, ⟨2, 2, .w1c, "LOCK_ALARM"⟩, ⟨1, 1, .w1c, "FLUSH_DONE"⟩, ⟨0, 0, .w1c, "HREQ_DONE"⟩]⟩,
  ⟨"TILL_IRQ_MASK", 0x14, [], .per, 0x0, [⟨31, 0, .rw, "MASK"⟩]⟩,
  ⟨"TILL_IRQ_FORCE", 0x18, [], .per, 0x0, [⟨31, 0, .wo, "FORCE"⟩]⟩,
  ⟨"TILL_IRQ_SUB", 0x1C, [], .per, 0x0, [⟨31, 0, .ro, "SUB"⟩]⟩,
  ⟨"TILL_CFG", 0x100, [], .per, 0x0, [⟨8, 8, .ro, "POLICY"⟩, ⟨3, 0, .ro, "PIN_QUOTA"⟩]⟩,
  ⟨"TILL_OCC", 0x104, [], .per, 0x0, [⟨18, 0, .ro, "COUNT"⟩]⟩,
  ⟨"TILL_DIRTY", 0x108, [], .per, 0x0, [⟨18, 0, .ro, "COUNT"⟩]⟩,
  ⟨"TILL_PINNED", 0x10C, [], .per, 0x0, [⟨18, 0, .ro, "COUNT"⟩]⟩,
  ⟨"TILL_UPD_TCPF", 0x110, [], .repl, 0x0, [⟨31, 16, .rw, "KT_MASK"⟩, ⟨8, 0, .rw, "KV_POS"⟩]⟩,
  ⟨"TILL_LOCK_WAIT_TMO", 0x120, [], .repl, 0xA, [⟨15, 0, .rw, "US"⟩]⟩,
  ⟨"TILL_LOCK_ALARM", 0x124, [], .repl, 0x3E8, [⟨31, 0, .rw, "US"⟩]⟩,
  ⟨"TILL_DUR_CFG", 0x128, [], .repl, 0x0, [⟨31, 0, .rw, "MAX_DIRTY_US"⟩]⟩,
  ⟨"TILL_FLUSH_CTRL", 0x130, [], .per, 0x0, [⟨1, 1, .rw, "DURABLE_ONLY"⟩, ⟨0, 0, .wo, "START"⟩]⟩,
  ⟨"TILL_FLUSH_STATUS", 0x134, [], .per, 0x0, [⟨31, 31, .ro, "BUSY"⟩, ⟨18, 0, .ro, "REMAINING"⟩]⟩,
  ⟨"TILL_FLUSH_DONE_SEC", 0x138, [], .per, 0x0, [⟨31, 0, .ro, "SEC"⟩]⟩,
  ⟨"TILL_FLUSH_DONE_NS", 0x13C, [], .per, 0x0, [⟨29, 0, .ro, "NS"⟩]⟩,
  ⟨"TILL_AGE_IDLE1", 0x140, [(16, 8)], .repl, 0x7530, [⟨31, 0, .rw, "IDLE1_MS"⟩]⟩,
  ⟨"TILL_AGE_IDLE2", 0x144, [(16, 8)], .repl, 0x1D4C0, [⟨31, 0, .rw, "IDLE2_MS"⟩]⟩,
  ⟨"TILL_AGE_CLOSE", 0x148, [(16, 8)], .repl, 0x1388, [⟨31, 0, .rw, "CLOSE_MS"⟩]⟩,
  ⟨"TILL_AGE_EXPORT", 0x14C, [(16, 8)], .repl, 0x0, [⟨0, 0, .rw, "EXPORT"⟩]⟩,
  ⟨"TILL_HREQ_CMD", 0x200, [], .per, 0x0, [⟨31, 16, .rw, "WMASK"⟩, ⟨3, 0, .wo, "OP"⟩]⟩,
  ⟨"TILL_HREQ_STATUS", 0x204, [], .per, 0x0, [⟨31, 31, .ro, "BUSY"⟩, ⟨25, 24, .ro, "WHERE"⟩, ⟨20, 20, .ro, "LOCKED"⟩, ⟨19, 19, .ro, "PIN_EFF"⟩, ⟨3, 0, .ro, "RESULT"⟩]⟩,
  ⟨"TILL_HREQ_OWNER", 0x208, [], .per, 0x0, [⟨31, 31, .ro, "VALID"⟩, ⟨6, 0, .ro, "TELLER"⟩]⟩,
  ⟨"TILL_HREQ_LOCKT_LO", 0x20C, [], .per, 0x0, [⟨31, 0, .ro, "TIME"⟩]⟩,
  ⟨"TILL_HREQ_LOCKT_HI", 0x210, [], .per, 0x0, [⟨31, 0, .ro, "TIME"⟩]⟩,
  ⟨"TILL_HREQ_HASH_LO", 0x214, [], .per, 0x0, [⟨31, 0, .ro, "HASH"⟩]⟩,
  ⟨"TILL_HREQ_HASH_HI", 0x218, [], .per, 0x0, [⟨31, 0, .ro, "HASH"⟩]⟩,
  ⟨"TILL_HREQ_SLOT", 0x21C, [], .per, 0x0, [⟨29, 0, .rw, "SLOT"⟩]⟩,
  ⟨"TILL_HREQ_DONE_SEC", 0x220, [], .per, 0x0, [⟨31, 0, .ro, "SEC"⟩]⟩]

/-- Registers of the TILL block (chapter 05, 06 and 09), part 2. -/
def rowsTill1 : List RegRow := [
  ⟨"TILL_HREQ_DONE_NS", 0x224, [], .per, 0x0, [⟨29, 0, .ro, "NS"⟩]⟩,
  ⟨"TILL_HREC_DATA", 0x280, [(4, 32)], .per, 0x0, [⟨31, 0, .rw, "DATA"⟩]⟩,
  ⟨"TILL_HIT_CNT_LO", 0x300, [], .per, 0x0, [⟨31, 0, .ro, "COUNT"⟩]⟩,
  ⟨"TILL_HIT_CNT_HI", 0x304, [], .per, 0x0, [⟨31, 0, .ro, "COUNT"⟩]⟩,
  ⟨"TILL_MISS_CNT_LO", 0x308, [], .per, 0x0, [⟨31, 0, .ro, "COUNT"⟩]⟩,
  ⟨"TILL_MISS_CNT_HI", 0x30C, [], .per, 0x0, [⟨31, 0, .ro, "COUNT"⟩]⟩,
  ⟨"TILL_FAST_CNT_LO", 0x310, [], .per, 0x0, [⟨31, 0, .ro, "COUNT"⟩]⟩,
  ⟨"TILL_FAST_CNT_HI", 0x314, [], .per, 0x0, [⟨31, 0, .ro, "COUNT"⟩]⟩,
  ⟨"TILL_EVICT_CNT", 0x318, [], .per, 0x0, [⟨31, 0, .rc, "COUNT"⟩]⟩,
  ⟨"TILL_WB_CNT", 0x31C, [], .per, 0x0, [⟨31, 0, .rc, "COUNT"⟩]⟩,
  ⟨"TILL_NOWAY_CNT", 0x320, [], .per, 0x0, [⟨31, 0, .rc, "COUNT"⟩]⟩,
  ⟨"TILL_PIN_REFUSED_CNT", 0x324, [], .per, 0x0, [⟨31, 0, .rc, "COUNT"⟩]⟩,
  ⟨"TILL_LOCK_ALARM_CNT", 0x328, [], .per, 0x0, [⟨31, 0, .rc, "COUNT"⟩]⟩,
  ⟨"TILL_EXPIRED_CNT", 0x32C, [], .per, 0x0, [⟨31, 0, .rc, "COUNT"⟩]⟩,
  ⟨"TILL_DUR_WB_CNT", 0x330, [], .per, 0x0, [⟨31, 0, .rc, "COUNT"⟩]⟩,
  ⟨"TILL_FT_CFG", 0x400, [], .per, 0x0, [⟨4, 0, .ro, "LOG2_SLOTS"⟩]⟩,
  ⟨"TILL_FT_OCC", 0x404, [], .per, 0x0, [⟨28, 0, .ro, "COUNT"⟩]⟩,
  ⟨"TILL_FT_OCC_LIMIT", 0x408, [], .repl, 0x1C2, [⟨9, 0, .rw, "PERMILLE"⟩]⟩,
  ⟨"TILL_FT_SETUP_RATE", 0x40C, [], .per, 0x927C, [⟨16, 0, .rw, "RATE_KPS"⟩]⟩,
  ⟨"TILL_FT_SETUP_BURST", 0x410, [], .per, 0x1000, [⟨15, 0, .rw, "TOKENS"⟩]⟩,
  ⟨"TILL_FT_RELOC_CFG", 0x414, [], .repl, 0x8, [⟨3, 0, .rw, "MAX_MOVES"⟩]⟩,
  ⟨"TILL_FT_MQ_STATUS", 0x418, [], .per, 0x0, [⟨31, 17, .ro, "ENTRIES"⟩, ⟨16, 0, .ro, "DESCS"⟩]⟩,
  ⟨"TILL_FT_MQ_PEAK", 0x41C, [], .per, 0x0, [⟨31, 17, .rc, "ENTRIES"⟩, ⟨16, 0, .rc, "DESCS"⟩]⟩,
  ⟨"TILL_FT_CLAIMS", 0x420, [], .per, 0x0, [⟨16, 0, .ro, "COUNT"⟩]⟩,
  ⟨"TILL_FT_IRQ_CAUSE", 0x424, [], .per, 0x0, [⟨6, 6, .w1c, "CLAIM_FULL"⟩, ⟨5, 5, .w1c, "OCC_HIGH"⟩, ⟨4, 4, .w1c, "STATE_LOST"⟩, ⟨3, 3, .w1c, "NOSLOT"⟩, ⟨2, 2, .w1c, "SETUP_LIMIT"⟩, ⟨1, 1, .w1c, "MISS_FULL"⟩, ⟨0, 0, .w1c, "MISS_TMO"⟩]⟩,
  ⟨"TILL_FT_IRQ_MASK", 0x428, [], .per, 0x0, [⟨6, 0, .rw, "MASK"⟩]⟩,
  ⟨"TILL_FT_SETUP_LO", 0x440, [], .per, 0x0, [⟨31, 0, .ro, "COUNT"⟩]⟩,
  ⟨"TILL_FT_SETUP_HI", 0x444, [], .per, 0x0, [⟨31, 0, .ro, "COUNT"⟩]⟩,
  ⟨"TILL_FT_VHIT_A_LO", 0x448, [], .per, 0x0, [⟨31, 0, .ro, "COUNT"⟩]⟩,
  ⟨"TILL_FT_VHIT_A_HI", 0x44C, [], .per, 0x0, [⟨31, 0, .ro, "COUNT"⟩]⟩]

/-- Registers of the TILL block (chapter 05, 06 and 09), part 3. -/
def rowsTill2 : List RegRow := [
  ⟨"TILL_FT_VHIT_B_LO", 0x450, [], .per, 0x0, [⟨31, 0, .ro, "COUNT"⟩]⟩,
  ⟨"TILL_FT_VHIT_B_HI", 0x454, [], .per, 0x0, [⟨31, 0, .ro, "COUNT"⟩]⟩,
  ⟨"TILL_FT_RD_OPS_LO", 0x458, [], .per, 0x0, [⟨31, 0, .ro, "COUNT"⟩]⟩,
  ⟨"TILL_FT_RD_OPS_HI", 0x45C, [], .per, 0x0, [⟨31, 0, .ro, "COUNT"⟩]⟩,
  ⟨"TILL_FT_WR_OPS_LO", 0x460, [], .per, 0x0, [⟨31, 0, .ro, "COUNT"⟩]⟩,
  ⟨"TILL_FT_WR_OPS_HI", 0x464, [], .per, 0x0, [⟨31, 0, .ro, "COUNT"⟩]⟩,
  ⟨"TILL_FT_SETUP_LIMIT_CNT", 0x470, [], .per, 0x0, [⟨31, 0, .rc, "COUNT"⟩]⟩,
  ⟨"TILL_FT_MISS_TMO_CNT", 0x474, [], .per, 0x0, [⟨31, 0, .rc, "COUNT"⟩]⟩,
  ⟨"TILL_FT_MISS_FULL_CNT", 0x478, [], .per, 0x0, [⟨31, 0, .rc, "COUNT"⟩]⟩,
  ⟨"TILL_FT_RELOC_CNT", 0x47C, [], .per, 0x0, [⟨31, 0, .rc, "COUNT"⟩]⟩,
  ⟨"TILL_FT_RELOC_MOVES_CNT", 0x480, [], .per, 0x0, [⟨31, 0, .rc, "COUNT"⟩]⟩,
  ⟨"TILL_FT_NOSLOT_CNT", 0x484, [], .per, 0x0, [⟨31, 0, .rc, "COUNT"⟩]⟩,
  ⟨"TILL_FT_POISON_CNT", 0x488, [], .per, 0x0, [⟨31, 0, .rc, "COUNT"⟩]⟩,
  ⟨"TILL_FT_PEER_RECOVER_CNT", 0x48C, [], .per, 0x0, [⟨31, 0, .rc, "COUNT"⟩]⟩,
  ⟨"TILL_FT_STATE_LOST_CNT", 0x490, [], .per, 0x0, [⟨31, 0, .rc, "COUNT"⟩]⟩,
  ⟨"TILL_FT_CLAIM_WB_CNT", 0x494, [], .per, 0x0, [⟨31, 0, .rc, "COUNT"⟩]⟩,
  ⟨"TILL_FT_PORT_ACT", 0x4C0, [(4, 16)], .per, 0x140011, [⟨25, 16, .rw, "MISS_TMO_US"⟩, ⟨11, 8, .rw, "PUNT_RING"⟩, ⟨5, 4, .rw, "SETUP_ACT"⟩, ⟨1, 0, .rw, "OVF_ACT"⟩]⟩,
  ⟨"TILL_EXP_CFG", 0x600, [], .repl, 0x0, [⟨11, 8, .rw, "RING"⟩, ⟨2, 2, .rw, "ON_CLOSE"⟩, ⟨1, 1, .rw, "FORMAT"⟩, ⟨0, 0, .rw, "EN"⟩]⟩,
  ⟨"TILL_EXP_RING", 0x604, [], .repl, 0x81B0000, [⟨27, 24, .rw, "LOG2_ENTRIES"⟩, ⟨20, 0, .rw, "BASE"⟩]⟩,
  ⟨"TILL_EXP_MSG", 0x608, [], .repl, 0x3E80578, [⟨31, 16, .rw, "FLUSH_US"⟩, ⟨13, 0, .rw, "MSG_MAX"⟩]⟩,
  ⟨"TILL_EXP_TMPL", 0x60C, [], .repl, 0x3C, [⟨15, 0, .rw, "PERIOD_S"⟩]⟩,
  ⟨"TILL_EXP_ODID", 0x610, [], .repl, 0x0, [⟨31, 0, .rw, "ODID"⟩]⟩,
  ⟨"TILL_EXP_UTC_OFF", 0x614, [], .repl, 0x25, [⟨15, 0, .rw, "UTC_OFF"⟩]⟩,
  ⟨"TILL_EXP_STATUS", 0x618, [], .per, 0x0, [⟨10, 0, .ro, "DEPTH"⟩]⟩,
  ⟨"TILL_EXP_SEQ", 0x61C, [], .per, 0x0, [⟨31, 0, .ro, "SEQ"⟩]⟩,
  ⟨"TILL_EXP_SNAP_CNT", 0x620, [], .per, 0x0, [⟨31, 0, .rc, "COUNT"⟩]⟩,
  ⟨"TILL_EXP_LOST_CNT", 0x624, [], .per, 0x0, [⟨31, 0, .rc, "COUNT"⟩]⟩,
  ⟨"TILL_EXP_SKIP_CNT", 0x628, [], .per, 0x0, [⟨31, 0, .rc, "COUNT"⟩]⟩,
  ⟨"TILL_EXP_MSG_CNT", 0x62C, [], .per, 0x0, [⟨31, 0, .rc, "COUNT"⟩]⟩,
  ⟨"TILL_TPL_CFG", 0x1000, [(4, 256)], .repl, 0x0, [⟨8, 8, .rw, "DURABLE"⟩, ⟨6, 4, .rw, "MIRROR_CLASS"⟩, ⟨2, 0, .rw, "AGE_CLASS"⟩]⟩]

/-- Every register of the TILL block. -/
def rowsTill : List RegRow := rowsTill0 ++ rowsTill1 ++ rowsTill2

/-- Registers of the VAULT block (chapter 15). -/
def rowsVault : List RegRow := [
  ⟨"VAULT_ID", 0x0, [], .per, 0x0, [⟨31, 24, .ro, "BLOCK"⟩, ⟨23, 16, .ro, "INSTANCE"⟩, ⟨7, 0, .ro, "STEPPING"⟩]⟩,
  ⟨"VAULT_IRQ_CAUSE", 0x10, [], .per, 0x0, [⟨7, 7, .w1c, "WIN_POISON"⟩, ⟨6, 6, .w1c, "WIN_WR_ERR"⟩, ⟨5, 5, .w1c, "WIN_REFUSED"⟩, ⟨4, 4, .w1c, "SPARE_ABORT"⟩, ⟨3, 3, .w1c, "SPARE_UNAVAIL"⟩, ⟨2, 2, .w1c, "SPARE_DONE"⟩, ⟨1, 1, .w1c, "SPARE_START"⟩, ⟨0, 0, .w1c, "TRAIN_FAIL"⟩]⟩,
  ⟨"VAULT_IRQ_MASK", 0x14, [], .per, 0x0, [⟨31, 0, .rw, "MASK"⟩]⟩,
  ⟨"VAULT_IRQ_FORCE", 0x18, [], .per, 0x0, [⟨31, 0, .wo, "FORCE"⟩]⟩,
  ⟨"VAULT_IRQ_SUB", 0x1C, [], .per, 0x0, [⟨31, 0, .ro, "SUB"⟩]⟩,
  ⟨"VAULT_CFG", 0x100, [], .per, 0x0, [⟨27, 24, .ro, "FT_REGION"⟩, ⟨20, 20, .ro, "RETIRED_VALID"⟩, ⟨19, 16, .ro, "RETIRED"⟩, ⟨12, 12, .ro, "SPARE_VALID"⟩, ⟨11, 8, .ro, "SPARE"⟩, ⟨5, 5, .ro, "RANK_64G"⟩, ⟨4, 4, .ro, "TWO_RANKS"⟩, ⟨1, 0, .ro, "SPEED"⟩]⟩,
  ⟨"VAULT_ZONE", 0x104, [], .per, 0x0, [⟨29, 16, .ro, "TOTAL_128M"⟩, ⟨13, 0, .ro, "ZONE0_128M"⟩]⟩,
  ⟨"VAULT_REMAP_LO", 0x108, [], .per, 0x76543210, [⟨31, 0, .ro, "MAP"⟩]⟩,
  ⟨"VAULT_REMAP_HI", 0x10C, [], .per, 0xFEDCBA98, [⟨31, 0, .ro, "MAP"⟩]⟩,
  ⟨"VAULT_SPARE_CFG", 0x110, [], .per, 0x80011920, [⟨31, 31, .rw, "AUTO"⟩, ⟨23, 16, .rw, "UE_COUNT"⟩, ⟨15, 8, .rw, "RATE_PCT"⟩, ⟨7, 0, .rw, "CE_PER_MIN"⟩]⟩,
  ⟨"VAULT_SPARE_CTRL", 0x114, [], .per, 0x0, [⟨31, 31, .wo, "START"⟩, ⟨3, 0, .rw, "RANK"⟩]⟩,
  ⟨"VAULT_SPARE_STATUS", 0x118, [], .per, 0x0, [⟨30, 28, .ro, "STATE"⟩, ⟨27, 24, .ro, "SPARE"⟩, ⟨23, 20, .ro, "SOURCE"⟩, ⟨19, 19, .ro, "PAUSED"⟩, ⟨18, 16, .ro, "CAUSE"⟩, ⟨15, 0, .w1c, "PENDING"⟩]⟩,
  ⟨"VAULT_SPARE_CURSOR", 0x11C, [], .per, 0x0, [⟨28, 0, .ro, "RECORD"⟩]⟩,
  ⟨"VAULT_SPARE_START_SEC", 0x120, [], .per, 0x0, [⟨31, 0, .ro, "SEC"⟩]⟩,
  ⟨"VAULT_SPARE_START_NS", 0x124, [], .per, 0x0, [⟨29, 0, .ro, "NS"⟩]⟩,
  ⟨"VAULT_SPARE_DONE_SEC", 0x128, [], .per, 0x0, [⟨31, 0, .ro, "SEC"⟩]⟩,
  ⟨"VAULT_SPARE_DONE_NS", 0x12C, [], .per, 0x0, [⟨29, 0, .ro, "NS"⟩]⟩,
  ⟨"VAULT_WIN_BASE_LO", 0x130, [], .per, 0x0, [⟨31, 0, .rw, "BASE"⟩]⟩,
  ⟨"VAULT_WIN_BASE_HI", 0x134, [], .per, 0x0, [⟨31, 0, .rw, "BASE"⟩]⟩,
  ⟨"VAULT_WIN_ERR_ADDR_LO", 0x138, [], .per, 0x0, [⟨31, 0, .ro, "ADDR"⟩]⟩,
  ⟨"VAULT_WIN_ERR_ADDR_HI", 0x13C, [], .per, 0x0, [⟨31, 0, .ro, "ADDR"⟩]⟩,
  ⟨"VAULT_WIN_REFUSED_CNT", 0x150, [], .per, 0x0, [⟨31, 0, .rc, "COUNT"⟩]⟩,
  ⟨"VAULT_WIN_POISON_CNT", 0x154, [], .per, 0x0, [⟨31, 0, .rc, "COUNT"⟩]⟩,
  ⟨"VAULT_REGION", 0x200, [(8, 16)], .per, 0x0, [⟨31, 16, .ro, "SIZE"⟩, ⟨15, 0, .ro, "BASE"⟩]⟩,
  ⟨"VAULT_REGION_MODE", 0x204, [(8, 16)], .per, 0x0, [⟨0, 0, .ro, "MODE"⟩]⟩]

/-- Registers of the VAULT channel block (chapter 15). -/
def rowsVaultCh : List RegRow := [
  ⟨"VAULT_CH_IRQ_CAUSE", 0x10, [], .per, 0x0, [⟨5, 5, .w1c, "SENSOR_FAIL"⟩, ⟨4, 4, .w1c, "CE_RATE"⟩, ⟨3, 3, .w1c, "FWL_FULL"⟩, ⟨2, 2, .w1c, "CAPAR_LASTING"⟩, ⟨1, 1, .w1c, "COOL"⟩, ⟨0, 0, .w1c, "HOT"⟩]⟩,
  ⟨"VAULT_CH_IRQ_MASK", 0x14, [], .per, 0x0, [⟨5, 0, .rw, "MASK"⟩]⟩,
  ⟨"VAULT_CH_STATUS", 0x100, [], .per, 0x0, [⟨13, 12, .ro, "CANDIDATE"⟩, ⟨9, 8, .ro, "RANKS"⟩, ⟨4, 4, .ro, "HOT"⟩, ⟨2, 0, .ro, "STATE"⟩]⟩,
  ⟨"VAULT_CH_TEMP", 0x104, [], .per, 0x0, [⟨31, 31, .ro, "VALID"⟩, ⟨7, 0, .ro, "DEG_C"⟩]⟩,
  ⟨"VAULT_CH_REF_DEBT", 0x108, [], .per, 0x0, [⟨31, 0, .ro, "DEBT"⟩]⟩,
  ⟨"VAULT_CH_TRAIN", 0x10C, [], .per, 0x0, [⟨7, 4, .ro, "RANK"⟩, ⟨3, 0, .ro, "STEP"⟩]⟩,
  ⟨"VAULT_CH_FWL_COUNT", 0x110, [], .per, 0x0, [⟨8, 0, .ro, "RECORDS"⟩]⟩,
  ⟨"VAULT_CH_RD_OPS_LO", 0x120, [], .per, 0x0, [⟨31, 0, .ro, "COUNT"⟩]⟩,
  ⟨"VAULT_CH_RD_OPS_HI", 0x124, [], .per, 0x0, [⟨31, 0, .ro, "COUNT"⟩]⟩,
  ⟨"VAULT_CH_WR_OPS_LO", 0x128, [], .per, 0x0, [⟨31, 0, .ro, "COUNT"⟩]⟩,
  ⟨"VAULT_CH_WR_OPS_HI", 0x12C, [], .per, 0x0, [⟨31, 0, .ro, "COUNT"⟩]⟩,
  ⟨"VAULT_CH_INORDER_CNT", 0x130, [], .per, 0x0, [⟨31, 0, .rc, "COUNT"⟩]⟩,
  ⟨"VAULT_CH_REF_FORCED_CNT", 0x134, [], .per, 0x0, [⟨31, 0, .rc, "COUNT"⟩]⟩,
  ⟨"VAULT_CH_SR_ABANDON_CNT", 0x138, [], .per, 0x0, [⟨31, 0, .rc, "COUNT"⟩]⟩,
  ⟨"VAULT_CH_CAPAR_CNT", 0x13C, [], .per, 0x0, [⟨31, 0, .rc, "COUNT"⟩]⟩,
  ⟨"VAULT_CH_CAPAR_LASTING_CNT", 0x140, [], .per, 0x0, [⟨31, 0, .rc, "COUNT"⟩]⟩,
  ⟨"VAULT_CH_DEV_CE", 0x200, [(4, 40)], .per, 0x0, [⟨31, 0, .rc, "COUNT"⟩]⟩]

/-- Registers of the AUDIT block (chapter 16), part 1. -/
def rowsAudit0 : List RegRow := [
  ⟨"AUDIT_ID", 0x0, [], .per, 0x0, [⟨31, 24, .ro, "BLOCK"⟩, ⟨23, 16, .ro, "INSTANCE"⟩, ⟨7, 0, .ro, "STEPPING"⟩]⟩,
  ⟨"AUDIT_IRQ_CAUSE", 0x10, [], .per, 0x0, [⟨6, 6, .w1c, "VAULT_LASTING"⟩, ⟨5, 5, .w1c, "PARTIAL_FAIL"⟩, ⟨4, 4, .w1c, "PEER_FAIL"⟩, ⟨3, 3, .w1c, "LAP_ALARM"⟩, ⟨2, 2, .w1c, "SRAM_LASTING"⟩, ⟨1, 1, .w1c, "REGION_POISON"⟩, ⟨0, 0, .w1c, "FT_POISON"⟩]⟩,
  ⟨"AUDIT_IRQ_MASK", 0x14, [], .per, 0x0, [⟨31, 0, .rw, "MASK"⟩]⟩,
  ⟨"AUDIT_IRQ_FORCE", 0x18, [], .per, 0x0, [⟨31, 0, .wo, "FORCE"⟩]⟩,
  ⟨"AUDIT_IRQ_SUB", 0x1C, [], .per, 0x0, [⟨31, 0, .ro, "SUB"⟩]⟩,
  ⟨"AUDIT_CTRL", 0x100, [], .per, 0x107, [⟨15, 8, .rw, "RATE_PCT"⟩, ⟨2, 2, .rw, "COFFER_EN"⟩, ⟨1, 1, .rw, "TILL_EN"⟩, ⟨0, 0, .rw, "VAULT_EN"⟩]⟩,
  ⟨"AUDIT_LAP_LIMIT", 0x104, [], .per, 0x15180, [⟨31, 0, .rw, "SECONDS"⟩]⟩,
  ⟨"AUDIT_VAULT_CURSOR_LO", 0x110, [], .per, 0x0, [⟨31, 0, .ro, "RECORD"⟩]⟩,
  ⟨"AUDIT_VAULT_CURSOR_HI", 0x114, [], .per, 0x0, [⟨3, 0, .ro, "RANK"⟩]⟩,
  ⟨"AUDIT_UE_INFO", 0x120, [], .per, 0x0, [⟨31, 31, .ro, "VALID"⟩, ⟨30, 30, .ro, "ONCHIP"⟩, ⟨29, 28, .ro, "BRANCH"⟩, ⟨27, 24, .ro, "UNIT"⟩, ⟨18, 16, .ro, "REQUESTER"⟩, ⟨6, 0, .ro, "TELLER"⟩]⟩,
  ⟨"AUDIT_UE_ADDR_LO", 0x124, [], .per, 0x0, [⟨31, 0, .ro, "ADDR"⟩]⟩,
  ⟨"AUDIT_UE_ADDR_HI", 0x128, [], .per, 0x0, [⟨31, 0, .ro, "ADDR"⟩]⟩,
  ⟨"AUDIT_UE_SEC", 0x12C, [], .per, 0x0, [⟨31, 0, .ro, "SEC"⟩]⟩,
  ⟨"AUDIT_UE_NS", 0x130, [], .per, 0x0, [⟨29, 0, .ro, "NS"⟩]⟩,
  ⟨"AUDIT_LAP_LAST", 0x200, [(16, 6)], .per, 0x0, [⟨31, 0, .ro, "LAST_MS"⟩]⟩,
  ⟨"AUDIT_LAP_CUR", 0x204, [(16, 6)], .per, 0x0, [⟨31, 0, .ro, "CUR_MS"⟩]⟩,
  ⟨"AUDIT_LAP_LAPS", 0x208, [(16, 6)], .per, 0x0, [⟨31, 0, .ro, "LAPS"⟩]⟩,
  ⟨"AUDIT_RANK_UE", 0x300, [(4, 16)], .per, 0x0, [⟨31, 0, .ro, "COUNT"⟩]⟩,
  ⟨"AUDIT_SRAM_CE", 0x380, [(16, 8)], .per, 0x0, [⟨31, 0, .rc, "CE"⟩]⟩,
  ⟨"AUDIT_SRAM_UE_TRANS", 0x384, [(16, 8)], .per, 0x0, [⟨31, 0, .rc, "UE_TRANS"⟩]⟩,
  ⟨"AUDIT_SRAM_REBUILT", 0x388, [(16, 8)], .per, 0x0, [⟨31, 0, .rc, "REBUILT"⟩]⟩,
  ⟨"AUDIT_SRAM_UE_LASTING", 0x38C, [(16, 8)], .per, 0x0, [⟨31, 0, .rc, "UE_LASTING"⟩]⟩,
  ⟨"AUDIT_VAULT_CE_SCRUB_CNT", 0x400, [], .per, 0x0, [⟨31, 0, .rc, "COUNT"⟩]⟩,
  ⟨"AUDIT_VAULT_UE_TRANS_CNT", 0x404, [], .per, 0x0, [⟨31, 0, .rc, "COUNT"⟩]⟩,
  ⟨"AUDIT_VAULT_UE_LASTING_CNT", 0x408, [], .per, 0x0, [⟨31, 0, .rc, "COUNT"⟩]⟩,
  ⟨"AUDIT_POISON_READ_CNT", 0x40C, [], .per, 0x0, [⟨31, 0, .rc, "COUNT"⟩]⟩,
  ⟨"AUDIT_PEER_REPAIR_CNT", 0x410, [], .per, 0x0, [⟨31, 0, .rc, "COUNT"⟩]⟩,
  ⟨"AUDIT_PEER_FAIL_CNT", 0x414, [], .per, 0x0, [⟨31, 0, .rc, "COUNT"⟩]⟩,
  ⟨"AUDIT_MERGE_FULL_CNT", 0x418, [], .per, 0x0, [⟨31, 0, .rc, "COUNT"⟩]⟩,
  ⟨"AUDIT_MERGE_RMW_CNT", 0x41C, [], .per, 0x0, [⟨31, 0, .rc, "COUNT"⟩]⟩]

/-- Registers of the AUDIT block (chapter 16), part 2. -/
def rowsAudit1 : List RegRow := [
  ⟨"AUDIT_MERGE_EARLY_CNT", 0x420, [], .per, 0x0, [⟨31, 0, .rc, "COUNT"⟩]⟩,
  ⟨"AUDIT_PARTIAL_FAIL_CNT", 0x424, [], .per, 0x0, [⟨31, 0, .rc, "COUNT"⟩]⟩]

/-- Every register of the AUDIT block. -/
def rowsAudit : List RegRow := rowsAudit0 ++ rowsAudit1

/-- Registers of the NOSE block (chapter 10), part 1. -/
def rowsNose0 : List RegRow := [
  ⟨"NOSE_ID", 0x0, [], .per, 0x0, [⟨31, 24, .ro, "BLOCK"⟩, ⟨23, 16, .ro, "INSTANCE"⟩, ⟨7, 0, .ro, "STEPPING"⟩]⟩,
  ⟨"NOSE_IRQ_CAUSE", 0x10, [], .per, 0x0, [⟨7, 7, .w1c, "MEM_REFUSED"⟩, ⟨6, 6, .w1c, "THROTTLE"⟩, ⟨5, 5, .w1c, "MEM_UNCORR"⟩, ⟨4, 4, .w1c, "FAULT"⟩, ⟨3, 3, .w1c, "REPORT_LOST"⟩, ⟨2, 2, .w1c, "SKIP"⟩, ⟨1, 1, .w1c, "VALIDATED"⟩, ⟨0, 0, .w1c, "QUIESCED"⟩]⟩,
  ⟨"NOSE_IRQ_MASK", 0x14, [], .per, 0x0, [⟨31, 0, .rw, "MASK"⟩]⟩,
  ⟨"NOSE_IRQ_FORCE", 0x18, [], .per, 0x0, [⟨31, 0, .wo, "FORCE"⟩]⟩,
  ⟨"NOSE_IRQ_SUB", 0x1C, [], .per, 0x0, [⟨31, 0, .ro, "SUB"⟩]⟩,
  ⟨"NOSE_CFG", 0x100, [], .repl, 0x0, [⟨31, 16, .rw, "DEPTH_KIB"⟩, ⟨0, 0, .rw, "GAP_RESTART"⟩]⟩,
  ⟨"NOSE_BACKLOG_CFG", 0x104, [], .repl, 0x100040, [⟨31, 16, .rw, "BURST_KIB"⟩, ⟨15, 0, .rw, "LIMIT_KIB"⟩]⟩,
  ⟨"NOSE_BURST_CFG", 0x108, [], .repl, 0x110, [⟨8, 8, .rw, "EN"⟩, ⟨7, 0, .rw, "ALLOW"⟩]⟩,
  ⟨"NOSE_STATUS", 0x10C, [], .per, 0x0, [⟨31, 30, .ro, "STEP"⟩, ⟨29, 29, .ro, "BURST"⟩, ⟨28, 28, .ro, "HOLD"⟩, ⟨27, 16, .ro, "BACKLOG_KIB"⟩, ⟨8, 0, .ro, "QUEUED"⟩]⟩,
  ⟨"NOSE_INFO", 0x110, [], .per, 0x0, [⟨22, 16, .ro, "GROUP_COUNT"⟩, ⟨13, 0, .ro, "PATTERN_COUNT"⟩]⟩,
  ⟨"NOSE_GRP_CMD", 0x120, [], .b0, 0x0, [⟨13, 8, .rw, "GROUP"⟩, ⟨1, 0, .wo, "OP"⟩]⟩,
  ⟨"NOSE_GRP_RESULT", 0x124, [], .b0, 0x0, [⟨2, 0, .ro, "RESULT"⟩]⟩,
  ⟨"NOSE_GRP_DONE_SEC", 0x128, [], .b0, 0x0, [⟨31, 0, .ro, "SEC"⟩]⟩,
  ⟨"NOSE_GRP_DONE_NS", 0x12C, [], .b0, 0x0, [⟨29, 0, .ro, "NS"⟩]⟩,
  ⟨"NOSE_MEM_ADDR", 0x130, [], .b0, 0x0, [⟨31, 31, .rw, "AUTOINC"⟩, ⟨22, 2, .rw, "ADDR"⟩]⟩,
  ⟨"NOSE_MEM_DATA", 0x134, [], .b0, 0x0, [⟨31, 0, .wo, "DATA"⟩]⟩,
  ⟨"NOSE_GRP_STATE", 0x200, [(8, 64)], .repl, 0x0, [⟨31, 31, .ro, "VALID"⟩, ⟨30, 30, .ro, "QUIESCED"⟩, ⟨7, 0, .ro, "GEN"⟩]⟩,
  ⟨"NOSE_GRP_START", 0x204, [(8, 64)], .repl, 0x0, [⟨21, 0, .rw, "START"⟩]⟩,
  ⟨"NOSE_GRP_BASE", 0x400, [(16, 64)], .repl, 0x0, [⟨21, 0, .ro, "BASE"⟩]⟩,
  ⟨"NOSE_GRP_LIMIT", 0x404, [(16, 64)], .repl, 0x0, [⟨21, 0, .ro, "LIMIT"⟩]⟩,
  ⟨"NOSE_GRP_PAT", 0x408, [(16, 64)], .repl, 0x0, [⟨29, 16, .ro, "PAT_COUNT"⟩, ⟨12, 0, .ro, "PAT_FIRST"⟩]⟩,
  ⟨"NOSE_BYTES_LO", 0x800, [], .per, 0x0, [⟨31, 0, .ro, "COUNT"⟩]⟩,
  ⟨"NOSE_BYTES_HI", 0x804, [], .per, 0x0, [⟨31, 0, .ro, "COUNT"⟩]⟩,
  ⟨"NOSE_SCAN_CNT", 0x810, [], .per, 0x0, [⟨31, 0, .rc, "COUNT"⟩]⟩,
  ⟨"NOSE_MATCH_CNT", 0x814, [], .per, 0x0, [⟨31, 0, .rc, "COUNT"⟩]⟩,
  ⟨"NOSE_SKIP_CNT", 0x818, [], .per, 0x0, [⟨31, 0, .rc, "COUNT"⟩]⟩,
  ⟨"NOSE_INVALID_CNT", 0x81C, [], .per, 0x0, [⟨31, 0, .rc, "COUNT"⟩]⟩,
  ⟨"NOSE_STOPPED_CNT", 0x820, [], .per, 0x0, [⟨31, 0, .rc, "COUNT"⟩]⟩,
  ⟨"NOSE_RESTART_CNT", 0x824, [], .per, 0x0, [⟨31, 0, .rc, "COUNT"⟩]⟩,
  ⟨"NOSE_REPORT_LOST_CNT", 0x828, [], .per, 0x0, [⟨31, 0, .rc, "COUNT"⟩]⟩]

/-- Registers of the NOSE block (chapter 10), part 2. -/
def rowsNose1 : List RegRow := [
  ⟨"NOSE_MEM_CORR_CNT", 0x82C, [], .per, 0x0, [⟨31, 0, .rc, "COUNT"⟩]⟩,
  ⟨"NOSE_MEM_UNCORR_CNT", 0x830, [], .per, 0x0, [⟨31, 0, .rc, "COUNT"⟩]⟩,
  ⟨"NOSE_FAULT_CNT", 0x834, [], .per, 0x0, [⟨31, 0, .rc, "COUNT"⟩]⟩,
  ⟨"NOSE_MEM_REFUSED_CNT", 0x838, [], .per, 0x0, [⟨31, 0, .rc, "COUNT"⟩]⟩]

/-- Every register of the NOSE block. -/
def rowsNose : List RegRow := rowsNose0 ++ rowsNose1

/-- Registers of the MINT block (chapter 11). -/
def rowsMint : List RegRow := [
  ⟨"MINT_ID", 0x0, [], .per, 0x0, [⟨31, 24, .ro, "BLOCK"⟩, ⟨23, 16, .ro, "INSTANCE"⟩, ⟨7, 0, .ro, "STEPPING"⟩]⟩,
  ⟨"MINT_IRQ_CAUSE", 0x10, [], .per, 0x0, [⟨2, 2, .w1c, "EXPRESS_IN_USE"⟩, ⟨1, 1, .w1c, "GLOBAL_LOW"⟩, ⟨0, 0, .w1c, "REFUSED"⟩]⟩,
  ⟨"MINT_IRQ_MASK", 0x14, [], .per, 0x0, [⟨31, 0, .rw, "MASK"⟩]⟩,
  ⟨"MINT_IRQ_FORCE", 0x18, [], .per, 0x0, [⟨31, 0, .wo, "FORCE"⟩]⟩,
  ⟨"MINT_IRQ_SUB", 0x1C, [], .per, 0x0, [⟨31, 0, .ro, "SUB"⟩]⟩,
  ⟨"MINT_GLOBAL_LOW", 0x100, [], .per, 0x2000, [⟨18, 0, .rw, "CELLS"⟩]⟩,
  ⟨"MINT_GLOBAL_SIZE", 0x104, [], .per, 0x0, [⟨18, 0, .ro, "CELLS"⟩]⟩,
  ⟨"MINT_GLOBAL_USED", 0x108, [], .per, 0x0, [⟨18, 0, .ro, "CELLS"⟩]⟩,
  ⟨"MINT_EXPRESS_SIZE", 0x10C, [], .per, 0x0, [⟨18, 0, .ro, "CELLS"⟩]⟩,
  ⟨"MINT_EXPRESS_USED", 0x110, [], .per, 0x0, [⟨18, 0, .ro, "CELLS"⟩]⟩,
  ⟨"MINT_FREE", 0x114, [], .per, 0x40000, [⟨18, 0, .ro, "CELLS"⟩]⟩,
  ⟨"MINT_RSV_MIN", 0x120, [(4, 8)], .per, 0x0, [⟨15, 0, .ro, "CELLS"⟩]⟩,
  ⟨"MINT_PORT_SHARED", 0x200, [(4, 64)], .per, 0x0, [⟨15, 0, .ro, "CELLS"⟩]⟩,
  ⟨"MINT_PORT_USED", 0x300, [(4, 64)], .per, 0x0, [⟨31, 16, .ro, "RSV_USED"⟩, ⟨15, 0, .ro, "SHARED_USED"⟩]⟩,
  ⟨"MINT_REFUSED_CNT", 0x400, [(4, 64)], .per, 0x0, [⟨31, 0, .rc, "COUNT"⟩]⟩,
  ⟨"MINT_REFUSED_INJ_CNT", 0x500, [], .per, 0x0, [⟨31, 0, .rc, "COUNT"⟩]⟩,
  ⟨"MINT_REFUSED_TETH_CNT", 0x504, [], .per, 0x0, [⟨31, 0, .rc, "COUNT"⟩]⟩,
  ⟨"MINT_QENT_FREE", 0x508, [], .per, 0x80000, [⟨19, 0, .ro, "ENTRIES"⟩]⟩,
  ⟨"MINT_QENT_REFUSED_CNT", 0x50C, [], .per, 0x0, [⟨31, 0, .rc, "COUNT"⟩]⟩]

/-- Registers of the SWC block (chapter 11). -/
def rowsSwc : List RegRow := [
  ⟨"SWC_ID", 0x0, [], .per, 0x0, [⟨31, 24, .ro, "BLOCK"⟩, ⟨23, 16, .ro, "INSTANCE"⟩, ⟨7, 0, .ro, "STEPPING"⟩]⟩,
  ⟨"SWC_IRQ_CAUSE", 0x10, [], .per, 0x0, [⟨4, 4, .w1c, "GRP_REFUSED"⟩, ⟨3, 3, .w1c, "SAMPLE_LOST"⟩, ⟨2, 2, .w1c, "BAD_TARGET"⟩, ⟨1, 1, .w1c, "HOSTQ_FULL"⟩, ⟨0, 0, .w1c, "BAD_TAIL"⟩]⟩,
  ⟨"SWC_IRQ_MASK", 0x14, [], .per, 0x0, [⟨31, 0, .rw, "MASK"⟩]⟩,
  ⟨"SWC_IRQ_FORCE", 0x18, [], .per, 0x0, [⟨31, 0, .wo, "FORCE"⟩]⟩,
  ⟨"SWC_IRQ_SUB", 0x1C, [], .per, 0x0, [⟨31, 0, .ro, "SUB"⟩]⟩,
  ⟨"SWC_CT_EN_LO", 0x100, [], .per, 0xFFFFFFFF, [⟨31, 0, .rw, "EN"⟩]⟩,
  ⟨"SWC_CT_EN_HI", 0x104, [], .per, 0xFFFFFFFF, [⟨31, 0, .rw, "EN"⟩]⟩,
  ⟨"SWC_HOSTQ_LIMIT", 0x108, [], .per, 0x1000, [⟨15, 0, .rw, "COPIES"⟩]⟩,
  ⟨"SWC_GRP_CMD", 0x110, [], .per, 0x0, [⟨24, 16, .rw, "GROUP"⟩, ⟨1, 0, .wo, "OP"⟩]⟩,
  ⟨"SWC_GRP_STATUS", 0x114, [], .per, 0x0, [⟨0, 0, .ro, "RESULT"⟩]⟩,
  ⟨"SWC_GRP_PORTS_LO", 0x118, [], .per, 0x0, [⟨31, 0, .rw, "PORTS"⟩]⟩,
  ⟨"SWC_GRP_PORTS_HI", 0x11C, [], .per, 0x0, [⟨31, 0, .rw, "PORTS"⟩]⟩,
  ⟨"SWC_GRP_HOST", 0x120, [], .per, 0x0, [⟨16, 16, .rw, "HAIRPIN"⟩, ⟨15, 0, .rw, "HOSTS"⟩]⟩,
  ⟨"SWC_SAMPLE_CFG", 0x200, [(8, 64)], .per, 0x3FF, [⟨31, 31, .rw, "EN"⟩, ⟨30, 30, .rw, "RANDOM"⟩, ⟨27, 24, .rw, "RING"⟩, ⟨23, 0, .rw, "N_M1"⟩]⟩,
  ⟨"SWC_SAMPLE_SEED", 0x204, [(8, 64)], .per, 0x2000000, [⟨27, 24, .rw, "TRUNC"⟩, ⟨23, 0, .wo, "SEED"⟩]⟩,
  ⟨"SWC_SAMPLE_CNT", 0x400, [(4, 64)], .per, 0x0, [⟨31, 0, .rc, "COUNT"⟩]⟩,
  ⟨"SWC_BAD_TAIL_CNT", 0x500, [(4, 64)], .per, 0x0, [⟨31, 0, .rc, "COUNT"⟩]⟩,
  ⟨"SWC_HOSTQ_DEPTH", 0x600, [(4, 16)], .per, 0x0, [⟨19, 0, .ro, "COPIES"⟩]⟩,
  ⟨"SWC_HOSTQ_DROP_CNT", 0x640, [(4, 16)], .per, 0x0, [⟨31, 0, .rc, "COUNT"⟩]⟩,
  ⟨"SWC_TETHQ_DEPTH", 0x680, [(4, 8)], .per, 0x0, [⟨19, 0, .ro, "COPIES"⟩]⟩,
  ⟨"SWC_SAMPLE_LOST_CNT", 0x6A0, [], .per, 0x0, [⟨31, 0, .rc, "COUNT"⟩]⟩,
  ⟨"SWC_BAD_TARGET_CNT", 0x6A4, [], .per, 0x0, [⟨31, 0, .rc, "COUNT"⟩]⟩]

/-- Registers of the TM block (chapter 12), part 1. -/
def rowsTm0 : List RegRow := [
  ⟨"TM_ID", 0x0, [], .per, 0x0, [⟨31, 24, .ro, "BLOCK"⟩, ⟨23, 16, .ro, "INSTANCE"⟩, ⟨7, 0, .ro, "STEPPING"⟩]⟩,
  ⟨"TM_IRQ_CAUSE", 0x10, [], .per, 0x0, [⟨3, 3, .w1c, "HOLD_EXPIRED"⟩, ⟨2, 2, .w1c, "NEVER_FITS"⟩, ⟨1, 1, .w1c, "GATE_BAD"⟩, ⟨0, 0, .w1c, "GATE_SWITCHED"⟩]⟩,
  ⟨"TM_IRQ_MASK", 0x14, [], .per, 0x0, [⟨31, 0, .rw, "MASK"⟩]⟩,
  ⟨"TM_IRQ_FORCE", 0x18, [], .per, 0x0, [⟨31, 0, .wo, "FORCE"⟩]⟩,
  ⟨"TM_IRQ_SUB", 0x1C, [], .per, 0x0, [⟨31, 0, .ro, "SUB"⟩]⟩,
  ⟨"TM_HOST_RATE", 0x100, [], .per, 0x186A0, [⟨18, 0, .rw, "MBPS"⟩]⟩,
  ⟨"TM_GCL_ADDR", 0x200, [], .per, 0x0, [⟨31, 31, .rw, "AUTOINC"⟩, ⟨21, 16, .rw, "PORT"⟩, ⟨9, 0, .rw, "ENTRY"⟩]⟩,
  ⟨"TM_GCL_MASK", 0x204, [], .per, 0x0, [⟨7, 0, .rw, "MASK"⟩]⟩,
  ⟨"TM_GCL_DUR", 0x208, [], .per, 0x0, [⟨31, 0, .rw, "DURATION_NS"⟩]⟩,
  ⟨"TM_GCL_REFUSED_CNT", 0x20C, [], .per, 0x0, [⟨31, 0, .rc, "COUNT"⟩]⟩,
  ⟨"TM_POL_CMD", 0x300, [], .per, 0x0, [⟨31, 16, .rw, "INDEX"⟩, ⟨9, 8, .rw, "BRANCH"⟩, ⟨3, 0, .wo, "OP"⟩]⟩,
  ⟨"TM_POL_STATUS", 0x304, [], .per, 0x0, [⟨31, 31, .ro, "BUSY"⟩, ⟨2, 2, .ro, "TOKENS_SIGN"⟩, ⟨1, 0, .ro, "RESULT"⟩]⟩,
  ⟨"TM_POL_CIR", 0x308, [], .per, 0xFFFFFFFF, [⟨31, 0, .rw, "CIR_KBPS"⟩]⟩,
  ⟨"TM_POL_CBS", 0x30C, [], .per, 0xFFFFFFFF, [⟨31, 0, .rw, "CBS"⟩]⟩,
  ⟨"TM_POL_FLAGS", 0x310, [], .per, 0x0, [⟨0, 0, .rw, "WIRE"⟩]⟩,
  ⟨"TM_POL_TOKENS", 0x314, [], .per, 0x0, [⟨31, 0, .ro, "TOKENS"⟩]⟩,
  ⟨"TM_POL_DROPS", 0x318, [], .per, 0x0, [⟨31, 0, .ro, "DROPS"⟩]⟩,
  ⟨"TM_PORT_CTRL", 0x1000, [(64, 64)], .per, 0x14, [⟨9, 8, .rw, "FC_MODE"⟩, ⟨7, 7, .rw, "ACCT"⟩, ⟨5, 0, .rw, "OVERHEAD"⟩]⟩,
  ⟨"TM_PORT_HOLD", 0x1004, [(64, 64)], .per, 0x0, [⟨19, 0, .rw, "HOLD_US"⟩]⟩,
  ⟨"TM_PORT_STATUS", 0x1008, [(64, 64)], .per, 0x0, [⟨17, 17, .ro, "HOLDING"⟩, ⟨16, 16, .ro, "XOFF_SENT"⟩, ⟨7, 0, .ro, "PAUSED"⟩]⟩,
  ⟨"TM_PORT_PFC", 0x100C, [(64, 64)], .per, 0xFF, [⟨15, 8, .rw, "TX_EN"⟩, ⟨7, 0, .rw, "RX_EN"⟩]⟩,
  ⟨"TM_PORT_PFC_MAP", 0x1010, [(64, 64)], .per, 0xFAC688, [⟨23, 0, .rw, "MAP"⟩]⟩,
  ⟨"TM_PORT_FC_THR", 0x1014, [(64, 64)], .per, 0x1000200, [⟨31, 16, .rw, "XON"⟩, ⟨15, 0, .rw, "XOFF"⟩]⟩,
  ⟨"TM_GATE_CTRL", 0x1018, [(64, 64)], .per, 0x1, [⟨31, 31, .rw, "EN"⟩, ⟨16, 16, .wo, "CHANGE"⟩, ⟨10, 0, .rw, "LEN"⟩]⟩,
  ⟨"TM_GATE_BASE_SEC_LO", 0x101C, [(64, 64)], .per, 0x0, [⟨31, 0, .rw, "SEC"⟩]⟩,
  ⟨"TM_GATE_BASE_SEC_HI", 0x1020, [(64, 64)], .per, 0x0, [⟨31, 0, .rw, "SEC"⟩]⟩,
  ⟨"TM_GATE_BASE_NS", 0x1024, [(64, 64)], .per, 0x0, [⟨29, 0, .rw, "NS"⟩]⟩,
  ⟨"TM_GATE_CYCLE_NS", 0x1028, [(64, 64)], .per, 0xF4240, [⟨31, 0, .rw, "CYCLE_NS"⟩]⟩,
  ⟨"TM_GATE_STATUS", 0x102C, [(64, 64)], .per, 0x0, [⟨31, 31, .ro, "EN"⟩, ⟨30, 30, .ro, "PENDING"⟩, ⟨29, 29, .ro, "ERR"⟩, ⟨28, 28, .ro, "IN_FORCE"⟩, ⟨10, 0, .ro, "OPER_LEN"⟩]⟩,
  ⟨"TM_GATE_CHANGE_SEC", 0x1030, [(64, 64)], .per, 0x0, [⟨31, 0, .ro, "SEC"⟩]⟩]

/-- Registers of the TM block (chapter 12), part 2. -/
def rowsTm1 : List RegRow := [
  ⟨"TM_GATE_CHANGE_NS", 0x1034, [(64, 64)], .per, 0x0, [⟨29, 0, .ro, "NS"⟩]⟩,
  ⟨"TM_FC_CNT", 0x1038, [(64, 64)], .per, 0x0, [⟨31, 16, .rc, "FC_IGNORED"⟩, ⟨15, 0, .rc, "FC_TX"⟩]⟩,
  ⟨"TM_GATE_OVERRUN_CNT", 0x103C, [(64, 64)], .per, 0x0, [⟨31, 0, .rc, "OVERRUN"⟩]⟩,
  ⟨"TM_CLASS_CTRL", 0x4000, [(32, 536)], .per, 0x602, [⟨31, 31, .rw, "SHAPE_EN"⟩, ⟨30, 30, .wo, "CLEAR_DEBT"⟩, ⟨16, 0, .rw, "QUANTUM"⟩]⟩,
  ⟨"TM_CLASS_IDLE", 0x4004, [(32, 536)], .per, 0x0, [⟨18, 0, .rw, "IDLE_MBPS"⟩]⟩,
  ⟨"TM_CLASS_HI_CLAMP", 0x4008, [(32, 536)], .per, 0x7FFFFFFF, [⟨31, 0, .rw, "HI_CLAMP"⟩]⟩,
  ⟨"TM_CLASS_LO_CLAMP", 0x400C, [(32, 536)], .per, 0x80000000, [⟨31, 0, .rw, "LO_CLAMP"⟩]⟩,
  ⟨"TM_CLASS_CREDIT", 0x4010, [(32, 536)], .per, 0x0, [⟨31, 0, .ro, "CREDIT"⟩]⟩,
  ⟨"TM_CLASS_DEFICIT", 0x4014, [(32, 536)], .per, 0x0, [⟨31, 0, .ro, "DEFICIT"⟩]⟩,
  ⟨"TM_CLASS_DEPTH", 0x4018, [(32, 536)], .per, 0x0, [⟨19, 0, .ro, "DEPTH"⟩]⟩,
  ⟨"TM_CLASS_STATUS", 0x401C, [(32, 536)], .per, 0x0, [⟨3, 3, .ro, "PAUSED"⟩, ⟨2, 2, .ro, "GATE_HELD"⟩, ⟨1, 1, .ro, "IN_DEBT"⟩, ⟨0, 0, .ro, "ELIGIBLE"⟩]⟩]

/-- Every register of the TM block. -/
def rowsTm : List RegRow := rowsTm0 ++ rowsTm1

/-- Registers of the EGR block (chapter 09, 11 and 14). -/
def rowsEgr : List RegRow := [
  ⟨"EGR_ID", 0x0, [], .per, 0x0, [⟨31, 24, .ro, "BLOCK"⟩, ⟨23, 16, .ro, "INSTANCE"⟩, ⟨7, 0, .ro, "STEPPING"⟩]⟩,
  ⟨"EGR_IRQ_CAUSE", 0x10, [], .per, 0x0, []⟩,
  ⟨"EGR_IRQ_MASK", 0x14, [], .per, 0x0, [⟨31, 0, .rw, "MASK"⟩]⟩,
  ⟨"EGR_IRQ_FORCE", 0x18, [], .per, 0x0, [⟨31, 0, .wo, "FORCE"⟩]⟩,
  ⟨"EGR_IRQ_SUB", 0x1C, [], .per, 0x0, [⟨31, 0, .ro, "SUB"⟩]⟩,
  ⟨"EGR_PUNT_CFG", 0xC00, [], .per, 0x0, [⟨3, 0, .rw, "ICMP_RING"⟩]⟩,
  ⟨"EGR_PROFILE_MISM_CNT", 0xC04, [], .per, 0x0, [⟨31, 0, .rc, "COUNT"⟩]⟩,
  ⟨"EGR_NPT_SKIP_CNT", 0xC08, [], .per, 0x0, [⟨31, 0, .rc, "COUNT"⟩]⟩,
  ⟨"EGR_PTP_SKIP_CNT", 0xC0C, [], .per, 0x0, [⟨31, 0, .rc, "COUNT"⟩]⟩,
  ⟨"EGR_PORT_SMAC_LO", 0xE00, [(8, 64)], .per, 0x0, [⟨31, 0, .rw, "MAC_LO"⟩]⟩,
  ⟨"EGR_PORT_SMAC_HI", 0xE04, [(8, 64)], .per, 0x0, [⟨15, 0, .rw, "MAC_HI"⟩]⟩,
  ⟨"EGR_PROFILE_CFG", 0x1000, [(8, 256)], .per, 0x0, [⟨7, 0, .rw, "KIND"⟩]⟩,
  ⟨"EGR_PROFILE_ARG", 0x1004, [(8, 256)], .per, 0x0, [⟨31, 0, .rw, "ARG"⟩]⟩,
  ⟨"EGR_NAT64_PFX", 0x1800, [(16, 16), (4, 3)], .per, 0x0, [⟨31, 0, .rw, "DATA"⟩]⟩,
  ⟨"EGR_NAT64_PFX3", 0x180C, [(16, 16)], .per, 0x0, []⟩,
  ⟨"EGR_NPT_INT", 0x2000, [(64, 64), (4, 4)], .per, 0x0, [⟨31, 0, .rw, "INT_PFX"⟩]⟩,
  ⟨"EGR_NPT_EXT", 0x2010, [(64, 64), (4, 4)], .per, 0x0, [⟨31, 0, .rw, "EXT_PFX"⟩]⟩,
  ⟨"EGR_NPT_CTL", 0x2020, [(64, 64)], .per, 0x30, [⟨31, 31, .rw, "VALID"⟩, ⟨7, 0, .rw, "PLEN"⟩]⟩,
  ⟨"EGR_NPT_ADJ", 0x2024, [(64, 64)], .per, 0x0, [⟨15, 0, .ro, "ADJ"⟩]⟩,
  ⟨"EGR_LB6_ADDR", 0x8000, [(16, 1024), (4, 4)], .per, 0x0, [⟨31, 0, .rw, "DATA"⟩]⟩,
  ⟨"EGR_NH_LO", 0x10000, [(8, 4096)], .per, 0x0, [⟨31, 0, .rw, "MAC_LO"⟩]⟩,
  ⟨"EGR_NH_HI", 0x10004, [(8, 4096)], .per, 0x0, [⟨15, 0, .rw, "MAC_HI"⟩]⟩]

/-- The registers of a block, with offsets inside one instance (R509). The disposition counter array has no rows: R148 lays it out. -/
def Block.rows : Block → List RegRow
  | .top => rowsTop
  | .sec => rowsSec
  | .treas => rowsTreas
  | .time => rowsTime
  | .perf => rowsPerf
  | .sill => rowsSill
  | .dma => rowsDma
  | .port => rowsPort
  | .lane => rowsLane
  | .teth => rowsTeth
  | .assay => rowsAssay
  | .sieve => rowsSieve
  | .disp => rowsDisp
  | .tell => rowsTell
  | .till => rowsTill
  | .vault => rowsVault
  | .vaultCh => rowsVaultCh
  | .audit => rowsAudit
  | .nose => rowsNose
  | .mint => rowsMint
  | .swc => rowsSwc
  | .tm => rowsTm
  | .egr => rowsEgr
  | .dispo => []

end Sys2Proof.Machine

/-! Named BAR0 offsets: block base plus stride times instance plus register offset (R507). -/
namespace Sys2Proof.Reg

abbrev TOP_IRQ_CAUSE : Nat := 0x10
abbrev TOP_IRQ_MASK : Nat := 0x14
abbrev TOP_IRQ_SUB : Nat := 0x1C
abbrev TOP_IRQ_SUMMARY : Nat := 0x40
abbrev TOP_IRQ_SUM_MASK : Nat := 0x44
abbrev TOP_IRQ_CTRL : Nat := 0x48
abbrev TOP_IRQ_EOI : Nat := 0x4C
abbrev TOP_IRQ_INST_PORT_LO : Nat := 0x50
abbrev TOP_IRQ_INST_PORT_HI : Nat := 0x54
abbrev TOP_IRQ_INST_LANE_LO : Nat := 0x58
abbrev TOP_IRQ_INST_LANE_HI : Nat := 0x5C
abbrev TOP_IRQ_INST_TELL : Nat := 0x60
abbrev TOP_IRQ_INST_BRANCH : Nat := 0x64
abbrev TOP_IRQ_STATUS : Nat := 0x68
abbrev TOP_COFFER_IRQ_CAUSE : Nat := 0x80
abbrev TOP_COFFER_IRQ_MASK : Nat := 0x84
abbrev TOP_CHARTER_CTRL : Nat := 0x200
abbrev TOP_CHARTER_STATUS : Nat := 0x204
abbrev TOP_CHARTER_ERR : Nat := 0x208
abbrev TOP_CHARTER_PUSH_OFF : Nat := 0x20C
abbrev TOP_CHARTER_PUSH_LEN : Nat := 0x210
abbrev TOP_CHARTER_DRAIN_TMO : Nat := 0x214
abbrev TOP_CHARTER_SVN : Nat := 0x218
abbrev TOP_CHARTER_DISCARD_CNT : Nat := 0x21C
abbrev TOP_CHARTER_LOCKABORT_CNT : Nat := 0x220
abbrev TOP_CHARTER_MDIGEST (n : Nat) : Nat := 0x240 + 4 * n
abbrev TOP_CHARTER_IMAGE_ID (n : Nat) : Nat := 0x280 + 4 * n
abbrev SEC_IRQ_CAUSE : Nat := 0x10010
abbrev SEC_IRQ_MASK : Nat := 0x10014
abbrev SEC_IRQ_SUB : Nat := 0x1001C
abbrev SEC_MBOX_CMD : Nat := 0x10100
abbrev SEC_MBOX_STATUS : Nat := 0x10104
abbrev SEC_MBOX_LEN : Nat := 0x10108
abbrev SEC_LIFECYCLE : Nat := 0x1010C
abbrev SEC_DEVICE_ID_LO : Nat := 0x10110
abbrev SEC_DEVICE_ID_HI : Nat := 0x10114
abbrev SEC_FUSE_CFG : Nat := 0x10118
abbrev SEC_SLOT_STATUS : Nat := 0x1011C
abbrev SEC_STATUS : Nat := 0x10120
abbrev SEC_DEBUG : Nat := 0x10124
abbrev SEC_BOOT_STATUS : Nat := 0x10128
abbrev SEC_ROM_DIGEST (n : Nat) : Nat := 0x10140 + 4 * n
abbrev SEC_CHALLENGE (n : Nat) : Nat := 0x10180 + 4 * n
abbrev SEC_MBOX_BUF (n : Nat) : Nat := 0x18000 + 4 * n
abbrev TREAS_IRQ_CAUSE : Nat := 0x20010
abbrev TREAS_IRQ_MASK : Nat := 0x20014
abbrev TREAS_IRQ_SUB : Nat := 0x2001C
abbrev TREAS_PACE_STATUS (n : Nat) : Nat := 0x20100 + 4 * n
abbrev TREAS_PACE_VIOL_CNT (n : Nat) : Nat := 0x20110 + 4 * n
abbrev TREAS_STATE : Nat := 0x20120
abbrev TREAS_PSTATE_CMD : Nat := 0x20124
abbrev TREAS_DOMAIN_REQ : Nat := 0x20128
abbrev TREAS_DOMAIN_STATE0 : Nat := 0x20130
abbrev TREAS_DOMAIN_STATE1 : Nat := 0x20134
abbrev TREAS_RAMP : Nat := 0x20138
abbrev TREAS_QUIET_TMO : Nat := 0x2013C
abbrev TREAS_BUDGET_CFG : Nat := 0x20140
abbrev TREAS_BUDGET_STATUS : Nat := 0x20144
abbrev TREAS_SLEW_CFG : Nat := 0x20148
abbrev TREAS_AVS_CFG : Nat := 0x20160
abbrev TREAS_AVS_STATUS : Nat := 0x20164
abbrev TREAS_VRM_CFG : Nat := 0x20168
abbrev TREAS_BROWN_CFG : Nat := 0x20170
abbrev TREAS_BROWN_STATUS : Nat := 0x20174
abbrev TREAS_RESET_CAUSE : Nat := 0x20178
abbrev TREAS_SMB_CFG : Nat := 0x2017C
abbrev TREAS_USER_NOSE (n : Nat) : Nat := 0x20180 + 4 * n
abbrev TREAS_USER_RECIRC (n : Nat) : Nat := 0x20190 + 4 * n
abbrev TREAS_USER_MIGR : Nat := 0x201A0
abbrev TREAS_USER_AUDIT : Nat := 0x201A4
abbrev TREAS_USER_DOMAIN : Nat := 0x201A8
abbrev TREAS_USER (n : Nat) : Nat := 0x20180 + 4 * n
abbrev TREAS_TEMP (n : Nat) : Nat := 0x20200 + 4 * n
abbrev TREAS_THERM_CFG : Nat := 0x20240
abbrev TREAS_BROWN_CNT : Nat := 0x20280
abbrev TREAS_REFUSE_CNT : Nat := 0x20284
abbrev TREAS_REVOKE_CNT : Nat := 0x20288
abbrev TREAS_AVS_STEP_CNT : Nat := 0x2028C
abbrev TIME_IRQ_CAUSE : Nat := 0x30010
abbrev TIME_IRQ_MASK : Nat := 0x30014
abbrev TIME_IRQ_SUB : Nat := 0x3001C
abbrev TIME_CTRL : Nat := 0x30100
abbrev TIME_STATUS : Nat := 0x30104
abbrev TIME_INCR_LO : Nat := 0x30108
abbrev TIME_INCR_HI : Nat := 0x3010C
abbrev TIME_OFFSET_LO : Nat := 0x30110
abbrev TIME_OFFSET_HI : Nat := 0x30114
abbrev TIME_FOLLOW_THR : Nat := 0x30118
abbrev TIME_SNAP_SEC_LO : Nat := 0x30120
abbrev TIME_SNAP_SEC_HI : Nat := 0x30124
abbrev TIME_SNAP_NS : Nat := 0x30128
abbrev TIME_SNAP_FRAC : Nat := 0x3012C
abbrev TIME_PPS_CFG : Nat := 0x30130
abbrev TIME_TRIG_CTRL (n : Nat) : Nat := 0x30140 + 32 * n
abbrev TIME_TRIG_START_SEC_LO (n : Nat) : Nat := 0x30144 + 32 * n
abbrev TIME_TRIG_START_SEC_HI (n : Nat) : Nat := 0x30148 + 32 * n
abbrev TIME_TRIG_START_NS (n : Nat) : Nat := 0x3014C + 32 * n
abbrev TIME_TRIG_PERIOD_NS (n : Nat) : Nat := 0x30150 + 32 * n
abbrev TIME_TRIG_WIDTH_NS (n : Nat) : Nat := 0x30154 + 32 * n
abbrev TIME_TRIG_MISSED_CNT (n : Nat) : Nat := 0x30158 + 32 * n
abbrev TIME_CAP_CTRL (n : Nat) : Nat := 0x30240 + 16 * n
abbrev TIME_CAP_HEAD_NS (n : Nat) : Nat := 0x30244 + 16 * n
abbrev TIME_CAP_HEAD_SEC (n : Nat) : Nat := 0x30248 + 16 * n
abbrev TIME_CAP_POP (n : Nat) : Nat := 0x3024C + 16 * n
abbrev TIME_TS2_STATUS : Nat := 0x30300
abbrev TIME_TS2_INFO : Nat := 0x30304
abbrev TIME_TS2_NS : Nat := 0x30308
abbrev TIME_TS2_SEC : Nat := 0x3030C
abbrev TIME_TS2_FRAC : Nat := 0x30310
abbrev TIME_TS2_POP : Nat := 0x30314
abbrev TIME_TS2_LOST_CNT : Nat := 0x30318
abbrev TIME_PORT_RX_ADJ (n : Nat) : Nat := 0x30400 + 8 * n
abbrev TIME_PORT_TX_ADJ (n : Nat) : Nat := 0x30404 + 8 * n
abbrev PERF_IRQ_CAUSE : Nat := 0x40010
abbrev PERF_IRQ_MASK : Nat := 0x40014
abbrev PERF_IRQ_SUB : Nat := 0x4001C
abbrev PERF_CTRL : Nat := 0x40100
abbrev PERF_FREEZE_CTRL : Nat := 0x40104
abbrev PERF_FREEZE_STATUS : Nat := 0x40108
abbrev PERF_FREEZE_AT_SEC_LO : Nat := 0x4010C
abbrev PERF_FREEZE_AT_SEC_HI : Nat := 0x40110
abbrev PERF_FREEZE_AT_NS : Nat := 0x40114
abbrev PERF_FROZEN_SEC : Nat := 0x40118
abbrev PERF_FROZEN_NS : Nat := 0x4011C
abbrev PERF_WIN_CFG : Nat := 0x40120
abbrev PERF_DUMP_CFG : Nat := 0x40124
abbrev PERF_DUMP_SEQ : Nat := 0x40128
abbrev PERF_DUMP_SKIP_CNT : Nat := 0x4012C
abbrev PERF_TICK_LO (n : Nat) : Nat := 0x41000 + 128 * n
abbrev PERF_TICK_HI (n : Nat) : Nat := 0x41004 + 128 * n
abbrev PERF_UNIT_CTRL (n : Nat) : Nat := 0x41008 + 128 * n
abbrev PERF_EVT_SEL (n m : Nat) : Nat := 0x41020 + 128 * n + 4 * m
abbrev PERF_CNT_LO (n m : Nat) : Nat := 0x41040 + 128 * n + 8 * m
abbrev PERF_CNT_HI (n m : Nat) : Nat := 0x41044 + 128 * n + 8 * m
abbrev SILL_IRQ_CAUSE : Nat := 0x50010
abbrev SILL_IRQ_MASK : Nat := 0x50014
abbrev SILL_IRQ_SUB : Nat := 0x5001C
abbrev SILL_CFG : Nat := 0x50100
abbrev SILL_STATUS : Nat := 0x50104
abbrev SILL_DISP_CFG : Nat := 0x50108
abbrev SILL_RECORD_CNT_LO : Nat := 0x50110
abbrev SILL_RECORD_CNT_HI : Nat := 0x50114
abbrev SILL_LOST_CNT : Nat := 0x50118
abbrev SILL_KIND_MASK (n : Nat) : Nat := 0x50140 + 4 * n
abbrev DMA_IRQ_CAUSE : Nat := 0x60010
abbrev DMA_IRQ_MASK : Nat := 0x60014
abbrev DMA_IRQ_SUB : Nat := 0x6001C
abbrev DMA_RING_BASE_LO (n : Nat) : Nat := 0x61000 + 64 * n
abbrev DMA_RING_BASE_HI (n : Nat) : Nat := 0x61004 + 64 * n
abbrev DMA_RING_CFG (n : Nat) : Nat := 0x61008 + 64 * n
abbrev DMA_RING_HEAD (n : Nat) : Nat := 0x6100C + 64 * n
abbrev DMA_RING_TAIL (n : Nat) : Nat := 0x61010 + 64 * n
abbrev DMA_RING_STATUS (n : Nat) : Nat := 0x61014 + 64 * n
abbrev DMA_RING_HWB_LO (n : Nat) : Nat := 0x61018 + 64 * n
abbrev DMA_RING_HWB_HI (n : Nat) : Nat := 0x6101C + 64 * n
abbrev DMA_RING_DESC_CNT (n : Nat) : Nat := 0x61020 + 64 * n
abbrev DMA_RING_STARVE_CNT (n : Nat) : Nat := 0x61024 + 64 * n
abbrev DMA_MSIX_TABLE (n : Nat) : Nat := 0x68000 + 4 * n
abbrev DMA_MSIX_PBA (n : Nat) : Nat := 0x68800 + 4 * n
abbrev PORT_IRQ_CAUSE (i : Nat) : Nat := 0x80010 + 0x400 * i
abbrev PORT_IRQ_MASK (i : Nat) : Nat := 0x80014 + 0x400 * i
abbrev PORT_IRQ_SUB (i : Nat) : Nat := 0x8001C + 0x400 * i
abbrev PORT_CTRL (i : Nat) : Nat := 0x80100 + 0x400 * i
abbrev PORT_STATUS (i : Nat) : Nat := 0x80104 + 0x400 * i
abbrev PORT_RX_CFG (i : Nat) : Nat := 0x80108 + 0x400 * i
abbrev PORT_PCP_MAP (i : Nat) : Nat := 0x8010C + 0x400 * i
abbrev PORT_LINK_CFG (i : Nat) : Nat := 0x80110 + 0x400 * i
abbrev PORT_MODE (i : Nat) : Nat := 0x80114 + 0x400 * i
abbrev PORT_RX_FCS_ERR_CNT (i : Nat) : Nat := 0x80120 + 0x400 * i
abbrev PORT_RX_OVERRUN_CNT (i : Nat) : Nat := 0x80124 + 0x400 * i
abbrev PORT_RX_MACCTL_CNT (i : Nat) : Nat := 0x80128 + 0x400 * i
abbrev PORT_LINK_DOWN_CNT (i : Nat) : Nat := 0x8012C + 0x400 * i
abbrev PORT_FEC_CORR_CNT_LO (i : Nat) : Nat := 0x80130 + 0x400 * i
abbrev PORT_FEC_CORR_CNT_HI (i : Nat) : Nat := 0x80134 + 0x400 * i
abbrev PORT_FEC_UNCORR_CNT (i : Nat) : Nat := 0x80138 + 0x400 * i
abbrev LANE_IRQ_CAUSE (i : Nat) : Nat := 0xA0010 + 0x200 * i
abbrev LANE_IRQ_MASK (i : Nat) : Nat := 0xA0014 + 0x200 * i
abbrev LANE_IRQ_SUB (i : Nat) : Nat := 0xA001C + 0x200 * i
abbrev LANE_TX_EQ (i : Nat) : Nat := 0xA0100 + 0x200 * i
abbrev LANE_STATUS (i : Nat) : Nat := 0xA0104 + 0x200 * i
abbrev LANE_FEC_SYM_CNT (i : Nat) : Nat := 0xA0108 + 0x200 * i
abbrev TETH_IRQ_CAUSE : Nat := 0xC0010
abbrev TETH_IRQ_MASK : Nat := 0xC0014
abbrev TETH_IRQ_SUB : Nat := 0xC001C
abbrev TETH_CFG : Nat := 0xC0100
abbrev TETH_CTRL : Nat := 0xC0104
abbrev TETH_STATUS : Nat := 0xC0108
abbrev TETH_RECOVER_TMO : Nat := 0xC010C
abbrev TETH_LANE_ERR_LIMIT : Nat := 0xC0110
abbrev TETH_PEER_OFFSET_LO : Nat := 0xC0118
abbrev TETH_PEER_OFFSET_HI : Nat := 0xC011C
abbrev TETH_LOST_SEC : Nat := 0xC0120
abbrev TETH_LOST_NS : Nat := 0xC0124
abbrev TETH_LANE_EQ (n : Nat) : Nat := 0xC0140 + 4 * n
abbrev TETH_MIRROR_TX_CNT : Nat := 0xC0180
abbrev TETH_MIRROR_RX_CNT : Nat := 0xC0184
abbrev TETH_MIRROR_LOST_CNT : Nat := 0xC0188
abbrev TETH_MIRROR_IGNORED_CNT : Nat := 0xC018C
abbrev TETH_MIRROR_NOSLOT_CNT : Nat := 0xC0190
abbrev TETH_RETRY_CNT : Nat := 0xC0194
abbrev TETH_LASTING_CNT : Nat := 0xC0198
abbrev TETH_HB_MISS_CNT : Nat := 0xC019C
abbrev TETH_RECOVER_REQ_CNT : Nat := 0xC01A0
abbrev TETH_RECOVER_FAIL_CNT : Nat := 0xC01A4
abbrev TETH_DEGRADE_CNT : Nat := 0xC01A8
abbrev TETH_RX_DATA_CNT : Nat := 0xC01AC
abbrev ASSAY_IRQ_CAUSE (i : Nat) : Nat := 0x100010 + 0x10000 * i
abbrev ASSAY_IRQ_MASK (i : Nat) : Nat := 0x100014 + 0x10000 * i
abbrev ASSAY_IRQ_SUB (i : Nat) : Nat := 0x10001C + 0x10000 * i
abbrev ASSAY_RECIRC_CFG (i : Nat) : Nat := 0x100100 + 0x10000 * i
abbrev ASSAY_RECIRC_STATUS (i : Nat) : Nat := 0x100104 + 0x10000 * i
abbrev ASSAY_HASH_SEED_LO (i : Nat) : Nat := 0x100108 + 0x10000 * i
abbrev ASSAY_HASH_SEED_HI (i : Nat) : Nat := 0x10010C + 0x10000 * i
abbrev ASSAY_PORT_ACT (i n : Nat) : Nat := 0x100200 + 0x10000 * i + 4 * n
abbrev ASSAY_DEEP_CNT (i : Nat) : Nat := 0x100300 + 0x10000 * i
abbrev ASSAY_LEN_CNT (i : Nat) : Nat := 0x100304 + 0x10000 * i
abbrev ASSAY_LEN_TAIL_CNT (i : Nat) : Nat := 0x100308 + 0x10000 * i
abbrev ASSAY_PASS_LIMIT_CNT (i : Nat) : Nat := 0x10030C + 0x10000 * i
abbrev ASSAY_XCH_STALL_CNT (i : Nat) : Nat := 0x100310 + 0x10000 * i
abbrev ASSAY_RECIRC_CNT (i : Nat) : Nat := 0x100314 + 0x10000 * i
abbrev ASSAY_XCH_OUT_CNT (i n : Nat) : Nat := 0x100320 + 0x10000 * i + 4 * n
abbrev ASSAY_TEMPLATE_HIT (i n : Nat) : Nat := 0x101000 + 0x10000 * i + 4 * n
abbrev SIEVE_IRQ_CAUSE (i : Nat) : Nat := 0x140010 + 0x10000 * i
abbrev SIEVE_IRQ_MASK (i : Nat) : Nat := 0x140014 + 0x10000 * i
abbrev SIEVE_IRQ_SUB (i : Nat) : Nat := 0x14001C + 0x10000 * i
abbrev SIEVE_WR_CMD (i : Nat) : Nat := 0x140100 + 0x10000 * i
abbrev SIEVE_WR_STATUS (i : Nat) : Nat := 0x140104 + 0x10000 * i
abbrev SIEVE_WR_DONE_SEC (i : Nat) : Nat := 0x140108 + 0x10000 * i
abbrev SIEVE_WR_DONE_NS (i : Nat) : Nat := 0x14010C + 0x10000 * i
abbrev SIEVE_WR_DATA (i n : Nat) : Nat := 0x140140 + 0x10000 * i + 4 * n
abbrev SIEVE_ACCORD_CTRL (i : Nat) : Nat := 0x140200 + 0x10000 * i
abbrev SIEVE_ACCORD_STATUS (i : Nat) : Nat := 0x140204 + 0x10000 * i
abbrev SIEVE_ACCORD_SWAP_SEC (i : Nat) : Nat := 0x140208 + 0x10000 * i
abbrev SIEVE_ACCORD_SWAP_NS (i : Nat) : Nat := 0x14020C + 0x10000 * i
abbrev SIEVE_ACCORD_DRAIN_SEC (i : Nat) : Nat := 0x140210 + 0x10000 * i
abbrev SIEVE_ACCORD_DRAIN_NS (i : Nat) : Nat := 0x140214 + 0x10000 * i
abbrev SIEVE_ACCORD_INFLIGHT (i : Nat) : Nat := 0x140218 + 0x10000 * i
abbrev SIEVE_ACCORD_DRAIN_TMO (i : Nat) : Nat := 0x14021C + 0x10000 * i
abbrev SIEVE_DEFAULT_A_LO (i : Nat) : Nat := 0x140220 + 0x10000 * i
abbrev SIEVE_DEFAULT_A_HI (i : Nat) : Nat := 0x140224 + 0x10000 * i
abbrev SIEVE_DEFAULT_B_LO (i : Nat) : Nat := 0x140228 + 0x10000 * i
abbrev SIEVE_DEFAULT_B_HI (i : Nat) : Nat := 0x14022C + 0x10000 * i
abbrev SIEVE_LOOKUP_CNT (i : Nat) : Nat := 0x140300 + 0x10000 * i
abbrev SIEVE_MISS_CNT (i : Nat) : Nat := 0x140304 + 0x10000 * i
abbrev SIEVE_TIE_CNT (i : Nat) : Nat := 0x140308 + 0x10000 * i
abbrev SIEVE_STALE_CNT (i : Nat) : Nat := 0x14030C + 0x10000 * i
abbrev SIEVE_WR_REFUSED_CNT (i : Nat) : Nat := 0x140310 + 0x10000 * i
abbrev SIEVE_SPLIT (i : Nat) : Nat := 0x140400 + 0x10000 * i
abbrev SIEVE_TPL_CFG_A (i n : Nat) : Nat := 0x141000 + 0x10000 * i + 4 * n
abbrev SIEVE_TPL_CFG_B (i n : Nat) : Nat := 0x141400 + 0x10000 * i + 4 * n
abbrev DISP_IRQ_CAUSE (i : Nat) : Nat := 0x180010 + 0x4000 * i
abbrev DISP_IRQ_MASK (i : Nat) : Nat := 0x180014 + 0x4000 * i
abbrev DISP_IRQ_SUB (i : Nat) : Nat := 0x18001C + 0x4000 * i
abbrev DISP_CFG (i : Nat) : Nat := 0x180100 + 0x4000 * i
abbrev DISP_LIST_CFG (i : Nat) : Nat := 0x180104 + 0x4000 * i
abbrev DISP_SHARE_CFG (i : Nat) : Nat := 0x180108 + 0x4000 * i
abbrev DISP_WAIT_CFG (i : Nat) : Nat := 0x18010C + 0x4000 * i
abbrev DISP_TRACE_CFG (i : Nat) : Nat := 0x180110 + 0x4000 * i
abbrev DISP_MAINT_ROUTINE (i : Nat) : Nat := 0x180114 + 0x4000 * i
abbrev DISP_SWEEP_CFG (i : Nat) : Nat := 0x180118 + 0x4000 * i
abbrev DISP_SWEEP_CURSOR (i : Nat) : Nat := 0x18011C + 0x4000 * i
abbrev DISP_HOST_CMD (i : Nat) : Nat := 0x180130 + 0x4000 * i
abbrev DISP_HOST_STATUS (i : Nat) : Nat := 0x180134 + 0x4000 * i
abbrev DISP_HOST_DONE_SEC (i : Nat) : Nat := 0x180138 + 0x4000 * i
abbrev DISP_HOST_DONE_NS (i : Nat) : Nat := 0x18013C + 0x4000 * i
abbrev DISP_HOST_ITEM (i n : Nat) : Nat := 0x180140 + 0x4000 * i + 4 * n
abbrev DISP_AFF_ADDR (i : Nat) : Nat := 0x180180 + 0x4000 * i
abbrev DISP_AFF_DATA (i : Nat) : Nat := 0x180184 + 0x4000 * i
abbrev DISP_DEPTH (i n : Nat) : Nat := 0x180200 + 0x4000 * i + 4 * n
abbrev DISP_PEAK (i : Nat) : Nat := 0x180210 + 0x4000 * i
abbrev DISP_START_CNT (i n : Nat) : Nat := 0x180300 + 0x4000 * i + 4 * n
abbrev DISP_AFF_HIT_CNT (i : Nat) : Nat := 0x180310 + 0x4000 * i
abbrev DISP_AFF_FALLBACK_CNT (i : Nat) : Nat := 0x180314 + 0x4000 * i
abbrev DISP_PREEMPT_REQ_CNT (i : Nat) : Nat := 0x180318 + 0x4000 * i
abbrev DISP_PREEMPT_DECLINE_CNT (i : Nat) : Nat := 0x18031C + 0x4000 * i
abbrev DISP_PARK_CNT (i : Nat) : Nat := 0x180320 + 0x4000 * i
abbrev DISP_LOCK_WAIT_CNT (i : Nat) : Nat := 0x180324 + 0x4000 * i
abbrev DISP_FULL_STALL_CNT (i : Nat) : Nat := 0x180328 + 0x4000 * i
abbrev DISP_POST_REFUSED_CNT (i : Nat) : Nat := 0x18032C + 0x4000 * i
abbrev DISP_HOST_DONE_CNT (i : Nat) : Nat := 0x180330 + 0x4000 * i
abbrev TELL_IRQ_CAUSE (i : Nat) : Nat := 0x1C0010 + 0x1000 * i
abbrev TELL_IRQ_MASK (i : Nat) : Nat := 0x1C0014 + 0x1000 * i
abbrev TELL_IRQ_SUB (i : Nat) : Nat := 0x1C001C + 0x1000 * i
abbrev TELL_DESK_CTRL (i : Nat) : Nat := 0x1C0100 + 0x1000 * i
abbrev TELL_DESK_STATUS (i : Nat) : Nat := 0x1C0104 + 0x1000 * i
abbrev TELL_STEP_BUDGET (i : Nat) : Nat := 0x1C0108 + 0x1000 * i
abbrev TELL_TRAP_TRACE (i : Nat) : Nat := 0x1C010C + 0x1000 * i
abbrev TELL_PERM (i : Nat) : Nat := 0x1C0110 + 0x1000 * i
abbrev TELL_BRK (i n : Nat) : Nat := 0x1C0120 + 0x1000 * i + 4 * n
abbrev TELL_TCTRL (i n : Nat) : Nat := 0x1C0140 + 0x1000 * i + 4 * n
abbrev TELL_TSTATUS (i n : Nat) : Nat := 0x1C0160 + 0x1000 * i + 4 * n
abbrev TELL_FRAME_SEL (i : Nat) : Nat := 0x1C0180 + 0x1000 * i
abbrev TELL_FRAME_STATUS (i : Nat) : Nat := 0x1C0184 + 0x1000 * i
abbrev TELL_TCAUSE (i n : Nat) : Nat := 0x1C01A0 + 0x1000 * i + 4 * n
abbrev TELL_TCAUSE_MASK (i : Nat) : Nat := 0x1C01C0 + 0x1000 * i
abbrev TELL_FRAME_DATA (i n : Nat) : Nat := 0x1C0200 + 0x1000 * i + 4 * n
abbrev TELL_CS_ADDR (i : Nat) : Nat := 0x1C0380 + 0x1000 * i
abbrev TELL_CS_STATUS (i : Nat) : Nat := 0x1C0384 + 0x1000 * i
abbrev TELL_CS_DATA (i n : Nat) : Nat := 0x1C0390 + 0x1000 * i + 4 * n
abbrev TELL_STEP_CNT_LO (i : Nat) : Nat := 0x1C0400 + 0x1000 * i
abbrev TELL_STEP_CNT_HI (i : Nat) : Nat := 0x1C0404 + 0x1000 * i
abbrev TELL_ITEM_CNT_LO (i : Nat) : Nat := 0x1C0408 + 0x1000 * i
abbrev TELL_ITEM_CNT_HI (i : Nat) : Nat := 0x1C040C + 0x1000 * i
abbrev TELL_WAIT_NS_LO (i : Nat) : Nat := 0x1C0410 + 0x1000 * i
abbrev TELL_WAIT_NS_HI (i : Nat) : Nat := 0x1C0414 + 0x1000 * i
abbrev TELL_TRAP_CNT (i n : Nat) : Nat := 0x1C0420 + 0x1000 * i + 4 * n
abbrev TELL_HOLD_OVR_CNT (i : Nat) : Nat := 0x1C0440 + 0x1000 * i
abbrev TELL_CS_CORR_CNT (i : Nat) : Nat := 0x1C0444 + 0x1000 * i
abbrev TELL_CS_UNCORR_CNT (i : Nat) : Nat := 0x1C0448 + 0x1000 * i
abbrev TELL_MC_CNT_LO (i n : Nat) : Nat := 0x1C0800 + 0x1000 * i + 8 * n
abbrev TELL_MC_CNT_HI (i n : Nat) : Nat := 0x1C0804 + 0x1000 * i + 8 * n
abbrev TILL_IRQ_CAUSE (i : Nat) : Nat := 0x200010 + 0x10000 * i
abbrev TILL_IRQ_MASK (i : Nat) : Nat := 0x200014 + 0x10000 * i
abbrev TILL_IRQ_SUB (i : Nat) : Nat := 0x20001C + 0x10000 * i
abbrev TILL_CFG (i : Nat) : Nat := 0x200100 + 0x10000 * i
abbrev TILL_OCC (i : Nat) : Nat := 0x200104 + 0x10000 * i
abbrev TILL_DIRTY (i : Nat) : Nat := 0x200108 + 0x10000 * i
abbrev TILL_PINNED (i : Nat) : Nat := 0x20010C + 0x10000 * i
abbrev TILL_UPD_TCPF (i : Nat) : Nat := 0x200110 + 0x10000 * i
abbrev TILL_LOCK_WAIT_TMO (i : Nat) : Nat := 0x200120 + 0x10000 * i
abbrev TILL_LOCK_ALARM (i : Nat) : Nat := 0x200124 + 0x10000 * i
abbrev TILL_DUR_CFG (i : Nat) : Nat := 0x200128 + 0x10000 * i
abbrev TILL_FLUSH_CTRL (i : Nat) : Nat := 0x200130 + 0x10000 * i
abbrev TILL_FLUSH_STATUS (i : Nat) : Nat := 0x200134 + 0x10000 * i
abbrev TILL_FLUSH_DONE_SEC (i : Nat) : Nat := 0x200138 + 0x10000 * i
abbrev TILL_FLUSH_DONE_NS (i : Nat) : Nat := 0x20013C + 0x10000 * i
abbrev TILL_AGE_IDLE1 (i n : Nat) : Nat := 0x200140 + 0x10000 * i + 16 * n
abbrev TILL_AGE_IDLE2 (i n : Nat) : Nat := 0x200144 + 0x10000 * i + 16 * n
abbrev TILL_AGE_CLOSE (i n : Nat) : Nat := 0x200148 + 0x10000 * i + 16 * n
abbrev TILL_AGE_EXPORT (i n : Nat) : Nat := 0x20014C + 0x10000 * i + 16 * n
abbrev TILL_HREQ_CMD (i : Nat) : Nat := 0x200200 + 0x10000 * i
abbrev TILL_HREQ_STATUS (i : Nat) : Nat := 0x200204 + 0x10000 * i
abbrev TILL_HREQ_OWNER (i : Nat) : Nat := 0x200208 + 0x10000 * i
abbrev TILL_HREQ_LOCKT_LO (i : Nat) : Nat := 0x20020C + 0x10000 * i
abbrev TILL_HREQ_LOCKT_HI (i : Nat) : Nat := 0x200210 + 0x10000 * i
abbrev TILL_HREQ_HASH_LO (i : Nat) : Nat := 0x200214 + 0x10000 * i
abbrev TILL_HREQ_HASH_HI (i : Nat) : Nat := 0x200218 + 0x10000 * i
abbrev TILL_HREQ_SLOT (i : Nat) : Nat := 0x20021C + 0x10000 * i
abbrev TILL_HREQ_DONE_SEC (i : Nat) : Nat := 0x200220 + 0x10000 * i
abbrev TILL_HREQ_DONE_NS (i : Nat) : Nat := 0x200224 + 0x10000 * i
abbrev TILL_HREC_DATA (i n : Nat) : Nat := 0x200280 + 0x10000 * i + 4 * n
abbrev TILL_HIT_CNT_LO (i : Nat) : Nat := 0x200300 + 0x10000 * i
abbrev TILL_HIT_CNT_HI (i : Nat) : Nat := 0x200304 + 0x10000 * i
abbrev TILL_MISS_CNT_LO (i : Nat) : Nat := 0x200308 + 0x10000 * i
abbrev TILL_MISS_CNT_HI (i : Nat) : Nat := 0x20030C + 0x10000 * i
abbrev TILL_FAST_CNT_LO (i : Nat) : Nat := 0x200310 + 0x10000 * i
abbrev TILL_FAST_CNT_HI (i : Nat) : Nat := 0x200314 + 0x10000 * i
abbrev TILL_EVICT_CNT (i : Nat) : Nat := 0x200318 + 0x10000 * i
abbrev TILL_WB_CNT (i : Nat) : Nat := 0x20031C + 0x10000 * i
abbrev TILL_NOWAY_CNT (i : Nat) : Nat := 0x200320 + 0x10000 * i
abbrev TILL_PIN_REFUSED_CNT (i : Nat) : Nat := 0x200324 + 0x10000 * i
abbrev TILL_LOCK_ALARM_CNT (i : Nat) : Nat := 0x200328 + 0x10000 * i
abbrev TILL_EXPIRED_CNT (i : Nat) : Nat := 0x20032C + 0x10000 * i
abbrev TILL_DUR_WB_CNT (i : Nat) : Nat := 0x200330 + 0x10000 * i
abbrev TILL_FT_CFG (i : Nat) : Nat := 0x200400 + 0x10000 * i
abbrev TILL_FT_OCC (i : Nat) : Nat := 0x200404 + 0x10000 * i
abbrev TILL_FT_OCC_LIMIT (i : Nat) : Nat := 0x200408 + 0x10000 * i
abbrev TILL_FT_SETUP_RATE (i : Nat) : Nat := 0x20040C + 0x10000 * i
abbrev TILL_FT_SETUP_BURST (i : Nat) : Nat := 0x200410 + 0x10000 * i
abbrev TILL_FT_RELOC_CFG (i : Nat) : Nat := 0x200414 + 0x10000 * i
abbrev TILL_FT_MQ_STATUS (i : Nat) : Nat := 0x200418 + 0x10000 * i
abbrev TILL_FT_MQ_PEAK (i : Nat) : Nat := 0x20041C + 0x10000 * i
abbrev TILL_FT_CLAIMS (i : Nat) : Nat := 0x200420 + 0x10000 * i
abbrev TILL_FT_IRQ_CAUSE (i : Nat) : Nat := 0x200424 + 0x10000 * i
abbrev TILL_FT_IRQ_MASK (i : Nat) : Nat := 0x200428 + 0x10000 * i
abbrev TILL_FT_SETUP_LO (i : Nat) : Nat := 0x200440 + 0x10000 * i
abbrev TILL_FT_SETUP_HI (i : Nat) : Nat := 0x200444 + 0x10000 * i
abbrev TILL_FT_VHIT_A_LO (i : Nat) : Nat := 0x200448 + 0x10000 * i
abbrev TILL_FT_VHIT_A_HI (i : Nat) : Nat := 0x20044C + 0x10000 * i
abbrev TILL_FT_VHIT_B_LO (i : Nat) : Nat := 0x200450 + 0x10000 * i
abbrev TILL_FT_VHIT_B_HI (i : Nat) : Nat := 0x200454 + 0x10000 * i
abbrev TILL_FT_RD_OPS_LO (i : Nat) : Nat := 0x200458 + 0x10000 * i
abbrev TILL_FT_RD_OPS_HI (i : Nat) : Nat := 0x20045C + 0x10000 * i
abbrev TILL_FT_WR_OPS_LO (i : Nat) : Nat := 0x200460 + 0x10000 * i
abbrev TILL_FT_WR_OPS_HI (i : Nat) : Nat := 0x200464 + 0x10000 * i
abbrev TILL_FT_SETUP_LIMIT_CNT (i : Nat) : Nat := 0x200470 + 0x10000 * i
abbrev TILL_FT_MISS_TMO_CNT (i : Nat) : Nat := 0x200474 + 0x10000 * i
abbrev TILL_FT_MISS_FULL_CNT (i : Nat) : Nat := 0x200478 + 0x10000 * i
abbrev TILL_FT_RELOC_CNT (i : Nat) : Nat := 0x20047C + 0x10000 * i
abbrev TILL_FT_RELOC_MOVES_CNT (i : Nat) : Nat := 0x200480 + 0x10000 * i
abbrev TILL_FT_NOSLOT_CNT (i : Nat) : Nat := 0x200484 + 0x10000 * i
abbrev TILL_FT_POISON_CNT (i : Nat) : Nat := 0x200488 + 0x10000 * i
abbrev TILL_FT_PEER_RECOVER_CNT (i : Nat) : Nat := 0x20048C + 0x10000 * i
abbrev TILL_FT_STATE_LOST_CNT (i : Nat) : Nat := 0x200490 + 0x10000 * i
abbrev TILL_FT_CLAIM_WB_CNT (i : Nat) : Nat := 0x200494 + 0x10000 * i
abbrev TILL_FT_PORT_ACT (i n : Nat) : Nat := 0x2004C0 + 0x10000 * i + 4 * n
abbrev TILL_EXP_CFG (i : Nat) : Nat := 0x200600 + 0x10000 * i
abbrev TILL_EXP_RING (i : Nat) : Nat := 0x200604 + 0x10000 * i
abbrev TILL_EXP_MSG (i : Nat) : Nat := 0x200608 + 0x10000 * i
abbrev TILL_EXP_TMPL (i : Nat) : Nat := 0x20060C + 0x10000 * i
abbrev TILL_EXP_ODID (i : Nat) : Nat := 0x200610 + 0x10000 * i
abbrev TILL_EXP_UTC_OFF (i : Nat) : Nat := 0x200614 + 0x10000 * i
abbrev TILL_EXP_STATUS (i : Nat) : Nat := 0x200618 + 0x10000 * i
abbrev TILL_EXP_SEQ (i : Nat) : Nat := 0x20061C + 0x10000 * i
abbrev TILL_EXP_SNAP_CNT (i : Nat) : Nat := 0x200620 + 0x10000 * i
abbrev TILL_EXP_LOST_CNT (i : Nat) : Nat := 0x200624 + 0x10000 * i
abbrev TILL_EXP_SKIP_CNT (i : Nat) : Nat := 0x200628 + 0x10000 * i
abbrev TILL_EXP_MSG_CNT (i : Nat) : Nat := 0x20062C + 0x10000 * i
abbrev TILL_TPL_CFG (i n : Nat) : Nat := 0x201000 + 0x10000 * i + 4 * n
abbrev VAULT_IRQ_CAUSE : Nat := 0x280010
abbrev VAULT_IRQ_MASK : Nat := 0x280014
abbrev VAULT_IRQ_SUB : Nat := 0x28001C
abbrev VAULT_CFG : Nat := 0x280100
abbrev VAULT_ZONE : Nat := 0x280104
abbrev VAULT_REMAP_LO : Nat := 0x280108
abbrev VAULT_REMAP_HI : Nat := 0x28010C
abbrev VAULT_SPARE_CFG : Nat := 0x280110
abbrev VAULT_SPARE_CTRL : Nat := 0x280114
abbrev VAULT_SPARE_STATUS : Nat := 0x280118
abbrev VAULT_SPARE_CURSOR : Nat := 0x28011C
abbrev VAULT_SPARE_START_SEC : Nat := 0x280120
abbrev VAULT_SPARE_START_NS : Nat := 0x280124
abbrev VAULT_SPARE_DONE_SEC : Nat := 0x280128
abbrev VAULT_SPARE_DONE_NS : Nat := 0x28012C
abbrev VAULT_WIN_BASE_LO : Nat := 0x280130
abbrev VAULT_WIN_BASE_HI : Nat := 0x280134
abbrev VAULT_WIN_ERR_ADDR_LO : Nat := 0x280138
abbrev VAULT_WIN_ERR_ADDR_HI : Nat := 0x28013C
abbrev VAULT_WIN_REFUSED_CNT : Nat := 0x280150
abbrev VAULT_WIN_POISON_CNT : Nat := 0x280154
abbrev VAULT_REGION (n : Nat) : Nat := 0x280200 + 8 * n
abbrev VAULT_REGION_MODE (n : Nat) : Nat := 0x280204 + 8 * n
abbrev VAULT_CH_IRQ_CAUSE (i : Nat) : Nat := 0x290010 + 0x2000 * i
abbrev VAULT_CH_IRQ_MASK (i : Nat) : Nat := 0x290014 + 0x2000 * i
abbrev VAULT_CH_STATUS (i : Nat) : Nat := 0x290100 + 0x2000 * i
abbrev VAULT_CH_TEMP (i : Nat) : Nat := 0x290104 + 0x2000 * i
abbrev VAULT_CH_REF_DEBT (i : Nat) : Nat := 0x290108 + 0x2000 * i
abbrev VAULT_CH_TRAIN (i : Nat) : Nat := 0x29010C + 0x2000 * i
abbrev VAULT_CH_FWL_COUNT (i : Nat) : Nat := 0x290110 + 0x2000 * i
abbrev VAULT_CH_RD_OPS_LO (i : Nat) : Nat := 0x290120 + 0x2000 * i
abbrev VAULT_CH_RD_OPS_HI (i : Nat) : Nat := 0x290124 + 0x2000 * i
abbrev VAULT_CH_WR_OPS_LO (i : Nat) : Nat := 0x290128 + 0x2000 * i
abbrev VAULT_CH_WR_OPS_HI (i : Nat) : Nat := 0x29012C + 0x2000 * i
abbrev VAULT_CH_INORDER_CNT (i : Nat) : Nat := 0x290130 + 0x2000 * i
abbrev VAULT_CH_REF_FORCED_CNT (i : Nat) : Nat := 0x290134 + 0x2000 * i
abbrev VAULT_CH_SR_ABANDON_CNT (i : Nat) : Nat := 0x290138 + 0x2000 * i
abbrev VAULT_CH_CAPAR_CNT (i : Nat) : Nat := 0x29013C + 0x2000 * i
abbrev VAULT_CH_CAPAR_LASTING_CNT (i : Nat) : Nat := 0x290140 + 0x2000 * i
abbrev VAULT_CH_DEV_CE (i n : Nat) : Nat := 0x290200 + 0x2000 * i + 4 * n
abbrev AUDIT_IRQ_CAUSE : Nat := 0x2C0010
abbrev AUDIT_IRQ_MASK : Nat := 0x2C0014
abbrev AUDIT_IRQ_SUB : Nat := 0x2C001C
abbrev AUDIT_CTRL : Nat := 0x2C0100
abbrev AUDIT_LAP_LIMIT : Nat := 0x2C0104
abbrev AUDIT_VAULT_CURSOR_LO : Nat := 0x2C0110
abbrev AUDIT_VAULT_CURSOR_HI : Nat := 0x2C0114
abbrev AUDIT_UE_INFO : Nat := 0x2C0120
abbrev AUDIT_UE_ADDR_LO : Nat := 0x2C0124
abbrev AUDIT_UE_ADDR_HI : Nat := 0x2C0128
abbrev AUDIT_UE_SEC : Nat := 0x2C012C
abbrev AUDIT_UE_NS : Nat := 0x2C0130
abbrev AUDIT_LAP_LAST (n : Nat) : Nat := 0x2C0200 + 16 * n
abbrev AUDIT_LAP_CUR (n : Nat) : Nat := 0x2C0204 + 16 * n
abbrev AUDIT_LAP_LAPS (n : Nat) : Nat := 0x2C0208 + 16 * n
abbrev AUDIT_RANK_UE (n : Nat) : Nat := 0x2C0300 + 4 * n
abbrev AUDIT_SRAM_CE (n : Nat) : Nat := 0x2C0380 + 16 * n
abbrev AUDIT_SRAM_UE_TRANS (n : Nat) : Nat := 0x2C0384 + 16 * n
abbrev AUDIT_SRAM_REBUILT (n : Nat) : Nat := 0x2C0388 + 16 * n
abbrev AUDIT_SRAM_UE_LASTING (n : Nat) : Nat := 0x2C038C + 16 * n
abbrev AUDIT_VAULT_CE_SCRUB_CNT : Nat := 0x2C0400
abbrev AUDIT_VAULT_UE_TRANS_CNT : Nat := 0x2C0404
abbrev AUDIT_VAULT_UE_LASTING_CNT : Nat := 0x2C0408
abbrev AUDIT_POISON_READ_CNT : Nat := 0x2C040C
abbrev AUDIT_PEER_REPAIR_CNT : Nat := 0x2C0410
abbrev AUDIT_PEER_FAIL_CNT : Nat := 0x2C0414
abbrev AUDIT_MERGE_FULL_CNT : Nat := 0x2C0418
abbrev AUDIT_MERGE_RMW_CNT : Nat := 0x2C041C
abbrev AUDIT_MERGE_EARLY_CNT : Nat := 0x2C0420
abbrev AUDIT_PARTIAL_FAIL_CNT : Nat := 0x2C0424
abbrev NOSE_IRQ_CAUSE (i : Nat) : Nat := 0x300010 + 0x10000 * i
abbrev NOSE_IRQ_MASK (i : Nat) : Nat := 0x300014 + 0x10000 * i
abbrev NOSE_IRQ_SUB (i : Nat) : Nat := 0x30001C + 0x10000 * i
abbrev NOSE_CFG (i : Nat) : Nat := 0x300100 + 0x10000 * i
abbrev NOSE_BACKLOG_CFG (i : Nat) : Nat := 0x300104 + 0x10000 * i
abbrev NOSE_BURST_CFG (i : Nat) : Nat := 0x300108 + 0x10000 * i
abbrev NOSE_STATUS (i : Nat) : Nat := 0x30010C + 0x10000 * i
abbrev NOSE_INFO (i : Nat) : Nat := 0x300110 + 0x10000 * i
abbrev NOSE_GRP_CMD (i : Nat) : Nat := 0x300120 + 0x10000 * i
abbrev NOSE_GRP_RESULT (i : Nat) : Nat := 0x300124 + 0x10000 * i
abbrev NOSE_GRP_DONE_SEC (i : Nat) : Nat := 0x300128 + 0x10000 * i
abbrev NOSE_GRP_DONE_NS (i : Nat) : Nat := 0x30012C + 0x10000 * i
abbrev NOSE_MEM_ADDR (i : Nat) : Nat := 0x300130 + 0x10000 * i
abbrev NOSE_MEM_DATA (i : Nat) : Nat := 0x300134 + 0x10000 * i
abbrev NOSE_GRP_STATE (i n : Nat) : Nat := 0x300200 + 0x10000 * i + 8 * n
abbrev NOSE_GRP_START (i n : Nat) : Nat := 0x300204 + 0x10000 * i + 8 * n
abbrev NOSE_GRP_BASE (i n : Nat) : Nat := 0x300400 + 0x10000 * i + 16 * n
abbrev NOSE_GRP_LIMIT (i n : Nat) : Nat := 0x300404 + 0x10000 * i + 16 * n
abbrev NOSE_GRP_PAT (i n : Nat) : Nat := 0x300408 + 0x10000 * i + 16 * n
abbrev NOSE_BYTES_LO (i : Nat) : Nat := 0x300800 + 0x10000 * i
abbrev NOSE_BYTES_HI (i : Nat) : Nat := 0x300804 + 0x10000 * i
abbrev NOSE_SCAN_CNT (i : Nat) : Nat := 0x300810 + 0x10000 * i
abbrev NOSE_MATCH_CNT (i : Nat) : Nat := 0x300814 + 0x10000 * i
abbrev NOSE_SKIP_CNT (i : Nat) : Nat := 0x300818 + 0x10000 * i
abbrev NOSE_INVALID_CNT (i : Nat) : Nat := 0x30081C + 0x10000 * i
abbrev NOSE_STOPPED_CNT (i : Nat) : Nat := 0x300820 + 0x10000 * i
abbrev NOSE_RESTART_CNT (i : Nat) : Nat := 0x300824 + 0x10000 * i
abbrev NOSE_REPORT_LOST_CNT (i : Nat) : Nat := 0x300828 + 0x10000 * i
abbrev NOSE_MEM_CORR_CNT (i : Nat) : Nat := 0x30082C + 0x10000 * i
abbrev NOSE_MEM_UNCORR_CNT (i : Nat) : Nat := 0x300830 + 0x10000 * i
abbrev NOSE_FAULT_CNT (i : Nat) : Nat := 0x300834 + 0x10000 * i
abbrev NOSE_MEM_REFUSED_CNT (i : Nat) : Nat := 0x300838 + 0x10000 * i
abbrev MINT_IRQ_CAUSE : Nat := 0x380010
abbrev MINT_IRQ_MASK : Nat := 0x380014
abbrev MINT_IRQ_SUB : Nat := 0x38001C
abbrev MINT_GLOBAL_LOW : Nat := 0x380100
abbrev MINT_GLOBAL_SIZE : Nat := 0x380104
abbrev MINT_GLOBAL_USED : Nat := 0x380108
abbrev MINT_EXPRESS_SIZE : Nat := 0x38010C
abbrev MINT_EXPRESS_USED : Nat := 0x380110
abbrev MINT_FREE : Nat := 0x380114
abbrev MINT_RSV_MIN (n : Nat) : Nat := 0x380120 + 4 * n
abbrev MINT_PORT_SHARED (n : Nat) : Nat := 0x380200 + 4 * n
abbrev MINT_PORT_USED (n : Nat) : Nat := 0x380300 + 4 * n
abbrev MINT_REFUSED_CNT (n : Nat) : Nat := 0x380400 + 4 * n
abbrev MINT_REFUSED_INJ_CNT : Nat := 0x380500
abbrev MINT_REFUSED_TETH_CNT : Nat := 0x380504
abbrev MINT_QENT_FREE : Nat := 0x380508
abbrev MINT_QENT_REFUSED_CNT : Nat := 0x38050C
abbrev SWC_IRQ_CAUSE : Nat := 0x3C0010
abbrev SWC_IRQ_MASK : Nat := 0x3C0014
abbrev SWC_IRQ_SUB : Nat := 0x3C001C
abbrev SWC_CT_EN_LO : Nat := 0x3C0100
abbrev SWC_CT_EN_HI : Nat := 0x3C0104
abbrev SWC_HOSTQ_LIMIT : Nat := 0x3C0108
abbrev SWC_GRP_CMD : Nat := 0x3C0110
abbrev SWC_GRP_STATUS : Nat := 0x3C0114
abbrev SWC_GRP_PORTS_LO : Nat := 0x3C0118
abbrev SWC_GRP_PORTS_HI : Nat := 0x3C011C
abbrev SWC_GRP_HOST : Nat := 0x3C0120
abbrev SWC_SAMPLE_CFG (n : Nat) : Nat := 0x3C0200 + 8 * n
abbrev SWC_SAMPLE_SEED (n : Nat) : Nat := 0x3C0204 + 8 * n
abbrev SWC_SAMPLE_CNT (n : Nat) : Nat := 0x3C0400 + 4 * n
abbrev SWC_BAD_TAIL_CNT (n : Nat) : Nat := 0x3C0500 + 4 * n
abbrev SWC_HOSTQ_DEPTH (n : Nat) : Nat := 0x3C0600 + 4 * n
abbrev SWC_HOSTQ_DROP_CNT (n : Nat) : Nat := 0x3C0640 + 4 * n
abbrev SWC_TETHQ_DEPTH (n : Nat) : Nat := 0x3C0680 + 4 * n
abbrev SWC_SAMPLE_LOST_CNT : Nat := 0x3C06A0
abbrev SWC_BAD_TARGET_CNT : Nat := 0x3C06A4
abbrev TM_IRQ_CAUSE : Nat := 0x400010
abbrev TM_IRQ_MASK : Nat := 0x400014
abbrev TM_IRQ_SUB : Nat := 0x40001C
abbrev TM_HOST_RATE : Nat := 0x400100
abbrev TM_GCL_ADDR : Nat := 0x400200
abbrev TM_GCL_MASK : Nat := 0x400204
abbrev TM_GCL_DUR : Nat := 0x400208
abbrev TM_GCL_REFUSED_CNT : Nat := 0x40020C
abbrev TM_POL_CMD : Nat := 0x400300
abbrev TM_POL_STATUS : Nat := 0x400304
abbrev TM_POL_CIR : Nat := 0x400308
abbrev TM_POL_CBS : Nat := 0x40030C
abbrev TM_POL_FLAGS : Nat := 0x400310
abbrev TM_POL_TOKENS : Nat := 0x400314
abbrev TM_POL_DROPS : Nat := 0x400318
abbrev TM_PORT_CTRL (n : Nat) : Nat := 0x401000 + 64 * n
abbrev TM_PORT_HOLD (n : Nat) : Nat := 0x401004 + 64 * n
abbrev TM_PORT_STATUS (n : Nat) : Nat := 0x401008 + 64 * n
abbrev TM_PORT_PFC (n : Nat) : Nat := 0x40100C + 64 * n
abbrev TM_PORT_PFC_MAP (n : Nat) : Nat := 0x401010 + 64 * n
abbrev TM_PORT_FC_THR (n : Nat) : Nat := 0x401014 + 64 * n
abbrev TM_GATE_CTRL (n : Nat) : Nat := 0x401018 + 64 * n
abbrev TM_GATE_BASE_SEC_LO (n : Nat) : Nat := 0x40101C + 64 * n
abbrev TM_GATE_BASE_SEC_HI (n : Nat) : Nat := 0x401020 + 64 * n
abbrev TM_GATE_BASE_NS (n : Nat) : Nat := 0x401024 + 64 * n
abbrev TM_GATE_CYCLE_NS (n : Nat) : Nat := 0x401028 + 64 * n
abbrev TM_GATE_STATUS (n : Nat) : Nat := 0x40102C + 64 * n
abbrev TM_GATE_CHANGE_SEC (n : Nat) : Nat := 0x401030 + 64 * n
abbrev TM_GATE_CHANGE_NS (n : Nat) : Nat := 0x401034 + 64 * n
abbrev TM_FC_CNT (n : Nat) : Nat := 0x401038 + 64 * n
abbrev TM_GATE_OVERRUN_CNT (n : Nat) : Nat := 0x40103C + 64 * n
abbrev TM_CLASS_CTRL (n : Nat) : Nat := 0x404000 + 32 * n
abbrev TM_CLASS_IDLE (n : Nat) : Nat := 0x404004 + 32 * n
abbrev TM_CLASS_HI_CLAMP (n : Nat) : Nat := 0x404008 + 32 * n
abbrev TM_CLASS_LO_CLAMP (n : Nat) : Nat := 0x40400C + 32 * n
abbrev TM_CLASS_CREDIT (n : Nat) : Nat := 0x404010 + 32 * n
abbrev TM_CLASS_DEFICIT (n : Nat) : Nat := 0x404014 + 32 * n
abbrev TM_CLASS_DEPTH (n : Nat) : Nat := 0x404018 + 32 * n
abbrev TM_CLASS_STATUS (n : Nat) : Nat := 0x40401C + 32 * n
abbrev EGR_IRQ_CAUSE : Nat := 0x500010
abbrev EGR_IRQ_MASK : Nat := 0x500014
abbrev EGR_IRQ_SUB : Nat := 0x50001C
abbrev EGR_PUNT_CFG : Nat := 0x500C00
abbrev EGR_PROFILE_MISM_CNT : Nat := 0x500C04
abbrev EGR_NPT_SKIP_CNT : Nat := 0x500C08
abbrev EGR_PTP_SKIP_CNT : Nat := 0x500C0C
abbrev EGR_PORT_SMAC_LO (n : Nat) : Nat := 0x500E00 + 8 * n
abbrev EGR_PORT_SMAC_HI (n : Nat) : Nat := 0x500E04 + 8 * n
abbrev EGR_PROFILE_CFG (n : Nat) : Nat := 0x501000 + 8 * n
abbrev EGR_PROFILE_ARG (n : Nat) : Nat := 0x501004 + 8 * n
abbrev EGR_NAT64_PFX (n m : Nat) : Nat := 0x501800 + 16 * n + 4 * m
abbrev EGR_NAT64_PFX3 (n : Nat) : Nat := 0x50180C + 16 * n
abbrev EGR_NPT_INT (n m : Nat) : Nat := 0x502000 + 64 * n + 4 * m
abbrev EGR_NPT_EXT (n m : Nat) : Nat := 0x502010 + 64 * n + 4 * m
abbrev EGR_NPT_CTL (n : Nat) : Nat := 0x502020 + 64 * n
abbrev EGR_NPT_ADJ (n : Nat) : Nat := 0x502024 + 64 * n
abbrev EGR_LB6_ADDR (n m : Nat) : Nat := 0x508000 + 16 * n + 4 * m
abbrev EGR_NH_LO (n : Nat) : Nat := 0x510000 + 8 * n
abbrev EGR_NH_HI (n : Nat) : Nat := 0x510004 + 8 * n

end Sys2Proof.Reg
end

