-- ==== Sys2Proof/Machine/Regs.lean ====
section
/-!
DEFINITION. Where a BAR0 offset leads: the blocks of Table 22.1, the row of the register map that names a register,
its reset value and its field masks.
-/
namespace Sys2Proof.Machine

/-- One line of Table 22.1: block, base, stride, instances and the end of its span. -/
structure BlockSpan where
  blk : Block
  base : Nat
  stride : Nat
  count : Nat
  limit : Nat

/-- Table 22.1. -/
def blockSpans : List BlockSpan := [
  ⟨.top, 0x000000, 0x10000, 1, 0x010000⟩, ⟨.sec, 0x010000, 0x10000, 1, 0x020000⟩,
  ⟨.treas, 0x020000, 0x10000, 1, 0x030000⟩, ⟨.time, 0x030000, 0x10000, 1, 0x040000⟩,
  ⟨.perf, 0x040000, 0x10000, 1, 0x050000⟩, ⟨.sill, 0x050000, 0x10000, 1, 0x060000⟩,
  ⟨.dma, 0x060000, 0x10000, 1, 0x070000⟩, ⟨.port, 0x080000, 0x400, 64, 0x090000⟩,
  ⟨.lane, 0x0A0000, 0x200, 64, 0x0A8000⟩, ⟨.teth, 0x0C0000, 0x10000, 1, 0x0D0000⟩,
  ⟨.assay, 0x100000, 0x10000, 4, 0x140000⟩, ⟨.sieve, 0x140000, 0x10000, 4, 0x180000⟩,
  ⟨.disp, 0x180000, 0x4000, 4, 0x190000⟩, ⟨.tell, 0x1C0000, 0x1000, 16, 0x1D0000⟩,
  ⟨.till, 0x200000, 0x10000, 4, 0x240000⟩, ⟨.vault, 0x280000, 0x10000, 1, 0x290000⟩,
  ⟨.vaultCh, 0x290000, 0x2000, 8, 0x2A0000⟩, ⟨.audit, 0x2C0000, 0x10000, 1, 0x2D0000⟩,
  ⟨.nose, 0x300000, 0x10000, 4, 0x340000⟩, ⟨.mint, 0x380000, 0x10000, 1, 0x390000⟩,
  ⟨.swc, 0x3C0000, 0x10000, 1, 0x3D0000⟩, ⟨.tm, 0x400000, 0x10000, 1, 0x410000⟩,
  ⟨.egr, 0x500000, 0x20000, 1, 0x520000⟩, ⟨.dispo, 0x600000, 0x20000, 1, 0x620000⟩]

/-- The block, instance and offset within the instance of a BAR0 offset; none outside every block (R507). -/
def decodeOff (off : Nat) : Option (Block × Nat × Nat) :=
  (blockSpans.find? fun b => b.base ≤ off ∧ off < b.limit).map fun b =>
    (b.blk, (off - b.base) / b.stride, (off - b.base) % b.stride)

/-- A distance from a row's first register names one of its elements: strides from the outermost inward. -/
def inDims : List (Nat × Nat) → Nat → Bool
  | [], d => d = 0
  | (stride, count) :: ds, d => d / stride < count && inDims ds (d % stride)

/-- The row holds the register at an offset of the instance. -/
def RegRow.has (r : RegRow) (rel : Nat) : Bool := r.off ≤ rel && inDims r.dims (rel - r.off)

/-- The row of the register map at an offset of an instance; none where no register is named. -/
def rowAt (b : Block) (rel : Nat) : Option RegRow := b.rows.find? (·.has rel)

/-- The row of the register at a BAR0 offset. -/
def rowOf (off : Nat) : Option RegRow := (decodeOff off).bind fun (b, _, rel) => rowAt b rel

/-- Reset value of the register at a BAR0 offset (Reset column, log entry 3). -/
def resetOf (off : Nat) : Word32 := BitVec.ofNat 32 (((rowOf off).map (·.reset)).getD 0)

/-- The bits of the fields of one type. -/
def RegRow.mask (r : RegRow) (p : FieldType → Bool) : Word32 :=
  r.fields.foldl (fun m f => if p f.ty then m ||| BitVec.ofNat 32 ((2 ^ (f.hi + 1 - f.lo) - 1) * 2 ^ f.lo) else m) 0

/-- The register's home: a replicated register is stored at B0 (R79). -/
def homeOff (off : Nat) : Nat :=
  match decodeOff off with
  | some (b, i, rel) =>
    match rowAt b rel with
    | some r => if r.scope = .repl then off - i * (match b with | .sieve | .till | .nose => 0x10000 | _ => 0) else off
    | none => off
  | none => off

end Sys2Proof.Machine
end

