-- ==== Sys2Proof/Machine/State.lean ====
section
/-!
DEFINITION. The state of the DW3240 as plain data: everything that the spec gives the block, and the queue of
commands that wait. The stored fields of registers stand in `State.regs`; what hardware keeps outside its registers
stands in the structures below, one for each chapter's machinery. INVENTORY.md lists the rule that names each.
-/
namespace Sys2Proof.Machine

/-- Where the machine stops. None of the commands stops with a fault: what the spec calls an error is an effect. -/
inductive Fault
  /-- Raised by no command; the interface asks for the type. Safe. -/
  | none
deriving DecidableEq, Repr

/-- Why a command is refused. -/
inductive Refusal
  /-- Raised by the dispatch for a command that has no meaning yet. Safe. -/
  | notModelled (mnemonic : String)
  /-- Raised by JTAG_DEBUG_INSTRUCTION while the debug port is open: the spec names the scan and memory-access
  instructions and gives neither their codes nor their effects (R448). Safe. -/
  | debugInstruction (code : Nat)
deriving DecidableEq, Repr

/-! ### Time base and Sillage (chapter 14) -/

/-- A trigger output TRIGn (R348, R349). Its settings are the TIME_TRIG registers. -/
structure Trigger where
  /-- the next edge instant, network time in ns; none when no instant is to come -/
  next : Option Nat := none
  /-- a one-shot whose START came too soon never fires (R348) -/
  dead : Bool := false
  /-- real-time tick at which the active pulse ends; none while the pin is inactive -/
  pulseEnd : Option Nat := none
deriving DecidableEq, Repr

/-- One entry of a capture FIFO (R350): the stamp, in units of 2^-32 ns, and the edge. -/
structure CapEntry where
  time : Nat
  rising : Bool
deriving DecidableEq, Repr

/-- One entry of the two-step FIFO (R347). -/
structure Ts2Entry where
  port : Nat
  msgType : Nat
  seqId : Nat
  time : Nat
deriving DecidableEq, Repr

/-- An offset add waiting for its tick (R338, R340): the signed nanoseconds and whether FOLLOW asked for it. -/
structure OffsetAdd where
  ns : Int
  follow : Bool
deriving DecidableEq, Repr

/-- The time base (R335 to R351). -/
structure TimeBase where
  /-- real-time ticks of the 1 GHz tick since PORST_N -/
  tick : Nat := 0
  /-- network time since 0 s in units of 2^-32 ns: SEC, NS, FRAC and the 16 hidden bits together (R335) -/
  net : Nat := 0
  offset : Option OffsetAdd := none
  /-- a SNAP waits for the end of the tick in hand (R339) -/
  snapDue : Bool := false
  refLost : Bool := false
  /-- tick of the last FOLLOW check (R340) -/
  followAt : Nat := 0
  trigs : Tbl Trigger := []
  caps : Tbl (List CapEntry) := []
  /-- real-time tick at which PPS_OUT falls; none while it is low (R351) -/
  ppsFall : Option Nat := none
  /-- the second, counted from 0 s, whose PPS_OUT edge was the last to be made -/
  ppsLast : Option Nat := none
  ts2 : List Ts2Entry := []
deriving DecidableEq, Repr

/-- A Sillage record (R353). -/
structure SillRec where
  time : Nat
  source : Nat
  kind : Nat
  seq : Nat
  payload : Nat
deriving DecidableEq, Repr

/-- The Sillage merger (R353 to R359). -/
structure Sillage where
  /-- next SEQ of each source (R356) -/
  seq : Tbl Nat := []
  /-- records waiting for the ring, oldest first (R357) -/
  buf : List SillRec := []
  /-- records lost per source and not yet reported by a LOSS record (R358) -/
  lost : Tbl Nat := []
  /-- packets counted by disposition sampling (R359) -/
  sampleCount : Nat := 0
deriving DecidableEq, Repr

/-! ### Interrupt delivery and performance counters (chapter 20) -/

/-- MSI-X vector 0 (R478, R479). Enable and function mask stand in configuration space, the vector mask in the table. -/
structure Msix where
  armed : Bool := true
  pba : Bool := false
  enable : Bool := false
  funcMask : Bool := false
  vecMask : Bool := true
  /-- tick of the last message sent -/
  lastSent : Option Nat := none
deriving DecidableEq, Repr

/-- Four counts of a port: bytes and frames received and sent (R483). -/
structure WinCounts where
  rxBytes : Nat := 0
  txBytes : Nat := 0
  rxFrames : Nat := 0
  txFrames : Nat := 0
deriving DecidableEq, Repr

/-- The PERF block (R480 to R486). -/
structure Perf where
  /-- the TICK counter of every unit: ticks counted while no freeze held (R481) -/
  ticks : Nat := 0
  frozen : Bool := false
  /-- a scheduled freeze (true) or unfreeze (false) and its network time (R484) -/
  sched : Option (Bool × Nat) := none
  /-- counts of the open window, per port -/
  winOpen : Tbl WinCounts := []
  /-- counts of the last latched window, per port -/
  winLast : Tbl WinCounts := []
  winSeq : Nat := 0
  /-- Ledger time of the last boundary -/
  winEnd : Nat := 0
  /-- the next window boundary, in whole windows' network time (units of 2^-32 ns) -/
  winNext : Nat := 1000000 * 4294967296
  /-- the snapshot waiting for its ring (R485); empty while it is being written -/
  dump : Option Bytes := none
  dumpSkipped : Bool := false
  /-- next due snapshot, network time in units of 2^-32 ns -/
  dumpNext : Nat := 1000000000 * 4294967296
deriving DecidableEq, Repr

/-! ### Pace monitors (chapter 01) and Treasury (chapter 17) -/

/-- The states of a power domain (Table 17.1). -/
inductive DomState | off | ramp | on | retention
deriving DecidableEq, Repr

/-- TREAS_STATE.PSTATE (Table 17.3). -/
inductive PState | off | full | trimmed | quiet
deriving DecidableEq, Repr

/-- TREAS_BROWN_STATUS.STATE (Table 17.5). -/
inductive Brown | normal | hold | holdSr | recover
deriving DecidableEq, Repr

/-- The state of one allowance user (TREAS_USER.STATE, Table 17.10). -/
inductive UserState | none | waiting | granted | releasing
deriving DecidableEq, Repr

/-- One allowance user (R415, R416): what it holds and how much of it the slew governor has released (R417). -/
structure AllowUser where
  st : UserState := .none
  grant : Nat := 0
  /-- units released for use (rising) or still held in ballast (falling) -/
  released : Nat := 0
  /-- when the grant was made, for newest-first revocation (R423) -/
  order : Nat := 0
deriving DecidableEq, Repr

/-- The Treasury (R410 to R428). -/
structure Treasury where
  /-- domain states of PD0 to PD29; every domain not listed is OFF -/
  doms : Tbl DomState := [(0, .on)]
  /-- the existence bitmap of POWER_DOMAINS (R27, R410) -/
  exist : Nat := 0
  /-- domains asked to be ON whose ramps have not started, in order (R412) -/
  rampQueue : List Nat := []
  /-- domains whose power-down has been requested, and the state they are to take (R412) -/
  goals : List (Nat × DomState) := []
  /-- the domain ramping, the tick at which its ramp began, and whether its contents were retained -/
  ramping : Option (Nat × Nat × Bool) := none
  pstate : PState := .off
  /-- QUIET entry (true) or exit (false) in progress and the tick at which it began (R414) -/
  trans : Option (Bool × Nat) := none
  /-- domains that QUIET entry has turned off or put in retention, which exit powers up again -/
  quieted : List Nat := []
  /-- VDD_CORE command before QUIET entry, to which exit returns it -/
  vPreQuiet : Nat := 0
  stalled : Bool := false
  /-- a thermal trip holds until QUIET exit is accepted (R422) -/
  trip : Bool := false
  users : Tbl AllowUser := []
  /-- users waiting for an allowance and the amounts asked for, oldest first (R415) -/
  waitQ : List (Nat × Nat) := []
  grants : Nat := 0
  /-- steps of 0.25 A still to be made by the slew governor: user and whether the current rises (R417) -/
  slewQ : List (Nat × Bool) := []
  slewAt : Nat := 0
  vrmFail : Bool := false
  avsAt : Nat := 0
  /-- tick since which every VALID margin has been at least 100,000 ppm (R419) -/
  goodSince : Option Nat := none
  tempAt : Nat := 0
  warned : Bool := false
  hot : Bool := false
  brown : Brown := .normal
  /-- tick at which PWRWARN_N went low and has stayed low -/
  warnSince : Option Nat := none
  coreLow : Bool := false
  /-- tick at which both recovery conditions began to hold (R425) -/
  recoverSince : Option Nat := none
  /-- the power state is OFF until PORST_N (R414) -/
  offHeld : Bool := false
  /-- tick of each Branch's last Pace measurement (R12) -/
  paceAt : Tbl Nat := []
deriving DecidableEq, Repr

/-! ### Security engine (chapter 18) and pins (chapter 21) -/

/-- The owner fuse array as it is read (Table 18.1): LIFECYCLE groups, the slots' hashes and PROGRAMMED, REVOKED,
SVN_FLOOR, ID_BLOB and ID_DESTROYED, and the DEVICE_ID fuses (R435). -/
structure Fuses where
  grp0 : Bool := false
  grp1 : Bool := false
  grp2 : Bool := false
  slotHash : Tbl (BitVec 384) := []
  programmed : Tbl Bool := []
  revoked : Tbl Bool := []
  svnFloor : Nat := 0
  idBlob : Bytes := []
  idDestroyed : Bool := false
  deviceId : Word64 := 0
deriving DecidableEq, Repr

/-- The lifecycle states (Table 18.2). -/
inductive Lifecycle | blank | owned | locked | returned
deriving DecidableEq, Repr

/-- One mailbox channel (R442): its operation, whether it runs or is queued, its result and output. -/
structure MboxChan where
  op : Nat := 0
  busy : Bool := false
  result : Nat := 0
  outLen : Nat := 0
  /-- the result and output of the running operation, once its work has been done -/
  done : Option (Nat × Bytes) := none
  /-- slot that signed the owner command in hand; 15 for none -/
  signer : Nat := 15
  /-- the operation is programming fuses (R444) -/
  fusing : Bool := false
  /-- the result is to be discarded because PERST_N ended the operation (R444) -/
  discard : Bool := false
deriving DecidableEq, Repr

/-- The security engine (R432 to R449). -/
structure SecEngine where
  host : MboxChan := {}
  side : MboxChan := {}
  /-- channels whose operations wait, in the order of their GO writes; true for the sideband channel -/
  queue : List Bool := []
  /-- input and output of the sideband channel (R449) -/
  sideBuf : Bytes := []
  sideOffset : Nat := 0
  /-- the current challenge; none when no challenge is valid (R443) -/
  challenge : Option Bytes := none
  debugOpen : Bool := true
  factory : Bool := false
  idBad : Bool := false
  /-- identity public-key block unwrapped at boot (R434) -/
  idPub : Bytes := []
  bootStep : Nat := 0
  bootSel : Nat := 0
  bootIgnored : Bool := false
  /-- slot that verified the Charter in RUN, 15 for none -/
  active : Nat := 15
  /-- slot that verified the image being loaded -/
  candidate : Nat := 15
deriving DecidableEq, Repr

/-- Levels of the device's control pins and the last values sampled from them (chapter 21). -/
structure Pins where
  porstLow : Bool := true
  perstLow : Bool := true
  pwrwarnLow : Bool := false
  /-- REFCLK_ETH is absent or outside ±500 ppm (R307) -/
  refclkEthBad : Bool := false
  /-- a rail monitor holds the device in reset: 0 VDD_CORE, 1 VDD_SRAM, 2 VDD_AON, 3 VDD_IO (R424) -/
  railHold : List Nat := []
  smbAddr : Nat := 0
  /-- level of BOOT_SEL[1:0] -/
  bootSel : Nat := 0
  /-- TRST_N is low, which holds the TAP in Test-Logic-Reset; its pull-down holds it there when it is not driven (R491) -/
  trstLow : Bool := true
  /-- instruction in the JTAG instruction register and the last data read out (R448, R492) -/
  jtagIr : Nat := 0
  jtagOut : Nat := 0
  /-- boundary-scan register as last shifted in, and whether it drives the pins (EXTEST) -/
  jtagScan : List Bool := []
  jtagDrive : Bool := false
deriving DecidableEq, Repr

/-! ### Charter loader (chapter 02) -/

/-- TOP_CHARTER_STATUS.STATE (Table 2.7). -/
inductive LoadState | empty | waitPush | verify | drain | load | init | run | failed
deriving DecidableEq, Repr

/-- One directory entry of the image in hand (Table 2.3). -/
structure DirEntry where
  type : Nat
  instnc : Nat
  offset : Nat
  length : Nat
  digest : BitVec 384
deriving DecidableEq, Repr

/-- A chunk waiting in a staging half (R32). -/
structure Chunk where
  half : Nat
  offset : Nat
  length : Nat
  /-- its length is out of range or its half was not free when it was handed over -/
  bad : Bool := false
  /-- the loader has taken its bytes and still holds its half -/
  taken : Bool := false
deriving DecidableEq, Repr

/-- The Charter loader (R29 to R40, R510). -/
structure Loader where
  st : LoadState := .empty
  /-- the state that held before the load in progress began (R30) -/
  prev : LoadState := .empty
  source : Nat := 0
  /-- a host push is in progress -/
  push : Bool := false
  errCode : Nat := 0
  errSect : Nat := 0xFF
  sectDone : Nat := 0
  free0 : Bool := true
  free1 : Bool := true
  vaultKept : Bool := false
  locked : Bool := false
  /-- BOOT_SEL 0b10: a flash failure falls back to WAIT_PUSH and its error is kept until the first chunk (R33) -/
  fallback : Bool := false
  keepErr : Bool := false
  /-- the manifest (16 KiB) and trailer in hand, once they have arrived -/
  manifest : Option Bytes := none
  trailer : Option Bytes := none
  dir : List DirEntry := []
  /-- next image offset expected from a push, and bytes of the section being taken -/
  nextOff : Nat := 0
  acc : Bytes := []
  /-- chunks handed over and not yet taken, oldest first -/
  waiting : List Chunk := []
  /-- index of the next section and next image offset to take in LOAD -/
  sectIdx : Nat := 0
  imgPos : Nat := 0
  drainStart : Nat := 0
  /-- the drain timeout has passed and its discards are made (Table 2.8, step 4) -/
  drained : Bool := false
  /-- LANE_EQ section of the image in hand -/
  laneEq : Option Bytes := none
  /-- REG_INIT section content kept for INIT (R28), and its directory index -/
  regInit : Bytes := []
  regInitIdx : Nat := 0xFF
  lockAtCommit : Bool := false
  svn : Nat := 0
  imageId : Bytes := []
  mdigest : BitVec 384 := 0
  /-- digest of VAULT_REGION_MAP of the Charter last in RUN, and of the image in hand (R36, R510) -/
  regionDigestRun : Option (BitVec 384) := none
  regionDigestNew : Option (BitVec 384) := none
  /-- SVN, digest and identifier of the Charter in RUN (R510) -/
  runSvn : Nat := 0
  runDigest : BitVec 384 := 0
  runId : Bytes := []
deriving DecidableEq, Repr

/-! ### PCIe, DMA and the Coffer (chapter 19) -/

/-- The PCIe link (R454, R498). -/
structure Pcie where
  up : Bool := false
  rate : Nat := 0
  width : Nat := 0
  training : Bool := false
  /-- AER uncorrectable and correctable error status bits set (R452) -/
  aerUncorr : Nat := 0
  aerCorr : Nat := 0
deriving DecidableEq, Repr

/-- One pending request of a Teller to one word of the Coffer: half 0 or 1 of memory operation `op` (R159, R457). The
other users' requests are served in the command that makes them (log entry 31). -/
structure CofferReq where
  word : Nat
  teller : Nat
  op : Nat
  half : Nat := 0
deriving DecidableEq, Repr

/-- The Coffer: 262,144 words of 64 bits, sparse over zero (R457 to R460). -/
structure Coffer where
  words : Tbl Word64 := []
  /-- words with a lasting error whose content was lost (R399) -/
  poison : List Nat := []
  /-- requests pending, oldest first -/
  pending : List CofferReq := []
deriving DecidableEq, Repr

/-- The open buffer of a host-bound ring (R463). -/
structure OpenBuf where
  addr : Nat
  len : Nat
  fill : Nat := 0
  kind : Nat := 0
  sop : Bool := false
  eop : Bool := false
  records : Nat := 0
  /-- tick at which its first byte was written -/
  firstAt : Nat := 0
deriving DecidableEq, Repr

/-- A table-update batch in progress (R468 to R470). -/
structure Batch where
  /-- the descriptor as fetched -/
  desc : Bytes
  /-- entries still to be performed, as bytes -/
  rest : Bytes
  /-- number of the entry in hand -/
  idx : Nat := 0
  done : Nat := 0
  /-- the first entry that was not OK, and its result -/
  firstErr : Option (Nat × Nat) := none
  doneTime : Nat := 0
  /-- tick at which a WAIT_DRAINED entry that has started times out -/
  waitUntil : Option Nat := none
  /-- a SIEVE entry has reached the write engine, or a SWAP entry waits for T_swap -/
  sieveBusy : Bool := false
  swapBusy : Bool := false
deriving DecidableEq, Repr

/-- An injected frame in hand: the descriptors of its run, first one first (R466, R467). -/
structure Inject where
  descs : List Bytes := []
deriving DecidableEq, Repr

/-- One DMA ring (R461 to R471). Its settings are the DMA_RING registers. -/
structure Ring where
  head : Nat := 0
  err : Bool := false
  errCode : Nat := 0
  open_ : Option OpenBuf := none
  /-- the rest of a record that spans buffers and its kind (R463) -/
  span : Bytes := []
  spanKind : Nat := 0
  inject : Option Inject := none
  batch : Option Batch := none
  /-- tick of the last starvation interval counted -/
  starveAt : Nat := 0
deriving DecidableEq, Repr

/-- A link frame as it leaves (R321): what its 4-byte header carries, its payload and its CRC-32C. -/
structure LinkFrame where
  kind : Nat
  length : Nat
  seq : Nat
  payload : Bytes
  crc : BitVec 32
deriving DecidableEq, Repr

/-- The outputs of the last command that made some: the completion of a host access, writes to host memory, bytes on
the SMBus, the message sent, the frames sent. They are the block's answers, kept so that they can be compared. -/
structure Outputs where
  /-- status of the last host access completed: true for Successful Completion, false for Unsupported Request -/
  ok : Bool := true
  data : Bytes := []
  /-- the completion carried EP -/
  ep : Bool := false
  hostWrites : List (Nat × Bytes) := []
  smb : Bytes := []
  smbAck : Bool := false
  msix : Nat := 0
  /-- bytes last sent on a port: port, frame, and whether it ended as a bad tail -/
  tx : Option (Nat × Bytes × Bool) := none
  /-- flow-control frames that ports have sent since the last tick: port and frame, oldest first -/
  fc : List (Nat × Bytes) := []
  /-- link frames sent on the Tether by the last command that sent some -/
  teth : List LinkFrame := []
  /-- link sequences that it acknowledged, and, with false, those that it asked for again (R321) -/
  acks : List (Nat × Bool) := []
  pmbus : Option (Nat × Nat × Bool) := none
deriving DecidableEq, Repr
/-! ### Ports, lanes and the Tether (chapter 13) -/

/-- PORT_STATUS.STATE (Table 13.4). -/
inductive LinkState | down | acquire | align | up
deriving DecidableEq, Repr

/-- One front-panel port (R309, R310). Its settings are the PORT registers. -/
structure Port where
  st : LinkState := .down
  /-- tick since which ALIGN has held without fault; none while it has not -/
  alignedAt : Option Nat := none
  localFault : Bool := false
  remoteFault : Bool := false
  hiBer : Bool := false
  /-- tick since which a condition that takes the link down has lasted (R309); none while there is none -/
  faultAt : Option Nat := none
  /-- frame whose bytes are arriving, by frame number -/
  rx : Option Nat := none
  /-- a frame is arriving whose data the MAC discards: its first cell was refused, or the synchronising FIFO was full (R16) -/
  rxDiscard : Bool := false
  /-- bytes of the frame that had arrived before its tail -/
  rxLen : Nat := 0
deriving DecidableEq, Repr

/-- A port entry of PORT_MAP (Table 13.2); speed 0 for no port. -/
structure PortCfg where
  speed : Nat := 0
  fec : Nat := 0
  txOrder : Nat := 0
  rxOrder : Nat := 0
deriving DecidableEq, Repr

/-- Receive state of a lane (LANE_STATUS). -/
structure Lane where
  signal : Bool := false
  cdr : Bool := false
  adapted : Bool := false
  block : Bool := false
deriving DecidableEq, Repr

/-- TETH_STATUS.PAIR (Table 13.7). -/
inductive PairState | alone | paired | peerDrain | peerLost | mismatch
deriving DecidableEq, Repr

/-- An outgoing mirror message (R326): its type, the flow hash and the record as it stood. -/
structure MirrorMsg where
  type : Nat
  hash : Nat
  words : List Word64
deriving DecidableEq, Repr

/-- A link frame sent and not yet acknowledged (R321). -/
structure RetryEntry where
  seq : Nat
  kind : Nat
  payload : Bytes
  resent : Bool := false
deriving DecidableEq, Repr

/-- Who asked the peer for a record (R331): a miss entry (R128), or the Auditor for a slot (R406). -/
inductive RecoverFor
  | miss (branch : Nat) (entry : Nat)
  | audit (slot : Nat)
deriving DecidableEq, Repr

/-- A recovery request in progress. -/
structure Recovery where
  id : Nat
  who : RecoverFor
  at_ : Nat
deriving DecidableEq, Repr

/-- The Tether link and pair (R319 to R331). -/
structure Tether where
  up : Bool := false
  trainingSince : Option Nat := none
  framedIdle : Bool := false
  /-- lanes good in the receive direction here and, as its idles report, at the peer (R319) -/
  good : Nat := 0
  peerGood : Nat := 0
  /-- lane set that the peer's idles announce (R320) -/
  peerSet : Nat := 0
  svc : Nat := 0
  /-- lanes that failed since the last full bring-up (R320) -/
  failed : Nat := 0
  /-- tick at which the current 1 ms of lane errors began -/
  laneAt : Nat := 0
  txSeq : Nat := 0
  rxSeq : Nat := 0
  /-- sequence numbers asked for again and not yet received well -/
  rxRetry : List Nat := []
  retry : List RetryEntry := []
  pair : PairState := .alone
  hbSentAt : Nat := 0
  hbRxAt : Nat := 0
  /-- the peer's send time of its last heartbeat and the network time of its arrival here (R325) -/
  hbExchange : Option (Nat × Nat) := none
  resync : Bool := false
  /-- instant of loss or drain against which W11 is compared (R329), Ledger time -/
  lostAt : Nat := 0
  mirrorSeq : Nat := 0
  /-- outgoing mirror messages per Branch (R328) -/
  mirrorQ : Tbl (List MirrorMsg) := []
  recoveries : List Recovery := []
  nextReq : Nat := 0
  /-- recovery requests and responses waiting to be sent: kind and payload (R322) -/
  recQ : List (Nat × Bytes) := []
  /-- tenths of a bit of heartbeats, recovery and mirror frames that still occupy the link (R322) -/
  linkDebt : Nat := 0
  side : Nat := 0
  lanesFitted : Nat := 0
  trainMs : Nat := 1
  ssc : Bool := false
  /-- EVENTS and SYNC_MS of the mirror classes (Table 13.6) -/
  mirrorClass : Tbl (Nat × Nat) := []
deriving DecidableEq, Repr

/-! ### Packet buffer, Mint and switch core (chapter 11) -/

/-- The pools of Table 11.2. -/
inductive Pool
  | rsv (p q : Nat)
  | shared (p : Nat)
  | global
  | express
deriving DecidableEq, Repr

/-- Who asks for cells (R255). -/
inductive Requester
  | port (p q : Nat)
  | inject (q : Nat)
  | tether (q : Nat)
deriving DecidableEq, Repr

/-- What a bad tail or a discarded frame is charged to (Table 11.7). -/
inductive BadCause | fcs | length | refused | late
deriving DecidableEq, Repr

/-- A policer applied before the tail (R301): Branch, index and bytes already charged. -/
structure PolTail where
  branch : Nat
  index : Nat
  charged : Nat
deriving DecidableEq, Repr

/-- A record visited before the frame's tail: the home Branch, the flow hash, the key and the pass's head (R104). -/
structure TailAdd where
  branch : Nat
  hash : Word64
  key : BitVec 320
  head : Nat
  /-- number of the record's installation in its way, which an add never outlives -/
  inst : Nat
deriving DecidableEq, Repr

/-- What a queued copy is: it decides its rewrite, its count and its PACKET header. -/
inductive CopyKind | action | mirror | punt | sample | direct | peer
deriving DecidableEq, Repr

/-- The part of a descriptor that a copy carries into its PACKET header and its counts (Table 19.6). -/
structure CopyInfo where
  hash : Word64 := 0
  code : Nat := 0
  source : Nat := 0
  reason : Nat := 0
  status : Nat := 0
  pass : Nat := 0
  dir : Bool := false
  template : Nat := 0
  stamp : Nat := 0
  head : Nat := 0
  action : Nat := 0
deriving DecidableEq, Repr

/-- A stored frame (R252, R256, R262). -/
structure Frame where
  req : Requester
  /-- original ingress port -/
  port : Nat
  /-- ingress class -/
  cls : Nat
  data : Bytes := []
  /-- arrival stamp, network time in units of 2^-32 ns -/
  arr : Nat := 0
  tail : Bool := false
  bad : Option BadCause := none
  /-- pools that granted its cells, first cell first -/
  cells : List Pool := []
  /-- no further cell is asked for (R257) -/
  refused : Bool := false
  refs : Nat := 0
  /-- checks that wait for the tail, in pass order: head and DECL_END of the pass, and its Branch (R51, R52) -/
  deferred : List (Nat × Nat × Nat) := []
  polTails : List PolTail := []
  /-- records visited before the tail (R104) -/
  tailAdds : List TailAdd := []
  /-- the sampler holds a reference until the frame's tail (R262, R271) -/
  sampleRef : Bool := false
  /-- the frame was chosen by the sampler, which holds a reference until the copy is queued (R271, R272) -/
  sampled : Bool := false
  passesDone : Bool := false
  /-- an inline Nose scan has worked on the packet, which never starts in cut-through (Table 11.6) -/
  scanned : Bool := false
  /-- the packet waited in a miss entry, on a lock or in the ready list's WAITING state (R147) -/
  waited : Bool := false
  /-- what the packet's last pass decided: its metadata and code, for a sampled copy (R272) -/
  info : CopyInfo := {}
deriving DecidableEq, Repr

/-- A queued copy (R260, R262). -/
structure Copy where
  frame : Nat
  kind : CopyKind
  info : CopyInfo := {}
  /-- rewrite profile index, or none for no rewrite -/
  profile : Option Nat := none
  /-- rewrite parameters 0 to 15, then W7, W12 and W13 as copied at the record visit (R205) -/
  params : List Word64 := []
  /-- TARGET and QUEUE under which it was enqueued, for peer copies -/
  target : Nat := 0
  cls : Nat := 0
  enq : Nat := 0
deriving DecidableEq, Repr

/-- A PTP profile on a copy whose header had not arrived when it started in cut-through: KIND, ARG and the transmit stamp (R345). -/
structure LatePtp where
  kind : Nat
  arg : Nat
  td : Nat
deriving DecidableEq, Repr

/-- A copy being sent by a scheduler. -/
structure Sending where
  copy : Copy
  queue : Nat
  /-- bytes as sent so far known (edits applied), with the FCS not yet appended -/
  out : Bytes
  /-- bytes of the copy's data that `out` covers -/
  used : Nat := 0
  cutThrough : Bool := false
  start : Nat := 0
  /-- accounted length already charged (64-byte guess in cut-through) -/
  charged : Nat := 0
  /-- a PTP profile still to be applied -/
  late : Option LatePtp := none
deriving DecidableEq, Repr

/-- A multicast group (R263). -/
structure Group where
  ports : Nat := 0
  hosts : Nat := 0
  hairpin : Bool := false
deriving DecidableEq, Repr

/-- The frame sampler of a port (R271). -/
structure Sampler where
  count : Nat := 0
  lfsr : Nat := 1
deriving DecidableEq, Repr

/-- Buffer, Mint and switch core (R252 to R272). -/
structure SwitchCore where
  frames : List (Nat × Frame) := []
  nextFrame : Nat := 0
  /-- cell requests pending in the Mint, by requester and frame, oldest first -/
  cellReqs : List (Requester × Nat) := []
  /-- queues of copies: 0 to 511 port-class, 512 to 519 Tether, 520 to 535 host, as R278 numbers classes -/
  queues : Tbl (List Copy) := []
  groups : Tbl Group := []
  samplers : Tbl Sampler := []
  /-- pool sizes from MINT_POOLS (R254) -/
  globalSize : Nat := 0
  expressSize : Nat := 0
  rsvMin : Tbl Nat := []
  portShared : Tbl Nat := []
deriving DecidableEq, Repr

/-! ### Traffic manager (chapter 12) -/

/-- A class of a scheduler (R280 to R286). -/
structure TmClass where
  deficit : Int := 0
  /-- credit in units of 2^-16 byte -/
  credit : Int := 0
  clearDebt : Bool := false
  updAt : Nat := 0
  gateHeld : Bool := false
  eligible : Bool := false
deriving DecidableEq, Repr

/-- An entry of a gate bank (R287). -/
structure GateEntry where
  mask : Nat := 0
  dur : Nat := 0
deriving DecidableEq, Repr

/-- A gate list in force (R288). -/
structure GateList where
  base : Nat
  cycle : Nat
  entries : List GateEntry
deriving DecidableEq, Repr

/-- One scheduler: a front-panel port (0 to 63), the Tether (64) or the host (65). -/
structure Sched where
  rr : Nat := 0
  fresh : Bool := true
  sending : Option Sending := none
  /-- gate entry now applying, for ports with a list in force -/
  gateIdx : Nat := 0
  adminBank : Tbl GateEntry := []
  operBank : Tbl GateEntry := []
  inForce : Option GateList := none
  /-- T_sw of a pending change and the list it brings (R289) -/
  pending : Option (Nat × GateList) := none
  gateErr : Bool := false
  /-- longest window of each class in ns under the list in force; a class not listed has no limit (R291) -/
  longest : List (Nat × Nat) := []
  /-- ticks at which the classes' pauses end (R294) -/
  pauseEnd : Tbl Nat := []
  /-- flow-control frames that wait for the end of the copy under way, oldest first (R295) -/
  fcQ : List Bytes := []
  /-- classes (mode 2) or the port (mode 1, class 8) in XOFF, with the tick of the last XOFF sent (R295) -/
  xoff : List (Nat × Nat) := []
  /-- tick at which the queues froze (R296); none while they run -/
  frozenAt : Option Nat := none
deriving DecidableEq, Repr

/-- A policer (R299): tk in units of 2^-16 byte. -/
structure Policer where
  cir : Nat := 0xFFFFFFFF
  cbs : Nat := 0xFFFFFFFF
  wire : Bool := false
  tk : Int := 0xFFFFFFFF * 65536
  upd : Nat := 0
  drops : Nat := 0
deriving DecidableEq, Repr

/-- The traffic manager (R276 to R303). -/
structure TrafficMgr where
  scheds : Tbl Sched := []
  classes : Tbl TmClass := []
  policers : Tbl Policer := []
  /-- CLASSES and EXPRESS per port from TM_QUEUES; key 64 is the Tether (Table 12.1) -/
  nclass : Tbl Nat := []
  express : Tbl Nat := []
deriving DecidableEq, Repr
/-! ### Assayer and Exchange (chapter 03) -/

/-- The canonical key of R57 as a number: key byte i in bits [8i+7 : 8i]. -/
abbrev Ckey := BitVec 320

/-- The descriptor of one pass (Tables 3.11 and 7.12): what R64 carries forward and what the pass computes. -/
structure Desc where
  /-- number of the stored frame -/
  frame : Nat := 0
  /-- original ingress port -/
  port : Nat := 0
  /-- ingress class that the port assigned (R148) -/
  cls : Nat := 0
  /-- Ledger time of arrival (R96) -/
  arr : Nat := 0
  /-- bytes stripped before the current head (R64) -/
  head : Nat := 0
  pass : Nat := 0
  root : Nat := 0
  template : Nat := 0
  /-- 0 OK, 1 DEEP, 2 LENGTH -/
  status : Nat := 0
  /-- Accord stamp (R84) -/
  stamp : Nat := 0
  dir : Bool := false
  declEnd : Nat := 0
  hash : Word64 := 0
  ckey : Ckey := 0
  key : KeyVec := 0
  /-- MIRROR orders made so far (R171) -/
  mirrors : Nat := 0
  /-- the packet has waited in a miss queue (R147) -/
  waited : Bool := false
  /-- the packet is handled by a default action of R55 or R137 -/
  fallback : Bool := false
  /-- the action word applied to the pass, or 0 (R464) -/
  action : Nat := 0
  /-- entry order of the place that the packet already holds in the ready list, as one that has waited on a record does (R188,
  R190) -/
  entered : Option Nat := none
deriving DecidableEq, Repr

/-- The Assayer of one Branch (R43, R44, R62, R63). -/
structure Assayer where
  /-- frames at the receive FIFOs of the Branch's ports and not yet admitted, oldest first -/
  rxQ : List Nat := []
  /-- host-injected passes waiting for admission -/
  injectQ : List Desc := []
  recircQ : List Desc := []
  /-- tick at which the head of the recirculation queue came to its head, or at which the queue became empty -/
  recircAt : Nat := 0
  /-- recirculation orders waiting at a Teller's packet unit for a place: Teller and pass (R44) -/
  recircWait : List (Nat × Desc) := []
  /-- passes admitted whose windows are not yet decided, in admission order -/
  parsing : List Desc := []
  /-- descriptor held for a full output queue: its home Branch and the descriptor (R63) -/
  held : Option (Nat × Desc) := none
  heldAt : Nat := 0
  /-- tick of the hold, or of the last 1 µs of it that was counted -/
  stallAt : Nat := 0
  heldTold : Bool := false
  /-- output queues, one for each home Branch -/
  out : Tbl (List Desc) := []
  /-- admissions made in the current run of 1,024, and slots of it taken by recirculation (R43) -/
  slots : Nat := 0
  recircSlots : Nat := 0
  /-- source served last: 0 to 15 a port of the Branch, 16 the inject source -/
  last : Nat := 16
  /-- a stateless packet item waits for a ready-list place and stops admission (R189) -/
  stalled : Option (Desc × Word64) := none
deriving DecidableEq, Repr

/-! ### Sieve and Accord (chapter 04) -/

/-- A stored Sieve entry: its bytes in the layout of its table, byte i in bits [8i+7 : 8i]. -/
abbrev SieveEntry := BitVec 768

/-- Who started the operation in the write engine. -/
inductive SieveUser
  | port
  | batch (ring : Nat)
deriving DecidableEq, Repr

/-- An operation of the write engine (Table 4.7) with its operands. -/
structure SieveJob where
  user : SieveUser
  op : Nat
  index : Nat := 0
  em : Nat := 0
  branch : Nat := 0
  entry : SieveEntry := 0
deriving DecidableEq, Repr

/-- An entry while an operation writes it: its index, its content before, the Branches in which it was lost before, and the ticks at
which the replicas of B0 to B3 take the new content (R81). -/
structure SieveChange where
  index : Nat
  old : SieveEntry
  lost : List Nat := []
  at_ : List Nat := []
deriving DecidableEq, Repr

/-- What the operation in progress will report: RESULT, INDEX and the entry that a READ copies; and the entry that it is writing. -/
structure SieveAnswer where
  result : Nat
  index : Nat := 0
  read : Option SieveEntry := none
  change : Option SieveChange := none
deriving DecidableEq, Repr

/-- The Sieves' storage and the write engine (R69 to R83). -/
structure Sieve where
  entries : Tbl SieveEntry := []
  /-- Branch and index of entries that act as invalid in that Branch (R399) -/
  lost : List (Nat × Nat) := []
  ternGran : Nat := 0
  exactGran : Nat := 0
  lpm4Gran : Nat := 0
  lpm6Gran : Nat := 0
  /-- the operation in progress and its answer -/
  op : Option (SieveJob × SieveAnswer) := none
  /-- operations that arrived while another is in progress, in arrival order (chapter 04, Writing entries) -/
  queue : List SieveJob := []
deriving DecidableEq, Repr

/-- The Accord epochs (R84 to R91). -/
structure Accord where
  gen : Nat := 0
  drained : Bool := true
  /-- a swap requested and not yet made: T_swap as network time in ns (R87) -/
  swapAt : Option Nat := none
  /-- T_swap of the last swap made, network time in ns -/
  lastSwap : Nat := 0
  /-- DRAIN_TMO has been set for this drain -/
  told : Bool := false
deriving DecidableEq, Repr

/-! ### Ledger: Till, miss queue and flow table (chapters 05 and 06) -/

/-- A flow record: words W0 to W15 (R93). -/
abbrev Rec := Vector Word64 16

/-- The EMPTY record, in which every word is 0 (R133). -/
def Rec.empty : Rec := Vector.replicate 16 0

/-- One valid way of a Till slice. The record's LOCK and DIRTY bits are W0[25] and W0[24]. -/
structure Way where
  rc : Rec
  /-- Vault slot of the record -/
  slot : Nat
  /-- the slot is claimed and the record has not yet been written to it; the number orders claims by age (R130) -/
  claim : Option Nat := none
  pinEff : Bool := false
  /-- lock owner (Teller 0 to 127), Ledger time of acquisition, and tick of acquisition (R116) -/
  owner : Option Nat := none
  lockAt : Nat := 0
  lockTick : Nat := 0
  alarmed : Bool := false
  /-- tick at which the record last became dirty -/
  dirtyAt : Nat := 0
  /-- number of the record's installation in the way, which tells it from one of the same key before it -/
  inst : Nat := 0
  /-- deferred adds pending, by the installation whose record they belong to (R104) -/
  adds : List Nat := []
  /-- packets waiting on the record, oldest first (R113, R191) -/
  chain : List Desc := []
  /-- Tellers whose OPEN waits for the lock: Teller and tick (R118) -/
  openers : List (Nat × Nat) := []
  /-- Nose requests queued or running on the record (R233) -/
  scans : Nat := 0
  /-- tick of the fill or of the last mirror message of the record (R326) -/
  mirrorAt : Nat := 0
  /-- the record is new and its SETUP message waits for its release (R326) -/
  setupNew : Bool := false
  /-- W7 has changed since the window was bound (R326) -/
  w7Changed : Bool := false
  /-- unrecoverable words of the record while it is locked (R400) -/
  lostWords : List Nat := []
deriving DecidableEq, Repr

/-- What waits in a miss entry (R134). -/
inductive Waiter
  | packet (d : Desc) (since : Nat)
  | hostOp
  | teller (t : Nat)
  /-- a mirror message from the peer: TYPE, sender's SIDE and record (R327) -/
  | mirror (type side : Nat) (rc : Rec)
deriving DecidableEq, Repr

/-- A record to be installed in the Till, with its slot, whether it starts dirty, and its claim. -/
structure Fill where
  rc : Rec
  slot : Nat
  dirty : Bool
  claim : Option Nat := none
deriving DecidableEq, Repr

/-- What a setup holds once its Sieve result is known (R138, R139). -/
structure Setup where
  action : Word64
  /-- stamp of the lookup that produced the action -/
  stamp : Nat
  tokenTaken : Bool := false
deriving DecidableEq, Repr

/-- How far a miss entry has got (R126 to R132). -/
inductive MissStage
  /-- a candidate read of A (false) or B (true) is outstanding -/
  | reading (b : Bool)
  /-- the peer has been asked for the record of a poisoned slot (R128) -/
  | peer (slot : Nat)
  /-- a relocation item works for the setup (R131) -/
  | relocating
  /-- the record waits for an eligible way (R107) -/
  | noway (f : Fill)
  /-- a host operation or OPEN holds the key (R120) -/
  | held
  /-- the key is guarded by a relocation and the fill waits (R131) -/
  | guarded
  /-- the next packet waits for a place in the ready list (R189); whether the candidates have been searched in vain -/
  | place (searched : Bool)
deriving DecidableEq, Repr

/-- One miss entry (R134). -/
structure MissEntry where
  id : Nat
  key : Ckey
  hash : Word64
  stage : MissStage := .reading false
  /-- candidates found poisoned after their retries -/
  poisonA : Bool := false
  poisonB : Bool := false
  setup : Option Setup := none
  waiters : List Waiter := []
deriving DecidableEq, Repr

/-- What a host record operation will report (R121). -/
structure HostAnswer where
  result : Nat
  where_ : Nat := 0
  slot : Option Nat := none
  pinEff : Bool := false
  /-- owner and acquisition time of the record's lock -/
  owner : Option (Nat × Nat) := none
  /-- record copied to the data registers when the operation completes -/
  data : Option Rec := none
deriving DecidableEq, Repr

/-- The host record operation of a TILL instance (R119 to R121). -/
structure HostReq where
  op : Nat := 0
  wmask : Nat := 0
  busy : Bool := false
  /-- the answer, once the operation has been performed -/
  done : Option HostAnswer := none
  /-- way on which a WRITE of W14 waits for a Nose request (R233) -/
  onScan : Option Nat := none
  /-- the operation has not begun: it is held until the slice is ON (R112) -/
  held : Bool := false
  /-- the operation found its record in the Vault only and fills it (STATUS.WHERE) -/
  filled : Bool := false
deriving DecidableEq, Repr

/-- A relocation guard (R131): the slot that was tested, the Teller that set it, and the key that it guards. -/
structure Guard where
  slot : Nat
  teller : Nat
  key : Ckey
deriving DecidableEq, Repr

/-- A snapshot in an export ring (R222). -/
structure Snapshot where
  /-- byte address in the Coffer -/
  addr : Nat
  /-- running entry number of the ring -/
  num : Nat
  /-- 0 no item, 1 an item still to be created, 2 its item has not ended, 3 its item has ended -/
  item : Nat := 0
deriving DecidableEq, Repr

/-- The flow exporter of a Branch (R221 to R224). -/
structure Exporter where
  ring : List Snapshot := []
  base : Nat := 0
  num : Nat := 0
  /-- data records of the message being built, each with its template, and the tick of its first record -/
  recs : List (Nat × Bytes) := []
  msgAt : Nat := 0
  /-- the message carries a template set, and one is due at the next message -/
  withTmpl : Bool := false
  tmplDue : Bool := true
  tmplAt : Nat := 0
  /-- data records sent before the message (the IPFIX Sequence Number) -/
  sent : Nat := 0
deriving DecidableEq, Repr

/-- The Ledger of one Branch: its Till slice, miss queue, setup limiter and quarter of the flow table. -/
structure Ledger where
  /-- valid ways by 16 × set + way -/
  ways : Tbl Way := []
  /-- pseudo-LRU trees by set, bit i for node i of the 15 (R106) -/
  trees : Tbl Nat := []
  miss : List MissEntry := []
  nextMiss : Nat := 0
  nextClaim : Nat := 0
  /-- number of the next installation of a record in a way -/
  nextInst : Nat := 0
  /-- tokens held, in units of 10^-6 token, and the tick of the last update (R139) -/
  tokens : Nat := 4096000000
  tokensAt : Nat := 0
  /-- slots that hold ONEWAY, BOTH or CLOSING records in the Vault, or are claimed (TILL_FT_OCC) -/
  occ : Nat := 0
  /-- relocation guards on keys of this quarter (R131) -/
  guards : List Guard := []
  /-- the candidate that a relocation has made free, while the setup that waits for it claims it (R131) -/
  freed : List Nat := []
  /-- records still to be written back by a flush started by TILL_FLUSH_CTRL, by way and installation -/
  flush : Option (List (Nat × Nat)) := none
  /-- the flush takes DURABLE records only -/
  flushDurable : Bool := false
  hreq : HostReq := {}
  exp : Exporter := {}
  /-- a descriptor held at the probe stage for want of a ready-list place (R189) -/
  stalled : Option Desc := none
  /-- stateless packet items held at the probe stage for want of a place, with their action words (R189) -/
  heldItems : List (Desc × Word64) := []
  /-- Exchange input served last (R62) -/
  last : Nat := 3
deriving DecidableEq, Repr

/-! ### Dispatcher (chapter 08) -/

/-- Item states (Table 8.3). -/
inductive ItemState
  | waiting
  | ready
  | running (t : Nat)
  | parked (t : Nat)
deriving DecidableEq, Repr

/-- What a maintenance or host item belongs to. -/
inductive ItemFor
  | packet
  | host
  | post
  | reloc (miss : Nat)
  | sweep
  | flowExport (num : Nat)
  | nose
deriving DecidableEq, Repr

/-- A work item in the ready list (Table 8.1, Table 8.3). -/
structure Item where
  id : Nat
  g0 : Word64
  g1 : Word64 := 0
  g2 : Word64 := 0
  g3 : Word64 := 0
  prio : Nat
  st : ItemState := .ready
  kind : ItemFor := .packet
  /-- entry order, which breaks ties of age -/
  order : Nat := 0
  readyAt : Nat := 0
  tries : Nat := 0
  /-- Tellers (0 to 31) whose handlers have declined this item (R196) -/
  declined : List Nat := []
  desc : Option Desc := none
  /-- Till way key of the record window -/
  way : Option Nat := none
deriving DecidableEq, Repr

/-- The Dispatcher of one Branch. -/
structure Disp where
  items : List Item := []
  nextId : Nat := 1
  /-- starts made in the current run of 256, and those of P2 and P3 (R194) -/
  starts : Nat := 0
  p2 : Nat := 0
  p3 : Nat := 0
  /-- Teller (0 to 31) most recently started -/
  lastStart : Nat := 31
  /-- outstanding pre-emption requests: Teller (0 to 31) and item -/
  reqs : List (Nat × Nat) := []
  /-- affinity table bytes that differ from VALID 1, TELLER i mod 32 -/
  aff : Tbl Nat := []
  /-- traced decisions seen per kind, for sampling (R202) -/
  seen : Tbl Nat := []
  sweepAt : Nat := 0
  noTeller : Bool := false
deriving DecidableEq, Repr

/-! ### Tellers and control stores (chapter 07) -/

/-- TELL_TSTATUS.STATE. -/
inductive TState | idle | run | wait | halt | failed
deriving DecidableEq, Repr

/-- Trap causes (Table 7.14). -/
inductive TrapCause
  /-- faulting byte address -/
  | poison (addr : Nat)
  /-- flow hash of the key -/
  | lockTmo (hash : Word64)
  | preempt
  | illegal (detail : Nat)
  | budget
  | brk
  | soft (vector : Nat)
deriving DecidableEq, Repr

/-- The verdict orders of a routine (R171). -/
inductive Verdict
  | action (a : Word64)
  | punt (ring : Nat) (reason : Nat)
  | drop (code : Nat)
  | recirc (strip : Nat) (root : Nat)
  | policed
deriving DecidableEq, Repr

/-- A mirror order: target, class and the frame's head on the pass that made it. -/
structure MirrorOrder where
  target : Nat
  cls : Nat
deriving DecidableEq, Repr

/-- A memory operation issued and not yet answered (R159). -/
structure MemOp where
  id : Nat
  mop : Nat
  msel : Nat
  addr : Nat
  /-- destination register and the number of registers written; none for stores -/
  dst : Option (Nat × Nat) := none
  setsS : Bool := false
  data : Word64 := 0
  data2 : Word64 := 0
  /-- comparand of CAS, entry index of the move buffer -/
  arg : Word64 := 0
  /-- answers of its words of the Coffer, low half first, once their rounds have served them -/
  lo : Option Word64 := none
  hi : Option Word64 := none
  /-- the S flag that a CAS will set -/
  stored : Bool := false
  /-- the operation was answered poisoned after its retry -/
  poisoned : Bool := false
deriving DecidableEq, Repr

/-- The item context, which traps neither save nor change (R150), and the packet's orders. -/
structure ItemCtx where
  item : Nat := 0
  g0 : Word64 := 0
  g1 : Word64 := 0
  g2 : Word64 := 0
  g3 : Word64 := 0
  prio : Nat := 0
  kv : KeyVec := 0
  moveBuf : Tbl Rec := []
  desc : Option Desc := none
  released : Bool := false
  verdict : Option Verdict := none
  params : Tbl Word64 := []
  mirrors : List MirrorOrder := []
  steps : Nat := 0
  noAff : Bool := false
  /-- the packet unit's recirculation order has entered its queue (R44) -/
  recircOk : Bool := false
  /-- result word of the latest SCAN, its completion, and the window it works on -/
  scan : Option Word64 := none
  scanBusy : Bool := false
  /-- W7, W12 and W13 of the packet's record as its visit left them, once the visit has ended (R205) -/
  bound : Option (List Word64) := none
deriving DecidableEq, Repr

/-- A trap frame (Table 7.16): its 48 words, its window binding and its PARKED mark. -/
structure TrapFrame where
  f : Vector Word64 48
  win : Option Nat
  parked : Bool := false
deriving DecidableEq, Repr

/-- One Teller (Table 7.1). -/
structure Teller where
  st : TState := .idle
  pc : Nat := 0
  g : Vector Word64 32 := Vector.replicate 32 0
  z : Bool := false
  n : Bool := false
  c : Bool := false
  s : Bool := false
  lc : Nat := 0
  /-- return stack, newest first -/
  stack : List Nat := []
  /-- words left in the current HOLD span -/
  hold : Nat := 0
  /-- the last sixteen words executed were a HOLD span (R177) -/
  full : Bool := false
  /-- record window: Till way key in the Branch's slice -/
  win : Option Nat := none
  ctx : ItemCtx := {}
  /-- context of a parked item (R181) -/
  parked : Option ItemCtx := none
  /-- trap frames, newest first -/
  frames : List TrapFrame := []
  /-- traps raised and not yet taken, oldest first -/
  traps : List TrapCause := []
  /-- memory operations outstanding, oldest first -/
  mem : List MemOp := []
  nextMem : Nat := 0
  /-- NADDR of the SEQ HALT that stopped the Teller -/
  haltAt : Option Nat := none
  /-- breakpoint at the current PC is to be skipped once (F0.BRK_SKIP) -/
  brkSkip : Bool := false
  /-- the PREEMPT trap of frame 0.. is being handled: depth of its frame, and the item that asked -/
  preempt : Option (Nat × Nat) := none
  /-- an OPEN waits in its step: its key and hash (R166) -/
  opening : Option (Ckey × Word64) := none
  /-- answer of an OPEN that needed the Vault or the lock: the way, or absent -/
  opened : Option (Option Nat) := none
deriving DecidableEq, Repr

/-- One Desk: its control store and the state of its register-port reads (R152 to R154). -/
structure Desk where
  store : Tbl MicroWord := []
  failed : Bool := false
  /-- the control-store read in progress: its address -/
  reading : Option Nat := none
deriving DecidableEq, Repr

/-! ### Nose (chapter 10) -/

/-- A scan request (Table 10.4) with the pass it works on. -/
structure ScanReq where
  id : Nat
  /-- Teller and item that issued it -/
  teller : Nat
  item : Nat
  frame : Nat
  head : Nat
  startOff : Nat
  maxLen : Nat
  group : Nat
  isNew : Bool
  monitor : Bool
  way : Option Nat := none
  hash : Word64 := 0
  port : Nat := 0
  /-- the group that the request will scan, as judged when it was issued (R245) -/
  eff : Nat := 0
deriving DecidableEq, Repr

/-- The stream chosen when a request starts (R232); it is written to W14 when the item has a record window. -/
structure NoseRun where
  req : ScanReq
  group : Nat
  gen : Nat
  state : Nat
  offset : Nat
  gap : Bool
  /-- the stream had ended before the request; nothing is scanned -/
  done : Bool
  /-- bits of the request that the engine has scanned as they arrived (R234, R241) -/
  pos : Nat := 0
deriving DecidableEq, Repr

/-- One Nose engine. -/
structure Nose where
  queue : List ScanReq := []
  run : Option NoseRun := none
  nextReq : Nat := 0
  /-- reports waiting for a P3 place: flow hash, ingress port and result word (R244) -/
  reports : List (Word64 × Nat × Word64) := []
  /-- tick at which the report at the head was last offered -/
  reportAt : Nat := 0
  /-- ways whose stream's GAP is to be set once the requests up to a number have ended (R240) -/
  gaps : List (Nat × Nat) := []
  step : Nat := 0
  /-- tick since which the backlog has been 0 (R241) -/
  zeroSince : Option Nat := none
  hold : Bool := false
deriving DecidableEq, Repr

/-- A group of patterns (R228, R245 to R249). -/
structure NoseGroup where
  base : Nat := 0
  limit : Nat := 0
  start : Nat := 0
  patFirst : Nat := 0
  patCount : Nat := 0
  valid : Bool := false
  quiesced : Bool := false
  gen : Nat := 0
deriving DecidableEq, Repr

/-- What the four engines hold alike: node memory by unit, the pattern table, and the groups. -/
structure NoseAutomata where
  nodes : Tbl Word64 := []
  patterns : Tbl Word64 := []
  groups : Tbl NoseGroup := []
  groupCount : Nat := 0
  patternCount : Nat := 0
deriving DecidableEq, Repr

/-! ### Vault and Auditor (chapters 15 and 16) -/

/-- Content of a record of a physical rank. -/
inductive VCell
  | data (r : Rec)
  | poison
deriving DecidableEq, Repr

/-- VAULT_CH_STATUS.STATE (Table 15.4). -/
inductive ChState | untrained | training | service | srEntry | selfRefresh | srExit | failed
deriving DecidableEq, Repr

/-- Why a channel is to be in self-refresh (R373). -/
inductive SrCause | quiet | brownout | failed
deriving DecidableEq, Repr

/-- Who makes a Vault access (AUDIT_UE_INFO.REQUESTER). -/
inductive VaultUser
  | auditor
  | ledger
  | teller (t : Nat)
  | host
  | migration
  | peer
  | partialTeller (t : Nat)
  | partialHost
deriving DecidableEq, Repr

/-- An entry of a channel's merge buffer (R402): region-space record, gathered bytes by offset, opening tick, writers. -/
structure MergeEntry where
  record : Nat
  bytes : Tbl Byte := []
  have_ : List Nat := []
  openAt : Nat
  host : Bool := false
  tellers : List (Nat × Nat) := []
deriving DecidableEq, Repr

/-- A write that a channel's write buffer holds (R369): physical rank, record in the rank, class of R142, and Branch. -/
structure VaultWrite where
  rank : Nat
  rec_ : Nat
  cls : Nat
  branch : Nat
deriving DecidableEq, Repr

/-- An access of the host window that waits for its channels (R374, R384): its first region-space byte, its length, and the data
and byte enables of a write. -/
structure WinReq where
  addr : Nat
  len : Nat
  write : Option (Bytes × List Bool)
deriving DecidableEq, Repr

/-- A Vault channel. -/
structure VaultCh where
  st : ChState := .untrained
  /-- hot by its temperature (R372) -/
  hot : Bool := false
  /-- sensor reads that have failed in a row (R371) -/
  sensorFails : Nat := 0
  tempAt : Nat := 0
  /-- the cause of the last self-refresh entry (R373) -/
  srCause : SrCause := .quiet
  /-- tick of the last request, for the retry of R374 -/
  lastReq : Nat := 0
  /-- refresh debt of bank set m mod 4 of chip select m / 4 -/
  debt : Tbl Nat := []
  /-- tick of each bank set's last accrual -/
  refAt : Tbl Nat := []
  /-- failed-write list: keys of the contents, 2^29 × physical rank + record in the rank (R378) -/
  fwl : List Nat := []
  /-- writes accepted and not yet made in the DRAM, oldest first: the first 256 are in the write buffer, the rest wait at their
  requesters (R369) -/
  writes : List VaultWrite := []
  /-- operations since the last of class 4, up to 127 (R142) -/
  sweepGap : Nat := 0
  /-- the Branch whose write was served last (R142) -/
  turn : Nat := 3
  /-- tick of the last piece of the host window (R384) -/
  winAt : Nat := 0
  merge : List MergeEntry := []
  /-- tick of each chip select's last ZQ calibration (R377) -/
  zqAt : Tbl Nat := []
  /-- chip selects that are candidates or out of service -/
  candidates : Nat := 0
  /-- corrected symbols of each device in the current 60 s window: 20 × chip select + device -/
  ce : Tbl Nat := []
  ceWindow : Nat := 0
  /-- devices that have passed CE_PER_MIN in the window, numbered as in `ce` (R379) -/
  ceOver : List Nat := []
  /-- a retraining of a rank in SERVICE has failed (R377) -/
  retrainFailed : Bool := false
deriving DecidableEq, Repr

/-- A region of the Vault (Table 15.2). -/
structure Region where
  base : Nat := 0
  size : Nat := 0
  merge : Bool := false
deriving DecidableEq, Repr

/-- VAULT_SPARE_STATUS.STATE (Table 15.5). -/
inductive SpareState | none | ready | migrating | done | aborted
deriving DecidableEq, Repr

/-- The Vault: population, regions, remap table, sparing and contents. -/
structure Vault where
  speed : Nat := 0
  ranks : Nat := 1
  gib : Nat := 32
  spare : Option Nat := none
  retired : Option Nat := none
  regions : List Region := []
  ftRegion : Nat := 0
  ftLog2 : Nat := 0
  seed : Word64 := 0
  /-- remap entries that differ from the identity (R380) -/
  remap : Tbl Nat := []
  spareSt : SpareState := .none
  spareSrc : Nat := 0
  spareCause : Nat := 0
  cursor : Nat := 0
  /-- contents by 2^29 × physical rank + record index in the rank; a record not listed holds all zero words -/
  mem : Tbl VCell := []
  chans : Tbl VaultCh := []
  /-- accesses of the host window that wait, in arrival order (R374, R384) -/
  win : List WinReq := []
deriving DecidableEq, Repr

/-- The Auditor: start tick of each lap, where each lap stands, and whether its alarm has been raised (R403, R404). Of an on-chip
memory m, `visited` holds at m the pages visited in the lap; of the Vault, at 8 + c the next record of channel c, as
2^29 × rank + record. -/
structure Auditor where
  lapAt : Tbl Nat := []
  visited : Tbl Nat := []
  alarmed : List Nat := []
  /-- poisoned flow-table slots under a relocation's guard, which wait for its release (R406) -/
  waiting : List Nat := []
deriving DecidableEq, Repr

/-! ### The machine -/

/-- The DW3240 as a block: everything the spec gives it, and the queue of commands that wait. -/
structure State where
  /-- commands waiting, first in, first out -/
  pending : List Instr := []
  /-- number of free values taken so far (the model's own field) -/
  free : Nat := 0
  /-- BAR0 registers whose stored value differs from the reset value, by absolute offset -/
  regs : Tbl Word32 := []
  /-- the disposition counters that are not 0 (R148), by 256 × port + 32 × class + code -/
  dispo : Tbl Nat := []
  time : TimeBase := {}
  sill : Sillage := {}
  msix : Msix := {}
  perf : Perf := {}
  treas : Treasury := {}
  fuses : Fuses := {}
  sec : SecEngine := {}
  pins : Pins := {}
  loader : Loader := {}
  pcie : Pcie := {}
  coffer : Coffer := {}
  rings : Tbl Ring := []
  out : Outputs := {}
  /-- TYPE 1 ring whose batch was taken last (R470) -/
  lastBatch : Nat := 31
  ports : Tbl Port := []
  portCfg : Tbl PortCfg := []
  lanes : Tbl Lane := []
  /-- TX_INV and RX_INV of each port lane (R305), and the taps of port lanes 0 to 63 and Tether lanes 64 to 71 as LANE_TAPS
  shows them (R306) -/
  laneInv : Tbl Nat := []
  laneTaps : Tbl Nat := []
  teth : Tether := {}
  swc : SwitchCore := {}
  tm : TrafficMgr := {}
  /-- probe nodes and templates as loaded (Table 3.14) -/
  templates : Bytes := []
  assay : Tbl Assayer := []
  sieve : Sieve := {}
  accord : Accord := {}
  ledger : Tbl Ledger := []
  disp : Tbl Disp := []
  tellers : Tbl Teller := []
  desks : Tbl Desk := []
  nose : Tbl Nose := []
  automata : NoseAutomata := {}
  vault : Vault := {}
  audit : Auditor := {}
deriving DecidableEq, Repr

/-- The machine right after reset (R496): every field at its default above, which is the value of the spec's Reset
column or the value that a log entry names. -/
def State.reset : State := {}

end Sys2Proof.Machine
end

