-- ==== Sys2Proof/Machine/Ops.lean ====
section
/-!
DEFINITION. The named operations that every family uses: stored register fields, counters (R5, R6, R484), interrupt
causes (R474), Sillage records (R353 to R358), performance events (R482), network and Ledger time (R96, R335),
disposition codes (R148, R359) and free values.
-/
namespace Sys2Proof.Machine

/-! ### Access to the tables of instances -/

namespace State

def ledgerAt (s : State) (b : Nat) : Ledger := Tbl.get s.ledger b {}
def dispAt (s : State) (b : Nat) : Disp := Tbl.get s.disp b {}
def assayAt (s : State) (b : Nat) : Assayer := Tbl.get s.assay b {}
def noseAt (s : State) (b : Nat) : Nose := Tbl.get s.nose b {}
def tellerAt (s : State) (t : Nat) : Teller := Tbl.get s.tellers t {}
def deskAt (s : State) (d : Nat) : Desk := Tbl.get s.desks d {}
def portAt (s : State) (p : Nat) : Port := Tbl.get s.ports p {}
def portCfgAt (s : State) (p : Nat) : PortCfg := Tbl.get s.portCfg p {}
def ringAt (s : State) (n : Nat) : Ring := Tbl.get s.rings n {}
def chanAt (s : State) (c : Nat) : VaultCh := Tbl.get s.vault.chans c {}
def schedAt (s : State) (k : Nat) : Sched := Tbl.get s.tm.scheds k {}
def classAt (s : State) (n : Nat) : TmClass := Tbl.get s.tm.classes n {}
def userAt (s : State) (u : Nat) : AllowUser := Tbl.get s.treas.users u {}
def domAt (s : State) (d : Nat) : DomState := Tbl.get s.treas.doms d .off

def setLedger (s : State) (b : Nat) (l : Ledger) : State := { s with ledger := Tbl.set s.ledger b {} l }
def setDisp (s : State) (b : Nat) (d : Disp) : State := { s with disp := Tbl.set s.disp b {} d }
def setAssay (s : State) (b : Nat) (a : Assayer) : State := { s with assay := Tbl.set s.assay b {} a }
def setNose (s : State) (b : Nat) (n : Nose) : State := { s with nose := Tbl.set s.nose b {} n }
def setTeller (s : State) (t : Nat) (x : Teller) : State := { s with tellers := Tbl.set s.tellers t {} x }
def setDesk (s : State) (d : Nat) (x : Desk) : State := { s with desks := Tbl.set s.desks d {} x }
def setPort (s : State) (p : Nat) (x : Port) : State := { s with ports := Tbl.set s.ports p {} x }
def setRing (s : State) (n : Nat) (r : Ring) : State := { s with rings := Tbl.set s.rings n {} r }
def setChan (s : State) (c : Nat) (x : VaultCh) : State :=
  { s with vault := { s.vault with chans := Tbl.set s.vault.chans c {} x } }
def setSched (s : State) (k : Nat) (x : Sched) : State := { s with tm := { s.tm with scheds := Tbl.set s.tm.scheds k {} x } }
def setClass (s : State) (n : Nat) (x : TmClass) : State := { s with tm := { s.tm with classes := Tbl.set s.tm.classes n {} x } }
def setUser (s : State) (u : Nat) (x : AllowUser) : State :=
  { s with treas := { s.treas with users := Tbl.set s.treas.users u {} x } }
def setDom (s : State) (d : Nat) (x : DomState) : State :=
  { s with treas := { s.treas with doms := Tbl.set s.treas.doms d .off x } }

def modLedger (s : State) (b : Nat) (f : Ledger → Ledger) : State := s.setLedger b (f (s.ledgerAt b))
def modDisp (s : State) (b : Nat) (f : Disp → Disp) : State := s.setDisp b (f (s.dispAt b))
def modAssay (s : State) (b : Nat) (f : Assayer → Assayer) : State := s.setAssay b (f (s.assayAt b))
def modNose (s : State) (b : Nat) (f : Nose → Nose) : State := s.setNose b (f (s.noseAt b))
def modTeller (s : State) (t : Nat) (f : Teller → Teller) : State := s.setTeller t (f (s.tellerAt t))
def modPort (s : State) (p : Nat) (f : Port → Port) : State := s.setPort p (f (s.portAt p))
def modRing (s : State) (n : Nat) (f : Ring → Ring) : State := s.setRing n (f (s.ringAt n))
def modChan (s : State) (c : Nat) (f : VaultCh → VaultCh) : State := s.setChan c (f (s.chanAt c))
def modSched (s : State) (k : Nat) (f : Sched → Sched) : State := s.setSched k (f (s.schedAt k))

end State

/-! ### Stored registers -/

/-- Stored value of the register at an absolute BAR0 offset. -/
def regRead (s : State) (off : Nat) : Word32 := Tbl.get s.regs off (resetOf off)

/-- The state with a register's stored value replaced. -/
def regStore (off : Nat) (v : Word32) (s : State) : State := { s with regs := Tbl.set s.regs off (resetOf off) v }

/-- Stored field [hi:lo] of a register. -/
def fieldOf (s : State) (off hi lo : Nat) : Nat := bits (regRead s off).toNat hi lo

/-- Stored bit i of a register. -/
def flagOf (s : State) (off i : Nat) : Bool := (regRead s off).getLsbD i

/-- The state with a stored field replaced. -/
def setField (off hi lo x : Nat) (s : State) : State :=
  regStore off (BitVec.ofNat 32 (setBits (regRead s off).toNat hi lo x)) s

/-- A 64-bit quantity in two consecutive registers, low half first (R3). -/
def pairOf (s : State) (off : Nat) : Nat := (regRead s off).toNat + 2 ^ 32 * (regRead s (off + 4)).toNat

/-- A 64-bit quantity stored in two consecutive registers. -/
def setPair (off v : Nat) (s : State) : State :=
  s |> regStore off (BitVec.ofNat 32 v) |> regStore (off + 4) (BitVec.ofNat 32 (v / 2 ^ 32))

/-- A counter that holds at 0xFFFF_FFFF counts n events; under a freeze nothing is counted (R484). -/
def bumpN (off n : Nat) (s : State) : State :=
  if s.perf.frozen then s else regStore off (BitVec.ofNat 32 (capAt 0xFFFFFFFF ((regRead s off).toNat + n))) s

/-- One event in a counter that holds at 0xFFFF_FFFF. -/
def bump (off : Nat) (s : State) : State := bumpN off 1 s

/-- An event in a count that holds at 0xFFFF_FFFF and that a freeze does not stop: it is no *_CNT register (R484). -/
def tally (off : Nat) (s : State) : State := regStore off (BitVec.ofNat 32 (capAt 0xFFFFFFFF ((regRead s off).toNat + 1))) s

/-- n events in a 64-bit counter pair. -/
def bump64 (off n : Nat) (s : State) : State :=
  if s.perf.frozen then s else setPair off ((pairOf s off + n) % 2 ^ 64) s

/-- A peak field takes in a new occupancy. -/
def peak (off hi lo v : Nat) (s : State) : State := if fieldOf s off hi lo < v then setField off hi lo v s else s

/-- Hardware sets cause bit i of a block's IRQ_CAUSE (R474). -/
def cause (off i : Nat) (s : State) : State := regStore off (regRead s off ||| BitVec.ofNat 32 (2 ^ i)) s

/-! ### Time -/

/-- Ledger time now: network time in whole ns, modulo 2^64 (R96). -/
def ledgerNow (s : State) : Nat := s.time.net / 2 ^ 32 % 2 ^ 64

/-- Ledger time of an instant of network time given in units of 2^-32 ns. -/
def ledgerOf (net : Nat) : Nat := net / 2 ^ 32 % 2 ^ 64

def netSec (net : Nat) : Nat := net / 2 ^ 32 / 1000000000
def netNs (net : Nat) : Nat := net / 2 ^ 32 % 1000000000
def netFrac (net : Nat) : Nat := net % 2 ^ 32 / 2 ^ 16

/-- A pair of *_SEC and *_NS registers takes an instant (R336). -/
def stampAt (secOff nsOff net : Nat) (s : State) : State :=
  s |> regStore secOff (BitVec.ofNat 32 (netSec net)) |> regStore nsOff (BitVec.ofNat 32 (netNs net))

/-- A pair of *_SEC and *_NS registers takes the time now. -/
def stamp (secOff nsOff : Nat) (s : State) : State := stampAt secOff nsOff s.time.net s

/-- An instant moved by a signed delay in units of 2^-16 ns (R342). -/
def adjusted (net adj : Nat) : Nat := ((net : Int) + signed 32 adj * 65536).toNat

/-- Ticks since a recorded tick. -/
def since (s : State) (t : Nat) : Nat := s.time.tick - t

/-! ### The Sillage -/

/-- Places a record in the Sillage: SEQ always advances; a record is discarded under EN 0 or a masked kind, and lost
when 4,096 records wait (R356, R358). -/
def emitAt (net src kind payload : Nat) (s : State) : State :=
  let seq := Tbl.get s.sill.seq src 0
  let s1 := { s with sill := { s.sill with seq := Tbl.set s.sill.seq src 0 ((seq + 1) % 4096) } }
  if flagOf s Reg.SILL_CFG 31 = false ∨ flagOf s (Reg.SILL_KIND_MASK (kind / 32)) (kind % 32) = true then s1
  else if 4096 ≤ s.sill.buf.length then
    { s1 with sill := { s1.sill with lost := Tbl.set s1.sill.lost src 0 (Tbl.get s1.sill.lost src 0 + 1) } }
      |> bump Reg.SILL_LOST_CNT |> cause Reg.SILL_IRQ_CAUSE 0
  else
    let s2 := { s1 with sill := { s1.sill with buf := s1.sill.buf ++ [⟨net, src, kind, seq, payload⟩] } }
    if s2.sill.buf.length = 2048 then cause Reg.SILL_IRQ_CAUSE 1 s2 else s2

/-- Places a record stamped now. -/
def emit (src kind payload : Nat) (s : State) : State := emitAt s.time.net src kind payload s

/-- Sources of Table 14.7. -/
def srcAssay (b : Nat) : Nat := 0x20 + b
def srcSieve (b : Nat) : Nat := 0x24 + b
def srcDisp (b : Nat) : Nat := 0x28 + b
def srcTill (b : Nat) : Nat := 0x2C + b
def srcNose (b : Nat) : Nat := 0x30 + b
def srcPort (p : Nat) : Nat := 0x40 + p
def srcTeller (t : Nat) : Nat := 0x80 + t
def srcDesk (d : Nat) : Nat := 0x100 + d
def srcVaultCh (c : Nat) : Nat := 0x10 + c

/-! ### Performance events -/

/-- Counter k of unit u counts n: it wraps modulo 2^48, and the wrap sets OVF and, if selected, the cause (R482). -/
def perfCount (u k n : Nat) (s : State) : State :=
  let v := pairOf s (Reg.PERF_CNT_LO u k) + n
  let s := setPair (Reg.PERF_CNT_LO u k) (v % 2 ^ 48) s
  if 2 ^ 48 ≤ v then
    let s := cause (Reg.PERF_UNIT_CTRL u) k s
    if flagOf s (Reg.PERF_EVT_SEL u k) 31 then cause Reg.PERF_IRQ_CAUSE 0 s else s
  else s

/-- Event `code` of unit u occurs n times: each counter that selects it counts (R482), unless frozen (R484). -/
def perfN (u code n : Nat) (s : State) : State :=
  if s.perf.frozen then s else
    (List.range 8).foldl (fun s k => if fieldOf s (Reg.PERF_EVT_SEL u k) 7 0 = code then perfCount u k n s else s) s

/-- Event `code` of unit u occurs once. -/
def perf (u code : Nat) (s : State) : State := perfN u code 1 s

/-- Units of Table 20.5. -/
def uBranch (b : Nat) : Nat := b
def uDesk (d : Nat) : Nat := 4 + d
def uDisp (b : Nat) : Nat := 20 + b
def uTill (b : Nat) : Nat := 24 + b
def uNose (b : Nat) : Nat := 28 + b
def uVault (c : Nat) : Nat := 32 + c
def uMint : Nat := 40
def uSwc : Nat := 41
def uTm : Nat := 42
def uDma : Nat := 43
def uTeth : Nat := 44

/-! ### Disposition codes -/

/-- Disposition codes of Table 6.4. -/
def FWD_FAST : Nat := 0x00
def FWD_AFTER_WAIT : Nat := 0x01
def FWD_FALLBACK : Nat := 0x02
def RECIRCULATED : Nat := 0x03
def PUNTED : Nat := 0x04
def DROP_RULE : Nat := 0x10
def DROP_POLICER : Nat := 0x11
def DROP_PARSE_DEPTH : Nat := 0x12
def DROP_PARSE_LENGTH : Nat := 0x13
def DROP_MISS_TIMEOUT : Nat := 0x14
def DROP_MISS_FULL : Nat := 0x15
def DROP_MINT_REFUSED : Nat := 0x16
def DROP_GATE_NEVER_FITS : Nat := 0x17
def DROP_PORT_HOLD_EXPIRED : Nat := 0x18
def DROP_TAIL_BAD : Nat := 0x19
def DROP_FCS : Nat := 0x1A
def DROP_NOSE : Nat := 0x1B
def DROP_SETUP_LIMIT : Nat := 0x1C

/-- Adds to the disposition counter of a port, class and code (R148). -/
def dispoCount (port cls code : Nat) (s : State) : State :=
  if s.perf.frozen then s else
    let i := 256 * port + 32 * cls + code
    { s with dispo := Tbl.set s.dispo i 0 ((Tbl.get s.dispo i 0 + 1) % 2 ^ 64) }

/-- A packet receives its code: the counter counts, and disposition sampling counts and may emit a record (R148, R359).
The payload's hash and arrival time are the packet's. -/
def dispose (port cls code : Nat) (waited : Bool) (hash : Word64) (arr : Nat) (s : State) : State :=
  let s := dispoCount port cls code s
  if flagOf s Reg.SILL_DISP_CFG 31 = true ∧ (flagOf s Reg.SILL_DISP_CFG 30 = false ∨ 0x10 ≤ code) then
    let n := s.sill.sampleCount + 1
    if n = fieldOf s Reg.SILL_DISP_CFG 23 0 + 1 then
      { s with sill := { s.sill with sampleCount := 0 } }
        |> emit (srcPort port) 0x19 (code + 2 ^ 8 * cls + 2 ^ 11 * b2n waited + 2 ^ 12 * hash.toNat + 2 ^ 76 * (arr % 2 ^ 32))
    else { s with sill := { s.sill with sampleCount := n } }
  else s

/-! ### Free values and common tests -/

/-- Takes a free value: a 64-bit word of which nothing is known (log entry 4). -/
def takeFree (s : State) : Word64 × State := (Config.freeWord s.free, { s with free := s.free + 1 })

/-- A Charter runs: in RUN, and while the next image is awaited or verified (R30, Table 2.7). -/
def running (s : State) : Bool :=
  s.loader.st = .run ∨ ((s.loader.st = .waitPush ∨ s.loader.st = .verify) ∧ s.loader.prev = .run)

/-- The packet path works: a Charter runs, or is being drained (Table 2.8). -/
def flowing (s : State) : Bool := running s || s.loader.st == .drain

/-- BAR0 writes outside the TOP, SEC, TREAS, TIME and DMA blocks take effect: not from the start of DRAIN until RUN
(R34). -/
def barOpen (s : State) : Bool := !(s.loader.st = .drain ∨ s.loader.st = .load ∨ s.loader.st = .init)

/-- A register write that R34 may discard. -/
def gated (f : State → State) (s : State) : State := if barOpen s then f s else s

/-- A power domain is ON. -/
def domOn (s : State) (d : Nat) : Bool := s.domAt d = .on

/-- Ticks of a time in µs. -/
def us (n : Nat) : Nat := 1000 * n

/-- QUIET entry is in progress, or the power state is QUIET: the MACs accept no new frames (R414). -/
def quieting (s : State) : Bool := s.treas.pstate == .quiet || (match s.treas.trans with | some (true, _) => true | _ => false)

/-- Sweep, export and relocation generators may offer items: not from step 3 of QUIET entry on (R414). -/
def generatorsOn (s : State) : Bool :=
  match s.treas.trans with
  | some (true, t) => Decidable.decide (since s t < us (fieldOf s Reg.TREAS_QUIET_TMO 31 0))
  | _ => s.treas.pstate != .quiet

/-! ### Register writes without an action -/

/-- A register as a write of a value leaves it, by the types of its fields (R4, R7). -/
def plainValue (s : State) (r : RegRow) (old v : Word32) : Word32 :=
  let st := r.mask fun t => t == .rw || (t == .rwl && !s.loader.locked)
  (((old &&& ~~~ st) ||| (v &&& st)) &&& ~~~ (v &&& r.mask (· == .w1c))) ||| (v &&& r.mask (· == .w1s))

/-- A write that only stores, clears and sets bits. -/
def plainWrite (off : Nat) (v : Word32) (s : State) : State :=
  match rowOf off with
  | some r => regStore off (plainValue s r (regRead s off) v) s
  | none => s

end Sys2Proof.Machine
end

