-- ==== Sys2Proof/Machine/Rings.lean ====
section
/-!
DEFINITION. The DMA rings of chapter 19: settings and indices (R461), descriptors and buffers of host-bound rings (R462,
R463), halts (R471), and the bookkeeping of table-update batches (R468 to R470).
-/
namespace Sys2Proof.Machine

/-! ### Host memory -/

/-- The command begins a new set of writes to host memory (Outputs). -/
def freshOut (s : State) : State := { s with out := { s.out with hostWrites := [] } }

/-- Bytes are written to host memory. -/
def toHost (addr : Nat) (b : Bytes) (s : State) : State :=
  perfN uDma 2 b.length { s with out := { s.out with hostWrites := s.out.hostWrites ++ [(addr % 2 ^ 64, b)] } }

/-- n bytes have been read from host memory. -/
def fromHost (n : Nat) (s : State) : State := perfN uDma 3 n s

/-! ### Ring settings and indices -/

/-- log2 of the ring's descriptors: SIZE_LOG2, values outside 6 to 15 acting as the nearest limit. -/
def ringLog2 (s : State) (n : Nat) : Nat := min 15 (max 6 (fieldOf s (Reg.DMA_RING_CFG n) 19 16))

def ringEn (s : State) (n : Nat) : Bool := flagOf s (Reg.DMA_RING_CFG n) 31

/-- The ring is a device-bound ring of TYPE 1, which carries batches. -/
def ringTable (s : State) (n : Nat) : Bool := 16 ≤ n && flagOf s (Reg.DMA_RING_CFG n) 24

/-- Host address of BASE, 4 KiB aligned. -/
def ringBase (s : State) (n : Nat) : Nat := pairOf s (Reg.DMA_RING_BASE_LO n) / 4096 * 4096

def ringHead (s : State) (n : Nat) : Nat := (s.ringAt n).head % 2 ^ ringLog2 s n

def ringTail (s : State) (n : Nat) : Nat := fieldOf s (Reg.DMA_RING_TAIL n) 15 0 % 2 ^ ringLog2 s n

/-- DMA_RING_STATUS.IDLE: no descriptor in progress. -/
def ringIdle (r : Ring) : Bool := r.open_.isNone && r.inject.isNone && r.batch.isNone

/-- A descriptor k places past HEAD has been posted. -/
def posted (s : State) (n k : Nat) : Bool := k < (ringTail s n + 2 ^ ringLog2 s n - ringHead s n) % 2 ^ ringLog2 s n

/-- Address of the descriptor k places past HEAD. -/
def descAddr (s : State) (n k : Nat) : Nat := ringBase s n + 32 * ((ringHead s n + k) % 2 ^ ringLog2 s n)

/-- HEAD advances past a descriptor that has been written back (R461). -/
def advanceHead (n : Nat) (s : State) : State :=
  let h := (ringHead s n + 1) % 2 ^ ringLog2 s n
  let s := s.modRing n fun r => { r with head := h }
  let s := if flagOf s (Reg.DMA_RING_CFG n) 1 then toHost (pairOf s (Reg.DMA_RING_HWB_LO n) / 8 * 8) (leBytes 8 h) s else s
  s |> cause (Reg.DMA_RING_STATUS n) 0 |> bump (Reg.DMA_RING_DESC_CNT n) |> perf uDma 1

/-- A ring halts with an error code: 1 fetch error, 2 bad descriptor (R471). -/
def haltRing (n code : Nat) (s : State) : State :=
  s |> (·.modRing n fun r => { r with err := true, errCode := code, inject := none })
    |> cause Reg.DMA_IRQ_CAUSE 0 |> emit 0x006 0x78 (n + 2 ^ 5 * code + 2 ^ 7 * ringHead s n)

/-! ### Buffers of host-bound rings -/

/-- The descriptor of Table 19.4 as the device writes it back. -/
def hostDesc (o : OpenBuf) (now : Nat) : Bytes :=
  leBytes 8 o.addr ++ leBytes 4 o.len ++ leBytes 4 o.fill ++ leBytes 2 o.kind ++
    leBytes 1 (1 + 2 * b2n o.sop + 4 * b2n o.eop) ++ leBytes 1 0 ++ leBytes 4 o.records ++ leBytes 8 now

/-- The open buffer is closed: its descriptor is written back and HEAD advances (R463); a buffer without data is let go. -/
def closeBuffer (n : Nat) (s : State) : State :=
  match (s.ringAt n).open_ with
  | none => s
  | some o =>
    let t := s.modRing n fun r => { r with open_ := none }
    if o.fill = 0 then t else t |> toHost (descAddr s n 0) (hostDesc o (ledgerNow s)) |> advanceHead n

/-- FLUSH_US of a ring, in ticks. -/
def flushTicks (s : State) (n : Nat) : Nat := us (fieldOf s (Reg.DMA_RING_CFG n) 15 8)

/-- The next bytes of a record are written into the open buffer; the rest waits for the next buffers (R463). -/
def writePart (n kind : Nat) (o : OpenBuf) (body : Bytes) (start : Bool) (s : State) : State :=
  let now := body.take (o.len - o.fill)
  let rest := body.drop (o.len - o.fill)
  let x := { o with
    fill := o.fill + now.length
    kind := kind
    sop := o.sop || start
    eop := rest.isEmpty
    records := o.records + b2n rest.isEmpty
    firstAt := if o.fill = 0 then s.time.tick else o.firstAt }
  let s := s |> toHost (o.addr + o.fill) now |> (·.modRing n fun r => { r with open_ := some x, span := rest, spanKind := kind })
  if x.fill = o.len ∨ (rest.isEmpty = true ∧ flushTicks s n = 0) then closeBuffer n s else s

/-- The open buffer can take a record now: none spans buffers, and the buffer is empty, or holds records of its kind with
space left; each PACKET starts a new buffer (R463). -/
def fits (s : State) (n kind len : Nat) : Bool :=
  match (s.ringAt n).open_ with
  | none => false
  | some o => (s.ringAt n).span.isEmpty && (o.fill == 0 || (o.kind == kind && kind != 1 && Decidable.decide (len ≤ o.len - o.fill)))

/-- An open buffer that cannot take the record that arrives is closed (R463). -/
def makeRoom (n : Nat) (s : State) : State := if (s.ringAt n).span.isEmpty then closeBuffer n s else s

/-- A record is placed in a host-bound ring (R463): whether its writing has begun. It has not when no buffer is open, an
earlier record still spans buffers, or the open buffer had to be closed first. -/
def placeRec (n kind : Nat) (body : Bytes) (s : State) : Bool × State :=
  match (s.ringAt n).open_ with
  | none => (false, s)
  | some o => if fits s n kind body.length then (true, writePart n kind o body true s) else (false, makeRoom n s)

/-- The rest of a record that spans buffers goes on into the buffer just opened. -/
def placeRest (n : Nat) (s : State) : State :=
  let r := s.ringAt n
  match r.open_ with
  | none => s
  | some o => if r.span.isEmpty then s else writePart n r.spanKind o r.span false s

/-- A host-bound ring can take data: a buffer is open, or it is enabled, not halted, and a descriptor is posted (R465). -/
def ringTakes (s : State) (n : Nat) : Bool :=
  (s.ringAt n).open_.isSome || (ringEn s n && !(s.ringAt n).err && posted s n 0)

/-- FLUSH_US after its first byte an open buffer is closed (R463). -/
def flushTimeout (n : Nat) (s : State) : State :=
  match (s.ringAt n).open_ with
  | some o => if o.fill ≠ 0 ∧ flushTicks s n ≤ since s o.firstAt then closeBuffer n s else s
  | none => s

def execDmaFlushTimeout (n : Fin 32) (s : State) : Host.Outcome State Fault Refusal :=
  .next (if s.pcie.up then flushTimeout n.val (freshOut s) else s)

/-! ### Ring registers -/

/-- The rest of a frame whose run of descriptors is not complete is let go (log entry 49). -/
def dropRun (r : Ring) : Ring :=
  match r.inject with
  | some j => if (j.descs.getLast?.map fun d => bit (byteAt d 10) 0).getD false then { r with inject := none } else r
  | none => r

/-- A write of DMA_RING_CFG (R461): SIZE_LOG2 and TYPE are taken only by a ring that stands disabled and idle; EN 0
closes the open buffer and clears ERR (R471). -/
def ringCfgWrite (n : Nat) (v : Word32) (s : State) : State :=
  let old := (regRead s (Reg.DMA_RING_CFG n)).toNat
  let free := !bit old 31 && ringIdle (s.ringAt n)
  let geo := if free then v.toNat else old
  let x := b2n (v.getLsbD 31) * 2 ^ 31 + (if 16 ≤ n then bits geo 24 24 * 2 ^ 24 else 0) + bits geo 19 16 * 2 ^ 16 +
    bits v.toNat 15 8 * 2 ^ 8 + bits v.toNat 1 0
  if v.getLsbD 31 then regStore (Reg.DMA_RING_CFG n) (BitVec.ofNat 32 x) s
  else
    s |> closeBuffer n |> (·.modRing n fun r => { dropRun r with err := false, errCode := 0 })
      |> regStore (Reg.DMA_RING_CFG n) (BitVec.ofNat 32 x)

def execDmaRingEnable (n : Fin 32) (v : Word32) (s : State) : Host.Outcome State Fault Refusal :=
  .next (if v.getLsbD 31 && s.pcie.up then ringCfgWrite n.val v (freshOut s) else s)

def execDmaRingDisable (n : Fin 32) (v : Word32) (s : State) : Host.Outcome State Fault Refusal :=
  .next (if !v.getLsbD 31 && s.pcie.up then ringCfgWrite n.val v (freshOut s) else s)

/-- DMA_TAIL_WRITE: descriptors up to the index are posted. -/
def tailWrite (n : Nat) (v : Word32) (s : State) : State := regStore (Reg.DMA_RING_TAIL n) (v &&& 0xFFFF#32) s

def execDmaTailWrite (n : Fin 32) (v : Word32) (s : State) : Host.Outcome State Fault Refusal :=
  .next (if s.pcie.up then tailWrite n.val v s else s)

/-- A write of DMA_RING_BASE_LO or HI (R461): taken only while EN is 0 and IDLE is 1. -/
def ringBaseWrite (n : Nat) (hi : Bool) (v : Word32) (s : State) : State :=
  if !ringEn s n && ringIdle (s.ringAt n) then regStore (if hi then Reg.DMA_RING_BASE_HI n else Reg.DMA_RING_BASE_LO n) v s else s

/-! ### Descriptors -/

/-- BUF_ADDR and BUF_LEN keep to Table 19.4. -/
def hostDescOk (d : Bytes) : Bool :=
  leAt d 0 8 % 64 == 0 && 256 ≤ leAt d 8 4 && leAt d 8 4 ≤ 65536 && leAt d 8 4 % 64 == 0

/-- The fields that software writes keep to Table 19.8. -/
def injectDescOk (d : Bytes) : Bool :=
  1 ≤ leAt d 8 2 && leAt d 8 2 ≤ 15996 && byteAt d 10 < 4 && byteAt d 11 < 4 && byteAt d 12 < 64 && byteAt d 13 < 8 &&
    leAt d 14 2 < 0x2000

/-- The fields that software writes keep to Table 19.9. -/
def batchDescOk (d : Bytes) : Bool :=
  leAt d 0 8 % 8 == 0 && leAt d 8 8 % 16 == 0 && 8 ≤ bits (leAt d 16 4) 16 0 && bits (leAt d 16 4) 16 0 ≤ 65536 &&
    bits (leAt d 16 4) 30 17 == 0

/-! ### Batches -/

/-- The results address of a batch, 0 for none, and STOP_ON_ERR (Table 19.9). -/
def Batch.results (b : Batch) : Nat := leAt b.desc 8 8
def Batch.stop (b : Batch) : Bool := bit (leAt b.desc 16 4) 31

/-- TYPE, LEN and ARG of the entry in hand (R469). -/
def Batch.type (b : Batch) : Nat := byteAt b.rest 0
def Batch.len (b : Batch) : Nat := leAt b.rest 2 2
def Batch.arg (b : Batch) : Nat := leAt b.rest 4 4

/-- Bytes that a SIEVE entry stages: by the exact table for INSERT and FIND, by the index for WRITE, none for INVALIDATE
and SET_EM (Table 19.10); none where the index names no entry, so that any payload does. -/
def sievePayload (cmd : Nat) : Option Nat :=
  let i := bits cmd 25 8
  if bits cmd 3 0 = 4 ∨ bits cmd 3 0 = 5 then some 0
  else if bits cmd 3 0 = 2 ∨ bits cmd 3 0 = 3 then some 32
  else if i < 0x4000 then some 96
  else if i < 0x34000 then some 32
  else if i < 0x38000 then some 64
  else none

/-- The header keeps to Table 19.10 and its entry lies within the batch. -/
def entryOk (b : Batch) : Bool :=
  let whole := byteAt b.rest 1 == 0 && b.len % 8 == 0 && 8 ≤ b.len && b.len ≤ b.rest.length
  let shape := match b.type with
    | 1 => 1 ≤ bits b.arg 3 0 && bits b.arg 3 0 ≤ 5 && (match sievePayload b.arg with | some n => b.len == 8 + n | none => true)
    | 2 => b.len == 16 && leAt b.rest 12 4 == 0
    | 3 => b.len == 8 && b.arg == 0
    | 4 => b.len == 8
    | _ => false
  whole && shape

/-- Bytes by which the batch advances past the entry in hand: its LEN, or all the rest where LEN cannot say where the next
entry begins (log entry 50). -/
def entryStride (b : Batch) : Nat :=
  if b.len % 8 = 0 ∧ 8 ≤ b.len ∧ b.len ≤ b.rest.length then b.len else b.rest.length

/-- The entry in hand ends with a result (R470). -/
def endEntry (n res index : Nat) (s : State) : State :=
  match (s.ringAt n).batch with
  | none => s
  | some b =>
    let now := ledgerNow s
    let s := if b.results = 0 then s
      else toHost (b.results + 16 * b.idx) (leBytes 2 b.idx ++ leBytes 1 b.type ++ leBytes 1 res ++ leBytes 4 index ++ leBytes 8 now) s
    let ran := res ≠ 0xB
    let x := { b with
      rest := b.rest.drop (entryStride b)
      idx := b.idx + 1
      done := b.done + b2n ran
      doneTime := if ran then now else b.doneTime
      firstErr := b.firstErr.or (if res = 0 then none else some (b.idx, res))
      waitUntil := none
      sieveBusy := false
      swapBusy := false }
    let s := s.modRing n fun r => { r with batch := some x }
    if ran then perf uDma 4 s else s

/-- Entries that are not performed end at once: after an error under STOP_ON_ERR all are SKIPPED, and an entry that breaks
the table ends with BAD_ENTRY (R469, R470). -/
def skimBatch (n : Nat) : Nat → State → State
  | 0, s => s
  | k + 1, s =>
    match (s.ringAt n).batch with
    | none => s
    | some b =>
      if b.rest.isEmpty then s
      else if b.stop && b.firstErr.isSome then skimBatch n k (endEntry n 0xB 0 s)
      else if entryOk b then s
      else skimBatch n k (endEntry n 0x8 0 s)

/-- Bound on the entries of a batch (65,536 bytes of at least 8 each). -/
def maxEntries : Nat := 8192

/-- The entry in hand ends, and the entries behind it that are not performed. -/
def finishEntry (n res index : Nat) (s : State) : State := s |> endEntry n res index |> skimBatch n maxEntries

/-- The batch that runs and its ring: at most one at a time (R470). -/
def runningBatch (s : State) : Option (Nat × Batch) :=
  (List.range 32).findSome? fun n => (s.ringAt n).batch.map fun b => (n, b)

/-- The entry in hand of ring n's batch, when it has the given TYPE and can start. -/
def entryInHand (s : State) (n type : Nat) : Option Batch :=
  match (s.ringAt n).batch with
  | some b => if !b.rest.isEmpty && b.type == type && !b.sieveBusy && !b.swapBusy && b.waitUntil.isNone then some b else none
  | none => none

/-- The ring whose turn it is among the enabled TYPE 1 rings with a posted descriptor, after the last one served. -/
def batchTurn (s : State) : Option Nat :=
  ((List.range 32).map fun k => (s.lastBatch + 1 + k) % 32).find? fun n => ringTable s n && ringEn s n && !(s.ringAt n).err && posted s n 0

/-- The batch descriptor is written back (Table 19.9) with STATUS as given. -/
def batchWriteBack (n status : Nat) (b : Batch) (s : State) : State :=
  toHost (descAddr s n 0)
    (b.desc.take 20 ++ leBytes 2 b.done ++ leBytes 1 ((b.firstErr.map (·.2)).getD 0) ++ leBytes 1 status ++ leBytes 8 b.doneTime) s

/-- BATCH_DONE: no entry is left (R470). -/
def batchDone (n : Nat) (s : State) : State :=
  match (s.ringAt n).batch with
  | none => s
  | some b =>
    if !b.rest.isEmpty then s
    else
      let s := match b.firstErr with
        | some (i, res) => s |> cause Reg.DMA_IRQ_CAUSE 1 |> emit 0x006 0x79 (n + 2 ^ 5 * (i % 65536) + 2 ^ 21 * res)
        | none => s
      s |> batchWriteBack n (1 + 2 * b2n b.firstErr.isSome) b |> (·.modRing n fun r => { r with batch := none }) |> advanceHead n

def execBatchDone (n : Fin 32) (s : State) : Host.Outcome State Fault Refusal :=
  .next (if s.pcie.up then batchDone n.val (freshOut s) else s)

/-! ### Fetching -/

/-- A host-bound ring opens its next buffer (R462). -/
def fetchHost (n : Nat) (d : Bytes) (s : State) : State :=
  if hostDescOk d then s.modRing n fun r => { r with open_ := some { addr := leAt d 0 8, len := leAt d 8 4 } }
  else haltRing n 2 s

/-- The descriptors of an injected frame's run, first one first. -/
def runOf (r : Ring) : List Bytes := match r.inject with | some j => j.descs | none => []

/-- The last descriptor of the run carries MORE, or there is none. -/
def runOpen (r : Ring) : Bool := ((runOf r).getLast?.map fun d => bit (byteAt d 10) 0).getD true

/-- An inject ring takes the next descriptor of a frame's run (R466). -/
def fetchInject (n : Nat) (d : Bytes) (s : State) : State :=
  if injectDescOk d then s.modRing n fun r => { r with inject := some { descs := runOf r ++ [d] } } else haltRing n 2 s

/-- A TYPE 1 ring takes a whole batch; entries that could not be read end it with FETCH_ERR (R468, R471). -/
def fetchBatch (n : Nat) (d : Bytes) (data : Option Bytes) (s : State) : State :=
  if !batchDescOk d then haltRing n 2 s
  else
    let len := bits (leAt d 16 4) 16 0
    match data with
    | none =>
      s |> batchWriteBack n 5 { desc := d, rest := [] } |> cause (Reg.DMA_RING_STATUS n) 0 |> bump (Reg.DMA_RING_DESC_CNT n)
        |> perf uDma 1 |> haltRing n 1
    | some e =>
      let s := { fromHost len s with lastBatch := n }
      s |> (·.modRing n fun r => { r with batch := some { desc := d, rest := slice e 0 len } }) |> skimBatch n maxEntries

/-- The ring can process its next descriptor: enabled, not halted, one posted, none in progress; an inject ring may take
the next one of a run. Batches wait for their turn and for RUN (R34, R470). -/
def canFetch (s : State) (n : Nat) : Bool :=
  let r := s.ringAt n
  s.pcie.up && ringEn s n && !r.err && r.open_.isNone && r.batch.isNone && posted s n (runOf r).length && runOpen r &&
    (!ringTable s n || (barOpen s && (runningBatch s).isNone && batchTurn s == some n))

/-- DMA_DESC_FETCH: a descriptor read completes with its bytes, or fails (R461, R471). `data` answers the read of a
batch's entries. -/
def descFetch (n : Nat) (desc data : Option Bytes) (s : State) : State :=
  if !canFetch s n then s
  else
    match desc with
    | none => haltRing n 1 s
    | some d =>
      let d := slice d 0 32
      let s := fromHost 32 s
      if n < 16 then fetchHost n d s else if ringTable s n then fetchBatch n d data s else fetchInject n d s

def execDmaDescFetch (n : Fin 32) (desc data : Option Bytes) (s : State) : Host.Outcome State Fault Refusal :=
  .next (descFetch n.val desc data (freshOut s))

end Sys2Proof.Machine
end

