-- ==== Sys2Proof/Machine/Sieve.lean ====
section
/-!
DEFINITION. The Sieve of chapter 04: lookups (R68 to R78), the write port and its engine (R79 to R83), and the Accord
epochs (R84 to R91).
-/
namespace Sys2Proof.Machine

/-! ### Entries -/

/-- The four tables of Table 4.2. -/
inductive SieveTable | tern | exact | lpm4 | lpm6
deriving DecidableEq, Repr

/-- The table whose index range holds an index (Table 4.2); none above the last range. -/
def sieveTable (i : Nat) : Option SieveTable :=
  if i < 0x4000 then some .tern else if i < 0x24000 then some .exact
  else if i < 0x34000 then some .lpm4 else if i < 0x38000 then some .lpm6 else none

/-- The index names an existing entry (R70). -/
def sieveExists (s : State) (i : Nat) : Bool :=
  match sieveTable i with
  | some .tern => i < 1024 * s.sieve.ternGran
  | some .exact => i - 0x4000 < 8192 * s.sieve.exactGran
  | some .lpm4 => i - 0x24000 < 8192 * s.sieve.lpm4Gran
  | some .lpm6 => i - 0x34000 < 2048 * s.sieve.lpm6Gran
  | none => false

/-- Bits [lo + w - 1 : lo] of an entry as a number. -/
def entryBits (e : SieveEntry) (lo w : Nat) : Nat := (e.extractLsb' lo w).toNat

/-- First bit of CTRL in an entry of a table (Tables 4.3 to 4.5). -/
def ctrlLo : SieveTable → Nat
  | .tern => 672 | .exact => 136 | .lpm4 => 48 | .lpm6 => 144

/-- First bit of PRIO. -/
def prioLo : SieveTable → Nat
  | .tern => 656 | .exact => 144 | .lpm4 => 64 | .lpm6 => 160

/-- First bit of ACTION. -/
def actionLo : SieveTable → Nat
  | .tern => 704 | .exact => 192 | .lpm4 => 128 | .lpm6 => 192

def entryValid (k : SieveTable) (e : SieveEntry) : Bool := e.getLsbD (ctrlLo k)

/-- EM_A and EM_B as a two-bit number. -/
def entryEm (k : SieveTable) (e : SieveEntry) : Nat := entryBits e (ctrlLo k + 1) 2

def entryPrio (k : SieveTable) (e : SieveEntry) : Nat := entryBits e (prioLo k) 16

def entryAction (k : SieveTable) (e : SieveEntry) : Word64 := e.extractLsb' (actionLo k) 64

/-- VERDICT of an action word (Table 4.6). -/
def actVerdict (a : Word64) : Nat := wbits a 10 9
def actRoutine (a : Word64) : Nat := wbits a 7 0
def actNoRecord (a : Word64) : Bool := a.getLsbD 8
def actPuntRing (a : Word64) : Nat := wbits a 14 11
def actPolice (a : Word64) : Bool := a.getLsbD 15
def actPolicer (a : Word64) : Nat := wbits a 31 16
def actTarget (a : Word64) : Nat := wbits a 41 32
def actQueue (a : Word64) : Nat := wbits a 44 42
def actRewrite (a : Word64) : Nat := wbits a 52 45
def actUser (a : Word64) : Nat := wbits a 63 53

/-- The entry of a table matches a pass of template tpl in epoch ep (0 A, 1 B) under configuration cfg
(R72, R73, R74). -/
def entryMatches (k : SieveTable) (e : SieveEntry) (kv : KeyVec) (tpl ep cfg : Nat) : Bool :=
  let q := bits cfg 5 4
  entryValid k e && (entryEm k e).testBit ep &&
  match k with
  | .tern =>
    ((kv.extractLsb' 0 320 ^^^ e.extractLsb' 0 320) &&& e.extractLsb' 320 320) == 0 &&
    ((BitVec.ofNat 8 tpl ^^^ e.extractLsb' 640 8) &&& e.extractLsb' 648 8) == 0
  | .exact => e.extractLsb' 0 128 == kv.extractLsb' 320 128 && entryBits e 128 8 == bits cfg 15 8
  | .lpm4 =>
    let addr := (kv.extractLsb' (128 * q + 96) 32).toNat
    let len := entryBits e 32 8
    entryBits e 40 8 == bits cfg 23 16 && addr / 2 ^ (32 - len) == entryBits e 0 32 / 2 ^ (32 - len)
  | .lpm6 =>
    let addr := (kv.extractLsb' (128 * q) 128).toNat
    let len := entryBits e 128 8
    entryBits e 136 8 == bits cfg 23 16 && addr / 2 ^ (128 - len) == entryBits e 0 128 / 2 ^ (128 - len)

/-- LEN of an LPM entry; 0 for the other tables. -/
def entryLen (k : SieveTable) (e : SieveEntry) : Nat :=
  match k with | .lpm4 => entryBits e 32 8 | .lpm6 => entryBits e 128 8 | _ => 0

/-- A matching entry: index, PRIO, LEN and ACTION. -/
structure SieveHit where
  index : Nat
  prio : Nat
  len : Nat
  action : Word64
deriving DecidableEq, Repr

/-- The configuration enables a table (SIEVE_TPL_CFG). -/
def tableOn (k : SieveTable) (cfg : Nat) : Bool :=
  match k with | .tern => bit cfg 0 | .exact => bit cfg 1 | .lpm4 => bit cfg 2 | .lpm6 => bit cfg 3

/-- The write that the replica of Branch b has not taken yet: the replicas are written in the order B0 to B3 while the operation is in
progress, each between two of its lookups (R81). -/
def unwritten (s : State) (b : Nat) : Option SieveChange :=
  match s.sieve.op with
  | some (_, a) => a.change.filter fun c => Decidable.decide (s.time.tick < c.at_.getD b 0)
  | none => none

/-- The entries as the replica of Branch b holds them. -/
def replica (s : State) (b : Nat) : Tbl SieveEntry :=
  match unwritten s b with
  | some c => Tbl.set s.sieve.entries c.index 0 c.old
  | none => s.sieve.entries

/-- An entry of the replica of Branch b acts as invalid there (R399). -/
def replicaLost (s : State) (b i : Nat) : Bool :=
  s.sieve.lost.contains (b, i) || (match unwritten s b with | some c => c.index == i && c.lost.contains b | none => false)

/-- Every entry of Branch b that matches in one table, lowest index first. -/
def tableHits (s : State) (b : Nat) (k : SieveTable) (kv : KeyVec) (tpl ep cfg : Nat) : List SieveHit :=
  if tableOn k cfg then
    ((replica s b).filter fun (i, e) =>
      sieveTable i == some k && sieveExists s i && !(replicaLost s b i) && entryMatches k e kv tpl ep cfg).map
      fun (i, e) => ⟨i, entryPrio k e, entryLen k e, entryAction k e⟩
  else []

/-- The family's longest match, and of equal lengths the lowest index (R74, log entry 10). -/
def longest (hs : List SieveHit) : List SieveHit :=
  match hs with
  | [] => []
  | h :: t => [t.foldl (fun best x => if best.len < x.len then x else best) h]

/-- Highest PRIO, and of equal PRIO the lowest index (R76). -/
def best (hs : List SieveHit) : Option SieveHit :=
  match hs with
  | [] => none
  | h :: t => some (t.foldl (fun b x => if b.prio < x.prio ∨ (x.prio = b.prio ∧ x.index < b.index) then x else b) h)

/-- The configuration word of a template in the epoch of a generation (R71, R85). -/
def tplCfg (s : State) (tpl gen : Nat) : Nat :=
  (regRead s (if gen % 2 = 0 then Reg.SIEVE_TPL_CFG_A 0 tpl else Reg.SIEVE_TPL_CFG_B 0 tpl)).toNat

/-- The default action of the epoch of a generation (R78); a reserved VERDICT makes it act as its reset value (R9). -/
def sieveDefault (s : State) (gen : Nat) : Word64 :=
  let a := BitVec.ofNat 64 (pairOf s (if gen % 2 = 0 then Reg.SIEVE_DEFAULT_A_LO 0 else Reg.SIEVE_DEFAULT_B_LO 0))
  if actVerdict a = 3 then 0x200#64 else a

/-- Entries that take part in the choice: every ternary and exact match and each family's longest match. -/
def sieveHits (s : State) (b : Nat) (kv : KeyVec) (tpl gen : Nat) : List SieveHit :=
  let cfg := tplCfg s tpl gen
  let ep := gen % 2
  tableHits s b .tern kv tpl ep cfg ++ (tableHits s b .exact kv tpl ep cfg).take 1 ++
    longest (tableHits s b .lpm4 kv tpl ep cfg) ++ longest (tableHits s b .lpm6 kv tpl ep cfg)

/-- The family's matches of the greatest length. -/
def allLongest (hs : List SieveHit) : List SieveHit :=
  match longest hs with
  | h :: _ => hs.filter (·.len = h.len)
  | [] => []

/-- Every matching entry that counts for a tie (R77): all but LPM entries shorter than their family's longest. -/
def sieveRivals (s : State) (b : Nat) (kv : KeyVec) (tpl gen : Nat) : List SieveHit :=
  let cfg := tplCfg s tpl gen
  let ep := gen % 2
  tableHits s b .tern kv tpl ep cfg ++ tableHits s b .exact kv tpl ep cfg ++
    allLongest (tableHits s b .lpm4 kv tpl ep cfg) ++ allLongest (tableHits s b .lpm6 kv tpl ep cfg)

/-- The winner's PRIO equals that of another matching entry (R77). -/
def sieveTie (w : SieveHit) (rivals : List SieveHit) : Bool := rivals.any fun x => x.prio = w.prio && x.index != w.index

/-- A lookup by the Sieve of Branch b with its counters (R76 to R78): the action, whether a table gave it, the state. -/
def sieveLookup (b : Nat) (kv : KeyVec) (tpl gen : Nat) (s : State) : Word64 × Bool × State :=
  let hs := sieveHits s b kv tpl gen
  let s1 := bump (Reg.SIEVE_LOOKUP_CNT b) s
  match best hs with
  | some w => (w.action, true, if sieveTie w (sieveRivals s b kv tpl gen) then bump (Reg.SIEVE_TIE_CNT b) s1 else s1)
  | none => (sieveDefault s gen, false, bump (Reg.SIEVE_MISS_CNT b) s1)

/-! ### The write engine -/

/-- The epoch that a swap is retiring: the current one until T_swap, then the one before GEN's (R87, R89). -/
def oldEpoch (s : State) : Nat := if s.accord.swapAt.isSome then s.accord.gen % 2 else (s.accord.gen + 1) % 2

/-- An entry that holds a rule for packets of the old epoch. -/
def holdsOld (s : State) (k : SieveTable) (e : SieveEntry) : Bool := entryValid k e && (entryEm k e).testBit (oldEpoch s)

/-- R89 refuses a change of an entry from one content to another. -/
def epochBusy (s : State) (k : SieveTable) (before after : SieveEntry) : Bool :=
  !s.accord.drained && (holdsOld s k before || holdsOld s k after)

/-- The staged entry breaks R72, R74 or R75. A byte or a bit of CTRL that Tables 4.3 to 4.5 say is 0 is not judged: R83 gives no result
for it, and what is staged there is stored (DESIGN CHOICE, log entry 122). -/
def badField (k : SieveTable) (e : SieveEntry) : Bool :=
  actVerdict (entryAction k e) == 3 ||
  match k with
  | .tern => (e.extractLsb' 0 320 &&& ~~~ (e.extractLsb' 320 320)) != 0 || (e.extractLsb' 640 8 &&& ~~~ (e.extractLsb' 648 8)) != 0
  | .exact => false
  | .lpm4 => 32 < entryBits e 32 8 || entryBits e 0 32 % 2 ^ (32 - entryBits e 32 8) != 0
  | .lpm6 => 128 < entryBits e 128 8 || entryBits e 0 128 % 2 ^ (128 - entryBits e 128 8) != 0

/-- Another valid LPM entry of the family has the same PREFIX, LEN and TAG and shares an EM bit (R74). -/
def lpmDuplicate (s : State) (k : SieveTable) (i : Nat) (e : SieveEntry) : Bool :=
  let w := match k with | .lpm4 => 48 | _ => 144
  s.sieve.entries.any fun (j, f) => j != i && sieveTable j == some k && entryValid k f &&
    entryBits f 0 w == entryBits e 0 w && (entryEm k f &&& entryEm k e) != 0

/-- The eight indices of a bucket (R73). -/
def bucket (j : Nat) : List Nat := (List.range 8).map fun n => 0x4000 + 8 * j + n

/-- The indices of a key's two buckets, in the order INSERT tries them. -/
def exactPlaces (s : State) (e : SieveEntry) : List Nat :=
  let nb := 1024 * s.sieve.exactGran
  let at_ := fun w => exactBucket (e.extractLsb' 0 64) (e.extractLsb' 64 64) (entryBits e 128 8) w nb
  bucket (at_ false) ++ bucket (at_ true)

/-- The stored entry at an index. -/
def sieveEntry (s : State) (i : Nat) : SieveEntry := Tbl.get s.sieve.entries i 0

/-- A valid exact entry with the key and tag of e that shares an EM bit with it. -/
def sameExact (s : State) (e : SieveEntry) (i : Nat) : Bool :=
  let f := sieveEntry s i
  entryValid .exact f && f.extractLsb' 0 136 == e.extractLsb' 0 136 && (entryEm .exact f &&& entryEm .exact e) != 0

/-- Stores an entry in all four replicas (R81); a Branch in which it had been lost holds it again (R399). -/
def sievePut (i : Nat) (e : SieveEntry) (s : State) : State :=
  { s with sieve := { s.sieve with entries := Tbl.set s.sieve.entries i 0 e, lost := s.sieve.lost.filter (·.2 ≠ i) } }

/-- An entry with one field replaced. -/
def entrySet (e : SieveEntry) (lo w x : Nat) : SieveEntry := BitVec.ofNat 768 (setBits e.toNat (lo + w - 1) lo x)

/-- WRITE of Table 4.7. -/
def sieveWriteOp (j : SieveJob) (s : State) : SieveAnswer × State :=
  match sieveTable j.index with
  | some .exact => ({ result := 6 }, s)
  | some k =>
    if !sieveExists s j.index then ({ result := 4 }, s)
    else if badField k j.entry then ({ result := 7 }, s)
    else if epochBusy s k (sieveEntry s j.index) j.entry then ({ result := 5 }, s)
    else if k != .tern && lpmDuplicate s k j.index j.entry then ({ result := 2 }, s)
    else ({ result := 0 }, sievePut j.index j.entry s)
  | none => ({ result := 4 }, s)

/-- INSERT of Table 4.7 (R73). -/
def sieveInsertOp (j : SieveJob) (s : State) : SieveAnswer × State :=
  if s.sieve.exactGran = 0 then ({ result := 4 }, s)
  else if badField .exact j.entry then ({ result := 7 }, s)
  else if epochBusy s .exact 0 j.entry then ({ result := 5 }, s)
  else if (exactPlaces s j.entry).any (sameExact s j.entry) then ({ result := 2 }, s)
  else match (exactPlaces s j.entry).find? fun i => !entryValid .exact (sieveEntry s i) with
    | some i => ({ result := 0, index := i }, sievePut i j.entry s)
    | none => ({ result := 1 }, s)

/-- FIND of Table 4.7. -/
def sieveFindOp (j : SieveJob) (s : State) : SieveAnswer × State :=
  if s.sieve.exactGran = 0 then ({ result := 4 }, s)
  else match (exactPlaces s j.entry).find? (sameExact s j.entry) with
    | some i => ({ result := 0, index := i }, s)
    | none => ({ result := 3 }, s)

/-- A change of CTRL at INDEX: INVALIDATE and SET_EM of Table 4.7. A SET_EM that leaves two entries with one key or prefix and a
common EM bit is not refused: R73 and R74 judge the entries that INSERT and WRITE store (DESIGN CHOICE, log entry 122). -/
def sieveCtrlOp (f : SieveTable → SieveEntry → SieveEntry) (j : SieveJob) (s : State) : SieveAnswer × State :=
  match sieveTable j.index with
  | some k =>
    if !sieveExists s j.index then ({ result := 4 }, s)
    else
      let e := sieveEntry s j.index
      if epochBusy s k e (f k e) then ({ result := 5 }, s) else ({ result := 0 }, sievePut j.index (f k e) s)
  | none => ({ result := 4 }, s)

/-- Bits of an entry of a table (Tables 4.3 to 4.5). -/
def entrySize : SieveTable → Nat
  | .tern => 768 | .exact => 256 | .lpm4 => 256 | .lpm6 => 512

/-- An entry as READ copies it from the replica of a Branch (Table 4.7): bits beyond its size read 0, and one that is lost there shows
VALID 0 (R399, log entry 123). -/
def entryShown (s : State) (b i : Nat) (k : SieveTable) : SieveEntry :=
  let e := ((sieveEntry s i).extractLsb' 0 (entrySize k)).setWidth 768
  if s.sieve.lost.contains (b, i) then entrySet e (ctrlLo k) 1 0 else e

/-- READ of Table 4.7. -/
def sieveReadOp (j : SieveJob) (s : State) : SieveAnswer × State :=
  match sieveTable j.index with
  | some k => if sieveExists s j.index then ({ result := 0, read := some (entryShown s j.branch j.index k) }, s) else ({ result := 4 }, s)
  | none => ({ result := 4 }, s)

/-- The operation of a job (Tables 4.7 and 4.8); an unknown OP gives BAD_OP. -/
def sieveOp (j : SieveJob) (s : State) : SieveAnswer × State :=
  match j.op with
  | 1 => sieveWriteOp j s
  | 2 => sieveInsertOp j s
  | 3 => sieveFindOp j s
  | 4 => sieveCtrlOp (fun k e => entrySet e (ctrlLo k) 1 0) j s
  | 5 => sieveCtrlOp (fun k e => entrySet e (ctrlLo k + 1) 2 j.em) j s
  | 6 => sieveReadOp j s
  | _ => ({ result := 6 }, s)

/-- The index that a job writes when it is answered OK. -/
def jobIndex (j : SieveJob) (a : SieveAnswer) : Nat := if j.op = 2 then a.index else j.index

/-- Ticks at which the replicas of B0 to B3 take a write that begins now: in that order, and within the bound of R82. -/
def replicaTimes (s : State) (j : SieveJob) : List Nat :=
  let slot := if j.op = 1 && 0x24000 ≤ j.index then 4000 else 500
  (List.range 4).map fun b => s.time.tick + (List.range (b + 1)).foldl (fun n k => n + Config.replicaDelay s.time.tick k % slot) 0

/-- What an answered job changes: the entry that it writes, as it was before. -/
def jobChange (j : SieveJob) (a : SieveAnswer) (s : State) : Option SieveChange :=
  if a.result = 0 ∧ (j.op = 1 ∨ j.op = 2 ∨ j.op = 4 ∨ j.op = 5) then
    let i := jobIndex j a
    some ⟨i, sieveEntry s i, (List.range 4).filter fun b => s.sieve.lost.contains (b, i), replicaTimes s j⟩
  else none

/-- The engine begins a job: its answer waits for completion, and each replica takes its write at a tick of its own (log entry 11). -/
def sieveBegin (j : SieveJob) (s : State) : State :=
  let (a, t) := sieveOp j s
  { t with sieve := { t.sieve with op := some (j, { a with change := jobChange j a s }) } }

/-- The engine takes a job: at once when it is idle, else after those that arrived before. -/
def sieveOffer (j : SieveJob) (s : State) : State :=
  if s.sieve.op.isNone then sieveBegin j s else { s with sieve := { s.sieve with queue := s.sieve.queue ++ [j] } }

/-- SIEVE_WR_STATUS.BUSY: an operation of the write port is in progress. -/
def sieveBusy (s : State) : Bool :=
  (match s.sieve.op with | some (j, _) => j.user == .port | none => false) || s.sieve.queue.any (·.user == .port)

/-- The entry staged in SIEVE_WR_DATA0 to 23. -/
def stagedEntry (s : State) : SieveEntry :=
  BitVec.ofNat 768 ((List.range 24).foldr (fun n acc => acc * 2 ^ 32 + (regRead s (Reg.SIEVE_WR_DATA 0 n)).toNat) 0)

/-- A write of SIEVE_WR_CMD (R80): ignored and counted while BUSY; else its fields are stored and OP starts. -/
def sieveCommand (cmd : Word32) (s : State) : State :=
  if sieveBusy s then bump (Reg.SIEVE_WR_REFUSED_CNT 0) s
  else
    let c := cmd.toNat
    let s := regStore (Reg.SIEVE_WR_CMD 0) (BitVec.ofNat 32 (bits c 29 8 * 2 ^ 8)) s
    if bits c 3 0 = 0 then s
    else sieveOffer ⟨.port, bits c 3 0, bits c 25 8, bits c 27 26, bits c 29 28, stagedEntry s⟩ s

/-- A write of SIEVE_WR_CMD whose OP is the one that the row names; any other OP is another row's command. -/
def sieveRow (op : Nat) (cmd : Word32) (s : State) : State := if bits cmd.toNat 3 0 = op then sieveCommand cmd s else s

def execSieveWrite (cmd : Word32) (s : State) : Host.Outcome State Fault Refusal := .next (gated (sieveRow 1 cmd) s)
def execSieveInsert (cmd : Word32) (s : State) : Host.Outcome State Fault Refusal := .next (gated (sieveRow 2 cmd) s)
def execSieveFind (cmd : Word32) (s : State) : Host.Outcome State Fault Refusal := .next (gated (sieveRow 3 cmd) s)
def execSieveInvalidate (cmd : Word32) (s : State) : Host.Outcome State Fault Refusal := .next (gated (sieveRow 4 cmd) s)
def execSieveSetEm (cmd : Word32) (s : State) : Host.Outcome State Fault Refusal := .next (gated (sieveRow 5 cmd) s)
def execSieveRead (cmd : Word32) (s : State) : Host.Outcome State Fault Refusal := .next (gated (sieveRow 6 cmd) s)

/-- READ fills SIEVE_WR_DATA0 to 23; words beyond the entry's size read 0. -/
def fillData (e : SieveEntry) (s : State) : State :=
  (List.range 24).foldl (fun s n => regStore (Reg.SIEVE_WR_DATA 0 n) (e.extractLsb' (32 * n) 32) s) s

/-- Completion of the write port's operation (R82): RESULT, INDEX, time and causes. -/
def sieveReport (a : SieveAnswer) (s : State) : State :=
  let s := match a.read with | some e => fillData e s | none => s
  let s := s |> regStore (Reg.SIEVE_WR_STATUS 0) (BitVec.ofNat 32 (a.index * 2 ^ 8 + a.result))
    |> stamp (Reg.SIEVE_WR_DONE_SEC 0) (Reg.SIEVE_WR_DONE_NS 0) |> cause (Reg.SIEVE_IRQ_CAUSE 0) 0
  if a.result = 0 then s else cause (Reg.SIEVE_IRQ_CAUSE 0) 1 s

/-- A batch's operation has completed, and with it the entry (R469): INSERT and FIND return their index. Its result goes to the batch:
SIEVE_WR_STATUS, the completion time and the causes are the write port's, and BUSY shows the port's operations alone (DESIGN CHOICE,
log entry 122). -/
def batchSieveDone (n op : Nat) (a : SieveAnswer) (s : State) : State :=
  if ((s.ringAt n).batch.map (·.sieveBusy)).getD false then finishEntry n a.result (if op = 2 ∨ op = 3 then a.index else 0) s else s

/-- SIEVE_OP_DONE (R82): the operation in progress completes, and the next one that waits begins. -/
def sieveOpDone (s : State) : State :=
  match s.sieve.op with
  | none => s
  | some (j, a) =>
    let s := { s with sieve := { s.sieve with op := none } }
    let s := match j.user with | .port => sieveReport a s | .batch n => batchSieveDone n j.op a s
    match s.sieve.queue with
    | [] => s
    | k :: ks => sieveBegin k { s with sieve := { s.sieve with queue := ks } }

def execSieveOpDone (s : State) : Host.Outcome State Fault Refusal := .next (sieveOpDone (freshOut s))

/-- BATCH_SIEVE (R469): the entry in hand reaches the write engine. -/
def batchSieve (n : Nat) (s : State) : State :=
  match entryInHand s n 1 with
  | none => s
  | some b =>
    let e : SieveEntry := BitVec.ofNat 768 (leNat (slice (b.rest.take b.len) 8 96))
    s |> (·.modRing n fun r => { r with batch := some { b with sieveBusy := true } })
      |> sieveOffer ⟨.batch n, bits b.arg 3 0, bits b.arg 25 8, bits b.arg 27 26, bits b.arg 29 28, e⟩

def execBatchSieve (n : Fin 32) (s : State) : Host.Outcome State Fault Refusal := .next (if s.pcie.up then batchSieve n.val s else s)

end Sys2Proof.Machine
end

