-- ==== Sys2Proof/Machine/Accord.lean ====
section
/-!
DEFINITION. The Accord epochs of chapter 04: stamps, the swap, the drain and its alarm (R84 to R91).
-/
namespace Sys2Proof.Machine

/-- The descriptor carries a generation. -/
def Desc.old (g : Nat) (d : Desc) : Bool := d.stamp == g

/-- Descriptors in flight at an Assayer (R88). A recirculation order that waits for a place is still its work item's. -/
def assayDescs (a : Assayer) : List Desc :=
  a.recircQ ++ a.parsing ++ (a.held.map (·.2)).toList ++ (a.out.map (·.2)).flatten ++
    (a.stalled.map (·.1)).toList

/-- Descriptors in flight in a Branch's Ledger: miss queue, record chains and the held probe stage. -/
def ledgerDescs (l : Ledger) : List Desc :=
  (l.miss.map fun e => e.waiters.filterMap fun w => match w with | .packet d _ => some d | _ => none).flatten ++
    (l.ways.map fun (_, w) => w.chain).flatten ++ l.stalled.toList ++ l.heldItems.map (·.1)

/-- STAMP of a work item (Table 8.1). -/
def itemStamp (i : Item) : Nat := wbits i.g0 31 16

/-- A work item in flight under generation g: its packet is unreleased, or it carries none and has started. -/
def Item.inFlight (g : Nat) (i : Item) : Bool :=
  match i.desc with
  | some d => d.old g
  | none => i.kind != .packet && (match i.st with | .running _ | .parked _ => itemStamp i == g | _ => false)

/-- The item's packet has gone on: its recirculation order has entered the queue, which holds the descriptor from then on (R44). -/
def Item.gone (s : State) (i : Item) : Bool :=
  match i.st with
  | .running t => (s.tellerAt t).ctx.recircOk
  | .parked t => ((s.tellerAt t).parked.map (·.recircOk)).getD false
  | _ => false

/-- Items that carry the generation before GEN and are in flight in Branch b (SIEVE_ACCORD_INFLIGHT, R88). -/
def inflight (s : State) (b : Nat) : Nat :=
  if s.accord.drained || s.accord.swapAt.isSome then 0
  else
    let g := (s.accord.gen + 65535) % 65536
    ((assayDescs (s.assayAt b)).filter (·.old g)).length + ((ledgerDescs (s.ledgerAt b)).filter (·.old g)).length +
      ((s.dispAt b).items.filter fun i => i.inFlight g && !i.gone s).length

/-- SWAP written to SIEVE_ACCORD_CTRL (R87): T_swap is the first whole microsecond at least 2 µs away. -/
def accordSwap (s : State) : State :=
  if s.accord.drained then
    let ns := (s.time.net + 2 ^ 32 - 1) / 2 ^ 32
    { s with accord := { s.accord with drained := false, swapAt := some ((ns + 2000 + 999) / 1000 * 1000), told := false } }
  else cause (Reg.SIEVE_IRQ_CAUSE 0) 4 s

def execAccordSwap (s : State) : Host.Outcome State Fault Refusal := .next (gated accordSwap s)

/-- A batch's SWAP entry completes at T_swap (Table 19.10). -/
def swapBatch (s : State) : State :=
  match runningBatch s with
  | some (n, b) => if b.swapBusy then finishEntry n 0 0 s else s
  | none => s

/-- The swap is made (R87, R339): GEN advances and T_swap is recorded. -/
def accordTSwap (s : State) : State :=
  match s.accord.swapAt with
  | none => s
  | some t =>
    if s.time.net / 2 ^ 32 < t then s
    else
      let g := (s.accord.gen + 1) % 65536
      { s with accord := { s.accord with gen := g, swapAt := none, lastSwap := t } }
        |> stampAt (Reg.SIEVE_ACCORD_SWAP_SEC 0) (Reg.SIEVE_ACCORD_SWAP_NS 0) (t * 2 ^ 32)
        |> emit (srcSieve 0) 0x20 g |> swapBatch

def execAccordTSwap (s : State) : Host.Outcome State Fault Refusal := .next (accordTSwap (freshOut s))

/-- The old epoch is drained: no item of it is in flight in any Branch (R88). -/
def oldDrained (s : State) : Bool :=
  !s.accord.drained && s.accord.swapAt.isNone && (List.range 4).all fun b => inflight s b == 0

/-- A batch's WAIT_DRAINED entry completes once DRAINED is 1 (Table 19.10). -/
def drainedBatch (s : State) : State :=
  match runningBatch s with
  | some (n, b) => if b.waitUntil.isSome then finishEntry n 0 0 s else s
  | none => s

/-- ACCORD_DRAINED (R88). -/
def accordDrained (s : State) : State :=
  if oldDrained s then
    { s with accord := { s.accord with drained := true } }
      |> stamp (Reg.SIEVE_ACCORD_DRAIN_SEC 0) (Reg.SIEVE_ACCORD_DRAIN_NS 0)
      |> cause (Reg.SIEVE_IRQ_CAUSE 0) 2 |> emit (srcSieve 0) 0x21 s.accord.gen |> drainedBatch
  else s

def execAccordDrained (s : State) : Host.Outcome State Fault Refusal := .next (accordDrained (freshOut s))

/-- ACCORD_DRAIN_TMO (R88): once per drain, when it has lasted longer than the limit since T_swap. -/
def accordDrainTmo (s : State) : State :=
  if !s.accord.drained && s.accord.swapAt.isNone && !s.accord.told &&
      fieldOf s (Reg.SIEVE_ACCORD_DRAIN_TMO 0) 31 0 * 1000 < s.time.net / 2 ^ 32 - s.accord.lastSwap then
    cause (Reg.SIEVE_IRQ_CAUSE 0) 3 { s with accord := { s.accord with told := true } }
  else s

def execAccordDrainTmo (s : State) : Host.Outcome State Fault Refusal := .next (accordDrainTmo s)

/-! ### Batch entries -/

/-- BATCH_SWAP (R469): the swap is requested, or refused with EPOCH_BUSY. -/
def batchSwap (n : Nat) (s : State) : State :=
  match entryInHand s n 3 with
  | none => s
  | some b =>
    if s.accord.drained then accordSwap (s.modRing n fun r => { r with batch := some { b with swapBusy := true } })
    else s |> accordSwap |> finishEntry n 5 0

def execBatchSwap (n : Fin 32) (s : State) : Host.Outcome State Fault Refusal :=
  .next (if s.pcie.up then batchSwap n.val (freshOut s) else s)

/-- BATCH_WAIT_DRAINED (R469): at once when DRAINED is 1; else the entry waits, with a time-out in µs, 0 acting as 1. -/
def batchWait (n : Nat) (s : State) : State :=
  match entryInHand s n 4 with
  | none => s
  | some b =>
    if s.accord.drained then finishEntry n 0 0 s
    else s.modRing n fun r => { r with batch := some { b with waitUntil := some (s.time.tick + us (max 1 b.arg)) } }

def execBatchWaitDrained (n : Fin 32) (s : State) : Host.Outcome State Fault Refusal :=
  .next (if s.pcie.up then batchWait n.val (freshOut s) else s)

/-- BATCH_WAIT_TIMEOUT (R469, Table 19.11). -/
def batchTimeout (n : Nat) (s : State) : State :=
  match (s.ringAt n).batch with
  | some b =>
    match b.waitUntil with
    | some t => if t ≤ s.time.tick then finishEntry n 0xA 0 s else s
    | none => s
  | none => s

def execBatchWaitTimeout (n : Fin 32) (s : State) : Host.Outcome State Fault Refusal :=
  .next (if s.pcie.up then batchTimeout n.val (freshOut s) else s)

end Sys2Proof.Machine
end

