-- ==== Sys2Proof/Machine/Allow.lean ====
section
/-!
DEFINITION. The Treasury's budget (R415 to R417, R423): reserve and granted total, requests, grants, returns and
revocations of allowances, and the slew governor. Amounts are in units of 0.25 A.
-/
namespace Sys2Proof.Machine

/-- Reserve of a domain that is ON (Table 17.2). -/
def domReserve (d : Nat) : Nat :=
  if d = 0 ∨ d = 27 ∨ d = 28 then 2
  else if d ≤ 8 then 6
  else if d ≤ 12 then 96
  else if d ≤ 20 ∨ d = 29 then 4
  else if d = 21 then 48
  else if d = 22 then 16
  else if d ≤ 24 then 12
  else 8

/-- Power-up allowance of a domain (Table 17.2); PD0, PD25, PD28 and PD29 have none. -/
def domPowerUp (d : Nat) : Nat := if d = 0 ∨ d = 25 ∨ d = 28 ∨ d = 29 then 0 else domReserve d

/-- The reserve V: the sum over the domains that are ON. -/
def reserveV (s : State) : Nat := ((List.range 30).map fun d => if domOn s d then domReserve d else 0).foldl (· + ·) 0

/-- The granted total G: the sum of the allowances held. -/
def grantedG (s : State) : Nat := s.treas.users.foldl (fun n (_, u) => n + u.grant) 0

/-- Reading of sensor k in 0.25 °C, if one has completed (TREAS_TEMP). -/
def sensor (s : State) (k : Nat) : Option Int :=
  if flagOf s (Reg.TREAS_TEMP k) 31 then some (signed 16 (fieldOf s (Reg.TREAS_TEMP k) 15 0)) else none

/-- The device temperature: the highest reading (R420); 0 before the first. -/
def deviceTemp (s : State) : Int :=
  match (List.range 16).filterMap (sensor s) with
  | [] => 0
  | t :: ts => ts.foldl max t

/-- The budget B: LIMIT_QA, or above WARN_C the thermal budget (R415, R423). -/
def budgetB (s : State) : Nat :=
  let limit := min 0x280 (fieldOf s Reg.TREAS_BUDGET_CFG 9 0)
  if deviceTemp s ≤ 4 * ((fieldOf s Reg.TREAS_THERM_CFG 7 0 : Nat) : Int) then limit
  else min limit (reserveV s + (limit - reserveV s) / 2)

/-- An ALLOWANCE record (Table 17.8): 0 granted, 1 returned, 2 revoked, 3 refused. -/
def noteAllowance (u what amount : Nat) (s : State) : State := emit 0x002 0x09 (u + 2 ^ 4 * what + 2 ^ 6 * (amount % 256)) s

/-- A request is refused (R415). -/
def refuseAllowance (u amount : Nat) (s : State) : State :=
  s |> bump Reg.TREAS_REFUSE_CNT |> cause Reg.TREAS_IRQ_CAUSE 0 |> noteAllowance u 3 amount

/-- A grant: the user may use it as the governor releases it (R417). -/
def grantAllowance (u a : Nat) (s : State) : State :=
  s |> (·.setUser u { st := .granted, grant := a, released := 0, order := s.treas.grants })
    |> (fun s => { s with treas := { s.treas with grants := s.treas.grants + 1,
                                                  slewQ := s.treas.slewQ ++ List.replicate a (u, true) } })
    |> noteAllowance u 0 a

/-- A brownout hold is in force (R425). -/
def brownHold (s : State) : Bool := s.treas.brown != .normal

/-- User u asks for a units (R415): refused at once, granted, or queued. -/
def requestAllowance (u a : Nat) (s : State) : State :=
  if (s.userAt u).st ≠ .none then s
  else if brownHold s ∨ budgetB s < reserveV s + a then refuseAllowance u a s
  else if s.treas.waitQ = [] ∧ reserveV s + grantedG s + a ≤ budgetB s then grantAllowance u a s
  else { s.setUser u { (s.userAt u) with st := .waiting } with
         treas := { (s.setUser u { (s.userAt u) with st := .waiting }).treas with waitQ := s.treas.waitQ ++ [(u, a)] } }

/-- The oldest waiting request is granted when it fits (R415). -/
def grantHead (s : State) : State :=
  match s.treas.waitQ with
  | [] => s
  | (u, a) :: rest =>
    if reserveV s + grantedG s + a ≤ budgetB s then grantAllowance u a { s with treas := { s.treas with waitQ := rest } } else s

def execAllowanceGrant (s : State) : Host.Outcome State Fault Refusal := .next (grantHead s)

/-- User u gives up its allowance: the current it uses ramps down through the governor (R417). -/
def dropAllowance (u : Nat) (s : State) : State :=
  let x := s.userAt u
  if x.st ≠ .granted then s
  else
    let q := s.treas.slewQ.filter (·.1 ≠ u)
    let s := { s with treas := { s.treas with slewQ := q ++ List.replicate x.released (u, false) } }
    s.setUser u (if x.released = 0 then {} else { x with st := .releasing })

/-- User u returns its allowance, or withdraws a request that waits (R416). -/
def returnAllowance (u : Nat) (s : State) : State :=
  match (s.userAt u).st with
  | .granted => s |> noteAllowance u 1 (s.userAt u).grant |> dropAllowance u
  | .waiting => { s.setUser u {} with treas := { (s.setUser u {}).treas with waitQ := s.treas.waitQ.filter (·.1 ≠ u) } }
  | _ => s

/-- An allowance is revoked (R423, R425). -/
def revokeAllowance (u : Nat) (s : State) : State :=
  s |> bump Reg.TREAS_REVOKE_CNT |> cause Reg.TREAS_IRQ_CAUSE 0 |> noteAllowance u 2 (s.userAt u).grant |> dropAllowance u

/-- The user that was granted last. -/
def newestGrant (s : State) : Option Nat :=
  (s.treas.users.foldl (fun best (u, x) =>
    if x.st = .granted then
      match best with
      | some (o, v) => if o < x.order then some (x.order, u) else some (o, v)
      | none => some (x.order, u)
    else best) (none : Option (Nat × Nat))).map (·.2)

/-- What stays granted when the newest are revoked until V + G fits the budget (R423); a releasing user's units still
count in G. -/
def revokeToFit : Nat → State → State
  | 0, s => s
  | n + 1, s =>
    let held := s.treas.users.foldl (fun n (_, u) => if u.st = .granted then n + u.grant else n) 0
    if reserveV s + held ≤ budgetB s then s
    else match newestGrant s with | some u => revokeToFit n (revokeAllowance u s) | none => s

/-- Every allowance is revoked, newest first, and every queued request refused (R425). -/
def revokeAll : Nat → State → State
  | 0, s => s
  | n + 1, s =>
    match newestGrant s with
    | some u => revokeAll n (revokeAllowance u s)
    | none =>
      let q := s.treas.waitQ
      let s := { s with treas := { s.treas with waitQ := [] } }
      q.foldl (fun s (u, a) => refuseAllowance u a (s.setUser u {})) s

/-- SLEW_STEP (R417): one step of 0.25 A, at least 12.5 ns after the last (log entry 33). -/
def slewStep (s : State) : State :=
  match s.treas.slewQ with
  | [] => s
  | (u, up) :: rest =>
    if since s s.treas.slewAt < 13 then s
    else
      let s := { s with treas := { s.treas with slewQ := rest, slewAt := s.time.tick } }
      let x := s.userAt u
      if up then s.setUser u { x with released := x.released + 1 }
      else s.setUser u (if x.released ≤ 1 then {} else { x with released := x.released - 1 })

def execSlewStep (s : State) : Host.Outcome State Fault Refusal := .next (slewStep s)

/-- The user may do allowance work: granted and wholly released by the governor (R416, R417). -/
def allowanceHeld (s : State) (u : Nat) : Bool := (s.userAt u).st == .granted && (s.userAt u).released == (s.userAt u).grant

end Sys2Proof.Machine
end

