-- ==== Sys2Proof/Machine/Time.lean ====
section
/-!
DEFINITION. The time base of chapter 14: snapshots and corrections (R336 to R341), the two-step FIFO (R347), triggers,
captures and PPS (R348 to R352), and delivery of the Sillage (R357 to R359).
-/
namespace Sys2Proof.Machine

/-! ### Time, rate and offset -/

/-- TIME_CTRL.SNAP asks for the time of one tick (R336): that of the tick in hand, after its adds and its advance (R339). -/
def timeSnap (s : State) : State := { s with time := { s.time with snapDue := true } }

/-- The snapshot is latched. -/
def latchSnap (s : State) : State :=
  { s with time := { s.time with snapDue := false } } |> setPair Reg.TIME_SNAP_SEC_LO (netSec s.time.net % 2 ^ 64)
    |> regStore Reg.TIME_SNAP_NS (BitVec.ofNat 32 (netNs s.time.net))
    |> regStore Reg.TIME_SNAP_FRAC (BitVec.ofNat 32 (netFrac s.time.net))

def execTimeSnap (s : State) : Host.Outcome State Fault Refusal := .next (timeSnap s)

/-- The increment of a tick: TIME_INCR within 1 ns ± 1,000 ppm (R337). -/
def timeIncr (s : State) : Nat := min 0x100418937 (max 0xFFBE76C9 (pairOf s Reg.TIME_INCR_LO))

/-- TIME_INCR takes a new value, and each change emits an INCR record (R337). -/
def setIncr (v : Nat) (s : State) : State :=
  if v = pairOf s Reg.TIME_INCR_LO then s else s |> setPair Reg.TIME_INCR_LO v |> emit 0x003 0x11 v

/-- A write of TIME_INCR: all 8 bytes, or the low (false) or high (true) half with the other as it stood. -/
def incrWrite (half : Option Bool) (w : Word64) (s : State) : State :=
  match half with
  | none => setIncr w.toNat s
  | some false => setIncr (setBits (pairOf s Reg.TIME_INCR_LO) 31 0 w.toNat) s
  | some true => setIncr (setBits (pairOf s Reg.TIME_INCR_LO) 63 32 w.toNat) s

def execTimeIncrWrite (half : Option Bool) (w : Word64) (s : State) : Host.Outcome State Fault Refusal := .next (incrWrite half w s)

/-- APPLY requests the add of TIME_OFFSET; it is ignored while an add is pending (R338). -/
def timeApply (s : State) : State :=
  if s.time.offset.isSome then s
  else { s with time := { s.time with offset := some { ns := signed 64 (pairOf s Reg.TIME_OFFSET_LO), follow := false } } }

/-- A write of TIME_CTRL: FOLLOW is stored, APPLY and SNAP act. -/
def timeCtrlWrite (v : Word32) (s : State) : State :=
  let s := regStore Reg.TIME_CTRL (v &&& 0x100#32) s
  let s := if v.getLsbD 1 then timeApply s else s
  if v.getLsbD 0 then timeSnap s else s

def execTimeApply (v : Word32) (s : State) : Host.Outcome State Fault Refusal :=
  .next (if v.getLsbD 1 then timeCtrlWrite v s else s)

/-- FOLLOW_CHECK (R340): once every 1 ms, on a SIDE 1 device that follows a paired peer. -/
def followCheck (s : State) : State :=
  if since s s.time.followAt < 1000000 then s
  else
    let s := { s with time := { s.time with followAt := s.time.tick } }
    let off := signed 64 (pairOf s Reg.TETH_PEER_OFFSET_LO)
    if s.teth.side = 1 ∧ flagOf s Reg.TIME_CTRL 8 = true ∧ s.teth.pair = .paired ∧
        fieldOf s Reg.TIME_FOLLOW_THR 31 0 < off.natAbs ∧ s.time.offset.isNone = true then
      { s with time := { s.time with offset := some { ns := off, follow := true } } }
    else s

def execFollowCheck (s : State) : Host.Outcome State Fault Refusal := .next (followCheck s)

/-- REFCLK_TIME is lost or returns (R341). -/
def refclkTime (lost : Bool) (s : State) : State :=
  if s.time.refLost = lost then s
  else { s with time := { s.time with refLost := lost } } |> cause Reg.TIME_IRQ_CAUSE 1 |> emit 0x003 0x14 (b2n lost)

def execRefclkTimeLoss (s : State) : Host.Outcome State Fault Refusal := .next (refclkTime true s)
def execRefclkTimeReturn (s : State) : Host.Outcome State Fault Refusal := .next (refclkTime false s)

/-! ### Triggers -/

def trigAt (s : State) (i : Nat) : Trigger := Tbl.get s.time.trigs i {}

def setTrig (i : Nat) (t : Trigger) (s : State) : State := { s with time := { s.time with trigs := Tbl.set s.time.trigs i {} t } }

/-- START in ns, and PERIOD_NS and WIDTH_NS within the limits of Table 14.5. -/
def trigStart (s : State) (i : Nat) : Nat := pairOf s (Reg.TIME_TRIG_START_SEC_LO i) * 1000000000 + fieldOf s (Reg.TIME_TRIG_START_NS i) 29 0

def trigPeriod (s : State) (i : Nat) : Nat :=
  let p := fieldOf s (Reg.TIME_TRIG_PERIOD_NS i) 31 0
  if p = 0 then 0 else min 4000000000 (max 20 p)

def trigWidth (s : State) (i : Nat) : Nat :=
  let p := trigPeriod s i
  min (if p = 0 then 4000000000 else p - 4) (max 4 (fieldOf s (Reg.TIME_TRIG_WIDTH_NS i) 31 0))

/-- The first edge instant at or after t ns; none for a one-shot that has passed. -/
def edgeFrom (start period t : Nat) : Option Nat :=
  if t ≤ start then some start
  else if period = 0 then none
  else some (start + (t - start + period - 1) / period * period)

/-- The first whole ns that is at least 1 µs from now. -/
def leadTime (s : State) : Nat := (s.time.net + 2 ^ 32 - 1) / 2 ^ 32 + 1000

/-- A trigger is armed (R348). -/
def trigArm (i : Nat) (v : Word32) (s : State) : State :=
  let s := regStore (Reg.TIME_TRIG_CTRL i) (v &&& 0xC0000000#32) s
  let n := edgeFrom (trigStart s i) (trigPeriod s i) (leadTime s)
  let s := setTrig i { trigAt s i with next := n, dead := n.isNone } s
  if n.isNone then s |> bump (Reg.TIME_TRIG_MISSED_CNT i) |> cause Reg.TIME_IRQ_CAUSE 2 else s

/-- EN 0 returns the pin to its inactive level (R348). -/
def trigDisarm (i : Nat) (v : Word32) (s : State) : State := s |> regStore (Reg.TIME_TRIG_CTRL i) (v &&& 0xC0000000#32) |> setTrig i {}

/-- A write of a trigger's CTRL. -/
def trigCtrlWrite (i : Nat) (v : Word32) (s : State) : State := if v.getLsbD 31 then trigArm i v s else trigDisarm i v s

def execTrigArm (i : Fin 8) (v : Word32) (s : State) : Host.Outcome State Fault Refusal :=
  .next (if v.getLsbD 31 then trigCtrlWrite i.val v s else s)
def execTrigDisarm (i : Fin 8) (v : Word32) (s : State) : Host.Outcome State Fault Refusal :=
  .next (if v.getLsbD 31 then s else trigCtrlWrite i.val v s)

/-- TRIG_EDGE (R348, R339): at the first tick at or past its instant the pin goes active. -/
def trigEdge (i : Nat) (s : State) : State :=
  let t := trigAt s i
  match t.next with
  | none => s
  | some n =>
    if s.time.net < n * 2 ^ 32 then s
    else
      let p := trigPeriod s i
      setTrig i { t with next := if p = 0 then none else some (n + p), pulseEnd := some (s.time.tick + trigWidth s i) } s

def execTrigEdge (i : Fin 8) (s : State) : Host.Outcome State Fault Refusal := .next (trigEdge i.val s)

/-- TRIG_PULSE_END: WIDTH_NS after its edge, in real time (R348, R349). -/
def trigPulseEnd (i : Nat) (s : State) : State :=
  match (trigAt s i).pulseEnd with
  | some e => if e ≤ s.time.tick then setTrig i { trigAt s i with pulseEnd := none } s else s
  | none => s

def execTrigPulseEnd (i : Fin 8) (s : State) : Host.Outcome State Fault Refusal := .next (trigPulseEnd i.val s)

/-- Level of the pin of trigger i: active or inactive under POL, 1 for active low (R348). -/
def trigPin (s : State) (i : Nat) : Bool := (trigAt s i).pulseEnd.isSome != flagOf s (Reg.TIME_TRIG_CTRL i) 30

/-- Instants of a trigger from its next one up to t, not included, that a forward step skips. -/
def skipped (t : Trigger) (period : Nat) (upto : Option Nat) (limit : Nat) : Nat :=
  match t.next with
  | none => 0
  | some n =>
    match upto with
    | some u => if period = 0 then 0 else (u - n) / period
    | none => if n < limit then 1 else 0

/-- A trigger after a step of the time (R349). -/
def trigStep (forward : Bool) (i : Nat) (s : State) : State :=
  let t := trigAt s i
  if !flagOf s (Reg.TIME_TRIG_CTRL i) 31 || t.dead then s
  else
    let p := trigPeriod s i
    let n := edgeFrom (trigStart s i) p (leadTime s)
    let k := if forward then skipped t p n (leadTime s) else 0
    let s := setTrig i { t with next := n } s
    if k = 0 then s
    else s |> bumpN (Reg.TIME_TRIG_MISSED_CNT i) k |> cause Reg.TIME_IRQ_CAUSE 2 |> emit 0x003 0x13 (i + 2 ^ 3 * (k % 2 ^ 32))

/-! ### Captures and PPS -/

/-- A field counter of w bits that holds at its largest value counts one event. -/
def bumpField (off hi lo : Nat) (s : State) : State :=
  if s.perf.frozen then s else setField off hi lo (capAt (2 ^ (hi + 1 - lo) - 1) (fieldOf s off hi lo + 1)) s

def capAt' (s : State) (i : Nat) : List CapEntry := Tbl.get s.time.caps i []

def setCap (i : Nat) (q : List CapEntry) (s : State) : State := { s with time := { s.time with caps := Tbl.set s.time.caps i [] q } }

/-- CAPTURE_EDGE (R350): an edge of the selected kind is stamped. -/
def captureEdge (i : Nat) (rising : Bool) (s : State) : State :=
  if !flagOf s (Reg.TIME_CAP_CTRL i) (if rising then 0 else 1) then s
  else if 16 ≤ (capAt' s i).length then s |> bumpField (Reg.TIME_CAP_CTRL i) 29 24 |> cause Reg.TIME_IRQ_CAUSE 3
  else
    let s := setCap i (capAt' s i ++ [{ time := s.time.net, rising := rising }]) s
    if flagOf s (Reg.TIME_CAP_CTRL i) 31 then emit 0x003 0x12 (i + 2 ^ 4 * b2n rising) s else s

def execCaptureEdge (i : Fin 9) (rising : Bool) (s : State) : Host.Outcome State Fault Refusal := .next (captureEdge i.val rising s)

def capturePop (i : Nat) (s : State) : State := setCap i (capAt' s i).tail s

def execCapturePop (i : Fin 9) (s : State) : Host.Outcome State Fault Refusal := .next (capturePop i.val s)

/-- The time is a whole second. -/
def onSecond (net : Nat) : Bool := net % (1000000000 * 2 ^ 32) == 0

/-- A write of TIME_PPS_CFG (R351): the next edge is that of the next whole second; EN 0 lets the pin fall. -/
def ppsWrite (v : Word32) (s : State) : State :=
  let s := regStore Reg.TIME_PPS_CFG (v &&& 0x800003FF#32) s
  if v.getLsbD 31 then (if s.time.ppsLast.isSome then s else
    { s with time := { s.time with ppsLast := if onSecond s.time.net then none else some (netSec s.time.net) } })
  else { s with time := { s.time with ppsLast := none, ppsFall := none } }

/-- PPS_EDGE (R351, R339): PPS_OUT rises once for each second that is reached. -/
def ppsEdge (s : State) : State :=
  if !flagOf s Reg.TIME_PPS_CFG 31 || s.time.ppsLast == some (netSec s.time.net) then s
  else
    let w := min 999 (max 1 (fieldOf s Reg.TIME_PPS_CFG 9 0))
    { s with time := { s.time with ppsLast := some (netSec s.time.net), ppsFall := some (s.time.tick + 1000000 * w) } }

def execPpsEdge (s : State) : Host.Outcome State Fault Refusal := .next (ppsEdge s)

def ppsPulseEnd (s : State) : State :=
  match s.time.ppsFall with
  | some e => if e ≤ s.time.tick then { s with time := { s.time with ppsFall := none } } else s
  | none => s

def execPpsPulseEnd (s : State) : Host.Outcome State Fault Refusal := .next (ppsPulseEnd s)

/-- After a backward step PPS_OUT rises again at the next whole second (R351, R339). -/
def ppsStep (s : State) : State :=
  if flagOf s Reg.TIME_PPS_CFG 31 then
    { s with time := { s.time with ppsLast := if onSecond s.time.net then none else some (netSec s.time.net) } }
  else s

/-- The pending offset is added at one tick (R338, R340): FRAC stays, and a negative result becomes 0 s, 0 ns. Triggers
and PPS follow the step (R339, R349). -/
def offsetAdd (s : State) : State :=
  match s.time.offset with
  | none => s
  | some o =>
    let whole := (((s.time.net / 2 ^ 32 : Nat) : Int) + o.ns).toNat
    let new := whole * 2 ^ 32 + s.time.net % 2 ^ 32
    let forward := Decidable.decide (s.time.net ≤ new)
    let s := { s with time := { s.time with net := new, offset := none } }
    let s := s |> cause Reg.TIME_IRQ_CAUSE 0 |> emit 0x003 0x10 (unsigned 64 o.ns + 2 ^ 64 * b2n o.follow)
    let s := if o.follow then cause Reg.TIME_IRQ_CAUSE 5 s else s
    let s := if forward then s else ppsStep s
    (List.range 8).foldl (fun s i => trigStep forward i s) s

/-! ### The two-step FIFO -/

/-- An entry joins the two-step FIFO, or is lost (R347). -/
def ts2Push (e : Ts2Entry) (s : State) : State :=
  if 64 ≤ s.time.ts2.length then s |> bump Reg.TIME_TS2_LOST_CNT |> cause Reg.TIME_IRQ_CAUSE 4
  else { s with time := { s.time with ts2 := s.time.ts2 ++ [e] } }

def ts2Pop (s : State) : State := { s with time := { s.time with ts2 := s.time.ts2.tail } }

def execTs2Pop (s : State) : Host.Outcome State Fault Refusal := .next (ts2Pop s)

/-! ### The Sillage -/

/-- The 32 bytes of a record (Table 14.6). -/
def sillBytes (r : SillRec) : Bytes :=
  leBytes 32 (netFrac r.time + 2 ^ 16 * netNs r.time + 2 ^ 48 * (netSec r.time % 2 ^ 64) + 2 ^ 112 * (r.source % 2 ^ 12) +
    2 ^ 124 * (r.kind % 2 ^ 8) + 2 ^ 132 * r.seq + 2 ^ 144 * (r.payload % 2 ^ 112))

/-- Space has returned: one LOSS record for each source that lost records, as far as there is space (R358). -/
def placeLosses : List (Nat × Nat) → State → State
  | [], s => s
  | (src, n) :: ls, s =>
    if 4096 ≤ s.sill.buf.length then s
    else
      { s with sill := { s.sill with lost := Tbl.del s.sill.lost src } } |> emit 0x005 0x15 (src + 2 ^ 12 * (n % 2 ^ 32)) |> placeLosses ls

/-- SILLAGE_DELIVER (R357): the oldest record goes to the ring while it takes records. -/
def sillDeliver (s : State) : State :=
  match s.sill.buf with
  | [] => s
  | r :: rs =>
    if !flagOf s Reg.SILL_CFG 31 then s
    else
      let (ok, s) := placeRec (fieldOf s Reg.SILL_CFG 3 0) 2 (sillBytes r) s
      if ok then
        let s := bump64 Reg.SILL_RECORD_CNT_LO 1 { s with sill := { s.sill with buf := rs } }
        placeLosses s.sill.lost s
      else s

def execSillageDeliver (s : State) : Host.Outcome State Fault Refusal := .next (sillDeliver (freshOut s))

/-- A write of SILL_DISP_CFG (R359): the count returns to 0 when EN rises and when N_M1 changes. -/
def dispCfgWrite (v : Word32) (s : State) : State :=
  let old := (regRead s Reg.SILL_DISP_CFG).toNat
  let s1 := regStore Reg.SILL_DISP_CFG (v &&& 0xC0FFFFFF#32) s
  if (!bit old 31 && v.getLsbD 31) || bits old 23 0 != bits v.toNat 23 0 then { s1 with sill := { s1.sill with sampleCount := 0 } } else s1

def execDispSampleCfgWrite (v : Word32) (s : State) : Host.Outcome State Fault Refusal := .next (gated (dispCfgWrite v) s)

end Sys2Proof.Machine
end

