-- ==== Sys2Proof/Machine/Perf.lean ====
section
/-!
DEFINITION. The PERF block of chapter 20: port windows (R483), the freeze (R484), clearing, and dumps (R485).
-/
namespace Sys2Proof.Machine

/-! ### Instants -/

/-- The first multiple of a period, in ns, after the time now, in units of 2^-32 ns. -/
def nextMultiple (ns : Nat) (s : State) : Nat := (s.time.net / (ns * 2 ^ 32) + 1) * (ns * 2 ^ 32)

/-- PERF_WIN_CFG.LEN_US within its limits, in ns. -/
def winLen (s : State) : Nat := 1000 * min 10000000 (max 1 (fieldOf s Reg.PERF_WIN_CFG 23 0))

/-- PERF_DUMP_CFG.PERIOD_MS within its limits, in ns. -/
def dumpPeriod (s : State) : Nat := 1000000 * min 10000 (max 1 (fieldOf s Reg.PERF_DUMP_CFG 13 0))

/-! ### Port windows -/

/-- A frame's last byte arrived at a port, or left it (R483). -/
def winCount (p len : Nat) (tx : Bool) (s : State) : State :=
  if s.perf.frozen then s
  else
    let w := Tbl.get s.perf.winOpen p {}
    let w := if tx then { w with txBytes := (w.txBytes + len) % 2 ^ 64, txFrames := (w.txFrames + 1) % 2 ^ 64 }
      else { w with rxBytes := (w.rxBytes + len) % 2 ^ 64, rxFrames := (w.rxFrames + 1) % 2 ^ 64 }
    { s with perf := { s.perf with winOpen := Tbl.set s.perf.winOpen p {} w } }

/-- PORT_WINDOW_LATCH (R483): at a boundary every port latches, unless a freeze holds (R484). WIN_END is the last boundary passed
(Table 20.9). -/
def windowLatch (s : State) : State :=
  if s.time.net < s.perf.winNext then s
  else
    let next := nextMultiple (winLen s) s
    if s.perf.frozen then { s with perf := { s.perf with winNext := next } }
    else
      { s with
        perf := { s.perf with
          winLast := s.perf.winOpen
          winOpen := []
          winSeq := (s.perf.winSeq + 1) % 2 ^ 32
          winEnd := ledgerOf (max s.perf.winNext (s.time.net / (winLen s * 2 ^ 32) * (winLen s * 2 ^ 32)))
          winNext := next } }

def execPortWindowLatch (s : State) : Host.Outcome State Fault Refusal := .next (windowLatch s)

/-! ### Freeze -/

/-- Every counter stops (R484). -/
def freezeNow (s : State) : State :=
  { s with perf := { s.perf with frozen := true, sched := none } }
    |> stamp Reg.PERF_FROZEN_SEC Reg.PERF_FROZEN_NS |> cause Reg.PERF_IRQ_CAUSE 2

/-- Every counter resumes; boundaries that passed under the freeze do not latch. -/
def unfreezeNow (s : State) : State :=
  let next := if s.perf.winNext ≤ s.time.net then nextMultiple (winLen s) s else s.perf.winNext
  { s with perf := { s.perf with frozen := false, sched := none, winNext := next } }

/-- The scheduled instant of PERF_FREEZE_AT, in ns; none when AT is 0 or the instant is less than 1 µs away. -/
def freezeInstant (s : State) : Option Nat :=
  let t := pairOf s Reg.PERF_FREEZE_AT_SEC_LO * 1000000000 + fieldOf s Reg.PERF_FREEZE_AT_NS 29 0
  if flagOf s Reg.PERF_FREEZE_CTRL 2 && Decidable.decide (leadTime s ≤ t) then some t else none

/-- A write of PERF_FREEZE_CTRL (R484). -/
def freezeWrite (v : Word32) (s : State) : State :=
  let s := regStore Reg.PERF_FREEZE_CTRL (v &&& 4#32) s
  let act := fun (f : Bool) (s : State) =>
    match freezeInstant s with
    | some t => { s with perf := { s.perf with sched := some (f, t * 2 ^ 32) } }
    | none => if f then freezeNow s else unfreezeNow s
  if v.getLsbD 0 && !s.perf.frozen && s.perf.sched.isNone then act true s
  else if v.getLsbD 1 && s.perf.frozen then act false s
  else s

def execPerfFreeze (v : Word32) (s : State) : Host.Outcome State Fault Refusal :=
  .next (if v.getLsbD 0 then gated (freezeWrite v) s else s)
def execPerfUnfreeze (v : Word32) (s : State) : Host.Outcome State Fault Refusal :=
  .next (if v.getLsbD 1 && !v.getLsbD 0 then gated (freezeWrite v) s else s)

/-- PERF_SCHEDULED_ACT: the scheduled freeze or unfreeze at the first tick at or past its instant (R339, R484). -/
def scheduledAct (s : State) : State :=
  match s.perf.sched with
  | some (f, t) => if t ≤ s.time.net then (if f then freezeNow s else unfreezeNow s) else s
  | none => s

def execPerfScheduledAct (s : State) : Host.Outcome State Fault Refusal := .next (scheduledAct s)

/-- Every unit event counter is cleared at one tick. -/
def clearCounters (s : State) : State :=
  (List.range 45).foldl (fun s u => (List.range 8).foldl (fun s k => setPair (Reg.PERF_CNT_LO u k) 0 s) s) s

/-- A write of PERF_CTRL: USER_EN keeps while the Charter is locked (R7, R37); CLEAR is ignored under a freeze. -/
def perfCtrlWrite (v : Word32) (s : State) : State :=
  let s := if s.loader.locked then s else regStore Reg.PERF_CTRL (v &&& 0x80000000#32) s
  if v.getLsbD 0 && !s.perf.frozen then clearCounters s else s

def execPerfClear (v : Word32) (s : State) : Host.Outcome State Fault Refusal :=
  .next (if v.getLsbD 0 then gated (perfCtrlWrite v) s else s)

/-! ### Dumps -/

/-- Event code of counter k of unit u. -/
def evtCode (s : State) (u k : Nat) : Nat := fieldOf s (Reg.PERF_EVT_SEL u k) 7 0

/-- One unit of a dump: TICK, event codes and counters. -/
def dumpUnit (s : State) (u : Nat) : Bytes :=
  leBytes 8 s.perf.ticks ++ (List.range 8).flatMap (fun k => leBytes 1 (evtCode s u k)) ++
    (List.range 8).flatMap fun k => leBytes 8 (pairOf s (Reg.PERF_CNT_LO u k))

/-- The latched window of a port, in the layout of the user page (Table 20.9); 0 for an absent port. -/
def windowBytes (s : State) (p : Nat) : Bytes :=
  let w := if (s.portCfgAt p).speed = 0 then {} else Tbl.get s.perf.winLast p {}
  leBytes 8 w.rxBytes ++ leBytes 8 w.txBytes ++ leBytes 8 w.rxFrames ++ leBytes 8 w.txFrames

/-- A DUMP record (Table 20.8) taken now, with its snapshot number. -/
def dumpRecord (seq : Nat) (s : State) : Bytes :=
  let c := fieldOf s Reg.PERF_DUMP_CFG 18 16
  let c := if c = 0 then 1 else c
  let body := (if bit c 0 then (List.range 45).flatMap (dumpUnit s) else []) ++
    (if bit c 1 then (List.range 64).flatMap (windowBytes s) else []) ++
    (if bit c 2 then (List.range 16384).flatMap (fun i => leBytes 8 (Tbl.get s.dispo i 0)) else [])
  leBytes 4 0x504D5544 ++ leBytes 2 1 ++ leBytes 1 c ++ leBytes 1 (b2n s.perf.frozen + 2 * b2n s.perf.dumpSkipped) ++
    leBytes 4 seq ++ leBytes 4 (64 + body.length) ++ leBytes 8 (netSec s.time.net) ++ leBytes 4 (netNs s.time.net) ++
    leBytes 2 (netFrac s.time.net) ++ leBytes 2 0 ++ leBytes 4 s.perf.winSeq ++ leBytes 4 0 ++ leBytes 8 s.perf.winEnd ++
    leBytes 16 0 ++ body

/-- PERF_DUMP (R485): at each due instant a snapshot is taken, or skipped while one still waits for its ring. -/
def perfDump (s : State) : State :=
  if !flagOf s Reg.PERF_DUMP_CFG 31 || Decidable.decide (s.time.net < s.perf.dumpNext) then s
  else
    let seq := (fieldOf s Reg.PERF_DUMP_SEQ 31 0 + 1) % 2 ^ 32
    let s := regStore Reg.PERF_DUMP_SEQ (BitVec.ofNat 32 seq) s
    let s := { s with perf := { s.perf with dumpNext := nextMultiple (dumpPeriod s) s } }
    if s.perf.dump.isSome then
      { s with perf := { s.perf with dumpSkipped := true } } |> bump Reg.PERF_DUMP_SKIP_CNT |> cause Reg.PERF_IRQ_CAUSE 1
    else { s with perf := { s.perf with dump := some (dumpRecord seq s), dumpSkipped := false } }

def execPerfDump (s : State) : Host.Outcome State Fault Refusal := .next (perfDump s)

/-- A write of PERF_DUMP_CFG: the next snapshot is due at the next multiple of the period. -/
def dumpCfgWrite (v : Word32) (s : State) : State :=
  let s := regStore Reg.PERF_DUMP_CFG (v &&& 0x8F073FFF#32) s
  { s with perf := { s.perf with dumpNext := nextMultiple (dumpPeriod s) s } }

end Sys2Proof.Machine
end

