-- ==== Sys2Proof/Machine/FlowCtl.lean ====
section
/-!
DEFINITION. Port settings that several chapters use (Table 13.1, TM_QUEUES), the count of a requester's shared cells, and
the flow control that a port sends for its own ingress (R295).
-/
namespace Sys2Proof.Machine

/-! ### Ports and their classes -/

/-- The port is in PORT_MAP. -/
def portExists (s : State) (p : Nat) : Bool := (s.portCfgAt p).speed != 0

/-- Classes of a port (TM_QUEUES). -/
def classCount (s : State) (p : Nat) : Nat := Tbl.get s.tm.nclass p 0

/-- A class above the port's highest class acts as the highest. -/
def clampClass (s : State) (p q : Nat) : Nat := min q (classCount s p - 1)

/-- Port speed in Gb/s (Table 13.1). -/
def speedGbps (code : Nat) : Nat :=
  match code with | 1 => 10 | 2 => 25 | 3 => 50 | 4 => 100 | 5 => 200 | 6 => 400 | _ => 0

def portGbps (s : State) (p : Nat) : Nat := speedGbps (s.portCfgAt p).speed

/-- Lanes of a mode (Table 13.1). -/
def modeLanes (code : Nat) : Nat := match code with | 4 => 2 | 5 => 4 | 6 => 8 | 0 => 0 | _ => 1

/-- What a port's transmitter sends (R309, R310). -/
inductive PortTx | electricalIdle | remoteFault | idles | frames
deriving DecidableEq, Repr

/-- DOWN is electrical idle; while the receive side is not aligned the port sends remote-fault ordered sets, and while it receives
them idles; else idles until UP, then frames. -/
def portTx (s : State) (p : Nat) : PortTx :=
  let x := s.portAt p
  if x.st = .down then .electricalIdle
  else if x.localFault then .remoteFault
  else if x.remoteFault then .idles
  else if x.st = .up then .frames else .idles

/-- The least whole number of ns that holds n bit times at R Gb/s. -/
def bitTimes (n gbps : Nat) : Nat := if gbps = 0 then 0 else (n + gbps - 1) / gbps

/-- FC_MODE of a port: 0 none, 1 PAUSE, 2 PFC; the reserved value acts as the reset value (R9). -/
def fcMode (s : State) (p : Nat) : Nat := let m := fieldOf s (Reg.TM_PORT_CTRL p) 9 8; if m = 3 then 0 else m

/-- Class of priority i in a map of eight 3-bit fields. -/
def mapClass (map i : Nat) : Nat := bits map (3 * i + 2) (3 * i)

/-! ### Cells -/

/-- Cells granted from a pool and not yet returned (R256). -/
def poolUsed (s : State) (k : Pool) : Nat := s.swc.frames.foldl (fun n (_, x) => n + x.cells.count k) 0

/-- Cells that requester (p, q) holds from the port shared and global shared pools (R295). -/
def sharedCells (s : State) (p q : Nat) : Nat :=
  s.swc.frames.foldl (fun n (_, x) =>
    if x.req = .port p q then n + x.cells.countP (fun k => match k with | .shared _ => true | .global => true | _ => false) else n) 0

/-! ### Flow control sent -/

/-- A flow-control frame of a port (R315): its header, opcode and parameters, padded to 60 bytes. -/
def fcFrame (s : State) (p opcode : Nat) (body : Bytes) : Bytes :=
  let smac := leBytes 4 (fieldOf s (Reg.EGR_PORT_SMAC_LO p) 31 0) ++ leBytes 2 (fieldOf s (Reg.EGR_PORT_SMAC_HI p) 15 0)
  let x := [0x01#8, 0x80#8, 0xC2#8, 0x00#8, 0x00#8, 0x01#8] ++ smac ++ beBytes 2 0x8808 ++ beBytes 2 opcode ++ body
  x ++ List.replicate (60 - x.length) 0#8

/-- A flow-control frame leaves the port. -/
def emitFc (p : Nat) (f : Bytes) (s : State) : State :=
  { s with out := { s.out with fc := s.out.fc ++ [(p, f)] } }
    |> bumpField (Reg.TM_FC_CNT p) 15 0 |> perf uTm 0x06 |> winCount p (f.length + 4) true

/-- The port sends a flow-control frame ahead of every queued copy, at the first boundary between copies (R295). -/
def sendFc (p : Nat) (f : Bytes) (s : State) : State :=
  if (s.schedAt p).sending.isSome then s.modSched p fun x => { x with fcQ := x.fcQ ++ [f] } else emitFc p f s

/-- The copy under way has ended: the flow-control frames that waited leave. -/
def flushFc (p : Nat) (s : State) : State :=
  let q := (s.schedAt p).fcQ
  q.foldl (fun s f => emitFc p f s) (s.modSched p fun x => { x with fcQ := [] })

/-- PFC priorities that are sent for class q: mapped to it, with TX_EN set. -/
def pfcPriorities (s : State) (p q : Nat) : Nat :=
  ((List.range 8).filter fun i => clampClass s p (mapClass (fieldOf s (Reg.TM_PORT_PFC_MAP p) 23 0) i) = q ∧
    flagOf s (Reg.TM_PORT_PFC p) (8 + i) = true).foldl (fun m i => m + 2 ^ i) 0

/-- XOFF (true) or XON for class q of a port in mode 2, or for the port, as class 8, in mode 1. -/
def sendX (p q : Nat) (off : Bool) (s : State) : State :=
  let t := if off then 0xFFFF else 0
  if q = 8 then sendFc p (fcFrame s p 0x0001 (beBytes 2 t)) s
  else
    let m := pfcPriorities s p q
    sendFc p (fcFrame s p 0x0101 (beBytes 2 m ++ (List.range 8).flatMap fun i => beBytes 2 (if m.testBit i then t else 0))) s

/-- XON and XOFF in cells; XOFF at or below XON acts as XON + 1. -/
def fcXon (s : State) (p : Nat) : Nat := fieldOf s (Reg.TM_PORT_FC_THR p) 31 16
def fcXoff (s : State) (p : Nat) : Nat := max (fcXon s p + 1) (fieldOf s (Reg.TM_PORT_FC_THR p) 15 0)

/-- The count that class q answers to; class 8 stands for the port. -/
def fcCount (s : State) (p q : Nat) : Nat :=
  if q = 8 then ((List.range 8).map (sharedCells s p)).foldl (· + ·) 0 else sharedCells s p q

/-- What a port sends for one class when its count has changed (R295). -/
def fcClass (p q : Nat) (s : State) : State :=
  let x := s.schedAt p
  let held := x.xoff.any (·.1 == q)
  if !held && Decidable.decide (fcXoff s p < fcCount s p q) && (q = 8 || pfcPriorities s p q != 0) then
    s |> (·.setSched p { x with xoff := x.xoff ++ [(q, s.time.tick)] }) |> sendX p q true
  else if held && Decidable.decide (fcCount s p q ≤ fcXon s p) then
    s |> (·.setSched p { x with xoff := x.xoff.filter (·.1 != q) }) |> sendX p q false
  else s

/-- Class q, or the port as class 8, is one that the port's mode keeps. -/
def fcKeeps (s : State) (p q : Nat) : Bool := if q = 8 then fcMode s p == 1 else fcMode s p == 2

/-- The port follows its ingress counts while its link is up (R295); an XOFF of another mode is forgotten. -/
def fcUpdate (p : Nat) (s : State) : State :=
  let s := if (s.schedAt p).xoff.all fun e => fcKeeps s p e.1 then s
    else s.modSched p fun x => { x with xoff := x.xoff.filter fun e => fcKeeps s p e.1 }
  if portTx s p ≠ .frames then s
  else if fcMode s p = 1 then fcClass p 8 s
  else if fcMode s p = 2 then (List.range (classCount s p)).foldl (fun s q => fcClass p q s) s
  else s

/-- FC_XOFF_REPEAT (R295): every 0x8000 quanta while the count stays above XON. -/
def xoffRepeat (p q : Nat) (s : State) : State :=
  let x := s.schedAt p
  match x.xoff.find? (·.1 == q) with
  | none => s
  | some (_, at_) =>
    if portTx s p ≠ .frames ∨ fcKeeps s p q = false ∨ since s at_ < bitTimes (512 * 0x8000) (portGbps s p) ∨ fcCount s p q ≤ fcXon s p
    then s
    else s |> (·.setSched p { x with xoff := x.xoff.map fun e => if e.1 = q then (q, s.time.tick) else e }) |> sendX p q true

def execFcXoffRepeat (p : Fin 64) (c : Fin 9) (s : State) : Host.Outcome State Fault Refusal := .next (xoffRepeat p.val c.val s)

/-! ### Pauses received -/

/-- PAUSE_EXPIRY (R294): the pause of a class ends. -/
def pauseExpiry (p c : Nat) (s : State) : State :=
  let x := s.schedAt p
  match Tbl.find x.pauseEnd c with
  | some t => if t ≤ s.time.tick then s.setSched p { x with pauseEnd := Tbl.del x.pauseEnd c } else s
  | none => s

def execPauseExpiry (p : Fin 64) (c : Fin 8) (s : State) : Host.Outcome State Fault Refusal := .next (pauseExpiry p.val c.val s)

/-- A class is paused for a number of quanta from now; 0 unpauses at once (R294). -/
def pauseClass (p c quanta : Nat) (s : State) : State :=
  let x := s.schedAt p
  let d := bitTimes (512 * quanta) (portGbps s p)
  s.setSched p { x with pauseEnd := if quanta = 0 then Tbl.del x.pauseEnd c else Tbl.put x.pauseEnd c (s.time.tick + d) }

/-- A received flow-control frame (R293, R294, R315), its bytes from the destination address on. -/
def flowControl (p : Nat) (data : Bytes) (s : State) : State :=
  let n := classCount s p
  if beAt data 14 2 = 0x0001 then
    if fcMode s p = 1 then (List.range n).foldl (fun s c => pauseClass p c (beAt data 16 2) s) s
    else bumpField (Reg.TM_FC_CNT p) 31 16 s
  else if fcMode s p = 2 then
    (List.range 8).foldl (fun s i =>
      if bit (beAt data 16 2) i && flagOf s (Reg.TM_PORT_PFC p) i then
        pauseClass p (clampClass s p (mapClass (fieldOf s (Reg.TM_PORT_PFC_MAP p) 23 0) i)) (beAt data (18 + 2 * i) 2) s
      else s) s
  else bumpField (Reg.TM_FC_CNT p) 31 16 s

end Sys2Proof.Machine
end

