-- ==== Sys2Proof/Machine/Egress.lean ====
section
/-!
DEFINITION. The switch core of chapter 11: stored frames and their references (R252, R256, R262), targets and queues
(R259 to R264), sampled copies (R271, R272), and the policers of chapter 12 (R299 to R301).
-/
namespace Sys2Proof.Machine

/-! ### Frames and references -/

/-- A stored frame. -/
def frameAt (s : State) (f : Nat) : Option Frame := Tbl.find s.swc.frames f

def setFrame (f : Nat) (x : Frame) (s : State) : State := { s with swc := { s.swc with frames := Tbl.put s.swc.frames f x } }

def dropFrame (f : Nat) (s : State) : State := { s with swc := { s.swc with frames := Tbl.del s.swc.frames f } }

def modFrame (f : Nat) (g : Frame → Frame) (s : State) : State :=
  match frameAt s f with | some x => setFrame f (g x) s | none => s

/-- Length of a frame as known now, FCS included once it has ended (R252). -/
def frameLen (x : Frame) : Nat := x.data.length + (if x.tail then 4 else 0)

/-- A further reference on a frame (R262). -/
def addRef (f : Nat) (s : State) : State := modFrame f (fun x => { x with refs := x.refs + 1 }) s

/-- A reference is released; at 0 every cell returns to its pool, and the frame is forgotten once its tail has arrived
(R262). -/
def release (f : Nat) (s : State) : State :=
  match frameAt s f with
  | none => s
  | some x =>
    if x.refs ≤ 1 then
      let s := perf uMint 0x05 s
      let s := if x.tail then dropFrame f s else setFrame f { x with refs := 0, cells := [], refused := true } s
      match x.req with | .port p _ => fcUpdate p s | _ => s
    else setFrame f { x with refs := x.refs - 1 } s

/-! ### Queues -/

def queueAt (s : State) (n : Nat) : List Copy := Tbl.get s.swc.queues n []

def setQueue (n : Nat) (q : List Copy) (s : State) : State :=
  { s with swc := { s.swc with queues := Tbl.set s.swc.queues n [] q } }

/-- A class whose queue has become empty has its deficit set to 0 (R282). -/
def settleEmpty (n : Nat) (s : State) : State :=
  if (queueAt s n).isEmpty then s.setClass n { s.classAt n with deficit := 0 } else s

/-- Entries in use of the pool that all queues share (R260). -/
def entriesUsed (s : State) : Nat := s.swc.queues.foldl (fun n (_, q) => n + q.length) 0

/-- The class is express on a port, or on the Tether under key 64 (R277). -/
def expressOn (s : State) (p q : Nat) : Bool := (Tbl.get s.tm.express p 0).testBit q

/-- Code of a copy not yet started of a frame that turned out bad (Table 11.7). -/
def badCode : BadCause → Nat
  | .fcs => DROP_FCS | .length => DROP_PARSE_LENGTH | .refused => DROP_MINT_REFUSED | .late => DROP_TAIL_BAD

/-- The code of a copy is counted (R147, R148). The peer's copies have their codes at the peer (log entry 83). -/
def countCopy (c : Copy) (code : Nat) (s : State) : State :=
  match frameAt s c.frame with
  | some x =>
    match x.req with
    | .tether _ => s
    | _ => dispose x.port c.cls code x.waited c.info.hash (ledgerOf x.arr) s
  | none => s

/-- A copy is discarded under a code and its reference is released; a sampled copy has no code (R260, R272). -/
def discardCopy (c : Copy) (code : Nat) (s : State) : State :=
  let s := if c.kind = .sample then s |> bump Reg.SWC_SAMPLE_LOST_CNT |> cause Reg.SWC_IRQ_CAUSE 3 else countCopy c code s
  release c.frame s

/-- HOLD_US of the scheduler of a port-class or Tether queue (R297, R324). -/
def holdUs (s : State) (n : Nat) : Nat :=
  min 1000000 (if n < 512 then fieldOf s (Reg.TM_PORT_HOLD (n / 8)) 19 0 else fieldOf s Reg.TETH_CTRL 19 0)

/-- The queue's port, or the Tether, is frozen and holds nothing (R296, R297, R324). -/
def holdsNothing (s : State) (n : Nat) : Bool :=
  n < 520 && (s.schedAt (n / 8)).frozenAt.isSome && holdUs s n == 0

/-- SWC_HOSTQ_LIMIT within its limits. -/
def hostLimit (s : State) : Nat := min 32768 (max 1 (fieldOf s Reg.SWC_HOSTQ_LIMIT 15 0))

/-- A copy joins queue n, or is discarded: the frame has turned out bad, no entry is free, the host queue is at its
limit, or a frozen port holds nothing (R260, R268, R269, R297). The copy already holds its reference. -/
def enqueue (n : Nat) (c : Copy) (s : State) : State :=
  match (frameAt s c.frame).bind (·.bad) with
  | some why => if c.kind = .sample then release c.frame s else discardCopy c (badCode why) s
  | none =>
    if 524288 ≤ entriesUsed s then
      discardCopy c DROP_MINT_REFUSED (if c.kind = .sample then s else bump Reg.MINT_QENT_REFUSED_CNT s)
    else if 520 ≤ n ∧ hostLimit s ≤ (queueAt s n).length then
      if c.kind = .sample then discardCopy c DROP_MINT_REFUSED (cause Reg.SWC_IRQ_CAUSE 1 s)
      else discardCopy c DROP_MINT_REFUSED (s |> bump (Reg.SWC_HOSTQ_DROP_CNT (n - 520)) |> cause Reg.SWC_IRQ_CAUSE 1)
    else if holdsNothing s n then s |> cause Reg.TM_IRQ_CAUSE 3 |> perf uTm 0x05 |> discardCopy c DROP_PORT_HOLD_EXPIRED
    else s |> setQueue n (queueAt s n ++ [{ c with enq := s.time.tick }]) |> perf uSwc 0x01

/-- Takes a reference and enqueues. -/
def makeCopy (n : Nat) (c : Copy) (s : State) : State := enqueue n c (addRef c.frame s)

/-- Where a TARGET leads (Table 11.4). -/
inductive Target
  | queue (n : Nat)
  | peer (n : Nat) (port : Nat)
  | group (g : Nat)
  | reserved
deriving DecidableEq, Repr

/-- The port-class queue of a port and QUEUE: a QUEUE above the highest class acts as the highest (R259). -/
def portQueue (s : State) (p q : Nat) : Nat := 8 * p + clampClass s p q

/-- The decoding of Table 11.4. -/
def targetOf (s : State) (t q : Nat) : Target :=
  if t < 0x40 then (if portExists s t then .queue (portQueue s t q) else .reserved)
  else if t < 0x50 then .queue (520 + (t - 0x40))
  else if 0x80 ≤ t ∧ t < 0xC0 then (if Tbl.get s.tm.nclass 64 0 = 0 then .reserved else .peer (512 + q) (t - 0x80))
  else if 0x200 ≤ t then .group (t - 0x200)
  else .reserved

/-- Members of a group, as queues in the order of R263. -/
def groupQueues (s : State) (g q ingress : Nat) : List Nat :=
  let x := Tbl.get s.swc.groups g {}
  ((List.range 64).filter fun p => x.ports.testBit p && (x.hairpin || p != ingress) && portExists s p).map (portQueue s · q) ++
    ((List.range 16).filter x.hosts.testBit).map (520 + ·)

/-- A copy to a reserved target: discarded under DROP_RULE and counted (Table 11.4). -/
def badTarget (c : Copy) (s : State) : State :=
  discardCopy c DROP_RULE (s |> addRef c.frame |> bump Reg.SWC_BAD_TARGET_CNT |> cause Reg.SWC_IRQ_CAUSE 2)

/-- Copies of a packet to a TARGET and QUEUE (R259, R263); `groups` says whether a group is a target. -/
def sendTo (target q : Nat) (groups : Bool) (c : Copy) (s : State) : State :=
  let c := { c with cls := q, target := target }
  match targetOf s target q with
  | .queue n => makeCopy n c s
  | .peer n _ => makeCopy n { c with kind := .peer } s
  | .reserved => badTarget c s
  | .group g =>
    if groups then
      let ingress := match frameAt s c.frame with | some x => x.port | none => 64
      match groupQueues s g q ingress with
      | [] => discardCopy c DROP_RULE (addRef c.frame s)
      | qs => perfN uSwc 0x02 qs.length (qs.foldl (fun s n => makeCopy n c s) s)
    else badTarget c s

/-! ### Sampling -/

/-- The sampled copy is queued once the tail has arrived and the last pass has been decided (R272). Until then the sampler
holds a reference. -/
def trySample (f : Nat) (s : State) : State :=
  match frameAt s f with
  | some x =>
    if x.sampled && x.tail && x.passesDone then
      let s := setFrame f { x with sampled := false } s
      s |> makeCopy (520 + fieldOf s (Reg.SWC_SAMPLE_CFG x.port) 27 24) { frame := f, kind := .sample, info := x.info, cls := x.cls }
        |> release f
    else s
  | none => s

/-- The last pass of a packet has been decided with the given metadata: the sampled copy may go, and the passes'
reference is released (R262, R272). -/
def passDone (f : Nat) (info : CopyInfo) (s : State) : State :=
  s |> modFrame f (fun x => { x with passesDone := true, info := info }) |> trySample f |> release f

/-! ### Verdicts -/

/-- The metadata that a pass gives to its copies. -/
def infoOf (d : Desc) (code : Nat) : CopyInfo :=
  { hash := d.hash, code := code, status := d.status, pass := d.pass, dir := d.dir, template := d.template, stamp := d.stamp, head := d.head,
    action := d.action }

/-- The packet is discarded under a code, counted under a class (R148). -/
def dropPass (d : Desc) (cls code : Nat) (s : State) : State :=
  s |> dispose d.port cls code d.waited d.hash d.arr |> passDone d.frame (infoOf d code)

/-- The packet is punted to a host queue with a source and reason for its metadata (R264). -/
def puntPass (d : Desc) (ring cls source reason : Nat) (s : State) : State :=
  let info := { infoOf d PUNTED with source := source, reason := reason }
  s |> makeCopy (520 + ring) { frame := d.frame, kind := .punt, info := info, cls := cls } |> passDone d.frame info

/-- A mirror copy (R264): no rewrite, no group target. -/
def mirrorPass (d : Desc) (target q : Nat) (s : State) : State :=
  sendTo target q false { frame := d.frame, kind := .mirror, info := infoOf d (if d.waited then FWD_AFTER_WAIT else FWD_FAST) } s

/-! ### Policers -/

def policerKey (b i : Nat) : Nat := 65536 * b + i

def policerAt (s : State) (k : Nat) : Policer := Tbl.get s.tm.policers k {}

def setPolicer (k : Nat) (x : Policer) (s : State) : State :=
  { s with tm := { s.tm with policers := Tbl.set s.tm.policers k {} x } }

/-- Tokens brought up to now: CIR / 8,000,000 bytes per ns, up to CBS (R299). -/
def refill (s : State) (x : Policer) : Policer :=
  { x with tk := min ((x.cbs * 65536 : Nat) : Int) (x.tk + ((since s x.upd * x.cir * 65536 / 8000000 : Nat) : Int)), upd := s.time.tick }

/-- The bytes charged at a use: the frame's length, or before its tail the larger of the bytes received and DECL_END
(R300, R301). -/
def chargeOf (x : Frame) (declEnd : Nat) : Nat := if x.tail then frameLen x else max x.data.length declEnd

/-- A policer of Branch b is applied to a pass (R300, R301): whether the packet conforms. -/
def police (b i : Nat) (d : Desc) (s : State) : Bool × State :=
  match frameAt s d.frame with
  | none => (true, s)
  | some x =>
    let p := refill s (policerAt s (policerKey b i))
    let n := chargeOf x d.declEnd + (if p.wire then fieldOf s (Reg.TM_PORT_CTRL d.port) 5 0 else 0)
    if ((n * 65536 : Nat) : Int) ≤ p.tk then
      let s := if x.tail then s
        else setFrame d.frame { x with polTails := x.polTails ++ [⟨b, i, chargeOf x d.declEnd⟩] } s
      (true, setPolicer (policerKey b i) { p with tk := p.tk - ((n * 65536 : Nat) : Int) } s)
    else (false, setPolicer (policerKey b i) { p with drops := capAt 0xFFFFFFFF (p.drops + 1) } s |> perf uTm 0x04)

/-- The code of a forwarded packet: by a default action, after a miss-queue wait, or neither (R147). For a packet that waited in a
miss queue and is then forwarded by a default action R147's sentence says FWD_AFTER_WAIT, R55, R137 and Table 6.4 say FWD_FALLBACK:
it is FWD_FALLBACK (DESIGN CHOICE, log entry 126). -/
def forwardCode (d : Desc) : Nat := if d.fallback then FWD_FALLBACK else if d.waited then FWD_AFTER_WAIT else FWD_FAST

/-- The code under which queue n would refuse a copy of frame f now (R260, R268, R269, R297). -/
def refusalCode (s : State) (f n : Nat) : Option Nat :=
  match (frameAt s f).bind (·.bad) with
  | some why => some (badCode why)
  | none =>
    if 524288 ≤ entriesUsed s ∨ (520 ≤ n ∧ hostLimit s ≤ (queueAt s n).length) then some DROP_MINT_REFUSED
    else if holdsNothing s n then some DROP_PORT_HOLD_EXPIRED else none

/-- The packet's code under a FORWARD verdict (R147): that of its copies, DROP_RULE where the target gives none (Table 11.4), and that
of its only copy where the queue refuses it. The copies of a group have codes of their own. -/
def packetCode (s : State) (d : Desc) (target q : Nat) : Nat :=
  match targetOf s target q with
  | .queue n => (refusalCode s d.frame n).getD (forwardCode d)
  | .peer n _ => (refusalCode s d.frame n).getD (forwardCode d)
  | .reserved => DROP_RULE
  | .group g =>
    let ingress := match frameAt s d.frame with | some x => x.port | none => 64
    if groupQueues s g q ingress = [] then DROP_RULE else forwardCode d

/-- A FORWARD verdict: copies to the action's target with its rewrite profile. -/
def forwardPass (d : Desc) (a : Word64) (params : List Word64) (s : State) : State :=
  let info := infoOf d (packetCode s d (actTarget a) (actQueue a))
  s |> sendTo (actTarget a) (actQueue a) true
      { frame := d.frame, kind := .action, info := infoOf d (forwardCode d), profile := some (actRewrite a), params := params }
    |> passDone d.frame info

/-- The pass with the action word that is applied to it noted for its copies (R464). -/
def underAction (d : Desc) (a : Word64) : Desc := { d with action := a.toNat }

/-- An action word is applied to a packet without its policer (R75, R114, R171); the reserved VERDICT acts as DROP. -/
def takeAction (d : Desc) (a : Word64) (params : List Word64) (s : State) : State :=
  let d := underAction d a
  if actVerdict a = 1 ∨ actVerdict a = 3 then dropPass d (actQueue a) DROP_RULE s
  else if actVerdict a = 2 then puntPass d (actPuntRing a) (actQueue a) 2 0 s
  else forwardPass d a params s

/-- The policer of an action is applied by Branch b when its verdict is FORWARD or PUNT (R300, log entry 22). -/
def policeAction (b : Nat) (d : Desc) (a : Word64) (s : State) : Bool × State :=
  if actPolice a ∧ (actVerdict a = 0 ∨ actVerdict a = 2) then police b (actPolicer a) d s else (true, s)

/-- An action word is applied to a packet by Branch b, with its policer (R114, R300). -/
def applyAction (b : Nat) (d : Desc) (a : Word64) (params : List Word64) (s : State) : State :=
  let (ok, s) := policeAction b d a s
  if ok then takeAction d a params s else dropPass (underAction d a) (actQueue a) DROP_POLICER s

end Sys2Proof.Machine
end

