-- ==== Sys2Proof/Machine/Link.lean ====
section
/-!
DEFINITION. The Tether's link frames (R321, R322): what is sent, and what waits to be sent. The kinds and payloads are those of
log entry 78: 1 heartbeat, 2 recovery request, 3 recovery response, 4 mirror message, 5 copy.
-/
namespace Sys2Proof.Machine

/-- Bytes of a link frame with a payload: header, payload and CRC-32C (R321). -/
def linkLen (payload : Nat) : Nat := payload + 8

/-- Room in the 256 KiB retry buffer for a link frame (R321). -/
def linkRoom (s : State) (payload : Nat) : Bool :=
  (s.teth.retry.map fun e => linkLen e.payload.length).foldl (· + ·) 0 + linkLen payload ≤ 262144

/-- Link frames sent by the command in hand replace those of an earlier one. -/
def freshTeth (s : State) : State := { s with out := { s.out with teth := [], acks := [] } }

/-- A link frame leaves, under its sequence; its length is that of its payload (log entry 78). -/
def linkOut (kind seq : Nat) (payload : Bytes) (s : State) : State :=
  let f : LinkFrame := { kind := kind, length := payload.length, seq := seq, payload := payload, crc := Config.linkCrc kind seq payload }
  { s with out := { s.out with teth := s.out.teth ++ [f] } } |> perf uTeth 0x01

/-- The receiver acknowledges the frame of a sequence, or asks for it again. -/
def linkReply (seq : Nat) (ok : Bool) (s : State) : State := { s with out := { s.out with acks := s.out.acks ++ [(seq, ok)] } }

/-- A link frame is sent and, but for a heartbeat, numbered and kept until it is acknowledged (R321). -/
def linkSend (kind : Nat) (payload : Bytes) (s : State) : State :=
  let n := s.teth.txSeq
  let s := if kind = 1 then s
    else { s with teth := { s.teth with
      txSeq := (s.teth.txSeq + 1) % 65536
      retry := s.teth.retry ++ [{ seq := s.teth.txSeq, kind := kind, payload := payload }] } }
  linkOut kind n payload s

/-- Nothing of a higher kind than a copy occupies the link or waits for it, and a copy's frame has room (R321, R322). -/
def linkFree (s : State) (payload : Nat) : Bool :=
  s.teth.linkDebt == 0 && s.teth.recQ.isEmpty && s.teth.mirrorQ.all (fun (_, q) => q.isEmpty) && linkRoom s payload

end Sys2Proof.Machine
end

