-- ==== Sys2Proof/Machine/Items.lean ====
section
/-!
DEFINITION. The ready list of chapter 08: work items (Table 8.1), places and their limits (R188), traced decisions
(R202), and the flow export and mirror queues that records of a Branch feed (R221, R222, R326, R328).
-/
namespace Sys2Proof.Machine

/-! ### Places -/

/-- Packets that wait on records of Branch b (R191). -/
def chainPlaces (s : State) (b : Nat) : Nat := (s.ledgerAt b).ways.foldl (fun n (_, w) => n + w.chain.length) 0

/-- Places held in a Branch's ready list (R188). -/
def placesHeld (s : State) (b : Nat) : Nat := (s.dispAt b).items.length + chainPlaces s b

/-- Places held by one priority; waiting packets count under P1 (DISP_DEPTH). -/
def placesOf (s : State) (b p : Nat) : Nat :=
  ((s.dispAt b).items.filter (·.prio = p)).length + if p = 1 then chainPlaces s b else 0

/-- A place is free for a priority under the limits of R188; from DRAIN on none is taken by P0 or P1 (Table 2.8). -/
def placeFree (s : State) (b p : Nat) : Bool :=
  let free := 4096 - placesHeld s b
  let cfg := Reg.DISP_LIST_CFG b
  let rsv := min 2048 (fieldOf s (Reg.DISP_SHARE_CFG b) 27 16)
  0 < free && (2 ≤ p || s.loader.st != .drain) &&
  (p == 0 || rsv - placesOf s b 0 < free) &&
  (p != 2 || placesOf s b 2 < min 1024 (fieldOf s cfg 23 12)) &&
  (p != 3 || placesOf s b 3 < min 2048 (fieldOf s cfg 11 0))

/-- DISP_PEAK takes in the places now held. -/
def notePeak (b : Nat) (s : State) : State := peak (Reg.DISP_PEAK b) 12 0 (placesHeld s b) s

/-! ### Fields of a work item (Table 8.1) -/

def itemRoutine (g0 : Word64) : Nat := wbits g0 7 0
def itemPkt (i : Item) : Bool := i.g0.getLsbD 10
def itemWin (i : Item) : Bool := i.g0.getLsbD 11

/-- G0 of a packet item. -/
def packetG0 (b : Nat) (d : Desc) (a : Word64) (prio : Nat) (win setup reclass : Bool) : Word64 :=
  BitVec.ofNat 64 (actRoutine a + 2 ^ 8 * prio + 2 ^ 10 + 2 ^ 11 * b2n win + 2 ^ 12 * b2n setup + 2 ^ 13 * b2n reclass +
    2 ^ 16 * (d.stamp % 65536) + 2 ^ 32 * d.port + 2 ^ 38 * b + 2 ^ 40 * b2n d.dir + 2 ^ 48 * actUser a)

/-- G2: the descriptor handle, a value that the spec leaves to the device (log entry 4), and the window. -/
def itemG2 (frame : Option Nat) (way : Option Nat) : Word64 :=
  BitVec.ofNat 64 ((match frame with | some f => (Config.descHandle f).toNat | none => 0) +
    (match way with | some k => 2 ^ 32 * (k / 16) + 2 ^ 47 * (k % 16) | none => 0))

/-- Priority of a packet item (R187, R277, log entry 23): P0 when the action names an express class of an egress port, or, for
a TARGET of the peer range, an express class of the Tether. -/
def actionPrio (s : State) (a : Word64) : Nat :=
  match targetOf s (actTarget a) (actQueue a) with
  | .queue n => if n < 512 && expressOn s (n / 8) (n % 8) then 0 else 1
  | .peer _ _ => if expressOn s 64 (actQueue a) then 0 else 1
  | _ => 1

/-! ### Tracing -/

/-- A decision of kind k (Table 8.6) concerning an item, with the Teller, the preferred Teller, the tries and the wait:
one record in N per kind (R202, log entry 21). -/
def trace (b k : Nat) (i : Item) (teller : Nat) (pref : Option Nat) (s : State) : State :=
  if flagOf s (Reg.DISP_TRACE_CFG b) k then
    let seen := Tbl.get (s.dispAt b).seen k 0 + 1
    if seen < max 1 (fieldOf s (Reg.DISP_TRACE_CFG b) 31 8) then s.modDisp b fun d => { d with seen := Tbl.set d.seen k 0 seen }
    else
      let payload := teller % 128 + 2 ^ 7 * i.prio + 2 ^ 9 * itemRoutine i.g0 + 2 ^ 17 * wbits i.g1 15 0 +
        2 ^ 33 * (match pref with | some p => p % 64 | none => 64) + 2 ^ 40 * placesHeld s b + 2 ^ 53 * (i.tries % 8) +
        2 ^ 56 * capAt 0xFFFF (since s i.readyAt)
      s.modDisp b (fun d => { d with seen := Tbl.set d.seen k 0 0 }) |> emit (srcDisp b) (0x30 + k) payload
  else s

/-! ### Entry -/

/-- A stateless packet item waits behind an earlier one of the same HASH (R191). -/
def hashBusy (s : State) (b : Nat) (h : Word64) : Bool :=
  h != 0 && (s.dispAt b).items.any fun i => itemPkt i && !itemWin i && i.g1 == h

/-- Puts an item among those of the list, by its entry order. -/
def insertItem (i : Item) (l : List Item) : List Item :=
  l.takeWhile (fun j => j.order < i.order) ++ i :: l.dropWhile (fun j => j.order < i.order)

/-- An item takes a place and enters the list (R188). A packet that has waited on a record keeps the place and the entry time
that it took then (R188, R190). -/
def addItem (b : Nat) (i : Item) (s : State) : State :=
  let d := s.dispAt b
  match i.desc.bind (·.entered) with
  | some n => s.setDisp b { d with items := insertItem { i with id := n, order := n, readyAt := s.time.tick } d.items }
  | none =>
    let i := { i with id := d.nextId, order := d.nextId, readyAt := s.time.tick }
    s |> (·.setDisp b { d with items := d.items ++ [i], nextId := d.nextId + 1 }) |> notePeak b

/-- A packet enters WAITING: counted and traced (R191, R202). -/
def noteWaiting (b : Nat) (i : Item) (f : Nat) (s : State) : State :=
  s |> bump (Reg.DISP_LOCK_WAIT_CNT b) |> perf (uDisp b) 0x05 |> trace b 2 i 0 none
    |> modFrame f fun x => { x with waited := true }

/-- The work item of a packet pass whose action has a ROUTINE. -/
def packetItem (s : State) (b : Nat) (d : Desc) (a : Word64) (way : Option Nat) (setup reclass : Bool) : Item :=
  let prio := actionPrio s a
  { id := 0, g0 := packetG0 b d a prio way.isSome setup reclass, g1 := d.hash, g2 := itemG2 (some d.frame) way, g3 := a,
    prio := prio, desc := some d, way := way, readyAt := s.time.tick }

/-- A stateless packet item enters the list, WAITING behind an earlier item of its flow (R191). -/
def addStateless (b : Nat) (d : Desc) (a : Word64) (reclass : Bool) (s : State) : State :=
  let i := packetItem s b d a none false reclass
  if hashBusy s b d.hash then s |> addItem b { i with st := .waiting } |> noteWaiting b i d.frame else addItem b i s

/-- A hold under R189 begins: LIST_FULL and its trace. -/
def noteStall (b : Nat) (i : Item) (s : State) : State := s |> cause (Reg.DISP_IRQ_CAUSE b) 2 |> trace b 7 i 0 none

/-- An offer is refused for lack of a place or a routine (R198, R202). -/
def noteRefused (b : Nat) (i : Item) (s : State) : State :=
  s |> bump (Reg.DISP_POST_REFUSED_CNT b) |> cause (Reg.DISP_IRQ_CAUSE b) 1 |> trace b 6 i 0 none

/-- G0 of an item from a maintenance source. -/
def maintG0 (b routine : Nat) : Word64 := BitVec.ofNat 64 (routine + 2 ^ 8 * 3 + 2 ^ 14 + 2 ^ 38 * b)

/-- A maintenance item is created, if its routine is not 0 and a P3 place is free (R187, R188); a refusal for lack of a
place is traced as REFUSED (Table 8.6). -/
def offerMaint (b routine : Nat) (kind : ItemFor) (hash arg : Word64) (s : State) : Bool × State :=
  let i : Item := { id := 0, g0 := maintG0 b routine, g1 := hash, g3 := arg, prio := 3, kind := kind, readyAt := s.time.tick }
  if routine = 0 || !generatorsOn s then (false, s)
  else if placeFree s b 3 then (true, addItem b i s)
  else (false, trace b 6 i 0 none s)

/-! ### Flow export -/

/-- Entries of a Branch's export ring (TILL_EXP_RING). -/
def expLog2 (s : State) : Nat := min 10 (max 6 (fieldOf s (Reg.TILL_EXP_RING 0) 27 24))

/-- A Coffer word, and the Coffer with a word replaced (R457). -/
def cofferWord (s : State) (i : Nat) : Word64 := Tbl.get s.coffer.words i 0
def setCofferWord (i : Nat) (v : Word64) (s : State) : State :=
  { s with coffer := { s.coffer with words := Tbl.set s.coffer.words i 0 v, poison := s.coffer.poison.filter (· ≠ i) } }

/-- The export item of a snapshot: created if its routine is not 0 and a P3 place is free (R222). 0 no item, 1 still to be
created, 2 created. -/
def exportItem (b : Nat) (n : Snapshot) (s : State) : Nat × State :=
  let r := fieldOf s (Reg.DISP_MAINT_ROUTINE b) 23 16
  if r = 0 then (0, s)
  else
    let arg := BitVec.ofNat 64 (n.addr + 2 ^ 32 * (n.num % 2 ^ 32))
    let (ok, s) := offerMaint b r (.flowExport n.num) 0 arg s
    (if ok then 2 else 1, s)

/-- END_REASON of a snapshot (R221). -/
def endReason (st : Nat) (expired : Bool) : Nat := if !expired then 4 else if st = 3 then 3 else 1

/-- The record as it stands, as a snapshot: LOCK and DIRTY 0, END_REASON in W0[18:16] (R221). -/
def snapshotOf (r : Rec) (expired : Bool) : Rec :=
  let w := setWbits (setWbits (wordAt r 0) 25 24 0) 18 16 (endReason (wbits (wordAt r 0) 35 32) expired)
  withWord r 0 w

/-- The exporter writes a snapshot's words into the Coffer from word i; while PD27 is not ON the stores are discarded (R413, log entry
136). -/
def storeSnapshot (i : Nat) (rc : Rec) (s : State) : State :=
  if domOn s 27 then (List.range 16).foldl (fun s j => setCofferWord ((i + j) % 262144) (wordAt rc j) s) s
  else cause Reg.TOP_COFFER_IRQ_CAUSE 0 s

/-- The snapshot is written into the Branch's export ring, or lost when the ring is full (R221, R222). -/
def exportRecord (b : Nat) (hash : Word64) (r : Rec) (expired : Bool) (s : State) : State :=
  let x := (s.ledgerAt b).exp
  if 2 ^ expLog2 s ≤ x.ring.length then
    s |> bump (Reg.TILL_EXP_LOST_CNT b)
      |> emit (srcTill b) 0x2B ((wordAt r 7).toNat + 2 ^ 64 * wbits hash 47 0)
  else
    let addr := x.base + 128 * (2 ^ expLog2 s * b + x.num % 2 ^ expLog2 s)
    let s := storeSnapshot (addr / 8) (snapshotOf r expired) s
    let n : Snapshot := { addr := addr % 0x200000, num := x.num }
    let (st, s) := exportItem b n s
    s |> (·.modLedger b fun l =>
        { l with exp := { l.exp with ring := l.exp.ring ++ [{ n with item := st }], num := (l.exp.num + 1) % 2 ^ 32 } })
      |> bump (Reg.TILL_EXP_SNAP_CNT b)

/-- A record reaches CLOSED: it is exported under R221 when its aging class says so. -/
def exportOnClose (b : Nat) (hash : Word64) (r : Rec) (expired : Bool) (s : State) : State :=
  let c := wbits (wordAt r 0) 31 29
  if flagOf s (Reg.TILL_EXP_CFG 0) 0 && flagOf s (Reg.TILL_AGE_EXPORT 0 c) 0 && (expired || flagOf s (Reg.TILL_EXP_CFG 0) 2)
  then exportRecord b hash r expired s else s

/-! ### Mirroring -/

/-- EVENTS and SYNC_MS of a record's mirror class (Table 13.6). -/
def mirrorCfg (s : State) (r : Rec) : Nat × Nat := Tbl.get s.teth.mirrorClass (wbits (wordAt r 0) 28 26) (0, 0)

/-- A mirror message is queued at the Branch, or lost for lack of a place (R326, R328). -/
def mirrorSend (b type : Nat) (hash : Word64) (r : Rec) (s : State) : State :=
  let q := Tbl.get s.teth.mirrorQ b []
  if 4096 ≤ q.length then
    s |> bump Reg.TETH_MIRROR_LOST_CNT |> cause Reg.TETH_IRQ_CAUSE 6 |> emit 0x008 0x4B hash.toNat
  else
    let words := (withWord r 0 (setWbits (wordAt r 0) 25 24 0)).toList
    let m : MirrorMsg := { type := type, hash := hash.toNat, words := words }
    { s with teth := { s.teth with mirrorQ := Tbl.set s.teth.mirrorQ b [] (q ++ [m]) } }

/-- The event of bit e of EVENTS (0 SETUP, 1 BIND, 2 CLOSE) mirrors a record while PAIRED (R326); whether it did. -/
def mirrorEvent (b e : Nat) (hash : Word64) (r : Rec) (s : State) : Bool × State :=
  if s.teth.pair = .paired ∧ (mirrorCfg s r).1.testBit e then (true, mirrorSend b (e + 1) hash r s) else (false, s)

end Sys2Proof.Machine
end

