-- ==== Sys2Proof/Machine/SymbolCode.lean ====
section
/-!
DEFINITION. The codes of chapter 16: the RS(20,16) symbol code of the Vault (R390 to R393) and the extended Hamming
code of the on-chip words (R394).
-/
namespace Sys2Proof.Machine

/-- Multiplication by x in GF(2^8) modulo x^8 + x^4 + x^3 + x^2 + 1 (R390). -/
def gfX (a : Byte) : Byte := (a <<< 1) ^^^ (if a.getLsbD 7 then 0x1D#8 else 0#8)

/-- Product in GF(2^8). -/
def gfMul (a b : Byte) : Byte :=
  ((List.range 8).foldl (fun (acc : Byte × Byte) i =>
    (if b.getLsbD i then acc.1 ^^^ acc.2 else acc.1, gfX acc.2)) (0#8, a)).1

/-- α^n with α = 0x02. -/
def gfPow : Nat → Byte
  | 0 => 1#8
  | n + 1 => gfX (gfPow n)

/-- Square, and the inverse a^254. -/
def gfSq (a : Byte) : Byte := gfMul a a

def gfInv (a : Byte) : Byte :=
  let a2 := gfSq a
  let a4 := gfSq a2
  let a8 := gfSq a4
  let a16 := gfSq a8
  let a32 := gfSq a16
  let a64 := gfSq a32
  let a128 := gfSq a64
  gfMul (gfMul (gfMul a128 a64) (gfMul a32 a16)) (gfMul (gfMul a8 a4) a2)

/-- Value of a polynomial at a point, coefficients from x^0 up. -/
def gfEval (c : List Byte) (x : Byte) : Byte := c.foldr (fun k acc => gfMul acc x ^^^ k) 0#8

/-- The syndromes S_0 to S_3 of a codeword (R392). -/
def syndromes (c : List Byte) : List Byte := (List.range 4).map fun j => gfEval c (gfPow j)

/-- One step of the division by g(x) of R390: a register of four symbols, highest coefficient first. -/
def rsFeed (g : List Byte) (r : List Byte) (m : Byte) : List Byte :=
  match r with
  | h :: t => ((t ++ [0#8]).zip g).map fun (x, k) => x ^^^ gfMul (h ^^^ m) k
  | [] => []

/-- Coefficients g_3 to g_0 of g(x) = (x + α^0)(x + α^1)(x + α^2)(x + α^3), below its leading 1. -/
def rsGen : List Byte :=
  let g := (List.range 4).foldl (fun (p : List Byte) j =>
    (List.range (p.length + 1)).map fun i =>
      (if i = 0 then 0#8 else p.getD (i - 1) 0#8) ^^^ gfMul (gfPow j) (p.getD i 0#8)) [1#8]
  (g.take 4).reverse

/-- The codeword of 16 data symbols m_0 to m_15: p_0 to p_3, then the data (R390). -/
def rsEncode (m : List Byte) : List Byte :=
  (m.reverse.foldl (rsFeed rsGen) [0#8, 0#8, 0#8, 0#8]).reverse ++ m

/-- What the decoder finds in one codeword (R392): corrected symbols as (coefficient, value), or uncorrectable. -/
inductive RsResult
  | ok (fixes : List (Nat × Byte))
  | bad
deriving DecidableEq, Repr

/-- The pattern of errors at coefficients e and f (e < f) with the given syndromes, if there is one. -/
def rsPair (sy : List Byte) (e f : Nat) : Option (List (Nat × Byte)) :=
  let s := fun i => sy.getD i 0#8
  let x := gfPow e
  let y := gfPow f
  let v := gfMul (s 1 ^^^ gfMul (s 0) x) (gfInv (x ^^^ y))
  let u := s 0 ^^^ v
  let fits := (List.range 4).all fun j => s j == gfMul u (gfPow (j * e)) ^^^ gfMul v (gfPow (j * f))
  if fits then some ([(e, u), (f, v)].filter fun (_, w) => w ≠ 0#8) else none

/-- The decoder of R392, from the four syndromes. -/
def rsDecode (sy : List Byte) : RsResult :=
  if sy.all (· == 0#8) then .ok []
  else
    match ((List.range 20).flatMap fun e => (List.range (19 - e)).map fun d => (e, e + 1 + d)).findSome? fun (e, f) => rsPair sy e f with
    | some fixes => .ok fixes
    | none => .bad

/-- The device that carries coefficient e (Table 16.1). -/
def rsDevice (e : Nat) : Nat :=
  match e with
  | 0 => 8 | 1 => 9 | 2 => 18 | 3 => 19
  | _ => if e < 12 then e - 4 else e - 2

/-- Codeword i of a transfer: byte i of each device's burst, by coefficient (R391). -/
def codeword (t : Bytes) (i : Nat) : List Byte := (List.range 20).map fun e => t.getD (8 * rsDevice e + i) 0#8

/-- The codeword of the poison pattern (R393). -/
def poisonWord : List Byte := [0x50#8, 0x4F#8, 0x49#8, 0x53#8] ++ List.replicate 16 0#8

/-- The 160 bytes of a transfer, by device, from its eight codewords. -/
def transferOf (words : List (List Byte)) : Bytes :=
  (List.range 160).map fun k =>
    match (List.range 20).find? fun e => rsDevice e = k / 8 with
    | some e => (words.getD (k % 8) []).getD e 0#8
    | none => 0#8

/-- The transfer of a record's 128 bytes (R390, R391). -/
def encodeRecord (data : Bytes) : Bytes :=
  transferOf ((List.range 8).map fun i => rsEncode ((List.range 16).map fun d => data.getD (i + 8 * d) 0#8))

/-- The transfer of a poisoned record (R393). -/
def poisonTransfer : Bytes := transferOf (List.replicate 8 poisonWord)

/-- What a transfer decodes to: poison, or the corrections of each codeword with the mask of uncorrectable ones. -/
inductive VaultDecode
  | poison
  | ok (fixes : List (Nat × Nat))
  | bad (codewords : Nat)
deriving DecidableEq, Repr

/-- The decoder of a whole transfer: poison first, then the eight codewords (R392, R393). Corrections are listed as
(codeword, device). -/
def decodeTransfer (t : Bytes) : VaultDecode :=
  let sy := (List.range 8).map fun i => syndromes (codeword t i)
  if sy.all (· == syndromes poisonWord) then .poison
  else
    let rs := sy.map rsDecode
    let bad := (List.range 8).foldl (fun m i => if rs.getD i .bad = .bad then m + 2 ^ i else m) 0
    if bad = 0 then
      .ok ((List.range 8).flatMap fun i =>
        match rs.getD i .bad with | .ok fixes => fixes.map fun (e, _) => (i, rsDevice e) | .bad => [])
    else .bad bad

/-- Position p(j) of data bit j: the (j+1)-th integer from 3 up that is no power of two (R394). -/
def hamPos (j : Nat) : Nat := ((List.range 200).filter fun n => 3 ≤ n ∧ 2 ^ n.log2 ≠ n).getD j 0

/-- Check bits c_0 to c_r of a word of n data bits (R394). -/
def hamEncode (n r : Nat) (d : Nat) : Nat :=
  let c := (List.range r).foldl (fun c i =>
    if ((List.range n).filter fun j => d.testBit j ∧ (hamPos j).testBit i).length % 2 = 1 then c + 2 ^ i else c) 0
  let ones := ((List.range n).filter d.testBit).length + ((List.range r).filter c.testBit).length
  if ones % 2 = 1 then c + 2 ^ r else c

/-- The decoder of R394 on received data and check bits: the corrected data, or none when uncorrectable. -/
def hamDecode (n r : Nat) (d c : Nat) : Option Nat :=
  let s := (hamEncode n r d ^^^ c) % 2 ^ r
  let q := (((List.range n).filter d.testBit).length + ((List.range (r + 1)).filter c.testBit).length) % 2
  if q = 0 then (if s = 0 then some d else none)
  else if s = 0 ∨ 2 ^ s.log2 = s then some d
  else match (List.range n).find? fun j => hamPos j = s with
    | some j => some (d ^^^ 2 ^ j)
    | none => none

/-- The parity q of a received word of n data bits and r + 1 check bits is odd: the decoder has corrected a bit of it, or the word is
uncorrectable (R394). -/
def hamOdd (n r : Nat) (d c : Nat) : Bool :=
  (((List.range n).filter d.testBit).length + ((List.range (r + 1)).filter c.testBit).length) % 2 == 1

/-- What a read of a 64-bit word gives (R394, R396): data as it stands, data with a bit corrected, data of the re-read, or nothing. -/
inductive WordRead
  | clean (w : Word64)
  | fixed (w : Word64)
  | transient (w : Word64)
  | bad
deriving DecidableEq, Repr

/-- The data of a read, if it gives any. -/
def WordRead.data : WordRead → Option Word64
  | .clean w | .fixed w | .transient w => some w
  | .bad => none

/-- One read of a word through its code, with bits in error: the data, if correctable, and whether a bit was corrected. -/
def secdedRead (w : Word64) (flips : BitVec 72) : Option (Word64 × Bool) :=
  if flips = 0 then some (w, false)
  else
    let d := (w ^^^ flips.extractLsb' 0 64).toNat
    let c := hamEncode 64 7 w.toNat ^^^ (flips.extractLsb' 64 8).toNat
    (hamDecode 64 7 d c).map fun x => (BitVec.ofNat 64 x, hamOdd 64 7 d c)

/-- A read of word i of a page with its single retry (R396). -/
def wordRead (flips : List WordFlips) (page i : Nat) (w : Word64) : WordRead :=
  match flips.find? fun f => f.page == page && f.word.val == i with
  | none => .clean w
  | some f =>
    match secdedRead w f.first with
    | some (x, fixed) => if fixed then .fixed x else .clean x
    | none => match secdedRead w f.again with | some (x, _) => .transient x | none => .bad

end Sys2Proof.Machine
end

