-- ==== Sys2Proof/Machine/Vault.lean ====
section
/-!
DEFINITION. The Vault's record space (chapter 15) and what chapter 16 makes of its errors: decoding of addresses,
record reads and writes with migration and failed writes, partial writes and the merge buffer, sparing candidates, and
the logging of lasting errors.
-/
namespace Sys2Proof.Machine

/-! ### Population and decoding -/

/-- Records of a rank (R363). -/
def rankRecords (v : Vault) : Nat := if v.gib = 64 then 2 ^ 29 else 2 ^ 28

/-- The rank exists in the population. -/
def rankPresent (v : Vault) (r : Nat) : Bool := r < 16 && (v.ranks == 2 || r % 2 == 0)

/-- The data ranks of a channel, ascending: every present rank but the spare (R366). -/
def dataRanks (v : Vault) (c : Nat) : List Nat :=
  [2 * c, 2 * c + 1].filter fun r => rankPresent v r && v.spare != some r

/-- K of R366: records of the data ranks of the channel with the fewest. -/
def zoneK (v : Vault) : Nat :=
  rankRecords v * (List.range 8).foldl (fun m c => min m (dataRanks v c).length) 2

/-- The channels that have two data ranks, ascending. -/
def twoRankChannels (v : Vault) : List Nat := (List.range 8).filter fun c => (dataRanks v c).length == 2

/-- Records of zone 0 and of the whole region space (R366). -/
def zone0Records (v : Vault) : Nat := 8 * zoneK v
def capacityRecords (v : Vault) : Nat := rankRecords v * (List.range 8).foldl (fun n c => n + (dataRanks v c).length) 0

/-- The physical rank of a position (R380). -/
def remapOf (v : Vault) (pos : Nat) : Nat := Tbl.get v.remap pos pos

/-- Position of the data rank and record index in the rank of a region-space record: vault_decode of R367. -/
def decodeRecord (v : Vault) (a : Nat) : Nat × Nat :=
  let k := zoneK v
  let (c, j) := if a < 8 * k then (a % 8, a / 8)
    else ((twoRankChannels v).getD ((a - 8 * k) % 7) 0, k + (a - 8 * k) / 7)
  let ds := dataRanks v c
  (ds.getD (j % ds.length) 0, j / ds.length)

/-- The position whose records a physical rank holds. -/
def positionOf (v : Vault) (rank : Nat) : Option Nat := (List.range 16).find? fun p => remapOf v p == rank && v.spare != some p && rankPresent v p

/-- The region-space record of a data rank's position and record index: decodeRecord turned round. -/
def placeRecord (v : Vault) (pos u : Nat) : Nat :=
  let c := pos / 2
  let ds := dataRanks v c
  let j := ds.length * u + (if ds.head? = some pos then 0 else 1)
  if j < zoneK v then 8 * j + c
  else 8 * zoneK v + 7 * (j - zoneK v) + (twoRankChannels v).idxOf c

/-- The region-space record that record u of a physical rank holds; none for a rank that holds no position. -/
def recordAt (v : Vault) (rank u : Nat) : Option Nat := (positionOf v rank).map fun p => placeRecord v p u

/-- Bank group, bank, column and row of a record index in a rank (R367). -/
def bankOf (u : Nat) : Nat × Nat × Nat × Nat := (u % 8, u / 8 % 4, 16 * (u / 32 % 64), u / 2048)

/-- The physical rank that serves reads of a record: the spare for records below the cursor of a migration (R381). -/
def readRank (v : Vault) (a : Nat) : Nat :=
  let (pos, u) := decodeRecord v a
  if v.spareSt = .migrating ∧ remapOf v pos = v.spareSrc ∧ u < v.cursor then v.spare.getD 0 else remapOf v pos

/-- The physical ranks that a write goes to: both copies while migration runs (R381). -/
def writeRanks (v : Vault) (a : Nat) : List Nat :=
  let r := remapOf v (decodeRecord v a).1
  if v.spareSt = .migrating ∧ r = v.spareSrc then [r, v.spare.getD 0] else [r]

/-- The channel that serves a record: that of its physical rank. -/
def chanOf (v : Vault) (a : Nat) : Nat := readRank v a / 2

/-- Key of a record of a physical rank in the contents. -/
def cellKey (rank u : Nat) : Nat := 2 ^ 29 * rank + u

/-- What a record of a physical rank holds. -/
def cellAt (v : Vault) (rank u : Nat) : VCell := Tbl.get v.mem (cellKey rank u) (.data Rec.empty)

/-- The contents with a record of a physical rank replaced. -/
def setCell (v : Vault) (rank u : Nat) (c : VCell) : Vault :=
  { v with mem := Tbl.set v.mem (cellKey rank u) (.data Rec.empty) c }

/-- Region-space record of a flow-table slot (R366). -/
def ftRecord (v : Vault) (slot : Nat) : Nat := (v.regions.getD v.ftRegion {}).base * 2 ^ 20 + slot

/-- Slots of a quarter of the flow table (R123). -/
def quarter (v : Vault) : Nat := 2 ^ (v.ftLog2 - 2)

/-- The region that holds a region-space record. -/
def regionOf (v : Vault) (a : Nat) : Option (Nat × Region) :=
  (v.regions.zipIdx.find? fun (r, _) => r.base * 2 ^ 20 ≤ a ∧ a < (r.base + r.size) * 2 ^ 20).map fun (r, i) => (i, r)

/-! ### Record reads and writes -/

/-- What a read of a record of a physical rank returns: poison for one of the failed-write list (R378). -/
def peekCell (s : State) (rank u : Nat) : VCell :=
  if (s.chanAt (rank / 2)).fwl.contains (cellKey rank u) then .poison else cellAt s.vault rank u

/-- What a read of a record returns, before any operation count. -/
def peekRecord (s : State) (a : Nat) : VCell := peekCell s (readRank s.vault a) (decodeRecord s.vault a).2

/-- The channel of a record serves requests now (R374, R425). -/
def chanServes (s : State) (a : Nat) : Bool := (s.chanAt (chanOf s.vault a)).st == .service && s.treas.brown != .holdSr

/-- Classes of Table 6.2. -/
inductive VClass | fill | writeBack | mirror | sweep | granted
deriving DecidableEq, Repr

/-- Number of a class (Table 6.2). -/
def VClass.code : VClass → Nat
  | .fill => 1 | .writeBack => 2 | .mirror => 3 | .sweep => 4 | .granted => 5

/-- An operation of a class on channel c, counted in its unit (Table 20.6) and in the share of class 4 (R142). -/
def noteVaultOp (c : Nat) (k : VClass) (s : State) : State :=
  let s := if k = .fill then perf (uVault c) 0x03 s else if k = .granted then perf (uVault c) 0x04 s else s
  s.modChan c fun x => { x with lastReq := s.time.tick, sweepGap := if k = .sweep then 0 else min 127 (x.sweepGap + 1) }

/-- Two records lie in one bank of one rank, and in one row of it (R367). -/
def sameBank (rank u rank' u' : Nat) : Bool := rank == rank' && u % 32 == u' % 32
def sameRow (rank u rank' u' : Nat) : Bool := sameBank rank u rank' u' && u / 2048 == u' / 2048

/-- In-order mode (R368): a read whose bank and row match those of a queued write finds every write queued to that bank made
first. -/
def inOrder (rank u : Nat) (s : State) : State :=
  let c := rank / 2
  if (s.chanAt c).writes.any fun w => sameRow w.rank w.rec_ rank u then
    s |> (·.modChan c fun x => { x with writes := x.writes.filter fun w => !sameBank w.rank w.rec_ rank u })
      |> bump (Reg.VAULT_CH_INORDER_CNT c) |> perf (uVault c) 0x05
  else s

/-- A read of a record of a physical rank (R368, R389). -/
def chanRead (rank u : Nat) (k : VClass) (s : State) : State :=
  s |> inOrder rank u |> bump64 (Reg.VAULT_CH_RD_OPS_LO (rank / 2)) 1 |> perf (uVault (rank / 2)) 0x01 |> noteVaultOp (rank / 2) k

/-- A write of a record of a physical rank is posted in its channel's buffer (R369, R389). -/
def chanWrite (rank u b : Nat) (k : VClass) (s : State) : State :=
  s |> (·.modChan (rank / 2) fun x => { x with writes := x.writes ++ [⟨rank, u, k.code, b⟩] })
    |> bump64 (Reg.VAULT_CH_WR_OPS_LO (rank / 2)) 1 |> perf (uVault (rank / 2)) 0x02 |> noteVaultOp (rank / 2) k

/-- A record read is counted: in the channel, and in the Branch of the flow table for classes 1 to 4 (R389, R149). -/
def countRead (a : Nat) (b : Nat) (k : VClass) (s : State) : State :=
  let s := chanRead (readRank s.vault a) (decodeRecord s.vault a).2 k s
  if k = .granted then s else bump64 (Reg.TILL_FT_RD_OPS_LO b) 1 s

/-- A record write is posted and counted likewise, in the channel of each copy (R381). -/
def countWrite (a : Nat) (b : Nat) (k : VClass) (s : State) : State :=
  let u := (decodeRecord s.vault a).2
  let s := (writeRanks s.vault a).foldl (fun s r => chanWrite r u b k s) s
  if k = .granted then s else bump64 (Reg.TILL_FT_WR_OPS_LO b) 1 s

/-! ### Occupancy of the flow table -/

/-- The flow-table slot of a region-space record. -/
def slotOf (v : Vault) (a : Nat) : Option Nat :=
  let base := ftRecord v 0
  if v.ftLog2 ≠ 0 ∧ base ≤ a ∧ a < base + 2 ^ v.ftLog2 then some (a - base) else none

/-- A claim holds a slot (R130): of a record in the Till, or of a fill that waits for a way. -/
def slotClaimed (s : State) (slot : Nat) : Bool :=
  let l := s.ledgerAt (slot / quarter s.vault)
  (l.ways.any fun (_, w) => w.claim.isSome && w.slot == slot) ||
    l.miss.any fun e => match e.stage with | .noway f => f.claim.isSome && f.slot == slot | _ => false

/-- STATE of W0 (Table 5.2). -/
def rcState (r : Rec) : Nat := wbits (wordAt r 0) 35 32

/-- A slot that TILL_FT_OCC counts: it holds an ONEWAY, BOTH or CLOSING record, or it is claimed. -/
def slotCounted (s : State) (slot : Nat) : Bool :=
  slotClaimed s slot || match peekRecord s (ftRecord s.vault slot) with
    | .data r => rcState r == 1 || rcState r == 2 || rcState r == 3
    | .poison => false

/-- The occupancy threshold of a quarter (R511). -/
def occThreshold (s : State) : Nat := min 1000 (fieldOf s (Reg.TILL_FT_OCC_LIMIT 0) 9 0) * quarter s.vault / 1000

/-- The occupancy of a quarter changes; a rise from at or below the threshold to above it sets OCC_HIGH (R511). -/
def setOcc (b n : Nat) (s : State) : State :=
  let old := (s.ledgerAt b).occ
  let s := s.modLedger b fun l => { l with occ := n }
  if old ≤ occThreshold s ∧ occThreshold s < n then cause (Reg.TILL_FT_IRQ_CAUSE b) 5 s else s

/-- A change that may bring a slot into the count or out of it. -/
def occStep (slot : Nat) (f : State → State) (s : State) : State :=
  let before := slotCounted s slot
  let s := f s
  let b := slot / quarter s.vault
  match before, slotCounted s slot with
  | false, true => setOcc b ((s.ledgerAt b).occ + 1) s
  | true, false => setOcc b ((s.ledgerAt b).occ - 1) s
  | _, _ => s

/-- A record's content is replaced in every copy: it takes the record off the failed-write list and discards an open merge entry
(R378, R381, R402). -/
def storeCell (a : Nat) (cell : VCell) (s : State) : State :=
  let u := (decodeRecord s.vault a).2
  let ranks := writeRanks s.vault a
  let s := { s with vault := ranks.foldl (fun v r => setCell v r u cell) s.vault }
  let s := ranks.foldl (fun s r => s.modChan (r / 2) fun x => { x with fwl := x.fwl.filter (· ≠ cellKey r u) }) s
  s.modChan (chanOf s.vault a) fun x => { x with merge := x.merge.filter (·.record ≠ a) }

/-- A full-record write, with the occupancy of the flow table (R511). -/
def storeRecord (a : Nat) (cell : VCell) (s : State) : State :=
  match slotOf s.vault a with
  | some slot => occStep slot (storeCell a cell) s
  | none => storeCell a cell s

/-- A counted full-record write. -/
def writeRecord (a b : Nat) (k : VClass) (r : Rec) (s : State) : State := s |> countWrite a b k |> storeRecord a (.data r)

/-! ### Sparing -/

/-- SPARE Sillage payload (Table 15.6). -/
def sparePayload (s : State) (st : Nat) : Nat :=
  st + 2 ^ 4 * s.vault.spareSrc + 2 ^ 8 * s.vault.spare.getD 0 + 2 ^ 12 * s.vault.spareCause

def SpareState.code : SpareState → Nat
  | .none => 0 | .ready => 1 | .migrating => 2 | .done => 3 | .aborted => 4

/-- A rank becomes a sparing candidate (R379): causes 1 CE rate, 2 uncorrectable data, 3 CA parity, 4 retraining,
5 software. -/
def candidate (rank why : Nat) (s : State) : State :=
  let s := s.modChan (rank / 2) fun x => { x with candidates := x.candidates ||| 2 ^ (rank % 2) }
  if s.vault.spareSt = .ready ∧ (flagOf s Reg.VAULT_SPARE_CFG 31 = true ∨ why = 5) ∧ s.vault.spare ≠ some rank then
    let s := { s with vault := { s.vault with spareSt := .migrating, spareSrc := rank, spareCause := why, cursor := 0 } }
    s |> stamp Reg.VAULT_SPARE_START_SEC Reg.VAULT_SPARE_START_NS |> cause Reg.VAULT_IRQ_CAUSE 1
      |> emit 0x00E 0x64 (sparePayload s 2)
  else s |> cause Reg.VAULT_SPARE_STATUS rank |> cause Reg.VAULT_IRQ_CAUSE 3

/-- The migration ends ABORTED: reads return to the failing rank (R382). -/
def spareAbort (s : State) : State :=
  let s := { s with vault := { s.vault with spareSt := .aborted } }
  s |> cause Reg.VAULT_IRQ_CAUSE 4 |> emit 0x00E 0x64 (sparePayload s 4)

/-- A lasting error of a rank that is no uncorrectable data (R377, R378): it ends a migration to it (R382), and otherwise makes the
rank a candidate (R379). -/
def rankLasting (rank why : Nat) (s : State) : State :=
  if s.vault.spareSt = .migrating ∧ s.vault.spare = some rank then spareAbort s else candidate rank why s

/-! ### Errors -/

/-- An error is logged in AER: bit i of the uncorrectable status, or of the correctable one, with its record (Table 19.8). -/
def aer (i : Nat) (corr : Bool) (s : State) : State :=
  let p := s.pcie
  let p := if corr then { p with aerCorr := p.aerCorr ||| 2 ^ i } else { p with aerUncorr := p.aerUncorr ||| 2 ^ i }
  { s with pcie := p } |> emit 0x006 0x7D (i + 2 ^ 5 * b2n corr)

/-- Uncorrectable Internal Error: bit 22 of the PCIe uncorrectable error status register. -/
def aerInternal (s : State) : State := aer 22 false s

/-- AUDIT_UE_INFO.REQUESTER of an access. -/
def accessCode : VaultAccess → Nat
  | .auditor => 0 | .ledger => 1 | .teller _ => 2 | .host => 3 | .migration => 4 | .peer => 5 | .partWrite => 6

def accessTeller : VaultAccess → Nat
  | .teller t => t.val | _ => 0

/-- AUDIT_UE_INFO, address and time of a lasting error (R397, R399). -/
def logUe (info addr : Nat) (s : State) : State :=
  s |> regStore Reg.AUDIT_UE_INFO (BitVec.ofNat 32 (2 ^ 31 + info)) |> setPair Reg.AUDIT_UE_ADDR_LO addr
    |> stamp Reg.AUDIT_UE_SEC Reg.AUDIT_UE_NS

/-- A lasting uncorrectable read of a record of a physical rank (R397): counts, log, cause, Sillage and the trigger of
R379. A lasting error on the spare while it receives a migration aborts it (R382). -/
def noteLasting (rank a : Nat) (user : VaultAccess) (words : Nat) (s : State) : State :=
  let n := (regRead s (Reg.AUDIT_RANK_UE rank)).toNat
  let s := s |> tally (Reg.AUDIT_RANK_UE rank) |> bump Reg.AUDIT_VAULT_UE_LASTING_CNT
    |> logUe (2 ^ 24 * rank + 2 ^ 16 * accessCode user + accessTeller user) (128 * a) |> cause Reg.AUDIT_IRQ_CAUSE 6
    |> emit (srcVaultCh (rank / 2)) 0x68 (1 + 2 * accessCode user + 2 ^ 4 * rank + 2 ^ 8 * a + 2 ^ 44 * words)
  if s.vault.spareSt = .migrating ∧ s.vault.spare = some rank then spareAbort s
  else if n < max 1 (fieldOf s Reg.VAULT_SPARE_CFG 23 16) ∧ max 1 (fieldOf s Reg.VAULT_SPARE_CFG 23 16) ≤ n + 1 then
    candidate rank 2 s
  else s

/-- The record is poisoned and its lasting error reported (R397). -/
def vaultLasting (a : Nat) (user : VaultAccess) (words : Nat) (s : State) : State :=
  s |> storeRecord a .poison |> noteLasting (readRank s.vault a) a user words

/-- An uncorrectable read that its retry has cleared (R396): it is counted and reported. -/
def noteTransient (rank a : Nat) (user : VaultAccess) (words : Nat) (s : State) : State :=
  s |> bump Reg.AUDIT_VAULT_UE_TRANS_CNT
    |> emit (srcVaultCh (rank / 2)) 0x68 (2 * accessCode user + 2 ^ 4 * rank + 2 ^ 8 * a + 2 ^ 44 * words)

/-- Corrected symbols count at their devices, and a device that passes CE_PER_MIN in its window makes its rank a
candidate, once in the window (R379, R392). -/
def countFix (rank dev : Nat) (s : State) : State :=
  let c := rank / 2
  let i := 20 * (rank % 2) + dev
  let s := s |> tally (Reg.VAULT_CH_DEV_CE c i) |> perf (uVault c) 0x07
  let n := Tbl.get (s.chanAt c).ce i 0 + 1
  let s := s.modChan c fun x => { x with ce := Tbl.set x.ce i 0 n }
  let limit := fieldOf s Reg.VAULT_SPARE_CFG 7 0
  if limit ≠ 0 ∧ limit < n ∧ i ∉ (s.chanAt c).ceOver then
    s |> (·.modChan c fun x => { x with ceOver := i :: x.ceOver }) |> cause (Reg.VAULT_CH_IRQ_CAUSE c) 4 |> emit (srcVaultCh c) 0x69 (rank + 2 ^ 4 * dev + 2 ^ 9 * capAt 0x7FFF n)
      |> candidate rank 1
  else s

/-- XOR of two byte strings of 160 bytes. -/
def xorBytes (x y : Bytes) : Bytes := (List.range 160).map fun i => x.getD i 0#8 ^^^ y.getD i 0#8

/-- The transfer that a record's content makes (R390, R393). -/
def cellTransfer : VCell → Bytes
  | .data r => encodeRecord (r.toList.flatMap fun w => leBytes 8 w.toNat)
  | .poison => poisonTransfer

/-! ### Partial writes and the merge buffer -/

/-- Bytes of a record. -/
def recBytes (r : Rec) : Bytes := r.toList.flatMap fun w => leBytes 8 w.toNat

/-- The record of 128 bytes. -/
def bytesRec (b : Bytes) : Rec := Vector.ofFn fun i : Fin 16 => BitVec.ofNat 64 (leAt b (8 * i.val) 8)

/-- A record with gathered bytes merged in, by offset. -/
def mergeBytes (r : Rec) (m : Tbl Byte) (have_ : List Nat) : Rec :=
  let b := recBytes r
  bytesRec ((List.range 128).map fun i => if have_.contains i then Tbl.get m i 0 else b.getD i 0)

/-- The writers of a refused partial write are told (R401): a Teller takes a POISON micro-trap at its next fence, with
the byte address; a host write is logged in VAULT_WIN_ERR_ADDR with its cause (R386) and as an Uncorrectable Internal
Error (R401, log entry 12). `lo` is the lowest refused byte within the record. -/
def refusePartial (a lo : Nat) (host : Bool) (tellers : List (Nat × Nat)) (s : State) : State :=
  let c := chanOf s.vault a
  let t := match tellers with | (t, _) :: _ => t | [] => 0
  let s := s |> bump Reg.AUDIT_PARTIAL_FAIL_CNT |> cause Reg.AUDIT_IRQ_CAUSE 5
    |> emit (srcVaultCh c) 0x6F (a + 2 ^ 36 * b2n host + 2 ^ 37 * b2n (!tellers.isEmpty) + 2 ^ 38 * t)
  let s := if host then s |> setPair Reg.VAULT_WIN_ERR_ADDR_LO (128 * a + lo) |> cause Reg.VAULT_IRQ_CAUSE 6
      |> emit 0x00E 0x65 (1 + 2 ^ 8 * (128 * a + lo)) |> aerInternal else s
  tellers.foldl (fun s (t, addr) => s.modTeller t fun x =>
    { x with mem := x.mem ++ [{ id := x.nextMem, mop := 3, msel := 0, addr := addr, poisoned := true }], nextMem := x.nextMem + 1 }) s

/-- Class and Branch of a partial write: class 1 for a Teller's store, class 5 for the host's (R167, R384). -/
def partClass (tellers : List (Nat × Nat)) : VClass × Nat :=
  match tellers with | (t, _) :: _ => (.fill, t / 32) | [] => (.granted, 0)

/-- One read, merge and full-record write (R401). -/
def rmwRecord (a : Nat) (m : Tbl Byte) (have_ : List Nat) (host : Bool) (tellers : List (Nat × Nat)) (s : State) : State :=
  let (k, b) := partClass tellers
  let s := countRead a b k s
  match peekRecord s a with
  | .data r => s |> countWrite a b k |> storeRecord a (.data (mergeBytes r m have_))
  | .poison => s |> bump Reg.AUDIT_POISON_READ_CNT |> refusePartial a (have_.foldl min 127) host tellers

/-- An entry of the merge buffer closes: as a full write when its bytes cover the record, else as one RMW (R402). -/
def closeMerge (c : Nat) (e : MergeEntry) (s : State) : State :=
  let s := s.modChan c fun x => { x with merge := x.merge.filter (·.record ≠ e.record) }
  if (List.range 128).all e.have_.contains then
    s |> bump Reg.AUDIT_MERGE_FULL_CNT |> countWrite e.record (partClass e.tellers).2 (partClass e.tellers).1
      |> storeRecord e.record (.data (mergeBytes Rec.empty e.bytes e.have_))
  else s |> bump Reg.AUDIT_MERGE_RMW_CNT |> rmwRecord e.record e.bytes e.have_ e.host e.tellers

/-- A read of a record first closes its open merge entry (R402). -/
def settleMerge (a : Nat) (s : State) : State :=
  let c := chanOf s.vault a
  match (s.chanAt c).merge.find? (·.record = a) with
  | some e => closeMerge c e s
  | none => s

/-- The bytes of a partial write laid over a merge entry, later bytes replacing earlier ones. -/
def gather (e : MergeEntry) (off : Nat) (data : List (Option Byte)) : MergeEntry :=
  data.zipIdx.foldl (fun e (x, i) =>
    match x with
    | some b => { e with bytes := Tbl.set e.bytes (off + i) 0 b, have_ := if e.have_.contains (off + i) then e.have_ else e.have_ ++ [off + i] }
    | none => e) e

/-- A partial write of bytes at an offset of a record, by the host or a Teller, under its region's mode (R401, R402). -/
def partialWrite (a off : Nat) (data : List (Option Byte)) (host : Bool) (teller : Option (Nat × Nat)) (s : State) : State :=
  let merge := match regionOf s.vault a with | some (_, r) => r.merge | none => false
  let c := chanOf s.vault a
  if merge then
    match (s.chanAt c).merge.find? (·.record = a) with
    | some e =>
      let e := { gather e off data with host := e.host || host, tellers := e.tellers ++ teller.toList }
      let s := s.modChan c fun x => { x with merge := updFirst (fun y => y.record == a) (fun _ => e) x.merge }
      if (List.range 128).all e.have_.contains then closeMerge c e s else s
    | none =>
      let s := match (s.chanAt c).merge with
        | old :: _ => if 64 ≤ (s.chanAt c).merge.length then closeMerge c old (bump Reg.AUDIT_MERGE_EARLY_CNT s) else s
        | [] => s
      let e := { gather { record := a, openAt := s.time.tick } off data with host := host, tellers := teller.toList }
      let s := s.modChan c fun x => { x with merge := x.merge ++ [e] }
      if (List.range 128).all e.have_.contains then closeMerge c e s else s
  else
    let e := gather { record := a, openAt := 0 } off data
    rmwRecord a e.bytes e.have_ host teller.toList s

/-- MERGE_WINDOW_EXPIRY (R402): the 1 µs window of an open entry has ended. -/
def mergeExpiry (c record : Nat) (s : State) : State :=
  match (s.chanAt c).merge.find? (·.record = record) with
  | some e => if us 1 ≤ since s e.openAt then closeMerge c e s else s
  | none => s

def execMergeWindowExpiry (c : Fin 8) (record : Nat) (s : State) : Host.Outcome State Fault Refusal :=
  .next (mergeExpiry c.val record s)

/-! ### Completion of a read -/

/-- VAULT_REQUEST_DONE (R392, R393, R396, R397): the record, its open merge entry closed (R402), is read through the symbol code with
the given errors, and read once more with those of the retry when it is uncorrectable. -/
def vaultRequestDone (a : Nat) (user : VaultAccess) (noise retryNoise : Bytes) (s : State) : State :=
  let rank := readRank s.vault a
  let s := s |> settleMerge a |> inOrder rank (decodeRecord s.vault a).2 |> bump64 (Reg.VAULT_CH_RD_OPS_LO (rank / 2)) 1
    |> perf (uVault (rank / 2)) 0x01
  let sent := cellTransfer (peekRecord s a)
  match decodeTransfer (xorBytes sent noise) with
  | .poison => bump Reg.AUDIT_POISON_READ_CNT s
  | .ok fixes => fixes.foldl (fun s (_, d) => countFix rank d s) s
  | .bad w =>
    match decodeTransfer (xorBytes sent retryNoise) with
    | .ok fixes => fixes.foldl (fun s (_, d) => countFix rank d s) s |> noteTransient rank a user w
    | .poison => vaultLasting a user w s
    | .bad w2 => vaultLasting a user w2 s

def execVaultRequestDone (record : Nat) (user : VaultAccess) (noise retryNoise : Bytes) (s : State) :
    Host.Outcome State Fault Refusal :=
  .next (if record < capacityRecords s.vault then vaultRequestDone record user noise retryNoise s else s)

/-- A read of a record, after its merge entry has closed (R402). -/
def readRecord (a b : Nat) (k : VClass) (s : State) : VCell × State :=
  let s := s |> settleMerge a |> countRead a b k
  let cell := peekRecord s a
  (cell, if cell = .poison then bump Reg.AUDIT_POISON_READ_CNT s else s)

end Sys2Proof.Machine
end

