-- ==== Sys2Proof/Machine/Errors.lean ====
section
/-!
DEFINITION. On-chip errors (chapter 16, R394 to R399), the AER error status (R452), and the Coffer of chapter 19
(R455, R457 to R460): its arbitration rounds, the accesses of software and its contents.
-/
namespace Sys2Proof.Machine

/-! ### On-chip words -/

/-- Payload of an SRAM_UE record (Table 16.7): flags 0 transient, 1 lasting, 2 rebuilt. -/
def sramPayload (mem branch addr flags : Nat) : Nat :=
  mem + 2 ^ 3 * branch + 2 ^ 5 * (addr % 2 ^ 24) + 2 ^ 29 * flags

/-- A read of a word of on-chip memory `mem` (Table 16.4): what its code found is counted and reported (R394, R396, R399;
log entry 32 for the records of transient and rebuilt words). -/
def sramEvent (mem branch addr : Nat) (e : EccResult) (s : State) : State :=
  match e with
  | .clean => s
  | .corrected => tally (Reg.AUDIT_SRAM_CE mem) s
  | .transient => s |> tally (Reg.AUDIT_SRAM_UE_TRANS mem) |> emit 0x00D 0x6A (sramPayload mem branch addr 0)
  | .rebuilt => s |> tally (Reg.AUDIT_SRAM_REBUILT mem) |> emit 0x00D 0x6A (sramPayload mem branch addr 2)
  | .lasting =>
    s |> tally (Reg.AUDIT_SRAM_UE_LASTING mem) |> logUe (2 ^ 30 + 2 ^ 28 * branch + 2 ^ 24 * mem) addr
      |> cause Reg.AUDIT_IRQ_CAUSE 2 |> emit 0x00D 0x6A (sramPayload mem branch addr 1)

/-- The code of a memory without page parity cannot rebuild a word (R395). -/
def noPage (e : EccResult) : EccResult := if e = .rebuilt then .lasting else e

/-- A read of a word of memory `mem`, which has no page code (R396, R399): whether it stays uncorrectable. -/
def sramRead (mem : Nat) (r : SramRead) (s : State) : Bool × State :=
  (noPage r.ecc == .lasting, sramEvent mem r.branch.val r.addr.toNat (noPage r.ecc) s)

/-! ### Pages (R395, R407) -/

/-- A page of 64 words of memory `mem`: its number, what the array holds in word i (none for a word whose content is lost), and what
a store and a loss of word i do. -/
structure Page where
  mem : Nat
  branch : Nat
  num : Nat
  held : Nat → Option Word64
  put : Nat → Word64 → State → State
  lose : Nat → State → State

/-- The parity word: the XOR of the page's words (R395). -/
def Page.parity (g : Page) : Word64 := (List.range 64).foldl (fun a i => a ^^^ (g.held i).getD 0) 0

/-- Word i of the page as it is read, 64 for the parity word; a lost word stays uncorrectable. -/
def Page.readAt (g : Page) (flips : List WordFlips) (i : Nat) : WordRead :=
  if i = 64 then wordRead flips g.num 64 g.parity
  else match g.held i with | some w => wordRead flips g.num i w | none => .bad

/-- Words that stay uncorrectable after their retry. -/
def Page.bad (g : Page) (flips : List WordFlips) : List Nat := (List.range 65).filter fun i => g.readAt flips i == .bad

/-- A page's only uncorrectable word as the XOR of the other 64 (R395). -/
def Page.rebuild (g : Page) (flips : List WordFlips) (i : Nat) : Word64 :=
  ((List.range 65).filter (· != i)).foldl (fun a j => a ^^^ ((g.readAt flips j).data.getD 0)) 0

/-- Word address of a word in its memory; the parity word is reported at its page's first (DESIGN CHOICE, log entry 131). -/
def Page.addr (g : Page) (i : Nat) : Nat := 64 * g.num + i % 64

/-- One word of a page read: corrected in place, re-read, rebuilt when it alone is bad, or lost (R394 to R396, R399); content that
has been lost before stays so until it is written. A rebuilt
parity word needs no store, since it is the XOR of the words. -/
def Page.readWord (g : Page) (flips : List WordFlips) (i : Nat) (s : State) : State :=
  match g.readAt flips i with
  | .clean _ => s
  | .fixed w => s |> sramEvent g.mem g.branch (g.addr i) .corrected |> fun s => if i < 64 then g.put i w s else s
  | .transient _ => sramEvent g.mem g.branch (g.addr i) .transient s
  | .bad =>
    if g.bad flips = [i] ∧ (i = 64 ∨ (g.held i).isSome) then
      s |> sramEvent g.mem g.branch (g.addr i) .rebuilt |> fun s => if i < 64 then g.put i (g.rebuild flips i) s else s
    else s |> sramEvent g.mem g.branch (g.addr i) .lasting |> fun s => if i < 64 then g.lose i s else s

/-- Every word of a page read (R407). -/
def Page.readAll (g : Page) (flips : List WordFlips) (s : State) : State := (List.range 65).foldl (fun s i => g.readWord flips i s) s

/-! ### Completions of host accesses -/

/-- The last host access completed with data. -/
def complete (data : Bytes) (s : State) : State := { s with out := { s.out with ok := true, data := data, ep := false } }

/-- The last host access completed with Unsupported Request. -/
def unsupported (s : State) : State := { s with out := { s.out with ok := false, data := [], ep := false } }

/-! ### Rounds of the Coffer -/

/-- A memory operation outstanding at a Teller. -/
def memOp (s : State) (t op : Nat) : Option MemOp := (s.tellerAt t).mem.find? (·.id = op)

def modMem (t op : Nat) (f : MemOp → MemOp) (s : State) : State :=
  s.modTeller t fun x => { x with mem := updFirst (fun m => m.id == op) f x.mem }

def dropMem (t op : Nat) (s : State) : State := s.modTeller t fun x => { x with mem := delFirst (fun m => m.id == op) x.mem }

/-- The requests that a round serves: every request to the word, of each Teller only its oldest (R159, R457). -/
def roundReqs (word : Nat) : List CofferReq → List Nat → List CofferReq
  | [], _ => []
  | q :: rest, seen =>
    if q.word = word then
      if q.teller ∈ seen then roundReqs word rest seen else q :: roundReqs word rest (q.teller :: seen)
    else roundReqs word rest seen

/-- The operation is a store to the Coffer, which needs no reply. -/
def isStore (mop : Nat) : Bool := mop == 3 || mop == 4

/-- A request's answer is kept with its operation. -/
def answerCoffer (q : CofferReq) (v : Word64) (s : State) : State :=
  modMem q.teller q.op (fun m => if q.half = 0 then { m with lo := some v } else { m with hi := some v }) s

/-- A request is answered poisoned: the operation's later use traps (R175). -/
def poisonCoffer (q : CofferReq) (s : State) : State := modMem q.teller q.op (fun m => { m with poisoned := true }) s

/-- A half of a store has been made: the store ends with its last half (R159). -/
def endStore (q : CofferReq) (s : State) : State :=
  if s.coffer.pending.any fun r => r.teller == q.teller && r.op == q.op then s else dropMem q.teller q.op s

/-- One request within a round (R458): `old` is the word before the round and `cur` as the requests before this one left
it, none for a word whose content is lost (R399). -/
def roundStep (old : Option Word64) (q : CofferReq) (cur : Option Word64) (s : State) : Option Word64 × State :=
  match memOp s q.teller q.op with
  | none => (cur, s)
  | some m =>
    match m.mop with
    | 3 | 4 => (some (if q.half = 0 then m.data else m.data2), endStore q s)
    | 5 => (match cur with | some v => (some (v + m.data), answerCoffer q v s) | none => (none, poisonCoffer q s))
    | 6 => (match cur with | some v => (some m.data, answerCoffer q v s) | none => (none, poisonCoffer q s))
    | 7 =>
      match cur with
      | some v =>
        (some (if v = m.arg then m.data else v),
          s |> answerCoffer q v |> modMem q.teller q.op fun m => { m with stored := v = m.arg })
      | none => (none, poisonCoffer q s)
    | _ => (cur, match old with | some v => answerCoffer q v s | none => poisonCoffer q s)

/-- The operation of a request changes the word. -/
def modifies (s : State) (q : CofferReq) : Bool :=
  match memOp s q.teller q.op with | some m => 3 ≤ m.mop | none => false

/-- The requests of a round in the order of R458: plain reads, then modifying requests in ascending Teller number. -/
def roundOrder (s : State) (qs : List CofferReq) : List CofferReq :=
  qs.filter (!modifies s ·) ++
    (List.range 128).flatMap fun t => qs.filter fun q => modifies s q && q.teller == t

/-- The word of the Coffer that the array holds; none when its content is lost. -/
def cofferHeld (s : State) (i : Nat) : Option Word64 := if i ∈ s.coffer.poison then none else some (cofferWord s i)

/-- The array takes a word, or marks it lost. -/
def cofferStore (i : Nat) (v : Option Word64) (s : State) : State :=
  match v with
  | some x => setCofferWord i x s
  | none => if i ∈ s.coffer.poison then s else { s with coffer := { s.coffer with poison := s.coffer.poison ++ [i] } }

/-- Page g of the Coffer (R395). -/
def cofferPage (s : State) (g : Nat) : Page :=
  { mem := 1, branch := 0, num := g, held := fun i => cofferHeld s (64 * g + i), put := fun i w => setCofferWord (64 * g + i) w,
    lose := fun i => cofferStore (64 * g + i) none }

/-- The array read of a round: the word, and what its code found; a word that stays uncorrectable has its whole page read to rebuild
it (R395, R399). A lost word stays lost. -/
def cofferRead (i : Nat) (flips : List WordFlips) (s : State) : Option Word64 × State :=
  let g := cofferPage s (i / 64)
  match g.readAt flips (i % 64) with
  | .bad =>
    let s := g.readAll flips s
    (cofferHeld s i, s)
  | r => (r.data, g.readWord flips (i % 64) s)

/-- The round of a word serves the Tellers' requests to it, then applies software's change (R458). A round of stores alone
reads nothing. While PD27 is not ON loads and atomics are poisoned and stores discarded (R413). -/
def cofferRoundOn (i : Nat) (flips : List WordFlips) (reads : Bool) (soft : Option Word64 → Option Word64) (s : State) : Option Word64 × State :=
  let qs := roundReqs i s.coffer.pending []
  let needs := reads || qs.any fun q => match memOp s q.teller q.op with | some m => !isStore m.mop | none => false
  let (old, s) := if needs then cofferRead i flips s else (cofferHeld s i, s)
  let order := roundOrder s qs
  let s := { s with coffer := { s.coffer with pending := s.coffer.pending.filter fun q => q ∉ qs } }
  let (cur, s) := order.foldl (fun (cur, s) q => roundStep old q cur s) (old, s)
  let last := soft cur
  (old, if last = old then s else cofferStore i last s)

/-- Requests pending while the Coffer is not ON (R413). -/
def cofferOff (s : State) : State :=
  let qs := s.coffer.pending
  let s := { s with coffer := { s.coffer with pending := [] } }
  qs.foldl (fun s q =>
    match memOp s q.teller q.op with
    | some m => if isStore m.mop then dropMem q.teller q.op s else poisonCoffer q s
    | none => s) (if qs.isEmpty then s else cause Reg.TOP_COFFER_IRQ_CAUSE 0 s)

/-- COFFER_ROUND (R457): the oldest pending request and every other to its word. -/
def cofferRound (flips : List WordFlips) (s : State) : State :=
  if !domOn s 27 then cofferOff s
  else
    match s.coffer.pending with
    | [] => s
    | q :: _ => (cofferRoundOn q.word flips false id s).2

def execCofferRound (flips : List WordFlips) (s : State) : Host.Outcome State Fault Refusal := .next (cofferRound flips s)

/-! ### Software's accesses through BAR2 (Table 19.2) -/

/-- The offset's row of Table 19.2: 0 Coffer, 1 set alias, 2 clear alias. -/
def cofferRow (off : Nat) : Nat := off / 0x200000

/-- An access lies within one row of the Coffer and its aliases. -/
def inCofferRow (off len : Nat) : Bool := cofferRow off < 3 && 0 < len && cofferRow (off + len - 1) == cofferRow off

/-- Words that the bytes from offset a on touch. -/
def wordsOf (a len : Nat) : List Nat := (List.range ((a + len + 7) / 8 - a / 8)).map (a / 8 + ·)

/-- COFFER_HOST_READ (R455, R457): one round for each word; a lost word makes the completion poisoned (R399). -/
def cofferHostRead (off len : Nat) (flips : List WordFlips) (s : State) : State :=
  if !inCofferRow off len || 512 < len then unsupported (if cofferRow off = 1 ∨ cofferRow off = 2 then cause Reg.TOP_COFFER_IRQ_CAUSE 1 s else s)
  else if !domOn s 27 then unsupported (cause Reg.TOP_COFFER_IRQ_CAUSE 0 s)
  else
    let a := off % 0x200000
    let (vs, lost, s) := (wordsOf a len).foldl (fun (vs, lost, s) i =>
      let (v, s) := cofferRoundOn i flips true id s
      let (w, s) := match v with | some w => (w, s) | none => takeFree s
      (vs ++ leBytes 8 w.toNat, lost || v.isNone, s)) (([] : Bytes), false, s)
    let s := complete (slice vs (a % 8) len) s
    if lost then { s with out := { s.out with ep := true } } else s

def execCofferHostRead (off len : Nat) (flips : List WordFlips) (s : State) : Host.Outcome State Fault Refusal :=
  .next (cofferHostRead off len flips s)

/-- Software's change of a word: f on each enabled byte; an 8-byte plain write replaces a lost word, any other change of a
lost word is not applied (R399, R459). -/
def softChange (whole : Bool) (f : Nat → Byte → Byte) (cur : Option Word64) : Option Word64 :=
  match cur with
  | none => if whole then some (BitVec.ofNat 64 (leNat ((List.range 8).map fun i => f i 0))) else none
  | some v => some (BitVec.ofNat 64 (leNat ((List.range 8).map fun i => f i (v.extractLsb' (8 * i) 8))))

/-- One word of a software write: data byte k goes to Coffer byte a + k where enabled (R457, R459). -/
def softWord (op : Byte → Byte → Byte) (plain : Bool) (a : Nat) (data : Bytes) (be : List Bool) (flips : List WordFlips) (i : Nat) (s : State) : State :=
  let k := fun j => 8 * i + j - a
  let on := fun j => a ≤ 8 * i + j && k j < data.length && be.getD (k j) true
  let whole := plain && (List.range 8).all on
  let f := fun j x => if on j then op x (data.getD (k j) 0) else x
  let (_, s) := cofferRoundOn i flips (!whole) (softChange whole f) s
  if i ∈ s.coffer.poison then aerInternal s else s

/-- A software write of a row of Table 19.2. -/
def cofferHostChange (row : Nat) (off : Nat) (data : Bytes) (be : List Bool) (flips : List WordFlips) (s : State) : State :=
  let n := data.length
  let alias_ := n = 4 ∨ n = 8
  if cofferRow off ≠ row ∨ !inCofferRow off n ∨ 512 < n ∨ (row ≠ 0 ∧ (¬ alias_ ∨ off % n ≠ 0)) then
    unsupported (if row ≠ 0 then cause Reg.TOP_COFFER_IRQ_CAUSE 1 s else s)
  else if !domOn s 27 then unsupported (cause Reg.TOP_COFFER_IRQ_CAUSE 0 s)
  else
    let op := fun (x d : Byte) => if row = 0 then d else if row = 1 then x ||| d else x &&& ~~~d
    let a := off % 0x200000
    complete [] ((wordsOf a n).foldl (fun s i => softWord op (row = 0) a data be flips i s) s)

def execCofferHostWrite (off : Nat) (data : Bytes) (be : List Bool) (flips : List WordFlips) (s : State) :
    Host.Outcome State Fault Refusal := .next (cofferHostChange 0 off data be flips s)

def execCofferSetWrite (off : Nat) (data : Bytes) (be : List Bool) (flips : List WordFlips) (s : State) :
    Host.Outcome State Fault Refusal := .next (cofferHostChange 1 off data be flips s)

def execCofferClearWrite (off : Nat) (data : Bytes) (be : List Bool) (flips : List WordFlips) (s : State) :
    Host.Outcome State Fault Refusal := .next (cofferHostChange 2 off data be flips s)

/-- Every Coffer word becomes 0 (R460); requests pending stay. -/
def cofferClear (s : State) : State := { s with coffer := { s.coffer with words := [], poison := [] } }

end Sys2Proof.Machine
end

