-- ==== Sys2Proof/Machine/Till.lean ====
section
/-!
DEFINITION. The Till of chapter 05: record fields, probes, replacement and pins (R105 to R108), write-back (R109),
closing (R99, R101), visits (R103, R104), locks and the events of its own (flush, durable write-back, lock alarm).
-/
namespace Sys2Proof.Machine

/-! ### Fields of a record (Table 5.2) -/

/-- W1 to W5 as the canonical key (R94). -/
def recKey (r : Rec) : Ckey := wordAt r 5 ++ wordAt r 4 ++ wordAt r 3 ++ wordAt r 2 ++ wordAt r 1

def w0Bit (r : Rec) (i : Nat) : Bool := (wordAt r 0).getLsbD i
def w0Bits (r : Rec) (hi lo : Nat) : Nat := wbits (wordAt r 0) hi lo
def setW0 (r : Rec) (hi lo x : Nat) : Rec := withWord r 0 (setWbits (wordAt r 0) hi lo x)

def rcLock (r : Rec) : Bool := w0Bit r 25
def rcDirty (r : Rec) : Bool := w0Bit r 24
def rcPin (r : Rec) : Bool := w0Bit r 23
def rcDurable (r : Rec) : Bool := w0Bit r 22
def rcFast (r : Rec) : Bool := w0Bit r 21
def rcInitDir (r : Rec) : Bool := w0Bit r 20
def rcStateLost (r : Rec) : Bool := w0Bit r 19
def rcAccord (r : Rec) : Nat := w0Bits r 63 48
def rcAge (r : Rec) : Nat := w0Bits r 31 29

/-- EMPTY, CLOSED, or a reserved state, which acts as CLOSED (R98). -/
def rcDead (r : Rec) : Bool := rcState r == 0 || 4 ≤ rcState r

/-- The Vault copy of a record: LOCK and DIRTY 0 (R97). -/
def vaultCopy (r : Rec) : Rec := setW0 r 25 24 0

/-- Timeout of a record's state in ms; 0 never expires (R100). -/
def rcTimeout (s : State) (r : Rec) : Nat :=
  match rcState r with
  | 1 => fieldOf s (Reg.TILL_AGE_IDLE1 0 (rcAge r)) 31 0
  | 2 => fieldOf s (Reg.TILL_AGE_IDLE2 0 (rcAge r)) 31 0
  | 3 => fieldOf s (Reg.TILL_AGE_CLOSE 0 (rcAge r)) 31 0
  | _ => 0

/-- The record is expired at Ledger time t (R101). -/
def rcExpired (s : State) (r : Rec) (t : Nat) : Bool :=
  rcTimeout s r != 0 && rcTimeout s r * 1000000 < t - (wordAt r 11).toNat

/-- The record serves packets at Ledger time t: neither EMPTY nor CLOSED nor expired. -/
def rcLive (s : State) (r : Rec) (t : Nat) : Bool := !rcDead r && !rcExpired s r t

/-- A record written CLOSED: PIN, DURABLE and FAST are cleared (R99). -/
def rcClosed (r : Rec) : Rec := setW0 (setW0 r 35 32 4) 23 21 0

/-! ### Ways -/

def wayAt (s : State) (b k : Nat) : Option Way := Tbl.find (s.ledgerAt b).ways k

def setWay (b k : Nat) (w : Way) (s : State) : State := s.modLedger b fun l => { l with ways := Tbl.put l.ways k w }

def dropWay (b k : Nat) (s : State) : State := s.modLedger b fun l => { l with ways := Tbl.del l.ways k }

def modWay (b k : Nat) (f : Way → Way) (s : State) : State :=
  match wayAt s b k with | some w => setWay b k (f w) s | none => s

/-- The valid ways of a set. -/
def setWays (s : State) (b set : Nat) : List (Nat × Way) := (s.ledgerAt b).ways.filter fun (k, _) => k / 16 = set

/-- A probe (R102): the way of the set whose record has the key. -/
def probe (s : State) (b : Nat) (hash : Word64) (key : Ckey) : Option Nat :=
  ((setWays s b (tillSet hash)).find? fun (_, w) => recKey w.rc == key).map (·.1)

/-- The Ledger hash of a record's key (R58, R60). -/
def hashOf (s : State) (key : Ckey) : Word64 := flowHash key s.vault.seed

/-- A work item on the record stands in the ready list. -/
def itemOn (s : State) (b k : Nat) : Bool := (s.dispAt b).items.any fun i => i.way == some k

def isPacket : Waiter → Bool
  | .packet _ _ => true
  | _ => false

/-- A packet of the miss queue waits on the key's record, which stands in the Till (R106, R189). -/
def queuedFor (s : State) (b : Nat) (key : Ckey) : Bool := (s.ledgerAt b).miss.any fun e => e.key == key && e.waiters.any isPacket

/-- The record of a way, locked or not, may be replaced (R106, R233). -/
def eligible (s : State) (b k : Nat) (w : Way) : Bool :=
  !rcLock w.rc && !w.pinEff && w.adds.isEmpty && w.chain.isEmpty && w.openers.isEmpty && w.scans == 0 && !itemOn s b k &&
    !queuedFor s b (recKey w.rc)

/-! ### Pseudo-LRU -/

/-- The tree after way w is used: every node on its path points to the other half (R106). Node n has the children
2n + 1 and 2n + 2; a bit 0 points to the lower half. -/
def plruTouch (tree w : Nat) : Nat :=
  let n1 := w / 8 % 2
  let n2 := 1 + n1
  let n3 := 2 * n2 + 1 + w / 4 % 2
  let n4 := 2 * n3 + 1 + w / 2 % 2
  let put := fun t n v => setBits t n n (1 - v)
  put (put (put (put tree 0 n1) n2 (w / 4 % 2)) n3 (w / 2 % 2)) n4 (w % 2)

/-- The walk from a node that covers `size` ways from `lo`: the pointed half when it holds an acceptable way, else the
other half (R106). -/
def plruWalk (tree : Nat) (ok : Nat → Bool) : Nat → Nat → Nat → Nat
  | 0, _, lo => lo
  | n + 1, node, lo =>
    let half := 2 ^ n
    let holds := fun l => (List.range half).any fun i => ok (l + i)
    let up := if tree.testBit node then holds (lo + half) else !(holds lo)
    plruWalk tree ok n (2 * node + (if up then 2 else 1)) (if up then lo + half else lo)

/-- Way w of a set is used by a hit or a fill. -/
def touchWay (b k : Nat) (s : State) : State :=
  s.modLedger b fun l => { l with trees := Tbl.set l.trees (k / 16) 0 (plruTouch (Tbl.get l.trees (k / 16) 0) (k % 16)) }

/-- The victim of a fill (R106): the way number in the set, or none (R107). -/
def victim (s : State) (b set : Nat) : Option Nat :=
  let ways := setWays s b set
  let at_ := fun i => (ways.find? fun (k, _) => k % 16 = i).map (·.2)
  let ok := fun i => match at_ i with | some w => eligible s b (16 * set + i) w | none => true
  let first := (List.range 16).find? fun i => match at_ i with | none => true | some w => ok i && rcDead w.rc
  match first with
  | some i => some i
  | none =>
    if (List.range 16).any ok then
      let clean := fun i => ok i && match at_ i with | some w => !rcDirty w.rc | none => true
      let tree := Tbl.get (s.ledgerAt b).trees set 0
      let useClean := flagOf s (Reg.TILL_CFG b) 8 && (List.range 16).any clean
      some (plruWalk tree (if useClean then clean else ok) 4 0 0)
    else none

/-! ### Write-back and removal -/

/-- A claim ends (R130); the slot then counts by what the Vault holds. -/
def unclaim (b k : Nat) (s : State) : State :=
  match wayAt s b k with
  | some w => if w.claim.isSome then occStep w.slot (modWay b k fun w => { w with claim := none }) s else s
  | none => s

/-- A way is no longer to be written by a flush in progress. -/
def unflush (b k : Nat) (s : State) : State := s.modLedger b fun l => { l with flush := l.flush.map (·.filter (·.1 != k)) }

/-- What a write-back makes of a record's slot: the record, or poison when a word of it is lost (R400). -/
def backCell (w : Way) : VCell := if w.lostWords = [] then .data (vaultCopy w.rc) else .poison

/-- A write-back of a dirty record (R109): the Till copy changes only in DIRTY. -/
def writeBack (b k : Nat) (s : State) : State :=
  match wayAt s b k with
  | some w =>
    if rcDirty w.rc then
      s |> countWrite (ftRecord s.vault w.slot) b .writeBack |> storeRecord (ftRecord s.vault w.slot) (backCell w) |> unclaim b k
        |> modWay b k (fun w => { w with rc := setW0 w.rc 24 24 0 }) |> unflush b k |> bump (Reg.TILL_WB_CNT b) |> perf (uTill b) 0x06
    else s
  | none => s

/-- An eviction (R109): a dirty record is written back, a clean one dropped. -/
def evict (b k : Nat) (s : State) : State :=
  match wayAt s b k with
  | some _ => s |> writeBack b k |> dropWay b k |> bump (Reg.TILL_EVICT_CNT b) |> perf (uTill b) 0x05
  | none => s

/-- DIRTY becomes 1; the time of a record's becoming dirty is kept for R109. -/
def markDirty (now : Nat) (w : Way) : Way :=
  { w with rc := setW0 w.rc 24 24 1, dirtyAt := if rcDirty w.rc then w.dirtyAt else now }

/-! ### Pins -/

/-- The record's PIN is acted on (R108): it becomes effectively pinned below quota, and is refused otherwise. -/
def pinWay (b k : Nat) (s : State) : State :=
  match wayAt s b k with
  | some w =>
    if rcPin w.rc && !w.pinEff then
      if ((setWays s b (k / 16)).filter fun (_, w) => w.pinEff).length < fieldOf s (Reg.TILL_CFG b) 3 0 then
        setWay b k { w with pinEff := true } s
      else s |> bump (Reg.TILL_PIN_REFUSED_CNT b) |> cause (Reg.TILL_IRQ_CAUSE b) 4
    else if !rcPin w.rc && w.pinEff then setWay b k { w with pinEff := false } s
    else s
  | none => s

/-! ### Closing -/

/-- A record in the Till is closed in place (R99, R101): exported, mirrored unless the close came with a mirror message,
and dirty. -/
def closeWay (b k : Nat) (expired applied : Bool) (s : State) : State :=
  match wayAt s b k with
  | some w =>
    let h := hashOf s (recKey w.rc)
    let s := if expired then bump (Reg.TILL_EXPIRED_CNT b) s else s
    let s := if applied then s else exportOnClose b h w.rc expired s
    let s := setWay b k { markDirty s.time.tick w with rc := setW0 (rcClosed w.rc) 24 24 1, pinEff := false } s
    if applied then s
    else
      let (sent, s) := mirrorEvent b 2 h (rcClosed w.rc) s
      if sent then modWay b k (fun w => { w with mirrorAt := s.time.tick }) s else s
  | none => s

/-- A reserved state found in a record is reported (R98). -/
def noteState (b : Nat) (hash : Word64) (r : Rec) (s : State) : State :=
  if 5 ≤ rcState r then s |> cause (Reg.TILL_IRQ_CAUSE b) 5 |> emit (srcTill b) 0x28 (hash.toNat + 2 ^ 64 * rcState r) else s

/-- A record held only in the Vault expires: its Vault copy is written CLOSED (R101). -/
def closeSlot (b slot : Nat) (r : Rec) (k : VClass) (s : State) : State :=
  let h := hashOf s (recKey r)
  let s := s |> bump (Reg.TILL_EXPIRED_CNT b) |> exportOnClose b h r true
  let s := writeRecord (ftRecord s.vault slot) b k (rcClosed r) s
  (mirrorEvent b 2 h (rcClosed r) s).2

/-! ### Fills -/

/-- Installs a record in way k of its set (R106, R108, R326). Where it takes the place of its key's CLOSED record, what waits on
the way stays: its chain, its OPENs, its Nose requests and its deferred adds, which the new record does not take (R104, R191). -/
def putWay (b k : Nat) (f : Fill) (s : State) : State :=
  let rc := setW0 (setW0 f.rc 25 25 0) 24 24 (b2n f.dirty)
  let old := wayAt s b k
  let w : Way := { rc := rc, slot := f.slot, claim := f.claim, dirtyAt := s.time.tick, mirrorAt := s.time.tick,
                   inst := (s.ledgerAt b).nextInst,
                   adds := (old.map (·.adds)).getD [], chain := (old.map (·.chain)).getD [],
                   openers := (old.map (·.openers)).getD [], scans := (old.map (·.scans)).getD 0 }
  s |> setWay b k w |> (·.modLedger b fun l => { l with nextInst := l.nextInst + 1 }) |> touchWay b k |> pinWay b k

/-- A fill (R106): the victim is chosen and evicted and the record installed; none when no way is eligible. -/
def install (b : Nat) (hash : Word64) (f : Fill) (s : State) : Option (Nat × State) :=
  let set := tillSet hash
  (victim s b set).map fun i =>
    let k := 16 * set + i
    (k, s |> evict b k |> putWay b k f)

/-- A fill had to wait for a way (R107). -/
def noteNoway (b : Nat) (s : State) : State := s |> bump (Reg.TILL_NOWAY_CNT b) |> cause (Reg.TILL_IRQ_CAUSE b) 3

/-! ### Visits -/

/-- MIN_IAT and MAX_IAT take in a value (R103, Table 5.3). -/
def takeIat (w12 : Word64) (v : Nat) : Word64 :=
  setWbits (setWbits w12 63 48 (min (wbits w12 63 48) v)) 47 32 (max (wbits w12 47 32) v)

/-- TCPF_INIT or TCPF_RESP takes in flag bits (R103). -/
def takeFlags (w12 : Word64) (init : Bool) (v : Nat) : Word64 :=
  if init then setWbits w12 31 24 (wbits w12 31 24 ||| v) else setWbits w12 23 16 (wbits w12 23 16 ||| v)

/-- The record after a visit by a pass, n bytes being added to W9 (R103, Table 5.7). -/
def visited (s : State) (d : Desc) (n : Nat) (r : Rec) : Rec :=
  let nat64 := wbits (wordAt r 7) 63 60 = 4
  let w8 := (wordAt r 8).toNat
  let w11 := (wordAt r 11).toNat
  let later := w11 < d.arr
  let r1 := withWord (withWord r 8 (wordAt r 8 + 1)) 9 (wordAt r 9 + BitVec.ofNat 64 n)
  let r2 := if later then withWord r1 11 (BitVec.ofNat 64 d.arr) else r1
  let r3 := if later ∧ w8 ≠ 0 ∧ ¬ nat64 then withWord r2 12 (takeIat (wordAt r2 12) (capAt 0xFFFF ((d.arr - w11) / 1000))) else r2
  let pos := min 504 (fieldOf s (Reg.TILL_UPD_TCPF 0) 8 0)
  let r4 := if flagOf s (Reg.TILL_UPD_TCPF 0) (16 + w0Bits r 39 36) ∧ ¬ nat64 then
      withWord r3 12 (takeFlags (wordAt r3 12) (d.dir == rcInitDir r) (d.key.extractLsb' pos 8).toNat) else r3
  if rcState r4 = 1 ∧ d.dir ≠ rcInitDir r4 then setW0 r4 35 32 2 else r4

/-- A visit of the record of way k (R103, R104): before the tail the frame length is added when it ends. A visit that
finds SYNC_MS passed since the record's last message mirrors it (R326, log entry 20). -/
def visit (b k : Nat) (d : Desc) (s : State) : State :=
  match wayAt s b k, frameAt s d.frame with
  | some w, some x =>
    let n := if x.tail then frameLen x - d.head else 0
    let w1 := markDirty s.time.tick { w with rc := visited s d n w.rc }
    let w2 := if x.tail then w1 else { w1 with adds := w1.inst :: w1.adds }
    let s := setWay b k w2 s
    let s := if x.tail then s
      else setFrame d.frame { x with tailAdds := x.tailAdds ++ [⟨b, hashOf s (recKey w.rc), recKey w.rc, d.head, w.inst⟩] } s
    let ms := (mirrorCfg s w2.rc).2
    if s.teth.pair = .paired ∧ ms ≠ 0 ∧ ms * 1000000 ≤ since s w2.mirrorAt then
      s |> mirrorSend b 4 (hashOf s (recKey w2.rc)) w2.rc |> modWay b k (fun w => { w with mirrorAt := s.time.tick })
    else s
  | _, _ => s

/-- A way after a deferred add (R104): the length is added if the record is still the one that was visited. -/
def withTail (now len : Nat) (a : TailAdd) (w : Way) : Way :=
  let w' := { w with adds := delFirst (· == a.inst) w.adds }
  if w.adds.contains a.inst && w.inst == a.inst then
    markDirty now { w' with rc := withWord w.rc 9 (wordAt w.rc 9 + BitVec.ofNat 64 (len - a.head)) }
  else w'

/-- A deferred add is made when the frame's last byte has arrived (R104). -/
def tailAdd (len : Nat) (a : TailAdd) (s : State) : State :=
  match probe s a.branch a.hash a.key with
  | some k => modWay a.branch k (withTail s.time.tick len a) s
  | none => s

/-! ### Locks -/

/-- The lock of a way is taken for a Teller (R116). -/
def lockWay (b k t : Nat) (s : State) : State :=
  modWay b k (fun w => { w with rc := setW0 w.rc 25 25 1, owner := some t, lockAt := ledgerNow s, lockTick := s.time.tick, alarmed := false, w7Changed := false }) s

/-- The lock of a way is cleared. -/
def unlockWay (b k : Nat) (s : State) : State := modWay b k (fun w => { w with rc := setW0 w.rc 25 25 0, owner := none }) s

/-- LOCK_ALARM (R118): a lock held longer than TILL_LOCK_ALARM is reported once. -/
def lockAlarm (b k : Nat) (s : State) : State :=
  let us_ := fieldOf s (Reg.TILL_LOCK_ALARM 0) 31 0
  match wayAt s b k with
  | some w =>
    match w.owner with
    | some t =>
      if us_ ≠ 0 ∧ !w.alarmed ∧ us us_ < since s w.lockTick then
        s |> setWay b k { w with alarmed := true } |> cause (Reg.TILL_IRQ_CAUSE b) 2 |> bump (Reg.TILL_LOCK_ALARM_CNT b)
          |> emit (srcTill b) 0x29 ((hashOf s (recKey w.rc)).toNat + 2 ^ 64 * t)
      else s
    | none => s
  | none => s

def execLockAlarm (b : Fin 4) (way : Nat) (s : State) : Host.Outcome State Fault Refusal := .next (lockAlarm b.val way s)

/-! ### Flushes -/

/-- A durable write-back, counted in TILL_DUR_WB_CNT (R109, R111). -/
def durableBack (b k : Nat) (s : State) : State :=
  match wayAt s b k with
  | some w => if rcDirty w.rc && rcDurable w.rc then s |> writeBack b k |> bump (Reg.TILL_DUR_WB_CNT b) else s
  | none => s

/-- DURABLE_DIRTY_EXPIRY (R109): the record is DURABLE and has been dirty for longer than MAX_DIRTY_US. -/
def durableExpiry (b k : Nat) (s : State) : State :=
  let limit := fieldOf s (Reg.TILL_DUR_CFG 0) 31 0
  match wayAt s b k with
  | some w => if limit ≠ 0 ∧ us limit < since s w.dirtyAt then durableBack b k s else s
  | none => s

def execDurableDirtyExpiry (b : Fin 4) (way : Nat) (s : State) : Host.Outcome State Fault Refusal :=
  .next (durableExpiry b.val way s)

/-- Every dirty record of a slice is written back (R109, R112). -/
def writeBackAll (b : Nat) (s : State) : State := (s.ledgerAt b).ways.foldl (fun s (k, _) => writeBack b k s) s

/-- The brownout flush (R111): every record with DURABLE and DIRTY, in every slice. -/
def brownoutFlush (s : State) : State :=
  (List.range 4).foldl (fun s b => (s.ledgerAt b).ways.foldl (fun s (k, _) => durableBack b k s) s) s

/-- A record that a flush of a slice writes: dirty, and DURABLE where the flush takes DURABLE records only. -/
def flushTakes (durable : Bool) (w : Way) : Bool := rcDirty w.rc && (!durable || rcDurable w.rc)

/-- TILL_FLUSH_START (R109): a write of TILL_FLUSH_CTRL; START is ignored while BUSY. The dirty records that qualify are
taken at the write. -/
def flushStart (b : Nat) (v : Word32) (s : State) : State :=
  let s := setField (Reg.TILL_FLUSH_CTRL b) 1 1 (b2n (v.getLsbD 1)) s
  if v.getLsbD 0 ∧ (s.ledgerAt b).flush.isNone then
    let ks := ((s.ledgerAt b).ways.filter fun (_, w) => flushTakes (v.getLsbD 1) w).map fun (k, w) => (k, w.inst)
    s.modLedger b fun l => { l with flush := some ks, flushDurable := v.getLsbD 1 }
  else s

/-- Ways of a flush in progress whose records are still to be written (TILL_FLUSH_STATUS.REMAINING): one that was evicted,
written back or replaced meanwhile is not. -/
def flushLeft (l : Ledger) : List Nat :=
  ((l.flush.getD []).filter fun (k, n) => match Tbl.find l.ways k with
    | some w => w.inst == n && flushTakes l.flushDurable w
    | none => false).map (·.1)

def execTillFlushStart (b : Fin 4) (v : Word32) (s : State) : Host.Outcome State Fault Refusal := .next (gated (flushStart b.val v) s)

/-- TILL_FLUSH_DONE (R109): the records of the flush that are still to be written are written back and the flush completes. -/
def flushDone (b : Nat) (s : State) : State :=
  match (s.ledgerAt b).flush with
  | some _ =>
    (flushLeft (s.ledgerAt b)).foldl (fun s k => writeBack b k s) s |> (·.modLedger b fun l => { l with flush := none })
      |> stamp (Reg.TILL_FLUSH_DONE_SEC b) (Reg.TILL_FLUSH_DONE_NS b) |> cause (Reg.TILL_IRQ_CAUSE b) 1
  | none => s

def execTillFlushDone (b : Fin 4) (s : State) : Host.Outcome State Fault Refusal := .next (flushDone b.val s)

/-- OCC_LIMIT_WRITE (R511): the threshold changes; a write that brings it below a count already held sets OCC_HIGH. -/
def occLimitWrite (v : Word32) (s : State) : State :=
  let old := occThreshold s
  let s := setField (Reg.TILL_FT_OCC_LIMIT 0) 9 0 v.toNat s
  (List.range 4).foldl (fun s b =>
    if (s.ledgerAt b).occ ≤ old ∧ occThreshold s < (s.ledgerAt b).occ then cause (Reg.TILL_FT_IRQ_CAUSE b) 5 s else s) s

def execOccLimitWrite (v : Word32) (s : State) : Host.Outcome State Fault Refusal := .next (gated (occLimitWrite v) s)

end Sys2Proof.Machine
end

