-- ==== Sys2Proof/Machine/Slots.lean ====
section
/-!
DEFINITION. The flow table of chapter 06: candidate search (R126), placement and claims (R129, R130), guards (R131),
the setup limiter (R139) and new records (R115).
-/
namespace Sys2Proof.Machine

/-! ### Candidates and guards -/

/-- Candidate slots A and B of a hash in the loaded table (R124). -/
def cands (s : State) (hash : Word64) : Nat × Nat := candidates hash s.vault.ftLog2

/-- The channels of both candidates serve requests: they are in SERVICE and no HOLD_SR keeps requests at their requesters
(R374, R425). -/
def vaultReady (s : State) (hash : Word64) : Bool :=
  chanServes s (ftRecord s.vault (cands s hash).1) && chanServes s (ftRecord s.vault (cands s hash).2)

/-- A move guard stands on a slot (R131). -/
def guarded (s : State) (slot : Nat) : Bool := (s.ledgerAt (slot / quarter s.vault)).guards.any (·.slot == slot)

/-- The key is under a move guard, which lasts for the whole of the move (R127, R131). -/
def keyGuarded (s : State) (b : Nat) (key : Ckey) : Bool := (s.ledgerAt b).guards.any (·.key == key)

/-- The record of a slot stands in the Till. -/
def slotInTill (s : State) (slot : Nat) : Bool :=
  (s.ledgerAt (slot / quarter s.vault)).ways.any fun (_, w) => w.slot == slot

/-- The record of way k keeps its slot at Ledger time t: it is live, or something works on it (log entry 16). -/
def wayKeeps (s : State) (b k : Nat) (w : Way) (t : Nat) : Bool := rcLive s w.rc t || rcLock w.rc || !w.chain.isEmpty || itemOn s b k

/-- A record of the Till keeps its slot at Ledger time t. -/
def slotKept (s : State) (slot t : Nat) : Bool :=
  let b := slot / quarter s.vault
  (s.ledgerAt b).ways.any fun (k, w) => w.slot == slot && wayKeeps s b k w t

/-- What a candidate read tells (R126, R128). -/
inductive Found
  | live (r : Rec)
  /-- the candidate holds the key, CLOSED or expired -/
  | ended
  | other
  | poison
deriving DecidableEq, Repr

/-- The candidate could not be read. -/
def Found.isPoison : Found → Bool
  | .poison => true
  | _ => false

/-- A candidate is read and tested against a key at Ledger time t (R126): a claimed slot holds no key, and an expired
record of the key is written CLOSED (R101). -/
def testSlot (b slot : Nat) (k : VClass) (hash : Word64) (key : Ckey) (t : Nat) (s : State) : Found × State :=
  let (cell, s) := readRecord (ftRecord s.vault slot) b k s
  match cell with
  | .poison => (.poison, bump (Reg.TILL_FT_POISON_CNT b) s)
  | .data r =>
    if slotClaimed s slot ∨ recKey r ≠ key ∨ rcState r = 0 then (.other, s)
    else
      let s := noteState b hash r s
      if rcDead r then (.ended, s)
      else if rcExpired s r t then (.ended, closeSlot b slot r k s)
      else (.live r, s)

/-- A candidate read that a lasting CA parity error has lost (R378): poisoned, so that the slot cannot be tested (R128). -/
def lostRead (b slot : Nat) (k : VClass) (s : State) : Found × State :=
  (.poison, s |> countRead (ftRecord s.vault slot) b k |> bump (Reg.TILL_FT_POISON_CNT b))

/-- A whole search, as a host operation or a mirror message makes it (R119, R126): the live record and its slot, whether
a candidate was poisoned. -/
def searchBoth (b : Nat) (k : VClass) (hash : Word64) (key : Ckey) (t : Nat) (s : State) : Option (Nat × Rec) × Bool × State :=
  let (x, y) := cands s hash
  let (fa, s) := testSlot b x k hash key t s
  match fa with
  | .live r => (some (x, r), false, s)
  | .ended => (none, false, s)
  | _ =>
    let (fb, s) := testSlot b y k hash key t s
    match fb with
    | .live r => (some (y, r), fa.isPoison, s)
    | f => (none, fa.isPoison || f.isPoison, s)

/-! ### Placement and claims -/

/-- A slot is free for a setup at Ledger time t (R129): no claim, guard or record that the Till keeps holds it, and its
Vault copy is EMPTY, CLOSED, expired or poisoned, or has been moved away by a relocation (R131). -/
def slotFree (s : State) (slot t : Nat) : Bool :=
  !slotClaimed s slot && !slotKept s slot t &&
  ((s.ledgerAt (slot / quarter s.vault)).freed.contains slot ||
    (!guarded s slot &&
      match peekRecord s (ftRecord s.vault slot) with
      | .poison => true
      | .data r => !rcLive s r t))

/-- The candidate holds the key, CLOSED or expired. -/
def slotEnded (s : State) (slot : Nat) (key : Ckey) : Bool :=
  match peekRecord s (ftRecord s.vault slot) with
  | .data r => recKey r == key && rcState r != 0
  | .poison => false

/-- A record of the Till whose slot goes to another record: expired, it is closed there (R101), and it is not written back
again (log entry 16). -/
def leaveSlot (b k t : Nat) (s : State) : State :=
  match wayAt s b k with
  | none => s
  | some w =>
    let s := if !rcDead w.rc && rcExpired s w.rc t then closeWay b k true false s else s
    modWay b k (fun w => { w with rc := setW0 w.rc 24 24 0 }) s

/-- A record that stands in a slot gives it up: in the Till, or in the Vault, where an expired one is closed first (R101) by a
write of class v. -/
def vacate (b slot t : Nat) (v : VClass) (s : State) : State :=
  match (s.ledgerAt b).ways.filter fun (_, w) => w.slot == slot with
  | [] => (match peekRecord s (ftRecord s.vault slot) with
    | .data r => if !rcDead r && rcExpired s r t then closeSlot b slot r v s else s
    | .poison => s)
  | ws => ws.foldl (fun s (k, _) => leaveSlot b k t s) s

/-- The slot that a setup takes, in the order of R129. -/
def placeSlot (b : Nat) (hash : Word64) (key : Ckey) (t : Nat) (v : VClass) (s : State) : Option Nat × State :=
  let (x, y) := cands s hash
  let order := if slotEnded s x key then [x, y] else if slotEnded s y key then [y, x] else [x, y]
  match order.find? fun c => slotFree s c t with
  | none => (none, s)
  | some c => (some c, vacate b c t v s)

/-- The slot of a CLOSED or expired way is free for the next record of its key (R99, R129, log entry 17): the way claims it, or
nothing else holds it and its Vault copy is free or is still that of the key. -/
def ownSlotFree (s : State) (b k : Nat) (w : Way) (t : Nat) : Bool :=
  w.claim.isSome ||
    (!slotClaimed s w.slot && !guarded s w.slot &&
      !((s.ledgerAt b).ways.any fun (j, v) => j != k && v.slot == w.slot && wayKeeps s b j v t) &&
      match peekRecord s (ftRecord s.vault w.slot) with
      | .poison => true
      | .data r => recKey r == recKey w.rc || !rcLive s r t)

/-- The slot that the next record of a CLOSED or expired way's key takes (R129): the way's own when it is free, else a candidate
that is. -/
def reuseSlot (b k : Nat) (w : Way) (t : Nat) (v : VClass) (s : State) : Option Nat × State :=
  if ownSlotFree s b k w t then
    (some w.slot, (((s.ledgerAt b).ways.filter fun (j, y) => j != k && y.slot == w.slot)).foldl (fun s (j, _) => leaveSlot b j t s) s)
  else placeSlot b (hashOf s (recKey w.rc)) (recKey w.rc) t v s

/-- The record of way k is CLOSED or expired, nothing works on it, and neither its slot nor a candidate of its key is free: its
key's next record needs a relocation, for which it waits in the miss queue (R129, R131). -/
def roomless (s : State) (b k t : Nat) : Bool :=
  match wayAt s b k with
  | none => false
  | some w =>
    let c := cands s (hashOf s (recKey w.rc))
    !rcLive s w.rc t && !rcLock w.rc && !itemOn s b k && !ownSlotFree s b k w t && !slotFree s c.1 t && !slotFree s c.2 t

/-- A CLOSED or expired record leaves the Till, so that its key's next record is set up through the miss queue (log entry 17). -/
def leaveTill (b k t : Nat) (s : State) : State :=
  match wayAt s b k with
  | none => s
  | some w => (if !rcDead w.rc && rcExpired s w.rc t then closeWay b k true false s else s) |> dropWay b k

/-- Claims held in a Branch (TILL_FT_CLAIMS). -/
def claimsHeld (l : Ledger) : Nat :=
  (l.ways.filter fun (_, w) => w.claim.isSome).length +
    (l.miss.filter fun e => match e.stage with | .noway f => f.claim.isSome | _ => false).length

/-- The way that holds the oldest claim. -/
def oldestClaim (l : Ledger) : Option Nat :=
  (l.ways.foldl (fun best (k, w) =>
    match w.claim, best with
    | some n, some (m, _) => if n < m then some (n, k) else best
    | some n, none => some (n, k)
    | none, _ => best) (none : Option (Nat × Nat))).map (·.2)

/-- A new claim number; beyond 65,536 claims the record with the oldest is first written back (R130). -/
def newClaim (b : Nat) (s : State) : Nat × State :=
  let s := if 65536 ≤ claimsHeld (s.ledgerAt b) then
      match oldestClaim (s.ledgerAt b) with
      | some k => s |> writeBack b k |> bump (Reg.TILL_FT_CLAIM_WB_CNT b) |> cause (Reg.TILL_FT_IRQ_CAUSE b) 6
      | none => s
    else s
  ((s.ledgerAt b).nextClaim, s.modLedger b fun l => { l with nextClaim := l.nextClaim + 1 })

/-! ### The setup limiter -/

/-- Bucket depth in units of 10^-6 token (TILL_FT_SETUP_BURST; 0 acts as 1). -/
def burstOf (s : State) (b : Nat) : Nat := 1000000 * max 1 (fieldOf s (Reg.TILL_FT_SETUP_BURST b) 15 0)

/-- Tokens brought up to now: RATE_KPS × 1,000 tokens per second, up to the depth (R139). -/
def refillTokens (b : Nat) (s : State) : State :=
  s.modLedger b fun l =>
    { l with tokens := min (max l.tokens (burstOf s b)) (l.tokens + since s l.tokensAt * min 75000 (fieldOf s (Reg.TILL_FT_SETUP_RATE b) 16 0)),
             tokensAt := s.time.tick }

/-- A setup takes one token, if the bucket holds one (R139); RATE_KPS 0 admits no setup. -/
def takeToken (b : Nat) (s : State) : Bool × State :=
  let s := refillTokens b s
  if fieldOf s (Reg.TILL_FT_SETUP_RATE b) 16 0 ≠ 0 ∧ 1000000 ≤ (s.ledgerAt b).tokens then (true, s.modLedger b fun l => { l with tokens := l.tokens - 1000000 }) else (false, s)

/-- SETUP_BURST_WRITE (R139): a write limits the tokens held to the new depth. -/
def setupBurstWrite (b : Nat) (v : Word32) (s : State) : State :=
  let s := s |> refillTokens b |> setField (Reg.TILL_FT_SETUP_BURST b) 15 0 v.toNat
  s.modLedger b fun l => { l with tokens := min l.tokens (burstOf s b) }

def execSetupBurstWrite (b : Fin 4) (v : Word32) (s : State) : Host.Outcome State Fault Refusal := .next (gated (setupBurstWrite b.val v) s)

/-! ### New records -/

/-- KEY_TYPE: key byte 37, bits [3:0] (Table 5.2). -/
def keyType (key : Ckey) : Nat := wbits (keyWord key 4) 43 40

/-- The record of a setup pass before its first visit (Table 5.8). -/
def newRecord (s : State) (d : Desc) (u : Setup) (lost : Bool) : Rec :=
  let cfg := Reg.TILL_TPL_CFG 0 d.template
  let w0 := 2 ^ 48 * (u.stamp % 65536) + 2 ^ 40 * (d.template % 256) + 2 ^ 36 * keyType d.ckey + 2 ^ 32 +
    2 ^ 29 * fieldOf s cfg 2 0 + 2 ^ 26 * fieldOf s cfg 6 4 + 2 ^ 22 * b2n (flagOf s cfg 8) +
    2 ^ 21 * b2n (actRoutine u.action = 0) + 2 ^ 20 * b2n d.dir + 2 ^ 19 * b2n lost
  #v[BitVec.ofNat 64 w0, keyWord d.ckey 0, keyWord d.ckey 1, keyWord d.ckey 2, keyWord d.ckey 3, keyWord d.ckey 4, u.action,
    0, 0, 0, BitVec.ofNat 64 d.arr, BitVec.ofNat 64 d.arr, 0xFFFF000000000000#64, 0, 0, 0]

/-- Rewrite parameters of a packet that the Ledger serves: none by PARAM, then W7, W12 and W13 as the visit left them
(R205). -/
def visitParams (s : State) (b k : Nat) : List Word64 :=
  match wayAt s b k with
  | some w => List.replicate 16 0 ++ [wordAt w.rc 7, wordAt w.rc 12, wordAt w.rc 13]
  | none => List.replicate 19 0

/-- A setup has been placed (TILL_FT_SETUP, Table 20.6). -/
def noteSetup (b : Nat) (s : State) : State := s |> bump64 (Reg.TILL_FT_SETUP_LO b) 1 |> perf (uTill b) 0x04

/-- A setup after unrecoverable poison (R141). -/
def noteStateLost (b : Nat) (hash : Word64) (slot : Nat) (s : State) : State :=
  s |> bump (Reg.TILL_FT_STATE_LOST_CNT b) |> cause (Reg.TILL_FT_IRQ_CAUSE b) 4 |> emit (srcTill b) 0x2A (hash.toNat + 2 ^ 64 * slot)

/-- A record that the Ledger itself has set up is mirrored at once (R326). -/
def mirrorSetup (b k : Nat) (s : State) : State :=
  match wayAt s b k with
  | some w =>
    let (sent, s) := mirrorEvent b 0 (hashOf s (recKey w.rc)) w.rc s
    if sent then modWay b k (fun w => { w with mirrorAt := s.time.tick }) s else s
  | none => s

end Sys2Proof.Machine
end

