-- ==== Sys2Proof/Machine/VaultQueue.lean ====
section
/-!
DEFINITION. The order in which the Vault's channels serve what waits for them (R142, R143, R368, R369): the requests outstanding at
Ledger and Tellers, the turn of a class, and the draining of the write buffers.
-/
namespace Sys2Proof.Machine

/-- The Vault record that an outstanding operation of a Teller needs, and its class (Table 6.2). -/
def opNeeds (v : Vault) (m : MemOp) : Option (Nat × Nat) :=
  if m.poisoned then none
  else if m.msel = 0 then some (m.addr / 128, 1)
  else if m.msel = 5 ∧ m.mop ≠ 0xB then some (ftRecord v m.addr, if m.mop = 0xC then 4 else 1)
  else none

/-- The candidate that a miss entry reads, likewise. -/
def entryNeeds (s : State) (e : MissEntry) : Option (Nat × Nat) :=
  match e.stage with
  | .reading second => some (ftRecord s.vault (if second then (cands s e.hash).2 else (cands s e.hash).1), 1)
  | _ => none

/-- Records that requests wait for, with their classes. -/
def vaultReqs (s : State) : List (Nat × Nat) :=
  (s.ledger.flatMap fun (_, l) => l.miss.filterMap (entryNeeds s)) ++ s.tellers.flatMap fun (_, x) => x.mem.filterMap (opNeeds s.vault)

/-- Place of a class in a channel's order of service, 0 first (R142): write-backs come before class 1 while the write buffer is more
than half full (R369), and class 4 when 127 operations have passed without one. -/
def turnOf (x : VaultCh) (k : Nat) : Nat := if (k = 2 ∧ 128 < x.writes.length) ∨ (k = 4 ∧ 127 ≤ x.sweepGap) then 0 else k

/-- Nothing that waits on channel c is served before a request of class k. Within a class the order is left to the commands, since
R368 lets the controller serve out of arrival order (log entry 129). -/
def turnFree (s : State) (c k : Nat) : Bool :=
  let x := s.chanAt c
  (x.writes.take 256).all (fun w => turnOf x k ≤ turnOf x w.cls) &&
    (vaultReqs s).all fun (a, j) => chanOf s.vault a != c || turnOf x k ≤ turnOf x j

/-- A class 5 request of allowance user u may be served on channel c: in an idle cycle, or under the allowance (Table 6.2). -/
def grantedTurn (s : State) (c u : Nat) : Bool := turnFree s c 5 || allowanceHeld s u

/-- Each channel that a write of a record goes to has a place in its buffer (R369). -/
def roomFor (s : State) (a : Nat) : Bool := (writeRanks s.vault a).all fun r => (s.chanAt (r / 2)).writes.length < 256

/-- A channel has a cycle for an operation at this tick: C/8 operations a second (R143, Table 6.3). -/
def opTick (s : State) : Bool :=
  let r := [2250, 2625, 3000].getD s.vault.speed 3000
  s.time.tick * r / 10000 != (s.time.tick - 1) * r / 10000

/-- The write that a channel makes next: of the first class, of the Branches in turn, the oldest; a record's writes are made in
their order (R142, R368). -/
def nextWrite (x : VaultCh) : Option VaultWrite :=
  let q := x.writes.take 256
  let first := q.foldl (fun m w => min m (turnOf x w.cls)) 5
  let mine := q.filter fun w => turnOf x w.cls == first
  (((List.range 4).map fun i => (x.turn + 1 + i) % 4).findSome? fun b => mine.find? (·.branch == b)).bind fun w =>
    q.find? fun y => y.rank == w.rank && y.rec_ == w.rec_

/-- A channel makes a write of its buffer: in SERVICE in its turn, and in SR_ENTRY in any case (R373; log entry 128). -/
def drainWrite (c : Nat) (s : State) : State :=
  let x := s.chanAt c
  match nextWrite x with
  | some w =>
    if x.st == .srEntry || (x.st == .service && turnFree s c w.cls) then
      s.setChan c { x with writes := delFirst (· == w) x.writes, turn := w.branch }
    else s
  | none => s

/-- The write buffers at a tick. -/
def drainWrites (s : State) : State := if opTick s then (List.range 8).foldl (fun s c => drainWrite c s) s else s

end Sys2Proof.Machine
end

