-- ==== Sys2Proof/Machine/Ledger.lean ====
section
/-!
DEFINITION. How the Ledger decides packets, host operations, OPENs and mirror messages on records (chapters 05 and 06):
the update unit (R113, R114), setups (R115, R139, R140), the miss queue (R134 to R138), relocation (R131, R132), locks
and waiting chains (R116, R191).
-/
namespace Sys2Proof.Machine

/-! ### Packets without a record -/

/-- A stateless packet item takes a place, or is held at the probe stage for want of one (R189); one that has waited on a record
keeps the place that it holds (R188). -/
def offerStateless (b : Nat) (d : Desc) (a : Word64) (s : State) : State :=
  let i := packetItem s b d a none false false
  if d.entered.isSome ∨ ((s.ledgerAt b).heldItems.isEmpty ∧ placeFree s b i.prio) then addStateless b d a false s
  else s |> (·.modLedger b fun l => { l with heldItems := l.heldItems ++ [(d, a)] }) |> noteStall b i

/-- A stateless pass takes the action of its lookup (R75, R137): applied at once, or as a work item without a window. -/
def statelessAction (b : Nat) (d : Desc) (a : Word64) (s : State) : State :=
  if actRoutine a = 0 then applyAction b d a (List.replicate 19 0) s
  else
    let (ok, s) := policeAction b d a s
    if ok then offerStateless b d a s else dropPass (underAction d a) (actQueue a) DROP_POLICER s

/-- An action of Table 3.9 as R137 amends it, a reserved value acting as the reset value DROP (R9). -/
def defaultAct (b act ring source code : Nat) (d : Desc) (s : State) : State :=
  match act with
  | 0 =>
    let (a, _, s) := sieveLookup b d.key d.template d.stamp s
    statelessAction b { d with fallback := true } a s
  | 2 => puntPass d ring d.cls source 0 s
  | _ => dropPass d d.cls code s

/-- TILL_FT_PORT_ACT of the packet's original ingress port, in that port's own Branch (R149). -/
def portAct (d : Desc) : Nat := Reg.TILL_FT_PORT_ACT (d.port / 16) (d.port % 16)

/-- OVF_ACT of the packet's port (R135, R136). -/
def overflowAct (b code : Nat) (d : Desc) (s : State) : State :=
  defaultAct b (fieldOf s (portAct d) 1 0) (fieldOf s (portAct d) 11 8) 3 code d s

/-- SETUP_ACT of the packet's port (R140). -/
def setupAct (b : Nat) (d : Desc) (s : State) : State :=
  defaultAct b (fieldOf s (portAct d) 5 4) (fieldOf s (portAct d) 11 8) 4 DROP_SETUP_LIMIT d s

/-! ### Decisions on a record -/

/-- How a packet is decided on a record. -/
inductive Decision
  | done (s : State)
  /-- the want of a place in the ready list, under which nothing has been done yet (R189) -/
  | full
  /-- the record was CLOSED and its key's next one needs a relocation: it has left the Till, and the packet goes to the miss
  queue (R129, R131) -/
  | noroom (s : State)

/-- The packet of a record becomes a work item after its visit (R113 step 5, R151), if it has or finds a place. -/
def toItem (b k : Nat) (d : Desc) (a : Word64) (setup reclass : Bool) (s : State) : Decision :=
  let s := visit b k d s
  let i := packetItem s b d a (some k) setup reclass
  if d.entered.isSome || placeFree s b i.prio then .done (addItem b i s) else .full

/-- The update unit handles a packet (R114). -/
def updateUnit (b k : Nat) (d : Desc) (s : State) : State :=
  let s := visit b k d s
  let a := match wayAt s b k with | some w => wordAt w.rc 6 | none => 0
  s |> bump64 (Reg.TILL_FAST_CNT_LO b) 1 |> perf (uTill b) 0x03 |> applyAction b d a (visitParams s b k)

/-- The setup limiter refuses a setup (R140). -/
def noteRefusedSetup (b : Nat) (s : State) : State :=
  s |> bump (Reg.TILL_FT_SETUP_LIMIT_CNT b) |> cause (Reg.TILL_FT_IRQ_CAUSE b) 2

/-- After a record has been set up in way k: its first visit, and its action or its work item (R115). -/
def setupPass (b k : Nat) (d : Desc) (a : Word64) (s : State) : Decision :=
  if actRoutine a = 0 then
    let s := s |> visit b k d
    .done (s |> mirrorSetup b k |> applyAction b d a (visitParams s b k))
  else toItem b k d a true false (modWay b k (fun w => { w with setupNew := true }) s)

/-- The claim of the way's slot, a new one where it has none. -/
def claimFor (b : Nat) (w : Way) (s : State) : Nat × State := match w.claim with | some n => (n, s) | none => newClaim b s

/-- A new record of the key of way k, CLOSED or expired, takes the way, dirty, and a slot under a claim (R129, R130): the way's own,
or a free candidate. -/
def renewWay (b k : Nat) (w : Way) (rc : Rec) (t : Nat) (v : VClass) (s : State) : State :=
  match reuseSlot b k w t v s with
  | (some c, s) =>
    let (n, s) := claimFor b w s
    occStep c (putWay b k ⟨rc, c, true, some n⟩) s
  | (none, s) => s

/-- A setup decided on a CLOSED or expired record of the Till: the new record takes its way (R129, log entry 17). -/
def setupInPlace (b k : Nat) (d : Desc) (s : State) : Decision :=
  let (a, _, s) := sieveLookup b d.key d.template d.stamp s
  if actNoRecord a then .done (statelessAction b d a s)
  else
    let (ok, s) := takeToken b s
    if !ok then .done (s |> noteRefusedSetup b |> setupAct b d)
    else
      match wayAt s b k with
      | none => .done s
      | some w => s |> renewWay b k w (newRecord s d ⟨a, d.stamp, true⟩ false) d.arr .fill |> noteSetup b |> setupPass b k d a

/-- A visit to a record classified under an older stamp (R86, R113): it is classified afresh. -/
def reclassify (b k : Nat) (d : Desc) (fast : Bool) (s : State) : Decision :=
  let (a, _, s) := sieveLookup b d.key d.template d.stamp s
  let s := s |> bump (Reg.SIEVE_STALE_CNT b) |> perf (uTill b) 0x07
  if actNoRecord a then .done (s |> closeWay b k false false |> statelessAction b d a)
  else
    let s := modWay b k (fun w => markDirty s.time.tick
      { w with rc := setW0 (withWord w.rc 6 a) 63 48 d.stamp }) s
    if fast || actRoutine a = 0 then .done (updateUnit b k d s) else toItem b k d a false true s

/-- R113 from step 2 on. -/
def decideFrom2 (b k : Nat) (d : Desc) (s : State) : Decision :=
  match wayAt s b k with
  | none => .done s
  | some w =>
    let h := d.hash
    let s := noteState b h w.rc s
    if roomless s b k d.arr then .noroom (leaveTill b k d.arr s)
    else if rcDead w.rc then setupInPlace b k d s
    else if rcExpired s w.rc d.arr then setupInPlace b k d (closeWay b k true false s)
    else
      let age := (d.stamp + 65536 - rcAccord w.rc) % 65536
      if 1 ≤ age ∧ age ≤ 32768 then
        reclassify b k d (rcFast w.rc) s
      else
        let a := wordAt w.rc 6
        if rcFast w.rc || actRoutine a = 0 then .done (updateUnit b k d s) else toItem b k d a false false s

/-- The record is in use, so that a packet waits on it (R113 step 1, R191). -/
def mustWait (s : State) (b k : Nat) (w : Way) : Bool := rcLock w.rc || !w.chain.isEmpty || itemOn s b k

/-- A dummy item for the trace of a packet that enters WAITING. -/
def waitItem (d : Desc) (s : State) : Item :=
  { id := 0, g0 := 0, g1 := d.hash, prio := 1, readyAt := s.time.tick }

/-- A packet joins the chain of the record of way k, with its place and its entry order in the ready list (R188, R191). -/
def joinChain (b k : Nat) (w : Way) (d : Desc) (s : State) : State :=
  s |> setWay b k { w with chain := w.chain ++ [{ d with entered := some (s.dispAt b).nextId }] }
    |> (·.modDisp b fun x => { x with nextId := x.nextId + 1 }) |> notePeak b |> noteWaiting b (waitItem d s) d.frame

/-- R113 whole. -/
def decide (b k : Nat) (d : Desc) (s : State) : Decision :=
  match wayAt s b k with
  | none => .done s
  | some w =>
    if mustWait s b k w then (if placeFree s b 1 then .done (joinChain b k w d s) else .full)
    else decideFrom2 b k d s

/-! ### OPEN -/

/-- The answer of an OPEN reaches its Teller: the way it now holds locked, or none (R166). -/
def answerOpen (t : Nat) (k : Option Nat) (s : State) : State := s.modTeller t fun x => { x with opened := some k }

/-- An OPEN whose turn has come on a record of the Till (R118, R166, log entry 18). -/
def openOnWay (b k t : Nat) (s : State) : State :=
  match wayAt s b k with
  | none => answerOpen t none s
  | some w =>
    let s := noteState b (hashOf s (recKey w.rc)) w.rc s
    if rcLock w.rc then setWay b k { w with openers := w.openers ++ [(t, s.time.tick)] } s
    else if rcDead w.rc then answerOpen t none s
    else if rcExpired s w.rc (ledgerNow s) then s |> closeWay b k true false |> answerOpen t none
    else s |> lockWay b k t |> answerOpen t (some k)

/-! ### Host record operations on a record of the Till -/

/-- The record staged in TILL_HREC_DATA0 to 31. -/
def stagedRec (s : State) (b : Nat) : Rec :=
  Vector.ofFn fun i : Fin 16 => BitVec.ofNat 64 (pairOf s (Reg.TILL_HREC_DATA b (2 * i.val)))

/-- The operation of a TILL instance has been performed. -/
def hostDone (b : Nat) (a : HostAnswer) (s : State) : State :=
  s.modLedger b fun l => { l with hreq := { l.hreq with done := some a, onScan := none } }

/-- STATUS.WHERE of an operation on a record of the Till: the Vault, where the operation itself has filled it from there. -/
def hostWhere (s : State) (b : Nat) : Nat := if (s.ledgerAt b).hreq.filled then 2 else 1

/-- An answer about a record of the Till. -/
def hostWay (b k result where_ : Nat) (data : Bool) (s : State) : State :=
  match wayAt s b k with
  | some w =>
    let owner := if rcLock w.rc then some (w.owner.getD 0, w.lockAt) else none
    hostDone b ⟨result, where_, some w.slot, w.pinEff, owner, if data then some w.rc else none⟩ s
  | none => hostDone b { result := result } s

/-- BAD_FIELD of a WRITE on a record (Table 5.10, Table 5.9). -/
def badWrite (m : Nat) (st rc : Rec) : Bool :=
  (m.testBit 0 && (w0Bits st 18 16 != 0 || (rcState st != rcState rc && rcState st != 4 &&
    !(rcState st == 3 && (rcState rc == 1 || rcState rc == 2))))) || (m.testBit 6 && (wordAt st 6).getLsbD 8)

/-- BAD_FIELD of a CREATE. -/
def badCreate (st : Rec) : Bool :=
  w0Bits st 18 16 != 0 || (wordAt st 6).getLsbD 8 || !(rcState st == 1 || rcState st == 2)

/-- The bits of W0 that software and microcode may write: AGE_CLASS, MIRROR_CLASS, PIN, DURABLE, FAST, STATE_LOST, UFLAGS. -/
def w0Writable : Word64 := 0xFCE8FFFF#64

/-- The words of a WRITE (Table 5.9), STATE apart. -/
def writeWords (m : Nat) (st rc : Rec) : Rec :=
  (List.range 16).foldl (fun r i =>
    if !m.testBit i || (1 ≤ i && i ≤ 5) then r
    else if i = 0 then withWord r 0 ((wordAt r 0 &&& ~~~ w0Writable) ||| (wordAt st 0 &&& w0Writable))
    else withWord r i (wordAt st i)) rc

/-- The record of a CREATE: ACCORD the current GEN, LOCK 0 (Table 5.9). -/
def createdRecord (s : State) (b : Nat) : Rec := setW0 (setW0 (stagedRec s b) 63 48 s.accord.gen) 25 25 0

/-- WRITE on a record of the Till. -/
def hostWrite (b k where_ : Nat) (s : State) : State :=
  let st := stagedRec s b
  let m := (s.ledgerAt b).hreq.wmask
  match wayAt s b k with
  | none => s
  | some w =>
    if badWrite m st w.rc then hostWay b k 7 where_ false s
    else if m.testBit 14 && w.scans != 0 then s.modLedger b fun l => { l with hreq := { l.hreq with onScan := some k } }
    else
      let goal := if m.testBit 0 && rcState st != rcState w.rc then rcState st else rcState w.rc
      let rc := writeWords m st w.rc
      let rc := if goal = 3 then setW0 rc 35 32 3 else rc
      let w' := markDirty s.time.tick { w with rc := rc }
      let s := setWay b k (if m.testBit 0 then { w' with pinEff := w.pinEff && rcPin rc } else w') s
      let s := if goal = 4 ∧ rcState w.rc ≠ 4 then closeWay b k false false s else if m.testBit 0 then pinWay b k s else s
      hostWay b k 0 where_ false s

/-- The operation's turn on a record of the Till (R119, R120, Table 5.9). -/
def hostOnTill (b k where_ : Nat) (s : State) : State :=
  match wayAt s b k with
  | none => s
  | some w0 =>
    let op := (s.ledgerAt b).hreq.op
    let s := noteState b (hashOf s (recKey w0.rc)) w0.rc s
    let s := if !rcDead w0.rc && rcExpired s w0.rc (ledgerNow s) && !rcLock w0.rc then closeWay b k true false s else s
    match wayAt s b k with
    | none => s
    | some w =>
      let live := !rcDead w.rc
      if op = 3 then
        if rcLock w.rc then hostWay b k 3 where_ false s
        else if live then hostWay b k 2 where_ false s
        else if badCreate (stagedRec s b) then hostWay b k 7 where_ false s
        else s |> renewWay b k w (createdRecord s b) (ledgerNow s) .fill |> hostWay b k 0 where_ false
      else if !live then hostDone b { result := 1 } s
      else if op = 1 then hostWay b k 0 where_ true s
      else if op = 5 then s |> writeBack b k |> hostWay b k 0 where_ false
      else if rcLock w.rc then hostWay b k 3 where_ false s
      else if op = 2 then hostWrite b k where_ s
      else s |> closeWay b k false false |> hostWay b k 0 where_ false

/-! ### Mirror messages on a record of the Till -/

/-- The record of a mirror message as it is created here (Table 13.8): stale, without affinity, dirty. -/
def mirrorRecord (s : State) (rc : Rec) : Rec :=
  let r := setW0 (setW0 rc 63 48 ((s.accord.gen + 65535) % 65536)) 25 25 0
  withWord r 15 (setWbits (wordAt r 15) 31 31 0)

/-- W8, W9 and W11 each take the larger value. -/
def takeLarger (mine sent : Rec) : Rec :=
  [8, 9, 11].foldl (fun r i => withWord r i (if wordAt mine i < wordAt sent i then wordAt sent i else wordAt mine i)) mine

/-- A message that is ignored because the receiver's record stands (Table 13.8). -/
def mirrorIgnored (s : State) : State := bump Reg.TETH_MIRROR_IGNORED_CNT s

/-- A mirror message's turn on a record of the Till (Table 13.8). As a host WRITE does, it changes nothing on a locked
record (R120, R327). -/
def mirrorOnTill (b k type side : Nat) (rc : Rec) (s : State) : State :=
  match wayAt s b k with
  | none => s
  | some w0 =>
    let s := noteState b (hashOf s (recKey w0.rc)) w0.rc s
    let s := if !rcDead w0.rc && rcExpired s w0.rc (ledgerNow s) && !rcLock w0.rc then closeWay b k true false s else s
    match wayAt s b k with
    | none => s
    | some w =>
      if rcLock w.rc then s
      else
        let ok := bump Reg.TETH_MIRROR_RX_CNT s
        let put := fun r => setWay b k (markDirty s.time.tick { w with rc := r }) ok
        if rcDead w.rc then if type = 3 then s else renewWay b k w (mirrorRecord s rc) (ledgerNow s) .mirror ok
        else if type = 1 then
          if wordAt rc 10 < wordAt w.rc 10 ∨ (wordAt rc 10 = wordAt w.rc 10 ∧ side = 0) then
            pinWay b k (put (takeLarger (takeLarger (mirrorRecord s rc) w.rc) rc))
          else mirrorIgnored s
        else if type = 2 then put (withWord w.rc 7 (wordAt rc 7))
        else if type = 3 then closeWay b k false true ok
        else put (takeLarger w.rc rc)

/-! ### Miss entries -/

def entryAt (s : State) (b id : Nat) : Option MissEntry := (s.ledgerAt b).miss.find? (·.id = id)

def dropEntry (b id : Nat) (s : State) : State := s.modLedger b fun l => { l with miss := delFirst (fun e => e.id == id) l.miss }

/-- Stores an entry in its place, or at the end when it is new. -/
def putEntry (b : Nat) (e : MissEntry) (s : State) : State :=
  s.modLedger b fun l =>
    { l with miss := if l.miss.any (·.id = e.id) then updFirst (fun x => x.id == e.id) (fun _ => e) l.miss else l.miss ++ [e] }

/-- Descriptor places in use (R134). -/
def descsHeld (l : Ledger) : Nat := l.miss.foldl (fun n e => n + e.waiters.length) 0

/-- TILL_FT_MQ_PEAK takes in the occupancy. -/
def noteQueue (b : Nat) (s : State) : State :=
  let l := s.ledgerAt b
  s |> peak (Reg.TILL_FT_MQ_PEAK b) 31 17 l.miss.length |> peak (Reg.TILL_FT_MQ_PEAK b) 16 0 (descsHeld l)

/-- The packets of an entry, oldest first. -/
def entryPackets (e : MissEntry) : List Desc := e.waiters.filterMap fun w => match w with | .packet d _ => some d | _ => none

/-- The relocation of a setup starts (R131): one P3 item that carries both slots. -/
def startReloc (b : Nat) (e : MissEntry) (s : State) : Bool × State :=
  let moves := min 8 (fieldOf s (Reg.TILL_FT_RELOC_CFG 0) 3 0)
  if moves = 0 then (false, s)
  else
    let (x, y) := cands s e.hash
    let (ok, s) := offerMaint b (fieldOf s (Reg.DISP_MAINT_ROUTINE b) 7 0) (.reloc e.id) e.hash (BitVec.ofNat 64 (x + 2 ^ 32 * y)) s
    (ok, if ok then bump (Reg.TILL_FT_RELOC_CNT b) s else s)

/-- No slot has been made free (R132). -/
def noteNoslot (b : Nat) (s : State) : State := s |> bump (Reg.TILL_FT_NOSLOT_CNT b) |> cause (Reg.TILL_FT_IRQ_CAUSE b) 3

/-- How a step of an entry ends. -/
inductive EntryStep
  /-- the waiter has been served -/
  | served (s : State)
  /-- the waiter has been served, and the next one finds the candidates searched -/
  | searched (s : State)
  /-- every packet of the entry is refused (R140) -/
  | refused (s : State)
  /-- the entry waits with the waiter at its head -/
  | wait (e : MissEntry) (s : State)
  /-- a host operation has been served, and holds the entry until it completes (R120) -/
  | hold (s : State)

/-- The poisoned candidate of an entry that lost its state (R141). Where both candidates are poisoned, R128 and R141 say only "the
poisoned slot": it is A (DESIGN CHOICE, log entry 124). -/
def lostSlot (s : State) (e : MissEntry) : Nat := if e.poisonA then (cands s e.hash).1 else (cands s e.hash).2

/-- The entry's head packet finds no place in the ready list: it is held (R189), and the entry goes on from there. -/
def holdEntry (b : Nat) (e : MissEntry) (d : Desc) (searched : Bool) (s : State) : EntryStep :=
  .wait { e with stage := .place searched } (match e.stage with | .place _ => s | _ => noteStall b (waitItem d s) s)

/-- The setup pass visits the record that has been set up for it (R115), or is held for want of a place (R189). -/
def setupTurn (b k : Nat) (e : MissEntry) (d : Desc) (a : Word64) (s : State) : EntryStep :=
  match setupPass b k d a s with
  | .done s' => .served s'
  | _ => holdEntry b e d true s

/-- A setup whose slot is claimed: its record is composed from the entry's head packet, installed and handled, or waits
for a way or a place (R107, R115, R138). -/
def finishSetup (b : Nat) (e : MissEntry) (d : Desc) (u : Setup) (slot n : Nat) (again : Bool) (s0 : State) : EntryStep :=
  let lost := e.poisonA || e.poisonB
  let f : Fill := ⟨newRecord s0 d u lost, slot, true, some n⟩
  let e := { e with setup := some u }
  match install b e.hash f s0 with
  | none => .wait { e with stage := .noway f } (if again then s0 else noteNoway b s0)
  | some (k, s) =>
    let s := noteSetup b s
    let s := if lost then noteStateLost b e.hash (lostSlot s e) s else s
    setupTurn b k { e with stage := .reading true } d u.action s

/-- The lookup of a setup and its token (R115, R139), made once per setup: whether the setup may go on. -/
def setupLook (b : Nat) (e : MissEntry) (d : Desc) (s : State) : Setup × Bool × State :=
  match e.setup with
  | some u => (u, true, s)
  | none =>
    let (a, _, s) := sieveLookup b d.key d.template d.stamp s
    let (ok, s) := if actNoRecord a then (true, s) else takeToken b s
    (⟨a, d.stamp, true⟩, ok, s)

/-- A setup whose candidates have been searched in vain (R115, R129, R131, R139). -/
def setupEntry (b : Nat) (e : MissEntry) (d : Desc) (s0 : State) : EntryStep :=
  let (u, ok, s) := setupLook b e d s0
  if actNoRecord u.action then .searched (statelessAction b d u.action s)
  else if !ok then .refused (noteRefusedSetup b s)
  else
    match placeSlot b e.hash e.key d.arr .fill s with
    | (some c, s) =>
      let (n, s) := newClaim b s
      -- the claim counts from here on: the entry holds it until its record is installed
      let s := occStep c (putEntry b { e with setup := some u, stage := .noway ⟨newRecord s d u false, c, true, some n⟩ }) s
      finishSetup b e d u c n false s
    | (none, s) =>
      let (ok, s) := startReloc b e s
      if ok then .wait { e with setup := some u, stage := .relocating } s else .refused (noteNoslot b s)

/-- A host operation that is answered at once holds its entry until it completes (R120). -/
def hostAnswered (b : Nat) (a : HostAnswer) (s : State) : EntryStep := .hold (hostDone b a s)

/-- A host CREATE of a key that neither the Till nor the Vault holds (R119). -/
def hostCreate (b : Nat) (e : MissEntry) (s : State) : EntryStep :=
  if badCreate (stagedRec s b) then hostAnswered b { result := 7 } s
  else
    match placeSlot b e.hash e.key (ledgerNow s) .fill s with
    | (some c, s) =>
      let (n, s) := newClaim b s
      let f : Fill := ⟨createdRecord s b, c, true, some n⟩
      let s := occStep c (putEntry b { e with stage := .noway f }) s
      match install b e.hash f s with
      | some (k, s) => .hold (hostWay b k 0 1 false s)
      | none => .wait { e with stage := .noway f } (noteNoway b s)
    | (none, s) =>
      let (ok, s) := startReloc b e s
      if ok then .wait { e with stage := .relocating } s else hostAnswered b { result := 6 } (noteNoslot b s)

/-- A host operation on a record that only the Vault holds (R119); a refused WRITE fills nothing (log entry 103). -/
def hostOnRecord (b : Nat) (e : MissEntry) (slot : Nat) (r : Rec) (s : State) : EntryStep :=
  let op := (s.ledgerAt b).hreq.op
  if op = 1 then hostAnswered b { result := 0, where_ := 2, slot := some slot, data := some r } s
  else if op = 5 then hostAnswered b { result := 0, where_ := 2, slot := some slot } s
  else if op = 3 then hostAnswered b { result := 2, where_ := 2, slot := some slot } s
  else if op = 2 && badWrite (s.ledgerAt b).hreq.wmask (stagedRec s b) r then
    hostAnswered b { result := 7, where_ := 2, slot := some slot } s
  else
    let s := s.modLedger b fun l => { l with hreq := { l.hreq with filled := true } }
    match install b e.hash ⟨r, slot, false, none⟩ s with
    | some (k, s) => .hold (hostOnTill b k 2 s)
    | none => .wait { e with stage := .noway ⟨r, slot, false, none⟩ } (noteNoway b s)

/-- A host operation's turn on a key that is not in the Till (R119 to R121). -/
def hostOnVault (b : Nat) (e : MissEntry) (s : State) : EntryStep :=
  let (found, poisoned, s) := searchBoth b .fill e.hash e.key (ledgerNow s) s
  match found with
  | some (slot, r) => hostOnRecord b e slot r s
  | none =>
    if (s.ledgerAt b).hreq.op = 3 then hostCreate b e s else hostAnswered b { result := if poisoned then 5 else 1 } s

/-- A mirror message's turn on a key that is not in the Till (Table 13.8): class 3 reads, no token. -/
def mirrorOnVault (b : Nat) (e : MissEntry) (type side : Nat) (rc : Rec) (s : State) : EntryStep :=
  let (found, _, s) := searchBoth b .mirror e.hash e.key (ledgerNow s) s
  match found with
  | some (slot, r) =>
    match install b e.hash ⟨r, slot, false, none⟩ s with
    | some (k, s) => .served (mirrorOnTill b k type side rc s)
    | none => .wait { e with stage := .noway ⟨r, slot, false, none⟩ } (noteNoway b s)
  | none =>
    if type = 3 then .searched s
    else
      match placeSlot b e.hash e.key (ledgerNow s) .mirror s with
      | (some c, s) =>
        let (n, s) := newClaim b s
        let f : Fill := ⟨mirrorRecord s rc, c, true, some n⟩
        let s := occStep c (putEntry b { e with stage := .noway f }) s
        match install b e.hash f s with
        | some (_, s) => .served (bump Reg.TETH_MIRROR_RX_CNT s)
        | none => .wait { e with stage := .noway f } (noteNoway b s)
      | (none, s) =>
        let (ok, s) := startReloc b e s
        if ok then .wait { e with stage := .relocating } s else .searched (s |> noteNoslot b |> bump Reg.TETH_MIRROR_NOSLOT_CNT)

/-- The entry waits with a candidate read outstanding. -/
def searchAnew (e : MissEntry) (s : State) : EntryStep :=
  .wait { e with stage := .reading false, setup := none, poisonA := false, poisonB := false } s

/-- The turn of a packet on the record of the Till that has its key: its setup's first visit, where the record was set up for it
(R115), else R113. -/
def packetOnTill (b k : Nat) (e : MissEntry) (d : Desc) (searched : Bool) (s : State) : EntryStep :=
  let first := match e.setup, wayAt s b k with
    | some u, some w => if mustWait s b k w || rcDead w.rc then none else some u.action
    | _, _ => none
  match first with
  | some a => setupTurn b k e d a s
  | none =>
    match decide b k d s with
    | .done s' => .served s'
    | .full => holdEntry b e d searched s
    | .noroom s' => searchAnew e s'

/-- A waiter that may create a record, and so needs room for it. -/
def creates (s : State) (b : Nat) : Waiter → Bool
  | .hostOp => (s.ledgerAt b).hreq.op == 3
  | .mirror type _ _ => type != 3
  | _ => false

/-- The turn of an entry's first waiter: on the Till's record when there is one, else by what the search has found. No record of
the Till is probed while the slice is not ON (R112), and a guarded key is left alone (R127). -/
def serve (b : Nat) (e : MissEntry) (w : Waiter) (searched : Bool) (s : State) : EntryStep :=
  if !domOn s (13 + b) then searchAnew e s
  else
    match probe s b e.hash e.key with
    | some k =>
      if creates s b w && roomless s b k (ledgerNow s) then searchAnew e (leaveTill b k (ledgerNow s) s)
      else
        match w with
        | .packet d _ => packetOnTill b k e d searched s
        | .hostOp => .hold (hostOnTill b k (hostWhere s b) s)
        | .teller t => .served (openOnWay b k t s)
        | .mirror type side rc => .served (mirrorOnTill b k type side rc s)
    | none =>
      match w with
      | .packet d _ => if searched then setupEntry b e d s else searchAnew e s
      | .hostOp =>
        if keyGuarded s b e.key then .wait { e with stage := .guarded, setup := none } s
        else if vaultReady s e.hash then hostOnVault b e s else searchAnew e s
      | .teller t => if searched then .searched (answerOpen t none s) else searchAnew e s
      | .mirror type side rc =>
        if keyGuarded s b e.key then .wait { e with stage := .guarded, setup := none } s
        else if vaultReady s e.hash then mirrorOnVault b e type side rc s else searchAnew e s

/-- Serves the waiters of an entry in order until it is empty or must wait (R113, R134, R138). -/
def runEntry : Nat → Nat → MissEntry → Bool → State → State
  | 0, b, e, searched, s => putEntry b { e with stage := .place searched } s
  | n + 1, b, e, searched, s =>
    match e.waiters with
    | [] => dropEntry b e.id s
    | w :: rest =>
      match serve b e w searched s with
      | .served s' => runEntry n b { e with waiters := rest, setup := none, stage := .reading false } false s'
      | .searched s' => runEntry n b { e with waiters := rest, setup := none, stage := .reading false } true s'
      | .hold s' => putEntry b { e with waiters := rest, setup := none, stage := .held } s'
      | .wait e' s' => putEntry b e' s'
      | .refused s' =>
        let s'' := (entryPackets e).foldl (fun s d => setupAct b d s) s'
        runEntry n b { e with waiters := e.waiters.filter (!isPacket ·), setup := none } true s''

/-- An entry goes on with fuel for every waiter. -/
def goOn (b : Nat) (e : MissEntry) (searched : Bool) (s : State) : State := runEntry (e.waiters.length + 2) b e searched s

/-! ### Joining the miss queue -/

/-- A waiter finds a descriptor place and its key's entry, or takes a new one; none when either is exhausted (R134,
R136). A new entry begins at once. -/
def attach (b : Nat) (hash : Word64) (key : Ckey) (w : Waiter) (s : State) : Option State :=
  let l := s.ledgerAt b
  if 65536 ≤ descsHeld l then none
  else
    match l.miss.find? (·.key = key) with
    | some e => some (s |> putEntry b { e with waiters := e.waiters ++ [w] } |> noteQueue b)
    | none =>
      if 16384 ≤ l.miss.length then none
      else
        let e : MissEntry := { id := l.nextMiss, key := key, hash := hash, waiters := [w] }
        let s := s |> (·.modLedger b fun l => { l with nextMiss := l.nextMiss + 1 }) |> putEntry b e |> noteQueue b
        some (if isPacket w then s else goOn b e false s)

/-- A packet joins the miss queue (R134, R136), where it holds no place of the ready list. -/
def joinMiss (b : Nat) (d : Desc) (s : State) : State :=
  match attach b d.hash d.ckey (.packet { d with waited := true, entered := none } s.time.tick) s with
  | some s => modFrame d.frame (fun x => { x with waited := true }) s
  | none => s |> bump (Reg.TILL_FT_MISS_FULL_CNT b) |> cause (Reg.TILL_FT_IRQ_CAUSE b) 1 |> overflowAct b DROP_MISS_FULL d

/-- A packet that misses the Till (R134, R136). -/
def missPacket (b : Nat) (d : Desc) (s : State) : State :=
  s |> bump64 (Reg.TILL_MISS_CNT_LO b) 1 |> perf (uTill b) 0x02 |> joinMiss b d

/-- The waiting chain of an unlocked record is decided from its head until a packet becomes a work item (R191). Where the record
needs a relocation, the chain goes to the miss queue in its order. -/
def chainRun : Nat → Nat → Nat → State → State
  | 0, _, _, s => s
  | n + 1, b, k, s =>
    match wayAt s b k with
    | none => s
    | some w =>
      if rcLock w.rc || itemOn s b k then s
      else
        match w.chain with
        | [] => s
        | d :: rest =>
          match decideFrom2 b k d (setWay b k { w with chain := rest } s) with
          | .done s' => chainRun n b k s'
          | .full => s
          | .noroom s' => (d :: rest).foldl (fun s d => joinMiss b d s) s'

/-- The OPENs that wait for a lock take their turns, oldest first, until one of them holds it; then the waiting chain (R118, R191,
log entry 15). -/
def openersRun : Nat → Nat → Nat → State → State
  | 0, _, _, s => s
  | n + 1, b, k, s =>
    match wayAt s b k with
    | none => s
    | some w =>
      if rcLock w.rc then s
      else
        match w.openers with
        | (t, _) :: rest => openersRun n b k (s |> setWay b k { w with openers := rest } |> openOnWay b k t)
        | [] => chainRun (w.chain.length + 1) b k s

/-! ### Release of a record -/

/-- Work items of the record of way k. -/
def itemsOf (s : State) (b k : Nat) : List Item := (s.dispAt b).items.filter (·.way == some k)

/-- The item has started: a Teller runs it or it is parked. -/
def Item.started (i : Item) : Bool := match i.st with | .running _ | .parked _ => true | _ => false

/-- A record with an unrecoverable word leaves the Till (R400): a clean one is dropped, a dirty one poisons its slot; what
waited on it, or for a Teller with it, is decided anew. -/
def loseWay (b k : Nat) (s : State) : State :=
  match wayAt s b k with
  | none => s
  | some w =>
    let a := ftRecord s.vault w.slot
    let ds := (itemsOf s b k).filterMap (·.desc)
    let s := s.modDisp b fun d => { d with items := d.items.filter (·.way != some k) }
    let s := if rcDirty w.rc then
        occStep w.slot (fun s => s |> dropWay b k |> storeCell a .poison) (countWrite a b .writeBack s)
      else occStep w.slot (dropWay b k) s
    let s := w.openers.foldl (fun s (t, _) => s.modTeller t fun x => { x with opening := none }) s
    (ds ++ w.chain).foldl (fun s d => missPacket b d s) s

/-- A word of a record is unrecoverable (R400): a record that is locked, or whose work item has started, is kept until its release
(log entry 37). -/
def loseWord (b k word : Nat) (s : State) : State :=
  match wayAt s b k with
  | none => s
  | some w => if rcLock w.rc || (itemsOf s b k).any (·.started) then
      setWay b k { w with lostWords := if word ∈ w.lostWords then w.lostWords else w.lostWords ++ [word] } s
    else loseWay b k s

/-- Page g of Branch b's Till slice: the records of ways 4 g to 4 g + 3 (R395). -/
def tillPage (s : State) (b g : Nat) : Page :=
  { mem := 0, branch := b, num := g
    held := fun i =>
      match wayAt s b (4 * g + i / 16) with
      | some w => if i % 16 ∈ w.lostWords then none else some (wordAt w.rc (i % 16))
      | none => some 0
    put := fun i v => modWay b (4 * g + i / 16) fun w => { w with rc := withWord w.rc (i % 16) v }
    lose := fun i => loseWord b (4 * g + i / 16) (i % 16) }

/-- The words of the record of way k are read (R394 to R396): the whole page, where one of them has bits in error. -/
def wayRead (b k : Nat) (flips : List WordFlips) (s : State) : State :=
  if flips.any fun f => f.page == k / 4 && f.word.val / 16 == k % 4 then (tillPage s b (k / 4)).readAll flips s else s

/-- The mirror message of a record's release (R326): SETUP of a new record, or else BIND of a changed W7, as its class selects;
whether one was sent. -/
def releaseMirror (b : Nat) (w : Way) (s : State) : Bool × State :=
  let h := hashOf s (recKey w.rc)
  let (sent, s) := if w.setupNew then mirrorEvent b 0 h w.rc s else (false, s)
  if !sent && w.w7Changed then mirrorEvent b 1 h w.rc s else (sent, s)

/-- The lock of a record ends (R118, R166, R191, R326, log entry 15): its mirror message, then the OPENs that wait for the lock and
the waiting chain. -/
def releaseLock (b k : Nat) (s : State) : State :=
  let s := unlockWay b k s
  match wayAt s b k with
  | none => s
  | some w =>
    let (sent, s) := releaseMirror b w s
    if w.lostWords ≠ [] then loseWay b k s
    else
    let w := { w with setupNew := false, w7Changed := false, mirrorAt := if sent then s.time.tick else w.mirrorAt }
    s |> setWay b k w |> openersRun (w.openers.length + 1) b k

/-! ### The probe stage -/

/-- A probe hits way k (R102, R106). -/
def probeHit (b k : Nat) (s : State) : State := s |> bump64 (Reg.TILL_HIT_CNT_LO b) 1 |> perf (uTill b) 0x01 |> touchWay b k

/-- The probe stage works on a descriptor, or holds it for want of a place (R113, R189). -/
def probeDesc (b : Nat) (d : Desc) (s : State) : State :=
  match probe s b d.hash d.ckey with
  | some k =>
    match decide b k d (probeHit b k s) with
    | .done s' => s'
    | .full => s |> (·.modLedger b fun l => { l with stalled := some d }) |> noteStall b (waitItem d s)
    | .noroom s' => joinMiss b d s'
  | none => missPacket b d s

/-- The descriptor that the probe stage takes next: round robin over its four input queues (R62), from that of B0 on after reset: R62
does not say which is served first (DESIGN CHOICE, log entry 121). -/
def takeInput (s : State) (b : Nat) : Option (Nat × Desc) :=
  let at_ := fun i => (Tbl.get (s.assayAt i).out b []).head?
  ((List.range 4).map fun i => ((s.ledgerAt b).last + 1 + i) % 4).findSome? fun i => (at_ i).map (i, ·)

/-- The probe stage may work: the slice is ON (R112) and nothing waits for a place (R189). -/
def probeOpen (s : State) (b : Nat) : Bool :=
  domOn s (13 + b) && !(s.ledgerAt b).miss.any fun e => match e.stage with | .place _ => true | _ => false

/-- The probe stage holds something for want of a place (R189). -/
def probeHeld (s : State) (b : Nat) : Bool :=
  let l := s.ledgerAt b
  l.stalled.isSome || !l.heldItems.isEmpty || l.miss.any fun e => match e.stage with | .place _ => true | _ => false

/-- The descriptor that the probe stage works on next. -/
def probeNext (s : State) (b : Nat) : Option Desc :=
  match (s.ledgerAt b).stalled with
  | some d => some d
  | none => (takeInput s b).map (·.2)

/-- The record that the probe stage's next probe hits is read through its codes (R394). -/
def probeRead (b : Nat) (flips : List WordFlips) (s : State) : State :=
  if probeOpen s b && (s.ledgerAt b).heldItems.isEmpty then
    match (probeNext s b).bind fun d => probe s b d.hash d.ckey with
    | some k => wayRead b k flips s
    | none => s
  else s

/-- The probe stage: what it holds comes first, then the next descriptor (R62, R113). -/
def tillProbe (b : Nat) (s : State) : State :=
  let l := s.ledgerAt b
  match l.heldItems, l.stalled with
  | (d, a) :: rest, _ =>
    if placeFree s b (actionPrio s a) then addStateless b d a false (s.setLedger b { l with heldItems := rest }) else s
  | [], some d => if probeOpen s b then
      (match probe s b d.hash d.ckey with
       | some k => (match decide b k d (probeHit b k (s.setLedger b { l with stalled := none })) with
         | .done s' => s' | .full => s | .noroom s' => joinMiss b d s')
       | none => missPacket b d (s.setLedger b { l with stalled := none })) else s
  | [], none =>
    if probeOpen s b then
      match takeInput s b with
      | some (i, d) =>
        s |> (·.modAssay i fun a => { a with out := Tbl.set a.out b [] ((Tbl.get a.out b []).drop 1) })
          |> (·.modLedger b fun l => { l with last := i }) |> perf (uBranch b) 0x04 |> probeDesc b d
      | none => s
    else s

/-- TILL_PROBE (R62, R113), with the bits in error of the words that it reads. -/
def execTillProbe (b : Fin 4) (flips : List WordFlips) (s : State) : Host.Outcome State Fault Refusal :=
  .next (tillProbe b.val (probeRead b.val flips s))

/-! ### Fills -/

/-- A live record has been found for an entry (R126): it is installed clean, or waits for a way, or for the slice to be ON
(R112). -/
def fillFound (b : Nat) (e : MissEntry) (f : Fill) (s : State) : State :=
  if !domOn s (13 + b) then putEntry b { e with stage := .noway f } s
  else
    match install b e.hash f s with
    | some (_, s) => goOn b e false s
    | none => s |> noteNoway b |> putEntry b { e with stage := .noway f }

/-- Neither candidate holds the key live (R126, R138). -/
def fillNone (b : Nat) (e : MissEntry) (s : State) : State := goOn b e true s

/-- Payload of a recovery request: form 0 BY_KEY or 1 BY_SLOT, the request's number, and the key or the slot (R331, log
entry 78). -/
def recoverPayload (id : Nat) (slot : Option Nat) (key : Ckey) : Bytes :=
  match slot with
  | some n => 1#8 :: leBytes 4 id ++ leBytes 4 n
  | none => 0#8 :: leBytes 4 id ++ leBytes 40 key.toNat

/-- A recovery request for a record is sent, or fails at once outside PAIRED (R331). -/
def askPeer (who : RecoverFor) (s : State) : Bool × State :=
  if s.teth.pair = .paired ∧ s.teth.up then
    let id := s.teth.nextReq
    let payload := match who with
      | .audit slot => recoverPayload id (some slot) 0
      | .miss b e => recoverPayload id none (match entryAt s b e with | some x => x.key | none => 0)
    (true, { s with
      teth := { s.teth with
        nextReq := (id + 1) % 2 ^ 32
        recoveries := s.teth.recoveries ++ [⟨id, who, s.time.tick⟩]
        recQ := s.teth.recQ ++ [(2, payload)] } } |> bump Reg.TETH_RECOVER_REQ_CNT)
  else (false, bump Reg.TETH_RECOVER_FAIL_CNT s)

/-- PD26 exists and the Tether is up (R128). -/
def peerThere (s : State) : Bool := s.treas.exist.testBit 26 && s.teth.up

/-- A candidate is poisoned and the other does not hold the key live (R128): the peer is asked for a packet's record;
a packet without it is a setup with STATE_LOST. -/
def fillPoisoned (b : Nat) (e : MissEntry) (s : State) : State :=
  if e.waiters.any isPacket && peerThere s then
    let (ok, s) := askPeer (.miss b e.id) s
    if ok then putEntry b { e with stage := .peer (lostSlot s e) } s else fillNone b e s
  else fillNone b e s

/-- The waiter at an entry's head is a host operation or a mirror message, which searches both candidates in one turn. -/
def searchesBoth (e : MissEntry) : Bool := match e.waiters with | .hostOp :: _ | .mirror _ _ _ :: _ => true | _ => false

/-- A search of both candidates that has found no live record ends (R128, R141). -/
def searchEnded (b : Nat) (e : MissEntry) (s : State) : State := if e.poisonA || e.poisonB then fillPoisoned b e s else fillNone b e s

/-- What the read of a candidate found decides how the fill goes on (R126, R127). -/
def readDone (b : Nat) (e : MissEntry) (second : Bool) (slot : Nat) (f : Found) (s : State) : State :=
  let e := if f.isPoison then (if second then { e with poisonB := true } else { e with poisonA := true }) else e
  match f with
  | .live r =>
    let s := bump64 (if second then Reg.TILL_FT_VHIT_B_LO b else Reg.TILL_FT_VHIT_A_LO b) 1 s
    fillFound b e ⟨r, slot, false, none⟩ s
  | .ended => searchEnded b e s
  | _ => if second then searchEnded b e s else putEntry b { e with stage := .reading true } s

/-- The outstanding candidate read of an entry returns (R126 to R128), as poisoned when its read fell in the window of a lasting
CA parity error (R378). -/
def candidateRead (b id : Nat) (lost : Bool) (s : State) : State :=
  match entryAt s b id with
  | none => s
  | some e =>
    match e.stage with
    | .reading second =>
      if keyGuarded s b e.key then putEntry b { e with stage := .guarded } s
      else if searchesBoth e || (probe s b e.hash e.key).isSome then goOn b e false s
      else
        let (x, y) := cands s e.hash
        let slot := if second then y else x
        let t := match entryPackets e with | d :: _ => d.arr | [] => ledgerNow s
        let (f, s) := if lost then lostRead b slot .fill s else testSlot b slot .fill e.hash e.key t s
        readDone b e second slot f s
    | _ => s

/-- The read of an entry's candidate comes in its turn (R142). -/
def candidateTurn (s : State) (e : MissEntry) : Bool :=
  match entryNeeds s e with
  | some (a, k) => turnFree s (chanOf s.vault a) k
  | none => true

/-- CANDIDATE_READ_DONE: the channels of the candidates must serve requests (R374, R425), and the read have its turn. -/
def candidateDone (b id : Nat) (s : State) : State :=
  match entryAt s b id with
  | some e => if vaultReady s e.hash && candidateTurn s e then candidateRead b id false s else s
  | none => s

def execCandidateReadDone (b : Fin 4) (entry : Nat) (s : State) : Host.Outcome State Fault Refusal :=
  .next (candidateDone b.val entry s)

/-- A fill that waits for a way is tried again (R107). -/
def retryFill (b : Nat) (e : MissEntry) (f : Fill) (s : State) : State :=
  match f.claim, e.setup, e.waiters with
  | some n, some u, .packet d _ :: rest =>
    match finishSetup b e d u f.slot n true s with
    | .served s' => goOn b { e with waiters := rest, setup := none } false s'
    | .wait e' s' => putEntry b e' s'
    | _ => s
  | some _, _, .hostOp :: rest =>
    match install b e.hash f s with
    | some (k, s) => s |> hostWay b k 0 1 false |> putEntry b { e with waiters := rest, stage := .held }
    | none => s
  | some _, _, .mirror _ _ _ :: rest =>
    match install b e.hash f s with
    | some (_, s) => goOn b { e with waiters := rest } false (bump Reg.TETH_MIRROR_RX_CNT s)
    | none => s
  | _, _, _ =>
    match install b e.hash f s with
    | some (_, s) => goOn b e false s
    | none => s

/-- FILL_RETRY (R107, R131, R189): a way of the set, a guard or a place has become free. -/
def fillRetry (b id : Nat) (s : State) : State :=
  match entryAt s b id with
  | none => s
  | some e =>
    match e.stage with
    | .noway f => if domOn s (13 + b) then retryFill b e f s else s
    | .guarded => if keyGuarded s b e.key then s else putEntry b { e with stage := .reading false } s
    | .place searched => goOn b e searched s
    | _ => s

def execFillRetry (b : Fin 4) (entry : Nat) (s : State) : Host.Outcome State Fault Refusal := .next (fillRetry b.val entry s)

/-- A relocation for an entry's setup or CREATE has ended: with a slot freed and claimed, or in vain (R131, R132). -/
def relocEnded (b id : Nat) (freed : Option Nat) (s : State) : State :=
  match entryAt s b id with
  | none => s
  | some e =>
    match e.stage with
    | .relocating =>
      match freed with
      | some slot =>
        s |> (·.modLedger b fun l => { l with freed := [slot] }) |> goOn b e true |> (·.modLedger b fun l => { l with freed := [] })
      | none =>
        let s := noteNoslot b s
        match e.waiters with
        | .packet _ _ :: _ =>
          let s := (entryPackets e).foldl (fun s d => setupAct b d s) s
          goOn b { e with waiters := e.waiters.filter (!isPacket ·), setup := none } true s
        | .hostOp :: rest => s |> hostDone b { result := 6 } |> putEntry b { e with waiters := rest, stage := .held }
        | .mirror _ _ _ :: rest => goOn b { e with waiters := rest } true (bump Reg.TETH_MIRROR_NOSLOT_CNT s)
        | _ => goOn b e true s
    | _ => s

/-- The peer's answer to a recovery for an entry (R128, R331): its record, written with an ACCORD that makes it stale, heals
the poisoned slot and is used as a Vault hit; no record makes a setup with STATE_LOST. -/
def peerAnswer (b id : Nat) (r : Option Rec) (s : State) : State :=
  match entryAt s b id with
  | none => s
  | some e =>
    match e.stage with
    | .peer slot =>
      match r with
      | some rc =>
        let rc := setW0 (vaultCopy rc) 63 48 ((s.accord.gen + 65535) % 65536)
        s |> writeRecord (ftRecord s.vault slot) b .fill rc |> bump (Reg.TILL_FT_PEER_RECOVER_CNT b)
          |> fillFound b e ⟨rc, slot, false, none⟩
      | none => fillNone b e s
    | _ => s

/-! ### Miss timeouts -/

/-- The oldest packet of an entry comes to its head, as the setup pass of a setup that stands (R138). -/
def headPacket (e : MissEntry) : MissEntry :=
  match e.waiters.find? isPacket with
  | some w => { e with waiters := w :: delFirst isPacket e.waiters }
  | none => e

/-- An abandoned setup leaves its entry, which goes on under a new number, so that a relocation still at work for the setup frees
its slot for no one (R132, R138). -/
def abandonSetup (b : Nat) (e : MissEntry) (s : State) : State :=
  let s := dropEntry b e.id s
  if e.waiters.isEmpty then s
  else goOn b { e with id := (s.ledgerAt b).nextMiss, setup := none } true (s.modLedger b fun l => { l with nextMiss := l.nextMiss + 1 })

/-- What becomes of an entry that a packet has left (R138): a setup stands while packets remain, with the oldest of them, and is
abandoned otherwise; a fill goes on. -/
def afterLeave (b : Nat) (e : MissEntry) (s : State) : State :=
  if e.setup.isNone then putEntry b e s
  else if e.waiters.any isPacket then putEntry b (headPacket e) s
  else
    match e.stage with
    | .noway f => s |> occStep f.slot (dropEntry b e.id) |> abandonSetup b e
    | _ => abandonSetup b e s

/-- MISS_TIMEOUT (R135): a packet has waited longer than its port's MISS_TMO_US and takes its OVF_ACT. The wait of packets whose
record stands in the Till, and which are held only for want of a place in the ready list, has ended. -/
def missTimeout (b id frame : Nat) (s : State) : State :=
  match entryAt s b id with
  | none => s
  | some e =>
    match e.waiters.find? fun w => match w with | .packet d _ => d.frame == frame | _ => false with
    | some (.packet d t) =>
      if (probe s b e.hash e.key).isNone ∧ us (max 1 (fieldOf s (portAct d) 25 16)) < since s t then
        let e := { e with waiters := delFirst (fun w => match w with | .packet d _ => d.frame == frame | _ => false) e.waiters }
        s |> bump (Reg.TILL_FT_MISS_TMO_CNT b) |> cause (Reg.TILL_FT_IRQ_CAUSE b) 0 |> perf (uTill b) 0x08
          |> afterLeave b e |> overflowAct b DROP_MISS_TIMEOUT d
      else s
    | _ => s

def execMissTimeout (b : Fin 4) (entry frame : Nat) (s : State) : Host.Outcome State Fault Refusal :=
  .next (missTimeout b.val entry frame s)

/-! ### Host record operations -/

/-- The flow hash of the staged key. -/
def stagedHash (s : State) (b : Nat) : Word64 := hashOf s (recKey (stagedRec s b))

/-- READ_SLOT (Table 5.9): a slot as it stands in the Vault. -/
def readSlot (b : Nat) (s : State) : State :=
  let slot := fieldOf s (Reg.TILL_HREQ_SLOT b) 29 0
  if s.vault.ftLog2 = 0 ∨ 2 ^ s.vault.ftLog2 ≤ slot then hostDone b { result := 1 } s
  else if slot / quarter s.vault ≠ b then hostDone b { result := 4 } s
  else
    let (cell, s) := readRecord (ftRecord s.vault slot) b .fill s
    match cell with
    | .data r => hostDone b { result := 0, where_ := 2, slot := some slot, data := some r } s
    | .poison => hostDone b { result := 5, where_ := 2, slot := some slot, data := some Rec.empty } s

/-- The operation begins (R119, R120); one on a record waits for the slice to be ON (R112). -/
def hostBegin (b : Nat) (s : State) : State :=
  let op := (s.ledgerAt b).hreq.op
  if op = 0 ∨ 6 < op then hostDone b { result := 8 } s
  else if op = 6 then readSlot b s
  else
    let key := recKey (stagedRec s b)
    let h := stagedHash s b
    if homeOf h ≠ b then hostDone b { result := 4 } s
    else if !domOn s (13 + b) then s.modLedger b fun l => { l with hreq := { l.hreq with held := true } }
    else
      let s := s.modLedger b fun l => { l with hreq := { l.hreq with held := false } }
      match (probe s b h key).filter fun k => !(op == 3 && roomless s b k (ledgerNow s)) with
      | some k => hostOnTill b k 1 s
      | none =>
        let gone := match probe s b h key with | some k => leaveTill b k (ledgerNow s) s | none => s
        (attach b h key .hostOp gone).getD (hostDone b { result := 9 } s)

/-- An operation that was held while its slice was not ON goes on (R112). -/
def hostRelease (b : Nat) (s : State) : State := if (s.ledgerAt b).hreq.held then hostBegin b s else s

/-- A write of TILL_HREQ_CMD (R119): ignored while BUSY; one of a non-zero OP is ignored outside RUN. -/
def hostCommand (b op wmask : Nat) (s : State) : State :=
  if (s.ledgerAt b).hreq.busy ∨ (op ≠ 0 ∧ s.loader.st ≠ .run) then s
  else
    let s := setField (Reg.TILL_HREQ_CMD b) 31 16 wmask s
    if op = 0 then s
    else s |> (·.modLedger b fun l => { l with hreq := { op := op, wmask := wmask, busy := true } }) |> hostBegin b

def execTillLookup (b : Fin 4) (s : State) : Host.Outcome State Fault Refusal := .next (gated (hostCommand b.val 1 0) s)
def execTillWrite (b : Fin 4) (wmask : BitVec 16) (s : State) : Host.Outcome State Fault Refusal :=
  .next (gated (hostCommand b.val 2 wmask.toNat) s)
def execTillCreate (b : Fin 4) (s : State) : Host.Outcome State Fault Refusal := .next (gated (hostCommand b.val 3 0) s)
def execTillDelete (b : Fin 4) (s : State) : Host.Outcome State Fault Refusal := .next (gated (hostCommand b.val 4 0) s)
def execTillFlush (b : Fin 4) (s : State) : Host.Outcome State Fault Refusal := .next (gated (hostCommand b.val 5 0) s)
def execTillReadSlot (b : Fin 4) (s : State) : Host.Outcome State Fault Refusal := .next (gated (hostCommand b.val 6 0) s)

/-- A record is copied to TILL_HREC_DATA0 to 31. -/
def fillHrec (b : Nat) (r : Rec) (s : State) : State :=
  (List.range 16).foldl (fun s i => setPair (Reg.TILL_HREC_DATA b (2 * i)) (wordAt r i).toNat s) s

/-- HREQ_DONE (R121): the operation completes; the key's entry that it held goes on (R120). -/
def hreqDone (b : Nat) (s : State) : State :=
  match (s.ledgerAt b).hreq.done with
  | none => s
  | some a =>
    let h := stagedHash s b
    let key := recKey (stagedRec s b)
    let s := match a.data with | some r => fillHrec b r s | none => s
    let s := match a.slot with | some n => setField (Reg.TILL_HREQ_SLOT b) 29 0 n s | none => s
    let s := s |> (·.modLedger b fun l => { l with hreq := {} })
      |> regStore (Reg.TILL_HREQ_STATUS b) (BitVec.ofNat 32 (a.result + 2 ^ 19 * b2n a.pinEff + 2 ^ 20 * b2n a.owner.isSome + 2 ^ 24 * a.where_))
      |> regStore (Reg.TILL_HREQ_OWNER b) (match a.owner with | some (t, _) => BitVec.ofNat 32 (2 ^ 31 + t) | none => 0)
      |> setPair (Reg.TILL_HREQ_LOCKT_LO b) (match a.owner with | some (_, t) => t | none => 0)
      |> setPair (Reg.TILL_HREQ_HASH_LO b) h.toNat
      |> stamp (Reg.TILL_HREQ_DONE_SEC b) (Reg.TILL_HREQ_DONE_NS b) |> cause (Reg.TILL_IRQ_CAUSE b) 0
    match (s.ledgerAt b).miss.find? fun e => e.key = key ∧ e.stage = .held with
    | some e => goOn b { e with stage := .reading false } false s
    | none => s

def execHreqDone (b : Fin 4) (s : State) : Host.Outcome State Fault Refusal := .next (hreqDone b.val s)

/-- A WRITE of W14 that waited for a Nose request goes on (R233). -/
def hostResume (b k : Nat) (s : State) : State :=
  if (s.ledgerAt b).hreq.onScan = some k then hostOnTill b k (hostWhere s b) s else s

/-- LOCK_WAIT_TIMEOUT's test (R118): the OPEN of Teller t has waited for a lock for TILL_LOCK_WAIT_TMO. -/
def lockWaitOver (s : State) (b t : Nat) : Option Nat :=
  let limit := us (max 1 (fieldOf s (Reg.TILL_LOCK_WAIT_TMO 0) 15 0))
  ((s.ledgerAt b).ways.find? fun (_, w) => w.openers.any fun (u, at_) => u == t && limit ≤ since s at_).map (·.1)

end Sys2Proof.Machine
end

