-- ==== Sys2Proof/Machine/Audit.lean ====
section
/-!
DEFINITION. The Auditor of chapter 16 (R403 to R407): laps, visits of Vault records and on-chip pages, and the recovery of
flow-table slots.
-/
namespace Sys2Proof.Machine

/-! ### Laps -/

/-- Pages of on-chip memory m in one lap (Table 16.5). -/
def auditPages (m : Nat) : Nat := if m = 5 then 4096 else 98304

/-- The Auditor may visit memory m now (R404). -/
def auditOn (s : State) (m : Nat) : Bool :=
  !(s.treas.brown != .normal || s.treas.pstate = .quiet) &&
    (if m = 0 then flagOf s Reg.AUDIT_CTRL 0 else if m = 5 then flagOf s Reg.AUDIT_CTRL 2 && domOn s 27
     else flagOf s Reg.AUDIT_CTRL 1 && domOn s (12 + m))

/-- Ranks of channel c that a lap visits, ascending: present ones, but for RETIRED and a rank spared out (Table 16.5). -/
def auditRanks (v : Vault) (c : Nat) : List Nat :=
  [2 * c, 2 * c + 1].filter fun r => rankPresent v r && v.retired != some r && !(v.spareSt == .done && v.spareSrc == r)

/-- Where channel c's part of the lap stands, as 2^29 × rank + record. -/
def lapMark (s : State) (c : Nat) : Nat := Tbl.get s.audit.visited (8 + c) (2 ^ 29 * (2 * c))

/-- The record that the lap visits next on channel c, in rank then record order; none when the channel has been visited. -/
def lapNext (s : State) (c : Nat) : Option (Nat × Nat) :=
  let p := lapMark s c
  ((auditRanks s.vault c).find? fun r => p / 2 ^ 29 ≤ r).map fun r => (r, if r = p / 2 ^ 29 then p % 2 ^ 29 else 0)

/-- Records that channel c has behind it in the lap. -/
def lapBehind (s : State) (c : Nat) : Nat :=
  match lapNext s c with
  | some (r, u) => rankRecords s.vault * ((auditRanks s.vault c).takeWhile (· != r)).length + u
  | none => rankRecords s.vault * (auditRanks s.vault c).length

/-- The slowest channel of those that have records to visit: its next rank and record (AUDIT_VAULT_CURSOR). -/
def lapSlowest (s : State) : Nat × Nat :=
  let cs := (List.range 8).filter fun c => (lapNext s c).isSome
  match cs with
  | [] => (0, 0)
  | c :: rest => (lapNext s (rest.foldl (fun m c => if lapBehind s c < lapBehind s m then c else m) c)).getD (0, 0)

/-- Milliseconds that memory m's lap has run. -/
def lapMs (s : State) (m : Nat) : Nat := match Tbl.find s.audit.lapAt m with | some t => since s t / 1000000 | none => 0

/-- A lap begins at the first visit after PORST_N (R403). -/
def lapBegin (m : Nat) (s : State) : State :=
  let a := s.audit
  if (Tbl.find a.lapAt m).isSome then s else { s with audit := { a with lapAt := Tbl.put a.lapAt m s.time.tick } }

/-- Keys of `visited` that belong to memory m. -/
def lapKeys (m k : Nat) : Bool := if m = 0 then 8 ≤ k else k == m

/-- Every unit of memory m has been visited: the lap ends and the next begins (R403). -/
def lapEnd (m : Nat) (s : State) : State :=
  let a := s.audit
  let ms := lapMs s m
  { s with audit := { a with visited := a.visited.filter fun p => !lapKeys m p.1, lapAt := Tbl.put a.lapAt m s.time.tick,
                             alarmed := a.alarmed.filter (· ≠ m) } }
    |> regStore (Reg.AUDIT_LAP_LAST m) (BitVec.ofNat 32 ms) |> tally (Reg.AUDIT_LAP_LAPS m)
    |> emit 0x00D 0x6D (m + 2 ^ 16 * (ms % 2 ^ 48))

/-- A page of memory m has been visited, in the order of the pages (log entry 133). -/
def pageVisited (m : Nat) (s : State) : State :=
  let n := Tbl.get s.audit.visited m 0 + 1
  if n < auditPages m then { s with audit := { s.audit with visited := Tbl.set s.audit.visited m 0 n } } else lapEnd m s

/-- Record u of a rank has been visited: its channel's mark moves on. -/
def recordVisited (rank u : Nat) (s : State) : State :=
  let next := if u + 1 < rankRecords s.vault then 2 ^ 29 * rank + u + 1 else 2 ^ 29 * (rank + 1)
  let s := { s with audit := { s.audit with visited := Tbl.put s.audit.visited (8 + rank / 2) next } }
  if (List.range 8).all fun c => (lapNext s c).isNone then lapEnd 0 s else s

/-- AUDIT_LAP_ALARM (R404): a lap's running time has passed the limit. -/
def lapAlarm (m : Nat) (s : State) : State :=
  let limit := fieldOf s Reg.AUDIT_LAP_LIMIT 31 0
  if limit ≠ 0 ∧ 1000 * limit < lapMs s m ∧ m ∉ s.audit.alarmed then
    { s with audit := { s.audit with alarmed := s.audit.alarmed ++ [m] } } |> cause Reg.AUDIT_IRQ_CAUSE 3
      |> emit 0x00D 0x6E (m + 2 ^ 16 * (lapMs s m % 2 ^ 48))
  else s

def execAuditLapAlarm (m : Fin 6) (s : State) : Host.Outcome State Fault Refusal := .next (lapAlarm m.val s)

/-! ### Flow-table slots -/

/-- A POISONED record (Table 16.7). -/
def notePoisoned (a : Nat) (ft asked : Bool) (s : State) : State := emit 0x00D 0x6B (a + 2 ^ 36 * b2n ft + 2 ^ 37 * b2n asked) s

/-- A PEER_REPAIR record with its outcome (Table 16.7). -/
def notePeerRepair (a outcome : Nat) (s : State) : State := emit 0x00D 0x6C (a + 2 ^ 36 * outcome) s

/-- The recovery of a slot has failed: it stays poisoned (R406). -/
def peerFail (slot outcome : Nat) (counted : Bool) (s : State) : State :=
  let s := if counted then bump Reg.AUDIT_PEER_FAIL_CNT s else s
  s |> cause Reg.AUDIT_IRQ_CAUSE 4 |> notePeerRepair (ftRecord s.vault slot) outcome

/-- The way that holds a slot's record. -/
def wayOfSlot (s : State) (slot : Nat) : Option Nat :=
  ((s.ledgerAt (slot / quarter s.vault)).ways.find? fun (_, w) => w.slot == slot).map (·.1)

/-- A flow-table slot that the Auditor has found poisoned (R406): the Till's record overwrites it, or the peer is asked. -/
def auditSlot (slot : Nat) (s : State) : State :=
  let b := slot / quarter s.vault
  let a := ftRecord s.vault slot
  match wayOfSlot s slot with
  | some k => s |> notePoisoned a true false |> modWay b k (markDirty s.time.tick)
  | none =>
    if slotClaimed s slot then notePoisoned a true false s
    else if s.teth.pair = .paired then
      let (ok, s) := askPeer (.audit slot) (notePoisoned a true true s)
      if ok then s else peerFail slot 3 true s
    else s |> notePoisoned a true false |> peerFail slot 5 false

/-- A slot poisoned while a relocation guarded it is read again once the guard is released, and acted on as it then
stands (R406). -/
def auditReleased (s : State) : State :=
  let due := s.audit.waiting.filter fun slot => !guarded s slot
  let s := { s with audit := { s.audit with waiting := s.audit.waiting.filter fun slot => slot ∉ due } }
  due.foldl (fun s slot =>
    let (cell, s) := readRecord (ftRecord s.vault slot) (slot / quarter s.vault) .granted s
    if cell = .poison then auditSlot slot s else s) s

/-- The other candidate of a slot's key holds the key live: in the Till under it, or, no record of the Till standing in it, in the
Vault (R127). -/
def otherLive (s : State) (slot : Nat) (h : Word64) (key : Ckey) : Bool :=
  let (x, y) := cands s h
  let other := if x = slot then y else x
  other != slot &&
    match probe s (slot / quarter s.vault) h key with
    | some k => (match wayAt s (slot / quarter s.vault) k with
      | some w => w.slot == other && rcLive s w.rc (ledgerNow s)
      | none => false)
    | none => !slotClaimed s other &&
      match peekRecord s (ftRecord s.vault other) with
      | .data r => recKey r == key && rcLive s r (ledgerNow s)
      | .poison => false

/-- The peer's answer for a slot (R406): its record is written when it meets the conditions and the slot is still poisoned
and not held by the Till. -/
def auditAnswer (slot : Nat) (r : Option Rec) (status : Nat) (s : State) : State :=
  match r with
  | none => peerFail slot status true s
  | some rc =>
    let key := recKey rc
    let h := hashOf s key
    let mine := (cands s h).1 = slot ∨ (cands s h).2 = slot
    if 1 ≤ rcState rc ∧ rcState rc ≤ 3 ∧ mine ∧ !otherLive s slot h key ∧ peekRecord s (ftRecord s.vault slot) = .poison ∧
        (wayOfSlot s slot).isNone ∧ !slotClaimed s slot then
      let rc := setW0 (vaultCopy rc) 63 48 ((s.accord.gen + 65535) % 65536)
      s |> writeRecord (ftRecord s.vault slot) (slot / quarter s.vault) .mirror rc |> bump Reg.AUDIT_PEER_REPAIR_CNT
        |> notePeerRepair (ftRecord s.vault slot) 0
    else peerFail slot 6 false s

/-! ### Records -/

/-- A lasting error that the Auditor finds in a region-space record (R405). -/
def auditLasting (a words : Nat) (s : State) : State :=
  let s := vaultLasting a .auditor words s
  match slotOf s.vault a with
  | some slot =>
    let s := cause Reg.AUDIT_IRQ_CAUSE 0 s
    if guarded s slot then { s with audit := { s.audit with waiting := s.audit.waiting ++ [slot] } } else auditSlot slot s
  | none => s |> cause Reg.AUDIT_IRQ_CAUSE 1 |> notePoisoned a false false

/-- A record of a rank is in service: reads of its region-space record are served from it (R381). -/
def inService (v : Vault) (rank u : Nat) : Option Nat := (recordAt v rank u).filter fun a => readRank v a == rank

/-- The region-space record by which an error of record u of a rank is logged; of a spare without a position, u. -/
def loggedRecord (v : Vault) (rank u : Nat) : Nat :=
  if v.spare = some rank ∧ v.spareSt = .migrating then (recordAt v v.spareSrc u).getD u else (recordAt v rank u).getD u

/-- A lasting error that the Auditor finds in a copy that serves no reads (R382, R397, R405): of a READY spare's record the rewrite
with zeros heals it; any other copy stays poisoned. -/
def idleLasting (rank u words : Nat) (s : State) : State :=
  let a := loggedRecord s.vault rank u
  let ready := s.vault.spareSt = .ready ∧ s.vault.spare = some rank
  let s := { s with vault := setCell s.vault rank u (if ready then .data Rec.empty else .poison) }
  let s := if ready then chanWrite rank u 0 .granted s else s
  noteLasting rank a .auditor words s

/-- A correctable record is rewritten as corrected (R405). -/
def scrubRecord (rank u : Nat) (s : State) : State :=
  (match inService s.vault rank u with
   | some a => countWrite a 0 .granted s
   | none => chanWrite rank u 0 .granted s) |> bump Reg.AUDIT_VAULT_CE_SCRUB_CNT

/-- A Vault record read by the Auditor (R393, R402, R405). -/
def auditRecord (rank u : Nat) (found : AuditFound) (s : State) : State :=
  let s := match inService s.vault rank u with | some a => settleMerge a s | none => s
  let s := chanRead rank u .granted s
  if peekCell s rank u = .poison then bump Reg.AUDIT_POISON_READ_CNT s
  else
    match found with
    | .clean => s
    | .correctable devs => devs.foldl (fun s d => countFix rank d s) s |> scrubRecord rank u
    | .transient w => noteTransient rank (loggedRecord s.vault rank u) .auditor w.toNat s
    | .lasting w =>
      match inService s.vault rank u with
      | some a => auditLasting a w.toNat s
      | none => idleLasting rank u w.toNat s

/-! ### Visits -/

/-- The Auditor may read a record of channel c now (R142, R404): the channel is in service, and idle or under the allowance of
user 9. -/
def auditTurn (s : State) (c : Nat) : Bool := (s.chanAt c).st == .service && grantedTurn s c 9

/-- A visit of the Vault on channel c. -/
def visitVault (c : Nat) (found : AuditFound) (s : State) : State :=
  match lapNext s c with
  | some (rank, u) => if auditTurn s c then s |> lapBegin 0 |> auditRecord rank u found |> recordVisited rank u else s
  | none => s

/-- A visit of the next page of memory m. -/
def visitPage (m : Nat) (flips : List WordFlips) (s : State) : State :=
  let g := Tbl.get s.audit.visited m 0
  let s := lapBegin m s
  (if m = 5 then (cofferPage s g).readAll flips s else (tillPage s (m - 1) g).readAll flips s) |> pageVisited m

/-- AUDIT_VISIT (R403 to R407): the Auditor reads the next unit of memory m, of the Vault on channel c. The Coffer is read in idle
arbitration rounds. -/
def auditVisit (m c : Nat) (found : AuditFound) (flips : List WordFlips) (s : State) : State :=
  if !auditOn s m ∨ (m = 5 ∧ s.coffer.pending ≠ []) then s
  else if m = 0 then visitVault c found s
  else visitPage m flips s

def execAuditVisit (m : Fin 6) (c : Fin 8) (found : AuditFound) (flips : List WordFlips) (s : State) :
    Host.Outcome State Fault Refusal := .next (auditVisit m.val c.val found flips s)

end Sys2Proof.Machine
end

