-- ==== Sys2Proof/Machine/Disp.lean ====
section
/-!
DEFINITION. The Dispatcher of chapter 08: choice of an item and a Teller (R192 to R195), pre-emption requests (R196),
host offers (R197), the sweep generator (R198) and the affinity table (R199).
-/
namespace Sys2Proof.Machine

/-! ### Tellers -/

/-- Desk of a Teller. -/
def deskOf (t : Nat) : Nat := t / 8

/-- DISP's Teller number (0 to 31) of Branch b available (R192). -/
def available (s : State) (b i : Nat) : Bool :=
  let t := 32 * b + i
  !flagOf s (Reg.TELL_DESK_CTRL (deskOf t)) 0 && !(s.deskAt (deskOf t)).failed &&
    (s.tellerAt t).st == .idle && !(s.dispAt b).reqs.any (·.1 == i)

/-- An affinity table byte (R199). -/
def affByte (s : State) (b i : Nat) : Nat := Tbl.get (s.dispAt b).aff i (0x80 + i % 32)

/-- The preferred Teller of an item (R193). -/
def preferred (s : State) (b : Nat) (i : Item) : Option Nat :=
  let rec15 := match i.way.bind (wayAt s b) with | some w => wordAt w.rc 15 | none => 0
  if itemWin i && rec15.getLsbD 31 && flagOf s (Reg.DISP_CFG b) 0 then some (wbits rec15 30 26)
  else
    let e := affByte s b (wbits i.g1 15 0)
    if i.g1 != 0 && e.testBit 7 && flagOf s (Reg.DISP_CFG b) 1 then some (e % 32) else none

/-- The order of R195 after Teller p: its Desk, then the Branch's other Desks. -/
def fallbackOrder (p : Nat) : List Nat :=
  ((List.range 8).map fun j => 8 * (p / 8) + (p + 1 + j) % 8) ++
    ((List.range 3).map fun d => (List.range 8).map fun j => 8 * ((p / 8 + 1 + d) % 4) + j).flatten

/-- The first available Teller of R195. -/
def fallback (s : State) (b : Nat) (pref : Option Nat) : Option Nat :=
  (fallbackOrder (pref.getD (s.dispAt b).lastStart)).find? (available s b)

/-! ### Starts -/

/-- G0 with the stamp that an item without a packet takes when it starts (R84). -/
def startG0 (s : State) (i : Item) : Word64 := if itemPkt i then i.g0 else setWbits i.g0 31 16 s.accord.gen

/-- Replaces an item of the ready list. -/
def modItem (b id : Nat) (f : Item → Item) (s : State) : State :=
  s.modDisp b fun d => { d with items := updFirst (fun x => x.id == id) f d.items }

/-- The Teller's state at the start of an item (R151, log entry 25): G4 to G31 and the move buffer are kept. -/
def startTeller (s : State) (i : Item) (x : Teller) : Teller :=
  let g := ((((x.g.setIfInBounds 0 (startG0 s i)).setIfInBounds 1 i.g1).setIfInBounds 2 i.g2).setIfInBounds 3 i.g3)
  { x with
    st := .run, pc := 0x010 + itemRoutine i.g0, g := g, z := false, n := false, c := false, s := false, lc := 0,
    stack := [], hold := 0, full := false, win := i.way, opening := none, opened := none, preempt := none, brkSkip := false,
    ctx := { item := i.id, g0 := startG0 s i, g1 := i.g1, g2 := i.g2, g3 := i.g3, prio := i.prio,
             kv := match i.desc with | some d => d.key | none => 0, moveBuf := x.ctx.moveBuf, desc := i.desc } }

/-- An item starts on Teller 32b + t (R116, R151); the window's record is locked. -/
def startOn (b t : Nat) (i : Item) (s : State) : State :=
  let s := s.setTeller (32 * b + t) (startTeller s i (s.tellerAt (32 * b + t)))
  let s := match i.way with | some k => lockWay b k (32 * b + t) s | none => s
  modItem b i.id (fun x => { x with st := .running (32 * b + t), g0 := startG0 s i }) s

/-- READY items of one priority, oldest first. -/
def readyOf (s : State) (b p : Nat) : List Item := (s.dispAt b).items.filter fun i => i.st == .ready && i.prio == p

/-- P2_MIN and P3_MIN as they act (DISP_SHARE_CFG). -/
def minShares (s : State) (b : Nat) : Nat × Nat :=
  let p2 := fieldOf s (Reg.DISP_SHARE_CFG b) 7 0
  let p3 := fieldOf s (Reg.DISP_SHARE_CFG b) 15 8
  if 128 < p2 + p3 then (64, 64) else (p2, p3)

/-- Starts owed to P2 or P3 by the next start of the run (R194). -/
def owedStarts (s : State) (b p : Nat) : Nat :=
  ((if p = 2 then (minShares s b).1 else (minShares s b).2) * ((s.dispAt b).starts + 1) + 255) / 256

/-- Starts that P2 or P3 has had so far in the run, or that it is not to make up: those owed while none of its items was READY
(R194). -/
def sharesHad (s : State) (b p : Nat) : Nat := if p = 2 then (s.dispAt b).p2 else (s.dispAt b).p3

/-- The same after the start of item i: one more, or all that is owed when no item of the priority is READY. -/
def creditStarts (s : State) (b p : Nat) (i : Item) : Nat :=
  if i.prio = p then sharesHad s b p + 1
  else if (readyOf s b p).isEmpty then max (sharesHad s b p) (owedStarts s b p)
  else sharesHad s b p

/-- Counts of a start (R194, R195, Table 8.9, Table 20.6). -/
def noteStart (b t : Nat) (i : Item) (pref : Option Nat) (s : State) : State :=
  let s := s |> bump (Reg.DISP_START_CNT b i.prio) |> perf (uDisp b) 0x01
    |> (·.modDisp b fun d =>
      let n := d.starts + 1
      if n = 256 then { d with starts := 0, p2 := 0, p3 := 0, lastStart := t }
      else { d with starts := n, p2 := creditStarts s b 2 i, p3 := creditStarts s b 3 i, lastStart := t })
  if pref = some t then s |> bump (Reg.DISP_AFF_HIT_CNT b) |> perf (uDisp b) 0x02 |> trace b 0 i (32 * b + t) pref
  else
    let s := if pref.isSome then s |> bump (Reg.DISP_AFF_FALLBACK_CNT b) |> perf (uDisp b) 0x03 else s
    trace b 1 i (32 * b + t) pref s

/-- The Dispatcher starts an item on an idle Teller. -/
def startItem (b t : Nat) (i : Item) (pref : Option Nat) (s : State) : State := s |> noteStart b t i pref |> startOn b t i

/-! ### Pre-emption -/

/-- A Teller may be asked to give way (R181, R196): it runs a P3 item, has no parked item and a free frame, its Desk is
not draining, and no request is outstanding to it. -/
def preemptible (s : State) (b i : Nat) : Bool :=
  let x := s.tellerAt (32 * b + i)
  (x.st == .run || x.st == .wait) && x.ctx.prio == 3 && x.parked.isNone && x.frames.length < 8 &&
    !flagOf s (Reg.TELL_DESK_CTRL (deskOf (32 * b + i))) 0 && !(s.dispAt b).reqs.any (·.1 == i)

/-- A request for an item, if it has tries left, none outstanding, and a Teller is eligible (R196). -/
def requestPreempt (b : Nat) (i : Item) (pref : Option Nat) (s : State) : Option State :=
  if fieldOf s (Reg.DISP_CFG b) 5 4 ≤ i.tries ∨ (s.dispAt b).reqs.any (·.2 == i.id) then none
  else
    let desk := match pref with | some p => (List.range 8).map (8 * (p / 8) + ·) | none => []
    ((desk ++ List.range 32).find? fun t => preemptible s b t && !i.declined.contains t).map fun t =>
      s |> modItem b i.id (fun x => { x with tries := x.tries + 1 })
        |> (·.modDisp b fun d => { d with reqs := d.reqs ++ [(t, i.id)] })
        |> (·.modTeller (32 * b + t) fun x => { x with traps := x.traps ++ [.preempt] })
        |> bump (Reg.DISP_PREEMPT_REQ_CNT b) |> perf (uDisp b) 0x04 |> trace b 3 i (32 * b + t) pref

/-! ### Decisions -/

/-- The item may start as far as its record goes: no OPEN holds the lock (R116, R118). -/
def recordFree (s : State) (b : Nat) (i : Item) : Bool :=
  match i.way.bind (wayAt s b) with
  | some w => !rcLock w.rc
  | none => true

/-- Table 8.4 for one READY item: what it does, or none when it stays READY. An item whose pre-emption request is
outstanding waits for its answer (R196, log entry 38). -/
def place (b : Nat) (i : Item) (s : State) : Option State :=
  if !recordFree s b i || (s.dispAt b).reqs.any (·.2 == i.id) then none
  else
    let pref := preferred s b i
    let w := since s i.readyAt
    let here := match pref with | some p => available s b p | none => false
    if here then some (startItem b (pref.getD 0) i pref s)
    else if pref.isSome && i.prio == 1 && w < fieldOf s (Reg.DISP_WAIT_CFG b) 15 0 then none
    else
      match fallback s b pref with
      | some t => some (startItem b t i pref s)
      | none =>
        if i.prio == 0 || (i.prio == 1 && fieldOf s (Reg.DISP_WAIT_CFG b) 31 16 ≤ w) then requestPreempt b i pref s else none

/-- The order in which READY items are considered (R194). -/
def considerOrder (s : State) (b : Nat) : List Item :=
  (if sharesHad s b 2 < owedStarts s b 2 then (readyOf s b 2).take 1 else []) ++
    (if sharesHad s b 3 < owedStarts s b 3 then (readyOf s b 3).take 1 else []) ++ readyOf s b 0 ++ readyOf s b 1 ++ readyOf s b 2 ++ readyOf s b 3

/-- No Teller of the Branch can become available: every Desk drained or failed (R201). -/
def noTeller (s : State) (b : Nat) : Bool :=
  (List.range 4).all fun j => flagOf s (Reg.TELL_DESK_CTRL (4 * b + j)) 0 || (s.deskAt (4 * b + j)).failed

/-- NO_TELLER is set when the Branch comes to have no Teller that can become available (R201). -/
def noteNoTeller (b : Nat) (s : State) : State :=
  if noTeller s b = (s.dispAt b).noTeller then s
  else
    let s := s.modDisp b fun d => { d with noTeller := !d.noTeller }
    if (s.dispAt b).noTeller then cause (Reg.DISP_IRQ_CAUSE b) 3 s else s

/-- DISPATCH_DECISION (R194): the first item that starts or asks for a Teller. -/
def dispatchDecision (b : Nat) (s : State) : State :=
  let s := noteNoTeller b s
  ((considerOrder s b).findSome? fun i => place b i s).getD s

def execDispatchDecision (b : Fin 4) (s : State) : Host.Outcome State Fault Refusal := .next (dispatchDecision b.val s)

/-- The end of a wait of R194: when the given limit of a P1 item has passed, a decision is made, which considers the item in its
turn (R194, R196). -/
def waitExpiry (b item : Nat) (hi lo : Nat) (s : State) : State :=
  match (s.dispAt b).items.find? fun i => i.id = item ∧ i.st = .ready ∧ i.prio = 1 with
  | some i => if fieldOf s (Reg.DISP_WAIT_CFG b) hi lo ≤ since s i.readyAt then dispatchDecision b s else s
  | none => s

def execAffWaitExpiry (b : Fin 4) (item : Nat) (s : State) : Host.Outcome State Fault Refusal := .next (waitExpiry b.val item 15 0 s)

def execPreemptWaitExpiry (b : Fin 4) (item : Nat) (s : State) : Host.Outcome State Fault Refusal :=
  .next (waitExpiry b.val item 31 16 s)

/-- DISP_STALL_INTERVAL (R189): a 1 µs interval with the probe stage held. -/
def stallInterval (b : Nat) (s : State) : State := if probeHeld s b then bump (Reg.DISP_FULL_STALL_CNT b) s else s

def execDispStallInterval (b : Fin 4) (s : State) : Host.Outcome State Fault Refusal := .next (stallInterval b.val s)

/-! ### Host offers and the sweep -/

/-- Fields of G0 that an offer keeps: ROUTINE, INGRESS, DIR and USER (Table 8.2). -/
def offeredMask : Word64 := 0x07FF013F000000FF#64

/-- HOST_ITEM_POST (R197): the staged item is offered. -/
def hostPost (b : Nat) (s : State) : State :=
  let g := fun i => BitVec.ofNat 64 (pairOf s (Reg.DISP_HOST_ITEM b (2 * i)))
  let g0 := (g 0 &&& offeredMask) ||| BitVec.ofNat 64 (2 ^ 8 * 2 + 2 ^ 15 + 2 ^ 38 * b)
  let i : Item := { id := 0, g0 := g0, g1 := g 1, g2 := 0, g3 := g 3, prio := 2, kind := .host, readyAt := s.time.tick }
  if itemRoutine g0 = 0 then s |> setField (Reg.DISP_HOST_STATUS b) 1 0 2 |> trace b 6 i 0 none
  else if placeFree s b 2 then s |> setField (Reg.DISP_HOST_STATUS b) 1 0 0 |> addItem b i
  else s |> setField (Reg.DISP_HOST_STATUS b) 1 0 1 |> trace b 6 i 0 none

def execHostItemPost (b : Fin 4) (s : State) : Host.Outcome State Fault Refusal := .next (gated (hostPost b.val) s)

/-- SWEEP_OFFER (R198, log entry 26): every PERIOD_US the sweep generator offers one item; a refused offer leaves the
cursor. -/
def sweepOffer (b : Nat) (s : State) : State :=
  let period := fieldOf s (Reg.DISP_SWEEP_CFG b) 15 0
  let r := fieldOf s (Reg.DISP_MAINT_ROUTINE b) 15 8
  if period = 0 ∨ r = 0 ∨ s.vault.ftLog2 = 0 ∨ !running s ∨ !generatorsOn s ∨ since s (s.dispAt b).sweepAt < us period then s
  else
    let q := quarter s.vault
    let raw := fieldOf s (Reg.DISP_SWEEP_CURSOR b) 29 0
    let cur := if q ≤ raw then 0 else raw
    let n := min (max 1 (fieldOf s (Reg.DISP_SWEEP_CFG b) 31 16)) (q - cur)
    let s := s.modDisp b fun d => { d with sweepAt := s.time.tick }
    let (ok, s) := offerMaint b r .sweep 0 (BitVec.ofNat 64 (b * q + cur + 2 ^ 32 * n)) s
    if ok then setField (Reg.DISP_SWEEP_CURSOR b) 29 0 ((cur + n) % q) s
    else s |> bump (Reg.DISP_POST_REFUSED_CNT b) |> cause (Reg.DISP_IRQ_CAUSE b) 1

def execSweepOffer (b : Fin 4) (s : State) : Host.Outcome State Fault Refusal := .next (sweepOffer b.val s)

/-! ### Affinity table -/

def setAff (b i v : Nat) (s : State) : State := s.modDisp b fun d => { d with aff := Tbl.set d.aff i (0x80 + i % 32) v }

/-- INDEX advances after an access of DISP_AFF_DATA under AUTOINC. -/
def affNext (b : Nat) (s : State) : State :=
  if flagOf s (Reg.DISP_AFF_ADDR b) 31 then setField (Reg.DISP_AFF_ADDR b) 15 0 ((fieldOf s (Reg.DISP_AFF_ADDR b) 15 0 + 1) % 65536) s else s

/-- A write of DISP_AFF_DATA. -/
def affWrite (b : Nat) (v : Word32) (s : State) : State :=
  s |> setAff b (fieldOf s (Reg.DISP_AFF_ADDR b) 15 0) (v.toNat % 256 &&& 0x9F) |> affNext b

/-- AFF_DATA_ACCESS (R199): a read or write of DISP_AFF_DATA, after which INDEX advances under AUTOINC. -/
def affAccess (b : Nat) (w : Option Word32) (s : State) : State :=
  match w with
  | some v => gated (affWrite b v) s
  | none =>
    if barOpen s then
      let v := affByte s b (fieldOf s (Reg.DISP_AFF_ADDR b) 15 0)
      affNext b { s with out := { s.out with ok := true, data := leBytes 4 v } }
    else { s with out := { s.out with ok := true, data := leBytes 4 0 } }

def execAffDataAccess (b : Fin 4) (w : Option Word32) (s : State) : Host.Outcome State Fault Refusal := .next (affAccess b.val w s)

end Sys2Proof.Machine
end

