-- ==== Sys2Proof/Machine/Nose.lean ====
section
/-!
DEFINITION. The Nose of chapter 10: the automaton (R228 to R230), streams in W14 (R231, R232), scan requests and their
results (R234 to R240), bursts (R241), throttle steps (R242), brownout (R243), reports (R244), group updates (R245 to
R249) and memory errors (R250).
-/
namespace Sys2Proof.Machine

/-! ### The automaton -/

def noseUnit (s : State) (u : Nat) : Word64 := Tbl.get s.automata.nodes u 0

def groupAt (s : State) (g : Nat) : NoseGroup := Tbl.get s.automata.groups g {}

def setGroup (g : Nat) (x : NoseGroup) (s : State) : State :=
  { s with automata := { s.automata with groups := Tbl.set s.automata.groups g {} x } }

/-- The unit belongs to the group. -/
def inGroup (x : NoseGroup) (u : Nat) : Bool := x.base ≤ u && u < x.limit

/-- Next state of byte v in state u (R229), not yet checked against the group; none for a reserved KIND. -/
def rawNext (s : State) (u v : Nat) : Option Nat :=
  let h := noseUnit s u
  let half := fun w i => wbits (noseUnit s w) (32 * (i % 2) + 31) (32 * (i % 2))
  match wbits h 63 62 with
  | 0 => some (bits (half (u + 1 + v / 2) v) 21 0)
  | 1 =>
    match (List.range (wbits h 60 56)).find? fun i => bits (half (u + 1 + i / 2) i) 31 24 = v with
    | some i => some (bits (half (u + 1 + i / 2) i) 21 0)
    | none => some (wbits h 53 32)
  | _ => none

/-- The state that byte v leads to; none for a fault of R230. -/
def noseNext (s : State) (x : NoseGroup) (u v : Nat) : Option Nat :=
  match rawNext s u v with
  | some n => if inGroup x n ∧ wbits (noseUnit s n) 63 62 < 2 then some n else none
  | none => none

/-- The patterns of a match list from unit u on (R230); none for a fault. -/
def matchList (s : State) (x : NoseGroup) : Nat → Nat → Option (List Nat)
  | 0, _ => none
  | n + 1, u =>
    let e := noseUnit s u
    let p := wbits e 12 0
    if !inGroup x u ∨ p < x.patFirst ∨ x.patFirst + x.patCount ≤ p then none
    else if e.getLsbD 63 then some [p]
    else (matchList s x n (u + 1)).map (p :: ·)

/-- The patterns reported on reaching state u. -/
def matchesAt (s : State) (x : NoseGroup) (u : Nat) : Option (List Nat) :=
  if (noseUnit s u).getLsbD 61 then matchList s x (x.limit - x.base + 1) (wbits (noseUnit s u) 21 0) else some []

/-- What a scan has reached. -/
structure ScanAcc where
  state : Nat
  offset : Nat
  scanned : Nat := 0
  matches_ : Nat := 0
  /-- the first match: pattern and offset from the current head -/
  first : Option (Nat × Nat) := none
  done : Bool := false
  fault : Bool := false
deriving DecidableEq, Repr

/-- Stream depth limit in bytes (R236); 0 for none. -/
def depthLimit (s : State) : Nat := 1024 * min 16383 (fieldOf s (Reg.NOSE_CFG 0) 31 16)

/-- Pattern p ends its stream. -/
def patStop (s : State) (p : Nat) : Bool := (Tbl.get s.automata.patterns p 0).getLsbD 8

/-- One byte of a scan (R229, R230, R236); `off` is its offset from the current head. -/
def scanByte (s : State) (x : NoseGroup) (off v : Nat) (a : ScanAcc) : ScanAcc :=
  match noseNext s x a.state v with
  | none => { a with fault := true }
  | some u =>
    match matchesAt s x u with
    | none => { a with fault := true, state := u }
    | some ps =>
      let o := capAt 0xFFFFFF (a.offset + 1)
      let first := match a.first, ps with
        | some f, _ => some f
        | none, p :: rest => some (rest.foldl min p, off)
        | none, [] => none
      { state := u, offset := o, scanned := a.scanned + 1, matches_ := a.matches_ + ps.length, first := first,
        done := ps.any (patStop s) || (depthLimit s != 0 && depthLimit s ≤ o) }

/-- The scan of a byte string until its end, the stream's end or a fault. -/
def scanBytes (s : State) (x : NoseGroup) : Nat → Bytes → ScanAcc → ScanAcc
  | _, [], a => a
  | off, v :: rest, a =>
    let a' := scanByte s x off v.toNat a
    if a'.fault || a'.done then a' else scanBytes s x (off + 1) rest a'

/-! ### Results and streams -/

/-- The result word (Table 10.5). -/
def scanResult (s : State) (status : Nat) (a : ScanAcc) : Word64 :=
  let (p, off) := a.first.getD (0, 0)
  let cls := if a.first.isSome then wbits (Tbl.get s.automata.patterns p 0) 7 0 else 0
  BitVec.ofNat 64 (2 ^ 60 * status + 2 ^ 56 * capAt 15 a.matches_ + 2 ^ 48 * cls + 2 ^ 32 * p + 2 ^ 16 * (off % 2 ^ 14) +
    a.scanned % 2 ^ 14)

/-- A result word with a status alone. -/
def bareResult (status : Nat) : Word64 := BitVec.ofNat 64 (2 ^ 60 * status)

/-- W14 of a stream (Table 10.3). -/
def streamWord (done gap : Bool) (group gen state offset : Nat) : Word64 :=
  BitVec.ofNat 64 (2 ^ 63 + 2 ^ 62 * b2n done + 2 ^ 61 * b2n gap + 2 ^ 54 * group + 2 ^ 46 * gen + 2 ^ 24 * state + offset)

/-- The engine writes W14 of a record (R233). -/
def putW14 (b k : Nat) (v : Word64) (s : State) : State :=
  modWay b k (fun w => markDirty s.time.tick { w with rc := withWord w.rc 14 v }) s

/-- W14.GAP of a record is set (R237). -/
def setGap (b k : Nat) (s : State) : State :=
  match wayAt s b k with
  | some w => putW14 b k (wordAt w.rc 14 ||| 0x2000000000000000#64) s
  | none => s

/-- Requests on a record that are queued or running. -/
def reqsOn (n : Nose) (k : Nat) : List ScanReq :=
  (match n.run with | some r => [r.req] | none => []).filter (·.way == some k) ++ n.queue.filter (·.way == some k)

/-- A request that is not carried out leaves a gap in its stream, once every earlier request on the record has ended
(R237, R240, log entry 35). -/
def leaveGap (b : Nat) (way : Option Nat) (s : State) : State :=
  match way with
  | none => s
  | some k =>
    match (reqsOn (s.noseAt b) k).getLast? with
    | some q => s.modNose b fun n => { n with gaps := n.gaps ++ [(k, q.id)] }
    | none => setGap b k s

/-- The gaps whose earlier requests have all ended are set. -/
def settleGaps (b : Nat) (s : State) : State :=
  let n := s.noseAt b
  let due := n.gaps.filter fun (k, id) => !(reqsOn n k).any (·.id ≤ id)
  due.foldl (fun s (k, _) => setGap b k s) (s.setNose b { n with gaps := n.gaps.filter fun g => g ∉ due })

/-- The result of an inline scan reaches its item, running or parked (R235, R237). -/
def giveResult (q : ScanReq) (w : Word64) (s : State) : State :=
  s.modTeller q.teller fun x =>
    if x.ctx.item = q.item then { x with ctx := { x.ctx with scan := some w, scanBusy := false } }
    else match x.parked with
      | some c => if c.item = q.item then { x with parked := some { c with scan := some w, scanBusy := false } } else x
      | none => x

/-! ### Reports -/

/-- A report is lost (R244). -/
def loseReport (b : Nat) (hash w : Word64) (s : State) : State :=
  s |> bump (Reg.NOSE_REPORT_LOST_CNT b) |> cause (Reg.NOSE_IRQ_CAUSE b) 3
    |> emit (srcNose b) 0x43 (w.toNat + 2 ^ 64 * wbits hash 47 0)

/-- The reports at the head of the queue become P3 items while places are free; with ROUTINE 0 they are lost (R244). -/
def offerReports (b : Nat) : Nat → State → State
  | 0, s => s
  | n + 1, s =>
    match (s.noseAt b).reports with
    | [] => s
    | (hash, port, w) :: rest =>
      let r := fieldOf s (Reg.DISP_MAINT_ROUTINE b) 31 24
      let taken := s.modNose b fun n => { n with reports := rest }
      if r = 0 then offerReports b n (loseReport b hash w taken)
      else if placeFree s b 3 then
        let i : Item := { id := 0, g0 := maintG0 b r ||| BitVec.ofNat 64 (2 ^ 32 * port), g1 := hash, g3 := w, prio := 3, kind := .nose }
        offerReports b n (addItem b i taken)
      else s.modNose b fun n => { n with reportAt := s.time.tick }

/-- A monitor scan that found a match is reported, or its report lost (R244). A report behind others waits for its turn. -/
def report (b : Nat) (q : ScanReq) (w : Word64) (s : State) : State :=
  let n := s.noseAt b
  if fieldOf s (Reg.DISP_MAINT_ROUTINE b) 31 24 = 0 ∨ 64 ≤ n.reports.length then loseReport b q.hash w s
  else
    let s := s.setNose b { n with reports := n.reports ++ [(q.hash, q.port, w)] }
    if n.reports.isEmpty then offerReports b 1 s else s

/-- NOSE_REPORT_RETRY (R244): a report that found no place is offered again every 1 µs, with those behind it in order. -/
def reportRetry (b : Nat) (s : State) : State :=
  if since s (s.noseAt b).reportAt < us 1 then s else offerReports b 64 s

def execNoseReportRetry (b : Fin 4) (s : State) : Host.Outcome State Fault Refusal := .next (reportRetry b.val s)

/-! ### Backlog and bursts -/

/-- Bytes of a request that have arrived (R239). -/
def reqArrived (s : State) (q : ScanReq) : Nat :=
  match frameAt s q.frame with
  | some x => let n := x.data.length - (q.head + q.startOff); if q.maxLen = 0 then n else min n q.maxLen
  | none => 0

/-- Bytes of the running request that have arrived and are not yet scanned (R239); of an ended stream none is to be scanned. -/
def runBacklog (s : State) (n : Nose) : Nat :=
  match n.run with | some r => if r.done then 0 else reqArrived s r.req - r.pos / 8 | none => 0

/-- An engine's backlog (R239). -/
def backlog (s : State) (b : Nat) : Nat :=
  let n := s.noseAt b
  n.queue.foldl (fun m q => m + reqArrived s q) (runBacklog s n)

/-- The rate of an engine in bits per ns (R241, R242, Table 10.7): the ceiling of its throttle step while it holds its allowance, else
the base rate. -/
def noseRate (s : State) (b : Nat) : Nat :=
  if allowanceHeld s b then (match (s.noseAt b).step with | 0 => 100 | 1 => 75 | 2 => 50 | _ => 25) else 25

/-- Requests queued or running. -/
def noseQueued (n : Nose) : Nat := n.queue.length + b2n n.run.isSome

/-- The engine asks for its burst allowance when its backlog calls for it (R241). -/
def noseBurst (b : Nat) (s : State) : State :=
  let a := fieldOf s (Reg.NOSE_BURST_CFG 0) 7 0
  if flagOf s (Reg.NOSE_BURST_CFG 0) 8 ∧ a ≠ 0 ∧ 1024 * fieldOf s (Reg.NOSE_BACKLOG_CFG 0) 31 16 ≤ backlog s b then
    requestAllowance b a s
  else s

/-- The tick at which the backlog became 0 is kept (R241). -/
def noteBacklog (b : Nat) (s : State) : State :=
  let z := if backlog s b = 0 then some ((s.noseAt b).zeroSince.getD s.time.tick) else none
  s.modNose b fun n => { n with zeroSince := z }

/-- One ns of the running request: the bytes that have arrived are scanned at the engine's rate (R234, R241; log entry 130). -/
def noseTick (b : Nat) (s : State) : State :=
  match (s.noseAt b).run with
  | some r =>
    let left := 8 * reqArrived s r.req
    if r.done ∨ left ≤ r.pos then s
    else s |> (·.modNose b fun n => { n with run := some { r with pos := min left (r.pos + noseRate s b) } }) |> noteBacklog b
  | none => s

/-- NOSE_BURST_RETURN (R241): the backlog has stayed at 0 for 10 µs. -/
def noseBurstReturn (b : Nat) (s : State) : State :=
  match (s.noseAt b).zeroSince with
  | some t => if backlog s b = 0 ∧ us 10 ≤ since s t then returnAllowance b s else s
  | none => s

def execNoseBurstReturn (b : Fin 4) (s : State) : Host.Outcome State Fault Refusal := .next (noseBurstReturn b.val s)

/-! ### Issue of a scan -/

/-- The group that a request will scan as the record's stream then stands (R232, R245). -/
def effGroup (s : State) (b : Nat) (way : Option Nat) (group : Nat) (isNew : Bool) : Nat × Bool :=
  match way.bind fun k => (wayAt s b k).map (k, ·) with
  | none => (group, false)
  | some (k, w) =>
    let w14 := wordAt w.rc 14
    let (act, g) := (reqsOn (s.noseAt b) k).foldl (fun (act, g) q => if q.isNew || !act then (true, q.group) else (act, g))
      (w14.getLsbD 63, wbits w14 59 54)
    (if isNew || !act then group else g, act)

/-- How a SCAN ends: it waits at the Teller (R235, R240), or it is queued or completes at once. -/
inductive ScanIssue
  | wait
  | done (s : State)

/-- The SCAN completes at once with a status (R227, R237, R240, R243, R245). -/
def scanAtOnce (b : Nat) (q : ScanReq) (status : Nat) (s : State) : State := giveResult q (bareResult status) (leaveGap b q.way s)

/-- QOP SCAN (R234, R235, R240): the request of Teller t for pass d with the operand word of Table 10.4. -/
def issueScan (b t item : Nat) (d : Desc) (way : Option Nat) (qarg : Nat) (src : Word64) (s : State) : ScanIssue :=
  let n := s.noseAt b
  let group := wbits src 21 16
  let isNew := src.getLsbD 22
  let monitor := src.getLsbD 23
  let (eff, active) := effGroup s b way group isNew
  let q : ScanReq := { id := n.nextReq, teller := t, item := item, frame := d.frame, head := d.head, startOff := qarg,
                       maxLen := wbits src 15 0, group := group, isNew := isNew, monitor := monitor, way := way,
                       hash := d.hash, port := d.port, eff := eff }
  let g := groupAt s eff
  let busy := 256 ≤ noseQueued n ∨ 1024 * max 1 (fieldOf s (Reg.NOSE_BACKLOG_CFG 0) 15 0) ≤ backlog s b
  if !domOn s (17 + b) then .done (scanAtOnce b q 0x9 s)
  else if n.hold then .done (s |> bump (Reg.NOSE_STOPPED_CNT b) |> scanAtOnce b q 0x4)
  else if s.automata.groupCount ≤ eff ∨ g.limit ≤ g.base then
    .done (giveResult q (bareResult 0x7) (if active then leaveGap b way s else s))
  else if !g.valid then .done (s |> bump (Reg.NOSE_INVALID_CNT b) |> scanAtOnce b q 0x3)
  else if busy then
    if !monitor ∧ !src.getLsbD 24 then .wait
    else .done (s |> bump (Reg.NOSE_SKIP_CNT b) |> cause (Reg.NOSE_IRQ_CAUSE b) 2 |> perf (uNose b) 0x04 |> scanAtOnce b q 0x2)
  else
    let s := s.setNose b { n with queue := n.queue ++ [q], nextReq := n.nextReq + 1 }
    let s := match way with | some k => modWay b k (fun w => { w with scans := w.scans + 1 }) s | none => s
    let s := if monitor then s |> addRef d.frame |> giveResult q (bareResult 0xA)
      else s |> modFrame d.frame (fun x => { x with scanned := true })
        |> (·.modTeller t fun x => { x with ctx := { x.ctx with scan := none, scanBusy := true } })
    .done (s |> noteBacklog b |> noseBurst b)

/-! ### Running a request -/

/-- The stream that a request works on (R232), and whether it restarted. -/
def chooseStream (s : State) (b : Nat) (q : ScanReq) : NoseRun × Bool :=
  let fresh := fun g => ({ req := q, group := g, gen := (groupAt s g).gen, state := (groupAt s g).start, offset := 0, gap := false, done := false } : NoseRun)
  match q.way.bind (wayAt s b) with
  | none => (fresh q.group, false)
  | some w =>
    let w14 := wordAt w.rc 14
    if !w14.getLsbD 63 || q.isNew then (fresh q.group, false)
    else
      let g := wbits w14 59 54
      let x := groupAt s g
      let off := wbits w14 23 0
      let gap := w14.getLsbD 61
      if w14.getLsbD 62 then ({ req := q, group := g, gen := wbits w14 53 46, state := wbits w14 45 24, offset := off, gap := gap, done := true }, false)
      else if wbits w14 53 46 ≠ x.gen ∨ (gap ∧ flagOf s (Reg.NOSE_CFG 0) 0) then
        ({ req := q, group := g, gen := x.gen, state := x.start, offset := off, gap := true, done := false }, true)
      else ({ req := q, group := g, gen := x.gen, state := wbits w14 45 24, offset := off, gap := gap, done := false }, false)

/-- NOSE_REQUEST_START (R227, R232): the engine starts the oldest queued request. -/
def noseStart (b : Nat) (s : State) : State :=
  let n := s.noseAt b
  match n.run, n.queue with
  | none, q :: rest =>
    if n.hold then s
    else
      let (r, again) := chooseStream s b q
      let s := s.setNose b { n with queue := rest, run := some r }
      if again then bump (Reg.NOSE_RESTART_CNT b) s else s
  | _, _ => s

def execNoseRequestStart (b : Fin 4) (s : State) : Host.Outcome State Fault Refusal := .next (noseStart b.val s)

/-- A request leaves the engine: its record, its frame's reference, its result and its report (R233, R235, R244). -/
def leaveRequest (b : Nat) (q : ScanReq) (status : Nat) (a : ScanAcc) (s : State) : State :=
  let w := scanResult s status a
  let s := s |> bump (Reg.NOSE_SCAN_CNT b) |> perf (uNose b) 0x02 |> bump64 (Reg.NOSE_BYTES_LO b) a.scanned |> perfN (uNose b) 0x01 a.scanned
  let s := if status = 1 then s |> bump (Reg.NOSE_MATCH_CNT b) |> perf (uNose b) 0x03 else s
  let s := match q.way with | some k => modWay b k (fun w => { w with scans := w.scans - 1 }) s | none => s
  let s := if q.monitor then (if status = 1 then report b q w s else s) |> release q.frame else giveResult q w s
  let s := s |> settleGaps b |> noteBacklog b
  match q.way with
  | some k => if reqsOn (s.noseAt b) k = [] then hostResume b k s else s
  | none => s

/-- The running request ends with what its scan reached: W14 is written (R232, R237). -/
def endRun (b : Nat) (r : NoseRun) (status : Nat) (a : ScanAcc) (done gap : Bool) (s : State) : State :=
  let s := s.modNose b fun n => { n with run := none }
  let s := match r.req.way with
    | some k => putW14 b k (streamWord done gap r.group r.gen a.state a.offset) s
    | none => s
  leaveRequest b r.req status a s

/-- Bytes of a request that have arrived, and whether no more are to come (R234). -/
def reqBytes (s : State) (q : ScanReq) : Bytes × Bool :=
  match frameAt s q.frame with
  | none => ([], true)
  | some x =>
    let all := x.data.drop (q.head + q.startOff)
    if q.maxLen = 0 then (all, x.tail) else (all.take q.maxLen, x.tail || q.maxLen ≤ all.length)

/-- A fault of a scan (R237): the stream ends with DONE and GAP. -/
def endFault (b : Nat) (r : NoseRun) (a : ScanAcc) (s : State) : State :=
  s |> bump (Reg.NOSE_FAULT_CNT b) |> cause (Reg.NOSE_IRQ_CAUSE b) 4 |> emit (srcNose b) 0x42 (r.group + 2 ^ 6 * a.state)
    |> endRun b r 0x8 a true true

/-- A memory error met during a scan (R250): counted and reported. -/
def noseMemory (b addr : Nat) (e : EccResult) (s : State) : State :=
  match e with
  | .corrected => s |> sramEvent 4 b addr e |> bump (Reg.NOSE_MEM_CORR_CNT b)
  | .rebuilt => s |> sramEvent 4 b addr .lasting |> bump (Reg.NOSE_MEM_UNCORR_CNT b)
  | .lasting => s |> sramEvent 4 b addr .lasting |> bump (Reg.NOSE_MEM_UNCORR_CNT b) |> cause (Reg.NOSE_IRQ_CAUSE b) 5
  | _ => sramEvent 4 b addr e s

/-- The frame of a request has ended with an FCS error, which ends its scan (R237, Table 10.6). -/
def scanBad (s : State) (q : ScanReq) : Bool := match frameAt s q.frame with | some x => x.tail && x.bad == some .fcs | none => false

/-- NOSE_SCAN_DONE (R234 to R237, R250): the running request ends once the bytes it needs have arrived. `mem` tells what
the engine's words showed, met after `at_` bytes if the scan goes as far; `rebuilt` stands for a copy from another engine and
`lasting` for a word that fails in every engine, which ends the request there with FAULT. -/
def noseDone (b : Nat) (mem : EccResult) (at_ : Nat) (s : State) : State :=
  match (s.noseAt b).run with
  | none => s
  | some r =>
    let (bs, whole) := reqBytes s r.req
    let a0 : ScanAcc := { state := r.state, offset := r.offset }
    if r.done then leaveRequest b r.req (if scanBad s r.req then 0x6 else 0x5) a0 (s.modNose b fun n => { n with run := none })
    else
      let x := groupAt s r.group
      let pre := scanBytes s x r.req.startOff (bs.take at_) a0
      let met := at_ ≤ bs.length && !pre.fault && !pre.done
      let lost := met && mem == .lasting
      let a := if lost then pre else scanBytes s x r.req.startOff bs a0
      let t := if met then noseMemory b (0x2000 + pre.state) mem s else s
      if lost then endFault b r a t
      else if scanBad s r.req then leaveRequest b r.req 0x6 a (t.modNose b fun n => { n with run := none })
      else if a.fault then endFault b r a t
      else if a.done then endRun b r (if a.matches_ = 0 then 0 else 1) a true r.gap t
      else if whole then endRun b r (if a.matches_ = 0 then 0 else 1) a false r.gap t
      else s

def execNoseScanDone (b : Fin 4) (mem : EccResult) (at_ : Nat) (s : State) : Host.Outcome State Fault Refusal :=
  .next (noseDone b.val mem at_ s)

/-! ### Brownout and temperature -/

/-- The running request stops at the next byte (R243): at the bytes that it has scanned. Of an ended stream nothing is scanned; a
fault met before the stop ends it as R237 says. -/
def stopRun (b : Nat) (r : NoseRun) (s : State) : State :=
  let bs := if r.done then [] else (reqBytes s r.req).1.take (r.pos / 8)
  let a := scanBytes s (groupAt s r.group) r.req.startOff bs { state := r.state, offset := r.offset }
  if a.fault then endFault b r a s else s |> bump (Reg.NOSE_STOPPED_CNT b) |> endRun b r 0x4 a (a.done || r.done) true

/-- Brownout hold (R243): every request ends with STOPPED and leaves a gap. -/
def noseStop (b : Nat) (s : State) : State :=
  let s := match (s.noseAt b).run with | some r => stopRun b r s | none => s
  let q := (s.noseAt b).queue
  let s := s.modNose b fun n => { n with queue := [], hold := true }
  q.foldl (fun s r =>
    let s := match r.way with | some k => setGap b k s | none => s
    s |> bump (Reg.NOSE_STOPPED_CNT b) |> leaveRequest b r 0x4 { state := 0, offset := 0 }) s

/-- The engine's domain goes OFF: every request ends at once with NO_ENGINE and leaves a gap (R413, log entry 136). -/
def noseOff (b : Nat) (s : State) : State :=
  let n := s.noseAt b
  let reqs := (match n.run with | some r => [r.req] | none => []) ++ n.queue
  reqs.foldl (fun s q =>
    let s := match q.way with | some k => setGap b k s | none => s
    leaveRequest b q 0x9 { state := 0, offset := 0 } s) (s.modNose b fun n => { n with run := none, queue := [] })

/-- The hold of R243 ends. -/
def noseResume (b : Nat) (s : State) : State := s.modNose b fun n => { n with hold := false }

/-- The throttle step after a reading in 0.25 °C (Table 10.7). -/
def throttleStep (old : Nat) (t : Int) : Nat :=
  let up := if 412 < t then 3 else if 400 < t then 2 else if 380 < t then 1 else 0
  if old ≤ up then up
  else
    let d := if old = 3 ∧ t ≤ 404 then 2 else old
    let d := if d = 2 ∧ t ≤ 392 then 1 else d
    max up (if d = 1 ∧ t ≤ 372 then 0 else d)

/-- The engine follows the highest reading of its Branch's sensors (R242). -/
def noseThrottle (b : Nat) (s : State) : State :=
  match [sensor s (3 * b), sensor s (3 * b + 1), sensor s (3 * b + 2)].filterMap id with
  | [] => s
  | t :: ts =>
    let n := s.noseAt b
    let k := throttleStep n.step (ts.foldl max t)
    if k = n.step then s
    else s |> (·.setNose b { n with step := k }) |> cause (Reg.NOSE_IRQ_CAUSE b) 6 |> emit (srcNose b) 0x40 k

/-! ### Group updates -/

/-- A group command is answered (R248). -/
def groupResult (v : Word32) (r : Nat) (s : State) : State :=
  s |> setField (Reg.NOSE_GRP_CMD 0) 13 8 (bits v.toNat 13 8) |> setField (Reg.NOSE_GRP_RESULT 0) 2 0 r

/-- NOSE_INVALIDATE (R245). -/
def noseInvalidate (v : Word32) (s : State) : State :=
  let g := bits v.toNat 13 8
  let x := groupAt s g
  if bits v.toNat 1 0 ≠ 1 then s
  else if s.automata.groupCount ≤ g then groupResult v 1 s
  else if !x.valid then groupResult v 2 s
  else s |> groupResult v 0 |> setGroup g { x with valid := false, quiesced := false }

def execNoseInvalidate (v : Word32) (s : State) : Host.Outcome State Fault Refusal := .next (gated (noseInvalidate v) s)

/-- A request of the group is queued or running in some engine. -/
def groupBusy (s : State) (g : Nat) : Bool :=
  (List.range 4).any fun b =>
    let n := s.noseAt b
    (match n.run with | some r => r.group == g | none => false) || n.queue.any (·.eff == g)

/-- Time and record of a quiesced or validated group (R245, R247). -/
def noteGroup (g : Nat) (validated : Bool) (s : State) : State :=
  s |> stamp (Reg.NOSE_GRP_DONE_SEC 0) (Reg.NOSE_GRP_DONE_NS 0) |> cause (Reg.NOSE_IRQ_CAUSE 0) (b2n validated)
    |> emit (srcNose 0) 0x41 (g + 2 ^ 6 * b2n validated + 2 ^ 7 * (groupAt s g).gen)

/-- NOSE_QUIESCED (R245): no request of an invalidated group remains. -/
def noseQuiesced (g : Nat) (s : State) : State :=
  let x := groupAt s g
  if g < s.automata.groupCount ∧ !x.valid ∧ !x.quiesced ∧ !groupBusy s g then
    s |> setGroup g { x with quiesced := true } |> noteGroup g false
  else s

def execNoseQuiesced (g : Fin 64) (s : State) : Host.Outcome State Fault Refusal := .next (noseQuiesced g.val s)

/-- NOSE_VALIDATE (R247, R248). -/
def noseValidate (v : Word32) (s : State) : State :=
  let g := bits v.toNat 13 8
  let x := groupAt s g
  if bits v.toNat 1 0 ≠ 2 then s
  else if s.automata.groupCount ≤ g then groupResult v 1 s
  else if x.valid then groupResult v 2 s
  else if !x.quiesced then groupResult v 3 s
  else if !inGroup x x.start then groupResult v 4 s
  else s |> groupResult v 0 |> setGroup g { x with valid := true, quiesced := false, gen := (x.gen + 1) % 256 } |> noteGroup g true

def execNoseValidate (v : Word32) (s : State) : Host.Outcome State Fault Refusal := .next (gated (noseValidate v) s)

/-- A group that may be rewritten owns the byte address (R246). -/
def memTaken (s : State) (a : Nat) : Bool :=
  (List.range s.automata.groupCount).any fun g =>
    let x := groupAt s g
    !x.valid && x.quiesced &&
      (if a < 0x10000 then x.patFirst ≤ a / 8 && a / 8 < x.patFirst + x.patCount else inGroup x ((a - 0x10000) / 8))

/-- A 64-bit word with one half replaced. -/
def putHalf (w : Word64) (hi : Bool) (v : Word32) : Word64 :=
  if hi then setWbits w 63 32 v.toNat else setWbits w 31 0 v.toNat

/-- NOSE_MEM_WRITE (R246): a write of NOSE_MEM_DATA. -/
def noseMemWrite (v : Word32) (s : State) : State :=
  let a := 4 * fieldOf s (Reg.NOSE_MEM_ADDR 0) 22 2
  let next := fun s => if flagOf s (Reg.NOSE_MEM_ADDR 0) 31 then setField (Reg.NOSE_MEM_ADDR 0) 22 2 ((a / 4 + 1) % 2 ^ 21) s else s
  let hi := a / 4 % 2 = 1
  if memTaken s a then
    let m := s.automata
    let m := if a < 0x10000 then { m with patterns := Tbl.set m.patterns (a / 8) 0 (putHalf (Tbl.get m.patterns (a / 8) 0) hi v) }
      else { m with nodes := Tbl.set m.nodes ((a - 0x10000) / 8) 0 (putHalf (Tbl.get m.nodes ((a - 0x10000) / 8) 0) hi v) }
    next { s with automata := m }
  else s |> bump (Reg.NOSE_MEM_REFUSED_CNT 0) |> cause (Reg.NOSE_IRQ_CAUSE 0) 7 |> next

def execNoseMemWrite (v : Word32) (s : State) : Host.Outcome State Fault Refusal := .next (gated (noseMemWrite v) s)

end Sys2Proof.Machine
end

