-- ==== Sys2Proof/Machine/Operands.lean ====
section
/-!
DEFINITION. The fields of a microword (Table 7.2), the register ports and the immediate routing (R157, R158), which
registers a word reads and writes, and the rules that make a word illegal whatever the registers hold (R155, R157, R167).
-/
namespace Sys2Proof.Machine

/-! ### Fields -/

def mwBits (w : MicroWord) (hi lo : Nat) : Nat := (w.extractLsb' lo (hi + 1 - lo)).toNat

def mwNaddr (w : MicroWord) : Nat := mwBits w 159 146
def mwSeq (w : MicroWord) : Nat := mwBits w 145 142
def mwCond (w : MicroWord) : Nat := mwBits w 141 136
def mwFence (w : MicroWord) : Bool := w.getLsbD 135
def mwHold (w : MicroWord) : Bool := w.getLsbD 134
def mwAop (w : MicroWord) : Nat := mwBits w 133 128
def mwAs1 (w : MicroWord) : Nat := mwBits w 127 123
def mwAs2 (w : MicroWord) : Nat := mwBits w 122 118
def mwAd (w : MicroWord) : Nat := mwBits w 117 113
def mwBop (w : MicroWord) : Nat := mwBits w 112 108
def mwBs (w : MicroWord) : Nat := mwBits w 107 103
def mwBd (w : MicroWord) : Nat := mwBits w 102 98
def mwFop (w : MicroWord) : Nat := mwBits w 97 94
def mwFidx (w : MicroWord) : Nat := mwBits w 93 90
def mwMop (w : MicroWord) : Nat := mwBits w 89 86
def mwMsel (w : MicroWord) : Nat := mwBits w 85 82
def mwHop (w : MicroWord) : Nat := mwBits w 81 78
def mwQop (w : MicroWord) : Nat := mwBits w 77 74
def mwCop (w : MicroWord) : Nat := mwBits w 73 70
def mwTop (w : MicroWord) : Nat := mwBits w 69 66
def mwXop (w : MicroWord) : Nat := mwBits w 65 62
def mwIsel (w : MicroWord) : Nat := mwBits w 61 60
def mwImm (w : MicroWord) : BitVec 32 := w.extractLsb' 28 32
def mwQarg (w : MicroWord) : Nat := mwBits w 27 20
def mwCarg (w : MicroWord) : Nat := mwBits w 19 12

/-! ### Ports -/

/-- General register n. -/
def gReg (x : Teller) (n : Nat) : Word64 := wordAt x.g n

/-- Port A's second source: G[AS2], or the immediate under ISEL 1 and 2 (R158). -/
def srcA2 (x : Teller) (w : MicroWord) : Word64 :=
  if mwIsel w = 1 then (mwImm w).zeroExtend 64 else if mwIsel w = 2 then (mwImm w).signExtend 64 else gReg x (mwAs2 w)

/-- Port B's source: G[BS], or the immediate under ISEL 3 (R158). -/
def srcB (x : Teller) (w : MicroWord) : Word64 := if mwIsel w = 3 then (mwImm w).zeroExtend 64 else gReg x (mwBs w)

/-- Address of a memory operation: G[AS1], plus the sign-extended immediate under ISEL 0 (R158, R167). -/
def memAddr (x : Teller) (w : MicroWord) : Word64 :=
  gReg x (mwAs1 w) + (if mwIsel w = 0 then (mwImm w).signExtend 64 else 0)

/-- The canonical key in G[BS] to G[BS+4] (Tables 7.8 and 7.10), port B's source standing for G[BS] (log entry 40). -/
def keyOperand (x : Teller) (w : MicroWord) : Ckey :=
  gReg x (mwBs w + 4) ++ gReg x (mwBs w + 3) ++ gReg x (mwBs w + 2) ++ gReg x (mwBs w + 1) ++ srcB x w

/-! ### Registers read and written -/

/-- ALU-A reads source b: every operation but NOP, the unary ones and SETC. -/
def aopUsesB (op : Nat) : Bool := op != 0 && !(op == 0x19 || op == 0x1A || op == 0x1B || op == 0x1C || op == 0x1F)

/-- ALU-A reads source a: every operation but NOP, MOV and SETC. -/
def aopUsesA (op : Nat) : Bool := op != 0 && op != 0x07 && op != 0x1F

/-- Registers that ALU-A writes. -/
def aluAWrites (w : MicroWord) : List Nat := if mwAop w = 0 ∨ mwAop w = 0x11 ∨ mwAop w = 0x12 then [] else [mwAd w]

/-- Registers that the memory operation writes. -/
def memWrites (w : MicroWord) : List Nat :=
  match mwMop w with
  | 0x1 | 0x5 | 0x6 | 0x7 | 0x8 | 0x9 | 0xC => [mwAd w]
  | 0x2 => [mwAd w, mwAd w + 1]
  | _ => []

/-- One entry of G[BD] for each port-B unit that writes it. -/
def portBWrites (w : MicroWord) : List Nat :=
  let on := fun b : Bool => if b then [mwBd w] else []
  on (mwBop w != 0) ++ on (mwFop w == 1) ++ on (mwHop w != 0) ++ on (mwQop w == 1 || mwQop w == 2 || mwQop w == 0xB) ++
    on (3 ≤ mwCop w) ++ on (mwTop w != 0)

/-- Every write of a register that a word makes. -/
def regWrites (w : MicroWord) : List Nat := aluAWrites w ++ memWrites w ++ portBWrites w

/-- Units that write S. -/
def sWrites (w : MicroWord) : Nat :=
  b2n (mwFop w == 8) + b2n (mwMop w == 7 || mwMop w == 8 || mwMop w == 9 || mwMop w == 0xC) + b2n (mwQop w == 9) + b2n (mwXop w == 2)

/-- G[AS2] is a source of the word. -/
def usesA2 (w : MicroWord) : Bool :=
  aopUsesB (mwAop w) || (3 ≤ mwMop w && mwMop w ≤ 7) || mwMop w == 9 || mwMop w == 0xA || mwFop w == 6

/-- G[AS1] is a source of the word. -/
def usesA1 (w : MicroWord) : Bool :=
  aopUsesA (mwAop w) || (mwMop w != 0 && mwMop w != 0xB) || mwSeq w == 0xA || mwSeq w == 0xB

/-- Port B's source is used by some unit of the word. -/
def usesB (w : MicroWord) : Bool :=
  mwBop w != 0 || (2 ≤ mwFop w && mwFop w ≤ 8) || mwHop w != 0 ||
    (mwQop w == 3 || mwQop w == 4 || mwQop w == 5 || mwQop w == 6 || mwQop w == 7 || mwQop w == 9 || mwQop w == 0xA) ||
    mwCop w == 2 || mwTop w == 3 || mwXop w == 2 || mwXop w == 3

/-- Registers beyond the first that an operation of several registers names (R157). -/
def rangeEnd (w : MicroWord) : List Nat :=
  (if mwMop w = 0x2 then [mwAd w + 1] else []) ++ (if mwMop w = 0x4 then [mwAs2 w + 1] else []) ++
    (if mwFop w = 8 ∨ mwHop w = 2 then [mwBs w + 4] else []) ++ (if mwXop w = 2 then [mwBs w + 3] else [])

/-- G[BD] is read by a unit of port B. -/
def readsBd (w : MicroWord) : Bool :=
  (2 ≤ mwBop w && mwBop w ≤ 8) || mwBop w == 0x10 || mwBop w == 0x11 || mwHop w == 3 || mwHop w == 4

/-- Registers that a word reads. -/
def regReads (w : MicroWord) : List Nat :=
  (if usesA1 w then [mwAs1 w] else []) ++ (if usesA2 w ∧ mwIsel w ≠ 1 ∧ mwIsel w ≠ 2 then [mwAs2 w] else []) ++
    (if mwMop w = 0x4 then [mwAs2 w + 1] else []) ++ (if mwAop w = 0x18 ∨ mwMop w = 0x7 then [mwAd w] else []) ++
    (if usesB w ∧ mwIsel w ≠ 3 then [mwBs w] else []) ++ (if readsBd w then [mwBd w] else []) ++
    (if mwFop w = 8 ∨ mwHop w = 2 then [mwBs w + 1, mwBs w + 2, mwBs w + 3, mwBs w + 4] else []) ++
    (if mwXop w = 2 then [mwBs w + 1, mwBs w + 2, mwBs w + 3] else [])

/-! ### Words that are illegal whatever the state -/

/-- A field holds a value that its table marks reserved (R155); MSEL is free while MOP is NOP (Table 7.9). -/
def reservedField (w : MicroWord) : Bool :=
  let c := mwCond w
  (0x0C ≤ c && c ≤ 0x0F) || (0x1D ≤ c && c ≤ 0x1F) || 0x30 ≤ c || 0x20 ≤ mwAop w || 0x12 ≤ mwBop w || 0xB ≤ mwFop w ||
    0xD ≤ mwMop w || (mwMop w != 0 && 6 ≤ mwMsel w) || 7 ≤ mwHop w || 0xD ≤ mwQop w || 7 ≤ mwCop w || 7 ≤ mwTop w || 5 ≤ mwXop w ||
    (mwQop w == 2 && 9 ≤ mwQarg w) || (mwQop w == 5 && mwQarg w == 0) || (mwQop w == 8 && mwQarg w != 0x10 && mwQarg w != 0x1B)

/-- MOP and MSEL combine as Table 7.9 allows. -/
def mselAllowed (mop msel : Nat) : Bool :=
  match mop with
  | 0x1 | 0x3 => msel == 0 || msel == 1 || msel == 3 || msel == 4
  | 0x2 | 0x4 => msel == 0 || msel == 1
  | 0x5 | 0x6 | 0x7 => msel == 1
  | 0x8 => msel == 2
  | 0x9 | 0xA | 0xB | 0xC => msel == 5
  | _ => true

/-- A list names a register twice. -/
def hasTwice : List Nat → Bool
  | [] => false
  | r :: rs => rs.contains r || hasTwice rs

/-- The DETAIL codes (Table 7.15) of the rules that a word breaks by its fields alone. -/
def fieldDetails (w : MicroWord) : List Nat :=
  (if hasTwice (regWrites w) ∨ 1 < sWrites w then [0x01] else []) ++ (if reservedField w then [0x04] else []) ++
    (if mwMop w ≠ 0 ∧ mwMsel w < 6 ∧ mwMop w < 0xD ∧ !mselAllowed (mwMop w) (mwMsel w) then [0x08] else []) ++
    (if (rangeEnd w).any (31 < ·) then [0x0A] else []) ++ (if mwSeq w = 0xE ∧ mwNaddr w % 16 < 6 then [0x0B] else [])

end Sys2Proof.Machine
end

