-- ==== Sys2Proof/Machine/Flags.lean ====
section
/-!
DEFINITION. What ALU-A computes with its flags (R163), what ALU-B computes (R164), the hash operations (R169), and the
conditions (R162).
-/
namespace Sys2Proof.Machine

/-! ### ALU-A -/

/-- A mask of the low n bits, all ones from 64 on. -/
def lowMask (n : Nat) : Word64 := BitVec.ofNat 64 (2 ^ n - 1)

/-- Number of 1 bits. -/
def popCount (a : Word64) : Nat := ((List.range 64).filter fun i => a.getLsbD i).length

/-- Leading and trailing zeros; 64 for 0. -/
def leadZeros (a : Word64) : Nat := ((List.range 64).find? fun i => a.getLsbD (63 - i)).getD 64
def trailZeros (a : Word64) : Nat := ((List.range 64).find? fun i => a.getLsbD i).getD 64

/-- Byte order reversed. -/
def byteSwap (a : Word64) : Word64 := BitVec.ofNat 64 (beNat (leBytes 8 a.toNat))

/-- a sign-extended from bit i. -/
def signFrom (a : Word64) (i : Nat) : Word64 := if a.getLsbD i then a ||| ~~~(lowMask (i + 1)) else a &&& lowMask (i + 1)

/-- Last bit that a shift by n moves out, to the left or the right; 0 for a count of 0. -/
def outLeft (a : Word64) (n : Nat) : Bool := n != 0 && a.getLsbD (64 - n)
def outRight (a : Word64) (n : Nat) : Bool := n != 0 && a.getLsbD (n - 1)

/-- Result d and carry C of an ALU-A operation (Table 7.6): a, b, the old destination and the condition. -/
def aluA (op : Nat) (a b old : Word64) (cond : Bool) : Word64 × Bool :=
  let n := wbits b 5 0
  let wd := wbits b 12 6 + 1
  match op with
  | 0x01 => (a + b, Decidable.decide (2 ^ 64 ≤ a.toNat + b.toNat))
  | 0x02 => (a - b, Decidable.decide (a.toNat < b.toNat))
  | 0x03 => (a &&& b, false)
  | 0x04 => (a ||| b, false)
  | 0x05 => (a ^^^ b, false)
  | 0x06 => (a &&& ~~~b, false)
  | 0x07 => (b, false)
  | 0x08 => (a <<< n, outLeft a n)
  | 0x09 => (a >>> n, outRight a n)
  | 0x0A => (a.sshiftRight n, outRight a n)
  | 0x0B => (a.rotateLeft n, false)
  | 0x0C => (a.rotateRight n, false)
  | 0x0D => (if a.toNat ≤ b.toNat then a else b, false)
  | 0x0E => (if a.toNat ≤ b.toNat then b else a, false)
  | 0x0F => (if a.toInt ≤ b.toInt then a else b, false)
  | 0x10 => (if a.toInt ≤ b.toInt then b else a, false)
  | 0x11 => (a - b, Decidable.decide (a.toNat < b.toNat))
  | 0x12 => (a &&& b, false)
  | 0x13 => (a * b, false)
  | 0x14 => (BitVec.ofNat 64 (a.toNat * b.toNat / 2 ^ 64), false)
  | 0x15 => if 2 ^ 64 ≤ a.toNat + b.toNat then (BitVec.allOnes 64, true) else (a + b, false)
  | 0x16 => if a.toNat < b.toNat then (0, true) else (a - b, false)
  | 0x17 => ((a >>> n) &&& lowMask wd, false)
  | 0x18 => ((old &&& ~~~(lowMask wd <<< n)) ||| ((a &&& lowMask wd) <<< n), false)
  | 0x19 => (BitVec.ofNat 64 (popCount a), false)
  | 0x1A => (BitVec.ofNat 64 (leadZeros a), false)
  | 0x1B => (BitVec.ofNat 64 (trailZeros a), false)
  | 0x1C => (byteSwap a, false)
  | 0x1D => (signFrom a n, false)
  | 0x1E => (a &&& lowMask (n + 1), false)
  | 0x1F => (if cond then 1 else 0, false)
  | _ => (0, false)

/-- Flags Z, N and C after an ALU-A operation (R163); NOP leaves them. -/
def aluFlags (op : Nat) (d : Word64) (c : Bool) (x : Teller) : Bool × Bool × Bool :=
  if op = 0 then (x.z, x.n, x.c) else (d == 0, d.getLsbD 63, c)

/-! ### ALU-B and hashes -/

/-- Result of an ALU-B operation (Table 7.7) from s and the old G[BD]. -/
def aluB (op : Nat) (v old : Word64) : Word64 :=
  match op with
  | 0x01 => v
  | 0x02 => old + v
  | 0x03 => old - v
  | 0x04 => old &&& v
  | 0x05 => old ||| v
  | 0x06 => old ^^^ v
  | 0x07 => old <<< (wbits v 5 0)
  | 0x08 => old >>> (wbits v 5 0)
  | 0x09 => v + 1
  | 0x0A => v - 1
  | 0x0B => ~~~v
  | 0x0C => v &&& 0xFF#64
  | 0x0D => v &&& 0xFFFF#64
  | 0x0E => v &&& 0xFFFFFFFF#64
  | 0x0F => v >>> 32
  | 0x10 => (old &&& 0xFFFFFFFF00000000#64) ||| (v &&& 0xFFFFFFFF#64)
  | 0x11 => (old &&& 0xFFFFFFFF#64) ||| (v <<< 32)
  | _ => old

/-- Result of a hash operation (Table 7.10). -/
def hashOp (s : State) (x : Teller) (w : MicroWord) : Word64 :=
  let v := srcB x w
  let old := gReg x (mwBd w)
  match mwHop w with
  | 0x1 => fmix v
  | 0x2 => flowHash (keyOperand x w) s.vault.seed
  | 0x3 => (crc32c (old.truncate 32) v).zeroExtend 64
  | 0x4 => BitVec.ofNat 64 (wbits old 31 0 * wbits v 31 0 / 2 ^ 32)
  | 0x5 => BitVec.ofNat 64 (cands s v).1
  | 0x6 => BitVec.ofNat 64 (cands s v).2
  | _ => old

/-! ### Conditions -/

/-- W0 of the bound record; none without a window. -/
def windowW0 (s : State) (b : Nat) (x : Teller) : Option Word64 := (x.win.bind (wayAt s b)).map fun w => wordAt w.rc 0

/-- The item carries a packet that has not been released. -/
def hasPacket (x : Teller) : Bool := x.ctx.desc.isSome && !x.ctx.released

/-- The value of word w's condition (Table 7.5) for Teller x of Branch b. A load answered poisoned counts as outstanding until its
trap is taken, of which Table 7.5 does not speak (DESIGN CHOICE, log entry 127). -/
def condition (s : State) (b : Nat) (x : Teller) (w : MicroWord) : Bool :=
  let w0 := windowW0 s b x
  let done := x.ctx.scan.isSome && !x.ctx.scanBusy
  let c := mwCond w
  match c with
  | 0x00 => true
  | 0x01 => x.z
  | 0x02 => !x.z
  | 0x03 => x.n
  | 0x04 => !x.n
  | 0x05 => x.c
  | 0x06 => !x.c
  | 0x07 => x.s
  | 0x08 => !x.s
  | 0x09 => x.c || x.z
  | 0x0A => !x.c && !x.z
  | 0x0B => x.lc == 0
  | 0x10 => x.ctx.g0.getLsbD 12
  | 0x11 => x.ctx.g0.getLsbD 13
  | 0x12 => match w0 with | some v => v.getLsbD 19 | none => false
  | 0x13 => x.win.isSome
  | 0x14 => hasPacket x
  | 0x15 => match w0, x.ctx.desc with | some v, some d => d.dir == v.getLsbD 20 | _, _ => false
  | 0x16 => match x.ctx.desc.bind (fun d => frameAt s d.frame) with | some f => f.tail | none => x.ctx.desc.isSome
  | 0x17 => match x.ctx.desc with | some d => d.pass == 0 | none => false
  | 0x18 => done
  | 0x19 => done && wbits (x.ctx.scan.getD 0) 63 60 == 1
  | 0x1A => x.traps.contains .preempt && mwHold w
  | 0x1B => x.mem.isEmpty
  | 0x1C => x.stack.isEmpty
  | _ => if 0x20 ≤ c ∧ c ≤ 0x2F then (match w0 with | some v => v.getLsbD (c - 0x20) | none => false) else false

end Sys2Proof.Machine
end

