-- ==== Sys2Proof/Machine/Window.lean ====
section
/-!
DEFINITION. The record window of chapter 07 (R165, R166): which operations are legal, what they write, OPEN, and the release
of a window with its affinity.
-/
namespace Sys2Proof.Machine

/-- The way of the bound record. -/
def winWay (s : State) (b : Nat) (x : Teller) : Option Way := x.win.bind (wayAt s b)

/-- The operation stores into W[FIDX]. -/
def fopStores (op : Nat) : Bool := 2 ≤ op && op ≤ 6

/-- The value that ST, ADD, OR, ANDN or STM computes (Table 7.8). -/
def fopValue (op : Nat) (old src mask : Word64) : Word64 :=
  match op with
  | 2 => src
  | 3 => old + src
  | 4 => old ||| src
  | 5 => old &&& ~~~src
  | _ => (old &&& ~~~mask) ||| (src &&& mask)

/-- The value that a window write leaves in word i: of W0 only the bits open to microcode change (R166). -/
def fopWord (op i : Nat) (old src mask : Word64) : Word64 :=
  let v := fopValue op old src mask
  if i = 0 then (old &&& ~~~w0Writable) ||| (v &&& w0Writable) else v

/-- SETSTATE may make this change (R166); a reserved state acts as CLOSED (R98). -/
def stateChange (cur new : Nat) : Bool :=
  (new == 2 && cur == 1) || (new == 3 && (cur == 1 || cur == 2)) || (new == 4 && cur != 0)

/-- A rule of R165 or R166 is broken. -/
def windowIllegal (s : State) (b : Nat) (x : Teller) (w : MicroWord) : Bool :=
  let op := mwFop w
  let i := mwFidx w
  let src := srcB x w
  match op with
  | 0 => false
  | 8 => x.win.isSome || !x.frames.isEmpty || homeOf (hashOf s (keyOperand x w)) != b
  | _ =>
    match winWay s b x with
    | none => true
    | some y =>
      (op == 9 && !x.frames.isEmpty) || (op == 7 && !stateChange (rcState y.rc) (wbits src 3 0)) ||
        (fopStores op && ((1 ≤ i && i ≤ 5) || (i == 0 && op == 3) ||
          (i == 6 && (fopWord op 6 (wordAt y.rc 6) src (srcA2 x w)).getLsbD 8)))

/-- The record word that an operation touches: W[FIDX], or W0 for SETSTATE. -/
def fopTouches (w : MicroWord) : Option Nat :=
  if mwFop w = 7 then some 0 else if mwFop w = 1 ∨ fopStores (mwFop w) then some (mwFidx w) else none

/-- Byte address in the region space of the bound record's slot when the operation touches a word whose content is lost
(R400). -/
def lostTouch (s : State) (b : Nat) (x : Teller) (w : MicroWord) : Option Nat :=
  match winWay s b x, fopTouches w with
  | some y, some i => if i ∈ y.lostWords then some (128 * ftRecord s.vault y.slot) else none
  | _, _ => none

/-- An operation on W14 waits while a Nose request on the record is queued or running (R233). -/
def scanWait (s : State) (b : Nat) (x : Teller) (w : MicroWord) : Bool :=
  match winWay s b x with
  | some y => fopTouches w == some 14 && y.scans != 0
  | none => false

/-- A write reaches PIN of W0, so that the pin is acted on again (R108). -/
def reachesPin (op : Nat) (src mask : Word64) : Bool :=
  op == 2 || ((op == 4 || op == 5) && src.getLsbD 23) || (op == 6 && mask.getLsbD 23)

/-- A store of the window's word i (R117, R165). -/
def windowStore (b k op i : Nat) (src mask : Word64) (s : State) : State :=
  match wayAt s b k with
  | none => s
  | some y =>
    let old := wordAt y.rc i
    let v := fopWord op i old src mask
    let y := markDirty s.time.tick { y with rc := withWord y.rc i v, w7Changed := y.w7Changed || (i == 7 && v != old) }
    let s := setWay b k y s
    if i = 0 ∧ reachesPin op src mask then pinWay b k s else s

/-- SETSTATE (R99, R166): reaching CLOSED closes the record; a record that is CLOSED already stays as it is. -/
def windowState (b k new : Nat) (s : State) : State :=
  match wayAt s b k with
  | none => s
  | some y =>
    if new = 4 then
      if rcDead y.rc then setWay b k { markDirty s.time.tick y with rc := setW0 (rcClosed y.rc) 24 24 1 } s
      else closeWay b k false false s
    else setWay b k (markDirty s.time.tick { y with rc := setW0 y.rc 35 32 new }) s

/-- The way of the item's own record, as its G2 names it, while it still holds the packet's key. -/
def ownWay (s : State) (b : Nat) (c : ItemCtx) : Option Nat :=
  match c.desc with
  | some d =>
    if c.g0.getLsbD 11 then
      let k := 16 * wbits c.g2 46 32 + wbits c.g2 50 47
      match wayAt s b k with | some y => if recKey y.rc = d.ckey then some k else none | none => none
    else none
  | none => none

/-- The words of a record that rewrite profiles read (Table 9.2). -/
def bindingWords (y : Way) : List Word64 := [wordAt y.rc 7, wordAt y.rc 12, wordAt y.rc 13]

/-- The packet's visit to its record k ends: its binding words go with the packet, and later changes do not alter it (R205). -/
def bindVisit (s : State) (b k : Nat) (c : ItemCtx) : ItemCtx :=
  if c.bound.isNone ∧ ownWay s b c = some k then { c with bound := (wayAt s b k).map bindingWords } else c

/-- The window of Teller t is released (R116, R166): affinity is written into W15 unless the item executed NOAFF, the item
no longer names the record, and the lock ends. -/
def releaseWindow (b t : Nat) (noAff : Bool) (s : State) : State :=
  let x := s.tellerAt t
  match x.win with
  | none => s
  | some k =>
    let s := s.setTeller t { x with win := none, ctx := bindVisit s b k x.ctx }
    let s := modItem b x.ctx.item (fun i => if i.way = some k then { i with way := none } else i) s
    let s := if noAff then s else modWay b k (fun y => markDirty s.time.tick
      { y with rc := withWord y.rc 15 (setWbits (setWbits (wordAt y.rc 15) 30 26 (t % 32)) 31 31 1) }) s
    releaseLock b k s

/-! ### OPEN -/

/-- OPEN begins, or is tried again when it found no place in the miss queue (R166). -/
def openTry (b t : Nat) (key : Ckey) (s : State) : State :=
  let h := hashOf s key
  match probe s b h key with
  | some k => s |> (·.modTeller t fun x => { x with opening := some (key, h) }) |> openOnWay b k t
  | none =>
    match attach b h key (.teller t) s with
    | some s => s.modTeller t fun x => { x with opening := some (key, h) }
    | none => s

/-- The OPEN of Teller t's word goes on as far as it can; it is answered once `opened` is set. -/
def openStep (b t : Nat) (key : Ckey) (s : State) : State :=
  let x := s.tellerAt t
  if x.opened.isSome || x.opening.isSome then s else openTry b t key s

/-- The OPEN completes: the window is bound when the record was found. -/
def openEnd (t : Nat) (s : State) : State :=
  s.modTeller t fun x => { x with win := (x.opened.getD none), opening := none, opened := none }

/-! ### Effects -/

/-- The effect of the word's record-window operation. -/
def fopEffect (b t : Nat) (x : Teller) (w : MicroWord) (s : State) : State :=
  let op := mwFop w
  if op = 8 then openEnd t s
  else if op = 9 then releaseWindow b t (x.ctx.noAff || mwXop w = 4) s
  else
    match x.win with
    | none => s
    | some k =>
      if fopStores op then windowStore b k op (mwFidx w) (srcB x w) (srcA2 x w) s
      else if op = 7 then windowState b k (wbits (srcB x w) 3 0) s
      else if op = 10 then writeBack b k s
      else s

end Sys2Proof.Machine
end

