-- ==== Sys2Proof/Machine/TellerMem.lean ====
section
/-!
DEFINITION. The memory unit of a Teller (R159, R167, R168): addresses, the issue of operations, KEYVEC and TRAPF, the
flow-table operations GUARD, FTWR, UNGUARD and SWEEP (R101, R131, R133, R329), and MEM_REPLY.
-/
namespace Sys2Proof.Machine

/-! ### Addresses -/

/-- The operation moves two words. -/
def isPair (mop : Nat) : Bool := mop == 2 || mop == 4

/-- A rule of R168, or the entry index of the move buffer, is broken (log entry 44 for the slot's offset). -/
def addressIllegal (s : State) (b : Nat) (x : Teller) (w : MicroWord) : Bool :=
  let mop := mwMop w
  let a := (memAddr x w).toNat
  let align := if isPair mop then 16 else 8
  if mop = 0 ∨ mop = 8 ∨ mop = 0xB then false
  else
    match mwMsel w with
    | 0 => a % align != 0 || !(match regionOf s.vault (a / 128) with | some (i, _) => i != s.vault.ftRegion | none => false)
    | 1 => a % align != 0 || 0x1FFFF8 < a
    | 3 => a % 8 != 0 || 64 ≤ a
    | 4 => x.frames.isEmpty || a % 8 != 0 || 384 ≤ a
    | _ => s.vault.ftLog2 == 0 || a / quarter s.vault != b || ((mop == 9 || mop == 0xA) && 8 < wbits (srcA2 x w) 3 0)

/-! ### Operations that complete within their word -/

/-- Word n of the key-vector copy, and the copy with a word replaced (R168). -/
def kvWord (kv : KeyVec) (n : Nat) : Word64 := kv.extractLsb' (64 * n) 64
def setKvWord (kv : KeyVec) (n : Nat) (v : Word64) : KeyVec :=
  BitVec.ofNat 512 (setBits kv.toNat (64 * n + 63) (64 * n) v.toNat)

/-- The newest trap frame with word f stored: F0 (but for PARKED), F4, F5 and F16 to F47 are taken (R179). -/
def storeFrame (f : Nat) (v : Word64) (fr : TrapFrame) : TrapFrame :=
  if f = 0 then { fr with f := withWord fr.f 0 (setWbits v 30 30 (b2n fr.parked)) }
  else if f = 4 ∨ f = 5 ∨ (16 ≤ f ∧ f < 48) then { fr with f := withWord fr.f f v }
  else fr

/-- Registers that a KEYVEC or TRAPF load writes. -/
def localLoad (x : Teller) (w : MicroWord) : List (Nat × Word64) :=
  let a := (memAddr x w).toNat
  if mwMop w ≠ 1 then []
  else if mwMsel w = 3 then [(mwAd w, kvWord x.ctx.kv (a / 8))]
  else if mwMsel w = 4 then
    match x.frames with
    | fr :: _ => [(mwAd w, wordAt fr.f (a / 8))]
    | [] => []
  else []

/-- A KEYVEC or TRAPF store. -/
def localStore (t : Nat) (x : Teller) (w : MicroWord) (s : State) : State :=
  let a := (memAddr x w).toNat
  let v := srcA2 x w
  if mwMop w ≠ 3 then s
  else if mwMsel w = 3 then s.modTeller t fun y => { y with ctx := { y.ctx with kv := setKvWord y.ctx.kv (a / 8) v } }
  else if mwMsel w = 4 then
    s.modTeller t fun y =>
      match y.frames with
      | fr :: rest => { y with frames := storeFrame (a / 8) v fr :: rest }
      | [] => y
  else s

/-! ### Issue -/

/-- The memory operation of a word, as it is queued. -/
def opOf (x : Teller) (w : MicroWord) : MemOp :=
  let mop := mwMop w
  let dst := match memWrites w with | [] => none | l => some (mwAd w, l.length)
  { id := x.nextMem, mop := mop, msel := mwMsel w, addr := (memAddr x w).toNat, dst := dst,
    setsS := mop == 7 || mop == 8 || mop == 9 || mop == 0xC, data := srcA2 x w, data2 := gReg x (mwAs2 w + 1),
    arg := if mop = 7 then gReg x (mwAd w) else if mop = 8 then gReg x (mwAs1 w) else srcA2 x w }

/-- An operation joins those outstanding at the Teller. -/
def queueOp (t : Nat) (m : MemOp) (s : State) : State :=
  s.modTeller t fun y => { y with mem := y.mem ++ [m], nextMem := y.nextMem + 1 }

/-- The effect of the word's memory operation at its step (R159, R167): Vault and flow-table operations and Coffer requests
are queued; a Sieve lookup is made now and answered later, with the stamp of the item (R85). -/
def mopEffect (b t : Nat) (x : Teller) (w : MicroWord) (s : State) : State :=
  let m := opOf x w
  let desk := uDesk (deskOf t)
  if m.mop = 0 then s
  else
    match m.msel with
    | 0 | 5 => s |> queueOp t m |> perf desk 0x07
    | 1 =>
      let req := fun h => ({ word := m.addr / 8 + h, teller := t, op := m.id, half := h } : CofferReq)
      let s := s |> queueOp t m |> perf desk 0x08
      { s with coffer := { s.coffer with pending := s.coffer.pending ++ (if isPair m.mop then [req 0, req 1] else [req 0]) } }
    | 2 =>
      let (a, hit, s) := sieveLookup b x.ctx.kv (wbits m.arg 7 0) (wbits x.ctx.g0 31 16) s
      queueOp t { m with lo := some a, stored := hit } s
    | _ => localStore t x w s

/-! ### Flow-table operations -/

/-- A free slot in the sense of R129, now. -/
def freeNow (s : State) (slot : Nat) : Bool := slotFree s slot (ledgerNow s)

/-- The record of a slot is movable (R131): not in the Till, no claim, not poisoned, not already guarded, nor its key, and no miss
entry for its key. -/
def movable (s : State) (slot : Nat) : Option Rec :=
  match peekRecord s (ftRecord s.vault slot) with
  | .poison => none
  | .data r =>
    let l := s.ledgerAt (slot / quarter s.vault)
    if slotInTill s slot || slotClaimed s slot || guarded s slot || l.guards.any (·.key == recKey r) || l.miss.any (·.key == recKey r)
    then none else some r

/-- Entry i of the move buffer. -/
def moveEntry (x : Teller) (i : Nat) : Rec := Tbl.get x.ctx.moveBuf i Rec.empty

def setMoveEntry (t i : Nat) (r : Rec) (s : State) : State :=
  s.modTeller t fun x => { x with ctx := { x.ctx with moveBuf := Tbl.set x.ctx.moveBuf i Rec.empty r } }

/-- GUARD (R131): the register result, S, and the state. A free slot is read without a guard. -/
def guardOp (b t slot entry : Nat) (s : State) : Option Word64 × Bool × State :=
  let free := freeNow s slot
  match movable s slot, free with
  | none, false => (none, false, s)
  | m, _ =>
    let (cell, s) := readRecord (ftRecord s.vault slot) b .fill s
    let s := match cell with | .data r => setMoveEntry t entry r s | .poison => s
    match free, m with
    | false, some r =>
      let s := s.modLedger b fun l => { l with guards := l.guards ++ [⟨slot, t, recKey r⟩] }
      (some (BitVec.ofNat 64 (alternate (hashOf s (recKey r)) s.vault.ftLog2 slot)), true, s)
    | _, _ => (some (BitVec.allOnes 64), true, s)

/-- The ready-list item that Teller t runs. -/
def itemOf (s : State) (t : Nat) : Option Item := (s.dispAt (t / 32)).items.find? (·.id = (s.tellerAt t).ctx.item)

/-- The miss entry for which the Teller's item relocates (R131). -/
def relocOf (s : State) (t : Nat) : Option Nat :=
  (itemOf s t).bind fun i => match i.kind with | .reloc m => some m | _ => none

/-- FTWR (R131): the slot takes a move-buffer entry. -/
def ftwrOp (b t slot entry : Nat) (s : State) : State :=
  let s := if (relocOf s t).isSome then bump (Reg.TILL_FT_RELOC_MOVES_CNT b) s else s
  writeRecord (ftRecord s.vault slot) b .fill (moveEntry (s.tellerAt t) entry) s

/-- A candidate that a relocation has made free (R131, log entry 24): guarded by this Teller while the record stands
identically in its alternate slot, or free as it stands. -/
def movedAway (s : State) (t slot : Nat) : Bool :=
  (s.ledgerAt (slot / quarter s.vault)).guards.any (fun g => g.slot == slot && g.teller == t) &&
    match peekRecord s (ftRecord s.vault slot) with
    | .data r =>
      let other := alternate (hashOf s (recKey r)) s.vault.ftLog2 slot
      other != slot && peekRecord s (ftRecord s.vault other) == .data r
    | .poison => false

def freedSlot (b t id : Nat) (s : State) : Option Nat :=
  (entryAt s b id).bind fun e =>
    [(cands s e.hash).1, (cands s e.hash).2].find? fun c => movedAway s t c || freeNow s c

/-- Every guard of Teller t is released (R131); the Auditor acts on slots that waited for it (R406). -/
def dropGuards (b t : Nat) (s : State) : State :=
  s |> (·.modLedger b fun l => { l with guards := l.guards.filter (·.teller != t) }) |> auditReleased

/-- UNGUARD (R131): a freed candidate is claimed for the waiting setup before the guards are released. When the setup has been
abandoned, the freed slot stays unclaimed (R132); what becomes of the moved record's copy that still stands there the spec does
not say, and it is left standing (DESIGN CHOICE, log entry 125). -/
def unguardOp (b t : Nat) (s : State) : State :=
  let s := match relocOf s t with
    | some m => (match freedSlot b t m s with | some c => relocEnded b m (some c) s | none => s)
    | none => s
  dropGuards b t s

/-- A live record that a sweep visits is sent to a peer that has returned (R329). -/
def resyncSend (s : State) (r : Rec) : Bool :=
  s.teth.resync && s.teth.pair == .paired && (mirrorCfg s r).1.testBit 0 && s.teth.lostAt < (wordAt r 11).toNat

/-- SWEEP (R101, R133, Table 7.9): its result code and the state. -/
def sweepOp (b slot : Nat) (s : State) : Nat × State :=
  match wayOfSlot s slot with
  | some k =>
    match wayAt s b k with
    | none => (3, s)
    | some y =>
      let s := noteState b (hashOf s (recKey y.rc)) y.rc s
      if rcLock y.rc then (3, s)
      else if rcDead y.rc then (0, s)
      else if rcExpired s y.rc (ledgerNow s) then (1, closeWay b k true false s)
      else if resyncSend s y.rc then
        (0, s |> mirrorSend b 1 (hashOf s (recKey y.rc)) y.rc |> modWay b k fun y => { y with mirrorAt := s.time.tick })
      else (0, s)
  | none =>
    if slotClaimed s slot || guarded s slot then (3, s)
    else
      let (cell, s) := readRecord (ftRecord s.vault slot) b .sweep s
      match cell with
      | .poison => (4, s)
      | .data r =>
        let h := hashOf s (recKey r)
        if rcState r = 0 then (0, s)
        else if keyGuarded s b (recKey r) then (3, s)
        else
          let s := noteState b h r s
          if rcDead r then
            if (probe s b h (recKey r)).isSome then (0, s) else (2, writeRecord (ftRecord s.vault slot) b .sweep Rec.empty s)
          else if rcExpired s r (ledgerNow s) then (1, closeSlot b slot r .sweep s)
          else (0, if resyncSend s r then mirrorSend b 1 h r s else s)

/-! ### Replies -/

/-- An operation has been answered: its registers and S take their values and it is no longer outstanding. -/
def finishOp (t : Nat) (m : MemOp) (vals : List Word64) (sv : Bool) (s : State) : State :=
  s.modTeller t fun x =>
    let g := match m.dst with
      | some (r, _) => vals.zipIdx.foldl (fun g (v, i) => withWord g (r + i) v) x.g
      | none => x.g
    { x with g := g, s := if m.setsS then sv else x.s, mem := delFirst (fun y => y.id == m.id) x.mem }

/-- Two operations to one MSEL touch a common word (R159). -/
def sameWord (m n : MemOp) : Bool :=
  m.msel == n.msel &&
    (if m.msel = 5 then m.addr == n.addr && m.mop != 0xB && n.mop != 0xB
     else if m.msel = 2 then false
     else m.addr / 8 ≤ n.addr / 8 + b2n (isPair n.mop) && n.addr / 8 ≤ m.addr / 8 + b2n (isPair m.mop))

/-- A VAULT load or store is performed (R167, R168, R401); a poisoned load waits for its trap (R175). -/
def vaultReply (b t : Nat) (m : MemOp) (s : State) : State :=
  let a := m.addr / 128
  let i := m.addr % 128 / 8
  if isStore m.mop then
    let bytes := leBytes 8 m.data.toNat ++ (if m.mop = 4 then leBytes 8 m.data2.toNat else [])
    s |> dropMem t m.id |> partialWrite a (m.addr % 128) (bytes.map some) false (some (t, m.addr))
  else
    let (cell, s) := readRecord a b .fill s
    match cell with
    | .data r => finishOp t m (if m.mop = 2 then [wordAt r i, wordAt r (i + 1)] else [wordAt r i]) false s
    | .poison => modMem t m.id (fun m => { m with poisoned := true }) s

/-- A COFFER load or atomic is answered once its rounds have served it. -/
def cofferReply (t : Nat) (m : MemOp) (s : State) : State :=
  match m.lo, m.hi with
  | some v, some u => finishOp t m [v, u] m.stored s
  | some v, none => if m.mop = 2 then s else finishOp t m [v] m.stored s
  | none, _ => s

/-- A flow-table operation is performed. -/
def slotReply (b t : Nat) (m : MemOp) (s : State) : State :=
  let entry := wbits m.arg 3 0
  match m.mop with
  | 0x9 =>
    let (v, ok, s) := guardOp b t m.addr entry s
    match v with
    | some v => finishOp t m [v] ok s
    | none => finishOp t { m with dst := none } [] ok s
  | 0xA => s |> ftwrOp b t m.addr entry |> dropMem t m.id
  | 0xB => s |> unguardOp b t |> dropMem t m.id
  | _ =>
    let (c, s) := sweepOp b m.addr s
    finishOp t m [BitVec.ofNat 64 c] (c == 1 || c == 2) s

/-- The operation writes a record of the Vault. -/
def writesVault (m : MemOp) : Bool := isStore m.mop || m.mop == 0xA

/-- The Vault channel that an operation needs serves requests (R374, R425), the operation has its turn (R142), and there is a place
for its write (R369). -/
def memServed (s : State) (m : MemOp) : Bool :=
  match opNeeds s.vault m with
  | some (a, k) => chanServes s a && turnFree s (chanOf s.vault a) k && (!writesVault m || roomFor s a)
  | none => true

/-- MEM_REPLY (R159): an outstanding operation of Teller t is performed or answered, unless an earlier one to the same word is
outstanding. -/
def memReply (t id : Nat) (s : State) : State :=
  let b := t / 32
  match memOp s t id with
  | none => s
  | some m =>
    if m.poisoned || ((s.tellerAt t).mem.takeWhile (·.id != id)).any (sameWord m) || !memServed s m then s
    else
      match m.msel with
      | 0 => vaultReply b t m s
      | 1 => cofferReply t m s
      | 2 => finishOp t m [m.lo.getD 0] m.stored s
      | _ => slotReply b t m s

def execMemReply (t : Fin 128) (op : Nat) (s : State) : Host.Outcome State Fault Refusal := .next (memReply t.val op s)

/-- No Teller of a Desk holds an item. -/
def deskIdle (s : State) (d : Nat) : Bool := (List.range 8).all fun j => (s.tellerAt (8 * d + j)).st == .idle

/-- DRAINED goes to 1 when the last item of a draining Desk ends. -/
def noteDrained (d : Nat) (s : State) : State :=
  if flagOf s (Reg.TELL_DESK_CTRL d) 0 && deskIdle s d then cause (Reg.TELL_IRQ_CAUSE d) 3 s else s

end Sys2Proof.Machine
end

