-- ==== Sys2Proof/Machine/ItemEnd.lean ====
section
/-!
DEFINITION. What becomes of a work item and its packet: verdicts (R171), recirculation orders (R44, R64, R65), the end of an
item (R180, R197, R200), trap frames as RESUME restores them (R178, R180), and the parking of a pre-empted item (R181, R196).
-/
namespace Sys2Proof.Machine

/-! ### Verdicts -/

/-- The action of a packet whose routine issued no verdict: W6 as it stands, or the Sieve result (R171). -/
def defaultAction (s : State) (b : Nat) (c : ItemCtx) : Word64 :=
  match (ownWay s b c).bind (wayAt s b) with | some y => wordAt y.rc 6 | none => c.g3

/-- Rewrite parameters of the packet: PARAM 0 to 15, then W7, W12 and W13 as the record visit left them, or as the record holds them
while the visit goes on (R205, log entry 14). -/
def itemParams (s : State) (b : Nat) (c : ItemCtx) : List Word64 :=
  (List.range 16).map (fun i => Tbl.get c.params i 0) ++
    match c.bound with
    | some ws => ws
    | none => (((ownWay s b c).bind (wayAt s b)).map bindingWords).getD [0, 0, 0]

/-- The descriptor of the pass that a recirculation order makes (R64). -/
def nextPass (d : Desc) (strip root : Nat) : Desc :=
  { frame := d.frame, port := d.port, cls := d.cls, arr := d.arr, head := d.head + strip, pass := d.pass + 1, root := root,
    stamp := d.stamp, mirrors := d.mirrors, waited := d.waited }

/-- A descriptor enters the recirculation queue (R44). -/
def recircEnter (b : Nat) (d : Desc) (s : State) : State :=
  let s := s.modAssay b fun a =>
    { a with recircQ := a.recircQ ++ [d], recircAt := if a.recircQ.isEmpty then s.time.tick else a.recircAt }
  let n := (s.assayAt b).recircQ.length
  let s := peak (Reg.ASSAY_RECIRC_STATUS b) 26 16 n s
  if n = 1024 then cause (Reg.ASSAY_IRQ_CAUSE b) 3 s else s

/-- A recirculation order is carried out (R64), or refused on pass 3 (R65). -/
def recircPass (b : Nat) (d : Desc) (strip root : Nat) (entered : Bool) (s : State) : State :=
  if 3 ≤ d.pass then
    let s := s |> bump (Reg.ASSAY_PASS_LIMIT_CNT b) |> cause (Reg.ASSAY_IRQ_CAUSE b) 0
    let act := Reg.ASSAY_PORT_ACT (d.port / 16) (d.port % 16)
    if fieldOf s act 1 0 = 2 then puntPass d (fieldOf s act 11 8) d.cls 6 0 s else dropPass d d.cls DROP_PARSE_DEPTH s
  else
    let s := dispose d.port d.cls RECIRCULATED d.waited d.hash d.arr s
    if entered then s else recircEnter b (nextPass d strip root) s

/-- The pass as its copies describe it: with the action word of the verdict, if the verdict applies one (R464). -/
def verdictDesc (s : State) (b : Nat) (c : ItemCtx) (d : Desc) : Desc :=
  match c.verdict with
  | none => underAction d (defaultAction s b c)
  | some (.action a) => underAction d a
  | some _ => d

/-- The packet takes its verdict, its mirror copies first (R171). -/
def packetEnd (b : Nat) (c : ItemCtx) (s : State) : State :=
  match c.desc with
  | none => s
  | some d =>
    if c.released then s
    else
      let s := c.mirrors.foldl (fun s m => mirrorPass (verdictDesc s b c d) m.target m.cls s) s
      match c.verdict with
      | none => takeAction d (defaultAction s b c) (itemParams s b c) s
      | some (.action a) => takeAction d a (itemParams s b c) s
      | some (.punt ring reason) => puntPass d ring d.cls 5 reason s
      | some (.drop code) => dropPass d d.cls code s
      | some (.recirc strip root) => recircPass b d strip root c.recircOk s
      | some .policed => passDone d.frame (infoOf d DROP_POLICER) s

/-- A packet's verdict needs a place in the recirculation queue that is not there (R44). -/
def recircFull (s : State) (b : Nat) (c : ItemCtx) (v : Option Verdict) : Bool :=
  match c.desc, v with
  | some d, some (.recirc _ _) =>
    !c.released && d.pass < 3 && !c.recircOk &&
      (1024 ≤ (s.assayAt b).recircQ.length || !(s.assayAt b).recircWait.isEmpty)
  | _, _ => false

/-- The order waits at the Teller's packet unit (R44). -/
def recircAwait (b t : Nat) (c : ItemCtx) (v : Option Verdict) (s : State) : State :=
  match c.desc, v with
  | some d, some (.recirc strip root) =>
    if (s.assayAt b).recircWait.any fun (u, _) => u == t then s
    else s.modAssay b fun a => { a with recircWait := a.recircWait ++ [(t, nextPass d strip root)] }
  | _, _ => s

/-- RELEASE (R171): the verdict is applied now and the item goes on without the packet. -/
def releasePacket (b t : Nat) (s : State) : State :=
  let c := (s.tellerAt t).ctx
  packetEnd b c s |> (·.modTeller t fun x => { x with ctx := { x.ctx with released := true } })
    |> modItem b c.item fun i => { i with desc := none }

/-! ### Trap frames -/

/-- The return-stack entries of a frame, entry 0 the oldest (Table 7.16). -/
def frameStack (f : Vector Word64 48) : List Nat :=
  (List.range 8).map fun i => wbits (wordAt f (4 + i / 4)) (16 * (i % 4) + 13) (16 * (i % 4))

/-- The micro-state of a frame (R178, R180); a depth above 8 or a span above 16 that a handler has stored acts as 8 or 16
(log entry 45). -/
def restoreFrame (fr : TrapFrame) (x : Teller) : Teller :=
  let f0 := wordAt fr.f 0
  { x with
    pc := wbits f0 13 0, z := f0.getLsbD 16, n := f0.getLsbD 17, c := f0.getLsbD 18, s := f0.getLsbD 19,
    brkSkip := f0.getLsbD 20, stack := ((frameStack fr.f).take (min 8 (wbits f0 24 21))).reverse,
    hold := min 16 (wbits f0 29 25), full := false, lc := wbits f0 47 32, win := fr.win,
    g := Vector.ofFn fun i : Fin 32 => wordAt fr.f (16 + i.val) }

/-- The newest frame is restored and freed. -/
def popFrame (x : Teller) : Teller :=
  match x.frames with
  | fr :: rest => { restoreFrame fr x with frames := rest }
  | [] => x

/-! ### Pre-emption -/

/-- The pre-emption handler runs, with its own frame the newest (R181): the item that asked. -/
def handlerOf (x : Teller) : Option Nat :=
  x.preempt.bind fun (d, i) => if x.frames.length = d + 1 then some i else none

/-- The request of an item to Teller t ends. -/
def dropRequest (b t : Nat) (s : State) : State := s.modDisp b fun d => { d with reqs := d.reqs.filter (·.1 != t % 32) }

/-- The handler has declined (R196): the item asks another Teller. -/
def declinePreempt (b t item : Nat) (s : State) : State :=
  let s := s |> dropRequest b t |> (·.modTeller t fun x => { x with preempt := none })
  match (s.dispAt b).items.find? (·.id = item) with
  | none => s
  | some i =>
    let i := { i with declined := i.declined ++ [t % 32] }
    let s := s |> modItem b item (fun _ => i) |> bump (Reg.DISP_PREEMPT_DECLINE_CNT b) |> trace b 4 i t (preferred s b i)
    (requestPreempt b i (preferred s b i) s).getD s

/-- RESUME (R180). -/
def resume (b t : Nat) (s : State) : State :=
  let x := s.tellerAt t
  let s := s.setTeller t (popFrame x)
  match handlerOf x with
  | some item => declinePreempt b t item s
  | none => s

/-- YIELD (R181): the running item is parked with its lock, and the item that asked starts in the same Teller. -/
def yieldTo (b t item : Nat) (s : State) : State :=
  let x := s.tellerAt t
  let mark := fun fr : TrapFrame => { fr with f := withWord fr.f 0 (setWbits (wordAt fr.f 0) 30 30 1), parked := true }
  let frames := match x.frames with | fr :: rest => mark fr :: rest | [] => []
  let x := { x with frames := frames, parked := some x.ctx, preempt := none, traps := x.traps.filter fun c => c == TrapCause.brk }
  let s := s |> (·.setTeller t x) |> modItem b x.ctx.item (fun i => { i with st := .parked t }) |> dropRequest b t
    |> bump (Reg.DISP_PARK_CNT b)
  match (s.dispAt b).items.find? (·.id = item) with
  | some i => s |> trace b 5 i t (preferred s b i) |> startItem b (t % 32) i (preferred s b i)
  | none => s

/-! ### The end of an item -/

/-- The oldest item of the flow that waits behind a stateless packet item becomes READY (R190, R191). -/
def wakeFlow (b : Nat) (i : Item) (s : State) : State :=
  if itemPkt i && !itemWin i && i.g1 != 0 then
    let behind := fun j : Item => j.st == .waiting && itemPkt j && !itemWin j && j.g1 == i.g1
    s.modDisp b fun d => { d with items := updFirst behind (fun j => { j with st := .ready, readyAt := s.time.tick }) d.items }
  else s

/-- What the end of an item completes, by its kind (R131, R132, R197, R222). -/
def endKind (b t : Nat) (i : Item) (s : State) : State :=
  match i.kind with
  | .host =>
    s |> bump (Reg.DISP_HOST_DONE_CNT b) |> stamp (Reg.DISP_HOST_DONE_SEC b) (Reg.DISP_HOST_DONE_NS b)
      |> cause (Reg.DISP_IRQ_CAUSE b) 0
  | .reloc m => s |> relocEnded b m (freedSlot b t m s)
  | .flowExport n =>
    s.modLedger b fun l => { l with exp := { l.exp with ring := l.exp.ring.map fun e => if e.num = n then { e with item := 3 } else e } }
  | _ => s

/-- LEARN (R200). -/
def learn (b t : Nat) (c : ItemCtx) (s : State) : State :=
  if flagOf s (Reg.DISP_CFG b) 2 && !c.g0.getLsbD 11 && c.g1 != 0 && !c.noAff then setAff b (wbits c.g1 15 0) (0x80 + t % 32) s
  else s

/-- The frames above the newest parked one are dropped (R180). -/
def dropFrames : List TrapFrame → List TrapFrame
  | [] => []
  | fr :: rest => if fr.parked then fr :: rest else dropFrames rest

/-- The Teller after its item: the parked item goes on as RESUME would make it, or the Teller is idle (R181). -/
def afterItem (x : Teller) : Teller :=
  let kept := x.traps.filter fun c => c == TrapCause.brk
  let x := { x with frames := dropFrames x.frames, traps := kept, opening := none, opened := none, preempt := none, win := none }
  match x.parked with
  | some c => { popFrame x with ctx := c, parked := none, st := .run }
  | none => { x with st := .idle, hold := 0, full := false, brkSkip := false, stack := [], ctx := { moveBuf := x.ctx.moveBuf } }

/-- END (R180): the item ends. -/
def endItem (b t : Nat) (s : State) : State :=
  let x := s.tellerAt t
  let c := x.ctx
  let d := deskOf t
  let item := itemOf s t
  let s := packetEnd b c s
  let s := s.modDisp b fun l => { l with items := delFirst (fun j => j.id == c.item) l.items }
  let s := releaseWindow b t c.noAff s
  let s := match item with
    | some i => s |> endKind b t i |> wakeFlow b i
    | none => s
  let s := s |> learn b t c |> dropRequest b t |> (if x.parked.isNone then dropGuards b t else id) |> bump64 (Reg.TELL_ITEM_CNT_LO d) 1 |> perf (uDesk d) 0x02
  let s := if c.prio ≤ 1 then perf (uDesk d) 0x05 s else if c.prio = 3 then perf (uDesk d) 0x06 s else s
  let s := s.modTeller t afterItem
  let s := match (s.tellerAt t).st with
    | .run => modItem b (s.tellerAt t).ctx.item (fun i => { i with st := .running t }) s
    | _ => s
  noteDrained d s

/-! ### POST -/

/-- XOP POST (R174, R187, R198): the P3 item in G[BS] to G[BS+3], and whether it was accepted. -/
def postItem (b : Nat) (x : Teller) (w : MicroWord) (s : State) : Bool × State :=
  let g := fun i => if i = 0 then srcB x w else gReg x (mwBs w + i)
  let g0 := (g 0 &&& offeredMask) ||| BitVec.ofNat 64 (2 ^ 8 * 3 + 2 ^ 14 + 2 ^ 38 * b)
  let i : Item := { id := 0, g0 := g0, g1 := g 1, g3 := g 3, prio := 3, kind := .post, readyAt := s.time.tick }
  if itemRoutine g0 ≠ 0 ∧ placeFree s b 3 then (true, addItem b i s) else (false, noteRefused b i s)

end Sys2Proof.Machine
end

