-- ==== Sys2Proof/Machine/Mac.lean ====
section
/-!
DEFINITION. The Mint of chapter 11 (R252 to R258) and the receive side of the ports (chapter 13: R312 to R315): frames
arriving, their cells, their tails (R52, R268, R269, R301) and sampling (R271, R272).
-/
namespace Sys2Proof.Machine

/-! ### The Mint -/

/-- Cells of a pool (Table 11.2): a reserved minimum exists for the classes of its port. -/
def poolSize (s : State) : Pool → Nat
  | .rsv p q => if q < classCount s p then Tbl.get s.swc.rsvMin q 0 else 0
  | .shared p => Tbl.get s.swc.portShared p 0
  | .global => s.swc.globalSize
  | .express => s.swc.expressSize

/-- The requester's class is express for the Mint (R255). -/
def mintExpress (s : State) : Requester → Bool
  | .port p q => expressOn s p q
  | .inject q => (List.range 64).any fun p => expressOn s p q
  | .tether q => (List.range 64).any fun p => expressOn s p q

/-- The pools that admit a requester, in order (Table 11.2). -/
def poolChain (s : State) (r : Requester) : List Pool :=
  (match r with | .port p q => [.rsv p q, .shared p] | _ => []) ++ [.global] ++ (if mintExpress s r then [.express] else [])

/-- The pool that grants a request. -/
def grantPool (s : State) (r : Requester) : Option Pool := (poolChain s r).find? fun k => poolUsed s k < poolSize s k

/-- Whether two requesters are one: a port and class, the inject requester, or the Tether requester (R255). -/
def sameRequester : Requester → Requester → Bool
  | .port p q, .port p' q' => p == p' && q == q'
  | .inject _, .inject _ => true
  | .tether _, .tether _ => true
  | _, _ => false

/-- Place of a request in its round (R258): higher class, then lower port, then inject, then the Tether. -/
def roundKey : Requester → Nat
  | .port p q => 100 * (7 - q) + p
  | .inject q => 100 * (7 - q) + 64
  | .tether q => 100 * (7 - q) + 65

/-- The oldest request of each requester. -/
def oldestReqs : List (Requester × Nat) → List (Requester × Nat)
  | [] => []
  | q :: qs => q :: (oldestReqs qs).filter fun x => !sameRequester x.1 q.1

/-- Insertion by place in the round. -/
def insertReq (q : Requester × Nat) : List (Requester × Nat) → List (Requester × Nat)
  | [] => [q]
  | x :: xs => if roundKey q.1 < roundKey x.1 then q :: x :: xs else x :: insertReq q xs

/-- The refused counter of a requester. -/
def refusedCnt : Requester → Nat
  | .port p _ => Reg.MINT_REFUSED_CNT p
  | .inject _ => Reg.MINT_REFUSED_INJ_CNT
  | .tether _ => Reg.MINT_REFUSED_TETH_CNT

/-- Cells that a frame needs for the bytes that have arrived (R252). -/
def cellsFor (len : Nat) : Nat := (len + 255) / 256

/-- A frame asks for a further cell while it has more bytes than its cells hold (R252, R257). -/
def wantsCell (x : Frame) : Bool := !x.refused && Decidable.decide (x.cells.length < cellsFor (frameLen x))

def pushReq (r : Requester) (f : Nat) (s : State) : State :=
  if s.swc.cellReqs.any (·.2 == f) then s else { s with swc := { s.swc with cellReqs := s.swc.cellReqs ++ [(r, f)] } }

def dropReq (f : Nat) (s : State) : State := { s with swc := { s.swc with cellReqs := s.swc.cellReqs.filter (·.2 != f) } }

/-- The first cell of a port's frame has been granted: the frame waits in the receive FIFO for admission. -/
def frameStored (f : Nat) (x : Frame) (s : State) : State :=
  match x.req with
  | .port p _ => s.modAssay (p / 16) fun a => { a with rxQ := a.rxQ ++ [f] }
  | _ => s

/-- A request is granted from a pool (R256): the alarms of Table 11.9 follow. -/
def grantCell (f : Nat) (x : Frame) (k : Pool) (s : State) : State :=
  let free := poolSize s .global - poolUsed s .global
  let low := fieldOf s Reg.MINT_GLOBAL_LOW 18 0
  let first := poolUsed s .express
  let y := { x with cells := x.cells ++ [k] }
  let s := s |> setFrame f y |> dropReq f |> perf uMint 0x01
  let s := if x.cells.isEmpty then frameStored f x s else s
  let s := match k with
    | .global =>
      let s := perf uMint 0x03 s
      if low ≠ 0 ∧ low ≤ free ∧ free - 1 < low then cause Reg.MINT_IRQ_CAUSE 1 s else s
    | .express =>
      let s := perf uMint 0x04 s
      if first = 0 then cause Reg.MINT_IRQ_CAUSE 2 s else s
    | _ => s
  let s := match x.req with | .port p _ => fcUpdate p s | _ => s
  if wantsCell y then pushReq x.req f s else s

/-- A request that no pool serves (R257): a frame refused its first cell is discarded at once, a later refusal waits for
the tail. A host frame or Tether copy is discarded by what stores it. -/
def refuseCell (f : Nat) (x : Frame) (s : State) : State :=
  let s := s |> dropReq f |> bump (refusedCnt x.req) |> cause Reg.MINT_IRQ_CAUSE 0 |> perf uMint 0x02
  match x.req, x.cells with
  | .port p _, [] =>
    s |> dropFrame f |> (·.modPort p fun y => if y.rx = some f then { y with rx := none, rxDiscard := true } else y)
      |> dispose x.port x.cls DROP_MINT_REFUSED false 0 (ledgerOf x.arr)
  | _, _ => setFrame f { x with refused := true } s

/-- One request of a round is decided. -/
def decideCell (q : Requester × Nat) (s : State) : State :=
  match frameAt s q.2 with
  | none => dropReq q.2 s
  | some x =>
    if x.refused then dropReq q.2 s
    else match grantPool s q.1 with
      | some k => grantCell q.2 x k s
      | none => refuseCell q.2 x s

/-- MINT_ROUND (R258): every request pending when the round begins, at most one per requester. -/
def mintRound (s : State) : State :=
  ((oldestReqs s.swc.cellReqs).foldl (fun qs q => insertReq q qs) []).foldl (fun s q => decideCell q s) s

def execMintRound (s : State) : Host.Outcome State Fault Refusal := .next (mintRound s)

/-- Rounds go on until the frame holds every cell it needs, or has been refused one. -/
def fillCells (f : Nat) : Nat → State → State
  | 0, s => s
  | n + 1, s =>
    match frameAt s f with
    | some x => if wantsCell x then s |> pushReq x.req f |> mintRound |> fillCells f n else s
    | none => s

/-- Bound on the rounds a frame can need: its cells, and rounds in which an older frame of its requester is served. -/
def maxRounds : Nat := 4096

/-! ### Frames arriving -/

/-- The ingress class of a frame (R314). -/
def ingressClass (s : State) (p : Nat) (data : Bytes) : Nat :=
  let cfg := (regRead s (Reg.PORT_RX_CFG p)).toNat
  let tpid := beAt data 12 2
  let q := if bit cfg 29 ∧ (tpid = 0x8100 ∨ tpid = 0x88A8) then mapClass (fieldOf s (Reg.PORT_PCP_MAP p) 23 0) (bits (byteAt data 14) 7 5)
    else bits cfg 26 24
  clampClass s p q

/-- MAX_FRAME within its limits (R312). -/
def maxFrame (s : State) (p : Nat) : Nat := min 16000 (max 64 (fieldOf s (Reg.PORT_RX_CFG p) 13 0))

/-- The MAC takes frames: the port is UP, the Charter is in RUN and QUIET is neither entered nor held (R34, R309, R414). -/
def macOpen (s : State) (p : Nat) : Bool := (s.portAt p).st == .up && running s && !quieting s

/-- FRAME_RX_START (R252, R314): the first bytes of a frame arrive. `full` says that the port's synchronising FIFO is full,
so that the frame is discarded (R16). A MAC control frame is the command MAC_CONTROL_FRAME's. -/
def rxStart (p : Nat) (data : Bytes) (full : Bool) (s : State) : State :=
  let y := s.portAt p
  if !macOpen s p || y.rx.isSome || y.rxDiscard || data.isEmpty || beAt data 12 2 == 0x8808 then s
  else if full then
    s |> (·.setPort p { y with rxDiscard := true, rxLen := data.length }) |> bump (Reg.PORT_RX_OVERRUN_CNT p)
      |> cause (Reg.PORT_IRQ_CAUSE p) 3 |> perf (uBranch (p / 16)) 0x05
  else
    let q := ingressClass s p data
    let f := s.swc.nextFrame
    let x : Frame := {
      req := .port p q
      port := p
      cls := q
      data := data.take (maxFrame s p)
      arr := adjusted s.time.net (fieldOf s (Reg.TIME_PORT_RX_ADJ p) 31 0)
      sampleRef := flagOf s (Reg.SWC_SAMPLE_CFG p) 31
      refs := 1 + b2n (flagOf s (Reg.SWC_SAMPLE_CFG p) 31) }
    let s := s.setPort p { y with rx := some f, rxLen := data.length }
    { s with swc := { s.swc with nextFrame := f + 1 } } |> setFrame f x |> pushReq x.req f

def execFrameRxStart (p : Fin 64) (data : Bytes) (full : Bool) (s : State) : Host.Outcome State Fault Refusal :=
  .next (rxStart p.val data full s)

/-! ### Tails -/

/-- A policer applied before the tail takes the rest of the length, and tk may fall below 0 (R301). -/
def settlePolicer (x : Frame) (t : PolTail) (s : State) : State :=
  let k := policerKey t.branch t.index
  let p := refill s (policerAt s k)
  setPolicer k { p with tk := p.tk - (((frameLen x - t.charged) * 65536 : Nat) : Int) } s

/-- The copies of a frame that have not started are discarded (Table 11.7). -/
def discardQueued (f code : Nat) (s : State) : State :=
  s.swc.queues.foldl (fun s (n, q) =>
    if q.any (·.frame == f) then
      q.foldl (fun s c => if c.frame = f then discardCopy c code s else s) (s |> setQueue n (q.filter (·.frame != f)) |> settleEmpty n)
    else s) s

/-- The Branch of the latest pass whose deferred check the final length fails (R51, R52). -/
def failedCheck (x : Frame) : Option Nat :=
  (x.deferred.reverse.find? fun (head, e, _) => x.data.length - head < e).map (·.2.2)

/-- The sampler considers a stored frame: whether it is sampled (R271). -/
def samplerStep (p : Nat) (s : State) : Bool × State :=
  let y := Tbl.get s.swc.samplers p {}
  let n := fieldOf s (Reg.SWC_SAMPLE_CFG p) 23 0 + 1
  let put := fun (y : Sampler) => { s with swc := { s.swc with samplers := Tbl.set s.swc.samplers p {} y } }
  if flagOf s (Reg.SWC_SAMPLE_CFG p) 30 then
    let fb := (bits y.lfsr 23 23 + bits y.lfsr 22 22 + bits y.lfsr 21 21 + bits y.lfsr 16 16) % 2
    let v := (2 * y.lfsr + fb) % 2 ^ 24
    (Decidable.decide (v < 2 ^ 24 / n), put { y with lfsr := v })
  else if n ≤ y.count + 1 then (true, put { y with count := 0 })
  else (false, put { y with count := y.count + 1 })

/-- The frame is considered for sampling at its tail (R271); a frame not sampled gives up the sampler's reference. -/
def considerSample (f p : Nat) (s : State) : State :=
  match frameAt s f with
  | none => s
  | some x =>
    let (hit, s) := if flagOf s (Reg.SWC_SAMPLE_CFG p) 31 then samplerStep p s else (false, s)
    if hit && (x.sampleRef || x.refs != 0) then
      s |> setFrame f { x with sampled := true, sampleRef := false, refs := x.refs + b2n (!x.sampleRef) } |> trySample f
    else if x.sampleRef then s |> setFrame f { x with sampleRef := false } |> release f
    else s

/-- The last byte of a stored frame has arrived (R52, R104, R257, R268, R269, R301). -/
def endFrame (f : Nat) (fcsBad : Bool) (s : State) : State :=
  match frameAt s f with
  | none => s
  | some x =>
    let y := { x with tail := true }
    let why := if fcsBad then some BadCause.fcs else if (failedCheck y).isSome then some .length
      else if x.refused && x.refs != 0 then some .refused else none
    let s := setFrame f { y with bad := why, tailAdds := [], polTails := [], deferred := [] } s
    let s := x.tailAdds.foldl (fun s a => tailAdd (frameLen y) a s) s
    let s := x.polTails.foldl (fun s t => settlePolicer y t s) s
    let s := match why, failedCheck y with
      | some .length, some b => s |> bump (Reg.ASSAY_LEN_TAIL_CNT b) |> cause (Reg.ASSAY_IRQ_CAUSE b) 1
      | _, _ => s
    let s := match why with | some w => discardQueued f (badCode w) s | none => s
    let s := considerSample f x.port s
    match frameAt s f with
    | some z => if z.refs = 0 then dropFrame f s else s
    | none => s

/-- Corrected symbols of a frame's lanes, lane by lane from the port's own lane on. -/
def laneSyms (p : Nat) (syms : List Nat) (s : State) : State :=
  ((List.range (modeLanes (s.portCfgAt p).speed)).foldl (fun s i => bumpN (Reg.LANE_FEC_SYM_CNT (p + i)) (syms.getD i 0) s) s)

/-- FRAME_RX_TAIL (R51, R312): the last bytes of a frame, FCS excluded, have arrived. `fcsOk` is false for an FCS error or a
PCS error code; `fec` codewords have been corrected, with `syms` symbols on the lanes. -/
def rxTail (p : Nat) (data : Bytes) (fcsOk : Bool) (fec : Nat) (syms : List Nat) (s : State) : State :=
  let y := s.portAt p
  if y.rx.isNone && !y.rxDiscard then s
  else
    let total := y.rxLen + data.length + 4
    let bad := !fcsOk || Decidable.decide (total < 64) || Decidable.decide (maxFrame s p < total)
    let s := s |> winCount p total false |> bump64 (Reg.PORT_FEC_CORR_CNT_LO p) fec |> laneSyms p syms
    let s := if bad then bump (Reg.PORT_RX_FCS_ERR_CNT p) s else s
    match y.rx with
    | none => s.setPort p { y with rxDiscard := false, rxLen := 0 }
    | some f =>
      let s := modFrame f (fun x => { x with data := (x.data ++ data).take (maxFrame s p - 4), tail := true }) s
      s |> fillCells f maxRounds |> (·.modPort p fun z => { z with rx := none, rxDiscard := false, rxLen := 0 }) |> endFrame f bad

def execFrameRxTail (p : Fin 64) (data : Bytes) (fcsOk : Bool) (fec : Nat) (syms : List Nat) (s : State) : Host.Outcome State Fault Refusal :=
  .next (rxTail p.val data fcsOk fec syms s)

/-- MAC_CONTROL_FRAME (R315): a whole frame of EtherType 0x8808, FCS excluded. -/
def macControl (p : Nat) (data : Bytes) (fcsOk : Bool) (s : State) : State :=
  let y := s.portAt p
  if !macOpen s p || y.rx.isSome || y.rxDiscard || beAt data 12 2 != 0x8808 then s
  else
    let total := data.length + 4
    let s := winCount p total false s
    if !fcsOk || Decidable.decide (total < 64) || Decidable.decide (maxFrame s p < total) then bump (Reg.PORT_RX_FCS_ERR_CNT p) s
    else if beAt data 14 2 = 0x0001 ∨ beAt data 14 2 = 0x0101 then
      s |> bumpField (Reg.PORT_RX_MACCTL_CNT p) 15 0 |> flowControl p data
    else bumpField (Reg.PORT_RX_MACCTL_CNT p) 31 16 s

def execMacControlFrame (p : Fin 64) (data : Bytes) (fcsOk : Bool) (s : State) : Host.Outcome State Fault Refusal :=
  .next (macControl p.val data fcsOk s)

/-- FEC_UNCORR_CODEWORD: counted (Table 13.11); the frame it hits fails its FCS. -/
def fecUncorr (p : Nat) (s : State) : State :=
  if portExists s p then s |> bump (Reg.PORT_FEC_UNCORR_CNT p) |> cause (Reg.PORT_IRQ_CAUSE p) 4 else s

def execFecUncorrCodeword (p : Fin 64) (s : State) : Host.Outcome State Fault Refusal := .next (fecUncorr p.val s)

/-! ### Sampler and group registers -/

/-- A write of SWC_SAMPLE_CFG: EN from 0 to 1 clears the counter (R271). -/
def samplerWrite (p : Nat) (v : Word32) (s : State) : State :=
  let rise := v.getLsbD 31 && !flagOf s (Reg.SWC_SAMPLE_CFG p) 31
  let s := regStore (Reg.SWC_SAMPLE_CFG p) (v &&& 0xCFFFFFFF#32) s
  if rise then
    { s with swc := { s.swc with samplers := Tbl.set s.swc.samplers p {} { Tbl.get s.swc.samplers p {} with count := 0 } } }
  else s

def execSamplerEnable (p : Fin 64) (v : Word32) (s : State) : Host.Outcome State Fault Refusal := .next (gated (samplerWrite p.val v) s)

/-- A write of TRUNC and SEED: SEED loads the generator, 0 loading 1 (R271). -/
def seedWrite (p : Nat) (v : Word32) (s : State) : State :=
  let seed := max 1 (bits v.toNat 23 0)
  let s := regStore (Reg.SWC_SAMPLE_SEED p) (v &&& 0x0F000000#32) s
  { s with swc := { s.swc with samplers := Tbl.set s.swc.samplers p {} { Tbl.get s.swc.samplers p {} with lfsr := seed } } }

def execSampleSeedWrite (p : Fin 64) (v : Word32) (s : State) : Host.Outcome State Fault Refusal := .next (gated (seedWrite p.val v) s)

/-- A write of SWC_GRP_CMD (R263): 1 writes the staged entry, unless it would set more than 64 bits; 2 reads the entry. -/
def grpCommand (cmd : Word32) (s : State) : State :=
  let g := bits cmd.toNat 24 16
  let s := regStore Reg.SWC_GRP_CMD (cmd &&& 0x01FF0000#32) s
  match bits cmd.toNat 1 0 with
  | 1 =>
    let x : Group := {
      ports := pairOf s Reg.SWC_GRP_PORTS_LO
      hosts := fieldOf s Reg.SWC_GRP_HOST 15 0
      hairpin := flagOf s Reg.SWC_GRP_HOST 16 }
    if 64 < popNat x.ports 64 + popNat x.hosts 16 then s |> regStore Reg.SWC_GRP_STATUS 1#32 |> cause Reg.SWC_IRQ_CAUSE 4
    else regStore Reg.SWC_GRP_STATUS 0#32 { s with swc := { s.swc with groups := Tbl.set s.swc.groups g {} x } }
  | 2 =>
    let x := Tbl.get s.swc.groups g {}
    s |> setPair Reg.SWC_GRP_PORTS_LO x.ports |> regStore Reg.SWC_GRP_HOST (BitVec.ofNat 32 (x.hosts + 2 ^ 16 * b2n x.hairpin))
      |> regStore Reg.SWC_GRP_STATUS 0#32
  | _ => s

def execSwcGrpWrite (cmd : Word32) (s : State) : Host.Outcome State Fault Refusal :=
  .next (if bits cmd.toNat 1 0 = 1 then gated (grpCommand cmd) s else s)
def execSwcGrpRead (cmd : Word32) (s : State) : Host.Outcome State Fault Refusal :=
  .next (if bits cmd.toNat 1 0 = 2 then gated (grpCommand cmd) s else s)

end Sys2Proof.Machine
end

