-- ==== Sys2Proof/Machine/Assayer.lean ====
section
/-!
DEFINITION. The Assayer of chapter 03: admission (R42 to R44), the probe tree (R45, R46), field extraction (R48), length
checks (R49 to R52), the canonical key and flow hash (R56 to R59), routing (R53 to R55), and the Exchange (R62, R63).
-/
namespace Sys2Proof.Machine

/-! ### Admission -/

/-- ASSAY_PORT_ACT of a port, in the port's own Branch (R54). -/
def parseAct (p : Nat) : Nat := Reg.ASSAY_PORT_ACT (p / 16) (p % 16)

/-- RESERVE within its limits (R43). -/
def reserveOf (s : State) (b : Nat) : Nat := min 512 (max 103 (fieldOf s (Reg.ASSAY_RECIRC_CFG b) 9 0))

/-- Slots that recirculation is owed by the next admission of the run (R43). -/
def owedSlots (s : State) (b : Nat) : Nat := (reserveOf s b * ((s.assayAt b).slots + 1) + 1023) / 1024

/-- The sources that wait, in the round-robin order that follows the one served last: ports 0 to 15 of the Branch, and 16
the inject source. R43 gives neither the order nor the start of the round: ports in ascending number, then the inject source, from
port 0 on (DESIGN CHOICE, log entry 121). -/
def nextSource (s : State) (b : Nat) : Option Nat :=
  let a := s.assayAt b
  let waits := fun i => if i = 16 then !a.injectQ.isEmpty
    else a.rxQ.any fun f => match frameAt s f with | some x => x.port % 16 == i | none => false
  ((List.range 17).map fun i => (a.last + 1 + i) % 17).find? waits

/-- One admission of the run has been made (R43). -/
def countSlot (b recirc : Nat) (s : State) : State :=
  s.modAssay b fun a =>
    if 1023 ≤ a.slots then { a with slots := 0, recircSlots := 0 } else { a with slots := a.slots + 1, recircSlots := recirc }

/-- The pass waits in the Assayer until its window is complete. -/
def takeIn (b : Nat) (d : Desc) (s : State) : State := s.modAssay b fun a => { a with parsing := a.parsing ++ [d] }

/-- The head of the recirculation queue is admitted. -/
def admitRecirc (b : Nat) (s : State) : State :=
  match (s.assayAt b).recircQ with
  | [] => s
  | d :: rest =>
    s |> (·.modAssay b fun a => { a with recircQ := rest, recircAt := s.time.tick }) |> countSlot b ((s.assayAt b).recircSlots + 1)
      |> bump (Reg.ASSAY_RECIRC_CNT b) |> perf (uBranch b) 0x02 |> takeIn b d

/-- The first pass of a frame from a port (R42, R84). -/
def firstPass (s : State) (f : Nat) (x : Frame) : Desc :=
  { frame := f, port := x.port, cls := x.cls, arr := ledgerOf x.arr, root := fieldOf s (parseAct x.port) 5 4, stamp := s.accord.gen }

/-- The oldest frame of port i of the Branch is admitted. -/
def admitPort (b i : Nat) (s : State) : State :=
  let mine := fun f => match frameAt s f with | some x => x.port % 16 == i | none => false
  match (s.assayAt b).rxQ.find? mine with
  | none => s
  | some f =>
    match frameAt s f with
    | none => s
    | some x => s |> (·.modAssay b fun a => { a with rxQ := delFirst (· == f) a.rxQ }) |> perf (uBranch b) 0x01
        |> takeIn b (firstPass s f x)

/-- The oldest injected pass is admitted (R42, R84). -/
def admitInject (b : Nat) (s : State) : State :=
  match (s.assayAt b).injectQ with
  | [] => s
  | d :: rest => s |> (·.modAssay b fun a => { a with injectQ := rest }) |> perf (uBranch b) 0x03
      |> takeIn b { d with stamp := s.accord.gen }

/-- Source i is served in a slot that is not recirculation's: a slot owed to an empty queue is not made up (R43). -/
def admitSource (b i : Nat) (s : State) : State :=
  s |> countSlot b (max (s.assayAt b).recircSlots (owedSlots s b)) |> (if i = 16 then admitInject b else admitPort b i)
    |> (·.modAssay b fun a => { a with last := i })

/-- A stateless packet item that stops admission takes its place, once one is free (R189). -/
def placeStalled (b : Nat) (s : State) : State :=
  match (s.assayAt b).stalled with
  | some (d, a) =>
    if placeFree s b (actionPrio s a) then addStateless b d a false (s.modAssay b fun x => { x with stalled := none }) else s
  | none => s

/-- ASSAY_ADMIT (R43): one slot of the Assayer of Branch b. -/
def assayAdmit (b : Nat) (s : State) : State :=
  let a := s.assayAt b
  if !flowing s || !domOn s (9 + b) || a.held.isSome then s
  else if a.stalled.isSome then placeStalled b s
  else if !a.recircQ.isEmpty && Decidable.decide (a.recircSlots < owedSlots s b) then admitRecirc b s
  else match nextSource s b with
    | some i => admitSource b i s
    | none => if allowanceHeld s (4 + b) then admitRecirc b s else s

def execAssayAdmit (b : Fin 4) (s : State) : Host.Outcome State Fault Refusal := .next (assayAdmit b.val s)

/-! ### The probe tree -/

/-- The parse window from a head on: at most 256 bytes (R41). -/
def windowOf (x : Frame) (head : Nat) : Bytes := (x.data.drop head).take 256

/-- The window is complete: its byte 255 has arrived, or the frame has ended (R41). -/
def windowDone (x : Frame) (head : Nat) : Bool := x.tail || Decidable.decide (256 ≤ x.data.length - head)

/-- The next pointer of a probe node after its comparison (R45, Table 3.1); bytes past the window read 0. -/
def probeNode (tp win : Bytes) (i : Nat) : Nat :=
  let at_ := 0x1000 + 16 * i
  let x := beAt win (byteAt tp (at_ + 8)) (bits (byteAt tp (at_ + 9)) 1 0 + 1)
  if x &&& leAt tp (at_ + 4) 4 = leAt tp at_ 4 then leAt tp (at_ + 10) 2 % 4096 else leAt tp (at_ + 12) 2 % 4096

/-- The walk from a next pointer to a leaf: its DEEP mark and template (R46). A tree that the loader accepts ends within 16
probes (R67). -/
def walkTree (tp win : Bytes) : Nat → Nat → Bool × Nat
  | 0, _ => (true, 0)
  | n + 1, ptr => if bit ptr 11 then (bit ptr 8, bits ptr 7 0) else walkTree tp win n (probeNode tp win (bits ptr 10 0))

/-- Template t as loaded (Table 3.14). -/
def templateOf (s : State) (t : Nat) : Bytes := slice s.templates (0x10000 + 512 * t) 512

/-! ### Field extraction -/

/-- A metadata value of Table 3.5. -/
def metaValue (s : State) (d : Desc) (sel : Nat) : Nat :=
  match sel with
  | 0 => d.port
  | 1 => fieldOf s (parseAct d.port) 31 16
  | 2 => d.pass
  | 3 => d.root
  | _ => 0

/-- The w window bits that start at bit `b` of byte `off`, first bit most significant (R48). -/
def windowBits (win : Bytes) (off b w : Nat) : Nat :=
  let n := (b + w + 7) / 8
  beAt win off n / 2 ^ (8 * n - b - w) % 2 ^ w

/-- One field entry: value, width, lowest key-vector bit and role (Table 3.4). -/
structure FieldVal where
  value : Nat
  width : Nat
  dst : Nat
  role : Nat

/-- Field entry i of a template, evaluated. -/
def fieldVal (s : State) (d : Desc) (tpl win : Bytes) (i : Nat) : FieldVal :=
  let at_ := 0x080 + 8 * i
  let c := byteAt tpl (at_ + 1)
  let w := bits (byteAt tpl (at_ + 2)) 6 0 + 1
  let v := if bit c 3 then metaValue s d (byteAt tpl at_) % 2 ^ w else windowBits win (byteAt tpl at_) (bits c 2 0) w
  ⟨v, w, leAt tpl (at_ + 4) 2 % 512, bits c 7 4⟩

/-- The fields of a template in table order. -/
def fieldVals (s : State) (d : Desc) (tpl win : Bytes) : List FieldVal :=
  (List.range (min 32 (byteAt tpl 1))).map (fieldVal s d tpl win)

/-- The key vector: later fields over earlier ones, bits past 511 dropped (R48). -/
def keyVector (fs : List FieldVal) : KeyVec :=
  BitVec.ofNat 512 (fs.foldl (fun kv f => setBits kv (min 511 (f.dst + f.width - 1)) f.dst f.value) 0)

/-! ### Length checks -/

/-- BASE of a layer (Table 3.3). -/
def layerBase (tpl : Bytes) (l : Nat) : Nat := byteAt tpl (0x008 + 4 * l)

/-- What the checks have found: a failure, and the largest declared end deferred to the tail. -/
structure Lengths where
  bad : Bool := false
  declEnd : Nat := 0
deriving DecidableEq, Repr

/-- Length from the current head, FCS excluded (R51). -/
def headLen (x : Frame) (head : Nat) : Nat := x.data.length - head

/-- D of check i: field × scale + ADJUST (R50). -/
def declared (tpl win : Bytes) (i : Nat) : Int :=
  let at_ := 0x028 + 8 * i
  let c := byteAt tpl (at_ + 1)
  let scale := match bits c 5 4 with | 1 => 4 | 2 => 8 | _ => 1
  ((beAt win (byteAt tpl at_) (bits c 0 0 + 1) * scale : Nat) : Int) + signed 16 (leAt tpl (at_ + 4) 2)

/-- An end that must lie within the frame: decided now, or deferred (R49, R51). -/
def checkEnd (x : Frame) (head : Nat) (e : Int) (r : Lengths) : Lengths :=
  if x.tail then (if ((headLen x head : Nat) : Int) < e then { r with bad := true } else r)
  else if e ≤ 256 then r
  else { r with declEnd := max r.declEnd e.toNat }

/-- Check i of the template (R50). -/
def lengthCheck (x : Frame) (head : Nat) (tpl win : Bytes) (r : Lengths) (i : Nat) : Lengths :=
  let at_ := 0x028 + 8 * i
  let c := byteAt tpl (at_ + 1)
  let base := fun j => ((layerBase tpl (bits (byteAt tpl (0x028 + 8 * j + 2)) 2 0) : Nat) : Int)
  let d := declared tpl win i
  let j := bits c 3 2
  let r := if d < ((leAt tpl (at_ + 6) 2 : Nat) : Int) then { r with bad := true } else r
  if bit c 1 then (if j < i ∧ d = declared tpl win j - (base i - base j) then r else { r with bad := true })
  else checkEnd x head (base i + d) r

/-- MIN_LEN and every check of the template (R49 to R51). -/
def lengthChecks (x : Frame) (head : Nat) (tpl win : Bytes) : Lengths :=
  (List.range (min 4 (byteAt tpl 2))).foldl (lengthCheck x head tpl win) (checkEnd x head ((leAt tpl 4 2 : Nat) : Int) {})

/-! ### The canonical key -/

/-- The role bytes of R56 as numbers. -/
structure Roles where
  src : Nat := 0
  dst : Nat := 0
  sport : Nat := 0
  dport : Nat := 0
  proto : Nat := 0
  zone : Nat := 0
deriving DecidableEq, Repr

/-- An IPv4 address in IPv4-mapped form (R56). -/
def mapped4 (v : Nat) : Nat := 0xFFFF * 2 ^ 32 + v % 2 ^ 32

/-- A field fills its role (Table 3.7). -/
def fillRole (r : Roles) (f : FieldVal) : Roles :=
  match f.role with
  | 1 => { r with src := mapped4 f.value }
  | 2 => { r with dst := mapped4 f.value }
  | 3 => { r with src := f.value }
  | 4 => { r with dst := f.value }
  | 5 => { r with sport := f.value % 65536 }
  | 6 => { r with dport := f.value % 65536 }
  | 7 => { r with proto := f.value % 256 }
  | 8 => { r with zone := f.value % 65536 }
  | _ => r

/-- The canonical key and DIR (R57, Table 3.10). -/
def canonical (r : Roles) (keyType : Nat) : Ckey × Bool :=
  let a := r.src * 65536 + r.sport
  let z := r.dst * 65536 + r.dport
  let (lo, hi, dir) := if a ≤ z then (a, z, false) else (z, a, true)
  let key := beBytes 16 (lo / 65536) ++ beBytes 16 (hi / 65536) ++ beBytes 2 (lo % 65536) ++ beBytes 2 (hi % 65536) ++
    [BitVec.ofNat 8 r.proto, BitVec.ofNat 8 (keyType % 16)] ++ beBytes 2 r.zone
  (BitVec.ofNat 320 (leNat key), dir)

/-! ### Routing -/

/-- The parse result of a pass (R53, R61), and whether its template is STATELESS. DIR stands whatever the status (Table 3.11). -/
def parse (s : State) (d : Desc) (x : Frame) : Desc × Lengths × Bool :=
  let win := windowOf x d.head
  let (deep, t) := walkTree s.templates win 17 (leAt s.templates (2 * d.root) 2 % 4096)
  let tpl := templateOf s t
  let fs := fieldVals s d tpl win
  let l := lengthChecks x d.head tpl win
  let st := if l.bad then 2 else if deep then 1 else 0
  let (key, dir) := canonical (fs.foldl fillRole {}) (byteAt tpl 6)
  let ok : Bool := st == 0
  ({ d with
     template := t, status := st, dir := dir, declEnd := min 0x3FFF l.declEnd, key := keyVector fs,
     ckey := if ok then key else 0,
     hash := if ok then flowHash key s.vault.seed else 0 }, l, bit (byteAt tpl 3) 0)

/-- A pass that the parsing Branch classifies without a record (R54, R55): its policer, and at once its action or a work
item, whose want of a place stops the Assayer (R189). -/
def parseStateless (b : Nat) (d : Desc) (s : State) : State :=
  let (a, _, s) := sieveLookup b d.key d.template d.stamp s
  if actRoutine a = 0 then applyAction b d a (List.replicate 19 0) s
  else
    let (ok, s) := policeAction b d a s
    if !ok then dropPass (underAction d a) (actQueue a) DROP_POLICER s
    else if placeFree s b (actionPrio s a) then addStateless b d a false s
    else s |> (·.modAssay b fun x => { x with stalled := some (d, a) }) |> noteStall b (packetItem s b d a none false false)

/-- DEEP_ACT or LEN_ACT (R55, Table 3.9); the reserved value acts as the field's reset value (R9). -/
def parseDefault (b act reset code : Nat) (d : Desc) (s : State) : State :=
  match (if act = 3 then reset else act) with
  | 0 => parseStateless b { d with fallback := true } s
  | 2 => puntPass d (fieldOf s (parseAct d.port) 11 8) d.cls 1 0 s
  | _ => dropPass d d.cls code s

/-- The output queue of Branch b for a home Branch takes a descriptor (R62). -/
def xchPut (b home : Nat) (d : Desc) (s : State) : State :=
  s |> (·.modAssay b fun a => { a with out := Tbl.set a.out home [] (Tbl.get a.out home [] ++ [d]) })
    |> bump (Reg.ASSAY_XCH_OUT_CNT b home)

/-- The output queue for a home Branch has a place (R62). -/
def xchFree (s : State) (b home : Nat) : Bool := (Tbl.get (s.assayAt b).out home []).length < 256

/-- A descriptor goes to its home Branch, or is held for a place (R62, R63). -/
def xchSend (b : Nat) (d : Desc) (s : State) : State :=
  let home := homeOf d.hash
  if xchFree s b home then xchPut b home d s
  else s.modAssay b fun a => { a with held := some (home, d), heldAt := s.time.tick, stallAt := s.time.tick, heldTold := false }

/-- The routing of Table 3.8. -/
def routePass (b : Nat) (d : Desc) (stateless : Bool) (s : State) : State :=
  match d.status with
  | 0 => if stateless then parseStateless b d s else xchSend b d s
  | 1 => parseDefault b (fieldOf s (parseAct d.port) 1 0) 0 DROP_PARSE_DEPTH d (bump (Reg.ASSAY_DEEP_CNT b) s)
  | _ => parseDefault b (fieldOf s (parseAct d.port) 3 2) 1 DROP_PARSE_LENGTH d (bump (Reg.ASSAY_LEN_CNT b) s)

/-- The frame takes note of a declared end that waits for its tail (R51). -/
def deferEnd (b : Nat) (d : Desc) (l : Lengths) (s : State) : State :=
  if l.declEnd = 0 then s else modFrame d.frame (fun x => { x with deferred := x.deferred ++ [(d.head, l.declEnd, b)] }) s

/-- The pass of a frame that may be decided: no earlier first pass of its port is undecided, so that output keeps arrival
order (R62). -/
def passInHand (s : State) (b f : Nat) : Option Desc :=
  let ps := (s.assayAt b).parsing
  (ps.find? (·.frame == f)).bind fun d =>
    if d.pass = 0 ∧ (ps.find? fun e => e.pass == 0 && e.port == d.port).map (·.frame) ≠ some f then none else some d

/-- PARSE_PASS: the pass of a frame whose window is complete is decided and routed (R41, R53, R54). -/
def parsePass (b f : Nat) (s : State) : State :=
  let a := s.assayAt b
  if !domOn s (9 + b) || a.held.isSome || a.stalled.isSome then s
  else match passInHand s b f, frameAt s f with
    | some d, some x =>
      if windowDone x d.head then
        let (d', l, stateless) := parse s d x
        s |> (·.modAssay b fun a => { a with parsing := delFirst (·.frame == f) a.parsing })
          |> bump (Reg.ASSAY_TEMPLATE_HIT b d'.template) |> deferEnd b d' l |> routePass b d' stateless
      else s
    | _, _ => s

/-- An entry of the Sieve of Branch b is read (Table 16.4): a lasting error takes the copy of the first of the other replicas, in the
order of the Branches after b, that reads clean; where none does, the entry acts as invalid in this Branch. -/
def sieveRead (b : Nat) (s : State) (r : SieveRead) : State :=
  let s := sramEvent 3 b r.index (noPage r.ecc) s
  let clean := [b + 1, b + 2, b + 3].any fun c => !r.bad.toNat.testBit (c % 4) && !replicaLost s (c % 4) r.index
  if noPage r.ecc = .lasting ∧ !clean ∧ (b, r.index) ∉ s.sieve.lost then
    { s with sieve := { s.sieve with lost := s.sieve.lost ++ [(b, r.index)] } }
  else s

/-- PARSE_PASS (R53), with what the codes of the Sieve entries that it reads find. -/
def execParsePass (b : Fin 4) (frame : Nat) (sieve : List SieveRead) (s : State) : Host.Outcome State Fault Refusal :=
  .next (parsePass b.val frame (sieve.foldl (sieveRead b.val) s))

/-! ### The Exchange and the recirculation queue -/

/-- XCH_HOLD_RELEASE (R63): a place has freed for the held descriptor. -/
def holdRelease (b : Nat) (s : State) : State :=
  match (s.assayAt b).held with
  | some (home, d) =>
    if xchFree s b home then s |> (·.modAssay b fun a => { a with held := none, heldTold := false }) |> xchPut b home d else s
  | none => s

def execXchHoldRelease (b : Fin 4) (s : State) : Host.Outcome State Fault Refusal := .next (holdRelease b.val s)

/-- XCH_STALL_INTERVAL (R63): a further 1 µs with the output held; after 100 µs the cause is set, once for the hold. -/
def xchStall (b : Nat) (s : State) : State :=
  let a := s.assayAt b
  if a.held.isNone ∨ since s a.stallAt < us 1 then s
  else
    let s := s |> bump (Reg.ASSAY_XCH_STALL_CNT b) |> (·.modAssay b fun a => { a with stallAt := s.time.tick })
    if !a.heldTold && Decidable.decide (us 100 ≤ since s a.heldAt) then
      s |> cause (Reg.ASSAY_IRQ_CAUSE b) 2 |> (·.modAssay b fun a => { a with heldTold := true })
    else s

def execXchStallInterval (b : Fin 4) (s : State) : Host.Outcome State Fault Refusal := .next (xchStall b.val s)

/-- RECIRC_PLACE_FREED (R44): the order that has waited longest at a packet unit takes the place. -/
def recircPlace (b : Nat) (s : State) : State :=
  let a := s.assayAt b
  match a.recircWait with
  | (t, d) :: rest =>
    if 1024 ≤ a.recircQ.length then s
    else s |> (·.setAssay b { a with recircWait := rest }) |> recircEnter b d
      |> (·.modTeller t fun x => { x with ctx := { x.ctx with recircOk := true } })
  | [] => s

def execRecircPlaceFreed (b : Fin 4) (s : State) : Host.Outcome State Fault Refusal := .next (recircPlace b.val s)

end Sys2Proof.Machine
end

