-- ==== Sys2Proof/Machine/Teller.lean ====
section
/-!
DEFINITION. How a Teller executes a microword (R152 to R175) and takes a micro-trap (R176 to R183): the fetch, the rules under
which a word waits or is illegal, its results and effects, the sequencer, the trap frame, and the control-store accesses of a
Desk (R154).
-/
namespace Sys2Proof.Machine

/-! ### Fetch -/

/-- The word at a Teller's PC (R152). -/
def wordOf (s : State) (t pc : Nat) : MicroWord := Tbl.get (s.deskAt (deskOf t)).store pc 0

/-- A control-store word was found corrected or uncorrectable (R154): counted and reported. -/
def csEvent (d addr : Nat) (e : EccResult) (s : State) : State :=
  let s := sramEvent 5 (d / 4) addr (noPage e) s
  match e with
  | .clean => s
  | .corrected => s |> bump (Reg.TELL_CS_CORR_CNT d) |> cause (Reg.TELL_IRQ_CAUSE d) 0 |> emit (srcDesk d) 0x3A addr
  | .transient => emit (srcDesk d) 0x3A (addr + 2 ^ 15) s
  | _ => s |> bump (Reg.TELL_CS_UNCORR_CNT d) |> cause (Reg.TELL_IRQ_CAUSE d) 1 |> emit (srcDesk d) 0x3A (addr + 2 ^ 14)

/-- A breakpoint of the Desk stands at the Teller's PC and applies to it (R175). -/
def atBreak (s : State) (t : Nat) (x : Teller) : Bool :=
  let d := deskOf t
  flagOf s (Reg.TELL_TCTRL d (t % 8)) 2 && !x.brkSkip &&
    (List.range 4).any fun n => flagOf s (Reg.TELL_BRK d n) 31 && fieldOf s (Reg.TELL_BRK d n) 13 0 == x.pc

/-- The word would continue a HOLD span (R177). -/
def inSpan (x : Teller) (w : MicroWord) : Bool := x.hold != 0 && mwHold w

/-- HOLD defers the cause (Table 7.14). -/
def deferrable : TrapCause → Bool
  | .preempt | .budget | .brk => true
  | _ => false

/-- The cause belongs to the word at the PC. -/
def ofWord : TrapCause → Bool
  | .poison _ | .lockTmo _ | .illegal _ => true
  | _ => false

/-- The trap that is due before the word w is executed (R176, R177); while the word waits, only one of its own. -/
def dueTrap (s : State) (t : Nat) (x : Teller) (w : MicroWord) : Option TrapCause :=
  match x.st with
  | .wait => x.traps.find? ofWord
  | .run =>
    match x.traps.find? fun c => !deferrable c || !inSpan x w with
    | some c => some c
    | none => if atBreak s t x && !inSpan x w then some .brk else none
  | _ => none

/-! ### Waiting and legality -/

/-- What the checks of a word say. -/
inductive Gate
  | go
  | wait
  | illegal (detail : Nat)
  | poison (addr : Nat)

/-- The word's sequencer or ALU uses its condition (R162). -/
def usesCond (w : MicroWord) : Bool :=
  mwSeq w == 2 || mwSeq w == 3 || mwSeq w == 5 || mwSeq w == 7 || mwAop w == 0x1F

/-- The word must wait for an operation (R159): it touches the destination, or tests S or MEM_IDLE while S is pending. -/
def touchesOp (w : MicroWord) (m : MemOp) : Bool :=
  (match m.dst with
    | some (r, n) => (regReads w ++ regWrites w).any fun i => r ≤ i && i < r + n
    | none => false) ||
  (m.setsS && usesCond w && (mwCond w == 7 || mwCond w == 8 || mwCond w == 0x1B))

/-- Pending registers (R159, R175). -/
def pendGate (x : Teller) (w : MicroWord) : Gate :=
  match x.mem.find? (touchesOp w) with
  | some m => if m.poisoned then .poison m.addr else .wait
  | none => .go

/-- The word includes the fence of R160. -/
def fences (w : MicroWord) : Bool := mwFence w || mwSeq w == 0xC || mwSeq w == 0xD || mwFop w == 9 || mwXop w == 1

/-- Operations of earlier words are outstanding (R160). -/
def opsOut (x : Teller) : Bool := x.mem.any (!·.poisoned) || x.ctx.scanBusy

/-- A fence (R160, R175). -/
def fenceGate (x : Teller) (w : MicroWord) : Gate :=
  if !fences w then .go
  else if opsOut x then .wait
  else match x.mem with | m :: _ => .poison m.addr | [] => .go

/-- The DETAIL codes (Table 7.15) of the rules that a word breaks as the state stands. -/
def stateDetails (s : State) (b t : Nat) (x : Teller) (w : MicroWord) : List Nat :=
  let cond := condition s b x w
  let q := mwQop w
  (if (mwSeq w = 4 ∨ (mwSeq w = 5 ∧ cond)) ∧ 8 ≤ x.stack.length then [0x02] else []) ++
    (if (mwSeq w = 6 ∨ (mwSeq w = 7 ∧ cond)) ∧ x.stack = [] then [0x03] else []) ++
    (if windowIllegal s b x w ∨ (mwTop w = 4 ∧ (winWay s b x).isNone) then [0x05] else []) ++
    (if (q ≠ 0 ∨ mwTop w = 2) ∧ !hasPacket x then [0x06] else []) ++
    (if addressIllegal s b x w then [0x07] else []) ++
    (if (mwSeq w = 0xD ∧ (x.frames.head?.map (·.parked)) ≠ some false) ∨ (mwXop w = 1 ∧ (handlerOf x).isNone) then [0x09] else []) ++
    (if (mwCop w = 5 ∧ !flagOf s (Reg.TELL_PERM (deskOf t)) 0) ∨
        (q = 7 ∧ 4 ≤ (x.ctx.desc.getD {}).mirrors) then [0x0C] else [])

/-- The verdict as it stands once the word's packet operation has been made. -/
def nextVerdict (x : Teller) (w : MicroWord) : Option Verdict :=
  let v := srcB x w
  if x.ctx.verdict = some .policed then some .policed
  else
    match mwQop w with
    | 3 => some (.action v)
    | 5 => some (.recirc (mwQarg w) (wbits v 1 0))
    | 6 => some (.punt (mwQarg w % 16) (wbits v 15 0))
    | 8 => some (.drop (mwQarg w))
    | _ => x.ctx.verdict

/-- The word applies the packet's verdict. -/
def appliesVerdict (w : MicroWord) : Bool := mwSeq w == 0xC || mwQop w == 0xC

/-- The units' own waits that need nothing of other units (R233, R237, R400): SCAN, NOSEGET and RELEASE wait for the item's
outstanding SCAN (R234, R235). -/
def unitGate (s : State) (b : Nat) (x : Teller) (w : MicroWord) : Gate :=
  match lostTouch s b x w with
  | some a => .poison a
  | none => if scanWait s b x w || ((mwQop w == 0xA || mwQop w == 0xB || mwQop w == 0xC) && x.ctx.scanBusy) then .wait else .go

/-- All checks that change nothing, in order (log entry 41). -/
def wordGate (s : State) (b t : Nat) (x : Teller) (w : MicroWord) : Gate :=
  match fieldDetails w with
  | d :: ds => .illegal (ds.foldl min d)
  | [] =>
    match pendGate x w with
    | .go =>
      match fenceGate x w with
      | .go =>
        match stateDetails s b t x w with
        | d :: ds => .illegal (ds.foldl min d)
        | [] => unitGate s b x w
      | g => g
    | g => g

/-! ### Results -/

/-- Window bytes i to i + 7 of the packet, the first in bits [63:56] (R170). -/
def packetBytes (s : State) (d : Desc) (i : Nat) : Word64 :=
  match frameAt s d.frame with
  | some f => BitVec.ofNat 64 (beNat (slice ((f.data.drop d.head).take 256) i 8))
  | none => 0

/-- LDDESC (Table 7.12). -/
def descWord (s : State) (d : Desc) (sel : Nat) : Word64 :=
  match sel with
  | 0 => BitVec.ofNat 64 (d.template % 256 + 2 ^ 8 * (d.status % 4) + 2 ^ 10 * (d.pass % 4) + 2 ^ 12 * (d.root % 4) +
      2 ^ 14 * b2n d.dir + 2 ^ 16 * (d.declEnd % 2 ^ 14) + 2 ^ 32 * (d.stamp % 65536) + 2 ^ 48 * (d.port % 64))
  | 1 => d.hash
  | 2 => BitVec.ofNat 64 d.arr
  | 3 =>
    match frameAt s d.frame with
    | some f => BitVec.ofNat 64 ((frameLen f - d.head) % 2 ^ 14 + 2 ^ 14 * b2n f.tail + 2 ^ 15 * b2n (f.bad == some .fcs))
    | none => 0
  | n => keyWord d.ckey (n - 4)

/-- Result of a packet operation that writes G[BD]. -/
def packetResult (s : State) (x : Teller) (w : MicroWord) : Word64 :=
  match x.ctx.desc with
  | none => 0
  | some d =>
    match mwQop w with
    | 1 => packetBytes s d (mwQarg w)
    | 2 => descWord s d (mwQarg w)
    | _ => x.ctx.scan.getD (bareResult 0xF)

/-- The counter of the Desk's microcode that CARG names (R172). -/
def mcCounter (t : Nat) (w : MicroWord) : Nat := Reg.TELL_MC_CNT_LO (deskOf t) (mwCarg w % 64)

/-- The unit of Table 20.5 that PERF reads (R172). -/
def perfUnit (b t : Nat) (w : MicroWord) : Nat :=
  match bits (mwCarg w) 4 3 with
  | 0 => uDesk (deskOf t)
  | 1 => uDisp b
  | 2 => uTill b
  | _ => uNose b

/-- Result of a counter operation that writes G[BD]. -/
def counterResult (s : State) (b t : Nat) (w : MicroWord) : Word64 :=
  match mwCop w with
  | 5 => BitVec.ofNat 64 (pairOf s (Reg.PERF_CNT_LO (perfUnit b t w) (mwCarg w % 8)))
  | 6 => BitVec.ofNat 64 s.perf.ticks
  | _ => BitVec.ofNat 64 (pairOf s (mcCounter t w))

/-- Result of a time operation (R173). -/
def timeResult (s : State) (b : Nat) (x : Teller) (w : MicroWord) : Word64 :=
  match mwTop w with
  | 1 => BitVec.ofNat 64 (ledgerNow s)
  | 2 => match x.ctx.desc with | some d => BitVec.ofNat 64 d.arr | none => 0
  | 3 => BitVec.ofNat 64 (ledgerNow s) - srcB x w
  | 4 => match winWay s b x with | some y => BitVec.ofNat 64 y.lockAt | none => 0
  | 5 => BitVec.ofNat 64 (netSec s.time.net)
  | _ => BitVec.ofNat 64 (2 ^ 16 * netNs s.time.net + netFrac s.time.net)

/-- Result and carry of the word's ALU-A operation. -/
def aluResult (s : State) (b : Nat) (x : Teller) (w : MicroWord) : Word64 × Bool :=
  aluA (mwAop w) (gReg x (mwAs1 w)) (srcA2 x w) (gReg x (mwAd w)) (condition s b x w)

/-- Every register that the word writes at the end of its step, with its value (R156, R159). -/
def wordResults (s : State) (b t : Nat) (x : Teller) (w : MicroWord) : List (Nat × Word64) :=
  let on := fun (c : Bool) v => if c then [(mwBd w, v)] else []
  (if aluAWrites w = [] then [] else [(mwAd w, (aluResult s b x w).1)]) ++
    on (mwBop w != 0) (aluB (mwBop w) (srcB x w) (gReg x (mwBd w))) ++
    on (mwFop w == 1) (match winWay s b x with | some y => wordAt y.rc (mwFidx w) | none => 0) ++
    on (mwHop w != 0) (hashOp s x w) ++
    on (mwQop w == 1 || mwQop w == 2 || mwQop w == 0xB) (packetResult s x w) ++
    on (3 ≤ mwCop w) (counterResult s b t w) ++
    on (mwTop w != 0) (timeResult s b x w) ++ localLoad x w

/-! ### Effects -/

/-- The packet operations that order something (R170, R171); the value of S that POLICE gives. -/
def qopEffect (b t : Nat) (x : Teller) (w : MicroWord) (s : State) : Option Bool × State :=
  let ctx := fun (f : ItemCtx → ItemCtx) => s.modTeller t fun y => { y with ctx := f y.ctx }
  let v := srcB x w
  match mwQop w, x.ctx.desc with
  | 4, some _ => (none, ctx fun c => { c with params := Tbl.set c.params (mwQarg w % 16) 0 v })
  | 7, some _ =>
    (none, ctx fun c => { c with mirrors := c.mirrors ++ [⟨wbits v 9 0, mwQarg w % 8⟩],
                                 desc := c.desc.map fun d => { d with mirrors := d.mirrors + 1 } })
  | 9, some d =>
    let (ok, s) := police b (wbits v 15 0) d s
    if ok ∨ x.ctx.verdict = some .policed then (some ok, s)
    else
      (some false, s |> dispose d.port d.cls DROP_POLICER d.waited d.hash d.arr
        |> (·.modTeller t fun y => { y with ctx := { y.ctx with verdict := some .policed } }))
  | 12, some _ => (none, releasePacket b t s)
  | _, _ => (none, ctx fun c => { c with verdict := nextVerdict x w })

/-- The counter operations (R172). -/
def copEffect (t : Nat) (x : Teller) (w : MicroWord) (s : State) : State :=
  let c := mcCounter t w
  match mwCop w with
  | 1 => setPair c ((pairOf s c + 1) % 2 ^ 64) s
  | 2 => setPair c ((pairOf s c + (srcB x w).toNat) % 2 ^ 64) s
  | 4 => setPair c 0 s
  | _ => s

/-- The Dispatcher operations but YIELD (R174); the value of S that POST gives. -/
def xopEffect (b t : Nat) (x : Teller) (w : MicroWord) (s : State) : Option Bool × State :=
  match mwXop w with
  | 2 => let (ok, s) := postItem b x w s; (some ok, s)
  | 3 => (none, emit (srcTeller t) 0x39 ((srcB x w).toNat + 2 ^ 64 * x.pc) s)
  | 4 => (none, s.modTeller t fun y => { y with ctx := { y.ctx with noAff := true } })
  | _ => (none, s)

/-- HOLD state after an executed word, and whether it was a 17th consecutive one (R177). -/
def holdAfter (x : Teller) (w : MicroWord) : Nat × Bool × Bool :=
  if !mwHold w then (0, false, false)
  else if x.full then (15, false, true)
  else if x.hold = 0 then (15, false, false)
  else (x.hold - 1, x.hold = 1, false)

/-- Step budget as it acts (R183). -/
def stepBudget (s : State) (t : Nat) : Nat := max 64 (fieldOf s (Reg.TELL_STEP_BUDGET (deskOf t)) 15 0)

/-- The register and flag results are written together, and the step counts (R156, R163, R183). -/
def commit (b t : Nat) (x : Teller) (w : MicroWord) (res : List (Nat × Word64)) (sv : Option Bool) (s0 s : State) : State :=
  let (d, c) := aluResult s0 b x w
  let (z, n, c) := aluFlags (mwAop w) d c x
  let (hold, full, extra) := holdAfter x w
  let desk := deskOf t
  let s := s |> bump64 (Reg.TELL_STEP_CNT_LO desk) 1 |> perf (uDesk desk) 0x01
  let s := if extra then s |> bump (Reg.TELL_HOLD_OVR_CNT desk) |> cause (Reg.TELL_IRQ_CAUSE desk) 2 else s
  s.modTeller t fun y =>
    let steps := y.ctx.steps + 1
    let spent := stepBudget s0 t ≤ steps && !y.traps.contains .budget
    { y with
      st := .run, g := res.foldl (fun g (r, v) => withWord g r v) y.g, z := z, n := n, c := c, s := sv.getD y.s,
      hold := hold, full := full, brkSkip := false, ctx := { y.ctx with steps := steps },
      traps := if spent then y.traps ++ [.budget] else y.traps }

/-- PC + 1 (R152, R161). -/
def nextPc (x : Teller) : Nat := (x.pc + 1) % 16384

/-- A Teller that stops by SEQ HALT (R161, R182). -/
def haltTeller (t : Nat) (w : MicroWord) (s : State) : State :=
  s |> (·.modTeller t fun y => { y with st := .halt, haltAt := some (mwNaddr w) }) |> cause (Reg.TELL_TCAUSE (deskOf t) (t % 8)) 1

/-- The sequencer (Table 7.4): x is the Teller before the word. -/
def seqEffect (b t : Nat) (x : Teller) (w : MicroWord) (cond : Bool) (s : State) : State :=
  let nx := nextPc x
  let dest := mwNaddr w
  let go := fun pc => s.modTeller t fun y => { y with pc := pc }
  let call := s.modTeller t fun y => { y with pc := dest, stack := nx :: y.stack }
  let ret := s.modTeller t fun y => { y with pc := y.stack.headD nx, stack := y.stack.drop 1 }
  match mwSeq w with
  | 0x0 => go nx
  | 0x1 => go dest
  | 0x2 => go (if cond then dest else nx)
  | 0x3 => go (if cond then nx else dest)
  | 0x4 => call
  | 0x5 => if cond then call else go nx
  | 0x6 => ret
  | 0x7 => if cond then ret else go nx
  | 0x8 =>
    if x.lc = 0 then go nx
    else s.modTeller t fun y => { y with lc := x.lc - 1, pc := if x.lc = 1 then nx else dest }
  | 0x9 => s.modTeller t fun y => { y with lc := dest, pc := nx }
  | 0xA => s.modTeller t fun y => { y with lc := wbits (gReg x (mwAs1 w)) 15 0, pc := nx }
  | 0xB => go ((dest + wbits (gReg x (mwAs1 w)) 3 0) % 16384)
  | 0xC => endItem b t s
  | 0xD => resume b t s
  | 0xE => s.modTeller t fun y => { y with pc := nx, traps := y.traps ++ [.soft (dest % 16)] }
  | _ => haltTeller t w s

/-- The word's effects and results, once nothing holds it back (R156). -/
def execWord (b t : Nat) (w : MicroWord) (s0 : State) : State :=
  let x := s0.tellerAt t
  let res := wordResults s0 b t x w
  let cond := condition s0 b x w
  let found := if mwFop w = 8 then some ((x.opened.getD none).isSome) else none
  let s := s0 |> fopEffect b t x w |> mopEffect b t x w
  let (sq, s) := if mwQop w = 0xA then (none, s) else qopEffect b t x w s
  let s := copEffect t x w s
  let (sx, s) := xopEffect b t x w s
  let s := commit b t x w res (found.or (sq.or sx)) s0 s
  match mwXop w, handlerOf x with
  | 1, some item => yieldTo b t item s
  | _, _ => seqEffect b t x w cond s

/-- A word waits (R156). -/
def waitWord (t : Nat) (s : State) : State := s.modTeller t fun y => { y with st := .wait }

/-- A trap of the word itself is raised (R175). -/
def raise (t : Nat) (c : TrapCause) (s : State) : State :=
  s.modTeller t fun y => if y.traps.any ofWord then y else { y with traps := y.traps ++ [c] }

/-- The word passes the units that act while it waits: a place for a recirculation order (R44), an OPEN (R166) and a SCAN
(R235, R240); then it is executed. -/
def runWord (b t : Nat) (w : MicroWord) (s : State) : State :=
  let x := s.tellerAt t
  let v := nextVerdict x w
  if appliesVerdict w && recircFull s b x.ctx v then
    waitWord t (if mwQop w = 9 then s else recircAwait b t x.ctx v s)
  else
    let s := if mwFop w = 8 then openStep b t (keyOperand x w) s else s
    if mwFop w = 8 ∧ (s.tellerAt t).opened.isNone then waitWord t s
    else if mwQop w = 0xA then
      match x.ctx.desc with
      | some d =>
        match issueScan b t x.ctx.item d x.win (mwQarg w) (srcB x w) s with
        | .wait => waitWord t s
        | .done s => execWord b t w s
      | none => s
    else execWord b t w s

/-- One word of Teller t (R156). Nothing happens while a trap is due, or when the Teller is not executing. -/
def wordStep (t : Nat) (e : EccResult) (s : State) : State :=
  let b := t / 32
  let d := deskOf t
  let x := s.tellerAt t
  let w := wordOf s t x.pc
  if !(x.st = .run ∨ x.st = .wait) ∨ (dueTrap s t x w).isSome then s
  else
    let e := if x.st = .wait then .clean else e
    let s := csEvent d x.pc e s
    if noPage e = .lasting then
      s |> (·.setTeller t { x with st := .failed }) |> (·.setDesk d { s.deskAt d with failed := true }) |> noteNoTeller b
    else
      let s := if x.st = .run && atBreak s t x then s.modTeller t fun y => { y with traps := y.traps ++ [.brk], brkSkip := true } else s
      let x := s.tellerAt t
      match wordGate s b t x w with
      | .go => runWord b t w s
      | .wait => waitWord t s
      | .illegal n => raise t (.illegal n) s
      | .poison a => raise t (.poison a) s

/-! ### Micro-traps -/

/-- CAUSE, DETAIL, vector and F3 of a trap (Table 7.14, Table 7.16). -/
def causeCode : TrapCause → Nat
  | .poison _ => 0 | .lockTmo _ => 1 | .preempt => 2 | .illegal _ => 3 | .budget => 4 | .brk => 5 | .soft _ => 6
def causeDetail : TrapCause → Nat
  | .illegal n => n
  | _ => 0
def causeVector : TrapCause → Nat
  | .soft v => v
  | c => causeCode c
def causeF3 : TrapCause → Word64
  | .poison a => BitVec.ofNat 64 a
  | .lockTmo h => h
  | _ => 0

/-- The trap frame (Table 7.16). -/
def frameOf (s : State) (b : Nat) (x : Teller) (c : TrapCause) (skip : Bool) : TrapFrame :=
  let d := x.frames.length
  let st := x.stack.reverse
  let entries := fun i => BitVec.ofNat 64 ((List.range 4).foldl (fun v j => v + 2 ^ (16 * j) * st.getD (i + j) 0) 0)
  let f0 := x.pc + 2 ^ 16 * b2n x.z + 2 ^ 17 * b2n x.n + 2 ^ 18 * b2n x.c + 2 ^ 19 * b2n x.s + 2 ^ 20 * b2n skip +
    2 ^ 21 * x.stack.length + 2 ^ 25 * x.hold + 2 ^ 32 * x.lc + 2 ^ 48 * causeVector c
  let f1 := causeCode c + 2 ^ 8 * causeDetail c + 2 ^ 16 * d + 2 ^ 32 * (x.ctx.steps % 2 ^ 32)
  let f6 := match x.win with | some k => k / 16 + 2 ^ 16 * (k % 16) + 2 ^ 20 * b + 2 ^ 63 | none => 0
  let word := fun i =>
    match i with
    | 0 => BitVec.ofNat 64 f0
    | 1 => BitVec.ofNat 64 f1
    | 2 => BitVec.ofNat 64 (ledgerNow s)
    | 3 => causeF3 c
    | 4 => entries 0
    | 5 => entries 4
    | 6 => BitVec.ofNat 64 f6
    | 8 => x.ctx.g0
    | 9 => x.ctx.g1
    | 10 => x.ctx.g2
    | 11 => x.ctx.g3
    | i => if 16 ≤ i then gReg x (i - 16) else 0
  { f := Vector.ofFn fun i : Fin 48 => word i.val, win := x.win }

/-- The poisoned operation that takes its trap first at this entry: the one whose trap is due, else the oldest (log entry
34). -/
def poisonedOp (x : Teller) (c : TrapCause) : Option MemOp :=
  let own := match c with | .poison a => x.mem.find? fun m : MemOp => m.poisoned && m.addr == a | _ => none
  own.or (x.mem.find? (·.poisoned))

/-- Counters, causes and the record of a trap taken with frame d (R176). -/
def noteTrap (t d : Nat) (x : Teller) (c : TrapCause) (s : State) : State :=
  let k := deskOf t
  let s := s |> bump (Reg.TELL_TRAP_CNT k (causeCode c)) |> perf (uDesk k) 0x04
  let s := if flagOf s (Reg.TELL_TRAP_TRACE k) (causeCode c) then
      emit (srcTeller t) 0x38 (causeCode c + 2 ^ 8 * causeDetail c + 2 ^ 16 * x.pc + 2 ^ 30 * d) s else s
  match c with
  | .poison _ => cause (Reg.TELL_TCAUSE k (t % 8)) 4 s
  | .illegal _ => cause (Reg.TELL_TCAUSE k (t % 8)) 3 s
  | .budget => cause (Reg.TELL_TCAUSE k (t % 8)) 2 s
  | _ => s

/-- A trap finds all frames valid (R182). -/
def frameFull (t : Nat) (s : State) : State :=
  s |> (·.modTeller t fun y => { y with st := .halt, haltAt := none }) |> cause (Reg.TELL_TCAUSE (deskOf t) (t % 8)) 0
    |> bump (Reg.TELL_TRAP_CNT (deskOf t) 7)

/-- A trap is taken (R176, R177, R182, R183): x is the Teller with the trap no longer raised. -/
def takeTrap (b t : Nat) (x : Teller) (c : TrapCause) (skip overrun : Bool) (s : State) : State :=
  let s := s.setTeller t x
  if 8 ≤ x.frames.length then frameFull t s
  else
    let k := deskOf t
    let s := if overrun then s |> bump (Reg.TELL_HOLD_OVR_CNT k) |> cause (Reg.TELL_IRQ_CAUSE k) 2 else s
    let d := x.frames.length
    let fr := frameOf s b x c skip
    let asked := ((s.dispAt b).reqs.find? (·.1 = t % 32)).map (d, ·.2)
    s |> (·.setTeller t { x with
        st := .run, pc := causeVector c, stack := [], hold := 0, full := false, brkSkip := false, frames := fr :: x.frames,
        ctx := if c = .budget then { x.ctx with steps := 0 } else x.ctx,
        preempt := if c = .preempt then asked else x.preempt })
      |> noteTrap t d x c

/-- MICRO_TRAP (R176): the trap that is due is taken once every earlier operation has completed; an operation that was answered
poisoned takes its own trap first (R175). -/
def microTrap (t : Nat) (s : State) : State :=
  let b := t / 32
  let x := s.tellerAt t
  let w := wordOf s t x.pc
  match dueTrap s t x w with
  | none => s
  | some c =>
    if opsOut x then s
    else
      let overrun := x.full && mwHold w
      let skip := x.brkSkip
      match poisonedOp x c with
      | some m =>
        let x := { x with mem := delFirst (fun y => y.id == m.id) x.mem, traps := x.traps.filter (· != .poison m.addr) }
        takeTrap b t x (.poison m.addr) skip overrun s
      | none =>
        let raised := x.traps.contains c
        let x := { x with traps := delFirst (· == c) x.traps }
        takeTrap b t x c (skip || !raised) overrun s

def execMicroTrap (t : Fin 128) (s : State) : Host.Outcome State Fault Refusal := .next (microTrap t.val s)

/-- LOCK_WAIT_TIMEOUT (R118): an OPEN has waited for a lock for TILL_LOCK_WAIT_TMO. -/
def lockWaitTimeout (t : Nat) (s : State) : State :=
  let b := t / 32
  match lockWaitOver s b t with
  | none => s
  | some k =>
    let h := match (s.tellerAt t).opening with | some (_, h) => h | none => 0
    s |> modWay b k (fun y => { y with openers := y.openers.filter (·.1 != t) })
      |> (·.modTeller t fun x => { x with opening := none }) |> raise t (.lockTmo h)

def execLockWaitTimeout (t : Fin 128) (s : State) : Host.Outcome State Fault Refusal := .next (lockWaitTimeout t.val s)

/-! ### Teller control -/

/-- TCTRL_STOP (R175): BREAK is raised at the Teller's next boundary. -/
def tellerStop (t : Nat) (s : State) : State :=
  s.modTeller t fun x => if x.traps.contains .brk then x else { x with traps := x.traps ++ [.brk] }

def execTctrlStop (t : Fin 128) (s : State) : Host.Outcome State Fault Refusal := .next (gated (tellerStop t.val) s)

/-- TCTRL_CONT (R182): a Teller stopped by SEQ HALT resumes at NADDR. -/
def tellerCont (t : Nat) (s : State) : State :=
  let x := s.tellerAt t
  match x.st, x.haltAt with
  | .halt, some a => s.setTeller t { x with st := .run, pc := a, haltAt := none }
  | _, _ => s

def execTctrlCont (t : Fin 128) (s : State) : Host.Outcome State Fault Refusal := .next (gated (tellerCont t.val) s)

/-! ### Control-store reads of a Desk -/

/-- CS_SCRUB (R154): the Desk reads a word in its 10 ms round (log entry 46). -/
def csScrub (d addr : Nat) (e : EccResult) (s : State) : State := csEvent d addr e s

def execCsScrub (d : Fin 16) (addr : BitVec 14) (e : EccResult) (s : State) : Host.Outcome State Fault Refusal :=
  .next (csScrub d.val addr.toNat e s)

/-- CS_READ (R154): a write of TELL_CS_ADDR starts a read; it is ignored while BUSY. -/
def csRead (d addr : Nat) (s : State) : State :=
  let x := s.deskAt d
  if x.reading.isSome then s
  else s |> (·.setDesk d { x with reading := some addr }) |> setField (Reg.TELL_CS_ADDR d) 13 0 addr |> setField (Reg.TELL_CS_STATUS d) 31 31 1

def execCsRead (d : Fin 16) (addr : BitVec 14) (s : State) : Host.Outcome State Fault Refusal := .next (gated (csRead d.val addr.toNat) s)

/-- TELL_CS_DATA0 to 4 take a word. -/
def csData (d : Nat) (w : MicroWord) (s : State) : State :=
  (List.range 5).foldl (fun s i => regStore (Reg.TELL_CS_DATA d i) (w.extractLsb' (32 * i) 32) s) s

/-- The lifecycle state by the fuses (R433). -/
def lifecycle (s : State) : Lifecycle :=
  if s.fuses.grp2 then .returned else if s.fuses.grp1 then .locked else if s.fuses.grp0 then .owned else .blank

/-- CS_READ_DONE (R154): the read ends, with 0 and DENIED in the lifecycle state Locked; the data of an uncorrectable word is a
free value (log entry 4). -/
def csReadDone (d : Nat) (e : EccResult) (s : State) : State :=
  let x := s.deskAt d
  match x.reading with
  | none => s
  | some addr =>
    let s := s.setDesk d { x with reading := none }
    if lifecycle s = .locked then s |> csData d 0 |> regStore (Reg.TELL_CS_STATUS d) 4
    else
      let s := csEvent d addr e s
      let w : MicroWord := Tbl.get x.store addr 0
      match e with
      | .clean | .transient => s |> csData d w |> regStore (Reg.TELL_CS_STATUS d) 0
      | .corrected => s |> csData d w |> regStore (Reg.TELL_CS_STATUS d) 1
      | _ =>
        let (a, s) := takeFree s
        let (c, s) := takeFree s
        let (f, s) := takeFree s
        s |> csData d ((a ++ c ++ f).truncate 160) |> regStore (Reg.TELL_CS_STATUS d) 2

def execCsReadDone (d : Fin 16) (e : EccResult) (s : State) : Host.Outcome State Fault Refusal := .next (csReadDone d.val e s)

end Sys2Proof.Machine
end

