-- ==== Sys2Proof/Machine/Microwords.lean ====
section
/-!
DEFINITION. The microword rows of the table: each executes the word at a Teller's PC, whole, when the word holds the row's
operation (R156, log entry 1), with what the fetch of the word found.
-/
namespace Sys2Proof.Machine

/-- The Teller's next word is executed if it holds the operation. -/
def wordRow (holds : MicroWord → Bool) (t : Nat) (e : EccResult) (s : State) : State :=
  if holds (wordOf s t (s.tellerAt t).pc) then wordStep t e s else s

/-- A word with FENCE 1 (R160). -/
def execMwFence (t : Fin 128) (e : EccResult) (s : State) : Host.Outcome State Fault Refusal :=
  .next (wordRow mwFence t.val e s)

/-- A word with HOLD 1 (R177). -/
def execMwHold (t : Fin 128) (e : EccResult) (s : State) : Host.Outcome State Fault Refusal :=
  .next (wordRow mwHold t.val e s)

/-! ### SEQ -/

/-- SEQ NEXT (R161). -/
def execSeqNext (t : Fin 128) (e : EccResult) (s : State) : Host.Outcome State Fault Refusal :=
  .next (wordRow (mwSeq · == 0x0) t.val e s)

/-- SEQ JUMP (R161). -/
def execSeqJump (t : Fin 128) (e : EccResult) (s : State) : Host.Outcome State Fault Refusal :=
  .next (wordRow (mwSeq · == 0x1) t.val e s)

/-- SEQ BRT (R161). -/
def execSeqBrt (t : Fin 128) (e : EccResult) (s : State) : Host.Outcome State Fault Refusal :=
  .next (wordRow (mwSeq · == 0x2) t.val e s)

/-- SEQ BRF (R161). -/
def execSeqBrf (t : Fin 128) (e : EccResult) (s : State) : Host.Outcome State Fault Refusal :=
  .next (wordRow (mwSeq · == 0x3) t.val e s)

/-- SEQ CALL (R161). -/
def execSeqCall (t : Fin 128) (e : EccResult) (s : State) : Host.Outcome State Fault Refusal :=
  .next (wordRow (mwSeq · == 0x4) t.val e s)

/-- SEQ CALLT (R161). -/
def execSeqCallt (t : Fin 128) (e : EccResult) (s : State) : Host.Outcome State Fault Refusal :=
  .next (wordRow (mwSeq · == 0x5) t.val e s)

/-- SEQ RET (R161). -/
def execSeqRet (t : Fin 128) (e : EccResult) (s : State) : Host.Outcome State Fault Refusal :=
  .next (wordRow (mwSeq · == 0x6) t.val e s)

/-- SEQ RETT (R161). -/
def execSeqRett (t : Fin 128) (e : EccResult) (s : State) : Host.Outcome State Fault Refusal :=
  .next (wordRow (mwSeq · == 0x7) t.val e s)

/-- SEQ LOOP (R161). -/
def execSeqLoop (t : Fin 128) (e : EccResult) (s : State) : Host.Outcome State Fault Refusal :=
  .next (wordRow (mwSeq · == 0x8) t.val e s)

/-- SEQ LDLOOP (R161). -/
def execSeqLdloop (t : Fin 128) (e : EccResult) (s : State) : Host.Outcome State Fault Refusal :=
  .next (wordRow (mwSeq · == 0x9) t.val e s)

/-- SEQ LDLOOPG (R161). -/
def execSeqLdloopg (t : Fin 128) (e : EccResult) (s : State) : Host.Outcome State Fault Refusal :=
  .next (wordRow (mwSeq · == 0xA) t.val e s)

/-- SEQ JTAB (R161). -/
def execSeqJtab (t : Fin 128) (e : EccResult) (s : State) : Host.Outcome State Fault Refusal :=
  .next (wordRow (mwSeq · == 0xB) t.val e s)

/-- SEQ END (R180). -/
def execSeqEnd (t : Fin 128) (e : EccResult) (s : State) : Host.Outcome State Fault Refusal :=
  .next (wordRow (mwSeq · == 0xC) t.val e s)

/-- SEQ RESUME (R180). -/
def execSeqResume (t : Fin 128) (e : EccResult) (s : State) : Host.Outcome State Fault Refusal :=
  .next (wordRow (mwSeq · == 0xD) t.val e s)

/-- SEQ TRAPV (R161). -/
def execSeqTrapv (t : Fin 128) (e : EccResult) (s : State) : Host.Outcome State Fault Refusal :=
  .next (wordRow (mwSeq · == 0xE) t.val e s)

/-- SEQ HALT (R182). -/
def execSeqHalt (t : Fin 128) (e : EccResult) (s : State) : Host.Outcome State Fault Refusal :=
  .next (wordRow (mwSeq · == 0xF) t.val e s)

/-! ### AOP -/

/-- AOP ADD (R163). -/
def execAopAdd (t : Fin 128) (e : EccResult) (s : State) : Host.Outcome State Fault Refusal :=
  .next (wordRow (mwAop · == 0x1) t.val e s)

/-- AOP SUB (R163). -/
def execAopSub (t : Fin 128) (e : EccResult) (s : State) : Host.Outcome State Fault Refusal :=
  .next (wordRow (mwAop · == 0x2) t.val e s)

/-- AOP AND (R163). -/
def execAopAnd (t : Fin 128) (e : EccResult) (s : State) : Host.Outcome State Fault Refusal :=
  .next (wordRow (mwAop · == 0x3) t.val e s)

/-- AOP OR (R163). -/
def execAopOr (t : Fin 128) (e : EccResult) (s : State) : Host.Outcome State Fault Refusal :=
  .next (wordRow (mwAop · == 0x4) t.val e s)

/-- AOP XOR (R163). -/
def execAopXor (t : Fin 128) (e : EccResult) (s : State) : Host.Outcome State Fault Refusal :=
  .next (wordRow (mwAop · == 0x5) t.val e s)

/-- AOP ANDN (R163). -/
def execAopAndn (t : Fin 128) (e : EccResult) (s : State) : Host.Outcome State Fault Refusal :=
  .next (wordRow (mwAop · == 0x6) t.val e s)

/-- AOP MOV (R163). -/
def execAopMov (t : Fin 128) (e : EccResult) (s : State) : Host.Outcome State Fault Refusal :=
  .next (wordRow (mwAop · == 0x7) t.val e s)

/-- AOP SHL (R163). -/
def execAopShl (t : Fin 128) (e : EccResult) (s : State) : Host.Outcome State Fault Refusal :=
  .next (wordRow (mwAop · == 0x8) t.val e s)

/-- AOP SHR (R163). -/
def execAopShr (t : Fin 128) (e : EccResult) (s : State) : Host.Outcome State Fault Refusal :=
  .next (wordRow (mwAop · == 0x9) t.val e s)

/-- AOP SAR (R163). -/
def execAopSar (t : Fin 128) (e : EccResult) (s : State) : Host.Outcome State Fault Refusal :=
  .next (wordRow (mwAop · == 0xA) t.val e s)

/-- AOP ROL (R163). -/
def execAopRol (t : Fin 128) (e : EccResult) (s : State) : Host.Outcome State Fault Refusal :=
  .next (wordRow (mwAop · == 0xB) t.val e s)

/-- AOP ROR (R163). -/
def execAopRor (t : Fin 128) (e : EccResult) (s : State) : Host.Outcome State Fault Refusal :=
  .next (wordRow (mwAop · == 0xC) t.val e s)

/-- AOP MINU (R163). -/
def execAopMinu (t : Fin 128) (e : EccResult) (s : State) : Host.Outcome State Fault Refusal :=
  .next (wordRow (mwAop · == 0xD) t.val e s)

/-- AOP MAXU (R163). -/
def execAopMaxu (t : Fin 128) (e : EccResult) (s : State) : Host.Outcome State Fault Refusal :=
  .next (wordRow (mwAop · == 0xE) t.val e s)

/-- AOP MINS (R163). -/
def execAopMins (t : Fin 128) (e : EccResult) (s : State) : Host.Outcome State Fault Refusal :=
  .next (wordRow (mwAop · == 0xF) t.val e s)

/-- AOP MAXS (R163). -/
def execAopMaxs (t : Fin 128) (e : EccResult) (s : State) : Host.Outcome State Fault Refusal :=
  .next (wordRow (mwAop · == 0x10) t.val e s)

/-- AOP CMP (R163). -/
def execAopCmp (t : Fin 128) (e : EccResult) (s : State) : Host.Outcome State Fault Refusal :=
  .next (wordRow (mwAop · == 0x11) t.val e s)

/-- AOP TST (R163). -/
def execAopTst (t : Fin 128) (e : EccResult) (s : State) : Host.Outcome State Fault Refusal :=
  .next (wordRow (mwAop · == 0x12) t.val e s)

/-- AOP MUL (R163). -/
def execAopMul (t : Fin 128) (e : EccResult) (s : State) : Host.Outcome State Fault Refusal :=
  .next (wordRow (mwAop · == 0x13) t.val e s)

/-- AOP MULHU (R163). -/
def execAopMulhu (t : Fin 128) (e : EccResult) (s : State) : Host.Outcome State Fault Refusal :=
  .next (wordRow (mwAop · == 0x14) t.val e s)

/-- AOP ADDSU (R163). -/
def execAopAddsu (t : Fin 128) (e : EccResult) (s : State) : Host.Outcome State Fault Refusal :=
  .next (wordRow (mwAop · == 0x15) t.val e s)

/-- AOP SUBSU (R163). -/
def execAopSubsu (t : Fin 128) (e : EccResult) (s : State) : Host.Outcome State Fault Refusal :=
  .next (wordRow (mwAop · == 0x16) t.val e s)

/-- AOP EXT (R163). -/
def execAopExt (t : Fin 128) (e : EccResult) (s : State) : Host.Outcome State Fault Refusal :=
  .next (wordRow (mwAop · == 0x17) t.val e s)

/-- AOP INS (R163). -/
def execAopIns (t : Fin 128) (e : EccResult) (s : State) : Host.Outcome State Fault Refusal :=
  .next (wordRow (mwAop · == 0x18) t.val e s)

/-- AOP POPC (R163). -/
def execAopPopc (t : Fin 128) (e : EccResult) (s : State) : Host.Outcome State Fault Refusal :=
  .next (wordRow (mwAop · == 0x19) t.val e s)

/-- AOP CLZ (R163). -/
def execAopClz (t : Fin 128) (e : EccResult) (s : State) : Host.Outcome State Fault Refusal :=
  .next (wordRow (mwAop · == 0x1A) t.val e s)

/-- AOP CTZ (R163). -/
def execAopCtz (t : Fin 128) (e : EccResult) (s : State) : Host.Outcome State Fault Refusal :=
  .next (wordRow (mwAop · == 0x1B) t.val e s)

/-- AOP BSWAP (R163). -/
def execAopBswap (t : Fin 128) (e : EccResult) (s : State) : Host.Outcome State Fault Refusal :=
  .next (wordRow (mwAop · == 0x1C) t.val e s)

/-- AOP SEXT (R163). -/
def execAopSext (t : Fin 128) (e : EccResult) (s : State) : Host.Outcome State Fault Refusal :=
  .next (wordRow (mwAop · == 0x1D) t.val e s)

/-- AOP ZEXT (R163). -/
def execAopZext (t : Fin 128) (e : EccResult) (s : State) : Host.Outcome State Fault Refusal :=
  .next (wordRow (mwAop · == 0x1E) t.val e s)

/-- AOP SETC (R163). -/
def execAopSetc (t : Fin 128) (e : EccResult) (s : State) : Host.Outcome State Fault Refusal :=
  .next (wordRow (mwAop · == 0x1F) t.val e s)

/-! ### BOP -/

/-- BOP MOV (R164). -/
def execBopMov (t : Fin 128) (e : EccResult) (s : State) : Host.Outcome State Fault Refusal :=
  .next (wordRow (mwBop · == 0x1) t.val e s)

/-- BOP ADD (R164). -/
def execBopAdd (t : Fin 128) (e : EccResult) (s : State) : Host.Outcome State Fault Refusal :=
  .next (wordRow (mwBop · == 0x2) t.val e s)

/-- BOP SUB (R164). -/
def execBopSub (t : Fin 128) (e : EccResult) (s : State) : Host.Outcome State Fault Refusal :=
  .next (wordRow (mwBop · == 0x3) t.val e s)

/-- BOP AND (R164). -/
def execBopAnd (t : Fin 128) (e : EccResult) (s : State) : Host.Outcome State Fault Refusal :=
  .next (wordRow (mwBop · == 0x4) t.val e s)

/-- BOP OR (R164). -/
def execBopOr (t : Fin 128) (e : EccResult) (s : State) : Host.Outcome State Fault Refusal :=
  .next (wordRow (mwBop · == 0x5) t.val e s)

/-- BOP XOR (R164). -/
def execBopXor (t : Fin 128) (e : EccResult) (s : State) : Host.Outcome State Fault Refusal :=
  .next (wordRow (mwBop · == 0x6) t.val e s)

/-- BOP SHL (R164). -/
def execBopShl (t : Fin 128) (e : EccResult) (s : State) : Host.Outcome State Fault Refusal :=
  .next (wordRow (mwBop · == 0x7) t.val e s)

/-- BOP SHR (R164). -/
def execBopShr (t : Fin 128) (e : EccResult) (s : State) : Host.Outcome State Fault Refusal :=
  .next (wordRow (mwBop · == 0x8) t.val e s)

/-- BOP INC (R164). -/
def execBopInc (t : Fin 128) (e : EccResult) (s : State) : Host.Outcome State Fault Refusal :=
  .next (wordRow (mwBop · == 0x9) t.val e s)

/-- BOP DEC (R164). -/
def execBopDec (t : Fin 128) (e : EccResult) (s : State) : Host.Outcome State Fault Refusal :=
  .next (wordRow (mwBop · == 0xA) t.val e s)

/-- BOP NOT (R164). -/
def execBopNot (t : Fin 128) (e : EccResult) (s : State) : Host.Outcome State Fault Refusal :=
  .next (wordRow (mwBop · == 0xB) t.val e s)

/-- BOP ZX8 (R164). -/
def execBopZx8 (t : Fin 128) (e : EccResult) (s : State) : Host.Outcome State Fault Refusal :=
  .next (wordRow (mwBop · == 0xC) t.val e s)

/-- BOP ZX16 (R164). -/
def execBopZx16 (t : Fin 128) (e : EccResult) (s : State) : Host.Outcome State Fault Refusal :=
  .next (wordRow (mwBop · == 0xD) t.val e s)

/-- BOP ZX32 (R164). -/
def execBopZx32 (t : Fin 128) (e : EccResult) (s : State) : Host.Outcome State Fault Refusal :=
  .next (wordRow (mwBop · == 0xE) t.val e s)

/-- BOP HI32 (R164). -/
def execBopHi32 (t : Fin 128) (e : EccResult) (s : State) : Host.Outcome State Fault Refusal :=
  .next (wordRow (mwBop · == 0xF) t.val e s)

/-- BOP LO32IN (R164). -/
def execBopLo32in (t : Fin 128) (e : EccResult) (s : State) : Host.Outcome State Fault Refusal :=
  .next (wordRow (mwBop · == 0x10) t.val e s)

/-- BOP HI32IN (R164). -/
def execBopHi32in (t : Fin 128) (e : EccResult) (s : State) : Host.Outcome State Fault Refusal :=
  .next (wordRow (mwBop · == 0x11) t.val e s)

/-! ### FOP -/

/-- FOP LD (R165). -/
def execFopLd (t : Fin 128) (e : EccResult) (s : State) : Host.Outcome State Fault Refusal :=
  .next (wordRow (mwFop · == 0x1) t.val e s)

/-- FOP ST (R165). -/
def execFopSt (t : Fin 128) (e : EccResult) (s : State) : Host.Outcome State Fault Refusal :=
  .next (wordRow (mwFop · == 0x2) t.val e s)

/-- FOP ADD (R165). -/
def execFopAdd (t : Fin 128) (e : EccResult) (s : State) : Host.Outcome State Fault Refusal :=
  .next (wordRow (mwFop · == 0x3) t.val e s)

/-- FOP OR (R165). -/
def execFopOr (t : Fin 128) (e : EccResult) (s : State) : Host.Outcome State Fault Refusal :=
  .next (wordRow (mwFop · == 0x4) t.val e s)

/-- FOP ANDN (R165). -/
def execFopAndn (t : Fin 128) (e : EccResult) (s : State) : Host.Outcome State Fault Refusal :=
  .next (wordRow (mwFop · == 0x5) t.val e s)

/-- FOP STM (R165). -/
def execFopStm (t : Fin 128) (e : EccResult) (s : State) : Host.Outcome State Fault Refusal :=
  .next (wordRow (mwFop · == 0x6) t.val e s)

/-- FOP SETSTATE (R166). -/
def execFopSetstate (t : Fin 128) (e : EccResult) (s : State) : Host.Outcome State Fault Refusal :=
  .next (wordRow (mwFop · == 0x7) t.val e s)

/-- FOP OPEN (R166). -/
def execFopOpen (t : Fin 128) (e : EccResult) (s : State) : Host.Outcome State Fault Refusal :=
  .next (wordRow (mwFop · == 0x8) t.val e s)

/-- FOP RELWIN (R166). -/
def execFopRelwin (t : Fin 128) (e : EccResult) (s : State) : Host.Outcome State Fault Refusal :=
  .next (wordRow (mwFop · == 0x9) t.val e s)

/-- FOP FLUSH (R165). -/
def execFopFlush (t : Fin 128) (e : EccResult) (s : State) : Host.Outcome State Fault Refusal :=
  .next (wordRow (mwFop · == 0xA) t.val e s)

/-! ### MOP -/

/-- MOP LD (R167). -/
def execMopLd (t : Fin 128) (e : EccResult) (s : State) : Host.Outcome State Fault Refusal :=
  .next (wordRow (mwMop · == 0x1) t.val e s)

/-- MOP LD2 (R167). -/
def execMopLd2 (t : Fin 128) (e : EccResult) (s : State) : Host.Outcome State Fault Refusal :=
  .next (wordRow (mwMop · == 0x2) t.val e s)

/-- MOP ST (R167). -/
def execMopSt (t : Fin 128) (e : EccResult) (s : State) : Host.Outcome State Fault Refusal :=
  .next (wordRow (mwMop · == 0x3) t.val e s)

/-- MOP ST2 (R167). -/
def execMopSt2 (t : Fin 128) (e : EccResult) (s : State) : Host.Outcome State Fault Refusal :=
  .next (wordRow (mwMop · == 0x4) t.val e s)

/-- MOP FADD (R167). -/
def execMopFadd (t : Fin 128) (e : EccResult) (s : State) : Host.Outcome State Fault Refusal :=
  .next (wordRow (mwMop · == 0x5) t.val e s)

/-- MOP SWAP (R167). -/
def execMopSwap (t : Fin 128) (e : EccResult) (s : State) : Host.Outcome State Fault Refusal :=
  .next (wordRow (mwMop · == 0x6) t.val e s)

/-- MOP CAS (R167). -/
def execMopCas (t : Fin 128) (e : EccResult) (s : State) : Host.Outcome State Fault Refusal :=
  .next (wordRow (mwMop · == 0x7) t.val e s)

/-- MOP LOOKUP (R167). -/
def execMopLookup (t : Fin 128) (e : EccResult) (s : State) : Host.Outcome State Fault Refusal :=
  .next (wordRow (mwMop · == 0x8) t.val e s)

/-- MOP GUARD (R131). -/
def execMopGuard (t : Fin 128) (e : EccResult) (s : State) : Host.Outcome State Fault Refusal :=
  .next (wordRow (mwMop · == 0x9) t.val e s)

/-- MOP FTWR (R167). -/
def execMopFtwr (t : Fin 128) (e : EccResult) (s : State) : Host.Outcome State Fault Refusal :=
  .next (wordRow (mwMop · == 0xA) t.val e s)

/-- MOP UNGUARD (R167). -/
def execMopUnguard (t : Fin 128) (e : EccResult) (s : State) : Host.Outcome State Fault Refusal :=
  .next (wordRow (mwMop · == 0xB) t.val e s)

/-- MOP SWEEP (R167). -/
def execMopSweep (t : Fin 128) (e : EccResult) (s : State) : Host.Outcome State Fault Refusal :=
  .next (wordRow (mwMop · == 0xC) t.val e s)

/-! ### HOP -/

/-- HOP FMIX (R169). -/
def execHopFmix (t : Fin 128) (e : EccResult) (s : State) : Host.Outcome State Fault Refusal :=
  .next (wordRow (mwHop · == 0x1) t.val e s)

/-- HOP FLOW (R169). -/
def execHopFlow (t : Fin 128) (e : EccResult) (s : State) : Host.Outcome State Fault Refusal :=
  .next (wordRow (mwHop · == 0x2) t.val e s)

/-- HOP CRC32C (R169). -/
def execHopCrc32c (t : Fin 128) (e : EccResult) (s : State) : Host.Outcome State Fault Refusal :=
  .next (wordRow (mwHop · == 0x3) t.val e s)

/-- HOP RANGE (R169). -/
def execHopRange (t : Fin 128) (e : EccResult) (s : State) : Host.Outcome State Fault Refusal :=
  .next (wordRow (mwHop · == 0x4) t.val e s)

/-- HOP CANDA (R169). -/
def execHopCanda (t : Fin 128) (e : EccResult) (s : State) : Host.Outcome State Fault Refusal :=
  .next (wordRow (mwHop · == 0x5) t.val e s)

/-- HOP CANDB (R169). -/
def execHopCandb (t : Fin 128) (e : EccResult) (s : State) : Host.Outcome State Fault Refusal :=
  .next (wordRow (mwHop · == 0x6) t.val e s)

/-! ### QOP -/

/-- QOP LDPKT (R170). -/
def execQopLdpkt (t : Fin 128) (e : EccResult) (s : State) : Host.Outcome State Fault Refusal :=
  .next (wordRow (mwQop · == 0x1) t.val e s)

/-- QOP LDDESC (R170). -/
def execQopLddesc (t : Fin 128) (e : EccResult) (s : State) : Host.Outcome State Fault Refusal :=
  .next (wordRow (mwQop · == 0x2) t.val e s)

/-- QOP SETACT (R171). -/
def execQopSetact (t : Fin 128) (e : EccResult) (s : State) : Host.Outcome State Fault Refusal :=
  .next (wordRow (mwQop · == 0x3) t.val e s)

/-- QOP PARAM (R171). -/
def execQopParam (t : Fin 128) (e : EccResult) (s : State) : Host.Outcome State Fault Refusal :=
  .next (wordRow (mwQop · == 0x4) t.val e s)

/-- QOP RECIRC (R64). -/
def execQopRecirc (t : Fin 128) (e : EccResult) (s : State) : Host.Outcome State Fault Refusal :=
  .next (wordRow (mwQop · == 0x5) t.val e s)

/-- QOP PUNT (R170). -/
def execQopPunt (t : Fin 128) (e : EccResult) (s : State) : Host.Outcome State Fault Refusal :=
  .next (wordRow (mwQop · == 0x6) t.val e s)

/-- QOP MIRROR (R171). -/
def execQopMirror (t : Fin 128) (e : EccResult) (s : State) : Host.Outcome State Fault Refusal :=
  .next (wordRow (mwQop · == 0x7) t.val e s)

/-- QOP DROP (R170). -/
def execQopDrop (t : Fin 128) (e : EccResult) (s : State) : Host.Outcome State Fault Refusal :=
  .next (wordRow (mwQop · == 0x8) t.val e s)

/-- QOP POLICE (R300). -/
def execQopPolice (t : Fin 128) (e : EccResult) (s : State) : Host.Outcome State Fault Refusal :=
  .next (wordRow (mwQop · == 0x9) t.val e s)

/-- QOP SCAN (R234). -/
def execQopScan (t : Fin 128) (e : EccResult) (s : State) : Host.Outcome State Fault Refusal :=
  .next (wordRow (mwQop · == 0xA) t.val e s)

/-- QOP NOSEGET (R237). -/
def execQopNoseget (t : Fin 128) (e : EccResult) (s : State) : Host.Outcome State Fault Refusal :=
  .next (wordRow (mwQop · == 0xB) t.val e s)

/-- QOP RELEASE (R171). -/
def execQopRelease (t : Fin 128) (e : EccResult) (s : State) : Host.Outcome State Fault Refusal :=
  .next (wordRow (mwQop · == 0xC) t.val e s)

/-! ### COP -/

/-- COP INC (R172). -/
def execCopInc (t : Fin 128) (e : EccResult) (s : State) : Host.Outcome State Fault Refusal :=
  .next (wordRow (mwCop · == 0x1) t.val e s)

/-- COP ADD (R172). -/
def execCopAdd (t : Fin 128) (e : EccResult) (s : State) : Host.Outcome State Fault Refusal :=
  .next (wordRow (mwCop · == 0x2) t.val e s)

/-- COP RD (R172). -/
def execCopRd (t : Fin 128) (e : EccResult) (s : State) : Host.Outcome State Fault Refusal :=
  .next (wordRow (mwCop · == 0x3) t.val e s)

/-- COP RDCLR (R172). -/
def execCopRdclr (t : Fin 128) (e : EccResult) (s : State) : Host.Outcome State Fault Refusal :=
  .next (wordRow (mwCop · == 0x4) t.val e s)

/-- COP PERF (R172). -/
def execCopPerf (t : Fin 128) (e : EccResult) (s : State) : Host.Outcome State Fault Refusal :=
  .next (wordRow (mwCop · == 0x5) t.val e s)

/-- COP TICK (R172). -/
def execCopTick (t : Fin 128) (e : EccResult) (s : State) : Host.Outcome State Fault Refusal :=
  .next (wordRow (mwCop · == 0x6) t.val e s)

/-! ### TOP -/

/-- TOP NOW (R173). -/
def execTopNow (t : Fin 128) (e : EccResult) (s : State) : Host.Outcome State Fault Refusal :=
  .next (wordRow (mwTop · == 0x1) t.val e s)

/-- TOP ARR (R173). -/
def execTopArr (t : Fin 128) (e : EccResult) (s : State) : Host.Outcome State Fault Refusal :=
  .next (wordRow (mwTop · == 0x2) t.val e s)

/-- TOP ELAPSED (R173). -/
def execTopElapsed (t : Fin 128) (e : EccResult) (s : State) : Host.Outcome State Fault Refusal :=
  .next (wordRow (mwTop · == 0x3) t.val e s)

/-- TOP LOCKT (R173). -/
def execTopLockt (t : Fin 128) (e : EccResult) (s : State) : Host.Outcome State Fault Refusal :=
  .next (wordRow (mwTop · == 0x4) t.val e s)

/-- TOP SEC (R173). -/
def execTopSec (t : Fin 128) (e : EccResult) (s : State) : Host.Outcome State Fault Refusal :=
  .next (wordRow (mwTop · == 0x5) t.val e s)

/-- TOP NSFRAC (R173). -/
def execTopNsfrac (t : Fin 128) (e : EccResult) (s : State) : Host.Outcome State Fault Refusal :=
  .next (wordRow (mwTop · == 0x6) t.val e s)

/-! ### XOP -/

/-- XOP YIELD (R181). -/
def execXopYield (t : Fin 128) (e : EccResult) (s : State) : Host.Outcome State Fault Refusal :=
  .next (wordRow (mwXop · == 0x1) t.val e s)

/-- XOP POST (R174). -/
def execXopPost (t : Fin 128) (e : EccResult) (s : State) : Host.Outcome State Fault Refusal :=
  .next (wordRow (mwXop · == 0x2) t.val e s)

/-- XOP TRACE (R174). -/
def execXopTrace (t : Fin 128) (e : EccResult) (s : State) : Host.Outcome State Fault Refusal :=
  .next (wordRow (mwXop · == 0x3) t.val e s)

/-- XOP NOAFF (R174). -/
def execXopNoaff (t : Fin 128) (e : EccResult) (s : State) : Host.Outcome State Fault Refusal :=
  .next (wordRow (mwXop · == 0x4) t.val e s)

end Sys2Proof.Machine
end

