-- ==== Sys2Proof/Machine/Export.lean ====
section
/-!
DEFINITION. The flow exporter of chapter 09: taking snapshots in ring order (R222), RAW records, and IPFIX messages and
their time stamps (R223, R224).
-/
namespace Sys2Proof.Machine

def expAt (s : State) (b : Nat) : Exporter := (s.ledgerAt b).exp

def modExp (b : Nat) (f : Exporter → Exporter) (s : State) : State := s.modLedger b fun l => { l with exp := f l.exp }

/-! ### Time stamps -/

/-- UTC_OFF, signed. -/
def utcOff (s : State) : Int := signed 16 (fieldOf s (Reg.TILL_EXP_UTC_OFF 0) 15 0)

/-- A Ledger time in the NTP format (R224). -/
def ntpTime (off : Int) (t : Nat) : Nat :=
  unsigned 32 (((t / 1000000000 : Nat) : Int) - off + 2208988800) * 2 ^ 32 + t % 1000000000 * 2 ^ 32 / 1000000000

/-- Export Time of a message sent now (R224). -/
def exportTime (s : State) : Nat := unsigned 32 (((ledgerNow s / 1000000000 : Nat) : Int) - utcOff s)

/-! ### Data records -/

/-- Template of a key type: 256 for types 1 and 3, 257 for 2 and 4; no other type is exported (R223). -/
def ipfixTemplate (keyType : Nat) : Option Nat :=
  if keyType = 1 ∨ keyType = 3 then some 256 else if keyType = 2 ∨ keyType = 4 then some 257 else none

/-- Bytes of a snapshot's words under R2. -/
def wordsBytes (ws : List Word64) : Bytes := ws.flatMap fun w => leBytes 8 w.toNat

/-- A data record (Table 9.10) of a snapshot given as bytes. -/
def ipfixRecord (off : Int) (v4 : Bool) (x : Bytes) : Bytes :=
  let w := fun i => leAt x (8 * i) 8
  let key := x.drop 8
  let hiFirst := bit (w 0) 20
  let addr := fun (hi : Bool) => let a := slice key (if hi then 16 else 0) 16; if v4 then a.drop 12 else a
  let port := fun (hi : Bool) => slice key (if hi then 34 else 32) 2
  let proto := byteAt key 36
  let nat := bits (w 7) 63 60 = 1 ∨ bits (w 7) 63 60 = 3
  addr hiFirst ++ addr (!hiFirst) ++ port hiFirst ++ port (!hiFirst) ++ beBytes 1 proto ++
    beBytes 2 (if proto = 6 then bits (w 12) 31 24 ||| bits (w 12) 23 16 else 0) ++ beBytes 1 (bits (w 0) 18 16) ++
    beBytes 8 (w 8) ++ beBytes 8 (w 9) ++ beBytes 8 (ntpTime off (w 10)) ++ beBytes 8 (ntpTime off (w 11)) ++
    beBytes 4 (if nat then bits (w 7) 47 16 else 0) ++ beBytes 2 (if nat then bits (w 7) 15 0 else 0)

/-! ### Messages -/

/-- Information elements and lengths of a template (Table 9.10). -/
def templateFields (v4 : Bool) : List (Nat × Nat) :=
  (if v4 then [(8, 4), (12, 4)] else [(27, 16), (28, 16)]) ++
    [(7, 2), (11, 2), (4, 1), (6, 2), (136, 1), (86, 8), (85, 8), (156, 8), (157, 8), (225, 4), (227, 2)]

/-- A template record of RFC 7011. -/
def templateRecord (id : Nat) (v4 : Bool) : Bytes :=
  beBytes 2 id ++ beBytes 2 (templateFields v4).length ++ (templateFields v4).flatMap fun f => beBytes 2 f.1 ++ beBytes 2 f.2

/-- The template set of both templates. -/
def templateSet : Bytes :=
  let body := templateRecord 256 true ++ templateRecord 257 false
  beBytes 2 2 ++ beBytes 2 (4 + body.length) ++ body

/-- Consecutive data records of one template, with that template. -/
def dataSets : List (Nat × Bytes) → List (Nat × Bytes)
  | [] => []
  | (t, r) :: rs =>
    match dataSets rs with
    | (u, x) :: xs => if t = u then (t, r ++ x) :: xs else (t, r) :: (u, x) :: xs
    | [] => [(t, r)]

/-- The sets of a message after its header. -/
def messageBody (x : Exporter) (recs : List (Nat × Bytes)) : Bytes :=
  (if x.withTmpl then templateSet else []) ++ (dataSets recs).flatMap fun d => beBytes 2 d.1 ++ beBytes 2 (4 + d.2.length) ++ d.2

/-- A message to RFC 7011 (R223). -/
def ipfixMessage (b : Nat) (x : Exporter) (s : State) : Bytes :=
  let body := messageBody x x.recs
  beBytes 2 10 ++ beBytes 2 (16 + body.length) ++ beBytes 4 (exportTime s) ++ beBytes 4 x.sent ++
    beBytes 4 (fieldOf s (Reg.TILL_EXP_ODID 0) 31 0 + b) ++ body

/-- MSG_MAX, clamped, and FLUSH_US in ticks, 0 acting as 1. -/
def msgMax (s : State) : Nat := min 8192 (max 256 (fieldOf s (Reg.TILL_EXP_MSG 0) 13 0))
def msgFlush (s : State) : Nat := us (max 1 (fieldOf s (Reg.TILL_EXP_MSG 0) 31 16))

/-- Host-bound ring of the exporters. -/
def expRing (s : State) : Nat := fieldOf s (Reg.TILL_EXP_CFG 0) 11 8

/-- The message being built is sent, or waits for the ring (R465): whether it has been sent. -/
def sendMessage (b : Nat) (s : State) : Bool × State :=
  let x := expAt s b
  let (ok, s) := placeRec (expRing s) 5 (ipfixMessage b x s) s
  if ok then
    (true, s |> modExp b (fun x => { x with sent := (x.sent + x.recs.length) % 2 ^ 32, recs := [], withTmpl := false })
      |> bump (Reg.TILL_EXP_MSG_CNT b))
  else (false, s)

/-- A data record joins the message; the first one opens it, with the template set when it is due. -/
def addRecord (b t : Nat) (r : Bytes) (s : State) : State :=
  modExp b (fun x =>
    if x.recs.isEmpty then { x with recs := [(t, r)], msgAt := s.time.tick, withTmpl := x.tmplDue, tmplDue := false }
    else { x with recs := x.recs ++ [(t, r)] }) s

/-- The next record would not fit in the message being built. -/
def messageFull (x : Exporter) (t : Nat) (r : Bytes) (s : State) : Bool :=
  !x.recs.isEmpty && Decidable.decide (msgMax s < 16 + (messageBody x (x.recs ++ [(t, r)])).length)

/-! ### Taking snapshots -/

/-- The exporter reads n words of the Coffer from word i (R457); a word whose content is lost reads as a free value (R399). -/
def readWords : Nat → Nat → State → List Word64 × State
  | 0, _, s => ([], s)
  | n + 1, i, s =>
    let (v, s) := cofferRoundOn (i % 262144) [] true id s
    let (w, s) := match v with | some x => (x, s) | none => takeFree s
    let (ws, s) := readWords n (i + 1) s
    (w :: ws, s)

/-- The snapshot at the head leaves the export ring. -/
def dropSnapshot (b : Nat) (s : State) : State := modExp b (fun x => { x with ring := x.ring.tail }) s

/-- The head snapshot as a RAW record (R223). -/
def takeRaw (b : Nat) (n : Snapshot) (s : State) : State :=
  if fits s (expRing s) 4 128 then
    let (ws, s) := readWords 16 (n.addr / 8) s
    (placeRec (expRing s) 4 (wordsBytes ws) s).2 |> dropSnapshot b |> bump (Reg.TILL_EXP_MSG_CNT b)
  else makeRoom (expRing s) s

/-- The head snapshot as an IPFIX data record (R223): a message that it would overfill is sent first. -/
def takeIpfix (b : Nat) (n : Snapshot) (s : State) : State :=
  let (ws, s1) := readWords 16 (n.addr / 8) s
  let x := wordsBytes ws
  match ipfixTemplate (byteAt x 45 % 16) with
  | none => s1 |> dropSnapshot b |> bump (Reg.TILL_EXP_SKIP_CNT b)
  | some t =>
    let r := ipfixRecord (utcOff s) (t == 256) x
    if messageFull (expAt s b) t r s then
      let (ok, s2) := sendMessage b s
      if ok then
        let (_, s3) := readWords 16 (n.addr / 8) s2
        s3 |> addRecord b t r |> dropSnapshot b
      else s2
    else s1 |> addRecord b t r |> dropSnapshot b

/-- EXPORT_TAKE (R222): the head of the ring, once its item, if it has one, has ended. -/
def exportTake (b : Nat) (s : State) : State :=
  match (expAt s b).ring with
  | [] => s
  | n :: _ =>
    if !domOn s 27 || !(n.item == 0 || n.item == 3) then s
    else if flagOf s (Reg.TILL_EXP_CFG 0) 1 then takeIpfix b n s
    else takeRaw b n s

def execExportTake (b : Fin 4) (s : State) : Host.Outcome State Fault Refusal := .next (exportTake b.val (freshOut s))

/-- EXPORT_ITEM_RETRY (R222): items that found no place are offered again. -/
def exportItemRetry (b : Nat) (s : State) : State :=
  (expAt s b).ring.foldl (fun s n =>
    if n.item = 1 then
      let (st, s) := exportItem b n s
      modExp b (fun x => { x with ring := x.ring.map fun m => if m.num = n.num then { m with item := st } else m }) s
    else s) s

def execExportItemRetry (b : Fin 4) (s : State) : Host.Outcome State Fault Refusal := .next (exportItemRetry b.val s)

/-- A partial message is due: FLUSH_US have passed since its first record. -/
def flushDue (s : State) (b : Nat) : Bool :=
  let x := expAt s b
  !x.recs.isEmpty && Decidable.decide (msgFlush s ≤ since s x.msgAt)

/-- IPFIX_FLUSH (R223). -/
def ipfixFlush (b : Nat) (s : State) : State := if flushDue s b then (sendMessage b s).2 else s

def execIpfixFlush (b : Fin 4) (s : State) : Host.Outcome State Fault Refusal := .next (ipfixFlush b.val (freshOut s))

/-- IPFIX_TEMPLATE_RESEND (R223): after each PERIOD_S seconds the next message opens with the template set. -/
def templateResend (b : Nat) (s : State) : State :=
  let p := fieldOf s (Reg.TILL_EXP_TMPL 0) 15 0
  if p ≠ 0 ∧ p * 1000000000 ≤ since s (expAt s b).tmplAt then modExp b (fun x => { x with tmplDue := true, tmplAt := s.time.tick }) s else s

def execIpfixTemplateResend (b : Fin 4) (s : State) : Host.Outcome State Fault Refusal := .next (templateResend b.val s)

end Sys2Proof.Machine
end

