-- ==== Sys2Proof/Machine/Rewrite.lean ====
section
/-!
DEFINITION. Egress rewrite: translation and balancing profiles (R204 to R207), NPTv6 (R215), forwarding profiles (R265,
R266) and one-step PTP (R345 to R347).
-/
namespace Sys2Proof.Machine

/-! ### Checksums -/

/-- The 16-bit one's-complement value of a sum. -/
def fold16 (n : Nat) : Nat := if n = 0 then 0 else (n - 1) % 65535 + 1

/-- Sum of the 16-bit words of a byte string in wire order; a last odd byte is a high byte. -/
def sum16 : Bytes → Nat
  | [] => 0
  | [x] => 256 * x.toNat
  | x :: y :: t => 256 * x.toNat + y.toNat + sum16 t

/-- Sum of the complements of the 16-bit words of a byte string of even length. -/
def sumNot16 (b : Bytes) : Nat := 65535 * ((b.length + 1) / 2) - sum16 b

/-- A checksum updated for bytes that change from old to new (RFC 1624). -/
def updSum (hc : Nat) (old new : Bytes) : Nat := 65535 - fold16 ((65535 - hc) + sumNot16 old + sum16 new)

/-- A UDP checksum computed as 0 is sent as 0xFFFF (log entry 70). -/
def udpSum (c : Nat) : Nat := if c = 0 then 0xFFFF else c

/-! ### Where the headers lie -/

/-- Offset of the EtherType that follows the tags, from byte 12 on. -/
def etherOff (b : Bytes) : Nat → Nat → Nat
  | 0, i => i
  | n + 1, i => if beAt b i 2 = 0x8100 ∨ beAt b i 2 = 0x88A8 then etherOff b n (i + 4) else i

/-- The headers of a frame: EtherType offset, IP version (0 for none), IP header, protocol, transport header. -/
structure Hdrs where
  et : Nat
  ver : Nat
  ip : Nat
  proto : Nat
  l4 : Nat

/-- The IP header that directly follows the Ethernet header and any tags (R265), and the transport header behind it. -/
def hdrsOf (b : Bytes) : Hdrs :=
  let et := etherOff b 64 12
  let ip := et + 2
  if beAt b et 2 = 0x0800 ∧ byteAt b ip / 16 = 4 then ⟨et, 4, ip, byteAt b (ip + 9), ip + 4 * (byteAt b ip % 16)⟩
  else if beAt b et 2 = 0x86DD ∧ byteAt b ip / 16 = 6 then ⟨et, 6, ip, byteAt b (ip + 6), ip + 40⟩
  else ⟨et, 0, ip, 0, ip⟩

/-- An IPv4 header with its checksum recomputed (R206). -/
def ip4Sum (hdr : Bytes) : Bytes :=
  let h := patch hdr 10 [0, 0]
  patch h 10 (beBytes 2 (65535 - fold16 (sum16 h)))

/-- The IPv4 header at an offset has its checksum recomputed. -/
def fixIp4 (ip : Nat) (b : Bytes) : Bytes :=
  let n := 4 * (byteAt b ip % 16)
  patch b ip (ip4Sum ((b.drop ip).take n))

/-- Offset of the checksum of a transport header; none for a protocol without one. -/
def sumOff (proto : Nat) : Option Nat :=
  match proto with | 6 => some 16 | 17 => some 6 | 1 => some 2 | 58 => some 2 | _ => none

/-- An ICMP or ICMPv6 message is an echo request or reply. -/
def isEcho (proto type : Nat) : Bool := (proto == 1 && (type == 0 || type == 8)) || (proto == 58 && (type == 128 || type == 129))

/-- Offset of the field that a translation of the source or destination side replaces: a port, or an echo identifier. -/
def idOff (proto type : Nat) (dst : Bool) : Option Nat :=
  if proto = 6 ∨ proto = 17 then some (if dst then 2 else 0) else if isEcho proto type then some 4 else none

/-- The transport checksum takes in a change of bytes that it covers; an IPv4 UDP checksum of 0 stays 0 where `zero`
(R206). -/
def fixL4 (proto l4 : Nat) (zero : Bool) (old new : Bytes) (b : Bytes) : Bytes :=
  match sumOff proto with
  | none => b
  | some o =>
    let hc := beAt b (l4 + o) 2
    if proto = 17 ∧ zero = true ∧ hc = 0 then b
    else
      let c := updSum hc old new
      patch b (l4 + o) (beBytes 2 (if proto = 17 then udpSum c else c))

/-- The port of one side is replaced, or for a kind that names it the echo identifier (Table 9.2). -/
def setId (h : Hdrs) (dst zero echo : Bool) (v : Nat) (b : Bytes) : Bytes :=
  match (if echo ∨ h.proto = 6 ∨ h.proto = 17 then idOff h.proto (byteAt b h.l4) dst else none) with
  | none => b
  | some o =>
    let new := beBytes 2 v
    fixL4 h.proto h.l4 zero (slice b (h.l4 + o) 2) new (patch b (h.l4 + o) new)

/-- An address and port of one side are replaced in an IPv4 frame (SNAT44, DNAT44, LB4); `echo`, the ICMP identifier too. -/
def nat44 (dst echo : Bool) (addr port : Nat) (b : Bytes) : Bytes :=
  let h := hdrsOf b
  if h.ver ≠ 4 then b
  else
    let at_ := h.ip + (if dst then 16 else 12)
    let new := beBytes 4 addr
    let old := slice b at_ 4
    let b := fixIp4 h.ip (patch b at_ new)
    let b := if h.proto = 1 then b else fixL4 h.proto h.l4 true old new b
    setId h dst true echo port b

/-- A destination address and port are replaced in an IPv6 frame (LB6_DNAT). -/
def lb6 (addr : Bytes) (port : Nat) (b : Bytes) : Bytes :=
  let h := hdrsOf b
  if h.ver ≠ 6 then b
  else
    let old := slice b (h.ip + 24) 16
    setId h true false false port (fixL4 h.proto h.l4 false old addr (patch b (h.ip + 24) addr))

/-! ### NAT64 (RFC 7915) -/

/-- The pseudo-header that an ICMPv6 checksum covers and an ICMPv4 checksum does not. -/
def icmp6Pseudo (src dst : Bytes) (len : Nat) : Bytes := src ++ dst ++ beBytes 4 len ++ beBytes 4 58

/-- ICMP type of an echo message in the other protocol. -/
def otherType (t : Nat) : Nat := match t with | 128 => 8 | 129 => 0 | 8 => 128 | 0 => 129 | _ => t

/-- NAT64_OUT: an IPv6 frame becomes an IPv4 frame with a public source address and port. -/
def nat64Out (addr port : Nat) (b : Bytes) : Bytes :=
  let h := hdrsOf b
  if h.ver ≠ 6 then b
  else
    let src := slice b (h.ip + 8) 16
    let dst := slice b (h.ip + 24) 16
    let len := beAt b (h.ip + 4) 2
    let proto := if h.proto = 58 then 1 else h.proto
    let tos := beAt b h.ip 2 / 16 % 256
    let new := beBytes 4 addr ++ dst.drop 12
    let hdr := [BitVec.ofNat 8 0x45, BitVec.ofNat 8 tos] ++ beBytes 2 (len + 20) ++ [0, 0, 0x40, 0] ++
      [BitVec.ofNat 8 (byteAt b (h.ip + 7)), BitVec.ofNat 8 proto, 0, 0] ++ new
    let l4 := b.drop (h.ip + 40)
    let t := byteAt l4 0
    let l4 := if h.proto = 58 then
        (let y := patch l4 0 [BitVec.ofNat 8 (otherType t)]
         fixL4 1 0 false (icmp6Pseudo src dst len ++ slice l4 0 2) (slice y 0 2) y)
      else fixL4 h.proto 0 false (src ++ dst) new l4
    let l4 := setId { h with proto := proto, l4 := 0 } false false true port l4
    b.take h.et ++ beBytes 2 0x0800 ++ ip4Sum hdr ++ l4

/-- The UDP checksum of a datagram over IPv6, computed in full (R206). -/
def udpFull (src dst udp : Bytes) : Nat :=
  let u := patch udp 6 [0, 0]
  udpSum (65535 - fold16 (sum16 (src ++ dst ++ beBytes 4 udp.length ++ beBytes 4 17 ++ u)))

/-- NAT64_IN: an IPv4 frame becomes an IPv6 frame to the internal address and port. -/
def nat64In (pfx inner : Bytes) (port : Nat) (b : Bytes) : Bytes :=
  let h := hdrsOf b
  if h.ver ≠ 4 then b
  else
    let old := slice b (h.ip + 12) 8
    let src := pfx ++ old.take 4
    let len := beAt b (h.ip + 2) 2 - 4 * (byteAt b h.ip % 16)
    let next := if h.proto = 1 then 58 else h.proto
    let hdr := beBytes 4 (6 * 2 ^ 28 + byteAt b (h.ip + 1) * 2 ^ 20) ++ beBytes 2 len ++
      [BitVec.ofNat 8 next, BitVec.ofNat 8 (byteAt b (h.ip + 8))] ++ src ++ inner
    let l4 := b.drop h.l4
    let h6 : Hdrs := { h with proto := next, l4 := 0 }
    let l4 := if h.proto = 1 then
        (let y := patch l4 0 [BitVec.ofNat 8 (otherType (byteAt l4 0))]
         setId h6 true false true port (fixL4 58 0 false (slice l4 0 2) (icmp6Pseudo src inner len ++ slice y 0 2) y))
      else if h.proto = 17 ∧ beAt l4 6 2 = 0 then
        (let y := setId { h6 with proto := 17 } true true true port l4
         patch y 6 (beBytes 2 (udpFull src inner (y.take len))))
      else setId h6 true false true port (fixL4 h.proto 0 false old (src ++ inner) l4)
    b.take h.et ++ beBytes 2 0x86DD ++ hdr ++ l4

/-! ### NPTv6 (R215) -/

/-- Sixteen bytes of a prefix or address in four registers (EGR_NPT_MAP, EGR_NAT64_PFX, EGR_LB6_ADDR). -/
def addrRegs (s : State) (off : Nat) (n : Nat) : Bytes := (List.range n).flatMap fun i => leBytes 4 (regRead s (off + 4 * i)).toNat

/-- PLEN bits of a prefix as a number, the rest 0. -/
def prefixBits (b : Bytes) (plen : Nat) : Nat := beNat b / 2 ^ (128 - plen) * 2 ^ (128 - plen)

/-- ADJ of a map (R215): the one's-complement difference of the sums of the internal and the external prefix. -/
def nptAdj (int ext : Bytes) (plen : Nat) : Nat :=
  fold16 (sum16 (beBytes 16 (prefixBits int plen)) + sumNot16 (beBytes 16 (prefixBits ext plen))) % 65535

/-- Index of the 16-bit word that takes the adjustment (R207); none when every candidate is 0xFFFF. -/
def nptWord (addr : Bytes) (plen : Nat) : Option Nat :=
  if plen ≤ 48 then some 3 else [4, 5, 6, 7].find? fun i => beAt addr (2 * i) 2 != 0xFFFF

/-- An address with its prefix replaced and its word adjusted; none when it is sent unchanged (R215). -/
def nptAddr (addr new : Bytes) (plen adj : Nat) : Option Bytes :=
  let a := beBytes 16 (prefixBits new plen + beNat addr % 2 ^ (128 - plen))
  match nptWord addr plen with
  | none => none
  | some i =>
    let v := fold16 (beAt addr (2 * i) 2 + adj)
    if v = 0xFFFF then none else some (patch a (2 * i) (beBytes 2 v))

/-! ### Forwarding profiles (Table 11.5) -/

/-- A MAC address held in a LO and HI register. -/
def macOf (s : State) (lo hi : Nat) : Bytes := leBytes 4 (fieldOf s lo 31 0) ++ leBytes 2 (fieldOf s hi 15 0)

/-- TTL or hop limit of a frame with an IP header. -/
def ttlOf (b : Bytes) : Option Nat :=
  let h := hdrsOf b
  if h.ver = 4 then some (byteAt b (h.ip + 8)) else if h.ver = 6 then some (byteAt b (h.ip + 7)) else none

/-- NEXTHOP: both MAC addresses and the TTL or hop limit. -/
def nexthop (dmac smac : Bytes) (b : Bytes) : Bytes :=
  let h := hdrsOf b
  let b := patch b 0 (dmac ++ smac)
  if h.ver = 4 then
    (let y := patch b (h.ip + 8) [BitVec.ofNat 8 (byteAt b (h.ip + 8) - 1)]
     patch y (h.ip + 10) (beBytes 2 (updSum (beAt b (h.ip + 10) 2) (slice b (h.ip + 8) 2) (slice y (h.ip + 8) 2))))
  else if h.ver = 6 then patch b (h.ip + 7) [BitVec.ofNat 8 (byteAt b (h.ip + 7) - 1)]
  else b

/-- The frame's outermost tag has TPID 0x8100 or 0x88A8. -/
def tagged (b : Bytes) : Bool := beAt b 12 2 == 0x8100 || beAt b 12 2 == 0x88A8

def vlanPush (tci : Nat) (b : Bytes) : Bytes := b.take 12 ++ beBytes 2 0x8100 ++ beBytes 2 tci ++ b.drop 12
def vlanPop (b : Bytes) : Bytes := if tagged b then b.take 12 ++ b.drop 16 else b
def vlanSet (arg : Nat) (b : Bytes) : Bytes :=
  if tagged b then patch b 14 (beBytes 2 (bits arg 15 13 * 2 ^ 13 + bits (beAt b 14 2) 12 12 * 2 ^ 12 + bits arg 11 0))
  else vlanPush (bits arg 15 0) b

/-! ### PTP profiles (Table 14.4) -/

/-- A correctionField with an addend in units of 2^-16 ns; an overflow is written as the largest value (R346). -/
def corrected (old : Nat) (add : Int) : Nat :=
  let v := signed 64 old + add
  if v < -(2 ^ 63 : Int) ∨ (2 ^ 63 : Int) ≤ v then 2 ^ 63 - 1 else unsigned 64 v

/-- PTP bytes of the message at an offset are replaced, with the UDP checksum that covers them (R345, R346). -/
def ptpWrite (arg at_ : Nat) (new : Bytes) (b : Bytes) : Bytes :=
  let off := bits arg 7 0
  let y := patch b at_ new
  if bit arg 8 then
    let hc := beAt b (off - 2) 2
    if hc = 0 ∧ bit arg 9 = false then y
    else patch y (off - 2) (beBytes 2 (udpSum (updSum hc (slice b at_ new.length) new)))
  else y

/-- The correctionField takes an addend. -/
def ptpCorrect (arg : Nat) (add : Int) (b : Bytes) : Bytes :=
  let at_ := bits arg 7 0 + 8
  ptpWrite arg at_ (beBytes 8 (corrected (beAt b at_ 8) add)) b

/-! ### A copy's rewrite -/

/-- What rewriting a copy gives: its bytes, and what is counted or recorded as it starts. -/
structure Rewritten where
  data : Bytes
  mism : Bool := false
  nptSkip : Bool := false
  ptpSkip : Bool := false
  /-- the copy is punted in its stead, with a SOURCE of Table 19.7: 7 for NEXTHOP on a TTL or hop limit of 0 or 1 (R265), 8 for a
  translation of an ICMP error (R207) -/
  punt : Option Nat := none
  ts2 : Option Ts2Entry := none

/-- KIND of W7; reserved kinds act as NONE (R204). -/
def w7Kind (w : Word64) : Nat := if 7 ≤ wbits w 63 60 then 0 else wbits w 63 60

/-- A translation profile whose binding word has the kind it reads, or is a mismatch (R205). -/
def binding (w7 : Word64) (kind : Nat) (data : Bytes) (f : Bytes → Bytes) : Rewritten :=
  if w7Kind w7 = kind then { data := f data } else { data := data, mism := true }

/-- The frame is an ICMP error message, whose payload is not translated (R207): ICMPv4 types 3, 4, 5, 11 and 12, ICMPv6 types below
128 (PRESUMED, log entry 70). -/
def icmpError (b : Bytes) : Bool :=
  let h := hdrsOf b
  let t := byteAt b h.l4
  (h.ver == 4 && h.proto == 1 && (t == 3 || t == 4 || t == 5 || t == 11 || t == 12)) || (h.ver == 6 && h.proto == 58 && t < 128)

/-- An address translation (kinds 1 to 4): an ICMP error message is punted (R207). -/
def natBinding (w7 : Word64) (kind : Nat) (data : Bytes) (f : Bytes → Bytes) : Rewritten :=
  if w7Kind w7 = kind ∧ icmpError data = true then { data := data, punt := some 8 } else binding w7 kind data f

/-- An NPT profile (R215); `out` is NPT_OUT. -/
def nptRewrite (s : State) (m : Nat) (out : Bool) (b : Bytes) : Rewritten :=
  let ctl := (regRead s (Reg.EGR_NPT_CTL m)).toNat
  let plen := bits ctl 7 0
  let h := hdrsOf b
  if h.ver ≠ 6 ∨ bit ctl 31 = false ∨ plen < 48 ∨ 64 < plen then { data := b }
  else
    let int := addrRegs s (Reg.EGR_NPT_INT m 0) 4
    let ext := addrRegs s (Reg.EGR_NPT_EXT m 0) 4
    let adj := fieldOf s (Reg.EGR_NPT_ADJ m) 15 0
    let at_ := h.ip + (if out then 8 else 24)
    let addr := slice b at_ 16
    if prefixBits addr plen ≠ prefixBits (if out then int else ext) plen then { data := b }
    else match nptAddr addr (if out then ext else int) plen (if out then adj else 65535 - adj) with
      | some a => { data := patch b at_ a }
      | none => { data := b, nptSkip := true }

/-- A PTP profile on a copy leaving front-panel port p with transmit stamp td, in units of 2^-32 ns (R345 to R347). -/
def ptpRewrite (kind arg p td : Nat) (x : Frame) (params : List Word64) (b : Bytes) : Rewritten :=
  let off := bits arg 7 0
  let fromPort := match x.req with | .port _ _ => true | _ => false
  if b.length ≤ off + 43 then { data := b, ptpSkip := true }
  else match kind with
    | 0x20 =>
      let b := ptpWrite arg (off + 34) (beBytes 6 (netSec td % 2 ^ 48) ++ beBytes 4 (netNs td)) b
      { data := ptpCorrect arg ((netFrac td : Nat) : Int) b }
    | 0x21 =>
      if fromPort then { data := ptpCorrect arg (((td / 65536 : Nat) : Int) - ((x.arr / 65536 : Nat) : Int)) b }
      else { data := b, ptpSkip := true }
    | 0x22 =>
      let t2 := (params.getD 0 0).toNat * 65536 + wbits (params.getD 1 0) 15 0
      { data := ptpCorrect arg (((ledgerOf td * 65536 + netFrac td : Nat) : Int) - ((t2 : Nat) : Int)) b }
    | _ => { data := b, ts2 := some { port := p, msgType := byteAt b off % 16, seqId := beAt b (off + 30) 2, time := td } }

/-- The egress rewrite of a copy from its head on, leaving by queue n with transmit stamp td (Tables 9.2, 11.5 and 14.4);
kinds that no table lists act as NONE, the reset value (R9). -/
def rewrite (s : State) (n td : Nat) (c : Copy) (x : Frame) (data : Bytes) : Rewritten :=
  match c.profile with
  | none => { data := data }
  | some t =>
    let kind := fieldOf s (Reg.EGR_PROFILE_CFG t) 7 0
    let arg := fieldOf s (Reg.EGR_PROFILE_ARG t) 31 0
    let w7 := c.params.getD 16 0
    let addr := wbits w7 47 16
    let port := wbits w7 15 0
    let p := if n < 512 then n / 8 else (c.target - 0x80) % 64
    match kind with
    | 0x01 => natBinding w7 1 data (nat44 false true addr port)
    | 0x02 => natBinding w7 2 data (nat44 true true addr port)
    | 0x03 => natBinding w7 3 data (nat64Out addr port)
    | 0x04 => natBinding w7 4 data
        (nat64In (addrRegs s (Reg.EGR_NAT64_PFX (bits arg 3 0) 0) 3)
          (beBytes 8 (c.params.getD 17 0).toNat ++ beBytes 8 (c.params.getD 18 0).toNat) port)
    | 0x05 => nptRewrite s (bits arg 5 0) true data
    | 0x06 => nptRewrite s (bits arg 5 0) false data
    | 0x07 => binding w7 5 data (nat44 true false addr port)
    | 0x08 => binding w7 5 data (nat44 false false arg port)
    | 0x09 => binding w7 6 data (lb6 (addrRegs s (Reg.EGR_LB6_ADDR (wbits w7 59 50) 0) 4) port)
    | 0x10 =>
      if ((ttlOf data).map (fun t => Decidable.decide (t ≤ 1))).getD false then { data := data, punt := some 7 }
      else
        let i := bits arg 11 0
        { data := nexthop (macOf s (Reg.EGR_NH_LO i) (Reg.EGR_NH_HI i)) (macOf s (Reg.EGR_PORT_SMAC_LO p) (Reg.EGR_PORT_SMAC_HI p)) data }
    | 0x11 => { data := vlanPush (bits arg 15 0) data }
    | 0x12 => { data := vlanPop data }
    | 0x13 => { data := vlanSet arg data }
    | _ => if 0x20 ≤ kind ∧ kind ≤ 0x23 then
        (if n < 512 then ptpRewrite kind arg p td x c.params data else { data := data, ptpSkip := true })
      else { data := data }

/-- The PTP profile of a copy on front-panel queue n that cannot be applied to the bytes that have arrived (R345). -/
def latePtp (s : State) (n td : Nat) (c : Copy) (x : Frame) (data : Bytes) : Option LatePtp :=
  match c.profile with
  | none => none
  | some t =>
    let kind := fieldOf s (Reg.EGR_PROFILE_CFG t) 7 0
    let arg := fieldOf s (Reg.EGR_PROFILE_ARG t) 31 0
    if n < 512 ∧ 0x20 ≤ kind ∧ kind ≤ 0x23 ∧ x.tail = false ∧ data.length ≤ bits arg 7 0 + 43 then some ⟨kind, arg, td⟩ else none

/-- NAT64_IN on a UDP datagram with checksum 0, which never starts in cut-through (R206, Table 11.6). -/
def needsWhole (s : State) (c : Copy) (data : Bytes) : Bool :=
  match c.profile with
  | none => false
  | some t =>
    let h := hdrsOf data
    fieldOf s (Reg.EGR_PROFILE_CFG t) 7 0 == 4 && w7Kind (c.params.getD 16 0) == 4 && h.ver == 4 && h.proto == 17 && beAt data (h.l4 + 6) 2 == 0

/-- Zero bytes that bring a whole frame to 64 bytes with its FCS (R266). -/
def padded (b : Bytes) : Bytes := b ++ List.replicate (60 - b.length) 0

/-- What a copy's rewrite counts and records (R205, R215, R345, R347). -/
def countRewrite (r : Rewritten) (s : State) : State :=
  let s := if r.mism then bump Reg.EGR_PROFILE_MISM_CNT s else s
  let s := if r.nptSkip then bump Reg.EGR_NPT_SKIP_CNT s else s
  let s := if r.ptpSkip then bump Reg.EGR_PTP_SKIP_CNT s else s
  match r.ts2 with | some e => ts2Push e s | none => s

/-- A write of a map's CTL register (R215): VALID 1 computes ADJ from the prefixes as they stand. -/
def nptCtlWrite (m : Nat) (v : Word32) (s : State) : State :=
  let s := regStore (Reg.EGR_NPT_CTL m) (v &&& 0x800000FF#32) s
  if v.getLsbD 31 then
    let adj := nptAdj (addrRegs s (Reg.EGR_NPT_INT m 0) 4) (addrRegs s (Reg.EGR_NPT_EXT m 0) 4) (min 128 (bits v.toNat 7 0))
    setField (Reg.EGR_NPT_ADJ m) 15 0 adj s
  else s

def execNptMapValidate (m : Fin 64) (v : Word32) (s : State) : Host.Outcome State Fault Refusal :=
  .next (if v.getLsbD 31 then gated (nptCtlWrite m.val v) s else s)

end Sys2Proof.Machine
end

