-- ==== Sys2Proof/Machine/Gates.lean ====
section
/-!
DEFINITION. Gate control lists of chapter 12 (R287 to R292): the banks and their access registers, changes and switches,
windows, and the time step that moves them.
-/
namespace Sys2Proof.Machine

/-! ### Windows -/

/-- Entries of a list as they are used within a cycle, from an instant of it on: end of each and its mask (R288). -/
def gateSegs (cycle : Nat) : Nat → List GateEntry → List (Nat × Nat × Nat)
  | _, [] => []
  | start, [e] => [(start, cycle, e.mask)]
  | start, e :: es => (start, min cycle (start + e.dur), e.mask) :: gateSegs cycle (start + e.dur) es

/-- The parts of the cycle that are used: begin, end and mask. -/
def gateParts (g : GateList) : List (Nat × Nat × Nat) := (gateSegs g.cycle 0 g.entries).filter fun (a, b, _) => a < b

/-- Time for which class q stays open along a run of parts, and whether a closed part ends it. -/
def openRun (q : Nat) : List (Nat × Nat × Nat) → Nat × Bool
  | [] => (0, false)
  | (a, b, m) :: t => if m.testBit q then (let (n, c) := openRun q t; (b - a + n, c)) else (0, true)

/-- One cycle of parts that starts at an instant of the cycle. -/
def partsFrom (g : GateList) (pos : Nat) : List (Nat × Nat × Nat) :=
  let ps := gateParts g
  (ps.filter fun (_, b, _) => pos < b).map (fun (a, b, m) => (max a pos, b, m)) ++
    (ps.filter fun (a, _, _) => a < pos).map fun (a, b, m) => (a, min b pos, m)

/-- Time from an instant of the cycle to the end of the window of class q: 0 for a closed gate, none without end (R290). -/
def windowLeft (g : GateList) (q pos : Nat) : Option Nat :=
  let (n, closed) := openRun q (partsFrom g pos)
  if closed then some n else none

/-- The same for an instant of network time in ns: before B the mask of entry 0 applies (R288), and T_sw ends every window
(R290). -/
def gateLeft (x : Sched) (q t : Nat) : Option Nat :=
  match x.inForce with
  | none => none
  | some g =>
    let own := if t < g.base then
        (if ((g.entries.headD {}).mask).testBit q then (windowLeft g q 0).map (g.base - t + ·) else some 0)
      else windowLeft g q ((t - g.base) % g.cycle)
    match x.pending with
    | some (sw, _) => some (match own with | some n => min n (sw - t) | none => sw - t)
    | none => own

/-- The gate of class q is open at an instant. -/
def gateOpen (x : Sched) (q t : Nat) : Bool := gateLeft x q t != some 0

/-- A copy that needs `need` ns from an instant, in units of 2^-32 ns of network time, fits its window (R290). -/
def gateFits (x : Sched) (q net need : Nat) : Bool :=
  match gateLeft x q (net / 2 ^ 32) with
  | some n => n != 0 && Decidable.decide (need * 2 ^ 32 + net % 2 ^ 32 ≤ n * 2 ^ 32)
  | none => true

/-- The longest window of class q in one cycle; none without limit (R291). -/
def longestWindow (g : GateList) (q : Nat) : Option Nat :=
  let ps := gateParts g
  if ps.all fun (_, _, m) => m.testBit q then none
  else some ((ps.map fun (a, _, _) => (windowLeft g q a).getD 0).foldl max 0)

/-- Network time now, in whole ns. -/
def nowNs (s : State) : Nat := s.time.net / 2 ^ 32

/-- The entry that applies now. -/
def gateIndex (g : GateList) (t : Nat) : Nat :=
  if t < g.base then 0
  else ((gateSegs g.cycle 0 g.entries).findIdx? fun (_, b, _) => Decidable.decide ((t - g.base) % g.cycle < b)).getD 0

/-! ### Admin bank access -/

/-- Port and entry that TM_GCL_ADDR names. -/
def gclPort (s : State) : Nat := fieldOf s Reg.TM_GCL_ADDR 21 16
def gclEntry (s : State) : Nat := fieldOf s Reg.TM_GCL_ADDR 9 0

/-- ENTRY advances after an access of TM_GCL_DUR under AUTOINC. -/
def gclNext (s : State) : State :=
  if flagOf s Reg.TM_GCL_ADDR 31 then setField Reg.TM_GCL_ADDR 9 0 ((gclEntry s + 1) % 1024) s else s

/-- A write of TM_GCL_DUR stores MASK and the duration in the admin entry, unless a change is pending (R289). -/
def gclWrite (v : Word32) (s : State) : State :=
  let p := gclPort s
  let x := s.schedAt p
  let s := if x.pending.isSome then bump Reg.TM_GCL_REFUSED_CNT s
    else s.setSched p { x with adminBank := Tbl.set x.adminBank (gclEntry s) {} ⟨fieldOf s Reg.TM_GCL_MASK 7 0, v.toNat⟩ }
  gclNext s

def execGclDurWrite (v : Word32) (s : State) : Host.Outcome State Fault Refusal := .next (gated (gclWrite v) s)

/-- A read of TM_GCL_DUR: the entry's duration and the state after it, which holds the entry's mask in TM_GCL_MASK. -/
def gclRead (s : State) : Nat × State :=
  let e := Tbl.get (s.schedAt (gclPort s)).adminBank (gclEntry s) {}
  (e.dur, s |> regStore Reg.TM_GCL_MASK (BitVec.ofNat 32 e.mask) |> gclNext)

/-- GCL_DUR_READ as a host read: 0 and no effect from DRAIN to RUN (R34). -/
def gclReadHost (s : State) : State :=
  let (v, s') := if barOpen s then gclRead s else (0, s)
  { s' with out := { s'.out with ok := true, data := leBytes 4 v } }

def execGclDurRead (s : State) : Host.Outcome State Fault Refusal := .next (gclReadHost s)

/-! ### Changes -/

/-- The admin list that a CHANGE takes (R288, R289). -/
def adminList (s : State) (p len : Nat) : GateList := {
  base := pairOf s (Reg.TM_GATE_BASE_SEC_LO p) * 1000000000 + fieldOf s (Reg.TM_GATE_BASE_NS p) 29 0
  cycle := fieldOf s (Reg.TM_GATE_CYCLE_NS p) 31 0
  entries := (List.range len).map fun i => Tbl.get (s.schedAt p).adminBank i {} }

/-- The list keeps R287 and R288. -/
def listOk (g : GateList) (len : Nat) : Bool :=
  1 ≤ len && len ≤ 1024 && 1000 ≤ g.cycle && g.cycle ≤ 4000000000 && g.entries.all fun e => 1 ≤ e.dur

/-- T_sw of a change requested now (R289). -/
def switchTime (g : GateList) (s : State) : Nat :=
  let least := (s.time.net + 2 ^ 32 - 1) / 2 ^ 32 + 10000
  if least ≤ g.base then g.base else g.base + (least - g.base + g.cycle - 1) / g.cycle * g.cycle

/-- A write of TM_GATE_CTRL (R289): EN 0 opens every gate and cancels a pending change; CHANGE requests a change. -/
def gateCtrlWrite (p : Nat) (v : Word32) (s : State) : State :=
  let s := regStore (Reg.TM_GATE_CTRL p) (v &&& 0x800007FF#32) s
  let x := s.schedAt p
  let len := bits v.toNat 10 0
  if !v.getLsbD 31 then s.setSched p { x with inForce := none, pending := none, longest := [], gateIdx := 0 }
  else if !v.getLsbD 16 then s
  else if x.pending.isSome then bump Reg.TM_GCL_REFUSED_CNT s
  else
    let g := adminList s p len
    if listOk g len then s.setSched p { x with pending := some (switchTime g s, g), gateErr := false }
    else s |> (·.setSched p { x with gateErr := true }) |> cause Reg.TM_IRQ_CAUSE 1

def execGateChange (p : Fin 64) (v : Word32) (s : State) : Host.Outcome State Fault Refusal :=
  .next (if v.getLsbD 31 && v.getLsbD 16 then gated (gateCtrlWrite p.val v) s else s)

def execGateDisable (p : Fin 64) (v : Word32) (s : State) : Host.Outcome State Fault Refusal :=
  .next (if !v.getLsbD 31 then gated (gateCtrlWrite p.val v) s else s)

/-- GATE_SWITCH (R289, R291): at T_sw the banks exchange and the new list takes force. -/
def gateSwitch (p : Nat) (s : State) : State :=
  let x := s.schedAt p
  match x.pending with
  | none => s
  | some (sw, g) =>
    if s.time.net < sw * 2 ^ 32 then s
    else
      let longest := (List.range 8).filterMap fun q => (longestWindow g q).map fun n => (q, n)
      s |> (·.setSched p { x with
          adminBank := x.operBank, operBank := x.adminBank, inForce := some g, pending := none, longest := longest,
          gateIdx := gateIndex g (nowNs s) })
        |> regStore (Reg.TM_GATE_CHANGE_SEC p) (BitVec.ofNat 32 (sw / 1000000000))
        |> regStore (Reg.TM_GATE_CHANGE_NS p) (BitVec.ofNat 32 (sw % 1000000000))
        |> cause Reg.TM_IRQ_CAUSE 0 |> emit 0x00B 0x50 p

def execGateSwitch (p : Fin 64) (s : State) : Host.Outcome State Fault Refusal := .next (gateSwitch p.val s)

/-! ### Time steps -/

/-- Ns that a length takes on a port (R290). -/
def needNs (s : State) (p len : Nat) : Nat := bitTimes (8 * len) (portGbps s p)

/-- A copy under way on port p runs past the end of its window after a time step (R292). -/
def gateOverrun (p : Nat) (s : State) : State :=
  let x := s.schedAt p
  match x.sending with
  | none => s
  | some c =>
    let left := needNs s p (c.out.length + 4) - since s c.start
    if x.inForce.isSome && left != 0 && !gateFits x (c.queue % 8) s.time.net left then bump (Reg.TM_GATE_OVERRUN_CNT p) s else s

/-- OFFSET_ADD (R292, R338): the step, and the copies that it takes past their windows. -/
def offsetStep (s : State) : State :=
  if s.time.offset.isNone then s else (List.range 64).foldl (fun s p => gateOverrun p s) (offsetAdd s)

def execOffsetAdd (s : State) : Host.Outcome State Fault Refusal := .next (offsetStep s)

end Sys2Proof.Machine
end

