-- ==== Sys2Proof/Machine/Tm.lean ====
section
/-!
DEFINITION. The schedulers of chapter 12: length accounting (R279), eligibility and selection (R280 to R283), shapers (R284 to
R286), copies as they start and end (R262, R266 to R268), the hold of frozen queues (R296, R297), and policer access (R302).
-/
namespace Sys2Proof.Machine

/-! ### Schedulers and their classes (R278) -/

/-- First queue of scheduler k: a port, the Tether (64) or the host (65). -/
def firstQueue (k : Nat) : Nat := if k < 64 then 8 * k else if k = 64 then 512 else 520

/-- Classes of scheduler k. -/
def schedClasses (s : State) (k : Nat) : Nat :=
  if k < 64 then classCount s k else if k = 64 then Tbl.get s.tm.nclass 64 0 else 16

/-- Scheduler of queue n. -/
def schedOf (n : Nat) : Nat := if n < 512 then n / 8 else if n < 520 then 64 else 65

/-- Queues of scheduler k, lowest class first. -/
def schedQueues (s : State) (k : Nat) : List Nat := (List.range (schedClasses s k)).map (firstQueue k + ·)

/-- The class of queue n is express (R277). -/
def expressQueue (s : State) (n : Nat) : Bool := n < 520 && expressOn s (schedOf n) (n % 8)

/-- Rate R of scheduler k in Mb/s (R278). -/
def rateMbps (s : State) (k : Nat) : Nat :=
  if k < 64 then 1000 * portGbps s k
  else if k = 64 then 31500 * popNat s.teth.svc 8
  else (let r := fieldOf s Reg.TM_HOST_RATE 18 0; if r = 0 then 1000 else r)

/-! ### A copy's data and length -/

/-- The bytes of a copy before any edit: from its pass's head, or from the original head for a sample (R264, R272). -/
def copyData (x : Frame) (c : Copy) : Bytes := if c.kind = .sample then x.data else x.data.drop c.info.head

/-- Transmit stamp of a copy that leaves by queue n now (R342). -/
def txStamp (s : State) (n : Nat) : Nat :=
  if n < 512 then adjusted s.time.net (fieldOf s (Reg.TIME_PORT_TX_ADJ (n / 8)) 31 0) else s.time.net

/-- L_frame of a copy: as rewritten, padded and with its FCS; 64 for a frame whose tail has not arrived (R279). -/
def frameLenOf (s : State) (n : Nat) (c : Copy) (x : Frame) : Nat :=
  if !x.tail then 64
  else if 520 ≤ n then (copyData x c).length + 4
  else (padded (rewrite s n (txStamp s n) c x (copyData x c)).data).length + 4

/-- Accounted length of a copy of the given L_frame (R279). -/
def acctLen (s : State) (n len : Nat) : Nat :=
  if n < 512 ∧ flagOf s (Reg.TM_PORT_CTRL (n / 8)) 7 = false then len + fieldOf s (Reg.TM_PORT_CTRL (n / 8)) 5 0 else len

/-- Accounted length of the head of queue n. -/
def headLenAcct (s : State) (n : Nat) : Nat :=
  match queueAt s n with
  | c :: _ => (match frameAt s c.frame with | some x => acctLen s n (frameLenOf s n c x) | none => 0)
  | [] => 0

/-! ### Cut-through (R267) -/

/-- BELOW_FLOOR of a Branch. -/
def belowFloor (s : State) (b : Nat) : Bool := flagOf s (Reg.TREAS_PACE_STATUS b) 31

/-- The conditions of Table 11.6. -/
def cutThrough (s : State) (n : Nat) (c : Copy) (x : Frame) : Bool :=
  let p := n / 8
  let fromPort := match x.req with | .port _ _ => true | _ => false
  n < 512 && flagOf s (if p < 32 then Reg.SWC_CT_EN_LO else Reg.SWC_CT_EN_HI) (p % 32) && fromPort &&
    portGbps s p ≤ portGbps s x.port && !belowFloor s (p / 16) && s.treas.brown == .normal &&
    !needsWhole s c (copyData x c) && !x.scanned && (s.schedAt p).inForce.isNone

/-- The head copy of queue n may be selected as far as its data goes (R267). -/
def headReady (s : State) (n : Nat) : Bool :=
  match queueAt s n with
  | c :: _ => (match frameAt s c.frame with | some x => x.tail || cutThrough s n c x | none => false)
  | [] => false

/-! ### Eligibility (R280) -/

/-- The class of queue n is paused (R294). -/
def paused (s : State) (n : Nat) : Bool :=
  n < 512 && (match Tbl.find (s.schedAt (n / 8)).pauseEnd (n % 8) with | some t => Decidable.decide (s.time.tick < t) | none => false)

/-- The scheduler's output can be served: the port's link is UP, it sends frames (R310), and it is not holding, the Tether is PAIRED, UP and has room to
send (R296, R321, R324), or the host's DMA engine works. -/
def outputOpen (s : State) (k : Nat) : Bool :=
  if k < 64 then portTx s k == .frames && (s.schedAt k).frozenAt.isNone
  else if k = 64 then s.teth.up && s.teth.pair == .paired && (s.schedAt 64).frozenAt.isNone
  else s.pcie.up

/-- The class's shaper lets it send (R284). -/
def shaperOpen (s : State) (n : Nat) : Bool := !flagOf s (Reg.TM_CLASS_CTRL n) 31 || Decidable.decide (0 ≤ (s.classAt n).credit)

/-- Every condition of R280 but the gate's, and for a host queue that its ring can take a record (R465). -/
def preEligible (s : State) (n : Nat) : Bool :=
  headReady s n && outputOpen s (schedOf n) && !paused s n && shaperOpen s n &&
    (n < 520 || (ringTakes s (n - 520) && (s.ringAt (n - 520)).span.isEmpty)) &&
    (schedOf n != 64 || linkRoom s (headLenAcct s n))

/-- The gate admits the head copy, or the port has no list in force (R290). -/
def gateAdmits (s : State) (n : Nat) : Bool :=
  512 ≤ n || gateFits (s.schedAt (n / 8)) (n % 8) s.time.net (needNs s (n / 8) (headLenAcct s n))

def classEligible (s : State) (n : Nat) : Bool := preEligible s n && gateAdmits s n

/-! ### Shapers (R284 to R286) -/

/-- The credit limits of a class, in units of 2^-16 byte. -/
def clampCredit (s : State) (n : Nat) (c : Int) : Int :=
  let hi := signed 32 (regRead s (Reg.TM_CLASS_HI_CLAMP n)).toNat
  let lo := min hi (signed 32 (regRead s (Reg.TM_CLASS_LO_CLAMP n)).toNat)
  max (lo * 65536) (min (hi * 65536) c)

/-- Idle slope of a class, at most R. -/
def idleMbps (s : State) (n : Nat) : Nat := min (fieldOf s (Reg.TM_CLASS_IDLE n) 18 0) (rateMbps s (schedOf n))

/-- The credit of a class after an update (R284); `ended` is the accounted length of a copy that has just ended. -/
def shapedCredit (s : State) (n : Nat) (ended : Option Nat) : Int :=
  let x := s.classAt n
  let c := if x.clearDebt then max 0 x.credit else x.credit
  let r := rateMbps s (schedOf n)
  let frozen := n < 512 && (paused s n || !gateOpen (s.schedAt (n / 8)) (n % 8) (nowNs s))
  let own := match (s.schedAt (schedOf n)).sending with | some y => y.queue == n | none => false
  let empty := (queueAt s n).isEmpty
  if frozen then c
  else clampCredit s n
    (if own then (match ended with
      | some len => c - (if r = 0 then 0 else ((len * (r - idleMbps s n) * 65536 / r : Nat) : Int))
      | none => c)
    else if !empty ∨ c < 0 then
      (let c' := c + ((since s x.updAt * idleMbps s n * 65536 / 8000 : Nat) : Int)
       if empty ∧ 0 < c' then 0 else c')
    else if 0 < c then 0 else c)

/-- A credit update of a class whose shaper is on (R285). -/
def shape (n : Nat) (ended : Option Nat) (s : State) : State :=
  if flagOf s (Reg.TM_CLASS_CTRL n) 31 then
    s.setClass n { s.classAt n with credit := shapedCredit s n ended, clearDebt := false, updAt := s.time.tick }
  else s

/-- SHAPER_UPDATE (R285): every 256 ns. -/
def shaperUpdate (k c : Nat) (s : State) : State :=
  let n := firstQueue k + c
  if schedClasses s k ≤ c ∨ since s (s.classAt n).updAt < 256 then s else shape n none s

def execShaperUpdate (k : Fin 66) (c : Fin 16) (s : State) : Host.Outcome State Fault Refusal := .next (shaperUpdate k.val c.val s)

/-- The class register index names an existing class (Table 12.10). -/
def classExists (s : State) (n : Nat) : Bool := n < 536 && (schedQueues s (schedOf n)).contains n

/-- A write of TM_CLASS_CTRL (R286): CLEAR_DEBT waits for the next update; SHAPE_EN 1 starts updates. -/
def classCtrlWrite (n : Nat) (v : Word32) (s : State) : State :=
  if !classExists s n then s
  else
    let on := v.getLsbD 31 && !flagOf s (Reg.TM_CLASS_CTRL n) 31
    let x := s.classAt n
    s |> regStore (Reg.TM_CLASS_CTRL n) (v &&& 0x8001FFFF#32)
      |> (·.setClass n { x with clearDebt := x.clearDebt || v.getLsbD 30, updAt := if on then s.time.tick else x.updAt })

def execClearDebt (n : Fin 536) (v : Word32) (s : State) : Host.Outcome State Fault Refusal :=
  .next (if v.getLsbD 30 then gated (classCtrlWrite n.val v) s else s)

/-! ### Removing copies from the head of a queue -/

/-- The head copy leaves queue n. -/
def popHead (n : Nat) (s : State) : State := s |> setQueue n (queueAt s n).tail |> settleEmpty n

/-- A copy that its rewrite cannot take is punted in its stead, with the SOURCE of Table 19.7 (R207, R265). -/
def puntExpired (n source : Nat) (c : Copy) (s : State) : State :=
  let info := { c.info with code := PUNTED, source := source, reason := 0 }
  s |> popHead n |> makeCopy (520 + fieldOf s Reg.EGR_PUNT_CFG 3 0) { frame := c.frame, kind := .punt, info := info, cls := c.cls }
    |> release c.frame

/-- The head's time on the port exceeds its class's longest window (R291). -/
def neverFits (s : State) (n : Nat) : Bool :=
  n < 512 && (match (s.schedAt (n / 8)).longest.find? (·.1 == n % 8) with
    | some (_, w) => Decidable.decide (w < needNs s (n / 8) (headLenAcct s n)) | none => false)

/-- The heads that a decision considers and cannot send leave queue n (R207, R265, R291). -/
def cleanHeads (n : Nat) : Nat → State → State
  | 0, s => s
  | f + 1, s =>
    if !preEligible s n then s
    else match queueAt s n with
      | [] => s
      | c :: _ =>
        match frameAt s c.frame with
        | none => s
        | some x =>
          match (if n < 520 then (rewrite s n (txStamp s n) c x (copyData x c)).punt else none) with
          | some source => s |> puntExpired n source c |> cleanHeads n f
          | none =>
            if neverFits s n then
              s |> popHead n |> cause Reg.TM_IRQ_CAUSE 2 |> perf uTm 0x03 |> discardCopy c DROP_GATE_NEVER_FITS |> cleanHeads n f
            else s

/-! ### Selection (R281) -/

/-- TM_CLASS_STATUS as the decision leaves it: ELIGIBLE and GATE_HELD of a class. -/
def noteClass (n : Nat) (s : State) : State :=
  let held := preEligible s n && !gateAdmits s n
  let s := if held && !(s.classAt n).gateHeld then perf uTm 0x02 s else s
  s.setClass n { s.classAt n with eligible := classEligible s n, gateHeld := held }

/-- QUANTUM within its limits (R282). -/
def quantumOf (s : State) (n : Nat) : Nat := min 65536 (max 64 (fieldOf s (Reg.TM_CLASS_CTRL n) 16 0))

/-- drr_pick of R281 over the eligible non-express queues: the queue chosen. -/
def drrPick (k : Nat) (elig : List Nat) : Nat → State → Option Nat × State
  | 0, s => (none, s)
  | f + 1, s =>
    let x := s.schedAt k
    let n := firstQueue k + x.rr
    let next := s.setSched k { x with rr := if schedClasses s k ≤ x.rr + 1 then 0 else x.rr + 1, fresh := true }
    if elig.contains n then
      let d := (s.classAt n).deficit + (if x.fresh then ((quantumOf s n : Nat) : Int) else 0)
      let len : Int := ((headLenAcct s n : Nat) : Int)
      if len ≤ d then
        (some n, (s.setSched k { x with fresh := false }).setClass n { s.classAt n with deficit := d - len })
      else drrPick k elig f (next.setClass n { s.classAt n with deficit := d })
    else drrPick k elig f next

/-- Bound on the turns of one decision: the largest length over the least quantum, for every class. -/
def maxTurns : Nat := 16384

/-- The queue that a decision selects (R281). -/
def pick (k : Nat) (s : State) : Option Nat × State :=
  let elig := (schedQueues s k).filter (classEligible s ·)
  match elig.reverse.find? (expressQueue s ·) with
  | some n => (some n, s)
  | none => if elig.isEmpty then (none, s) else drrPick k elig maxTurns s

/-- The head copy of queue n starts (R267, R283, R285); egress rewrite takes it as it starts to leave (R205). -/
def startCopy (n : Nat) (s : State) : State :=
  match queueAt s n with
  | [] => s
  | c :: _ =>
    match frameAt s c.frame with
    | none => s
    | some x =>
      let data := copyData x c
      let late := latePtp s n (txStamp s n) c x data
      let r : Rewritten := if 520 ≤ n ∨ late.isSome then { data := [] } else rewrite s n (txStamp s n) c x data
      let y : Sending := {
        late := late
        copy := c
        queue := n
        out := if x.tail ∧ n < 520 then padded r.data else r.data
        used := data.length
        cutThrough := !x.tail
        start := s.time.tick
        charged := headLenAcct s n }
      let s := s |> shape n none |> countRewrite r |> popHead n
        |> (·.modSched (schedOf n) fun z => { z with sending := some y }) |> perf uTm 0x01
      if x.tail then s else perf uSwc 0x03 s

/-- A host copy whose ring can no longer take it goes back to the head of its queue (R465, log entry 76). -/
def hostReturn (s : State) : State :=
  match (s.schedAt 65).sending with
  | some y =>
    if ringTakes s (y.queue - 520) then s
    else s |> setQueue y.queue (y.copy :: queueAt s y.queue) |> (·.modSched 65 fun z => { z with sending := none })
  | none => s

/-- The classes of a scheduler before a choice: heads that leave without being sent, then the eligibility of each. -/
def preparePick (k : Nat) (s : State) : State :=
  let qs := schedQueues s k
  qs.foldl (fun s n => noteClass n s) (qs.foldl (fun s n => cleanHeads n (queueAt s n).length s) s)

/-- The head copy of queue n leaves it unsent, its descriptor or its data being lost (Table 16.4). -/
def loseHead (n : Nat) (s : State) : State :=
  match queueAt s n with
  | c :: _ => s |> popHead n |> discardCopy c DROP_TAIL_BAD
  | [] => s

/-- The copy chosen starts, once its queue and descriptor words, and the data that it starts with, have been read (R399). -/
def startRead (n : Nat) (desc buf : SramRead) (s : State) : State :=
  let (noDesc, s) := sramRead 6 desc s
  let (noData, s) := if noDesc then (false, s) else sramRead 2 buf s
  if noDesc || noData then loseHead n s else startCopy n s

/-- A decision of scheduler k (R280 to R283, R290, R291). -/
def tmSelect (k : Nat) (desc buf : SramRead) (s : State) : State :=
  let s := if k = 65 then hostReturn s else s
  if (s.schedAt k).sending.isSome || !outputOpen s k then s
  else
    match pick k (preparePick k s) with
    | (some n, s) => startRead n desc buf s
    | (none, s) => s

/-- TM_SELECT, with what the codes of the words that it reads find. -/
def execTmSelect (k : Fin 66) (desc buf : SramRead) (s : State) : Host.Outcome State Fault Refusal := .next (tmSelect k.val desc buf s)

/-! ### Copies as they end -/

/-- The true length of a copy sent is charged (R279, R284). -/
def chargeEnd (k : Nat) (y : Sending) (len : Nat) (s : State) : State :=
  let acct := acctLen s y.queue len
  let s := shape y.queue (some acct) s
  let c := s.classAt y.queue
  let s := if y.cutThrough ∧ expressQueue s y.queue = false then
      s.setClass y.queue { c with deficit := c.deficit + ((y.charged : Nat) : Int) - ((acct : Nat) : Int) }
    else s
  s |> settleEmpty y.queue |> (·.modSched k fun z => { z with sending := none }) |> flushFc k

/-- A copy started in cut-through ends as a bad tail, with the complement of its FCS (R268). -/
def endBad (k : Nat) (y : Sending) (out : Bytes) (s : State) : State :=
  { s with out := { s.out with tx := some (k, out ++ (fcsOf out).map (~~~ ·), true) } }
    |> winCount k (out.length + 4) true |> chargeEnd k y (out.length + 4) |> countCopy y.copy DROP_TAIL_BAD
    |> bump (Reg.SWC_BAD_TAIL_CNT k) |> cause Reg.SWC_IRQ_CAUSE 0 |> perf uSwc 0x04 |> release y.copy.frame

/-- A copy has left its port or the Tether whole (R262, R266). -/
def endGood (k : Nat) (y : Sending) (out : Bytes) (s : State) : State :=
  let s := if k = 64 then linkSend 5 (leBytes 2 (y.copy.target + 2 ^ 10 * y.copy.cls) ++ out ++ fcsOf out) s
    else { s with out := { s.out with tx := some (k, out ++ fcsOf out, false) } } |> winCount k (out.length + 4) true
  s |> chargeEnd k y (out.length + 4) |> countCopy y.copy y.copy.info.code |> release y.copy.frame

/-- The rewrite of a copy whose PTP profile had to wait for its bytes (R345). -/
def lateRewrite (y : Sending) (x : Frame) : Option Rewritten :=
  y.late.map fun l => ptpRewrite l.kind l.arg (y.queue / 8) l.td x y.copy.params (copyData x y.copy)

/-- The bytes of a copy under way as far as they have arrived; a frame that has ended is padded (R266). -/
def sentBytes (y : Sending) (x : Frame) : Bytes :=
  let b := match lateRewrite y x with
    | some r => r.data
    | none => y.out ++ (copyData x y.copy).drop y.used
  if x.tail then padded b else b

/-- The last byte has had time to leave: L_frame at rate R. -/
def sentBy (s : State) (k : Nat) (y : Sending) (len : Nat) : Bool :=
  rateMbps s k != 0 && Decidable.decide (8000 * len ≤ rateMbps s k * since s y.start)

/-- TX_COPY_END: the last byte of the copy under way leaves (R262, R268, R279); on the Tether it waits while higher kinds
occupy the link (R322). A word of its data that stays uncorrectable ends it as a bad tail (Table 16.4); on the Tether, which sends
it whole in a link frame, it is discarded. -/
def txEnd (k : Nat) (buf : SramRead) (s : State) : State :=
  match (s.schedAt k).sending with
  | none => s
  | some y =>
    match frameAt s y.copy.frame with
    | none => s
    | some x =>
      let out := sentBytes y x
      if 65 ≤ k ∨ !x.tail ∨ !sentBy s k y (out.length + 4) ∨ (k = 64 ∧ !linkFree s (out.length + 6)) then s
      else
        let s := match lateRewrite y x with | some r => countRewrite r s | none => s
        let (noData, s) := sramRead 2 buf s
        if noData && k == 64 then s |> chargeEnd k y (out.length + 4) |> discardCopy y.copy DROP_TAIL_BAD
        else if noData || (y.cutThrough && x.bad.isSome) then endBad k y out s
        else endGood k y out s

def execTxCopyEnd (k : Fin 66) (buf : SramRead) (s : State) : Host.Outcome State Fault Refusal := .next (txEnd k.val buf (freshTeth s))

/-- EGRESS_UNDERRUN (R16, R268): data of a copy in cut-through reaches egress too late. -/
def underrun (k : Nat) (s : State) : State :=
  match (s.schedAt k).sending with
  | none => s
  | some y =>
    match frameAt s y.copy.frame with
    | none => s
    | some x => if 64 ≤ k ∨ !y.cutThrough then s else endBad k y (sentBytes y x) s

def execEgressUnderrun (k : Fin 66) (s : State) : Host.Outcome State Fault Refusal := .next (underrun k.val s)

/-- GATE_ENTRY_BOUNDARY (R288, R290): the next entry applies, and classes held by their gates are considered again. -/
def gateBoundary (p : Nat) (s : State) : State :=
  let x := s.schedAt p
  match x.inForce with
  | none => s
  | some g =>
    let s := s.setSched p { x with gateIdx := gateIndex g (nowNs s) }
    (schedQueues s p).foldl (fun s n =>
      if (s.classAt n).gateHeld then s.setClass n { s.classAt n with gateHeld := !gateAdmits s n } else s) s

def execGateEntryBoundary (p : Fin 64) (s : State) : Host.Outcome State Fault Refusal := .next (gateBoundary p.val s)

/-! ### Frozen queues (R296, R297) -/

/-- The head of a frozen queue has been held for HOLD_US. -/
def holdOver (s : State) (n : Nat) : Bool :=
  match (s.schedAt (schedOf n)).frozenAt, queueAt s n with
  | some t, c :: _ => Decidable.decide (us (holdUs s n) ≤ since s (max t c.enq))
  | _, _ => false

/-- Copies held too long are discarded from the head of the queue (R297). -/
def holdDiscard (n : Nat) : Nat → State → State
  | 0, s => s
  | f + 1, s =>
    match queueAt s n with
    | [] => s
    | c :: _ =>
      if holdOver s n then
        s |> popHead n |> cause Reg.TM_IRQ_CAUSE 3 |> perf uTm 0x05 |> discardCopy c DROP_PORT_HOLD_EXPIRED |> holdDiscard n f
      else s

/-- HOLD_EXPIRY (R297, R324). -/
def holdExpiry (n : Nat) (s : State) : State := if n < 520 then holdDiscard n (queueAt s n).length s else s

def execHoldExpiry (n : Fin 536) (s : State) : Host.Outcome State Fault Refusal := .next (holdExpiry n.val s)

/-- The queues of scheduler k freeze (R296): nothing is selected, positive credit becomes 0, and the copy under way is lost. -/
def freezeQueues (k : Nat) (s : State) : State :=
  let x := s.schedAt k
  let s := s.setSched k { x with frozenAt := some s.time.tick, sending := none, fcQ := [], xoff := [] }
  let s := (schedQueues s k).foldl (fun s n => s.setClass n { s.classAt n with credit := min 0 (s.classAt n).credit }) s
  let s := match x.sending with
    | some y => s |> countCopy y.copy DROP_PORT_HOLD_EXPIRED |> release y.copy.frame
    | none => s
  (schedQueues s k).foldl (fun s n => if holdUs s n = 0 then holdDiscard n (queueAt s n).length s else s) s

/-- The queues of scheduler k resume (R298): deficits start at 0 and pauses received before are cancelled. -/
def resumeQueues (k : Nat) (s : State) : State :=
  let s := s.modSched k fun x => { x with frozenAt := none, pauseEnd := [], xoff := [], fresh := true }
  (schedQueues s k).foldl (fun s n => s.setClass n { s.classAt n with deficit := 0, updAt := s.time.tick }) s

/-! ### Policer access (R302, Table 12.6) -/

/-- The policer that TM_POL_CMD names. -/
def polKey (cmd : Nat) : Nat := policerKey (bits cmd 9 8) (bits cmd 31 16)

/-- WRITE and REFILL: tk is brought up to now at the old rate, then limited to the new CBS, or set to it. -/
def polWrite (cmd : Nat) (fill : Bool) (s : State) : State :=
  let p := refill s (policerAt s (polKey cmd))
  let cbs := (regRead s Reg.TM_POL_CBS).toNat
  let top : Int := ((cbs * 65536 : Nat) : Int)
  setPolicer (polKey cmd)
    { p with
      cir := (regRead s Reg.TM_POL_CIR).toNat
      cbs := cbs
      wire := flagOf s Reg.TM_POL_FLAGS 0
      tk := if fill then top else min top p.tk } s

/-- READ and READ_CLEAR load the data registers. -/
def polRead (cmd : Nat) (clear : Bool) (s : State) : State :=
  let p := refill s (policerAt s (polKey cmd))
  let tk := unsigned 33 (p.tk / 65536)
  s |> setPolicer (polKey cmd) { p with drops := if clear then 0 else p.drops }
    |> regStore Reg.TM_POL_CIR (BitVec.ofNat 32 p.cir) |> regStore Reg.TM_POL_CBS (BitVec.ofNat 32 p.cbs)
    |> regStore Reg.TM_POL_FLAGS (BitVec.ofNat 32 (b2n p.wire)) |> regStore Reg.TM_POL_TOKENS (BitVec.ofNat 32 tk)
    |> regStore Reg.TM_POL_DROPS (BitVec.ofNat 32 p.drops) |> setField Reg.TM_POL_STATUS 2 2 (tk / 2 ^ 32)

/-- A write of TM_POL_CMD: OP 0 starts nothing, an OP above 4 ends with BAD_OP. -/
def polCommand (v : Word32) (s : State) : State :=
  let cmd := v.toNat
  let s := regStore Reg.TM_POL_CMD (v &&& 0xFFFF0300#32) s
  let ok := setField Reg.TM_POL_STATUS 1 0 0
  match bits cmd 3 0 with
  | 0 => s
  | 1 => s |> polWrite cmd false |> ok
  | 2 => s |> polRead cmd false |> ok
  | 3 => s |> polRead cmd true |> ok
  | 4 => s |> polWrite cmd true |> ok
  | _ => setField Reg.TM_POL_STATUS 1 0 1 s

/-- A write of TM_POL_CMD whose OP is the one that the row names. -/
def polRow (op : Nat) (cmd : Word32) (s : State) : State := if bits cmd.toNat 3 0 = op then gated (polCommand cmd) s else s

def execPolWrite (cmd : Word32) (s : State) : Host.Outcome State Fault Refusal := .next (polRow 1 cmd s)
def execPolRead (cmd : Word32) (s : State) : Host.Outcome State Fault Refusal := .next (polRow 2 cmd s)
def execPolReadClear (cmd : Word32) (s : State) : Host.Outcome State Fault Refusal := .next (polRow 3 cmd s)
def execPolRefill (cmd : Word32) (s : State) : Host.Outcome State Fault Refusal := .next (polRow 4 cmd s)

end Sys2Proof.Machine
end

