-- ==== Sys2Proof/Machine/Dma.lean ====
section
/-!
DEFINITION. Records that the DMA engine writes to host-bound rings (R463 to R465): PACKET records from the host scheduler
(Tables 19.6 and 19.7, R272), counter dumps (R485), records that span buffers, and starvation.
-/
namespace Sys2Proof.Machine

/-! ### PACKET records -/

/-- TRUNC of a port's sampler in bytes (R272). -/
def truncBytes (s : State) (p : Nat) : Nat := 64 * min 8 (max 1 (fieldOf s (Reg.SWC_SAMPLE_SEED p) 27 24))

/-- Frame bytes of a PACKET record (R464). -/
def packetData (s : State) (x : Frame) (c : Copy) : Bytes :=
  if c.kind = .sample then (copyData x c).take (truncBytes s x.port) else copyData x c

/-- SOURCE of a copy to a host queue (Table 19.7). -/
def packetSource (c : Copy) : Nat := match c.kind with | .punt => c.info.source | .sample => 9 | _ => 10

/-- The header of Table 19.6. -/
def packetHeader (s : State) (x : Frame) (c : Copy) : Bytes :=
  let data := packetData s x c
  let sample := b2n (c.kind = .sample)
  let flags := c.info.status + 2 ^ 2 * c.info.pass + 2 ^ 4 * b2n c.info.dir +
    2 ^ 5 * b2n (Decidable.decide (data.length < (copyData x c).length)) + 2 ^ 6 * sample
  leBytes 8 (netSec x.arr) ++ leBytes 4 (netNs x.arr) ++ leBytes 2 (netFrac x.arr) ++ [0, 0] ++ leBytes 8 c.info.hash.toNat ++
    leBytes 2 (frameLen x) ++ leBytes 2 data.length ++ leBytes 1 x.port ++ leBytes 1 c.info.code ++ leBytes 1 (packetSource c) ++
    leBytes 1 flags ++ leBytes 2 c.info.reason ++ leBytes 1 c.info.template ++ leBytes 1 x.cls ++ leBytes 2 c.info.stamp ++
    leBytes 2 c.info.head ++ leBytes 8 c.info.action ++ List.replicate 16 0

/-- A PTP profile on a copy to a host queue is skipped and counted (R345, R347). -/
def hostSkip (c : Copy) (s : State) : State :=
  match c.profile with
  | some t =>
    let kind := fieldOf s (Reg.EGR_PROFILE_CFG t) 7 0
    if 0x20 ≤ kind ∧ kind ≤ 0x23 then bump Reg.EGR_PTP_SKIP_CNT s else s
  | none => s

/-- The host copy under way has been handed over whole: it is counted under its code, a sample as a sample, and releases its
reference (R148, R262, R272). -/
def packetDone (s : State) : State :=
  match (s.schedAt 65).sending with
  | none => s
  | some y =>
    match frameAt s y.copy.frame with
    | none => s.modSched 65 fun z => { z with sending := none }
    | some x =>
      let s := if y.copy.kind = .sample then s |> bump (Reg.SWC_SAMPLE_CNT x.port) |> perf uSwc 0x05
        else s |> countCopy y.copy y.copy.info.code |> hostSkip y.copy
      s |> chargeEnd 65 y ((packetData s x y.copy).length + 4) |> release y.copy.frame

/-- The host copy under way goes to ring n as a PACKET record. -/
def packetWrite (n : Nat) (y : Sending) (s : State) : State :=
  match frameAt s y.copy.frame with
  | none => packetDone s
  | some x =>
    let (ok, s) := placeRec n 1 (packetHeader s x y.copy ++ packetData s x y.copy) s
    if ok && (s.ringAt n).span.isEmpty then packetDone s else s

/-! ### Dumps and spanning records -/

/-- The ring of dumps (R485). -/
def dumpRing (s : State) : Nat := fieldOf s Reg.PERF_DUMP_CFG 27 24

/-- The snapshot that waits goes to ring n; it waits no longer once it has been wholly written (R485). -/
def dumpWrite (n : Nat) (b : Bytes) (s : State) : State :=
  let (ok, s) := placeRec n 3 b s
  if ok then { s with perf := { s.perf with dump := if (s.ringAt n).span.isEmpty then none else some [] } } else s

/-- A spanning record has been written to its end. -/
def spanDone (kind : Nat) (s : State) : State :=
  if kind = 1 then packetDone s else if kind = 3 then { s with perf := { s.perf with dump := none } } else s

/-- DMA_RECORD_WRITE (R463 to R465): ring n takes the rest of a spanning record, the host copy selected for it, or the
snapshot that waits for it. -/
def recordWrite (n : Nat) (s : State) : State :=
  if !s.pcie.up || 16 ≤ n then s
  else if !(s.ringAt n).span.isEmpty then
    (let k := (s.ringAt n).spanKind
     let s := placeRest n s
     if (s.ringAt n).span.isEmpty then spanDone k s else s)
  else match (s.schedAt 65).sending with
    | some y => if y.queue = 520 + n then packetWrite n y s else dumpNext s
    | none => dumpNext s
where
  /-- The snapshot, when it waits for ring n. -/
  dumpNext (s : State) : State :=
    match s.perf.dump with
    | some b => if dumpRing s = n ∧ b.isEmpty = false then dumpWrite n b s else s
    | none => s

def execDmaRecordWrite (n : Fin 32) (s : State) : Host.Outcome State Fault Refusal := .next (recordWrite n.val (freshOut s))

/-! ### Starvation -/

/-- A record waits for ring n (R465): the rest of a spanning one, a host copy, a Sillage record, a snapshot or message of the
exporters, or a dump. -/
def recordWaits (s : State) (n : Nat) : Bool :=
  !(s.ringAt n).span.isEmpty || !(queueAt s (520 + n)).isEmpty ||
    (match (s.schedAt 65).sending with | some y => y.queue == 520 + n | none => false) ||
    (fieldOf s Reg.SILL_CFG 3 0 == n && flagOf s Reg.SILL_CFG 31 && !s.sill.buf.isEmpty) ||
    (expRing s == n && (List.range 4).any fun b => flushDue s b ||
      (match (expAt s b).ring with | m :: _ => m.item == 0 || m.item == 3 | [] => false)) ||
    (dumpRing s == n && s.perf.dump.isSome)

/-- Ring n makes a record wait. -/
def starved (s : State) (n : Nat) : Bool := n < 16 && recordWaits s n && !ringTakes s n

/-- DMA_STARVE_INTERVAL (R465): a further 1 µs in which a record waited for the ring. -/
def starveInterval (n : Nat) (s : State) : State :=
  if starved s n && Decidable.decide (us 1 ≤ since s (s.ringAt n).starveAt) then
    s |> (·.modRing n fun r => { r with starveAt := s.time.tick }) |> bump (Reg.DMA_RING_STARVE_CNT n) |> cause Reg.DMA_IRQ_CAUSE 3
  else s

def execDmaStarveInterval (n : Fin 32) (s : State) : Host.Outcome State Fault Refusal := .next (starveInterval n.val s)

end Sys2Proof.Machine
end

