-- ==== Sys2Proof/Machine/Ports.lean ====
section
/-!
DEFINITION. Link states of the ports (R307, R309 to R311, Table 13.4), and what the loss or return of a link does to their
queues (R296, R298).
-/
namespace Sys2Proof.Machine

/-- A port may run: it is in PORT_MAP, enabled, its lane octet is ON (R413), REFCLK_ETH is good (R307), and a Charter has
released it. -/
def portReady (s : State) (p : Nat) : Bool :=
  portExists s p && flagOf s (Reg.PORT_CTRL p) 0 && domOn s (1 + p / 8) && !s.pins.refclkEthBad && running s

/-- The LINK record of a port's new state (Table 14.8). -/
def noteLink (p : Nat) (s : State) : State :=
  let x := s.portAt p
  let code := match x.st with | .down => 0 | .acquire => 1 | .align => 2 | .up => 3
  emit (srcPort p) 0x18 (code + 2 ^ 2 * b2n x.remoteFault) s

/-- The receive state of every lane of a port changes. -/
def setLanes (p : Nat) (f : Lane → Lane) (s : State) : State :=
  { s with lanes := (List.range (modeLanes (s.portCfgAt p).speed)).foldl (fun t i => Tbl.set t (p + i) {} (f (Tbl.get t (p + i) {}))) s.lanes }

/-- A port goes to DOWN or ACQUIRE; leaving UP is a link-down (R296, R310). In DOWN its lanes receive nothing. -/
def leaveTo (p : Nat) (st : LinkState) (s : State) : State :=
  let x := s.portAt p
  let s := s.setPort p { x with st := st, alignedAt := none, faultAt := none, localFault := st != .down && x.localFault }
  let s := if st = .down then setLanes p (fun _ => {}) s else s
  if x.st = .up then s |> cause (Reg.PORT_IRQ_CAUSE p) 1 |> bump (Reg.PORT_LINK_DOWN_CNT p) |> noteLink p |> freezeQueues p else s

/-- A port that may run and is DOWN starts from ACQUIRE (R309). -/
def portStart (p : Nat) (s : State) : State :=
  if portReady s p ∧ (s.portAt p).st = .down then
    leaveTo p .acquire (s.modPort p fun x => { x with localFault := true, remoteFault := false, hiBer := false })
  else s

/-- A port stops (R309, R413). -/
def portStop (p : Nat) (s : State) : State := if (s.portAt p).st = .down then s else leaveTo p .down s

/-- A write of PORT_CTRL; an absent port ignores it (R332). -/
def portCtrlWrite (p : Nat) (v : Word32) (s : State) : State :=
  if !portExists s p then s
  else
    let s := regStore (Reg.PORT_CTRL p) (v &&& 1#32) s
    if v.getLsbD 0 then portStart p s else portStop p s

def execPortEnable (p : Fin 64) (v : Word32) (s : State) : Host.Outcome State Fault Refusal :=
  .next (if v.getLsbD 0 then gated (portCtrlWrite p.val v) s else s)

def execPortDisable (p : Fin 64) (v : Word32) (s : State) : Host.Outcome State Fault Refusal :=
  .next (if !v.getLsbD 0 then gated (portCtrlWrite p.val v) s else s)

/-- PORT_ACQUIRE_DONE: every lane has signal, CDR lock and completed adaptation (Table 13.4). -/
def acquireDone (p : Nat) (s : State) : State :=
  if (s.portAt p).st = .acquire ∧ portReady s p then
    s |> setLanes p (fun l => { l with signal := true, cdr := true, adapted := true }) |> (·.modPort p fun x => { x with st := .align })
  else s

def execPortAcquireDone (p : Fin 64) (s : State) : Host.Outcome State Fault Refusal := .next (acquireDone p.val s)

/-- PORT_ALIGN_DONE: every PCS lane is locked, aligned and deskewed, with no fault; in ALIGN the hold before UP begins. -/
def alignDone (p : Nat) (s : State) : State :=
  let x := s.portAt p
  if (x.st = .align ∨ x.st = .up) ∧ portReady s p then
    s |> setLanes p (fun _ => { signal := true, cdr := true, adapted := true, block := true })
      |> (·.setPort p { x with
          alignedAt := if x.st = .up then x.alignedAt else some s.time.tick
          localFault := false
          remoteFault := false
          hiBer := false
          faultAt := none })
  else s

def execPortAlignDone (p : Fin 64) (s : State) : Host.Outcome State Fault Refusal := .next (alignDone p.val s)

/-- UP_HOLD_MS in ticks, 0 acting as 1. -/
def upHold (s : State) (p : Nat) : Nat := 1000000 * max 1 (fieldOf s (Reg.PORT_LINK_CFG p) 15 0)

/-- PORT_LINK_UP: ALIGN has held for UP_HOLD_MS without fault (R298, R309, R310). -/
def linkUp (p : Nat) (s : State) : State :=
  let x := s.portAt p
  match x.st, x.alignedAt with
  | .align, some t =>
    if portReady s p && !x.localFault && !x.remoteFault && Decidable.decide (upHold s p ≤ since s t) then
      s |> (·.setPort p { x with st := .up }) |> cause (Reg.PORT_IRQ_CAUSE p) 0 |> noteLink p |> resumeQueues p |> fcUpdate p
    else s
  | _, _ => s

def execPortLinkUp (p : Fin 64) (s : State) : Host.Outcome State Fault Refusal := .next (linkUp p.val s)

/-- A condition that takes the link down is there (R309, R310): a lane that loses signal or lock loses its receive state; every
condition but a remote fault leaves the receive side unaligned; in ALIGN the hold before UP starts anew once it has gone. -/
def noteLoss (p : Nat) (why : LinkLoss) (lane : Nat) (s : State) : State :=
  let x := s.portAt p
  let s := s.setPort p { x with
    faultAt := some (x.faultAt.getD s.time.tick)
    alignedAt := if x.st = .align then none else x.alignedAt
    hiBer := x.hiBer || why == .hiBer
    remoteFault := x.remoteFault || why == .remoteFault
    localFault := x.localFault || why != .remoteFault }
  let s := if why = .signal ∧ lane < modeLanes (s.portCfgAt p).speed then { s with lanes := Tbl.set s.lanes (p + lane) {} {} } else s
  if why = .remoteFault then cause (Reg.PORT_IRQ_CAUSE p) 2 s else s

/-- PORT_LINK_DOWN (R309, R310): a loss of lock or alignment, hi_ber or a fault, reported as it begins and as it lasts, takes the
port back to ACQUIRE once it has lasted DOWN_DEBOUNCE_US. `lane` is the lane, from the port's own lane on, that has lost signal or
lock. -/
def linkDown (p : Nat) (why : LinkLoss) (lane : Nat) (s : State) : State :=
  let x := s.portAt p
  if x.st = .up ∨ x.st = .align then
    let s := noteLoss p why lane s
    if us (fieldOf s (Reg.PORT_LINK_CFG p) 31 16) ≤ since s (x.faultAt.getD s.time.tick) then leaveTo p .acquire s else s
  else s

def execPortLinkDown (p : Fin 64) (cause : LinkLoss) (lane : Fin 8) (s : State) : Host.Outcome State Fault Refusal :=
  .next (linkDown p.val cause lane.val s)

/-- REMOTE_FAULT (R310): the condition begins, unless it lasts already. -/
def remoteFault (p : Nat) (s : State) : State :=
  let x := s.portAt p
  if x.st = .up ∨ x.st = .align then noteLoss p .remoteFault 0 s else s

def execRemoteFault (p : Fin 64) (s : State) : Host.Outcome State Fault Refusal := .next (remoteFault p.val s)

/-- REFCLK_ETH_LOSS (R307): every port is DOWN. -/
def refclkEthLoss (s : State) : State :=
  (List.range 64).foldl (fun s p => portStop p s) { s with pins := { s.pins with refclkEthBad := true } }

def execRefclkEthLoss (s : State) : Host.Outcome State Fault Refusal := .next (refclkEthLoss s)

/-- REFCLK_ETH_RETURN (R307): enabled ports start again from ACQUIRE. -/
def refclkEthReturn (s : State) : State :=
  (List.range 64).foldl (fun s p => portStart p s) { s with pins := { s.pins with refclkEthBad := false } }

def execRefclkEthReturn (s : State) : Host.Outcome State Fault Refusal := .next (refclkEthReturn s)

/-- The ports of lane octet o stop or start with their domain (R412, R413). -/
def octetStop (o : Nat) (s : State) : State := (List.range 8).foldl (fun s i => portStop (8 * o + i) s) s
def octetStart (o : Nat) (s : State) : State := (List.range 8).foldl (fun s i => portStart (8 * o + i) s) s

end Sys2Proof.Machine
end

