-- ==== Sys2Proof/Machine/Tether.lean ====
section
/-!
DEFINITION. The Tether of chapter 13: bring-up and the lane set (R319, R320), link frames (R321, R322), the pair (R323 to R325),
mirror messages (R326 to R328), and copies and recoveries (R330, R331).
-/
namespace Sys2Proof.Machine

/-! ### Bring-up and lanes -/

/-- Both ends send PRBS31 from now on: the link is down until it has been trained (R319, R320). -/
def tethBringUp (s : State) : State :=
  let s := if s.teth.up then cause Reg.TETH_IRQ_CAUSE 1 s else s
  { s with teth := { s.teth with
    up := false, trainingSince := some s.time.tick, framedIdle := false, good := 0, peerGood := 0, peerSet := 0, svc := 0, failed := 0 } }

/-- A write of TETH_CTRL (Table 13.14). -/
def tethCtrlWrite (v : Word32) (s : State) : State :=
  let s := regStore Reg.TETH_CTRL (v &&& 0x010FFFFF#32) s
  if v.getLsbD 31 && domOn s 26 then tethBringUp s else s

def execTethRetrain (v : Word32) (s : State) : Host.Outcome State Fault Refusal :=
  .next (if v.getLsbD 31 then gated (tethCtrlWrite v) s else s)

/-- TETH_TRAIN_DONE (R319): TRAIN_MS have passed, and framed idles follow. -/
def tethTrained (s : State) : State :=
  match s.teth.trainingSince with
  | some t =>
    if s.teth.trainMs * 1000000 ≤ since s t then
      { s with teth := { s.teth with trainingSince := none, framedIdle := true, laneAt := s.time.tick } }
    else s
  | none => s

def execTethTrainDone (s : State) : Host.Outcome State Fault Refusal := .next (tethTrained s)

/-- Lanes usable in both directions that have not failed since the last full bring-up (R319, R320). -/
def usableLanes (s : State) : Nat := s.teth.good &&& s.teth.peerGood &&& s.teth.lanesFitted &&& (255 - s.teth.failed % 256)

/-- The lane set in service for a set of usable lanes, in the order of R320; 0 for none. -/
def laneSet (usable : Nat) : Nat :=
  (([0xFF, 0x0F, 0xF0, 0x03, 0x0C, 0x30, 0xC0] ++ (List.range 8).map (2 ^ ·)).find? fun m => usable &&& m == m).getD 0

/-- The lane set that this end's idles announce (R320): SIDE 0 chooses it, and SIDE 1 takes the one that SIDE 0 announces. -/
def announcedSet (s : State) : Nat := if s.teth.side = 0 then laneSet (usableLanes s) else s.teth.peerSet

/-- TETH_LANE_CHECK (R319): each 1 ms, the sync-header errors of each lane in that time, and the lanes that the peer's idles report
good; a lane not listed has no block lock. -/
def laneCheck (errors : List Nat) (peer : Nat) (s : State) : State :=
  let x := s.teth
  if !x.framedIdle ∨ since s x.laneAt < 1000000 then s
  else
    let ok := fun m => match errors[m]? with | some n => Decidable.decide (n ≤ (regRead s Reg.TETH_LANE_ERR_LIMIT).toNat) | none => false
    let good := (List.range 8).foldl (fun g m => if ok m && x.lanesFitted.testBit m then g + 2 ^ m else g) 0
    let lost := if x.up then (x.good &&& x.peerGood) &&& (255 - (good &&& peer)) else 0
    { s with teth := { x with laneAt := s.time.tick, good := good, peerGood := peer, failed := x.failed ||| lost } }

def execTethLaneCheck (errors : List Nat) (peer : BitVec 8) (s : State) : Host.Outcome State Fault Refusal :=
  .next (laneCheck errors peer.toNat s)

/-- Frames awaiting acknowledgement are sent again when sending resumes (Table 13.9). -/
def resendAll (s : State) : State := s.teth.retry.foldl (fun s e => linkOut e.kind e.seq e.payload s) s

/-- TETH_LINK_UP (R320): both ends announce the same set, given the lanes that the peer's idles report good and the set that they
announce. -/
def tethLinkUp (peer set : Nat) (s : State) : State :=
  let s' := { s with teth := { s.teth with peerGood := peer, peerSet := set } }
  if !s.teth.framedIdle ∨ s.teth.up ∨ set = 0 ∨ announcedSet s' ≠ set ∨ usableLanes s' &&& set ≠ set then s
  else { s' with teth := { s'.teth with up := true, svc := set, hbSentAt := s.time.tick } } |> cause Reg.TETH_IRQ_CAUSE 0 |> resendAll

def execTethLinkUp (peer set : BitVec 8) (s : State) : Host.Outcome State Fault Refusal :=
  .next (tethLinkUp peer.toNat set.toNat (freshTeth s))

/-- TETH_REFORM (R320): a lane of the set has stopped being good in one direction, and a new set takes its place; `announced` is
the set that the peer's idles then announce, which SIDE 1 takes. -/
def tethReform (m announced : Nat) (s : State) : State :=
  if !s.teth.up ∨ !s.teth.svc.testBit m then s
  else
    let s := { s with teth := { s.teth with failed := s.teth.failed ||| 2 ^ m, peerSet := announced } }
    let set := announcedSet s &&& usableLanes s
    if set = 0 then tethBringUp s
    else { s with teth := { s.teth with svc := set } } |> cause Reg.TETH_IRQ_CAUSE 2 |> bump Reg.TETH_DEGRADE_CNT |> emit 0x008 0x49 set
      |> resendAll

def execTethReform (lane : Fin 8) (set : BitVec 8) (s : State) : Host.Outcome State Fault Refusal :=
  .next (tethReform lane.val set.toNat (freshTeth s))

/-- TETH_LINK_DOWN (R320): with no usable lane the link is DOWN and bring-up restarts. -/
def tethLinkDown (s : State) : State := if s.teth.framedIdle ∧ usableLanes s = 0 then tethBringUp s else s

def execTethLinkDown (s : State) : Host.Outcome State Fault Refusal := .next (tethLinkDown s)

/-! ### Link frames -/

/-- The peer acknowledges a frame. -/
def linkAck (n : Nat) (s : State) : State :=
  { s with teth := { s.teth with retry := delFirst (fun e => e.seq == n) s.teth.retry } }

/-- A frame has failed again: a lasting error (R321). -/
def linkLasting (kind : Nat) (s : State) : State :=
  s |> bump Reg.TETH_LASTING_CNT |> cause Reg.TETH_IRQ_CAUSE 7 |> emit 0x008 0x4A (kind % 256)

/-- The peer asks for a frame again: it is sent once more; after a second failure it is lost (R321), as it is when a word of it in the
retry buffer is (Table 16.4). -/
def linkNak (n : Nat) (noData : Bool) (s : State) : State :=
  match s.teth.retry.find? (·.seq = n) with
  | some e =>
    if e.resent then linkAck n s
    else if noData then s |> linkAck n |> linkLasting e.kind
    else
      { s with teth := { s.teth with retry := updFirst (fun e => e.seq == n) (fun e => { e with resent := true }) s.teth.retry } }
        |> linkOut e.kind e.seq e.payload |> bump Reg.TETH_RETRY_CNT |> perf uTeth 0x04
  | none => s

/-- Sequence numbers from the next expected one up to and without n, when n lies ahead of it by less than half the
circle. -/
def linkGap (rx n : Nat) : List Nat :=
  let d := (n + 65536 - rx) % 65536
  if d < 32768 then (List.range d).map fun i => (rx + i) % 65536 else []

/-- A frame other than a heartbeat arrives with its sequence and CRC (R321). Frames are resent in the order in which they were asked
for: one that arrives shows those asked for before it missing again, and their kinds are not known (0). -/
def linkTake (kind n : Nat) (ok : Bool) (s : State) : State :=
  let x := s.teth
  if x.rxRetry.contains n then
    let missed := x.rxRetry.takeWhile (· ≠ n)
    let s := { s with teth := { x with rxRetry := (x.rxRetry.dropWhile (· ≠ n)).tail } }
    let s := missed.foldl (fun s _ => linkLasting 0 s) s
    if ok then linkReply n true s else linkLasting kind s
  else if (n + 65536 - x.rxSeq) % 65536 < 32768 then
    let asked := linkGap x.rxSeq n ++ (if ok then [] else [n])
    let s := { s with teth := { x with rxSeq := (n + 1) % 65536, rxRetry := x.rxRetry ++ asked } }
    asked.foldl (fun s m => linkReply m false s) (if ok then linkReply n true s else s)
  else s

/-- LINK_FRAME_RX (R321): the link layer of a frame that arrives, and the acknowledgements that come with it. What its payload
does is the command of its kind. -/
def linkRx (kind n : Nat) (ok : Bool) (ack nak : Option (BitVec 16)) (buf : SramRead) (s : State) : State :=
  if !s.teth.up then s
  else
    let s := perf uTeth 0x02 s
    let s := if kind = 1 then s else linkTake kind n ok s
    if ok then
      let s := match ack with | some a => linkAck a.toNat s | none => s
      let (noData, s) := sramRead 7 buf s
      match nak with | some a => linkNak a.toNat noData s | none => s
    else s

/-- LINK_FRAME_RX, with what the codes of the words that it reads in the Tether's buffers find: a word that is not of a frame to be
sent again is logged only (Table 16.4). -/
def execLinkFrameRx (kind : Nat) (seq : BitVec 16) (crcOk : Bool) (ack nak : Option (BitVec 16)) (buf : SramRead) (s : State) :
    Host.Outcome State Fault Refusal := .next (linkRx kind seq.toNat crcOk ack nak buf (freshTeth s))

/-- The bytes of a mirror message (R326). -/
def mirrorBytes (s : State) (m : MirrorMsg) : Bytes :=
  [BitVec.ofNat 8 m.type, BitVec.ofNat 8 s.teth.side, 0, 0] ++ leBytes 4 s.teth.mirrorSeq ++ leBytes 8 m.hash
    ++ m.words.flatMap fun w => leBytes 8 w.toNat

/-- A frame of recovery or mirroring is sent and occupies the link for its bits. -/
def linkQueue (kind : Nat) (payload : Bytes) (s : State) : State :=
  let s := linkSend kind payload (freshTeth s)
  { s with teth := { s.teth with linkDebt := s.teth.linkDebt + 80 * linkLen payload.length } }

/-- The next recovery or mirror frame is sent, if the link is free and the retry buffer has room (R321, R322). -/
def linkPump (s : State) : State :=
  let x := s.teth
  if !x.up ∨ x.pair ≠ .paired ∨ x.linkDebt ≠ 0 then s
  else match x.recQ with
    | (kind, b) :: rest =>
      if linkRoom s b.length then linkQueue kind b { s with teth := { x with recQ := rest } } else s
    | [] =>
      match (List.range 4).findSome? fun b => match Tbl.get x.mirrorQ b [] with | m :: rest => some (b, m, rest) | [] => none with
      | some (b, m, rest) =>
        if linkRoom s 144 then
          let s := { s with teth := { x with mirrorQ := Tbl.set x.mirrorQ b [] rest } } |> linkQueue 4 (mirrorBytes s m)
          { s with teth := { s.teth with mirrorSeq := (s.teth.mirrorSeq + 1) % 2 ^ 32 } }
            |> bump Reg.TETH_MIRROR_TX_CNT |> perf uTeth 0x03
        else s
      | none => s

/-- One tick of the link: 31.5 bits leave by each lane in service, and what waits may follow (R318, R322). -/
def tethTick (s : State) : State :=
  linkPump { s with teth := { s.teth with linkDebt := s.teth.linkDebt - 315 * popNat s.teth.svc 8 } }

/-! ### The pair -/

def PairState.code : PairState → Nat
  | .alone => 0 | .paired => 1 | .peerDrain => 2 | .peerLost => 3 | .mismatch => 4

/-- A recovery has failed (R331): its miss entry makes a setup, or the slot stays poisoned with the outcome of Table 16.7. -/
def recoverFail (outcome : Nat) (r : Recovery) (s : State) : State :=
  let s := bump Reg.TETH_RECOVER_FAIL_CNT s
  match r.who with
  | .miss b e => peerAnswer b e none s
  | .audit slot => auditAnswer slot none outcome s

/-- Recoveries in progress that satisfy a condition fail. -/
def failRecoveries (p : Recovery → Bool) (outcome : Nat) (s : State) : State :=
  let due := s.teth.recoveries.filter p
  due.foldl (fun s r => recoverFail outcome r s)
    { s with teth := { s.teth with recoveries := s.teth.recoveries.filter fun r => !p r } }

/-- PAIRED is left: the Tether queues freeze, and nothing but heartbeats is sent (R323, R324). -/
def unpair (s : State) : State :=
  { s with teth := { s.teth with recQ := [], resync := false } } |> freezeQueues 64

/-- The instant of loss or drain (R323, R329). -/
def noteLost (s : State) : State :=
  { s with teth := { s.teth with lostAt := ledgerNow s } } |> stamp Reg.TETH_LOST_SEC Reg.TETH_LOST_NS

/-- The pair state changes (Table 13.7). -/
def setPairState (p : PairState) (s : State) : State :=
  let old := s.teth.pair
  if old = p then s
  else
    let s := { s with teth := { s.teth with pair := p } } |> emit 0x008 0x48 p.code
    let s := if old = .paired then unpair s else s
    match p with
    | .paired =>
      { s with teth := { s.teth with resync := (old == .peerLost || old == .peerDrain) && flagOf s Reg.TETH_CTRL 24 } }
        |> cause Reg.TETH_IRQ_CAUSE 4 |> resumeQueues 64
    | .peerDrain => s |> noteLost |> failRecoveries (fun _ => true) 3
    | .peerLost => s |> noteLost |> cause Reg.TETH_IRQ_CAUSE 3 |> bump Reg.TETH_HB_MISS_CNT |> perf uTeth 0x05
    | .mismatch => cause Reg.TETH_IRQ_CAUSE 5 s
    | .alone => s

/-- CHECK of R323. -/
def pairCheck (s : State) : Nat := wbits (fmix (s.vault.seed ^^^ BitVec.ofNat 64 s.vault.ftLog2)) 31 0

/-- The payload of a heartbeat (R323, log entry 78): SIDE, RUN and whether the last two times are given; CHECK; the send
time; and the send time of the peer's last heartbeat with the time of its arrival here, for R325. -/
def heartbeat (s : State) : Bytes :=
  let x := s.teth
  let (a, b) := x.hbExchange.getD (0, 0)
  BitVec.ofNat 8 (x.side + 2 * b2n (running s) + 4 * b2n x.hbExchange.isSome) :: leBytes 4 (pairCheck s) ++ leBytes 16 s.time.net
    ++ leBytes 16 a ++ leBytes 16 b

/-- HEARTBEAT_SEND (R323): every 10 µs on a link that is UP. -/
def heartbeatSend (s : State) : State :=
  if !s.teth.up ∨ since s s.teth.hbSentAt < us 10 then s
  else { s with teth := { s.teth with hbSentAt := s.time.tick } } |> linkQueue 1 (heartbeat s)

def execHeartbeatSend (s : State) : Host.Outcome State Fault Refusal := .next (heartbeatSend s)

/-- The peer's time minus this device's in ns, from the four times of an exchange in units of 2^-32 ns (R325). -/
def peerOffset (t1 t2 t3 t4 : Nat) : Int := (((t1 + t4 : Nat) : Int) - ((t2 + t3 : Nat) : Int)) / (2 * 4294967296)

/-- The pair state that a heartbeat leads to (Table 13.7); none for no change. -/
def pairOnBeat (s : State) (msg : Bytes) : Option PairState :=
  let fl := byteAt msg 0
  if bits fl 0 0 = s.teth.side ∨ leAt msg 1 4 ≠ pairCheck s then some .mismatch
  else if !bit fl 1 then some .peerDrain
  else if running s then some .paired
  else none

/-- HEARTBEAT_RX (R323, R325). -/
def heartbeatRx (msg : Bytes) (s : State) : State :=
  if !s.teth.up then s
  else
    let t1 := leAt msg 5 16
    let s := if bit (byteAt msg 0) 2 then
        setPair Reg.TETH_PEER_OFFSET_LO (unsigned 64 (peerOffset t1 s.time.net (leAt msg 21 16) (leAt msg 37 16))) s
      else s
    let s := { s with teth := { s.teth with hbRxAt := s.time.tick, hbExchange := some (t1, s.time.net) } }
    match pairOnBeat s msg with
    | some p => setPairState p s
    | none => s

def execHeartbeatRx (msg : Bytes) (s : State) : Host.Outcome State Fault Refusal := .next (heartbeatRx msg s)

/-- PEER_LOST (R323): 30 µs have passed with no heartbeat after PAIRED or PEER_DRAIN. -/
def peerLost (s : State) : State :=
  if (s.teth.pair = .paired ∨ s.teth.pair = .peerDrain) ∧ us 30 ≤ since s s.teth.hbRxAt then setPairState .peerLost s else s

def execPeerLost (s : State) : Host.Outcome State Fault Refusal := .next (peerLost s)

/-! ### Mirror messages from the peer -/

/-- MIRROR_APPLY (R327, Table 13.8): a message is applied at the home Branch of its hash; one that finds no place in the miss
queue is lost (log entry 84). -/
def mirrorApply (msg : Bytes) (s : State) : State :=
  let type := byteAt msg 0
  let side := bits (byteAt msg 1) 0 0
  let h : Word64 := BitVec.ofNat 64 (leAt msg 8 8)
  let rc := bytesRec (msg.drop 16)
  let key := recKey rc
  let b := homeOf h
  if s.teth.pair ≠ .paired ∨ !running s ∨ type = 0 ∨ 4 < type ∨ msg.length ≠ 144 then s
  else match probe s b h key with
    | some k => mirrorOnTill b k type side rc s
    | none => (attach b h key (.mirror type side rc) s).getD s

def execMirrorApply (msg : Bytes) (s : State) : Host.Outcome State Fault Refusal := .next (mirrorApply msg s)

/-! ### Copies from the peer -/

/-- TETHER_COPY_RX (R330): the copy takes cells as the Tether requester and joins its port-class queue. -/
def tetherCopy (header data : Bytes) (s : State) : State :=
  if !s.teth.up ∨ !running s then s
  else
    let target := bits (leAt header 0 2) 9 0
    let q := bits (leAt header 0 2) 12 10
    let p := target - 0x80
    let f := s.swc.nextFrame
    let x : Frame := {
      req := .tether q, port := 0, cls := q, data := data, arr := s.time.net, tail := true, refs := 1, passesDone := true }
    let s := { s with swc := { s.swc with nextFrame := f + 1 } } |> setFrame f x |> fillCells f maxRounds
    let c : Copy := { frame := f, kind := .direct, cls := q, target := p }
    match frameAt s f with
    | none => s
    | some y =>
      if y.refused || y.cells.isEmpty then dropFrame f s
      else
        let s := bump Reg.TETH_RX_DATA_CNT s
        if 0x80 ≤ target ∧ target < 0xC0 ∧ portExists s p then s |> makeCopy (portQueue s p q) c |> release f
        else s |> badTarget c |> release f

def execTetherCopyRx (header data : Bytes) (s : State) : Host.Outcome State Fault Refusal := .next (tetherCopy header data s)

/-! ### Recovery -/

/-- What a recovery request finds here: a record, or the status 1 NOT_FOUND, 2 POISONED or 3 UNAVAILABLE (R331). -/
def recoverLook (msg : Bytes) (s : State) : (Rec ⊕ Nat) × State :=
  if !running s then (.inr 3, s)
  else if byteAt msg 0 = 0 then
    let key : Ckey := BitVec.ofNat 320 (leAt msg 5 40)
    let h := hashOf s key
    let b := homeOf h
    match probe s b h key with
    | some k =>
      match wayAt s b k with
      | none => (.inr 1, s)
      | some w =>
        let s := noteState b h w.rc s
        if rcDead w.rc then (.inr 1, s)
        else if rcExpired s w.rc (ledgerNow s) then (if rcLock w.rc then (.inl w.rc, s) else (.inr 1, closeWay b k true false s))
        else (.inl w.rc, s)
    | none =>
      let (found, poisoned, s) := searchBoth b .mirror h key (ledgerNow s) s
      match found with
      | some (_, r) => (.inl r, s)
      | none => (.inr (if poisoned then 2 else 1), s)
  else
    let slot := leAt msg 5 4
    if s.vault.ftLog2 = 0 ∨ 2 ^ s.vault.ftLog2 ≤ slot then (.inr 1, s)
    else match wayOfSlot s slot with
      | some k => ((wayAt s (slot / quarter s.vault) k).elim (.inr 1) (fun w => .inl w.rc), s)
      | none =>
        let (cell, s) := readRecord (ftRecord s.vault slot) (slot / quarter s.vault) .mirror s
        match cell with
        | .data r => (.inl r, s)
        | .poison => (.inr 2, s)

/-- RECOVERY_REQUEST_RX (R331): the answer waits for the link. -/
def recoverRequest (msg : Bytes) (s : State) : State :=
  if s.teth.pair ≠ .paired ∨ !s.teth.up then s
  else
    let (ans, s) := recoverLook msg s
    let body := match ans with
      | .inl r => 0#8 :: slice msg 1 4 ++ recBytes (vaultCopy r)
      | .inr st => BitVec.ofNat 8 st :: slice msg 1 4
    { s with teth := { s.teth with recQ := s.teth.recQ ++ [(3, body)] } }

def execRecoveryRequestRx (msg : Bytes) (s : State) : Host.Outcome State Fault Refusal := .next (recoverRequest msg s)

/-- RECOVERY_RESPONSE_RX (R128, R331, R406). -/
def recoverResponse (msg : Bytes) (s : State) : State :=
  match s.teth.recoveries.find? fun r => r.id == leAt msg 1 4 with
  | none => s
  | some r =>
    let s := { s with teth := { s.teth with recoveries := s.teth.recoveries.filter (·.id ≠ r.id) } }
    if byteAt msg 0 ≠ 0 then recoverFail (min 3 (byteAt msg 0)) r s
    else
      let rc := bytesRec (msg.drop 5)
      match r.who with
      | .miss b e => peerAnswer b e (some rc) s
      | .audit slot => auditAnswer slot (some rc) 0 s

def execRecoveryResponseRx (msg : Bytes) (s : State) : Host.Outcome State Fault Refusal := .next (recoverResponse msg s)

/-- RECOVERY_TIMEOUT (R331): requests unanswered after TETH_RECOVER_TMO. -/
def recoverTimeout (s : State) : State :=
  let limit := us (max 1 (fieldOf s Reg.TETH_RECOVER_TMO 15 0))
  failRecoveries (fun r => Decidable.decide (limit < since s r.at_)) 4 s

def execRecoveryTimeout (s : State) : Host.Outcome State Fault Refusal := .next (recoverTimeout s)

/-! ### Power (R413) -/

/-- PD26 leaves ON: the link is DOWN and the pair ALONE. -/
def tethOff (s : State) : State :=
  let s := if s.teth.up then cause Reg.TETH_IRQ_CAUSE 1 s else s
  { s with teth := { s.teth with
    up := false, trainingSince := none, framedIdle := false, good := 0, peerGood := 0, peerSet := 0, svc := 0, failed := 0,
    retry := [], txSeq := 0, rxSeq := 0, rxRetry := [], linkDebt := 0, hbExchange := none, mirrorQ := [] } } |> setPairState .alone

end Sys2Proof.Machine
end

