-- ==== Sys2Proof/Machine/VaultCtl.lean ====
section
/-!
DEFINITION. The Vault controllers of chapter 15: refresh and heat (R370 to R372), self-refresh (R373 to R375), calibration (R377),
command parity (R378), rank sparing (R379 to R382) and the host window (R383 to R386).
-/
namespace Sys2Proof.Machine

/-! ### Refresh -/

/-- The channel is treated as hot (R371, R372). -/
def chanHot (x : VaultCh) : Bool := x.hot || Decidable.decide (2 ≤ x.sensorFails)

/-- Debt limit of a bank set (R370). -/
def debtLimit (x : VaultCh) : Nat := if chanHot x then 2 else 4

/-- Number of a bank set: bank `set` of chip select cs. -/
def setNo (cs set : Nat) : Nat := 4 * cs + set

/-- The controller works the ranks of a channel: it has been trained and is not in self-refresh. -/
def chanAwake (x : VaultCh) : Bool := x.st == .service || x.st == .srEntry

/-- The rank is worked: present, not the RETIRED one (R379), and not spared out (R382). -/
def rankWorked (s : State) (r : Nat) : Bool :=
  rankPresent s.vault r && s.vault.retired != some r && !(s.vault.spareSt == .done && s.vault.spareSrc == r)

/-- A forced refresh (R370). -/
def forceRefresh (c n : Nat) (s : State) : State :=
  if n = 0 then s else s |> bumpN (Reg.VAULT_CH_REF_FORCED_CNT c) n |> perfN (uVault c) 0x06 n

/-- A request to a bank of a set is queued (R370): a write of the buffer, or a request that waits. -/
def setQueued (s : State) (rank set : Nat) : Bool :=
  ((s.chanAt (rank / 2)).writes.any fun w => w.rank == rank && w.rec_ / 8 % 4 == set) ||
    (vaultReqs s).any fun (a, _) => readRank s.vault a == rank && (decodeRecord s.vault a).2 / 8 % 4 == set

/-- REFRESH_ACCRUAL (R370): a set gains one owed refresh, every 3.9 µs or, hot, 1.95 µs; beyond the limit a REFsb is issued at
once. -/
def refreshAccrual (c cs set : Nat) (s : State) : State :=
  let x := s.chanAt c
  let m := setNo cs set
  let n := Tbl.get x.debt m 0
  if !chanAwake x || !rankWorked s (2 * c + cs) || Decidable.decide (since s (Tbl.get x.refAt m 0) < (if chanHot x then 1950 else 3900)) then s
  else
    let x := { x with refAt := Tbl.set x.refAt m 0 s.time.tick }
    if debtLimit x ≤ n then forceRefresh c 1 (s.setChan c { x with debt := Tbl.set x.debt m 0 n })
    else s.setChan c { x with debt := Tbl.set x.debt m 0 (n + 1) }

def execRefreshAccrual (c : Fin 8) (cs : Fin 2) (set : Fin 4) (s : State) : Host.Outcome State Fault Refusal :=
  .next (refreshAccrual c.val cs.val set.val s)

/-- REFRESH_ISSUE (R370): none of the set's banks holds a queued request. -/
def refreshIssue (c cs set : Nat) (s : State) : State :=
  let x := s.chanAt c
  let n := Tbl.get x.debt (setNo cs set) 0
  if !chanAwake x || n == 0 || setQueued s (2 * c + cs) set then s else s.setChan c { x with debt := Tbl.set x.debt (setNo cs set) 0 (n - 1) }

def execRefreshIssue (c : Fin 8) (cs : Fin 2) (set : Fin 4) (s : State) : Host.Outcome State Fault Refusal :=
  .next (refreshIssue c.val cs.val set.val s)

/-- Sets whose debt exceeds 2 are refreshed at once until it is 2 (R372); each such REFsb is forced. -/
def payHot (c : Nat) (s : State) : State :=
  let x := s.chanAt c
  let extra := (x.debt.map fun (_, n) => n - 2).foldl (· + ·) 0
  s |> (·.setChan c { x with debt := x.debt.map fun (m, n) => (m, min n 2) }) |> forceRefresh c extra

/-- THERM record (Table 15.6). -/
def noteTherm (c : Nat) (hot fail : Bool) (t : Int) (s : State) : State :=
  emit (srcVaultCh c) 0x61 (b2n hot + 2 * b2n fail + 2 ^ 8 * unsigned 8 t) s

/-- The DIMM's temperature as last read. -/
def chanTemp (s : State) (c : Nat) : Int := signed 8 (fieldOf s (Reg.VAULT_CH_TEMP c) 7 0)

/-- A sensor read that failed (R371). -/
def sensorFailed (c : Nat) (s : State) : State :=
  let x := s.chanAt c
  let s := s |> (·.setChan c { x with sensorFails := x.sensorFails + 1 }) |> setField (Reg.VAULT_CH_TEMP c) 31 31 0
  if x.sensorFails = 1 then s |> cause (Reg.VAULT_CH_IRQ_CAUSE c) 5 |> noteTherm c (chanHot (s.chanAt c)) true (chanTemp s c) |> payHot c
  else s

/-- A sensor read that succeeded (R371, R372). -/
def sensorRead (c : Nat) (t : Int) (s : State) : State :=
  let x := s.chanAt c
  let hot := if 85 < t then true else if t ≤ 83 then false else x.hot
  let s := s |> (·.setChan c { x with sensorFails := 0, hot := hot })
    |> regStore (Reg.VAULT_CH_TEMP c) (BitVec.ofNat 32 (2 ^ 31 + unsigned 8 t))
  if hot = x.hot then s
  else
    let s := s |> cause (Reg.VAULT_CH_IRQ_CAUSE c) (if hot then 0 else 1) |> noteTherm c hot false t
    if hot then payHot c s else s

/-- DIMM_TEMP_READ (R371): every 1 ms, the readings of the DIMM's sensors, of which the highest is the channel's temperature; no
reading for a read that failed. -/
def dimmTemp (c : Nat) (temps : List Int) (s : State) : State :=
  let x := s.chanAt c
  if since s x.tempAt < us 1000 then s
  else
    let s := s.setChan c { x with tempAt := s.time.tick }
    match temps with
    | [] => sensorFailed c s
    | t :: ts => sensorRead c (ts.foldl max t) s

def execDimmTempRead (c : Fin 8) (temps : List Int) (s : State) : Host.Outcome State Fault Refusal := .next (dimmTemp c.val temps s)

/-! ### Self-refresh -/

def SrCause.code : SrCause → Nat
  | .quiet => 0 | .brownout => 1 | .failed => 2

/-- The Charter state FAILED holds: also while a load that began in it awaits its image, verifies it or has not reached INIT. -/
def failedHolds (s : State) : Bool :=
  s.loader.st == .failed ||
    (s.loader.prev == .failed && (s.loader.st == .waitPush || s.loader.st == .verify || s.loader.st == .load))

/-- The cause of R373 that is in force. -/
def srWanted (s : State) : Option SrCause :=
  if failedHolds s then some .failed
  else if s.treas.pstate = .quiet ∧ s.treas.trans = none then some .quiet
  else if s.treas.brown = .holdSr then some .brownout
  else none

/-- SELF_REFRESH record (Table 15.6). -/
def noteSr (c what : Nat) (s : State) : State := emit (srcVaultCh c) 0x62 (what + 2 ^ 2 * (s.chanAt c).srCause.code) s

/-- A channel in SERVICE begins self-refresh entry (R373): open merge entries close (R402), and all debt is paid. -/
def srBegin (why : SrCause) (c : Nat) (s : State) : State :=
  if (s.chanAt c).st ≠ .service then s
  else
    (s.chanAt c).merge.foldl (fun s e => closeMerge c e s) s
      |> (·.modChan c fun x => { x with st := .srEntry, srCause := why, debt := [] })

/-- Every channel begins entry under the cause in force. -/
def srBeginAll (s : State) : State :=
  match srWanted s with
  | some why => (List.range 8).foldl (fun s c => srBegin why c s) s
  | none => s

/-- The cause has ended: channels in self-refresh begin exit (R375). -/
def srEndAll (s : State) : State :=
  if (srWanted s).isSome then s
  else (List.range 8).foldl (fun s c => if (s.chanAt c).st = .selfRefresh then s.modChan c fun x => { x with st := .srExit } else s) s

/-- SR_ENTERED (R373): the write buffer has drained and entry commands have been issued to every rank; with the cause gone, exit
follows. -/
def srEntered (c : Nat) (s : State) : State :=
  if (s.chanAt c).st ≠ .srEntry ∨ (s.chanAt c).writes ≠ [] then s
  else s |> (·.modChan c fun x => { x with st := if (srWanted s).isSome then .selfRefresh else .srExit, debt := [] }) |> noteSr c 0

def execSrEntered (c : Fin 8) (s : State) : Host.Outcome State Fault Refusal := .next (srEntered c.val s)

/-- A request arrives at a channel in SR_ENTRY or SELF_REFRESH (R374); `issued` says whether an entry command has been issued
to any rank. -/
def srArrival (c : Nat) (issued : Bool) (s : State) : State :=
  let x := s.chanAt c
  match x.st with
  | .srEntry =>
    if issued then s.setChan c { x with st := .srExit, lastReq := s.time.tick }
    else s |> (·.setChan c { x with st := .service, lastReq := s.time.tick }) |> bump (Reg.VAULT_CH_SR_ABANDON_CNT c) |> noteSr c 2
  | .selfRefresh => s.setChan c { x with st := .srExit, lastReq := s.time.tick }
  | _ => s

/-- SR_REQUEST_ARRIVAL (R374): in HOLD_SR requests wait at their requesters (R425). -/
def execSrRequestArrival (c : Fin 8) (issued : Bool) (s : State) : Host.Outcome State Fault Refusal :=
  .next (if s.treas.brown = .holdSr then s else srArrival c.val issued s)

/-- SR_EXIT_DONE (R375): ZQ calibration is latched and DQS retrained. -/
def srExitDone (c : Nat) (s : State) : State :=
  if (s.chanAt c).st = .srExit then s |> (·.modChan c fun x => { x with st := .service, lastReq := s.time.tick }) |> noteSr c 1 else s

def execSrExitDone (c : Fin 8) (s : State) : Host.Outcome State Fault Refusal := .next (srExitDone c.val s)

/-- The records that the bytes from address a on touch, in order. -/
def recordsOf (a len : Nat) : List Nat := (List.range ((a + len + 127) / 128 - a / 128)).map (a / 128 + ·)

/-- A request of the host window waits for channel c. -/
def winWaits (s : State) (c : Nat) : Bool := s.vault.win.any fun q => (recordsOf q.addr q.len).any fun r => chanOf s.vault r == c

/-- SR_ENTRY_RETRY (R374): no request for 1 µs while the cause remains in force. -/
def srRetry (c : Nat) (s : State) : State :=
  match srWanted s with
  | some why => if us 1 ≤ since s (s.chanAt c).lastReq ∧ !winWaits s c then srBegin why c s else s
  | none => s

def execSrEntryRetry (c : Fin 8) (s : State) : Host.Outcome State Fault Refusal := .next (srRetry c.val s)

/-! ### Calibration and command parity -/

/-- A training failure of a rank (R376, R377): the step and rank are recorded. -/
def noteTrainFail (rank step : Nat) (s : State) : State :=
  s |> regStore (Reg.VAULT_CH_TRAIN (rank / 2)) (BitVec.ofNat 32 (step + 2 ^ 4 * rank)) |> cause Reg.VAULT_IRQ_CAUSE 0
    |> emit (srcVaultCh (rank / 2)) 0x60 (step + 2 ^ 4 * rank + 2 ^ 8)

/-- ZQ_CALIBRATION (R377): a rank in SERVICE, every 100 ms; a result out of range makes the rank a candidate. -/
def zqCalibration (rank : Nat) (zqOk dqsOk : Bool) (s : State) : State :=
  let c := rank / 2
  let x := s.chanAt c
  if x.st != .service || !rankWorked s rank || Decidable.decide (since s (Tbl.get x.zqAt (rank % 2) 0) < us 100000) then s
  else
    let s := s.setChan c { x with zqAt := Tbl.set x.zqAt (rank % 2) 0 s.time.tick }
    if zqOk && dqsOk then s
    else s |> (·.modChan c fun x => { x with retrainFailed := true }) |> noteTrainFail rank (if zqOk then 6 else 5) |> rankLasting rank 4

def execZqCalibration (rank : Fin 16) (zqOk dqsOk : Bool) (s : State) : Host.Outcome State Fault Refusal :=
  .next (zqCalibration rank.val zqOk dqsOk s)

/-- Sixteen free values, for a record whose content is unknown. -/
def freeRecord : Nat → Rec → State → Rec × State
  | 0, r, s => (r, s)
  | n + 1, r, s =>
    let (w, s) := takeFree s
    freeRecord n (withWord r n w) s

/-- CA_PARITY record (Table 15.6). -/
def noteCaParity (rank : Nat) (unlisted : Bool) (a : Nat) (s : State) : State :=
  emit (srcVaultCh (rank / 2)) 0x63 (rank + 2 ^ 4 + 2 ^ 5 * b2n unlisted + 2 ^ 8 * (a % 2 ^ 36)) s

/-- A write in the window of a lasting error (R378): what the rank's record then holds is unknown, and it joins the failed-write list;
when the list is full it is left unlisted. -/
def failedWrite (rank a : Nat) (s : State) : State :=
  let c := rank / 2
  let u := (decodeRecord s.vault a).2
  let full := 256 ≤ (s.chanAt c).fwl.length
  let fail := fun s : State =>
    let (r, s) := freeRecord 16 Rec.empty s
    let s := { s with vault := setCell s.vault rank u (.data r) }
    if full then s else s.modChan c fun x => { x with fwl := x.fwl ++ [cellKey rank u] }
  if (s.chanAt c).fwl.contains (cellKey rank u) then s
  else
    let s := match slotOf s.vault a with | some slot => occStep slot fail s | none => fail s
    if full then s |> cause (Reg.VAULT_CH_IRQ_CAUSE c) 3 |> noteCaParity rank true a else s

/-- What an outstanding read of a Teller answers when it completes as poisoned (R378): a load traps at its use (R175), a SWEEP has
result 4 (Table 7.9), and a GUARD finds a record that it may not move (R131). -/
def failedOp (t : Nat) (m : MemOp) (s : State) : State :=
  if m.msel = 0 then modMem t m.id (fun m => { m with poisoned := true }) s
  else if m.mop = 0xC then finishOp t m [4] false s
  else if freeNow s m.addr then finishOp t m [BitVec.allOnes 64] true s
  else finishOp t { m with dst := none } [] false s

/-- The operation reads the record. -/
def readsRecord (v : Vault) (a : Nat) (m : MemOp) : Bool :=
  !writesVault m && match opNeeds v m with | some (r, _) => r == a | none => false

/-- A read in the window completes as poisoned (R378): those of Tellers and the candidate reads that are outstanding. The host
window's accesses are served whole in their command or tick, so that none is outstanding. -/
def failedRead (a : Nat) (s : State) : State :=
  let s := s.tellers.foldl (fun s (t, x) => (x.mem.filter (readsRecord s.vault a)).foldl (fun s m => failedOp t m s) s) s
  match slotOf s.vault a with
  | some slot =>
    let b := slot / quarter s.vault
    (s.ledgerAt b).miss.foldl (fun s e =>
      match e.stage with
      | .reading second => if slot = (if second then (cands s e.hash).2 else (cands s e.hash).1) then candidateRead b e.id true s else s
      | _ => s) s
  | none => s

/-- CA_PARITY_ALERT (R378): the replay of the window succeeds or fails; `reads` and `writes` are the region-space records of the
window. A write concerns each copy of its record on the channel (R381). -/
def caParity (c rank : Nat) (ok : Bool) (reads writes : List Nat) (s : State) : State :=
  if !chanAwake (s.chanAt c) ∨ rank / 2 ≠ c ∨ !rankWorked s rank then s
  else if ok then bump (Reg.VAULT_CH_CAPAR_CNT c) s
  else
    let known := fun a => Decidable.decide (a < capacityRecords s.vault)
    let ws := writes.filter fun a => known a && (writeRanks s.vault a).any (· / 2 == c)
    let rs := reads.filter fun a => known a && chanOf s.vault a == c
    let s := s |> bump (Reg.VAULT_CH_CAPAR_LASTING_CNT c) |> cause (Reg.VAULT_CH_IRQ_CAUSE c) 2 |> noteCaParity rank false ((ws ++ rs).headD 0)
    let s := ws.foldl (fun s a => ((writeRanks s.vault a).filter (· / 2 == c)).foldl (fun s r => failedWrite r a s) s) s
    rs.foldl (fun s a => failedRead a s) s |> rankLasting rank 3

def execCaParityAlert (c : Fin 8) (rank : Fin 16) (retryOk : Bool) (reads writes : List Nat) (s : State) :
    Host.Outcome State Fault Refusal := .next (caParity c.val rank.val retryOk reads writes s)

/-! ### Rank sparing -/

/-- CE_WINDOW_END (R379): a fixed window of 60 s of network time has ended. -/
def ceWindowEnd (c : Nat) (s : State) : State :=
  let w := s.time.net / (60000000000 * 4294967296)
  let x := s.chanAt c
  if w = x.ceWindow then s else s.setChan c { x with ce := [], ceOver := [], ceWindow := w }

def execCeWindowEnd (c : Fin 8) (s : State) : Host.Outcome State Fault Refusal := .next (ceWindowEnd c.val s)

/-- A write of VAULT_SPARE_CTRL (R379). -/
def spareCtrlWrite (v : Word32) (s : State) : State :=
  let r := bits v.toNat 3 0
  let s := regStore Reg.VAULT_SPARE_CTRL (v &&& 0xF#32) s
  if v.getLsbD 31 && rankPresent s.vault r then candidate r 5 s else s

def execSpareStart (v : Word32) (s : State) : Host.Outcome State Fault Refusal :=
  .next (if v.getLsbD 31 then gated (spareCtrlWrite v) s else s)

/-- Migration is paused (R381). -/
def sparePaused (s : State) : Bool :=
  s.treas.brown != .normal || fieldOf s Reg.VAULT_SPARE_CFG 15 8 == 0 || (s.chanAt (s.vault.spareSrc / 2)).st != .service
    || (s.chanAt (s.vault.spare.getD 0 / 2)).st != .service

/-- The region-space record of the migrating rank's record u. -/
def srcRecord (s : State) (u : Nat) : Nat := (recordAt s.vault s.vault.spareSrc u).getD 0

/-- The cursor has passed the last record: the remap entry switches (R382). -/
def spareSwitch (s : State) : State :=
  let v := s.vault
  let s := { s with vault := { v with remap := Tbl.put v.remap ((positionOf v v.spareSrc).getD v.spareSrc) (v.spare.getD 0), spareSt := .done } }
  s |> cause Reg.VAULT_IRQ_CAUSE 2 |> stamp Reg.VAULT_SPARE_DONE_SEC Reg.VAULT_SPARE_DONE_NS |> emit 0x00E 0x64 (sparePayload s 3)

/-- The read of the record under the cursor (R381): its content as it goes to the spare, which is poison when it reads as poisoned,
when its read is uncorrectable after its retry, or when it stands on the failed-write list. -/
def migrationRead (found : AuditFound) (s : State) : VCell × State :=
  let u := s.vault.cursor
  let src := s.vault.spareSrc
  let a := srcRecord s u
  let s := s |> settleMerge a |> chanRead src u .granted
  if peekCell s src u = .poison then (.poison, bump Reg.AUDIT_POISON_READ_CNT s)
  else
    match found with
    | .clean => (cellAt s.vault src u, s)
    | .correctable devs => (cellAt s.vault src u, devs.foldl (fun s d => countFix src d s) s)
    | .transient w => (cellAt s.vault src u, noteTransient src a .migration w.toNat s)
    | .lasting w => (.poison, { s with vault := setCell s.vault src u .poison } |> noteLasting src a .migration w.toNat)

/-- The record under the cursor is copied (R381) and leaves the failed-write list (R378). -/
def migrateRecord (found : AuditFound) (s : State) : State :=
  let u := s.vault.cursor
  let src := s.vault.spareSrc
  let dst := s.vault.spare.getD 0
  let (cell, s) := migrationRead found s
  let s := s |> chanWrite dst u 0 .granted |> (·.modChan (src / 2) fun x => { x with fwl := x.fwl.filter (· ≠ cellKey src u) })
    |> (·.modChan (dst / 2) fun x => { x with fwl := x.fwl.filter (· ≠ cellKey dst u) })
  { s with vault := { setCell s.vault dst u cell with cursor := u + 1 } }

/-- A copy may be made now (R142, R381): in idle cycles of both channels, or under the allowance of user 8. -/
def migrationTurn (s : State) : Bool :=
  grantedTurn s (s.vault.spareSrc / 2) 8 && grantedTurn s (s.vault.spare.getD 0 / 2) 8

/-- MIGRATION_COPY (R381, R382). -/
def migrationCopy (found : AuditFound) (s : State) : State :=
  if s.vault.spareSt ≠ .migrating ∨ sparePaused s ∨ !migrationTurn s then s
  else
    let s := if s.vault.cursor < rankRecords s.vault then migrateRecord found s else s
    if rankRecords s.vault ≤ s.vault.cursor then spareSwitch s else s

def execMigrationCopy (found : AuditFound) (s : State) : Host.Outcome State Fault Refusal := .next (migrationCopy found s)

/-! ### The host window (Table 19.2) -/

/-- Region-space byte address of a BAR2 offset of the window (R383). -/
def windowAddr (s : State) (off : Nat) : Nat := pairOf s Reg.VAULT_WIN_BASE_LO / 0x2000000 * 0x2000000 + (off - 0x2000000)

/-- The window reaches an access (R383, R384): within the window, of 1 to 512 bytes. -/
def windowReaches (off len : Nat) : Bool := 0x2000000 ≤ off && off + len ≤ 0x4000000 && 0 < len && len ≤ 512

/-- Every byte lies in a region, within the data capacity, on a trained channel (R383). -/
def windowMapped (s : State) (a len : Nat) : Bool :=
  (recordsOf a len).all fun r =>
    Decidable.decide (r < capacityRecords s.vault) && (regionOf s.vault r).isSome &&
      !((s.chanAt (chanOf s.vault r)).st == .untrained || (s.chanAt (chanOf s.vault r)).st == .training ||
        (s.chanAt (chanOf s.vault r)).st == .failed)

/-- A piece may be served now (R142, R369, R374, R384): its channel is in SERVICE, nothing of a higher class waits there or 1 µs has
passed since the last piece, and a write has a place. -/
def pieceTurn (s : State) (write : Bool) (r : Nat) : Bool :=
  let c := chanOf s.vault r
  chanServes s r && (turnFree s c 5 || Decidable.decide (us 1 ≤ since s (s.chanAt c).winAt)) && (!write || roomFor s r)

/-- Every piece of an access may be served now. -/
def windowTurn (s : State) (q : WinReq) : Bool := (recordsOf q.addr q.len).all (pieceTurn s q.write.isSome)

/-- A piece is served on its channel. -/
def notePiece (r : Nat) (s : State) : State := s.modChan (chanOf s.vault r) fun x => { x with winAt := s.time.tick }

/-- A read piece (R386): its record's bytes, and whether it is poisoned. -/
def windowPiece (a : Nat) (r : Nat) (s : State) : Bytes × Bool × State :=
  let (cell, s) := readRecord r 0 .granted (notePiece r s)
  match cell with
  | .data x => (recBytes x, false, s)
  | .poison =>
    let at_ := max a (128 * r)
    let (x, s) := freeRecord 16 Rec.empty s
    (recBytes x, true, s |> bump Reg.VAULT_WIN_POISON_CNT |> setPair Reg.VAULT_WIN_ERR_ADDR_LO at_ |> cause Reg.VAULT_IRQ_CAUSE 7
      |> emit 0x00E 0x65 (2 ^ 8 * (at_ % 2 ^ 40)))

/-- A read is served (R384 to R386). -/
def windowRead (a len : Nat) (s : State) : State :=
  let (b, ep, s) := (recordsOf a len).foldl (fun (b, ep, s) r =>
    let (x, p, s) := windowPiece a r s
    (b ++ x, ep || p, s)) (([] : Bytes), false, s)
  let s := complete (slice b (a % 128) len) s
  if ep then { s with out := { s.out with ep := true } } else s

/-- A write piece (R384): a full-record write, or a partial write under its region's MODE. -/
def hostPiece (a : Nat) (data : Bytes) (be : List Bool) (r : Nat) (s : State) : State :=
  let at_ := fun i => if a ≤ 128 * r + i ∧ 128 * r + i < a + data.length ∧ be.getD (128 * r + i - a) true then
    some (data.getD (128 * r + i - a) 0) else none
  let bytes := (List.range 128).map at_
  let s := notePiece r s
  if bytes.all (·.isSome) then s |> countWrite r 0 .granted |> storeRecord r (.data (bytesRec (bytes.map (·.getD 0))))
  else if bytes.any (·.isSome) then partialWrite r 0 bytes true none s
  else s

/-- A write is served (R384 to R386): what falls in the flow-table region is discarded. -/
def windowWrite (a : Nat) (data : Bytes) (be : List Bool) (s : State) : State :=
  let inFt := fun r => match regionOf s.vault r with | some (i, _) => i == s.vault.ftRegion | none => false
  let rs := recordsOf a data.length
  let s := if rs.any inFt then
      s |> bump Reg.VAULT_WIN_REFUSED_CNT |> cause Reg.VAULT_IRQ_CAUSE 5 |> emit 0x00E 0x65 (3 + 2 ^ 8 * (a % 2 ^ 40))
    else s
  complete [] ((rs.filter (!inFt ·)).foldl (fun s r => hostPiece a data be r s) s)

/-- An access is served. -/
def windowAct (q : WinReq) (s : State) : State :=
  match q.write with
  | none => windowRead q.addr q.len s
  | some (data, be) => windowWrite q.addr data be s

/-- An access waits (R374, R384); it wakes the channels that it finds in self-refresh. At a channel in SR_ENTRY its arrival is the
command SR_REQUEST_ARRIVAL, which knows what has been issued (log entry 86). -/
def windowHold (q : WinReq) (s : State) : State :=
  let s := { s with vault := { s.vault with win := s.vault.win ++ [q] } }
  (recordsOf q.addr q.len).foldl (fun s r =>
    if (s.chanAt (chanOf s.vault r)).st = .selfRefresh then srArrival (chanOf s.vault r) true s else s) s

/-- An access of the window (R383, R384, R425): Unsupported Request, served at once, or held behind those that wait. -/
def windowAccess (off : Nat) (q : WinReq) (s : State) : State :=
  if !windowReaches off q.len || s.treas.brown == .holdSr || !windowMapped s q.addr q.len then unsupported s
  else if s.vault.win.isEmpty && windowTurn s q then windowAct q s
  else windowHold q s

def execVaultWindowRead (off len : Nat) (s : State) : Host.Outcome State Fault Refusal :=
  .next (windowAccess off ⟨windowAddr s off, len, none⟩ s)

def execVaultWindowWrite (off : Nat) (data : Bytes) (be : List Bool) (s : State) : Host.Outcome State Fault Refusal :=
  .next (windowAccess off ⟨windowAddr s off, data.length, some (data, be)⟩ s)

/-- The oldest access that waits is served at a tick, once its channels are free for it; one whose records are gone ends as an
Unsupported Request, as does one that HOLD_SR overtakes. -/
def windowTick (s : State) : State :=
  match s.vault.win with
  | [] => s
  | q :: rest =>
    let s' := { s with vault := { s.vault with win := rest } }
    if s.treas.brown = .holdSr ∨ !windowMapped s q.addr q.len then unsupported s'
    else if windowTurn s q then windowAct q s'
    else s

end Sys2Proof.Machine
end

