-- ==== Sys2Proof/Machine/Treasury.lean ====
section
/-!
DEFINITION. The Treasury of chapter 17: Pace (R12 to R14), power domains (R410 to R413), power states (R414), allowance requests
(R416), voltage scaling (R418, R419), temperature (R420 to R423), supplies and brownout (R424 to R427) and the SMBus commands of
Table 17.7.
-/
namespace Sys2Proof.Machine

/-! ### Reset -/

/-- What PORST_N, a rail monitor or a removed supply leaves (R424, R427, R496): every field at its reset value, but the fuses,
the pins, RESET_CAUSE, and what is the model's own: the waiting commands, the count of free values, the tick and the outputs. -/
def hardReset (s : State) : State :=
  let r : State := {
    pending := s.pending, free := s.free, fuses := s.fuses, pins := s.pins, out := s.out, time := { tick := s.time.tick } }
  regStore Reg.TREAS_RESET_CAUSE (regRead s Reg.TREAS_RESET_CAUSE) r

/-- Every domain but PD0 is reset with the effect of PORST_N (R414, R427): the registers of the TREAS block stay, but the Pace status
of a Branch whose domain is off reads 0 (R13, R14). -/
def coreReset (s : State) : State :=
  let kept := s.regs.filter fun (off, _) => 0x20000 ≤ off ∧ off < 0x30000 ∧ ¬(Reg.TREAS_PACE_STATUS 0 ≤ off ∧ off ≤ Reg.TREAS_PACE_STATUS 3)
  { hardReset s with
    regs := kept
    treas := { s.treas with
      doms := [(0, .on)], exist := 0, rampQueue := [], goals := [], ramping := none, pstate := .off, trans := none, quieted := [],
      stalled := false, users := [], waitQ := [], slewQ := [], goodSince := none, paceAt := [] } }

/-- A reason joins TREAS_RESET_CAUSE. -/
def resetCause (i : Nat) (s : State) : State := cause Reg.TREAS_RESET_CAUSE i s

/-! ### Pace -/

/-- The floor rates of R11: descriptors per second of a Branch pipeline, and microword steps per second of a Teller. -/
def floorDescs : Nat := 1250000000
def floorSteps : Nat := 1000000000

/-- (measured − floor) / floor × 10^6 in whole ppm, rounded down, so that a rate below its floor has a negative margin (R12). -/
def rateMargin (measured floor : Nat) : Int := Int.fdiv (((measured : Nat) - (floor : Nat) : Int) * 1000000) floor

/-- The Branch's margin (R11, R12): the smaller of those of its pipeline and of its Tellers (log entry 120). -/
def paceMargin (descs steps : Nat) : Int := min (rateMargin descs floorDescs) (rateMargin steps floorSteps)

/-- PACE_UPDATE (R12 to R14): the rates that the delay replicas of Branch b measure. -/
def paceUpdate (b descs steps : Nat) (s : State) : State :=
  if !domOn s (9 + b) || Decidable.decide (since s (Tbl.get s.treas.paceAt b 0) < us 1) then s
  else
    let ppm := paceMargin descs steps
    let was := belowFloor s b
    let p := max (-8388608) (min 8388607 ppm)
    let low := Decidable.decide (p < 0)
    let v := 2 ^ 31 * b2n low + 2 ^ 30 * b2n (Decidable.decide (p < 50000)) + 2 ^ 29 + unsigned 24 p
    let s := { s with treas := { s.treas with paceAt := Tbl.set s.treas.paceAt b 0 s.time.tick } }
      |> regStore (Reg.TREAS_PACE_STATUS b) (BitVec.ofNat 32 v)
    let s := if low then bump (Reg.TREAS_PACE_VIOL_CNT b) s else s
    let s := if low = was then s else emit 0x002 0x08 (b + 4 * b2n low + 8 * unsigned 24 p) s
    let s := if low && !was then cause Reg.TREAS_IRQ_CAUSE 1 s else s
    let valid := (List.range 4).filter fun i => flagOf s (Reg.TREAS_PACE_STATUS i) 29
    let good := valid ≠ [] && valid.all fun i => Decidable.decide (100000 ≤ signed 24 (fieldOf s (Reg.TREAS_PACE_STATUS i) 23 0))
    { s with treas := { s.treas with goodSince := if good then some (s.treas.goodSince.getD s.time.tick) else none } }

def execPaceUpdate (b : Fin 4) (descs steps : Nat) (s : State) : Host.Outcome State Fault Refusal :=
  .next (paceUpdate b.val descs steps s)

/-- The Pace status of a Branch whose domain is not ON reads 0 (R13); BELOW_FLOOR that falls with it has its record (R14). -/
def paceOff (b : Nat) (s : State) : State :=
  let s := if belowFloor s b then emit 0x002 0x08 b s else s
  regStore (Reg.TREAS_PACE_STATUS b) 0 s

/-! ### Power states -/

def PState.code : PState → Nat
  | .off => 0 | .full => 1 | .trimmed => 2 | .quiet => 3

/-- The power state changes (Table 17.8). -/
def setPstate (p : PState) (s : State) : State :=
  if s.treas.pstate = p then s
  else { s with treas := { s.treas with pstate := p } } |> emit 0x002 0x0B (p.code + 4 * b2n s.treas.trip)

/-- Every existing domain is ON. -/
def allOn (s : State) : Bool := (List.range 30).all fun d => !s.treas.exist.testBit d || domOn s d

/-- FULL or TRIMMED by the domains' states (Table 17.3); OFF and QUIET stay. -/
def settlePstate (s : State) : State :=
  if s.treas.pstate = .full ∨ s.treas.pstate = .trimmed then setPstate (if allOn s then .full else .trimmed) s else s

/-! ### Domains -/

def DomState.code : DomState → Nat
  | .off => 0 | .ramp => 1 | .on => 2 | .retention => 3

/-- A domain's state changes, with its record (R412). -/
def setDomain (d : Nat) (x : DomState) (s : State) : State :=
  if s.domAt d = x then s else s |> (·.setDom d x) |> emit 0x002 0x0A (d + 2 ^ 5 * x.code) |> settlePstate

/-- At power-up, node memory and the pattern table read 0, and no group is valid (R413). -/
def nosePowerUp (s : State) : State :=
  { s with automata := { s.automata with
    nodes := [], patterns := [], groups := s.automata.groups.map fun (g, x) => (g, { x with valid := false, quiesced := true }) } }

/-- The four engines are in one state; the automata return when the last of them does. -/
def noseAllOn (s : State) : Bool := [17, 18, 19, 20].all (domOn s ·)

/-- What a domain's return to ON brings (R412, R413): from OFF or from retention. -/
def domainUp (d : Nat) (kept : Bool) (s : State) : State :=
  let s := setDomain d .on s
  if 1 ≤ d ∧ d ≤ 8 then octetStart (d - 1) s
  else if 13 ≤ d ∧ d ≤ 16 then
    hostRelease (d - 13) (if kept then s else s.modLedger (d - 13) fun l => { l with ways := [], trees := [] })
  else if 17 ≤ d ∧ d ≤ 20 then (if noseAllOn s then nosePowerUp s else s)
  else if d = 26 then tethBringUp s
  else if d = 27 then (if kept then s else cofferClear s)
  else s

/-- A domain's preparations, and its supply removed or held (R412). -/
def domainDown (d : Nat) (x : DomState) (s : State) : State :=
  let s :=
    if 1 ≤ d ∧ d ≤ 8 then octetStop (d - 1) s
    else if 9 ≤ d ∧ d ≤ 12 then paceOff (d - 9) s
    else if 13 ≤ d ∧ d ≤ 16 then writeBackAll (d - 13) s
    else if 17 ≤ d ∧ d ≤ 20 then s |> noseOff (d - 17) |> returnAllowance (d - 17)
    else if d = 26 then tethOff s
    else s
  let s := setDomain d x s
  if x = .off ∧ d = 27 then cofferClear s
  else if x = .off ∧ 13 ≤ d ∧ d ≤ 16 then s.modLedger (d - 13) fun l => { l with ways := [], trees := [] }
  else s

/-- The states that software may request (Table 17.2). -/
def mayRequest (d st : Nat) : Bool :=
  if (1 ≤ d ∧ d ≤ 8) ∨ (17 ≤ d ∧ d ≤ 20) ∨ d = 26 then st == 0 || st == 2
  else d == 27 && (st == 0 || st == 2 || st == 3)

/-- The domains that a request acts on: any engine stands for all four (Table 17.10). -/
def requestedDomains (d : Nat) : List Nat := if 17 ≤ d ∧ d ≤ 20 then [17, 18, 19, 20] else [d]

/-- A load is in progress (R413). -/
def loadBusy (s : State) : Bool := !(s.loader.st == .run || s.loader.st == .empty || s.loader.st == .failed)

/-- An accepted request: ON joins the ramps in ascending order, another state waits for its preparations. -/
def acceptDomain (st : Nat) (ds : List Nat) (s : State) : State :=
  let goals := s.treas.goals.filter fun (d, _) => !ds.contains d
  if st = 2 then
    let new := ds.filter fun d => s.domAt d != .on && s.domAt d != .ramp && !s.treas.rampQueue.contains d
    { s with treas := { s.treas with goals := goals, rampQueue := s.treas.rampQueue ++ new } }
  else
    let x : DomState := if st = 3 then .retention else .off
    let new := (ds.filter fun d => s.domAt d != x).map (·, x)
    { s with treas := { s.treas with goals := goals ++ new, rampQueue := s.treas.rampQueue.filter (!ds.contains ·) } }

/-- A write of TREAS_DOMAIN_REQ (R411, R413). -/
def domainReqWrite (v : Word32) (s : State) : State :=
  let s := plainWrite Reg.TREAS_DOMAIN_REQ v s
  let d := bits v.toNat 4 0
  let st := bits v.toNat 9 8
  if !v.getLsbD 31 then s
  else if !running s || s.treas.pstate == .quiet || !s.treas.exist.testBit d || !mayRequest d st || (d == 27 && st != 2 && loadBusy s) then
    cause Reg.TREAS_IRQ_CAUSE 10 s
  else acceptDomain st (requestedDomains d) s

def execDomainRequest (v : Word32) (s : State) : Host.Outcome State Fault Refusal :=
  .next (if v.getLsbD 31 then domainReqWrite v s else s)

/-- The power-up allowance of the next ramp is granted and released (R412, R416). -/
def rampAllowed (s : State) (d : Nat) : Bool := domPowerUp d == 0 || allowanceHeld s 10

/-- DOMAIN_RAMP_START (R412, R425): one ramp at a time, in order, and none in a brownout hold. -/
def rampStart (d : Nat) (s : State) : State :=
  match s.treas.rampQueue, s.treas.ramping with
  | e :: rest, none =>
    if e ≠ d ∨ brownHold s ∨ !rampAllowed s d then s
    else
      let kept := s.domAt d == .retention
      { s with treas := { s.treas with rampQueue := rest, ramping := some (d, s.time.tick, kept) } } |> setDomain d .ramp
  | _, _ => s

def execDomainRampStart (d : Fin 30) (s : State) : Host.Outcome State Fault Refusal := .next (rampStart d.val s)

/-- QUIET exit completes when every domain has returned. -/
def quietLeft (s : State) : State :=
  match s.treas.trans with
  | some (false, _) =>
    if s.treas.rampQueue.isEmpty && s.treas.ramping.isNone then
      { s with treas := { s.treas with trans := none } } |> setPstate (if allOn s then .full else .trimmed)
    else s
  | _ => s

/-- A domain's ramp ends: it is ON and its allowance becomes reserve (R412, R416). -/
def rampEnd (d : Nat) (kept : Bool) (s : State) : State :=
  let s := if (s.userAt 10).st = .granted then
      s |> noteAllowance 10 1 (s.userAt 10).grant |> (·.setUser 10 {})
    else s
  { s with treas := { s.treas with ramping := none, slewQ := s.treas.slewQ.filter (·.1 ≠ 10) } } |> domainUp d kept |> quietLeft

/-- DOMAIN_RAMP_DONE (R412): TREAS_RAMP.US, at least 50 µs, have passed. -/
def rampDone (d : Nat) (s : State) : State :=
  match s.treas.ramping with
  | some (e, t, kept) => if e = d ∧ us (max 50 (fieldOf s Reg.TREAS_RAMP 15 0)) ≤ since s t then rampEnd d kept s else s
  | none => s

def execDomainRampDone (d : Fin 30) (s : State) : Host.Outcome State Fault Refusal := .next (rampDone d.val s)

/-- DOMAIN_POWER_DOWN (R412): the domain's preparations are done. -/
def powerDown (d : Nat) (s : State) : State :=
  match s.treas.goals.find? (·.1 = d) with
  | some (_, x) => { s with treas := { s.treas with goals := s.treas.goals.filter (·.1 ≠ d) } } |> domainDown d x
  | none => s

def execDomainPowerDown (d : Fin 30) (s : State) : Host.Outcome State Fault Refusal := .next (powerDown d.val s)

/-! ### Voltage -/

/-- VMAX_MV and VMIN_MV within their limits (R419, Table 17.10). -/
def vmax (s : State) : Nat := min 800 (max 680 (fieldOf s Reg.TREAS_AVS_CFG 23 12))
def vmin (s : State) : Nat := min (vmax s) (min 800 (max 680 (fieldOf s Reg.TREAS_AVS_CFG 11 0)))

/-- The regulator is given a new voltage (R419). -/
def setVout (mv : Nat) (s : State) : State :=
  if fieldOf s Reg.TREAS_AVS_STATUS 11 0 = mv then s
  else s |> setField Reg.TREAS_AVS_STATUS 11 0 mv |> bump Reg.TREAS_AVS_STEP_CNT
    |> emit 0x002 0x0D (mv + 2 ^ 12 * b2n (mv == vmax s || mv == vmin s)) |> (fun s =>
      { s with out := { s.out with pmbus := some (fieldOf s Reg.TREAS_VRM_CFG 6 0, mv, flagOf s Reg.TREAS_VRM_CFG 8) } })

/-- What the Pace status asks for (R419). -/
def avsStep (s : State) : State :=
  let v := fieldOf s Reg.TREAS_AVS_STATUS 11 0
  let step := max 1 (fieldOf s Reg.TREAS_AVS_CFG 29 24)
  if (List.range 4).any fun b => flagOf s (Reg.TREAS_PACE_STATUS b) 29 && flagOf s (Reg.TREAS_PACE_STATUS b) 30 then
    (if vmax s ≤ v then cause Reg.TREAS_IRQ_CAUSE 3 s else setVout (min (vmax s) (v + step)) s)
  else match s.treas.goodSince with
    | some t => if us 10000 ≤ since s t ∧ vmin s < v then setVout (max (vmin s) (v - step)) s else s
    | none => s

/-- AVS_UPDATE (R418, R419): every 100 µs; the current that READ_IOUT gives, or a transaction that has failed twice. -/
def avsUpdate (iout : Nat) (ok : Bool) (s : State) : State :=
  if s.treas.vrmFail ∨ !flagOf s Reg.TREAS_AVS_CFG 31 ∨ since s s.treas.avsAt < us 100 then s
  else
    let s := { s with treas := { s.treas with avsAt := s.time.tick, vrmFail := !ok } }
    if ok then s |> setField Reg.TREAS_AVS_STATUS 27 16 (capAt 4095 iout) |> avsStep else cause Reg.TREAS_IRQ_CAUSE 4 s

def execAvsUpdate (iout : Nat) (vrmOk : Bool) (s : State) : Host.Outcome State Fault Refusal := .next (avsUpdate iout vrmOk s)

/-- A write of TREAS_AVS_CFG (R418). -/
def avsCfgWrite (v : Word32) (s : State) : State :=
  let s := plainWrite Reg.TREAS_AVS_CFG v s
  if v.getLsbD 30 then { s with treas := { s.treas with vrmFail := false } } else s

def execAvsRestart (v : Word32) (s : State) : Host.Outcome State Fault Refusal := .next (if v.getLsbD 30 then avsCfgWrite v s else s)

/-! ### QUIET and OFF (R414) -/

/-- QUIET entry begins; `trip` says that the Treasury itself starts it (R422). -/
def quietEnter (trip : Bool) (s : State) : State :=
  if (s.treas.pstate = .full ∨ s.treas.pstate = .trimmed) ∧ s.loader.st = .run ∧ s.treas.trans = none ∧ (trip ∨ !brownHold s) then
    { s with treas := { s.treas with trans := some (true, s.time.tick), stalled := false } }
  else if trip then s
  else cause Reg.TREAS_IRQ_CAUSE 9 s

/-- TREAS_QUIET_TMO in ticks. -/
def quietTmo (s : State) : Nat := us (fieldOf s Reg.TREAS_QUIET_TMO 31 0)

/-- Step 3 has ended: every Teller is idle and every miss entry resolved. -/
def quietReady (s : State) : Bool :=
  s.tellers.all (fun (_, t) => t.st == .idle || t.st == .failed) && s.ledger.all fun (_, l) => l.miss.isEmpty

/-- Steps 4 to 7 of QUIET entry. -/
def quietSteps (s : State) : State :=
  let offs := ([1, 2, 3, 4, 5, 6, 7, 8, 26].filter fun d => s.domAt d != .off)
  let rets := ([13, 14, 15, 16, 27].filter fun d => s.domAt d == .on || s.domAt d == .ramp)
  let s := { s with treas := { s.treas with rampQueue := [], goals := [], ramping := none, quieted := rets ++ offs } }
  let s := offs.foldl (fun s d => domainDown d .off s) s
  let s := rets.foldl (fun s d => domainDown d .retention s) s
  let s := { s with treas := { s.treas with trans := none, stalled := false, vPreQuiet := fieldOf s Reg.TREAS_AVS_STATUS 11 0 } }
  s |> setPstate .quiet |> srBeginAll |> setVout (vmin s)

/-- QUIET_ENTRY_COMPLETE: queued copies have been sent for TREAS_QUIET_TMO.US and step 3 has ended; a domain ramp in progress
is awaited. -/
def quietComplete (s : State) : State :=
  match s.treas.trans with
  | some (true, t) => if quietTmo s ≤ since s t && s.treas.ramping.isNone && quietReady s then quietSteps s else s
  | _ => s

def execQuietEntryComplete (s : State) : Host.Outcome State Fault Refusal := .next (quietComplete s)

/-- QUIET_STALL: step 3 has lasted longer than TREAS_QUIET_TMO.US. -/
def quietStall (s : State) : State :=
  match s.treas.trans with
  | some (true, t) =>
    if 2 * quietTmo s < since s t ∧ s.treas.stalled = false then
      { s with treas := { s.treas with stalled := true } } |> cause Reg.TREAS_IRQ_CAUSE 8
    else s
  | _ => s

def execQuietStall (s : State) : Host.Outcome State Fault Refusal := .next (quietStall s)

/-- QUIET exit begins (R414, R422): the voltage returns, the Vault leaves self-refresh, and the domains that entry took down ramp,
slices and Coffer first. -/
def quietExit (s : State) : State :=
  let warm := s.treas.trip && Decidable.decide (4 * ((fieldOf s Reg.TREAS_THERM_CFG 7 0 : Nat) : Int) < deviceTemp s)
  if s.treas.pstate ≠ .quiet ∨ s.treas.trans ≠ none ∨ brownHold s ∨ warm then cause Reg.TREAS_IRQ_CAUSE 9 s
  else
    let s := setVout s.treas.vPreQuiet s
    { s with treas := { s.treas with
      trans := some (false, s.time.tick), trip := false, rampQueue := s.treas.quieted, quieted := [] } } |> srEndAll |> quietLeft

/-- Every domain but PD0 is removed until PORST_N (R414). -/
def powerOff (s : State) : State :=
  let s := coreReset s
  { s with treas := { s.treas with offHeld := true } }

/-- A power-state command (R414); a reserved TARGET acts as the reset value 1 (R9). -/
def pstateCommand (target : Nat) (s : State) : State :=
  if target = 0 then s |> resetCause 4 |> powerOff
  else if target = 3 then quietEnter false s
  else quietExit s

/-- A write of TREAS_PSTATE_CMD. -/
def pstateCmdWrite (v : Word32) (s : State) : State :=
  let s := plainWrite Reg.TREAS_PSTATE_CMD v s
  if v.getLsbD 31 then pstateCommand (bits v.toNat 1 0) s else s

def execQuietEnter (v : Word32) (s : State) : Host.Outcome State Fault Refusal :=
  .next (if v.getLsbD 31 ∧ bits v.toNat 1 0 = 3 then pstateCmdWrite v s else s)

def execQuietExit (v : Word32) (s : State) : Host.Outcome State Fault Refusal :=
  .next (if v.getLsbD 31 ∧ (bits v.toNat 1 0 = 1 ∨ bits v.toNat 1 0 = 2) then pstateCmdWrite v s else s)

def execPowerOffCmd (v : Word32) (s : State) : Host.Outcome State Fault Refusal :=
  .next (if v.getLsbD 31 ∧ bits v.toNat 1 0 = 0 then pstateCmdWrite v s else s)

/-! ### Allowance users (Table 17.4) -/

/-- Amount that a user requests. -/
def userAmount (s : State) (u : Nat) : Nat :=
  if u ≤ 3 then fieldOf s (Reg.NOSE_BURST_CFG 0) 7 0
  else if u = 10 then (match s.treas.rampQueue with | d :: _ => domPowerUp d | [] => 0)
  else fieldOf s (Reg.TREAS_USER u) 7 0

/-- The Auditor's Vault share is wanted (R403). -/
def auditShare (s : State) : Bool := flagOf s Reg.AUDIT_CTRL 0 && fieldOf s Reg.AUDIT_CTRL 15 8 != 0

/-- The user requests now (Table 17.4); the engines ask by themselves (R241). -/
def userWants (s : State) (u : Nat) : Bool :=
  if u ≤ 3 then
    flagOf s (Reg.NOSE_BURST_CFG 0) 8 && fieldOf s (Reg.NOSE_BURST_CFG 0) 7 0 != 0 &&
      Decidable.decide (1024 * fieldOf s (Reg.NOSE_BACKLOG_CFG 0) 31 16 ≤ backlog s u)
  else if u ≤ 7 then !(s.assayAt (u - 4)).recircQ.isEmpty && Decidable.decide (us 1 ≤ since s (s.assayAt (u - 4)).recircAt)
  else if u = 8 then s.vault.spareSt == .migrating && !sparePaused s
  else if u = 9 then auditShare s
  else !s.treas.rampQueue.isEmpty && s.treas.ramping.isNone && !brownHold s && userAmount s 10 != 0

def execAllowanceRequest (u : Fin 11) (s : State) : Host.Outcome State Fault Refusal :=
  .next (if userWants s u.val then requestAllowance u.val (userAmount s u.val) s else s)

/-- The user returns its allowance now (Table 17.4); PD10's becomes reserve at the end of its ramp. -/
def userEnds (s : State) (u : Nat) : Bool :=
  if u ≤ 3 then (match (s.noseAt u).zeroSince with | some t => backlog s u == 0 && Decidable.decide (us 10 ≤ since s t) | none => false)
  else if u ≤ 7 then (s.assayAt (u - 4)).recircQ.isEmpty && Decidable.decide (us 10 ≤ since s (s.assayAt (u - 4)).recircAt)
  else if u = 8 then !(s.vault.spareSt == .migrating && !sparePaused s)
  else if u = 9 then !auditShare s
  else s.treas.rampQueue.isEmpty && s.treas.ramping.isNone

def execAllowanceReturn (u : Fin 11) (s : State) : Host.Outcome State Fault Refusal :=
  .next (if userEnds s u.val then returnAllowance u.val s else s)

/-! ### Temperature -/

/-- The sensor that reads highest. -/
def hottest (s : State) : Nat :=
  ((List.range 16).find? fun k => match sensor s k with | some t => t == deviceTemp s | none => false).getD 0

/-- THERMAL record (Table 17.8): 0 WARN, 1 HOT, 2 TRIP, 3 cleared. -/
def noteThermal (what : Nat) (s : State) : State := emit 0x002 0x0E (hottest s + 2 ^ 4 * unsigned 12 (deviceTemp s) + 2 ^ 16 * what) s

/-- A level is crossed upward, or the temperature has fallen back to it (R421). -/
def crossLevel (was now : Bool) (bit_ what : Nat) (s : State) : State :=
  if now && !was then s |> cause Reg.TREAS_IRQ_CAUSE bit_ |> noteThermal what else if was && !now then noteThermal 3 s else s

/-- TRIP_C in 0.25 °C. -/
def tripLevel (s : State) : Int := 4 * ((min 125 (fieldOf s Reg.TREAS_THERM_CFG 15 8) : Nat) : Int)

/-- The event of a trip (R422). -/
def noteTrip (s : State) : State :=
  if s.treas.trip then s
  else { s with treas := { s.treas with trip := true } } |> cause Reg.TREAS_IRQ_CAUSE 7 |> resetCause 3 |> noteThermal 2

/-- The trip of R422: above TRIP_C QUIET entry, as soon as it may begin, and at TRIP_C + 10 °C OFF. A trip ends with the exit from QUIET, or
when the temperature falls back before entry began. -/
def thermalTrip (s : State) : State :=
  let t := deviceTemp s
  let s := if tripLevel s < t then s |> noteTrip |> quietEnter true
    else if s.treas.pstate = .quiet ∨ s.treas.trans ≠ none then s
    else { s with treas := { s.treas with trip := false } }
  if tripLevel s + 40 ≤ t then powerOff s else s

/-- Throttle, budget and trip after a reading of the sensors (R242, R422, R423). -/
def thermalActions (s : State) : State :=
  let t := deviceTemp s
  let warn := Decidable.decide (4 * ((fieldOf s Reg.TREAS_THERM_CFG 7 0 : Nat) : Int) < t)
  let hot := Decidable.decide (420 < t)
  let s := s |> crossLevel s.treas.warned warn 5 0 |> crossLevel s.treas.hot hot 6 1
  let s := { s with treas := { s.treas with warned := warn, hot := hot } }
  (List.range 4).foldl (fun s b => noseThrottle b s) s |> revokeToFit 11 |> thermalTrip

/-- TEMP_SAMPLE (R420): the sixteen sensors in 0.25 °C, every 100 µs; one not listed has not completed. -/
def tempSample (temps : List Int) (s : State) : State :=
  if since s s.treas.tempAt < us 100 ∨ s.treas.offHeld then s
  else
    let s := { s with treas := { s.treas with tempAt := s.time.tick } }
    thermalActions ((List.range 16).foldl (fun s k =>
      match temps[k]? with
      | some t => regStore (Reg.TREAS_TEMP k) (BitVec.ofNat 32 (2 ^ 31 + unsigned 16 t)) s
      | none => s) s)

def execTempSample (temps : List Int) (s : State) : Host.Outcome State Fault Refusal := .next (tempSample temps s)

/-! ### Brownout -/

def Brown.code : Brown → Nat
  | .normal => 0 | .hold => 1 | .holdSr => 2 | .recover => 3

/-- A change of state counts and is reported (R426). -/
def setBrown (x : Brown) (s : State) : State :=
  { s with treas := { s.treas with brown := x } } |> bump Reg.TREAS_BROWN_CNT
    |> emit 0x002 0x0C (x.code + 4 * b2n s.pins.pwrwarnLow + 8 * fieldOf s Reg.TREAS_BROWN_STATUS 14 3)

/-- WARN_MV within its limits (R424). -/
def warnMv (s : State) : Nat := min 700 (max 600 (fieldOf s Reg.TREAS_BROWN_CFG 11 0))

/-- A warning (R425, R499): from NORMAL or RECOVER the hold is entered, but not while PORST_N is low; in QUIET only STATE changes. -/
def brownWarn (s : State) : State :=
  if s.pins.porstLow ∨ s.treas.brown = .hold ∨ s.treas.brown = .holdSr then s
  else
    let s := s |> setBrown .hold |> cause Reg.TREAS_IRQ_CAUSE 2
    if s.treas.pstate = .quiet then s
    else (List.range 4).foldl (fun s b => noseStop b s) (revokeAll 12 s) |> brownoutFlush

/-- PWRWARN_ASSERT (R425): PWRWARN_N has fallen. -/
def pwrwarn (s : State) : State :=
  { s with
    pins := { s.pins with pwrwarnLow := true }
    treas := { s.treas with warnSince := some (s.treas.warnSince.getD s.time.tick) } } |> brownWarn

/-- The device leaves reset while PWRWARN_N is low: the warning stands (R425). -/
def warnStands (s : State) : State := if s.pins.pwrwarnLow then pwrwarn s else s

def execPwrwarnAssert (s : State) : Host.Outcome State Fault Refusal := .next (pwrwarn s)

/-- VDD_CORE as last measured. -/
def measured (mv : Nat) (s : State) : State := setField Reg.TREAS_BROWN_STATUS 14 3 (capAt 4095 mv) s

/-- VDD_CORE_WARN (R424, R425): VDD_CORE has been below the warning level for 50 ns. -/
def vddWarn (mv : Nat) (s : State) : State :=
  let s := measured mv s
  if mv < warnMv s then { s with treas := { s.treas with coreLow := true } } |> brownWarn else s

def execVddCoreWarn (mv : Nat) (s : State) : Host.Outcome State Fault Refusal := .next (vddWarn mv s)

/-- BROWNOUT_SR (R425): PWRWARN_N has been low for SR_MS; the Vault's channels enter self-refresh (R373). -/
def brownSr (s : State) : State :=
  match s.treas.brown, s.treas.warnSince with
  | .hold, some t =>
    if us (1000 * max 1 (fieldOf s Reg.TREAS_BROWN_CFG 31 24)) ≤ since s t then s |> setBrown .holdSr |> srBeginAll else s
  | _, _ => s

def execBrownoutSr (s : State) : Host.Outcome State Fault Refusal := .next (brownSr s)

/-- BROWNOUT_RECOVER (R425): VDD_CORE is above the warning level + 20 mV and PWRWARN_N high. -/
def brownRecover (mv : Nat) (s : State) : State :=
  if (s.treas.brown = .hold ∨ s.treas.brown = .holdSr) ∧ warnMv s + 20 < mv then
    let s := measured mv s
    { s with pins := { s.pins with pwrwarnLow := false },
             treas := { s.treas with warnSince := none, coreLow := false, recoverSince := some s.time.tick } }
      |> setBrown .recover |> srEndAll
  else s

def execBrownoutRecover (mv : Nat) (s : State) : Host.Outcome State Fault Refusal := .next (brownRecover mv s)

/-- BROWNOUT_NORMAL (R243, R425): both conditions have held for RECOVER_US. -/
def brownNormal (s : State) : State :=
  match s.treas.brown, s.treas.recoverSince with
  | .recover, some t =>
    if us (fieldOf s Reg.TREAS_BROWN_CFG 23 12) ≤ since s t then
      (List.range 4).foldl (fun s b => noseResume b s)
        (setBrown .normal { s with treas := { s.treas with recoverSince := none } })
    else s
  | _, _ => s

def execBrownoutNormal (s : State) : Host.Outcome State Fault Refusal := .next (brownNormal s)

/-- VDD_CORE_RESET (R427): VDD_CORE is below 580 mV, and resets every domain but PD0. -/
def vddReset (mv : Nat) (s : State) : State :=
  let s := measured mv s
  if mv < 580 then
    let s := coreReset (resetCause 1 s)
    { s with pins := { s.pins with railHold := if s.pins.railHold.contains 0 then s.pins.railHold else s.pins.railHold ++ [0] } }
      |> emit 0x002 0x0F 4
  else s

def execVddCoreReset (mv : Nat) (s : State) : Host.Outcome State Fault Refusal := .next (vddReset mv s)

/-- RAIL_MONITOR_RESET (R424): a monitored rail other than VDD_CORE is out of range and holds the device in reset. The loss
of VDD_AON loses RESET_CAUSE. -/
def railReset (rail : Nat) (s : State) : State :=
  if rail = 0 then s
  else
    let s := hardReset (if rail = 2 then regStore Reg.TREAS_RESET_CAUSE 0 s else s)
    { s with pins := { s.pins with railHold := if s.pins.railHold.contains rail then s.pins.railHold else s.pins.railHold ++ [rail] } }
      |> resetCause 2 |> emit 0x002 0x0F (rail + 4)

def execRailMonitorReset (rail : Fin 4) (s : State) : Host.Outcome State Fault Refusal := .next (railReset rail.val s)

/-! ### SMBus (R428) -/

/-- PEC of SMBus: CRC-8 with polynomial x^8 + x^2 + x + 1 (PRESUMED: SMBus 3.1). -/
def crc8 (b : Bytes) : Byte :=
  b.foldl (fun c x => (List.range 8).foldl (fun (c : Byte) _ => if c.getLsbD 7 then (c <<< 1) ^^^ 0x07#8 else c <<< 1) (c ^^^ x)) 0

/-- The device answers on the SMBus: PD0 is not held in reset. -/
def smbAlive (s : State) : Bool := !s.pins.porstLow && !s.pins.railHold.any (· != 0)

/-- The target address with the direction bit (R428). -/
def smbAddress (s : State) (read : Bool) : Byte := BitVec.ofNat 8 (2 * (0x58 + s.pins.smbAddr) + b2n read)

/-- A read command returns bytes, with their PEC when it is asked for. -/
def smbAnswer (cmd : Nat) (data : Bytes) (pec : Bool) (s : State) : State :=
  if !smbAlive s then { s with out := { s.out with smbAck := false, smb := [] } }
  else
    let all := [smbAddress s false, BitVec.ofNat 8 cmd, smbAddress s true] ++ data
    { s with out := { s.out with smbAck := true, smb := data ++ (if pec then [crc8 all] else []) } }

/-- TREAS_STATE (Table 17.10): BUSY, STEP and PSTATE. -/
def treasState (s : State) : Nat :=
  let step := match s.treas.trans with
    | some (true, t) => if since s t < quietTmo s then 2 else 3
    | some (false, _) =>
      if (s.treas.rampQueue ++ (match s.treas.ramping with | some (d, _) => [d] | none => [])).any fun d => 13 ≤ d && d ≤ 16 || d == 27
      then 5 else 4
    | none => 0
  2 ^ 15 * b2n s.treas.trans.isSome + 2 ^ 8 * step + s.treas.pstate.code

/-- TREAS_BROWN_STATUS. -/
def brownStatus (s : State) : Nat :=
  2 ^ 15 * b2n s.pins.pwrwarnLow + 8 * fieldOf s Reg.TREAS_BROWN_STATUS 14 3 + s.treas.brown.code

def execSmbTemps (pec : Bool) (s : State) : Host.Outcome State Fault Refusal :=
  .next (smbAnswer 1 (32#8 :: (List.range 16).flatMap fun k => leBytes 2 (fieldOf s (Reg.TREAS_TEMP k) 15 0)) pec s)

def execSmbState (pec : Bool) (s : State) : Host.Outcome State Fault Refusal := .next (smbAnswer 2 (leBytes 2 (treasState s)) pec s)

def execSmbBrown (pec : Bool) (s : State) : Host.Outcome State Fault Refusal := .next (smbAnswer 3 (leBytes 2 (brownStatus s)) pec s)

def execSmbIout (pec : Bool) (s : State) : Host.Outcome State Fault Refusal :=
  .next (smbAnswer 4 (leBytes 2 (fieldOf s Reg.TREAS_AVS_STATUS 27 16)) pec s)

/-- SMB_PSTATE (R428): taken only when PSTATE_EN is 1; `pec` says that no PEC came or that it was right. -/
def smbPstate (val : Byte) (pec : Bool) (s : State) : State :=
  let ok := smbAlive s && pec
  let s := { s with out := { s.out with smbAck := ok, smb := [] } }
  if ok && flagOf s Reg.TREAS_SMB_CFG 0 then pstateCommand (bits val.toNat 1 0) s else s

def execSmbPstate (val : Byte) (pec : Bool) (s : State) : Host.Outcome State Fault Refusal := .next (smbPstate val pec s)

end Sys2Proof.Machine
end

