-- ==== Sys2Proof/Machine/Sections.lean ====
section
/-!
DEFINITION. The Charter image: the header, directory and trailer checks in the order of R39 (R19 to R25), the layout of each
section (R26, R27 and the rule of its chapter), and what each section writes (R23, Table 2.4).
-/
namespace Sys2Proof.Machine

/-! ### Load error codes (Table 2.12) -/

def BAD_MAGIC : Nat := 0x01
def BAD_FORMAT : Nat := 0x02
def BAD_LENGTH : Nat := 0x03
def WRONG_PART : Nat := 0x04
def SVN_LOW : Nat := 0x05
def NO_KEY : Nat := 0x06
def RSA_FAIL : Nat := 0x07
def SLH_FAIL : Nat := 0x08
def BAD_DIRECTORY : Nat := 0x09
def BAD_DIGEST : Nat := 0x0A
def BAD_GEOMETRY : Nat := 0x0B
def MISSING : Nat := 0x0C
def BAD_GAP : Nat := 0x0D
def PUSH_ORDER : Nat := 0x0E
def FLASH_READ : Nat := 0x0F
def BAD_REG_INIT : Nat := 0x10
def ABORTED : Nat := 0x11
def VAULT_TRAIN : Nat := 0x12

/-! ### Section types (Table 2.4) -/

def POWER_DOMAINS : Nat := 0x0001
def PORT_MAP : Nat := 0x0002
def LANE_EQ : Nat := 0x0003
def TETHER_CFG : Nat := 0x0004
def ASSAY_TEMPLATES : Nat := 0x0010
def SIEVE_SPLIT : Nat := 0x0020
def TILL_POLICY : Nat := 0x0030
def VAULT_REGION_MAP : Nat := 0x0040
def DESK_CSTORE : Nat := 0x0050
def NOSE_AUTOMATA : Nat := 0x0060
def TM_QUEUES : Nat := 0x0070
def MINT_POOLS : Nat := 0x0080
def REG_INIT : Nat := 0x00A0
def BUILD_INFO : Nat := 0x00F0

/-- Types that every image holds, DESK_CSTORE apart; TETHER_CFG and NOSE_AUTOMATA depend on the domains. -/
def mandatoryTypes : List Nat :=
  [POWER_DOMAINS, PORT_MAP, ASSAY_TEMPLATES, SIEVE_SPLIT, TILL_POLICY, VAULT_REGION_MAP, TM_QUEUES, MINT_POOLS]

/-- Types of Table 2.4 that appear at most once, with INSTANCE 0xFF. -/
def singleTypes : List Nat := mandatoryTypes ++ [LANE_EQ, TETHER_CFG, NOSE_AUTOMATA, REG_INIT, BUILD_INFO]

/-! ### The manifest and the trailer -/

/-- Bytes lo to hi − 1 are all 0. -/
def zeros (b : Bytes) (lo hi : Nat) : Bool := allZero ((b.drop lo).take (hi - lo))

/-- 48 bytes as a digest: byte i in bits [8i+7 : 8i]. -/
def asDigest (b : Bytes) : BitVec 384 := BitVec.ofNat 384 (leNat (b.take 48))

/-- TRAILER_OFF. -/
def trailerOff (m : Bytes) : Nat := leAt m 0x1C 4

/-- The directory of a manifest (Table 2.3). -/
def directory (m : Bytes) : List DirEntry :=
  let n := leAt m 0x0C 2
  if 1 ≤ n ∧ n ≤ 252 then
    (List.range n).map fun i =>
      let e := 0x100 + 64 * i
      { type := leAt m e 2, instnc := byteAt m (e + 2), offset := leAt m (e + 4) 4, length := leAt m (e + 8) 4,
        digest := asDigest (m.drop (e + 16)) }
  else []

/-- Entry i of the directory, after the entries before it, keeps its rules (R21, R22). -/
def entryPlaced (m : Bytes) (before : List DirEntry) (i : Nat) (e : DirEntry) : Bool :=
  let at_ := 0x100 + 64 * i
  let prevEnd := match before.getLast? with | some d => d.offset + d.length | none => 0
  let others := before.filter (·.type == e.type)
  byteAt m (at_ + 3) == 0 && leAt m (at_ + 12) 4 == 0 && e.offset % 0x1000 == 0 && 0x4000 ≤ e.offset && 1 ≤ e.length &&
    prevEnd ≤ e.offset && ((e.offset == 0x4000) == (e.type == POWER_DOMAINS)) &&
    (if e.type = DESK_CSTORE then
      (e.instnc ≤ 15 && others.all (fun d => d.instnc != e.instnc && d.instnc != 0xFF)) || (e.instnc == 0xFF && others.isEmpty)
    else others.isEmpty && (!singleTypes.contains e.type || e.instnc == 0xFF))

/-- The first entry that breaks R21 or R22. -/
def firstMisplaced (m : Bytes) : List DirEntry → List DirEntry → Option Nat
  | _, [] => none
  | before, e :: rest => if entryPlaced m before before.length e then firstMisplaced m (before ++ [e]) rest else some before.length

/-- Some section of the type is in the directory. -/
def hasType (dir : List DirEntry) (t : Nat) : Bool := dir.any (·.type == t)

/-- The error of the first test that fails, with its section. -/
def firstError : List (Bool × Nat × Nat) → Option (Nat × Nat)
  | [] => none
  | (ok, code, sect) :: rest => if ok then firstError rest else some (code, sect)

/-- Steps 1 to 6 of R39 on a manifest of 16 KiB. Within step 5 the zero bytes come before the entries, with SECTION 0xFF, and within step 6
an unknown type, with its index, before an absent one: R39 orders the steps and not the conditions within one, and does not say which
SECTION is given (DESIGN CHOICE, log entry 121). -/
def manifestError (m : Bytes) : Option (Nat × Nat) :=
  let dir := directory m
  let end_ := dir.foldl (fun n e => max n (e.offset + e.length)) 0
  let bad := firstMisplaced m [] dir
  let desks := (dir.filter (·.type == DESK_CSTORE)).map (·.instnc)
  let unknown := dir.findIdx fun e => !(e.type == DESK_CSTORE || singleTypes.contains e.type)
  firstError [
    (leAt m 0 4 == 0x52544843, BAD_MAGIC, 0xFF),
    (leAt m 4 2 == 1 && leAt m 6 2 == 0x100 && leAt m 0x0E 2 / 2 == 0 && zeros m 0x15 0x18 && zeros m 0x44 0x100, BAD_FORMAT, 0xFF),
    (leAt m 0x10 4 == 0x3240 && byteAt m 0x14 ≤ 0x10, WRONG_PART, 0xFF),
    (leAt m 8 4 == trailerOff m + 0x42B0 && leAt m 8 4 ≤ 0x4000000 && trailerOff m % 0x1000 == 0 && end_ ≤ trailerOff m,
      BAD_LENGTH, 0xFF),
    (!dir.isEmpty && zeros m (0x100 + 64 * dir.length) 0x4000, BAD_DIRECTORY, 0xFF),
    (bad.isNone, BAD_DIRECTORY, bad.getD 0xFF),
    (unknown == dir.length, MISSING, unknown),
    (mandatoryTypes.all (hasType dir ·) && (desks.contains 0xFF || (List.range 16).all desks.contains), MISSING, 0xFF)]

/-- Step 7 of R39 on a trailer (R24). -/
def trailerError (t : Bytes) : Option (Nat × Nat) :=
  firstError [
    (leAt t 0 4 == 0x47534843, BAD_MAGIC, 0xFF),
    (leAt t 4 2 == 1 && zeros t 7 0x10 && zeros t 0x194 0x1A0, BAD_FORMAT, 0xFF)]

/-! ### Section layouts -/

/-- POWER_DOMAINS (R27). -/
def powerOk (b : Bytes) : Bool :=
  let n := leAt b 0 4
  b.length == 16 && zeros b 4 16 && ([0, 9, 10, 11, 12, 13, 14, 15, 16, 21, 22, 23, 24, 25, 28, 29].all n.testBit) &&
    n < 2 ^ 30 && (bits n 20 17 == 0 || bits n 20 17 == 15)

/-- FEC codes that a mode allows (Table 13.1). -/
def fecAllowed (speed fec : Nat) : Bool :=
  match speed with
  | 1 => fec == 0
  | 2 => fec ≤ 1
  | 3 | 4 | 5 | 6 => fec == 2
  | _ => false

/-- The first n fields of a lane order are a permutation of 0 to n − 1, and the others are 0. -/
def orderOk (v n : Nat) : Bool :=
  let fs := (List.range 8).map fun i => bits v (4 * i + 3) (4 * i)
  (List.range n).all (fs.take n).contains && (fs.drop n).all (· == 0)

def portEntry (b : Bytes) (p : Nat) : PortCfg :=
  let e := 0x200 + 64 * p
  { speed := byteAt b e, fec := byteAt b (e + 1), txOrder := leAt b (e + 4) 4, rxOrder := leAt b (e + 8) 4 }

/-- Port P p of PORT_MAP keeps Tables 2.6, 13.1 and 13.2 and lies on an octet that exists (R27, R305). -/
def portOk (b : Bytes) (exist p : Nat) : Bool :=
  let x := portEntry b p
  let e := 0x200 + 64 * p
  let n := modeLanes x.speed
  zeros b (e + 2) (e + 4) && zeros b (e + 12) (e + 64) &&
    (x.speed == 0 || (fecAllowed x.speed x.fec && p % n == 0 && orderOk x.txOrder n && orderOk x.rxOrder n &&
      exist.testBit (1 + p / 8) && (List.range n).all fun i => i == 0 || (portEntry b (p + i)).speed == 0))

/-- PORT_MAP (R305). -/
def portMapOk (b : Bytes) (exist : Nat) : Bool :=
  b.length == 0x1200 && ((List.range 64).all fun n => byteAt b (8 * n) < 4 && zeros b (8 * n + 1) (8 * n + 8)) &&
    (List.range 64).all (portOk b exist)

/-- LANE_EQ (R306): the limits bind every entry. -/
def laneEqOk (b : Bytes) : Bool :=
  b.length == 0x240 && (List.range 72).all fun n =>
    let pre := signed 8 (byteAt b (8 * n))
    let main := byteAt b (8 * n + 1)
    let post := signed 8 (byteAt b (8 * n + 2))
    byteAt b (8 * n + 3) < 2 && zeros b (8 * n + 4) (8 * n + 8) &&
      Decidable.decide (-16 ≤ pre ∧ pre ≤ 0 ∧ -24 ≤ post ∧ post ≤ 0) && 16 ≤ main && main ≤ 63 &&
      Decidable.decide ((main : Int) - pre - post ≤ 63)

/-- TETHER_CFG (R317). -/
def tetherOk (b : Bytes) : Bool :=
  b.length == 0x100 && byteAt b 0 ≤ 1 && [0xFF, 0x0F, 0x03, 0x01].contains (byteAt b 1) && 1 ≤ byteAt b 2 && byteAt b 2 ≤ 100 &&
    byteAt b 3 ≤ 1 && zeros b 4 0x18 && zeros b 0x50 0x100 &&
    (List.range 8).all fun c => byteAt b (0x10 + 8 * c) < 8 && zeros b (0x11 + 8 * c) (0x12 + 8 * c) && zeros b (0x14 + 8 * c) (0x18 + 8 * c)

/-- Every path from a next pointer ends within n more probes. -/
def pathsEnd (b : Bytes) : Nat → Nat → Bool
  | 0, p => p.testBit 11
  | n + 1, p => p.testBit 11 || (pathsEnd b n (leAt b (0x1000 + 16 * p + 10) 2 % 4096) && pathsEnd b n (leAt b (0x1000 + 16 * p + 12) 2 % 4096))

/-- ASSAY_TEMPLATES (R47, R67). -/
def assayOk (b : Bytes) : Bool :=
  let n := leAt b 8 2
  let points := fun p => p.testBit 11 || Decidable.decide (p < n)
  b.length == 0x30000 && 1 ≤ n && n ≤ 2048 && zeros b 0xA 0x1000 && zeros b (0x1000 + 16 * n) 0x10000 &&
    ((List.range 4).all fun r => points (leAt b (2 * r) 2 % 4096)) &&
    ((List.range n).all fun i => points (leAt b (0x1000 + 16 * i + 10) 2 % 4096) && points (leAt b (0x1000 + 16 * i + 12) 2 % 4096)) &&
    ((List.range 4).all fun r => pathsEnd b 16 (leAt b (2 * r) 2 % 4096)) &&
    (List.range 256).all fun t => byteAt b (0x10000 + 512 * t) ≤ 8 && byteAt b (0x10001 + 512 * t) ≤ 32 && byteAt b (0x10002 + 512 * t) ≤ 4

/-- SIEVE_SPLIT (R69). -/
def splitOk (b : Bytes) : Bool :=
  b.length == 0x20 && zeros b 4 0x20 && byteAt b 0 ≤ 16 && byteAt b 1 ≤ 16 && byteAt b 2 ≤ 8 && byteAt b 3 ≤ 8 &&
    byteAt b 0 + byteAt b 1 + byteAt b 2 + byteAt b 3 ≤ 24

/-- TILL_POLICY (R105). -/
def tillOk (b : Bytes) : Bool := b.length == 0x40 && byteAt b 0 ≤ 1 && byteAt b 1 ≤ 12 && zeros b 2 0x40

/-- What a VAULT_REGION_MAP section says, with no record yet in the Vault (Tables 15.1 and 15.2). -/
def regionMap (b : Bytes) : Vault :=
  let opt := fun n => if n = 0xFF then none else some n
  { speed := byteAt b 0, ranks := byteAt b 1, gib := byteAt b 2, spare := opt (byteAt b 3), retired := opt (byteAt b 4),
    ftRegion := byteAt b 6, ftLog2 := byteAt b 7, seed := BitVec.ofNat 64 (leAt b 8 8),
    regions := (List.range (byteAt b 5)).map fun i =>
      { base := leAt b (0x40 + 16 * i) 2, size := leAt b (0x42 + 16 * i) 2, merge := byteAt b (0x44 + 16 * i) == 1 } }

/-- Regions in ascending order, apart from each other. -/
def regionsApart : List Region → Bool
  | [] => true
  | [_] => true
  | a :: b :: rest => Decidable.decide (a.base + a.size ≤ b.base) && regionsApart (b :: rest)

/-- VAULT_REGION_MAP (R364, R365). -/
def vaultOk (b : Bytes) : Bool :=
  let v := regionMap b
  let n := byteAt b 5
  let unit := 2 ^ 20
  let ft := v.regions.getD v.ftRegion {}
  b.length == 0x400 && v.speed ≤ 2 && (v.ranks == 1 || v.ranks == 2) && (v.gib == 32 || v.gib == 64) &&
    (byteAt b 3 ≤ 15 && v.ranks == 2 || byteAt b 3 == 0xFF) &&
    (byteAt b 4 ≤ 15 && v.spare.isSome && v.retired != v.spare || byteAt b 4 == 0xFF) &&
    1 ≤ n && n ≤ 16 && v.ftRegion < n && 20 ≤ v.ftLog2 && v.ftLog2 ≤ 30 && zeros b 0x10 0x40 && zeros b (0x40 + 16 * n) 0x400 &&
    ((List.range n).all fun i => 1 ≤ leAt b (0x42 + 16 * i) 2 && byteAt b (0x44 + 16 * i) ≤ 1 && zeros b (0x45 + 16 * i) (0x50 + 16 * i)) &&
    regionsApart v.regions && (v.regions.all fun r => Decidable.decide ((r.base + r.size) * unit ≤ capacityRecords v)) &&
    !ft.merge && ft.size == 2 ^ (v.ftLog2 - 20) && Decidable.decide ((ft.base + ft.size) * unit ≤ zone0Records v)

/-- Entry g of the group directory of NOSE_AUTOMATA. -/
def noseEntry (b : Bytes) (g : Nat) : NoseGroup :=
  let e := 0x100 + 16 * g
  { base := leAt b e 4, limit := leAt b (e + 4) 4, start := leAt b (e + 8) 4, patFirst := leAt b (e + 12) 2,
    patCount := leAt b (e + 14) 2 }

/-- Two groups share no unit and no pattern. -/
def groupsApart (x y : NoseGroup) : Bool :=
  Decidable.decide ((x.limit ≤ y.base ∨ y.limit ≤ x.base) ∧
    (x.patFirst + x.patCount ≤ y.patFirst ∨ y.patFirst + y.patCount ≤ x.patFirst ∨ x.patCount = 0 ∨ y.patCount = 0))

/-- NOSE_AUTOMATA (R228). -/
def automataOk (b : Bytes) : Bool :=
  let n := leAt b 0 2
  let k := leAt b 2 2
  let len := leAt b 4 4
  1 ≤ n && n ≤ 64 && 1 ≤ k && k ≤ 8192 && len % 8 == 0 && len ≤ 0x5F0000 && b.length == 0x11000 + len && zeros b 8 0x100 &&
    zeros b (0x100 + 16 * n) 0x1000 && zeros b (0x1000 + 8 * k) 0x11000 &&
    (List.range n).all fun g =>
      let x := noseEntry b g
      Decidable.decide (x.base < x.limit ∧ x.limit ≤ 778240 ∧ x.base ≤ x.start ∧ x.start < x.limit ∧ x.patFirst + x.patCount ≤ k) &&
        (List.range g).all fun h => groupsApart x (noseEntry b h)

/-- TM_QUEUES (R276), its conditions against PORT_MAP apart. -/
def tmOk (b : Bytes) (exist : Nat) : Bool :=
  let t := exist.testBit 26
  b.length == 0x800 && byteAt b 0 == (if t then 8 else 0) && (t || byteAt b 1 == 0) && zeros b 2 0x40 && zeros b 0x440 0x800 &&
    (List.range 64).all fun p =>
      let e := 0x40 + 16 * p
      let c := byteAt b e
      (c == 0 || c == 4 || c == 8) && byteAt b (e + 1) < 2 ^ c && zeros b (e + 2) (e + 16)

/-- MINT_POOLS (R254), its conditions against PORT_MAP and TM_QUEUES apart. -/
def mintOk (b : Bytes) : Bool :=
  b.length == 0x100 && 1024 ≤ leAt b 0 4 && leAt b 4 4 ≤ 16384 && ((List.range 8).all fun q => leAt b (8 + 2 * q) 2 ≤ 1024) &&
    zeros b 0x18 0x40 && zeros b 0xC0 0x100

/-- A section keeps the limits of Table 2.6 and the layout of its chapter. REG_INIT is judged in INIT (R28). -/
def sectionOk (t : Nat) (b : Bytes) (exist : Nat) : Bool :=
  if t = POWER_DOMAINS then powerOk b
  else if t = PORT_MAP then portMapOk b exist
  else if t = LANE_EQ then laneEqOk b
  else if t = TETHER_CFG then tetherOk b
  else if t = ASSAY_TEMPLATES then assayOk b
  else if t = SIEVE_SPLIT then splitOk b
  else if t = TILL_POLICY then tillOk b
  else if t = VAULT_REGION_MAP then vaultOk b
  else if t = DESK_CSTORE then b.length == 327680
  else if t = NOSE_AUTOMATA then automataOk b
  else if t = TM_QUEUES then tmOk b exist
  else if t = MINT_POOLS then mintOk b
  else true

/-! ### Conditions between sections -/

/-- Cells that MINT_POOLS assigns (Table 11.1). -/
def assignedCells (s : State) : Nat :=
  s.swc.globalSize + s.swc.expressSize + ((List.range 64).map fun p =>
    if portExists s p then
      Tbl.get s.swc.portShared p 0 + ((List.range (classCount s p)).map fun q => Tbl.get s.swc.rsvMin q 0).foldl (· + ·) 0
    else 0).foldl (· + ·) 0

/-- TM_QUEUES gives classes to the ports of PORT_MAP and to no other. -/
def classesMatch (s : State) : Bool := (List.range 64).all fun p => portExists s p == (classCount s p != 0)

/-- MINT_POOLS gives shared pools to ports of PORT_MAP alone, and assigns no more than the buffer holds. -/
def sharedMatch (s : State) : Bool := (List.range 64).all fun p => portExists s p || Tbl.get s.swc.portShared p 0 == 0
def cellsFit (s : State) : Bool := Decidable.decide (assignedCells s ≤ 262144)

/-- Directory index of a type's section; 0xFF for none. -/
def sectOf (s : State) (t : Nat) : Nat :=
  let i := s.loader.dir.findIdx (·.type == t)
  if i < s.loader.dir.length then i else 0xFF

/-- The section of a type has been taken in this load. -/
def sectTaken (s : State) (t : Nat) : Bool := let i := sectOf s t; i ≠ 0xFF && i ≤ s.loader.sectIdx

/-- The first condition between the sections taken so far that fails, with the section that breaks it (R23, R39). -/
def crossError (s : State) : Option (Nat × Nat) :=
  let has := fun t => sectTaken s t
  let ports := has PORT_MAP
  firstError [
    (!s.treas.exist.testBit 26 || hasType s.loader.dir TETHER_CFG, MISSING, 0xFF),
    (!s.treas.exist.testBit 17 || hasType s.loader.dir NOSE_AUTOMATA, MISSING, 0xFF),
    (!(ports && has TM_QUEUES) || classesMatch s, BAD_GEOMETRY, sectOf s TM_QUEUES),
    (!(ports && has MINT_POOLS) || sharedMatch s, BAD_GEOMETRY, sectOf s MINT_POOLS),
    (!(ports && has MINT_POOLS && has TM_QUEUES) || cellsFit s, BAD_GEOMETRY, sectOf s MINT_POOLS)]

/-! ### What a section writes -/

/-- POWER_DOMAINS: the domains that exist; those not ON ramp in ascending order (R29, R410). -/
def loadPower (b : Bytes) (s : State) : State :=
  let n := leAt b 0 4
  { s with treas := { s.treas with exist := n } } |> acceptDomain 2 ((List.range 30).filter n.testBit) |> settlePstate

/-- The links of a port stop for the load (R311). -/
def keepLinks (s : State) : Bool := flagOf s Reg.TOP_CHARTER_CTRL 8

/-- PORT_MAP: a port whose entry or lane polarity changes does not keep its link (R35, R311). -/
def loadPorts (b : Bytes) (s : State) : State :=
  let inv := fun n => byteAt b (8 * n)
  let same := fun p => portEntry b p == s.portCfgAt p &&
    (List.range (modeLanes (portEntry b p).speed)).all fun i => inv (p + i) == Tbl.get s.laneInv (p + i) 0
  let s := (List.range 64).foldl (fun s p => if same p then s else portStop p s) s
  { s with
    portCfg := (List.range 64).foldl (fun t p => Tbl.set t p {} (portEntry b p)) []
    laneInv := (List.range 64).foldl (fun t n => Tbl.set t n 0 (inv n)) [] }

/-- Taps as LANE_TAPS shows them: PRE, MAIN and POST. -/
def tapsOf (pre : Int) (main : Nat) (post : Int) : Nat := unsigned 8 pre + 2 ^ 8 * main + 2 ^ 16 * unsigned 8 post

/-- Default taps of a port mode, and of the Tether under mode 7 (Table 13.3). -/
def defaultTaps (mode : Nat) : Nat :=
  match mode with
  | 0 => 0
  | 1 => tapsOf 0 56 (-7)
  | 2 => tapsOf (-2) 54 (-7)
  | 7 => tapsOf (-3) 52 (-8)
  | _ => tapsOf (-4) 51 (-8)

/-- The port whose lane it is. -/
def portOfLane (s : State) (n : Nat) : Option Nat :=
  (List.range 8).findSome? fun i => if i ≤ n ∧ i < modeLanes (s.portCfgAt (n - i)).speed then some (n - i) else none

/-- Mode of lane n for its default taps: its port's SPEED, 0 for no port; Tether lanes are 64 to 71. -/
def laneMode (s : State) (n : Nat) : Nat :=
  if 64 ≤ n then 7 else match portOfLane s n with | some p => (s.portCfgAt p).speed | none => 0

/-- Taps of lane n under a LANE_EQ section, if the image has one. -/
def newTaps (s : State) (eq : Option Bytes) (n : Nat) : Nat :=
  match eq with
  | some b => if byteAt b (8 * n + 3) = 1 then leAt b (8 * n) 3 else defaultTaps (laneMode s n)
  | none => defaultTaps (laneMode s n)

/-- A port whose taps change does not keep its link, nor does the Tether (R306, R311). -/
def stopTaps (eq : Option Bytes) (s : State) : State :=
  let changed := (List.range 72).filter fun n => newTaps s eq n ≠ Tbl.get s.laneTaps n 0
  let s := (changed.filterMap fun n => if n < 64 then portOfLane s n else none).foldl (fun s p => portStop p s) s
  if changed.any (64 ≤ ·) ∧ s.teth.up then tethBringUp s else s

/-- The loader has taken every section that decides the taps: links that they end stop now (R311, log entry 97). -/
def settleTaps (s : State) : State :=
  let taken := fun t => s.loader.dir.zipIdx.all fun (e, i) => e.type != t || i ≤ s.loader.sectIdx
  if taken PORT_MAP && taken LANE_EQ then stopTaps s.loader.laneEq s else s

/-- The taps of the new Charter take effect (R306). -/
def loadTaps (eq : Option Bytes) (s : State) : State :=
  { stopTaps eq s with laneTaps := (List.range 72).foldl (fun t n => Tbl.set t n 0 (newTaps s eq n)) [] }

/-- TETHER_CFG: a change makes the pair ALONE and brings the link up anew (R323, Table 13.7). -/
def loadTether (b : Bytes) (s : State) : State :=
  let x := s.teth
  let classes := (List.range 8).foldl (fun t c => Tbl.set t c (0, 0) (byteAt b (0x10 + 8 * c), leAt b (0x12 + 8 * c) 2)) []
  let y := { x with side := byteAt b 0, lanesFitted := byteAt b 1, trainMs := byteAt b 2, ssc := byteAt b 3 == 1, mirrorClass := classes }
  if y = x then s
  else
    let s := setPairState .alone { s with teth := y }
    if x.up then tethBringUp s else s

/-- NOSE_AUTOMATA goes into all four engines (R228); each GEN is kept (R249). -/
def loadAutomata (b : Bytes) (s : State) : State :=
  let words := fun off n => (List.range n).foldl (fun t i => Tbl.set t i 0 (BitVec.ofNat 64 (leAt b (off + 8 * i) 8))) ([] : Tbl Word64)
  { s with automata := {
    nodes := words 0x11000 (leAt b 4 4 / 8)
    patterns := words 0x1000 8192
    groupCount := leAt b 0 2
    patternCount := leAt b 2 2
    groups := (List.range 64).foldl (fun t g =>
      Tbl.set t g {} { noseEntry b g with gen := (groupAt s g).gen }) [] } }

/-- DESK_CSTORE: word i is bytes 20i to 20i + 19 (R153); instance 0xFF means every Desk. -/
def loadStore (inst : Nat) (b : Bytes) (s : State) : State :=
  let store := (List.range 16384).foldl (fun t i => Tbl.set t i 0 (BitVec.ofNat 160 (leNat ((b.drop (20 * i)).take 20)))) ([] : Tbl MicroWord)
  ((List.range 16).filter fun d => inst = 0xFF || d == inst).foldl (fun s d => s.setDesk d { store := store }) s

/-- TM_QUEUES: the classes of each port and of the Tether, under key 64 (R276). -/
def loadQueues (b : Bytes) (s : State) : State :=
  let col := fun k => (List.range 64).foldl (fun t p => Tbl.set t p 0 (byteAt b (0x40 + 16 * p + k))) ([] : Tbl Nat)
  { s with tm := { s.tm with nclass := Tbl.set (col 0) 64 0 (byteAt b 0), express := Tbl.set (col 1) 64 0 (byteAt b 1) } }

/-- MINT_POOLS (R254). -/
def loadMint (b : Bytes) (s : State) : State :=
  let col := fun off n => (List.range n).foldl (fun t i => Tbl.set t i 0 (leAt b (off + 2 * i) 2)) ([] : Tbl Nat)
  { s with swc := { s.swc with
    globalSize := leAt b 0 4, expressSize := leAt b 4 4, rsvMin := col 8 8, portShared := col 0x40 64 } }

/-- VAULT_REGION_MAP: the fields of the section; what the channels hold is settled in INIT (R36). -/
def loadRegions (b : Bytes) (s : State) : State :=
  let v := regionMap b
  { s with vault := { s.vault with
    speed := v.speed, ranks := v.ranks, gib := v.gib, spare := v.spare, retired := v.retired, regions := v.regions,
    ftRegion := v.ftRegion, ftLog2 := v.ftLog2, seed := v.seed } }

/-- A section that has passed its checks is written to its target. LANE_EQ and REG_INIT are kept for INIT. -/
def writeSection (e : DirEntry) (b : Bytes) (s : State) : State :=
  if e.type = POWER_DOMAINS then loadPower b s
  else if e.type = PORT_MAP then s |> loadPorts b |> settleTaps
  else if e.type = LANE_EQ then settleTaps { s with loader := { s.loader with laneEq := some b } }
  else if e.type = TETHER_CFG then loadTether b s
  else if e.type = ASSAY_TEMPLATES then { s with templates := b }
  else if e.type = SIEVE_SPLIT then
    { s with sieve := { s.sieve with
      ternGran := byteAt b 0, exactGran := byteAt b 1, lpm4Gran := byteAt b 2, lpm6Gran := byteAt b 3 } }
  else if e.type = TILL_POLICY then
    (List.range 4).foldl (fun s i => regStore (Reg.TILL_CFG i) (BitVec.ofNat 32 (byteAt b 1 + 2 ^ 8 * byteAt b 0)) s) s
  else if e.type = VAULT_REGION_MAP then
    { loadRegions b s with loader := { s.loader with regionDigestNew := some e.digest } }
  else if e.type = DESK_CSTORE then loadStore e.instnc b s
  else if e.type = NOSE_AUTOMATA then loadAutomata b s
  else if e.type = TM_QUEUES then loadQueues b s
  else if e.type = MINT_POOLS then loadMint b s
  else if e.type = REG_INIT then { s with loader := { s.loader with regInit := b, regInitIdx := s.loader.sectIdx } }
  else s

end Sys2Proof.Machine
end

