-- ==== Sys2Proof/Machine/Security.lean ====
section
/-!
DEFINITION. The security engine: fuses and lifecycle (R431 to R434), the mailbox and its operations (R442 to R447), the debug port
(R448) and the sideband mailbox (R449).
-/
namespace Sys2Proof.Machine

/-! ### Fuses and lifecycle -/

/-- The lifecycle state that the fuse groups read (R431). -/
def Fuses.lifecycle (f : Fuses) : Lifecycle :=
  if f.grp2 then .returned else if !f.grp0 then .blank else if f.grp1 then .locked else .owned

def Lifecycle.code : Lifecycle → Nat
  | .blank => 0 | .owned => 1 | .locked => 2 | .returned => 3

def slotProgrammed (f : Fuses) (i : Nat) : Bool := Tbl.get f.programmed i false
def slotRevoked (f : Fuses) (i : Nat) : Bool := Tbl.get f.revoked i false
def slotHash (f : Fuses) (i : Nat) : BitVec 384 := Tbl.get f.slotHash i 0

/-- A programmed slot that is not revoked. -/
def slotUsable (f : Fuses) (i : Nat) : Bool := slotProgrammed f i && !slotRevoked f i

/-- The four bits of a property of the slots. -/
def slotBits (p : Nat → Bool) : Nat := ((List.range 4).map fun i => 2 ^ i * b2n (p i)).foldl (· + ·) 0

/-- SEC_FUSE_CFG. -/
def fuseCfg (f : Fuses) : Nat :=
  f.lifecycle.code + 2 ^ 2 * slotBits (slotProgrammed f) + 2 ^ 6 * slotBits (slotRevoked f) + 2 ^ 10 * f.svnFloor
    + 2 ^ 18 * b2n (!f.idBlob.isEmpty) + 2 ^ 19 * b2n f.idDestroyed

/-- 48 bytes of a digest. -/
def digestBytes (d : BitVec 384) : Bytes := leBytes 48 d.toNat

/-- The owner fuse array without ID_BLOB, in the order of Table 18.1; each fuse of a field that is read by majority stands as the
field reads (log entry 99). -/
def fuseBytes (f : Fuses) : Bytes :=
  let m := fun (b : Bool) => if b then 0xFF#8 else 0x00#8
  [m f.grp0, m f.grp1, m f.grp2] ++ (List.range 4).flatMap (fun i => digestBytes (slotHash f i)) ++
    (List.range 4).map (fun i => m (slotProgrammed f i)) ++ (List.range 4).map (fun i => m (slotRevoked f i)) ++
    leBytes 16 (2 ^ f.svnFloor - 1) ++ [m f.idDestroyed]

/-- The identity is unavailable: its record and cause (R434). -/
def identityBad (s : State) : State :=
  { s with sec := { s.sec with idBad := true, idPub := [] } } |> cause Reg.SEC_IRQ_CAUSE 5 |> emit 0x001 0x77 1

/-- The debug port opens (R448). -/
def debugOpens (s : State) : State :=
  if s.sec.debugOpen then s
  else { s with sec := { s.sec with debugOpen := true } } |> cause Reg.SEC_IRQ_CAUSE 4 |> emit 0x001 0x75 1

/-- The lifecycle state has changed from `old` (R433): its record and cause, the debug port, and Charter lock at once on entry to
Locked with a Charter in RUN. -/
def lifecycleChanged (old : Lifecycle) (s : State) : State :=
  let new := s.fuses.lifecycle
  if new = old then s
  else
    let s := s |> cause Reg.SEC_IRQ_CAUSE 3 |> emit 0x001 0x74 (old.code + 4 * new.code)
    match new with
    | .locked =>
      { s with sec := { s.sec with debugOpen := false },
               loader := { s.loader with locked := s.loader.locked || running s } }
    | .returned => debugOpens s
    | _ => s

/-- Fuse fields in the order of Table 18.1. -/
def fieldLifecycle : Nat := 0
def fieldSlot : Nat := 1
def fieldRevoked : Nat := 2
def fieldSvn : Nat := 3
def fieldIdDestroyed : Nat := 5

/-- One programming of a field, with its record and cause; of one that fails a read it is not known whether the field reads its
old or its new value (R432). The Bool says that both reads were good. -/
def program (field : Nat) (ok : Bool) (f : Fuses → Fuses) (s : State) : State :=
  let old := s.fuses.lifecycle
  let (w, s) := if ok then (1#64, s) else takeFree s
  let s := if w.getLsbD 0 then { s with fuses := f s.fuses } else s
  let s := if ok then s else cause Reg.SEC_IRQ_CAUSE 6 s
  s |> emit 0x001 0x76 (b2n (!ok) + 2 * field) |> lifecycleChanged old

/-- The Treasury holds brownout or QUIET, and fuses may not be programmed (R432). -/
def fusePower (s : State) : Bool := brownHold s || quieting s

/-! ### Channels -/

/-- Mailbox results (Table 18.9). -/
def RES_OK : Nat := 0x0
def RES_BAD_OP : Nat := 0x1
def RES_BAD_LENGTH : Nat := 0x2
def RES_BAD_FORMAT : Nat := 0x3
def RES_WRONG_DEVICE : Nat := 0x4
def RES_BAD_CHALLENGE : Nat := 0x5
def RES_NO_KEY : Nat := 0x6
def RES_RSA_FAIL : Nat := 0x7
def RES_SLH_FAIL : Nat := 0x8
def RES_WRONG_STATE : Nat := 0x9
def RES_BAD_ARG : Nat := 0xA
def RES_FUSE_FAIL : Nat := 0xB
def RES_POWER : Nat := 0xC
def RES_NO_IDENTITY : Nat := 0xD
def RES_ABORTED : Nat := 0xE

/-- The host channel (false) or the sideband channel (true). -/
def mboxAt (s : State) (side : Bool) : MboxChan := if side then s.sec.side else s.sec.host
def setMbox (side : Bool) (c : MboxChan) (s : State) : State :=
  { s with sec := if side then { s.sec with side := c } else { s.sec with host := c } }

/-- The channel's operation waits for the other channel or for VERIFY (R439). -/
def mboxQueued (s : State) (side : Bool) : Bool := s.sec.queue.contains side

/-- BUSY or QUEUED. -/
def mboxHeld (s : State) (side : Bool) : Bool := (mboxAt s side).busy || mboxQueued s side

/-- The engine is free for another operation. -/
def engineFree (s : State) : Bool := !s.sec.host.busy && !s.sec.side.busy && s.loader.st != .verify

/-- A GO write (R442): ignored while BUSY or QUEUED. -/
def mboxGo (side : Bool) (op : Nat) (s : State) : State :=
  if mboxHeld s side then s
  else if engineFree s ∧ s.sec.queue = [] then
    setMbox side { mboxAt s side with op := op, busy := true, done := none, signer := 15, fusing := false, discard := false } s
  else
    let s := setMbox side { mboxAt s side with op := op } s
    { s with sec := { s.sec with queue := s.sec.queue ++ [side] } }

/-- MBOX_QUEUED_START: the engine has become free and VERIFY has ended (R439). -/
def mboxStart (side : Bool) (s : State) : State :=
  match s.sec.queue with
  | x :: rest =>
    if x = side ∧ engineFree s then
      let s := { s with sec := { s.sec with queue := rest } }
      setMbox side { mboxAt s side with busy := true, done := none, signer := 15, fusing := false, discard := false } s
    else s
  | [] => s

def execMboxQueuedStart (side : Bool) (s : State) : Host.Outcome State Fault Refusal := .next (mboxStart side s)

/-- SEC_MBOX_BUF as bytes. -/
def hostBuf (s : State) (n : Nat) : Bytes := (List.range ((n + 3) / 4)).flatMap (fun i => leBytes 4 (regRead s (Reg.SEC_MBOX_BUF i)).toNat) |>.take n

/-- Input of the operation in hand. -/
def mboxInput (s : State) (side : Bool) (n : Nat) : Bytes := if side then slice s.sec.sideBuf 0 n else hostBuf s n

/-- Output overwrites the channel's buffer from offset 0. -/
def mboxOutput (side : Bool) (b : Bytes) (s : State) : State :=
  if side then { s with sec := { s.sec with sideBuf := b ++ s.sec.sideBuf.drop b.length } }
  else (List.range (b.length / 4)).foldl (fun s i => regStore (Reg.SEC_MBOX_BUF i) (BitVec.ofNat 32 (leAt b (4 * i) 4)) s) s

/-- The operation's work has ended with a result and an output. -/
def mboxResult (side : Bool) (res : Nat) (out : Bytes) (s : State) : State :=
  setMbox side { mboxAt s side with done := some (res, out) } s

/-- Operation `op` runs on the channel and its work is not done. -/
def mboxRuns (s : State) (side : Bool) (op : Nat) : Bool :=
  let c := mboxAt s side
  c.busy && c.op == op && c.done.isNone

/-- SEC_MBOX_LEN is the operation's input size; the sideband channel has no length. -/
def lenIs (s : State) (side : Bool) (n : Nat) : Bool := side || fieldOf s Reg.SEC_MBOX_LEN 14 0 == n

/-! ### Operations -/

/-- Free bytes, 8 for each free value. -/
def freeBytes : Nat → State → Bytes × State
  | 0, s => ([], s)
  | n + 1, s =>
    let (w, s) := takeFree s
    let (b, s) := freeBytes n s
    (leBytes 8 w.toNat ++ b, s)

/-- The identity public-key block; where the identity is unavailable the spec does not say what stands for it (log entry 100). -/
def identityBlock (s : State) : Bytes × State := if s.sec.idPub.isEmpty then freeBytes 56 s else (slice s.sec.idPub 0 448, s)

/-- GET_IDENTITY's output (Table 18.5). -/
def identityOut (s : State) (block : Bytes) : Bytes :=
  leBytes 8 s.fuses.deviceId.toNat ++ List.replicate 8 0 ++ block ++ digestBytes (Config.sha384 block)

/-- MBOX_GET_IDENTITY. -/
def getIdentity (side : Bool) (s : State) : State :=
  if !mboxRuns s side 1 then s
  else if !lenIs s side 0 then mboxResult side RES_BAD_LENGTH [] s
  else
    let (block, s) := identityBlock s
    mboxResult side RES_OK (identityOut s block) s

def execMboxGetIdentity (side : Bool) (s : State) : Host.Outcome State Fault Refusal := .next (getIdentity side s)

/-- MBOX_GET_CHALLENGE (R443): on the host channel alone. -/
def getChallenge (side : Bool) (s : State) : State :=
  if !mboxRuns s side 2 then s
  else if side then mboxResult side RES_BAD_OP [] s
  else if !lenIs s side 0 then mboxResult side RES_BAD_LENGTH [] s
  else
    let c := leBytes 32 (Config.random s.free).toNat
    mboxResult side RES_OK c { s with free := s.free + 1, sec := { s.sec with challenge := some c } }

def execMboxGetChallenge (side : Bool) (s : State) : Host.Outcome State Fault Refusal := .next (getChallenge side s)

/-- The slot of the Charter in RUN; 0xFF where none runs or it is a factory image. -/
def attestSlot (s : State) : Nat := if !running s ∨ s.sec.active = 15 then 0xFF else s.sec.active

/-- TOP_CHARTER_STATUS.STATE. -/
def LoadState.code : LoadState → Nat
  | .empty => 0 | .verify => 1 | .drain => 2 | .load => 3 | .init => 4 | .run => 5 | .failed => 6 | .waitPush => 7

/-- The report body (Table 18.6). -/
def attestBody (side : Bool) (nonce : Bytes) (s : State) : Bytes :=
  leBytes 4 0x54535441 ++ leBytes 2 1 ++ leBytes 2 0x41E0 ++ leBytes 8 s.fuses.deviceId.toNat ++
    [BitVec.ofNat 8 s.fuses.lifecycle.code, 0x10#8, BitVec.ofNat 8 (attestSlot s), BitVec.ofNat 8 (b2n side)] ++
    leBytes 4 (fuseCfg s.fuses) ++ leBytes 4 s.loader.runSvn ++
    [BitVec.ofNat 8 s.loader.st.code, BitVec.ofNat 8 (b2n s.loader.locked + 2 * b2n s.sec.debugOpen + 4 * b2n s.sec.factory), 0#8, 0#8] ++
    digestBytes Config.romDigest ++ digestBytes s.loader.runDigest ++ digestBytes (Config.sha384 (fuseBytes s.fuses)) ++
    slice nonce 0 32 ++ leBytes 8 (netSec s.time.net) ++ leBytes 4 (netNs s.time.net) ++ leBytes 2 (netFrac s.time.net) ++ [0#8, 0#8] ++
    slice s.loader.runId 0 32

/-- MBOX_ATTEST (R445): the report and its two signatures over the digest of its body. -/
def attest (side : Bool) (s : State) : State :=
  if !mboxRuns s side 3 then s
  else if !lenIs s side 32 then mboxResult side RES_BAD_LENGTH [] s
  else if s.sec.idBad then mboxResult side RES_NO_IDENTITY [] s
  else
    let body := attestBody side (mboxInput s side 32) s
    let msg := digestBytes (Config.sha384 body)
    let sig := fun k n => slice (Config.sign k s.fuses.deviceId msg) 0 n
    mboxResult side RES_OK (body ++ sig 0 384 ++ sig 1 16224) s

def execMboxAttest (side : Bool) (s : State) : Host.Outcome State Fault Refusal := .next (attest side s)

/-- The slot whose hash a public-key block has, the hinted one first (R25). -/
def findSlot (f : Fuses) (hint : Nat) (h : BitVec 384) : Option Nat :=
  ((if hint < 4 then [hint] else []) ++ [0, 1, 2, 3]).find? fun i => slotUsable f i && slotHash f i == h

/-- Size of a signed command (Table 18.7). -/
def commandSize : Nat := 0x4320

/-- The result of a signed command before its code and arguments are judged, and the slot that signed it (R446). -/
def commandCheck (s : State) (c : Bytes) : Nat × Nat :=
  let block := slice c 0x80 448
  let msg := digestBytes (Config.sha384 (c.take 0x80))
  let ch := slice c 0x10 32
  if leAt c 0 4 ≠ 0x444D434F ∨ leAt c 4 2 ≠ 1 ∨ zeros c 0x70 0x80 = false then (RES_BAD_FORMAT, 15)
  else if leAt c 8 8 ≠ s.fuses.deviceId.toNat then (RES_WRONG_DEVICE, 15)
  else if allZero ch ∨ s.sec.challenge ≠ some ch then (RES_BAD_CHALLENGE, 15)
  else
    match findSlot s.fuses 15 (Config.sha384 block) with
    | none => (RES_NO_KEY, 15)
    | some i =>
      if !Config.sigVerify 0 block msg (slice c 0x240 384) then (RES_RSA_FAIL, i)
      else if !Config.sigVerify 1 block msg (slice c 0x3C0 16224) then (RES_SLH_FAIL, i)
      else (RES_OK, i)

/-- CODE of the signed command in the host buffer. -/
def commandCode (s : State) : Nat := leAt (hostBuf s 8) 6 2

/-- OWNER_CMD runs with this code and its work is not done. -/
def commandRuns (s : State) (code : Nat) : Bool := mboxRuns s false 4 && commandCode s == code

/-- A signed command: its checks, whether the state permits its code, its arguments (`argOk` of ARG and the state), and its work,
which programs fuses where `fuses` says so (R432, R446, Table 18.8). -/
def ownerCommand (code : Nat) (states : List Lifecycle) (argOk : Bytes → State → Bool) (fuses : Bool)
    (work : Bytes → State → State) (ok : Bool) (s : State) : State :=
  if !commandRuns s code then s
  else
    let c := hostBuf s commandSize
    let arg := slice c 0x30 64
    let (res, slot) := if lenIs s false commandSize then commandCheck s c else (RES_BAD_LENGTH, 15)
    let s := { s with sec := { s.sec with host := { s.sec.host with signer := slot } } }
    if res ≠ RES_OK then mboxResult false res [] s
    else if !states.contains s.fuses.lifecycle then mboxResult false RES_WRONG_STATE [] s
    else if !argOk arg s then mboxResult false RES_BAD_ARG [] s
    else if fuses && fusePower s then mboxResult false RES_POWER [] s
    else
      let s := { s with sec := { s.sec with host := { s.sec.host with fusing := fuses } } }
      mboxResult false (if ok then RES_OK else RES_FUSE_FAIL) [] (work arg s)

/-- ARG names a slot, and the bytes that the code does not name are 0 from byte n on and between the slot and byte 16. -/
def argSlot (arg : Bytes) (n : Nat) : Bool := byteAt arg 0 < 4 && zeros arg 1 16 && zeros arg n 64

def programSlot (i : Nat) (h : BitVec 384) (f : Fuses) : Fuses :=
  { f with slotHash := Tbl.set f.slotHash i 0 h, programmed := Tbl.set f.programmed i false true }

/-- ADD_SLOT: an unprogrammed slot takes a key-pair hash. -/
def addSlot (blown : Bool) (s : State) : State :=
  ownerCommand 1 [.owned, .locked] (fun a s => argSlot a 64 && !slotProgrammed s.fuses (byteAt a 0)) true
    (fun a s => program fieldSlot blown (programSlot (byteAt a 0) (asDigest (a.drop 16))) s) blown s

def execAddSlot (blown : Bool) (s : State) : Host.Outcome State Fault Refusal := .next (addSlot blown s)

/-- REVOKE_SLOT: another usable slot must remain (Table 18.8). -/
def revokeSlot (blown : Bool) (s : State) : State :=
  ownerCommand 2 [.owned, .locked]
    (fun a s => argSlot a 16 && (List.range 4).any fun i => i != byteAt a 0 && slotUsable s.fuses i) true
    (fun a s => program fieldRevoked blown (fun f => { f with revoked := Tbl.set f.revoked (byteAt a 0) false true }) s) blown s

def execRevokeSlot (blown : Bool) (s : State) : Host.Outcome State Fault Refusal := .next (revokeSlot blown s)

/-- RAISE_SVN: above the current floor, at most 128, and at most the SVN of the Charter in RUN. -/
def raiseSvn (blown : Bool) (s : State) : State :=
  ownerCommand 3 [.owned, .locked]
    (fun a s => zeros a 4 64 && running s &&
      Decidable.decide (s.fuses.svnFloor < leAt a 0 4 ∧ leAt a 0 4 ≤ 128 ∧ leAt a 0 4 ≤ s.loader.runSvn)) true
    (fun a s => program fieldSvn blown (fun f => { f with svnFloor := leAt a 0 4 }) s) blown s

def execRaiseSvn (blown : Bool) (s : State) : Host.Outcome State Fault Refusal := .next (raiseSvn blown s)

/-- LOCK: group 1 is blown. -/
def ownerLock (blown : Bool) (s : State) : State :=
  ownerCommand 4 [.owned] (fun a _ => allZero a) true
    (fun _ s => program fieldLifecycle blown (fun f => { f with grp1 := true }) s) blown s

def execOwnerLock (blown : Bool) (s : State) : Host.Outcome State Fault Refusal := .next (ownerLock blown s)

/-- DEBUG_UNLOCK: the debug port opens until the next PORST_N. -/
def debugUnlock (s : State) : State := ownerCommand 5 [.locked] (fun a _ => allZero a) false (fun _ s => debugOpens s) true s

def execDebugUnlock (s : State) : Host.Outcome State Fault Refusal := .next (debugUnlock s)

/-- RETURN: group 2 and ID_DESTROYED are blown; from then on the identity is unavailable (R433, R434). -/
def ownerReturn (blown : Bool) (s : State) : State :=
  ownerCommand 6 [.owned, .locked] (fun a _ => allZero a) true
    (fun _ s =>
      let s := program fieldLifecycle blown (fun f => { f with grp2 := true }) s
      if s.fuses.lifecycle != .returned then s
      else
        let s := program fieldIdDestroyed true (fun f => { f with idDestroyed := true }) s
        if s.sec.idBad then s else identityBad s) blown s

def execOwnerReturn (blown : Bool) (s : State) : Host.Outcome State Fault Refusal := .next (ownerReturn blown s)

/-- PROVISION (R447): the slot unless it already holds the hash, then group 0. -/
def provision (blown : Bool) (s : State) : State :=
  if !mboxRuns s false 5 then s
  else
    let c := hostBuf s 64
    let i := byteAt c 0
    let h := asDigest (c.drop 16)
    let held := slotProgrammed s.fuses i
    if !lenIs s false 64 then mboxResult false RES_BAD_LENGTH [] s
    else if zeros c 1 16 = false then mboxResult false RES_BAD_FORMAT [] s
    else if s.fuses.lifecycle ≠ .blank then mboxResult false RES_WRONG_STATE [] s
    else if 4 ≤ i ∨ h = 0 ∨ (held ∧ slotHash s.fuses i ≠ h) then mboxResult false RES_BAD_ARG [] s
    else if fusePower s then mboxResult false RES_POWER [] s
    else
      let s := { s with sec := { s.sec with host := { s.sec.host with fusing := true } } }
      let group := fun ok s => program fieldLifecycle ok (fun f => { f with grp0 := true }) s
      let s := if held then group blown s
        else
          let s := program fieldSlot blown (programSlot i h) s
          if blown then group true s else s
      mboxResult false (if blown then RES_OK else RES_FUSE_FAIL) [] s

def execMboxProvision (blown : Bool) (s : State) : Host.Outcome State Fault Refusal := .next (provision blown s)

/-- The result of an operation that no work is defined for: an unknown OP, an OP that the channel does not allow, or a signed
command of an unknown code (Tables 18.4 and 18.9). -/
def unknownResult (s : State) (side : Bool) : Option (Nat × Nat) :=
  let c := mboxAt s side
  if !c.busy ∨ c.done.isSome then none
  else if c.op = 0 ∨ 6 ≤ c.op ∨ (side ∧ (c.op = 4 ∨ c.op = 5)) then some (RES_BAD_OP, 15)
  else if side = false ∧ c.op = 4 ∧ (commandCode s = 0 ∨ 7 ≤ commandCode s) then
    let (res, slot) := if lenIs s false commandSize then commandCheck s (hostBuf s commandSize) else (RES_BAD_LENGTH, 15)
    some (if res = RES_OK then RES_WRONG_STATE else res, slot)
  else none

/-- The end of an operation: its records and causes, and the end of the challenge after any OWNER_CMD (R443, R446, R450). -/
def mboxEnd (side : Bool) (res : Nat) (out : Bytes) (s : State) : State :=
  let c := mboxAt s side
  let owner := c.op = 4 ∧ side = false
  let code := commandCode s
  let s := s |> setMbox side { c with busy := false, done := none, fusing := false, discard := false,
                                      result := if c.discard then c.result else res, outLen := if c.discard then c.outLen else out.length }
  let s := if c.discard then s else mboxOutput side out s
  let s := s |> cause Reg.SEC_IRQ_CAUSE (b2n side) |> emit 0x001 0x72 (b2n side + 2 * (c.op % 8) + 2 ^ 4 * res)
  if owner then
    let s := { s with sec := { s.sec with challenge := none } } |> emit 0x001 0x73 (code + 2 ^ 16 * c.signer + 2 ^ 20 * res)
    if res = RES_OK ∨ res = RES_FUSE_FAIL ∨ res = RES_ABORTED then s else cause Reg.SEC_IRQ_CAUSE 2 s
  else s

/-- MBOX_OP_DONE: the operation's result and output appear. -/
def mboxDone (side : Bool) (s : State) : State :=
  match (mboxAt s side).done, unknownResult s side with
  | some (res, out), _ => mboxEnd side res out s
  | none, some (res, slot) => mboxEnd side res [] (setMbox side { mboxAt s side with signer := slot } s)
  | none, none => s

def execMboxOpDone (side : Bool) (s : State) : Host.Outcome State Fault Refusal := .next (mboxDone side s)

/-- PERST_N ends an operation of the host channel with ABORTED, except that fuse programming completes and its result is
discarded; it also ends the challenge (R443, R444). -/
def mboxPerst (s : State) : State :=
  let c := s.sec.host
  let s := { s with sec := { s.sec with challenge := none } }
  if c.busy ∧ c.fusing then { s with sec := { s.sec with host := { c with discard := true } } }
  else if c.busy ∨ mboxQueued s false then
    mboxEnd false RES_ABORTED [] { s with sec := { s.sec with queue := s.sec.queue.filter (· != false), host := { c with discard := false } } }
  else s

/-! ### SEC registers with actions -/

/-- A write of SEC_MBOX_CMD. -/
def mboxCmdWrite (v : Word32) (s : State) : State :=
  let s := plainWrite Reg.SEC_MBOX_CMD v s
  if v.getLsbD 31 then mboxGo false (bits v.toNat 2 0) s else s

/-- A write of a register of the SEC block, as aligned 4 bytes: the buffer takes nothing while BUSY or QUEUED (R442). -/
def secWrite (off : Nat) (v : Word32) (s : State) : State :=
  if off = Reg.SEC_MBOX_CMD then mboxCmdWrite v s
  else if 0x18000 ≤ off ∧ off < 0x20000 then (if mboxHeld s false then s else plainWrite off v s)
  else plainWrite off v s

/-- SEC_MBOX_STATUS. -/
def mboxStatus (s : State) : Nat :=
  let c := s.sec.host
  2 ^ 31 * b2n c.busy + 2 ^ 30 * b2n (mboxQueued s false) + 2 ^ 8 * c.outLen + c.result

/-- A register of the SEC block as it reads. -/
def secRead (s : State) (off : Nat) : Word32 :=
  if 0x18000 ≤ off ∧ off < 0x20000 then (if mboxHeld s false then 0 else regRead s off)
  else if Reg.SEC_ROM_DIGEST 0 ≤ off ∧ off < Reg.SEC_ROM_DIGEST 12 then
    (if s.sec.bootStep < 2 then 0 else BitVec.ofNat 32 (leAt (digestBytes Config.romDigest) (off - Reg.SEC_ROM_DIGEST 0) 4))
  else if Reg.SEC_CHALLENGE 0 ≤ off ∧ off < Reg.SEC_CHALLENGE 8 then
    BitVec.ofNat 32 (leAt (s.sec.challenge.getD []) (off - Reg.SEC_CHALLENGE 0) 4)
  else if off = Reg.SEC_MBOX_STATUS then BitVec.ofNat 32 (mboxStatus s)
  else if off = Reg.SEC_LIFECYCLE then BitVec.ofNat 32 s.fuses.lifecycle.code
  else if off = Reg.SEC_DEVICE_ID_LO then s.fuses.deviceId.extractLsb' 0 32
  else if off = Reg.SEC_DEVICE_ID_HI then s.fuses.deviceId.extractLsb' 32 32
  else if off = Reg.SEC_FUSE_CFG then BitVec.ofNat 32 (fuseCfg s.fuses)
  else if off = Reg.SEC_SLOT_STATUS then BitVec.ofNat 32 s.sec.active
  else if off = Reg.SEC_STATUS then BitVec.ofNat 32 (b2n s.sec.idBad)
  else if off = Reg.SEC_DEBUG then BitVec.ofNat 32 (b2n s.sec.debugOpen)
  else if off = Reg.SEC_BOOT_STATUS then BitVec.ofNat 32 (s.sec.bootStep + 2 ^ 4 * s.sec.bootSel + 2 ^ 6 * b2n s.sec.bootIgnored)
  else regRead s off

/-! ### Sideband channel (Table 18.10) -/

/-- The engine answers on the SMBus: PD29 is ON. -/
def mbAlive (s : State) : Bool := smbAlive s && domOn s 29

/-- MB_OP: OP starts on the sideband channel; `pec` says that no PEC came or that it was right. -/
def mbOp (op : Nat) (pec : Bool) (s : State) : State :=
  let ok := mbAlive s && pec
  let s := { s with out := { s.out with smbAck := ok, smb := [] } }
  if ok then mboxGo true op s else s

def execMbOp (op : Byte) (pec : Bool) (s : State) : Host.Outcome State Fault Refusal := .next (mbOp op.toNat pec s)

/-- An answer to a read command, or none where the engine is not alive. -/
def mbAnswer (cmd : Nat) (data : Bytes) (pec : Bool) (s : State) : State :=
  if mbAlive s then smbAnswer cmd data pec s else { s with out := { s.out with smbAck := false, smb := [] } }

/-- MB_STATUS. -/
def execMbStatus (pec : Bool) (s : State) : Host.Outcome State Fault Refusal :=
  .next (mbAnswer 0x11 (leBytes 2 (2 ^ 15 * b2n s.sec.side.busy + 2 ^ 14 * b2n (mboxQueued s true) + s.sec.side.result)) pec s)

/-- MB_NONCE: 32 bytes at the start of the sideband buffer; nothing is taken while BUSY or QUEUED. -/
def mbNonce (nonce : Bytes) (pec : Bool) (s : State) : State :=
  let ok := mbAlive s && pec && nonce.length == 32
  let s := { s with out := { s.out with smbAck := ok, smb := [] } }
  if ok && !mboxHeld s true then mboxOutput true nonce s else s

def execMbNonce (nonce : Bytes) (pec : Bool) (s : State) : Host.Outcome State Fault Refusal := .next (mbNonce nonce pec s)

/-- MB_OFFSET. -/
def mbOffset (offset : Nat) (pec : Bool) (s : State) : State :=
  let ok := mbAlive s && pec
  let s := { s with out := { s.out with smbAck := ok, smb := [] } }
  if ok then { s with sec := { s.sec with sideOffset := offset } } else s

def execMbOffset (offset : BitVec 16) (pec : Bool) (s : State) : Host.Outcome State Fault Refusal := .next (mbOffset offset.toNat pec s)

/-- MB_READ: 32 bytes of output; bytes beyond the output, and every byte while BUSY or QUEUED, read 0. -/
def mbRead (pec : Bool) (s : State) : State :=
  if !mbAlive s then mbAnswer 0x14 [] pec s
  else
    let data := if mboxHeld s true then List.replicate 32 0 else slice (s.sec.sideBuf.take s.sec.side.outLen) s.sec.sideOffset 32
    { s with sec := { s.sec with sideOffset := (s.sec.sideOffset + 32) % 2 ^ 16 } } |> mbAnswer 0x14 (32#8 :: data) pec

def execMbRead (pec : Bool) (s : State) : Host.Outcome State Fault Refusal := .next (mbRead pec s)

/-! ### JTAG (R448, R492) -/

/-- Instructions by a number of the model's: the spec gives no instruction codes. -/
def IR_BYPASS : Nat := 0
def IR_IDCODE : Nat := 1
def IR_SAMPLE : Nat := 2
def IR_EXTEST : Nat := 3
def IR_MBOX : Nat := 4

/-- Bits as a number, the first one least significant. -/
def bitsNat : List Bool → Nat
  | [] => 0
  | b :: bs => b2n b + 2 * bitsNat bs

def jtagLoad (ir : Nat) (drive : Bool) (out : Nat) (s : State) : State :=
  { s with pins := { s.pins with jtagIr := ir, jtagDrive := drive, jtagOut := out } }

/-- An access of the TAP with TRST_N at a level: while it is low the TAP stays in Test-Logic-Reset (R491), in which IDCODE is the
instruction and nothing is driven (IEEE 1149.1). -/
def tap (trst : Bool) (f : State → State) (s : State) : State :=
  let s := { s with pins := { s.pins with trstLow := !trst } }
  if trst then f s else jtagLoad IR_IDCODE false s.pins.jtagOut s

/-- JTAG_BYPASS: the bits pass through one bit, which is 0 at first (IEEE 1149.1). -/
def execJtagBypass (trst : Bool) (bits : List Bool) (s : State) : Host.Outcome State Fault Refusal :=
  .next (tap trst (jtagLoad IR_BYPASS false (bitsNat (false :: bits.dropLast))) s)

/-- JTAG_IDCODE (R492). -/
def execJtagIdcode (trst : Bool) (s : State) : Host.Outcome State Fault Refusal := .next (tap trst (jtagLoad IR_IDCODE false 0x132406BB) s)

/-- What the boundary-scan register captures, which the spec does not give: as many free bits as are shifted. -/
def captured : Nat → State → Nat × State
  | 0, s => (0, s)
  | n + 1, s =>
    let (w, s) := takeFree s
    let (v, s) := captured n s
    (b2n (w.getLsbD 0) + 2 * v, s)

/-- The boundary-scan register is shifted: the captured bits go out and new ones come in. -/
def scanBits (ir : Nat) (drive : Bool) (bits : List Bool) (s : State) : State :=
  let (v, s) := captured bits.length s
  let s := jtagLoad ir drive v s
  { s with pins := { s.pins with jtagScan := bits } }

/-- JTAG_SAMPLE_PRELOAD: the pins go on as the device drives them. -/
def execJtagSamplePreload (trst : Bool) (bits : List Bool) (s : State) : Host.Outcome State Fault Refusal :=
  .next (tap trst (scanBits IR_SAMPLE false bits) s)

/-- JTAG_EXTEST: the boundary-scan register drives the pins. -/
def execJtagExtest (trst : Bool) (bits : List Bool) (s : State) : Host.Outcome State Fault Refusal :=
  .next (tap trst (scanBits IR_EXTEST true bits) s)

/-- A register of the host channel, which the instruction MBOX drives: SEC_MBOX_CMD, STATUS, LEN or the buffer. -/
def mboxReg (off : Nat) : Bool :=
  Decidable.decide (off % 4 = 0 ∧ (off = Reg.SEC_MBOX_CMD ∨ off = Reg.SEC_MBOX_STATUS ∨ off = Reg.SEC_MBOX_LEN ∨
    (0x18000 ≤ off ∧ off < 0x20000)))

/-- JTAG_MBOX: a write or a read of a register of the host channel (R448). -/
def jtagMbox (off : Nat) (w : Option Word32) (s : State) : State :=
  let s := jtagLoad IR_MBOX false 0 s
  if !mboxReg off ∨ !domOn s 29 then s
  else match w with
    | some v => secWrite off v s
    | none => { s with pins := { s.pins with jtagOut := (secRead s off).toNat } }

def execJtagMbox (trst : Bool) (off : Nat) (w : Option Word32) (s : State) : Host.Outcome State Fault Refusal :=
  .next (tap trst (jtagMbox off w) s)

/-- JTAG_DEBUG_INSTRUCTION: nothing happens while the debug port is closed; what an instruction does while it is open the spec does
not say. -/
def execJtagDebugInstruction (trst : Bool) (code : Nat) (s : State) : Host.Outcome State Fault Refusal :=
  if trst && s.sec.debugOpen then .refused (.debugInstruction code) else .next (tap trst id s)

end Sys2Proof.Machine
end

