-- ==== Sys2Proof/Machine/Boot.lean ====
section
/-!
DEFINITION. Resets and the boot sequence (R436, R497, R498), and the Charter loader up to INIT (R29 to R40): starts, pushed chunks and
flash reads, verification (R25, R438 to R441), the drain of a warm restart (R34, R35), sections, and Vault training (R36, R376).
-/
namespace Sys2Proof.Machine

/-! ### States of a load -/

/-- One CHARTER_STATE record (R40). -/
def noteLoad (s : State) : State := emit 0x000 0x01 (s.loader.st.code + 2 ^ 4 * s.loader.errCode) s

/-- Entry to a state of Table 2.7, with its cause and record (R40). -/
def enterLoadState (x : LoadState) (s : State) : State :=
  let s := { s with loader := { s.loader with st := x } }
  let s := match x with
    | .run => cause Reg.TOP_IRQ_CAUSE 0 s
    | .failed => cause Reg.TOP_IRQ_CAUSE 1 s
    | .waitPush => cause Reg.TOP_IRQ_CAUSE 3 s
    | _ => s
  noteLoad s

/-- TOP_CHARTER_ERR takes a code and a section. -/
def setLoadError (code sect : Nat) (s : State) : State := { s with loader := { s.loader with errCode := code, errSect := sect } }

/-- A staging half becomes free (R32, R40). -/
def freeHalf (h : Nat) (s : State) : State :=
  let was := if h = 0 then s.loader.free0 else s.loader.free1
  if was then s
  else cause Reg.TOP_IRQ_CAUSE 2 { s with loader := if h = 0 then { s.loader with free0 := true } else { s.loader with free1 := true } }

/-- START_PUSH or START_FLASH (R30), with the error of a failed boot load kept where `keep` says so (R33). While the load lasts, PD27
is ON (R32). -/
def startLoad (push keep : Bool) (s : State) : State :=
  let l := s.loader
  if l.st = .verify ∨ l.st = .drain ∨ l.st = .load ∨ l.st = .init then s
  else
    let s := { s with loader := { l with
      prev := if l.st = .waitPush then l.prev else l.st
      source := if s.sec.factory then 3 else b2n push
      push := push
      errCode := if keep then l.errCode else 0
      errSect := if keep then l.errSect else 0xFF
      keepErr := keep
      fallback := if push then false else l.fallback
      sectDone := 0
      manifest := none
      trailer := none
      dir := []
      nextOff := 0x4000
      acc := []
      waiting := []
      sectIdx := 0
      drained := false
      laneEq := none
      regInit := []
      regInitIdx := 0xFF
      regionDigestNew := none } }
    let s := if push then s |> freeHalf 0 |> freeHalf 1 else s
    s |> acceptDomain 2 [27] |> enterLoadState (if push then .waitPush else .verify)

/-- The boot load from flash has failed: the boot ROM enters WAIT_PUSH and keeps the error (R33). -/
def fallBack (s : State) : State := if s.loader.fallback then startLoad true true s else s

/-- A load ends in the state that held before it started (R30, R40). A running Charter without PD27 loses it again. -/
def refuseLoad (code sect : Nat) (s : State) : State :=
  let s := setLoadError code sect s
  let s := { s with loader := { s.loader with st := s.loader.prev, push := false, waiting := [] } }
  let s := s |> cause Reg.TOP_IRQ_CAUSE 4 |> noteLoad
  let s := if s.loader.st = .run ∧ s.treas.exist.testBit 27 = false ∧ s.domAt 27 ≠ .off then domainDown 27 .off s else s
  fallBack s

/-! ### What a load discards -/

/-- Everything in flight is discarded: frames, queues, passes, items, Tellers, miss entries, requests of the Nose and of the Coffer,
and what waits for the peer (R34, R35, Table 2.9). -/
def discardFlight (s : State) : State :=
  { s with
    assay := []
    coffer := { s.coffer with pending := [] }
    swc := { s.swc with frames := [], cellReqs := [], queues := [] }
    tm := { s.tm with
      scheds := s.tm.scheds.map fun (k, x) => (k, { x with sending := none, fcQ := [] })
      classes := s.tm.classes.map fun (n, x) => (n, { x with deficit := 0 }) }
    ports := s.ports.map fun (p, x) => (p, { x with rx := none, rxDiscard := false, rxLen := 0 })
    disp := s.disp.map fun (b, d) => (b, { d with items := [], reqs := [], starts := 0, p2 := 0, p3 := 0 })
    tellers := []
    desks := s.desks.map fun (d, x) => (d, { x with reading := none })
    nose := s.nose.map fun (b, x) => (b, { x with queue := [], run := none, reports := [], gaps := [] })
    ledger := s.ledger.map fun (b, l) => (b, { l with
      ways := l.ways.map fun (k, w) => (k, { w with adds := [], chain := [], openers := [], scans := 0, lostWords := [] })
      guards := []
      freed := []
      flush := none
      hreq := {}
      exp := { l.exp with ring := [], recs := [], withTmpl := false, tmplDue := true }
      stalled := none
      heldItems := [] })
    teth := { s.teth with mirrorQ := [], recQ := [], recoveries := [] }
    audit := { s.audit with waiting := [] } }

/-- A miss entry and the claim that it holds go (R138). -/
def dropMissEntry (b : Nat) (s : State) : State :=
  match (s.ledgerAt b).miss with
  | e :: rest =>
    let drop := fun s => State.modLedger s b fun l => { l with miss := rest }
    match e.stage with
    | .noway f => if f.claim.isSome then occStep f.slot drop s else drop s
    | _ => drop s
  | [] => s

/-- Every miss entry goes. -/
def dropMisses (s : State) : State :=
  (List.range 4).foldl (fun s b => (s.ledgerAt b).miss.foldl (fun s _ => dropMissEntry b s) s) s

/-- Fcmp of the queues: with the buffer empty, XON is sent where XOFF was (R295). -/
def settleFlow (s : State) : State := (List.range 64).foldl (fun s p => fcUpdate p s) s

/-- Everything in flight goes; a Desk under DRAIN that held items is drained by it. -/
def discardAll (s : State) : State :=
  let busy := (List.range 16).filter fun d => !deskIdle s d
  let s := s |> dropMisses |> discardFlight |> settleFlow
  busy.foldl (fun s d => noteDrained d s) s

/-- A locked record is unlocked and written back as it stands (Table 2.8, step 4). -/
def abortLock (b k : Nat) (s : State) : State :=
  match wayAt s b k with
  | some w =>
    if rcLock w.rc then
      s |> unlockWay b k |> writeBack b k |> bump Reg.TOP_CHARTER_LOCKABORT_CNT
        |> emit 0x000 0x03 ((hashOf s (recKey w.rc)).toNat + 2 ^ 64 * w.owner.getD 0)
    else s
  | none => s

/-- DRAIN begins (Table 2.8, step 2): items of P2 and P3 that have not started are discarded. -/
def enterDrain (s : State) : State :=
  let started := fun (i : Item) => match i.st with | .running _ => true | .parked _ => true | _ => false
  let s := { s with
    loader := { s.loader with drainStart := s.time.tick, drained := false }
    disp := s.disp.map fun (b, d) => (b, { d with items := d.items.filter fun i => i.prio < 2 || started i }) }
  s |> enterLoadState .drain |> emit 0x000 0x02 0

/-- TOP_CHARTER_DRAIN_TMO in ticks. -/
def drainTicks (s : State) : Nat := us (max 100 (fieldOf s Reg.TOP_CHARTER_DRAIN_TMO 15 0))

/-- DRAIN_TIMEOUT (Table 2.8, step 4). -/
def drainTimeout (s : State) : State :=
  if s.loader.st ≠ .drain ∨ s.loader.drained ∨ since s s.loader.drainStart < drainTicks s then s
  else
    let s := bumpN Reg.TOP_CHARTER_DISCARD_CNT s.swc.frames.length s
    let s := (List.range 4).foldl (fun s b => (s.ledgerAt b).ways.foldl (fun s (k, _) => abortLock b k s) s) s
    let s := discardAll s
    { s with loader := { s.loader with drained := true } }

def execDrainTimeout (s : State) : Host.Outcome State Fault Refusal := .next (drainTimeout s)

/-! ### Failure -/

/-- The domains that FAILED keeps ON (R30). -/
def failedDomains : List Nat := [0, 23, 24, 25, 27, 28, 29]

/-- The Till of every Branch is written back and invalidated (Table 2.8, step 5). -/
def clearTills (s : State) : State :=
  (List.range 4).foldl (fun s b =>
    let s := (s.ledgerAt b).ways.foldl (fun s (k, _) => s |> writeBack b k |> unclaim b k) s
    s.modLedger b fun l => { l with ways := [], trees := [] }) s

/-- Training does not go on. -/
def trainingStops (x : VaultCh) : VaultCh := if x.st = .training then { x with st := .untrained } else x

/-- A load fails in DRAIN, LOAD or INIT (R30, R510): ports down, domains off, channels that have completed training to
self-refresh. -/
def failLoad (code sect : Nat) (s : State) : State :=
  let s := s |> setLoadError code sect |> discardAll |> clearTills
  let s := { s with
    loader := { s.loader with push := false, waiting := [], acc := [], runSvn := 0, runDigest := 0, runId := [] }
    sec := { s.sec with active := 15 }
    treas := { s.treas with
      rampQueue := [], goals := [], trans := none, ramping := s.treas.ramping.filter fun r => failedDomains.contains r.1 }
    vault := { s.vault with chans := s.vault.chans.map fun p => (p.1, trainingStops p.2) } }
  let s := ((List.range 30).filter fun d => !failedDomains.contains d && s.domAt d != .off).foldl (fun s d => domainDown d .off s) s
  let s := { s with treas := { s.treas with exist := 0 } } |> acceptDomain 2 [23, 24, 27] |> enterLoadState .failed |> srBeginAll
  fallBack s

/-- A failure takes its place by the state in which it arises (R30, R39). -/
def loadError (code sect : Nat) (s : State) : State :=
  match s.loader.st with
  | .waitPush | .verify => refuseLoad code sect s
  | .drain | .load | .init => failLoad code sect s
  | _ => s

/-! ### Staged chunks -/

/-- The bytes of a staging half (R32), each word in one round of the Coffer; a word whose content is lost is free. -/
def stagedBytes (h len : Nat) (s : State) : Bytes × State :=
  let a := h * 0xD0000
  let (b, s) := ((List.range ((len + 7) / 8)).map (a / 8 + ·)).foldl (fun (b, s) i =>
    let (v, s) := cofferRoundOn i [] true id s
    let (w, s) := match v with | some w => (w, s) | none => takeFree s
    (b ++ leBytes 8 w.toNat, s)) (([] : Bytes), s)
  (b.take len, s)

/-- A half is in use. -/
def holdHalf (h : Nat) (l : Loader) : Loader := if h = 0 then { l with free0 := false } else { l with free1 := false }

/-- The manifest has arrived: VERIFY begins, and the checks of steps 1 to 6 follow (R39, log entry 93). -/
def takeManifest (m : Bytes) (s : State) : State :=
  let s := if s.loader.st = .verify then s else enterLoadState .verify s
  match manifestError m with
  | some (code, sect) => refuseLoad code sect s
  | none =>
    { s with loader := { s.loader with
      manifest := some m, dir := directory m, svn := leAt m 0x18 4, imageId := slice m 0x20 32, mdigest := Config.sha384 m,
      lockAtCommit := bit (byteAt m 0x0E) 0 } }

/-- The trailer has arrived: step 7 of R39. -/
def takeTrailer (t : Bytes) (s : State) : State :=
  match trailerError t with
  | some (code, sect) => refuseLoad code sect s
  | none => { s with loader := { s.loader with trailer := some t } }

/-- TRAILER_OFF of the image in hand. -/
def imageTrailer (s : State) : Nat := trailerOff (s.loader.manifest.getD [])

/-- LOAD takes the next chunk that waits, and judges its order (R32). -/
def takeChunk (s : State) : State :=
  match s.loader.waiting.find? (!·.taken) with
  | none => s
  | some c =>
    let end_ := c.offset + c.length
    if c.bad ∨ c.offset ≠ s.loader.nextOff ∨ imageTrailer s < end_ ∨ (c.length % 0x1000 ≠ 0 ∧ end_ ≠ imageTrailer s) then
      failLoad PUSH_ORDER 0xFF s
    else
      let (b, s) := stagedBytes c.half c.length s
      { s with loader := { s.loader with
        acc := s.loader.acc ++ b, nextOff := end_, waiting := updFirst (!·.taken) (fun c => { c with taken := true }) s.loader.waiting } }

/-- Every chunk that waits is taken at the entry to LOAD. -/
def takeChunks (s : State) : State :=
  s.loader.waiting.foldl (fun s c => if s.loader.st = .load ∧ c.taken = false then takeChunk s else s) s

/-- A chunk is handed over (R32): the manifest, the trailer, or bytes of the sections. -/
def handOver (h off len : Nat) (s : State) : State :=
  let l := s.loader
  let free := if h = 0 then l.free0 else l.free1
  let bad := len = 0 ∨ 0xD0000 < len ∨ free = false
  let hold := fun (s : State) (taken : Bool) =>
    { s with loader := { (if bad then s.loader else holdHalf h s.loader) with
      waiting := s.loader.waiting ++ [{ half := h, offset := off, length := len, bad := bad, taken := taken }] } }
  if l.manifest.isNone then
    if bad ∨ off ≠ 0 ∨ len ≠ 0x4000 then refuseLoad PUSH_ORDER 0xFF s
    else
      let (b, s) := stagedBytes h len (hold s true)
      takeManifest b s
  else if l.trailer.isNone then
    if bad ∨ off ≠ imageTrailer s ∨ len ≠ 0x42B0 then refuseLoad PUSH_ORDER 0xFF s
    else
      let (b, s) := stagedBytes h len (hold s true)
      takeTrailer b s
  else if l.st = .init then failLoad PUSH_ORDER 0xFF s
  else
    let s := hold s false
    if s.loader.st = .load then takeChunk s else s

/-- A write of TOP_CHARTER_PUSH_LEN: ignored while no host push is in progress (R32). -/
def pushLenWrite (v : Word32) (s : State) : State :=
  if !s.loader.push ∨ s.loader.st = .empty ∨ s.loader.st = .run ∨ s.loader.st = .failed then s
  else
    let s := plainWrite Reg.TOP_CHARTER_PUSH_LEN v s
    let s := if s.loader.keepErr then { setLoadError 0 0xFF s with loader := { s.loader with keepErr := false, errCode := 0, errSect := 0xFF } } else s
    handOver (bits v.toNat 24 24) (fieldOf s Reg.TOP_CHARTER_PUSH_OFF 25 0) (bits v.toNat 20 0) s

def execPushChunk (v : Word32) (s : State) : Host.Outcome State Fault Refusal := .next (pushLenWrite v s)

/-- PUSH_HALF_CONSUMED (R32): the oldest half that the loader holds is consumed. -/
def halfConsumed (s : State) : State :=
  match s.loader.waiting with
  | c :: rest => if c.taken then freeHalf c.half { s with loader := { s.loader with waiting := rest } } else s
  | [] => s

def execPushHalfConsumed (s : State) : Host.Outcome State Fault Refusal := .next (halfConsumed s)

/-! ### Verification -/

/-- The slot, 15 for the factory keys, whose key-pair hash the trailer's block has (R25, R437, R438, R441). -/
def matchSlot (s : State) (t : Bytes) : Option Nat :=
  let h := Config.sha384 (slice t 0x10 448)
  if s.sec.factory then (if h = Config.factoryHash then some 15 else none)
  else if s.fuses.lifecycle = .owned ∨ s.fuses.lifecycle = .locked then findSlot s.fuses (byteAt t 6) h
  else none

/-- Steps 8 to 10 of R39: the code, 0 for none, and the slot, 15 for none. -/
def verifyImage (s : State) (t : Bytes) : Nat × Nat :=
  let block := slice t 0x10 448
  let msg := digestBytes s.loader.mdigest
  match matchSlot s t with
  | none => (NO_KEY, 15)
  | some i =>
    if !Config.sigVerify 0 block msg (slice t 0x1D0 384) then (RSA_FAIL, i)
    else if !Config.sigVerify 1 block msg (slice t 0x350 16224) then (SLH_FAIL, i)
    else if !s.sec.factory ∧ s.loader.svn < s.fuses.svnFloor then (SVN_LOW, i)
    else (0, i)

/-- The registers that return to their reset values at entry to LOAD (R91), at their homes in B0. -/
def loadResets (o : Nat) : Bool :=
  (Reg.SIEVE_TPL_CFG_A 0 0 ≤ o && o < Reg.SIEVE_TPL_CFG_B 0 256) || (Reg.SIEVE_DEFAULT_A_LO 0 ≤ o && o ≤ Reg.SIEVE_DEFAULT_B_HI 0)

/-- The links that the load does not keep stop at its start (R311). -/
def dropLinks (s : State) : State :=
  if keepLinks s then s
  else
    let s := (List.range 64).foldl (fun s p => portStop p s) s
    if s.teth.up then tethBringUp s else s

/-- Entry to LOAD (R35, R37, R91, R311, R510). QUIET ends here. An operation of the write port in progress or queued is dropped without
a completion, and a swap that has not reached T_swap is cancelled without an advance of GEN: the spec says neither (DESIGN CHOICE, log
entry 122). -/
def enterLoad (s : State) : State :=
  let s := s |> discardAll |> clearTills
  let idle := s.treas.pstate == .quiet || s.treas.trans.isSome
  let s := { s with
    loader := { s.loader with locked := false, runSvn := 0, runDigest := 0, runId := [], acc := [], sectIdx := 0, imgPos := 0x4000 }
    sec := { s.sec with active := 15 }
    sieve := {}
    accord := { s.accord with swapAt := none, told := false }
    automata := { s.automata with groups := s.automata.groups.map fun (g, x) => (g, { x with valid := false }) }
    treas := { s.treas with trans := none, quieted := [], goals := [] }
    regs := s.regs.filter fun p => !loadResets p.1 }
  let s := if idle then setPstate .trimmed s else s
  s |> dropLinks |> enterLoadState .load |> takeChunks

/-- A table-update batch is in progress: one that has started before DRAIN completes before the blocks are loaded (R34). -/
def batchRuns (s : State) : Bool := s.rings.any fun p => p.2.batch.isSome

/-- VERIFY_DONE (R438): the signature and key checks of the image in hand end. -/
def verifyDone (s : State) : State :=
  match s.loader.st, s.loader.trailer with
  | .verify, some t =>
    let (code, slot) := verifyImage s t
    if code = 0 ∧ s.loader.prev ≠ .run ∧ batchRuns s then s else
    let go := if s.loader.prev = .run then enterDrain else enterLoad
    let s := emit 0x001 0x71 (code + 2 ^ 8 * slot) s
    if code ≠ 0 then refuseLoad code 0xFF s else go { s with sec := { s.sec with candidate := slot } }
  | _, _ => s

def execVerifyDone (s : State) : Host.Outcome State Fault Refusal := .next (verifyDone s)

/-- LOAD_START (Table 2.8, steps 5 and 6): after the drain timeout the Till is written back and invalidated. -/
def loadStart (s : State) : State := if s.loader.st = .drain ∧ s.loader.drained ∧ batchRuns s = false then enterLoad s else s

def execLoadStart (s : State) : Host.Outcome State Fault Refusal := .next (loadStart s)

/-! ### Sections -/

/-- Offset at which the section after entry i begins, or the trailer. -/
def sectionEnd (s : State) (i : Nat) : Nat := match s.loader.dir[i + 1]? with | some e => e.offset | none => imageTrailer s

/-- Where the flash read that the loader makes next ends (R31): the manifest, the trailer, or a section with its gap. -/
def flashEnd (s : State) : Nat :=
  let l := s.loader
  if l.st = .load then sectionEnd s l.sectIdx
  else if l.manifest.isNone then 0x4000
  else imageTrailer s + 0x42B0

/-- FLASH_READ_DONE (R31): the manifest, the trailer or the next section with its gap, from a flash of the density that its SFDP table
advertises (none without such a table). A read that would reach beyond the density is not issued; a read that fails gives none. -/
def flashRead (density : Option Nat) (data : Option Bytes) (s : State) : State :=
  let l := s.loader
  let data := if density.any (flashEnd s ≤ ·) then data else none
  if l.push then s
  else match l.st, data with
    | .verify, none => if l.trailer.isNone then refuseLoad FLASH_READ 0xFF s else s
    | .verify, some b =>
      if l.manifest.isNone then (if b.length = 0x4000 then takeManifest b s else s)
      else if l.trailer.isNone ∧ b.length = 0x42B0 then takeTrailer b s
      else s
    | .load, x =>
      match l.dir[l.sectIdx]? with
      | some e =>
        if !l.acc.isEmpty then s
        else match x with
          | none => failLoad FLASH_READ l.sectIdx s
          | some b => if e.offset + b.length = sectionEnd s l.sectIdx then { s with loader := { l with acc := b } } else s
      | none => s
    | _, _ => s

def execFlashReadDone (density : Option Nat) (data : Option Bytes) (s : State) : Host.Outcome State Fault Refusal :=
  .next (flashRead density data s)

/-- The Vault of a load that does not keep it: empty records, the identity remap but for RETIRED, the spare as designated, and full
training of every channel (R36, R376, R379, R380, R398). -/
def newVault (s : State) : State :=
  let v := s.vault
  let st : SpareState := match v.spare, v.retired with | none, _ => .none | some _, none => .ready | some _, some _ => .done
  let remap := match v.spare, v.retired with | some sp, some r => Tbl.set [] r r sp | _, _ => []
  let chan := fun c => { (s.chanAt c) with
    st := .training, debt := [], refAt := [], fwl := [], merge := [], zqAt := [], writes := [], sweepGap := 0, candidates := 0, ce := [], ceOver := [],
    retrainFailed := false }
  let new := { v with
    remap := remap, spareSt := st, spareSrc := v.retired.getD 0, spareCause := if st = .done then 6 else 0, cursor := 0, mem := []
    chans := (List.range 8).map fun c => (c, chan c) }
  let s := { s with vault := new, ledger := s.ledger.map fun p => (p.1, { p.2 with occ := 0 }) }
  let s := (List.range 16).foldl (fun s r => regStore (Reg.AUDIT_RANK_UE r) 0 s) s
  let s := setField Reg.VAULT_SPARE_STATUS 15 0 0 s
  let s := if st = .done then cause Reg.VAULT_IRQ_CAUSE 2 s else s
  if st = v.spareSt then s else emit 0x00E 0x64 (sparePayload s st.code) s

/-- A channel has been trained, with no training failure since (R36, R377). -/
def chanTrained (x : VaultCh) : Bool := !(x.st == .untrained || x.st == .training || x.st == .failed || x.retrainFailed)

/-- A load that keeps the Vault makes an aborted spare available again (R382). -/
def spareAgain (s : State) : State :=
  if s.vault.spareSt = .aborted then
    { s with vault := { s.vault with spareSt := .ready } } |> emit 0x00E 0x64 (sparePayload s SpareState.ready.code)
  else s

/-- Entry to INIT: the taps of the new Charter, and the Vault kept or trained anew (R36, R376, R382). -/
def enterInit (s : State) : State :=
  let l := s.loader
  let kept := l.regionDigestNew.isSome && l.regionDigestNew == l.regionDigestRun && (List.range 8).all fun c => chanTrained (s.chanAt c)
  let s := s |> loadTaps l.laneEq |> enterLoadState .init
  let s := if kept then s |> spareAgain |> srEndAll else newVault s
  { s with loader := { s.loader with vaultKept := kept } }

/-- The domains that the image needs are ON. -/
def loadPowered (s : State) : Bool := s.treas.rampQueue.isEmpty && s.treas.ramping.isNone

/-- SECTION_DONE (R39): the next section and the gap after it are in hand; digest, layout and gap are checked in that order, and
the section is written. Those after POWER_DOMAINS wait for the domains to be ON (R29). -/
def sectionDone (s : State) : State :=
  let l := s.loader
  match l.st, l.dir[l.sectIdx]? with
  | .load, some e =>
    let i := l.sectIdx
    let n := sectionEnd s i - e.offset
    if l.acc.length < n ∨ (i ≠ 0 ∧ loadPowered s = false) then s
    else
      let body := l.acc.take e.length
      if Config.sha384 body ≠ e.digest then failLoad BAD_DIGEST i s
      else if !sectionOk e.type body s.treas.exist then failLoad BAD_GEOMETRY i s
      else
        let s := writeSection e body s
        match crossError s with
        | some (code, sect) => failLoad code sect s
        | none =>
          if !allZero ((l.acc.take n).drop e.length) then failLoad BAD_GAP i s
          else
            let s := { s with loader := { s.loader with sectIdx := i + 1, sectDone := i + 1, acc := l.acc.drop n, imgPos := e.offset + n } }
            if i + 1 = l.dir.length then enterInit s else s
  | _, _ => s

def execSectionDone (s : State) : Host.Outcome State Fault Refusal := .next (sectionDone s)

/-- A DIMM's SPD satisfies the section (R363). -/
def spdOk (s : State) (x : Spd) : Bool := x.ok && x.ranks == s.vault.ranks && x.gib == s.vault.gib && s.vault.speed ≤ x.maxSpeed

/-- VAULT_TRAINING_DONE (R363, R376): full training of a channel completes, or fails at a step on a rank. -/
def trainingDone (c : Nat) (spd : Spd) (failure : Option (Fin 4 × Fin 2)) (s : State) : State :=
  if s.loader.st ≠ .init ∨ (s.chanAt c).st ≠ .training then s
  else if !spdOk s spd then failLoad VAULT_TRAIN 0xFF s
  else match failure with
    | none => s.modChan c fun x => { x with st := .service, lastReq := s.time.tick }
    | some (step, cs) =>
      s |> (·.modChan c fun x => { x with st := .failed }) |> noteTrainFail (2 * c + cs.val) (step.val + 1) |> failLoad VAULT_TRAIN 0xFF

def execVaultTrainingDone (c : Fin 8) (spd : Spd) (failure : Option (Fin 4 × Fin 2)) (s : State) : Host.Outcome State Fault Refusal :=
  .next (trainingDone c.val spd failure s)

/-! ### Writes of TOP_CHARTER_CTRL -/

/-- ABORT (R30): ignored in RUN, EMPTY and FAILED. -/
def abortLoad (s : State) : State := loadError ABORTED 0xFF s

/-- A write of TOP_CHARTER_CTRL; its commands take effect in the order ABORT, START_FLASH, START_PUSH, LOCK (log entry 93). -/
def charterCtrlWrite (v : Word32) (s : State) : State :=
  let s := setField Reg.TOP_CHARTER_CTRL 8 8 (b2n (v.getLsbD 8)) s
  let s := if v.getLsbD 4 then abortLoad s else s
  let s := if v.getLsbD 1 then startLoad false false s else s
  let s := if v.getLsbD 0 then startLoad true false s else s
  if v.getLsbD 3 ∧ s.loader.st = .run then { s with loader := { s.loader with locked := true } } else s

def execStartPush (v : Word32) (s : State) : Host.Outcome State Fault Refusal := .next (if v.getLsbD 0 then charterCtrlWrite v s else s)
def execStartFlash (v : Word32) (s : State) : Host.Outcome State Fault Refusal := .next (if v.getLsbD 1 then charterCtrlWrite v s else s)
def execCharterAbort (v : Word32) (s : State) : Host.Outcome State Fault Refusal := .next (if v.getLsbD 4 then charterCtrlWrite v s else s)
def execCharterLock (v : Word32) (s : State) : Host.Outcome State Fault Refusal := .next (if v.getLsbD 3 then charterCtrlWrite v s else s)

/-! ### Resets and boot -/

/-- BOOT record of a step (Table 18.11). -/
def noteBoot (step : Nat) (s : State) : State :=
  emit 0x001 0x70 (step + 2 ^ 3 * b2n s.sec.factory + 2 ^ 4 * s.fuses.lifecycle.code + 2 ^ 6 * b2n s.sec.bootIgnored) s

/-- The identity is unwrapped and checked (R434). -/
def unwrap (s : State) : State :=
  let pub := if s.fuses.idDestroyed ∨ s.fuses.idBlob = [] then none else Config.unwrapIdentity s.fuses.deviceId s.fuses.idBlob
  match pub with
  | some b => { s with sec := { s.sec with idBad := false, idPub := b } } |> emit 0x001 0x77 0
  | none => identityBad s

/-- A domain powers up in the boot ROM: its ramp, under its power-up allowance where Table 17.2 gives it one (R412, R416). -/
def bootRamp (d : Nat) (s : State) : State :=
  let a := domPowerUp d
  let s := setDomain d .ramp (if a = 0 then s else noteAllowance 10 0 a s)
  domainUp d false (if a = 0 then s else noteAllowance 10 1 a s)

/-- Steps 1 to 4 of Table 18.3: PD29, PD28, PD25 and PD27 ramp, and the time base starts at 0 s. -/
def bootEarly (s : State) : State :=
  let s := { s with
    time := { s.time with net := 0 }
    sec := { s.sec with bootStep := 4, debugOpen := s.fuses.lifecycle != .locked }
    pcie := { s.pcie with training := !s.pins.perstLow } }
  s |> bootRamp 29 |> bootRamp 28 |> bootRamp 25 |> bootRamp 27 |> setPstate .full |> unwrap
    |> noteBoot 1 |> noteBoot 2 |> noteBoot 3 |> noteBoot 4

/-- Step 5: BOOT_SEL is sampled, and a load starts (R33, R433, R437). -/
def bootLoad (s : State) : State :=
  let sel := s.pins.bootSel
  let open_ := s.fuses.lifecycle == .blank || s.fuses.lifecycle == .returned
  let factory := sel == 3 && open_
  let ignored := sel == 3 && !open_
  let s := { s with sec := { s.sec with bootSel := sel, factory := factory, bootIgnored := ignored, bootStep := 5 } }
  let s := if ignored then cause Reg.SEC_IRQ_CAUSE 7 s else s
  let s := noteBoot 5 s
  if sel = 1 ∨ factory then startLoad true false s
  else startLoad false false { s with loader := { s.loader with fallback := sel == 2 } }

/-- The boot ROM runs once nothing holds the device in reset (R436). -/
def bootRom (s : State) : State :=
  if s.pins.porstLow ∨ s.pins.railHold ≠ [] ∨ s.treas.offHeld ∨ s.sec.bootStep ≠ 0 then s else s |> bootEarly |> bootLoad

/-- PORST_N falls for good or for `ns`: pulses under 100 ns are ignored, and one of 100 ns to 10 µs resets the device or is ignored
(R497). -/
def porstAssert (ns : Nat) (s : State) : State :=
  if s.pins.porstLow ∨ ns < 100 then s
  else
    let (w, s) := if ns < 10000 then takeFree s else (1#64, s)
    if !w.getLsbD 0 then s
    else s |> (fun s => { s with pins := { s.pins with porstLow := true } }) |> hardReset |> resetCause 0

def execPorstAssert (ns : Nat) (s : State) : Host.Outcome State Fault Refusal := .next (porstAssert ns s)

/-- PORST_RELEASE (R436, R498): SMB_ADDR is sampled and the boot ROM runs. -/
def porstRelease (bootSel smbAddr : Nat) (s : State) : State :=
  if !s.pins.porstLow then s
  else
    { s with pins := { s.pins with porstLow := false, bootSel := bootSel, smbAddr := smbAddr } } |> resetCause 0 |> bootRom
      |> warnStands

def execPorstRelease (bootSel smbAddr : BitVec 2) (s : State) : Host.Outcome State Fault Refusal :=
  .next (porstRelease bootSel.toNat smbAddr.toNat s)

/-- RAIL_RESET_RELEASE (R424): a rail has returned to its range; when none holds the device the boot ROM runs. VDD_CORE is waited for
until the brownout state is NORMAL, because no domain ramps in a hold (R425). -/
def railRelease (rail : Nat) (s : State) : State :=
  if !s.pins.railHold.contains rail || (rail == 0 && brownHold s) then s
  else { s with pins := { s.pins with railHold := s.pins.railHold.filter (· != rail) } } |> bootRom |> warnStands

def execRailResetRelease (rail : Fin 4) (s : State) : Host.Outcome State Fault Refusal := .next (railRelease rail.val s)

/-- A pin of domain d other than DRST_N is high-impedance, or released (R496). -/
def pinHeld (s : State) (d : Nat) : Bool := s.pins.porstLow || !domOn s d

/-- DRST_N of channel c is driven low by PD0 (R496, R497). -/
def drstLow (s : State) (c : Nat) : Bool := s.pins.porstLow || !domOn s (23 + c / 4)

end Sys2Proof.Machine
end

