-- ==== Sys2Proof/Machine/Irq.lean ====
section
/-!
DEFINITION. The interrupt tree and its delivery (chapter 20, R474 to R479): causes, masks and third-level summaries, the
level L, the pin, MSI-X vector 0 and FORCE writes.
-/
namespace Sys2Proof.Machine

/-! ### The cause tree -/

/-- The third-level summary of the TELL instance of Desk d (R185). -/
def tellSub (s : State) (d : Nat) : Nat :=
  (List.range 8).foldl (fun a t =>
    if regRead s (Reg.TELL_TCAUSE d t) &&& ~~~(regRead s (Reg.TELL_TCAUSE_MASK d)) = 0 then a else a + 2 ^ t) 0

/-- TILL_IRQ_SUB of Branch b (R149). -/
def tillSub (s : State) (b : Nat) : Nat :=
  b2n (regRead s (Reg.TILL_FT_IRQ_CAUSE b) &&& ~~~(regRead s (Reg.TILL_FT_IRQ_MASK b)) != 0)

/-- VAULT_IRQ_SUB (R388). -/
def vaultSub (s : State) : Nat :=
  (List.range 8).foldl (fun a c =>
    if regRead s (Reg.VAULT_CH_IRQ_CAUSE c) &&& ~~~(regRead s (Reg.VAULT_CH_IRQ_MASK c)) = 0 then a else a + 2 ^ c) 0

/-- DMA_IRQ_SUB (R473). -/
def dmaSub (s : State) : Nat :=
  (List.range 32).foldl (fun a n =>
    if flagOf s (Reg.DMA_RING_STATUS n) 0 && flagOf s (Reg.DMA_RING_CFG n) 0 then a + 2 ^ n else a) 0

/-- `<BLK>_IRQ_SUB` of an instance; 0 where the chapter defines no third level (R474). -/
def irqSub (s : State) (b : Block) (i : Nat) : Nat :=
  match b with
  | .tell => tellSub s i
  | .till => tillSub s i
  | .vault => vaultSub s
  | .dma => dmaSub s
  | _ => 0

/-- The block instance whose registers begin at `base` requests (R475). -/
def requestsAt (s : State) (b : Block) (i base : Nat) : Bool :=
  regRead s (base + 0x10) &&& ~~~(regRead s (base + 0x14)) != 0 || irqSub s b i != 0

/-- Bits of the requesting instances of a block. -/
def requesting (s : State) (x : BlockSpan) : Nat :=
  (List.range x.count).foldl (fun a i => if requestsAt s x.blk i (x.base + x.stride * i) then a + 2 ^ i else a) 0

/-- Bits of the requesting instances of the block at a base of Table 22.1. -/
def requestingOf (s : State) (b : Block) : Nat :=
  match blockSpans.find? (·.blk == b) with
  | some x => requesting s x
  | none => 0

/-- The block's bit of TOP_IRQ_SUMMARY (Table 20.2); none for the VAULT channels and the disposition counters. -/
def summaryBit : Block → Option Nat
  | .top => some 0
  | .sec => some 1
  | .treas => some 2
  | .time => some 3
  | .perf => some 4
  | .sill => some 5
  | .dma => some 6
  | .port => some 7
  | .lane => some 8
  | .teth => some 9
  | .assay => some 10
  | .sieve => some 11
  | .disp => some 12
  | .tell => some 13
  | .till => some 14
  | .vault => some 15
  | .audit => some 16
  | .nose => some 17
  | .mint => some 18
  | .swc => some 19
  | .tm => some 20
  | .egr => some 21
  | .vaultCh | .dispo => none

/-- The Coffer's causes request (R479). -/
def cofferRequests (s : State) : Bool :=
  regRead s Reg.TOP_COFFER_IRQ_CAUSE &&& ~~~(regRead s Reg.TOP_COFFER_IRQ_MASK) != 0

/-- TOP_IRQ_SUMMARY (R475, R476). -/
def irqSummary (s : State) : Nat :=
  blockSpans.foldl (fun a x => match summaryBit x.blk with
    | some k => if requesting s x = 0 then a else a + 2 ^ k
    | none => a) (if cofferRequests s then 2 ^ 22 else 0)

/-- The level L. -/
def irqLevel (s : State) : Bool := irqSummary s &&& ((2 ^ 23 - 1) ^^^ fieldOf s Reg.TOP_IRQ_SUM_MASK 22 0) != 0

/-- IRQ_N is driven low (R477). -/
def irqPin (s : State) : Bool := irqLevel s && flagOf s Reg.TOP_IRQ_CTRL 31

/-- TOP_IRQ_STATUS. -/
def irqStatus (s : State) : Nat := 4 * b2n (irqLevel s) + 2 * b2n (!s.msix.armed) + b2n (irqPin s)

/-- TOP_IRQ_INST_BRANCH. -/
def irqBranches (s : State) : Nat :=
  requestingOf s .assay + 2 ^ 4 * requestingOf s .sieve + 2 ^ 8 * requestingOf s .disp + 2 ^ 12 * requestingOf s .till +
    2 ^ 16 * requestingOf s .nose

/-! ### FORCE -/

/-- Cause bits that FORCE can set at an instance: the fields of CAUSE, but for those that the block sets at B0 alone
(R92, R251, R474). -/
def forceMask (b : Block) (i : Nat) : Word32 :=
  let all := match rowAt b 0x10 with | some r => r.mask (· == .w1c) | none => 0
  match b with
  | .sieve => if i = 0 then all else 0
  | .nose => if i = 0 then all else all &&& ~~~(0x83#32)
  | _ => all

/-- A write of FORCE at a BAR0 offset. -/
def irqForce (off : Nat) (v : Word32) (s : State) : State :=
  if off = 0x88 then regStore Reg.TOP_COFFER_IRQ_CAUSE (regRead s Reg.TOP_COFFER_IRQ_CAUSE ||| (v &&& 3#32)) s
  else
    match decodeOff off with
    | some (b, i, rel) =>
      if rel = 0x18 && b != .vaultCh && b != .dispo then
        regStore (off - 8) (regRead s (off - 8) ||| (v &&& forceMask b i)) s
      else s
    | none => s

/-! ### Delivery of MSI-X vector 0 -/

/-- The message is masked by the vector's mask or the function's. -/
def Msix.masked (m : Msix) : Bool := m.funcMask || m.vecMask

/-- HOLDOFF_US have passed since the previous message. -/
def holdoffPast (s : State) : Bool :=
  match s.msix.lastSent with
  | some t => Decidable.decide (us (fieldOf s Reg.TOP_IRQ_CTRL 15 0) ≤ since s t)
  | none => true

/-- A message is due (R478). -/
def msixDue (s : State) : Bool :=
  s.msix.enable && s.msix.armed && flagOf s Reg.TOP_IRQ_CTRL 30 && irqLevel s && holdoffPast s

/-- The message is sent: a write of the table's data to the table's address; sending disarms the vector. -/
def msixMessage (s : State) : State :=
  let addr := pairOf s (Reg.DMA_MSIX_TABLE 0)
  let data := leBytes 4 (regRead s (Reg.DMA_MSIX_TABLE 2)).toNat
  { s with
    msix := { s.msix with armed := false, pba := false, lastSent := some s.time.tick }
    out := { s.out with hostWrites := [(addr, data)], msix := s.out.msix + 1 } }

/-- MSIX_SEND (R478): a message that is due is sent, or sets the PBA bit under a mask. -/
def msixSend (s : State) : State :=
  if !s.pcie.up || !msixDue s then s
  else if s.msix.masked then { s with msix := { s.msix with pba := true } }
  else msixMessage s

def execMsixSend (s : State) : Host.Outcome State Fault Refusal := .next (msixSend s)

/-- MSIX_HOLDOFF_EXPIRY (R478): HOLDOFF_US after the previous message a further one follows when it is due. -/
def holdoffExpiry (s : State) : State := if s.msix.lastSent.isSome then msixSend s else s

def execMsixHoldoffExpiry (s : State) : Host.Outcome State Fault Refusal := .next (holdoffExpiry s)

/-- The PBA bit falls with L (R478). -/
def settlePba (s : State) : State :=
  if s.msix.pba && !irqLevel s then { s with msix := { s.msix with pba := false } } else s

/-- A pended message is sent once nothing masks it. -/
def msixUnpend (s : State) : State :=
  let s := settlePba s
  if s.msix.pba && s.msix.enable && !s.msix.masked && s.pcie.up then msixMessage s else s

/-- MSIX_UNMASK (R478): Function Mask, the vector's mask and MSI-X Enable take the values given. -/
def msixMask (func vec enable : Bool) (s : State) : State :=
  msixUnpend { s with msix := { s.msix with funcMask := func, vecMask := vec, enable := enable } }

def execMsixUnmask (func vec enable : Bool) (s : State) : Host.Outcome State Fault Refusal :=
  .next (if s.pcie.up then msixMask func vec enable s else s)

/-- A write of TOP_IRQ_EOI (R478). -/
def eoiWrite (v : Word32) (s : State) : State := if v.getLsbD 0 then { s with msix := { s.msix with armed := true } } else s

def execIrqEoi (v : Word32) (s : State) : Host.Outcome State Fault Refusal := .next (if s.pcie.up then eoiWrite v s else s)

end Sys2Proof.Machine
end

