-- ==== Sys2Proof/Machine/PcieLink.lean ====
section
/-!
DEFINITION. The PCIe link and the resets of the PCIe interface and the DMA block (R454, R479, R498).
-/
namespace Sys2Proof.Machine

/-- A PCIE_LINK record (Table 19.13). -/
def notePcie (s : State) : State :=
  emit 0x006 0x7B (if s.pcie.up then 1 + 2 * s.pcie.rate + 2 ^ 4 * s.pcie.width else 0) s

/-- The link goes down; its state change is recorded. -/
def linkLost (s : State) : State :=
  if s.pcie.up then notePcie { s with pcie := { s.pcie with up := false, rate := 0, width := 0 } } else s

/-- Link training may run: boot step 4 has ended and PERST_N is high (R498). -/
def mayTrain (s : State) : Bool := 4 ≤ s.sec.bootStep && !s.pins.perstLow

/-- The record that a ring was writing is lost with its open buffer (R454): a host copy, or a dump. -/
def loseRecord (n : Nat) (s : State) : State := if (s.ringAt n).span.isEmpty then s else spanDone (s.ringAt n).spanKind s

/-- A BAR0 offset holds a register of a ring, or of the MSI-X table. -/
def isDmaReset (off : Nat) : Bool := Reg.DMA_RING_BASE_LO 0 ≤ off && off < Reg.DMA_MSIX_PBA 2

/-- The DMA block is reset (R454): every ring is disabled with its registers at reset values; batches perform no further
entries, and frames not yet read whole and open buffers are gone. -/
def dmaReset (s : State) : State :=
  let s := (List.range 16).foldl (fun s n => loseRecord n s) s
  { s with
    rings := []
    regs := s.regs.filter fun p => !isDmaReset p.1
    sieve := { s.sieve with queue := s.sieve.queue.filter fun j => j.user == .port } }

/-- The PCIe interface, the configuration space and the DMA block are reset (R454); MSI-X vector 0 is armed and its PBA bit
clear (R479). -/
def pcieReset (s : State) : State :=
  let s := s |> linkLost |> dmaReset
  { s with
    msix := { lastSent := s.msix.lastSent }
    pcie := { training := mayTrain s } }

/-- A PERST record (Table 19.13). -/
def notePerst (s : State) : State := emit 0x006 0x7C (b2n s.pins.perstLow) s

/-- PERST_ASSERT (R30, R32, R443, R444, R454): it also aborts a host push and an operation of the host channel. -/
def perstAssert (s : State) : State :=
  if s.pins.perstLow then s
  else
    let s := { s with pins := { s.pins with perstLow := true } }
    if s.sec.bootStep = 0 then s
    else
      let s := s |> notePerst |> pcieReset |> mboxPerst
      if s.loader.push then abortLoad s else s

def execPerstAssert (s : State) : Host.Outcome State Fault Refusal := .next (perstAssert s)

/-- PERST_RELEASE (R498): training begins once boot step 4 has ended. -/
def perstRelease (s : State) : State :=
  if !s.pins.perstLow then s
  else
    let s := { s with pins := { s.pins with perstLow := false } }
    if s.sec.bootStep = 0 then s
    else notePerst { s with pcie := { s.pcie with training := mayTrain s } }

def execPerstRelease (s : State) : Host.Outcome State Fault Refusal := .next (perstRelease s)

def execPcieHotReset (s : State) : Host.Outcome State Fault Refusal := .next (if s.pcie.up then pcieReset s else s)

def execPcieDlDown (s : State) : Host.Outcome State Fault Refusal := .next (if s.pcie.up then pcieReset s else s)

/-- PCIE_LINK_UP (R452, R454): training ends at one of the rates 1 to 5 and a width of 1, 2, 4 or 8 lanes. -/
def pcieLinkUp (rate width : Nat) (s : State) : State :=
  if s.pcie.training && domOn s 25 && 1 ≤ rate && rate ≤ 5 && [1, 2, 4, 8].contains width then
    notePcie { s with pcie := { s.pcie with up := true, training := false, rate := rate, width := width } }
  else s

def execPcieLinkUp (rate : Fin 8) (width : Fin 32) (s : State) : Host.Outcome State Fault Refusal :=
  .next (pcieLinkUp rate.val width.val s)

end Sys2Proof.Machine
end

