-- ==== Sys2Proof/Machine/LiveRegs.lean ====
section
/-!
DEFINITION. BAR0 registers as they read (R3, R4, R453, R474, R509): registers that show the state of their block are computed
when they are read; every other register reads its stored value.
-/
namespace Sys2Proof.Machine

/-- Bits of the elements of a list that meet a test. -/
def bitsWhere (n : Nat) (p : Nat → Bool) : Nat := (List.range n).foldl (fun a i => if p i then a + 2 ^ i else a) 0

/-- Half of a 64-bit number. -/
def halfOf (hi : Bool) (v : Nat) : Nat := if hi then v / 2 ^ 32 % 2 ^ 32 else v % 2 ^ 32

/-! ### TOP, TREAS, TIME, PERF, SILL and DMA -/

/-- TOP_CHARTER_STATUS (R40). -/
def charterStatus (s : State) : Nat :=
  let l := s.loader
  l.st.code + 2 ^ 8 * l.source + 2 ^ 12 * b2n l.locked + 2 ^ 13 * b2n l.vaultKept + 2 ^ 14 * b2n l.free0 + 2 ^ 15 * b2n l.free1 +
    2 ^ 24 * (l.sectDone % 256)

/-- The TOP registers of chapters 02 and 20 that are not stored. -/
def liveTop (s : State) (rel : Nat) : Option Nat :=
  if rel = 0x040 then some (irqSummary s)
  else if rel = 0x050 ∨ rel = 0x054 then some (halfOf (rel = 0x054) (requestingOf s .port))
  else if rel = 0x058 ∨ rel = 0x05C then some (halfOf (rel = 0x05C) (requestingOf s .lane))
  else if rel = 0x060 then some (requestingOf s .tell)
  else if rel = 0x064 then some (irqBranches s)
  else if rel = 0x068 then some (irqStatus s)
  else if rel = 0x200 then some ((regRead s Reg.TOP_CHARTER_CTRL).toNat + 8 * b2n s.loader.locked)
  else if rel = 0x204 then some (charterStatus s)
  else if rel = 0x208 then some (s.loader.errCode + 2 ^ 8 * s.loader.errSect)
  else if rel = 0x218 then some s.loader.runSvn
  else if 0x240 ≤ rel ∧ rel < 0x270 then some (leAt (digestBytes s.loader.runDigest) (rel - 0x240) 4)
  else if 0x280 ≤ rel ∧ rel < 0x2A0 then some (leAt s.loader.runId (rel - 0x280) 4)
  else none

/-- TREAS_USER of user u. -/
def treasUser (s : State) (u : Nat) : Nat :=
  let x := s.userAt u
  let st := match x.st with | .none => 0 | .waiting => 1 | .granted => 2 | .releasing => 3
  2 ^ 30 * st + 2 ^ 16 * (x.grant % 256) + userAmount s u % 256

/-- TREAS_DOMAIN_STATE: two bits for each of n domains from d on. -/
def domainStates (s : State) (d n : Nat) : Nat := (List.range n).foldl (fun a i => a + 4 ^ i * (s.domAt (d + i)).code) 0

/-- The TREAS registers of chapter 17 that are not stored. -/
def liveTreas (s : State) (rel : Nat) : Option Nat :=
  if rel = 0x120 then some (treasState s)
  else if rel = 0x130 then some (domainStates s 0 16)
  else if rel = 0x134 then some (domainStates s 16 14)
  else if rel = 0x144 then some (2 ^ 16 * (grantedG s % 1024) + reserveV s % 1024)
  else if rel = 0x174 then some (brownStatus s)
  else if 0x180 ≤ rel ∧ rel < 0x1AC ∧ rel % 4 = 0 then some (treasUser s ((rel - 0x180) / 4))
  else none

/-- TIME_CAP of capture input i: CTRL, HEAD_NS, HEAD_SEC (R350). -/
def liveCap (s : State) (i sub : Nat) : Option Nat :=
  let q := capAt' s i
  if sub = 0 then some (setBits (regRead s (Reg.TIME_CAP_CTRL i)).toNat 20 16 q.length)
  else if sub = 4 then some (match q with | e :: _ => 2 ^ 31 + 2 ^ 30 * b2n e.rising + netNs e.time | [] => 0)
  else if sub = 8 then some (match q with | e :: _ => netSec e.time % 2 ^ 32 | [] => 0)
  else none

/-- The head of the two-step FIFO (R347). -/
def liveTs2 (s : State) (rel : Nat) : Option Nat :=
  let head := fun (f : Ts2Entry → Nat) => match s.time.ts2 with | e :: _ => f e | [] => 0
  if rel = 0x300 then some s.time.ts2.length
  else if rel = 0x304 then some (head fun e => 2 ^ 16 * e.seqId + 2 ^ 8 * e.msgType + e.port)
  else if rel = 0x308 then some (head fun e => netNs e.time)
  else if rel = 0x30C then some (head fun e => netSec e.time % 2 ^ 32)
  else if rel = 0x310 then some (head fun e => netFrac e.time)
  else none

/-- The TIME registers of chapter 14 that are not stored. -/
def liveTime (s : State) (rel : Nat) : Option Nat :=
  if rel = 0x104 then some (b2n s.time.refLost + 2 * b2n s.time.offset.isSome)
  else if 0x240 ≤ rel ∧ rel < 0x2D0 then liveCap s ((rel - 0x240) / 16) (rel % 16)
  else liveTs2 s rel

/-- The PERF registers of chapter 20 that are not stored. -/
def livePerf (s : State) (rel : Nat) : Option Nat :=
  if rel = 0x108 then some (b2n s.perf.frozen + 2 * b2n s.perf.sched.isSome)
  else if 0x1000 ≤ rel ∧ rel < 0x2680 ∧ (rel % 0x80 = 0 ∨ rel % 0x80 = 4) then some (halfOf (rel % 8 = 4) s.perf.ticks)
  else none

def liveSill (s : State) (rel : Nat) : Option Nat := if rel = 0x104 then some s.sill.buf.length else none

/-- The DMA registers of chapter 19 that are not stored, and MSI-X table entry 0 and PBA. -/
def liveDma (s : State) (rel : Nat) : Option Nat :=
  if 0x1000 ≤ rel ∧ rel < 0x1800 then
    (let n := (rel - 0x1000) / 0x40
     if rel % 0x40 = 0x0C then some (ringHead s n)
     else if rel % 0x40 = 0x14 then
       (let r := s.ringAt n
        some (2 ^ 31 * b2n (ringIdle r) + 2 ^ 30 * b2n r.err + 2 ^ 28 * r.errCode + b2n (flagOf s (Reg.DMA_RING_STATUS n) 0)))
     else none)
  else if rel = 0x800C then some (b2n s.msix.vecMask)
  else if rel = 0x8800 then some (b2n (s.msix.pba && irqLevel s))
  else none

/-! ### Ports, lanes and the Tether -/

def LinkState.code : LinkState → Nat
  | .down => 0 | .acquire => 1 | .align => 2 | .up => 3

/-- PORT_STATUS.LANE_LOCK: block lock by PCS lane, found through RX_ORDER (R305). -/
def laneLocks (s : State) (p : Nat) : Nat :=
  let c := s.portCfgAt p
  (List.range (modeLanes c.speed)).foldl
    (fun n i => n + 2 ^ i * b2n (Tbl.get s.lanes (p + bits c.rxOrder (4 * i + 3) (4 * i)) {}).block) 0

/-- PORT_STATUS (R307, R309, R310). -/
def portStatus (s : State) (p : Nat) : Nat :=
  let x := s.portAt p
  2 ^ 31 * b2n s.pins.refclkEthBad + 2 ^ 30 * b2n x.hiBer + 2 ^ 29 * b2n x.remoteFault + 2 ^ 28 * b2n x.localFault +
    2 ^ 8 * laneLocks s p + x.st.code

/-- PORT_MODE. -/
def portMode (s : State) (p : Nat) : Nat :=
  let c := s.portCfgAt p
  c.speed + 2 ^ 4 * c.fec + 2 ^ 8 * modeLanes c.speed

def livePort (s : State) (p rel : Nat) : Option Nat :=
  if rel = 0x104 then some (portStatus s p) else if rel = 0x114 then some (portMode s p) else none

def liveLane (s : State) (n rel : Nat) : Option Nat :=
  let l := Tbl.get s.lanes n {}
  if rel = 0x100 then some (Tbl.get s.laneTaps n 0)
  else if rel = 0x104 then some (b2n l.signal + 2 * b2n l.cdr + 4 * b2n l.adapted + 8 * b2n l.block)
  else none

def liveTeth (s : State) (rel : Nat) : Option Nat :=
  let t := s.teth
  if rel = 0x100 then some (if t.lanesFitted = 0 then 0 else t.side + 2 ^ 8 * t.lanesFitted + 2 ^ 16 * t.trainMs + 2 ^ 24 * b2n t.ssc)
  else if rel = 0x108 then some (b2n t.up + 2 ^ 8 * t.pair.code + 2 ^ 16 * usableLanes s + 2 ^ 24 * t.svc)
  else if 0x140 ≤ rel ∧ rel < 0x160 then some (Tbl.get s.laneTaps (64 + (rel - 0x140) / 4) 0)
  else none

/-! ### Branch blocks -/

def liveAssay (s : State) (b rel : Nat) : Option Nat :=
  if rel = 0x104 then some (setBits (regRead s (Reg.ASSAY_RECIRC_STATUS b)).toNat 10 0 (s.assayAt b).recircQ.length)
  else if rel = 0x108 ∨ rel = 0x10C then some (halfOf (rel = 0x10C) s.vault.seed.toNat)
  else none

def liveSieve (s : State) (b rel : Nat) : Option Nat :=
  if rel = 0x104 ∧ b = 0 then some (setBits (regRead s (Reg.SIEVE_WR_STATUS 0)).toNat 31 31 (b2n (sieveBusy s)))
  else if rel = 0x204 then some (2 ^ 17 * b2n s.accord.drained + 2 ^ 16 * (s.accord.gen % 2) + s.accord.gen % 2 ^ 16)
  else if rel = 0x218 then some (inflight s b)
  else if rel = 0x400 then some (s.sieve.ternGran + 2 ^ 8 * s.sieve.exactGran + 2 ^ 16 * s.sieve.lpm4Gran + 2 ^ 24 * s.sieve.lpm6Gran)
  else none

/-- Places of a priority held in WAITING, waiting packets included under P1 (DISP_DEPTH). -/
def placesWaiting (s : State) (b p : Nat) : Nat :=
  ((s.dispAt b).items.filter fun i => i.prio = p ∧ i.st = .waiting).length + if p = 1 then chainPlaces s b else 0

def liveDisp (s : State) (b rel : Nat) : Option Nat :=
  if 0x200 ≤ rel ∧ rel < 0x210 then
    (let p := (rel - 0x200) / 4
     some (2 ^ 16 * placesWaiting s b p + placesOf s b p))
  else if rel = 0x184 then some (affByte s b (fieldOf s (Reg.DISP_AFF_ADDR b) 15 0))
  else none

def TState.code : TState → Nat
  | .idle => 0 | .run => 1 | .wait => 2 | .halt => 4 | .failed => 5

/-- A trap handler runs: the newest frame is one that no pre-empting item has parked. -/
def inHandler (x : Teller) : Bool := x.st == .run && match x.frames with | fr :: _ => !fr.parked | [] => false

/-- TELL_TSTATUS of Teller t; STATE is 3 while a handler runs. -/
def tellStatus (s : State) (t : Nat) : Nat :=
  let x := s.tellerAt t
  2 ^ 29 * (if inHandler x then 3 else x.st.code) + 2 ^ 28 * b2n x.parked.isSome + 2 ^ 24 * x.frames.length + 2 ^ 22 * (x.ctx.prio % 4) + 2 ^ 21 * b2n x.win.isSome +
    x.pc % 2 ^ 14

/-- The trap frame that TELL_FRAME_SEL selects; frame 0 is the oldest. -/
def selFrame (s : State) (d : Nat) : Option TrapFrame :=
  (s.tellerAt (8 * d + fieldOf s (Reg.TELL_FRAME_SEL d) 6 4)).frames.reverse[fieldOf s (Reg.TELL_FRAME_SEL d) 2 0]?

def liveTell (s : State) (d rel : Nat) : Option Nat :=
  if rel = 0x104 then
    some (2 ^ 31 * b2n (flagOf s (Reg.TELL_DESK_CTRL d) 0 && deskIdle s d) + 2 ^ 30 * b2n (s.deskAt d).failed +
      bitsWhere 8 fun j => (s.tellerAt (8 * d + j)).st != .idle)
  else if 0x160 ≤ rel ∧ rel < 0x180 then some (tellStatus s (8 * d + (rel - 0x160) / 4))
  else if rel = 0x184 then
    some (match selFrame s d with | some f => 2 ^ 31 + 2 ^ 30 * b2n f.parked + wbits (wordAt f.f 1) 7 0 | none => 0)
  else if 0x200 ≤ rel ∧ rel < 0x380 then
    some (match selFrame s d with | some f => halfOf (rel % 8 = 4) (wordAt f.f ((rel - 0x200) / 8)).toNat | none => 0)
  else none

/-- Ways of a slice that meet a test. -/
def waysWhere (s : State) (b : Nat) (p : Way → Bool) : Nat := ((s.ledgerAt b).ways.filter fun (_, w) => p w).length

/-- The TILL registers of chapters 05, 06 and 09 that are not stored. -/
def liveTill (s : State) (b rel : Nat) : Option Nat :=
  let l := s.ledgerAt b
  if rel = 0x104 then some (waysWhere s b fun _ => true)
  else if rel = 0x108 then some (waysWhere s b fun w => rcDirty w.rc)
  else if rel = 0x10C then some (waysWhere s b fun w => w.pinEff)
  else if rel = 0x134 then some (match l.flush with | some _ => 2 ^ 31 + (flushLeft l).length | none => 0)
  else if rel = 0x204 then some (setBits (regRead s (Reg.TILL_HREQ_STATUS b)).toNat 31 31 (b2n l.hreq.busy))
  else if rel = 0x400 then some s.vault.ftLog2
  else if rel = 0x404 then some l.occ
  else if rel = 0x418 then some (2 ^ 17 * l.miss.length + descsHeld l)
  else if rel = 0x420 then some (claimsHeld l)
  else if rel = 0x618 then some l.exp.ring.length
  else if rel = 0x61C then some (l.exp.sent % 2 ^ 32)
  else none

/-! ### Vault and Auditor -/

def vaultCfg (v : Vault) : Nat :=
  v.speed + 2 ^ 4 * b2n (v.ranks == 2) + 2 ^ 5 * b2n (v.gib == 64) + 2 ^ 8 * v.spare.getD 0 + 2 ^ 12 * b2n v.spare.isSome +
    2 ^ 16 * v.retired.getD 0 + 2 ^ 20 * b2n v.retired.isSome + 2 ^ 24 * v.ftRegion

/-- VAULT_SPARE_STATUS (R379, R381). -/
def spareStatus (s : State) : Nat :=
  let v := s.vault
  2 ^ 28 * v.spareSt.code + 2 ^ 24 * v.spare.getD 0 + 2 ^ 20 * v.spareSrc + 2 ^ 19 * b2n (v.spareSt == .migrating && sparePaused s) +
    2 ^ 16 * v.spareCause + fieldOf s Reg.VAULT_SPARE_STATUS 15 0

/-- The VAULT common registers that are not stored. -/
def liveVault (s : State) (rel : Nat) : Option Nat :=
  let v := s.vault
  if rel = 0x100 then some (vaultCfg v)
  else if rel = 0x104 then some (if v.regions.isEmpty then 0 else 2 ^ 16 * (capacityRecords v / 2 ^ 20) + zone0Records v / 2 ^ 20)
  else if rel = 0x108 ∨ rel = 0x10C then
    some ((List.range 8).foldl (fun a m => a + 16 ^ m * remapOf v (m + (if rel = 0x10C then 8 else 0))) 0)
  else if rel = 0x118 then some (spareStatus s)
  else if rel = 0x11C then some (v.cursor % 2 ^ 29)
  else if 0x200 ≤ rel ∧ rel < 0x280 then
    (let r := v.regions.getD ((rel - 0x200) / 8) {}
     some (if rel % 8 = 0 then 2 ^ 16 * r.size + r.base else b2n r.merge))
  else none

def ChState.code : ChState → Nat
  | .untrained => 0 | .training => 1 | .service => 2 | .srEntry => 3 | .selfRefresh => 4 | .srExit => 5 | .failed => 6

def liveVaultCh (s : State) (c rel : Nat) : Option Nat :=
  let x := s.chanAt c
  if rel = 0x100 then
    some (x.st.code + 2 ^ 4 * b2n (chanHot x) + 2 ^ 8 * (bitsWhere 2 fun i => !s.vault.regions.isEmpty && rankPresent s.vault (2 * c + i)) +
      2 ^ 12 * (x.candidates ||| bitsWhere 2 fun i => s.vault.retired == some (2 * c + i)))
  else if rel = 0x108 then some ((List.range 8).foldl (fun a m => a + 16 ^ m * (Tbl.get x.debt m 0 % 8)) 0)
  else if rel = 0x110 then some x.fwl.length
  else none

def liveAudit (s : State) (rel : Nat) : Option Nat :=
  if 0x200 ≤ rel ∧ rel < 0x260 ∧ rel % 16 = 4 then some (lapMs s ((rel - 0x200) / 16))
  else if rel = 0x110 then some (lapSlowest s).2
  else if rel = 0x114 then some (lapSlowest s).1
  else none

/-! ### Nose, Mint, switch core and traffic manager -/

def noseStatus (s : State) (b : Nat) : Nat :=
  let x := s.noseAt b
  2 ^ 30 * x.step + 2 ^ 29 * b2n ((s.userAt b).st == .granted) + 2 ^ 28 * b2n x.hold + 2 ^ 16 * capAt 0xFFF (backlog s b / 1024) + noseQueued x

def liveNose (s : State) (b rel : Nat) : Option Nat :=
  if rel = 0x10C then some (noseStatus s b)
  else if rel = 0x110 then some (2 ^ 16 * s.automata.groupCount + s.automata.patternCount)
  else if 0x200 ≤ rel ∧ rel < 0x400 then
    (let g := groupAt s ((rel - 0x200) / 8)
     some (if rel % 8 = 0 then 2 ^ 31 * b2n g.valid + 2 ^ 30 * b2n g.quiesced + g.gen else g.start))
  else if 0x400 ≤ rel ∧ rel < 0x800 then
    (let g := groupAt s ((rel - 0x400) / 16)
     match rel % 16 with
     | 0 => some g.base
     | 4 => some g.limit
     | 8 => some (2 ^ 16 * g.patCount + g.patFirst)
     | _ => none)
  else none

/-- Cells granted from a port's reserved pools. -/
def rsvUsed (s : State) (p : Nat) : Nat := (List.range 8).foldl (fun n q => n + poolUsed s (.rsv p q)) 0

/-- Cells that frames hold. -/
def cellsUsed (s : State) : Nat := s.swc.frames.foldl (fun n (_, x) => n + x.cells.length) 0

/-- The MINT registers that are not stored. -/
def liveMint (s : State) (rel : Nat) : Option Nat :=
  if rel = 0x104 then some s.swc.globalSize
  else if rel = 0x108 then some (poolUsed s .global)
  else if rel = 0x10C then some s.swc.expressSize
  else if rel = 0x110 then some (poolUsed s .express)
  else if rel = 0x114 then some (262144 - cellsUsed s)
  else if 0x120 ≤ rel ∧ rel < 0x140 then some (Tbl.get s.swc.rsvMin ((rel - 0x120) / 4) 0)
  else if 0x200 ≤ rel ∧ rel < 0x300 then some (Tbl.get s.swc.portShared ((rel - 0x200) / 4) 0)
  else if 0x300 ≤ rel ∧ rel < 0x400 then
    (let p := (rel - 0x300) / 4
     some (2 ^ 16 * rsvUsed s p + poolUsed s (.shared p)))
  else if rel = 0x508 then some (524288 - entriesUsed s)
  else none

def liveSwc (s : State) (rel : Nat) : Option Nat :=
  if 0x600 ≤ rel ∧ rel < 0x640 then some (queueAt s (520 + (rel - 0x600) / 4)).length
  else if 0x680 ≤ rel ∧ rel < 0x6A0 then some (queueAt s (512 + (rel - 0x680) / 4)).length
  else none

/-- TM_PORT_STATUS. -/
def tmPortStatus (s : State) (p : Nat) : Nat :=
  let x := s.schedAt p
  2 ^ 17 * b2n x.frozenAt.isSome + 2 ^ 16 * b2n (!x.xoff.isEmpty) + bitsWhere 8 fun q => paused s (8 * p + q)

/-- TM_GATE_STATUS. -/
def tmGateStatus (s : State) (p : Nat) : Nat :=
  let x := s.schedAt p
  2 ^ 31 * b2n (flagOf s (Reg.TM_GATE_CTRL p) 31) + 2 ^ 30 * b2n x.pending.isSome + 2 ^ 29 * b2n x.gateErr + 2 ^ 28 * b2n x.inForce.isSome +
    (match x.inForce with | some g => g.entries.length | none => 0)

/-- The class registers of scheduler classes; a class that does not exist reads 0 (R303). -/
def liveClass (s : State) (n sub : Nat) : Option Nat :=
  let x := s.classAt n
  if !classExists s n then some 0
  else if sub = 0x10 then some (unsigned 32 (x.credit / 65536))
  else if sub = 0x14 then some (unsigned 32 x.deficit)
  else if sub = 0x18 then some (queueAt s n).length
  else if sub = 0x1C then
    some (b2n x.eligible + 2 * b2n (Decidable.decide (x.credit < 0)) + 4 * b2n x.gateHeld + 8 * b2n (paused s n))
  else none

def liveTm (s : State) (rel : Nat) : Option Nat :=
  if 0x1000 ≤ rel ∧ rel < 0x2000 then
    (let p := (rel - 0x1000) / 0x40
     if rel % 0x40 = 0x08 then some (tmPortStatus s p) else if rel % 0x40 = 0x2C then some (tmGateStatus s p) else none)
  else if 0x4000 ≤ rel ∧ rel < 0x8300 then liveClass s ((rel - 0x4000) / 0x20) (rel % 0x20)
  else none

/-! ### Reads -/

/-- `<BLK>_ID` (R474). -/
def blockId (b : Block) (i : Nat) : Nat := 2 ^ 24 * (summaryBit b).getD 0 + 2 ^ 16 * i + 0x10

/-- Registers of a block instance that are computed when read. -/
def liveReg (s : State) (b : Block) (i rel : Nat) : Option Nat :=
  if (summaryBit b).isSome ∧ rel = 0 then some (blockId b i)
  else if (summaryBit b).isSome ∧ rel = 0x1C then some (irqSub s b i)
  else
    match b with
    | .top => liveTop s rel
    | .sec => some (secRead s (0x10000 + rel)).toNat
    | .treas => liveTreas s rel
    | .time => liveTime s rel
    | .perf => livePerf s rel
    | .sill => liveSill s rel
    | .dma => liveDma s rel
    | .port => livePort s i rel
    | .lane => liveLane s i rel
    | .teth => liveTeth s rel
    | .assay => liveAssay s i rel
    | .sieve => liveSieve s i rel
    | .disp => liveDisp s i rel
    | .tell => liveTell s i rel
    | .till => liveTill s i rel
    | .vault => liveVault s rel
    | .vaultCh => liveVaultCh s i rel
    | .audit => liveAudit s rel
    | .nose => liveNose s i rel
    | .mint => liveMint s rel
    | .swc => liveSwc s rel
    | .tm => liveTm s rel
    | .egr => none
    | .dispo => some (halfOf (rel % 8 = 4) (Tbl.get s.dispo (rel / 8) 0))

/-- The register stands at the instance: a B0 register at B0 only (R79), and a port's only where the port exists (R332). Another
reads 0 and ignores writes. -/
def existsAt (s : State) (b : Block) (i : Nat) (r : RegRow) : Bool :=
  (r.scope != .b0 || i == 0) && (b != .port || portExists s i)

/-- Blocks whose registers stay open through a warm restart (R34). -/
def alwaysOpen (b : Block) : Bool :=
  match b with
  | .top | .sec | .treas | .time | .dma => true
  | _ => false

/-- A 4-byte read at a BAR0 offset (R34, R453): its value, without the effects of a read. -/
def readValue (s : State) (off : Nat) : Nat :=
  match decodeOff off with
  | none => 0
  | some (b, i, rel) =>
    if !alwaysOpen b && !barOpen s then 0
    else if b == .dispo then (liveReg s b i rel).getD 0
    else
      match rowAt b rel with
      | none => 0
      | some r => if existsAt s b i r then (liveReg s b i rel).getD (regRead s (homeOff off)).toNat else 0

end Sys2Proof.Machine
end

