-- ==== Sys2Proof/Machine/RegWrites.lean ====
section
/-!
DEFINITION. A 4-byte write of a BAR0 register (R4, R7, R79): every register that starts an action when written, by block;
every other register stores, clears and sets bits by the types of its fields.
-/
namespace Sys2Proof.Machine

/-! ### TOP, TREAS, TIME, PERF, SILL and DMA -/

def writeTop (off : Nat) (v : Word32) (s : State) : State :=
  if off = Reg.TOP_IRQ_EOI then eoiWrite v s
  else if off = 0x88 then irqForce off v s
  else if off = Reg.TOP_CHARTER_CTRL then charterCtrlWrite v s
  else if off = Reg.TOP_CHARTER_PUSH_LEN then pushLenWrite v s
  else plainWrite off v s

/-- A write of LIMIT_QA or WARN_C may lower the budget, and allowances are revoked at once (R423). -/
def writeTreas (off rel : Nat) (v : Word32) (s : State) : State :=
  if rel = 0x124 then pstateCmdWrite v s
  else if rel = 0x128 then domainReqWrite v s
  else if rel = 0x160 then avsCfgWrite v s
  else if rel = 0x140 ∨ rel = 0x240 then s |> plainWrite off v |> revokeToFit 11
  else plainWrite off v s

def writeTime (off rel : Nat) (v : Word32) (s : State) : State :=
  if rel = 0x100 then timeCtrlWrite v s
  else if rel = 0x108 ∨ rel = 0x10C then incrWrite (some (rel == 0x10C)) (v.setWidth 64) s
  else if rel = 0x130 then ppsWrite v s
  else if 0x140 ≤ rel ∧ rel < 0x240 ∧ rel % 32 = 0 then trigCtrlWrite ((rel - 0x140) / 32) v s
  else if 0x240 ≤ rel ∧ rel < 0x2D0 ∧ rel % 16 = 12 then (if v.getLsbD 0 then capturePop ((rel - 0x240) / 16) s else s)
  else if rel = 0x314 then (if v.getLsbD 0 then ts2Pop s else s)
  else plainWrite off v s

/-- Counters do not take writes while they are frozen (R484). -/
def writePerf (off rel : Nat) (v : Word32) (s : State) : State :=
  if rel = 0x100 then perfCtrlWrite v s
  else if rel = 0x104 then freezeWrite v s
  else if rel = 0x124 then dumpCfgWrite v s
  else if 0x1000 ≤ rel ∧ 0x40 ≤ rel % 0x80 ∧ s.perf.frozen = true then s
  else plainWrite off v s

def writeDma (off rel : Nat) (v : Word32) (s : State) : State :=
  if 0x1000 ≤ rel ∧ rel < 0x1800 then
    let n := (rel - 0x1000) / 0x40
    match rel % 0x40 with
    | 0x00 => ringBaseWrite n false v s
    | 0x04 => ringBaseWrite n true v s
    | 0x08 => ringCfgWrite n v s
    | 0x10 => tailWrite n v s
    | _ => plainWrite off v s
  else if rel = 0x800C then msixMask s.msix.funcMask (v.getLsbD 0) s.msix.enable s
  else plainWrite off v s

/-! ### Branch blocks -/

/-- The register configures the old epoch of a swap that drains (R89): SIEVE_DEFAULT_A and TPL_CFG_A are those of epoch A,
which even generations use. -/
def oldEpochReg (s : State) (rel : Nat) : Bool :=
  let a := (0x220 ≤ rel && rel < 0x228) || (0x1000 ≤ rel && rel < 0x1400)
  let b := (0x228 ≤ rel && rel < 0x230) || (0x1400 ≤ rel && rel < 0x1800)
  !s.accord.drained && (if oldEpoch s = 0 then a else b)

def writeSieve (off rel : Nat) (v : Word32) (s : State) : State :=
  if rel = 0x100 then sieveCommand v s
  else if 0x140 ≤ rel ∧ rel < 0x1A0 ∧ sieveBusy s = true then bump (Reg.SIEVE_WR_REFUSED_CNT 0) s
  else if rel = 0x200 then (if v.getLsbD 0 then accordSwap s else s)
  else if oldEpochReg s rel then cause (Reg.SIEVE_IRQ_CAUSE 0) 5 s
  else plainWrite off v s

def writeDisp (off b rel : Nat) (v : Word32) (s : State) : State :=
  if rel = 0x130 then (if v.getLsbD 0 then hostPost b s else s)
  else if rel = 0x184 then affWrite b v s
  else plainWrite off v s

/-- A write of TELL_DESK_CTRL. -/
def deskCtrlWrite (d : Nat) (v : Word32) (s : State) : State :=
  let rise := v.getLsbD 0 && !flagOf s (Reg.TELL_DESK_CTRL d) 0
  let s := regStore (Reg.TELL_DESK_CTRL d) (v &&& 1#32) s
  noteNoTeller (d / 4) (if rise then noteDrained d s else s)

/-- A write of TELL_TCTRL: BRK_EN is stored; STOP acts before CONT. -/
def tctrlWrite (off t : Nat) (v : Word32) (s : State) : State :=
  let s := plainWrite off v s
  let s := if v.getLsbD 1 then tellerStop t s else s
  if v.getLsbD 0 then tellerCont t s else s

def writeTell (off d rel : Nat) (v : Word32) (s : State) : State :=
  if rel = 0x100 then deskCtrlWrite d v s
  else if 0x140 ≤ rel ∧ rel < 0x160 then tctrlWrite off (8 * d + (rel - 0x140) / 4) v s
  else if rel = 0x380 then csRead d (bits v.toNat 13 0) s
  else plainWrite off v s

/-- EN goes from 0 to 1: BASE takes effect, and the next message opens with the template set (R222, R223). -/
def exporterStart (s : State) : State :=
  let base := fieldOf s (Reg.TILL_EXP_RING 0) 20 12 * 2 ^ 12
  (List.range 4).foldl (fun s b => modExp b (fun x => { x with base := base, tmplDue := true, tmplAt := s.time.tick }) s) s

/-- A write of TILL_EXP_CFG. -/
def expCfgWrite (v : Word32) (s : State) : State :=
  let rise := v.getLsbD 0 && !flagOf s (Reg.TILL_EXP_CFG 0) 0
  let s := plainWrite (Reg.TILL_EXP_CFG 0) v s
  if rise then exporterStart s else s

def writeTill (off b rel : Nat) (v : Word32) (s : State) : State :=
  if rel = 0x130 then flushStart b v s
  else if rel = 0x200 then hostCommand b (bits v.toNat 3 0) (bits v.toNat 31 16) s
  else if (rel = 0x21C ∨ (0x280 ≤ rel ∧ rel < 0x300)) ∧ (s.ledgerAt b).hreq.busy = true then s
  else if rel = 0x408 then occLimitWrite v s
  else if rel = 0x40C then s |> refillTokens b |> plainWrite off v
  else if rel = 0x410 then setupBurstWrite b v s
  else if rel = 0x600 then expCfgWrite v s
  else plainWrite off v s

/-- A write of NOSE_GRP_CMD (R245, R247, R248). -/
def noseCommand (v : Word32) (s : State) : State :=
  match bits v.toNat 1 0 with
  | 1 => noseInvalidate v s
  | 2 => noseValidate v s
  | _ => plainWrite (Reg.NOSE_GRP_CMD 0) v s

/-- A write of a group's START (R246). -/
def noseStartWrite (g : Nat) (v : Word32) (s : State) : State :=
  let x := groupAt s g
  if !x.valid && x.quiesced then setGroup g { x with start := bits v.toNat 21 0 } s else s

def writeNose (off rel : Nat) (v : Word32) (s : State) : State :=
  if rel = 0x120 then noseCommand v s
  else if rel = 0x134 then noseMemWrite v s
  else if 0x200 ≤ rel ∧ rel < 0x400 ∧ rel % 8 = 4 then noseStartWrite ((rel - 0x200) / 8) v s
  else plainWrite off v s

/-! ### Switch core, traffic manager and rewrite -/

def writeSwc (off rel : Nat) (v : Word32) (s : State) : State :=
  if rel = 0x110 then grpCommand v s
  else if 0x200 ≤ rel ∧ rel < 0x400 then
    let p := (rel - 0x200) / 8
    if rel % 8 = 0 then samplerWrite p v s else seedWrite p v s
  else plainWrite off v s

/-- A write of TM_PORT_CTRL: a change of FC_MODE ends every XOFF state. -/
def fcModeWrite (off p : Nat) (v : Word32) (s : State) : State :=
  let old := fieldOf s off 9 8
  let s := plainWrite off v s
  if fieldOf s off 9 8 = old then s else s.modSched p fun x => { x with xoff := [] }

def writeTm (off rel : Nat) (v : Word32) (s : State) : State :=
  if rel = 0x208 then gclWrite v s
  else if rel = 0x300 then polCommand v s
  else if 0x1000 ≤ rel ∧ rel < 0x2000 then
    let p := (rel - 0x1000) / 0x40
    if rel % 0x40 = 0 then fcModeWrite off p v s
    else if rel % 0x40 = 0x18 then gateCtrlWrite p v s
    else plainWrite off v s
  else if 0x4000 ≤ rel then
    let n := (rel - 0x4000) / 0x20
    if rel % 0x20 = 0 then classCtrlWrite n v s else if classExists s n then plainWrite off v s else s
  else plainWrite off v s

def writeEgr (off rel : Nat) (v : Word32) (s : State) : State :=
  if 0x2000 ≤ rel ∧ rel < 0x3000 ∧ rel % 0x40 = 0x20 then nptCtlWrite ((rel - 0x2000) / 0x40) v s else plainWrite off v s

/-! ### Writes -/

/-- A write of a register that stands at the instance. -/
def blockWrite (b : Block) (i off rel : Nat) (v : Word32) (s : State) : State :=
  match b with
  | .top => writeTop off v s
  | .sec => secWrite off v s
  | .treas => writeTreas off rel v s
  | .time => writeTime off rel v s
  | .perf => writePerf off rel v s
  | .sill => if rel = 0x108 then dispCfgWrite v s else plainWrite off v s
  | .dma => writeDma off rel v s
  | .port => if rel = 0x100 then portCtrlWrite i v s else plainWrite off v s
  | .teth => if rel = 0x104 then tethCtrlWrite v s else plainWrite off v s
  | .sieve => writeSieve off rel v s
  | .disp => writeDisp off i rel v s
  | .tell => writeTell off i rel v s
  | .till => writeTill off i rel v s
  | .vault => if rel = 0x114 then spareCtrlWrite v s else plainWrite off v s
  | .nose => writeNose off rel v s
  | .swc => writeSwc off rel v s
  | .tm => writeTm off rel v s
  | .egr => writeEgr off rel v s
  | .lane | .assay | .vaultCh | .audit | .mint => plainWrite off v s
  | .dispo => s

/-- A 4-byte write at a BAR0 offset: without effect where no register is named, where the register does not stand at the
instance, and at B1 to B3 for a replicated register (R79, R453). FORCE sets causes (R474). -/
def writeReg32 (off : Nat) (v : Word32) (s : State) : State :=
  match decodeOff off with
  | none => s
  | some (b, i, rel) =>
    match rowAt b rel with
    | none => s
    | some r =>
      if !existsAt s b i r || (r.scope == .repl && i != 0) then s
      else if rel = 0x18 ∧ b ≠ .dispo then irqForce off v s
      else blockWrite b i off rel v s

end Sys2Proof.Machine
end

