-- ==== Sys2Proof/Machine/Bar0.lean ====
section
/-!
DEFINITION. Accesses of BAR0: sizes, alignment and spans (R3, R453), register writes and reads by software (R4, R6, R34), the
condition of R28 on an offset, and REG32 entries of a batch (R469).
-/
namespace Sys2Proof.Machine

/-! ### Which accesses BAR0 takes -/

/-- BAR0 takes the access (R3): aligned 4 bytes, or aligned 8 bytes within one block, inside some block (R453). -/
def bar0Ok (off size : Nat) : Bool :=
  match decodeOff off with
  | none => false
  | some (b, _, _) =>
    if size = 4 then off % 4 == 0
    else size == 8 && off % 8 == 0 && (match decodeOff (off + 4) with | some (c, _, _) => c == b | none => false)

/-- Software's writes of the block take effect (R34). -/
def writesOpen (s : State) (off : Nat) : Bool :=
  match decodeOff off with
  | some (b, _, _) => alwaysOpen b || barOpen s
  | none => false

/-! ### Writes -/

/-- The register in the upper half of an aligned 8 bytes starts an action when it is written. -/
def upperActs (off : Nat) : Bool :=
  match decodeOff off with
  | some (.perf, _, rel) => rel == 0x104 || rel == 0x124
  | some (.dma, _, rel) => rel == 0x800C
  | some (.disp, _, rel) => rel == 0x184
  | some (.tell, _, rel) => 0x140 ≤ rel && rel < 0x160
  | some (.till, _, rel) => rel == 0x40C
  | some (.nose, _, rel) => rel == 0x134
  | some (.swc, _, rel) => 0x200 ≤ rel && rel < 0x400
  | _ => false

/-- Both halves of an 8-byte write take effect at one instant (R3): an action of the low half finds the upper half written, and where
each half starts an action the low half's is taken first. TIME_INCR changes once. -/
def writeReg64 (off : Nat) (data : Word64) (s : State) : State :=
  if off = Reg.TIME_INCR_LO then incrWrite none data s
  else if upperActs (off + 4) then s |> writeReg32 off (data.extractLsb' 0 32) |> writeReg32 (off + 4) (data.extractLsb' 32 32)
  else s |> writeReg32 (off + 4) (data.extractLsb' 32 32) |> writeReg32 off (data.extractLsb' 0 32)

/-- REGISTER_WRITE (R3, R4, R34). -/
def registerWrite (off size : Nat) (data : Word64) (s : State) : State :=
  if !bar0Ok off size then unsupported s
  else if !writesOpen s off then complete [] s
  else complete [] (if size = 8 then writeReg64 off data s else writeReg32 off (data.extractLsb' 0 32) s)

def execRegisterWrite (off size : Nat) (data : Word64) (s : State) : Host.Outcome State Fault Refusal :=
  .next (if s.pcie.up then registerWrite off size data (freshOut s) else s)

/-- The offset is that of an IRQ_FORCE register. -/
def isForce (off : Nat) : Bool :=
  match decodeOff off with
  | some (b, _, rel) => (rel == 0x18 || (b == .top && rel == 0x88)) && (rowAt b rel).isSome
  | none => false

/-- IRQ_FORCE as a host write of an IRQ_FORCE register (R474). -/
def forceWrite (off : Nat) (v : Word32) (s : State) : State :=
  if isForce off && writesOpen s off then writeReg32 off v s else s

def execIrqForce (off : Nat) (v : Word32) (s : State) : Host.Outcome State Fault Refusal :=
  .next (if s.pcie.up then forceWrite off v s else s)

/-! ### Reads -/

/-- The value of a 4-byte read, before the read's own effects. -/
def readHalf (s : State) (off : Nat) : Nat :=
  if off = Reg.TM_GCL_DUR then (if barOpen s then (gclRead s).1 else 0) else readValue s off

/-- RC fields clear as they are read (R6), but not while counters are frozen (R484). -/
def clearRc (off : Nat) (s : State) : State :=
  match decodeOff off with
  | none => s
  | some (b, i, rel) =>
    match rowAt b rel with
    | none => s
    | some r =>
      if s.perf.frozen || !existsAt s b i r then s else regStore off (regRead s off &&& ~~~ r.mask (· == .rc)) s

/-- What a 4-byte read changes: RC fields, TM_GCL_MASK and ENTRY by a read of TM_GCL_DUR (R289), INDEX by one of
DISP_AFF_DATA (R199). -/
def readEffect (off : Nat) (s : State) : State :=
  if !writesOpen s off then s
  else if off = Reg.TM_GCL_DUR then (gclRead s).2
  else match decodeOff off with
    | some (.disp, b, 0x184) => affNext b s
    | _ => clearRc off s

/-- A host read of BAR0: both halves of 8 bytes from one instant (R3). -/
def registerRead (off size : Nat) (s : State) : State :=
  if !bar0Ok off size then unsupported s
  else if size = 8 then
    let v := readHalf s off + 2 ^ 32 * readHalf s (off + 4)
    s |> readEffect off |> readEffect (off + 4) |> complete (leBytes 8 v)
  else
    let v := readHalf s off
    s |> readEffect off |> complete (leBytes 4 v)

/-! ### The user page (R456, R486) -/

/-- Where the commands' offsets name BAR4: its offset 0 is 0x100_0000, above BAR0 (the model's own convention, log entry 134). -/
def bar4Base : Nat := 0x1000000

/-- BAR4 takes the read: 4 or 8 aligned bytes of its 64 KiB. -/
def bar4Ok (off size : Nat) : Bool := bar4Base ≤ off && off < bar4Base + 0x10000 && (size == 4 || size == 8) && off % size == 0

/-- Half h of a 64-bit quantity. -/
def pageHalf (v h : Nat) : Nat := if h = 0 then v % 2 ^ 32 else v / 2 ^ 32 % 2 ^ 32

/-- A window's counts in the order of Table 20.9. -/
def winWord (w : WinCounts) (i : Nat) : Nat := [w.rxBytes, w.txBytes, w.rxFrames, w.txFrames].getD i 0

/-- The word at an offset of the user page while it is populated (Tables 19.3 and 20.9). -/
def userWord (s : State) (a : Nat) : Nat :=
  if a = 0x0 then netNs s.time.net
  else if a = 0x4 ∨ a = 0x8 then pageHalf (netSec s.time.net) (a / 8)
  else if a = 0xC then netFrac s.time.net
  else if a = 0x10 ∨ a = 0x14 then pageHalf s.perf.winEnd (a % 8 / 4)
  else if a = 0x18 then s.perf.winSeq
  else if 0x100 ≤ a ∧ a < 0x900 then
    pageHalf (winWord (Tbl.get s.perf.winLast ((a - 0x100) / 0x20) {}) (a % 0x20 / 8)) (a % 8 / 4)
  else if 0x1000 ≤ a ∧ a < 0x1000 + 0x80 * 45 then readValue s (0x40000 + a)
  else 0

/-- A read of the user page: 0 while PERF_USER_EN is 0, and 8 bytes from one instant. -/
def userRead (off size : Nat) (s : State) : State :=
  let a := off - bar4Base
  let word := fun i => if flagOf s Reg.PERF_CTRL 31 then userWord s (a + 4 * i) else 0
  complete (if size = 8 then leBytes 4 (word 0) ++ leBytes 4 (word 1) else leBytes 4 (word 0)) s

/-- Where the commands' offsets name configuration space: above BAR4 (the model's own convention, log entry 134). -/
def cfgBase : Nat := 0x1010000

/-- A read of a word of configuration space. -/
def cfgOk (off size : Nat) : Bool := cfgBase ≤ off && off < cfgBase + 0x1000 && size == 4 && off % 4 == 0

/-- The words of Table 19.1 whose place a Type 0 header fixes (log entry 135); the places of the capabilities the spec does not give. -/
def cfgWord (a : Nat) : Option Nat :=
  if a = 0x00 ∨ a = 0x2C then some 0x32401FD6
  else if a = 0x08 then some 0x02800010
  else none

/-- A configuration read; a word that the spec does not place is a free value. -/
def cfgRead (off : Nat) (s : State) : State :=
  match cfgWord (off % 0x1000) with
  | some v => complete (leBytes 4 v) s
  | none =>
    let (w, s) := takeFree s
    complete (leBytes 4 (w.toNat % 2 ^ 32)) s

/-- RC_READ (R6), and reads of the user page (R456) and of configuration space (R452). -/
def execRcRead (off size : Nat) (s : State) : Host.Outcome State Fault Refusal :=
  .next (if s.pcie.up then
      (if bar4Ok off size then userRead off size s else if cfgOk off size then cfgRead off s else registerRead off size s)
    else s)

/-- UNSUPPORTED_REQUEST (R3, R453, R456): an access that BAR0 does not take, and of BAR4 every write. -/
def execUnsupportedRequest (off size : Nat) (write : Bool) (s : State) : Host.Outcome State Fault Refusal :=
  .next (if s.pcie.up && !bar0Ok off size && !cfgOk off size && (write || !bar4Ok off size) then unsupported s else s)

/-! ### Offsets that REG_INIT and REG32 may write -/

/-- Power domain of a block instance; PD0 for those of the always-on domain. -/
def blockDomain (b : Block) (i : Nat) : Nat :=
  match b with
  | .port | .lane => 1 + i / 8
  | .teth => 26
  | .nose => 17 + i
  | _ => 0

/-- An entry of REG_INIT may name the offset (R28): it names a register, outside the SEC block and the disposition counters, in a
block whose domain exists. -/
def initOffset (s : State) (off : Nat) : Bool :=
  match decodeOff off with
  | none => false
  | some (b, i, rel) =>
    off % 4 == 0 && b != .sec && b != .dispo && s.treas.exist.testBit (blockDomain b i) &&
      (match rowAt b rel with | some r => r.scope != .b0 || i == 0 | none => false)

/-- A REG32 entry may write the offset (R469). -/
def batchOffset (s : State) (off : Nat) : Bool :=
  initOffset s off && (match decodeOff off with
    | some (.dma, _, _) => false
    | some (.sieve, _, rel) => !(0x100 ≤ rel && rel < 0x200)
    | _ => true)

/-- BATCH_REG32 (R469, R34). -/
def batchReg32 (n : Nat) (s : State) : State :=
  match entryInHand s n 2 with
  | none => s
  | some b =>
    if batchOffset s b.arg then s |> writeReg32 b.arg (BitVec.ofNat 32 (leAt b.rest 8 4)) |> finishEntry n 0 0
    else finishEntry n 0x9 0 s

def execBatchReg32 (n : Fin 32) (s : State) : Host.Outcome State Fault Refusal :=
  .next (if s.pcie.up then batchReg32 n.val (freshOut s) else s)

end Sys2Proof.Machine
end

