-- ==== Sys2Proof/Machine/Inject.lean ====
section
/-!
DEFINITION. Host injection of chapter 19 (R466, R467): a frame's descriptors are complete, its data is read, and it enters
the Assayer or a queue.
-/
namespace Sys2Proof.Machine

/-- The descriptor of Table 19.8 as the device writes it back. -/
def injectDesc (d : Bytes) (admitTime status : Nat) : Bytes := d.take 16 ++ leBytes 8 admitTime ++ [BitVec.ofNat 8 status] ++ List.replicate 7 0

/-- The run's descriptors are written back, first one first, and HEAD passes each (R461). -/
def injectWriteBack (n admitTime status : Nat) : List Bytes → State → State
  | [], s => s
  | d :: ds, s => s |> toHost (descAddr s n 0) (injectDesc d admitTime status) |> advanceHead n |> injectWriteBack n admitTime status ds

/-- The run ends with a STATUS. -/
def injectEnd (n admitTime status : Nat) (run : List Bytes) (s : State) : State :=
  s |> (·.modRing n fun r => { r with inject := none }) |> injectWriteBack n admitTime status run

/-- A frame refused for its length (1) or its port (2) (R467). -/
def injectBad (n reason : Nat) (run : List Bytes) (s : State) : State :=
  s |> injectEnd n 0 (3 + 4 * reason) run |> cause Reg.DMA_IRQ_CAUSE 2 |> emit 0x006 0x7A (n + 2 ^ 5 * reason)

/-- The frame is in its cells and receives its descriptor: it is a first pass, or is enqueued as it stands (R467). -/
def injectAdmit (f : Nat) (d : Bytes) (x : Frame) (s : State) : State :=
  if bit (byteAt d 10) 1 then
    s |> sendTo (bits (leAt d 14 2) 9 0) (bits (leAt d 14 2) 12 10) true
        { frame := f, kind := .direct, info := { code := FWD_FAST } }
      |> release f
  else
    s.modAssay (x.port / 16) fun a => { a with injectQ := a.injectQ ++
      [{ frame := f, port := x.port, cls := x.cls, arr := ledgerOf x.arr, root := bits (byteAt d 11) 1 0 }] }

/-- A whole frame of an inject ring is read into cells from the inject requester (R257, R467). -/
def injectFrame (n : Nat) (run : List Bytes) (d data : Bytes) (s : State) : State :=
  let f := s.swc.nextFrame
  let q := byteAt d 13 % 8
  let x : Frame := {
    req := .inject q
    port := byteAt d 12
    cls := q
    data := data ++ List.replicate (60 - data.length) 0
    arr := s.time.net
    tail := true
    refs := 1
    passesDone := bit (byteAt d 10) 1 }
  let s := { s with swc := { s.swc with nextFrame := f + 1 } } |> setFrame f x |> fillCells f maxRounds
    |> injectEnd n (ledgerNow s) 1 run
  match frameAt s f with
  | none => s
  | some y =>
    if y.cells.isEmpty then s |> dropFrame f |> dispose y.port q DROP_MINT_REFUSED false 0 (ledgerOf y.arr)
    else s |> setFrame f { y with bad := if y.refused then some .refused else none } |> injectAdmit f d y

/-- INJECT_FRAME_READ (R466, R467): the data of the frame whose run of descriptors is complete has been read, or could not
be (R471). -/
def injectRead (n : Nat) (data : Option Bytes) (s : State) : State :=
  let run := runOf (s.ringAt n)
  match run with
  | [] => s
  | d :: _ =>
    let total := (run.map fun d => leAt d 8 2).foldl (· + ·) 0
    if runOpen (s.ringAt n) || (s.ringAt n).err || !s.pcie.up || !running s then s
    else if 15996 < total then injectBad n 1 run s
    else if !portExists s (byteAt d 12) then injectBad n 2 run s
    else match data with
      | none => haltRing n 1 s
      | some b => injectFrame n run d (slice b 0 total) (fromHost total s)

def execInjectFrameRead (n : Fin 32) (data : Option Bytes) (s : State) : Host.Outcome State Fault Refusal :=
  .next (injectRead n.val data (freshOut s))

end Sys2Proof.Machine
end

