-- ==== Sys2Proof/Machine/Run.lean ====
section
/-!
DEFINITION. The end of a Charter load (R28, R29, Table 2.7): REG_INIT, absent domains, and what each entry to RUN sets.
-/
namespace Sys2Proof.Machine

/-! ### REG_INIT -/

/-- Entry i of REG_INIT: offset and value. -/
def initEntry (b : Bytes) (i : Nat) : Nat × Nat := (leAt b (8 * i) 4, leAt b (8 * i + 4) 4)

/-- The section keeps R28. -/
def regInitOk (s : State) (b : Bytes) : Bool :=
  b.length % 8 == 0 && b.length ≤ 524288 && (List.range (b.length / 8)).all fun i => initOffset s (initEntry b i).1

/-- The entries are applied in order. -/
def applyRegInit (b : Bytes) (s : State) : State :=
  (List.range (b.length / 8)).foldl (fun s i => writeReg32 (initEntry b i).1 (BitVec.ofNat 32 (initEntry b i).2) s) s

/-! ### Entry to RUN -/

/-- Domains absent from the image are powered off (R29). -/
def dropDomains (s : State) : State :=
  ((List.range 30).filter fun d => !s.treas.exist.testBit d && s.domAt d != .off).foldl (fun s d => domainDown d .off s) s |> settlePstate

/-- Cells that the section leaves unassigned join the global pool (R254). -/
def assignRest (s : State) : State :=
  { s with swc := { s.swc with globalSize := s.swc.globalSize + (262144 - assignedCells s) } }

/-- GEN advances, and nothing is in flight (R91). -/
def accordRun (s : State) : State :=
  { s with accord := { s.accord with gen := (s.accord.gen + 1) % 65536, drained := true, swapAt := none, told := false } }

/-- Every group is VALID with its GEN advanced (R249); without engines there is no group. -/
def noseRun (s : State) : State :=
  if s.treas.exist.testBit 17 then
    (List.range s.automata.groupCount).foldl (fun s g =>
      let x := groupAt s g
      setGroup g { x with valid := true, quiesced := false, gen := (x.gen + 1) % 256 } s) s
  else
    { s with automata := { groups := (List.range 64).foldl (fun t g => Tbl.set t g {} { gen := (groupAt s g).gen }) [] } }

/-- Every unit event counter and EVT_SEL is cleared (R482). -/
def perfRun (s : State) : State :=
  (List.range 45).foldl (fun s u => (List.range 8).foldl (fun s k => regStore (Reg.PERF_EVT_SEL u k) 0 s) s) (clearCounters s)

/-- The setup limiters are full (R139). -/
def tokensRun (s : State) : State :=
  (List.range 4).foldl (fun s b => s.modLedger b fun l => { l with tokens := burstOf s b, tokensAt := s.time.tick }) s

/-- The queues of ports that are not UP, and of a Tether that is not PAIRED, are frozen (R296). -/
def freezeRun (s : State) : State :=
  let down := (List.range 64).filter fun p => portExists s p && (s.portAt p).st != .up
  let idle := if s.teth.pair == .paired then [] else [64]
  (down ++ idle).foldl (fun s k => s.modSched k fun x => if x.frozenAt.isSome then x else { x with frozenAt := some s.time.tick }) s

/-- The Charter now in RUN, for the registers and for R36 (R510), and the lock (R37). -/
def charterNow (s : State) : State :=
  let l := s.loader
  { s with
    loader := { l with
      runSvn := l.svn
      runDigest := l.mdigest
      runId := l.imageId
      regionDigestRun := l.regionDigestNew
      locked := l.lockAtCommit || s.fuses.lifecycle == .locked
      push := false
      fallback := false
      keepErr := false }
    sec := { s.sec with active := s.sec.candidate } }

/-- Entry to RUN (R29, R37, R91, R139, R249, R254, R299, R311, R460, R482, R510). -/
def enterRun (s : State) : State :=
  let s := s |> dropDomains |> assignRest |> cofferClear |> accordRun |> noseRun |> perfRun |> tokensRun |> charterNow
  let s := { s with tm := { s.tm with policers := [] } }
  let s := s |> freezeRun |> enterLoadState .run
  (List.range 64).foldl (fun s p => portStart p s) s

/-- INIT has done what it waits for: channels trained (R36) and domains ON. -/
def initReady (s : State) : Bool :=
  s.loader.st == .init && loadPowered s && (List.range 8).all fun c => chanTrained (s.chanAt c)

/-- CHARTER_RUN (R28, R29). An entry of REG_INIT may itself end the load. -/
def charterRun (s : State) : State :=
  if !initReady s then s
  else if regInitOk s s.loader.regInit then
    let s := applyRegInit s.loader.regInit s
    if s.loader.st = .init then enterRun s else s
  else failLoad BAD_REG_INIT s.loader.regInitIdx s

def execCharterRun (s : State) : Host.Outcome State Fault Refusal := .next (charterRun s)

end Sys2Proof.Machine
end

