-- ==== Sys2Proof/Machine/Dispatch.lean ====
section
/-!
DEFINITION. The dispatch of every command to its meaning: one arm for each constructor of Instr.
-/
namespace Sys2Proof.Machine

/-- The effect of a command on everything but the queue of waiting commands. -/
def exec (i : Instr) (s : State) : Host.Outcome State Fault Refusal :=
  match i with
  | .registerWrite off size data => Sys2Proof.Machine.execRegisterWrite off size data s
  | .rcRead off size => Sys2Proof.Machine.execRcRead off size s
  | .unsupportedRequest off size write => Sys2Proof.Machine.execUnsupportedRequest off size write s
  | .paceUpdate b descs steps => Sys2Proof.Machine.execPaceUpdate b descs steps s
  | .frameRxStart p data full => Sys2Proof.Machine.execFrameRxStart p data full s
  | .mintRound => Sys2Proof.Machine.execMintRound s
  | .frameRxTail p data fcsOk fec syms => Sys2Proof.Machine.execFrameRxTail p data fcsOk fec syms s
  | .macControlFrame p data fcsOk => Sys2Proof.Machine.execMacControlFrame p data fcsOk s
  | .assayAdmit b => Sys2Proof.Machine.execAssayAdmit b s
  | .parsePass b frame sieve => Sys2Proof.Machine.execParsePass b frame sieve s
  | .xchHoldRelease b => Sys2Proof.Machine.execXchHoldRelease b s
  | .xchStallInterval b => Sys2Proof.Machine.execXchStallInterval b s
  | .recircPlaceFreed b => Sys2Proof.Machine.execRecircPlaceFreed b s
  | .tillProbe b flips => Sys2Proof.Machine.execTillProbe b flips s
  | .candidateReadDone b entry => Sys2Proof.Machine.execCandidateReadDone b entry s
  | .fillRetry b entry => Sys2Proof.Machine.execFillRetry b entry s
  | .occLimitWrite v => Sys2Proof.Machine.execOccLimitWrite v s
  | .setupBurstWrite b v => Sys2Proof.Machine.execSetupBurstWrite b v s
  | .missTimeout b entry frame => Sys2Proof.Machine.execMissTimeout b entry frame s
  | .durableDirtyExpiry b way => Sys2Proof.Machine.execDurableDirtyExpiry b way s
  | .tillFlushStart b v => Sys2Proof.Machine.execTillFlushStart b v s
  | .tillFlushDone b => Sys2Proof.Machine.execTillFlushDone b s
  | .lockWaitTimeout t => Sys2Proof.Machine.execLockWaitTimeout t s
  | .lockAlarm b way => Sys2Proof.Machine.execLockAlarm b way s
  | .tillLookup b => Sys2Proof.Machine.execTillLookup b s
  | .tillWrite b wmask => Sys2Proof.Machine.execTillWrite b wmask s
  | .tillCreate b => Sys2Proof.Machine.execTillCreate b s
  | .tillDelete b => Sys2Proof.Machine.execTillDelete b s
  | .tillFlush b => Sys2Proof.Machine.execTillFlush b s
  | .tillReadSlot b => Sys2Proof.Machine.execTillReadSlot b s
  | .hreqDone b => Sys2Proof.Machine.execHreqDone b s
  | .sieveWrite cmd => Sys2Proof.Machine.execSieveWrite cmd s
  | .sieveInsert cmd => Sys2Proof.Machine.execSieveInsert cmd s
  | .sieveFind cmd => Sys2Proof.Machine.execSieveFind cmd s
  | .sieveInvalidate cmd => Sys2Proof.Machine.execSieveInvalidate cmd s
  | .sieveSetEm cmd => Sys2Proof.Machine.execSieveSetEm cmd s
  | .sieveRead cmd => Sys2Proof.Machine.execSieveRead cmd s
  | .sieveOpDone => Sys2Proof.Machine.execSieveOpDone s
  | .accordSwap => Sys2Proof.Machine.execAccordSwap s
  | .accordTSwap => Sys2Proof.Machine.execAccordTSwap s
  | .accordDrained => Sys2Proof.Machine.execAccordDrained s
  | .accordDrainTmo => Sys2Proof.Machine.execAccordDrainTmo s
  | .memReply t op => Sys2Proof.Machine.execMemReply t op s
  | .microTrap t => Sys2Proof.Machine.execMicroTrap t s
  | .csScrub d addr e => Sys2Proof.Machine.execCsScrub d addr e s
  | .csRead d addr => Sys2Proof.Machine.execCsRead d addr s
  | .csReadDone d e => Sys2Proof.Machine.execCsReadDone d e s
  | .tctrlStop t => Sys2Proof.Machine.execTctrlStop t s
  | .tctrlCont t => Sys2Proof.Machine.execTctrlCont t s
  | .mwFence t e => Sys2Proof.Machine.execMwFence t e s
  | .mwHold t e => Sys2Proof.Machine.execMwHold t e s
  | .seqNext t e => Sys2Proof.Machine.execSeqNext t e s
  | .seqJump t e => Sys2Proof.Machine.execSeqJump t e s
  | .seqBrt t e => Sys2Proof.Machine.execSeqBrt t e s
  | .seqBrf t e => Sys2Proof.Machine.execSeqBrf t e s
  | .seqCall t e => Sys2Proof.Machine.execSeqCall t e s
  | .seqCallt t e => Sys2Proof.Machine.execSeqCallt t e s
  | .seqRet t e => Sys2Proof.Machine.execSeqRet t e s
  | .seqRett t e => Sys2Proof.Machine.execSeqRett t e s
  | .seqLoop t e => Sys2Proof.Machine.execSeqLoop t e s
  | .seqLdloop t e => Sys2Proof.Machine.execSeqLdloop t e s
  | .seqLdloopg t e => Sys2Proof.Machine.execSeqLdloopg t e s
  | .seqJtab t e => Sys2Proof.Machine.execSeqJtab t e s
  | .seqEnd t e => Sys2Proof.Machine.execSeqEnd t e s
  | .seqResume t e => Sys2Proof.Machine.execSeqResume t e s
  | .seqTrapv t e => Sys2Proof.Machine.execSeqTrapv t e s
  | .seqHalt t e => Sys2Proof.Machine.execSeqHalt t e s
  | .aopAdd t e => Sys2Proof.Machine.execAopAdd t e s
  | .aopSub t e => Sys2Proof.Machine.execAopSub t e s
  | .aopAnd t e => Sys2Proof.Machine.execAopAnd t e s
  | .aopOr t e => Sys2Proof.Machine.execAopOr t e s
  | .aopXor t e => Sys2Proof.Machine.execAopXor t e s
  | .aopAndn t e => Sys2Proof.Machine.execAopAndn t e s
  | .aopMov t e => Sys2Proof.Machine.execAopMov t e s
  | .aopShl t e => Sys2Proof.Machine.execAopShl t e s
  | .aopShr t e => Sys2Proof.Machine.execAopShr t e s
  | .aopSar t e => Sys2Proof.Machine.execAopSar t e s
  | .aopRol t e => Sys2Proof.Machine.execAopRol t e s
  | .aopRor t e => Sys2Proof.Machine.execAopRor t e s
  | .aopMinu t e => Sys2Proof.Machine.execAopMinu t e s
  | .aopMaxu t e => Sys2Proof.Machine.execAopMaxu t e s
  | .aopMins t e => Sys2Proof.Machine.execAopMins t e s
  | .aopMaxs t e => Sys2Proof.Machine.execAopMaxs t e s
  | .aopCmp t e => Sys2Proof.Machine.execAopCmp t e s
  | .aopTst t e => Sys2Proof.Machine.execAopTst t e s
  | .aopMul t e => Sys2Proof.Machine.execAopMul t e s
  | .aopMulhu t e => Sys2Proof.Machine.execAopMulhu t e s
  | .aopAddsu t e => Sys2Proof.Machine.execAopAddsu t e s
  | .aopSubsu t e => Sys2Proof.Machine.execAopSubsu t e s
  | .aopExt t e => Sys2Proof.Machine.execAopExt t e s
  | .aopIns t e => Sys2Proof.Machine.execAopIns t e s
  | .aopPopc t e => Sys2Proof.Machine.execAopPopc t e s
  | .aopClz t e => Sys2Proof.Machine.execAopClz t e s
  | .aopCtz t e => Sys2Proof.Machine.execAopCtz t e s
  | .aopBswap t e => Sys2Proof.Machine.execAopBswap t e s
  | .aopSext t e => Sys2Proof.Machine.execAopSext t e s
  | .aopZext t e => Sys2Proof.Machine.execAopZext t e s
  | .aopSetc t e => Sys2Proof.Machine.execAopSetc t e s
  | .bopMov t e => Sys2Proof.Machine.execBopMov t e s
  | .bopAdd t e => Sys2Proof.Machine.execBopAdd t e s
  | .bopSub t e => Sys2Proof.Machine.execBopSub t e s
  | .bopAnd t e => Sys2Proof.Machine.execBopAnd t e s
  | .bopOr t e => Sys2Proof.Machine.execBopOr t e s
  | .bopXor t e => Sys2Proof.Machine.execBopXor t e s
  | .bopShl t e => Sys2Proof.Machine.execBopShl t e s
  | .bopShr t e => Sys2Proof.Machine.execBopShr t e s
  | .bopInc t e => Sys2Proof.Machine.execBopInc t e s
  | .bopDec t e => Sys2Proof.Machine.execBopDec t e s
  | .bopNot t e => Sys2Proof.Machine.execBopNot t e s
  | .bopZx8 t e => Sys2Proof.Machine.execBopZx8 t e s
  | .bopZx16 t e => Sys2Proof.Machine.execBopZx16 t e s
  | .bopZx32 t e => Sys2Proof.Machine.execBopZx32 t e s
  | .bopHi32 t e => Sys2Proof.Machine.execBopHi32 t e s
  | .bopLo32in t e => Sys2Proof.Machine.execBopLo32in t e s
  | .bopHi32in t e => Sys2Proof.Machine.execBopHi32in t e s
  | .fopLd t e => Sys2Proof.Machine.execFopLd t e s
  | .fopSt t e => Sys2Proof.Machine.execFopSt t e s
  | .fopAdd t e => Sys2Proof.Machine.execFopAdd t e s
  | .fopOr t e => Sys2Proof.Machine.execFopOr t e s
  | .fopAndn t e => Sys2Proof.Machine.execFopAndn t e s
  | .fopStm t e => Sys2Proof.Machine.execFopStm t e s
  | .fopSetstate t e => Sys2Proof.Machine.execFopSetstate t e s
  | .fopOpen t e => Sys2Proof.Machine.execFopOpen t e s
  | .fopRelwin t e => Sys2Proof.Machine.execFopRelwin t e s
  | .fopFlush t e => Sys2Proof.Machine.execFopFlush t e s
  | .mopLd t e => Sys2Proof.Machine.execMopLd t e s
  | .mopLd2 t e => Sys2Proof.Machine.execMopLd2 t e s
  | .mopSt t e => Sys2Proof.Machine.execMopSt t e s
  | .mopSt2 t e => Sys2Proof.Machine.execMopSt2 t e s
  | .mopFadd t e => Sys2Proof.Machine.execMopFadd t e s
  | .mopSwap t e => Sys2Proof.Machine.execMopSwap t e s
  | .mopCas t e => Sys2Proof.Machine.execMopCas t e s
  | .mopLookup t e => Sys2Proof.Machine.execMopLookup t e s
  | .mopGuard t e => Sys2Proof.Machine.execMopGuard t e s
  | .mopFtwr t e => Sys2Proof.Machine.execMopFtwr t e s
  | .mopUnguard t e => Sys2Proof.Machine.execMopUnguard t e s
  | .mopSweep t e => Sys2Proof.Machine.execMopSweep t e s
  | .hopFmix t e => Sys2Proof.Machine.execHopFmix t e s
  | .hopFlow t e => Sys2Proof.Machine.execHopFlow t e s
  | .hopCrc32c t e => Sys2Proof.Machine.execHopCrc32c t e s
  | .hopRange t e => Sys2Proof.Machine.execHopRange t e s
  | .hopCanda t e => Sys2Proof.Machine.execHopCanda t e s
  | .hopCandb t e => Sys2Proof.Machine.execHopCandb t e s
  | .qopLdpkt t e => Sys2Proof.Machine.execQopLdpkt t e s
  | .qopLddesc t e => Sys2Proof.Machine.execQopLddesc t e s
  | .qopSetact t e => Sys2Proof.Machine.execQopSetact t e s
  | .qopParam t e => Sys2Proof.Machine.execQopParam t e s
  | .qopRecirc t e => Sys2Proof.Machine.execQopRecirc t e s
  | .qopPunt t e => Sys2Proof.Machine.execQopPunt t e s
  | .qopMirror t e => Sys2Proof.Machine.execQopMirror t e s
  | .qopDrop t e => Sys2Proof.Machine.execQopDrop t e s
  | .qopPolice t e => Sys2Proof.Machine.execQopPolice t e s
  | .qopScan t e => Sys2Proof.Machine.execQopScan t e s
  | .qopNoseget t e => Sys2Proof.Machine.execQopNoseget t e s
  | .qopRelease t e => Sys2Proof.Machine.execQopRelease t e s
  | .copInc t e => Sys2Proof.Machine.execCopInc t e s
  | .copAdd t e => Sys2Proof.Machine.execCopAdd t e s
  | .copRd t e => Sys2Proof.Machine.execCopRd t e s
  | .copRdclr t e => Sys2Proof.Machine.execCopRdclr t e s
  | .copPerf t e => Sys2Proof.Machine.execCopPerf t e s
  | .copTick t e => Sys2Proof.Machine.execCopTick t e s
  | .topNow t e => Sys2Proof.Machine.execTopNow t e s
  | .topArr t e => Sys2Proof.Machine.execTopArr t e s
  | .topElapsed t e => Sys2Proof.Machine.execTopElapsed t e s
  | .topLockt t e => Sys2Proof.Machine.execTopLockt t e s
  | .topSec t e => Sys2Proof.Machine.execTopSec t e s
  | .topNsfrac t e => Sys2Proof.Machine.execTopNsfrac t e s
  | .xopYield t e => Sys2Proof.Machine.execXopYield t e s
  | .xopPost t e => Sys2Proof.Machine.execXopPost t e s
  | .xopTrace t e => Sys2Proof.Machine.execXopTrace t e s
  | .xopNoaff t e => Sys2Proof.Machine.execXopNoaff t e s
  | .dispatchDecision b => Sys2Proof.Machine.execDispatchDecision b s
  | .affWaitExpiry b item => Sys2Proof.Machine.execAffWaitExpiry b item s
  | .preemptWaitExpiry b item => Sys2Proof.Machine.execPreemptWaitExpiry b item s
  | .dispStallInterval b => Sys2Proof.Machine.execDispStallInterval b s
  | .hostItemPost b => Sys2Proof.Machine.execHostItemPost b s
  | .sweepOffer b => Sys2Proof.Machine.execSweepOffer b s
  | .affDataAccess b w => Sys2Proof.Machine.execAffDataAccess b w s
  | .tmSelect k desc buf => Sys2Proof.Machine.execTmSelect k desc buf s
  | .txCopyEnd k buf => Sys2Proof.Machine.execTxCopyEnd k buf s
  | .swcGrpWrite cmd => Sys2Proof.Machine.execSwcGrpWrite cmd s
  | .swcGrpRead cmd => Sys2Proof.Machine.execSwcGrpRead cmd s
  | .sampleSeedWrite p v => Sys2Proof.Machine.execSampleSeedWrite p v s
  | .samplerEnable p v => Sys2Proof.Machine.execSamplerEnable p v s
  | .shaperUpdate k c => Sys2Proof.Machine.execShaperUpdate k c s
  | .clearDebt n v => Sys2Proof.Machine.execClearDebt n v s
  | .gclDurWrite v => Sys2Proof.Machine.execGclDurWrite v s
  | .gclDurRead => Sys2Proof.Machine.execGclDurRead s
  | .gateChange p v => Sys2Proof.Machine.execGateChange p v s
  | .gateSwitch p => Sys2Proof.Machine.execGateSwitch p s
  | .gateEntryBoundary p => Sys2Proof.Machine.execGateEntryBoundary p s
  | .gateDisable p v => Sys2Proof.Machine.execGateDisable p v s
  | .pauseExpiry p c => Sys2Proof.Machine.execPauseExpiry p c s
  | .fcXoffRepeat p c => Sys2Proof.Machine.execFcXoffRepeat p c s
  | .holdExpiry n => Sys2Proof.Machine.execHoldExpiry n s
  | .polWrite cmd => Sys2Proof.Machine.execPolWrite cmd s
  | .polRead cmd => Sys2Proof.Machine.execPolRead cmd s
  | .polReadClear cmd => Sys2Proof.Machine.execPolReadClear cmd s
  | .polRefill cmd => Sys2Proof.Machine.execPolRefill cmd s
  | .portEnable p v => Sys2Proof.Machine.execPortEnable p v s
  | .portDisable p v => Sys2Proof.Machine.execPortDisable p v s
  | .portAcquireDone p => Sys2Proof.Machine.execPortAcquireDone p s
  | .portAlignDone p => Sys2Proof.Machine.execPortAlignDone p s
  | .portLinkUp p => Sys2Proof.Machine.execPortLinkUp p s
  | .portLinkDown p cause lane => Sys2Proof.Machine.execPortLinkDown p cause lane s
  | .remoteFault p => Sys2Proof.Machine.execRemoteFault p s
  | .refclkEthLoss => Sys2Proof.Machine.execRefclkEthLoss s
  | .tethRetrain v => Sys2Proof.Machine.execTethRetrain v s
  | .tethTrainDone => Sys2Proof.Machine.execTethTrainDone s
  | .tethLaneCheck errors peer => Sys2Proof.Machine.execTethLaneCheck errors peer s
  | .tethLinkUp peer set => Sys2Proof.Machine.execTethLinkUp peer set s
  | .tethReform lane set => Sys2Proof.Machine.execTethReform lane set s
  | .tethLinkDown => Sys2Proof.Machine.execTethLinkDown s
  | .linkFrameRx kind seq crcOk ack nak buf => Sys2Proof.Machine.execLinkFrameRx kind seq crcOk ack nak buf s
  | .heartbeatSend => Sys2Proof.Machine.execHeartbeatSend s
  | .heartbeatRx msg => Sys2Proof.Machine.execHeartbeatRx msg s
  | .peerLost => Sys2Proof.Machine.execPeerLost s
  | .mirrorApply msg => Sys2Proof.Machine.execMirrorApply msg s
  | .tetherCopyRx header data => Sys2Proof.Machine.execTetherCopyRx header data s
  | .recoveryRequestRx msg => Sys2Proof.Machine.execRecoveryRequestRx msg s
  | .recoveryResponseRx msg => Sys2Proof.Machine.execRecoveryResponseRx msg s
  | .recoveryTimeout => Sys2Proof.Machine.execRecoveryTimeout s
  | .timeSnap => Sys2Proof.Machine.execTimeSnap s
  | .timeIncrWrite half w => Sys2Proof.Machine.execTimeIncrWrite half w s
  | .timeApply v => Sys2Proof.Machine.execTimeApply v s
  | .offsetAdd => Sys2Proof.Machine.execOffsetAdd s
  | .followCheck => Sys2Proof.Machine.execFollowCheck s
  | .refclkTimeLoss => Sys2Proof.Machine.execRefclkTimeLoss s
  | .refclkTimeReturn => Sys2Proof.Machine.execRefclkTimeReturn s
  | .ts2Pop => Sys2Proof.Machine.execTs2Pop s
  | .trigArm n v => Sys2Proof.Machine.execTrigArm n v s
  | .trigDisarm n v => Sys2Proof.Machine.execTrigDisarm n v s
  | .trigEdge n => Sys2Proof.Machine.execTrigEdge n s
  | .trigPulseEnd n => Sys2Proof.Machine.execTrigPulseEnd n s
  | .captureEdge n rising => Sys2Proof.Machine.execCaptureEdge n rising s
  | .capturePop n => Sys2Proof.Machine.execCapturePop n s
  | .ppsEdge => Sys2Proof.Machine.execPpsEdge s
  | .ppsPulseEnd => Sys2Proof.Machine.execPpsPulseEnd s
  | .sillageDeliver => Sys2Proof.Machine.execSillageDeliver s
  | .dispSampleCfgWrite v => Sys2Proof.Machine.execDispSampleCfgWrite v s
  | .vaultRequestDone record user noise retryNoise => Sys2Proof.Machine.execVaultRequestDone record user noise retryNoise s
  | .refreshAccrual c cs set => Sys2Proof.Machine.execRefreshAccrual c cs set s
  | .refreshIssue c cs set => Sys2Proof.Machine.execRefreshIssue c cs set s
  | .dimmTempRead c temp => Sys2Proof.Machine.execDimmTempRead c temp s
  | .srEntered c => Sys2Proof.Machine.execSrEntered c s
  | .srRequestArrival c issued => Sys2Proof.Machine.execSrRequestArrival c issued s
  | .srExitDone c => Sys2Proof.Machine.execSrExitDone c s
  | .srEntryRetry c => Sys2Proof.Machine.execSrEntryRetry c s
  | .vaultTrainingDone c spd failure => Sys2Proof.Machine.execVaultTrainingDone c spd failure s
  | .zqCalibration rank zqOk dqsOk => Sys2Proof.Machine.execZqCalibration rank zqOk dqsOk s
  | .caParityAlert c rank retryOk reads writes => Sys2Proof.Machine.execCaParityAlert c rank retryOk reads writes s
  | .ceWindowEnd c => Sys2Proof.Machine.execCeWindowEnd c s
  | .spareStart v => Sys2Proof.Machine.execSpareStart v s
  | .migrationCopy ok => Sys2Proof.Machine.execMigrationCopy ok s
  | .vaultWindowRead off len => Sys2Proof.Machine.execVaultWindowRead off len s
  | .vaultWindowWrite off data be => Sys2Proof.Machine.execVaultWindowWrite off data be s
  | .mergeWindowExpiry c record => Sys2Proof.Machine.execMergeWindowExpiry c record s
  | .auditVisit m c found flips => Sys2Proof.Machine.execAuditVisit m c found flips s
  | .auditLapAlarm m => Sys2Proof.Machine.execAuditLapAlarm m s
  | .domainRequest v => Sys2Proof.Machine.execDomainRequest v s
  | .domainRampStart d => Sys2Proof.Machine.execDomainRampStart d s
  | .domainRampDone d => Sys2Proof.Machine.execDomainRampDone d s
  | .domainPowerDown d => Sys2Proof.Machine.execDomainPowerDown d s
  | .quietEnter v => Sys2Proof.Machine.execQuietEnter v s
  | .quietEntryComplete => Sys2Proof.Machine.execQuietEntryComplete s
  | .quietStall => Sys2Proof.Machine.execQuietStall s
  | .quietExit v => Sys2Proof.Machine.execQuietExit v s
  | .powerOffCmd v => Sys2Proof.Machine.execPowerOffCmd v s
  | .allowanceRequest u => Sys2Proof.Machine.execAllowanceRequest u s
  | .allowanceGrant => Sys2Proof.Machine.execAllowanceGrant s
  | .allowanceReturn u => Sys2Proof.Machine.execAllowanceReturn u s
  | .slewStep => Sys2Proof.Machine.execSlewStep s
  | .avsUpdate iout vrmOk => Sys2Proof.Machine.execAvsUpdate iout vrmOk s
  | .avsRestart v => Sys2Proof.Machine.execAvsRestart v s
  | .tempSample temps => Sys2Proof.Machine.execTempSample temps s
  | .pwrwarnAssert => Sys2Proof.Machine.execPwrwarnAssert s
  | .vddCoreWarn mv => Sys2Proof.Machine.execVddCoreWarn mv s
  | .brownoutSr => Sys2Proof.Machine.execBrownoutSr s
  | .brownoutRecover mv => Sys2Proof.Machine.execBrownoutRecover mv s
  | .brownoutNormal => Sys2Proof.Machine.execBrownoutNormal s
  | .vddCoreReset mv => Sys2Proof.Machine.execVddCoreReset mv s
  | .railMonitorReset rail => Sys2Proof.Machine.execRailMonitorReset rail s
  | .smbTemps pec => Sys2Proof.Machine.execSmbTemps pec s
  | .smbState pec => Sys2Proof.Machine.execSmbState pec s
  | .smbBrown pec => Sys2Proof.Machine.execSmbBrown pec s
  | .smbIout pec => Sys2Proof.Machine.execSmbIout pec s
  | .smbPstate val pec => Sys2Proof.Machine.execSmbPstate val pec s
  | .porstAssert ns => Sys2Proof.Machine.execPorstAssert ns s
  | .porstRelease bootSel smbAddr => Sys2Proof.Machine.execPorstRelease bootSel smbAddr s
  | .startPush v => Sys2Proof.Machine.execStartPush v s
  | .startFlash v => Sys2Proof.Machine.execStartFlash v s
  | .charterAbort v => Sys2Proof.Machine.execCharterAbort v s
  | .charterLock v => Sys2Proof.Machine.execCharterLock v s
  | .pushChunk v => Sys2Proof.Machine.execPushChunk v s
  | .flashReadDone density data => Sys2Proof.Machine.execFlashReadDone density data s
  | .verifyDone => Sys2Proof.Machine.execVerifyDone s
  | .drainTimeout => Sys2Proof.Machine.execDrainTimeout s
  | .loadStart => Sys2Proof.Machine.execLoadStart s
  | .sectionDone => Sys2Proof.Machine.execSectionDone s
  | .charterRun => Sys2Proof.Machine.execCharterRun s
  | .mboxGetIdentity side => Sys2Proof.Machine.execMboxGetIdentity side s
  | .mboxGetChallenge side => Sys2Proof.Machine.execMboxGetChallenge side s
  | .mboxAttest side => Sys2Proof.Machine.execMboxAttest side s
  | .mboxProvision blown => Sys2Proof.Machine.execMboxProvision blown s
  | .addSlot blown => Sys2Proof.Machine.execAddSlot blown s
  | .revokeSlot blown => Sys2Proof.Machine.execRevokeSlot blown s
  | .raiseSvn blown => Sys2Proof.Machine.execRaiseSvn blown s
  | .ownerLock blown => Sys2Proof.Machine.execOwnerLock blown s
  | .debugUnlock => Sys2Proof.Machine.execDebugUnlock s
  | .ownerReturn blown => Sys2Proof.Machine.execOwnerReturn blown s
  | .mboxQueuedStart side => Sys2Proof.Machine.execMboxQueuedStart side s
  | .mboxOpDone side => Sys2Proof.Machine.execMboxOpDone side s
  | .mbOp op pec => Sys2Proof.Machine.execMbOp op pec s
  | .mbStatus pec => Sys2Proof.Machine.execMbStatus pec s
  | .mbNonce nonce pec => Sys2Proof.Machine.execMbNonce nonce pec s
  | .mbOffset offset pec => Sys2Proof.Machine.execMbOffset offset pec s
  | .mbRead pec => Sys2Proof.Machine.execMbRead pec s
  | .jtagBypass trst bits => Sys2Proof.Machine.execJtagBypass trst bits s
  | .jtagIdcode trst => Sys2Proof.Machine.execJtagIdcode trst s
  | .jtagSamplePreload trst bits => Sys2Proof.Machine.execJtagSamplePreload trst bits s
  | .jtagExtest trst bits => Sys2Proof.Machine.execJtagExtest trst bits s
  | .jtagMbox trst off w => Sys2Proof.Machine.execJtagMbox trst off w s
  | .jtagDebugInstruction trst code => Sys2Proof.Machine.execJtagDebugInstruction trst code s
  | .perstAssert => Sys2Proof.Machine.execPerstAssert s
  | .perstRelease => Sys2Proof.Machine.execPerstRelease s
  | .pcieHotReset => Sys2Proof.Machine.execPcieHotReset s
  | .pcieDlDown => Sys2Proof.Machine.execPcieDlDown s
  | .cofferRound ecc => Sys2Proof.Machine.execCofferRound ecc s
  | .cofferHostRead off len flips => Sys2Proof.Machine.execCofferHostRead off len flips s
  | .cofferHostWrite off data be flips => Sys2Proof.Machine.execCofferHostWrite off data be flips s
  | .cofferSetWrite off data be flips => Sys2Proof.Machine.execCofferSetWrite off data be flips s
  | .cofferClearWrite off data be flips => Sys2Proof.Machine.execCofferClearWrite off data be flips s
  | .dmaRingEnable n v => Sys2Proof.Machine.execDmaRingEnable n v s
  | .dmaRingDisable n v => Sys2Proof.Machine.execDmaRingDisable n v s
  | .dmaTailWrite n v => Sys2Proof.Machine.execDmaTailWrite n v s
  | .dmaDescFetch n desc data => Sys2Proof.Machine.execDmaDescFetch n desc data s
  | .dmaRecordWrite n => Sys2Proof.Machine.execDmaRecordWrite n s
  | .dmaFlushTimeout n => Sys2Proof.Machine.execDmaFlushTimeout n s
  | .dmaStarveInterval n => Sys2Proof.Machine.execDmaStarveInterval n s
  | .injectFrameRead n data => Sys2Proof.Machine.execInjectFrameRead n data s
  | .batchSieve n => Sys2Proof.Machine.execBatchSieve n s
  | .batchReg32 n => Sys2Proof.Machine.execBatchReg32 n s
  | .batchSwap n => Sys2Proof.Machine.execBatchSwap n s
  | .batchWaitDrained n => Sys2Proof.Machine.execBatchWaitDrained n s
  | .batchWaitTimeout n => Sys2Proof.Machine.execBatchWaitTimeout n s
  | .batchDone n => Sys2Proof.Machine.execBatchDone n s
  | .irqForce off v => Sys2Proof.Machine.execIrqForce off v s
  | .msixSend => Sys2Proof.Machine.execMsixSend s
  | .irqEoi v => Sys2Proof.Machine.execIrqEoi v s
  | .msixHoldoffExpiry => Sys2Proof.Machine.execMsixHoldoffExpiry s
  | .msixUnmask func vec enable => Sys2Proof.Machine.execMsixUnmask func vec enable s
  | .portWindowLatch => Sys2Proof.Machine.execPortWindowLatch s
  | .perfFreeze v => Sys2Proof.Machine.execPerfFreeze v s
  | .perfUnfreeze v => Sys2Proof.Machine.execPerfUnfreeze v s
  | .perfScheduledAct => Sys2Proof.Machine.execPerfScheduledAct s
  | .perfClear v => Sys2Proof.Machine.execPerfClear v s
  | .perfDump => Sys2Proof.Machine.execPerfDump s
  | .exportTake b => Sys2Proof.Machine.execExportTake b s
  | .exportItemRetry b => Sys2Proof.Machine.execExportItemRetry b s
  | .ipfixFlush b => Sys2Proof.Machine.execIpfixFlush b s
  | .ipfixTemplateResend b => Sys2Proof.Machine.execIpfixTemplateResend b s
  | .nptMapValidate m v => Sys2Proof.Machine.execNptMapValidate m v s
  | .noseRequestStart b => Sys2Proof.Machine.execNoseRequestStart b s
  | .noseScanDone b mem at_ => Sys2Proof.Machine.execNoseScanDone b mem at_ s
  | .noseReportRetry b => Sys2Proof.Machine.execNoseReportRetry b s
  | .noseBurstReturn b => Sys2Proof.Machine.execNoseBurstReturn b s
  | .noseInvalidate v => Sys2Proof.Machine.execNoseInvalidate v s
  | .noseQuiesced g => Sys2Proof.Machine.execNoseQuiesced g s
  | .noseValidate v => Sys2Proof.Machine.execNoseValidate v s
  | .noseMemWrite v => Sys2Proof.Machine.execNoseMemWrite v s
  | .refclkEthReturn => Sys2Proof.Machine.execRefclkEthReturn s
  | .pcieLinkUp rate width => Sys2Proof.Machine.execPcieLinkUp rate width s
  | .pushHalfConsumed => Sys2Proof.Machine.execPushHalfConsumed s
  | .egressUnderrun k => Sys2Proof.Machine.execEgressUnderrun k s
  | .fecUncorrCodeword p => Sys2Proof.Machine.execFecUncorrCodeword p s
  | .railResetRelease rail => Sys2Proof.Machine.execRailResetRelease rail s

end Sys2Proof.Machine
end

