-- ==== Sys2Proof/Machine/Tick.lean ====
section
/-!
DEFINITION. One tick of the 1 GHz time base (R335, R481): network time, TICK counters, duration events (R482), the Tellers' waits,
the Tether link's bits and the PBA bit. It is what the block does when no command waits (log entry 6).
-/
namespace Sys2Proof.Machine

/-- A SNAP of this tick shows the time that the tick has reached (R339). -/
def tickSnap (s : State) : State := if s.time.snapDue then latchSnap s else s

/-- Network time advances by TIME_INCR, while PD28 is ON. -/
def tickTime (s : State) : State :=
  let net := if domOn s 28 then s.time.net + timeIncr s else s.time.net
  { s with time := { s.time with tick := s.time.tick + 1, net := net } }

/-- Every unit's TICK counter advances (R481); it stops under a freeze and holds at 2^64 − 1. -/
def tickCount (s : State) : State :=
  if s.perf.frozen || !domOn s 28 then s else { s with perf := { s.perf with ticks := capAt (2 ^ 64 - 1) (s.perf.ticks + 1) } }

/-- Tellers of a Desk that wait (R156). -/
def waitingTellers (s : State) (d : Nat) : Nat := (List.range 8).countP fun j => (s.tellerAt (8 * d + j)).st == .wait

/-- Nanoseconds of waiting of a Desk's Tellers. -/
def tickDesk (d : Nat) (s : State) : State :=
  let n := waitingTellers s d
  if n = 0 then s else s |> bump64 (Reg.TELL_WAIT_NS_LO d) n |> perfN (uDesk d) 0x03 n

/-- An event that lasts counts a tick at which its condition holds, if the unit's domain is ON (R482). -/
def lasting (dom unit code : Nat) (on : State → Bool) (s : State) : State := if domOn s dom && on s then perf unit code s else s

/-- A READY item of Branch b finds no available Teller. -/
def readyStuck (s : State) (b : Nat) : Bool :=
  (s.dispAt b).items.any (·.st == .ready) && !(List.range 32).any fun i => available s b i

/-- Duration events of Branch b: Exchange output, Pace, Dispatcher, Till slice and Nose (Table 20.6). -/
def tickBranch (b : Nat) (s : State) : State :=
  s |> lasting (9 + b) (uBranch b) 0x06 (fun s => (s.assayAt b).held.isSome)
    |> lasting (9 + b) (uBranch b) 0x07 (fun s => belowFloor s b)
    |> lasting (9 + b) (uDisp b) 0x06 (fun s => probeHeld s b)
    |> lasting (9 + b) (uDisp b) 0x07 (fun s => readyStuck s b)
    |> lasting (13 + b) (uTill b) 0x09 (fun s => !(s.ledgerAt b).miss.isEmpty)
    |> lasting (17 + b) (uNose b) 0x05 (fun s => (s.userAt b).st == .granted)
    |> lasting (17 + b) (uNose b) 0x06 (fun s => Decidable.decide (0 < (s.noseAt b).step))

/-- Duration events of Vault channel c. -/
def tickChannel (c : Nat) (s : State) : State :=
  s |> lasting (23 + c / 4) (uVault c) 0x08 (fun s => (s.chanAt c).st == .selfRefresh)
    |> lasting (23 + c / 4) (uVault c) 0x09 (fun s => chanHot (s.chanAt c))

/-- One tick. -/
def tick (s : State) : State :=
  let s := s |> tickTime |> tickSnap |> tickCount
  let s := { s with out := { s.out with fc := [] } }
  let s := (List.range 16).foldl (fun s d => tickDesk d s) s
  let s := (List.range 4).foldl (fun s b => tickBranch b s) s
  let s := (List.range 8).foldl (fun s c => tickChannel c s) s
  let s := (List.range 4).foldl (fun s b => noseTick b s) s
  let s := lasting 25 uDma 0x05 (fun s => (List.range 16).any fun n => starved s n) s
  s |> drainWrites |> windowTick |> tethTick |> settlePba

end Sys2Proof.Machine
end

