-- ==== Sys2Proof/Safety.lean ====
section
/-!
DEFINITION. What counts as a safe step and a safe run of the block, and the words that the statements use of it.
-/
namespace Sys2Proof.Machine

/-- The step goes on: no fault and no refusal. -/
def Goes (s : State) : Prop := ∃ t, step s = .next t

/-- The command is answered with a next state, and P holds of it. -/
abbrev Answers (c : Instr) (s : State) (P : State → Prop) : Prop := ∃ t, exec c s = .next t ∧ P t

/-- The command is answered with the state as it stands. -/
abbrev NoEffect (c : Instr) (s : State) : Prop := exec c s = .next s

/-! ### Parts of the state that a command leaves alone -/

/-- The waiting commands, the fuses and the tick. -/
def State.held (s : State) := (s.pending, s.fuses, s.time.tick)

/-- The waiting commands, the fuses, the tick, and what a Charter load fixes for ports, parser and lanes. -/
def State.kept (s : State) := (s.pending, s.fuses, s.time.tick, s.portCfg, s.templates, s.laneTaps, s.laneInv)

/-- The PCIe link and its training, its error status aside: any access of the Vault may add an error to that (R401). -/
def Pcie.link (p : Pcie) := (p.up, p.rate, p.width, p.training)

/-- What the control plane holds: interrupt delivery, the security engine, the loader, the PCIe link, the classification tables, the
epochs and the scan automata. -/
def State.control (s : State) := (s.msix, s.sec, s.loader, s.pcie.link, s.sieve, s.accord, s.automata)

/-- What packets and flows hold, from the ports to the Vault. -/
def State.traffic (s : State) :=
  (s.dispo, s.ports, s.lanes, s.swc, s.tm, s.assay, s.ledger, s.disp, s.tellers, s.desks, s.nose, s.vault)

/-- What flows hold: the Tills, the dispatchers, the Tellers and their stores, the engines and the Vault. -/
def State.flows (s : State) := (s.ledger, s.disp, s.tellers, s.desks, s.nose, s.vault)

/-- What the PCIe side holds beside its tables: the pins, the link (its error status aside), the rings and MSI-X. -/
def State.edge (s : State) := (s.pins, s.pcie.link, s.rings, s.msix)

/-- The ports and their lanes. -/
def State.line (s : State) := (s.ports, s.lanes)

/-- The frames in storage and what waits at the Assayers. -/
def State.cells (s : State) := (s.swc, s.assay)

/-- What the Tills and the Vault hold. -/
def State.books (s : State) := (s.ledger, s.vault)

/-- The scan engines and their automata. -/
def State.scans (s : State) := (s.nose, s.automata)

/-- The Tether and the pins. -/
def State.mate (s : State) := (s.teth, s.pins)

/-- The Tellers and the stores of their Desks. -/
def State.crew (s : State) := (s.tellers, s.desks)

/-- What decides on power: the Treasury's own state and the pins. -/
def State.power (s : State) := (s.treas, s.pins)

/-! ### Words that the statements use -/

/-- The argument of the signed command in the host buffer. -/
def commandArg (s : State) : Bytes := slice (hostBuf s commandSize) 0x30 64

/-- OWNER_CMD runs with this code, and its length is that of a signed command. -/
def commandHeld (s : State) (code : Nat) : Bool := commandRuns s code && lenIs s false commandSize

/-- The result of the checks of the signed command before its code and arguments are judged (R446). -/
def commandResult (s : State) : Nat := (commandCheck s (hostBuf s commandSize)).1

/-- P holds and the result is OK where the signed command passes its checks; where a check fails, its result stands, and neither the
fuses nor the debug port change (R446). -/
def commandGives (s t : State) (P : Prop) : Prop :=
  (commandResult s = RES_OK → P ∧ t.sec.host.done = some (RES_OK, [])) ∧
  (commandResult s ≠ RES_OK → t.fuses = s.fuses ∧ t.sec.debugOpen = s.sec.debugOpen ∧ t.sec.host.done = some (commandResult s, []))

/-- Byte x of the Coffer. -/
def cofferByte (s : State) (x : Nat) : Byte := (cofferWord s (x / 8)).extractLsb' (8 * (x % 8)) 8

/-- What an access of each row of Table 19.2 makes of a byte: a write, the set alias, the clear alias. -/
def cofferOp (row : Nat) (old new : Byte) : Byte := if row = 0 then new else if row = 1 then old ||| new else old &&& ~~~new

/-- A write of a row of Table 19.2 that the Coffer takes (R455, R459). -/
def cofferTakes (s : State) (row off n : Nat) : Bool :=
  domOn s 27 && cofferRow off == row && inCofferRow off n && n ≤ 512 && (row == 0 || ((n == 4 || n == 8) && off % n == 0))

/-- A read of the Coffer or of an alias that completes (R455, R459). -/
def cofferReads (s : State) (off n : Nat) : Bool := domOn s 27 && inCofferRow off n && n ≤ 512

/-- The command is a write of a row of Table 19.2; `flips` says what the arrays of the words hold wrong. -/
def writesCoffer (c : Instr) (row off : Nat) (data : Bytes) (be : List Bool) (flips : List WordFlips) : Prop :=
  (row = 0 ∧ c = .cofferHostWrite off data be flips) ∨ (row = 1 ∧ c = .cofferSetWrite off data be flips) ∨
    (row = 2 ∧ c = .cofferClearWrite off data be flips)

/-- The operation that a write of SIEVE_WR_CMD with code k puts to the Sieve: its command fields and the staged entry. -/
def portJob (k : Nat) (cmd : Word32) (s : State) : SieveJob :=
  ⟨.port, k, bits cmd.toNat 25 8, bits cmd.toNat 27 26, bits cmd.toNat 29 28, stagedEntry s⟩

/-- The link frame of a kind, sequence number and payload (R321). -/
def linkFrame (kind seq : Nat) (payload : Bytes) : LinkFrame :=
  { kind := kind, length := payload.length, seq := seq, payload := payload, crc := Config.linkCrc kind seq payload }

/-- What a host WRITE makes of a record (R120): the words of the mask, and CLOSING where STATE asks for it or the record was so. -/
def writtenRecord (m : Nat) (st rc : Rec) : Rec :=
  if (if m.testBit 0 && rcState st != rcState rc then rcState st else rcState rc) = 3 then setW0 (writeWords m st rc) 35 32 3 else writeWords m st rc

/-- The waiter is the packet of the frame. -/
def waitsOn (frame : Nat) : Waiter → Bool
  | .packet d _ => d.frame == frame
  | _ => false

/-- G0 of the item that DISP_HOST_ITEM stages. -/
def stagedG0 (s : State) (b : Nat) : Word64 :=
  (BitVec.ofNat 64 (pairOf s (Reg.DISP_HOST_ITEM b 0)) &&& 0x07FF013F000000FF#64) ||| BitVec.ofNat 64 (2 ^ 8 * 2 + 2 ^ 15 + 2 ^ 38 * b)

/-- The sweep generator of Branch b may offer an item now. -/
def sweepDue (s : State) (b : Nat) : Bool :=
  fieldOf s (Reg.DISP_SWEEP_CFG b) 15 0 != 0 && fieldOf s (Reg.DISP_MAINT_ROUTINE b) 15 8 != 0 && s.vault.ftLog2 != 0 && running s && generatorsOn s &&
    Decidable.decide (1000 * fieldOf s (Reg.DISP_SWEEP_CFG b) 15 0 ≤ since s (s.dispAt b).sweepAt)

/-! ### Microwords -/

/-- The word at the PC of Teller t. -/
def theWord (s : State) (t : Nat) : MicroWord := wordOf s t (s.tellerAt t).pc

/-- Teller t executes its word now: it runs, no trap is due, no breakpoint stands at its PC, and no check holds the word back or
finds it illegal (R155 to R160, R165 to R168, R175). -/
def wordGoes (s : State) (t : Nat) : Bool :=
  (s.tellerAt t).st == .run && (dueTrap s t (s.tellerAt t) (theWord s t)).isNone && !atBreak s t (s.tellerAt t) &&
    match wordGate s (t / 32) t (s.tellerAt t) (theWord s t) with | .go => true | _ => false

/-- The word has no record-window operation but LD, no packet operation that acts outside the Teller, no Dispatcher operation, and
its SEQ stays within the routine. -/
def plainUnits (w : MicroWord) : Bool :=
  Decidable.decide (mwFop w ≤ 1) && !(([4, 7, 9, 10, 12] : List Nat).contains (mwQop w)) && mwXop w == 0 && Decidable.decide (mwSeq w < 0xC)

/-- What a word of plain units leaves alone: every other Teller; the registers that no unit of the word writes; S and the window; the
flags, when ALU-A is idle; and of the rest of the machine all but registers, counters and, with a memory operation, the Coffer's
requests. -/
def wordFrame (s : State) (t : Nat) (u : State) : Prop :=
  (∀ q, q ≠ t → u.tellerAt q = s.tellerAt q) ∧
  (∀ r, r < 32 → r ∉ regWrites (theWord s t) → gReg (u.tellerAt t) r = gReg (s.tellerAt t) r) ∧
  (u.tellerAt t).s = (s.tellerAt t).s ∧ (u.tellerAt t).win = (s.tellerAt t).win ∧
  (mwAop (theWord s t) = 0 → (u.tellerAt t).z = (s.tellerAt t).z ∧ (u.tellerAt t).n = (s.tellerAt t).n ∧ (u.tellerAt t).c = (s.tellerAt t).c) ∧
  u = { s with tellers := u.tellers, regs := u.regs, coffer := u.coffer } ∧
  (mwMop (theWord s t) = 0 → u = { s with tellers := u.tellers, regs := u.regs })


/-- The row's word leaves in G[AD] and in the flags what f makes of a, b and the old G[AD]. -/
def aluADone (c : Instr) (s : State) (t : Nat) (f : Word64 → Word64 → Word64 → Word64 × Bool) : Prop :=
  Answers c s fun u =>
    let r := f (gReg (s.tellerAt t) (mwAs1 (theWord s t))) (srcA2 (s.tellerAt t) (theWord s t)) (gReg (s.tellerAt t) (mwAd (theWord s t)))
    gReg (u.tellerAt t) (mwAd (theWord s t)) = r.1 ∧ (u.tellerAt t).z = (r.1 == 0) ∧ (u.tellerAt t).n = r.1.getLsbD 63 ∧
    (u.tellerAt t).c = r.2 ∧ wordFrame s t u

/-- The row's word sets the flags by what f makes of a and b, and ALU-A writes no register. -/
def aluATests (c : Instr) (s : State) (t : Nat) (f : Word64 → Word64 → Word64 × Bool) : Prop :=
  Answers c s fun u =>
    let r := f (gReg (s.tellerAt t) (mwAs1 (theWord s t))) (srcA2 (s.tellerAt t) (theWord s t))
    (u.tellerAt t).z = (r.1 == 0) ∧ (u.tellerAt t).n = r.1.getLsbD 63 ∧ (u.tellerAt t).c = r.2 ∧ wordFrame s t u

/-- The row's word leaves in G[BD] what f makes of port B's source and the old G[BD]. -/
def portBDone (c : Instr) (s : State) (t : Nat) (f : Word64 → Word64 → Word64) : Prop :=
  Answers c s fun u =>
    gReg (u.tellerAt t) (mwBd (theWord s t)) = f (srcB (s.tellerAt t) (theWord s t)) (gReg (s.tellerAt t) (mwBd (theWord s t))) ∧ wordFrame s t u


/-- The row's word issues its memory operation: it joins those outstanding at the Teller; a Coffer operation also makes its requests,
one for each word; a Sieve lookup is made now, with the item's stamp (R159, R167). -/
def memIssued (c : Instr) (s : State) (t : Nat) : Prop :=
  Answers c s fun u =>
    let x := s.tellerAt t
    let m := opOf x (theWord s t)
    (m.msel = 0 ∨ m.msel = 5 → (u.tellerAt t).mem = x.mem ++ [m] ∧ u.coffer = s.coffer) ∧
    (m.msel = 1 → (u.tellerAt t).mem = x.mem ++ [m] ∧ u.coffer = { s.coffer with pending := s.coffer.pending ++
      (if isPair m.mop then [⟨m.addr / 8, t, m.id, 0⟩, ⟨m.addr / 8 + 1, t, m.id, 1⟩] else [⟨m.addr / 8, t, m.id, 0⟩]) }) ∧
    (m.msel = 2 → let r := sieveLookup (t / 32) x.ctx.kv (wbits m.arg 7 0) (wbits x.ctx.g0 31 16) s
      (u.tellerAt t).mem = x.mem ++ [{ m with lo := some r.1, stored := r.2.1 }] ∧ u.coffer = s.coffer) ∧
    (m.msel = 0 ∨ m.msel = 1 ∨ m.msel = 2 ∨ m.msel = 5 → (u.tellerAt t).nextMem = x.nextMem + 1 ∧ (u.tellerAt t).frames = x.frames) ∧
    wordFrame s t u

/-- The row's word leads to pc, with this return stack and loop counter. -/
def seqDone (c : Instr) (s : State) (t pc : Nat) (stack : List Nat) (lc : Nat) : Prop :=
  Answers c s fun u => (u.tellerAt t).pc = pc ∧ (u.tellerAt t).stack = stack ∧ (u.tellerAt t).lc = lc ∧ wordFrame s t u

/-- Of the units of a word that act outside the Teller, only those named may act: the record window, the packet unit, the
Dispatcher unit, and a SEQ that leaves the routine. -/
def plainBut (fop qop xop seq : Bool) (w : MicroWord) : Bool :=
  (fop || Decidable.decide (mwFop w ≤ 1)) && (qop || !(([4, 7, 9, 10, 12] : List Nat).contains (mwQop w))) && (xop || mwXop w == 0) &&
    (seq || Decidable.decide (mwSeq w < 0xC))

/-- What an executed word leaves alone whatever its units do: every other Teller, the registers that it does not write, and the flags
when ALU-A is idle. -/
def wordAside (s : State) (t : Nat) (u : State) : Prop :=
  (∀ q, q ≠ t → u.tellerAt q = s.tellerAt q) ∧
  (∀ r, r < 32 → r ∉ regWrites (theWord s t) → gReg (u.tellerAt t) r = gReg (s.tellerAt t) r) ∧
  (mwAop (theWord s t) = 0 → (u.tellerAt t).z = (s.tellerAt t).z ∧ (u.tellerAt t).n = (s.tellerAt t).n ∧ (u.tellerAt t).c = (s.tellerAt t).c)

/-- The row's word stores into word FIDX of the bound record what f makes of the old word, port B's source and the mask; of W0 only the
bits open to microcode change. The record becomes dirty, and when a store reaches PIN of W0 the pin is acted on again. -/
def windowWritten (c : Instr) (s : State) (t : Nat) (f : Word64 → Word64 → Word64 → Word64) : Prop :=
  ∀ k y, (s.tellerAt t).win = some k → wayAt s (t / 32) k = some y →
    let i := mwFidx (theWord s t)
    let old := wordAt y.rc i
    let v := f old (srcB (s.tellerAt t) (theWord s t)) (srcA2 (s.tellerAt t) (theWord s t))
    let v := if i = 0 then (old &&& ~~~w0Writable) ||| (v &&& w0Writable) else v
    Answers c s fun u =>
      (∃ p, wayAt u (t / 32) k = some { markDirty s.time.tick { y with rc := withWord y.rc i v, w7Changed := y.w7Changed || (i == 7 && v != old) } with pinEff := p } ∧
        (i ≠ 0 → p = y.pinEff)) ∧
      (∀ j, j ≠ k → wayAt u (t / 32) j = wayAt s (t / 32) j) ∧ (u.tellerAt t).s = (s.tellerAt t).s ∧ (u.tellerAt t).win = some k ∧
      wordAside s t u ∧ u = { s with tellers := u.tellers, regs := u.regs, coffer := u.coffer, ledger := u.ledger }

/-- The bound record as RELWIN or the end of its item leaves it: affinity to Teller t is written into W15 unless the item executed
NOAFF (R116, R166). -/
def affinityKept (s : State) (t : Nat) (noAff : Bool) (y : Way) : Way :=
  if noAff then y else markDirty s.time.tick { y with rc := withWord y.rc 15 (setWbits (setWbits (wordAt y.rc 15) 30 26 (t % 32)) 31 31 1) }

/-- Nothing waits for the record: no OPEN, no packet, no mirror message of its own, and none of its words is lost. -/
def quietWay (y : Way) : Prop := y.setupNew = false ∧ y.w7Changed = false ∧ y.lostWords = [] ∧ y.openers = [] ∧ y.chain = []

/-- The engine of Branch b takes a scan request for group g now: it is ON, not held for an update, the group is loaded and valid, and
neither the queue nor the backlog is full (R234, R239, R240, R245). -/
def noseTakes (s : State) (b g : Nat) : Bool :=
  domOn s (17 + b) && !(s.noseAt b).hold && Decidable.decide (g < s.automata.groupCount) && Decidable.decide ((groupAt s g).base < (groupAt s g).limit) && (groupAt s g).valid &&
    Decidable.decide (noseQueued (s.noseAt b) < 256) && Decidable.decide (backlog s b < 1024 * max 1 (fieldOf s (Reg.NOSE_BACKLOG_CFG 0) 15 0))

/-! ### Rules over all commands -/

/-- The commands that program fuses (R432, R447, Table 18.8). -/
def programsFuses : Instr → Bool
  | .mboxProvision .. | .addSlot .. | .revokeSlot .. | .raiseSvn .. | .ownerLock .. | .ownerReturn .. => true
  | _ => false

/-- No fuse of f reads as cleared in g: groups, revocations, ID_DESTROYED and programmed slots stay, a programmed slot keeps its
hash, the SVN floor does not fall, and what manufacture fixed stands (R431). -/
structure FuseLe (f g : Fuses) : Prop where
  grp0 : f.grp0 = true → g.grp0 = true
  grp1 : f.grp1 = true → g.grp1 = true
  grp2 : f.grp2 = true → g.grp2 = true
  programmed : ∀ i, slotProgrammed f i = true → slotProgrammed g i = true
  slotHash : ∀ i, slotProgrammed f i = true → Tbl.get g.slotHash i 0 = Tbl.get f.slotHash i 0
  revoked : ∀ i, Tbl.get f.revoked i false = true → Tbl.get g.revoked i false = true
  svnFloor : f.svnFloor ≤ g.svnFloor
  idDestroyed : f.idDestroyed = true → g.idDestroyed = true
  idBlob : g.idBlob = f.idBlob
  deviceId : g.deviceId = f.deviceId

/-- The commands that may change the control plane's own state: interrupt delivery, the security engine, the loader, the PCIe
link, the classification tables, the epochs or the scan automata. Every other command leaves all of it as it was. -/
def mayChangeControl : Instr → Bool
  | .registerWrite .. | .parsePass .. | .sieveWrite .. | .sieveInsert .. | .sieveFind .. | .sieveInvalidate .. | .sieveSetEm ..
  | .sieveRead .. | .sieveOpDone .. | .accordSwap .. | .accordTSwap .. | .accordDrained .. | .accordDrainTmo ..
  | .vaultTrainingDone .. | .domainRampDone .. | .quietEnter .. | .quietExit .. | .powerOffCmd .. | .tempSample ..
  | .vddCoreReset .. | .railMonitorReset .. | .smbPstate .. | .porstAssert .. | .porstRelease .. | .startPush ..
  | .startFlash .. | .charterAbort .. | .charterLock .. | .pushChunk .. | .flashReadDone .. | .verifyDone ..
  | .drainTimeout .. | .loadStart .. | .sectionDone .. | .charterRun .. | .mboxGetIdentity .. | .mboxGetChallenge ..
  | .mboxAttest .. | .mboxProvision .. | .addSlot .. | .revokeSlot .. | .raiseSvn .. | .ownerLock ..
  | .debugUnlock .. | .ownerReturn .. | .mboxQueuedStart .. | .mboxOpDone .. | .mbOp .. | .mbNonce ..
  | .mbOffset .. | .mbRead .. | .jtagMbox .. | .perstAssert .. | .perstRelease .. | .pcieHotReset ..
  | .pcieDlDown .. | .cofferHostWrite .. | .cofferSetWrite .. | .cofferClearWrite .. | .batchSieve .. | .batchReg32 ..
  | .batchSwap .. | .irqForce .. | .msixSend .. | .irqEoi .. | .msixHoldoffExpiry .. | .msixUnmask ..
  | .noseInvalidate .. | .noseQuiesced .. | .noseValidate .. | .noseMemWrite .. | .pcieLinkUp .. | .pushHalfConsumed ..
  | .railResetRelease .. => true
  | _ => false

/-- Commands that leave alone all that packets and flows hold, from the ports to the Vault. -/
def leavesTraffic : Instr → Bool
  | .dmaFlushTimeout .. | .dmaRingEnable .. | .dmaRingDisable .. | .dmaTailWrite .. | .batchDone .. | .dmaDescFetch ..
  | .timeSnap .. | .timeIncrWrite .. | .timeApply .. | .followCheck .. | .refclkTimeLoss .. | .refclkTimeReturn ..
  | .trigArm .. | .trigDisarm .. | .trigEdge .. | .trigPulseEnd .. | .captureEdge .. | .capturePop ..
  | .ppsEdge .. | .ppsPulseEnd .. | .ts2Pop .. | .sillageDeliver .. | .dispSampleCfgWrite .. | .portWindowLatch ..
  | .perfFreeze .. | .perfUnfreeze .. | .perfScheduledAct .. | .perfClear .. | .perfDump .. | .sieveWrite ..
  | .sieveInsert .. | .sieveFind .. | .sieveInvalidate .. | .sieveSetEm .. | .sieveRead .. | .sieveOpDone ..
  | .batchSieve .. | .accordSwap .. | .accordTSwap .. | .accordDrained .. | .accordDrainTmo .. | .batchSwap ..
  | .batchWaitDrained .. | .batchWaitTimeout .. | .occLimitWrite .. | .dispStallInterval .. | .allowanceGrant .. | .slewStep ..
  | .noseBurstReturn .. | .noseInvalidate .. | .noseQuiesced .. | .noseValidate .. | .noseMemWrite .. | .auditLapAlarm ..
  | .csScrub .. | .fecUncorrCodeword .. | .nptMapValidate .. | .gclDurRead .. | .offsetAdd .. | .dmaStarveInterval ..
  | .tethRetrain .. | .tethTrainDone .. | .tethLaneCheck .. | .tethLinkUp .. | .tethReform .. | .tethLinkDown ..
  | .linkFrameRx .. | .heartbeatSend .. | .paceUpdate .. | .domainRequest .. | .domainRampStart .. | .avsUpdate ..
  | .avsRestart .. | .quietStall .. | .allowanceRequest .. | .allowanceReturn .. | .smbTemps .. | .smbState ..
  | .smbBrown .. | .smbIout .. | .mboxQueuedStart .. | .mboxGetIdentity .. | .mboxGetChallenge .. | .mboxAttest ..
  | .addSlot .. | .revokeSlot .. | .raiseSvn .. | .ownerLock .. | .debugUnlock .. | .ownerReturn ..
  | .mboxProvision .. | .mboxOpDone .. | .mbOp .. | .mbStatus .. | .mbNonce .. | .mbOffset ..
  | .mbRead .. | .jtagBypass .. | .jtagIdcode .. | .jtagSamplePreload .. | .jtagExtest .. | .jtagMbox ..
  | .jtagDebugInstruction .. | .pushHalfConsumed .. | .msixSend .. | .msixHoldoffExpiry .. | .msixUnmask .. | .irqEoi ..
  | .perstRelease .. | .pcieLinkUp .. | .rcRead .. | .unsupportedRequest .. => true
  | _ => false

/-- Commands that leave alone what flows hold: the Tills, the dispatchers, the Tellers and their stores, the engines, the Vault. -/
def leavesFlows : Instr → Bool
  | .fcXoffRepeat .. | .pauseExpiry .. | .mintRound .. | .frameRxStart .. | .macControlFrame .. | .samplerEnable ..
  | .sampleSeedWrite .. | .swcGrpWrite .. | .swcGrpRead .. | .xchHoldRelease .. | .xchStallInterval .. | .injectFrameRead ..
  | .gclDurWrite .. | .gateChange .. | .gateDisable .. | .gateSwitch .. | .shaperUpdate .. | .clearDebt ..
  | .tmSelect .. | .txCopyEnd .. | .egressUnderrun .. | .gateEntryBoundary .. | .holdExpiry .. | .polWrite ..
  | .polRead .. | .polReadClear .. | .polRefill .. | .dmaRecordWrite .. | .portEnable .. | .portDisable ..
  | .portAcquireDone .. | .portAlignDone .. | .portLinkUp .. | .portLinkDown .. | .remoteFault .. | .refclkEthLoss ..
  | .refclkEthReturn .. | .tetherCopyRx .. | .pcieHotReset .. | .pcieDlDown .. => true
  | c => leavesTraffic c

/-- Vault and Coffer stand in their canonical form: addresses strictly rising, and no entry that an unlisted address reads as. -/
def MemoryWf (s : State) : Prop := Tbl.wf (.data Rec.empty) s.vault.mem ∧ Tbl.wf 0 s.coffer.words

end Sys2Proof.Machine
end

