-- ==== Sys2Proof/WellFormed.lean ====
section
/-!
DEFINITION. Which commands are well formed (log entry 2): the ranges of operands that their types leave wider than the hardware's
interfaces are. The meanings do not rest on it: each is total.
-/
namespace Sys2Proof

/-- The operands lie in the ranges of the interface that they come from. -/
def Instr.wellFormed : Instr → Bool
  | .registerWrite off size _ => off < 0x1010000 && (size == 4 || size == 8)
  | .rcRead off size => off < 0x1011000 && (size == 4 || size == 8)
  | .unsupportedRequest off size _ => off < 0x1010000 && 1 ≤ size && size ≤ 4096
  | .paceUpdate _ descs steps => descs < 2 ^ 34 && steps < 2 ^ 34
  | .frameRxStart _ data _ => 1 ≤ data.length && data.length ≤ 65536
  | .frameRxTail _ data _ _ syms => data.length ≤ 65536 && syms.length ≤ 8
  | .macControlFrame _ data _ => 60 ≤ data.length && data.length ≤ 65536
  | .durableDirtyExpiry _ way => way < 393216
  | .lockAlarm _ way => way < 393216
  | .tethLaneCheck errors _ => errors.length ≤ 8
  | .linkFrameRx kind _ _ _ _ _ => 1 ≤ kind && kind ≤ 5
  | .tetherCopyRx _ data => data.length ≤ 65536
  | .vaultRequestDone record _ noise retry => record < 2 ^ 33 && noise.length ≤ 160 && retry.length ≤ 160
  | .dimmTempRead _ temps => temps.length ≤ 8 && temps.all fun t => -128 ≤ t && t < 128
  | .caParityAlert _ _ _ reads writes => reads.all (· < 2 ^ 33) && writes.all (· < 2 ^ 33)
  | .vaultWindowRead off len => off < 0x4000000 && 1 ≤ len && len ≤ 4096
  | .vaultWindowWrite off data be => off < 0x4000000 && 1 ≤ data.length && data.length ≤ 4096 && be.length ≤ data.length
  | .mergeWindowExpiry _ record => record < 2 ^ 33
  | .auditVisit _ _ _ flips => flips.length ≤ 65
  | .avsUpdate iout _ => iout < 4096
  | .tempSample temps => temps.length ≤ 16 && temps.all fun t => -32768 ≤ t && t < 32768
  | .vddCoreWarn mv => mv < 4096
  | .brownoutRecover mv => mv < 4096
  | .vddCoreReset mv => mv < 4096
  | .flashReadDone density data => (density.all fun n => n ≤ 2 ^ 40) && data.all fun b => b.length ≤ 0x4000000
  | .mbNonce nonce _ => nonce.length ≤ 32
  | .jtagMbox _ off _ => off < 0x10000 && off % 4 == 0
  | .cofferHostRead off len _ => off < 0x4000000 && 1 ≤ len && len ≤ 4096
  | .cofferHostWrite off data be _ => off < 0x4000000 && 1 ≤ data.length && data.length ≤ 4096 && be.length ≤ data.length
  | .cofferSetWrite off data be _ => off < 0x4000000 && 1 ≤ data.length && data.length ≤ 4096 && be.length ≤ data.length
  | .cofferClearWrite off data be _ => off < 0x4000000 && 1 ≤ data.length && data.length ≤ 4096 && be.length ≤ data.length
  | .dmaDescFetch _ desc data => (desc.all fun d => d.length == 32) && data.all fun b => b.length ≤ 65536
  | .injectFrameRead _ data => data.all fun b => b.length ≤ 65536
  | .irqForce off _ => off < 0x1000000 && off % 4 == 0
  | .mintRound | .assayAdmit _ | .parsePass _ _ _ | .xchHoldRelease _ | .xchStallInterval _ | .recircPlaceFreed _
  | .tillProbe _ _ | .candidateReadDone _ _ | .fillRetry _ _ | .occLimitWrite _ | .setupBurstWrite _ _
  | .missTimeout _ _ _ | .tillFlushStart _ _ | .tillFlushDone _ | .lockWaitTimeout _ | .tillLookup _ | .tillWrite _ _
  | .tillCreate _ | .tillDelete _ | .tillFlush _ | .tillReadSlot _ | .hreqDone _ | .sieveWrite _ | .sieveInsert _
  | .sieveFind _ | .sieveInvalidate _ | .sieveSetEm _ | .sieveRead _ | .sieveOpDone | .accordSwap | .accordTSwap
  | .accordDrained | .accordDrainTmo | .memReply _ _ | .microTrap _ | .csScrub _ _ _ | .csRead _ _ | .csReadDone _ _
  | .tctrlStop _ | .tctrlCont _ | .mwFence _ _ | .mwHold _ _ | .seqNext _ _ | .seqJump _ _ | .seqBrt _ _ | .seqBrf _ _
  | .seqCall _ _ | .seqCallt _ _ | .seqRet _ _ | .seqRett _ _ | .seqLoop _ _ | .seqLdloop _ _ | .seqLdloopg _ _
  | .seqJtab _ _ | .seqEnd _ _ | .seqResume _ _ | .seqTrapv _ _ | .seqHalt _ _ | .aopAdd _ _ | .aopSub _ _
  | .aopAnd _ _ | .aopOr _ _ | .aopXor _ _ | .aopAndn _ _ | .aopMov _ _ | .aopShl _ _ | .aopShr _ _ | .aopSar _ _
  | .aopRol _ _ | .aopRor _ _ | .aopMinu _ _ | .aopMaxu _ _ | .aopMins _ _ | .aopMaxs _ _ | .aopCmp _ _ | .aopTst _ _
  | .aopMul _ _ | .aopMulhu _ _ | .aopAddsu _ _ | .aopSubsu _ _ | .aopExt _ _ | .aopIns _ _ | .aopPopc _ _
  | .aopClz _ _ | .aopCtz _ _ | .aopBswap _ _ | .aopSext _ _ | .aopZext _ _ | .aopSetc _ _ | .bopMov _ _ | .bopAdd _ _
  | .bopSub _ _ | .bopAnd _ _ | .bopOr _ _ | .bopXor _ _ | .bopShl _ _ | .bopShr _ _ | .bopInc _ _ | .bopDec _ _
  | .bopNot _ _ | .bopZx8 _ _ | .bopZx16 _ _ | .bopZx32 _ _ | .bopHi32 _ _ | .bopLo32in _ _ | .bopHi32in _ _
  | .fopLd _ _ | .fopSt _ _ | .fopAdd _ _ | .fopOr _ _ | .fopAndn _ _ | .fopStm _ _ | .fopSetstate _ _ | .fopOpen _ _
  | .fopRelwin _ _ | .fopFlush _ _ | .mopLd _ _ | .mopLd2 _ _ | .mopSt _ _ | .mopSt2 _ _ | .mopFadd _ _ | .mopSwap _ _
  | .mopCas _ _ | .mopLookup _ _ | .mopGuard _ _ | .mopFtwr _ _ | .mopUnguard _ _ | .mopSweep _ _ | .hopFmix _ _
  | .hopFlow _ _ | .hopCrc32c _ _ | .hopRange _ _ | .hopCanda _ _ | .hopCandb _ _ | .qopLdpkt _ _ | .qopLddesc _ _
  | .qopSetact _ _ | .qopParam _ _ | .qopRecirc _ _ | .qopPunt _ _ | .qopMirror _ _ | .qopDrop _ _ | .qopPolice _ _
  | .qopScan _ _ | .qopNoseget _ _ | .qopRelease _ _ | .copInc _ _ | .copAdd _ _ | .copRd _ _ | .copRdclr _ _
  | .copPerf _ _ | .copTick _ _ | .topNow _ _ | .topArr _ _ | .topElapsed _ _ | .topLockt _ _ | .topSec _ _
  | .topNsfrac _ _ | .xopYield _ _ | .xopPost _ _ | .xopTrace _ _ | .xopNoaff _ _ | .dispatchDecision _
  | .affWaitExpiry _ _ | .preemptWaitExpiry _ _ | .dispStallInterval _ | .hostItemPost _ | .sweepOffer _
  | .affDataAccess _ _ | .tmSelect _ _ _ | .txCopyEnd _ _ | .swcGrpWrite _ | .swcGrpRead _ | .sampleSeedWrite _ _
  | .samplerEnable _ _ | .shaperUpdate _ _ | .clearDebt _ _ | .gclDurWrite _ | .gclDurRead | .gateChange _ _
  | .gateSwitch _ | .gateEntryBoundary _ | .gateDisable _ _ | .pauseExpiry _ _ | .fcXoffRepeat _ _ | .holdExpiry _
  | .polWrite _ | .polRead _ | .polReadClear _ | .polRefill _ | .portEnable _ _ | .portDisable _ _ | .portAcquireDone _
  | .portAlignDone _ | .portLinkUp _ | .portLinkDown _ _ _ | .remoteFault _ | .refclkEthLoss | .tethRetrain _
  | .tethTrainDone | .tethLinkUp _ _ | .tethReform _ _ | .tethLinkDown | .heartbeatSend | .heartbeatRx _ | .peerLost
  | .mirrorApply _ | .recoveryRequestRx _ | .recoveryResponseRx _ | .recoveryTimeout | .timeSnap | .timeIncrWrite _ _
  | .timeApply _ | .offsetAdd | .followCheck | .refclkTimeLoss | .refclkTimeReturn | .ts2Pop | .trigArm _ _
  | .trigDisarm _ _ | .trigEdge _ | .trigPulseEnd _ | .captureEdge _ _ | .capturePop _ | .ppsEdge | .ppsPulseEnd
  | .sillageDeliver | .dispSampleCfgWrite _ | .refreshAccrual _ _ _ | .refreshIssue _ _ _ | .srEntered _
  | .srRequestArrival _ _ | .srExitDone _ | .srEntryRetry _ | .vaultTrainingDone _ _ _ | .zqCalibration _ _ _
  | .ceWindowEnd _ | .spareStart _ | .migrationCopy _ | .auditLapAlarm _ | .domainRequest _ | .domainRampStart _
  | .domainRampDone _ | .domainPowerDown _ | .quietEnter _ | .quietEntryComplete | .quietStall | .quietExit _
  | .powerOffCmd _ | .allowanceRequest _ | .allowanceGrant | .allowanceReturn _ | .slewStep | .avsRestart _
  | .pwrwarnAssert | .brownoutSr | .brownoutNormal | .railMonitorReset _ | .smbTemps _ | .smbState _ | .smbBrown _
  | .smbIout _ | .smbPstate _ _ | .porstAssert _ | .porstRelease _ _ | .startPush _ | .startFlash _ | .charterAbort _
  | .charterLock _ | .pushChunk _ | .verifyDone | .drainTimeout | .loadStart | .sectionDone | .charterRun
  | .mboxGetIdentity _ | .mboxGetChallenge _ | .mboxAttest _ | .mboxProvision _ | .addSlot _ | .revokeSlot _
  | .raiseSvn _ | .ownerLock _ | .debugUnlock | .ownerReturn _ | .mboxQueuedStart _ | .mboxOpDone _ | .mbOp _ _
  | .mbStatus _ | .mbOffset _ _ | .mbRead _ | .jtagBypass _ _ | .jtagIdcode _ | .jtagSamplePreload _ _ | .jtagExtest _ _
  | .jtagDebugInstruction _ _ | .perstAssert | .perstRelease | .pcieHotReset | .pcieDlDown | .cofferRound _
  | .dmaRingEnable _ _ | .dmaRingDisable _ _ | .dmaTailWrite _ _ | .dmaRecordWrite _ | .dmaFlushTimeout _
  | .dmaStarveInterval _ | .batchSieve _ | .batchReg32 _ | .batchSwap _ | .batchWaitDrained _ | .batchWaitTimeout _
  | .batchDone _ | .msixSend | .irqEoi _ | .msixHoldoffExpiry | .msixUnmask _ _ _ | .portWindowLatch | .perfFreeze _
  | .perfUnfreeze _ | .perfScheduledAct | .perfClear _ | .perfDump | .exportTake _ | .exportItemRetry _ | .ipfixFlush _
  | .ipfixTemplateResend _ | .nptMapValidate _ _ | .noseRequestStart _ | .noseScanDone _ _ _ | .noseReportRetry _
  | .noseBurstReturn _ | .noseInvalidate _ | .noseQuiesced _ | .noseValidate _ | .noseMemWrite _ | .refclkEthReturn
  | .pcieLinkUp _ _ | .pushHalfConsumed | .egressUnderrun _ | .fecUncorrCodeword _ | .railResetRelease _ => true

end Sys2Proof
end

