-- ==== Sys2Proof/Certificates/Slice0/Obligations.lean ====
section
/-!
DEFINITION. The statements for the provers.

A statement of the form "… CommandsAct" is the conjunction of one clause for each form of the commands that it names. A
clause says, under conditions on the state and the operands alone, that the command is answered with a next state and what
that state is: the registers, counters and queues that the rules give, and by an equation with the state before what is left as
it was (`t = … with …` names the only parts that may differ).
-/
open Sys2Proof Sys2Proof.Machine

/-- A step runs the command at the front of the queue on the state with the rest of it. -/
def Obligations.StepRunsTheFrontCommand : Prop :=
  ∀ (c : Instr) (cs : List Instr) (s : State), s.pending = c :: cs → step s = exec c { s with pending := cs }

/-- With no command waiting a step is one tick of the time base. -/
def Obligations.IdleStepIsOneTick : Prop :=
  ∀ s : State, s.pending = [] → ∃ t, step s = .next t ∧ t.time.tick = s.time.tick + 1 ∧ t.pending = [] ∧ t.fuses = s.fuses

/-- A step takes the front command alone from the queue, and only an idle step moves the tick. -/
def Obligations.WaitingCommandsRunInOrder : Prop :=
  ∀ s t : State, step s = .next t →
    t.pending = s.pending.tail ∧ t.time.tick = s.time.tick + (if s.pending = [] then 1 else 0)

/-- A fuse once blown cannot be cleared, whatever command runs, from every state (18, Fuses). -/
def Obligations.BlownFusesStayBlown : Prop :=
  ∀ (f : Fuses) (s t : State), FuseLe f s.fuses → step s = .next t → FuseLe f t.fuses

/-- No step takes the lifecycle back. -/
def Obligations.LifecycleOnlyMovesForward : Prop :=
  ∀ s t : State, step s = .next t → s.fuses.lifecycle.code ≤ t.fuses.lifecycle.code

/-- Only PROVISION and the owner commands that program fuses can change one. -/
def Obligations.OnlyProgrammingCommandsChangeFuses : Prop :=
  ∀ (c : Instr) (s t : State), programsFuses c = false → exec c s = .next t → t.fuses = s.fuses ∧ t.pending = s.pending ∧ t.time.tick = s.time.tick

/-- Commands outside a named list leave the whole control plane as it was. -/
def Obligations.OtherCommandsLeaveTheControlPlane : Prop :=
  ∀ (c : Instr) (s t : State), mayChangeControl c = false → exec c s = .next t → t.control = s.control

/-- The commands named leave alone all that packets and flows hold. -/
def Obligations.ControlCommandsLeaveTraffic : Prop :=
  ∀ (c : Instr) (s t : State), leavesTraffic c = true → exec c s = .next t → t.traffic = s.traffic

/-- The commands named leave alone what flows hold. -/
def Obligations.LineCommandsLeaveFlows : Prop :=
  ∀ (c : Instr) (s t : State), leavesFlows c = true → exec c s = .next t → t.flows = s.flows

/-- Every step keeps the Vault and the Coffer in their canonical form. -/
def Obligations.MemoryStaysCanonical : Prop :=
  ∀ s t : State, MemoryWf s → step s = .next t → MemoryWf t

/-- At reset no command waits, every register has its reset value, no Charter is loaded, and memory is canonical. -/
def Obligations.ResetLeavesTheStatedState : Prop :=
  State.reset.pending = [] ∧ (∀ off, regRead State.reset off = resetOf off) ∧ State.reset.loader.st = .empty ∧ State.reset.rings = [] ∧
    State.reset.swc.frames = [] ∧ State.reset.ledger = [] ∧ State.reset.vault.mem = [] ∧ State.reset.coffer.words = [] ∧ MemoryWf State.reset

/-- What the time base commands leave: snapshot, increment, offset, follow check, reference loss, TS2 FIFO, sampling. 14 Correcting rate and phase; 14 Pair alignment and reference loss; 14 One-step PTP; 14 The Sillage. -/
def Obligations.TimeBaseCommandsAct : Prop :=
  (∀ s, Answers .timeSnap s fun t => t = { s with time := { s.time with snapDue := true } }) ∧
  (∀ s half w, Answers (.timeIncrWrite half w) s fun t =>
      pairOf t Reg.TIME_INCR_LO = (match half with
        | none => w.toNat
        | some false => setBits (pairOf s Reg.TIME_INCR_LO) 31 0 w.toNat
        | some true => setBits (pairOf s Reg.TIME_INCR_LO) 63 32 w.toNat) ∧
      t = { s with regs := t.regs, sill := t.sill }) ∧
  (∀ s v, v.getLsbD 1 = true → Answers (.timeApply v) s fun t =>
      (s.time.offset = none → t.time = { s.time with
        offset := some { ns := signed 64 (pairOf s Reg.TIME_OFFSET_LO), follow := false }, snapDue := s.time.snapDue || v.getLsbD 0 }) ∧
      (s.time.offset.isSome = true → t.time = { s.time with snapDue := s.time.snapDue || v.getLsbD 0 }) ∧
      regRead t Reg.TIME_CTRL = v &&& 0x100#32 ∧ t = { s with regs := t.regs, time := t.time }) ∧
  (∀ s, s.time.followAt + 1000000 ≤ s.time.tick → Answers .followCheck s fun t =>
      t.time.followAt = s.time.tick ∧
      (s.teth.side = 1 → flagOf s Reg.TIME_CTRL 8 = true → s.teth.pair = .paired →
        fieldOf s Reg.TIME_FOLLOW_THR 31 0 < (signed 64 (pairOf s Reg.TETH_PEER_OFFSET_LO)).natAbs → s.time.offset = none →
        t.time.offset = some { ns := signed 64 (pairOf s Reg.TETH_PEER_OFFSET_LO), follow := true }) ∧
      (s.time.offset.isSome ∨ s.teth.side = 0 → t.time.offset = s.time.offset) ∧ t = { s with time := t.time }) ∧
  (∀ s, s.time.refLost = false → Answers .refclkTimeLoss s fun t =>
      t.time = { s.time with refLost := true } ∧ flagOf t Reg.TIME_IRQ_CAUSE 1 = true ∧
      t = { s with regs := t.regs, sill := t.sill, time := t.time }) ∧
  (∀ s, s.time.refLost = true → Answers .refclkTimeReturn s fun t =>
      t.time = { s.time with refLost := false } ∧ flagOf t Reg.TIME_IRQ_CAUSE 1 = true ∧
      t = { s with regs := t.regs, sill := t.sill, time := t.time }) ∧
  (∀ s n, s.time.offset = some n → Answers .offsetAdd s fun t =>
      t.time.net / 2 ^ 32 = (((s.time.net / 2 ^ 32 : Nat) : Int) + n.ns).toNat ∧ t.time.net % 2 ^ 32 = s.time.net % 2 ^ 32 ∧
      t.time.offset = none ∧ flagOf t Reg.TIME_IRQ_CAUSE 0 = true ∧ (n.follow = true → flagOf t Reg.TIME_IRQ_CAUSE 5 = true) ∧
      t = { s with regs := t.regs, sill := t.sill, time := t.time }) ∧
  (∀ s, Answers .ts2Pop s fun t => t = { s with time := { s.time with ts2 := s.time.ts2.tail } }) ∧
  (∀ s v, barOpen s = true → Answers (.dispSampleCfgWrite v) s fun t =>
      regRead t Reg.SILL_DISP_CFG = v &&& 0xC0FFFFFF#32 ∧
      (flagOf s Reg.SILL_DISP_CFG 31 = false → v.getLsbD 31 = true → t.sill = { s.sill with sampleCount := 0 }) ∧
      (fieldOf s Reg.SILL_DISP_CFG 23 0 ≠ bits v.toNat 23 0 → t.sill = { s.sill with sampleCount := 0 }) ∧
      t = { s with regs := t.regs, sill := t.sill })

/-- What arming, edges and pulses of triggers, captures and the PPS leave. 14 Triggers, captures and PPS; 14 Registers. -/
def Obligations.TriggerCaptureAndPpsCommandsAct : Prop :=
  (∀ s (i : Fin 8) v, v.getLsbD 31 = true → Answers (.trigArm i v) s fun t =>
      (trigAt t i.val).next = edgeFrom (trigStart s i.val) (trigPeriod s i.val) (leadTime s) ∧
      ((trigAt t i.val).next = none → (trigAt t i.val).dead = true ∧ flagOf t Reg.TIME_IRQ_CAUSE 2 = true) ∧
      t = { s with regs := t.regs, time := t.time }) ∧
  (∀ s (i : Fin 8) v, v.getLsbD 31 = false → Answers (.trigDisarm i v) s fun t =>
      trigAt t i.val = {} ∧ flagOf t (Reg.TIME_TRIG_CTRL i.val) 31 = false ∧ t = { s with regs := t.regs, time := t.time }) ∧
  (∀ s (i : Fin 8) n, (trigAt s i.val).next = some n → n * 2 ^ 32 ≤ s.time.net → Answers (.trigEdge i) s fun t =>
      trigAt t i.val = { trigAt s i.val with
        next := if trigPeriod s i.val = 0 then none else some (n + trigPeriod s i.val)
        pulseEnd := some (s.time.tick + trigWidth s i.val) } ∧ t = { s with time := t.time }) ∧
  (∀ s (i : Fin 8) e, (trigAt s i.val).pulseEnd = some e → e ≤ s.time.tick → Answers (.trigPulseEnd i) s fun t =>
      trigAt t i.val = { trigAt s i.val with pulseEnd := none } ∧ t = { s with time := t.time }) ∧
  (∀ s (i : Fin 9) rising, flagOf s (Reg.TIME_CAP_CTRL i.val) (if rising then 0 else 1) = true →
      Answers (.captureEdge i rising) s fun t =>
      ((capAt' s i.val).length < 16 → capAt' t i.val = capAt' s i.val ++ [{ time := s.time.net, rising := rising }]) ∧
      (16 ≤ (capAt' s i.val).length → capAt' t i.val = capAt' s i.val ∧ flagOf t Reg.TIME_IRQ_CAUSE 3 = true) ∧
      t = { s with regs := t.regs, time := t.time, sill := t.sill }) ∧
  (∀ s (i : Fin 9), Answers (.capturePop i) s fun t =>
      capAt' t i.val = (capAt' s i.val).tail ∧ t = { s with time := t.time }) ∧
  (∀ s, flagOf s Reg.TIME_PPS_CFG 31 = true → s.time.ppsLast ≠ some (netSec s.time.net) → Answers .ppsEdge s fun t =>
      t = { s with time := { s.time with
        ppsLast := some (netSec s.time.net), ppsFall := some (s.time.tick + 1000000 * min 999 (max 1 (fieldOf s Reg.TIME_PPS_CFG 9 0))) } }) ∧
  (∀ s e, s.time.ppsFall = some e → e ≤ s.time.tick → Answers .ppsPulseEnd s fun t =>
      t = { s with time := { s.time with ppsFall := none } })

/-- What latching windows, freezing, unfreezing, clearing and dumping counters, and delivering Sillage records, leave. 20 Port bandwidth windows; 20 Freeze; 20 Dumps; 20 Counter units; 14 The Sillage. -/
def Obligations.PerformanceCommandsAct : Prop :=
  (∀ s, s.perf.winNext ≤ s.time.net → Answers .portWindowLatch s fun t =>
      t.perf.winNext = nextMultiple (winLen s) s ∧
      (s.perf.frozen = false → t.perf.winLast = s.perf.winOpen ∧ t.perf.winOpen = [] ∧ t.perf.winSeq = (s.perf.winSeq + 1) % 2 ^ 32 ∧
        t.perf.winEnd = ledgerOf (max s.perf.winNext (s.time.net / (winLen s * 2 ^ 32) * (winLen s * 2 ^ 32)))) ∧
      (s.perf.frozen = true → t.perf = { s.perf with winNext := nextMultiple (winLen s) s }) ∧ t = { s with perf := t.perf }) ∧
  (∀ s v, v.getLsbD 0 = true → barOpen s = true → s.perf.frozen = false → s.perf.sched = none → v.getLsbD 2 = false →
      Answers (.perfFreeze v) s fun t =>
      t.perf = { s.perf with frozen := true } ∧ flagOf t Reg.PERF_IRQ_CAUSE 2 = true ∧
      regRead t Reg.PERF_FROZEN_NS = BitVec.ofNat 32 (netNs s.time.net) ∧ regRead t Reg.PERF_FROZEN_SEC = BitVec.ofNat 32 (netSec s.time.net) ∧
      t = { s with regs := t.regs, perf := t.perf }) ∧
  (∀ s v, v.getLsbD 0 = false → v.getLsbD 1 = true → barOpen s = true → s.perf.frozen = true → v.getLsbD 2 = false →
      Answers (.perfUnfreeze v) s fun t => t.perf.frozen = false ∧ t.perf.sched = none ∧
      (s.time.net < s.perf.winNext → t.perf.winNext = s.perf.winNext) ∧
      (s.perf.winNext ≤ s.time.net → t.perf.winNext = nextMultiple (winLen s) s) ∧ t = { s with regs := t.regs, perf := t.perf }) ∧
  (∀ s f n, s.perf.sched = some (f, n) → n ≤ s.time.net → Answers .perfScheduledAct s fun t =>
      t.perf.frozen = f ∧ t.perf.sched = none ∧ t = { s with regs := t.regs, perf := t.perf }) ∧
  (∀ s, flagOf s Reg.PERF_DUMP_CFG 31 = true → s.perf.dumpNext ≤ s.time.net → Answers .perfDump s fun t =>
      fieldOf t Reg.PERF_DUMP_SEQ 31 0 = (fieldOf s Reg.PERF_DUMP_SEQ 31 0 + 1) % 2 ^ 32 ∧
      t.perf.dumpNext = nextMultiple (dumpPeriod s) s ∧
      (s.perf.dump = none → t.perf.dump.isSome = true ∧ t.perf.dumpSkipped = false) ∧
      (s.perf.dump.isSome = true → t.perf.dump = s.perf.dump ∧ t.perf.dumpSkipped = true ∧ flagOf t Reg.PERF_IRQ_CAUSE 1 = true) ∧
      t = { s with regs := t.regs, perf := t.perf }) ∧
  (∀ s v, v.getLsbD 0 = true → barOpen s = true → s.perf.frozen = false → Answers (.perfClear v) s fun t =>
      (∀ u k, u < 45 → k < 8 → pairOf t (Reg.PERF_CNT_LO u k) = 0) ∧ t = { s with regs := t.regs }) ∧
  (∀ s r rs, s.sill.buf = r :: rs → flagOf s Reg.SILL_CFG 31 = true →
      (placeRec (fieldOf s Reg.SILL_CFG 3 0) 2 (sillBytes r) (freshOut s)).1 = true → s.sill.lost = [] →
      Answers .sillageDeliver s fun t =>
      t.sill = { s.sill with buf := rs } ∧ t.out = (placeRec (fieldOf s Reg.SILL_CFG 3 0) 2 (sillBytes r) (freshOut s)).2.out)

/-- What enabling, disabling and serving DMA rings, batches and injected frames leaves. 19 DMA rings; 19 Injection; 19 Table-update batches; 19 Errors. -/
def Obligations.RingCommandsAct : Prop :=
  (∀ s (n : Fin 32) o, s.pcie.up = true → (s.ringAt n.val).open_ = some o → o.fill ≠ 0 → flushTicks s n.val ≤ since s o.firstAt →
      Answers (.dmaFlushTimeout n) s fun t => (t.ringAt n.val).open_ = none) ∧
  (∀ s (n : Fin 32) v, v.getLsbD 31 = true → s.pcie.up = true → Answers (.dmaRingEnable n v) s fun t =>
      ringEn t n.val = true ∧ fieldOf t (Reg.DMA_RING_CFG n.val) 15 8 = bits v.toNat 15 8 ∧ t.rings = s.rings) ∧
  (∀ s (n : Fin 32) v, v.getLsbD 31 = false → s.pcie.up = true → Answers (.dmaRingDisable n v) s fun t =>
      ringEn t n.val = false ∧ (t.ringAt n.val).open_ = none ∧ (t.ringAt n.val).err = false ∧ (t.ringAt n.val).errCode = 0) ∧
  (∀ s (n : Fin 32) v, s.pcie.up = true → Answers (.dmaTailWrite n v) s fun t =>
      regRead t (Reg.DMA_RING_TAIL n.val) = v &&& 0xFFFF#32 ∧ t = { s with regs := t.regs }) ∧
  (∀ s (n : Fin 32) d data, canFetch s n.val = true → Answers (.dmaDescFetch n d data) s fun t =>
      (d = none → (t.ringAt n.val).err = true ∧ (t.ringAt n.val).errCode = 1) ∧
      (∀ x, d = some x → n.val < 16 → hostDescOk (slice x 0 32) = true →
        (t.ringAt n.val).open_ = some { addr := leAt (slice x 0 32) 0 8, len := leAt (slice x 0 32) 8 4 }) ∧
      (∀ x, d = some x → n.val < 16 → hostDescOk (slice x 0 32) = false → (t.ringAt n.val).err = true ∧ (t.ringAt n.val).errCode = 2) ∧
      (∀ x, d = some x → 16 ≤ n.val → ringTable (fromHost 32 (freshOut s)) n.val = false → injectDescOk (slice x 0 32) = true →
        (t.ringAt n.val).inject = some { descs := runOf (s.ringAt n.val) ++ [slice x 0 32] })) ∧
  (∀ s (n : Fin 32) x, s.pcie.up = true → (s.ringAt n.val).batch = some x → x.rest = [] → Answers (.batchDone n) s fun t =>
      (t.ringAt n.val).batch = none ∧ (t.ringAt n.val).head < 2 ^ 15) ∧
  (∀ s (n : Fin 32), starved s n.val = true → us 1 ≤ since s (s.ringAt n.val).starveAt → Answers (.dmaStarveInterval n) s fun t =>
      (t.ringAt n.val).starveAt = s.time.tick ∧ flagOf t Reg.DMA_IRQ_CAUSE 3 = true ∧ t = { s with regs := t.regs, rings := t.rings }) ∧
  (∀ s (n : Fin 32) o, s.pcie.up = true → n.val < 16 → (s.ringAt n.val).span ≠ [] → (s.ringAt n.val).open_ = some o →
      (s.ringAt n.val).spanKind = 2 → Answers (.dmaRecordWrite n) s fun t =>
      (t.ringAt n.val).span = (s.ringAt n.val).span.drop (o.len - o.fill)) ∧
  (∀ s (n : Fin 32) d ds data, (s.ringAt n.val).inject = some { descs := d :: ds } → runOpen (s.ringAt n.val) = false →
      (s.ringAt n.val).err = false → s.pcie.up = true → running s = true → ((d :: ds).map fun d => leAt d 8 2).foldl (· + ·) 0 ≤ 15996 →
      portExists s (byteAt d 12) = true → Answers (.injectFrameRead n data) s fun t =>
      (data = none → (t.ringAt n.val).err = true ∧ (t.ringAt n.val).errCode = 1) ∧
      (∀ x, data = some x → t = injectFrame n.val (d :: ds) d (slice x 0 (((d :: ds).map fun d => leAt d 8 2).foldl (· + ·) 0))
        (fromHost (((d :: ds).map fun d => leAt d 8 2).foldl (· + ·) 0) (freshOut s))))

/-- What a command to the Sieve port does when the table is free, and when it is busy; how an operation ends. 04 Writing entries; 04 Registers; 19 Table-update batches. -/
def Obligations.ClassificationTableCommandsAct : Prop :=
  (∀ s v (c : Instr) (k : Nat), (c, k) ∈ [(.sieveWrite v, 1), (.sieveInsert v, 2), (.sieveFind v, 3), (.sieveInvalidate v, 4),
        (.sieveSetEm v, 5), (.sieveRead v, 6)] → bits v.toNat 3 0 = k → barOpen s = true → sieveBusy s = false →
      Answers c s fun t =>
        (s.sieve.op = none → ∃ a, t.sieve.op = some (portJob k v s, a)) ∧
        (s.sieve.op ≠ none → t.sieve = { s.sieve with queue := s.sieve.queue ++ [portJob k v s] })) ∧
  (∀ s v (c : Instr) (k : Nat), (c, k) ∈ [(.sieveWrite v, 1), (.sieveInsert v, 2), (.sieveFind v, 3), (.sieveInvalidate v, 4),
        (.sieveSetEm v, 5), (.sieveRead v, 6)] → bits v.toNat 3 0 = k → barOpen s = true → sieveBusy s = true →
      exec c s = .next (bump (Reg.SIEVE_WR_REFUSED_CNT 0) s)) ∧
  (∀ s j a, s.sieve.op = some (j, a) → s.sieve.queue = [] → j.user = .port → a.read = none → Answers .sieveOpDone s fun t =>
      t.sieve = { s.sieve with op := none } ∧ regRead t (Reg.SIEVE_WR_STATUS 0) = BitVec.ofNat 32 (a.index * 2 ^ 8 + a.result) ∧
      flagOf t (Reg.SIEVE_IRQ_CAUSE 0) 0 = true ∧ (a.result ≠ 0 → flagOf t (Reg.SIEVE_IRQ_CAUSE 0) 1 = true)) ∧
  (∀ s (n : Fin 32) x, s.pcie.up = true → entryInHand s n.val 1 = some x → s.sieve.op = none → Answers (.batchSieve n) s fun t =>
      ∃ a, t.sieve.op = some (⟨.batch n.val, bits x.arg 3 0, bits x.arg 25 8, bits x.arg 27 26, bits x.arg 29 28,
        BitVec.ofNat 768 (leNat (slice (x.rest.take x.len) 8 96))⟩, a))

/-- What ACCORD swaps, their times, drains and time-outs leave, from the register and from a batch. 04 Accord epochs; 19 Table-update batches. -/
def Obligations.EpochCommandsAct : Prop :=
  (∀ s, barOpen s = true → Answers .accordSwap s fun t =>
      (s.accord.drained = true → t = { s with accord := { s.accord with
        drained := false, swapAt := some (((s.time.net + 2 ^ 32 - 1) / 2 ^ 32 + 2000 + 999) / 1000 * 1000), told := false } }) ∧
      (s.accord.drained = false → t = cause (Reg.SIEVE_IRQ_CAUSE 0) 4 s)) ∧
  (∀ s, s.accord.drained = false → s.accord.swapAt = none → s.accord.told = false →
      fieldOf s (Reg.SIEVE_ACCORD_DRAIN_TMO 0) 31 0 * 1000 < s.time.net / 2 ^ 32 - s.accord.lastSwap →
      exec .accordDrainTmo s = .next (cause (Reg.SIEVE_IRQ_CAUSE 0) 3 { s with accord := { s.accord with told := true } })) ∧
  (∀ s x, s.accord.swapAt = some x → x ≤ s.time.net / 2 ^ 32 → Answers .accordTSwap s fun t =>
      t.accord = { s.accord with gen := (s.accord.gen + 1) % 65536, swapAt := none, lastSwap := x }) ∧
  (∀ s, oldDrained s = true → Answers .accordDrained s fun t => t.accord = { s.accord with drained := true }) ∧
  (∀ s (n : Fin 32) x, s.pcie.up = true → entryInHand s n.val 3 = some x → Answers (.batchSwap n) s fun t =>
      (s.accord.drained = true → t.accord.drained = false ∧ t.accord.swapAt.isSome = true ∧ (t.ringAt n.val).batch = some { x with swapBusy := true }) ∧
      (s.accord.drained = false → t.accord = s.accord ∧ t = finishEntry n.val 5 0 (cause (Reg.SIEVE_IRQ_CAUSE 0) 4 (freshOut s)))) ∧
  (∀ s (n : Fin 32) x, s.pcie.up = true → entryInHand s n.val 4 = some x → Answers (.batchWaitDrained n) s fun t =>
      (s.accord.drained = true → t = finishEntry n.val 0 0 (freshOut s)) ∧
      (s.accord.drained = false → (t.ringAt n.val).batch = some { x with waitUntil := some (s.time.tick + us (max 1 x.arg)) })) ∧
  (∀ s (n : Fin 32) x d, s.pcie.up = true → (s.ringAt n.val).batch = some x → x.waitUntil = some d → d ≤ s.time.tick →
      exec (.batchWaitTimeout n) s = .next (finishEntry n.val 0xA 0 (freshOut s)))

/-- What each owner command and PROVISION programs, and that a command whose checks fail changes no fuse. 18 Fuses; 18 Lifecycle; 18 Owner commands. -/
def Obligations.OwnerCommandsProgramTheFuses : Prop :=
  (∀ s, commandHeld s 1 = true → s.fuses.lifecycle = .owned ∨ s.fuses.lifecycle = .locked → argSlot (commandArg s) 64 = true →
      slotProgrammed s.fuses (byteAt (commandArg s) 0) = false → fusePower s = false → Answers (.addSlot true) s fun t =>
      commandGives s t (t.fuses = programSlot (byteAt (commandArg s) 0) (asDigest ((commandArg s).drop 16)) s.fuses)) ∧
  (∀ s, commandHeld s 2 = true → s.fuses.lifecycle = .owned ∨ s.fuses.lifecycle = .locked → argSlot (commandArg s) 16 = true →
      ((List.range 4).any fun i => i != byteAt (commandArg s) 0 && slotUsable s.fuses i) = true → fusePower s = false →
      Answers (.revokeSlot true) s fun t =>
      commandGives s t (t.fuses = { s.fuses with revoked := Tbl.set s.fuses.revoked (byteAt (commandArg s) 0) false true })) ∧
  (∀ s, commandHeld s 3 = true → s.fuses.lifecycle = .owned ∨ s.fuses.lifecycle = .locked → zeros (commandArg s) 4 64 = true →
      running s = true → s.fuses.svnFloor < leAt (commandArg s) 0 4 → leAt (commandArg s) 0 4 ≤ 128 → leAt (commandArg s) 0 4 ≤ s.loader.runSvn →
      fusePower s = false → Answers (.raiseSvn true) s fun t =>
      commandGives s t (t.fuses = { s.fuses with svnFloor := leAt (commandArg s) 0 4 })) ∧
  (∀ s, commandHeld s 4 = true → s.fuses.lifecycle = .owned → allZero (commandArg s) = true → fusePower s = false →
      Answers (.ownerLock true) s fun t => commandGives s t (t.fuses = { s.fuses with grp1 := true })) ∧
  (∀ s, commandHeld s 5 = true → s.fuses.lifecycle = .locked → allZero (commandArg s) = true → s.sec.debugOpen = false →
      Answers .debugUnlock s fun t => commandGives s t (t.sec.debugOpen = true ∧ t.fuses = s.fuses ∧
      flagOf t Reg.SEC_IRQ_CAUSE 4 = true)) ∧
  (∀ s, commandHeld s 6 = true → s.fuses.lifecycle = .owned ∨ s.fuses.lifecycle = .locked → allZero (commandArg s) = true →
      fusePower s = false → Answers (.ownerReturn true) s fun t => commandGives s t (t.fuses = { s.fuses with grp2 := true, idDestroyed := true } ∧
      t.sec.idBad = true)) ∧
  (∀ s, mboxRuns s false 5 = true → lenIs s false 64 = true → zeros (hostBuf s 64) 1 16 = true → s.fuses.lifecycle = .blank →
      byteAt (hostBuf s 64) 0 < 4 → asDigest ((hostBuf s 64).drop 16) ≠ 0 → slotProgrammed s.fuses (byteAt (hostBuf s 64) 0) = false →
      fusePower s = false → Answers (.mboxProvision true) s fun t =>
      t.fuses = { programSlot (byteAt (hostBuf s 64) 0) (asDigest ((hostBuf s 64).drop 16)) s.fuses with grp0 := true } ∧
      t.sec.host.done = some (RES_OK, []))

/-- What the mailbox operations put out, how a queued one starts and a finished one ends, and the SMBus side. 18 The mailbox; 18 Attestation; 18 Sideband access. -/
def Obligations.MailboxCommandsAct : Prop :=
  (∀ s side, mboxRuns s side 1 = true → lenIs s side 0 = true → s.sec.idPub ≠ [] → Answers (.mboxGetIdentity side) s fun t =>
      (mboxAt t side).done = some (RES_OK, identityOut s (slice s.sec.idPub 0 448))) ∧
  (∀ s, mboxRuns s false 2 = true → lenIs s false 0 = true → Answers (.mboxGetChallenge false) s fun t =>
      t.sec.challenge = some (leBytes 32 (Config.random s.free).toNat) ∧ t.free = s.free + 1 ∧
      t.sec.host.done = some (RES_OK, leBytes 32 (Config.random s.free).toNat)) ∧
  (∀ s, mboxRuns s true 2 = true → Answers (.mboxGetChallenge true) s fun t => t.sec.side.done = some (RES_BAD_OP, [])) ∧
  (∀ s side, mboxRuns s side 3 = true → lenIs s side 32 = true → s.sec.idBad = false → Answers (.mboxAttest side) s fun t =>
      ∃ sig, (mboxAt t side).done = some (RES_OK, attestBody side (mboxInput s side 32) s ++ sig)) ∧
  (∀ s side rest, s.sec.queue = side :: rest → engineFree s = true → Answers (.mboxQueuedStart side) s fun t =>
      t.sec.queue = rest ∧ (mboxAt t side).busy = true ∧ (mboxAt t side).done = none ∧ (mboxAt t side).op = (mboxAt s side).op) ∧
  (∀ s side r o, (mboxAt s side).done = some (r, o) → (mboxAt s side).discard = false → Answers (.mboxOpDone side) s fun t =>
      (mboxAt t side).busy = false ∧ (mboxAt t side).done = none ∧ (mboxAt t side).result = r ∧ (mboxAt t side).outLen = o.length ∧
      ((mboxAt s side).op = 4 → side = false → t.sec.challenge = none)) ∧
  (∀ s op pec, Answers (.mbOp op pec) s fun t => t.out.smbAck = (mbAlive s && pec) ∧
      ((mbAlive s && pec) = true → mboxHeld s true = false → engineFree s = true → s.sec.queue = [] →
        t.sec.side.op = op.toNat ∧ t.sec.side.busy = true)) ∧
  (∀ s nonce pec, mbAlive s = true → pec = true → nonce.length = 32 → Answers (.mbNonce nonce pec) s fun t =>
      t.out.smbAck = true ∧ (mboxHeld s true = false → t.sec.sideBuf = nonce ++ s.sec.sideBuf.drop 32) ∧ (mboxHeld s true = true → t.sec = s.sec)) ∧
  (∀ s v pec, mbAlive s = true → pec = true → Answers (.mbOffset v pec) s fun t =>
      t.out.smbAck = true ∧ t.sec = { s.sec with sideOffset := v.toNat }) ∧
  (∀ s pec, mbAlive s = true → Answers (.mbStatus pec) s fun t => t.out.smbAck = true ∧
      t.out.smb.take 2 = leBytes 2 (2 ^ 15 * b2n s.sec.side.busy + 2 ^ 14 * b2n (mboxQueued s true) + s.sec.side.result) ∧ t = { s with out := t.out }) ∧
  (∀ s pec, mbAlive s = true → Answers (.mbRead pec) s fun t => t.out.smbAck = true ∧
      t.sec = { s.sec with sideOffset := (s.sec.sideOffset + 32) % 2 ^ 16 } ∧
      t.out.smb.take 33 = 32#8 :: (if mboxHeld s true then List.replicate 32 0 else slice (s.sec.sideBuf.take s.sec.side.outLen) s.sec.sideOffset 32))

/-- What the JTAG instructions drive, capture and read, and that debug instructions are ignored while the port is closed. 18 Debug port; 21 Signals by group. -/
def Obligations.JtagCommandsAct : Prop :=
  (∀ s bs off w code c, c ∈ [Instr.jtagBypass false bs, .jtagIdcode false, .jtagSamplePreload false bs, .jtagExtest false bs, .jtagMbox false off w,
      .jtagDebugInstruction false code] → Answers c s fun t =>
      t = { s with pins := { s.pins with trstLow := true, jtagIr := IR_IDCODE, jtagDrive := false } }) ∧
  (∀ s bs, Answers (.jtagBypass true bs) s fun t => t.pins.jtagOut = bitsNat (false :: bs.dropLast) ∧ t.pins.jtagIr = IR_BYPASS ∧
      t.pins.jtagDrive = false ∧ t = { s with pins := t.pins }) ∧
  (∀ s bs, Answers (.jtagSamplePreload true bs) s fun t => t.pins.jtagScan = bs ∧ t.pins.jtagIr = IR_SAMPLE ∧ t.pins.jtagDrive = false ∧
      t = { s with pins := t.pins, free := s.free + bs.length }) ∧
  (∀ s bs, Answers (.jtagExtest true bs) s fun t => t.pins.jtagScan = bs ∧ t.pins.jtagIr = IR_EXTEST ∧ t.pins.jtagDrive = true ∧
      t = { s with pins := t.pins, free := s.free + bs.length }) ∧
  (∀ s off w, mboxReg off = true → domOn s 29 = true → Answers (.jtagMbox true off w) s fun t =>
      (w = none → t.pins.jtagOut = (secRead (jtagLoad IR_MBOX false 0 s) off).toNat) ∧
      (∀ v, w = some v → ∃ u, t = secWrite off v u ∧ u = { s with pins := u.pins } ∧ u.pins.jtagIr = IR_MBOX ∧ u.pins.jtagDrive = false)) ∧
  (∀ s code, s.sec.debugOpen = false → Answers (.jtagDebugInstruction true code) s fun t =>
      t = { s with pins := { s.pins with trstLow := false } }) ∧
  (∀ s code, s.sec.debugOpen = true → exec (.jtagDebugInstruction true code) s = .refused (.debugInstruction code))

/-- The JTAG IDCODE is 0x132406BB: version 1, part 0x3240, manufacturer 0x35D, bit 0 set. R492. -/
def Obligations.JtagIdcodeNamesTheDevice : Prop :=
  (∀ s, Answers (.jtagIdcode true) s fun t => t.pins.jtagOut = 0x132406BB ∧ t.pins.jtagOut / 2 ^ 28 = 1 ∧ t.pins.jtagOut / 2 ^ 12 % 2 ^ 16 = 0x3240 ∧
      t.pins.jtagOut / 2 % 2 ^ 11 = 0x35D ∧ t.pins.jtagOut % 2 = 1 ∧ t.pins.jtagIr = IR_IDCODE ∧ t.pins.jtagDrive = false ∧ t = { s with pins := t.pins })

/-- What requesting, granting, returning and slewing burst allowances leaves. 17 The budget; 17 Voltage scaling. -/
def Obligations.AllowanceCommandsAct : Prop :=
  (∀ s (u : Fin 11), userWants s u.val = true → (s.userAt u.val).st = .none → brownHold s = false → s.treas.waitQ = [] →
      reserveV s + grantedG s + userAmount s u.val ≤ budgetB s → Answers (.allowanceRequest u) s fun t =>
      t.userAt u.val = { st := .granted, grant := userAmount s u.val, released := 0, order := s.treas.grants } ∧
      t.treas.slewQ = s.treas.slewQ ++ List.replicate (userAmount s u.val) (u.val, true) ∧ t.treas.waitQ = [] ∧
      t = { s with treas := t.treas, regs := t.regs, sill := t.sill }) ∧
  (∀ s (u : Fin 11), userWants s u.val = true → (s.userAt u.val).st = .none → brownHold s = true ∨ budgetB s < reserveV s + userAmount s u.val →
      Answers (.allowanceRequest u) s fun t => t.treas = s.treas ∧ flagOf t Reg.TREAS_IRQ_CAUSE 0 = true ∧ t = { s with regs := t.regs, sill := t.sill }) ∧
  (∀ s (u : Fin 11), userWants s u.val = true → (s.userAt u.val).st = .none → brownHold s = false → reserveV s + userAmount s u.val ≤ budgetB s →
      (s.treas.waitQ ≠ [] ∨ budgetB s < reserveV s + grantedG s + userAmount s u.val) → Answers (.allowanceRequest u) s fun t =>
      (t.userAt u.val).st = .waiting ∧ t.treas.waitQ = s.treas.waitQ ++ [(u.val, userAmount s u.val)] ∧ t = { s with treas := t.treas }) ∧
  (∀ s (u : Fin 11), userEnds s u.val = true → (s.userAt u.val).st = .granted → Answers (.allowanceReturn u) s fun t =>
      t.treas.slewQ = s.treas.slewQ.filter (·.1 ≠ u.val) ++ List.replicate (s.userAt u.val).released (u.val, false) ∧
      t.userAt u.val = (if (s.userAt u.val).released = 0 then {} else { s.userAt u.val with st := .releasing }) ∧
      t = { s with treas := t.treas, regs := t.regs, sill := t.sill }) ∧
  (∀ s u a rest, s.treas.waitQ = (u, a) :: rest → reserveV s + grantedG s + a ≤ budgetB s → Answers .allowanceGrant s fun t =>
      t.treas.waitQ = rest ∧ t.userAt u = { st := .granted, grant := a, released := 0, order := s.treas.grants } ∧
      t = { s with treas := t.treas, regs := t.regs, sill := t.sill }) ∧
  (∀ s u rest, s.treas.slewQ = (u, true) :: rest → 13 ≤ since s s.treas.slewAt → Answers .slewStep s fun t =>
      t.treas.slewQ = rest ∧ t.userAt u = { s.userAt u with released := (s.userAt u).released + 1 } ∧ t = { s with treas := t.treas }) ∧
  (∀ s u rest, s.treas.slewQ = (u, false) :: rest → 13 ≤ since s s.treas.slewAt → Answers .slewStep s fun t =>
      t.treas.slewQ = rest ∧ t.userAt u = (if (s.userAt u).released ≤ 1 then {} else { s.userAt u with released := (s.userAt u).released - 1 }) ∧
      t = { s with treas := t.treas })

/-- What a domain request, a ramp and a power-down leave. 17 Domains and their states. -/
def Obligations.DomainCommandsAct : Prop :=
  (∀ s v, v.getLsbD 31 = true → running s = true → s.treas.pstate ≠ .quiet → s.treas.exist.testBit (bits v.toNat 4 0) = true →
      mayRequest (bits v.toNat 4 0) (bits v.toNat 9 8) = true → (bits v.toNat 4 0 ≠ 27 ∨ bits v.toNat 9 8 = 2 ∨ loadBusy s = false) →
      exec (.domainRequest v) s = .next (acceptDomain (bits v.toNat 9 8) (requestedDomains (bits v.toNat 4 0)) (plainWrite Reg.TREAS_DOMAIN_REQ v s))) ∧
  (∀ s v, v.getLsbD 31 = true → (running s = false ∨ s.treas.pstate = .quiet ∨ s.treas.exist.testBit (bits v.toNat 4 0) = false ∨
      mayRequest (bits v.toNat 4 0) (bits v.toNat 9 8) = false) → Answers (.domainRequest v) s fun t =>
      t.treas = s.treas ∧ flagOf t Reg.TREAS_IRQ_CAUSE 10 = true ∧ t = { s with regs := t.regs }) ∧
  (∀ s (d : Fin 30) rest, s.treas.rampQueue = d.val :: rest → s.treas.ramping = none → brownHold s = false → rampAllowed s d.val = true →
      Answers (.domainRampStart d) s fun t => t.domAt d.val = .ramp ∧ t.treas.rampQueue = rest ∧
      t.treas.ramping = some (d.val, s.time.tick, s.domAt d.val == .retention)) ∧
  (∀ s (d : Fin 30) a k, s.treas.ramping = some (d.val, a, k) → us (max 50 (fieldOf s Reg.TREAS_RAMP 15 0)) ≤ since s a →
      Answers (.domainRampDone d) s fun t => t.domAt d.val = .on ∧ t.treas.ramping = none) ∧
  (∀ s (d : Fin 30) x, s.treas.goals.find? (·.1 = d.val) = some (d.val, x) → Answers (.domainPowerDown d) s fun t =>
      t.domAt d.val = x ∧ t.treas.goals = s.treas.goals.filter (·.1 ≠ d.val))

/-- What entering and leaving QUIET, and power off, leave. 17 Power states. -/
def Obligations.PowerStateCommandsAct : Prop :=
  (∀ s v, v.getLsbD 31 = true → bits v.toNat 1 0 = 3 → s.treas.pstate = .full ∨ s.treas.pstate = .trimmed → s.loader.st = .run →
      s.treas.trans = none → brownHold s = false → Answers (.quietEnter v) s fun t =>
      t.treas = { s.treas with trans := some (true, s.time.tick), stalled := false } ∧ t = { s with treas := t.treas, regs := t.regs }) ∧
  (∀ s v, v.getLsbD 31 = true → bits v.toNat 1 0 = 3 → s.treas.pstate = .off ∨ s.treas.pstate = .quiet ∨ s.loader.st ≠ .run ∨
      s.treas.trans ≠ none ∨ brownHold s = true → Answers (.quietEnter v) s fun t =>
      t.treas = s.treas ∧ flagOf t Reg.TREAS_IRQ_CAUSE 9 = true ∧ t = { s with regs := t.regs }) ∧
  (∀ s a, s.treas.trans = some (true, a) → quietTmo s ≤ since s a → s.treas.ramping = none → quietReady s = true →
      Answers .quietEntryComplete s fun t => t.treas.pstate = .quiet ∧ t.treas.trans = none ∧
      (∀ d ∈ [1, 2, 3, 4, 5, 6, 7, 8, 26], t.domAt d = .off) ∧
      (∀ d ∈ [13, 14, 15, 16, 27], s.domAt d = .on ∨ s.domAt d = .ramp → t.domAt d = .retention) ∧
      (∀ d, d ∉ [1, 2, 3, 4, 5, 6, 7, 8, 26, 13, 14, 15, 16, 27] → t.domAt d = s.domAt d)) ∧
  (∀ s a, s.treas.trans = some (true, a) → 2 * quietTmo s < since s a → s.treas.stalled = false → Answers .quietStall s fun t =>
      t.treas = { s.treas with stalled := true } ∧ flagOf t Reg.TREAS_IRQ_CAUSE 8 = true ∧ t = { s with treas := t.treas, regs := t.regs }) ∧
  (∀ s v, v.getLsbD 31 = true → bits v.toNat 1 0 = 1 ∨ bits v.toNat 1 0 = 2 → s.treas.pstate = .quiet → s.treas.trans = none →
      brownHold s = false → s.treas.trip = false ∨ deviceTemp s ≤ 4 * ((fieldOf s Reg.TREAS_THERM_CFG 7 0 : Nat) : Int) → s.treas.quieted ≠ [] →
      Answers (.quietExit v) s fun t => t.treas = { s.treas with trans := some (false, s.time.tick), trip := false, rampQueue := s.treas.quieted, quieted := [] }) ∧
  (∀ s v, v.getLsbD 31 = true → bits v.toNat 1 0 = 0 → Answers (.powerOffCmd v) s fun t =>
      t.treas.offHeld = true ∧ t.treas.pstate = .off ∧ (∀ d, t.domAt d = if d = 0 then .on else .off) ∧
      flagOf t Reg.TREAS_RESET_CAUSE 4 = true ∧ t.held = s.held ∧ t.pins = s.pins)

/-- What Pace readings, voltage steps, a regulator failure and temperature samples leave. 17 Voltage scaling; 17 Temperature. -/
def Obligations.VoltageAndTemperatureCommandsAct : Prop :=
  (∀ s (b : Fin 4) descs steps, domOn s (9 + b.val) = true → us 1 ≤ since s (Tbl.get s.treas.paceAt b.val 0) → Answers (.paceUpdate b descs steps) s fun t =>
      let p := max (-8388608) (min 8388607 (paceMargin descs steps))
      flagOf t (Reg.TREAS_PACE_STATUS b.val) 29 = true ∧ flagOf t (Reg.TREAS_PACE_STATUS b.val) 30 = Decidable.decide (p < 50000) ∧
      flagOf t (Reg.TREAS_PACE_STATUS b.val) 31 = Decidable.decide (p < 0) ∧ signed 24 (fieldOf t (Reg.TREAS_PACE_STATUS b.val) 23 0) = p ∧
      (p < 0 → belowFloor s b.val = false → flagOf t Reg.TREAS_IRQ_CAUSE 1 = true)) ∧
  (∀ s iout, s.treas.vrmFail = false → flagOf s Reg.TREAS_AVS_CFG 31 = true → us 100 ≤ since s s.treas.avsAt →
      exec (.avsUpdate iout true) s = .next (avsStep (setField Reg.TREAS_AVS_STATUS 27 16 (capAt 4095 iout) { s with treas := { s.treas with avsAt := s.time.tick } }))) ∧
  (∀ s iout, s.treas.vrmFail = false → flagOf s Reg.TREAS_AVS_CFG 31 = true → us 100 ≤ since s s.treas.avsAt →
      Answers (.avsUpdate iout false) s fun t => t.treas = { s.treas with avsAt := s.time.tick, vrmFail := true } ∧ flagOf t Reg.TREAS_IRQ_CAUSE 4 = true ∧
      t = { s with treas := t.treas, regs := t.regs }) ∧
  (∀ s v, v.getLsbD 30 = true → Answers (.avsRestart v) s fun t => t.treas = { s.treas with vrmFail := false } ∧
      t = { s with treas := t.treas, regs := t.regs }) ∧
  (∀ s temps, us 100 ≤ since s s.treas.tempAt → s.treas.offHeld = false → Answers (.tempSample temps) s fun t =>
      (∀ k x, k < 16 → temps[k]? = some x → -32768 ≤ x → x ≤ 32767 → sensor t k = some x) ∧
      (∀ k, k < 16 → temps[k]? = none → sensor t k = sensor s k))

/-- What a supply warning, its hold, recovery and end, and the rail monitors leave. 17 Supplies and brownout; 17 Registers. -/
def Obligations.BrownoutCommandsAct : Prop :=
  (∀ s, s.pins.porstLow = false → s.treas.brown = .normal ∨ s.treas.brown = .recover → Answers .pwrwarnAssert s fun t =>
      t.treas.brown = .hold ∧ t.treas.warnSince = some (s.treas.warnSince.getD s.time.tick) ∧ t.pins = { s.pins with pwrwarnLow := true }) ∧
  (∀ s mv, s.pins.porstLow = false → mv < warnMv s → s.treas.brown = .normal ∨ s.treas.brown = .recover → Answers (.vddCoreWarn mv) s fun t =>
      t.treas.brown = .hold ∧ t.treas.coreLow = true ∧ t.pins = s.pins) ∧
  (∀ s a, s.treas.brown = .hold → s.treas.warnSince = some a → us (1000 * max 1 (fieldOf s Reg.TREAS_BROWN_CFG 31 24)) ≤ since s a →
      Answers .brownoutSr s fun t => t.treas = { s.treas with brown := .holdSr }) ∧
  (∀ s mv, s.treas.brown = .hold ∨ s.treas.brown = .holdSr → warnMv s + 20 < mv → Answers (.brownoutRecover mv) s fun t =>
      t.treas = { s.treas with brown := .recover, warnSince := none, coreLow := false, recoverSince := some s.time.tick } ∧
      t.pins = { s.pins with pwrwarnLow := false }) ∧
  (∀ s a, s.treas.brown = .recover → s.treas.recoverSince = some a → us (fieldOf s Reg.TREAS_BROWN_CFG 23 12) ≤ since s a →
      Answers .brownoutNormal s fun t => t.treas = { s.treas with brown := .normal, recoverSince := none } ∧ ∀ b, b < 4 → (t.noseAt b).hold = false) ∧
  (∀ s mv, mv < 580 → Answers (.vddCoreReset mv) s fun t => flagOf t Reg.TREAS_RESET_CAUSE 1 = true ∧ t.pins.railHold.contains 0 = true ∧
      t.treas.pstate = .off ∧ (∀ d, t.domAt d = if d = 0 then .on else .off) ∧ t.held = s.held) ∧
  (∀ s (rail : Fin 4), rail.val ≠ 0 → Answers (.railMonitorReset rail) s fun t => flagOf t Reg.TREAS_RESET_CAUSE 2 = true ∧
      t.pins.railHold.contains rail.val = true ∧ t.held = s.held ∧ t.treas = {})

/-- What each SMBus read answers, with its PEC, and when the device does not answer. 17 SMBus sideband. -/
def Obligations.SmbusCommandsAnswer : Prop :=
  (∀ s pec, smbAlive s = true → Answers (.smbTemps pec) s fun t => t.out.smbAck = true ∧
      t.out.smb = (32#8 :: (List.range 16).flatMap fun k => leBytes 2 (fieldOf s (Reg.TREAS_TEMP k) 15 0)) ++ (if pec then [crc8 ([smbAddress s false, 1#8, smbAddress s true] ++ (32#8 :: (List.range 16).flatMap fun k => leBytes 2 (fieldOf s (Reg.TREAS_TEMP k) 15 0)))] else []) ∧ t = { s with out := t.out }) ∧
  (∀ s pec, smbAlive s = true → Answers (.smbState pec) s fun t => t.out.smbAck = true ∧
      t.out.smb = (leBytes 2 (treasState s)) ++ (if pec then [crc8 ([smbAddress s false, 2#8, smbAddress s true] ++ (leBytes 2 (treasState s)))] else []) ∧ t = { s with out := t.out }) ∧
  (∀ s pec, smbAlive s = true → Answers (.smbBrown pec) s fun t => t.out.smbAck = true ∧
      t.out.smb = (leBytes 2 (brownStatus s)) ++ (if pec then [crc8 ([smbAddress s false, 3#8, smbAddress s true] ++ (leBytes 2 (brownStatus s)))] else []) ∧ t = { s with out := t.out }) ∧
  (∀ s pec, smbAlive s = true → Answers (.smbIout pec) s fun t => t.out.smbAck = true ∧
      t.out.smb = (leBytes 2 (fieldOf s Reg.TREAS_AVS_STATUS 27 16)) ++ (if pec then [crc8 ([smbAddress s false, 4#8, smbAddress s true] ++ (leBytes 2 (fieldOf s Reg.TREAS_AVS_STATUS 27 16)))] else []) ∧ t = { s with out := t.out }) ∧
  (∀ s v, smbAlive s = true → flagOf s Reg.TREAS_SMB_CFG 0 = true →
      exec (.smbPstate v true) s = .next (pstateCommand (bits v.toNat 1 0) { s with out := { s.out with smbAck := true, smb := [] } })) ∧
  (∀ s pec, smbAlive s = false → ∀ c ∈ [Instr.smbTemps pec, .smbState pec, .smbBrown pec, .smbIout pec],
      Answers c s (fun t => t = { s with out := { s.out with smbAck := false, smb := [] } })) ∧
  (∀ s v pec, (smbAlive s && pec) = false ∨ flagOf s Reg.TREAS_SMB_CFG 0 = false →
      exec (.smbPstate v pec) s = .next { s with out := { s.out with smbAck := smbAlive s && pec, smb := [] } })

/-- When MSI-X messages leave, and what EOI, masks, hold-off and FORCE do. 20 The cause tree; 20 Delivery. -/
def Obligations.InterruptCommandsAct : Prop :=
  (∀ s, s.pcie.up = true → msixDue s = true → s.msix.masked = false → Answers .msixSend s fun t =>
      t = { s with msix := { s.msix with armed := false, pba := false, lastSent := some s.time.tick }
                   out := { s.out with hostWrites := [(pairOf s (Reg.DMA_MSIX_TABLE 0), leBytes 4 (regRead s (Reg.DMA_MSIX_TABLE 2)).toNat)], msix := s.out.msix + 1 } }) ∧
  (∀ s, s.pcie.up = true → msixDue s = true → s.msix.masked = true → Answers .msixSend s fun t =>
      t = { s with msix := { s.msix with pba := true } }) ∧
  (∀ s, s.pcie.up = false ∨ msixDue s = false → NoEffect .msixSend s ∧ NoEffect .msixHoldoffExpiry s) ∧
  (∀ s, s.msix.lastSent.isSome = true → exec .msixHoldoffExpiry s = exec .msixSend s) ∧
  (∀ s v, s.pcie.up = true → v.getLsbD 0 = true → Answers (.irqEoi v) s fun t => t = { s with msix := { s.msix with armed := true } }) ∧
  (∀ s f w e, s.pcie.up = true → s.msix.pba = false ∨ irqLevel s = false ∨ f = true ∨ w = true ∨ e = false →
      Answers (.msixUnmask f w e) s fun t => t = { s with msix := { s.msix with funcMask := f, vecMask := w, enable := e, pba := s.msix.pba && irqLevel s } }) ∧
  (∀ s, s.pcie.up = true → s.msix.pba = true → irqLevel s = true → Answers (.msixUnmask false false true) s fun t =>
      t.msix = { s.msix with funcMask := false, vecMask := false, enable := true, armed := false, pba := false, lastSent := some s.time.tick } ∧
      t.out.msix = s.out.msix + 1 ∧ t = { s with msix := t.msix, out := t.out }) ∧
  (∀ s off v b i r, s.pcie.up = true → off ≠ 0x88 → decodeOff off = some (b, i, 0x18) → b ≠ .vaultCh → b ≠ .dispo → rowAt b 0x18 = some r →
      existsAt s b i r = true → (r.scope ≠ .repl ∨ i = 0) → writesOpen s off = true → Answers (.irqForce off v) s fun t =>
      regRead t (off - 8) = regRead s (off - 8) ||| (v &&& forceMask b i) ∧ t = { s with regs := t.regs }) ∧
  (∀ s v, s.pcie.up = true → Answers (.irqForce 0x88 v) s fun t =>
      regRead t Reg.TOP_COFFER_IRQ_CAUSE = regRead s Reg.TOP_COFFER_IRQ_CAUSE ||| (v &&& 3#32) ∧ t = { s with regs := t.regs })

/-- What PERST_N, hot reset, a lost link and a trained link leave of the PCIe side. 19 PCIe function; 20 Delivery. -/
def Obligations.PcieCommandsAct : Prop :=
  (∀ s, s.pins.perstLow = false → s.sec.bootStep ≠ 0 → Answers .perstAssert s fun t => t.pins = { s.pins with perstLow := true } ∧
      t.pcie.link = ({} : Pcie).link ∧ t.rings = [] ∧ t.msix = { lastSent := s.msix.lastSent }) ∧
  (∀ s, s.pins.perstLow = true → s.sec.bootStep ≠ 0 → Answers .perstRelease s fun t => t.pins = { s.pins with perstLow := false } ∧
      t.pcie = { s.pcie with training := Decidable.decide (4 ≤ s.sec.bootStep) } ∧ t = { s with pins := t.pins, pcie := t.pcie, regs := t.regs, sill := t.sill }) ∧
  (∀ s, s.pcie.up = true → ∀ c ∈ [Instr.pcieHotReset, .pcieDlDown], Answers c s fun t =>
      t.pcie = { training := mayTrain s } ∧ t.rings = [] ∧ t.msix = { lastSent := s.msix.lastSent } ∧ t.pins = s.pins ∧
      ∀ off, isDmaReset off = true → regRead t off = resetOf off) ∧
  (∀ s (rate : Fin 8) (width : Fin 32), s.pcie.training = true → domOn s 25 = true → 1 ≤ rate.val → rate.val ≤ 5 → [1, 2, 4, 8].contains width.val = true →
      Answers (.pcieLinkUp rate width) s fun t => t.pcie = { s.pcie with up := true, training := false, rate := rate.val, width := width.val } ∧
      t = { s with pcie := t.pcie, regs := t.regs, sill := t.sill })

/-- What a host read and write of BAR0 does: sizes, closed windows, plain registers, clear on read, batches. 00 Registers; 19 PCIe function; 19 Table-update batches; 02 Loading. -/
def Obligations.HostAccessCommandsAct : Prop :=
  (∀ s off size data, s.pcie.up = true → bar0Ok off size = false → Answers (.registerWrite off size data) s fun t =>
      t.out.ok = false ∧ t = { s with out := t.out }) ∧
  (∀ s off size data, s.pcie.up = true → bar0Ok off size = true → writesOpen s off = false → Answers (.registerWrite off size data) s fun t =>
      t.out.ok = true ∧ t = { s with out := t.out }) ∧
  (∀ s off data, s.pcie.up = true → bar0Ok off 4 = true → writesOpen s off = true →
      exec (.registerWrite off 4 data) s = .next (complete [] (writeReg32 off (data.extractLsb' 0 32) (freshOut s)))) ∧
  (∀ s off data, s.pcie.up = true → bar0Ok off 8 = true → writesOpen s off = true → off ≠ Reg.TIME_INCR_LO →
      exec (.registerWrite off 8 data) s = .next (complete [] (if upperActs (off + 4)
        then writeReg32 (off + 4) (data.extractLsb' 32 32) (writeReg32 off (data.extractLsb' 0 32) (freshOut s))
        else writeReg32 off (data.extractLsb' 0 32) (writeReg32 (off + 4) (data.extractLsb' 32 32) (freshOut s))))) ∧
  (∀ s data, s.pcie.up = true → exec (.registerWrite Reg.TIME_INCR_LO 8 data) s = .next (complete [] (incrWrite none data (freshOut s)))) ∧
  (∀ s off data b i rel r, s.pcie.up = true → bar0Ok off 4 = true → writesOpen s off = true → decodeOff off = some (b, i, rel) → rowAt b rel = some r →
      existsAt s b i r = true → (r.scope ≠ .repl ∨ i = 0) → b ∈ [Block.treas, .time, .perf, .sill, .dma, .port, .lane, .teth, .assay, .sieve, .disp, .tell, .till, .vault, .vaultCh, .audit, .nose, .mint, .swc, .tm, .egr] →
      rel = 0x10 ∨ rel = 0x14 → Answers (.registerWrite off 4 data) s fun t =>
      regRead t off = plainValue s r (regRead s off) (data.extractLsb' 0 32) ∧ t = { s with regs := t.regs, out := t.out }) ∧
  (∀ s off size w, s.pcie.up = true → bar0Ok off size = false → cfgOk off size = false → (w = true ∨ bar4Ok off size = false) →
      Answers (.unsupportedRequest off size w) s fun t => t.out.ok = false ∧ t = { s with out := t.out }) ∧
  (∀ s off size, s.pcie.up = true → bar0Ok off size = false → cfgOk off size = false → bar4Ok off size = false →
      Answers (.rcRead off size) s fun t => t.out.ok = false ∧ t = { s with out := t.out }) ∧
  (∀ s off, s.pcie.up = true → bar4Ok off 4 = true → Answers (.rcRead off 4) s fun t => t.out.ok = true ∧
      t.out.data = leBytes 4 (if flagOf s Reg.PERF_CTRL 31 then userWord s (off - bar4Base) else 0) ∧ t = { s with out := t.out }) ∧
  (∀ s off, s.pcie.up = true → bar4Ok off 8 = true → Answers (.rcRead off 8) s fun t => t.out.ok = true ∧
      t.out.data = (if flagOf s Reg.PERF_CTRL 31 then leBytes 4 (userWord s (off - bar4Base)) ++ leBytes 4 (userWord s (off - bar4Base + 4))
        else List.replicate 8 0) ∧ t = { s with out := t.out }) ∧
  (∀ s off v, s.pcie.up = true → cfgOk off 4 = true → cfgWord (off % 0x1000) = some v → Answers (.rcRead off 4) s fun t => t.out.ok = true ∧
      t.out.data = leBytes 4 v ∧ t = { s with out := t.out }) ∧
  (∀ s off, s.pcie.up = true → cfgOk off 4 = true → cfgWord (off % 0x1000) = none → Answers (.rcRead off 4) s fun t => t.out.ok = true ∧
      t = { s with out := t.out, free := s.free + 1 }) ∧
  (∀ s off b i rel r, s.pcie.up = true → bar0Ok off 4 = true → writesOpen s off = true → off ≠ Reg.TM_GCL_DUR → decodeOff off = some (b, i, rel) →
      (b ≠ .disp ∨ rel ≠ 0x184) → rowAt b rel = some r → existsAt s b i r = true → Answers (.rcRead off 4) s fun t =>
      t.out.ok = true ∧ t.out.data = leBytes 4 (readValue s off) ∧
      regRead t off = (if s.perf.frozen then regRead s off else regRead s off &&& ~~~ r.mask (· == .rc)) ∧ t = { s with regs := t.regs, out := t.out }) ∧
  (∀ s (n : Fin 32) b, s.pcie.up = true → entryInHand s n.val 2 = some b → batchOffset s b.arg = true →
      exec (.batchReg32 n) s = .next (finishEntry n.val 0 0 (writeReg32 b.arg (BitVec.ofNat 32 (leAt b.rest 8 4)) (freshOut s)))) ∧
  (∀ s (n : Fin 32) b, s.pcie.up = true → entryInHand s n.val 2 = some b → batchOffset s b.arg = false →
      exec (.batchReg32 n) s = .next (finishEntry n.val 0x9 0 (freshOut s)))

/-- A host write, set or clear of the Coffer changes exactly its enabled bytes. 19 The Coffer. -/
def Obligations.CofferWritesChangeTheEnabledBytesAlone : Prop :=
  (∀ c s row off data be, writesCoffer c row off data be [] → cofferTakes s row off data.length = true → s.coffer.pending = [] → s.coffer.poison = [] →
      Answers c s fun t =>
      t.out.ok = true ∧ t.out.ep = false ∧ t = { s with coffer := t.coffer, out := t.out } ∧
      ∀ x, cofferByte t x = if off % 0x200000 ≤ x ∧ x - off % 0x200000 < data.length ∧ be.getD (x - off % 0x200000) true = true
        then cofferOp row (cofferByte s x) (data.getD (x - off % 0x200000) 0) else cofferByte s x)

/-- What Coffer reads, rounds of the Tellers' requests and a powered-down Coffer answer. 19 The Coffer; 07 Memory operations. -/
def Obligations.CofferCommandsAct : Prop :=
  (∀ s off n, cofferReads s off n = true → s.coffer.pending = [] → s.coffer.poison = [] → Answers (.cofferHostRead off n []) s fun t =>
      t.out.ok = true ∧ t.out.ep = false ∧ t = { s with out := t.out } ∧ t.out.data = (List.range n).map fun k => cofferByte s (off % 0x200000 + k)) ∧
  (∀ s off n flips, cofferReads s off n = true → Answers (.cofferHostRead off n flips) s fun t => t.out.ok = true) ∧
  (∀ c s row off data be flips, writesCoffer c row off data be flips → cofferTakes s row off data.length = true → Answers c s fun t => t.out.ok = true) ∧
  (∀ s off n flips, cofferReads s off n = false → Answers (.cofferHostRead off n flips) s fun t => t.out.ok = false ∧ t = { s with out := t.out, regs := t.regs }) ∧
  (∀ c s row off data be flips, writesCoffer c row off data be flips → cofferTakes s row off data.length = false → Answers c s fun t =>
      t.out.ok = false ∧ t = { s with out := t.out, regs := t.regs } ∧
      (row ≠ 0 → domOn s 27 = true → flagOf t Reg.TOP_COFFER_IRQ_CAUSE 1 = true)) ∧
  (∀ s q m, domOn s 27 = true → s.coffer.pending = [q] → s.coffer.poison = [] → q.teller < 128 → memOp s q.teller q.op = some m → m.mop = 5 ∨ m.mop = 6 ∨ m.mop = 7 →
      Answers (.cofferRound []) s fun t => t.coffer.pending = [] ∧
      cofferWord t q.word = (if m.mop = 5 then cofferWord s q.word + m.data else if m.mop = 6 then m.data
        else if cofferWord s q.word = m.arg then m.data else cofferWord s q.word) ∧
      (∀ i, i ≠ q.word → cofferWord t i = cofferWord s i) ∧ t = { s with coffer := t.coffer, tellers := t.tellers }) ∧
  (∀ s q m, domOn s 27 = true → s.coffer.pending = [q] → s.coffer.poison = [] → q.teller < 128 → memOp s q.teller q.op = some m → m.mop = 3 ∨ m.mop = 4 →
      Answers (.cofferRound []) s fun t => t.coffer.pending = [] ∧ cofferWord t q.word = (if q.half = 0 then m.data else m.data2) ∧
      (∀ i, i ≠ q.word → cofferWord t i = cofferWord s i) ∧ t = { s with coffer := t.coffer, tellers := t.tellers }) ∧
  (∀ s e, s.coffer.pending = [] → NoEffect (.cofferRound e) s) ∧
  (∀ s e q, domOn s 27 = false → q ∈ s.coffer.pending → Answers (.cofferRound e) s fun t =>
      t.coffer = { s.coffer with pending := [] } ∧ flagOf t Reg.TOP_COFFER_IRQ_CAUSE 0 = true ∧ t = { s with coffer := t.coffer, tellers := t.tellers, regs := t.regs })

/-- What the Charter commands do: start a push, start from flash, abort, lock. 02 Loading; 02 Warm restart; 02 Charter lock. -/
def Obligations.CharterControlCommandsAct : Prop :=
  (∀ s v, v.getLsbD 0 = true → v.getLsbD 1 = false → v.getLsbD 4 = false →
      s.loader.st = .empty ∨ s.loader.st = .waitPush ∨ s.loader.st = .run ∨ s.loader.st = .failed → Answers (.startPush v) s fun t =>
      t.loader.st = .waitPush ∧ t.loader.push = true ∧ t.loader.prev = (if s.loader.st = .waitPush then s.loader.prev else s.loader.st) ∧
      t.loader.errCode = 0 ∧ t.loader.free0 = true ∧ t.loader.free1 = true) ∧
  (∀ s v, v.getLsbD 1 = true → v.getLsbD 0 = false → v.getLsbD 4 = false →
      s.loader.st = .empty ∨ s.loader.st = .waitPush ∨ s.loader.st = .run ∨ s.loader.st = .failed → Answers (.startFlash v) s fun t =>
      t.loader.st = .verify ∧ t.loader.push = false ∧ t.loader.prev = (if s.loader.st = .waitPush then s.loader.prev else s.loader.st) ∧ t.loader.errCode = 0) ∧
  (∀ s v, v.getLsbD 4 = true → v.getLsbD 0 = false → v.getLsbD 1 = false → v.getLsbD 3 = false → s.loader.fallback = false →
      s.loader.st = .waitPush ∨ s.loader.st = .verify → Answers (.charterAbort v) s fun t =>
      t.loader = { s.loader with errCode := ABORTED, errSect := 0xFF, st := s.loader.prev, push := false, waiting := [] }) ∧
  (∀ s v, v.getLsbD 4 = true → v.getLsbD 0 = false → v.getLsbD 1 = false → v.getLsbD 3 = false → s.loader.fallback = false →
      s.loader.st = .drain ∨ s.loader.st = .load ∨ s.loader.st = .init → Answers (.charterAbort v) s fun t =>
      t.loader.st = .failed ∧ t.loader.errCode = ABORTED ∧ t.loader.errSect = 0xFF) ∧
  (∀ s v, v.getLsbD 3 = true → v.getLsbD 0 = false → v.getLsbD 1 = false → v.getLsbD 4 = false → s.loader.st = .run → Answers (.charterLock v) s fun t =>
      t.loader = { s.loader with locked := true } ∧ t = { s with regs := t.regs, loader := t.loader })

/-- How a load goes on: chunks, flash reads, verification, drain, sections, training, RUN. 02 Loading; 02 Warm restart; 15 Training; 18 Charter verification. -/
def Obligations.CharterLoadCommandsAct : Prop :=
  (∀ s, s.loader.st = .drain → s.loader.drained = false → drainTicks s ≤ since s s.loader.drainStart → Answers .drainTimeout s fun t =>
      t.loader = { s.loader with drained := true } ∧ t.tellers = []) ∧
  (∀ s v, s.loader.push = false ∨ s.loader.st = .empty ∨ s.loader.st = .run ∨ s.loader.st = .failed → NoEffect (.pushChunk v) s) ∧
  (∀ s v, s.loader.push = true → s.loader.st = .load → s.loader.keepErr = false → s.loader.manifest.isSome = true → s.loader.trailer.isSome = true →
      bits v.toNat 20 0 ≠ 0 → bits v.toNat 20 0 ≤ 0xD0000 → (if bits v.toNat 24 24 = 0 then s.loader.free0 else s.loader.free1) = true → s.loader.waiting = [] →
      fieldOf s Reg.TOP_CHARTER_PUSH_OFF 25 0 = s.loader.nextOff → s.loader.nextOff + bits v.toNat 20 0 ≤ imageTrailer s →
      bits v.toNat 20 0 % 0x1000 = 0 ∨ s.loader.nextOff + bits v.toNat 20 0 = imageTrailer s → Answers (.pushChunk v) s fun t =>
      t.loader.nextOff = s.loader.nextOff + bits v.toNat 20 0 ∧
      t.loader.waiting = [{ half := bits v.toNat 24 24, offset := s.loader.nextOff, length := bits v.toNat 20 0, bad := false, taken := true }]) ∧
  (∀ s c rest, s.loader.waiting = c :: rest → c.taken = true → Answers .pushHalfConsumed s fun t =>
      t.loader.waiting = rest ∧ (if c.half = 0 then t.loader.free0 else t.loader.free1) = true) ∧
  (∀ s trl, s.loader.st = .verify → s.loader.trailer = some trl → (verifyImage s trl).1 ≠ 0 → s.loader.fallback = false → Answers .verifyDone s fun t =>
      t.loader = { s.loader with errCode := (verifyImage s trl).1, errSect := 0xFF, st := s.loader.prev, push := false, waiting := [] }) ∧
  (∀ s trl, s.loader.st = .verify → s.loader.trailer = some trl → s.loader.prev = .run → Answers .verifyDone s fun t =>
      (verifyImage s trl).1 = 0 → t.loader = { s.loader with st := .drain, drainStart := s.time.tick, drained := false } ∧ t.sec = { s.sec with candidate := (verifyImage s trl).2 }) ∧
  (∀ s trl, s.loader.st = .verify → s.loader.trailer = some trl → s.loader.prev ≠ .run → batchRuns s = false → s.loader.waiting = [] → Answers .verifyDone s fun t =>
      (verifyImage s trl).1 = 0 → t.loader.st = .load ∧ t.loader.runSvn = 0 ∧ t.loader.locked = false ∧ t.sec = { s.sec with candidate := (verifyImage s trl).2, active := 15 }) ∧
  (∀ s, s.loader.st = .drain → s.loader.drained = true → batchRuns s = false → s.loader.waiting = [] → Answers .loadStart s fun t =>
      t.loader = { s.loader with st := .load, locked := false, runSvn := 0, runDigest := 0, runId := [], acc := [], sectIdx := 0, imgPos := 0x4000 } ∧ t.sec = { s.sec with active := 15 }) ∧
  (∀ s d m, s.loader.push = false → s.loader.st = .verify → s.loader.manifest = none → flashEnd s ≤ d → m.length = 0x4000 → manifestError m = none → Answers (.flashReadDone (some d) (some m)) s fun t =>
      t = { s with loader := { s.loader with manifest := some m, dir := directory m, svn := leAt m 0x18 4, imageId := slice m 0x20 32, mdigest := Config.sha384 m, lockAtCommit := bit (byteAt m 0x0E) 0 } }) ∧
  (∀ s d x, s.loader.push = false → s.loader.st = .verify → s.loader.trailer = none → s.loader.fallback = false →
      (x = none ∨ ∀ n, d = some n → n < flashEnd s) → Answers (.flashReadDone d x) s fun t =>
      t.loader = { s.loader with errCode := FLASH_READ, errSect := 0xFF, st := s.loader.prev, push := false, waiting := [] }) ∧
  (∀ s d e b, s.loader.push = false → s.loader.st = .load → s.loader.dir[s.loader.sectIdx]? = some e → s.loader.acc = [] → flashEnd s ≤ d →
      e.offset + b.length = sectionEnd s s.loader.sectIdx → Answers (.flashReadDone (some d) (some b)) s fun t => t = { s with loader := { s.loader with acc := b } }) ∧
  (∀ s e, s.loader.st = .load → s.loader.dir[s.loader.sectIdx]? = some e → sectionEnd s s.loader.sectIdx - e.offset ≤ s.loader.acc.length →
      s.loader.sectIdx = 0 ∨ loadPowered s = true → Config.sha384 (s.loader.acc.take e.length) = e.digest →
      sectionOk e.type (s.loader.acc.take e.length) s.treas.exist = true → crossError (writeSection e (s.loader.acc.take e.length) s) = none →
      allZero ((s.loader.acc.take (sectionEnd s s.loader.sectIdx - e.offset)).drop e.length) = true → s.loader.sectIdx + 1 ≠ s.loader.dir.length →
      exec .sectionDone s = .next { writeSection e (s.loader.acc.take e.length) s with loader := { (writeSection e (s.loader.acc.take e.length) s).loader with
        sectIdx := s.loader.sectIdx + 1, sectDone := s.loader.sectIdx + 1, acc := s.loader.acc.drop (sectionEnd s s.loader.sectIdx - e.offset), imgPos := e.offset + (sectionEnd s s.loader.sectIdx - e.offset) } }) ∧
  (∀ s e, s.loader.st = .load → s.loader.dir[s.loader.sectIdx]? = some e → sectionEnd s s.loader.sectIdx - e.offset ≤ s.loader.acc.length →
      s.loader.sectIdx = 0 ∨ loadPowered s = true → Config.sha384 (s.loader.acc.take e.length) ≠ e.digest → s.loader.fallback = false → Answers .sectionDone s fun t =>
      t.loader.st = .failed ∧ t.loader.errCode = BAD_DIGEST ∧ t.loader.errSect = s.loader.sectIdx) ∧
  (∀ s (c : Fin 8) spd, s.loader.st = .init → (s.chanAt c.val).st = .training → spdOk s spd = true → Answers (.vaultTrainingDone c spd none) s fun t =>
      t.chanAt c.val = { s.chanAt c.val with st := .service, lastReq := s.time.tick } ∧ t = { s with vault := t.vault }) ∧
  (∀ s (c : Fin 8) spd f, s.loader.st = .init → (s.chanAt c.val).st = .training → (spdOk s spd = false ∨ f ≠ none) → s.loader.fallback = false →
      Answers (.vaultTrainingDone c spd f) s fun t => t.loader.st = .failed ∧ t.loader.errCode = VAULT_TRAIN) ∧
  (∀ s, initReady s = true → regInitOk s s.loader.regInit = false → s.loader.fallback = false → Answers .charterRun s fun t =>
      t.loader.st = .failed ∧ t.loader.errCode = BAD_REG_INIT ∧ t.loader.errSect = s.loader.regInitIdx) ∧
  (∀ s, initReady s = true → regInitOk s s.loader.regInit = true → (applyRegInit s.loader.regInit s).loader = s.loader → (applyRegInit s.loader.regInit s).sec = s.sec → Answers .charterRun s fun t =>
      t.loader.st = .run ∧ t.loader.runSvn = s.loader.svn ∧ t.loader.runDigest = s.loader.mdigest ∧ t.loader.runId = s.loader.imageId ∧
      t.loader.locked = (s.loader.lockAtCommit || s.fuses.lifecycle == .locked) ∧ t.sec.active = s.sec.candidate)

/-- What PORST_N, its release and the release of a rail reset leave. 21 Sequencing and reset; 18 Boot; 17 Registers. -/
def Obligations.ResetCommandsAct : Prop :=
  (∀ s ns, s.pins.porstLow = false → 10000 ≤ ns → Answers (.porstAssert ns) s fun t =>
      t.pins = { s.pins with porstLow := true } ∧ t.fuses = s.fuses ∧ t.pending = s.pending ∧ t.time.tick = s.time.tick ∧
      t.loader = {} ∧ t.treas = {} ∧ t.sec = {} ∧ t.vault = {} ∧ t.ledger = [] ∧ flagOf t Reg.TREAS_RESET_CAUSE 0 = true ∧
      (∀ off, off ≠ Reg.TREAS_RESET_CAUSE → regRead t off = resetOf off)) ∧
  (∀ s ns, s.pins.porstLow = true ∨ ns < 100 → NoEffect (.porstAssert ns) s) ∧
  (∀ s (sel addr : BitVec 2), s.pins.porstLow = true → s.pins.railHold = [] → s.treas.offHeld = false → s.sec.bootStep = 0 → s.loader.st = .empty →
      Answers (.porstRelease sel addr) s fun t => t.sec.bootStep = 5 ∧ t.sec.bootSel = sel.toNat ∧ t.pins = { s.pins with porstLow := false, bootSel := sel.toNat, smbAddr := addr.toNat } ∧
      t.loader.st = (if sel.toNat = 1 ∨ (sel.toNat = 3 ∧ (s.fuses.lifecycle = .blank ∨ s.fuses.lifecycle = .returned)) then .waitPush else .verify)) ∧
  (∀ s (sel addr : BitVec 2), s.pins.porstLow = false → NoEffect (.porstRelease sel addr) s) ∧
  (∀ s (rail : Fin 4), s.pins.railHold.contains rail.val = true → (rail.val ≠ 0 ∨ s.treas.brown = .normal) →
      Answers (.railResetRelease rail) s fun t => t.pins = { s.pins with railHold := s.pins.railHold.filter (· != rail.val) }) ∧
  (∀ s (rail : Fin 4), s.pins.railHold = [rail.val] → (rail.val ≠ 0 ∨ s.treas.brown = .normal) → s.pins.porstLow = false → s.treas.offHeld = false → s.sec.bootStep = 0 → s.loader.st = .empty →
      Answers (.railResetRelease rail) s fun t => t.sec.bootStep = 5 ∧ t.pins = { s.pins with railHold := [] }) ∧
  (∀ s (rail : Fin 4), s.pins.railHold.contains rail.val = false ∨ (rail.val = 0 ∧ s.treas.brown ≠ .normal) → NoEffect (.railResetRelease rail) s)

/-- What a Vault transfer, a merge window and accesses of the host window leave. 15 Host Vault window; 16 The Vault symbol code; 16 Retry once; 16 Partial writes. -/
def Obligations.VaultAccessCommandsAct : Prop :=
  (∀ s record user noise retry, record < capacityRecords s.vault → (s.chanAt (chanOf s.vault record)).merge.find? (·.record = record) = none →
      decodeTransfer (xorBytes (cellTransfer (peekRecord s record)) noise) = .ok [] → Answers (.vaultRequestDone record user noise retry) s fun t =>
      peekRecord t record = peekRecord s record ∧ t.vault = { s.vault with chans := t.vault.chans } ∧ t = { s with regs := t.regs, vault := t.vault }) ∧
  (∀ s record user noise retry w w2, record < capacityRecords s.vault → (s.chanAt (chanOf s.vault record)).merge.find? (·.record = record) = none →
      decodeTransfer (xorBytes (cellTransfer (peekRecord s record)) noise) = .bad w →
      decodeTransfer (xorBytes (cellTransfer (peekRecord s record)) retry) = .bad w2 ∨ decodeTransfer (xorBytes (cellTransfer (peekRecord s record)) retry) = .poison →
      Answers (.vaultRequestDone record user noise retry) s fun t => cellAt t.vault (readRank s.vault record) (decodeRecord s.vault record).2 = .poison) ∧
  (∀ s record user noise retry, capacityRecords s.vault ≤ record → NoEffect (.vaultRequestDone record user noise retry) s) ∧
  (∀ s (c : Fin 8) record e, (s.chanAt c.val).merge.find? (·.record = record) = some e → us 1 ≤ since s e.openAt →
      Answers (.mergeWindowExpiry c record) s fun t => ∀ e' ∈ (t.chanAt c.val).merge, e'.record ≠ record) ∧
  (∀ s off len, s.treas.brown = .holdSr ∨ windowReaches off len = false ∨ windowMapped s (windowAddr s off) len = false →
      Answers (.vaultWindowRead off len) s fun t => t.out.ok = false ∧ t = { s with out := t.out }) ∧
  (∀ s off data be, s.treas.brown = .holdSr ∨ windowReaches off data.length = false ∨ windowMapped s (windowAddr s off) data.length = false →
      Answers (.vaultWindowWrite off data be) s fun t => t.out.ok = false ∧ t = { s with out := t.out }) ∧
  (∀ s off len, s.treas.brown ≠ .holdSr → windowReaches off len = true → windowMapped s (windowAddr s off) len = true →
      s.vault.win ≠ [] ∨ windowTurn s ⟨windowAddr s off, len, none⟩ = false → Answers (.vaultWindowRead off len) s fun t =>
      t.out = s.out ∧ t.vault.mem = s.vault.mem ∧ t.vault.win = s.vault.win ++ [⟨windowAddr s off, len, none⟩]) ∧
  (∀ s off data be, s.treas.brown ≠ .holdSr → windowReaches off data.length = true → windowMapped s (windowAddr s off) data.length = true →
      s.vault.win ≠ [] ∨ windowTurn s ⟨windowAddr s off, data.length, some (data, be)⟩ = false → Answers (.vaultWindowWrite off data be) s fun t =>
      t.out = s.out ∧ t.vault.mem = s.vault.mem ∧ t.vault.win = s.vault.win ++ [⟨windowAddr s off, data.length, some (data, be)⟩]) ∧
  (∀ s off len r, s.treas.brown ≠ .holdSr → windowReaches off len = true → windowMapped s (windowAddr s off) len = true → s.vault.win = [] →
      windowTurn s ⟨windowAddr s off, len, none⟩ = true → windowAddr s off % 128 + len ≤ 128 → peekRecord s (windowAddr s off / 128) = .data r →
      (s.chanAt (chanOf s.vault (windowAddr s off / 128))).merge.find? (·.record = windowAddr s off / 128) = none →
      Answers (.vaultWindowRead off len) s fun t => t.out.ok = true ∧ t.out.ep = false ∧ t.out.data = slice (recBytes r) (windowAddr s off % 128) len ∧ t.vault.mem = s.vault.mem) ∧
  (∀ s off (data : Bytes) (be : List Bool), s.treas.brown ≠ .holdSr → windowReaches off 128 = true → windowMapped s (windowAddr s off) 128 = true → s.vault.win = [] →
      windowTurn s ⟨windowAddr s off, 128, some (data, be)⟩ = true → data.length = 128 → (∀ i, i < 128 → be.getD i true = true) → windowAddr s off % 128 = 0 →
      (∀ i r, regionOf s.vault (windowAddr s off / 128) = some (i, r) → i ≠ s.vault.ftRegion) →
      Answers (.vaultWindowWrite off data be) s fun t => t.out.ok = true ∧
      cellAt t.vault (readRank s.vault (windowAddr s off / 128)) (decodeRecord s.vault (windowAddr s off / 128)).2 = .data (bytesRec data))

/-- What refresh, temperature, self-refresh, calibration, parity alerts, error windows and rank sparing leave. 15 Refresh; 15 Self-refresh; 15 Command/address parity; 15 Rank sparing; 16 The Auditor. -/
def Obligations.VaultUpkeepCommandsAct : Prop :=
  (∀ s (c : Fin 8) (cs : Fin 2) (set : Fin 4), chanAwake (s.chanAt c.val) = true → rankWorked s (2 * c.val + cs.val) = true →
      (if chanHot (s.chanAt c.val) then 1950 else 3900) ≤ since s (Tbl.get (s.chanAt c.val).refAt (setNo cs.val set.val) 0) →
      Answers (.refreshAccrual c cs set) s fun t =>
      Tbl.get (t.chanAt c.val).debt (setNo cs.val set.val) 0 = (if debtLimit (s.chanAt c.val) ≤ Tbl.get (s.chanAt c.val).debt (setNo cs.val set.val) 0
        then Tbl.get (s.chanAt c.val).debt (setNo cs.val set.val) 0 else Tbl.get (s.chanAt c.val).debt (setNo cs.val set.val) 0 + 1) ∧
      t = { s with vault := t.vault, regs := t.regs }) ∧
  (∀ s (c : Fin 8) (cs : Fin 2) (set : Fin 4), chanAwake (s.chanAt c.val) = true → Tbl.get (s.chanAt c.val).debt (setNo cs.val set.val) 0 ≠ 0 →
      setQueued s (2 * c.val + cs.val) set.val = false → Answers (.refreshIssue c cs set) s fun t =>
      Tbl.get (t.chanAt c.val).debt (setNo cs.val set.val) 0 = Tbl.get (s.chanAt c.val).debt (setNo cs.val set.val) 0 - 1 ∧ t = { s with vault := t.vault }) ∧
  (∀ s (c : Fin 8) x xs, us 1000 ≤ since s (s.chanAt c.val).tempAt → Answers (.dimmTempRead c (x :: xs)) s fun t =>
      let v := xs.foldl max x
      (t.chanAt c.val).hot = (if 85 < v then true else if v ≤ 83 then false else (s.chanAt c.val).hot) ∧ (t.chanAt c.val).sensorFails = 0) ∧
  (∀ s (c : Fin 8), us 1000 ≤ since s (s.chanAt c.val).tempAt → Answers (.dimmTempRead c []) s fun t =>
      (t.chanAt c.val).sensorFails = (s.chanAt c.val).sensorFails + 1 ∧ flagOf t (Reg.VAULT_CH_TEMP c.val) 31 = false) ∧
  (∀ s (c : Fin 8), (s.chanAt c.val).st = .srEntry → (s.chanAt c.val).writes = [] → Answers (.srEntered c) s fun t =>
      (t.chanAt c.val).st = (if (srWanted s).isSome then .selfRefresh else .srExit) ∧ t = { s with vault := t.vault, regs := t.regs, sill := t.sill }) ∧
  (∀ s (c : Fin 8), s.treas.brown ≠ .holdSr → Answers (.srRequestArrival c true) s fun t =>
      ((s.chanAt c.val).st = .srEntry ∨ (s.chanAt c.val).st = .selfRefresh → (t.chanAt c.val).st = .srExit) ∧ t = { s with vault := t.vault }) ∧
  (∀ s (c : Fin 8), s.treas.brown ≠ .holdSr → (s.chanAt c.val).st = .srEntry → Answers (.srRequestArrival c false) s fun t =>
      (t.chanAt c.val).st = .service ∧ t = { s with vault := t.vault, regs := t.regs, sill := t.sill }) ∧
  (∀ s (c : Fin 8), (s.chanAt c.val).st = .srExit → Answers (.srExitDone c) s fun t =>
      (t.chanAt c.val).st = .service ∧ (t.chanAt c.val).lastReq = s.time.tick ∧ t = { s with vault := t.vault, regs := t.regs, sill := t.sill }) ∧
  (∀ s (c : Fin 8) why, srWanted s = some why → us 1 ≤ since s (s.chanAt c.val).lastReq → (s.chanAt c.val).st = .service → (s.chanAt c.val).merge = [] → winWaits s c.val = false →
      Answers (.srEntryRetry c) s fun t => (t.chanAt c.val) = { s.chanAt c.val with st := .srEntry, srCause := why, debt := [] } ∧ t = { s with vault := t.vault }) ∧
  (∀ s (rank : Fin 16), (s.chanAt (rank.val / 2)).st = .service → rankWorked s rank.val = true →
      us 100000 ≤ since s (Tbl.get (s.chanAt (rank.val / 2)).zqAt (rank.val % 2) 0) → Answers (.zqCalibration rank true true) s fun t =>
      Tbl.get (t.chanAt (rank.val / 2)).zqAt (rank.val % 2) 0 = s.time.tick ∧ t = { s with vault := t.vault }) ∧
  (∀ s (rank : Fin 16) zq dqs, (s.chanAt (rank.val / 2)).st = .service → rankWorked s rank.val = true →
      us 100000 ≤ since s (Tbl.get (s.chanAt (rank.val / 2)).zqAt (rank.val % 2) 0) → (zq && dqs) = false →
      ¬ (s.vault.spareSt = .migrating ∧ s.vault.spare = some rank.val) → Answers (.zqCalibration rank zq dqs) s fun t =>
      flagOf t Reg.VAULT_IRQ_CAUSE 0 = true ∧ (t.chanAt (rank.val / 2)).candidates.testBit (rank.val % 2) = true) ∧
  (∀ s (c : Fin 8) (rank : Fin 16) reads writes, chanAwake (s.chanAt c.val) = true → rank.val / 2 = c.val → rankWorked s rank.val = true →
      Answers (.caParityAlert c rank true reads writes) s fun t => t = bump (Reg.VAULT_CH_CAPAR_CNT c.val) s) ∧
  (∀ s (c : Fin 8) (rank : Fin 16) a, chanAwake (s.chanAt c.val) = true → rank.val / 2 = c.val → rankWorked s rank.val = true → a < capacityRecords s.vault →
      writeRanks s.vault a = [rank.val] → ¬ (s.vault.spareSt = .migrating ∧ s.vault.spare = some rank.val) →
      (s.chanAt c.val).fwl.length < 256 → Answers (.caParityAlert c rank false [] [a]) s fun t =>
      cellKey rank.val (decodeRecord s.vault a).2 ∈ (t.chanAt c.val).fwl ∧ flagOf t (Reg.VAULT_CH_IRQ_CAUSE c.val) 2 = true) ∧
  (∀ s (c : Fin 8), s.time.net / (60000000000 * 4294967296) ≠ (s.chanAt c.val).ceWindow → Answers (.ceWindowEnd c) s fun t =>
      (t.chanAt c.val).ce = [] ∧ (t.chanAt c.val).ceWindow = s.time.net / (60000000000 * 4294967296) ∧ t = { s with vault := t.vault }) ∧
  (∀ s v, v.getLsbD 31 = true → barOpen s = true → rankPresent s.vault (bits v.toNat 3 0) = true → s.vault.spareSt = .ready →
      s.vault.spare ≠ some (bits v.toNat 3 0) → Answers (.spareStart v) s fun t =>
      t.vault.spareSt = .migrating ∧ t.vault.spareSrc = bits v.toNat 3 0 ∧ t.vault.spareCause = 5 ∧ t.vault.cursor = 0 ∧ flagOf t Reg.VAULT_IRQ_CAUSE 1 = true) ∧
  (∀ s, s.vault.spareSt = .migrating → sparePaused s = false → migrationTurn s = true → s.vault.cursor + 1 < rankRecords s.vault →
      (s.chanAt (chanOf s.vault (srcRecord s s.vault.cursor))).merge.find? (·.record = srcRecord s s.vault.cursor) = none →
      Answers (.migrationCopy .clean) s fun t => t.vault.cursor = s.vault.cursor + 1 ∧ t.vault.spareSt = .migrating ∧
        cellAt t.vault (s.vault.spare.getD 0) s.vault.cursor = peekCell s s.vault.spareSrc s.vault.cursor)

/-- What gate list writes, reads, changes, switches and disabling leave. 12 Gate control lists; 12 Registers. -/
def Obligations.GateCommandsAct : Prop :=
  (∀ s v, barOpen s = true → (s.schedAt (gclPort s)).pending = none → Answers (.gclDurWrite v) s fun t =>
      Tbl.get (t.schedAt (gclPort s)).adminBank (gclEntry s) {} = ⟨fieldOf s Reg.TM_GCL_MASK 7 0, v.toNat⟩ ∧ t = { s with regs := t.regs, tm := t.tm }) ∧
  (∀ s v, barOpen s = true → (s.schedAt (gclPort s)).pending ≠ none → Answers (.gclDurWrite v) s fun t =>
      t = gclNext (bump Reg.TM_GCL_REFUSED_CNT s)) ∧
  (∀ s, barOpen s = true → Answers .gclDurRead s fun t =>
      t.out.ok = true ∧ t.out.data = leBytes 4 (Tbl.get (s.schedAt (gclPort s)).adminBank (gclEntry s) {}).dur ∧
      regRead t Reg.TM_GCL_MASK = BitVec.ofNat 32 (Tbl.get (s.schedAt (gclPort s)).adminBank (gclEntry s) {}).mask ∧ t = { s with regs := t.regs, out := t.out }) ∧
  (∀ s, barOpen s = false → Answers .gclDurRead s fun t => t.out.ok = true ∧ t.out.data = leBytes 4 0 ∧ t = { s with out := t.out }) ∧
  (∀ s (p : Fin 64) v, v.getLsbD 31 = true → v.getLsbD 16 = true → barOpen s = true → (s.schedAt p.val).pending = none →
      listOk (adminList s p.val (bits v.toNat 10 0)) (bits v.toNat 10 0) = true → Answers (.gateChange p v) s fun t =>
      t.schedAt p.val = { s.schedAt p.val with pending := some (switchTime (adminList s p.val (bits v.toNat 10 0)) s, adminList s p.val (bits v.toNat 10 0)), gateErr := false } ∧
      t = { s with regs := t.regs, tm := t.tm }) ∧
  (∀ s (p : Fin 64) v, v.getLsbD 31 = true → v.getLsbD 16 = true → barOpen s = true → (s.schedAt p.val).pending = none →
      listOk (adminList s p.val (bits v.toNat 10 0)) (bits v.toNat 10 0) = false → Answers (.gateChange p v) s fun t =>
      t.schedAt p.val = { s.schedAt p.val with gateErr := true } ∧ flagOf t Reg.TM_IRQ_CAUSE 1 = true ∧ t = { s with regs := t.regs, tm := t.tm }) ∧
  (∀ s (p : Fin 64) v, v.getLsbD 31 = true → v.getLsbD 16 = true → barOpen s = true → (s.schedAt p.val).pending ≠ none →
      Answers (.gateChange p v) s fun t => t = bump Reg.TM_GCL_REFUSED_CNT (regStore (Reg.TM_GATE_CTRL p.val) (v &&& 0x800007FF#32) s)) ∧
  (∀ s (p : Fin 64) v, v.getLsbD 31 = false → barOpen s = true → Answers (.gateDisable p v) s fun t =>
      t.schedAt p.val = { s.schedAt p.val with inForce := none, pending := none, longest := [], gateIdx := 0 } ∧
      (∀ q, q < 8 → ∀ n, gateOpen (t.schedAt p.val) q n = true) ∧ t = { s with regs := t.regs, tm := t.tm }) ∧
  (∀ s (p : Fin 64) sw g, (s.schedAt p.val).pending = some (sw, g) → sw * 2 ^ 32 ≤ s.time.net → Answers (.gateSwitch p) s fun t =>
      (t.schedAt p.val).inForce = some g ∧ (t.schedAt p.val).pending = none ∧ (t.schedAt p.val).adminBank = (s.schedAt p.val).operBank ∧
      (t.schedAt p.val).operBank = (s.schedAt p.val).adminBank ∧ flagOf t Reg.TM_IRQ_CAUSE 0 = true ∧
      regRead t (Reg.TM_GATE_CHANGE_SEC p.val) = BitVec.ofNat 32 (sw / 1000000000) ∧ regRead t (Reg.TM_GATE_CHANGE_NS p.val) = BitVec.ofNat 32 (sw % 1000000000) ∧
      t = { s with regs := t.regs, tm := t.tm, sill := t.sill })

/-- What pauses, link states, faults and the Ethernet reference clock leave. 12 Pause and priority flow control; 13 Bring-up and link state; 13 Equalisation and reference clock. -/
def Obligations.FlowControlAndLinkCommandsAct : Prop :=
  (∀ s (p : Fin 64) (c : Fin 8) e, Tbl.find (s.schedAt p.val).pauseEnd c.val = some e → e ≤ s.time.tick → Answers (.pauseExpiry p c) s fun t =>
      t.schedAt p.val = { s.schedAt p.val with pauseEnd := Tbl.del (s.schedAt p.val).pauseEnd c.val } ∧ t = { s with tm := t.tm }) ∧
  (∀ s (p : Fin 64) at_, portTx s p.val = .frames → fcMode s p.val = 1 → (s.schedAt p.val).xoff.find? (·.1 == 8) = some (8, at_) →
      bitTimes (512 * 0x8000) (portGbps s p.val) ≤ since s at_ → fcXon s p.val < fcCount s p.val 8 → Answers (.fcXoffRepeat p 8) s fun t =>
      (8, s.time.tick) ∈ (t.schedAt p.val).xoff ∧
      (if (s.schedAt p.val).sending.isSome then t.out = s.out ∧ (t.schedAt p.val).fcQ = (s.schedAt p.val).fcQ ++ [fcFrame s p.val 0x0001 (beBytes 2 0xFFFF)]
        else t.out.fc = s.out.fc ++ [(p.val, fcFrame s p.val 0x0001 (beBytes 2 0xFFFF))]) ∧
      t = { s with tm := t.tm, regs := t.regs, perf := t.perf, out := t.out }) ∧
  (∀ s (p : Fin 64) v, v.getLsbD 0 = true → barOpen s = true → portExists s p.val = true → portReady (regStore (Reg.PORT_CTRL p.val) (v &&& 1#32) s) p.val = true →
      (s.portAt p.val).st = .down → Answers (.portEnable p v) s fun t => (t.portAt p.val).st = .acquire ∧ (t.portAt p.val).remoteFault = false ∧ t.kept = s.kept) ∧
  (∀ s (p : Fin 64) v, v.getLsbD 0 = true → barOpen s = true → portExists s p.val = true →
      ¬(portReady (regStore (Reg.PORT_CTRL p.val) (v &&& 1#32) s) p.val = true ∧ (s.portAt p.val).st = .down) →
      Answers (.portEnable p v) s fun t => t = regStore (Reg.PORT_CTRL p.val) (v &&& 1#32) s) ∧
  (∀ s (p : Fin 64) v, v.getLsbD 0 = false → barOpen s = true → portExists s p.val = true → Answers (.portDisable p v) s fun t =>
      (t.portAt p.val).st = .down ∧ (∀ q, q ≠ p.val → t.portAt q = s.portAt q) ∧ t.kept = s.kept) ∧
  (∀ s (p : Fin 64), (s.portAt p.val).st = .acquire → portReady s p.val = true → Answers (.portAcquireDone p) s fun t =>
      t.portAt p.val = { s.portAt p.val with st := .align } ∧ t = { s with ports := t.ports, lanes := t.lanes }) ∧
  (∀ s (p : Fin 64), (s.portAt p.val).st = .align → portReady s p.val = true → Answers (.portAlignDone p) s fun t =>
      (t.portAt p.val).alignedAt = some s.time.tick ∧ (t.portAt p.val).localFault = false ∧ (t.portAt p.val).st = .align ∧ t = { s with ports := t.ports, lanes := t.lanes }) ∧
  (∀ s (p : Fin 64) a, (s.portAt p.val).st = .align → (s.portAt p.val).alignedAt = some a → portReady s p.val = true →
      (s.portAt p.val).localFault = false → (s.portAt p.val).remoteFault = false → upHold s p.val ≤ since s a → Answers (.portLinkUp p) s fun t =>
      t.portAt p.val = { s.portAt p.val with st := .up } ∧ t.kept = s.kept) ∧
  (∀ s (p : Fin 64) why lane, (s.portAt p.val).st = .up ∨ (s.portAt p.val).st = .align →
      us (fieldOf s (Reg.PORT_LINK_CFG p.val) 31 16) ≤ since s ((s.portAt p.val).faultAt.getD s.time.tick) → Answers (.portLinkDown p why lane) s fun t =>
      (t.portAt p.val).st = .acquire ∧ (t.portAt p.val).hiBer = ((s.portAt p.val).hiBer || why == .hiBer) ∧
      (t.portAt p.val).localFault = ((s.portAt p.val).localFault || why != .remoteFault) ∧ (∀ q, q ≠ p.val → t.portAt q = s.portAt q) ∧ t.kept = s.kept) ∧
  (∀ s (p : Fin 64) why lane, (s.portAt p.val).st = .up ∨ (s.portAt p.val).st = .align → (s.portAt p.val).faultAt = none →
      0 < fieldOf s (Reg.PORT_LINK_CFG p.val) 31 16 → Answers (.portLinkDown p why lane) s fun t =>
      (t.portAt p.val).st = (s.portAt p.val).st ∧ (t.portAt p.val).faultAt = some s.time.tick ∧ t = { s with ports := t.ports, lanes := t.lanes, regs := t.regs }) ∧
  (∀ s (p : Fin 64), (s.portAt p.val).st = .up ∨ (s.portAt p.val).st = .align → Answers (.remoteFault p) s fun t =>
      (t.portAt p.val).remoteFault = true ∧ (t.portAt p.val).st = (s.portAt p.val).st ∧ (t.portAt p.val).faultAt = some ((s.portAt p.val).faultAt.getD s.time.tick) ∧
      flagOf t (Reg.PORT_IRQ_CAUSE p.val) 2 = true ∧ t = { s with ports := t.ports, lanes := t.lanes, regs := t.regs }) ∧
  (∀ s, Answers .refclkEthLoss s fun t => t.pins.refclkEthBad = true ∧ ∀ p, p < 64 → (t.portAt p).st = .down) ∧
  (∀ s, Answers .refclkEthReturn s fun t => t.pins.refclkEthBad = false ∧ ∀ p, p < 64 → (s.portAt p).st = .down →
      portReady { s with pins := { s.pins with refclkEthBad := false } } p = true → (t.portAt p).st = .acquire)

/-- What the start and the tail of a frame, Mint rounds and MAC control frames leave. 13 Receive; 11 Pools; 11 The last cell; 12 Pause and priority flow control. -/
def Obligations.ReceptionCommandsAct : Prop :=
  (∀ s (p : Fin 64) data, macOpen s p.val = true → (s.portAt p.val).rx = none → (s.portAt p.val).rxDiscard = false → data ≠ [] → beAt data 12 2 ≠ 0x8808 →
      Answers (.frameRxStart p data false) s fun t => (t.portAt p.val).rx = some s.swc.nextFrame ∧ t.swc.nextFrame = s.swc.nextFrame + 1 ∧
      (frameAt t s.swc.nextFrame).map (fun x => (x.req, x.data, x.tail, x.cells)) = some (.port p.val (ingressClass s p.val data), data.take (maxFrame s p.val), false, []) ∧
      t = { s with ports := t.ports, swc := t.swc }) ∧
  (∀ s (p : Fin 64) data, macOpen s p.val = true → (s.portAt p.val).rx = none → (s.portAt p.val).rxDiscard = false → data ≠ [] → beAt data 12 2 ≠ 0x8808 →
      Answers (.frameRxStart p data true) s fun t => t.portAt p.val = { s.portAt p.val with rxDiscard := true, rxLen := data.length } ∧ t.cells = s.cells) ∧
  (∀ s (p : Fin 64) f data ok fec syms, (s.portAt p.val).rx = some f → Answers (.frameRxTail p data ok fec syms) s fun t =>
      (t.portAt p.val).rx = none ∧ (t.portAt p.val).rxDiscard = false ∧ (t.portAt p.val).rxLen = 0) ∧
  (∀ s (p : Fin 64) data ok fec syms, (s.portAt p.val).rx = none → (s.portAt p.val).rxDiscard = true → Answers (.frameRxTail p data ok fec syms) s fun t =>
      t.portAt p.val = { s.portAt p.val with rxDiscard := false, rxLen := 0 } ∧ t.cells = s.cells) ∧
  (∀ s r f x k, s.swc.cellReqs = [(r, f)] → frameAt s f = some x → x.refused = false → grantPool s r = some k → wantsCell { x with cells := x.cells ++ [k] } = false →
      Answers .mintRound s fun t => frameAt t f = some { x with cells := x.cells ++ [k] } ∧ t.swc.cellReqs = []) ∧
  (∀ s q f x, s.swc.cellReqs = [(.inject q, f)] → frameAt s f = some x → x.req = .inject q → x.refused = false → grantPool s (.inject q) = none →
      Answers .mintRound s fun t => frameAt t f = some { x with refused := true } ∧ t.swc.cellReqs = [] ∧ flagOf t Reg.MINT_IRQ_CAUSE 0 = true) ∧
  (∀ s (p : Fin 64) data (c : Nat), macOpen s p.val = true → (s.portAt p.val).rx = none → (s.portAt p.val).rxDiscard = false → beAt data 12 2 = 0x8808 → beAt data 14 2 = 0x0001 →
      60 ≤ data.length → data.length + 4 ≤ maxFrame s p.val → fcMode s p.val = 1 → c < classCount s p.val → Answers (.macControlFrame p data true) s fun t =>
      Tbl.find (t.schedAt p.val).pauseEnd c = (if beAt data 16 2 = 0 then none else some (s.time.tick + bitTimes (512 * beAt data 16 2) (portGbps s p.val))) ∧
      t.line = s.line) ∧
  (∀ s (p : Fin 64) data ok, macOpen s p.val = true → (s.portAt p.val).rx = none → (s.portAt p.val).rxDiscard = false → beAt data 12 2 = 0x8808 → beAt data 14 2 ≠ 0x0001 →
      beAt data 14 2 ≠ 0x0101 → Answers (.macControlFrame p data ok) s fun t => t = { s with regs := t.regs, perf := t.perf })

/-- What sampler seeds, sampler enables, multicast group writes and uncorrectable codewords leave. 11 Sampling; 11 Copies and references; 13 Receive. -/
def Obligations.SamplerAndGroupCommandsAct : Prop :=
  (∀ s (p : Fin 64) v, barOpen s = true → Answers (.sampleSeedWrite p v) s fun t =>
      (Tbl.get t.swc.samplers p.val {}).lfsr = max 1 (bits v.toNat 23 0) ∧ regRead t (Reg.SWC_SAMPLE_SEED p.val) = (v &&& 0x0F000000#32) ∧ t = { s with regs := t.regs, swc := t.swc }) ∧
  (∀ s (p : Fin 64) v, barOpen s = true → v.getLsbD 31 = true → flagOf s (Reg.SWC_SAMPLE_CFG p.val) 31 = false → Answers (.samplerEnable p v) s fun t =>
      (Tbl.get t.swc.samplers p.val {}).count = 0 ∧ regRead t (Reg.SWC_SAMPLE_CFG p.val) = (v &&& 0xCFFFFFFF#32) ∧ t = { s with regs := t.regs, swc := t.swc }) ∧
  (∀ s (p : Fin 64) v, barOpen s = true → (v.getLsbD 31 && !flagOf s (Reg.SWC_SAMPLE_CFG p.val) 31) = false → Answers (.samplerEnable p v) s fun t =>
      t = regStore (Reg.SWC_SAMPLE_CFG p.val) (v &&& 0xCFFFFFFF#32) s) ∧
  (∀ s cmd, bits cmd.toNat 1 0 = 1 → barOpen s = true → popNat (pairOf s Reg.SWC_GRP_PORTS_LO) 64 + popNat (fieldOf s Reg.SWC_GRP_HOST 15 0) 16 ≤ 64 →
      Answers (.swcGrpWrite cmd) s fun t => Tbl.get t.swc.groups (bits cmd.toNat 24 16) {} = { ports := pairOf s Reg.SWC_GRP_PORTS_LO, hosts := fieldOf s Reg.SWC_GRP_HOST 15 0, hairpin := flagOf s Reg.SWC_GRP_HOST 16 } ∧
      regRead t Reg.SWC_GRP_STATUS = 0#32 ∧ t = { s with regs := t.regs, swc := t.swc }) ∧
  (∀ s cmd, bits cmd.toNat 1 0 = 1 → barOpen s = true → 64 < popNat (pairOf s Reg.SWC_GRP_PORTS_LO) 64 + popNat (fieldOf s Reg.SWC_GRP_HOST 15 0) 16 →
      Answers (.swcGrpWrite cmd) s fun t => regRead t Reg.SWC_GRP_STATUS = 1#32 ∧ flagOf t Reg.SWC_IRQ_CAUSE 4 = true ∧ t = { s with regs := t.regs }) ∧
  (∀ s cmd, bits cmd.toNat 1 0 = 2 → barOpen s = true → (Tbl.get s.swc.groups (bits cmd.toNat 24 16) {}).ports < 2 ^ 64 → Answers (.swcGrpRead cmd) s fun t =>
      pairOf t Reg.SWC_GRP_PORTS_LO = (Tbl.get s.swc.groups (bits cmd.toNat 24 16) {}).ports ∧
      regRead t Reg.SWC_GRP_HOST = BitVec.ofNat 32 ((Tbl.get s.swc.groups (bits cmd.toNat 24 16) {}).hosts + 2 ^ 16 * b2n (Tbl.get s.swc.groups (bits cmd.toNat 24 16) {}).hairpin) ∧
      regRead t Reg.SWC_GRP_STATUS = 0#32 ∧ t = { s with regs := t.regs }) ∧
  (∀ s (p : Fin 64), portExists s p.val = true → Answers (.fecUncorrCodeword p) s fun t =>
      t = cause (Reg.PORT_IRQ_CAUSE p.val) 4 (bump (Reg.PORT_FEC_UNCORR_CNT p.val) s))

/-- What selecting a copy, its end, an underrun, hold expiry and gate boundaries leave. 12 Selection; 12 Gate control lists; 12 Port down and hold; 11 Cut-through. -/
def Obligations.SchedulerCommandsAct : Prop :=
  (∀ s (k : Fin 66) desc buf, k.val ≠ 65 → ((s.schedAt k.val).sending.isSome || !outputOpen s k.val) = true → NoEffect (.tmSelect k desc buf) s) ∧
  (∀ s (k : Fin 66) desc buf n u c rest x, k.val ≠ 65 → (s.schedAt k.val).sending = none → outputOpen s k.val = true → pick k.val (preparePick k.val s) = (some n, u) →
      queueAt u n = c :: rest → frameAt u c.frame = some x → desc.ecc = .clean → buf.ecc = .clean → Answers (.tmSelect k desc buf) s fun t =>
      ((t.schedAt (schedOf n)).sending.map fun y => (y.copy, y.queue, y.start, y.cutThrough)) = some (c, n, u.time.tick, !x.tail) ∧ queueAt t n = rest) ∧
  (∀ s (k : Fin 66) buf y x, k.val < 64 → (s.schedAt k.val).sending = some y → frameAt s y.copy.frame = some x → x.tail = true →
      sentBy s k.val y ((sentBytes y x).length + 4) = true → (y.cutThrough && x.bad.isSome) = false → buf.ecc = .clean → Answers (.txCopyEnd k buf) s fun t =>
      t.out.tx = some (k.val, sentBytes y x ++ fcsOf (sentBytes y x), false) ∧ (t.schedAt k.val).sending = none) ∧
  (∀ s (k : Fin 66) y x, k.val < 64 → (s.schedAt k.val).sending = some y → frameAt s y.copy.frame = some x → y.cutThrough = true → Answers (.egressUnderrun k) s fun t =>
      t.out.tx = some (k.val, sentBytes y x ++ (fcsOf (sentBytes y x)).map (~~~ ·), true) ∧ (t.schedAt k.val).sending = none) ∧
  (∀ s (n : Fin 536) c, n.val < 520 → queueAt s n.val = [c] → holdOver s n.val = true → Answers (.holdExpiry n) s fun t => queueAt t n.val = []) ∧
  (∀ s (n : Fin 536), holdOver s n.val = false → NoEffect (.holdExpiry n) s) ∧
  (∀ s (p : Fin 64) g, (s.schedAt p.val).inForce = some g → Answers (.gateEntryBoundary p) s fun t =>
      (t.schedAt p.val).gateIdx = gateIndex g (nowNs s) ∧ t = { s with tm := t.tm })

/-- What shaper updates, debt clearing and policer reads leave. 12 Credit-based shapers; 12 Policers; 12 Registers. -/
def Obligations.ShaperAndPolicerCommandsAct : Prop :=
  (∀ s (k : Fin 66) (c : Fin 16), c.val < schedClasses s k.val → 256 ≤ since s (s.classAt (firstQueue k.val + c.val)).updAt → flagOf s (Reg.TM_CLASS_CTRL (firstQueue k.val + c.val)) 31 = true →
      Answers (.shaperUpdate k c) s fun t => t.classAt (firstQueue k.val + c.val) =
        { s.classAt (firstQueue k.val + c.val) with credit := shapedCredit s (firstQueue k.val + c.val) none, clearDebt := false, updAt := s.time.tick } ∧ t = { s with tm := t.tm }) ∧
  (∀ s (n : Fin 536) v, v.getLsbD 30 = true → barOpen s = true → classExists s n.val = true → Answers (.clearDebt n v) s fun t =>
      (t.classAt n.val).clearDebt = true ∧ (t.classAt n.val).credit = (s.classAt n.val).credit ∧ regRead t (Reg.TM_CLASS_CTRL n.val) = (v &&& 0x8001FFFF#32) ∧ t = { s with regs := t.regs, tm := t.tm }) ∧
  (∀ s cmd, bits cmd.toNat 3 0 = 2 → barOpen s = true → Answers (.polRead cmd) s fun t =>
      policerAt t (polKey cmd.toNat) = refill s (policerAt s (polKey cmd.toNat)) ∧ regRead t Reg.TM_POL_CIR = BitVec.ofNat 32 (policerAt s (polKey cmd.toNat)).cir ∧
      regRead t Reg.TM_POL_CBS = BitVec.ofNat 32 (policerAt s (polKey cmd.toNat)).cbs ∧ regRead t Reg.TM_POL_DROPS = BitVec.ofNat 32 (policerAt s (polKey cmd.toNat)).drops ∧
      t = { s with regs := t.regs, tm := t.tm }) ∧
  (∀ s cmd, bits cmd.toNat 3 0 = 3 → barOpen s = true → Answers (.polReadClear cmd) s fun t =>
      policerAt t (polKey cmd.toNat) = { refill s (policerAt s (polKey cmd.toNat)) with drops := 0 } ∧ regRead t Reg.TM_POL_DROPS = BitVec.ofNat 32 (policerAt s (polKey cmd.toNat)).drops ∧
      t = { s with regs := t.regs, tm := t.tm })

/-- A policer write keeps the tokens, limited to the new burst, and REFILL fills them. R302. -/
def Obligations.PolicerWritesKeepTheTokens : Prop :=
  (∀ s cmd, bits cmd.toNat 3 0 = 1 → barOpen s = true → Answers (.polWrite cmd) s fun t =>
      policerAt t (polKey cmd.toNat) = { refill s (policerAt s (polKey cmd.toNat)) with
        cir := (regRead s Reg.TM_POL_CIR).toNat
        cbs := (regRead s Reg.TM_POL_CBS).toNat
        wire := flagOf s Reg.TM_POL_FLAGS 0
        tk := min ((((regRead s Reg.TM_POL_CBS).toNat * 65536 : Nat)) : Int) (refill s (policerAt s (polKey cmd.toNat))).tk } ∧
      fieldOf t Reg.TM_POL_STATUS 1 0 = 0 ∧ t = { s with regs := t.regs, tm := t.tm }) ∧
  (∀ s cmd, bits cmd.toNat 3 0 = 4 → barOpen s = true → Answers (.polRefill cmd) s fun t =>
      (policerAt t (polKey cmd.toNat)).tk = (((regRead s Reg.TM_POL_CBS).toNat * 65536 : Nat) : Int) ∧ (policerAt t (polKey cmd.toNat)).cir = (regRead s Reg.TM_POL_CIR).toNat ∧
      (policerAt t (polKey cmd.toNat)).cbs = (regRead s Reg.TM_POL_CBS).toNat ∧ fieldOf t Reg.TM_POL_STATUS 1 0 = 0 ∧ t = { s with regs := t.regs, tm := t.tm })

/-- What admission, parsing, the Exchange, recirculation and prefix maps leave. 03 The parse window and admission; 03 The Exchange; 03 Recirculation; 09 NPTv6. -/
def Obligations.AssayerAndRewriteMapCommandsAct : Prop :=
  (∀ s (b : Fin 4), (!flowing s || !domOn s (9 + b.val) || (s.assayAt b.val).held.isSome) = true → NoEffect (.assayAdmit b) s) ∧
  (∀ s (b : Fin 4) d rest, flowing s = true → domOn s (9 + b.val) = true → (s.assayAt b.val).held = none → (s.assayAt b.val).stalled = none →
      (s.assayAt b.val).recircQ = d :: rest → (s.assayAt b.val).recircSlots < owedSlots s b.val → Answers (.assayAdmit b) s fun t =>
      (t.assayAt b.val).recircQ = rest ∧ (t.assayAt b.val).parsing = (s.assayAt b.val).parsing ++ [d] ∧ t = { s with assay := t.assay, regs := t.regs }) ∧
  (∀ s (b : Fin 4) d rest, flowing s = true → domOn s (9 + b.val) = true → (s.assayAt b.val).held = none → (s.assayAt b.val).stalled = none →
      (s.assayAt b.val).recircQ = [] → nextSource s b.val = some 16 → (s.assayAt b.val).injectQ = d :: rest → Answers (.assayAdmit b) s fun t =>
      (t.assayAt b.val).injectQ = rest ∧ (t.assayAt b.val).parsing = (s.assayAt b.val).parsing ++ [{ d with stamp := s.accord.gen }] ∧ (t.assayAt b.val).last = 16 ∧
      t = { s with assay := t.assay, regs := t.regs }) ∧
  (∀ s0 (b : Fin 4) f sieve s d x, s = sieve.foldl (sieveRead b.val) s0 → domOn s (9 + b.val) = true → (s.assayAt b.val).held = none → (s.assayAt b.val).stalled = none → passInHand s b.val f = some d → frameAt s f = some x →
      windowDone x d.head = true → (parse s d x).1.status = 0 → (parse s d x).2.2 = false → (parse s d x).2.1.declEnd = 0 → xchFree s b.val (homeOf (parse s d x).1.hash) = true →
      Answers (.parsePass b f sieve) s0 fun t => (t.assayAt b.val).parsing = delFirst (·.frame == f) (s.assayAt b.val).parsing ∧
      Tbl.get (t.assayAt b.val).out (homeOf (parse s d x).1.hash) [] = Tbl.get (s.assayAt b.val).out (homeOf (parse s d x).1.hash) [] ++ [(parse s d x).1] ∧
      t = { s with assay := t.assay, regs := t.regs }) ∧
  (∀ s0 (b : Fin 4) f sieve s d x, s = sieve.foldl (sieveRead b.val) s0 → domOn s (9 + b.val) = true → (s.assayAt b.val).held = none → (s.assayAt b.val).stalled = none → passInHand s b.val f = some d → frameAt s f = some x →
      windowDone x d.head = false → Answers (.parsePass b f sieve) s0 fun t => t = s) ∧
  (∀ s (b : Fin 4) home d, (s.assayAt b.val).held = some (home, d) → xchFree s b.val home = true → Answers (.xchHoldRelease b) s fun t =>
      (t.assayAt b.val).held = none ∧ Tbl.get (t.assayAt b.val).out home [] = Tbl.get (s.assayAt b.val).out home [] ++ [d] ∧ t = { s with assay := t.assay, regs := t.regs }) ∧
  (∀ s (b : Fin 4), (s.assayAt b.val).held ≠ none → us 1 ≤ since s (s.assayAt b.val).stallAt → (s.assayAt b.val).heldTold = false → us 100 ≤ since s (s.assayAt b.val).heldAt →
      Answers (.xchStallInterval b) s fun t => (t.assayAt b.val).heldTold = true ∧ (t.assayAt b.val).stallAt = s.time.tick ∧ flagOf t (Reg.ASSAY_IRQ_CAUSE b.val) 2 = true ∧
      t = { s with assay := t.assay, regs := t.regs }) ∧
  (∀ s (b : Fin 4), (s.assayAt b.val).held ≠ none → us 1 ≤ since s (s.assayAt b.val).stallAt → ((s.assayAt b.val).heldTold = true ∨ since s (s.assayAt b.val).heldAt < us 100) →
      Answers (.xchStallInterval b) s fun t => t = (bump (Reg.ASSAY_XCH_STALL_CNT b.val) s).modAssay b.val fun a => { a with stallAt := s.time.tick }) ∧
  (∀ s (b : Fin 4), ((s.assayAt b.val).held = none ∨ since s (s.assayAt b.val).stallAt < us 1) → NoEffect (.xchStallInterval b) s) ∧
  (∀ s (b : Fin 4) u d rest, (s.assayAt b.val).recircWait = (u, d) :: rest → (s.assayAt b.val).recircQ.length < 1024 → Answers (.recircPlaceFreed b) s fun t =>
      (t.assayAt b.val).recircWait = rest ∧ (t.assayAt b.val).recircQ = (s.assayAt b.val).recircQ ++ [d] ∧ (t.tellerAt u).ctx.recircOk = true ∧
      t = { s with assay := t.assay, regs := t.regs, tellers := t.tellers }) ∧
  (∀ s (m : Fin 64) v, v.getLsbD 31 = true → barOpen s = true → Answers (.nptMapValidate m v) s fun t =>
      regRead t (Reg.EGR_NPT_CTL m.val) = (v &&& 0x800000FF#32) ∧
      fieldOf t (Reg.EGR_NPT_ADJ m.val) 15 0 = nptAdj (addrRegs s (Reg.EGR_NPT_INT m.val 0) 4) (addrRegs s (Reg.EGR_NPT_EXT m.val 0) 4) (min 128 (bits v.toNat 7 0)) % 65536 ∧ t = { s with regs := t.regs })

/-- What taking export items, retries, IPFIX messages and template resends leave. 09 Flow export. -/
def Obligations.ExporterCommandsAct : Prop :=
  (∀ s (b : Fin 4), (expAt s b.val).ring = [] ∨ domOn s 27 = false → Answers (.exportTake b) s fun t => t = freshOut s) ∧
  (∀ s (b : Fin 4) n rest, (expAt s b.val).ring = n :: rest → domOn s 27 = true → n.item = 0 ∨ n.item = 3 → flagOf s (Reg.TILL_EXP_CFG 0) 1 = false → fits s (expRing s) 4 128 = true →
      Answers (.exportTake b) s fun t => (expAt t b.val).ring = rest) ∧
  (∀ s (b : Fin 4) n u, (expAt s b.val).ring = [n] → n.item = 1 → exportItem b.val n s = (2, u) → Answers (.exportItemRetry b) s fun t =>
      (expAt t b.val).ring = [{ n with item := 2 }] ∧ t = { u with ledger := t.ledger }) ∧
  (∀ s (b : Fin 4) u, flushDue s b.val = true → placeRec (expRing s) 5 (ipfixMessage b.val (expAt s b.val) s) (freshOut s) = (true, u) → Answers (.ipfixFlush b) s fun t =>
      (expAt t b.val).recs = [] ∧ (expAt t b.val).sent = ((expAt s b.val).sent + (expAt s b.val).recs.length) % 2 ^ 32 ∧ (expAt t b.val).withTmpl = false) ∧
  (∀ s (b : Fin 4), flushDue s b.val = false → Answers (.ipfixFlush b) s fun t => t = freshOut s) ∧
  (∀ s (b : Fin 4), fieldOf s (Reg.TILL_EXP_TMPL 0) 15 0 ≠ 0 → fieldOf s (Reg.TILL_EXP_TMPL 0) 15 0 * 1000000000 ≤ since s (expAt s b.val).tmplAt → Answers (.ipfixTemplateResend b) s fun t =>
      (expAt t b.val).tmplDue = true ∧ (expAt t b.val).tmplAt = s.time.tick ∧ t = { s with ledger := t.ledger })

/-- What Auditor visits and lap alarms leave. 16 The Auditor. -/
def Obligations.AuditorCommandsAct : Prop :=
  (∀ s (m : Fin 6) c found flips, (auditOn s m.val = false ∨ (m.val = 5 ∧ s.coffer.pending ≠ []) ∨ (m.val = 0 ∧ (lapNext s c.val = none ∨ auditTurn s c.val = false))) →
      NoEffect (.auditVisit m c found flips) s) ∧
  (∀ s (m : Fin 6) c found, m.val ≠ 0 → auditOn s m.val = true → (m.val = 5 → s.coffer.pending = []) → Tbl.get s.audit.visited m.val 0 + 1 < auditPages m.val →
      (∀ i, i < 64 → (if m.val = 5 then cofferPage s (Tbl.get s.audit.visited 5 0) else tillPage s (m.val - 1) (Tbl.get s.audit.visited m.val 0)).held i ≠ none) →
      Answers (.auditVisit m c found []) s fun t => Tbl.get t.audit.visited m.val 0 = Tbl.get s.audit.visited m.val 0 + 1 ∧ (Tbl.find t.audit.lapAt m.val).isSome = true ∧ t = { s with audit := t.audit }) ∧
  (∀ s (m : Fin 6), fieldOf s Reg.AUDIT_LAP_LIMIT 31 0 ≠ 0 → 1000 * fieldOf s Reg.AUDIT_LAP_LIMIT 31 0 < lapMs s m.val → m.val ∉ s.audit.alarmed → Answers (.auditLapAlarm m) s fun t =>
      t.audit.alarmed = s.audit.alarmed ++ [m.val] ∧ flagOf t Reg.AUDIT_IRQ_CAUSE 3 = true ∧ t = { s with audit := t.audit, regs := t.regs, sill := t.sill }) ∧
  (∀ s (c : Fin 8) flips rank u, auditOn s 0 = true → lapNext s c.val = some (rank, u) → auditTurn s c.val = true → u + 1 < rankRecords s.vault → peekCell s rank u ≠ .poison →
      (∀ a, inService s.vault rank u = some a → (s.chanAt (chanOf s.vault a)).merge.find? (·.record = a) = none) →
      Answers (.auditVisit 0 c .clean flips) s fun t => Tbl.find t.audit.visited (8 + c.val) = some (2 ^ 29 * rank + u + 1) ∧ (∀ r v, peekCell t r v = peekCell s r v) ∧
      t = { s with audit := t.audit, regs := t.regs, vault := t.vault })

/-- What scan requests, reports, burst returns, pattern group updates and memory writes of the Nose leave. 10 Scan requests; 10 Backlog, rate and temperature; 10 Reports; 10 Updating a group. -/
def Obligations.ScanEngineCommandsAct : Prop :=
  (∀ s (b : Fin 4) q rest, (s.noseAt b.val).run = none → (s.noseAt b.val).queue = q :: rest → (s.noseAt b.val).hold = false → Answers (.noseRequestStart b) s fun t =>
      t.noseAt b.val = { s.noseAt b.val with queue := rest, run := some (chooseStream s b.val q).1 } ∧ t = { s with nose := t.nose, regs := t.regs }) ∧
  (∀ s (b : Fin 4), (s.noseAt b.val).run ≠ none ∨ (s.noseAt b.val).queue = [] ∨ (s.noseAt b.val).hold = true → NoEffect (.noseRequestStart b) s) ∧
  (∀ s (b : Fin 4) r e at_, (s.noseAt b.val).run = some r → (r.done || scanBad s r.req || (reqBytes s r.req).2) = true →
      Answers (.noseScanDone b e at_) s fun t => (t.noseAt b.val).run = none) ∧
  (∀ s (b : Fin 4) e at_, (s.noseAt b.val).run = none → NoEffect (.noseScanDone b e at_) s) ∧
  (∀ s (b : Fin 4) h p w, (s.noseAt b.val).reports = [(h, p, w)] → fieldOf s (Reg.DISP_MAINT_ROUTINE b.val) 31 24 ≠ 0 → placeFree s b.val 3 = true → us 1 ≤ since s (s.noseAt b.val).reportAt →
      Answers (.noseReportRetry b) s fun t => (t.noseAt b.val).reports = [] ∧ (t.dispAt b.val).nextId = (s.dispAt b.val).nextId + 1) ∧
  (∀ s (b : Fin 4), ((s.noseAt b.val).reports = [] ∨ since s (s.noseAt b.val).reportAt < us 1) → NoEffect (.noseReportRetry b) s) ∧
  (∀ s (b : Fin 4) a, (s.noseAt b.val).zeroSince = some a → backlog s b.val = 0 → us 10 ≤ since s a → (s.userAt b.val).st = .granted → (s.userAt b.val).released = 0 →
      Answers (.noseBurstReturn b) s fun t => t.userAt b.val = {} ∧ t = { s with treas := t.treas, regs := t.regs, sill := t.sill }) ∧
  (∀ s (b : Fin 4), (s.noseAt b.val).zeroSince = none → NoEffect (.noseBurstReturn b) s) ∧
  (∀ s v, barOpen s = true → bits v.toNat 1 0 = 1 → bits v.toNat 13 8 < s.automata.groupCount → (groupAt s (bits v.toNat 13 8)).valid = true → Answers (.noseInvalidate v) s fun t =>
      groupAt t (bits v.toNat 13 8) = { groupAt s (bits v.toNat 13 8) with valid := false, quiesced := false } ∧ fieldOf t (Reg.NOSE_GRP_RESULT 0) 2 0 = 0 ∧
      t = { s with automata := t.automata, regs := t.regs }) ∧
  (∀ s v, barOpen s = true → bits v.toNat 1 0 = 1 → s.automata.groupCount ≤ bits v.toNat 13 8 ∨ (groupAt s (bits v.toNat 13 8)).valid = false → Answers (.noseInvalidate v) s fun t =>
      fieldOf t (Reg.NOSE_GRP_RESULT 0) 2 0 = (if s.automata.groupCount ≤ bits v.toNat 13 8 then 1 else 2) ∧ t = { s with regs := t.regs }) ∧
  (∀ s (g : Fin 64), g.val < s.automata.groupCount → (groupAt s g.val).valid = false → (groupAt s g.val).quiesced = false → groupBusy s g.val = false → Answers (.noseQuiesced g) s fun t =>
      groupAt t g.val = { groupAt s g.val with quiesced := true } ∧ flagOf t (Reg.NOSE_IRQ_CAUSE 0) 0 = true ∧ t = { s with automata := t.automata, regs := t.regs, sill := t.sill }) ∧
  (∀ s v, barOpen s = true → bits v.toNat 1 0 = 2 → bits v.toNat 13 8 < s.automata.groupCount → (groupAt s (bits v.toNat 13 8)).valid = false → (groupAt s (bits v.toNat 13 8)).quiesced = true →
      inGroup (groupAt s (bits v.toNat 13 8)) (groupAt s (bits v.toNat 13 8)).start = true → Answers (.noseValidate v) s fun t =>
      groupAt t (bits v.toNat 13 8) = { groupAt s (bits v.toNat 13 8) with valid := true, quiesced := false, gen := ((groupAt s (bits v.toNat 13 8)).gen + 1) % 256 } ∧
      flagOf t (Reg.NOSE_IRQ_CAUSE 0) 1 = true ∧ t = { s with automata := t.automata, regs := t.regs, sill := t.sill }) ∧
  (∀ s v, barOpen s = true → bits v.toNat 1 0 = 2 → bits v.toNat 13 8 < s.automata.groupCount → (groupAt s (bits v.toNat 13 8)).valid = false →
      (groupAt s (bits v.toNat 13 8)).quiesced = false → Answers (.noseValidate v) s fun t => fieldOf t (Reg.NOSE_GRP_RESULT 0) 2 0 = 3 ∧ t = { s with regs := t.regs }) ∧
  (∀ s v, barOpen s = true → memTaken s (4 * fieldOf s (Reg.NOSE_MEM_ADDR 0) 22 2) = false → Answers (.noseMemWrite v) s fun t =>
      t.automata = s.automata ∧ flagOf t (Reg.NOSE_IRQ_CAUSE 0) 7 = true ∧ t = { s with regs := t.regs }) ∧
  (∀ s v, barOpen s = true → memTaken s (4 * fieldOf s (Reg.NOSE_MEM_ADDR 0) 22 2) = true → 0x10000 ≤ 4 * fieldOf s (Reg.NOSE_MEM_ADDR 0) 22 2 → Answers (.noseMemWrite v) s fun t =>
      noseUnit t ((4 * fieldOf s (Reg.NOSE_MEM_ADDR 0) 22 2 - 0x10000) / 8) = putHalf (noseUnit s ((4 * fieldOf s (Reg.NOSE_MEM_ADDR 0) 22 2 - 0x10000) / 8))
        (Decidable.decide (4 * fieldOf s (Reg.NOSE_MEM_ADDR 0) 22 2 / 4 % 2 = 1)) v ∧ t = { s with automata := t.automata, regs := t.regs })

/-- What retraining, lane checks, link up and down, re-forming, link frames, heartbeats, copies, mirror and recovery messages leave. 13 The Tether; 13 Registers. -/
def Obligations.TetherCommandsAct : Prop :=
  (∀ s v, v.getLsbD 31 = true → domOn s 26 = true → barOpen s = true → Answers (.tethRetrain v) s fun t =>
      t.teth = { s.teth with up := false, trainingSince := some s.time.tick, framedIdle := false, good := 0, peerGood := 0, peerSet := 0, svc := 0, failed := 0 } ∧
      (s.teth.up = true → flagOf t Reg.TETH_IRQ_CAUSE 1 = true) ∧ regRead t Reg.TETH_CTRL = v &&& 0x010FFFFF#32 ∧ t = { s with teth := t.teth, regs := t.regs }) ∧
  (∀ s b, s.teth.trainingSince = some b → s.teth.trainMs * 1000000 ≤ since s b → Answers .tethTrainDone s fun t =>
      t.teth = { s.teth with trainingSince := none, framedIdle := true, laneAt := s.time.tick } ∧ t = { s with teth := t.teth }) ∧
  (∀ s (errors : List Nat) peer, s.teth.framedIdle = true → 1000000 ≤ since s s.teth.laneAt → Answers (.tethLaneCheck errors peer) s fun t =>
      (∀ m, m < 8 → t.teth.good.testBit m = (s.teth.lanesFitted.testBit m && (errors[m]?).any fun n => n ≤ (regRead s Reg.TETH_LANE_ERR_LIMIT).toNat)) ∧
      t.teth.laneAt = s.time.tick ∧ t.teth.peerGood = peer.toNat ∧ (s.teth.up = false → t.teth.failed = s.teth.failed) ∧
      t = { s with teth := { s.teth with laneAt := t.teth.laneAt, good := t.teth.good, peerGood := t.teth.peerGood, failed := t.teth.failed } }) ∧
  (∀ s (peer set : BitVec 8), s.teth.framedIdle = true → s.teth.up = false → set ≠ 0 →
      (if s.teth.side = 0 then laneSet (s.teth.good &&& peer.toNat &&& s.teth.lanesFitted &&& (255 - s.teth.failed % 256)) else set.toNat) = set.toNat →
      s.teth.good &&& peer.toNat &&& s.teth.lanesFitted &&& (255 - s.teth.failed % 256) &&& set.toNat = set.toNat → Answers (.tethLinkUp peer set) s fun t =>
      t.teth = { s.teth with peerGood := peer.toNat, peerSet := set.toNat, up := true, svc := set.toNat, hbSentAt := s.time.tick } ∧
      t.out = { s.out with teth := s.teth.retry.map fun e => linkFrame e.kind e.seq e.payload, acks := [] } ∧ t = { s with teth := t.teth, regs := t.regs, out := t.out }) ∧
  (∀ s (peer set : BitVec 8), (s.teth.framedIdle = false ∨ s.teth.up = true ∨ set = 0) → Answers (.tethLinkUp peer set) s fun t => t = { s with out := { s.out with teth := [], acks := [] } }) ∧
  (∀ s (lane : Fin 8) (announced : BitVec 8) set, s.teth.up = true → s.teth.svc.testBit lane.val = true →
      set = (if s.teth.side = 0 then laneSet (s.teth.good &&& s.teth.peerGood &&& s.teth.lanesFitted &&& (255 - (s.teth.failed ||| 2 ^ lane.val) % 256)) else announced.toNat) &&&
        (s.teth.good &&& s.teth.peerGood &&& s.teth.lanesFitted &&& (255 - (s.teth.failed ||| 2 ^ lane.val) % 256)) → set ≠ 0 → Answers (.tethReform lane announced) s fun t =>
      t.teth = { s.teth with failed := s.teth.failed ||| 2 ^ lane.val, peerSet := announced.toNat, svc := set } ∧
      t.out = { s.out with teth := s.teth.retry.map fun e => linkFrame e.kind e.seq e.payload, acks := [] } ∧ t = { s with teth := t.teth, regs := t.regs, sill := t.sill, out := t.out }) ∧
  (∀ s (lane : Fin 8) (announced : BitVec 8), s.teth.up = true → s.teth.svc.testBit lane.val = true →
      (if s.teth.side = 0 then laneSet (s.teth.good &&& s.teth.peerGood &&& s.teth.lanesFitted &&& (255 - (s.teth.failed ||| 2 ^ lane.val) % 256)) else announced.toNat) &&&
        (s.teth.good &&& s.teth.peerGood &&& s.teth.lanesFitted &&& (255 - (s.teth.failed ||| 2 ^ lane.val) % 256)) = 0 → Answers (.tethReform lane announced) s fun t =>
      t.teth.up = false ∧ t.teth.trainingSince = some s.time.tick ∧ t.teth.svc = 0 ∧ flagOf t Reg.TETH_IRQ_CAUSE 1 = true) ∧
  (∀ s, s.teth.framedIdle = true → s.teth.good &&& s.teth.peerGood &&& s.teth.lanesFitted &&& (255 - s.teth.failed % 256) = 0 → Answers .tethLinkDown s fun t =>
      t.teth = { s.teth with up := false, trainingSince := some s.time.tick, framedIdle := false, good := 0, peerGood := 0, peerSet := 0, svc := 0, failed := 0 } ∧
      (s.teth.up = true → flagOf t Reg.TETH_IRQ_CAUSE 1 = true) ∧ t = { s with teth := t.teth, regs := t.regs }) ∧
  (∀ s (kind : Nat) (seq : BitVec 16) (ok : Bool) buf, buf.ecc = .clean → s.teth.up = true → kind ≠ 1 → seq.toNat = s.teth.rxSeq → s.teth.rxSeq ∉ s.teth.rxRetry →
      Answers (.linkFrameRx kind seq ok none none buf) s fun t =>
      t.teth = { s.teth with rxSeq := (s.teth.rxSeq + 1) % 65536, rxRetry := s.teth.rxRetry ++ (if ok then [] else [s.teth.rxSeq]) } ∧
      t.out = { s.out with teth := [], acks := [(s.teth.rxSeq, ok)] } ∧ t = { s with teth := t.teth, regs := t.regs, out := t.out }) ∧
  (∀ s (a : BitVec 16) buf, buf.ecc = .clean → s.teth.up = true → Answers (.linkFrameRx 1 0 true (some a) none buf) s fun t =>
      t.teth = { s.teth with retry := delFirst (fun e => e.seq == a.toNat) s.teth.retry } ∧ t.out = { s.out with teth := [], acks := [] } ∧ t = { s with teth := t.teth, regs := t.regs, out := t.out }) ∧
  (∀ s (a : BitVec 16) buf e, buf.ecc = .clean → s.teth.up = true → s.teth.retry.find? (·.seq = a.toNat) = some e → e.resent = false → Answers (.linkFrameRx 1 0 true none (some a) buf) s fun t =>
      t.teth = { s.teth with retry := updFirst (fun e => e.seq == a.toNat) (fun e => { e with resent := true }) s.teth.retry } ∧
      t.out = { s.out with teth := [linkFrame e.kind e.seq e.payload], acks := [] } ∧ t = { s with teth := t.teth, regs := t.regs, out := t.out }) ∧
  (∀ s, s.teth.up = true → 10000 ≤ since s s.teth.hbSentAt → Answers .heartbeatSend s fun t =>
      t.teth = { s.teth with hbSentAt := s.time.tick, linkDebt := s.teth.linkDebt + 80 * linkLen (heartbeat s).length } ∧
      t.out = { s.out with teth := [linkFrame 1 s.teth.txSeq (heartbeat s)], acks := [] } ∧ t = { s with teth := t.teth, regs := t.regs, out := t.out }) ∧
  (∀ s, s.teth.up = false ∨ since s s.teth.hbSentAt < 10000 → NoEffect .heartbeatSend s) ∧
  (∀ s (msg : Bytes), s.teth.up = true → (bits (byteAt msg 0) 0 0 = s.teth.side ∨ leAt msg 1 4 ≠ pairCheck s) → Answers (.heartbeatRx msg) s fun t =>
      t.teth.pair = .mismatch ∧ t.teth.hbRxAt = s.time.tick ∧ t.teth.hbExchange = some (leAt msg 5 16, s.time.net) ∧ t.teth.up = true ∧ t.teth.retry = s.teth.retry) ∧
  (∀ s (msg : Bytes), s.teth.up = true → bits (byteAt msg 0) 0 0 ≠ s.teth.side → leAt msg 1 4 = pairCheck s → bit (byteAt msg 0) 1 = false → s.teth.recoveries = [] →
      Answers (.heartbeatRx msg) s fun t =>
      t.teth.pair = .peerDrain ∧ t.teth.hbRxAt = s.time.tick ∧ t.teth.hbExchange = some (leAt msg 5 16, s.time.net) ∧ t.teth.up = true ∧ t.teth.retry = s.teth.retry) ∧
  (∀ s (msg : Bytes), s.teth.up = true → bits (byteAt msg 0) 0 0 ≠ s.teth.side → leAt msg 1 4 = pairCheck s → bit (byteAt msg 0) 1 = true → running s = true →
      Answers (.heartbeatRx msg) s fun t =>
      t.teth.pair = .paired ∧ t.teth.hbRxAt = s.time.tick ∧ t.teth.hbExchange = some (leAt msg 5 16, s.time.net) ∧ t.teth.up = true ∧ t.teth.retry = s.teth.retry) ∧
  (∀ s, s.teth.pair = .paired ∨ s.teth.pair = .peerDrain → 30000 ≤ since s s.teth.hbRxAt → Answers .peerLost s fun t =>
      t.teth.pair = .peerLost ∧ t.teth.up = s.teth.up ∧ t.teth.retry = s.teth.retry ∧ t.teth.recoveries = s.teth.recoveries) ∧
  (∀ s, (s.teth.pair ≠ .paired ∧ s.teth.pair ≠ .peerDrain) ∨ since s s.teth.hbRxAt < 30000 → NoEffect .peerLost s) ∧
  (∀ s (header data : Bytes), s.teth.up = true → running s = true → Answers (.tetherCopyRx header data) s fun t =>
      t.teth = s.teth ∧ t.flows = s.flows ∧ t.pins = s.pins) ∧
  (∀ s (header data : Bytes), s.teth.up = false ∨ running s = false → NoEffect (.tetherCopyRx header data) s) ∧
  (∀ s (msg : Bytes) k w, s.teth.pair = .paired → running s = true → 1 ≤ byteAt msg 0 → byteAt msg 0 ≤ 4 → msg.length = 144 →
      probe s (homeOf (BitVec.ofNat 64 (leAt msg 8 8))) (BitVec.ofNat 64 (leAt msg 8 8)) (recKey (bytesRec (msg.drop 16))) = some k →
      wayAt s (homeOf (BitVec.ofNat 64 (leAt msg 8 8))) k = some w → rcLock w.rc = true → rcState w.rc < 5 → NoEffect (.mirrorApply msg) s) ∧
  (∀ s (msg : Bytes) k w, s.teth.pair = .paired → running s = true → byteAt msg 0 = 2 → msg.length = 144 →
      probe s (homeOf (BitVec.ofNat 64 (leAt msg 8 8))) (BitVec.ofNat 64 (leAt msg 8 8)) (recKey (bytesRec (msg.drop 16))) = some k →
      wayAt s (homeOf (BitVec.ofNat 64 (leAt msg 8 8))) k = some w → rcLock w.rc = false → rcDead w.rc = false → rcExpired s w.rc (ledgerNow s) = false → Answers (.mirrorApply msg) s fun t =>
      wayAt t (homeOf (BitVec.ofNat 64 (leAt msg 8 8))) k = some (markDirty s.time.tick { w with rc := withWord w.rc 7 (wordAt (bytesRec (msg.drop 16)) 7) }) ∧
      t.teth = s.teth ∧ t.vault = s.vault ∧ t = { s with ledger := t.ledger, regs := t.regs }) ∧
  (∀ s (msg : Bytes), s.teth.pair = .paired → s.teth.up = true → running s = false → Answers (.recoveryRequestRx msg) s fun t =>
      t.teth = { s.teth with recQ := s.teth.recQ ++ [(3, 3#8 :: slice msg 1 4)] } ∧ t = { s with teth := t.teth }) ∧
  (∀ s (msg : Bytes) k w, s.teth.pair = .paired → s.teth.up = true → running s = true → byteAt msg 0 = 0 →
      probe s (homeOf (hashOf s (BitVec.ofNat 320 (leAt msg 5 40)))) (hashOf s (BitVec.ofNat 320 (leAt msg 5 40))) (BitVec.ofNat 320 (leAt msg 5 40)) = some k →
      wayAt s (homeOf (hashOf s (BitVec.ofNat 320 (leAt msg 5 40)))) k = some w → rcDead w.rc = false → rcExpired s w.rc (ledgerNow s) = false → Answers (.recoveryRequestRx msg) s fun t =>
      t.teth = { s.teth with recQ := s.teth.recQ ++ [(3, 0#8 :: slice msg 1 4 ++ recBytes (vaultCopy w.rc))] } ∧ t = { s with teth := t.teth }) ∧
  (∀ s (msg : Bytes), s.teth.recoveries.find? (fun r => r.id == leAt msg 1 4) = none → NoEffect (.recoveryResponseRx msg) s) ∧
  (∀ s (msg : Bytes) r slot, s.teth.recoveries.find? (fun r => r.id == leAt msg 1 4) = some r → r.who = .audit slot → Answers (.recoveryResponseRx msg) s fun t =>
      t.teth = { s.teth with recoveries := s.teth.recoveries.filter (·.id ≠ leAt msg 1 4) } ∧ t.pins = s.pins) ∧
  (∀ s, (∀ r ∈ s.teth.recoveries, since s r.at_ ≤ 1000 * max 1 (fieldOf s Reg.TETH_RECOVER_TMO 15 0)) → NoEffect .recoveryTimeout s) ∧
  (∀ s r slot, s.teth.recoveries = [r] → r.who = .audit slot → 1000 * max 1 (fieldOf s Reg.TETH_RECOVER_TMO 15 0) < since s r.at_ → Answers .recoveryTimeout s fun t =>
      t.teth = { s.teth with recoveries := [] } ∧ t.pins = s.pins) ∧
  (∀ s (msg : Bytes), s.teth.pair = .paired → running s = true → 1 ≤ byteAt msg 0 → byteAt msg 0 ≤ 4 → msg.length = 144 →
      probe s (homeOf (BitVec.ofNat 64 (leAt msg 8 8))) (BitVec.ofNat 64 (leAt msg 8 8)) (recKey (bytesRec (msg.drop 16))) = none →
      65536 ≤ descsHeld (s.ledgerAt (homeOf (BitVec.ofNat 64 (leAt msg 8 8)))) → NoEffect (.mirrorApply msg) s)

/-- Each ALU-A operation leaves its result in G[AD] and sets Z, N and C as Table 7.6 says. R163. -/
def Obligations.AluAOperationsCompute : Prop :=
  (∀ s (t : Fin 128), wordGoes s t.val = true → plainUnits (theWord s t.val) = true → mwAop (theWord s t.val) = 0x1 →
      aluADone (.aopAdd t .clean) s t.val fun a b _ => (a + b, Decidable.decide (2 ^ 64 ≤ a.toNat + b.toNat))) ∧
  (∀ s (t : Fin 128), wordGoes s t.val = true → plainUnits (theWord s t.val) = true → mwAop (theWord s t.val) = 0x2 →
      aluADone (.aopSub t .clean) s t.val fun a b _ => (a - b, Decidable.decide (a.toNat < b.toNat))) ∧
  (∀ s (t : Fin 128), wordGoes s t.val = true → plainUnits (theWord s t.val) = true → mwAop (theWord s t.val) = 0x3 →
      aluADone (.aopAnd t .clean) s t.val fun a b _ => (a &&& b, false)) ∧
  (∀ s (t : Fin 128), wordGoes s t.val = true → plainUnits (theWord s t.val) = true → mwAop (theWord s t.val) = 0x4 →
      aluADone (.aopOr t .clean) s t.val fun a b _ => (a ||| b, false)) ∧
  (∀ s (t : Fin 128), wordGoes s t.val = true → plainUnits (theWord s t.val) = true → mwAop (theWord s t.val) = 0x5 →
      aluADone (.aopXor t .clean) s t.val fun a b _ => (a ^^^ b, false)) ∧
  (∀ s (t : Fin 128), wordGoes s t.val = true → plainUnits (theWord s t.val) = true → mwAop (theWord s t.val) = 0x6 →
      aluADone (.aopAndn t .clean) s t.val fun a b _ => (a &&& ~~~b, false)) ∧
  (∀ s (t : Fin 128), wordGoes s t.val = true → plainUnits (theWord s t.val) = true → mwAop (theWord s t.val) = 0x7 →
      aluADone (.aopMov t .clean) s t.val fun _ b _ => (b, false)) ∧
  (∀ s (t : Fin 128), wordGoes s t.val = true → plainUnits (theWord s t.val) = true → mwAop (theWord s t.val) = 0x8 →
      aluADone (.aopShl t .clean) s t.val fun a b _ => (a <<< wbits b 5 0, outLeft a (wbits b 5 0))) ∧
  (∀ s (t : Fin 128), wordGoes s t.val = true → plainUnits (theWord s t.val) = true → mwAop (theWord s t.val) = 0x9 →
      aluADone (.aopShr t .clean) s t.val fun a b _ => (a >>> wbits b 5 0, outRight a (wbits b 5 0))) ∧
  (∀ s (t : Fin 128), wordGoes s t.val = true → plainUnits (theWord s t.val) = true → mwAop (theWord s t.val) = 0xa →
      aluADone (.aopSar t .clean) s t.val fun a b _ => (a.sshiftRight (wbits b 5 0), outRight a (wbits b 5 0))) ∧
  (∀ s (t : Fin 128), wordGoes s t.val = true → plainUnits (theWord s t.val) = true → mwAop (theWord s t.val) = 0xb →
      aluADone (.aopRol t .clean) s t.val fun a b _ => (a.rotateLeft (wbits b 5 0), false)) ∧
  (∀ s (t : Fin 128), wordGoes s t.val = true → plainUnits (theWord s t.val) = true → mwAop (theWord s t.val) = 0xc →
      aluADone (.aopRor t .clean) s t.val fun a b _ => (a.rotateRight (wbits b 5 0), false)) ∧
  (∀ s (t : Fin 128), wordGoes s t.val = true → plainUnits (theWord s t.val) = true → mwAop (theWord s t.val) = 0xd →
      aluADone (.aopMinu t .clean) s t.val fun a b _ => (if a.toNat ≤ b.toNat then a else b, false)) ∧
  (∀ s (t : Fin 128), wordGoes s t.val = true → plainUnits (theWord s t.val) = true → mwAop (theWord s t.val) = 0xe →
      aluADone (.aopMaxu t .clean) s t.val fun a b _ => (if a.toNat ≤ b.toNat then b else a, false)) ∧
  (∀ s (t : Fin 128), wordGoes s t.val = true → plainUnits (theWord s t.val) = true → mwAop (theWord s t.val) = 0xf →
      aluADone (.aopMins t .clean) s t.val fun a b _ => (if a.toInt ≤ b.toInt then a else b, false)) ∧
  (∀ s (t : Fin 128), wordGoes s t.val = true → plainUnits (theWord s t.val) = true → mwAop (theWord s t.val) = 0x10 →
      aluADone (.aopMaxs t .clean) s t.val fun a b _ => (if a.toInt ≤ b.toInt then b else a, false)) ∧
  (∀ s (t : Fin 128), wordGoes s t.val = true → plainUnits (theWord s t.val) = true → mwAop (theWord s t.val) = 0x11 →
      aluATests (.aopCmp t .clean) s t.val fun a b => (a - b, Decidable.decide (a.toNat < b.toNat))) ∧
  (∀ s (t : Fin 128), wordGoes s t.val = true → plainUnits (theWord s t.val) = true → mwAop (theWord s t.val) = 0x12 →
      aluATests (.aopTst t .clean) s t.val fun a b => (a &&& b, false)) ∧
  (∀ s (t : Fin 128), wordGoes s t.val = true → plainUnits (theWord s t.val) = true → mwAop (theWord s t.val) = 0x13 →
      aluADone (.aopMul t .clean) s t.val fun a b _ => (a * b, false)) ∧
  (∀ s (t : Fin 128), wordGoes s t.val = true → plainUnits (theWord s t.val) = true → mwAop (theWord s t.val) = 0x14 →
      aluADone (.aopMulhu t .clean) s t.val fun a b _ => (BitVec.ofNat 64 (a.toNat * b.toNat / 2 ^ 64), false)) ∧
  (∀ s (t : Fin 128), wordGoes s t.val = true → plainUnits (theWord s t.val) = true → mwAop (theWord s t.val) = 0x15 →
      aluADone (.aopAddsu t .clean) s t.val fun a b _ => (if 2 ^ 64 ≤ a.toNat + b.toNat then (BitVec.allOnes 64, true) else (a + b, false))) ∧
  (∀ s (t : Fin 128), wordGoes s t.val = true → plainUnits (theWord s t.val) = true → mwAop (theWord s t.val) = 0x16 →
      aluADone (.aopSubsu t .clean) s t.val fun a b _ => (if a.toNat < b.toNat then (0, true) else (a - b, false))) ∧
  (∀ s (t : Fin 128), wordGoes s t.val = true → plainUnits (theWord s t.val) = true → mwAop (theWord s t.val) = 0x17 →
      aluADone (.aopExt t .clean) s t.val fun a b _ => ((a >>> wbits b 5 0) &&& lowMask (wbits b 12 6 + 1), false)) ∧
  (∀ s (t : Fin 128), wordGoes s t.val = true → plainUnits (theWord s t.val) = true → mwAop (theWord s t.val) = 0x18 →
      aluADone (.aopIns t .clean) s t.val fun a b o => ((o &&& ~~~(lowMask (wbits b 12 6 + 1) <<< wbits b 5 0)) ||| ((a &&& lowMask (wbits b 12 6 + 1)) <<< wbits b 5 0), false)) ∧
  (∀ s (t : Fin 128), wordGoes s t.val = true → plainUnits (theWord s t.val) = true → mwAop (theWord s t.val) = 0x19 →
      aluADone (.aopPopc t .clean) s t.val fun a _ _ => (BitVec.ofNat 64 (popCount a), false)) ∧
  (∀ s (t : Fin 128), wordGoes s t.val = true → plainUnits (theWord s t.val) = true → mwAop (theWord s t.val) = 0x1a →
      aluADone (.aopClz t .clean) s t.val fun a _ _ => (BitVec.ofNat 64 (leadZeros a), false)) ∧
  (∀ s (t : Fin 128), wordGoes s t.val = true → plainUnits (theWord s t.val) = true → mwAop (theWord s t.val) = 0x1b →
      aluADone (.aopCtz t .clean) s t.val fun a _ _ => (BitVec.ofNat 64 (trailZeros a), false)) ∧
  (∀ s (t : Fin 128), wordGoes s t.val = true → plainUnits (theWord s t.val) = true → mwAop (theWord s t.val) = 0x1c →
      aluADone (.aopBswap t .clean) s t.val fun a _ _ => (byteSwap a, false)) ∧
  (∀ s (t : Fin 128), wordGoes s t.val = true → plainUnits (theWord s t.val) = true → mwAop (theWord s t.val) = 0x1d →
      aluADone (.aopSext t .clean) s t.val fun a b _ => (signFrom a (wbits b 5 0), false)) ∧
  (∀ s (t : Fin 128), wordGoes s t.val = true → plainUnits (theWord s t.val) = true → mwAop (theWord s t.val) = 0x1e →
      aluADone (.aopZext t .clean) s t.val fun a b _ => (a &&& lowMask (wbits b 5 0 + 1), false)) ∧
  (∀ s (t : Fin 128), wordGoes s t.val = true → plainUnits (theWord s t.val) = true → mwAop (theWord s t.val) = 0x1f →
      aluADone (.aopSetc t .clean) s t.val fun _ _ _ => (if condition s (t.val / 32) (s.tellerAt t.val) (theWord s t.val) then 1 else 0, false))

/-- Each ALU-B operation leaves in G[BD] what Table 7.7 says, and sets no flag. R164. -/
def Obligations.AluBOperationsCompute : Prop :=
  (∀ s (t : Fin 128), wordGoes s t.val = true → plainUnits (theWord s t.val) = true → mwBop (theWord s t.val) = 0x1 →
      portBDone (.bopMov t .clean) s t.val fun v _ => v) ∧
  (∀ s (t : Fin 128), wordGoes s t.val = true → plainUnits (theWord s t.val) = true → mwBop (theWord s t.val) = 0x2 →
      portBDone (.bopAdd t .clean) s t.val fun v o => o + v) ∧
  (∀ s (t : Fin 128), wordGoes s t.val = true → plainUnits (theWord s t.val) = true → mwBop (theWord s t.val) = 0x3 →
      portBDone (.bopSub t .clean) s t.val fun v o => o - v) ∧
  (∀ s (t : Fin 128), wordGoes s t.val = true → plainUnits (theWord s t.val) = true → mwBop (theWord s t.val) = 0x4 →
      portBDone (.bopAnd t .clean) s t.val fun v o => o &&& v) ∧
  (∀ s (t : Fin 128), wordGoes s t.val = true → plainUnits (theWord s t.val) = true → mwBop (theWord s t.val) = 0x5 →
      portBDone (.bopOr t .clean) s t.val fun v o => o ||| v) ∧
  (∀ s (t : Fin 128), wordGoes s t.val = true → plainUnits (theWord s t.val) = true → mwBop (theWord s t.val) = 0x6 →
      portBDone (.bopXor t .clean) s t.val fun v o => o ^^^ v) ∧
  (∀ s (t : Fin 128), wordGoes s t.val = true → plainUnits (theWord s t.val) = true → mwBop (theWord s t.val) = 0x7 →
      portBDone (.bopShl t .clean) s t.val fun v o => o <<< wbits v 5 0) ∧
  (∀ s (t : Fin 128), wordGoes s t.val = true → plainUnits (theWord s t.val) = true → mwBop (theWord s t.val) = 0x8 →
      portBDone (.bopShr t .clean) s t.val fun v o => o >>> wbits v 5 0) ∧
  (∀ s (t : Fin 128), wordGoes s t.val = true → plainUnits (theWord s t.val) = true → mwBop (theWord s t.val) = 0x9 →
      portBDone (.bopInc t .clean) s t.val fun v _ => v + 1) ∧
  (∀ s (t : Fin 128), wordGoes s t.val = true → plainUnits (theWord s t.val) = true → mwBop (theWord s t.val) = 0xa →
      portBDone (.bopDec t .clean) s t.val fun v _ => v - 1) ∧
  (∀ s (t : Fin 128), wordGoes s t.val = true → plainUnits (theWord s t.val) = true → mwBop (theWord s t.val) = 0xb →
      portBDone (.bopNot t .clean) s t.val fun v _ => ~~~v) ∧
  (∀ s (t : Fin 128), wordGoes s t.val = true → plainUnits (theWord s t.val) = true → mwBop (theWord s t.val) = 0xc →
      portBDone (.bopZx8 t .clean) s t.val fun v _ => v &&& 0xFF#64) ∧
  (∀ s (t : Fin 128), wordGoes s t.val = true → plainUnits (theWord s t.val) = true → mwBop (theWord s t.val) = 0xd →
      portBDone (.bopZx16 t .clean) s t.val fun v _ => v &&& 0xFFFF#64) ∧
  (∀ s (t : Fin 128), wordGoes s t.val = true → plainUnits (theWord s t.val) = true → mwBop (theWord s t.val) = 0xe →
      portBDone (.bopZx32 t .clean) s t.val fun v _ => v &&& 0xFFFFFFFF#64) ∧
  (∀ s (t : Fin 128), wordGoes s t.val = true → plainUnits (theWord s t.val) = true → mwBop (theWord s t.val) = 0xf →
      portBDone (.bopHi32 t .clean) s t.val fun v _ => v >>> 32) ∧
  (∀ s (t : Fin 128), wordGoes s t.val = true → plainUnits (theWord s t.val) = true → mwBop (theWord s t.val) = 0x10 →
      portBDone (.bopLo32in t .clean) s t.val fun v o => (o &&& 0xFFFFFFFF00000000#64) ||| (v &&& 0xFFFFFFFF#64)) ∧
  (∀ s (t : Fin 128), wordGoes s t.val = true → plainUnits (theWord s t.val) = true → mwBop (theWord s t.val) = 0x11 →
      portBDone (.bopHi32in t .clean) s t.val fun v o => (o &&& 0xFFFFFFFF#64) ||| (v <<< 32)) ∧
  (∀ s b t x w, 0x12 ≤ mwBop w → ∃ n, wordGate s b t x w = .illegal n ∧ n ≤ 4)

/-- What the hash, counter, time, record and packet reads leave in G[BD]. 07 Hash, packet, counter, time and Dispatcher operations; 07 The record window. -/
def Obligations.HashCounterAndTimeOperationsCompute : Prop :=
  (∀ s (t : Fin 128), wordGoes s t.val = true → plainUnits (theWord s t.val) = true → mwHop (theWord s t.val) = 0x1 →
      portBDone (.hopFmix t .clean) s t.val fun v _ => fmix v) ∧
  (∀ s (t : Fin 128), wordGoes s t.val = true → plainUnits (theWord s t.val) = true → mwHop (theWord s t.val) = 0x2 →
      portBDone (.hopFlow t .clean) s t.val fun _ _ => flowHash (keyOperand (s.tellerAt t.val) (theWord s t.val)) s.vault.seed) ∧
  (∀ s (t : Fin 128), wordGoes s t.val = true → plainUnits (theWord s t.val) = true → mwHop (theWord s t.val) = 0x3 →
      portBDone (.hopCrc32c t .clean) s t.val fun v o => (crc32c (o.truncate 32) v).zeroExtend 64) ∧
  (∀ s (t : Fin 128), wordGoes s t.val = true → plainUnits (theWord s t.val) = true → mwHop (theWord s t.val) = 0x4 →
      portBDone (.hopRange t .clean) s t.val fun v o => BitVec.ofNat 64 (wbits o 31 0 * wbits v 31 0 / 2 ^ 32)) ∧
  (∀ s (t : Fin 128), wordGoes s t.val = true → plainUnits (theWord s t.val) = true → mwHop (theWord s t.val) = 0x5 →
      portBDone (.hopCanda t .clean) s t.val fun v _ => BitVec.ofNat 64 (cands s v).1) ∧
  (∀ s (t : Fin 128), wordGoes s t.val = true → plainUnits (theWord s t.val) = true → mwHop (theWord s t.val) = 0x6 →
      portBDone (.hopCandb t .clean) s t.val fun v _ => BitVec.ofNat 64 (cands s v).2) ∧
  (∀ s (t : Fin 128), wordGoes s t.val = true → plainUnits (theWord s t.val) = true → mwCop (theWord s t.val) = 0x3 →
      portBDone (.copRd t .clean) s t.val fun _ _ => BitVec.ofNat 64 (pairOf s (mcCounter t.val (theWord s t.val)))) ∧
  (∀ s (t : Fin 128), wordGoes s t.val = true → plainUnits (theWord s t.val) = true → mwCop (theWord s t.val) = 0x4 →
      portBDone (.copRdclr t .clean) s t.val fun _ _ => BitVec.ofNat 64 (pairOf s (mcCounter t.val (theWord s t.val)))) ∧
  (∀ s (t : Fin 128), wordGoes s t.val = true → plainUnits (theWord s t.val) = true → mwCop (theWord s t.val) = 0x5 →
      portBDone (.copPerf t .clean) s t.val fun _ _ => BitVec.ofNat 64 (pairOf s (Reg.PERF_CNT_LO (perfUnit (t.val / 32) t.val (theWord s t.val)) (mwCarg (theWord s t.val) % 8)))) ∧
  (∀ s (t : Fin 128), wordGoes s t.val = true → plainUnits (theWord s t.val) = true → mwCop (theWord s t.val) = 0x6 →
      portBDone (.copTick t .clean) s t.val fun _ _ => BitVec.ofNat 64 s.perf.ticks) ∧
  (∀ s (t : Fin 128), wordGoes s t.val = true → plainUnits (theWord s t.val) = true → mwTop (theWord s t.val) = 0x1 →
      portBDone (.topNow t .clean) s t.val fun _ _ => BitVec.ofNat 64 (ledgerNow s)) ∧
  (∀ s (t : Fin 128), wordGoes s t.val = true → plainUnits (theWord s t.val) = true → mwTop (theWord s t.val) = 0x2 →
      portBDone (.topArr t .clean) s t.val fun _ _ => (match (s.tellerAt t.val).ctx.desc with | some d => BitVec.ofNat 64 d.arr | none => 0)) ∧
  (∀ s (t : Fin 128), wordGoes s t.val = true → plainUnits (theWord s t.val) = true → mwTop (theWord s t.val) = 0x3 →
      portBDone (.topElapsed t .clean) s t.val fun v _ => BitVec.ofNat 64 (ledgerNow s) - v) ∧
  (∀ s (t : Fin 128), wordGoes s t.val = true → plainUnits (theWord s t.val) = true → mwTop (theWord s t.val) = 0x4 →
      portBDone (.topLockt t .clean) s t.val fun _ _ => (match winWay s (t.val / 32) (s.tellerAt t.val) with | some y => BitVec.ofNat 64 y.lockAt | none => 0)) ∧
  (∀ s (t : Fin 128), wordGoes s t.val = true → plainUnits (theWord s t.val) = true → mwTop (theWord s t.val) = 0x5 →
      portBDone (.topSec t .clean) s t.val fun _ _ => BitVec.ofNat 64 (netSec s.time.net)) ∧
  (∀ s (t : Fin 128), wordGoes s t.val = true → plainUnits (theWord s t.val) = true → mwTop (theWord s t.val) = 0x6 →
      portBDone (.topNsfrac t .clean) s t.val fun _ _ => BitVec.ofNat 64 (2 ^ 16 * netNs s.time.net + netFrac s.time.net)) ∧
  (∀ s (t : Fin 128), wordGoes s t.val = true → plainUnits (theWord s t.val) = true → mwFop (theWord s t.val) = 0x1 →
      portBDone (.fopLd t .clean) s t.val fun _ _ => (match winWay s (t.val / 32) (s.tellerAt t.val) with | some y => wordAt y.rc (mwFidx (theWord s t.val)) | none => 0)) ∧
  (∀ s (t : Fin 128), wordGoes s t.val = true → plainUnits (theWord s t.val) = true → mwQop (theWord s t.val) = 0x1 →
      portBDone (.qopLdpkt t .clean) s t.val fun _ _ => (match (s.tellerAt t.val).ctx.desc with | some d => packetBytes s d (mwQarg (theWord s t.val)) | none => 0)) ∧
  (∀ s (t : Fin 128), wordGoes s t.val = true → plainUnits (theWord s t.val) = true → mwQop (theWord s t.val) = 0x2 →
      portBDone (.qopLddesc t .clean) s t.val fun _ _ => (match (s.tellerAt t.val).ctx.desc with | some d => descWord s d (mwQarg (theWord s t.val)) | none => 0)) ∧
  (∀ s (t : Fin 128), wordGoes s t.val = true → plainUnits (theWord s t.val) = true → mwQop (theWord s t.val) = 0xb →
      portBDone (.qopNoseget t .clean) s t.val fun _ _ => (match (s.tellerAt t.val).ctx.desc with | some _ => (s.tellerAt t.val).ctx.scan.getD (bareResult 0xF) | none => 0))

/-- What each memory operation issues, and what the local ones load and store. 07 Memory operations. -/
def Obligations.MemoryOperationsIssue : Prop :=
  (∀ s (t : Fin 128), wordGoes s t.val = true → plainUnits (theWord s t.val) = true → mwMop (theWord s t.val) = 0x1 → memIssued (.mopLd t .clean) s t.val) ∧
  (∀ s (t : Fin 128), wordGoes s t.val = true → plainUnits (theWord s t.val) = true → mwMop (theWord s t.val) = 0x2 → memIssued (.mopLd2 t .clean) s t.val) ∧
  (∀ s (t : Fin 128), wordGoes s t.val = true → plainUnits (theWord s t.val) = true → mwMop (theWord s t.val) = 0x3 → memIssued (.mopSt t .clean) s t.val) ∧
  (∀ s (t : Fin 128), wordGoes s t.val = true → plainUnits (theWord s t.val) = true → mwMop (theWord s t.val) = 0x4 → memIssued (.mopSt2 t .clean) s t.val) ∧
  (∀ s (t : Fin 128), wordGoes s t.val = true → plainUnits (theWord s t.val) = true → mwMop (theWord s t.val) = 0x5 → memIssued (.mopFadd t .clean) s t.val) ∧
  (∀ s (t : Fin 128), wordGoes s t.val = true → plainUnits (theWord s t.val) = true → mwMop (theWord s t.val) = 0x6 → memIssued (.mopSwap t .clean) s t.val) ∧
  (∀ s (t : Fin 128), wordGoes s t.val = true → plainUnits (theWord s t.val) = true → mwMop (theWord s t.val) = 0x7 → memIssued (.mopCas t .clean) s t.val) ∧
  (∀ s (t : Fin 128), wordGoes s t.val = true → plainUnits (theWord s t.val) = true → mwMop (theWord s t.val) = 0x8 → memIssued (.mopLookup t .clean) s t.val) ∧
  (∀ s (t : Fin 128), wordGoes s t.val = true → plainUnits (theWord s t.val) = true → mwMop (theWord s t.val) = 0x9 → memIssued (.mopGuard t .clean) s t.val) ∧
  (∀ s (t : Fin 128), wordGoes s t.val = true → plainUnits (theWord s t.val) = true → mwMop (theWord s t.val) = 0xa → memIssued (.mopFtwr t .clean) s t.val) ∧
  (∀ s (t : Fin 128), wordGoes s t.val = true → plainUnits (theWord s t.val) = true → mwMop (theWord s t.val) = 0xb → memIssued (.mopUnguard t .clean) s t.val) ∧
  (∀ s (t : Fin 128), wordGoes s t.val = true → plainUnits (theWord s t.val) = true → mwMop (theWord s t.val) = 0xc → memIssued (.mopSweep t .clean) s t.val) ∧
  (∀ s (t : Fin 128), wordGoes s t.val = true → plainUnits (theWord s t.val) = true → mwMop (theWord s t.val) = 0x1 → mwMsel (theWord s t.val) = 3 → Answers (.mopLd t .clean) s fun u =>
      gReg (u.tellerAt t.val) (mwAd (theWord s t.val)) = kvWord (s.tellerAt t.val).ctx.kv ((memAddr (s.tellerAt t.val) (theWord s t.val)).toNat / 8) ∧ wordFrame s t.val u) ∧
  (∀ s (t : Fin 128), wordGoes s t.val = true → plainUnits (theWord s t.val) = true → mwMop (theWord s t.val) = 0x1 → mwMsel (theWord s t.val) = 4 → ∀ fr rest, (s.tellerAt t.val).frames = fr :: rest → Answers (.mopLd t .clean) s fun u =>
      gReg (u.tellerAt t.val) (mwAd (theWord s t.val)) = wordAt fr.f ((memAddr (s.tellerAt t.val) (theWord s t.val)).toNat / 8) ∧ wordFrame s t.val u) ∧
  (∀ s (t : Fin 128), wordGoes s t.val = true → plainUnits (theWord s t.val) = true → mwMop (theWord s t.val) = 0x3 → mwMsel (theWord s t.val) = 3 → Answers (.mopSt t .clean) s fun u =>
      (u.tellerAt t.val).ctx.kv = setKvWord (s.tellerAt t.val).ctx.kv ((memAddr (s.tellerAt t.val) (theWord s t.val)).toNat / 8) (srcA2 (s.tellerAt t.val) (theWord s t.val)) ∧ wordFrame s t.val u) ∧
  (∀ s (t : Fin 128), wordGoes s t.val = true → plainUnits (theWord s t.val) = true → mwMop (theWord s t.val) = 0x3 → mwMsel (theWord s t.val) = 4 → ∀ fr rest, (s.tellerAt t.val).frames = fr :: rest → Answers (.mopSt t .clean) s fun u =>
      (u.tellerAt t.val).frames = storeFrame ((memAddr (s.tellerAt t.val) (theWord s t.val)).toNat / 8) (srcA2 (s.tellerAt t.val) (theWord s t.val)) fr :: rest ∧ wordFrame s t.val u)

/-- Where each sequencer operation leads, and what it leaves of the return stack and loop counter. 07 Sequencer and conditions. -/
def Obligations.SequencerOperationsLead : Prop :=
  (∀ s (t : Fin 128), wordGoes s t.val = true → plainUnits (theWord s t.val) = true → mwSeq (theWord s t.val) = 0x0 →
      seqDone (.seqNext t .clean) s t.val (nextPc (s.tellerAt t.val)) (s.tellerAt t.val).stack (s.tellerAt t.val).lc) ∧
  (∀ s (t : Fin 128), wordGoes s t.val = true → plainUnits (theWord s t.val) = true → mwSeq (theWord s t.val) = 0x1 →
      seqDone (.seqJump t .clean) s t.val (mwNaddr (theWord s t.val)) (s.tellerAt t.val).stack (s.tellerAt t.val).lc) ∧
  (∀ s (t : Fin 128), wordGoes s t.val = true → plainUnits (theWord s t.val) = true → mwSeq (theWord s t.val) = 0x2 →
      seqDone (.seqBrt t .clean) s t.val (if condition s (t.val / 32) (s.tellerAt t.val) (theWord s t.val) then (mwNaddr (theWord s t.val)) else (nextPc (s.tellerAt t.val))) (s.tellerAt t.val).stack (s.tellerAt t.val).lc) ∧
  (∀ s (t : Fin 128), wordGoes s t.val = true → plainUnits (theWord s t.val) = true → mwSeq (theWord s t.val) = 0x3 →
      seqDone (.seqBrf t .clean) s t.val (if condition s (t.val / 32) (s.tellerAt t.val) (theWord s t.val) then (nextPc (s.tellerAt t.val)) else (mwNaddr (theWord s t.val))) (s.tellerAt t.val).stack (s.tellerAt t.val).lc) ∧
  (∀ s (t : Fin 128), wordGoes s t.val = true → plainUnits (theWord s t.val) = true → mwSeq (theWord s t.val) = 0x4 →
      seqDone (.seqCall t .clean) s t.val (mwNaddr (theWord s t.val)) ((nextPc (s.tellerAt t.val)) :: (s.tellerAt t.val).stack) (s.tellerAt t.val).lc) ∧
  (∀ s (t : Fin 128), wordGoes s t.val = true → plainUnits (theWord s t.val) = true → mwSeq (theWord s t.val) = 0x5 →
      seqDone (.seqCallt t .clean) s t.val (if condition s (t.val / 32) (s.tellerAt t.val) (theWord s t.val) then (mwNaddr (theWord s t.val)) else (nextPc (s.tellerAt t.val))) (if condition s (t.val / 32) (s.tellerAt t.val) (theWord s t.val) then (nextPc (s.tellerAt t.val)) :: (s.tellerAt t.val).stack else (s.tellerAt t.val).stack) (s.tellerAt t.val).lc) ∧
  (∀ s (t : Fin 128), wordGoes s t.val = true → plainUnits (theWord s t.val) = true → mwSeq (theWord s t.val) = 0x6 →
      seqDone (.seqRet t .clean) s t.val ((s.tellerAt t.val).stack.headD (nextPc (s.tellerAt t.val))) ((s.tellerAt t.val).stack.drop 1) (s.tellerAt t.val).lc) ∧
  (∀ s (t : Fin 128), wordGoes s t.val = true → plainUnits (theWord s t.val) = true → mwSeq (theWord s t.val) = 0x7 →
      seqDone (.seqRett t .clean) s t.val (if condition s (t.val / 32) (s.tellerAt t.val) (theWord s t.val) then (s.tellerAt t.val).stack.headD (nextPc (s.tellerAt t.val)) else (nextPc (s.tellerAt t.val))) (if condition s (t.val / 32) (s.tellerAt t.val) (theWord s t.val) then (s.tellerAt t.val).stack.drop 1 else (s.tellerAt t.val).stack) (s.tellerAt t.val).lc) ∧
  (∀ s (t : Fin 128), wordGoes s t.val = true → plainUnits (theWord s t.val) = true → mwSeq (theWord s t.val) = 0x8 →
      seqDone (.seqLoop t .clean) s t.val (if (s.tellerAt t.val).lc = 0 then (nextPc (s.tellerAt t.val)) else if (s.tellerAt t.val).lc = 1 then (nextPc (s.tellerAt t.val)) else (mwNaddr (theWord s t.val))) (s.tellerAt t.val).stack ((s.tellerAt t.val).lc - 1)) ∧
  (∀ s (t : Fin 128), wordGoes s t.val = true → plainUnits (theWord s t.val) = true → mwSeq (theWord s t.val) = 0x9 →
      seqDone (.seqLdloop t .clean) s t.val (nextPc (s.tellerAt t.val)) (s.tellerAt t.val).stack (mwNaddr (theWord s t.val))) ∧
  (∀ s (t : Fin 128), wordGoes s t.val = true → plainUnits (theWord s t.val) = true → mwSeq (theWord s t.val) = 0xa →
      seqDone (.seqLdloopg t .clean) s t.val (nextPc (s.tellerAt t.val)) (s.tellerAt t.val).stack (wbits (gReg (s.tellerAt t.val) (mwAs1 (theWord s t.val))) 15 0)) ∧
  (∀ s (t : Fin 128), wordGoes s t.val = true → plainUnits (theWord s t.val) = true → mwSeq (theWord s t.val) = 0xb →
      seqDone (.seqJtab t .clean) s t.val (((mwNaddr (theWord s t.val)) + wbits (gReg (s.tellerAt t.val) (mwAs1 (theWord s t.val))) 3 0) % 16384) (s.tellerAt t.val).stack (s.tellerAt t.val).lc)

/-- What SETACT, RECIRC, PUNT and DROP record, and that a policed packet keeps its verdict. 07 Hash, packet, counter, time and Dispatcher operations. -/
def Obligations.PacketVerdictsAreKept : Prop :=
  (∀ s (t : Fin 128), wordGoes s t.val = true → plainUnits (theWord s t.val) = true → mwQop (theWord s t.val) = 0x3 → Answers (.qopSetact t .clean) s fun u =>
      (u.tellerAt t.val).ctx.verdict = (if (s.tellerAt t.val).ctx.verdict = some .policed then some .policed else some (.action (srcB (s.tellerAt t.val) (theWord s t.val)))) ∧ wordFrame s t.val u) ∧
  (∀ s (t : Fin 128), wordGoes s t.val = true → plainUnits (theWord s t.val) = true → mwQop (theWord s t.val) = 0x5 → Answers (.qopRecirc t .clean) s fun u =>
      (u.tellerAt t.val).ctx.verdict = (if (s.tellerAt t.val).ctx.verdict = some .policed then some .policed else some (.recirc (mwQarg (theWord s t.val)) (wbits (srcB (s.tellerAt t.val) (theWord s t.val)) 1 0))) ∧ wordFrame s t.val u) ∧
  (∀ s (t : Fin 128), wordGoes s t.val = true → plainUnits (theWord s t.val) = true → mwQop (theWord s t.val) = 0x6 → Answers (.qopPunt t .clean) s fun u =>
      (u.tellerAt t.val).ctx.verdict = (if (s.tellerAt t.val).ctx.verdict = some .policed then some .policed else some (.punt (mwQarg (theWord s t.val) % 16) (wbits (srcB (s.tellerAt t.val) (theWord s t.val)) 15 0))) ∧ wordFrame s t.val u) ∧
  (∀ s (t : Fin 128), wordGoes s t.val = true → plainUnits (theWord s t.val) = true → mwQop (theWord s t.val) = 0x8 → Answers (.qopDrop t .clean) s fun u =>
      (u.tellerAt t.val).ctx.verdict = (if (s.tellerAt t.val).ctx.verdict = some .policed then some .policed else some (.drop (mwQarg (theWord s t.val)))) ∧ wordFrame s t.val u)

/-- What FENCE and HOLD do: a word with operations out waits, and a fenced word finds none out. 07 Executing a word; 08 Choosing a Teller. -/
def Obligations.FenceAndHoldWordsAct : Prop :=
  (∀ s (t : Fin 128), wordGoes s t.val = true → plainUnits (theWord s t.val) = true → mwFence (theWord s t.val) = true → Answers (.mwFence t .clean) s fun u =>
      (s.tellerAt t.val).mem = [] ∧ (s.tellerAt t.val).ctx.scanBusy = false ∧ (u.tellerAt t.val).ctx.steps = (s.tellerAt t.val).ctx.steps + 1 ∧ wordFrame s t.val u) ∧
  (∀ s (t : Fin 128), mwFence (theWord s t.val) = true → (s.tellerAt t.val).st = .run → dueTrap s t.val (s.tellerAt t.val) (theWord s t.val) = none →
      atBreak s t.val (s.tellerAt t.val) = false → fieldDetails (theWord s t.val) = [] → (s.tellerAt t.val).mem.find? (touchesOp (theWord s t.val)) = none → opsOut (s.tellerAt t.val) = true →
      Answers (.mwFence t .clean) s fun u => u = s.modTeller t.val fun y => { y with st := .wait }) ∧
  (∀ s (t : Fin 128), wordGoes s t.val = true → plainUnits (theWord s t.val) = true → mwHold (theWord s t.val) = true → (s.tellerAt t.val).full = false → Answers (.mwHold t .clean) s fun u =>
      (u.tellerAt t.val).hold = (if (s.tellerAt t.val).hold = 0 then 15 else (s.tellerAt t.val).hold - 1) ∧ (u.tellerAt t.val).full = Decidable.decide ((s.tellerAt t.val).hold = 1) ∧ wordFrame s t.val u)

/-- What a dispatch decision, the expiry of its waits, stalls, affinity data, host items and sweep offers leave. 08 The ready list; 08 Choosing a Teller; 08 Host items and maintenance generators; 08 Affinity table and learning; 08 Cases that meet. -/
def Obligations.DispatcherCommandsAct : Prop :=
  (∀ s (b : Fin 4) i rest (t : Nat), noTeller s b.val = false → considerOrder s b.val = i :: rest → recordFree s b.val i = true → (s.dispAt b.val).reqs.any (·.2 == i.id) = false →
      ((preferred s b.val i = some t ∧ available s b.val t = true) ∨ (preferred s b.val i = none ∧ fallback s b.val none = some t)) → Answers (.dispatchDecision b) s fun u =>
      (u.tellerAt (32 * b.val + t)).st = .run ∧ (u.tellerAt (32 * b.val + t)).pc = 0x010 + itemRoutine i.g0 ∧ (u.tellerAt (32 * b.val + t)).ctx.item = i.id ∧
      (u.tellerAt (32 * b.val + t)).win = i.way ∧ (∀ q, q ≠ 32 * b.val + t → u.tellerAt q = s.tellerAt q) ∧
      u = { s with disp := u.disp, regs := u.regs, sill := u.sill, ledger := u.ledger, tellers := u.tellers }) ∧
  (∀ s (b : Fin 4), noTeller s b.val = true → considerOrder s b.val = [] → (s.dispAt b.val).noTeller = false → Answers (.dispatchDecision b) s fun t =>
      flagOf t (Reg.DISP_IRQ_CAUSE b.val) 3 = true ∧ (t.dispAt b.val) = { s.dispAt b.val with noTeller := true } ∧ t = { s with disp := t.disp, regs := t.regs }) ∧
  (∀ s (b : Fin 4) item i, (s.dispAt b.val).items.find? (fun i => i.id = item ∧ i.st = .ready ∧ i.prio = 1) = some i → fieldOf s (Reg.DISP_WAIT_CFG b.val) 15 0 ≤ since s i.readyAt →
      Answers (.affWaitExpiry b item) s fun u => exec (.dispatchDecision b) s = .next u) ∧
  (∀ s (b : Fin 4) item i, (s.dispAt b.val).items.find? (fun i => i.id = item ∧ i.st = .ready ∧ i.prio = 1) = some i → since s i.readyAt < fieldOf s (Reg.DISP_WAIT_CFG b.val) 15 0 →
      NoEffect (.affWaitExpiry b item) s) ∧
  (∀ s (b : Fin 4) i rest (t : Nat), noTeller s b.val = false → considerOrder s b.val = i :: rest → i.prio = 1 → fieldOf s (Reg.DISP_WAIT_CFG b.val) 31 16 ≤ since s i.readyAt →
      recordFree s b.val i = true → (s.dispAt b.val).reqs.any (·.2 == i.id) = false → preferred s b.val i = none → fallback s b.val none = none →
      i.tries < fieldOf s (Reg.DISP_CFG b.val) 5 4 → (List.range 32).find? (fun t => preemptible s b.val t && !i.declined.contains t) = some t → Answers (.dispatchDecision b) s fun u =>
      u.tellerAt (32 * b.val + t) = { s.tellerAt (32 * b.val + t) with traps := (s.tellerAt (32 * b.val + t)).traps ++ [.preempt] } ∧
      (u.dispAt b.val).reqs = (s.dispAt b.val).reqs ++ [(t, i.id)] ∧ (∀ q, q ≠ 32 * b.val + t → u.tellerAt q = s.tellerAt q) ∧
      u = { s with disp := u.disp, regs := u.regs, sill := u.sill, tellers := u.tellers }) ∧
  (∀ s (b : Fin 4) item i, (s.dispAt b.val).items.find? (fun i => i.id = item ∧ i.st = .ready ∧ i.prio = 1) = some i → since s i.readyAt < fieldOf s (Reg.DISP_WAIT_CFG b.val) 31 16 →
      NoEffect (.preemptWaitExpiry b item) s) ∧
  (∀ s (b : Fin 4) item i, (s.dispAt b.val).items.find? (fun i => i.id = item ∧ i.st = .ready ∧ i.prio = 1) = some i → fieldOf s (Reg.DISP_WAIT_CFG b.val) 31 16 ≤ since s i.readyAt →
      Answers (.preemptWaitExpiry b item) s fun u => exec (.dispatchDecision b) s = .next u) ∧
  (∀ s (b : Fin 4), Answers (.dispStallInterval b) s fun t => t = (if probeHeld s b.val then bump (Reg.DISP_FULL_STALL_CNT b.val) s else s) ∧ t = { s with regs := t.regs }) ∧
  (∀ s (b : Fin 4) (v : Word32), barOpen s = true → fieldOf s (Reg.DISP_AFF_ADDR b.val) 31 31 = 0 → Answers (.affDataAccess b (some v)) s fun t =>
      affByte t b.val (fieldOf s (Reg.DISP_AFF_ADDR b.val) 15 0) = v.toNat % 256 &&& 0x9F ∧
      (∀ j, j ≠ fieldOf s (Reg.DISP_AFF_ADDR b.val) 15 0 → affByte t b.val j = affByte s b.val j) ∧ t = { s with disp := t.disp }) ∧
  (∀ s (b : Fin 4), barOpen s = true → flagOf s (Reg.DISP_AFF_ADDR b.val) 31 = false → Answers (.affDataAccess b none) s fun t =>
      t.out = { s.out with ok := true, data := leBytes 4 (affByte s b.val (fieldOf s (Reg.DISP_AFF_ADDR b.val) 15 0)) } ∧ t = { s with out := t.out }) ∧
  (∀ s (b : Fin 4), barOpen s = true → flagOf s (Reg.DISP_AFF_ADDR b.val) 31 = true → Answers (.affDataAccess b none) s fun t =>
      t.out = { s.out with ok := true, data := leBytes 4 (affByte s b.val (fieldOf s (Reg.DISP_AFF_ADDR b.val) 15 0)) } ∧
      fieldOf t (Reg.DISP_AFF_ADDR b.val) 15 0 = (fieldOf s (Reg.DISP_AFF_ADDR b.val) 15 0 + 1) % 65536 ∧ t = { s with out := t.out, regs := t.regs }) ∧
  (∀ s (b : Fin 4), barOpen s = true → itemRoutine (stagedG0 s b.val) = 0 → Answers (.hostItemPost b) s fun t =>
      fieldOf t (Reg.DISP_HOST_STATUS b.val) 1 0 = 2 ∧ (t.dispAt b.val).items = (s.dispAt b.val).items ∧ t = { s with disp := t.disp, regs := t.regs, sill := t.sill }) ∧
  (∀ s (b : Fin 4), barOpen s = true → itemRoutine (stagedG0 s b.val) ≠ 0 → placeFree s b.val 2 = true → Answers (.hostItemPost b) s fun t =>
      fieldOf t (Reg.DISP_HOST_STATUS b.val) 1 0 = 0 ∧
      (∃ i, (t.dispAt b.val).items = (s.dispAt b.val).items ++ [i] ∧ i.g0 = stagedG0 s b.val ∧ i.g1 = BitVec.ofNat 64 (pairOf s (Reg.DISP_HOST_ITEM b.val 2)) ∧
        i.g2 = 0 ∧ i.g3 = BitVec.ofNat 64 (pairOf s (Reg.DISP_HOST_ITEM b.val 6)) ∧ i.prio = 2 ∧ i.kind = .host ∧ i.readyAt = s.time.tick) ∧ t = { s with disp := t.disp, regs := t.regs }) ∧
  (∀ s (b : Fin 4), barOpen s = true → itemRoutine (stagedG0 s b.val) ≠ 0 → placeFree s b.val 2 = false → Answers (.hostItemPost b) s fun t =>
      fieldOf t (Reg.DISP_HOST_STATUS b.val) 1 0 = 1 ∧ (t.dispAt b.val).items = (s.dispAt b.val).items ∧ t = { s with disp := t.disp, regs := t.regs, sill := t.sill }) ∧
  (∀ s (b : Fin 4) cur n, sweepDue s b.val = true → placeFree s b.val 3 = true → fieldOf s (Reg.DISP_SWEEP_CURSOR b.val) 29 0 = cur → cur < quarter s.vault → quarter s.vault ≤ 2 ^ 30 →
      min (max 1 (fieldOf s (Reg.DISP_SWEEP_CFG b.val) 31 16)) (quarter s.vault - cur) = n → Answers (.sweepOffer b) s fun t =>
      fieldOf t (Reg.DISP_SWEEP_CURSOR b.val) 29 0 = (cur + n) % quarter s.vault ∧
      (∃ i, (t.dispAt b.val).items = (s.dispAt b.val).items ++ [i] ∧ i.kind = .sweep ∧ i.prio = 3 ∧ i.g3 = BitVec.ofNat 64 (b.val * quarter s.vault + cur + 2 ^ 32 * n)) ∧
      (t.dispAt b.val).sweepAt = s.time.tick ∧ t = { s with disp := t.disp, regs := t.regs }) ∧
  (∀ s (b : Fin 4), sweepDue s b.val = true → placeFree s b.val 3 = false → Answers (.sweepOffer b) s fun t =>
      flagOf t (Reg.DISP_IRQ_CAUSE b.val) 1 = true ∧ fieldOf t (Reg.DISP_SWEEP_CURSOR b.val) 29 0 = fieldOf s (Reg.DISP_SWEEP_CURSOR b.val) 29 0 ∧
      (t.dispAt b.val).items = (s.dispAt b.val).items ∧ t = { s with disp := t.disp, regs := t.regs, sill := t.sill })

/-- What STOP, CONT, control-store reads and scrubs, trap entry, lock-wait expiry and memory replies leave. 07 The control store; 07 Micro-traps; 07 Memory operations; 07 Registers; 05 Record locks; 16 On-chip codes. -/
def Obligations.TellerControlCommandsAct : Prop :=
  (∀ (t : Fin 128) (s : State), barOpen s = true → Answers (.tctrlStop t) s fun u =>
     u.tellerAt t.val = { s.tellerAt t.val with traps := if (s.tellerAt t.val).traps.contains .brk then (s.tellerAt t.val).traps else (s.tellerAt t.val).traps ++ [.brk] } ∧
     (∀ q, q ≠ t.val → u.tellerAt q = s.tellerAt q) ∧ u = { s with tellers := u.tellers }) ∧
  (∀ (t : Fin 128) (s : State), barOpen s = false → NoEffect (.tctrlStop t) s ∧ NoEffect (.tctrlCont t) s) ∧
  (∀ (t : Fin 128) (a : Nat) (s : State), barOpen s = true → (s.tellerAt t.val).st = .halt → (s.tellerAt t.val).haltAt = some a →
     Answers (.tctrlCont t) s fun u => u.tellerAt t.val = { s.tellerAt t.val with st := .run, pc := a, haltAt := none } ∧
     (∀ q, q ≠ t.val → u.tellerAt q = s.tellerAt q) ∧ u = { s with tellers := u.tellers }) ∧
  (∀ (t : Fin 128) (s : State), (s.tellerAt t.val).st ≠ .halt ∨ (s.tellerAt t.val).haltAt = none → NoEffect (.tctrlCont t) s) ∧
  (∀ (d : Fin 16) (addr : BitVec 14) (s : State), barOpen s = true → (s.deskAt d.val).reading = none → Answers (.csRead d addr) s fun u =>
     u.deskAt d.val = { s.deskAt d.val with reading := some addr.toNat } ∧ fieldOf u (Reg.TELL_CS_ADDR d.val) 13 0 = addr.toNat ∧
     flagOf u (Reg.TELL_CS_STATUS d.val) 31 = true ∧ u = { s with desks := u.desks, regs := u.regs }) ∧
  (∀ (d : Fin 16) (addr : BitVec 14) (s : State), barOpen s = false ∨ (s.deskAt d.val).reading ≠ none → NoEffect (.csRead d addr) s) ∧
  (∀ (d : Fin 16) (e : EccResult) (addr : Nat) (s : State), (s.deskAt d.val).reading = some addr → lifecycle s = .locked →
     Answers (.csReadDone d e) s fun u => u.deskAt d.val = { s.deskAt d.val with reading := none } ∧ (∀ i, i < 5 → regRead u (Reg.TELL_CS_DATA d.val i) = 0) ∧
     regRead u (Reg.TELL_CS_STATUS d.val) = 4 ∧ u = { s with desks := u.desks, regs := u.regs }) ∧
  (∀ (d : Fin 16) (addr : Nat) (s : State), (s.deskAt d.val).reading = some addr → lifecycle s ≠ .locked →
     Answers (.csReadDone d .clean) s fun u => u.deskAt d.val = { s.deskAt d.val with reading := none } ∧
     (∀ i, i < 5 → regRead u (Reg.TELL_CS_DATA d.val i) = (Tbl.get (s.deskAt d.val).store addr (0 : MicroWord)).extractLsb' (32 * i) 32) ∧
     regRead u (Reg.TELL_CS_STATUS d.val) = 0 ∧ u = { s with desks := u.desks, regs := u.regs }) ∧
  (∀ (d : Fin 16) (e : EccResult) (s : State), (s.deskAt d.val).reading = none → NoEffect (.csReadDone d e) s) ∧
  (∀ (d : Fin 16) (addr : BitVec 14) (s : State), NoEffect (.csScrub d addr .clean) s ∧
     Answers (.csScrub d addr .corrected) s fun u => flagOf u (Reg.TELL_IRQ_CAUSE d.val) 0 = true ∧
       u = { s with regs := u.regs, sill := u.sill }) ∧
  (∀ (t : Fin 128) (s : State), dueTrap s t.val (s.tellerAt t.val) (wordOf s t.val (s.tellerAt t.val).pc) = none ∨ opsOut (s.tellerAt t.val) = true →
     NoEffect (.microTrap t) s) ∧
  (∀ (t : Fin 128) (c : TrapCause) (s : State), dueTrap s t.val (s.tellerAt t.val) (wordOf s t.val (s.tellerAt t.val).pc) = some c → opsOut (s.tellerAt t.val) = false →
     poisonedOp (s.tellerAt t.val) c = none → (s.tellerAt t.val).frames.length < 8 → Answers (.microTrap t) s fun u =>
     ∃ f, (u.tellerAt t.val).frames = f :: (s.tellerAt t.val).frames ∧ (u.tellerAt t.val).pc = causeVector c ∧ (u.tellerAt t.val).st = .run ∧
       (u.tellerAt t.val).stack = [] ∧ (u.tellerAt t.val).hold = 0 ∧ (u.tellerAt t.val).traps = delFirst (· == c) (s.tellerAt t.val).traps ∧
       (u.tellerAt t.val).g = (s.tellerAt t.val).g ∧ f.win = (s.tellerAt t.val).win ∧
       (∀ q, q ≠ t.val → u.tellerAt q = s.tellerAt q) ∧ u = { s with tellers := u.tellers, regs := u.regs, sill := u.sill }) ∧
  (∀ (t : Fin 128) (s : State), lockWaitOver s (t.val / 32) t.val = none → NoEffect (.lockWaitTimeout t) s) ∧
  (∀ (t : Fin 128) (k : Nat) (a : Ckey) (h : Word64) (w : Way) (s : State), lockWaitOver s (t.val / 32) t.val = some k → wayAt s (t.val / 32) k = some w →
     (s.tellerAt t.val).opening = some (a, h) → (s.tellerAt t.val).traps.any ofWord = false → Answers (.lockWaitTimeout t) s fun u =>
     u.tellerAt t.val = { s.tellerAt t.val with opening := none, traps := (s.tellerAt t.val).traps ++ [.lockTmo h] } ∧
     wayAt u (t.val / 32) k = some { w with openers := w.openers.filter (·.1 != t.val) } ∧
     (∀ q, q ≠ t.val → u.tellerAt q = s.tellerAt q) ∧ (∀ j, j ≠ k → wayAt u (t.val / 32) j = wayAt s (t.val / 32) j) ∧
     u = { s with tellers := u.tellers, ledger := u.ledger }) ∧
  (∀ (t : Fin 128) (op : Nat) (m : MemOp) (v : Word64) (s : State), memOp s t.val op = some m → m.poisoned = false →
     ((s.tellerAt t.val).mem.takeWhile (·.id != op)).any (sameWord m) = false →
     (m.msel = 1 ∧ m.mop ≠ 2 ∧ m.lo = some v ∧ m.hi = none) ∨ (m.msel = 2 ∧ v = m.lo.getD 0) → Answers (.memReply t op) s fun u =>
     u.tellerAt t.val = { s.tellerAt t.val with
       g := (match m.dst with | some (r, _) => withWord (s.tellerAt t.val).g r v | none => (s.tellerAt t.val).g)
       s := if m.setsS then m.stored else (s.tellerAt t.val).s
       mem := delFirst (fun y => y.id == m.id) (s.tellerAt t.val).mem } ∧
     (∀ q, q ≠ t.val → u.tellerAt q = s.tellerAt q) ∧ u = { s with tellers := u.tellers }) ∧
  (∀ (t : Fin 128) (op : Nat) (m : MemOp) (r : Rec) (s : State), memOp s t.val op = some m → m.poisoned = false →
     ((s.tellerAt t.val).mem.takeWhile (·.id != op)).any (sameWord m) = false → m.msel = 0 → m.mop = 1 → memServed s m = true →
     (s.chanAt (chanOf s.vault (m.addr / 128))).merge.find? (·.record = m.addr / 128) = none → peekRecord s (m.addr / 128) = .data r → Answers (.memReply t op) s fun u =>
     u.tellerAt t.val = { s.tellerAt t.val with
       g := (match m.dst with | some (q, _) => withWord (s.tellerAt t.val).g q (wordAt r (m.addr % 128 / 8)) | none => (s.tellerAt t.val).g)
       s := if m.setsS then false else (s.tellerAt t.val).s
       mem := delFirst (fun y => y.id == m.id) (s.tellerAt t.val).mem } ∧
     (∀ q, q ≠ t.val → u.tellerAt q = s.tellerAt q) ∧ (∀ a, peekRecord u a = peekRecord s a) ∧
     u = { s with tellers := u.tellers, vault := u.vault, regs := u.regs }) ∧
  (∀ (t : Fin 128) (op : Nat) (s : State), (∀ m, memOp s t.val op = some m → m.poisoned = true ∨
     ((s.tellerAt t.val).mem.takeWhile (·.id != op)).any (sameWord m) = true ∨ memServed s m = false) → NoEffect (.memReply t op) s)

/-- What the words do that act outside their Teller: record window, counters, packet, scan, Dispatcher, and SEQ END, RESUME, TRAPV, HALT. 07 Sequencer and conditions; 07 The record window; 07 Hash, packet, counter, time and Dispatcher operations; 07 Micro-traps; 08 Choosing a Teller; 10 Scan requests. -/
def Obligations.SpecialWordsAct : Prop :=
  (∀ s (t : Fin 128), wordGoes s t.val = true → plainBut true false false false (theWord s t.val) = true → mwFop (theWord s t.val) = 0x2 →
      windowWritten (.fopSt t .clean) s t.val fun _ src _ => src) ∧
  (∀ s (t : Fin 128), wordGoes s t.val = true → plainBut true false false false (theWord s t.val) = true → mwFop (theWord s t.val) = 0x3 →
      windowWritten (.fopAdd t .clean) s t.val fun old src _ => old + src) ∧
  (∀ s (t : Fin 128), wordGoes s t.val = true → plainBut true false false false (theWord s t.val) = true → mwFop (theWord s t.val) = 0x4 →
      windowWritten (.fopOr t .clean) s t.val fun old src _ => old ||| src) ∧
  (∀ s (t : Fin 128), wordGoes s t.val = true → plainBut true false false false (theWord s t.val) = true → mwFop (theWord s t.val) = 0x5 →
      windowWritten (.fopAndn t .clean) s t.val fun old src _ => old &&& ~~~src) ∧
  (∀ s (t : Fin 128), wordGoes s t.val = true → plainBut true false false false (theWord s t.val) = true → mwFop (theWord s t.val) = 0x6 →
      windowWritten (.fopStm t .clean) s t.val fun old src mask => (old &&& ~~~mask) ||| (src &&& mask)) ∧
  (∀ s (t : Fin 128) k y (v : Nat), wordGoes s t.val = true → plainBut true false false false (theWord s t.val) = true → mwFop (theWord s t.val) = 0x7 →
      (s.tellerAt t.val).win = some k → wayAt s (t.val / 32) k = some y → wbits (srcB (s.tellerAt t.val) (theWord s t.val)) 3 0 = v → Answers (.fopSetstate t .clean) s fun u =>
      (v ≠ 4 → wayAt u (t.val / 32) k = some (markDirty s.time.tick { y with rc := setW0 y.rc 35 32 v }) ∧ u = { s with tellers := u.tellers, regs := u.regs, coffer := u.coffer, ledger := u.ledger }) ∧
      (v = 4 → rcDead y.rc = true → wayAt u (t.val / 32) k = some { markDirty s.time.tick y with rc := setW0 (rcClosed y.rc) 24 24 1 }) ∧
      (v = 4 → rcDead y.rc = false → ∃ m, wayAt u (t.val / 32) k = some { markDirty s.time.tick y with rc := setW0 (rcClosed y.rc) 24 24 1, pinEff := false, mirrorAt := m }) ∧
      (∀ j, j ≠ k → wayAt u (t.val / 32) j = wayAt s (t.val / 32) j) ∧ (u.tellerAt t.val).s = (s.tellerAt t.val).s ∧ (u.tellerAt t.val).win = some k ∧ wordAside s t.val u) ∧
  (∀ s (t : Fin 128) k y, wordGoes s t.val = true → plainBut true false false false (theWord s t.val) = true → mwFop (theWord s t.val) = 0xA →
      (s.tellerAt t.val).win = some k → wayAt s (t.val / 32) k = some y → Answers (.fopFlush t .clean) s fun u =>
      (rcDirty y.rc = true → wayAt u (t.val / 32) k = some { y with rc := setW0 y.rc 24 24 0, claim := none } ∧
        cellAt u.vault (readRank s.vault (ftRecord s.vault y.slot)) (decodeRecord s.vault (ftRecord s.vault y.slot)).2 = backCell y) ∧
      (rcDirty y.rc = false → u = { s with tellers := u.tellers, regs := u.regs, coffer := u.coffer }) ∧
      (∀ j, j ≠ k → wayAt u (t.val / 32) j = wayAt s (t.val / 32) j) ∧ (u.tellerAt t.val).s = (s.tellerAt t.val).s ∧ (u.tellerAt t.val).win = some k ∧ wordAside s t.val u) ∧
  (∀ s (t : Fin 128) r, wordGoes s t.val = true → plainBut true false false false (theWord s t.val) = true → mwFop (theWord s t.val) = 0x8 →
      (s.tellerAt t.val).opened = some r → Answers (.fopOpen t .clean) s fun u =>
      (u.tellerAt t.val).win = r ∧ (u.tellerAt t.val).s = r.isSome ∧ (u.tellerAt t.val).opening = none ∧ (u.tellerAt t.val).opened = none ∧ (u.tellerAt t.val).st = .run ∧
      wordAside s t.val u ∧ u = { s with tellers := u.tellers, regs := u.regs, coffer := u.coffer }) ∧
  (∀ s (t : Fin 128) o, wordGoes s t.val = true → plainBut true false false false (theWord s t.val) = true → mwFop (theWord s t.val) = 0x8 →
      (s.tellerAt t.val).opened = none → (s.tellerAt t.val).opening = some o → Answers (.fopOpen t .clean) s fun u =>
      u.tellerAt t.val = { s.tellerAt t.val with st := .wait } ∧ (∀ q, q ≠ t.val → u.tellerAt q = s.tellerAt q) ∧ u = { s with tellers := u.tellers }) ∧
  (∀ s (t : Fin 128) k y, wordGoes s t.val = true → plainBut true false false false (theWord s t.val) = true → mwFop (theWord s t.val) = 0x8 →
      (s.tellerAt t.val).opened = none → (s.tellerAt t.val).opening = none →
      probe s (t.val / 32) (hashOf s (keyOperand (s.tellerAt t.val) (theWord s t.val))) (keyOperand (s.tellerAt t.val) (theWord s t.val)) = some k → wayAt s (t.val / 32) k = some y →
      rcLock y.rc = false → rcDead y.rc = false → rcExpired s y.rc (ledgerNow s) = false → Answers (.fopOpen t .clean) s fun u =>
      (u.tellerAt t.val).win = some k ∧ (u.tellerAt t.val).s = true ∧
      wayAt u (t.val / 32) k = some { y with rc := setW0 y.rc 25 25 1, owner := some t.val, lockAt := ledgerNow s, lockTick := s.time.tick, alarmed := false, w7Changed := false } ∧
      (∀ j, j ≠ k → wayAt u (t.val / 32) j = wayAt s (t.val / 32) j) ∧ wordAside s t.val u ∧ u = { s with tellers := u.tellers, regs := u.regs, coffer := u.coffer, ledger := u.ledger }) ∧
  (∀ s (t : Fin 128) k y, wordGoes s t.val = true → plainBut true false false false (theWord s t.val) = true → mwFop (theWord s t.val) = 0x9 →
      (s.tellerAt t.val).win = some k → wayAt s (t.val / 32) k = some y → quietWay y → Answers (.fopRelwin t .clean) s fun u =>
      (u.tellerAt t.val).win = none ∧
      wayAt u (t.val / 32) k = some { affinityKept s t.val (s.tellerAt t.val).ctx.noAff y with rc := setW0 (affinityKept s t.val (s.tellerAt t.val).ctx.noAff y).rc 25 25 0, owner := none } ∧
      (∀ j, j ≠ k → wayAt u (t.val / 32) j = wayAt s (t.val / 32) j) ∧ (u.tellerAt t.val).s = (s.tellerAt t.val).s ∧ wordAside s t.val u ∧
      u = { s with tellers := u.tellers, regs := u.regs, coffer := u.coffer, ledger := u.ledger, disp := u.disp }) ∧
  (∀ s (t : Fin 128), wordGoes s t.val = true → plainUnits (theWord s t.val) = true → mwCop (theWord s t.val) = 0x1 → Answers (.copInc t .clean) s fun u =>
      pairOf u (mcCounter t.val (theWord s t.val)) = (pairOf s (mcCounter t.val (theWord s t.val)) + 1) % 2 ^ 64 ∧ wordFrame s t.val u) ∧
  (∀ s (t : Fin 128), wordGoes s t.val = true → plainUnits (theWord s t.val) = true → mwCop (theWord s t.val) = 0x2 → Answers (.copAdd t .clean) s fun u =>
      pairOf u (mcCounter t.val (theWord s t.val)) = (pairOf s (mcCounter t.val (theWord s t.val)) + (srcB (s.tellerAt t.val) (theWord s t.val)).toNat) % 2 ^ 64 ∧ wordFrame s t.val u) ∧
  (∀ s (t : Fin 128), wordGoes s t.val = true → plainUnits (theWord s t.val) = true → mwCop (theWord s t.val) = 0x4 → Answers (.copRdclr t .clean) s fun u =>
      pairOf u (mcCounter t.val (theWord s t.val)) = 0 ∧ wordFrame s t.val u) ∧
  (∀ s (t : Fin 128) d, wordGoes s t.val = true → plainBut false true false false (theWord s t.val) = true → mwQop (theWord s t.val) = 0x4 → (s.tellerAt t.val).ctx.desc = some d →
      Answers (.qopParam t .clean) s fun u =>
      (u.tellerAt t.val).ctx.params = Tbl.set (s.tellerAt t.val).ctx.params (mwQarg (theWord s t.val) % 16) 0 (srcB (s.tellerAt t.val) (theWord s t.val)) ∧
      (u.tellerAt t.val).ctx.verdict = (s.tellerAt t.val).ctx.verdict ∧ (u.tellerAt t.val).s = (s.tellerAt t.val).s ∧ (u.tellerAt t.val).win = (s.tellerAt t.val).win ∧
      wordAside s t.val u ∧ u = { s with tellers := u.tellers, regs := u.regs, coffer := u.coffer }) ∧
  (∀ s (t : Fin 128) d, wordGoes s t.val = true → plainBut false true false false (theWord s t.val) = true → mwQop (theWord s t.val) = 0x7 → (s.tellerAt t.val).ctx.desc = some d →
      Answers (.qopMirror t .clean) s fun u =>
      (u.tellerAt t.val).ctx.mirrors = (s.tellerAt t.val).ctx.mirrors ++ [⟨wbits (srcB (s.tellerAt t.val) (theWord s t.val)) 9 0, mwQarg (theWord s t.val) % 8⟩] ∧
      (u.tellerAt t.val).ctx.desc = some { d with mirrors := d.mirrors + 1 } ∧
      (u.tellerAt t.val).ctx.verdict = (s.tellerAt t.val).ctx.verdict ∧ (u.tellerAt t.val).s = (s.tellerAt t.val).s ∧ (u.tellerAt t.val).win = (s.tellerAt t.val).win ∧
      wordAside s t.val u ∧ u = { s with tellers := u.tellers, regs := u.regs, coffer := u.coffer }) ∧
  (∀ s (t : Fin 128) d ok v, wordGoes s t.val = true → plainBut false true false false (theWord s t.val) = true → mwQop (theWord s t.val) = 0x9 → mwMop (theWord s t.val) = 0 →
      (s.tellerAt t.val).ctx.desc = some d → police (t.val / 32) (wbits (srcB (s.tellerAt t.val) (theWord s t.val)) 15 0) d s = (ok, v) →
      Answers (.qopPolice t .clean) s fun u =>
      (u.tellerAt t.val).s = ok ∧ (u.tellerAt t.val).ctx.verdict = (if ok = true then (s.tellerAt t.val).ctx.verdict else some .policed) ∧ u.tm = v.tm ∧ u.swc = v.swc ∧
      (ok = true → u = { v with tellers := u.tellers, regs := u.regs }) ∧ (u.tellerAt t.val).win = (s.tellerAt t.val).win ∧ wordAside s t.val u) ∧
  (∀ s (t : Fin 128) d, wordGoes s t.val = true → plainBut false true false false (theWord s t.val) = true → mwQop (theWord s t.val) = 0xC → mwMop (theWord s t.val) = 0 →
      (s.tellerAt t.val).ctx.desc = some d → recircFull s (t.val / 32) (s.tellerAt t.val).ctx (s.tellerAt t.val).ctx.verdict = false →
      Answers (.qopRelease t .clean) s fun u =>
      (u.tellerAt t.val).ctx.released = true ∧ (u.tellerAt t.val).s = (s.tellerAt t.val).s ∧ (u.tellerAt t.val).win = (s.tellerAt t.val).win ∧
      u.swc = (packetEnd (t.val / 32) (s.tellerAt t.val).ctx s).swc ∧ u.tm = (packetEnd (t.val / 32) (s.tellerAt t.val).ctx s).tm ∧
      (u.dispAt (t.val / 32)).items = updFirst (fun x => x.id == (s.tellerAt t.val).ctx.item) (fun i => { i with desc := none }) ((packetEnd (t.val / 32) (s.tellerAt t.val).ctx s).dispAt (t.val / 32)).items ∧
      wordAside s t.val u) ∧
  (∀ s (t : Fin 128) d, wordGoes s t.val = true → plainBut false true false false (theWord s t.val) = true → mwQop (theWord s t.val) = 0xA → mwMop (theWord s t.val) = 0 →
      (s.tellerAt t.val).ctx.desc = some d → (s.tellerAt t.val).win = none → domOn s (17 + t.val / 32) = false → Answers (.qopScan t .clean) s fun u =>
      (u.tellerAt t.val).ctx.scan = some (bareResult 0x9) ∧ (u.tellerAt t.val).ctx.scanBusy = false ∧ (u.tellerAt t.val).s = (s.tellerAt t.val).s ∧ (u.tellerAt t.val).win = none ∧
      wordAside s t.val u ∧ u = { s with tellers := u.tellers, regs := u.regs }) ∧
  (∀ s (t : Fin 128) d, wordGoes s t.val = true → plainBut false true false false (theWord s t.val) = true → mwQop (theWord s t.val) = 0xA → (s.tellerAt t.val).ctx.desc = some d →
      (match issueScan (t.val / 32) t.val (s.tellerAt t.val).ctx.item d (s.tellerAt t.val).win (mwQarg (theWord s t.val)) (srcB (s.tellerAt t.val) (theWord s t.val)) s with | .wait => true | .done _ => false) = true →
      Answers (.qopScan t .clean) s fun u => u.tellerAt t.val = { s.tellerAt t.val with st := .wait } ∧ (∀ q, q ≠ t.val → u.tellerAt q = s.tellerAt q) ∧ u = { s with tellers := u.tellers }) ∧
  (∀ s (t : Fin 128) d, wordGoes s t.val = true → plainBut false true false false (theWord s t.val) = true → mwQop (theWord s t.val) = 0xA → mwMop (theWord s t.val) = 0 →
      (s.tellerAt t.val).ctx.desc = some d → (s.tellerAt t.val).win = none → (srcB (s.tellerAt t.val) (theWord s t.val)).getLsbD 23 = false →
      noseTakes s (t.val / 32) (wbits (srcB (s.tellerAt t.val) (theWord s t.val)) 21 16) = true → Answers (.qopScan t .clean) s fun u =>
      (∃ q : ScanReq, (u.noseAt (t.val / 32)).queue = (s.noseAt (t.val / 32)).queue ++ [q] ∧ q.teller = t.val ∧ q.item = (s.tellerAt t.val).ctx.item ∧ q.frame = d.frame ∧ q.head = d.head ∧
        q.startOff = mwQarg (theWord s t.val) ∧ q.maxLen = wbits (srcB (s.tellerAt t.val) (theWord s t.val)) 15 0 ∧ q.eff = wbits (srcB (s.tellerAt t.val) (theWord s t.val)) 21 16 ∧
        q.isNew = (srcB (s.tellerAt t.val) (theWord s t.val)).getLsbD 22 ∧ q.monitor = false ∧ q.way = none) ∧
      (u.tellerAt t.val).ctx.scan = none ∧ (u.tellerAt t.val).ctx.scanBusy = true ∧ (u.tellerAt t.val).s = (s.tellerAt t.val).s ∧ (u.tellerAt t.val).win = none ∧
      wordAside s t.val u ∧ u.ledger = s.ledger ∧ u.vault = s.vault ∧ u.swc = (modFrame d.frame (fun x => { x with scanned := true }) s).swc) ∧
  (∀ s (t : Fin 128) g0, wordGoes s t.val = true → plainBut false false true false (theWord s t.val) = true → mwXop (theWord s t.val) = 0x2 → mwMop (theWord s t.val) = 0 → mwCop (theWord s t.val) = 0 →
      (srcB (s.tellerAt t.val) (theWord s t.val) &&& offeredMask) ||| BitVec.ofNat 64 (2 ^ 8 * 3 + 2 ^ 14 + 2 ^ 38 * (t.val / 32)) = g0 → Answers (.xopPost t .clean) s fun u =>
      (u.tellerAt t.val).s = (Decidable.decide (itemRoutine g0 ≠ 0) && placeFree s (t.val / 32) 3) ∧
      (itemRoutine g0 ≠ 0 → placeFree s (t.val / 32) 3 = true → ∃ i, (u.dispAt (t.val / 32)).items = (s.dispAt (t.val / 32)).items ++ [i] ∧ i.g0 = g0 ∧
        i.g1 = gReg (s.tellerAt t.val) (mwBs (theWord s t.val) + 1) ∧ i.g2 = 0 ∧ i.g3 = gReg (s.tellerAt t.val) (mwBs (theWord s t.val) + 3) ∧ i.prio = 3 ∧ i.kind = .post ∧ i.readyAt = s.time.tick) ∧
      (itemRoutine g0 = 0 ∨ placeFree s (t.val / 32) 3 = false → (u.dispAt (t.val / 32)).items = (s.dispAt (t.val / 32)).items) ∧
      (u.tellerAt t.val).win = (s.tellerAt t.val).win ∧ wordAside s t.val u ∧ u.ledger = s.ledger ∧ u.vault = s.vault ∧ u.swc = s.swc) ∧
  (∀ s (t : Fin 128), wordGoes s t.val = true → plainBut false false true false (theWord s t.val) = true → mwXop (theWord s t.val) = 0x3 → mwMop (theWord s t.val) = 0 → mwCop (theWord s t.val) = 0 →
      Answers (.xopTrace t .clean) s fun u =>
      u.sill = (emit (srcTeller t.val) 0x39 ((srcB (s.tellerAt t.val) (theWord s t.val)).toNat + 2 ^ 64 * (s.tellerAt t.val).pc) s).sill ∧ (u.tellerAt t.val).s = (s.tellerAt t.val).s ∧
      (u.tellerAt t.val).win = (s.tellerAt t.val).win ∧ wordAside s t.val u ∧ u = { s with tellers := u.tellers, regs := u.regs, sill := u.sill }) ∧
  (∀ s (t : Fin 128), wordGoes s t.val = true → plainBut false false true false (theWord s t.val) = true → mwXop (theWord s t.val) = 0x4 → mwMop (theWord s t.val) = 0 → mwCop (theWord s t.val) = 0 →
      Answers (.xopNoaff t .clean) s fun u =>
      (u.tellerAt t.val).ctx.noAff = true ∧ (u.tellerAt t.val).s = (s.tellerAt t.val).s ∧
      (u.tellerAt t.val).win = (s.tellerAt t.val).win ∧ wordAside s t.val u ∧ u = { s with tellers := u.tellers, regs := u.regs }) ∧
  (∀ s (t : Fin 128), wordGoes s t.val = true → plainBut false false false true (theWord s t.val) = true → mwSeq (theWord s t.val) = 0xE → mwMop (theWord s t.val) = 0 →
      Answers (.seqTrapv t .clean) s fun u =>
      (u.tellerAt t.val).pc = nextPc (s.tellerAt t.val) ∧ TrapCause.soft (mwNaddr (theWord s t.val) % 16) ∈ (u.tellerAt t.val).traps ∧ (∀ c ∈ (s.tellerAt t.val).traps, c ∈ (u.tellerAt t.val).traps) ∧
      (u.tellerAt t.val).stack = (s.tellerAt t.val).stack ∧ (u.tellerAt t.val).s = (s.tellerAt t.val).s ∧ (u.tellerAt t.val).win = (s.tellerAt t.val).win ∧ wordAside s t.val u ∧
      u = { s with tellers := u.tellers, regs := u.regs }) ∧
  (∀ s (t : Fin 128), wordGoes s t.val = true → plainBut false false false true (theWord s t.val) = true → mwSeq (theWord s t.val) = 0xF → mwMop (theWord s t.val) = 0 →
      Answers (.seqHalt t .clean) s fun u =>
      (u.tellerAt t.val).st = .halt ∧ (u.tellerAt t.val).haltAt = some (mwNaddr (theWord s t.val)) ∧ flagOf u (Reg.TELL_TCAUSE (deskOf t.val) (t.val % 8)) 1 = true ∧
      (u.tellerAt t.val).stack = (s.tellerAt t.val).stack ∧ (u.tellerAt t.val).s = (s.tellerAt t.val).s ∧ (u.tellerAt t.val).win = (s.tellerAt t.val).win ∧ wordAside s t.val u ∧
      u = { s with tellers := u.tellers, regs := u.regs }) ∧
  (∀ s (t : Fin 128) fr rest, wordGoes s t.val = true → plainBut false false false true (theWord s t.val) = true → mwSeq (theWord s t.val) = 0xD → mwMop (theWord s t.val) = 0 →
      (s.tellerAt t.val).frames = fr :: rest → handlerOf (s.tellerAt t.val) = none → Answers (.seqResume t .clean) s fun u =>
      (u.tellerAt t.val).pc = wbits (wordAt fr.f 0) 13 0 ∧ (u.tellerAt t.val).z = (wordAt fr.f 0).getLsbD 16 ∧ (u.tellerAt t.val).n = (wordAt fr.f 0).getLsbD 17 ∧
      (u.tellerAt t.val).c = (wordAt fr.f 0).getLsbD 18 ∧ (u.tellerAt t.val).s = (wordAt fr.f 0).getLsbD 19 ∧ (u.tellerAt t.val).lc = wbits (wordAt fr.f 0) 47 32 ∧
      (u.tellerAt t.val).stack = ((frameStack fr.f).take (min 8 (wbits (wordAt fr.f 0) 24 21))).reverse ∧ (∀ r, r < 32 → gReg (u.tellerAt t.val) r = wordAt fr.f (16 + r)) ∧
      (u.tellerAt t.val).win = fr.win ∧ (u.tellerAt t.val).frames = rest ∧ (u.tellerAt t.val).st = .run ∧ (∀ r, r ≠ t.val → u.tellerAt r = s.tellerAt r) ∧
      u = { s with tellers := u.tellers, regs := u.regs }) ∧
  (∀ s (t : Fin 128) (i : Item), wordGoes s t.val = true → plainBut false false false true (theWord s t.val) = true → mwSeq (theWord s t.val) = 0xC → mwMop (theWord s t.val) = 0 →
      (s.tellerAt t.val).ctx.desc = none → (s.tellerAt t.val).win = none → (s.tellerAt t.val).parked = none → itemOf s t.val = some i → itemPkt i = false →
      (i.kind = .packet ∨ i.kind = .post ∨ i.kind = .sweep ∨ i.kind = .nose) → s.audit.waiting = [] → Answers (.seqEnd t .clean) s fun u =>
      (u.tellerAt t.val).st = .idle ∧ (u.tellerAt t.val).win = none ∧ (u.tellerAt t.val).ctx = { moveBuf := (s.tellerAt t.val).ctx.moveBuf } ∧
      (u.tellerAt t.val).stack = [] ∧ (u.tellerAt t.val).hold = 0 ∧
      (u.dispAt (t.val / 32)).items = delFirst (fun j => j.id == (s.tellerAt t.val).ctx.item) (s.dispAt (t.val / 32)).items ∧
      (∀ q, q ≠ t.val → u.tellerAt q = s.tellerAt q) ∧
      u = { s with tellers := u.tellers, regs := u.regs, disp := u.disp, ledger := u.ledger }) ∧
  (∀ s (t : Fin 128) (i : Item), wordGoes s t.val = true → plainBut false false true false (theWord s t.val) = true → mwXop (theWord s t.val) = 0x1 → mwMop (theWord s t.val) = 0 →
      handlerOf (s.tellerAt t.val) = some i.id → (s.dispAt (t.val / 32)).items.find? (·.id = i.id) = some i → i.id ≠ (s.tellerAt t.val).ctx.item → Answers (.xopYield t .clean) s fun u =>
      (u.tellerAt t.val).st = .run ∧ (u.tellerAt t.val).pc = 0x010 + itemRoutine i.g0 ∧ (u.tellerAt t.val).win = i.way ∧ (u.tellerAt t.val).ctx.item = i.id ∧
      (u.tellerAt t.val).ctx.desc = i.desc ∧ (u.tellerAt t.val).stack = [] ∧
      (u.tellerAt t.val).parked = some { (s.tellerAt t.val).ctx with verdict := nextVerdict (s.tellerAt t.val) (theWord s t.val), steps := (s.tellerAt t.val).ctx.steps + 1 } ∧
      (u.tellerAt t.val).frames.length = (s.tellerAt t.val).frames.length ∧ (∀ q, q ≠ t.val → u.tellerAt q = s.tellerAt q) ∧
      u = { s with tellers := u.tellers, regs := u.regs, disp := u.disp, sill := u.sill, ledger := u.ledger })

/-- What probes, candidate reads, fill retries, limits, miss time-outs, flushes, lock alarms and host record operations of a Till leave. 05 The Till; 05 Record locks; 05 Software access to records; 06 Finding a record; 06 Occupancy; 06 The miss queue; 06 The setup limiter. -/
def Obligations.TillCommandsAct : Prop :=
  (∀ (b : Fin 4) (flips : List WordFlips) (d : Desc) (a : Word64) (rest : List (Desc × Word64)) (s : State), (s.ledgerAt b.val).heldItems = (d, a) :: rest → d.entered = none →
     placeFree s b.val (actionPrio s a) = true → hashBusy s b.val d.hash = false → Answers (.tillProbe b flips) s fun u =>
     (u.ledgerAt b.val).heldItems = rest ∧ (∃ i, (u.dispAt b.val).items = (s.dispAt b.val).items ++ [i] ∧ i.desc = some d ∧ i.g3 = a ∧ i.g1 = d.hash ∧ i.st = .ready ∧ i.prio = actionPrio s a ∧ i.way = none) ∧
     u = { s with ledger := u.ledger, disp := u.disp, regs := u.regs }) ∧
  (∀ (b : Fin 4) (flips : List WordFlips) (s : State), (s.ledgerAt b.val).heldItems = [] → probeOpen s b.val = false ∨ ((s.ledgerAt b.val).stalled = none ∧ takeInput s b.val = none) → NoEffect (.tillProbe b flips) s) ∧
  (∀ (b : Fin 4) (flips : List WordFlips) (i : Nat) (d : Desc) (s : State), (s.ledgerAt b.val).heldItems = [] → (s.ledgerAt b.val).stalled = none → probeOpen s b.val = true →
     takeInput s b.val = some (i, d) → probe s b.val d.hash d.ckey = none → descsHeld (s.ledgerAt b.val) < 65536 → (∀ e ∈ (s.ledgerAt b.val).miss, e.key ≠ d.ckey) → (s.ledgerAt b.val).miss.length < 16384 →
     (∀ e ∈ (s.ledgerAt b.val).miss, e.id ≠ (s.ledgerAt b.val).nextMiss) → Answers (.tillProbe b flips) s fun u =>
     (u.ledgerAt b.val).miss = (s.ledgerAt b.val).miss ++ [{ id := (s.ledgerAt b.val).nextMiss, key := d.ckey, hash := d.hash, waiters := [.packet { d with waited := true, entered := none } s.time.tick] }] ∧
     (u.ledgerAt b.val).nextMiss = (s.ledgerAt b.val).nextMiss + 1 ∧ (u.ledgerAt b.val).last = i ∧ (u.ledgerAt b.val).ways = (s.ledgerAt b.val).ways ∧
     Tbl.get (u.assayAt i).out b.val [] = (Tbl.get (s.assayAt i).out b.val []).drop 1 ∧
     u = { s with ledger := u.ledger, assay := u.assay, swc := u.swc, regs := u.regs }) ∧
  (∀ (b : Fin 4) (entry : Nat) (e : MissEntry) (second : Bool) (s : State), entryAt s b.val entry = some e → e.stage = .reading second → vaultReady s e.hash = true → candidateTurn s e = true →
     keyGuarded s b.val e.key = true → Answers (.candidateReadDone b entry) s fun u => entryAt u b.val entry = some { e with stage := .guarded } ∧ u = { s with ledger := u.ledger }) ∧
  (∀ (b : Fin 4) (entry : Nat) (e : MissEntry) (r : Rec) (s : State), entryAt s b.val entry = some e → e.stage = .reading false → vaultReady s e.hash = true → candidateTurn s e = true →
     keyGuarded s b.val e.key = false → searchesBoth e = false → probe s b.val e.hash e.key = none →
     (s.chanAt (chanOf s.vault (ftRecord s.vault (cands s e.hash).1))).merge.find? (·.record = ftRecord s.vault (cands s e.hash).1) = none →
     peekRecord s (ftRecord s.vault (cands s e.hash).1) = .data r → recKey r ≠ e.key → Answers (.candidateReadDone b entry) s fun u =>
     entryAt u b.val entry = some { e with stage := .reading true } ∧ (∀ a, peekRecord u a = peekRecord s a) ∧ u = { s with ledger := u.ledger, regs := u.regs, vault := u.vault }) ∧
  (∀ (b : Fin 4) (entry : Nat) (s : State), (∀ e, entryAt s b.val entry = some e → vaultReady s e.hash = false ∨ candidateTurn s e = false) → NoEffect (.candidateReadDone b entry) s) ∧
  (∀ (b : Fin 4) (entry : Nat) (e : MissEntry) (s : State), entryAt s b.val entry = some e → e.stage = .guarded → keyGuarded s b.val e.key = false → Answers (.fillRetry b entry) s fun u =>
     entryAt u b.val entry = some { e with stage := .reading false } ∧ u = { s with ledger := u.ledger }) ∧
  (∀ (b : Fin 4) (entry : Nat) (s : State), (∀ e, entryAt s b.val entry = some e → (e.stage = .guarded ∧ keyGuarded s b.val e.key = true) ∨ e.stage = .held ∨ (∃ k, e.stage = .reading k)) → NoEffect (.fillRetry b entry) s) ∧
  (∀ (v : Word32) (s : State), barOpen s = true → Answers (.occLimitWrite v) s fun u =>
     fieldOf u (Reg.TILL_FT_OCC_LIMIT 0) 9 0 = v.toNat % 1024 ∧ (∀ b, b < 4 → (s.ledgerAt b).occ ≤ occThreshold s → occThreshold u < (s.ledgerAt b).occ → flagOf u (Reg.TILL_FT_IRQ_CAUSE b) 5 = true) ∧
     u = { s with regs := u.regs }) ∧
  (∀ (b : Fin 4) (v : Word32) (s : State), barOpen s = true → Answers (.setupBurstWrite b v) s fun u =>
     fieldOf u (Reg.TILL_FT_SETUP_BURST b.val) 15 0 = v.toNat % 65536 ∧
     (u.ledgerAt b.val).tokens = min ((refillTokens b.val s).ledgerAt b.val).tokens (1000000 * max 1 (v.toNat % 65536)) ∧ (u.ledgerAt b.val).tokensAt = s.time.tick ∧
     (∀ k, wayAt u b.val k = wayAt s b.val k) ∧ u = { s with ledger := u.ledger, regs := u.regs }) ∧
  (∀ (b : Fin 4) (entry frame : Nat) (e : MissEntry) (d : Desc) (t : Nat) (s : State), entryAt s b.val entry = some e →
     e.waiters.find? (waitsOn frame) = some (.packet d t) → probe s b.val e.hash e.key = none →
     us (max 1 (fieldOf s (portAct d) 25 16)) < since s t → e.setup = none → Answers (.missTimeout b entry frame) s fun u => ∃ v, u = overflowAct b.val DROP_MISS_TIMEOUT d v ∧
     entryAt v b.val entry = some { e with waiters := delFirst (waitsOn frame) e.waiters } ∧
     flagOf v (Reg.TILL_FT_IRQ_CAUSE b.val) 0 = true ∧ v = { s with ledger := v.ledger, regs := v.regs }) ∧
  (∀ (b : Fin 4) (entry frame : Nat) (s : State), (∀ e, entryAt s b.val entry = some e → (∀ w ∈ e.waiters, ∀ d t, w = .packet d t → d.frame ≠ frame) ∨ (probe s b.val e.hash e.key).isSome = true) → NoEffect (.missTimeout b entry frame) s) ∧
  (∀ (b : Fin 4) (way : Nat) (w : Way) (s : State), wayAt s b.val way = some w → fieldOf s (Reg.TILL_DUR_CFG 0) 31 0 ≠ 0 → us (fieldOf s (Reg.TILL_DUR_CFG 0) 31 0) < since s w.dirtyAt →
     rcDirty w.rc = true → rcDurable w.rc = true → Answers (.durableDirtyExpiry b way) s fun u =>
     wayAt u b.val way = some { w with rc := setW0 w.rc 24 24 0, claim := none } ∧ (∀ j, j ≠ way → wayAt u b.val j = wayAt s b.val j) ∧
     cellAt u.vault (readRank s.vault (ftRecord s.vault w.slot)) (decodeRecord s.vault (ftRecord s.vault w.slot)).2 = backCell w) ∧
  (∀ (b : Fin 4) (way : Nat) (s : State), (∀ w, wayAt s b.val way = some w → fieldOf s (Reg.TILL_DUR_CFG 0) 31 0 = 0 ∨ since s w.dirtyAt ≤ us (fieldOf s (Reg.TILL_DUR_CFG 0) 31 0) ∨ rcDirty w.rc = false ∨ rcDurable w.rc = false) →
     NoEffect (.durableDirtyExpiry b way) s) ∧
  (∀ (b : Fin 4) (v : Word32) (s : State), barOpen s = true → v.getLsbD 0 = true → (s.ledgerAt b.val).flush = none → Answers (.tillFlushStart b v) s fun u =>
     (u.ledgerAt b.val).flush = some (((s.ledgerAt b.val).ways.filter fun (_, w) => rcDirty w.rc && (!v.getLsbD 1 || rcDurable w.rc)).map fun (k, w) => (k, w.inst)) ∧
     (u.ledgerAt b.val).flushDurable = v.getLsbD 1 ∧ (∀ k, wayAt u b.val k = wayAt s b.val k) ∧ fieldOf u (Reg.TILL_FLUSH_CTRL b.val) 1 1 = b2n (v.getLsbD 1) ∧ u = { s with ledger := u.ledger, regs := u.regs }) ∧
  (∀ (b : Fin 4) (v : Word32) (s : State), barOpen s = true → v.getLsbD 0 = false ∨ (s.ledgerAt b.val).flush ≠ none → Answers (.tillFlushStart b v) s fun u =>
     fieldOf u (Reg.TILL_FLUSH_CTRL b.val) 1 1 = b2n (v.getLsbD 1) ∧ u = { s with regs := u.regs }) ∧
  (∀ (b : Fin 4) (k : Nat) (w : Way) (s : State), (s.ledgerAt b.val).flush ≠ none → flushLeft (s.ledgerAt b.val) = [k] → wayAt s b.val k = some w → rcDirty w.rc = true → Answers (.tillFlushDone b) s fun u =>
     (u.ledgerAt b.val).flush = none ∧ wayAt u b.val k = some { w with rc := setW0 w.rc 24 24 0, claim := none } ∧ (∀ j, j ≠ k → wayAt u b.val j = wayAt s b.val j) ∧
     cellAt u.vault (readRank s.vault (ftRecord s.vault w.slot)) (decodeRecord s.vault (ftRecord s.vault w.slot)).2 = backCell w ∧ flagOf u (Reg.TILL_IRQ_CAUSE b.val) 1 = true) ∧
  (∀ (b : Fin 4) (s : State), (s.ledgerAt b.val).flush = none → NoEffect (.tillFlushDone b) s) ∧
  (∀ (b : Fin 4) (s : State), (s.ledgerAt b.val).flush ≠ none → flushLeft (s.ledgerAt b.val) = [] → Answers (.tillFlushDone b) s fun u =>
     (u.ledgerAt b.val).flush = none ∧ (∀ k, wayAt u b.val k = wayAt s b.val k) ∧ flagOf u (Reg.TILL_IRQ_CAUSE b.val) 1 = true ∧ u = { s with ledger := u.ledger, regs := u.regs }) ∧
  (∀ (b : Fin 4) (way t : Nat) (w : Way) (s : State), wayAt s b.val way = some w → w.owner = some t → w.alarmed = false → fieldOf s (Reg.TILL_LOCK_ALARM 0) 31 0 ≠ 0 →
     us (fieldOf s (Reg.TILL_LOCK_ALARM 0) 31 0) < since s w.lockTick → Answers (.lockAlarm b way) s fun u =>
     wayAt u b.val way = some { w with alarmed := true } ∧ (∀ j, j ≠ way → wayAt u b.val j = wayAt s b.val j) ∧ flagOf u (Reg.TILL_IRQ_CAUSE b.val) 2 = true ∧
     u = { s with ledger := u.ledger, regs := u.regs, sill := u.sill }) ∧
  (∀ (b : Fin 4) (way : Nat) (s : State), (∀ w, wayAt s b.val way = some w → w.owner = none ∨ w.alarmed = true ∨ fieldOf s (Reg.TILL_LOCK_ALARM 0) 31 0 = 0 ∨ since s w.lockTick ≤ us (fieldOf s (Reg.TILL_LOCK_ALARM 0) 31 0)) →
     NoEffect (.lockAlarm b way) s) ∧
  (∀ (b : Fin 4) (m : BitVec 16) (s : State), barOpen s = false ∨ (s.ledgerAt b.val).hreq.busy = true ∨ s.loader.st ≠ .run →
     NoEffect (.tillLookup b) s ∧ NoEffect (.tillWrite b m) s ∧ NoEffect (.tillCreate b) s ∧ NoEffect (.tillDelete b) s ∧ NoEffect (.tillFlush b) s ∧ NoEffect (.tillReadSlot b) s) ∧
  (∀ (b : Fin 4) (k : Nat) (w : Way) (s : State), barOpen s = true → (s.ledgerAt b.val).hreq.busy = false → s.loader.st = .run → homeOf (stagedHash s b.val) = b.val →
     domOn s (13 + b.val) = true → probe s b.val (stagedHash s b.val) (recKey (stagedRec s b.val)) = some k → wayAt s b.val k = some w → rcDead w.rc = false → (rcExpired s w.rc (ledgerNow s) = false ∨ rcLock w.rc = true) → Answers (.tillLookup b) s fun u =>
     (u.ledgerAt b.val).hreq.done = some { result := 0, where_ := 1, slot := some w.slot, pinEff := w.pinEff, owner := if rcLock w.rc then some (w.owner.getD 0, w.lockAt) else none, data := some w.rc } ∧
     (∀ j, wayAt u b.val j = wayAt s b.val j) ∧ u = { s with ledger := u.ledger, regs := u.regs }) ∧
  (∀ (b : Fin 4) (k : Nat) (w : Way) (s : State), barOpen s = true → (s.ledgerAt b.val).hreq.busy = false → s.loader.st = .run → homeOf (stagedHash s b.val) = b.val →
     domOn s (13 + b.val) = true → probe s b.val (stagedHash s b.val) (recKey (stagedRec s b.val)) = some k → wayAt s b.val k = some w → rcDead w.rc = false → (rcExpired s w.rc (ledgerNow s) = false ∨ rcLock w.rc = true) → rcDirty w.rc = true → Answers (.tillFlush b) s fun u =>
     (∃ a, (u.ledgerAt b.val).hreq.done = some a ∧ a.result = 0 ∧ a.where_ = 1 ∧ a.slot = some w.slot) ∧
     wayAt u b.val k = some { w with rc := setW0 w.rc 24 24 0, claim := none } ∧ (∀ j, j ≠ k → wayAt u b.val j = wayAt s b.val j) ∧
     cellAt u.vault (readRank s.vault (ftRecord s.vault w.slot)) (decodeRecord s.vault (ftRecord s.vault w.slot)).2 = backCell w) ∧
  (∀ (b : Fin 4) (k : Nat) (w : Way) (s : State), barOpen s = true → (s.ledgerAt b.val).hreq.busy = false → s.loader.st = .run → homeOf (stagedHash s b.val) = b.val →
     domOn s (13 + b.val) = true → probe s b.val (stagedHash s b.val) (recKey (stagedRec s b.val)) = some k → wayAt s b.val k = some w → rcDead w.rc = false → rcExpired s w.rc (ledgerNow s) = false → rcLock w.rc = false → Answers (.tillDelete b) s fun u =>
     (∃ a, (u.ledgerAt b.val).hreq.done = some a ∧ a.result = 0 ∧ a.where_ = 1 ∧ a.slot = some w.slot) ∧
     (∃ y, wayAt u b.val k = some y ∧ y.rc = setW0 (rcClosed w.rc) 24 24 1 ∧ y.slot = w.slot ∧ y.pinEff = false) ∧ (∀ j, j ≠ k → wayAt u b.val j = wayAt s b.val j)) ∧
  (∀ (b : Fin 4) (m : BitVec 16) (k : Nat) (w : Way) (s : State), barOpen s = true → (s.ledgerAt b.val).hreq.busy = false → s.loader.st = .run → homeOf (stagedHash s b.val) = b.val →
     domOn s (13 + b.val) = true → probe s b.val (stagedHash s b.val) (recKey (stagedRec s b.val)) = some k → wayAt s b.val k = some w → rcDead w.rc = false → rcExpired s w.rc (ledgerNow s) = false → rcLock w.rc = false →
     badWrite m.toNat (stagedRec s b.val) w.rc = false → (m.toNat.testBit 14 = false ∨ w.scans = 0) → (m.toNat.testBit 0 = false ∨ rcState (stagedRec s b.val) ≠ 4) → Answers (.tillWrite b m) s fun u =>
     (∃ a, (u.ledgerAt b.val).hreq.done = some a ∧ a.result = 0 ∧ a.where_ = 1 ∧ a.slot = some w.slot) ∧
     (∃ y, wayAt u b.val k = some y ∧ y.rc = setW0 (writtenRecord m.toNat (stagedRec s b.val) w.rc) 24 24 1 ∧ y.slot = w.slot) ∧ (∀ j, j ≠ k → wayAt u b.val j = wayAt s b.val j)) ∧
  (∀ (b : Fin 4) (r : Rec) (s : State), barOpen s = true → (s.ledgerAt b.val).hreq.busy = false → s.loader.st = .run → s.vault.ftLog2 ≠ 0 →
     fieldOf s (Reg.TILL_HREQ_SLOT b.val) 29 0 < 2 ^ s.vault.ftLog2 → fieldOf s (Reg.TILL_HREQ_SLOT b.val) 29 0 / quarter s.vault = b.val →
     (s.chanAt (chanOf s.vault (ftRecord s.vault (fieldOf s (Reg.TILL_HREQ_SLOT b.val) 29 0)))).merge.find? (·.record = ftRecord s.vault (fieldOf s (Reg.TILL_HREQ_SLOT b.val) 29 0)) = none →
     peekRecord s (ftRecord s.vault (fieldOf s (Reg.TILL_HREQ_SLOT b.val) 29 0)) = .data r → Answers (.tillReadSlot b) s fun u =>
     (u.ledgerAt b.val).hreq.done = some { result := 0, where_ := 2, slot := some (fieldOf s (Reg.TILL_HREQ_SLOT b.val) 29 0), data := some r } ∧
     (∀ j, wayAt u b.val j = wayAt s b.val j) ∧ (∀ a, peekRecord u a = peekRecord s a) ∧ u = { s with ledger := u.ledger, regs := u.regs, vault := u.vault }) ∧
  (∀ (b : Fin 4) (k n : Nat) (w : Way) (s : State), barOpen s = true → (s.ledgerAt b.val).hreq.busy = false → s.loader.st = .run → homeOf (stagedHash s b.val) = b.val →
     domOn s (13 + b.val) = true → probe s b.val (stagedHash s b.val) (recKey (stagedRec s b.val)) = some k → wayAt s b.val k = some w → rcDead w.rc = true → rcState w.rc < 5 → rcLock w.rc = false → badCreate (stagedRec s b.val) = false → w.claim = some n →
     (∀ j y, (j, y) ∈ (s.ledgerAt b.val).ways → j ≠ k → y.slot ≠ w.slot) → Answers (.tillCreate b) s fun u =>
     (∃ a, (u.ledgerAt b.val).hreq.done = some a ∧ a.result = 0 ∧ a.where_ = 1 ∧ a.slot = some w.slot) ∧
     (∃ y, wayAt u b.val k = some y ∧ y.rc = setW0 (setW0 (createdRecord s b.val) 25 25 0) 24 24 1 ∧ y.slot = w.slot ∧ y.claim = some n) ∧ (∀ j, j ≠ k → wayAt u b.val j = wayAt s b.val j)) ∧
  (∀ (b : Fin 4) (a : HostAnswer) (s : State), (s.ledgerAt b.val).hreq.done = some a → (∀ e ∈ (s.ledgerAt b.val).miss, ¬ (e.key = recKey (stagedRec s b.val) ∧ e.stage = .held)) → Answers (.hreqDone b) s fun u =>
     (u.ledgerAt b.val).hreq = {} ∧ regRead u (Reg.TILL_HREQ_STATUS b.val) = BitVec.ofNat 32 (a.result + 2 ^ 19 * b2n a.pinEff + 2 ^ 20 * b2n a.owner.isSome + 2 ^ 24 * a.where_) ∧
     flagOf u (Reg.TILL_IRQ_CAUSE b.val) 0 = true ∧ (∀ j, wayAt u b.val j = wayAt s b.val j) ∧ u = { s with ledger := u.ledger, regs := u.regs }) ∧
  (∀ (b : Fin 4) (s : State), (s.ledgerAt b.val).hreq.done = none → NoEffect (.hreqDone b) s)
end

