-- ==== Sys2Proof/Laws/Kept.lean ====
section
/-!
SUPPORT. The part of the state that almost no command changes, and for each operation one lemma that says so.
-/
set_option linter.all false
namespace Sys2Proof.Machine

theorem State.kept_mk (pending : List Instr) (free : Nat) (regs : Tbl Word32) (dispo : Tbl Nat) (time : TimeBase) (sill : Sillage) (msix : Msix) (perf : Perf) (treas : Treasury) (fuses : Fuses) (sec : SecEngine) (pins : Pins) (loader : Loader) (pcie : Pcie) (coffer : Coffer) (rings : Tbl Ring) (out : Outputs) (lastBatch : Nat) (ports : Tbl Port) (portCfg : Tbl PortCfg) (lanes : Tbl Lane) (laneInv : Tbl Nat) (laneTaps : Tbl Nat) (teth : Tether) (swc : SwitchCore) (tm : TrafficMgr) (templates : Bytes) (assay : Tbl Assayer) (sieve : Sieve) (accord : Accord) (ledger : Tbl Ledger) (disp : Tbl Disp) (tellers : Tbl Teller) (desks : Tbl Desk) (nose : Tbl Nose) (automata : NoseAutomata) (vault : Vault) (audit : Auditor) :
    State.kept ⟨pending, free, regs, dispo, time, sill, msix, perf, treas, fuses, sec, pins, loader, pcie, coffer, rings, out, lastBatch, ports, portCfg, lanes, laneInv, laneTaps, teth, swc, tm, templates, assay, sieve, accord, ledger, disp, tellers, desks, nose, automata, vault, audit⟩ = (pending, fuses, time.tick, portCfg, templates, laneTaps, laneInv) := (rfl)

theorem State.kept_fold (s : State) :
    (s.pending, s.fuses, s.time.tick, s.portCfg, s.templates, s.laneTaps, s.laneInv) = s.kept := (rfl)

theorem State.kept_foldl {α : Type} (f : State → α → State) (h : ∀ s x, (f s x).kept = s.kept) (l : List α) (s : State) :
    (l.foldl f s).kept = s.kept := by
  induction l generalizing s with
  | nil => rfl
  | cons x xs ih => rw [List.foldl_cons, ih, h]

theorem State.kept_foldl2 {α β : Type} (f : β × State → α → β × State) (h : ∀ a x, (f a x).2.kept = a.2.kept) (l : List α)
    (a : β × State) : (l.foldl f a).2.kept = a.2.kept := by
  induction l generalizing a with
  | nil => rfl
  | cons x xs ih => rw [List.foldl_cons, ih, h]

theorem State.kept_foldl3 {α β γ : Type} (f : β × γ × State → α → β × γ × State) (h : ∀ a x, (f a x).2.2.kept = a.2.2.kept)
    (l : List α) (a : β × γ × State) : (l.foldl f a).2.2.kept = a.2.2.kept := by
  induction l generalizing a with
  | nil => rfl
  | cons x xs ih => rw [List.foldl_cons, ih, h]

theorem State.kept_getD {o : Option State} {s d : State} (h : ∀ t, o = some t → t.kept = s.kept) (hd : d.kept = s.kept) :
    (o.getD d).kept = s.kept := by
  cases o with
  | none => exact hd
  | some t => exact h t rfl

/-- The state that a decision leaves: the one before it where nothing could be done. -/
def Decision.state : Decision → State → State
  | .done t, _ => t
  | .full, s => s
  | .noroom t, _ => t

theorem Decision.state_done (t s : State) : (Decision.done t).state s = t := rfl
theorem Decision.state_noroom (t s : State) : (Decision.noroom t).state s = t := rfl
theorem Decision.state_full (s : State) : Decision.full.state s = s := rfl

theorem Decision.state_ite {c : Prop} [Decidable c] {x y : Decision} {s : State} :
    (if c then x else y).state s = if c then x.state s else y.state s := by split <;> rfl

/-- The state that a SCAN order leaves: the one before it where it waits. -/
def ScanIssue.state : ScanIssue → State → State
  | .done t, _ => t
  | .wait, s => s

theorem ScanIssue.state_done (t s : State) : (ScanIssue.done t).state s = t := rfl
theorem ScanIssue.state_wait (s : State) : ScanIssue.wait.state s = s := rfl

theorem ScanIssue.state_ite {c : Prop} [Decidable c] {x y : ScanIssue} {s : State} :
    (if c then x else y).state s = if c then x.state s else y.state s := by split <;> rfl

/-- The state that a turn of a waiter leaves. -/
def EntryStep.state : EntryStep → State
  | .served s => s
  | .searched s => s
  | .refused s => s
  | .wait _ s => s
  | .hold s => s

theorem EntryStep.state_served (s : State) : (EntryStep.served s).state = s := rfl
theorem EntryStep.state_searched (s : State) : (EntryStep.searched s).state = s := rfl
theorem EntryStep.state_refused (s : State) : (EntryStep.refused s).state = s := rfl
theorem EntryStep.state_wait (e : MissEntry) (s : State) : (EntryStep.wait e s).state = s := rfl
theorem EntryStep.state_hold (s : State) : (EntryStep.hold s).state = s := rfl

theorem gated_kept (f : State → State) (s : State) (h : ∀ s, (f s).kept = s.kept) : (gated f s).kept = s.kept := by
  unfold gated; split
  · exact h s
  · rfl

/-! ### State -/


/-! ### Ops -/

theorem State.setLedger_kept (s : State) (b : Nat) (l : Ledger) : (State.setLedger s b l).kept = s.kept := by
  rfl

theorem State.setDisp_kept (s : State) (b : Nat) (d : Disp) : (State.setDisp s b d).kept = s.kept := by
  rfl

theorem State.setAssay_kept (s : State) (b : Nat) (a : Assayer) : (State.setAssay s b a).kept = s.kept := by
  rfl

theorem State.setNose_kept (s : State) (b : Nat) (n : Nose) : (State.setNose s b n).kept = s.kept := by
  rfl

theorem State.setTeller_kept (s : State) (t : Nat) (x : Teller) : (State.setTeller s t x).kept = s.kept := by
  rfl

theorem State.setDesk_kept (s : State) (d : Nat) (x : Desk) : (State.setDesk s d x).kept = s.kept := by
  rfl

theorem State.setPort_kept (s : State) (p : Nat) (x : Port) : (State.setPort s p x).kept = s.kept := by
  rfl

theorem State.setRing_kept (s : State) (n : Nat) (r : Ring) : (State.setRing s n r).kept = s.kept := by
  rfl

theorem State.setChan_kept (s : State) (c : Nat) (x : VaultCh) : (State.setChan s c x).kept = s.kept := by
  rfl

theorem State.setSched_kept (s : State) (k : Nat) (x : Sched) : (State.setSched s k x).kept = s.kept := by
  rfl

theorem State.setClass_kept (s : State) (n : Nat) (x : TmClass) : (State.setClass s n x).kept = s.kept := by
  rfl

theorem State.setUser_kept (s : State) (u : Nat) (x : AllowUser) : (State.setUser s u x).kept = s.kept := by
  rfl

theorem State.setDom_kept (s : State) (d : Nat) (x : DomState) : (State.setDom s d x).kept = s.kept := by
  rfl

theorem State.modLedger_kept (s : State) (b : Nat) (f : Ledger → Ledger) : (State.modLedger s b f).kept = s.kept := by
  unfold State.modLedger
  simp only [State.setLedger_kept]

theorem State.modDisp_kept (s : State) (b : Nat) (f : Disp → Disp) : (State.modDisp s b f).kept = s.kept := by
  unfold State.modDisp
  simp only [State.setDisp_kept]

theorem State.modAssay_kept (s : State) (b : Nat) (f : Assayer → Assayer) : (State.modAssay s b f).kept = s.kept := by
  unfold State.modAssay
  simp only [State.setAssay_kept]

theorem State.modNose_kept (s : State) (b : Nat) (f : Nose → Nose) : (State.modNose s b f).kept = s.kept := by
  unfold State.modNose
  simp only [State.setNose_kept]

theorem State.modTeller_kept (s : State) (t : Nat) (f : Teller → Teller) : (State.modTeller s t f).kept = s.kept := by
  unfold State.modTeller
  simp only [State.setTeller_kept]

theorem State.modPort_kept (s : State) (p : Nat) (f : Port → Port) : (State.modPort s p f).kept = s.kept := by
  unfold State.modPort
  simp only [State.setPort_kept]

theorem State.modRing_kept (s : State) (n : Nat) (f : Ring → Ring) : (State.modRing s n f).kept = s.kept := by
  unfold State.modRing
  simp only [State.setRing_kept]

theorem State.modChan_kept (s : State) (c : Nat) (f : VaultCh → VaultCh) : (State.modChan s c f).kept = s.kept := by
  unfold State.modChan
  simp only [State.setChan_kept]

theorem State.modSched_kept (s : State) (k : Nat) (f : Sched → Sched) : (State.modSched s k f).kept = s.kept := by
  unfold State.modSched
  simp only [State.setSched_kept]

theorem regStore_kept (off : Nat) (v : Word32) (s : State) : (regStore off v s).kept = s.kept := by
  rfl

theorem setField_kept (off hi lo x : Nat) (s : State) : (setField off hi lo x s).kept = s.kept := by
  unfold setField
  simp only [regStore_kept]

theorem setPair_kept (off v : Nat) (s : State) : (setPair off v s).kept = s.kept := by
  unfold setPair
  simp only [regStore_kept]

theorem bumpN_kept (off n : Nat) (s : State) : (bumpN off n s).kept = s.kept := by
  unfold bumpN
  simp only [State.kept_mk, State.kept_fold, apply_ite State.kept, ite_self, regStore_kept]

theorem bump_kept (off : Nat) (s : State) : (bump off s).kept = s.kept := by
  unfold bump
  simp only [bumpN_kept]

theorem tally_kept (off : Nat) (s : State) : (tally off s).kept = s.kept := by
  unfold tally
  simp only [regStore_kept]

theorem bump64_kept (off n : Nat) (s : State) : (bump64 off n s).kept = s.kept := by
  unfold bump64
  simp only [State.kept_mk, State.kept_fold, apply_ite State.kept, ite_self, setPair_kept]

theorem peak_kept (off hi lo v : Nat) (s : State) : (peak off hi lo v s).kept = s.kept := by
  unfold peak
  simp only [State.kept_mk, State.kept_fold, apply_ite State.kept, ite_self, setField_kept]

theorem cause_kept (off i : Nat) (s : State) : (cause off i s).kept = s.kept := by
  unfold cause
  simp only [regStore_kept]

theorem stampAt_kept (secOff nsOff net : Nat) (s : State) : (stampAt secOff nsOff net s).kept = s.kept := by
  unfold stampAt
  simp only [regStore_kept]

theorem stamp_kept (secOff nsOff : Nat) (s : State) : (stamp secOff nsOff s).kept = s.kept := by
  unfold stamp
  simp only [stampAt_kept]

theorem emitAt_kept (net src kind payload : Nat) (s : State) : (emitAt net src kind payload s).kept = s.kept := by
  unfold emitAt
  simp only [State.kept_mk, State.kept_fold, apply_ite State.kept, ite_self, bump_kept, cause_kept]

theorem emit_kept (src kind payload : Nat) (s : State) : (emit src kind payload s).kept = s.kept := by
  unfold emit
  simp only [emitAt_kept]

theorem perfCount_kept (u k n : Nat) (s : State) : (perfCount u k n s).kept = s.kept := by
  unfold perfCount
  simp only [State.kept_mk, State.kept_fold, apply_ite State.kept, ite_self, setPair_kept, cause_kept]

theorem perfN_kept (u code n : Nat) (s : State) : (perfN u code n s).kept = s.kept := by
  unfold perfN
  simp only [State.kept_foldl, implies_true, State.kept_mk, State.kept_fold, apply_ite State.kept, ite_self, perfCount_kept]

theorem perf_kept (u code : Nat) (s : State) : (perf u code s).kept = s.kept := by
  unfold perf
  simp only [perfN_kept]

theorem dispoCount_kept (port cls code : Nat) (s : State) : (dispoCount port cls code s).kept = s.kept := by
  unfold dispoCount
  simp only [State.kept_mk, State.kept_fold, apply_ite State.kept, ite_self]

theorem dispose_kept (port cls code : Nat) (waited : Bool) (hash : Word64) (arr : Nat) (s : State) : (dispose port cls code waited hash arr s).kept = s.kept := by
  unfold dispose
  simp only [State.kept_mk, State.kept_fold, apply_ite State.kept, ite_self, emit_kept, dispoCount_kept]

theorem takeFree_kept (s : State) : (takeFree s).2.kept = s.kept := by
  rfl

theorem takeFree_kept' {s : State} {x' : _} {r' : State} (h' : takeFree s = (x', r')) : r'.kept = s.kept := by
  have k' := takeFree_kept s
  rw [h'] at k'
  exact k'

theorem plainWrite_kept (off : Nat) (v : Word32) (s : State) : (plainWrite off v s).kept = s.kept := by
  unfold plainWrite
  split <;> simp only [State.kept_mk, State.kept_fold, regStore_kept]

/-! ### Rings -/

theorem freshOut_kept (s : State) : (freshOut s).kept = s.kept := by
  rfl

theorem toHost_kept (addr : Nat) (b : Bytes) (s : State) : (toHost addr b s).kept = s.kept := by
  unfold toHost
  simp only [State.kept_mk, State.kept_fold, perfN_kept]

theorem fromHost_kept (n : Nat) (s : State) : (fromHost n s).kept = s.kept := by
  unfold fromHost
  simp only [perfN_kept]

theorem advanceHead_kept (n : Nat) (s : State) : (advanceHead n s).kept = s.kept := by
  unfold advanceHead
  simp only [State.kept_mk, State.kept_fold, apply_ite State.kept, ite_self, State.modRing_kept, bump_kept, cause_kept, perf_kept, toHost_kept]

theorem haltRing_kept (n code : Nat) (s : State) : (haltRing n code s).kept = s.kept := by
  unfold haltRing
  simp only [State.modRing_kept, cause_kept, emit_kept]

theorem closeBuffer_kept (n : Nat) (s : State) : (closeBuffer n s).kept = s.kept := by
  unfold closeBuffer
  repeat' first
    | with_reducible rfl
    | (simp only [State.kept_mk, State.kept_fold, apply_ite State.kept, ite_self, State.modRing_kept, toHost_kept, advanceHead_kept]; done)
    | split
    | dsimp only

theorem writePart_kept (n kind : Nat) (o : OpenBuf) (body : Bytes) (start : Bool) (s : State) : (writePart n kind o body start s).kept = s.kept := by
  unfold writePart
  simp only [State.kept_mk, State.kept_fold, apply_ite State.kept, ite_self, State.modRing_kept, toHost_kept, closeBuffer_kept]

theorem makeRoom_kept (n : Nat) (s : State) : (makeRoom n s).kept = s.kept := by
  unfold makeRoom
  simp only [State.kept_mk, State.kept_fold, apply_ite State.kept, ite_self, closeBuffer_kept]

theorem placeRec_kept (n kind : Nat) (body : Bytes) (s : State) : (placeRec n kind body s).2.kept = s.kept := by
  unfold placeRec
  repeat' first
    | with_reducible rfl
    | (simp only [State.kept_mk, State.kept_fold, apply_ite State.kept, ite_self, writePart_kept, makeRoom_kept]; done)
    | split
    | dsimp only

theorem placeRec_kept' {n kind : Nat} {body : Bytes} {s : State} {x' : _} {r' : State} (h' : placeRec n kind body s = (x', r')) : r'.kept = s.kept := by
  have k' := placeRec_kept n kind body s
  rw [h'] at k'
  exact k'

theorem placeRest_kept (n : Nat) (s : State) : (placeRest n s).kept = s.kept := by
  unfold placeRest
  repeat' first
    | with_reducible rfl
    | (simp only [State.kept_mk, State.kept_fold, apply_ite State.kept, ite_self, writePart_kept]; done)
    | split
    | dsimp only

theorem flushTimeout_kept (n : Nat) (s : State) : (flushTimeout n s).kept = s.kept := by
  unfold flushTimeout
  repeat' first
    | with_reducible rfl
    | (simp only [State.kept_mk, State.kept_fold, apply_ite State.kept, ite_self, closeBuffer_kept]; done)
    | split
    | dsimp only

theorem ringCfgWrite_kept (n : Nat) (v : Word32) (s : State) : (ringCfgWrite n v s).kept = s.kept := by
  unfold ringCfgWrite
  simp only [State.kept_mk, State.kept_fold, apply_ite State.kept, ite_self, State.modRing_kept, regStore_kept, closeBuffer_kept]

theorem tailWrite_kept (n : Nat) (v : Word32) (s : State) : (tailWrite n v s).kept = s.kept := by
  unfold tailWrite
  simp only [regStore_kept]

theorem ringBaseWrite_kept (n : Nat) (hi : Bool) (v : Word32) (s : State) : (ringBaseWrite n hi v s).kept = s.kept := by
  unfold ringBaseWrite
  simp only [State.kept_mk, State.kept_fold, apply_ite State.kept, ite_self, regStore_kept]

theorem endEntry_kept (n res index : Nat) (s : State) : (endEntry n res index s).kept = s.kept := by
  unfold endEntry
  repeat' first
    | with_reducible rfl
    | (simp only [State.kept_mk, State.kept_fold, apply_ite State.kept, ite_self, State.modRing_kept, perf_kept, toHost_kept]; done)
    | split
    | dsimp only

theorem skimBatch_kept (n k : Nat) (s : State) : (skimBatch n k s).kept = s.kept := by
  induction k generalizing s with
  | zero => rfl
  | succ k ih =>
    rw [skimBatch]
    repeat' first
      | with_reducible rfl
      | (simp only [ih, endEntry_kept]; done)
      | split

theorem finishEntry_kept (n res index : Nat) (s : State) : (finishEntry n res index s).kept = s.kept := by
  unfold finishEntry
  simp only [endEntry_kept, skimBatch_kept]

theorem batchWriteBack_kept (n status : Nat) (b : Batch) (s : State) : (batchWriteBack n status b s).kept = s.kept := by
  unfold batchWriteBack
  simp only [toHost_kept]

theorem batchDone_kept (n : Nat) (s : State) : (batchDone n s).kept = s.kept := by
  unfold batchDone
  repeat' first
    | with_reducible rfl
    | (simp only [State.kept_mk, State.kept_fold, apply_ite State.kept, ite_self, State.modRing_kept, cause_kept, emit_kept, advanceHead_kept, batchWriteBack_kept]; done)
    | split
    | dsimp only

theorem fetchHost_kept (n : Nat) (d : Bytes) (s : State) : (fetchHost n d s).kept = s.kept := by
  unfold fetchHost
  simp only [State.kept_mk, State.kept_fold, apply_ite State.kept, ite_self, State.modRing_kept, haltRing_kept]

theorem fetchInject_kept (n : Nat) (d : Bytes) (s : State) : (fetchInject n d s).kept = s.kept := by
  unfold fetchInject
  simp only [State.kept_mk, State.kept_fold, apply_ite State.kept, ite_self, State.modRing_kept, haltRing_kept]

theorem fetchBatch_kept (n : Nat) (d : Bytes) (data : Option Bytes) (s : State) : (fetchBatch n d data s).kept = s.kept := by
  unfold fetchBatch
  repeat' first
    | with_reducible rfl
    | (simp only [State.kept_mk, State.kept_fold, apply_ite State.kept, ite_self, State.modRing_kept, bump_kept, cause_kept, perf_kept, fromHost_kept, haltRing_kept, skimBatch_kept, batchWriteBack_kept]; done)
    | split
    | dsimp only

theorem descFetch_kept (n : Nat) (desc data : Option Bytes) (s : State) : (descFetch n desc data s).kept = s.kept := by
  unfold descFetch
  repeat' first
    | with_reducible rfl
    | (simp only [State.kept_mk, State.kept_fold, apply_ite State.kept, ite_self, fromHost_kept, haltRing_kept, fetchHost_kept, fetchInject_kept, fetchBatch_kept]; done)
    | split
    | dsimp only

/-! ### Time -/

theorem timeSnap_kept (s : State) : (timeSnap s).kept = s.kept := by
  rfl

theorem latchSnap_kept (s : State) : (latchSnap s).kept = s.kept := by
  unfold latchSnap
  simp only [State.kept_foldl, implies_true, State.kept_mk, State.kept_fold, apply_ite State.kept, ite_self, regStore_kept, setPair_kept]

theorem setIncr_kept (v : Nat) (s : State) : (setIncr v s).kept = s.kept := by
  unfold setIncr
  simp only [State.kept_mk, State.kept_fold, apply_ite State.kept, ite_self, setPair_kept, emit_kept]

theorem incrWrite_kept (half : Option Bool) (w : Word64) (s : State) : (incrWrite half w s).kept = s.kept := by
  unfold incrWrite
  split <;> simp only [State.kept_mk, State.kept_fold, setIncr_kept]

theorem timeApply_kept (s : State) : (timeApply s).kept = s.kept := by
  unfold timeApply
  simp only [State.kept_mk, State.kept_fold, apply_ite State.kept, ite_self]

theorem timeCtrlWrite_kept (v : Word32) (s : State) : (timeCtrlWrite v s).kept = s.kept := by
  unfold timeCtrlWrite
  simp only [State.kept_mk, State.kept_fold, apply_ite State.kept, ite_self, regStore_kept, timeSnap_kept, timeApply_kept]

theorem followCheck_kept (s : State) : (followCheck s).kept = s.kept := by
  unfold followCheck
  simp only [State.kept_mk, State.kept_fold, apply_ite State.kept, ite_self]

theorem refclkTime_kept (lost : Bool) (s : State) : (refclkTime lost s).kept = s.kept := by
  unfold refclkTime
  simp only [State.kept_mk, State.kept_fold, apply_ite State.kept, ite_self, cause_kept, emit_kept]

theorem setTrig_kept (i : Nat) (t : Trigger) (s : State) : (setTrig i t s).kept = s.kept := by
  rfl

theorem trigArm_kept (i : Nat) (v : Word32) (s : State) : (trigArm i v s).kept = s.kept := by
  unfold trigArm
  simp only [State.kept_mk, State.kept_fold, apply_ite State.kept, ite_self, regStore_kept, bump_kept, cause_kept, setTrig_kept]

theorem trigDisarm_kept (i : Nat) (v : Word32) (s : State) : (trigDisarm i v s).kept = s.kept := by
  unfold trigDisarm
  simp only [regStore_kept, setTrig_kept]

theorem trigCtrlWrite_kept (i : Nat) (v : Word32) (s : State) : (trigCtrlWrite i v s).kept = s.kept := by
  unfold trigCtrlWrite
  simp only [State.kept_mk, State.kept_fold, apply_ite State.kept, ite_self, trigArm_kept, trigDisarm_kept]

theorem trigEdge_kept (i : Nat) (s : State) : (trigEdge i s).kept = s.kept := by
  unfold trigEdge
  repeat' first
    | with_reducible rfl
    | (simp only [State.kept_mk, State.kept_fold, apply_ite State.kept, ite_self, setTrig_kept]; done)
    | split
    | dsimp only

theorem trigPulseEnd_kept (i : Nat) (s : State) : (trigPulseEnd i s).kept = s.kept := by
  unfold trigPulseEnd
  repeat' first
    | with_reducible rfl
    | (simp only [State.kept_mk, State.kept_fold, apply_ite State.kept, ite_self, setTrig_kept]; done)
    | split
    | dsimp only

theorem trigStep_kept (forward : Bool) (i : Nat) (s : State) : (trigStep forward i s).kept = s.kept := by
  unfold trigStep
  simp only [State.kept_mk, State.kept_fold, apply_ite State.kept, ite_self, bumpN_kept, cause_kept, emit_kept, setTrig_kept]

theorem bumpField_kept (off hi lo : Nat) (s : State) : (bumpField off hi lo s).kept = s.kept := by
  unfold bumpField
  simp only [State.kept_mk, State.kept_fold, apply_ite State.kept, ite_self, setField_kept]

theorem setCap_kept (i : Nat) (q : List CapEntry) (s : State) : (setCap i q s).kept = s.kept := by
  rfl

theorem captureEdge_kept (i : Nat) (rising : Bool) (s : State) : (captureEdge i rising s).kept = s.kept := by
  unfold captureEdge
  simp only [State.kept_mk, State.kept_fold, apply_ite State.kept, ite_self, cause_kept, emit_kept, bumpField_kept, setCap_kept]

theorem capturePop_kept (i : Nat) (s : State) : (capturePop i s).kept = s.kept := by
  unfold capturePop
  simp only [setCap_kept]

theorem ppsWrite_kept (v : Word32) (s : State) : (ppsWrite v s).kept = s.kept := by
  unfold ppsWrite
  simp only [State.kept_mk, State.kept_fold, apply_ite State.kept, ite_self, regStore_kept]

theorem ppsEdge_kept (s : State) : (ppsEdge s).kept = s.kept := by
  unfold ppsEdge
  simp only [State.kept_mk, State.kept_fold, apply_ite State.kept, ite_self]

theorem ppsPulseEnd_kept (s : State) : (ppsPulseEnd s).kept = s.kept := by
  unfold ppsPulseEnd
  repeat' first
    | with_reducible rfl
    | (simp only [State.kept_mk, State.kept_fold, apply_ite State.kept, ite_self]; done)
    | split
    | dsimp only

theorem ppsStep_kept (s : State) : (ppsStep s).kept = s.kept := by
  unfold ppsStep
  simp only [State.kept_mk, State.kept_fold, apply_ite State.kept, ite_self]

theorem offsetAdd_kept (s : State) : (offsetAdd s).kept = s.kept := by
  unfold offsetAdd
  repeat' first
    | with_reducible rfl
    | (simp only [State.kept_foldl, implies_true, State.kept_mk, State.kept_fold, apply_ite State.kept, apply_ite Prod.snd, ite_self, cause_kept, emit_kept, trigStep_kept, ppsStep_kept]; done)
    | split
    | dsimp only

theorem ts2Push_kept (e : Ts2Entry) (s : State) : (ts2Push e s).kept = s.kept := by
  unfold ts2Push
  simp only [State.kept_mk, State.kept_fold, apply_ite State.kept, ite_self, bump_kept, cause_kept]

theorem ts2Pop_kept (s : State) : (ts2Pop s).kept = s.kept := by
  rfl

theorem placeLosses_kept (l : List (Nat × Nat)) (s : State) : (placeLosses l s).kept = s.kept := by
  induction l generalizing s with
  | nil => rfl
  | cons x l ih =>
    obtain ⟨src, n⟩ := x
    rw [placeLosses]
    split
    · rfl
    · simp only [ih, emit_kept, State.kept_mk, State.kept_fold]

theorem sillDeliver_kept (s : State) : (sillDeliver s).kept = s.kept := by
  unfold sillDeliver
  repeat' first
    | with_reducible rfl
    | (simp only [State.kept_mk, State.kept_fold, apply_ite State.kept, ite_self, bump64_kept, placeRec_kept, placeLosses_kept]; done)
    | split
    | dsimp only

theorem dispCfgWrite_kept (v : Word32) (s : State) : (dispCfgWrite v s).kept = s.kept := by
  unfold dispCfgWrite
  simp only [State.kept_mk, State.kept_fold, apply_ite State.kept, ite_self, regStore_kept]

/-! ### Perf -/

theorem winCount_kept (p len : Nat) (tx : Bool) (s : State) : (winCount p len tx s).kept = s.kept := by
  unfold winCount
  simp only [State.kept_mk, State.kept_fold, apply_ite State.kept, ite_self, perf_kept]

theorem windowLatch_kept (s : State) : (windowLatch s).kept = s.kept := by
  unfold windowLatch
  simp only [State.kept_mk, State.kept_fold, apply_ite State.kept, ite_self, perf_kept]

theorem freezeNow_kept (s : State) : (freezeNow s).kept = s.kept := by
  unfold freezeNow
  simp only [State.kept_mk, State.kept_fold, cause_kept, stamp_kept, perf_kept]

theorem unfreezeNow_kept (s : State) : (unfreezeNow s).kept = s.kept := by
  unfold unfreezeNow
  simp only [State.kept_mk, State.kept_fold, perf_kept]

theorem freezeWrite_kept (v : Word32) (s : State) : (freezeWrite v s).kept = s.kept := by
  unfold freezeWrite
  repeat' first
    | with_reducible rfl
    | (simp only [State.kept_mk, State.kept_fold, apply_ite State.kept, ite_self, regStore_kept, perf_kept, freezeNow_kept, unfreezeNow_kept]; done)
    | split
    | dsimp only

theorem scheduledAct_kept (s : State) : (scheduledAct s).kept = s.kept := by
  unfold scheduledAct
  repeat' first
    | with_reducible rfl
    | (simp only [State.kept_mk, State.kept_fold, apply_ite State.kept, ite_self, freezeNow_kept, unfreezeNow_kept]; done)
    | split
    | dsimp only

theorem clearCounters_kept (s : State) : (clearCounters s).kept = s.kept := by
  unfold clearCounters
  simp only [State.kept_foldl, implies_true, State.kept_mk, State.kept_fold, apply_ite State.kept, ite_self, setPair_kept]

theorem perfCtrlWrite_kept (v : Word32) (s : State) : (perfCtrlWrite v s).kept = s.kept := by
  unfold perfCtrlWrite
  simp only [State.kept_mk, State.kept_fold, apply_ite State.kept, ite_self, regStore_kept, clearCounters_kept]

theorem perfDump_kept (s : State) : (perfDump s).kept = s.kept := by
  unfold perfDump
  split
  · rfl
  · extract_lets seq s1 p s2
    have h1 : s1.kept = s.kept := regStore_kept _ _ _
    have h2 : s2.kept = s1.kept := by simp only [s2, State.kept_mk, State.kept_fold]
    clear_value s2 s1
    split <;> simp only [cause_kept, bump_kept, State.kept_mk, State.kept_fold, h1, h2]

theorem dumpCfgWrite_kept (v : Word32) (s : State) : (dumpCfgWrite v s).kept = s.kept := by
  unfold dumpCfgWrite
  simp only [State.kept_mk, State.kept_fold, regStore_kept, perf_kept]

/-! ### FlowCtl -/

theorem emitFc_kept (p : Nat) (f : Bytes) (s : State) : (emitFc p f s).kept = s.kept := by
  unfold emitFc
  simp only [State.kept_foldl, implies_true, State.kept_mk, State.kept_fold, apply_ite State.kept, ite_self, perf_kept, bumpField_kept, winCount_kept]

theorem sendFc_kept (p : Nat) (f : Bytes) (s : State) : (sendFc p f s).kept = s.kept := by
  unfold sendFc
  simp only [State.kept_foldl, implies_true, State.kept_mk, State.kept_fold, apply_ite State.kept, ite_self, State.modSched_kept, emitFc_kept]

theorem flushFc_kept (p : Nat) (s : State) : (flushFc p s).kept = s.kept := by
  unfold flushFc
  simp only [State.kept_foldl, implies_true, State.kept_mk, State.kept_fold, apply_ite State.kept, ite_self, State.modSched_kept, emitFc_kept]

theorem sendX_kept (p q : Nat) (off : Bool) (s : State) : (sendX p q off s).kept = s.kept := by
  unfold sendX
  simp only [State.kept_mk, State.kept_fold, apply_ite State.kept, ite_self, sendFc_kept]

theorem fcClass_kept (p q : Nat) (s : State) : (fcClass p q s).kept = s.kept := by
  unfold fcClass
  simp only [State.kept_mk, State.kept_fold, apply_ite State.kept, ite_self, State.setSched_kept, sendX_kept]

theorem fcUpdate_kept (p : Nat) (s : State) : (fcUpdate p s).kept = s.kept := by
  unfold fcUpdate
  simp only [State.kept_foldl, implies_true, State.kept_mk, State.kept_fold, apply_ite State.kept, ite_self, State.modSched_kept, fcClass_kept]

theorem xoffRepeat_kept (p q : Nat) (s : State) : (xoffRepeat p q s).kept = s.kept := by
  unfold xoffRepeat
  repeat' first
    | with_reducible rfl
    | (simp only [State.kept_mk, State.kept_fold, apply_ite State.kept, ite_self, State.setSched_kept, sendX_kept]; done)
    | split
    | dsimp only

theorem pauseExpiry_kept (p c : Nat) (s : State) : (pauseExpiry p c s).kept = s.kept := by
  unfold pauseExpiry
  repeat' first
    | with_reducible rfl
    | (simp only [State.kept_mk, State.kept_fold, apply_ite State.kept, ite_self, State.setSched_kept]; done)
    | split
    | dsimp only

theorem pauseClass_kept (p c quanta : Nat) (s : State) : (pauseClass p c quanta s).kept = s.kept := by
  unfold pauseClass
  simp only [State.setSched_kept]

theorem flowControl_kept (p : Nat) (data : Bytes) (s : State) : (flowControl p data s).kept = s.kept := by
  unfold flowControl
  simp only [State.kept_foldl, implies_true, State.kept_mk, State.kept_fold, apply_ite State.kept, ite_self, bumpField_kept, pauseClass_kept]

/-! ### Sieve -/

theorem sieveLookup_kept (b : Nat) (kv : KeyVec) (tpl gen : Nat) (s : State) : (sieveLookup b kv tpl gen s).2.2.kept = s.kept := by
  unfold sieveLookup
  repeat' first
    | with_reducible rfl
    | (simp only [State.kept_mk, State.kept_fold, apply_ite State.kept, ite_self, bump_kept]; done)
    | split
    | dsimp only

theorem sieveLookup_kept' {b : Nat} {kv : KeyVec} {tpl gen : Nat} {s : State} {x' : _} {y' : _} {r' : State} (h' : sieveLookup b kv tpl gen s = (x', y', r')) : r'.kept = s.kept := by
  have k' := sieveLookup_kept b kv tpl gen s
  rw [h'] at k'
  exact k'

theorem sievePut_kept (i : Nat) (e : SieveEntry) (s : State) : (sievePut i e s).kept = s.kept := by
  rfl

theorem sieveWriteOp_kept (j : SieveJob) (s : State) : (sieveWriteOp j s).2.kept = s.kept := by
  unfold sieveWriteOp
  repeat' first
    | with_reducible rfl
    | (simp only [State.kept_mk, State.kept_fold, apply_ite State.kept, ite_self, sievePut_kept]; done)
    | split
    | dsimp only

theorem sieveWriteOp_kept' {j : SieveJob} {s : State} {x' : _} {r' : State} (h' : sieveWriteOp j s = (x', r')) : r'.kept = s.kept := by
  have k' := sieveWriteOp_kept j s
  rw [h'] at k'
  exact k'

theorem sieveInsertOp_kept (j : SieveJob) (s : State) : (sieveInsertOp j s).2.kept = s.kept := by
  unfold sieveInsertOp
  repeat' first
    | with_reducible rfl
    | (simp only [State.kept_mk, State.kept_fold, apply_ite State.kept, ite_self, sievePut_kept]; done)
    | split
    | dsimp only

theorem sieveInsertOp_kept' {j : SieveJob} {s : State} {x' : _} {r' : State} (h' : sieveInsertOp j s = (x', r')) : r'.kept = s.kept := by
  have k' := sieveInsertOp_kept j s
  rw [h'] at k'
  exact k'

theorem sieveFindOp_kept (j : SieveJob) (s : State) : (sieveFindOp j s).2.kept = s.kept := by
  unfold sieveFindOp
  repeat' first
    | with_reducible rfl
    | (simp only [State.kept_mk, State.kept_fold, apply_ite State.kept, ite_self]; done)
    | split
    | dsimp only

theorem sieveFindOp_kept' {j : SieveJob} {s : State} {x' : _} {r' : State} (h' : sieveFindOp j s = (x', r')) : r'.kept = s.kept := by
  have k' := sieveFindOp_kept j s
  rw [h'] at k'
  exact k'

theorem sieveCtrlOp_kept (f : SieveTable → SieveEntry → SieveEntry) (j : SieveJob) (s : State) : (sieveCtrlOp f j s).2.kept = s.kept := by
  unfold sieveCtrlOp
  repeat' first
    | with_reducible rfl
    | (simp only [State.kept_mk, State.kept_fold, apply_ite State.kept, ite_self, sievePut_kept]; done)
    | split
    | dsimp only

theorem sieveCtrlOp_kept' {f : SieveTable → SieveEntry → SieveEntry} {j : SieveJob} {s : State} {x' : _} {r' : State} (h' : sieveCtrlOp f j s = (x', r')) : r'.kept = s.kept := by
  have k' := sieveCtrlOp_kept f j s
  rw [h'] at k'
  exact k'

theorem sieveReadOp_kept (j : SieveJob) (s : State) : (sieveReadOp j s).2.kept = s.kept := by
  unfold sieveReadOp
  repeat' first
    | with_reducible rfl
    | (simp only [State.kept_foldl, implies_true, State.kept_mk, State.kept_fold, apply_ite State.kept, apply_ite Prod.snd, ite_self]; done)
    | split
    | dsimp only

theorem sieveReadOp_kept' {j : SieveJob} {s : State} {x' : _} {r' : State} (h' : sieveReadOp j s = (x', r')) : r'.kept = s.kept := by
  have k' := sieveReadOp_kept j s
  rw [h'] at k'
  exact k'

theorem sieveOp_kept (j : SieveJob) (s : State) : (sieveOp j s).2.kept = s.kept := by
  unfold sieveOp
  split <;> simp only [State.kept_mk, State.kept_fold, sieveWriteOp_kept, sieveInsertOp_kept, sieveFindOp_kept, sieveCtrlOp_kept, sieveReadOp_kept]

theorem sieveOp_kept' {j : SieveJob} {s : State} {x' : _} {r' : State} (h' : sieveOp j s = (x', r')) : r'.kept = s.kept := by
  have k' := sieveOp_kept j s
  rw [h'] at k'
  exact k'

theorem sieveBegin_kept (j : SieveJob) (s : State) : (sieveBegin j s).kept = s.kept := by
  unfold sieveBegin
  simp only [State.kept_mk, State.kept_fold, sieveOp_kept]

theorem sieveOffer_kept (j : SieveJob) (s : State) : (sieveOffer j s).kept = s.kept := by
  unfold sieveOffer
  simp only [State.kept_mk, State.kept_fold, apply_ite State.kept, ite_self, sieveBegin_kept]

theorem sieveCommand_kept (cmd : Word32) (s : State) : (sieveCommand cmd s).kept = s.kept := by
  unfold sieveCommand
  simp only [State.kept_mk, State.kept_fold, apply_ite State.kept, ite_self, regStore_kept, bump_kept, sieveOffer_kept]

theorem sieveRow_kept (op : Nat) (cmd : Word32) (s : State) : (sieveRow op cmd s).kept = s.kept := by
  unfold sieveRow
  simp only [State.kept_mk, State.kept_fold, apply_ite State.kept, ite_self, sieveCommand_kept]

theorem fillData_kept (e : SieveEntry) (s : State) : (fillData e s).kept = s.kept := by
  unfold fillData
  simp only [State.kept_foldl, implies_true, State.kept_mk, State.kept_fold, apply_ite State.kept, ite_self, regStore_kept]

theorem sieveReport_kept (a : SieveAnswer) (s : State) : (sieveReport a s).kept = s.kept := by
  unfold sieveReport
  repeat' first
    | with_reducible rfl
    | (simp only [State.kept_mk, State.kept_fold, apply_ite State.kept, ite_self, regStore_kept, cause_kept, stamp_kept, fillData_kept]; done)
    | split
    | dsimp only

theorem batchSieveDone_kept (n op : Nat) (a : SieveAnswer) (s : State) : (batchSieveDone n op a s).kept = s.kept := by
  unfold batchSieveDone
  simp only [State.kept_mk, State.kept_fold, apply_ite State.kept, ite_self, finishEntry_kept]

theorem sieveOpDone_kept (s : State) : (sieveOpDone s).kept = s.kept := by
  unfold sieveOpDone
  repeat' first
    | with_reducible rfl
    | (simp only [State.kept_mk, State.kept_fold, apply_ite State.kept, ite_self, sieveBegin_kept, sieveReport_kept, batchSieveDone_kept]; done)
    | split
    | dsimp only

theorem batchSieve_kept (n : Nat) (s : State) : (batchSieve n s).kept = s.kept := by
  unfold batchSieve
  split <;> simp only [State.kept_mk, State.kept_fold, State.modRing_kept, sieveOffer_kept]

/-! ### Accord -/

theorem accordSwap_kept (s : State) : (accordSwap s).kept = s.kept := by
  unfold accordSwap
  simp only [State.kept_mk, State.kept_fold, apply_ite State.kept, ite_self, cause_kept]

theorem swapBatch_kept (s : State) : (swapBatch s).kept = s.kept := by
  unfold swapBatch
  repeat' first
    | with_reducible rfl
    | (simp only [State.kept_mk, State.kept_fold, apply_ite State.kept, ite_self, finishEntry_kept]; done)
    | split
    | dsimp only

theorem accordTSwap_kept (s : State) : (accordTSwap s).kept = s.kept := by
  unfold accordTSwap
  repeat' first
    | with_reducible rfl
    | (simp only [State.kept_mk, State.kept_fold, apply_ite State.kept, ite_self, stampAt_kept, emit_kept, swapBatch_kept]; done)
    | split
    | dsimp only

theorem drainedBatch_kept (s : State) : (drainedBatch s).kept = s.kept := by
  unfold drainedBatch
  repeat' first
    | with_reducible rfl
    | (simp only [State.kept_mk, State.kept_fold, apply_ite State.kept, ite_self, finishEntry_kept]; done)
    | split
    | dsimp only

theorem accordDrained_kept (s : State) : (accordDrained s).kept = s.kept := by
  unfold accordDrained
  simp only [State.kept_mk, State.kept_fold, apply_ite State.kept, ite_self, cause_kept, stamp_kept, emit_kept, drainedBatch_kept]

theorem accordDrainTmo_kept (s : State) : (accordDrainTmo s).kept = s.kept := by
  unfold accordDrainTmo
  simp only [State.kept_mk, State.kept_fold, apply_ite State.kept, ite_self, cause_kept]

theorem batchSwap_kept (n : Nat) (s : State) : (batchSwap n s).kept = s.kept := by
  unfold batchSwap
  repeat' first
    | with_reducible rfl
    | (simp only [State.kept_mk, State.kept_fold, apply_ite State.kept, ite_self, State.modRing_kept, finishEntry_kept, accordSwap_kept]; done)
    | split
    | dsimp only

theorem batchWait_kept (n : Nat) (s : State) : (batchWait n s).kept = s.kept := by
  unfold batchWait
  repeat' first
    | with_reducible rfl
    | (simp only [State.kept_mk, State.kept_fold, apply_ite State.kept, ite_self, State.modRing_kept, finishEntry_kept]; done)
    | split
    | dsimp only

theorem batchTimeout_kept (n : Nat) (s : State) : (batchTimeout n s).kept = s.kept := by
  unfold batchTimeout
  repeat' first
    | with_reducible rfl
    | (simp only [State.kept_mk, State.kept_fold, apply_ite State.kept, ite_self, finishEntry_kept]; done)
    | split
    | dsimp only

/-! ### Vault -/

theorem noteVaultOp_kept (c : Nat) (k : VClass) (s : State) : (noteVaultOp c k s).kept = s.kept := by
  unfold noteVaultOp
  simp only [State.kept_foldl, implies_true, State.kept_mk, State.kept_fold, apply_ite State.kept, ite_self, State.modChan_kept, perf_kept]

theorem inOrder_kept (rank u : Nat) (s : State) : (inOrder rank u s).kept = s.kept := by
  unfold inOrder
  simp only [State.kept_foldl, implies_true, State.kept_mk, State.kept_fold, apply_ite State.kept, ite_self, State.modChan_kept, bump_kept, perf_kept]

theorem chanRead_kept (rank u : Nat) (k : VClass) (s : State) : (chanRead rank u k s).kept = s.kept := by
  unfold chanRead
  simp only [bump64_kept, perf_kept, noteVaultOp_kept, inOrder_kept]

theorem chanWrite_kept (rank u b : Nat) (k : VClass) (s : State) : (chanWrite rank u b k s).kept = s.kept := by
  unfold chanWrite
  simp only [State.modChan_kept, bump64_kept, perf_kept, noteVaultOp_kept]

theorem countRead_kept (a : Nat) (b : Nat) (k : VClass) (s : State) : (countRead a b k s).kept = s.kept := by
  unfold countRead
  simp only [State.kept_mk, State.kept_fold, apply_ite State.kept, ite_self, bump64_kept, chanRead_kept]

theorem countWrite_kept (a : Nat) (b : Nat) (k : VClass) (s : State) : (countWrite a b k s).kept = s.kept := by
  unfold countWrite
  simp only [State.kept_foldl, implies_true, State.kept_mk, State.kept_fold, apply_ite State.kept, ite_self, bump64_kept, chanWrite_kept]

theorem setOcc_kept (b n : Nat) (s : State) : (setOcc b n s).kept = s.kept := by
  unfold setOcc
  simp only [State.kept_mk, State.kept_fold, apply_ite State.kept, ite_self, State.modLedger_kept, cause_kept]

theorem occStep_kept (slot : Nat) (f : State → State) (s : State) (h : ∀ s, (f s).kept = s.kept) : (occStep slot f s).kept = s.kept := by
  unfold occStep
  dsimp only
  split <;> simp only [setOcc_kept, h]

theorem storeCell_kept (a : Nat) (cell : VCell) (s : State) : (storeCell a cell s).kept = s.kept := by
  unfold storeCell
  simp only [State.kept_foldl, implies_true, State.kept_mk, State.kept_fold, apply_ite State.kept, ite_self, State.modChan_kept]

theorem storeRecord_kept (a : Nat) (cell : VCell) (s : State) : (storeRecord a cell s).kept = s.kept := by
  unfold storeRecord
  repeat' first
    | with_reducible rfl
    | (simp only [State.kept_foldl, implies_true, State.kept_mk, State.kept_fold, apply_ite State.kept, apply_ite Prod.snd, ite_self, occStep_kept, storeCell_kept]; done)
    | split
    | dsimp only

theorem writeRecord_kept (a b : Nat) (k : VClass) (r : Rec) (s : State) : (writeRecord a b k r s).kept = s.kept := by
  unfold writeRecord
  simp only [countWrite_kept, storeRecord_kept]

theorem candidate_kept (rank why : Nat) (s : State) : (candidate rank why s).kept = s.kept := by
  unfold candidate
  simp only [State.kept_mk, State.kept_fold, apply_ite State.kept, ite_self, State.modChan_kept, cause_kept, stamp_kept, emit_kept]

theorem spareAbort_kept (s : State) : (spareAbort s).kept = s.kept := by
  unfold spareAbort
  simp only [State.kept_mk, State.kept_fold, cause_kept, emit_kept]

theorem rankLasting_kept (rank why : Nat) (s : State) : (rankLasting rank why s).kept = s.kept := by
  unfold rankLasting
  simp only [State.kept_foldl, implies_true, State.kept_mk, State.kept_fold, apply_ite State.kept, ite_self, candidate_kept, spareAbort_kept]

theorem aer_kept (i : Nat) (corr : Bool) (s : State) : (aer i corr s).kept = s.kept := by
  unfold aer
  simp only [State.kept_mk, State.kept_fold, emit_kept]

theorem aerInternal_kept (s : State) : (aerInternal s).kept = s.kept := by
  unfold aerInternal
  simp only [aer_kept]

theorem logUe_kept (info addr : Nat) (s : State) : (logUe info addr s).kept = s.kept := by
  unfold logUe
  simp only [regStore_kept, setPair_kept, stamp_kept]

theorem noteLasting_kept (rank a : Nat) (user : VaultAccess) (words : Nat) (s : State) : (noteLasting rank a user words s).kept = s.kept := by
  unfold noteLasting
  simp only [State.kept_mk, State.kept_fold, apply_ite State.kept, ite_self, bump_kept, tally_kept, cause_kept, emit_kept, candidate_kept, spareAbort_kept, logUe_kept]

theorem vaultLasting_kept (a : Nat) (user : VaultAccess) (words : Nat) (s : State) : (vaultLasting a user words s).kept = s.kept := by
  unfold vaultLasting
  simp only [storeRecord_kept, noteLasting_kept]

theorem noteTransient_kept (rank a : Nat) (user : VaultAccess) (words : Nat) (s : State) : (noteTransient rank a user words s).kept = s.kept := by
  unfold noteTransient
  simp only [bump_kept, emit_kept]

theorem countFix_kept (rank dev : Nat) (s : State) : (countFix rank dev s).kept = s.kept := by
  unfold countFix
  simp only [State.kept_mk, State.kept_fold, apply_ite State.kept, ite_self, State.modChan_kept, tally_kept, cause_kept, emit_kept, perf_kept, candidate_kept]

theorem refusePartial_kept (a lo : Nat) (host : Bool) (tellers : List (Nat × Nat)) (s : State) : (refusePartial a lo host tellers s).kept = s.kept := by
  unfold refusePartial
  simp only [State.kept_foldl, implies_true, State.kept_mk, State.kept_fold, apply_ite State.kept, ite_self, State.modTeller_kept, setPair_kept, bump_kept, cause_kept, emit_kept, aerInternal_kept]

theorem rmwRecord_kept (a : Nat) (m : Tbl Byte) (have_ : List Nat) (host : Bool) (tellers : List (Nat × Nat)) (s : State) : (rmwRecord a m have_ host tellers s).kept = s.kept := by
  unfold rmwRecord
  repeat' first
    | with_reducible rfl
    | (simp only [State.kept_mk, State.kept_fold, apply_ite State.kept, ite_self, bump_kept, countRead_kept, countWrite_kept, storeRecord_kept, refusePartial_kept]; done)
    | split
    | dsimp only

theorem closeMerge_kept (c : Nat) (e : MergeEntry) (s : State) : (closeMerge c e s).kept = s.kept := by
  unfold closeMerge
  simp only [State.kept_mk, State.kept_fold, apply_ite State.kept, ite_self, State.modChan_kept, bump_kept, countWrite_kept, storeRecord_kept, rmwRecord_kept]

theorem settleMerge_kept (a : Nat) (s : State) : (settleMerge a s).kept = s.kept := by
  unfold settleMerge
  repeat' first
    | with_reducible rfl
    | (simp only [State.kept_mk, State.kept_fold, apply_ite State.kept, ite_self, closeMerge_kept]; done)
    | split
    | dsimp only

theorem partialWrite_kept (a off : Nat) (data : List (Option Byte)) (host : Bool) (teller : Option (Nat × Nat)) (s : State) : (partialWrite a off data host teller s).kept = s.kept := by
  unfold partialWrite
  repeat' first
    | with_reducible rfl
    | (simp only [State.kept_mk, State.kept_fold, apply_ite State.kept, ite_self, State.modChan_kept, bump_kept, rmwRecord_kept, closeMerge_kept]; done)
    | split
    | dsimp only

theorem mergeExpiry_kept (c record : Nat) (s : State) : (mergeExpiry c record s).kept = s.kept := by
  unfold mergeExpiry
  repeat' first
    | with_reducible rfl
    | (simp only [State.kept_mk, State.kept_fold, apply_ite State.kept, ite_self, closeMerge_kept]; done)
    | split
    | dsimp only

theorem vaultRequestDone_kept (a : Nat) (user : VaultAccess) (noise retryNoise : Bytes) (s : State) : (vaultRequestDone a user noise retryNoise s).kept = s.kept := by
  unfold vaultRequestDone
  repeat' first
    | with_reducible rfl
    | (simp only [State.kept_foldl, implies_true, State.kept_mk, State.kept_fold, apply_ite State.kept, apply_ite Prod.snd, ite_self, bump_kept, bump64_kept, perf_kept, inOrder_kept, vaultLasting_kept, noteTransient_kept, countFix_kept, settleMerge_kept]; done)
    | split
    | dsimp only

theorem readRecord_kept (a b : Nat) (k : VClass) (s : State) : (readRecord a b k s).2.kept = s.kept := by
  unfold readRecord
  simp only [State.kept_mk, State.kept_fold, apply_ite State.kept, ite_self, bump_kept, countRead_kept, settleMerge_kept]

theorem readRecord_kept' {a b : Nat} {k : VClass} {s : State} {x' : _} {r' : State} (h' : readRecord a b k s = (x', r')) : r'.kept = s.kept := by
  have k' := readRecord_kept a b k s
  rw [h'] at k'
  exact k'

/-! ### Egress -/

theorem setFrame_kept (f : Nat) (x : Frame) (s : State) : (setFrame f x s).kept = s.kept := by
  rfl

theorem dropFrame_kept (f : Nat) (s : State) : (dropFrame f s).kept = s.kept := by
  rfl

theorem modFrame_kept (f : Nat) (g : Frame → Frame) (s : State) : (modFrame f g s).kept = s.kept := by
  unfold modFrame
  split <;> simp only [State.kept_mk, State.kept_fold, setFrame_kept]

theorem addRef_kept (f : Nat) (s : State) : (addRef f s).kept = s.kept := by
  unfold addRef
  simp only [modFrame_kept]

theorem release_kept (f : Nat) (s : State) : (release f s).kept = s.kept := by
  unfold release
  repeat' first
    | with_reducible rfl
    | (simp only [State.kept_mk, State.kept_fold, apply_ite State.kept, ite_self, perf_kept, fcUpdate_kept, setFrame_kept, dropFrame_kept]; done)
    | split
    | dsimp only

theorem setQueue_kept (n : Nat) (q : List Copy) (s : State) : (setQueue n q s).kept = s.kept := by
  rfl

theorem settleEmpty_kept (n : Nat) (s : State) : (settleEmpty n s).kept = s.kept := by
  unfold settleEmpty
  simp only [State.kept_mk, State.kept_fold, apply_ite State.kept, ite_self, State.setClass_kept]

theorem countCopy_kept (c : Copy) (code : Nat) (s : State) : (countCopy c code s).kept = s.kept := by
  unfold countCopy
  repeat' first
    | with_reducible rfl
    | (simp only [State.kept_mk, State.kept_fold, apply_ite State.kept, ite_self, dispose_kept]; done)
    | split
    | dsimp only

theorem discardCopy_kept (c : Copy) (code : Nat) (s : State) : (discardCopy c code s).kept = s.kept := by
  unfold discardCopy
  simp only [State.kept_mk, State.kept_fold, apply_ite State.kept, ite_self, bump_kept, cause_kept, release_kept, countCopy_kept]

theorem enqueue_kept (n : Nat) (c : Copy) (s : State) : (enqueue n c s).kept = s.kept := by
  unfold enqueue
  repeat' first
    | with_reducible rfl
    | (simp only [State.kept_mk, State.kept_fold, apply_ite State.kept, ite_self, bump_kept, cause_kept, perf_kept, release_kept, setQueue_kept, discardCopy_kept]; done)
    | split
    | dsimp only

theorem makeCopy_kept (n : Nat) (c : Copy) (s : State) : (makeCopy n c s).kept = s.kept := by
  unfold makeCopy
  simp only [addRef_kept, enqueue_kept]

theorem badTarget_kept (c : Copy) (s : State) : (badTarget c s).kept = s.kept := by
  unfold badTarget
  simp only [bump_kept, cause_kept, addRef_kept, discardCopy_kept]

theorem sendTo_kept (target q : Nat) (groups : Bool) (c : Copy) (s : State) : (sendTo target q groups c s).kept = s.kept := by
  unfold sendTo
  repeat' first
    | with_reducible rfl
    | (simp only [State.kept_foldl, implies_true, State.kept_mk, State.kept_fold, apply_ite State.kept, apply_ite Prod.snd, ite_self, perfN_kept, addRef_kept, discardCopy_kept, makeCopy_kept, badTarget_kept]; done)
    | split
    | dsimp only

theorem trySample_kept (f : Nat) (s : State) : (trySample f s).kept = s.kept := by
  unfold trySample
  repeat' first
    | with_reducible rfl
    | (simp only [State.kept_mk, State.kept_fold, apply_ite State.kept, ite_self, setFrame_kept, release_kept, makeCopy_kept]; done)
    | split
    | dsimp only

theorem passDone_kept (f : Nat) (info : CopyInfo) (s : State) : (passDone f info s).kept = s.kept := by
  unfold passDone
  simp only [modFrame_kept, release_kept, trySample_kept]

theorem dropPass_kept (d : Desc) (cls code : Nat) (s : State) : (dropPass d cls code s).kept = s.kept := by
  unfold dropPass
  simp only [dispose_kept, passDone_kept]

theorem puntPass_kept (d : Desc) (ring cls source reason : Nat) (s : State) : (puntPass d ring cls source reason s).kept = s.kept := by
  unfold puntPass
  simp only [makeCopy_kept, passDone_kept]

theorem mirrorPass_kept (d : Desc) (target q : Nat) (s : State) : (mirrorPass d target q s).kept = s.kept := by
  unfold mirrorPass
  simp only [sendTo_kept]

theorem setPolicer_kept (k : Nat) (x : Policer) (s : State) : (setPolicer k x s).kept = s.kept := by
  rfl

theorem police_kept (b i : Nat) (d : Desc) (s : State) : (police b i d s).2.kept = s.kept := by
  unfold police
  repeat' first
    | with_reducible rfl
    | (simp only [State.kept_mk, State.kept_fold, apply_ite State.kept, ite_self, perf_kept, setFrame_kept, setPolicer_kept]; done)
    | split
    | dsimp only

theorem police_kept' {b i : Nat} {d : Desc} {s : State} {x' : _} {r' : State} (h' : police b i d s = (x', r')) : r'.kept = s.kept := by
  have k' := police_kept b i d s
  rw [h'] at k'
  exact k'

theorem forwardPass_kept (d : Desc) (a : Word64) (params : List Word64) (s : State) : (forwardPass d a params s).kept = s.kept := by
  unfold forwardPass
  simp only [sendTo_kept, passDone_kept]

theorem takeAction_kept (d : Desc) (a : Word64) (params : List Word64) (s : State) : (takeAction d a params s).kept = s.kept := by
  unfold takeAction
  simp only [State.kept_mk, State.kept_fold, apply_ite State.kept, ite_self, dropPass_kept, puntPass_kept, forwardPass_kept]

theorem policeAction_kept (b : Nat) (d : Desc) (a : Word64) (s : State) : (policeAction b d a s).2.kept = s.kept := by
  unfold policeAction
  split <;> simp only [State.kept_mk, State.kept_fold, police_kept]

theorem policeAction_kept' {b : Nat} {d : Desc} {a : Word64} {s : State} {x' : _} {r' : State} (h' : policeAction b d a s = (x', r')) : r'.kept = s.kept := by
  have k' := policeAction_kept b d a s
  rw [h'] at k'
  exact k'

theorem applyAction_kept (b : Nat) (d : Desc) (a : Word64) (params : List Word64) (s : State) : (applyAction b d a params s).kept = s.kept := by
  unfold applyAction
  simp only [State.kept_mk, State.kept_fold, apply_ite State.kept, ite_self, dropPass_kept, takeAction_kept, policeAction_kept]

/-! ### Link -/

theorem freshTeth_kept (s : State) : (freshTeth s).kept = s.kept := by
  rfl

theorem linkOut_kept (kind seq : Nat) (payload : Bytes) (s : State) : (linkOut kind seq payload s).kept = s.kept := by
  unfold linkOut
  simp only [State.kept_mk, State.kept_fold, perf_kept]

theorem linkReply_kept (seq : Nat) (ok : Bool) (s : State) : (linkReply seq ok s).kept = s.kept := by
  rfl

theorem linkSend_kept (kind : Nat) (payload : Bytes) (s : State) : (linkSend kind payload s).kept = s.kept := by
  unfold linkSend
  simp only [State.kept_mk, State.kept_fold, apply_ite State.kept, ite_self, linkOut_kept]

/-! ### Items -/

theorem notePeak_kept (b : Nat) (s : State) : (notePeak b s).kept = s.kept := by
  unfold notePeak
  simp only [peak_kept]

theorem trace_kept (b k : Nat) (i : Item) (teller : Nat) (pref : Option Nat) (s : State) : (trace b k i teller pref s).kept = s.kept := by
  unfold trace
  simp only [State.kept_mk, State.kept_fold, apply_ite State.kept, ite_self, State.modDisp_kept, emit_kept]

theorem addItem_kept (b : Nat) (i : Item) (s : State) : (addItem b i s).kept = s.kept := by
  unfold addItem
  repeat' first
    | with_reducible rfl
    | (simp only [State.kept_foldl, implies_true, State.kept_mk, State.kept_fold, apply_ite State.kept, apply_ite Prod.snd, ite_self, State.setDisp_kept, notePeak_kept]; done)
    | split
    | dsimp only

theorem noteWaiting_kept (b : Nat) (i : Item) (f : Nat) (s : State) : (noteWaiting b i f s).kept = s.kept := by
  unfold noteWaiting
  simp only [bump_kept, perf_kept, modFrame_kept, trace_kept]

theorem addStateless_kept (b : Nat) (d : Desc) (a : Word64) (reclass : Bool) (s : State) : (addStateless b d a reclass s).kept = s.kept := by
  unfold addStateless
  simp only [State.kept_mk, State.kept_fold, apply_ite State.kept, ite_self, addItem_kept, noteWaiting_kept]

theorem noteStall_kept (b : Nat) (i : Item) (s : State) : (noteStall b i s).kept = s.kept := by
  unfold noteStall
  simp only [cause_kept, trace_kept]

theorem noteRefused_kept (b : Nat) (i : Item) (s : State) : (noteRefused b i s).kept = s.kept := by
  unfold noteRefused
  simp only [bump_kept, cause_kept, trace_kept]

theorem offerMaint_kept (b routine : Nat) (kind : ItemFor) (hash arg : Word64) (s : State) : (offerMaint b routine kind hash arg s).2.kept = s.kept := by
  unfold offerMaint
  repeat' first
    | with_reducible rfl
    | (simp only [State.kept_mk, State.kept_fold, apply_ite State.kept, ite_self, trace_kept, addItem_kept]; done)
    | split
    | dsimp only

theorem offerMaint_kept' {b routine : Nat} {kind : ItemFor} {hash arg : Word64} {s : State} {x' : _} {r' : State} (h' : offerMaint b routine kind hash arg s = (x', r')) : r'.kept = s.kept := by
  have k' := offerMaint_kept b routine kind hash arg s
  rw [h'] at k'
  exact k'

theorem setCofferWord_kept (i : Nat) (v : Word64) (s : State) : (setCofferWord i v s).kept = s.kept := by
  rfl

theorem exportItem_kept (b : Nat) (n : Snapshot) (s : State) : (exportItem b n s).2.kept = s.kept := by
  unfold exportItem
  repeat' first
    | with_reducible rfl
    | (simp only [State.kept_mk, State.kept_fold, apply_ite State.kept, ite_self, offerMaint_kept]; done)
    | split
    | dsimp only

theorem exportItem_kept' {b : Nat} {n : Snapshot} {s : State} {x' : _} {r' : State} (h' : exportItem b n s = (x', r')) : r'.kept = s.kept := by
  have k' := exportItem_kept b n s
  rw [h'] at k'
  exact k'

theorem storeSnapshot_kept (i : Nat) (rc : Rec) (s : State) : (storeSnapshot i rc s).kept = s.kept := by
  unfold storeSnapshot
  simp only [State.kept_foldl, implies_true, apply_ite State.kept, ite_self, cause_kept, setCofferWord_kept]

theorem exportRecord_kept (b : Nat) (hash : Word64) (r : Rec) (expired : Bool) (s : State) : (exportRecord b hash r expired s).kept = s.kept := by
  unfold exportRecord
  simp only [State.kept_foldl, implies_true, State.kept_mk, State.kept_fold, apply_ite State.kept, ite_self, State.modLedger_kept, bump_kept, emit_kept, storeSnapshot_kept, exportItem_kept]

theorem exportOnClose_kept (b : Nat) (hash : Word64) (r : Rec) (expired : Bool) (s : State) : (exportOnClose b hash r expired s).kept = s.kept := by
  unfold exportOnClose
  simp only [State.kept_mk, State.kept_fold, apply_ite State.kept, ite_self, exportRecord_kept]

theorem mirrorSend_kept (b type : Nat) (hash : Word64) (r : Rec) (s : State) : (mirrorSend b type hash r s).kept = s.kept := by
  unfold mirrorSend
  simp only [State.kept_mk, State.kept_fold, apply_ite State.kept, ite_self, bump_kept, cause_kept, emit_kept]

theorem mirrorEvent_kept (b e : Nat) (hash : Word64) (r : Rec) (s : State) : (mirrorEvent b e hash r s).2.kept = s.kept := by
  unfold mirrorEvent
  split <;> simp only [State.kept_mk, State.kept_fold, mirrorSend_kept]

theorem mirrorEvent_kept' {b e : Nat} {hash : Word64} {r : Rec} {s : State} {x' : _} {r' : State} (h' : mirrorEvent b e hash r s = (x', r')) : r'.kept = s.kept := by
  have k' := mirrorEvent_kept b e hash r s
  rw [h'] at k'
  exact k'

/-! ### Till -/

theorem setWay_kept (b k : Nat) (w : Way) (s : State) : (setWay b k w s).kept = s.kept := by
  unfold setWay
  simp only [State.modLedger_kept]

theorem dropWay_kept (b k : Nat) (s : State) : (dropWay b k s).kept = s.kept := by
  unfold dropWay
  simp only [State.modLedger_kept]

theorem modWay_kept (b k : Nat) (f : Way → Way) (s : State) : (modWay b k f s).kept = s.kept := by
  unfold modWay
  split <;> simp only [State.kept_mk, State.kept_fold, setWay_kept]

theorem touchWay_kept (b k : Nat) (s : State) : (touchWay b k s).kept = s.kept := by
  unfold touchWay
  simp only [State.modLedger_kept]

theorem unclaim_kept (b k : Nat) (s : State) : (unclaim b k s).kept = s.kept := by
  unfold unclaim
  repeat' first
    | with_reducible rfl
    | (simp only [State.kept_foldl, implies_true, State.kept_mk, State.kept_fold, apply_ite State.kept, apply_ite Prod.snd, ite_self, occStep_kept, modWay_kept]; done)
    | split
    | dsimp only

theorem unflush_kept (b k : Nat) (s : State) : (unflush b k s).kept = s.kept := by
  unfold unflush
  simp only [State.modLedger_kept]

theorem writeBack_kept (b k : Nat) (s : State) : (writeBack b k s).kept = s.kept := by
  unfold writeBack
  repeat' first
    | with_reducible rfl
    | (simp only [State.kept_mk, State.kept_fold, apply_ite State.kept, ite_self, bump_kept, perf_kept, countWrite_kept, storeRecord_kept, modWay_kept, unclaim_kept, unflush_kept]; done)
    | split
    | dsimp only

theorem evict_kept (b k : Nat) (s : State) : (evict b k s).kept = s.kept := by
  unfold evict
  split <;> simp only [State.kept_mk, State.kept_fold, bump_kept, perf_kept, dropWay_kept, writeBack_kept]

theorem pinWay_kept (b k : Nat) (s : State) : (pinWay b k s).kept = s.kept := by
  unfold pinWay
  repeat' first
    | with_reducible rfl
    | (simp only [State.kept_mk, State.kept_fold, apply_ite State.kept, ite_self, bump_kept, cause_kept, setWay_kept]; done)
    | split
    | dsimp only

theorem closeWay_kept (b k : Nat) (expired applied : Bool) (s : State) : (closeWay b k expired applied s).kept = s.kept := by
  unfold closeWay
  repeat' first
    | with_reducible rfl
    | (simp only [State.kept_mk, State.kept_fold, apply_ite State.kept, ite_self, bump_kept, exportOnClose_kept, mirrorEvent_kept, setWay_kept, modWay_kept]; done)
    | split
    | dsimp only

theorem noteState_kept (b : Nat) (hash : Word64) (r : Rec) (s : State) : (noteState b hash r s).kept = s.kept := by
  unfold noteState
  simp only [State.kept_mk, State.kept_fold, apply_ite State.kept, ite_self, cause_kept, emit_kept]

theorem closeSlot_kept (b slot : Nat) (r : Rec) (k : VClass) (s : State) : (closeSlot b slot r k s).kept = s.kept := by
  unfold closeSlot
  simp only [bump_kept, writeRecord_kept, exportOnClose_kept, mirrorEvent_kept]

theorem putWay_kept (b k : Nat) (f : Fill) (s : State) : (putWay b k f s).kept = s.kept := by
  unfold putWay
  simp only [State.modLedger_kept, setWay_kept, touchWay_kept, pinWay_kept]

theorem install_kept' {b k : Nat} {hash : Word64} {f : Fill} {s s' : State} (h : install b hash f s = some (k, s')) : s'.kept = s.kept := by
  unfold install at h
  dsimp only at h
  cases hv : victim s b (tillSet hash) with
  | none => rw [hv] at h; cases h
  | some i =>
    rw [hv] at h
    cases h
    simp only [putWay_kept, evict_kept]

theorem noteNoway_kept (b : Nat) (s : State) : (noteNoway b s).kept = s.kept := by
  unfold noteNoway
  simp only [bump_kept, cause_kept]

theorem visit_kept (b k : Nat) (d : Desc) (s : State) : (visit b k d s).kept = s.kept := by
  unfold visit
  repeat' first
    | with_reducible rfl
    | (simp only [State.kept_mk, State.kept_fold, apply_ite State.kept, ite_self, setFrame_kept, mirrorSend_kept, setWay_kept, modWay_kept]; done)
    | split
    | dsimp only

theorem tailAdd_kept (len : Nat) (a : TailAdd) (s : State) : (tailAdd len a s).kept = s.kept := by
  unfold tailAdd
  split <;> simp only [State.kept_mk, State.kept_fold, modWay_kept]

theorem lockWay_kept (b k t : Nat) (s : State) : (lockWay b k t s).kept = s.kept := by
  unfold lockWay
  simp only [modWay_kept]

theorem unlockWay_kept (b k : Nat) (s : State) : (unlockWay b k s).kept = s.kept := by
  unfold unlockWay
  simp only [modWay_kept]

theorem lockAlarm_kept (b k : Nat) (s : State) : (lockAlarm b k s).kept = s.kept := by
  unfold lockAlarm
  repeat' first
    | with_reducible rfl
    | (simp only [State.kept_mk, State.kept_fold, apply_ite State.kept, ite_self, bump_kept, cause_kept, emit_kept, setWay_kept]; done)
    | split
    | dsimp only

theorem durableBack_kept (b k : Nat) (s : State) : (durableBack b k s).kept = s.kept := by
  unfold durableBack
  repeat' first
    | with_reducible rfl
    | (simp only [State.kept_mk, State.kept_fold, apply_ite State.kept, ite_self, bump_kept, writeBack_kept]; done)
    | split
    | dsimp only

theorem durableExpiry_kept (b k : Nat) (s : State) : (durableExpiry b k s).kept = s.kept := by
  unfold durableExpiry
  repeat' first
    | with_reducible rfl
    | (simp only [State.kept_mk, State.kept_fold, apply_ite State.kept, ite_self, durableBack_kept]; done)
    | split
    | dsimp only

theorem writeBackAll_kept (b : Nat) (s : State) : (writeBackAll b s).kept = s.kept := by
  unfold writeBackAll
  simp only [State.kept_foldl, implies_true, State.kept_mk, State.kept_fold, apply_ite State.kept, ite_self, writeBack_kept]

theorem brownoutFlush_kept (s : State) : (brownoutFlush s).kept = s.kept := by
  unfold brownoutFlush
  simp only [State.kept_foldl, implies_true, State.kept_mk, State.kept_fold, apply_ite State.kept, ite_self, durableBack_kept]

theorem flushStart_kept (b : Nat) (v : Word32) (s : State) : (flushStart b v s).kept = s.kept := by
  unfold flushStart
  simp only [State.kept_mk, State.kept_fold, apply_ite State.kept, ite_self, State.modLedger_kept, setField_kept]

theorem flushDone_kept (b : Nat) (s : State) : (flushDone b s).kept = s.kept := by
  unfold flushDone
  repeat' first
    | with_reducible rfl
    | (simp only [State.kept_foldl, implies_true, State.kept_mk, State.kept_fold, apply_ite State.kept, apply_ite Prod.snd, ite_self, State.modLedger_kept, cause_kept, stamp_kept, writeBack_kept]; done)
    | split
    | dsimp only

theorem occLimitWrite_kept (v : Word32) (s : State) : (occLimitWrite v s).kept = s.kept := by
  unfold occLimitWrite
  simp only [State.kept_foldl, implies_true, State.kept_mk, State.kept_fold, apply_ite State.kept, ite_self, setField_kept, cause_kept]

/-! ### Slots -/

theorem testSlot_kept (b slot : Nat) (k : VClass) (hash : Word64) (key : Ckey) (t : Nat) (s : State) : (testSlot b slot k hash key t s).2.kept = s.kept := by
  unfold testSlot
  repeat' first
    | with_reducible rfl
    | (simp only [implies_true, State.kept_foldl2, State.kept_foldl3, Decision.state_ite, Decision.state_done, Decision.state_full, Decision.state_noroom, ScanIssue.state_ite, ScanIssue.state_done, ScanIssue.state_wait, State.kept_mk, State.kept_fold, State.kept_foldl, apply_ite State.kept, apply_ite Prod.snd, apply_ite EntryStep.state, EntryStep.state_served, EntryStep.state_searched, EntryStep.state_refused, EntryStep.state_wait, EntryStep.state_hold, ite_self, bump_kept, readRecord_kept, noteState_kept, closeSlot_kept]; done)
    | split
    | dsimp only
    | ((try have h0 := readRecord_kept' ‹_›); simp only [implies_true, State.kept_foldl2, State.kept_foldl3, Decision.state_ite, Decision.state_done, Decision.state_full, Decision.state_noroom, ScanIssue.state_ite, ScanIssue.state_done, ScanIssue.state_wait, State.kept_mk, State.kept_fold, State.kept_foldl, apply_ite State.kept, apply_ite Prod.snd, apply_ite EntryStep.state, EntryStep.state_served, EntryStep.state_searched, EntryStep.state_refused, EntryStep.state_wait, EntryStep.state_hold, ite_self, bump_kept, readRecord_kept, noteState_kept, closeSlot_kept, *]; done)

theorem testSlot_kept' {b slot : Nat} {k : VClass} {hash : Word64} {key : Ckey} {t : Nat} {s : State} {x' : _} {r' : State} (h' : testSlot b slot k hash key t s = (x', r')) : r'.kept = s.kept := by
  have k' := testSlot_kept b slot k hash key t s
  rw [h'] at k'
  exact k'

theorem lostRead_kept (b slot : Nat) (k : VClass) (s : State) : (lostRead b slot k s).2.kept = s.kept := by
  unfold lostRead
  simp only [bump_kept, countRead_kept]

theorem lostRead_kept' {b slot : Nat} {k : VClass} {s : State} {x' : _} {r' : State} (h' : lostRead b slot k s = (x', r')) : r'.kept = s.kept := by
  have k' := lostRead_kept b slot k s
  rw [h'] at k'
  exact k'

theorem searchBoth_kept (b : Nat) (k : VClass) (hash : Word64) (key : Ckey) (t : Nat) (s : State) :
    (searchBoth b k hash key t s).2.2.kept = s.kept := by
  unfold searchBoth
  dsimp only
  cases (testSlot b (cands s hash).1 k hash key t s).1 <;> dsimp only
  · exact testSlot_kept ..
  · exact testSlot_kept ..
  all_goals
    cases (testSlot b (cands s hash).2 k hash key t (testSlot b (cands s hash).1 k hash key t s).2).1 <;>
      exact (testSlot_kept ..).trans (testSlot_kept ..)

theorem searchBoth_kept' {b : Nat} {k : VClass} {hash : Word64} {key : Ckey} {t : Nat} {s : State} {x' : _} {y' : _} {r' : State} (h' : searchBoth b k hash key t s = (x', y', r')) : r'.kept = s.kept := by
  have k' := searchBoth_kept b k hash key t s
  rw [h'] at k'
  exact k'

theorem leaveSlot_kept (b k t : Nat) (s : State) : (leaveSlot b k t s).kept = s.kept := by
  unfold leaveSlot
  repeat' first
    | with_reducible rfl
    | (simp only [State.kept_mk, State.kept_fold, apply_ite State.kept, ite_self, modWay_kept, closeWay_kept]; done)
    | split
    | dsimp only

theorem vacate_kept (b slot t : Nat) (v : VClass) (s : State) : (vacate b slot t v s).kept = s.kept := by
  unfold vacate
  repeat' first
    | with_reducible rfl
    | (simp only [State.kept_foldl, implies_true, State.kept_mk, State.kept_fold, apply_ite State.kept, apply_ite Prod.snd, ite_self, closeSlot_kept, leaveSlot_kept]; done)
    | split
    | dsimp only

theorem placeSlot_kept (b : Nat) (hash : Word64) (key : Ckey) (t : Nat) (v : VClass) (s : State) : (placeSlot b hash key t v s).2.kept = s.kept := by
  unfold placeSlot
  repeat' first
    | with_reducible rfl
    | (simp only [State.kept_mk, State.kept_fold, apply_ite State.kept, ite_self, vacate_kept]; done)
    | split
    | dsimp only

theorem placeSlot_kept' {b : Nat} {hash : Word64} {key : Ckey} {t : Nat} {v : VClass} {s : State} {x' : _} {r' : State} (h' : placeSlot b hash key t v s = (x', r')) : r'.kept = s.kept := by
  have k' := placeSlot_kept b hash key t v s
  rw [h'] at k'
  exact k'

theorem reuseSlot_kept (b k : Nat) (w : Way) (t : Nat) (v : VClass) (s : State) : (reuseSlot b k w t v s).2.kept = s.kept := by
  unfold reuseSlot
  repeat' first
    | with_reducible rfl
    | (simp only [State.kept_foldl, implies_true, State.kept_mk, State.kept_fold, apply_ite State.kept, apply_ite Prod.snd, ite_self, leaveSlot_kept, placeSlot_kept]; done)
    | split
    | dsimp only

theorem reuseSlot_kept' {b k : Nat} {w : Way} {t : Nat} {v : VClass} {s : State} {x' : _} {r' : State} (h' : reuseSlot b k w t v s = (x', r')) : r'.kept = s.kept := by
  have k' := reuseSlot_kept b k w t v s
  rw [h'] at k'
  exact k'

theorem leaveTill_kept (b k t : Nat) (s : State) : (leaveTill b k t s).kept = s.kept := by
  unfold leaveTill
  repeat' first
    | with_reducible rfl
    | (simp only [State.kept_foldl, implies_true, State.kept_mk, State.kept_fold, apply_ite State.kept, apply_ite Prod.snd, ite_self, dropWay_kept, closeWay_kept]; done)
    | split
    | dsimp only

theorem newClaim_kept (b : Nat) (s : State) : (newClaim b s).2.kept = s.kept := by
  unfold newClaim
  repeat' first
    | with_reducible rfl
    | (simp only [State.kept_mk, State.kept_fold, apply_ite State.kept, ite_self, State.modLedger_kept, bump_kept, cause_kept, writeBack_kept]; done)
    | split
    | dsimp only

theorem newClaim_kept' {b : Nat} {s : State} {x' : _} {r' : State} (h' : newClaim b s = (x', r')) : r'.kept = s.kept := by
  have k' := newClaim_kept b s
  rw [h'] at k'
  exact k'

theorem refillTokens_kept (b : Nat) (s : State) : (refillTokens b s).kept = s.kept := by
  unfold refillTokens
  simp only [State.modLedger_kept]

theorem takeToken_kept (b : Nat) (s : State) : (takeToken b s).2.kept = s.kept := by
  unfold takeToken
  repeat' first
    | with_reducible rfl
    | (simp only [State.kept_mk, State.kept_fold, apply_ite State.kept, ite_self, State.modLedger_kept, refillTokens_kept]; done)
    | split
    | dsimp only

theorem takeToken_kept' {b : Nat} {s : State} {x' : _} {r' : State} (h' : takeToken b s = (x', r')) : r'.kept = s.kept := by
  have k' := takeToken_kept b s
  rw [h'] at k'
  exact k'

theorem setupBurstWrite_kept (b : Nat) (v : Word32) (s : State) : (setupBurstWrite b v s).kept = s.kept := by
  unfold setupBurstWrite
  simp only [State.modLedger_kept, setField_kept, refillTokens_kept]

theorem noteSetup_kept (b : Nat) (s : State) : (noteSetup b s).kept = s.kept := by
  unfold noteSetup
  simp only [bump64_kept, perf_kept]

theorem noteStateLost_kept (b : Nat) (hash : Word64) (slot : Nat) (s : State) : (noteStateLost b hash slot s).kept = s.kept := by
  unfold noteStateLost
  simp only [bump_kept, cause_kept, emit_kept]

theorem mirrorSetup_kept (b k : Nat) (s : State) : (mirrorSetup b k s).kept = s.kept := by
  unfold mirrorSetup
  repeat' first
    | with_reducible rfl
    | (simp only [State.kept_mk, State.kept_fold, apply_ite State.kept, ite_self, mirrorEvent_kept, modWay_kept]; done)
    | split
    | dsimp only

/-! ### Allow -/

theorem noteAllowance_kept (u what amount : Nat) (s : State) : (noteAllowance u what amount s).kept = s.kept := by
  unfold noteAllowance
  simp only [emit_kept]

theorem refuseAllowance_kept (u amount : Nat) (s : State) : (refuseAllowance u amount s).kept = s.kept := by
  unfold refuseAllowance
  simp only [bump_kept, cause_kept, noteAllowance_kept]

theorem grantAllowance_kept (u a : Nat) (s : State) : (grantAllowance u a s).kept = s.kept := by
  unfold grantAllowance
  simp only [State.kept_mk, State.kept_fold, State.setUser_kept, noteAllowance_kept]

theorem requestAllowance_kept (u a : Nat) (s : State) : (requestAllowance u a s).kept = s.kept := by
  unfold requestAllowance
  simp only [State.kept_mk, State.kept_fold, apply_ite State.kept, ite_self, State.setUser_kept, refuseAllowance_kept, grantAllowance_kept]

theorem grantHead_kept (s : State) : (grantHead s).kept = s.kept := by
  unfold grantHead
  repeat' first
    | with_reducible rfl
    | (simp only [State.kept_mk, State.kept_fold, apply_ite State.kept, ite_self, grantAllowance_kept]; done)
    | split
    | dsimp only

theorem dropAllowance_kept (u : Nat) (s : State) : (dropAllowance u s).kept = s.kept := by
  unfold dropAllowance
  simp only [State.kept_mk, State.kept_fold, apply_ite State.kept, ite_self, State.setUser_kept]

theorem returnAllowance_kept (u : Nat) (s : State) : (returnAllowance u s).kept = s.kept := by
  unfold returnAllowance
  split <;> simp only [State.kept_mk, State.kept_fold, State.setUser_kept, noteAllowance_kept, dropAllowance_kept]

theorem revokeAllowance_kept (u : Nat) (s : State) : (revokeAllowance u s).kept = s.kept := by
  unfold revokeAllowance
  simp only [bump_kept, cause_kept, noteAllowance_kept, dropAllowance_kept]

theorem revokeToFit_kept (n : Nat) (s : State) : (revokeToFit n s).kept = s.kept := by
  induction n generalizing s with
  | zero => rfl
  | succ n ih =>
    rw [revokeToFit]
    dsimp only
    split
    · rfl
    · split <;> simp only [ih, revokeAllowance_kept]

theorem revokeAll_kept (n : Nat) (s : State) : (revokeAll n s).kept = s.kept := by
  induction n generalizing s with
  | zero => rfl
  | succ n ih =>
    rw [revokeAll]
    split
    · simp only [ih, revokeAllowance_kept]
    · simp only [State.kept_foldl, refuseAllowance_kept, State.setUser_kept, implies_true, State.kept_mk, State.kept_fold]

theorem slewStep_kept (s : State) : (slewStep s).kept = s.kept := by
  unfold slewStep
  repeat' first
    | with_reducible rfl
    | (simp only [State.kept_mk, State.kept_fold, apply_ite State.kept, ite_self, State.setUser_kept]; done)
    | split
    | dsimp only

/-! ### VaultQueue -/

theorem drainWrite_kept (c : Nat) (s : State) : (drainWrite c s).kept = s.kept := by
  unfold drainWrite
  repeat' first
    | with_reducible rfl
    | (simp only [State.kept_foldl, implies_true, State.kept_mk, State.kept_fold, apply_ite State.kept, apply_ite Prod.snd, ite_self, State.setChan_kept]; done)
    | split
    | dsimp only

theorem drainWrites_kept (s : State) : (drainWrites s).kept = s.kept := by
  unfold drainWrites
  simp only [State.kept_foldl, implies_true, State.kept_mk, State.kept_fold, apply_ite State.kept, ite_self, drainWrite_kept]

/-! ### Errors -/

theorem sramEvent_kept (mem branch addr : Nat) (e : EccResult) (s : State) : (sramEvent mem branch addr e s).kept = s.kept := by
  unfold sramEvent
  split <;> simp only [State.kept_mk, State.kept_fold, tally_kept, cause_kept, emit_kept, logUe_kept]

theorem sramRead_kept (mem : Nat) (r : SramRead) (s : State) : (sramRead mem r s).2.kept = s.kept := by
  unfold sramRead
  simp only [sramEvent_kept]

theorem sramRead_kept' {mem : Nat} {r : SramRead} {s : State} {x' : _} {r' : State} (h' : sramRead mem r s = (x', r')) : r'.kept = s.kept := by
  have k' := sramRead_kept mem r s
  rw [h'] at k'
  exact k'

theorem Page.readWord_kept (g : Page) (flips : List WordFlips) (i : Nat) (s : State) (hp : ∀ i w s, (g.put i w s).kept = s.kept)
    (hl : ∀ i s, (g.lose i s).kept = s.kept) : (g.readWord flips i s).kept = s.kept := by
  unfold Page.readWord
  repeat' first
    | with_reducible rfl
    | (simp only [sramEvent_kept, hp, hl, apply_ite State.kept, ite_self]; done)
    | split

theorem Page.readAll_kept (g : Page) (flips : List WordFlips) (s : State) (hp : ∀ i w s, (g.put i w s).kept = s.kept)
    (hl : ∀ i s, (g.lose i s).kept = s.kept) : (g.readAll flips s).kept = s.kept :=
  State.kept_foldl _ (fun t i => Page.readWord_kept g flips i t hp hl) _ _

theorem complete_kept (data : Bytes) (s : State) : (complete data s).kept = s.kept := by
  rfl

theorem unsupported_kept (s : State) : (unsupported s).kept = s.kept := by
  rfl

theorem modMem_kept (t op : Nat) (f : MemOp → MemOp) (s : State) : (modMem t op f s).kept = s.kept := by
  unfold modMem
  simp only [State.modTeller_kept]

theorem dropMem_kept (t op : Nat) (s : State) : (dropMem t op s).kept = s.kept := by
  unfold dropMem
  simp only [State.modTeller_kept]

theorem answerCoffer_kept (q : CofferReq) (v : Word64) (s : State) : (answerCoffer q v s).kept = s.kept := by
  unfold answerCoffer
  simp only [modMem_kept]

theorem poisonCoffer_kept (q : CofferReq) (s : State) : (poisonCoffer q s).kept = s.kept := by
  unfold poisonCoffer
  simp only [modMem_kept]

theorem endStore_kept (q : CofferReq) (s : State) : (endStore q s).kept = s.kept := by
  unfold endStore
  simp only [State.kept_mk, State.kept_fold, apply_ite State.kept, ite_self, dropMem_kept]

theorem roundStep_kept (old : Option Word64) (q : CofferReq) (cur : Option Word64) (s : State) : (roundStep old q cur s).2.kept = s.kept := by
  unfold roundStep
  repeat' first
    | with_reducible rfl
    | (simp only [State.kept_mk, State.kept_fold, apply_ite State.kept, ite_self, modMem_kept, answerCoffer_kept, poisonCoffer_kept, endStore_kept]; done)
    | split
    | dsimp only

theorem roundStep_kept' {old : Option Word64} {q : CofferReq} {cur : Option Word64} {s : State} {x' : _} {r' : State} (h' : roundStep old q cur s = (x', r')) : r'.kept = s.kept := by
  have k' := roundStep_kept old q cur s
  rw [h'] at k'
  exact k'

theorem cofferStore_kept (i : Nat) (v : Option Word64) (s : State) : (cofferStore i v s).kept = s.kept := by
  unfold cofferStore
  repeat' first
    | with_reducible rfl
    | (simp only [State.kept_mk, State.kept_fold, apply_ite State.kept, ite_self, setCofferWord_kept]; done)
    | split
    | dsimp only

theorem cofferRead_kept (i : Nat) (flips : List WordFlips) (s : State) : (cofferRead i flips s).2.kept = s.kept := by
  unfold cofferRead
  dsimp only
  split
  · exact Page.readAll_kept _ _ _ (fun _ _ _ => setCofferWord_kept ..) fun _ _ => cofferStore_kept ..
  · exact Page.readWord_kept _ _ _ _ (fun _ _ _ => setCofferWord_kept ..) fun _ _ => cofferStore_kept ..

theorem cofferRead_kept' {i : Nat} {flips : List WordFlips} {s : State} {x' : _} {r' : State} (h' : cofferRead i flips s = (x', r')) : r'.kept = s.kept := by
  have k' := cofferRead_kept i flips s
  rw [h'] at k'
  exact k'

theorem cofferRoundOn_kept (i : Nat) (flips : List WordFlips) (reads : Bool) (soft : Option Word64 → Option Word64) (s : State) : (cofferRoundOn i flips reads soft s).2.kept = s.kept := by
  unfold cofferRoundOn
  repeat' first
    | with_reducible rfl
    | (simp only [implies_true, State.kept_foldl2, State.kept_foldl3, Decision.state_ite, Decision.state_done, Decision.state_full, Decision.state_noroom, ScanIssue.state_ite, ScanIssue.state_done, ScanIssue.state_wait, State.kept_mk, State.kept_fold, State.kept_foldl, apply_ite State.kept, apply_ite Prod.snd, apply_ite EntryStep.state, EntryStep.state_served, EntryStep.state_searched, EntryStep.state_refused, EntryStep.state_wait, EntryStep.state_hold, ite_self, roundStep_kept, cofferStore_kept, cofferRead_kept]; done)
    | split
    | dsimp only
    | ((try have h0 := roundStep_kept' ‹_›; try have h1 := cofferRead_kept' ‹_›); simp only [implies_true, State.kept_foldl2, State.kept_foldl3, Decision.state_ite, Decision.state_done, Decision.state_full, Decision.state_noroom, ScanIssue.state_ite, ScanIssue.state_done, ScanIssue.state_wait, State.kept_mk, State.kept_fold, State.kept_foldl, apply_ite State.kept, apply_ite Prod.snd, apply_ite EntryStep.state, EntryStep.state_served, EntryStep.state_searched, EntryStep.state_refused, EntryStep.state_wait, EntryStep.state_hold, ite_self, roundStep_kept, cofferStore_kept, cofferRead_kept, *]; done)

theorem cofferRoundOn_kept' {i : Nat} {flips : List WordFlips} {reads : Bool} {soft : Option Word64 → Option Word64} {s : State} {x' : _} {r' : State} (h' : cofferRoundOn i flips reads soft s = (x', r')) : r'.kept = s.kept := by
  have k' := cofferRoundOn_kept i flips reads soft s
  rw [h'] at k'
  exact k'

theorem cofferOff_kept (s : State) : (cofferOff s).kept = s.kept := by
  unfold cofferOff
  dsimp only
  rw [State.kept_foldl]
  · simp only [apply_ite State.kept, cause_kept, State.kept_mk, State.kept_fold, ite_self]
  · intro t q
    split
    · split
      · exact dropMem_kept ..
      · exact poisonCoffer_kept ..
    · rfl

theorem cofferRound_kept (flips : List WordFlips) (s : State) : (cofferRound flips s).kept = s.kept := by
  unfold cofferRound
  repeat' first
    | with_reducible rfl
    | (simp only [State.kept_mk, State.kept_fold, apply_ite State.kept, ite_self, cofferRoundOn_kept, cofferOff_kept]; done)
    | split
    | dsimp only

theorem cofferHostRead_kept (off len : Nat) (flips : List WordFlips) (s : State) : (cofferHostRead off len flips s).kept = s.kept := by
  unfold cofferHostRead
  dsimp only
  split
  · simp only [unsupported_kept, apply_ite State.kept, cause_kept, ite_self]
  · split
    · simp only [unsupported_kept, cause_kept]
    · have h : ∀ l : List Nat, ∀ a : Bytes × Bool × State, (l.foldl (fun (x : Bytes × Bool × State) i =>
          (x.1 ++ leBytes 8 (match (cofferRoundOn i flips true id x.2.2).1 with
            | some w => (w, (cofferRoundOn i flips true id x.2.2).2)
            | none => takeFree (cofferRoundOn i flips true id x.2.2).2).1.toNat,
           x.2.1 || (cofferRoundOn i flips true id x.2.2).1.isNone,
           (match (cofferRoundOn i flips true id x.2.2).1 with
            | some w => (w, (cofferRoundOn i flips true id x.2.2).2)
            | none => takeFree (cofferRoundOn i flips true id x.2.2).2).2)) a).2.2.kept = a.2.2.kept := by
        intro l a
        refine State.kept_foldl3 _ (fun x i => ?_) l a
        dsimp only
        split <;> simp only [takeFree_kept, cofferRoundOn_kept]
      split
      · simp only [State.kept_mk, State.kept_fold]
        rw [complete_kept]; exact h ..
      · rw [complete_kept]; exact h ..

theorem softWord_kept (op : Byte → Byte → Byte) (plain : Bool) (a : Nat) (data : Bytes) (be : List Bool) (flips : List WordFlips) (i : Nat) (s : State) : (softWord op plain a data be flips i s).kept = s.kept := by
  unfold softWord
  simp only [State.kept_mk, State.kept_fold, apply_ite State.kept, ite_self, aerInternal_kept, cofferRoundOn_kept]

theorem cofferHostChange_kept (row : Nat) (off : Nat) (data : Bytes) (be : List Bool) (flips : List WordFlips) (s : State) : (cofferHostChange row off data be flips s).kept = s.kept := by
  unfold cofferHostChange
  simp only [State.kept_foldl, implies_true, State.kept_mk, State.kept_fold, apply_ite State.kept, ite_self, cause_kept, complete_kept, unsupported_kept, softWord_kept]

theorem cofferClear_kept (s : State) : (cofferClear s).kept = s.kept := by
  rfl

/-! ### Ledger -/

theorem offerStateless_kept (b : Nat) (d : Desc) (a : Word64) (s : State) : (offerStateless b d a s).kept = s.kept := by
  unfold offerStateless
  simp only [State.kept_mk, State.kept_fold, apply_ite State.kept, ite_self, State.modLedger_kept, addStateless_kept, noteStall_kept]

theorem statelessAction_kept (b : Nat) (d : Desc) (a : Word64) (s : State) : (statelessAction b d a s).kept = s.kept := by
  unfold statelessAction
  simp only [State.kept_mk, State.kept_fold, apply_ite State.kept, ite_self, dropPass_kept, policeAction_kept, applyAction_kept, offerStateless_kept]

theorem defaultAct_kept (b act ring source code : Nat) (d : Desc) (s : State) : (defaultAct b act ring source code d s).kept = s.kept := by
  unfold defaultAct
  split <;> simp only [State.kept_mk, State.kept_fold, sieveLookup_kept, dropPass_kept, puntPass_kept, statelessAction_kept]

theorem overflowAct_kept (b code : Nat) (d : Desc) (s : State) : (overflowAct b code d s).kept = s.kept := by
  unfold overflowAct
  simp only [defaultAct_kept]

theorem setupAct_kept (b : Nat) (d : Desc) (s : State) : (setupAct b d s).kept = s.kept := by
  unfold setupAct
  simp only [defaultAct_kept]

theorem toItem_kept (b k : Nat) (d : Desc) (a : Word64) (setup reclass : Bool) (s : State) (s0 : State) (h0 : s0.kept = s.kept) : ((toItem b k d a setup reclass s).state s0).kept = s.kept := by
  unfold toItem
  repeat' first
    | with_reducible rfl
    | exact h0
    | (simp only [implies_true, State.kept_foldl2, State.kept_foldl3, Decision.state_ite, Decision.state_done, Decision.state_full, Decision.state_noroom, ScanIssue.state_ite, ScanIssue.state_done, ScanIssue.state_wait, State.kept_mk, State.kept_fold, State.kept_foldl, apply_ite State.kept, apply_ite Prod.snd, apply_ite EntryStep.state, EntryStep.state_served, EntryStep.state_searched, EntryStep.state_refused, EntryStep.state_wait, EntryStep.state_hold, ite_self, h0, addItem_kept, visit_kept]; done)
    | split
    | dsimp only

theorem toItem_kept' {b k : Nat} {d : Desc} {a : Word64} {setup reclass : Bool} {s : State} {r' : State} (h' : toItem b k d a setup reclass s = .done r') : r'.kept = s.kept := by
  have k' := toItem_kept b k d a setup reclass s s rfl
  rw [h'] at k'
  exact k'

theorem toItem_keptN {b k : Nat} {d : Desc} {a : Word64} {setup reclass : Bool} {s : State} {r' : State} (h' : toItem b k d a setup reclass s = .noroom r') : r'.kept = s.kept := by
  have k' := toItem_kept b k d a setup reclass s s rfl
  rw [h'] at k'
  exact k'

theorem updateUnit_kept (b k : Nat) (d : Desc) (s : State) : (updateUnit b k d s).kept = s.kept := by
  unfold updateUnit
  simp only [bump64_kept, perf_kept, applyAction_kept, visit_kept]

theorem noteRefusedSetup_kept (b : Nat) (s : State) : (noteRefusedSetup b s).kept = s.kept := by
  unfold noteRefusedSetup
  simp only [bump_kept, cause_kept]

theorem setupPass_kept (b k : Nat) (d : Desc) (a : Word64) (s : State) (s0 : State) (h0 : s0.kept = s.kept) :
    ((setupPass b k d a s).state s0).kept = s.kept := by
  unfold setupPass
  split
  · simp only [Decision.state_done, applyAction_kept, mirrorSetup_kept, visit_kept]
  · rw [toItem_kept _ _ _ _ _ _ _ _ (h0.trans (modWay_kept ..).symm), modWay_kept]

theorem setupPass_kept' {b k : Nat} {d : Desc} {a : Word64} {s : State} {r' : State} (h' : setupPass b k d a s = .done r') : r'.kept = s.kept := by
  have k' := setupPass_kept b k d a s s rfl
  rw [h'] at k'
  exact k'

theorem setupPass_keptN {b k : Nat} {d : Desc} {a : Word64} {s : State} {r' : State} (h' : setupPass b k d a s = .noroom r') : r'.kept = s.kept := by
  have k' := setupPass_kept b k d a s s rfl
  rw [h'] at k'
  exact k'

theorem claimFor_kept (b : Nat) (w : Way) (s : State) : (claimFor b w s).2.kept = s.kept := by
  unfold claimFor
  split <;> simp only [State.kept_mk, State.kept_fold, newClaim_kept]

theorem claimFor_kept' {b : Nat} {w : Way} {s : State} {x' : _} {r' : State} (h' : claimFor b w s = (x', r')) : r'.kept = s.kept := by
  have k' := claimFor_kept b w s
  rw [h'] at k'
  exact k'

theorem renewWay_kept (b k : Nat) (w : Way) (rc : Rec) (t : Nat) (v : VClass) (s : State) : (renewWay b k w rc t v s).kept = s.kept := by
  unfold renewWay
  repeat' first
    | with_reducible rfl
    | (simp only [implies_true, State.kept_foldl2, State.kept_foldl3, Decision.state_ite, Decision.state_done, Decision.state_full, Decision.state_noroom, ScanIssue.state_ite, ScanIssue.state_done, ScanIssue.state_wait, State.kept_mk, State.kept_fold, State.kept_foldl, apply_ite State.kept, apply_ite Prod.snd, apply_ite EntryStep.state, EntryStep.state_served, EntryStep.state_searched, EntryStep.state_refused, EntryStep.state_wait, EntryStep.state_hold, ite_self, occStep_kept, putWay_kept, reuseSlot_kept, claimFor_kept]; done)
    | split
    | dsimp only
    | ((try have h0 := reuseSlot_kept' ‹_›; try have h1 := claimFor_kept' ‹_›); simp only [implies_true, State.kept_foldl2, State.kept_foldl3, Decision.state_ite, Decision.state_done, Decision.state_full, Decision.state_noroom, ScanIssue.state_ite, ScanIssue.state_done, ScanIssue.state_wait, State.kept_mk, State.kept_fold, State.kept_foldl, apply_ite State.kept, apply_ite Prod.snd, apply_ite EntryStep.state, EntryStep.state_served, EntryStep.state_searched, EntryStep.state_refused, EntryStep.state_wait, EntryStep.state_hold, ite_self, occStep_kept, putWay_kept, reuseSlot_kept, claimFor_kept, *]; done)

theorem setupInPlace_kept (b k : Nat) (d : Desc) (s : State) (s0 : State) (h0 : s0.kept = s.kept) :
    ((setupInPlace b k d s).state s0).kept = s.kept := by
  unfold setupInPlace
  dsimp only
  split
  · simp only [Decision.state_done, statelessAction_kept, sieveLookup_kept]
  · split
    · simp only [Decision.state_done, setupAct_kept, noteRefusedSetup_kept, takeToken_kept, sieveLookup_kept]
    · split
      · simp only [Decision.state_done, takeToken_kept, sieveLookup_kept]
      · rw [setupPass_kept]
        · rw [noteSetup_kept, renewWay_kept, takeToken_kept, sieveLookup_kept]
        · rw [noteSetup_kept, renewWay_kept, takeToken_kept, sieveLookup_kept, h0]

theorem setupInPlace_kept' {b k : Nat} {d : Desc} {s : State} {r' : State} (h' : setupInPlace b k d s = .done r') : r'.kept = s.kept := by
  have k' := setupInPlace_kept b k d s s rfl
  rw [h'] at k'
  exact k'

theorem setupInPlace_keptN {b k : Nat} {d : Desc} {s : State} {r' : State} (h' : setupInPlace b k d s = .noroom r') : r'.kept = s.kept := by
  have k' := setupInPlace_kept b k d s s rfl
  rw [h'] at k'
  exact k'

theorem reclassify_kept (b k : Nat) (d : Desc) (fast : Bool) (s : State) (s0 : State) (h0 : s0.kept = s.kept) :
    ((reclassify b k d fast s).state s0).kept = s.kept := by
  unfold reclassify
  dsimp only
  split
  · simp only [Decision.state_done, statelessAction_kept, closeWay_kept, perf_kept, bump_kept, sieveLookup_kept]
  · split
    · simp only [Decision.state_done, updateUnit_kept, modWay_kept, perf_kept, bump_kept, sieveLookup_kept]
    · rw [toItem_kept]
      · simp only [modWay_kept, perf_kept, bump_kept, sieveLookup_kept]
      · simp only [modWay_kept, perf_kept, bump_kept, sieveLookup_kept, h0]

theorem reclassify_kept' {b k : Nat} {d : Desc} {fast : Bool} {s : State} {r' : State} (h' : reclassify b k d fast s = .done r') : r'.kept = s.kept := by
  have k' := reclassify_kept b k d fast s s rfl
  rw [h'] at k'
  exact k'

theorem reclassify_keptN {b k : Nat} {d : Desc} {fast : Bool} {s : State} {r' : State} (h' : reclassify b k d fast s = .noroom r') : r'.kept = s.kept := by
  have k' := reclassify_kept b k d fast s s rfl
  rw [h'] at k'
  exact k'

theorem decideFrom2_kept (b k : Nat) (d : Desc) (s : State) (s0 : State) (h0 : s0.kept = s.kept) :
    ((decideFrom2 b k d s).state s0).kept = s.kept := by
  unfold decideFrom2
  split
  · rfl
  · rename_i w _
    dsimp only
    have hu : (noteState b d.hash w.rc s).kept = s.kept := noteState_kept ..
    generalize noteState b d.hash w.rc s = u at hu ⊢
    have hu0 := h0.trans hu.symm
    rw [← hu]
    split
    · rw [Decision.state_noroom, leaveTill_kept]
    · split
      · exact setupInPlace_kept _ _ _ _ _ hu0
      · split
        · rw [setupInPlace_kept _ _ _ _ _ (hu0.trans (closeWay_kept ..).symm), closeWay_kept]
        · split
          · exact reclassify_kept _ _ _ _ _ _ hu0
          · split
            · exact updateUnit_kept ..
            · exact toItem_kept _ _ _ _ _ _ _ _ hu0

theorem decideFrom2_kept' {b k : Nat} {d : Desc} {s : State} {r' : State} (h' : decideFrom2 b k d s = .done r') : r'.kept = s.kept := by
  have k' := decideFrom2_kept b k d s s rfl
  rw [h'] at k'
  exact k'

theorem decideFrom2_keptN {b k : Nat} {d : Desc} {s : State} {r' : State} (h' : decideFrom2 b k d s = .noroom r') : r'.kept = s.kept := by
  have k' := decideFrom2_kept b k d s s rfl
  rw [h'] at k'
  exact k'

theorem joinChain_kept (b k : Nat) (w : Way) (d : Desc) (s : State) : (joinChain b k w d s).kept = s.kept := by
  unfold joinChain
  simp only [State.modDisp_kept, notePeak_kept, noteWaiting_kept, setWay_kept]

theorem decide_kept (b k : Nat) (d : Desc) (s : State) (s0 : State) (h0 : s0.kept = s.kept) :
    ((decide b k d s).state s0).kept = s.kept := by
  unfold decide
  split
  · rfl
  · split
    · split
      · simp only [Decision.state_done, joinChain_kept]
      · exact h0
    · exact decideFrom2_kept _ _ _ _ _ h0

theorem decide_kept' {b k : Nat} {d : Desc} {s : State} {r' : State} (h' : decide b k d s = .done r') : r'.kept = s.kept := by
  have k' := decide_kept b k d s s rfl
  rw [h'] at k'
  exact k'

theorem decide_keptN {b k : Nat} {d : Desc} {s : State} {r' : State} (h' : decide b k d s = .noroom r') : r'.kept = s.kept := by
  have k' := decide_kept b k d s s rfl
  rw [h'] at k'
  exact k'

theorem answerOpen_kept (t : Nat) (k : Option Nat) (s : State) : (answerOpen t k s).kept = s.kept := by
  unfold answerOpen
  simp only [State.modTeller_kept]

theorem openOnWay_kept (b k t : Nat) (s : State) : (openOnWay b k t s).kept = s.kept := by
  unfold openOnWay
  repeat' first
    | with_reducible rfl
    | (simp only [State.kept_mk, State.kept_fold, apply_ite State.kept, ite_self, setWay_kept, closeWay_kept, noteState_kept, lockWay_kept, answerOpen_kept]; done)
    | split
    | dsimp only

theorem hostDone_kept (b : Nat) (a : HostAnswer) (s : State) : (hostDone b a s).kept = s.kept := by
  unfold hostDone
  simp only [State.modLedger_kept]

theorem hostWay_kept (b k result where_ : Nat) (data : Bool) (s : State) : (hostWay b k result where_ data s).kept = s.kept := by
  unfold hostWay
  split <;> simp only [State.kept_mk, State.kept_fold, hostDone_kept]

theorem hostWrite_kept (b k where_ : Nat) (s : State) : (hostWrite b k where_ s).kept = s.kept := by
  unfold hostWrite
  repeat' first
    | with_reducible rfl
    | (simp only [State.kept_mk, State.kept_fold, apply_ite State.kept, ite_self, State.modLedger_kept, setWay_kept, pinWay_kept, closeWay_kept, hostWay_kept]; done)
    | split
    | dsimp only

theorem hostOnTill_kept (b k where_ : Nat) (s : State) : (hostOnTill b k where_ s).kept = s.kept := by
  unfold hostOnTill
  repeat' first
    | with_reducible rfl
    | (simp only [State.kept_foldl, implies_true, State.kept_mk, State.kept_fold, apply_ite State.kept, apply_ite Prod.snd, ite_self, writeBack_kept, closeWay_kept, noteState_kept, renewWay_kept, hostDone_kept, hostWay_kept, hostWrite_kept]; done)
    | split
    | dsimp only

theorem mirrorIgnored_kept (s : State) : (mirrorIgnored s).kept = s.kept := by
  unfold mirrorIgnored
  simp only [bump_kept]

theorem mirrorOnTill_kept (b k type side : Nat) (rc : Rec) (s : State) : (mirrorOnTill b k type side rc s).kept = s.kept := by
  unfold mirrorOnTill
  repeat' first
    | with_reducible rfl
    | (simp only [State.kept_foldl, implies_true, State.kept_mk, State.kept_fold, apply_ite State.kept, apply_ite Prod.snd, ite_self, bump_kept, setWay_kept, pinWay_kept, closeWay_kept, noteState_kept, renewWay_kept, mirrorIgnored_kept]; done)
    | split
    | dsimp only

theorem dropEntry_kept (b id : Nat) (s : State) : (dropEntry b id s).kept = s.kept := by
  unfold dropEntry
  simp only [State.modLedger_kept]

theorem putEntry_kept (b : Nat) (e : MissEntry) (s : State) : (putEntry b e s).kept = s.kept := by
  unfold putEntry
  simp only [State.modLedger_kept]

theorem noteQueue_kept (b : Nat) (s : State) : (noteQueue b s).kept = s.kept := by
  unfold noteQueue
  simp only [peak_kept]

theorem startReloc_kept (b : Nat) (e : MissEntry) (s : State) : (startReloc b e s).2.kept = s.kept := by
  unfold startReloc
  repeat' first
    | with_reducible rfl
    | (simp only [State.kept_foldl, implies_true, State.kept_mk, State.kept_fold, apply_ite State.kept, apply_ite Prod.snd, ite_self, bump_kept, offerMaint_kept]; done)
    | split
    | dsimp only

theorem startReloc_kept' {b : Nat} {e : MissEntry} {s : State} {x' : _} {r' : State} (h' : startReloc b e s = (x', r')) : r'.kept = s.kept := by
  have k' := startReloc_kept b e s
  rw [h'] at k'
  exact k'

theorem noteNoslot_kept (b : Nat) (s : State) : (noteNoslot b s).kept = s.kept := by
  unfold noteNoslot
  simp only [bump_kept, cause_kept]

theorem holdEntry_kept (b : Nat) (e : MissEntry) (d : Desc) (searched : Bool) (s : State) : (holdEntry b e d searched s).state.kept = s.kept := by
  unfold holdEntry
  repeat' first
    | with_reducible rfl
    | (simp only [implies_true, State.kept_foldl2, State.kept_foldl3, Decision.state_ite, Decision.state_done, Decision.state_full, Decision.state_noroom, ScanIssue.state_ite, ScanIssue.state_done, ScanIssue.state_wait, State.kept_mk, State.kept_fold, State.kept_foldl, apply_ite State.kept, apply_ite Prod.snd, apply_ite EntryStep.state, EntryStep.state_served, EntryStep.state_searched, EntryStep.state_refused, EntryStep.state_wait, EntryStep.state_hold, ite_self, noteStall_kept]; done)
    | split
    | dsimp only

theorem holdEntry_kept' {b : Nat} {e : MissEntry} {d : Desc} {searched : Bool} {s : State} {r' : EntryStep} (h' : holdEntry b e d searched s = r') : r'.state.kept = s.kept := by
  rw [← h']; exact holdEntry_kept b e d searched s

theorem setupTurn_kept (b k : Nat) (e : MissEntry) (d : Desc) (a : Word64) (s : State) : (setupTurn b k e d a s).state.kept = s.kept := by
  unfold setupTurn
  repeat' first
    | with_reducible rfl
    | (simp only [implies_true, State.kept_foldl2, State.kept_foldl3, Decision.state_ite, Decision.state_done, Decision.state_full, Decision.state_noroom, ScanIssue.state_ite, ScanIssue.state_done, ScanIssue.state_wait, State.kept_mk, State.kept_fold, State.kept_foldl, apply_ite State.kept, apply_ite Prod.snd, apply_ite EntryStep.state, EntryStep.state_served, EntryStep.state_searched, EntryStep.state_refused, EntryStep.state_wait, EntryStep.state_hold, ite_self, setupPass_kept, holdEntry_kept]; done)
    | split
    | dsimp only
    | ((try have h0 := setupPass_kept' ‹_›; try have g0 := setupPass_keptN ‹_›; try have h1 := holdEntry_kept' ‹_›); simp only [implies_true, State.kept_foldl2, State.kept_foldl3, Decision.state_ite, Decision.state_done, Decision.state_full, Decision.state_noroom, ScanIssue.state_ite, ScanIssue.state_done, ScanIssue.state_wait, State.kept_mk, State.kept_fold, State.kept_foldl, apply_ite State.kept, apply_ite Prod.snd, apply_ite EntryStep.state, EntryStep.state_served, EntryStep.state_searched, EntryStep.state_refused, EntryStep.state_wait, EntryStep.state_hold, ite_self, setupPass_kept, holdEntry_kept, *]; done)

theorem setupTurn_kept' {b k : Nat} {e : MissEntry} {d : Desc} {a : Word64} {s : State} {r' : EntryStep} (h' : setupTurn b k e d a s = r') : r'.state.kept = s.kept := by
  rw [← h']; exact setupTurn_kept b k e d a s

theorem finishSetup_kept (b : Nat) (e : MissEntry) (d : Desc) (u : Setup) (slot n : Nat) (again : Bool) (s0 : State) : (finishSetup b e d u slot n again s0).state.kept = s0.kept := by
  unfold finishSetup
  repeat' first
    | with_reducible rfl
    | (simp only [implies_true, State.kept_foldl2, State.kept_foldl3, Decision.state_ite, Decision.state_done, Decision.state_full, Decision.state_noroom, ScanIssue.state_ite, ScanIssue.state_done, ScanIssue.state_wait, State.kept_mk, State.kept_fold, State.kept_foldl, apply_ite State.kept, apply_ite Prod.snd, apply_ite EntryStep.state, EntryStep.state_served, EntryStep.state_searched, EntryStep.state_refused, EntryStep.state_wait, EntryStep.state_hold, ite_self, noteNoway_kept, noteSetup_kept, noteStateLost_kept, setupTurn_kept]; done)
    | split
    | dsimp only
    | ((try have h0 := install_kept' ‹_›; try have h1 := setupTurn_kept' ‹_›); simp only [implies_true, State.kept_foldl2, State.kept_foldl3, Decision.state_ite, Decision.state_done, Decision.state_full, Decision.state_noroom, ScanIssue.state_ite, ScanIssue.state_done, ScanIssue.state_wait, State.kept_mk, State.kept_fold, State.kept_foldl, apply_ite State.kept, apply_ite Prod.snd, apply_ite EntryStep.state, EntryStep.state_served, EntryStep.state_searched, EntryStep.state_refused, EntryStep.state_wait, EntryStep.state_hold, ite_self, noteNoway_kept, noteSetup_kept, noteStateLost_kept, setupTurn_kept, *]; done)

theorem finishSetup_kept' {b : Nat} {e : MissEntry} {d : Desc} {u : Setup} {slot n : Nat} {again : Bool} {s0 : State} {r' : EntryStep} (h' : finishSetup b e d u slot n again s0 = r') : r'.state.kept = s0.kept := by
  rw [← h']; exact finishSetup_kept b e d u slot n again s0

theorem setupLook_kept (b : Nat) (e : MissEntry) (d : Desc) (s : State) : (setupLook b e d s).2.2.kept = s.kept := by
  unfold setupLook
  repeat' first
    | with_reducible rfl
    | (simp only [State.kept_foldl, implies_true, State.kept_mk, State.kept_fold, apply_ite State.kept, apply_ite Prod.snd, ite_self, sieveLookup_kept, takeToken_kept]; done)
    | split
    | dsimp only

theorem setupLook_kept' {b : Nat} {e : MissEntry} {d : Desc} {s : State} {x' : _} {y' : _} {r' : State} (h' : setupLook b e d s = (x', y', r')) : r'.kept = s.kept := by
  have k' := setupLook_kept b e d s
  rw [h'] at k'
  exact k'

theorem setupEntry_kept (b : Nat) (e : MissEntry) (d : Desc) (s : State) : (setupEntry b e d s).state.kept = s.kept := by
  unfold setupEntry
  have h1 := setupLook_kept b e d s
  generalize setupLook b e d s = p at h1 ⊢
  obtain ⟨u, ok, t⟩ := p
  dsimp only at h1 ⊢
  rw [← h1]
  split
  · simp only [EntryStep.state_searched, statelessAction_kept]
  · split
    · simp only [EntryStep.state_refused, noteRefusedSetup_kept]
    · have h2 := placeSlot_kept b e.hash e.key d.arr .fill t
      generalize placeSlot b e.hash e.key d.arr .fill t = q at h2 ⊢
      obtain ⟨c, v⟩ := q
      dsimp only at h2 ⊢
      cases c
      · dsimp only
        split
        · rw [EntryStep.state_wait, startReloc_kept, h2]
        · rw [EntryStep.state_refused, noteNoslot_kept, startReloc_kept, h2]
      · dsimp only
        rw [finishSetup_kept, occStep_kept _ _ _ (fun t => putEntry_kept ..), newClaim_kept, h2]

theorem setupEntry_kept' {b : Nat} {e : MissEntry} {d : Desc} {s0 : State} {r' : EntryStep} (h' : setupEntry b e d s0 = r') : r'.state.kept = s0.kept := by
  rw [← h']; exact setupEntry_kept b e d s0

theorem hostAnswered_kept (b : Nat) (a : HostAnswer) (s : State) : (hostAnswered b a s).state.kept = s.kept := by
  unfold hostAnswered
  repeat' first
    | with_reducible rfl
    | (simp only [implies_true, State.kept_foldl2, State.kept_foldl3, Decision.state_ite, Decision.state_done, Decision.state_full, Decision.state_noroom, ScanIssue.state_ite, ScanIssue.state_done, ScanIssue.state_wait, State.kept_mk, State.kept_fold, State.kept_foldl, apply_ite State.kept, apply_ite Prod.snd, apply_ite EntryStep.state, EntryStep.state_served, EntryStep.state_searched, EntryStep.state_refused, EntryStep.state_wait, EntryStep.state_hold, ite_self, hostDone_kept]; done)
    | split
    | dsimp only

theorem hostAnswered_kept' {b : Nat} {a : HostAnswer} {s : State} {r' : EntryStep} (h' : hostAnswered b a s = r') : r'.state.kept = s.kept := by
  rw [← h']; exact hostAnswered_kept b a s

theorem hostCreate_kept (b : Nat) (e : MissEntry) (s : State) : (hostCreate b e s).state.kept = s.kept := by
  unfold hostCreate
  split
  · exact hostAnswered_kept ..
  · have h2 := placeSlot_kept b e.hash e.key (ledgerNow s) .fill s
    generalize placeSlot b e.hash e.key (ledgerNow s) .fill s = q at h2 ⊢
    obtain ⟨c, v⟩ := q
    dsimp only at h2 ⊢
    rw [← h2]
    cases c
    · dsimp only
      split
      · rw [EntryStep.state_wait, startReloc_kept]
      · rw [hostAnswered_kept, noteNoslot_kept, startReloc_kept]
    · dsimp only
      split
      · rename_i hi
        have h := install_kept' hi
        rw [EntryStep.state_hold, hostWay_kept, h, occStep_kept _ _ _ (fun t => putEntry_kept ..), newClaim_kept]
      · rw [EntryStep.state_wait, noteNoway_kept, occStep_kept _ _ _ (fun t => putEntry_kept ..), newClaim_kept]

theorem hostCreate_kept' {b : Nat} {e : MissEntry} {s : State} {r' : EntryStep} (h' : hostCreate b e s = r') : r'.state.kept = s.kept := by
  rw [← h']; exact hostCreate_kept b e s

theorem hostOnRecord_kept (b : Nat) (e : MissEntry) (slot : Nat) (r : Rec) (s : State) : (hostOnRecord b e slot r s).state.kept = s.kept := by
  unfold hostOnRecord
  repeat' first
    | with_reducible rfl
    | (simp only [implies_true, State.kept_foldl2, State.kept_foldl3, Decision.state_ite, Decision.state_done, Decision.state_full, Decision.state_noroom, ScanIssue.state_ite, ScanIssue.state_done, ScanIssue.state_wait, State.kept_mk, State.kept_fold, State.kept_foldl, apply_ite State.kept, apply_ite Prod.snd, apply_ite EntryStep.state, EntryStep.state_served, EntryStep.state_searched, EntryStep.state_refused, EntryStep.state_wait, EntryStep.state_hold, ite_self, State.modLedger_kept, noteNoway_kept, hostOnTill_kept, hostAnswered_kept]; done)
    | split
    | dsimp only
    | ((try have h0 := install_kept' ‹_›; try have h1 := hostAnswered_kept' ‹_›); simp only [implies_true, State.kept_foldl2, State.kept_foldl3, Decision.state_ite, Decision.state_done, Decision.state_full, Decision.state_noroom, ScanIssue.state_ite, ScanIssue.state_done, ScanIssue.state_wait, State.kept_mk, State.kept_fold, State.kept_foldl, apply_ite State.kept, apply_ite Prod.snd, apply_ite EntryStep.state, EntryStep.state_served, EntryStep.state_searched, EntryStep.state_refused, EntryStep.state_wait, EntryStep.state_hold, ite_self, State.modLedger_kept, noteNoway_kept, hostOnTill_kept, hostAnswered_kept, *]; done)

theorem hostOnRecord_kept' {b : Nat} {e : MissEntry} {slot : Nat} {r : Rec} {s : State} {r' : EntryStep} (h' : hostOnRecord b e slot r s = r') : r'.state.kept = s.kept := by
  rw [← h']; exact hostOnRecord_kept b e slot r s

theorem hostOnVault_kept (b : Nat) (e : MissEntry) (s : State) : (hostOnVault b e s).state.kept = s.kept := by
  unfold hostOnVault
  repeat' first
    | with_reducible rfl
    | (simp only [implies_true, State.kept_foldl2, State.kept_foldl3, Decision.state_ite, Decision.state_done, Decision.state_full, Decision.state_noroom, ScanIssue.state_ite, ScanIssue.state_done, ScanIssue.state_wait, State.kept_mk, State.kept_fold, State.kept_foldl, apply_ite State.kept, apply_ite Prod.snd, apply_ite EntryStep.state, EntryStep.state_served, EntryStep.state_searched, EntryStep.state_refused, EntryStep.state_wait, EntryStep.state_hold, ite_self, searchBoth_kept, hostAnswered_kept, hostCreate_kept, hostOnRecord_kept]; done)
    | split
    | dsimp only
    | ((try have h0 := searchBoth_kept' ‹_›; try have h1 := hostAnswered_kept' ‹_›; try have h2 := hostCreate_kept' ‹_›; try have h3 := hostOnRecord_kept' ‹_›); simp only [implies_true, State.kept_foldl2, State.kept_foldl3, Decision.state_ite, Decision.state_done, Decision.state_full, Decision.state_noroom, ScanIssue.state_ite, ScanIssue.state_done, ScanIssue.state_wait, State.kept_mk, State.kept_fold, State.kept_foldl, apply_ite State.kept, apply_ite Prod.snd, apply_ite EntryStep.state, EntryStep.state_served, EntryStep.state_searched, EntryStep.state_refused, EntryStep.state_wait, EntryStep.state_hold, ite_self, searchBoth_kept, hostAnswered_kept, hostCreate_kept, hostOnRecord_kept, *]; done)

theorem hostOnVault_kept' {b : Nat} {e : MissEntry} {s : State} {r' : EntryStep} (h' : hostOnVault b e s = r') : r'.state.kept = s.kept := by
  rw [← h']; exact hostOnVault_kept b e s

theorem mirrorOnVault_kept (b : Nat) (e : MissEntry) (type side : Nat) (rc : Rec) (s : State) :
    (mirrorOnVault b e type side rc s).state.kept = s.kept := by
  unfold mirrorOnVault
  generalize hx : searchBoth b .mirror e.hash e.key (ledgerNow s) s = x
  obtain ⟨found, poisoned, t⟩ := x
  have ht := searchBoth_kept' hx
  dsimp only
  split
  · split
    · rename_i hi
      have h1 := install_kept' hi
      simp only [EntryStep.state_served, EntryStep.state_searched, EntryStep.state_refused, EntryStep.state_wait, EntryStep.state_hold, mirrorOnTill_kept, h1, ht]
    · simp only [EntryStep.state_served, EntryStep.state_searched, EntryStep.state_refused, EntryStep.state_wait, EntryStep.state_hold, noteNoway_kept, ht]
  · split
    · exact ht
    · split
      · rename_i hp
        have h1 := placeSlot_kept' hp
        split
        · rename_i hi
          have h2 := install_kept' hi
          simp only [EntryStep.state_served, EntryStep.state_searched, EntryStep.state_refused, EntryStep.state_wait, EntryStep.state_hold, bump_kept, h2, occStep_kept, putEntry_kept, implies_true, newClaim_kept, h1, ht]
        · simp only [EntryStep.state_served, EntryStep.state_searched, EntryStep.state_refused, EntryStep.state_wait, EntryStep.state_hold, noteNoway_kept, occStep_kept, putEntry_kept, implies_true, newClaim_kept, h1, ht]
      · rename_i hp
        have h1 := placeSlot_kept' hp
        split <;> simp only [EntryStep.state_served, EntryStep.state_searched, EntryStep.state_refused, EntryStep.state_wait, EntryStep.state_hold, bump_kept, noteNoslot_kept, startReloc_kept, h1, ht]

theorem mirrorOnVault_kept' {b : Nat} {e : MissEntry} {type side : Nat} {rc : Rec} {s : State} {r' : EntryStep} (h' : mirrorOnVault b e type side rc s = r') : r'.state.kept = s.kept := by
  rw [← h']; exact mirrorOnVault_kept b e type side rc s

theorem searchAnew_kept (e : MissEntry) (s : State) : (searchAnew e s).state.kept = s.kept := by
  rfl

theorem searchAnew_kept' {e : MissEntry} {s : State} {r' : EntryStep} (h' : searchAnew e s = r') : r'.state.kept = s.kept := by
  rw [← h']; exact searchAnew_kept e s

theorem packetOnTill_kept (b k : Nat) (e : MissEntry) (d : Desc) (searched : Bool) (s : State) :
    (packetOnTill b k e d searched s).state.kept = s.kept := by
  unfold packetOnTill
  extract_lets first
  clear_value first
  cases first <;> dsimp only
  · split
    · rename_i h
      exact decide_kept' h
    · exact holdEntry_kept ..
    · rename_i h
      rw [searchAnew_kept]
      exact decide_keptN h
  · exact setupTurn_kept ..

theorem packetOnTill_kept' {b k : Nat} {e : MissEntry} {d : Desc} {searched : Bool} {s : State} {r' : EntryStep} (h' : packetOnTill b k e d searched s = r') : r'.state.kept = s.kept := by
  rw [← h']; exact packetOnTill_kept b k e d searched s

theorem serve_kept (b : Nat) (e : MissEntry) (w : Waiter) (searched : Bool) (s : State) :
    (serve b e w searched s).state.kept = s.kept := by
  unfold serve
  split
  · exact searchAnew_kept ..
  · split
    · split
      · rw [searchAnew_kept, leaveTill_kept]
      · cases w <;> dsimp only
        · exact packetOnTill_kept ..
        · rw [EntryStep.state_hold, hostOnTill_kept]
        · rw [EntryStep.state_served, openOnWay_kept]
        · rw [EntryStep.state_served, mirrorOnTill_kept]
    · cases w <;> dsimp only
      · split
        · exact setupEntry_kept ..
        · exact searchAnew_kept ..
      · split
        · rw [EntryStep.state_wait]
        · split
          · exact hostOnVault_kept ..
          · exact searchAnew_kept ..
      · split
        · rw [EntryStep.state_searched, answerOpen_kept]
        · exact searchAnew_kept ..
      · split
        · rw [EntryStep.state_wait]
        · split
          · exact mirrorOnVault_kept ..
          · exact searchAnew_kept ..

theorem serve_kept' {b : Nat} {e : MissEntry} {w : Waiter} {searched : Bool} {s : State} {r' : EntryStep} (h' : serve b e w searched s = r') : r'.state.kept = s.kept := by
  rw [← h']; exact serve_kept b e w searched s

theorem runEntry_kept (n b : Nat) (e : MissEntry) (searched : Bool) (s : State) : (runEntry n b e searched s).kept = s.kept := by
  induction n generalizing e searched s with
  | zero => exact putEntry_kept ..
  | succ n ih =>
    rw [runEntry]
    split
    · exact dropEntry_kept ..
    · split <;> rename_i h <;> have hk := serve_kept' h <;> dsimp only [EntryStep.state] at hk <;>
        simp only [ih, putEntry_kept, State.kept_foldl, setupAct_kept, implies_true, hk]

theorem goOn_kept (b : Nat) (e : MissEntry) (searched : Bool) (s : State) : (goOn b e searched s).kept = s.kept := by
  unfold goOn
  simp only [runEntry_kept]

theorem attach_kept' {b : Nat} {hash : Word64} {key : Ckey} {w : Waiter} {s s' : State} (h : attach b hash key w s = some s') :
    s'.kept = s.kept := by
  unfold attach at h
  dsimp only at h
  split at h
  · cases h
  · split at h
    · cases h; simp only [noteQueue_kept, putEntry_kept]
    · split at h
      · cases h
      · cases h
        simp only [apply_ite State.kept, goOn_kept, noteQueue_kept, putEntry_kept, State.modLedger_kept, ite_self]

theorem joinMiss_kept (b : Nat) (d : Desc) (s : State) : (joinMiss b d s).kept = s.kept := by
  unfold joinMiss
  repeat' first
    | with_reducible rfl
    | (simp only [implies_true, State.kept_foldl2, State.kept_foldl3, Decision.state_ite, Decision.state_done, Decision.state_full, Decision.state_noroom, ScanIssue.state_ite, ScanIssue.state_done, ScanIssue.state_wait, State.kept_mk, State.kept_fold, State.kept_foldl, apply_ite State.kept, apply_ite Prod.snd, apply_ite EntryStep.state, EntryStep.state_served, EntryStep.state_searched, EntryStep.state_refused, EntryStep.state_wait, EntryStep.state_hold, ite_self, bump_kept, cause_kept, modFrame_kept, overflowAct_kept]; done)
    | split
    | dsimp only
    | ((try have h0 := attach_kept' ‹_›); simp only [implies_true, State.kept_foldl2, State.kept_foldl3, Decision.state_ite, Decision.state_done, Decision.state_full, Decision.state_noroom, ScanIssue.state_ite, ScanIssue.state_done, ScanIssue.state_wait, State.kept_mk, State.kept_fold, State.kept_foldl, apply_ite State.kept, apply_ite Prod.snd, apply_ite EntryStep.state, EntryStep.state_served, EntryStep.state_searched, EntryStep.state_refused, EntryStep.state_wait, EntryStep.state_hold, ite_self, bump_kept, cause_kept, modFrame_kept, overflowAct_kept, *]; done)

theorem missPacket_kept (b : Nat) (d : Desc) (s : State) : (missPacket b d s).kept = s.kept := by
  unfold missPacket
  repeat' first
    | with_reducible rfl
    | (simp only [implies_true, State.kept_foldl2, State.kept_foldl3, Decision.state_ite, Decision.state_done, Decision.state_full, Decision.state_noroom, ScanIssue.state_ite, ScanIssue.state_done, ScanIssue.state_wait, State.kept_mk, State.kept_fold, State.kept_foldl, apply_ite State.kept, apply_ite Prod.snd, apply_ite EntryStep.state, EntryStep.state_served, EntryStep.state_searched, EntryStep.state_refused, EntryStep.state_wait, EntryStep.state_hold, ite_self, bump64_kept, perf_kept, joinMiss_kept]; done)
    | split
    | dsimp only

theorem chainRun_kept (n b k : Nat) (s : State) : (chainRun n b k s).kept = s.kept := by
  induction n generalizing s with
  | zero => rfl
  | succ n ih =>
    rw [chainRun]
    split
    · rfl
    · split
      · rfl
      · split
        · rfl
        · split <;> rename_i h
          · simp only [ih, decideFrom2_kept' h, setWay_kept]
          · rfl
          · rw [State.kept_foldl _ (fun t d => joinMiss_kept ..), decideFrom2_keptN h, setWay_kept]

theorem openersRun_kept (n b k : Nat) (s : State) : (openersRun n b k s).kept = s.kept := by
  induction n generalizing s with
  | zero => rfl
  | succ n ih =>
    rw [openersRun]
    split
    · rfl
    · split
      · rfl
      · split
        · simp only [ih, openOnWay_kept, setWay_kept]
        · exact chainRun_kept ..

theorem loseWay_kept (b k : Nat) (s : State) : (loseWay b k s).kept = s.kept := by
  unfold loseWay
  repeat' first
    | with_reducible rfl
    | (simp only [State.kept_foldl, implies_true, State.kept_mk, State.kept_fold, apply_ite State.kept, apply_ite Prod.snd, ite_self, State.modDisp_kept, State.modTeller_kept, countWrite_kept, occStep_kept, storeCell_kept, dropWay_kept, missPacket_kept]; done)
    | split
    | dsimp only

theorem loseWord_kept (b k word : Nat) (s : State) : (loseWord b k word s).kept = s.kept := by
  unfold loseWord
  repeat' first
    | with_reducible rfl
    | (simp only [State.kept_mk, State.kept_fold, apply_ite State.kept, ite_self, setWay_kept, loseWay_kept]; done)
    | split
    | dsimp only

theorem wayRead_kept (b k : Nat) (flips : List WordFlips) (s : State) : (wayRead b k flips s).kept = s.kept := by
  unfold wayRead
  split
  · exact Page.readAll_kept _ _ _ (fun _ _ _ => modWay_kept ..) fun _ _ => loseWord_kept ..
  · rfl

theorem releaseMirror_kept (b : Nat) (w : Way) (s : State) : (releaseMirror b w s).2.kept = s.kept := by
  unfold releaseMirror
  repeat' first
    | with_reducible rfl
    | (simp only [State.kept_foldl, implies_true, State.kept_mk, State.kept_fold, apply_ite State.kept, apply_ite Prod.snd, ite_self, mirrorEvent_kept]; done)
    | split
    | dsimp only

theorem releaseMirror_kept' {b : Nat} {w : Way} {s : State} {x' : _} {r' : State} (h' : releaseMirror b w s = (x', r')) : r'.kept = s.kept := by
  have k' := releaseMirror_kept b w s
  rw [h'] at k'
  exact k'

theorem releaseLock_kept (b k : Nat) (s : State) : (releaseLock b k s).kept = s.kept := by
  unfold releaseLock
  dsimp only
  split
  · exact unlockWay_kept ..
  · split
    · rw [loseWay_kept, releaseMirror_kept, unlockWay_kept]
    · rw [openersRun_kept, setWay_kept, releaseMirror_kept, unlockWay_kept]

theorem probeHit_kept (b k : Nat) (s : State) : (probeHit b k s).kept = s.kept := by
  unfold probeHit
  simp only [bump64_kept, perf_kept, touchWay_kept]

theorem probeDesc_kept (b : Nat) (d : Desc) (s : State) : (probeDesc b d s).kept = s.kept := by
  unfold probeDesc
  split
  · split <;> rename_i h
    · exact (decide_kept' h).trans (probeHit_kept ..)
    · simp only [noteStall_kept, State.modLedger_kept]
    · rw [joinMiss_kept, decide_keptN h, probeHit_kept]
  · exact missPacket_kept ..

theorem probeRead_kept (b : Nat) (flips : List WordFlips) (s : State) : (probeRead b flips s).kept = s.kept := by
  unfold probeRead
  repeat' first
    | with_reducible rfl
    | (simp only [State.kept_foldl, implies_true, State.kept_mk, State.kept_fold, apply_ite State.kept, apply_ite Prod.snd, ite_self, wayRead_kept]; done)
    | split
    | dsimp only

theorem tillProbe_kept (b : Nat) (s : State) : (tillProbe b s).kept = s.kept := by
  unfold tillProbe
  dsimp only
  split
  · split
    · rw [addStateless_kept, State.setLedger_kept]
    · rfl
  · split
    · split
      · split <;> rename_i h
        · rw [decide_kept' h, probeHit_kept, State.setLedger_kept]
        · rfl
        · rw [joinMiss_kept, decide_keptN h, probeHit_kept, State.setLedger_kept]
      · rw [missPacket_kept, State.setLedger_kept]
    · rfl
  · split
    · split
      · simp only [probeDesc_kept, perf_kept, State.modLedger_kept, State.modAssay_kept]
      · rfl
    · rfl

theorem fillFound_kept (b : Nat) (e : MissEntry) (f : Fill) (s : State) : (fillFound b e f s).kept = s.kept := by
  unfold fillFound
  repeat' first
    | with_reducible rfl
    | (simp only [implies_true, State.kept_foldl2, State.kept_foldl3, Decision.state_ite, Decision.state_done, Decision.state_full, Decision.state_noroom, ScanIssue.state_ite, ScanIssue.state_done, ScanIssue.state_wait, State.kept_mk, State.kept_fold, State.kept_foldl, apply_ite State.kept, apply_ite Prod.snd, apply_ite EntryStep.state, EntryStep.state_served, EntryStep.state_searched, EntryStep.state_refused, EntryStep.state_wait, EntryStep.state_hold, ite_self, noteNoway_kept, putEntry_kept, goOn_kept]; done)
    | split
    | dsimp only
    | ((try have h0 := install_kept' ‹_›); simp only [implies_true, State.kept_foldl2, State.kept_foldl3, Decision.state_ite, Decision.state_done, Decision.state_full, Decision.state_noroom, ScanIssue.state_ite, ScanIssue.state_done, ScanIssue.state_wait, State.kept_mk, State.kept_fold, State.kept_foldl, apply_ite State.kept, apply_ite Prod.snd, apply_ite EntryStep.state, EntryStep.state_served, EntryStep.state_searched, EntryStep.state_refused, EntryStep.state_wait, EntryStep.state_hold, ite_self, noteNoway_kept, putEntry_kept, goOn_kept, *]; done)

theorem fillNone_kept (b : Nat) (e : MissEntry) (s : State) : (fillNone b e s).kept = s.kept := by
  unfold fillNone
  simp only [goOn_kept]

theorem askPeer_kept (who : RecoverFor) (s : State) : (askPeer who s).2.kept = s.kept := by
  unfold askPeer
  split <;> simp only [State.kept_mk, State.kept_fold, bump_kept]

theorem askPeer_kept' {who : RecoverFor} {s : State} {x' : _} {r' : State} (h' : askPeer who s = (x', r')) : r'.kept = s.kept := by
  have k' := askPeer_kept who s
  rw [h'] at k'
  exact k'

theorem fillPoisoned_kept (b : Nat) (e : MissEntry) (s : State) : (fillPoisoned b e s).kept = s.kept := by
  unfold fillPoisoned
  simp only [State.kept_mk, State.kept_fold, apply_ite State.kept, ite_self, putEntry_kept, fillNone_kept, askPeer_kept]

theorem searchEnded_kept (b : Nat) (e : MissEntry) (s : State) : (searchEnded b e s).kept = s.kept := by
  unfold searchEnded
  simp only [State.kept_mk, State.kept_fold, apply_ite State.kept, ite_self, fillNone_kept, fillPoisoned_kept]

theorem readDone_kept (b : Nat) (e : MissEntry) (second : Bool) (slot : Nat) (f : Found) (s : State) :
    (readDone b e second slot f s).kept = s.kept := by
  unfold readDone
  dsimp only
  cases f <;> dsimp only
  · rw [fillFound_kept, bump64_kept]
  · exact searchEnded_kept ..
  all_goals
    split
    · exact searchEnded_kept ..
    · exact putEntry_kept ..

theorem candidateRead_kept (b id : Nat) (lost : Bool) (s : State) : (candidateRead b id lost s).kept = s.kept := by
  unfold candidateRead
  split
  · rfl
  · split
    · split
      · exact putEntry_kept ..
      · split
        · exact goOn_kept ..
        · cases lost <;> simp only [Bool.false_eq_true, if_false, if_true, readDone_kept, lostRead_kept, testSlot_kept]
    · rfl

theorem candidateDone_kept (b id : Nat) (s : State) : (candidateDone b id s).kept = s.kept := by
  unfold candidateDone
  repeat' first
    | with_reducible rfl
    | (simp only [State.kept_mk, State.kept_fold, apply_ite State.kept, ite_self, candidateRead_kept]; done)
    | split
    | dsimp only

theorem retryFill_kept (b : Nat) (e : MissEntry) (f : Fill) (s : State) : (retryFill b e f s).kept = s.kept := by
  unfold retryFill
  split
  · split
    · rename_i h
      have hk := finishSetup_kept' h
      dsimp only [EntryStep.state] at hk
      rw [goOn_kept, hk]
    · rename_i h
      have hk := finishSetup_kept' h
      dsimp only [EntryStep.state] at hk
      rw [putEntry_kept, hk]
    · rfl
  · split
    · rename_i h
      have hk := install_kept' h
      simp only [putEntry_kept, hostWay_kept, hk]
    · rfl
  · split
    · rename_i h
      have hk := install_kept' h
      simp only [goOn_kept, bump_kept, hk]
    · rfl
  · split
    · rename_i h
      have hk := install_kept' h
      simp only [goOn_kept, hk]
    · rfl

theorem fillRetry_kept (b id : Nat) (s : State) : (fillRetry b id s).kept = s.kept := by
  unfold fillRetry
  repeat' first
    | with_reducible rfl
    | (simp only [State.kept_mk, State.kept_fold, apply_ite State.kept, ite_self, putEntry_kept, goOn_kept, retryFill_kept]; done)
    | split
    | dsimp only

theorem relocEnded_kept (b id : Nat) (freed : Option Nat) (s : State) : (relocEnded b id freed s).kept = s.kept := by
  unfold relocEnded
  repeat' first
    | with_reducible rfl
    | (simp only [State.kept_foldl, implies_true, State.kept_mk, State.kept_fold, apply_ite State.kept, apply_ite Prod.snd, ite_self, State.modLedger_kept, bump_kept, setupAct_kept, hostDone_kept, putEntry_kept, noteNoslot_kept, goOn_kept]; done)
    | split
    | dsimp only

theorem peerAnswer_kept (b id : Nat) (r : Option Rec) (s : State) : (peerAnswer b id r s).kept = s.kept := by
  unfold peerAnswer
  repeat' first
    | with_reducible rfl
    | (simp only [State.kept_mk, State.kept_fold, apply_ite State.kept, ite_self, bump_kept, writeRecord_kept, fillFound_kept, fillNone_kept]; done)
    | split
    | dsimp only

theorem abandonSetup_kept (b : Nat) (e : MissEntry) (s : State) : (abandonSetup b e s).kept = s.kept := by
  unfold abandonSetup
  simp only [State.kept_foldl, implies_true, State.kept_mk, State.kept_fold, apply_ite State.kept, ite_self, State.modLedger_kept, dropEntry_kept, goOn_kept]

theorem afterLeave_kept (b : Nat) (e : MissEntry) (s : State) : (afterLeave b e s).kept = s.kept := by
  unfold afterLeave
  split
  · exact putEntry_kept ..
  · split
    · exact putEntry_kept ..
    · split
      · rw [abandonSetup_kept]
        exact occStep_kept _ _ _ fun t => dropEntry_kept ..
      · exact abandonSetup_kept ..

theorem missTimeout_kept (b id frame : Nat) (s : State) : (missTimeout b id frame s).kept = s.kept := by
  unfold missTimeout
  repeat' first
    | with_reducible rfl
    | (simp only [State.kept_mk, State.kept_fold, apply_ite State.kept, ite_self, bump_kept, cause_kept, perf_kept, overflowAct_kept, afterLeave_kept]; done)
    | split
    | dsimp only

theorem readSlot_kept (b : Nat) (s : State) : (readSlot b s).kept = s.kept := by
  unfold readSlot
  repeat' first
    | with_reducible rfl
    | (simp only [State.kept_mk, State.kept_fold, apply_ite State.kept, ite_self, readRecord_kept, hostDone_kept]; done)
    | split
    | dsimp only

theorem hostBegin_kept (b : Nat) (s : State) : (hostBegin b s).kept = s.kept := by
  unfold hostBegin
  dsimp only
  split
  · exact hostDone_kept ..
  · split
    · exact readSlot_kept ..
    · split
      · exact hostDone_kept ..
      · split
        · exact State.modLedger_kept ..
        · have hm : (s.modLedger b fun l => { l with hreq := { l.hreq with held := false } }).kept = s.kept := State.modLedger_kept ..
          generalize (s.modLedger b fun l => { l with hreq := { l.hreq with held := false } }) = t at hm ⊢
          rw [← hm]
          generalize probe t b _ _ = p
          cases hp : Option.filter (fun k => !((s.ledgerAt b).hreq.op == 3 && roomless t b k (ledgerNow t))) p with
          | some k => exact hostOnTill_kept ..
          | none =>
            refine State.kept_getD (fun u h => (attach_kept' h).trans ?_) (hostDone_kept ..)
            cases p with
            | none => rfl
            | some k => exact leaveTill_kept ..

theorem hostRelease_kept (b : Nat) (s : State) : (hostRelease b s).kept = s.kept := by
  unfold hostRelease
  repeat' first
    | with_reducible rfl
    | (simp only [implies_true, State.kept_foldl2, State.kept_foldl3, Decision.state_ite, Decision.state_done, Decision.state_full, Decision.state_noroom, ScanIssue.state_ite, ScanIssue.state_done, ScanIssue.state_wait, State.kept_mk, State.kept_fold, State.kept_foldl, apply_ite State.kept, apply_ite Prod.snd, apply_ite EntryStep.state, EntryStep.state_served, EntryStep.state_searched, EntryStep.state_refused, EntryStep.state_wait, EntryStep.state_hold, ite_self, hostBegin_kept]; done)
    | split
    | dsimp only

theorem hostCommand_kept (b op wmask : Nat) (s : State) : (hostCommand b op wmask s).kept = s.kept := by
  unfold hostCommand
  repeat' first
    | with_reducible rfl
    | (simp only [implies_true, State.kept_foldl2, State.kept_foldl3, Decision.state_ite, Decision.state_done, Decision.state_full, Decision.state_noroom, ScanIssue.state_ite, ScanIssue.state_done, ScanIssue.state_wait, State.kept_mk, State.kept_fold, State.kept_foldl, apply_ite State.kept, apply_ite Prod.snd, apply_ite EntryStep.state, EntryStep.state_served, EntryStep.state_searched, EntryStep.state_refused, EntryStep.state_wait, EntryStep.state_hold, ite_self, State.modLedger_kept, setField_kept, hostBegin_kept]; done)
    | split
    | dsimp only

theorem fillHrec_kept (b : Nat) (r : Rec) (s : State) : (fillHrec b r s).kept = s.kept := by
  unfold fillHrec
  simp only [State.kept_foldl, implies_true, State.kept_mk, State.kept_fold, apply_ite State.kept, ite_self, setPair_kept]

theorem hreqDone_kept (b : Nat) (s : State) : (hreqDone b s).kept = s.kept := by
  unfold hreqDone
  repeat' first
    | with_reducible rfl
    | (simp only [State.kept_mk, State.kept_fold, apply_ite State.kept, ite_self, State.modLedger_kept, regStore_kept, setField_kept, setPair_kept, cause_kept, stamp_kept, goOn_kept, fillHrec_kept]; done)
    | split
    | dsimp only

theorem hostResume_kept (b k : Nat) (s : State) : (hostResume b k s).kept = s.kept := by
  unfold hostResume
  simp only [State.kept_mk, State.kept_fold, apply_ite State.kept, ite_self, hostOnTill_kept]

/-! ### Disp -/

theorem modItem_kept (b id : Nat) (f : Item → Item) (s : State) : (modItem b id f s).kept = s.kept := by
  unfold modItem
  simp only [State.modDisp_kept]

theorem startOn_kept (b t : Nat) (i : Item) (s : State) : (startOn b t i s).kept = s.kept := by
  unfold startOn
  split <;> simp only [State.kept_mk, State.kept_fold, State.setTeller_kept, lockWay_kept, modItem_kept]

theorem noteStart_kept (b t : Nat) (i : Item) (pref : Option Nat) (s : State) : (noteStart b t i pref s).kept = s.kept := by
  unfold noteStart
  simp only [State.kept_mk, State.kept_fold, apply_ite State.kept, ite_self, State.modDisp_kept, bump_kept, perf_kept, trace_kept]

theorem startItem_kept (b t : Nat) (i : Item) (pref : Option Nat) (s : State) : (startItem b t i pref s).kept = s.kept := by
  unfold startItem
  simp only [startOn_kept, noteStart_kept]

theorem requestPreempt_kept' {b : Nat} {i : Item} {pref : Option Nat} {s s' : State} (h : requestPreempt b i pref s = some s') :
    s'.kept = s.kept := by
  unfold requestPreempt at h
  dsimp only at h
  split at h
  · cases h
  · obtain ⟨t, -, rfl⟩ := Option.map_eq_some_iff.1 h
    simp only [trace_kept, perf_kept, bump_kept, State.modTeller_kept, State.modDisp_kept, modItem_kept]

theorem place_kept' {b : Nat} {i : Item} {s s' : State} (h : place b i s = some s') : s'.kept = s.kept := by
  unfold place at h
  extract_lets pref w here at h
  clear_value here
  split at h
  · cases h
  · split at h
    · rw [← Option.some.inj h, startItem_kept]
    · split at h
      · cases h
      · split at h
        · rw [← Option.some.inj h, startItem_kept]
        · split at h
          · exact requestPreempt_kept' h
          · cases h

theorem noteNoTeller_kept (b : Nat) (s : State) : (noteNoTeller b s).kept = s.kept := by
  unfold noteNoTeller
  simp only [State.kept_foldl, implies_true, State.kept_mk, State.kept_fold, apply_ite State.kept, ite_self, State.modDisp_kept, cause_kept]

theorem dispatchDecision_kept (b : Nat) (s : State) : (dispatchDecision b s).kept = s.kept := by
  unfold dispatchDecision
  dsimp only
  refine State.kept_getD (fun t h => ?_) (noteNoTeller_kept ..)
  obtain ⟨i, -, hi⟩ := List.exists_of_findSome?_eq_some h
  rw [place_kept' hi, noteNoTeller_kept]

theorem waitExpiry_kept (b item hi lo : Nat) (s : State) : (waitExpiry b item hi lo s).kept = s.kept := by
  unfold waitExpiry
  split
  · split
    · exact dispatchDecision_kept ..
    · rfl
  · rfl

theorem stallInterval_kept (b : Nat) (s : State) : (stallInterval b s).kept = s.kept := by
  unfold stallInterval
  simp only [State.kept_mk, State.kept_fold, apply_ite State.kept, ite_self, bump_kept]

theorem hostPost_kept (b : Nat) (s : State) : (hostPost b s).kept = s.kept := by
  unfold hostPost
  simp only [State.kept_mk, State.kept_fold, apply_ite State.kept, ite_self, setField_kept, trace_kept, addItem_kept]

theorem sweepOffer_kept (b : Nat) (s : State) : (sweepOffer b s).kept = s.kept := by
  unfold sweepOffer
  simp only [State.kept_mk, State.kept_fold, apply_ite State.kept, ite_self, State.modDisp_kept, setField_kept, bump_kept, cause_kept, offerMaint_kept]

theorem setAff_kept (b i v : Nat) (s : State) : (setAff b i v s).kept = s.kept := by
  unfold setAff
  simp only [State.modDisp_kept]

theorem affNext_kept (b : Nat) (s : State) : (affNext b s).kept = s.kept := by
  unfold affNext
  simp only [State.kept_mk, State.kept_fold, apply_ite State.kept, ite_self, setField_kept]

theorem affWrite_kept (b : Nat) (v : Word32) (s : State) : (affWrite b v s).kept = s.kept := by
  unfold affWrite
  simp only [setAff_kept, affNext_kept]

theorem affAccess_kept (b : Nat) (w : Option Word32) (s : State) : (affAccess b w s).kept = s.kept := by
  unfold affAccess
  repeat' first
    | with_reducible rfl
    | (simp only [State.kept_foldl, implies_true, State.kept_mk, State.kept_fold, apply_ite State.kept, apply_ite Prod.snd, ite_self, gated_kept, affNext_kept, affWrite_kept]; done)
    | split
    | dsimp only

/-! ### Nose -/

theorem setGroup_kept (g : Nat) (x : NoseGroup) (s : State) : (setGroup g x s).kept = s.kept := by
  rfl

theorem putW14_kept (b k : Nat) (v : Word64) (s : State) : (putW14 b k v s).kept = s.kept := by
  unfold putW14
  simp only [modWay_kept]

theorem setGap_kept (b k : Nat) (s : State) : (setGap b k s).kept = s.kept := by
  unfold setGap
  split <;> simp only [State.kept_mk, State.kept_fold, putW14_kept]

theorem leaveGap_kept (b : Nat) (way : Option Nat) (s : State) : (leaveGap b way s).kept = s.kept := by
  unfold leaveGap
  repeat' first
    | with_reducible rfl
    | (simp only [State.kept_mk, State.kept_fold, apply_ite State.kept, ite_self, State.modNose_kept, setGap_kept]; done)
    | split
    | dsimp only

theorem settleGaps_kept (b : Nat) (s : State) : (settleGaps b s).kept = s.kept := by
  unfold settleGaps
  simp only [State.kept_foldl, implies_true, State.kept_mk, State.kept_fold, apply_ite State.kept, ite_self, State.setNose_kept, setGap_kept]

theorem giveResult_kept (q : ScanReq) (w : Word64) (s : State) : (giveResult q w s).kept = s.kept := by
  unfold giveResult
  simp only [State.modTeller_kept]

theorem loseReport_kept (b : Nat) (hash w : Word64) (s : State) : (loseReport b hash w s).kept = s.kept := by
  unfold loseReport
  simp only [bump_kept, cause_kept, emit_kept]

theorem offerReports_kept (b n : Nat) (s : State) : (offerReports b n s).kept = s.kept := by
  induction n generalizing s with
  | zero => rfl
  | succ n ih =>
    rw [offerReports]
    split
    · rfl
    · dsimp only
      split
      · simp only [ih, loseReport_kept, State.modNose_kept]
      · split
        · simp only [ih, addItem_kept, State.modNose_kept]
        · exact State.modNose_kept ..

theorem report_kept (b : Nat) (q : ScanReq) (w : Word64) (s : State) : (report b q w s).kept = s.kept := by
  unfold report
  simp only [State.kept_mk, State.kept_fold, apply_ite State.kept, ite_self, State.setNose_kept, loseReport_kept, offerReports_kept]

theorem reportRetry_kept (b : Nat) (s : State) : (reportRetry b s).kept = s.kept := by
  unfold reportRetry
  simp only [State.kept_foldl, implies_true, State.kept_mk, State.kept_fold, apply_ite State.kept, ite_self, offerReports_kept]

theorem noseBurst_kept (b : Nat) (s : State) : (noseBurst b s).kept = s.kept := by
  unfold noseBurst
  simp only [State.kept_mk, State.kept_fold, apply_ite State.kept, ite_self, requestAllowance_kept]

theorem noteBacklog_kept (b : Nat) (s : State) : (noteBacklog b s).kept = s.kept := by
  unfold noteBacklog
  simp only [State.modNose_kept]

theorem noseTick_kept (b : Nat) (s : State) : (noseTick b s).kept = s.kept := by
  unfold noseTick
  repeat' first
    | with_reducible rfl
    | (simp only [State.kept_foldl, implies_true, State.kept_mk, State.kept_fold, apply_ite State.kept, apply_ite Prod.snd, ite_self, State.modNose_kept, noteBacklog_kept]; done)
    | split
    | dsimp only

theorem noseBurstReturn_kept (b : Nat) (s : State) : (noseBurstReturn b s).kept = s.kept := by
  unfold noseBurstReturn
  repeat' first
    | with_reducible rfl
    | (simp only [State.kept_mk, State.kept_fold, apply_ite State.kept, ite_self, returnAllowance_kept]; done)
    | split
    | dsimp only

theorem scanAtOnce_kept (b : Nat) (q : ScanReq) (status : Nat) (s : State) : (scanAtOnce b q status s).kept = s.kept := by
  unfold scanAtOnce
  simp only [leaveGap_kept, giveResult_kept]

theorem issueScan_kept (b t item : Nat) (d : Desc) (way : Option Nat) (qarg : Nat) (src : Word64) (s : State) (s0 : State) (h0 : s0.kept = s.kept) : ((issueScan b t item d way qarg src s).state s0).kept = s.kept := by
  unfold issueScan
  repeat' first
    | with_reducible rfl
    | exact h0
    | (simp only [implies_true, State.kept_foldl2, State.kept_foldl3, Decision.state_ite, Decision.state_done, Decision.state_full, Decision.state_noroom, ScanIssue.state_ite, ScanIssue.state_done, ScanIssue.state_wait, State.kept_mk, State.kept_fold, State.kept_foldl, apply_ite State.kept, apply_ite Prod.snd, apply_ite EntryStep.state, EntryStep.state_served, EntryStep.state_searched, EntryStep.state_refused, EntryStep.state_wait, EntryStep.state_hold, ite_self, h0, State.setNose_kept, State.modTeller_kept, bump_kept, cause_kept, perf_kept, modFrame_kept, addRef_kept, modWay_kept, leaveGap_kept, giveResult_kept, noseBurst_kept, noteBacklog_kept, scanAtOnce_kept]; done)
    | split
    | dsimp only

theorem issueScan_kept' {b t item : Nat} {d : Desc} {way : Option Nat} {qarg : Nat} {src : Word64} {s : State} {r' : State} (h' : issueScan b t item d way qarg src s = .done r') : r'.kept = s.kept := by
  have k' := issueScan_kept b t item d way qarg src s s rfl
  rw [h'] at k'
  exact k'

theorem noseStart_kept (b : Nat) (s : State) : (noseStart b s).kept = s.kept := by
  unfold noseStart
  repeat' first
    | with_reducible rfl
    | (simp only [State.kept_mk, State.kept_fold, apply_ite State.kept, ite_self, State.setNose_kept, bump_kept]; done)
    | split
    | dsimp only

theorem leaveRequest_kept (b : Nat) (q : ScanReq) (status : Nat) (a : ScanAcc) (s : State) : (leaveRequest b q status a s).kept = s.kept := by
  unfold leaveRequest
  repeat' first
    | with_reducible rfl
    | (simp only [State.kept_mk, State.kept_fold, apply_ite State.kept, ite_self, bump_kept, bump64_kept, perfN_kept, perf_kept, release_kept, modWay_kept, hostResume_kept, settleGaps_kept, giveResult_kept, report_kept, noteBacklog_kept]; done)
    | split
    | dsimp only

theorem endRun_kept (b : Nat) (r : NoseRun) (status : Nat) (a : ScanAcc) (done gap : Bool) (s : State) : (endRun b r status a done gap s).kept = s.kept := by
  unfold endRun
  split <;> simp only [State.kept_mk, State.kept_fold, State.modNose_kept, putW14_kept, leaveRequest_kept]

theorem endFault_kept (b : Nat) (r : NoseRun) (a : ScanAcc) (s : State) : (endFault b r a s).kept = s.kept := by
  unfold endFault
  simp only [bump_kept, cause_kept, emit_kept, endRun_kept]

theorem noseMemory_kept (b addr : Nat) (e : EccResult) (s : State) : (noseMemory b addr e s).kept = s.kept := by
  unfold noseMemory
  split <;> simp only [State.kept_mk, State.kept_fold, bump_kept, cause_kept, sramEvent_kept]

theorem noseDone_kept (b : Nat) (mem : EccResult) (at_ : Nat) (s : State) : (noseDone b mem at_ s).kept = s.kept := by
  unfold noseDone
  repeat' first
    | with_reducible rfl
    | (simp only [State.kept_mk, State.kept_fold, apply_ite State.kept, ite_self, State.modNose_kept, leaveRequest_kept, endRun_kept, endFault_kept, noseMemory_kept]; done)
    | split
    | dsimp only

theorem stopRun_kept (b : Nat) (r : NoseRun) (s : State) : (stopRun b r s).kept = s.kept := by
  unfold stopRun
  simp only [State.kept_foldl, implies_true, State.kept_mk, State.kept_fold, apply_ite State.kept, ite_self, bump_kept, endRun_kept, endFault_kept]

theorem noseStop_kept (b : Nat) (s : State) : (noseStop b s).kept = s.kept := by
  unfold noseStop
  dsimp only
  rw [State.kept_foldl]
  · rw [State.modNose_kept]
    split
    · exact stopRun_kept ..
    · rfl
  · intro t r
    split <;> simp only [leaveRequest_kept, bump_kept, setGap_kept]

theorem noseOff_kept (b : Nat) (s : State) : (noseOff b s).kept = s.kept := by
  unfold noseOff
  dsimp only
  rw [State.kept_foldl, State.modNose_kept]
  intro t q
  split <;> simp only [leaveRequest_kept, setGap_kept]

theorem noseResume_kept (b : Nat) (s : State) : (noseResume b s).kept = s.kept := by
  unfold noseResume
  simp only [State.modNose_kept]

theorem noseThrottle_kept (b : Nat) (s : State) : (noseThrottle b s).kept = s.kept := by
  unfold noseThrottle
  repeat' first
    | with_reducible rfl
    | (simp only [State.kept_mk, State.kept_fold, apply_ite State.kept, ite_self, State.setNose_kept, cause_kept, emit_kept]; done)
    | split
    | dsimp only

theorem groupResult_kept (v : Word32) (r : Nat) (s : State) : (groupResult v r s).kept = s.kept := by
  unfold groupResult
  simp only [setField_kept]

theorem noseInvalidate_kept (v : Word32) (s : State) : (noseInvalidate v s).kept = s.kept := by
  unfold noseInvalidate
  simp only [State.kept_mk, State.kept_fold, apply_ite State.kept, ite_self, setGroup_kept, groupResult_kept]

theorem noteGroup_kept (g : Nat) (validated : Bool) (s : State) : (noteGroup g validated s).kept = s.kept := by
  unfold noteGroup
  simp only [cause_kept, stamp_kept, emit_kept]

theorem noseQuiesced_kept (g : Nat) (s : State) : (noseQuiesced g s).kept = s.kept := by
  unfold noseQuiesced
  simp only [State.kept_mk, State.kept_fold, apply_ite State.kept, ite_self, setGroup_kept, noteGroup_kept]

theorem noseValidate_kept (v : Word32) (s : State) : (noseValidate v s).kept = s.kept := by
  unfold noseValidate
  simp only [State.kept_mk, State.kept_fold, apply_ite State.kept, ite_self, setGroup_kept, groupResult_kept, noteGroup_kept]

theorem noseMemWrite_kept (v : Word32) (s : State) : (noseMemWrite v s).kept = s.kept := by
  unfold noseMemWrite
  simp only [State.kept_mk, State.kept_fold, apply_ite State.kept, ite_self, setField_kept, bump_kept, cause_kept]

/-! ### Audit -/

theorem lapBegin_kept (m : Nat) (s : State) : (lapBegin m s).kept = s.kept := by
  unfold lapBegin
  simp only [State.kept_foldl, implies_true, State.kept_mk, State.kept_fold, apply_ite State.kept, ite_self]

theorem lapEnd_kept (m : Nat) (s : State) : (lapEnd m s).kept = s.kept := by
  unfold lapEnd
  simp only [State.kept_foldl, implies_true, State.kept_mk, State.kept_fold, apply_ite State.kept, ite_self, regStore_kept, tally_kept, emit_kept]

theorem pageVisited_kept (m : Nat) (s : State) : (pageVisited m s).kept = s.kept := by
  unfold pageVisited
  simp only [State.kept_foldl, implies_true, State.kept_mk, State.kept_fold, apply_ite State.kept, ite_self, lapEnd_kept]

theorem recordVisited_kept (rank u : Nat) (s : State) : (recordVisited rank u s).kept = s.kept := by
  unfold recordVisited
  simp only [State.kept_foldl, implies_true, State.kept_mk, State.kept_fold, apply_ite State.kept, ite_self, lapEnd_kept]

theorem lapAlarm_kept (m : Nat) (s : State) : (lapAlarm m s).kept = s.kept := by
  unfold lapAlarm
  simp only [State.kept_mk, State.kept_fold, apply_ite State.kept, ite_self, cause_kept, emit_kept]

theorem notePoisoned_kept (a : Nat) (ft asked : Bool) (s : State) : (notePoisoned a ft asked s).kept = s.kept := by
  unfold notePoisoned
  simp only [emit_kept]

theorem notePeerRepair_kept (a outcome : Nat) (s : State) : (notePeerRepair a outcome s).kept = s.kept := by
  unfold notePeerRepair
  simp only [emit_kept]

theorem peerFail_kept (slot outcome : Nat) (counted : Bool) (s : State) : (peerFail slot outcome counted s).kept = s.kept := by
  unfold peerFail
  simp only [State.kept_mk, State.kept_fold, apply_ite State.kept, ite_self, bump_kept, cause_kept, notePeerRepair_kept]

theorem auditSlot_kept (slot : Nat) (s : State) : (auditSlot slot s).kept = s.kept := by
  unfold auditSlot
  repeat' first
    | with_reducible rfl
    | (simp only [State.kept_mk, State.kept_fold, apply_ite State.kept, ite_self, modWay_kept, askPeer_kept, notePoisoned_kept, peerFail_kept]; done)
    | split
    | dsimp only

theorem auditReleased_kept (s : State) : (auditReleased s).kept = s.kept := by
  unfold auditReleased
  simp only [State.kept_foldl, implies_true, State.kept_mk, State.kept_fold, apply_ite State.kept, ite_self, readRecord_kept, auditSlot_kept]

theorem auditAnswer_kept (slot : Nat) (r : Option Rec) (status : Nat) (s : State) : (auditAnswer slot r status s).kept = s.kept := by
  unfold auditAnswer
  repeat' first
    | with_reducible rfl
    | (simp only [State.kept_mk, State.kept_fold, apply_ite State.kept, ite_self, bump_kept, writeRecord_kept, notePeerRepair_kept, peerFail_kept]; done)
    | split
    | dsimp only

theorem auditLasting_kept (a words : Nat) (s : State) : (auditLasting a words s).kept = s.kept := by
  unfold auditLasting
  repeat' first
    | with_reducible rfl
    | (simp only [State.kept_mk, State.kept_fold, apply_ite State.kept, ite_self, cause_kept, vaultLasting_kept, notePoisoned_kept, auditSlot_kept]; done)
    | split
    | dsimp only

theorem idleLasting_kept (rank u words : Nat) (s : State) : (idleLasting rank u words s).kept = s.kept := by
  unfold idleLasting
  simp only [State.kept_foldl, implies_true, State.kept_mk, State.kept_fold, apply_ite State.kept, ite_self, chanWrite_kept, noteLasting_kept]

theorem scrubRecord_kept (rank u : Nat) (s : State) : (scrubRecord rank u s).kept = s.kept := by
  unfold scrubRecord
  repeat' first
    | with_reducible rfl
    | (simp only [State.kept_foldl, implies_true, State.kept_mk, State.kept_fold, apply_ite State.kept, apply_ite Prod.snd, ite_self, bump_kept, chanWrite_kept, countWrite_kept]; done)
    | split
    | dsimp only

theorem auditRecord_kept (rank u : Nat) (found : AuditFound) (s : State) : (auditRecord rank u found s).kept = s.kept := by
  unfold auditRecord
  repeat' first
    | with_reducible rfl
    | (simp only [State.kept_foldl, implies_true, State.kept_mk, State.kept_fold, apply_ite State.kept, apply_ite Prod.snd, ite_self, bump_kept, chanRead_kept, noteTransient_kept, countFix_kept, settleMerge_kept, auditLasting_kept, idleLasting_kept, scrubRecord_kept]; done)
    | split
    | dsimp only

theorem visitVault_kept (c : Nat) (found : AuditFound) (s : State) : (visitVault c found s).kept = s.kept := by
  unfold visitVault
  repeat' first
    | with_reducible rfl
    | (simp only [State.kept_foldl, implies_true, State.kept_mk, State.kept_fold, apply_ite State.kept, apply_ite Prod.snd, ite_self, lapBegin_kept, recordVisited_kept, auditRecord_kept]; done)
    | split
    | dsimp only

theorem visitPage_kept (m : Nat) (flips : List WordFlips) (s : State) : (visitPage m flips s).kept = s.kept := by
  unfold visitPage
  dsimp only
  rw [pageVisited_kept]
  split
  · rw [Page.readAll_kept _ _ _ (fun _ _ _ => setCofferWord_kept ..) fun _ _ => cofferStore_kept .., lapBegin_kept]
  · rw [Page.readAll_kept _ _ _ (fun _ _ _ => modWay_kept ..) fun _ _ => loseWord_kept .., lapBegin_kept]

theorem auditVisit_kept (m c : Nat) (found : AuditFound) (flips : List WordFlips) (s : State) : (auditVisit m c found flips s).kept = s.kept := by
  unfold auditVisit
  simp only [State.kept_foldl, implies_true, State.kept_mk, State.kept_fold, apply_ite State.kept, ite_self, visitVault_kept, visitPage_kept]

/-! ### Window -/

theorem windowStore_kept (b k op i : Nat) (src mask : Word64) (s : State) : (windowStore b k op i src mask s).kept = s.kept := by
  unfold windowStore
  repeat' first
    | with_reducible rfl
    | (simp only [State.kept_mk, State.kept_fold, apply_ite State.kept, ite_self, setWay_kept, pinWay_kept]; done)
    | split
    | dsimp only

theorem windowState_kept (b k new : Nat) (s : State) : (windowState b k new s).kept = s.kept := by
  unfold windowState
  repeat' first
    | with_reducible rfl
    | (simp only [State.kept_mk, State.kept_fold, apply_ite State.kept, ite_self, setWay_kept, closeWay_kept]; done)
    | split
    | dsimp only

theorem releaseWindow_kept (b t : Nat) (noAff : Bool) (s : State) : (releaseWindow b t noAff s).kept = s.kept := by
  unfold releaseWindow
  repeat' first
    | with_reducible rfl
    | (simp only [State.kept_mk, State.kept_fold, apply_ite State.kept, ite_self, State.setTeller_kept, modWay_kept, releaseLock_kept, modItem_kept]; done)
    | split
    | dsimp only

theorem openTry_kept (b t : Nat) (key : Ckey) (s : State) : (openTry b t key s).kept = s.kept := by
  unfold openTry
  repeat' first
    | with_reducible rfl
    | (simp only [implies_true, State.kept_foldl2, State.kept_foldl3, Decision.state_ite, Decision.state_done, Decision.state_full, Decision.state_noroom, ScanIssue.state_ite, ScanIssue.state_done, ScanIssue.state_wait, State.kept_mk, State.kept_fold, State.kept_foldl, apply_ite State.kept, apply_ite Prod.snd, apply_ite EntryStep.state, EntryStep.state_served, EntryStep.state_searched, EntryStep.state_refused, EntryStep.state_wait, EntryStep.state_hold, ite_self, State.modTeller_kept, openOnWay_kept]; done)
    | split
    | dsimp only
    | ((try have h0 := attach_kept' ‹_›); simp only [implies_true, State.kept_foldl2, State.kept_foldl3, Decision.state_ite, Decision.state_done, Decision.state_full, Decision.state_noroom, ScanIssue.state_ite, ScanIssue.state_done, ScanIssue.state_wait, State.kept_mk, State.kept_fold, State.kept_foldl, apply_ite State.kept, apply_ite Prod.snd, apply_ite EntryStep.state, EntryStep.state_served, EntryStep.state_searched, EntryStep.state_refused, EntryStep.state_wait, EntryStep.state_hold, ite_self, State.modTeller_kept, openOnWay_kept, *]; done)

theorem openStep_kept (b t : Nat) (key : Ckey) (s : State) : (openStep b t key s).kept = s.kept := by
  unfold openStep
  simp only [State.kept_mk, State.kept_fold, apply_ite State.kept, ite_self, openTry_kept]

theorem openEnd_kept (t : Nat) (s : State) : (openEnd t s).kept = s.kept := by
  unfold openEnd
  simp only [State.modTeller_kept]

theorem fopEffect_kept (b t : Nat) (x : Teller) (w : MicroWord) (s : State) : (fopEffect b t x w s).kept = s.kept := by
  unfold fopEffect
  repeat' first
    | with_reducible rfl
    | (simp only [State.kept_mk, State.kept_fold, apply_ite State.kept, ite_self, writeBack_kept, windowStore_kept, windowState_kept, releaseWindow_kept, openEnd_kept]; done)
    | split
    | dsimp only

/-! ### TellerMem -/

theorem localStore_kept (t : Nat) (x : Teller) (w : MicroWord) (s : State) : (localStore t x w s).kept = s.kept := by
  unfold localStore
  simp only [State.kept_mk, State.kept_fold, apply_ite State.kept, ite_self, State.modTeller_kept]

theorem queueOp_kept (t : Nat) (m : MemOp) (s : State) : (queueOp t m s).kept = s.kept := by
  unfold queueOp
  simp only [State.modTeller_kept]

theorem mopEffect_kept (b t : Nat) (x : Teller) (w : MicroWord) (s : State) : (mopEffect b t x w s).kept = s.kept := by
  unfold mopEffect
  repeat' first
    | with_reducible rfl
    | (simp only [State.kept_mk, State.kept_fold, apply_ite State.kept, ite_self, perf_kept, sieveLookup_kept, localStore_kept, queueOp_kept]; done)
    | split
    | dsimp only

theorem setMoveEntry_kept (t i : Nat) (r : Rec) (s : State) : (setMoveEntry t i r s).kept = s.kept := by
  unfold setMoveEntry
  simp only [State.modTeller_kept]

theorem guardOp_kept (b t slot entry : Nat) (s : State) : (guardOp b t slot entry s).2.2.kept = s.kept := by
  unfold guardOp
  repeat' first
    | with_reducible rfl
    | (simp only [implies_true, State.kept_foldl2, State.kept_foldl3, Decision.state_ite, Decision.state_done, Decision.state_full, Decision.state_noroom, ScanIssue.state_ite, ScanIssue.state_done, ScanIssue.state_wait, State.kept_mk, State.kept_fold, State.kept_foldl, apply_ite State.kept, apply_ite Prod.snd, apply_ite EntryStep.state, EntryStep.state_served, EntryStep.state_searched, EntryStep.state_refused, EntryStep.state_wait, EntryStep.state_hold, ite_self, State.modLedger_kept, readRecord_kept, setMoveEntry_kept]; done)
    | split
    | dsimp only
    | ((try have h0 := readRecord_kept' ‹_›); simp only [implies_true, State.kept_foldl2, State.kept_foldl3, Decision.state_ite, Decision.state_done, Decision.state_full, Decision.state_noroom, ScanIssue.state_ite, ScanIssue.state_done, ScanIssue.state_wait, State.kept_mk, State.kept_fold, State.kept_foldl, apply_ite State.kept, apply_ite Prod.snd, apply_ite EntryStep.state, EntryStep.state_served, EntryStep.state_searched, EntryStep.state_refused, EntryStep.state_wait, EntryStep.state_hold, ite_self, State.modLedger_kept, readRecord_kept, setMoveEntry_kept, *]; done)

theorem guardOp_kept' {b t slot entry : Nat} {s : State} {x' : _} {y' : _} {r' : State} (h' : guardOp b t slot entry s = (x', y', r')) : r'.kept = s.kept := by
  have k' := guardOp_kept b t slot entry s
  rw [h'] at k'
  exact k'

theorem ftwrOp_kept (b t slot entry : Nat) (s : State) : (ftwrOp b t slot entry s).kept = s.kept := by
  unfold ftwrOp
  simp only [State.kept_mk, State.kept_fold, apply_ite State.kept, ite_self, bump_kept, writeRecord_kept]

theorem dropGuards_kept (b t : Nat) (s : State) : (dropGuards b t s).kept = s.kept := by
  unfold dropGuards
  simp only [State.modLedger_kept, auditReleased_kept]

theorem unguardOp_kept (b t : Nat) (s : State) : (unguardOp b t s).kept = s.kept := by
  unfold unguardOp
  repeat' first
    | with_reducible rfl
    | (simp only [State.kept_mk, State.kept_fold, apply_ite State.kept, ite_self, relocEnded_kept, dropGuards_kept]; done)
    | split
    | dsimp only

theorem sweepOp_kept (b slot : Nat) (s : State) : (sweepOp b slot s).2.kept = s.kept := by
  unfold sweepOp
  repeat' first
    | with_reducible rfl
    | (simp only [implies_true, State.kept_foldl2, State.kept_foldl3, Decision.state_ite, Decision.state_done, Decision.state_full, Decision.state_noroom, ScanIssue.state_ite, ScanIssue.state_done, ScanIssue.state_wait, State.kept_mk, State.kept_fold, State.kept_foldl, apply_ite State.kept, apply_ite Prod.snd, apply_ite EntryStep.state, EntryStep.state_served, EntryStep.state_searched, EntryStep.state_refused, EntryStep.state_wait, EntryStep.state_hold, ite_self, writeRecord_kept, readRecord_kept, mirrorSend_kept, modWay_kept, closeWay_kept, noteState_kept, closeSlot_kept]; done)
    | split
    | dsimp only
    | ((try have h0 := readRecord_kept' ‹_›); simp only [implies_true, State.kept_foldl2, State.kept_foldl3, Decision.state_ite, Decision.state_done, Decision.state_full, Decision.state_noroom, ScanIssue.state_ite, ScanIssue.state_done, ScanIssue.state_wait, State.kept_mk, State.kept_fold, State.kept_foldl, apply_ite State.kept, apply_ite Prod.snd, apply_ite EntryStep.state, EntryStep.state_served, EntryStep.state_searched, EntryStep.state_refused, EntryStep.state_wait, EntryStep.state_hold, ite_self, writeRecord_kept, readRecord_kept, mirrorSend_kept, modWay_kept, closeWay_kept, noteState_kept, closeSlot_kept, *]; done)

theorem sweepOp_kept' {b slot : Nat} {s : State} {x' : _} {r' : State} (h' : sweepOp b slot s = (x', r')) : r'.kept = s.kept := by
  have k' := sweepOp_kept b slot s
  rw [h'] at k'
  exact k'

theorem finishOp_kept (t : Nat) (m : MemOp) (vals : List Word64) (sv : Bool) (s : State) : (finishOp t m vals sv s).kept = s.kept := by
  unfold finishOp
  simp only [State.modTeller_kept]

theorem vaultReply_kept (b t : Nat) (m : MemOp) (s : State) : (vaultReply b t m s).kept = s.kept := by
  unfold vaultReply
  repeat' first
    | with_reducible rfl
    | (simp only [State.kept_mk, State.kept_fold, apply_ite State.kept, ite_self, partialWrite_kept, readRecord_kept, modMem_kept, dropMem_kept, finishOp_kept]; done)
    | split
    | dsimp only

theorem cofferReply_kept (t : Nat) (m : MemOp) (s : State) : (cofferReply t m s).kept = s.kept := by
  unfold cofferReply
  repeat' first
    | with_reducible rfl
    | (simp only [State.kept_mk, State.kept_fold, apply_ite State.kept, ite_self, finishOp_kept]; done)
    | split
    | dsimp only

theorem slotReply_kept (b t : Nat) (m : MemOp) (s : State) : (slotReply b t m s).kept = s.kept := by
  unfold slotReply
  repeat' first
    | with_reducible rfl
    | (simp only [State.kept_mk, State.kept_fold, apply_ite State.kept, ite_self, dropMem_kept, guardOp_kept, ftwrOp_kept, unguardOp_kept, sweepOp_kept, finishOp_kept]; done)
    | split
    | dsimp only

theorem memReply_kept (t id : Nat) (s : State) : (memReply t id s).kept = s.kept := by
  unfold memReply
  repeat' first
    | with_reducible rfl
    | (simp only [State.kept_mk, State.kept_fold, apply_ite State.kept, ite_self, finishOp_kept, vaultReply_kept, cofferReply_kept, slotReply_kept]; done)
    | split
    | dsimp only

theorem noteDrained_kept (d : Nat) (s : State) : (noteDrained d s).kept = s.kept := by
  unfold noteDrained
  simp only [State.kept_mk, State.kept_fold, apply_ite State.kept, ite_self, cause_kept]

/-! ### ItemEnd -/

theorem recircEnter_kept (b : Nat) (d : Desc) (s : State) : (recircEnter b d s).kept = s.kept := by
  unfold recircEnter
  simp only [State.kept_mk, State.kept_fold, apply_ite State.kept, ite_self, State.modAssay_kept, peak_kept, cause_kept]

theorem recircPass_kept (b : Nat) (d : Desc) (strip root : Nat) (entered : Bool) (s : State) : (recircPass b d strip root entered s).kept = s.kept := by
  unfold recircPass
  simp only [State.kept_mk, State.kept_fold, apply_ite State.kept, ite_self, bump_kept, cause_kept, dispose_kept, dropPass_kept, puntPass_kept, recircEnter_kept]

theorem packetEnd_kept (b : Nat) (c : ItemCtx) (s : State) : (packetEnd b c s).kept = s.kept := by
  unfold packetEnd
  repeat' first
    | with_reducible rfl
    | (simp only [State.kept_foldl, implies_true, State.kept_mk, State.kept_fold, apply_ite State.kept, apply_ite Prod.snd, ite_self, passDone_kept, dropPass_kept, puntPass_kept, mirrorPass_kept, takeAction_kept, recircPass_kept]; done)
    | split
    | dsimp only

theorem recircAwait_kept (b t : Nat) (c : ItemCtx) (v : Option Verdict) (s : State) : (recircAwait b t c v s).kept = s.kept := by
  unfold recircAwait
  repeat' first
    | with_reducible rfl
    | (simp only [State.kept_mk, State.kept_fold, apply_ite State.kept, ite_self, State.modAssay_kept]; done)
    | split
    | dsimp only

theorem releasePacket_kept (b t : Nat) (s : State) : (releasePacket b t s).kept = s.kept := by
  unfold releasePacket
  simp only [State.modTeller_kept, modItem_kept, packetEnd_kept]

theorem dropRequest_kept (b t : Nat) (s : State) : (dropRequest b t s).kept = s.kept := by
  unfold dropRequest
  simp only [State.modDisp_kept]

theorem declinePreempt_kept (b t item : Nat) (s : State) : (declinePreempt b t item s).kept = s.kept := by
  unfold declinePreempt
  dsimp only
  split
  · simp only [State.modTeller_kept, dropRequest_kept]
  · refine State.kept_getD (fun u h => (requestPreempt_kept' h).trans ?_) ?_ <;>
      simp only [trace_kept, bump_kept, modItem_kept, State.modTeller_kept, dropRequest_kept]

theorem resume_kept (b t : Nat) (s : State) : (resume b t s).kept = s.kept := by
  unfold resume
  repeat' first
    | with_reducible rfl
    | (simp only [State.kept_mk, State.kept_fold, apply_ite State.kept, ite_self, State.setTeller_kept, declinePreempt_kept]; done)
    | split
    | dsimp only

theorem yieldTo_kept (b t item : Nat) (s : State) : (yieldTo b t item s).kept = s.kept := by
  unfold yieldTo
  repeat' first
    | with_reducible rfl
    | (simp only [State.kept_mk, State.kept_fold, apply_ite State.kept, ite_self, State.setTeller_kept, bump_kept, trace_kept, modItem_kept, startItem_kept, dropRequest_kept]; done)
    | split
    | dsimp only

theorem wakeFlow_kept (b : Nat) (i : Item) (s : State) : (wakeFlow b i s).kept = s.kept := by
  unfold wakeFlow
  simp only [State.kept_mk, State.kept_fold, apply_ite State.kept, ite_self, State.modDisp_kept]

theorem endKind_kept (b t : Nat) (i : Item) (s : State) : (endKind b t i s).kept = s.kept := by
  unfold endKind
  split <;> simp only [State.kept_mk, State.kept_fold, State.modLedger_kept, bump_kept, cause_kept, stamp_kept, relocEnded_kept]

theorem learn_kept (b t : Nat) (c : ItemCtx) (s : State) : (learn b t c s).kept = s.kept := by
  unfold learn
  simp only [State.kept_mk, State.kept_fold, apply_ite State.kept, ite_self, setAff_kept]

theorem endItem_kept (b t : Nat) (s : State) : (endItem b t s).kept = s.kept := by
  unfold endItem
  extract_lets x c d item s1 s2 s3 s4 s5 s6 s7 s8
  have h3 : s3.kept = s.kept := by
    simp only [s3, s2, s1, releaseWindow_kept, State.modDisp_kept, packetEnd_kept]
  have h4 : s4.kept = s3.kept := by
    simp only [s4]
    clear_value item
    cases item
    · rfl
    · simp only [wakeFlow_kept, endKind_kept]
  have h5 : s5.kept = s4.kept := by
    simp only [s5, perf_kept, bump64_kept]
    split
    · simp only [dropGuards_kept, dropRequest_kept, learn_kept]
    · simp only [id, dropRequest_kept, learn_kept]
  have h6 : s6.kept = s5.kept := by
    simp only [s6, apply_ite State.kept, perf_kept, ite_self]
  have h8 : s8.kept = s6.kept := by
    simp only [s8, s7]
    split
    · simp only [modItem_kept, State.modTeller_kept]
    · simp only [State.modTeller_kept]
  rw [noteDrained_kept, h8, h6, h5, h4, h3]

theorem postItem_kept (b : Nat) (x : Teller) (w : MicroWord) (s : State) : (postItem b x w s).2.kept = s.kept := by
  unfold postItem
  repeat' first
    | with_reducible rfl
    | (simp only [State.kept_mk, State.kept_fold, apply_ite State.kept, ite_self, addItem_kept, noteRefused_kept]; done)
    | split
    | dsimp only

theorem postItem_kept' {b : Nat} {x : Teller} {w : MicroWord} {s : State} {x' : _} {r' : State} (h' : postItem b x w s = (x', r')) : r'.kept = s.kept := by
  have k' := postItem_kept b x w s
  rw [h'] at k'
  exact k'

/-! ### Teller -/

theorem csEvent_kept (d addr : Nat) (e : EccResult) (s : State) : (csEvent d addr e s).kept = s.kept := by
  unfold csEvent
  split <;> simp only [State.kept_mk, State.kept_fold, bump_kept, cause_kept, emit_kept, sramEvent_kept]

theorem qopEffect_kept (b t : Nat) (x : Teller) (w : MicroWord) (s : State) : (qopEffect b t x w s).2.kept = s.kept := by
  unfold qopEffect
  repeat' first
    | with_reducible rfl
    | (simp only [State.kept_mk, State.kept_fold, apply_ite State.kept, ite_self, State.modTeller_kept, dispose_kept, police_kept, releasePacket_kept]; done)
    | split
    | dsimp only

theorem qopEffect_kept' {b t : Nat} {x : Teller} {w : MicroWord} {s : State} {x' : _} {r' : State} (h' : qopEffect b t x w s = (x', r')) : r'.kept = s.kept := by
  have k' := qopEffect_kept b t x w s
  rw [h'] at k'
  exact k'

theorem copEffect_kept (t : Nat) (x : Teller) (w : MicroWord) (s : State) : (copEffect t x w s).kept = s.kept := by
  unfold copEffect
  split <;> simp only [State.kept_mk, State.kept_fold, setPair_kept]

theorem xopEffect_kept (b t : Nat) (x : Teller) (w : MicroWord) (s : State) : (xopEffect b t x w s).2.kept = s.kept := by
  unfold xopEffect
  split <;> simp only [State.kept_mk, State.kept_fold, State.modTeller_kept, emit_kept, postItem_kept]

theorem xopEffect_kept' {b t : Nat} {x : Teller} {w : MicroWord} {s : State} {x' : _} {r' : State} (h' : xopEffect b t x w s = (x', r')) : r'.kept = s.kept := by
  have k' := xopEffect_kept b t x w s
  rw [h'] at k'
  exact k'

theorem commit_kept (b t : Nat) (x : Teller) (w : MicroWord) (res : List (Nat × Word64)) (sv : Option Bool) (s0 s : State) : (commit b t x w res sv s0 s).kept = s.kept := by
  unfold commit
  simp only [State.kept_mk, State.kept_fold, apply_ite State.kept, ite_self, State.modTeller_kept, bump_kept, bump64_kept, cause_kept, perf_kept]

theorem haltTeller_kept (t : Nat) (w : MicroWord) (s : State) : (haltTeller t w s).kept = s.kept := by
  unfold haltTeller
  simp only [State.modTeller_kept, cause_kept]

theorem seqEffect_kept (b t : Nat) (x : Teller) (w : MicroWord) (cond : Bool) (s : State) : (seqEffect b t x w cond s).kept = s.kept := by
  unfold seqEffect
  repeat' first
    | with_reducible rfl
    | (simp only [State.kept_mk, State.kept_fold, apply_ite State.kept, ite_self, State.modTeller_kept, resume_kept, endItem_kept, haltTeller_kept]; done)
    | split
    | dsimp only

theorem execWord_kept (b t : Nat) (w : MicroWord) (s0 : State) : (execWord b t w s0).kept = s0.kept := by
  unfold execWord
  repeat' first
    | with_reducible rfl
    | (simp only [State.kept_mk, State.kept_fold, apply_ite State.kept, ite_self, fopEffect_kept, mopEffect_kept, yieldTo_kept, qopEffect_kept, copEffect_kept, xopEffect_kept, commit_kept, seqEffect_kept]; done)
    | split
    | dsimp only

theorem waitWord_kept (t : Nat) (s : State) : (waitWord t s).kept = s.kept := by
  unfold waitWord
  simp only [State.modTeller_kept]

theorem raise_kept (t : Nat) (c : TrapCause) (s : State) : (raise t c s).kept = s.kept := by
  unfold raise
  simp only [State.modTeller_kept]

theorem runWord_kept (b t : Nat) (w : MicroWord) (s : State) : (runWord b t w s).kept = s.kept := by
  unfold runWord
  repeat' first
    | with_reducible rfl
    | (simp only [implies_true, State.kept_foldl2, State.kept_foldl3, Decision.state_ite, Decision.state_done, Decision.state_full, Decision.state_noroom, ScanIssue.state_ite, ScanIssue.state_done, ScanIssue.state_wait, State.kept_mk, State.kept_fold, State.kept_foldl, apply_ite State.kept, apply_ite Prod.snd, apply_ite EntryStep.state, EntryStep.state_served, EntryStep.state_searched, EntryStep.state_refused, EntryStep.state_wait, EntryStep.state_hold, ite_self, issueScan_kept, openStep_kept, recircAwait_kept, execWord_kept, waitWord_kept]; done)
    | split
    | dsimp only
    | ((try have h0 := issueScan_kept' ‹_›); simp only [implies_true, State.kept_foldl2, State.kept_foldl3, Decision.state_ite, Decision.state_done, Decision.state_full, Decision.state_noroom, ScanIssue.state_ite, ScanIssue.state_done, ScanIssue.state_wait, State.kept_mk, State.kept_fold, State.kept_foldl, apply_ite State.kept, apply_ite Prod.snd, apply_ite EntryStep.state, EntryStep.state_served, EntryStep.state_searched, EntryStep.state_refused, EntryStep.state_wait, EntryStep.state_hold, ite_self, issueScan_kept, openStep_kept, recircAwait_kept, execWord_kept, waitWord_kept, *]; done)

theorem wordStep_kept (t : Nat) (e : EccResult) (s : State) : (wordStep t e s).kept = s.kept := by
  unfold wordStep
  repeat' first
    | with_reducible rfl
    | (simp only [State.kept_mk, State.kept_fold, apply_ite State.kept, ite_self, State.setTeller_kept, State.setDesk_kept, State.modTeller_kept, noteNoTeller_kept, csEvent_kept, waitWord_kept, raise_kept, runWord_kept]; done)
    | split
    | dsimp only

theorem noteTrap_kept (t d : Nat) (x : Teller) (c : TrapCause) (s : State) : (noteTrap t d x c s).kept = s.kept := by
  unfold noteTrap
  repeat' first
    | with_reducible rfl
    | (simp only [State.kept_mk, State.kept_fold, apply_ite State.kept, ite_self, bump_kept, cause_kept, emit_kept, perf_kept]; done)
    | split
    | dsimp only

theorem frameFull_kept (t : Nat) (s : State) : (frameFull t s).kept = s.kept := by
  unfold frameFull
  simp only [State.modTeller_kept, bump_kept, cause_kept]

theorem takeTrap_kept (b t : Nat) (x : Teller) (c : TrapCause) (skip overrun : Bool) (s : State) : (takeTrap b t x c skip overrun s).kept = s.kept := by
  unfold takeTrap
  simp only [State.kept_mk, State.kept_fold, apply_ite State.kept, ite_self, State.setTeller_kept, bump_kept, cause_kept, noteTrap_kept, frameFull_kept]

theorem microTrap_kept (t : Nat) (s : State) : (microTrap t s).kept = s.kept := by
  unfold microTrap
  repeat' first
    | with_reducible rfl
    | (simp only [State.kept_mk, State.kept_fold, apply_ite State.kept, ite_self, takeTrap_kept]; done)
    | split
    | dsimp only

theorem lockWaitTimeout_kept (t : Nat) (s : State) : (lockWaitTimeout t s).kept = s.kept := by
  unfold lockWaitTimeout
  repeat' first
    | with_reducible rfl
    | (simp only [State.kept_mk, State.kept_fold, apply_ite State.kept, ite_self, State.modTeller_kept, modWay_kept, raise_kept]; done)
    | split
    | dsimp only

theorem tellerStop_kept (t : Nat) (s : State) : (tellerStop t s).kept = s.kept := by
  unfold tellerStop
  simp only [State.modTeller_kept]

theorem tellerCont_kept (t : Nat) (s : State) : (tellerCont t s).kept = s.kept := by
  unfold tellerCont
  repeat' first
    | with_reducible rfl
    | (simp only [State.kept_mk, State.kept_fold, apply_ite State.kept, ite_self, State.setTeller_kept]; done)
    | split
    | dsimp only

theorem csScrub_kept (d addr : Nat) (e : EccResult) (s : State) : (csScrub d addr e s).kept = s.kept := by
  unfold csScrub
  simp only [csEvent_kept]

theorem csRead_kept (d addr : Nat) (s : State) : (csRead d addr s).kept = s.kept := by
  unfold csRead
  simp only [State.kept_mk, State.kept_fold, apply_ite State.kept, ite_self, State.setDesk_kept, setField_kept]

theorem csData_kept (d : Nat) (w : MicroWord) (s : State) : (csData d w s).kept = s.kept := by
  unfold csData
  simp only [State.kept_foldl, implies_true, State.kept_mk, State.kept_fold, apply_ite State.kept, ite_self, regStore_kept]

theorem csReadDone_kept (d : Nat) (e : EccResult) (s : State) : (csReadDone d e s).kept = s.kept := by
  unfold csReadDone
  repeat' first
    | with_reducible rfl
    | (simp only [State.kept_mk, State.kept_fold, apply_ite State.kept, ite_self, State.setDesk_kept, regStore_kept, takeFree_kept, csEvent_kept, csData_kept]; done)
    | split
    | dsimp only

/-! ### Microwords -/

theorem wordRow_kept (holds : MicroWord → Bool) (t : Nat) (e : EccResult) (s : State) : (wordRow holds t e s).kept = s.kept := by
  unfold wordRow
  simp only [State.kept_mk, State.kept_fold, apply_ite State.kept, ite_self, wordStep_kept]

/-! ### Export -/

theorem modExp_kept (b : Nat) (f : Exporter → Exporter) (s : State) : (modExp b f s).kept = s.kept := by
  unfold modExp
  simp only [State.modLedger_kept]

theorem sendMessage_kept (b : Nat) (s : State) : (sendMessage b s).2.kept = s.kept := by
  unfold sendMessage
  repeat' first
    | with_reducible rfl
    | (simp only [State.kept_mk, State.kept_fold, apply_ite State.kept, ite_self, bump_kept, placeRec_kept, modExp_kept]; done)
    | split
    | dsimp only

theorem sendMessage_kept' {b : Nat} {s : State} {x' : _} {r' : State} (h' : sendMessage b s = (x', r')) : r'.kept = s.kept := by
  have k' := sendMessage_kept b s
  rw [h'] at k'
  exact k'

theorem addRecord_kept (b t : Nat) (r : Bytes) (s : State) : (addRecord b t r s).kept = s.kept := by
  unfold addRecord
  simp only [modExp_kept]

theorem readWords_kept (n i : Nat) (s : State) : (readWords n i s).2.kept = s.kept := by
  induction n generalizing i s with
  | zero => rfl
  | succ n ih =>
    rw [readWords]
    dsimp only
    rw [ih]
    split <;> simp only [takeFree_kept, cofferRoundOn_kept]

theorem dropSnapshot_kept (b : Nat) (s : State) : (dropSnapshot b s).kept = s.kept := by
  unfold dropSnapshot
  simp only [modExp_kept]

theorem takeRaw_kept (b : Nat) (n : Snapshot) (s : State) : (takeRaw b n s).kept = s.kept := by
  unfold takeRaw
  simp only [State.kept_mk, State.kept_fold, apply_ite State.kept, ite_self, bump_kept, makeRoom_kept, placeRec_kept, readWords_kept, dropSnapshot_kept]

theorem takeIpfix_kept (b : Nat) (n : Snapshot) (s : State) : (takeIpfix b n s).kept = s.kept := by
  unfold takeIpfix
  dsimp only
  repeat' first
    | (simp only [bump_kept, dropSnapshot_kept, addRecord_kept, readWords_kept, sendMessage_kept]; done)
    | split

theorem exportTake_kept (b : Nat) (s : State) : (exportTake b s).kept = s.kept := by
  unfold exportTake
  repeat' first
    | with_reducible rfl
    | (simp only [State.kept_mk, State.kept_fold, apply_ite State.kept, ite_self, takeRaw_kept, takeIpfix_kept]; done)
    | split
    | dsimp only

theorem exportItemRetry_kept (b : Nat) (s : State) : (exportItemRetry b s).kept = s.kept := by
  unfold exportItemRetry
  simp only [State.kept_foldl, implies_true, State.kept_mk, State.kept_fold, apply_ite State.kept, ite_self, exportItem_kept, modExp_kept]

theorem ipfixFlush_kept (b : Nat) (s : State) : (ipfixFlush b s).kept = s.kept := by
  unfold ipfixFlush
  simp only [State.kept_mk, State.kept_fold, apply_ite State.kept, ite_self, sendMessage_kept]

theorem templateResend_kept (b : Nat) (s : State) : (templateResend b s).kept = s.kept := by
  unfold templateResend
  simp only [State.kept_mk, State.kept_fold, apply_ite State.kept, ite_self, modExp_kept]

/-! ### Mac -/

theorem pushReq_kept (r : Requester) (f : Nat) (s : State) : (pushReq r f s).kept = s.kept := by
  unfold pushReq
  simp only [State.kept_mk, State.kept_fold, apply_ite State.kept, ite_self]

theorem dropReq_kept (f : Nat) (s : State) : (dropReq f s).kept = s.kept := by
  rfl

theorem frameStored_kept (f : Nat) (x : Frame) (s : State) : (frameStored f x s).kept = s.kept := by
  unfold frameStored
  split <;> simp only [State.kept_mk, State.kept_fold, State.modAssay_kept]

theorem grantCell_kept (f : Nat) (x : Frame) (k : Pool) (s : State) : (grantCell f x k s).kept = s.kept := by
  unfold grantCell
  repeat' first
    | with_reducible rfl
    | (simp only [State.kept_mk, State.kept_fold, apply_ite State.kept, ite_self, cause_kept, perf_kept, fcUpdate_kept, setFrame_kept, pushReq_kept, dropReq_kept, frameStored_kept]; done)
    | split
    | dsimp only

theorem refuseCell_kept (f : Nat) (x : Frame) (s : State) : (refuseCell f x s).kept = s.kept := by
  unfold refuseCell
  split <;> simp only [State.kept_mk, State.kept_fold, State.modPort_kept, bump_kept, cause_kept, perf_kept, dispose_kept, setFrame_kept, dropFrame_kept, dropReq_kept]

theorem decideCell_kept (q : Requester × Nat) (s : State) : (decideCell q s).kept = s.kept := by
  unfold decideCell
  repeat' first
    | with_reducible rfl
    | (simp only [State.kept_mk, State.kept_fold, apply_ite State.kept, ite_self, dropReq_kept, grantCell_kept, refuseCell_kept]; done)
    | split
    | dsimp only

theorem mintRound_kept (s : State) : (mintRound s).kept = s.kept := by
  unfold mintRound
  simp only [State.kept_foldl, implies_true, State.kept_mk, State.kept_fold, apply_ite State.kept, ite_self, decideCell_kept]

theorem fillCells_kept (f n : Nat) (s : State) : (fillCells f n s).kept = s.kept := by
  induction n generalizing s with
  | zero => rfl
  | succ n ih =>
    rw [fillCells]
    split
    · split
      · simp only [ih, mintRound_kept, pushReq_kept]
      · rfl
    · rfl

theorem rxStart_kept (p : Nat) (data : Bytes) (full : Bool) (s : State) : (rxStart p data full s).kept = s.kept := by
  unfold rxStart
  simp only [State.kept_mk, State.kept_fold, apply_ite State.kept, ite_self, State.setPort_kept, bump_kept, cause_kept, perf_kept, setFrame_kept, pushReq_kept]

theorem settlePolicer_kept (x : Frame) (t : PolTail) (s : State) : (settlePolicer x t s).kept = s.kept := by
  unfold settlePolicer
  simp only [setPolicer_kept]

theorem discardQueued_kept (f code : Nat) (s : State) : (discardQueued f code s).kept = s.kept := by
  unfold discardQueued
  simp only [State.kept_foldl, implies_true, State.kept_mk, State.kept_fold, apply_ite State.kept, ite_self, setQueue_kept, settleEmpty_kept, discardCopy_kept]

theorem samplerStep_kept (p : Nat) (s : State) : (samplerStep p s).2.kept = s.kept := by
  unfold samplerStep
  repeat' first
    | with_reducible rfl
    | (simp only [State.kept_mk, State.kept_fold, apply_ite State.kept, ite_self]; done)
    | split
    | dsimp only

theorem samplerStep_kept' {p : Nat} {s : State} {x' : _} {r' : State} (h' : samplerStep p s = (x', r')) : r'.kept = s.kept := by
  have k' := samplerStep_kept p s
  rw [h'] at k'
  exact k'

theorem considerSample_kept (f p : Nat) (s : State) : (considerSample f p s).kept = s.kept := by
  unfold considerSample
  repeat' first
    | with_reducible rfl
    | (simp only [State.kept_foldl, implies_true, State.kept_mk, State.kept_fold, apply_ite State.kept, apply_ite Prod.snd, ite_self, setFrame_kept, release_kept, trySample_kept, samplerStep_kept]; done)
    | split
    | dsimp only

theorem endFrame_kept (f : Nat) (fcsBad : Bool) (s : State) : (endFrame f fcsBad s).kept = s.kept := by
  unfold endFrame
  repeat' first
    | with_reducible rfl
    | (simp only [State.kept_foldl, implies_true, State.kept_mk, State.kept_fold, apply_ite State.kept, apply_ite Prod.snd, ite_self, bump_kept, cause_kept, setFrame_kept, dropFrame_kept, tailAdd_kept, settlePolicer_kept, discardQueued_kept, considerSample_kept]; done)
    | split
    | dsimp only

theorem laneSyms_kept (p : Nat) (syms : List Nat) (s : State) : (laneSyms p syms s).kept = s.kept := by
  unfold laneSyms
  simp only [State.kept_foldl, implies_true, State.kept_mk, State.kept_fold, apply_ite State.kept, ite_self, bumpN_kept]

theorem rxTail_kept (p : Nat) (data : Bytes) (fcsOk : Bool) (fec : Nat) (syms : List Nat) (s : State) : (rxTail p data fcsOk fec syms s).kept = s.kept := by
  unfold rxTail
  repeat' first
    | with_reducible rfl
    | (simp only [State.kept_mk, State.kept_fold, apply_ite State.kept, ite_self, State.setPort_kept, State.modPort_kept, bump_kept, bump64_kept, winCount_kept, modFrame_kept, fillCells_kept, endFrame_kept, laneSyms_kept]; done)
    | split
    | dsimp only

theorem macControl_kept (p : Nat) (data : Bytes) (fcsOk : Bool) (s : State) : (macControl p data fcsOk s).kept = s.kept := by
  unfold macControl
  simp only [State.kept_mk, State.kept_fold, apply_ite State.kept, ite_self, bump_kept, bumpField_kept, winCount_kept, flowControl_kept]

theorem fecUncorr_kept (p : Nat) (s : State) : (fecUncorr p s).kept = s.kept := by
  unfold fecUncorr
  simp only [State.kept_mk, State.kept_fold, apply_ite State.kept, ite_self, bump_kept, cause_kept]

theorem samplerWrite_kept (p : Nat) (v : Word32) (s : State) : (samplerWrite p v s).kept = s.kept := by
  unfold samplerWrite
  simp only [State.kept_mk, State.kept_fold, apply_ite State.kept, ite_self, regStore_kept]

theorem seedWrite_kept (p : Nat) (v : Word32) (s : State) : (seedWrite p v s).kept = s.kept := by
  unfold seedWrite
  simp only [State.kept_mk, State.kept_fold, regStore_kept]

theorem grpCommand_kept (cmd : Word32) (s : State) : (grpCommand cmd s).kept = s.kept := by
  unfold grpCommand
  repeat' first
    | with_reducible rfl
    | (simp only [State.kept_mk, State.kept_fold, apply_ite State.kept, ite_self, regStore_kept, setPair_kept, cause_kept]; done)
    | split
    | dsimp only

/-! ### Assayer -/

theorem countSlot_kept (b recirc : Nat) (s : State) : (countSlot b recirc s).kept = s.kept := by
  unfold countSlot
  simp only [State.modAssay_kept]

theorem takeIn_kept (b : Nat) (d : Desc) (s : State) : (takeIn b d s).kept = s.kept := by
  unfold takeIn
  simp only [State.modAssay_kept]

theorem admitRecirc_kept (b : Nat) (s : State) : (admitRecirc b s).kept = s.kept := by
  unfold admitRecirc
  split <;> simp only [State.kept_mk, State.kept_fold, State.modAssay_kept, bump_kept, perf_kept, countSlot_kept, takeIn_kept]

theorem admitPort_kept (b i : Nat) (s : State) : (admitPort b i s).kept = s.kept := by
  unfold admitPort
  repeat' first
    | with_reducible rfl
    | (simp only [State.kept_mk, State.kept_fold, apply_ite State.kept, ite_self, State.modAssay_kept, perf_kept, takeIn_kept]; done)
    | split
    | dsimp only

theorem admitInject_kept (b : Nat) (s : State) : (admitInject b s).kept = s.kept := by
  unfold admitInject
  split <;> simp only [State.kept_mk, State.kept_fold, State.modAssay_kept, stamp_kept, perf_kept, takeIn_kept]

theorem admitSource_kept (b i : Nat) (s : State) : (admitSource b i s).kept = s.kept := by
  unfold admitSource
  split <;> simp only [State.kept_mk, State.kept_fold, State.modAssay_kept, countSlot_kept, admitPort_kept, admitInject_kept]

theorem placeStalled_kept (b : Nat) (s : State) : (placeStalled b s).kept = s.kept := by
  unfold placeStalled
  repeat' first
    | with_reducible rfl
    | (simp only [State.kept_mk, State.kept_fold, apply_ite State.kept, ite_self, State.modAssay_kept, addStateless_kept]; done)
    | split
    | dsimp only

theorem assayAdmit_kept (b : Nat) (s : State) : (assayAdmit b s).kept = s.kept := by
  unfold assayAdmit
  repeat' first
    | with_reducible rfl
    | (simp only [State.kept_mk, State.kept_fold, apply_ite State.kept, ite_self, admitRecirc_kept, admitSource_kept, placeStalled_kept]; done)
    | split
    | dsimp only

theorem parseStateless_kept (b : Nat) (d : Desc) (s : State) : (parseStateless b d s).kept = s.kept := by
  unfold parseStateless
  simp only [State.kept_mk, State.kept_fold, apply_ite State.kept, ite_self, State.modAssay_kept, sieveLookup_kept, dropPass_kept, policeAction_kept, applyAction_kept, addStateless_kept, noteStall_kept]

theorem parseDefault_kept (b act reset code : Nat) (d : Desc) (s : State) : (parseDefault b act reset code d s).kept = s.kept := by
  unfold parseDefault
  split <;> simp only [State.kept_mk, State.kept_fold, dropPass_kept, puntPass_kept, parseStateless_kept]

theorem xchPut_kept (b home : Nat) (d : Desc) (s : State) : (xchPut b home d s).kept = s.kept := by
  unfold xchPut
  simp only [State.modAssay_kept, bump_kept]

theorem xchSend_kept (b : Nat) (d : Desc) (s : State) : (xchSend b d s).kept = s.kept := by
  unfold xchSend
  simp only [State.kept_mk, State.kept_fold, apply_ite State.kept, ite_self, State.modAssay_kept, xchPut_kept]

theorem routePass_kept (b : Nat) (d : Desc) (stateless : Bool) (s : State) : (routePass b d stateless s).kept = s.kept := by
  unfold routePass
  repeat' first
    | with_reducible rfl
    | (simp only [State.kept_mk, State.kept_fold, apply_ite State.kept, ite_self, bump_kept, parseStateless_kept, parseDefault_kept, xchSend_kept]; done)
    | split
    | dsimp only

theorem deferEnd_kept (b : Nat) (d : Desc) (l : Lengths) (s : State) : (deferEnd b d l s).kept = s.kept := by
  unfold deferEnd
  simp only [State.kept_mk, State.kept_fold, apply_ite State.kept, ite_self, modFrame_kept]

theorem parsePass_kept (b f : Nat) (s : State) : (parsePass b f s).kept = s.kept := by
  unfold parsePass
  repeat' first
    | with_reducible rfl
    | (simp only [State.kept_mk, State.kept_fold, apply_ite State.kept, ite_self, State.modAssay_kept, bump_kept, routePass_kept, deferEnd_kept]; done)
    | split
    | dsimp only

theorem sieveRead_kept (b : Nat) (s : State) (r : SieveRead) : (sieveRead b s r).kept = s.kept := by
  unfold sieveRead
  simp only [State.kept_foldl, implies_true, State.kept_mk, State.kept_fold, apply_ite State.kept, ite_self, sramEvent_kept]

theorem holdRelease_kept (b : Nat) (s : State) : (holdRelease b s).kept = s.kept := by
  unfold holdRelease
  repeat' first
    | with_reducible rfl
    | (simp only [State.kept_mk, State.kept_fold, apply_ite State.kept, ite_self, State.modAssay_kept, xchPut_kept]; done)
    | split
    | dsimp only

theorem xchStall_kept (b : Nat) (s : State) : (xchStall b s).kept = s.kept := by
  unfold xchStall
  simp only [State.kept_mk, State.kept_fold, apply_ite State.kept, ite_self, State.modAssay_kept, bump_kept, cause_kept]

theorem recircPlace_kept (b : Nat) (s : State) : (recircPlace b s).kept = s.kept := by
  unfold recircPlace
  repeat' first
    | with_reducible rfl
    | (simp only [State.kept_mk, State.kept_fold, apply_ite State.kept, ite_self, State.setAssay_kept, State.modTeller_kept, recircEnter_kept]; done)
    | split
    | dsimp only

/-! ### Inject -/

theorem injectWriteBack_kept (n admitTime status : Nat) (l : List Bytes) (s : State) :
    (injectWriteBack n admitTime status l s).kept = s.kept := by
  induction l generalizing s with
  | nil => rfl
  | cons d ds ih =>
    rw [injectWriteBack]
    simp only [ih, advanceHead_kept, toHost_kept]

theorem injectEnd_kept (n admitTime status : Nat) (run : List Bytes) (s : State) : (injectEnd n admitTime status run s).kept = s.kept := by
  unfold injectEnd
  simp only [State.modRing_kept, injectWriteBack_kept]

theorem injectBad_kept (n reason : Nat) (run : List Bytes) (s : State) : (injectBad n reason run s).kept = s.kept := by
  unfold injectBad
  simp only [cause_kept, emit_kept, injectEnd_kept]

theorem injectAdmit_kept (f : Nat) (d : Bytes) (x : Frame) (s : State) : (injectAdmit f d x s).kept = s.kept := by
  unfold injectAdmit
  simp only [State.kept_mk, State.kept_fold, apply_ite State.kept, ite_self, State.modAssay_kept, release_kept, sendTo_kept]

theorem injectFrame_kept (n : Nat) (run : List Bytes) (d data : Bytes) (s : State) : (injectFrame n run d data s).kept = s.kept := by
  unfold injectFrame
  repeat' first
    | with_reducible rfl
    | (simp only [State.kept_mk, State.kept_fold, apply_ite State.kept, ite_self, dispose_kept, setFrame_kept, dropFrame_kept, fillCells_kept, injectEnd_kept, injectAdmit_kept]; done)
    | split
    | dsimp only

theorem injectRead_kept (n : Nat) (data : Option Bytes) (s : State) : (injectRead n data s).kept = s.kept := by
  unfold injectRead
  repeat' first
    | with_reducible rfl
    | (simp only [State.kept_mk, State.kept_fold, apply_ite State.kept, ite_self, fromHost_kept, haltRing_kept, injectBad_kept, injectFrame_kept]; done)
    | split
    | dsimp only

/-! ### Rewrite -/

theorem countRewrite_kept (r : Rewritten) (s : State) : (countRewrite r s).kept = s.kept := by
  unfold countRewrite
  repeat' first
    | with_reducible rfl
    | (simp only [State.kept_mk, State.kept_fold, apply_ite State.kept, ite_self, bump_kept, ts2Push_kept]; done)
    | split
    | dsimp only

theorem nptCtlWrite_kept (m : Nat) (v : Word32) (s : State) : (nptCtlWrite m v s).kept = s.kept := by
  unfold nptCtlWrite
  simp only [State.kept_mk, State.kept_fold, apply_ite State.kept, ite_self, regStore_kept, setField_kept]

/-! ### Gates -/

theorem gclNext_kept (s : State) : (gclNext s).kept = s.kept := by
  unfold gclNext
  simp only [State.kept_mk, State.kept_fold, apply_ite State.kept, ite_self, setField_kept]

theorem gclWrite_kept (v : Word32) (s : State) : (gclWrite v s).kept = s.kept := by
  unfold gclWrite
  simp only [State.kept_mk, State.kept_fold, apply_ite State.kept, ite_self, State.setSched_kept, bump_kept, gclNext_kept]

theorem gclRead_kept (s : State) : (gclRead s).2.kept = s.kept := by
  unfold gclRead
  simp only [regStore_kept, gclNext_kept]

theorem gclRead_kept' {s : State} {x' : _} {r' : State} (h' : gclRead s = (x', r')) : r'.kept = s.kept := by
  have k' := gclRead_kept s
  rw [h'] at k'
  exact k'

theorem gclReadHost_kept (s : State) : (gclReadHost s).kept = s.kept := by
  unfold gclReadHost
  repeat' first
    | with_reducible rfl
    | (simp only [State.kept_foldl, implies_true, State.kept_mk, State.kept_fold, apply_ite State.kept, apply_ite Prod.snd, ite_self, gclRead_kept]; done)
    | split
    | dsimp only

theorem gateCtrlWrite_kept (p : Nat) (v : Word32) (s : State) : (gateCtrlWrite p v s).kept = s.kept := by
  unfold gateCtrlWrite
  simp only [State.kept_mk, State.kept_fold, apply_ite State.kept, ite_self, State.setSched_kept, regStore_kept, bump_kept, cause_kept]

theorem gateSwitch_kept (p : Nat) (s : State) : (gateSwitch p s).kept = s.kept := by
  unfold gateSwitch
  repeat' first
    | with_reducible rfl
    | (simp only [State.kept_mk, State.kept_fold, apply_ite State.kept, ite_self, State.setSched_kept, regStore_kept, cause_kept, emit_kept]; done)
    | split
    | dsimp only

theorem gateOverrun_kept (p : Nat) (s : State) : (gateOverrun p s).kept = s.kept := by
  unfold gateOverrun
  repeat' first
    | with_reducible rfl
    | (simp only [State.kept_mk, State.kept_fold, apply_ite State.kept, ite_self, bump_kept]; done)
    | split
    | dsimp only

theorem offsetStep_kept (s : State) : (offsetStep s).kept = s.kept := by
  unfold offsetStep
  simp only [State.kept_foldl, implies_true, State.kept_mk, State.kept_fold, apply_ite State.kept, ite_self, offsetAdd_kept, gateOverrun_kept]

/-! ### Tm -/

theorem shape_kept (n : Nat) (ended : Option Nat) (s : State) : (shape n ended s).kept = s.kept := by
  unfold shape
  simp only [State.kept_mk, State.kept_fold, apply_ite State.kept, ite_self, State.setClass_kept]

theorem shaperUpdate_kept (k c : Nat) (s : State) : (shaperUpdate k c s).kept = s.kept := by
  unfold shaperUpdate
  simp only [State.kept_mk, State.kept_fold, apply_ite State.kept, ite_self, shape_kept]

theorem classCtrlWrite_kept (n : Nat) (v : Word32) (s : State) : (classCtrlWrite n v s).kept = s.kept := by
  unfold classCtrlWrite
  simp only [State.kept_mk, State.kept_fold, apply_ite State.kept, ite_self, State.setClass_kept, regStore_kept]

theorem popHead_kept (n : Nat) (s : State) : (popHead n s).kept = s.kept := by
  unfold popHead
  simp only [setQueue_kept, settleEmpty_kept]

theorem puntExpired_kept (n source : Nat) (c : Copy) (s : State) : (puntExpired n source c s).kept = s.kept := by
  unfold puntExpired
  simp only [release_kept, makeCopy_kept, popHead_kept]

theorem cleanHeads_kept (n f : Nat) (s : State) : (cleanHeads n f s).kept = s.kept := by
  induction f generalizing s with
  | zero => rfl
  | succ f ih =>
    rw [cleanHeads]
    repeat' first
      | with_reducible rfl
      | (simp only [ih, puntExpired_kept, discardCopy_kept, perf_kept, cause_kept, popHead_kept]; done)
      | split

theorem noteClass_kept (n : Nat) (s : State) : (noteClass n s).kept = s.kept := by
  unfold noteClass
  simp only [State.kept_mk, State.kept_fold, apply_ite State.kept, ite_self, State.setClass_kept, perf_kept]

theorem drrPick_kept (k : Nat) (elig : List Nat) (f : Nat) (s : State) : (drrPick k elig f s).2.kept = s.kept := by
  induction f generalizing s with
  | zero => rfl
  | succ f ih =>
    rw [drrPick]
    dsimp only
    repeat' first
      | with_reducible rfl
      | (simp only [ih, State.setClass_kept, State.setSched_kept]; done)
      | split

theorem pick_kept (k : Nat) (s : State) : (pick k s).2.kept = s.kept := by
  unfold pick
  repeat' first
    | with_reducible rfl
    | (simp only [State.kept_mk, State.kept_fold, apply_ite State.kept, ite_self, drrPick_kept]; done)
    | split
    | dsimp only

theorem pick_kept' {k : Nat} {s : State} {x' : _} {r' : State} (h' : pick k s = (x', r')) : r'.kept = s.kept := by
  have k' := pick_kept k s
  rw [h'] at k'
  exact k'

theorem startCopy_kept (n : Nat) (s : State) : (startCopy n s).kept = s.kept := by
  unfold startCopy
  repeat' first
    | with_reducible rfl
    | (simp only [State.kept_mk, State.kept_fold, apply_ite State.kept, ite_self, State.modSched_kept, perf_kept, countRewrite_kept, shape_kept, popHead_kept]; done)
    | split
    | dsimp only

theorem hostReturn_kept (s : State) : (hostReturn s).kept = s.kept := by
  unfold hostReturn
  repeat' first
    | with_reducible rfl
    | (simp only [State.kept_mk, State.kept_fold, apply_ite State.kept, ite_self, State.modSched_kept, setQueue_kept]; done)
    | split
    | dsimp only

theorem preparePick_kept (k : Nat) (s : State) : (preparePick k s).kept = s.kept := by
  unfold preparePick
  simp only [State.kept_foldl, implies_true, State.kept_mk, State.kept_fold, apply_ite State.kept, ite_self, cleanHeads_kept, noteClass_kept]

theorem loseHead_kept (n : Nat) (s : State) : (loseHead n s).kept = s.kept := by
  unfold loseHead
  repeat' first
    | with_reducible rfl
    | (simp only [State.kept_foldl, implies_true, State.kept_mk, State.kept_fold, apply_ite State.kept, apply_ite Prod.snd, ite_self, discardCopy_kept, popHead_kept]; done)
    | split
    | dsimp only

theorem startRead_kept (n : Nat) (desc buf : SramRead) (s : State) : (startRead n desc buf s).kept = s.kept := by
  unfold startRead
  repeat' first
    | with_reducible rfl
    | (simp only [State.kept_foldl, implies_true, State.kept_mk, State.kept_fold, apply_ite State.kept, apply_ite Prod.snd, ite_self, sramRead_kept, startCopy_kept, loseHead_kept]; done)
    | split
    | dsimp only

theorem tmSelect_kept (k : Nat) (desc buf : SramRead) (s : State) : (tmSelect k desc buf s).kept = s.kept := by
  unfold tmSelect
  dsimp only
  have ht : (if k = 65 then hostReturn s else s).kept = s.kept := by simp only [apply_ite State.kept, hostReturn_kept, ite_self]
  generalize (if k = 65 then hostReturn s else s) = t at ht ⊢
  rw [← ht]
  split
  · rfl
  · have hk := pick_kept k (preparePick k t)
    generalize pick k (preparePick k t) = p at hk ⊢
    obtain ⟨c, w⟩ := p
    dsimp only at hk ⊢
    cases c
    · exact hk.trans (preparePick_kept ..)
    · exact (startRead_kept ..).trans (hk.trans (preparePick_kept ..))

theorem chargeEnd_kept (k : Nat) (y : Sending) (len : Nat) (s : State) : (chargeEnd k y len s).kept = s.kept := by
  unfold chargeEnd
  simp only [State.kept_mk, State.kept_fold, apply_ite State.kept, ite_self, State.setClass_kept, State.modSched_kept, flushFc_kept, settleEmpty_kept, shape_kept]

theorem endBad_kept (k : Nat) (y : Sending) (out : Bytes) (s : State) : (endBad k y out s).kept = s.kept := by
  unfold endBad
  simp only [State.kept_mk, State.kept_fold, bump_kept, cause_kept, perf_kept, winCount_kept, release_kept, countCopy_kept, chargeEnd_kept]

theorem endGood_kept (k : Nat) (y : Sending) (out : Bytes) (s : State) : (endGood k y out s).kept = s.kept := by
  unfold endGood
  simp only [State.kept_mk, State.kept_fold, apply_ite State.kept, ite_self, winCount_kept, release_kept, countCopy_kept, linkSend_kept, chargeEnd_kept]

theorem txEnd_kept (k : Nat) (buf : SramRead) (s : State) : (txEnd k buf s).kept = s.kept := by
  unfold txEnd
  repeat' first
    | with_reducible rfl
    | (simp only [State.kept_mk, State.kept_fold, apply_ite State.kept, ite_self, discardCopy_kept, sramRead_kept, countRewrite_kept, chargeEnd_kept, endBad_kept, endGood_kept]; done)
    | split
    | dsimp only

theorem underrun_kept (k : Nat) (s : State) : (underrun k s).kept = s.kept := by
  unfold underrun
  repeat' first
    | with_reducible rfl
    | (simp only [State.kept_mk, State.kept_fold, apply_ite State.kept, ite_self, endBad_kept]; done)
    | split
    | dsimp only

theorem gateBoundary_kept (p : Nat) (s : State) : (gateBoundary p s).kept = s.kept := by
  unfold gateBoundary
  repeat' first
    | with_reducible rfl
    | (simp only [State.kept_foldl, implies_true, State.kept_mk, State.kept_fold, apply_ite State.kept, apply_ite Prod.snd, ite_self, State.setSched_kept, State.setClass_kept]; done)
    | split
    | dsimp only

theorem holdDiscard_kept (n f : Nat) (s : State) : (holdDiscard n f s).kept = s.kept := by
  induction f generalizing s with
  | zero => rfl
  | succ f ih =>
    rw [holdDiscard]
    repeat' first
      | with_reducible rfl
      | (simp only [ih, discardCopy_kept, perf_kept, cause_kept, popHead_kept]; done)
      | split

theorem holdExpiry_kept (n : Nat) (s : State) : (holdExpiry n s).kept = s.kept := by
  unfold holdExpiry
  simp only [State.kept_mk, State.kept_fold, apply_ite State.kept, ite_self, holdDiscard_kept]

theorem freezeQueues_kept (k : Nat) (s : State) : (freezeQueues k s).kept = s.kept := by
  unfold freezeQueues
  dsimp only
  rw [State.kept_foldl _ fun t n => by split; exact holdDiscard_kept ..; rfl]
  split <;> simp only [release_kept, countCopy_kept, State.kept_foldl, State.setClass_kept, State.setSched_kept, implies_true]

theorem resumeQueues_kept (k : Nat) (s : State) : (resumeQueues k s).kept = s.kept := by
  unfold resumeQueues
  simp only [State.kept_foldl, implies_true, State.kept_mk, State.kept_fold, apply_ite State.kept, ite_self, State.setClass_kept, State.modSched_kept]

theorem polWrite_kept (cmd : Nat) (fill : Bool) (s : State) : (polWrite cmd fill s).kept = s.kept := by
  unfold polWrite
  simp only [setPolicer_kept]

theorem polRead_kept (cmd : Nat) (clear : Bool) (s : State) : (polRead cmd clear s).kept = s.kept := by
  unfold polRead
  simp only [regStore_kept, setField_kept, setPolicer_kept]

theorem polCommand_kept (v : Word32) (s : State) : (polCommand v s).kept = s.kept := by
  unfold polCommand
  repeat' first
    | with_reducible rfl
    | (simp only [State.kept_mk, State.kept_fold, apply_ite State.kept, ite_self, regStore_kept, setField_kept, polWrite_kept, polRead_kept]; done)
    | split
    | dsimp only

theorem polRow_kept (op : Nat) (cmd : Word32) (s : State) : (polRow op cmd s).kept = s.kept := by
  unfold polRow
  simp only [State.kept_foldl, implies_true, State.kept_mk, State.kept_fold, apply_ite State.kept, ite_self, gated_kept, polCommand_kept]

/-! ### Dma -/

theorem hostSkip_kept (c : Copy) (s : State) : (hostSkip c s).kept = s.kept := by
  unfold hostSkip
  repeat' first
    | with_reducible rfl
    | (simp only [State.kept_foldl, implies_true, State.kept_mk, State.kept_fold, apply_ite State.kept, apply_ite Prod.snd, ite_self, bump_kept]; done)
    | split
    | dsimp only

theorem packetDone_kept (s : State) : (packetDone s).kept = s.kept := by
  unfold packetDone
  repeat' first
    | with_reducible rfl
    | (simp only [State.kept_mk, State.kept_fold, apply_ite State.kept, ite_self, State.modSched_kept, bump_kept, perf_kept, release_kept, countCopy_kept, chargeEnd_kept, hostSkip_kept]; done)
    | split
    | dsimp only

theorem packetWrite_kept (n : Nat) (y : Sending) (s : State) : (packetWrite n y s).kept = s.kept := by
  unfold packetWrite
  repeat' first
    | with_reducible rfl
    | (simp only [State.kept_mk, State.kept_fold, apply_ite State.kept, ite_self, placeRec_kept, packetDone_kept]; done)
    | split
    | dsimp only

theorem dumpWrite_kept (n : Nat) (b : Bytes) (s : State) : (dumpWrite n b s).kept = s.kept := by
  unfold dumpWrite
  simp only [State.kept_mk, State.kept_fold, apply_ite State.kept, ite_self, perf_kept, placeRec_kept]

theorem spanDone_kept (kind : Nat) (s : State) : (spanDone kind s).kept = s.kept := by
  unfold spanDone
  simp only [State.kept_mk, State.kept_fold, apply_ite State.kept, ite_self, perf_kept, packetDone_kept]

theorem recordWrite.dumpNext_kept (n : Nat) (s : State) : (recordWrite.dumpNext n s).kept = s.kept := by
  unfold recordWrite.dumpNext
  split
  · split
    · exact dumpWrite_kept ..
    · rfl
  · rfl

theorem recordWrite_kept (n : Nat) (s : State) : (recordWrite n s).kept = s.kept := by
  unfold recordWrite
  dsimp only
  repeat' first
    | with_reducible rfl
    | (simp only [spanDone_kept, placeRest_kept, packetWrite_kept, recordWrite.dumpNext_kept]; done)
    | split

theorem starveInterval_kept (n : Nat) (s : State) : (starveInterval n s).kept = s.kept := by
  unfold starveInterval
  simp only [State.kept_mk, State.kept_fold, apply_ite State.kept, ite_self, State.modRing_kept, bump_kept, cause_kept]

/-! ### Ports -/

theorem noteLink_kept (p : Nat) (s : State) : (noteLink p s).kept = s.kept := by
  unfold noteLink
  simp only [emit_kept]

theorem setLanes_kept (p : Nat) (f : Lane → Lane) (s : State) : (setLanes p f s).kept = s.kept := by
  rfl

theorem leaveTo_kept (p : Nat) (st : LinkState) (s : State) : (leaveTo p st s).kept = s.kept := by
  unfold leaveTo
  simp only [State.kept_mk, State.kept_fold, apply_ite State.kept, ite_self, State.setPort_kept, bump_kept, cause_kept, freezeQueues_kept, noteLink_kept, setLanes_kept]

theorem portStart_kept (p : Nat) (s : State) : (portStart p s).kept = s.kept := by
  unfold portStart
  simp only [State.kept_mk, State.kept_fold, apply_ite State.kept, ite_self, State.modPort_kept, leaveTo_kept]

theorem portStop_kept (p : Nat) (s : State) : (portStop p s).kept = s.kept := by
  unfold portStop
  simp only [State.kept_mk, State.kept_fold, apply_ite State.kept, ite_self, leaveTo_kept]

theorem portCtrlWrite_kept (p : Nat) (v : Word32) (s : State) : (portCtrlWrite p v s).kept = s.kept := by
  unfold portCtrlWrite
  simp only [State.kept_mk, State.kept_fold, apply_ite State.kept, ite_self, regStore_kept, portStart_kept, portStop_kept]

theorem acquireDone_kept (p : Nat) (s : State) : (acquireDone p s).kept = s.kept := by
  unfold acquireDone
  simp only [State.kept_mk, State.kept_fold, apply_ite State.kept, ite_self, State.modPort_kept, setLanes_kept]

theorem alignDone_kept (p : Nat) (s : State) : (alignDone p s).kept = s.kept := by
  unfold alignDone
  simp only [State.kept_mk, State.kept_fold, apply_ite State.kept, ite_self, State.setPort_kept, setLanes_kept]

theorem linkUp_kept (p : Nat) (s : State) : (linkUp p s).kept = s.kept := by
  unfold linkUp
  repeat' first
    | with_reducible rfl
    | (simp only [State.kept_mk, State.kept_fold, apply_ite State.kept, ite_self, State.setPort_kept, cause_kept, fcUpdate_kept, resumeQueues_kept, noteLink_kept]; done)
    | split
    | dsimp only

theorem noteLoss_kept (p : Nat) (why : LinkLoss) (lane : Nat) (s : State) : (noteLoss p why lane s).kept = s.kept := by
  unfold noteLoss
  simp only [State.kept_foldl, implies_true, State.kept_mk, State.kept_fold, apply_ite State.kept, ite_self, State.setPort_kept, cause_kept]

theorem linkDown_kept (p : Nat) (why : LinkLoss) (lane : Nat) (s : State) : (linkDown p why lane s).kept = s.kept := by
  unfold linkDown
  simp only [State.kept_mk, State.kept_fold, apply_ite State.kept, ite_self, leaveTo_kept, noteLoss_kept]

theorem remoteFault_kept (p : Nat) (s : State) : (remoteFault p s).kept = s.kept := by
  unfold remoteFault
  simp only [State.kept_mk, State.kept_fold, apply_ite State.kept, ite_self, noteLoss_kept]

theorem refclkEthLoss_kept (s : State) : (refclkEthLoss s).kept = s.kept := by
  unfold refclkEthLoss
  simp only [State.kept_foldl, implies_true, State.kept_mk, State.kept_fold, apply_ite State.kept, ite_self, portStop_kept]

theorem refclkEthReturn_kept (s : State) : (refclkEthReturn s).kept = s.kept := by
  unfold refclkEthReturn
  simp only [State.kept_foldl, implies_true, State.kept_mk, State.kept_fold, apply_ite State.kept, ite_self, portStart_kept]

theorem octetStop_kept (o : Nat) (s : State) : (octetStop o s).kept = s.kept := by
  unfold octetStop
  simp only [State.kept_foldl, implies_true, State.kept_mk, State.kept_fold, apply_ite State.kept, ite_self, portStop_kept]

theorem octetStart_kept (o : Nat) (s : State) : (octetStart o s).kept = s.kept := by
  unfold octetStart
  simp only [State.kept_foldl, implies_true, State.kept_mk, State.kept_fold, apply_ite State.kept, ite_self, portStart_kept]

/-! ### Tether -/

theorem tethBringUp_kept (s : State) : (tethBringUp s).kept = s.kept := by
  unfold tethBringUp
  simp only [State.kept_mk, State.kept_fold, apply_ite State.kept, ite_self, cause_kept]

theorem tethCtrlWrite_kept (v : Word32) (s : State) : (tethCtrlWrite v s).kept = s.kept := by
  unfold tethCtrlWrite
  simp only [State.kept_mk, State.kept_fold, apply_ite State.kept, ite_self, regStore_kept, tethBringUp_kept]

theorem tethTrained_kept (s : State) : (tethTrained s).kept = s.kept := by
  unfold tethTrained
  repeat' first
    | with_reducible rfl
    | (simp only [State.kept_mk, State.kept_fold, apply_ite State.kept, ite_self]; done)
    | split
    | dsimp only

theorem laneCheck_kept (errors : List Nat) (peer : Nat) (s : State) : (laneCheck errors peer s).kept = s.kept := by
  unfold laneCheck
  simp only [State.kept_mk, State.kept_fold, apply_ite State.kept, ite_self]

theorem resendAll_kept (s : State) : (resendAll s).kept = s.kept := by
  unfold resendAll
  simp only [State.kept_foldl, implies_true, State.kept_mk, State.kept_fold, apply_ite State.kept, ite_self, linkOut_kept]

theorem tethLinkUp_kept (peer set : Nat) (s : State) : (tethLinkUp peer set s).kept = s.kept := by
  unfold tethLinkUp
  simp only [State.kept_mk, State.kept_fold, apply_ite State.kept, ite_self, cause_kept, resendAll_kept]

theorem tethReform_kept (m announced : Nat) (s : State) : (tethReform m announced s).kept = s.kept := by
  unfold tethReform
  simp only [State.kept_mk, State.kept_fold, apply_ite State.kept, ite_self, bump_kept, cause_kept, emit_kept, tethBringUp_kept, resendAll_kept]

theorem tethLinkDown_kept (s : State) : (tethLinkDown s).kept = s.kept := by
  unfold tethLinkDown
  simp only [State.kept_mk, State.kept_fold, apply_ite State.kept, ite_self, tethBringUp_kept]

theorem linkAck_kept (n : Nat) (s : State) : (linkAck n s).kept = s.kept := by
  rfl

theorem linkLasting_kept (kind : Nat) (s : State) : (linkLasting kind s).kept = s.kept := by
  unfold linkLasting
  simp only [bump_kept, cause_kept, emit_kept]

theorem linkNak_kept (n : Nat) (noData : Bool) (s : State) : (linkNak n noData s).kept = s.kept := by
  unfold linkNak
  repeat' first
    | with_reducible rfl
    | (simp only [State.kept_mk, State.kept_fold, apply_ite State.kept, ite_self, bump_kept, perf_kept, linkOut_kept, linkAck_kept, linkLasting_kept]; done)
    | split
    | dsimp only

theorem linkTake_kept (kind n : Nat) (ok : Bool) (s : State) : (linkTake kind n ok s).kept = s.kept := by
  unfold linkTake
  simp only [State.kept_foldl, implies_true, State.kept_mk, State.kept_fold, apply_ite State.kept, ite_self, linkReply_kept, linkLasting_kept]

theorem linkRx_kept (kind n : Nat) (ok : Bool) (ack nak : Option (BitVec 16)) (buf : SramRead) (s : State) : (linkRx kind n ok ack nak buf s).kept = s.kept := by
  unfold linkRx
  repeat' first
    | with_reducible rfl
    | (simp only [State.kept_mk, State.kept_fold, apply_ite State.kept, ite_self, perf_kept, sramRead_kept, linkAck_kept, linkNak_kept, linkTake_kept]; done)
    | split
    | dsimp only

theorem linkQueue_kept (kind : Nat) (payload : Bytes) (s : State) : (linkQueue kind payload s).kept = s.kept := by
  unfold linkQueue
  simp only [State.kept_mk, State.kept_fold, freshTeth_kept, linkSend_kept]

theorem linkPump_kept (s : State) : (linkPump s).kept = s.kept := by
  unfold linkPump
  repeat' first
    | with_reducible rfl
    | (simp only [State.kept_mk, State.kept_fold, apply_ite State.kept, ite_self, bump_kept, perf_kept, linkQueue_kept]; done)
    | split
    | dsimp only

theorem tethTick_kept (s : State) : (tethTick s).kept = s.kept := by
  unfold tethTick
  simp only [State.kept_mk, State.kept_fold, linkPump_kept]

theorem recoverFail_kept (outcome : Nat) (r : Recovery) (s : State) : (recoverFail outcome r s).kept = s.kept := by
  unfold recoverFail
  split <;> simp only [State.kept_mk, State.kept_fold, bump_kept, peerAnswer_kept, auditAnswer_kept]

theorem failRecoveries_kept (p : Recovery → Bool) (outcome : Nat) (s : State) : (failRecoveries p outcome s).kept = s.kept := by
  unfold failRecoveries
  simp only [State.kept_foldl, implies_true, State.kept_mk, State.kept_fold, apply_ite State.kept, ite_self, recoverFail_kept]

theorem unpair_kept (s : State) : (unpair s).kept = s.kept := by
  unfold unpair
  simp only [State.kept_mk, State.kept_fold, freezeQueues_kept]

theorem noteLost_kept (s : State) : (noteLost s).kept = s.kept := by
  unfold noteLost
  simp only [State.kept_mk, State.kept_fold, stamp_kept]

theorem setPairState_kept (p : PairState) (s : State) : (setPairState p s).kept = s.kept := by
  unfold setPairState
  repeat' first
    | with_reducible rfl
    | (simp only [State.kept_mk, State.kept_fold, apply_ite State.kept, ite_self, bump_kept, cause_kept, emit_kept, perf_kept, resumeQueues_kept, failRecoveries_kept, unpair_kept, noteLost_kept]; done)
    | split
    | dsimp only

theorem heartbeatSend_kept (s : State) : (heartbeatSend s).kept = s.kept := by
  unfold heartbeatSend
  simp only [State.kept_mk, State.kept_fold, apply_ite State.kept, ite_self, linkQueue_kept]

theorem heartbeatRx_kept (msg : Bytes) (s : State) : (heartbeatRx msg s).kept = s.kept := by
  unfold heartbeatRx
  repeat' first
    | with_reducible rfl
    | (simp only [State.kept_mk, State.kept_fold, apply_ite State.kept, ite_self, setPair_kept, setPairState_kept]; done)
    | split
    | dsimp only

theorem peerLost_kept (s : State) : (peerLost s).kept = s.kept := by
  unfold peerLost
  simp only [State.kept_mk, State.kept_fold, apply_ite State.kept, ite_self, setPairState_kept]

theorem mirrorApply_kept (msg : Bytes) (s : State) : (mirrorApply msg s).kept = s.kept := by
  unfold mirrorApply
  dsimp only
  split
  · rfl
  · split
    · exact mirrorOnTill_kept ..
    · exact State.kept_getD (fun t h => attach_kept' h) rfl

theorem tetherCopy_kept (header data : Bytes) (s : State) : (tetherCopy header data s).kept = s.kept := by
  unfold tetherCopy
  repeat' first
    | with_reducible rfl
    | (simp only [State.kept_mk, State.kept_fold, apply_ite State.kept, ite_self, bump_kept, setFrame_kept, dropFrame_kept, release_kept, makeCopy_kept, badTarget_kept, fillCells_kept]; done)
    | split
    | dsimp only

theorem recoverLook_kept (msg : Bytes) (s : State) : (recoverLook msg s).2.kept = s.kept := by
  unfold recoverLook
  repeat' first
    | with_reducible rfl
    | (simp only [State.kept_mk, State.kept_fold, apply_ite State.kept, ite_self, readRecord_kept, closeWay_kept, noteState_kept, searchBoth_kept]; done)
    | split
    | dsimp only

theorem recoverLook_kept' {msg : Bytes} {s : State} {x' : _} {r' : State} (h' : recoverLook msg s = (x', r')) : r'.kept = s.kept := by
  have k' := recoverLook_kept msg s
  rw [h'] at k'
  exact k'

theorem recoverRequest_kept (msg : Bytes) (s : State) : (recoverRequest msg s).kept = s.kept := by
  unfold recoverRequest
  simp only [State.kept_mk, State.kept_fold, apply_ite State.kept, ite_self, recoverLook_kept]

theorem recoverResponse_kept (msg : Bytes) (s : State) : (recoverResponse msg s).kept = s.kept := by
  unfold recoverResponse
  repeat' first
    | with_reducible rfl
    | (simp only [State.kept_mk, State.kept_fold, apply_ite State.kept, ite_self, peerAnswer_kept, auditAnswer_kept, recoverFail_kept]; done)
    | split
    | dsimp only

theorem recoverTimeout_kept (s : State) : (recoverTimeout s).kept = s.kept := by
  unfold recoverTimeout
  simp only [failRecoveries_kept]

theorem tethOff_kept (s : State) : (tethOff s).kept = s.kept := by
  unfold tethOff
  simp only [State.kept_mk, State.kept_fold, apply_ite State.kept, ite_self, cause_kept, setPairState_kept]

/-! ### VaultCtl -/

theorem forceRefresh_kept (c n : Nat) (s : State) : (forceRefresh c n s).kept = s.kept := by
  unfold forceRefresh
  simp only [State.kept_foldl, implies_true, State.kept_mk, State.kept_fold, apply_ite State.kept, ite_self, bumpN_kept, perfN_kept]

theorem refreshAccrual_kept (c cs set : Nat) (s : State) : (refreshAccrual c cs set s).kept = s.kept := by
  unfold refreshAccrual
  simp only [State.kept_mk, State.kept_fold, apply_ite State.kept, ite_self, State.setChan_kept, forceRefresh_kept]

theorem refreshIssue_kept (c cs set : Nat) (s : State) : (refreshIssue c cs set s).kept = s.kept := by
  unfold refreshIssue
  simp only [State.kept_mk, State.kept_fold, apply_ite State.kept, ite_self, State.setChan_kept]

theorem payHot_kept (c : Nat) (s : State) : (payHot c s).kept = s.kept := by
  unfold payHot
  simp only [State.setChan_kept, forceRefresh_kept]

theorem noteTherm_kept (c : Nat) (hot fail : Bool) (t : Int) (s : State) : (noteTherm c hot fail t s).kept = s.kept := by
  unfold noteTherm
  simp only [emit_kept]

theorem sensorFailed_kept (c : Nat) (s : State) : (sensorFailed c s).kept = s.kept := by
  unfold sensorFailed
  simp only [State.kept_mk, State.kept_fold, apply_ite State.kept, ite_self, State.setChan_kept, setField_kept, cause_kept, payHot_kept, noteTherm_kept]

theorem sensorRead_kept (c : Nat) (t : Int) (s : State) : (sensorRead c t s).kept = s.kept := by
  unfold sensorRead
  simp only [State.kept_mk, State.kept_fold, apply_ite State.kept, ite_self, State.setChan_kept, regStore_kept, cause_kept, payHot_kept, noteTherm_kept]

theorem dimmTemp_kept (c : Nat) (temps : List Int) (s : State) : (dimmTemp c temps s).kept = s.kept := by
  unfold dimmTemp
  repeat' first
    | with_reducible rfl
    | (simp only [State.kept_mk, State.kept_fold, apply_ite State.kept, ite_self, State.setChan_kept, sensorFailed_kept, sensorRead_kept]; done)
    | split
    | dsimp only

theorem noteSr_kept (c what : Nat) (s : State) : (noteSr c what s).kept = s.kept := by
  unfold noteSr
  simp only [emit_kept]

theorem srBegin_kept (why : SrCause) (c : Nat) (s : State) : (srBegin why c s).kept = s.kept := by
  unfold srBegin
  simp only [State.kept_foldl, implies_true, State.kept_mk, State.kept_fold, apply_ite State.kept, ite_self, State.modChan_kept, closeMerge_kept]

theorem srBeginAll_kept (s : State) : (srBeginAll s).kept = s.kept := by
  unfold srBeginAll
  repeat' first
    | with_reducible rfl
    | (simp only [State.kept_foldl, implies_true, State.kept_mk, State.kept_fold, apply_ite State.kept, apply_ite Prod.snd, ite_self, srBegin_kept]; done)
    | split
    | dsimp only

theorem srEndAll_kept (s : State) : (srEndAll s).kept = s.kept := by
  unfold srEndAll
  simp only [State.kept_foldl, implies_true, State.kept_mk, State.kept_fold, apply_ite State.kept, ite_self, State.modChan_kept]

theorem srEntered_kept (c : Nat) (s : State) : (srEntered c s).kept = s.kept := by
  unfold srEntered
  simp only [State.kept_mk, State.kept_fold, apply_ite State.kept, ite_self, State.modChan_kept, noteSr_kept]

theorem srArrival_kept (c : Nat) (issued : Bool) (s : State) : (srArrival c issued s).kept = s.kept := by
  unfold srArrival
  repeat' first
    | with_reducible rfl
    | (simp only [State.kept_mk, State.kept_fold, apply_ite State.kept, ite_self, State.setChan_kept, bump_kept, noteSr_kept]; done)
    | split
    | dsimp only

theorem srExitDone_kept (c : Nat) (s : State) : (srExitDone c s).kept = s.kept := by
  unfold srExitDone
  simp only [State.kept_mk, State.kept_fold, apply_ite State.kept, ite_self, State.modChan_kept, noteSr_kept]

theorem srRetry_kept (c : Nat) (s : State) : (srRetry c s).kept = s.kept := by
  unfold srRetry
  repeat' first
    | with_reducible rfl
    | (simp only [State.kept_mk, State.kept_fold, apply_ite State.kept, ite_self, srBegin_kept]; done)
    | split
    | dsimp only

theorem noteTrainFail_kept (rank step : Nat) (s : State) : (noteTrainFail rank step s).kept = s.kept := by
  unfold noteTrainFail
  simp only [regStore_kept, cause_kept, emit_kept]

theorem zqCalibration_kept (rank : Nat) (zqOk dqsOk : Bool) (s : State) : (zqCalibration rank zqOk dqsOk s).kept = s.kept := by
  unfold zqCalibration
  simp only [State.kept_mk, State.kept_fold, apply_ite State.kept, ite_self, State.setChan_kept, State.modChan_kept, rankLasting_kept, noteTrainFail_kept]

theorem freeRecord_kept (n : Nat) (r : Rec) (s : State) : (freeRecord n r s).2.kept = s.kept := by
  induction n generalizing r s with
  | zero => rfl
  | succ n ih => rw [freeRecord]; simp only [ih, takeFree_kept]

theorem noteCaParity_kept (rank : Nat) (unlisted : Bool) (a : Nat) (s : State) : (noteCaParity rank unlisted a s).kept = s.kept := by
  unfold noteCaParity
  simp only [emit_kept]

theorem failedWrite_kept (rank a : Nat) (s : State) : (failedWrite rank a s).kept = s.kept := by
  unfold failedWrite
  repeat' first
    | with_reducible rfl
    | (simp only [State.kept_foldl, implies_true, State.kept_mk, State.kept_fold, apply_ite State.kept, apply_ite Prod.snd, ite_self, State.modChan_kept, cause_kept, occStep_kept, freeRecord_kept, noteCaParity_kept]; done)
    | split
    | dsimp only

theorem failedOp_kept (t : Nat) (m : MemOp) (s : State) : (failedOp t m s).kept = s.kept := by
  unfold failedOp
  simp only [State.kept_foldl, implies_true, State.kept_mk, State.kept_fold, apply_ite State.kept, ite_self, modMem_kept, finishOp_kept]

theorem failedRead_kept (a : Nat) (s : State) : (failedRead a s).kept = s.kept := by
  unfold failedRead
  dsimp only
  have h : ∀ l : List (Nat × Teller), ∀ u : State, (l.foldl (fun s p =>
      (p.2.mem.filter (readsRecord s.vault a)).foldl (fun s m => failedOp p.1 m s) s) u).kept = u.kept := fun l u =>
    State.kept_foldl _ (fun u p => State.kept_foldl _ (fun v m => failedOp_kept ..) _ _) _ _
  split
  · rw [State.kept_foldl]
    · exact h ..
    · intro t e
      split
      · simp only [apply_ite State.kept, candidateRead_kept, ite_self]
      · rfl
  · exact h ..

theorem caParity_kept (c rank : Nat) (ok : Bool) (reads writes : List Nat) (s : State) : (caParity c rank ok reads writes s).kept = s.kept := by
  unfold caParity
  simp only [State.kept_foldl, implies_true, State.kept_mk, State.kept_fold, apply_ite State.kept, ite_self, bump_kept, cause_kept, rankLasting_kept, noteCaParity_kept, failedWrite_kept, failedRead_kept]

theorem ceWindowEnd_kept (c : Nat) (s : State) : (ceWindowEnd c s).kept = s.kept := by
  unfold ceWindowEnd
  simp only [State.kept_mk, State.kept_fold, apply_ite State.kept, ite_self, State.setChan_kept]

theorem spareCtrlWrite_kept (v : Word32) (s : State) : (spareCtrlWrite v s).kept = s.kept := by
  unfold spareCtrlWrite
  simp only [State.kept_mk, State.kept_fold, apply_ite State.kept, ite_self, regStore_kept, candidate_kept]

theorem spareSwitch_kept (s : State) : (spareSwitch s).kept = s.kept := by
  unfold spareSwitch
  simp only [State.kept_mk, State.kept_fold, cause_kept, stamp_kept, emit_kept]

theorem migrationRead_kept (found : AuditFound) (s : State) : (migrationRead found s).2.kept = s.kept := by
  unfold migrationRead
  repeat' first
    | with_reducible rfl
    | (simp only [State.kept_foldl, implies_true, State.kept_mk, State.kept_fold, apply_ite State.kept, apply_ite Prod.snd, ite_self, bump_kept, chanRead_kept, noteLasting_kept, noteTransient_kept, countFix_kept, settleMerge_kept]; done)
    | split
    | dsimp only

theorem migrationRead_kept' {found : AuditFound} {s : State} {x' : _} {r' : State} (h' : migrationRead found s = (x', r')) : r'.kept = s.kept := by
  have k' := migrationRead_kept found s
  rw [h'] at k'
  exact k'

theorem migrateRecord_kept (found : AuditFound) (s : State) : (migrateRecord found s).kept = s.kept := by
  unfold migrateRecord
  simp only [State.kept_foldl, implies_true, State.kept_mk, State.kept_fold, apply_ite State.kept, ite_self, State.modChan_kept, chanWrite_kept, migrationRead_kept]

theorem migrationCopy_kept (found : AuditFound) (s : State) : (migrationCopy found s).kept = s.kept := by
  unfold migrationCopy
  simp only [State.kept_mk, State.kept_fold, apply_ite State.kept, ite_self, spareSwitch_kept, migrateRecord_kept]

theorem notePiece_kept (r : Nat) (s : State) : (notePiece r s).kept = s.kept := by
  unfold notePiece
  simp only [State.modChan_kept]

theorem windowPiece_kept (a r : Nat) (s : State) : (windowPiece a r s).2.2.kept = s.kept := by
  unfold windowPiece
  dsimp only
  split <;> simp only [emit_kept, cause_kept, setPair_kept, bump_kept, freeRecord_kept, readRecord_kept, notePiece_kept]

theorem windowPiece_kept' {a : Nat} {r : Nat} {s : State} {x' : _} {y' : _} {r' : State} (h' : windowPiece a r s = (x', y', r')) : r'.kept = s.kept := by
  have k' := windowPiece_kept a r s
  rw [h'] at k'
  exact k'

theorem windowRead_kept (a len : Nat) (s : State) : (windowRead a len s).kept = s.kept := by
  unfold windowRead
  have hx := State.kept_foldl3 (fun (x : Bytes × Bool × State) r =>
    (x.1 ++ (windowPiece a r x.2.2).1, x.2.1 || (windowPiece a r x.2.2).2.1, (windowPiece a r x.2.2).2.2))
    (fun x r => by simp only [windowPiece_kept]) (recordsOf a len) ([], false, s)
  dsimp only at hx ⊢
  generalize List.foldl (fun (x : Bytes × Bool × State) r =>
    (x.1 ++ (windowPiece a r x.2.2).1, x.2.1 || (windowPiece a r x.2.2).2.1, (windowPiece a r x.2.2).2.2)) ([], false, s) (recordsOf a len) = x at hx ⊢
  obtain ⟨x1, x2, u⟩ := x
  dsimp only at hx ⊢
  split
  · simp only [State.kept_mk, State.kept_fold]
    rw [complete_kept, hx]
  · rw [complete_kept, hx]

theorem hostPiece_kept (a : Nat) (data : Bytes) (be : List Bool) (r : Nat) (s : State) : (hostPiece a data be r s).kept = s.kept := by
  unfold hostPiece
  simp only [State.kept_mk, State.kept_fold, apply_ite State.kept, ite_self, countWrite_kept, storeRecord_kept, partialWrite_kept, notePiece_kept]

theorem windowWrite_kept (a : Nat) (data : Bytes) (be : List Bool) (s : State) : (windowWrite a data be s).kept = s.kept := by
  unfold windowWrite
  simp only [State.kept_foldl, implies_true, State.kept_mk, State.kept_fold, apply_ite State.kept, ite_self, bump_kept, cause_kept, emit_kept, complete_kept, hostPiece_kept]

theorem windowAct_kept (q : WinReq) (s : State) : (windowAct q s).kept = s.kept := by
  unfold windowAct
  repeat' first
    | with_reducible rfl
    | (simp only [State.kept_foldl, implies_true, State.kept_mk, State.kept_fold, apply_ite State.kept, apply_ite Prod.snd, ite_self, windowRead_kept, windowWrite_kept]; done)
    | split
    | dsimp only

theorem windowHold_kept (q : WinReq) (s : State) : (windowHold q s).kept = s.kept := by
  unfold windowHold
  simp only [State.kept_foldl, implies_true, State.kept_mk, State.kept_fold, apply_ite State.kept, ite_self, srArrival_kept]

theorem windowAccess_kept (off : Nat) (q : WinReq) (s : State) : (windowAccess off q s).kept = s.kept := by
  unfold windowAccess
  simp only [State.kept_foldl, implies_true, State.kept_mk, State.kept_fold, apply_ite State.kept, ite_self, unsupported_kept, windowAct_kept, windowHold_kept]

theorem windowTick_kept (s : State) : (windowTick s).kept = s.kept := by
  unfold windowTick
  repeat' first
    | with_reducible rfl
    | (simp only [State.kept_foldl, implies_true, State.kept_mk, State.kept_fold, apply_ite State.kept, apply_ite Prod.snd, ite_self, unsupported_kept, windowAct_kept]; done)
    | split
    | dsimp only

/-! ### Treasury -/

theorem resetCause_kept (i : Nat) (s : State) : (resetCause i s).kept = s.kept := by
  unfold resetCause
  simp only [cause_kept]

theorem paceUpdate_kept (b descs steps : Nat) (s : State) : (paceUpdate b descs steps s).kept = s.kept := by
  unfold paceUpdate
  simp only [State.kept_mk, State.kept_fold, apply_ite State.kept, ite_self, regStore_kept, bump_kept, cause_kept, emit_kept]

theorem paceOff_kept (b : Nat) (s : State) : (paceOff b s).kept = s.kept := by
  unfold paceOff
  simp only [State.kept_foldl, implies_true, State.kept_mk, State.kept_fold, apply_ite State.kept, ite_self, regStore_kept, emit_kept]

theorem setPstate_kept (p : PState) (s : State) : (setPstate p s).kept = s.kept := by
  unfold setPstate
  simp only [State.kept_mk, State.kept_fold, apply_ite State.kept, ite_self, emit_kept]

theorem settlePstate_kept (s : State) : (settlePstate s).kept = s.kept := by
  unfold settlePstate
  simp only [State.kept_mk, State.kept_fold, apply_ite State.kept, ite_self, setPstate_kept]

theorem setDomain_kept (d : Nat) (x : DomState) (s : State) : (setDomain d x s).kept = s.kept := by
  unfold setDomain
  simp only [State.kept_mk, State.kept_fold, apply_ite State.kept, ite_self, State.setDom_kept, emit_kept, settlePstate_kept]

theorem nosePowerUp_kept (s : State) : (nosePowerUp s).kept = s.kept := by
  rfl

theorem domainUp_kept (d : Nat) (kept : Bool) (s : State) : (domainUp d kept s).kept = s.kept := by
  unfold domainUp
  simp only [State.kept_mk, State.kept_fold, apply_ite State.kept, ite_self, State.modLedger_kept, cofferClear_kept, hostRelease_kept, octetStart_kept, tethBringUp_kept, setDomain_kept, nosePowerUp_kept]

theorem domainDown_kept (d : Nat) (x : DomState) (s : State) : (domainDown d x s).kept = s.kept := by
  unfold domainDown
  simp only [State.kept_mk, State.kept_fold, apply_ite State.kept, ite_self, State.modLedger_kept, writeBackAll_kept, returnAllowance_kept, cofferClear_kept, octetStop_kept, tethOff_kept, paceOff_kept, noseOff_kept, setDomain_kept]

theorem acceptDomain_kept (st : Nat) (ds : List Nat) (s : State) : (acceptDomain st ds s).kept = s.kept := by
  unfold acceptDomain
  simp only [State.kept_mk, State.kept_fold, apply_ite State.kept, ite_self]

theorem domainReqWrite_kept (v : Word32) (s : State) : (domainReqWrite v s).kept = s.kept := by
  unfold domainReqWrite
  simp only [State.kept_mk, State.kept_fold, apply_ite State.kept, ite_self, cause_kept, plainWrite_kept, acceptDomain_kept]

theorem rampStart_kept (d : Nat) (s : State) : (rampStart d s).kept = s.kept := by
  unfold rampStart
  repeat' first
    | with_reducible rfl
    | (simp only [State.kept_mk, State.kept_fold, apply_ite State.kept, ite_self, setDomain_kept]; done)
    | split
    | dsimp only

theorem quietLeft_kept (s : State) : (quietLeft s).kept = s.kept := by
  unfold quietLeft
  repeat' first
    | with_reducible rfl
    | (simp only [State.kept_mk, State.kept_fold, apply_ite State.kept, ite_self, setPstate_kept]; done)
    | split
    | dsimp only

theorem rampEnd_kept (d : Nat) (kept : Bool) (s : State) : (rampEnd d kept s).kept = s.kept := by
  unfold rampEnd
  simp only [State.kept_mk, State.kept_fold, apply_ite State.kept, ite_self, State.setUser_kept, noteAllowance_kept, domainUp_kept, quietLeft_kept]

theorem rampDone_kept (d : Nat) (s : State) : (rampDone d s).kept = s.kept := by
  unfold rampDone
  repeat' first
    | with_reducible rfl
    | (simp only [State.kept_mk, State.kept_fold, apply_ite State.kept, ite_self, rampEnd_kept]; done)
    | split
    | dsimp only

theorem powerDown_kept (d : Nat) (s : State) : (powerDown d s).kept = s.kept := by
  unfold powerDown
  split <;> simp only [State.kept_mk, State.kept_fold, domainDown_kept]

theorem setVout_kept (mv : Nat) (s : State) : (setVout mv s).kept = s.kept := by
  unfold setVout
  simp only [State.kept_mk, State.kept_fold, apply_ite State.kept, ite_self, setField_kept, bump_kept, emit_kept]

theorem avsStep_kept (s : State) : (avsStep s).kept = s.kept := by
  unfold avsStep
  repeat' first
    | with_reducible rfl
    | (simp only [State.kept_mk, State.kept_fold, apply_ite State.kept, ite_self, cause_kept, setVout_kept]; done)
    | split
    | dsimp only

theorem avsUpdate_kept (iout : Nat) (ok : Bool) (s : State) : (avsUpdate iout ok s).kept = s.kept := by
  unfold avsUpdate
  simp only [State.kept_mk, State.kept_fold, apply_ite State.kept, ite_self, setField_kept, cause_kept, avsStep_kept]

theorem avsCfgWrite_kept (v : Word32) (s : State) : (avsCfgWrite v s).kept = s.kept := by
  unfold avsCfgWrite
  simp only [State.kept_mk, State.kept_fold, apply_ite State.kept, ite_self, plainWrite_kept]

theorem quietEnter_kept (trip : Bool) (s : State) : (quietEnter trip s).kept = s.kept := by
  unfold quietEnter
  simp only [State.kept_mk, State.kept_fold, apply_ite State.kept, ite_self, cause_kept]

theorem quietSteps_kept (s : State) : (quietSteps s).kept = s.kept := by
  unfold quietSteps
  simp only [State.kept_foldl, implies_true, State.kept_mk, State.kept_fold, apply_ite State.kept, ite_self, srBeginAll_kept, setPstate_kept, domainDown_kept, setVout_kept]

theorem quietComplete_kept (s : State) : (quietComplete s).kept = s.kept := by
  unfold quietComplete
  repeat' first
    | with_reducible rfl
    | (simp only [State.kept_mk, State.kept_fold, apply_ite State.kept, ite_self, quietSteps_kept]; done)
    | split
    | dsimp only

theorem quietStall_kept (s : State) : (quietStall s).kept = s.kept := by
  unfold quietStall
  repeat' first
    | with_reducible rfl
    | (simp only [State.kept_mk, State.kept_fold, apply_ite State.kept, ite_self, cause_kept]; done)
    | split
    | dsimp only

theorem quietExit_kept (s : State) : (quietExit s).kept = s.kept := by
  unfold quietExit
  simp only [State.kept_mk, State.kept_fold, apply_ite State.kept, ite_self, cause_kept, srEndAll_kept, quietLeft_kept, setVout_kept]

theorem noteThermal_kept (what : Nat) (s : State) : (noteThermal what s).kept = s.kept := by
  unfold noteThermal
  simp only [emit_kept]

theorem crossLevel_kept (was now : Bool) (bit_ what : Nat) (s : State) : (crossLevel was now bit_ what s).kept = s.kept := by
  unfold crossLevel
  simp only [State.kept_mk, State.kept_fold, apply_ite State.kept, ite_self, cause_kept, noteThermal_kept]

theorem noteTrip_kept (s : State) : (noteTrip s).kept = s.kept := by
  unfold noteTrip
  simp only [State.kept_foldl, implies_true, State.kept_mk, State.kept_fold, apply_ite State.kept, ite_self, cause_kept, resetCause_kept, noteThermal_kept]

theorem setBrown_kept (x : Brown) (s : State) : (setBrown x s).kept = s.kept := by
  unfold setBrown
  simp only [State.kept_mk, State.kept_fold, bump_kept, emit_kept]

theorem brownWarn_kept (s : State) : (brownWarn s).kept = s.kept := by
  unfold brownWarn
  simp only [State.kept_foldl, implies_true, State.kept_mk, State.kept_fold, apply_ite State.kept, ite_self, cause_kept, brownoutFlush_kept, revokeAll_kept, noseStop_kept, setBrown_kept]

theorem pwrwarn_kept (s : State) : (pwrwarn s).kept = s.kept := by
  unfold pwrwarn
  simp only [State.kept_mk, State.kept_fold, brownWarn_kept]

theorem warnStands_kept (s : State) : (warnStands s).kept = s.kept := by
  unfold warnStands
  simp only [State.kept_foldl, implies_true, State.kept_mk, State.kept_fold, apply_ite State.kept, ite_self, pwrwarn_kept]

theorem measured_kept (mv : Nat) (s : State) : (measured mv s).kept = s.kept := by
  unfold measured
  simp only [setField_kept]

theorem vddWarn_kept (mv : Nat) (s : State) : (vddWarn mv s).kept = s.kept := by
  unfold vddWarn
  simp only [State.kept_mk, State.kept_fold, apply_ite State.kept, ite_self, brownWarn_kept, measured_kept]

theorem brownSr_kept (s : State) : (brownSr s).kept = s.kept := by
  unfold brownSr
  repeat' first
    | with_reducible rfl
    | (simp only [State.kept_mk, State.kept_fold, apply_ite State.kept, ite_self, srBeginAll_kept, setBrown_kept]; done)
    | split
    | dsimp only

theorem brownRecover_kept (mv : Nat) (s : State) : (brownRecover mv s).kept = s.kept := by
  unfold brownRecover
  simp only [State.kept_mk, State.kept_fold, apply_ite State.kept, ite_self, srEndAll_kept, setBrown_kept, measured_kept]

theorem brownNormal_kept (s : State) : (brownNormal s).kept = s.kept := by
  unfold brownNormal
  repeat' first
    | with_reducible rfl
    | (simp only [State.kept_foldl, implies_true, State.kept_mk, State.kept_fold, apply_ite State.kept, apply_ite Prod.snd, ite_self, noseResume_kept, setBrown_kept]; done)
    | split
    | dsimp only

theorem smbAnswer_kept (cmd : Nat) (data : Bytes) (pec : Bool) (s : State) : (smbAnswer cmd data pec s).kept = s.kept := by
  unfold smbAnswer
  simp only [State.kept_mk, State.kept_fold, apply_ite State.kept, ite_self]

/-! ### Sections -/

theorem loadPower_kept (b : Bytes) (s : State) : (loadPower b s).kept = s.kept := by
  unfold loadPower
  simp only [State.kept_mk, State.kept_fold, settlePstate_kept, acceptDomain_kept]

theorem stopTaps_kept (eq : Option Bytes) (s : State) : (stopTaps eq s).kept = s.kept := by
  unfold stopTaps
  simp only [State.kept_foldl, implies_true, State.kept_mk, State.kept_fold, apply_ite State.kept, ite_self, portStop_kept, tethBringUp_kept]

theorem settleTaps_kept (s : State) : (settleTaps s).kept = s.kept := by
  unfold settleTaps
  simp only [State.kept_foldl, implies_true, State.kept_mk, State.kept_fold, apply_ite State.kept, ite_self, stopTaps_kept]

theorem loadTether_kept (b : Bytes) (s : State) : (loadTether b s).kept = s.kept := by
  unfold loadTether
  simp only [State.kept_mk, State.kept_fold, apply_ite State.kept, ite_self, tethBringUp_kept, setPairState_kept]

theorem loadAutomata_kept (b : Bytes) (s : State) : (loadAutomata b s).kept = s.kept := by
  rfl

theorem loadStore_kept (inst : Nat) (b : Bytes) (s : State) : (loadStore inst b s).kept = s.kept := by
  unfold loadStore
  simp only [State.kept_foldl, implies_true, State.kept_mk, State.kept_fold, apply_ite State.kept, ite_self, State.setDesk_kept]

theorem loadQueues_kept (b : Bytes) (s : State) : (loadQueues b s).kept = s.kept := by
  rfl

theorem loadMint_kept (b : Bytes) (s : State) : (loadMint b s).kept = s.kept := by
  rfl

theorem loadRegions_kept (b : Bytes) (s : State) : (loadRegions b s).kept = s.kept := by
  rfl

/-! ### Security -/

theorem identityBad_kept (s : State) : (identityBad s).kept = s.kept := by
  unfold identityBad
  simp only [State.kept_mk, State.kept_fold, cause_kept, emit_kept]

theorem debugOpens_kept (s : State) : (debugOpens s).kept = s.kept := by
  unfold debugOpens
  simp only [State.kept_mk, State.kept_fold, apply_ite State.kept, ite_self, cause_kept, emit_kept]

theorem lifecycleChanged_kept (old : Lifecycle) (s : State) : (lifecycleChanged old s).kept = s.kept := by
  unfold lifecycleChanged
  repeat' first
    | with_reducible rfl
    | (simp only [State.kept_mk, State.kept_fold, apply_ite State.kept, ite_self, cause_kept, emit_kept, debugOpens_kept]; done)
    | split
    | dsimp only

theorem setMbox_kept (side : Bool) (c : MboxChan) (s : State) : (setMbox side c s).kept = s.kept := by
  rfl

theorem mboxGo_kept (side : Bool) (op : Nat) (s : State) : (mboxGo side op s).kept = s.kept := by
  unfold mboxGo
  simp only [State.kept_mk, State.kept_fold, apply_ite State.kept, ite_self, setMbox_kept]

theorem mboxStart_kept (side : Bool) (s : State) : (mboxStart side s).kept = s.kept := by
  unfold mboxStart
  repeat' first
    | with_reducible rfl
    | (simp only [State.kept_mk, State.kept_fold, apply_ite State.kept, ite_self, setMbox_kept]; done)
    | split
    | dsimp only

theorem mboxOutput_kept (side : Bool) (b : Bytes) (s : State) : (mboxOutput side b s).kept = s.kept := by
  unfold mboxOutput
  simp only [State.kept_foldl, implies_true, State.kept_mk, State.kept_fold, apply_ite State.kept, ite_self, regStore_kept]

theorem mboxResult_kept (side : Bool) (res : Nat) (out : Bytes) (s : State) : (mboxResult side res out s).kept = s.kept := by
  unfold mboxResult
  simp only [setMbox_kept]

theorem freeBytes_kept (n : Nat) (s : State) : (freeBytes n s).2.kept = s.kept := by
  induction n generalizing s with
  | zero => rfl
  | succ n ih => rw [freeBytes]; simp only [ih, takeFree_kept]

theorem identityBlock_kept (s : State) : (identityBlock s).2.kept = s.kept := by
  unfold identityBlock
  split <;> simp only [State.kept_mk, State.kept_fold, freeBytes_kept]

theorem identityBlock_kept' {s : State} {x' : _} {r' : State} (h' : identityBlock s = (x', r')) : r'.kept = s.kept := by
  have k' := identityBlock_kept s
  rw [h'] at k'
  exact k'

theorem getIdentity_kept (side : Bool) (s : State) : (getIdentity side s).kept = s.kept := by
  unfold getIdentity
  simp only [State.kept_mk, State.kept_fold, apply_ite State.kept, ite_self, mboxResult_kept, identityBlock_kept]

theorem getChallenge_kept (side : Bool) (s : State) : (getChallenge side s).kept = s.kept := by
  unfold getChallenge
  simp only [State.kept_mk, State.kept_fold, apply_ite State.kept, ite_self, mboxResult_kept]

theorem attest_kept (side : Bool) (s : State) : (attest side s).kept = s.kept := by
  unfold attest
  simp only [State.kept_mk, State.kept_fold, apply_ite State.kept, ite_self, mboxResult_kept]

theorem ownerCommand_kept (code : Nat) (states : List Lifecycle) (argOk : Bytes → State → Bool) (fuses : Bool)
    (work : Bytes → State → State) (ok : Bool) (s : State) (h : ∀ b s, (work b s).kept = s.kept) :
    (ownerCommand code states argOk fuses work ok s).kept = s.kept := by
  unfold ownerCommand
  dsimp only
  repeat' first
    | with_reducible rfl
    | (simp only [mboxResult_kept, h, State.kept_mk, State.kept_fold]; done)
    | split

theorem debugUnlock_kept (s : State) : (debugUnlock s).kept = s.kept := by
  unfold debugUnlock
  simp only [State.kept_foldl, implies_true, State.kept_mk, State.kept_fold, apply_ite State.kept, ite_self, debugOpens_kept, ownerCommand_kept]

theorem mboxEnd_kept (side : Bool) (res : Nat) (out : Bytes) (s : State) : (mboxEnd side res out s).kept = s.kept := by
  unfold mboxEnd
  simp only [State.kept_mk, State.kept_fold, apply_ite State.kept, ite_self, cause_kept, emit_kept, setMbox_kept, mboxOutput_kept]

theorem mboxDone_kept (side : Bool) (s : State) : (mboxDone side s).kept = s.kept := by
  unfold mboxDone
  split <;> simp only [State.kept_mk, State.kept_fold, setMbox_kept, mboxEnd_kept]

theorem mboxPerst_kept (s : State) : (mboxPerst s).kept = s.kept := by
  unfold mboxPerst
  simp only [State.kept_mk, State.kept_fold, apply_ite State.kept, ite_self, mboxEnd_kept]

theorem mboxCmdWrite_kept (v : Word32) (s : State) : (mboxCmdWrite v s).kept = s.kept := by
  unfold mboxCmdWrite
  simp only [State.kept_mk, State.kept_fold, apply_ite State.kept, ite_self, plainWrite_kept, mboxGo_kept]

theorem secWrite_kept (off : Nat) (v : Word32) (s : State) : (secWrite off v s).kept = s.kept := by
  unfold secWrite
  simp only [State.kept_mk, State.kept_fold, apply_ite State.kept, ite_self, plainWrite_kept, mboxCmdWrite_kept]

theorem mbOp_kept (op : Nat) (pec : Bool) (s : State) : (mbOp op pec s).kept = s.kept := by
  unfold mbOp
  simp only [State.kept_mk, State.kept_fold, apply_ite State.kept, ite_self, mboxGo_kept]

theorem mbAnswer_kept (cmd : Nat) (data : Bytes) (pec : Bool) (s : State) : (mbAnswer cmd data pec s).kept = s.kept := by
  unfold mbAnswer
  simp only [State.kept_mk, State.kept_fold, apply_ite State.kept, ite_self, smbAnswer_kept]

theorem mbNonce_kept (nonce : Bytes) (pec : Bool) (s : State) : (mbNonce nonce pec s).kept = s.kept := by
  unfold mbNonce
  simp only [State.kept_mk, State.kept_fold, apply_ite State.kept, ite_self, mboxOutput_kept]

theorem mbOffset_kept (offset : Nat) (pec : Bool) (s : State) : (mbOffset offset pec s).kept = s.kept := by
  unfold mbOffset
  simp only [State.kept_mk, State.kept_fold, apply_ite State.kept, ite_self]

theorem mbRead_kept (pec : Bool) (s : State) : (mbRead pec s).kept = s.kept := by
  unfold mbRead
  simp only [State.kept_mk, State.kept_fold, apply_ite State.kept, ite_self, mbAnswer_kept]

theorem jtagLoad_kept (ir : Nat) (drive : Bool) (out : Nat) (s : State) : (jtagLoad ir drive out s).kept = s.kept := by
  rfl

theorem tap_kept (trst : Bool) (f : State → State) (s : State) (h : ∀ s, (f s).kept = s.kept) : (tap trst f s).kept = s.kept := by
  unfold tap
  dsimp only
  split
  · exact (h _).trans rfl
  · exact (jtagLoad_kept ..).trans rfl

theorem captured_kept (n : Nat) (s : State) : (captured n s).2.kept = s.kept := by
  induction n generalizing s with
  | zero => rfl
  | succ n ih => rw [captured]; simp only [ih, takeFree_kept]

theorem scanBits_kept (ir : Nat) (drive : Bool) (bits : List Bool) (s : State) : (scanBits ir drive bits s).kept = s.kept := by
  unfold scanBits
  simp only [State.kept_mk, State.kept_fold, jtagLoad_kept, captured_kept]

theorem jtagMbox_kept (off : Nat) (w : Option Word32) (s : State) : (jtagMbox off w s).kept = s.kept := by
  unfold jtagMbox
  repeat' first
    | with_reducible rfl
    | (simp only [State.kept_mk, State.kept_fold, apply_ite State.kept, ite_self, secWrite_kept, jtagLoad_kept]; done)
    | split
    | dsimp only

/-! ### Boot -/

theorem noteLoad_kept (s : State) : (noteLoad s).kept = s.kept := by
  unfold noteLoad
  simp only [emit_kept]

theorem enterLoadState_kept (x : LoadState) (s : State) : (enterLoadState x s).kept = s.kept := by
  unfold enterLoadState
  split <;> simp only [State.kept_mk, State.kept_fold, cause_kept, noteLoad_kept]

theorem setLoadError_kept (code sect : Nat) (s : State) : (setLoadError code sect s).kept = s.kept := by
  rfl

theorem freeHalf_kept (h : Nat) (s : State) : (freeHalf h s).kept = s.kept := by
  unfold freeHalf
  simp only [State.kept_mk, State.kept_fold, apply_ite State.kept, ite_self, cause_kept]

theorem startLoad_kept (push keep : Bool) (s : State) : (startLoad push keep s).kept = s.kept := by
  unfold startLoad
  simp only [State.kept_mk, State.kept_fold, apply_ite State.kept, ite_self, acceptDomain_kept, enterLoadState_kept, freeHalf_kept]

theorem fallBack_kept (s : State) : (fallBack s).kept = s.kept := by
  unfold fallBack
  simp only [State.kept_mk, State.kept_fold, apply_ite State.kept, ite_self, startLoad_kept]

theorem refuseLoad_kept (code sect : Nat) (s : State) : (refuseLoad code sect s).kept = s.kept := by
  unfold refuseLoad
  simp only [State.kept_mk, State.kept_fold, apply_ite State.kept, ite_self, cause_kept, domainDown_kept, noteLoad_kept, setLoadError_kept, fallBack_kept]

theorem discardFlight_kept (s : State) : (discardFlight s).kept = s.kept := by
  rfl

theorem dropMissEntry_kept (b : Nat) (s : State) : (dropMissEntry b s).kept = s.kept := by
  unfold dropMissEntry
  repeat' first
    | with_reducible rfl
    | (simp only [State.kept_foldl, implies_true, State.kept_mk, State.kept_fold, apply_ite State.kept, apply_ite Prod.snd, ite_self, State.modLedger_kept, occStep_kept]; done)
    | split
    | dsimp only

theorem dropMisses_kept (s : State) : (dropMisses s).kept = s.kept := by
  unfold dropMisses
  simp only [State.kept_foldl, implies_true, State.kept_mk, State.kept_fold, apply_ite State.kept, ite_self, dropMissEntry_kept]

theorem settleFlow_kept (s : State) : (settleFlow s).kept = s.kept := by
  unfold settleFlow
  simp only [State.kept_foldl, implies_true, State.kept_mk, State.kept_fold, apply_ite State.kept, ite_self, fcUpdate_kept]

theorem discardAll_kept (s : State) : (discardAll s).kept = s.kept := by
  unfold discardAll
  simp only [State.kept_foldl, implies_true, State.kept_mk, State.kept_fold, apply_ite State.kept, ite_self, noteDrained_kept, discardFlight_kept, dropMisses_kept, settleFlow_kept]

theorem abortLock_kept (b k : Nat) (s : State) : (abortLock b k s).kept = s.kept := by
  unfold abortLock
  repeat' first
    | with_reducible rfl
    | (simp only [State.kept_mk, State.kept_fold, apply_ite State.kept, ite_self, bump_kept, emit_kept, writeBack_kept, unlockWay_kept]; done)
    | split
    | dsimp only

theorem enterDrain_kept (s : State) : (enterDrain s).kept = s.kept := by
  unfold enterDrain
  simp only [State.kept_mk, State.kept_fold, emit_kept, enterLoadState_kept]

theorem drainTimeout_kept (s : State) : (drainTimeout s).kept = s.kept := by
  unfold drainTimeout
  simp only [State.kept_foldl, implies_true, State.kept_mk, State.kept_fold, apply_ite State.kept, ite_self, bumpN_kept, discardAll_kept, abortLock_kept]

theorem clearTills_kept (s : State) : (clearTills s).kept = s.kept := by
  unfold clearTills
  simp only [State.kept_foldl, implies_true, State.kept_mk, State.kept_fold, apply_ite State.kept, ite_self, State.modLedger_kept, unclaim_kept, writeBack_kept]

theorem failLoad_kept (code sect : Nat) (s : State) : (failLoad code sect s).kept = s.kept := by
  unfold failLoad
  simp only [State.kept_foldl, implies_true, State.kept_mk, State.kept_fold, apply_ite State.kept, ite_self, srBeginAll_kept, domainDown_kept, acceptDomain_kept, enterLoadState_kept, setLoadError_kept, fallBack_kept, discardAll_kept, clearTills_kept]

theorem loadError_kept (code sect : Nat) (s : State) : (loadError code sect s).kept = s.kept := by
  unfold loadError
  split <;> simp only [State.kept_mk, State.kept_fold, refuseLoad_kept, failLoad_kept]

theorem stagedBytes_kept (h len : Nat) (s : State) : (stagedBytes h len s).2.kept = s.kept := by
  unfold stagedBytes
  dsimp only
  refine (State.kept_foldl2 _ (fun x i => ?_) _ _).trans rfl
  dsimp only
  split <;> simp only [takeFree_kept, cofferRoundOn_kept]

theorem stagedBytes_kept' {h len : Nat} {s : State} {x' : _} {r' : State} (h' : stagedBytes h len s = (x', r')) : r'.kept = s.kept := by
  have k' := stagedBytes_kept h len s
  rw [h'] at k'
  exact k'

theorem takeManifest_kept (m : Bytes) (s : State) : (takeManifest m s).kept = s.kept := by
  unfold takeManifest
  repeat' first
    | with_reducible rfl
    | (simp only [State.kept_mk, State.kept_fold, apply_ite State.kept, ite_self, enterLoadState_kept, refuseLoad_kept]; done)
    | split
    | dsimp only

theorem takeTrailer_kept (t : Bytes) (s : State) : (takeTrailer t s).kept = s.kept := by
  unfold takeTrailer
  split <;> simp only [State.kept_mk, State.kept_fold, refuseLoad_kept]

theorem takeChunk_kept (s : State) : (takeChunk s).kept = s.kept := by
  unfold takeChunk
  repeat' first
    | with_reducible rfl
    | (simp only [State.kept_mk, State.kept_fold, apply_ite State.kept, ite_self, failLoad_kept, stagedBytes_kept]; done)
    | split
    | dsimp only

theorem takeChunks_kept (s : State) : (takeChunks s).kept = s.kept := by
  unfold takeChunks
  simp only [State.kept_foldl, implies_true, State.kept_mk, State.kept_fold, apply_ite State.kept, ite_self, takeChunk_kept]

theorem handOver_kept (h off len : Nat) (s : State) : (handOver h off len s).kept = s.kept := by
  unfold handOver
  simp only [State.kept_mk, State.kept_fold, apply_ite State.kept, ite_self, refuseLoad_kept, failLoad_kept, stagedBytes_kept, takeManifest_kept, takeTrailer_kept, takeChunk_kept]

theorem pushLenWrite_kept (v : Word32) (s : State) : (pushLenWrite v s).kept = s.kept := by
  unfold pushLenWrite
  simp only [State.kept_mk, State.kept_fold, apply_ite State.kept, ite_self, plainWrite_kept, setLoadError_kept, handOver_kept]

theorem halfConsumed_kept (s : State) : (halfConsumed s).kept = s.kept := by
  unfold halfConsumed
  repeat' first
    | with_reducible rfl
    | (simp only [State.kept_mk, State.kept_fold, apply_ite State.kept, ite_self, freeHalf_kept]; done)
    | split
    | dsimp only

theorem dropLinks_kept (s : State) : (dropLinks s).kept = s.kept := by
  unfold dropLinks
  simp only [State.kept_foldl, implies_true, State.kept_mk, State.kept_fold, apply_ite State.kept, ite_self, portStop_kept, tethBringUp_kept]

theorem enterLoad_kept (s : State) : (enterLoad s).kept = s.kept := by
  unfold enterLoad
  simp only [State.kept_mk, State.kept_fold, apply_ite State.kept, ite_self, setPstate_kept, enterLoadState_kept, discardAll_kept, clearTills_kept, takeChunks_kept, dropLinks_kept]

theorem verifyDone_kept (s : State) : (verifyDone s).kept = s.kept := by
  unfold verifyDone
  repeat' first
    | with_reducible rfl
    | (simp only [State.kept_mk, State.kept_fold, apply_ite State.kept, ite_self, emit_kept, candidate_kept, refuseLoad_kept, enterDrain_kept, enterLoad_kept]; done)
    | split
    | dsimp only

theorem loadStart_kept (s : State) : (loadStart s).kept = s.kept := by
  unfold loadStart
  simp only [State.kept_mk, State.kept_fold, apply_ite State.kept, ite_self, enterLoad_kept]

theorem flashRead_kept (density : Option Nat) (data : Option Bytes) (s : State) : (flashRead density data s).kept = s.kept := by
  unfold flashRead
  repeat' first
    | with_reducible rfl
    | (simp only [State.kept_mk, State.kept_fold, apply_ite State.kept, ite_self, refuseLoad_kept, failLoad_kept, takeManifest_kept, takeTrailer_kept]; done)
    | split
    | dsimp only

theorem newVault_kept (s : State) : (newVault s).kept = s.kept := by
  unfold newVault
  simp only [State.kept_foldl, implies_true, State.kept_mk, State.kept_fold, apply_ite State.kept, ite_self, regStore_kept, setField_kept, cause_kept, emit_kept]

theorem spareAgain_kept (s : State) : (spareAgain s).kept = s.kept := by
  unfold spareAgain
  simp only [State.kept_mk, State.kept_fold, apply_ite State.kept, ite_self, emit_kept]

theorem trainingDone_kept (c : Nat) (spd : Spd) (failure : Option (Fin 4 × Fin 2)) (s : State) : (trainingDone c spd failure s).kept = s.kept := by
  unfold trainingDone
  repeat' first
    | with_reducible rfl
    | (simp only [State.kept_mk, State.kept_fold, apply_ite State.kept, ite_self, State.modChan_kept, noteTrainFail_kept, failLoad_kept]; done)
    | split
    | dsimp only

theorem abortLoad_kept (s : State) : (abortLoad s).kept = s.kept := by
  unfold abortLoad
  simp only [loadError_kept]

theorem charterCtrlWrite_kept (v : Word32) (s : State) : (charterCtrlWrite v s).kept = s.kept := by
  unfold charterCtrlWrite
  simp only [State.kept_mk, State.kept_fold, apply_ite State.kept, ite_self, setField_kept, startLoad_kept, abortLoad_kept]

theorem noteBoot_kept (step : Nat) (s : State) : (noteBoot step s).kept = s.kept := by
  unfold noteBoot
  simp only [emit_kept]

theorem unwrap_kept (s : State) : (unwrap s).kept = s.kept := by
  unfold unwrap
  repeat' first
    | with_reducible rfl
    | (simp only [State.kept_mk, State.kept_fold, apply_ite State.kept, ite_self, emit_kept, identityBad_kept]; done)
    | split
    | dsimp only

theorem bootRamp_kept (d : Nat) (s : State) : (bootRamp d s).kept = s.kept := by
  unfold bootRamp
  simp only [State.kept_foldl, implies_true, State.kept_mk, State.kept_fold, apply_ite State.kept, ite_self, noteAllowance_kept, setDomain_kept, domainUp_kept]

theorem bootEarly_kept (s : State) : (bootEarly s).kept = s.kept := by
  unfold bootEarly
  simp only [State.kept_mk, State.kept_fold, noteBoot_kept, unwrap_kept, setPstate_kept, bootRamp_kept]

theorem bootLoad_kept (s : State) : (bootLoad s).kept = s.kept := by
  unfold bootLoad
  simp only [State.kept_mk, State.kept_fold, apply_ite State.kept, ite_self, cause_kept, startLoad_kept, noteBoot_kept]

theorem bootRom_kept (s : State) : (bootRom s).kept = s.kept := by
  unfold bootRom
  simp only [State.kept_mk, State.kept_fold, apply_ite State.kept, ite_self, bootEarly_kept, bootLoad_kept]

theorem porstRelease_kept (bootSel smbAddr : Nat) (s : State) : (porstRelease bootSel smbAddr s).kept = s.kept := by
  unfold porstRelease
  simp only [State.kept_mk, State.kept_fold, apply_ite State.kept, ite_self, resetCause_kept, warnStands_kept, bootRom_kept]

theorem railRelease_kept (rail : Nat) (s : State) : (railRelease rail s).kept = s.kept := by
  unfold railRelease
  simp only [State.kept_mk, State.kept_fold, apply_ite State.kept, ite_self, warnStands_kept, bootRom_kept]

/-! ### Irq -/

theorem irqForce_kept (off : Nat) (v : Word32) (s : State) : (irqForce off v s).kept = s.kept := by
  unfold irqForce
  repeat' first
    | with_reducible rfl
    | (simp only [State.kept_mk, State.kept_fold, apply_ite State.kept, ite_self, regStore_kept]; done)
    | split
    | dsimp only

theorem msixMessage_kept (s : State) : (msixMessage s).kept = s.kept := by
  rfl

theorem msixSend_kept (s : State) : (msixSend s).kept = s.kept := by
  unfold msixSend
  simp only [State.kept_mk, State.kept_fold, apply_ite State.kept, ite_self, msixMessage_kept]

theorem holdoffExpiry_kept (s : State) : (holdoffExpiry s).kept = s.kept := by
  unfold holdoffExpiry
  simp only [State.kept_mk, State.kept_fold, apply_ite State.kept, ite_self, msixSend_kept]

theorem settlePba_kept (s : State) : (settlePba s).kept = s.kept := by
  unfold settlePba
  simp only [State.kept_mk, State.kept_fold, apply_ite State.kept, ite_self]

theorem msixUnpend_kept (s : State) : (msixUnpend s).kept = s.kept := by
  unfold msixUnpend
  simp only [State.kept_mk, State.kept_fold, apply_ite State.kept, ite_self, msixMessage_kept, settlePba_kept]

theorem msixMask_kept (func vec enable : Bool) (s : State) : (msixMask func vec enable s).kept = s.kept := by
  unfold msixMask
  simp only [State.kept_mk, State.kept_fold, msixUnpend_kept]

theorem eoiWrite_kept (v : Word32) (s : State) : (eoiWrite v s).kept = s.kept := by
  unfold eoiWrite
  simp only [State.kept_mk, State.kept_fold, apply_ite State.kept, ite_self]

/-! ### PcieLink -/

theorem notePcie_kept (s : State) : (notePcie s).kept = s.kept := by
  unfold notePcie
  simp only [emit_kept]

theorem linkLost_kept (s : State) : (linkLost s).kept = s.kept := by
  unfold linkLost
  simp only [State.kept_mk, State.kept_fold, apply_ite State.kept, ite_self, notePcie_kept]

theorem loseRecord_kept (n : Nat) (s : State) : (loseRecord n s).kept = s.kept := by
  unfold loseRecord
  simp only [State.kept_mk, State.kept_fold, apply_ite State.kept, ite_self, spanDone_kept]

theorem dmaReset_kept (s : State) : (dmaReset s).kept = s.kept := by
  unfold dmaReset
  simp only [State.kept_foldl, implies_true, State.kept_mk, State.kept_fold, apply_ite State.kept, ite_self, loseRecord_kept]

theorem pcieReset_kept (s : State) : (pcieReset s).kept = s.kept := by
  unfold pcieReset
  simp only [State.kept_mk, State.kept_fold, linkLost_kept, dmaReset_kept]

theorem notePerst_kept (s : State) : (notePerst s).kept = s.kept := by
  unfold notePerst
  simp only [emit_kept]

theorem perstAssert_kept (s : State) : (perstAssert s).kept = s.kept := by
  unfold perstAssert
  simp only [State.kept_mk, State.kept_fold, apply_ite State.kept, ite_self, mboxPerst_kept, abortLoad_kept, pcieReset_kept, notePerst_kept]

theorem perstRelease_kept (s : State) : (perstRelease s).kept = s.kept := by
  unfold perstRelease
  simp only [State.kept_mk, State.kept_fold, apply_ite State.kept, ite_self, notePerst_kept]

theorem pcieLinkUp_kept (rate width : Nat) (s : State) : (pcieLinkUp rate width s).kept = s.kept := by
  unfold pcieLinkUp
  simp only [State.kept_mk, State.kept_fold, apply_ite State.kept, ite_self, notePcie_kept]

/-! ### RegWrites -/

theorem writeTop_kept (off : Nat) (v : Word32) (s : State) : (writeTop off v s).kept = s.kept := by
  unfold writeTop
  simp only [State.kept_mk, State.kept_fold, apply_ite State.kept, ite_self, plainWrite_kept, pushLenWrite_kept, charterCtrlWrite_kept, irqForce_kept, eoiWrite_kept]

theorem writeTime_kept (off rel : Nat) (v : Word32) (s : State) : (writeTime off rel v s).kept = s.kept := by
  unfold writeTime
  simp only [State.kept_mk, State.kept_fold, apply_ite State.kept, ite_self, plainWrite_kept, incrWrite_kept, timeCtrlWrite_kept, trigCtrlWrite_kept, capturePop_kept, ppsWrite_kept, ts2Pop_kept]

theorem writePerf_kept (off rel : Nat) (v : Word32) (s : State) : (writePerf off rel v s).kept = s.kept := by
  unfold writePerf
  simp only [State.kept_mk, State.kept_fold, apply_ite State.kept, ite_self, plainWrite_kept, freezeWrite_kept, perfCtrlWrite_kept, dumpCfgWrite_kept]

theorem writeDma_kept (off rel : Nat) (v : Word32) (s : State) : (writeDma off rel v s).kept = s.kept := by
  unfold writeDma
  repeat' first
    | with_reducible rfl
    | (simp only [State.kept_mk, State.kept_fold, apply_ite State.kept, ite_self, plainWrite_kept, ringCfgWrite_kept, tailWrite_kept, ringBaseWrite_kept, msixMask_kept]; done)
    | split
    | dsimp only

theorem writeSieve_kept (off rel : Nat) (v : Word32) (s : State) : (writeSieve off rel v s).kept = s.kept := by
  unfold writeSieve
  simp only [State.kept_mk, State.kept_fold, apply_ite State.kept, ite_self, bump_kept, cause_kept, plainWrite_kept, sieveCommand_kept, accordSwap_kept]

theorem writeDisp_kept (off b rel : Nat) (v : Word32) (s : State) : (writeDisp off b rel v s).kept = s.kept := by
  unfold writeDisp
  simp only [State.kept_mk, State.kept_fold, apply_ite State.kept, ite_self, plainWrite_kept, hostPost_kept, affWrite_kept]

theorem deskCtrlWrite_kept (d : Nat) (v : Word32) (s : State) : (deskCtrlWrite d v s).kept = s.kept := by
  unfold deskCtrlWrite
  simp only [State.kept_mk, State.kept_fold, apply_ite State.kept, ite_self, regStore_kept, noteNoTeller_kept, noteDrained_kept]

theorem tctrlWrite_kept (off t : Nat) (v : Word32) (s : State) : (tctrlWrite off t v s).kept = s.kept := by
  unfold tctrlWrite
  simp only [State.kept_mk, State.kept_fold, apply_ite State.kept, ite_self, plainWrite_kept, tellerStop_kept, tellerCont_kept]

theorem writeTell_kept (off d rel : Nat) (v : Word32) (s : State) : (writeTell off d rel v s).kept = s.kept := by
  unfold writeTell
  simp only [State.kept_mk, State.kept_fold, apply_ite State.kept, ite_self, plainWrite_kept, csRead_kept, deskCtrlWrite_kept, tctrlWrite_kept]

theorem exporterStart_kept (s : State) : (exporterStart s).kept = s.kept := by
  unfold exporterStart
  simp only [State.kept_foldl, implies_true, State.kept_mk, State.kept_fold, apply_ite State.kept, ite_self, modExp_kept]

theorem expCfgWrite_kept (v : Word32) (s : State) : (expCfgWrite v s).kept = s.kept := by
  unfold expCfgWrite
  simp only [State.kept_mk, State.kept_fold, apply_ite State.kept, ite_self, plainWrite_kept, exporterStart_kept]

theorem writeTill_kept (off b rel : Nat) (v : Word32) (s : State) : (writeTill off b rel v s).kept = s.kept := by
  unfold writeTill
  simp only [State.kept_mk, State.kept_fold, apply_ite State.kept, ite_self, plainWrite_kept, flushStart_kept, occLimitWrite_kept, refillTokens_kept, setupBurstWrite_kept, hostCommand_kept, expCfgWrite_kept]

theorem noseCommand_kept (v : Word32) (s : State) : (noseCommand v s).kept = s.kept := by
  unfold noseCommand
  split <;> simp only [State.kept_mk, State.kept_fold, plainWrite_kept, noseInvalidate_kept, noseValidate_kept]

theorem noseStartWrite_kept (g : Nat) (v : Word32) (s : State) : (noseStartWrite g v s).kept = s.kept := by
  unfold noseStartWrite
  simp only [State.kept_mk, State.kept_fold, apply_ite State.kept, ite_self, setGroup_kept]

theorem writeNose_kept (off rel : Nat) (v : Word32) (s : State) : (writeNose off rel v s).kept = s.kept := by
  unfold writeNose
  simp only [State.kept_mk, State.kept_fold, apply_ite State.kept, ite_self, plainWrite_kept, noseMemWrite_kept, noseCommand_kept, noseStartWrite_kept]

theorem writeSwc_kept (off rel : Nat) (v : Word32) (s : State) : (writeSwc off rel v s).kept = s.kept := by
  unfold writeSwc
  simp only [State.kept_mk, State.kept_fold, apply_ite State.kept, ite_self, plainWrite_kept, samplerWrite_kept, seedWrite_kept, grpCommand_kept]

theorem fcModeWrite_kept (off p : Nat) (v : Word32) (s : State) : (fcModeWrite off p v s).kept = s.kept := by
  unfold fcModeWrite
  simp only [State.kept_mk, State.kept_fold, apply_ite State.kept, ite_self, State.modSched_kept, plainWrite_kept]

theorem writeTm_kept (off rel : Nat) (v : Word32) (s : State) : (writeTm off rel v s).kept = s.kept := by
  unfold writeTm
  simp only [State.kept_mk, State.kept_fold, apply_ite State.kept, ite_self, plainWrite_kept, gclWrite_kept, gateCtrlWrite_kept, classCtrlWrite_kept, polCommand_kept, fcModeWrite_kept]

theorem writeEgr_kept (off rel : Nat) (v : Word32) (s : State) : (writeEgr off rel v s).kept = s.kept := by
  unfold writeEgr
  simp only [State.kept_mk, State.kept_fold, apply_ite State.kept, ite_self, plainWrite_kept, nptCtlWrite_kept]

/-! ### Bar0 -/

theorem clearRc_kept (off : Nat) (s : State) : (clearRc off s).kept = s.kept := by
  unfold clearRc
  repeat' first
    | with_reducible rfl
    | (simp only [State.kept_mk, State.kept_fold, apply_ite State.kept, ite_self, regStore_kept]; done)
    | split
    | dsimp only

theorem readEffect_kept (off : Nat) (s : State) : (readEffect off s).kept = s.kept := by
  unfold readEffect
  repeat' first
    | with_reducible rfl
    | (simp only [State.kept_mk, State.kept_fold, apply_ite State.kept, ite_self, affNext_kept, gclRead_kept, clearRc_kept]; done)
    | split
    | dsimp only

theorem registerRead_kept (off size : Nat) (s : State) : (registerRead off size s).kept = s.kept := by
  unfold registerRead
  simp only [State.kept_mk, State.kept_fold, apply_ite State.kept, ite_self, complete_kept, unsupported_kept, readEffect_kept]

theorem userRead_kept (off size : Nat) (s : State) : (userRead off size s).kept = s.kept := by
  unfold userRead
  simp only [complete_kept]

theorem cfgRead_kept (off : Nat) (s : State) : (cfgRead off s).kept = s.kept := by
  unfold cfgRead
  split <;> simp only [complete_kept, takeFree_kept]

/-! ### Run -/

theorem dropDomains_kept (s : State) : (dropDomains s).kept = s.kept := by
  unfold dropDomains
  simp only [State.kept_foldl, implies_true, State.kept_mk, State.kept_fold, apply_ite State.kept, ite_self, settlePstate_kept, domainDown_kept]

theorem assignRest_kept (s : State) : (assignRest s).kept = s.kept := by
  rfl

theorem accordRun_kept (s : State) : (accordRun s).kept = s.kept := by
  rfl

theorem noseRun_kept (s : State) : (noseRun s).kept = s.kept := by
  unfold noseRun
  simp only [State.kept_foldl, implies_true, State.kept_mk, State.kept_fold, apply_ite State.kept, ite_self, setGroup_kept]

theorem perfRun_kept (s : State) : (perfRun s).kept = s.kept := by
  unfold perfRun
  simp only [State.kept_foldl, implies_true, State.kept_mk, State.kept_fold, apply_ite State.kept, ite_self, regStore_kept, clearCounters_kept]

theorem tokensRun_kept (s : State) : (tokensRun s).kept = s.kept := by
  unfold tokensRun
  simp only [State.kept_foldl, implies_true, State.kept_mk, State.kept_fold, apply_ite State.kept, ite_self, State.modLedger_kept]

theorem freezeRun_kept (s : State) : (freezeRun s).kept = s.kept := by
  unfold freezeRun
  simp only [State.kept_foldl, implies_true, State.kept_mk, State.kept_fold, apply_ite State.kept, ite_self, State.modSched_kept]

theorem charterNow_kept (s : State) : (charterNow s).kept = s.kept := by
  rfl

theorem enterRun_kept (s : State) : (enterRun s).kept = s.kept := by
  unfold enterRun
  simp only [State.kept_foldl, implies_true, State.kept_mk, State.kept_fold, apply_ite State.kept, ite_self, cofferClear_kept, portStart_kept, enterLoadState_kept, dropDomains_kept, assignRest_kept, accordRun_kept, noseRun_kept, perfRun_kept, tokensRun_kept, freezeRun_kept, charterNow_kept]

/-! ### Tick -/

theorem tickSnap_kept (s : State) : (tickSnap s).kept = s.kept := by
  unfold tickSnap
  simp only [State.kept_foldl, implies_true, State.kept_mk, State.kept_fold, apply_ite State.kept, ite_self, latchSnap_kept]

theorem tickCount_kept (s : State) : (tickCount s).kept = s.kept := by
  unfold tickCount
  simp only [State.kept_mk, State.kept_fold, apply_ite State.kept, ite_self, perf_kept]

theorem tickDesk_kept (d : Nat) (s : State) : (tickDesk d s).kept = s.kept := by
  unfold tickDesk
  simp only [State.kept_mk, State.kept_fold, apply_ite State.kept, ite_self, bump64_kept, perfN_kept]

theorem lasting_kept (dom unit code : Nat) (on : State → Bool) (s : State) : (lasting dom unit code on s).kept = s.kept := by
  unfold lasting
  simp only [State.kept_mk, State.kept_fold, apply_ite State.kept, ite_self, perf_kept]

theorem tickBranch_kept (b : Nat) (s : State) : (tickBranch b s).kept = s.kept := by
  unfold tickBranch
  simp only [lasting_kept]

theorem tickChannel_kept (c : Nat) (s : State) : (tickChannel c s).kept = s.kept := by
  unfold tickChannel
  simp only [lasting_kept]

/-! ### Step -/


end Sys2Proof.Machine
end

