-- ==== Sys2Proof/Laws/Books.lean ====
section
/-!
SUPPORT. What readings of the Coffer, rings, errors on the chip and new items leave alone in the Tills and the Vault.
-/
set_option linter.all false
namespace Sys2Proof.Machine

theorem State.books_mk (pending : List Instr) (free : Nat) (regs : Tbl Word32) (dispo : Tbl Nat) (time : TimeBase) (sill : Sillage) (msix : Msix) (perf : Perf) (treas : Treasury) (fuses : Fuses) (sec : SecEngine) (pins : Pins) (loader : Loader) (pcie : Pcie) (coffer : Coffer) (rings : Tbl Ring) (out : Outputs) (lastBatch : Nat) (ports : Tbl Port) (portCfg : Tbl PortCfg) (lanes : Tbl Lane) (laneInv : Tbl Nat) (laneTaps : Tbl Nat) (teth : Tether) (swc : SwitchCore) (tm : TrafficMgr) (templates : Bytes) (assay : Tbl Assayer) (sieve : Sieve) (accord : Accord) (ledger : Tbl Ledger) (disp : Tbl Disp) (tellers : Tbl Teller) (desks : Tbl Desk) (nose : Tbl Nose) (automata : NoseAutomata) (vault : Vault) (audit : Auditor) :
    State.books ⟨pending, free, regs, dispo, time, sill, msix, perf, treas, fuses, sec, pins, loader, pcie, coffer, rings, out, lastBatch, ports, portCfg, lanes, laneInv, laneTaps, teth, swc, tm, templates, assay, sieve, accord, ledger, disp, tellers, desks, nose, automata, vault, audit⟩ = (ledger, vault) := (rfl)

theorem State.books_fold (s : State) :
    (s.ledger, s.vault) = s.books := (rfl)

theorem State.books_foldl {α : Type} (f : State → α → State) (h : ∀ s x, (f s x).books = s.books) (l : List α) (s : State) :
    (l.foldl f s).books = s.books := by
  induction l generalizing s with
  | nil => rfl
  | cons x xs ih => rw [List.foldl_cons, ih, h]

theorem State.books_foldl2 {α β : Type} (f : β × State → α → β × State) (h : ∀ a x, (f a x).2.books = a.2.books) (l : List α)
    (a : β × State) : (l.foldl f a).2.books = a.2.books := by
  induction l generalizing a with
  | nil => rfl
  | cons x xs ih => rw [List.foldl_cons, ih, h]

theorem State.books_foldl3 {α β γ : Type} (f : β × γ × State → α → β × γ × State) (h : ∀ a x, (f a x).2.2.books = a.2.2.books)
    (l : List α) (a : β × γ × State) : (l.foldl f a).2.2.books = a.2.2.books := by
  induction l generalizing a with
  | nil => rfl
  | cons x xs ih => rw [List.foldl_cons, ih, h]

theorem State.books_getD {o : Option State} {s d : State} (h : ∀ t, o = some t → t.books = s.books) (hd : d.books = s.books) :
    (o.getD d).books = s.books := by
  cases o with
  | none => exact hd
  | some t => exact h t rfl

theorem gated_books (f : State → State) (s : State) (h : ∀ s, (f s).books = s.books) : (gated f s).books = s.books := by
  unfold gated; split
  · exact h s
  · rfl

/-! ### State -/


/-! ### Ops -/

theorem State.setDisp_books (s : State) (b : Nat) (d : Disp) : (State.setDisp s b d).books = s.books := by
  rfl

theorem State.setAssay_books (s : State) (b : Nat) (a : Assayer) : (State.setAssay s b a).books = s.books := by
  rfl

theorem State.setTeller_books (s : State) (t : Nat) (x : Teller) : (State.setTeller s t x).books = s.books := by
  rfl

theorem State.setRing_books (s : State) (n : Nat) (r : Ring) : (State.setRing s n r).books = s.books := by
  rfl

theorem State.modDisp_books (s : State) (b : Nat) (f : Disp → Disp) : (State.modDisp s b f).books = s.books := by
  unfold State.modDisp
  simp only [State.setDisp_books]

theorem State.modAssay_books (s : State) (b : Nat) (f : Assayer → Assayer) : (State.modAssay s b f).books = s.books := by
  unfold State.modAssay
  simp only [State.setAssay_books]

theorem State.modTeller_books (s : State) (t : Nat) (f : Teller → Teller) : (State.modTeller s t f).books = s.books := by
  unfold State.modTeller
  simp only [State.setTeller_books]

theorem State.modRing_books (s : State) (n : Nat) (f : Ring → Ring) : (State.modRing s n f).books = s.books := by
  unfold State.modRing
  simp only [State.setRing_books]

theorem regStore_books (off : Nat) (v : Word32) (s : State) : (regStore off v s).books = s.books := by
  rfl

theorem setField_books (off hi lo x : Nat) (s : State) : (setField off hi lo x s).books = s.books := by
  unfold setField
  simp only [regStore_books]

theorem setPair_books (off v : Nat) (s : State) : (setPair off v s).books = s.books := by
  unfold setPair
  simp only [regStore_books]

theorem bumpN_books (off n : Nat) (s : State) : (bumpN off n s).books = s.books := by
  unfold bumpN
  simp only [State.books_mk, State.books_fold, apply_ite State.books, ite_self, regStore_books]

theorem bump_books (off : Nat) (s : State) : (bump off s).books = s.books := by
  unfold bump
  simp only [bumpN_books]

theorem tally_books (off : Nat) (s : State) : (tally off s).books = s.books := by
  unfold tally
  simp only [regStore_books]

theorem peak_books (off hi lo v : Nat) (s : State) : (peak off hi lo v s).books = s.books := by
  unfold peak
  simp only [State.books_mk, State.books_fold, apply_ite State.books, ite_self, setField_books]

theorem cause_books (off i : Nat) (s : State) : (cause off i s).books = s.books := by
  unfold cause
  simp only [regStore_books]

theorem stampAt_books (secOff nsOff net : Nat) (s : State) : (stampAt secOff nsOff net s).books = s.books := by
  unfold stampAt
  simp only [regStore_books]

theorem stamp_books (secOff nsOff : Nat) (s : State) : (stamp secOff nsOff s).books = s.books := by
  unfold stamp
  simp only [stampAt_books]

theorem emitAt_books (net src kind payload : Nat) (s : State) : (emitAt net src kind payload s).books = s.books := by
  unfold emitAt
  simp only [State.books_mk, State.books_fold, apply_ite State.books, ite_self, bump_books, cause_books]

theorem emit_books (src kind payload : Nat) (s : State) : (emit src kind payload s).books = s.books := by
  unfold emit
  simp only [emitAt_books]

theorem perfCount_books (u k n : Nat) (s : State) : (perfCount u k n s).books = s.books := by
  unfold perfCount
  simp only [State.books_mk, State.books_fold, apply_ite State.books, ite_self, setPair_books, cause_books]

theorem perfN_books (u code n : Nat) (s : State) : (perfN u code n s).books = s.books := by
  unfold perfN
  simp only [State.books_foldl, implies_true, State.books_mk, State.books_fold, apply_ite State.books, ite_self, perfCount_books]

theorem perf_books (u code : Nat) (s : State) : (perf u code s).books = s.books := by
  unfold perf
  simp only [perfN_books]

theorem takeFree_books (s : State) : (takeFree s).2.books = s.books := by
  rfl

theorem takeFree_books' {s : State} {x' : _} {r' : State} (h' : takeFree s = (x', r')) : r'.books = s.books := by
  have k' := takeFree_books s
  rw [h'] at k'
  exact k'

/-! ### Rings -/

theorem toHost_books (addr : Nat) (b : Bytes) (s : State) : (toHost addr b s).books = s.books := by
  unfold toHost
  simp only [State.books_mk, State.books_fold, perfN_books]

theorem advanceHead_books (n : Nat) (s : State) : (advanceHead n s).books = s.books := by
  unfold advanceHead
  simp only [State.books_mk, State.books_fold, apply_ite State.books, ite_self, State.modRing_books, bump_books, cause_books, perf_books, toHost_books]

theorem closeBuffer_books (n : Nat) (s : State) : (closeBuffer n s).books = s.books := by
  unfold closeBuffer
  repeat' first
    | with_reducible rfl
    | (simp only [State.books_mk, State.books_fold, apply_ite State.books, ite_self, State.modRing_books, toHost_books, advanceHead_books]; done)
    | split
    | dsimp only

theorem writePart_books (n kind : Nat) (o : OpenBuf) (body : Bytes) (start : Bool) (s : State) : (writePart n kind o body start s).books = s.books := by
  unfold writePart
  simp only [State.books_mk, State.books_fold, apply_ite State.books, ite_self, State.modRing_books, toHost_books, closeBuffer_books]

theorem makeRoom_books (n : Nat) (s : State) : (makeRoom n s).books = s.books := by
  unfold makeRoom
  simp only [State.books_mk, State.books_fold, apply_ite State.books, ite_self, closeBuffer_books]

theorem placeRec_books (n kind : Nat) (body : Bytes) (s : State) : (placeRec n kind body s).2.books = s.books := by
  unfold placeRec
  repeat' first
    | with_reducible rfl
    | (simp only [State.books_mk, State.books_fold, apply_ite State.books, ite_self, writePart_books, makeRoom_books]; done)
    | split
    | dsimp only

theorem placeRec_books' {n kind : Nat} {body : Bytes} {s : State} {x' : _} {r' : State} (h' : placeRec n kind body s = (x', r')) : r'.books = s.books := by
  have k' := placeRec_books n kind body s
  rw [h'] at k'
  exact k'

/-! ### Sieve -/

theorem sieveLookup_books (b : Nat) (kv : KeyVec) (tpl gen : Nat) (s : State) : (sieveLookup b kv tpl gen s).2.2.books = s.books := by
  unfold sieveLookup
  repeat' first
    | with_reducible rfl
    | (simp only [State.books_mk, State.books_fold, apply_ite State.books, ite_self, bump_books]; done)
    | split
    | dsimp only

theorem sieveLookup_books' {b : Nat} {kv : KeyVec} {tpl gen : Nat} {s : State} {x' : _} {y' : _} {r' : State} (h' : sieveLookup b kv tpl gen s = (x', y', r')) : r'.books = s.books := by
  have k' := sieveLookup_books b kv tpl gen s
  rw [h'] at k'
  exact k'

/-! ### Vault -/

theorem logUe_books (info addr : Nat) (s : State) : (logUe info addr s).books = s.books := by
  unfold logUe
  simp only [regStore_books, setPair_books, stamp_books]

/-! ### Egress -/

theorem setFrame_books (f : Nat) (x : Frame) (s : State) : (setFrame f x s).books = s.books := by
  rfl

theorem modFrame_books (f : Nat) (g : Frame → Frame) (s : State) : (modFrame f g s).books = s.books := by
  unfold modFrame
  split <;> simp only [State.books_mk, State.books_fold, setFrame_books]

/-! ### Items -/

theorem notePeak_books (b : Nat) (s : State) : (notePeak b s).books = s.books := by
  unfold notePeak
  simp only [peak_books]

theorem trace_books (b k : Nat) (i : Item) (teller : Nat) (pref : Option Nat) (s : State) : (trace b k i teller pref s).books = s.books := by
  unfold trace
  simp only [State.books_mk, State.books_fold, apply_ite State.books, ite_self, State.modDisp_books, emit_books]

theorem addItem_books (b : Nat) (i : Item) (s : State) : (addItem b i s).books = s.books := by
  unfold addItem
  repeat' first
    | with_reducible rfl
    | (simp only [State.books_foldl, implies_true, State.books_mk, State.books_fold, apply_ite State.books, apply_ite Prod.snd, ite_self, State.setDisp_books, notePeak_books]; done)
    | split
    | dsimp only

theorem noteWaiting_books (b : Nat) (i : Item) (f : Nat) (s : State) : (noteWaiting b i f s).books = s.books := by
  unfold noteWaiting
  simp only [bump_books, perf_books, modFrame_books, trace_books]

theorem addStateless_books (b : Nat) (d : Desc) (a : Word64) (reclass : Bool) (s : State) : (addStateless b d a reclass s).books = s.books := by
  unfold addStateless
  simp only [State.books_mk, State.books_fold, apply_ite State.books, ite_self, addItem_books, noteWaiting_books]

theorem offerMaint_books (b routine : Nat) (kind : ItemFor) (hash arg : Word64) (s : State) : (offerMaint b routine kind hash arg s).2.books = s.books := by
  unfold offerMaint
  repeat' first
    | with_reducible rfl
    | (simp only [State.books_mk, State.books_fold, apply_ite State.books, ite_self, trace_books, addItem_books]; done)
    | split
    | dsimp only

theorem offerMaint_books' {b routine : Nat} {kind : ItemFor} {hash arg : Word64} {s : State} {x' : _} {r' : State} (h' : offerMaint b routine kind hash arg s = (x', r')) : r'.books = s.books := by
  have k' := offerMaint_books b routine kind hash arg s
  rw [h'] at k'
  exact k'

theorem setCofferWord_books (i : Nat) (v : Word64) (s : State) : (setCofferWord i v s).books = s.books := by
  rfl

theorem exportItem_books (b : Nat) (n : Snapshot) (s : State) : (exportItem b n s).2.books = s.books := by
  unfold exportItem
  repeat' first
    | with_reducible rfl
    | (simp only [State.books_mk, State.books_fold, apply_ite State.books, ite_self, offerMaint_books]; done)
    | split
    | dsimp only

theorem exportItem_books' {b : Nat} {n : Snapshot} {s : State} {x' : _} {r' : State} (h' : exportItem b n s = (x', r')) : r'.books = s.books := by
  have k' := exportItem_books b n s
  rw [h'] at k'
  exact k'

/-! ### Errors -/

theorem sramEvent_books (mem branch addr : Nat) (e : EccResult) (s : State) : (sramEvent mem branch addr e s).books = s.books := by
  unfold sramEvent
  split <;> simp only [State.books_mk, State.books_fold, tally_books, cause_books, emit_books, logUe_books]

theorem Page.readWord_books (g : Page) (flips : List WordFlips) (i : Nat) (s : State) (hp : ∀ i w s, (g.put i w s).books = s.books)
    (hl : ∀ i s, (g.lose i s).books = s.books) : (g.readWord flips i s).books = s.books := by
  unfold Page.readWord
  repeat' first
    | with_reducible rfl
    | (simp only [sramEvent_books, hp, hl, apply_ite State.books, ite_self]; done)
    | split

theorem Page.readAll_books (g : Page) (flips : List WordFlips) (s : State) (hp : ∀ i w s, (g.put i w s).books = s.books)
    (hl : ∀ i s, (g.lose i s).books = s.books) : (g.readAll flips s).books = s.books :=
  State.books_foldl _ (fun t i => Page.readWord_books g flips i t hp hl) _ _

theorem modMem_books (t op : Nat) (f : MemOp → MemOp) (s : State) : (modMem t op f s).books = s.books := by
  unfold modMem
  simp only [State.modTeller_books]

theorem dropMem_books (t op : Nat) (s : State) : (dropMem t op s).books = s.books := by
  unfold dropMem
  simp only [State.modTeller_books]

theorem answerCoffer_books (q : CofferReq) (v : Word64) (s : State) : (answerCoffer q v s).books = s.books := by
  unfold answerCoffer
  simp only [modMem_books]

theorem poisonCoffer_books (q : CofferReq) (s : State) : (poisonCoffer q s).books = s.books := by
  unfold poisonCoffer
  simp only [modMem_books]

theorem endStore_books (q : CofferReq) (s : State) : (endStore q s).books = s.books := by
  unfold endStore
  simp only [State.books_mk, State.books_fold, apply_ite State.books, ite_self, dropMem_books]

theorem roundStep_books (old : Option Word64) (q : CofferReq) (cur : Option Word64) (s : State) : (roundStep old q cur s).2.books = s.books := by
  unfold roundStep
  repeat' first
    | with_reducible rfl
    | (simp only [State.books_mk, State.books_fold, apply_ite State.books, ite_self, modMem_books, answerCoffer_books, poisonCoffer_books, endStore_books]; done)
    | split
    | dsimp only

theorem roundStep_books' {old : Option Word64} {q : CofferReq} {cur : Option Word64} {s : State} {x' : _} {r' : State} (h' : roundStep old q cur s = (x', r')) : r'.books = s.books := by
  have k' := roundStep_books old q cur s
  rw [h'] at k'
  exact k'

theorem cofferStore_books (i : Nat) (v : Option Word64) (s : State) : (cofferStore i v s).books = s.books := by
  unfold cofferStore
  repeat' first
    | with_reducible rfl
    | (simp only [State.books_mk, State.books_fold, apply_ite State.books, ite_self, setCofferWord_books]; done)
    | split
    | dsimp only

theorem cofferRead_books (i : Nat) (flips : List WordFlips) (s : State) : (cofferRead i flips s).2.books = s.books := by
  unfold cofferRead
  dsimp only
  split
  · exact Page.readAll_books _ _ _ (fun _ _ _ => setCofferWord_books ..) fun _ _ => cofferStore_books ..
  · exact Page.readWord_books _ _ _ _ (fun _ _ _ => setCofferWord_books ..) fun _ _ => cofferStore_books ..

theorem cofferRead_books' {i : Nat} {flips : List WordFlips} {s : State} {x' : _} {r' : State} (h' : cofferRead i flips s = (x', r')) : r'.books = s.books := by
  have k' := cofferRead_books i flips s
  rw [h'] at k'
  exact k'

theorem cofferRoundOn_books (i : Nat) (flips : List WordFlips) (reads : Bool) (soft : Option Word64 → Option Word64) (s : State) : (cofferRoundOn i flips reads soft s).2.books = s.books := by
  unfold cofferRoundOn
  repeat' first
    | with_reducible rfl
    | (simp only [implies_true, State.books_foldl2, State.books_foldl3, Decision.state_ite, Decision.state_done, Decision.state_full, Decision.state_noroom, ScanIssue.state_ite, ScanIssue.state_done, ScanIssue.state_wait, State.books_mk, State.books_fold, State.books_foldl, apply_ite State.books, apply_ite Prod.snd, apply_ite EntryStep.state, EntryStep.state_served, EntryStep.state_searched, EntryStep.state_refused, EntryStep.state_wait, EntryStep.state_hold, ite_self, roundStep_books, cofferStore_books, cofferRead_books]; done)
    | split
    | dsimp only
    | ((try have h0 := roundStep_books' ‹_›; try have h1 := cofferRead_books' ‹_›); simp only [implies_true, State.books_foldl2, State.books_foldl3, Decision.state_ite, Decision.state_done, Decision.state_full, Decision.state_noroom, ScanIssue.state_ite, ScanIssue.state_done, ScanIssue.state_wait, State.books_mk, State.books_fold, State.books_foldl, apply_ite State.books, apply_ite Prod.snd, apply_ite EntryStep.state, EntryStep.state_served, EntryStep.state_searched, EntryStep.state_refused, EntryStep.state_wait, EntryStep.state_hold, ite_self, roundStep_books, cofferStore_books, cofferRead_books, *]; done)

theorem cofferRoundOn_books' {i : Nat} {flips : List WordFlips} {reads : Bool} {soft : Option Word64 → Option Word64} {s : State} {x' : _} {r' : State} (h' : cofferRoundOn i flips reads soft s = (x', r')) : r'.books = s.books := by
  have k' := cofferRoundOn_books i flips reads soft s
  rw [h'] at k'
  exact k'

/-! ### Audit -/

theorem notePeerRepair_books (a outcome : Nat) (s : State) : (notePeerRepair a outcome s).books = s.books := by
  unfold notePeerRepair
  simp only [emit_books]

theorem peerFail_books (slot outcome : Nat) (counted : Bool) (s : State) : (peerFail slot outcome counted s).books = s.books := by
  unfold peerFail
  simp only [State.books_mk, State.books_fold, apply_ite State.books, ite_self, bump_books, cause_books, notePeerRepair_books]

/-! ### ItemEnd -/

theorem recircEnter_books (b : Nat) (d : Desc) (s : State) : (recircEnter b d s).books = s.books := by
  unfold recircEnter
  simp only [State.books_mk, State.books_fold, apply_ite State.books, ite_self, State.modAssay_books, peak_books, cause_books]

/-! ### Export -/

theorem readWords_books (n i : Nat) (s : State) : (readWords n i s).2.books = s.books := by
  induction n generalizing i s with
  | zero => rfl
  | succ n ih =>
    rw [readWords]
    dsimp only
    rw [ih]
    split <;> simp only [takeFree_books, cofferRoundOn_books]

/-! ### The commands -/


end Sys2Proof.Machine
end

