-- ==== Sys2Proof/Laws/Cells.lean ====
section
/-!
SUPPORT. What flow control, meters, counts and records leave alone in the frames in storage and at the Assayers.
-/
set_option linter.all false
namespace Sys2Proof.Machine

theorem State.cells_mk (pending : List Instr) (free : Nat) (regs : Tbl Word32) (dispo : Tbl Nat) (time : TimeBase) (sill : Sillage) (msix : Msix) (perf : Perf) (treas : Treasury) (fuses : Fuses) (sec : SecEngine) (pins : Pins) (loader : Loader) (pcie : Pcie) (coffer : Coffer) (rings : Tbl Ring) (out : Outputs) (lastBatch : Nat) (ports : Tbl Port) (portCfg : Tbl PortCfg) (lanes : Tbl Lane) (laneInv : Tbl Nat) (laneTaps : Tbl Nat) (teth : Tether) (swc : SwitchCore) (tm : TrafficMgr) (templates : Bytes) (assay : Tbl Assayer) (sieve : Sieve) (accord : Accord) (ledger : Tbl Ledger) (disp : Tbl Disp) (tellers : Tbl Teller) (desks : Tbl Desk) (nose : Tbl Nose) (automata : NoseAutomata) (vault : Vault) (audit : Auditor) :
    State.cells ⟨pending, free, regs, dispo, time, sill, msix, perf, treas, fuses, sec, pins, loader, pcie, coffer, rings, out, lastBatch, ports, portCfg, lanes, laneInv, laneTaps, teth, swc, tm, templates, assay, sieve, accord, ledger, disp, tellers, desks, nose, automata, vault, audit⟩ = (swc, assay) := (rfl)

theorem State.cells_fold (s : State) :
    (s.swc, s.assay) = s.cells := (rfl)

theorem State.cells_foldl {α : Type} (f : State → α → State) (h : ∀ s x, (f s x).cells = s.cells) (l : List α) (s : State) :
    (l.foldl f s).cells = s.cells := by
  induction l generalizing s with
  | nil => rfl
  | cons x xs ih => rw [List.foldl_cons, ih, h]

theorem State.cells_foldl2 {α β : Type} (f : β × State → α → β × State) (h : ∀ a x, (f a x).2.cells = a.2.cells) (l : List α)
    (a : β × State) : (l.foldl f a).2.cells = a.2.cells := by
  induction l generalizing a with
  | nil => rfl
  | cons x xs ih => rw [List.foldl_cons, ih, h]

theorem State.cells_foldl3 {α β γ : Type} (f : β × γ × State → α → β × γ × State) (h : ∀ a x, (f a x).2.2.cells = a.2.2.cells)
    (l : List α) (a : β × γ × State) : (l.foldl f a).2.2.cells = a.2.2.cells := by
  induction l generalizing a with
  | nil => rfl
  | cons x xs ih => rw [List.foldl_cons, ih, h]

theorem State.cells_getD {o : Option State} {s d : State} (h : ∀ t, o = some t → t.cells = s.cells) (hd : d.cells = s.cells) :
    (o.getD d).cells = s.cells := by
  cases o with
  | none => exact hd
  | some t => exact h t rfl

theorem gated_cells (f : State → State) (s : State) (h : ∀ s, (f s).cells = s.cells) : (gated f s).cells = s.cells := by
  unfold gated; split
  · exact h s
  · rfl

/-! ### State -/


/-! ### Ops -/

theorem State.setLedger_cells (s : State) (b : Nat) (l : Ledger) : (State.setLedger s b l).cells = s.cells := by
  rfl

theorem State.setSched_cells (s : State) (k : Nat) (x : Sched) : (State.setSched s k x).cells = s.cells := by
  rfl

theorem State.setClass_cells (s : State) (n : Nat) (x : TmClass) : (State.setClass s n x).cells = s.cells := by
  rfl

theorem State.modLedger_cells (s : State) (b : Nat) (f : Ledger → Ledger) : (State.modLedger s b f).cells = s.cells := by
  unfold State.modLedger
  simp only [State.setLedger_cells]

theorem State.modSched_cells (s : State) (k : Nat) (f : Sched → Sched) : (State.modSched s k f).cells = s.cells := by
  unfold State.modSched
  simp only [State.setSched_cells]

theorem regStore_cells (off : Nat) (v : Word32) (s : State) : (regStore off v s).cells = s.cells := by
  rfl

theorem setField_cells (off hi lo x : Nat) (s : State) : (setField off hi lo x s).cells = s.cells := by
  unfold setField
  simp only [regStore_cells]

theorem setPair_cells (off v : Nat) (s : State) : (setPair off v s).cells = s.cells := by
  unfold setPair
  simp only [regStore_cells]

theorem bumpN_cells (off n : Nat) (s : State) : (bumpN off n s).cells = s.cells := by
  unfold bumpN
  simp only [State.cells_mk, State.cells_fold, apply_ite State.cells, ite_self, regStore_cells]

theorem bump_cells (off : Nat) (s : State) : (bump off s).cells = s.cells := by
  unfold bump
  simp only [bumpN_cells]

theorem cause_cells (off i : Nat) (s : State) : (cause off i s).cells = s.cells := by
  unfold cause
  simp only [regStore_cells]

theorem emitAt_cells (net src kind payload : Nat) (s : State) : (emitAt net src kind payload s).cells = s.cells := by
  unfold emitAt
  simp only [State.cells_mk, State.cells_fold, apply_ite State.cells, ite_self, bump_cells, cause_cells]

theorem emit_cells (src kind payload : Nat) (s : State) : (emit src kind payload s).cells = s.cells := by
  unfold emit
  simp only [emitAt_cells]

theorem perfCount_cells (u k n : Nat) (s : State) : (perfCount u k n s).cells = s.cells := by
  unfold perfCount
  simp only [State.cells_mk, State.cells_fold, apply_ite State.cells, ite_self, setPair_cells, cause_cells]

theorem perfN_cells (u code n : Nat) (s : State) : (perfN u code n s).cells = s.cells := by
  unfold perfN
  simp only [State.cells_foldl, implies_true, State.cells_mk, State.cells_fold, apply_ite State.cells, ite_self, perfCount_cells]

theorem perf_cells (u code : Nat) (s : State) : (perf u code s).cells = s.cells := by
  unfold perf
  simp only [perfN_cells]

theorem dispoCount_cells (port cls code : Nat) (s : State) : (dispoCount port cls code s).cells = s.cells := by
  unfold dispoCount
  simp only [State.cells_mk, State.cells_fold, apply_ite State.cells, ite_self]

theorem dispose_cells (port cls code : Nat) (waited : Bool) (hash : Word64) (arr : Nat) (s : State) : (dispose port cls code waited hash arr s).cells = s.cells := by
  unfold dispose
  simp only [State.cells_mk, State.cells_fold, apply_ite State.cells, ite_self, emit_cells, dispoCount_cells]

/-! ### Time -/

theorem bumpField_cells (off hi lo : Nat) (s : State) : (bumpField off hi lo s).cells = s.cells := by
  unfold bumpField
  simp only [State.cells_mk, State.cells_fold, apply_ite State.cells, ite_self, setField_cells]

/-! ### Perf -/

theorem winCount_cells (p len : Nat) (tx : Bool) (s : State) : (winCount p len tx s).cells = s.cells := by
  unfold winCount
  simp only [State.cells_mk, State.cells_fold, apply_ite State.cells, ite_self, perf_cells]

/-! ### FlowCtl -/

theorem emitFc_cells (p : Nat) (f : Bytes) (s : State) : (emitFc p f s).cells = s.cells := by
  unfold emitFc
  simp only [State.cells_foldl, implies_true, State.cells_mk, State.cells_fold, apply_ite State.cells, ite_self, perf_cells, bumpField_cells, winCount_cells]

theorem sendFc_cells (p : Nat) (f : Bytes) (s : State) : (sendFc p f s).cells = s.cells := by
  unfold sendFc
  simp only [State.cells_foldl, implies_true, State.cells_mk, State.cells_fold, apply_ite State.cells, ite_self, State.modSched_cells, emitFc_cells]

theorem sendX_cells (p q : Nat) (off : Bool) (s : State) : (sendX p q off s).cells = s.cells := by
  unfold sendX
  simp only [State.cells_mk, State.cells_fold, apply_ite State.cells, ite_self, sendFc_cells]

theorem fcClass_cells (p q : Nat) (s : State) : (fcClass p q s).cells = s.cells := by
  unfold fcClass
  simp only [State.cells_mk, State.cells_fold, apply_ite State.cells, ite_self, State.setSched_cells, sendX_cells]

theorem fcUpdate_cells (p : Nat) (s : State) : (fcUpdate p s).cells = s.cells := by
  unfold fcUpdate
  simp only [State.cells_foldl, implies_true, State.cells_mk, State.cells_fold, apply_ite State.cells, ite_self, State.modSched_cells, fcClass_cells]

theorem pauseClass_cells (p c quanta : Nat) (s : State) : (pauseClass p c quanta s).cells = s.cells := by
  unfold pauseClass
  simp only [State.setSched_cells]

theorem flowControl_cells (p : Nat) (data : Bytes) (s : State) : (flowControl p data s).cells = s.cells := by
  unfold flowControl
  simp only [State.cells_foldl, implies_true, State.cells_mk, State.cells_fold, apply_ite State.cells, ite_self, bumpField_cells, pauseClass_cells]

/-! ### Egress -/

theorem setPolicer_cells (k : Nat) (x : Policer) (s : State) : (setPolicer k x s).cells = s.cells := by
  rfl

/-! ### Till -/

theorem setWay_cells (b k : Nat) (w : Way) (s : State) : (setWay b k w s).cells = s.cells := by
  unfold setWay
  simp only [State.modLedger_cells]

theorem modWay_cells (b k : Nat) (f : Way → Way) (s : State) : (modWay b k f s).cells = s.cells := by
  unfold modWay
  split <;> simp only [State.cells_mk, State.cells_fold, setWay_cells]

theorem tailAdd_cells (len : Nat) (a : TailAdd) (s : State) : (tailAdd len a s).cells = s.cells := by
  unfold tailAdd
  split <;> simp only [State.cells_mk, State.cells_fold, modWay_cells]

/-! ### Mac -/

theorem settlePolicer_cells (x : Frame) (t : PolTail) (s : State) : (settlePolicer x t s).cells = s.cells := by
  unfold settlePolicer
  simp only [setPolicer_cells]

theorem laneSyms_cells (p : Nat) (syms : List Nat) (s : State) : (laneSyms p syms s).cells = s.cells := by
  unfold laneSyms
  simp only [State.cells_foldl, implies_true, State.cells_mk, State.cells_fold, apply_ite State.cells, ite_self, bumpN_cells]

/-! ### Tm -/

theorem resumeQueues_cells (k : Nat) (s : State) : (resumeQueues k s).cells = s.cells := by
  unfold resumeQueues
  simp only [State.cells_foldl, implies_true, State.cells_mk, State.cells_fold, apply_ite State.cells, ite_self, State.setClass_cells, State.modSched_cells]

/-! ### The commands -/


end Sys2Proof.Machine
end

