-- ==== Sys2Proof/Laws/Control.lean ====
section
/-!
SUPPORT. What packets, flows and time leave alone in the control plane: for each operation one lemma, and for each command one.
-/
set_option linter.all false
namespace Sys2Proof.Machine

theorem State.control_mk (pending : List Instr) (free : Nat) (regs : Tbl Word32) (dispo : Tbl Nat) (time : TimeBase) (sill : Sillage) (msix : Msix) (perf : Perf) (treas : Treasury) (fuses : Fuses) (sec : SecEngine) (pins : Pins) (loader : Loader) (pcie : Pcie) (coffer : Coffer) (rings : Tbl Ring) (out : Outputs) (lastBatch : Nat) (ports : Tbl Port) (portCfg : Tbl PortCfg) (lanes : Tbl Lane) (laneInv : Tbl Nat) (laneTaps : Tbl Nat) (teth : Tether) (swc : SwitchCore) (tm : TrafficMgr) (templates : Bytes) (assay : Tbl Assayer) (sieve : Sieve) (accord : Accord) (ledger : Tbl Ledger) (disp : Tbl Disp) (tellers : Tbl Teller) (desks : Tbl Desk) (nose : Tbl Nose) (automata : NoseAutomata) (vault : Vault) (audit : Auditor) :
    State.control ⟨pending, free, regs, dispo, time, sill, msix, perf, treas, fuses, sec, pins, loader, pcie, coffer, rings, out, lastBatch, ports, portCfg, lanes, laneInv, laneTaps, teth, swc, tm, templates, assay, sieve, accord, ledger, disp, tellers, desks, nose, automata, vault, audit⟩ = (msix, sec, loader, pcie.link, sieve, accord, automata) := (rfl)

theorem State.control_fold (s : State) :
    (s.msix, s.sec, s.loader, s.pcie.link, s.sieve, s.accord, s.automata) = s.control := (rfl)

theorem State.control_foldl {α : Type} (f : State → α → State) (h : ∀ s x, (f s x).control = s.control) (l : List α) (s : State) :
    (l.foldl f s).control = s.control := by
  induction l generalizing s with
  | nil => rfl
  | cons x xs ih => rw [List.foldl_cons, ih, h]

theorem State.control_foldl2 {α β : Type} (f : β × State → α → β × State) (h : ∀ a x, (f a x).2.control = a.2.control) (l : List α)
    (a : β × State) : (l.foldl f a).2.control = a.2.control := by
  induction l generalizing a with
  | nil => rfl
  | cons x xs ih => rw [List.foldl_cons, ih, h]

theorem State.control_foldl3 {α β γ : Type} (f : β × γ × State → α → β × γ × State) (h : ∀ a x, (f a x).2.2.control = a.2.2.control)
    (l : List α) (a : β × γ × State) : (l.foldl f a).2.2.control = a.2.2.control := by
  induction l generalizing a with
  | nil => rfl
  | cons x xs ih => rw [List.foldl_cons, ih, h]

theorem State.control_getD {o : Option State} {s d : State} (h : ∀ t, o = some t → t.control = s.control) (hd : d.control = s.control) :
    (o.getD d).control = s.control := by
  cases o with
  | none => exact hd
  | some t => exact h t rfl

theorem gated_control (f : State → State) (s : State) (h : ∀ s, (f s).control = s.control) : (gated f s).control = s.control := by
  unfold gated; split
  · exact h s
  · rfl

/-! ### State -/


/-! ### Ops -/

theorem State.setLedger_control (s : State) (b : Nat) (l : Ledger) : (State.setLedger s b l).control = s.control := by
  rfl

theorem State.setDisp_control (s : State) (b : Nat) (d : Disp) : (State.setDisp s b d).control = s.control := by
  rfl

theorem State.setAssay_control (s : State) (b : Nat) (a : Assayer) : (State.setAssay s b a).control = s.control := by
  rfl

theorem State.setNose_control (s : State) (b : Nat) (n : Nose) : (State.setNose s b n).control = s.control := by
  rfl

theorem State.setTeller_control (s : State) (t : Nat) (x : Teller) : (State.setTeller s t x).control = s.control := by
  rfl

theorem State.setDesk_control (s : State) (d : Nat) (x : Desk) : (State.setDesk s d x).control = s.control := by
  rfl

theorem State.setPort_control (s : State) (p : Nat) (x : Port) : (State.setPort s p x).control = s.control := by
  rfl

theorem State.setRing_control (s : State) (n : Nat) (r : Ring) : (State.setRing s n r).control = s.control := by
  rfl

theorem State.setChan_control (s : State) (c : Nat) (x : VaultCh) : (State.setChan s c x).control = s.control := by
  rfl

theorem State.setSched_control (s : State) (k : Nat) (x : Sched) : (State.setSched s k x).control = s.control := by
  rfl

theorem State.setClass_control (s : State) (n : Nat) (x : TmClass) : (State.setClass s n x).control = s.control := by
  rfl

theorem State.setUser_control (s : State) (u : Nat) (x : AllowUser) : (State.setUser s u x).control = s.control := by
  rfl

theorem State.setDom_control (s : State) (d : Nat) (x : DomState) : (State.setDom s d x).control = s.control := by
  rfl

theorem State.modLedger_control (s : State) (b : Nat) (f : Ledger → Ledger) : (State.modLedger s b f).control = s.control := by
  unfold State.modLedger
  simp only [State.setLedger_control]

theorem State.modDisp_control (s : State) (b : Nat) (f : Disp → Disp) : (State.modDisp s b f).control = s.control := by
  unfold State.modDisp
  simp only [State.setDisp_control]

theorem State.modAssay_control (s : State) (b : Nat) (f : Assayer → Assayer) : (State.modAssay s b f).control = s.control := by
  unfold State.modAssay
  simp only [State.setAssay_control]

theorem State.modNose_control (s : State) (b : Nat) (f : Nose → Nose) : (State.modNose s b f).control = s.control := by
  unfold State.modNose
  simp only [State.setNose_control]

theorem State.modTeller_control (s : State) (t : Nat) (f : Teller → Teller) : (State.modTeller s t f).control = s.control := by
  unfold State.modTeller
  simp only [State.setTeller_control]

theorem State.modPort_control (s : State) (p : Nat) (f : Port → Port) : (State.modPort s p f).control = s.control := by
  unfold State.modPort
  simp only [State.setPort_control]

theorem State.modRing_control (s : State) (n : Nat) (f : Ring → Ring) : (State.modRing s n f).control = s.control := by
  unfold State.modRing
  simp only [State.setRing_control]

theorem State.modChan_control (s : State) (c : Nat) (f : VaultCh → VaultCh) : (State.modChan s c f).control = s.control := by
  unfold State.modChan
  simp only [State.setChan_control]

theorem State.modSched_control (s : State) (k : Nat) (f : Sched → Sched) : (State.modSched s k f).control = s.control := by
  unfold State.modSched
  simp only [State.setSched_control]

theorem regStore_control (off : Nat) (v : Word32) (s : State) : (regStore off v s).control = s.control := by
  rfl

theorem setField_control (off hi lo x : Nat) (s : State) : (setField off hi lo x s).control = s.control := by
  unfold setField
  simp only [regStore_control]

theorem setPair_control (off v : Nat) (s : State) : (setPair off v s).control = s.control := by
  unfold setPair
  simp only [regStore_control]

theorem bumpN_control (off n : Nat) (s : State) : (bumpN off n s).control = s.control := by
  unfold bumpN
  simp only [State.control_mk, State.control_fold, apply_ite State.control, ite_self, regStore_control]

theorem bump_control (off : Nat) (s : State) : (bump off s).control = s.control := by
  unfold bump
  simp only [bumpN_control]

theorem tally_control (off : Nat) (s : State) : (tally off s).control = s.control := by
  unfold tally
  simp only [regStore_control]

theorem bump64_control (off n : Nat) (s : State) : (bump64 off n s).control = s.control := by
  unfold bump64
  simp only [State.control_mk, State.control_fold, apply_ite State.control, ite_self, setPair_control]

theorem peak_control (off hi lo v : Nat) (s : State) : (peak off hi lo v s).control = s.control := by
  unfold peak
  simp only [State.control_mk, State.control_fold, apply_ite State.control, ite_self, setField_control]

theorem cause_control (off i : Nat) (s : State) : (cause off i s).control = s.control := by
  unfold cause
  simp only [regStore_control]

theorem stampAt_control (secOff nsOff net : Nat) (s : State) : (stampAt secOff nsOff net s).control = s.control := by
  unfold stampAt
  simp only [regStore_control]

theorem stamp_control (secOff nsOff : Nat) (s : State) : (stamp secOff nsOff s).control = s.control := by
  unfold stamp
  simp only [stampAt_control]

theorem emitAt_control (net src kind payload : Nat) (s : State) : (emitAt net src kind payload s).control = s.control := by
  unfold emitAt
  simp only [State.control_mk, State.control_fold, apply_ite State.control, ite_self, bump_control, cause_control]

theorem emit_control (src kind payload : Nat) (s : State) : (emit src kind payload s).control = s.control := by
  unfold emit
  simp only [emitAt_control]

theorem perfCount_control (u k n : Nat) (s : State) : (perfCount u k n s).control = s.control := by
  unfold perfCount
  simp only [State.control_mk, State.control_fold, apply_ite State.control, ite_self, setPair_control, cause_control]

theorem perfN_control (u code n : Nat) (s : State) : (perfN u code n s).control = s.control := by
  unfold perfN
  simp only [State.control_foldl, implies_true, State.control_mk, State.control_fold, apply_ite State.control, ite_self, perfCount_control]

theorem perf_control (u code : Nat) (s : State) : (perf u code s).control = s.control := by
  unfold perf
  simp only [perfN_control]

theorem dispoCount_control (port cls code : Nat) (s : State) : (dispoCount port cls code s).control = s.control := by
  unfold dispoCount
  simp only [State.control_mk, State.control_fold, apply_ite State.control, ite_self]

theorem dispose_control (port cls code : Nat) (waited : Bool) (hash : Word64) (arr : Nat) (s : State) : (dispose port cls code waited hash arr s).control = s.control := by
  unfold dispose
  simp only [State.control_mk, State.control_fold, apply_ite State.control, ite_self, emit_control, dispoCount_control]

theorem takeFree_control (s : State) : (takeFree s).2.control = s.control := by
  rfl

theorem takeFree_control' {s : State} {x' : _} {r' : State} (h' : takeFree s = (x', r')) : r'.control = s.control := by
  have k' := takeFree_control s
  rw [h'] at k'
  exact k'

theorem plainWrite_control (off : Nat) (v : Word32) (s : State) : (plainWrite off v s).control = s.control := by
  unfold plainWrite
  split <;> simp only [State.control_mk, State.control_fold, regStore_control]

/-! ### Rings -/

theorem freshOut_control (s : State) : (freshOut s).control = s.control := by
  rfl

theorem toHost_control (addr : Nat) (b : Bytes) (s : State) : (toHost addr b s).control = s.control := by
  unfold toHost
  simp only [State.control_mk, State.control_fold, perfN_control]

theorem fromHost_control (n : Nat) (s : State) : (fromHost n s).control = s.control := by
  unfold fromHost
  simp only [perfN_control]

theorem advanceHead_control (n : Nat) (s : State) : (advanceHead n s).control = s.control := by
  unfold advanceHead
  simp only [State.control_mk, State.control_fold, apply_ite State.control, ite_self, State.modRing_control, bump_control, cause_control, perf_control, toHost_control]

theorem haltRing_control (n code : Nat) (s : State) : (haltRing n code s).control = s.control := by
  unfold haltRing
  simp only [State.modRing_control, cause_control, emit_control]

theorem closeBuffer_control (n : Nat) (s : State) : (closeBuffer n s).control = s.control := by
  unfold closeBuffer
  repeat' first
    | with_reducible rfl
    | (simp only [State.control_mk, State.control_fold, apply_ite State.control, ite_self, State.modRing_control, toHost_control, advanceHead_control]; done)
    | split
    | dsimp only

theorem writePart_control (n kind : Nat) (o : OpenBuf) (body : Bytes) (start : Bool) (s : State) : (writePart n kind o body start s).control = s.control := by
  unfold writePart
  simp only [State.control_mk, State.control_fold, apply_ite State.control, ite_self, State.modRing_control, toHost_control, closeBuffer_control]

theorem makeRoom_control (n : Nat) (s : State) : (makeRoom n s).control = s.control := by
  unfold makeRoom
  simp only [State.control_mk, State.control_fold, apply_ite State.control, ite_self, closeBuffer_control]

theorem placeRec_control (n kind : Nat) (body : Bytes) (s : State) : (placeRec n kind body s).2.control = s.control := by
  unfold placeRec
  repeat' first
    | with_reducible rfl
    | (simp only [State.control_mk, State.control_fold, apply_ite State.control, ite_self, writePart_control, makeRoom_control]; done)
    | split
    | dsimp only

theorem placeRec_control' {n kind : Nat} {body : Bytes} {s : State} {x' : _} {r' : State} (h' : placeRec n kind body s = (x', r')) : r'.control = s.control := by
  have k' := placeRec_control n kind body s
  rw [h'] at k'
  exact k'

theorem placeRest_control (n : Nat) (s : State) : (placeRest n s).control = s.control := by
  unfold placeRest
  repeat' first
    | with_reducible rfl
    | (simp only [State.control_mk, State.control_fold, apply_ite State.control, ite_self, writePart_control]; done)
    | split
    | dsimp only

theorem flushTimeout_control (n : Nat) (s : State) : (flushTimeout n s).control = s.control := by
  unfold flushTimeout
  repeat' first
    | with_reducible rfl
    | (simp only [State.control_mk, State.control_fold, apply_ite State.control, ite_self, closeBuffer_control]; done)
    | split
    | dsimp only

theorem ringCfgWrite_control (n : Nat) (v : Word32) (s : State) : (ringCfgWrite n v s).control = s.control := by
  unfold ringCfgWrite
  simp only [State.control_mk, State.control_fold, apply_ite State.control, ite_self, State.modRing_control, regStore_control, closeBuffer_control]

theorem tailWrite_control (n : Nat) (v : Word32) (s : State) : (tailWrite n v s).control = s.control := by
  unfold tailWrite
  simp only [regStore_control]

theorem endEntry_control (n res index : Nat) (s : State) : (endEntry n res index s).control = s.control := by
  unfold endEntry
  repeat' first
    | with_reducible rfl
    | (simp only [State.control_mk, State.control_fold, apply_ite State.control, ite_self, State.modRing_control, perf_control, toHost_control]; done)
    | split
    | dsimp only

theorem skimBatch_control (n k : Nat) (s : State) : (skimBatch n k s).control = s.control := by
  induction k generalizing s with
  | zero => rfl
  | succ k ih =>
    rw [skimBatch]
    repeat' first
      | with_reducible rfl
      | (simp only [ih, endEntry_control]; done)
      | split

theorem finishEntry_control (n res index : Nat) (s : State) : (finishEntry n res index s).control = s.control := by
  unfold finishEntry
  simp only [endEntry_control, skimBatch_control]

theorem batchWriteBack_control (n status : Nat) (b : Batch) (s : State) : (batchWriteBack n status b s).control = s.control := by
  unfold batchWriteBack
  simp only [toHost_control]

theorem batchDone_control (n : Nat) (s : State) : (batchDone n s).control = s.control := by
  unfold batchDone
  repeat' first
    | with_reducible rfl
    | (simp only [State.control_mk, State.control_fold, apply_ite State.control, ite_self, State.modRing_control, cause_control, emit_control, advanceHead_control, batchWriteBack_control]; done)
    | split
    | dsimp only

theorem fetchHost_control (n : Nat) (d : Bytes) (s : State) : (fetchHost n d s).control = s.control := by
  unfold fetchHost
  simp only [State.control_mk, State.control_fold, apply_ite State.control, ite_self, State.modRing_control, haltRing_control]

theorem fetchInject_control (n : Nat) (d : Bytes) (s : State) : (fetchInject n d s).control = s.control := by
  unfold fetchInject
  simp only [State.control_mk, State.control_fold, apply_ite State.control, ite_self, State.modRing_control, haltRing_control]

theorem fetchBatch_control (n : Nat) (d : Bytes) (data : Option Bytes) (s : State) : (fetchBatch n d data s).control = s.control := by
  unfold fetchBatch
  repeat' first
    | with_reducible rfl
    | (simp only [State.control_mk, State.control_fold, apply_ite State.control, ite_self, State.modRing_control, bump_control, cause_control, perf_control, fromHost_control, haltRing_control, skimBatch_control, batchWriteBack_control]; done)
    | split
    | dsimp only

theorem descFetch_control (n : Nat) (desc data : Option Bytes) (s : State) : (descFetch n desc data s).control = s.control := by
  unfold descFetch
  repeat' first
    | with_reducible rfl
    | (simp only [State.control_mk, State.control_fold, apply_ite State.control, ite_self, fromHost_control, haltRing_control, fetchHost_control, fetchInject_control, fetchBatch_control]; done)
    | split
    | dsimp only

/-! ### Time -/

theorem timeSnap_control (s : State) : (timeSnap s).control = s.control := by
  rfl

theorem setIncr_control (v : Nat) (s : State) : (setIncr v s).control = s.control := by
  unfold setIncr
  simp only [State.control_mk, State.control_fold, apply_ite State.control, ite_self, setPair_control, emit_control]

theorem incrWrite_control (half : Option Bool) (w : Word64) (s : State) : (incrWrite half w s).control = s.control := by
  unfold incrWrite
  split <;> simp only [State.control_mk, State.control_fold, setIncr_control]

theorem timeApply_control (s : State) : (timeApply s).control = s.control := by
  unfold timeApply
  simp only [State.control_mk, State.control_fold, apply_ite State.control, ite_self]

theorem timeCtrlWrite_control (v : Word32) (s : State) : (timeCtrlWrite v s).control = s.control := by
  unfold timeCtrlWrite
  simp only [State.control_mk, State.control_fold, apply_ite State.control, ite_self, regStore_control, timeSnap_control, timeApply_control]

theorem followCheck_control (s : State) : (followCheck s).control = s.control := by
  unfold followCheck
  simp only [State.control_mk, State.control_fold, apply_ite State.control, ite_self]

theorem refclkTime_control (lost : Bool) (s : State) : (refclkTime lost s).control = s.control := by
  unfold refclkTime
  simp only [State.control_mk, State.control_fold, apply_ite State.control, ite_self, cause_control, emit_control]

theorem setTrig_control (i : Nat) (t : Trigger) (s : State) : (setTrig i t s).control = s.control := by
  rfl

theorem trigArm_control (i : Nat) (v : Word32) (s : State) : (trigArm i v s).control = s.control := by
  unfold trigArm
  simp only [State.control_mk, State.control_fold, apply_ite State.control, ite_self, regStore_control, bump_control, cause_control, setTrig_control]

theorem trigDisarm_control (i : Nat) (v : Word32) (s : State) : (trigDisarm i v s).control = s.control := by
  unfold trigDisarm
  simp only [regStore_control, setTrig_control]

theorem trigCtrlWrite_control (i : Nat) (v : Word32) (s : State) : (trigCtrlWrite i v s).control = s.control := by
  unfold trigCtrlWrite
  simp only [State.control_mk, State.control_fold, apply_ite State.control, ite_self, trigArm_control, trigDisarm_control]

theorem trigEdge_control (i : Nat) (s : State) : (trigEdge i s).control = s.control := by
  unfold trigEdge
  repeat' first
    | with_reducible rfl
    | (simp only [State.control_mk, State.control_fold, apply_ite State.control, ite_self, setTrig_control]; done)
    | split
    | dsimp only

theorem trigPulseEnd_control (i : Nat) (s : State) : (trigPulseEnd i s).control = s.control := by
  unfold trigPulseEnd
  repeat' first
    | with_reducible rfl
    | (simp only [State.control_mk, State.control_fold, apply_ite State.control, ite_self, setTrig_control]; done)
    | split
    | dsimp only

theorem trigStep_control (forward : Bool) (i : Nat) (s : State) : (trigStep forward i s).control = s.control := by
  unfold trigStep
  simp only [State.control_mk, State.control_fold, apply_ite State.control, ite_self, bumpN_control, cause_control, emit_control, setTrig_control]

theorem bumpField_control (off hi lo : Nat) (s : State) : (bumpField off hi lo s).control = s.control := by
  unfold bumpField
  simp only [State.control_mk, State.control_fold, apply_ite State.control, ite_self, setField_control]

theorem setCap_control (i : Nat) (q : List CapEntry) (s : State) : (setCap i q s).control = s.control := by
  rfl

theorem captureEdge_control (i : Nat) (rising : Bool) (s : State) : (captureEdge i rising s).control = s.control := by
  unfold captureEdge
  simp only [State.control_mk, State.control_fold, apply_ite State.control, ite_self, cause_control, emit_control, bumpField_control, setCap_control]

theorem capturePop_control (i : Nat) (s : State) : (capturePop i s).control = s.control := by
  unfold capturePop
  simp only [setCap_control]

theorem ppsEdge_control (s : State) : (ppsEdge s).control = s.control := by
  unfold ppsEdge
  simp only [State.control_mk, State.control_fold, apply_ite State.control, ite_self]

theorem ppsPulseEnd_control (s : State) : (ppsPulseEnd s).control = s.control := by
  unfold ppsPulseEnd
  repeat' first
    | with_reducible rfl
    | (simp only [State.control_mk, State.control_fold, apply_ite State.control, ite_self]; done)
    | split
    | dsimp only

theorem ppsStep_control (s : State) : (ppsStep s).control = s.control := by
  unfold ppsStep
  simp only [State.control_mk, State.control_fold, apply_ite State.control, ite_self]

theorem offsetAdd_control (s : State) : (offsetAdd s).control = s.control := by
  unfold offsetAdd
  repeat' first
    | with_reducible rfl
    | (simp only [State.control_foldl, implies_true, State.control_mk, State.control_fold, apply_ite State.control, apply_ite Prod.snd, ite_self, cause_control, emit_control, trigStep_control, ppsStep_control]; done)
    | split
    | dsimp only

theorem ts2Push_control (e : Ts2Entry) (s : State) : (ts2Push e s).control = s.control := by
  unfold ts2Push
  simp only [State.control_mk, State.control_fold, apply_ite State.control, ite_self, bump_control, cause_control]

theorem ts2Pop_control (s : State) : (ts2Pop s).control = s.control := by
  rfl

theorem placeLosses_control (l : List (Nat × Nat)) (s : State) : (placeLosses l s).control = s.control := by
  induction l generalizing s with
  | nil => rfl
  | cons x l ih =>
    obtain ⟨src, n⟩ := x
    rw [placeLosses]
    split
    · rfl
    · simp only [ih, emit_control, State.control_mk, State.control_fold]

theorem sillDeliver_control (s : State) : (sillDeliver s).control = s.control := by
  unfold sillDeliver
  repeat' first
    | with_reducible rfl
    | (simp only [State.control_mk, State.control_fold, apply_ite State.control, ite_self, bump64_control, placeRec_control, placeLosses_control]; done)
    | split
    | dsimp only

theorem dispCfgWrite_control (v : Word32) (s : State) : (dispCfgWrite v s).control = s.control := by
  unfold dispCfgWrite
  simp only [State.control_mk, State.control_fold, apply_ite State.control, ite_self, regStore_control]

/-! ### Perf -/

theorem winCount_control (p len : Nat) (tx : Bool) (s : State) : (winCount p len tx s).control = s.control := by
  unfold winCount
  simp only [State.control_mk, State.control_fold, apply_ite State.control, ite_self, perf_control]

theorem windowLatch_control (s : State) : (windowLatch s).control = s.control := by
  unfold windowLatch
  simp only [State.control_mk, State.control_fold, apply_ite State.control, ite_self, perf_control]

theorem freezeNow_control (s : State) : (freezeNow s).control = s.control := by
  unfold freezeNow
  simp only [State.control_mk, State.control_fold, cause_control, stamp_control, perf_control]

theorem unfreezeNow_control (s : State) : (unfreezeNow s).control = s.control := by
  unfold unfreezeNow
  simp only [State.control_mk, State.control_fold, perf_control]

theorem freezeWrite_control (v : Word32) (s : State) : (freezeWrite v s).control = s.control := by
  unfold freezeWrite
  repeat' first
    | with_reducible rfl
    | (simp only [State.control_mk, State.control_fold, apply_ite State.control, ite_self, regStore_control, perf_control, freezeNow_control, unfreezeNow_control]; done)
    | split
    | dsimp only

theorem scheduledAct_control (s : State) : (scheduledAct s).control = s.control := by
  unfold scheduledAct
  repeat' first
    | with_reducible rfl
    | (simp only [State.control_mk, State.control_fold, apply_ite State.control, ite_self, freezeNow_control, unfreezeNow_control]; done)
    | split
    | dsimp only

theorem clearCounters_control (s : State) : (clearCounters s).control = s.control := by
  unfold clearCounters
  simp only [State.control_foldl, implies_true, State.control_mk, State.control_fold, apply_ite State.control, ite_self, setPair_control]

theorem perfCtrlWrite_control (v : Word32) (s : State) : (perfCtrlWrite v s).control = s.control := by
  unfold perfCtrlWrite
  simp only [State.control_mk, State.control_fold, apply_ite State.control, ite_self, regStore_control, clearCounters_control]

theorem perfDump_control (s : State) : (perfDump s).control = s.control := by
  unfold perfDump
  split
  · rfl
  · extract_lets seq s1 p s2
    have h1 : s1.control = s.control := regStore_control _ _ _
    have h2 : s2.control = s1.control := by simp only [s2, State.control_mk, State.control_fold]
    clear_value s2 s1
    split <;> simp only [cause_control, bump_control, State.control_mk, State.control_fold, h1, h2]

/-! ### FlowCtl -/

theorem emitFc_control (p : Nat) (f : Bytes) (s : State) : (emitFc p f s).control = s.control := by
  unfold emitFc
  simp only [State.control_foldl, implies_true, State.control_mk, State.control_fold, apply_ite State.control, ite_self, perf_control, bumpField_control, winCount_control]

theorem sendFc_control (p : Nat) (f : Bytes) (s : State) : (sendFc p f s).control = s.control := by
  unfold sendFc
  simp only [State.control_foldl, implies_true, State.control_mk, State.control_fold, apply_ite State.control, ite_self, State.modSched_control, emitFc_control]

theorem flushFc_control (p : Nat) (s : State) : (flushFc p s).control = s.control := by
  unfold flushFc
  simp only [State.control_foldl, implies_true, State.control_mk, State.control_fold, apply_ite State.control, ite_self, State.modSched_control, emitFc_control]

theorem sendX_control (p q : Nat) (off : Bool) (s : State) : (sendX p q off s).control = s.control := by
  unfold sendX
  simp only [State.control_mk, State.control_fold, apply_ite State.control, ite_self, sendFc_control]

theorem fcClass_control (p q : Nat) (s : State) : (fcClass p q s).control = s.control := by
  unfold fcClass
  simp only [State.control_mk, State.control_fold, apply_ite State.control, ite_self, State.setSched_control, sendX_control]

theorem fcUpdate_control (p : Nat) (s : State) : (fcUpdate p s).control = s.control := by
  unfold fcUpdate
  simp only [State.control_foldl, implies_true, State.control_mk, State.control_fold, apply_ite State.control, ite_self, State.modSched_control, fcClass_control]

theorem xoffRepeat_control (p q : Nat) (s : State) : (xoffRepeat p q s).control = s.control := by
  unfold xoffRepeat
  repeat' first
    | with_reducible rfl
    | (simp only [State.control_mk, State.control_fold, apply_ite State.control, ite_self, State.setSched_control, sendX_control]; done)
    | split
    | dsimp only

theorem pauseExpiry_control (p c : Nat) (s : State) : (pauseExpiry p c s).control = s.control := by
  unfold pauseExpiry
  repeat' first
    | with_reducible rfl
    | (simp only [State.control_mk, State.control_fold, apply_ite State.control, ite_self, State.setSched_control]; done)
    | split
    | dsimp only

theorem pauseClass_control (p c quanta : Nat) (s : State) : (pauseClass p c quanta s).control = s.control := by
  unfold pauseClass
  simp only [State.setSched_control]

theorem flowControl_control (p : Nat) (data : Bytes) (s : State) : (flowControl p data s).control = s.control := by
  unfold flowControl
  simp only [State.control_foldl, implies_true, State.control_mk, State.control_fold, apply_ite State.control, ite_self, bumpField_control, pauseClass_control]

/-! ### Sieve -/

theorem sieveLookup_control (b : Nat) (kv : KeyVec) (tpl gen : Nat) (s : State) : (sieveLookup b kv tpl gen s).2.2.control = s.control := by
  unfold sieveLookup
  repeat' first
    | with_reducible rfl
    | (simp only [State.control_mk, State.control_fold, apply_ite State.control, ite_self, bump_control]; done)
    | split
    | dsimp only

theorem sieveLookup_control' {b : Nat} {kv : KeyVec} {tpl gen : Nat} {s : State} {x' : _} {y' : _} {r' : State} (h' : sieveLookup b kv tpl gen s = (x', y', r')) : r'.control = s.control := by
  have k' := sieveLookup_control b kv tpl gen s
  rw [h'] at k'
  exact k'

/-! ### Accord -/

theorem batchWait_control (n : Nat) (s : State) : (batchWait n s).control = s.control := by
  unfold batchWait
  repeat' first
    | with_reducible rfl
    | (simp only [State.control_mk, State.control_fold, apply_ite State.control, ite_self, State.modRing_control, finishEntry_control]; done)
    | split
    | dsimp only

theorem batchTimeout_control (n : Nat) (s : State) : (batchTimeout n s).control = s.control := by
  unfold batchTimeout
  repeat' first
    | with_reducible rfl
    | (simp only [State.control_mk, State.control_fold, apply_ite State.control, ite_self, finishEntry_control]; done)
    | split
    | dsimp only

/-! ### Vault -/

theorem noteVaultOp_control (c : Nat) (k : VClass) (s : State) : (noteVaultOp c k s).control = s.control := by
  unfold noteVaultOp
  simp only [State.control_foldl, implies_true, State.control_mk, State.control_fold, apply_ite State.control, ite_self, State.modChan_control, perf_control]

theorem inOrder_control (rank u : Nat) (s : State) : (inOrder rank u s).control = s.control := by
  unfold inOrder
  simp only [State.control_foldl, implies_true, State.control_mk, State.control_fold, apply_ite State.control, ite_self, State.modChan_control, bump_control, perf_control]

theorem chanRead_control (rank u : Nat) (k : VClass) (s : State) : (chanRead rank u k s).control = s.control := by
  unfold chanRead
  simp only [bump64_control, perf_control, noteVaultOp_control, inOrder_control]

theorem chanWrite_control (rank u b : Nat) (k : VClass) (s : State) : (chanWrite rank u b k s).control = s.control := by
  unfold chanWrite
  simp only [State.modChan_control, bump64_control, perf_control, noteVaultOp_control]

theorem countRead_control (a : Nat) (b : Nat) (k : VClass) (s : State) : (countRead a b k s).control = s.control := by
  unfold countRead
  simp only [State.control_mk, State.control_fold, apply_ite State.control, ite_self, bump64_control, chanRead_control]

theorem countWrite_control (a : Nat) (b : Nat) (k : VClass) (s : State) : (countWrite a b k s).control = s.control := by
  unfold countWrite
  simp only [State.control_foldl, implies_true, State.control_mk, State.control_fold, apply_ite State.control, ite_self, bump64_control, chanWrite_control]

theorem setOcc_control (b n : Nat) (s : State) : (setOcc b n s).control = s.control := by
  unfold setOcc
  simp only [State.control_mk, State.control_fold, apply_ite State.control, ite_self, State.modLedger_control, cause_control]

theorem occStep_control (slot : Nat) (f : State → State) (s : State) (h : ∀ s, (f s).control = s.control) : (occStep slot f s).control = s.control := by
  unfold occStep
  dsimp only
  split <;> simp only [setOcc_control, h]

theorem storeCell_control (a : Nat) (cell : VCell) (s : State) : (storeCell a cell s).control = s.control := by
  unfold storeCell
  simp only [State.control_foldl, implies_true, State.control_mk, State.control_fold, apply_ite State.control, ite_self, State.modChan_control]

theorem storeRecord_control (a : Nat) (cell : VCell) (s : State) : (storeRecord a cell s).control = s.control := by
  unfold storeRecord
  repeat' first
    | with_reducible rfl
    | (simp only [State.control_foldl, implies_true, State.control_mk, State.control_fold, apply_ite State.control, apply_ite Prod.snd, ite_self, occStep_control, storeCell_control]; done)
    | split
    | dsimp only

theorem writeRecord_control (a b : Nat) (k : VClass) (r : Rec) (s : State) : (writeRecord a b k r s).control = s.control := by
  unfold writeRecord
  simp only [countWrite_control, storeRecord_control]

theorem candidate_control (rank why : Nat) (s : State) : (candidate rank why s).control = s.control := by
  unfold candidate
  simp only [State.control_mk, State.control_fold, apply_ite State.control, ite_self, State.modChan_control, cause_control, stamp_control, emit_control]

theorem spareAbort_control (s : State) : (spareAbort s).control = s.control := by
  unfold spareAbort
  simp only [State.control_mk, State.control_fold, cause_control, emit_control]

theorem rankLasting_control (rank why : Nat) (s : State) : (rankLasting rank why s).control = s.control := by
  unfold rankLasting
  simp only [State.control_foldl, implies_true, State.control_mk, State.control_fold, apply_ite State.control, ite_self, candidate_control, spareAbort_control]

theorem aer_control (i : Nat) (corr : Bool) (s : State) : (aer i corr s).control = s.control := by
  unfold aer
  cases corr <;> exact emit_control ..

theorem aerInternal_control (s : State) : (aerInternal s).control = s.control := by
  unfold aerInternal
  simp only [aer_control]

theorem logUe_control (info addr : Nat) (s : State) : (logUe info addr s).control = s.control := by
  unfold logUe
  simp only [regStore_control, setPair_control, stamp_control]

theorem noteLasting_control (rank a : Nat) (user : VaultAccess) (words : Nat) (s : State) : (noteLasting rank a user words s).control = s.control := by
  unfold noteLasting
  simp only [State.control_mk, State.control_fold, apply_ite State.control, ite_self, bump_control, tally_control, cause_control, emit_control, candidate_control, spareAbort_control, logUe_control]

theorem vaultLasting_control (a : Nat) (user : VaultAccess) (words : Nat) (s : State) : (vaultLasting a user words s).control = s.control := by
  unfold vaultLasting
  simp only [storeRecord_control, noteLasting_control]

theorem noteTransient_control (rank a : Nat) (user : VaultAccess) (words : Nat) (s : State) : (noteTransient rank a user words s).control = s.control := by
  unfold noteTransient
  simp only [bump_control, emit_control]

theorem countFix_control (rank dev : Nat) (s : State) : (countFix rank dev s).control = s.control := by
  unfold countFix
  simp only [State.control_mk, State.control_fold, apply_ite State.control, ite_self, State.modChan_control, tally_control, cause_control, emit_control, perf_control, candidate_control]

theorem refusePartial_control (a lo : Nat) (host : Bool) (tellers : List (Nat × Nat)) (s : State) : (refusePartial a lo host tellers s).control = s.control := by
  unfold refusePartial
  simp only [State.control_foldl, implies_true, State.control_mk, State.control_fold, apply_ite State.control, ite_self, State.modTeller_control, setPair_control, bump_control, cause_control, emit_control, aerInternal_control]

theorem rmwRecord_control (a : Nat) (m : Tbl Byte) (have_ : List Nat) (host : Bool) (tellers : List (Nat × Nat)) (s : State) : (rmwRecord a m have_ host tellers s).control = s.control := by
  unfold rmwRecord
  repeat' first
    | with_reducible rfl
    | (simp only [State.control_mk, State.control_fold, apply_ite State.control, ite_self, bump_control, countRead_control, countWrite_control, storeRecord_control, refusePartial_control]; done)
    | split
    | dsimp only

theorem closeMerge_control (c : Nat) (e : MergeEntry) (s : State) : (closeMerge c e s).control = s.control := by
  unfold closeMerge
  simp only [State.control_mk, State.control_fold, apply_ite State.control, ite_self, State.modChan_control, bump_control, countWrite_control, storeRecord_control, rmwRecord_control]

theorem settleMerge_control (a : Nat) (s : State) : (settleMerge a s).control = s.control := by
  unfold settleMerge
  repeat' first
    | with_reducible rfl
    | (simp only [State.control_mk, State.control_fold, apply_ite State.control, ite_self, closeMerge_control]; done)
    | split
    | dsimp only

theorem partialWrite_control (a off : Nat) (data : List (Option Byte)) (host : Bool) (teller : Option (Nat × Nat)) (s : State) : (partialWrite a off data host teller s).control = s.control := by
  unfold partialWrite
  repeat' first
    | with_reducible rfl
    | (simp only [State.control_mk, State.control_fold, apply_ite State.control, ite_self, State.modChan_control, bump_control, rmwRecord_control, closeMerge_control]; done)
    | split
    | dsimp only

theorem mergeExpiry_control (c record : Nat) (s : State) : (mergeExpiry c record s).control = s.control := by
  unfold mergeExpiry
  repeat' first
    | with_reducible rfl
    | (simp only [State.control_mk, State.control_fold, apply_ite State.control, ite_self, closeMerge_control]; done)
    | split
    | dsimp only

theorem vaultRequestDone_control (a : Nat) (user : VaultAccess) (noise retryNoise : Bytes) (s : State) : (vaultRequestDone a user noise retryNoise s).control = s.control := by
  unfold vaultRequestDone
  repeat' first
    | with_reducible rfl
    | (simp only [State.control_foldl, implies_true, State.control_mk, State.control_fold, apply_ite State.control, apply_ite Prod.snd, ite_self, bump_control, bump64_control, perf_control, inOrder_control, vaultLasting_control, noteTransient_control, countFix_control, settleMerge_control]; done)
    | split
    | dsimp only

theorem readRecord_control (a b : Nat) (k : VClass) (s : State) : (readRecord a b k s).2.control = s.control := by
  unfold readRecord
  simp only [State.control_mk, State.control_fold, apply_ite State.control, ite_self, bump_control, countRead_control, settleMerge_control]

theorem readRecord_control' {a b : Nat} {k : VClass} {s : State} {x' : _} {r' : State} (h' : readRecord a b k s = (x', r')) : r'.control = s.control := by
  have k' := readRecord_control a b k s
  rw [h'] at k'
  exact k'

/-! ### Egress -/

theorem setFrame_control (f : Nat) (x : Frame) (s : State) : (setFrame f x s).control = s.control := by
  rfl

theorem dropFrame_control (f : Nat) (s : State) : (dropFrame f s).control = s.control := by
  rfl

theorem modFrame_control (f : Nat) (g : Frame → Frame) (s : State) : (modFrame f g s).control = s.control := by
  unfold modFrame
  split <;> simp only [State.control_mk, State.control_fold, setFrame_control]

theorem addRef_control (f : Nat) (s : State) : (addRef f s).control = s.control := by
  unfold addRef
  simp only [modFrame_control]

theorem release_control (f : Nat) (s : State) : (release f s).control = s.control := by
  unfold release
  repeat' first
    | with_reducible rfl
    | (simp only [State.control_mk, State.control_fold, apply_ite State.control, ite_self, perf_control, fcUpdate_control, setFrame_control, dropFrame_control]; done)
    | split
    | dsimp only

theorem setQueue_control (n : Nat) (q : List Copy) (s : State) : (setQueue n q s).control = s.control := by
  rfl

theorem settleEmpty_control (n : Nat) (s : State) : (settleEmpty n s).control = s.control := by
  unfold settleEmpty
  simp only [State.control_mk, State.control_fold, apply_ite State.control, ite_self, State.setClass_control]

theorem countCopy_control (c : Copy) (code : Nat) (s : State) : (countCopy c code s).control = s.control := by
  unfold countCopy
  repeat' first
    | with_reducible rfl
    | (simp only [State.control_mk, State.control_fold, apply_ite State.control, ite_self, dispose_control]; done)
    | split
    | dsimp only

theorem discardCopy_control (c : Copy) (code : Nat) (s : State) : (discardCopy c code s).control = s.control := by
  unfold discardCopy
  simp only [State.control_mk, State.control_fold, apply_ite State.control, ite_self, bump_control, cause_control, release_control, countCopy_control]

theorem enqueue_control (n : Nat) (c : Copy) (s : State) : (enqueue n c s).control = s.control := by
  unfold enqueue
  repeat' first
    | with_reducible rfl
    | (simp only [State.control_mk, State.control_fold, apply_ite State.control, ite_self, bump_control, cause_control, perf_control, release_control, setQueue_control, discardCopy_control]; done)
    | split
    | dsimp only

theorem makeCopy_control (n : Nat) (c : Copy) (s : State) : (makeCopy n c s).control = s.control := by
  unfold makeCopy
  simp only [addRef_control, enqueue_control]

theorem badTarget_control (c : Copy) (s : State) : (badTarget c s).control = s.control := by
  unfold badTarget
  simp only [bump_control, cause_control, addRef_control, discardCopy_control]

theorem sendTo_control (target q : Nat) (groups : Bool) (c : Copy) (s : State) : (sendTo target q groups c s).control = s.control := by
  unfold sendTo
  repeat' first
    | with_reducible rfl
    | (simp only [State.control_foldl, implies_true, State.control_mk, State.control_fold, apply_ite State.control, apply_ite Prod.snd, ite_self, perfN_control, addRef_control, discardCopy_control, makeCopy_control, badTarget_control]; done)
    | split
    | dsimp only

theorem trySample_control (f : Nat) (s : State) : (trySample f s).control = s.control := by
  unfold trySample
  repeat' first
    | with_reducible rfl
    | (simp only [State.control_mk, State.control_fold, apply_ite State.control, ite_self, setFrame_control, release_control, makeCopy_control]; done)
    | split
    | dsimp only

theorem passDone_control (f : Nat) (info : CopyInfo) (s : State) : (passDone f info s).control = s.control := by
  unfold passDone
  simp only [modFrame_control, release_control, trySample_control]

theorem dropPass_control (d : Desc) (cls code : Nat) (s : State) : (dropPass d cls code s).control = s.control := by
  unfold dropPass
  simp only [dispose_control, passDone_control]

theorem puntPass_control (d : Desc) (ring cls source reason : Nat) (s : State) : (puntPass d ring cls source reason s).control = s.control := by
  unfold puntPass
  simp only [makeCopy_control, passDone_control]

theorem mirrorPass_control (d : Desc) (target q : Nat) (s : State) : (mirrorPass d target q s).control = s.control := by
  unfold mirrorPass
  simp only [sendTo_control]

theorem setPolicer_control (k : Nat) (x : Policer) (s : State) : (setPolicer k x s).control = s.control := by
  rfl

theorem police_control (b i : Nat) (d : Desc) (s : State) : (police b i d s).2.control = s.control := by
  unfold police
  repeat' first
    | with_reducible rfl
    | (simp only [State.control_mk, State.control_fold, apply_ite State.control, ite_self, perf_control, setFrame_control, setPolicer_control]; done)
    | split
    | dsimp only

theorem police_control' {b i : Nat} {d : Desc} {s : State} {x' : _} {r' : State} (h' : police b i d s = (x', r')) : r'.control = s.control := by
  have k' := police_control b i d s
  rw [h'] at k'
  exact k'

theorem forwardPass_control (d : Desc) (a : Word64) (params : List Word64) (s : State) : (forwardPass d a params s).control = s.control := by
  unfold forwardPass
  simp only [sendTo_control, passDone_control]

theorem takeAction_control (d : Desc) (a : Word64) (params : List Word64) (s : State) : (takeAction d a params s).control = s.control := by
  unfold takeAction
  simp only [State.control_mk, State.control_fold, apply_ite State.control, ite_self, dropPass_control, puntPass_control, forwardPass_control]

theorem policeAction_control (b : Nat) (d : Desc) (a : Word64) (s : State) : (policeAction b d a s).2.control = s.control := by
  unfold policeAction
  split <;> simp only [State.control_mk, State.control_fold, police_control]

theorem policeAction_control' {b : Nat} {d : Desc} {a : Word64} {s : State} {x' : _} {r' : State} (h' : policeAction b d a s = (x', r')) : r'.control = s.control := by
  have k' := policeAction_control b d a s
  rw [h'] at k'
  exact k'

theorem applyAction_control (b : Nat) (d : Desc) (a : Word64) (params : List Word64) (s : State) : (applyAction b d a params s).control = s.control := by
  unfold applyAction
  simp only [State.control_mk, State.control_fold, apply_ite State.control, ite_self, dropPass_control, takeAction_control, policeAction_control]

/-! ### Link -/

theorem freshTeth_control (s : State) : (freshTeth s).control = s.control := by
  rfl

theorem linkOut_control (kind seq : Nat) (payload : Bytes) (s : State) : (linkOut kind seq payload s).control = s.control := by
  unfold linkOut
  simp only [State.control_mk, State.control_fold, perf_control]

theorem linkReply_control (seq : Nat) (ok : Bool) (s : State) : (linkReply seq ok s).control = s.control := by
  rfl

theorem linkSend_control (kind : Nat) (payload : Bytes) (s : State) : (linkSend kind payload s).control = s.control := by
  unfold linkSend
  simp only [State.control_mk, State.control_fold, apply_ite State.control, ite_self, linkOut_control]

/-! ### Items -/

theorem notePeak_control (b : Nat) (s : State) : (notePeak b s).control = s.control := by
  unfold notePeak
  simp only [peak_control]

theorem trace_control (b k : Nat) (i : Item) (teller : Nat) (pref : Option Nat) (s : State) : (trace b k i teller pref s).control = s.control := by
  unfold trace
  simp only [State.control_mk, State.control_fold, apply_ite State.control, ite_self, State.modDisp_control, emit_control]

theorem addItem_control (b : Nat) (i : Item) (s : State) : (addItem b i s).control = s.control := by
  unfold addItem
  repeat' first
    | with_reducible rfl
    | (simp only [State.control_foldl, implies_true, State.control_mk, State.control_fold, apply_ite State.control, apply_ite Prod.snd, ite_self, State.setDisp_control, notePeak_control]; done)
    | split
    | dsimp only

theorem noteWaiting_control (b : Nat) (i : Item) (f : Nat) (s : State) : (noteWaiting b i f s).control = s.control := by
  unfold noteWaiting
  simp only [bump_control, perf_control, modFrame_control, trace_control]

theorem addStateless_control (b : Nat) (d : Desc) (a : Word64) (reclass : Bool) (s : State) : (addStateless b d a reclass s).control = s.control := by
  unfold addStateless
  simp only [State.control_mk, State.control_fold, apply_ite State.control, ite_self, addItem_control, noteWaiting_control]

theorem noteStall_control (b : Nat) (i : Item) (s : State) : (noteStall b i s).control = s.control := by
  unfold noteStall
  simp only [cause_control, trace_control]

theorem noteRefused_control (b : Nat) (i : Item) (s : State) : (noteRefused b i s).control = s.control := by
  unfold noteRefused
  simp only [bump_control, cause_control, trace_control]

theorem offerMaint_control (b routine : Nat) (kind : ItemFor) (hash arg : Word64) (s : State) : (offerMaint b routine kind hash arg s).2.control = s.control := by
  unfold offerMaint
  repeat' first
    | with_reducible rfl
    | (simp only [State.control_mk, State.control_fold, apply_ite State.control, ite_self, trace_control, addItem_control]; done)
    | split
    | dsimp only

theorem offerMaint_control' {b routine : Nat} {kind : ItemFor} {hash arg : Word64} {s : State} {x' : _} {r' : State} (h' : offerMaint b routine kind hash arg s = (x', r')) : r'.control = s.control := by
  have k' := offerMaint_control b routine kind hash arg s
  rw [h'] at k'
  exact k'

theorem setCofferWord_control (i : Nat) (v : Word64) (s : State) : (setCofferWord i v s).control = s.control := by
  rfl

theorem exportItem_control (b : Nat) (n : Snapshot) (s : State) : (exportItem b n s).2.control = s.control := by
  unfold exportItem
  repeat' first
    | with_reducible rfl
    | (simp only [State.control_mk, State.control_fold, apply_ite State.control, ite_self, offerMaint_control]; done)
    | split
    | dsimp only

theorem exportItem_control' {b : Nat} {n : Snapshot} {s : State} {x' : _} {r' : State} (h' : exportItem b n s = (x', r')) : r'.control = s.control := by
  have k' := exportItem_control b n s
  rw [h'] at k'
  exact k'

theorem storeSnapshot_control (i : Nat) (rc : Rec) (s : State) : (storeSnapshot i rc s).control = s.control := by
  unfold storeSnapshot
  simp only [State.control_foldl, implies_true, apply_ite State.control, ite_self, cause_control, setCofferWord_control]

theorem exportRecord_control (b : Nat) (hash : Word64) (r : Rec) (expired : Bool) (s : State) : (exportRecord b hash r expired s).control = s.control := by
  unfold exportRecord
  simp only [State.control_foldl, implies_true, State.control_mk, State.control_fold, apply_ite State.control, ite_self, State.modLedger_control, bump_control, emit_control, storeSnapshot_control, exportItem_control]

theorem exportOnClose_control (b : Nat) (hash : Word64) (r : Rec) (expired : Bool) (s : State) : (exportOnClose b hash r expired s).control = s.control := by
  unfold exportOnClose
  simp only [State.control_mk, State.control_fold, apply_ite State.control, ite_self, exportRecord_control]

theorem mirrorSend_control (b type : Nat) (hash : Word64) (r : Rec) (s : State) : (mirrorSend b type hash r s).control = s.control := by
  unfold mirrorSend
  simp only [State.control_mk, State.control_fold, apply_ite State.control, ite_self, bump_control, cause_control, emit_control]

theorem mirrorEvent_control (b e : Nat) (hash : Word64) (r : Rec) (s : State) : (mirrorEvent b e hash r s).2.control = s.control := by
  unfold mirrorEvent
  split <;> simp only [State.control_mk, State.control_fold, mirrorSend_control]

theorem mirrorEvent_control' {b e : Nat} {hash : Word64} {r : Rec} {s : State} {x' : _} {r' : State} (h' : mirrorEvent b e hash r s = (x', r')) : r'.control = s.control := by
  have k' := mirrorEvent_control b e hash r s
  rw [h'] at k'
  exact k'

/-! ### Till -/

theorem setWay_control (b k : Nat) (w : Way) (s : State) : (setWay b k w s).control = s.control := by
  unfold setWay
  simp only [State.modLedger_control]

theorem dropWay_control (b k : Nat) (s : State) : (dropWay b k s).control = s.control := by
  unfold dropWay
  simp only [State.modLedger_control]

theorem modWay_control (b k : Nat) (f : Way → Way) (s : State) : (modWay b k f s).control = s.control := by
  unfold modWay
  split <;> simp only [State.control_mk, State.control_fold, setWay_control]

theorem touchWay_control (b k : Nat) (s : State) : (touchWay b k s).control = s.control := by
  unfold touchWay
  simp only [State.modLedger_control]

theorem unclaim_control (b k : Nat) (s : State) : (unclaim b k s).control = s.control := by
  unfold unclaim
  repeat' first
    | with_reducible rfl
    | (simp only [State.control_foldl, implies_true, State.control_mk, State.control_fold, apply_ite State.control, apply_ite Prod.snd, ite_self, occStep_control, modWay_control]; done)
    | split
    | dsimp only

theorem unflush_control (b k : Nat) (s : State) : (unflush b k s).control = s.control := by
  unfold unflush
  simp only [State.modLedger_control]

theorem writeBack_control (b k : Nat) (s : State) : (writeBack b k s).control = s.control := by
  unfold writeBack
  repeat' first
    | with_reducible rfl
    | (simp only [State.control_mk, State.control_fold, apply_ite State.control, ite_self, bump_control, perf_control, countWrite_control, storeRecord_control, modWay_control, unclaim_control, unflush_control]; done)
    | split
    | dsimp only

theorem evict_control (b k : Nat) (s : State) : (evict b k s).control = s.control := by
  unfold evict
  split <;> simp only [State.control_mk, State.control_fold, bump_control, perf_control, dropWay_control, writeBack_control]

theorem pinWay_control (b k : Nat) (s : State) : (pinWay b k s).control = s.control := by
  unfold pinWay
  repeat' first
    | with_reducible rfl
    | (simp only [State.control_mk, State.control_fold, apply_ite State.control, ite_self, bump_control, cause_control, setWay_control]; done)
    | split
    | dsimp only

theorem closeWay_control (b k : Nat) (expired applied : Bool) (s : State) : (closeWay b k expired applied s).control = s.control := by
  unfold closeWay
  repeat' first
    | with_reducible rfl
    | (simp only [State.control_mk, State.control_fold, apply_ite State.control, ite_self, bump_control, exportOnClose_control, mirrorEvent_control, setWay_control, modWay_control]; done)
    | split
    | dsimp only

theorem noteState_control (b : Nat) (hash : Word64) (r : Rec) (s : State) : (noteState b hash r s).control = s.control := by
  unfold noteState
  simp only [State.control_mk, State.control_fold, apply_ite State.control, ite_self, cause_control, emit_control]

theorem closeSlot_control (b slot : Nat) (r : Rec) (k : VClass) (s : State) : (closeSlot b slot r k s).control = s.control := by
  unfold closeSlot
  simp only [bump_control, writeRecord_control, exportOnClose_control, mirrorEvent_control]

theorem putWay_control (b k : Nat) (f : Fill) (s : State) : (putWay b k f s).control = s.control := by
  unfold putWay
  simp only [State.modLedger_control, setWay_control, touchWay_control, pinWay_control]

theorem install_control' {b k : Nat} {hash : Word64} {f : Fill} {s s' : State} (h : install b hash f s = some (k, s')) : s'.control = s.control := by
  unfold install at h
  dsimp only at h
  cases hv : victim s b (tillSet hash) with
  | none => rw [hv] at h; cases h
  | some i =>
    rw [hv] at h
    cases h
    simp only [putWay_control, evict_control]

theorem noteNoway_control (b : Nat) (s : State) : (noteNoway b s).control = s.control := by
  unfold noteNoway
  simp only [bump_control, cause_control]

theorem visit_control (b k : Nat) (d : Desc) (s : State) : (visit b k d s).control = s.control := by
  unfold visit
  repeat' first
    | with_reducible rfl
    | (simp only [State.control_mk, State.control_fold, apply_ite State.control, ite_self, setFrame_control, mirrorSend_control, setWay_control, modWay_control]; done)
    | split
    | dsimp only

theorem tailAdd_control (len : Nat) (a : TailAdd) (s : State) : (tailAdd len a s).control = s.control := by
  unfold tailAdd
  split <;> simp only [State.control_mk, State.control_fold, modWay_control]

theorem lockWay_control (b k t : Nat) (s : State) : (lockWay b k t s).control = s.control := by
  unfold lockWay
  simp only [modWay_control]

theorem unlockWay_control (b k : Nat) (s : State) : (unlockWay b k s).control = s.control := by
  unfold unlockWay
  simp only [modWay_control]

theorem lockAlarm_control (b k : Nat) (s : State) : (lockAlarm b k s).control = s.control := by
  unfold lockAlarm
  repeat' first
    | with_reducible rfl
    | (simp only [State.control_mk, State.control_fold, apply_ite State.control, ite_self, bump_control, cause_control, emit_control, setWay_control]; done)
    | split
    | dsimp only

theorem durableBack_control (b k : Nat) (s : State) : (durableBack b k s).control = s.control := by
  unfold durableBack
  repeat' first
    | with_reducible rfl
    | (simp only [State.control_mk, State.control_fold, apply_ite State.control, ite_self, bump_control, writeBack_control]; done)
    | split
    | dsimp only

theorem durableExpiry_control (b k : Nat) (s : State) : (durableExpiry b k s).control = s.control := by
  unfold durableExpiry
  repeat' first
    | with_reducible rfl
    | (simp only [State.control_mk, State.control_fold, apply_ite State.control, ite_self, durableBack_control]; done)
    | split
    | dsimp only

theorem writeBackAll_control (b : Nat) (s : State) : (writeBackAll b s).control = s.control := by
  unfold writeBackAll
  simp only [State.control_foldl, implies_true, State.control_mk, State.control_fold, apply_ite State.control, ite_self, writeBack_control]

theorem brownoutFlush_control (s : State) : (brownoutFlush s).control = s.control := by
  unfold brownoutFlush
  simp only [State.control_foldl, implies_true, State.control_mk, State.control_fold, apply_ite State.control, ite_self, durableBack_control]

theorem flushStart_control (b : Nat) (v : Word32) (s : State) : (flushStart b v s).control = s.control := by
  unfold flushStart
  simp only [State.control_mk, State.control_fold, apply_ite State.control, ite_self, State.modLedger_control, setField_control]

theorem flushDone_control (b : Nat) (s : State) : (flushDone b s).control = s.control := by
  unfold flushDone
  repeat' first
    | with_reducible rfl
    | (simp only [State.control_foldl, implies_true, State.control_mk, State.control_fold, apply_ite State.control, apply_ite Prod.snd, ite_self, State.modLedger_control, cause_control, stamp_control, writeBack_control]; done)
    | split
    | dsimp only

theorem occLimitWrite_control (v : Word32) (s : State) : (occLimitWrite v s).control = s.control := by
  unfold occLimitWrite
  simp only [State.control_foldl, implies_true, State.control_mk, State.control_fold, apply_ite State.control, ite_self, setField_control, cause_control]

/-! ### Slots -/

theorem testSlot_control (b slot : Nat) (k : VClass) (hash : Word64) (key : Ckey) (t : Nat) (s : State) : (testSlot b slot k hash key t s).2.control = s.control := by
  unfold testSlot
  repeat' first
    | with_reducible rfl
    | (simp only [implies_true, State.control_foldl2, State.control_foldl3, Decision.state_ite, Decision.state_done, Decision.state_full, Decision.state_noroom, ScanIssue.state_ite, ScanIssue.state_done, ScanIssue.state_wait, State.control_mk, State.control_fold, State.control_foldl, apply_ite State.control, apply_ite Prod.snd, apply_ite EntryStep.state, EntryStep.state_served, EntryStep.state_searched, EntryStep.state_refused, EntryStep.state_wait, EntryStep.state_hold, ite_self, bump_control, readRecord_control, noteState_control, closeSlot_control]; done)
    | split
    | dsimp only
    | ((try have h0 := readRecord_control' ‹_›); simp only [implies_true, State.control_foldl2, State.control_foldl3, Decision.state_ite, Decision.state_done, Decision.state_full, Decision.state_noroom, ScanIssue.state_ite, ScanIssue.state_done, ScanIssue.state_wait, State.control_mk, State.control_fold, State.control_foldl, apply_ite State.control, apply_ite Prod.snd, apply_ite EntryStep.state, EntryStep.state_served, EntryStep.state_searched, EntryStep.state_refused, EntryStep.state_wait, EntryStep.state_hold, ite_self, bump_control, readRecord_control, noteState_control, closeSlot_control, *]; done)

theorem testSlot_control' {b slot : Nat} {k : VClass} {hash : Word64} {key : Ckey} {t : Nat} {s : State} {x' : _} {r' : State} (h' : testSlot b slot k hash key t s = (x', r')) : r'.control = s.control := by
  have k' := testSlot_control b slot k hash key t s
  rw [h'] at k'
  exact k'

theorem lostRead_control (b slot : Nat) (k : VClass) (s : State) : (lostRead b slot k s).2.control = s.control := by
  unfold lostRead
  simp only [bump_control, countRead_control]

theorem lostRead_control' {b slot : Nat} {k : VClass} {s : State} {x' : _} {r' : State} (h' : lostRead b slot k s = (x', r')) : r'.control = s.control := by
  have k' := lostRead_control b slot k s
  rw [h'] at k'
  exact k'

theorem searchBoth_control (b : Nat) (k : VClass) (hash : Word64) (key : Ckey) (t : Nat) (s : State) :
    (searchBoth b k hash key t s).2.2.control = s.control := by
  unfold searchBoth
  dsimp only
  cases (testSlot b (cands s hash).1 k hash key t s).1 <;> dsimp only
  · exact testSlot_control ..
  · exact testSlot_control ..
  all_goals
    cases (testSlot b (cands s hash).2 k hash key t (testSlot b (cands s hash).1 k hash key t s).2).1 <;>
      exact (testSlot_control ..).trans (testSlot_control ..)

theorem searchBoth_control' {b : Nat} {k : VClass} {hash : Word64} {key : Ckey} {t : Nat} {s : State} {x' : _} {y' : _} {r' : State} (h' : searchBoth b k hash key t s = (x', y', r')) : r'.control = s.control := by
  have k' := searchBoth_control b k hash key t s
  rw [h'] at k'
  exact k'

theorem leaveSlot_control (b k t : Nat) (s : State) : (leaveSlot b k t s).control = s.control := by
  unfold leaveSlot
  repeat' first
    | with_reducible rfl
    | (simp only [State.control_mk, State.control_fold, apply_ite State.control, ite_self, modWay_control, closeWay_control]; done)
    | split
    | dsimp only

theorem vacate_control (b slot t : Nat) (v : VClass) (s : State) : (vacate b slot t v s).control = s.control := by
  unfold vacate
  repeat' first
    | with_reducible rfl
    | (simp only [State.control_foldl, implies_true, State.control_mk, State.control_fold, apply_ite State.control, apply_ite Prod.snd, ite_self, closeSlot_control, leaveSlot_control]; done)
    | split
    | dsimp only

theorem placeSlot_control (b : Nat) (hash : Word64) (key : Ckey) (t : Nat) (v : VClass) (s : State) : (placeSlot b hash key t v s).2.control = s.control := by
  unfold placeSlot
  repeat' first
    | with_reducible rfl
    | (simp only [State.control_mk, State.control_fold, apply_ite State.control, ite_self, vacate_control]; done)
    | split
    | dsimp only

theorem placeSlot_control' {b : Nat} {hash : Word64} {key : Ckey} {t : Nat} {v : VClass} {s : State} {x' : _} {r' : State} (h' : placeSlot b hash key t v s = (x', r')) : r'.control = s.control := by
  have k' := placeSlot_control b hash key t v s
  rw [h'] at k'
  exact k'

theorem reuseSlot_control (b k : Nat) (w : Way) (t : Nat) (v : VClass) (s : State) : (reuseSlot b k w t v s).2.control = s.control := by
  unfold reuseSlot
  repeat' first
    | with_reducible rfl
    | (simp only [State.control_foldl, implies_true, State.control_mk, State.control_fold, apply_ite State.control, apply_ite Prod.snd, ite_self, leaveSlot_control, placeSlot_control]; done)
    | split
    | dsimp only

theorem reuseSlot_control' {b k : Nat} {w : Way} {t : Nat} {v : VClass} {s : State} {x' : _} {r' : State} (h' : reuseSlot b k w t v s = (x', r')) : r'.control = s.control := by
  have k' := reuseSlot_control b k w t v s
  rw [h'] at k'
  exact k'

theorem leaveTill_control (b k t : Nat) (s : State) : (leaveTill b k t s).control = s.control := by
  unfold leaveTill
  repeat' first
    | with_reducible rfl
    | (simp only [State.control_foldl, implies_true, State.control_mk, State.control_fold, apply_ite State.control, apply_ite Prod.snd, ite_self, dropWay_control, closeWay_control]; done)
    | split
    | dsimp only

theorem newClaim_control (b : Nat) (s : State) : (newClaim b s).2.control = s.control := by
  unfold newClaim
  repeat' first
    | with_reducible rfl
    | (simp only [State.control_mk, State.control_fold, apply_ite State.control, ite_self, State.modLedger_control, bump_control, cause_control, writeBack_control]; done)
    | split
    | dsimp only

theorem newClaim_control' {b : Nat} {s : State} {x' : _} {r' : State} (h' : newClaim b s = (x', r')) : r'.control = s.control := by
  have k' := newClaim_control b s
  rw [h'] at k'
  exact k'

theorem refillTokens_control (b : Nat) (s : State) : (refillTokens b s).control = s.control := by
  unfold refillTokens
  simp only [State.modLedger_control]

theorem takeToken_control (b : Nat) (s : State) : (takeToken b s).2.control = s.control := by
  unfold takeToken
  repeat' first
    | with_reducible rfl
    | (simp only [State.control_mk, State.control_fold, apply_ite State.control, ite_self, State.modLedger_control, refillTokens_control]; done)
    | split
    | dsimp only

theorem takeToken_control' {b : Nat} {s : State} {x' : _} {r' : State} (h' : takeToken b s = (x', r')) : r'.control = s.control := by
  have k' := takeToken_control b s
  rw [h'] at k'
  exact k'

theorem setupBurstWrite_control (b : Nat) (v : Word32) (s : State) : (setupBurstWrite b v s).control = s.control := by
  unfold setupBurstWrite
  simp only [State.modLedger_control, setField_control, refillTokens_control]

theorem noteSetup_control (b : Nat) (s : State) : (noteSetup b s).control = s.control := by
  unfold noteSetup
  simp only [bump64_control, perf_control]

theorem noteStateLost_control (b : Nat) (hash : Word64) (slot : Nat) (s : State) : (noteStateLost b hash slot s).control = s.control := by
  unfold noteStateLost
  simp only [bump_control, cause_control, emit_control]

theorem mirrorSetup_control (b k : Nat) (s : State) : (mirrorSetup b k s).control = s.control := by
  unfold mirrorSetup
  repeat' first
    | with_reducible rfl
    | (simp only [State.control_mk, State.control_fold, apply_ite State.control, ite_self, mirrorEvent_control, modWay_control]; done)
    | split
    | dsimp only

/-! ### Allow -/

theorem noteAllowance_control (u what amount : Nat) (s : State) : (noteAllowance u what amount s).control = s.control := by
  unfold noteAllowance
  simp only [emit_control]

theorem refuseAllowance_control (u amount : Nat) (s : State) : (refuseAllowance u amount s).control = s.control := by
  unfold refuseAllowance
  simp only [bump_control, cause_control, noteAllowance_control]

theorem grantAllowance_control (u a : Nat) (s : State) : (grantAllowance u a s).control = s.control := by
  unfold grantAllowance
  simp only [State.control_mk, State.control_fold, State.setUser_control, noteAllowance_control]

theorem requestAllowance_control (u a : Nat) (s : State) : (requestAllowance u a s).control = s.control := by
  unfold requestAllowance
  simp only [State.control_mk, State.control_fold, apply_ite State.control, ite_self, State.setUser_control, refuseAllowance_control, grantAllowance_control]

theorem grantHead_control (s : State) : (grantHead s).control = s.control := by
  unfold grantHead
  repeat' first
    | with_reducible rfl
    | (simp only [State.control_mk, State.control_fold, apply_ite State.control, ite_self, grantAllowance_control]; done)
    | split
    | dsimp only

theorem dropAllowance_control (u : Nat) (s : State) : (dropAllowance u s).control = s.control := by
  unfold dropAllowance
  simp only [State.control_mk, State.control_fold, apply_ite State.control, ite_self, State.setUser_control]

theorem returnAllowance_control (u : Nat) (s : State) : (returnAllowance u s).control = s.control := by
  unfold returnAllowance
  split <;> simp only [State.control_mk, State.control_fold, State.setUser_control, noteAllowance_control, dropAllowance_control]

theorem revokeAllowance_control (u : Nat) (s : State) : (revokeAllowance u s).control = s.control := by
  unfold revokeAllowance
  simp only [bump_control, cause_control, noteAllowance_control, dropAllowance_control]

theorem revokeAll_control (n : Nat) (s : State) : (revokeAll n s).control = s.control := by
  induction n generalizing s with
  | zero => rfl
  | succ n ih =>
    rw [revokeAll]
    split
    · simp only [ih, revokeAllowance_control]
    · simp only [State.control_foldl, refuseAllowance_control, State.setUser_control, implies_true, State.control_mk, State.control_fold]

theorem slewStep_control (s : State) : (slewStep s).control = s.control := by
  unfold slewStep
  repeat' first
    | with_reducible rfl
    | (simp only [State.control_mk, State.control_fold, apply_ite State.control, ite_self, State.setUser_control]; done)
    | split
    | dsimp only

/-! ### Errors -/

theorem sramEvent_control (mem branch addr : Nat) (e : EccResult) (s : State) : (sramEvent mem branch addr e s).control = s.control := by
  unfold sramEvent
  split <;> simp only [State.control_mk, State.control_fold, tally_control, cause_control, emit_control, logUe_control]

theorem sramRead_control (mem : Nat) (r : SramRead) (s : State) : (sramRead mem r s).2.control = s.control := by
  unfold sramRead
  simp only [sramEvent_control]

theorem sramRead_control' {mem : Nat} {r : SramRead} {s : State} {x' : _} {r' : State} (h' : sramRead mem r s = (x', r')) : r'.control = s.control := by
  have k' := sramRead_control mem r s
  rw [h'] at k'
  exact k'

theorem Page.readWord_control (g : Page) (flips : List WordFlips) (i : Nat) (s : State) (hp : ∀ i w s, (g.put i w s).control = s.control)
    (hl : ∀ i s, (g.lose i s).control = s.control) : (g.readWord flips i s).control = s.control := by
  unfold Page.readWord
  repeat' first
    | with_reducible rfl
    | (simp only [sramEvent_control, hp, hl, apply_ite State.control, ite_self]; done)
    | split

theorem Page.readAll_control (g : Page) (flips : List WordFlips) (s : State) (hp : ∀ i w s, (g.put i w s).control = s.control)
    (hl : ∀ i s, (g.lose i s).control = s.control) : (g.readAll flips s).control = s.control :=
  State.control_foldl _ (fun t i => Page.readWord_control g flips i t hp hl) _ _

theorem complete_control (data : Bytes) (s : State) : (complete data s).control = s.control := by
  rfl

theorem unsupported_control (s : State) : (unsupported s).control = s.control := by
  rfl

theorem modMem_control (t op : Nat) (f : MemOp → MemOp) (s : State) : (modMem t op f s).control = s.control := by
  unfold modMem
  simp only [State.modTeller_control]

theorem dropMem_control (t op : Nat) (s : State) : (dropMem t op s).control = s.control := by
  unfold dropMem
  simp only [State.modTeller_control]

theorem answerCoffer_control (q : CofferReq) (v : Word64) (s : State) : (answerCoffer q v s).control = s.control := by
  unfold answerCoffer
  simp only [modMem_control]

theorem poisonCoffer_control (q : CofferReq) (s : State) : (poisonCoffer q s).control = s.control := by
  unfold poisonCoffer
  simp only [modMem_control]

theorem endStore_control (q : CofferReq) (s : State) : (endStore q s).control = s.control := by
  unfold endStore
  simp only [State.control_mk, State.control_fold, apply_ite State.control, ite_self, dropMem_control]

theorem roundStep_control (old : Option Word64) (q : CofferReq) (cur : Option Word64) (s : State) : (roundStep old q cur s).2.control = s.control := by
  unfold roundStep
  repeat' first
    | with_reducible rfl
    | (simp only [State.control_mk, State.control_fold, apply_ite State.control, ite_self, modMem_control, answerCoffer_control, poisonCoffer_control, endStore_control]; done)
    | split
    | dsimp only

theorem roundStep_control' {old : Option Word64} {q : CofferReq} {cur : Option Word64} {s : State} {x' : _} {r' : State} (h' : roundStep old q cur s = (x', r')) : r'.control = s.control := by
  have k' := roundStep_control old q cur s
  rw [h'] at k'
  exact k'

theorem cofferStore_control (i : Nat) (v : Option Word64) (s : State) : (cofferStore i v s).control = s.control := by
  unfold cofferStore
  repeat' first
    | with_reducible rfl
    | (simp only [State.control_mk, State.control_fold, apply_ite State.control, ite_self, setCofferWord_control]; done)
    | split
    | dsimp only

theorem cofferRead_control (i : Nat) (flips : List WordFlips) (s : State) : (cofferRead i flips s).2.control = s.control := by
  unfold cofferRead
  dsimp only
  split
  · exact Page.readAll_control _ _ _ (fun _ _ _ => setCofferWord_control ..) fun _ _ => cofferStore_control ..
  · exact Page.readWord_control _ _ _ _ (fun _ _ _ => setCofferWord_control ..) fun _ _ => cofferStore_control ..

theorem cofferRead_control' {i : Nat} {flips : List WordFlips} {s : State} {x' : _} {r' : State} (h' : cofferRead i flips s = (x', r')) : r'.control = s.control := by
  have k' := cofferRead_control i flips s
  rw [h'] at k'
  exact k'

theorem cofferRoundOn_control (i : Nat) (flips : List WordFlips) (reads : Bool) (soft : Option Word64 → Option Word64) (s : State) : (cofferRoundOn i flips reads soft s).2.control = s.control := by
  unfold cofferRoundOn
  repeat' first
    | with_reducible rfl
    | (simp only [implies_true, State.control_foldl2, State.control_foldl3, Decision.state_ite, Decision.state_done, Decision.state_full, Decision.state_noroom, ScanIssue.state_ite, ScanIssue.state_done, ScanIssue.state_wait, State.control_mk, State.control_fold, State.control_foldl, apply_ite State.control, apply_ite Prod.snd, apply_ite EntryStep.state, EntryStep.state_served, EntryStep.state_searched, EntryStep.state_refused, EntryStep.state_wait, EntryStep.state_hold, ite_self, roundStep_control, cofferStore_control, cofferRead_control]; done)
    | split
    | dsimp only
    | ((try have h0 := roundStep_control' ‹_›; try have h1 := cofferRead_control' ‹_›); simp only [implies_true, State.control_foldl2, State.control_foldl3, Decision.state_ite, Decision.state_done, Decision.state_full, Decision.state_noroom, ScanIssue.state_ite, ScanIssue.state_done, ScanIssue.state_wait, State.control_mk, State.control_fold, State.control_foldl, apply_ite State.control, apply_ite Prod.snd, apply_ite EntryStep.state, EntryStep.state_served, EntryStep.state_searched, EntryStep.state_refused, EntryStep.state_wait, EntryStep.state_hold, ite_self, roundStep_control, cofferStore_control, cofferRead_control, *]; done)

theorem cofferRoundOn_control' {i : Nat} {flips : List WordFlips} {reads : Bool} {soft : Option Word64 → Option Word64} {s : State} {x' : _} {r' : State} (h' : cofferRoundOn i flips reads soft s = (x', r')) : r'.control = s.control := by
  have k' := cofferRoundOn_control i flips reads soft s
  rw [h'] at k'
  exact k'

theorem cofferOff_control (s : State) : (cofferOff s).control = s.control := by
  unfold cofferOff
  dsimp only
  rw [State.control_foldl]
  · simp only [apply_ite State.control, cause_control, State.control_mk, State.control_fold, ite_self]
  · intro t q
    split
    · split
      · exact dropMem_control ..
      · exact poisonCoffer_control ..
    · rfl

theorem cofferRound_control (flips : List WordFlips) (s : State) : (cofferRound flips s).control = s.control := by
  unfold cofferRound
  repeat' first
    | with_reducible rfl
    | (simp only [State.control_mk, State.control_fold, apply_ite State.control, ite_self, cofferRoundOn_control, cofferOff_control]; done)
    | split
    | dsimp only

theorem cofferHostRead_control (off len : Nat) (flips : List WordFlips) (s : State) : (cofferHostRead off len flips s).control = s.control := by
  unfold cofferHostRead
  dsimp only
  split
  · simp only [unsupported_control, apply_ite State.control, cause_control, ite_self]
  · split
    · simp only [unsupported_control, cause_control]
    · have h : ∀ l : List Nat, ∀ a : Bytes × Bool × State, (l.foldl (fun (x : Bytes × Bool × State) i =>
          (x.1 ++ leBytes 8 (match (cofferRoundOn i flips true id x.2.2).1 with
            | some w => (w, (cofferRoundOn i flips true id x.2.2).2)
            | none => takeFree (cofferRoundOn i flips true id x.2.2).2).1.toNat,
           x.2.1 || (cofferRoundOn i flips true id x.2.2).1.isNone,
           (match (cofferRoundOn i flips true id x.2.2).1 with
            | some w => (w, (cofferRoundOn i flips true id x.2.2).2)
            | none => takeFree (cofferRoundOn i flips true id x.2.2).2).2)) a).2.2.control = a.2.2.control := by
        intro l a
        refine State.control_foldl3 _ (fun x i => ?_) l a
        dsimp only
        split <;> simp only [takeFree_control, cofferRoundOn_control]
      split
      · simp only [State.control_mk, State.control_fold]
        rw [complete_control]; exact h ..
      · rw [complete_control]; exact h ..

theorem cofferClear_control (s : State) : (cofferClear s).control = s.control := by
  rfl

/-! ### Ledger -/

theorem offerStateless_control (b : Nat) (d : Desc) (a : Word64) (s : State) : (offerStateless b d a s).control = s.control := by
  unfold offerStateless
  simp only [State.control_mk, State.control_fold, apply_ite State.control, ite_self, State.modLedger_control, addStateless_control, noteStall_control]

theorem statelessAction_control (b : Nat) (d : Desc) (a : Word64) (s : State) : (statelessAction b d a s).control = s.control := by
  unfold statelessAction
  simp only [State.control_mk, State.control_fold, apply_ite State.control, ite_self, dropPass_control, policeAction_control, applyAction_control, offerStateless_control]

theorem defaultAct_control (b act ring source code : Nat) (d : Desc) (s : State) : (defaultAct b act ring source code d s).control = s.control := by
  unfold defaultAct
  split <;> simp only [State.control_mk, State.control_fold, sieveLookup_control, dropPass_control, puntPass_control, statelessAction_control]

theorem overflowAct_control (b code : Nat) (d : Desc) (s : State) : (overflowAct b code d s).control = s.control := by
  unfold overflowAct
  simp only [defaultAct_control]

theorem setupAct_control (b : Nat) (d : Desc) (s : State) : (setupAct b d s).control = s.control := by
  unfold setupAct
  simp only [defaultAct_control]

theorem toItem_control (b k : Nat) (d : Desc) (a : Word64) (setup reclass : Bool) (s : State) (s0 : State) (h0 : s0.control = s.control) : ((toItem b k d a setup reclass s).state s0).control = s.control := by
  unfold toItem
  repeat' first
    | with_reducible rfl
    | exact h0
    | (simp only [implies_true, State.control_foldl2, State.control_foldl3, Decision.state_ite, Decision.state_done, Decision.state_full, Decision.state_noroom, ScanIssue.state_ite, ScanIssue.state_done, ScanIssue.state_wait, State.control_mk, State.control_fold, State.control_foldl, apply_ite State.control, apply_ite Prod.snd, apply_ite EntryStep.state, EntryStep.state_served, EntryStep.state_searched, EntryStep.state_refused, EntryStep.state_wait, EntryStep.state_hold, ite_self, h0, addItem_control, visit_control]; done)
    | split
    | dsimp only

theorem toItem_control' {b k : Nat} {d : Desc} {a : Word64} {setup reclass : Bool} {s : State} {r' : State} (h' : toItem b k d a setup reclass s = .done r') : r'.control = s.control := by
  have k' := toItem_control b k d a setup reclass s s rfl
  rw [h'] at k'
  exact k'

theorem toItem_controlN {b k : Nat} {d : Desc} {a : Word64} {setup reclass : Bool} {s : State} {r' : State} (h' : toItem b k d a setup reclass s = .noroom r') : r'.control = s.control := by
  have k' := toItem_control b k d a setup reclass s s rfl
  rw [h'] at k'
  exact k'

theorem updateUnit_control (b k : Nat) (d : Desc) (s : State) : (updateUnit b k d s).control = s.control := by
  unfold updateUnit
  simp only [bump64_control, perf_control, applyAction_control, visit_control]

theorem noteRefusedSetup_control (b : Nat) (s : State) : (noteRefusedSetup b s).control = s.control := by
  unfold noteRefusedSetup
  simp only [bump_control, cause_control]

theorem setupPass_control (b k : Nat) (d : Desc) (a : Word64) (s : State) (s0 : State) (h0 : s0.control = s.control) :
    ((setupPass b k d a s).state s0).control = s.control := by
  unfold setupPass
  split
  · simp only [Decision.state_done, applyAction_control, mirrorSetup_control, visit_control]
  · rw [toItem_control _ _ _ _ _ _ _ _ (h0.trans (modWay_control ..).symm), modWay_control]

theorem setupPass_control' {b k : Nat} {d : Desc} {a : Word64} {s : State} {r' : State} (h' : setupPass b k d a s = .done r') : r'.control = s.control := by
  have k' := setupPass_control b k d a s s rfl
  rw [h'] at k'
  exact k'

theorem setupPass_controlN {b k : Nat} {d : Desc} {a : Word64} {s : State} {r' : State} (h' : setupPass b k d a s = .noroom r') : r'.control = s.control := by
  have k' := setupPass_control b k d a s s rfl
  rw [h'] at k'
  exact k'

theorem claimFor_control (b : Nat) (w : Way) (s : State) : (claimFor b w s).2.control = s.control := by
  unfold claimFor
  split <;> simp only [State.control_mk, State.control_fold, newClaim_control]

theorem claimFor_control' {b : Nat} {w : Way} {s : State} {x' : _} {r' : State} (h' : claimFor b w s = (x', r')) : r'.control = s.control := by
  have k' := claimFor_control b w s
  rw [h'] at k'
  exact k'

theorem renewWay_control (b k : Nat) (w : Way) (rc : Rec) (t : Nat) (v : VClass) (s : State) : (renewWay b k w rc t v s).control = s.control := by
  unfold renewWay
  repeat' first
    | with_reducible rfl
    | (simp only [implies_true, State.control_foldl2, State.control_foldl3, Decision.state_ite, Decision.state_done, Decision.state_full, Decision.state_noroom, ScanIssue.state_ite, ScanIssue.state_done, ScanIssue.state_wait, State.control_mk, State.control_fold, State.control_foldl, apply_ite State.control, apply_ite Prod.snd, apply_ite EntryStep.state, EntryStep.state_served, EntryStep.state_searched, EntryStep.state_refused, EntryStep.state_wait, EntryStep.state_hold, ite_self, occStep_control, putWay_control, reuseSlot_control, claimFor_control]; done)
    | split
    | dsimp only
    | ((try have h0 := reuseSlot_control' ‹_›; try have h1 := claimFor_control' ‹_›); simp only [implies_true, State.control_foldl2, State.control_foldl3, Decision.state_ite, Decision.state_done, Decision.state_full, Decision.state_noroom, ScanIssue.state_ite, ScanIssue.state_done, ScanIssue.state_wait, State.control_mk, State.control_fold, State.control_foldl, apply_ite State.control, apply_ite Prod.snd, apply_ite EntryStep.state, EntryStep.state_served, EntryStep.state_searched, EntryStep.state_refused, EntryStep.state_wait, EntryStep.state_hold, ite_self, occStep_control, putWay_control, reuseSlot_control, claimFor_control, *]; done)

theorem setupInPlace_control (b k : Nat) (d : Desc) (s : State) (s0 : State) (h0 : s0.control = s.control) :
    ((setupInPlace b k d s).state s0).control = s.control := by
  unfold setupInPlace
  dsimp only
  split
  · simp only [Decision.state_done, statelessAction_control, sieveLookup_control]
  · split
    · simp only [Decision.state_done, setupAct_control, noteRefusedSetup_control, takeToken_control, sieveLookup_control]
    · split
      · simp only [Decision.state_done, takeToken_control, sieveLookup_control]
      · rw [setupPass_control]
        · rw [noteSetup_control, renewWay_control, takeToken_control, sieveLookup_control]
        · rw [noteSetup_control, renewWay_control, takeToken_control, sieveLookup_control, h0]

theorem setupInPlace_control' {b k : Nat} {d : Desc} {s : State} {r' : State} (h' : setupInPlace b k d s = .done r') : r'.control = s.control := by
  have k' := setupInPlace_control b k d s s rfl
  rw [h'] at k'
  exact k'

theorem setupInPlace_controlN {b k : Nat} {d : Desc} {s : State} {r' : State} (h' : setupInPlace b k d s = .noroom r') : r'.control = s.control := by
  have k' := setupInPlace_control b k d s s rfl
  rw [h'] at k'
  exact k'

theorem reclassify_control (b k : Nat) (d : Desc) (fast : Bool) (s : State) (s0 : State) (h0 : s0.control = s.control) :
    ((reclassify b k d fast s).state s0).control = s.control := by
  unfold reclassify
  dsimp only
  split
  · simp only [Decision.state_done, statelessAction_control, closeWay_control, perf_control, bump_control, sieveLookup_control]
  · split
    · simp only [Decision.state_done, updateUnit_control, modWay_control, perf_control, bump_control, sieveLookup_control]
    · rw [toItem_control]
      · simp only [modWay_control, perf_control, bump_control, sieveLookup_control]
      · simp only [modWay_control, perf_control, bump_control, sieveLookup_control, h0]

theorem reclassify_control' {b k : Nat} {d : Desc} {fast : Bool} {s : State} {r' : State} (h' : reclassify b k d fast s = .done r') : r'.control = s.control := by
  have k' := reclassify_control b k d fast s s rfl
  rw [h'] at k'
  exact k'

theorem reclassify_controlN {b k : Nat} {d : Desc} {fast : Bool} {s : State} {r' : State} (h' : reclassify b k d fast s = .noroom r') : r'.control = s.control := by
  have k' := reclassify_control b k d fast s s rfl
  rw [h'] at k'
  exact k'

theorem decideFrom2_control (b k : Nat) (d : Desc) (s : State) (s0 : State) (h0 : s0.control = s.control) :
    ((decideFrom2 b k d s).state s0).control = s.control := by
  unfold decideFrom2
  split
  · rfl
  · rename_i w _
    dsimp only
    have hu : (noteState b d.hash w.rc s).control = s.control := noteState_control ..
    generalize noteState b d.hash w.rc s = u at hu ⊢
    have hu0 := h0.trans hu.symm
    rw [← hu]
    split
    · rw [Decision.state_noroom, leaveTill_control]
    · split
      · exact setupInPlace_control _ _ _ _ _ hu0
      · split
        · rw [setupInPlace_control _ _ _ _ _ (hu0.trans (closeWay_control ..).symm), closeWay_control]
        · split
          · exact reclassify_control _ _ _ _ _ _ hu0
          · split
            · exact updateUnit_control ..
            · exact toItem_control _ _ _ _ _ _ _ _ hu0

theorem decideFrom2_control' {b k : Nat} {d : Desc} {s : State} {r' : State} (h' : decideFrom2 b k d s = .done r') : r'.control = s.control := by
  have k' := decideFrom2_control b k d s s rfl
  rw [h'] at k'
  exact k'

theorem decideFrom2_controlN {b k : Nat} {d : Desc} {s : State} {r' : State} (h' : decideFrom2 b k d s = .noroom r') : r'.control = s.control := by
  have k' := decideFrom2_control b k d s s rfl
  rw [h'] at k'
  exact k'

theorem joinChain_control (b k : Nat) (w : Way) (d : Desc) (s : State) : (joinChain b k w d s).control = s.control := by
  unfold joinChain
  simp only [State.modDisp_control, notePeak_control, noteWaiting_control, setWay_control]

theorem decide_control (b k : Nat) (d : Desc) (s : State) (s0 : State) (h0 : s0.control = s.control) :
    ((decide b k d s).state s0).control = s.control := by
  unfold decide
  split
  · rfl
  · split
    · split
      · simp only [Decision.state_done, joinChain_control]
      · exact h0
    · exact decideFrom2_control _ _ _ _ _ h0

theorem decide_control' {b k : Nat} {d : Desc} {s : State} {r' : State} (h' : decide b k d s = .done r') : r'.control = s.control := by
  have k' := decide_control b k d s s rfl
  rw [h'] at k'
  exact k'

theorem decide_controlN {b k : Nat} {d : Desc} {s : State} {r' : State} (h' : decide b k d s = .noroom r') : r'.control = s.control := by
  have k' := decide_control b k d s s rfl
  rw [h'] at k'
  exact k'

theorem answerOpen_control (t : Nat) (k : Option Nat) (s : State) : (answerOpen t k s).control = s.control := by
  unfold answerOpen
  simp only [State.modTeller_control]

theorem openOnWay_control (b k t : Nat) (s : State) : (openOnWay b k t s).control = s.control := by
  unfold openOnWay
  repeat' first
    | with_reducible rfl
    | (simp only [State.control_mk, State.control_fold, apply_ite State.control, ite_self, setWay_control, closeWay_control, noteState_control, lockWay_control, answerOpen_control]; done)
    | split
    | dsimp only

theorem hostDone_control (b : Nat) (a : HostAnswer) (s : State) : (hostDone b a s).control = s.control := by
  unfold hostDone
  simp only [State.modLedger_control]

theorem hostWay_control (b k result where_ : Nat) (data : Bool) (s : State) : (hostWay b k result where_ data s).control = s.control := by
  unfold hostWay
  split <;> simp only [State.control_mk, State.control_fold, hostDone_control]

theorem hostWrite_control (b k where_ : Nat) (s : State) : (hostWrite b k where_ s).control = s.control := by
  unfold hostWrite
  repeat' first
    | with_reducible rfl
    | (simp only [State.control_mk, State.control_fold, apply_ite State.control, ite_self, State.modLedger_control, setWay_control, pinWay_control, closeWay_control, hostWay_control]; done)
    | split
    | dsimp only

theorem hostOnTill_control (b k where_ : Nat) (s : State) : (hostOnTill b k where_ s).control = s.control := by
  unfold hostOnTill
  repeat' first
    | with_reducible rfl
    | (simp only [State.control_foldl, implies_true, State.control_mk, State.control_fold, apply_ite State.control, apply_ite Prod.snd, ite_self, writeBack_control, closeWay_control, noteState_control, renewWay_control, hostDone_control, hostWay_control, hostWrite_control]; done)
    | split
    | dsimp only

theorem mirrorIgnored_control (s : State) : (mirrorIgnored s).control = s.control := by
  unfold mirrorIgnored
  simp only [bump_control]

theorem mirrorOnTill_control (b k type side : Nat) (rc : Rec) (s : State) : (mirrorOnTill b k type side rc s).control = s.control := by
  unfold mirrorOnTill
  repeat' first
    | with_reducible rfl
    | (simp only [State.control_foldl, implies_true, State.control_mk, State.control_fold, apply_ite State.control, apply_ite Prod.snd, ite_self, bump_control, setWay_control, pinWay_control, closeWay_control, noteState_control, renewWay_control, mirrorIgnored_control]; done)
    | split
    | dsimp only

theorem dropEntry_control (b id : Nat) (s : State) : (dropEntry b id s).control = s.control := by
  unfold dropEntry
  simp only [State.modLedger_control]

theorem putEntry_control (b : Nat) (e : MissEntry) (s : State) : (putEntry b e s).control = s.control := by
  unfold putEntry
  simp only [State.modLedger_control]

theorem noteQueue_control (b : Nat) (s : State) : (noteQueue b s).control = s.control := by
  unfold noteQueue
  simp only [peak_control]

theorem startReloc_control (b : Nat) (e : MissEntry) (s : State) : (startReloc b e s).2.control = s.control := by
  unfold startReloc
  repeat' first
    | with_reducible rfl
    | (simp only [State.control_foldl, implies_true, State.control_mk, State.control_fold, apply_ite State.control, apply_ite Prod.snd, ite_self, bump_control, offerMaint_control]; done)
    | split
    | dsimp only

theorem startReloc_control' {b : Nat} {e : MissEntry} {s : State} {x' : _} {r' : State} (h' : startReloc b e s = (x', r')) : r'.control = s.control := by
  have k' := startReloc_control b e s
  rw [h'] at k'
  exact k'

theorem noteNoslot_control (b : Nat) (s : State) : (noteNoslot b s).control = s.control := by
  unfold noteNoslot
  simp only [bump_control, cause_control]

theorem holdEntry_control (b : Nat) (e : MissEntry) (d : Desc) (searched : Bool) (s : State) : (holdEntry b e d searched s).state.control = s.control := by
  unfold holdEntry
  repeat' first
    | with_reducible rfl
    | (simp only [implies_true, State.control_foldl2, State.control_foldl3, Decision.state_ite, Decision.state_done, Decision.state_full, Decision.state_noroom, ScanIssue.state_ite, ScanIssue.state_done, ScanIssue.state_wait, State.control_mk, State.control_fold, State.control_foldl, apply_ite State.control, apply_ite Prod.snd, apply_ite EntryStep.state, EntryStep.state_served, EntryStep.state_searched, EntryStep.state_refused, EntryStep.state_wait, EntryStep.state_hold, ite_self, noteStall_control]; done)
    | split
    | dsimp only

theorem holdEntry_control' {b : Nat} {e : MissEntry} {d : Desc} {searched : Bool} {s : State} {r' : EntryStep} (h' : holdEntry b e d searched s = r') : r'.state.control = s.control := by
  rw [← h']; exact holdEntry_control b e d searched s

theorem setupTurn_control (b k : Nat) (e : MissEntry) (d : Desc) (a : Word64) (s : State) : (setupTurn b k e d a s).state.control = s.control := by
  unfold setupTurn
  repeat' first
    | with_reducible rfl
    | (simp only [implies_true, State.control_foldl2, State.control_foldl3, Decision.state_ite, Decision.state_done, Decision.state_full, Decision.state_noroom, ScanIssue.state_ite, ScanIssue.state_done, ScanIssue.state_wait, State.control_mk, State.control_fold, State.control_foldl, apply_ite State.control, apply_ite Prod.snd, apply_ite EntryStep.state, EntryStep.state_served, EntryStep.state_searched, EntryStep.state_refused, EntryStep.state_wait, EntryStep.state_hold, ite_self, setupPass_control, holdEntry_control]; done)
    | split
    | dsimp only
    | ((try have h0 := setupPass_control' ‹_›; try have g0 := setupPass_controlN ‹_›; try have h1 := holdEntry_control' ‹_›); simp only [implies_true, State.control_foldl2, State.control_foldl3, Decision.state_ite, Decision.state_done, Decision.state_full, Decision.state_noroom, ScanIssue.state_ite, ScanIssue.state_done, ScanIssue.state_wait, State.control_mk, State.control_fold, State.control_foldl, apply_ite State.control, apply_ite Prod.snd, apply_ite EntryStep.state, EntryStep.state_served, EntryStep.state_searched, EntryStep.state_refused, EntryStep.state_wait, EntryStep.state_hold, ite_self, setupPass_control, holdEntry_control, *]; done)

theorem setupTurn_control' {b k : Nat} {e : MissEntry} {d : Desc} {a : Word64} {s : State} {r' : EntryStep} (h' : setupTurn b k e d a s = r') : r'.state.control = s.control := by
  rw [← h']; exact setupTurn_control b k e d a s

theorem finishSetup_control (b : Nat) (e : MissEntry) (d : Desc) (u : Setup) (slot n : Nat) (again : Bool) (s0 : State) : (finishSetup b e d u slot n again s0).state.control = s0.control := by
  unfold finishSetup
  repeat' first
    | with_reducible rfl
    | (simp only [implies_true, State.control_foldl2, State.control_foldl3, Decision.state_ite, Decision.state_done, Decision.state_full, Decision.state_noroom, ScanIssue.state_ite, ScanIssue.state_done, ScanIssue.state_wait, State.control_mk, State.control_fold, State.control_foldl, apply_ite State.control, apply_ite Prod.snd, apply_ite EntryStep.state, EntryStep.state_served, EntryStep.state_searched, EntryStep.state_refused, EntryStep.state_wait, EntryStep.state_hold, ite_self, noteNoway_control, noteSetup_control, noteStateLost_control, setupTurn_control]; done)
    | split
    | dsimp only
    | ((try have h0 := install_control' ‹_›; try have h1 := setupTurn_control' ‹_›); simp only [implies_true, State.control_foldl2, State.control_foldl3, Decision.state_ite, Decision.state_done, Decision.state_full, Decision.state_noroom, ScanIssue.state_ite, ScanIssue.state_done, ScanIssue.state_wait, State.control_mk, State.control_fold, State.control_foldl, apply_ite State.control, apply_ite Prod.snd, apply_ite EntryStep.state, EntryStep.state_served, EntryStep.state_searched, EntryStep.state_refused, EntryStep.state_wait, EntryStep.state_hold, ite_self, noteNoway_control, noteSetup_control, noteStateLost_control, setupTurn_control, *]; done)

theorem finishSetup_control' {b : Nat} {e : MissEntry} {d : Desc} {u : Setup} {slot n : Nat} {again : Bool} {s0 : State} {r' : EntryStep} (h' : finishSetup b e d u slot n again s0 = r') : r'.state.control = s0.control := by
  rw [← h']; exact finishSetup_control b e d u slot n again s0

theorem setupLook_control (b : Nat) (e : MissEntry) (d : Desc) (s : State) : (setupLook b e d s).2.2.control = s.control := by
  unfold setupLook
  repeat' first
    | with_reducible rfl
    | (simp only [State.control_foldl, implies_true, State.control_mk, State.control_fold, apply_ite State.control, apply_ite Prod.snd, ite_self, sieveLookup_control, takeToken_control]; done)
    | split
    | dsimp only

theorem setupLook_control' {b : Nat} {e : MissEntry} {d : Desc} {s : State} {x' : _} {y' : _} {r' : State} (h' : setupLook b e d s = (x', y', r')) : r'.control = s.control := by
  have k' := setupLook_control b e d s
  rw [h'] at k'
  exact k'

theorem setupEntry_control (b : Nat) (e : MissEntry) (d : Desc) (s : State) : (setupEntry b e d s).state.control = s.control := by
  unfold setupEntry
  have h1 := setupLook_control b e d s
  generalize setupLook b e d s = p at h1 ⊢
  obtain ⟨u, ok, t⟩ := p
  dsimp only at h1 ⊢
  rw [← h1]
  split
  · simp only [EntryStep.state_searched, statelessAction_control]
  · split
    · simp only [EntryStep.state_refused, noteRefusedSetup_control]
    · have h2 := placeSlot_control b e.hash e.key d.arr .fill t
      generalize placeSlot b e.hash e.key d.arr .fill t = q at h2 ⊢
      obtain ⟨c, v⟩ := q
      dsimp only at h2 ⊢
      cases c
      · dsimp only
        split
        · rw [EntryStep.state_wait, startReloc_control, h2]
        · rw [EntryStep.state_refused, noteNoslot_control, startReloc_control, h2]
      · dsimp only
        rw [finishSetup_control, occStep_control _ _ _ (fun t => putEntry_control ..), newClaim_control, h2]

theorem setupEntry_control' {b : Nat} {e : MissEntry} {d : Desc} {s0 : State} {r' : EntryStep} (h' : setupEntry b e d s0 = r') : r'.state.control = s0.control := by
  rw [← h']; exact setupEntry_control b e d s0

theorem hostAnswered_control (b : Nat) (a : HostAnswer) (s : State) : (hostAnswered b a s).state.control = s.control := by
  unfold hostAnswered
  repeat' first
    | with_reducible rfl
    | (simp only [implies_true, State.control_foldl2, State.control_foldl3, Decision.state_ite, Decision.state_done, Decision.state_full, Decision.state_noroom, ScanIssue.state_ite, ScanIssue.state_done, ScanIssue.state_wait, State.control_mk, State.control_fold, State.control_foldl, apply_ite State.control, apply_ite Prod.snd, apply_ite EntryStep.state, EntryStep.state_served, EntryStep.state_searched, EntryStep.state_refused, EntryStep.state_wait, EntryStep.state_hold, ite_self, hostDone_control]; done)
    | split
    | dsimp only

theorem hostAnswered_control' {b : Nat} {a : HostAnswer} {s : State} {r' : EntryStep} (h' : hostAnswered b a s = r') : r'.state.control = s.control := by
  rw [← h']; exact hostAnswered_control b a s

theorem hostCreate_control (b : Nat) (e : MissEntry) (s : State) : (hostCreate b e s).state.control = s.control := by
  unfold hostCreate
  split
  · exact hostAnswered_control ..
  · have h2 := placeSlot_control b e.hash e.key (ledgerNow s) .fill s
    generalize placeSlot b e.hash e.key (ledgerNow s) .fill s = q at h2 ⊢
    obtain ⟨c, v⟩ := q
    dsimp only at h2 ⊢
    rw [← h2]
    cases c
    · dsimp only
      split
      · rw [EntryStep.state_wait, startReloc_control]
      · rw [hostAnswered_control, noteNoslot_control, startReloc_control]
    · dsimp only
      split
      · rename_i hi
        have h := install_control' hi
        rw [EntryStep.state_hold, hostWay_control, h, occStep_control _ _ _ (fun t => putEntry_control ..), newClaim_control]
      · rw [EntryStep.state_wait, noteNoway_control, occStep_control _ _ _ (fun t => putEntry_control ..), newClaim_control]

theorem hostCreate_control' {b : Nat} {e : MissEntry} {s : State} {r' : EntryStep} (h' : hostCreate b e s = r') : r'.state.control = s.control := by
  rw [← h']; exact hostCreate_control b e s

theorem hostOnRecord_control (b : Nat) (e : MissEntry) (slot : Nat) (r : Rec) (s : State) : (hostOnRecord b e slot r s).state.control = s.control := by
  unfold hostOnRecord
  repeat' first
    | with_reducible rfl
    | (simp only [implies_true, State.control_foldl2, State.control_foldl3, Decision.state_ite, Decision.state_done, Decision.state_full, Decision.state_noroom, ScanIssue.state_ite, ScanIssue.state_done, ScanIssue.state_wait, State.control_mk, State.control_fold, State.control_foldl, apply_ite State.control, apply_ite Prod.snd, apply_ite EntryStep.state, EntryStep.state_served, EntryStep.state_searched, EntryStep.state_refused, EntryStep.state_wait, EntryStep.state_hold, ite_self, State.modLedger_control, noteNoway_control, hostOnTill_control, hostAnswered_control]; done)
    | split
    | dsimp only
    | ((try have h0 := install_control' ‹_›; try have h1 := hostAnswered_control' ‹_›); simp only [implies_true, State.control_foldl2, State.control_foldl3, Decision.state_ite, Decision.state_done, Decision.state_full, Decision.state_noroom, ScanIssue.state_ite, ScanIssue.state_done, ScanIssue.state_wait, State.control_mk, State.control_fold, State.control_foldl, apply_ite State.control, apply_ite Prod.snd, apply_ite EntryStep.state, EntryStep.state_served, EntryStep.state_searched, EntryStep.state_refused, EntryStep.state_wait, EntryStep.state_hold, ite_self, State.modLedger_control, noteNoway_control, hostOnTill_control, hostAnswered_control, *]; done)

theorem hostOnRecord_control' {b : Nat} {e : MissEntry} {slot : Nat} {r : Rec} {s : State} {r' : EntryStep} (h' : hostOnRecord b e slot r s = r') : r'.state.control = s.control := by
  rw [← h']; exact hostOnRecord_control b e slot r s

theorem hostOnVault_control (b : Nat) (e : MissEntry) (s : State) : (hostOnVault b e s).state.control = s.control := by
  unfold hostOnVault
  repeat' first
    | with_reducible rfl
    | (simp only [implies_true, State.control_foldl2, State.control_foldl3, Decision.state_ite, Decision.state_done, Decision.state_full, Decision.state_noroom, ScanIssue.state_ite, ScanIssue.state_done, ScanIssue.state_wait, State.control_mk, State.control_fold, State.control_foldl, apply_ite State.control, apply_ite Prod.snd, apply_ite EntryStep.state, EntryStep.state_served, EntryStep.state_searched, EntryStep.state_refused, EntryStep.state_wait, EntryStep.state_hold, ite_self, searchBoth_control, hostAnswered_control, hostCreate_control, hostOnRecord_control]; done)
    | split
    | dsimp only
    | ((try have h0 := searchBoth_control' ‹_›; try have h1 := hostAnswered_control' ‹_›; try have h2 := hostCreate_control' ‹_›; try have h3 := hostOnRecord_control' ‹_›); simp only [implies_true, State.control_foldl2, State.control_foldl3, Decision.state_ite, Decision.state_done, Decision.state_full, Decision.state_noroom, ScanIssue.state_ite, ScanIssue.state_done, ScanIssue.state_wait, State.control_mk, State.control_fold, State.control_foldl, apply_ite State.control, apply_ite Prod.snd, apply_ite EntryStep.state, EntryStep.state_served, EntryStep.state_searched, EntryStep.state_refused, EntryStep.state_wait, EntryStep.state_hold, ite_self, searchBoth_control, hostAnswered_control, hostCreate_control, hostOnRecord_control, *]; done)

theorem hostOnVault_control' {b : Nat} {e : MissEntry} {s : State} {r' : EntryStep} (h' : hostOnVault b e s = r') : r'.state.control = s.control := by
  rw [← h']; exact hostOnVault_control b e s

theorem mirrorOnVault_control (b : Nat) (e : MissEntry) (type side : Nat) (rc : Rec) (s : State) :
    (mirrorOnVault b e type side rc s).state.control = s.control := by
  unfold mirrorOnVault
  generalize hx : searchBoth b .mirror e.hash e.key (ledgerNow s) s = x
  obtain ⟨found, poisoned, t⟩ := x
  have ht := searchBoth_control' hx
  dsimp only
  split
  · split
    · rename_i hi
      have h1 := install_control' hi
      simp only [EntryStep.state_served, EntryStep.state_searched, EntryStep.state_refused, EntryStep.state_wait, EntryStep.state_hold, mirrorOnTill_control, h1, ht]
    · simp only [EntryStep.state_served, EntryStep.state_searched, EntryStep.state_refused, EntryStep.state_wait, EntryStep.state_hold, noteNoway_control, ht]
  · split
    · exact ht
    · split
      · rename_i hp
        have h1 := placeSlot_control' hp
        split
        · rename_i hi
          have h2 := install_control' hi
          simp only [EntryStep.state_served, EntryStep.state_searched, EntryStep.state_refused, EntryStep.state_wait, EntryStep.state_hold, bump_control, h2, occStep_control, putEntry_control, implies_true, newClaim_control, h1, ht]
        · simp only [EntryStep.state_served, EntryStep.state_searched, EntryStep.state_refused, EntryStep.state_wait, EntryStep.state_hold, noteNoway_control, occStep_control, putEntry_control, implies_true, newClaim_control, h1, ht]
      · rename_i hp
        have h1 := placeSlot_control' hp
        split <;> simp only [EntryStep.state_served, EntryStep.state_searched, EntryStep.state_refused, EntryStep.state_wait, EntryStep.state_hold, bump_control, noteNoslot_control, startReloc_control, h1, ht]

theorem mirrorOnVault_control' {b : Nat} {e : MissEntry} {type side : Nat} {rc : Rec} {s : State} {r' : EntryStep} (h' : mirrorOnVault b e type side rc s = r') : r'.state.control = s.control := by
  rw [← h']; exact mirrorOnVault_control b e type side rc s

theorem searchAnew_control (e : MissEntry) (s : State) : (searchAnew e s).state.control = s.control := by
  rfl

theorem searchAnew_control' {e : MissEntry} {s : State} {r' : EntryStep} (h' : searchAnew e s = r') : r'.state.control = s.control := by
  rw [← h']; exact searchAnew_control e s

theorem packetOnTill_control (b k : Nat) (e : MissEntry) (d : Desc) (searched : Bool) (s : State) :
    (packetOnTill b k e d searched s).state.control = s.control := by
  unfold packetOnTill
  extract_lets first
  clear_value first
  cases first <;> dsimp only
  · split
    · rename_i h
      exact decide_control' h
    · exact holdEntry_control ..
    · rename_i h
      rw [searchAnew_control]
      exact decide_controlN h
  · exact setupTurn_control ..

theorem packetOnTill_control' {b k : Nat} {e : MissEntry} {d : Desc} {searched : Bool} {s : State} {r' : EntryStep} (h' : packetOnTill b k e d searched s = r') : r'.state.control = s.control := by
  rw [← h']; exact packetOnTill_control b k e d searched s

theorem serve_control (b : Nat) (e : MissEntry) (w : Waiter) (searched : Bool) (s : State) :
    (serve b e w searched s).state.control = s.control := by
  unfold serve
  split
  · exact searchAnew_control ..
  · split
    · split
      · rw [searchAnew_control, leaveTill_control]
      · cases w <;> dsimp only
        · exact packetOnTill_control ..
        · rw [EntryStep.state_hold, hostOnTill_control]
        · rw [EntryStep.state_served, openOnWay_control]
        · rw [EntryStep.state_served, mirrorOnTill_control]
    · cases w <;> dsimp only
      · split
        · exact setupEntry_control ..
        · exact searchAnew_control ..
      · split
        · rw [EntryStep.state_wait]
        · split
          · exact hostOnVault_control ..
          · exact searchAnew_control ..
      · split
        · rw [EntryStep.state_searched, answerOpen_control]
        · exact searchAnew_control ..
      · split
        · rw [EntryStep.state_wait]
        · split
          · exact mirrorOnVault_control ..
          · exact searchAnew_control ..

theorem serve_control' {b : Nat} {e : MissEntry} {w : Waiter} {searched : Bool} {s : State} {r' : EntryStep} (h' : serve b e w searched s = r') : r'.state.control = s.control := by
  rw [← h']; exact serve_control b e w searched s

theorem runEntry_control (n b : Nat) (e : MissEntry) (searched : Bool) (s : State) : (runEntry n b e searched s).control = s.control := by
  induction n generalizing e searched s with
  | zero => exact putEntry_control ..
  | succ n ih =>
    rw [runEntry]
    split
    · exact dropEntry_control ..
    · split <;> rename_i h <;> have hk := serve_control' h <;> dsimp only [EntryStep.state] at hk <;>
        simp only [ih, putEntry_control, State.control_foldl, setupAct_control, implies_true, hk]

theorem goOn_control (b : Nat) (e : MissEntry) (searched : Bool) (s : State) : (goOn b e searched s).control = s.control := by
  unfold goOn
  simp only [runEntry_control]

theorem attach_control' {b : Nat} {hash : Word64} {key : Ckey} {w : Waiter} {s s' : State} (h : attach b hash key w s = some s') :
    s'.control = s.control := by
  unfold attach at h
  dsimp only at h
  split at h
  · cases h
  · split at h
    · cases h; simp only [noteQueue_control, putEntry_control]
    · split at h
      · cases h
      · cases h
        simp only [apply_ite State.control, goOn_control, noteQueue_control, putEntry_control, State.modLedger_control, ite_self]

theorem joinMiss_control (b : Nat) (d : Desc) (s : State) : (joinMiss b d s).control = s.control := by
  unfold joinMiss
  repeat' first
    | with_reducible rfl
    | (simp only [implies_true, State.control_foldl2, State.control_foldl3, Decision.state_ite, Decision.state_done, Decision.state_full, Decision.state_noroom, ScanIssue.state_ite, ScanIssue.state_done, ScanIssue.state_wait, State.control_mk, State.control_fold, State.control_foldl, apply_ite State.control, apply_ite Prod.snd, apply_ite EntryStep.state, EntryStep.state_served, EntryStep.state_searched, EntryStep.state_refused, EntryStep.state_wait, EntryStep.state_hold, ite_self, bump_control, cause_control, modFrame_control, overflowAct_control]; done)
    | split
    | dsimp only
    | ((try have h0 := attach_control' ‹_›); simp only [implies_true, State.control_foldl2, State.control_foldl3, Decision.state_ite, Decision.state_done, Decision.state_full, Decision.state_noroom, ScanIssue.state_ite, ScanIssue.state_done, ScanIssue.state_wait, State.control_mk, State.control_fold, State.control_foldl, apply_ite State.control, apply_ite Prod.snd, apply_ite EntryStep.state, EntryStep.state_served, EntryStep.state_searched, EntryStep.state_refused, EntryStep.state_wait, EntryStep.state_hold, ite_self, bump_control, cause_control, modFrame_control, overflowAct_control, *]; done)

theorem missPacket_control (b : Nat) (d : Desc) (s : State) : (missPacket b d s).control = s.control := by
  unfold missPacket
  repeat' first
    | with_reducible rfl
    | (simp only [implies_true, State.control_foldl2, State.control_foldl3, Decision.state_ite, Decision.state_done, Decision.state_full, Decision.state_noroom, ScanIssue.state_ite, ScanIssue.state_done, ScanIssue.state_wait, State.control_mk, State.control_fold, State.control_foldl, apply_ite State.control, apply_ite Prod.snd, apply_ite EntryStep.state, EntryStep.state_served, EntryStep.state_searched, EntryStep.state_refused, EntryStep.state_wait, EntryStep.state_hold, ite_self, bump64_control, perf_control, joinMiss_control]; done)
    | split
    | dsimp only

theorem chainRun_control (n b k : Nat) (s : State) : (chainRun n b k s).control = s.control := by
  induction n generalizing s with
  | zero => rfl
  | succ n ih =>
    rw [chainRun]
    split
    · rfl
    · split
      · rfl
      · split
        · rfl
        · split <;> rename_i h
          · simp only [ih, decideFrom2_control' h, setWay_control]
          · rfl
          · rw [State.control_foldl _ (fun t d => joinMiss_control ..), decideFrom2_controlN h, setWay_control]

theorem openersRun_control (n b k : Nat) (s : State) : (openersRun n b k s).control = s.control := by
  induction n generalizing s with
  | zero => rfl
  | succ n ih =>
    rw [openersRun]
    split
    · rfl
    · split
      · rfl
      · split
        · simp only [ih, openOnWay_control, setWay_control]
        · exact chainRun_control ..

theorem loseWay_control (b k : Nat) (s : State) : (loseWay b k s).control = s.control := by
  unfold loseWay
  repeat' first
    | with_reducible rfl
    | (simp only [State.control_foldl, implies_true, State.control_mk, State.control_fold, apply_ite State.control, apply_ite Prod.snd, ite_self, State.modDisp_control, State.modTeller_control, countWrite_control, occStep_control, storeCell_control, dropWay_control, missPacket_control]; done)
    | split
    | dsimp only

theorem loseWord_control (b k word : Nat) (s : State) : (loseWord b k word s).control = s.control := by
  unfold loseWord
  repeat' first
    | with_reducible rfl
    | (simp only [State.control_mk, State.control_fold, apply_ite State.control, ite_self, setWay_control, loseWay_control]; done)
    | split
    | dsimp only

theorem wayRead_control (b k : Nat) (flips : List WordFlips) (s : State) : (wayRead b k flips s).control = s.control := by
  unfold wayRead
  split
  · exact Page.readAll_control _ _ _ (fun _ _ _ => modWay_control ..) fun _ _ => loseWord_control ..
  · rfl

theorem releaseMirror_control (b : Nat) (w : Way) (s : State) : (releaseMirror b w s).2.control = s.control := by
  unfold releaseMirror
  repeat' first
    | with_reducible rfl
    | (simp only [State.control_foldl, implies_true, State.control_mk, State.control_fold, apply_ite State.control, apply_ite Prod.snd, ite_self, mirrorEvent_control]; done)
    | split
    | dsimp only

theorem releaseMirror_control' {b : Nat} {w : Way} {s : State} {x' : _} {r' : State} (h' : releaseMirror b w s = (x', r')) : r'.control = s.control := by
  have k' := releaseMirror_control b w s
  rw [h'] at k'
  exact k'

theorem releaseLock_control (b k : Nat) (s : State) : (releaseLock b k s).control = s.control := by
  unfold releaseLock
  dsimp only
  split
  · exact unlockWay_control ..
  · split
    · rw [loseWay_control, releaseMirror_control, unlockWay_control]
    · rw [openersRun_control, setWay_control, releaseMirror_control, unlockWay_control]

theorem probeHit_control (b k : Nat) (s : State) : (probeHit b k s).control = s.control := by
  unfold probeHit
  simp only [bump64_control, perf_control, touchWay_control]

theorem probeDesc_control (b : Nat) (d : Desc) (s : State) : (probeDesc b d s).control = s.control := by
  unfold probeDesc
  split
  · split <;> rename_i h
    · exact (decide_control' h).trans (probeHit_control ..)
    · simp only [noteStall_control, State.modLedger_control]
    · rw [joinMiss_control, decide_controlN h, probeHit_control]
  · exact missPacket_control ..

theorem probeRead_control (b : Nat) (flips : List WordFlips) (s : State) : (probeRead b flips s).control = s.control := by
  unfold probeRead
  repeat' first
    | with_reducible rfl
    | (simp only [State.control_foldl, implies_true, State.control_mk, State.control_fold, apply_ite State.control, apply_ite Prod.snd, ite_self, wayRead_control]; done)
    | split
    | dsimp only

theorem tillProbe_control (b : Nat) (s : State) : (tillProbe b s).control = s.control := by
  unfold tillProbe
  dsimp only
  split
  · split
    · rw [addStateless_control, State.setLedger_control]
    · rfl
  · split
    · split
      · split <;> rename_i h
        · rw [decide_control' h, probeHit_control, State.setLedger_control]
        · rfl
        · rw [joinMiss_control, decide_controlN h, probeHit_control, State.setLedger_control]
      · rw [missPacket_control, State.setLedger_control]
    · rfl
  · split
    · split
      · simp only [probeDesc_control, perf_control, State.modLedger_control, State.modAssay_control]
      · rfl
    · rfl

theorem fillFound_control (b : Nat) (e : MissEntry) (f : Fill) (s : State) : (fillFound b e f s).control = s.control := by
  unfold fillFound
  repeat' first
    | with_reducible rfl
    | (simp only [implies_true, State.control_foldl2, State.control_foldl3, Decision.state_ite, Decision.state_done, Decision.state_full, Decision.state_noroom, ScanIssue.state_ite, ScanIssue.state_done, ScanIssue.state_wait, State.control_mk, State.control_fold, State.control_foldl, apply_ite State.control, apply_ite Prod.snd, apply_ite EntryStep.state, EntryStep.state_served, EntryStep.state_searched, EntryStep.state_refused, EntryStep.state_wait, EntryStep.state_hold, ite_self, noteNoway_control, putEntry_control, goOn_control]; done)
    | split
    | dsimp only
    | ((try have h0 := install_control' ‹_›); simp only [implies_true, State.control_foldl2, State.control_foldl3, Decision.state_ite, Decision.state_done, Decision.state_full, Decision.state_noroom, ScanIssue.state_ite, ScanIssue.state_done, ScanIssue.state_wait, State.control_mk, State.control_fold, State.control_foldl, apply_ite State.control, apply_ite Prod.snd, apply_ite EntryStep.state, EntryStep.state_served, EntryStep.state_searched, EntryStep.state_refused, EntryStep.state_wait, EntryStep.state_hold, ite_self, noteNoway_control, putEntry_control, goOn_control, *]; done)

theorem fillNone_control (b : Nat) (e : MissEntry) (s : State) : (fillNone b e s).control = s.control := by
  unfold fillNone
  simp only [goOn_control]

theorem askPeer_control (who : RecoverFor) (s : State) : (askPeer who s).2.control = s.control := by
  unfold askPeer
  split <;> simp only [State.control_mk, State.control_fold, bump_control]

theorem askPeer_control' {who : RecoverFor} {s : State} {x' : _} {r' : State} (h' : askPeer who s = (x', r')) : r'.control = s.control := by
  have k' := askPeer_control who s
  rw [h'] at k'
  exact k'

theorem fillPoisoned_control (b : Nat) (e : MissEntry) (s : State) : (fillPoisoned b e s).control = s.control := by
  unfold fillPoisoned
  simp only [State.control_mk, State.control_fold, apply_ite State.control, ite_self, putEntry_control, fillNone_control, askPeer_control]

theorem searchEnded_control (b : Nat) (e : MissEntry) (s : State) : (searchEnded b e s).control = s.control := by
  unfold searchEnded
  simp only [State.control_mk, State.control_fold, apply_ite State.control, ite_self, fillNone_control, fillPoisoned_control]

theorem readDone_control (b : Nat) (e : MissEntry) (second : Bool) (slot : Nat) (f : Found) (s : State) :
    (readDone b e second slot f s).control = s.control := by
  unfold readDone
  dsimp only
  cases f <;> dsimp only
  · rw [fillFound_control, bump64_control]
  · exact searchEnded_control ..
  all_goals
    split
    · exact searchEnded_control ..
    · exact putEntry_control ..

theorem candidateRead_control (b id : Nat) (lost : Bool) (s : State) : (candidateRead b id lost s).control = s.control := by
  unfold candidateRead
  split
  · rfl
  · split
    · split
      · exact putEntry_control ..
      · split
        · exact goOn_control ..
        · cases lost <;> simp only [Bool.false_eq_true, if_false, if_true, readDone_control, lostRead_control, testSlot_control]
    · rfl

theorem candidateDone_control (b id : Nat) (s : State) : (candidateDone b id s).control = s.control := by
  unfold candidateDone
  repeat' first
    | with_reducible rfl
    | (simp only [State.control_mk, State.control_fold, apply_ite State.control, ite_self, candidateRead_control]; done)
    | split
    | dsimp only

theorem retryFill_control (b : Nat) (e : MissEntry) (f : Fill) (s : State) : (retryFill b e f s).control = s.control := by
  unfold retryFill
  split
  · split
    · rename_i h
      have hk := finishSetup_control' h
      dsimp only [EntryStep.state] at hk
      rw [goOn_control, hk]
    · rename_i h
      have hk := finishSetup_control' h
      dsimp only [EntryStep.state] at hk
      rw [putEntry_control, hk]
    · rfl
  · split
    · rename_i h
      have hk := install_control' h
      simp only [putEntry_control, hostWay_control, hk]
    · rfl
  · split
    · rename_i h
      have hk := install_control' h
      simp only [goOn_control, bump_control, hk]
    · rfl
  · split
    · rename_i h
      have hk := install_control' h
      simp only [goOn_control, hk]
    · rfl

theorem fillRetry_control (b id : Nat) (s : State) : (fillRetry b id s).control = s.control := by
  unfold fillRetry
  repeat' first
    | with_reducible rfl
    | (simp only [State.control_mk, State.control_fold, apply_ite State.control, ite_self, putEntry_control, goOn_control, retryFill_control]; done)
    | split
    | dsimp only

theorem relocEnded_control (b id : Nat) (freed : Option Nat) (s : State) : (relocEnded b id freed s).control = s.control := by
  unfold relocEnded
  repeat' first
    | with_reducible rfl
    | (simp only [State.control_foldl, implies_true, State.control_mk, State.control_fold, apply_ite State.control, apply_ite Prod.snd, ite_self, State.modLedger_control, bump_control, setupAct_control, hostDone_control, putEntry_control, noteNoslot_control, goOn_control]; done)
    | split
    | dsimp only

theorem peerAnswer_control (b id : Nat) (r : Option Rec) (s : State) : (peerAnswer b id r s).control = s.control := by
  unfold peerAnswer
  repeat' first
    | with_reducible rfl
    | (simp only [State.control_mk, State.control_fold, apply_ite State.control, ite_self, bump_control, writeRecord_control, fillFound_control, fillNone_control]; done)
    | split
    | dsimp only

theorem abandonSetup_control (b : Nat) (e : MissEntry) (s : State) : (abandonSetup b e s).control = s.control := by
  unfold abandonSetup
  simp only [State.control_foldl, implies_true, State.control_mk, State.control_fold, apply_ite State.control, ite_self, State.modLedger_control, dropEntry_control, goOn_control]

theorem afterLeave_control (b : Nat) (e : MissEntry) (s : State) : (afterLeave b e s).control = s.control := by
  unfold afterLeave
  split
  · exact putEntry_control ..
  · split
    · exact putEntry_control ..
    · split
      · rw [abandonSetup_control]
        exact occStep_control _ _ _ fun t => dropEntry_control ..
      · exact abandonSetup_control ..

theorem missTimeout_control (b id frame : Nat) (s : State) : (missTimeout b id frame s).control = s.control := by
  unfold missTimeout
  repeat' first
    | with_reducible rfl
    | (simp only [State.control_mk, State.control_fold, apply_ite State.control, ite_self, bump_control, cause_control, perf_control, overflowAct_control, afterLeave_control]; done)
    | split
    | dsimp only

theorem readSlot_control (b : Nat) (s : State) : (readSlot b s).control = s.control := by
  unfold readSlot
  repeat' first
    | with_reducible rfl
    | (simp only [State.control_mk, State.control_fold, apply_ite State.control, ite_self, readRecord_control, hostDone_control]; done)
    | split
    | dsimp only

theorem hostBegin_control (b : Nat) (s : State) : (hostBegin b s).control = s.control := by
  unfold hostBegin
  dsimp only
  split
  · exact hostDone_control ..
  · split
    · exact readSlot_control ..
    · split
      · exact hostDone_control ..
      · split
        · exact State.modLedger_control ..
        · have hm : (s.modLedger b fun l => { l with hreq := { l.hreq with held := false } }).control = s.control := State.modLedger_control ..
          generalize (s.modLedger b fun l => { l with hreq := { l.hreq with held := false } }) = t at hm ⊢
          rw [← hm]
          generalize probe t b _ _ = p
          cases hp : Option.filter (fun k => !((s.ledgerAt b).hreq.op == 3 && roomless t b k (ledgerNow t))) p with
          | some k => exact hostOnTill_control ..
          | none =>
            refine State.control_getD (fun u h => (attach_control' h).trans ?_) (hostDone_control ..)
            cases p with
            | none => rfl
            | some k => exact leaveTill_control ..

theorem hostRelease_control (b : Nat) (s : State) : (hostRelease b s).control = s.control := by
  unfold hostRelease
  repeat' first
    | with_reducible rfl
    | (simp only [implies_true, State.control_foldl2, State.control_foldl3, Decision.state_ite, Decision.state_done, Decision.state_full, Decision.state_noroom, ScanIssue.state_ite, ScanIssue.state_done, ScanIssue.state_wait, State.control_mk, State.control_fold, State.control_foldl, apply_ite State.control, apply_ite Prod.snd, apply_ite EntryStep.state, EntryStep.state_served, EntryStep.state_searched, EntryStep.state_refused, EntryStep.state_wait, EntryStep.state_hold, ite_self, hostBegin_control]; done)
    | split
    | dsimp only

theorem hostCommand_control (b op wmask : Nat) (s : State) : (hostCommand b op wmask s).control = s.control := by
  unfold hostCommand
  repeat' first
    | with_reducible rfl
    | (simp only [implies_true, State.control_foldl2, State.control_foldl3, Decision.state_ite, Decision.state_done, Decision.state_full, Decision.state_noroom, ScanIssue.state_ite, ScanIssue.state_done, ScanIssue.state_wait, State.control_mk, State.control_fold, State.control_foldl, apply_ite State.control, apply_ite Prod.snd, apply_ite EntryStep.state, EntryStep.state_served, EntryStep.state_searched, EntryStep.state_refused, EntryStep.state_wait, EntryStep.state_hold, ite_self, State.modLedger_control, setField_control, hostBegin_control]; done)
    | split
    | dsimp only

theorem fillHrec_control (b : Nat) (r : Rec) (s : State) : (fillHrec b r s).control = s.control := by
  unfold fillHrec
  simp only [State.control_foldl, implies_true, State.control_mk, State.control_fold, apply_ite State.control, ite_self, setPair_control]

theorem hreqDone_control (b : Nat) (s : State) : (hreqDone b s).control = s.control := by
  unfold hreqDone
  repeat' first
    | with_reducible rfl
    | (simp only [State.control_mk, State.control_fold, apply_ite State.control, ite_self, State.modLedger_control, regStore_control, setField_control, setPair_control, cause_control, stamp_control, goOn_control, fillHrec_control]; done)
    | split
    | dsimp only

theorem hostResume_control (b k : Nat) (s : State) : (hostResume b k s).control = s.control := by
  unfold hostResume
  simp only [State.control_mk, State.control_fold, apply_ite State.control, ite_self, hostOnTill_control]

/-! ### Disp -/

theorem modItem_control (b id : Nat) (f : Item → Item) (s : State) : (modItem b id f s).control = s.control := by
  unfold modItem
  simp only [State.modDisp_control]

theorem startOn_control (b t : Nat) (i : Item) (s : State) : (startOn b t i s).control = s.control := by
  unfold startOn
  split <;> simp only [State.control_mk, State.control_fold, State.setTeller_control, lockWay_control, modItem_control]

theorem noteStart_control (b t : Nat) (i : Item) (pref : Option Nat) (s : State) : (noteStart b t i pref s).control = s.control := by
  unfold noteStart
  simp only [State.control_mk, State.control_fold, apply_ite State.control, ite_self, State.modDisp_control, bump_control, perf_control, trace_control]

theorem startItem_control (b t : Nat) (i : Item) (pref : Option Nat) (s : State) : (startItem b t i pref s).control = s.control := by
  unfold startItem
  simp only [startOn_control, noteStart_control]

theorem requestPreempt_control' {b : Nat} {i : Item} {pref : Option Nat} {s s' : State} (h : requestPreempt b i pref s = some s') :
    s'.control = s.control := by
  unfold requestPreempt at h
  dsimp only at h
  split at h
  · cases h
  · obtain ⟨t, -, rfl⟩ := Option.map_eq_some_iff.1 h
    simp only [trace_control, perf_control, bump_control, State.modTeller_control, State.modDisp_control, modItem_control]

theorem place_control' {b : Nat} {i : Item} {s s' : State} (h : place b i s = some s') : s'.control = s.control := by
  unfold place at h
  extract_lets pref w here at h
  clear_value here
  split at h
  · cases h
  · split at h
    · rw [← Option.some.inj h, startItem_control]
    · split at h
      · cases h
      · split at h
        · rw [← Option.some.inj h, startItem_control]
        · split at h
          · exact requestPreempt_control' h
          · cases h

theorem noteNoTeller_control (b : Nat) (s : State) : (noteNoTeller b s).control = s.control := by
  unfold noteNoTeller
  simp only [State.control_foldl, implies_true, State.control_mk, State.control_fold, apply_ite State.control, ite_self, State.modDisp_control, cause_control]

theorem dispatchDecision_control (b : Nat) (s : State) : (dispatchDecision b s).control = s.control := by
  unfold dispatchDecision
  dsimp only
  refine State.control_getD (fun t h => ?_) (noteNoTeller_control ..)
  obtain ⟨i, -, hi⟩ := List.exists_of_findSome?_eq_some h
  rw [place_control' hi, noteNoTeller_control]

theorem waitExpiry_control (b item hi lo : Nat) (s : State) : (waitExpiry b item hi lo s).control = s.control := by
  unfold waitExpiry
  split
  · split
    · exact dispatchDecision_control ..
    · rfl
  · rfl

theorem stallInterval_control (b : Nat) (s : State) : (stallInterval b s).control = s.control := by
  unfold stallInterval
  simp only [State.control_mk, State.control_fold, apply_ite State.control, ite_self, bump_control]

theorem hostPost_control (b : Nat) (s : State) : (hostPost b s).control = s.control := by
  unfold hostPost
  simp only [State.control_mk, State.control_fold, apply_ite State.control, ite_self, setField_control, trace_control, addItem_control]

theorem sweepOffer_control (b : Nat) (s : State) : (sweepOffer b s).control = s.control := by
  unfold sweepOffer
  simp only [State.control_mk, State.control_fold, apply_ite State.control, ite_self, State.modDisp_control, setField_control, bump_control, cause_control, offerMaint_control]

theorem setAff_control (b i v : Nat) (s : State) : (setAff b i v s).control = s.control := by
  unfold setAff
  simp only [State.modDisp_control]

theorem affNext_control (b : Nat) (s : State) : (affNext b s).control = s.control := by
  unfold affNext
  simp only [State.control_mk, State.control_fold, apply_ite State.control, ite_self, setField_control]

theorem affWrite_control (b : Nat) (v : Word32) (s : State) : (affWrite b v s).control = s.control := by
  unfold affWrite
  simp only [setAff_control, affNext_control]

theorem affAccess_control (b : Nat) (w : Option Word32) (s : State) : (affAccess b w s).control = s.control := by
  unfold affAccess
  repeat' first
    | with_reducible rfl
    | (simp only [State.control_foldl, implies_true, State.control_mk, State.control_fold, apply_ite State.control, apply_ite Prod.snd, ite_self, gated_control, affNext_control, affWrite_control]; done)
    | split
    | dsimp only

/-! ### Nose -/

theorem putW14_control (b k : Nat) (v : Word64) (s : State) : (putW14 b k v s).control = s.control := by
  unfold putW14
  simp only [modWay_control]

theorem setGap_control (b k : Nat) (s : State) : (setGap b k s).control = s.control := by
  unfold setGap
  split <;> simp only [State.control_mk, State.control_fold, putW14_control]

theorem leaveGap_control (b : Nat) (way : Option Nat) (s : State) : (leaveGap b way s).control = s.control := by
  unfold leaveGap
  repeat' first
    | with_reducible rfl
    | (simp only [State.control_mk, State.control_fold, apply_ite State.control, ite_self, State.modNose_control, setGap_control]; done)
    | split
    | dsimp only

theorem settleGaps_control (b : Nat) (s : State) : (settleGaps b s).control = s.control := by
  unfold settleGaps
  simp only [State.control_foldl, implies_true, State.control_mk, State.control_fold, apply_ite State.control, ite_self, State.setNose_control, setGap_control]

theorem giveResult_control (q : ScanReq) (w : Word64) (s : State) : (giveResult q w s).control = s.control := by
  unfold giveResult
  simp only [State.modTeller_control]

theorem loseReport_control (b : Nat) (hash w : Word64) (s : State) : (loseReport b hash w s).control = s.control := by
  unfold loseReport
  simp only [bump_control, cause_control, emit_control]

theorem offerReports_control (b n : Nat) (s : State) : (offerReports b n s).control = s.control := by
  induction n generalizing s with
  | zero => rfl
  | succ n ih =>
    rw [offerReports]
    split
    · rfl
    · dsimp only
      split
      · simp only [ih, loseReport_control, State.modNose_control]
      · split
        · simp only [ih, addItem_control, State.modNose_control]
        · exact State.modNose_control ..

theorem report_control (b : Nat) (q : ScanReq) (w : Word64) (s : State) : (report b q w s).control = s.control := by
  unfold report
  simp only [State.control_mk, State.control_fold, apply_ite State.control, ite_self, State.setNose_control, loseReport_control, offerReports_control]

theorem reportRetry_control (b : Nat) (s : State) : (reportRetry b s).control = s.control := by
  unfold reportRetry
  simp only [State.control_foldl, implies_true, State.control_mk, State.control_fold, apply_ite State.control, ite_self, offerReports_control]

theorem noseBurst_control (b : Nat) (s : State) : (noseBurst b s).control = s.control := by
  unfold noseBurst
  simp only [State.control_mk, State.control_fold, apply_ite State.control, ite_self, requestAllowance_control]

theorem noteBacklog_control (b : Nat) (s : State) : (noteBacklog b s).control = s.control := by
  unfold noteBacklog
  simp only [State.modNose_control]

theorem noseBurstReturn_control (b : Nat) (s : State) : (noseBurstReturn b s).control = s.control := by
  unfold noseBurstReturn
  repeat' first
    | with_reducible rfl
    | (simp only [State.control_mk, State.control_fold, apply_ite State.control, ite_self, returnAllowance_control]; done)
    | split
    | dsimp only

theorem scanAtOnce_control (b : Nat) (q : ScanReq) (status : Nat) (s : State) : (scanAtOnce b q status s).control = s.control := by
  unfold scanAtOnce
  simp only [leaveGap_control, giveResult_control]

theorem issueScan_control (b t item : Nat) (d : Desc) (way : Option Nat) (qarg : Nat) (src : Word64) (s : State) (s0 : State) (h0 : s0.control = s.control) : ((issueScan b t item d way qarg src s).state s0).control = s.control := by
  unfold issueScan
  repeat' first
    | with_reducible rfl
    | exact h0
    | (simp only [implies_true, State.control_foldl2, State.control_foldl3, Decision.state_ite, Decision.state_done, Decision.state_full, Decision.state_noroom, ScanIssue.state_ite, ScanIssue.state_done, ScanIssue.state_wait, State.control_mk, State.control_fold, State.control_foldl, apply_ite State.control, apply_ite Prod.snd, apply_ite EntryStep.state, EntryStep.state_served, EntryStep.state_searched, EntryStep.state_refused, EntryStep.state_wait, EntryStep.state_hold, ite_self, h0, State.setNose_control, State.modTeller_control, bump_control, cause_control, perf_control, modFrame_control, addRef_control, modWay_control, leaveGap_control, giveResult_control, noseBurst_control, noteBacklog_control, scanAtOnce_control]; done)
    | split
    | dsimp only

theorem issueScan_control' {b t item : Nat} {d : Desc} {way : Option Nat} {qarg : Nat} {src : Word64} {s : State} {r' : State} (h' : issueScan b t item d way qarg src s = .done r') : r'.control = s.control := by
  have k' := issueScan_control b t item d way qarg src s s rfl
  rw [h'] at k'
  exact k'

theorem noseStart_control (b : Nat) (s : State) : (noseStart b s).control = s.control := by
  unfold noseStart
  repeat' first
    | with_reducible rfl
    | (simp only [State.control_mk, State.control_fold, apply_ite State.control, ite_self, State.setNose_control, bump_control]; done)
    | split
    | dsimp only

theorem leaveRequest_control (b : Nat) (q : ScanReq) (status : Nat) (a : ScanAcc) (s : State) : (leaveRequest b q status a s).control = s.control := by
  unfold leaveRequest
  repeat' first
    | with_reducible rfl
    | (simp only [State.control_mk, State.control_fold, apply_ite State.control, ite_self, bump_control, bump64_control, perfN_control, perf_control, release_control, modWay_control, hostResume_control, settleGaps_control, giveResult_control, report_control, noteBacklog_control]; done)
    | split
    | dsimp only

theorem endRun_control (b : Nat) (r : NoseRun) (status : Nat) (a : ScanAcc) (done gap : Bool) (s : State) : (endRun b r status a done gap s).control = s.control := by
  unfold endRun
  split <;> simp only [State.control_mk, State.control_fold, State.modNose_control, putW14_control, leaveRequest_control]

theorem endFault_control (b : Nat) (r : NoseRun) (a : ScanAcc) (s : State) : (endFault b r a s).control = s.control := by
  unfold endFault
  simp only [bump_control, cause_control, emit_control, endRun_control]

theorem noseMemory_control (b addr : Nat) (e : EccResult) (s : State) : (noseMemory b addr e s).control = s.control := by
  unfold noseMemory
  split <;> simp only [State.control_mk, State.control_fold, bump_control, cause_control, sramEvent_control]

theorem noseDone_control (b : Nat) (mem : EccResult) (at_ : Nat) (s : State) : (noseDone b mem at_ s).control = s.control := by
  unfold noseDone
  repeat' first
    | with_reducible rfl
    | (simp only [State.control_mk, State.control_fold, apply_ite State.control, ite_self, State.modNose_control, leaveRequest_control, endRun_control, endFault_control, noseMemory_control]; done)
    | split
    | dsimp only

theorem stopRun_control (b : Nat) (r : NoseRun) (s : State) : (stopRun b r s).control = s.control := by
  unfold stopRun
  simp only [State.control_foldl, implies_true, State.control_mk, State.control_fold, apply_ite State.control, ite_self, bump_control, endRun_control, endFault_control]

theorem noseStop_control (b : Nat) (s : State) : (noseStop b s).control = s.control := by
  unfold noseStop
  dsimp only
  rw [State.control_foldl]
  · rw [State.modNose_control]
    split
    · exact stopRun_control ..
    · rfl
  · intro t r
    split <;> simp only [leaveRequest_control, bump_control, setGap_control]

theorem noseOff_control (b : Nat) (s : State) : (noseOff b s).control = s.control := by
  unfold noseOff
  dsimp only
  rw [State.control_foldl, State.modNose_control]
  intro t q
  split <;> simp only [leaveRequest_control, setGap_control]

theorem noseResume_control (b : Nat) (s : State) : (noseResume b s).control = s.control := by
  unfold noseResume
  simp only [State.modNose_control]

/-! ### Audit -/

theorem lapBegin_control (m : Nat) (s : State) : (lapBegin m s).control = s.control := by
  unfold lapBegin
  simp only [State.control_foldl, implies_true, State.control_mk, State.control_fold, apply_ite State.control, ite_self]

theorem lapEnd_control (m : Nat) (s : State) : (lapEnd m s).control = s.control := by
  unfold lapEnd
  simp only [State.control_foldl, implies_true, State.control_mk, State.control_fold, apply_ite State.control, ite_self, regStore_control, tally_control, emit_control]

theorem pageVisited_control (m : Nat) (s : State) : (pageVisited m s).control = s.control := by
  unfold pageVisited
  simp only [State.control_foldl, implies_true, State.control_mk, State.control_fold, apply_ite State.control, ite_self, lapEnd_control]

theorem recordVisited_control (rank u : Nat) (s : State) : (recordVisited rank u s).control = s.control := by
  unfold recordVisited
  simp only [State.control_foldl, implies_true, State.control_mk, State.control_fold, apply_ite State.control, ite_self, lapEnd_control]

theorem lapAlarm_control (m : Nat) (s : State) : (lapAlarm m s).control = s.control := by
  unfold lapAlarm
  simp only [State.control_mk, State.control_fold, apply_ite State.control, ite_self, cause_control, emit_control]

theorem notePoisoned_control (a : Nat) (ft asked : Bool) (s : State) : (notePoisoned a ft asked s).control = s.control := by
  unfold notePoisoned
  simp only [emit_control]

theorem notePeerRepair_control (a outcome : Nat) (s : State) : (notePeerRepair a outcome s).control = s.control := by
  unfold notePeerRepair
  simp only [emit_control]

theorem peerFail_control (slot outcome : Nat) (counted : Bool) (s : State) : (peerFail slot outcome counted s).control = s.control := by
  unfold peerFail
  simp only [State.control_mk, State.control_fold, apply_ite State.control, ite_self, bump_control, cause_control, notePeerRepair_control]

theorem auditSlot_control (slot : Nat) (s : State) : (auditSlot slot s).control = s.control := by
  unfold auditSlot
  repeat' first
    | with_reducible rfl
    | (simp only [State.control_mk, State.control_fold, apply_ite State.control, ite_self, modWay_control, askPeer_control, notePoisoned_control, peerFail_control]; done)
    | split
    | dsimp only

theorem auditReleased_control (s : State) : (auditReleased s).control = s.control := by
  unfold auditReleased
  simp only [State.control_foldl, implies_true, State.control_mk, State.control_fold, apply_ite State.control, ite_self, readRecord_control, auditSlot_control]

theorem auditAnswer_control (slot : Nat) (r : Option Rec) (status : Nat) (s : State) : (auditAnswer slot r status s).control = s.control := by
  unfold auditAnswer
  repeat' first
    | with_reducible rfl
    | (simp only [State.control_mk, State.control_fold, apply_ite State.control, ite_self, bump_control, writeRecord_control, notePeerRepair_control, peerFail_control]; done)
    | split
    | dsimp only

theorem auditLasting_control (a words : Nat) (s : State) : (auditLasting a words s).control = s.control := by
  unfold auditLasting
  repeat' first
    | with_reducible rfl
    | (simp only [State.control_mk, State.control_fold, apply_ite State.control, ite_self, cause_control, vaultLasting_control, notePoisoned_control, auditSlot_control]; done)
    | split
    | dsimp only

theorem idleLasting_control (rank u words : Nat) (s : State) : (idleLasting rank u words s).control = s.control := by
  unfold idleLasting
  simp only [State.control_foldl, implies_true, State.control_mk, State.control_fold, apply_ite State.control, ite_self, chanWrite_control, noteLasting_control]

theorem scrubRecord_control (rank u : Nat) (s : State) : (scrubRecord rank u s).control = s.control := by
  unfold scrubRecord
  repeat' first
    | with_reducible rfl
    | (simp only [State.control_foldl, implies_true, State.control_mk, State.control_fold, apply_ite State.control, apply_ite Prod.snd, ite_self, bump_control, chanWrite_control, countWrite_control]; done)
    | split
    | dsimp only

theorem auditRecord_control (rank u : Nat) (found : AuditFound) (s : State) : (auditRecord rank u found s).control = s.control := by
  unfold auditRecord
  repeat' first
    | with_reducible rfl
    | (simp only [State.control_foldl, implies_true, State.control_mk, State.control_fold, apply_ite State.control, apply_ite Prod.snd, ite_self, bump_control, chanRead_control, noteTransient_control, countFix_control, settleMerge_control, auditLasting_control, idleLasting_control, scrubRecord_control]; done)
    | split
    | dsimp only

theorem visitVault_control (c : Nat) (found : AuditFound) (s : State) : (visitVault c found s).control = s.control := by
  unfold visitVault
  repeat' first
    | with_reducible rfl
    | (simp only [State.control_foldl, implies_true, State.control_mk, State.control_fold, apply_ite State.control, apply_ite Prod.snd, ite_self, lapBegin_control, recordVisited_control, auditRecord_control]; done)
    | split
    | dsimp only

theorem visitPage_control (m : Nat) (flips : List WordFlips) (s : State) : (visitPage m flips s).control = s.control := by
  unfold visitPage
  dsimp only
  rw [pageVisited_control]
  split
  · rw [Page.readAll_control _ _ _ (fun _ _ _ => setCofferWord_control ..) fun _ _ => cofferStore_control .., lapBegin_control]
  · rw [Page.readAll_control _ _ _ (fun _ _ _ => modWay_control ..) fun _ _ => loseWord_control .., lapBegin_control]

theorem auditVisit_control (m c : Nat) (found : AuditFound) (flips : List WordFlips) (s : State) : (auditVisit m c found flips s).control = s.control := by
  unfold auditVisit
  simp only [State.control_foldl, implies_true, State.control_mk, State.control_fold, apply_ite State.control, ite_self, visitVault_control, visitPage_control]

/-! ### Window -/

theorem windowStore_control (b k op i : Nat) (src mask : Word64) (s : State) : (windowStore b k op i src mask s).control = s.control := by
  unfold windowStore
  repeat' first
    | with_reducible rfl
    | (simp only [State.control_mk, State.control_fold, apply_ite State.control, ite_self, setWay_control, pinWay_control]; done)
    | split
    | dsimp only

theorem windowState_control (b k new : Nat) (s : State) : (windowState b k new s).control = s.control := by
  unfold windowState
  repeat' first
    | with_reducible rfl
    | (simp only [State.control_mk, State.control_fold, apply_ite State.control, ite_self, setWay_control, closeWay_control]; done)
    | split
    | dsimp only

theorem releaseWindow_control (b t : Nat) (noAff : Bool) (s : State) : (releaseWindow b t noAff s).control = s.control := by
  unfold releaseWindow
  repeat' first
    | with_reducible rfl
    | (simp only [State.control_mk, State.control_fold, apply_ite State.control, ite_self, State.setTeller_control, modWay_control, releaseLock_control, modItem_control]; done)
    | split
    | dsimp only

theorem openTry_control (b t : Nat) (key : Ckey) (s : State) : (openTry b t key s).control = s.control := by
  unfold openTry
  repeat' first
    | with_reducible rfl
    | (simp only [implies_true, State.control_foldl2, State.control_foldl3, Decision.state_ite, Decision.state_done, Decision.state_full, Decision.state_noroom, ScanIssue.state_ite, ScanIssue.state_done, ScanIssue.state_wait, State.control_mk, State.control_fold, State.control_foldl, apply_ite State.control, apply_ite Prod.snd, apply_ite EntryStep.state, EntryStep.state_served, EntryStep.state_searched, EntryStep.state_refused, EntryStep.state_wait, EntryStep.state_hold, ite_self, State.modTeller_control, openOnWay_control]; done)
    | split
    | dsimp only
    | ((try have h0 := attach_control' ‹_›); simp only [implies_true, State.control_foldl2, State.control_foldl3, Decision.state_ite, Decision.state_done, Decision.state_full, Decision.state_noroom, ScanIssue.state_ite, ScanIssue.state_done, ScanIssue.state_wait, State.control_mk, State.control_fold, State.control_foldl, apply_ite State.control, apply_ite Prod.snd, apply_ite EntryStep.state, EntryStep.state_served, EntryStep.state_searched, EntryStep.state_refused, EntryStep.state_wait, EntryStep.state_hold, ite_self, State.modTeller_control, openOnWay_control, *]; done)

theorem openStep_control (b t : Nat) (key : Ckey) (s : State) : (openStep b t key s).control = s.control := by
  unfold openStep
  simp only [State.control_mk, State.control_fold, apply_ite State.control, ite_self, openTry_control]

theorem openEnd_control (t : Nat) (s : State) : (openEnd t s).control = s.control := by
  unfold openEnd
  simp only [State.modTeller_control]

theorem fopEffect_control (b t : Nat) (x : Teller) (w : MicroWord) (s : State) : (fopEffect b t x w s).control = s.control := by
  unfold fopEffect
  repeat' first
    | with_reducible rfl
    | (simp only [State.control_mk, State.control_fold, apply_ite State.control, ite_self, writeBack_control, windowStore_control, windowState_control, releaseWindow_control, openEnd_control]; done)
    | split
    | dsimp only

/-! ### TellerMem -/

theorem localStore_control (t : Nat) (x : Teller) (w : MicroWord) (s : State) : (localStore t x w s).control = s.control := by
  unfold localStore
  simp only [State.control_mk, State.control_fold, apply_ite State.control, ite_self, State.modTeller_control]

theorem queueOp_control (t : Nat) (m : MemOp) (s : State) : (queueOp t m s).control = s.control := by
  unfold queueOp
  simp only [State.modTeller_control]

theorem mopEffect_control (b t : Nat) (x : Teller) (w : MicroWord) (s : State) : (mopEffect b t x w s).control = s.control := by
  unfold mopEffect
  repeat' first
    | with_reducible rfl
    | (simp only [State.control_mk, State.control_fold, apply_ite State.control, ite_self, perf_control, sieveLookup_control, localStore_control, queueOp_control]; done)
    | split
    | dsimp only

theorem setMoveEntry_control (t i : Nat) (r : Rec) (s : State) : (setMoveEntry t i r s).control = s.control := by
  unfold setMoveEntry
  simp only [State.modTeller_control]

theorem guardOp_control (b t slot entry : Nat) (s : State) : (guardOp b t slot entry s).2.2.control = s.control := by
  unfold guardOp
  repeat' first
    | with_reducible rfl
    | (simp only [implies_true, State.control_foldl2, State.control_foldl3, Decision.state_ite, Decision.state_done, Decision.state_full, Decision.state_noroom, ScanIssue.state_ite, ScanIssue.state_done, ScanIssue.state_wait, State.control_mk, State.control_fold, State.control_foldl, apply_ite State.control, apply_ite Prod.snd, apply_ite EntryStep.state, EntryStep.state_served, EntryStep.state_searched, EntryStep.state_refused, EntryStep.state_wait, EntryStep.state_hold, ite_self, State.modLedger_control, readRecord_control, setMoveEntry_control]; done)
    | split
    | dsimp only
    | ((try have h0 := readRecord_control' ‹_›); simp only [implies_true, State.control_foldl2, State.control_foldl3, Decision.state_ite, Decision.state_done, Decision.state_full, Decision.state_noroom, ScanIssue.state_ite, ScanIssue.state_done, ScanIssue.state_wait, State.control_mk, State.control_fold, State.control_foldl, apply_ite State.control, apply_ite Prod.snd, apply_ite EntryStep.state, EntryStep.state_served, EntryStep.state_searched, EntryStep.state_refused, EntryStep.state_wait, EntryStep.state_hold, ite_self, State.modLedger_control, readRecord_control, setMoveEntry_control, *]; done)

theorem guardOp_control' {b t slot entry : Nat} {s : State} {x' : _} {y' : _} {r' : State} (h' : guardOp b t slot entry s = (x', y', r')) : r'.control = s.control := by
  have k' := guardOp_control b t slot entry s
  rw [h'] at k'
  exact k'

theorem ftwrOp_control (b t slot entry : Nat) (s : State) : (ftwrOp b t slot entry s).control = s.control := by
  unfold ftwrOp
  simp only [State.control_mk, State.control_fold, apply_ite State.control, ite_self, bump_control, writeRecord_control]

theorem dropGuards_control (b t : Nat) (s : State) : (dropGuards b t s).control = s.control := by
  unfold dropGuards
  simp only [State.modLedger_control, auditReleased_control]

theorem unguardOp_control (b t : Nat) (s : State) : (unguardOp b t s).control = s.control := by
  unfold unguardOp
  repeat' first
    | with_reducible rfl
    | (simp only [State.control_mk, State.control_fold, apply_ite State.control, ite_self, relocEnded_control, dropGuards_control]; done)
    | split
    | dsimp only

theorem sweepOp_control (b slot : Nat) (s : State) : (sweepOp b slot s).2.control = s.control := by
  unfold sweepOp
  repeat' first
    | with_reducible rfl
    | (simp only [implies_true, State.control_foldl2, State.control_foldl3, Decision.state_ite, Decision.state_done, Decision.state_full, Decision.state_noroom, ScanIssue.state_ite, ScanIssue.state_done, ScanIssue.state_wait, State.control_mk, State.control_fold, State.control_foldl, apply_ite State.control, apply_ite Prod.snd, apply_ite EntryStep.state, EntryStep.state_served, EntryStep.state_searched, EntryStep.state_refused, EntryStep.state_wait, EntryStep.state_hold, ite_self, writeRecord_control, readRecord_control, mirrorSend_control, modWay_control, closeWay_control, noteState_control, closeSlot_control]; done)
    | split
    | dsimp only
    | ((try have h0 := readRecord_control' ‹_›); simp only [implies_true, State.control_foldl2, State.control_foldl3, Decision.state_ite, Decision.state_done, Decision.state_full, Decision.state_noroom, ScanIssue.state_ite, ScanIssue.state_done, ScanIssue.state_wait, State.control_mk, State.control_fold, State.control_foldl, apply_ite State.control, apply_ite Prod.snd, apply_ite EntryStep.state, EntryStep.state_served, EntryStep.state_searched, EntryStep.state_refused, EntryStep.state_wait, EntryStep.state_hold, ite_self, writeRecord_control, readRecord_control, mirrorSend_control, modWay_control, closeWay_control, noteState_control, closeSlot_control, *]; done)

theorem sweepOp_control' {b slot : Nat} {s : State} {x' : _} {r' : State} (h' : sweepOp b slot s = (x', r')) : r'.control = s.control := by
  have k' := sweepOp_control b slot s
  rw [h'] at k'
  exact k'

theorem finishOp_control (t : Nat) (m : MemOp) (vals : List Word64) (sv : Bool) (s : State) : (finishOp t m vals sv s).control = s.control := by
  unfold finishOp
  simp only [State.modTeller_control]

theorem vaultReply_control (b t : Nat) (m : MemOp) (s : State) : (vaultReply b t m s).control = s.control := by
  unfold vaultReply
  repeat' first
    | with_reducible rfl
    | (simp only [State.control_mk, State.control_fold, apply_ite State.control, ite_self, partialWrite_control, readRecord_control, modMem_control, dropMem_control, finishOp_control]; done)
    | split
    | dsimp only

theorem cofferReply_control (t : Nat) (m : MemOp) (s : State) : (cofferReply t m s).control = s.control := by
  unfold cofferReply
  repeat' first
    | with_reducible rfl
    | (simp only [State.control_mk, State.control_fold, apply_ite State.control, ite_self, finishOp_control]; done)
    | split
    | dsimp only

theorem slotReply_control (b t : Nat) (m : MemOp) (s : State) : (slotReply b t m s).control = s.control := by
  unfold slotReply
  repeat' first
    | with_reducible rfl
    | (simp only [State.control_mk, State.control_fold, apply_ite State.control, ite_self, dropMem_control, guardOp_control, ftwrOp_control, unguardOp_control, sweepOp_control, finishOp_control]; done)
    | split
    | dsimp only

theorem memReply_control (t id : Nat) (s : State) : (memReply t id s).control = s.control := by
  unfold memReply
  repeat' first
    | with_reducible rfl
    | (simp only [State.control_mk, State.control_fold, apply_ite State.control, ite_self, finishOp_control, vaultReply_control, cofferReply_control, slotReply_control]; done)
    | split
    | dsimp only

theorem noteDrained_control (d : Nat) (s : State) : (noteDrained d s).control = s.control := by
  unfold noteDrained
  simp only [State.control_mk, State.control_fold, apply_ite State.control, ite_self, cause_control]

/-! ### ItemEnd -/

theorem recircEnter_control (b : Nat) (d : Desc) (s : State) : (recircEnter b d s).control = s.control := by
  unfold recircEnter
  simp only [State.control_mk, State.control_fold, apply_ite State.control, ite_self, State.modAssay_control, peak_control, cause_control]

theorem recircPass_control (b : Nat) (d : Desc) (strip root : Nat) (entered : Bool) (s : State) : (recircPass b d strip root entered s).control = s.control := by
  unfold recircPass
  simp only [State.control_mk, State.control_fold, apply_ite State.control, ite_self, bump_control, cause_control, dispose_control, dropPass_control, puntPass_control, recircEnter_control]

theorem packetEnd_control (b : Nat) (c : ItemCtx) (s : State) : (packetEnd b c s).control = s.control := by
  unfold packetEnd
  repeat' first
    | with_reducible rfl
    | (simp only [State.control_foldl, implies_true, State.control_mk, State.control_fold, apply_ite State.control, apply_ite Prod.snd, ite_self, passDone_control, dropPass_control, puntPass_control, mirrorPass_control, takeAction_control, recircPass_control]; done)
    | split
    | dsimp only

theorem recircAwait_control (b t : Nat) (c : ItemCtx) (v : Option Verdict) (s : State) : (recircAwait b t c v s).control = s.control := by
  unfold recircAwait
  repeat' first
    | with_reducible rfl
    | (simp only [State.control_mk, State.control_fold, apply_ite State.control, ite_self, State.modAssay_control]; done)
    | split
    | dsimp only

theorem releasePacket_control (b t : Nat) (s : State) : (releasePacket b t s).control = s.control := by
  unfold releasePacket
  simp only [State.modTeller_control, modItem_control, packetEnd_control]

theorem dropRequest_control (b t : Nat) (s : State) : (dropRequest b t s).control = s.control := by
  unfold dropRequest
  simp only [State.modDisp_control]

theorem declinePreempt_control (b t item : Nat) (s : State) : (declinePreempt b t item s).control = s.control := by
  unfold declinePreempt
  dsimp only
  split
  · simp only [State.modTeller_control, dropRequest_control]
  · refine State.control_getD (fun u h => (requestPreempt_control' h).trans ?_) ?_ <;>
      simp only [trace_control, bump_control, modItem_control, State.modTeller_control, dropRequest_control]

theorem resume_control (b t : Nat) (s : State) : (resume b t s).control = s.control := by
  unfold resume
  repeat' first
    | with_reducible rfl
    | (simp only [State.control_mk, State.control_fold, apply_ite State.control, ite_self, State.setTeller_control, declinePreempt_control]; done)
    | split
    | dsimp only

theorem yieldTo_control (b t item : Nat) (s : State) : (yieldTo b t item s).control = s.control := by
  unfold yieldTo
  repeat' first
    | with_reducible rfl
    | (simp only [State.control_mk, State.control_fold, apply_ite State.control, ite_self, State.setTeller_control, bump_control, trace_control, modItem_control, startItem_control, dropRequest_control]; done)
    | split
    | dsimp only

theorem wakeFlow_control (b : Nat) (i : Item) (s : State) : (wakeFlow b i s).control = s.control := by
  unfold wakeFlow
  simp only [State.control_mk, State.control_fold, apply_ite State.control, ite_self, State.modDisp_control]

theorem endKind_control (b t : Nat) (i : Item) (s : State) : (endKind b t i s).control = s.control := by
  unfold endKind
  split <;> simp only [State.control_mk, State.control_fold, State.modLedger_control, bump_control, cause_control, stamp_control, relocEnded_control]

theorem learn_control (b t : Nat) (c : ItemCtx) (s : State) : (learn b t c s).control = s.control := by
  unfold learn
  simp only [State.control_mk, State.control_fold, apply_ite State.control, ite_self, setAff_control]

theorem endItem_control (b t : Nat) (s : State) : (endItem b t s).control = s.control := by
  unfold endItem
  extract_lets x c d item s1 s2 s3 s4 s5 s6 s7 s8
  have h3 : s3.control = s.control := by
    simp only [s3, s2, s1, releaseWindow_control, State.modDisp_control, packetEnd_control]
  have h4 : s4.control = s3.control := by
    simp only [s4]
    clear_value item
    cases item
    · rfl
    · simp only [wakeFlow_control, endKind_control]
  have h5 : s5.control = s4.control := by
    simp only [s5, perf_control, bump64_control]
    split
    · simp only [dropGuards_control, dropRequest_control, learn_control]
    · simp only [id, dropRequest_control, learn_control]
  have h6 : s6.control = s5.control := by
    simp only [s6, apply_ite State.control, perf_control, ite_self]
  have h8 : s8.control = s6.control := by
    simp only [s8, s7]
    split
    · simp only [modItem_control, State.modTeller_control]
    · simp only [State.modTeller_control]
  rw [noteDrained_control, h8, h6, h5, h4, h3]

theorem postItem_control (b : Nat) (x : Teller) (w : MicroWord) (s : State) : (postItem b x w s).2.control = s.control := by
  unfold postItem
  repeat' first
    | with_reducible rfl
    | (simp only [State.control_mk, State.control_fold, apply_ite State.control, ite_self, addItem_control, noteRefused_control]; done)
    | split
    | dsimp only

theorem postItem_control' {b : Nat} {x : Teller} {w : MicroWord} {s : State} {x' : _} {r' : State} (h' : postItem b x w s = (x', r')) : r'.control = s.control := by
  have k' := postItem_control b x w s
  rw [h'] at k'
  exact k'

/-! ### Teller -/

theorem csEvent_control (d addr : Nat) (e : EccResult) (s : State) : (csEvent d addr e s).control = s.control := by
  unfold csEvent
  split <;> simp only [State.control_mk, State.control_fold, bump_control, cause_control, emit_control, sramEvent_control]

theorem qopEffect_control (b t : Nat) (x : Teller) (w : MicroWord) (s : State) : (qopEffect b t x w s).2.control = s.control := by
  unfold qopEffect
  repeat' first
    | with_reducible rfl
    | (simp only [State.control_mk, State.control_fold, apply_ite State.control, ite_self, State.modTeller_control, dispose_control, police_control, releasePacket_control]; done)
    | split
    | dsimp only

theorem qopEffect_control' {b t : Nat} {x : Teller} {w : MicroWord} {s : State} {x' : _} {r' : State} (h' : qopEffect b t x w s = (x', r')) : r'.control = s.control := by
  have k' := qopEffect_control b t x w s
  rw [h'] at k'
  exact k'

theorem copEffect_control (t : Nat) (x : Teller) (w : MicroWord) (s : State) : (copEffect t x w s).control = s.control := by
  unfold copEffect
  split <;> simp only [State.control_mk, State.control_fold, setPair_control]

theorem xopEffect_control (b t : Nat) (x : Teller) (w : MicroWord) (s : State) : (xopEffect b t x w s).2.control = s.control := by
  unfold xopEffect
  split <;> simp only [State.control_mk, State.control_fold, State.modTeller_control, emit_control, postItem_control]

theorem xopEffect_control' {b t : Nat} {x : Teller} {w : MicroWord} {s : State} {x' : _} {r' : State} (h' : xopEffect b t x w s = (x', r')) : r'.control = s.control := by
  have k' := xopEffect_control b t x w s
  rw [h'] at k'
  exact k'

theorem commit_control (b t : Nat) (x : Teller) (w : MicroWord) (res : List (Nat × Word64)) (sv : Option Bool) (s0 s : State) : (commit b t x w res sv s0 s).control = s.control := by
  unfold commit
  simp only [State.control_mk, State.control_fold, apply_ite State.control, ite_self, State.modTeller_control, bump_control, bump64_control, cause_control, perf_control]

theorem haltTeller_control (t : Nat) (w : MicroWord) (s : State) : (haltTeller t w s).control = s.control := by
  unfold haltTeller
  simp only [State.modTeller_control, cause_control]

theorem seqEffect_control (b t : Nat) (x : Teller) (w : MicroWord) (cond : Bool) (s : State) : (seqEffect b t x w cond s).control = s.control := by
  unfold seqEffect
  repeat' first
    | with_reducible rfl
    | (simp only [State.control_mk, State.control_fold, apply_ite State.control, ite_self, State.modTeller_control, resume_control, endItem_control, haltTeller_control]; done)
    | split
    | dsimp only

theorem execWord_control (b t : Nat) (w : MicroWord) (s0 : State) : (execWord b t w s0).control = s0.control := by
  unfold execWord
  repeat' first
    | with_reducible rfl
    | (simp only [State.control_mk, State.control_fold, apply_ite State.control, ite_self, fopEffect_control, mopEffect_control, yieldTo_control, qopEffect_control, copEffect_control, xopEffect_control, commit_control, seqEffect_control]; done)
    | split
    | dsimp only

theorem waitWord_control (t : Nat) (s : State) : (waitWord t s).control = s.control := by
  unfold waitWord
  simp only [State.modTeller_control]

theorem raise_control (t : Nat) (c : TrapCause) (s : State) : (raise t c s).control = s.control := by
  unfold raise
  simp only [State.modTeller_control]

theorem runWord_control (b t : Nat) (w : MicroWord) (s : State) : (runWord b t w s).control = s.control := by
  unfold runWord
  repeat' first
    | with_reducible rfl
    | (simp only [implies_true, State.control_foldl2, State.control_foldl3, Decision.state_ite, Decision.state_done, Decision.state_full, Decision.state_noroom, ScanIssue.state_ite, ScanIssue.state_done, ScanIssue.state_wait, State.control_mk, State.control_fold, State.control_foldl, apply_ite State.control, apply_ite Prod.snd, apply_ite EntryStep.state, EntryStep.state_served, EntryStep.state_searched, EntryStep.state_refused, EntryStep.state_wait, EntryStep.state_hold, ite_self, issueScan_control, openStep_control, recircAwait_control, execWord_control, waitWord_control]; done)
    | split
    | dsimp only
    | ((try have h0 := issueScan_control' ‹_›); simp only [implies_true, State.control_foldl2, State.control_foldl3, Decision.state_ite, Decision.state_done, Decision.state_full, Decision.state_noroom, ScanIssue.state_ite, ScanIssue.state_done, ScanIssue.state_wait, State.control_mk, State.control_fold, State.control_foldl, apply_ite State.control, apply_ite Prod.snd, apply_ite EntryStep.state, EntryStep.state_served, EntryStep.state_searched, EntryStep.state_refused, EntryStep.state_wait, EntryStep.state_hold, ite_self, issueScan_control, openStep_control, recircAwait_control, execWord_control, waitWord_control, *]; done)

theorem wordStep_control (t : Nat) (e : EccResult) (s : State) : (wordStep t e s).control = s.control := by
  unfold wordStep
  repeat' first
    | with_reducible rfl
    | (simp only [State.control_mk, State.control_fold, apply_ite State.control, ite_self, State.setTeller_control, State.setDesk_control, State.modTeller_control, noteNoTeller_control, csEvent_control, waitWord_control, raise_control, runWord_control]; done)
    | split
    | dsimp only

theorem noteTrap_control (t d : Nat) (x : Teller) (c : TrapCause) (s : State) : (noteTrap t d x c s).control = s.control := by
  unfold noteTrap
  repeat' first
    | with_reducible rfl
    | (simp only [State.control_mk, State.control_fold, apply_ite State.control, ite_self, bump_control, cause_control, emit_control, perf_control]; done)
    | split
    | dsimp only

theorem frameFull_control (t : Nat) (s : State) : (frameFull t s).control = s.control := by
  unfold frameFull
  simp only [State.modTeller_control, bump_control, cause_control]

theorem takeTrap_control (b t : Nat) (x : Teller) (c : TrapCause) (skip overrun : Bool) (s : State) : (takeTrap b t x c skip overrun s).control = s.control := by
  unfold takeTrap
  simp only [State.control_mk, State.control_fold, apply_ite State.control, ite_self, State.setTeller_control, bump_control, cause_control, noteTrap_control, frameFull_control]

theorem microTrap_control (t : Nat) (s : State) : (microTrap t s).control = s.control := by
  unfold microTrap
  repeat' first
    | with_reducible rfl
    | (simp only [State.control_mk, State.control_fold, apply_ite State.control, ite_self, takeTrap_control]; done)
    | split
    | dsimp only

theorem lockWaitTimeout_control (t : Nat) (s : State) : (lockWaitTimeout t s).control = s.control := by
  unfold lockWaitTimeout
  repeat' first
    | with_reducible rfl
    | (simp only [State.control_mk, State.control_fold, apply_ite State.control, ite_self, State.modTeller_control, modWay_control, raise_control]; done)
    | split
    | dsimp only

theorem tellerStop_control (t : Nat) (s : State) : (tellerStop t s).control = s.control := by
  unfold tellerStop
  simp only [State.modTeller_control]

theorem tellerCont_control (t : Nat) (s : State) : (tellerCont t s).control = s.control := by
  unfold tellerCont
  repeat' first
    | with_reducible rfl
    | (simp only [State.control_mk, State.control_fold, apply_ite State.control, ite_self, State.setTeller_control]; done)
    | split
    | dsimp only

theorem csScrub_control (d addr : Nat) (e : EccResult) (s : State) : (csScrub d addr e s).control = s.control := by
  unfold csScrub
  simp only [csEvent_control]

theorem csRead_control (d addr : Nat) (s : State) : (csRead d addr s).control = s.control := by
  unfold csRead
  simp only [State.control_mk, State.control_fold, apply_ite State.control, ite_self, State.setDesk_control, setField_control]

theorem csData_control (d : Nat) (w : MicroWord) (s : State) : (csData d w s).control = s.control := by
  unfold csData
  simp only [State.control_foldl, implies_true, State.control_mk, State.control_fold, apply_ite State.control, ite_self, regStore_control]

theorem csReadDone_control (d : Nat) (e : EccResult) (s : State) : (csReadDone d e s).control = s.control := by
  unfold csReadDone
  repeat' first
    | with_reducible rfl
    | (simp only [State.control_mk, State.control_fold, apply_ite State.control, ite_self, State.setDesk_control, regStore_control, takeFree_control, csEvent_control, csData_control]; done)
    | split
    | dsimp only

/-! ### Microwords -/

theorem wordRow_control (holds : MicroWord → Bool) (t : Nat) (e : EccResult) (s : State) : (wordRow holds t e s).control = s.control := by
  unfold wordRow
  simp only [State.control_mk, State.control_fold, apply_ite State.control, ite_self, wordStep_control]

/-! ### Export -/

theorem modExp_control (b : Nat) (f : Exporter → Exporter) (s : State) : (modExp b f s).control = s.control := by
  unfold modExp
  simp only [State.modLedger_control]

theorem sendMessage_control (b : Nat) (s : State) : (sendMessage b s).2.control = s.control := by
  unfold sendMessage
  repeat' first
    | with_reducible rfl
    | (simp only [State.control_mk, State.control_fold, apply_ite State.control, ite_self, bump_control, placeRec_control, modExp_control]; done)
    | split
    | dsimp only

theorem sendMessage_control' {b : Nat} {s : State} {x' : _} {r' : State} (h' : sendMessage b s = (x', r')) : r'.control = s.control := by
  have k' := sendMessage_control b s
  rw [h'] at k'
  exact k'

theorem addRecord_control (b t : Nat) (r : Bytes) (s : State) : (addRecord b t r s).control = s.control := by
  unfold addRecord
  simp only [modExp_control]

theorem readWords_control (n i : Nat) (s : State) : (readWords n i s).2.control = s.control := by
  induction n generalizing i s with
  | zero => rfl
  | succ n ih =>
    rw [readWords]
    dsimp only
    rw [ih]
    split <;> simp only [takeFree_control, cofferRoundOn_control]

theorem dropSnapshot_control (b : Nat) (s : State) : (dropSnapshot b s).control = s.control := by
  unfold dropSnapshot
  simp only [modExp_control]

theorem takeRaw_control (b : Nat) (n : Snapshot) (s : State) : (takeRaw b n s).control = s.control := by
  unfold takeRaw
  simp only [State.control_mk, State.control_fold, apply_ite State.control, ite_self, bump_control, makeRoom_control, placeRec_control, readWords_control, dropSnapshot_control]

theorem takeIpfix_control (b : Nat) (n : Snapshot) (s : State) : (takeIpfix b n s).control = s.control := by
  unfold takeIpfix
  dsimp only
  repeat' first
    | (simp only [bump_control, dropSnapshot_control, addRecord_control, readWords_control, sendMessage_control]; done)
    | split

theorem exportTake_control (b : Nat) (s : State) : (exportTake b s).control = s.control := by
  unfold exportTake
  repeat' first
    | with_reducible rfl
    | (simp only [State.control_mk, State.control_fold, apply_ite State.control, ite_self, takeRaw_control, takeIpfix_control]; done)
    | split
    | dsimp only

theorem exportItemRetry_control (b : Nat) (s : State) : (exportItemRetry b s).control = s.control := by
  unfold exportItemRetry
  simp only [State.control_foldl, implies_true, State.control_mk, State.control_fold, apply_ite State.control, ite_self, exportItem_control, modExp_control]

theorem ipfixFlush_control (b : Nat) (s : State) : (ipfixFlush b s).control = s.control := by
  unfold ipfixFlush
  simp only [State.control_mk, State.control_fold, apply_ite State.control, ite_self, sendMessage_control]

theorem templateResend_control (b : Nat) (s : State) : (templateResend b s).control = s.control := by
  unfold templateResend
  simp only [State.control_mk, State.control_fold, apply_ite State.control, ite_self, modExp_control]

/-! ### Mac -/

theorem pushReq_control (r : Requester) (f : Nat) (s : State) : (pushReq r f s).control = s.control := by
  unfold pushReq
  simp only [State.control_mk, State.control_fold, apply_ite State.control, ite_self]

theorem dropReq_control (f : Nat) (s : State) : (dropReq f s).control = s.control := by
  rfl

theorem frameStored_control (f : Nat) (x : Frame) (s : State) : (frameStored f x s).control = s.control := by
  unfold frameStored
  split <;> simp only [State.control_mk, State.control_fold, State.modAssay_control]

theorem grantCell_control (f : Nat) (x : Frame) (k : Pool) (s : State) : (grantCell f x k s).control = s.control := by
  unfold grantCell
  repeat' first
    | with_reducible rfl
    | (simp only [State.control_mk, State.control_fold, apply_ite State.control, ite_self, cause_control, perf_control, fcUpdate_control, setFrame_control, pushReq_control, dropReq_control, frameStored_control]; done)
    | split
    | dsimp only

theorem refuseCell_control (f : Nat) (x : Frame) (s : State) : (refuseCell f x s).control = s.control := by
  unfold refuseCell
  split <;> simp only [State.control_mk, State.control_fold, State.modPort_control, bump_control, cause_control, perf_control, dispose_control, setFrame_control, dropFrame_control, dropReq_control]

theorem decideCell_control (q : Requester × Nat) (s : State) : (decideCell q s).control = s.control := by
  unfold decideCell
  repeat' first
    | with_reducible rfl
    | (simp only [State.control_mk, State.control_fold, apply_ite State.control, ite_self, dropReq_control, grantCell_control, refuseCell_control]; done)
    | split
    | dsimp only

theorem mintRound_control (s : State) : (mintRound s).control = s.control := by
  unfold mintRound
  simp only [State.control_foldl, implies_true, State.control_mk, State.control_fold, apply_ite State.control, ite_self, decideCell_control]

theorem fillCells_control (f n : Nat) (s : State) : (fillCells f n s).control = s.control := by
  induction n generalizing s with
  | zero => rfl
  | succ n ih =>
    rw [fillCells]
    split
    · split
      · simp only [ih, mintRound_control, pushReq_control]
      · rfl
    · rfl

theorem rxStart_control (p : Nat) (data : Bytes) (full : Bool) (s : State) : (rxStart p data full s).control = s.control := by
  unfold rxStart
  simp only [State.control_mk, State.control_fold, apply_ite State.control, ite_self, State.setPort_control, bump_control, cause_control, perf_control, setFrame_control, pushReq_control]

theorem settlePolicer_control (x : Frame) (t : PolTail) (s : State) : (settlePolicer x t s).control = s.control := by
  unfold settlePolicer
  simp only [setPolicer_control]

theorem discardQueued_control (f code : Nat) (s : State) : (discardQueued f code s).control = s.control := by
  unfold discardQueued
  simp only [State.control_foldl, implies_true, State.control_mk, State.control_fold, apply_ite State.control, ite_self, setQueue_control, settleEmpty_control, discardCopy_control]

theorem samplerStep_control (p : Nat) (s : State) : (samplerStep p s).2.control = s.control := by
  unfold samplerStep
  repeat' first
    | with_reducible rfl
    | (simp only [State.control_mk, State.control_fold, apply_ite State.control, ite_self]; done)
    | split
    | dsimp only

theorem samplerStep_control' {p : Nat} {s : State} {x' : _} {r' : State} (h' : samplerStep p s = (x', r')) : r'.control = s.control := by
  have k' := samplerStep_control p s
  rw [h'] at k'
  exact k'

theorem considerSample_control (f p : Nat) (s : State) : (considerSample f p s).control = s.control := by
  unfold considerSample
  repeat' first
    | with_reducible rfl
    | (simp only [State.control_foldl, implies_true, State.control_mk, State.control_fold, apply_ite State.control, apply_ite Prod.snd, ite_self, setFrame_control, release_control, trySample_control, samplerStep_control]; done)
    | split
    | dsimp only

theorem endFrame_control (f : Nat) (fcsBad : Bool) (s : State) : (endFrame f fcsBad s).control = s.control := by
  unfold endFrame
  repeat' first
    | with_reducible rfl
    | (simp only [State.control_foldl, implies_true, State.control_mk, State.control_fold, apply_ite State.control, apply_ite Prod.snd, ite_self, bump_control, cause_control, setFrame_control, dropFrame_control, tailAdd_control, settlePolicer_control, discardQueued_control, considerSample_control]; done)
    | split
    | dsimp only

theorem laneSyms_control (p : Nat) (syms : List Nat) (s : State) : (laneSyms p syms s).control = s.control := by
  unfold laneSyms
  simp only [State.control_foldl, implies_true, State.control_mk, State.control_fold, apply_ite State.control, ite_self, bumpN_control]

theorem rxTail_control (p : Nat) (data : Bytes) (fcsOk : Bool) (fec : Nat) (syms : List Nat) (s : State) : (rxTail p data fcsOk fec syms s).control = s.control := by
  unfold rxTail
  repeat' first
    | with_reducible rfl
    | (simp only [State.control_mk, State.control_fold, apply_ite State.control, ite_self, State.setPort_control, State.modPort_control, bump_control, bump64_control, winCount_control, modFrame_control, fillCells_control, endFrame_control, laneSyms_control]; done)
    | split
    | dsimp only

theorem macControl_control (p : Nat) (data : Bytes) (fcsOk : Bool) (s : State) : (macControl p data fcsOk s).control = s.control := by
  unfold macControl
  simp only [State.control_mk, State.control_fold, apply_ite State.control, ite_self, bump_control, bumpField_control, winCount_control, flowControl_control]

theorem fecUncorr_control (p : Nat) (s : State) : (fecUncorr p s).control = s.control := by
  unfold fecUncorr
  simp only [State.control_mk, State.control_fold, apply_ite State.control, ite_self, bump_control, cause_control]

theorem samplerWrite_control (p : Nat) (v : Word32) (s : State) : (samplerWrite p v s).control = s.control := by
  unfold samplerWrite
  simp only [State.control_mk, State.control_fold, apply_ite State.control, ite_self, regStore_control]

theorem seedWrite_control (p : Nat) (v : Word32) (s : State) : (seedWrite p v s).control = s.control := by
  unfold seedWrite
  simp only [State.control_mk, State.control_fold, regStore_control]

theorem grpCommand_control (cmd : Word32) (s : State) : (grpCommand cmd s).control = s.control := by
  unfold grpCommand
  repeat' first
    | with_reducible rfl
    | (simp only [State.control_mk, State.control_fold, apply_ite State.control, ite_self, regStore_control, setPair_control, cause_control]; done)
    | split
    | dsimp only

/-! ### Assayer -/

theorem countSlot_control (b recirc : Nat) (s : State) : (countSlot b recirc s).control = s.control := by
  unfold countSlot
  simp only [State.modAssay_control]

theorem takeIn_control (b : Nat) (d : Desc) (s : State) : (takeIn b d s).control = s.control := by
  unfold takeIn
  simp only [State.modAssay_control]

theorem admitRecirc_control (b : Nat) (s : State) : (admitRecirc b s).control = s.control := by
  unfold admitRecirc
  split <;> simp only [State.control_mk, State.control_fold, State.modAssay_control, bump_control, perf_control, countSlot_control, takeIn_control]

theorem admitPort_control (b i : Nat) (s : State) : (admitPort b i s).control = s.control := by
  unfold admitPort
  repeat' first
    | with_reducible rfl
    | (simp only [State.control_mk, State.control_fold, apply_ite State.control, ite_self, State.modAssay_control, perf_control, takeIn_control]; done)
    | split
    | dsimp only

theorem admitInject_control (b : Nat) (s : State) : (admitInject b s).control = s.control := by
  unfold admitInject
  split <;> simp only [State.control_mk, State.control_fold, State.modAssay_control, stamp_control, perf_control, takeIn_control]

theorem admitSource_control (b i : Nat) (s : State) : (admitSource b i s).control = s.control := by
  unfold admitSource
  split <;> simp only [State.control_mk, State.control_fold, State.modAssay_control, countSlot_control, admitPort_control, admitInject_control]

theorem placeStalled_control (b : Nat) (s : State) : (placeStalled b s).control = s.control := by
  unfold placeStalled
  repeat' first
    | with_reducible rfl
    | (simp only [State.control_mk, State.control_fold, apply_ite State.control, ite_self, State.modAssay_control, addStateless_control]; done)
    | split
    | dsimp only

theorem assayAdmit_control (b : Nat) (s : State) : (assayAdmit b s).control = s.control := by
  unfold assayAdmit
  repeat' first
    | with_reducible rfl
    | (simp only [State.control_mk, State.control_fold, apply_ite State.control, ite_self, admitRecirc_control, admitSource_control, placeStalled_control]; done)
    | split
    | dsimp only

theorem parseStateless_control (b : Nat) (d : Desc) (s : State) : (parseStateless b d s).control = s.control := by
  unfold parseStateless
  simp only [State.control_mk, State.control_fold, apply_ite State.control, ite_self, State.modAssay_control, sieveLookup_control, dropPass_control, policeAction_control, applyAction_control, addStateless_control, noteStall_control]

theorem parseDefault_control (b act reset code : Nat) (d : Desc) (s : State) : (parseDefault b act reset code d s).control = s.control := by
  unfold parseDefault
  split <;> simp only [State.control_mk, State.control_fold, dropPass_control, puntPass_control, parseStateless_control]

theorem xchPut_control (b home : Nat) (d : Desc) (s : State) : (xchPut b home d s).control = s.control := by
  unfold xchPut
  simp only [State.modAssay_control, bump_control]

theorem xchSend_control (b : Nat) (d : Desc) (s : State) : (xchSend b d s).control = s.control := by
  unfold xchSend
  simp only [State.control_mk, State.control_fold, apply_ite State.control, ite_self, State.modAssay_control, xchPut_control]

theorem routePass_control (b : Nat) (d : Desc) (stateless : Bool) (s : State) : (routePass b d stateless s).control = s.control := by
  unfold routePass
  repeat' first
    | with_reducible rfl
    | (simp only [State.control_mk, State.control_fold, apply_ite State.control, ite_self, bump_control, parseStateless_control, parseDefault_control, xchSend_control]; done)
    | split
    | dsimp only

theorem deferEnd_control (b : Nat) (d : Desc) (l : Lengths) (s : State) : (deferEnd b d l s).control = s.control := by
  unfold deferEnd
  simp only [State.control_mk, State.control_fold, apply_ite State.control, ite_self, modFrame_control]

theorem parsePass_control (b f : Nat) (s : State) : (parsePass b f s).control = s.control := by
  unfold parsePass
  repeat' first
    | with_reducible rfl
    | (simp only [State.control_mk, State.control_fold, apply_ite State.control, ite_self, State.modAssay_control, bump_control, routePass_control, deferEnd_control]; done)
    | split
    | dsimp only

theorem holdRelease_control (b : Nat) (s : State) : (holdRelease b s).control = s.control := by
  unfold holdRelease
  repeat' first
    | with_reducible rfl
    | (simp only [State.control_mk, State.control_fold, apply_ite State.control, ite_self, State.modAssay_control, xchPut_control]; done)
    | split
    | dsimp only

theorem xchStall_control (b : Nat) (s : State) : (xchStall b s).control = s.control := by
  unfold xchStall
  simp only [State.control_mk, State.control_fold, apply_ite State.control, ite_self, State.modAssay_control, bump_control, cause_control]

theorem recircPlace_control (b : Nat) (s : State) : (recircPlace b s).control = s.control := by
  unfold recircPlace
  repeat' first
    | with_reducible rfl
    | (simp only [State.control_mk, State.control_fold, apply_ite State.control, ite_self, State.setAssay_control, State.modTeller_control, recircEnter_control]; done)
    | split
    | dsimp only

/-! ### Inject -/

theorem injectWriteBack_control (n admitTime status : Nat) (l : List Bytes) (s : State) :
    (injectWriteBack n admitTime status l s).control = s.control := by
  induction l generalizing s with
  | nil => rfl
  | cons d ds ih =>
    rw [injectWriteBack]
    simp only [ih, advanceHead_control, toHost_control]

theorem injectEnd_control (n admitTime status : Nat) (run : List Bytes) (s : State) : (injectEnd n admitTime status run s).control = s.control := by
  unfold injectEnd
  simp only [State.modRing_control, injectWriteBack_control]

theorem injectBad_control (n reason : Nat) (run : List Bytes) (s : State) : (injectBad n reason run s).control = s.control := by
  unfold injectBad
  simp only [cause_control, emit_control, injectEnd_control]

theorem injectAdmit_control (f : Nat) (d : Bytes) (x : Frame) (s : State) : (injectAdmit f d x s).control = s.control := by
  unfold injectAdmit
  simp only [State.control_mk, State.control_fold, apply_ite State.control, ite_self, State.modAssay_control, release_control, sendTo_control]

theorem injectFrame_control (n : Nat) (run : List Bytes) (d data : Bytes) (s : State) : (injectFrame n run d data s).control = s.control := by
  unfold injectFrame
  repeat' first
    | with_reducible rfl
    | (simp only [State.control_mk, State.control_fold, apply_ite State.control, ite_self, dispose_control, setFrame_control, dropFrame_control, fillCells_control, injectEnd_control, injectAdmit_control]; done)
    | split
    | dsimp only

theorem injectRead_control (n : Nat) (data : Option Bytes) (s : State) : (injectRead n data s).control = s.control := by
  unfold injectRead
  repeat' first
    | with_reducible rfl
    | (simp only [State.control_mk, State.control_fold, apply_ite State.control, ite_self, fromHost_control, haltRing_control, injectBad_control, injectFrame_control]; done)
    | split
    | dsimp only

/-! ### Rewrite -/

theorem countRewrite_control (r : Rewritten) (s : State) : (countRewrite r s).control = s.control := by
  unfold countRewrite
  repeat' first
    | with_reducible rfl
    | (simp only [State.control_mk, State.control_fold, apply_ite State.control, ite_self, bump_control, ts2Push_control]; done)
    | split
    | dsimp only

theorem nptCtlWrite_control (m : Nat) (v : Word32) (s : State) : (nptCtlWrite m v s).control = s.control := by
  unfold nptCtlWrite
  simp only [State.control_mk, State.control_fold, apply_ite State.control, ite_self, regStore_control, setField_control]

/-! ### Gates -/

theorem gclNext_control (s : State) : (gclNext s).control = s.control := by
  unfold gclNext
  simp only [State.control_mk, State.control_fold, apply_ite State.control, ite_self, setField_control]

theorem gclWrite_control (v : Word32) (s : State) : (gclWrite v s).control = s.control := by
  unfold gclWrite
  simp only [State.control_mk, State.control_fold, apply_ite State.control, ite_self, State.setSched_control, bump_control, gclNext_control]

theorem gclRead_control (s : State) : (gclRead s).2.control = s.control := by
  unfold gclRead
  simp only [regStore_control, gclNext_control]

theorem gclRead_control' {s : State} {x' : _} {r' : State} (h' : gclRead s = (x', r')) : r'.control = s.control := by
  have k' := gclRead_control s
  rw [h'] at k'
  exact k'

theorem gclReadHost_control (s : State) : (gclReadHost s).control = s.control := by
  unfold gclReadHost
  repeat' first
    | with_reducible rfl
    | (simp only [State.control_foldl, implies_true, State.control_mk, State.control_fold, apply_ite State.control, apply_ite Prod.snd, ite_self, gclRead_control]; done)
    | split
    | dsimp only

theorem gateCtrlWrite_control (p : Nat) (v : Word32) (s : State) : (gateCtrlWrite p v s).control = s.control := by
  unfold gateCtrlWrite
  simp only [State.control_mk, State.control_fold, apply_ite State.control, ite_self, State.setSched_control, regStore_control, bump_control, cause_control]

theorem gateSwitch_control (p : Nat) (s : State) : (gateSwitch p s).control = s.control := by
  unfold gateSwitch
  repeat' first
    | with_reducible rfl
    | (simp only [State.control_mk, State.control_fold, apply_ite State.control, ite_self, State.setSched_control, regStore_control, cause_control, emit_control]; done)
    | split
    | dsimp only

theorem gateOverrun_control (p : Nat) (s : State) : (gateOverrun p s).control = s.control := by
  unfold gateOverrun
  repeat' first
    | with_reducible rfl
    | (simp only [State.control_mk, State.control_fold, apply_ite State.control, ite_self, bump_control]; done)
    | split
    | dsimp only

theorem offsetStep_control (s : State) : (offsetStep s).control = s.control := by
  unfold offsetStep
  simp only [State.control_foldl, implies_true, State.control_mk, State.control_fold, apply_ite State.control, ite_self, offsetAdd_control, gateOverrun_control]

/-! ### Tm -/

theorem shape_control (n : Nat) (ended : Option Nat) (s : State) : (shape n ended s).control = s.control := by
  unfold shape
  simp only [State.control_mk, State.control_fold, apply_ite State.control, ite_self, State.setClass_control]

theorem shaperUpdate_control (k c : Nat) (s : State) : (shaperUpdate k c s).control = s.control := by
  unfold shaperUpdate
  simp only [State.control_mk, State.control_fold, apply_ite State.control, ite_self, shape_control]

theorem classCtrlWrite_control (n : Nat) (v : Word32) (s : State) : (classCtrlWrite n v s).control = s.control := by
  unfold classCtrlWrite
  simp only [State.control_mk, State.control_fold, apply_ite State.control, ite_self, State.setClass_control, regStore_control]

theorem popHead_control (n : Nat) (s : State) : (popHead n s).control = s.control := by
  unfold popHead
  simp only [setQueue_control, settleEmpty_control]

theorem puntExpired_control (n source : Nat) (c : Copy) (s : State) : (puntExpired n source c s).control = s.control := by
  unfold puntExpired
  simp only [release_control, makeCopy_control, popHead_control]

theorem cleanHeads_control (n f : Nat) (s : State) : (cleanHeads n f s).control = s.control := by
  induction f generalizing s with
  | zero => rfl
  | succ f ih =>
    rw [cleanHeads]
    repeat' first
      | with_reducible rfl
      | (simp only [ih, puntExpired_control, discardCopy_control, perf_control, cause_control, popHead_control]; done)
      | split

theorem noteClass_control (n : Nat) (s : State) : (noteClass n s).control = s.control := by
  unfold noteClass
  simp only [State.control_mk, State.control_fold, apply_ite State.control, ite_self, State.setClass_control, perf_control]

theorem drrPick_control (k : Nat) (elig : List Nat) (f : Nat) (s : State) : (drrPick k elig f s).2.control = s.control := by
  induction f generalizing s with
  | zero => rfl
  | succ f ih =>
    rw [drrPick]
    dsimp only
    repeat' first
      | with_reducible rfl
      | (simp only [ih, State.setClass_control, State.setSched_control]; done)
      | split

theorem pick_control (k : Nat) (s : State) : (pick k s).2.control = s.control := by
  unfold pick
  repeat' first
    | with_reducible rfl
    | (simp only [State.control_mk, State.control_fold, apply_ite State.control, ite_self, drrPick_control]; done)
    | split
    | dsimp only

theorem pick_control' {k : Nat} {s : State} {x' : _} {r' : State} (h' : pick k s = (x', r')) : r'.control = s.control := by
  have k' := pick_control k s
  rw [h'] at k'
  exact k'

theorem startCopy_control (n : Nat) (s : State) : (startCopy n s).control = s.control := by
  unfold startCopy
  repeat' first
    | with_reducible rfl
    | (simp only [State.control_mk, State.control_fold, apply_ite State.control, ite_self, State.modSched_control, perf_control, countRewrite_control, shape_control, popHead_control]; done)
    | split
    | dsimp only

theorem hostReturn_control (s : State) : (hostReturn s).control = s.control := by
  unfold hostReturn
  repeat' first
    | with_reducible rfl
    | (simp only [State.control_mk, State.control_fold, apply_ite State.control, ite_self, State.modSched_control, setQueue_control]; done)
    | split
    | dsimp only

theorem preparePick_control (k : Nat) (s : State) : (preparePick k s).control = s.control := by
  unfold preparePick
  simp only [State.control_foldl, implies_true, State.control_mk, State.control_fold, apply_ite State.control, ite_self, cleanHeads_control, noteClass_control]

theorem loseHead_control (n : Nat) (s : State) : (loseHead n s).control = s.control := by
  unfold loseHead
  repeat' first
    | with_reducible rfl
    | (simp only [State.control_foldl, implies_true, State.control_mk, State.control_fold, apply_ite State.control, apply_ite Prod.snd, ite_self, discardCopy_control, popHead_control]; done)
    | split
    | dsimp only

theorem startRead_control (n : Nat) (desc buf : SramRead) (s : State) : (startRead n desc buf s).control = s.control := by
  unfold startRead
  repeat' first
    | with_reducible rfl
    | (simp only [State.control_foldl, implies_true, State.control_mk, State.control_fold, apply_ite State.control, apply_ite Prod.snd, ite_self, sramRead_control, startCopy_control, loseHead_control]; done)
    | split
    | dsimp only

theorem tmSelect_control (k : Nat) (desc buf : SramRead) (s : State) : (tmSelect k desc buf s).control = s.control := by
  unfold tmSelect
  dsimp only
  have ht : (if k = 65 then hostReturn s else s).control = s.control := by simp only [apply_ite State.control, hostReturn_control, ite_self]
  generalize (if k = 65 then hostReturn s else s) = t at ht ⊢
  rw [← ht]
  split
  · rfl
  · have hk := pick_control k (preparePick k t)
    generalize pick k (preparePick k t) = p at hk ⊢
    obtain ⟨c, w⟩ := p
    dsimp only at hk ⊢
    cases c
    · exact hk.trans (preparePick_control ..)
    · exact (startRead_control ..).trans (hk.trans (preparePick_control ..))

theorem chargeEnd_control (k : Nat) (y : Sending) (len : Nat) (s : State) : (chargeEnd k y len s).control = s.control := by
  unfold chargeEnd
  simp only [State.control_mk, State.control_fold, apply_ite State.control, ite_self, State.setClass_control, State.modSched_control, flushFc_control, settleEmpty_control, shape_control]

theorem endBad_control (k : Nat) (y : Sending) (out : Bytes) (s : State) : (endBad k y out s).control = s.control := by
  unfold endBad
  simp only [State.control_mk, State.control_fold, bump_control, cause_control, perf_control, winCount_control, release_control, countCopy_control, chargeEnd_control]

theorem endGood_control (k : Nat) (y : Sending) (out : Bytes) (s : State) : (endGood k y out s).control = s.control := by
  unfold endGood
  simp only [State.control_mk, State.control_fold, apply_ite State.control, ite_self, winCount_control, release_control, countCopy_control, linkSend_control, chargeEnd_control]

theorem txEnd_control (k : Nat) (buf : SramRead) (s : State) : (txEnd k buf s).control = s.control := by
  unfold txEnd
  repeat' first
    | with_reducible rfl
    | (simp only [State.control_mk, State.control_fold, apply_ite State.control, ite_self, discardCopy_control, sramRead_control, countRewrite_control, chargeEnd_control, endBad_control, endGood_control]; done)
    | split
    | dsimp only

theorem underrun_control (k : Nat) (s : State) : (underrun k s).control = s.control := by
  unfold underrun
  repeat' first
    | with_reducible rfl
    | (simp only [State.control_mk, State.control_fold, apply_ite State.control, ite_self, endBad_control]; done)
    | split
    | dsimp only

theorem gateBoundary_control (p : Nat) (s : State) : (gateBoundary p s).control = s.control := by
  unfold gateBoundary
  repeat' first
    | with_reducible rfl
    | (simp only [State.control_foldl, implies_true, State.control_mk, State.control_fold, apply_ite State.control, apply_ite Prod.snd, ite_self, State.setSched_control, State.setClass_control]; done)
    | split
    | dsimp only

theorem holdDiscard_control (n f : Nat) (s : State) : (holdDiscard n f s).control = s.control := by
  induction f generalizing s with
  | zero => rfl
  | succ f ih =>
    rw [holdDiscard]
    repeat' first
      | with_reducible rfl
      | (simp only [ih, discardCopy_control, perf_control, cause_control, popHead_control]; done)
      | split

theorem holdExpiry_control (n : Nat) (s : State) : (holdExpiry n s).control = s.control := by
  unfold holdExpiry
  simp only [State.control_mk, State.control_fold, apply_ite State.control, ite_self, holdDiscard_control]

theorem freezeQueues_control (k : Nat) (s : State) : (freezeQueues k s).control = s.control := by
  unfold freezeQueues
  dsimp only
  rw [State.control_foldl _ fun t n => by split; exact holdDiscard_control ..; rfl]
  split <;> simp only [release_control, countCopy_control, State.control_foldl, State.setClass_control, State.setSched_control, implies_true]

theorem resumeQueues_control (k : Nat) (s : State) : (resumeQueues k s).control = s.control := by
  unfold resumeQueues
  simp only [State.control_foldl, implies_true, State.control_mk, State.control_fold, apply_ite State.control, ite_self, State.setClass_control, State.modSched_control]

theorem polWrite_control (cmd : Nat) (fill : Bool) (s : State) : (polWrite cmd fill s).control = s.control := by
  unfold polWrite
  simp only [setPolicer_control]

theorem polRead_control (cmd : Nat) (clear : Bool) (s : State) : (polRead cmd clear s).control = s.control := by
  unfold polRead
  simp only [regStore_control, setField_control, setPolicer_control]

theorem polCommand_control (v : Word32) (s : State) : (polCommand v s).control = s.control := by
  unfold polCommand
  repeat' first
    | with_reducible rfl
    | (simp only [State.control_mk, State.control_fold, apply_ite State.control, ite_self, regStore_control, setField_control, polWrite_control, polRead_control]; done)
    | split
    | dsimp only

theorem polRow_control (op : Nat) (cmd : Word32) (s : State) : (polRow op cmd s).control = s.control := by
  unfold polRow
  simp only [State.control_foldl, implies_true, State.control_mk, State.control_fold, apply_ite State.control, ite_self, gated_control, polCommand_control]

/-! ### Dma -/

theorem hostSkip_control (c : Copy) (s : State) : (hostSkip c s).control = s.control := by
  unfold hostSkip
  repeat' first
    | with_reducible rfl
    | (simp only [State.control_foldl, implies_true, State.control_mk, State.control_fold, apply_ite State.control, apply_ite Prod.snd, ite_self, bump_control]; done)
    | split
    | dsimp only

theorem packetDone_control (s : State) : (packetDone s).control = s.control := by
  unfold packetDone
  repeat' first
    | with_reducible rfl
    | (simp only [State.control_mk, State.control_fold, apply_ite State.control, ite_self, State.modSched_control, bump_control, perf_control, release_control, countCopy_control, chargeEnd_control, hostSkip_control]; done)
    | split
    | dsimp only

theorem packetWrite_control (n : Nat) (y : Sending) (s : State) : (packetWrite n y s).control = s.control := by
  unfold packetWrite
  repeat' first
    | with_reducible rfl
    | (simp only [State.control_mk, State.control_fold, apply_ite State.control, ite_self, placeRec_control, packetDone_control]; done)
    | split
    | dsimp only

theorem dumpWrite_control (n : Nat) (b : Bytes) (s : State) : (dumpWrite n b s).control = s.control := by
  unfold dumpWrite
  simp only [State.control_mk, State.control_fold, apply_ite State.control, ite_self, perf_control, placeRec_control]

theorem spanDone_control (kind : Nat) (s : State) : (spanDone kind s).control = s.control := by
  unfold spanDone
  simp only [State.control_mk, State.control_fold, apply_ite State.control, ite_self, perf_control, packetDone_control]

theorem recordWrite.dumpNext_control (n : Nat) (s : State) : (recordWrite.dumpNext n s).control = s.control := by
  unfold recordWrite.dumpNext
  split
  · split
    · exact dumpWrite_control ..
    · rfl
  · rfl

theorem recordWrite_control (n : Nat) (s : State) : (recordWrite n s).control = s.control := by
  unfold recordWrite
  dsimp only
  repeat' first
    | with_reducible rfl
    | (simp only [spanDone_control, placeRest_control, packetWrite_control, recordWrite.dumpNext_control]; done)
    | split

theorem starveInterval_control (n : Nat) (s : State) : (starveInterval n s).control = s.control := by
  unfold starveInterval
  simp only [State.control_mk, State.control_fold, apply_ite State.control, ite_self, State.modRing_control, bump_control, cause_control]

/-! ### Ports -/

theorem noteLink_control (p : Nat) (s : State) : (noteLink p s).control = s.control := by
  unfold noteLink
  simp only [emit_control]

theorem setLanes_control (p : Nat) (f : Lane → Lane) (s : State) : (setLanes p f s).control = s.control := by
  rfl

theorem leaveTo_control (p : Nat) (st : LinkState) (s : State) : (leaveTo p st s).control = s.control := by
  unfold leaveTo
  simp only [State.control_mk, State.control_fold, apply_ite State.control, ite_self, State.setPort_control, bump_control, cause_control, freezeQueues_control, noteLink_control, setLanes_control]

theorem portStart_control (p : Nat) (s : State) : (portStart p s).control = s.control := by
  unfold portStart
  simp only [State.control_mk, State.control_fold, apply_ite State.control, ite_self, State.modPort_control, leaveTo_control]

theorem portStop_control (p : Nat) (s : State) : (portStop p s).control = s.control := by
  unfold portStop
  simp only [State.control_mk, State.control_fold, apply_ite State.control, ite_self, leaveTo_control]

theorem portCtrlWrite_control (p : Nat) (v : Word32) (s : State) : (portCtrlWrite p v s).control = s.control := by
  unfold portCtrlWrite
  simp only [State.control_mk, State.control_fold, apply_ite State.control, ite_self, regStore_control, portStart_control, portStop_control]

theorem acquireDone_control (p : Nat) (s : State) : (acquireDone p s).control = s.control := by
  unfold acquireDone
  simp only [State.control_mk, State.control_fold, apply_ite State.control, ite_self, State.modPort_control, setLanes_control]

theorem alignDone_control (p : Nat) (s : State) : (alignDone p s).control = s.control := by
  unfold alignDone
  simp only [State.control_mk, State.control_fold, apply_ite State.control, ite_self, State.setPort_control, setLanes_control]

theorem linkUp_control (p : Nat) (s : State) : (linkUp p s).control = s.control := by
  unfold linkUp
  repeat' first
    | with_reducible rfl
    | (simp only [State.control_mk, State.control_fold, apply_ite State.control, ite_self, State.setPort_control, cause_control, fcUpdate_control, resumeQueues_control, noteLink_control]; done)
    | split
    | dsimp only

theorem noteLoss_control (p : Nat) (why : LinkLoss) (lane : Nat) (s : State) : (noteLoss p why lane s).control = s.control := by
  unfold noteLoss
  simp only [State.control_foldl, implies_true, State.control_mk, State.control_fold, apply_ite State.control, ite_self, State.setPort_control, cause_control]

theorem linkDown_control (p : Nat) (why : LinkLoss) (lane : Nat) (s : State) : (linkDown p why lane s).control = s.control := by
  unfold linkDown
  simp only [State.control_mk, State.control_fold, apply_ite State.control, ite_self, leaveTo_control, noteLoss_control]

theorem remoteFault_control (p : Nat) (s : State) : (remoteFault p s).control = s.control := by
  unfold remoteFault
  simp only [State.control_mk, State.control_fold, apply_ite State.control, ite_self, noteLoss_control]

theorem refclkEthLoss_control (s : State) : (refclkEthLoss s).control = s.control := by
  unfold refclkEthLoss
  simp only [State.control_foldl, implies_true, State.control_mk, State.control_fold, apply_ite State.control, ite_self, portStop_control]

theorem refclkEthReturn_control (s : State) : (refclkEthReturn s).control = s.control := by
  unfold refclkEthReturn
  simp only [State.control_foldl, implies_true, State.control_mk, State.control_fold, apply_ite State.control, ite_self, portStart_control]

theorem octetStop_control (o : Nat) (s : State) : (octetStop o s).control = s.control := by
  unfold octetStop
  simp only [State.control_foldl, implies_true, State.control_mk, State.control_fold, apply_ite State.control, ite_self, portStop_control]

theorem octetStart_control (o : Nat) (s : State) : (octetStart o s).control = s.control := by
  unfold octetStart
  simp only [State.control_foldl, implies_true, State.control_mk, State.control_fold, apply_ite State.control, ite_self, portStart_control]

/-! ### Tether -/

theorem tethBringUp_control (s : State) : (tethBringUp s).control = s.control := by
  unfold tethBringUp
  simp only [State.control_mk, State.control_fold, apply_ite State.control, ite_self, cause_control]

theorem tethCtrlWrite_control (v : Word32) (s : State) : (tethCtrlWrite v s).control = s.control := by
  unfold tethCtrlWrite
  simp only [State.control_mk, State.control_fold, apply_ite State.control, ite_self, regStore_control, tethBringUp_control]

theorem tethTrained_control (s : State) : (tethTrained s).control = s.control := by
  unfold tethTrained
  repeat' first
    | with_reducible rfl
    | (simp only [State.control_mk, State.control_fold, apply_ite State.control, ite_self]; done)
    | split
    | dsimp only

theorem laneCheck_control (errors : List Nat) (peer : Nat) (s : State) : (laneCheck errors peer s).control = s.control := by
  unfold laneCheck
  simp only [State.control_mk, State.control_fold, apply_ite State.control, ite_self]

theorem resendAll_control (s : State) : (resendAll s).control = s.control := by
  unfold resendAll
  simp only [State.control_foldl, implies_true, State.control_mk, State.control_fold, apply_ite State.control, ite_self, linkOut_control]

theorem tethLinkUp_control (peer set : Nat) (s : State) : (tethLinkUp peer set s).control = s.control := by
  unfold tethLinkUp
  simp only [State.control_mk, State.control_fold, apply_ite State.control, ite_self, cause_control, resendAll_control]

theorem tethReform_control (m announced : Nat) (s : State) : (tethReform m announced s).control = s.control := by
  unfold tethReform
  simp only [State.control_mk, State.control_fold, apply_ite State.control, ite_self, bump_control, cause_control, emit_control, tethBringUp_control, resendAll_control]

theorem tethLinkDown_control (s : State) : (tethLinkDown s).control = s.control := by
  unfold tethLinkDown
  simp only [State.control_mk, State.control_fold, apply_ite State.control, ite_self, tethBringUp_control]

theorem linkAck_control (n : Nat) (s : State) : (linkAck n s).control = s.control := by
  rfl

theorem linkLasting_control (kind : Nat) (s : State) : (linkLasting kind s).control = s.control := by
  unfold linkLasting
  simp only [bump_control, cause_control, emit_control]

theorem linkNak_control (n : Nat) (noData : Bool) (s : State) : (linkNak n noData s).control = s.control := by
  unfold linkNak
  repeat' first
    | with_reducible rfl
    | (simp only [State.control_mk, State.control_fold, apply_ite State.control, ite_self, bump_control, perf_control, linkOut_control, linkAck_control, linkLasting_control]; done)
    | split
    | dsimp only

theorem linkTake_control (kind n : Nat) (ok : Bool) (s : State) : (linkTake kind n ok s).control = s.control := by
  unfold linkTake
  simp only [State.control_foldl, implies_true, State.control_mk, State.control_fold, apply_ite State.control, ite_self, linkReply_control, linkLasting_control]

theorem linkRx_control (kind n : Nat) (ok : Bool) (ack nak : Option (BitVec 16)) (buf : SramRead) (s : State) : (linkRx kind n ok ack nak buf s).control = s.control := by
  unfold linkRx
  repeat' first
    | with_reducible rfl
    | (simp only [State.control_mk, State.control_fold, apply_ite State.control, ite_self, perf_control, sramRead_control, linkAck_control, linkNak_control, linkTake_control]; done)
    | split
    | dsimp only

theorem linkQueue_control (kind : Nat) (payload : Bytes) (s : State) : (linkQueue kind payload s).control = s.control := by
  unfold linkQueue
  simp only [State.control_mk, State.control_fold, freshTeth_control, linkSend_control]

theorem recoverFail_control (outcome : Nat) (r : Recovery) (s : State) : (recoverFail outcome r s).control = s.control := by
  unfold recoverFail
  split <;> simp only [State.control_mk, State.control_fold, bump_control, peerAnswer_control, auditAnswer_control]

theorem failRecoveries_control (p : Recovery → Bool) (outcome : Nat) (s : State) : (failRecoveries p outcome s).control = s.control := by
  unfold failRecoveries
  simp only [State.control_foldl, implies_true, State.control_mk, State.control_fold, apply_ite State.control, ite_self, recoverFail_control]

theorem unpair_control (s : State) : (unpair s).control = s.control := by
  unfold unpair
  simp only [State.control_mk, State.control_fold, freezeQueues_control]

theorem noteLost_control (s : State) : (noteLost s).control = s.control := by
  unfold noteLost
  simp only [State.control_mk, State.control_fold, stamp_control]

theorem setPairState_control (p : PairState) (s : State) : (setPairState p s).control = s.control := by
  unfold setPairState
  repeat' first
    | with_reducible rfl
    | (simp only [State.control_mk, State.control_fold, apply_ite State.control, ite_self, bump_control, cause_control, emit_control, perf_control, resumeQueues_control, failRecoveries_control, unpair_control, noteLost_control]; done)
    | split
    | dsimp only

theorem heartbeatSend_control (s : State) : (heartbeatSend s).control = s.control := by
  unfold heartbeatSend
  simp only [State.control_mk, State.control_fold, apply_ite State.control, ite_self, linkQueue_control]

theorem heartbeatRx_control (msg : Bytes) (s : State) : (heartbeatRx msg s).control = s.control := by
  unfold heartbeatRx
  repeat' first
    | with_reducible rfl
    | (simp only [State.control_mk, State.control_fold, apply_ite State.control, ite_self, setPair_control, setPairState_control]; done)
    | split
    | dsimp only

theorem peerLost_control (s : State) : (peerLost s).control = s.control := by
  unfold peerLost
  simp only [State.control_mk, State.control_fold, apply_ite State.control, ite_self, setPairState_control]

theorem mirrorApply_control (msg : Bytes) (s : State) : (mirrorApply msg s).control = s.control := by
  unfold mirrorApply
  dsimp only
  split
  · rfl
  · split
    · exact mirrorOnTill_control ..
    · exact State.control_getD (fun t h => attach_control' h) rfl

theorem tetherCopy_control (header data : Bytes) (s : State) : (tetherCopy header data s).control = s.control := by
  unfold tetherCopy
  repeat' first
    | with_reducible rfl
    | (simp only [State.control_mk, State.control_fold, apply_ite State.control, ite_self, bump_control, setFrame_control, dropFrame_control, release_control, makeCopy_control, badTarget_control, fillCells_control]; done)
    | split
    | dsimp only

theorem recoverLook_control (msg : Bytes) (s : State) : (recoverLook msg s).2.control = s.control := by
  unfold recoverLook
  repeat' first
    | with_reducible rfl
    | (simp only [State.control_mk, State.control_fold, apply_ite State.control, ite_self, readRecord_control, closeWay_control, noteState_control, searchBoth_control]; done)
    | split
    | dsimp only

theorem recoverLook_control' {msg : Bytes} {s : State} {x' : _} {r' : State} (h' : recoverLook msg s = (x', r')) : r'.control = s.control := by
  have k' := recoverLook_control msg s
  rw [h'] at k'
  exact k'

theorem recoverRequest_control (msg : Bytes) (s : State) : (recoverRequest msg s).control = s.control := by
  unfold recoverRequest
  simp only [State.control_mk, State.control_fold, apply_ite State.control, ite_self, recoverLook_control]

theorem recoverResponse_control (msg : Bytes) (s : State) : (recoverResponse msg s).control = s.control := by
  unfold recoverResponse
  repeat' first
    | with_reducible rfl
    | (simp only [State.control_mk, State.control_fold, apply_ite State.control, ite_self, peerAnswer_control, auditAnswer_control, recoverFail_control]; done)
    | split
    | dsimp only

theorem recoverTimeout_control (s : State) : (recoverTimeout s).control = s.control := by
  unfold recoverTimeout
  simp only [failRecoveries_control]

theorem tethOff_control (s : State) : (tethOff s).control = s.control := by
  unfold tethOff
  simp only [State.control_mk, State.control_fold, apply_ite State.control, ite_self, cause_control, setPairState_control]

/-! ### VaultCtl -/

theorem forceRefresh_control (c n : Nat) (s : State) : (forceRefresh c n s).control = s.control := by
  unfold forceRefresh
  simp only [State.control_foldl, implies_true, State.control_mk, State.control_fold, apply_ite State.control, ite_self, bumpN_control, perfN_control]

theorem refreshAccrual_control (c cs set : Nat) (s : State) : (refreshAccrual c cs set s).control = s.control := by
  unfold refreshAccrual
  simp only [State.control_mk, State.control_fold, apply_ite State.control, ite_self, State.setChan_control, forceRefresh_control]

theorem refreshIssue_control (c cs set : Nat) (s : State) : (refreshIssue c cs set s).control = s.control := by
  unfold refreshIssue
  simp only [State.control_mk, State.control_fold, apply_ite State.control, ite_self, State.setChan_control]

theorem payHot_control (c : Nat) (s : State) : (payHot c s).control = s.control := by
  unfold payHot
  simp only [State.setChan_control, forceRefresh_control]

theorem noteTherm_control (c : Nat) (hot fail : Bool) (t : Int) (s : State) : (noteTherm c hot fail t s).control = s.control := by
  unfold noteTherm
  simp only [emit_control]

theorem sensorFailed_control (c : Nat) (s : State) : (sensorFailed c s).control = s.control := by
  unfold sensorFailed
  simp only [State.control_mk, State.control_fold, apply_ite State.control, ite_self, State.setChan_control, setField_control, cause_control, payHot_control, noteTherm_control]

theorem sensorRead_control (c : Nat) (t : Int) (s : State) : (sensorRead c t s).control = s.control := by
  unfold sensorRead
  simp only [State.control_mk, State.control_fold, apply_ite State.control, ite_self, State.setChan_control, regStore_control, cause_control, payHot_control, noteTherm_control]

theorem dimmTemp_control (c : Nat) (temps : List Int) (s : State) : (dimmTemp c temps s).control = s.control := by
  unfold dimmTemp
  repeat' first
    | with_reducible rfl
    | (simp only [State.control_mk, State.control_fold, apply_ite State.control, ite_self, State.setChan_control, sensorFailed_control, sensorRead_control]; done)
    | split
    | dsimp only

theorem noteSr_control (c what : Nat) (s : State) : (noteSr c what s).control = s.control := by
  unfold noteSr
  simp only [emit_control]

theorem srBegin_control (why : SrCause) (c : Nat) (s : State) : (srBegin why c s).control = s.control := by
  unfold srBegin
  simp only [State.control_foldl, implies_true, State.control_mk, State.control_fold, apply_ite State.control, ite_self, State.modChan_control, closeMerge_control]

theorem srBeginAll_control (s : State) : (srBeginAll s).control = s.control := by
  unfold srBeginAll
  repeat' first
    | with_reducible rfl
    | (simp only [State.control_foldl, implies_true, State.control_mk, State.control_fold, apply_ite State.control, apply_ite Prod.snd, ite_self, srBegin_control]; done)
    | split
    | dsimp only

theorem srEndAll_control (s : State) : (srEndAll s).control = s.control := by
  unfold srEndAll
  simp only [State.control_foldl, implies_true, State.control_mk, State.control_fold, apply_ite State.control, ite_self, State.modChan_control]

theorem srEntered_control (c : Nat) (s : State) : (srEntered c s).control = s.control := by
  unfold srEntered
  simp only [State.control_mk, State.control_fold, apply_ite State.control, ite_self, State.modChan_control, noteSr_control]

theorem srArrival_control (c : Nat) (issued : Bool) (s : State) : (srArrival c issued s).control = s.control := by
  unfold srArrival
  repeat' first
    | with_reducible rfl
    | (simp only [State.control_mk, State.control_fold, apply_ite State.control, ite_self, State.setChan_control, bump_control, noteSr_control]; done)
    | split
    | dsimp only

theorem srExitDone_control (c : Nat) (s : State) : (srExitDone c s).control = s.control := by
  unfold srExitDone
  simp only [State.control_mk, State.control_fold, apply_ite State.control, ite_self, State.modChan_control, noteSr_control]

theorem srRetry_control (c : Nat) (s : State) : (srRetry c s).control = s.control := by
  unfold srRetry
  repeat' first
    | with_reducible rfl
    | (simp only [State.control_mk, State.control_fold, apply_ite State.control, ite_self, srBegin_control]; done)
    | split
    | dsimp only

theorem noteTrainFail_control (rank step : Nat) (s : State) : (noteTrainFail rank step s).control = s.control := by
  unfold noteTrainFail
  simp only [regStore_control, cause_control, emit_control]

theorem zqCalibration_control (rank : Nat) (zqOk dqsOk : Bool) (s : State) : (zqCalibration rank zqOk dqsOk s).control = s.control := by
  unfold zqCalibration
  simp only [State.control_mk, State.control_fold, apply_ite State.control, ite_self, State.setChan_control, State.modChan_control, rankLasting_control, noteTrainFail_control]

theorem freeRecord_control (n : Nat) (r : Rec) (s : State) : (freeRecord n r s).2.control = s.control := by
  induction n generalizing r s with
  | zero => rfl
  | succ n ih => rw [freeRecord]; simp only [ih, takeFree_control]

theorem noteCaParity_control (rank : Nat) (unlisted : Bool) (a : Nat) (s : State) : (noteCaParity rank unlisted a s).control = s.control := by
  unfold noteCaParity
  simp only [emit_control]

theorem failedWrite_control (rank a : Nat) (s : State) : (failedWrite rank a s).control = s.control := by
  unfold failedWrite
  repeat' first
    | with_reducible rfl
    | (simp only [State.control_foldl, implies_true, State.control_mk, State.control_fold, apply_ite State.control, apply_ite Prod.snd, ite_self, State.modChan_control, cause_control, occStep_control, freeRecord_control, noteCaParity_control]; done)
    | split
    | dsimp only

theorem failedOp_control (t : Nat) (m : MemOp) (s : State) : (failedOp t m s).control = s.control := by
  unfold failedOp
  simp only [State.control_foldl, implies_true, State.control_mk, State.control_fold, apply_ite State.control, ite_self, modMem_control, finishOp_control]

theorem failedRead_control (a : Nat) (s : State) : (failedRead a s).control = s.control := by
  unfold failedRead
  dsimp only
  have h : ∀ l : List (Nat × Teller), ∀ u : State, (l.foldl (fun s p =>
      (p.2.mem.filter (readsRecord s.vault a)).foldl (fun s m => failedOp p.1 m s) s) u).control = u.control := fun l u =>
    State.control_foldl _ (fun u p => State.control_foldl _ (fun v m => failedOp_control ..) _ _) _ _
  split
  · rw [State.control_foldl]
    · exact h ..
    · intro t e
      split
      · simp only [apply_ite State.control, candidateRead_control, ite_self]
      · rfl
  · exact h ..

theorem caParity_control (c rank : Nat) (ok : Bool) (reads writes : List Nat) (s : State) : (caParity c rank ok reads writes s).control = s.control := by
  unfold caParity
  simp only [State.control_foldl, implies_true, State.control_mk, State.control_fold, apply_ite State.control, ite_self, bump_control, cause_control, rankLasting_control, noteCaParity_control, failedWrite_control, failedRead_control]

theorem ceWindowEnd_control (c : Nat) (s : State) : (ceWindowEnd c s).control = s.control := by
  unfold ceWindowEnd
  simp only [State.control_mk, State.control_fold, apply_ite State.control, ite_self, State.setChan_control]

theorem spareCtrlWrite_control (v : Word32) (s : State) : (spareCtrlWrite v s).control = s.control := by
  unfold spareCtrlWrite
  simp only [State.control_mk, State.control_fold, apply_ite State.control, ite_self, regStore_control, candidate_control]

theorem spareSwitch_control (s : State) : (spareSwitch s).control = s.control := by
  unfold spareSwitch
  simp only [State.control_mk, State.control_fold, cause_control, stamp_control, emit_control]

theorem migrationRead_control (found : AuditFound) (s : State) : (migrationRead found s).2.control = s.control := by
  unfold migrationRead
  repeat' first
    | with_reducible rfl
    | (simp only [State.control_foldl, implies_true, State.control_mk, State.control_fold, apply_ite State.control, apply_ite Prod.snd, ite_self, bump_control, chanRead_control, noteLasting_control, noteTransient_control, countFix_control, settleMerge_control]; done)
    | split
    | dsimp only

theorem migrationRead_control' {found : AuditFound} {s : State} {x' : _} {r' : State} (h' : migrationRead found s = (x', r')) : r'.control = s.control := by
  have k' := migrationRead_control found s
  rw [h'] at k'
  exact k'

theorem migrateRecord_control (found : AuditFound) (s : State) : (migrateRecord found s).control = s.control := by
  unfold migrateRecord
  simp only [State.control_foldl, implies_true, State.control_mk, State.control_fold, apply_ite State.control, ite_self, State.modChan_control, chanWrite_control, migrationRead_control]

theorem migrationCopy_control (found : AuditFound) (s : State) : (migrationCopy found s).control = s.control := by
  unfold migrationCopy
  simp only [State.control_mk, State.control_fold, apply_ite State.control, ite_self, spareSwitch_control, migrateRecord_control]

theorem notePiece_control (r : Nat) (s : State) : (notePiece r s).control = s.control := by
  unfold notePiece
  simp only [State.modChan_control]

theorem windowPiece_control (a r : Nat) (s : State) : (windowPiece a r s).2.2.control = s.control := by
  unfold windowPiece
  dsimp only
  split <;> simp only [emit_control, cause_control, setPair_control, bump_control, freeRecord_control, readRecord_control, notePiece_control]

theorem windowPiece_control' {a : Nat} {r : Nat} {s : State} {x' : _} {y' : _} {r' : State} (h' : windowPiece a r s = (x', y', r')) : r'.control = s.control := by
  have k' := windowPiece_control a r s
  rw [h'] at k'
  exact k'

theorem windowRead_control (a len : Nat) (s : State) : (windowRead a len s).control = s.control := by
  unfold windowRead
  have hx := State.control_foldl3 (fun (x : Bytes × Bool × State) r =>
    (x.1 ++ (windowPiece a r x.2.2).1, x.2.1 || (windowPiece a r x.2.2).2.1, (windowPiece a r x.2.2).2.2))
    (fun x r => by simp only [windowPiece_control]) (recordsOf a len) ([], false, s)
  dsimp only at hx ⊢
  generalize List.foldl (fun (x : Bytes × Bool × State) r =>
    (x.1 ++ (windowPiece a r x.2.2).1, x.2.1 || (windowPiece a r x.2.2).2.1, (windowPiece a r x.2.2).2.2)) ([], false, s) (recordsOf a len) = x at hx ⊢
  obtain ⟨x1, x2, u⟩ := x
  dsimp only at hx ⊢
  split
  · simp only [State.control_mk, State.control_fold]
    rw [complete_control, hx]
  · rw [complete_control, hx]

theorem hostPiece_control (a : Nat) (data : Bytes) (be : List Bool) (r : Nat) (s : State) : (hostPiece a data be r s).control = s.control := by
  unfold hostPiece
  simp only [State.control_mk, State.control_fold, apply_ite State.control, ite_self, countWrite_control, storeRecord_control, partialWrite_control, notePiece_control]

theorem windowWrite_control (a : Nat) (data : Bytes) (be : List Bool) (s : State) : (windowWrite a data be s).control = s.control := by
  unfold windowWrite
  simp only [State.control_foldl, implies_true, State.control_mk, State.control_fold, apply_ite State.control, ite_self, bump_control, cause_control, emit_control, complete_control, hostPiece_control]

theorem windowAct_control (q : WinReq) (s : State) : (windowAct q s).control = s.control := by
  unfold windowAct
  repeat' first
    | with_reducible rfl
    | (simp only [State.control_foldl, implies_true, State.control_mk, State.control_fold, apply_ite State.control, apply_ite Prod.snd, ite_self, windowRead_control, windowWrite_control]; done)
    | split
    | dsimp only

theorem windowHold_control (q : WinReq) (s : State) : (windowHold q s).control = s.control := by
  unfold windowHold
  simp only [State.control_foldl, implies_true, State.control_mk, State.control_fold, apply_ite State.control, ite_self, srArrival_control]

theorem windowAccess_control (off : Nat) (q : WinReq) (s : State) : (windowAccess off q s).control = s.control := by
  unfold windowAccess
  simp only [State.control_foldl, implies_true, State.control_mk, State.control_fold, apply_ite State.control, ite_self, unsupported_control, windowAct_control, windowHold_control]

/-! ### Treasury -/

theorem paceUpdate_control (b descs steps : Nat) (s : State) : (paceUpdate b descs steps s).control = s.control := by
  unfold paceUpdate
  simp only [State.control_mk, State.control_fold, apply_ite State.control, ite_self, regStore_control, bump_control, cause_control, emit_control]

theorem paceOff_control (b : Nat) (s : State) : (paceOff b s).control = s.control := by
  unfold paceOff
  simp only [State.control_foldl, implies_true, State.control_mk, State.control_fold, apply_ite State.control, ite_self, regStore_control, emit_control]

theorem setPstate_control (p : PState) (s : State) : (setPstate p s).control = s.control := by
  unfold setPstate
  simp only [State.control_mk, State.control_fold, apply_ite State.control, ite_self, emit_control]

theorem settlePstate_control (s : State) : (settlePstate s).control = s.control := by
  unfold settlePstate
  simp only [State.control_mk, State.control_fold, apply_ite State.control, ite_self, setPstate_control]

theorem setDomain_control (d : Nat) (x : DomState) (s : State) : (setDomain d x s).control = s.control := by
  unfold setDomain
  simp only [State.control_mk, State.control_fold, apply_ite State.control, ite_self, State.setDom_control, emit_control, settlePstate_control]

theorem domainDown_control (d : Nat) (x : DomState) (s : State) : (domainDown d x s).control = s.control := by
  unfold domainDown
  simp only [State.control_mk, State.control_fold, apply_ite State.control, ite_self, State.modLedger_control, writeBackAll_control, returnAllowance_control, cofferClear_control, octetStop_control, tethOff_control, paceOff_control, noseOff_control, setDomain_control]

theorem acceptDomain_control (st : Nat) (ds : List Nat) (s : State) : (acceptDomain st ds s).control = s.control := by
  unfold acceptDomain
  simp only [State.control_mk, State.control_fold, apply_ite State.control, ite_self]

theorem domainReqWrite_control (v : Word32) (s : State) : (domainReqWrite v s).control = s.control := by
  unfold domainReqWrite
  simp only [State.control_mk, State.control_fold, apply_ite State.control, ite_self, cause_control, plainWrite_control, acceptDomain_control]

theorem rampStart_control (d : Nat) (s : State) : (rampStart d s).control = s.control := by
  unfold rampStart
  repeat' first
    | with_reducible rfl
    | (simp only [State.control_mk, State.control_fold, apply_ite State.control, ite_self, setDomain_control]; done)
    | split
    | dsimp only

theorem powerDown_control (d : Nat) (s : State) : (powerDown d s).control = s.control := by
  unfold powerDown
  split <;> simp only [State.control_mk, State.control_fold, domainDown_control]

theorem setVout_control (mv : Nat) (s : State) : (setVout mv s).control = s.control := by
  unfold setVout
  simp only [State.control_mk, State.control_fold, apply_ite State.control, ite_self, setField_control, bump_control, emit_control]

theorem avsStep_control (s : State) : (avsStep s).control = s.control := by
  unfold avsStep
  repeat' first
    | with_reducible rfl
    | (simp only [State.control_mk, State.control_fold, apply_ite State.control, ite_self, cause_control, setVout_control]; done)
    | split
    | dsimp only

theorem avsUpdate_control (iout : Nat) (ok : Bool) (s : State) : (avsUpdate iout ok s).control = s.control := by
  unfold avsUpdate
  simp only [State.control_mk, State.control_fold, apply_ite State.control, ite_self, setField_control, cause_control, avsStep_control]

theorem avsCfgWrite_control (v : Word32) (s : State) : (avsCfgWrite v s).control = s.control := by
  unfold avsCfgWrite
  simp only [State.control_mk, State.control_fold, apply_ite State.control, ite_self, plainWrite_control]

theorem quietSteps_control (s : State) : (quietSteps s).control = s.control := by
  unfold quietSteps
  simp only [State.control_foldl, implies_true, State.control_mk, State.control_fold, apply_ite State.control, ite_self, srBeginAll_control, setPstate_control, domainDown_control, setVout_control]

theorem quietComplete_control (s : State) : (quietComplete s).control = s.control := by
  unfold quietComplete
  repeat' first
    | with_reducible rfl
    | (simp only [State.control_mk, State.control_fold, apply_ite State.control, ite_self, quietSteps_control]; done)
    | split
    | dsimp only

theorem quietStall_control (s : State) : (quietStall s).control = s.control := by
  unfold quietStall
  repeat' first
    | with_reducible rfl
    | (simp only [State.control_mk, State.control_fold, apply_ite State.control, ite_self, cause_control]; done)
    | split
    | dsimp only

theorem setBrown_control (x : Brown) (s : State) : (setBrown x s).control = s.control := by
  unfold setBrown
  simp only [State.control_mk, State.control_fold, bump_control, emit_control]

theorem brownWarn_control (s : State) : (brownWarn s).control = s.control := by
  unfold brownWarn
  simp only [State.control_foldl, implies_true, State.control_mk, State.control_fold, apply_ite State.control, ite_self, cause_control, brownoutFlush_control, revokeAll_control, noseStop_control, setBrown_control]

theorem pwrwarn_control (s : State) : (pwrwarn s).control = s.control := by
  unfold pwrwarn
  simp only [State.control_mk, State.control_fold, brownWarn_control]

theorem warnStands_control (s : State) : (warnStands s).control = s.control := by
  unfold warnStands
  simp only [State.control_foldl, implies_true, State.control_mk, State.control_fold, apply_ite State.control, ite_self, pwrwarn_control]

theorem measured_control (mv : Nat) (s : State) : (measured mv s).control = s.control := by
  unfold measured
  simp only [setField_control]

theorem vddWarn_control (mv : Nat) (s : State) : (vddWarn mv s).control = s.control := by
  unfold vddWarn
  simp only [State.control_mk, State.control_fold, apply_ite State.control, ite_self, brownWarn_control, measured_control]

theorem brownSr_control (s : State) : (brownSr s).control = s.control := by
  unfold brownSr
  repeat' first
    | with_reducible rfl
    | (simp only [State.control_mk, State.control_fold, apply_ite State.control, ite_self, srBeginAll_control, setBrown_control]; done)
    | split
    | dsimp only

theorem brownRecover_control (mv : Nat) (s : State) : (brownRecover mv s).control = s.control := by
  unfold brownRecover
  simp only [State.control_mk, State.control_fold, apply_ite State.control, ite_self, srEndAll_control, setBrown_control, measured_control]

theorem brownNormal_control (s : State) : (brownNormal s).control = s.control := by
  unfold brownNormal
  repeat' first
    | with_reducible rfl
    | (simp only [State.control_foldl, implies_true, State.control_mk, State.control_fold, apply_ite State.control, apply_ite Prod.snd, ite_self, noseResume_control, setBrown_control]; done)
    | split
    | dsimp only

theorem smbAnswer_control (cmd : Nat) (data : Bytes) (pec : Bool) (s : State) : (smbAnswer cmd data pec s).control = s.control := by
  unfold smbAnswer
  simp only [State.control_mk, State.control_fold, apply_ite State.control, ite_self]

/-! ### Sections -/

theorem stopTaps_control (eq : Option Bytes) (s : State) : (stopTaps eq s).control = s.control := by
  unfold stopTaps
  simp only [State.control_foldl, implies_true, State.control_mk, State.control_fold, apply_ite State.control, ite_self, portStop_control, tethBringUp_control]

theorem loadTaps_control (eq : Option Bytes) (s : State) : (loadTaps eq s).control = s.control := by
  unfold loadTaps
  simp only [State.control_foldl, implies_true, State.control_mk, State.control_fold, apply_ite State.control, ite_self, stopTaps_control]

/-! ### Security -/

theorem mbAnswer_control (cmd : Nat) (data : Bytes) (pec : Bool) (s : State) : (mbAnswer cmd data pec s).control = s.control := by
  unfold mbAnswer
  simp only [State.control_mk, State.control_fold, apply_ite State.control, ite_self, smbAnswer_control]

theorem jtagLoad_control (ir : Nat) (drive : Bool) (out : Nat) (s : State) : (jtagLoad ir drive out s).control = s.control := by
  rfl

theorem tap_control (trst : Bool) (f : State → State) (s : State) (h : ∀ s, (f s).control = s.control) : (tap trst f s).control = s.control := by
  unfold tap
  dsimp only
  split
  · exact (h _).trans rfl
  · exact (jtagLoad_control ..).trans rfl

theorem captured_control (n : Nat) (s : State) : (captured n s).2.control = s.control := by
  induction n generalizing s with
  | zero => rfl
  | succ n ih => rw [captured]; simp only [ih, takeFree_control]

theorem scanBits_control (ir : Nat) (drive : Bool) (bits : List Bool) (s : State) : (scanBits ir drive bits s).control = s.control := by
  unfold scanBits
  simp only [State.control_mk, State.control_fold, jtagLoad_control, captured_control]

/-! ### Boot -/

theorem discardFlight_control (s : State) : (discardFlight s).control = s.control := by
  rfl

theorem dropMissEntry_control (b : Nat) (s : State) : (dropMissEntry b s).control = s.control := by
  unfold dropMissEntry
  repeat' first
    | with_reducible rfl
    | (simp only [State.control_foldl, implies_true, State.control_mk, State.control_fold, apply_ite State.control, apply_ite Prod.snd, ite_self, State.modLedger_control, occStep_control]; done)
    | split
    | dsimp only

theorem dropMisses_control (s : State) : (dropMisses s).control = s.control := by
  unfold dropMisses
  simp only [State.control_foldl, implies_true, State.control_mk, State.control_fold, apply_ite State.control, ite_self, dropMissEntry_control]

theorem settleFlow_control (s : State) : (settleFlow s).control = s.control := by
  unfold settleFlow
  simp only [State.control_foldl, implies_true, State.control_mk, State.control_fold, apply_ite State.control, ite_self, fcUpdate_control]

theorem discardAll_control (s : State) : (discardAll s).control = s.control := by
  unfold discardAll
  simp only [State.control_foldl, implies_true, State.control_mk, State.control_fold, apply_ite State.control, ite_self, noteDrained_control, discardFlight_control, dropMisses_control, settleFlow_control]

theorem abortLock_control (b k : Nat) (s : State) : (abortLock b k s).control = s.control := by
  unfold abortLock
  repeat' first
    | with_reducible rfl
    | (simp only [State.control_mk, State.control_fold, apply_ite State.control, ite_self, bump_control, emit_control, writeBack_control, unlockWay_control]; done)
    | split
    | dsimp only

theorem clearTills_control (s : State) : (clearTills s).control = s.control := by
  unfold clearTills
  simp only [State.control_foldl, implies_true, State.control_mk, State.control_fold, apply_ite State.control, ite_self, State.modLedger_control, unclaim_control, writeBack_control]

theorem stagedBytes_control (h len : Nat) (s : State) : (stagedBytes h len s).2.control = s.control := by
  unfold stagedBytes
  dsimp only
  refine (State.control_foldl2 _ (fun x i => ?_) _ _).trans rfl
  dsimp only
  split <;> simp only [takeFree_control, cofferRoundOn_control]

theorem stagedBytes_control' {h len : Nat} {s : State} {x' : _} {r' : State} (h' : stagedBytes h len s = (x', r')) : r'.control = s.control := by
  have k' := stagedBytes_control h len s
  rw [h'] at k'
  exact k'

theorem dropLinks_control (s : State) : (dropLinks s).control = s.control := by
  unfold dropLinks
  simp only [State.control_foldl, implies_true, State.control_mk, State.control_fold, apply_ite State.control, ite_self, portStop_control, tethBringUp_control]

theorem spareAgain_control (s : State) : (spareAgain s).control = s.control := by
  unfold spareAgain
  simp only [State.control_mk, State.control_fold, apply_ite State.control, ite_self, emit_control]

/-! ### PcieLink -/

theorem loseRecord_control (n : Nat) (s : State) : (loseRecord n s).control = s.control := by
  unfold loseRecord
  simp only [State.control_mk, State.control_fold, apply_ite State.control, ite_self, spanDone_control]

/-! ### Bar0 -/

theorem clearRc_control (off : Nat) (s : State) : (clearRc off s).control = s.control := by
  unfold clearRc
  repeat' first
    | with_reducible rfl
    | (simp only [State.control_mk, State.control_fold, apply_ite State.control, ite_self, regStore_control]; done)
    | split
    | dsimp only

theorem readEffect_control (off : Nat) (s : State) : (readEffect off s).control = s.control := by
  unfold readEffect
  repeat' first
    | with_reducible rfl
    | (simp only [State.control_mk, State.control_fold, apply_ite State.control, ite_self, affNext_control, gclRead_control, clearRc_control]; done)
    | split
    | dsimp only

theorem registerRead_control (off size : Nat) (s : State) : (registerRead off size s).control = s.control := by
  unfold registerRead
  simp only [State.control_mk, State.control_fold, apply_ite State.control, ite_self, complete_control, unsupported_control, readEffect_control]

theorem userRead_control (off size : Nat) (s : State) : (userRead off size s).control = s.control := by
  unfold userRead
  simp only [complete_control]

theorem cfgRead_control (off : Nat) (s : State) : (cfgRead off s).control = s.control := by
  unfold cfgRead
  split <;> simp only [complete_control, takeFree_control]

/-! ### Run -/

theorem dropDomains_control (s : State) : (dropDomains s).control = s.control := by
  unfold dropDomains
  simp only [State.control_foldl, implies_true, State.control_mk, State.control_fold, apply_ite State.control, ite_self, settlePstate_control, domainDown_control]

theorem assignRest_control (s : State) : (assignRest s).control = s.control := by
  rfl

theorem perfRun_control (s : State) : (perfRun s).control = s.control := by
  unfold perfRun
  simp only [State.control_foldl, implies_true, State.control_mk, State.control_fold, apply_ite State.control, ite_self, regStore_control, clearCounters_control]

theorem tokensRun_control (s : State) : (tokensRun s).control = s.control := by
  unfold tokensRun
  simp only [State.control_foldl, implies_true, State.control_mk, State.control_fold, apply_ite State.control, ite_self, State.modLedger_control]

theorem freezeRun_control (s : State) : (freezeRun s).control = s.control := by
  unfold freezeRun
  simp only [State.control_foldl, implies_true, State.control_mk, State.control_fold, apply_ite State.control, ite_self, State.modSched_control]

/-! ### The commands -/

theorem execDmaFlushTimeout_control {n : Fin 32} {s : State} {s' : State} (h : execDmaFlushTimeout n s = .next s') : s'.control = s.control := by
  cases h
  simp only [State.control_mk, State.control_fold, apply_ite State.control, ite_self, freshOut_control, flushTimeout_control]

theorem execDmaRingEnable_control {n : Fin 32} {v : Word32} {s : State} {s' : State} (h : execDmaRingEnable n v s = .next s') : s'.control = s.control := by
  cases h
  simp only [State.control_mk, State.control_fold, apply_ite State.control, ite_self, freshOut_control, ringCfgWrite_control]

theorem execDmaRingDisable_control {n : Fin 32} {v : Word32} {s : State} {s' : State} (h : execDmaRingDisable n v s = .next s') : s'.control = s.control := by
  cases h
  simp only [State.control_mk, State.control_fold, apply_ite State.control, ite_self, freshOut_control, ringCfgWrite_control]

theorem execDmaTailWrite_control {n : Fin 32} {v : Word32} {s : State} {s' : State} (h : execDmaTailWrite n v s = .next s') : s'.control = s.control := by
  cases h
  simp only [State.control_mk, State.control_fold, apply_ite State.control, ite_self, tailWrite_control]

theorem execBatchDone_control {n : Fin 32} {s : State} {s' : State} (h : execBatchDone n s = .next s') : s'.control = s.control := by
  cases h
  simp only [State.control_mk, State.control_fold, apply_ite State.control, ite_self, freshOut_control, batchDone_control]

theorem execDmaDescFetch_control {n : Fin 32} {desc data : Option Bytes} {s : State} {s' : State} (h : execDmaDescFetch n desc data s = .next s') : s'.control = s.control := by
  cases h
  simp only [freshOut_control, descFetch_control]

theorem execTimeSnap_control {s : State} {s' : State} (h : execTimeSnap s = .next s') : s'.control = s.control := by
  cases h
  simp only [timeSnap_control]

theorem execTimeIncrWrite_control {half : Option Bool} {w : Word64} {s : State} {s' : State} (h : execTimeIncrWrite half w s = .next s') : s'.control = s.control := by
  cases h
  simp only [incrWrite_control]

theorem execTimeApply_control {v : Word32} {s : State} {s' : State} (h : execTimeApply v s = .next s') : s'.control = s.control := by
  cases h
  simp only [State.control_mk, State.control_fold, apply_ite State.control, ite_self, timeCtrlWrite_control]

theorem execFollowCheck_control {s : State} {s' : State} (h : execFollowCheck s = .next s') : s'.control = s.control := by
  cases h
  simp only [followCheck_control]

theorem execRefclkTimeLoss_control {s : State} {s' : State} (h : execRefclkTimeLoss s = .next s') : s'.control = s.control := by
  cases h
  simp only [refclkTime_control]

theorem execRefclkTimeReturn_control {s : State} {s' : State} (h : execRefclkTimeReturn s = .next s') : s'.control = s.control := by
  cases h
  simp only [refclkTime_control]

theorem execTrigArm_control {i : Fin 8} {v : Word32} {s : State} {s' : State} (h : execTrigArm i v s = .next s') : s'.control = s.control := by
  cases h
  simp only [State.control_mk, State.control_fold, apply_ite State.control, ite_self, trigCtrlWrite_control]

theorem execTrigDisarm_control {i : Fin 8} {v : Word32} {s : State} {s' : State} (h : execTrigDisarm i v s = .next s') : s'.control = s.control := by
  cases h
  simp only [State.control_mk, State.control_fold, apply_ite State.control, ite_self, trigCtrlWrite_control]

theorem execTrigEdge_control {i : Fin 8} {s : State} {s' : State} (h : execTrigEdge i s = .next s') : s'.control = s.control := by
  cases h
  simp only [trigEdge_control]

theorem execTrigPulseEnd_control {i : Fin 8} {s : State} {s' : State} (h : execTrigPulseEnd i s = .next s') : s'.control = s.control := by
  cases h
  simp only [trigPulseEnd_control]

theorem execCaptureEdge_control {i : Fin 9} {rising : Bool} {s : State} {s' : State} (h : execCaptureEdge i rising s = .next s') : s'.control = s.control := by
  cases h
  simp only [captureEdge_control]

theorem execCapturePop_control {i : Fin 9} {s : State} {s' : State} (h : execCapturePop i s = .next s') : s'.control = s.control := by
  cases h
  simp only [capturePop_control]

theorem execPpsEdge_control {s : State} {s' : State} (h : execPpsEdge s = .next s') : s'.control = s.control := by
  cases h
  simp only [ppsEdge_control]

theorem execPpsPulseEnd_control {s : State} {s' : State} (h : execPpsPulseEnd s = .next s') : s'.control = s.control := by
  cases h
  simp only [ppsPulseEnd_control]

theorem execTs2Pop_control {s : State} {s' : State} (h : execTs2Pop s = .next s') : s'.control = s.control := by
  cases h
  simp only [ts2Pop_control]

theorem execSillageDeliver_control {s : State} {s' : State} (h : execSillageDeliver s = .next s') : s'.control = s.control := by
  cases h
  simp only [freshOut_control, sillDeliver_control]

theorem execDispSampleCfgWrite_control {v : Word32} {s : State} {s' : State} (h : execDispSampleCfgWrite v s = .next s') : s'.control = s.control := by
  unfold execDispSampleCfgWrite at h
  cases h
  simp only [State.control_mk, State.control_fold, apply_ite State.control, ite_self, implies_true, gated_control, dispCfgWrite_control]

theorem execPortWindowLatch_control {s : State} {s' : State} (h : execPortWindowLatch s = .next s') : s'.control = s.control := by
  cases h
  simp only [windowLatch_control]

theorem execPerfFreeze_control {v : Word32} {s : State} {s' : State} (h : execPerfFreeze v s = .next s') : s'.control = s.control := by
  unfold execPerfFreeze at h
  cases h
  simp only [State.control_mk, State.control_fold, apply_ite State.control, ite_self, implies_true, gated_control, freezeWrite_control]

theorem execPerfUnfreeze_control {v : Word32} {s : State} {s' : State} (h : execPerfUnfreeze v s = .next s') : s'.control = s.control := by
  unfold execPerfUnfreeze at h
  cases h
  simp only [State.control_mk, State.control_fold, apply_ite State.control, ite_self, implies_true, gated_control, freezeWrite_control]

theorem execPerfScheduledAct_control {s : State} {s' : State} (h : execPerfScheduledAct s = .next s') : s'.control = s.control := by
  cases h
  simp only [scheduledAct_control]

theorem execPerfClear_control {v : Word32} {s : State} {s' : State} (h : execPerfClear v s = .next s') : s'.control = s.control := by
  unfold execPerfClear at h
  cases h
  simp only [State.control_mk, State.control_fold, apply_ite State.control, ite_self, implies_true, gated_control, perfCtrlWrite_control]

theorem execPerfDump_control {s : State} {s' : State} (h : execPerfDump s = .next s') : s'.control = s.control := by
  cases h
  simp only [perfDump_control]

theorem execFcXoffRepeat_control {p : Fin 64} {c : Fin 9} {s : State} {s' : State} (h : execFcXoffRepeat p c s = .next s') : s'.control = s.control := by
  cases h
  simp only [xoffRepeat_control]

theorem execPauseExpiry_control {p : Fin 64} {c : Fin 8} {s : State} {s' : State} (h : execPauseExpiry p c s = .next s') : s'.control = s.control := by
  cases h
  simp only [pauseExpiry_control]

theorem execBatchWaitDrained_control {n : Fin 32} {s : State} {s' : State} (h : execBatchWaitDrained n s = .next s') : s'.control = s.control := by
  cases h
  simp only [State.control_mk, State.control_fold, apply_ite State.control, ite_self, freshOut_control, batchWait_control]

theorem execBatchWaitTimeout_control {n : Fin 32} {s : State} {s' : State} (h : execBatchWaitTimeout n s = .next s') : s'.control = s.control := by
  cases h
  simp only [State.control_mk, State.control_fold, apply_ite State.control, ite_self, freshOut_control, batchTimeout_control]

theorem execMergeWindowExpiry_control {c : Fin 8} {record : Nat} {s : State} {s' : State} (h : execMergeWindowExpiry c record s = .next s') : s'.control = s.control := by
  cases h
  simp only [mergeExpiry_control]

theorem execVaultRequestDone_control {record : Nat} {user : VaultAccess} {noise retryNoise : Bytes} {s : State} {s' : State} (h : execVaultRequestDone record user noise retryNoise s = .next s') : s'.control = s.control := by
  cases h
  simp only [State.control_mk, State.control_fold, apply_ite State.control, ite_self, vaultRequestDone_control]

theorem execLockAlarm_control {b : Fin 4} {way : Nat} {s : State} {s' : State} (h : execLockAlarm b way s = .next s') : s'.control = s.control := by
  cases h
  simp only [lockAlarm_control]

theorem execDurableDirtyExpiry_control {b : Fin 4} {way : Nat} {s : State} {s' : State} (h : execDurableDirtyExpiry b way s = .next s') : s'.control = s.control := by
  cases h
  simp only [durableExpiry_control]

theorem execTillFlushStart_control {b : Fin 4} {v : Word32} {s : State} {s' : State} (h : execTillFlushStart b v s = .next s') : s'.control = s.control := by
  unfold execTillFlushStart at h
  cases h
  simp only [State.control_mk, State.control_fold, apply_ite State.control, ite_self, implies_true, gated_control, flushStart_control]

theorem execTillFlushDone_control {b : Fin 4} {s : State} {s' : State} (h : execTillFlushDone b s = .next s') : s'.control = s.control := by
  cases h
  simp only [flushDone_control]

theorem execOccLimitWrite_control {v : Word32} {s : State} {s' : State} (h : execOccLimitWrite v s = .next s') : s'.control = s.control := by
  unfold execOccLimitWrite at h
  cases h
  simp only [State.control_mk, State.control_fold, apply_ite State.control, ite_self, implies_true, gated_control, occLimitWrite_control]

theorem execSetupBurstWrite_control {b : Fin 4} {v : Word32} {s : State} {s' : State} (h : execSetupBurstWrite b v s = .next s') : s'.control = s.control := by
  unfold execSetupBurstWrite at h
  cases h
  simp only [State.control_mk, State.control_fold, apply_ite State.control, ite_self, implies_true, gated_control, setupBurstWrite_control]

theorem execAllowanceGrant_control {s : State} {s' : State} (h : execAllowanceGrant s = .next s') : s'.control = s.control := by
  cases h
  simp only [grantHead_control]

theorem execSlewStep_control {s : State} {s' : State} (h : execSlewStep s = .next s') : s'.control = s.control := by
  cases h
  simp only [slewStep_control]

theorem execCofferRound_control {flips : List WordFlips} {s : State} {s' : State} (h : execCofferRound flips s = .next s') : s'.control = s.control := by
  cases h
  simp only [cofferRound_control]

theorem execCofferHostRead_control {off len : Nat} {flips : List WordFlips} {s : State} {s' : State} (h : execCofferHostRead off len flips s = .next s') : s'.control = s.control := by
  cases h
  simp only [cofferHostRead_control]

theorem execTillProbe_control {b : Fin 4} {flips : List WordFlips} {s : State} {s' : State} (h : execTillProbe b flips s = .next s') : s'.control = s.control := by
  cases h
  simp only [probeRead_control, tillProbe_control]

theorem execCandidateReadDone_control {b : Fin 4} {entry : Nat} {s : State} {s' : State} (h : execCandidateReadDone b entry s = .next s') : s'.control = s.control := by
  cases h
  simp only [candidateDone_control]

theorem execFillRetry_control {b : Fin 4} {entry : Nat} {s : State} {s' : State} (h : execFillRetry b entry s = .next s') : s'.control = s.control := by
  cases h
  simp only [fillRetry_control]

theorem execMissTimeout_control {b : Fin 4} {entry frame : Nat} {s : State} {s' : State} (h : execMissTimeout b entry frame s = .next s') : s'.control = s.control := by
  cases h
  simp only [missTimeout_control]

theorem execTillLookup_control {b : Fin 4} {s : State} {s' : State} (h : execTillLookup b s = .next s') : s'.control = s.control := by
  unfold execTillLookup at h
  cases h
  simp only [State.control_mk, State.control_fold, apply_ite State.control, ite_self, implies_true, gated_control, hostCommand_control]

theorem execTillWrite_control {b : Fin 4} {wmask : BitVec 16} {s : State} {s' : State} (h : execTillWrite b wmask s = .next s') : s'.control = s.control := by
  unfold execTillWrite at h
  cases h
  simp only [State.control_mk, State.control_fold, apply_ite State.control, ite_self, implies_true, gated_control, hostCommand_control]

theorem execTillCreate_control {b : Fin 4} {s : State} {s' : State} (h : execTillCreate b s = .next s') : s'.control = s.control := by
  unfold execTillCreate at h
  cases h
  simp only [State.control_mk, State.control_fold, apply_ite State.control, ite_self, implies_true, gated_control, hostCommand_control]

theorem execTillDelete_control {b : Fin 4} {s : State} {s' : State} (h : execTillDelete b s = .next s') : s'.control = s.control := by
  unfold execTillDelete at h
  cases h
  simp only [State.control_mk, State.control_fold, apply_ite State.control, ite_self, implies_true, gated_control, hostCommand_control]

theorem execTillFlush_control {b : Fin 4} {s : State} {s' : State} (h : execTillFlush b s = .next s') : s'.control = s.control := by
  unfold execTillFlush at h
  cases h
  simp only [State.control_mk, State.control_fold, apply_ite State.control, ite_self, implies_true, gated_control, hostCommand_control]

theorem execTillReadSlot_control {b : Fin 4} {s : State} {s' : State} (h : execTillReadSlot b s = .next s') : s'.control = s.control := by
  unfold execTillReadSlot at h
  cases h
  simp only [State.control_mk, State.control_fold, apply_ite State.control, ite_self, implies_true, gated_control, hostCommand_control]

theorem execHreqDone_control {b : Fin 4} {s : State} {s' : State} (h : execHreqDone b s = .next s') : s'.control = s.control := by
  cases h
  simp only [hreqDone_control]

theorem execDispatchDecision_control {b : Fin 4} {s : State} {s' : State} (h : execDispatchDecision b s = .next s') : s'.control = s.control := by
  cases h
  simp only [dispatchDecision_control]

theorem execAffWaitExpiry_control {b : Fin 4} {item : Nat} {s : State} {s' : State} (h : execAffWaitExpiry b item s = .next s') : s'.control = s.control := by
  cases h
  simp only [waitExpiry_control]

theorem execPreemptWaitExpiry_control {b : Fin 4} {item : Nat} {s : State} {s' : State} (h : execPreemptWaitExpiry b item s = .next s') : s'.control = s.control := by
  cases h
  simp only [waitExpiry_control]

theorem execDispStallInterval_control {b : Fin 4} {s : State} {s' : State} (h : execDispStallInterval b s = .next s') : s'.control = s.control := by
  cases h
  simp only [stallInterval_control]

theorem execHostItemPost_control {b : Fin 4} {s : State} {s' : State} (h : execHostItemPost b s = .next s') : s'.control = s.control := by
  unfold execHostItemPost at h
  cases h
  simp only [State.control_mk, State.control_fold, apply_ite State.control, ite_self, implies_true, gated_control, hostPost_control]

theorem execSweepOffer_control {b : Fin 4} {s : State} {s' : State} (h : execSweepOffer b s = .next s') : s'.control = s.control := by
  cases h
  simp only [sweepOffer_control]

theorem execAffDataAccess_control {b : Fin 4} {w : Option Word32} {s : State} {s' : State} (h : execAffDataAccess b w s = .next s') : s'.control = s.control := by
  cases h
  simp only [affAccess_control]

theorem execNoseReportRetry_control {b : Fin 4} {s : State} {s' : State} (h : execNoseReportRetry b s = .next s') : s'.control = s.control := by
  cases h
  simp only [reportRetry_control]

theorem execNoseBurstReturn_control {b : Fin 4} {s : State} {s' : State} (h : execNoseBurstReturn b s = .next s') : s'.control = s.control := by
  cases h
  simp only [noseBurstReturn_control]

theorem execNoseRequestStart_control {b : Fin 4} {s : State} {s' : State} (h : execNoseRequestStart b s = .next s') : s'.control = s.control := by
  cases h
  simp only [noseStart_control]

theorem execNoseScanDone_control {b : Fin 4} {mem : EccResult} {at_ : Nat} {s : State} {s' : State} (h : execNoseScanDone b mem at_ s = .next s') : s'.control = s.control := by
  cases h
  simp only [noseDone_control]

theorem execAuditLapAlarm_control {m : Fin 6} {s : State} {s' : State} (h : execAuditLapAlarm m s = .next s') : s'.control = s.control := by
  cases h
  simp only [lapAlarm_control]

theorem execAuditVisit_control {m : Fin 6} {c : Fin 8} {found : AuditFound} {flips : List WordFlips} {s : State} {s' : State} (h : execAuditVisit m c found flips s = .next s') : s'.control = s.control := by
  cases h
  simp only [auditVisit_control]

theorem execMemReply_control {t : Fin 128} {op : Nat} {s : State} {s' : State} (h : execMemReply t op s = .next s') : s'.control = s.control := by
  cases h
  simp only [memReply_control]

theorem execMicroTrap_control {t : Fin 128} {s : State} {s' : State} (h : execMicroTrap t s = .next s') : s'.control = s.control := by
  cases h
  simp only [microTrap_control]

theorem execLockWaitTimeout_control {t : Fin 128} {s : State} {s' : State} (h : execLockWaitTimeout t s = .next s') : s'.control = s.control := by
  cases h
  simp only [lockWaitTimeout_control]

theorem execTctrlStop_control {t : Fin 128} {s : State} {s' : State} (h : execTctrlStop t s = .next s') : s'.control = s.control := by
  unfold execTctrlStop at h
  cases h
  simp only [State.control_mk, State.control_fold, apply_ite State.control, ite_self, implies_true, gated_control, tellerStop_control]

theorem execTctrlCont_control {t : Fin 128} {s : State} {s' : State} (h : execTctrlCont t s = .next s') : s'.control = s.control := by
  unfold execTctrlCont at h
  cases h
  simp only [State.control_mk, State.control_fold, apply_ite State.control, ite_self, implies_true, gated_control, tellerCont_control]

theorem execCsScrub_control {d : Fin 16} {addr : BitVec 14} {e : EccResult} {s : State} {s' : State} (h : execCsScrub d addr e s = .next s') : s'.control = s.control := by
  cases h
  simp only [csScrub_control]

theorem execCsRead_control {d : Fin 16} {addr : BitVec 14} {s : State} {s' : State} (h : execCsRead d addr s = .next s') : s'.control = s.control := by
  unfold execCsRead at h
  cases h
  simp only [State.control_mk, State.control_fold, apply_ite State.control, ite_self, implies_true, gated_control, csRead_control]

theorem execCsReadDone_control {d : Fin 16} {e : EccResult} {s : State} {s' : State} (h : execCsReadDone d e s = .next s') : s'.control = s.control := by
  cases h
  simp only [csReadDone_control]

theorem execMwFence_control {t : Fin 128} {e : EccResult} {s : State} {s' : State} (h : execMwFence t e s = .next s') : s'.control = s.control := by
  cases h
  simp only [wordRow_control]

theorem execMwHold_control {t : Fin 128} {e : EccResult} {s : State} {s' : State} (h : execMwHold t e s = .next s') : s'.control = s.control := by
  cases h
  simp only [wordRow_control]

theorem execSeqNext_control {t : Fin 128} {e : EccResult} {s : State} {s' : State} (h : execSeqNext t e s = .next s') : s'.control = s.control := by
  cases h
  simp only [wordRow_control]

theorem execSeqJump_control {t : Fin 128} {e : EccResult} {s : State} {s' : State} (h : execSeqJump t e s = .next s') : s'.control = s.control := by
  cases h
  simp only [wordRow_control]

theorem execSeqBrt_control {t : Fin 128} {e : EccResult} {s : State} {s' : State} (h : execSeqBrt t e s = .next s') : s'.control = s.control := by
  cases h
  simp only [wordRow_control]

theorem execSeqBrf_control {t : Fin 128} {e : EccResult} {s : State} {s' : State} (h : execSeqBrf t e s = .next s') : s'.control = s.control := by
  cases h
  simp only [wordRow_control]

theorem execSeqCall_control {t : Fin 128} {e : EccResult} {s : State} {s' : State} (h : execSeqCall t e s = .next s') : s'.control = s.control := by
  cases h
  simp only [wordRow_control]

theorem execSeqCallt_control {t : Fin 128} {e : EccResult} {s : State} {s' : State} (h : execSeqCallt t e s = .next s') : s'.control = s.control := by
  cases h
  simp only [wordRow_control]

theorem execSeqRet_control {t : Fin 128} {e : EccResult} {s : State} {s' : State} (h : execSeqRet t e s = .next s') : s'.control = s.control := by
  cases h
  simp only [wordRow_control]

theorem execSeqRett_control {t : Fin 128} {e : EccResult} {s : State} {s' : State} (h : execSeqRett t e s = .next s') : s'.control = s.control := by
  cases h
  simp only [wordRow_control]

theorem execSeqLoop_control {t : Fin 128} {e : EccResult} {s : State} {s' : State} (h : execSeqLoop t e s = .next s') : s'.control = s.control := by
  cases h
  simp only [wordRow_control]

theorem execSeqLdloop_control {t : Fin 128} {e : EccResult} {s : State} {s' : State} (h : execSeqLdloop t e s = .next s') : s'.control = s.control := by
  cases h
  simp only [wordRow_control]

theorem execSeqLdloopg_control {t : Fin 128} {e : EccResult} {s : State} {s' : State} (h : execSeqLdloopg t e s = .next s') : s'.control = s.control := by
  cases h
  simp only [wordRow_control]

theorem execSeqJtab_control {t : Fin 128} {e : EccResult} {s : State} {s' : State} (h : execSeqJtab t e s = .next s') : s'.control = s.control := by
  cases h
  simp only [wordRow_control]

theorem execSeqEnd_control {t : Fin 128} {e : EccResult} {s : State} {s' : State} (h : execSeqEnd t e s = .next s') : s'.control = s.control := by
  cases h
  simp only [wordRow_control]

theorem execSeqResume_control {t : Fin 128} {e : EccResult} {s : State} {s' : State} (h : execSeqResume t e s = .next s') : s'.control = s.control := by
  cases h
  simp only [wordRow_control]

theorem execSeqTrapv_control {t : Fin 128} {e : EccResult} {s : State} {s' : State} (h : execSeqTrapv t e s = .next s') : s'.control = s.control := by
  cases h
  simp only [wordRow_control]

theorem execSeqHalt_control {t : Fin 128} {e : EccResult} {s : State} {s' : State} (h : execSeqHalt t e s = .next s') : s'.control = s.control := by
  cases h
  simp only [wordRow_control]

theorem execAopAdd_control {t : Fin 128} {e : EccResult} {s : State} {s' : State} (h : execAopAdd t e s = .next s') : s'.control = s.control := by
  cases h
  simp only [wordRow_control]

theorem execAopSub_control {t : Fin 128} {e : EccResult} {s : State} {s' : State} (h : execAopSub t e s = .next s') : s'.control = s.control := by
  cases h
  simp only [wordRow_control]

theorem execAopAnd_control {t : Fin 128} {e : EccResult} {s : State} {s' : State} (h : execAopAnd t e s = .next s') : s'.control = s.control := by
  cases h
  simp only [wordRow_control]

theorem execAopOr_control {t : Fin 128} {e : EccResult} {s : State} {s' : State} (h : execAopOr t e s = .next s') : s'.control = s.control := by
  cases h
  simp only [wordRow_control]

theorem execAopXor_control {t : Fin 128} {e : EccResult} {s : State} {s' : State} (h : execAopXor t e s = .next s') : s'.control = s.control := by
  cases h
  simp only [wordRow_control]

theorem execAopAndn_control {t : Fin 128} {e : EccResult} {s : State} {s' : State} (h : execAopAndn t e s = .next s') : s'.control = s.control := by
  cases h
  simp only [wordRow_control]

theorem execAopMov_control {t : Fin 128} {e : EccResult} {s : State} {s' : State} (h : execAopMov t e s = .next s') : s'.control = s.control := by
  cases h
  simp only [wordRow_control]

theorem execAopShl_control {t : Fin 128} {e : EccResult} {s : State} {s' : State} (h : execAopShl t e s = .next s') : s'.control = s.control := by
  cases h
  simp only [wordRow_control]

theorem execAopShr_control {t : Fin 128} {e : EccResult} {s : State} {s' : State} (h : execAopShr t e s = .next s') : s'.control = s.control := by
  cases h
  simp only [wordRow_control]

theorem execAopSar_control {t : Fin 128} {e : EccResult} {s : State} {s' : State} (h : execAopSar t e s = .next s') : s'.control = s.control := by
  cases h
  simp only [wordRow_control]

theorem execAopRol_control {t : Fin 128} {e : EccResult} {s : State} {s' : State} (h : execAopRol t e s = .next s') : s'.control = s.control := by
  cases h
  simp only [wordRow_control]

theorem execAopRor_control {t : Fin 128} {e : EccResult} {s : State} {s' : State} (h : execAopRor t e s = .next s') : s'.control = s.control := by
  cases h
  simp only [wordRow_control]

theorem execAopMinu_control {t : Fin 128} {e : EccResult} {s : State} {s' : State} (h : execAopMinu t e s = .next s') : s'.control = s.control := by
  cases h
  simp only [wordRow_control]

theorem execAopMaxu_control {t : Fin 128} {e : EccResult} {s : State} {s' : State} (h : execAopMaxu t e s = .next s') : s'.control = s.control := by
  cases h
  simp only [wordRow_control]

theorem execAopMins_control {t : Fin 128} {e : EccResult} {s : State} {s' : State} (h : execAopMins t e s = .next s') : s'.control = s.control := by
  cases h
  simp only [wordRow_control]

theorem execAopMaxs_control {t : Fin 128} {e : EccResult} {s : State} {s' : State} (h : execAopMaxs t e s = .next s') : s'.control = s.control := by
  cases h
  simp only [wordRow_control]

theorem execAopCmp_control {t : Fin 128} {e : EccResult} {s : State} {s' : State} (h : execAopCmp t e s = .next s') : s'.control = s.control := by
  cases h
  simp only [wordRow_control]

theorem execAopTst_control {t : Fin 128} {e : EccResult} {s : State} {s' : State} (h : execAopTst t e s = .next s') : s'.control = s.control := by
  cases h
  simp only [wordRow_control]

theorem execAopMul_control {t : Fin 128} {e : EccResult} {s : State} {s' : State} (h : execAopMul t e s = .next s') : s'.control = s.control := by
  cases h
  simp only [wordRow_control]

theorem execAopMulhu_control {t : Fin 128} {e : EccResult} {s : State} {s' : State} (h : execAopMulhu t e s = .next s') : s'.control = s.control := by
  cases h
  simp only [wordRow_control]

theorem execAopAddsu_control {t : Fin 128} {e : EccResult} {s : State} {s' : State} (h : execAopAddsu t e s = .next s') : s'.control = s.control := by
  cases h
  simp only [wordRow_control]

theorem execAopSubsu_control {t : Fin 128} {e : EccResult} {s : State} {s' : State} (h : execAopSubsu t e s = .next s') : s'.control = s.control := by
  cases h
  simp only [wordRow_control]

theorem execAopExt_control {t : Fin 128} {e : EccResult} {s : State} {s' : State} (h : execAopExt t e s = .next s') : s'.control = s.control := by
  cases h
  simp only [wordRow_control]

theorem execAopIns_control {t : Fin 128} {e : EccResult} {s : State} {s' : State} (h : execAopIns t e s = .next s') : s'.control = s.control := by
  cases h
  simp only [wordRow_control]

theorem execAopPopc_control {t : Fin 128} {e : EccResult} {s : State} {s' : State} (h : execAopPopc t e s = .next s') : s'.control = s.control := by
  cases h
  simp only [wordRow_control]

theorem execAopClz_control {t : Fin 128} {e : EccResult} {s : State} {s' : State} (h : execAopClz t e s = .next s') : s'.control = s.control := by
  cases h
  simp only [wordRow_control]

theorem execAopCtz_control {t : Fin 128} {e : EccResult} {s : State} {s' : State} (h : execAopCtz t e s = .next s') : s'.control = s.control := by
  cases h
  simp only [wordRow_control]

theorem execAopBswap_control {t : Fin 128} {e : EccResult} {s : State} {s' : State} (h : execAopBswap t e s = .next s') : s'.control = s.control := by
  cases h
  simp only [wordRow_control]

theorem execAopSext_control {t : Fin 128} {e : EccResult} {s : State} {s' : State} (h : execAopSext t e s = .next s') : s'.control = s.control := by
  cases h
  simp only [wordRow_control]

theorem execAopZext_control {t : Fin 128} {e : EccResult} {s : State} {s' : State} (h : execAopZext t e s = .next s') : s'.control = s.control := by
  cases h
  simp only [wordRow_control]

theorem execAopSetc_control {t : Fin 128} {e : EccResult} {s : State} {s' : State} (h : execAopSetc t e s = .next s') : s'.control = s.control := by
  cases h
  simp only [wordRow_control]

theorem execBopMov_control {t : Fin 128} {e : EccResult} {s : State} {s' : State} (h : execBopMov t e s = .next s') : s'.control = s.control := by
  cases h
  simp only [wordRow_control]

theorem execBopAdd_control {t : Fin 128} {e : EccResult} {s : State} {s' : State} (h : execBopAdd t e s = .next s') : s'.control = s.control := by
  cases h
  simp only [wordRow_control]

theorem execBopSub_control {t : Fin 128} {e : EccResult} {s : State} {s' : State} (h : execBopSub t e s = .next s') : s'.control = s.control := by
  cases h
  simp only [wordRow_control]

theorem execBopAnd_control {t : Fin 128} {e : EccResult} {s : State} {s' : State} (h : execBopAnd t e s = .next s') : s'.control = s.control := by
  cases h
  simp only [wordRow_control]

theorem execBopOr_control {t : Fin 128} {e : EccResult} {s : State} {s' : State} (h : execBopOr t e s = .next s') : s'.control = s.control := by
  cases h
  simp only [wordRow_control]

theorem execBopXor_control {t : Fin 128} {e : EccResult} {s : State} {s' : State} (h : execBopXor t e s = .next s') : s'.control = s.control := by
  cases h
  simp only [wordRow_control]

theorem execBopShl_control {t : Fin 128} {e : EccResult} {s : State} {s' : State} (h : execBopShl t e s = .next s') : s'.control = s.control := by
  cases h
  simp only [wordRow_control]

theorem execBopShr_control {t : Fin 128} {e : EccResult} {s : State} {s' : State} (h : execBopShr t e s = .next s') : s'.control = s.control := by
  cases h
  simp only [wordRow_control]

theorem execBopInc_control {t : Fin 128} {e : EccResult} {s : State} {s' : State} (h : execBopInc t e s = .next s') : s'.control = s.control := by
  cases h
  simp only [wordRow_control]

theorem execBopDec_control {t : Fin 128} {e : EccResult} {s : State} {s' : State} (h : execBopDec t e s = .next s') : s'.control = s.control := by
  cases h
  simp only [wordRow_control]

theorem execBopNot_control {t : Fin 128} {e : EccResult} {s : State} {s' : State} (h : execBopNot t e s = .next s') : s'.control = s.control := by
  cases h
  simp only [wordRow_control]

theorem execBopZx8_control {t : Fin 128} {e : EccResult} {s : State} {s' : State} (h : execBopZx8 t e s = .next s') : s'.control = s.control := by
  cases h
  simp only [wordRow_control]

theorem execBopZx16_control {t : Fin 128} {e : EccResult} {s : State} {s' : State} (h : execBopZx16 t e s = .next s') : s'.control = s.control := by
  cases h
  simp only [wordRow_control]

theorem execBopZx32_control {t : Fin 128} {e : EccResult} {s : State} {s' : State} (h : execBopZx32 t e s = .next s') : s'.control = s.control := by
  cases h
  simp only [wordRow_control]

theorem execBopHi32_control {t : Fin 128} {e : EccResult} {s : State} {s' : State} (h : execBopHi32 t e s = .next s') : s'.control = s.control := by
  cases h
  simp only [wordRow_control]

theorem execBopLo32in_control {t : Fin 128} {e : EccResult} {s : State} {s' : State} (h : execBopLo32in t e s = .next s') : s'.control = s.control := by
  cases h
  simp only [wordRow_control]

theorem execBopHi32in_control {t : Fin 128} {e : EccResult} {s : State} {s' : State} (h : execBopHi32in t e s = .next s') : s'.control = s.control := by
  cases h
  simp only [wordRow_control]

theorem execFopLd_control {t : Fin 128} {e : EccResult} {s : State} {s' : State} (h : execFopLd t e s = .next s') : s'.control = s.control := by
  cases h
  simp only [wordRow_control]

theorem execFopSt_control {t : Fin 128} {e : EccResult} {s : State} {s' : State} (h : execFopSt t e s = .next s') : s'.control = s.control := by
  cases h
  simp only [wordRow_control]

theorem execFopAdd_control {t : Fin 128} {e : EccResult} {s : State} {s' : State} (h : execFopAdd t e s = .next s') : s'.control = s.control := by
  cases h
  simp only [wordRow_control]

theorem execFopOr_control {t : Fin 128} {e : EccResult} {s : State} {s' : State} (h : execFopOr t e s = .next s') : s'.control = s.control := by
  cases h
  simp only [wordRow_control]

theorem execFopAndn_control {t : Fin 128} {e : EccResult} {s : State} {s' : State} (h : execFopAndn t e s = .next s') : s'.control = s.control := by
  cases h
  simp only [wordRow_control]

theorem execFopStm_control {t : Fin 128} {e : EccResult} {s : State} {s' : State} (h : execFopStm t e s = .next s') : s'.control = s.control := by
  cases h
  simp only [wordRow_control]

theorem execFopSetstate_control {t : Fin 128} {e : EccResult} {s : State} {s' : State} (h : execFopSetstate t e s = .next s') : s'.control = s.control := by
  cases h
  simp only [wordRow_control]

theorem execFopOpen_control {t : Fin 128} {e : EccResult} {s : State} {s' : State} (h : execFopOpen t e s = .next s') : s'.control = s.control := by
  cases h
  simp only [wordRow_control]

theorem execFopRelwin_control {t : Fin 128} {e : EccResult} {s : State} {s' : State} (h : execFopRelwin t e s = .next s') : s'.control = s.control := by
  cases h
  simp only [wordRow_control]

theorem execFopFlush_control {t : Fin 128} {e : EccResult} {s : State} {s' : State} (h : execFopFlush t e s = .next s') : s'.control = s.control := by
  cases h
  simp only [wordRow_control]

theorem execMopLd_control {t : Fin 128} {e : EccResult} {s : State} {s' : State} (h : execMopLd t e s = .next s') : s'.control = s.control := by
  cases h
  simp only [wordRow_control]

theorem execMopLd2_control {t : Fin 128} {e : EccResult} {s : State} {s' : State} (h : execMopLd2 t e s = .next s') : s'.control = s.control := by
  cases h
  simp only [wordRow_control]

theorem execMopSt_control {t : Fin 128} {e : EccResult} {s : State} {s' : State} (h : execMopSt t e s = .next s') : s'.control = s.control := by
  cases h
  simp only [wordRow_control]

theorem execMopSt2_control {t : Fin 128} {e : EccResult} {s : State} {s' : State} (h : execMopSt2 t e s = .next s') : s'.control = s.control := by
  cases h
  simp only [wordRow_control]

theorem execMopFadd_control {t : Fin 128} {e : EccResult} {s : State} {s' : State} (h : execMopFadd t e s = .next s') : s'.control = s.control := by
  cases h
  simp only [wordRow_control]

theorem execMopSwap_control {t : Fin 128} {e : EccResult} {s : State} {s' : State} (h : execMopSwap t e s = .next s') : s'.control = s.control := by
  cases h
  simp only [wordRow_control]

theorem execMopCas_control {t : Fin 128} {e : EccResult} {s : State} {s' : State} (h : execMopCas t e s = .next s') : s'.control = s.control := by
  cases h
  simp only [wordRow_control]

theorem execMopLookup_control {t : Fin 128} {e : EccResult} {s : State} {s' : State} (h : execMopLookup t e s = .next s') : s'.control = s.control := by
  cases h
  simp only [wordRow_control]

theorem execMopGuard_control {t : Fin 128} {e : EccResult} {s : State} {s' : State} (h : execMopGuard t e s = .next s') : s'.control = s.control := by
  cases h
  simp only [wordRow_control]

theorem execMopFtwr_control {t : Fin 128} {e : EccResult} {s : State} {s' : State} (h : execMopFtwr t e s = .next s') : s'.control = s.control := by
  cases h
  simp only [wordRow_control]

theorem execMopUnguard_control {t : Fin 128} {e : EccResult} {s : State} {s' : State} (h : execMopUnguard t e s = .next s') : s'.control = s.control := by
  cases h
  simp only [wordRow_control]

theorem execMopSweep_control {t : Fin 128} {e : EccResult} {s : State} {s' : State} (h : execMopSweep t e s = .next s') : s'.control = s.control := by
  cases h
  simp only [wordRow_control]

theorem execHopFmix_control {t : Fin 128} {e : EccResult} {s : State} {s' : State} (h : execHopFmix t e s = .next s') : s'.control = s.control := by
  cases h
  simp only [wordRow_control]

theorem execHopFlow_control {t : Fin 128} {e : EccResult} {s : State} {s' : State} (h : execHopFlow t e s = .next s') : s'.control = s.control := by
  cases h
  simp only [wordRow_control]

theorem execHopCrc32c_control {t : Fin 128} {e : EccResult} {s : State} {s' : State} (h : execHopCrc32c t e s = .next s') : s'.control = s.control := by
  cases h
  simp only [wordRow_control]

theorem execHopRange_control {t : Fin 128} {e : EccResult} {s : State} {s' : State} (h : execHopRange t e s = .next s') : s'.control = s.control := by
  cases h
  simp only [wordRow_control]

theorem execHopCanda_control {t : Fin 128} {e : EccResult} {s : State} {s' : State} (h : execHopCanda t e s = .next s') : s'.control = s.control := by
  cases h
  simp only [wordRow_control]

theorem execHopCandb_control {t : Fin 128} {e : EccResult} {s : State} {s' : State} (h : execHopCandb t e s = .next s') : s'.control = s.control := by
  cases h
  simp only [wordRow_control]

theorem execQopLdpkt_control {t : Fin 128} {e : EccResult} {s : State} {s' : State} (h : execQopLdpkt t e s = .next s') : s'.control = s.control := by
  cases h
  simp only [wordRow_control]

theorem execQopLddesc_control {t : Fin 128} {e : EccResult} {s : State} {s' : State} (h : execQopLddesc t e s = .next s') : s'.control = s.control := by
  cases h
  simp only [wordRow_control]

theorem execQopSetact_control {t : Fin 128} {e : EccResult} {s : State} {s' : State} (h : execQopSetact t e s = .next s') : s'.control = s.control := by
  cases h
  simp only [wordRow_control]

theorem execQopParam_control {t : Fin 128} {e : EccResult} {s : State} {s' : State} (h : execQopParam t e s = .next s') : s'.control = s.control := by
  cases h
  simp only [wordRow_control]

theorem execQopRecirc_control {t : Fin 128} {e : EccResult} {s : State} {s' : State} (h : execQopRecirc t e s = .next s') : s'.control = s.control := by
  cases h
  simp only [wordRow_control]

theorem execQopPunt_control {t : Fin 128} {e : EccResult} {s : State} {s' : State} (h : execQopPunt t e s = .next s') : s'.control = s.control := by
  cases h
  simp only [wordRow_control]

theorem execQopMirror_control {t : Fin 128} {e : EccResult} {s : State} {s' : State} (h : execQopMirror t e s = .next s') : s'.control = s.control := by
  cases h
  simp only [wordRow_control]

theorem execQopDrop_control {t : Fin 128} {e : EccResult} {s : State} {s' : State} (h : execQopDrop t e s = .next s') : s'.control = s.control := by
  cases h
  simp only [wordRow_control]

theorem execQopPolice_control {t : Fin 128} {e : EccResult} {s : State} {s' : State} (h : execQopPolice t e s = .next s') : s'.control = s.control := by
  cases h
  simp only [wordRow_control]

theorem execQopScan_control {t : Fin 128} {e : EccResult} {s : State} {s' : State} (h : execQopScan t e s = .next s') : s'.control = s.control := by
  cases h
  simp only [wordRow_control]

theorem execQopNoseget_control {t : Fin 128} {e : EccResult} {s : State} {s' : State} (h : execQopNoseget t e s = .next s') : s'.control = s.control := by
  cases h
  simp only [wordRow_control]

theorem execQopRelease_control {t : Fin 128} {e : EccResult} {s : State} {s' : State} (h : execQopRelease t e s = .next s') : s'.control = s.control := by
  cases h
  simp only [wordRow_control]

theorem execCopInc_control {t : Fin 128} {e : EccResult} {s : State} {s' : State} (h : execCopInc t e s = .next s') : s'.control = s.control := by
  cases h
  simp only [wordRow_control]

theorem execCopAdd_control {t : Fin 128} {e : EccResult} {s : State} {s' : State} (h : execCopAdd t e s = .next s') : s'.control = s.control := by
  cases h
  simp only [wordRow_control]

theorem execCopRd_control {t : Fin 128} {e : EccResult} {s : State} {s' : State} (h : execCopRd t e s = .next s') : s'.control = s.control := by
  cases h
  simp only [wordRow_control]

theorem execCopRdclr_control {t : Fin 128} {e : EccResult} {s : State} {s' : State} (h : execCopRdclr t e s = .next s') : s'.control = s.control := by
  cases h
  simp only [wordRow_control]

theorem execCopPerf_control {t : Fin 128} {e : EccResult} {s : State} {s' : State} (h : execCopPerf t e s = .next s') : s'.control = s.control := by
  cases h
  simp only [wordRow_control]

theorem execCopTick_control {t : Fin 128} {e : EccResult} {s : State} {s' : State} (h : execCopTick t e s = .next s') : s'.control = s.control := by
  cases h
  simp only [wordRow_control]

theorem execTopNow_control {t : Fin 128} {e : EccResult} {s : State} {s' : State} (h : execTopNow t e s = .next s') : s'.control = s.control := by
  cases h
  simp only [wordRow_control]

theorem execTopArr_control {t : Fin 128} {e : EccResult} {s : State} {s' : State} (h : execTopArr t e s = .next s') : s'.control = s.control := by
  cases h
  simp only [wordRow_control]

theorem execTopElapsed_control {t : Fin 128} {e : EccResult} {s : State} {s' : State} (h : execTopElapsed t e s = .next s') : s'.control = s.control := by
  cases h
  simp only [wordRow_control]

theorem execTopLockt_control {t : Fin 128} {e : EccResult} {s : State} {s' : State} (h : execTopLockt t e s = .next s') : s'.control = s.control := by
  cases h
  simp only [wordRow_control]

theorem execTopSec_control {t : Fin 128} {e : EccResult} {s : State} {s' : State} (h : execTopSec t e s = .next s') : s'.control = s.control := by
  cases h
  simp only [wordRow_control]

theorem execTopNsfrac_control {t : Fin 128} {e : EccResult} {s : State} {s' : State} (h : execTopNsfrac t e s = .next s') : s'.control = s.control := by
  cases h
  simp only [wordRow_control]

theorem execXopYield_control {t : Fin 128} {e : EccResult} {s : State} {s' : State} (h : execXopYield t e s = .next s') : s'.control = s.control := by
  cases h
  simp only [wordRow_control]

theorem execXopPost_control {t : Fin 128} {e : EccResult} {s : State} {s' : State} (h : execXopPost t e s = .next s') : s'.control = s.control := by
  cases h
  simp only [wordRow_control]

theorem execXopTrace_control {t : Fin 128} {e : EccResult} {s : State} {s' : State} (h : execXopTrace t e s = .next s') : s'.control = s.control := by
  cases h
  simp only [wordRow_control]

theorem execXopNoaff_control {t : Fin 128} {e : EccResult} {s : State} {s' : State} (h : execXopNoaff t e s = .next s') : s'.control = s.control := by
  cases h
  simp only [wordRow_control]

theorem execExportTake_control {b : Fin 4} {s : State} {s' : State} (h : execExportTake b s = .next s') : s'.control = s.control := by
  cases h
  simp only [freshOut_control, exportTake_control]

theorem execExportItemRetry_control {b : Fin 4} {s : State} {s' : State} (h : execExportItemRetry b s = .next s') : s'.control = s.control := by
  cases h
  simp only [exportItemRetry_control]

theorem execIpfixFlush_control {b : Fin 4} {s : State} {s' : State} (h : execIpfixFlush b s = .next s') : s'.control = s.control := by
  cases h
  simp only [freshOut_control, ipfixFlush_control]

theorem execIpfixTemplateResend_control {b : Fin 4} {s : State} {s' : State} (h : execIpfixTemplateResend b s = .next s') : s'.control = s.control := by
  cases h
  simp only [templateResend_control]

theorem execMintRound_control {s : State} {s' : State} (h : execMintRound s = .next s') : s'.control = s.control := by
  cases h
  simp only [mintRound_control]

theorem execFrameRxStart_control {p : Fin 64} {data : Bytes} {full : Bool} {s : State} {s' : State} (h : execFrameRxStart p data full s = .next s') : s'.control = s.control := by
  cases h
  simp only [rxStart_control]

theorem execFrameRxTail_control {p : Fin 64} {data : Bytes} {fcsOk : Bool} {fec : Nat} {syms : List Nat} {s : State} {s' : State} (h : execFrameRxTail p data fcsOk fec syms s = .next s') : s'.control = s.control := by
  cases h
  simp only [rxTail_control]

theorem execMacControlFrame_control {p : Fin 64} {data : Bytes} {fcsOk : Bool} {s : State} {s' : State} (h : execMacControlFrame p data fcsOk s = .next s') : s'.control = s.control := by
  cases h
  simp only [macControl_control]

theorem execFecUncorrCodeword_control {p : Fin 64} {s : State} {s' : State} (h : execFecUncorrCodeword p s = .next s') : s'.control = s.control := by
  cases h
  simp only [fecUncorr_control]

theorem execSamplerEnable_control {p : Fin 64} {v : Word32} {s : State} {s' : State} (h : execSamplerEnable p v s = .next s') : s'.control = s.control := by
  unfold execSamplerEnable at h
  cases h
  simp only [State.control_mk, State.control_fold, apply_ite State.control, ite_self, implies_true, gated_control, samplerWrite_control]

theorem execSampleSeedWrite_control {p : Fin 64} {v : Word32} {s : State} {s' : State} (h : execSampleSeedWrite p v s = .next s') : s'.control = s.control := by
  unfold execSampleSeedWrite at h
  cases h
  simp only [State.control_mk, State.control_fold, apply_ite State.control, ite_self, implies_true, gated_control, seedWrite_control]

theorem execSwcGrpWrite_control {cmd : Word32} {s : State} {s' : State} (h : execSwcGrpWrite cmd s = .next s') : s'.control = s.control := by
  unfold execSwcGrpWrite at h
  cases h
  simp only [State.control_mk, State.control_fold, apply_ite State.control, ite_self, implies_true, gated_control, grpCommand_control]

theorem execSwcGrpRead_control {cmd : Word32} {s : State} {s' : State} (h : execSwcGrpRead cmd s = .next s') : s'.control = s.control := by
  unfold execSwcGrpRead at h
  cases h
  simp only [State.control_mk, State.control_fold, apply_ite State.control, ite_self, implies_true, gated_control, grpCommand_control]

theorem execAssayAdmit_control {b : Fin 4} {s : State} {s' : State} (h : execAssayAdmit b s = .next s') : s'.control = s.control := by
  cases h
  simp only [assayAdmit_control]

theorem execXchHoldRelease_control {b : Fin 4} {s : State} {s' : State} (h : execXchHoldRelease b s = .next s') : s'.control = s.control := by
  cases h
  simp only [holdRelease_control]

theorem execXchStallInterval_control {b : Fin 4} {s : State} {s' : State} (h : execXchStallInterval b s = .next s') : s'.control = s.control := by
  cases h
  simp only [xchStall_control]

theorem execRecircPlaceFreed_control {b : Fin 4} {s : State} {s' : State} (h : execRecircPlaceFreed b s = .next s') : s'.control = s.control := by
  cases h
  simp only [recircPlace_control]

theorem execInjectFrameRead_control {n : Fin 32} {data : Option Bytes} {s : State} {s' : State} (h : execInjectFrameRead n data s = .next s') : s'.control = s.control := by
  cases h
  simp only [freshOut_control, injectRead_control]

theorem execNptMapValidate_control {m : Fin 64} {v : Word32} {s : State} {s' : State} (h : execNptMapValidate m v s = .next s') : s'.control = s.control := by
  unfold execNptMapValidate at h
  cases h
  simp only [State.control_mk, State.control_fold, apply_ite State.control, ite_self, implies_true, gated_control, nptCtlWrite_control]

theorem execGclDurWrite_control {v : Word32} {s : State} {s' : State} (h : execGclDurWrite v s = .next s') : s'.control = s.control := by
  unfold execGclDurWrite at h
  cases h
  simp only [State.control_mk, State.control_fold, apply_ite State.control, ite_self, implies_true, gated_control, gclWrite_control]

theorem execGclDurRead_control {s : State} {s' : State} (h : execGclDurRead s = .next s') : s'.control = s.control := by
  cases h
  simp only [gclReadHost_control]

theorem execGateChange_control {p : Fin 64} {v : Word32} {s : State} {s' : State} (h : execGateChange p v s = .next s') : s'.control = s.control := by
  unfold execGateChange at h
  cases h
  simp only [State.control_mk, State.control_fold, apply_ite State.control, ite_self, implies_true, gated_control, gateCtrlWrite_control]

theorem execGateDisable_control {p : Fin 64} {v : Word32} {s : State} {s' : State} (h : execGateDisable p v s = .next s') : s'.control = s.control := by
  unfold execGateDisable at h
  cases h
  simp only [State.control_mk, State.control_fold, apply_ite State.control, ite_self, implies_true, gated_control, gateCtrlWrite_control]

theorem execGateSwitch_control {p : Fin 64} {s : State} {s' : State} (h : execGateSwitch p s = .next s') : s'.control = s.control := by
  cases h
  simp only [gateSwitch_control]

theorem execOffsetAdd_control {s : State} {s' : State} (h : execOffsetAdd s = .next s') : s'.control = s.control := by
  cases h
  simp only [offsetStep_control]

theorem execShaperUpdate_control {k : Fin 66} {c : Fin 16} {s : State} {s' : State} (h : execShaperUpdate k c s = .next s') : s'.control = s.control := by
  cases h
  simp only [shaperUpdate_control]

theorem execClearDebt_control {n : Fin 536} {v : Word32} {s : State} {s' : State} (h : execClearDebt n v s = .next s') : s'.control = s.control := by
  unfold execClearDebt at h
  cases h
  simp only [State.control_mk, State.control_fold, apply_ite State.control, ite_self, implies_true, gated_control, classCtrlWrite_control]

theorem execTmSelect_control {k : Fin 66} {desc buf : SramRead} {s : State} {s' : State} (h : execTmSelect k desc buf s = .next s') : s'.control = s.control := by
  cases h
  simp only [tmSelect_control]

theorem execTxCopyEnd_control {k : Fin 66} {buf : SramRead} {s : State} {s' : State} (h : execTxCopyEnd k buf s = .next s') : s'.control = s.control := by
  cases h
  simp only [freshTeth_control, txEnd_control]

theorem execEgressUnderrun_control {k : Fin 66} {s : State} {s' : State} (h : execEgressUnderrun k s = .next s') : s'.control = s.control := by
  cases h
  simp only [underrun_control]

theorem execGateEntryBoundary_control {p : Fin 64} {s : State} {s' : State} (h : execGateEntryBoundary p s = .next s') : s'.control = s.control := by
  cases h
  simp only [gateBoundary_control]

theorem execHoldExpiry_control {n : Fin 536} {s : State} {s' : State} (h : execHoldExpiry n s = .next s') : s'.control = s.control := by
  cases h
  simp only [holdExpiry_control]

theorem execPolWrite_control {cmd : Word32} {s : State} {s' : State} (h : execPolWrite cmd s = .next s') : s'.control = s.control := by
  cases h
  simp only [polRow_control]

theorem execPolRead_control {cmd : Word32} {s : State} {s' : State} (h : execPolRead cmd s = .next s') : s'.control = s.control := by
  cases h
  simp only [polRow_control]

theorem execPolReadClear_control {cmd : Word32} {s : State} {s' : State} (h : execPolReadClear cmd s = .next s') : s'.control = s.control := by
  cases h
  simp only [polRow_control]

theorem execPolRefill_control {cmd : Word32} {s : State} {s' : State} (h : execPolRefill cmd s = .next s') : s'.control = s.control := by
  cases h
  simp only [polRow_control]

theorem execDmaRecordWrite_control {n : Fin 32} {s : State} {s' : State} (h : execDmaRecordWrite n s = .next s') : s'.control = s.control := by
  cases h
  simp only [freshOut_control, recordWrite_control]

theorem execDmaStarveInterval_control {n : Fin 32} {s : State} {s' : State} (h : execDmaStarveInterval n s = .next s') : s'.control = s.control := by
  cases h
  simp only [starveInterval_control]

theorem execPortEnable_control {p : Fin 64} {v : Word32} {s : State} {s' : State} (h : execPortEnable p v s = .next s') : s'.control = s.control := by
  unfold execPortEnable at h
  cases h
  simp only [State.control_mk, State.control_fold, apply_ite State.control, ite_self, implies_true, gated_control, portCtrlWrite_control]

theorem execPortDisable_control {p : Fin 64} {v : Word32} {s : State} {s' : State} (h : execPortDisable p v s = .next s') : s'.control = s.control := by
  unfold execPortDisable at h
  cases h
  simp only [State.control_mk, State.control_fold, apply_ite State.control, ite_self, implies_true, gated_control, portCtrlWrite_control]

theorem execPortAcquireDone_control {p : Fin 64} {s : State} {s' : State} (h : execPortAcquireDone p s = .next s') : s'.control = s.control := by
  cases h
  simp only [acquireDone_control]

theorem execPortAlignDone_control {p : Fin 64} {s : State} {s' : State} (h : execPortAlignDone p s = .next s') : s'.control = s.control := by
  cases h
  simp only [alignDone_control]

theorem execPortLinkUp_control {p : Fin 64} {s : State} {s' : State} (h : execPortLinkUp p s = .next s') : s'.control = s.control := by
  cases h
  simp only [linkUp_control]

theorem execPortLinkDown_control {p : Fin 64} {cause : LinkLoss} {lane : Fin 8} {s : State} {s' : State} (h : execPortLinkDown p cause lane s = .next s') : s'.control = s.control := by
  cases h
  simp only [cause_control, linkDown_control]

theorem execRemoteFault_control {p : Fin 64} {s : State} {s' : State} (h : execRemoteFault p s = .next s') : s'.control = s.control := by
  cases h
  simp only [remoteFault_control]

theorem execRefclkEthLoss_control {s : State} {s' : State} (h : execRefclkEthLoss s = .next s') : s'.control = s.control := by
  rw [← Host.Outcome.next.inj h]
  exact refclkEthLoss_control ..

theorem execRefclkEthReturn_control {s : State} {s' : State} (h : execRefclkEthReturn s = .next s') : s'.control = s.control := by
  rw [← Host.Outcome.next.inj h]
  exact refclkEthReturn_control ..

theorem execTethRetrain_control {v : Word32} {s : State} {s' : State} (h : execTethRetrain v s = .next s') : s'.control = s.control := by
  unfold execTethRetrain at h
  cases h
  simp only [State.control_mk, State.control_fold, apply_ite State.control, ite_self, implies_true, gated_control, tethCtrlWrite_control]

theorem execTethTrainDone_control {s : State} {s' : State} (h : execTethTrainDone s = .next s') : s'.control = s.control := by
  cases h
  simp only [tethTrained_control]

theorem execTethLaneCheck_control {errors : List Nat} {peer : BitVec 8} {s : State} {s' : State} (h : execTethLaneCheck errors peer s = .next s') : s'.control = s.control := by
  cases h
  simp only [laneCheck_control]

theorem execTethLinkUp_control {peer set : BitVec 8} {s : State} {s' : State} (h : execTethLinkUp peer set s = .next s') : s'.control = s.control := by
  cases h
  simp only [freshTeth_control, tethLinkUp_control]

theorem execTethReform_control {lane : Fin 8} {set : BitVec 8} {s : State} {s' : State} (h : execTethReform lane set s = .next s') : s'.control = s.control := by
  cases h
  simp only [freshTeth_control, tethReform_control]

theorem execTethLinkDown_control {s : State} {s' : State} (h : execTethLinkDown s = .next s') : s'.control = s.control := by
  cases h
  simp only [tethLinkDown_control]

theorem execLinkFrameRx_control {kind : Nat} {seq : BitVec 16} {crcOk : Bool} {ack nak : Option (BitVec 16)} {buf : SramRead} {s : State} {s' : State} (h : execLinkFrameRx kind seq crcOk ack nak buf s = .next s') : s'.control = s.control := by
  cases h
  simp only [freshTeth_control, linkRx_control]

theorem execHeartbeatSend_control {s : State} {s' : State} (h : execHeartbeatSend s = .next s') : s'.control = s.control := by
  cases h
  simp only [heartbeatSend_control]

theorem execHeartbeatRx_control {msg : Bytes} {s : State} {s' : State} (h : execHeartbeatRx msg s = .next s') : s'.control = s.control := by
  cases h
  simp only [heartbeatRx_control]

theorem execPeerLost_control {s : State} {s' : State} (h : execPeerLost s = .next s') : s'.control = s.control := by
  cases h
  simp only [peerLost_control]

theorem execMirrorApply_control {msg : Bytes} {s : State} {s' : State} (h : execMirrorApply msg s = .next s') : s'.control = s.control := by
  cases h
  simp only [mirrorApply_control]

theorem execTetherCopyRx_control {header data : Bytes} {s : State} {s' : State} (h : execTetherCopyRx header data s = .next s') : s'.control = s.control := by
  cases h
  simp only [tetherCopy_control]

theorem execRecoveryRequestRx_control {msg : Bytes} {s : State} {s' : State} (h : execRecoveryRequestRx msg s = .next s') : s'.control = s.control := by
  cases h
  simp only [recoverRequest_control]

theorem execRecoveryResponseRx_control {msg : Bytes} {s : State} {s' : State} (h : execRecoveryResponseRx msg s = .next s') : s'.control = s.control := by
  cases h
  simp only [recoverResponse_control]

theorem execRecoveryTimeout_control {s : State} {s' : State} (h : execRecoveryTimeout s = .next s') : s'.control = s.control := by
  cases h
  simp only [recoverTimeout_control]

theorem execRefreshAccrual_control {c : Fin 8} {cs : Fin 2} {set : Fin 4} {s : State} {s' : State} (h : execRefreshAccrual c cs set s = .next s') : s'.control = s.control := by
  cases h
  simp only [refreshAccrual_control]

theorem execRefreshIssue_control {c : Fin 8} {cs : Fin 2} {set : Fin 4} {s : State} {s' : State} (h : execRefreshIssue c cs set s = .next s') : s'.control = s.control := by
  cases h
  simp only [refreshIssue_control]

theorem execDimmTempRead_control {c : Fin 8} {temps : List Int} {s : State} {s' : State} (h : execDimmTempRead c temps s = .next s') : s'.control = s.control := by
  cases h
  simp only [dimmTemp_control]

theorem execSrEntered_control {c : Fin 8} {s : State} {s' : State} (h : execSrEntered c s = .next s') : s'.control = s.control := by
  cases h
  simp only [srEntered_control]

theorem execSrRequestArrival_control {c : Fin 8} {issued : Bool} {s : State} {s' : State} (h : execSrRequestArrival c issued s = .next s') : s'.control = s.control := by
  cases h
  simp only [State.control_mk, State.control_fold, apply_ite State.control, ite_self, srArrival_control]

theorem execSrExitDone_control {c : Fin 8} {s : State} {s' : State} (h : execSrExitDone c s = .next s') : s'.control = s.control := by
  cases h
  simp only [srExitDone_control]

theorem execSrEntryRetry_control {c : Fin 8} {s : State} {s' : State} (h : execSrEntryRetry c s = .next s') : s'.control = s.control := by
  cases h
  simp only [srRetry_control]

theorem execZqCalibration_control {rank : Fin 16} {zqOk dqsOk : Bool} {s : State} {s' : State} (h : execZqCalibration rank zqOk dqsOk s = .next s') : s'.control = s.control := by
  cases h
  simp only [zqCalibration_control]

theorem execCaParityAlert_control {c : Fin 8} {rank : Fin 16} {retryOk : Bool} {reads writes : List Nat} {s : State} {s' : State} (h : execCaParityAlert c rank retryOk reads writes s = .next s') : s'.control = s.control := by
  cases h
  simp only [caParity_control]

theorem execCeWindowEnd_control {c : Fin 8} {s : State} {s' : State} (h : execCeWindowEnd c s = .next s') : s'.control = s.control := by
  cases h
  simp only [ceWindowEnd_control]

theorem execSpareStart_control {v : Word32} {s : State} {s' : State} (h : execSpareStart v s = .next s') : s'.control = s.control := by
  unfold execSpareStart at h
  cases h
  simp only [State.control_mk, State.control_fold, apply_ite State.control, ite_self, implies_true, gated_control, spareCtrlWrite_control]

theorem execMigrationCopy_control {found : AuditFound} {s : State} {s' : State} (h : execMigrationCopy found s = .next s') : s'.control = s.control := by
  cases h
  simp only [migrationCopy_control]

theorem execVaultWindowRead_control {off len : Nat} {s : State} {s' : State} (h : execVaultWindowRead off len s = .next s') : s'.control = s.control := by
  cases h
  simp only [windowAccess_control]

theorem execVaultWindowWrite_control {off : Nat} {data : Bytes} {be : List Bool} {s : State} {s' : State} (h : execVaultWindowWrite off data be s = .next s') : s'.control = s.control := by
  cases h
  simp only [windowAccess_control]

theorem execPaceUpdate_control {b : Fin 4} {descs steps : Nat} {s : State} {s' : State} (h : execPaceUpdate b descs steps s = .next s') : s'.control = s.control := by
  cases h
  simp only [paceUpdate_control]

theorem execDomainRequest_control {v : Word32} {s : State} {s' : State} (h : execDomainRequest v s = .next s') : s'.control = s.control := by
  cases h
  simp only [State.control_mk, State.control_fold, apply_ite State.control, ite_self, domainReqWrite_control]

theorem execDomainRampStart_control {d : Fin 30} {s : State} {s' : State} (h : execDomainRampStart d s = .next s') : s'.control = s.control := by
  cases h
  simp only [rampStart_control]

theorem execDomainPowerDown_control {d : Fin 30} {s : State} {s' : State} (h : execDomainPowerDown d s = .next s') : s'.control = s.control := by
  cases h
  simp only [powerDown_control]

theorem execAvsUpdate_control {iout : Nat} {vrmOk : Bool} {s : State} {s' : State} (h : execAvsUpdate iout vrmOk s = .next s') : s'.control = s.control := by
  cases h
  simp only [avsUpdate_control]

theorem execAvsRestart_control {v : Word32} {s : State} {s' : State} (h : execAvsRestart v s = .next s') : s'.control = s.control := by
  cases h
  simp only [State.control_mk, State.control_fold, apply_ite State.control, ite_self, avsCfgWrite_control]

theorem execQuietEntryComplete_control {s : State} {s' : State} (h : execQuietEntryComplete s = .next s') : s'.control = s.control := by
  cases h
  simp only [quietComplete_control]

theorem execQuietStall_control {s : State} {s' : State} (h : execQuietStall s = .next s') : s'.control = s.control := by
  cases h
  simp only [quietStall_control]

theorem execAllowanceRequest_control {u : Fin 11} {s : State} {s' : State} (h : execAllowanceRequest u s = .next s') : s'.control = s.control := by
  cases h
  simp only [State.control_mk, State.control_fold, apply_ite State.control, ite_self, requestAllowance_control]

theorem execAllowanceReturn_control {u : Fin 11} {s : State} {s' : State} (h : execAllowanceReturn u s = .next s') : s'.control = s.control := by
  cases h
  simp only [State.control_mk, State.control_fold, apply_ite State.control, ite_self, returnAllowance_control]

theorem execPwrwarnAssert_control {s : State} {s' : State} (h : execPwrwarnAssert s = .next s') : s'.control = s.control := by
  cases h
  simp only [pwrwarn_control]

theorem execVddCoreWarn_control {mv : Nat} {s : State} {s' : State} (h : execVddCoreWarn mv s = .next s') : s'.control = s.control := by
  cases h
  simp only [vddWarn_control]

theorem execBrownoutSr_control {s : State} {s' : State} (h : execBrownoutSr s = .next s') : s'.control = s.control := by
  cases h
  simp only [brownSr_control]

theorem execBrownoutRecover_control {mv : Nat} {s : State} {s' : State} (h : execBrownoutRecover mv s = .next s') : s'.control = s.control := by
  cases h
  simp only [brownRecover_control]

theorem execBrownoutNormal_control {s : State} {s' : State} (h : execBrownoutNormal s = .next s') : s'.control = s.control := by
  cases h
  simp only [brownNormal_control]

theorem execSmbTemps_control {pec : Bool} {s : State} {s' : State} (h : execSmbTemps pec s = .next s') : s'.control = s.control := by
  cases h
  simp only [smbAnswer_control]

theorem execSmbState_control {pec : Bool} {s : State} {s' : State} (h : execSmbState pec s = .next s') : s'.control = s.control := by
  cases h
  simp only [smbAnswer_control]

theorem execSmbBrown_control {pec : Bool} {s : State} {s' : State} (h : execSmbBrown pec s = .next s') : s'.control = s.control := by
  cases h
  simp only [smbAnswer_control]

theorem execSmbIout_control {pec : Bool} {s : State} {s' : State} (h : execSmbIout pec s = .next s') : s'.control = s.control := by
  cases h
  simp only [smbAnswer_control]

theorem execMbStatus_control {pec : Bool} {s : State} {s' : State} (h : execMbStatus pec s = .next s') : s'.control = s.control := by
  cases h
  simp only [mbAnswer_control]

theorem execJtagBypass_control {trst : Bool} {bits : List Bool} {s : State} {s' : State} (h : execJtagBypass trst bits s = .next s') : s'.control = s.control := by
  unfold execJtagBypass at h
  cases h
  simp only [State.control_mk, State.control_fold, apply_ite State.control, ite_self, implies_true, jtagLoad_control, tap_control]

theorem execJtagIdcode_control {trst : Bool} {s : State} {s' : State} (h : execJtagIdcode trst s = .next s') : s'.control = s.control := by
  unfold execJtagIdcode at h
  cases h
  simp only [State.control_mk, State.control_fold, apply_ite State.control, ite_self, implies_true, jtagLoad_control, tap_control]

theorem execJtagSamplePreload_control {trst : Bool} {bits : List Bool} {s : State} {s' : State} (h : execJtagSamplePreload trst bits s = .next s') : s'.control = s.control := by
  unfold execJtagSamplePreload at h
  cases h
  simp only [State.control_mk, State.control_fold, apply_ite State.control, ite_self, implies_true, tap_control, scanBits_control]

theorem execJtagExtest_control {trst : Bool} {bits : List Bool} {s : State} {s' : State} (h : execJtagExtest trst bits s = .next s') : s'.control = s.control := by
  unfold execJtagExtest at h
  cases h
  simp only [State.control_mk, State.control_fold, apply_ite State.control, ite_self, implies_true, tap_control, scanBits_control]

theorem execJtagDebugInstruction_control {trst : Bool} {code : Nat} {s : State} {s' : State} (h : execJtagDebugInstruction trst code s = .next s') : s'.control = s.control := by
  unfold execJtagDebugInstruction at h
  split at h
  · cases h
  · cases h
    exact tap_control _ _ _ fun _ => rfl

theorem execRcRead_control {off size : Nat} {s : State} {s' : State} (h : execRcRead off size s = .next s') : s'.control = s.control := by
  cases h
  simp only [State.control_mk, State.control_fold, apply_ite State.control, ite_self, registerRead_control, userRead_control, cfgRead_control]

theorem execUnsupportedRequest_control {off size : Nat} {write : Bool} {s : State} {s' : State} (h : execUnsupportedRequest off size write s = .next s') : s'.control = s.control := by
  cases h
  simp only [State.control_mk, State.control_fold, apply_ite State.control, ite_self, unsupported_control]

end Sys2Proof.Machine
end

