-- ==== Sys2Proof/Laws/Crew.lean ====
section
/-!
SUPPORT. What packets, records and the Vault leave alone in the Tellers and the Desks.
-/
set_option linter.all false
namespace Sys2Proof.Machine

theorem State.crew_mk (pending : List Instr) (free : Nat) (regs : Tbl Word32) (dispo : Tbl Nat) (time : TimeBase) (sill : Sillage) (msix : Msix) (perf : Perf) (treas : Treasury) (fuses : Fuses) (sec : SecEngine) (pins : Pins) (loader : Loader) (pcie : Pcie) (coffer : Coffer) (rings : Tbl Ring) (out : Outputs) (lastBatch : Nat) (ports : Tbl Port) (portCfg : Tbl PortCfg) (lanes : Tbl Lane) (laneInv : Tbl Nat) (laneTaps : Tbl Nat) (teth : Tether) (swc : SwitchCore) (tm : TrafficMgr) (templates : Bytes) (assay : Tbl Assayer) (sieve : Sieve) (accord : Accord) (ledger : Tbl Ledger) (disp : Tbl Disp) (tellers : Tbl Teller) (desks : Tbl Desk) (nose : Tbl Nose) (automata : NoseAutomata) (vault : Vault) (audit : Auditor) :
    State.crew ⟨pending, free, regs, dispo, time, sill, msix, perf, treas, fuses, sec, pins, loader, pcie, coffer, rings, out, lastBatch, ports, portCfg, lanes, laneInv, laneTaps, teth, swc, tm, templates, assay, sieve, accord, ledger, disp, tellers, desks, nose, automata, vault, audit⟩ = (tellers, desks) := (rfl)

theorem State.crew_fold (s : State) :
    (s.tellers, s.desks) = s.crew := (rfl)

theorem State.crew_foldl {α : Type} (f : State → α → State) (h : ∀ s x, (f s x).crew = s.crew) (l : List α) (s : State) :
    (l.foldl f s).crew = s.crew := by
  induction l generalizing s with
  | nil => rfl
  | cons x xs ih => rw [List.foldl_cons, ih, h]

theorem State.crew_foldl2 {α β : Type} (f : β × State → α → β × State) (h : ∀ a x, (f a x).2.crew = a.2.crew) (l : List α)
    (a : β × State) : (l.foldl f a).2.crew = a.2.crew := by
  induction l generalizing a with
  | nil => rfl
  | cons x xs ih => rw [List.foldl_cons, ih, h]

theorem State.crew_foldl3 {α β γ : Type} (f : β × γ × State → α → β × γ × State) (h : ∀ a x, (f a x).2.2.crew = a.2.2.crew)
    (l : List α) (a : β × γ × State) : (l.foldl f a).2.2.crew = a.2.2.crew := by
  induction l generalizing a with
  | nil => rfl
  | cons x xs ih => rw [List.foldl_cons, ih, h]

theorem State.crew_getD {o : Option State} {s d : State} (h : ∀ t, o = some t → t.crew = s.crew) (hd : d.crew = s.crew) :
    (o.getD d).crew = s.crew := by
  cases o with
  | none => exact hd
  | some t => exact h t rfl

theorem gated_crew (f : State → State) (s : State) (h : ∀ s, (f s).crew = s.crew) : (gated f s).crew = s.crew := by
  unfold gated; split
  · exact h s
  · rfl

/-! ### State -/


/-! ### Ops -/

theorem State.setLedger_crew (s : State) (b : Nat) (l : Ledger) : (State.setLedger s b l).crew = s.crew := by
  rfl

theorem State.setDisp_crew (s : State) (b : Nat) (d : Disp) : (State.setDisp s b d).crew = s.crew := by
  rfl

theorem State.setAssay_crew (s : State) (b : Nat) (a : Assayer) : (State.setAssay s b a).crew = s.crew := by
  rfl

theorem State.setChan_crew (s : State) (c : Nat) (x : VaultCh) : (State.setChan s c x).crew = s.crew := by
  rfl

theorem State.setSched_crew (s : State) (k : Nat) (x : Sched) : (State.setSched s k x).crew = s.crew := by
  rfl

theorem State.modLedger_crew (s : State) (b : Nat) (f : Ledger → Ledger) : (State.modLedger s b f).crew = s.crew := by
  unfold State.modLedger
  simp only [State.setLedger_crew]

theorem State.modDisp_crew (s : State) (b : Nat) (f : Disp → Disp) : (State.modDisp s b f).crew = s.crew := by
  unfold State.modDisp
  simp only [State.setDisp_crew]

theorem State.modAssay_crew (s : State) (b : Nat) (f : Assayer → Assayer) : (State.modAssay s b f).crew = s.crew := by
  unfold State.modAssay
  simp only [State.setAssay_crew]

theorem State.modChan_crew (s : State) (c : Nat) (f : VaultCh → VaultCh) : (State.modChan s c f).crew = s.crew := by
  unfold State.modChan
  simp only [State.setChan_crew]

theorem State.modSched_crew (s : State) (k : Nat) (f : Sched → Sched) : (State.modSched s k f).crew = s.crew := by
  unfold State.modSched
  simp only [State.setSched_crew]

theorem regStore_crew (off : Nat) (v : Word32) (s : State) : (regStore off v s).crew = s.crew := by
  rfl

theorem setField_crew (off hi lo x : Nat) (s : State) : (setField off hi lo x s).crew = s.crew := by
  unfold setField
  simp only [regStore_crew]

theorem setPair_crew (off v : Nat) (s : State) : (setPair off v s).crew = s.crew := by
  unfold setPair
  simp only [regStore_crew]

theorem bumpN_crew (off n : Nat) (s : State) : (bumpN off n s).crew = s.crew := by
  unfold bumpN
  simp only [State.crew_mk, State.crew_fold, apply_ite State.crew, ite_self, regStore_crew]

theorem bump_crew (off : Nat) (s : State) : (bump off s).crew = s.crew := by
  unfold bump
  simp only [bumpN_crew]

theorem tally_crew (off : Nat) (s : State) : (tally off s).crew = s.crew := by
  unfold tally
  simp only [regStore_crew]

theorem bump64_crew (off n : Nat) (s : State) : (bump64 off n s).crew = s.crew := by
  unfold bump64
  simp only [State.crew_mk, State.crew_fold, apply_ite State.crew, ite_self, setPair_crew]

theorem peak_crew (off hi lo v : Nat) (s : State) : (peak off hi lo v s).crew = s.crew := by
  unfold peak
  simp only [State.crew_mk, State.crew_fold, apply_ite State.crew, ite_self, setField_crew]

theorem cause_crew (off i : Nat) (s : State) : (cause off i s).crew = s.crew := by
  unfold cause
  simp only [regStore_crew]

theorem stampAt_crew (secOff nsOff net : Nat) (s : State) : (stampAt secOff nsOff net s).crew = s.crew := by
  unfold stampAt
  simp only [regStore_crew]

theorem stamp_crew (secOff nsOff : Nat) (s : State) : (stamp secOff nsOff s).crew = s.crew := by
  unfold stamp
  simp only [stampAt_crew]

theorem emitAt_crew (net src kind payload : Nat) (s : State) : (emitAt net src kind payload s).crew = s.crew := by
  unfold emitAt
  simp only [State.crew_mk, State.crew_fold, apply_ite State.crew, ite_self, bump_crew, cause_crew]

theorem emit_crew (src kind payload : Nat) (s : State) : (emit src kind payload s).crew = s.crew := by
  unfold emit
  simp only [emitAt_crew]

theorem perfCount_crew (u k n : Nat) (s : State) : (perfCount u k n s).crew = s.crew := by
  unfold perfCount
  simp only [State.crew_mk, State.crew_fold, apply_ite State.crew, ite_self, setPair_crew, cause_crew]

theorem perfN_crew (u code n : Nat) (s : State) : (perfN u code n s).crew = s.crew := by
  unfold perfN
  simp only [State.crew_foldl, implies_true, State.crew_mk, State.crew_fold, apply_ite State.crew, ite_self, perfCount_crew]

theorem perf_crew (u code : Nat) (s : State) : (perf u code s).crew = s.crew := by
  unfold perf
  simp only [perfN_crew]

theorem dispoCount_crew (port cls code : Nat) (s : State) : (dispoCount port cls code s).crew = s.crew := by
  unfold dispoCount
  simp only [State.crew_mk, State.crew_fold, apply_ite State.crew, ite_self]

theorem dispose_crew (port cls code : Nat) (waited : Bool) (hash : Word64) (arr : Nat) (s : State) : (dispose port cls code waited hash arr s).crew = s.crew := by
  unfold dispose
  simp only [State.crew_mk, State.crew_fold, apply_ite State.crew, ite_self, emit_crew, dispoCount_crew]

/-! ### Time -/

theorem bumpField_crew (off hi lo : Nat) (s : State) : (bumpField off hi lo s).crew = s.crew := by
  unfold bumpField
  simp only [State.crew_mk, State.crew_fold, apply_ite State.crew, ite_self, setField_crew]

/-! ### Perf -/

theorem winCount_crew (p len : Nat) (tx : Bool) (s : State) : (winCount p len tx s).crew = s.crew := by
  unfold winCount
  simp only [State.crew_mk, State.crew_fold, apply_ite State.crew, ite_self, perf_crew]

/-! ### FlowCtl -/

theorem emitFc_crew (p : Nat) (f : Bytes) (s : State) : (emitFc p f s).crew = s.crew := by
  unfold emitFc
  simp only [State.crew_foldl, implies_true, State.crew_mk, State.crew_fold, apply_ite State.crew, ite_self, perf_crew, bumpField_crew, winCount_crew]

theorem sendFc_crew (p : Nat) (f : Bytes) (s : State) : (sendFc p f s).crew = s.crew := by
  unfold sendFc
  simp only [State.crew_foldl, implies_true, State.crew_mk, State.crew_fold, apply_ite State.crew, ite_self, State.modSched_crew, emitFc_crew]

theorem sendX_crew (p q : Nat) (off : Bool) (s : State) : (sendX p q off s).crew = s.crew := by
  unfold sendX
  simp only [State.crew_mk, State.crew_fold, apply_ite State.crew, ite_self, sendFc_crew]

theorem fcClass_crew (p q : Nat) (s : State) : (fcClass p q s).crew = s.crew := by
  unfold fcClass
  simp only [State.crew_mk, State.crew_fold, apply_ite State.crew, ite_self, State.setSched_crew, sendX_crew]

theorem fcUpdate_crew (p : Nat) (s : State) : (fcUpdate p s).crew = s.crew := by
  unfold fcUpdate
  simp only [State.crew_foldl, implies_true, State.crew_mk, State.crew_fold, apply_ite State.crew, ite_self, State.modSched_crew, fcClass_crew]

/-! ### Vault -/

theorem noteVaultOp_crew (c : Nat) (k : VClass) (s : State) : (noteVaultOp c k s).crew = s.crew := by
  unfold noteVaultOp
  simp only [State.crew_foldl, implies_true, State.crew_mk, State.crew_fold, apply_ite State.crew, ite_self, State.modChan_crew, perf_crew]

theorem inOrder_crew (rank u : Nat) (s : State) : (inOrder rank u s).crew = s.crew := by
  unfold inOrder
  simp only [State.crew_foldl, implies_true, State.crew_mk, State.crew_fold, apply_ite State.crew, ite_self, State.modChan_crew, bump_crew, perf_crew]

theorem chanRead_crew (rank u : Nat) (k : VClass) (s : State) : (chanRead rank u k s).crew = s.crew := by
  unfold chanRead
  simp only [bump64_crew, perf_crew, noteVaultOp_crew, inOrder_crew]

theorem chanWrite_crew (rank u b : Nat) (k : VClass) (s : State) : (chanWrite rank u b k s).crew = s.crew := by
  unfold chanWrite
  simp only [State.modChan_crew, bump64_crew, perf_crew, noteVaultOp_crew]

theorem countRead_crew (a : Nat) (b : Nat) (k : VClass) (s : State) : (countRead a b k s).crew = s.crew := by
  unfold countRead
  simp only [State.crew_mk, State.crew_fold, apply_ite State.crew, ite_self, bump64_crew, chanRead_crew]

theorem countWrite_crew (a : Nat) (b : Nat) (k : VClass) (s : State) : (countWrite a b k s).crew = s.crew := by
  unfold countWrite
  simp only [State.crew_foldl, implies_true, State.crew_mk, State.crew_fold, apply_ite State.crew, ite_self, bump64_crew, chanWrite_crew]

theorem setOcc_crew (b n : Nat) (s : State) : (setOcc b n s).crew = s.crew := by
  unfold setOcc
  simp only [State.crew_mk, State.crew_fold, apply_ite State.crew, ite_self, State.modLedger_crew, cause_crew]

theorem occStep_crew (slot : Nat) (f : State → State) (s : State) (h : ∀ s, (f s).crew = s.crew) : (occStep slot f s).crew = s.crew := by
  unfold occStep
  dsimp only
  split <;> simp only [setOcc_crew, h]

theorem storeCell_crew (a : Nat) (cell : VCell) (s : State) : (storeCell a cell s).crew = s.crew := by
  unfold storeCell
  simp only [State.crew_foldl, implies_true, State.crew_mk, State.crew_fold, apply_ite State.crew, ite_self, State.modChan_crew]

theorem storeRecord_crew (a : Nat) (cell : VCell) (s : State) : (storeRecord a cell s).crew = s.crew := by
  unfold storeRecord
  repeat' first
    | with_reducible rfl
    | (simp only [State.crew_foldl, implies_true, State.crew_mk, State.crew_fold, apply_ite State.crew, apply_ite Prod.snd, ite_self, occStep_crew, storeCell_crew]; done)
    | split
    | dsimp only

theorem writeRecord_crew (a b : Nat) (k : VClass) (r : Rec) (s : State) : (writeRecord a b k r s).crew = s.crew := by
  unfold writeRecord
  simp only [countWrite_crew, storeRecord_crew]

theorem aer_crew (i : Nat) (corr : Bool) (s : State) : (aer i corr s).crew = s.crew := by
  unfold aer
  cases corr <;> exact emit_crew ..

theorem aerInternal_crew (s : State) : (aerInternal s).crew = s.crew := by
  unfold aerInternal
  simp only [aer_crew]

theorem logUe_crew (info addr : Nat) (s : State) : (logUe info addr s).crew = s.crew := by
  unfold logUe
  simp only [regStore_crew, setPair_crew, stamp_crew]

/-! ### Egress -/

theorem setFrame_crew (f : Nat) (x : Frame) (s : State) : (setFrame f x s).crew = s.crew := by
  rfl

theorem dropFrame_crew (f : Nat) (s : State) : (dropFrame f s).crew = s.crew := by
  rfl

theorem modFrame_crew (f : Nat) (g : Frame → Frame) (s : State) : (modFrame f g s).crew = s.crew := by
  unfold modFrame
  split <;> simp only [State.crew_mk, State.crew_fold, setFrame_crew]

theorem addRef_crew (f : Nat) (s : State) : (addRef f s).crew = s.crew := by
  unfold addRef
  simp only [modFrame_crew]

theorem release_crew (f : Nat) (s : State) : (release f s).crew = s.crew := by
  unfold release
  repeat' first
    | with_reducible rfl
    | (simp only [State.crew_mk, State.crew_fold, apply_ite State.crew, ite_self, perf_crew, fcUpdate_crew, setFrame_crew, dropFrame_crew]; done)
    | split
    | dsimp only

theorem setQueue_crew (n : Nat) (q : List Copy) (s : State) : (setQueue n q s).crew = s.crew := by
  rfl

theorem countCopy_crew (c : Copy) (code : Nat) (s : State) : (countCopy c code s).crew = s.crew := by
  unfold countCopy
  repeat' first
    | with_reducible rfl
    | (simp only [State.crew_mk, State.crew_fold, apply_ite State.crew, ite_self, dispose_crew]; done)
    | split
    | dsimp only

theorem discardCopy_crew (c : Copy) (code : Nat) (s : State) : (discardCopy c code s).crew = s.crew := by
  unfold discardCopy
  simp only [State.crew_mk, State.crew_fold, apply_ite State.crew, ite_self, bump_crew, cause_crew, release_crew, countCopy_crew]

theorem enqueue_crew (n : Nat) (c : Copy) (s : State) : (enqueue n c s).crew = s.crew := by
  unfold enqueue
  repeat' first
    | with_reducible rfl
    | (simp only [State.crew_mk, State.crew_fold, apply_ite State.crew, ite_self, bump_crew, cause_crew, perf_crew, release_crew, setQueue_crew, discardCopy_crew]; done)
    | split
    | dsimp only

theorem makeCopy_crew (n : Nat) (c : Copy) (s : State) : (makeCopy n c s).crew = s.crew := by
  unfold makeCopy
  simp only [addRef_crew, enqueue_crew]

theorem badTarget_crew (c : Copy) (s : State) : (badTarget c s).crew = s.crew := by
  unfold badTarget
  simp only [bump_crew, cause_crew, addRef_crew, discardCopy_crew]

theorem sendTo_crew (target q : Nat) (groups : Bool) (c : Copy) (s : State) : (sendTo target q groups c s).crew = s.crew := by
  unfold sendTo
  repeat' first
    | with_reducible rfl
    | (simp only [State.crew_foldl, implies_true, State.crew_mk, State.crew_fold, apply_ite State.crew, apply_ite Prod.snd, ite_self, perfN_crew, addRef_crew, discardCopy_crew, makeCopy_crew, badTarget_crew]; done)
    | split
    | dsimp only

theorem trySample_crew (f : Nat) (s : State) : (trySample f s).crew = s.crew := by
  unfold trySample
  repeat' first
    | with_reducible rfl
    | (simp only [State.crew_mk, State.crew_fold, apply_ite State.crew, ite_self, setFrame_crew, release_crew, makeCopy_crew]; done)
    | split
    | dsimp only

theorem passDone_crew (f : Nat) (info : CopyInfo) (s : State) : (passDone f info s).crew = s.crew := by
  unfold passDone
  simp only [modFrame_crew, release_crew, trySample_crew]

theorem dropPass_crew (d : Desc) (cls code : Nat) (s : State) : (dropPass d cls code s).crew = s.crew := by
  unfold dropPass
  simp only [dispose_crew, passDone_crew]

theorem puntPass_crew (d : Desc) (ring cls source reason : Nat) (s : State) : (puntPass d ring cls source reason s).crew = s.crew := by
  unfold puntPass
  simp only [makeCopy_crew, passDone_crew]

theorem mirrorPass_crew (d : Desc) (target q : Nat) (s : State) : (mirrorPass d target q s).crew = s.crew := by
  unfold mirrorPass
  simp only [sendTo_crew]

theorem setPolicer_crew (k : Nat) (x : Policer) (s : State) : (setPolicer k x s).crew = s.crew := by
  rfl

theorem police_crew (b i : Nat) (d : Desc) (s : State) : (police b i d s).2.crew = s.crew := by
  unfold police
  repeat' first
    | with_reducible rfl
    | (simp only [State.crew_mk, State.crew_fold, apply_ite State.crew, ite_self, perf_crew, setFrame_crew, setPolicer_crew]; done)
    | split
    | dsimp only

theorem police_crew' {b i : Nat} {d : Desc} {s : State} {x' : _} {r' : State} (h' : police b i d s = (x', r')) : r'.crew = s.crew := by
  have k' := police_crew b i d s
  rw [h'] at k'
  exact k'

theorem forwardPass_crew (d : Desc) (a : Word64) (params : List Word64) (s : State) : (forwardPass d a params s).crew = s.crew := by
  unfold forwardPass
  simp only [sendTo_crew, passDone_crew]

theorem takeAction_crew (d : Desc) (a : Word64) (params : List Word64) (s : State) : (takeAction d a params s).crew = s.crew := by
  unfold takeAction
  simp only [State.crew_mk, State.crew_fold, apply_ite State.crew, ite_self, dropPass_crew, puntPass_crew, forwardPass_crew]

/-! ### Items -/

theorem notePeak_crew (b : Nat) (s : State) : (notePeak b s).crew = s.crew := by
  unfold notePeak
  simp only [peak_crew]

theorem trace_crew (b k : Nat) (i : Item) (teller : Nat) (pref : Option Nat) (s : State) : (trace b k i teller pref s).crew = s.crew := by
  unfold trace
  simp only [State.crew_mk, State.crew_fold, apply_ite State.crew, ite_self, State.modDisp_crew, emit_crew]

theorem addItem_crew (b : Nat) (i : Item) (s : State) : (addItem b i s).crew = s.crew := by
  unfold addItem
  repeat' first
    | with_reducible rfl
    | (simp only [State.crew_foldl, implies_true, State.crew_mk, State.crew_fold, apply_ite State.crew, apply_ite Prod.snd, ite_self, State.setDisp_crew, notePeak_crew]; done)
    | split
    | dsimp only

theorem noteRefused_crew (b : Nat) (i : Item) (s : State) : (noteRefused b i s).crew = s.crew := by
  unfold noteRefused
  simp only [bump_crew, cause_crew, trace_crew]

theorem offerMaint_crew (b routine : Nat) (kind : ItemFor) (hash arg : Word64) (s : State) : (offerMaint b routine kind hash arg s).2.crew = s.crew := by
  unfold offerMaint
  repeat' first
    | with_reducible rfl
    | (simp only [State.crew_mk, State.crew_fold, apply_ite State.crew, ite_self, trace_crew, addItem_crew]; done)
    | split
    | dsimp only

theorem offerMaint_crew' {b routine : Nat} {kind : ItemFor} {hash arg : Word64} {s : State} {x' : _} {r' : State} (h' : offerMaint b routine kind hash arg s = (x', r')) : r'.crew = s.crew := by
  have k' := offerMaint_crew b routine kind hash arg s
  rw [h'] at k'
  exact k'

theorem setCofferWord_crew (i : Nat) (v : Word64) (s : State) : (setCofferWord i v s).crew = s.crew := by
  rfl

theorem exportItem_crew (b : Nat) (n : Snapshot) (s : State) : (exportItem b n s).2.crew = s.crew := by
  unfold exportItem
  repeat' first
    | with_reducible rfl
    | (simp only [State.crew_mk, State.crew_fold, apply_ite State.crew, ite_self, offerMaint_crew]; done)
    | split
    | dsimp only

theorem exportItem_crew' {b : Nat} {n : Snapshot} {s : State} {x' : _} {r' : State} (h' : exportItem b n s = (x', r')) : r'.crew = s.crew := by
  have k' := exportItem_crew b n s
  rw [h'] at k'
  exact k'

theorem storeSnapshot_crew (i : Nat) (rc : Rec) (s : State) : (storeSnapshot i rc s).crew = s.crew := by
  unfold storeSnapshot
  simp only [State.crew_foldl, implies_true, apply_ite State.crew, ite_self, cause_crew, setCofferWord_crew]

theorem exportRecord_crew (b : Nat) (hash : Word64) (r : Rec) (expired : Bool) (s : State) : (exportRecord b hash r expired s).crew = s.crew := by
  unfold exportRecord
  simp only [State.crew_foldl, implies_true, State.crew_mk, State.crew_fold, apply_ite State.crew, ite_self, State.modLedger_crew, bump_crew, emit_crew, storeSnapshot_crew, exportItem_crew]

theorem exportOnClose_crew (b : Nat) (hash : Word64) (r : Rec) (expired : Bool) (s : State) : (exportOnClose b hash r expired s).crew = s.crew := by
  unfold exportOnClose
  simp only [State.crew_mk, State.crew_fold, apply_ite State.crew, ite_self, exportRecord_crew]

theorem mirrorSend_crew (b type : Nat) (hash : Word64) (r : Rec) (s : State) : (mirrorSend b type hash r s).crew = s.crew := by
  unfold mirrorSend
  simp only [State.crew_mk, State.crew_fold, apply_ite State.crew, ite_self, bump_crew, cause_crew, emit_crew]

theorem mirrorEvent_crew (b e : Nat) (hash : Word64) (r : Rec) (s : State) : (mirrorEvent b e hash r s).2.crew = s.crew := by
  unfold mirrorEvent
  split <;> simp only [State.crew_mk, State.crew_fold, mirrorSend_crew]

theorem mirrorEvent_crew' {b e : Nat} {hash : Word64} {r : Rec} {s : State} {x' : _} {r' : State} (h' : mirrorEvent b e hash r s = (x', r')) : r'.crew = s.crew := by
  have k' := mirrorEvent_crew b e hash r s
  rw [h'] at k'
  exact k'

/-! ### Till -/

theorem setWay_crew (b k : Nat) (w : Way) (s : State) : (setWay b k w s).crew = s.crew := by
  unfold setWay
  simp only [State.modLedger_crew]

theorem modWay_crew (b k : Nat) (f : Way → Way) (s : State) : (modWay b k f s).crew = s.crew := by
  unfold modWay
  split <;> simp only [State.crew_mk, State.crew_fold, setWay_crew]

theorem unclaim_crew (b k : Nat) (s : State) : (unclaim b k s).crew = s.crew := by
  unfold unclaim
  repeat' first
    | with_reducible rfl
    | (simp only [State.crew_foldl, implies_true, State.crew_mk, State.crew_fold, apply_ite State.crew, apply_ite Prod.snd, ite_self, occStep_crew, modWay_crew]; done)
    | split
    | dsimp only

theorem unflush_crew (b k : Nat) (s : State) : (unflush b k s).crew = s.crew := by
  unfold unflush
  simp only [State.modLedger_crew]

theorem writeBack_crew (b k : Nat) (s : State) : (writeBack b k s).crew = s.crew := by
  unfold writeBack
  repeat' first
    | with_reducible rfl
    | (simp only [State.crew_mk, State.crew_fold, apply_ite State.crew, ite_self, bump_crew, perf_crew, countWrite_crew, storeRecord_crew, modWay_crew, unclaim_crew, unflush_crew]; done)
    | split
    | dsimp only

theorem pinWay_crew (b k : Nat) (s : State) : (pinWay b k s).crew = s.crew := by
  unfold pinWay
  repeat' first
    | with_reducible rfl
    | (simp only [State.crew_mk, State.crew_fold, apply_ite State.crew, ite_self, bump_crew, cause_crew, setWay_crew]; done)
    | split
    | dsimp only

theorem closeWay_crew (b k : Nat) (expired applied : Bool) (s : State) : (closeWay b k expired applied s).crew = s.crew := by
  unfold closeWay
  repeat' first
    | with_reducible rfl
    | (simp only [State.crew_mk, State.crew_fold, apply_ite State.crew, ite_self, bump_crew, exportOnClose_crew, mirrorEvent_crew, setWay_crew, modWay_crew]; done)
    | split
    | dsimp only

/-! ### Errors -/

theorem sramEvent_crew (mem branch addr : Nat) (e : EccResult) (s : State) : (sramEvent mem branch addr e s).crew = s.crew := by
  unfold sramEvent
  split <;> simp only [State.crew_mk, State.crew_fold, tally_crew, cause_crew, emit_crew, logUe_crew]

/-! ### Ledger -/

theorem askPeer_crew (who : RecoverFor) (s : State) : (askPeer who s).2.crew = s.crew := by
  unfold askPeer
  split <;> simp only [State.crew_mk, State.crew_fold, bump_crew]

theorem askPeer_crew' {who : RecoverFor} {s : State} {x' : _} {r' : State} (h' : askPeer who s = (x', r')) : r'.crew = s.crew := by
  have k' := askPeer_crew who s
  rw [h'] at k'
  exact k'

/-! ### Disp -/

theorem modItem_crew (b id : Nat) (f : Item → Item) (s : State) : (modItem b id f s).crew = s.crew := by
  unfold modItem
  simp only [State.modDisp_crew]

theorem setAff_crew (b i v : Nat) (s : State) : (setAff b i v s).crew = s.crew := by
  unfold setAff
  simp only [State.modDisp_crew]

/-! ### Audit -/

theorem notePoisoned_crew (a : Nat) (ft asked : Bool) (s : State) : (notePoisoned a ft asked s).crew = s.crew := by
  unfold notePoisoned
  simp only [emit_crew]

theorem notePeerRepair_crew (a outcome : Nat) (s : State) : (notePeerRepair a outcome s).crew = s.crew := by
  unfold notePeerRepair
  simp only [emit_crew]

theorem peerFail_crew (slot outcome : Nat) (counted : Bool) (s : State) : (peerFail slot outcome counted s).crew = s.crew := by
  unfold peerFail
  simp only [State.crew_mk, State.crew_fold, apply_ite State.crew, ite_self, bump_crew, cause_crew, notePeerRepair_crew]

theorem auditSlot_crew (slot : Nat) (s : State) : (auditSlot slot s).crew = s.crew := by
  unfold auditSlot
  repeat' first
    | with_reducible rfl
    | (simp only [State.crew_mk, State.crew_fold, apply_ite State.crew, ite_self, modWay_crew, askPeer_crew, notePoisoned_crew, peerFail_crew]; done)
    | split
    | dsimp only

/-! ### Window -/

theorem windowStore_crew (b k op i : Nat) (src mask : Word64) (s : State) : (windowStore b k op i src mask s).crew = s.crew := by
  unfold windowStore
  repeat' first
    | with_reducible rfl
    | (simp only [State.crew_mk, State.crew_fold, apply_ite State.crew, ite_self, setWay_crew, pinWay_crew]; done)
    | split
    | dsimp only

theorem windowState_crew (b k new : Nat) (s : State) : (windowState b k new s).crew = s.crew := by
  unfold windowState
  repeat' first
    | with_reducible rfl
    | (simp only [State.crew_mk, State.crew_fold, apply_ite State.crew, ite_self, setWay_crew, closeWay_crew]; done)
    | split
    | dsimp only

/-! ### TellerMem -/

theorem noteDrained_crew (d : Nat) (s : State) : (noteDrained d s).crew = s.crew := by
  unfold noteDrained
  simp only [State.crew_mk, State.crew_fold, apply_ite State.crew, ite_self, cause_crew]

/-! ### ItemEnd -/

theorem recircEnter_crew (b : Nat) (d : Desc) (s : State) : (recircEnter b d s).crew = s.crew := by
  unfold recircEnter
  simp only [State.crew_mk, State.crew_fold, apply_ite State.crew, ite_self, State.modAssay_crew, peak_crew, cause_crew]

theorem recircPass_crew (b : Nat) (d : Desc) (strip root : Nat) (entered : Bool) (s : State) : (recircPass b d strip root entered s).crew = s.crew := by
  unfold recircPass
  simp only [State.crew_mk, State.crew_fold, apply_ite State.crew, ite_self, bump_crew, cause_crew, dispose_crew, dropPass_crew, puntPass_crew, recircEnter_crew]

theorem packetEnd_crew (b : Nat) (c : ItemCtx) (s : State) : (packetEnd b c s).crew = s.crew := by
  unfold packetEnd
  repeat' first
    | with_reducible rfl
    | (simp only [State.crew_foldl, implies_true, State.crew_mk, State.crew_fold, apply_ite State.crew, apply_ite Prod.snd, ite_self, passDone_crew, dropPass_crew, puntPass_crew, mirrorPass_crew, takeAction_crew, recircPass_crew]; done)
    | split
    | dsimp only

theorem dropRequest_crew (b t : Nat) (s : State) : (dropRequest b t s).crew = s.crew := by
  unfold dropRequest
  simp only [State.modDisp_crew]

theorem wakeFlow_crew (b : Nat) (i : Item) (s : State) : (wakeFlow b i s).crew = s.crew := by
  unfold wakeFlow
  simp only [State.crew_mk, State.crew_fold, apply_ite State.crew, ite_self, State.modDisp_crew]

theorem learn_crew (b t : Nat) (c : ItemCtx) (s : State) : (learn b t c s).crew = s.crew := by
  unfold learn
  simp only [State.crew_mk, State.crew_fold, apply_ite State.crew, ite_self, setAff_crew]

theorem postItem_crew (b : Nat) (x : Teller) (w : MicroWord) (s : State) : (postItem b x w s).2.crew = s.crew := by
  unfold postItem
  repeat' first
    | with_reducible rfl
    | (simp only [State.crew_mk, State.crew_fold, apply_ite State.crew, ite_self, addItem_crew, noteRefused_crew]; done)
    | split
    | dsimp only

theorem postItem_crew' {b : Nat} {x : Teller} {w : MicroWord} {s : State} {x' : _} {r' : State} (h' : postItem b x w s = (x', r')) : r'.crew = s.crew := by
  have k' := postItem_crew b x w s
  rw [h'] at k'
  exact k'

/-! ### Teller -/

theorem csEvent_crew (d addr : Nat) (e : EccResult) (s : State) : (csEvent d addr e s).crew = s.crew := by
  unfold csEvent
  split <;> simp only [State.crew_mk, State.crew_fold, bump_crew, cause_crew, emit_crew, sramEvent_crew]

/-! ### The commands -/


end Sys2Proof.Machine
end

