-- ==== Sys2Proof/Laws/Edge.lean ====
section
/-!
SUPPORT. What a Charter load's abort, the mailbox and the Coffer leave alone at the PCIe side.
-/
set_option linter.all false
namespace Sys2Proof.Machine

theorem State.edge_mk (pending : List Instr) (free : Nat) (regs : Tbl Word32) (dispo : Tbl Nat) (time : TimeBase) (sill : Sillage) (msix : Msix) (perf : Perf) (treas : Treasury) (fuses : Fuses) (sec : SecEngine) (pins : Pins) (loader : Loader) (pcie : Pcie) (coffer : Coffer) (rings : Tbl Ring) (out : Outputs) (lastBatch : Nat) (ports : Tbl Port) (portCfg : Tbl PortCfg) (lanes : Tbl Lane) (laneInv : Tbl Nat) (laneTaps : Tbl Nat) (teth : Tether) (swc : SwitchCore) (tm : TrafficMgr) (templates : Bytes) (assay : Tbl Assayer) (sieve : Sieve) (accord : Accord) (ledger : Tbl Ledger) (disp : Tbl Disp) (tellers : Tbl Teller) (desks : Tbl Desk) (nose : Tbl Nose) (automata : NoseAutomata) (vault : Vault) (audit : Auditor) :
    State.edge ⟨pending, free, regs, dispo, time, sill, msix, perf, treas, fuses, sec, pins, loader, pcie, coffer, rings, out, lastBatch, ports, portCfg, lanes, laneInv, laneTaps, teth, swc, tm, templates, assay, sieve, accord, ledger, disp, tellers, desks, nose, automata, vault, audit⟩ = (pins, pcie.link, rings, msix) := (rfl)

theorem State.edge_fold (s : State) :
    (s.pins, s.pcie.link, s.rings, s.msix) = s.edge := (rfl)

theorem State.edge_foldl {α : Type} (f : State → α → State) (h : ∀ s x, (f s x).edge = s.edge) (l : List α) (s : State) :
    (l.foldl f s).edge = s.edge := by
  induction l generalizing s with
  | nil => rfl
  | cons x xs ih => rw [List.foldl_cons, ih, h]

theorem State.edge_foldl2 {α β : Type} (f : β × State → α → β × State) (h : ∀ a x, (f a x).2.edge = a.2.edge) (l : List α)
    (a : β × State) : (l.foldl f a).2.edge = a.2.edge := by
  induction l generalizing a with
  | nil => rfl
  | cons x xs ih => rw [List.foldl_cons, ih, h]

theorem State.edge_foldl3 {α β γ : Type} (f : β × γ × State → α → β × γ × State) (h : ∀ a x, (f a x).2.2.edge = a.2.2.edge)
    (l : List α) (a : β × γ × State) : (l.foldl f a).2.2.edge = a.2.2.edge := by
  induction l generalizing a with
  | nil => rfl
  | cons x xs ih => rw [List.foldl_cons, ih, h]

theorem State.edge_getD {o : Option State} {s d : State} (h : ∀ t, o = some t → t.edge = s.edge) (hd : d.edge = s.edge) :
    (o.getD d).edge = s.edge := by
  cases o with
  | none => exact hd
  | some t => exact h t rfl

theorem gated_edge (f : State → State) (s : State) (h : ∀ s, (f s).edge = s.edge) : (gated f s).edge = s.edge := by
  unfold gated; split
  · exact h s
  · rfl

/-! ### State -/


/-! ### Ops -/

theorem State.setLedger_edge (s : State) (b : Nat) (l : Ledger) : (State.setLedger s b l).edge = s.edge := by
  rfl

theorem State.setDisp_edge (s : State) (b : Nat) (d : Disp) : (State.setDisp s b d).edge = s.edge := by
  rfl

theorem State.setNose_edge (s : State) (b : Nat) (n : Nose) : (State.setNose s b n).edge = s.edge := by
  rfl

theorem State.setTeller_edge (s : State) (t : Nat) (x : Teller) : (State.setTeller s t x).edge = s.edge := by
  rfl

theorem State.setPort_edge (s : State) (p : Nat) (x : Port) : (State.setPort s p x).edge = s.edge := by
  rfl

theorem State.setChan_edge (s : State) (c : Nat) (x : VaultCh) : (State.setChan s c x).edge = s.edge := by
  rfl

theorem State.setSched_edge (s : State) (k : Nat) (x : Sched) : (State.setSched s k x).edge = s.edge := by
  rfl

theorem State.setClass_edge (s : State) (n : Nat) (x : TmClass) : (State.setClass s n x).edge = s.edge := by
  rfl

theorem State.setUser_edge (s : State) (u : Nat) (x : AllowUser) : (State.setUser s u x).edge = s.edge := by
  rfl

theorem State.setDom_edge (s : State) (d : Nat) (x : DomState) : (State.setDom s d x).edge = s.edge := by
  rfl

theorem State.modLedger_edge (s : State) (b : Nat) (f : Ledger → Ledger) : (State.modLedger s b f).edge = s.edge := by
  unfold State.modLedger
  simp only [State.setLedger_edge]

theorem State.modDisp_edge (s : State) (b : Nat) (f : Disp → Disp) : (State.modDisp s b f).edge = s.edge := by
  unfold State.modDisp
  simp only [State.setDisp_edge]

theorem State.modNose_edge (s : State) (b : Nat) (f : Nose → Nose) : (State.modNose s b f).edge = s.edge := by
  unfold State.modNose
  simp only [State.setNose_edge]

theorem State.modTeller_edge (s : State) (t : Nat) (f : Teller → Teller) : (State.modTeller s t f).edge = s.edge := by
  unfold State.modTeller
  simp only [State.setTeller_edge]

theorem State.modPort_edge (s : State) (p : Nat) (f : Port → Port) : (State.modPort s p f).edge = s.edge := by
  unfold State.modPort
  simp only [State.setPort_edge]

theorem State.modChan_edge (s : State) (c : Nat) (f : VaultCh → VaultCh) : (State.modChan s c f).edge = s.edge := by
  unfold State.modChan
  simp only [State.setChan_edge]

theorem State.modSched_edge (s : State) (k : Nat) (f : Sched → Sched) : (State.modSched s k f).edge = s.edge := by
  unfold State.modSched
  simp only [State.setSched_edge]

theorem regStore_edge (off : Nat) (v : Word32) (s : State) : (regStore off v s).edge = s.edge := by
  rfl

theorem setField_edge (off hi lo x : Nat) (s : State) : (setField off hi lo x s).edge = s.edge := by
  unfold setField
  simp only [regStore_edge]

theorem setPair_edge (off v : Nat) (s : State) : (setPair off v s).edge = s.edge := by
  unfold setPair
  simp only [regStore_edge]

theorem bumpN_edge (off n : Nat) (s : State) : (bumpN off n s).edge = s.edge := by
  unfold bumpN
  simp only [State.edge_mk, State.edge_fold, apply_ite State.edge, ite_self, regStore_edge]

theorem bump_edge (off : Nat) (s : State) : (bump off s).edge = s.edge := by
  unfold bump
  simp only [bumpN_edge]

theorem tally_edge (off : Nat) (s : State) : (tally off s).edge = s.edge := by
  unfold tally
  simp only [regStore_edge]

theorem bump64_edge (off n : Nat) (s : State) : (bump64 off n s).edge = s.edge := by
  unfold bump64
  simp only [State.edge_mk, State.edge_fold, apply_ite State.edge, ite_self, setPair_edge]

theorem peak_edge (off hi lo v : Nat) (s : State) : (peak off hi lo v s).edge = s.edge := by
  unfold peak
  simp only [State.edge_mk, State.edge_fold, apply_ite State.edge, ite_self, setField_edge]

theorem cause_edge (off i : Nat) (s : State) : (cause off i s).edge = s.edge := by
  unfold cause
  simp only [regStore_edge]

theorem stampAt_edge (secOff nsOff net : Nat) (s : State) : (stampAt secOff nsOff net s).edge = s.edge := by
  unfold stampAt
  simp only [regStore_edge]

theorem stamp_edge (secOff nsOff : Nat) (s : State) : (stamp secOff nsOff s).edge = s.edge := by
  unfold stamp
  simp only [stampAt_edge]

theorem emitAt_edge (net src kind payload : Nat) (s : State) : (emitAt net src kind payload s).edge = s.edge := by
  unfold emitAt
  simp only [State.edge_mk, State.edge_fold, apply_ite State.edge, ite_self, bump_edge, cause_edge]

theorem emit_edge (src kind payload : Nat) (s : State) : (emit src kind payload s).edge = s.edge := by
  unfold emit
  simp only [emitAt_edge]

theorem perfCount_edge (u k n : Nat) (s : State) : (perfCount u k n s).edge = s.edge := by
  unfold perfCount
  simp only [State.edge_mk, State.edge_fold, apply_ite State.edge, ite_self, setPair_edge, cause_edge]

theorem perfN_edge (u code n : Nat) (s : State) : (perfN u code n s).edge = s.edge := by
  unfold perfN
  simp only [State.edge_foldl, implies_true, State.edge_mk, State.edge_fold, apply_ite State.edge, ite_self, perfCount_edge]

theorem perf_edge (u code : Nat) (s : State) : (perf u code s).edge = s.edge := by
  unfold perf
  simp only [perfN_edge]

theorem dispoCount_edge (port cls code : Nat) (s : State) : (dispoCount port cls code s).edge = s.edge := by
  unfold dispoCount
  simp only [State.edge_mk, State.edge_fold, apply_ite State.edge, ite_self]

theorem dispose_edge (port cls code : Nat) (waited : Bool) (hash : Word64) (arr : Nat) (s : State) : (dispose port cls code waited hash arr s).edge = s.edge := by
  unfold dispose
  simp only [State.edge_mk, State.edge_fold, apply_ite State.edge, ite_self, emit_edge, dispoCount_edge]

/-! ### Time -/

theorem bumpField_edge (off hi lo : Nat) (s : State) : (bumpField off hi lo s).edge = s.edge := by
  unfold bumpField
  simp only [State.edge_mk, State.edge_fold, apply_ite State.edge, ite_self, setField_edge]

/-! ### Perf -/

theorem winCount_edge (p len : Nat) (tx : Bool) (s : State) : (winCount p len tx s).edge = s.edge := by
  unfold winCount
  simp only [State.edge_mk, State.edge_fold, apply_ite State.edge, ite_self, perf_edge]

/-! ### FlowCtl -/

theorem emitFc_edge (p : Nat) (f : Bytes) (s : State) : (emitFc p f s).edge = s.edge := by
  unfold emitFc
  simp only [State.edge_foldl, implies_true, State.edge_mk, State.edge_fold, apply_ite State.edge, ite_self, perf_edge, bumpField_edge, winCount_edge]

theorem sendFc_edge (p : Nat) (f : Bytes) (s : State) : (sendFc p f s).edge = s.edge := by
  unfold sendFc
  simp only [State.edge_foldl, implies_true, State.edge_mk, State.edge_fold, apply_ite State.edge, ite_self, State.modSched_edge, emitFc_edge]

theorem flushFc_edge (p : Nat) (s : State) : (flushFc p s).edge = s.edge := by
  unfold flushFc
  simp only [State.edge_foldl, implies_true, State.edge_mk, State.edge_fold, apply_ite State.edge, ite_self, State.modSched_edge, emitFc_edge]

theorem sendX_edge (p q : Nat) (off : Bool) (s : State) : (sendX p q off s).edge = s.edge := by
  unfold sendX
  simp only [State.edge_mk, State.edge_fold, apply_ite State.edge, ite_self, sendFc_edge]

theorem fcClass_edge (p q : Nat) (s : State) : (fcClass p q s).edge = s.edge := by
  unfold fcClass
  simp only [State.edge_mk, State.edge_fold, apply_ite State.edge, ite_self, State.setSched_edge, sendX_edge]

theorem fcUpdate_edge (p : Nat) (s : State) : (fcUpdate p s).edge = s.edge := by
  unfold fcUpdate
  simp only [State.edge_foldl, implies_true, State.edge_mk, State.edge_fold, apply_ite State.edge, ite_self, State.modSched_edge, fcClass_edge]

/-! ### Sieve -/

theorem sieveLookup_edge (b : Nat) (kv : KeyVec) (tpl gen : Nat) (s : State) : (sieveLookup b kv tpl gen s).2.2.edge = s.edge := by
  unfold sieveLookup
  repeat' first
    | with_reducible rfl
    | (simp only [State.edge_mk, State.edge_fold, apply_ite State.edge, ite_self, bump_edge]; done)
    | split
    | dsimp only

theorem sieveLookup_edge' {b : Nat} {kv : KeyVec} {tpl gen : Nat} {s : State} {x' : _} {y' : _} {r' : State} (h' : sieveLookup b kv tpl gen s = (x', y', r')) : r'.edge = s.edge := by
  have k' := sieveLookup_edge b kv tpl gen s
  rw [h'] at k'
  exact k'

/-! ### Vault -/

theorem noteVaultOp_edge (c : Nat) (k : VClass) (s : State) : (noteVaultOp c k s).edge = s.edge := by
  unfold noteVaultOp
  simp only [State.edge_foldl, implies_true, State.edge_mk, State.edge_fold, apply_ite State.edge, ite_self, State.modChan_edge, perf_edge]

theorem inOrder_edge (rank u : Nat) (s : State) : (inOrder rank u s).edge = s.edge := by
  unfold inOrder
  simp only [State.edge_foldl, implies_true, State.edge_mk, State.edge_fold, apply_ite State.edge, ite_self, State.modChan_edge, bump_edge, perf_edge]

theorem chanRead_edge (rank u : Nat) (k : VClass) (s : State) : (chanRead rank u k s).edge = s.edge := by
  unfold chanRead
  simp only [bump64_edge, perf_edge, noteVaultOp_edge, inOrder_edge]

theorem chanWrite_edge (rank u b : Nat) (k : VClass) (s : State) : (chanWrite rank u b k s).edge = s.edge := by
  unfold chanWrite
  simp only [State.modChan_edge, bump64_edge, perf_edge, noteVaultOp_edge]

theorem countRead_edge (a : Nat) (b : Nat) (k : VClass) (s : State) : (countRead a b k s).edge = s.edge := by
  unfold countRead
  simp only [State.edge_mk, State.edge_fold, apply_ite State.edge, ite_self, bump64_edge, chanRead_edge]

theorem countWrite_edge (a : Nat) (b : Nat) (k : VClass) (s : State) : (countWrite a b k s).edge = s.edge := by
  unfold countWrite
  simp only [State.edge_foldl, implies_true, State.edge_mk, State.edge_fold, apply_ite State.edge, ite_self, bump64_edge, chanWrite_edge]

theorem setOcc_edge (b n : Nat) (s : State) : (setOcc b n s).edge = s.edge := by
  unfold setOcc
  simp only [State.edge_mk, State.edge_fold, apply_ite State.edge, ite_self, State.modLedger_edge, cause_edge]

theorem occStep_edge (slot : Nat) (f : State → State) (s : State) (h : ∀ s, (f s).edge = s.edge) : (occStep slot f s).edge = s.edge := by
  unfold occStep
  dsimp only
  split <;> simp only [setOcc_edge, h]

theorem storeCell_edge (a : Nat) (cell : VCell) (s : State) : (storeCell a cell s).edge = s.edge := by
  unfold storeCell
  simp only [State.edge_foldl, implies_true, State.edge_mk, State.edge_fold, apply_ite State.edge, ite_self, State.modChan_edge]

theorem storeRecord_edge (a : Nat) (cell : VCell) (s : State) : (storeRecord a cell s).edge = s.edge := by
  unfold storeRecord
  repeat' first
    | with_reducible rfl
    | (simp only [State.edge_foldl, implies_true, State.edge_mk, State.edge_fold, apply_ite State.edge, apply_ite Prod.snd, ite_self, occStep_edge, storeCell_edge]; done)
    | split
    | dsimp only

theorem writeRecord_edge (a b : Nat) (k : VClass) (r : Rec) (s : State) : (writeRecord a b k r s).edge = s.edge := by
  unfold writeRecord
  simp only [countWrite_edge, storeRecord_edge]

theorem aer_edge (i : Nat) (corr : Bool) (s : State) : (aer i corr s).edge = s.edge := by
  unfold aer
  cases corr <;> exact emit_edge ..

theorem aerInternal_edge (s : State) : (aerInternal s).edge = s.edge := by
  unfold aerInternal
  simp only [aer_edge]

theorem logUe_edge (info addr : Nat) (s : State) : (logUe info addr s).edge = s.edge := by
  unfold logUe
  simp only [regStore_edge, setPair_edge, stamp_edge]

theorem refusePartial_edge (a lo : Nat) (host : Bool) (tellers : List (Nat × Nat)) (s : State) : (refusePartial a lo host tellers s).edge = s.edge := by
  unfold refusePartial
  simp only [State.edge_foldl, implies_true, State.edge_mk, State.edge_fold, apply_ite State.edge, ite_self, State.modTeller_edge, setPair_edge, bump_edge, cause_edge, emit_edge, aerInternal_edge]

theorem rmwRecord_edge (a : Nat) (m : Tbl Byte) (have_ : List Nat) (host : Bool) (tellers : List (Nat × Nat)) (s : State) : (rmwRecord a m have_ host tellers s).edge = s.edge := by
  unfold rmwRecord
  repeat' first
    | with_reducible rfl
    | (simp only [State.edge_mk, State.edge_fold, apply_ite State.edge, ite_self, bump_edge, countRead_edge, countWrite_edge, storeRecord_edge, refusePartial_edge]; done)
    | split
    | dsimp only

theorem closeMerge_edge (c : Nat) (e : MergeEntry) (s : State) : (closeMerge c e s).edge = s.edge := by
  unfold closeMerge
  simp only [State.edge_mk, State.edge_fold, apply_ite State.edge, ite_self, State.modChan_edge, bump_edge, countWrite_edge, storeRecord_edge, rmwRecord_edge]

theorem settleMerge_edge (a : Nat) (s : State) : (settleMerge a s).edge = s.edge := by
  unfold settleMerge
  repeat' first
    | with_reducible rfl
    | (simp only [State.edge_mk, State.edge_fold, apply_ite State.edge, ite_self, closeMerge_edge]; done)
    | split
    | dsimp only

theorem readRecord_edge (a b : Nat) (k : VClass) (s : State) : (readRecord a b k s).2.edge = s.edge := by
  unfold readRecord
  simp only [State.edge_mk, State.edge_fold, apply_ite State.edge, ite_self, bump_edge, countRead_edge, settleMerge_edge]

theorem readRecord_edge' {a b : Nat} {k : VClass} {s : State} {x' : _} {r' : State} (h' : readRecord a b k s = (x', r')) : r'.edge = s.edge := by
  have k' := readRecord_edge a b k s
  rw [h'] at k'
  exact k'

/-! ### Egress -/

theorem setFrame_edge (f : Nat) (x : Frame) (s : State) : (setFrame f x s).edge = s.edge := by
  rfl

theorem dropFrame_edge (f : Nat) (s : State) : (dropFrame f s).edge = s.edge := by
  rfl

theorem modFrame_edge (f : Nat) (g : Frame → Frame) (s : State) : (modFrame f g s).edge = s.edge := by
  unfold modFrame
  split <;> simp only [State.edge_mk, State.edge_fold, setFrame_edge]

theorem addRef_edge (f : Nat) (s : State) : (addRef f s).edge = s.edge := by
  unfold addRef
  simp only [modFrame_edge]

theorem release_edge (f : Nat) (s : State) : (release f s).edge = s.edge := by
  unfold release
  repeat' first
    | with_reducible rfl
    | (simp only [State.edge_mk, State.edge_fold, apply_ite State.edge, ite_self, perf_edge, fcUpdate_edge, setFrame_edge, dropFrame_edge]; done)
    | split
    | dsimp only

theorem setQueue_edge (n : Nat) (q : List Copy) (s : State) : (setQueue n q s).edge = s.edge := by
  rfl

theorem settleEmpty_edge (n : Nat) (s : State) : (settleEmpty n s).edge = s.edge := by
  unfold settleEmpty
  simp only [State.edge_mk, State.edge_fold, apply_ite State.edge, ite_self, State.setClass_edge]

theorem countCopy_edge (c : Copy) (code : Nat) (s : State) : (countCopy c code s).edge = s.edge := by
  unfold countCopy
  repeat' first
    | with_reducible rfl
    | (simp only [State.edge_mk, State.edge_fold, apply_ite State.edge, ite_self, dispose_edge]; done)
    | split
    | dsimp only

theorem discardCopy_edge (c : Copy) (code : Nat) (s : State) : (discardCopy c code s).edge = s.edge := by
  unfold discardCopy
  simp only [State.edge_mk, State.edge_fold, apply_ite State.edge, ite_self, bump_edge, cause_edge, release_edge, countCopy_edge]

theorem enqueue_edge (n : Nat) (c : Copy) (s : State) : (enqueue n c s).edge = s.edge := by
  unfold enqueue
  repeat' first
    | with_reducible rfl
    | (simp only [State.edge_mk, State.edge_fold, apply_ite State.edge, ite_self, bump_edge, cause_edge, perf_edge, release_edge, setQueue_edge, discardCopy_edge]; done)
    | split
    | dsimp only

theorem makeCopy_edge (n : Nat) (c : Copy) (s : State) : (makeCopy n c s).edge = s.edge := by
  unfold makeCopy
  simp only [addRef_edge, enqueue_edge]

theorem badTarget_edge (c : Copy) (s : State) : (badTarget c s).edge = s.edge := by
  unfold badTarget
  simp only [bump_edge, cause_edge, addRef_edge, discardCopy_edge]

theorem sendTo_edge (target q : Nat) (groups : Bool) (c : Copy) (s : State) : (sendTo target q groups c s).edge = s.edge := by
  unfold sendTo
  repeat' first
    | with_reducible rfl
    | (simp only [State.edge_foldl, implies_true, State.edge_mk, State.edge_fold, apply_ite State.edge, apply_ite Prod.snd, ite_self, perfN_edge, addRef_edge, discardCopy_edge, makeCopy_edge, badTarget_edge]; done)
    | split
    | dsimp only

theorem trySample_edge (f : Nat) (s : State) : (trySample f s).edge = s.edge := by
  unfold trySample
  repeat' first
    | with_reducible rfl
    | (simp only [State.edge_mk, State.edge_fold, apply_ite State.edge, ite_self, setFrame_edge, release_edge, makeCopy_edge]; done)
    | split
    | dsimp only

theorem passDone_edge (f : Nat) (info : CopyInfo) (s : State) : (passDone f info s).edge = s.edge := by
  unfold passDone
  simp only [modFrame_edge, release_edge, trySample_edge]

theorem dropPass_edge (d : Desc) (cls code : Nat) (s : State) : (dropPass d cls code s).edge = s.edge := by
  unfold dropPass
  simp only [dispose_edge, passDone_edge]

theorem puntPass_edge (d : Desc) (ring cls source reason : Nat) (s : State) : (puntPass d ring cls source reason s).edge = s.edge := by
  unfold puntPass
  simp only [makeCopy_edge, passDone_edge]

theorem setPolicer_edge (k : Nat) (x : Policer) (s : State) : (setPolicer k x s).edge = s.edge := by
  rfl

theorem police_edge (b i : Nat) (d : Desc) (s : State) : (police b i d s).2.edge = s.edge := by
  unfold police
  repeat' first
    | with_reducible rfl
    | (simp only [State.edge_mk, State.edge_fold, apply_ite State.edge, ite_self, perf_edge, setFrame_edge, setPolicer_edge]; done)
    | split
    | dsimp only

theorem police_edge' {b i : Nat} {d : Desc} {s : State} {x' : _} {r' : State} (h' : police b i d s = (x', r')) : r'.edge = s.edge := by
  have k' := police_edge b i d s
  rw [h'] at k'
  exact k'

theorem forwardPass_edge (d : Desc) (a : Word64) (params : List Word64) (s : State) : (forwardPass d a params s).edge = s.edge := by
  unfold forwardPass
  simp only [sendTo_edge, passDone_edge]

theorem takeAction_edge (d : Desc) (a : Word64) (params : List Word64) (s : State) : (takeAction d a params s).edge = s.edge := by
  unfold takeAction
  simp only [State.edge_mk, State.edge_fold, apply_ite State.edge, ite_self, dropPass_edge, puntPass_edge, forwardPass_edge]

theorem policeAction_edge (b : Nat) (d : Desc) (a : Word64) (s : State) : (policeAction b d a s).2.edge = s.edge := by
  unfold policeAction
  split <;> simp only [State.edge_mk, State.edge_fold, police_edge]

theorem policeAction_edge' {b : Nat} {d : Desc} {a : Word64} {s : State} {x' : _} {r' : State} (h' : policeAction b d a s = (x', r')) : r'.edge = s.edge := by
  have k' := policeAction_edge b d a s
  rw [h'] at k'
  exact k'

theorem applyAction_edge (b : Nat) (d : Desc) (a : Word64) (params : List Word64) (s : State) : (applyAction b d a params s).edge = s.edge := by
  unfold applyAction
  simp only [State.edge_mk, State.edge_fold, apply_ite State.edge, ite_self, dropPass_edge, takeAction_edge, policeAction_edge]

/-! ### Items -/

theorem notePeak_edge (b : Nat) (s : State) : (notePeak b s).edge = s.edge := by
  unfold notePeak
  simp only [peak_edge]

theorem trace_edge (b k : Nat) (i : Item) (teller : Nat) (pref : Option Nat) (s : State) : (trace b k i teller pref s).edge = s.edge := by
  unfold trace
  simp only [State.edge_mk, State.edge_fold, apply_ite State.edge, ite_self, State.modDisp_edge, emit_edge]

theorem addItem_edge (b : Nat) (i : Item) (s : State) : (addItem b i s).edge = s.edge := by
  unfold addItem
  repeat' first
    | with_reducible rfl
    | (simp only [State.edge_foldl, implies_true, State.edge_mk, State.edge_fold, apply_ite State.edge, apply_ite Prod.snd, ite_self, State.setDisp_edge, notePeak_edge]; done)
    | split
    | dsimp only

theorem noteWaiting_edge (b : Nat) (i : Item) (f : Nat) (s : State) : (noteWaiting b i f s).edge = s.edge := by
  unfold noteWaiting
  simp only [bump_edge, perf_edge, modFrame_edge, trace_edge]

theorem addStateless_edge (b : Nat) (d : Desc) (a : Word64) (reclass : Bool) (s : State) : (addStateless b d a reclass s).edge = s.edge := by
  unfold addStateless
  simp only [State.edge_mk, State.edge_fold, apply_ite State.edge, ite_self, addItem_edge, noteWaiting_edge]

theorem noteStall_edge (b : Nat) (i : Item) (s : State) : (noteStall b i s).edge = s.edge := by
  unfold noteStall
  simp only [cause_edge, trace_edge]

theorem offerMaint_edge (b routine : Nat) (kind : ItemFor) (hash arg : Word64) (s : State) : (offerMaint b routine kind hash arg s).2.edge = s.edge := by
  unfold offerMaint
  repeat' first
    | with_reducible rfl
    | (simp only [State.edge_mk, State.edge_fold, apply_ite State.edge, ite_self, trace_edge, addItem_edge]; done)
    | split
    | dsimp only

theorem offerMaint_edge' {b routine : Nat} {kind : ItemFor} {hash arg : Word64} {s : State} {x' : _} {r' : State} (h' : offerMaint b routine kind hash arg s = (x', r')) : r'.edge = s.edge := by
  have k' := offerMaint_edge b routine kind hash arg s
  rw [h'] at k'
  exact k'

theorem setCofferWord_edge (i : Nat) (v : Word64) (s : State) : (setCofferWord i v s).edge = s.edge := by
  rfl

theorem exportItem_edge (b : Nat) (n : Snapshot) (s : State) : (exportItem b n s).2.edge = s.edge := by
  unfold exportItem
  repeat' first
    | with_reducible rfl
    | (simp only [State.edge_mk, State.edge_fold, apply_ite State.edge, ite_self, offerMaint_edge]; done)
    | split
    | dsimp only

theorem exportItem_edge' {b : Nat} {n : Snapshot} {s : State} {x' : _} {r' : State} (h' : exportItem b n s = (x', r')) : r'.edge = s.edge := by
  have k' := exportItem_edge b n s
  rw [h'] at k'
  exact k'

theorem storeSnapshot_edge (i : Nat) (rc : Rec) (s : State) : (storeSnapshot i rc s).edge = s.edge := by
  unfold storeSnapshot
  simp only [State.edge_foldl, implies_true, apply_ite State.edge, ite_self, cause_edge, setCofferWord_edge]

theorem exportRecord_edge (b : Nat) (hash : Word64) (r : Rec) (expired : Bool) (s : State) : (exportRecord b hash r expired s).edge = s.edge := by
  unfold exportRecord
  simp only [State.edge_foldl, implies_true, State.edge_mk, State.edge_fold, apply_ite State.edge, ite_self, State.modLedger_edge, bump_edge, emit_edge, storeSnapshot_edge, exportItem_edge]

theorem exportOnClose_edge (b : Nat) (hash : Word64) (r : Rec) (expired : Bool) (s : State) : (exportOnClose b hash r expired s).edge = s.edge := by
  unfold exportOnClose
  simp only [State.edge_mk, State.edge_fold, apply_ite State.edge, ite_self, exportRecord_edge]

theorem mirrorSend_edge (b type : Nat) (hash : Word64) (r : Rec) (s : State) : (mirrorSend b type hash r s).edge = s.edge := by
  unfold mirrorSend
  simp only [State.edge_mk, State.edge_fold, apply_ite State.edge, ite_self, bump_edge, cause_edge, emit_edge]

theorem mirrorEvent_edge (b e : Nat) (hash : Word64) (r : Rec) (s : State) : (mirrorEvent b e hash r s).2.edge = s.edge := by
  unfold mirrorEvent
  split <;> simp only [State.edge_mk, State.edge_fold, mirrorSend_edge]

theorem mirrorEvent_edge' {b e : Nat} {hash : Word64} {r : Rec} {s : State} {x' : _} {r' : State} (h' : mirrorEvent b e hash r s = (x', r')) : r'.edge = s.edge := by
  have k' := mirrorEvent_edge b e hash r s
  rw [h'] at k'
  exact k'

/-! ### Till -/

theorem setWay_edge (b k : Nat) (w : Way) (s : State) : (setWay b k w s).edge = s.edge := by
  unfold setWay
  simp only [State.modLedger_edge]

theorem dropWay_edge (b k : Nat) (s : State) : (dropWay b k s).edge = s.edge := by
  unfold dropWay
  simp only [State.modLedger_edge]

theorem modWay_edge (b k : Nat) (f : Way → Way) (s : State) : (modWay b k f s).edge = s.edge := by
  unfold modWay
  split <;> simp only [State.edge_mk, State.edge_fold, setWay_edge]

theorem touchWay_edge (b k : Nat) (s : State) : (touchWay b k s).edge = s.edge := by
  unfold touchWay
  simp only [State.modLedger_edge]

theorem unclaim_edge (b k : Nat) (s : State) : (unclaim b k s).edge = s.edge := by
  unfold unclaim
  repeat' first
    | with_reducible rfl
    | (simp only [State.edge_foldl, implies_true, State.edge_mk, State.edge_fold, apply_ite State.edge, apply_ite Prod.snd, ite_self, occStep_edge, modWay_edge]; done)
    | split
    | dsimp only

theorem unflush_edge (b k : Nat) (s : State) : (unflush b k s).edge = s.edge := by
  unfold unflush
  simp only [State.modLedger_edge]

theorem writeBack_edge (b k : Nat) (s : State) : (writeBack b k s).edge = s.edge := by
  unfold writeBack
  repeat' first
    | with_reducible rfl
    | (simp only [State.edge_mk, State.edge_fold, apply_ite State.edge, ite_self, bump_edge, perf_edge, countWrite_edge, storeRecord_edge, modWay_edge, unclaim_edge, unflush_edge]; done)
    | split
    | dsimp only

theorem evict_edge (b k : Nat) (s : State) : (evict b k s).edge = s.edge := by
  unfold evict
  split <;> simp only [State.edge_mk, State.edge_fold, bump_edge, perf_edge, dropWay_edge, writeBack_edge]

theorem pinWay_edge (b k : Nat) (s : State) : (pinWay b k s).edge = s.edge := by
  unfold pinWay
  repeat' first
    | with_reducible rfl
    | (simp only [State.edge_mk, State.edge_fold, apply_ite State.edge, ite_self, bump_edge, cause_edge, setWay_edge]; done)
    | split
    | dsimp only

theorem closeWay_edge (b k : Nat) (expired applied : Bool) (s : State) : (closeWay b k expired applied s).edge = s.edge := by
  unfold closeWay
  repeat' first
    | with_reducible rfl
    | (simp only [State.edge_mk, State.edge_fold, apply_ite State.edge, ite_self, bump_edge, exportOnClose_edge, mirrorEvent_edge, setWay_edge, modWay_edge]; done)
    | split
    | dsimp only

theorem noteState_edge (b : Nat) (hash : Word64) (r : Rec) (s : State) : (noteState b hash r s).edge = s.edge := by
  unfold noteState
  simp only [State.edge_mk, State.edge_fold, apply_ite State.edge, ite_self, cause_edge, emit_edge]

theorem closeSlot_edge (b slot : Nat) (r : Rec) (k : VClass) (s : State) : (closeSlot b slot r k s).edge = s.edge := by
  unfold closeSlot
  simp only [bump_edge, writeRecord_edge, exportOnClose_edge, mirrorEvent_edge]

theorem putWay_edge (b k : Nat) (f : Fill) (s : State) : (putWay b k f s).edge = s.edge := by
  unfold putWay
  simp only [State.modLedger_edge, setWay_edge, touchWay_edge, pinWay_edge]

theorem install_edge' {b k : Nat} {hash : Word64} {f : Fill} {s s' : State} (h : install b hash f s = some (k, s')) : s'.edge = s.edge := by
  unfold install at h
  dsimp only at h
  cases hv : victim s b (tillSet hash) with
  | none => rw [hv] at h; cases h
  | some i =>
    rw [hv] at h
    cases h
    simp only [putWay_edge, evict_edge]

theorem noteNoway_edge (b : Nat) (s : State) : (noteNoway b s).edge = s.edge := by
  unfold noteNoway
  simp only [bump_edge, cause_edge]

theorem visit_edge (b k : Nat) (d : Desc) (s : State) : (visit b k d s).edge = s.edge := by
  unfold visit
  repeat' first
    | with_reducible rfl
    | (simp only [State.edge_mk, State.edge_fold, apply_ite State.edge, ite_self, setFrame_edge, mirrorSend_edge, setWay_edge, modWay_edge]; done)
    | split
    | dsimp only

theorem lockWay_edge (b k t : Nat) (s : State) : (lockWay b k t s).edge = s.edge := by
  unfold lockWay
  simp only [modWay_edge]

theorem durableBack_edge (b k : Nat) (s : State) : (durableBack b k s).edge = s.edge := by
  unfold durableBack
  repeat' first
    | with_reducible rfl
    | (simp only [State.edge_mk, State.edge_fold, apply_ite State.edge, ite_self, bump_edge, writeBack_edge]; done)
    | split
    | dsimp only

theorem writeBackAll_edge (b : Nat) (s : State) : (writeBackAll b s).edge = s.edge := by
  unfold writeBackAll
  simp only [State.edge_foldl, implies_true, State.edge_mk, State.edge_fold, apply_ite State.edge, ite_self, writeBack_edge]

theorem brownoutFlush_edge (s : State) : (brownoutFlush s).edge = s.edge := by
  unfold brownoutFlush
  simp only [State.edge_foldl, implies_true, State.edge_mk, State.edge_fold, apply_ite State.edge, ite_self, durableBack_edge]

/-! ### Slots -/

theorem testSlot_edge (b slot : Nat) (k : VClass) (hash : Word64) (key : Ckey) (t : Nat) (s : State) : (testSlot b slot k hash key t s).2.edge = s.edge := by
  unfold testSlot
  repeat' first
    | with_reducible rfl
    | (simp only [implies_true, State.edge_foldl2, State.edge_foldl3, Decision.state_ite, Decision.state_done, Decision.state_full, Decision.state_noroom, ScanIssue.state_ite, ScanIssue.state_done, ScanIssue.state_wait, State.edge_mk, State.edge_fold, State.edge_foldl, apply_ite State.edge, apply_ite Prod.snd, apply_ite EntryStep.state, EntryStep.state_served, EntryStep.state_searched, EntryStep.state_refused, EntryStep.state_wait, EntryStep.state_hold, ite_self, bump_edge, readRecord_edge, noteState_edge, closeSlot_edge]; done)
    | split
    | dsimp only
    | ((try have h0 := readRecord_edge' ‹_›); simp only [implies_true, State.edge_foldl2, State.edge_foldl3, Decision.state_ite, Decision.state_done, Decision.state_full, Decision.state_noroom, ScanIssue.state_ite, ScanIssue.state_done, ScanIssue.state_wait, State.edge_mk, State.edge_fold, State.edge_foldl, apply_ite State.edge, apply_ite Prod.snd, apply_ite EntryStep.state, EntryStep.state_served, EntryStep.state_searched, EntryStep.state_refused, EntryStep.state_wait, EntryStep.state_hold, ite_self, bump_edge, readRecord_edge, noteState_edge, closeSlot_edge, *]; done)

theorem testSlot_edge' {b slot : Nat} {k : VClass} {hash : Word64} {key : Ckey} {t : Nat} {s : State} {x' : _} {r' : State} (h' : testSlot b slot k hash key t s = (x', r')) : r'.edge = s.edge := by
  have k' := testSlot_edge b slot k hash key t s
  rw [h'] at k'
  exact k'

theorem searchBoth_edge (b : Nat) (k : VClass) (hash : Word64) (key : Ckey) (t : Nat) (s : State) :
    (searchBoth b k hash key t s).2.2.edge = s.edge := by
  unfold searchBoth
  dsimp only
  cases (testSlot b (cands s hash).1 k hash key t s).1 <;> dsimp only
  · exact testSlot_edge ..
  · exact testSlot_edge ..
  all_goals
    cases (testSlot b (cands s hash).2 k hash key t (testSlot b (cands s hash).1 k hash key t s).2).1 <;>
      exact (testSlot_edge ..).trans (testSlot_edge ..)

theorem searchBoth_edge' {b : Nat} {k : VClass} {hash : Word64} {key : Ckey} {t : Nat} {s : State} {x' : _} {y' : _} {r' : State} (h' : searchBoth b k hash key t s = (x', y', r')) : r'.edge = s.edge := by
  have k' := searchBoth_edge b k hash key t s
  rw [h'] at k'
  exact k'

theorem leaveSlot_edge (b k t : Nat) (s : State) : (leaveSlot b k t s).edge = s.edge := by
  unfold leaveSlot
  repeat' first
    | with_reducible rfl
    | (simp only [State.edge_mk, State.edge_fold, apply_ite State.edge, ite_self, modWay_edge, closeWay_edge]; done)
    | split
    | dsimp only

theorem vacate_edge (b slot t : Nat) (v : VClass) (s : State) : (vacate b slot t v s).edge = s.edge := by
  unfold vacate
  repeat' first
    | with_reducible rfl
    | (simp only [State.edge_foldl, implies_true, State.edge_mk, State.edge_fold, apply_ite State.edge, apply_ite Prod.snd, ite_self, closeSlot_edge, leaveSlot_edge]; done)
    | split
    | dsimp only

theorem placeSlot_edge (b : Nat) (hash : Word64) (key : Ckey) (t : Nat) (v : VClass) (s : State) : (placeSlot b hash key t v s).2.edge = s.edge := by
  unfold placeSlot
  repeat' first
    | with_reducible rfl
    | (simp only [State.edge_mk, State.edge_fold, apply_ite State.edge, ite_self, vacate_edge]; done)
    | split
    | dsimp only

theorem placeSlot_edge' {b : Nat} {hash : Word64} {key : Ckey} {t : Nat} {v : VClass} {s : State} {x' : _} {r' : State} (h' : placeSlot b hash key t v s = (x', r')) : r'.edge = s.edge := by
  have k' := placeSlot_edge b hash key t v s
  rw [h'] at k'
  exact k'

theorem reuseSlot_edge (b k : Nat) (w : Way) (t : Nat) (v : VClass) (s : State) : (reuseSlot b k w t v s).2.edge = s.edge := by
  unfold reuseSlot
  repeat' first
    | with_reducible rfl
    | (simp only [State.edge_foldl, implies_true, State.edge_mk, State.edge_fold, apply_ite State.edge, apply_ite Prod.snd, ite_self, leaveSlot_edge, placeSlot_edge]; done)
    | split
    | dsimp only

theorem reuseSlot_edge' {b k : Nat} {w : Way} {t : Nat} {v : VClass} {s : State} {x' : _} {r' : State} (h' : reuseSlot b k w t v s = (x', r')) : r'.edge = s.edge := by
  have k' := reuseSlot_edge b k w t v s
  rw [h'] at k'
  exact k'

theorem leaveTill_edge (b k t : Nat) (s : State) : (leaveTill b k t s).edge = s.edge := by
  unfold leaveTill
  repeat' first
    | with_reducible rfl
    | (simp only [State.edge_foldl, implies_true, State.edge_mk, State.edge_fold, apply_ite State.edge, apply_ite Prod.snd, ite_self, dropWay_edge, closeWay_edge]; done)
    | split
    | dsimp only

theorem newClaim_edge (b : Nat) (s : State) : (newClaim b s).2.edge = s.edge := by
  unfold newClaim
  repeat' first
    | with_reducible rfl
    | (simp only [State.edge_mk, State.edge_fold, apply_ite State.edge, ite_self, State.modLedger_edge, bump_edge, cause_edge, writeBack_edge]; done)
    | split
    | dsimp only

theorem newClaim_edge' {b : Nat} {s : State} {x' : _} {r' : State} (h' : newClaim b s = (x', r')) : r'.edge = s.edge := by
  have k' := newClaim_edge b s
  rw [h'] at k'
  exact k'

theorem refillTokens_edge (b : Nat) (s : State) : (refillTokens b s).edge = s.edge := by
  unfold refillTokens
  simp only [State.modLedger_edge]

theorem takeToken_edge (b : Nat) (s : State) : (takeToken b s).2.edge = s.edge := by
  unfold takeToken
  repeat' first
    | with_reducible rfl
    | (simp only [State.edge_mk, State.edge_fold, apply_ite State.edge, ite_self, State.modLedger_edge, refillTokens_edge]; done)
    | split
    | dsimp only

theorem takeToken_edge' {b : Nat} {s : State} {x' : _} {r' : State} (h' : takeToken b s = (x', r')) : r'.edge = s.edge := by
  have k' := takeToken_edge b s
  rw [h'] at k'
  exact k'

theorem noteSetup_edge (b : Nat) (s : State) : (noteSetup b s).edge = s.edge := by
  unfold noteSetup
  simp only [bump64_edge, perf_edge]

theorem noteStateLost_edge (b : Nat) (hash : Word64) (slot : Nat) (s : State) : (noteStateLost b hash slot s).edge = s.edge := by
  unfold noteStateLost
  simp only [bump_edge, cause_edge, emit_edge]

theorem mirrorSetup_edge (b k : Nat) (s : State) : (mirrorSetup b k s).edge = s.edge := by
  unfold mirrorSetup
  repeat' first
    | with_reducible rfl
    | (simp only [State.edge_mk, State.edge_fold, apply_ite State.edge, ite_self, mirrorEvent_edge, modWay_edge]; done)
    | split
    | dsimp only

/-! ### Allow -/

theorem noteAllowance_edge (u what amount : Nat) (s : State) : (noteAllowance u what amount s).edge = s.edge := by
  unfold noteAllowance
  simp only [emit_edge]

theorem refuseAllowance_edge (u amount : Nat) (s : State) : (refuseAllowance u amount s).edge = s.edge := by
  unfold refuseAllowance
  simp only [bump_edge, cause_edge, noteAllowance_edge]

theorem dropAllowance_edge (u : Nat) (s : State) : (dropAllowance u s).edge = s.edge := by
  unfold dropAllowance
  simp only [State.edge_mk, State.edge_fold, apply_ite State.edge, ite_self, State.setUser_edge]

theorem returnAllowance_edge (u : Nat) (s : State) : (returnAllowance u s).edge = s.edge := by
  unfold returnAllowance
  split <;> simp only [State.edge_mk, State.edge_fold, State.setUser_edge, noteAllowance_edge, dropAllowance_edge]

theorem revokeAllowance_edge (u : Nat) (s : State) : (revokeAllowance u s).edge = s.edge := by
  unfold revokeAllowance
  simp only [bump_edge, cause_edge, noteAllowance_edge, dropAllowance_edge]

theorem revokeAll_edge (n : Nat) (s : State) : (revokeAll n s).edge = s.edge := by
  induction n generalizing s with
  | zero => rfl
  | succ n ih =>
    rw [revokeAll]
    split
    · simp only [ih, revokeAllowance_edge]
    · simp only [State.edge_foldl, refuseAllowance_edge, State.setUser_edge, implies_true, State.edge_mk, State.edge_fold]

/-! ### Errors -/

theorem sramEvent_edge (mem branch addr : Nat) (e : EccResult) (s : State) : (sramEvent mem branch addr e s).edge = s.edge := by
  unfold sramEvent
  split <;> simp only [State.edge_mk, State.edge_fold, tally_edge, cause_edge, emit_edge, logUe_edge]

theorem Page.readWord_edge (g : Page) (flips : List WordFlips) (i : Nat) (s : State) (hp : ∀ i w s, (g.put i w s).edge = s.edge)
    (hl : ∀ i s, (g.lose i s).edge = s.edge) : (g.readWord flips i s).edge = s.edge := by
  unfold Page.readWord
  repeat' first
    | with_reducible rfl
    | (simp only [sramEvent_edge, hp, hl, apply_ite State.edge, ite_self]; done)
    | split

theorem Page.readAll_edge (g : Page) (flips : List WordFlips) (s : State) (hp : ∀ i w s, (g.put i w s).edge = s.edge)
    (hl : ∀ i s, (g.lose i s).edge = s.edge) : (g.readAll flips s).edge = s.edge :=
  State.edge_foldl _ (fun t i => Page.readWord_edge g flips i t hp hl) _ _

theorem modMem_edge (t op : Nat) (f : MemOp → MemOp) (s : State) : (modMem t op f s).edge = s.edge := by
  unfold modMem
  simp only [State.modTeller_edge]

theorem dropMem_edge (t op : Nat) (s : State) : (dropMem t op s).edge = s.edge := by
  unfold dropMem
  simp only [State.modTeller_edge]

theorem answerCoffer_edge (q : CofferReq) (v : Word64) (s : State) : (answerCoffer q v s).edge = s.edge := by
  unfold answerCoffer
  simp only [modMem_edge]

theorem poisonCoffer_edge (q : CofferReq) (s : State) : (poisonCoffer q s).edge = s.edge := by
  unfold poisonCoffer
  simp only [modMem_edge]

theorem endStore_edge (q : CofferReq) (s : State) : (endStore q s).edge = s.edge := by
  unfold endStore
  simp only [State.edge_mk, State.edge_fold, apply_ite State.edge, ite_self, dropMem_edge]

theorem roundStep_edge (old : Option Word64) (q : CofferReq) (cur : Option Word64) (s : State) : (roundStep old q cur s).2.edge = s.edge := by
  unfold roundStep
  repeat' first
    | with_reducible rfl
    | (simp only [State.edge_mk, State.edge_fold, apply_ite State.edge, ite_self, modMem_edge, answerCoffer_edge, poisonCoffer_edge, endStore_edge]; done)
    | split
    | dsimp only

theorem roundStep_edge' {old : Option Word64} {q : CofferReq} {cur : Option Word64} {s : State} {x' : _} {r' : State} (h' : roundStep old q cur s = (x', r')) : r'.edge = s.edge := by
  have k' := roundStep_edge old q cur s
  rw [h'] at k'
  exact k'

theorem cofferStore_edge (i : Nat) (v : Option Word64) (s : State) : (cofferStore i v s).edge = s.edge := by
  unfold cofferStore
  repeat' first
    | with_reducible rfl
    | (simp only [State.edge_mk, State.edge_fold, apply_ite State.edge, ite_self, setCofferWord_edge]; done)
    | split
    | dsimp only

theorem cofferRead_edge (i : Nat) (flips : List WordFlips) (s : State) : (cofferRead i flips s).2.edge = s.edge := by
  unfold cofferRead
  dsimp only
  split
  · exact Page.readAll_edge _ _ _ (fun _ _ _ => setCofferWord_edge ..) fun _ _ => cofferStore_edge ..
  · exact Page.readWord_edge _ _ _ _ (fun _ _ _ => setCofferWord_edge ..) fun _ _ => cofferStore_edge ..

theorem cofferRead_edge' {i : Nat} {flips : List WordFlips} {s : State} {x' : _} {r' : State} (h' : cofferRead i flips s = (x', r')) : r'.edge = s.edge := by
  have k' := cofferRead_edge i flips s
  rw [h'] at k'
  exact k'

theorem cofferRoundOn_edge (i : Nat) (flips : List WordFlips) (reads : Bool) (soft : Option Word64 → Option Word64) (s : State) : (cofferRoundOn i flips reads soft s).2.edge = s.edge := by
  unfold cofferRoundOn
  repeat' first
    | with_reducible rfl
    | (simp only [implies_true, State.edge_foldl2, State.edge_foldl3, Decision.state_ite, Decision.state_done, Decision.state_full, Decision.state_noroom, ScanIssue.state_ite, ScanIssue.state_done, ScanIssue.state_wait, State.edge_mk, State.edge_fold, State.edge_foldl, apply_ite State.edge, apply_ite Prod.snd, apply_ite EntryStep.state, EntryStep.state_served, EntryStep.state_searched, EntryStep.state_refused, EntryStep.state_wait, EntryStep.state_hold, ite_self, roundStep_edge, cofferStore_edge, cofferRead_edge]; done)
    | split
    | dsimp only
    | ((try have h0 := roundStep_edge' ‹_›; try have h1 := cofferRead_edge' ‹_›); simp only [implies_true, State.edge_foldl2, State.edge_foldl3, Decision.state_ite, Decision.state_done, Decision.state_full, Decision.state_noroom, ScanIssue.state_ite, ScanIssue.state_done, ScanIssue.state_wait, State.edge_mk, State.edge_fold, State.edge_foldl, apply_ite State.edge, apply_ite Prod.snd, apply_ite EntryStep.state, EntryStep.state_served, EntryStep.state_searched, EntryStep.state_refused, EntryStep.state_wait, EntryStep.state_hold, ite_self, roundStep_edge, cofferStore_edge, cofferRead_edge, *]; done)

theorem cofferRoundOn_edge' {i : Nat} {flips : List WordFlips} {reads : Bool} {soft : Option Word64 → Option Word64} {s : State} {x' : _} {r' : State} (h' : cofferRoundOn i flips reads soft s = (x', r')) : r'.edge = s.edge := by
  have k' := cofferRoundOn_edge i flips reads soft s
  rw [h'] at k'
  exact k'

theorem cofferClear_edge (s : State) : (cofferClear s).edge = s.edge := by
  rfl

/-! ### Ledger -/

theorem offerStateless_edge (b : Nat) (d : Desc) (a : Word64) (s : State) : (offerStateless b d a s).edge = s.edge := by
  unfold offerStateless
  simp only [State.edge_mk, State.edge_fold, apply_ite State.edge, ite_self, State.modLedger_edge, addStateless_edge, noteStall_edge]

theorem statelessAction_edge (b : Nat) (d : Desc) (a : Word64) (s : State) : (statelessAction b d a s).edge = s.edge := by
  unfold statelessAction
  simp only [State.edge_mk, State.edge_fold, apply_ite State.edge, ite_self, dropPass_edge, policeAction_edge, applyAction_edge, offerStateless_edge]

theorem defaultAct_edge (b act ring source code : Nat) (d : Desc) (s : State) : (defaultAct b act ring source code d s).edge = s.edge := by
  unfold defaultAct
  split <;> simp only [State.edge_mk, State.edge_fold, sieveLookup_edge, dropPass_edge, puntPass_edge, statelessAction_edge]

theorem setupAct_edge (b : Nat) (d : Desc) (s : State) : (setupAct b d s).edge = s.edge := by
  unfold setupAct
  simp only [defaultAct_edge]

theorem toItem_edge (b k : Nat) (d : Desc) (a : Word64) (setup reclass : Bool) (s : State) (s0 : State) (h0 : s0.edge = s.edge) : ((toItem b k d a setup reclass s).state s0).edge = s.edge := by
  unfold toItem
  repeat' first
    | with_reducible rfl
    | exact h0
    | (simp only [implies_true, State.edge_foldl2, State.edge_foldl3, Decision.state_ite, Decision.state_done, Decision.state_full, Decision.state_noroom, ScanIssue.state_ite, ScanIssue.state_done, ScanIssue.state_wait, State.edge_mk, State.edge_fold, State.edge_foldl, apply_ite State.edge, apply_ite Prod.snd, apply_ite EntryStep.state, EntryStep.state_served, EntryStep.state_searched, EntryStep.state_refused, EntryStep.state_wait, EntryStep.state_hold, ite_self, h0, addItem_edge, visit_edge]; done)
    | split
    | dsimp only

theorem toItem_edge' {b k : Nat} {d : Desc} {a : Word64} {setup reclass : Bool} {s : State} {r' : State} (h' : toItem b k d a setup reclass s = .done r') : r'.edge = s.edge := by
  have k' := toItem_edge b k d a setup reclass s s rfl
  rw [h'] at k'
  exact k'

theorem toItem_edgeN {b k : Nat} {d : Desc} {a : Word64} {setup reclass : Bool} {s : State} {r' : State} (h' : toItem b k d a setup reclass s = .noroom r') : r'.edge = s.edge := by
  have k' := toItem_edge b k d a setup reclass s s rfl
  rw [h'] at k'
  exact k'

theorem updateUnit_edge (b k : Nat) (d : Desc) (s : State) : (updateUnit b k d s).edge = s.edge := by
  unfold updateUnit
  simp only [bump64_edge, perf_edge, applyAction_edge, visit_edge]

theorem noteRefusedSetup_edge (b : Nat) (s : State) : (noteRefusedSetup b s).edge = s.edge := by
  unfold noteRefusedSetup
  simp only [bump_edge, cause_edge]

theorem setupPass_edge (b k : Nat) (d : Desc) (a : Word64) (s : State) (s0 : State) (h0 : s0.edge = s.edge) :
    ((setupPass b k d a s).state s0).edge = s.edge := by
  unfold setupPass
  split
  · simp only [Decision.state_done, applyAction_edge, mirrorSetup_edge, visit_edge]
  · rw [toItem_edge _ _ _ _ _ _ _ _ (h0.trans (modWay_edge ..).symm), modWay_edge]

theorem setupPass_edge' {b k : Nat} {d : Desc} {a : Word64} {s : State} {r' : State} (h' : setupPass b k d a s = .done r') : r'.edge = s.edge := by
  have k' := setupPass_edge b k d a s s rfl
  rw [h'] at k'
  exact k'

theorem setupPass_edgeN {b k : Nat} {d : Desc} {a : Word64} {s : State} {r' : State} (h' : setupPass b k d a s = .noroom r') : r'.edge = s.edge := by
  have k' := setupPass_edge b k d a s s rfl
  rw [h'] at k'
  exact k'

theorem claimFor_edge (b : Nat) (w : Way) (s : State) : (claimFor b w s).2.edge = s.edge := by
  unfold claimFor
  split <;> simp only [State.edge_mk, State.edge_fold, newClaim_edge]

theorem claimFor_edge' {b : Nat} {w : Way} {s : State} {x' : _} {r' : State} (h' : claimFor b w s = (x', r')) : r'.edge = s.edge := by
  have k' := claimFor_edge b w s
  rw [h'] at k'
  exact k'

theorem renewWay_edge (b k : Nat) (w : Way) (rc : Rec) (t : Nat) (v : VClass) (s : State) : (renewWay b k w rc t v s).edge = s.edge := by
  unfold renewWay
  repeat' first
    | with_reducible rfl
    | (simp only [implies_true, State.edge_foldl2, State.edge_foldl3, Decision.state_ite, Decision.state_done, Decision.state_full, Decision.state_noroom, ScanIssue.state_ite, ScanIssue.state_done, ScanIssue.state_wait, State.edge_mk, State.edge_fold, State.edge_foldl, apply_ite State.edge, apply_ite Prod.snd, apply_ite EntryStep.state, EntryStep.state_served, EntryStep.state_searched, EntryStep.state_refused, EntryStep.state_wait, EntryStep.state_hold, ite_self, occStep_edge, putWay_edge, reuseSlot_edge, claimFor_edge]; done)
    | split
    | dsimp only
    | ((try have h0 := reuseSlot_edge' ‹_›; try have h1 := claimFor_edge' ‹_›); simp only [implies_true, State.edge_foldl2, State.edge_foldl3, Decision.state_ite, Decision.state_done, Decision.state_full, Decision.state_noroom, ScanIssue.state_ite, ScanIssue.state_done, ScanIssue.state_wait, State.edge_mk, State.edge_fold, State.edge_foldl, apply_ite State.edge, apply_ite Prod.snd, apply_ite EntryStep.state, EntryStep.state_served, EntryStep.state_searched, EntryStep.state_refused, EntryStep.state_wait, EntryStep.state_hold, ite_self, occStep_edge, putWay_edge, reuseSlot_edge, claimFor_edge, *]; done)

theorem setupInPlace_edge (b k : Nat) (d : Desc) (s : State) (s0 : State) (h0 : s0.edge = s.edge) :
    ((setupInPlace b k d s).state s0).edge = s.edge := by
  unfold setupInPlace
  dsimp only
  split
  · simp only [Decision.state_done, statelessAction_edge, sieveLookup_edge]
  · split
    · simp only [Decision.state_done, setupAct_edge, noteRefusedSetup_edge, takeToken_edge, sieveLookup_edge]
    · split
      · simp only [Decision.state_done, takeToken_edge, sieveLookup_edge]
      · rw [setupPass_edge]
        · rw [noteSetup_edge, renewWay_edge, takeToken_edge, sieveLookup_edge]
        · rw [noteSetup_edge, renewWay_edge, takeToken_edge, sieveLookup_edge, h0]

theorem setupInPlace_edge' {b k : Nat} {d : Desc} {s : State} {r' : State} (h' : setupInPlace b k d s = .done r') : r'.edge = s.edge := by
  have k' := setupInPlace_edge b k d s s rfl
  rw [h'] at k'
  exact k'

theorem setupInPlace_edgeN {b k : Nat} {d : Desc} {s : State} {r' : State} (h' : setupInPlace b k d s = .noroom r') : r'.edge = s.edge := by
  have k' := setupInPlace_edge b k d s s rfl
  rw [h'] at k'
  exact k'

theorem reclassify_edge (b k : Nat) (d : Desc) (fast : Bool) (s : State) (s0 : State) (h0 : s0.edge = s.edge) :
    ((reclassify b k d fast s).state s0).edge = s.edge := by
  unfold reclassify
  dsimp only
  split
  · simp only [Decision.state_done, statelessAction_edge, closeWay_edge, perf_edge, bump_edge, sieveLookup_edge]
  · split
    · simp only [Decision.state_done, updateUnit_edge, modWay_edge, perf_edge, bump_edge, sieveLookup_edge]
    · rw [toItem_edge]
      · simp only [modWay_edge, perf_edge, bump_edge, sieveLookup_edge]
      · simp only [modWay_edge, perf_edge, bump_edge, sieveLookup_edge, h0]

theorem reclassify_edge' {b k : Nat} {d : Desc} {fast : Bool} {s : State} {r' : State} (h' : reclassify b k d fast s = .done r') : r'.edge = s.edge := by
  have k' := reclassify_edge b k d fast s s rfl
  rw [h'] at k'
  exact k'

theorem reclassify_edgeN {b k : Nat} {d : Desc} {fast : Bool} {s : State} {r' : State} (h' : reclassify b k d fast s = .noroom r') : r'.edge = s.edge := by
  have k' := reclassify_edge b k d fast s s rfl
  rw [h'] at k'
  exact k'

theorem decideFrom2_edge (b k : Nat) (d : Desc) (s : State) (s0 : State) (h0 : s0.edge = s.edge) :
    ((decideFrom2 b k d s).state s0).edge = s.edge := by
  unfold decideFrom2
  split
  · rfl
  · rename_i w _
    dsimp only
    have hu : (noteState b d.hash w.rc s).edge = s.edge := noteState_edge ..
    generalize noteState b d.hash w.rc s = u at hu ⊢
    have hu0 := h0.trans hu.symm
    rw [← hu]
    split
    · rw [Decision.state_noroom, leaveTill_edge]
    · split
      · exact setupInPlace_edge _ _ _ _ _ hu0
      · split
        · rw [setupInPlace_edge _ _ _ _ _ (hu0.trans (closeWay_edge ..).symm), closeWay_edge]
        · split
          · exact reclassify_edge _ _ _ _ _ _ hu0
          · split
            · exact updateUnit_edge ..
            · exact toItem_edge _ _ _ _ _ _ _ _ hu0

theorem decideFrom2_edge' {b k : Nat} {d : Desc} {s : State} {r' : State} (h' : decideFrom2 b k d s = .done r') : r'.edge = s.edge := by
  have k' := decideFrom2_edge b k d s s rfl
  rw [h'] at k'
  exact k'

theorem decideFrom2_edgeN {b k : Nat} {d : Desc} {s : State} {r' : State} (h' : decideFrom2 b k d s = .noroom r') : r'.edge = s.edge := by
  have k' := decideFrom2_edge b k d s s rfl
  rw [h'] at k'
  exact k'

theorem joinChain_edge (b k : Nat) (w : Way) (d : Desc) (s : State) : (joinChain b k w d s).edge = s.edge := by
  unfold joinChain
  simp only [State.modDisp_edge, notePeak_edge, noteWaiting_edge, setWay_edge]

theorem decide_edge (b k : Nat) (d : Desc) (s : State) (s0 : State) (h0 : s0.edge = s.edge) :
    ((decide b k d s).state s0).edge = s.edge := by
  unfold decide
  split
  · rfl
  · split
    · split
      · simp only [Decision.state_done, joinChain_edge]
      · exact h0
    · exact decideFrom2_edge _ _ _ _ _ h0

theorem decide_edge' {b k : Nat} {d : Desc} {s : State} {r' : State} (h' : decide b k d s = .done r') : r'.edge = s.edge := by
  have k' := decide_edge b k d s s rfl
  rw [h'] at k'
  exact k'

theorem decide_edgeN {b k : Nat} {d : Desc} {s : State} {r' : State} (h' : decide b k d s = .noroom r') : r'.edge = s.edge := by
  have k' := decide_edge b k d s s rfl
  rw [h'] at k'
  exact k'

theorem answerOpen_edge (t : Nat) (k : Option Nat) (s : State) : (answerOpen t k s).edge = s.edge := by
  unfold answerOpen
  simp only [State.modTeller_edge]

theorem openOnWay_edge (b k t : Nat) (s : State) : (openOnWay b k t s).edge = s.edge := by
  unfold openOnWay
  repeat' first
    | with_reducible rfl
    | (simp only [State.edge_mk, State.edge_fold, apply_ite State.edge, ite_self, setWay_edge, closeWay_edge, noteState_edge, lockWay_edge, answerOpen_edge]; done)
    | split
    | dsimp only

theorem hostDone_edge (b : Nat) (a : HostAnswer) (s : State) : (hostDone b a s).edge = s.edge := by
  unfold hostDone
  simp only [State.modLedger_edge]

theorem hostWay_edge (b k result where_ : Nat) (data : Bool) (s : State) : (hostWay b k result where_ data s).edge = s.edge := by
  unfold hostWay
  split <;> simp only [State.edge_mk, State.edge_fold, hostDone_edge]

theorem hostWrite_edge (b k where_ : Nat) (s : State) : (hostWrite b k where_ s).edge = s.edge := by
  unfold hostWrite
  repeat' first
    | with_reducible rfl
    | (simp only [State.edge_mk, State.edge_fold, apply_ite State.edge, ite_self, State.modLedger_edge, setWay_edge, pinWay_edge, closeWay_edge, hostWay_edge]; done)
    | split
    | dsimp only

theorem hostOnTill_edge (b k where_ : Nat) (s : State) : (hostOnTill b k where_ s).edge = s.edge := by
  unfold hostOnTill
  repeat' first
    | with_reducible rfl
    | (simp only [State.edge_foldl, implies_true, State.edge_mk, State.edge_fold, apply_ite State.edge, apply_ite Prod.snd, ite_self, writeBack_edge, closeWay_edge, noteState_edge, renewWay_edge, hostDone_edge, hostWay_edge, hostWrite_edge]; done)
    | split
    | dsimp only

theorem mirrorIgnored_edge (s : State) : (mirrorIgnored s).edge = s.edge := by
  unfold mirrorIgnored
  simp only [bump_edge]

theorem mirrorOnTill_edge (b k type side : Nat) (rc : Rec) (s : State) : (mirrorOnTill b k type side rc s).edge = s.edge := by
  unfold mirrorOnTill
  repeat' first
    | with_reducible rfl
    | (simp only [State.edge_foldl, implies_true, State.edge_mk, State.edge_fold, apply_ite State.edge, apply_ite Prod.snd, ite_self, bump_edge, setWay_edge, pinWay_edge, closeWay_edge, noteState_edge, renewWay_edge, mirrorIgnored_edge]; done)
    | split
    | dsimp only

theorem dropEntry_edge (b id : Nat) (s : State) : (dropEntry b id s).edge = s.edge := by
  unfold dropEntry
  simp only [State.modLedger_edge]

theorem putEntry_edge (b : Nat) (e : MissEntry) (s : State) : (putEntry b e s).edge = s.edge := by
  unfold putEntry
  simp only [State.modLedger_edge]

theorem noteQueue_edge (b : Nat) (s : State) : (noteQueue b s).edge = s.edge := by
  unfold noteQueue
  simp only [peak_edge]

theorem startReloc_edge (b : Nat) (e : MissEntry) (s : State) : (startReloc b e s).2.edge = s.edge := by
  unfold startReloc
  repeat' first
    | with_reducible rfl
    | (simp only [State.edge_foldl, implies_true, State.edge_mk, State.edge_fold, apply_ite State.edge, apply_ite Prod.snd, ite_self, bump_edge, offerMaint_edge]; done)
    | split
    | dsimp only

theorem startReloc_edge' {b : Nat} {e : MissEntry} {s : State} {x' : _} {r' : State} (h' : startReloc b e s = (x', r')) : r'.edge = s.edge := by
  have k' := startReloc_edge b e s
  rw [h'] at k'
  exact k'

theorem noteNoslot_edge (b : Nat) (s : State) : (noteNoslot b s).edge = s.edge := by
  unfold noteNoslot
  simp only [bump_edge, cause_edge]

theorem holdEntry_edge (b : Nat) (e : MissEntry) (d : Desc) (searched : Bool) (s : State) : (holdEntry b e d searched s).state.edge = s.edge := by
  unfold holdEntry
  repeat' first
    | with_reducible rfl
    | (simp only [implies_true, State.edge_foldl2, State.edge_foldl3, Decision.state_ite, Decision.state_done, Decision.state_full, Decision.state_noroom, ScanIssue.state_ite, ScanIssue.state_done, ScanIssue.state_wait, State.edge_mk, State.edge_fold, State.edge_foldl, apply_ite State.edge, apply_ite Prod.snd, apply_ite EntryStep.state, EntryStep.state_served, EntryStep.state_searched, EntryStep.state_refused, EntryStep.state_wait, EntryStep.state_hold, ite_self, noteStall_edge]; done)
    | split
    | dsimp only

theorem holdEntry_edge' {b : Nat} {e : MissEntry} {d : Desc} {searched : Bool} {s : State} {r' : EntryStep} (h' : holdEntry b e d searched s = r') : r'.state.edge = s.edge := by
  rw [← h']; exact holdEntry_edge b e d searched s

theorem setupTurn_edge (b k : Nat) (e : MissEntry) (d : Desc) (a : Word64) (s : State) : (setupTurn b k e d a s).state.edge = s.edge := by
  unfold setupTurn
  repeat' first
    | with_reducible rfl
    | (simp only [implies_true, State.edge_foldl2, State.edge_foldl3, Decision.state_ite, Decision.state_done, Decision.state_full, Decision.state_noroom, ScanIssue.state_ite, ScanIssue.state_done, ScanIssue.state_wait, State.edge_mk, State.edge_fold, State.edge_foldl, apply_ite State.edge, apply_ite Prod.snd, apply_ite EntryStep.state, EntryStep.state_served, EntryStep.state_searched, EntryStep.state_refused, EntryStep.state_wait, EntryStep.state_hold, ite_self, setupPass_edge, holdEntry_edge]; done)
    | split
    | dsimp only
    | ((try have h0 := setupPass_edge' ‹_›; try have g0 := setupPass_edgeN ‹_›; try have h1 := holdEntry_edge' ‹_›); simp only [implies_true, State.edge_foldl2, State.edge_foldl3, Decision.state_ite, Decision.state_done, Decision.state_full, Decision.state_noroom, ScanIssue.state_ite, ScanIssue.state_done, ScanIssue.state_wait, State.edge_mk, State.edge_fold, State.edge_foldl, apply_ite State.edge, apply_ite Prod.snd, apply_ite EntryStep.state, EntryStep.state_served, EntryStep.state_searched, EntryStep.state_refused, EntryStep.state_wait, EntryStep.state_hold, ite_self, setupPass_edge, holdEntry_edge, *]; done)

theorem setupTurn_edge' {b k : Nat} {e : MissEntry} {d : Desc} {a : Word64} {s : State} {r' : EntryStep} (h' : setupTurn b k e d a s = r') : r'.state.edge = s.edge := by
  rw [← h']; exact setupTurn_edge b k e d a s

theorem finishSetup_edge (b : Nat) (e : MissEntry) (d : Desc) (u : Setup) (slot n : Nat) (again : Bool) (s0 : State) : (finishSetup b e d u slot n again s0).state.edge = s0.edge := by
  unfold finishSetup
  repeat' first
    | with_reducible rfl
    | (simp only [implies_true, State.edge_foldl2, State.edge_foldl3, Decision.state_ite, Decision.state_done, Decision.state_full, Decision.state_noroom, ScanIssue.state_ite, ScanIssue.state_done, ScanIssue.state_wait, State.edge_mk, State.edge_fold, State.edge_foldl, apply_ite State.edge, apply_ite Prod.snd, apply_ite EntryStep.state, EntryStep.state_served, EntryStep.state_searched, EntryStep.state_refused, EntryStep.state_wait, EntryStep.state_hold, ite_self, noteNoway_edge, noteSetup_edge, noteStateLost_edge, setupTurn_edge]; done)
    | split
    | dsimp only
    | ((try have h0 := install_edge' ‹_›; try have h1 := setupTurn_edge' ‹_›); simp only [implies_true, State.edge_foldl2, State.edge_foldl3, Decision.state_ite, Decision.state_done, Decision.state_full, Decision.state_noroom, ScanIssue.state_ite, ScanIssue.state_done, ScanIssue.state_wait, State.edge_mk, State.edge_fold, State.edge_foldl, apply_ite State.edge, apply_ite Prod.snd, apply_ite EntryStep.state, EntryStep.state_served, EntryStep.state_searched, EntryStep.state_refused, EntryStep.state_wait, EntryStep.state_hold, ite_self, noteNoway_edge, noteSetup_edge, noteStateLost_edge, setupTurn_edge, *]; done)

theorem finishSetup_edge' {b : Nat} {e : MissEntry} {d : Desc} {u : Setup} {slot n : Nat} {again : Bool} {s0 : State} {r' : EntryStep} (h' : finishSetup b e d u slot n again s0 = r') : r'.state.edge = s0.edge := by
  rw [← h']; exact finishSetup_edge b e d u slot n again s0

theorem setupLook_edge (b : Nat) (e : MissEntry) (d : Desc) (s : State) : (setupLook b e d s).2.2.edge = s.edge := by
  unfold setupLook
  repeat' first
    | with_reducible rfl
    | (simp only [State.edge_foldl, implies_true, State.edge_mk, State.edge_fold, apply_ite State.edge, apply_ite Prod.snd, ite_self, sieveLookup_edge, takeToken_edge]; done)
    | split
    | dsimp only

theorem setupLook_edge' {b : Nat} {e : MissEntry} {d : Desc} {s : State} {x' : _} {y' : _} {r' : State} (h' : setupLook b e d s = (x', y', r')) : r'.edge = s.edge := by
  have k' := setupLook_edge b e d s
  rw [h'] at k'
  exact k'

theorem setupEntry_edge (b : Nat) (e : MissEntry) (d : Desc) (s : State) : (setupEntry b e d s).state.edge = s.edge := by
  unfold setupEntry
  have h1 := setupLook_edge b e d s
  generalize setupLook b e d s = p at h1 ⊢
  obtain ⟨u, ok, t⟩ := p
  dsimp only at h1 ⊢
  rw [← h1]
  split
  · simp only [EntryStep.state_searched, statelessAction_edge]
  · split
    · simp only [EntryStep.state_refused, noteRefusedSetup_edge]
    · have h2 := placeSlot_edge b e.hash e.key d.arr .fill t
      generalize placeSlot b e.hash e.key d.arr .fill t = q at h2 ⊢
      obtain ⟨c, v⟩ := q
      dsimp only at h2 ⊢
      cases c
      · dsimp only
        split
        · rw [EntryStep.state_wait, startReloc_edge, h2]
        · rw [EntryStep.state_refused, noteNoslot_edge, startReloc_edge, h2]
      · dsimp only
        rw [finishSetup_edge, occStep_edge _ _ _ (fun t => putEntry_edge ..), newClaim_edge, h2]

theorem setupEntry_edge' {b : Nat} {e : MissEntry} {d : Desc} {s0 : State} {r' : EntryStep} (h' : setupEntry b e d s0 = r') : r'.state.edge = s0.edge := by
  rw [← h']; exact setupEntry_edge b e d s0

theorem hostAnswered_edge (b : Nat) (a : HostAnswer) (s : State) : (hostAnswered b a s).state.edge = s.edge := by
  unfold hostAnswered
  repeat' first
    | with_reducible rfl
    | (simp only [implies_true, State.edge_foldl2, State.edge_foldl3, Decision.state_ite, Decision.state_done, Decision.state_full, Decision.state_noroom, ScanIssue.state_ite, ScanIssue.state_done, ScanIssue.state_wait, State.edge_mk, State.edge_fold, State.edge_foldl, apply_ite State.edge, apply_ite Prod.snd, apply_ite EntryStep.state, EntryStep.state_served, EntryStep.state_searched, EntryStep.state_refused, EntryStep.state_wait, EntryStep.state_hold, ite_self, hostDone_edge]; done)
    | split
    | dsimp only

theorem hostAnswered_edge' {b : Nat} {a : HostAnswer} {s : State} {r' : EntryStep} (h' : hostAnswered b a s = r') : r'.state.edge = s.edge := by
  rw [← h']; exact hostAnswered_edge b a s

theorem hostCreate_edge (b : Nat) (e : MissEntry) (s : State) : (hostCreate b e s).state.edge = s.edge := by
  unfold hostCreate
  split
  · exact hostAnswered_edge ..
  · have h2 := placeSlot_edge b e.hash e.key (ledgerNow s) .fill s
    generalize placeSlot b e.hash e.key (ledgerNow s) .fill s = q at h2 ⊢
    obtain ⟨c, v⟩ := q
    dsimp only at h2 ⊢
    rw [← h2]
    cases c
    · dsimp only
      split
      · rw [EntryStep.state_wait, startReloc_edge]
      · rw [hostAnswered_edge, noteNoslot_edge, startReloc_edge]
    · dsimp only
      split
      · rename_i hi
        have h := install_edge' hi
        rw [EntryStep.state_hold, hostWay_edge, h, occStep_edge _ _ _ (fun t => putEntry_edge ..), newClaim_edge]
      · rw [EntryStep.state_wait, noteNoway_edge, occStep_edge _ _ _ (fun t => putEntry_edge ..), newClaim_edge]

theorem hostCreate_edge' {b : Nat} {e : MissEntry} {s : State} {r' : EntryStep} (h' : hostCreate b e s = r') : r'.state.edge = s.edge := by
  rw [← h']; exact hostCreate_edge b e s

theorem hostOnRecord_edge (b : Nat) (e : MissEntry) (slot : Nat) (r : Rec) (s : State) : (hostOnRecord b e slot r s).state.edge = s.edge := by
  unfold hostOnRecord
  repeat' first
    | with_reducible rfl
    | (simp only [implies_true, State.edge_foldl2, State.edge_foldl3, Decision.state_ite, Decision.state_done, Decision.state_full, Decision.state_noroom, ScanIssue.state_ite, ScanIssue.state_done, ScanIssue.state_wait, State.edge_mk, State.edge_fold, State.edge_foldl, apply_ite State.edge, apply_ite Prod.snd, apply_ite EntryStep.state, EntryStep.state_served, EntryStep.state_searched, EntryStep.state_refused, EntryStep.state_wait, EntryStep.state_hold, ite_self, State.modLedger_edge, noteNoway_edge, hostOnTill_edge, hostAnswered_edge]; done)
    | split
    | dsimp only
    | ((try have h0 := install_edge' ‹_›; try have h1 := hostAnswered_edge' ‹_›); simp only [implies_true, State.edge_foldl2, State.edge_foldl3, Decision.state_ite, Decision.state_done, Decision.state_full, Decision.state_noroom, ScanIssue.state_ite, ScanIssue.state_done, ScanIssue.state_wait, State.edge_mk, State.edge_fold, State.edge_foldl, apply_ite State.edge, apply_ite Prod.snd, apply_ite EntryStep.state, EntryStep.state_served, EntryStep.state_searched, EntryStep.state_refused, EntryStep.state_wait, EntryStep.state_hold, ite_self, State.modLedger_edge, noteNoway_edge, hostOnTill_edge, hostAnswered_edge, *]; done)

theorem hostOnRecord_edge' {b : Nat} {e : MissEntry} {slot : Nat} {r : Rec} {s : State} {r' : EntryStep} (h' : hostOnRecord b e slot r s = r') : r'.state.edge = s.edge := by
  rw [← h']; exact hostOnRecord_edge b e slot r s

theorem hostOnVault_edge (b : Nat) (e : MissEntry) (s : State) : (hostOnVault b e s).state.edge = s.edge := by
  unfold hostOnVault
  repeat' first
    | with_reducible rfl
    | (simp only [implies_true, State.edge_foldl2, State.edge_foldl3, Decision.state_ite, Decision.state_done, Decision.state_full, Decision.state_noroom, ScanIssue.state_ite, ScanIssue.state_done, ScanIssue.state_wait, State.edge_mk, State.edge_fold, State.edge_foldl, apply_ite State.edge, apply_ite Prod.snd, apply_ite EntryStep.state, EntryStep.state_served, EntryStep.state_searched, EntryStep.state_refused, EntryStep.state_wait, EntryStep.state_hold, ite_self, searchBoth_edge, hostAnswered_edge, hostCreate_edge, hostOnRecord_edge]; done)
    | split
    | dsimp only
    | ((try have h0 := searchBoth_edge' ‹_›; try have h1 := hostAnswered_edge' ‹_›; try have h2 := hostCreate_edge' ‹_›; try have h3 := hostOnRecord_edge' ‹_›); simp only [implies_true, State.edge_foldl2, State.edge_foldl3, Decision.state_ite, Decision.state_done, Decision.state_full, Decision.state_noroom, ScanIssue.state_ite, ScanIssue.state_done, ScanIssue.state_wait, State.edge_mk, State.edge_fold, State.edge_foldl, apply_ite State.edge, apply_ite Prod.snd, apply_ite EntryStep.state, EntryStep.state_served, EntryStep.state_searched, EntryStep.state_refused, EntryStep.state_wait, EntryStep.state_hold, ite_self, searchBoth_edge, hostAnswered_edge, hostCreate_edge, hostOnRecord_edge, *]; done)

theorem hostOnVault_edge' {b : Nat} {e : MissEntry} {s : State} {r' : EntryStep} (h' : hostOnVault b e s = r') : r'.state.edge = s.edge := by
  rw [← h']; exact hostOnVault_edge b e s

theorem mirrorOnVault_edge (b : Nat) (e : MissEntry) (type side : Nat) (rc : Rec) (s : State) :
    (mirrorOnVault b e type side rc s).state.edge = s.edge := by
  unfold mirrorOnVault
  generalize hx : searchBoth b .mirror e.hash e.key (ledgerNow s) s = x
  obtain ⟨found, poisoned, t⟩ := x
  have ht := searchBoth_edge' hx
  dsimp only
  split
  · split
    · rename_i hi
      have h1 := install_edge' hi
      simp only [EntryStep.state_served, EntryStep.state_searched, EntryStep.state_refused, EntryStep.state_wait, EntryStep.state_hold, mirrorOnTill_edge, h1, ht]
    · simp only [EntryStep.state_served, EntryStep.state_searched, EntryStep.state_refused, EntryStep.state_wait, EntryStep.state_hold, noteNoway_edge, ht]
  · split
    · exact ht
    · split
      · rename_i hp
        have h1 := placeSlot_edge' hp
        split
        · rename_i hi
          have h2 := install_edge' hi
          simp only [EntryStep.state_served, EntryStep.state_searched, EntryStep.state_refused, EntryStep.state_wait, EntryStep.state_hold, bump_edge, h2, occStep_edge, putEntry_edge, implies_true, newClaim_edge, h1, ht]
        · simp only [EntryStep.state_served, EntryStep.state_searched, EntryStep.state_refused, EntryStep.state_wait, EntryStep.state_hold, noteNoway_edge, occStep_edge, putEntry_edge, implies_true, newClaim_edge, h1, ht]
      · rename_i hp
        have h1 := placeSlot_edge' hp
        split <;> simp only [EntryStep.state_served, EntryStep.state_searched, EntryStep.state_refused, EntryStep.state_wait, EntryStep.state_hold, bump_edge, noteNoslot_edge, startReloc_edge, h1, ht]

theorem mirrorOnVault_edge' {b : Nat} {e : MissEntry} {type side : Nat} {rc : Rec} {s : State} {r' : EntryStep} (h' : mirrorOnVault b e type side rc s = r') : r'.state.edge = s.edge := by
  rw [← h']; exact mirrorOnVault_edge b e type side rc s

theorem searchAnew_edge (e : MissEntry) (s : State) : (searchAnew e s).state.edge = s.edge := by
  rfl

theorem searchAnew_edge' {e : MissEntry} {s : State} {r' : EntryStep} (h' : searchAnew e s = r') : r'.state.edge = s.edge := by
  rw [← h']; exact searchAnew_edge e s

theorem packetOnTill_edge (b k : Nat) (e : MissEntry) (d : Desc) (searched : Bool) (s : State) :
    (packetOnTill b k e d searched s).state.edge = s.edge := by
  unfold packetOnTill
  extract_lets first
  clear_value first
  cases first <;> dsimp only
  · split
    · rename_i h
      exact decide_edge' h
    · exact holdEntry_edge ..
    · rename_i h
      rw [searchAnew_edge]
      exact decide_edgeN h
  · exact setupTurn_edge ..

theorem packetOnTill_edge' {b k : Nat} {e : MissEntry} {d : Desc} {searched : Bool} {s : State} {r' : EntryStep} (h' : packetOnTill b k e d searched s = r') : r'.state.edge = s.edge := by
  rw [← h']; exact packetOnTill_edge b k e d searched s

theorem serve_edge (b : Nat) (e : MissEntry) (w : Waiter) (searched : Bool) (s : State) :
    (serve b e w searched s).state.edge = s.edge := by
  unfold serve
  split
  · exact searchAnew_edge ..
  · split
    · split
      · rw [searchAnew_edge, leaveTill_edge]
      · cases w <;> dsimp only
        · exact packetOnTill_edge ..
        · rw [EntryStep.state_hold, hostOnTill_edge]
        · rw [EntryStep.state_served, openOnWay_edge]
        · rw [EntryStep.state_served, mirrorOnTill_edge]
    · cases w <;> dsimp only
      · split
        · exact setupEntry_edge ..
        · exact searchAnew_edge ..
      · split
        · rw [EntryStep.state_wait]
        · split
          · exact hostOnVault_edge ..
          · exact searchAnew_edge ..
      · split
        · rw [EntryStep.state_searched, answerOpen_edge]
        · exact searchAnew_edge ..
      · split
        · rw [EntryStep.state_wait]
        · split
          · exact mirrorOnVault_edge ..
          · exact searchAnew_edge ..

theorem serve_edge' {b : Nat} {e : MissEntry} {w : Waiter} {searched : Bool} {s : State} {r' : EntryStep} (h' : serve b e w searched s = r') : r'.state.edge = s.edge := by
  rw [← h']; exact serve_edge b e w searched s

theorem runEntry_edge (n b : Nat) (e : MissEntry) (searched : Bool) (s : State) : (runEntry n b e searched s).edge = s.edge := by
  induction n generalizing e searched s with
  | zero => exact putEntry_edge ..
  | succ n ih =>
    rw [runEntry]
    split
    · exact dropEntry_edge ..
    · split <;> rename_i h <;> have hk := serve_edge' h <;> dsimp only [EntryStep.state] at hk <;>
        simp only [ih, putEntry_edge, State.edge_foldl, setupAct_edge, implies_true, hk]

theorem goOn_edge (b : Nat) (e : MissEntry) (searched : Bool) (s : State) : (goOn b e searched s).edge = s.edge := by
  unfold goOn
  simp only [runEntry_edge]

theorem attach_edge' {b : Nat} {hash : Word64} {key : Ckey} {w : Waiter} {s s' : State} (h : attach b hash key w s = some s') :
    s'.edge = s.edge := by
  unfold attach at h
  dsimp only at h
  split at h
  · cases h
  · split at h
    · cases h; simp only [noteQueue_edge, putEntry_edge]
    · split at h
      · cases h
      · cases h
        simp only [apply_ite State.edge, goOn_edge, noteQueue_edge, putEntry_edge, State.modLedger_edge, ite_self]

theorem fillFound_edge (b : Nat) (e : MissEntry) (f : Fill) (s : State) : (fillFound b e f s).edge = s.edge := by
  unfold fillFound
  repeat' first
    | with_reducible rfl
    | (simp only [implies_true, State.edge_foldl2, State.edge_foldl3, Decision.state_ite, Decision.state_done, Decision.state_full, Decision.state_noroom, ScanIssue.state_ite, ScanIssue.state_done, ScanIssue.state_wait, State.edge_mk, State.edge_fold, State.edge_foldl, apply_ite State.edge, apply_ite Prod.snd, apply_ite EntryStep.state, EntryStep.state_served, EntryStep.state_searched, EntryStep.state_refused, EntryStep.state_wait, EntryStep.state_hold, ite_self, noteNoway_edge, putEntry_edge, goOn_edge]; done)
    | split
    | dsimp only
    | ((try have h0 := install_edge' ‹_›); simp only [implies_true, State.edge_foldl2, State.edge_foldl3, Decision.state_ite, Decision.state_done, Decision.state_full, Decision.state_noroom, ScanIssue.state_ite, ScanIssue.state_done, ScanIssue.state_wait, State.edge_mk, State.edge_fold, State.edge_foldl, apply_ite State.edge, apply_ite Prod.snd, apply_ite EntryStep.state, EntryStep.state_served, EntryStep.state_searched, EntryStep.state_refused, EntryStep.state_wait, EntryStep.state_hold, ite_self, noteNoway_edge, putEntry_edge, goOn_edge, *]; done)

theorem fillNone_edge (b : Nat) (e : MissEntry) (s : State) : (fillNone b e s).edge = s.edge := by
  unfold fillNone
  simp only [goOn_edge]

theorem peerAnswer_edge (b id : Nat) (r : Option Rec) (s : State) : (peerAnswer b id r s).edge = s.edge := by
  unfold peerAnswer
  repeat' first
    | with_reducible rfl
    | (simp only [State.edge_mk, State.edge_fold, apply_ite State.edge, ite_self, bump_edge, writeRecord_edge, fillFound_edge, fillNone_edge]; done)
    | split
    | dsimp only

theorem readSlot_edge (b : Nat) (s : State) : (readSlot b s).edge = s.edge := by
  unfold readSlot
  repeat' first
    | with_reducible rfl
    | (simp only [State.edge_mk, State.edge_fold, apply_ite State.edge, ite_self, readRecord_edge, hostDone_edge]; done)
    | split
    | dsimp only

theorem hostBegin_edge (b : Nat) (s : State) : (hostBegin b s).edge = s.edge := by
  unfold hostBegin
  dsimp only
  split
  · exact hostDone_edge ..
  · split
    · exact readSlot_edge ..
    · split
      · exact hostDone_edge ..
      · split
        · exact State.modLedger_edge ..
        · have hm : (s.modLedger b fun l => { l with hreq := { l.hreq with held := false } }).edge = s.edge := State.modLedger_edge ..
          generalize (s.modLedger b fun l => { l with hreq := { l.hreq with held := false } }) = t at hm ⊢
          rw [← hm]
          generalize probe t b _ _ = p
          cases hp : Option.filter (fun k => !((s.ledgerAt b).hreq.op == 3 && roomless t b k (ledgerNow t))) p with
          | some k => exact hostOnTill_edge ..
          | none =>
            refine State.edge_getD (fun u h => (attach_edge' h).trans ?_) (hostDone_edge ..)
            cases p with
            | none => rfl
            | some k => exact leaveTill_edge ..

theorem hostRelease_edge (b : Nat) (s : State) : (hostRelease b s).edge = s.edge := by
  unfold hostRelease
  repeat' first
    | with_reducible rfl
    | (simp only [implies_true, State.edge_foldl2, State.edge_foldl3, Decision.state_ite, Decision.state_done, Decision.state_full, Decision.state_noroom, ScanIssue.state_ite, ScanIssue.state_done, ScanIssue.state_wait, State.edge_mk, State.edge_fold, State.edge_foldl, apply_ite State.edge, apply_ite Prod.snd, apply_ite EntryStep.state, EntryStep.state_served, EntryStep.state_searched, EntryStep.state_refused, EntryStep.state_wait, EntryStep.state_hold, ite_self, hostBegin_edge]; done)
    | split
    | dsimp only

theorem hostResume_edge (b k : Nat) (s : State) : (hostResume b k s).edge = s.edge := by
  unfold hostResume
  simp only [State.edge_mk, State.edge_fold, apply_ite State.edge, ite_self, hostOnTill_edge]

/-! ### Nose -/

theorem putW14_edge (b k : Nat) (v : Word64) (s : State) : (putW14 b k v s).edge = s.edge := by
  unfold putW14
  simp only [modWay_edge]

theorem setGap_edge (b k : Nat) (s : State) : (setGap b k s).edge = s.edge := by
  unfold setGap
  split <;> simp only [State.edge_mk, State.edge_fold, putW14_edge]

theorem settleGaps_edge (b : Nat) (s : State) : (settleGaps b s).edge = s.edge := by
  unfold settleGaps
  simp only [State.edge_foldl, implies_true, State.edge_mk, State.edge_fold, apply_ite State.edge, ite_self, State.setNose_edge, setGap_edge]

theorem giveResult_edge (q : ScanReq) (w : Word64) (s : State) : (giveResult q w s).edge = s.edge := by
  unfold giveResult
  simp only [State.modTeller_edge]

theorem loseReport_edge (b : Nat) (hash w : Word64) (s : State) : (loseReport b hash w s).edge = s.edge := by
  unfold loseReport
  simp only [bump_edge, cause_edge, emit_edge]

theorem offerReports_edge (b n : Nat) (s : State) : (offerReports b n s).edge = s.edge := by
  induction n generalizing s with
  | zero => rfl
  | succ n ih =>
    rw [offerReports]
    split
    · rfl
    · dsimp only
      split
      · simp only [ih, loseReport_edge, State.modNose_edge]
      · split
        · simp only [ih, addItem_edge, State.modNose_edge]
        · exact State.modNose_edge ..

theorem report_edge (b : Nat) (q : ScanReq) (w : Word64) (s : State) : (report b q w s).edge = s.edge := by
  unfold report
  simp only [State.edge_mk, State.edge_fold, apply_ite State.edge, ite_self, State.setNose_edge, loseReport_edge, offerReports_edge]

theorem noteBacklog_edge (b : Nat) (s : State) : (noteBacklog b s).edge = s.edge := by
  unfold noteBacklog
  simp only [State.modNose_edge]

theorem leaveRequest_edge (b : Nat) (q : ScanReq) (status : Nat) (a : ScanAcc) (s : State) : (leaveRequest b q status a s).edge = s.edge := by
  unfold leaveRequest
  repeat' first
    | with_reducible rfl
    | (simp only [State.edge_mk, State.edge_fold, apply_ite State.edge, ite_self, bump_edge, bump64_edge, perfN_edge, perf_edge, release_edge, modWay_edge, hostResume_edge, settleGaps_edge, giveResult_edge, report_edge, noteBacklog_edge]; done)
    | split
    | dsimp only

theorem endRun_edge (b : Nat) (r : NoseRun) (status : Nat) (a : ScanAcc) (done gap : Bool) (s : State) : (endRun b r status a done gap s).edge = s.edge := by
  unfold endRun
  split <;> simp only [State.edge_mk, State.edge_fold, State.modNose_edge, putW14_edge, leaveRequest_edge]

theorem endFault_edge (b : Nat) (r : NoseRun) (a : ScanAcc) (s : State) : (endFault b r a s).edge = s.edge := by
  unfold endFault
  simp only [bump_edge, cause_edge, emit_edge, endRun_edge]

theorem stopRun_edge (b : Nat) (r : NoseRun) (s : State) : (stopRun b r s).edge = s.edge := by
  unfold stopRun
  simp only [State.edge_foldl, implies_true, State.edge_mk, State.edge_fold, apply_ite State.edge, ite_self, bump_edge, endRun_edge, endFault_edge]

theorem noseStop_edge (b : Nat) (s : State) : (noseStop b s).edge = s.edge := by
  unfold noseStop
  dsimp only
  rw [State.edge_foldl]
  · rw [State.modNose_edge]
    split
    · exact stopRun_edge ..
    · rfl
  · intro t r
    split <;> simp only [leaveRequest_edge, bump_edge, setGap_edge]

theorem noseOff_edge (b : Nat) (s : State) : (noseOff b s).edge = s.edge := by
  unfold noseOff
  dsimp only
  rw [State.edge_foldl, State.modNose_edge]
  intro t q
  split <;> simp only [leaveRequest_edge, setGap_edge]

/-! ### Audit -/

theorem notePeerRepair_edge (a outcome : Nat) (s : State) : (notePeerRepair a outcome s).edge = s.edge := by
  unfold notePeerRepair
  simp only [emit_edge]

theorem peerFail_edge (slot outcome : Nat) (counted : Bool) (s : State) : (peerFail slot outcome counted s).edge = s.edge := by
  unfold peerFail
  simp only [State.edge_mk, State.edge_fold, apply_ite State.edge, ite_self, bump_edge, cause_edge, notePeerRepair_edge]

theorem auditAnswer_edge (slot : Nat) (r : Option Rec) (status : Nat) (s : State) : (auditAnswer slot r status s).edge = s.edge := by
  unfold auditAnswer
  repeat' first
    | with_reducible rfl
    | (simp only [State.edge_mk, State.edge_fold, apply_ite State.edge, ite_self, bump_edge, writeRecord_edge, notePeerRepair_edge, peerFail_edge]; done)
    | split
    | dsimp only

/-! ### TellerMem -/

theorem noteDrained_edge (d : Nat) (s : State) : (noteDrained d s).edge = s.edge := by
  unfold noteDrained
  simp only [State.edge_mk, State.edge_fold, apply_ite State.edge, ite_self, cause_edge]

/-! ### Tm -/

theorem shape_edge (n : Nat) (ended : Option Nat) (s : State) : (shape n ended s).edge = s.edge := by
  unfold shape
  simp only [State.edge_mk, State.edge_fold, apply_ite State.edge, ite_self, State.setClass_edge]

theorem popHead_edge (n : Nat) (s : State) : (popHead n s).edge = s.edge := by
  unfold popHead
  simp only [setQueue_edge, settleEmpty_edge]

theorem chargeEnd_edge (k : Nat) (y : Sending) (len : Nat) (s : State) : (chargeEnd k y len s).edge = s.edge := by
  unfold chargeEnd
  simp only [State.edge_mk, State.edge_fold, apply_ite State.edge, ite_self, State.setClass_edge, State.modSched_edge, flushFc_edge, settleEmpty_edge, shape_edge]

theorem holdDiscard_edge (n f : Nat) (s : State) : (holdDiscard n f s).edge = s.edge := by
  induction f generalizing s with
  | zero => rfl
  | succ f ih =>
    rw [holdDiscard]
    repeat' first
      | with_reducible rfl
      | (simp only [ih, discardCopy_edge, perf_edge, cause_edge, popHead_edge]; done)
      | split

theorem freezeQueues_edge (k : Nat) (s : State) : (freezeQueues k s).edge = s.edge := by
  unfold freezeQueues
  dsimp only
  rw [State.edge_foldl _ fun t n => by split; exact holdDiscard_edge ..; rfl]
  split <;> simp only [release_edge, countCopy_edge, State.edge_foldl, State.setClass_edge, State.setSched_edge, implies_true]

theorem resumeQueues_edge (k : Nat) (s : State) : (resumeQueues k s).edge = s.edge := by
  unfold resumeQueues
  simp only [State.edge_foldl, implies_true, State.edge_mk, State.edge_fold, apply_ite State.edge, ite_self, State.setClass_edge, State.modSched_edge]

/-! ### Dma -/

theorem hostSkip_edge (c : Copy) (s : State) : (hostSkip c s).edge = s.edge := by
  unfold hostSkip
  repeat' first
    | with_reducible rfl
    | (simp only [State.edge_foldl, implies_true, State.edge_mk, State.edge_fold, apply_ite State.edge, apply_ite Prod.snd, ite_self, bump_edge]; done)
    | split
    | dsimp only

theorem packetDone_edge (s : State) : (packetDone s).edge = s.edge := by
  unfold packetDone
  repeat' first
    | with_reducible rfl
    | (simp only [State.edge_mk, State.edge_fold, apply_ite State.edge, ite_self, State.modSched_edge, bump_edge, perf_edge, release_edge, countCopy_edge, chargeEnd_edge, hostSkip_edge]; done)
    | split
    | dsimp only

theorem spanDone_edge (kind : Nat) (s : State) : (spanDone kind s).edge = s.edge := by
  unfold spanDone
  simp only [State.edge_mk, State.edge_fold, apply_ite State.edge, ite_self, perf_edge, packetDone_edge]

/-! ### Ports -/

theorem noteLink_edge (p : Nat) (s : State) : (noteLink p s).edge = s.edge := by
  unfold noteLink
  simp only [emit_edge]

theorem setLanes_edge (p : Nat) (f : Lane → Lane) (s : State) : (setLanes p f s).edge = s.edge := by
  rfl

theorem leaveTo_edge (p : Nat) (st : LinkState) (s : State) : (leaveTo p st s).edge = s.edge := by
  unfold leaveTo
  simp only [State.edge_mk, State.edge_fold, apply_ite State.edge, ite_self, State.setPort_edge, bump_edge, cause_edge, freezeQueues_edge, noteLink_edge, setLanes_edge]

theorem portStart_edge (p : Nat) (s : State) : (portStart p s).edge = s.edge := by
  unfold portStart
  simp only [State.edge_mk, State.edge_fold, apply_ite State.edge, ite_self, State.modPort_edge, leaveTo_edge]

theorem portStop_edge (p : Nat) (s : State) : (portStop p s).edge = s.edge := by
  unfold portStop
  simp only [State.edge_mk, State.edge_fold, apply_ite State.edge, ite_self, leaveTo_edge]

theorem octetStop_edge (o : Nat) (s : State) : (octetStop o s).edge = s.edge := by
  unfold octetStop
  simp only [State.edge_foldl, implies_true, State.edge_mk, State.edge_fold, apply_ite State.edge, ite_self, portStop_edge]

theorem octetStart_edge (o : Nat) (s : State) : (octetStart o s).edge = s.edge := by
  unfold octetStart
  simp only [State.edge_foldl, implies_true, State.edge_mk, State.edge_fold, apply_ite State.edge, ite_self, portStart_edge]

/-! ### Tether -/

theorem tethBringUp_edge (s : State) : (tethBringUp s).edge = s.edge := by
  unfold tethBringUp
  simp only [State.edge_mk, State.edge_fold, apply_ite State.edge, ite_self, cause_edge]

theorem recoverFail_edge (outcome : Nat) (r : Recovery) (s : State) : (recoverFail outcome r s).edge = s.edge := by
  unfold recoverFail
  split <;> simp only [State.edge_mk, State.edge_fold, bump_edge, peerAnswer_edge, auditAnswer_edge]

theorem failRecoveries_edge (p : Recovery → Bool) (outcome : Nat) (s : State) : (failRecoveries p outcome s).edge = s.edge := by
  unfold failRecoveries
  simp only [State.edge_foldl, implies_true, State.edge_mk, State.edge_fold, apply_ite State.edge, ite_self, recoverFail_edge]

theorem unpair_edge (s : State) : (unpair s).edge = s.edge := by
  unfold unpair
  simp only [State.edge_mk, State.edge_fold, freezeQueues_edge]

theorem noteLost_edge (s : State) : (noteLost s).edge = s.edge := by
  unfold noteLost
  simp only [State.edge_mk, State.edge_fold, stamp_edge]

theorem setPairState_edge (p : PairState) (s : State) : (setPairState p s).edge = s.edge := by
  unfold setPairState
  repeat' first
    | with_reducible rfl
    | (simp only [State.edge_mk, State.edge_fold, apply_ite State.edge, ite_self, bump_edge, cause_edge, emit_edge, perf_edge, resumeQueues_edge, failRecoveries_edge, unpair_edge, noteLost_edge]; done)
    | split
    | dsimp only

theorem tethOff_edge (s : State) : (tethOff s).edge = s.edge := by
  unfold tethOff
  simp only [State.edge_mk, State.edge_fold, apply_ite State.edge, ite_self, cause_edge, setPairState_edge]

/-! ### VaultCtl -/

theorem srBegin_edge (why : SrCause) (c : Nat) (s : State) : (srBegin why c s).edge = s.edge := by
  unfold srBegin
  simp only [State.edge_foldl, implies_true, State.edge_mk, State.edge_fold, apply_ite State.edge, ite_self, State.modChan_edge, closeMerge_edge]

theorem srBeginAll_edge (s : State) : (srBeginAll s).edge = s.edge := by
  unfold srBeginAll
  repeat' first
    | with_reducible rfl
    | (simp only [State.edge_foldl, implies_true, State.edge_mk, State.edge_fold, apply_ite State.edge, apply_ite Prod.snd, ite_self, srBegin_edge]; done)
    | split
    | dsimp only

/-! ### Treasury -/

theorem paceOff_edge (b : Nat) (s : State) : (paceOff b s).edge = s.edge := by
  unfold paceOff
  simp only [State.edge_foldl, implies_true, State.edge_mk, State.edge_fold, apply_ite State.edge, ite_self, regStore_edge, emit_edge]

theorem setPstate_edge (p : PState) (s : State) : (setPstate p s).edge = s.edge := by
  unfold setPstate
  simp only [State.edge_mk, State.edge_fold, apply_ite State.edge, ite_self, emit_edge]

theorem settlePstate_edge (s : State) : (settlePstate s).edge = s.edge := by
  unfold settlePstate
  simp only [State.edge_mk, State.edge_fold, apply_ite State.edge, ite_self, setPstate_edge]

theorem setDomain_edge (d : Nat) (x : DomState) (s : State) : (setDomain d x s).edge = s.edge := by
  unfold setDomain
  simp only [State.edge_mk, State.edge_fold, apply_ite State.edge, ite_self, State.setDom_edge, emit_edge, settlePstate_edge]

theorem nosePowerUp_edge (s : State) : (nosePowerUp s).edge = s.edge := by
  rfl

theorem domainUp_edge (d : Nat) (edge : Bool) (s : State) : (domainUp d edge s).edge = s.edge := by
  unfold domainUp
  simp only [State.edge_mk, State.edge_fold, apply_ite State.edge, ite_self, State.modLedger_edge, cofferClear_edge, hostRelease_edge, octetStart_edge, tethBringUp_edge, setDomain_edge, nosePowerUp_edge]

theorem domainDown_edge (d : Nat) (x : DomState) (s : State) : (domainDown d x s).edge = s.edge := by
  unfold domainDown
  simp only [State.edge_mk, State.edge_fold, apply_ite State.edge, ite_self, State.modLedger_edge, writeBackAll_edge, returnAllowance_edge, cofferClear_edge, octetStop_edge, tethOff_edge, paceOff_edge, noseOff_edge, setDomain_edge]

theorem acceptDomain_edge (st : Nat) (ds : List Nat) (s : State) : (acceptDomain st ds s).edge = s.edge := by
  unfold acceptDomain
  simp only [State.edge_mk, State.edge_fold, apply_ite State.edge, ite_self]

theorem setBrown_edge (x : Brown) (s : State) : (setBrown x s).edge = s.edge := by
  unfold setBrown
  simp only [State.edge_mk, State.edge_fold, bump_edge, emit_edge]

theorem brownWarn_edge (s : State) : (brownWarn s).edge = s.edge := by
  unfold brownWarn
  simp only [State.edge_foldl, implies_true, State.edge_mk, State.edge_fold, apply_ite State.edge, ite_self, cause_edge, brownoutFlush_edge, revokeAll_edge, noseStop_edge, setBrown_edge]

/-! ### Security -/

theorem identityBad_edge (s : State) : (identityBad s).edge = s.edge := by
  unfold identityBad
  simp only [State.edge_mk, State.edge_fold, cause_edge, emit_edge]

theorem setMbox_edge (side : Bool) (c : MboxChan) (s : State) : (setMbox side c s).edge = s.edge := by
  rfl

theorem mboxOutput_edge (side : Bool) (b : Bytes) (s : State) : (mboxOutput side b s).edge = s.edge := by
  unfold mboxOutput
  simp only [State.edge_foldl, implies_true, State.edge_mk, State.edge_fold, apply_ite State.edge, ite_self, regStore_edge]

theorem mboxEnd_edge (side : Bool) (res : Nat) (out : Bytes) (s : State) : (mboxEnd side res out s).edge = s.edge := by
  unfold mboxEnd
  simp only [State.edge_mk, State.edge_fold, apply_ite State.edge, ite_self, cause_edge, emit_edge, setMbox_edge, mboxOutput_edge]

theorem mboxPerst_edge (s : State) : (mboxPerst s).edge = s.edge := by
  unfold mboxPerst
  simp only [State.edge_mk, State.edge_fold, apply_ite State.edge, ite_self, mboxEnd_edge]

/-! ### Boot -/

theorem noteLoad_edge (s : State) : (noteLoad s).edge = s.edge := by
  unfold noteLoad
  simp only [emit_edge]

theorem enterLoadState_edge (x : LoadState) (s : State) : (enterLoadState x s).edge = s.edge := by
  unfold enterLoadState
  split <;> simp only [State.edge_mk, State.edge_fold, cause_edge, noteLoad_edge]

theorem setLoadError_edge (code sect : Nat) (s : State) : (setLoadError code sect s).edge = s.edge := by
  rfl

theorem freeHalf_edge (h : Nat) (s : State) : (freeHalf h s).edge = s.edge := by
  unfold freeHalf
  simp only [State.edge_mk, State.edge_fold, apply_ite State.edge, ite_self, cause_edge]

theorem startLoad_edge (push keep : Bool) (s : State) : (startLoad push keep s).edge = s.edge := by
  unfold startLoad
  simp only [State.edge_mk, State.edge_fold, apply_ite State.edge, ite_self, acceptDomain_edge, enterLoadState_edge, freeHalf_edge]

theorem fallBack_edge (s : State) : (fallBack s).edge = s.edge := by
  unfold fallBack
  simp only [State.edge_mk, State.edge_fold, apply_ite State.edge, ite_self, startLoad_edge]

theorem refuseLoad_edge (code sect : Nat) (s : State) : (refuseLoad code sect s).edge = s.edge := by
  unfold refuseLoad
  simp only [State.edge_mk, State.edge_fold, apply_ite State.edge, ite_self, cause_edge, domainDown_edge, noteLoad_edge, setLoadError_edge, fallBack_edge]

theorem discardFlight_edge (s : State) : (discardFlight s).edge = s.edge := by
  rfl

theorem dropMissEntry_edge (b : Nat) (s : State) : (dropMissEntry b s).edge = s.edge := by
  unfold dropMissEntry
  repeat' first
    | with_reducible rfl
    | (simp only [State.edge_foldl, implies_true, State.edge_mk, State.edge_fold, apply_ite State.edge, apply_ite Prod.snd, ite_self, State.modLedger_edge, occStep_edge]; done)
    | split
    | dsimp only

theorem dropMisses_edge (s : State) : (dropMisses s).edge = s.edge := by
  unfold dropMisses
  simp only [State.edge_foldl, implies_true, State.edge_mk, State.edge_fold, apply_ite State.edge, ite_self, dropMissEntry_edge]

theorem settleFlow_edge (s : State) : (settleFlow s).edge = s.edge := by
  unfold settleFlow
  simp only [State.edge_foldl, implies_true, State.edge_mk, State.edge_fold, apply_ite State.edge, ite_self, fcUpdate_edge]

theorem discardAll_edge (s : State) : (discardAll s).edge = s.edge := by
  unfold discardAll
  simp only [State.edge_foldl, implies_true, State.edge_mk, State.edge_fold, apply_ite State.edge, ite_self, noteDrained_edge, discardFlight_edge, dropMisses_edge, settleFlow_edge]

theorem clearTills_edge (s : State) : (clearTills s).edge = s.edge := by
  unfold clearTills
  simp only [State.edge_foldl, implies_true, State.edge_mk, State.edge_fold, apply_ite State.edge, ite_self, State.modLedger_edge, unclaim_edge, writeBack_edge]

theorem failLoad_edge (code sect : Nat) (s : State) : (failLoad code sect s).edge = s.edge := by
  unfold failLoad
  simp only [State.edge_foldl, implies_true, State.edge_mk, State.edge_fold, apply_ite State.edge, ite_self, srBeginAll_edge, domainDown_edge, acceptDomain_edge, enterLoadState_edge, setLoadError_edge, fallBack_edge, discardAll_edge, clearTills_edge]

theorem loadError_edge (code sect : Nat) (s : State) : (loadError code sect s).edge = s.edge := by
  unfold loadError
  split <;> simp only [State.edge_mk, State.edge_fold, refuseLoad_edge, failLoad_edge]

theorem abortLoad_edge (s : State) : (abortLoad s).edge = s.edge := by
  unfold abortLoad
  simp only [loadError_edge]

theorem noteBoot_edge (step : Nat) (s : State) : (noteBoot step s).edge = s.edge := by
  unfold noteBoot
  simp only [emit_edge]

theorem unwrap_edge (s : State) : (unwrap s).edge = s.edge := by
  unfold unwrap
  repeat' first
    | with_reducible rfl
    | (simp only [State.edge_mk, State.edge_fold, apply_ite State.edge, ite_self, emit_edge, identityBad_edge]; done)
    | split
    | dsimp only

/-! ### PcieLink -/

theorem loseRecord_edge (n : Nat) (s : State) : (loseRecord n s).edge = s.edge := by
  unfold loseRecord
  simp only [State.edge_mk, State.edge_fold, apply_ite State.edge, ite_self, spanDone_edge]

/-! ### The commands -/


end Sys2Proof.Machine
end

