-- ==== Sys2Proof/Laws/Flows.lean ====
section
/-!
SUPPORT. What the commands of ports and queues leave alone in the flows: for each operation one lemma, and for each command one.
-/
set_option linter.all false
namespace Sys2Proof.Machine

theorem State.flows_mk (pending : List Instr) (free : Nat) (regs : Tbl Word32) (dispo : Tbl Nat) (time : TimeBase) (sill : Sillage) (msix : Msix) (perf : Perf) (treas : Treasury) (fuses : Fuses) (sec : SecEngine) (pins : Pins) (loader : Loader) (pcie : Pcie) (coffer : Coffer) (rings : Tbl Ring) (out : Outputs) (lastBatch : Nat) (ports : Tbl Port) (portCfg : Tbl PortCfg) (lanes : Tbl Lane) (laneInv : Tbl Nat) (laneTaps : Tbl Nat) (teth : Tether) (swc : SwitchCore) (tm : TrafficMgr) (templates : Bytes) (assay : Tbl Assayer) (sieve : Sieve) (accord : Accord) (ledger : Tbl Ledger) (disp : Tbl Disp) (tellers : Tbl Teller) (desks : Tbl Desk) (nose : Tbl Nose) (automata : NoseAutomata) (vault : Vault) (audit : Auditor) :
    State.flows ⟨pending, free, regs, dispo, time, sill, msix, perf, treas, fuses, sec, pins, loader, pcie, coffer, rings, out, lastBatch, ports, portCfg, lanes, laneInv, laneTaps, teth, swc, tm, templates, assay, sieve, accord, ledger, disp, tellers, desks, nose, automata, vault, audit⟩ = (ledger, disp, tellers, desks, nose, vault) := (rfl)

theorem State.flows_fold (s : State) :
    (s.ledger, s.disp, s.tellers, s.desks, s.nose, s.vault) = s.flows := (rfl)

theorem State.flows_foldl {α : Type} (f : State → α → State) (h : ∀ s x, (f s x).flows = s.flows) (l : List α) (s : State) :
    (l.foldl f s).flows = s.flows := by
  induction l generalizing s with
  | nil => rfl
  | cons x xs ih => rw [List.foldl_cons, ih, h]

theorem State.flows_foldl2 {α β : Type} (f : β × State → α → β × State) (h : ∀ a x, (f a x).2.flows = a.2.flows) (l : List α)
    (a : β × State) : (l.foldl f a).2.flows = a.2.flows := by
  induction l generalizing a with
  | nil => rfl
  | cons x xs ih => rw [List.foldl_cons, ih, h]

theorem State.flows_foldl3 {α β γ : Type} (f : β × γ × State → α → β × γ × State) (h : ∀ a x, (f a x).2.2.flows = a.2.2.flows)
    (l : List α) (a : β × γ × State) : (l.foldl f a).2.2.flows = a.2.2.flows := by
  induction l generalizing a with
  | nil => rfl
  | cons x xs ih => rw [List.foldl_cons, ih, h]

theorem State.flows_getD {o : Option State} {s d : State} (h : ∀ t, o = some t → t.flows = s.flows) (hd : d.flows = s.flows) :
    (o.getD d).flows = s.flows := by
  cases o with
  | none => exact hd
  | some t => exact h t rfl

theorem gated_flows (f : State → State) (s : State) (h : ∀ s, (f s).flows = s.flows) : (gated f s).flows = s.flows := by
  unfold gated; split
  · exact h s
  · rfl

/-! ### State -/


/-! ### Ops -/

theorem State.setAssay_flows (s : State) (b : Nat) (a : Assayer) : (State.setAssay s b a).flows = s.flows := by
  rfl

theorem State.setPort_flows (s : State) (p : Nat) (x : Port) : (State.setPort s p x).flows = s.flows := by
  rfl

theorem State.setRing_flows (s : State) (n : Nat) (r : Ring) : (State.setRing s n r).flows = s.flows := by
  rfl

theorem State.setSched_flows (s : State) (k : Nat) (x : Sched) : (State.setSched s k x).flows = s.flows := by
  rfl

theorem State.setClass_flows (s : State) (n : Nat) (x : TmClass) : (State.setClass s n x).flows = s.flows := by
  rfl

theorem State.modAssay_flows (s : State) (b : Nat) (f : Assayer → Assayer) : (State.modAssay s b f).flows = s.flows := by
  unfold State.modAssay
  simp only [State.setAssay_flows]

theorem State.modPort_flows (s : State) (p : Nat) (f : Port → Port) : (State.modPort s p f).flows = s.flows := by
  unfold State.modPort
  simp only [State.setPort_flows]

theorem State.modRing_flows (s : State) (n : Nat) (f : Ring → Ring) : (State.modRing s n f).flows = s.flows := by
  unfold State.modRing
  simp only [State.setRing_flows]

theorem State.modSched_flows (s : State) (k : Nat) (f : Sched → Sched) : (State.modSched s k f).flows = s.flows := by
  unfold State.modSched
  simp only [State.setSched_flows]

theorem regStore_flows (off : Nat) (v : Word32) (s : State) : (regStore off v s).flows = s.flows := by
  rfl

theorem setField_flows (off hi lo x : Nat) (s : State) : (setField off hi lo x s).flows = s.flows := by
  unfold setField
  simp only [regStore_flows]

theorem setPair_flows (off v : Nat) (s : State) : (setPair off v s).flows = s.flows := by
  unfold setPair
  simp only [regStore_flows]

theorem bumpN_flows (off n : Nat) (s : State) : (bumpN off n s).flows = s.flows := by
  unfold bumpN
  simp only [State.flows_mk, State.flows_fold, apply_ite State.flows, ite_self, regStore_flows]

theorem bump_flows (off : Nat) (s : State) : (bump off s).flows = s.flows := by
  unfold bump
  simp only [bumpN_flows]

theorem tally_flows (off : Nat) (s : State) : (tally off s).flows = s.flows := by
  unfold tally
  simp only [regStore_flows]

theorem cause_flows (off i : Nat) (s : State) : (cause off i s).flows = s.flows := by
  unfold cause
  simp only [regStore_flows]

theorem stampAt_flows (secOff nsOff net : Nat) (s : State) : (stampAt secOff nsOff net s).flows = s.flows := by
  unfold stampAt
  simp only [regStore_flows]

theorem stamp_flows (secOff nsOff : Nat) (s : State) : (stamp secOff nsOff s).flows = s.flows := by
  unfold stamp
  simp only [stampAt_flows]

theorem emitAt_flows (net src kind payload : Nat) (s : State) : (emitAt net src kind payload s).flows = s.flows := by
  unfold emitAt
  simp only [State.flows_mk, State.flows_fold, apply_ite State.flows, ite_self, bump_flows, cause_flows]

theorem emit_flows (src kind payload : Nat) (s : State) : (emit src kind payload s).flows = s.flows := by
  unfold emit
  simp only [emitAt_flows]

theorem perfCount_flows (u k n : Nat) (s : State) : (perfCount u k n s).flows = s.flows := by
  unfold perfCount
  simp only [State.flows_mk, State.flows_fold, apply_ite State.flows, ite_self, setPair_flows, cause_flows]

theorem perfN_flows (u code n : Nat) (s : State) : (perfN u code n s).flows = s.flows := by
  unfold perfN
  simp only [State.flows_foldl, implies_true, State.flows_mk, State.flows_fold, apply_ite State.flows, ite_self, perfCount_flows]

theorem perf_flows (u code : Nat) (s : State) : (perf u code s).flows = s.flows := by
  unfold perf
  simp only [perfN_flows]

theorem dispoCount_flows (port cls code : Nat) (s : State) : (dispoCount port cls code s).flows = s.flows := by
  unfold dispoCount
  simp only [State.flows_mk, State.flows_fold, apply_ite State.flows, ite_self]

theorem dispose_flows (port cls code : Nat) (waited : Bool) (hash : Word64) (arr : Nat) (s : State) : (dispose port cls code waited hash arr s).flows = s.flows := by
  unfold dispose
  simp only [State.flows_mk, State.flows_fold, apply_ite State.flows, ite_self, emit_flows, dispoCount_flows]

/-! ### Rings -/

theorem freshOut_flows (s : State) : (freshOut s).flows = s.flows := by
  rfl

theorem toHost_flows (addr : Nat) (b : Bytes) (s : State) : (toHost addr b s).flows = s.flows := by
  unfold toHost
  simp only [State.flows_mk, State.flows_fold, perfN_flows]

theorem fromHost_flows (n : Nat) (s : State) : (fromHost n s).flows = s.flows := by
  unfold fromHost
  simp only [perfN_flows]

theorem advanceHead_flows (n : Nat) (s : State) : (advanceHead n s).flows = s.flows := by
  unfold advanceHead
  simp only [State.flows_mk, State.flows_fold, apply_ite State.flows, ite_self, State.modRing_flows, bump_flows, cause_flows, perf_flows, toHost_flows]

theorem haltRing_flows (n code : Nat) (s : State) : (haltRing n code s).flows = s.flows := by
  unfold haltRing
  simp only [State.modRing_flows, cause_flows, emit_flows]

theorem closeBuffer_flows (n : Nat) (s : State) : (closeBuffer n s).flows = s.flows := by
  unfold closeBuffer
  repeat' first
    | with_reducible rfl
    | (simp only [State.flows_mk, State.flows_fold, apply_ite State.flows, ite_self, State.modRing_flows, toHost_flows, advanceHead_flows]; done)
    | split
    | dsimp only

theorem writePart_flows (n kind : Nat) (o : OpenBuf) (body : Bytes) (start : Bool) (s : State) : (writePart n kind o body start s).flows = s.flows := by
  unfold writePart
  simp only [State.flows_mk, State.flows_fold, apply_ite State.flows, ite_self, State.modRing_flows, toHost_flows, closeBuffer_flows]

theorem makeRoom_flows (n : Nat) (s : State) : (makeRoom n s).flows = s.flows := by
  unfold makeRoom
  simp only [State.flows_mk, State.flows_fold, apply_ite State.flows, ite_self, closeBuffer_flows]

theorem placeRec_flows (n kind : Nat) (body : Bytes) (s : State) : (placeRec n kind body s).2.flows = s.flows := by
  unfold placeRec
  repeat' first
    | with_reducible rfl
    | (simp only [State.flows_mk, State.flows_fold, apply_ite State.flows, ite_self, writePart_flows, makeRoom_flows]; done)
    | split
    | dsimp only

theorem placeRec_flows' {n kind : Nat} {body : Bytes} {s : State} {x' : _} {r' : State} (h' : placeRec n kind body s = (x', r')) : r'.flows = s.flows := by
  have k' := placeRec_flows n kind body s
  rw [h'] at k'
  exact k'

theorem placeRest_flows (n : Nat) (s : State) : (placeRest n s).flows = s.flows := by
  unfold placeRest
  repeat' first
    | with_reducible rfl
    | (simp only [State.flows_mk, State.flows_fold, apply_ite State.flows, ite_self, writePart_flows]; done)
    | split
    | dsimp only

/-! ### Time -/

theorem bumpField_flows (off hi lo : Nat) (s : State) : (bumpField off hi lo s).flows = s.flows := by
  unfold bumpField
  simp only [State.flows_mk, State.flows_fold, apply_ite State.flows, ite_self, setField_flows]

theorem ts2Push_flows (e : Ts2Entry) (s : State) : (ts2Push e s).flows = s.flows := by
  unfold ts2Push
  simp only [State.flows_mk, State.flows_fold, apply_ite State.flows, ite_self, bump_flows, cause_flows]

/-! ### Perf -/

theorem winCount_flows (p len : Nat) (tx : Bool) (s : State) : (winCount p len tx s).flows = s.flows := by
  unfold winCount
  simp only [State.flows_mk, State.flows_fold, apply_ite State.flows, ite_self, perf_flows]

/-! ### FlowCtl -/

theorem emitFc_flows (p : Nat) (f : Bytes) (s : State) : (emitFc p f s).flows = s.flows := by
  unfold emitFc
  simp only [State.flows_foldl, implies_true, State.flows_mk, State.flows_fold, apply_ite State.flows, ite_self, perf_flows, bumpField_flows, winCount_flows]

theorem sendFc_flows (p : Nat) (f : Bytes) (s : State) : (sendFc p f s).flows = s.flows := by
  unfold sendFc
  simp only [State.flows_foldl, implies_true, State.flows_mk, State.flows_fold, apply_ite State.flows, ite_self, State.modSched_flows, emitFc_flows]

theorem flushFc_flows (p : Nat) (s : State) : (flushFc p s).flows = s.flows := by
  unfold flushFc
  simp only [State.flows_foldl, implies_true, State.flows_mk, State.flows_fold, apply_ite State.flows, ite_self, State.modSched_flows, emitFc_flows]

theorem sendX_flows (p q : Nat) (off : Bool) (s : State) : (sendX p q off s).flows = s.flows := by
  unfold sendX
  simp only [State.flows_mk, State.flows_fold, apply_ite State.flows, ite_self, sendFc_flows]

theorem fcClass_flows (p q : Nat) (s : State) : (fcClass p q s).flows = s.flows := by
  unfold fcClass
  simp only [State.flows_mk, State.flows_fold, apply_ite State.flows, ite_self, State.setSched_flows, sendX_flows]

theorem fcUpdate_flows (p : Nat) (s : State) : (fcUpdate p s).flows = s.flows := by
  unfold fcUpdate
  simp only [State.flows_foldl, implies_true, State.flows_mk, State.flows_fold, apply_ite State.flows, ite_self, State.modSched_flows, fcClass_flows]

theorem xoffRepeat_flows (p q : Nat) (s : State) : (xoffRepeat p q s).flows = s.flows := by
  unfold xoffRepeat
  repeat' first
    | with_reducible rfl
    | (simp only [State.flows_mk, State.flows_fold, apply_ite State.flows, ite_self, State.setSched_flows, sendX_flows]; done)
    | split
    | dsimp only

theorem pauseExpiry_flows (p c : Nat) (s : State) : (pauseExpiry p c s).flows = s.flows := by
  unfold pauseExpiry
  repeat' first
    | with_reducible rfl
    | (simp only [State.flows_mk, State.flows_fold, apply_ite State.flows, ite_self, State.setSched_flows]; done)
    | split
    | dsimp only

theorem pauseClass_flows (p c quanta : Nat) (s : State) : (pauseClass p c quanta s).flows = s.flows := by
  unfold pauseClass
  simp only [State.setSched_flows]

theorem flowControl_flows (p : Nat) (data : Bytes) (s : State) : (flowControl p data s).flows = s.flows := by
  unfold flowControl
  simp only [State.flows_foldl, implies_true, State.flows_mk, State.flows_fold, apply_ite State.flows, ite_self, bumpField_flows, pauseClass_flows]

/-! ### Vault -/

theorem logUe_flows (info addr : Nat) (s : State) : (logUe info addr s).flows = s.flows := by
  unfold logUe
  simp only [regStore_flows, setPair_flows, stamp_flows]

/-! ### Egress -/

theorem setFrame_flows (f : Nat) (x : Frame) (s : State) : (setFrame f x s).flows = s.flows := by
  rfl

theorem dropFrame_flows (f : Nat) (s : State) : (dropFrame f s).flows = s.flows := by
  rfl

theorem modFrame_flows (f : Nat) (g : Frame → Frame) (s : State) : (modFrame f g s).flows = s.flows := by
  unfold modFrame
  split <;> simp only [State.flows_mk, State.flows_fold, setFrame_flows]

theorem addRef_flows (f : Nat) (s : State) : (addRef f s).flows = s.flows := by
  unfold addRef
  simp only [modFrame_flows]

theorem release_flows (f : Nat) (s : State) : (release f s).flows = s.flows := by
  unfold release
  repeat' first
    | with_reducible rfl
    | (simp only [State.flows_mk, State.flows_fold, apply_ite State.flows, ite_self, perf_flows, fcUpdate_flows, setFrame_flows, dropFrame_flows]; done)
    | split
    | dsimp only

theorem setQueue_flows (n : Nat) (q : List Copy) (s : State) : (setQueue n q s).flows = s.flows := by
  rfl

theorem settleEmpty_flows (n : Nat) (s : State) : (settleEmpty n s).flows = s.flows := by
  unfold settleEmpty
  simp only [State.flows_mk, State.flows_fold, apply_ite State.flows, ite_self, State.setClass_flows]

theorem countCopy_flows (c : Copy) (code : Nat) (s : State) : (countCopy c code s).flows = s.flows := by
  unfold countCopy
  repeat' first
    | with_reducible rfl
    | (simp only [State.flows_mk, State.flows_fold, apply_ite State.flows, ite_self, dispose_flows]; done)
    | split
    | dsimp only

theorem discardCopy_flows (c : Copy) (code : Nat) (s : State) : (discardCopy c code s).flows = s.flows := by
  unfold discardCopy
  simp only [State.flows_mk, State.flows_fold, apply_ite State.flows, ite_self, bump_flows, cause_flows, release_flows, countCopy_flows]

theorem enqueue_flows (n : Nat) (c : Copy) (s : State) : (enqueue n c s).flows = s.flows := by
  unfold enqueue
  repeat' first
    | with_reducible rfl
    | (simp only [State.flows_mk, State.flows_fold, apply_ite State.flows, ite_self, bump_flows, cause_flows, perf_flows, release_flows, setQueue_flows, discardCopy_flows]; done)
    | split
    | dsimp only

theorem makeCopy_flows (n : Nat) (c : Copy) (s : State) : (makeCopy n c s).flows = s.flows := by
  unfold makeCopy
  simp only [addRef_flows, enqueue_flows]

theorem badTarget_flows (c : Copy) (s : State) : (badTarget c s).flows = s.flows := by
  unfold badTarget
  simp only [bump_flows, cause_flows, addRef_flows, discardCopy_flows]

theorem sendTo_flows (target q : Nat) (groups : Bool) (c : Copy) (s : State) : (sendTo target q groups c s).flows = s.flows := by
  unfold sendTo
  repeat' first
    | with_reducible rfl
    | (simp only [State.flows_foldl, implies_true, State.flows_mk, State.flows_fold, apply_ite State.flows, apply_ite Prod.snd, ite_self, perfN_flows, addRef_flows, discardCopy_flows, makeCopy_flows, badTarget_flows]; done)
    | split
    | dsimp only

theorem setPolicer_flows (k : Nat) (x : Policer) (s : State) : (setPolicer k x s).flows = s.flows := by
  rfl

/-! ### Link -/

theorem freshTeth_flows (s : State) : (freshTeth s).flows = s.flows := by
  rfl

theorem linkOut_flows (kind seq : Nat) (payload : Bytes) (s : State) : (linkOut kind seq payload s).flows = s.flows := by
  unfold linkOut
  simp only [State.flows_mk, State.flows_fold, perf_flows]

theorem linkSend_flows (kind : Nat) (payload : Bytes) (s : State) : (linkSend kind payload s).flows = s.flows := by
  unfold linkSend
  simp only [State.flows_mk, State.flows_fold, apply_ite State.flows, ite_self, linkOut_flows]

/-! ### Errors -/

theorem sramEvent_flows (mem branch addr : Nat) (e : EccResult) (s : State) : (sramEvent mem branch addr e s).flows = s.flows := by
  unfold sramEvent
  split <;> simp only [State.flows_mk, State.flows_fold, tally_flows, cause_flows, emit_flows, logUe_flows]

theorem sramRead_flows (mem : Nat) (r : SramRead) (s : State) : (sramRead mem r s).2.flows = s.flows := by
  unfold sramRead
  simp only [sramEvent_flows]

theorem sramRead_flows' {mem : Nat} {r : SramRead} {s : State} {x' : _} {r' : State} (h' : sramRead mem r s = (x', r')) : r'.flows = s.flows := by
  have k' := sramRead_flows mem r s
  rw [h'] at k'
  exact k'

/-! ### Mac -/

theorem pushReq_flows (r : Requester) (f : Nat) (s : State) : (pushReq r f s).flows = s.flows := by
  unfold pushReq
  simp only [State.flows_mk, State.flows_fold, apply_ite State.flows, ite_self]

theorem dropReq_flows (f : Nat) (s : State) : (dropReq f s).flows = s.flows := by
  rfl

theorem frameStored_flows (f : Nat) (x : Frame) (s : State) : (frameStored f x s).flows = s.flows := by
  unfold frameStored
  split <;> simp only [State.flows_mk, State.flows_fold, State.modAssay_flows]

theorem grantCell_flows (f : Nat) (x : Frame) (k : Pool) (s : State) : (grantCell f x k s).flows = s.flows := by
  unfold grantCell
  repeat' first
    | with_reducible rfl
    | (simp only [State.flows_mk, State.flows_fold, apply_ite State.flows, ite_self, cause_flows, perf_flows, fcUpdate_flows, setFrame_flows, pushReq_flows, dropReq_flows, frameStored_flows]; done)
    | split
    | dsimp only

theorem refuseCell_flows (f : Nat) (x : Frame) (s : State) : (refuseCell f x s).flows = s.flows := by
  unfold refuseCell
  split <;> simp only [State.flows_mk, State.flows_fold, State.modPort_flows, bump_flows, cause_flows, perf_flows, dispose_flows, setFrame_flows, dropFrame_flows, dropReq_flows]

theorem decideCell_flows (q : Requester × Nat) (s : State) : (decideCell q s).flows = s.flows := by
  unfold decideCell
  repeat' first
    | with_reducible rfl
    | (simp only [State.flows_mk, State.flows_fold, apply_ite State.flows, ite_self, dropReq_flows, grantCell_flows, refuseCell_flows]; done)
    | split
    | dsimp only

theorem mintRound_flows (s : State) : (mintRound s).flows = s.flows := by
  unfold mintRound
  simp only [State.flows_foldl, implies_true, State.flows_mk, State.flows_fold, apply_ite State.flows, ite_self, decideCell_flows]

theorem fillCells_flows (f n : Nat) (s : State) : (fillCells f n s).flows = s.flows := by
  induction n generalizing s with
  | zero => rfl
  | succ n ih =>
    rw [fillCells]
    split
    · split
      · simp only [ih, mintRound_flows, pushReq_flows]
      · rfl
    · rfl

theorem rxStart_flows (p : Nat) (data : Bytes) (full : Bool) (s : State) : (rxStart p data full s).flows = s.flows := by
  unfold rxStart
  simp only [State.flows_mk, State.flows_fold, apply_ite State.flows, ite_self, State.setPort_flows, bump_flows, cause_flows, perf_flows, setFrame_flows, pushReq_flows]

theorem macControl_flows (p : Nat) (data : Bytes) (fcsOk : Bool) (s : State) : (macControl p data fcsOk s).flows = s.flows := by
  unfold macControl
  simp only [State.flows_mk, State.flows_fold, apply_ite State.flows, ite_self, bump_flows, bumpField_flows, winCount_flows, flowControl_flows]

theorem samplerWrite_flows (p : Nat) (v : Word32) (s : State) : (samplerWrite p v s).flows = s.flows := by
  unfold samplerWrite
  simp only [State.flows_mk, State.flows_fold, apply_ite State.flows, ite_self, regStore_flows]

theorem seedWrite_flows (p : Nat) (v : Word32) (s : State) : (seedWrite p v s).flows = s.flows := by
  unfold seedWrite
  simp only [State.flows_mk, State.flows_fold, regStore_flows]

theorem grpCommand_flows (cmd : Word32) (s : State) : (grpCommand cmd s).flows = s.flows := by
  unfold grpCommand
  repeat' first
    | with_reducible rfl
    | (simp only [State.flows_mk, State.flows_fold, apply_ite State.flows, ite_self, regStore_flows, setPair_flows, cause_flows]; done)
    | split
    | dsimp only

/-! ### Assayer -/

theorem xchPut_flows (b home : Nat) (d : Desc) (s : State) : (xchPut b home d s).flows = s.flows := by
  unfold xchPut
  simp only [State.modAssay_flows, bump_flows]

theorem holdRelease_flows (b : Nat) (s : State) : (holdRelease b s).flows = s.flows := by
  unfold holdRelease
  repeat' first
    | with_reducible rfl
    | (simp only [State.flows_mk, State.flows_fold, apply_ite State.flows, ite_self, State.modAssay_flows, xchPut_flows]; done)
    | split
    | dsimp only

theorem xchStall_flows (b : Nat) (s : State) : (xchStall b s).flows = s.flows := by
  unfold xchStall
  simp only [State.flows_mk, State.flows_fold, apply_ite State.flows, ite_self, State.modAssay_flows, bump_flows, cause_flows]

/-! ### Inject -/

theorem injectWriteBack_flows (n admitTime status : Nat) (l : List Bytes) (s : State) :
    (injectWriteBack n admitTime status l s).flows = s.flows := by
  induction l generalizing s with
  | nil => rfl
  | cons d ds ih =>
    rw [injectWriteBack]
    simp only [ih, advanceHead_flows, toHost_flows]

theorem injectEnd_flows (n admitTime status : Nat) (run : List Bytes) (s : State) : (injectEnd n admitTime status run s).flows = s.flows := by
  unfold injectEnd
  simp only [State.modRing_flows, injectWriteBack_flows]

theorem injectBad_flows (n reason : Nat) (run : List Bytes) (s : State) : (injectBad n reason run s).flows = s.flows := by
  unfold injectBad
  simp only [cause_flows, emit_flows, injectEnd_flows]

theorem injectAdmit_flows (f : Nat) (d : Bytes) (x : Frame) (s : State) : (injectAdmit f d x s).flows = s.flows := by
  unfold injectAdmit
  simp only [State.flows_mk, State.flows_fold, apply_ite State.flows, ite_self, State.modAssay_flows, release_flows, sendTo_flows]

theorem injectFrame_flows (n : Nat) (run : List Bytes) (d data : Bytes) (s : State) : (injectFrame n run d data s).flows = s.flows := by
  unfold injectFrame
  repeat' first
    | with_reducible rfl
    | (simp only [State.flows_mk, State.flows_fold, apply_ite State.flows, ite_self, dispose_flows, setFrame_flows, dropFrame_flows, fillCells_flows, injectEnd_flows, injectAdmit_flows]; done)
    | split
    | dsimp only

theorem injectRead_flows (n : Nat) (data : Option Bytes) (s : State) : (injectRead n data s).flows = s.flows := by
  unfold injectRead
  repeat' first
    | with_reducible rfl
    | (simp only [State.flows_mk, State.flows_fold, apply_ite State.flows, ite_self, fromHost_flows, haltRing_flows, injectBad_flows, injectFrame_flows]; done)
    | split
    | dsimp only

/-! ### Rewrite -/

theorem countRewrite_flows (r : Rewritten) (s : State) : (countRewrite r s).flows = s.flows := by
  unfold countRewrite
  repeat' first
    | with_reducible rfl
    | (simp only [State.flows_mk, State.flows_fold, apply_ite State.flows, ite_self, bump_flows, ts2Push_flows]; done)
    | split
    | dsimp only

/-! ### Gates -/

theorem gclNext_flows (s : State) : (gclNext s).flows = s.flows := by
  unfold gclNext
  simp only [State.flows_mk, State.flows_fold, apply_ite State.flows, ite_self, setField_flows]

theorem gclWrite_flows (v : Word32) (s : State) : (gclWrite v s).flows = s.flows := by
  unfold gclWrite
  simp only [State.flows_mk, State.flows_fold, apply_ite State.flows, ite_self, State.setSched_flows, bump_flows, gclNext_flows]

theorem gateCtrlWrite_flows (p : Nat) (v : Word32) (s : State) : (gateCtrlWrite p v s).flows = s.flows := by
  unfold gateCtrlWrite
  simp only [State.flows_mk, State.flows_fold, apply_ite State.flows, ite_self, State.setSched_flows, regStore_flows, bump_flows, cause_flows]

theorem gateSwitch_flows (p : Nat) (s : State) : (gateSwitch p s).flows = s.flows := by
  unfold gateSwitch
  repeat' first
    | with_reducible rfl
    | (simp only [State.flows_mk, State.flows_fold, apply_ite State.flows, ite_self, State.setSched_flows, regStore_flows, cause_flows, emit_flows]; done)
    | split
    | dsimp only

/-! ### Tm -/

theorem shape_flows (n : Nat) (ended : Option Nat) (s : State) : (shape n ended s).flows = s.flows := by
  unfold shape
  simp only [State.flows_mk, State.flows_fold, apply_ite State.flows, ite_self, State.setClass_flows]

theorem shaperUpdate_flows (k c : Nat) (s : State) : (shaperUpdate k c s).flows = s.flows := by
  unfold shaperUpdate
  simp only [State.flows_mk, State.flows_fold, apply_ite State.flows, ite_self, shape_flows]

theorem classCtrlWrite_flows (n : Nat) (v : Word32) (s : State) : (classCtrlWrite n v s).flows = s.flows := by
  unfold classCtrlWrite
  simp only [State.flows_mk, State.flows_fold, apply_ite State.flows, ite_self, State.setClass_flows, regStore_flows]

theorem popHead_flows (n : Nat) (s : State) : (popHead n s).flows = s.flows := by
  unfold popHead
  simp only [setQueue_flows, settleEmpty_flows]

theorem puntExpired_flows (n source : Nat) (c : Copy) (s : State) : (puntExpired n source c s).flows = s.flows := by
  unfold puntExpired
  simp only [release_flows, makeCopy_flows, popHead_flows]

theorem cleanHeads_flows (n f : Nat) (s : State) : (cleanHeads n f s).flows = s.flows := by
  induction f generalizing s with
  | zero => rfl
  | succ f ih =>
    rw [cleanHeads]
    repeat' first
      | with_reducible rfl
      | (simp only [ih, puntExpired_flows, discardCopy_flows, perf_flows, cause_flows, popHead_flows]; done)
      | split

theorem noteClass_flows (n : Nat) (s : State) : (noteClass n s).flows = s.flows := by
  unfold noteClass
  simp only [State.flows_mk, State.flows_fold, apply_ite State.flows, ite_self, State.setClass_flows, perf_flows]

theorem drrPick_flows (k : Nat) (elig : List Nat) (f : Nat) (s : State) : (drrPick k elig f s).2.flows = s.flows := by
  induction f generalizing s with
  | zero => rfl
  | succ f ih =>
    rw [drrPick]
    dsimp only
    repeat' first
      | with_reducible rfl
      | (simp only [ih, State.setClass_flows, State.setSched_flows]; done)
      | split

theorem pick_flows (k : Nat) (s : State) : (pick k s).2.flows = s.flows := by
  unfold pick
  repeat' first
    | with_reducible rfl
    | (simp only [State.flows_mk, State.flows_fold, apply_ite State.flows, ite_self, drrPick_flows]; done)
    | split
    | dsimp only

theorem pick_flows' {k : Nat} {s : State} {x' : _} {r' : State} (h' : pick k s = (x', r')) : r'.flows = s.flows := by
  have k' := pick_flows k s
  rw [h'] at k'
  exact k'

theorem startCopy_flows (n : Nat) (s : State) : (startCopy n s).flows = s.flows := by
  unfold startCopy
  repeat' first
    | with_reducible rfl
    | (simp only [State.flows_mk, State.flows_fold, apply_ite State.flows, ite_self, State.modSched_flows, perf_flows, countRewrite_flows, shape_flows, popHead_flows]; done)
    | split
    | dsimp only

theorem hostReturn_flows (s : State) : (hostReturn s).flows = s.flows := by
  unfold hostReturn
  repeat' first
    | with_reducible rfl
    | (simp only [State.flows_mk, State.flows_fold, apply_ite State.flows, ite_self, State.modSched_flows, setQueue_flows]; done)
    | split
    | dsimp only

theorem preparePick_flows (k : Nat) (s : State) : (preparePick k s).flows = s.flows := by
  unfold preparePick
  simp only [State.flows_foldl, implies_true, State.flows_mk, State.flows_fold, apply_ite State.flows, ite_self, cleanHeads_flows, noteClass_flows]

theorem loseHead_flows (n : Nat) (s : State) : (loseHead n s).flows = s.flows := by
  unfold loseHead
  repeat' first
    | with_reducible rfl
    | (simp only [State.flows_foldl, implies_true, State.flows_mk, State.flows_fold, apply_ite State.flows, apply_ite Prod.snd, ite_self, discardCopy_flows, popHead_flows]; done)
    | split
    | dsimp only

theorem startRead_flows (n : Nat) (desc buf : SramRead) (s : State) : (startRead n desc buf s).flows = s.flows := by
  unfold startRead
  repeat' first
    | with_reducible rfl
    | (simp only [State.flows_foldl, implies_true, State.flows_mk, State.flows_fold, apply_ite State.flows, apply_ite Prod.snd, ite_self, sramRead_flows, startCopy_flows, loseHead_flows]; done)
    | split
    | dsimp only

theorem tmSelect_flows (k : Nat) (desc buf : SramRead) (s : State) : (tmSelect k desc buf s).flows = s.flows := by
  unfold tmSelect
  dsimp only
  have ht : (if k = 65 then hostReturn s else s).flows = s.flows := by simp only [apply_ite State.flows, hostReturn_flows, ite_self]
  generalize (if k = 65 then hostReturn s else s) = t at ht ⊢
  rw [← ht]
  split
  · rfl
  · have hk := pick_flows k (preparePick k t)
    generalize pick k (preparePick k t) = p at hk ⊢
    obtain ⟨c, w⟩ := p
    dsimp only at hk ⊢
    cases c
    · exact hk.trans (preparePick_flows ..)
    · exact (startRead_flows ..).trans (hk.trans (preparePick_flows ..))

theorem chargeEnd_flows (k : Nat) (y : Sending) (len : Nat) (s : State) : (chargeEnd k y len s).flows = s.flows := by
  unfold chargeEnd
  simp only [State.flows_mk, State.flows_fold, apply_ite State.flows, ite_self, State.setClass_flows, State.modSched_flows, flushFc_flows, settleEmpty_flows, shape_flows]

theorem endBad_flows (k : Nat) (y : Sending) (out : Bytes) (s : State) : (endBad k y out s).flows = s.flows := by
  unfold endBad
  simp only [State.flows_mk, State.flows_fold, bump_flows, cause_flows, perf_flows, winCount_flows, release_flows, countCopy_flows, chargeEnd_flows]

theorem endGood_flows (k : Nat) (y : Sending) (out : Bytes) (s : State) : (endGood k y out s).flows = s.flows := by
  unfold endGood
  simp only [State.flows_mk, State.flows_fold, apply_ite State.flows, ite_self, winCount_flows, release_flows, countCopy_flows, linkSend_flows, chargeEnd_flows]

theorem txEnd_flows (k : Nat) (buf : SramRead) (s : State) : (txEnd k buf s).flows = s.flows := by
  unfold txEnd
  repeat' first
    | with_reducible rfl
    | (simp only [State.flows_mk, State.flows_fold, apply_ite State.flows, ite_self, discardCopy_flows, sramRead_flows, countRewrite_flows, chargeEnd_flows, endBad_flows, endGood_flows]; done)
    | split
    | dsimp only

theorem underrun_flows (k : Nat) (s : State) : (underrun k s).flows = s.flows := by
  unfold underrun
  repeat' first
    | with_reducible rfl
    | (simp only [State.flows_mk, State.flows_fold, apply_ite State.flows, ite_self, endBad_flows]; done)
    | split
    | dsimp only

theorem gateBoundary_flows (p : Nat) (s : State) : (gateBoundary p s).flows = s.flows := by
  unfold gateBoundary
  repeat' first
    | with_reducible rfl
    | (simp only [State.flows_foldl, implies_true, State.flows_mk, State.flows_fold, apply_ite State.flows, apply_ite Prod.snd, ite_self, State.setSched_flows, State.setClass_flows]; done)
    | split
    | dsimp only

theorem holdDiscard_flows (n f : Nat) (s : State) : (holdDiscard n f s).flows = s.flows := by
  induction f generalizing s with
  | zero => rfl
  | succ f ih =>
    rw [holdDiscard]
    repeat' first
      | with_reducible rfl
      | (simp only [ih, discardCopy_flows, perf_flows, cause_flows, popHead_flows]; done)
      | split

theorem holdExpiry_flows (n : Nat) (s : State) : (holdExpiry n s).flows = s.flows := by
  unfold holdExpiry
  simp only [State.flows_mk, State.flows_fold, apply_ite State.flows, ite_self, holdDiscard_flows]

theorem freezeQueues_flows (k : Nat) (s : State) : (freezeQueues k s).flows = s.flows := by
  unfold freezeQueues
  dsimp only
  rw [State.flows_foldl _ fun t n => by split; exact holdDiscard_flows ..; rfl]
  split <;> simp only [release_flows, countCopy_flows, State.flows_foldl, State.setClass_flows, State.setSched_flows, implies_true]

theorem resumeQueues_flows (k : Nat) (s : State) : (resumeQueues k s).flows = s.flows := by
  unfold resumeQueues
  simp only [State.flows_foldl, implies_true, State.flows_mk, State.flows_fold, apply_ite State.flows, ite_self, State.setClass_flows, State.modSched_flows]

theorem polWrite_flows (cmd : Nat) (fill : Bool) (s : State) : (polWrite cmd fill s).flows = s.flows := by
  unfold polWrite
  simp only [setPolicer_flows]

theorem polRead_flows (cmd : Nat) (clear : Bool) (s : State) : (polRead cmd clear s).flows = s.flows := by
  unfold polRead
  simp only [regStore_flows, setField_flows, setPolicer_flows]

theorem polCommand_flows (v : Word32) (s : State) : (polCommand v s).flows = s.flows := by
  unfold polCommand
  repeat' first
    | with_reducible rfl
    | (simp only [State.flows_mk, State.flows_fold, apply_ite State.flows, ite_self, regStore_flows, setField_flows, polWrite_flows, polRead_flows]; done)
    | split
    | dsimp only

theorem polRow_flows (op : Nat) (cmd : Word32) (s : State) : (polRow op cmd s).flows = s.flows := by
  unfold polRow
  simp only [State.flows_foldl, implies_true, State.flows_mk, State.flows_fold, apply_ite State.flows, ite_self, gated_flows, polCommand_flows]

/-! ### Dma -/

theorem hostSkip_flows (c : Copy) (s : State) : (hostSkip c s).flows = s.flows := by
  unfold hostSkip
  repeat' first
    | with_reducible rfl
    | (simp only [State.flows_foldl, implies_true, State.flows_mk, State.flows_fold, apply_ite State.flows, apply_ite Prod.snd, ite_self, bump_flows]; done)
    | split
    | dsimp only

theorem packetDone_flows (s : State) : (packetDone s).flows = s.flows := by
  unfold packetDone
  repeat' first
    | with_reducible rfl
    | (simp only [State.flows_mk, State.flows_fold, apply_ite State.flows, ite_self, State.modSched_flows, bump_flows, perf_flows, release_flows, countCopy_flows, chargeEnd_flows, hostSkip_flows]; done)
    | split
    | dsimp only

theorem packetWrite_flows (n : Nat) (y : Sending) (s : State) : (packetWrite n y s).flows = s.flows := by
  unfold packetWrite
  repeat' first
    | with_reducible rfl
    | (simp only [State.flows_mk, State.flows_fold, apply_ite State.flows, ite_self, placeRec_flows, packetDone_flows]; done)
    | split
    | dsimp only

theorem dumpWrite_flows (n : Nat) (b : Bytes) (s : State) : (dumpWrite n b s).flows = s.flows := by
  unfold dumpWrite
  simp only [State.flows_mk, State.flows_fold, apply_ite State.flows, ite_self, perf_flows, placeRec_flows]

theorem spanDone_flows (kind : Nat) (s : State) : (spanDone kind s).flows = s.flows := by
  unfold spanDone
  simp only [State.flows_mk, State.flows_fold, apply_ite State.flows, ite_self, perf_flows, packetDone_flows]

theorem recordWrite.dumpNext_flows (n : Nat) (s : State) : (recordWrite.dumpNext n s).flows = s.flows := by
  unfold recordWrite.dumpNext
  split
  · split
    · exact dumpWrite_flows ..
    · rfl
  · rfl

theorem recordWrite_flows (n : Nat) (s : State) : (recordWrite n s).flows = s.flows := by
  unfold recordWrite
  dsimp only
  repeat' first
    | with_reducible rfl
    | (simp only [spanDone_flows, placeRest_flows, packetWrite_flows, recordWrite.dumpNext_flows]; done)
    | split

/-! ### Ports -/

theorem noteLink_flows (p : Nat) (s : State) : (noteLink p s).flows = s.flows := by
  unfold noteLink
  simp only [emit_flows]

theorem setLanes_flows (p : Nat) (f : Lane → Lane) (s : State) : (setLanes p f s).flows = s.flows := by
  rfl

theorem leaveTo_flows (p : Nat) (st : LinkState) (s : State) : (leaveTo p st s).flows = s.flows := by
  unfold leaveTo
  simp only [State.flows_mk, State.flows_fold, apply_ite State.flows, ite_self, State.setPort_flows, bump_flows, cause_flows, freezeQueues_flows, noteLink_flows, setLanes_flows]

theorem portStart_flows (p : Nat) (s : State) : (portStart p s).flows = s.flows := by
  unfold portStart
  simp only [State.flows_mk, State.flows_fold, apply_ite State.flows, ite_self, State.modPort_flows, leaveTo_flows]

theorem portStop_flows (p : Nat) (s : State) : (portStop p s).flows = s.flows := by
  unfold portStop
  simp only [State.flows_mk, State.flows_fold, apply_ite State.flows, ite_self, leaveTo_flows]

theorem portCtrlWrite_flows (p : Nat) (v : Word32) (s : State) : (portCtrlWrite p v s).flows = s.flows := by
  unfold portCtrlWrite
  simp only [State.flows_mk, State.flows_fold, apply_ite State.flows, ite_self, regStore_flows, portStart_flows, portStop_flows]

theorem acquireDone_flows (p : Nat) (s : State) : (acquireDone p s).flows = s.flows := by
  unfold acquireDone
  simp only [State.flows_mk, State.flows_fold, apply_ite State.flows, ite_self, State.modPort_flows, setLanes_flows]

theorem alignDone_flows (p : Nat) (s : State) : (alignDone p s).flows = s.flows := by
  unfold alignDone
  simp only [State.flows_mk, State.flows_fold, apply_ite State.flows, ite_self, State.setPort_flows, setLanes_flows]

theorem linkUp_flows (p : Nat) (s : State) : (linkUp p s).flows = s.flows := by
  unfold linkUp
  repeat' first
    | with_reducible rfl
    | (simp only [State.flows_mk, State.flows_fold, apply_ite State.flows, ite_self, State.setPort_flows, cause_flows, fcUpdate_flows, resumeQueues_flows, noteLink_flows]; done)
    | split
    | dsimp only

theorem noteLoss_flows (p : Nat) (why : LinkLoss) (lane : Nat) (s : State) : (noteLoss p why lane s).flows = s.flows := by
  unfold noteLoss
  simp only [State.flows_foldl, implies_true, State.flows_mk, State.flows_fold, apply_ite State.flows, ite_self, State.setPort_flows, cause_flows]

theorem linkDown_flows (p : Nat) (why : LinkLoss) (lane : Nat) (s : State) : (linkDown p why lane s).flows = s.flows := by
  unfold linkDown
  simp only [State.flows_mk, State.flows_fold, apply_ite State.flows, ite_self, leaveTo_flows, noteLoss_flows]

theorem remoteFault_flows (p : Nat) (s : State) : (remoteFault p s).flows = s.flows := by
  unfold remoteFault
  simp only [State.flows_mk, State.flows_fold, apply_ite State.flows, ite_self, noteLoss_flows]

theorem refclkEthLoss_flows (s : State) : (refclkEthLoss s).flows = s.flows := by
  unfold refclkEthLoss
  simp only [State.flows_foldl, implies_true, State.flows_mk, State.flows_fold, apply_ite State.flows, ite_self, portStop_flows]

theorem refclkEthReturn_flows (s : State) : (refclkEthReturn s).flows = s.flows := by
  unfold refclkEthReturn
  simp only [State.flows_foldl, implies_true, State.flows_mk, State.flows_fold, apply_ite State.flows, ite_self, portStart_flows]

/-! ### Tether -/

theorem tetherCopy_flows (header data : Bytes) (s : State) : (tetherCopy header data s).flows = s.flows := by
  unfold tetherCopy
  repeat' first
    | with_reducible rfl
    | (simp only [State.flows_mk, State.flows_fold, apply_ite State.flows, ite_self, bump_flows, setFrame_flows, dropFrame_flows, release_flows, makeCopy_flows, badTarget_flows, fillCells_flows]; done)
    | split
    | dsimp only

/-! ### PcieLink -/

theorem notePcie_flows (s : State) : (notePcie s).flows = s.flows := by
  unfold notePcie
  simp only [emit_flows]

theorem linkLost_flows (s : State) : (linkLost s).flows = s.flows := by
  unfold linkLost
  simp only [State.flows_mk, State.flows_fold, apply_ite State.flows, ite_self, notePcie_flows]

theorem loseRecord_flows (n : Nat) (s : State) : (loseRecord n s).flows = s.flows := by
  unfold loseRecord
  simp only [State.flows_mk, State.flows_fold, apply_ite State.flows, ite_self, spanDone_flows]

theorem dmaReset_flows (s : State) : (dmaReset s).flows = s.flows := by
  unfold dmaReset
  simp only [State.flows_foldl, implies_true, State.flows_mk, State.flows_fold, apply_ite State.flows, ite_self, loseRecord_flows]

theorem pcieReset_flows (s : State) : (pcieReset s).flows = s.flows := by
  unfold pcieReset
  simp only [State.flows_mk, State.flows_fold, linkLost_flows, dmaReset_flows]

/-! ### The commands -/

theorem execFcXoffRepeat_flows {p : Fin 64} {c : Fin 9} {s : State} {s' : State} (h : execFcXoffRepeat p c s = .next s') : s'.flows = s.flows := by
  cases h
  simp only [xoffRepeat_flows]

theorem execPauseExpiry_flows {p : Fin 64} {c : Fin 8} {s : State} {s' : State} (h : execPauseExpiry p c s = .next s') : s'.flows = s.flows := by
  cases h
  simp only [pauseExpiry_flows]

theorem execMintRound_flows {s : State} {s' : State} (h : execMintRound s = .next s') : s'.flows = s.flows := by
  cases h
  simp only [mintRound_flows]

theorem execFrameRxStart_flows {p : Fin 64} {data : Bytes} {full : Bool} {s : State} {s' : State} (h : execFrameRxStart p data full s = .next s') : s'.flows = s.flows := by
  cases h
  simp only [rxStart_flows]

theorem execMacControlFrame_flows {p : Fin 64} {data : Bytes} {fcsOk : Bool} {s : State} {s' : State} (h : execMacControlFrame p data fcsOk s = .next s') : s'.flows = s.flows := by
  cases h
  simp only [macControl_flows]

theorem execSamplerEnable_flows {p : Fin 64} {v : Word32} {s : State} {s' : State} (h : execSamplerEnable p v s = .next s') : s'.flows = s.flows := by
  unfold execSamplerEnable at h
  cases h
  simp only [State.flows_mk, State.flows_fold, apply_ite State.flows, ite_self, implies_true, gated_flows, samplerWrite_flows]

theorem execSampleSeedWrite_flows {p : Fin 64} {v : Word32} {s : State} {s' : State} (h : execSampleSeedWrite p v s = .next s') : s'.flows = s.flows := by
  unfold execSampleSeedWrite at h
  cases h
  simp only [State.flows_mk, State.flows_fold, apply_ite State.flows, ite_self, implies_true, gated_flows, seedWrite_flows]

theorem execSwcGrpWrite_flows {cmd : Word32} {s : State} {s' : State} (h : execSwcGrpWrite cmd s = .next s') : s'.flows = s.flows := by
  unfold execSwcGrpWrite at h
  cases h
  simp only [State.flows_mk, State.flows_fold, apply_ite State.flows, ite_self, implies_true, gated_flows, grpCommand_flows]

theorem execSwcGrpRead_flows {cmd : Word32} {s : State} {s' : State} (h : execSwcGrpRead cmd s = .next s') : s'.flows = s.flows := by
  unfold execSwcGrpRead at h
  cases h
  simp only [State.flows_mk, State.flows_fold, apply_ite State.flows, ite_self, implies_true, gated_flows, grpCommand_flows]

theorem execXchHoldRelease_flows {b : Fin 4} {s : State} {s' : State} (h : execXchHoldRelease b s = .next s') : s'.flows = s.flows := by
  cases h
  simp only [holdRelease_flows]

theorem execXchStallInterval_flows {b : Fin 4} {s : State} {s' : State} (h : execXchStallInterval b s = .next s') : s'.flows = s.flows := by
  cases h
  simp only [xchStall_flows]

theorem execInjectFrameRead_flows {n : Fin 32} {data : Option Bytes} {s : State} {s' : State} (h : execInjectFrameRead n data s = .next s') : s'.flows = s.flows := by
  cases h
  simp only [freshOut_flows, injectRead_flows]

theorem execGclDurWrite_flows {v : Word32} {s : State} {s' : State} (h : execGclDurWrite v s = .next s') : s'.flows = s.flows := by
  unfold execGclDurWrite at h
  cases h
  simp only [State.flows_mk, State.flows_fold, apply_ite State.flows, ite_self, implies_true, gated_flows, gclWrite_flows]

theorem execGateChange_flows {p : Fin 64} {v : Word32} {s : State} {s' : State} (h : execGateChange p v s = .next s') : s'.flows = s.flows := by
  unfold execGateChange at h
  cases h
  simp only [State.flows_mk, State.flows_fold, apply_ite State.flows, ite_self, implies_true, gated_flows, gateCtrlWrite_flows]

theorem execGateDisable_flows {p : Fin 64} {v : Word32} {s : State} {s' : State} (h : execGateDisable p v s = .next s') : s'.flows = s.flows := by
  unfold execGateDisable at h
  cases h
  simp only [State.flows_mk, State.flows_fold, apply_ite State.flows, ite_self, implies_true, gated_flows, gateCtrlWrite_flows]

theorem execGateSwitch_flows {p : Fin 64} {s : State} {s' : State} (h : execGateSwitch p s = .next s') : s'.flows = s.flows := by
  cases h
  simp only [gateSwitch_flows]

theorem execShaperUpdate_flows {k : Fin 66} {c : Fin 16} {s : State} {s' : State} (h : execShaperUpdate k c s = .next s') : s'.flows = s.flows := by
  cases h
  simp only [shaperUpdate_flows]

theorem execClearDebt_flows {n : Fin 536} {v : Word32} {s : State} {s' : State} (h : execClearDebt n v s = .next s') : s'.flows = s.flows := by
  unfold execClearDebt at h
  cases h
  simp only [State.flows_mk, State.flows_fold, apply_ite State.flows, ite_self, implies_true, gated_flows, classCtrlWrite_flows]

theorem execTmSelect_flows {k : Fin 66} {desc buf : SramRead} {s : State} {s' : State} (h : execTmSelect k desc buf s = .next s') : s'.flows = s.flows := by
  cases h
  simp only [tmSelect_flows]

theorem execTxCopyEnd_flows {k : Fin 66} {buf : SramRead} {s : State} {s' : State} (h : execTxCopyEnd k buf s = .next s') : s'.flows = s.flows := by
  cases h
  simp only [freshTeth_flows, txEnd_flows]

theorem execEgressUnderrun_flows {k : Fin 66} {s : State} {s' : State} (h : execEgressUnderrun k s = .next s') : s'.flows = s.flows := by
  cases h
  simp only [underrun_flows]

theorem execGateEntryBoundary_flows {p : Fin 64} {s : State} {s' : State} (h : execGateEntryBoundary p s = .next s') : s'.flows = s.flows := by
  cases h
  simp only [gateBoundary_flows]

theorem execHoldExpiry_flows {n : Fin 536} {s : State} {s' : State} (h : execHoldExpiry n s = .next s') : s'.flows = s.flows := by
  cases h
  simp only [holdExpiry_flows]

theorem execPolWrite_flows {cmd : Word32} {s : State} {s' : State} (h : execPolWrite cmd s = .next s') : s'.flows = s.flows := by
  cases h
  simp only [polRow_flows]

theorem execPolRead_flows {cmd : Word32} {s : State} {s' : State} (h : execPolRead cmd s = .next s') : s'.flows = s.flows := by
  cases h
  simp only [polRow_flows]

theorem execPolReadClear_flows {cmd : Word32} {s : State} {s' : State} (h : execPolReadClear cmd s = .next s') : s'.flows = s.flows := by
  cases h
  simp only [polRow_flows]

theorem execPolRefill_flows {cmd : Word32} {s : State} {s' : State} (h : execPolRefill cmd s = .next s') : s'.flows = s.flows := by
  cases h
  simp only [polRow_flows]

theorem execDmaRecordWrite_flows {n : Fin 32} {s : State} {s' : State} (h : execDmaRecordWrite n s = .next s') : s'.flows = s.flows := by
  cases h
  simp only [freshOut_flows, recordWrite_flows]

theorem execPortEnable_flows {p : Fin 64} {v : Word32} {s : State} {s' : State} (h : execPortEnable p v s = .next s') : s'.flows = s.flows := by
  unfold execPortEnable at h
  cases h
  simp only [State.flows_mk, State.flows_fold, apply_ite State.flows, ite_self, implies_true, gated_flows, portCtrlWrite_flows]

theorem execPortDisable_flows {p : Fin 64} {v : Word32} {s : State} {s' : State} (h : execPortDisable p v s = .next s') : s'.flows = s.flows := by
  unfold execPortDisable at h
  cases h
  simp only [State.flows_mk, State.flows_fold, apply_ite State.flows, ite_self, implies_true, gated_flows, portCtrlWrite_flows]

theorem execPortAcquireDone_flows {p : Fin 64} {s : State} {s' : State} (h : execPortAcquireDone p s = .next s') : s'.flows = s.flows := by
  cases h
  simp only [acquireDone_flows]

theorem execPortAlignDone_flows {p : Fin 64} {s : State} {s' : State} (h : execPortAlignDone p s = .next s') : s'.flows = s.flows := by
  cases h
  simp only [alignDone_flows]

theorem execPortLinkUp_flows {p : Fin 64} {s : State} {s' : State} (h : execPortLinkUp p s = .next s') : s'.flows = s.flows := by
  cases h
  simp only [linkUp_flows]

theorem execPortLinkDown_flows {p : Fin 64} {cause : LinkLoss} {lane : Fin 8} {s : State} {s' : State} (h : execPortLinkDown p cause lane s = .next s') : s'.flows = s.flows := by
  cases h
  simp only [cause_flows, linkDown_flows]

theorem execRemoteFault_flows {p : Fin 64} {s : State} {s' : State} (h : execRemoteFault p s = .next s') : s'.flows = s.flows := by
  cases h
  simp only [remoteFault_flows]

theorem execRefclkEthLoss_flows {s : State} {s' : State} (h : execRefclkEthLoss s = .next s') : s'.flows = s.flows := by
  rw [← Host.Outcome.next.inj h]
  exact refclkEthLoss_flows ..

theorem execRefclkEthReturn_flows {s : State} {s' : State} (h : execRefclkEthReturn s = .next s') : s'.flows = s.flows := by
  rw [← Host.Outcome.next.inj h]
  exact refclkEthReturn_flows ..

theorem execTetherCopyRx_flows {header data : Bytes} {s : State} {s' : State} (h : execTetherCopyRx header data s = .next s') : s'.flows = s.flows := by
  cases h
  simp only [tetherCopy_flows]

theorem execPcieHotReset_flows {s : State} {s' : State} (h : execPcieHotReset s = .next s') : s'.flows = s.flows := by
  cases h
  simp only [State.flows_mk, State.flows_fold, apply_ite State.flows, ite_self, pcieReset_flows]

theorem execPcieDlDown_flows {s : State} {s' : State} (h : execPcieDlDown s = .next s') : s'.flows = s.flows := by
  cases h
  simp only [State.flows_mk, State.flows_fold, apply_ite State.flows, ite_self, pcieReset_flows]

end Sys2Proof.Machine
end

