-- ==== Sys2Proof/Laws/Held.lean ====
section
/-!
SUPPORT. The part of the state that even a core reset or a section load leaves alone, and for each operation one lemma that
says so.
-/
set_option linter.all false
namespace Sys2Proof.Machine

/-! ### What every command but the fuse commands leaves alone -/

theorem State.held_of {s t : State} (h : t.kept = s.kept) : t.held = s.held :=
  congrArg (fun k : List Instr × Fuses × Nat × _ => (k.1, k.2.1, k.2.2.1)) h

theorem State.held_mk (pending : List Instr) (free : Nat) (regs : Tbl Word32) (dispo : Tbl Nat) (time : TimeBase) (sill : Sillage) (msix : Msix) (perf : Perf) (treas : Treasury) (fuses : Fuses) (sec : SecEngine) (pins : Pins) (loader : Loader) (pcie : Pcie) (coffer : Coffer) (rings : Tbl Ring) (out : Outputs) (lastBatch : Nat) (ports : Tbl Port) (portCfg : Tbl PortCfg) (lanes : Tbl Lane) (laneInv : Tbl Nat) (laneTaps : Tbl Nat) (teth : Tether) (swc : SwitchCore) (tm : TrafficMgr) (templates : Bytes) (assay : Tbl Assayer) (sieve : Sieve) (accord : Accord) (ledger : Tbl Ledger) (disp : Tbl Disp) (tellers : Tbl Teller) (desks : Tbl Desk) (nose : Tbl Nose) (automata : NoseAutomata) (vault : Vault) (audit : Auditor) :
    State.held ⟨pending, free, regs, dispo, time, sill, msix, perf, treas, fuses, sec, pins, loader, pcie, coffer, rings, out, lastBatch, ports, portCfg, lanes, laneInv, laneTaps, teth, swc, tm, templates, assay, sieve, accord, ledger, disp, tellers, desks, nose, automata, vault, audit⟩ = (pending, fuses, time.tick) := (rfl)

theorem State.held_fold (s : State) : (s.pending, s.fuses, s.time.tick) = s.held := (rfl)

theorem State.held_foldl {α : Type} (f : State → α → State) (h : ∀ s x, (f s x).held = s.held) (l : List α) (s : State) :
    (l.foldl f s).held = s.held := by
  induction l generalizing s with
  | nil => rfl
  | cons x xs ih => rw [List.foldl_cons, ih, h]

theorem regStore_held (off : Nat) (v : Word32) (s : State) : (regStore off v s).held = s.held := State.held_of (regStore_kept off v s)

theorem emit_held (src kind payload : Nat) (s : State) : (emit src kind payload s).held = s.held := State.held_of (emit_kept src kind payload s)

theorem takeFree_held (s : State) : (takeFree s).2.held = s.held := State.held_of (takeFree_kept s)

theorem plainWrite_held (off : Nat) (v : Word32) (s : State) : (plainWrite off v s).held = s.held := State.held_of (plainWrite_kept off v s)

theorem freshOut_held (s : State) : (freshOut s).held = s.held := State.held_of (freshOut_kept s)

theorem finishEntry_held (n res index : Nat) (s : State) : (finishEntry n res index s).held = s.held := State.held_of (finishEntry_kept n res index s)

theorem incrWrite_held (half : Option Bool) (w : Word64) (s : State) : (incrWrite half w s).held = s.held := State.held_of (incrWrite_kept half w s)

theorem dispCfgWrite_held (v : Word32) (s : State) : (dispCfgWrite v s).held = s.held := State.held_of (dispCfgWrite_kept v s)

theorem revokeToFit_held (n : Nat) (s : State) : (revokeToFit n s).held = s.held := State.held_of (revokeToFit_kept n s)

theorem complete_held (data : Bytes) (s : State) : (complete data s).held = s.held := State.held_of (complete_kept data s)

theorem unsupported_held (s : State) : (unsupported s).held = s.held := State.held_of (unsupported_kept s)

theorem noseThrottle_held (b : Nat) (s : State) : (noseThrottle b s).held = s.held := State.held_of (noseThrottle_kept b s)

theorem portStop_held (p : Nat) (s : State) : (portStop p s).held = s.held := State.held_of (portStop_kept p s)

theorem portCtrlWrite_held (p : Nat) (v : Word32) (s : State) : (portCtrlWrite p v s).held = s.held := State.held_of (portCtrlWrite_kept p v s)

theorem tethCtrlWrite_held (v : Word32) (s : State) : (tethCtrlWrite v s).held = s.held := State.held_of (tethCtrlWrite_kept v s)

theorem srEndAll_held (s : State) : (srEndAll s).held = s.held := State.held_of (srEndAll_kept s)

theorem spareCtrlWrite_held (v : Word32) (s : State) : (spareCtrlWrite v s).held = s.held := State.held_of (spareCtrlWrite_kept v s)

theorem hardReset_held (s : State) : (hardReset s).held = s.held := by
  unfold hardReset
  simp only [State.held_mk, State.held_fold, regStore_held]

theorem coreReset_held (s : State) : (coreReset s).held = s.held := by
  unfold coreReset
  simp only [State.held_mk, State.held_fold, hardReset_held]

theorem resetCause_held (i : Nat) (s : State) : (resetCause i s).held = s.held := State.held_of (resetCause_kept i s)

theorem domainReqWrite_held (v : Word32) (s : State) : (domainReqWrite v s).held = s.held := State.held_of (domainReqWrite_kept v s)

theorem avsCfgWrite_held (v : Word32) (s : State) : (avsCfgWrite v s).held = s.held := State.held_of (avsCfgWrite_kept v s)

theorem quietEnter_held (trip : Bool) (s : State) : (quietEnter trip s).held = s.held := State.held_of (quietEnter_kept trip s)

theorem quietExit_held (s : State) : (quietExit s).held = s.held := State.held_of (quietExit_kept s)

theorem powerOff_held (s : State) : (powerOff s).held = s.held := by
  unfold powerOff
  simp only [State.held_mk, State.held_fold, coreReset_held]

theorem pstateCommand_held (target : Nat) (s : State) : (pstateCommand target s).held = s.held := by
  unfold pstateCommand
  simp only [State.held_foldl, implies_true, State.held_mk, State.held_fold, apply_ite State.held, ite_self, resetCause_held, quietEnter_held, quietExit_held, powerOff_held]

theorem pstateCmdWrite_held (v : Word32) (s : State) : (pstateCmdWrite v s).held = s.held := by
  unfold pstateCmdWrite
  simp only [State.held_foldl, implies_true, State.held_mk, State.held_fold, apply_ite State.held, ite_self, plainWrite_held, pstateCommand_held]

theorem crossLevel_held (was now : Bool) (bit_ what : Nat) (s : State) : (crossLevel was now bit_ what s).held = s.held := State.held_of (crossLevel_kept was now bit_ what s)

theorem noteTrip_held (s : State) : (noteTrip s).held = s.held := State.held_of (noteTrip_kept s)

theorem thermalTrip_held (s : State) : (thermalTrip s).held = s.held := by
  unfold thermalTrip
  simp only [State.held_foldl, implies_true, State.held_mk, State.held_fold, apply_ite State.held, ite_self, quietEnter_held, powerOff_held, noteTrip_held]

theorem thermalActions_held (s : State) : (thermalActions s).held = s.held := by
  unfold thermalActions
  simp only [State.held_foldl, implies_true, State.held_mk, State.held_fold, apply_ite State.held, ite_self, revokeToFit_held, noseThrottle_held, crossLevel_held, thermalTrip_held]

theorem tempSample_held (temps : List Int) (s : State) : (tempSample temps s).held = s.held := by
  unfold tempSample
  split
  · rfl
  · rw [thermalActions_held, State.held_foldl]
    · rfl
    · intro t k
      split
      · exact regStore_held ..
      · rfl

theorem measured_held (mv : Nat) (s : State) : (measured mv s).held = s.held := State.held_of (measured_kept mv s)

theorem vddReset_held (mv : Nat) (s : State) : (vddReset mv s).held = s.held := by
  unfold vddReset
  simp only [State.held_foldl, implies_true, State.held_mk, State.held_fold, apply_ite State.held, ite_self, emit_held, coreReset_held, resetCause_held, measured_held]

theorem railReset_held (rail : Nat) (s : State) : (railReset rail s).held = s.held := by
  unfold railReset
  simp only [State.held_foldl, implies_true, State.held_mk, State.held_fold, apply_ite State.held, ite_self, regStore_held, emit_held, hardReset_held, resetCause_held]

theorem smbPstate_held (val : Byte) (pec : Bool) (s : State) : (smbPstate val pec s).held = s.held := by
  unfold smbPstate
  simp only [State.held_foldl, implies_true, State.held_mk, State.held_fold, apply_ite State.held, ite_self, pstateCommand_held]

theorem loadPower_held (b : Bytes) (s : State) : (loadPower b s).held = s.held := State.held_of (loadPower_kept b s)

theorem loadPorts_held (b : Bytes) (s : State) : (loadPorts b s).held = s.held := by
  unfold loadPorts
  simp only [State.held_foldl, implies_true, State.held_mk, State.held_fold, apply_ite State.held, ite_self, portStop_held]

theorem stopTaps_held (eq : Option Bytes) (s : State) : (stopTaps eq s).held = s.held := State.held_of (stopTaps_kept eq s)

theorem settleTaps_held (s : State) : (settleTaps s).held = s.held := State.held_of (settleTaps_kept s)

theorem loadTaps_held (eq : Option Bytes) (s : State) : (loadTaps eq s).held = s.held := by
  unfold loadTaps
  simp only [State.held_foldl, implies_true, State.held_mk, State.held_fold, apply_ite State.held, ite_self, stopTaps_held]

theorem loadTether_held (b : Bytes) (s : State) : (loadTether b s).held = s.held := State.held_of (loadTether_kept b s)

theorem loadAutomata_held (b : Bytes) (s : State) : (loadAutomata b s).held = s.held := State.held_of (loadAutomata_kept b s)

theorem loadStore_held (inst : Nat) (b : Bytes) (s : State) : (loadStore inst b s).held = s.held := State.held_of (loadStore_kept inst b s)

theorem loadQueues_held (b : Bytes) (s : State) : (loadQueues b s).held = s.held := State.held_of (loadQueues_kept b s)

theorem loadMint_held (b : Bytes) (s : State) : (loadMint b s).held = s.held := State.held_of (loadMint_kept b s)

theorem loadRegions_held (b : Bytes) (s : State) : (loadRegions b s).held = s.held := State.held_of (loadRegions_kept b s)

theorem writeSection_held (e : DirEntry) (b : Bytes) (s : State) : (writeSection e b s).held = s.held := by
  unfold writeSection
  simp only [State.held_foldl, implies_true, State.held_mk, State.held_fold, apply_ite State.held, ite_self, regStore_held, loadPower_held, loadPorts_held, settleTaps_held, loadTether_held, loadAutomata_held, loadStore_held, loadQueues_held, loadMint_held, loadRegions_held]

theorem secWrite_held (off : Nat) (v : Word32) (s : State) : (secWrite off v s).held = s.held := State.held_of (secWrite_kept off v s)

theorem enterLoadState_held (x : LoadState) (s : State) : (enterLoadState x s).held = s.held := State.held_of (enterLoadState_kept x s)

theorem failLoad_held (code sect : Nat) (s : State) : (failLoad code sect s).held = s.held := State.held_of (failLoad_kept code sect s)

theorem newVault_held (s : State) : (newVault s).held = s.held := State.held_of (newVault_kept s)

theorem spareAgain_held (s : State) : (spareAgain s).held = s.held := State.held_of (spareAgain_kept s)

theorem enterInit_held (s : State) : (enterInit s).held = s.held := by
  unfold enterInit
  simp only [State.held_foldl, implies_true, State.held_mk, State.held_fold, apply_ite State.held, ite_self, srEndAll_held, loadTaps_held, enterLoadState_held, newVault_held, spareAgain_held]

theorem sectionDone_held (s : State) : (sectionDone s).held = s.held := by
  unfold sectionDone
  repeat' first
    | with_reducible rfl
    | (simp only [State.held_foldl, implies_true, State.held_mk, State.held_fold, apply_ite State.held, apply_ite Prod.snd, ite_self, writeSection_held, failLoad_held, enterInit_held]; done)
    | split
    | dsimp only

theorem porstAssert_held (ns : Nat) (s : State) : (porstAssert ns s).held = s.held := by
  unfold porstAssert
  repeat' first
    | with_reducible rfl
    | (simp only [State.held_foldl, implies_true, State.held_mk, State.held_fold, apply_ite State.held, apply_ite Prod.snd, ite_self, takeFree_held, hardReset_held, resetCause_held]; done)
    | split
    | dsimp only

theorem irqForce_held (off : Nat) (v : Word32) (s : State) : (irqForce off v s).held = s.held := State.held_of (irqForce_kept off v s)

theorem writeTop_held (off : Nat) (v : Word32) (s : State) : (writeTop off v s).held = s.held := State.held_of (writeTop_kept off v s)

theorem writeTreas_held (off rel : Nat) (v : Word32) (s : State) : (writeTreas off rel v s).held = s.held := by
  unfold writeTreas
  simp only [State.held_foldl, implies_true, State.held_mk, State.held_fold, apply_ite State.held, ite_self, plainWrite_held, domainReqWrite_held, avsCfgWrite_held, pstateCmdWrite_held, revokeToFit_held]

theorem writeTime_held (off rel : Nat) (v : Word32) (s : State) : (writeTime off rel v s).held = s.held := State.held_of (writeTime_kept off rel v s)

theorem writePerf_held (off rel : Nat) (v : Word32) (s : State) : (writePerf off rel v s).held = s.held := State.held_of (writePerf_kept off rel v s)

theorem writeDma_held (off rel : Nat) (v : Word32) (s : State) : (writeDma off rel v s).held = s.held := State.held_of (writeDma_kept off rel v s)

theorem writeSieve_held (off rel : Nat) (v : Word32) (s : State) : (writeSieve off rel v s).held = s.held := State.held_of (writeSieve_kept off rel v s)

theorem writeDisp_held (off b rel : Nat) (v : Word32) (s : State) : (writeDisp off b rel v s).held = s.held := State.held_of (writeDisp_kept off b rel v s)

theorem writeTell_held (off d rel : Nat) (v : Word32) (s : State) : (writeTell off d rel v s).held = s.held := State.held_of (writeTell_kept off d rel v s)

theorem writeTill_held (off b rel : Nat) (v : Word32) (s : State) : (writeTill off b rel v s).held = s.held := State.held_of (writeTill_kept off b rel v s)

theorem writeNose_held (off rel : Nat) (v : Word32) (s : State) : (writeNose off rel v s).held = s.held := State.held_of (writeNose_kept off rel v s)

theorem writeSwc_held (off rel : Nat) (v : Word32) (s : State) : (writeSwc off rel v s).held = s.held := State.held_of (writeSwc_kept off rel v s)

theorem writeTm_held (off rel : Nat) (v : Word32) (s : State) : (writeTm off rel v s).held = s.held := State.held_of (writeTm_kept off rel v s)

theorem writeEgr_held (off rel : Nat) (v : Word32) (s : State) : (writeEgr off rel v s).held = s.held := State.held_of (writeEgr_kept off rel v s)

theorem blockWrite_held (b : Block) (i off rel : Nat) (v : Word32) (s : State) : (blockWrite b i off rel v s).held = s.held := by
  unfold blockWrite
  repeat' first
    | with_reducible rfl
    | (simp only [State.held_foldl, implies_true, State.held_mk, State.held_fold, apply_ite State.held, apply_ite Prod.snd, ite_self, plainWrite_held, dispCfgWrite_held, portCtrlWrite_held, tethCtrlWrite_held, spareCtrlWrite_held, secWrite_held, writeTop_held, writeTreas_held, writeTime_held, writePerf_held, writeDma_held, writeSieve_held, writeDisp_held, writeTell_held, writeTill_held, writeNose_held, writeSwc_held, writeTm_held, writeEgr_held]; done)
    | split
    | dsimp only

theorem writeReg32_held (off : Nat) (v : Word32) (s : State) : (writeReg32 off v s).held = s.held := by
  unfold writeReg32
  repeat' first
    | with_reducible rfl
    | (simp only [State.held_foldl, implies_true, State.held_mk, State.held_fold, apply_ite State.held, apply_ite Prod.snd, ite_self, irqForce_held, blockWrite_held]; done)
    | split
    | dsimp only

theorem writeReg64_held (off : Nat) (data : Word64) (s : State) : (writeReg64 off data s).held = s.held := by
  unfold writeReg64
  simp only [State.held_foldl, implies_true, State.held_mk, State.held_fold, apply_ite State.held, ite_self, incrWrite_held, writeReg32_held]

theorem registerWrite_held (off size : Nat) (data : Word64) (s : State) : (registerWrite off size data s).held = s.held := by
  unfold registerWrite
  simp only [State.held_foldl, implies_true, State.held_mk, State.held_fold, apply_ite State.held, ite_self, complete_held, unsupported_held, writeReg32_held, writeReg64_held]

theorem forceWrite_held (off : Nat) (v : Word32) (s : State) : (forceWrite off v s).held = s.held := by
  unfold forceWrite
  simp only [State.held_foldl, implies_true, State.held_mk, State.held_fold, apply_ite State.held, ite_self, writeReg32_held]

theorem batchReg32_held (n : Nat) (s : State) : (batchReg32 n s).held = s.held := by
  unfold batchReg32
  repeat' first
    | with_reducible rfl
    | (simp only [State.held_foldl, implies_true, State.held_mk, State.held_fold, apply_ite State.held, apply_ite Prod.snd, ite_self, finishEntry_held, writeReg32_held]; done)
    | split
    | dsimp only

theorem applyRegInit_held (b : Bytes) (s : State) : (applyRegInit b s).held = s.held := by
  unfold applyRegInit
  simp only [State.held_foldl, implies_true, State.held_mk, State.held_fold, apply_ite State.held, ite_self, writeReg32_held]

theorem enterRun_held (s : State) : (enterRun s).held = s.held := State.held_of (enterRun_kept s)

theorem charterRun_held (s : State) : (charterRun s).held = s.held := by
  unfold charterRun
  simp only [State.held_foldl, implies_true, State.held_mk, State.held_fold, apply_ite State.held, ite_self, failLoad_held, applyRegInit_held, enterRun_held]

end Sys2Proof.Machine
end

