-- ==== Sys2Proof/Laws/Frames.lean ====
section
/-!
SUPPORT. For each command one lemma that says what it leaves alone.
-/
set_option linter.all false
namespace Sys2Proof.Machine

theorem execDmaFlushTimeout_kept {n : Fin 32} {s : State} {s' : State} (h : execDmaFlushTimeout n s = .next s') : s'.kept = s.kept := by
  cases h
  simp only [State.kept_mk, State.kept_fold, apply_ite State.kept, ite_self, freshOut_kept, flushTimeout_kept]

theorem execDmaRingEnable_kept {n : Fin 32} {v : Word32} {s : State} {s' : State} (h : execDmaRingEnable n v s = .next s') : s'.kept = s.kept := by
  cases h
  simp only [State.kept_mk, State.kept_fold, apply_ite State.kept, ite_self, freshOut_kept, ringCfgWrite_kept]

theorem execDmaRingDisable_kept {n : Fin 32} {v : Word32} {s : State} {s' : State} (h : execDmaRingDisable n v s = .next s') : s'.kept = s.kept := by
  cases h
  simp only [State.kept_mk, State.kept_fold, apply_ite State.kept, ite_self, freshOut_kept, ringCfgWrite_kept]

theorem execDmaTailWrite_kept {n : Fin 32} {v : Word32} {s : State} {s' : State} (h : execDmaTailWrite n v s = .next s') : s'.kept = s.kept := by
  cases h
  simp only [State.kept_mk, State.kept_fold, apply_ite State.kept, ite_self, tailWrite_kept]

theorem execBatchDone_kept {n : Fin 32} {s : State} {s' : State} (h : execBatchDone n s = .next s') : s'.kept = s.kept := by
  cases h
  simp only [State.kept_mk, State.kept_fold, apply_ite State.kept, ite_self, freshOut_kept, batchDone_kept]

theorem execDmaDescFetch_kept {n : Fin 32} {desc data : Option Bytes} {s : State} {s' : State} (h : execDmaDescFetch n desc data s = .next s') : s'.kept = s.kept := by
  cases h
  simp only [freshOut_kept, descFetch_kept]

theorem execTimeSnap_kept {s : State} {s' : State} (h : execTimeSnap s = .next s') : s'.kept = s.kept := by
  cases h
  simp only [timeSnap_kept]

theorem execTimeIncrWrite_kept {half : Option Bool} {w : Word64} {s : State} {s' : State} (h : execTimeIncrWrite half w s = .next s') : s'.kept = s.kept := by
  cases h
  simp only [incrWrite_kept]

theorem execTimeApply_kept {v : Word32} {s : State} {s' : State} (h : execTimeApply v s = .next s') : s'.kept = s.kept := by
  cases h
  simp only [State.kept_mk, State.kept_fold, apply_ite State.kept, ite_self, timeCtrlWrite_kept]

theorem execFollowCheck_kept {s : State} {s' : State} (h : execFollowCheck s = .next s') : s'.kept = s.kept := by
  cases h
  simp only [followCheck_kept]

theorem execRefclkTimeLoss_kept {s : State} {s' : State} (h : execRefclkTimeLoss s = .next s') : s'.kept = s.kept := by
  cases h
  simp only [refclkTime_kept]

theorem execRefclkTimeReturn_kept {s : State} {s' : State} (h : execRefclkTimeReturn s = .next s') : s'.kept = s.kept := by
  cases h
  simp only [refclkTime_kept]

theorem execTrigArm_kept {i : Fin 8} {v : Word32} {s : State} {s' : State} (h : execTrigArm i v s = .next s') : s'.kept = s.kept := by
  cases h
  simp only [State.kept_mk, State.kept_fold, apply_ite State.kept, ite_self, trigCtrlWrite_kept]

theorem execTrigDisarm_kept {i : Fin 8} {v : Word32} {s : State} {s' : State} (h : execTrigDisarm i v s = .next s') : s'.kept = s.kept := by
  cases h
  simp only [State.kept_mk, State.kept_fold, apply_ite State.kept, ite_self, trigCtrlWrite_kept]

theorem execTrigEdge_kept {i : Fin 8} {s : State} {s' : State} (h : execTrigEdge i s = .next s') : s'.kept = s.kept := by
  cases h
  simp only [trigEdge_kept]

theorem execTrigPulseEnd_kept {i : Fin 8} {s : State} {s' : State} (h : execTrigPulseEnd i s = .next s') : s'.kept = s.kept := by
  cases h
  simp only [trigPulseEnd_kept]

theorem execCaptureEdge_kept {i : Fin 9} {rising : Bool} {s : State} {s' : State} (h : execCaptureEdge i rising s = .next s') : s'.kept = s.kept := by
  cases h
  simp only [captureEdge_kept]

theorem execCapturePop_kept {i : Fin 9} {s : State} {s' : State} (h : execCapturePop i s = .next s') : s'.kept = s.kept := by
  cases h
  simp only [capturePop_kept]

theorem execPpsEdge_kept {s : State} {s' : State} (h : execPpsEdge s = .next s') : s'.kept = s.kept := by
  cases h
  simp only [ppsEdge_kept]

theorem execPpsPulseEnd_kept {s : State} {s' : State} (h : execPpsPulseEnd s = .next s') : s'.kept = s.kept := by
  cases h
  simp only [ppsPulseEnd_kept]

theorem execTs2Pop_kept {s : State} {s' : State} (h : execTs2Pop s = .next s') : s'.kept = s.kept := by
  cases h
  simp only [ts2Pop_kept]

theorem execSillageDeliver_kept {s : State} {s' : State} (h : execSillageDeliver s = .next s') : s'.kept = s.kept := by
  cases h
  simp only [freshOut_kept, sillDeliver_kept]

theorem execDispSampleCfgWrite_kept {v : Word32} {s : State} {s' : State} (h : execDispSampleCfgWrite v s = .next s') : s'.kept = s.kept := by
  unfold execDispSampleCfgWrite at h
  cases h
  simp only [State.kept_mk, State.kept_fold, apply_ite State.kept, ite_self, implies_true, gated_kept, dispCfgWrite_kept]

theorem execPortWindowLatch_kept {s : State} {s' : State} (h : execPortWindowLatch s = .next s') : s'.kept = s.kept := by
  cases h
  simp only [windowLatch_kept]

theorem execPerfFreeze_kept {v : Word32} {s : State} {s' : State} (h : execPerfFreeze v s = .next s') : s'.kept = s.kept := by
  unfold execPerfFreeze at h
  cases h
  simp only [State.kept_mk, State.kept_fold, apply_ite State.kept, ite_self, implies_true, gated_kept, freezeWrite_kept]

theorem execPerfUnfreeze_kept {v : Word32} {s : State} {s' : State} (h : execPerfUnfreeze v s = .next s') : s'.kept = s.kept := by
  unfold execPerfUnfreeze at h
  cases h
  simp only [State.kept_mk, State.kept_fold, apply_ite State.kept, ite_self, implies_true, gated_kept, freezeWrite_kept]

theorem execPerfScheduledAct_kept {s : State} {s' : State} (h : execPerfScheduledAct s = .next s') : s'.kept = s.kept := by
  cases h
  simp only [scheduledAct_kept]

theorem execPerfClear_kept {v : Word32} {s : State} {s' : State} (h : execPerfClear v s = .next s') : s'.kept = s.kept := by
  unfold execPerfClear at h
  cases h
  simp only [State.kept_mk, State.kept_fold, apply_ite State.kept, ite_self, implies_true, gated_kept, perfCtrlWrite_kept]

theorem execPerfDump_kept {s : State} {s' : State} (h : execPerfDump s = .next s') : s'.kept = s.kept := by
  cases h
  simp only [perfDump_kept]

theorem execFcXoffRepeat_kept {p : Fin 64} {c : Fin 9} {s : State} {s' : State} (h : execFcXoffRepeat p c s = .next s') : s'.kept = s.kept := by
  cases h
  simp only [xoffRepeat_kept]

theorem execPauseExpiry_kept {p : Fin 64} {c : Fin 8} {s : State} {s' : State} (h : execPauseExpiry p c s = .next s') : s'.kept = s.kept := by
  cases h
  simp only [pauseExpiry_kept]

theorem execSieveWrite_kept {cmd : Word32} {s : State} {s' : State} (h : execSieveWrite cmd s = .next s') : s'.kept = s.kept := by
  unfold execSieveWrite at h
  cases h
  simp only [State.kept_mk, State.kept_fold, apply_ite State.kept, ite_self, implies_true, gated_kept, sieveRow_kept]

theorem execSieveInsert_kept {cmd : Word32} {s : State} {s' : State} (h : execSieveInsert cmd s = .next s') : s'.kept = s.kept := by
  unfold execSieveInsert at h
  cases h
  simp only [State.kept_mk, State.kept_fold, apply_ite State.kept, ite_self, implies_true, gated_kept, sieveRow_kept]

theorem execSieveFind_kept {cmd : Word32} {s : State} {s' : State} (h : execSieveFind cmd s = .next s') : s'.kept = s.kept := by
  unfold execSieveFind at h
  cases h
  simp only [State.kept_mk, State.kept_fold, apply_ite State.kept, ite_self, implies_true, gated_kept, sieveRow_kept]

theorem execSieveInvalidate_kept {cmd : Word32} {s : State} {s' : State} (h : execSieveInvalidate cmd s = .next s') : s'.kept = s.kept := by
  unfold execSieveInvalidate at h
  cases h
  simp only [State.kept_mk, State.kept_fold, apply_ite State.kept, ite_self, implies_true, gated_kept, sieveRow_kept]

theorem execSieveSetEm_kept {cmd : Word32} {s : State} {s' : State} (h : execSieveSetEm cmd s = .next s') : s'.kept = s.kept := by
  unfold execSieveSetEm at h
  cases h
  simp only [State.kept_mk, State.kept_fold, apply_ite State.kept, ite_self, implies_true, gated_kept, sieveRow_kept]

theorem execSieveRead_kept {cmd : Word32} {s : State} {s' : State} (h : execSieveRead cmd s = .next s') : s'.kept = s.kept := by
  unfold execSieveRead at h
  cases h
  simp only [State.kept_mk, State.kept_fold, apply_ite State.kept, ite_self, implies_true, gated_kept, sieveRow_kept]

theorem execSieveOpDone_kept {s : State} {s' : State} (h : execSieveOpDone s = .next s') : s'.kept = s.kept := by
  cases h
  simp only [freshOut_kept, sieveOpDone_kept]

theorem execBatchSieve_kept {n : Fin 32} {s : State} {s' : State} (h : execBatchSieve n s = .next s') : s'.kept = s.kept := by
  cases h
  simp only [State.kept_mk, State.kept_fold, apply_ite State.kept, ite_self, batchSieve_kept]

theorem execAccordSwap_kept {s : State} {s' : State} (h : execAccordSwap s = .next s') : s'.kept = s.kept := by
  unfold execAccordSwap at h
  cases h
  simp only [State.kept_mk, State.kept_fold, apply_ite State.kept, ite_self, implies_true, gated_kept, accordSwap_kept]

theorem execAccordTSwap_kept {s : State} {s' : State} (h : execAccordTSwap s = .next s') : s'.kept = s.kept := by
  cases h
  simp only [freshOut_kept, accordTSwap_kept]

theorem execAccordDrained_kept {s : State} {s' : State} (h : execAccordDrained s = .next s') : s'.kept = s.kept := by
  cases h
  simp only [freshOut_kept, accordDrained_kept]

theorem execAccordDrainTmo_kept {s : State} {s' : State} (h : execAccordDrainTmo s = .next s') : s'.kept = s.kept := by
  cases h
  simp only [accordDrainTmo_kept]

theorem execBatchSwap_kept {n : Fin 32} {s : State} {s' : State} (h : execBatchSwap n s = .next s') : s'.kept = s.kept := by
  cases h
  simp only [State.kept_mk, State.kept_fold, apply_ite State.kept, ite_self, freshOut_kept, batchSwap_kept]

theorem execBatchWaitDrained_kept {n : Fin 32} {s : State} {s' : State} (h : execBatchWaitDrained n s = .next s') : s'.kept = s.kept := by
  cases h
  simp only [State.kept_mk, State.kept_fold, apply_ite State.kept, ite_self, freshOut_kept, batchWait_kept]

theorem execBatchWaitTimeout_kept {n : Fin 32} {s : State} {s' : State} (h : execBatchWaitTimeout n s = .next s') : s'.kept = s.kept := by
  cases h
  simp only [State.kept_mk, State.kept_fold, apply_ite State.kept, ite_self, freshOut_kept, batchTimeout_kept]

theorem execMergeWindowExpiry_kept {c : Fin 8} {record : Nat} {s : State} {s' : State} (h : execMergeWindowExpiry c record s = .next s') : s'.kept = s.kept := by
  cases h
  simp only [mergeExpiry_kept]

theorem execVaultRequestDone_kept {record : Nat} {user : VaultAccess} {noise retryNoise : Bytes} {s : State} {s' : State} (h : execVaultRequestDone record user noise retryNoise s = .next s') : s'.kept = s.kept := by
  cases h
  simp only [State.kept_mk, State.kept_fold, apply_ite State.kept, ite_self, vaultRequestDone_kept]

theorem execLockAlarm_kept {b : Fin 4} {way : Nat} {s : State} {s' : State} (h : execLockAlarm b way s = .next s') : s'.kept = s.kept := by
  cases h
  simp only [lockAlarm_kept]

theorem execDurableDirtyExpiry_kept {b : Fin 4} {way : Nat} {s : State} {s' : State} (h : execDurableDirtyExpiry b way s = .next s') : s'.kept = s.kept := by
  cases h
  simp only [durableExpiry_kept]

theorem execTillFlushStart_kept {b : Fin 4} {v : Word32} {s : State} {s' : State} (h : execTillFlushStart b v s = .next s') : s'.kept = s.kept := by
  unfold execTillFlushStart at h
  cases h
  simp only [State.kept_mk, State.kept_fold, apply_ite State.kept, ite_self, implies_true, gated_kept, flushStart_kept]

theorem execTillFlushDone_kept {b : Fin 4} {s : State} {s' : State} (h : execTillFlushDone b s = .next s') : s'.kept = s.kept := by
  cases h
  simp only [flushDone_kept]

theorem execOccLimitWrite_kept {v : Word32} {s : State} {s' : State} (h : execOccLimitWrite v s = .next s') : s'.kept = s.kept := by
  unfold execOccLimitWrite at h
  cases h
  simp only [State.kept_mk, State.kept_fold, apply_ite State.kept, ite_self, implies_true, gated_kept, occLimitWrite_kept]

theorem execSetupBurstWrite_kept {b : Fin 4} {v : Word32} {s : State} {s' : State} (h : execSetupBurstWrite b v s = .next s') : s'.kept = s.kept := by
  unfold execSetupBurstWrite at h
  cases h
  simp only [State.kept_mk, State.kept_fold, apply_ite State.kept, ite_self, implies_true, gated_kept, setupBurstWrite_kept]

theorem execAllowanceGrant_kept {s : State} {s' : State} (h : execAllowanceGrant s = .next s') : s'.kept = s.kept := by
  cases h
  simp only [grantHead_kept]

theorem execSlewStep_kept {s : State} {s' : State} (h : execSlewStep s = .next s') : s'.kept = s.kept := by
  cases h
  simp only [slewStep_kept]

theorem execCofferRound_kept {flips : List WordFlips} {s : State} {s' : State} (h : execCofferRound flips s = .next s') : s'.kept = s.kept := by
  cases h
  simp only [cofferRound_kept]

theorem execCofferHostRead_kept {off len : Nat} {flips : List WordFlips} {s : State} {s' : State} (h : execCofferHostRead off len flips s = .next s') : s'.kept = s.kept := by
  cases h
  simp only [cofferHostRead_kept]

theorem execCofferHostWrite_kept {off : Nat} {data : Bytes} {be : List Bool} {flips : List WordFlips} {s : State} {s' : State} (h : execCofferHostWrite off data be flips s = .next s') : s'.kept = s.kept := by
  cases h
  simp only [cofferHostChange_kept]

theorem execCofferSetWrite_kept {off : Nat} {data : Bytes} {be : List Bool} {flips : List WordFlips} {s : State} {s' : State} (h : execCofferSetWrite off data be flips s = .next s') : s'.kept = s.kept := by
  cases h
  simp only [cofferHostChange_kept]

theorem execCofferClearWrite_kept {off : Nat} {data : Bytes} {be : List Bool} {flips : List WordFlips} {s : State} {s' : State} (h : execCofferClearWrite off data be flips s = .next s') : s'.kept = s.kept := by
  cases h
  simp only [cofferHostChange_kept]

theorem execTillProbe_kept {b : Fin 4} {flips : List WordFlips} {s : State} {s' : State} (h : execTillProbe b flips s = .next s') : s'.kept = s.kept := by
  cases h
  simp only [probeRead_kept, tillProbe_kept]

theorem execCandidateReadDone_kept {b : Fin 4} {entry : Nat} {s : State} {s' : State} (h : execCandidateReadDone b entry s = .next s') : s'.kept = s.kept := by
  cases h
  simp only [candidateDone_kept]

theorem execFillRetry_kept {b : Fin 4} {entry : Nat} {s : State} {s' : State} (h : execFillRetry b entry s = .next s') : s'.kept = s.kept := by
  cases h
  simp only [fillRetry_kept]

theorem execMissTimeout_kept {b : Fin 4} {entry frame : Nat} {s : State} {s' : State} (h : execMissTimeout b entry frame s = .next s') : s'.kept = s.kept := by
  cases h
  simp only [missTimeout_kept]

theorem execTillLookup_kept {b : Fin 4} {s : State} {s' : State} (h : execTillLookup b s = .next s') : s'.kept = s.kept := by
  unfold execTillLookup at h
  cases h
  simp only [State.kept_mk, State.kept_fold, apply_ite State.kept, ite_self, implies_true, gated_kept, hostCommand_kept]

theorem execTillWrite_kept {b : Fin 4} {wmask : BitVec 16} {s : State} {s' : State} (h : execTillWrite b wmask s = .next s') : s'.kept = s.kept := by
  unfold execTillWrite at h
  cases h
  simp only [State.kept_mk, State.kept_fold, apply_ite State.kept, ite_self, implies_true, gated_kept, hostCommand_kept]

theorem execTillCreate_kept {b : Fin 4} {s : State} {s' : State} (h : execTillCreate b s = .next s') : s'.kept = s.kept := by
  unfold execTillCreate at h
  cases h
  simp only [State.kept_mk, State.kept_fold, apply_ite State.kept, ite_self, implies_true, gated_kept, hostCommand_kept]

theorem execTillDelete_kept {b : Fin 4} {s : State} {s' : State} (h : execTillDelete b s = .next s') : s'.kept = s.kept := by
  unfold execTillDelete at h
  cases h
  simp only [State.kept_mk, State.kept_fold, apply_ite State.kept, ite_self, implies_true, gated_kept, hostCommand_kept]

theorem execTillFlush_kept {b : Fin 4} {s : State} {s' : State} (h : execTillFlush b s = .next s') : s'.kept = s.kept := by
  unfold execTillFlush at h
  cases h
  simp only [State.kept_mk, State.kept_fold, apply_ite State.kept, ite_self, implies_true, gated_kept, hostCommand_kept]

theorem execTillReadSlot_kept {b : Fin 4} {s : State} {s' : State} (h : execTillReadSlot b s = .next s') : s'.kept = s.kept := by
  unfold execTillReadSlot at h
  cases h
  simp only [State.kept_mk, State.kept_fold, apply_ite State.kept, ite_self, implies_true, gated_kept, hostCommand_kept]

theorem execHreqDone_kept {b : Fin 4} {s : State} {s' : State} (h : execHreqDone b s = .next s') : s'.kept = s.kept := by
  cases h
  simp only [hreqDone_kept]

theorem execDispatchDecision_kept {b : Fin 4} {s : State} {s' : State} (h : execDispatchDecision b s = .next s') : s'.kept = s.kept := by
  cases h
  simp only [dispatchDecision_kept]

theorem execAffWaitExpiry_kept {b : Fin 4} {item : Nat} {s : State} {s' : State} (h : execAffWaitExpiry b item s = .next s') : s'.kept = s.kept := by
  cases h
  simp only [waitExpiry_kept]

theorem execPreemptWaitExpiry_kept {b : Fin 4} {item : Nat} {s : State} {s' : State} (h : execPreemptWaitExpiry b item s = .next s') : s'.kept = s.kept := by
  cases h
  simp only [waitExpiry_kept]

theorem execDispStallInterval_kept {b : Fin 4} {s : State} {s' : State} (h : execDispStallInterval b s = .next s') : s'.kept = s.kept := by
  cases h
  simp only [stallInterval_kept]

theorem execHostItemPost_kept {b : Fin 4} {s : State} {s' : State} (h : execHostItemPost b s = .next s') : s'.kept = s.kept := by
  unfold execHostItemPost at h
  cases h
  simp only [State.kept_mk, State.kept_fold, apply_ite State.kept, ite_self, implies_true, gated_kept, hostPost_kept]

theorem execSweepOffer_kept {b : Fin 4} {s : State} {s' : State} (h : execSweepOffer b s = .next s') : s'.kept = s.kept := by
  cases h
  simp only [sweepOffer_kept]

theorem execAffDataAccess_kept {b : Fin 4} {w : Option Word32} {s : State} {s' : State} (h : execAffDataAccess b w s = .next s') : s'.kept = s.kept := by
  cases h
  simp only [affAccess_kept]

theorem execNoseReportRetry_kept {b : Fin 4} {s : State} {s' : State} (h : execNoseReportRetry b s = .next s') : s'.kept = s.kept := by
  cases h
  simp only [reportRetry_kept]

theorem execNoseBurstReturn_kept {b : Fin 4} {s : State} {s' : State} (h : execNoseBurstReturn b s = .next s') : s'.kept = s.kept := by
  cases h
  simp only [noseBurstReturn_kept]

theorem execNoseRequestStart_kept {b : Fin 4} {s : State} {s' : State} (h : execNoseRequestStart b s = .next s') : s'.kept = s.kept := by
  cases h
  simp only [noseStart_kept]

theorem execNoseScanDone_kept {b : Fin 4} {mem : EccResult} {at_ : Nat} {s : State} {s' : State} (h : execNoseScanDone b mem at_ s = .next s') : s'.kept = s.kept := by
  cases h
  simp only [noseDone_kept]

theorem execNoseInvalidate_kept {v : Word32} {s : State} {s' : State} (h : execNoseInvalidate v s = .next s') : s'.kept = s.kept := by
  unfold execNoseInvalidate at h
  cases h
  simp only [State.kept_mk, State.kept_fold, apply_ite State.kept, ite_self, implies_true, gated_kept, noseInvalidate_kept]

theorem execNoseQuiesced_kept {g : Fin 64} {s : State} {s' : State} (h : execNoseQuiesced g s = .next s') : s'.kept = s.kept := by
  cases h
  simp only [noseQuiesced_kept]

theorem execNoseValidate_kept {v : Word32} {s : State} {s' : State} (h : execNoseValidate v s = .next s') : s'.kept = s.kept := by
  unfold execNoseValidate at h
  cases h
  simp only [State.kept_mk, State.kept_fold, apply_ite State.kept, ite_self, implies_true, gated_kept, noseValidate_kept]

theorem execNoseMemWrite_kept {v : Word32} {s : State} {s' : State} (h : execNoseMemWrite v s = .next s') : s'.kept = s.kept := by
  unfold execNoseMemWrite at h
  cases h
  simp only [State.kept_mk, State.kept_fold, apply_ite State.kept, ite_self, implies_true, gated_kept, noseMemWrite_kept]

theorem execAuditLapAlarm_kept {m : Fin 6} {s : State} {s' : State} (h : execAuditLapAlarm m s = .next s') : s'.kept = s.kept := by
  cases h
  simp only [lapAlarm_kept]

theorem execAuditVisit_kept {m : Fin 6} {c : Fin 8} {found : AuditFound} {flips : List WordFlips} {s : State} {s' : State} (h : execAuditVisit m c found flips s = .next s') : s'.kept = s.kept := by
  cases h
  simp only [auditVisit_kept]

theorem execMemReply_kept {t : Fin 128} {op : Nat} {s : State} {s' : State} (h : execMemReply t op s = .next s') : s'.kept = s.kept := by
  cases h
  simp only [memReply_kept]

theorem execMicroTrap_kept {t : Fin 128} {s : State} {s' : State} (h : execMicroTrap t s = .next s') : s'.kept = s.kept := by
  cases h
  simp only [microTrap_kept]

theorem execLockWaitTimeout_kept {t : Fin 128} {s : State} {s' : State} (h : execLockWaitTimeout t s = .next s') : s'.kept = s.kept := by
  cases h
  simp only [lockWaitTimeout_kept]

theorem execTctrlStop_kept {t : Fin 128} {s : State} {s' : State} (h : execTctrlStop t s = .next s') : s'.kept = s.kept := by
  unfold execTctrlStop at h
  cases h
  simp only [State.kept_mk, State.kept_fold, apply_ite State.kept, ite_self, implies_true, gated_kept, tellerStop_kept]

theorem execTctrlCont_kept {t : Fin 128} {s : State} {s' : State} (h : execTctrlCont t s = .next s') : s'.kept = s.kept := by
  unfold execTctrlCont at h
  cases h
  simp only [State.kept_mk, State.kept_fold, apply_ite State.kept, ite_self, implies_true, gated_kept, tellerCont_kept]

theorem execCsScrub_kept {d : Fin 16} {addr : BitVec 14} {e : EccResult} {s : State} {s' : State} (h : execCsScrub d addr e s = .next s') : s'.kept = s.kept := by
  cases h
  simp only [csScrub_kept]

theorem execCsRead_kept {d : Fin 16} {addr : BitVec 14} {s : State} {s' : State} (h : execCsRead d addr s = .next s') : s'.kept = s.kept := by
  unfold execCsRead at h
  cases h
  simp only [State.kept_mk, State.kept_fold, apply_ite State.kept, ite_self, implies_true, gated_kept, csRead_kept]

theorem execCsReadDone_kept {d : Fin 16} {e : EccResult} {s : State} {s' : State} (h : execCsReadDone d e s = .next s') : s'.kept = s.kept := by
  cases h
  simp only [csReadDone_kept]

theorem execMwFence_kept {t : Fin 128} {e : EccResult} {s : State} {s' : State} (h : execMwFence t e s = .next s') : s'.kept = s.kept := by
  cases h
  simp only [wordRow_kept]

theorem execMwHold_kept {t : Fin 128} {e : EccResult} {s : State} {s' : State} (h : execMwHold t e s = .next s') : s'.kept = s.kept := by
  cases h
  simp only [wordRow_kept]

theorem execSeqNext_kept {t : Fin 128} {e : EccResult} {s : State} {s' : State} (h : execSeqNext t e s = .next s') : s'.kept = s.kept := by
  cases h
  simp only [wordRow_kept]

theorem execSeqJump_kept {t : Fin 128} {e : EccResult} {s : State} {s' : State} (h : execSeqJump t e s = .next s') : s'.kept = s.kept := by
  cases h
  simp only [wordRow_kept]

theorem execSeqBrt_kept {t : Fin 128} {e : EccResult} {s : State} {s' : State} (h : execSeqBrt t e s = .next s') : s'.kept = s.kept := by
  cases h
  simp only [wordRow_kept]

theorem execSeqBrf_kept {t : Fin 128} {e : EccResult} {s : State} {s' : State} (h : execSeqBrf t e s = .next s') : s'.kept = s.kept := by
  cases h
  simp only [wordRow_kept]

theorem execSeqCall_kept {t : Fin 128} {e : EccResult} {s : State} {s' : State} (h : execSeqCall t e s = .next s') : s'.kept = s.kept := by
  cases h
  simp only [wordRow_kept]

theorem execSeqCallt_kept {t : Fin 128} {e : EccResult} {s : State} {s' : State} (h : execSeqCallt t e s = .next s') : s'.kept = s.kept := by
  cases h
  simp only [wordRow_kept]

theorem execSeqRet_kept {t : Fin 128} {e : EccResult} {s : State} {s' : State} (h : execSeqRet t e s = .next s') : s'.kept = s.kept := by
  cases h
  simp only [wordRow_kept]

theorem execSeqRett_kept {t : Fin 128} {e : EccResult} {s : State} {s' : State} (h : execSeqRett t e s = .next s') : s'.kept = s.kept := by
  cases h
  simp only [wordRow_kept]

theorem execSeqLoop_kept {t : Fin 128} {e : EccResult} {s : State} {s' : State} (h : execSeqLoop t e s = .next s') : s'.kept = s.kept := by
  cases h
  simp only [wordRow_kept]

theorem execSeqLdloop_kept {t : Fin 128} {e : EccResult} {s : State} {s' : State} (h : execSeqLdloop t e s = .next s') : s'.kept = s.kept := by
  cases h
  simp only [wordRow_kept]

theorem execSeqLdloopg_kept {t : Fin 128} {e : EccResult} {s : State} {s' : State} (h : execSeqLdloopg t e s = .next s') : s'.kept = s.kept := by
  cases h
  simp only [wordRow_kept]

theorem execSeqJtab_kept {t : Fin 128} {e : EccResult} {s : State} {s' : State} (h : execSeqJtab t e s = .next s') : s'.kept = s.kept := by
  cases h
  simp only [wordRow_kept]

theorem execSeqEnd_kept {t : Fin 128} {e : EccResult} {s : State} {s' : State} (h : execSeqEnd t e s = .next s') : s'.kept = s.kept := by
  cases h
  simp only [wordRow_kept]

theorem execSeqResume_kept {t : Fin 128} {e : EccResult} {s : State} {s' : State} (h : execSeqResume t e s = .next s') : s'.kept = s.kept := by
  cases h
  simp only [wordRow_kept]

theorem execSeqTrapv_kept {t : Fin 128} {e : EccResult} {s : State} {s' : State} (h : execSeqTrapv t e s = .next s') : s'.kept = s.kept := by
  cases h
  simp only [wordRow_kept]

theorem execSeqHalt_kept {t : Fin 128} {e : EccResult} {s : State} {s' : State} (h : execSeqHalt t e s = .next s') : s'.kept = s.kept := by
  cases h
  simp only [wordRow_kept]

theorem execAopAdd_kept {t : Fin 128} {e : EccResult} {s : State} {s' : State} (h : execAopAdd t e s = .next s') : s'.kept = s.kept := by
  cases h
  simp only [wordRow_kept]

theorem execAopSub_kept {t : Fin 128} {e : EccResult} {s : State} {s' : State} (h : execAopSub t e s = .next s') : s'.kept = s.kept := by
  cases h
  simp only [wordRow_kept]

theorem execAopAnd_kept {t : Fin 128} {e : EccResult} {s : State} {s' : State} (h : execAopAnd t e s = .next s') : s'.kept = s.kept := by
  cases h
  simp only [wordRow_kept]

theorem execAopOr_kept {t : Fin 128} {e : EccResult} {s : State} {s' : State} (h : execAopOr t e s = .next s') : s'.kept = s.kept := by
  cases h
  simp only [wordRow_kept]

theorem execAopXor_kept {t : Fin 128} {e : EccResult} {s : State} {s' : State} (h : execAopXor t e s = .next s') : s'.kept = s.kept := by
  cases h
  simp only [wordRow_kept]

theorem execAopAndn_kept {t : Fin 128} {e : EccResult} {s : State} {s' : State} (h : execAopAndn t e s = .next s') : s'.kept = s.kept := by
  cases h
  simp only [wordRow_kept]

theorem execAopMov_kept {t : Fin 128} {e : EccResult} {s : State} {s' : State} (h : execAopMov t e s = .next s') : s'.kept = s.kept := by
  cases h
  simp only [wordRow_kept]

theorem execAopShl_kept {t : Fin 128} {e : EccResult} {s : State} {s' : State} (h : execAopShl t e s = .next s') : s'.kept = s.kept := by
  cases h
  simp only [wordRow_kept]

theorem execAopShr_kept {t : Fin 128} {e : EccResult} {s : State} {s' : State} (h : execAopShr t e s = .next s') : s'.kept = s.kept := by
  cases h
  simp only [wordRow_kept]

theorem execAopSar_kept {t : Fin 128} {e : EccResult} {s : State} {s' : State} (h : execAopSar t e s = .next s') : s'.kept = s.kept := by
  cases h
  simp only [wordRow_kept]

theorem execAopRol_kept {t : Fin 128} {e : EccResult} {s : State} {s' : State} (h : execAopRol t e s = .next s') : s'.kept = s.kept := by
  cases h
  simp only [wordRow_kept]

theorem execAopRor_kept {t : Fin 128} {e : EccResult} {s : State} {s' : State} (h : execAopRor t e s = .next s') : s'.kept = s.kept := by
  cases h
  simp only [wordRow_kept]

theorem execAopMinu_kept {t : Fin 128} {e : EccResult} {s : State} {s' : State} (h : execAopMinu t e s = .next s') : s'.kept = s.kept := by
  cases h
  simp only [wordRow_kept]

theorem execAopMaxu_kept {t : Fin 128} {e : EccResult} {s : State} {s' : State} (h : execAopMaxu t e s = .next s') : s'.kept = s.kept := by
  cases h
  simp only [wordRow_kept]

theorem execAopMins_kept {t : Fin 128} {e : EccResult} {s : State} {s' : State} (h : execAopMins t e s = .next s') : s'.kept = s.kept := by
  cases h
  simp only [wordRow_kept]

theorem execAopMaxs_kept {t : Fin 128} {e : EccResult} {s : State} {s' : State} (h : execAopMaxs t e s = .next s') : s'.kept = s.kept := by
  cases h
  simp only [wordRow_kept]

theorem execAopCmp_kept {t : Fin 128} {e : EccResult} {s : State} {s' : State} (h : execAopCmp t e s = .next s') : s'.kept = s.kept := by
  cases h
  simp only [wordRow_kept]

theorem execAopTst_kept {t : Fin 128} {e : EccResult} {s : State} {s' : State} (h : execAopTst t e s = .next s') : s'.kept = s.kept := by
  cases h
  simp only [wordRow_kept]

theorem execAopMul_kept {t : Fin 128} {e : EccResult} {s : State} {s' : State} (h : execAopMul t e s = .next s') : s'.kept = s.kept := by
  cases h
  simp only [wordRow_kept]

theorem execAopMulhu_kept {t : Fin 128} {e : EccResult} {s : State} {s' : State} (h : execAopMulhu t e s = .next s') : s'.kept = s.kept := by
  cases h
  simp only [wordRow_kept]

theorem execAopAddsu_kept {t : Fin 128} {e : EccResult} {s : State} {s' : State} (h : execAopAddsu t e s = .next s') : s'.kept = s.kept := by
  cases h
  simp only [wordRow_kept]

theorem execAopSubsu_kept {t : Fin 128} {e : EccResult} {s : State} {s' : State} (h : execAopSubsu t e s = .next s') : s'.kept = s.kept := by
  cases h
  simp only [wordRow_kept]

theorem execAopExt_kept {t : Fin 128} {e : EccResult} {s : State} {s' : State} (h : execAopExt t e s = .next s') : s'.kept = s.kept := by
  cases h
  simp only [wordRow_kept]

theorem execAopIns_kept {t : Fin 128} {e : EccResult} {s : State} {s' : State} (h : execAopIns t e s = .next s') : s'.kept = s.kept := by
  cases h
  simp only [wordRow_kept]

theorem execAopPopc_kept {t : Fin 128} {e : EccResult} {s : State} {s' : State} (h : execAopPopc t e s = .next s') : s'.kept = s.kept := by
  cases h
  simp only [wordRow_kept]

theorem execAopClz_kept {t : Fin 128} {e : EccResult} {s : State} {s' : State} (h : execAopClz t e s = .next s') : s'.kept = s.kept := by
  cases h
  simp only [wordRow_kept]

theorem execAopCtz_kept {t : Fin 128} {e : EccResult} {s : State} {s' : State} (h : execAopCtz t e s = .next s') : s'.kept = s.kept := by
  cases h
  simp only [wordRow_kept]

theorem execAopBswap_kept {t : Fin 128} {e : EccResult} {s : State} {s' : State} (h : execAopBswap t e s = .next s') : s'.kept = s.kept := by
  cases h
  simp only [wordRow_kept]

theorem execAopSext_kept {t : Fin 128} {e : EccResult} {s : State} {s' : State} (h : execAopSext t e s = .next s') : s'.kept = s.kept := by
  cases h
  simp only [wordRow_kept]

theorem execAopZext_kept {t : Fin 128} {e : EccResult} {s : State} {s' : State} (h : execAopZext t e s = .next s') : s'.kept = s.kept := by
  cases h
  simp only [wordRow_kept]

theorem execAopSetc_kept {t : Fin 128} {e : EccResult} {s : State} {s' : State} (h : execAopSetc t e s = .next s') : s'.kept = s.kept := by
  cases h
  simp only [wordRow_kept]

theorem execBopMov_kept {t : Fin 128} {e : EccResult} {s : State} {s' : State} (h : execBopMov t e s = .next s') : s'.kept = s.kept := by
  cases h
  simp only [wordRow_kept]

theorem execBopAdd_kept {t : Fin 128} {e : EccResult} {s : State} {s' : State} (h : execBopAdd t e s = .next s') : s'.kept = s.kept := by
  cases h
  simp only [wordRow_kept]

theorem execBopSub_kept {t : Fin 128} {e : EccResult} {s : State} {s' : State} (h : execBopSub t e s = .next s') : s'.kept = s.kept := by
  cases h
  simp only [wordRow_kept]

theorem execBopAnd_kept {t : Fin 128} {e : EccResult} {s : State} {s' : State} (h : execBopAnd t e s = .next s') : s'.kept = s.kept := by
  cases h
  simp only [wordRow_kept]

theorem execBopOr_kept {t : Fin 128} {e : EccResult} {s : State} {s' : State} (h : execBopOr t e s = .next s') : s'.kept = s.kept := by
  cases h
  simp only [wordRow_kept]

theorem execBopXor_kept {t : Fin 128} {e : EccResult} {s : State} {s' : State} (h : execBopXor t e s = .next s') : s'.kept = s.kept := by
  cases h
  simp only [wordRow_kept]

theorem execBopShl_kept {t : Fin 128} {e : EccResult} {s : State} {s' : State} (h : execBopShl t e s = .next s') : s'.kept = s.kept := by
  cases h
  simp only [wordRow_kept]

theorem execBopShr_kept {t : Fin 128} {e : EccResult} {s : State} {s' : State} (h : execBopShr t e s = .next s') : s'.kept = s.kept := by
  cases h
  simp only [wordRow_kept]

theorem execBopInc_kept {t : Fin 128} {e : EccResult} {s : State} {s' : State} (h : execBopInc t e s = .next s') : s'.kept = s.kept := by
  cases h
  simp only [wordRow_kept]

theorem execBopDec_kept {t : Fin 128} {e : EccResult} {s : State} {s' : State} (h : execBopDec t e s = .next s') : s'.kept = s.kept := by
  cases h
  simp only [wordRow_kept]

theorem execBopNot_kept {t : Fin 128} {e : EccResult} {s : State} {s' : State} (h : execBopNot t e s = .next s') : s'.kept = s.kept := by
  cases h
  simp only [wordRow_kept]

theorem execBopZx8_kept {t : Fin 128} {e : EccResult} {s : State} {s' : State} (h : execBopZx8 t e s = .next s') : s'.kept = s.kept := by
  cases h
  simp only [wordRow_kept]

theorem execBopZx16_kept {t : Fin 128} {e : EccResult} {s : State} {s' : State} (h : execBopZx16 t e s = .next s') : s'.kept = s.kept := by
  cases h
  simp only [wordRow_kept]

theorem execBopZx32_kept {t : Fin 128} {e : EccResult} {s : State} {s' : State} (h : execBopZx32 t e s = .next s') : s'.kept = s.kept := by
  cases h
  simp only [wordRow_kept]

theorem execBopHi32_kept {t : Fin 128} {e : EccResult} {s : State} {s' : State} (h : execBopHi32 t e s = .next s') : s'.kept = s.kept := by
  cases h
  simp only [wordRow_kept]

theorem execBopLo32in_kept {t : Fin 128} {e : EccResult} {s : State} {s' : State} (h : execBopLo32in t e s = .next s') : s'.kept = s.kept := by
  cases h
  simp only [wordRow_kept]

theorem execBopHi32in_kept {t : Fin 128} {e : EccResult} {s : State} {s' : State} (h : execBopHi32in t e s = .next s') : s'.kept = s.kept := by
  cases h
  simp only [wordRow_kept]

theorem execFopLd_kept {t : Fin 128} {e : EccResult} {s : State} {s' : State} (h : execFopLd t e s = .next s') : s'.kept = s.kept := by
  cases h
  simp only [wordRow_kept]

theorem execFopSt_kept {t : Fin 128} {e : EccResult} {s : State} {s' : State} (h : execFopSt t e s = .next s') : s'.kept = s.kept := by
  cases h
  simp only [wordRow_kept]

theorem execFopAdd_kept {t : Fin 128} {e : EccResult} {s : State} {s' : State} (h : execFopAdd t e s = .next s') : s'.kept = s.kept := by
  cases h
  simp only [wordRow_kept]

theorem execFopOr_kept {t : Fin 128} {e : EccResult} {s : State} {s' : State} (h : execFopOr t e s = .next s') : s'.kept = s.kept := by
  cases h
  simp only [wordRow_kept]

theorem execFopAndn_kept {t : Fin 128} {e : EccResult} {s : State} {s' : State} (h : execFopAndn t e s = .next s') : s'.kept = s.kept := by
  cases h
  simp only [wordRow_kept]

theorem execFopStm_kept {t : Fin 128} {e : EccResult} {s : State} {s' : State} (h : execFopStm t e s = .next s') : s'.kept = s.kept := by
  cases h
  simp only [wordRow_kept]

theorem execFopSetstate_kept {t : Fin 128} {e : EccResult} {s : State} {s' : State} (h : execFopSetstate t e s = .next s') : s'.kept = s.kept := by
  cases h
  simp only [wordRow_kept]

theorem execFopOpen_kept {t : Fin 128} {e : EccResult} {s : State} {s' : State} (h : execFopOpen t e s = .next s') : s'.kept = s.kept := by
  cases h
  simp only [wordRow_kept]

theorem execFopRelwin_kept {t : Fin 128} {e : EccResult} {s : State} {s' : State} (h : execFopRelwin t e s = .next s') : s'.kept = s.kept := by
  cases h
  simp only [wordRow_kept]

theorem execFopFlush_kept {t : Fin 128} {e : EccResult} {s : State} {s' : State} (h : execFopFlush t e s = .next s') : s'.kept = s.kept := by
  cases h
  simp only [wordRow_kept]

theorem execMopLd_kept {t : Fin 128} {e : EccResult} {s : State} {s' : State} (h : execMopLd t e s = .next s') : s'.kept = s.kept := by
  cases h
  simp only [wordRow_kept]

theorem execMopLd2_kept {t : Fin 128} {e : EccResult} {s : State} {s' : State} (h : execMopLd2 t e s = .next s') : s'.kept = s.kept := by
  cases h
  simp only [wordRow_kept]

theorem execMopSt_kept {t : Fin 128} {e : EccResult} {s : State} {s' : State} (h : execMopSt t e s = .next s') : s'.kept = s.kept := by
  cases h
  simp only [wordRow_kept]

theorem execMopSt2_kept {t : Fin 128} {e : EccResult} {s : State} {s' : State} (h : execMopSt2 t e s = .next s') : s'.kept = s.kept := by
  cases h
  simp only [wordRow_kept]

theorem execMopFadd_kept {t : Fin 128} {e : EccResult} {s : State} {s' : State} (h : execMopFadd t e s = .next s') : s'.kept = s.kept := by
  cases h
  simp only [wordRow_kept]

theorem execMopSwap_kept {t : Fin 128} {e : EccResult} {s : State} {s' : State} (h : execMopSwap t e s = .next s') : s'.kept = s.kept := by
  cases h
  simp only [wordRow_kept]

theorem execMopCas_kept {t : Fin 128} {e : EccResult} {s : State} {s' : State} (h : execMopCas t e s = .next s') : s'.kept = s.kept := by
  cases h
  simp only [wordRow_kept]

theorem execMopLookup_kept {t : Fin 128} {e : EccResult} {s : State} {s' : State} (h : execMopLookup t e s = .next s') : s'.kept = s.kept := by
  cases h
  simp only [wordRow_kept]

theorem execMopGuard_kept {t : Fin 128} {e : EccResult} {s : State} {s' : State} (h : execMopGuard t e s = .next s') : s'.kept = s.kept := by
  cases h
  simp only [wordRow_kept]

theorem execMopFtwr_kept {t : Fin 128} {e : EccResult} {s : State} {s' : State} (h : execMopFtwr t e s = .next s') : s'.kept = s.kept := by
  cases h
  simp only [wordRow_kept]

theorem execMopUnguard_kept {t : Fin 128} {e : EccResult} {s : State} {s' : State} (h : execMopUnguard t e s = .next s') : s'.kept = s.kept := by
  cases h
  simp only [wordRow_kept]

theorem execMopSweep_kept {t : Fin 128} {e : EccResult} {s : State} {s' : State} (h : execMopSweep t e s = .next s') : s'.kept = s.kept := by
  cases h
  simp only [wordRow_kept]

theorem execHopFmix_kept {t : Fin 128} {e : EccResult} {s : State} {s' : State} (h : execHopFmix t e s = .next s') : s'.kept = s.kept := by
  cases h
  simp only [wordRow_kept]

theorem execHopFlow_kept {t : Fin 128} {e : EccResult} {s : State} {s' : State} (h : execHopFlow t e s = .next s') : s'.kept = s.kept := by
  cases h
  simp only [wordRow_kept]

theorem execHopCrc32c_kept {t : Fin 128} {e : EccResult} {s : State} {s' : State} (h : execHopCrc32c t e s = .next s') : s'.kept = s.kept := by
  cases h
  simp only [wordRow_kept]

theorem execHopRange_kept {t : Fin 128} {e : EccResult} {s : State} {s' : State} (h : execHopRange t e s = .next s') : s'.kept = s.kept := by
  cases h
  simp only [wordRow_kept]

theorem execHopCanda_kept {t : Fin 128} {e : EccResult} {s : State} {s' : State} (h : execHopCanda t e s = .next s') : s'.kept = s.kept := by
  cases h
  simp only [wordRow_kept]

theorem execHopCandb_kept {t : Fin 128} {e : EccResult} {s : State} {s' : State} (h : execHopCandb t e s = .next s') : s'.kept = s.kept := by
  cases h
  simp only [wordRow_kept]

theorem execQopLdpkt_kept {t : Fin 128} {e : EccResult} {s : State} {s' : State} (h : execQopLdpkt t e s = .next s') : s'.kept = s.kept := by
  cases h
  simp only [wordRow_kept]

theorem execQopLddesc_kept {t : Fin 128} {e : EccResult} {s : State} {s' : State} (h : execQopLddesc t e s = .next s') : s'.kept = s.kept := by
  cases h
  simp only [wordRow_kept]

theorem execQopSetact_kept {t : Fin 128} {e : EccResult} {s : State} {s' : State} (h : execQopSetact t e s = .next s') : s'.kept = s.kept := by
  cases h
  simp only [wordRow_kept]

theorem execQopParam_kept {t : Fin 128} {e : EccResult} {s : State} {s' : State} (h : execQopParam t e s = .next s') : s'.kept = s.kept := by
  cases h
  simp only [wordRow_kept]

theorem execQopRecirc_kept {t : Fin 128} {e : EccResult} {s : State} {s' : State} (h : execQopRecirc t e s = .next s') : s'.kept = s.kept := by
  cases h
  simp only [wordRow_kept]

theorem execQopPunt_kept {t : Fin 128} {e : EccResult} {s : State} {s' : State} (h : execQopPunt t e s = .next s') : s'.kept = s.kept := by
  cases h
  simp only [wordRow_kept]

theorem execQopMirror_kept {t : Fin 128} {e : EccResult} {s : State} {s' : State} (h : execQopMirror t e s = .next s') : s'.kept = s.kept := by
  cases h
  simp only [wordRow_kept]

theorem execQopDrop_kept {t : Fin 128} {e : EccResult} {s : State} {s' : State} (h : execQopDrop t e s = .next s') : s'.kept = s.kept := by
  cases h
  simp only [wordRow_kept]

theorem execQopPolice_kept {t : Fin 128} {e : EccResult} {s : State} {s' : State} (h : execQopPolice t e s = .next s') : s'.kept = s.kept := by
  cases h
  simp only [wordRow_kept]

theorem execQopScan_kept {t : Fin 128} {e : EccResult} {s : State} {s' : State} (h : execQopScan t e s = .next s') : s'.kept = s.kept := by
  cases h
  simp only [wordRow_kept]

theorem execQopNoseget_kept {t : Fin 128} {e : EccResult} {s : State} {s' : State} (h : execQopNoseget t e s = .next s') : s'.kept = s.kept := by
  cases h
  simp only [wordRow_kept]

theorem execQopRelease_kept {t : Fin 128} {e : EccResult} {s : State} {s' : State} (h : execQopRelease t e s = .next s') : s'.kept = s.kept := by
  cases h
  simp only [wordRow_kept]

theorem execCopInc_kept {t : Fin 128} {e : EccResult} {s : State} {s' : State} (h : execCopInc t e s = .next s') : s'.kept = s.kept := by
  cases h
  simp only [wordRow_kept]

theorem execCopAdd_kept {t : Fin 128} {e : EccResult} {s : State} {s' : State} (h : execCopAdd t e s = .next s') : s'.kept = s.kept := by
  cases h
  simp only [wordRow_kept]

theorem execCopRd_kept {t : Fin 128} {e : EccResult} {s : State} {s' : State} (h : execCopRd t e s = .next s') : s'.kept = s.kept := by
  cases h
  simp only [wordRow_kept]

theorem execCopRdclr_kept {t : Fin 128} {e : EccResult} {s : State} {s' : State} (h : execCopRdclr t e s = .next s') : s'.kept = s.kept := by
  cases h
  simp only [wordRow_kept]

theorem execCopPerf_kept {t : Fin 128} {e : EccResult} {s : State} {s' : State} (h : execCopPerf t e s = .next s') : s'.kept = s.kept := by
  cases h
  simp only [wordRow_kept]

theorem execCopTick_kept {t : Fin 128} {e : EccResult} {s : State} {s' : State} (h : execCopTick t e s = .next s') : s'.kept = s.kept := by
  cases h
  simp only [wordRow_kept]

theorem execTopNow_kept {t : Fin 128} {e : EccResult} {s : State} {s' : State} (h : execTopNow t e s = .next s') : s'.kept = s.kept := by
  cases h
  simp only [wordRow_kept]

theorem execTopArr_kept {t : Fin 128} {e : EccResult} {s : State} {s' : State} (h : execTopArr t e s = .next s') : s'.kept = s.kept := by
  cases h
  simp only [wordRow_kept]

theorem execTopElapsed_kept {t : Fin 128} {e : EccResult} {s : State} {s' : State} (h : execTopElapsed t e s = .next s') : s'.kept = s.kept := by
  cases h
  simp only [wordRow_kept]

theorem execTopLockt_kept {t : Fin 128} {e : EccResult} {s : State} {s' : State} (h : execTopLockt t e s = .next s') : s'.kept = s.kept := by
  cases h
  simp only [wordRow_kept]

theorem execTopSec_kept {t : Fin 128} {e : EccResult} {s : State} {s' : State} (h : execTopSec t e s = .next s') : s'.kept = s.kept := by
  cases h
  simp only [wordRow_kept]

theorem execTopNsfrac_kept {t : Fin 128} {e : EccResult} {s : State} {s' : State} (h : execTopNsfrac t e s = .next s') : s'.kept = s.kept := by
  cases h
  simp only [wordRow_kept]

theorem execXopYield_kept {t : Fin 128} {e : EccResult} {s : State} {s' : State} (h : execXopYield t e s = .next s') : s'.kept = s.kept := by
  cases h
  simp only [wordRow_kept]

theorem execXopPost_kept {t : Fin 128} {e : EccResult} {s : State} {s' : State} (h : execXopPost t e s = .next s') : s'.kept = s.kept := by
  cases h
  simp only [wordRow_kept]

theorem execXopTrace_kept {t : Fin 128} {e : EccResult} {s : State} {s' : State} (h : execXopTrace t e s = .next s') : s'.kept = s.kept := by
  cases h
  simp only [wordRow_kept]

theorem execXopNoaff_kept {t : Fin 128} {e : EccResult} {s : State} {s' : State} (h : execXopNoaff t e s = .next s') : s'.kept = s.kept := by
  cases h
  simp only [wordRow_kept]

theorem execExportTake_kept {b : Fin 4} {s : State} {s' : State} (h : execExportTake b s = .next s') : s'.kept = s.kept := by
  cases h
  simp only [freshOut_kept, exportTake_kept]

theorem execExportItemRetry_kept {b : Fin 4} {s : State} {s' : State} (h : execExportItemRetry b s = .next s') : s'.kept = s.kept := by
  cases h
  simp only [exportItemRetry_kept]

theorem execIpfixFlush_kept {b : Fin 4} {s : State} {s' : State} (h : execIpfixFlush b s = .next s') : s'.kept = s.kept := by
  cases h
  simp only [freshOut_kept, ipfixFlush_kept]

theorem execIpfixTemplateResend_kept {b : Fin 4} {s : State} {s' : State} (h : execIpfixTemplateResend b s = .next s') : s'.kept = s.kept := by
  cases h
  simp only [templateResend_kept]

theorem execMintRound_kept {s : State} {s' : State} (h : execMintRound s = .next s') : s'.kept = s.kept := by
  cases h
  simp only [mintRound_kept]

theorem execFrameRxStart_kept {p : Fin 64} {data : Bytes} {full : Bool} {s : State} {s' : State} (h : execFrameRxStart p data full s = .next s') : s'.kept = s.kept := by
  cases h
  simp only [rxStart_kept]

theorem execFrameRxTail_kept {p : Fin 64} {data : Bytes} {fcsOk : Bool} {fec : Nat} {syms : List Nat} {s : State} {s' : State} (h : execFrameRxTail p data fcsOk fec syms s = .next s') : s'.kept = s.kept := by
  cases h
  simp only [rxTail_kept]

theorem execMacControlFrame_kept {p : Fin 64} {data : Bytes} {fcsOk : Bool} {s : State} {s' : State} (h : execMacControlFrame p data fcsOk s = .next s') : s'.kept = s.kept := by
  cases h
  simp only [macControl_kept]

theorem execFecUncorrCodeword_kept {p : Fin 64} {s : State} {s' : State} (h : execFecUncorrCodeword p s = .next s') : s'.kept = s.kept := by
  cases h
  simp only [fecUncorr_kept]

theorem execSamplerEnable_kept {p : Fin 64} {v : Word32} {s : State} {s' : State} (h : execSamplerEnable p v s = .next s') : s'.kept = s.kept := by
  unfold execSamplerEnable at h
  cases h
  simp only [State.kept_mk, State.kept_fold, apply_ite State.kept, ite_self, implies_true, gated_kept, samplerWrite_kept]

theorem execSampleSeedWrite_kept {p : Fin 64} {v : Word32} {s : State} {s' : State} (h : execSampleSeedWrite p v s = .next s') : s'.kept = s.kept := by
  unfold execSampleSeedWrite at h
  cases h
  simp only [State.kept_mk, State.kept_fold, apply_ite State.kept, ite_self, implies_true, gated_kept, seedWrite_kept]

theorem execSwcGrpWrite_kept {cmd : Word32} {s : State} {s' : State} (h : execSwcGrpWrite cmd s = .next s') : s'.kept = s.kept := by
  unfold execSwcGrpWrite at h
  cases h
  simp only [State.kept_mk, State.kept_fold, apply_ite State.kept, ite_self, implies_true, gated_kept, grpCommand_kept]

theorem execSwcGrpRead_kept {cmd : Word32} {s : State} {s' : State} (h : execSwcGrpRead cmd s = .next s') : s'.kept = s.kept := by
  unfold execSwcGrpRead at h
  cases h
  simp only [State.kept_mk, State.kept_fold, apply_ite State.kept, ite_self, implies_true, gated_kept, grpCommand_kept]

theorem execAssayAdmit_kept {b : Fin 4} {s : State} {s' : State} (h : execAssayAdmit b s = .next s') : s'.kept = s.kept := by
  cases h
  simp only [assayAdmit_kept]

theorem execParsePass_kept {b : Fin 4} {frame : Nat} {sieve : List SieveRead} {s : State} {s' : State} (h : execParsePass b frame sieve s = .next s') : s'.kept = s.kept := by
  cases h
  rw [parsePass_kept, State.kept_foldl _ fun t r => sieveRead_kept ..]

theorem execXchHoldRelease_kept {b : Fin 4} {s : State} {s' : State} (h : execXchHoldRelease b s = .next s') : s'.kept = s.kept := by
  cases h
  simp only [holdRelease_kept]

theorem execXchStallInterval_kept {b : Fin 4} {s : State} {s' : State} (h : execXchStallInterval b s = .next s') : s'.kept = s.kept := by
  cases h
  simp only [xchStall_kept]

theorem execRecircPlaceFreed_kept {b : Fin 4} {s : State} {s' : State} (h : execRecircPlaceFreed b s = .next s') : s'.kept = s.kept := by
  cases h
  simp only [recircPlace_kept]

theorem execInjectFrameRead_kept {n : Fin 32} {data : Option Bytes} {s : State} {s' : State} (h : execInjectFrameRead n data s = .next s') : s'.kept = s.kept := by
  cases h
  simp only [freshOut_kept, injectRead_kept]

theorem execNptMapValidate_kept {m : Fin 64} {v : Word32} {s : State} {s' : State} (h : execNptMapValidate m v s = .next s') : s'.kept = s.kept := by
  unfold execNptMapValidate at h
  cases h
  simp only [State.kept_mk, State.kept_fold, apply_ite State.kept, ite_self, implies_true, gated_kept, nptCtlWrite_kept]

theorem execGclDurWrite_kept {v : Word32} {s : State} {s' : State} (h : execGclDurWrite v s = .next s') : s'.kept = s.kept := by
  unfold execGclDurWrite at h
  cases h
  simp only [State.kept_mk, State.kept_fold, apply_ite State.kept, ite_self, implies_true, gated_kept, gclWrite_kept]

theorem execGclDurRead_kept {s : State} {s' : State} (h : execGclDurRead s = .next s') : s'.kept = s.kept := by
  cases h
  simp only [gclReadHost_kept]

theorem execGateChange_kept {p : Fin 64} {v : Word32} {s : State} {s' : State} (h : execGateChange p v s = .next s') : s'.kept = s.kept := by
  unfold execGateChange at h
  cases h
  simp only [State.kept_mk, State.kept_fold, apply_ite State.kept, ite_self, implies_true, gated_kept, gateCtrlWrite_kept]

theorem execGateDisable_kept {p : Fin 64} {v : Word32} {s : State} {s' : State} (h : execGateDisable p v s = .next s') : s'.kept = s.kept := by
  unfold execGateDisable at h
  cases h
  simp only [State.kept_mk, State.kept_fold, apply_ite State.kept, ite_self, implies_true, gated_kept, gateCtrlWrite_kept]

theorem execGateSwitch_kept {p : Fin 64} {s : State} {s' : State} (h : execGateSwitch p s = .next s') : s'.kept = s.kept := by
  cases h
  simp only [gateSwitch_kept]

theorem execOffsetAdd_kept {s : State} {s' : State} (h : execOffsetAdd s = .next s') : s'.kept = s.kept := by
  cases h
  simp only [offsetStep_kept]

theorem execShaperUpdate_kept {k : Fin 66} {c : Fin 16} {s : State} {s' : State} (h : execShaperUpdate k c s = .next s') : s'.kept = s.kept := by
  cases h
  simp only [shaperUpdate_kept]

theorem execClearDebt_kept {n : Fin 536} {v : Word32} {s : State} {s' : State} (h : execClearDebt n v s = .next s') : s'.kept = s.kept := by
  unfold execClearDebt at h
  cases h
  simp only [State.kept_mk, State.kept_fold, apply_ite State.kept, ite_self, implies_true, gated_kept, classCtrlWrite_kept]

theorem execTmSelect_kept {k : Fin 66} {desc buf : SramRead} {s : State} {s' : State} (h : execTmSelect k desc buf s = .next s') : s'.kept = s.kept := by
  cases h
  simp only [tmSelect_kept]

theorem execTxCopyEnd_kept {k : Fin 66} {buf : SramRead} {s : State} {s' : State} (h : execTxCopyEnd k buf s = .next s') : s'.kept = s.kept := by
  cases h
  simp only [freshTeth_kept, txEnd_kept]

theorem execEgressUnderrun_kept {k : Fin 66} {s : State} {s' : State} (h : execEgressUnderrun k s = .next s') : s'.kept = s.kept := by
  cases h
  simp only [underrun_kept]

theorem execGateEntryBoundary_kept {p : Fin 64} {s : State} {s' : State} (h : execGateEntryBoundary p s = .next s') : s'.kept = s.kept := by
  cases h
  simp only [gateBoundary_kept]

theorem execHoldExpiry_kept {n : Fin 536} {s : State} {s' : State} (h : execHoldExpiry n s = .next s') : s'.kept = s.kept := by
  cases h
  simp only [holdExpiry_kept]

theorem execPolWrite_kept {cmd : Word32} {s : State} {s' : State} (h : execPolWrite cmd s = .next s') : s'.kept = s.kept := by
  cases h
  simp only [polRow_kept]

theorem execPolRead_kept {cmd : Word32} {s : State} {s' : State} (h : execPolRead cmd s = .next s') : s'.kept = s.kept := by
  cases h
  simp only [polRow_kept]

theorem execPolReadClear_kept {cmd : Word32} {s : State} {s' : State} (h : execPolReadClear cmd s = .next s') : s'.kept = s.kept := by
  cases h
  simp only [polRow_kept]

theorem execPolRefill_kept {cmd : Word32} {s : State} {s' : State} (h : execPolRefill cmd s = .next s') : s'.kept = s.kept := by
  cases h
  simp only [polRow_kept]

theorem execDmaRecordWrite_kept {n : Fin 32} {s : State} {s' : State} (h : execDmaRecordWrite n s = .next s') : s'.kept = s.kept := by
  cases h
  simp only [freshOut_kept, recordWrite_kept]

theorem execDmaStarveInterval_kept {n : Fin 32} {s : State} {s' : State} (h : execDmaStarveInterval n s = .next s') : s'.kept = s.kept := by
  cases h
  simp only [starveInterval_kept]

theorem execPortEnable_kept {p : Fin 64} {v : Word32} {s : State} {s' : State} (h : execPortEnable p v s = .next s') : s'.kept = s.kept := by
  unfold execPortEnable at h
  cases h
  simp only [State.kept_mk, State.kept_fold, apply_ite State.kept, ite_self, implies_true, gated_kept, portCtrlWrite_kept]

theorem execPortDisable_kept {p : Fin 64} {v : Word32} {s : State} {s' : State} (h : execPortDisable p v s = .next s') : s'.kept = s.kept := by
  unfold execPortDisable at h
  cases h
  simp only [State.kept_mk, State.kept_fold, apply_ite State.kept, ite_self, implies_true, gated_kept, portCtrlWrite_kept]

theorem execPortAcquireDone_kept {p : Fin 64} {s : State} {s' : State} (h : execPortAcquireDone p s = .next s') : s'.kept = s.kept := by
  cases h
  simp only [acquireDone_kept]

theorem execPortAlignDone_kept {p : Fin 64} {s : State} {s' : State} (h : execPortAlignDone p s = .next s') : s'.kept = s.kept := by
  cases h
  simp only [alignDone_kept]

theorem execPortLinkUp_kept {p : Fin 64} {s : State} {s' : State} (h : execPortLinkUp p s = .next s') : s'.kept = s.kept := by
  cases h
  simp only [linkUp_kept]

theorem execPortLinkDown_kept {p : Fin 64} {cause : LinkLoss} {lane : Fin 8} {s : State} {s' : State} (h : execPortLinkDown p cause lane s = .next s') : s'.kept = s.kept := by
  cases h
  simp only [cause_kept, linkDown_kept]

theorem execRemoteFault_kept {p : Fin 64} {s : State} {s' : State} (h : execRemoteFault p s = .next s') : s'.kept = s.kept := by
  cases h
  simp only [remoteFault_kept]

theorem execRefclkEthLoss_kept {s : State} {s' : State} (h : execRefclkEthLoss s = .next s') : s'.kept = s.kept := by
  rw [← Host.Outcome.next.inj h]
  exact refclkEthLoss_kept ..

theorem execRefclkEthReturn_kept {s : State} {s' : State} (h : execRefclkEthReturn s = .next s') : s'.kept = s.kept := by
  rw [← Host.Outcome.next.inj h]
  exact refclkEthReturn_kept ..

theorem execTethRetrain_kept {v : Word32} {s : State} {s' : State} (h : execTethRetrain v s = .next s') : s'.kept = s.kept := by
  unfold execTethRetrain at h
  cases h
  simp only [State.kept_mk, State.kept_fold, apply_ite State.kept, ite_self, implies_true, gated_kept, tethCtrlWrite_kept]

theorem execTethTrainDone_kept {s : State} {s' : State} (h : execTethTrainDone s = .next s') : s'.kept = s.kept := by
  cases h
  simp only [tethTrained_kept]

theorem execTethLaneCheck_kept {errors : List Nat} {peer : BitVec 8} {s : State} {s' : State} (h : execTethLaneCheck errors peer s = .next s') : s'.kept = s.kept := by
  cases h
  simp only [laneCheck_kept]

theorem execTethLinkUp_kept {peer set : BitVec 8} {s : State} {s' : State} (h : execTethLinkUp peer set s = .next s') : s'.kept = s.kept := by
  cases h
  simp only [freshTeth_kept, tethLinkUp_kept]

theorem execTethReform_kept {lane : Fin 8} {set : BitVec 8} {s : State} {s' : State} (h : execTethReform lane set s = .next s') : s'.kept = s.kept := by
  cases h
  simp only [freshTeth_kept, tethReform_kept]

theorem execTethLinkDown_kept {s : State} {s' : State} (h : execTethLinkDown s = .next s') : s'.kept = s.kept := by
  cases h
  simp only [tethLinkDown_kept]

theorem execLinkFrameRx_kept {kind : Nat} {seq : BitVec 16} {crcOk : Bool} {ack nak : Option (BitVec 16)} {buf : SramRead} {s : State} {s' : State} (h : execLinkFrameRx kind seq crcOk ack nak buf s = .next s') : s'.kept = s.kept := by
  cases h
  simp only [freshTeth_kept, linkRx_kept]

theorem execHeartbeatSend_kept {s : State} {s' : State} (h : execHeartbeatSend s = .next s') : s'.kept = s.kept := by
  cases h
  simp only [heartbeatSend_kept]

theorem execHeartbeatRx_kept {msg : Bytes} {s : State} {s' : State} (h : execHeartbeatRx msg s = .next s') : s'.kept = s.kept := by
  cases h
  simp only [heartbeatRx_kept]

theorem execPeerLost_kept {s : State} {s' : State} (h : execPeerLost s = .next s') : s'.kept = s.kept := by
  cases h
  simp only [peerLost_kept]

theorem execMirrorApply_kept {msg : Bytes} {s : State} {s' : State} (h : execMirrorApply msg s = .next s') : s'.kept = s.kept := by
  cases h
  simp only [mirrorApply_kept]

theorem execTetherCopyRx_kept {header data : Bytes} {s : State} {s' : State} (h : execTetherCopyRx header data s = .next s') : s'.kept = s.kept := by
  cases h
  simp only [tetherCopy_kept]

theorem execRecoveryRequestRx_kept {msg : Bytes} {s : State} {s' : State} (h : execRecoveryRequestRx msg s = .next s') : s'.kept = s.kept := by
  cases h
  simp only [recoverRequest_kept]

theorem execRecoveryResponseRx_kept {msg : Bytes} {s : State} {s' : State} (h : execRecoveryResponseRx msg s = .next s') : s'.kept = s.kept := by
  cases h
  simp only [recoverResponse_kept]

theorem execRecoveryTimeout_kept {s : State} {s' : State} (h : execRecoveryTimeout s = .next s') : s'.kept = s.kept := by
  cases h
  simp only [recoverTimeout_kept]

theorem execRefreshAccrual_kept {c : Fin 8} {cs : Fin 2} {set : Fin 4} {s : State} {s' : State} (h : execRefreshAccrual c cs set s = .next s') : s'.kept = s.kept := by
  cases h
  simp only [refreshAccrual_kept]

theorem execRefreshIssue_kept {c : Fin 8} {cs : Fin 2} {set : Fin 4} {s : State} {s' : State} (h : execRefreshIssue c cs set s = .next s') : s'.kept = s.kept := by
  cases h
  simp only [refreshIssue_kept]

theorem execDimmTempRead_kept {c : Fin 8} {temps : List Int} {s : State} {s' : State} (h : execDimmTempRead c temps s = .next s') : s'.kept = s.kept := by
  cases h
  simp only [dimmTemp_kept]

theorem execSrEntered_kept {c : Fin 8} {s : State} {s' : State} (h : execSrEntered c s = .next s') : s'.kept = s.kept := by
  cases h
  simp only [srEntered_kept]

theorem execSrRequestArrival_kept {c : Fin 8} {issued : Bool} {s : State} {s' : State} (h : execSrRequestArrival c issued s = .next s') : s'.kept = s.kept := by
  cases h
  simp only [State.kept_mk, State.kept_fold, apply_ite State.kept, ite_self, srArrival_kept]

theorem execSrExitDone_kept {c : Fin 8} {s : State} {s' : State} (h : execSrExitDone c s = .next s') : s'.kept = s.kept := by
  cases h
  simp only [srExitDone_kept]

theorem execSrEntryRetry_kept {c : Fin 8} {s : State} {s' : State} (h : execSrEntryRetry c s = .next s') : s'.kept = s.kept := by
  cases h
  simp only [srRetry_kept]

theorem execZqCalibration_kept {rank : Fin 16} {zqOk dqsOk : Bool} {s : State} {s' : State} (h : execZqCalibration rank zqOk dqsOk s = .next s') : s'.kept = s.kept := by
  cases h
  simp only [zqCalibration_kept]

theorem execCaParityAlert_kept {c : Fin 8} {rank : Fin 16} {retryOk : Bool} {reads writes : List Nat} {s : State} {s' : State} (h : execCaParityAlert c rank retryOk reads writes s = .next s') : s'.kept = s.kept := by
  cases h
  simp only [caParity_kept]

theorem execCeWindowEnd_kept {c : Fin 8} {s : State} {s' : State} (h : execCeWindowEnd c s = .next s') : s'.kept = s.kept := by
  cases h
  simp only [ceWindowEnd_kept]

theorem execSpareStart_kept {v : Word32} {s : State} {s' : State} (h : execSpareStart v s = .next s') : s'.kept = s.kept := by
  unfold execSpareStart at h
  cases h
  simp only [State.kept_mk, State.kept_fold, apply_ite State.kept, ite_self, implies_true, gated_kept, spareCtrlWrite_kept]

theorem execMigrationCopy_kept {found : AuditFound} {s : State} {s' : State} (h : execMigrationCopy found s = .next s') : s'.kept = s.kept := by
  cases h
  simp only [migrationCopy_kept]

theorem execVaultWindowRead_kept {off len : Nat} {s : State} {s' : State} (h : execVaultWindowRead off len s = .next s') : s'.kept = s.kept := by
  cases h
  simp only [windowAccess_kept]

theorem execVaultWindowWrite_kept {off : Nat} {data : Bytes} {be : List Bool} {s : State} {s' : State} (h : execVaultWindowWrite off data be s = .next s') : s'.kept = s.kept := by
  cases h
  simp only [windowAccess_kept]

theorem execPaceUpdate_kept {b : Fin 4} {descs steps : Nat} {s : State} {s' : State} (h : execPaceUpdate b descs steps s = .next s') : s'.kept = s.kept := by
  cases h
  simp only [paceUpdate_kept]

theorem execDomainRequest_kept {v : Word32} {s : State} {s' : State} (h : execDomainRequest v s = .next s') : s'.kept = s.kept := by
  cases h
  simp only [State.kept_mk, State.kept_fold, apply_ite State.kept, ite_self, domainReqWrite_kept]

theorem execDomainRampStart_kept {d : Fin 30} {s : State} {s' : State} (h : execDomainRampStart d s = .next s') : s'.kept = s.kept := by
  cases h
  simp only [rampStart_kept]

theorem execDomainRampDone_kept {d : Fin 30} {s : State} {s' : State} (h : execDomainRampDone d s = .next s') : s'.kept = s.kept := by
  cases h
  simp only [rampDone_kept]

theorem execDomainPowerDown_kept {d : Fin 30} {s : State} {s' : State} (h : execDomainPowerDown d s = .next s') : s'.kept = s.kept := by
  cases h
  simp only [powerDown_kept]

theorem execAvsUpdate_kept {iout : Nat} {vrmOk : Bool} {s : State} {s' : State} (h : execAvsUpdate iout vrmOk s = .next s') : s'.kept = s.kept := by
  cases h
  simp only [avsUpdate_kept]

theorem execAvsRestart_kept {v : Word32} {s : State} {s' : State} (h : execAvsRestart v s = .next s') : s'.kept = s.kept := by
  cases h
  simp only [State.kept_mk, State.kept_fold, apply_ite State.kept, ite_self, avsCfgWrite_kept]

theorem execQuietEntryComplete_kept {s : State} {s' : State} (h : execQuietEntryComplete s = .next s') : s'.kept = s.kept := by
  cases h
  simp only [quietComplete_kept]

theorem execQuietStall_kept {s : State} {s' : State} (h : execQuietStall s = .next s') : s'.kept = s.kept := by
  cases h
  simp only [quietStall_kept]

theorem execAllowanceRequest_kept {u : Fin 11} {s : State} {s' : State} (h : execAllowanceRequest u s = .next s') : s'.kept = s.kept := by
  cases h
  simp only [State.kept_mk, State.kept_fold, apply_ite State.kept, ite_self, requestAllowance_kept]

theorem execAllowanceReturn_kept {u : Fin 11} {s : State} {s' : State} (h : execAllowanceReturn u s = .next s') : s'.kept = s.kept := by
  cases h
  simp only [State.kept_mk, State.kept_fold, apply_ite State.kept, ite_self, returnAllowance_kept]

theorem execPwrwarnAssert_kept {s : State} {s' : State} (h : execPwrwarnAssert s = .next s') : s'.kept = s.kept := by
  cases h
  simp only [pwrwarn_kept]

theorem execVddCoreWarn_kept {mv : Nat} {s : State} {s' : State} (h : execVddCoreWarn mv s = .next s') : s'.kept = s.kept := by
  cases h
  simp only [vddWarn_kept]

theorem execBrownoutSr_kept {s : State} {s' : State} (h : execBrownoutSr s = .next s') : s'.kept = s.kept := by
  cases h
  simp only [brownSr_kept]

theorem execBrownoutRecover_kept {mv : Nat} {s : State} {s' : State} (h : execBrownoutRecover mv s = .next s') : s'.kept = s.kept := by
  cases h
  simp only [brownRecover_kept]

theorem execBrownoutNormal_kept {s : State} {s' : State} (h : execBrownoutNormal s = .next s') : s'.kept = s.kept := by
  cases h
  simp only [brownNormal_kept]

theorem execSmbTemps_kept {pec : Bool} {s : State} {s' : State} (h : execSmbTemps pec s = .next s') : s'.kept = s.kept := by
  cases h
  simp only [smbAnswer_kept]

theorem execSmbState_kept {pec : Bool} {s : State} {s' : State} (h : execSmbState pec s = .next s') : s'.kept = s.kept := by
  cases h
  simp only [smbAnswer_kept]

theorem execSmbBrown_kept {pec : Bool} {s : State} {s' : State} (h : execSmbBrown pec s = .next s') : s'.kept = s.kept := by
  cases h
  simp only [smbAnswer_kept]

theorem execSmbIout_kept {pec : Bool} {s : State} {s' : State} (h : execSmbIout pec s = .next s') : s'.kept = s.kept := by
  cases h
  simp only [smbAnswer_kept]

theorem execMboxQueuedStart_kept {side : Bool} {s : State} {s' : State} (h : execMboxQueuedStart side s = .next s') : s'.kept = s.kept := by
  cases h
  simp only [mboxStart_kept]

theorem execMboxGetIdentity_kept {side : Bool} {s : State} {s' : State} (h : execMboxGetIdentity side s = .next s') : s'.kept = s.kept := by
  cases h
  simp only [getIdentity_kept]

theorem execMboxGetChallenge_kept {side : Bool} {s : State} {s' : State} (h : execMboxGetChallenge side s = .next s') : s'.kept = s.kept := by
  cases h
  simp only [getChallenge_kept]

theorem execMboxAttest_kept {side : Bool} {s : State} {s' : State} (h : execMboxAttest side s = .next s') : s'.kept = s.kept := by
  cases h
  simp only [attest_kept]

theorem execDebugUnlock_kept {s : State} {s' : State} (h : execDebugUnlock s = .next s') : s'.kept = s.kept := by
  cases h
  simp only [debugUnlock_kept]

theorem execMboxOpDone_kept {side : Bool} {s : State} {s' : State} (h : execMboxOpDone side s = .next s') : s'.kept = s.kept := by
  cases h
  simp only [mboxDone_kept]

theorem execMbOp_kept {op : Byte} {pec : Bool} {s : State} {s' : State} (h : execMbOp op pec s = .next s') : s'.kept = s.kept := by
  cases h
  simp only [mbOp_kept]

theorem execMbStatus_kept {pec : Bool} {s : State} {s' : State} (h : execMbStatus pec s = .next s') : s'.kept = s.kept := by
  cases h
  simp only [mbAnswer_kept]

theorem execMbNonce_kept {nonce : Bytes} {pec : Bool} {s : State} {s' : State} (h : execMbNonce nonce pec s = .next s') : s'.kept = s.kept := by
  cases h
  simp only [mbNonce_kept]

theorem execMbOffset_kept {offset : BitVec 16} {pec : Bool} {s : State} {s' : State} (h : execMbOffset offset pec s = .next s') : s'.kept = s.kept := by
  cases h
  simp only [mbOffset_kept]

theorem execMbRead_kept {pec : Bool} {s : State} {s' : State} (h : execMbRead pec s = .next s') : s'.kept = s.kept := by
  cases h
  simp only [mbRead_kept]

theorem execJtagBypass_kept {trst : Bool} {bits : List Bool} {s : State} {s' : State} (h : execJtagBypass trst bits s = .next s') : s'.kept = s.kept := by
  unfold execJtagBypass at h
  cases h
  simp only [State.kept_mk, State.kept_fold, apply_ite State.kept, ite_self, implies_true, jtagLoad_kept, tap_kept]

theorem execJtagIdcode_kept {trst : Bool} {s : State} {s' : State} (h : execJtagIdcode trst s = .next s') : s'.kept = s.kept := by
  unfold execJtagIdcode at h
  cases h
  simp only [State.kept_mk, State.kept_fold, apply_ite State.kept, ite_self, implies_true, jtagLoad_kept, tap_kept]

theorem execJtagSamplePreload_kept {trst : Bool} {bits : List Bool} {s : State} {s' : State} (h : execJtagSamplePreload trst bits s = .next s') : s'.kept = s.kept := by
  unfold execJtagSamplePreload at h
  cases h
  simp only [State.kept_mk, State.kept_fold, apply_ite State.kept, ite_self, implies_true, tap_kept, scanBits_kept]

theorem execJtagExtest_kept {trst : Bool} {bits : List Bool} {s : State} {s' : State} (h : execJtagExtest trst bits s = .next s') : s'.kept = s.kept := by
  unfold execJtagExtest at h
  cases h
  simp only [State.kept_mk, State.kept_fold, apply_ite State.kept, ite_self, implies_true, tap_kept, scanBits_kept]

theorem execJtagMbox_kept {trst : Bool} {off : Nat} {w : Option Word32} {s : State} {s' : State} (h : execJtagMbox trst off w s = .next s') : s'.kept = s.kept := by
  unfold execJtagMbox at h
  cases h
  simp only [State.kept_mk, State.kept_fold, apply_ite State.kept, ite_self, implies_true, tap_kept, jtagMbox_kept]

theorem execJtagDebugInstruction_kept {trst : Bool} {code : Nat} {s : State} {s' : State} (h : execJtagDebugInstruction trst code s = .next s') : s'.kept = s.kept := by
  unfold execJtagDebugInstruction at h
  split at h
  · cases h
  · cases h
    exact tap_kept _ _ _ fun _ => rfl

theorem execDrainTimeout_kept {s : State} {s' : State} (h : execDrainTimeout s = .next s') : s'.kept = s.kept := by
  cases h
  simp only [drainTimeout_kept]

theorem execPushChunk_kept {v : Word32} {s : State} {s' : State} (h : execPushChunk v s = .next s') : s'.kept = s.kept := by
  cases h
  simp only [pushLenWrite_kept]

theorem execPushHalfConsumed_kept {s : State} {s' : State} (h : execPushHalfConsumed s = .next s') : s'.kept = s.kept := by
  cases h
  simp only [halfConsumed_kept]

theorem execVerifyDone_kept {s : State} {s' : State} (h : execVerifyDone s = .next s') : s'.kept = s.kept := by
  cases h
  simp only [verifyDone_kept]

theorem execLoadStart_kept {s : State} {s' : State} (h : execLoadStart s = .next s') : s'.kept = s.kept := by
  cases h
  simp only [loadStart_kept]

theorem execFlashReadDone_kept {density : Option Nat} {data : Option Bytes} {s : State} {s' : State} (h : execFlashReadDone density data s = .next s') : s'.kept = s.kept := by
  cases h
  simp only [flashRead_kept]

theorem execVaultTrainingDone_kept {c : Fin 8} {spd : Spd} {failure : Option (Fin 4 × Fin 2)} {s : State} {s' : State} (h : execVaultTrainingDone c spd failure s = .next s') : s'.kept = s.kept := by
  cases h
  simp only [trainingDone_kept]

theorem execStartPush_kept {v : Word32} {s : State} {s' : State} (h : execStartPush v s = .next s') : s'.kept = s.kept := by
  cases h
  simp only [State.kept_mk, State.kept_fold, apply_ite State.kept, ite_self, charterCtrlWrite_kept]

theorem execStartFlash_kept {v : Word32} {s : State} {s' : State} (h : execStartFlash v s = .next s') : s'.kept = s.kept := by
  cases h
  simp only [State.kept_mk, State.kept_fold, apply_ite State.kept, ite_self, charterCtrlWrite_kept]

theorem execCharterAbort_kept {v : Word32} {s : State} {s' : State} (h : execCharterAbort v s = .next s') : s'.kept = s.kept := by
  cases h
  simp only [State.kept_mk, State.kept_fold, apply_ite State.kept, ite_self, charterCtrlWrite_kept]

theorem execCharterLock_kept {v : Word32} {s : State} {s' : State} (h : execCharterLock v s = .next s') : s'.kept = s.kept := by
  cases h
  simp only [State.kept_mk, State.kept_fold, apply_ite State.kept, ite_self, charterCtrlWrite_kept]

theorem execPorstRelease_kept {bootSel smbAddr : BitVec 2} {s : State} {s' : State} (h : execPorstRelease bootSel smbAddr s = .next s') : s'.kept = s.kept := by
  cases h
  simp only [porstRelease_kept]

theorem execRailResetRelease_kept {rail : Fin 4} {s : State} {s' : State} (h : execRailResetRelease rail s = .next s') : s'.kept = s.kept := by
  cases h
  simp only [railRelease_kept]

theorem execMsixSend_kept {s : State} {s' : State} (h : execMsixSend s = .next s') : s'.kept = s.kept := by
  cases h
  simp only [msixSend_kept]

theorem execMsixHoldoffExpiry_kept {s : State} {s' : State} (h : execMsixHoldoffExpiry s = .next s') : s'.kept = s.kept := by
  cases h
  simp only [holdoffExpiry_kept]

theorem execMsixUnmask_kept {func vec enable : Bool} {s : State} {s' : State} (h : execMsixUnmask func vec enable s = .next s') : s'.kept = s.kept := by
  cases h
  simp only [State.kept_mk, State.kept_fold, apply_ite State.kept, ite_self, msixMask_kept]

theorem execIrqEoi_kept {v : Word32} {s : State} {s' : State} (h : execIrqEoi v s = .next s') : s'.kept = s.kept := by
  cases h
  simp only [State.kept_mk, State.kept_fold, apply_ite State.kept, ite_self, eoiWrite_kept]

theorem execPerstAssert_kept {s : State} {s' : State} (h : execPerstAssert s = .next s') : s'.kept = s.kept := by
  cases h
  simp only [perstAssert_kept]

theorem execPerstRelease_kept {s : State} {s' : State} (h : execPerstRelease s = .next s') : s'.kept = s.kept := by
  cases h
  simp only [perstRelease_kept]

theorem execPcieHotReset_kept {s : State} {s' : State} (h : execPcieHotReset s = .next s') : s'.kept = s.kept := by
  cases h
  simp only [State.kept_mk, State.kept_fold, apply_ite State.kept, ite_self, pcieReset_kept]

theorem execPcieDlDown_kept {s : State} {s' : State} (h : execPcieDlDown s = .next s') : s'.kept = s.kept := by
  cases h
  simp only [State.kept_mk, State.kept_fold, apply_ite State.kept, ite_self, pcieReset_kept]

theorem execPcieLinkUp_kept {rate : Fin 8} {width : Fin 32} {s : State} {s' : State} (h : execPcieLinkUp rate width s = .next s') : s'.kept = s.kept := by
  cases h
  simp only [pcieLinkUp_kept]

theorem execRcRead_kept {off size : Nat} {s : State} {s' : State} (h : execRcRead off size s = .next s') : s'.kept = s.kept := by
  cases h
  simp only [State.kept_mk, State.kept_fold, apply_ite State.kept, ite_self, registerRead_kept, userRead_kept, cfgRead_kept]

theorem execUnsupportedRequest_kept {off size : Nat} {write : Bool} {s : State} {s' : State} (h : execUnsupportedRequest off size write s = .next s') : s'.kept = s.kept := by
  cases h
  simp only [State.kept_mk, State.kept_fold, apply_ite State.kept, ite_self, unsupported_kept]

theorem execQuietEnter_held {v : Word32} {s : State} {s' : State} (h : execQuietEnter v s = .next s') : s'.held = s.held := by
  cases h
  simp only [State.held_mk, State.held_fold, apply_ite State.held, ite_self, pstateCmdWrite_held]

theorem execQuietExit_held {v : Word32} {s : State} {s' : State} (h : execQuietExit v s = .next s') : s'.held = s.held := by
  cases h
  simp only [State.held_mk, State.held_fold, apply_ite State.held, ite_self, pstateCmdWrite_held]

theorem execPowerOffCmd_held {v : Word32} {s : State} {s' : State} (h : execPowerOffCmd v s = .next s') : s'.held = s.held := by
  cases h
  simp only [State.held_mk, State.held_fold, apply_ite State.held, ite_self, pstateCmdWrite_held]

theorem execTempSample_held {temps : List Int} {s : State} {s' : State} (h : execTempSample temps s = .next s') : s'.held = s.held := by
  cases h
  simp only [tempSample_held]

theorem execVddCoreReset_held {mv : Nat} {s : State} {s' : State} (h : execVddCoreReset mv s = .next s') : s'.held = s.held := by
  cases h
  simp only [vddReset_held]

theorem execRailMonitorReset_held {rail : Fin 4} {s : State} {s' : State} (h : execRailMonitorReset rail s = .next s') : s'.held = s.held := by
  cases h
  simp only [railReset_held]

theorem execSmbPstate_held {val : Byte} {pec : Bool} {s : State} {s' : State} (h : execSmbPstate val pec s = .next s') : s'.held = s.held := by
  cases h
  simp only [smbPstate_held]

theorem execSectionDone_held {s : State} {s' : State} (h : execSectionDone s = .next s') : s'.held = s.held := by
  cases h
  simp only [sectionDone_held]

theorem execPorstAssert_held {ns : Nat} {s : State} {s' : State} (h : execPorstAssert ns s = .next s') : s'.held = s.held := by
  cases h
  simp only [porstAssert_held]

theorem execRegisterWrite_held {off size : Nat} {data : Word64} {s : State} {s' : State} (h : execRegisterWrite off size data s = .next s') : s'.held = s.held := by
  cases h
  simp only [State.held_mk, State.held_fold, apply_ite State.held, ite_self, freshOut_held, registerWrite_held]

theorem execIrqForce_held {off : Nat} {v : Word32} {s : State} {s' : State} (h : execIrqForce off v s = .next s') : s'.held = s.held := by
  cases h
  simp only [State.held_mk, State.held_fold, apply_ite State.held, ite_self, forceWrite_held]

theorem execBatchReg32_held {n : Fin 32} {s : State} {s' : State} (h : execBatchReg32 n s = .next s') : s'.held = s.held := by
  cases h
  simp only [State.held_mk, State.held_fold, apply_ite State.held, ite_self, freshOut_held, batchReg32_held]

theorem execCharterRun_held {s : State} {s' : State} (h : execCharterRun s = .next s') : s'.held = s.held := by
  cases h
  simp only [charterRun_held]

end Sys2Proof.Machine
end

