-- ==== Sys2Proof/Laws/Line.lean ====
section
/-!
SUPPORT. What queues, flow control, frames in storage and counts leave alone in the ports and their lanes.
-/
set_option linter.all false
namespace Sys2Proof.Machine

theorem State.line_mk (pending : List Instr) (free : Nat) (regs : Tbl Word32) (dispo : Tbl Nat) (time : TimeBase) (sill : Sillage) (msix : Msix) (perf : Perf) (treas : Treasury) (fuses : Fuses) (sec : SecEngine) (pins : Pins) (loader : Loader) (pcie : Pcie) (coffer : Coffer) (rings : Tbl Ring) (out : Outputs) (lastBatch : Nat) (ports : Tbl Port) (portCfg : Tbl PortCfg) (lanes : Tbl Lane) (laneInv : Tbl Nat) (laneTaps : Tbl Nat) (teth : Tether) (swc : SwitchCore) (tm : TrafficMgr) (templates : Bytes) (assay : Tbl Assayer) (sieve : Sieve) (accord : Accord) (ledger : Tbl Ledger) (disp : Tbl Disp) (tellers : Tbl Teller) (desks : Tbl Desk) (nose : Tbl Nose) (automata : NoseAutomata) (vault : Vault) (audit : Auditor) :
    State.line ⟨pending, free, regs, dispo, time, sill, msix, perf, treas, fuses, sec, pins, loader, pcie, coffer, rings, out, lastBatch, ports, portCfg, lanes, laneInv, laneTaps, teth, swc, tm, templates, assay, sieve, accord, ledger, disp, tellers, desks, nose, automata, vault, audit⟩ = (ports, lanes) := (rfl)

theorem State.line_fold (s : State) :
    (s.ports, s.lanes) = s.line := (rfl)

theorem State.line_foldl {α : Type} (f : State → α → State) (h : ∀ s x, (f s x).line = s.line) (l : List α) (s : State) :
    (l.foldl f s).line = s.line := by
  induction l generalizing s with
  | nil => rfl
  | cons x xs ih => rw [List.foldl_cons, ih, h]

theorem State.line_foldl2 {α β : Type} (f : β × State → α → β × State) (h : ∀ a x, (f a x).2.line = a.2.line) (l : List α)
    (a : β × State) : (l.foldl f a).2.line = a.2.line := by
  induction l generalizing a with
  | nil => rfl
  | cons x xs ih => rw [List.foldl_cons, ih, h]

theorem State.line_foldl3 {α β γ : Type} (f : β × γ × State → α → β × γ × State) (h : ∀ a x, (f a x).2.2.line = a.2.2.line)
    (l : List α) (a : β × γ × State) : (l.foldl f a).2.2.line = a.2.2.line := by
  induction l generalizing a with
  | nil => rfl
  | cons x xs ih => rw [List.foldl_cons, ih, h]

theorem State.line_getD {o : Option State} {s d : State} (h : ∀ t, o = some t → t.line = s.line) (hd : d.line = s.line) :
    (o.getD d).line = s.line := by
  cases o with
  | none => exact hd
  | some t => exact h t rfl

theorem gated_line (f : State → State) (s : State) (h : ∀ s, (f s).line = s.line) : (gated f s).line = s.line := by
  unfold gated; split
  · exact h s
  · rfl

/-! ### State -/


/-! ### Ops -/

theorem State.setLedger_line (s : State) (b : Nat) (l : Ledger) : (State.setLedger s b l).line = s.line := by
  rfl

theorem State.setAssay_line (s : State) (b : Nat) (a : Assayer) : (State.setAssay s b a).line = s.line := by
  rfl

theorem State.setSched_line (s : State) (k : Nat) (x : Sched) : (State.setSched s k x).line = s.line := by
  rfl

theorem State.setClass_line (s : State) (n : Nat) (x : TmClass) : (State.setClass s n x).line = s.line := by
  rfl

theorem State.modLedger_line (s : State) (b : Nat) (f : Ledger → Ledger) : (State.modLedger s b f).line = s.line := by
  unfold State.modLedger
  simp only [State.setLedger_line]

theorem State.modAssay_line (s : State) (b : Nat) (f : Assayer → Assayer) : (State.modAssay s b f).line = s.line := by
  unfold State.modAssay
  simp only [State.setAssay_line]

theorem State.modSched_line (s : State) (k : Nat) (f : Sched → Sched) : (State.modSched s k f).line = s.line := by
  unfold State.modSched
  simp only [State.setSched_line]

theorem regStore_line (off : Nat) (v : Word32) (s : State) : (regStore off v s).line = s.line := by
  rfl

theorem setField_line (off hi lo x : Nat) (s : State) : (setField off hi lo x s).line = s.line := by
  unfold setField
  simp only [regStore_line]

theorem setPair_line (off v : Nat) (s : State) : (setPair off v s).line = s.line := by
  unfold setPair
  simp only [regStore_line]

theorem bumpN_line (off n : Nat) (s : State) : (bumpN off n s).line = s.line := by
  unfold bumpN
  simp only [State.line_mk, State.line_fold, apply_ite State.line, ite_self, regStore_line]

theorem bump_line (off : Nat) (s : State) : (bump off s).line = s.line := by
  unfold bump
  simp only [bumpN_line]

theorem cause_line (off i : Nat) (s : State) : (cause off i s).line = s.line := by
  unfold cause
  simp only [regStore_line]

theorem emitAt_line (net src kind payload : Nat) (s : State) : (emitAt net src kind payload s).line = s.line := by
  unfold emitAt
  simp only [State.line_mk, State.line_fold, apply_ite State.line, ite_self, bump_line, cause_line]

theorem emit_line (src kind payload : Nat) (s : State) : (emit src kind payload s).line = s.line := by
  unfold emit
  simp only [emitAt_line]

theorem perfCount_line (u k n : Nat) (s : State) : (perfCount u k n s).line = s.line := by
  unfold perfCount
  simp only [State.line_mk, State.line_fold, apply_ite State.line, ite_self, setPair_line, cause_line]

theorem perfN_line (u code n : Nat) (s : State) : (perfN u code n s).line = s.line := by
  unfold perfN
  simp only [State.line_foldl, implies_true, State.line_mk, State.line_fold, apply_ite State.line, ite_self, perfCount_line]

theorem perf_line (u code : Nat) (s : State) : (perf u code s).line = s.line := by
  unfold perf
  simp only [perfN_line]

theorem dispoCount_line (port cls code : Nat) (s : State) : (dispoCount port cls code s).line = s.line := by
  unfold dispoCount
  simp only [State.line_mk, State.line_fold, apply_ite State.line, ite_self]

theorem dispose_line (port cls code : Nat) (waited : Bool) (hash : Word64) (arr : Nat) (s : State) : (dispose port cls code waited hash arr s).line = s.line := by
  unfold dispose
  simp only [State.line_mk, State.line_fold, apply_ite State.line, ite_self, emit_line, dispoCount_line]

/-! ### Time -/

theorem bumpField_line (off hi lo : Nat) (s : State) : (bumpField off hi lo s).line = s.line := by
  unfold bumpField
  simp only [State.line_mk, State.line_fold, apply_ite State.line, ite_self, setField_line]

/-! ### Perf -/

theorem winCount_line (p len : Nat) (tx : Bool) (s : State) : (winCount p len tx s).line = s.line := by
  unfold winCount
  simp only [State.line_mk, State.line_fold, apply_ite State.line, ite_self, perf_line]

/-! ### FlowCtl -/

theorem emitFc_line (p : Nat) (f : Bytes) (s : State) : (emitFc p f s).line = s.line := by
  unfold emitFc
  simp only [State.line_foldl, implies_true, State.line_mk, State.line_fold, apply_ite State.line, ite_self, perf_line, bumpField_line, winCount_line]

theorem sendFc_line (p : Nat) (f : Bytes) (s : State) : (sendFc p f s).line = s.line := by
  unfold sendFc
  simp only [State.line_foldl, implies_true, State.line_mk, State.line_fold, apply_ite State.line, ite_self, State.modSched_line, emitFc_line]

theorem sendX_line (p q : Nat) (off : Bool) (s : State) : (sendX p q off s).line = s.line := by
  unfold sendX
  simp only [State.line_mk, State.line_fold, apply_ite State.line, ite_self, sendFc_line]

theorem fcClass_line (p q : Nat) (s : State) : (fcClass p q s).line = s.line := by
  unfold fcClass
  simp only [State.line_mk, State.line_fold, apply_ite State.line, ite_self, State.setSched_line, sendX_line]

theorem fcUpdate_line (p : Nat) (s : State) : (fcUpdate p s).line = s.line := by
  unfold fcUpdate
  simp only [State.line_foldl, implies_true, State.line_mk, State.line_fold, apply_ite State.line, ite_self, State.modSched_line, fcClass_line]

theorem pauseClass_line (p c quanta : Nat) (s : State) : (pauseClass p c quanta s).line = s.line := by
  unfold pauseClass
  simp only [State.setSched_line]

theorem flowControl_line (p : Nat) (data : Bytes) (s : State) : (flowControl p data s).line = s.line := by
  unfold flowControl
  simp only [State.line_foldl, implies_true, State.line_mk, State.line_fold, apply_ite State.line, ite_self, bumpField_line, pauseClass_line]

/-! ### Egress -/

theorem setFrame_line (f : Nat) (x : Frame) (s : State) : (setFrame f x s).line = s.line := by
  rfl

theorem dropFrame_line (f : Nat) (s : State) : (dropFrame f s).line = s.line := by
  rfl

theorem modFrame_line (f : Nat) (g : Frame → Frame) (s : State) : (modFrame f g s).line = s.line := by
  unfold modFrame
  split <;> simp only [State.line_mk, State.line_fold, setFrame_line]

theorem addRef_line (f : Nat) (s : State) : (addRef f s).line = s.line := by
  unfold addRef
  simp only [modFrame_line]

theorem release_line (f : Nat) (s : State) : (release f s).line = s.line := by
  unfold release
  repeat' first
    | with_reducible rfl
    | (simp only [State.line_mk, State.line_fold, apply_ite State.line, ite_self, perf_line, fcUpdate_line, setFrame_line, dropFrame_line]; done)
    | split
    | dsimp only

theorem setQueue_line (n : Nat) (q : List Copy) (s : State) : (setQueue n q s).line = s.line := by
  rfl

theorem settleEmpty_line (n : Nat) (s : State) : (settleEmpty n s).line = s.line := by
  unfold settleEmpty
  simp only [State.line_mk, State.line_fold, apply_ite State.line, ite_self, State.setClass_line]

theorem countCopy_line (c : Copy) (code : Nat) (s : State) : (countCopy c code s).line = s.line := by
  unfold countCopy
  repeat' first
    | with_reducible rfl
    | (simp only [State.line_mk, State.line_fold, apply_ite State.line, ite_self, dispose_line]; done)
    | split
    | dsimp only

theorem discardCopy_line (c : Copy) (code : Nat) (s : State) : (discardCopy c code s).line = s.line := by
  unfold discardCopy
  simp only [State.line_mk, State.line_fold, apply_ite State.line, ite_self, bump_line, cause_line, release_line, countCopy_line]

theorem enqueue_line (n : Nat) (c : Copy) (s : State) : (enqueue n c s).line = s.line := by
  unfold enqueue
  repeat' first
    | with_reducible rfl
    | (simp only [State.line_mk, State.line_fold, apply_ite State.line, ite_self, bump_line, cause_line, perf_line, release_line, setQueue_line, discardCopy_line]; done)
    | split
    | dsimp only

theorem makeCopy_line (n : Nat) (c : Copy) (s : State) : (makeCopy n c s).line = s.line := by
  unfold makeCopy
  simp only [addRef_line, enqueue_line]

theorem trySample_line (f : Nat) (s : State) : (trySample f s).line = s.line := by
  unfold trySample
  repeat' first
    | with_reducible rfl
    | (simp only [State.line_mk, State.line_fold, apply_ite State.line, ite_self, setFrame_line, release_line, makeCopy_line]; done)
    | split
    | dsimp only

theorem setPolicer_line (k : Nat) (x : Policer) (s : State) : (setPolicer k x s).line = s.line := by
  rfl

/-! ### Till -/

theorem setWay_line (b k : Nat) (w : Way) (s : State) : (setWay b k w s).line = s.line := by
  unfold setWay
  simp only [State.modLedger_line]

theorem modWay_line (b k : Nat) (f : Way → Way) (s : State) : (modWay b k f s).line = s.line := by
  unfold modWay
  split <;> simp only [State.line_mk, State.line_fold, setWay_line]

theorem tailAdd_line (len : Nat) (a : TailAdd) (s : State) : (tailAdd len a s).line = s.line := by
  unfold tailAdd
  split <;> simp only [State.line_mk, State.line_fold, modWay_line]

/-! ### Mac -/

theorem pushReq_line (r : Requester) (f : Nat) (s : State) : (pushReq r f s).line = s.line := by
  unfold pushReq
  simp only [State.line_mk, State.line_fold, apply_ite State.line, ite_self]

theorem dropReq_line (f : Nat) (s : State) : (dropReq f s).line = s.line := by
  rfl

theorem frameStored_line (f : Nat) (x : Frame) (s : State) : (frameStored f x s).line = s.line := by
  unfold frameStored
  split <;> simp only [State.line_mk, State.line_fold, State.modAssay_line]

theorem grantCell_line (f : Nat) (x : Frame) (k : Pool) (s : State) : (grantCell f x k s).line = s.line := by
  unfold grantCell
  repeat' first
    | with_reducible rfl
    | (simp only [State.line_mk, State.line_fold, apply_ite State.line, ite_self, cause_line, perf_line, fcUpdate_line, setFrame_line, pushReq_line, dropReq_line, frameStored_line]; done)
    | split
    | dsimp only

theorem settlePolicer_line (x : Frame) (t : PolTail) (s : State) : (settlePolicer x t s).line = s.line := by
  unfold settlePolicer
  simp only [setPolicer_line]

theorem discardQueued_line (f code : Nat) (s : State) : (discardQueued f code s).line = s.line := by
  unfold discardQueued
  simp only [State.line_foldl, implies_true, State.line_mk, State.line_fold, apply_ite State.line, ite_self, setQueue_line, settleEmpty_line, discardCopy_line]

theorem samplerStep_line (p : Nat) (s : State) : (samplerStep p s).2.line = s.line := by
  unfold samplerStep
  repeat' first
    | with_reducible rfl
    | (simp only [State.line_mk, State.line_fold, apply_ite State.line, ite_self]; done)
    | split
    | dsimp only

theorem samplerStep_line' {p : Nat} {s : State} {x' : _} {r' : State} (h' : samplerStep p s = (x', r')) : r'.line = s.line := by
  have k' := samplerStep_line p s
  rw [h'] at k'
  exact k'

theorem considerSample_line (f p : Nat) (s : State) : (considerSample f p s).line = s.line := by
  unfold considerSample
  repeat' first
    | with_reducible rfl
    | (simp only [State.line_foldl, implies_true, State.line_mk, State.line_fold, apply_ite State.line, apply_ite Prod.snd, ite_self, setFrame_line, release_line, trySample_line, samplerStep_line]; done)
    | split
    | dsimp only

theorem endFrame_line (f : Nat) (fcsBad : Bool) (s : State) : (endFrame f fcsBad s).line = s.line := by
  unfold endFrame
  repeat' first
    | with_reducible rfl
    | (simp only [State.line_foldl, implies_true, State.line_mk, State.line_fold, apply_ite State.line, apply_ite Prod.snd, ite_self, bump_line, cause_line, setFrame_line, dropFrame_line, tailAdd_line, settlePolicer_line, discardQueued_line, considerSample_line]; done)
    | split
    | dsimp only

theorem laneSyms_line (p : Nat) (syms : List Nat) (s : State) : (laneSyms p syms s).line = s.line := by
  unfold laneSyms
  simp only [State.line_foldl, implies_true, State.line_mk, State.line_fold, apply_ite State.line, ite_self, bumpN_line]

/-! ### Tm -/

theorem popHead_line (n : Nat) (s : State) : (popHead n s).line = s.line := by
  unfold popHead
  simp only [setQueue_line, settleEmpty_line]

theorem holdDiscard_line (n f : Nat) (s : State) : (holdDiscard n f s).line = s.line := by
  induction f generalizing s with
  | zero => rfl
  | succ f ih =>
    rw [holdDiscard]
    repeat' first
      | with_reducible rfl
      | (simp only [ih, discardCopy_line, perf_line, cause_line, popHead_line]; done)
      | split

theorem freezeQueues_line (k : Nat) (s : State) : (freezeQueues k s).line = s.line := by
  unfold freezeQueues
  dsimp only
  rw [State.line_foldl _ fun t n => by split; exact holdDiscard_line ..; rfl]
  split <;> simp only [release_line, countCopy_line, State.line_foldl, State.setClass_line, State.setSched_line, implies_true]

theorem resumeQueues_line (k : Nat) (s : State) : (resumeQueues k s).line = s.line := by
  unfold resumeQueues
  simp only [State.line_foldl, implies_true, State.line_mk, State.line_fold, apply_ite State.line, ite_self, State.setClass_line, State.modSched_line]

/-! ### The commands -/


end Sys2Proof.Machine
end

