-- ==== Sys2Proof/Laws/Mate.lean ====
section
/-!
SUPPORT. What queues, cells and the Auditor's answers leave alone in the Tether.
-/
set_option linter.all false
namespace Sys2Proof.Machine

theorem State.mate_mk (pending : List Instr) (free : Nat) (regs : Tbl Word32) (dispo : Tbl Nat) (time : TimeBase) (sill : Sillage) (msix : Msix) (perf : Perf) (treas : Treasury) (fuses : Fuses) (sec : SecEngine) (pins : Pins) (loader : Loader) (pcie : Pcie) (coffer : Coffer) (rings : Tbl Ring) (out : Outputs) (lastBatch : Nat) (ports : Tbl Port) (portCfg : Tbl PortCfg) (lanes : Tbl Lane) (laneInv : Tbl Nat) (laneTaps : Tbl Nat) (teth : Tether) (swc : SwitchCore) (tm : TrafficMgr) (templates : Bytes) (assay : Tbl Assayer) (sieve : Sieve) (accord : Accord) (ledger : Tbl Ledger) (disp : Tbl Disp) (tellers : Tbl Teller) (desks : Tbl Desk) (nose : Tbl Nose) (automata : NoseAutomata) (vault : Vault) (audit : Auditor) :
    State.mate ⟨pending, free, regs, dispo, time, sill, msix, perf, treas, fuses, sec, pins, loader, pcie, coffer, rings, out, lastBatch, ports, portCfg, lanes, laneInv, laneTaps, teth, swc, tm, templates, assay, sieve, accord, ledger, disp, tellers, desks, nose, automata, vault, audit⟩ = (teth, pins) := (rfl)

theorem State.mate_fold (s : State) :
    (s.teth, s.pins) = s.mate := (rfl)

theorem State.mate_foldl {α : Type} (f : State → α → State) (h : ∀ s x, (f s x).mate = s.mate) (l : List α) (s : State) :
    (l.foldl f s).mate = s.mate := by
  induction l generalizing s with
  | nil => rfl
  | cons x xs ih => rw [List.foldl_cons, ih, h]

theorem State.mate_foldl2 {α β : Type} (f : β × State → α → β × State) (h : ∀ a x, (f a x).2.mate = a.2.mate) (l : List α)
    (a : β × State) : (l.foldl f a).2.mate = a.2.mate := by
  induction l generalizing a with
  | nil => rfl
  | cons x xs ih => rw [List.foldl_cons, ih, h]

theorem State.mate_foldl3 {α β γ : Type} (f : β × γ × State → α → β × γ × State) (h : ∀ a x, (f a x).2.2.mate = a.2.2.mate)
    (l : List α) (a : β × γ × State) : (l.foldl f a).2.2.mate = a.2.2.mate := by
  induction l generalizing a with
  | nil => rfl
  | cons x xs ih => rw [List.foldl_cons, ih, h]

theorem State.mate_getD {o : Option State} {s d : State} (h : ∀ t, o = some t → t.mate = s.mate) (hd : d.mate = s.mate) :
    (o.getD d).mate = s.mate := by
  cases o with
  | none => exact hd
  | some t => exact h t rfl

theorem gated_mate (f : State → State) (s : State) (h : ∀ s, (f s).mate = s.mate) : (gated f s).mate = s.mate := by
  unfold gated; split
  · exact h s
  · rfl

/-! ### State -/


/-! ### Ops -/

theorem State.setLedger_mate (s : State) (b : Nat) (l : Ledger) : (State.setLedger s b l).mate = s.mate := by
  rfl

theorem State.setAssay_mate (s : State) (b : Nat) (a : Assayer) : (State.setAssay s b a).mate = s.mate := by
  rfl

theorem State.setPort_mate (s : State) (p : Nat) (x : Port) : (State.setPort s p x).mate = s.mate := by
  rfl

theorem State.setChan_mate (s : State) (c : Nat) (x : VaultCh) : (State.setChan s c x).mate = s.mate := by
  rfl

theorem State.setSched_mate (s : State) (k : Nat) (x : Sched) : (State.setSched s k x).mate = s.mate := by
  rfl

theorem State.setClass_mate (s : State) (n : Nat) (x : TmClass) : (State.setClass s n x).mate = s.mate := by
  rfl

theorem State.modLedger_mate (s : State) (b : Nat) (f : Ledger → Ledger) : (State.modLedger s b f).mate = s.mate := by
  unfold State.modLedger
  simp only [State.setLedger_mate]

theorem State.modAssay_mate (s : State) (b : Nat) (f : Assayer → Assayer) : (State.modAssay s b f).mate = s.mate := by
  unfold State.modAssay
  simp only [State.setAssay_mate]

theorem State.modPort_mate (s : State) (p : Nat) (f : Port → Port) : (State.modPort s p f).mate = s.mate := by
  unfold State.modPort
  simp only [State.setPort_mate]

theorem State.modChan_mate (s : State) (c : Nat) (f : VaultCh → VaultCh) : (State.modChan s c f).mate = s.mate := by
  unfold State.modChan
  simp only [State.setChan_mate]

theorem State.modSched_mate (s : State) (k : Nat) (f : Sched → Sched) : (State.modSched s k f).mate = s.mate := by
  unfold State.modSched
  simp only [State.setSched_mate]

theorem regStore_mate (off : Nat) (v : Word32) (s : State) : (regStore off v s).mate = s.mate := by
  rfl

theorem setField_mate (off hi lo x : Nat) (s : State) : (setField off hi lo x s).mate = s.mate := by
  unfold setField
  simp only [regStore_mate]

theorem setPair_mate (off v : Nat) (s : State) : (setPair off v s).mate = s.mate := by
  unfold setPair
  simp only [regStore_mate]

theorem bumpN_mate (off n : Nat) (s : State) : (bumpN off n s).mate = s.mate := by
  unfold bumpN
  simp only [State.mate_mk, State.mate_fold, apply_ite State.mate, ite_self, regStore_mate]

theorem bump_mate (off : Nat) (s : State) : (bump off s).mate = s.mate := by
  unfold bump
  simp only [bumpN_mate]

theorem bump64_mate (off n : Nat) (s : State) : (bump64 off n s).mate = s.mate := by
  unfold bump64
  simp only [State.mate_mk, State.mate_fold, apply_ite State.mate, ite_self, setPair_mate]

theorem cause_mate (off i : Nat) (s : State) : (cause off i s).mate = s.mate := by
  unfold cause
  simp only [regStore_mate]

theorem emitAt_mate (net src kind payload : Nat) (s : State) : (emitAt net src kind payload s).mate = s.mate := by
  unfold emitAt
  simp only [State.mate_mk, State.mate_fold, apply_ite State.mate, ite_self, bump_mate, cause_mate]

theorem emit_mate (src kind payload : Nat) (s : State) : (emit src kind payload s).mate = s.mate := by
  unfold emit
  simp only [emitAt_mate]

theorem perfCount_mate (u k n : Nat) (s : State) : (perfCount u k n s).mate = s.mate := by
  unfold perfCount
  simp only [State.mate_mk, State.mate_fold, apply_ite State.mate, ite_self, setPair_mate, cause_mate]

theorem perfN_mate (u code n : Nat) (s : State) : (perfN u code n s).mate = s.mate := by
  unfold perfN
  simp only [State.mate_foldl, implies_true, State.mate_mk, State.mate_fold, apply_ite State.mate, ite_self, perfCount_mate]

theorem perf_mate (u code : Nat) (s : State) : (perf u code s).mate = s.mate := by
  unfold perf
  simp only [perfN_mate]

theorem dispoCount_mate (port cls code : Nat) (s : State) : (dispoCount port cls code s).mate = s.mate := by
  unfold dispoCount
  simp only [State.mate_mk, State.mate_fold, apply_ite State.mate, ite_self]

theorem dispose_mate (port cls code : Nat) (waited : Bool) (hash : Word64) (arr : Nat) (s : State) : (dispose port cls code waited hash arr s).mate = s.mate := by
  unfold dispose
  simp only [State.mate_mk, State.mate_fold, apply_ite State.mate, ite_self, emit_mate, dispoCount_mate]

/-! ### Time -/

theorem bumpField_mate (off hi lo : Nat) (s : State) : (bumpField off hi lo s).mate = s.mate := by
  unfold bumpField
  simp only [State.mate_mk, State.mate_fold, apply_ite State.mate, ite_self, setField_mate]

/-! ### Perf -/

theorem winCount_mate (p len : Nat) (tx : Bool) (s : State) : (winCount p len tx s).mate = s.mate := by
  unfold winCount
  simp only [State.mate_mk, State.mate_fold, apply_ite State.mate, ite_self, perf_mate]

/-! ### FlowCtl -/

theorem emitFc_mate (p : Nat) (f : Bytes) (s : State) : (emitFc p f s).mate = s.mate := by
  unfold emitFc
  simp only [State.mate_foldl, implies_true, State.mate_mk, State.mate_fold, apply_ite State.mate, ite_self, perf_mate, bumpField_mate, winCount_mate]

theorem sendFc_mate (p : Nat) (f : Bytes) (s : State) : (sendFc p f s).mate = s.mate := by
  unfold sendFc
  simp only [State.mate_foldl, implies_true, State.mate_mk, State.mate_fold, apply_ite State.mate, ite_self, State.modSched_mate, emitFc_mate]

theorem sendX_mate (p q : Nat) (off : Bool) (s : State) : (sendX p q off s).mate = s.mate := by
  unfold sendX
  simp only [State.mate_mk, State.mate_fold, apply_ite State.mate, ite_self, sendFc_mate]

theorem fcClass_mate (p q : Nat) (s : State) : (fcClass p q s).mate = s.mate := by
  unfold fcClass
  simp only [State.mate_mk, State.mate_fold, apply_ite State.mate, ite_self, State.setSched_mate, sendX_mate]

theorem fcUpdate_mate (p : Nat) (s : State) : (fcUpdate p s).mate = s.mate := by
  unfold fcUpdate
  simp only [State.mate_foldl, implies_true, State.mate_mk, State.mate_fold, apply_ite State.mate, ite_self, State.modSched_mate, fcClass_mate]

/-! ### Vault -/

theorem noteVaultOp_mate (c : Nat) (k : VClass) (s : State) : (noteVaultOp c k s).mate = s.mate := by
  unfold noteVaultOp
  simp only [State.mate_foldl, implies_true, State.mate_mk, State.mate_fold, apply_ite State.mate, ite_self, State.modChan_mate, perf_mate]

theorem chanWrite_mate (rank u b : Nat) (k : VClass) (s : State) : (chanWrite rank u b k s).mate = s.mate := by
  unfold chanWrite
  simp only [State.modChan_mate, bump64_mate, perf_mate, noteVaultOp_mate]

theorem countWrite_mate (a : Nat) (b : Nat) (k : VClass) (s : State) : (countWrite a b k s).mate = s.mate := by
  unfold countWrite
  simp only [State.mate_foldl, implies_true, State.mate_mk, State.mate_fold, apply_ite State.mate, ite_self, bump64_mate, chanWrite_mate]

theorem setOcc_mate (b n : Nat) (s : State) : (setOcc b n s).mate = s.mate := by
  unfold setOcc
  simp only [State.mate_mk, State.mate_fold, apply_ite State.mate, ite_self, State.modLedger_mate, cause_mate]

theorem occStep_mate (slot : Nat) (f : State → State) (s : State) (h : ∀ s, (f s).mate = s.mate) : (occStep slot f s).mate = s.mate := by
  unfold occStep
  dsimp only
  split <;> simp only [setOcc_mate, h]

theorem storeCell_mate (a : Nat) (cell : VCell) (s : State) : (storeCell a cell s).mate = s.mate := by
  unfold storeCell
  simp only [State.mate_foldl, implies_true, State.mate_mk, State.mate_fold, apply_ite State.mate, ite_self, State.modChan_mate]

theorem storeRecord_mate (a : Nat) (cell : VCell) (s : State) : (storeRecord a cell s).mate = s.mate := by
  unfold storeRecord
  repeat' first
    | with_reducible rfl
    | (simp only [State.mate_foldl, implies_true, State.mate_mk, State.mate_fold, apply_ite State.mate, apply_ite Prod.snd, ite_self, occStep_mate, storeCell_mate]; done)
    | split
    | dsimp only

theorem writeRecord_mate (a b : Nat) (k : VClass) (r : Rec) (s : State) : (writeRecord a b k r s).mate = s.mate := by
  unfold writeRecord
  simp only [countWrite_mate, storeRecord_mate]

/-! ### Egress -/

theorem setFrame_mate (f : Nat) (x : Frame) (s : State) : (setFrame f x s).mate = s.mate := by
  rfl

theorem dropFrame_mate (f : Nat) (s : State) : (dropFrame f s).mate = s.mate := by
  rfl

theorem modFrame_mate (f : Nat) (g : Frame → Frame) (s : State) : (modFrame f g s).mate = s.mate := by
  unfold modFrame
  split <;> simp only [State.mate_mk, State.mate_fold, setFrame_mate]

theorem addRef_mate (f : Nat) (s : State) : (addRef f s).mate = s.mate := by
  unfold addRef
  simp only [modFrame_mate]

theorem release_mate (f : Nat) (s : State) : (release f s).mate = s.mate := by
  unfold release
  repeat' first
    | with_reducible rfl
    | (simp only [State.mate_mk, State.mate_fold, apply_ite State.mate, ite_self, perf_mate, fcUpdate_mate, setFrame_mate, dropFrame_mate]; done)
    | split
    | dsimp only

theorem setQueue_mate (n : Nat) (q : List Copy) (s : State) : (setQueue n q s).mate = s.mate := by
  rfl

theorem settleEmpty_mate (n : Nat) (s : State) : (settleEmpty n s).mate = s.mate := by
  unfold settleEmpty
  simp only [State.mate_mk, State.mate_fold, apply_ite State.mate, ite_self, State.setClass_mate]

theorem countCopy_mate (c : Copy) (code : Nat) (s : State) : (countCopy c code s).mate = s.mate := by
  unfold countCopy
  repeat' first
    | with_reducible rfl
    | (simp only [State.mate_mk, State.mate_fold, apply_ite State.mate, ite_self, dispose_mate]; done)
    | split
    | dsimp only

theorem discardCopy_mate (c : Copy) (code : Nat) (s : State) : (discardCopy c code s).mate = s.mate := by
  unfold discardCopy
  simp only [State.mate_mk, State.mate_fold, apply_ite State.mate, ite_self, bump_mate, cause_mate, release_mate, countCopy_mate]

theorem enqueue_mate (n : Nat) (c : Copy) (s : State) : (enqueue n c s).mate = s.mate := by
  unfold enqueue
  repeat' first
    | with_reducible rfl
    | (simp only [State.mate_mk, State.mate_fold, apply_ite State.mate, ite_self, bump_mate, cause_mate, perf_mate, release_mate, setQueue_mate, discardCopy_mate]; done)
    | split
    | dsimp only

theorem makeCopy_mate (n : Nat) (c : Copy) (s : State) : (makeCopy n c s).mate = s.mate := by
  unfold makeCopy
  simp only [addRef_mate, enqueue_mate]

theorem badTarget_mate (c : Copy) (s : State) : (badTarget c s).mate = s.mate := by
  unfold badTarget
  simp only [bump_mate, cause_mate, addRef_mate, discardCopy_mate]

/-! ### Audit -/

theorem notePeerRepair_mate (a outcome : Nat) (s : State) : (notePeerRepair a outcome s).mate = s.mate := by
  unfold notePeerRepair
  simp only [emit_mate]

theorem peerFail_mate (slot outcome : Nat) (counted : Bool) (s : State) : (peerFail slot outcome counted s).mate = s.mate := by
  unfold peerFail
  simp only [State.mate_mk, State.mate_fold, apply_ite State.mate, ite_self, bump_mate, cause_mate, notePeerRepair_mate]

theorem auditAnswer_mate (slot : Nat) (r : Option Rec) (status : Nat) (s : State) : (auditAnswer slot r status s).mate = s.mate := by
  unfold auditAnswer
  repeat' first
    | with_reducible rfl
    | (simp only [State.mate_mk, State.mate_fold, apply_ite State.mate, ite_self, bump_mate, writeRecord_mate, notePeerRepair_mate, peerFail_mate]; done)
    | split
    | dsimp only

/-! ### Mac -/

theorem pushReq_mate (r : Requester) (f : Nat) (s : State) : (pushReq r f s).mate = s.mate := by
  unfold pushReq
  simp only [State.mate_mk, State.mate_fold, apply_ite State.mate, ite_self]

theorem dropReq_mate (f : Nat) (s : State) : (dropReq f s).mate = s.mate := by
  rfl

theorem frameStored_mate (f : Nat) (x : Frame) (s : State) : (frameStored f x s).mate = s.mate := by
  unfold frameStored
  split <;> simp only [State.mate_mk, State.mate_fold, State.modAssay_mate]

theorem grantCell_mate (f : Nat) (x : Frame) (k : Pool) (s : State) : (grantCell f x k s).mate = s.mate := by
  unfold grantCell
  repeat' first
    | with_reducible rfl
    | (simp only [State.mate_mk, State.mate_fold, apply_ite State.mate, ite_self, cause_mate, perf_mate, fcUpdate_mate, setFrame_mate, pushReq_mate, dropReq_mate, frameStored_mate]; done)
    | split
    | dsimp only

theorem refuseCell_mate (f : Nat) (x : Frame) (s : State) : (refuseCell f x s).mate = s.mate := by
  unfold refuseCell
  split <;> simp only [State.mate_mk, State.mate_fold, State.modPort_mate, bump_mate, cause_mate, perf_mate, dispose_mate, setFrame_mate, dropFrame_mate, dropReq_mate]

theorem decideCell_mate (q : Requester × Nat) (s : State) : (decideCell q s).mate = s.mate := by
  unfold decideCell
  repeat' first
    | with_reducible rfl
    | (simp only [State.mate_mk, State.mate_fold, apply_ite State.mate, ite_self, dropReq_mate, grantCell_mate, refuseCell_mate]; done)
    | split
    | dsimp only

theorem mintRound_mate (s : State) : (mintRound s).mate = s.mate := by
  unfold mintRound
  simp only [State.mate_foldl, implies_true, State.mate_mk, State.mate_fold, apply_ite State.mate, ite_self, decideCell_mate]

theorem fillCells_mate (f n : Nat) (s : State) : (fillCells f n s).mate = s.mate := by
  induction n generalizing s with
  | zero => rfl
  | succ n ih =>
    rw [fillCells]
    split
    · split
      · simp only [ih, mintRound_mate, pushReq_mate]
      · rfl
    · rfl

/-! ### Tm -/

theorem popHead_mate (n : Nat) (s : State) : (popHead n s).mate = s.mate := by
  unfold popHead
  simp only [setQueue_mate, settleEmpty_mate]

theorem holdDiscard_mate (n f : Nat) (s : State) : (holdDiscard n f s).mate = s.mate := by
  induction f generalizing s with
  | zero => rfl
  | succ f ih =>
    rw [holdDiscard]
    repeat' first
      | with_reducible rfl
      | (simp only [ih, discardCopy_mate, perf_mate, cause_mate, popHead_mate]; done)
      | split

theorem freezeQueues_mate (k : Nat) (s : State) : (freezeQueues k s).mate = s.mate := by
  unfold freezeQueues
  dsimp only
  rw [State.mate_foldl _ fun t n => by split; exact holdDiscard_mate ..; rfl]
  split <;> simp only [release_mate, countCopy_mate, State.mate_foldl, State.setClass_mate, State.setSched_mate, implies_true]

theorem resumeQueues_mate (k : Nat) (s : State) : (resumeQueues k s).mate = s.mate := by
  unfold resumeQueues
  simp only [State.mate_foldl, implies_true, State.mate_mk, State.mate_fold, apply_ite State.mate, ite_self, State.setClass_mate, State.modSched_mate]

/-! ### The commands -/


end Sys2Proof.Machine
end

