-- ==== Sys2Proof/Laws/Power.lean ====
section
/-!
SUPPORT. What the operations on the units that the Treasury switches leave alone in the Treasury and the pins.
-/
set_option linter.all false
namespace Sys2Proof.Machine

theorem State.power_mk (pending : List Instr) (free : Nat) (regs : Tbl Word32) (dispo : Tbl Nat) (time : TimeBase) (sill : Sillage) (msix : Msix) (perf : Perf) (treas : Treasury) (fuses : Fuses) (sec : SecEngine) (pins : Pins) (loader : Loader) (pcie : Pcie) (coffer : Coffer) (rings : Tbl Ring) (out : Outputs) (lastBatch : Nat) (ports : Tbl Port) (portCfg : Tbl PortCfg) (lanes : Tbl Lane) (laneInv : Tbl Nat) (laneTaps : Tbl Nat) (teth : Tether) (swc : SwitchCore) (tm : TrafficMgr) (templates : Bytes) (assay : Tbl Assayer) (sieve : Sieve) (accord : Accord) (ledger : Tbl Ledger) (disp : Tbl Disp) (tellers : Tbl Teller) (desks : Tbl Desk) (nose : Tbl Nose) (automata : NoseAutomata) (vault : Vault) (audit : Auditor) :
    State.power ⟨pending, free, regs, dispo, time, sill, msix, perf, treas, fuses, sec, pins, loader, pcie, coffer, rings, out, lastBatch, ports, portCfg, lanes, laneInv, laneTaps, teth, swc, tm, templates, assay, sieve, accord, ledger, disp, tellers, desks, nose, automata, vault, audit⟩ = (treas, pins) := (rfl)

theorem State.power_fold (s : State) :
    (s.treas, s.pins) = s.power := (rfl)

theorem State.power_foldl {α : Type} (f : State → α → State) (h : ∀ s x, (f s x).power = s.power) (l : List α) (s : State) :
    (l.foldl f s).power = s.power := by
  induction l generalizing s with
  | nil => rfl
  | cons x xs ih => rw [List.foldl_cons, ih, h]

theorem State.power_foldl2 {α β : Type} (f : β × State → α → β × State) (h : ∀ a x, (f a x).2.power = a.2.power) (l : List α)
    (a : β × State) : (l.foldl f a).2.power = a.2.power := by
  induction l generalizing a with
  | nil => rfl
  | cons x xs ih => rw [List.foldl_cons, ih, h]

theorem State.power_foldl3 {α β γ : Type} (f : β × γ × State → α → β × γ × State) (h : ∀ a x, (f a x).2.2.power = a.2.2.power)
    (l : List α) (a : β × γ × State) : (l.foldl f a).2.2.power = a.2.2.power := by
  induction l generalizing a with
  | nil => rfl
  | cons x xs ih => rw [List.foldl_cons, ih, h]

theorem State.power_getD {o : Option State} {s d : State} (h : ∀ t, o = some t → t.power = s.power) (hd : d.power = s.power) :
    (o.getD d).power = s.power := by
  cases o with
  | none => exact hd
  | some t => exact h t rfl

theorem gated_power (f : State → State) (s : State) (h : ∀ s, (f s).power = s.power) : (gated f s).power = s.power := by
  unfold gated; split
  · exact h s
  · rfl

/-! ### State -/


/-! ### Ops -/

theorem State.setLedger_power (s : State) (b : Nat) (l : Ledger) : (State.setLedger s b l).power = s.power := by
  rfl

theorem State.setDisp_power (s : State) (b : Nat) (d : Disp) : (State.setDisp s b d).power = s.power := by
  rfl

theorem State.setNose_power (s : State) (b : Nat) (n : Nose) : (State.setNose s b n).power = s.power := by
  rfl

theorem State.setTeller_power (s : State) (t : Nat) (x : Teller) : (State.setTeller s t x).power = s.power := by
  rfl

theorem State.setPort_power (s : State) (p : Nat) (x : Port) : (State.setPort s p x).power = s.power := by
  rfl

theorem State.setChan_power (s : State) (c : Nat) (x : VaultCh) : (State.setChan s c x).power = s.power := by
  rfl

theorem State.setSched_power (s : State) (k : Nat) (x : Sched) : (State.setSched s k x).power = s.power := by
  rfl

theorem State.setClass_power (s : State) (n : Nat) (x : TmClass) : (State.setClass s n x).power = s.power := by
  rfl

theorem State.modLedger_power (s : State) (b : Nat) (f : Ledger → Ledger) : (State.modLedger s b f).power = s.power := by
  unfold State.modLedger
  simp only [State.setLedger_power]

theorem State.modDisp_power (s : State) (b : Nat) (f : Disp → Disp) : (State.modDisp s b f).power = s.power := by
  unfold State.modDisp
  simp only [State.setDisp_power]

theorem State.modNose_power (s : State) (b : Nat) (f : Nose → Nose) : (State.modNose s b f).power = s.power := by
  unfold State.modNose
  simp only [State.setNose_power]

theorem State.modTeller_power (s : State) (t : Nat) (f : Teller → Teller) : (State.modTeller s t f).power = s.power := by
  unfold State.modTeller
  simp only [State.setTeller_power]

theorem State.modPort_power (s : State) (p : Nat) (f : Port → Port) : (State.modPort s p f).power = s.power := by
  unfold State.modPort
  simp only [State.setPort_power]

theorem State.modChan_power (s : State) (c : Nat) (f : VaultCh → VaultCh) : (State.modChan s c f).power = s.power := by
  unfold State.modChan
  simp only [State.setChan_power]

theorem State.modSched_power (s : State) (k : Nat) (f : Sched → Sched) : (State.modSched s k f).power = s.power := by
  unfold State.modSched
  simp only [State.setSched_power]

theorem regStore_power (off : Nat) (v : Word32) (s : State) : (regStore off v s).power = s.power := by
  rfl

theorem setField_power (off hi lo x : Nat) (s : State) : (setField off hi lo x s).power = s.power := by
  unfold setField
  simp only [regStore_power]

theorem setPair_power (off v : Nat) (s : State) : (setPair off v s).power = s.power := by
  unfold setPair
  simp only [regStore_power]

theorem bumpN_power (off n : Nat) (s : State) : (bumpN off n s).power = s.power := by
  unfold bumpN
  simp only [State.power_mk, State.power_fold, apply_ite State.power, ite_self, regStore_power]

theorem bump_power (off : Nat) (s : State) : (bump off s).power = s.power := by
  unfold bump
  simp only [bumpN_power]

theorem bump64_power (off n : Nat) (s : State) : (bump64 off n s).power = s.power := by
  unfold bump64
  simp only [State.power_mk, State.power_fold, apply_ite State.power, ite_self, setPair_power]

theorem peak_power (off hi lo v : Nat) (s : State) : (peak off hi lo v s).power = s.power := by
  unfold peak
  simp only [State.power_mk, State.power_fold, apply_ite State.power, ite_self, setField_power]

theorem cause_power (off i : Nat) (s : State) : (cause off i s).power = s.power := by
  unfold cause
  simp only [regStore_power]

theorem stampAt_power (secOff nsOff net : Nat) (s : State) : (stampAt secOff nsOff net s).power = s.power := by
  unfold stampAt
  simp only [regStore_power]

theorem stamp_power (secOff nsOff : Nat) (s : State) : (stamp secOff nsOff s).power = s.power := by
  unfold stamp
  simp only [stampAt_power]

theorem emitAt_power (net src kind payload : Nat) (s : State) : (emitAt net src kind payload s).power = s.power := by
  unfold emitAt
  simp only [State.power_mk, State.power_fold, apply_ite State.power, ite_self, bump_power, cause_power]

theorem emit_power (src kind payload : Nat) (s : State) : (emit src kind payload s).power = s.power := by
  unfold emit
  simp only [emitAt_power]

theorem perfCount_power (u k n : Nat) (s : State) : (perfCount u k n s).power = s.power := by
  unfold perfCount
  simp only [State.power_mk, State.power_fold, apply_ite State.power, ite_self, setPair_power, cause_power]

theorem perfN_power (u code n : Nat) (s : State) : (perfN u code n s).power = s.power := by
  unfold perfN
  simp only [State.power_foldl, implies_true, State.power_mk, State.power_fold, apply_ite State.power, ite_self, perfCount_power]

theorem perf_power (u code : Nat) (s : State) : (perf u code s).power = s.power := by
  unfold perf
  simp only [perfN_power]

theorem dispoCount_power (port cls code : Nat) (s : State) : (dispoCount port cls code s).power = s.power := by
  unfold dispoCount
  simp only [State.power_mk, State.power_fold, apply_ite State.power, ite_self]

theorem dispose_power (port cls code : Nat) (waited : Bool) (hash : Word64) (arr : Nat) (s : State) : (dispose port cls code waited hash arr s).power = s.power := by
  unfold dispose
  simp only [State.power_mk, State.power_fold, apply_ite State.power, ite_self, emit_power, dispoCount_power]

theorem takeFree_power (s : State) : (takeFree s).2.power = s.power := by
  rfl

theorem takeFree_power' {s : State} {x' : _} {r' : State} (h' : takeFree s = (x', r')) : r'.power = s.power := by
  have k' := takeFree_power s
  rw [h'] at k'
  exact k'

/-! ### Time -/

theorem bumpField_power (off hi lo : Nat) (s : State) : (bumpField off hi lo s).power = s.power := by
  unfold bumpField
  simp only [State.power_mk, State.power_fold, apply_ite State.power, ite_self, setField_power]

/-! ### Perf -/

theorem winCount_power (p len : Nat) (tx : Bool) (s : State) : (winCount p len tx s).power = s.power := by
  unfold winCount
  simp only [State.power_mk, State.power_fold, apply_ite State.power, ite_self, perf_power]

/-! ### FlowCtl -/

theorem emitFc_power (p : Nat) (f : Bytes) (s : State) : (emitFc p f s).power = s.power := by
  unfold emitFc
  simp only [State.power_foldl, implies_true, State.power_mk, State.power_fold, apply_ite State.power, ite_self, perf_power, bumpField_power, winCount_power]

theorem sendFc_power (p : Nat) (f : Bytes) (s : State) : (sendFc p f s).power = s.power := by
  unfold sendFc
  simp only [State.power_foldl, implies_true, State.power_mk, State.power_fold, apply_ite State.power, ite_self, State.modSched_power, emitFc_power]

theorem sendX_power (p q : Nat) (off : Bool) (s : State) : (sendX p q off s).power = s.power := by
  unfold sendX
  simp only [State.power_mk, State.power_fold, apply_ite State.power, ite_self, sendFc_power]

theorem fcClass_power (p q : Nat) (s : State) : (fcClass p q s).power = s.power := by
  unfold fcClass
  simp only [State.power_mk, State.power_fold, apply_ite State.power, ite_self, State.setSched_power, sendX_power]

theorem fcUpdate_power (p : Nat) (s : State) : (fcUpdate p s).power = s.power := by
  unfold fcUpdate
  simp only [State.power_foldl, implies_true, State.power_mk, State.power_fold, apply_ite State.power, ite_self, State.modSched_power, fcClass_power]

/-! ### Sieve -/

theorem sieveLookup_power (b : Nat) (kv : KeyVec) (tpl gen : Nat) (s : State) : (sieveLookup b kv tpl gen s).2.2.power = s.power := by
  unfold sieveLookup
  repeat' first
    | with_reducible rfl
    | (simp only [State.power_mk, State.power_fold, apply_ite State.power, ite_self, bump_power]; done)
    | split
    | dsimp only

theorem sieveLookup_power' {b : Nat} {kv : KeyVec} {tpl gen : Nat} {s : State} {x' : _} {y' : _} {r' : State} (h' : sieveLookup b kv tpl gen s = (x', y', r')) : r'.power = s.power := by
  have k' := sieveLookup_power b kv tpl gen s
  rw [h'] at k'
  exact k'

/-! ### Vault -/

theorem noteVaultOp_power (c : Nat) (k : VClass) (s : State) : (noteVaultOp c k s).power = s.power := by
  unfold noteVaultOp
  simp only [State.power_foldl, implies_true, State.power_mk, State.power_fold, apply_ite State.power, ite_self, State.modChan_power, perf_power]

theorem inOrder_power (rank u : Nat) (s : State) : (inOrder rank u s).power = s.power := by
  unfold inOrder
  simp only [State.power_foldl, implies_true, State.power_mk, State.power_fold, apply_ite State.power, ite_self, State.modChan_power, bump_power, perf_power]

theorem chanRead_power (rank u : Nat) (k : VClass) (s : State) : (chanRead rank u k s).power = s.power := by
  unfold chanRead
  simp only [bump64_power, perf_power, noteVaultOp_power, inOrder_power]

theorem chanWrite_power (rank u b : Nat) (k : VClass) (s : State) : (chanWrite rank u b k s).power = s.power := by
  unfold chanWrite
  simp only [State.modChan_power, bump64_power, perf_power, noteVaultOp_power]

theorem countRead_power (a : Nat) (b : Nat) (k : VClass) (s : State) : (countRead a b k s).power = s.power := by
  unfold countRead
  simp only [State.power_mk, State.power_fold, apply_ite State.power, ite_self, bump64_power, chanRead_power]

theorem countWrite_power (a : Nat) (b : Nat) (k : VClass) (s : State) : (countWrite a b k s).power = s.power := by
  unfold countWrite
  simp only [State.power_foldl, implies_true, State.power_mk, State.power_fold, apply_ite State.power, ite_self, bump64_power, chanWrite_power]

theorem setOcc_power (b n : Nat) (s : State) : (setOcc b n s).power = s.power := by
  unfold setOcc
  simp only [State.power_mk, State.power_fold, apply_ite State.power, ite_self, State.modLedger_power, cause_power]

theorem occStep_power (slot : Nat) (f : State → State) (s : State) (h : ∀ s, (f s).power = s.power) : (occStep slot f s).power = s.power := by
  unfold occStep
  dsimp only
  split <;> simp only [setOcc_power, h]

theorem storeCell_power (a : Nat) (cell : VCell) (s : State) : (storeCell a cell s).power = s.power := by
  unfold storeCell
  simp only [State.power_foldl, implies_true, State.power_mk, State.power_fold, apply_ite State.power, ite_self, State.modChan_power]

theorem storeRecord_power (a : Nat) (cell : VCell) (s : State) : (storeRecord a cell s).power = s.power := by
  unfold storeRecord
  repeat' first
    | with_reducible rfl
    | (simp only [State.power_foldl, implies_true, State.power_mk, State.power_fold, apply_ite State.power, apply_ite Prod.snd, ite_self, occStep_power, storeCell_power]; done)
    | split
    | dsimp only

theorem writeRecord_power (a b : Nat) (k : VClass) (r : Rec) (s : State) : (writeRecord a b k r s).power = s.power := by
  unfold writeRecord
  simp only [countWrite_power, storeRecord_power]

theorem aer_power (i : Nat) (corr : Bool) (s : State) : (aer i corr s).power = s.power := by
  unfold aer
  cases corr <;> exact emit_power ..

theorem aerInternal_power (s : State) : (aerInternal s).power = s.power := by
  unfold aerInternal
  simp only [aer_power]

theorem refusePartial_power (a lo : Nat) (host : Bool) (tellers : List (Nat × Nat)) (s : State) : (refusePartial a lo host tellers s).power = s.power := by
  unfold refusePartial
  simp only [State.power_foldl, implies_true, State.power_mk, State.power_fold, apply_ite State.power, ite_self, State.modTeller_power, setPair_power, bump_power, cause_power, emit_power, aerInternal_power]

theorem rmwRecord_power (a : Nat) (m : Tbl Byte) (have_ : List Nat) (host : Bool) (tellers : List (Nat × Nat)) (s : State) : (rmwRecord a m have_ host tellers s).power = s.power := by
  unfold rmwRecord
  repeat' first
    | with_reducible rfl
    | (simp only [State.power_mk, State.power_fold, apply_ite State.power, ite_self, bump_power, countRead_power, countWrite_power, storeRecord_power, refusePartial_power]; done)
    | split
    | dsimp only

theorem closeMerge_power (c : Nat) (e : MergeEntry) (s : State) : (closeMerge c e s).power = s.power := by
  unfold closeMerge
  simp only [State.power_mk, State.power_fold, apply_ite State.power, ite_self, State.modChan_power, bump_power, countWrite_power, storeRecord_power, rmwRecord_power]

theorem settleMerge_power (a : Nat) (s : State) : (settleMerge a s).power = s.power := by
  unfold settleMerge
  repeat' first
    | with_reducible rfl
    | (simp only [State.power_mk, State.power_fold, apply_ite State.power, ite_self, closeMerge_power]; done)
    | split
    | dsimp only

theorem readRecord_power (a b : Nat) (k : VClass) (s : State) : (readRecord a b k s).2.power = s.power := by
  unfold readRecord
  simp only [State.power_mk, State.power_fold, apply_ite State.power, ite_self, bump_power, countRead_power, settleMerge_power]

theorem readRecord_power' {a b : Nat} {k : VClass} {s : State} {x' : _} {r' : State} (h' : readRecord a b k s = (x', r')) : r'.power = s.power := by
  have k' := readRecord_power a b k s
  rw [h'] at k'
  exact k'

/-! ### Egress -/

theorem setFrame_power (f : Nat) (x : Frame) (s : State) : (setFrame f x s).power = s.power := by
  rfl

theorem dropFrame_power (f : Nat) (s : State) : (dropFrame f s).power = s.power := by
  rfl

theorem modFrame_power (f : Nat) (g : Frame → Frame) (s : State) : (modFrame f g s).power = s.power := by
  unfold modFrame
  split <;> simp only [State.power_mk, State.power_fold, setFrame_power]

theorem addRef_power (f : Nat) (s : State) : (addRef f s).power = s.power := by
  unfold addRef
  simp only [modFrame_power]

theorem release_power (f : Nat) (s : State) : (release f s).power = s.power := by
  unfold release
  repeat' first
    | with_reducible rfl
    | (simp only [State.power_mk, State.power_fold, apply_ite State.power, ite_self, perf_power, fcUpdate_power, setFrame_power, dropFrame_power]; done)
    | split
    | dsimp only

theorem setQueue_power (n : Nat) (q : List Copy) (s : State) : (setQueue n q s).power = s.power := by
  rfl

theorem settleEmpty_power (n : Nat) (s : State) : (settleEmpty n s).power = s.power := by
  unfold settleEmpty
  simp only [State.power_mk, State.power_fold, apply_ite State.power, ite_self, State.setClass_power]

theorem countCopy_power (c : Copy) (code : Nat) (s : State) : (countCopy c code s).power = s.power := by
  unfold countCopy
  repeat' first
    | with_reducible rfl
    | (simp only [State.power_mk, State.power_fold, apply_ite State.power, ite_self, dispose_power]; done)
    | split
    | dsimp only

theorem discardCopy_power (c : Copy) (code : Nat) (s : State) : (discardCopy c code s).power = s.power := by
  unfold discardCopy
  simp only [State.power_mk, State.power_fold, apply_ite State.power, ite_self, bump_power, cause_power, release_power, countCopy_power]

theorem enqueue_power (n : Nat) (c : Copy) (s : State) : (enqueue n c s).power = s.power := by
  unfold enqueue
  repeat' first
    | with_reducible rfl
    | (simp only [State.power_mk, State.power_fold, apply_ite State.power, ite_self, bump_power, cause_power, perf_power, release_power, setQueue_power, discardCopy_power]; done)
    | split
    | dsimp only

theorem makeCopy_power (n : Nat) (c : Copy) (s : State) : (makeCopy n c s).power = s.power := by
  unfold makeCopy
  simp only [addRef_power, enqueue_power]

theorem badTarget_power (c : Copy) (s : State) : (badTarget c s).power = s.power := by
  unfold badTarget
  simp only [bump_power, cause_power, addRef_power, discardCopy_power]

theorem sendTo_power (target q : Nat) (groups : Bool) (c : Copy) (s : State) : (sendTo target q groups c s).power = s.power := by
  unfold sendTo
  repeat' first
    | with_reducible rfl
    | (simp only [State.power_foldl, implies_true, State.power_mk, State.power_fold, apply_ite State.power, apply_ite Prod.snd, ite_self, perfN_power, addRef_power, discardCopy_power, makeCopy_power, badTarget_power]; done)
    | split
    | dsimp only

theorem trySample_power (f : Nat) (s : State) : (trySample f s).power = s.power := by
  unfold trySample
  repeat' first
    | with_reducible rfl
    | (simp only [State.power_mk, State.power_fold, apply_ite State.power, ite_self, setFrame_power, release_power, makeCopy_power]; done)
    | split
    | dsimp only

theorem passDone_power (f : Nat) (info : CopyInfo) (s : State) : (passDone f info s).power = s.power := by
  unfold passDone
  simp only [modFrame_power, release_power, trySample_power]

theorem dropPass_power (d : Desc) (cls code : Nat) (s : State) : (dropPass d cls code s).power = s.power := by
  unfold dropPass
  simp only [dispose_power, passDone_power]

theorem puntPass_power (d : Desc) (ring cls source reason : Nat) (s : State) : (puntPass d ring cls source reason s).power = s.power := by
  unfold puntPass
  simp only [makeCopy_power, passDone_power]

theorem setPolicer_power (k : Nat) (x : Policer) (s : State) : (setPolicer k x s).power = s.power := by
  rfl

theorem police_power (b i : Nat) (d : Desc) (s : State) : (police b i d s).2.power = s.power := by
  unfold police
  repeat' first
    | with_reducible rfl
    | (simp only [State.power_mk, State.power_fold, apply_ite State.power, ite_self, perf_power, setFrame_power, setPolicer_power]; done)
    | split
    | dsimp only

theorem police_power' {b i : Nat} {d : Desc} {s : State} {x' : _} {r' : State} (h' : police b i d s = (x', r')) : r'.power = s.power := by
  have k' := police_power b i d s
  rw [h'] at k'
  exact k'

theorem forwardPass_power (d : Desc) (a : Word64) (params : List Word64) (s : State) : (forwardPass d a params s).power = s.power := by
  unfold forwardPass
  simp only [sendTo_power, passDone_power]

theorem takeAction_power (d : Desc) (a : Word64) (params : List Word64) (s : State) : (takeAction d a params s).power = s.power := by
  unfold takeAction
  simp only [State.power_mk, State.power_fold, apply_ite State.power, ite_self, dropPass_power, puntPass_power, forwardPass_power]

theorem policeAction_power (b : Nat) (d : Desc) (a : Word64) (s : State) : (policeAction b d a s).2.power = s.power := by
  unfold policeAction
  split <;> simp only [State.power_mk, State.power_fold, police_power]

theorem policeAction_power' {b : Nat} {d : Desc} {a : Word64} {s : State} {x' : _} {r' : State} (h' : policeAction b d a s = (x', r')) : r'.power = s.power := by
  have k' := policeAction_power b d a s
  rw [h'] at k'
  exact k'

theorem applyAction_power (b : Nat) (d : Desc) (a : Word64) (params : List Word64) (s : State) : (applyAction b d a params s).power = s.power := by
  unfold applyAction
  simp only [State.power_mk, State.power_fold, apply_ite State.power, ite_self, dropPass_power, takeAction_power, policeAction_power]

/-! ### Items -/

theorem notePeak_power (b : Nat) (s : State) : (notePeak b s).power = s.power := by
  unfold notePeak
  simp only [peak_power]

theorem trace_power (b k : Nat) (i : Item) (teller : Nat) (pref : Option Nat) (s : State) : (trace b k i teller pref s).power = s.power := by
  unfold trace
  simp only [State.power_mk, State.power_fold, apply_ite State.power, ite_self, State.modDisp_power, emit_power]

theorem addItem_power (b : Nat) (i : Item) (s : State) : (addItem b i s).power = s.power := by
  unfold addItem
  repeat' first
    | with_reducible rfl
    | (simp only [State.power_foldl, implies_true, State.power_mk, State.power_fold, apply_ite State.power, apply_ite Prod.snd, ite_self, State.setDisp_power, notePeak_power]; done)
    | split
    | dsimp only

theorem noteWaiting_power (b : Nat) (i : Item) (f : Nat) (s : State) : (noteWaiting b i f s).power = s.power := by
  unfold noteWaiting
  simp only [bump_power, perf_power, modFrame_power, trace_power]

theorem addStateless_power (b : Nat) (d : Desc) (a : Word64) (reclass : Bool) (s : State) : (addStateless b d a reclass s).power = s.power := by
  unfold addStateless
  simp only [State.power_mk, State.power_fold, apply_ite State.power, ite_self, addItem_power, noteWaiting_power]

theorem noteStall_power (b : Nat) (i : Item) (s : State) : (noteStall b i s).power = s.power := by
  unfold noteStall
  simp only [cause_power, trace_power]

theorem offerMaint_power (b routine : Nat) (kind : ItemFor) (hash arg : Word64) (s : State) : (offerMaint b routine kind hash arg s).2.power = s.power := by
  unfold offerMaint
  repeat' first
    | with_reducible rfl
    | (simp only [State.power_mk, State.power_fold, apply_ite State.power, ite_self, trace_power, addItem_power]; done)
    | split
    | dsimp only

theorem offerMaint_power' {b routine : Nat} {kind : ItemFor} {hash arg : Word64} {s : State} {x' : _} {r' : State} (h' : offerMaint b routine kind hash arg s = (x', r')) : r'.power = s.power := by
  have k' := offerMaint_power b routine kind hash arg s
  rw [h'] at k'
  exact k'

theorem setCofferWord_power (i : Nat) (v : Word64) (s : State) : (setCofferWord i v s).power = s.power := by
  rfl

theorem exportItem_power (b : Nat) (n : Snapshot) (s : State) : (exportItem b n s).2.power = s.power := by
  unfold exportItem
  repeat' first
    | with_reducible rfl
    | (simp only [State.power_mk, State.power_fold, apply_ite State.power, ite_self, offerMaint_power]; done)
    | split
    | dsimp only

theorem exportItem_power' {b : Nat} {n : Snapshot} {s : State} {x' : _} {r' : State} (h' : exportItem b n s = (x', r')) : r'.power = s.power := by
  have k' := exportItem_power b n s
  rw [h'] at k'
  exact k'

theorem storeSnapshot_power (i : Nat) (rc : Rec) (s : State) : (storeSnapshot i rc s).power = s.power := by
  unfold storeSnapshot
  simp only [State.power_foldl, implies_true, apply_ite State.power, ite_self, cause_power, setCofferWord_power]

theorem exportRecord_power (b : Nat) (hash : Word64) (r : Rec) (expired : Bool) (s : State) : (exportRecord b hash r expired s).power = s.power := by
  unfold exportRecord
  simp only [State.power_foldl, implies_true, State.power_mk, State.power_fold, apply_ite State.power, ite_self, State.modLedger_power, bump_power, emit_power, storeSnapshot_power, exportItem_power]

theorem exportOnClose_power (b : Nat) (hash : Word64) (r : Rec) (expired : Bool) (s : State) : (exportOnClose b hash r expired s).power = s.power := by
  unfold exportOnClose
  simp only [State.power_mk, State.power_fold, apply_ite State.power, ite_self, exportRecord_power]

theorem mirrorSend_power (b type : Nat) (hash : Word64) (r : Rec) (s : State) : (mirrorSend b type hash r s).power = s.power := by
  unfold mirrorSend
  simp only [State.power_mk, State.power_fold, apply_ite State.power, ite_self, bump_power, cause_power, emit_power]

theorem mirrorEvent_power (b e : Nat) (hash : Word64) (r : Rec) (s : State) : (mirrorEvent b e hash r s).2.power = s.power := by
  unfold mirrorEvent
  split <;> simp only [State.power_mk, State.power_fold, mirrorSend_power]

theorem mirrorEvent_power' {b e : Nat} {hash : Word64} {r : Rec} {s : State} {x' : _} {r' : State} (h' : mirrorEvent b e hash r s = (x', r')) : r'.power = s.power := by
  have k' := mirrorEvent_power b e hash r s
  rw [h'] at k'
  exact k'

/-! ### Till -/

theorem setWay_power (b k : Nat) (w : Way) (s : State) : (setWay b k w s).power = s.power := by
  unfold setWay
  simp only [State.modLedger_power]

theorem dropWay_power (b k : Nat) (s : State) : (dropWay b k s).power = s.power := by
  unfold dropWay
  simp only [State.modLedger_power]

theorem modWay_power (b k : Nat) (f : Way → Way) (s : State) : (modWay b k f s).power = s.power := by
  unfold modWay
  split <;> simp only [State.power_mk, State.power_fold, setWay_power]

theorem touchWay_power (b k : Nat) (s : State) : (touchWay b k s).power = s.power := by
  unfold touchWay
  simp only [State.modLedger_power]

theorem unclaim_power (b k : Nat) (s : State) : (unclaim b k s).power = s.power := by
  unfold unclaim
  repeat' first
    | with_reducible rfl
    | (simp only [State.power_foldl, implies_true, State.power_mk, State.power_fold, apply_ite State.power, apply_ite Prod.snd, ite_self, occStep_power, modWay_power]; done)
    | split
    | dsimp only

theorem unflush_power (b k : Nat) (s : State) : (unflush b k s).power = s.power := by
  unfold unflush
  simp only [State.modLedger_power]

theorem writeBack_power (b k : Nat) (s : State) : (writeBack b k s).power = s.power := by
  unfold writeBack
  repeat' first
    | with_reducible rfl
    | (simp only [State.power_mk, State.power_fold, apply_ite State.power, ite_self, bump_power, perf_power, countWrite_power, storeRecord_power, modWay_power, unclaim_power, unflush_power]; done)
    | split
    | dsimp only

theorem evict_power (b k : Nat) (s : State) : (evict b k s).power = s.power := by
  unfold evict
  split <;> simp only [State.power_mk, State.power_fold, bump_power, perf_power, dropWay_power, writeBack_power]

theorem pinWay_power (b k : Nat) (s : State) : (pinWay b k s).power = s.power := by
  unfold pinWay
  repeat' first
    | with_reducible rfl
    | (simp only [State.power_mk, State.power_fold, apply_ite State.power, ite_self, bump_power, cause_power, setWay_power]; done)
    | split
    | dsimp only

theorem closeWay_power (b k : Nat) (expired applied : Bool) (s : State) : (closeWay b k expired applied s).power = s.power := by
  unfold closeWay
  repeat' first
    | with_reducible rfl
    | (simp only [State.power_mk, State.power_fold, apply_ite State.power, ite_self, bump_power, exportOnClose_power, mirrorEvent_power, setWay_power, modWay_power]; done)
    | split
    | dsimp only

theorem noteState_power (b : Nat) (hash : Word64) (r : Rec) (s : State) : (noteState b hash r s).power = s.power := by
  unfold noteState
  simp only [State.power_mk, State.power_fold, apply_ite State.power, ite_self, cause_power, emit_power]

theorem closeSlot_power (b slot : Nat) (r : Rec) (k : VClass) (s : State) : (closeSlot b slot r k s).power = s.power := by
  unfold closeSlot
  simp only [bump_power, writeRecord_power, exportOnClose_power, mirrorEvent_power]

theorem putWay_power (b k : Nat) (f : Fill) (s : State) : (putWay b k f s).power = s.power := by
  unfold putWay
  simp only [State.modLedger_power, setWay_power, touchWay_power, pinWay_power]

theorem install_power' {b k : Nat} {hash : Word64} {f : Fill} {s s' : State} (h : install b hash f s = some (k, s')) : s'.power = s.power := by
  unfold install at h
  dsimp only at h
  cases hv : victim s b (tillSet hash) with
  | none => rw [hv] at h; cases h
  | some i =>
    rw [hv] at h
    cases h
    simp only [putWay_power, evict_power]

theorem noteNoway_power (b : Nat) (s : State) : (noteNoway b s).power = s.power := by
  unfold noteNoway
  simp only [bump_power, cause_power]

theorem visit_power (b k : Nat) (d : Desc) (s : State) : (visit b k d s).power = s.power := by
  unfold visit
  repeat' first
    | with_reducible rfl
    | (simp only [State.power_mk, State.power_fold, apply_ite State.power, ite_self, setFrame_power, mirrorSend_power, setWay_power, modWay_power]; done)
    | split
    | dsimp only

theorem lockWay_power (b k t : Nat) (s : State) : (lockWay b k t s).power = s.power := by
  unfold lockWay
  simp only [modWay_power]

theorem durableBack_power (b k : Nat) (s : State) : (durableBack b k s).power = s.power := by
  unfold durableBack
  repeat' first
    | with_reducible rfl
    | (simp only [State.power_mk, State.power_fold, apply_ite State.power, ite_self, bump_power, writeBack_power]; done)
    | split
    | dsimp only

theorem writeBackAll_power (b : Nat) (s : State) : (writeBackAll b s).power = s.power := by
  unfold writeBackAll
  simp only [State.power_foldl, implies_true, State.power_mk, State.power_fold, apply_ite State.power, ite_self, writeBack_power]

theorem brownoutFlush_power (s : State) : (brownoutFlush s).power = s.power := by
  unfold brownoutFlush
  simp only [State.power_foldl, implies_true, State.power_mk, State.power_fold, apply_ite State.power, ite_self, durableBack_power]

/-! ### Slots -/

theorem testSlot_power (b slot : Nat) (k : VClass) (hash : Word64) (key : Ckey) (t : Nat) (s : State) : (testSlot b slot k hash key t s).2.power = s.power := by
  unfold testSlot
  repeat' first
    | with_reducible rfl
    | (simp only [implies_true, State.power_foldl2, State.power_foldl3, Decision.state_ite, Decision.state_done, Decision.state_full, Decision.state_noroom, ScanIssue.state_ite, ScanIssue.state_done, ScanIssue.state_wait, State.power_mk, State.power_fold, State.power_foldl, apply_ite State.power, apply_ite Prod.snd, apply_ite EntryStep.state, EntryStep.state_served, EntryStep.state_searched, EntryStep.state_refused, EntryStep.state_wait, EntryStep.state_hold, ite_self, bump_power, readRecord_power, noteState_power, closeSlot_power]; done)
    | split
    | dsimp only
    | ((try have h0 := readRecord_power' ‹_›); simp only [implies_true, State.power_foldl2, State.power_foldl3, Decision.state_ite, Decision.state_done, Decision.state_full, Decision.state_noroom, ScanIssue.state_ite, ScanIssue.state_done, ScanIssue.state_wait, State.power_mk, State.power_fold, State.power_foldl, apply_ite State.power, apply_ite Prod.snd, apply_ite EntryStep.state, EntryStep.state_served, EntryStep.state_searched, EntryStep.state_refused, EntryStep.state_wait, EntryStep.state_hold, ite_self, bump_power, readRecord_power, noteState_power, closeSlot_power, *]; done)

theorem testSlot_power' {b slot : Nat} {k : VClass} {hash : Word64} {key : Ckey} {t : Nat} {s : State} {x' : _} {r' : State} (h' : testSlot b slot k hash key t s = (x', r')) : r'.power = s.power := by
  have k' := testSlot_power b slot k hash key t s
  rw [h'] at k'
  exact k'

theorem searchBoth_power (b : Nat) (k : VClass) (hash : Word64) (key : Ckey) (t : Nat) (s : State) :
    (searchBoth b k hash key t s).2.2.power = s.power := by
  unfold searchBoth
  dsimp only
  cases (testSlot b (cands s hash).1 k hash key t s).1 <;> dsimp only
  · exact testSlot_power ..
  · exact testSlot_power ..
  all_goals
    cases (testSlot b (cands s hash).2 k hash key t (testSlot b (cands s hash).1 k hash key t s).2).1 <;>
      exact (testSlot_power ..).trans (testSlot_power ..)

theorem searchBoth_power' {b : Nat} {k : VClass} {hash : Word64} {key : Ckey} {t : Nat} {s : State} {x' : _} {y' : _} {r' : State} (h' : searchBoth b k hash key t s = (x', y', r')) : r'.power = s.power := by
  have k' := searchBoth_power b k hash key t s
  rw [h'] at k'
  exact k'

theorem leaveSlot_power (b k t : Nat) (s : State) : (leaveSlot b k t s).power = s.power := by
  unfold leaveSlot
  repeat' first
    | with_reducible rfl
    | (simp only [State.power_mk, State.power_fold, apply_ite State.power, ite_self, modWay_power, closeWay_power]; done)
    | split
    | dsimp only

theorem vacate_power (b slot t : Nat) (v : VClass) (s : State) : (vacate b slot t v s).power = s.power := by
  unfold vacate
  repeat' first
    | with_reducible rfl
    | (simp only [State.power_foldl, implies_true, State.power_mk, State.power_fold, apply_ite State.power, apply_ite Prod.snd, ite_self, closeSlot_power, leaveSlot_power]; done)
    | split
    | dsimp only

theorem placeSlot_power (b : Nat) (hash : Word64) (key : Ckey) (t : Nat) (v : VClass) (s : State) : (placeSlot b hash key t v s).2.power = s.power := by
  unfold placeSlot
  repeat' first
    | with_reducible rfl
    | (simp only [State.power_mk, State.power_fold, apply_ite State.power, ite_self, vacate_power]; done)
    | split
    | dsimp only

theorem placeSlot_power' {b : Nat} {hash : Word64} {key : Ckey} {t : Nat} {v : VClass} {s : State} {x' : _} {r' : State} (h' : placeSlot b hash key t v s = (x', r')) : r'.power = s.power := by
  have k' := placeSlot_power b hash key t v s
  rw [h'] at k'
  exact k'

theorem reuseSlot_power (b k : Nat) (w : Way) (t : Nat) (v : VClass) (s : State) : (reuseSlot b k w t v s).2.power = s.power := by
  unfold reuseSlot
  repeat' first
    | with_reducible rfl
    | (simp only [State.power_foldl, implies_true, State.power_mk, State.power_fold, apply_ite State.power, apply_ite Prod.snd, ite_self, leaveSlot_power, placeSlot_power]; done)
    | split
    | dsimp only

theorem reuseSlot_power' {b k : Nat} {w : Way} {t : Nat} {v : VClass} {s : State} {x' : _} {r' : State} (h' : reuseSlot b k w t v s = (x', r')) : r'.power = s.power := by
  have k' := reuseSlot_power b k w t v s
  rw [h'] at k'
  exact k'

theorem leaveTill_power (b k t : Nat) (s : State) : (leaveTill b k t s).power = s.power := by
  unfold leaveTill
  repeat' first
    | with_reducible rfl
    | (simp only [State.power_foldl, implies_true, State.power_mk, State.power_fold, apply_ite State.power, apply_ite Prod.snd, ite_self, dropWay_power, closeWay_power]; done)
    | split
    | dsimp only

theorem newClaim_power (b : Nat) (s : State) : (newClaim b s).2.power = s.power := by
  unfold newClaim
  repeat' first
    | with_reducible rfl
    | (simp only [State.power_mk, State.power_fold, apply_ite State.power, ite_self, State.modLedger_power, bump_power, cause_power, writeBack_power]; done)
    | split
    | dsimp only

theorem newClaim_power' {b : Nat} {s : State} {x' : _} {r' : State} (h' : newClaim b s = (x', r')) : r'.power = s.power := by
  have k' := newClaim_power b s
  rw [h'] at k'
  exact k'

theorem refillTokens_power (b : Nat) (s : State) : (refillTokens b s).power = s.power := by
  unfold refillTokens
  simp only [State.modLedger_power]

theorem takeToken_power (b : Nat) (s : State) : (takeToken b s).2.power = s.power := by
  unfold takeToken
  repeat' first
    | with_reducible rfl
    | (simp only [State.power_mk, State.power_fold, apply_ite State.power, ite_self, State.modLedger_power, refillTokens_power]; done)
    | split
    | dsimp only

theorem takeToken_power' {b : Nat} {s : State} {x' : _} {r' : State} (h' : takeToken b s = (x', r')) : r'.power = s.power := by
  have k' := takeToken_power b s
  rw [h'] at k'
  exact k'

theorem noteSetup_power (b : Nat) (s : State) : (noteSetup b s).power = s.power := by
  unfold noteSetup
  simp only [bump64_power, perf_power]

theorem noteStateLost_power (b : Nat) (hash : Word64) (slot : Nat) (s : State) : (noteStateLost b hash slot s).power = s.power := by
  unfold noteStateLost
  simp only [bump_power, cause_power, emit_power]

theorem mirrorSetup_power (b k : Nat) (s : State) : (mirrorSetup b k s).power = s.power := by
  unfold mirrorSetup
  repeat' first
    | with_reducible rfl
    | (simp only [State.power_mk, State.power_fold, apply_ite State.power, ite_self, mirrorEvent_power, modWay_power]; done)
    | split
    | dsimp only

/-! ### Errors -/

theorem cofferClear_power (s : State) : (cofferClear s).power = s.power := by
  rfl

/-! ### Ledger -/

theorem offerStateless_power (b : Nat) (d : Desc) (a : Word64) (s : State) : (offerStateless b d a s).power = s.power := by
  unfold offerStateless
  simp only [State.power_mk, State.power_fold, apply_ite State.power, ite_self, State.modLedger_power, addStateless_power, noteStall_power]

theorem statelessAction_power (b : Nat) (d : Desc) (a : Word64) (s : State) : (statelessAction b d a s).power = s.power := by
  unfold statelessAction
  simp only [State.power_mk, State.power_fold, apply_ite State.power, ite_self, dropPass_power, policeAction_power, applyAction_power, offerStateless_power]

theorem defaultAct_power (b act ring source code : Nat) (d : Desc) (s : State) : (defaultAct b act ring source code d s).power = s.power := by
  unfold defaultAct
  split <;> simp only [State.power_mk, State.power_fold, sieveLookup_power, dropPass_power, puntPass_power, statelessAction_power]

theorem setupAct_power (b : Nat) (d : Desc) (s : State) : (setupAct b d s).power = s.power := by
  unfold setupAct
  simp only [defaultAct_power]

theorem toItem_power (b k : Nat) (d : Desc) (a : Word64) (setup reclass : Bool) (s : State) (s0 : State) (h0 : s0.power = s.power) : ((toItem b k d a setup reclass s).state s0).power = s.power := by
  unfold toItem
  repeat' first
    | with_reducible rfl
    | exact h0
    | (simp only [implies_true, State.power_foldl2, State.power_foldl3, Decision.state_ite, Decision.state_done, Decision.state_full, Decision.state_noroom, ScanIssue.state_ite, ScanIssue.state_done, ScanIssue.state_wait, State.power_mk, State.power_fold, State.power_foldl, apply_ite State.power, apply_ite Prod.snd, apply_ite EntryStep.state, EntryStep.state_served, EntryStep.state_searched, EntryStep.state_refused, EntryStep.state_wait, EntryStep.state_hold, ite_self, h0, addItem_power, visit_power]; done)
    | split
    | dsimp only

theorem toItem_power' {b k : Nat} {d : Desc} {a : Word64} {setup reclass : Bool} {s : State} {r' : State} (h' : toItem b k d a setup reclass s = .done r') : r'.power = s.power := by
  have k' := toItem_power b k d a setup reclass s s rfl
  rw [h'] at k'
  exact k'

theorem toItem_powerN {b k : Nat} {d : Desc} {a : Word64} {setup reclass : Bool} {s : State} {r' : State} (h' : toItem b k d a setup reclass s = .noroom r') : r'.power = s.power := by
  have k' := toItem_power b k d a setup reclass s s rfl
  rw [h'] at k'
  exact k'

theorem updateUnit_power (b k : Nat) (d : Desc) (s : State) : (updateUnit b k d s).power = s.power := by
  unfold updateUnit
  simp only [bump64_power, perf_power, applyAction_power, visit_power]

theorem noteRefusedSetup_power (b : Nat) (s : State) : (noteRefusedSetup b s).power = s.power := by
  unfold noteRefusedSetup
  simp only [bump_power, cause_power]

theorem setupPass_power (b k : Nat) (d : Desc) (a : Word64) (s : State) (s0 : State) (h0 : s0.power = s.power) :
    ((setupPass b k d a s).state s0).power = s.power := by
  unfold setupPass
  split
  · simp only [Decision.state_done, applyAction_power, mirrorSetup_power, visit_power]
  · rw [toItem_power _ _ _ _ _ _ _ _ (h0.trans (modWay_power ..).symm), modWay_power]

theorem setupPass_power' {b k : Nat} {d : Desc} {a : Word64} {s : State} {r' : State} (h' : setupPass b k d a s = .done r') : r'.power = s.power := by
  have k' := setupPass_power b k d a s s rfl
  rw [h'] at k'
  exact k'

theorem setupPass_powerN {b k : Nat} {d : Desc} {a : Word64} {s : State} {r' : State} (h' : setupPass b k d a s = .noroom r') : r'.power = s.power := by
  have k' := setupPass_power b k d a s s rfl
  rw [h'] at k'
  exact k'

theorem claimFor_power (b : Nat) (w : Way) (s : State) : (claimFor b w s).2.power = s.power := by
  unfold claimFor
  split <;> simp only [State.power_mk, State.power_fold, newClaim_power]

theorem claimFor_power' {b : Nat} {w : Way} {s : State} {x' : _} {r' : State} (h' : claimFor b w s = (x', r')) : r'.power = s.power := by
  have k' := claimFor_power b w s
  rw [h'] at k'
  exact k'

theorem renewWay_power (b k : Nat) (w : Way) (rc : Rec) (t : Nat) (v : VClass) (s : State) : (renewWay b k w rc t v s).power = s.power := by
  unfold renewWay
  repeat' first
    | with_reducible rfl
    | (simp only [implies_true, State.power_foldl2, State.power_foldl3, Decision.state_ite, Decision.state_done, Decision.state_full, Decision.state_noroom, ScanIssue.state_ite, ScanIssue.state_done, ScanIssue.state_wait, State.power_mk, State.power_fold, State.power_foldl, apply_ite State.power, apply_ite Prod.snd, apply_ite EntryStep.state, EntryStep.state_served, EntryStep.state_searched, EntryStep.state_refused, EntryStep.state_wait, EntryStep.state_hold, ite_self, occStep_power, putWay_power, reuseSlot_power, claimFor_power]; done)
    | split
    | dsimp only
    | ((try have h0 := reuseSlot_power' ‹_›; try have h1 := claimFor_power' ‹_›); simp only [implies_true, State.power_foldl2, State.power_foldl3, Decision.state_ite, Decision.state_done, Decision.state_full, Decision.state_noroom, ScanIssue.state_ite, ScanIssue.state_done, ScanIssue.state_wait, State.power_mk, State.power_fold, State.power_foldl, apply_ite State.power, apply_ite Prod.snd, apply_ite EntryStep.state, EntryStep.state_served, EntryStep.state_searched, EntryStep.state_refused, EntryStep.state_wait, EntryStep.state_hold, ite_self, occStep_power, putWay_power, reuseSlot_power, claimFor_power, *]; done)

theorem setupInPlace_power (b k : Nat) (d : Desc) (s : State) (s0 : State) (h0 : s0.power = s.power) :
    ((setupInPlace b k d s).state s0).power = s.power := by
  unfold setupInPlace
  dsimp only
  split
  · simp only [Decision.state_done, statelessAction_power, sieveLookup_power]
  · split
    · simp only [Decision.state_done, setupAct_power, noteRefusedSetup_power, takeToken_power, sieveLookup_power]
    · split
      · simp only [Decision.state_done, takeToken_power, sieveLookup_power]
      · rw [setupPass_power]
        · rw [noteSetup_power, renewWay_power, takeToken_power, sieveLookup_power]
        · rw [noteSetup_power, renewWay_power, takeToken_power, sieveLookup_power, h0]

theorem setupInPlace_power' {b k : Nat} {d : Desc} {s : State} {r' : State} (h' : setupInPlace b k d s = .done r') : r'.power = s.power := by
  have k' := setupInPlace_power b k d s s rfl
  rw [h'] at k'
  exact k'

theorem setupInPlace_powerN {b k : Nat} {d : Desc} {s : State} {r' : State} (h' : setupInPlace b k d s = .noroom r') : r'.power = s.power := by
  have k' := setupInPlace_power b k d s s rfl
  rw [h'] at k'
  exact k'

theorem reclassify_power (b k : Nat) (d : Desc) (fast : Bool) (s : State) (s0 : State) (h0 : s0.power = s.power) :
    ((reclassify b k d fast s).state s0).power = s.power := by
  unfold reclassify
  dsimp only
  split
  · simp only [Decision.state_done, statelessAction_power, closeWay_power, perf_power, bump_power, sieveLookup_power]
  · split
    · simp only [Decision.state_done, updateUnit_power, modWay_power, perf_power, bump_power, sieveLookup_power]
    · rw [toItem_power]
      · simp only [modWay_power, perf_power, bump_power, sieveLookup_power]
      · simp only [modWay_power, perf_power, bump_power, sieveLookup_power, h0]

theorem reclassify_power' {b k : Nat} {d : Desc} {fast : Bool} {s : State} {r' : State} (h' : reclassify b k d fast s = .done r') : r'.power = s.power := by
  have k' := reclassify_power b k d fast s s rfl
  rw [h'] at k'
  exact k'

theorem reclassify_powerN {b k : Nat} {d : Desc} {fast : Bool} {s : State} {r' : State} (h' : reclassify b k d fast s = .noroom r') : r'.power = s.power := by
  have k' := reclassify_power b k d fast s s rfl
  rw [h'] at k'
  exact k'

theorem decideFrom2_power (b k : Nat) (d : Desc) (s : State) (s0 : State) (h0 : s0.power = s.power) :
    ((decideFrom2 b k d s).state s0).power = s.power := by
  unfold decideFrom2
  split
  · rfl
  · rename_i w _
    dsimp only
    have hu : (noteState b d.hash w.rc s).power = s.power := noteState_power ..
    generalize noteState b d.hash w.rc s = u at hu ⊢
    have hu0 := h0.trans hu.symm
    rw [← hu]
    split
    · rw [Decision.state_noroom, leaveTill_power]
    · split
      · exact setupInPlace_power _ _ _ _ _ hu0
      · split
        · rw [setupInPlace_power _ _ _ _ _ (hu0.trans (closeWay_power ..).symm), closeWay_power]
        · split
          · exact reclassify_power _ _ _ _ _ _ hu0
          · split
            · exact updateUnit_power ..
            · exact toItem_power _ _ _ _ _ _ _ _ hu0

theorem decideFrom2_power' {b k : Nat} {d : Desc} {s : State} {r' : State} (h' : decideFrom2 b k d s = .done r') : r'.power = s.power := by
  have k' := decideFrom2_power b k d s s rfl
  rw [h'] at k'
  exact k'

theorem decideFrom2_powerN {b k : Nat} {d : Desc} {s : State} {r' : State} (h' : decideFrom2 b k d s = .noroom r') : r'.power = s.power := by
  have k' := decideFrom2_power b k d s s rfl
  rw [h'] at k'
  exact k'

theorem joinChain_power (b k : Nat) (w : Way) (d : Desc) (s : State) : (joinChain b k w d s).power = s.power := by
  unfold joinChain
  simp only [State.modDisp_power, notePeak_power, noteWaiting_power, setWay_power]

theorem decide_power (b k : Nat) (d : Desc) (s : State) (s0 : State) (h0 : s0.power = s.power) :
    ((decide b k d s).state s0).power = s.power := by
  unfold decide
  split
  · rfl
  · split
    · split
      · simp only [Decision.state_done, joinChain_power]
      · exact h0
    · exact decideFrom2_power _ _ _ _ _ h0

theorem decide_power' {b k : Nat} {d : Desc} {s : State} {r' : State} (h' : decide b k d s = .done r') : r'.power = s.power := by
  have k' := decide_power b k d s s rfl
  rw [h'] at k'
  exact k'

theorem decide_powerN {b k : Nat} {d : Desc} {s : State} {r' : State} (h' : decide b k d s = .noroom r') : r'.power = s.power := by
  have k' := decide_power b k d s s rfl
  rw [h'] at k'
  exact k'

theorem answerOpen_power (t : Nat) (k : Option Nat) (s : State) : (answerOpen t k s).power = s.power := by
  unfold answerOpen
  simp only [State.modTeller_power]

theorem openOnWay_power (b k t : Nat) (s : State) : (openOnWay b k t s).power = s.power := by
  unfold openOnWay
  repeat' first
    | with_reducible rfl
    | (simp only [State.power_mk, State.power_fold, apply_ite State.power, ite_self, setWay_power, closeWay_power, noteState_power, lockWay_power, answerOpen_power]; done)
    | split
    | dsimp only

theorem hostDone_power (b : Nat) (a : HostAnswer) (s : State) : (hostDone b a s).power = s.power := by
  unfold hostDone
  simp only [State.modLedger_power]

theorem hostWay_power (b k result where_ : Nat) (data : Bool) (s : State) : (hostWay b k result where_ data s).power = s.power := by
  unfold hostWay
  split <;> simp only [State.power_mk, State.power_fold, hostDone_power]

theorem hostWrite_power (b k where_ : Nat) (s : State) : (hostWrite b k where_ s).power = s.power := by
  unfold hostWrite
  repeat' first
    | with_reducible rfl
    | (simp only [State.power_mk, State.power_fold, apply_ite State.power, ite_self, State.modLedger_power, setWay_power, pinWay_power, closeWay_power, hostWay_power]; done)
    | split
    | dsimp only

theorem hostOnTill_power (b k where_ : Nat) (s : State) : (hostOnTill b k where_ s).power = s.power := by
  unfold hostOnTill
  repeat' first
    | with_reducible rfl
    | (simp only [State.power_foldl, implies_true, State.power_mk, State.power_fold, apply_ite State.power, apply_ite Prod.snd, ite_self, writeBack_power, closeWay_power, noteState_power, renewWay_power, hostDone_power, hostWay_power, hostWrite_power]; done)
    | split
    | dsimp only

theorem mirrorIgnored_power (s : State) : (mirrorIgnored s).power = s.power := by
  unfold mirrorIgnored
  simp only [bump_power]

theorem mirrorOnTill_power (b k type side : Nat) (rc : Rec) (s : State) : (mirrorOnTill b k type side rc s).power = s.power := by
  unfold mirrorOnTill
  repeat' first
    | with_reducible rfl
    | (simp only [State.power_foldl, implies_true, State.power_mk, State.power_fold, apply_ite State.power, apply_ite Prod.snd, ite_self, bump_power, setWay_power, pinWay_power, closeWay_power, noteState_power, renewWay_power, mirrorIgnored_power]; done)
    | split
    | dsimp only

theorem dropEntry_power (b id : Nat) (s : State) : (dropEntry b id s).power = s.power := by
  unfold dropEntry
  simp only [State.modLedger_power]

theorem putEntry_power (b : Nat) (e : MissEntry) (s : State) : (putEntry b e s).power = s.power := by
  unfold putEntry
  simp only [State.modLedger_power]

theorem noteQueue_power (b : Nat) (s : State) : (noteQueue b s).power = s.power := by
  unfold noteQueue
  simp only [peak_power]

theorem startReloc_power (b : Nat) (e : MissEntry) (s : State) : (startReloc b e s).2.power = s.power := by
  unfold startReloc
  repeat' first
    | with_reducible rfl
    | (simp only [State.power_foldl, implies_true, State.power_mk, State.power_fold, apply_ite State.power, apply_ite Prod.snd, ite_self, bump_power, offerMaint_power]; done)
    | split
    | dsimp only

theorem startReloc_power' {b : Nat} {e : MissEntry} {s : State} {x' : _} {r' : State} (h' : startReloc b e s = (x', r')) : r'.power = s.power := by
  have k' := startReloc_power b e s
  rw [h'] at k'
  exact k'

theorem noteNoslot_power (b : Nat) (s : State) : (noteNoslot b s).power = s.power := by
  unfold noteNoslot
  simp only [bump_power, cause_power]

theorem holdEntry_power (b : Nat) (e : MissEntry) (d : Desc) (searched : Bool) (s : State) : (holdEntry b e d searched s).state.power = s.power := by
  unfold holdEntry
  repeat' first
    | with_reducible rfl
    | (simp only [implies_true, State.power_foldl2, State.power_foldl3, Decision.state_ite, Decision.state_done, Decision.state_full, Decision.state_noroom, ScanIssue.state_ite, ScanIssue.state_done, ScanIssue.state_wait, State.power_mk, State.power_fold, State.power_foldl, apply_ite State.power, apply_ite Prod.snd, apply_ite EntryStep.state, EntryStep.state_served, EntryStep.state_searched, EntryStep.state_refused, EntryStep.state_wait, EntryStep.state_hold, ite_self, noteStall_power]; done)
    | split
    | dsimp only

theorem holdEntry_power' {b : Nat} {e : MissEntry} {d : Desc} {searched : Bool} {s : State} {r' : EntryStep} (h' : holdEntry b e d searched s = r') : r'.state.power = s.power := by
  rw [← h']; exact holdEntry_power b e d searched s

theorem setupTurn_power (b k : Nat) (e : MissEntry) (d : Desc) (a : Word64) (s : State) : (setupTurn b k e d a s).state.power = s.power := by
  unfold setupTurn
  repeat' first
    | with_reducible rfl
    | (simp only [implies_true, State.power_foldl2, State.power_foldl3, Decision.state_ite, Decision.state_done, Decision.state_full, Decision.state_noroom, ScanIssue.state_ite, ScanIssue.state_done, ScanIssue.state_wait, State.power_mk, State.power_fold, State.power_foldl, apply_ite State.power, apply_ite Prod.snd, apply_ite EntryStep.state, EntryStep.state_served, EntryStep.state_searched, EntryStep.state_refused, EntryStep.state_wait, EntryStep.state_hold, ite_self, setupPass_power, holdEntry_power]; done)
    | split
    | dsimp only
    | ((try have h0 := setupPass_power' ‹_›; try have g0 := setupPass_powerN ‹_›; try have h1 := holdEntry_power' ‹_›); simp only [implies_true, State.power_foldl2, State.power_foldl3, Decision.state_ite, Decision.state_done, Decision.state_full, Decision.state_noroom, ScanIssue.state_ite, ScanIssue.state_done, ScanIssue.state_wait, State.power_mk, State.power_fold, State.power_foldl, apply_ite State.power, apply_ite Prod.snd, apply_ite EntryStep.state, EntryStep.state_served, EntryStep.state_searched, EntryStep.state_refused, EntryStep.state_wait, EntryStep.state_hold, ite_self, setupPass_power, holdEntry_power, *]; done)

theorem setupTurn_power' {b k : Nat} {e : MissEntry} {d : Desc} {a : Word64} {s : State} {r' : EntryStep} (h' : setupTurn b k e d a s = r') : r'.state.power = s.power := by
  rw [← h']; exact setupTurn_power b k e d a s

theorem finishSetup_power (b : Nat) (e : MissEntry) (d : Desc) (u : Setup) (slot n : Nat) (again : Bool) (s0 : State) : (finishSetup b e d u slot n again s0).state.power = s0.power := by
  unfold finishSetup
  repeat' first
    | with_reducible rfl
    | (simp only [implies_true, State.power_foldl2, State.power_foldl3, Decision.state_ite, Decision.state_done, Decision.state_full, Decision.state_noroom, ScanIssue.state_ite, ScanIssue.state_done, ScanIssue.state_wait, State.power_mk, State.power_fold, State.power_foldl, apply_ite State.power, apply_ite Prod.snd, apply_ite EntryStep.state, EntryStep.state_served, EntryStep.state_searched, EntryStep.state_refused, EntryStep.state_wait, EntryStep.state_hold, ite_self, noteNoway_power, noteSetup_power, noteStateLost_power, setupTurn_power]; done)
    | split
    | dsimp only
    | ((try have h0 := install_power' ‹_›; try have h1 := setupTurn_power' ‹_›); simp only [implies_true, State.power_foldl2, State.power_foldl3, Decision.state_ite, Decision.state_done, Decision.state_full, Decision.state_noroom, ScanIssue.state_ite, ScanIssue.state_done, ScanIssue.state_wait, State.power_mk, State.power_fold, State.power_foldl, apply_ite State.power, apply_ite Prod.snd, apply_ite EntryStep.state, EntryStep.state_served, EntryStep.state_searched, EntryStep.state_refused, EntryStep.state_wait, EntryStep.state_hold, ite_self, noteNoway_power, noteSetup_power, noteStateLost_power, setupTurn_power, *]; done)

theorem finishSetup_power' {b : Nat} {e : MissEntry} {d : Desc} {u : Setup} {slot n : Nat} {again : Bool} {s0 : State} {r' : EntryStep} (h' : finishSetup b e d u slot n again s0 = r') : r'.state.power = s0.power := by
  rw [← h']; exact finishSetup_power b e d u slot n again s0

theorem setupLook_power (b : Nat) (e : MissEntry) (d : Desc) (s : State) : (setupLook b e d s).2.2.power = s.power := by
  unfold setupLook
  repeat' first
    | with_reducible rfl
    | (simp only [State.power_foldl, implies_true, State.power_mk, State.power_fold, apply_ite State.power, apply_ite Prod.snd, ite_self, sieveLookup_power, takeToken_power]; done)
    | split
    | dsimp only

theorem setupLook_power' {b : Nat} {e : MissEntry} {d : Desc} {s : State} {x' : _} {y' : _} {r' : State} (h' : setupLook b e d s = (x', y', r')) : r'.power = s.power := by
  have k' := setupLook_power b e d s
  rw [h'] at k'
  exact k'

theorem setupEntry_power (b : Nat) (e : MissEntry) (d : Desc) (s : State) : (setupEntry b e d s).state.power = s.power := by
  unfold setupEntry
  have h1 := setupLook_power b e d s
  generalize setupLook b e d s = p at h1 ⊢
  obtain ⟨u, ok, t⟩ := p
  dsimp only at h1 ⊢
  rw [← h1]
  split
  · simp only [EntryStep.state_searched, statelessAction_power]
  · split
    · simp only [EntryStep.state_refused, noteRefusedSetup_power]
    · have h2 := placeSlot_power b e.hash e.key d.arr .fill t
      generalize placeSlot b e.hash e.key d.arr .fill t = q at h2 ⊢
      obtain ⟨c, v⟩ := q
      dsimp only at h2 ⊢
      cases c
      · dsimp only
        split
        · rw [EntryStep.state_wait, startReloc_power, h2]
        · rw [EntryStep.state_refused, noteNoslot_power, startReloc_power, h2]
      · dsimp only
        rw [finishSetup_power, occStep_power _ _ _ (fun t => putEntry_power ..), newClaim_power, h2]

theorem setupEntry_power' {b : Nat} {e : MissEntry} {d : Desc} {s0 : State} {r' : EntryStep} (h' : setupEntry b e d s0 = r') : r'.state.power = s0.power := by
  rw [← h']; exact setupEntry_power b e d s0

theorem hostAnswered_power (b : Nat) (a : HostAnswer) (s : State) : (hostAnswered b a s).state.power = s.power := by
  unfold hostAnswered
  repeat' first
    | with_reducible rfl
    | (simp only [implies_true, State.power_foldl2, State.power_foldl3, Decision.state_ite, Decision.state_done, Decision.state_full, Decision.state_noroom, ScanIssue.state_ite, ScanIssue.state_done, ScanIssue.state_wait, State.power_mk, State.power_fold, State.power_foldl, apply_ite State.power, apply_ite Prod.snd, apply_ite EntryStep.state, EntryStep.state_served, EntryStep.state_searched, EntryStep.state_refused, EntryStep.state_wait, EntryStep.state_hold, ite_self, hostDone_power]; done)
    | split
    | dsimp only

theorem hostAnswered_power' {b : Nat} {a : HostAnswer} {s : State} {r' : EntryStep} (h' : hostAnswered b a s = r') : r'.state.power = s.power := by
  rw [← h']; exact hostAnswered_power b a s

theorem hostCreate_power (b : Nat) (e : MissEntry) (s : State) : (hostCreate b e s).state.power = s.power := by
  unfold hostCreate
  split
  · exact hostAnswered_power ..
  · have h2 := placeSlot_power b e.hash e.key (ledgerNow s) .fill s
    generalize placeSlot b e.hash e.key (ledgerNow s) .fill s = q at h2 ⊢
    obtain ⟨c, v⟩ := q
    dsimp only at h2 ⊢
    rw [← h2]
    cases c
    · dsimp only
      split
      · rw [EntryStep.state_wait, startReloc_power]
      · rw [hostAnswered_power, noteNoslot_power, startReloc_power]
    · dsimp only
      split
      · rename_i hi
        have h := install_power' hi
        rw [EntryStep.state_hold, hostWay_power, h, occStep_power _ _ _ (fun t => putEntry_power ..), newClaim_power]
      · rw [EntryStep.state_wait, noteNoway_power, occStep_power _ _ _ (fun t => putEntry_power ..), newClaim_power]

theorem hostCreate_power' {b : Nat} {e : MissEntry} {s : State} {r' : EntryStep} (h' : hostCreate b e s = r') : r'.state.power = s.power := by
  rw [← h']; exact hostCreate_power b e s

theorem hostOnRecord_power (b : Nat) (e : MissEntry) (slot : Nat) (r : Rec) (s : State) : (hostOnRecord b e slot r s).state.power = s.power := by
  unfold hostOnRecord
  repeat' first
    | with_reducible rfl
    | (simp only [implies_true, State.power_foldl2, State.power_foldl3, Decision.state_ite, Decision.state_done, Decision.state_full, Decision.state_noroom, ScanIssue.state_ite, ScanIssue.state_done, ScanIssue.state_wait, State.power_mk, State.power_fold, State.power_foldl, apply_ite State.power, apply_ite Prod.snd, apply_ite EntryStep.state, EntryStep.state_served, EntryStep.state_searched, EntryStep.state_refused, EntryStep.state_wait, EntryStep.state_hold, ite_self, State.modLedger_power, noteNoway_power, hostOnTill_power, hostAnswered_power]; done)
    | split
    | dsimp only
    | ((try have h0 := install_power' ‹_›; try have h1 := hostAnswered_power' ‹_›); simp only [implies_true, State.power_foldl2, State.power_foldl3, Decision.state_ite, Decision.state_done, Decision.state_full, Decision.state_noroom, ScanIssue.state_ite, ScanIssue.state_done, ScanIssue.state_wait, State.power_mk, State.power_fold, State.power_foldl, apply_ite State.power, apply_ite Prod.snd, apply_ite EntryStep.state, EntryStep.state_served, EntryStep.state_searched, EntryStep.state_refused, EntryStep.state_wait, EntryStep.state_hold, ite_self, State.modLedger_power, noteNoway_power, hostOnTill_power, hostAnswered_power, *]; done)

theorem hostOnRecord_power' {b : Nat} {e : MissEntry} {slot : Nat} {r : Rec} {s : State} {r' : EntryStep} (h' : hostOnRecord b e slot r s = r') : r'.state.power = s.power := by
  rw [← h']; exact hostOnRecord_power b e slot r s

theorem hostOnVault_power (b : Nat) (e : MissEntry) (s : State) : (hostOnVault b e s).state.power = s.power := by
  unfold hostOnVault
  repeat' first
    | with_reducible rfl
    | (simp only [implies_true, State.power_foldl2, State.power_foldl3, Decision.state_ite, Decision.state_done, Decision.state_full, Decision.state_noroom, ScanIssue.state_ite, ScanIssue.state_done, ScanIssue.state_wait, State.power_mk, State.power_fold, State.power_foldl, apply_ite State.power, apply_ite Prod.snd, apply_ite EntryStep.state, EntryStep.state_served, EntryStep.state_searched, EntryStep.state_refused, EntryStep.state_wait, EntryStep.state_hold, ite_self, searchBoth_power, hostAnswered_power, hostCreate_power, hostOnRecord_power]; done)
    | split
    | dsimp only
    | ((try have h0 := searchBoth_power' ‹_›; try have h1 := hostAnswered_power' ‹_›; try have h2 := hostCreate_power' ‹_›; try have h3 := hostOnRecord_power' ‹_›); simp only [implies_true, State.power_foldl2, State.power_foldl3, Decision.state_ite, Decision.state_done, Decision.state_full, Decision.state_noroom, ScanIssue.state_ite, ScanIssue.state_done, ScanIssue.state_wait, State.power_mk, State.power_fold, State.power_foldl, apply_ite State.power, apply_ite Prod.snd, apply_ite EntryStep.state, EntryStep.state_served, EntryStep.state_searched, EntryStep.state_refused, EntryStep.state_wait, EntryStep.state_hold, ite_self, searchBoth_power, hostAnswered_power, hostCreate_power, hostOnRecord_power, *]; done)

theorem hostOnVault_power' {b : Nat} {e : MissEntry} {s : State} {r' : EntryStep} (h' : hostOnVault b e s = r') : r'.state.power = s.power := by
  rw [← h']; exact hostOnVault_power b e s

theorem mirrorOnVault_power (b : Nat) (e : MissEntry) (type side : Nat) (rc : Rec) (s : State) :
    (mirrorOnVault b e type side rc s).state.power = s.power := by
  unfold mirrorOnVault
  generalize hx : searchBoth b .mirror e.hash e.key (ledgerNow s) s = x
  obtain ⟨found, poisoned, t⟩ := x
  have ht := searchBoth_power' hx
  dsimp only
  split
  · split
    · rename_i hi
      have h1 := install_power' hi
      simp only [EntryStep.state_served, EntryStep.state_searched, EntryStep.state_refused, EntryStep.state_wait, EntryStep.state_hold, mirrorOnTill_power, h1, ht]
    · simp only [EntryStep.state_served, EntryStep.state_searched, EntryStep.state_refused, EntryStep.state_wait, EntryStep.state_hold, noteNoway_power, ht]
  · split
    · exact ht
    · split
      · rename_i hp
        have h1 := placeSlot_power' hp
        split
        · rename_i hi
          have h2 := install_power' hi
          simp only [EntryStep.state_served, EntryStep.state_searched, EntryStep.state_refused, EntryStep.state_wait, EntryStep.state_hold, bump_power, h2, occStep_power, putEntry_power, implies_true, newClaim_power, h1, ht]
        · simp only [EntryStep.state_served, EntryStep.state_searched, EntryStep.state_refused, EntryStep.state_wait, EntryStep.state_hold, noteNoway_power, occStep_power, putEntry_power, implies_true, newClaim_power, h1, ht]
      · rename_i hp
        have h1 := placeSlot_power' hp
        split <;> simp only [EntryStep.state_served, EntryStep.state_searched, EntryStep.state_refused, EntryStep.state_wait, EntryStep.state_hold, bump_power, noteNoslot_power, startReloc_power, h1, ht]

theorem mirrorOnVault_power' {b : Nat} {e : MissEntry} {type side : Nat} {rc : Rec} {s : State} {r' : EntryStep} (h' : mirrorOnVault b e type side rc s = r') : r'.state.power = s.power := by
  rw [← h']; exact mirrorOnVault_power b e type side rc s

theorem searchAnew_power (e : MissEntry) (s : State) : (searchAnew e s).state.power = s.power := by
  rfl

theorem searchAnew_power' {e : MissEntry} {s : State} {r' : EntryStep} (h' : searchAnew e s = r') : r'.state.power = s.power := by
  rw [← h']; exact searchAnew_power e s

theorem packetOnTill_power (b k : Nat) (e : MissEntry) (d : Desc) (searched : Bool) (s : State) :
    (packetOnTill b k e d searched s).state.power = s.power := by
  unfold packetOnTill
  extract_lets first
  clear_value first
  cases first <;> dsimp only
  · split
    · rename_i h
      exact decide_power' h
    · exact holdEntry_power ..
    · rename_i h
      rw [searchAnew_power]
      exact decide_powerN h
  · exact setupTurn_power ..

theorem packetOnTill_power' {b k : Nat} {e : MissEntry} {d : Desc} {searched : Bool} {s : State} {r' : EntryStep} (h' : packetOnTill b k e d searched s = r') : r'.state.power = s.power := by
  rw [← h']; exact packetOnTill_power b k e d searched s

theorem serve_power (b : Nat) (e : MissEntry) (w : Waiter) (searched : Bool) (s : State) :
    (serve b e w searched s).state.power = s.power := by
  unfold serve
  split
  · exact searchAnew_power ..
  · split
    · split
      · rw [searchAnew_power, leaveTill_power]
      · cases w <;> dsimp only
        · exact packetOnTill_power ..
        · rw [EntryStep.state_hold, hostOnTill_power]
        · rw [EntryStep.state_served, openOnWay_power]
        · rw [EntryStep.state_served, mirrorOnTill_power]
    · cases w <;> dsimp only
      · split
        · exact setupEntry_power ..
        · exact searchAnew_power ..
      · split
        · rw [EntryStep.state_wait]
        · split
          · exact hostOnVault_power ..
          · exact searchAnew_power ..
      · split
        · rw [EntryStep.state_searched, answerOpen_power]
        · exact searchAnew_power ..
      · split
        · rw [EntryStep.state_wait]
        · split
          · exact mirrorOnVault_power ..
          · exact searchAnew_power ..

theorem serve_power' {b : Nat} {e : MissEntry} {w : Waiter} {searched : Bool} {s : State} {r' : EntryStep} (h' : serve b e w searched s = r') : r'.state.power = s.power := by
  rw [← h']; exact serve_power b e w searched s

theorem runEntry_power (n b : Nat) (e : MissEntry) (searched : Bool) (s : State) : (runEntry n b e searched s).power = s.power := by
  induction n generalizing e searched s with
  | zero => exact putEntry_power ..
  | succ n ih =>
    rw [runEntry]
    split
    · exact dropEntry_power ..
    · split <;> rename_i h <;> have hk := serve_power' h <;> dsimp only [EntryStep.state] at hk <;>
        simp only [ih, putEntry_power, State.power_foldl, setupAct_power, implies_true, hk]

theorem goOn_power (b : Nat) (e : MissEntry) (searched : Bool) (s : State) : (goOn b e searched s).power = s.power := by
  unfold goOn
  simp only [runEntry_power]

theorem attach_power' {b : Nat} {hash : Word64} {key : Ckey} {w : Waiter} {s s' : State} (h : attach b hash key w s = some s') :
    s'.power = s.power := by
  unfold attach at h
  dsimp only at h
  split at h
  · cases h
  · split at h
    · cases h; simp only [noteQueue_power, putEntry_power]
    · split at h
      · cases h
      · cases h
        simp only [apply_ite State.power, goOn_power, noteQueue_power, putEntry_power, State.modLedger_power, ite_self]

theorem fillFound_power (b : Nat) (e : MissEntry) (f : Fill) (s : State) : (fillFound b e f s).power = s.power := by
  unfold fillFound
  repeat' first
    | with_reducible rfl
    | (simp only [implies_true, State.power_foldl2, State.power_foldl3, Decision.state_ite, Decision.state_done, Decision.state_full, Decision.state_noroom, ScanIssue.state_ite, ScanIssue.state_done, ScanIssue.state_wait, State.power_mk, State.power_fold, State.power_foldl, apply_ite State.power, apply_ite Prod.snd, apply_ite EntryStep.state, EntryStep.state_served, EntryStep.state_searched, EntryStep.state_refused, EntryStep.state_wait, EntryStep.state_hold, ite_self, noteNoway_power, putEntry_power, goOn_power]; done)
    | split
    | dsimp only
    | ((try have h0 := install_power' ‹_›); simp only [implies_true, State.power_foldl2, State.power_foldl3, Decision.state_ite, Decision.state_done, Decision.state_full, Decision.state_noroom, ScanIssue.state_ite, ScanIssue.state_done, ScanIssue.state_wait, State.power_mk, State.power_fold, State.power_foldl, apply_ite State.power, apply_ite Prod.snd, apply_ite EntryStep.state, EntryStep.state_served, EntryStep.state_searched, EntryStep.state_refused, EntryStep.state_wait, EntryStep.state_hold, ite_self, noteNoway_power, putEntry_power, goOn_power, *]; done)

theorem fillNone_power (b : Nat) (e : MissEntry) (s : State) : (fillNone b e s).power = s.power := by
  unfold fillNone
  simp only [goOn_power]

theorem askPeer_power (who : RecoverFor) (s : State) : (askPeer who s).2.power = s.power := by
  unfold askPeer
  split <;> simp only [State.power_mk, State.power_fold, bump_power]

theorem askPeer_power' {who : RecoverFor} {s : State} {x' : _} {r' : State} (h' : askPeer who s = (x', r')) : r'.power = s.power := by
  have k' := askPeer_power who s
  rw [h'] at k'
  exact k'

theorem peerAnswer_power (b id : Nat) (r : Option Rec) (s : State) : (peerAnswer b id r s).power = s.power := by
  unfold peerAnswer
  repeat' first
    | with_reducible rfl
    | (simp only [State.power_mk, State.power_fold, apply_ite State.power, ite_self, bump_power, writeRecord_power, fillFound_power, fillNone_power]; done)
    | split
    | dsimp only

theorem readSlot_power (b : Nat) (s : State) : (readSlot b s).power = s.power := by
  unfold readSlot
  repeat' first
    | with_reducible rfl
    | (simp only [State.power_mk, State.power_fold, apply_ite State.power, ite_self, readRecord_power, hostDone_power]; done)
    | split
    | dsimp only

theorem hostBegin_power (b : Nat) (s : State) : (hostBegin b s).power = s.power := by
  unfold hostBegin
  dsimp only
  split
  · exact hostDone_power ..
  · split
    · exact readSlot_power ..
    · split
      · exact hostDone_power ..
      · split
        · exact State.modLedger_power ..
        · have hm : (s.modLedger b fun l => { l with hreq := { l.hreq with held := false } }).power = s.power := State.modLedger_power ..
          generalize (s.modLedger b fun l => { l with hreq := { l.hreq with held := false } }) = t at hm ⊢
          rw [← hm]
          generalize probe t b _ _ = p
          cases hp : Option.filter (fun k => !((s.ledgerAt b).hreq.op == 3 && roomless t b k (ledgerNow t))) p with
          | some k => exact hostOnTill_power ..
          | none =>
            refine State.power_getD (fun u h => (attach_power' h).trans ?_) (hostDone_power ..)
            cases p with
            | none => rfl
            | some k => exact leaveTill_power ..

theorem hostRelease_power (b : Nat) (s : State) : (hostRelease b s).power = s.power := by
  unfold hostRelease
  repeat' first
    | with_reducible rfl
    | (simp only [implies_true, State.power_foldl2, State.power_foldl3, Decision.state_ite, Decision.state_done, Decision.state_full, Decision.state_noroom, ScanIssue.state_ite, ScanIssue.state_done, ScanIssue.state_wait, State.power_mk, State.power_fold, State.power_foldl, apply_ite State.power, apply_ite Prod.snd, apply_ite EntryStep.state, EntryStep.state_served, EntryStep.state_searched, EntryStep.state_refused, EntryStep.state_wait, EntryStep.state_hold, ite_self, hostBegin_power]; done)
    | split
    | dsimp only

theorem hostResume_power (b k : Nat) (s : State) : (hostResume b k s).power = s.power := by
  unfold hostResume
  simp only [State.power_mk, State.power_fold, apply_ite State.power, ite_self, hostOnTill_power]

/-! ### Nose -/

theorem putW14_power (b k : Nat) (v : Word64) (s : State) : (putW14 b k v s).power = s.power := by
  unfold putW14
  simp only [modWay_power]

theorem setGap_power (b k : Nat) (s : State) : (setGap b k s).power = s.power := by
  unfold setGap
  split <;> simp only [State.power_mk, State.power_fold, putW14_power]

theorem settleGaps_power (b : Nat) (s : State) : (settleGaps b s).power = s.power := by
  unfold settleGaps
  simp only [State.power_foldl, implies_true, State.power_mk, State.power_fold, apply_ite State.power, ite_self, State.setNose_power, setGap_power]

theorem giveResult_power (q : ScanReq) (w : Word64) (s : State) : (giveResult q w s).power = s.power := by
  unfold giveResult
  simp only [State.modTeller_power]

theorem loseReport_power (b : Nat) (hash w : Word64) (s : State) : (loseReport b hash w s).power = s.power := by
  unfold loseReport
  simp only [bump_power, cause_power, emit_power]

theorem offerReports_power (b n : Nat) (s : State) : (offerReports b n s).power = s.power := by
  induction n generalizing s with
  | zero => rfl
  | succ n ih =>
    rw [offerReports]
    split
    · rfl
    · dsimp only
      split
      · simp only [ih, loseReport_power, State.modNose_power]
      · split
        · simp only [ih, addItem_power, State.modNose_power]
        · exact State.modNose_power ..

theorem report_power (b : Nat) (q : ScanReq) (w : Word64) (s : State) : (report b q w s).power = s.power := by
  unfold report
  simp only [State.power_mk, State.power_fold, apply_ite State.power, ite_self, State.setNose_power, loseReport_power, offerReports_power]

theorem noteBacklog_power (b : Nat) (s : State) : (noteBacklog b s).power = s.power := by
  unfold noteBacklog
  simp only [State.modNose_power]

theorem noseTick_power (b : Nat) (s : State) : (noseTick b s).power = s.power := by
  unfold noseTick
  repeat' first
    | with_reducible rfl
    | (simp only [State.power_foldl, implies_true, State.power_mk, State.power_fold, apply_ite State.power, apply_ite Prod.snd, ite_self, State.modNose_power, noteBacklog_power]; done)
    | split
    | dsimp only

theorem leaveRequest_power (b : Nat) (q : ScanReq) (status : Nat) (a : ScanAcc) (s : State) : (leaveRequest b q status a s).power = s.power := by
  unfold leaveRequest
  repeat' first
    | with_reducible rfl
    | (simp only [State.power_mk, State.power_fold, apply_ite State.power, ite_self, bump_power, bump64_power, perfN_power, perf_power, release_power, modWay_power, hostResume_power, settleGaps_power, giveResult_power, report_power, noteBacklog_power]; done)
    | split
    | dsimp only

theorem endRun_power (b : Nat) (r : NoseRun) (status : Nat) (a : ScanAcc) (done gap : Bool) (s : State) : (endRun b r status a done gap s).power = s.power := by
  unfold endRun
  split <;> simp only [State.power_mk, State.power_fold, State.modNose_power, putW14_power, leaveRequest_power]

theorem endFault_power (b : Nat) (r : NoseRun) (a : ScanAcc) (s : State) : (endFault b r a s).power = s.power := by
  unfold endFault
  simp only [bump_power, cause_power, emit_power, endRun_power]

theorem stopRun_power (b : Nat) (r : NoseRun) (s : State) : (stopRun b r s).power = s.power := by
  unfold stopRun
  simp only [State.power_foldl, implies_true, State.power_mk, State.power_fold, apply_ite State.power, ite_self, bump_power, endRun_power, endFault_power]

theorem noseStop_power (b : Nat) (s : State) : (noseStop b s).power = s.power := by
  unfold noseStop
  dsimp only
  rw [State.power_foldl]
  · rw [State.modNose_power]
    split
    · exact stopRun_power ..
    · rfl
  · intro t r
    split <;> simp only [leaveRequest_power, bump_power, setGap_power]

theorem noseOff_power (b : Nat) (s : State) : (noseOff b s).power = s.power := by
  unfold noseOff
  dsimp only
  rw [State.power_foldl, State.modNose_power]
  intro t q
  split <;> simp only [leaveRequest_power, setGap_power]

theorem noseThrottle_power (b : Nat) (s : State) : (noseThrottle b s).power = s.power := by
  unfold noseThrottle
  repeat' first
    | with_reducible rfl
    | (simp only [State.power_mk, State.power_fold, apply_ite State.power, ite_self, State.setNose_power, cause_power, emit_power]; done)
    | split
    | dsimp only

/-! ### Audit -/

theorem notePoisoned_power (a : Nat) (ft asked : Bool) (s : State) : (notePoisoned a ft asked s).power = s.power := by
  unfold notePoisoned
  simp only [emit_power]

theorem notePeerRepair_power (a outcome : Nat) (s : State) : (notePeerRepair a outcome s).power = s.power := by
  unfold notePeerRepair
  simp only [emit_power]

theorem peerFail_power (slot outcome : Nat) (counted : Bool) (s : State) : (peerFail slot outcome counted s).power = s.power := by
  unfold peerFail
  simp only [State.power_mk, State.power_fold, apply_ite State.power, ite_self, bump_power, cause_power, notePeerRepair_power]

theorem auditSlot_power (slot : Nat) (s : State) : (auditSlot slot s).power = s.power := by
  unfold auditSlot
  repeat' first
    | with_reducible rfl
    | (simp only [State.power_mk, State.power_fold, apply_ite State.power, ite_self, modWay_power, askPeer_power, notePoisoned_power, peerFail_power]; done)
    | split
    | dsimp only

theorem auditReleased_power (s : State) : (auditReleased s).power = s.power := by
  unfold auditReleased
  simp only [State.power_foldl, implies_true, State.power_mk, State.power_fold, apply_ite State.power, ite_self, readRecord_power, auditSlot_power]

theorem auditAnswer_power (slot : Nat) (r : Option Rec) (status : Nat) (s : State) : (auditAnswer slot r status s).power = s.power := by
  unfold auditAnswer
  repeat' first
    | with_reducible rfl
    | (simp only [State.power_mk, State.power_fold, apply_ite State.power, ite_self, bump_power, writeRecord_power, notePeerRepair_power, peerFail_power]; done)
    | split
    | dsimp only

/-! ### Tm -/

theorem popHead_power (n : Nat) (s : State) : (popHead n s).power = s.power := by
  unfold popHead
  simp only [setQueue_power, settleEmpty_power]

theorem holdDiscard_power (n f : Nat) (s : State) : (holdDiscard n f s).power = s.power := by
  induction f generalizing s with
  | zero => rfl
  | succ f ih =>
    rw [holdDiscard]
    repeat' first
      | with_reducible rfl
      | (simp only [ih, discardCopy_power, perf_power, cause_power, popHead_power]; done)
      | split

theorem freezeQueues_power (k : Nat) (s : State) : (freezeQueues k s).power = s.power := by
  unfold freezeQueues
  dsimp only
  rw [State.power_foldl _ fun t n => by split; exact holdDiscard_power ..; rfl]
  split <;> simp only [release_power, countCopy_power, State.power_foldl, State.setClass_power, State.setSched_power, implies_true]

theorem resumeQueues_power (k : Nat) (s : State) : (resumeQueues k s).power = s.power := by
  unfold resumeQueues
  simp only [State.power_foldl, implies_true, State.power_mk, State.power_fold, apply_ite State.power, ite_self, State.setClass_power, State.modSched_power]

/-! ### Ports -/

theorem noteLink_power (p : Nat) (s : State) : (noteLink p s).power = s.power := by
  unfold noteLink
  simp only [emit_power]

theorem setLanes_power (p : Nat) (f : Lane → Lane) (s : State) : (setLanes p f s).power = s.power := by
  rfl

theorem leaveTo_power (p : Nat) (st : LinkState) (s : State) : (leaveTo p st s).power = s.power := by
  unfold leaveTo
  simp only [State.power_mk, State.power_fold, apply_ite State.power, ite_self, State.setPort_power, bump_power, cause_power, freezeQueues_power, noteLink_power, setLanes_power]

theorem portStart_power (p : Nat) (s : State) : (portStart p s).power = s.power := by
  unfold portStart
  simp only [State.power_mk, State.power_fold, apply_ite State.power, ite_self, State.modPort_power, leaveTo_power]

theorem portStop_power (p : Nat) (s : State) : (portStop p s).power = s.power := by
  unfold portStop
  simp only [State.power_mk, State.power_fold, apply_ite State.power, ite_self, leaveTo_power]

theorem octetStop_power (o : Nat) (s : State) : (octetStop o s).power = s.power := by
  unfold octetStop
  simp only [State.power_foldl, implies_true, State.power_mk, State.power_fold, apply_ite State.power, ite_self, portStop_power]

theorem octetStart_power (o : Nat) (s : State) : (octetStart o s).power = s.power := by
  unfold octetStart
  simp only [State.power_foldl, implies_true, State.power_mk, State.power_fold, apply_ite State.power, ite_self, portStart_power]

/-! ### Tether -/

theorem tethBringUp_power (s : State) : (tethBringUp s).power = s.power := by
  unfold tethBringUp
  simp only [State.power_mk, State.power_fold, apply_ite State.power, ite_self, cause_power]

theorem recoverFail_power (outcome : Nat) (r : Recovery) (s : State) : (recoverFail outcome r s).power = s.power := by
  unfold recoverFail
  split <;> simp only [State.power_mk, State.power_fold, bump_power, peerAnswer_power, auditAnswer_power]

theorem failRecoveries_power (p : Recovery → Bool) (outcome : Nat) (s : State) : (failRecoveries p outcome s).power = s.power := by
  unfold failRecoveries
  simp only [State.power_foldl, implies_true, State.power_mk, State.power_fold, apply_ite State.power, ite_self, recoverFail_power]

theorem unpair_power (s : State) : (unpair s).power = s.power := by
  unfold unpair
  simp only [State.power_mk, State.power_fold, freezeQueues_power]

theorem noteLost_power (s : State) : (noteLost s).power = s.power := by
  unfold noteLost
  simp only [State.power_mk, State.power_fold, stamp_power]

theorem setPairState_power (p : PairState) (s : State) : (setPairState p s).power = s.power := by
  unfold setPairState
  repeat' first
    | with_reducible rfl
    | (simp only [State.power_mk, State.power_fold, apply_ite State.power, ite_self, bump_power, cause_power, emit_power, perf_power, resumeQueues_power, failRecoveries_power, unpair_power, noteLost_power]; done)
    | split
    | dsimp only

theorem tethOff_power (s : State) : (tethOff s).power = s.power := by
  unfold tethOff
  simp only [State.power_mk, State.power_fold, apply_ite State.power, ite_self, cause_power, setPairState_power]

/-! ### VaultCtl -/

theorem srBegin_power (why : SrCause) (c : Nat) (s : State) : (srBegin why c s).power = s.power := by
  unfold srBegin
  simp only [State.power_foldl, implies_true, State.power_mk, State.power_fold, apply_ite State.power, ite_self, State.modChan_power, closeMerge_power]

theorem srBeginAll_power (s : State) : (srBeginAll s).power = s.power := by
  unfold srBeginAll
  repeat' first
    | with_reducible rfl
    | (simp only [State.power_foldl, implies_true, State.power_mk, State.power_fold, apply_ite State.power, apply_ite Prod.snd, ite_self, srBegin_power]; done)
    | split
    | dsimp only

theorem srEndAll_power (s : State) : (srEndAll s).power = s.power := by
  unfold srEndAll
  simp only [State.power_foldl, implies_true, State.power_mk, State.power_fold, apply_ite State.power, ite_self, State.modChan_power]

/-! ### Treasury -/

theorem paceOff_power (b : Nat) (s : State) : (paceOff b s).power = s.power := by
  unfold paceOff
  simp only [State.power_foldl, implies_true, State.power_mk, State.power_fold, apply_ite State.power, ite_self, regStore_power, emit_power]

theorem nosePowerUp_power (s : State) : (nosePowerUp s).power = s.power := by
  rfl

theorem setVout_power (mv : Nat) (s : State) : (setVout mv s).power = s.power := by
  unfold setVout
  simp only [State.power_mk, State.power_fold, apply_ite State.power, ite_self, setField_power, bump_power, emit_power]

theorem noteThermal_power (what : Nat) (s : State) : (noteThermal what s).power = s.power := by
  unfold noteThermal
  simp only [emit_power]

theorem crossLevel_power (was now : Bool) (bit_ what : Nat) (s : State) : (crossLevel was now bit_ what s).power = s.power := by
  unfold crossLevel
  simp only [State.power_mk, State.power_fold, apply_ite State.power, ite_self, cause_power, noteThermal_power]

/-! ### The commands -/


end Sys2Proof.Machine
end

