-- ==== Sys2Proof/Laws/Tbl.lean ====
section
/-!
SUPPORT. The laws of the sparse tables that stand for memories, register files and arrays of instances: a read after a
write, and the canonical form that every write keeps.
-/
namespace Sys2Proof.Machine

@[simp] theorem Tbl.get_nil {α : Type} (i : Nat) (d : α) : Tbl.get [] i d = d := rfl

theorem Tbl.find_ins_same {α : Type} (t : Tbl α) (i : Nat) (v : α) (h : Tbl.find t i = none) :
    Tbl.find (Tbl.ins t i v) i = some v := by
  induction t with
  | nil => simp [Tbl.ins, Tbl.find]
  | cons p t ih =>
    obtain ⟨k, w⟩ := p
    simp only [Tbl.find] at h
    split at h
    · cases h
    · rename_i hk
      simp only [Tbl.ins]
      split
      · simp [Tbl.find]
      · simp [Tbl.find, hk, ih h]

theorem Tbl.find_ins_ne {α : Type} (t : Tbl α) (i j : Nat) (v : α) (h : i ≠ j) :
    Tbl.find (Tbl.ins t i v) j = Tbl.find t j := by
  induction t with
  | nil => simp [Tbl.ins, Tbl.find, h]
  | cons p t ih =>
    obtain ⟨k, w⟩ := p
    simp only [Tbl.ins]
    split
    · simp [Tbl.find, h]
    · simp [Tbl.find, ih]

theorem Tbl.find_del_same {α : Type} (t : Tbl α) (i : Nat) : Tbl.find (Tbl.del t i) i = none := by
  induction t with
  | nil => rfl
  | cons p t ih =>
    simp only [Tbl.del, List.filter_cons] at ih ⊢
    split
    · rename_i hk
      have hk : p.1 ≠ i := by simpa using hk
      rw [Tbl.find, if_neg hk]; exact ih
    · exact ih

theorem Tbl.find_del_ne {α : Type} (t : Tbl α) (i j : Nat) (h : i ≠ j) : Tbl.find (Tbl.del t i) j = Tbl.find t j := by
  induction t with
  | nil => rfl
  | cons p t ih =>
    obtain ⟨k, w⟩ := p
    simp only [Tbl.del, List.filter_cons] at ih ⊢
    split
    · rw [Tbl.find, Tbl.find, ih]
    · rename_i hk
      have hk : k = i := by simpa using hk
      rw [Tbl.find, if_neg (hk ▸ h), ih]

/-- A read after a write to the same key gives the value written. -/
@[simp] theorem Tbl.get_set_same {α : Type} [DecidableEq α] (t : Tbl α) (i : Nat) (d v : α) : Tbl.get (Tbl.set t i d v) i d = v := by
  unfold Tbl.set
  split
  · rename_i h; simp [Tbl.get, Tbl.find_del_same, h]
  · simp [Tbl.get, Tbl.put, Tbl.find_ins_same _ _ _ (Tbl.find_del_same t i)]

/-- A write leaves every other key alone, whatever the defaults. -/
theorem Tbl.get_set_ne {α : Type} [DecidableEq α] (t : Tbl α) (i j : Nat) (d v e : α) (h : i ≠ j) :
    Tbl.get (Tbl.set t i d v) j e = Tbl.get t j e := by
  unfold Tbl.set
  split
  · simp [Tbl.get, Tbl.find_del_ne _ _ _ h]
  · simp [Tbl.get, Tbl.put, Tbl.find_ins_ne _ _ _ _ h, Tbl.find_del_ne _ _ _ h]

theorem Tbl.get_set {α : Type} [DecidableEq α] (t : Tbl α) (i j : Nat) (d v : α) :
    Tbl.get (Tbl.set t i d v) j d = if i = j then v else Tbl.get t j d := by
  split
  · subst_vars; exact Tbl.get_set_same ..
  · exact Tbl.get_set_ne _ _ _ _ _ _ ‹_›

theorem Tbl.wf_del {α : Type} [DecidableEq α] (d : α) (t : Tbl α) (i : Nat) (h : Tbl.wf d t) : Tbl.wf d (Tbl.del t i) :=
  ⟨h.1.filter _, fun p hp => h.2 p (List.mem_of_mem_filter hp)⟩

theorem Tbl.wf_put {α : Type} [DecidableEq α] (d : α) (t : Tbl α) (i : Nat) (v : α) (hv : v ≠ d) (h : Tbl.wf d t) :
    Tbl.wf d (Tbl.put t i v) := by
  have hd := Tbl.wf_del d t i h
  have hne : ∀ p ∈ Tbl.del t i, p.1 ≠ i := fun p hp => by simpa using (List.mem_filter.1 hp).2
  simp only [Tbl.put]
  generalize Tbl.del t i = u at hd hne
  clear h
  induction u with
  | nil => exact ⟨by simp [Tbl.ins], by simp [Tbl.ins, hv]⟩
  | cons p u ih =>
    obtain ⟨k, w⟩ := p
    obtain ⟨h1, h2⟩ := hd
    rw [List.pairwise_cons] at h1
    have hk : k ≠ i := hne (k, w) (by simp)
    simp only [Tbl.ins]
    split
    · rename_i hlt
      refine ⟨?_, fun q hq => ?_⟩
      · simp only [List.pairwise_cons, List.mem_cons, forall_eq_or_imp]
        exact ⟨⟨hlt, fun q hq => Nat.lt_trans hlt (h1.1 q hq)⟩, h1⟩
      · rcases List.mem_cons.1 hq with rfl | hq
        · exact hv
        · exact h2 q hq
    · rename_i hlt
      obtain ⟨i1, i2⟩ := ih ⟨h1.2, fun q hq => h2 q (List.mem_cons_of_mem _ hq)⟩ fun q hq => hne q (List.mem_cons_of_mem _ hq)
      have hmem : ∀ q ∈ Tbl.ins u i v, q = (i, v) ∨ q ∈ u := by
        clear ih h1 h2 i1 i2 hne
        induction u with
        | nil => simp [Tbl.ins]
        | cons r u ih =>
          obtain ⟨a, b⟩ := r
          simp only [Tbl.ins]
          split
          · simp
          · intro q hq
            rcases List.mem_cons.1 hq with rfl | hq
            · simp
            · rcases ih q hq with h | h <;> simp [h]
      refine ⟨?_, fun q hq => ?_⟩
      · refine List.pairwise_cons.2 ⟨fun q hq => ?_, i1⟩
        rcases hmem q hq with rfl | h
        · show k < i; omega
        · exact h1.1 q h
      · rcases List.mem_cons.1 hq with rfl | hq
        · exact h2 _ (by simp)
        · exact i2 q hq

/-- Every write keeps the canonical form. -/
theorem Tbl.wf_set {α : Type} [DecidableEq α] (t : Tbl α) (i : Nat) (d v : α) (h : Tbl.wf d t) : Tbl.wf d (Tbl.set t i d v) := by
  unfold Tbl.set
  split
  · exact Tbl.wf_del d t i h
  · exact Tbl.wf_put d t i v ‹_› h

end Sys2Proof.Machine
end

