-- ==== Sys2Proof/Laws/State.lean ====
section
/-!
SUPPORT. What the updates of the state leave alone: one lemma for each field under each update, so that no proof unfolds one.
-/
namespace Sys2Proof.Machine

/-- Two states that agree in every field are one. -/
theorem State.ext {s t : State} (h_pending : s.pending = t.pending) (h_free : s.free = t.free) (h_regs : s.regs = t.regs) (h_dispo : s.dispo = t.dispo) (h_time : s.time = t.time) (h_sill : s.sill = t.sill) (h_msix : s.msix = t.msix) (h_perf : s.perf = t.perf) (h_treas : s.treas = t.treas) (h_fuses : s.fuses = t.fuses) (h_sec : s.sec = t.sec) (h_pins : s.pins = t.pins) (h_loader : s.loader = t.loader) (h_pcie : s.pcie = t.pcie) (h_coffer : s.coffer = t.coffer) (h_rings : s.rings = t.rings) (h_out : s.out = t.out) (h_lastBatch : s.lastBatch = t.lastBatch) (h_ports : s.ports = t.ports) (h_portCfg : s.portCfg = t.portCfg) (h_lanes : s.lanes = t.lanes) (h_laneInv : s.laneInv = t.laneInv) (h_laneTaps : s.laneTaps = t.laneTaps) (h_teth : s.teth = t.teth) (h_swc : s.swc = t.swc) (h_tm : s.tm = t.tm) (h_templates : s.templates = t.templates) (h_assay : s.assay = t.assay) (h_sieve : s.sieve = t.sieve) (h_accord : s.accord = t.accord) (h_ledger : s.ledger = t.ledger) (h_disp : s.disp = t.disp) (h_tellers : s.tellers = t.tellers) (h_desks : s.desks = t.desks) (h_nose : s.nose = t.nose) (h_automata : s.automata = t.automata) (h_vault : s.vault = t.vault) (h_audit : s.audit = t.audit) : s = t := by
  cases s; cases t
  simp only at *
  subst_vars
  rfl

/-! ### The instances -/

namespace State

@[simp] theorem setLedger_pending (s : State) (i : Nat) (x : Ledger) : (setLedger s i x).pending = s.pending := rfl
@[simp] theorem setLedger_free (s : State) (i : Nat) (x : Ledger) : (setLedger s i x).free = s.free := rfl
@[simp] theorem setLedger_regs (s : State) (i : Nat) (x : Ledger) : (setLedger s i x).regs = s.regs := rfl
@[simp] theorem setLedger_dispo (s : State) (i : Nat) (x : Ledger) : (setLedger s i x).dispo = s.dispo := rfl
@[simp] theorem setLedger_time (s : State) (i : Nat) (x : Ledger) : (setLedger s i x).time = s.time := rfl
@[simp] theorem setLedger_sill (s : State) (i : Nat) (x : Ledger) : (setLedger s i x).sill = s.sill := rfl
@[simp] theorem setLedger_msix (s : State) (i : Nat) (x : Ledger) : (setLedger s i x).msix = s.msix := rfl
@[simp] theorem setLedger_perf (s : State) (i : Nat) (x : Ledger) : (setLedger s i x).perf = s.perf := rfl
@[simp] theorem setLedger_treas (s : State) (i : Nat) (x : Ledger) : (setLedger s i x).treas = s.treas := rfl
@[simp] theorem setLedger_fuses (s : State) (i : Nat) (x : Ledger) : (setLedger s i x).fuses = s.fuses := rfl
@[simp] theorem setLedger_sec (s : State) (i : Nat) (x : Ledger) : (setLedger s i x).sec = s.sec := rfl
@[simp] theorem setLedger_pins (s : State) (i : Nat) (x : Ledger) : (setLedger s i x).pins = s.pins := rfl
@[simp] theorem setLedger_loader (s : State) (i : Nat) (x : Ledger) : (setLedger s i x).loader = s.loader := rfl
@[simp] theorem setLedger_pcie (s : State) (i : Nat) (x : Ledger) : (setLedger s i x).pcie = s.pcie := rfl
@[simp] theorem setLedger_coffer (s : State) (i : Nat) (x : Ledger) : (setLedger s i x).coffer = s.coffer := rfl
@[simp] theorem setLedger_rings (s : State) (i : Nat) (x : Ledger) : (setLedger s i x).rings = s.rings := rfl
@[simp] theorem setLedger_out (s : State) (i : Nat) (x : Ledger) : (setLedger s i x).out = s.out := rfl
@[simp] theorem setLedger_lastBatch (s : State) (i : Nat) (x : Ledger) : (setLedger s i x).lastBatch = s.lastBatch := rfl
@[simp] theorem setLedger_ports (s : State) (i : Nat) (x : Ledger) : (setLedger s i x).ports = s.ports := rfl
@[simp] theorem setLedger_portCfg (s : State) (i : Nat) (x : Ledger) : (setLedger s i x).portCfg = s.portCfg := rfl
@[simp] theorem setLedger_lanes (s : State) (i : Nat) (x : Ledger) : (setLedger s i x).lanes = s.lanes := rfl
@[simp] theorem setLedger_laneInv (s : State) (i : Nat) (x : Ledger) : (setLedger s i x).laneInv = s.laneInv := rfl
@[simp] theorem setLedger_laneTaps (s : State) (i : Nat) (x : Ledger) : (setLedger s i x).laneTaps = s.laneTaps := rfl
@[simp] theorem setLedger_teth (s : State) (i : Nat) (x : Ledger) : (setLedger s i x).teth = s.teth := rfl
@[simp] theorem setLedger_swc (s : State) (i : Nat) (x : Ledger) : (setLedger s i x).swc = s.swc := rfl
@[simp] theorem setLedger_tm (s : State) (i : Nat) (x : Ledger) : (setLedger s i x).tm = s.tm := rfl
@[simp] theorem setLedger_templates (s : State) (i : Nat) (x : Ledger) : (setLedger s i x).templates = s.templates := rfl
@[simp] theorem setLedger_assay (s : State) (i : Nat) (x : Ledger) : (setLedger s i x).assay = s.assay := rfl
@[simp] theorem setLedger_sieve (s : State) (i : Nat) (x : Ledger) : (setLedger s i x).sieve = s.sieve := rfl
@[simp] theorem setLedger_accord (s : State) (i : Nat) (x : Ledger) : (setLedger s i x).accord = s.accord := rfl
@[simp] theorem setLedger_disp (s : State) (i : Nat) (x : Ledger) : (setLedger s i x).disp = s.disp := rfl
@[simp] theorem setLedger_tellers (s : State) (i : Nat) (x : Ledger) : (setLedger s i x).tellers = s.tellers := rfl
@[simp] theorem setLedger_desks (s : State) (i : Nat) (x : Ledger) : (setLedger s i x).desks = s.desks := rfl
@[simp] theorem setLedger_nose (s : State) (i : Nat) (x : Ledger) : (setLedger s i x).nose = s.nose := rfl
@[simp] theorem setLedger_automata (s : State) (i : Nat) (x : Ledger) : (setLedger s i x).automata = s.automata := rfl
@[simp] theorem setLedger_vault (s : State) (i : Nat) (x : Ledger) : (setLedger s i x).vault = s.vault := rfl
@[simp] theorem setLedger_audit (s : State) (i : Nat) (x : Ledger) : (setLedger s i x).audit = s.audit := rfl
@[simp] theorem ledgerAt_setLedger_same (s : State) (i : Nat) (x : Ledger) : (s.setLedger i x).ledgerAt i = x := Tbl.get_set_same ..
theorem ledgerAt_setLedger (s : State) (i j : Nat) (x : Ledger) : (s.setLedger i x).ledgerAt j = if i = j then x else s.ledgerAt j := Tbl.get_set ..

@[simp] theorem setDisp_pending (s : State) (i : Nat) (x : Disp) : (setDisp s i x).pending = s.pending := rfl
@[simp] theorem setDisp_free (s : State) (i : Nat) (x : Disp) : (setDisp s i x).free = s.free := rfl
@[simp] theorem setDisp_regs (s : State) (i : Nat) (x : Disp) : (setDisp s i x).regs = s.regs := rfl
@[simp] theorem setDisp_dispo (s : State) (i : Nat) (x : Disp) : (setDisp s i x).dispo = s.dispo := rfl
@[simp] theorem setDisp_time (s : State) (i : Nat) (x : Disp) : (setDisp s i x).time = s.time := rfl
@[simp] theorem setDisp_sill (s : State) (i : Nat) (x : Disp) : (setDisp s i x).sill = s.sill := rfl
@[simp] theorem setDisp_msix (s : State) (i : Nat) (x : Disp) : (setDisp s i x).msix = s.msix := rfl
@[simp] theorem setDisp_perf (s : State) (i : Nat) (x : Disp) : (setDisp s i x).perf = s.perf := rfl
@[simp] theorem setDisp_treas (s : State) (i : Nat) (x : Disp) : (setDisp s i x).treas = s.treas := rfl
@[simp] theorem setDisp_fuses (s : State) (i : Nat) (x : Disp) : (setDisp s i x).fuses = s.fuses := rfl
@[simp] theorem setDisp_sec (s : State) (i : Nat) (x : Disp) : (setDisp s i x).sec = s.sec := rfl
@[simp] theorem setDisp_pins (s : State) (i : Nat) (x : Disp) : (setDisp s i x).pins = s.pins := rfl
@[simp] theorem setDisp_loader (s : State) (i : Nat) (x : Disp) : (setDisp s i x).loader = s.loader := rfl
@[simp] theorem setDisp_pcie (s : State) (i : Nat) (x : Disp) : (setDisp s i x).pcie = s.pcie := rfl
@[simp] theorem setDisp_coffer (s : State) (i : Nat) (x : Disp) : (setDisp s i x).coffer = s.coffer := rfl
@[simp] theorem setDisp_rings (s : State) (i : Nat) (x : Disp) : (setDisp s i x).rings = s.rings := rfl
@[simp] theorem setDisp_out (s : State) (i : Nat) (x : Disp) : (setDisp s i x).out = s.out := rfl
@[simp] theorem setDisp_lastBatch (s : State) (i : Nat) (x : Disp) : (setDisp s i x).lastBatch = s.lastBatch := rfl
@[simp] theorem setDisp_ports (s : State) (i : Nat) (x : Disp) : (setDisp s i x).ports = s.ports := rfl
@[simp] theorem setDisp_portCfg (s : State) (i : Nat) (x : Disp) : (setDisp s i x).portCfg = s.portCfg := rfl
@[simp] theorem setDisp_lanes (s : State) (i : Nat) (x : Disp) : (setDisp s i x).lanes = s.lanes := rfl
@[simp] theorem setDisp_laneInv (s : State) (i : Nat) (x : Disp) : (setDisp s i x).laneInv = s.laneInv := rfl
@[simp] theorem setDisp_laneTaps (s : State) (i : Nat) (x : Disp) : (setDisp s i x).laneTaps = s.laneTaps := rfl
@[simp] theorem setDisp_teth (s : State) (i : Nat) (x : Disp) : (setDisp s i x).teth = s.teth := rfl
@[simp] theorem setDisp_swc (s : State) (i : Nat) (x : Disp) : (setDisp s i x).swc = s.swc := rfl
@[simp] theorem setDisp_tm (s : State) (i : Nat) (x : Disp) : (setDisp s i x).tm = s.tm := rfl
@[simp] theorem setDisp_templates (s : State) (i : Nat) (x : Disp) : (setDisp s i x).templates = s.templates := rfl
@[simp] theorem setDisp_assay (s : State) (i : Nat) (x : Disp) : (setDisp s i x).assay = s.assay := rfl
@[simp] theorem setDisp_sieve (s : State) (i : Nat) (x : Disp) : (setDisp s i x).sieve = s.sieve := rfl
@[simp] theorem setDisp_accord (s : State) (i : Nat) (x : Disp) : (setDisp s i x).accord = s.accord := rfl
@[simp] theorem setDisp_ledger (s : State) (i : Nat) (x : Disp) : (setDisp s i x).ledger = s.ledger := rfl
@[simp] theorem setDisp_tellers (s : State) (i : Nat) (x : Disp) : (setDisp s i x).tellers = s.tellers := rfl
@[simp] theorem setDisp_desks (s : State) (i : Nat) (x : Disp) : (setDisp s i x).desks = s.desks := rfl
@[simp] theorem setDisp_nose (s : State) (i : Nat) (x : Disp) : (setDisp s i x).nose = s.nose := rfl
@[simp] theorem setDisp_automata (s : State) (i : Nat) (x : Disp) : (setDisp s i x).automata = s.automata := rfl
@[simp] theorem setDisp_vault (s : State) (i : Nat) (x : Disp) : (setDisp s i x).vault = s.vault := rfl
@[simp] theorem setDisp_audit (s : State) (i : Nat) (x : Disp) : (setDisp s i x).audit = s.audit := rfl
@[simp] theorem dispAt_setDisp_same (s : State) (i : Nat) (x : Disp) : (s.setDisp i x).dispAt i = x := Tbl.get_set_same ..
theorem dispAt_setDisp (s : State) (i j : Nat) (x : Disp) : (s.setDisp i x).dispAt j = if i = j then x else s.dispAt j := Tbl.get_set ..

@[simp] theorem setAssay_pending (s : State) (i : Nat) (x : Assayer) : (setAssay s i x).pending = s.pending := rfl
@[simp] theorem setAssay_free (s : State) (i : Nat) (x : Assayer) : (setAssay s i x).free = s.free := rfl
@[simp] theorem setAssay_regs (s : State) (i : Nat) (x : Assayer) : (setAssay s i x).regs = s.regs := rfl
@[simp] theorem setAssay_dispo (s : State) (i : Nat) (x : Assayer) : (setAssay s i x).dispo = s.dispo := rfl
@[simp] theorem setAssay_time (s : State) (i : Nat) (x : Assayer) : (setAssay s i x).time = s.time := rfl
@[simp] theorem setAssay_sill (s : State) (i : Nat) (x : Assayer) : (setAssay s i x).sill = s.sill := rfl
@[simp] theorem setAssay_msix (s : State) (i : Nat) (x : Assayer) : (setAssay s i x).msix = s.msix := rfl
@[simp] theorem setAssay_perf (s : State) (i : Nat) (x : Assayer) : (setAssay s i x).perf = s.perf := rfl
@[simp] theorem setAssay_treas (s : State) (i : Nat) (x : Assayer) : (setAssay s i x).treas = s.treas := rfl
@[simp] theorem setAssay_fuses (s : State) (i : Nat) (x : Assayer) : (setAssay s i x).fuses = s.fuses := rfl
@[simp] theorem setAssay_sec (s : State) (i : Nat) (x : Assayer) : (setAssay s i x).sec = s.sec := rfl
@[simp] theorem setAssay_pins (s : State) (i : Nat) (x : Assayer) : (setAssay s i x).pins = s.pins := rfl
@[simp] theorem setAssay_loader (s : State) (i : Nat) (x : Assayer) : (setAssay s i x).loader = s.loader := rfl
@[simp] theorem setAssay_pcie (s : State) (i : Nat) (x : Assayer) : (setAssay s i x).pcie = s.pcie := rfl
@[simp] theorem setAssay_coffer (s : State) (i : Nat) (x : Assayer) : (setAssay s i x).coffer = s.coffer := rfl
@[simp] theorem setAssay_rings (s : State) (i : Nat) (x : Assayer) : (setAssay s i x).rings = s.rings := rfl
@[simp] theorem setAssay_out (s : State) (i : Nat) (x : Assayer) : (setAssay s i x).out = s.out := rfl
@[simp] theorem setAssay_lastBatch (s : State) (i : Nat) (x : Assayer) : (setAssay s i x).lastBatch = s.lastBatch := rfl
@[simp] theorem setAssay_ports (s : State) (i : Nat) (x : Assayer) : (setAssay s i x).ports = s.ports := rfl
@[simp] theorem setAssay_portCfg (s : State) (i : Nat) (x : Assayer) : (setAssay s i x).portCfg = s.portCfg := rfl
@[simp] theorem setAssay_lanes (s : State) (i : Nat) (x : Assayer) : (setAssay s i x).lanes = s.lanes := rfl
@[simp] theorem setAssay_laneInv (s : State) (i : Nat) (x : Assayer) : (setAssay s i x).laneInv = s.laneInv := rfl
@[simp] theorem setAssay_laneTaps (s : State) (i : Nat) (x : Assayer) : (setAssay s i x).laneTaps = s.laneTaps := rfl
@[simp] theorem setAssay_teth (s : State) (i : Nat) (x : Assayer) : (setAssay s i x).teth = s.teth := rfl
@[simp] theorem setAssay_swc (s : State) (i : Nat) (x : Assayer) : (setAssay s i x).swc = s.swc := rfl
@[simp] theorem setAssay_tm (s : State) (i : Nat) (x : Assayer) : (setAssay s i x).tm = s.tm := rfl
@[simp] theorem setAssay_templates (s : State) (i : Nat) (x : Assayer) : (setAssay s i x).templates = s.templates := rfl
@[simp] theorem setAssay_sieve (s : State) (i : Nat) (x : Assayer) : (setAssay s i x).sieve = s.sieve := rfl
@[simp] theorem setAssay_accord (s : State) (i : Nat) (x : Assayer) : (setAssay s i x).accord = s.accord := rfl
@[simp] theorem setAssay_ledger (s : State) (i : Nat) (x : Assayer) : (setAssay s i x).ledger = s.ledger := rfl
@[simp] theorem setAssay_disp (s : State) (i : Nat) (x : Assayer) : (setAssay s i x).disp = s.disp := rfl
@[simp] theorem setAssay_tellers (s : State) (i : Nat) (x : Assayer) : (setAssay s i x).tellers = s.tellers := rfl
@[simp] theorem setAssay_desks (s : State) (i : Nat) (x : Assayer) : (setAssay s i x).desks = s.desks := rfl
@[simp] theorem setAssay_nose (s : State) (i : Nat) (x : Assayer) : (setAssay s i x).nose = s.nose := rfl
@[simp] theorem setAssay_automata (s : State) (i : Nat) (x : Assayer) : (setAssay s i x).automata = s.automata := rfl
@[simp] theorem setAssay_vault (s : State) (i : Nat) (x : Assayer) : (setAssay s i x).vault = s.vault := rfl
@[simp] theorem setAssay_audit (s : State) (i : Nat) (x : Assayer) : (setAssay s i x).audit = s.audit := rfl
@[simp] theorem assayAt_setAssay_same (s : State) (i : Nat) (x : Assayer) : (s.setAssay i x).assayAt i = x := Tbl.get_set_same ..
theorem assayAt_setAssay (s : State) (i j : Nat) (x : Assayer) : (s.setAssay i x).assayAt j = if i = j then x else s.assayAt j := Tbl.get_set ..

@[simp] theorem setNose_pending (s : State) (i : Nat) (x : Nose) : (setNose s i x).pending = s.pending := rfl
@[simp] theorem setNose_free (s : State) (i : Nat) (x : Nose) : (setNose s i x).free = s.free := rfl
@[simp] theorem setNose_regs (s : State) (i : Nat) (x : Nose) : (setNose s i x).regs = s.regs := rfl
@[simp] theorem setNose_dispo (s : State) (i : Nat) (x : Nose) : (setNose s i x).dispo = s.dispo := rfl
@[simp] theorem setNose_time (s : State) (i : Nat) (x : Nose) : (setNose s i x).time = s.time := rfl
@[simp] theorem setNose_sill (s : State) (i : Nat) (x : Nose) : (setNose s i x).sill = s.sill := rfl
@[simp] theorem setNose_msix (s : State) (i : Nat) (x : Nose) : (setNose s i x).msix = s.msix := rfl
@[simp] theorem setNose_perf (s : State) (i : Nat) (x : Nose) : (setNose s i x).perf = s.perf := rfl
@[simp] theorem setNose_treas (s : State) (i : Nat) (x : Nose) : (setNose s i x).treas = s.treas := rfl
@[simp] theorem setNose_fuses (s : State) (i : Nat) (x : Nose) : (setNose s i x).fuses = s.fuses := rfl
@[simp] theorem setNose_sec (s : State) (i : Nat) (x : Nose) : (setNose s i x).sec = s.sec := rfl
@[simp] theorem setNose_pins (s : State) (i : Nat) (x : Nose) : (setNose s i x).pins = s.pins := rfl
@[simp] theorem setNose_loader (s : State) (i : Nat) (x : Nose) : (setNose s i x).loader = s.loader := rfl
@[simp] theorem setNose_pcie (s : State) (i : Nat) (x : Nose) : (setNose s i x).pcie = s.pcie := rfl
@[simp] theorem setNose_coffer (s : State) (i : Nat) (x : Nose) : (setNose s i x).coffer = s.coffer := rfl
@[simp] theorem setNose_rings (s : State) (i : Nat) (x : Nose) : (setNose s i x).rings = s.rings := rfl
@[simp] theorem setNose_out (s : State) (i : Nat) (x : Nose) : (setNose s i x).out = s.out := rfl
@[simp] theorem setNose_lastBatch (s : State) (i : Nat) (x : Nose) : (setNose s i x).lastBatch = s.lastBatch := rfl
@[simp] theorem setNose_ports (s : State) (i : Nat) (x : Nose) : (setNose s i x).ports = s.ports := rfl
@[simp] theorem setNose_portCfg (s : State) (i : Nat) (x : Nose) : (setNose s i x).portCfg = s.portCfg := rfl
@[simp] theorem setNose_lanes (s : State) (i : Nat) (x : Nose) : (setNose s i x).lanes = s.lanes := rfl
@[simp] theorem setNose_laneInv (s : State) (i : Nat) (x : Nose) : (setNose s i x).laneInv = s.laneInv := rfl
@[simp] theorem setNose_laneTaps (s : State) (i : Nat) (x : Nose) : (setNose s i x).laneTaps = s.laneTaps := rfl
@[simp] theorem setNose_teth (s : State) (i : Nat) (x : Nose) : (setNose s i x).teth = s.teth := rfl
@[simp] theorem setNose_swc (s : State) (i : Nat) (x : Nose) : (setNose s i x).swc = s.swc := rfl
@[simp] theorem setNose_tm (s : State) (i : Nat) (x : Nose) : (setNose s i x).tm = s.tm := rfl
@[simp] theorem setNose_templates (s : State) (i : Nat) (x : Nose) : (setNose s i x).templates = s.templates := rfl
@[simp] theorem setNose_assay (s : State) (i : Nat) (x : Nose) : (setNose s i x).assay = s.assay := rfl
@[simp] theorem setNose_sieve (s : State) (i : Nat) (x : Nose) : (setNose s i x).sieve = s.sieve := rfl
@[simp] theorem setNose_accord (s : State) (i : Nat) (x : Nose) : (setNose s i x).accord = s.accord := rfl
@[simp] theorem setNose_ledger (s : State) (i : Nat) (x : Nose) : (setNose s i x).ledger = s.ledger := rfl
@[simp] theorem setNose_disp (s : State) (i : Nat) (x : Nose) : (setNose s i x).disp = s.disp := rfl
@[simp] theorem setNose_tellers (s : State) (i : Nat) (x : Nose) : (setNose s i x).tellers = s.tellers := rfl
@[simp] theorem setNose_desks (s : State) (i : Nat) (x : Nose) : (setNose s i x).desks = s.desks := rfl
@[simp] theorem setNose_automata (s : State) (i : Nat) (x : Nose) : (setNose s i x).automata = s.automata := rfl
@[simp] theorem setNose_vault (s : State) (i : Nat) (x : Nose) : (setNose s i x).vault = s.vault := rfl
@[simp] theorem setNose_audit (s : State) (i : Nat) (x : Nose) : (setNose s i x).audit = s.audit := rfl
@[simp] theorem noseAt_setNose_same (s : State) (i : Nat) (x : Nose) : (s.setNose i x).noseAt i = x := Tbl.get_set_same ..
theorem noseAt_setNose (s : State) (i j : Nat) (x : Nose) : (s.setNose i x).noseAt j = if i = j then x else s.noseAt j := Tbl.get_set ..

@[simp] theorem setTeller_pending (s : State) (i : Nat) (x : Teller) : (setTeller s i x).pending = s.pending := rfl
@[simp] theorem setTeller_free (s : State) (i : Nat) (x : Teller) : (setTeller s i x).free = s.free := rfl
@[simp] theorem setTeller_regs (s : State) (i : Nat) (x : Teller) : (setTeller s i x).regs = s.regs := rfl
@[simp] theorem setTeller_dispo (s : State) (i : Nat) (x : Teller) : (setTeller s i x).dispo = s.dispo := rfl
@[simp] theorem setTeller_time (s : State) (i : Nat) (x : Teller) : (setTeller s i x).time = s.time := rfl
@[simp] theorem setTeller_sill (s : State) (i : Nat) (x : Teller) : (setTeller s i x).sill = s.sill := rfl
@[simp] theorem setTeller_msix (s : State) (i : Nat) (x : Teller) : (setTeller s i x).msix = s.msix := rfl
@[simp] theorem setTeller_perf (s : State) (i : Nat) (x : Teller) : (setTeller s i x).perf = s.perf := rfl
@[simp] theorem setTeller_treas (s : State) (i : Nat) (x : Teller) : (setTeller s i x).treas = s.treas := rfl
@[simp] theorem setTeller_fuses (s : State) (i : Nat) (x : Teller) : (setTeller s i x).fuses = s.fuses := rfl
@[simp] theorem setTeller_sec (s : State) (i : Nat) (x : Teller) : (setTeller s i x).sec = s.sec := rfl
@[simp] theorem setTeller_pins (s : State) (i : Nat) (x : Teller) : (setTeller s i x).pins = s.pins := rfl
@[simp] theorem setTeller_loader (s : State) (i : Nat) (x : Teller) : (setTeller s i x).loader = s.loader := rfl
@[simp] theorem setTeller_pcie (s : State) (i : Nat) (x : Teller) : (setTeller s i x).pcie = s.pcie := rfl
@[simp] theorem setTeller_coffer (s : State) (i : Nat) (x : Teller) : (setTeller s i x).coffer = s.coffer := rfl
@[simp] theorem setTeller_rings (s : State) (i : Nat) (x : Teller) : (setTeller s i x).rings = s.rings := rfl
@[simp] theorem setTeller_out (s : State) (i : Nat) (x : Teller) : (setTeller s i x).out = s.out := rfl
@[simp] theorem setTeller_lastBatch (s : State) (i : Nat) (x : Teller) : (setTeller s i x).lastBatch = s.lastBatch := rfl
@[simp] theorem setTeller_ports (s : State) (i : Nat) (x : Teller) : (setTeller s i x).ports = s.ports := rfl
@[simp] theorem setTeller_portCfg (s : State) (i : Nat) (x : Teller) : (setTeller s i x).portCfg = s.portCfg := rfl
@[simp] theorem setTeller_lanes (s : State) (i : Nat) (x : Teller) : (setTeller s i x).lanes = s.lanes := rfl
@[simp] theorem setTeller_laneInv (s : State) (i : Nat) (x : Teller) : (setTeller s i x).laneInv = s.laneInv := rfl
@[simp] theorem setTeller_laneTaps (s : State) (i : Nat) (x : Teller) : (setTeller s i x).laneTaps = s.laneTaps := rfl
@[simp] theorem setTeller_teth (s : State) (i : Nat) (x : Teller) : (setTeller s i x).teth = s.teth := rfl
@[simp] theorem setTeller_swc (s : State) (i : Nat) (x : Teller) : (setTeller s i x).swc = s.swc := rfl
@[simp] theorem setTeller_tm (s : State) (i : Nat) (x : Teller) : (setTeller s i x).tm = s.tm := rfl
@[simp] theorem setTeller_templates (s : State) (i : Nat) (x : Teller) : (setTeller s i x).templates = s.templates := rfl
@[simp] theorem setTeller_assay (s : State) (i : Nat) (x : Teller) : (setTeller s i x).assay = s.assay := rfl
@[simp] theorem setTeller_sieve (s : State) (i : Nat) (x : Teller) : (setTeller s i x).sieve = s.sieve := rfl
@[simp] theorem setTeller_accord (s : State) (i : Nat) (x : Teller) : (setTeller s i x).accord = s.accord := rfl
@[simp] theorem setTeller_ledger (s : State) (i : Nat) (x : Teller) : (setTeller s i x).ledger = s.ledger := rfl
@[simp] theorem setTeller_disp (s : State) (i : Nat) (x : Teller) : (setTeller s i x).disp = s.disp := rfl
@[simp] theorem setTeller_desks (s : State) (i : Nat) (x : Teller) : (setTeller s i x).desks = s.desks := rfl
@[simp] theorem setTeller_nose (s : State) (i : Nat) (x : Teller) : (setTeller s i x).nose = s.nose := rfl
@[simp] theorem setTeller_automata (s : State) (i : Nat) (x : Teller) : (setTeller s i x).automata = s.automata := rfl
@[simp] theorem setTeller_vault (s : State) (i : Nat) (x : Teller) : (setTeller s i x).vault = s.vault := rfl
@[simp] theorem setTeller_audit (s : State) (i : Nat) (x : Teller) : (setTeller s i x).audit = s.audit := rfl
@[simp] theorem tellerAt_setTeller_same (s : State) (i : Nat) (x : Teller) : (s.setTeller i x).tellerAt i = x := Tbl.get_set_same ..
theorem tellerAt_setTeller (s : State) (i j : Nat) (x : Teller) : (s.setTeller i x).tellerAt j = if i = j then x else s.tellerAt j := Tbl.get_set ..

@[simp] theorem setDesk_pending (s : State) (i : Nat) (x : Desk) : (setDesk s i x).pending = s.pending := rfl
@[simp] theorem setDesk_free (s : State) (i : Nat) (x : Desk) : (setDesk s i x).free = s.free := rfl
@[simp] theorem setDesk_regs (s : State) (i : Nat) (x : Desk) : (setDesk s i x).regs = s.regs := rfl
@[simp] theorem setDesk_dispo (s : State) (i : Nat) (x : Desk) : (setDesk s i x).dispo = s.dispo := rfl
@[simp] theorem setDesk_time (s : State) (i : Nat) (x : Desk) : (setDesk s i x).time = s.time := rfl
@[simp] theorem setDesk_sill (s : State) (i : Nat) (x : Desk) : (setDesk s i x).sill = s.sill := rfl
@[simp] theorem setDesk_msix (s : State) (i : Nat) (x : Desk) : (setDesk s i x).msix = s.msix := rfl
@[simp] theorem setDesk_perf (s : State) (i : Nat) (x : Desk) : (setDesk s i x).perf = s.perf := rfl
@[simp] theorem setDesk_treas (s : State) (i : Nat) (x : Desk) : (setDesk s i x).treas = s.treas := rfl
@[simp] theorem setDesk_fuses (s : State) (i : Nat) (x : Desk) : (setDesk s i x).fuses = s.fuses := rfl
@[simp] theorem setDesk_sec (s : State) (i : Nat) (x : Desk) : (setDesk s i x).sec = s.sec := rfl
@[simp] theorem setDesk_pins (s : State) (i : Nat) (x : Desk) : (setDesk s i x).pins = s.pins := rfl
@[simp] theorem setDesk_loader (s : State) (i : Nat) (x : Desk) : (setDesk s i x).loader = s.loader := rfl
@[simp] theorem setDesk_pcie (s : State) (i : Nat) (x : Desk) : (setDesk s i x).pcie = s.pcie := rfl
@[simp] theorem setDesk_coffer (s : State) (i : Nat) (x : Desk) : (setDesk s i x).coffer = s.coffer := rfl
@[simp] theorem setDesk_rings (s : State) (i : Nat) (x : Desk) : (setDesk s i x).rings = s.rings := rfl
@[simp] theorem setDesk_out (s : State) (i : Nat) (x : Desk) : (setDesk s i x).out = s.out := rfl
@[simp] theorem setDesk_lastBatch (s : State) (i : Nat) (x : Desk) : (setDesk s i x).lastBatch = s.lastBatch := rfl
@[simp] theorem setDesk_ports (s : State) (i : Nat) (x : Desk) : (setDesk s i x).ports = s.ports := rfl
@[simp] theorem setDesk_portCfg (s : State) (i : Nat) (x : Desk) : (setDesk s i x).portCfg = s.portCfg := rfl
@[simp] theorem setDesk_lanes (s : State) (i : Nat) (x : Desk) : (setDesk s i x).lanes = s.lanes := rfl
@[simp] theorem setDesk_laneInv (s : State) (i : Nat) (x : Desk) : (setDesk s i x).laneInv = s.laneInv := rfl
@[simp] theorem setDesk_laneTaps (s : State) (i : Nat) (x : Desk) : (setDesk s i x).laneTaps = s.laneTaps := rfl
@[simp] theorem setDesk_teth (s : State) (i : Nat) (x : Desk) : (setDesk s i x).teth = s.teth := rfl
@[simp] theorem setDesk_swc (s : State) (i : Nat) (x : Desk) : (setDesk s i x).swc = s.swc := rfl
@[simp] theorem setDesk_tm (s : State) (i : Nat) (x : Desk) : (setDesk s i x).tm = s.tm := rfl
@[simp] theorem setDesk_templates (s : State) (i : Nat) (x : Desk) : (setDesk s i x).templates = s.templates := rfl
@[simp] theorem setDesk_assay (s : State) (i : Nat) (x : Desk) : (setDesk s i x).assay = s.assay := rfl
@[simp] theorem setDesk_sieve (s : State) (i : Nat) (x : Desk) : (setDesk s i x).sieve = s.sieve := rfl
@[simp] theorem setDesk_accord (s : State) (i : Nat) (x : Desk) : (setDesk s i x).accord = s.accord := rfl
@[simp] theorem setDesk_ledger (s : State) (i : Nat) (x : Desk) : (setDesk s i x).ledger = s.ledger := rfl
@[simp] theorem setDesk_disp (s : State) (i : Nat) (x : Desk) : (setDesk s i x).disp = s.disp := rfl
@[simp] theorem setDesk_tellers (s : State) (i : Nat) (x : Desk) : (setDesk s i x).tellers = s.tellers := rfl
@[simp] theorem setDesk_nose (s : State) (i : Nat) (x : Desk) : (setDesk s i x).nose = s.nose := rfl
@[simp] theorem setDesk_automata (s : State) (i : Nat) (x : Desk) : (setDesk s i x).automata = s.automata := rfl
@[simp] theorem setDesk_vault (s : State) (i : Nat) (x : Desk) : (setDesk s i x).vault = s.vault := rfl
@[simp] theorem setDesk_audit (s : State) (i : Nat) (x : Desk) : (setDesk s i x).audit = s.audit := rfl
@[simp] theorem deskAt_setDesk_same (s : State) (i : Nat) (x : Desk) : (s.setDesk i x).deskAt i = x := Tbl.get_set_same ..
theorem deskAt_setDesk (s : State) (i j : Nat) (x : Desk) : (s.setDesk i x).deskAt j = if i = j then x else s.deskAt j := Tbl.get_set ..

@[simp] theorem setPort_pending (s : State) (i : Nat) (x : Port) : (setPort s i x).pending = s.pending := rfl
@[simp] theorem setPort_free (s : State) (i : Nat) (x : Port) : (setPort s i x).free = s.free := rfl
@[simp] theorem setPort_regs (s : State) (i : Nat) (x : Port) : (setPort s i x).regs = s.regs := rfl
@[simp] theorem setPort_dispo (s : State) (i : Nat) (x : Port) : (setPort s i x).dispo = s.dispo := rfl
@[simp] theorem setPort_time (s : State) (i : Nat) (x : Port) : (setPort s i x).time = s.time := rfl
@[simp] theorem setPort_sill (s : State) (i : Nat) (x : Port) : (setPort s i x).sill = s.sill := rfl
@[simp] theorem setPort_msix (s : State) (i : Nat) (x : Port) : (setPort s i x).msix = s.msix := rfl
@[simp] theorem setPort_perf (s : State) (i : Nat) (x : Port) : (setPort s i x).perf = s.perf := rfl
@[simp] theorem setPort_treas (s : State) (i : Nat) (x : Port) : (setPort s i x).treas = s.treas := rfl
@[simp] theorem setPort_fuses (s : State) (i : Nat) (x : Port) : (setPort s i x).fuses = s.fuses := rfl
@[simp] theorem setPort_sec (s : State) (i : Nat) (x : Port) : (setPort s i x).sec = s.sec := rfl
@[simp] theorem setPort_pins (s : State) (i : Nat) (x : Port) : (setPort s i x).pins = s.pins := rfl
@[simp] theorem setPort_loader (s : State) (i : Nat) (x : Port) : (setPort s i x).loader = s.loader := rfl
@[simp] theorem setPort_pcie (s : State) (i : Nat) (x : Port) : (setPort s i x).pcie = s.pcie := rfl
@[simp] theorem setPort_coffer (s : State) (i : Nat) (x : Port) : (setPort s i x).coffer = s.coffer := rfl
@[simp] theorem setPort_rings (s : State) (i : Nat) (x : Port) : (setPort s i x).rings = s.rings := rfl
@[simp] theorem setPort_out (s : State) (i : Nat) (x : Port) : (setPort s i x).out = s.out := rfl
@[simp] theorem setPort_lastBatch (s : State) (i : Nat) (x : Port) : (setPort s i x).lastBatch = s.lastBatch := rfl
@[simp] theorem setPort_portCfg (s : State) (i : Nat) (x : Port) : (setPort s i x).portCfg = s.portCfg := rfl
@[simp] theorem setPort_lanes (s : State) (i : Nat) (x : Port) : (setPort s i x).lanes = s.lanes := rfl
@[simp] theorem setPort_laneInv (s : State) (i : Nat) (x : Port) : (setPort s i x).laneInv = s.laneInv := rfl
@[simp] theorem setPort_laneTaps (s : State) (i : Nat) (x : Port) : (setPort s i x).laneTaps = s.laneTaps := rfl
@[simp] theorem setPort_teth (s : State) (i : Nat) (x : Port) : (setPort s i x).teth = s.teth := rfl
@[simp] theorem setPort_swc (s : State) (i : Nat) (x : Port) : (setPort s i x).swc = s.swc := rfl
@[simp] theorem setPort_tm (s : State) (i : Nat) (x : Port) : (setPort s i x).tm = s.tm := rfl
@[simp] theorem setPort_templates (s : State) (i : Nat) (x : Port) : (setPort s i x).templates = s.templates := rfl
@[simp] theorem setPort_assay (s : State) (i : Nat) (x : Port) : (setPort s i x).assay = s.assay := rfl
@[simp] theorem setPort_sieve (s : State) (i : Nat) (x : Port) : (setPort s i x).sieve = s.sieve := rfl
@[simp] theorem setPort_accord (s : State) (i : Nat) (x : Port) : (setPort s i x).accord = s.accord := rfl
@[simp] theorem setPort_ledger (s : State) (i : Nat) (x : Port) : (setPort s i x).ledger = s.ledger := rfl
@[simp] theorem setPort_disp (s : State) (i : Nat) (x : Port) : (setPort s i x).disp = s.disp := rfl
@[simp] theorem setPort_tellers (s : State) (i : Nat) (x : Port) : (setPort s i x).tellers = s.tellers := rfl
@[simp] theorem setPort_desks (s : State) (i : Nat) (x : Port) : (setPort s i x).desks = s.desks := rfl
@[simp] theorem setPort_nose (s : State) (i : Nat) (x : Port) : (setPort s i x).nose = s.nose := rfl
@[simp] theorem setPort_automata (s : State) (i : Nat) (x : Port) : (setPort s i x).automata = s.automata := rfl
@[simp] theorem setPort_vault (s : State) (i : Nat) (x : Port) : (setPort s i x).vault = s.vault := rfl
@[simp] theorem setPort_audit (s : State) (i : Nat) (x : Port) : (setPort s i x).audit = s.audit := rfl
@[simp] theorem portAt_setPort_same (s : State) (i : Nat) (x : Port) : (s.setPort i x).portAt i = x := Tbl.get_set_same ..
theorem portAt_setPort (s : State) (i j : Nat) (x : Port) : (s.setPort i x).portAt j = if i = j then x else s.portAt j := Tbl.get_set ..

@[simp] theorem setRing_pending (s : State) (i : Nat) (x : Ring) : (setRing s i x).pending = s.pending := rfl
@[simp] theorem setRing_free (s : State) (i : Nat) (x : Ring) : (setRing s i x).free = s.free := rfl
@[simp] theorem setRing_regs (s : State) (i : Nat) (x : Ring) : (setRing s i x).regs = s.regs := rfl
@[simp] theorem setRing_dispo (s : State) (i : Nat) (x : Ring) : (setRing s i x).dispo = s.dispo := rfl
@[simp] theorem setRing_time (s : State) (i : Nat) (x : Ring) : (setRing s i x).time = s.time := rfl
@[simp] theorem setRing_sill (s : State) (i : Nat) (x : Ring) : (setRing s i x).sill = s.sill := rfl
@[simp] theorem setRing_msix (s : State) (i : Nat) (x : Ring) : (setRing s i x).msix = s.msix := rfl
@[simp] theorem setRing_perf (s : State) (i : Nat) (x : Ring) : (setRing s i x).perf = s.perf := rfl
@[simp] theorem setRing_treas (s : State) (i : Nat) (x : Ring) : (setRing s i x).treas = s.treas := rfl
@[simp] theorem setRing_fuses (s : State) (i : Nat) (x : Ring) : (setRing s i x).fuses = s.fuses := rfl
@[simp] theorem setRing_sec (s : State) (i : Nat) (x : Ring) : (setRing s i x).sec = s.sec := rfl
@[simp] theorem setRing_pins (s : State) (i : Nat) (x : Ring) : (setRing s i x).pins = s.pins := rfl
@[simp] theorem setRing_loader (s : State) (i : Nat) (x : Ring) : (setRing s i x).loader = s.loader := rfl
@[simp] theorem setRing_pcie (s : State) (i : Nat) (x : Ring) : (setRing s i x).pcie = s.pcie := rfl
@[simp] theorem setRing_coffer (s : State) (i : Nat) (x : Ring) : (setRing s i x).coffer = s.coffer := rfl
@[simp] theorem setRing_out (s : State) (i : Nat) (x : Ring) : (setRing s i x).out = s.out := rfl
@[simp] theorem setRing_lastBatch (s : State) (i : Nat) (x : Ring) : (setRing s i x).lastBatch = s.lastBatch := rfl
@[simp] theorem setRing_ports (s : State) (i : Nat) (x : Ring) : (setRing s i x).ports = s.ports := rfl
@[simp] theorem setRing_portCfg (s : State) (i : Nat) (x : Ring) : (setRing s i x).portCfg = s.portCfg := rfl
@[simp] theorem setRing_lanes (s : State) (i : Nat) (x : Ring) : (setRing s i x).lanes = s.lanes := rfl
@[simp] theorem setRing_laneInv (s : State) (i : Nat) (x : Ring) : (setRing s i x).laneInv = s.laneInv := rfl
@[simp] theorem setRing_laneTaps (s : State) (i : Nat) (x : Ring) : (setRing s i x).laneTaps = s.laneTaps := rfl
@[simp] theorem setRing_teth (s : State) (i : Nat) (x : Ring) : (setRing s i x).teth = s.teth := rfl
@[simp] theorem setRing_swc (s : State) (i : Nat) (x : Ring) : (setRing s i x).swc = s.swc := rfl
@[simp] theorem setRing_tm (s : State) (i : Nat) (x : Ring) : (setRing s i x).tm = s.tm := rfl
@[simp] theorem setRing_templates (s : State) (i : Nat) (x : Ring) : (setRing s i x).templates = s.templates := rfl
@[simp] theorem setRing_assay (s : State) (i : Nat) (x : Ring) : (setRing s i x).assay = s.assay := rfl
@[simp] theorem setRing_sieve (s : State) (i : Nat) (x : Ring) : (setRing s i x).sieve = s.sieve := rfl
@[simp] theorem setRing_accord (s : State) (i : Nat) (x : Ring) : (setRing s i x).accord = s.accord := rfl
@[simp] theorem setRing_ledger (s : State) (i : Nat) (x : Ring) : (setRing s i x).ledger = s.ledger := rfl
@[simp] theorem setRing_disp (s : State) (i : Nat) (x : Ring) : (setRing s i x).disp = s.disp := rfl
@[simp] theorem setRing_tellers (s : State) (i : Nat) (x : Ring) : (setRing s i x).tellers = s.tellers := rfl
@[simp] theorem setRing_desks (s : State) (i : Nat) (x : Ring) : (setRing s i x).desks = s.desks := rfl
@[simp] theorem setRing_nose (s : State) (i : Nat) (x : Ring) : (setRing s i x).nose = s.nose := rfl
@[simp] theorem setRing_automata (s : State) (i : Nat) (x : Ring) : (setRing s i x).automata = s.automata := rfl
@[simp] theorem setRing_vault (s : State) (i : Nat) (x : Ring) : (setRing s i x).vault = s.vault := rfl
@[simp] theorem setRing_audit (s : State) (i : Nat) (x : Ring) : (setRing s i x).audit = s.audit := rfl
@[simp] theorem ringAt_setRing_same (s : State) (i : Nat) (x : Ring) : (s.setRing i x).ringAt i = x := Tbl.get_set_same ..
theorem ringAt_setRing (s : State) (i j : Nat) (x : Ring) : (s.setRing i x).ringAt j = if i = j then x else s.ringAt j := Tbl.get_set ..

@[simp] theorem setChan_pending (s : State) (i : Nat) (x : VaultCh) : (setChan s i x).pending = s.pending := rfl
@[simp] theorem setChan_free (s : State) (i : Nat) (x : VaultCh) : (setChan s i x).free = s.free := rfl
@[simp] theorem setChan_regs (s : State) (i : Nat) (x : VaultCh) : (setChan s i x).regs = s.regs := rfl
@[simp] theorem setChan_dispo (s : State) (i : Nat) (x : VaultCh) : (setChan s i x).dispo = s.dispo := rfl
@[simp] theorem setChan_time (s : State) (i : Nat) (x : VaultCh) : (setChan s i x).time = s.time := rfl
@[simp] theorem setChan_sill (s : State) (i : Nat) (x : VaultCh) : (setChan s i x).sill = s.sill := rfl
@[simp] theorem setChan_msix (s : State) (i : Nat) (x : VaultCh) : (setChan s i x).msix = s.msix := rfl
@[simp] theorem setChan_perf (s : State) (i : Nat) (x : VaultCh) : (setChan s i x).perf = s.perf := rfl
@[simp] theorem setChan_treas (s : State) (i : Nat) (x : VaultCh) : (setChan s i x).treas = s.treas := rfl
@[simp] theorem setChan_fuses (s : State) (i : Nat) (x : VaultCh) : (setChan s i x).fuses = s.fuses := rfl
@[simp] theorem setChan_sec (s : State) (i : Nat) (x : VaultCh) : (setChan s i x).sec = s.sec := rfl
@[simp] theorem setChan_pins (s : State) (i : Nat) (x : VaultCh) : (setChan s i x).pins = s.pins := rfl
@[simp] theorem setChan_loader (s : State) (i : Nat) (x : VaultCh) : (setChan s i x).loader = s.loader := rfl
@[simp] theorem setChan_pcie (s : State) (i : Nat) (x : VaultCh) : (setChan s i x).pcie = s.pcie := rfl
@[simp] theorem setChan_coffer (s : State) (i : Nat) (x : VaultCh) : (setChan s i x).coffer = s.coffer := rfl
@[simp] theorem setChan_rings (s : State) (i : Nat) (x : VaultCh) : (setChan s i x).rings = s.rings := rfl
@[simp] theorem setChan_out (s : State) (i : Nat) (x : VaultCh) : (setChan s i x).out = s.out := rfl
@[simp] theorem setChan_lastBatch (s : State) (i : Nat) (x : VaultCh) : (setChan s i x).lastBatch = s.lastBatch := rfl
@[simp] theorem setChan_ports (s : State) (i : Nat) (x : VaultCh) : (setChan s i x).ports = s.ports := rfl
@[simp] theorem setChan_portCfg (s : State) (i : Nat) (x : VaultCh) : (setChan s i x).portCfg = s.portCfg := rfl
@[simp] theorem setChan_lanes (s : State) (i : Nat) (x : VaultCh) : (setChan s i x).lanes = s.lanes := rfl
@[simp] theorem setChan_laneInv (s : State) (i : Nat) (x : VaultCh) : (setChan s i x).laneInv = s.laneInv := rfl
@[simp] theorem setChan_laneTaps (s : State) (i : Nat) (x : VaultCh) : (setChan s i x).laneTaps = s.laneTaps := rfl
@[simp] theorem setChan_teth (s : State) (i : Nat) (x : VaultCh) : (setChan s i x).teth = s.teth := rfl
@[simp] theorem setChan_swc (s : State) (i : Nat) (x : VaultCh) : (setChan s i x).swc = s.swc := rfl
@[simp] theorem setChan_tm (s : State) (i : Nat) (x : VaultCh) : (setChan s i x).tm = s.tm := rfl
@[simp] theorem setChan_templates (s : State) (i : Nat) (x : VaultCh) : (setChan s i x).templates = s.templates := rfl
@[simp] theorem setChan_assay (s : State) (i : Nat) (x : VaultCh) : (setChan s i x).assay = s.assay := rfl
@[simp] theorem setChan_sieve (s : State) (i : Nat) (x : VaultCh) : (setChan s i x).sieve = s.sieve := rfl
@[simp] theorem setChan_accord (s : State) (i : Nat) (x : VaultCh) : (setChan s i x).accord = s.accord := rfl
@[simp] theorem setChan_ledger (s : State) (i : Nat) (x : VaultCh) : (setChan s i x).ledger = s.ledger := rfl
@[simp] theorem setChan_disp (s : State) (i : Nat) (x : VaultCh) : (setChan s i x).disp = s.disp := rfl
@[simp] theorem setChan_tellers (s : State) (i : Nat) (x : VaultCh) : (setChan s i x).tellers = s.tellers := rfl
@[simp] theorem setChan_desks (s : State) (i : Nat) (x : VaultCh) : (setChan s i x).desks = s.desks := rfl
@[simp] theorem setChan_nose (s : State) (i : Nat) (x : VaultCh) : (setChan s i x).nose = s.nose := rfl
@[simp] theorem setChan_automata (s : State) (i : Nat) (x : VaultCh) : (setChan s i x).automata = s.automata := rfl
@[simp] theorem setChan_audit (s : State) (i : Nat) (x : VaultCh) : (setChan s i x).audit = s.audit := rfl
@[simp] theorem chanAt_setChan_same (s : State) (i : Nat) (x : VaultCh) : (s.setChan i x).chanAt i = x := Tbl.get_set_same ..
theorem chanAt_setChan (s : State) (i j : Nat) (x : VaultCh) : (s.setChan i x).chanAt j = if i = j then x else s.chanAt j := Tbl.get_set ..

@[simp] theorem setSched_pending (s : State) (i : Nat) (x : Sched) : (setSched s i x).pending = s.pending := rfl
@[simp] theorem setSched_free (s : State) (i : Nat) (x : Sched) : (setSched s i x).free = s.free := rfl
@[simp] theorem setSched_regs (s : State) (i : Nat) (x : Sched) : (setSched s i x).regs = s.regs := rfl
@[simp] theorem setSched_dispo (s : State) (i : Nat) (x : Sched) : (setSched s i x).dispo = s.dispo := rfl
@[simp] theorem setSched_time (s : State) (i : Nat) (x : Sched) : (setSched s i x).time = s.time := rfl
@[simp] theorem setSched_sill (s : State) (i : Nat) (x : Sched) : (setSched s i x).sill = s.sill := rfl
@[simp] theorem setSched_msix (s : State) (i : Nat) (x : Sched) : (setSched s i x).msix = s.msix := rfl
@[simp] theorem setSched_perf (s : State) (i : Nat) (x : Sched) : (setSched s i x).perf = s.perf := rfl
@[simp] theorem setSched_treas (s : State) (i : Nat) (x : Sched) : (setSched s i x).treas = s.treas := rfl
@[simp] theorem setSched_fuses (s : State) (i : Nat) (x : Sched) : (setSched s i x).fuses = s.fuses := rfl
@[simp] theorem setSched_sec (s : State) (i : Nat) (x : Sched) : (setSched s i x).sec = s.sec := rfl
@[simp] theorem setSched_pins (s : State) (i : Nat) (x : Sched) : (setSched s i x).pins = s.pins := rfl
@[simp] theorem setSched_loader (s : State) (i : Nat) (x : Sched) : (setSched s i x).loader = s.loader := rfl
@[simp] theorem setSched_pcie (s : State) (i : Nat) (x : Sched) : (setSched s i x).pcie = s.pcie := rfl
@[simp] theorem setSched_coffer (s : State) (i : Nat) (x : Sched) : (setSched s i x).coffer = s.coffer := rfl
@[simp] theorem setSched_rings (s : State) (i : Nat) (x : Sched) : (setSched s i x).rings = s.rings := rfl
@[simp] theorem setSched_out (s : State) (i : Nat) (x : Sched) : (setSched s i x).out = s.out := rfl
@[simp] theorem setSched_lastBatch (s : State) (i : Nat) (x : Sched) : (setSched s i x).lastBatch = s.lastBatch := rfl
@[simp] theorem setSched_ports (s : State) (i : Nat) (x : Sched) : (setSched s i x).ports = s.ports := rfl
@[simp] theorem setSched_portCfg (s : State) (i : Nat) (x : Sched) : (setSched s i x).portCfg = s.portCfg := rfl
@[simp] theorem setSched_lanes (s : State) (i : Nat) (x : Sched) : (setSched s i x).lanes = s.lanes := rfl
@[simp] theorem setSched_laneInv (s : State) (i : Nat) (x : Sched) : (setSched s i x).laneInv = s.laneInv := rfl
@[simp] theorem setSched_laneTaps (s : State) (i : Nat) (x : Sched) : (setSched s i x).laneTaps = s.laneTaps := rfl
@[simp] theorem setSched_teth (s : State) (i : Nat) (x : Sched) : (setSched s i x).teth = s.teth := rfl
@[simp] theorem setSched_swc (s : State) (i : Nat) (x : Sched) : (setSched s i x).swc = s.swc := rfl
@[simp] theorem setSched_templates (s : State) (i : Nat) (x : Sched) : (setSched s i x).templates = s.templates := rfl
@[simp] theorem setSched_assay (s : State) (i : Nat) (x : Sched) : (setSched s i x).assay = s.assay := rfl
@[simp] theorem setSched_sieve (s : State) (i : Nat) (x : Sched) : (setSched s i x).sieve = s.sieve := rfl
@[simp] theorem setSched_accord (s : State) (i : Nat) (x : Sched) : (setSched s i x).accord = s.accord := rfl
@[simp] theorem setSched_ledger (s : State) (i : Nat) (x : Sched) : (setSched s i x).ledger = s.ledger := rfl
@[simp] theorem setSched_disp (s : State) (i : Nat) (x : Sched) : (setSched s i x).disp = s.disp := rfl
@[simp] theorem setSched_tellers (s : State) (i : Nat) (x : Sched) : (setSched s i x).tellers = s.tellers := rfl
@[simp] theorem setSched_desks (s : State) (i : Nat) (x : Sched) : (setSched s i x).desks = s.desks := rfl
@[simp] theorem setSched_nose (s : State) (i : Nat) (x : Sched) : (setSched s i x).nose = s.nose := rfl
@[simp] theorem setSched_automata (s : State) (i : Nat) (x : Sched) : (setSched s i x).automata = s.automata := rfl
@[simp] theorem setSched_vault (s : State) (i : Nat) (x : Sched) : (setSched s i x).vault = s.vault := rfl
@[simp] theorem setSched_audit (s : State) (i : Nat) (x : Sched) : (setSched s i x).audit = s.audit := rfl
@[simp] theorem schedAt_setSched_same (s : State) (i : Nat) (x : Sched) : (s.setSched i x).schedAt i = x := Tbl.get_set_same ..
theorem schedAt_setSched (s : State) (i j : Nat) (x : Sched) : (s.setSched i x).schedAt j = if i = j then x else s.schedAt j := Tbl.get_set ..

@[simp] theorem setClass_pending (s : State) (i : Nat) (x : TmClass) : (setClass s i x).pending = s.pending := rfl
@[simp] theorem setClass_free (s : State) (i : Nat) (x : TmClass) : (setClass s i x).free = s.free := rfl
@[simp] theorem setClass_regs (s : State) (i : Nat) (x : TmClass) : (setClass s i x).regs = s.regs := rfl
@[simp] theorem setClass_dispo (s : State) (i : Nat) (x : TmClass) : (setClass s i x).dispo = s.dispo := rfl
@[simp] theorem setClass_time (s : State) (i : Nat) (x : TmClass) : (setClass s i x).time = s.time := rfl
@[simp] theorem setClass_sill (s : State) (i : Nat) (x : TmClass) : (setClass s i x).sill = s.sill := rfl
@[simp] theorem setClass_msix (s : State) (i : Nat) (x : TmClass) : (setClass s i x).msix = s.msix := rfl
@[simp] theorem setClass_perf (s : State) (i : Nat) (x : TmClass) : (setClass s i x).perf = s.perf := rfl
@[simp] theorem setClass_treas (s : State) (i : Nat) (x : TmClass) : (setClass s i x).treas = s.treas := rfl
@[simp] theorem setClass_fuses (s : State) (i : Nat) (x : TmClass) : (setClass s i x).fuses = s.fuses := rfl
@[simp] theorem setClass_sec (s : State) (i : Nat) (x : TmClass) : (setClass s i x).sec = s.sec := rfl
@[simp] theorem setClass_pins (s : State) (i : Nat) (x : TmClass) : (setClass s i x).pins = s.pins := rfl
@[simp] theorem setClass_loader (s : State) (i : Nat) (x : TmClass) : (setClass s i x).loader = s.loader := rfl
@[simp] theorem setClass_pcie (s : State) (i : Nat) (x : TmClass) : (setClass s i x).pcie = s.pcie := rfl
@[simp] theorem setClass_coffer (s : State) (i : Nat) (x : TmClass) : (setClass s i x).coffer = s.coffer := rfl
@[simp] theorem setClass_rings (s : State) (i : Nat) (x : TmClass) : (setClass s i x).rings = s.rings := rfl
@[simp] theorem setClass_out (s : State) (i : Nat) (x : TmClass) : (setClass s i x).out = s.out := rfl
@[simp] theorem setClass_lastBatch (s : State) (i : Nat) (x : TmClass) : (setClass s i x).lastBatch = s.lastBatch := rfl
@[simp] theorem setClass_ports (s : State) (i : Nat) (x : TmClass) : (setClass s i x).ports = s.ports := rfl
@[simp] theorem setClass_portCfg (s : State) (i : Nat) (x : TmClass) : (setClass s i x).portCfg = s.portCfg := rfl
@[simp] theorem setClass_lanes (s : State) (i : Nat) (x : TmClass) : (setClass s i x).lanes = s.lanes := rfl
@[simp] theorem setClass_laneInv (s : State) (i : Nat) (x : TmClass) : (setClass s i x).laneInv = s.laneInv := rfl
@[simp] theorem setClass_laneTaps (s : State) (i : Nat) (x : TmClass) : (setClass s i x).laneTaps = s.laneTaps := rfl
@[simp] theorem setClass_teth (s : State) (i : Nat) (x : TmClass) : (setClass s i x).teth = s.teth := rfl
@[simp] theorem setClass_swc (s : State) (i : Nat) (x : TmClass) : (setClass s i x).swc = s.swc := rfl
@[simp] theorem setClass_templates (s : State) (i : Nat) (x : TmClass) : (setClass s i x).templates = s.templates := rfl
@[simp] theorem setClass_assay (s : State) (i : Nat) (x : TmClass) : (setClass s i x).assay = s.assay := rfl
@[simp] theorem setClass_sieve (s : State) (i : Nat) (x : TmClass) : (setClass s i x).sieve = s.sieve := rfl
@[simp] theorem setClass_accord (s : State) (i : Nat) (x : TmClass) : (setClass s i x).accord = s.accord := rfl
@[simp] theorem setClass_ledger (s : State) (i : Nat) (x : TmClass) : (setClass s i x).ledger = s.ledger := rfl
@[simp] theorem setClass_disp (s : State) (i : Nat) (x : TmClass) : (setClass s i x).disp = s.disp := rfl
@[simp] theorem setClass_tellers (s : State) (i : Nat) (x : TmClass) : (setClass s i x).tellers = s.tellers := rfl
@[simp] theorem setClass_desks (s : State) (i : Nat) (x : TmClass) : (setClass s i x).desks = s.desks := rfl
@[simp] theorem setClass_nose (s : State) (i : Nat) (x : TmClass) : (setClass s i x).nose = s.nose := rfl
@[simp] theorem setClass_automata (s : State) (i : Nat) (x : TmClass) : (setClass s i x).automata = s.automata := rfl
@[simp] theorem setClass_vault (s : State) (i : Nat) (x : TmClass) : (setClass s i x).vault = s.vault := rfl
@[simp] theorem setClass_audit (s : State) (i : Nat) (x : TmClass) : (setClass s i x).audit = s.audit := rfl
@[simp] theorem classAt_setClass_same (s : State) (i : Nat) (x : TmClass) : (s.setClass i x).classAt i = x := Tbl.get_set_same ..
theorem classAt_setClass (s : State) (i j : Nat) (x : TmClass) : (s.setClass i x).classAt j = if i = j then x else s.classAt j := Tbl.get_set ..

@[simp] theorem setUser_pending (s : State) (i : Nat) (x : AllowUser) : (setUser s i x).pending = s.pending := rfl
@[simp] theorem setUser_free (s : State) (i : Nat) (x : AllowUser) : (setUser s i x).free = s.free := rfl
@[simp] theorem setUser_regs (s : State) (i : Nat) (x : AllowUser) : (setUser s i x).regs = s.regs := rfl
@[simp] theorem setUser_dispo (s : State) (i : Nat) (x : AllowUser) : (setUser s i x).dispo = s.dispo := rfl
@[simp] theorem setUser_time (s : State) (i : Nat) (x : AllowUser) : (setUser s i x).time = s.time := rfl
@[simp] theorem setUser_sill (s : State) (i : Nat) (x : AllowUser) : (setUser s i x).sill = s.sill := rfl
@[simp] theorem setUser_msix (s : State) (i : Nat) (x : AllowUser) : (setUser s i x).msix = s.msix := rfl
@[simp] theorem setUser_perf (s : State) (i : Nat) (x : AllowUser) : (setUser s i x).perf = s.perf := rfl
@[simp] theorem setUser_fuses (s : State) (i : Nat) (x : AllowUser) : (setUser s i x).fuses = s.fuses := rfl
@[simp] theorem setUser_sec (s : State) (i : Nat) (x : AllowUser) : (setUser s i x).sec = s.sec := rfl
@[simp] theorem setUser_pins (s : State) (i : Nat) (x : AllowUser) : (setUser s i x).pins = s.pins := rfl
@[simp] theorem setUser_loader (s : State) (i : Nat) (x : AllowUser) : (setUser s i x).loader = s.loader := rfl
@[simp] theorem setUser_pcie (s : State) (i : Nat) (x : AllowUser) : (setUser s i x).pcie = s.pcie := rfl
@[simp] theorem setUser_coffer (s : State) (i : Nat) (x : AllowUser) : (setUser s i x).coffer = s.coffer := rfl
@[simp] theorem setUser_rings (s : State) (i : Nat) (x : AllowUser) : (setUser s i x).rings = s.rings := rfl
@[simp] theorem setUser_out (s : State) (i : Nat) (x : AllowUser) : (setUser s i x).out = s.out := rfl
@[simp] theorem setUser_lastBatch (s : State) (i : Nat) (x : AllowUser) : (setUser s i x).lastBatch = s.lastBatch := rfl
@[simp] theorem setUser_ports (s : State) (i : Nat) (x : AllowUser) : (setUser s i x).ports = s.ports := rfl
@[simp] theorem setUser_portCfg (s : State) (i : Nat) (x : AllowUser) : (setUser s i x).portCfg = s.portCfg := rfl
@[simp] theorem setUser_lanes (s : State) (i : Nat) (x : AllowUser) : (setUser s i x).lanes = s.lanes := rfl
@[simp] theorem setUser_laneInv (s : State) (i : Nat) (x : AllowUser) : (setUser s i x).laneInv = s.laneInv := rfl
@[simp] theorem setUser_laneTaps (s : State) (i : Nat) (x : AllowUser) : (setUser s i x).laneTaps = s.laneTaps := rfl
@[simp] theorem setUser_teth (s : State) (i : Nat) (x : AllowUser) : (setUser s i x).teth = s.teth := rfl
@[simp] theorem setUser_swc (s : State) (i : Nat) (x : AllowUser) : (setUser s i x).swc = s.swc := rfl
@[simp] theorem setUser_tm (s : State) (i : Nat) (x : AllowUser) : (setUser s i x).tm = s.tm := rfl
@[simp] theorem setUser_templates (s : State) (i : Nat) (x : AllowUser) : (setUser s i x).templates = s.templates := rfl
@[simp] theorem setUser_assay (s : State) (i : Nat) (x : AllowUser) : (setUser s i x).assay = s.assay := rfl
@[simp] theorem setUser_sieve (s : State) (i : Nat) (x : AllowUser) : (setUser s i x).sieve = s.sieve := rfl
@[simp] theorem setUser_accord (s : State) (i : Nat) (x : AllowUser) : (setUser s i x).accord = s.accord := rfl
@[simp] theorem setUser_ledger (s : State) (i : Nat) (x : AllowUser) : (setUser s i x).ledger = s.ledger := rfl
@[simp] theorem setUser_disp (s : State) (i : Nat) (x : AllowUser) : (setUser s i x).disp = s.disp := rfl
@[simp] theorem setUser_tellers (s : State) (i : Nat) (x : AllowUser) : (setUser s i x).tellers = s.tellers := rfl
@[simp] theorem setUser_desks (s : State) (i : Nat) (x : AllowUser) : (setUser s i x).desks = s.desks := rfl
@[simp] theorem setUser_nose (s : State) (i : Nat) (x : AllowUser) : (setUser s i x).nose = s.nose := rfl
@[simp] theorem setUser_automata (s : State) (i : Nat) (x : AllowUser) : (setUser s i x).automata = s.automata := rfl
@[simp] theorem setUser_vault (s : State) (i : Nat) (x : AllowUser) : (setUser s i x).vault = s.vault := rfl
@[simp] theorem setUser_audit (s : State) (i : Nat) (x : AllowUser) : (setUser s i x).audit = s.audit := rfl
@[simp] theorem userAt_setUser_same (s : State) (i : Nat) (x : AllowUser) : (s.setUser i x).userAt i = x := Tbl.get_set_same ..
theorem userAt_setUser (s : State) (i j : Nat) (x : AllowUser) : (s.setUser i x).userAt j = if i = j then x else s.userAt j := Tbl.get_set ..

@[simp] theorem setDom_pending (s : State) (i : Nat) (x : DomState) : (setDom s i x).pending = s.pending := rfl
@[simp] theorem setDom_free (s : State) (i : Nat) (x : DomState) : (setDom s i x).free = s.free := rfl
@[simp] theorem setDom_regs (s : State) (i : Nat) (x : DomState) : (setDom s i x).regs = s.regs := rfl
@[simp] theorem setDom_dispo (s : State) (i : Nat) (x : DomState) : (setDom s i x).dispo = s.dispo := rfl
@[simp] theorem setDom_time (s : State) (i : Nat) (x : DomState) : (setDom s i x).time = s.time := rfl
@[simp] theorem setDom_sill (s : State) (i : Nat) (x : DomState) : (setDom s i x).sill = s.sill := rfl
@[simp] theorem setDom_msix (s : State) (i : Nat) (x : DomState) : (setDom s i x).msix = s.msix := rfl
@[simp] theorem setDom_perf (s : State) (i : Nat) (x : DomState) : (setDom s i x).perf = s.perf := rfl
@[simp] theorem setDom_fuses (s : State) (i : Nat) (x : DomState) : (setDom s i x).fuses = s.fuses := rfl
@[simp] theorem setDom_sec (s : State) (i : Nat) (x : DomState) : (setDom s i x).sec = s.sec := rfl
@[simp] theorem setDom_pins (s : State) (i : Nat) (x : DomState) : (setDom s i x).pins = s.pins := rfl
@[simp] theorem setDom_loader (s : State) (i : Nat) (x : DomState) : (setDom s i x).loader = s.loader := rfl
@[simp] theorem setDom_pcie (s : State) (i : Nat) (x : DomState) : (setDom s i x).pcie = s.pcie := rfl
@[simp] theorem setDom_coffer (s : State) (i : Nat) (x : DomState) : (setDom s i x).coffer = s.coffer := rfl
@[simp] theorem setDom_rings (s : State) (i : Nat) (x : DomState) : (setDom s i x).rings = s.rings := rfl
@[simp] theorem setDom_out (s : State) (i : Nat) (x : DomState) : (setDom s i x).out = s.out := rfl
@[simp] theorem setDom_lastBatch (s : State) (i : Nat) (x : DomState) : (setDom s i x).lastBatch = s.lastBatch := rfl
@[simp] theorem setDom_ports (s : State) (i : Nat) (x : DomState) : (setDom s i x).ports = s.ports := rfl
@[simp] theorem setDom_portCfg (s : State) (i : Nat) (x : DomState) : (setDom s i x).portCfg = s.portCfg := rfl
@[simp] theorem setDom_lanes (s : State) (i : Nat) (x : DomState) : (setDom s i x).lanes = s.lanes := rfl
@[simp] theorem setDom_laneInv (s : State) (i : Nat) (x : DomState) : (setDom s i x).laneInv = s.laneInv := rfl
@[simp] theorem setDom_laneTaps (s : State) (i : Nat) (x : DomState) : (setDom s i x).laneTaps = s.laneTaps := rfl
@[simp] theorem setDom_teth (s : State) (i : Nat) (x : DomState) : (setDom s i x).teth = s.teth := rfl
@[simp] theorem setDom_swc (s : State) (i : Nat) (x : DomState) : (setDom s i x).swc = s.swc := rfl
@[simp] theorem setDom_tm (s : State) (i : Nat) (x : DomState) : (setDom s i x).tm = s.tm := rfl
@[simp] theorem setDom_templates (s : State) (i : Nat) (x : DomState) : (setDom s i x).templates = s.templates := rfl
@[simp] theorem setDom_assay (s : State) (i : Nat) (x : DomState) : (setDom s i x).assay = s.assay := rfl
@[simp] theorem setDom_sieve (s : State) (i : Nat) (x : DomState) : (setDom s i x).sieve = s.sieve := rfl
@[simp] theorem setDom_accord (s : State) (i : Nat) (x : DomState) : (setDom s i x).accord = s.accord := rfl
@[simp] theorem setDom_ledger (s : State) (i : Nat) (x : DomState) : (setDom s i x).ledger = s.ledger := rfl
@[simp] theorem setDom_disp (s : State) (i : Nat) (x : DomState) : (setDom s i x).disp = s.disp := rfl
@[simp] theorem setDom_tellers (s : State) (i : Nat) (x : DomState) : (setDom s i x).tellers = s.tellers := rfl
@[simp] theorem setDom_desks (s : State) (i : Nat) (x : DomState) : (setDom s i x).desks = s.desks := rfl
@[simp] theorem setDom_nose (s : State) (i : Nat) (x : DomState) : (setDom s i x).nose = s.nose := rfl
@[simp] theorem setDom_automata (s : State) (i : Nat) (x : DomState) : (setDom s i x).automata = s.automata := rfl
@[simp] theorem setDom_vault (s : State) (i : Nat) (x : DomState) : (setDom s i x).vault = s.vault := rfl
@[simp] theorem setDom_audit (s : State) (i : Nat) (x : DomState) : (setDom s i x).audit = s.audit := rfl
@[simp] theorem domAt_setDom_same (s : State) (i : Nat) (x : DomState) : (s.setDom i x).domAt i = x := Tbl.get_set_same ..
theorem domAt_setDom (s : State) (i j : Nat) (x : DomState) : (s.setDom i x).domAt j = if i = j then x else s.domAt j := Tbl.get_set ..

@[simp] theorem modLedger_pending (s : State) (i : Nat) (g : Ledger → Ledger) : (modLedger s i g).pending = s.pending := rfl
@[simp] theorem modLedger_free (s : State) (i : Nat) (g : Ledger → Ledger) : (modLedger s i g).free = s.free := rfl
@[simp] theorem modLedger_regs (s : State) (i : Nat) (g : Ledger → Ledger) : (modLedger s i g).regs = s.regs := rfl
@[simp] theorem modLedger_dispo (s : State) (i : Nat) (g : Ledger → Ledger) : (modLedger s i g).dispo = s.dispo := rfl
@[simp] theorem modLedger_time (s : State) (i : Nat) (g : Ledger → Ledger) : (modLedger s i g).time = s.time := rfl
@[simp] theorem modLedger_sill (s : State) (i : Nat) (g : Ledger → Ledger) : (modLedger s i g).sill = s.sill := rfl
@[simp] theorem modLedger_msix (s : State) (i : Nat) (g : Ledger → Ledger) : (modLedger s i g).msix = s.msix := rfl
@[simp] theorem modLedger_perf (s : State) (i : Nat) (g : Ledger → Ledger) : (modLedger s i g).perf = s.perf := rfl
@[simp] theorem modLedger_treas (s : State) (i : Nat) (g : Ledger → Ledger) : (modLedger s i g).treas = s.treas := rfl
@[simp] theorem modLedger_fuses (s : State) (i : Nat) (g : Ledger → Ledger) : (modLedger s i g).fuses = s.fuses := rfl
@[simp] theorem modLedger_sec (s : State) (i : Nat) (g : Ledger → Ledger) : (modLedger s i g).sec = s.sec := rfl
@[simp] theorem modLedger_pins (s : State) (i : Nat) (g : Ledger → Ledger) : (modLedger s i g).pins = s.pins := rfl
@[simp] theorem modLedger_loader (s : State) (i : Nat) (g : Ledger → Ledger) : (modLedger s i g).loader = s.loader := rfl
@[simp] theorem modLedger_pcie (s : State) (i : Nat) (g : Ledger → Ledger) : (modLedger s i g).pcie = s.pcie := rfl
@[simp] theorem modLedger_coffer (s : State) (i : Nat) (g : Ledger → Ledger) : (modLedger s i g).coffer = s.coffer := rfl
@[simp] theorem modLedger_rings (s : State) (i : Nat) (g : Ledger → Ledger) : (modLedger s i g).rings = s.rings := rfl
@[simp] theorem modLedger_out (s : State) (i : Nat) (g : Ledger → Ledger) : (modLedger s i g).out = s.out := rfl
@[simp] theorem modLedger_lastBatch (s : State) (i : Nat) (g : Ledger → Ledger) : (modLedger s i g).lastBatch = s.lastBatch := rfl
@[simp] theorem modLedger_ports (s : State) (i : Nat) (g : Ledger → Ledger) : (modLedger s i g).ports = s.ports := rfl
@[simp] theorem modLedger_portCfg (s : State) (i : Nat) (g : Ledger → Ledger) : (modLedger s i g).portCfg = s.portCfg := rfl
@[simp] theorem modLedger_lanes (s : State) (i : Nat) (g : Ledger → Ledger) : (modLedger s i g).lanes = s.lanes := rfl
@[simp] theorem modLedger_laneInv (s : State) (i : Nat) (g : Ledger → Ledger) : (modLedger s i g).laneInv = s.laneInv := rfl
@[simp] theorem modLedger_laneTaps (s : State) (i : Nat) (g : Ledger → Ledger) : (modLedger s i g).laneTaps = s.laneTaps := rfl
@[simp] theorem modLedger_teth (s : State) (i : Nat) (g : Ledger → Ledger) : (modLedger s i g).teth = s.teth := rfl
@[simp] theorem modLedger_swc (s : State) (i : Nat) (g : Ledger → Ledger) : (modLedger s i g).swc = s.swc := rfl
@[simp] theorem modLedger_tm (s : State) (i : Nat) (g : Ledger → Ledger) : (modLedger s i g).tm = s.tm := rfl
@[simp] theorem modLedger_templates (s : State) (i : Nat) (g : Ledger → Ledger) : (modLedger s i g).templates = s.templates := rfl
@[simp] theorem modLedger_assay (s : State) (i : Nat) (g : Ledger → Ledger) : (modLedger s i g).assay = s.assay := rfl
@[simp] theorem modLedger_sieve (s : State) (i : Nat) (g : Ledger → Ledger) : (modLedger s i g).sieve = s.sieve := rfl
@[simp] theorem modLedger_accord (s : State) (i : Nat) (g : Ledger → Ledger) : (modLedger s i g).accord = s.accord := rfl
@[simp] theorem modLedger_disp (s : State) (i : Nat) (g : Ledger → Ledger) : (modLedger s i g).disp = s.disp := rfl
@[simp] theorem modLedger_tellers (s : State) (i : Nat) (g : Ledger → Ledger) : (modLedger s i g).tellers = s.tellers := rfl
@[simp] theorem modLedger_desks (s : State) (i : Nat) (g : Ledger → Ledger) : (modLedger s i g).desks = s.desks := rfl
@[simp] theorem modLedger_nose (s : State) (i : Nat) (g : Ledger → Ledger) : (modLedger s i g).nose = s.nose := rfl
@[simp] theorem modLedger_automata (s : State) (i : Nat) (g : Ledger → Ledger) : (modLedger s i g).automata = s.automata := rfl
@[simp] theorem modLedger_vault (s : State) (i : Nat) (g : Ledger → Ledger) : (modLedger s i g).vault = s.vault := rfl
@[simp] theorem modLedger_audit (s : State) (i : Nat) (g : Ledger → Ledger) : (modLedger s i g).audit = s.audit := rfl
@[simp] theorem ledgerAt_modLedger_same (s : State) (i : Nat) (g : Ledger → Ledger) : (s.modLedger i g).ledgerAt i = g (s.ledgerAt i) := Tbl.get_set_same ..
theorem ledgerAt_modLedger (s : State) (i j : Nat) (g : Ledger → Ledger) : (s.modLedger i g).ledgerAt j = if i = j then g (s.ledgerAt i) else s.ledgerAt j := Tbl.get_set ..

@[simp] theorem modDisp_pending (s : State) (i : Nat) (g : Disp → Disp) : (modDisp s i g).pending = s.pending := rfl
@[simp] theorem modDisp_free (s : State) (i : Nat) (g : Disp → Disp) : (modDisp s i g).free = s.free := rfl
@[simp] theorem modDisp_regs (s : State) (i : Nat) (g : Disp → Disp) : (modDisp s i g).regs = s.regs := rfl
@[simp] theorem modDisp_dispo (s : State) (i : Nat) (g : Disp → Disp) : (modDisp s i g).dispo = s.dispo := rfl
@[simp] theorem modDisp_time (s : State) (i : Nat) (g : Disp → Disp) : (modDisp s i g).time = s.time := rfl
@[simp] theorem modDisp_sill (s : State) (i : Nat) (g : Disp → Disp) : (modDisp s i g).sill = s.sill := rfl
@[simp] theorem modDisp_msix (s : State) (i : Nat) (g : Disp → Disp) : (modDisp s i g).msix = s.msix := rfl
@[simp] theorem modDisp_perf (s : State) (i : Nat) (g : Disp → Disp) : (modDisp s i g).perf = s.perf := rfl
@[simp] theorem modDisp_treas (s : State) (i : Nat) (g : Disp → Disp) : (modDisp s i g).treas = s.treas := rfl
@[simp] theorem modDisp_fuses (s : State) (i : Nat) (g : Disp → Disp) : (modDisp s i g).fuses = s.fuses := rfl
@[simp] theorem modDisp_sec (s : State) (i : Nat) (g : Disp → Disp) : (modDisp s i g).sec = s.sec := rfl
@[simp] theorem modDisp_pins (s : State) (i : Nat) (g : Disp → Disp) : (modDisp s i g).pins = s.pins := rfl
@[simp] theorem modDisp_loader (s : State) (i : Nat) (g : Disp → Disp) : (modDisp s i g).loader = s.loader := rfl
@[simp] theorem modDisp_pcie (s : State) (i : Nat) (g : Disp → Disp) : (modDisp s i g).pcie = s.pcie := rfl
@[simp] theorem modDisp_coffer (s : State) (i : Nat) (g : Disp → Disp) : (modDisp s i g).coffer = s.coffer := rfl
@[simp] theorem modDisp_rings (s : State) (i : Nat) (g : Disp → Disp) : (modDisp s i g).rings = s.rings := rfl
@[simp] theorem modDisp_out (s : State) (i : Nat) (g : Disp → Disp) : (modDisp s i g).out = s.out := rfl
@[simp] theorem modDisp_lastBatch (s : State) (i : Nat) (g : Disp → Disp) : (modDisp s i g).lastBatch = s.lastBatch := rfl
@[simp] theorem modDisp_ports (s : State) (i : Nat) (g : Disp → Disp) : (modDisp s i g).ports = s.ports := rfl
@[simp] theorem modDisp_portCfg (s : State) (i : Nat) (g : Disp → Disp) : (modDisp s i g).portCfg = s.portCfg := rfl
@[simp] theorem modDisp_lanes (s : State) (i : Nat) (g : Disp → Disp) : (modDisp s i g).lanes = s.lanes := rfl
@[simp] theorem modDisp_laneInv (s : State) (i : Nat) (g : Disp → Disp) : (modDisp s i g).laneInv = s.laneInv := rfl
@[simp] theorem modDisp_laneTaps (s : State) (i : Nat) (g : Disp → Disp) : (modDisp s i g).laneTaps = s.laneTaps := rfl
@[simp] theorem modDisp_teth (s : State) (i : Nat) (g : Disp → Disp) : (modDisp s i g).teth = s.teth := rfl
@[simp] theorem modDisp_swc (s : State) (i : Nat) (g : Disp → Disp) : (modDisp s i g).swc = s.swc := rfl
@[simp] theorem modDisp_tm (s : State) (i : Nat) (g : Disp → Disp) : (modDisp s i g).tm = s.tm := rfl
@[simp] theorem modDisp_templates (s : State) (i : Nat) (g : Disp → Disp) : (modDisp s i g).templates = s.templates := rfl
@[simp] theorem modDisp_assay (s : State) (i : Nat) (g : Disp → Disp) : (modDisp s i g).assay = s.assay := rfl
@[simp] theorem modDisp_sieve (s : State) (i : Nat) (g : Disp → Disp) : (modDisp s i g).sieve = s.sieve := rfl
@[simp] theorem modDisp_accord (s : State) (i : Nat) (g : Disp → Disp) : (modDisp s i g).accord = s.accord := rfl
@[simp] theorem modDisp_ledger (s : State) (i : Nat) (g : Disp → Disp) : (modDisp s i g).ledger = s.ledger := rfl
@[simp] theorem modDisp_tellers (s : State) (i : Nat) (g : Disp → Disp) : (modDisp s i g).tellers = s.tellers := rfl
@[simp] theorem modDisp_desks (s : State) (i : Nat) (g : Disp → Disp) : (modDisp s i g).desks = s.desks := rfl
@[simp] theorem modDisp_nose (s : State) (i : Nat) (g : Disp → Disp) : (modDisp s i g).nose = s.nose := rfl
@[simp] theorem modDisp_automata (s : State) (i : Nat) (g : Disp → Disp) : (modDisp s i g).automata = s.automata := rfl
@[simp] theorem modDisp_vault (s : State) (i : Nat) (g : Disp → Disp) : (modDisp s i g).vault = s.vault := rfl
@[simp] theorem modDisp_audit (s : State) (i : Nat) (g : Disp → Disp) : (modDisp s i g).audit = s.audit := rfl
@[simp] theorem dispAt_modDisp_same (s : State) (i : Nat) (g : Disp → Disp) : (s.modDisp i g).dispAt i = g (s.dispAt i) := Tbl.get_set_same ..
theorem dispAt_modDisp (s : State) (i j : Nat) (g : Disp → Disp) : (s.modDisp i g).dispAt j = if i = j then g (s.dispAt i) else s.dispAt j := Tbl.get_set ..

@[simp] theorem modAssay_pending (s : State) (i : Nat) (g : Assayer → Assayer) : (modAssay s i g).pending = s.pending := rfl
@[simp] theorem modAssay_free (s : State) (i : Nat) (g : Assayer → Assayer) : (modAssay s i g).free = s.free := rfl
@[simp] theorem modAssay_regs (s : State) (i : Nat) (g : Assayer → Assayer) : (modAssay s i g).regs = s.regs := rfl
@[simp] theorem modAssay_dispo (s : State) (i : Nat) (g : Assayer → Assayer) : (modAssay s i g).dispo = s.dispo := rfl
@[simp] theorem modAssay_time (s : State) (i : Nat) (g : Assayer → Assayer) : (modAssay s i g).time = s.time := rfl
@[simp] theorem modAssay_sill (s : State) (i : Nat) (g : Assayer → Assayer) : (modAssay s i g).sill = s.sill := rfl
@[simp] theorem modAssay_msix (s : State) (i : Nat) (g : Assayer → Assayer) : (modAssay s i g).msix = s.msix := rfl
@[simp] theorem modAssay_perf (s : State) (i : Nat) (g : Assayer → Assayer) : (modAssay s i g).perf = s.perf := rfl
@[simp] theorem modAssay_treas (s : State) (i : Nat) (g : Assayer → Assayer) : (modAssay s i g).treas = s.treas := rfl
@[simp] theorem modAssay_fuses (s : State) (i : Nat) (g : Assayer → Assayer) : (modAssay s i g).fuses = s.fuses := rfl
@[simp] theorem modAssay_sec (s : State) (i : Nat) (g : Assayer → Assayer) : (modAssay s i g).sec = s.sec := rfl
@[simp] theorem modAssay_pins (s : State) (i : Nat) (g : Assayer → Assayer) : (modAssay s i g).pins = s.pins := rfl
@[simp] theorem modAssay_loader (s : State) (i : Nat) (g : Assayer → Assayer) : (modAssay s i g).loader = s.loader := rfl
@[simp] theorem modAssay_pcie (s : State) (i : Nat) (g : Assayer → Assayer) : (modAssay s i g).pcie = s.pcie := rfl
@[simp] theorem modAssay_coffer (s : State) (i : Nat) (g : Assayer → Assayer) : (modAssay s i g).coffer = s.coffer := rfl
@[simp] theorem modAssay_rings (s : State) (i : Nat) (g : Assayer → Assayer) : (modAssay s i g).rings = s.rings := rfl
@[simp] theorem modAssay_out (s : State) (i : Nat) (g : Assayer → Assayer) : (modAssay s i g).out = s.out := rfl
@[simp] theorem modAssay_lastBatch (s : State) (i : Nat) (g : Assayer → Assayer) : (modAssay s i g).lastBatch = s.lastBatch := rfl
@[simp] theorem modAssay_ports (s : State) (i : Nat) (g : Assayer → Assayer) : (modAssay s i g).ports = s.ports := rfl
@[simp] theorem modAssay_portCfg (s : State) (i : Nat) (g : Assayer → Assayer) : (modAssay s i g).portCfg = s.portCfg := rfl
@[simp] theorem modAssay_lanes (s : State) (i : Nat) (g : Assayer → Assayer) : (modAssay s i g).lanes = s.lanes := rfl
@[simp] theorem modAssay_laneInv (s : State) (i : Nat) (g : Assayer → Assayer) : (modAssay s i g).laneInv = s.laneInv := rfl
@[simp] theorem modAssay_laneTaps (s : State) (i : Nat) (g : Assayer → Assayer) : (modAssay s i g).laneTaps = s.laneTaps := rfl
@[simp] theorem modAssay_teth (s : State) (i : Nat) (g : Assayer → Assayer) : (modAssay s i g).teth = s.teth := rfl
@[simp] theorem modAssay_swc (s : State) (i : Nat) (g : Assayer → Assayer) : (modAssay s i g).swc = s.swc := rfl
@[simp] theorem modAssay_tm (s : State) (i : Nat) (g : Assayer → Assayer) : (modAssay s i g).tm = s.tm := rfl
@[simp] theorem modAssay_templates (s : State) (i : Nat) (g : Assayer → Assayer) : (modAssay s i g).templates = s.templates := rfl
@[simp] theorem modAssay_sieve (s : State) (i : Nat) (g : Assayer → Assayer) : (modAssay s i g).sieve = s.sieve := rfl
@[simp] theorem modAssay_accord (s : State) (i : Nat) (g : Assayer → Assayer) : (modAssay s i g).accord = s.accord := rfl
@[simp] theorem modAssay_ledger (s : State) (i : Nat) (g : Assayer → Assayer) : (modAssay s i g).ledger = s.ledger := rfl
@[simp] theorem modAssay_disp (s : State) (i : Nat) (g : Assayer → Assayer) : (modAssay s i g).disp = s.disp := rfl
@[simp] theorem modAssay_tellers (s : State) (i : Nat) (g : Assayer → Assayer) : (modAssay s i g).tellers = s.tellers := rfl
@[simp] theorem modAssay_desks (s : State) (i : Nat) (g : Assayer → Assayer) : (modAssay s i g).desks = s.desks := rfl
@[simp] theorem modAssay_nose (s : State) (i : Nat) (g : Assayer → Assayer) : (modAssay s i g).nose = s.nose := rfl
@[simp] theorem modAssay_automata (s : State) (i : Nat) (g : Assayer → Assayer) : (modAssay s i g).automata = s.automata := rfl
@[simp] theorem modAssay_vault (s : State) (i : Nat) (g : Assayer → Assayer) : (modAssay s i g).vault = s.vault := rfl
@[simp] theorem modAssay_audit (s : State) (i : Nat) (g : Assayer → Assayer) : (modAssay s i g).audit = s.audit := rfl
@[simp] theorem assayAt_modAssay_same (s : State) (i : Nat) (g : Assayer → Assayer) : (s.modAssay i g).assayAt i = g (s.assayAt i) := Tbl.get_set_same ..
theorem assayAt_modAssay (s : State) (i j : Nat) (g : Assayer → Assayer) : (s.modAssay i g).assayAt j = if i = j then g (s.assayAt i) else s.assayAt j := Tbl.get_set ..

@[simp] theorem modNose_pending (s : State) (i : Nat) (g : Nose → Nose) : (modNose s i g).pending = s.pending := rfl
@[simp] theorem modNose_free (s : State) (i : Nat) (g : Nose → Nose) : (modNose s i g).free = s.free := rfl
@[simp] theorem modNose_regs (s : State) (i : Nat) (g : Nose → Nose) : (modNose s i g).regs = s.regs := rfl
@[simp] theorem modNose_dispo (s : State) (i : Nat) (g : Nose → Nose) : (modNose s i g).dispo = s.dispo := rfl
@[simp] theorem modNose_time (s : State) (i : Nat) (g : Nose → Nose) : (modNose s i g).time = s.time := rfl
@[simp] theorem modNose_sill (s : State) (i : Nat) (g : Nose → Nose) : (modNose s i g).sill = s.sill := rfl
@[simp] theorem modNose_msix (s : State) (i : Nat) (g : Nose → Nose) : (modNose s i g).msix = s.msix := rfl
@[simp] theorem modNose_perf (s : State) (i : Nat) (g : Nose → Nose) : (modNose s i g).perf = s.perf := rfl
@[simp] theorem modNose_treas (s : State) (i : Nat) (g : Nose → Nose) : (modNose s i g).treas = s.treas := rfl
@[simp] theorem modNose_fuses (s : State) (i : Nat) (g : Nose → Nose) : (modNose s i g).fuses = s.fuses := rfl
@[simp] theorem modNose_sec (s : State) (i : Nat) (g : Nose → Nose) : (modNose s i g).sec = s.sec := rfl
@[simp] theorem modNose_pins (s : State) (i : Nat) (g : Nose → Nose) : (modNose s i g).pins = s.pins := rfl
@[simp] theorem modNose_loader (s : State) (i : Nat) (g : Nose → Nose) : (modNose s i g).loader = s.loader := rfl
@[simp] theorem modNose_pcie (s : State) (i : Nat) (g : Nose → Nose) : (modNose s i g).pcie = s.pcie := rfl
@[simp] theorem modNose_coffer (s : State) (i : Nat) (g : Nose → Nose) : (modNose s i g).coffer = s.coffer := rfl
@[simp] theorem modNose_rings (s : State) (i : Nat) (g : Nose → Nose) : (modNose s i g).rings = s.rings := rfl
@[simp] theorem modNose_out (s : State) (i : Nat) (g : Nose → Nose) : (modNose s i g).out = s.out := rfl
@[simp] theorem modNose_lastBatch (s : State) (i : Nat) (g : Nose → Nose) : (modNose s i g).lastBatch = s.lastBatch := rfl
@[simp] theorem modNose_ports (s : State) (i : Nat) (g : Nose → Nose) : (modNose s i g).ports = s.ports := rfl
@[simp] theorem modNose_portCfg (s : State) (i : Nat) (g : Nose → Nose) : (modNose s i g).portCfg = s.portCfg := rfl
@[simp] theorem modNose_lanes (s : State) (i : Nat) (g : Nose → Nose) : (modNose s i g).lanes = s.lanes := rfl
@[simp] theorem modNose_laneInv (s : State) (i : Nat) (g : Nose → Nose) : (modNose s i g).laneInv = s.laneInv := rfl
@[simp] theorem modNose_laneTaps (s : State) (i : Nat) (g : Nose → Nose) : (modNose s i g).laneTaps = s.laneTaps := rfl
@[simp] theorem modNose_teth (s : State) (i : Nat) (g : Nose → Nose) : (modNose s i g).teth = s.teth := rfl
@[simp] theorem modNose_swc (s : State) (i : Nat) (g : Nose → Nose) : (modNose s i g).swc = s.swc := rfl
@[simp] theorem modNose_tm (s : State) (i : Nat) (g : Nose → Nose) : (modNose s i g).tm = s.tm := rfl
@[simp] theorem modNose_templates (s : State) (i : Nat) (g : Nose → Nose) : (modNose s i g).templates = s.templates := rfl
@[simp] theorem modNose_assay (s : State) (i : Nat) (g : Nose → Nose) : (modNose s i g).assay = s.assay := rfl
@[simp] theorem modNose_sieve (s : State) (i : Nat) (g : Nose → Nose) : (modNose s i g).sieve = s.sieve := rfl
@[simp] theorem modNose_accord (s : State) (i : Nat) (g : Nose → Nose) : (modNose s i g).accord = s.accord := rfl
@[simp] theorem modNose_ledger (s : State) (i : Nat) (g : Nose → Nose) : (modNose s i g).ledger = s.ledger := rfl
@[simp] theorem modNose_disp (s : State) (i : Nat) (g : Nose → Nose) : (modNose s i g).disp = s.disp := rfl
@[simp] theorem modNose_tellers (s : State) (i : Nat) (g : Nose → Nose) : (modNose s i g).tellers = s.tellers := rfl
@[simp] theorem modNose_desks (s : State) (i : Nat) (g : Nose → Nose) : (modNose s i g).desks = s.desks := rfl
@[simp] theorem modNose_automata (s : State) (i : Nat) (g : Nose → Nose) : (modNose s i g).automata = s.automata := rfl
@[simp] theorem modNose_vault (s : State) (i : Nat) (g : Nose → Nose) : (modNose s i g).vault = s.vault := rfl
@[simp] theorem modNose_audit (s : State) (i : Nat) (g : Nose → Nose) : (modNose s i g).audit = s.audit := rfl
@[simp] theorem noseAt_modNose_same (s : State) (i : Nat) (g : Nose → Nose) : (s.modNose i g).noseAt i = g (s.noseAt i) := Tbl.get_set_same ..
theorem noseAt_modNose (s : State) (i j : Nat) (g : Nose → Nose) : (s.modNose i g).noseAt j = if i = j then g (s.noseAt i) else s.noseAt j := Tbl.get_set ..

@[simp] theorem modTeller_pending (s : State) (i : Nat) (g : Teller → Teller) : (modTeller s i g).pending = s.pending := rfl
@[simp] theorem modTeller_free (s : State) (i : Nat) (g : Teller → Teller) : (modTeller s i g).free = s.free := rfl
@[simp] theorem modTeller_regs (s : State) (i : Nat) (g : Teller → Teller) : (modTeller s i g).regs = s.regs := rfl
@[simp] theorem modTeller_dispo (s : State) (i : Nat) (g : Teller → Teller) : (modTeller s i g).dispo = s.dispo := rfl
@[simp] theorem modTeller_time (s : State) (i : Nat) (g : Teller → Teller) : (modTeller s i g).time = s.time := rfl
@[simp] theorem modTeller_sill (s : State) (i : Nat) (g : Teller → Teller) : (modTeller s i g).sill = s.sill := rfl
@[simp] theorem modTeller_msix (s : State) (i : Nat) (g : Teller → Teller) : (modTeller s i g).msix = s.msix := rfl
@[simp] theorem modTeller_perf (s : State) (i : Nat) (g : Teller → Teller) : (modTeller s i g).perf = s.perf := rfl
@[simp] theorem modTeller_treas (s : State) (i : Nat) (g : Teller → Teller) : (modTeller s i g).treas = s.treas := rfl
@[simp] theorem modTeller_fuses (s : State) (i : Nat) (g : Teller → Teller) : (modTeller s i g).fuses = s.fuses := rfl
@[simp] theorem modTeller_sec (s : State) (i : Nat) (g : Teller → Teller) : (modTeller s i g).sec = s.sec := rfl
@[simp] theorem modTeller_pins (s : State) (i : Nat) (g : Teller → Teller) : (modTeller s i g).pins = s.pins := rfl
@[simp] theorem modTeller_loader (s : State) (i : Nat) (g : Teller → Teller) : (modTeller s i g).loader = s.loader := rfl
@[simp] theorem modTeller_pcie (s : State) (i : Nat) (g : Teller → Teller) : (modTeller s i g).pcie = s.pcie := rfl
@[simp] theorem modTeller_coffer (s : State) (i : Nat) (g : Teller → Teller) : (modTeller s i g).coffer = s.coffer := rfl
@[simp] theorem modTeller_rings (s : State) (i : Nat) (g : Teller → Teller) : (modTeller s i g).rings = s.rings := rfl
@[simp] theorem modTeller_out (s : State) (i : Nat) (g : Teller → Teller) : (modTeller s i g).out = s.out := rfl
@[simp] theorem modTeller_lastBatch (s : State) (i : Nat) (g : Teller → Teller) : (modTeller s i g).lastBatch = s.lastBatch := rfl
@[simp] theorem modTeller_ports (s : State) (i : Nat) (g : Teller → Teller) : (modTeller s i g).ports = s.ports := rfl
@[simp] theorem modTeller_portCfg (s : State) (i : Nat) (g : Teller → Teller) : (modTeller s i g).portCfg = s.portCfg := rfl
@[simp] theorem modTeller_lanes (s : State) (i : Nat) (g : Teller → Teller) : (modTeller s i g).lanes = s.lanes := rfl
@[simp] theorem modTeller_laneInv (s : State) (i : Nat) (g : Teller → Teller) : (modTeller s i g).laneInv = s.laneInv := rfl
@[simp] theorem modTeller_laneTaps (s : State) (i : Nat) (g : Teller → Teller) : (modTeller s i g).laneTaps = s.laneTaps := rfl
@[simp] theorem modTeller_teth (s : State) (i : Nat) (g : Teller → Teller) : (modTeller s i g).teth = s.teth := rfl
@[simp] theorem modTeller_swc (s : State) (i : Nat) (g : Teller → Teller) : (modTeller s i g).swc = s.swc := rfl
@[simp] theorem modTeller_tm (s : State) (i : Nat) (g : Teller → Teller) : (modTeller s i g).tm = s.tm := rfl
@[simp] theorem modTeller_templates (s : State) (i : Nat) (g : Teller → Teller) : (modTeller s i g).templates = s.templates := rfl
@[simp] theorem modTeller_assay (s : State) (i : Nat) (g : Teller → Teller) : (modTeller s i g).assay = s.assay := rfl
@[simp] theorem modTeller_sieve (s : State) (i : Nat) (g : Teller → Teller) : (modTeller s i g).sieve = s.sieve := rfl
@[simp] theorem modTeller_accord (s : State) (i : Nat) (g : Teller → Teller) : (modTeller s i g).accord = s.accord := rfl
@[simp] theorem modTeller_ledger (s : State) (i : Nat) (g : Teller → Teller) : (modTeller s i g).ledger = s.ledger := rfl
@[simp] theorem modTeller_disp (s : State) (i : Nat) (g : Teller → Teller) : (modTeller s i g).disp = s.disp := rfl
@[simp] theorem modTeller_desks (s : State) (i : Nat) (g : Teller → Teller) : (modTeller s i g).desks = s.desks := rfl
@[simp] theorem modTeller_nose (s : State) (i : Nat) (g : Teller → Teller) : (modTeller s i g).nose = s.nose := rfl
@[simp] theorem modTeller_automata (s : State) (i : Nat) (g : Teller → Teller) : (modTeller s i g).automata = s.automata := rfl
@[simp] theorem modTeller_vault (s : State) (i : Nat) (g : Teller → Teller) : (modTeller s i g).vault = s.vault := rfl
@[simp] theorem modTeller_audit (s : State) (i : Nat) (g : Teller → Teller) : (modTeller s i g).audit = s.audit := rfl
@[simp] theorem tellerAt_modTeller_same (s : State) (i : Nat) (g : Teller → Teller) : (s.modTeller i g).tellerAt i = g (s.tellerAt i) := Tbl.get_set_same ..
theorem tellerAt_modTeller (s : State) (i j : Nat) (g : Teller → Teller) : (s.modTeller i g).tellerAt j = if i = j then g (s.tellerAt i) else s.tellerAt j := Tbl.get_set ..

@[simp] theorem modPort_pending (s : State) (i : Nat) (g : Port → Port) : (modPort s i g).pending = s.pending := rfl
@[simp] theorem modPort_free (s : State) (i : Nat) (g : Port → Port) : (modPort s i g).free = s.free := rfl
@[simp] theorem modPort_regs (s : State) (i : Nat) (g : Port → Port) : (modPort s i g).regs = s.regs := rfl
@[simp] theorem modPort_dispo (s : State) (i : Nat) (g : Port → Port) : (modPort s i g).dispo = s.dispo := rfl
@[simp] theorem modPort_time (s : State) (i : Nat) (g : Port → Port) : (modPort s i g).time = s.time := rfl
@[simp] theorem modPort_sill (s : State) (i : Nat) (g : Port → Port) : (modPort s i g).sill = s.sill := rfl
@[simp] theorem modPort_msix (s : State) (i : Nat) (g : Port → Port) : (modPort s i g).msix = s.msix := rfl
@[simp] theorem modPort_perf (s : State) (i : Nat) (g : Port → Port) : (modPort s i g).perf = s.perf := rfl
@[simp] theorem modPort_treas (s : State) (i : Nat) (g : Port → Port) : (modPort s i g).treas = s.treas := rfl
@[simp] theorem modPort_fuses (s : State) (i : Nat) (g : Port → Port) : (modPort s i g).fuses = s.fuses := rfl
@[simp] theorem modPort_sec (s : State) (i : Nat) (g : Port → Port) : (modPort s i g).sec = s.sec := rfl
@[simp] theorem modPort_pins (s : State) (i : Nat) (g : Port → Port) : (modPort s i g).pins = s.pins := rfl
@[simp] theorem modPort_loader (s : State) (i : Nat) (g : Port → Port) : (modPort s i g).loader = s.loader := rfl
@[simp] theorem modPort_pcie (s : State) (i : Nat) (g : Port → Port) : (modPort s i g).pcie = s.pcie := rfl
@[simp] theorem modPort_coffer (s : State) (i : Nat) (g : Port → Port) : (modPort s i g).coffer = s.coffer := rfl
@[simp] theorem modPort_rings (s : State) (i : Nat) (g : Port → Port) : (modPort s i g).rings = s.rings := rfl
@[simp] theorem modPort_out (s : State) (i : Nat) (g : Port → Port) : (modPort s i g).out = s.out := rfl
@[simp] theorem modPort_lastBatch (s : State) (i : Nat) (g : Port → Port) : (modPort s i g).lastBatch = s.lastBatch := rfl
@[simp] theorem modPort_portCfg (s : State) (i : Nat) (g : Port → Port) : (modPort s i g).portCfg = s.portCfg := rfl
@[simp] theorem modPort_lanes (s : State) (i : Nat) (g : Port → Port) : (modPort s i g).lanes = s.lanes := rfl
@[simp] theorem modPort_laneInv (s : State) (i : Nat) (g : Port → Port) : (modPort s i g).laneInv = s.laneInv := rfl
@[simp] theorem modPort_laneTaps (s : State) (i : Nat) (g : Port → Port) : (modPort s i g).laneTaps = s.laneTaps := rfl
@[simp] theorem modPort_teth (s : State) (i : Nat) (g : Port → Port) : (modPort s i g).teth = s.teth := rfl
@[simp] theorem modPort_swc (s : State) (i : Nat) (g : Port → Port) : (modPort s i g).swc = s.swc := rfl
@[simp] theorem modPort_tm (s : State) (i : Nat) (g : Port → Port) : (modPort s i g).tm = s.tm := rfl
@[simp] theorem modPort_templates (s : State) (i : Nat) (g : Port → Port) : (modPort s i g).templates = s.templates := rfl
@[simp] theorem modPort_assay (s : State) (i : Nat) (g : Port → Port) : (modPort s i g).assay = s.assay := rfl
@[simp] theorem modPort_sieve (s : State) (i : Nat) (g : Port → Port) : (modPort s i g).sieve = s.sieve := rfl
@[simp] theorem modPort_accord (s : State) (i : Nat) (g : Port → Port) : (modPort s i g).accord = s.accord := rfl
@[simp] theorem modPort_ledger (s : State) (i : Nat) (g : Port → Port) : (modPort s i g).ledger = s.ledger := rfl
@[simp] theorem modPort_disp (s : State) (i : Nat) (g : Port → Port) : (modPort s i g).disp = s.disp := rfl
@[simp] theorem modPort_tellers (s : State) (i : Nat) (g : Port → Port) : (modPort s i g).tellers = s.tellers := rfl
@[simp] theorem modPort_desks (s : State) (i : Nat) (g : Port → Port) : (modPort s i g).desks = s.desks := rfl
@[simp] theorem modPort_nose (s : State) (i : Nat) (g : Port → Port) : (modPort s i g).nose = s.nose := rfl
@[simp] theorem modPort_automata (s : State) (i : Nat) (g : Port → Port) : (modPort s i g).automata = s.automata := rfl
@[simp] theorem modPort_vault (s : State) (i : Nat) (g : Port → Port) : (modPort s i g).vault = s.vault := rfl
@[simp] theorem modPort_audit (s : State) (i : Nat) (g : Port → Port) : (modPort s i g).audit = s.audit := rfl
@[simp] theorem portAt_modPort_same (s : State) (i : Nat) (g : Port → Port) : (s.modPort i g).portAt i = g (s.portAt i) := Tbl.get_set_same ..
theorem portAt_modPort (s : State) (i j : Nat) (g : Port → Port) : (s.modPort i g).portAt j = if i = j then g (s.portAt i) else s.portAt j := Tbl.get_set ..

@[simp] theorem modRing_pending (s : State) (i : Nat) (g : Ring → Ring) : (modRing s i g).pending = s.pending := rfl
@[simp] theorem modRing_free (s : State) (i : Nat) (g : Ring → Ring) : (modRing s i g).free = s.free := rfl
@[simp] theorem modRing_regs (s : State) (i : Nat) (g : Ring → Ring) : (modRing s i g).regs = s.regs := rfl
@[simp] theorem modRing_dispo (s : State) (i : Nat) (g : Ring → Ring) : (modRing s i g).dispo = s.dispo := rfl
@[simp] theorem modRing_time (s : State) (i : Nat) (g : Ring → Ring) : (modRing s i g).time = s.time := rfl
@[simp] theorem modRing_sill (s : State) (i : Nat) (g : Ring → Ring) : (modRing s i g).sill = s.sill := rfl
@[simp] theorem modRing_msix (s : State) (i : Nat) (g : Ring → Ring) : (modRing s i g).msix = s.msix := rfl
@[simp] theorem modRing_perf (s : State) (i : Nat) (g : Ring → Ring) : (modRing s i g).perf = s.perf := rfl
@[simp] theorem modRing_treas (s : State) (i : Nat) (g : Ring → Ring) : (modRing s i g).treas = s.treas := rfl
@[simp] theorem modRing_fuses (s : State) (i : Nat) (g : Ring → Ring) : (modRing s i g).fuses = s.fuses := rfl
@[simp] theorem modRing_sec (s : State) (i : Nat) (g : Ring → Ring) : (modRing s i g).sec = s.sec := rfl
@[simp] theorem modRing_pins (s : State) (i : Nat) (g : Ring → Ring) : (modRing s i g).pins = s.pins := rfl
@[simp] theorem modRing_loader (s : State) (i : Nat) (g : Ring → Ring) : (modRing s i g).loader = s.loader := rfl
@[simp] theorem modRing_pcie (s : State) (i : Nat) (g : Ring → Ring) : (modRing s i g).pcie = s.pcie := rfl
@[simp] theorem modRing_coffer (s : State) (i : Nat) (g : Ring → Ring) : (modRing s i g).coffer = s.coffer := rfl
@[simp] theorem modRing_out (s : State) (i : Nat) (g : Ring → Ring) : (modRing s i g).out = s.out := rfl
@[simp] theorem modRing_lastBatch (s : State) (i : Nat) (g : Ring → Ring) : (modRing s i g).lastBatch = s.lastBatch := rfl
@[simp] theorem modRing_ports (s : State) (i : Nat) (g : Ring → Ring) : (modRing s i g).ports = s.ports := rfl
@[simp] theorem modRing_portCfg (s : State) (i : Nat) (g : Ring → Ring) : (modRing s i g).portCfg = s.portCfg := rfl
@[simp] theorem modRing_lanes (s : State) (i : Nat) (g : Ring → Ring) : (modRing s i g).lanes = s.lanes := rfl
@[simp] theorem modRing_laneInv (s : State) (i : Nat) (g : Ring → Ring) : (modRing s i g).laneInv = s.laneInv := rfl
@[simp] theorem modRing_laneTaps (s : State) (i : Nat) (g : Ring → Ring) : (modRing s i g).laneTaps = s.laneTaps := rfl
@[simp] theorem modRing_teth (s : State) (i : Nat) (g : Ring → Ring) : (modRing s i g).teth = s.teth := rfl
@[simp] theorem modRing_swc (s : State) (i : Nat) (g : Ring → Ring) : (modRing s i g).swc = s.swc := rfl
@[simp] theorem modRing_tm (s : State) (i : Nat) (g : Ring → Ring) : (modRing s i g).tm = s.tm := rfl
@[simp] theorem modRing_templates (s : State) (i : Nat) (g : Ring → Ring) : (modRing s i g).templates = s.templates := rfl
@[simp] theorem modRing_assay (s : State) (i : Nat) (g : Ring → Ring) : (modRing s i g).assay = s.assay := rfl
@[simp] theorem modRing_sieve (s : State) (i : Nat) (g : Ring → Ring) : (modRing s i g).sieve = s.sieve := rfl
@[simp] theorem modRing_accord (s : State) (i : Nat) (g : Ring → Ring) : (modRing s i g).accord = s.accord := rfl
@[simp] theorem modRing_ledger (s : State) (i : Nat) (g : Ring → Ring) : (modRing s i g).ledger = s.ledger := rfl
@[simp] theorem modRing_disp (s : State) (i : Nat) (g : Ring → Ring) : (modRing s i g).disp = s.disp := rfl
@[simp] theorem modRing_tellers (s : State) (i : Nat) (g : Ring → Ring) : (modRing s i g).tellers = s.tellers := rfl
@[simp] theorem modRing_desks (s : State) (i : Nat) (g : Ring → Ring) : (modRing s i g).desks = s.desks := rfl
@[simp] theorem modRing_nose (s : State) (i : Nat) (g : Ring → Ring) : (modRing s i g).nose = s.nose := rfl
@[simp] theorem modRing_automata (s : State) (i : Nat) (g : Ring → Ring) : (modRing s i g).automata = s.automata := rfl
@[simp] theorem modRing_vault (s : State) (i : Nat) (g : Ring → Ring) : (modRing s i g).vault = s.vault := rfl
@[simp] theorem modRing_audit (s : State) (i : Nat) (g : Ring → Ring) : (modRing s i g).audit = s.audit := rfl
@[simp] theorem ringAt_modRing_same (s : State) (i : Nat) (g : Ring → Ring) : (s.modRing i g).ringAt i = g (s.ringAt i) := Tbl.get_set_same ..
theorem ringAt_modRing (s : State) (i j : Nat) (g : Ring → Ring) : (s.modRing i g).ringAt j = if i = j then g (s.ringAt i) else s.ringAt j := Tbl.get_set ..

@[simp] theorem modChan_pending (s : State) (i : Nat) (g : VaultCh → VaultCh) : (modChan s i g).pending = s.pending := rfl
@[simp] theorem modChan_free (s : State) (i : Nat) (g : VaultCh → VaultCh) : (modChan s i g).free = s.free := rfl
@[simp] theorem modChan_regs (s : State) (i : Nat) (g : VaultCh → VaultCh) : (modChan s i g).regs = s.regs := rfl
@[simp] theorem modChan_dispo (s : State) (i : Nat) (g : VaultCh → VaultCh) : (modChan s i g).dispo = s.dispo := rfl
@[simp] theorem modChan_time (s : State) (i : Nat) (g : VaultCh → VaultCh) : (modChan s i g).time = s.time := rfl
@[simp] theorem modChan_sill (s : State) (i : Nat) (g : VaultCh → VaultCh) : (modChan s i g).sill = s.sill := rfl
@[simp] theorem modChan_msix (s : State) (i : Nat) (g : VaultCh → VaultCh) : (modChan s i g).msix = s.msix := rfl
@[simp] theorem modChan_perf (s : State) (i : Nat) (g : VaultCh → VaultCh) : (modChan s i g).perf = s.perf := rfl
@[simp] theorem modChan_treas (s : State) (i : Nat) (g : VaultCh → VaultCh) : (modChan s i g).treas = s.treas := rfl
@[simp] theorem modChan_fuses (s : State) (i : Nat) (g : VaultCh → VaultCh) : (modChan s i g).fuses = s.fuses := rfl
@[simp] theorem modChan_sec (s : State) (i : Nat) (g : VaultCh → VaultCh) : (modChan s i g).sec = s.sec := rfl
@[simp] theorem modChan_pins (s : State) (i : Nat) (g : VaultCh → VaultCh) : (modChan s i g).pins = s.pins := rfl
@[simp] theorem modChan_loader (s : State) (i : Nat) (g : VaultCh → VaultCh) : (modChan s i g).loader = s.loader := rfl
@[simp] theorem modChan_pcie (s : State) (i : Nat) (g : VaultCh → VaultCh) : (modChan s i g).pcie = s.pcie := rfl
@[simp] theorem modChan_coffer (s : State) (i : Nat) (g : VaultCh → VaultCh) : (modChan s i g).coffer = s.coffer := rfl
@[simp] theorem modChan_rings (s : State) (i : Nat) (g : VaultCh → VaultCh) : (modChan s i g).rings = s.rings := rfl
@[simp] theorem modChan_out (s : State) (i : Nat) (g : VaultCh → VaultCh) : (modChan s i g).out = s.out := rfl
@[simp] theorem modChan_lastBatch (s : State) (i : Nat) (g : VaultCh → VaultCh) : (modChan s i g).lastBatch = s.lastBatch := rfl
@[simp] theorem modChan_ports (s : State) (i : Nat) (g : VaultCh → VaultCh) : (modChan s i g).ports = s.ports := rfl
@[simp] theorem modChan_portCfg (s : State) (i : Nat) (g : VaultCh → VaultCh) : (modChan s i g).portCfg = s.portCfg := rfl
@[simp] theorem modChan_lanes (s : State) (i : Nat) (g : VaultCh → VaultCh) : (modChan s i g).lanes = s.lanes := rfl
@[simp] theorem modChan_laneInv (s : State) (i : Nat) (g : VaultCh → VaultCh) : (modChan s i g).laneInv = s.laneInv := rfl
@[simp] theorem modChan_laneTaps (s : State) (i : Nat) (g : VaultCh → VaultCh) : (modChan s i g).laneTaps = s.laneTaps := rfl
@[simp] theorem modChan_teth (s : State) (i : Nat) (g : VaultCh → VaultCh) : (modChan s i g).teth = s.teth := rfl
@[simp] theorem modChan_swc (s : State) (i : Nat) (g : VaultCh → VaultCh) : (modChan s i g).swc = s.swc := rfl
@[simp] theorem modChan_tm (s : State) (i : Nat) (g : VaultCh → VaultCh) : (modChan s i g).tm = s.tm := rfl
@[simp] theorem modChan_templates (s : State) (i : Nat) (g : VaultCh → VaultCh) : (modChan s i g).templates = s.templates := rfl
@[simp] theorem modChan_assay (s : State) (i : Nat) (g : VaultCh → VaultCh) : (modChan s i g).assay = s.assay := rfl
@[simp] theorem modChan_sieve (s : State) (i : Nat) (g : VaultCh → VaultCh) : (modChan s i g).sieve = s.sieve := rfl
@[simp] theorem modChan_accord (s : State) (i : Nat) (g : VaultCh → VaultCh) : (modChan s i g).accord = s.accord := rfl
@[simp] theorem modChan_ledger (s : State) (i : Nat) (g : VaultCh → VaultCh) : (modChan s i g).ledger = s.ledger := rfl
@[simp] theorem modChan_disp (s : State) (i : Nat) (g : VaultCh → VaultCh) : (modChan s i g).disp = s.disp := rfl
@[simp] theorem modChan_tellers (s : State) (i : Nat) (g : VaultCh → VaultCh) : (modChan s i g).tellers = s.tellers := rfl
@[simp] theorem modChan_desks (s : State) (i : Nat) (g : VaultCh → VaultCh) : (modChan s i g).desks = s.desks := rfl
@[simp] theorem modChan_nose (s : State) (i : Nat) (g : VaultCh → VaultCh) : (modChan s i g).nose = s.nose := rfl
@[simp] theorem modChan_automata (s : State) (i : Nat) (g : VaultCh → VaultCh) : (modChan s i g).automata = s.automata := rfl
@[simp] theorem modChan_audit (s : State) (i : Nat) (g : VaultCh → VaultCh) : (modChan s i g).audit = s.audit := rfl
@[simp] theorem chanAt_modChan_same (s : State) (i : Nat) (g : VaultCh → VaultCh) : (s.modChan i g).chanAt i = g (s.chanAt i) := Tbl.get_set_same ..
theorem chanAt_modChan (s : State) (i j : Nat) (g : VaultCh → VaultCh) : (s.modChan i g).chanAt j = if i = j then g (s.chanAt i) else s.chanAt j := Tbl.get_set ..

@[simp] theorem modSched_pending (s : State) (i : Nat) (g : Sched → Sched) : (modSched s i g).pending = s.pending := rfl
@[simp] theorem modSched_free (s : State) (i : Nat) (g : Sched → Sched) : (modSched s i g).free = s.free := rfl
@[simp] theorem modSched_regs (s : State) (i : Nat) (g : Sched → Sched) : (modSched s i g).regs = s.regs := rfl
@[simp] theorem modSched_dispo (s : State) (i : Nat) (g : Sched → Sched) : (modSched s i g).dispo = s.dispo := rfl
@[simp] theorem modSched_time (s : State) (i : Nat) (g : Sched → Sched) : (modSched s i g).time = s.time := rfl
@[simp] theorem modSched_sill (s : State) (i : Nat) (g : Sched → Sched) : (modSched s i g).sill = s.sill := rfl
@[simp] theorem modSched_msix (s : State) (i : Nat) (g : Sched → Sched) : (modSched s i g).msix = s.msix := rfl
@[simp] theorem modSched_perf (s : State) (i : Nat) (g : Sched → Sched) : (modSched s i g).perf = s.perf := rfl
@[simp] theorem modSched_treas (s : State) (i : Nat) (g : Sched → Sched) : (modSched s i g).treas = s.treas := rfl
@[simp] theorem modSched_fuses (s : State) (i : Nat) (g : Sched → Sched) : (modSched s i g).fuses = s.fuses := rfl
@[simp] theorem modSched_sec (s : State) (i : Nat) (g : Sched → Sched) : (modSched s i g).sec = s.sec := rfl
@[simp] theorem modSched_pins (s : State) (i : Nat) (g : Sched → Sched) : (modSched s i g).pins = s.pins := rfl
@[simp] theorem modSched_loader (s : State) (i : Nat) (g : Sched → Sched) : (modSched s i g).loader = s.loader := rfl
@[simp] theorem modSched_pcie (s : State) (i : Nat) (g : Sched → Sched) : (modSched s i g).pcie = s.pcie := rfl
@[simp] theorem modSched_coffer (s : State) (i : Nat) (g : Sched → Sched) : (modSched s i g).coffer = s.coffer := rfl
@[simp] theorem modSched_rings (s : State) (i : Nat) (g : Sched → Sched) : (modSched s i g).rings = s.rings := rfl
@[simp] theorem modSched_out (s : State) (i : Nat) (g : Sched → Sched) : (modSched s i g).out = s.out := rfl
@[simp] theorem modSched_lastBatch (s : State) (i : Nat) (g : Sched → Sched) : (modSched s i g).lastBatch = s.lastBatch := rfl
@[simp] theorem modSched_ports (s : State) (i : Nat) (g : Sched → Sched) : (modSched s i g).ports = s.ports := rfl
@[simp] theorem modSched_portCfg (s : State) (i : Nat) (g : Sched → Sched) : (modSched s i g).portCfg = s.portCfg := rfl
@[simp] theorem modSched_lanes (s : State) (i : Nat) (g : Sched → Sched) : (modSched s i g).lanes = s.lanes := rfl
@[simp] theorem modSched_laneInv (s : State) (i : Nat) (g : Sched → Sched) : (modSched s i g).laneInv = s.laneInv := rfl
@[simp] theorem modSched_laneTaps (s : State) (i : Nat) (g : Sched → Sched) : (modSched s i g).laneTaps = s.laneTaps := rfl
@[simp] theorem modSched_teth (s : State) (i : Nat) (g : Sched → Sched) : (modSched s i g).teth = s.teth := rfl
@[simp] theorem modSched_swc (s : State) (i : Nat) (g : Sched → Sched) : (modSched s i g).swc = s.swc := rfl
@[simp] theorem modSched_templates (s : State) (i : Nat) (g : Sched → Sched) : (modSched s i g).templates = s.templates := rfl
@[simp] theorem modSched_assay (s : State) (i : Nat) (g : Sched → Sched) : (modSched s i g).assay = s.assay := rfl
@[simp] theorem modSched_sieve (s : State) (i : Nat) (g : Sched → Sched) : (modSched s i g).sieve = s.sieve := rfl
@[simp] theorem modSched_accord (s : State) (i : Nat) (g : Sched → Sched) : (modSched s i g).accord = s.accord := rfl
@[simp] theorem modSched_ledger (s : State) (i : Nat) (g : Sched → Sched) : (modSched s i g).ledger = s.ledger := rfl
@[simp] theorem modSched_disp (s : State) (i : Nat) (g : Sched → Sched) : (modSched s i g).disp = s.disp := rfl
@[simp] theorem modSched_tellers (s : State) (i : Nat) (g : Sched → Sched) : (modSched s i g).tellers = s.tellers := rfl
@[simp] theorem modSched_desks (s : State) (i : Nat) (g : Sched → Sched) : (modSched s i g).desks = s.desks := rfl
@[simp] theorem modSched_nose (s : State) (i : Nat) (g : Sched → Sched) : (modSched s i g).nose = s.nose := rfl
@[simp] theorem modSched_automata (s : State) (i : Nat) (g : Sched → Sched) : (modSched s i g).automata = s.automata := rfl
@[simp] theorem modSched_vault (s : State) (i : Nat) (g : Sched → Sched) : (modSched s i g).vault = s.vault := rfl
@[simp] theorem modSched_audit (s : State) (i : Nat) (g : Sched → Sched) : (modSched s i g).audit = s.audit := rfl
@[simp] theorem schedAt_modSched_same (s : State) (i : Nat) (g : Sched → Sched) : (s.modSched i g).schedAt i = g (s.schedAt i) := Tbl.get_set_same ..
theorem schedAt_modSched (s : State) (i j : Nat) (g : Sched → Sched) : (s.modSched i g).schedAt j = if i = j then g (s.schedAt i) else s.schedAt j := Tbl.get_set ..

end State

/-! ### Stored registers -/

theorem foldl_frame {α : Type} (f : State → α → State) (h : ∀ s x, f s x = { s with regs := (f s x).regs }) (l : List α) (s : State) :
    l.foldl f s = { s with regs := (l.foldl f s).regs } := by
  induction l generalizing s with
  | nil => rfl
  | cons x l ih =>
    rw [List.foldl_cons, ih]
    exact congrArg (fun t : State => { t with regs := (l.foldl f (f s x)).regs }) (h s x)

@[simp] theorem regStore_pending (o : Nat) (v : Word32) (s : State) : (regStore o v s).pending = s.pending := rfl
@[simp] theorem regStore_free (o : Nat) (v : Word32) (s : State) : (regStore o v s).free = s.free := rfl
@[simp] theorem regStore_dispo (o : Nat) (v : Word32) (s : State) : (regStore o v s).dispo = s.dispo := rfl
@[simp] theorem regStore_time (o : Nat) (v : Word32) (s : State) : (regStore o v s).time = s.time := rfl
@[simp] theorem regStore_sill (o : Nat) (v : Word32) (s : State) : (regStore o v s).sill = s.sill := rfl
@[simp] theorem regStore_msix (o : Nat) (v : Word32) (s : State) : (regStore o v s).msix = s.msix := rfl
@[simp] theorem regStore_perf (o : Nat) (v : Word32) (s : State) : (regStore o v s).perf = s.perf := rfl
@[simp] theorem regStore_treas (o : Nat) (v : Word32) (s : State) : (regStore o v s).treas = s.treas := rfl
@[simp] theorem regStore_fuses (o : Nat) (v : Word32) (s : State) : (regStore o v s).fuses = s.fuses := rfl
@[simp] theorem regStore_sec (o : Nat) (v : Word32) (s : State) : (regStore o v s).sec = s.sec := rfl
@[simp] theorem regStore_pins (o : Nat) (v : Word32) (s : State) : (regStore o v s).pins = s.pins := rfl
@[simp] theorem regStore_loader (o : Nat) (v : Word32) (s : State) : (regStore o v s).loader = s.loader := rfl
@[simp] theorem regStore_pcie (o : Nat) (v : Word32) (s : State) : (regStore o v s).pcie = s.pcie := rfl
@[simp] theorem regStore_coffer (o : Nat) (v : Word32) (s : State) : (regStore o v s).coffer = s.coffer := rfl
@[simp] theorem regStore_rings (o : Nat) (v : Word32) (s : State) : (regStore o v s).rings = s.rings := rfl
@[simp] theorem regStore_out (o : Nat) (v : Word32) (s : State) : (regStore o v s).out = s.out := rfl
@[simp] theorem regStore_lastBatch (o : Nat) (v : Word32) (s : State) : (regStore o v s).lastBatch = s.lastBatch := rfl
@[simp] theorem regStore_ports (o : Nat) (v : Word32) (s : State) : (regStore o v s).ports = s.ports := rfl
@[simp] theorem regStore_portCfg (o : Nat) (v : Word32) (s : State) : (regStore o v s).portCfg = s.portCfg := rfl
@[simp] theorem regStore_lanes (o : Nat) (v : Word32) (s : State) : (regStore o v s).lanes = s.lanes := rfl
@[simp] theorem regStore_laneInv (o : Nat) (v : Word32) (s : State) : (regStore o v s).laneInv = s.laneInv := rfl
@[simp] theorem regStore_laneTaps (o : Nat) (v : Word32) (s : State) : (regStore o v s).laneTaps = s.laneTaps := rfl
@[simp] theorem regStore_teth (o : Nat) (v : Word32) (s : State) : (regStore o v s).teth = s.teth := rfl
@[simp] theorem regStore_swc (o : Nat) (v : Word32) (s : State) : (regStore o v s).swc = s.swc := rfl
@[simp] theorem regStore_tm (o : Nat) (v : Word32) (s : State) : (regStore o v s).tm = s.tm := rfl
@[simp] theorem regStore_templates (o : Nat) (v : Word32) (s : State) : (regStore o v s).templates = s.templates := rfl
@[simp] theorem regStore_assay (o : Nat) (v : Word32) (s : State) : (regStore o v s).assay = s.assay := rfl
@[simp] theorem regStore_sieve (o : Nat) (v : Word32) (s : State) : (regStore o v s).sieve = s.sieve := rfl
@[simp] theorem regStore_accord (o : Nat) (v : Word32) (s : State) : (regStore o v s).accord = s.accord := rfl
@[simp] theorem regStore_ledger (o : Nat) (v : Word32) (s : State) : (regStore o v s).ledger = s.ledger := rfl
@[simp] theorem regStore_disp (o : Nat) (v : Word32) (s : State) : (regStore o v s).disp = s.disp := rfl
@[simp] theorem regStore_tellers (o : Nat) (v : Word32) (s : State) : (regStore o v s).tellers = s.tellers := rfl
@[simp] theorem regStore_desks (o : Nat) (v : Word32) (s : State) : (regStore o v s).desks = s.desks := rfl
@[simp] theorem regStore_nose (o : Nat) (v : Word32) (s : State) : (regStore o v s).nose = s.nose := rfl
@[simp] theorem regStore_automata (o : Nat) (v : Word32) (s : State) : (regStore o v s).automata = s.automata := rfl
@[simp] theorem regStore_vault (o : Nat) (v : Word32) (s : State) : (regStore o v s).vault = s.vault := rfl
@[simp] theorem regStore_audit (o : Nat) (v : Word32) (s : State) : (regStore o v s).audit = s.audit := rfl

theorem setField_frame (o hi lo x : Nat) (s : State) : setField o hi lo x s = { s with regs := (setField o hi lo x s).regs } := by unfold setField; rfl
@[simp] theorem setField_pending (o hi lo x : Nat) (s : State) : (setField o hi lo x s).pending = s.pending := (congrArg State.pending (setField_frame o hi lo x s) :)
@[simp] theorem setField_free (o hi lo x : Nat) (s : State) : (setField o hi lo x s).free = s.free := (congrArg State.free (setField_frame o hi lo x s) :)
@[simp] theorem setField_dispo (o hi lo x : Nat) (s : State) : (setField o hi lo x s).dispo = s.dispo := (congrArg State.dispo (setField_frame o hi lo x s) :)
@[simp] theorem setField_time (o hi lo x : Nat) (s : State) : (setField o hi lo x s).time = s.time := (congrArg State.time (setField_frame o hi lo x s) :)
@[simp] theorem setField_sill (o hi lo x : Nat) (s : State) : (setField o hi lo x s).sill = s.sill := (congrArg State.sill (setField_frame o hi lo x s) :)
@[simp] theorem setField_msix (o hi lo x : Nat) (s : State) : (setField o hi lo x s).msix = s.msix := (congrArg State.msix (setField_frame o hi lo x s) :)
@[simp] theorem setField_perf (o hi lo x : Nat) (s : State) : (setField o hi lo x s).perf = s.perf := (congrArg State.perf (setField_frame o hi lo x s) :)
@[simp] theorem setField_treas (o hi lo x : Nat) (s : State) : (setField o hi lo x s).treas = s.treas := (congrArg State.treas (setField_frame o hi lo x s) :)
@[simp] theorem setField_fuses (o hi lo x : Nat) (s : State) : (setField o hi lo x s).fuses = s.fuses := (congrArg State.fuses (setField_frame o hi lo x s) :)
@[simp] theorem setField_sec (o hi lo x : Nat) (s : State) : (setField o hi lo x s).sec = s.sec := (congrArg State.sec (setField_frame o hi lo x s) :)
@[simp] theorem setField_pins (o hi lo x : Nat) (s : State) : (setField o hi lo x s).pins = s.pins := (congrArg State.pins (setField_frame o hi lo x s) :)
@[simp] theorem setField_loader (o hi lo x : Nat) (s : State) : (setField o hi lo x s).loader = s.loader := (congrArg State.loader (setField_frame o hi lo x s) :)
@[simp] theorem setField_pcie (o hi lo x : Nat) (s : State) : (setField o hi lo x s).pcie = s.pcie := (congrArg State.pcie (setField_frame o hi lo x s) :)
@[simp] theorem setField_coffer (o hi lo x : Nat) (s : State) : (setField o hi lo x s).coffer = s.coffer := (congrArg State.coffer (setField_frame o hi lo x s) :)
@[simp] theorem setField_rings (o hi lo x : Nat) (s : State) : (setField o hi lo x s).rings = s.rings := (congrArg State.rings (setField_frame o hi lo x s) :)
@[simp] theorem setField_out (o hi lo x : Nat) (s : State) : (setField o hi lo x s).out = s.out := (congrArg State.out (setField_frame o hi lo x s) :)
@[simp] theorem setField_lastBatch (o hi lo x : Nat) (s : State) : (setField o hi lo x s).lastBatch = s.lastBatch := (congrArg State.lastBatch (setField_frame o hi lo x s) :)
@[simp] theorem setField_ports (o hi lo x : Nat) (s : State) : (setField o hi lo x s).ports = s.ports := (congrArg State.ports (setField_frame o hi lo x s) :)
@[simp] theorem setField_portCfg (o hi lo x : Nat) (s : State) : (setField o hi lo x s).portCfg = s.portCfg := (congrArg State.portCfg (setField_frame o hi lo x s) :)
@[simp] theorem setField_lanes (o hi lo x : Nat) (s : State) : (setField o hi lo x s).lanes = s.lanes := (congrArg State.lanes (setField_frame o hi lo x s) :)
@[simp] theorem setField_laneInv (o hi lo x : Nat) (s : State) : (setField o hi lo x s).laneInv = s.laneInv := (congrArg State.laneInv (setField_frame o hi lo x s) :)
@[simp] theorem setField_laneTaps (o hi lo x : Nat) (s : State) : (setField o hi lo x s).laneTaps = s.laneTaps := (congrArg State.laneTaps (setField_frame o hi lo x s) :)
@[simp] theorem setField_teth (o hi lo x : Nat) (s : State) : (setField o hi lo x s).teth = s.teth := (congrArg State.teth (setField_frame o hi lo x s) :)
@[simp] theorem setField_swc (o hi lo x : Nat) (s : State) : (setField o hi lo x s).swc = s.swc := (congrArg State.swc (setField_frame o hi lo x s) :)
@[simp] theorem setField_tm (o hi lo x : Nat) (s : State) : (setField o hi lo x s).tm = s.tm := (congrArg State.tm (setField_frame o hi lo x s) :)
@[simp] theorem setField_templates (o hi lo x : Nat) (s : State) : (setField o hi lo x s).templates = s.templates := (congrArg State.templates (setField_frame o hi lo x s) :)
@[simp] theorem setField_assay (o hi lo x : Nat) (s : State) : (setField o hi lo x s).assay = s.assay := (congrArg State.assay (setField_frame o hi lo x s) :)
@[simp] theorem setField_sieve (o hi lo x : Nat) (s : State) : (setField o hi lo x s).sieve = s.sieve := (congrArg State.sieve (setField_frame o hi lo x s) :)
@[simp] theorem setField_accord (o hi lo x : Nat) (s : State) : (setField o hi lo x s).accord = s.accord := (congrArg State.accord (setField_frame o hi lo x s) :)
@[simp] theorem setField_ledger (o hi lo x : Nat) (s : State) : (setField o hi lo x s).ledger = s.ledger := (congrArg State.ledger (setField_frame o hi lo x s) :)
@[simp] theorem setField_disp (o hi lo x : Nat) (s : State) : (setField o hi lo x s).disp = s.disp := (congrArg State.disp (setField_frame o hi lo x s) :)
@[simp] theorem setField_tellers (o hi lo x : Nat) (s : State) : (setField o hi lo x s).tellers = s.tellers := (congrArg State.tellers (setField_frame o hi lo x s) :)
@[simp] theorem setField_desks (o hi lo x : Nat) (s : State) : (setField o hi lo x s).desks = s.desks := (congrArg State.desks (setField_frame o hi lo x s) :)
@[simp] theorem setField_nose (o hi lo x : Nat) (s : State) : (setField o hi lo x s).nose = s.nose := (congrArg State.nose (setField_frame o hi lo x s) :)
@[simp] theorem setField_automata (o hi lo x : Nat) (s : State) : (setField o hi lo x s).automata = s.automata := (congrArg State.automata (setField_frame o hi lo x s) :)
@[simp] theorem setField_vault (o hi lo x : Nat) (s : State) : (setField o hi lo x s).vault = s.vault := (congrArg State.vault (setField_frame o hi lo x s) :)
@[simp] theorem setField_audit (o hi lo x : Nat) (s : State) : (setField o hi lo x s).audit = s.audit := (congrArg State.audit (setField_frame o hi lo x s) :)

theorem setPair_frame (o v : Nat) (s : State) : setPair o v s = { s with regs := (setPair o v s).regs } := by rfl
@[simp] theorem setPair_pending (o v : Nat) (s : State) : (setPair o v s).pending = s.pending := (congrArg State.pending (setPair_frame o v s) :)
@[simp] theorem setPair_free (o v : Nat) (s : State) : (setPair o v s).free = s.free := (congrArg State.free (setPair_frame o v s) :)
@[simp] theorem setPair_dispo (o v : Nat) (s : State) : (setPair o v s).dispo = s.dispo := (congrArg State.dispo (setPair_frame o v s) :)
@[simp] theorem setPair_time (o v : Nat) (s : State) : (setPair o v s).time = s.time := (congrArg State.time (setPair_frame o v s) :)
@[simp] theorem setPair_sill (o v : Nat) (s : State) : (setPair o v s).sill = s.sill := (congrArg State.sill (setPair_frame o v s) :)
@[simp] theorem setPair_msix (o v : Nat) (s : State) : (setPair o v s).msix = s.msix := (congrArg State.msix (setPair_frame o v s) :)
@[simp] theorem setPair_perf (o v : Nat) (s : State) : (setPair o v s).perf = s.perf := (congrArg State.perf (setPair_frame o v s) :)
@[simp] theorem setPair_treas (o v : Nat) (s : State) : (setPair o v s).treas = s.treas := (congrArg State.treas (setPair_frame o v s) :)
@[simp] theorem setPair_fuses (o v : Nat) (s : State) : (setPair o v s).fuses = s.fuses := (congrArg State.fuses (setPair_frame o v s) :)
@[simp] theorem setPair_sec (o v : Nat) (s : State) : (setPair o v s).sec = s.sec := (congrArg State.sec (setPair_frame o v s) :)
@[simp] theorem setPair_pins (o v : Nat) (s : State) : (setPair o v s).pins = s.pins := (congrArg State.pins (setPair_frame o v s) :)
@[simp] theorem setPair_loader (o v : Nat) (s : State) : (setPair o v s).loader = s.loader := (congrArg State.loader (setPair_frame o v s) :)
@[simp] theorem setPair_pcie (o v : Nat) (s : State) : (setPair o v s).pcie = s.pcie := (congrArg State.pcie (setPair_frame o v s) :)
@[simp] theorem setPair_coffer (o v : Nat) (s : State) : (setPair o v s).coffer = s.coffer := (congrArg State.coffer (setPair_frame o v s) :)
@[simp] theorem setPair_rings (o v : Nat) (s : State) : (setPair o v s).rings = s.rings := (congrArg State.rings (setPair_frame o v s) :)
@[simp] theorem setPair_out (o v : Nat) (s : State) : (setPair o v s).out = s.out := (congrArg State.out (setPair_frame o v s) :)
@[simp] theorem setPair_lastBatch (o v : Nat) (s : State) : (setPair o v s).lastBatch = s.lastBatch := (congrArg State.lastBatch (setPair_frame o v s) :)
@[simp] theorem setPair_ports (o v : Nat) (s : State) : (setPair o v s).ports = s.ports := (congrArg State.ports (setPair_frame o v s) :)
@[simp] theorem setPair_portCfg (o v : Nat) (s : State) : (setPair o v s).portCfg = s.portCfg := (congrArg State.portCfg (setPair_frame o v s) :)
@[simp] theorem setPair_lanes (o v : Nat) (s : State) : (setPair o v s).lanes = s.lanes := (congrArg State.lanes (setPair_frame o v s) :)
@[simp] theorem setPair_laneInv (o v : Nat) (s : State) : (setPair o v s).laneInv = s.laneInv := (congrArg State.laneInv (setPair_frame o v s) :)
@[simp] theorem setPair_laneTaps (o v : Nat) (s : State) : (setPair o v s).laneTaps = s.laneTaps := (congrArg State.laneTaps (setPair_frame o v s) :)
@[simp] theorem setPair_teth (o v : Nat) (s : State) : (setPair o v s).teth = s.teth := (congrArg State.teth (setPair_frame o v s) :)
@[simp] theorem setPair_swc (o v : Nat) (s : State) : (setPair o v s).swc = s.swc := (congrArg State.swc (setPair_frame o v s) :)
@[simp] theorem setPair_tm (o v : Nat) (s : State) : (setPair o v s).tm = s.tm := (congrArg State.tm (setPair_frame o v s) :)
@[simp] theorem setPair_templates (o v : Nat) (s : State) : (setPair o v s).templates = s.templates := (congrArg State.templates (setPair_frame o v s) :)
@[simp] theorem setPair_assay (o v : Nat) (s : State) : (setPair o v s).assay = s.assay := (congrArg State.assay (setPair_frame o v s) :)
@[simp] theorem setPair_sieve (o v : Nat) (s : State) : (setPair o v s).sieve = s.sieve := (congrArg State.sieve (setPair_frame o v s) :)
@[simp] theorem setPair_accord (o v : Nat) (s : State) : (setPair o v s).accord = s.accord := (congrArg State.accord (setPair_frame o v s) :)
@[simp] theorem setPair_ledger (o v : Nat) (s : State) : (setPair o v s).ledger = s.ledger := (congrArg State.ledger (setPair_frame o v s) :)
@[simp] theorem setPair_disp (o v : Nat) (s : State) : (setPair o v s).disp = s.disp := (congrArg State.disp (setPair_frame o v s) :)
@[simp] theorem setPair_tellers (o v : Nat) (s : State) : (setPair o v s).tellers = s.tellers := (congrArg State.tellers (setPair_frame o v s) :)
@[simp] theorem setPair_desks (o v : Nat) (s : State) : (setPair o v s).desks = s.desks := (congrArg State.desks (setPair_frame o v s) :)
@[simp] theorem setPair_nose (o v : Nat) (s : State) : (setPair o v s).nose = s.nose := (congrArg State.nose (setPair_frame o v s) :)
@[simp] theorem setPair_automata (o v : Nat) (s : State) : (setPair o v s).automata = s.automata := (congrArg State.automata (setPair_frame o v s) :)
@[simp] theorem setPair_vault (o v : Nat) (s : State) : (setPair o v s).vault = s.vault := (congrArg State.vault (setPair_frame o v s) :)
@[simp] theorem setPair_audit (o v : Nat) (s : State) : (setPair o v s).audit = s.audit := (congrArg State.audit (setPair_frame o v s) :)

theorem bumpN_frame (o n : Nat) (s : State) : bumpN o n s = { s with regs := (bumpN o n s).regs } := by unfold bumpN; split <;> rfl
@[simp] theorem bumpN_pending (o n : Nat) (s : State) : (bumpN o n s).pending = s.pending := (congrArg State.pending (bumpN_frame o n s) :)
@[simp] theorem bumpN_free (o n : Nat) (s : State) : (bumpN o n s).free = s.free := (congrArg State.free (bumpN_frame o n s) :)
@[simp] theorem bumpN_dispo (o n : Nat) (s : State) : (bumpN o n s).dispo = s.dispo := (congrArg State.dispo (bumpN_frame o n s) :)
@[simp] theorem bumpN_time (o n : Nat) (s : State) : (bumpN o n s).time = s.time := (congrArg State.time (bumpN_frame o n s) :)
@[simp] theorem bumpN_sill (o n : Nat) (s : State) : (bumpN o n s).sill = s.sill := (congrArg State.sill (bumpN_frame o n s) :)
@[simp] theorem bumpN_msix (o n : Nat) (s : State) : (bumpN o n s).msix = s.msix := (congrArg State.msix (bumpN_frame o n s) :)
@[simp] theorem bumpN_perf (o n : Nat) (s : State) : (bumpN o n s).perf = s.perf := (congrArg State.perf (bumpN_frame o n s) :)
@[simp] theorem bumpN_treas (o n : Nat) (s : State) : (bumpN o n s).treas = s.treas := (congrArg State.treas (bumpN_frame o n s) :)
@[simp] theorem bumpN_fuses (o n : Nat) (s : State) : (bumpN o n s).fuses = s.fuses := (congrArg State.fuses (bumpN_frame o n s) :)
@[simp] theorem bumpN_sec (o n : Nat) (s : State) : (bumpN o n s).sec = s.sec := (congrArg State.sec (bumpN_frame o n s) :)
@[simp] theorem bumpN_pins (o n : Nat) (s : State) : (bumpN o n s).pins = s.pins := (congrArg State.pins (bumpN_frame o n s) :)
@[simp] theorem bumpN_loader (o n : Nat) (s : State) : (bumpN o n s).loader = s.loader := (congrArg State.loader (bumpN_frame o n s) :)
@[simp] theorem bumpN_pcie (o n : Nat) (s : State) : (bumpN o n s).pcie = s.pcie := (congrArg State.pcie (bumpN_frame o n s) :)
@[simp] theorem bumpN_coffer (o n : Nat) (s : State) : (bumpN o n s).coffer = s.coffer := (congrArg State.coffer (bumpN_frame o n s) :)
@[simp] theorem bumpN_rings (o n : Nat) (s : State) : (bumpN o n s).rings = s.rings := (congrArg State.rings (bumpN_frame o n s) :)
@[simp] theorem bumpN_out (o n : Nat) (s : State) : (bumpN o n s).out = s.out := (congrArg State.out (bumpN_frame o n s) :)
@[simp] theorem bumpN_lastBatch (o n : Nat) (s : State) : (bumpN o n s).lastBatch = s.lastBatch := (congrArg State.lastBatch (bumpN_frame o n s) :)
@[simp] theorem bumpN_ports (o n : Nat) (s : State) : (bumpN o n s).ports = s.ports := (congrArg State.ports (bumpN_frame o n s) :)
@[simp] theorem bumpN_portCfg (o n : Nat) (s : State) : (bumpN o n s).portCfg = s.portCfg := (congrArg State.portCfg (bumpN_frame o n s) :)
@[simp] theorem bumpN_lanes (o n : Nat) (s : State) : (bumpN o n s).lanes = s.lanes := (congrArg State.lanes (bumpN_frame o n s) :)
@[simp] theorem bumpN_laneInv (o n : Nat) (s : State) : (bumpN o n s).laneInv = s.laneInv := (congrArg State.laneInv (bumpN_frame o n s) :)
@[simp] theorem bumpN_laneTaps (o n : Nat) (s : State) : (bumpN o n s).laneTaps = s.laneTaps := (congrArg State.laneTaps (bumpN_frame o n s) :)
@[simp] theorem bumpN_teth (o n : Nat) (s : State) : (bumpN o n s).teth = s.teth := (congrArg State.teth (bumpN_frame o n s) :)
@[simp] theorem bumpN_swc (o n : Nat) (s : State) : (bumpN o n s).swc = s.swc := (congrArg State.swc (bumpN_frame o n s) :)
@[simp] theorem bumpN_tm (o n : Nat) (s : State) : (bumpN o n s).tm = s.tm := (congrArg State.tm (bumpN_frame o n s) :)
@[simp] theorem bumpN_templates (o n : Nat) (s : State) : (bumpN o n s).templates = s.templates := (congrArg State.templates (bumpN_frame o n s) :)
@[simp] theorem bumpN_assay (o n : Nat) (s : State) : (bumpN o n s).assay = s.assay := (congrArg State.assay (bumpN_frame o n s) :)
@[simp] theorem bumpN_sieve (o n : Nat) (s : State) : (bumpN o n s).sieve = s.sieve := (congrArg State.sieve (bumpN_frame o n s) :)
@[simp] theorem bumpN_accord (o n : Nat) (s : State) : (bumpN o n s).accord = s.accord := (congrArg State.accord (bumpN_frame o n s) :)
@[simp] theorem bumpN_ledger (o n : Nat) (s : State) : (bumpN o n s).ledger = s.ledger := (congrArg State.ledger (bumpN_frame o n s) :)
@[simp] theorem bumpN_disp (o n : Nat) (s : State) : (bumpN o n s).disp = s.disp := (congrArg State.disp (bumpN_frame o n s) :)
@[simp] theorem bumpN_tellers (o n : Nat) (s : State) : (bumpN o n s).tellers = s.tellers := (congrArg State.tellers (bumpN_frame o n s) :)
@[simp] theorem bumpN_desks (o n : Nat) (s : State) : (bumpN o n s).desks = s.desks := (congrArg State.desks (bumpN_frame o n s) :)
@[simp] theorem bumpN_nose (o n : Nat) (s : State) : (bumpN o n s).nose = s.nose := (congrArg State.nose (bumpN_frame o n s) :)
@[simp] theorem bumpN_automata (o n : Nat) (s : State) : (bumpN o n s).automata = s.automata := (congrArg State.automata (bumpN_frame o n s) :)
@[simp] theorem bumpN_vault (o n : Nat) (s : State) : (bumpN o n s).vault = s.vault := (congrArg State.vault (bumpN_frame o n s) :)
@[simp] theorem bumpN_audit (o n : Nat) (s : State) : (bumpN o n s).audit = s.audit := (congrArg State.audit (bumpN_frame o n s) :)

theorem bump_frame (o : Nat) (s : State) : bump o s = { s with regs := (bump o s).regs } := by exact bumpN_frame ..
@[simp] theorem bump_pending (o : Nat) (s : State) : (bump o s).pending = s.pending := (congrArg State.pending (bump_frame o s) :)
@[simp] theorem bump_free (o : Nat) (s : State) : (bump o s).free = s.free := (congrArg State.free (bump_frame o s) :)
@[simp] theorem bump_dispo (o : Nat) (s : State) : (bump o s).dispo = s.dispo := (congrArg State.dispo (bump_frame o s) :)
@[simp] theorem bump_time (o : Nat) (s : State) : (bump o s).time = s.time := (congrArg State.time (bump_frame o s) :)
@[simp] theorem bump_sill (o : Nat) (s : State) : (bump o s).sill = s.sill := (congrArg State.sill (bump_frame o s) :)
@[simp] theorem bump_msix (o : Nat) (s : State) : (bump o s).msix = s.msix := (congrArg State.msix (bump_frame o s) :)
@[simp] theorem bump_perf (o : Nat) (s : State) : (bump o s).perf = s.perf := (congrArg State.perf (bump_frame o s) :)
@[simp] theorem bump_treas (o : Nat) (s : State) : (bump o s).treas = s.treas := (congrArg State.treas (bump_frame o s) :)
@[simp] theorem bump_fuses (o : Nat) (s : State) : (bump o s).fuses = s.fuses := (congrArg State.fuses (bump_frame o s) :)
@[simp] theorem bump_sec (o : Nat) (s : State) : (bump o s).sec = s.sec := (congrArg State.sec (bump_frame o s) :)
@[simp] theorem bump_pins (o : Nat) (s : State) : (bump o s).pins = s.pins := (congrArg State.pins (bump_frame o s) :)
@[simp] theorem bump_loader (o : Nat) (s : State) : (bump o s).loader = s.loader := (congrArg State.loader (bump_frame o s) :)
@[simp] theorem bump_pcie (o : Nat) (s : State) : (bump o s).pcie = s.pcie := (congrArg State.pcie (bump_frame o s) :)
@[simp] theorem bump_coffer (o : Nat) (s : State) : (bump o s).coffer = s.coffer := (congrArg State.coffer (bump_frame o s) :)
@[simp] theorem bump_rings (o : Nat) (s : State) : (bump o s).rings = s.rings := (congrArg State.rings (bump_frame o s) :)
@[simp] theorem bump_out (o : Nat) (s : State) : (bump o s).out = s.out := (congrArg State.out (bump_frame o s) :)
@[simp] theorem bump_lastBatch (o : Nat) (s : State) : (bump o s).lastBatch = s.lastBatch := (congrArg State.lastBatch (bump_frame o s) :)
@[simp] theorem bump_ports (o : Nat) (s : State) : (bump o s).ports = s.ports := (congrArg State.ports (bump_frame o s) :)
@[simp] theorem bump_portCfg (o : Nat) (s : State) : (bump o s).portCfg = s.portCfg := (congrArg State.portCfg (bump_frame o s) :)
@[simp] theorem bump_lanes (o : Nat) (s : State) : (bump o s).lanes = s.lanes := (congrArg State.lanes (bump_frame o s) :)
@[simp] theorem bump_laneInv (o : Nat) (s : State) : (bump o s).laneInv = s.laneInv := (congrArg State.laneInv (bump_frame o s) :)
@[simp] theorem bump_laneTaps (o : Nat) (s : State) : (bump o s).laneTaps = s.laneTaps := (congrArg State.laneTaps (bump_frame o s) :)
@[simp] theorem bump_teth (o : Nat) (s : State) : (bump o s).teth = s.teth := (congrArg State.teth (bump_frame o s) :)
@[simp] theorem bump_swc (o : Nat) (s : State) : (bump o s).swc = s.swc := (congrArg State.swc (bump_frame o s) :)
@[simp] theorem bump_tm (o : Nat) (s : State) : (bump o s).tm = s.tm := (congrArg State.tm (bump_frame o s) :)
@[simp] theorem bump_templates (o : Nat) (s : State) : (bump o s).templates = s.templates := (congrArg State.templates (bump_frame o s) :)
@[simp] theorem bump_assay (o : Nat) (s : State) : (bump o s).assay = s.assay := (congrArg State.assay (bump_frame o s) :)
@[simp] theorem bump_sieve (o : Nat) (s : State) : (bump o s).sieve = s.sieve := (congrArg State.sieve (bump_frame o s) :)
@[simp] theorem bump_accord (o : Nat) (s : State) : (bump o s).accord = s.accord := (congrArg State.accord (bump_frame o s) :)
@[simp] theorem bump_ledger (o : Nat) (s : State) : (bump o s).ledger = s.ledger := (congrArg State.ledger (bump_frame o s) :)
@[simp] theorem bump_disp (o : Nat) (s : State) : (bump o s).disp = s.disp := (congrArg State.disp (bump_frame o s) :)
@[simp] theorem bump_tellers (o : Nat) (s : State) : (bump o s).tellers = s.tellers := (congrArg State.tellers (bump_frame o s) :)
@[simp] theorem bump_desks (o : Nat) (s : State) : (bump o s).desks = s.desks := (congrArg State.desks (bump_frame o s) :)
@[simp] theorem bump_nose (o : Nat) (s : State) : (bump o s).nose = s.nose := (congrArg State.nose (bump_frame o s) :)
@[simp] theorem bump_automata (o : Nat) (s : State) : (bump o s).automata = s.automata := (congrArg State.automata (bump_frame o s) :)
@[simp] theorem bump_vault (o : Nat) (s : State) : (bump o s).vault = s.vault := (congrArg State.vault (bump_frame o s) :)
@[simp] theorem bump_audit (o : Nat) (s : State) : (bump o s).audit = s.audit := (congrArg State.audit (bump_frame o s) :)

theorem tally_frame (o : Nat) (s : State) : tally o s = { s with regs := (tally o s).regs } := by rfl
@[simp] theorem tally_pending (o : Nat) (s : State) : (tally o s).pending = s.pending := (congrArg State.pending (tally_frame o s) :)
@[simp] theorem tally_free (o : Nat) (s : State) : (tally o s).free = s.free := (congrArg State.free (tally_frame o s) :)
@[simp] theorem tally_dispo (o : Nat) (s : State) : (tally o s).dispo = s.dispo := (congrArg State.dispo (tally_frame o s) :)
@[simp] theorem tally_time (o : Nat) (s : State) : (tally o s).time = s.time := (congrArg State.time (tally_frame o s) :)
@[simp] theorem tally_sill (o : Nat) (s : State) : (tally o s).sill = s.sill := (congrArg State.sill (tally_frame o s) :)
@[simp] theorem tally_msix (o : Nat) (s : State) : (tally o s).msix = s.msix := (congrArg State.msix (tally_frame o s) :)
@[simp] theorem tally_perf (o : Nat) (s : State) : (tally o s).perf = s.perf := (congrArg State.perf (tally_frame o s) :)
@[simp] theorem tally_treas (o : Nat) (s : State) : (tally o s).treas = s.treas := (congrArg State.treas (tally_frame o s) :)
@[simp] theorem tally_fuses (o : Nat) (s : State) : (tally o s).fuses = s.fuses := (congrArg State.fuses (tally_frame o s) :)
@[simp] theorem tally_sec (o : Nat) (s : State) : (tally o s).sec = s.sec := (congrArg State.sec (tally_frame o s) :)
@[simp] theorem tally_pins (o : Nat) (s : State) : (tally o s).pins = s.pins := (congrArg State.pins (tally_frame o s) :)
@[simp] theorem tally_loader (o : Nat) (s : State) : (tally o s).loader = s.loader := (congrArg State.loader (tally_frame o s) :)
@[simp] theorem tally_pcie (o : Nat) (s : State) : (tally o s).pcie = s.pcie := (congrArg State.pcie (tally_frame o s) :)
@[simp] theorem tally_coffer (o : Nat) (s : State) : (tally o s).coffer = s.coffer := (congrArg State.coffer (tally_frame o s) :)
@[simp] theorem tally_rings (o : Nat) (s : State) : (tally o s).rings = s.rings := (congrArg State.rings (tally_frame o s) :)
@[simp] theorem tally_out (o : Nat) (s : State) : (tally o s).out = s.out := (congrArg State.out (tally_frame o s) :)
@[simp] theorem tally_lastBatch (o : Nat) (s : State) : (tally o s).lastBatch = s.lastBatch := (congrArg State.lastBatch (tally_frame o s) :)
@[simp] theorem tally_ports (o : Nat) (s : State) : (tally o s).ports = s.ports := (congrArg State.ports (tally_frame o s) :)
@[simp] theorem tally_portCfg (o : Nat) (s : State) : (tally o s).portCfg = s.portCfg := (congrArg State.portCfg (tally_frame o s) :)
@[simp] theorem tally_lanes (o : Nat) (s : State) : (tally o s).lanes = s.lanes := (congrArg State.lanes (tally_frame o s) :)
@[simp] theorem tally_laneInv (o : Nat) (s : State) : (tally o s).laneInv = s.laneInv := (congrArg State.laneInv (tally_frame o s) :)
@[simp] theorem tally_laneTaps (o : Nat) (s : State) : (tally o s).laneTaps = s.laneTaps := (congrArg State.laneTaps (tally_frame o s) :)
@[simp] theorem tally_teth (o : Nat) (s : State) : (tally o s).teth = s.teth := (congrArg State.teth (tally_frame o s) :)
@[simp] theorem tally_swc (o : Nat) (s : State) : (tally o s).swc = s.swc := (congrArg State.swc (tally_frame o s) :)
@[simp] theorem tally_tm (o : Nat) (s : State) : (tally o s).tm = s.tm := (congrArg State.tm (tally_frame o s) :)
@[simp] theorem tally_templates (o : Nat) (s : State) : (tally o s).templates = s.templates := (congrArg State.templates (tally_frame o s) :)
@[simp] theorem tally_assay (o : Nat) (s : State) : (tally o s).assay = s.assay := (congrArg State.assay (tally_frame o s) :)
@[simp] theorem tally_sieve (o : Nat) (s : State) : (tally o s).sieve = s.sieve := (congrArg State.sieve (tally_frame o s) :)
@[simp] theorem tally_accord (o : Nat) (s : State) : (tally o s).accord = s.accord := (congrArg State.accord (tally_frame o s) :)
@[simp] theorem tally_ledger (o : Nat) (s : State) : (tally o s).ledger = s.ledger := (congrArg State.ledger (tally_frame o s) :)
@[simp] theorem tally_disp (o : Nat) (s : State) : (tally o s).disp = s.disp := (congrArg State.disp (tally_frame o s) :)
@[simp] theorem tally_tellers (o : Nat) (s : State) : (tally o s).tellers = s.tellers := (congrArg State.tellers (tally_frame o s) :)
@[simp] theorem tally_desks (o : Nat) (s : State) : (tally o s).desks = s.desks := (congrArg State.desks (tally_frame o s) :)
@[simp] theorem tally_nose (o : Nat) (s : State) : (tally o s).nose = s.nose := (congrArg State.nose (tally_frame o s) :)
@[simp] theorem tally_automata (o : Nat) (s : State) : (tally o s).automata = s.automata := (congrArg State.automata (tally_frame o s) :)
@[simp] theorem tally_vault (o : Nat) (s : State) : (tally o s).vault = s.vault := (congrArg State.vault (tally_frame o s) :)
@[simp] theorem tally_audit (o : Nat) (s : State) : (tally o s).audit = s.audit := (congrArg State.audit (tally_frame o s) :)

theorem bump64_frame (o n : Nat) (s : State) : bump64 o n s = { s with regs := (bump64 o n s).regs } := by unfold bump64; split <;> rfl
@[simp] theorem bump64_pending (o n : Nat) (s : State) : (bump64 o n s).pending = s.pending := (congrArg State.pending (bump64_frame o n s) :)
@[simp] theorem bump64_free (o n : Nat) (s : State) : (bump64 o n s).free = s.free := (congrArg State.free (bump64_frame o n s) :)
@[simp] theorem bump64_dispo (o n : Nat) (s : State) : (bump64 o n s).dispo = s.dispo := (congrArg State.dispo (bump64_frame o n s) :)
@[simp] theorem bump64_time (o n : Nat) (s : State) : (bump64 o n s).time = s.time := (congrArg State.time (bump64_frame o n s) :)
@[simp] theorem bump64_sill (o n : Nat) (s : State) : (bump64 o n s).sill = s.sill := (congrArg State.sill (bump64_frame o n s) :)
@[simp] theorem bump64_msix (o n : Nat) (s : State) : (bump64 o n s).msix = s.msix := (congrArg State.msix (bump64_frame o n s) :)
@[simp] theorem bump64_perf (o n : Nat) (s : State) : (bump64 o n s).perf = s.perf := (congrArg State.perf (bump64_frame o n s) :)
@[simp] theorem bump64_treas (o n : Nat) (s : State) : (bump64 o n s).treas = s.treas := (congrArg State.treas (bump64_frame o n s) :)
@[simp] theorem bump64_fuses (o n : Nat) (s : State) : (bump64 o n s).fuses = s.fuses := (congrArg State.fuses (bump64_frame o n s) :)
@[simp] theorem bump64_sec (o n : Nat) (s : State) : (bump64 o n s).sec = s.sec := (congrArg State.sec (bump64_frame o n s) :)
@[simp] theorem bump64_pins (o n : Nat) (s : State) : (bump64 o n s).pins = s.pins := (congrArg State.pins (bump64_frame o n s) :)
@[simp] theorem bump64_loader (o n : Nat) (s : State) : (bump64 o n s).loader = s.loader := (congrArg State.loader (bump64_frame o n s) :)
@[simp] theorem bump64_pcie (o n : Nat) (s : State) : (bump64 o n s).pcie = s.pcie := (congrArg State.pcie (bump64_frame o n s) :)
@[simp] theorem bump64_coffer (o n : Nat) (s : State) : (bump64 o n s).coffer = s.coffer := (congrArg State.coffer (bump64_frame o n s) :)
@[simp] theorem bump64_rings (o n : Nat) (s : State) : (bump64 o n s).rings = s.rings := (congrArg State.rings (bump64_frame o n s) :)
@[simp] theorem bump64_out (o n : Nat) (s : State) : (bump64 o n s).out = s.out := (congrArg State.out (bump64_frame o n s) :)
@[simp] theorem bump64_lastBatch (o n : Nat) (s : State) : (bump64 o n s).lastBatch = s.lastBatch := (congrArg State.lastBatch (bump64_frame o n s) :)
@[simp] theorem bump64_ports (o n : Nat) (s : State) : (bump64 o n s).ports = s.ports := (congrArg State.ports (bump64_frame o n s) :)
@[simp] theorem bump64_portCfg (o n : Nat) (s : State) : (bump64 o n s).portCfg = s.portCfg := (congrArg State.portCfg (bump64_frame o n s) :)
@[simp] theorem bump64_lanes (o n : Nat) (s : State) : (bump64 o n s).lanes = s.lanes := (congrArg State.lanes (bump64_frame o n s) :)
@[simp] theorem bump64_laneInv (o n : Nat) (s : State) : (bump64 o n s).laneInv = s.laneInv := (congrArg State.laneInv (bump64_frame o n s) :)
@[simp] theorem bump64_laneTaps (o n : Nat) (s : State) : (bump64 o n s).laneTaps = s.laneTaps := (congrArg State.laneTaps (bump64_frame o n s) :)
@[simp] theorem bump64_teth (o n : Nat) (s : State) : (bump64 o n s).teth = s.teth := (congrArg State.teth (bump64_frame o n s) :)
@[simp] theorem bump64_swc (o n : Nat) (s : State) : (bump64 o n s).swc = s.swc := (congrArg State.swc (bump64_frame o n s) :)
@[simp] theorem bump64_tm (o n : Nat) (s : State) : (bump64 o n s).tm = s.tm := (congrArg State.tm (bump64_frame o n s) :)
@[simp] theorem bump64_templates (o n : Nat) (s : State) : (bump64 o n s).templates = s.templates := (congrArg State.templates (bump64_frame o n s) :)
@[simp] theorem bump64_assay (o n : Nat) (s : State) : (bump64 o n s).assay = s.assay := (congrArg State.assay (bump64_frame o n s) :)
@[simp] theorem bump64_sieve (o n : Nat) (s : State) : (bump64 o n s).sieve = s.sieve := (congrArg State.sieve (bump64_frame o n s) :)
@[simp] theorem bump64_accord (o n : Nat) (s : State) : (bump64 o n s).accord = s.accord := (congrArg State.accord (bump64_frame o n s) :)
@[simp] theorem bump64_ledger (o n : Nat) (s : State) : (bump64 o n s).ledger = s.ledger := (congrArg State.ledger (bump64_frame o n s) :)
@[simp] theorem bump64_disp (o n : Nat) (s : State) : (bump64 o n s).disp = s.disp := (congrArg State.disp (bump64_frame o n s) :)
@[simp] theorem bump64_tellers (o n : Nat) (s : State) : (bump64 o n s).tellers = s.tellers := (congrArg State.tellers (bump64_frame o n s) :)
@[simp] theorem bump64_desks (o n : Nat) (s : State) : (bump64 o n s).desks = s.desks := (congrArg State.desks (bump64_frame o n s) :)
@[simp] theorem bump64_nose (o n : Nat) (s : State) : (bump64 o n s).nose = s.nose := (congrArg State.nose (bump64_frame o n s) :)
@[simp] theorem bump64_automata (o n : Nat) (s : State) : (bump64 o n s).automata = s.automata := (congrArg State.automata (bump64_frame o n s) :)
@[simp] theorem bump64_vault (o n : Nat) (s : State) : (bump64 o n s).vault = s.vault := (congrArg State.vault (bump64_frame o n s) :)
@[simp] theorem bump64_audit (o n : Nat) (s : State) : (bump64 o n s).audit = s.audit := (congrArg State.audit (bump64_frame o n s) :)

theorem peak_frame (o hi lo v : Nat) (s : State) : peak o hi lo v s = { s with regs := (peak o hi lo v s).regs } := by unfold peak; split <;> rfl
@[simp] theorem peak_pending (o hi lo v : Nat) (s : State) : (peak o hi lo v s).pending = s.pending := (congrArg State.pending (peak_frame o hi lo v s) :)
@[simp] theorem peak_free (o hi lo v : Nat) (s : State) : (peak o hi lo v s).free = s.free := (congrArg State.free (peak_frame o hi lo v s) :)
@[simp] theorem peak_dispo (o hi lo v : Nat) (s : State) : (peak o hi lo v s).dispo = s.dispo := (congrArg State.dispo (peak_frame o hi lo v s) :)
@[simp] theorem peak_time (o hi lo v : Nat) (s : State) : (peak o hi lo v s).time = s.time := (congrArg State.time (peak_frame o hi lo v s) :)
@[simp] theorem peak_sill (o hi lo v : Nat) (s : State) : (peak o hi lo v s).sill = s.sill := (congrArg State.sill (peak_frame o hi lo v s) :)
@[simp] theorem peak_msix (o hi lo v : Nat) (s : State) : (peak o hi lo v s).msix = s.msix := (congrArg State.msix (peak_frame o hi lo v s) :)
@[simp] theorem peak_perf (o hi lo v : Nat) (s : State) : (peak o hi lo v s).perf = s.perf := (congrArg State.perf (peak_frame o hi lo v s) :)
@[simp] theorem peak_treas (o hi lo v : Nat) (s : State) : (peak o hi lo v s).treas = s.treas := (congrArg State.treas (peak_frame o hi lo v s) :)
@[simp] theorem peak_fuses (o hi lo v : Nat) (s : State) : (peak o hi lo v s).fuses = s.fuses := (congrArg State.fuses (peak_frame o hi lo v s) :)
@[simp] theorem peak_sec (o hi lo v : Nat) (s : State) : (peak o hi lo v s).sec = s.sec := (congrArg State.sec (peak_frame o hi lo v s) :)
@[simp] theorem peak_pins (o hi lo v : Nat) (s : State) : (peak o hi lo v s).pins = s.pins := (congrArg State.pins (peak_frame o hi lo v s) :)
@[simp] theorem peak_loader (o hi lo v : Nat) (s : State) : (peak o hi lo v s).loader = s.loader := (congrArg State.loader (peak_frame o hi lo v s) :)
@[simp] theorem peak_pcie (o hi lo v : Nat) (s : State) : (peak o hi lo v s).pcie = s.pcie := (congrArg State.pcie (peak_frame o hi lo v s) :)
@[simp] theorem peak_coffer (o hi lo v : Nat) (s : State) : (peak o hi lo v s).coffer = s.coffer := (congrArg State.coffer (peak_frame o hi lo v s) :)
@[simp] theorem peak_rings (o hi lo v : Nat) (s : State) : (peak o hi lo v s).rings = s.rings := (congrArg State.rings (peak_frame o hi lo v s) :)
@[simp] theorem peak_out (o hi lo v : Nat) (s : State) : (peak o hi lo v s).out = s.out := (congrArg State.out (peak_frame o hi lo v s) :)
@[simp] theorem peak_lastBatch (o hi lo v : Nat) (s : State) : (peak o hi lo v s).lastBatch = s.lastBatch := (congrArg State.lastBatch (peak_frame o hi lo v s) :)
@[simp] theorem peak_ports (o hi lo v : Nat) (s : State) : (peak o hi lo v s).ports = s.ports := (congrArg State.ports (peak_frame o hi lo v s) :)
@[simp] theorem peak_portCfg (o hi lo v : Nat) (s : State) : (peak o hi lo v s).portCfg = s.portCfg := (congrArg State.portCfg (peak_frame o hi lo v s) :)
@[simp] theorem peak_lanes (o hi lo v : Nat) (s : State) : (peak o hi lo v s).lanes = s.lanes := (congrArg State.lanes (peak_frame o hi lo v s) :)
@[simp] theorem peak_laneInv (o hi lo v : Nat) (s : State) : (peak o hi lo v s).laneInv = s.laneInv := (congrArg State.laneInv (peak_frame o hi lo v s) :)
@[simp] theorem peak_laneTaps (o hi lo v : Nat) (s : State) : (peak o hi lo v s).laneTaps = s.laneTaps := (congrArg State.laneTaps (peak_frame o hi lo v s) :)
@[simp] theorem peak_teth (o hi lo v : Nat) (s : State) : (peak o hi lo v s).teth = s.teth := (congrArg State.teth (peak_frame o hi lo v s) :)
@[simp] theorem peak_swc (o hi lo v : Nat) (s : State) : (peak o hi lo v s).swc = s.swc := (congrArg State.swc (peak_frame o hi lo v s) :)
@[simp] theorem peak_tm (o hi lo v : Nat) (s : State) : (peak o hi lo v s).tm = s.tm := (congrArg State.tm (peak_frame o hi lo v s) :)
@[simp] theorem peak_templates (o hi lo v : Nat) (s : State) : (peak o hi lo v s).templates = s.templates := (congrArg State.templates (peak_frame o hi lo v s) :)
@[simp] theorem peak_assay (o hi lo v : Nat) (s : State) : (peak o hi lo v s).assay = s.assay := (congrArg State.assay (peak_frame o hi lo v s) :)
@[simp] theorem peak_sieve (o hi lo v : Nat) (s : State) : (peak o hi lo v s).sieve = s.sieve := (congrArg State.sieve (peak_frame o hi lo v s) :)
@[simp] theorem peak_accord (o hi lo v : Nat) (s : State) : (peak o hi lo v s).accord = s.accord := (congrArg State.accord (peak_frame o hi lo v s) :)
@[simp] theorem peak_ledger (o hi lo v : Nat) (s : State) : (peak o hi lo v s).ledger = s.ledger := (congrArg State.ledger (peak_frame o hi lo v s) :)
@[simp] theorem peak_disp (o hi lo v : Nat) (s : State) : (peak o hi lo v s).disp = s.disp := (congrArg State.disp (peak_frame o hi lo v s) :)
@[simp] theorem peak_tellers (o hi lo v : Nat) (s : State) : (peak o hi lo v s).tellers = s.tellers := (congrArg State.tellers (peak_frame o hi lo v s) :)
@[simp] theorem peak_desks (o hi lo v : Nat) (s : State) : (peak o hi lo v s).desks = s.desks := (congrArg State.desks (peak_frame o hi lo v s) :)
@[simp] theorem peak_nose (o hi lo v : Nat) (s : State) : (peak o hi lo v s).nose = s.nose := (congrArg State.nose (peak_frame o hi lo v s) :)
@[simp] theorem peak_automata (o hi lo v : Nat) (s : State) : (peak o hi lo v s).automata = s.automata := (congrArg State.automata (peak_frame o hi lo v s) :)
@[simp] theorem peak_vault (o hi lo v : Nat) (s : State) : (peak o hi lo v s).vault = s.vault := (congrArg State.vault (peak_frame o hi lo v s) :)
@[simp] theorem peak_audit (o hi lo v : Nat) (s : State) : (peak o hi lo v s).audit = s.audit := (congrArg State.audit (peak_frame o hi lo v s) :)

theorem cause_frame (o i : Nat) (s : State) : cause o i s = { s with regs := (cause o i s).regs } := by rfl
@[simp] theorem cause_pending (o i : Nat) (s : State) : (cause o i s).pending = s.pending := (congrArg State.pending (cause_frame o i s) :)
@[simp] theorem cause_free (o i : Nat) (s : State) : (cause o i s).free = s.free := (congrArg State.free (cause_frame o i s) :)
@[simp] theorem cause_dispo (o i : Nat) (s : State) : (cause o i s).dispo = s.dispo := (congrArg State.dispo (cause_frame o i s) :)
@[simp] theorem cause_time (o i : Nat) (s : State) : (cause o i s).time = s.time := (congrArg State.time (cause_frame o i s) :)
@[simp] theorem cause_sill (o i : Nat) (s : State) : (cause o i s).sill = s.sill := (congrArg State.sill (cause_frame o i s) :)
@[simp] theorem cause_msix (o i : Nat) (s : State) : (cause o i s).msix = s.msix := (congrArg State.msix (cause_frame o i s) :)
@[simp] theorem cause_perf (o i : Nat) (s : State) : (cause o i s).perf = s.perf := (congrArg State.perf (cause_frame o i s) :)
@[simp] theorem cause_treas (o i : Nat) (s : State) : (cause o i s).treas = s.treas := (congrArg State.treas (cause_frame o i s) :)
@[simp] theorem cause_fuses (o i : Nat) (s : State) : (cause o i s).fuses = s.fuses := (congrArg State.fuses (cause_frame o i s) :)
@[simp] theorem cause_sec (o i : Nat) (s : State) : (cause o i s).sec = s.sec := (congrArg State.sec (cause_frame o i s) :)
@[simp] theorem cause_pins (o i : Nat) (s : State) : (cause o i s).pins = s.pins := (congrArg State.pins (cause_frame o i s) :)
@[simp] theorem cause_loader (o i : Nat) (s : State) : (cause o i s).loader = s.loader := (congrArg State.loader (cause_frame o i s) :)
@[simp] theorem cause_pcie (o i : Nat) (s : State) : (cause o i s).pcie = s.pcie := (congrArg State.pcie (cause_frame o i s) :)
@[simp] theorem cause_coffer (o i : Nat) (s : State) : (cause o i s).coffer = s.coffer := (congrArg State.coffer (cause_frame o i s) :)
@[simp] theorem cause_rings (o i : Nat) (s : State) : (cause o i s).rings = s.rings := (congrArg State.rings (cause_frame o i s) :)
@[simp] theorem cause_out (o i : Nat) (s : State) : (cause o i s).out = s.out := (congrArg State.out (cause_frame o i s) :)
@[simp] theorem cause_lastBatch (o i : Nat) (s : State) : (cause o i s).lastBatch = s.lastBatch := (congrArg State.lastBatch (cause_frame o i s) :)
@[simp] theorem cause_ports (o i : Nat) (s : State) : (cause o i s).ports = s.ports := (congrArg State.ports (cause_frame o i s) :)
@[simp] theorem cause_portCfg (o i : Nat) (s : State) : (cause o i s).portCfg = s.portCfg := (congrArg State.portCfg (cause_frame o i s) :)
@[simp] theorem cause_lanes (o i : Nat) (s : State) : (cause o i s).lanes = s.lanes := (congrArg State.lanes (cause_frame o i s) :)
@[simp] theorem cause_laneInv (o i : Nat) (s : State) : (cause o i s).laneInv = s.laneInv := (congrArg State.laneInv (cause_frame o i s) :)
@[simp] theorem cause_laneTaps (o i : Nat) (s : State) : (cause o i s).laneTaps = s.laneTaps := (congrArg State.laneTaps (cause_frame o i s) :)
@[simp] theorem cause_teth (o i : Nat) (s : State) : (cause o i s).teth = s.teth := (congrArg State.teth (cause_frame o i s) :)
@[simp] theorem cause_swc (o i : Nat) (s : State) : (cause o i s).swc = s.swc := (congrArg State.swc (cause_frame o i s) :)
@[simp] theorem cause_tm (o i : Nat) (s : State) : (cause o i s).tm = s.tm := (congrArg State.tm (cause_frame o i s) :)
@[simp] theorem cause_templates (o i : Nat) (s : State) : (cause o i s).templates = s.templates := (congrArg State.templates (cause_frame o i s) :)
@[simp] theorem cause_assay (o i : Nat) (s : State) : (cause o i s).assay = s.assay := (congrArg State.assay (cause_frame o i s) :)
@[simp] theorem cause_sieve (o i : Nat) (s : State) : (cause o i s).sieve = s.sieve := (congrArg State.sieve (cause_frame o i s) :)
@[simp] theorem cause_accord (o i : Nat) (s : State) : (cause o i s).accord = s.accord := (congrArg State.accord (cause_frame o i s) :)
@[simp] theorem cause_ledger (o i : Nat) (s : State) : (cause o i s).ledger = s.ledger := (congrArg State.ledger (cause_frame o i s) :)
@[simp] theorem cause_disp (o i : Nat) (s : State) : (cause o i s).disp = s.disp := (congrArg State.disp (cause_frame o i s) :)
@[simp] theorem cause_tellers (o i : Nat) (s : State) : (cause o i s).tellers = s.tellers := (congrArg State.tellers (cause_frame o i s) :)
@[simp] theorem cause_desks (o i : Nat) (s : State) : (cause o i s).desks = s.desks := (congrArg State.desks (cause_frame o i s) :)
@[simp] theorem cause_nose (o i : Nat) (s : State) : (cause o i s).nose = s.nose := (congrArg State.nose (cause_frame o i s) :)
@[simp] theorem cause_automata (o i : Nat) (s : State) : (cause o i s).automata = s.automata := (congrArg State.automata (cause_frame o i s) :)
@[simp] theorem cause_vault (o i : Nat) (s : State) : (cause o i s).vault = s.vault := (congrArg State.vault (cause_frame o i s) :)
@[simp] theorem cause_audit (o i : Nat) (s : State) : (cause o i s).audit = s.audit := (congrArg State.audit (cause_frame o i s) :)

theorem stampAt_frame (a b net : Nat) (s : State) : stampAt a b net s = { s with regs := (stampAt a b net s).regs } := by rfl
@[simp] theorem stampAt_pending (a b net : Nat) (s : State) : (stampAt a b net s).pending = s.pending := (congrArg State.pending (stampAt_frame a b net s) :)
@[simp] theorem stampAt_free (a b net : Nat) (s : State) : (stampAt a b net s).free = s.free := (congrArg State.free (stampAt_frame a b net s) :)
@[simp] theorem stampAt_dispo (a b net : Nat) (s : State) : (stampAt a b net s).dispo = s.dispo := (congrArg State.dispo (stampAt_frame a b net s) :)
@[simp] theorem stampAt_time (a b net : Nat) (s : State) : (stampAt a b net s).time = s.time := (congrArg State.time (stampAt_frame a b net s) :)
@[simp] theorem stampAt_sill (a b net : Nat) (s : State) : (stampAt a b net s).sill = s.sill := (congrArg State.sill (stampAt_frame a b net s) :)
@[simp] theorem stampAt_msix (a b net : Nat) (s : State) : (stampAt a b net s).msix = s.msix := (congrArg State.msix (stampAt_frame a b net s) :)
@[simp] theorem stampAt_perf (a b net : Nat) (s : State) : (stampAt a b net s).perf = s.perf := (congrArg State.perf (stampAt_frame a b net s) :)
@[simp] theorem stampAt_treas (a b net : Nat) (s : State) : (stampAt a b net s).treas = s.treas := (congrArg State.treas (stampAt_frame a b net s) :)
@[simp] theorem stampAt_fuses (a b net : Nat) (s : State) : (stampAt a b net s).fuses = s.fuses := (congrArg State.fuses (stampAt_frame a b net s) :)
@[simp] theorem stampAt_sec (a b net : Nat) (s : State) : (stampAt a b net s).sec = s.sec := (congrArg State.sec (stampAt_frame a b net s) :)
@[simp] theorem stampAt_pins (a b net : Nat) (s : State) : (stampAt a b net s).pins = s.pins := (congrArg State.pins (stampAt_frame a b net s) :)
@[simp] theorem stampAt_loader (a b net : Nat) (s : State) : (stampAt a b net s).loader = s.loader := (congrArg State.loader (stampAt_frame a b net s) :)
@[simp] theorem stampAt_pcie (a b net : Nat) (s : State) : (stampAt a b net s).pcie = s.pcie := (congrArg State.pcie (stampAt_frame a b net s) :)
@[simp] theorem stampAt_coffer (a b net : Nat) (s : State) : (stampAt a b net s).coffer = s.coffer := (congrArg State.coffer (stampAt_frame a b net s) :)
@[simp] theorem stampAt_rings (a b net : Nat) (s : State) : (stampAt a b net s).rings = s.rings := (congrArg State.rings (stampAt_frame a b net s) :)
@[simp] theorem stampAt_out (a b net : Nat) (s : State) : (stampAt a b net s).out = s.out := (congrArg State.out (stampAt_frame a b net s) :)
@[simp] theorem stampAt_lastBatch (a b net : Nat) (s : State) : (stampAt a b net s).lastBatch = s.lastBatch := (congrArg State.lastBatch (stampAt_frame a b net s) :)
@[simp] theorem stampAt_ports (a b net : Nat) (s : State) : (stampAt a b net s).ports = s.ports := (congrArg State.ports (stampAt_frame a b net s) :)
@[simp] theorem stampAt_portCfg (a b net : Nat) (s : State) : (stampAt a b net s).portCfg = s.portCfg := (congrArg State.portCfg (stampAt_frame a b net s) :)
@[simp] theorem stampAt_lanes (a b net : Nat) (s : State) : (stampAt a b net s).lanes = s.lanes := (congrArg State.lanes (stampAt_frame a b net s) :)
@[simp] theorem stampAt_laneInv (a b net : Nat) (s : State) : (stampAt a b net s).laneInv = s.laneInv := (congrArg State.laneInv (stampAt_frame a b net s) :)
@[simp] theorem stampAt_laneTaps (a b net : Nat) (s : State) : (stampAt a b net s).laneTaps = s.laneTaps := (congrArg State.laneTaps (stampAt_frame a b net s) :)
@[simp] theorem stampAt_teth (a b net : Nat) (s : State) : (stampAt a b net s).teth = s.teth := (congrArg State.teth (stampAt_frame a b net s) :)
@[simp] theorem stampAt_swc (a b net : Nat) (s : State) : (stampAt a b net s).swc = s.swc := (congrArg State.swc (stampAt_frame a b net s) :)
@[simp] theorem stampAt_tm (a b net : Nat) (s : State) : (stampAt a b net s).tm = s.tm := (congrArg State.tm (stampAt_frame a b net s) :)
@[simp] theorem stampAt_templates (a b net : Nat) (s : State) : (stampAt a b net s).templates = s.templates := (congrArg State.templates (stampAt_frame a b net s) :)
@[simp] theorem stampAt_assay (a b net : Nat) (s : State) : (stampAt a b net s).assay = s.assay := (congrArg State.assay (stampAt_frame a b net s) :)
@[simp] theorem stampAt_sieve (a b net : Nat) (s : State) : (stampAt a b net s).sieve = s.sieve := (congrArg State.sieve (stampAt_frame a b net s) :)
@[simp] theorem stampAt_accord (a b net : Nat) (s : State) : (stampAt a b net s).accord = s.accord := (congrArg State.accord (stampAt_frame a b net s) :)
@[simp] theorem stampAt_ledger (a b net : Nat) (s : State) : (stampAt a b net s).ledger = s.ledger := (congrArg State.ledger (stampAt_frame a b net s) :)
@[simp] theorem stampAt_disp (a b net : Nat) (s : State) : (stampAt a b net s).disp = s.disp := (congrArg State.disp (stampAt_frame a b net s) :)
@[simp] theorem stampAt_tellers (a b net : Nat) (s : State) : (stampAt a b net s).tellers = s.tellers := (congrArg State.tellers (stampAt_frame a b net s) :)
@[simp] theorem stampAt_desks (a b net : Nat) (s : State) : (stampAt a b net s).desks = s.desks := (congrArg State.desks (stampAt_frame a b net s) :)
@[simp] theorem stampAt_nose (a b net : Nat) (s : State) : (stampAt a b net s).nose = s.nose := (congrArg State.nose (stampAt_frame a b net s) :)
@[simp] theorem stampAt_automata (a b net : Nat) (s : State) : (stampAt a b net s).automata = s.automata := (congrArg State.automata (stampAt_frame a b net s) :)
@[simp] theorem stampAt_vault (a b net : Nat) (s : State) : (stampAt a b net s).vault = s.vault := (congrArg State.vault (stampAt_frame a b net s) :)
@[simp] theorem stampAt_audit (a b net : Nat) (s : State) : (stampAt a b net s).audit = s.audit := (congrArg State.audit (stampAt_frame a b net s) :)

theorem stamp_frame (a b : Nat) (s : State) : stamp a b s = { s with regs := (stamp a b s).regs } := by rfl
@[simp] theorem stamp_pending (a b : Nat) (s : State) : (stamp a b s).pending = s.pending := (congrArg State.pending (stamp_frame a b s) :)
@[simp] theorem stamp_free (a b : Nat) (s : State) : (stamp a b s).free = s.free := (congrArg State.free (stamp_frame a b s) :)
@[simp] theorem stamp_dispo (a b : Nat) (s : State) : (stamp a b s).dispo = s.dispo := (congrArg State.dispo (stamp_frame a b s) :)
@[simp] theorem stamp_time (a b : Nat) (s : State) : (stamp a b s).time = s.time := (congrArg State.time (stamp_frame a b s) :)
@[simp] theorem stamp_sill (a b : Nat) (s : State) : (stamp a b s).sill = s.sill := (congrArg State.sill (stamp_frame a b s) :)
@[simp] theorem stamp_msix (a b : Nat) (s : State) : (stamp a b s).msix = s.msix := (congrArg State.msix (stamp_frame a b s) :)
@[simp] theorem stamp_perf (a b : Nat) (s : State) : (stamp a b s).perf = s.perf := (congrArg State.perf (stamp_frame a b s) :)
@[simp] theorem stamp_treas (a b : Nat) (s : State) : (stamp a b s).treas = s.treas := (congrArg State.treas (stamp_frame a b s) :)
@[simp] theorem stamp_fuses (a b : Nat) (s : State) : (stamp a b s).fuses = s.fuses := (congrArg State.fuses (stamp_frame a b s) :)
@[simp] theorem stamp_sec (a b : Nat) (s : State) : (stamp a b s).sec = s.sec := (congrArg State.sec (stamp_frame a b s) :)
@[simp] theorem stamp_pins (a b : Nat) (s : State) : (stamp a b s).pins = s.pins := (congrArg State.pins (stamp_frame a b s) :)
@[simp] theorem stamp_loader (a b : Nat) (s : State) : (stamp a b s).loader = s.loader := (congrArg State.loader (stamp_frame a b s) :)
@[simp] theorem stamp_pcie (a b : Nat) (s : State) : (stamp a b s).pcie = s.pcie := (congrArg State.pcie (stamp_frame a b s) :)
@[simp] theorem stamp_coffer (a b : Nat) (s : State) : (stamp a b s).coffer = s.coffer := (congrArg State.coffer (stamp_frame a b s) :)
@[simp] theorem stamp_rings (a b : Nat) (s : State) : (stamp a b s).rings = s.rings := (congrArg State.rings (stamp_frame a b s) :)
@[simp] theorem stamp_out (a b : Nat) (s : State) : (stamp a b s).out = s.out := (congrArg State.out (stamp_frame a b s) :)
@[simp] theorem stamp_lastBatch (a b : Nat) (s : State) : (stamp a b s).lastBatch = s.lastBatch := (congrArg State.lastBatch (stamp_frame a b s) :)
@[simp] theorem stamp_ports (a b : Nat) (s : State) : (stamp a b s).ports = s.ports := (congrArg State.ports (stamp_frame a b s) :)
@[simp] theorem stamp_portCfg (a b : Nat) (s : State) : (stamp a b s).portCfg = s.portCfg := (congrArg State.portCfg (stamp_frame a b s) :)
@[simp] theorem stamp_lanes (a b : Nat) (s : State) : (stamp a b s).lanes = s.lanes := (congrArg State.lanes (stamp_frame a b s) :)
@[simp] theorem stamp_laneInv (a b : Nat) (s : State) : (stamp a b s).laneInv = s.laneInv := (congrArg State.laneInv (stamp_frame a b s) :)
@[simp] theorem stamp_laneTaps (a b : Nat) (s : State) : (stamp a b s).laneTaps = s.laneTaps := (congrArg State.laneTaps (stamp_frame a b s) :)
@[simp] theorem stamp_teth (a b : Nat) (s : State) : (stamp a b s).teth = s.teth := (congrArg State.teth (stamp_frame a b s) :)
@[simp] theorem stamp_swc (a b : Nat) (s : State) : (stamp a b s).swc = s.swc := (congrArg State.swc (stamp_frame a b s) :)
@[simp] theorem stamp_tm (a b : Nat) (s : State) : (stamp a b s).tm = s.tm := (congrArg State.tm (stamp_frame a b s) :)
@[simp] theorem stamp_templates (a b : Nat) (s : State) : (stamp a b s).templates = s.templates := (congrArg State.templates (stamp_frame a b s) :)
@[simp] theorem stamp_assay (a b : Nat) (s : State) : (stamp a b s).assay = s.assay := (congrArg State.assay (stamp_frame a b s) :)
@[simp] theorem stamp_sieve (a b : Nat) (s : State) : (stamp a b s).sieve = s.sieve := (congrArg State.sieve (stamp_frame a b s) :)
@[simp] theorem stamp_accord (a b : Nat) (s : State) : (stamp a b s).accord = s.accord := (congrArg State.accord (stamp_frame a b s) :)
@[simp] theorem stamp_ledger (a b : Nat) (s : State) : (stamp a b s).ledger = s.ledger := (congrArg State.ledger (stamp_frame a b s) :)
@[simp] theorem stamp_disp (a b : Nat) (s : State) : (stamp a b s).disp = s.disp := (congrArg State.disp (stamp_frame a b s) :)
@[simp] theorem stamp_tellers (a b : Nat) (s : State) : (stamp a b s).tellers = s.tellers := (congrArg State.tellers (stamp_frame a b s) :)
@[simp] theorem stamp_desks (a b : Nat) (s : State) : (stamp a b s).desks = s.desks := (congrArg State.desks (stamp_frame a b s) :)
@[simp] theorem stamp_nose (a b : Nat) (s : State) : (stamp a b s).nose = s.nose := (congrArg State.nose (stamp_frame a b s) :)
@[simp] theorem stamp_automata (a b : Nat) (s : State) : (stamp a b s).automata = s.automata := (congrArg State.automata (stamp_frame a b s) :)
@[simp] theorem stamp_vault (a b : Nat) (s : State) : (stamp a b s).vault = s.vault := (congrArg State.vault (stamp_frame a b s) :)
@[simp] theorem stamp_audit (a b : Nat) (s : State) : (stamp a b s).audit = s.audit := (congrArg State.audit (stamp_frame a b s) :)

theorem plainWrite_frame (o : Nat) (v : Word32) (s : State) : plainWrite o v s = { s with regs := (plainWrite o v s).regs } := by unfold plainWrite; split <;> rfl
@[simp] theorem plainWrite_pending (o : Nat) (v : Word32) (s : State) : (plainWrite o v s).pending = s.pending := (congrArg State.pending (plainWrite_frame o v s) :)
@[simp] theorem plainWrite_free (o : Nat) (v : Word32) (s : State) : (plainWrite o v s).free = s.free := (congrArg State.free (plainWrite_frame o v s) :)
@[simp] theorem plainWrite_dispo (o : Nat) (v : Word32) (s : State) : (plainWrite o v s).dispo = s.dispo := (congrArg State.dispo (plainWrite_frame o v s) :)
@[simp] theorem plainWrite_time (o : Nat) (v : Word32) (s : State) : (plainWrite o v s).time = s.time := (congrArg State.time (plainWrite_frame o v s) :)
@[simp] theorem plainWrite_sill (o : Nat) (v : Word32) (s : State) : (plainWrite o v s).sill = s.sill := (congrArg State.sill (plainWrite_frame o v s) :)
@[simp] theorem plainWrite_msix (o : Nat) (v : Word32) (s : State) : (plainWrite o v s).msix = s.msix := (congrArg State.msix (plainWrite_frame o v s) :)
@[simp] theorem plainWrite_perf (o : Nat) (v : Word32) (s : State) : (plainWrite o v s).perf = s.perf := (congrArg State.perf (plainWrite_frame o v s) :)
@[simp] theorem plainWrite_treas (o : Nat) (v : Word32) (s : State) : (plainWrite o v s).treas = s.treas := (congrArg State.treas (plainWrite_frame o v s) :)
@[simp] theorem plainWrite_fuses (o : Nat) (v : Word32) (s : State) : (plainWrite o v s).fuses = s.fuses := (congrArg State.fuses (plainWrite_frame o v s) :)
@[simp] theorem plainWrite_sec (o : Nat) (v : Word32) (s : State) : (plainWrite o v s).sec = s.sec := (congrArg State.sec (plainWrite_frame o v s) :)
@[simp] theorem plainWrite_pins (o : Nat) (v : Word32) (s : State) : (plainWrite o v s).pins = s.pins := (congrArg State.pins (plainWrite_frame o v s) :)
@[simp] theorem plainWrite_loader (o : Nat) (v : Word32) (s : State) : (plainWrite o v s).loader = s.loader := (congrArg State.loader (plainWrite_frame o v s) :)
@[simp] theorem plainWrite_pcie (o : Nat) (v : Word32) (s : State) : (plainWrite o v s).pcie = s.pcie := (congrArg State.pcie (plainWrite_frame o v s) :)
@[simp] theorem plainWrite_coffer (o : Nat) (v : Word32) (s : State) : (plainWrite o v s).coffer = s.coffer := (congrArg State.coffer (plainWrite_frame o v s) :)
@[simp] theorem plainWrite_rings (o : Nat) (v : Word32) (s : State) : (plainWrite o v s).rings = s.rings := (congrArg State.rings (plainWrite_frame o v s) :)
@[simp] theorem plainWrite_out (o : Nat) (v : Word32) (s : State) : (plainWrite o v s).out = s.out := (congrArg State.out (plainWrite_frame o v s) :)
@[simp] theorem plainWrite_lastBatch (o : Nat) (v : Word32) (s : State) : (plainWrite o v s).lastBatch = s.lastBatch := (congrArg State.lastBatch (plainWrite_frame o v s) :)
@[simp] theorem plainWrite_ports (o : Nat) (v : Word32) (s : State) : (plainWrite o v s).ports = s.ports := (congrArg State.ports (plainWrite_frame o v s) :)
@[simp] theorem plainWrite_portCfg (o : Nat) (v : Word32) (s : State) : (plainWrite o v s).portCfg = s.portCfg := (congrArg State.portCfg (plainWrite_frame o v s) :)
@[simp] theorem plainWrite_lanes (o : Nat) (v : Word32) (s : State) : (plainWrite o v s).lanes = s.lanes := (congrArg State.lanes (plainWrite_frame o v s) :)
@[simp] theorem plainWrite_laneInv (o : Nat) (v : Word32) (s : State) : (plainWrite o v s).laneInv = s.laneInv := (congrArg State.laneInv (plainWrite_frame o v s) :)
@[simp] theorem plainWrite_laneTaps (o : Nat) (v : Word32) (s : State) : (plainWrite o v s).laneTaps = s.laneTaps := (congrArg State.laneTaps (plainWrite_frame o v s) :)
@[simp] theorem plainWrite_teth (o : Nat) (v : Word32) (s : State) : (plainWrite o v s).teth = s.teth := (congrArg State.teth (plainWrite_frame o v s) :)
@[simp] theorem plainWrite_swc (o : Nat) (v : Word32) (s : State) : (plainWrite o v s).swc = s.swc := (congrArg State.swc (plainWrite_frame o v s) :)
@[simp] theorem plainWrite_tm (o : Nat) (v : Word32) (s : State) : (plainWrite o v s).tm = s.tm := (congrArg State.tm (plainWrite_frame o v s) :)
@[simp] theorem plainWrite_templates (o : Nat) (v : Word32) (s : State) : (plainWrite o v s).templates = s.templates := (congrArg State.templates (plainWrite_frame o v s) :)
@[simp] theorem plainWrite_assay (o : Nat) (v : Word32) (s : State) : (plainWrite o v s).assay = s.assay := (congrArg State.assay (plainWrite_frame o v s) :)
@[simp] theorem plainWrite_sieve (o : Nat) (v : Word32) (s : State) : (plainWrite o v s).sieve = s.sieve := (congrArg State.sieve (plainWrite_frame o v s) :)
@[simp] theorem plainWrite_accord (o : Nat) (v : Word32) (s : State) : (plainWrite o v s).accord = s.accord := (congrArg State.accord (plainWrite_frame o v s) :)
@[simp] theorem plainWrite_ledger (o : Nat) (v : Word32) (s : State) : (plainWrite o v s).ledger = s.ledger := (congrArg State.ledger (plainWrite_frame o v s) :)
@[simp] theorem plainWrite_disp (o : Nat) (v : Word32) (s : State) : (plainWrite o v s).disp = s.disp := (congrArg State.disp (plainWrite_frame o v s) :)
@[simp] theorem plainWrite_tellers (o : Nat) (v : Word32) (s : State) : (plainWrite o v s).tellers = s.tellers := (congrArg State.tellers (plainWrite_frame o v s) :)
@[simp] theorem plainWrite_desks (o : Nat) (v : Word32) (s : State) : (plainWrite o v s).desks = s.desks := (congrArg State.desks (plainWrite_frame o v s) :)
@[simp] theorem plainWrite_nose (o : Nat) (v : Word32) (s : State) : (plainWrite o v s).nose = s.nose := (congrArg State.nose (plainWrite_frame o v s) :)
@[simp] theorem plainWrite_automata (o : Nat) (v : Word32) (s : State) : (plainWrite o v s).automata = s.automata := (congrArg State.automata (plainWrite_frame o v s) :)
@[simp] theorem plainWrite_vault (o : Nat) (v : Word32) (s : State) : (plainWrite o v s).vault = s.vault := (congrArg State.vault (plainWrite_frame o v s) :)
@[simp] theorem plainWrite_audit (o : Nat) (v : Word32) (s : State) : (plainWrite o v s).audit = s.audit := (congrArg State.audit (plainWrite_frame o v s) :)

theorem perfCount_frame (u k n : Nat) (s : State) : perfCount u k n s = { s with regs := (perfCount u k n s).regs } := by unfold perfCount; dsimp only; split <;> (try split) <;> rfl
@[simp] theorem perfCount_pending (u k n : Nat) (s : State) : (perfCount u k n s).pending = s.pending := (congrArg State.pending (perfCount_frame u k n s) :)
@[simp] theorem perfCount_free (u k n : Nat) (s : State) : (perfCount u k n s).free = s.free := (congrArg State.free (perfCount_frame u k n s) :)
@[simp] theorem perfCount_dispo (u k n : Nat) (s : State) : (perfCount u k n s).dispo = s.dispo := (congrArg State.dispo (perfCount_frame u k n s) :)
@[simp] theorem perfCount_time (u k n : Nat) (s : State) : (perfCount u k n s).time = s.time := (congrArg State.time (perfCount_frame u k n s) :)
@[simp] theorem perfCount_sill (u k n : Nat) (s : State) : (perfCount u k n s).sill = s.sill := (congrArg State.sill (perfCount_frame u k n s) :)
@[simp] theorem perfCount_msix (u k n : Nat) (s : State) : (perfCount u k n s).msix = s.msix := (congrArg State.msix (perfCount_frame u k n s) :)
@[simp] theorem perfCount_perf (u k n : Nat) (s : State) : (perfCount u k n s).perf = s.perf := (congrArg State.perf (perfCount_frame u k n s) :)
@[simp] theorem perfCount_treas (u k n : Nat) (s : State) : (perfCount u k n s).treas = s.treas := (congrArg State.treas (perfCount_frame u k n s) :)
@[simp] theorem perfCount_fuses (u k n : Nat) (s : State) : (perfCount u k n s).fuses = s.fuses := (congrArg State.fuses (perfCount_frame u k n s) :)
@[simp] theorem perfCount_sec (u k n : Nat) (s : State) : (perfCount u k n s).sec = s.sec := (congrArg State.sec (perfCount_frame u k n s) :)
@[simp] theorem perfCount_pins (u k n : Nat) (s : State) : (perfCount u k n s).pins = s.pins := (congrArg State.pins (perfCount_frame u k n s) :)
@[simp] theorem perfCount_loader (u k n : Nat) (s : State) : (perfCount u k n s).loader = s.loader := (congrArg State.loader (perfCount_frame u k n s) :)
@[simp] theorem perfCount_pcie (u k n : Nat) (s : State) : (perfCount u k n s).pcie = s.pcie := (congrArg State.pcie (perfCount_frame u k n s) :)
@[simp] theorem perfCount_coffer (u k n : Nat) (s : State) : (perfCount u k n s).coffer = s.coffer := (congrArg State.coffer (perfCount_frame u k n s) :)
@[simp] theorem perfCount_rings (u k n : Nat) (s : State) : (perfCount u k n s).rings = s.rings := (congrArg State.rings (perfCount_frame u k n s) :)
@[simp] theorem perfCount_out (u k n : Nat) (s : State) : (perfCount u k n s).out = s.out := (congrArg State.out (perfCount_frame u k n s) :)
@[simp] theorem perfCount_lastBatch (u k n : Nat) (s : State) : (perfCount u k n s).lastBatch = s.lastBatch := (congrArg State.lastBatch (perfCount_frame u k n s) :)
@[simp] theorem perfCount_ports (u k n : Nat) (s : State) : (perfCount u k n s).ports = s.ports := (congrArg State.ports (perfCount_frame u k n s) :)
@[simp] theorem perfCount_portCfg (u k n : Nat) (s : State) : (perfCount u k n s).portCfg = s.portCfg := (congrArg State.portCfg (perfCount_frame u k n s) :)
@[simp] theorem perfCount_lanes (u k n : Nat) (s : State) : (perfCount u k n s).lanes = s.lanes := (congrArg State.lanes (perfCount_frame u k n s) :)
@[simp] theorem perfCount_laneInv (u k n : Nat) (s : State) : (perfCount u k n s).laneInv = s.laneInv := (congrArg State.laneInv (perfCount_frame u k n s) :)
@[simp] theorem perfCount_laneTaps (u k n : Nat) (s : State) : (perfCount u k n s).laneTaps = s.laneTaps := (congrArg State.laneTaps (perfCount_frame u k n s) :)
@[simp] theorem perfCount_teth (u k n : Nat) (s : State) : (perfCount u k n s).teth = s.teth := (congrArg State.teth (perfCount_frame u k n s) :)
@[simp] theorem perfCount_swc (u k n : Nat) (s : State) : (perfCount u k n s).swc = s.swc := (congrArg State.swc (perfCount_frame u k n s) :)
@[simp] theorem perfCount_tm (u k n : Nat) (s : State) : (perfCount u k n s).tm = s.tm := (congrArg State.tm (perfCount_frame u k n s) :)
@[simp] theorem perfCount_templates (u k n : Nat) (s : State) : (perfCount u k n s).templates = s.templates := (congrArg State.templates (perfCount_frame u k n s) :)
@[simp] theorem perfCount_assay (u k n : Nat) (s : State) : (perfCount u k n s).assay = s.assay := (congrArg State.assay (perfCount_frame u k n s) :)
@[simp] theorem perfCount_sieve (u k n : Nat) (s : State) : (perfCount u k n s).sieve = s.sieve := (congrArg State.sieve (perfCount_frame u k n s) :)
@[simp] theorem perfCount_accord (u k n : Nat) (s : State) : (perfCount u k n s).accord = s.accord := (congrArg State.accord (perfCount_frame u k n s) :)
@[simp] theorem perfCount_ledger (u k n : Nat) (s : State) : (perfCount u k n s).ledger = s.ledger := (congrArg State.ledger (perfCount_frame u k n s) :)
@[simp] theorem perfCount_disp (u k n : Nat) (s : State) : (perfCount u k n s).disp = s.disp := (congrArg State.disp (perfCount_frame u k n s) :)
@[simp] theorem perfCount_tellers (u k n : Nat) (s : State) : (perfCount u k n s).tellers = s.tellers := (congrArg State.tellers (perfCount_frame u k n s) :)
@[simp] theorem perfCount_desks (u k n : Nat) (s : State) : (perfCount u k n s).desks = s.desks := (congrArg State.desks (perfCount_frame u k n s) :)
@[simp] theorem perfCount_nose (u k n : Nat) (s : State) : (perfCount u k n s).nose = s.nose := (congrArg State.nose (perfCount_frame u k n s) :)
@[simp] theorem perfCount_automata (u k n : Nat) (s : State) : (perfCount u k n s).automata = s.automata := (congrArg State.automata (perfCount_frame u k n s) :)
@[simp] theorem perfCount_vault (u k n : Nat) (s : State) : (perfCount u k n s).vault = s.vault := (congrArg State.vault (perfCount_frame u k n s) :)
@[simp] theorem perfCount_audit (u k n : Nat) (s : State) : (perfCount u k n s).audit = s.audit := (congrArg State.audit (perfCount_frame u k n s) :)

theorem perfN_frame (u code n : Nat) (s : State) : perfN u code n s = { s with regs := (perfN u code n s).regs } := by
  unfold perfN
  split
  · rfl
  · refine foldl_frame _ (fun t k => ?_) _ _
    split
    · exact perfCount_frame ..
    · rfl
@[simp] theorem perfN_pending (u code n : Nat) (s : State) : (perfN u code n s).pending = s.pending := (congrArg State.pending (perfN_frame u code n s) :)
@[simp] theorem perfN_free (u code n : Nat) (s : State) : (perfN u code n s).free = s.free := (congrArg State.free (perfN_frame u code n s) :)
@[simp] theorem perfN_dispo (u code n : Nat) (s : State) : (perfN u code n s).dispo = s.dispo := (congrArg State.dispo (perfN_frame u code n s) :)
@[simp] theorem perfN_time (u code n : Nat) (s : State) : (perfN u code n s).time = s.time := (congrArg State.time (perfN_frame u code n s) :)
@[simp] theorem perfN_sill (u code n : Nat) (s : State) : (perfN u code n s).sill = s.sill := (congrArg State.sill (perfN_frame u code n s) :)
@[simp] theorem perfN_msix (u code n : Nat) (s : State) : (perfN u code n s).msix = s.msix := (congrArg State.msix (perfN_frame u code n s) :)
@[simp] theorem perfN_perf (u code n : Nat) (s : State) : (perfN u code n s).perf = s.perf := (congrArg State.perf (perfN_frame u code n s) :)
@[simp] theorem perfN_treas (u code n : Nat) (s : State) : (perfN u code n s).treas = s.treas := (congrArg State.treas (perfN_frame u code n s) :)
@[simp] theorem perfN_fuses (u code n : Nat) (s : State) : (perfN u code n s).fuses = s.fuses := (congrArg State.fuses (perfN_frame u code n s) :)
@[simp] theorem perfN_sec (u code n : Nat) (s : State) : (perfN u code n s).sec = s.sec := (congrArg State.sec (perfN_frame u code n s) :)
@[simp] theorem perfN_pins (u code n : Nat) (s : State) : (perfN u code n s).pins = s.pins := (congrArg State.pins (perfN_frame u code n s) :)
@[simp] theorem perfN_loader (u code n : Nat) (s : State) : (perfN u code n s).loader = s.loader := (congrArg State.loader (perfN_frame u code n s) :)
@[simp] theorem perfN_pcie (u code n : Nat) (s : State) : (perfN u code n s).pcie = s.pcie := (congrArg State.pcie (perfN_frame u code n s) :)
@[simp] theorem perfN_coffer (u code n : Nat) (s : State) : (perfN u code n s).coffer = s.coffer := (congrArg State.coffer (perfN_frame u code n s) :)
@[simp] theorem perfN_rings (u code n : Nat) (s : State) : (perfN u code n s).rings = s.rings := (congrArg State.rings (perfN_frame u code n s) :)
@[simp] theorem perfN_out (u code n : Nat) (s : State) : (perfN u code n s).out = s.out := (congrArg State.out (perfN_frame u code n s) :)
@[simp] theorem perfN_lastBatch (u code n : Nat) (s : State) : (perfN u code n s).lastBatch = s.lastBatch := (congrArg State.lastBatch (perfN_frame u code n s) :)
@[simp] theorem perfN_ports (u code n : Nat) (s : State) : (perfN u code n s).ports = s.ports := (congrArg State.ports (perfN_frame u code n s) :)
@[simp] theorem perfN_portCfg (u code n : Nat) (s : State) : (perfN u code n s).portCfg = s.portCfg := (congrArg State.portCfg (perfN_frame u code n s) :)
@[simp] theorem perfN_lanes (u code n : Nat) (s : State) : (perfN u code n s).lanes = s.lanes := (congrArg State.lanes (perfN_frame u code n s) :)
@[simp] theorem perfN_laneInv (u code n : Nat) (s : State) : (perfN u code n s).laneInv = s.laneInv := (congrArg State.laneInv (perfN_frame u code n s) :)
@[simp] theorem perfN_laneTaps (u code n : Nat) (s : State) : (perfN u code n s).laneTaps = s.laneTaps := (congrArg State.laneTaps (perfN_frame u code n s) :)
@[simp] theorem perfN_teth (u code n : Nat) (s : State) : (perfN u code n s).teth = s.teth := (congrArg State.teth (perfN_frame u code n s) :)
@[simp] theorem perfN_swc (u code n : Nat) (s : State) : (perfN u code n s).swc = s.swc := (congrArg State.swc (perfN_frame u code n s) :)
@[simp] theorem perfN_tm (u code n : Nat) (s : State) : (perfN u code n s).tm = s.tm := (congrArg State.tm (perfN_frame u code n s) :)
@[simp] theorem perfN_templates (u code n : Nat) (s : State) : (perfN u code n s).templates = s.templates := (congrArg State.templates (perfN_frame u code n s) :)
@[simp] theorem perfN_assay (u code n : Nat) (s : State) : (perfN u code n s).assay = s.assay := (congrArg State.assay (perfN_frame u code n s) :)
@[simp] theorem perfN_sieve (u code n : Nat) (s : State) : (perfN u code n s).sieve = s.sieve := (congrArg State.sieve (perfN_frame u code n s) :)
@[simp] theorem perfN_accord (u code n : Nat) (s : State) : (perfN u code n s).accord = s.accord := (congrArg State.accord (perfN_frame u code n s) :)
@[simp] theorem perfN_ledger (u code n : Nat) (s : State) : (perfN u code n s).ledger = s.ledger := (congrArg State.ledger (perfN_frame u code n s) :)
@[simp] theorem perfN_disp (u code n : Nat) (s : State) : (perfN u code n s).disp = s.disp := (congrArg State.disp (perfN_frame u code n s) :)
@[simp] theorem perfN_tellers (u code n : Nat) (s : State) : (perfN u code n s).tellers = s.tellers := (congrArg State.tellers (perfN_frame u code n s) :)
@[simp] theorem perfN_desks (u code n : Nat) (s : State) : (perfN u code n s).desks = s.desks := (congrArg State.desks (perfN_frame u code n s) :)
@[simp] theorem perfN_nose (u code n : Nat) (s : State) : (perfN u code n s).nose = s.nose := (congrArg State.nose (perfN_frame u code n s) :)
@[simp] theorem perfN_automata (u code n : Nat) (s : State) : (perfN u code n s).automata = s.automata := (congrArg State.automata (perfN_frame u code n s) :)
@[simp] theorem perfN_vault (u code n : Nat) (s : State) : (perfN u code n s).vault = s.vault := (congrArg State.vault (perfN_frame u code n s) :)
@[simp] theorem perfN_audit (u code n : Nat) (s : State) : (perfN u code n s).audit = s.audit := (congrArg State.audit (perfN_frame u code n s) :)

theorem perf_frame (u code : Nat) (s : State) : perf u code s = { s with regs := (perf u code s).regs } := by exact perfN_frame ..
@[simp] theorem perf_pending (u code : Nat) (s : State) : (perf u code s).pending = s.pending := (congrArg State.pending (perf_frame u code s) :)
@[simp] theorem perf_free (u code : Nat) (s : State) : (perf u code s).free = s.free := (congrArg State.free (perf_frame u code s) :)
@[simp] theorem perf_dispo (u code : Nat) (s : State) : (perf u code s).dispo = s.dispo := (congrArg State.dispo (perf_frame u code s) :)
@[simp] theorem perf_time (u code : Nat) (s : State) : (perf u code s).time = s.time := (congrArg State.time (perf_frame u code s) :)
@[simp] theorem perf_sill (u code : Nat) (s : State) : (perf u code s).sill = s.sill := (congrArg State.sill (perf_frame u code s) :)
@[simp] theorem perf_msix (u code : Nat) (s : State) : (perf u code s).msix = s.msix := (congrArg State.msix (perf_frame u code s) :)
@[simp] theorem perf_perf (u code : Nat) (s : State) : (perf u code s).perf = s.perf := (congrArg State.perf (perf_frame u code s) :)
@[simp] theorem perf_treas (u code : Nat) (s : State) : (perf u code s).treas = s.treas := (congrArg State.treas (perf_frame u code s) :)
@[simp] theorem perf_fuses (u code : Nat) (s : State) : (perf u code s).fuses = s.fuses := (congrArg State.fuses (perf_frame u code s) :)
@[simp] theorem perf_sec (u code : Nat) (s : State) : (perf u code s).sec = s.sec := (congrArg State.sec (perf_frame u code s) :)
@[simp] theorem perf_pins (u code : Nat) (s : State) : (perf u code s).pins = s.pins := (congrArg State.pins (perf_frame u code s) :)
@[simp] theorem perf_loader (u code : Nat) (s : State) : (perf u code s).loader = s.loader := (congrArg State.loader (perf_frame u code s) :)
@[simp] theorem perf_pcie (u code : Nat) (s : State) : (perf u code s).pcie = s.pcie := (congrArg State.pcie (perf_frame u code s) :)
@[simp] theorem perf_coffer (u code : Nat) (s : State) : (perf u code s).coffer = s.coffer := (congrArg State.coffer (perf_frame u code s) :)
@[simp] theorem perf_rings (u code : Nat) (s : State) : (perf u code s).rings = s.rings := (congrArg State.rings (perf_frame u code s) :)
@[simp] theorem perf_out (u code : Nat) (s : State) : (perf u code s).out = s.out := (congrArg State.out (perf_frame u code s) :)
@[simp] theorem perf_lastBatch (u code : Nat) (s : State) : (perf u code s).lastBatch = s.lastBatch := (congrArg State.lastBatch (perf_frame u code s) :)
@[simp] theorem perf_ports (u code : Nat) (s : State) : (perf u code s).ports = s.ports := (congrArg State.ports (perf_frame u code s) :)
@[simp] theorem perf_portCfg (u code : Nat) (s : State) : (perf u code s).portCfg = s.portCfg := (congrArg State.portCfg (perf_frame u code s) :)
@[simp] theorem perf_lanes (u code : Nat) (s : State) : (perf u code s).lanes = s.lanes := (congrArg State.lanes (perf_frame u code s) :)
@[simp] theorem perf_laneInv (u code : Nat) (s : State) : (perf u code s).laneInv = s.laneInv := (congrArg State.laneInv (perf_frame u code s) :)
@[simp] theorem perf_laneTaps (u code : Nat) (s : State) : (perf u code s).laneTaps = s.laneTaps := (congrArg State.laneTaps (perf_frame u code s) :)
@[simp] theorem perf_teth (u code : Nat) (s : State) : (perf u code s).teth = s.teth := (congrArg State.teth (perf_frame u code s) :)
@[simp] theorem perf_swc (u code : Nat) (s : State) : (perf u code s).swc = s.swc := (congrArg State.swc (perf_frame u code s) :)
@[simp] theorem perf_tm (u code : Nat) (s : State) : (perf u code s).tm = s.tm := (congrArg State.tm (perf_frame u code s) :)
@[simp] theorem perf_templates (u code : Nat) (s : State) : (perf u code s).templates = s.templates := (congrArg State.templates (perf_frame u code s) :)
@[simp] theorem perf_assay (u code : Nat) (s : State) : (perf u code s).assay = s.assay := (congrArg State.assay (perf_frame u code s) :)
@[simp] theorem perf_sieve (u code : Nat) (s : State) : (perf u code s).sieve = s.sieve := (congrArg State.sieve (perf_frame u code s) :)
@[simp] theorem perf_accord (u code : Nat) (s : State) : (perf u code s).accord = s.accord := (congrArg State.accord (perf_frame u code s) :)
@[simp] theorem perf_ledger (u code : Nat) (s : State) : (perf u code s).ledger = s.ledger := (congrArg State.ledger (perf_frame u code s) :)
@[simp] theorem perf_disp (u code : Nat) (s : State) : (perf u code s).disp = s.disp := (congrArg State.disp (perf_frame u code s) :)
@[simp] theorem perf_tellers (u code : Nat) (s : State) : (perf u code s).tellers = s.tellers := (congrArg State.tellers (perf_frame u code s) :)
@[simp] theorem perf_desks (u code : Nat) (s : State) : (perf u code s).desks = s.desks := (congrArg State.desks (perf_frame u code s) :)
@[simp] theorem perf_nose (u code : Nat) (s : State) : (perf u code s).nose = s.nose := (congrArg State.nose (perf_frame u code s) :)
@[simp] theorem perf_automata (u code : Nat) (s : State) : (perf u code s).automata = s.automata := (congrArg State.automata (perf_frame u code s) :)
@[simp] theorem perf_vault (u code : Nat) (s : State) : (perf u code s).vault = s.vault := (congrArg State.vault (perf_frame u code s) :)
@[simp] theorem perf_audit (u code : Nat) (s : State) : (perf u code s).audit = s.audit := (congrArg State.audit (perf_frame u code s) :)

/-! ### Records, codes and free values -/

theorem emitAt_frame (net src kind p : Nat) (s : State) :
    emitAt net src kind p s = { s with regs := (emitAt net src kind p s).regs, sill := (emitAt net src kind p s).sill } := by
  unfold emitAt
  dsimp only
  split
  · rfl
  · split
    · unfold bump bumpN
      split <;> rfl
    · split <;> rfl
@[simp] theorem emitAt_pending (net src kind p : Nat) (s : State) : (emitAt net src kind p s).pending = s.pending := (congrArg State.pending (emitAt_frame net src kind p s) :)
@[simp] theorem emitAt_free (net src kind p : Nat) (s : State) : (emitAt net src kind p s).free = s.free := (congrArg State.free (emitAt_frame net src kind p s) :)
@[simp] theorem emitAt_dispo (net src kind p : Nat) (s : State) : (emitAt net src kind p s).dispo = s.dispo := (congrArg State.dispo (emitAt_frame net src kind p s) :)
@[simp] theorem emitAt_time (net src kind p : Nat) (s : State) : (emitAt net src kind p s).time = s.time := (congrArg State.time (emitAt_frame net src kind p s) :)
@[simp] theorem emitAt_msix (net src kind p : Nat) (s : State) : (emitAt net src kind p s).msix = s.msix := (congrArg State.msix (emitAt_frame net src kind p s) :)
@[simp] theorem emitAt_perf (net src kind p : Nat) (s : State) : (emitAt net src kind p s).perf = s.perf := (congrArg State.perf (emitAt_frame net src kind p s) :)
@[simp] theorem emitAt_treas (net src kind p : Nat) (s : State) : (emitAt net src kind p s).treas = s.treas := (congrArg State.treas (emitAt_frame net src kind p s) :)
@[simp] theorem emitAt_fuses (net src kind p : Nat) (s : State) : (emitAt net src kind p s).fuses = s.fuses := (congrArg State.fuses (emitAt_frame net src kind p s) :)
@[simp] theorem emitAt_sec (net src kind p : Nat) (s : State) : (emitAt net src kind p s).sec = s.sec := (congrArg State.sec (emitAt_frame net src kind p s) :)
@[simp] theorem emitAt_pins (net src kind p : Nat) (s : State) : (emitAt net src kind p s).pins = s.pins := (congrArg State.pins (emitAt_frame net src kind p s) :)
@[simp] theorem emitAt_loader (net src kind p : Nat) (s : State) : (emitAt net src kind p s).loader = s.loader := (congrArg State.loader (emitAt_frame net src kind p s) :)
@[simp] theorem emitAt_pcie (net src kind p : Nat) (s : State) : (emitAt net src kind p s).pcie = s.pcie := (congrArg State.pcie (emitAt_frame net src kind p s) :)
@[simp] theorem emitAt_coffer (net src kind p : Nat) (s : State) : (emitAt net src kind p s).coffer = s.coffer := (congrArg State.coffer (emitAt_frame net src kind p s) :)
@[simp] theorem emitAt_rings (net src kind p : Nat) (s : State) : (emitAt net src kind p s).rings = s.rings := (congrArg State.rings (emitAt_frame net src kind p s) :)
@[simp] theorem emitAt_out (net src kind p : Nat) (s : State) : (emitAt net src kind p s).out = s.out := (congrArg State.out (emitAt_frame net src kind p s) :)
@[simp] theorem emitAt_lastBatch (net src kind p : Nat) (s : State) : (emitAt net src kind p s).lastBatch = s.lastBatch := (congrArg State.lastBatch (emitAt_frame net src kind p s) :)
@[simp] theorem emitAt_ports (net src kind p : Nat) (s : State) : (emitAt net src kind p s).ports = s.ports := (congrArg State.ports (emitAt_frame net src kind p s) :)
@[simp] theorem emitAt_portCfg (net src kind p : Nat) (s : State) : (emitAt net src kind p s).portCfg = s.portCfg := (congrArg State.portCfg (emitAt_frame net src kind p s) :)
@[simp] theorem emitAt_lanes (net src kind p : Nat) (s : State) : (emitAt net src kind p s).lanes = s.lanes := (congrArg State.lanes (emitAt_frame net src kind p s) :)
@[simp] theorem emitAt_laneInv (net src kind p : Nat) (s : State) : (emitAt net src kind p s).laneInv = s.laneInv := (congrArg State.laneInv (emitAt_frame net src kind p s) :)
@[simp] theorem emitAt_laneTaps (net src kind p : Nat) (s : State) : (emitAt net src kind p s).laneTaps = s.laneTaps := (congrArg State.laneTaps (emitAt_frame net src kind p s) :)
@[simp] theorem emitAt_teth (net src kind p : Nat) (s : State) : (emitAt net src kind p s).teth = s.teth := (congrArg State.teth (emitAt_frame net src kind p s) :)
@[simp] theorem emitAt_swc (net src kind p : Nat) (s : State) : (emitAt net src kind p s).swc = s.swc := (congrArg State.swc (emitAt_frame net src kind p s) :)
@[simp] theorem emitAt_tm (net src kind p : Nat) (s : State) : (emitAt net src kind p s).tm = s.tm := (congrArg State.tm (emitAt_frame net src kind p s) :)
@[simp] theorem emitAt_templates (net src kind p : Nat) (s : State) : (emitAt net src kind p s).templates = s.templates := (congrArg State.templates (emitAt_frame net src kind p s) :)
@[simp] theorem emitAt_assay (net src kind p : Nat) (s : State) : (emitAt net src kind p s).assay = s.assay := (congrArg State.assay (emitAt_frame net src kind p s) :)
@[simp] theorem emitAt_sieve (net src kind p : Nat) (s : State) : (emitAt net src kind p s).sieve = s.sieve := (congrArg State.sieve (emitAt_frame net src kind p s) :)
@[simp] theorem emitAt_accord (net src kind p : Nat) (s : State) : (emitAt net src kind p s).accord = s.accord := (congrArg State.accord (emitAt_frame net src kind p s) :)
@[simp] theorem emitAt_ledger (net src kind p : Nat) (s : State) : (emitAt net src kind p s).ledger = s.ledger := (congrArg State.ledger (emitAt_frame net src kind p s) :)
@[simp] theorem emitAt_disp (net src kind p : Nat) (s : State) : (emitAt net src kind p s).disp = s.disp := (congrArg State.disp (emitAt_frame net src kind p s) :)
@[simp] theorem emitAt_tellers (net src kind p : Nat) (s : State) : (emitAt net src kind p s).tellers = s.tellers := (congrArg State.tellers (emitAt_frame net src kind p s) :)
@[simp] theorem emitAt_desks (net src kind p : Nat) (s : State) : (emitAt net src kind p s).desks = s.desks := (congrArg State.desks (emitAt_frame net src kind p s) :)
@[simp] theorem emitAt_nose (net src kind p : Nat) (s : State) : (emitAt net src kind p s).nose = s.nose := (congrArg State.nose (emitAt_frame net src kind p s) :)
@[simp] theorem emitAt_automata (net src kind p : Nat) (s : State) : (emitAt net src kind p s).automata = s.automata := (congrArg State.automata (emitAt_frame net src kind p s) :)
@[simp] theorem emitAt_vault (net src kind p : Nat) (s : State) : (emitAt net src kind p s).vault = s.vault := (congrArg State.vault (emitAt_frame net src kind p s) :)
@[simp] theorem emitAt_audit (net src kind p : Nat) (s : State) : (emitAt net src kind p s).audit = s.audit := (congrArg State.audit (emitAt_frame net src kind p s) :)

theorem emit_frame (src kind p : Nat) (s : State) :
    emit src kind p s = { s with regs := (emit src kind p s).regs, sill := (emit src kind p s).sill } := emitAt_frame ..
@[simp] theorem emit_pending (src kind p : Nat) (s : State) : (emit src kind p s).pending = s.pending := (congrArg State.pending (emit_frame src kind p s) :)
@[simp] theorem emit_free (src kind p : Nat) (s : State) : (emit src kind p s).free = s.free := (congrArg State.free (emit_frame src kind p s) :)
@[simp] theorem emit_dispo (src kind p : Nat) (s : State) : (emit src kind p s).dispo = s.dispo := (congrArg State.dispo (emit_frame src kind p s) :)
@[simp] theorem emit_time (src kind p : Nat) (s : State) : (emit src kind p s).time = s.time := (congrArg State.time (emit_frame src kind p s) :)
@[simp] theorem emit_msix (src kind p : Nat) (s : State) : (emit src kind p s).msix = s.msix := (congrArg State.msix (emit_frame src kind p s) :)
@[simp] theorem emit_perf (src kind p : Nat) (s : State) : (emit src kind p s).perf = s.perf := (congrArg State.perf (emit_frame src kind p s) :)
@[simp] theorem emit_treas (src kind p : Nat) (s : State) : (emit src kind p s).treas = s.treas := (congrArg State.treas (emit_frame src kind p s) :)
@[simp] theorem emit_fuses (src kind p : Nat) (s : State) : (emit src kind p s).fuses = s.fuses := (congrArg State.fuses (emit_frame src kind p s) :)
@[simp] theorem emit_sec (src kind p : Nat) (s : State) : (emit src kind p s).sec = s.sec := (congrArg State.sec (emit_frame src kind p s) :)
@[simp] theorem emit_pins (src kind p : Nat) (s : State) : (emit src kind p s).pins = s.pins := (congrArg State.pins (emit_frame src kind p s) :)
@[simp] theorem emit_loader (src kind p : Nat) (s : State) : (emit src kind p s).loader = s.loader := (congrArg State.loader (emit_frame src kind p s) :)
@[simp] theorem emit_pcie (src kind p : Nat) (s : State) : (emit src kind p s).pcie = s.pcie := (congrArg State.pcie (emit_frame src kind p s) :)
@[simp] theorem emit_coffer (src kind p : Nat) (s : State) : (emit src kind p s).coffer = s.coffer := (congrArg State.coffer (emit_frame src kind p s) :)
@[simp] theorem emit_rings (src kind p : Nat) (s : State) : (emit src kind p s).rings = s.rings := (congrArg State.rings (emit_frame src kind p s) :)
@[simp] theorem emit_out (src kind p : Nat) (s : State) : (emit src kind p s).out = s.out := (congrArg State.out (emit_frame src kind p s) :)
@[simp] theorem emit_lastBatch (src kind p : Nat) (s : State) : (emit src kind p s).lastBatch = s.lastBatch := (congrArg State.lastBatch (emit_frame src kind p s) :)
@[simp] theorem emit_ports (src kind p : Nat) (s : State) : (emit src kind p s).ports = s.ports := (congrArg State.ports (emit_frame src kind p s) :)
@[simp] theorem emit_portCfg (src kind p : Nat) (s : State) : (emit src kind p s).portCfg = s.portCfg := (congrArg State.portCfg (emit_frame src kind p s) :)
@[simp] theorem emit_lanes (src kind p : Nat) (s : State) : (emit src kind p s).lanes = s.lanes := (congrArg State.lanes (emit_frame src kind p s) :)
@[simp] theorem emit_laneInv (src kind p : Nat) (s : State) : (emit src kind p s).laneInv = s.laneInv := (congrArg State.laneInv (emit_frame src kind p s) :)
@[simp] theorem emit_laneTaps (src kind p : Nat) (s : State) : (emit src kind p s).laneTaps = s.laneTaps := (congrArg State.laneTaps (emit_frame src kind p s) :)
@[simp] theorem emit_teth (src kind p : Nat) (s : State) : (emit src kind p s).teth = s.teth := (congrArg State.teth (emit_frame src kind p s) :)
@[simp] theorem emit_swc (src kind p : Nat) (s : State) : (emit src kind p s).swc = s.swc := (congrArg State.swc (emit_frame src kind p s) :)
@[simp] theorem emit_tm (src kind p : Nat) (s : State) : (emit src kind p s).tm = s.tm := (congrArg State.tm (emit_frame src kind p s) :)
@[simp] theorem emit_templates (src kind p : Nat) (s : State) : (emit src kind p s).templates = s.templates := (congrArg State.templates (emit_frame src kind p s) :)
@[simp] theorem emit_assay (src kind p : Nat) (s : State) : (emit src kind p s).assay = s.assay := (congrArg State.assay (emit_frame src kind p s) :)
@[simp] theorem emit_sieve (src kind p : Nat) (s : State) : (emit src kind p s).sieve = s.sieve := (congrArg State.sieve (emit_frame src kind p s) :)
@[simp] theorem emit_accord (src kind p : Nat) (s : State) : (emit src kind p s).accord = s.accord := (congrArg State.accord (emit_frame src kind p s) :)
@[simp] theorem emit_ledger (src kind p : Nat) (s : State) : (emit src kind p s).ledger = s.ledger := (congrArg State.ledger (emit_frame src kind p s) :)
@[simp] theorem emit_disp (src kind p : Nat) (s : State) : (emit src kind p s).disp = s.disp := (congrArg State.disp (emit_frame src kind p s) :)
@[simp] theorem emit_tellers (src kind p : Nat) (s : State) : (emit src kind p s).tellers = s.tellers := (congrArg State.tellers (emit_frame src kind p s) :)
@[simp] theorem emit_desks (src kind p : Nat) (s : State) : (emit src kind p s).desks = s.desks := (congrArg State.desks (emit_frame src kind p s) :)
@[simp] theorem emit_nose (src kind p : Nat) (s : State) : (emit src kind p s).nose = s.nose := (congrArg State.nose (emit_frame src kind p s) :)
@[simp] theorem emit_automata (src kind p : Nat) (s : State) : (emit src kind p s).automata = s.automata := (congrArg State.automata (emit_frame src kind p s) :)
@[simp] theorem emit_vault (src kind p : Nat) (s : State) : (emit src kind p s).vault = s.vault := (congrArg State.vault (emit_frame src kind p s) :)
@[simp] theorem emit_audit (src kind p : Nat) (s : State) : (emit src kind p s).audit = s.audit := (congrArg State.audit (emit_frame src kind p s) :)

theorem dispoCount_frame (p c k : Nat) (s : State) : dispoCount p c k s = { s with dispo := (dispoCount p c k s).dispo } := by
  unfold dispoCount; split <;> rfl
@[simp] theorem dispoCount_pending (p c k : Nat) (s : State) : (dispoCount p c k s).pending = s.pending := (congrArg State.pending (dispoCount_frame p c k s) :)
@[simp] theorem dispoCount_free (p c k : Nat) (s : State) : (dispoCount p c k s).free = s.free := (congrArg State.free (dispoCount_frame p c k s) :)
@[simp] theorem dispoCount_regs (p c k : Nat) (s : State) : (dispoCount p c k s).regs = s.regs := (congrArg State.regs (dispoCount_frame p c k s) :)
@[simp] theorem dispoCount_time (p c k : Nat) (s : State) : (dispoCount p c k s).time = s.time := (congrArg State.time (dispoCount_frame p c k s) :)
@[simp] theorem dispoCount_sill (p c k : Nat) (s : State) : (dispoCount p c k s).sill = s.sill := (congrArg State.sill (dispoCount_frame p c k s) :)
@[simp] theorem dispoCount_msix (p c k : Nat) (s : State) : (dispoCount p c k s).msix = s.msix := (congrArg State.msix (dispoCount_frame p c k s) :)
@[simp] theorem dispoCount_perf (p c k : Nat) (s : State) : (dispoCount p c k s).perf = s.perf := (congrArg State.perf (dispoCount_frame p c k s) :)
@[simp] theorem dispoCount_treas (p c k : Nat) (s : State) : (dispoCount p c k s).treas = s.treas := (congrArg State.treas (dispoCount_frame p c k s) :)
@[simp] theorem dispoCount_fuses (p c k : Nat) (s : State) : (dispoCount p c k s).fuses = s.fuses := (congrArg State.fuses (dispoCount_frame p c k s) :)
@[simp] theorem dispoCount_sec (p c k : Nat) (s : State) : (dispoCount p c k s).sec = s.sec := (congrArg State.sec (dispoCount_frame p c k s) :)
@[simp] theorem dispoCount_pins (p c k : Nat) (s : State) : (dispoCount p c k s).pins = s.pins := (congrArg State.pins (dispoCount_frame p c k s) :)
@[simp] theorem dispoCount_loader (p c k : Nat) (s : State) : (dispoCount p c k s).loader = s.loader := (congrArg State.loader (dispoCount_frame p c k s) :)
@[simp] theorem dispoCount_pcie (p c k : Nat) (s : State) : (dispoCount p c k s).pcie = s.pcie := (congrArg State.pcie (dispoCount_frame p c k s) :)
@[simp] theorem dispoCount_coffer (p c k : Nat) (s : State) : (dispoCount p c k s).coffer = s.coffer := (congrArg State.coffer (dispoCount_frame p c k s) :)
@[simp] theorem dispoCount_rings (p c k : Nat) (s : State) : (dispoCount p c k s).rings = s.rings := (congrArg State.rings (dispoCount_frame p c k s) :)
@[simp] theorem dispoCount_out (p c k : Nat) (s : State) : (dispoCount p c k s).out = s.out := (congrArg State.out (dispoCount_frame p c k s) :)
@[simp] theorem dispoCount_lastBatch (p c k : Nat) (s : State) : (dispoCount p c k s).lastBatch = s.lastBatch := (congrArg State.lastBatch (dispoCount_frame p c k s) :)
@[simp] theorem dispoCount_ports (p c k : Nat) (s : State) : (dispoCount p c k s).ports = s.ports := (congrArg State.ports (dispoCount_frame p c k s) :)
@[simp] theorem dispoCount_portCfg (p c k : Nat) (s : State) : (dispoCount p c k s).portCfg = s.portCfg := (congrArg State.portCfg (dispoCount_frame p c k s) :)
@[simp] theorem dispoCount_lanes (p c k : Nat) (s : State) : (dispoCount p c k s).lanes = s.lanes := (congrArg State.lanes (dispoCount_frame p c k s) :)
@[simp] theorem dispoCount_laneInv (p c k : Nat) (s : State) : (dispoCount p c k s).laneInv = s.laneInv := (congrArg State.laneInv (dispoCount_frame p c k s) :)
@[simp] theorem dispoCount_laneTaps (p c k : Nat) (s : State) : (dispoCount p c k s).laneTaps = s.laneTaps := (congrArg State.laneTaps (dispoCount_frame p c k s) :)
@[simp] theorem dispoCount_teth (p c k : Nat) (s : State) : (dispoCount p c k s).teth = s.teth := (congrArg State.teth (dispoCount_frame p c k s) :)
@[simp] theorem dispoCount_swc (p c k : Nat) (s : State) : (dispoCount p c k s).swc = s.swc := (congrArg State.swc (dispoCount_frame p c k s) :)
@[simp] theorem dispoCount_tm (p c k : Nat) (s : State) : (dispoCount p c k s).tm = s.tm := (congrArg State.tm (dispoCount_frame p c k s) :)
@[simp] theorem dispoCount_templates (p c k : Nat) (s : State) : (dispoCount p c k s).templates = s.templates := (congrArg State.templates (dispoCount_frame p c k s) :)
@[simp] theorem dispoCount_assay (p c k : Nat) (s : State) : (dispoCount p c k s).assay = s.assay := (congrArg State.assay (dispoCount_frame p c k s) :)
@[simp] theorem dispoCount_sieve (p c k : Nat) (s : State) : (dispoCount p c k s).sieve = s.sieve := (congrArg State.sieve (dispoCount_frame p c k s) :)
@[simp] theorem dispoCount_accord (p c k : Nat) (s : State) : (dispoCount p c k s).accord = s.accord := (congrArg State.accord (dispoCount_frame p c k s) :)
@[simp] theorem dispoCount_ledger (p c k : Nat) (s : State) : (dispoCount p c k s).ledger = s.ledger := (congrArg State.ledger (dispoCount_frame p c k s) :)
@[simp] theorem dispoCount_disp (p c k : Nat) (s : State) : (dispoCount p c k s).disp = s.disp := (congrArg State.disp (dispoCount_frame p c k s) :)
@[simp] theorem dispoCount_tellers (p c k : Nat) (s : State) : (dispoCount p c k s).tellers = s.tellers := (congrArg State.tellers (dispoCount_frame p c k s) :)
@[simp] theorem dispoCount_desks (p c k : Nat) (s : State) : (dispoCount p c k s).desks = s.desks := (congrArg State.desks (dispoCount_frame p c k s) :)
@[simp] theorem dispoCount_nose (p c k : Nat) (s : State) : (dispoCount p c k s).nose = s.nose := (congrArg State.nose (dispoCount_frame p c k s) :)
@[simp] theorem dispoCount_automata (p c k : Nat) (s : State) : (dispoCount p c k s).automata = s.automata := (congrArg State.automata (dispoCount_frame p c k s) :)
@[simp] theorem dispoCount_vault (p c k : Nat) (s : State) : (dispoCount p c k s).vault = s.vault := (congrArg State.vault (dispoCount_frame p c k s) :)
@[simp] theorem dispoCount_audit (p c k : Nat) (s : State) : (dispoCount p c k s).audit = s.audit := (congrArg State.audit (dispoCount_frame p c k s) :)

@[simp] theorem takeFree_pending (s : State) : (takeFree s).2.pending = s.pending := rfl
@[simp] theorem takeFree_regs (s : State) : (takeFree s).2.regs = s.regs := rfl
@[simp] theorem takeFree_dispo (s : State) : (takeFree s).2.dispo = s.dispo := rfl
@[simp] theorem takeFree_time (s : State) : (takeFree s).2.time = s.time := rfl
@[simp] theorem takeFree_sill (s : State) : (takeFree s).2.sill = s.sill := rfl
@[simp] theorem takeFree_msix (s : State) : (takeFree s).2.msix = s.msix := rfl
@[simp] theorem takeFree_perf (s : State) : (takeFree s).2.perf = s.perf := rfl
@[simp] theorem takeFree_treas (s : State) : (takeFree s).2.treas = s.treas := rfl
@[simp] theorem takeFree_fuses (s : State) : (takeFree s).2.fuses = s.fuses := rfl
@[simp] theorem takeFree_sec (s : State) : (takeFree s).2.sec = s.sec := rfl
@[simp] theorem takeFree_pins (s : State) : (takeFree s).2.pins = s.pins := rfl
@[simp] theorem takeFree_loader (s : State) : (takeFree s).2.loader = s.loader := rfl
@[simp] theorem takeFree_pcie (s : State) : (takeFree s).2.pcie = s.pcie := rfl
@[simp] theorem takeFree_coffer (s : State) : (takeFree s).2.coffer = s.coffer := rfl
@[simp] theorem takeFree_rings (s : State) : (takeFree s).2.rings = s.rings := rfl
@[simp] theorem takeFree_out (s : State) : (takeFree s).2.out = s.out := rfl
@[simp] theorem takeFree_lastBatch (s : State) : (takeFree s).2.lastBatch = s.lastBatch := rfl
@[simp] theorem takeFree_ports (s : State) : (takeFree s).2.ports = s.ports := rfl
@[simp] theorem takeFree_portCfg (s : State) : (takeFree s).2.portCfg = s.portCfg := rfl
@[simp] theorem takeFree_lanes (s : State) : (takeFree s).2.lanes = s.lanes := rfl
@[simp] theorem takeFree_laneInv (s : State) : (takeFree s).2.laneInv = s.laneInv := rfl
@[simp] theorem takeFree_laneTaps (s : State) : (takeFree s).2.laneTaps = s.laneTaps := rfl
@[simp] theorem takeFree_teth (s : State) : (takeFree s).2.teth = s.teth := rfl
@[simp] theorem takeFree_swc (s : State) : (takeFree s).2.swc = s.swc := rfl
@[simp] theorem takeFree_tm (s : State) : (takeFree s).2.tm = s.tm := rfl
@[simp] theorem takeFree_templates (s : State) : (takeFree s).2.templates = s.templates := rfl
@[simp] theorem takeFree_assay (s : State) : (takeFree s).2.assay = s.assay := rfl
@[simp] theorem takeFree_sieve (s : State) : (takeFree s).2.sieve = s.sieve := rfl
@[simp] theorem takeFree_accord (s : State) : (takeFree s).2.accord = s.accord := rfl
@[simp] theorem takeFree_ledger (s : State) : (takeFree s).2.ledger = s.ledger := rfl
@[simp] theorem takeFree_disp (s : State) : (takeFree s).2.disp = s.disp := rfl
@[simp] theorem takeFree_tellers (s : State) : (takeFree s).2.tellers = s.tellers := rfl
@[simp] theorem takeFree_desks (s : State) : (takeFree s).2.desks = s.desks := rfl
@[simp] theorem takeFree_nose (s : State) : (takeFree s).2.nose = s.nose := rfl
@[simp] theorem takeFree_automata (s : State) : (takeFree s).2.automata = s.automata := rfl
@[simp] theorem takeFree_vault (s : State) : (takeFree s).2.vault = s.vault := rfl
@[simp] theorem takeFree_audit (s : State) : (takeFree s).2.audit = s.audit := rfl

/-! ### What the updates leave to be read -/

@[simp] theorem setLedger_dispAt (s : State) (i : Nat) (x : Ledger) (z : Nat) : (State.setLedger s i x).dispAt z = s.dispAt z := by simp only [State.dispAt, State.setLedger_disp]
@[simp] theorem setLedger_assayAt (s : State) (i : Nat) (x : Ledger) (z : Nat) : (State.setLedger s i x).assayAt z = s.assayAt z := by simp only [State.assayAt, State.setLedger_assay]
@[simp] theorem setLedger_noseAt (s : State) (i : Nat) (x : Ledger) (z : Nat) : (State.setLedger s i x).noseAt z = s.noseAt z := by simp only [State.noseAt, State.setLedger_nose]
@[simp] theorem setLedger_tellerAt (s : State) (i : Nat) (x : Ledger) (z : Nat) : (State.setLedger s i x).tellerAt z = s.tellerAt z := by simp only [State.tellerAt, State.setLedger_tellers]
@[simp] theorem setLedger_deskAt (s : State) (i : Nat) (x : Ledger) (z : Nat) : (State.setLedger s i x).deskAt z = s.deskAt z := by simp only [State.deskAt, State.setLedger_desks]
@[simp] theorem setLedger_portAt (s : State) (i : Nat) (x : Ledger) (z : Nat) : (State.setLedger s i x).portAt z = s.portAt z := by simp only [State.portAt, State.setLedger_ports]
@[simp] theorem setLedger_portCfgAt (s : State) (i : Nat) (x : Ledger) (z : Nat) : (State.setLedger s i x).portCfgAt z = s.portCfgAt z := by simp only [State.portCfgAt, State.setLedger_portCfg]
@[simp] theorem setLedger_ringAt (s : State) (i : Nat) (x : Ledger) (z : Nat) : (State.setLedger s i x).ringAt z = s.ringAt z := by simp only [State.ringAt, State.setLedger_rings]
@[simp] theorem setLedger_chanAt (s : State) (i : Nat) (x : Ledger) (z : Nat) : (State.setLedger s i x).chanAt z = s.chanAt z := by simp only [State.chanAt, State.setLedger_vault]
@[simp] theorem setLedger_schedAt (s : State) (i : Nat) (x : Ledger) (z : Nat) : (State.setLedger s i x).schedAt z = s.schedAt z := by simp only [State.schedAt, State.setLedger_tm]
@[simp] theorem setLedger_classAt (s : State) (i : Nat) (x : Ledger) (z : Nat) : (State.setLedger s i x).classAt z = s.classAt z := by simp only [State.classAt, State.setLedger_tm]
@[simp] theorem setLedger_userAt (s : State) (i : Nat) (x : Ledger) (z : Nat) : (State.setLedger s i x).userAt z = s.userAt z := by simp only [State.userAt, State.setLedger_treas]
@[simp] theorem setLedger_domAt (s : State) (i : Nat) (x : Ledger) (z : Nat) : (State.setLedger s i x).domAt z = s.domAt z := by simp only [State.domAt, State.setLedger_treas]
@[simp] theorem setDisp_ledgerAt (s : State) (i : Nat) (x : Disp) (z : Nat) : (State.setDisp s i x).ledgerAt z = s.ledgerAt z := by simp only [State.ledgerAt, State.setDisp_ledger]
@[simp] theorem setDisp_assayAt (s : State) (i : Nat) (x : Disp) (z : Nat) : (State.setDisp s i x).assayAt z = s.assayAt z := by simp only [State.assayAt, State.setDisp_assay]
@[simp] theorem setDisp_noseAt (s : State) (i : Nat) (x : Disp) (z : Nat) : (State.setDisp s i x).noseAt z = s.noseAt z := by simp only [State.noseAt, State.setDisp_nose]
@[simp] theorem setDisp_tellerAt (s : State) (i : Nat) (x : Disp) (z : Nat) : (State.setDisp s i x).tellerAt z = s.tellerAt z := by simp only [State.tellerAt, State.setDisp_tellers]
@[simp] theorem setDisp_deskAt (s : State) (i : Nat) (x : Disp) (z : Nat) : (State.setDisp s i x).deskAt z = s.deskAt z := by simp only [State.deskAt, State.setDisp_desks]
@[simp] theorem setDisp_portAt (s : State) (i : Nat) (x : Disp) (z : Nat) : (State.setDisp s i x).portAt z = s.portAt z := by simp only [State.portAt, State.setDisp_ports]
@[simp] theorem setDisp_portCfgAt (s : State) (i : Nat) (x : Disp) (z : Nat) : (State.setDisp s i x).portCfgAt z = s.portCfgAt z := by simp only [State.portCfgAt, State.setDisp_portCfg]
@[simp] theorem setDisp_ringAt (s : State) (i : Nat) (x : Disp) (z : Nat) : (State.setDisp s i x).ringAt z = s.ringAt z := by simp only [State.ringAt, State.setDisp_rings]
@[simp] theorem setDisp_chanAt (s : State) (i : Nat) (x : Disp) (z : Nat) : (State.setDisp s i x).chanAt z = s.chanAt z := by simp only [State.chanAt, State.setDisp_vault]
@[simp] theorem setDisp_schedAt (s : State) (i : Nat) (x : Disp) (z : Nat) : (State.setDisp s i x).schedAt z = s.schedAt z := by simp only [State.schedAt, State.setDisp_tm]
@[simp] theorem setDisp_classAt (s : State) (i : Nat) (x : Disp) (z : Nat) : (State.setDisp s i x).classAt z = s.classAt z := by simp only [State.classAt, State.setDisp_tm]
@[simp] theorem setDisp_userAt (s : State) (i : Nat) (x : Disp) (z : Nat) : (State.setDisp s i x).userAt z = s.userAt z := by simp only [State.userAt, State.setDisp_treas]
@[simp] theorem setDisp_domAt (s : State) (i : Nat) (x : Disp) (z : Nat) : (State.setDisp s i x).domAt z = s.domAt z := by simp only [State.domAt, State.setDisp_treas]
@[simp] theorem setAssay_ledgerAt (s : State) (i : Nat) (x : Assayer) (z : Nat) : (State.setAssay s i x).ledgerAt z = s.ledgerAt z := by simp only [State.ledgerAt, State.setAssay_ledger]
@[simp] theorem setAssay_dispAt (s : State) (i : Nat) (x : Assayer) (z : Nat) : (State.setAssay s i x).dispAt z = s.dispAt z := by simp only [State.dispAt, State.setAssay_disp]
@[simp] theorem setAssay_noseAt (s : State) (i : Nat) (x : Assayer) (z : Nat) : (State.setAssay s i x).noseAt z = s.noseAt z := by simp only [State.noseAt, State.setAssay_nose]
@[simp] theorem setAssay_tellerAt (s : State) (i : Nat) (x : Assayer) (z : Nat) : (State.setAssay s i x).tellerAt z = s.tellerAt z := by simp only [State.tellerAt, State.setAssay_tellers]
@[simp] theorem setAssay_deskAt (s : State) (i : Nat) (x : Assayer) (z : Nat) : (State.setAssay s i x).deskAt z = s.deskAt z := by simp only [State.deskAt, State.setAssay_desks]
@[simp] theorem setAssay_portAt (s : State) (i : Nat) (x : Assayer) (z : Nat) : (State.setAssay s i x).portAt z = s.portAt z := by simp only [State.portAt, State.setAssay_ports]
@[simp] theorem setAssay_portCfgAt (s : State) (i : Nat) (x : Assayer) (z : Nat) : (State.setAssay s i x).portCfgAt z = s.portCfgAt z := by simp only [State.portCfgAt, State.setAssay_portCfg]
@[simp] theorem setAssay_ringAt (s : State) (i : Nat) (x : Assayer) (z : Nat) : (State.setAssay s i x).ringAt z = s.ringAt z := by simp only [State.ringAt, State.setAssay_rings]
@[simp] theorem setAssay_chanAt (s : State) (i : Nat) (x : Assayer) (z : Nat) : (State.setAssay s i x).chanAt z = s.chanAt z := by simp only [State.chanAt, State.setAssay_vault]
@[simp] theorem setAssay_schedAt (s : State) (i : Nat) (x : Assayer) (z : Nat) : (State.setAssay s i x).schedAt z = s.schedAt z := by simp only [State.schedAt, State.setAssay_tm]
@[simp] theorem setAssay_classAt (s : State) (i : Nat) (x : Assayer) (z : Nat) : (State.setAssay s i x).classAt z = s.classAt z := by simp only [State.classAt, State.setAssay_tm]
@[simp] theorem setAssay_userAt (s : State) (i : Nat) (x : Assayer) (z : Nat) : (State.setAssay s i x).userAt z = s.userAt z := by simp only [State.userAt, State.setAssay_treas]
@[simp] theorem setAssay_domAt (s : State) (i : Nat) (x : Assayer) (z : Nat) : (State.setAssay s i x).domAt z = s.domAt z := by simp only [State.domAt, State.setAssay_treas]
@[simp] theorem setNose_ledgerAt (s : State) (i : Nat) (x : Nose) (z : Nat) : (State.setNose s i x).ledgerAt z = s.ledgerAt z := by simp only [State.ledgerAt, State.setNose_ledger]
@[simp] theorem setNose_dispAt (s : State) (i : Nat) (x : Nose) (z : Nat) : (State.setNose s i x).dispAt z = s.dispAt z := by simp only [State.dispAt, State.setNose_disp]
@[simp] theorem setNose_assayAt (s : State) (i : Nat) (x : Nose) (z : Nat) : (State.setNose s i x).assayAt z = s.assayAt z := by simp only [State.assayAt, State.setNose_assay]
@[simp] theorem setNose_tellerAt (s : State) (i : Nat) (x : Nose) (z : Nat) : (State.setNose s i x).tellerAt z = s.tellerAt z := by simp only [State.tellerAt, State.setNose_tellers]
@[simp] theorem setNose_deskAt (s : State) (i : Nat) (x : Nose) (z : Nat) : (State.setNose s i x).deskAt z = s.deskAt z := by simp only [State.deskAt, State.setNose_desks]
@[simp] theorem setNose_portAt (s : State) (i : Nat) (x : Nose) (z : Nat) : (State.setNose s i x).portAt z = s.portAt z := by simp only [State.portAt, State.setNose_ports]
@[simp] theorem setNose_portCfgAt (s : State) (i : Nat) (x : Nose) (z : Nat) : (State.setNose s i x).portCfgAt z = s.portCfgAt z := by simp only [State.portCfgAt, State.setNose_portCfg]
@[simp] theorem setNose_ringAt (s : State) (i : Nat) (x : Nose) (z : Nat) : (State.setNose s i x).ringAt z = s.ringAt z := by simp only [State.ringAt, State.setNose_rings]
@[simp] theorem setNose_chanAt (s : State) (i : Nat) (x : Nose) (z : Nat) : (State.setNose s i x).chanAt z = s.chanAt z := by simp only [State.chanAt, State.setNose_vault]
@[simp] theorem setNose_schedAt (s : State) (i : Nat) (x : Nose) (z : Nat) : (State.setNose s i x).schedAt z = s.schedAt z := by simp only [State.schedAt, State.setNose_tm]
@[simp] theorem setNose_classAt (s : State) (i : Nat) (x : Nose) (z : Nat) : (State.setNose s i x).classAt z = s.classAt z := by simp only [State.classAt, State.setNose_tm]
@[simp] theorem setNose_userAt (s : State) (i : Nat) (x : Nose) (z : Nat) : (State.setNose s i x).userAt z = s.userAt z := by simp only [State.userAt, State.setNose_treas]
@[simp] theorem setNose_domAt (s : State) (i : Nat) (x : Nose) (z : Nat) : (State.setNose s i x).domAt z = s.domAt z := by simp only [State.domAt, State.setNose_treas]
@[simp] theorem setTeller_ledgerAt (s : State) (i : Nat) (x : Teller) (z : Nat) : (State.setTeller s i x).ledgerAt z = s.ledgerAt z := by simp only [State.ledgerAt, State.setTeller_ledger]
@[simp] theorem setTeller_dispAt (s : State) (i : Nat) (x : Teller) (z : Nat) : (State.setTeller s i x).dispAt z = s.dispAt z := by simp only [State.dispAt, State.setTeller_disp]
@[simp] theorem setTeller_assayAt (s : State) (i : Nat) (x : Teller) (z : Nat) : (State.setTeller s i x).assayAt z = s.assayAt z := by simp only [State.assayAt, State.setTeller_assay]
@[simp] theorem setTeller_noseAt (s : State) (i : Nat) (x : Teller) (z : Nat) : (State.setTeller s i x).noseAt z = s.noseAt z := by simp only [State.noseAt, State.setTeller_nose]
@[simp] theorem setTeller_deskAt (s : State) (i : Nat) (x : Teller) (z : Nat) : (State.setTeller s i x).deskAt z = s.deskAt z := by simp only [State.deskAt, State.setTeller_desks]
@[simp] theorem setTeller_portAt (s : State) (i : Nat) (x : Teller) (z : Nat) : (State.setTeller s i x).portAt z = s.portAt z := by simp only [State.portAt, State.setTeller_ports]
@[simp] theorem setTeller_portCfgAt (s : State) (i : Nat) (x : Teller) (z : Nat) : (State.setTeller s i x).portCfgAt z = s.portCfgAt z := by simp only [State.portCfgAt, State.setTeller_portCfg]
@[simp] theorem setTeller_ringAt (s : State) (i : Nat) (x : Teller) (z : Nat) : (State.setTeller s i x).ringAt z = s.ringAt z := by simp only [State.ringAt, State.setTeller_rings]
@[simp] theorem setTeller_chanAt (s : State) (i : Nat) (x : Teller) (z : Nat) : (State.setTeller s i x).chanAt z = s.chanAt z := by simp only [State.chanAt, State.setTeller_vault]
@[simp] theorem setTeller_schedAt (s : State) (i : Nat) (x : Teller) (z : Nat) : (State.setTeller s i x).schedAt z = s.schedAt z := by simp only [State.schedAt, State.setTeller_tm]
@[simp] theorem setTeller_classAt (s : State) (i : Nat) (x : Teller) (z : Nat) : (State.setTeller s i x).classAt z = s.classAt z := by simp only [State.classAt, State.setTeller_tm]
@[simp] theorem setTeller_userAt (s : State) (i : Nat) (x : Teller) (z : Nat) : (State.setTeller s i x).userAt z = s.userAt z := by simp only [State.userAt, State.setTeller_treas]
@[simp] theorem setTeller_domAt (s : State) (i : Nat) (x : Teller) (z : Nat) : (State.setTeller s i x).domAt z = s.domAt z := by simp only [State.domAt, State.setTeller_treas]
@[simp] theorem setDesk_ledgerAt (s : State) (i : Nat) (x : Desk) (z : Nat) : (State.setDesk s i x).ledgerAt z = s.ledgerAt z := by simp only [State.ledgerAt, State.setDesk_ledger]
@[simp] theorem setDesk_dispAt (s : State) (i : Nat) (x : Desk) (z : Nat) : (State.setDesk s i x).dispAt z = s.dispAt z := by simp only [State.dispAt, State.setDesk_disp]
@[simp] theorem setDesk_assayAt (s : State) (i : Nat) (x : Desk) (z : Nat) : (State.setDesk s i x).assayAt z = s.assayAt z := by simp only [State.assayAt, State.setDesk_assay]
@[simp] theorem setDesk_noseAt (s : State) (i : Nat) (x : Desk) (z : Nat) : (State.setDesk s i x).noseAt z = s.noseAt z := by simp only [State.noseAt, State.setDesk_nose]
@[simp] theorem setDesk_tellerAt (s : State) (i : Nat) (x : Desk) (z : Nat) : (State.setDesk s i x).tellerAt z = s.tellerAt z := by simp only [State.tellerAt, State.setDesk_tellers]
@[simp] theorem setDesk_portAt (s : State) (i : Nat) (x : Desk) (z : Nat) : (State.setDesk s i x).portAt z = s.portAt z := by simp only [State.portAt, State.setDesk_ports]
@[simp] theorem setDesk_portCfgAt (s : State) (i : Nat) (x : Desk) (z : Nat) : (State.setDesk s i x).portCfgAt z = s.portCfgAt z := by simp only [State.portCfgAt, State.setDesk_portCfg]
@[simp] theorem setDesk_ringAt (s : State) (i : Nat) (x : Desk) (z : Nat) : (State.setDesk s i x).ringAt z = s.ringAt z := by simp only [State.ringAt, State.setDesk_rings]
@[simp] theorem setDesk_chanAt (s : State) (i : Nat) (x : Desk) (z : Nat) : (State.setDesk s i x).chanAt z = s.chanAt z := by simp only [State.chanAt, State.setDesk_vault]
@[simp] theorem setDesk_schedAt (s : State) (i : Nat) (x : Desk) (z : Nat) : (State.setDesk s i x).schedAt z = s.schedAt z := by simp only [State.schedAt, State.setDesk_tm]
@[simp] theorem setDesk_classAt (s : State) (i : Nat) (x : Desk) (z : Nat) : (State.setDesk s i x).classAt z = s.classAt z := by simp only [State.classAt, State.setDesk_tm]
@[simp] theorem setDesk_userAt (s : State) (i : Nat) (x : Desk) (z : Nat) : (State.setDesk s i x).userAt z = s.userAt z := by simp only [State.userAt, State.setDesk_treas]
@[simp] theorem setDesk_domAt (s : State) (i : Nat) (x : Desk) (z : Nat) : (State.setDesk s i x).domAt z = s.domAt z := by simp only [State.domAt, State.setDesk_treas]
@[simp] theorem setPort_ledgerAt (s : State) (i : Nat) (x : Port) (z : Nat) : (State.setPort s i x).ledgerAt z = s.ledgerAt z := by simp only [State.ledgerAt, State.setPort_ledger]
@[simp] theorem setPort_dispAt (s : State) (i : Nat) (x : Port) (z : Nat) : (State.setPort s i x).dispAt z = s.dispAt z := by simp only [State.dispAt, State.setPort_disp]
@[simp] theorem setPort_assayAt (s : State) (i : Nat) (x : Port) (z : Nat) : (State.setPort s i x).assayAt z = s.assayAt z := by simp only [State.assayAt, State.setPort_assay]
@[simp] theorem setPort_noseAt (s : State) (i : Nat) (x : Port) (z : Nat) : (State.setPort s i x).noseAt z = s.noseAt z := by simp only [State.noseAt, State.setPort_nose]
@[simp] theorem setPort_tellerAt (s : State) (i : Nat) (x : Port) (z : Nat) : (State.setPort s i x).tellerAt z = s.tellerAt z := by simp only [State.tellerAt, State.setPort_tellers]
@[simp] theorem setPort_deskAt (s : State) (i : Nat) (x : Port) (z : Nat) : (State.setPort s i x).deskAt z = s.deskAt z := by simp only [State.deskAt, State.setPort_desks]
@[simp] theorem setPort_portCfgAt (s : State) (i : Nat) (x : Port) (z : Nat) : (State.setPort s i x).portCfgAt z = s.portCfgAt z := by simp only [State.portCfgAt, State.setPort_portCfg]
@[simp] theorem setPort_ringAt (s : State) (i : Nat) (x : Port) (z : Nat) : (State.setPort s i x).ringAt z = s.ringAt z := by simp only [State.ringAt, State.setPort_rings]
@[simp] theorem setPort_chanAt (s : State) (i : Nat) (x : Port) (z : Nat) : (State.setPort s i x).chanAt z = s.chanAt z := by simp only [State.chanAt, State.setPort_vault]
@[simp] theorem setPort_schedAt (s : State) (i : Nat) (x : Port) (z : Nat) : (State.setPort s i x).schedAt z = s.schedAt z := by simp only [State.schedAt, State.setPort_tm]
@[simp] theorem setPort_classAt (s : State) (i : Nat) (x : Port) (z : Nat) : (State.setPort s i x).classAt z = s.classAt z := by simp only [State.classAt, State.setPort_tm]
@[simp] theorem setPort_userAt (s : State) (i : Nat) (x : Port) (z : Nat) : (State.setPort s i x).userAt z = s.userAt z := by simp only [State.userAt, State.setPort_treas]
@[simp] theorem setPort_domAt (s : State) (i : Nat) (x : Port) (z : Nat) : (State.setPort s i x).domAt z = s.domAt z := by simp only [State.domAt, State.setPort_treas]
@[simp] theorem setRing_ledgerAt (s : State) (i : Nat) (x : Ring) (z : Nat) : (State.setRing s i x).ledgerAt z = s.ledgerAt z := by simp only [State.ledgerAt, State.setRing_ledger]
@[simp] theorem setRing_dispAt (s : State) (i : Nat) (x : Ring) (z : Nat) : (State.setRing s i x).dispAt z = s.dispAt z := by simp only [State.dispAt, State.setRing_disp]
@[simp] theorem setRing_assayAt (s : State) (i : Nat) (x : Ring) (z : Nat) : (State.setRing s i x).assayAt z = s.assayAt z := by simp only [State.assayAt, State.setRing_assay]
@[simp] theorem setRing_noseAt (s : State) (i : Nat) (x : Ring) (z : Nat) : (State.setRing s i x).noseAt z = s.noseAt z := by simp only [State.noseAt, State.setRing_nose]
@[simp] theorem setRing_tellerAt (s : State) (i : Nat) (x : Ring) (z : Nat) : (State.setRing s i x).tellerAt z = s.tellerAt z := by simp only [State.tellerAt, State.setRing_tellers]
@[simp] theorem setRing_deskAt (s : State) (i : Nat) (x : Ring) (z : Nat) : (State.setRing s i x).deskAt z = s.deskAt z := by simp only [State.deskAt, State.setRing_desks]
@[simp] theorem setRing_portAt (s : State) (i : Nat) (x : Ring) (z : Nat) : (State.setRing s i x).portAt z = s.portAt z := by simp only [State.portAt, State.setRing_ports]
@[simp] theorem setRing_portCfgAt (s : State) (i : Nat) (x : Ring) (z : Nat) : (State.setRing s i x).portCfgAt z = s.portCfgAt z := by simp only [State.portCfgAt, State.setRing_portCfg]
@[simp] theorem setRing_chanAt (s : State) (i : Nat) (x : Ring) (z : Nat) : (State.setRing s i x).chanAt z = s.chanAt z := by simp only [State.chanAt, State.setRing_vault]
@[simp] theorem setRing_schedAt (s : State) (i : Nat) (x : Ring) (z : Nat) : (State.setRing s i x).schedAt z = s.schedAt z := by simp only [State.schedAt, State.setRing_tm]
@[simp] theorem setRing_classAt (s : State) (i : Nat) (x : Ring) (z : Nat) : (State.setRing s i x).classAt z = s.classAt z := by simp only [State.classAt, State.setRing_tm]
@[simp] theorem setRing_userAt (s : State) (i : Nat) (x : Ring) (z : Nat) : (State.setRing s i x).userAt z = s.userAt z := by simp only [State.userAt, State.setRing_treas]
@[simp] theorem setRing_domAt (s : State) (i : Nat) (x : Ring) (z : Nat) : (State.setRing s i x).domAt z = s.domAt z := by simp only [State.domAt, State.setRing_treas]
@[simp] theorem setChan_ledgerAt (s : State) (i : Nat) (x : VaultCh) (z : Nat) : (State.setChan s i x).ledgerAt z = s.ledgerAt z := by simp only [State.ledgerAt, State.setChan_ledger]
@[simp] theorem setChan_dispAt (s : State) (i : Nat) (x : VaultCh) (z : Nat) : (State.setChan s i x).dispAt z = s.dispAt z := by simp only [State.dispAt, State.setChan_disp]
@[simp] theorem setChan_assayAt (s : State) (i : Nat) (x : VaultCh) (z : Nat) : (State.setChan s i x).assayAt z = s.assayAt z := by simp only [State.assayAt, State.setChan_assay]
@[simp] theorem setChan_noseAt (s : State) (i : Nat) (x : VaultCh) (z : Nat) : (State.setChan s i x).noseAt z = s.noseAt z := by simp only [State.noseAt, State.setChan_nose]
@[simp] theorem setChan_tellerAt (s : State) (i : Nat) (x : VaultCh) (z : Nat) : (State.setChan s i x).tellerAt z = s.tellerAt z := by simp only [State.tellerAt, State.setChan_tellers]
@[simp] theorem setChan_deskAt (s : State) (i : Nat) (x : VaultCh) (z : Nat) : (State.setChan s i x).deskAt z = s.deskAt z := by simp only [State.deskAt, State.setChan_desks]
@[simp] theorem setChan_portAt (s : State) (i : Nat) (x : VaultCh) (z : Nat) : (State.setChan s i x).portAt z = s.portAt z := by simp only [State.portAt, State.setChan_ports]
@[simp] theorem setChan_portCfgAt (s : State) (i : Nat) (x : VaultCh) (z : Nat) : (State.setChan s i x).portCfgAt z = s.portCfgAt z := by simp only [State.portCfgAt, State.setChan_portCfg]
@[simp] theorem setChan_ringAt (s : State) (i : Nat) (x : VaultCh) (z : Nat) : (State.setChan s i x).ringAt z = s.ringAt z := by simp only [State.ringAt, State.setChan_rings]
@[simp] theorem setChan_schedAt (s : State) (i : Nat) (x : VaultCh) (z : Nat) : (State.setChan s i x).schedAt z = s.schedAt z := by simp only [State.schedAt, State.setChan_tm]
@[simp] theorem setChan_classAt (s : State) (i : Nat) (x : VaultCh) (z : Nat) : (State.setChan s i x).classAt z = s.classAt z := by simp only [State.classAt, State.setChan_tm]
@[simp] theorem setChan_userAt (s : State) (i : Nat) (x : VaultCh) (z : Nat) : (State.setChan s i x).userAt z = s.userAt z := by simp only [State.userAt, State.setChan_treas]
@[simp] theorem setChan_domAt (s : State) (i : Nat) (x : VaultCh) (z : Nat) : (State.setChan s i x).domAt z = s.domAt z := by simp only [State.domAt, State.setChan_treas]
@[simp] theorem setSched_ledgerAt (s : State) (i : Nat) (x : Sched) (z : Nat) : (State.setSched s i x).ledgerAt z = s.ledgerAt z := by simp only [State.ledgerAt, State.setSched_ledger]
@[simp] theorem setSched_dispAt (s : State) (i : Nat) (x : Sched) (z : Nat) : (State.setSched s i x).dispAt z = s.dispAt z := by simp only [State.dispAt, State.setSched_disp]
@[simp] theorem setSched_assayAt (s : State) (i : Nat) (x : Sched) (z : Nat) : (State.setSched s i x).assayAt z = s.assayAt z := by simp only [State.assayAt, State.setSched_assay]
@[simp] theorem setSched_noseAt (s : State) (i : Nat) (x : Sched) (z : Nat) : (State.setSched s i x).noseAt z = s.noseAt z := by simp only [State.noseAt, State.setSched_nose]
@[simp] theorem setSched_tellerAt (s : State) (i : Nat) (x : Sched) (z : Nat) : (State.setSched s i x).tellerAt z = s.tellerAt z := by simp only [State.tellerAt, State.setSched_tellers]
@[simp] theorem setSched_deskAt (s : State) (i : Nat) (x : Sched) (z : Nat) : (State.setSched s i x).deskAt z = s.deskAt z := by simp only [State.deskAt, State.setSched_desks]
@[simp] theorem setSched_portAt (s : State) (i : Nat) (x : Sched) (z : Nat) : (State.setSched s i x).portAt z = s.portAt z := by simp only [State.portAt, State.setSched_ports]
@[simp] theorem setSched_portCfgAt (s : State) (i : Nat) (x : Sched) (z : Nat) : (State.setSched s i x).portCfgAt z = s.portCfgAt z := by simp only [State.portCfgAt, State.setSched_portCfg]
@[simp] theorem setSched_ringAt (s : State) (i : Nat) (x : Sched) (z : Nat) : (State.setSched s i x).ringAt z = s.ringAt z := by simp only [State.ringAt, State.setSched_rings]
@[simp] theorem setSched_chanAt (s : State) (i : Nat) (x : Sched) (z : Nat) : (State.setSched s i x).chanAt z = s.chanAt z := by simp only [State.chanAt, State.setSched_vault]
@[simp] theorem setSched_userAt (s : State) (i : Nat) (x : Sched) (z : Nat) : (State.setSched s i x).userAt z = s.userAt z := by simp only [State.userAt, State.setSched_treas]
@[simp] theorem setSched_domAt (s : State) (i : Nat) (x : Sched) (z : Nat) : (State.setSched s i x).domAt z = s.domAt z := by simp only [State.domAt, State.setSched_treas]
@[simp] theorem setClass_ledgerAt (s : State) (i : Nat) (x : TmClass) (z : Nat) : (State.setClass s i x).ledgerAt z = s.ledgerAt z := by simp only [State.ledgerAt, State.setClass_ledger]
@[simp] theorem setClass_dispAt (s : State) (i : Nat) (x : TmClass) (z : Nat) : (State.setClass s i x).dispAt z = s.dispAt z := by simp only [State.dispAt, State.setClass_disp]
@[simp] theorem setClass_assayAt (s : State) (i : Nat) (x : TmClass) (z : Nat) : (State.setClass s i x).assayAt z = s.assayAt z := by simp only [State.assayAt, State.setClass_assay]
@[simp] theorem setClass_noseAt (s : State) (i : Nat) (x : TmClass) (z : Nat) : (State.setClass s i x).noseAt z = s.noseAt z := by simp only [State.noseAt, State.setClass_nose]
@[simp] theorem setClass_tellerAt (s : State) (i : Nat) (x : TmClass) (z : Nat) : (State.setClass s i x).tellerAt z = s.tellerAt z := by simp only [State.tellerAt, State.setClass_tellers]
@[simp] theorem setClass_deskAt (s : State) (i : Nat) (x : TmClass) (z : Nat) : (State.setClass s i x).deskAt z = s.deskAt z := by simp only [State.deskAt, State.setClass_desks]
@[simp] theorem setClass_portAt (s : State) (i : Nat) (x : TmClass) (z : Nat) : (State.setClass s i x).portAt z = s.portAt z := by simp only [State.portAt, State.setClass_ports]
@[simp] theorem setClass_portCfgAt (s : State) (i : Nat) (x : TmClass) (z : Nat) : (State.setClass s i x).portCfgAt z = s.portCfgAt z := by simp only [State.portCfgAt, State.setClass_portCfg]
@[simp] theorem setClass_ringAt (s : State) (i : Nat) (x : TmClass) (z : Nat) : (State.setClass s i x).ringAt z = s.ringAt z := by simp only [State.ringAt, State.setClass_rings]
@[simp] theorem setClass_chanAt (s : State) (i : Nat) (x : TmClass) (z : Nat) : (State.setClass s i x).chanAt z = s.chanAt z := by simp only [State.chanAt, State.setClass_vault]
@[simp] theorem setClass_userAt (s : State) (i : Nat) (x : TmClass) (z : Nat) : (State.setClass s i x).userAt z = s.userAt z := by simp only [State.userAt, State.setClass_treas]
@[simp] theorem setClass_domAt (s : State) (i : Nat) (x : TmClass) (z : Nat) : (State.setClass s i x).domAt z = s.domAt z := by simp only [State.domAt, State.setClass_treas]
@[simp] theorem setUser_ledgerAt (s : State) (i : Nat) (x : AllowUser) (z : Nat) : (State.setUser s i x).ledgerAt z = s.ledgerAt z := by simp only [State.ledgerAt, State.setUser_ledger]
@[simp] theorem setUser_dispAt (s : State) (i : Nat) (x : AllowUser) (z : Nat) : (State.setUser s i x).dispAt z = s.dispAt z := by simp only [State.dispAt, State.setUser_disp]
@[simp] theorem setUser_assayAt (s : State) (i : Nat) (x : AllowUser) (z : Nat) : (State.setUser s i x).assayAt z = s.assayAt z := by simp only [State.assayAt, State.setUser_assay]
@[simp] theorem setUser_noseAt (s : State) (i : Nat) (x : AllowUser) (z : Nat) : (State.setUser s i x).noseAt z = s.noseAt z := by simp only [State.noseAt, State.setUser_nose]
@[simp] theorem setUser_tellerAt (s : State) (i : Nat) (x : AllowUser) (z : Nat) : (State.setUser s i x).tellerAt z = s.tellerAt z := by simp only [State.tellerAt, State.setUser_tellers]
@[simp] theorem setUser_deskAt (s : State) (i : Nat) (x : AllowUser) (z : Nat) : (State.setUser s i x).deskAt z = s.deskAt z := by simp only [State.deskAt, State.setUser_desks]
@[simp] theorem setUser_portAt (s : State) (i : Nat) (x : AllowUser) (z : Nat) : (State.setUser s i x).portAt z = s.portAt z := by simp only [State.portAt, State.setUser_ports]
@[simp] theorem setUser_portCfgAt (s : State) (i : Nat) (x : AllowUser) (z : Nat) : (State.setUser s i x).portCfgAt z = s.portCfgAt z := by simp only [State.portCfgAt, State.setUser_portCfg]
@[simp] theorem setUser_ringAt (s : State) (i : Nat) (x : AllowUser) (z : Nat) : (State.setUser s i x).ringAt z = s.ringAt z := by simp only [State.ringAt, State.setUser_rings]
@[simp] theorem setUser_chanAt (s : State) (i : Nat) (x : AllowUser) (z : Nat) : (State.setUser s i x).chanAt z = s.chanAt z := by simp only [State.chanAt, State.setUser_vault]
@[simp] theorem setUser_schedAt (s : State) (i : Nat) (x : AllowUser) (z : Nat) : (State.setUser s i x).schedAt z = s.schedAt z := by simp only [State.schedAt, State.setUser_tm]
@[simp] theorem setUser_classAt (s : State) (i : Nat) (x : AllowUser) (z : Nat) : (State.setUser s i x).classAt z = s.classAt z := by simp only [State.classAt, State.setUser_tm]
@[simp] theorem setDom_ledgerAt (s : State) (i : Nat) (x : DomState) (z : Nat) : (State.setDom s i x).ledgerAt z = s.ledgerAt z := by simp only [State.ledgerAt, State.setDom_ledger]
@[simp] theorem setDom_dispAt (s : State) (i : Nat) (x : DomState) (z : Nat) : (State.setDom s i x).dispAt z = s.dispAt z := by simp only [State.dispAt, State.setDom_disp]
@[simp] theorem setDom_assayAt (s : State) (i : Nat) (x : DomState) (z : Nat) : (State.setDom s i x).assayAt z = s.assayAt z := by simp only [State.assayAt, State.setDom_assay]
@[simp] theorem setDom_noseAt (s : State) (i : Nat) (x : DomState) (z : Nat) : (State.setDom s i x).noseAt z = s.noseAt z := by simp only [State.noseAt, State.setDom_nose]
@[simp] theorem setDom_tellerAt (s : State) (i : Nat) (x : DomState) (z : Nat) : (State.setDom s i x).tellerAt z = s.tellerAt z := by simp only [State.tellerAt, State.setDom_tellers]
@[simp] theorem setDom_deskAt (s : State) (i : Nat) (x : DomState) (z : Nat) : (State.setDom s i x).deskAt z = s.deskAt z := by simp only [State.deskAt, State.setDom_desks]
@[simp] theorem setDom_portAt (s : State) (i : Nat) (x : DomState) (z : Nat) : (State.setDom s i x).portAt z = s.portAt z := by simp only [State.portAt, State.setDom_ports]
@[simp] theorem setDom_portCfgAt (s : State) (i : Nat) (x : DomState) (z : Nat) : (State.setDom s i x).portCfgAt z = s.portCfgAt z := by simp only [State.portCfgAt, State.setDom_portCfg]
@[simp] theorem setDom_ringAt (s : State) (i : Nat) (x : DomState) (z : Nat) : (State.setDom s i x).ringAt z = s.ringAt z := by simp only [State.ringAt, State.setDom_rings]
@[simp] theorem setDom_chanAt (s : State) (i : Nat) (x : DomState) (z : Nat) : (State.setDom s i x).chanAt z = s.chanAt z := by simp only [State.chanAt, State.setDom_vault]
@[simp] theorem setDom_schedAt (s : State) (i : Nat) (x : DomState) (z : Nat) : (State.setDom s i x).schedAt z = s.schedAt z := by simp only [State.schedAt, State.setDom_tm]
@[simp] theorem setDom_classAt (s : State) (i : Nat) (x : DomState) (z : Nat) : (State.setDom s i x).classAt z = s.classAt z := by simp only [State.classAt, State.setDom_tm]
@[simp] theorem modLedger_dispAt (s : State) (i : Nat) (g : Ledger → Ledger) (z : Nat) : (State.modLedger s i g).dispAt z = s.dispAt z := by simp only [State.dispAt, State.modLedger_disp]
@[simp] theorem modLedger_assayAt (s : State) (i : Nat) (g : Ledger → Ledger) (z : Nat) : (State.modLedger s i g).assayAt z = s.assayAt z := by simp only [State.assayAt, State.modLedger_assay]
@[simp] theorem modLedger_noseAt (s : State) (i : Nat) (g : Ledger → Ledger) (z : Nat) : (State.modLedger s i g).noseAt z = s.noseAt z := by simp only [State.noseAt, State.modLedger_nose]
@[simp] theorem modLedger_tellerAt (s : State) (i : Nat) (g : Ledger → Ledger) (z : Nat) : (State.modLedger s i g).tellerAt z = s.tellerAt z := by simp only [State.tellerAt, State.modLedger_tellers]
@[simp] theorem modLedger_deskAt (s : State) (i : Nat) (g : Ledger → Ledger) (z : Nat) : (State.modLedger s i g).deskAt z = s.deskAt z := by simp only [State.deskAt, State.modLedger_desks]
@[simp] theorem modLedger_portAt (s : State) (i : Nat) (g : Ledger → Ledger) (z : Nat) : (State.modLedger s i g).portAt z = s.portAt z := by simp only [State.portAt, State.modLedger_ports]
@[simp] theorem modLedger_portCfgAt (s : State) (i : Nat) (g : Ledger → Ledger) (z : Nat) : (State.modLedger s i g).portCfgAt z = s.portCfgAt z := by simp only [State.portCfgAt, State.modLedger_portCfg]
@[simp] theorem modLedger_ringAt (s : State) (i : Nat) (g : Ledger → Ledger) (z : Nat) : (State.modLedger s i g).ringAt z = s.ringAt z := by simp only [State.ringAt, State.modLedger_rings]
@[simp] theorem modLedger_chanAt (s : State) (i : Nat) (g : Ledger → Ledger) (z : Nat) : (State.modLedger s i g).chanAt z = s.chanAt z := by simp only [State.chanAt, State.modLedger_vault]
@[simp] theorem modLedger_schedAt (s : State) (i : Nat) (g : Ledger → Ledger) (z : Nat) : (State.modLedger s i g).schedAt z = s.schedAt z := by simp only [State.schedAt, State.modLedger_tm]
@[simp] theorem modLedger_classAt (s : State) (i : Nat) (g : Ledger → Ledger) (z : Nat) : (State.modLedger s i g).classAt z = s.classAt z := by simp only [State.classAt, State.modLedger_tm]
@[simp] theorem modLedger_userAt (s : State) (i : Nat) (g : Ledger → Ledger) (z : Nat) : (State.modLedger s i g).userAt z = s.userAt z := by simp only [State.userAt, State.modLedger_treas]
@[simp] theorem modLedger_domAt (s : State) (i : Nat) (g : Ledger → Ledger) (z : Nat) : (State.modLedger s i g).domAt z = s.domAt z := by simp only [State.domAt, State.modLedger_treas]
@[simp] theorem modDisp_ledgerAt (s : State) (i : Nat) (g : Disp → Disp) (z : Nat) : (State.modDisp s i g).ledgerAt z = s.ledgerAt z := by simp only [State.ledgerAt, State.modDisp_ledger]
@[simp] theorem modDisp_assayAt (s : State) (i : Nat) (g : Disp → Disp) (z : Nat) : (State.modDisp s i g).assayAt z = s.assayAt z := by simp only [State.assayAt, State.modDisp_assay]
@[simp] theorem modDisp_noseAt (s : State) (i : Nat) (g : Disp → Disp) (z : Nat) : (State.modDisp s i g).noseAt z = s.noseAt z := by simp only [State.noseAt, State.modDisp_nose]
@[simp] theorem modDisp_tellerAt (s : State) (i : Nat) (g : Disp → Disp) (z : Nat) : (State.modDisp s i g).tellerAt z = s.tellerAt z := by simp only [State.tellerAt, State.modDisp_tellers]
@[simp] theorem modDisp_deskAt (s : State) (i : Nat) (g : Disp → Disp) (z : Nat) : (State.modDisp s i g).deskAt z = s.deskAt z := by simp only [State.deskAt, State.modDisp_desks]
@[simp] theorem modDisp_portAt (s : State) (i : Nat) (g : Disp → Disp) (z : Nat) : (State.modDisp s i g).portAt z = s.portAt z := by simp only [State.portAt, State.modDisp_ports]
@[simp] theorem modDisp_portCfgAt (s : State) (i : Nat) (g : Disp → Disp) (z : Nat) : (State.modDisp s i g).portCfgAt z = s.portCfgAt z := by simp only [State.portCfgAt, State.modDisp_portCfg]
@[simp] theorem modDisp_ringAt (s : State) (i : Nat) (g : Disp → Disp) (z : Nat) : (State.modDisp s i g).ringAt z = s.ringAt z := by simp only [State.ringAt, State.modDisp_rings]
@[simp] theorem modDisp_chanAt (s : State) (i : Nat) (g : Disp → Disp) (z : Nat) : (State.modDisp s i g).chanAt z = s.chanAt z := by simp only [State.chanAt, State.modDisp_vault]
@[simp] theorem modDisp_schedAt (s : State) (i : Nat) (g : Disp → Disp) (z : Nat) : (State.modDisp s i g).schedAt z = s.schedAt z := by simp only [State.schedAt, State.modDisp_tm]
@[simp] theorem modDisp_classAt (s : State) (i : Nat) (g : Disp → Disp) (z : Nat) : (State.modDisp s i g).classAt z = s.classAt z := by simp only [State.classAt, State.modDisp_tm]
@[simp] theorem modDisp_userAt (s : State) (i : Nat) (g : Disp → Disp) (z : Nat) : (State.modDisp s i g).userAt z = s.userAt z := by simp only [State.userAt, State.modDisp_treas]
@[simp] theorem modDisp_domAt (s : State) (i : Nat) (g : Disp → Disp) (z : Nat) : (State.modDisp s i g).domAt z = s.domAt z := by simp only [State.domAt, State.modDisp_treas]
@[simp] theorem modAssay_ledgerAt (s : State) (i : Nat) (g : Assayer → Assayer) (z : Nat) : (State.modAssay s i g).ledgerAt z = s.ledgerAt z := by simp only [State.ledgerAt, State.modAssay_ledger]
@[simp] theorem modAssay_dispAt (s : State) (i : Nat) (g : Assayer → Assayer) (z : Nat) : (State.modAssay s i g).dispAt z = s.dispAt z := by simp only [State.dispAt, State.modAssay_disp]
@[simp] theorem modAssay_noseAt (s : State) (i : Nat) (g : Assayer → Assayer) (z : Nat) : (State.modAssay s i g).noseAt z = s.noseAt z := by simp only [State.noseAt, State.modAssay_nose]
@[simp] theorem modAssay_tellerAt (s : State) (i : Nat) (g : Assayer → Assayer) (z : Nat) : (State.modAssay s i g).tellerAt z = s.tellerAt z := by simp only [State.tellerAt, State.modAssay_tellers]
@[simp] theorem modAssay_deskAt (s : State) (i : Nat) (g : Assayer → Assayer) (z : Nat) : (State.modAssay s i g).deskAt z = s.deskAt z := by simp only [State.deskAt, State.modAssay_desks]
@[simp] theorem modAssay_portAt (s : State) (i : Nat) (g : Assayer → Assayer) (z : Nat) : (State.modAssay s i g).portAt z = s.portAt z := by simp only [State.portAt, State.modAssay_ports]
@[simp] theorem modAssay_portCfgAt (s : State) (i : Nat) (g : Assayer → Assayer) (z : Nat) : (State.modAssay s i g).portCfgAt z = s.portCfgAt z := by simp only [State.portCfgAt, State.modAssay_portCfg]
@[simp] theorem modAssay_ringAt (s : State) (i : Nat) (g : Assayer → Assayer) (z : Nat) : (State.modAssay s i g).ringAt z = s.ringAt z := by simp only [State.ringAt, State.modAssay_rings]
@[simp] theorem modAssay_chanAt (s : State) (i : Nat) (g : Assayer → Assayer) (z : Nat) : (State.modAssay s i g).chanAt z = s.chanAt z := by simp only [State.chanAt, State.modAssay_vault]
@[simp] theorem modAssay_schedAt (s : State) (i : Nat) (g : Assayer → Assayer) (z : Nat) : (State.modAssay s i g).schedAt z = s.schedAt z := by simp only [State.schedAt, State.modAssay_tm]
@[simp] theorem modAssay_classAt (s : State) (i : Nat) (g : Assayer → Assayer) (z : Nat) : (State.modAssay s i g).classAt z = s.classAt z := by simp only [State.classAt, State.modAssay_tm]
@[simp] theorem modAssay_userAt (s : State) (i : Nat) (g : Assayer → Assayer) (z : Nat) : (State.modAssay s i g).userAt z = s.userAt z := by simp only [State.userAt, State.modAssay_treas]
@[simp] theorem modAssay_domAt (s : State) (i : Nat) (g : Assayer → Assayer) (z : Nat) : (State.modAssay s i g).domAt z = s.domAt z := by simp only [State.domAt, State.modAssay_treas]
@[simp] theorem modNose_ledgerAt (s : State) (i : Nat) (g : Nose → Nose) (z : Nat) : (State.modNose s i g).ledgerAt z = s.ledgerAt z := by simp only [State.ledgerAt, State.modNose_ledger]
@[simp] theorem modNose_dispAt (s : State) (i : Nat) (g : Nose → Nose) (z : Nat) : (State.modNose s i g).dispAt z = s.dispAt z := by simp only [State.dispAt, State.modNose_disp]
@[simp] theorem modNose_assayAt (s : State) (i : Nat) (g : Nose → Nose) (z : Nat) : (State.modNose s i g).assayAt z = s.assayAt z := by simp only [State.assayAt, State.modNose_assay]
@[simp] theorem modNose_tellerAt (s : State) (i : Nat) (g : Nose → Nose) (z : Nat) : (State.modNose s i g).tellerAt z = s.tellerAt z := by simp only [State.tellerAt, State.modNose_tellers]
@[simp] theorem modNose_deskAt (s : State) (i : Nat) (g : Nose → Nose) (z : Nat) : (State.modNose s i g).deskAt z = s.deskAt z := by simp only [State.deskAt, State.modNose_desks]
@[simp] theorem modNose_portAt (s : State) (i : Nat) (g : Nose → Nose) (z : Nat) : (State.modNose s i g).portAt z = s.portAt z := by simp only [State.portAt, State.modNose_ports]
@[simp] theorem modNose_portCfgAt (s : State) (i : Nat) (g : Nose → Nose) (z : Nat) : (State.modNose s i g).portCfgAt z = s.portCfgAt z := by simp only [State.portCfgAt, State.modNose_portCfg]
@[simp] theorem modNose_ringAt (s : State) (i : Nat) (g : Nose → Nose) (z : Nat) : (State.modNose s i g).ringAt z = s.ringAt z := by simp only [State.ringAt, State.modNose_rings]
@[simp] theorem modNose_chanAt (s : State) (i : Nat) (g : Nose → Nose) (z : Nat) : (State.modNose s i g).chanAt z = s.chanAt z := by simp only [State.chanAt, State.modNose_vault]
@[simp] theorem modNose_schedAt (s : State) (i : Nat) (g : Nose → Nose) (z : Nat) : (State.modNose s i g).schedAt z = s.schedAt z := by simp only [State.schedAt, State.modNose_tm]
@[simp] theorem modNose_classAt (s : State) (i : Nat) (g : Nose → Nose) (z : Nat) : (State.modNose s i g).classAt z = s.classAt z := by simp only [State.classAt, State.modNose_tm]
@[simp] theorem modNose_userAt (s : State) (i : Nat) (g : Nose → Nose) (z : Nat) : (State.modNose s i g).userAt z = s.userAt z := by simp only [State.userAt, State.modNose_treas]
@[simp] theorem modNose_domAt (s : State) (i : Nat) (g : Nose → Nose) (z : Nat) : (State.modNose s i g).domAt z = s.domAt z := by simp only [State.domAt, State.modNose_treas]
@[simp] theorem modTeller_ledgerAt (s : State) (i : Nat) (g : Teller → Teller) (z : Nat) : (State.modTeller s i g).ledgerAt z = s.ledgerAt z := by simp only [State.ledgerAt, State.modTeller_ledger]
@[simp] theorem modTeller_dispAt (s : State) (i : Nat) (g : Teller → Teller) (z : Nat) : (State.modTeller s i g).dispAt z = s.dispAt z := by simp only [State.dispAt, State.modTeller_disp]
@[simp] theorem modTeller_assayAt (s : State) (i : Nat) (g : Teller → Teller) (z : Nat) : (State.modTeller s i g).assayAt z = s.assayAt z := by simp only [State.assayAt, State.modTeller_assay]
@[simp] theorem modTeller_noseAt (s : State) (i : Nat) (g : Teller → Teller) (z : Nat) : (State.modTeller s i g).noseAt z = s.noseAt z := by simp only [State.noseAt, State.modTeller_nose]
@[simp] theorem modTeller_deskAt (s : State) (i : Nat) (g : Teller → Teller) (z : Nat) : (State.modTeller s i g).deskAt z = s.deskAt z := by simp only [State.deskAt, State.modTeller_desks]
@[simp] theorem modTeller_portAt (s : State) (i : Nat) (g : Teller → Teller) (z : Nat) : (State.modTeller s i g).portAt z = s.portAt z := by simp only [State.portAt, State.modTeller_ports]
@[simp] theorem modTeller_portCfgAt (s : State) (i : Nat) (g : Teller → Teller) (z : Nat) : (State.modTeller s i g).portCfgAt z = s.portCfgAt z := by simp only [State.portCfgAt, State.modTeller_portCfg]
@[simp] theorem modTeller_ringAt (s : State) (i : Nat) (g : Teller → Teller) (z : Nat) : (State.modTeller s i g).ringAt z = s.ringAt z := by simp only [State.ringAt, State.modTeller_rings]
@[simp] theorem modTeller_chanAt (s : State) (i : Nat) (g : Teller → Teller) (z : Nat) : (State.modTeller s i g).chanAt z = s.chanAt z := by simp only [State.chanAt, State.modTeller_vault]
@[simp] theorem modTeller_schedAt (s : State) (i : Nat) (g : Teller → Teller) (z : Nat) : (State.modTeller s i g).schedAt z = s.schedAt z := by simp only [State.schedAt, State.modTeller_tm]
@[simp] theorem modTeller_classAt (s : State) (i : Nat) (g : Teller → Teller) (z : Nat) : (State.modTeller s i g).classAt z = s.classAt z := by simp only [State.classAt, State.modTeller_tm]
@[simp] theorem modTeller_userAt (s : State) (i : Nat) (g : Teller → Teller) (z : Nat) : (State.modTeller s i g).userAt z = s.userAt z := by simp only [State.userAt, State.modTeller_treas]
@[simp] theorem modTeller_domAt (s : State) (i : Nat) (g : Teller → Teller) (z : Nat) : (State.modTeller s i g).domAt z = s.domAt z := by simp only [State.domAt, State.modTeller_treas]
@[simp] theorem modPort_ledgerAt (s : State) (i : Nat) (g : Port → Port) (z : Nat) : (State.modPort s i g).ledgerAt z = s.ledgerAt z := by simp only [State.ledgerAt, State.modPort_ledger]
@[simp] theorem modPort_dispAt (s : State) (i : Nat) (g : Port → Port) (z : Nat) : (State.modPort s i g).dispAt z = s.dispAt z := by simp only [State.dispAt, State.modPort_disp]
@[simp] theorem modPort_assayAt (s : State) (i : Nat) (g : Port → Port) (z : Nat) : (State.modPort s i g).assayAt z = s.assayAt z := by simp only [State.assayAt, State.modPort_assay]
@[simp] theorem modPort_noseAt (s : State) (i : Nat) (g : Port → Port) (z : Nat) : (State.modPort s i g).noseAt z = s.noseAt z := by simp only [State.noseAt, State.modPort_nose]
@[simp] theorem modPort_tellerAt (s : State) (i : Nat) (g : Port → Port) (z : Nat) : (State.modPort s i g).tellerAt z = s.tellerAt z := by simp only [State.tellerAt, State.modPort_tellers]
@[simp] theorem modPort_deskAt (s : State) (i : Nat) (g : Port → Port) (z : Nat) : (State.modPort s i g).deskAt z = s.deskAt z := by simp only [State.deskAt, State.modPort_desks]
@[simp] theorem modPort_portCfgAt (s : State) (i : Nat) (g : Port → Port) (z : Nat) : (State.modPort s i g).portCfgAt z = s.portCfgAt z := by simp only [State.portCfgAt, State.modPort_portCfg]
@[simp] theorem modPort_ringAt (s : State) (i : Nat) (g : Port → Port) (z : Nat) : (State.modPort s i g).ringAt z = s.ringAt z := by simp only [State.ringAt, State.modPort_rings]
@[simp] theorem modPort_chanAt (s : State) (i : Nat) (g : Port → Port) (z : Nat) : (State.modPort s i g).chanAt z = s.chanAt z := by simp only [State.chanAt, State.modPort_vault]
@[simp] theorem modPort_schedAt (s : State) (i : Nat) (g : Port → Port) (z : Nat) : (State.modPort s i g).schedAt z = s.schedAt z := by simp only [State.schedAt, State.modPort_tm]
@[simp] theorem modPort_classAt (s : State) (i : Nat) (g : Port → Port) (z : Nat) : (State.modPort s i g).classAt z = s.classAt z := by simp only [State.classAt, State.modPort_tm]
@[simp] theorem modPort_userAt (s : State) (i : Nat) (g : Port → Port) (z : Nat) : (State.modPort s i g).userAt z = s.userAt z := by simp only [State.userAt, State.modPort_treas]
@[simp] theorem modPort_domAt (s : State) (i : Nat) (g : Port → Port) (z : Nat) : (State.modPort s i g).domAt z = s.domAt z := by simp only [State.domAt, State.modPort_treas]
@[simp] theorem modRing_ledgerAt (s : State) (i : Nat) (g : Ring → Ring) (z : Nat) : (State.modRing s i g).ledgerAt z = s.ledgerAt z := by simp only [State.ledgerAt, State.modRing_ledger]
@[simp] theorem modRing_dispAt (s : State) (i : Nat) (g : Ring → Ring) (z : Nat) : (State.modRing s i g).dispAt z = s.dispAt z := by simp only [State.dispAt, State.modRing_disp]
@[simp] theorem modRing_assayAt (s : State) (i : Nat) (g : Ring → Ring) (z : Nat) : (State.modRing s i g).assayAt z = s.assayAt z := by simp only [State.assayAt, State.modRing_assay]
@[simp] theorem modRing_noseAt (s : State) (i : Nat) (g : Ring → Ring) (z : Nat) : (State.modRing s i g).noseAt z = s.noseAt z := by simp only [State.noseAt, State.modRing_nose]
@[simp] theorem modRing_tellerAt (s : State) (i : Nat) (g : Ring → Ring) (z : Nat) : (State.modRing s i g).tellerAt z = s.tellerAt z := by simp only [State.tellerAt, State.modRing_tellers]
@[simp] theorem modRing_deskAt (s : State) (i : Nat) (g : Ring → Ring) (z : Nat) : (State.modRing s i g).deskAt z = s.deskAt z := by simp only [State.deskAt, State.modRing_desks]
@[simp] theorem modRing_portAt (s : State) (i : Nat) (g : Ring → Ring) (z : Nat) : (State.modRing s i g).portAt z = s.portAt z := by simp only [State.portAt, State.modRing_ports]
@[simp] theorem modRing_portCfgAt (s : State) (i : Nat) (g : Ring → Ring) (z : Nat) : (State.modRing s i g).portCfgAt z = s.portCfgAt z := by simp only [State.portCfgAt, State.modRing_portCfg]
@[simp] theorem modRing_chanAt (s : State) (i : Nat) (g : Ring → Ring) (z : Nat) : (State.modRing s i g).chanAt z = s.chanAt z := by simp only [State.chanAt, State.modRing_vault]
@[simp] theorem modRing_schedAt (s : State) (i : Nat) (g : Ring → Ring) (z : Nat) : (State.modRing s i g).schedAt z = s.schedAt z := by simp only [State.schedAt, State.modRing_tm]
@[simp] theorem modRing_classAt (s : State) (i : Nat) (g : Ring → Ring) (z : Nat) : (State.modRing s i g).classAt z = s.classAt z := by simp only [State.classAt, State.modRing_tm]
@[simp] theorem modRing_userAt (s : State) (i : Nat) (g : Ring → Ring) (z : Nat) : (State.modRing s i g).userAt z = s.userAt z := by simp only [State.userAt, State.modRing_treas]
@[simp] theorem modRing_domAt (s : State) (i : Nat) (g : Ring → Ring) (z : Nat) : (State.modRing s i g).domAt z = s.domAt z := by simp only [State.domAt, State.modRing_treas]
@[simp] theorem modChan_ledgerAt (s : State) (i : Nat) (g : VaultCh → VaultCh) (z : Nat) : (State.modChan s i g).ledgerAt z = s.ledgerAt z := by simp only [State.ledgerAt, State.modChan_ledger]
@[simp] theorem modChan_dispAt (s : State) (i : Nat) (g : VaultCh → VaultCh) (z : Nat) : (State.modChan s i g).dispAt z = s.dispAt z := by simp only [State.dispAt, State.modChan_disp]
@[simp] theorem modChan_assayAt (s : State) (i : Nat) (g : VaultCh → VaultCh) (z : Nat) : (State.modChan s i g).assayAt z = s.assayAt z := by simp only [State.assayAt, State.modChan_assay]
@[simp] theorem modChan_noseAt (s : State) (i : Nat) (g : VaultCh → VaultCh) (z : Nat) : (State.modChan s i g).noseAt z = s.noseAt z := by simp only [State.noseAt, State.modChan_nose]
@[simp] theorem modChan_tellerAt (s : State) (i : Nat) (g : VaultCh → VaultCh) (z : Nat) : (State.modChan s i g).tellerAt z = s.tellerAt z := by simp only [State.tellerAt, State.modChan_tellers]
@[simp] theorem modChan_deskAt (s : State) (i : Nat) (g : VaultCh → VaultCh) (z : Nat) : (State.modChan s i g).deskAt z = s.deskAt z := by simp only [State.deskAt, State.modChan_desks]
@[simp] theorem modChan_portAt (s : State) (i : Nat) (g : VaultCh → VaultCh) (z : Nat) : (State.modChan s i g).portAt z = s.portAt z := by simp only [State.portAt, State.modChan_ports]
@[simp] theorem modChan_portCfgAt (s : State) (i : Nat) (g : VaultCh → VaultCh) (z : Nat) : (State.modChan s i g).portCfgAt z = s.portCfgAt z := by simp only [State.portCfgAt, State.modChan_portCfg]
@[simp] theorem modChan_ringAt (s : State) (i : Nat) (g : VaultCh → VaultCh) (z : Nat) : (State.modChan s i g).ringAt z = s.ringAt z := by simp only [State.ringAt, State.modChan_rings]
@[simp] theorem modChan_schedAt (s : State) (i : Nat) (g : VaultCh → VaultCh) (z : Nat) : (State.modChan s i g).schedAt z = s.schedAt z := by simp only [State.schedAt, State.modChan_tm]
@[simp] theorem modChan_classAt (s : State) (i : Nat) (g : VaultCh → VaultCh) (z : Nat) : (State.modChan s i g).classAt z = s.classAt z := by simp only [State.classAt, State.modChan_tm]
@[simp] theorem modChan_userAt (s : State) (i : Nat) (g : VaultCh → VaultCh) (z : Nat) : (State.modChan s i g).userAt z = s.userAt z := by simp only [State.userAt, State.modChan_treas]
@[simp] theorem modChan_domAt (s : State) (i : Nat) (g : VaultCh → VaultCh) (z : Nat) : (State.modChan s i g).domAt z = s.domAt z := by simp only [State.domAt, State.modChan_treas]
@[simp] theorem modSched_ledgerAt (s : State) (i : Nat) (g : Sched → Sched) (z : Nat) : (State.modSched s i g).ledgerAt z = s.ledgerAt z := by simp only [State.ledgerAt, State.modSched_ledger]
@[simp] theorem modSched_dispAt (s : State) (i : Nat) (g : Sched → Sched) (z : Nat) : (State.modSched s i g).dispAt z = s.dispAt z := by simp only [State.dispAt, State.modSched_disp]
@[simp] theorem modSched_assayAt (s : State) (i : Nat) (g : Sched → Sched) (z : Nat) : (State.modSched s i g).assayAt z = s.assayAt z := by simp only [State.assayAt, State.modSched_assay]
@[simp] theorem modSched_noseAt (s : State) (i : Nat) (g : Sched → Sched) (z : Nat) : (State.modSched s i g).noseAt z = s.noseAt z := by simp only [State.noseAt, State.modSched_nose]
@[simp] theorem modSched_tellerAt (s : State) (i : Nat) (g : Sched → Sched) (z : Nat) : (State.modSched s i g).tellerAt z = s.tellerAt z := by simp only [State.tellerAt, State.modSched_tellers]
@[simp] theorem modSched_deskAt (s : State) (i : Nat) (g : Sched → Sched) (z : Nat) : (State.modSched s i g).deskAt z = s.deskAt z := by simp only [State.deskAt, State.modSched_desks]
@[simp] theorem modSched_portAt (s : State) (i : Nat) (g : Sched → Sched) (z : Nat) : (State.modSched s i g).portAt z = s.portAt z := by simp only [State.portAt, State.modSched_ports]
@[simp] theorem modSched_portCfgAt (s : State) (i : Nat) (g : Sched → Sched) (z : Nat) : (State.modSched s i g).portCfgAt z = s.portCfgAt z := by simp only [State.portCfgAt, State.modSched_portCfg]
@[simp] theorem modSched_ringAt (s : State) (i : Nat) (g : Sched → Sched) (z : Nat) : (State.modSched s i g).ringAt z = s.ringAt z := by simp only [State.ringAt, State.modSched_rings]
@[simp] theorem modSched_chanAt (s : State) (i : Nat) (g : Sched → Sched) (z : Nat) : (State.modSched s i g).chanAt z = s.chanAt z := by simp only [State.chanAt, State.modSched_vault]
@[simp] theorem modSched_userAt (s : State) (i : Nat) (g : Sched → Sched) (z : Nat) : (State.modSched s i g).userAt z = s.userAt z := by simp only [State.userAt, State.modSched_treas]
@[simp] theorem modSched_domAt (s : State) (i : Nat) (g : Sched → Sched) (z : Nat) : (State.modSched s i g).domAt z = s.domAt z := by simp only [State.domAt, State.modSched_treas]
@[simp] theorem regStore_ledgerAt (o : Nat) (v : Word32) (s : State) (z : Nat) : (regStore o v s).ledgerAt z = s.ledgerAt z := by simp only [State.ledgerAt, regStore_ledger]
@[simp] theorem regStore_dispAt (o : Nat) (v : Word32) (s : State) (z : Nat) : (regStore o v s).dispAt z = s.dispAt z := by simp only [State.dispAt, regStore_disp]
@[simp] theorem regStore_assayAt (o : Nat) (v : Word32) (s : State) (z : Nat) : (regStore o v s).assayAt z = s.assayAt z := by simp only [State.assayAt, regStore_assay]
@[simp] theorem regStore_noseAt (o : Nat) (v : Word32) (s : State) (z : Nat) : (regStore o v s).noseAt z = s.noseAt z := by simp only [State.noseAt, regStore_nose]
@[simp] theorem regStore_tellerAt (o : Nat) (v : Word32) (s : State) (z : Nat) : (regStore o v s).tellerAt z = s.tellerAt z := by simp only [State.tellerAt, regStore_tellers]
@[simp] theorem regStore_deskAt (o : Nat) (v : Word32) (s : State) (z : Nat) : (regStore o v s).deskAt z = s.deskAt z := by simp only [State.deskAt, regStore_desks]
@[simp] theorem regStore_portAt (o : Nat) (v : Word32) (s : State) (z : Nat) : (regStore o v s).portAt z = s.portAt z := by simp only [State.portAt, regStore_ports]
@[simp] theorem regStore_portCfgAt (o : Nat) (v : Word32) (s : State) (z : Nat) : (regStore o v s).portCfgAt z = s.portCfgAt z := by simp only [State.portCfgAt, regStore_portCfg]
@[simp] theorem regStore_ringAt (o : Nat) (v : Word32) (s : State) (z : Nat) : (regStore o v s).ringAt z = s.ringAt z := by simp only [State.ringAt, regStore_rings]
@[simp] theorem regStore_chanAt (o : Nat) (v : Word32) (s : State) (z : Nat) : (regStore o v s).chanAt z = s.chanAt z := by simp only [State.chanAt, regStore_vault]
@[simp] theorem regStore_schedAt (o : Nat) (v : Word32) (s : State) (z : Nat) : (regStore o v s).schedAt z = s.schedAt z := by simp only [State.schedAt, regStore_tm]
@[simp] theorem regStore_classAt (o : Nat) (v : Word32) (s : State) (z : Nat) : (regStore o v s).classAt z = s.classAt z := by simp only [State.classAt, regStore_tm]
@[simp] theorem regStore_userAt (o : Nat) (v : Word32) (s : State) (z : Nat) : (regStore o v s).userAt z = s.userAt z := by simp only [State.userAt, regStore_treas]
@[simp] theorem regStore_domAt (o : Nat) (v : Word32) (s : State) (z : Nat) : (regStore o v s).domAt z = s.domAt z := by simp only [State.domAt, regStore_treas]
@[simp] theorem setField_ledgerAt (o hi lo x : Nat) (s : State) (z : Nat) : (setField o hi lo x s).ledgerAt z = s.ledgerAt z := by simp only [State.ledgerAt, setField_ledger]
@[simp] theorem setField_dispAt (o hi lo x : Nat) (s : State) (z : Nat) : (setField o hi lo x s).dispAt z = s.dispAt z := by simp only [State.dispAt, setField_disp]
@[simp] theorem setField_assayAt (o hi lo x : Nat) (s : State) (z : Nat) : (setField o hi lo x s).assayAt z = s.assayAt z := by simp only [State.assayAt, setField_assay]
@[simp] theorem setField_noseAt (o hi lo x : Nat) (s : State) (z : Nat) : (setField o hi lo x s).noseAt z = s.noseAt z := by simp only [State.noseAt, setField_nose]
@[simp] theorem setField_tellerAt (o hi lo x : Nat) (s : State) (z : Nat) : (setField o hi lo x s).tellerAt z = s.tellerAt z := by simp only [State.tellerAt, setField_tellers]
@[simp] theorem setField_deskAt (o hi lo x : Nat) (s : State) (z : Nat) : (setField o hi lo x s).deskAt z = s.deskAt z := by simp only [State.deskAt, setField_desks]
@[simp] theorem setField_portAt (o hi lo x : Nat) (s : State) (z : Nat) : (setField o hi lo x s).portAt z = s.portAt z := by simp only [State.portAt, setField_ports]
@[simp] theorem setField_portCfgAt (o hi lo x : Nat) (s : State) (z : Nat) : (setField o hi lo x s).portCfgAt z = s.portCfgAt z := by simp only [State.portCfgAt, setField_portCfg]
@[simp] theorem setField_ringAt (o hi lo x : Nat) (s : State) (z : Nat) : (setField o hi lo x s).ringAt z = s.ringAt z := by simp only [State.ringAt, setField_rings]
@[simp] theorem setField_chanAt (o hi lo x : Nat) (s : State) (z : Nat) : (setField o hi lo x s).chanAt z = s.chanAt z := by simp only [State.chanAt, setField_vault]
@[simp] theorem setField_schedAt (o hi lo x : Nat) (s : State) (z : Nat) : (setField o hi lo x s).schedAt z = s.schedAt z := by simp only [State.schedAt, setField_tm]
@[simp] theorem setField_classAt (o hi lo x : Nat) (s : State) (z : Nat) : (setField o hi lo x s).classAt z = s.classAt z := by simp only [State.classAt, setField_tm]
@[simp] theorem setField_userAt (o hi lo x : Nat) (s : State) (z : Nat) : (setField o hi lo x s).userAt z = s.userAt z := by simp only [State.userAt, setField_treas]
@[simp] theorem setField_domAt (o hi lo x : Nat) (s : State) (z : Nat) : (setField o hi lo x s).domAt z = s.domAt z := by simp only [State.domAt, setField_treas]
@[simp] theorem setPair_ledgerAt (o v : Nat) (s : State) (z : Nat) : (setPair o v s).ledgerAt z = s.ledgerAt z := by simp only [State.ledgerAt, setPair_ledger]
@[simp] theorem setPair_dispAt (o v : Nat) (s : State) (z : Nat) : (setPair o v s).dispAt z = s.dispAt z := by simp only [State.dispAt, setPair_disp]
@[simp] theorem setPair_assayAt (o v : Nat) (s : State) (z : Nat) : (setPair o v s).assayAt z = s.assayAt z := by simp only [State.assayAt, setPair_assay]
@[simp] theorem setPair_noseAt (o v : Nat) (s : State) (z : Nat) : (setPair o v s).noseAt z = s.noseAt z := by simp only [State.noseAt, setPair_nose]
@[simp] theorem setPair_tellerAt (o v : Nat) (s : State) (z : Nat) : (setPair o v s).tellerAt z = s.tellerAt z := by simp only [State.tellerAt, setPair_tellers]
@[simp] theorem setPair_deskAt (o v : Nat) (s : State) (z : Nat) : (setPair o v s).deskAt z = s.deskAt z := by simp only [State.deskAt, setPair_desks]
@[simp] theorem setPair_portAt (o v : Nat) (s : State) (z : Nat) : (setPair o v s).portAt z = s.portAt z := by simp only [State.portAt, setPair_ports]
@[simp] theorem setPair_portCfgAt (o v : Nat) (s : State) (z : Nat) : (setPair o v s).portCfgAt z = s.portCfgAt z := by simp only [State.portCfgAt, setPair_portCfg]
@[simp] theorem setPair_ringAt (o v : Nat) (s : State) (z : Nat) : (setPair o v s).ringAt z = s.ringAt z := by simp only [State.ringAt, setPair_rings]
@[simp] theorem setPair_chanAt (o v : Nat) (s : State) (z : Nat) : (setPair o v s).chanAt z = s.chanAt z := by simp only [State.chanAt, setPair_vault]
@[simp] theorem setPair_schedAt (o v : Nat) (s : State) (z : Nat) : (setPair o v s).schedAt z = s.schedAt z := by simp only [State.schedAt, setPair_tm]
@[simp] theorem setPair_classAt (o v : Nat) (s : State) (z : Nat) : (setPair o v s).classAt z = s.classAt z := by simp only [State.classAt, setPair_tm]
@[simp] theorem setPair_userAt (o v : Nat) (s : State) (z : Nat) : (setPair o v s).userAt z = s.userAt z := by simp only [State.userAt, setPair_treas]
@[simp] theorem setPair_domAt (o v : Nat) (s : State) (z : Nat) : (setPair o v s).domAt z = s.domAt z := by simp only [State.domAt, setPair_treas]
@[simp] theorem bumpN_ledgerAt (o n : Nat) (s : State) (z : Nat) : (bumpN o n s).ledgerAt z = s.ledgerAt z := by simp only [State.ledgerAt, bumpN_ledger]
@[simp] theorem bumpN_dispAt (o n : Nat) (s : State) (z : Nat) : (bumpN o n s).dispAt z = s.dispAt z := by simp only [State.dispAt, bumpN_disp]
@[simp] theorem bumpN_assayAt (o n : Nat) (s : State) (z : Nat) : (bumpN o n s).assayAt z = s.assayAt z := by simp only [State.assayAt, bumpN_assay]
@[simp] theorem bumpN_noseAt (o n : Nat) (s : State) (z : Nat) : (bumpN o n s).noseAt z = s.noseAt z := by simp only [State.noseAt, bumpN_nose]
@[simp] theorem bumpN_tellerAt (o n : Nat) (s : State) (z : Nat) : (bumpN o n s).tellerAt z = s.tellerAt z := by simp only [State.tellerAt, bumpN_tellers]
@[simp] theorem bumpN_deskAt (o n : Nat) (s : State) (z : Nat) : (bumpN o n s).deskAt z = s.deskAt z := by simp only [State.deskAt, bumpN_desks]
@[simp] theorem bumpN_portAt (o n : Nat) (s : State) (z : Nat) : (bumpN o n s).portAt z = s.portAt z := by simp only [State.portAt, bumpN_ports]
@[simp] theorem bumpN_portCfgAt (o n : Nat) (s : State) (z : Nat) : (bumpN o n s).portCfgAt z = s.portCfgAt z := by simp only [State.portCfgAt, bumpN_portCfg]
@[simp] theorem bumpN_ringAt (o n : Nat) (s : State) (z : Nat) : (bumpN o n s).ringAt z = s.ringAt z := by simp only [State.ringAt, bumpN_rings]
@[simp] theorem bumpN_chanAt (o n : Nat) (s : State) (z : Nat) : (bumpN o n s).chanAt z = s.chanAt z := by simp only [State.chanAt, bumpN_vault]
@[simp] theorem bumpN_schedAt (o n : Nat) (s : State) (z : Nat) : (bumpN o n s).schedAt z = s.schedAt z := by simp only [State.schedAt, bumpN_tm]
@[simp] theorem bumpN_classAt (o n : Nat) (s : State) (z : Nat) : (bumpN o n s).classAt z = s.classAt z := by simp only [State.classAt, bumpN_tm]
@[simp] theorem bumpN_userAt (o n : Nat) (s : State) (z : Nat) : (bumpN o n s).userAt z = s.userAt z := by simp only [State.userAt, bumpN_treas]
@[simp] theorem bumpN_domAt (o n : Nat) (s : State) (z : Nat) : (bumpN o n s).domAt z = s.domAt z := by simp only [State.domAt, bumpN_treas]
@[simp] theorem bump_ledgerAt (o : Nat) (s : State) (z : Nat) : (bump o s).ledgerAt z = s.ledgerAt z := by simp only [State.ledgerAt, bump_ledger]
@[simp] theorem bump_dispAt (o : Nat) (s : State) (z : Nat) : (bump o s).dispAt z = s.dispAt z := by simp only [State.dispAt, bump_disp]
@[simp] theorem bump_assayAt (o : Nat) (s : State) (z : Nat) : (bump o s).assayAt z = s.assayAt z := by simp only [State.assayAt, bump_assay]
@[simp] theorem bump_noseAt (o : Nat) (s : State) (z : Nat) : (bump o s).noseAt z = s.noseAt z := by simp only [State.noseAt, bump_nose]
@[simp] theorem bump_tellerAt (o : Nat) (s : State) (z : Nat) : (bump o s).tellerAt z = s.tellerAt z := by simp only [State.tellerAt, bump_tellers]
@[simp] theorem bump_deskAt (o : Nat) (s : State) (z : Nat) : (bump o s).deskAt z = s.deskAt z := by simp only [State.deskAt, bump_desks]
@[simp] theorem bump_portAt (o : Nat) (s : State) (z : Nat) : (bump o s).portAt z = s.portAt z := by simp only [State.portAt, bump_ports]
@[simp] theorem bump_portCfgAt (o : Nat) (s : State) (z : Nat) : (bump o s).portCfgAt z = s.portCfgAt z := by simp only [State.portCfgAt, bump_portCfg]
@[simp] theorem bump_ringAt (o : Nat) (s : State) (z : Nat) : (bump o s).ringAt z = s.ringAt z := by simp only [State.ringAt, bump_rings]
@[simp] theorem bump_chanAt (o : Nat) (s : State) (z : Nat) : (bump o s).chanAt z = s.chanAt z := by simp only [State.chanAt, bump_vault]
@[simp] theorem bump_schedAt (o : Nat) (s : State) (z : Nat) : (bump o s).schedAt z = s.schedAt z := by simp only [State.schedAt, bump_tm]
@[simp] theorem bump_classAt (o : Nat) (s : State) (z : Nat) : (bump o s).classAt z = s.classAt z := by simp only [State.classAt, bump_tm]
@[simp] theorem bump_userAt (o : Nat) (s : State) (z : Nat) : (bump o s).userAt z = s.userAt z := by simp only [State.userAt, bump_treas]
@[simp] theorem bump_domAt (o : Nat) (s : State) (z : Nat) : (bump o s).domAt z = s.domAt z := by simp only [State.domAt, bump_treas]
@[simp] theorem tally_ledgerAt (o : Nat) (s : State) (z : Nat) : (tally o s).ledgerAt z = s.ledgerAt z := by simp only [State.ledgerAt, tally_ledger]
@[simp] theorem tally_dispAt (o : Nat) (s : State) (z : Nat) : (tally o s).dispAt z = s.dispAt z := by simp only [State.dispAt, tally_disp]
@[simp] theorem tally_assayAt (o : Nat) (s : State) (z : Nat) : (tally o s).assayAt z = s.assayAt z := by simp only [State.assayAt, tally_assay]
@[simp] theorem tally_noseAt (o : Nat) (s : State) (z : Nat) : (tally o s).noseAt z = s.noseAt z := by simp only [State.noseAt, tally_nose]
@[simp] theorem tally_tellerAt (o : Nat) (s : State) (z : Nat) : (tally o s).tellerAt z = s.tellerAt z := by simp only [State.tellerAt, tally_tellers]
@[simp] theorem tally_deskAt (o : Nat) (s : State) (z : Nat) : (tally o s).deskAt z = s.deskAt z := by simp only [State.deskAt, tally_desks]
@[simp] theorem tally_portAt (o : Nat) (s : State) (z : Nat) : (tally o s).portAt z = s.portAt z := by simp only [State.portAt, tally_ports]
@[simp] theorem tally_portCfgAt (o : Nat) (s : State) (z : Nat) : (tally o s).portCfgAt z = s.portCfgAt z := by simp only [State.portCfgAt, tally_portCfg]
@[simp] theorem tally_ringAt (o : Nat) (s : State) (z : Nat) : (tally o s).ringAt z = s.ringAt z := by simp only [State.ringAt, tally_rings]
@[simp] theorem tally_chanAt (o : Nat) (s : State) (z : Nat) : (tally o s).chanAt z = s.chanAt z := by simp only [State.chanAt, tally_vault]
@[simp] theorem tally_schedAt (o : Nat) (s : State) (z : Nat) : (tally o s).schedAt z = s.schedAt z := by simp only [State.schedAt, tally_tm]
@[simp] theorem tally_classAt (o : Nat) (s : State) (z : Nat) : (tally o s).classAt z = s.classAt z := by simp only [State.classAt, tally_tm]
@[simp] theorem tally_userAt (o : Nat) (s : State) (z : Nat) : (tally o s).userAt z = s.userAt z := by simp only [State.userAt, tally_treas]
@[simp] theorem tally_domAt (o : Nat) (s : State) (z : Nat) : (tally o s).domAt z = s.domAt z := by simp only [State.domAt, tally_treas]
@[simp] theorem bump64_ledgerAt (o n : Nat) (s : State) (z : Nat) : (bump64 o n s).ledgerAt z = s.ledgerAt z := by simp only [State.ledgerAt, bump64_ledger]
@[simp] theorem bump64_dispAt (o n : Nat) (s : State) (z : Nat) : (bump64 o n s).dispAt z = s.dispAt z := by simp only [State.dispAt, bump64_disp]
@[simp] theorem bump64_assayAt (o n : Nat) (s : State) (z : Nat) : (bump64 o n s).assayAt z = s.assayAt z := by simp only [State.assayAt, bump64_assay]
@[simp] theorem bump64_noseAt (o n : Nat) (s : State) (z : Nat) : (bump64 o n s).noseAt z = s.noseAt z := by simp only [State.noseAt, bump64_nose]
@[simp] theorem bump64_tellerAt (o n : Nat) (s : State) (z : Nat) : (bump64 o n s).tellerAt z = s.tellerAt z := by simp only [State.tellerAt, bump64_tellers]
@[simp] theorem bump64_deskAt (o n : Nat) (s : State) (z : Nat) : (bump64 o n s).deskAt z = s.deskAt z := by simp only [State.deskAt, bump64_desks]
@[simp] theorem bump64_portAt (o n : Nat) (s : State) (z : Nat) : (bump64 o n s).portAt z = s.portAt z := by simp only [State.portAt, bump64_ports]
@[simp] theorem bump64_portCfgAt (o n : Nat) (s : State) (z : Nat) : (bump64 o n s).portCfgAt z = s.portCfgAt z := by simp only [State.portCfgAt, bump64_portCfg]
@[simp] theorem bump64_ringAt (o n : Nat) (s : State) (z : Nat) : (bump64 o n s).ringAt z = s.ringAt z := by simp only [State.ringAt, bump64_rings]
@[simp] theorem bump64_chanAt (o n : Nat) (s : State) (z : Nat) : (bump64 o n s).chanAt z = s.chanAt z := by simp only [State.chanAt, bump64_vault]
@[simp] theorem bump64_schedAt (o n : Nat) (s : State) (z : Nat) : (bump64 o n s).schedAt z = s.schedAt z := by simp only [State.schedAt, bump64_tm]
@[simp] theorem bump64_classAt (o n : Nat) (s : State) (z : Nat) : (bump64 o n s).classAt z = s.classAt z := by simp only [State.classAt, bump64_tm]
@[simp] theorem bump64_userAt (o n : Nat) (s : State) (z : Nat) : (bump64 o n s).userAt z = s.userAt z := by simp only [State.userAt, bump64_treas]
@[simp] theorem bump64_domAt (o n : Nat) (s : State) (z : Nat) : (bump64 o n s).domAt z = s.domAt z := by simp only [State.domAt, bump64_treas]
@[simp] theorem peak_ledgerAt (o hi lo v : Nat) (s : State) (z : Nat) : (peak o hi lo v s).ledgerAt z = s.ledgerAt z := by simp only [State.ledgerAt, peak_ledger]
@[simp] theorem peak_dispAt (o hi lo v : Nat) (s : State) (z : Nat) : (peak o hi lo v s).dispAt z = s.dispAt z := by simp only [State.dispAt, peak_disp]
@[simp] theorem peak_assayAt (o hi lo v : Nat) (s : State) (z : Nat) : (peak o hi lo v s).assayAt z = s.assayAt z := by simp only [State.assayAt, peak_assay]
@[simp] theorem peak_noseAt (o hi lo v : Nat) (s : State) (z : Nat) : (peak o hi lo v s).noseAt z = s.noseAt z := by simp only [State.noseAt, peak_nose]
@[simp] theorem peak_tellerAt (o hi lo v : Nat) (s : State) (z : Nat) : (peak o hi lo v s).tellerAt z = s.tellerAt z := by simp only [State.tellerAt, peak_tellers]
@[simp] theorem peak_deskAt (o hi lo v : Nat) (s : State) (z : Nat) : (peak o hi lo v s).deskAt z = s.deskAt z := by simp only [State.deskAt, peak_desks]
@[simp] theorem peak_portAt (o hi lo v : Nat) (s : State) (z : Nat) : (peak o hi lo v s).portAt z = s.portAt z := by simp only [State.portAt, peak_ports]
@[simp] theorem peak_portCfgAt (o hi lo v : Nat) (s : State) (z : Nat) : (peak o hi lo v s).portCfgAt z = s.portCfgAt z := by simp only [State.portCfgAt, peak_portCfg]
@[simp] theorem peak_ringAt (o hi lo v : Nat) (s : State) (z : Nat) : (peak o hi lo v s).ringAt z = s.ringAt z := by simp only [State.ringAt, peak_rings]
@[simp] theorem peak_chanAt (o hi lo v : Nat) (s : State) (z : Nat) : (peak o hi lo v s).chanAt z = s.chanAt z := by simp only [State.chanAt, peak_vault]
@[simp] theorem peak_schedAt (o hi lo v : Nat) (s : State) (z : Nat) : (peak o hi lo v s).schedAt z = s.schedAt z := by simp only [State.schedAt, peak_tm]
@[simp] theorem peak_classAt (o hi lo v : Nat) (s : State) (z : Nat) : (peak o hi lo v s).classAt z = s.classAt z := by simp only [State.classAt, peak_tm]
@[simp] theorem peak_userAt (o hi lo v : Nat) (s : State) (z : Nat) : (peak o hi lo v s).userAt z = s.userAt z := by simp only [State.userAt, peak_treas]
@[simp] theorem peak_domAt (o hi lo v : Nat) (s : State) (z : Nat) : (peak o hi lo v s).domAt z = s.domAt z := by simp only [State.domAt, peak_treas]
@[simp] theorem cause_ledgerAt (o i : Nat) (s : State) (z : Nat) : (cause o i s).ledgerAt z = s.ledgerAt z := by simp only [State.ledgerAt, cause_ledger]
@[simp] theorem cause_dispAt (o i : Nat) (s : State) (z : Nat) : (cause o i s).dispAt z = s.dispAt z := by simp only [State.dispAt, cause_disp]
@[simp] theorem cause_assayAt (o i : Nat) (s : State) (z : Nat) : (cause o i s).assayAt z = s.assayAt z := by simp only [State.assayAt, cause_assay]
@[simp] theorem cause_noseAt (o i : Nat) (s : State) (z : Nat) : (cause o i s).noseAt z = s.noseAt z := by simp only [State.noseAt, cause_nose]
@[simp] theorem cause_tellerAt (o i : Nat) (s : State) (z : Nat) : (cause o i s).tellerAt z = s.tellerAt z := by simp only [State.tellerAt, cause_tellers]
@[simp] theorem cause_deskAt (o i : Nat) (s : State) (z : Nat) : (cause o i s).deskAt z = s.deskAt z := by simp only [State.deskAt, cause_desks]
@[simp] theorem cause_portAt (o i : Nat) (s : State) (z : Nat) : (cause o i s).portAt z = s.portAt z := by simp only [State.portAt, cause_ports]
@[simp] theorem cause_portCfgAt (o i : Nat) (s : State) (z : Nat) : (cause o i s).portCfgAt z = s.portCfgAt z := by simp only [State.portCfgAt, cause_portCfg]
@[simp] theorem cause_ringAt (o i : Nat) (s : State) (z : Nat) : (cause o i s).ringAt z = s.ringAt z := by simp only [State.ringAt, cause_rings]
@[simp] theorem cause_chanAt (o i : Nat) (s : State) (z : Nat) : (cause o i s).chanAt z = s.chanAt z := by simp only [State.chanAt, cause_vault]
@[simp] theorem cause_schedAt (o i : Nat) (s : State) (z : Nat) : (cause o i s).schedAt z = s.schedAt z := by simp only [State.schedAt, cause_tm]
@[simp] theorem cause_classAt (o i : Nat) (s : State) (z : Nat) : (cause o i s).classAt z = s.classAt z := by simp only [State.classAt, cause_tm]
@[simp] theorem cause_userAt (o i : Nat) (s : State) (z : Nat) : (cause o i s).userAt z = s.userAt z := by simp only [State.userAt, cause_treas]
@[simp] theorem cause_domAt (o i : Nat) (s : State) (z : Nat) : (cause o i s).domAt z = s.domAt z := by simp only [State.domAt, cause_treas]
@[simp] theorem stampAt_ledgerAt (a b net : Nat) (s : State) (z : Nat) : (stampAt a b net s).ledgerAt z = s.ledgerAt z := by simp only [State.ledgerAt, stampAt_ledger]
@[simp] theorem stampAt_dispAt (a b net : Nat) (s : State) (z : Nat) : (stampAt a b net s).dispAt z = s.dispAt z := by simp only [State.dispAt, stampAt_disp]
@[simp] theorem stampAt_assayAt (a b net : Nat) (s : State) (z : Nat) : (stampAt a b net s).assayAt z = s.assayAt z := by simp only [State.assayAt, stampAt_assay]
@[simp] theorem stampAt_noseAt (a b net : Nat) (s : State) (z : Nat) : (stampAt a b net s).noseAt z = s.noseAt z := by simp only [State.noseAt, stampAt_nose]
@[simp] theorem stampAt_tellerAt (a b net : Nat) (s : State) (z : Nat) : (stampAt a b net s).tellerAt z = s.tellerAt z := by simp only [State.tellerAt, stampAt_tellers]
@[simp] theorem stampAt_deskAt (a b net : Nat) (s : State) (z : Nat) : (stampAt a b net s).deskAt z = s.deskAt z := by simp only [State.deskAt, stampAt_desks]
@[simp] theorem stampAt_portAt (a b net : Nat) (s : State) (z : Nat) : (stampAt a b net s).portAt z = s.portAt z := by simp only [State.portAt, stampAt_ports]
@[simp] theorem stampAt_portCfgAt (a b net : Nat) (s : State) (z : Nat) : (stampAt a b net s).portCfgAt z = s.portCfgAt z := by simp only [State.portCfgAt, stampAt_portCfg]
@[simp] theorem stampAt_ringAt (a b net : Nat) (s : State) (z : Nat) : (stampAt a b net s).ringAt z = s.ringAt z := by simp only [State.ringAt, stampAt_rings]
@[simp] theorem stampAt_chanAt (a b net : Nat) (s : State) (z : Nat) : (stampAt a b net s).chanAt z = s.chanAt z := by simp only [State.chanAt, stampAt_vault]
@[simp] theorem stampAt_schedAt (a b net : Nat) (s : State) (z : Nat) : (stampAt a b net s).schedAt z = s.schedAt z := by simp only [State.schedAt, stampAt_tm]
@[simp] theorem stampAt_classAt (a b net : Nat) (s : State) (z : Nat) : (stampAt a b net s).classAt z = s.classAt z := by simp only [State.classAt, stampAt_tm]
@[simp] theorem stampAt_userAt (a b net : Nat) (s : State) (z : Nat) : (stampAt a b net s).userAt z = s.userAt z := by simp only [State.userAt, stampAt_treas]
@[simp] theorem stampAt_domAt (a b net : Nat) (s : State) (z : Nat) : (stampAt a b net s).domAt z = s.domAt z := by simp only [State.domAt, stampAt_treas]
@[simp] theorem stamp_ledgerAt (a b : Nat) (s : State) (z : Nat) : (stamp a b s).ledgerAt z = s.ledgerAt z := by simp only [State.ledgerAt, stamp_ledger]
@[simp] theorem stamp_dispAt (a b : Nat) (s : State) (z : Nat) : (stamp a b s).dispAt z = s.dispAt z := by simp only [State.dispAt, stamp_disp]
@[simp] theorem stamp_assayAt (a b : Nat) (s : State) (z : Nat) : (stamp a b s).assayAt z = s.assayAt z := by simp only [State.assayAt, stamp_assay]
@[simp] theorem stamp_noseAt (a b : Nat) (s : State) (z : Nat) : (stamp a b s).noseAt z = s.noseAt z := by simp only [State.noseAt, stamp_nose]
@[simp] theorem stamp_tellerAt (a b : Nat) (s : State) (z : Nat) : (stamp a b s).tellerAt z = s.tellerAt z := by simp only [State.tellerAt, stamp_tellers]
@[simp] theorem stamp_deskAt (a b : Nat) (s : State) (z : Nat) : (stamp a b s).deskAt z = s.deskAt z := by simp only [State.deskAt, stamp_desks]
@[simp] theorem stamp_portAt (a b : Nat) (s : State) (z : Nat) : (stamp a b s).portAt z = s.portAt z := by simp only [State.portAt, stamp_ports]
@[simp] theorem stamp_portCfgAt (a b : Nat) (s : State) (z : Nat) : (stamp a b s).portCfgAt z = s.portCfgAt z := by simp only [State.portCfgAt, stamp_portCfg]
@[simp] theorem stamp_ringAt (a b : Nat) (s : State) (z : Nat) : (stamp a b s).ringAt z = s.ringAt z := by simp only [State.ringAt, stamp_rings]
@[simp] theorem stamp_chanAt (a b : Nat) (s : State) (z : Nat) : (stamp a b s).chanAt z = s.chanAt z := by simp only [State.chanAt, stamp_vault]
@[simp] theorem stamp_schedAt (a b : Nat) (s : State) (z : Nat) : (stamp a b s).schedAt z = s.schedAt z := by simp only [State.schedAt, stamp_tm]
@[simp] theorem stamp_classAt (a b : Nat) (s : State) (z : Nat) : (stamp a b s).classAt z = s.classAt z := by simp only [State.classAt, stamp_tm]
@[simp] theorem stamp_userAt (a b : Nat) (s : State) (z : Nat) : (stamp a b s).userAt z = s.userAt z := by simp only [State.userAt, stamp_treas]
@[simp] theorem stamp_domAt (a b : Nat) (s : State) (z : Nat) : (stamp a b s).domAt z = s.domAt z := by simp only [State.domAt, stamp_treas]
@[simp] theorem plainWrite_ledgerAt (o : Nat) (v : Word32) (s : State) (z : Nat) : (plainWrite o v s).ledgerAt z = s.ledgerAt z := by simp only [State.ledgerAt, plainWrite_ledger]
@[simp] theorem plainWrite_dispAt (o : Nat) (v : Word32) (s : State) (z : Nat) : (plainWrite o v s).dispAt z = s.dispAt z := by simp only [State.dispAt, plainWrite_disp]
@[simp] theorem plainWrite_assayAt (o : Nat) (v : Word32) (s : State) (z : Nat) : (plainWrite o v s).assayAt z = s.assayAt z := by simp only [State.assayAt, plainWrite_assay]
@[simp] theorem plainWrite_noseAt (o : Nat) (v : Word32) (s : State) (z : Nat) : (plainWrite o v s).noseAt z = s.noseAt z := by simp only [State.noseAt, plainWrite_nose]
@[simp] theorem plainWrite_tellerAt (o : Nat) (v : Word32) (s : State) (z : Nat) : (plainWrite o v s).tellerAt z = s.tellerAt z := by simp only [State.tellerAt, plainWrite_tellers]
@[simp] theorem plainWrite_deskAt (o : Nat) (v : Word32) (s : State) (z : Nat) : (plainWrite o v s).deskAt z = s.deskAt z := by simp only [State.deskAt, plainWrite_desks]
@[simp] theorem plainWrite_portAt (o : Nat) (v : Word32) (s : State) (z : Nat) : (plainWrite o v s).portAt z = s.portAt z := by simp only [State.portAt, plainWrite_ports]
@[simp] theorem plainWrite_portCfgAt (o : Nat) (v : Word32) (s : State) (z : Nat) : (plainWrite o v s).portCfgAt z = s.portCfgAt z := by simp only [State.portCfgAt, plainWrite_portCfg]
@[simp] theorem plainWrite_ringAt (o : Nat) (v : Word32) (s : State) (z : Nat) : (plainWrite o v s).ringAt z = s.ringAt z := by simp only [State.ringAt, plainWrite_rings]
@[simp] theorem plainWrite_chanAt (o : Nat) (v : Word32) (s : State) (z : Nat) : (plainWrite o v s).chanAt z = s.chanAt z := by simp only [State.chanAt, plainWrite_vault]
@[simp] theorem plainWrite_schedAt (o : Nat) (v : Word32) (s : State) (z : Nat) : (plainWrite o v s).schedAt z = s.schedAt z := by simp only [State.schedAt, plainWrite_tm]
@[simp] theorem plainWrite_classAt (o : Nat) (v : Word32) (s : State) (z : Nat) : (plainWrite o v s).classAt z = s.classAt z := by simp only [State.classAt, plainWrite_tm]
@[simp] theorem plainWrite_userAt (o : Nat) (v : Word32) (s : State) (z : Nat) : (plainWrite o v s).userAt z = s.userAt z := by simp only [State.userAt, plainWrite_treas]
@[simp] theorem plainWrite_domAt (o : Nat) (v : Word32) (s : State) (z : Nat) : (plainWrite o v s).domAt z = s.domAt z := by simp only [State.domAt, plainWrite_treas]
@[simp] theorem perfCount_ledgerAt (u k n : Nat) (s : State) (z : Nat) : (perfCount u k n s).ledgerAt z = s.ledgerAt z := by simp only [State.ledgerAt, perfCount_ledger]
@[simp] theorem perfCount_dispAt (u k n : Nat) (s : State) (z : Nat) : (perfCount u k n s).dispAt z = s.dispAt z := by simp only [State.dispAt, perfCount_disp]
@[simp] theorem perfCount_assayAt (u k n : Nat) (s : State) (z : Nat) : (perfCount u k n s).assayAt z = s.assayAt z := by simp only [State.assayAt, perfCount_assay]
@[simp] theorem perfCount_noseAt (u k n : Nat) (s : State) (z : Nat) : (perfCount u k n s).noseAt z = s.noseAt z := by simp only [State.noseAt, perfCount_nose]
@[simp] theorem perfCount_tellerAt (u k n : Nat) (s : State) (z : Nat) : (perfCount u k n s).tellerAt z = s.tellerAt z := by simp only [State.tellerAt, perfCount_tellers]
@[simp] theorem perfCount_deskAt (u k n : Nat) (s : State) (z : Nat) : (perfCount u k n s).deskAt z = s.deskAt z := by simp only [State.deskAt, perfCount_desks]
@[simp] theorem perfCount_portAt (u k n : Nat) (s : State) (z : Nat) : (perfCount u k n s).portAt z = s.portAt z := by simp only [State.portAt, perfCount_ports]
@[simp] theorem perfCount_portCfgAt (u k n : Nat) (s : State) (z : Nat) : (perfCount u k n s).portCfgAt z = s.portCfgAt z := by simp only [State.portCfgAt, perfCount_portCfg]
@[simp] theorem perfCount_ringAt (u k n : Nat) (s : State) (z : Nat) : (perfCount u k n s).ringAt z = s.ringAt z := by simp only [State.ringAt, perfCount_rings]
@[simp] theorem perfCount_chanAt (u k n : Nat) (s : State) (z : Nat) : (perfCount u k n s).chanAt z = s.chanAt z := by simp only [State.chanAt, perfCount_vault]
@[simp] theorem perfCount_schedAt (u k n : Nat) (s : State) (z : Nat) : (perfCount u k n s).schedAt z = s.schedAt z := by simp only [State.schedAt, perfCount_tm]
@[simp] theorem perfCount_classAt (u k n : Nat) (s : State) (z : Nat) : (perfCount u k n s).classAt z = s.classAt z := by simp only [State.classAt, perfCount_tm]
@[simp] theorem perfCount_userAt (u k n : Nat) (s : State) (z : Nat) : (perfCount u k n s).userAt z = s.userAt z := by simp only [State.userAt, perfCount_treas]
@[simp] theorem perfCount_domAt (u k n : Nat) (s : State) (z : Nat) : (perfCount u k n s).domAt z = s.domAt z := by simp only [State.domAt, perfCount_treas]
@[simp] theorem perfN_ledgerAt (u code n : Nat) (s : State) (z : Nat) : (perfN u code n s).ledgerAt z = s.ledgerAt z := by simp only [State.ledgerAt, perfN_ledger]
@[simp] theorem perfN_dispAt (u code n : Nat) (s : State) (z : Nat) : (perfN u code n s).dispAt z = s.dispAt z := by simp only [State.dispAt, perfN_disp]
@[simp] theorem perfN_assayAt (u code n : Nat) (s : State) (z : Nat) : (perfN u code n s).assayAt z = s.assayAt z := by simp only [State.assayAt, perfN_assay]
@[simp] theorem perfN_noseAt (u code n : Nat) (s : State) (z : Nat) : (perfN u code n s).noseAt z = s.noseAt z := by simp only [State.noseAt, perfN_nose]
@[simp] theorem perfN_tellerAt (u code n : Nat) (s : State) (z : Nat) : (perfN u code n s).tellerAt z = s.tellerAt z := by simp only [State.tellerAt, perfN_tellers]
@[simp] theorem perfN_deskAt (u code n : Nat) (s : State) (z : Nat) : (perfN u code n s).deskAt z = s.deskAt z := by simp only [State.deskAt, perfN_desks]
@[simp] theorem perfN_portAt (u code n : Nat) (s : State) (z : Nat) : (perfN u code n s).portAt z = s.portAt z := by simp only [State.portAt, perfN_ports]
@[simp] theorem perfN_portCfgAt (u code n : Nat) (s : State) (z : Nat) : (perfN u code n s).portCfgAt z = s.portCfgAt z := by simp only [State.portCfgAt, perfN_portCfg]
@[simp] theorem perfN_ringAt (u code n : Nat) (s : State) (z : Nat) : (perfN u code n s).ringAt z = s.ringAt z := by simp only [State.ringAt, perfN_rings]
@[simp] theorem perfN_chanAt (u code n : Nat) (s : State) (z : Nat) : (perfN u code n s).chanAt z = s.chanAt z := by simp only [State.chanAt, perfN_vault]
@[simp] theorem perfN_schedAt (u code n : Nat) (s : State) (z : Nat) : (perfN u code n s).schedAt z = s.schedAt z := by simp only [State.schedAt, perfN_tm]
@[simp] theorem perfN_classAt (u code n : Nat) (s : State) (z : Nat) : (perfN u code n s).classAt z = s.classAt z := by simp only [State.classAt, perfN_tm]
@[simp] theorem perfN_userAt (u code n : Nat) (s : State) (z : Nat) : (perfN u code n s).userAt z = s.userAt z := by simp only [State.userAt, perfN_treas]
@[simp] theorem perfN_domAt (u code n : Nat) (s : State) (z : Nat) : (perfN u code n s).domAt z = s.domAt z := by simp only [State.domAt, perfN_treas]
@[simp] theorem perf_ledgerAt (u code : Nat) (s : State) (z : Nat) : (perf u code s).ledgerAt z = s.ledgerAt z := by simp only [State.ledgerAt, perf_ledger]
@[simp] theorem perf_dispAt (u code : Nat) (s : State) (z : Nat) : (perf u code s).dispAt z = s.dispAt z := by simp only [State.dispAt, perf_disp]
@[simp] theorem perf_assayAt (u code : Nat) (s : State) (z : Nat) : (perf u code s).assayAt z = s.assayAt z := by simp only [State.assayAt, perf_assay]
@[simp] theorem perf_noseAt (u code : Nat) (s : State) (z : Nat) : (perf u code s).noseAt z = s.noseAt z := by simp only [State.noseAt, perf_nose]
@[simp] theorem perf_tellerAt (u code : Nat) (s : State) (z : Nat) : (perf u code s).tellerAt z = s.tellerAt z := by simp only [State.tellerAt, perf_tellers]
@[simp] theorem perf_deskAt (u code : Nat) (s : State) (z : Nat) : (perf u code s).deskAt z = s.deskAt z := by simp only [State.deskAt, perf_desks]
@[simp] theorem perf_portAt (u code : Nat) (s : State) (z : Nat) : (perf u code s).portAt z = s.portAt z := by simp only [State.portAt, perf_ports]
@[simp] theorem perf_portCfgAt (u code : Nat) (s : State) (z : Nat) : (perf u code s).portCfgAt z = s.portCfgAt z := by simp only [State.portCfgAt, perf_portCfg]
@[simp] theorem perf_ringAt (u code : Nat) (s : State) (z : Nat) : (perf u code s).ringAt z = s.ringAt z := by simp only [State.ringAt, perf_rings]
@[simp] theorem perf_chanAt (u code : Nat) (s : State) (z : Nat) : (perf u code s).chanAt z = s.chanAt z := by simp only [State.chanAt, perf_vault]
@[simp] theorem perf_schedAt (u code : Nat) (s : State) (z : Nat) : (perf u code s).schedAt z = s.schedAt z := by simp only [State.schedAt, perf_tm]
@[simp] theorem perf_classAt (u code : Nat) (s : State) (z : Nat) : (perf u code s).classAt z = s.classAt z := by simp only [State.classAt, perf_tm]
@[simp] theorem perf_userAt (u code : Nat) (s : State) (z : Nat) : (perf u code s).userAt z = s.userAt z := by simp only [State.userAt, perf_treas]
@[simp] theorem perf_domAt (u code : Nat) (s : State) (z : Nat) : (perf u code s).domAt z = s.domAt z := by simp only [State.domAt, perf_treas]
@[simp] theorem emitAt_ledgerAt (net src kind p : Nat) (s : State) (z : Nat) : (emitAt net src kind p s).ledgerAt z = s.ledgerAt z := by simp only [State.ledgerAt, emitAt_ledger]
@[simp] theorem emitAt_dispAt (net src kind p : Nat) (s : State) (z : Nat) : (emitAt net src kind p s).dispAt z = s.dispAt z := by simp only [State.dispAt, emitAt_disp]
@[simp] theorem emitAt_assayAt (net src kind p : Nat) (s : State) (z : Nat) : (emitAt net src kind p s).assayAt z = s.assayAt z := by simp only [State.assayAt, emitAt_assay]
@[simp] theorem emitAt_noseAt (net src kind p : Nat) (s : State) (z : Nat) : (emitAt net src kind p s).noseAt z = s.noseAt z := by simp only [State.noseAt, emitAt_nose]
@[simp] theorem emitAt_tellerAt (net src kind p : Nat) (s : State) (z : Nat) : (emitAt net src kind p s).tellerAt z = s.tellerAt z := by simp only [State.tellerAt, emitAt_tellers]
@[simp] theorem emitAt_deskAt (net src kind p : Nat) (s : State) (z : Nat) : (emitAt net src kind p s).deskAt z = s.deskAt z := by simp only [State.deskAt, emitAt_desks]
@[simp] theorem emitAt_portAt (net src kind p : Nat) (s : State) (z : Nat) : (emitAt net src kind p s).portAt z = s.portAt z := by simp only [State.portAt, emitAt_ports]
@[simp] theorem emitAt_portCfgAt (net src kind p : Nat) (s : State) (z : Nat) : (emitAt net src kind p s).portCfgAt z = s.portCfgAt z := by simp only [State.portCfgAt, emitAt_portCfg]
@[simp] theorem emitAt_ringAt (net src kind p : Nat) (s : State) (z : Nat) : (emitAt net src kind p s).ringAt z = s.ringAt z := by simp only [State.ringAt, emitAt_rings]
@[simp] theorem emitAt_chanAt (net src kind p : Nat) (s : State) (z : Nat) : (emitAt net src kind p s).chanAt z = s.chanAt z := by simp only [State.chanAt, emitAt_vault]
@[simp] theorem emitAt_schedAt (net src kind p : Nat) (s : State) (z : Nat) : (emitAt net src kind p s).schedAt z = s.schedAt z := by simp only [State.schedAt, emitAt_tm]
@[simp] theorem emitAt_classAt (net src kind p : Nat) (s : State) (z : Nat) : (emitAt net src kind p s).classAt z = s.classAt z := by simp only [State.classAt, emitAt_tm]
@[simp] theorem emitAt_userAt (net src kind p : Nat) (s : State) (z : Nat) : (emitAt net src kind p s).userAt z = s.userAt z := by simp only [State.userAt, emitAt_treas]
@[simp] theorem emitAt_domAt (net src kind p : Nat) (s : State) (z : Nat) : (emitAt net src kind p s).domAt z = s.domAt z := by simp only [State.domAt, emitAt_treas]
@[simp] theorem emit_ledgerAt (src kind p : Nat) (s : State) (z : Nat) : (emit src kind p s).ledgerAt z = s.ledgerAt z := by simp only [State.ledgerAt, emit_ledger]
@[simp] theorem emit_dispAt (src kind p : Nat) (s : State) (z : Nat) : (emit src kind p s).dispAt z = s.dispAt z := by simp only [State.dispAt, emit_disp]
@[simp] theorem emit_assayAt (src kind p : Nat) (s : State) (z : Nat) : (emit src kind p s).assayAt z = s.assayAt z := by simp only [State.assayAt, emit_assay]
@[simp] theorem emit_noseAt (src kind p : Nat) (s : State) (z : Nat) : (emit src kind p s).noseAt z = s.noseAt z := by simp only [State.noseAt, emit_nose]
@[simp] theorem emit_tellerAt (src kind p : Nat) (s : State) (z : Nat) : (emit src kind p s).tellerAt z = s.tellerAt z := by simp only [State.tellerAt, emit_tellers]
@[simp] theorem emit_deskAt (src kind p : Nat) (s : State) (z : Nat) : (emit src kind p s).deskAt z = s.deskAt z := by simp only [State.deskAt, emit_desks]
@[simp] theorem emit_portAt (src kind p : Nat) (s : State) (z : Nat) : (emit src kind p s).portAt z = s.portAt z := by simp only [State.portAt, emit_ports]
@[simp] theorem emit_portCfgAt (src kind p : Nat) (s : State) (z : Nat) : (emit src kind p s).portCfgAt z = s.portCfgAt z := by simp only [State.portCfgAt, emit_portCfg]
@[simp] theorem emit_ringAt (src kind p : Nat) (s : State) (z : Nat) : (emit src kind p s).ringAt z = s.ringAt z := by simp only [State.ringAt, emit_rings]
@[simp] theorem emit_chanAt (src kind p : Nat) (s : State) (z : Nat) : (emit src kind p s).chanAt z = s.chanAt z := by simp only [State.chanAt, emit_vault]
@[simp] theorem emit_schedAt (src kind p : Nat) (s : State) (z : Nat) : (emit src kind p s).schedAt z = s.schedAt z := by simp only [State.schedAt, emit_tm]
@[simp] theorem emit_classAt (src kind p : Nat) (s : State) (z : Nat) : (emit src kind p s).classAt z = s.classAt z := by simp only [State.classAt, emit_tm]
@[simp] theorem emit_userAt (src kind p : Nat) (s : State) (z : Nat) : (emit src kind p s).userAt z = s.userAt z := by simp only [State.userAt, emit_treas]
@[simp] theorem emit_domAt (src kind p : Nat) (s : State) (z : Nat) : (emit src kind p s).domAt z = s.domAt z := by simp only [State.domAt, emit_treas]
@[simp] theorem dispoCount_ledgerAt (p c k : Nat) (s : State) (z : Nat) : (dispoCount p c k s).ledgerAt z = s.ledgerAt z := by simp only [State.ledgerAt, dispoCount_ledger]
@[simp] theorem dispoCount_dispAt (p c k : Nat) (s : State) (z : Nat) : (dispoCount p c k s).dispAt z = s.dispAt z := by simp only [State.dispAt, dispoCount_disp]
@[simp] theorem dispoCount_assayAt (p c k : Nat) (s : State) (z : Nat) : (dispoCount p c k s).assayAt z = s.assayAt z := by simp only [State.assayAt, dispoCount_assay]
@[simp] theorem dispoCount_noseAt (p c k : Nat) (s : State) (z : Nat) : (dispoCount p c k s).noseAt z = s.noseAt z := by simp only [State.noseAt, dispoCount_nose]
@[simp] theorem dispoCount_tellerAt (p c k : Nat) (s : State) (z : Nat) : (dispoCount p c k s).tellerAt z = s.tellerAt z := by simp only [State.tellerAt, dispoCount_tellers]
@[simp] theorem dispoCount_deskAt (p c k : Nat) (s : State) (z : Nat) : (dispoCount p c k s).deskAt z = s.deskAt z := by simp only [State.deskAt, dispoCount_desks]
@[simp] theorem dispoCount_portAt (p c k : Nat) (s : State) (z : Nat) : (dispoCount p c k s).portAt z = s.portAt z := by simp only [State.portAt, dispoCount_ports]
@[simp] theorem dispoCount_portCfgAt (p c k : Nat) (s : State) (z : Nat) : (dispoCount p c k s).portCfgAt z = s.portCfgAt z := by simp only [State.portCfgAt, dispoCount_portCfg]
@[simp] theorem dispoCount_ringAt (p c k : Nat) (s : State) (z : Nat) : (dispoCount p c k s).ringAt z = s.ringAt z := by simp only [State.ringAt, dispoCount_rings]
@[simp] theorem dispoCount_chanAt (p c k : Nat) (s : State) (z : Nat) : (dispoCount p c k s).chanAt z = s.chanAt z := by simp only [State.chanAt, dispoCount_vault]
@[simp] theorem dispoCount_schedAt (p c k : Nat) (s : State) (z : Nat) : (dispoCount p c k s).schedAt z = s.schedAt z := by simp only [State.schedAt, dispoCount_tm]
@[simp] theorem dispoCount_classAt (p c k : Nat) (s : State) (z : Nat) : (dispoCount p c k s).classAt z = s.classAt z := by simp only [State.classAt, dispoCount_tm]
@[simp] theorem dispoCount_userAt (p c k : Nat) (s : State) (z : Nat) : (dispoCount p c k s).userAt z = s.userAt z := by simp only [State.userAt, dispoCount_treas]
@[simp] theorem dispoCount_domAt (p c k : Nat) (s : State) (z : Nat) : (dispoCount p c k s).domAt z = s.domAt z := by simp only [State.domAt, dispoCount_treas]
@[simp] theorem takeFree_ledgerAt (s : State) (z : Nat) : (takeFree s).2.ledgerAt z = s.ledgerAt z := rfl
@[simp] theorem takeFree_dispAt (s : State) (z : Nat) : (takeFree s).2.dispAt z = s.dispAt z := rfl
@[simp] theorem takeFree_assayAt (s : State) (z : Nat) : (takeFree s).2.assayAt z = s.assayAt z := rfl
@[simp] theorem takeFree_noseAt (s : State) (z : Nat) : (takeFree s).2.noseAt z = s.noseAt z := rfl
@[simp] theorem takeFree_tellerAt (s : State) (z : Nat) : (takeFree s).2.tellerAt z = s.tellerAt z := rfl
@[simp] theorem takeFree_deskAt (s : State) (z : Nat) : (takeFree s).2.deskAt z = s.deskAt z := rfl
@[simp] theorem takeFree_portAt (s : State) (z : Nat) : (takeFree s).2.portAt z = s.portAt z := rfl
@[simp] theorem takeFree_portCfgAt (s : State) (z : Nat) : (takeFree s).2.portCfgAt z = s.portCfgAt z := rfl
@[simp] theorem takeFree_ringAt (s : State) (z : Nat) : (takeFree s).2.ringAt z = s.ringAt z := rfl
@[simp] theorem takeFree_chanAt (s : State) (z : Nat) : (takeFree s).2.chanAt z = s.chanAt z := rfl
@[simp] theorem takeFree_schedAt (s : State) (z : Nat) : (takeFree s).2.schedAt z = s.schedAt z := rfl
@[simp] theorem takeFree_classAt (s : State) (z : Nat) : (takeFree s).2.classAt z = s.classAt z := rfl
@[simp] theorem takeFree_userAt (s : State) (z : Nat) : (takeFree s).2.userAt z = s.userAt z := rfl
@[simp] theorem takeFree_domAt (s : State) (z : Nat) : (takeFree s).2.domAt z = s.domAt z := rfl
@[simp] theorem setSched_classAt (s : State) (i : Nat) (x : Sched) (z : Nat) : (s.setSched i x).classAt z = s.classAt z := rfl
@[simp] theorem setClass_schedAt (s : State) (i : Nat) (x : TmClass) (z : Nat) : (s.setClass i x).schedAt z = s.schedAt z := rfl
@[simp] theorem setUser_domAt (s : State) (i : Nat) (x : AllowUser) (z : Nat) : (s.setUser i x).domAt z = s.domAt z := rfl
@[simp] theorem setDom_userAt (s : State) (i : Nat) (x : DomState) (z : Nat) : (s.setDom i x).userAt z = s.userAt z := rfl
@[simp] theorem modSched_classAt (s : State) (i : Nat) (g : Sched → Sched) (z : Nat) : (s.modSched i g).classAt z = s.classAt z := rfl

end Sys2Proof.Machine
end

