-- ==== Sys2Proof/Laws/Regs.lean ====
section
/-!
SUPPORT. What a read of a stored register gives after each of the shared operations, and what a record leaves in the
Sillage.
-/
namespace Sys2Proof.Machine

@[simp] theorem regRead_store_same (o : Nat) (v : Word32) (s : State) : regRead (regStore o v s) o = v := Tbl.get_set_same ..

theorem regRead_store_ne (o p : Nat) (v : Word32) (s : State) (h : o ≠ p) : regRead (regStore o v s) p = regRead s p :=
  Tbl.get_set_ne _ _ _ _ _ _ h

theorem regRead_store (o p : Nat) (v : Word32) (s : State) : regRead (regStore o v s) p = if o = p then v else regRead s p := by
  split
  · subst_vars; exact regRead_store_same ..
  · exact regRead_store_ne _ _ _ _ ‹_›

theorem regRead_setField (o hi lo x p : Nat) (s : State) :
    regRead (setField o hi lo x s) p = if o = p then BitVec.ofNat 32 (setBits (regRead s o).toNat hi lo x) else regRead s p :=
  regRead_store ..

theorem regRead_cause (o i p : Nat) (s : State) :
    regRead (cause o i s) p = if o = p then regRead s o ||| BitVec.ofNat 32 (2 ^ i) else regRead s p := regRead_store ..

theorem regRead_bumpN (o n p : Nat) (s : State) : regRead (bumpN o n s) p =
    if o = p ∧ s.perf.frozen = false then BitVec.ofNat 32 (capAt 0xFFFFFFFF ((regRead s o).toNat + n)) else regRead s p := by
  unfold bumpN
  cases h : s.perf.frozen
  · simp [regRead_store]
  · simp

theorem regRead_bump (o p : Nat) (s : State) : regRead (bump o s) p =
    if o = p ∧ s.perf.frozen = false then BitVec.ofNat 32 (capAt 0xFFFFFFFF ((regRead s o).toNat + 1)) else regRead s p :=
  regRead_bumpN ..

theorem regRead_setField_ne (o hi lo x p : Nat) (s : State) (h : o ≠ p) : regRead (setField o hi lo x s) p = regRead s p :=
  regRead_store_ne _ _ _ _ h

theorem regRead_setPair_ne (o v p : Nat) (s : State) (h : o ≠ p) (h4 : o + 4 ≠ p) : regRead (setPair o v s) p = regRead s p := by
  unfold setPair
  rw [regRead_store_ne _ _ _ _ h4, regRead_store_ne _ _ _ _ h]

theorem regRead_cause_ne (o i p : Nat) (s : State) (h : o ≠ p) : regRead (cause o i s) p = regRead s p := regRead_store_ne _ _ _ _ h

theorem regRead_bumpN_ne (o n p : Nat) (s : State) (h : o ≠ p) : regRead (bumpN o n s) p = regRead s p := by simp [regRead_bumpN, h]

theorem regRead_bump_ne (o p : Nat) (s : State) (h : o ≠ p) : regRead (bump o s) p = regRead s p := regRead_bumpN_ne _ _ _ _ h

theorem regRead_peak_ne (o hi lo v p : Nat) (s : State) (h : o ≠ p) : regRead (peak o hi lo v s) p = regRead s p := by
  unfold peak
  split
  · exact regRead_setField_ne _ _ _ _ _ _ h
  · rfl

theorem regRead_bump64_ne (o n p : Nat) (s : State) (h : o ≠ p) (h4 : o + 4 ≠ p) : regRead (bump64 o n s) p = regRead s p := by
  unfold bump64
  split
  · rfl
  · exact regRead_setPair_ne _ _ _ _ h h4

/-- A raised cause reads as set. -/
theorem flagOf_cause_same (o i : Nat) (s : State) (h : i < 32) : flagOf (cause o i s) o i = true := by
  have h2 : Nat.testBit (2 ^ i) i = true := by simp
  rw [flagOf, regRead_cause, if_pos rfl, BitVec.getLsbD_or, BitVec.getLsbD_ofNat, h2, decide_eq_true h]
  simp

/-- Causes are only added. -/
theorem flagOf_cause_mono (o i p j : Nat) (s : State) (h : flagOf s p j = true) : flagOf (cause o i s) p j = true := by
  unfold flagOf at h ⊢
  rw [regRead_cause]
  split
  · subst_vars; simp [h]
  · exact h

/-- A placed record touches no register but the Sillage's own loss counter and cause register. -/
theorem regRead_emitAt_ne (net src kind q p : Nat) (s : State) (h1 : Reg.SILL_LOST_CNT ≠ p) (h2 : Reg.SILL_IRQ_CAUSE ≠ p) :
    regRead (emitAt net src kind q s) p = regRead s p := by
  unfold emitAt
  dsimp only
  split
  · rfl
  · split
    · rw [regRead_cause_ne _ _ _ _ h2, regRead_bump_ne _ _ _ h1]; rfl
    · split
      · rw [regRead_cause_ne _ _ _ _ h2]; rfl
      · rfl

theorem regRead_emit_ne (src kind q p : Nat) (s : State) (h1 : Reg.SILL_LOST_CNT ≠ p) (h2 : Reg.SILL_IRQ_CAUSE ≠ p) :
    regRead (emit src kind q s) p = regRead s p := regRead_emitAt_ne _ _ _ _ _ _ h1 h2

theorem bits_setBits_same (v hi lo x : Nat) (h : lo ≤ hi) : bits (setBits v hi lo x) hi lo = x % 2 ^ (hi + 1 - lo) := by
  unfold bits setBits bits
  simp only [Nat.shiftRight_eq_div_pow]
  generalize hn : hi + 1 - lo = n
  have hp : 0 < 2 ^ lo := Nat.two_pow_pos lo
  have hq : 0 < 2 ^ n := Nat.two_pow_pos n
  have hx : x % 2 ^ n < 2 ^ n := Nat.mod_lt _ hq
  have h1 : v = 2 ^ lo * (v / 2 ^ lo) + v % 2 ^ lo := (Nat.div_add_mod v (2 ^ lo)).symm
  have h2 : v / 2 ^ lo = 2 ^ n * (v / 2 ^ lo / 2 ^ n) + v / 2 ^ lo % 2 ^ n := (Nat.div_add_mod _ _).symm
  have hr : v % 2 ^ lo < 2 ^ lo := Nat.mod_lt _ hp
  generalize v / 2 ^ lo / 2 ^ n = a at h2
  generalize v / 2 ^ lo % 2 ^ n = b at h2 ⊢
  generalize v % 2 ^ lo = r at h1 hr
  generalize x % 2 ^ n = y at hx ⊢
  rw [h2] at h1
  have e : v - b * 2 ^ lo + y * 2 ^ lo = 2 ^ lo * (2 ^ n * a + y) + r := by
    rw [h1, Nat.mul_add, Nat.mul_comm b, Nat.mul_comm y]
    have := Nat.mul_add (2 ^ lo) (2 ^ n * a) y
    omega
  rw [e, Nat.mul_add_div hp, Nat.div_eq_of_lt hr, Nat.add_zero, Nat.mul_add_mod, Nat.mod_eq_of_lt hx]

theorem setBits_lt (v hi lo x : Nat) (h : lo ≤ hi) (hw : hi < 32) (hv : v < 2 ^ 32) : setBits v hi lo x < 2 ^ 32 := by
  unfold setBits bits
  simp only [Nat.shiftRight_eq_div_pow]
  have hn : hi + 1 - lo + lo = hi + 1 := by omega
  generalize hi + 1 - lo = n at hn ⊢
  have hp : 0 < 2 ^ lo := Nat.two_pow_pos lo
  have hq : 0 < 2 ^ n := Nat.two_pow_pos n
  have hx : x % 2 ^ n < 2 ^ n := Nat.mod_lt _ hq
  have hr : v % 2 ^ lo < 2 ^ lo := Nat.mod_lt _ hp
  have h1 : v = 2 ^ lo * (v / 2 ^ lo) + v % 2 ^ lo := (Nat.div_add_mod v (2 ^ lo)).symm
  have h2 : v / 2 ^ lo = 2 ^ n * (v / 2 ^ lo / 2 ^ n) + v / 2 ^ lo % 2 ^ n := (Nat.div_add_mod _ _).symm
  have hb : v / 2 ^ lo % 2 ^ n < 2 ^ n := Nat.mod_lt _ hq
  have h32 : 2 ^ 32 = 2 ^ (lo + n) * 2 ^ (32 - (lo + n)) := by rw [← Nat.pow_add]; congr 1; omega
  generalize 32 - (lo + n) = k at h32
  rw [Nat.pow_add] at h32
  have ha : v / 2 ^ lo / 2 ^ n < 2 ^ k := by
    rw [Nat.div_div_eq_div_mul, Nat.div_lt_iff_lt_mul (Nat.mul_pos hp hq), Nat.mul_comm (2 ^ k)]
    omega
  generalize v / 2 ^ lo / 2 ^ n = a at h2 ha
  generalize v / 2 ^ lo % 2 ^ n = b at h2 hb ⊢
  generalize v % 2 ^ lo = r at h1 hr
  generalize x % 2 ^ n = y at hx ⊢
  rw [h2] at h1
  have e : v - b * 2 ^ lo + y * 2 ^ lo = 2 ^ lo * (2 ^ n * a + y) + r := by
    rw [h1, Nat.mul_add, Nat.mul_comm b, Nat.mul_comm y]
    have := Nat.mul_add (2 ^ lo) (2 ^ n * a) y
    omega
  rw [e, h32]
  have h3 : 2 ^ n * a + y + 1 ≤ 2 ^ n * 2 ^ k := by
    have : 2 ^ n * (a + 1) ≤ 2 ^ n * 2 ^ k := Nat.mul_le_mul_left _ ha
    have := Nat.mul_add (2 ^ n) a 1
    omega
  have h4 : 2 ^ lo * (2 ^ n * a + y + 1) ≤ 2 ^ lo * (2 ^ n * 2 ^ k) := Nat.mul_le_mul_left _ h3
  have h5 := Nat.mul_add (2 ^ lo) (2 ^ n * a + y) 1
  have h6 := Nat.mul_assoc (2 ^ lo) (2 ^ n) (2 ^ k)
  omega

/-- A written field reads as written. -/
theorem fieldOf_setField_same (o hi lo x : Nat) (s : State) (h : lo ≤ hi) (hw : hi < 32) :
    fieldOf (setField o hi lo x s) o hi lo = x % 2 ^ (hi + 1 - lo) := by
  have := setBits_lt (regRead s o).toNat hi lo x h hw (regRead s o).isLt
  simp only [fieldOf, regRead_setField, if_true, BitVec.toNat_ofNat, Nat.mod_eq_of_lt this, bits_setBits_same _ _ _ _ h]

end Sys2Proof.Machine
end

