-- ==== Sys2Proof/Laws/Scans.lean ====
section
/-!
SUPPORT. What frames, resumed flows, results and new items leave alone in the scan engines.
-/
set_option linter.all false
namespace Sys2Proof.Machine

theorem State.scans_mk (pending : List Instr) (free : Nat) (regs : Tbl Word32) (dispo : Tbl Nat) (time : TimeBase) (sill : Sillage) (msix : Msix) (perf : Perf) (treas : Treasury) (fuses : Fuses) (sec : SecEngine) (pins : Pins) (loader : Loader) (pcie : Pcie) (coffer : Coffer) (rings : Tbl Ring) (out : Outputs) (lastBatch : Nat) (ports : Tbl Port) (portCfg : Tbl PortCfg) (lanes : Tbl Lane) (laneInv : Tbl Nat) (laneTaps : Tbl Nat) (teth : Tether) (swc : SwitchCore) (tm : TrafficMgr) (templates : Bytes) (assay : Tbl Assayer) (sieve : Sieve) (accord : Accord) (ledger : Tbl Ledger) (disp : Tbl Disp) (tellers : Tbl Teller) (desks : Tbl Desk) (nose : Tbl Nose) (automata : NoseAutomata) (vault : Vault) (audit : Auditor) :
    State.scans ⟨pending, free, regs, dispo, time, sill, msix, perf, treas, fuses, sec, pins, loader, pcie, coffer, rings, out, lastBatch, ports, portCfg, lanes, laneInv, laneTaps, teth, swc, tm, templates, assay, sieve, accord, ledger, disp, tellers, desks, nose, automata, vault, audit⟩ = (nose, automata) := (rfl)

theorem State.scans_fold (s : State) :
    (s.nose, s.automata) = s.scans := (rfl)

theorem State.scans_foldl {α : Type} (f : State → α → State) (h : ∀ s x, (f s x).scans = s.scans) (l : List α) (s : State) :
    (l.foldl f s).scans = s.scans := by
  induction l generalizing s with
  | nil => rfl
  | cons x xs ih => rw [List.foldl_cons, ih, h]

theorem State.scans_foldl2 {α β : Type} (f : β × State → α → β × State) (h : ∀ a x, (f a x).2.scans = a.2.scans) (l : List α)
    (a : β × State) : (l.foldl f a).2.scans = a.2.scans := by
  induction l generalizing a with
  | nil => rfl
  | cons x xs ih => rw [List.foldl_cons, ih, h]

theorem State.scans_foldl3 {α β γ : Type} (f : β × γ × State → α → β × γ × State) (h : ∀ a x, (f a x).2.2.scans = a.2.2.scans)
    (l : List α) (a : β × γ × State) : (l.foldl f a).2.2.scans = a.2.2.scans := by
  induction l generalizing a with
  | nil => rfl
  | cons x xs ih => rw [List.foldl_cons, ih, h]

theorem State.scans_getD {o : Option State} {s d : State} (h : ∀ t, o = some t → t.scans = s.scans) (hd : d.scans = s.scans) :
    (o.getD d).scans = s.scans := by
  cases o with
  | none => exact hd
  | some t => exact h t rfl

theorem gated_scans (f : State → State) (s : State) (h : ∀ s, (f s).scans = s.scans) : (gated f s).scans = s.scans := by
  unfold gated; split
  · exact h s
  · rfl

/-! ### State -/


/-! ### Ops -/

theorem State.setLedger_scans (s : State) (b : Nat) (l : Ledger) : (State.setLedger s b l).scans = s.scans := by
  rfl

theorem State.setDisp_scans (s : State) (b : Nat) (d : Disp) : (State.setDisp s b d).scans = s.scans := by
  rfl

theorem State.setTeller_scans (s : State) (t : Nat) (x : Teller) : (State.setTeller s t x).scans = s.scans := by
  rfl

theorem State.setChan_scans (s : State) (c : Nat) (x : VaultCh) : (State.setChan s c x).scans = s.scans := by
  rfl

theorem State.setSched_scans (s : State) (k : Nat) (x : Sched) : (State.setSched s k x).scans = s.scans := by
  rfl

theorem State.modLedger_scans (s : State) (b : Nat) (f : Ledger → Ledger) : (State.modLedger s b f).scans = s.scans := by
  unfold State.modLedger
  simp only [State.setLedger_scans]

theorem State.modDisp_scans (s : State) (b : Nat) (f : Disp → Disp) : (State.modDisp s b f).scans = s.scans := by
  unfold State.modDisp
  simp only [State.setDisp_scans]

theorem State.modTeller_scans (s : State) (t : Nat) (f : Teller → Teller) : (State.modTeller s t f).scans = s.scans := by
  unfold State.modTeller
  simp only [State.setTeller_scans]

theorem State.modChan_scans (s : State) (c : Nat) (f : VaultCh → VaultCh) : (State.modChan s c f).scans = s.scans := by
  unfold State.modChan
  simp only [State.setChan_scans]

theorem State.modSched_scans (s : State) (k : Nat) (f : Sched → Sched) : (State.modSched s k f).scans = s.scans := by
  unfold State.modSched
  simp only [State.setSched_scans]

theorem regStore_scans (off : Nat) (v : Word32) (s : State) : (regStore off v s).scans = s.scans := by
  rfl

theorem setField_scans (off hi lo x : Nat) (s : State) : (setField off hi lo x s).scans = s.scans := by
  unfold setField
  simp only [regStore_scans]

theorem setPair_scans (off v : Nat) (s : State) : (setPair off v s).scans = s.scans := by
  unfold setPair
  simp only [regStore_scans]

theorem bumpN_scans (off n : Nat) (s : State) : (bumpN off n s).scans = s.scans := by
  unfold bumpN
  simp only [State.scans_mk, State.scans_fold, apply_ite State.scans, ite_self, regStore_scans]

theorem bump_scans (off : Nat) (s : State) : (bump off s).scans = s.scans := by
  unfold bump
  simp only [bumpN_scans]

theorem tally_scans (off : Nat) (s : State) : (tally off s).scans = s.scans := by
  unfold tally
  simp only [regStore_scans]

theorem bump64_scans (off n : Nat) (s : State) : (bump64 off n s).scans = s.scans := by
  unfold bump64
  simp only [State.scans_mk, State.scans_fold, apply_ite State.scans, ite_self, setPair_scans]

theorem peak_scans (off hi lo v : Nat) (s : State) : (peak off hi lo v s).scans = s.scans := by
  unfold peak
  simp only [State.scans_mk, State.scans_fold, apply_ite State.scans, ite_self, setField_scans]

theorem cause_scans (off i : Nat) (s : State) : (cause off i s).scans = s.scans := by
  unfold cause
  simp only [regStore_scans]

theorem stampAt_scans (secOff nsOff net : Nat) (s : State) : (stampAt secOff nsOff net s).scans = s.scans := by
  unfold stampAt
  simp only [regStore_scans]

theorem stamp_scans (secOff nsOff : Nat) (s : State) : (stamp secOff nsOff s).scans = s.scans := by
  unfold stamp
  simp only [stampAt_scans]

theorem emitAt_scans (net src kind payload : Nat) (s : State) : (emitAt net src kind payload s).scans = s.scans := by
  unfold emitAt
  simp only [State.scans_mk, State.scans_fold, apply_ite State.scans, ite_self, bump_scans, cause_scans]

theorem emit_scans (src kind payload : Nat) (s : State) : (emit src kind payload s).scans = s.scans := by
  unfold emit
  simp only [emitAt_scans]

theorem perfCount_scans (u k n : Nat) (s : State) : (perfCount u k n s).scans = s.scans := by
  unfold perfCount
  simp only [State.scans_mk, State.scans_fold, apply_ite State.scans, ite_self, setPair_scans, cause_scans]

theorem perfN_scans (u code n : Nat) (s : State) : (perfN u code n s).scans = s.scans := by
  unfold perfN
  simp only [State.scans_foldl, implies_true, State.scans_mk, State.scans_fold, apply_ite State.scans, ite_self, perfCount_scans]

theorem perf_scans (u code : Nat) (s : State) : (perf u code s).scans = s.scans := by
  unfold perf
  simp only [perfN_scans]

/-! ### Time -/

theorem bumpField_scans (off hi lo : Nat) (s : State) : (bumpField off hi lo s).scans = s.scans := by
  unfold bumpField
  simp only [State.scans_mk, State.scans_fold, apply_ite State.scans, ite_self, setField_scans]

/-! ### Perf -/

theorem winCount_scans (p len : Nat) (tx : Bool) (s : State) : (winCount p len tx s).scans = s.scans := by
  unfold winCount
  simp only [State.scans_mk, State.scans_fold, apply_ite State.scans, ite_self, perf_scans]

/-! ### FlowCtl -/

theorem emitFc_scans (p : Nat) (f : Bytes) (s : State) : (emitFc p f s).scans = s.scans := by
  unfold emitFc
  simp only [State.scans_foldl, implies_true, State.scans_mk, State.scans_fold, apply_ite State.scans, ite_self, perf_scans, bumpField_scans, winCount_scans]

theorem sendFc_scans (p : Nat) (f : Bytes) (s : State) : (sendFc p f s).scans = s.scans := by
  unfold sendFc
  simp only [State.scans_foldl, implies_true, State.scans_mk, State.scans_fold, apply_ite State.scans, ite_self, State.modSched_scans, emitFc_scans]

theorem sendX_scans (p q : Nat) (off : Bool) (s : State) : (sendX p q off s).scans = s.scans := by
  unfold sendX
  simp only [State.scans_mk, State.scans_fold, apply_ite State.scans, ite_self, sendFc_scans]

theorem fcClass_scans (p q : Nat) (s : State) : (fcClass p q s).scans = s.scans := by
  unfold fcClass
  simp only [State.scans_mk, State.scans_fold, apply_ite State.scans, ite_self, State.setSched_scans, sendX_scans]

theorem fcUpdate_scans (p : Nat) (s : State) : (fcUpdate p s).scans = s.scans := by
  unfold fcUpdate
  simp only [State.scans_foldl, implies_true, State.scans_mk, State.scans_fold, apply_ite State.scans, ite_self, State.modSched_scans, fcClass_scans]

/-! ### Vault -/

theorem noteVaultOp_scans (c : Nat) (k : VClass) (s : State) : (noteVaultOp c k s).scans = s.scans := by
  unfold noteVaultOp
  simp only [State.scans_foldl, implies_true, State.scans_mk, State.scans_fold, apply_ite State.scans, ite_self, State.modChan_scans, perf_scans]

theorem chanWrite_scans (rank u b : Nat) (k : VClass) (s : State) : (chanWrite rank u b k s).scans = s.scans := by
  unfold chanWrite
  simp only [State.modChan_scans, bump64_scans, perf_scans, noteVaultOp_scans]

theorem countWrite_scans (a : Nat) (b : Nat) (k : VClass) (s : State) : (countWrite a b k s).scans = s.scans := by
  unfold countWrite
  simp only [State.scans_foldl, implies_true, State.scans_mk, State.scans_fold, apply_ite State.scans, ite_self, bump64_scans, chanWrite_scans]

theorem setOcc_scans (b n : Nat) (s : State) : (setOcc b n s).scans = s.scans := by
  unfold setOcc
  simp only [State.scans_mk, State.scans_fold, apply_ite State.scans, ite_self, State.modLedger_scans, cause_scans]

theorem occStep_scans (slot : Nat) (f : State → State) (s : State) (h : ∀ s, (f s).scans = s.scans) : (occStep slot f s).scans = s.scans := by
  unfold occStep
  dsimp only
  split <;> simp only [setOcc_scans, h]

theorem storeCell_scans (a : Nat) (cell : VCell) (s : State) : (storeCell a cell s).scans = s.scans := by
  unfold storeCell
  simp only [State.scans_foldl, implies_true, State.scans_mk, State.scans_fold, apply_ite State.scans, ite_self, State.modChan_scans]

theorem storeRecord_scans (a : Nat) (cell : VCell) (s : State) : (storeRecord a cell s).scans = s.scans := by
  unfold storeRecord
  repeat' first
    | with_reducible rfl
    | (simp only [State.scans_foldl, implies_true, State.scans_mk, State.scans_fold, apply_ite State.scans, apply_ite Prod.snd, ite_self, occStep_scans, storeCell_scans]; done)
    | split
    | dsimp only

theorem writeRecord_scans (a b : Nat) (k : VClass) (r : Rec) (s : State) : (writeRecord a b k r s).scans = s.scans := by
  unfold writeRecord
  simp only [countWrite_scans, storeRecord_scans]

theorem logUe_scans (info addr : Nat) (s : State) : (logUe info addr s).scans = s.scans := by
  unfold logUe
  simp only [regStore_scans, setPair_scans, stamp_scans]

/-! ### Egress -/

theorem setFrame_scans (f : Nat) (x : Frame) (s : State) : (setFrame f x s).scans = s.scans := by
  rfl

theorem dropFrame_scans (f : Nat) (s : State) : (dropFrame f s).scans = s.scans := by
  rfl

theorem release_scans (f : Nat) (s : State) : (release f s).scans = s.scans := by
  unfold release
  repeat' first
    | with_reducible rfl
    | (simp only [State.scans_mk, State.scans_fold, apply_ite State.scans, ite_self, perf_scans, fcUpdate_scans, setFrame_scans, dropFrame_scans]; done)
    | split
    | dsimp only

/-! ### Items -/

theorem notePeak_scans (b : Nat) (s : State) : (notePeak b s).scans = s.scans := by
  unfold notePeak
  simp only [peak_scans]

theorem trace_scans (b k : Nat) (i : Item) (teller : Nat) (pref : Option Nat) (s : State) : (trace b k i teller pref s).scans = s.scans := by
  unfold trace
  simp only [State.scans_mk, State.scans_fold, apply_ite State.scans, ite_self, State.modDisp_scans, emit_scans]

theorem addItem_scans (b : Nat) (i : Item) (s : State) : (addItem b i s).scans = s.scans := by
  unfold addItem
  repeat' first
    | with_reducible rfl
    | (simp only [State.scans_foldl, implies_true, State.scans_mk, State.scans_fold, apply_ite State.scans, apply_ite Prod.snd, ite_self, State.setDisp_scans, notePeak_scans]; done)
    | split
    | dsimp only

theorem offerMaint_scans (b routine : Nat) (kind : ItemFor) (hash arg : Word64) (s : State) : (offerMaint b routine kind hash arg s).2.scans = s.scans := by
  unfold offerMaint
  repeat' first
    | with_reducible rfl
    | (simp only [State.scans_mk, State.scans_fold, apply_ite State.scans, ite_self, trace_scans, addItem_scans]; done)
    | split
    | dsimp only

theorem offerMaint_scans' {b routine : Nat} {kind : ItemFor} {hash arg : Word64} {s : State} {x' : _} {r' : State} (h' : offerMaint b routine kind hash arg s = (x', r')) : r'.scans = s.scans := by
  have k' := offerMaint_scans b routine kind hash arg s
  rw [h'] at k'
  exact k'

theorem setCofferWord_scans (i : Nat) (v : Word64) (s : State) : (setCofferWord i v s).scans = s.scans := by
  rfl

theorem exportItem_scans (b : Nat) (n : Snapshot) (s : State) : (exportItem b n s).2.scans = s.scans := by
  unfold exportItem
  repeat' first
    | with_reducible rfl
    | (simp only [State.scans_mk, State.scans_fold, apply_ite State.scans, ite_self, offerMaint_scans]; done)
    | split
    | dsimp only

theorem exportItem_scans' {b : Nat} {n : Snapshot} {s : State} {x' : _} {r' : State} (h' : exportItem b n s = (x', r')) : r'.scans = s.scans := by
  have k' := exportItem_scans b n s
  rw [h'] at k'
  exact k'

theorem storeSnapshot_scans (i : Nat) (rc : Rec) (s : State) : (storeSnapshot i rc s).scans = s.scans := by
  unfold storeSnapshot
  simp only [State.scans_foldl, implies_true, apply_ite State.scans, ite_self, cause_scans, setCofferWord_scans]

theorem exportRecord_scans (b : Nat) (hash : Word64) (r : Rec) (expired : Bool) (s : State) : (exportRecord b hash r expired s).scans = s.scans := by
  unfold exportRecord
  simp only [State.scans_foldl, implies_true, State.scans_mk, State.scans_fold, apply_ite State.scans, ite_self, State.modLedger_scans, bump_scans, emit_scans, storeSnapshot_scans, exportItem_scans]

theorem exportOnClose_scans (b : Nat) (hash : Word64) (r : Rec) (expired : Bool) (s : State) : (exportOnClose b hash r expired s).scans = s.scans := by
  unfold exportOnClose
  simp only [State.scans_mk, State.scans_fold, apply_ite State.scans, ite_self, exportRecord_scans]

theorem mirrorSend_scans (b type : Nat) (hash : Word64) (r : Rec) (s : State) : (mirrorSend b type hash r s).scans = s.scans := by
  unfold mirrorSend
  simp only [State.scans_mk, State.scans_fold, apply_ite State.scans, ite_self, bump_scans, cause_scans, emit_scans]

theorem mirrorEvent_scans (b e : Nat) (hash : Word64) (r : Rec) (s : State) : (mirrorEvent b e hash r s).2.scans = s.scans := by
  unfold mirrorEvent
  split <;> simp only [State.scans_mk, State.scans_fold, mirrorSend_scans]

theorem mirrorEvent_scans' {b e : Nat} {hash : Word64} {r : Rec} {s : State} {x' : _} {r' : State} (h' : mirrorEvent b e hash r s = (x', r')) : r'.scans = s.scans := by
  have k' := mirrorEvent_scans b e hash r s
  rw [h'] at k'
  exact k'

/-! ### Till -/

theorem setWay_scans (b k : Nat) (w : Way) (s : State) : (setWay b k w s).scans = s.scans := by
  unfold setWay
  simp only [State.modLedger_scans]

theorem modWay_scans (b k : Nat) (f : Way → Way) (s : State) : (modWay b k f s).scans = s.scans := by
  unfold modWay
  split <;> simp only [State.scans_mk, State.scans_fold, setWay_scans]

theorem touchWay_scans (b k : Nat) (s : State) : (touchWay b k s).scans = s.scans := by
  unfold touchWay
  simp only [State.modLedger_scans]

theorem unclaim_scans (b k : Nat) (s : State) : (unclaim b k s).scans = s.scans := by
  unfold unclaim
  repeat' first
    | with_reducible rfl
    | (simp only [State.scans_foldl, implies_true, State.scans_mk, State.scans_fold, apply_ite State.scans, apply_ite Prod.snd, ite_self, occStep_scans, modWay_scans]; done)
    | split
    | dsimp only

theorem unflush_scans (b k : Nat) (s : State) : (unflush b k s).scans = s.scans := by
  unfold unflush
  simp only [State.modLedger_scans]

theorem writeBack_scans (b k : Nat) (s : State) : (writeBack b k s).scans = s.scans := by
  unfold writeBack
  repeat' first
    | with_reducible rfl
    | (simp only [State.scans_mk, State.scans_fold, apply_ite State.scans, ite_self, bump_scans, perf_scans, countWrite_scans, storeRecord_scans, modWay_scans, unclaim_scans, unflush_scans]; done)
    | split
    | dsimp only

theorem pinWay_scans (b k : Nat) (s : State) : (pinWay b k s).scans = s.scans := by
  unfold pinWay
  repeat' first
    | with_reducible rfl
    | (simp only [State.scans_mk, State.scans_fold, apply_ite State.scans, ite_self, bump_scans, cause_scans, setWay_scans]; done)
    | split
    | dsimp only

theorem closeWay_scans (b k : Nat) (expired applied : Bool) (s : State) : (closeWay b k expired applied s).scans = s.scans := by
  unfold closeWay
  repeat' first
    | with_reducible rfl
    | (simp only [State.scans_mk, State.scans_fold, apply_ite State.scans, ite_self, bump_scans, exportOnClose_scans, mirrorEvent_scans, setWay_scans, modWay_scans]; done)
    | split
    | dsimp only

theorem noteState_scans (b : Nat) (hash : Word64) (r : Rec) (s : State) : (noteState b hash r s).scans = s.scans := by
  unfold noteState
  simp only [State.scans_mk, State.scans_fold, apply_ite State.scans, ite_self, cause_scans, emit_scans]

theorem closeSlot_scans (b slot : Nat) (r : Rec) (k : VClass) (s : State) : (closeSlot b slot r k s).scans = s.scans := by
  unfold closeSlot
  simp only [bump_scans, writeRecord_scans, exportOnClose_scans, mirrorEvent_scans]

theorem putWay_scans (b k : Nat) (f : Fill) (s : State) : (putWay b k f s).scans = s.scans := by
  unfold putWay
  simp only [State.modLedger_scans, setWay_scans, touchWay_scans, pinWay_scans]

/-! ### Slots -/

theorem leaveSlot_scans (b k t : Nat) (s : State) : (leaveSlot b k t s).scans = s.scans := by
  unfold leaveSlot
  repeat' first
    | with_reducible rfl
    | (simp only [State.scans_mk, State.scans_fold, apply_ite State.scans, ite_self, modWay_scans, closeWay_scans]; done)
    | split
    | dsimp only

theorem vacate_scans (b slot t : Nat) (v : VClass) (s : State) : (vacate b slot t v s).scans = s.scans := by
  unfold vacate
  repeat' first
    | with_reducible rfl
    | (simp only [State.scans_foldl, implies_true, State.scans_mk, State.scans_fold, apply_ite State.scans, apply_ite Prod.snd, ite_self, closeSlot_scans, leaveSlot_scans]; done)
    | split
    | dsimp only

theorem placeSlot_scans (b : Nat) (hash : Word64) (key : Ckey) (t : Nat) (v : VClass) (s : State) : (placeSlot b hash key t v s).2.scans = s.scans := by
  unfold placeSlot
  repeat' first
    | with_reducible rfl
    | (simp only [State.scans_mk, State.scans_fold, apply_ite State.scans, ite_self, vacate_scans]; done)
    | split
    | dsimp only

theorem placeSlot_scans' {b : Nat} {hash : Word64} {key : Ckey} {t : Nat} {v : VClass} {s : State} {x' : _} {r' : State} (h' : placeSlot b hash key t v s = (x', r')) : r'.scans = s.scans := by
  have k' := placeSlot_scans b hash key t v s
  rw [h'] at k'
  exact k'

theorem reuseSlot_scans (b k : Nat) (w : Way) (t : Nat) (v : VClass) (s : State) : (reuseSlot b k w t v s).2.scans = s.scans := by
  unfold reuseSlot
  repeat' first
    | with_reducible rfl
    | (simp only [State.scans_foldl, implies_true, State.scans_mk, State.scans_fold, apply_ite State.scans, apply_ite Prod.snd, ite_self, leaveSlot_scans, placeSlot_scans]; done)
    | split
    | dsimp only

theorem reuseSlot_scans' {b k : Nat} {w : Way} {t : Nat} {v : VClass} {s : State} {x' : _} {r' : State} (h' : reuseSlot b k w t v s = (x', r')) : r'.scans = s.scans := by
  have k' := reuseSlot_scans b k w t v s
  rw [h'] at k'
  exact k'

theorem newClaim_scans (b : Nat) (s : State) : (newClaim b s).2.scans = s.scans := by
  unfold newClaim
  repeat' first
    | with_reducible rfl
    | (simp only [State.scans_mk, State.scans_fold, apply_ite State.scans, ite_self, State.modLedger_scans, bump_scans, cause_scans, writeBack_scans]; done)
    | split
    | dsimp only

theorem newClaim_scans' {b : Nat} {s : State} {x' : _} {r' : State} (h' : newClaim b s = (x', r')) : r'.scans = s.scans := by
  have k' := newClaim_scans b s
  rw [h'] at k'
  exact k'

/-! ### Errors -/

theorem sramEvent_scans (mem branch addr : Nat) (e : EccResult) (s : State) : (sramEvent mem branch addr e s).scans = s.scans := by
  unfold sramEvent
  split <;> simp only [State.scans_mk, State.scans_fold, tally_scans, cause_scans, emit_scans, logUe_scans]

/-! ### Ledger -/

theorem claimFor_scans (b : Nat) (w : Way) (s : State) : (claimFor b w s).2.scans = s.scans := by
  unfold claimFor
  split <;> simp only [State.scans_mk, State.scans_fold, newClaim_scans]

theorem claimFor_scans' {b : Nat} {w : Way} {s : State} {x' : _} {r' : State} (h' : claimFor b w s = (x', r')) : r'.scans = s.scans := by
  have k' := claimFor_scans b w s
  rw [h'] at k'
  exact k'

theorem renewWay_scans (b k : Nat) (w : Way) (rc : Rec) (t : Nat) (v : VClass) (s : State) : (renewWay b k w rc t v s).scans = s.scans := by
  unfold renewWay
  repeat' first
    | with_reducible rfl
    | (simp only [implies_true, State.scans_foldl2, State.scans_foldl3, Decision.state_ite, Decision.state_done, Decision.state_full, Decision.state_noroom, ScanIssue.state_ite, ScanIssue.state_done, ScanIssue.state_wait, State.scans_mk, State.scans_fold, State.scans_foldl, apply_ite State.scans, apply_ite Prod.snd, apply_ite EntryStep.state, EntryStep.state_served, EntryStep.state_searched, EntryStep.state_refused, EntryStep.state_wait, EntryStep.state_hold, ite_self, occStep_scans, putWay_scans, reuseSlot_scans, claimFor_scans]; done)
    | split
    | dsimp only
    | ((try have h0 := reuseSlot_scans' ‹_›; try have h1 := claimFor_scans' ‹_›); simp only [implies_true, State.scans_foldl2, State.scans_foldl3, Decision.state_ite, Decision.state_done, Decision.state_full, Decision.state_noroom, ScanIssue.state_ite, ScanIssue.state_done, ScanIssue.state_wait, State.scans_mk, State.scans_fold, State.scans_foldl, apply_ite State.scans, apply_ite Prod.snd, apply_ite EntryStep.state, EntryStep.state_served, EntryStep.state_searched, EntryStep.state_refused, EntryStep.state_wait, EntryStep.state_hold, ite_self, occStep_scans, putWay_scans, reuseSlot_scans, claimFor_scans, *]; done)

theorem hostDone_scans (b : Nat) (a : HostAnswer) (s : State) : (hostDone b a s).scans = s.scans := by
  unfold hostDone
  simp only [State.modLedger_scans]

theorem hostWay_scans (b k result where_ : Nat) (data : Bool) (s : State) : (hostWay b k result where_ data s).scans = s.scans := by
  unfold hostWay
  split <;> simp only [State.scans_mk, State.scans_fold, hostDone_scans]

theorem hostWrite_scans (b k where_ : Nat) (s : State) : (hostWrite b k where_ s).scans = s.scans := by
  unfold hostWrite
  repeat' first
    | with_reducible rfl
    | (simp only [State.scans_mk, State.scans_fold, apply_ite State.scans, ite_self, State.modLedger_scans, setWay_scans, pinWay_scans, closeWay_scans, hostWay_scans]; done)
    | split
    | dsimp only

theorem hostOnTill_scans (b k where_ : Nat) (s : State) : (hostOnTill b k where_ s).scans = s.scans := by
  unfold hostOnTill
  repeat' first
    | with_reducible rfl
    | (simp only [State.scans_foldl, implies_true, State.scans_mk, State.scans_fold, apply_ite State.scans, apply_ite Prod.snd, ite_self, writeBack_scans, closeWay_scans, noteState_scans, renewWay_scans, hostDone_scans, hostWay_scans, hostWrite_scans]; done)
    | split
    | dsimp only

theorem hostResume_scans (b k : Nat) (s : State) : (hostResume b k s).scans = s.scans := by
  unfold hostResume
  simp only [State.scans_mk, State.scans_fold, apply_ite State.scans, ite_self, hostOnTill_scans]

/-! ### Nose -/

theorem putW14_scans (b k : Nat) (v : Word64) (s : State) : (putW14 b k v s).scans = s.scans := by
  unfold putW14
  simp only [modWay_scans]

theorem setGap_scans (b k : Nat) (s : State) : (setGap b k s).scans = s.scans := by
  unfold setGap
  split <;> simp only [State.scans_mk, State.scans_fold, putW14_scans]

theorem giveResult_scans (q : ScanReq) (w : Word64) (s : State) : (giveResult q w s).scans = s.scans := by
  unfold giveResult
  simp only [State.modTeller_scans]

theorem groupResult_scans (v : Word32) (r : Nat) (s : State) : (groupResult v r s).scans = s.scans := by
  unfold groupResult
  simp only [setField_scans]

theorem noteGroup_scans (g : Nat) (validated : Bool) (s : State) : (noteGroup g validated s).scans = s.scans := by
  unfold noteGroup
  simp only [cause_scans, stamp_scans, emit_scans]

/-! ### The commands -/


end Sys2Proof.Machine
end

