-- ==== Sys2Proof/Laws/Traffic.lean ====
section
/-!
SUPPORT. What the commands of the control plane leave alone in the packet path: for each operation one lemma, and for each command one.
-/
set_option linter.all false
namespace Sys2Proof.Machine

theorem State.traffic_mk (pending : List Instr) (free : Nat) (regs : Tbl Word32) (dispo : Tbl Nat) (time : TimeBase) (sill : Sillage) (msix : Msix) (perf : Perf) (treas : Treasury) (fuses : Fuses) (sec : SecEngine) (pins : Pins) (loader : Loader) (pcie : Pcie) (coffer : Coffer) (rings : Tbl Ring) (out : Outputs) (lastBatch : Nat) (ports : Tbl Port) (portCfg : Tbl PortCfg) (lanes : Tbl Lane) (laneInv : Tbl Nat) (laneTaps : Tbl Nat) (teth : Tether) (swc : SwitchCore) (tm : TrafficMgr) (templates : Bytes) (assay : Tbl Assayer) (sieve : Sieve) (accord : Accord) (ledger : Tbl Ledger) (disp : Tbl Disp) (tellers : Tbl Teller) (desks : Tbl Desk) (nose : Tbl Nose) (automata : NoseAutomata) (vault : Vault) (audit : Auditor) :
    State.traffic ⟨pending, free, regs, dispo, time, sill, msix, perf, treas, fuses, sec, pins, loader, pcie, coffer, rings, out, lastBatch, ports, portCfg, lanes, laneInv, laneTaps, teth, swc, tm, templates, assay, sieve, accord, ledger, disp, tellers, desks, nose, automata, vault, audit⟩ = (dispo, ports, lanes, swc, tm, assay, ledger, disp, tellers, desks, nose, vault) := (rfl)

theorem State.traffic_fold (s : State) :
    (s.dispo, s.ports, s.lanes, s.swc, s.tm, s.assay, s.ledger, s.disp, s.tellers, s.desks, s.nose, s.vault) = s.traffic := (rfl)

theorem State.traffic_foldl {α : Type} (f : State → α → State) (h : ∀ s x, (f s x).traffic = s.traffic) (l : List α) (s : State) :
    (l.foldl f s).traffic = s.traffic := by
  induction l generalizing s with
  | nil => rfl
  | cons x xs ih => rw [List.foldl_cons, ih, h]

theorem State.traffic_foldl2 {α β : Type} (f : β × State → α → β × State) (h : ∀ a x, (f a x).2.traffic = a.2.traffic) (l : List α)
    (a : β × State) : (l.foldl f a).2.traffic = a.2.traffic := by
  induction l generalizing a with
  | nil => rfl
  | cons x xs ih => rw [List.foldl_cons, ih, h]

theorem State.traffic_foldl3 {α β γ : Type} (f : β × γ × State → α → β × γ × State) (h : ∀ a x, (f a x).2.2.traffic = a.2.2.traffic)
    (l : List α) (a : β × γ × State) : (l.foldl f a).2.2.traffic = a.2.2.traffic := by
  induction l generalizing a with
  | nil => rfl
  | cons x xs ih => rw [List.foldl_cons, ih, h]

theorem State.traffic_getD {o : Option State} {s d : State} (h : ∀ t, o = some t → t.traffic = s.traffic) (hd : d.traffic = s.traffic) :
    (o.getD d).traffic = s.traffic := by
  cases o with
  | none => exact hd
  | some t => exact h t rfl

theorem gated_traffic (f : State → State) (s : State) (h : ∀ s, (f s).traffic = s.traffic) : (gated f s).traffic = s.traffic := by
  unfold gated; split
  · exact h s
  · rfl

/-! ### State -/


/-! ### Ops -/

theorem State.setRing_traffic (s : State) (n : Nat) (r : Ring) : (State.setRing s n r).traffic = s.traffic := by
  rfl

theorem State.setUser_traffic (s : State) (u : Nat) (x : AllowUser) : (State.setUser s u x).traffic = s.traffic := by
  rfl

theorem State.setDom_traffic (s : State) (d : Nat) (x : DomState) : (State.setDom s d x).traffic = s.traffic := by
  rfl

theorem State.modRing_traffic (s : State) (n : Nat) (f : Ring → Ring) : (State.modRing s n f).traffic = s.traffic := by
  unfold State.modRing
  simp only [State.setRing_traffic]

theorem regStore_traffic (off : Nat) (v : Word32) (s : State) : (regStore off v s).traffic = s.traffic := by
  rfl

theorem setField_traffic (off hi lo x : Nat) (s : State) : (setField off hi lo x s).traffic = s.traffic := by
  unfold setField
  simp only [regStore_traffic]

theorem setPair_traffic (off v : Nat) (s : State) : (setPair off v s).traffic = s.traffic := by
  unfold setPair
  simp only [regStore_traffic]

theorem bumpN_traffic (off n : Nat) (s : State) : (bumpN off n s).traffic = s.traffic := by
  unfold bumpN
  simp only [State.traffic_mk, State.traffic_fold, apply_ite State.traffic, ite_self, regStore_traffic]

theorem bump_traffic (off : Nat) (s : State) : (bump off s).traffic = s.traffic := by
  unfold bump
  simp only [bumpN_traffic]

theorem tally_traffic (off : Nat) (s : State) : (tally off s).traffic = s.traffic := by
  unfold tally
  simp only [regStore_traffic]

theorem bump64_traffic (off n : Nat) (s : State) : (bump64 off n s).traffic = s.traffic := by
  unfold bump64
  simp only [State.traffic_mk, State.traffic_fold, apply_ite State.traffic, ite_self, setPair_traffic]

theorem cause_traffic (off i : Nat) (s : State) : (cause off i s).traffic = s.traffic := by
  unfold cause
  simp only [regStore_traffic]

theorem stampAt_traffic (secOff nsOff net : Nat) (s : State) : (stampAt secOff nsOff net s).traffic = s.traffic := by
  unfold stampAt
  simp only [regStore_traffic]

theorem stamp_traffic (secOff nsOff : Nat) (s : State) : (stamp secOff nsOff s).traffic = s.traffic := by
  unfold stamp
  simp only [stampAt_traffic]

theorem emitAt_traffic (net src kind payload : Nat) (s : State) : (emitAt net src kind payload s).traffic = s.traffic := by
  unfold emitAt
  simp only [State.traffic_mk, State.traffic_fold, apply_ite State.traffic, ite_self, bump_traffic, cause_traffic]

theorem emit_traffic (src kind payload : Nat) (s : State) : (emit src kind payload s).traffic = s.traffic := by
  unfold emit
  simp only [emitAt_traffic]

theorem perfCount_traffic (u k n : Nat) (s : State) : (perfCount u k n s).traffic = s.traffic := by
  unfold perfCount
  simp only [State.traffic_mk, State.traffic_fold, apply_ite State.traffic, ite_self, setPair_traffic, cause_traffic]

theorem perfN_traffic (u code n : Nat) (s : State) : (perfN u code n s).traffic = s.traffic := by
  unfold perfN
  simp only [State.traffic_foldl, implies_true, State.traffic_mk, State.traffic_fold, apply_ite State.traffic, ite_self, perfCount_traffic]

theorem perf_traffic (u code : Nat) (s : State) : (perf u code s).traffic = s.traffic := by
  unfold perf
  simp only [perfN_traffic]

theorem takeFree_traffic (s : State) : (takeFree s).2.traffic = s.traffic := by
  rfl

theorem takeFree_traffic' {s : State} {x' : _} {r' : State} (h' : takeFree s = (x', r')) : r'.traffic = s.traffic := by
  have k' := takeFree_traffic s
  rw [h'] at k'
  exact k'

theorem plainWrite_traffic (off : Nat) (v : Word32) (s : State) : (plainWrite off v s).traffic = s.traffic := by
  unfold plainWrite
  split <;> simp only [State.traffic_mk, State.traffic_fold, regStore_traffic]

/-! ### Rings -/

theorem freshOut_traffic (s : State) : (freshOut s).traffic = s.traffic := by
  rfl

theorem toHost_traffic (addr : Nat) (b : Bytes) (s : State) : (toHost addr b s).traffic = s.traffic := by
  unfold toHost
  simp only [State.traffic_mk, State.traffic_fold, perfN_traffic]

theorem fromHost_traffic (n : Nat) (s : State) : (fromHost n s).traffic = s.traffic := by
  unfold fromHost
  simp only [perfN_traffic]

theorem advanceHead_traffic (n : Nat) (s : State) : (advanceHead n s).traffic = s.traffic := by
  unfold advanceHead
  simp only [State.traffic_mk, State.traffic_fold, apply_ite State.traffic, ite_self, State.modRing_traffic, bump_traffic, cause_traffic, perf_traffic, toHost_traffic]

theorem haltRing_traffic (n code : Nat) (s : State) : (haltRing n code s).traffic = s.traffic := by
  unfold haltRing
  simp only [State.modRing_traffic, cause_traffic, emit_traffic]

theorem closeBuffer_traffic (n : Nat) (s : State) : (closeBuffer n s).traffic = s.traffic := by
  unfold closeBuffer
  repeat' first
    | with_reducible rfl
    | (simp only [State.traffic_mk, State.traffic_fold, apply_ite State.traffic, ite_self, State.modRing_traffic, toHost_traffic, advanceHead_traffic]; done)
    | split
    | dsimp only

theorem writePart_traffic (n kind : Nat) (o : OpenBuf) (body : Bytes) (start : Bool) (s : State) : (writePart n kind o body start s).traffic = s.traffic := by
  unfold writePart
  simp only [State.traffic_mk, State.traffic_fold, apply_ite State.traffic, ite_self, State.modRing_traffic, toHost_traffic, closeBuffer_traffic]

theorem makeRoom_traffic (n : Nat) (s : State) : (makeRoom n s).traffic = s.traffic := by
  unfold makeRoom
  simp only [State.traffic_mk, State.traffic_fold, apply_ite State.traffic, ite_self, closeBuffer_traffic]

theorem placeRec_traffic (n kind : Nat) (body : Bytes) (s : State) : (placeRec n kind body s).2.traffic = s.traffic := by
  unfold placeRec
  repeat' first
    | with_reducible rfl
    | (simp only [State.traffic_mk, State.traffic_fold, apply_ite State.traffic, ite_self, writePart_traffic, makeRoom_traffic]; done)
    | split
    | dsimp only

theorem placeRec_traffic' {n kind : Nat} {body : Bytes} {s : State} {x' : _} {r' : State} (h' : placeRec n kind body s = (x', r')) : r'.traffic = s.traffic := by
  have k' := placeRec_traffic n kind body s
  rw [h'] at k'
  exact k'

theorem flushTimeout_traffic (n : Nat) (s : State) : (flushTimeout n s).traffic = s.traffic := by
  unfold flushTimeout
  repeat' first
    | with_reducible rfl
    | (simp only [State.traffic_mk, State.traffic_fold, apply_ite State.traffic, ite_self, closeBuffer_traffic]; done)
    | split
    | dsimp only

theorem ringCfgWrite_traffic (n : Nat) (v : Word32) (s : State) : (ringCfgWrite n v s).traffic = s.traffic := by
  unfold ringCfgWrite
  simp only [State.traffic_mk, State.traffic_fold, apply_ite State.traffic, ite_self, State.modRing_traffic, regStore_traffic, closeBuffer_traffic]

theorem tailWrite_traffic (n : Nat) (v : Word32) (s : State) : (tailWrite n v s).traffic = s.traffic := by
  unfold tailWrite
  simp only [regStore_traffic]

theorem endEntry_traffic (n res index : Nat) (s : State) : (endEntry n res index s).traffic = s.traffic := by
  unfold endEntry
  repeat' first
    | with_reducible rfl
    | (simp only [State.traffic_mk, State.traffic_fold, apply_ite State.traffic, ite_self, State.modRing_traffic, perf_traffic, toHost_traffic]; done)
    | split
    | dsimp only

theorem skimBatch_traffic (n k : Nat) (s : State) : (skimBatch n k s).traffic = s.traffic := by
  induction k generalizing s with
  | zero => rfl
  | succ k ih =>
    rw [skimBatch]
    repeat' first
      | with_reducible rfl
      | (simp only [ih, endEntry_traffic]; done)
      | split

theorem finishEntry_traffic (n res index : Nat) (s : State) : (finishEntry n res index s).traffic = s.traffic := by
  unfold finishEntry
  simp only [endEntry_traffic, skimBatch_traffic]

theorem batchWriteBack_traffic (n status : Nat) (b : Batch) (s : State) : (batchWriteBack n status b s).traffic = s.traffic := by
  unfold batchWriteBack
  simp only [toHost_traffic]

theorem batchDone_traffic (n : Nat) (s : State) : (batchDone n s).traffic = s.traffic := by
  unfold batchDone
  repeat' first
    | with_reducible rfl
    | (simp only [State.traffic_mk, State.traffic_fold, apply_ite State.traffic, ite_self, State.modRing_traffic, cause_traffic, emit_traffic, advanceHead_traffic, batchWriteBack_traffic]; done)
    | split
    | dsimp only

theorem fetchHost_traffic (n : Nat) (d : Bytes) (s : State) : (fetchHost n d s).traffic = s.traffic := by
  unfold fetchHost
  simp only [State.traffic_mk, State.traffic_fold, apply_ite State.traffic, ite_self, State.modRing_traffic, haltRing_traffic]

theorem fetchInject_traffic (n : Nat) (d : Bytes) (s : State) : (fetchInject n d s).traffic = s.traffic := by
  unfold fetchInject
  simp only [State.traffic_mk, State.traffic_fold, apply_ite State.traffic, ite_self, State.modRing_traffic, haltRing_traffic]

theorem fetchBatch_traffic (n : Nat) (d : Bytes) (data : Option Bytes) (s : State) : (fetchBatch n d data s).traffic = s.traffic := by
  unfold fetchBatch
  repeat' first
    | with_reducible rfl
    | (simp only [State.traffic_mk, State.traffic_fold, apply_ite State.traffic, ite_self, State.modRing_traffic, bump_traffic, cause_traffic, perf_traffic, fromHost_traffic, haltRing_traffic, skimBatch_traffic, batchWriteBack_traffic]; done)
    | split
    | dsimp only

theorem descFetch_traffic (n : Nat) (desc data : Option Bytes) (s : State) : (descFetch n desc data s).traffic = s.traffic := by
  unfold descFetch
  repeat' first
    | with_reducible rfl
    | (simp only [State.traffic_mk, State.traffic_fold, apply_ite State.traffic, ite_self, fromHost_traffic, haltRing_traffic, fetchHost_traffic, fetchInject_traffic, fetchBatch_traffic]; done)
    | split
    | dsimp only

/-! ### Time -/

theorem timeSnap_traffic (s : State) : (timeSnap s).traffic = s.traffic := by
  rfl

theorem setIncr_traffic (v : Nat) (s : State) : (setIncr v s).traffic = s.traffic := by
  unfold setIncr
  simp only [State.traffic_mk, State.traffic_fold, apply_ite State.traffic, ite_self, setPair_traffic, emit_traffic]

theorem incrWrite_traffic (half : Option Bool) (w : Word64) (s : State) : (incrWrite half w s).traffic = s.traffic := by
  unfold incrWrite
  split <;> simp only [State.traffic_mk, State.traffic_fold, setIncr_traffic]

theorem timeApply_traffic (s : State) : (timeApply s).traffic = s.traffic := by
  unfold timeApply
  simp only [State.traffic_mk, State.traffic_fold, apply_ite State.traffic, ite_self]

theorem timeCtrlWrite_traffic (v : Word32) (s : State) : (timeCtrlWrite v s).traffic = s.traffic := by
  unfold timeCtrlWrite
  simp only [State.traffic_mk, State.traffic_fold, apply_ite State.traffic, ite_self, regStore_traffic, timeSnap_traffic, timeApply_traffic]

theorem followCheck_traffic (s : State) : (followCheck s).traffic = s.traffic := by
  unfold followCheck
  simp only [State.traffic_mk, State.traffic_fold, apply_ite State.traffic, ite_self]

theorem refclkTime_traffic (lost : Bool) (s : State) : (refclkTime lost s).traffic = s.traffic := by
  unfold refclkTime
  simp only [State.traffic_mk, State.traffic_fold, apply_ite State.traffic, ite_self, cause_traffic, emit_traffic]

theorem setTrig_traffic (i : Nat) (t : Trigger) (s : State) : (setTrig i t s).traffic = s.traffic := by
  rfl

theorem trigArm_traffic (i : Nat) (v : Word32) (s : State) : (trigArm i v s).traffic = s.traffic := by
  unfold trigArm
  simp only [State.traffic_mk, State.traffic_fold, apply_ite State.traffic, ite_self, regStore_traffic, bump_traffic, cause_traffic, setTrig_traffic]

theorem trigDisarm_traffic (i : Nat) (v : Word32) (s : State) : (trigDisarm i v s).traffic = s.traffic := by
  unfold trigDisarm
  simp only [regStore_traffic, setTrig_traffic]

theorem trigCtrlWrite_traffic (i : Nat) (v : Word32) (s : State) : (trigCtrlWrite i v s).traffic = s.traffic := by
  unfold trigCtrlWrite
  simp only [State.traffic_mk, State.traffic_fold, apply_ite State.traffic, ite_self, trigArm_traffic, trigDisarm_traffic]

theorem trigEdge_traffic (i : Nat) (s : State) : (trigEdge i s).traffic = s.traffic := by
  unfold trigEdge
  repeat' first
    | with_reducible rfl
    | (simp only [State.traffic_mk, State.traffic_fold, apply_ite State.traffic, ite_self, setTrig_traffic]; done)
    | split
    | dsimp only

theorem trigPulseEnd_traffic (i : Nat) (s : State) : (trigPulseEnd i s).traffic = s.traffic := by
  unfold trigPulseEnd
  repeat' first
    | with_reducible rfl
    | (simp only [State.traffic_mk, State.traffic_fold, apply_ite State.traffic, ite_self, setTrig_traffic]; done)
    | split
    | dsimp only

theorem trigStep_traffic (forward : Bool) (i : Nat) (s : State) : (trigStep forward i s).traffic = s.traffic := by
  unfold trigStep
  simp only [State.traffic_mk, State.traffic_fold, apply_ite State.traffic, ite_self, bumpN_traffic, cause_traffic, emit_traffic, setTrig_traffic]

theorem bumpField_traffic (off hi lo : Nat) (s : State) : (bumpField off hi lo s).traffic = s.traffic := by
  unfold bumpField
  simp only [State.traffic_mk, State.traffic_fold, apply_ite State.traffic, ite_self, setField_traffic]

theorem setCap_traffic (i : Nat) (q : List CapEntry) (s : State) : (setCap i q s).traffic = s.traffic := by
  rfl

theorem captureEdge_traffic (i : Nat) (rising : Bool) (s : State) : (captureEdge i rising s).traffic = s.traffic := by
  unfold captureEdge
  simp only [State.traffic_mk, State.traffic_fold, apply_ite State.traffic, ite_self, cause_traffic, emit_traffic, bumpField_traffic, setCap_traffic]

theorem capturePop_traffic (i : Nat) (s : State) : (capturePop i s).traffic = s.traffic := by
  unfold capturePop
  simp only [setCap_traffic]

theorem ppsEdge_traffic (s : State) : (ppsEdge s).traffic = s.traffic := by
  unfold ppsEdge
  simp only [State.traffic_mk, State.traffic_fold, apply_ite State.traffic, ite_self]

theorem ppsPulseEnd_traffic (s : State) : (ppsPulseEnd s).traffic = s.traffic := by
  unfold ppsPulseEnd
  repeat' first
    | with_reducible rfl
    | (simp only [State.traffic_mk, State.traffic_fold, apply_ite State.traffic, ite_self]; done)
    | split
    | dsimp only

theorem ppsStep_traffic (s : State) : (ppsStep s).traffic = s.traffic := by
  unfold ppsStep
  simp only [State.traffic_mk, State.traffic_fold, apply_ite State.traffic, ite_self]

theorem offsetAdd_traffic (s : State) : (offsetAdd s).traffic = s.traffic := by
  unfold offsetAdd
  repeat' first
    | with_reducible rfl
    | (simp only [State.traffic_foldl, implies_true, State.traffic_mk, State.traffic_fold, apply_ite State.traffic, apply_ite Prod.snd, ite_self, cause_traffic, emit_traffic, trigStep_traffic, ppsStep_traffic]; done)
    | split
    | dsimp only

theorem ts2Pop_traffic (s : State) : (ts2Pop s).traffic = s.traffic := by
  rfl

theorem placeLosses_traffic (l : List (Nat × Nat)) (s : State) : (placeLosses l s).traffic = s.traffic := by
  induction l generalizing s with
  | nil => rfl
  | cons x l ih =>
    obtain ⟨src, n⟩ := x
    rw [placeLosses]
    split
    · rfl
    · simp only [ih, emit_traffic, State.traffic_mk, State.traffic_fold]

theorem sillDeliver_traffic (s : State) : (sillDeliver s).traffic = s.traffic := by
  unfold sillDeliver
  repeat' first
    | with_reducible rfl
    | (simp only [State.traffic_mk, State.traffic_fold, apply_ite State.traffic, ite_self, bump64_traffic, placeRec_traffic, placeLosses_traffic]; done)
    | split
    | dsimp only

theorem dispCfgWrite_traffic (v : Word32) (s : State) : (dispCfgWrite v s).traffic = s.traffic := by
  unfold dispCfgWrite
  simp only [State.traffic_mk, State.traffic_fold, apply_ite State.traffic, ite_self, regStore_traffic]

/-! ### Perf -/

theorem windowLatch_traffic (s : State) : (windowLatch s).traffic = s.traffic := by
  unfold windowLatch
  simp only [State.traffic_mk, State.traffic_fold, apply_ite State.traffic, ite_self, perf_traffic]

theorem freezeNow_traffic (s : State) : (freezeNow s).traffic = s.traffic := by
  unfold freezeNow
  simp only [State.traffic_mk, State.traffic_fold, cause_traffic, stamp_traffic, perf_traffic]

theorem unfreezeNow_traffic (s : State) : (unfreezeNow s).traffic = s.traffic := by
  unfold unfreezeNow
  simp only [State.traffic_mk, State.traffic_fold, perf_traffic]

theorem freezeWrite_traffic (v : Word32) (s : State) : (freezeWrite v s).traffic = s.traffic := by
  unfold freezeWrite
  repeat' first
    | with_reducible rfl
    | (simp only [State.traffic_mk, State.traffic_fold, apply_ite State.traffic, ite_self, regStore_traffic, perf_traffic, freezeNow_traffic, unfreezeNow_traffic]; done)
    | split
    | dsimp only

theorem scheduledAct_traffic (s : State) : (scheduledAct s).traffic = s.traffic := by
  unfold scheduledAct
  repeat' first
    | with_reducible rfl
    | (simp only [State.traffic_mk, State.traffic_fold, apply_ite State.traffic, ite_self, freezeNow_traffic, unfreezeNow_traffic]; done)
    | split
    | dsimp only

theorem clearCounters_traffic (s : State) : (clearCounters s).traffic = s.traffic := by
  unfold clearCounters
  simp only [State.traffic_foldl, implies_true, State.traffic_mk, State.traffic_fold, apply_ite State.traffic, ite_self, setPair_traffic]

theorem perfCtrlWrite_traffic (v : Word32) (s : State) : (perfCtrlWrite v s).traffic = s.traffic := by
  unfold perfCtrlWrite
  simp only [State.traffic_mk, State.traffic_fold, apply_ite State.traffic, ite_self, regStore_traffic, clearCounters_traffic]

theorem perfDump_traffic (s : State) : (perfDump s).traffic = s.traffic := by
  unfold perfDump
  split
  · rfl
  · extract_lets seq s1 p s2
    have h1 : s1.traffic = s.traffic := regStore_traffic _ _ _
    have h2 : s2.traffic = s1.traffic := by simp only [s2, State.traffic_mk, State.traffic_fold]
    clear_value s2 s1
    split <;> simp only [cause_traffic, bump_traffic, State.traffic_mk, State.traffic_fold, h1, h2]

/-! ### Sieve -/

theorem sievePut_traffic (i : Nat) (e : SieveEntry) (s : State) : (sievePut i e s).traffic = s.traffic := by
  rfl

theorem sieveWriteOp_traffic (j : SieveJob) (s : State) : (sieveWriteOp j s).2.traffic = s.traffic := by
  unfold sieveWriteOp
  repeat' first
    | with_reducible rfl
    | (simp only [State.traffic_mk, State.traffic_fold, apply_ite State.traffic, ite_self, sievePut_traffic]; done)
    | split
    | dsimp only

theorem sieveWriteOp_traffic' {j : SieveJob} {s : State} {x' : _} {r' : State} (h' : sieveWriteOp j s = (x', r')) : r'.traffic = s.traffic := by
  have k' := sieveWriteOp_traffic j s
  rw [h'] at k'
  exact k'

theorem sieveInsertOp_traffic (j : SieveJob) (s : State) : (sieveInsertOp j s).2.traffic = s.traffic := by
  unfold sieveInsertOp
  repeat' first
    | with_reducible rfl
    | (simp only [State.traffic_mk, State.traffic_fold, apply_ite State.traffic, ite_self, sievePut_traffic]; done)
    | split
    | dsimp only

theorem sieveInsertOp_traffic' {j : SieveJob} {s : State} {x' : _} {r' : State} (h' : sieveInsertOp j s = (x', r')) : r'.traffic = s.traffic := by
  have k' := sieveInsertOp_traffic j s
  rw [h'] at k'
  exact k'

theorem sieveFindOp_traffic (j : SieveJob) (s : State) : (sieveFindOp j s).2.traffic = s.traffic := by
  unfold sieveFindOp
  repeat' first
    | with_reducible rfl
    | (simp only [State.traffic_mk, State.traffic_fold, apply_ite State.traffic, ite_self]; done)
    | split
    | dsimp only

theorem sieveFindOp_traffic' {j : SieveJob} {s : State} {x' : _} {r' : State} (h' : sieveFindOp j s = (x', r')) : r'.traffic = s.traffic := by
  have k' := sieveFindOp_traffic j s
  rw [h'] at k'
  exact k'

theorem sieveCtrlOp_traffic (f : SieveTable → SieveEntry → SieveEntry) (j : SieveJob) (s : State) : (sieveCtrlOp f j s).2.traffic = s.traffic := by
  unfold sieveCtrlOp
  repeat' first
    | with_reducible rfl
    | (simp only [State.traffic_mk, State.traffic_fold, apply_ite State.traffic, ite_self, sievePut_traffic]; done)
    | split
    | dsimp only

theorem sieveCtrlOp_traffic' {f : SieveTable → SieveEntry → SieveEntry} {j : SieveJob} {s : State} {x' : _} {r' : State} (h' : sieveCtrlOp f j s = (x', r')) : r'.traffic = s.traffic := by
  have k' := sieveCtrlOp_traffic f j s
  rw [h'] at k'
  exact k'

theorem sieveReadOp_traffic (j : SieveJob) (s : State) : (sieveReadOp j s).2.traffic = s.traffic := by
  unfold sieveReadOp
  repeat' first
    | with_reducible rfl
    | (simp only [State.traffic_foldl, implies_true, State.traffic_mk, State.traffic_fold, apply_ite State.traffic, apply_ite Prod.snd, ite_self]; done)
    | split
    | dsimp only

theorem sieveReadOp_traffic' {j : SieveJob} {s : State} {x' : _} {r' : State} (h' : sieveReadOp j s = (x', r')) : r'.traffic = s.traffic := by
  have k' := sieveReadOp_traffic j s
  rw [h'] at k'
  exact k'

theorem sieveOp_traffic (j : SieveJob) (s : State) : (sieveOp j s).2.traffic = s.traffic := by
  unfold sieveOp
  split <;> simp only [State.traffic_mk, State.traffic_fold, sieveWriteOp_traffic, sieveInsertOp_traffic, sieveFindOp_traffic, sieveCtrlOp_traffic, sieveReadOp_traffic]

theorem sieveOp_traffic' {j : SieveJob} {s : State} {x' : _} {r' : State} (h' : sieveOp j s = (x', r')) : r'.traffic = s.traffic := by
  have k' := sieveOp_traffic j s
  rw [h'] at k'
  exact k'

theorem sieveBegin_traffic (j : SieveJob) (s : State) : (sieveBegin j s).traffic = s.traffic := by
  unfold sieveBegin
  simp only [State.traffic_mk, State.traffic_fold, sieveOp_traffic]

theorem sieveOffer_traffic (j : SieveJob) (s : State) : (sieveOffer j s).traffic = s.traffic := by
  unfold sieveOffer
  simp only [State.traffic_mk, State.traffic_fold, apply_ite State.traffic, ite_self, sieveBegin_traffic]

theorem sieveCommand_traffic (cmd : Word32) (s : State) : (sieveCommand cmd s).traffic = s.traffic := by
  unfold sieveCommand
  simp only [State.traffic_mk, State.traffic_fold, apply_ite State.traffic, ite_self, regStore_traffic, bump_traffic, sieveOffer_traffic]

theorem sieveRow_traffic (op : Nat) (cmd : Word32) (s : State) : (sieveRow op cmd s).traffic = s.traffic := by
  unfold sieveRow
  simp only [State.traffic_mk, State.traffic_fold, apply_ite State.traffic, ite_self, sieveCommand_traffic]

theorem fillData_traffic (e : SieveEntry) (s : State) : (fillData e s).traffic = s.traffic := by
  unfold fillData
  simp only [State.traffic_foldl, implies_true, State.traffic_mk, State.traffic_fold, apply_ite State.traffic, ite_self, regStore_traffic]

theorem sieveReport_traffic (a : SieveAnswer) (s : State) : (sieveReport a s).traffic = s.traffic := by
  unfold sieveReport
  repeat' first
    | with_reducible rfl
    | (simp only [State.traffic_mk, State.traffic_fold, apply_ite State.traffic, ite_self, regStore_traffic, cause_traffic, stamp_traffic, fillData_traffic]; done)
    | split
    | dsimp only

theorem batchSieveDone_traffic (n op : Nat) (a : SieveAnswer) (s : State) : (batchSieveDone n op a s).traffic = s.traffic := by
  unfold batchSieveDone
  simp only [State.traffic_mk, State.traffic_fold, apply_ite State.traffic, ite_self, finishEntry_traffic]

theorem sieveOpDone_traffic (s : State) : (sieveOpDone s).traffic = s.traffic := by
  unfold sieveOpDone
  repeat' first
    | with_reducible rfl
    | (simp only [State.traffic_mk, State.traffic_fold, apply_ite State.traffic, ite_self, sieveBegin_traffic, sieveReport_traffic, batchSieveDone_traffic]; done)
    | split
    | dsimp only

theorem batchSieve_traffic (n : Nat) (s : State) : (batchSieve n s).traffic = s.traffic := by
  unfold batchSieve
  split <;> simp only [State.traffic_mk, State.traffic_fold, State.modRing_traffic, sieveOffer_traffic]

/-! ### Accord -/

theorem accordSwap_traffic (s : State) : (accordSwap s).traffic = s.traffic := by
  unfold accordSwap
  simp only [State.traffic_mk, State.traffic_fold, apply_ite State.traffic, ite_self, cause_traffic]

theorem swapBatch_traffic (s : State) : (swapBatch s).traffic = s.traffic := by
  unfold swapBatch
  repeat' first
    | with_reducible rfl
    | (simp only [State.traffic_mk, State.traffic_fold, apply_ite State.traffic, ite_self, finishEntry_traffic]; done)
    | split
    | dsimp only

theorem accordTSwap_traffic (s : State) : (accordTSwap s).traffic = s.traffic := by
  unfold accordTSwap
  repeat' first
    | with_reducible rfl
    | (simp only [State.traffic_mk, State.traffic_fold, apply_ite State.traffic, ite_self, stampAt_traffic, emit_traffic, swapBatch_traffic]; done)
    | split
    | dsimp only

theorem drainedBatch_traffic (s : State) : (drainedBatch s).traffic = s.traffic := by
  unfold drainedBatch
  repeat' first
    | with_reducible rfl
    | (simp only [State.traffic_mk, State.traffic_fold, apply_ite State.traffic, ite_self, finishEntry_traffic]; done)
    | split
    | dsimp only

theorem accordDrained_traffic (s : State) : (accordDrained s).traffic = s.traffic := by
  unfold accordDrained
  simp only [State.traffic_mk, State.traffic_fold, apply_ite State.traffic, ite_self, cause_traffic, stamp_traffic, emit_traffic, drainedBatch_traffic]

theorem accordDrainTmo_traffic (s : State) : (accordDrainTmo s).traffic = s.traffic := by
  unfold accordDrainTmo
  simp only [State.traffic_mk, State.traffic_fold, apply_ite State.traffic, ite_self, cause_traffic]

theorem batchSwap_traffic (n : Nat) (s : State) : (batchSwap n s).traffic = s.traffic := by
  unfold batchSwap
  repeat' first
    | with_reducible rfl
    | (simp only [State.traffic_mk, State.traffic_fold, apply_ite State.traffic, ite_self, State.modRing_traffic, finishEntry_traffic, accordSwap_traffic]; done)
    | split
    | dsimp only

theorem batchWait_traffic (n : Nat) (s : State) : (batchWait n s).traffic = s.traffic := by
  unfold batchWait
  repeat' first
    | with_reducible rfl
    | (simp only [State.traffic_mk, State.traffic_fold, apply_ite State.traffic, ite_self, State.modRing_traffic, finishEntry_traffic]; done)
    | split
    | dsimp only

theorem batchTimeout_traffic (n : Nat) (s : State) : (batchTimeout n s).traffic = s.traffic := by
  unfold batchTimeout
  repeat' first
    | with_reducible rfl
    | (simp only [State.traffic_mk, State.traffic_fold, apply_ite State.traffic, ite_self, finishEntry_traffic]; done)
    | split
    | dsimp only

/-! ### Vault -/

theorem logUe_traffic (info addr : Nat) (s : State) : (logUe info addr s).traffic = s.traffic := by
  unfold logUe
  simp only [regStore_traffic, setPair_traffic, stamp_traffic]

/-! ### Link -/

theorem freshTeth_traffic (s : State) : (freshTeth s).traffic = s.traffic := by
  rfl

theorem linkOut_traffic (kind seq : Nat) (payload : Bytes) (s : State) : (linkOut kind seq payload s).traffic = s.traffic := by
  unfold linkOut
  simp only [State.traffic_mk, State.traffic_fold, perf_traffic]

theorem linkReply_traffic (seq : Nat) (ok : Bool) (s : State) : (linkReply seq ok s).traffic = s.traffic := by
  rfl

theorem linkSend_traffic (kind : Nat) (payload : Bytes) (s : State) : (linkSend kind payload s).traffic = s.traffic := by
  unfold linkSend
  simp only [State.traffic_mk, State.traffic_fold, apply_ite State.traffic, ite_self, linkOut_traffic]

/-! ### Till -/

theorem occLimitWrite_traffic (v : Word32) (s : State) : (occLimitWrite v s).traffic = s.traffic := by
  unfold occLimitWrite
  simp only [State.traffic_foldl, implies_true, State.traffic_mk, State.traffic_fold, apply_ite State.traffic, ite_self, setField_traffic, cause_traffic]

/-! ### Allow -/

theorem noteAllowance_traffic (u what amount : Nat) (s : State) : (noteAllowance u what amount s).traffic = s.traffic := by
  unfold noteAllowance
  simp only [emit_traffic]

theorem refuseAllowance_traffic (u amount : Nat) (s : State) : (refuseAllowance u amount s).traffic = s.traffic := by
  unfold refuseAllowance
  simp only [bump_traffic, cause_traffic, noteAllowance_traffic]

theorem grantAllowance_traffic (u a : Nat) (s : State) : (grantAllowance u a s).traffic = s.traffic := by
  unfold grantAllowance
  simp only [State.traffic_mk, State.traffic_fold, State.setUser_traffic, noteAllowance_traffic]

theorem requestAllowance_traffic (u a : Nat) (s : State) : (requestAllowance u a s).traffic = s.traffic := by
  unfold requestAllowance
  simp only [State.traffic_mk, State.traffic_fold, apply_ite State.traffic, ite_self, State.setUser_traffic, refuseAllowance_traffic, grantAllowance_traffic]

theorem grantHead_traffic (s : State) : (grantHead s).traffic = s.traffic := by
  unfold grantHead
  repeat' first
    | with_reducible rfl
    | (simp only [State.traffic_mk, State.traffic_fold, apply_ite State.traffic, ite_self, grantAllowance_traffic]; done)
    | split
    | dsimp only

theorem dropAllowance_traffic (u : Nat) (s : State) : (dropAllowance u s).traffic = s.traffic := by
  unfold dropAllowance
  simp only [State.traffic_mk, State.traffic_fold, apply_ite State.traffic, ite_self, State.setUser_traffic]

theorem returnAllowance_traffic (u : Nat) (s : State) : (returnAllowance u s).traffic = s.traffic := by
  unfold returnAllowance
  split <;> simp only [State.traffic_mk, State.traffic_fold, State.setUser_traffic, noteAllowance_traffic, dropAllowance_traffic]

theorem slewStep_traffic (s : State) : (slewStep s).traffic = s.traffic := by
  unfold slewStep
  repeat' first
    | with_reducible rfl
    | (simp only [State.traffic_mk, State.traffic_fold, apply_ite State.traffic, ite_self, State.setUser_traffic]; done)
    | split
    | dsimp only

/-! ### Errors -/

theorem sramEvent_traffic (mem branch addr : Nat) (e : EccResult) (s : State) : (sramEvent mem branch addr e s).traffic = s.traffic := by
  unfold sramEvent
  split <;> simp only [State.traffic_mk, State.traffic_fold, tally_traffic, cause_traffic, emit_traffic, logUe_traffic]

theorem sramRead_traffic (mem : Nat) (r : SramRead) (s : State) : (sramRead mem r s).2.traffic = s.traffic := by
  unfold sramRead
  simp only [sramEvent_traffic]

theorem sramRead_traffic' {mem : Nat} {r : SramRead} {s : State} {x' : _} {r' : State} (h' : sramRead mem r s = (x', r')) : r'.traffic = s.traffic := by
  have k' := sramRead_traffic mem r s
  rw [h'] at k'
  exact k'

theorem complete_traffic (data : Bytes) (s : State) : (complete data s).traffic = s.traffic := by
  rfl

theorem unsupported_traffic (s : State) : (unsupported s).traffic = s.traffic := by
  rfl

/-! ### Disp -/

theorem stallInterval_traffic (b : Nat) (s : State) : (stallInterval b s).traffic = s.traffic := by
  unfold stallInterval
  simp only [State.traffic_mk, State.traffic_fold, apply_ite State.traffic, ite_self, bump_traffic]

theorem affNext_traffic (b : Nat) (s : State) : (affNext b s).traffic = s.traffic := by
  unfold affNext
  simp only [State.traffic_mk, State.traffic_fold, apply_ite State.traffic, ite_self, setField_traffic]

/-! ### Nose -/

theorem setGroup_traffic (g : Nat) (x : NoseGroup) (s : State) : (setGroup g x s).traffic = s.traffic := by
  rfl

theorem noseBurstReturn_traffic (b : Nat) (s : State) : (noseBurstReturn b s).traffic = s.traffic := by
  unfold noseBurstReturn
  repeat' first
    | with_reducible rfl
    | (simp only [State.traffic_mk, State.traffic_fold, apply_ite State.traffic, ite_self, returnAllowance_traffic]; done)
    | split
    | dsimp only

theorem groupResult_traffic (v : Word32) (r : Nat) (s : State) : (groupResult v r s).traffic = s.traffic := by
  unfold groupResult
  simp only [setField_traffic]

theorem noseInvalidate_traffic (v : Word32) (s : State) : (noseInvalidate v s).traffic = s.traffic := by
  unfold noseInvalidate
  simp only [State.traffic_mk, State.traffic_fold, apply_ite State.traffic, ite_self, setGroup_traffic, groupResult_traffic]

theorem noteGroup_traffic (g : Nat) (validated : Bool) (s : State) : (noteGroup g validated s).traffic = s.traffic := by
  unfold noteGroup
  simp only [cause_traffic, stamp_traffic, emit_traffic]

theorem noseQuiesced_traffic (g : Nat) (s : State) : (noseQuiesced g s).traffic = s.traffic := by
  unfold noseQuiesced
  simp only [State.traffic_mk, State.traffic_fold, apply_ite State.traffic, ite_self, setGroup_traffic, noteGroup_traffic]

theorem noseValidate_traffic (v : Word32) (s : State) : (noseValidate v s).traffic = s.traffic := by
  unfold noseValidate
  simp only [State.traffic_mk, State.traffic_fold, apply_ite State.traffic, ite_self, setGroup_traffic, groupResult_traffic, noteGroup_traffic]

theorem noseMemWrite_traffic (v : Word32) (s : State) : (noseMemWrite v s).traffic = s.traffic := by
  unfold noseMemWrite
  simp only [State.traffic_mk, State.traffic_fold, apply_ite State.traffic, ite_self, setField_traffic, bump_traffic, cause_traffic]

/-! ### Audit -/

theorem lapAlarm_traffic (m : Nat) (s : State) : (lapAlarm m s).traffic = s.traffic := by
  unfold lapAlarm
  simp only [State.traffic_mk, State.traffic_fold, apply_ite State.traffic, ite_self, cause_traffic, emit_traffic]

/-! ### Teller -/

theorem csEvent_traffic (d addr : Nat) (e : EccResult) (s : State) : (csEvent d addr e s).traffic = s.traffic := by
  unfold csEvent
  split <;> simp only [State.traffic_mk, State.traffic_fold, bump_traffic, cause_traffic, emit_traffic, sramEvent_traffic]

theorem csScrub_traffic (d addr : Nat) (e : EccResult) (s : State) : (csScrub d addr e s).traffic = s.traffic := by
  unfold csScrub
  simp only [csEvent_traffic]

/-! ### Mac -/

theorem fecUncorr_traffic (p : Nat) (s : State) : (fecUncorr p s).traffic = s.traffic := by
  unfold fecUncorr
  simp only [State.traffic_mk, State.traffic_fold, apply_ite State.traffic, ite_self, bump_traffic, cause_traffic]

/-! ### Rewrite -/

theorem nptCtlWrite_traffic (m : Nat) (v : Word32) (s : State) : (nptCtlWrite m v s).traffic = s.traffic := by
  unfold nptCtlWrite
  simp only [State.traffic_mk, State.traffic_fold, apply_ite State.traffic, ite_self, regStore_traffic, setField_traffic]

/-! ### Gates -/

theorem gclNext_traffic (s : State) : (gclNext s).traffic = s.traffic := by
  unfold gclNext
  simp only [State.traffic_mk, State.traffic_fold, apply_ite State.traffic, ite_self, setField_traffic]

theorem gclRead_traffic (s : State) : (gclRead s).2.traffic = s.traffic := by
  unfold gclRead
  simp only [regStore_traffic, gclNext_traffic]

theorem gclRead_traffic' {s : State} {x' : _} {r' : State} (h' : gclRead s = (x', r')) : r'.traffic = s.traffic := by
  have k' := gclRead_traffic s
  rw [h'] at k'
  exact k'

theorem gclReadHost_traffic (s : State) : (gclReadHost s).traffic = s.traffic := by
  unfold gclReadHost
  repeat' first
    | with_reducible rfl
    | (simp only [State.traffic_foldl, implies_true, State.traffic_mk, State.traffic_fold, apply_ite State.traffic, apply_ite Prod.snd, ite_self, gclRead_traffic]; done)
    | split
    | dsimp only

theorem gateOverrun_traffic (p : Nat) (s : State) : (gateOverrun p s).traffic = s.traffic := by
  unfold gateOverrun
  repeat' first
    | with_reducible rfl
    | (simp only [State.traffic_mk, State.traffic_fold, apply_ite State.traffic, ite_self, bump_traffic]; done)
    | split
    | dsimp only

theorem offsetStep_traffic (s : State) : (offsetStep s).traffic = s.traffic := by
  unfold offsetStep
  simp only [State.traffic_foldl, implies_true, State.traffic_mk, State.traffic_fold, apply_ite State.traffic, ite_self, offsetAdd_traffic, gateOverrun_traffic]

/-! ### Dma -/

theorem starveInterval_traffic (n : Nat) (s : State) : (starveInterval n s).traffic = s.traffic := by
  unfold starveInterval
  simp only [State.traffic_mk, State.traffic_fold, apply_ite State.traffic, ite_self, State.modRing_traffic, bump_traffic, cause_traffic]

/-! ### Tether -/

theorem tethBringUp_traffic (s : State) : (tethBringUp s).traffic = s.traffic := by
  unfold tethBringUp
  simp only [State.traffic_mk, State.traffic_fold, apply_ite State.traffic, ite_self, cause_traffic]

theorem tethCtrlWrite_traffic (v : Word32) (s : State) : (tethCtrlWrite v s).traffic = s.traffic := by
  unfold tethCtrlWrite
  simp only [State.traffic_mk, State.traffic_fold, apply_ite State.traffic, ite_self, regStore_traffic, tethBringUp_traffic]

theorem tethTrained_traffic (s : State) : (tethTrained s).traffic = s.traffic := by
  unfold tethTrained
  repeat' first
    | with_reducible rfl
    | (simp only [State.traffic_mk, State.traffic_fold, apply_ite State.traffic, ite_self]; done)
    | split
    | dsimp only

theorem laneCheck_traffic (errors : List Nat) (peer : Nat) (s : State) : (laneCheck errors peer s).traffic = s.traffic := by
  unfold laneCheck
  simp only [State.traffic_mk, State.traffic_fold, apply_ite State.traffic, ite_self]

theorem resendAll_traffic (s : State) : (resendAll s).traffic = s.traffic := by
  unfold resendAll
  simp only [State.traffic_foldl, implies_true, State.traffic_mk, State.traffic_fold, apply_ite State.traffic, ite_self, linkOut_traffic]

theorem tethLinkUp_traffic (peer set : Nat) (s : State) : (tethLinkUp peer set s).traffic = s.traffic := by
  unfold tethLinkUp
  simp only [State.traffic_mk, State.traffic_fold, apply_ite State.traffic, ite_self, cause_traffic, resendAll_traffic]

theorem tethReform_traffic (m announced : Nat) (s : State) : (tethReform m announced s).traffic = s.traffic := by
  unfold tethReform
  simp only [State.traffic_mk, State.traffic_fold, apply_ite State.traffic, ite_self, bump_traffic, cause_traffic, emit_traffic, tethBringUp_traffic, resendAll_traffic]

theorem tethLinkDown_traffic (s : State) : (tethLinkDown s).traffic = s.traffic := by
  unfold tethLinkDown
  simp only [State.traffic_mk, State.traffic_fold, apply_ite State.traffic, ite_self, tethBringUp_traffic]

theorem linkAck_traffic (n : Nat) (s : State) : (linkAck n s).traffic = s.traffic := by
  rfl

theorem linkLasting_traffic (kind : Nat) (s : State) : (linkLasting kind s).traffic = s.traffic := by
  unfold linkLasting
  simp only [bump_traffic, cause_traffic, emit_traffic]

theorem linkNak_traffic (n : Nat) (noData : Bool) (s : State) : (linkNak n noData s).traffic = s.traffic := by
  unfold linkNak
  repeat' first
    | with_reducible rfl
    | (simp only [State.traffic_mk, State.traffic_fold, apply_ite State.traffic, ite_self, bump_traffic, perf_traffic, linkOut_traffic, linkAck_traffic, linkLasting_traffic]; done)
    | split
    | dsimp only

theorem linkTake_traffic (kind n : Nat) (ok : Bool) (s : State) : (linkTake kind n ok s).traffic = s.traffic := by
  unfold linkTake
  simp only [State.traffic_foldl, implies_true, State.traffic_mk, State.traffic_fold, apply_ite State.traffic, ite_self, linkReply_traffic, linkLasting_traffic]

theorem linkRx_traffic (kind n : Nat) (ok : Bool) (ack nak : Option (BitVec 16)) (buf : SramRead) (s : State) : (linkRx kind n ok ack nak buf s).traffic = s.traffic := by
  unfold linkRx
  repeat' first
    | with_reducible rfl
    | (simp only [State.traffic_mk, State.traffic_fold, apply_ite State.traffic, ite_self, perf_traffic, sramRead_traffic, linkAck_traffic, linkNak_traffic, linkTake_traffic]; done)
    | split
    | dsimp only

theorem linkQueue_traffic (kind : Nat) (payload : Bytes) (s : State) : (linkQueue kind payload s).traffic = s.traffic := by
  unfold linkQueue
  simp only [State.traffic_mk, State.traffic_fold, freshTeth_traffic, linkSend_traffic]

theorem heartbeatSend_traffic (s : State) : (heartbeatSend s).traffic = s.traffic := by
  unfold heartbeatSend
  simp only [State.traffic_mk, State.traffic_fold, apply_ite State.traffic, ite_self, linkQueue_traffic]

/-! ### Treasury -/

theorem paceUpdate_traffic (b descs steps : Nat) (s : State) : (paceUpdate b descs steps s).traffic = s.traffic := by
  unfold paceUpdate
  simp only [State.traffic_mk, State.traffic_fold, apply_ite State.traffic, ite_self, regStore_traffic, bump_traffic, cause_traffic, emit_traffic]

theorem setPstate_traffic (p : PState) (s : State) : (setPstate p s).traffic = s.traffic := by
  unfold setPstate
  simp only [State.traffic_mk, State.traffic_fold, apply_ite State.traffic, ite_self, emit_traffic]

theorem settlePstate_traffic (s : State) : (settlePstate s).traffic = s.traffic := by
  unfold settlePstate
  simp only [State.traffic_mk, State.traffic_fold, apply_ite State.traffic, ite_self, setPstate_traffic]

theorem setDomain_traffic (d : Nat) (x : DomState) (s : State) : (setDomain d x s).traffic = s.traffic := by
  unfold setDomain
  simp only [State.traffic_mk, State.traffic_fold, apply_ite State.traffic, ite_self, State.setDom_traffic, emit_traffic, settlePstate_traffic]

theorem acceptDomain_traffic (st : Nat) (ds : List Nat) (s : State) : (acceptDomain st ds s).traffic = s.traffic := by
  unfold acceptDomain
  simp only [State.traffic_mk, State.traffic_fold, apply_ite State.traffic, ite_self]

theorem domainReqWrite_traffic (v : Word32) (s : State) : (domainReqWrite v s).traffic = s.traffic := by
  unfold domainReqWrite
  simp only [State.traffic_mk, State.traffic_fold, apply_ite State.traffic, ite_self, cause_traffic, plainWrite_traffic, acceptDomain_traffic]

theorem rampStart_traffic (d : Nat) (s : State) : (rampStart d s).traffic = s.traffic := by
  unfold rampStart
  repeat' first
    | with_reducible rfl
    | (simp only [State.traffic_mk, State.traffic_fold, apply_ite State.traffic, ite_self, setDomain_traffic]; done)
    | split
    | dsimp only

theorem setVout_traffic (mv : Nat) (s : State) : (setVout mv s).traffic = s.traffic := by
  unfold setVout
  simp only [State.traffic_mk, State.traffic_fold, apply_ite State.traffic, ite_self, setField_traffic, bump_traffic, emit_traffic]

theorem avsStep_traffic (s : State) : (avsStep s).traffic = s.traffic := by
  unfold avsStep
  repeat' first
    | with_reducible rfl
    | (simp only [State.traffic_mk, State.traffic_fold, apply_ite State.traffic, ite_self, cause_traffic, setVout_traffic]; done)
    | split
    | dsimp only

theorem avsUpdate_traffic (iout : Nat) (ok : Bool) (s : State) : (avsUpdate iout ok s).traffic = s.traffic := by
  unfold avsUpdate
  simp only [State.traffic_mk, State.traffic_fold, apply_ite State.traffic, ite_self, setField_traffic, cause_traffic, avsStep_traffic]

theorem avsCfgWrite_traffic (v : Word32) (s : State) : (avsCfgWrite v s).traffic = s.traffic := by
  unfold avsCfgWrite
  simp only [State.traffic_mk, State.traffic_fold, apply_ite State.traffic, ite_self, plainWrite_traffic]

theorem quietStall_traffic (s : State) : (quietStall s).traffic = s.traffic := by
  unfold quietStall
  repeat' first
    | with_reducible rfl
    | (simp only [State.traffic_mk, State.traffic_fold, apply_ite State.traffic, ite_self, cause_traffic]; done)
    | split
    | dsimp only

theorem smbAnswer_traffic (cmd : Nat) (data : Bytes) (pec : Bool) (s : State) : (smbAnswer cmd data pec s).traffic = s.traffic := by
  unfold smbAnswer
  simp only [State.traffic_mk, State.traffic_fold, apply_ite State.traffic, ite_self]

/-! ### Security -/

theorem identityBad_traffic (s : State) : (identityBad s).traffic = s.traffic := by
  unfold identityBad
  simp only [State.traffic_mk, State.traffic_fold, cause_traffic, emit_traffic]

theorem debugOpens_traffic (s : State) : (debugOpens s).traffic = s.traffic := by
  unfold debugOpens
  simp only [State.traffic_mk, State.traffic_fold, apply_ite State.traffic, ite_self, cause_traffic, emit_traffic]

theorem lifecycleChanged_traffic (old : Lifecycle) (s : State) : (lifecycleChanged old s).traffic = s.traffic := by
  unfold lifecycleChanged
  repeat' first
    | with_reducible rfl
    | (simp only [State.traffic_mk, State.traffic_fold, apply_ite State.traffic, ite_self, cause_traffic, emit_traffic, debugOpens_traffic]; done)
    | split
    | dsimp only

theorem program_traffic (field : Nat) (ok : Bool) (f : Fuses → Fuses) (s : State) : (program field ok f s).traffic = s.traffic := by
  unfold program
  repeat' first
    | with_reducible rfl
    | (simp only [State.traffic_foldl, implies_true, State.traffic_mk, State.traffic_fold, apply_ite State.traffic, apply_ite Prod.snd, ite_self, cause_traffic, emit_traffic, takeFree_traffic, lifecycleChanged_traffic]; done)
    | split
    | dsimp only

theorem setMbox_traffic (side : Bool) (c : MboxChan) (s : State) : (setMbox side c s).traffic = s.traffic := by
  rfl

theorem mboxGo_traffic (side : Bool) (op : Nat) (s : State) : (mboxGo side op s).traffic = s.traffic := by
  unfold mboxGo
  simp only [State.traffic_mk, State.traffic_fold, apply_ite State.traffic, ite_self, setMbox_traffic]

theorem mboxStart_traffic (side : Bool) (s : State) : (mboxStart side s).traffic = s.traffic := by
  unfold mboxStart
  repeat' first
    | with_reducible rfl
    | (simp only [State.traffic_mk, State.traffic_fold, apply_ite State.traffic, ite_self, setMbox_traffic]; done)
    | split
    | dsimp only

theorem mboxOutput_traffic (side : Bool) (b : Bytes) (s : State) : (mboxOutput side b s).traffic = s.traffic := by
  unfold mboxOutput
  simp only [State.traffic_foldl, implies_true, State.traffic_mk, State.traffic_fold, apply_ite State.traffic, ite_self, regStore_traffic]

theorem mboxResult_traffic (side : Bool) (res : Nat) (out : Bytes) (s : State) : (mboxResult side res out s).traffic = s.traffic := by
  unfold mboxResult
  simp only [setMbox_traffic]

theorem freeBytes_traffic (n : Nat) (s : State) : (freeBytes n s).2.traffic = s.traffic := by
  induction n generalizing s with
  | zero => rfl
  | succ n ih => rw [freeBytes]; simp only [ih, takeFree_traffic]

theorem identityBlock_traffic (s : State) : (identityBlock s).2.traffic = s.traffic := by
  unfold identityBlock
  split <;> simp only [State.traffic_mk, State.traffic_fold, freeBytes_traffic]

theorem identityBlock_traffic' {s : State} {x' : _} {r' : State} (h' : identityBlock s = (x', r')) : r'.traffic = s.traffic := by
  have k' := identityBlock_traffic s
  rw [h'] at k'
  exact k'

theorem getIdentity_traffic (side : Bool) (s : State) : (getIdentity side s).traffic = s.traffic := by
  unfold getIdentity
  simp only [State.traffic_mk, State.traffic_fold, apply_ite State.traffic, ite_self, mboxResult_traffic, identityBlock_traffic]

theorem getChallenge_traffic (side : Bool) (s : State) : (getChallenge side s).traffic = s.traffic := by
  unfold getChallenge
  simp only [State.traffic_mk, State.traffic_fold, apply_ite State.traffic, ite_self, mboxResult_traffic]

theorem attest_traffic (side : Bool) (s : State) : (attest side s).traffic = s.traffic := by
  unfold attest
  simp only [State.traffic_mk, State.traffic_fold, apply_ite State.traffic, ite_self, mboxResult_traffic]

theorem ownerCommand_traffic (code : Nat) (states : List Lifecycle) (argOk : Bytes → State → Bool) (fuses : Bool)
    (work : Bytes → State → State) (ok : Bool) (s : State) (h : ∀ b s, (work b s).traffic = s.traffic) :
    (ownerCommand code states argOk fuses work ok s).traffic = s.traffic := by
  unfold ownerCommand
  dsimp only
  repeat' first
    | with_reducible rfl
    | (simp only [mboxResult_traffic, h, State.traffic_mk, State.traffic_fold]; done)
    | split

theorem addSlot_traffic (blown : Bool) (s : State) : (addSlot blown s).traffic = s.traffic := by
  unfold addSlot
  simp only [State.traffic_foldl, implies_true, State.traffic_mk, State.traffic_fold, apply_ite State.traffic, ite_self, program_traffic, ownerCommand_traffic]

theorem revokeSlot_traffic (blown : Bool) (s : State) : (revokeSlot blown s).traffic = s.traffic := by
  unfold revokeSlot
  simp only [State.traffic_foldl, implies_true, State.traffic_mk, State.traffic_fold, apply_ite State.traffic, ite_self, program_traffic, ownerCommand_traffic]

theorem raiseSvn_traffic (blown : Bool) (s : State) : (raiseSvn blown s).traffic = s.traffic := by
  unfold raiseSvn
  simp only [State.traffic_foldl, implies_true, State.traffic_mk, State.traffic_fold, apply_ite State.traffic, ite_self, program_traffic, ownerCommand_traffic]

theorem ownerLock_traffic (blown : Bool) (s : State) : (ownerLock blown s).traffic = s.traffic := by
  unfold ownerLock
  simp only [State.traffic_foldl, implies_true, State.traffic_mk, State.traffic_fold, apply_ite State.traffic, ite_self, program_traffic, ownerCommand_traffic]

theorem debugUnlock_traffic (s : State) : (debugUnlock s).traffic = s.traffic := by
  unfold debugUnlock
  simp only [State.traffic_foldl, implies_true, State.traffic_mk, State.traffic_fold, apply_ite State.traffic, ite_self, debugOpens_traffic, ownerCommand_traffic]

theorem ownerReturn_traffic (blown : Bool) (s : State) : (ownerReturn blown s).traffic = s.traffic := by
  unfold ownerReturn
  simp only [State.traffic_foldl, implies_true, State.traffic_mk, State.traffic_fold, apply_ite State.traffic, ite_self, identityBad_traffic, program_traffic, ownerCommand_traffic]

theorem provision_traffic (blown : Bool) (s : State) : (provision blown s).traffic = s.traffic := by
  unfold provision
  simp only [State.traffic_mk, State.traffic_fold, apply_ite State.traffic, ite_self, program_traffic, mboxResult_traffic]

theorem mboxEnd_traffic (side : Bool) (res : Nat) (out : Bytes) (s : State) : (mboxEnd side res out s).traffic = s.traffic := by
  unfold mboxEnd
  simp only [State.traffic_mk, State.traffic_fold, apply_ite State.traffic, ite_self, cause_traffic, emit_traffic, setMbox_traffic, mboxOutput_traffic]

theorem mboxDone_traffic (side : Bool) (s : State) : (mboxDone side s).traffic = s.traffic := by
  unfold mboxDone
  split <;> simp only [State.traffic_mk, State.traffic_fold, setMbox_traffic, mboxEnd_traffic]

theorem mboxCmdWrite_traffic (v : Word32) (s : State) : (mboxCmdWrite v s).traffic = s.traffic := by
  unfold mboxCmdWrite
  simp only [State.traffic_mk, State.traffic_fold, apply_ite State.traffic, ite_self, plainWrite_traffic, mboxGo_traffic]

theorem secWrite_traffic (off : Nat) (v : Word32) (s : State) : (secWrite off v s).traffic = s.traffic := by
  unfold secWrite
  simp only [State.traffic_mk, State.traffic_fold, apply_ite State.traffic, ite_self, plainWrite_traffic, mboxCmdWrite_traffic]

theorem mbOp_traffic (op : Nat) (pec : Bool) (s : State) : (mbOp op pec s).traffic = s.traffic := by
  unfold mbOp
  simp only [State.traffic_mk, State.traffic_fold, apply_ite State.traffic, ite_self, mboxGo_traffic]

theorem mbAnswer_traffic (cmd : Nat) (data : Bytes) (pec : Bool) (s : State) : (mbAnswer cmd data pec s).traffic = s.traffic := by
  unfold mbAnswer
  simp only [State.traffic_mk, State.traffic_fold, apply_ite State.traffic, ite_self, smbAnswer_traffic]

theorem mbNonce_traffic (nonce : Bytes) (pec : Bool) (s : State) : (mbNonce nonce pec s).traffic = s.traffic := by
  unfold mbNonce
  simp only [State.traffic_mk, State.traffic_fold, apply_ite State.traffic, ite_self, mboxOutput_traffic]

theorem mbOffset_traffic (offset : Nat) (pec : Bool) (s : State) : (mbOffset offset pec s).traffic = s.traffic := by
  unfold mbOffset
  simp only [State.traffic_mk, State.traffic_fold, apply_ite State.traffic, ite_self]

theorem mbRead_traffic (pec : Bool) (s : State) : (mbRead pec s).traffic = s.traffic := by
  unfold mbRead
  simp only [State.traffic_mk, State.traffic_fold, apply_ite State.traffic, ite_self, mbAnswer_traffic]

theorem jtagLoad_traffic (ir : Nat) (drive : Bool) (out : Nat) (s : State) : (jtagLoad ir drive out s).traffic = s.traffic := by
  rfl

theorem tap_traffic (trst : Bool) (f : State → State) (s : State) (h : ∀ s, (f s).traffic = s.traffic) : (tap trst f s).traffic = s.traffic := by
  unfold tap
  dsimp only
  split
  · exact (h _).trans rfl
  · exact (jtagLoad_traffic ..).trans rfl

theorem captured_traffic (n : Nat) (s : State) : (captured n s).2.traffic = s.traffic := by
  induction n generalizing s with
  | zero => rfl
  | succ n ih => rw [captured]; simp only [ih, takeFree_traffic]

theorem scanBits_traffic (ir : Nat) (drive : Bool) (bits : List Bool) (s : State) : (scanBits ir drive bits s).traffic = s.traffic := by
  unfold scanBits
  simp only [State.traffic_mk, State.traffic_fold, jtagLoad_traffic, captured_traffic]

theorem jtagMbox_traffic (off : Nat) (w : Option Word32) (s : State) : (jtagMbox off w s).traffic = s.traffic := by
  unfold jtagMbox
  repeat' first
    | with_reducible rfl
    | (simp only [State.traffic_mk, State.traffic_fold, apply_ite State.traffic, ite_self, secWrite_traffic, jtagLoad_traffic]; done)
    | split
    | dsimp only

/-! ### Boot -/

theorem freeHalf_traffic (h : Nat) (s : State) : (freeHalf h s).traffic = s.traffic := by
  unfold freeHalf
  simp only [State.traffic_mk, State.traffic_fold, apply_ite State.traffic, ite_self, cause_traffic]

theorem halfConsumed_traffic (s : State) : (halfConsumed s).traffic = s.traffic := by
  unfold halfConsumed
  repeat' first
    | with_reducible rfl
    | (simp only [State.traffic_mk, State.traffic_fold, apply_ite State.traffic, ite_self, freeHalf_traffic]; done)
    | split
    | dsimp only

/-! ### Irq -/

theorem msixMessage_traffic (s : State) : (msixMessage s).traffic = s.traffic := by
  rfl

theorem msixSend_traffic (s : State) : (msixSend s).traffic = s.traffic := by
  unfold msixSend
  simp only [State.traffic_mk, State.traffic_fold, apply_ite State.traffic, ite_self, msixMessage_traffic]

theorem holdoffExpiry_traffic (s : State) : (holdoffExpiry s).traffic = s.traffic := by
  unfold holdoffExpiry
  simp only [State.traffic_mk, State.traffic_fold, apply_ite State.traffic, ite_self, msixSend_traffic]

theorem settlePba_traffic (s : State) : (settlePba s).traffic = s.traffic := by
  unfold settlePba
  simp only [State.traffic_mk, State.traffic_fold, apply_ite State.traffic, ite_self]

theorem msixUnpend_traffic (s : State) : (msixUnpend s).traffic = s.traffic := by
  unfold msixUnpend
  simp only [State.traffic_mk, State.traffic_fold, apply_ite State.traffic, ite_self, msixMessage_traffic, settlePba_traffic]

theorem msixMask_traffic (func vec enable : Bool) (s : State) : (msixMask func vec enable s).traffic = s.traffic := by
  unfold msixMask
  simp only [State.traffic_mk, State.traffic_fold, msixUnpend_traffic]

theorem eoiWrite_traffic (v : Word32) (s : State) : (eoiWrite v s).traffic = s.traffic := by
  unfold eoiWrite
  simp only [State.traffic_mk, State.traffic_fold, apply_ite State.traffic, ite_self]

/-! ### PcieLink -/

theorem notePcie_traffic (s : State) : (notePcie s).traffic = s.traffic := by
  unfold notePcie
  simp only [emit_traffic]

theorem notePerst_traffic (s : State) : (notePerst s).traffic = s.traffic := by
  unfold notePerst
  simp only [emit_traffic]

theorem perstRelease_traffic (s : State) : (perstRelease s).traffic = s.traffic := by
  unfold perstRelease
  simp only [State.traffic_mk, State.traffic_fold, apply_ite State.traffic, ite_self, notePerst_traffic]

theorem pcieLinkUp_traffic (rate width : Nat) (s : State) : (pcieLinkUp rate width s).traffic = s.traffic := by
  unfold pcieLinkUp
  simp only [State.traffic_mk, State.traffic_fold, apply_ite State.traffic, ite_self, notePcie_traffic]

/-! ### Bar0 -/

theorem clearRc_traffic (off : Nat) (s : State) : (clearRc off s).traffic = s.traffic := by
  unfold clearRc
  repeat' first
    | with_reducible rfl
    | (simp only [State.traffic_mk, State.traffic_fold, apply_ite State.traffic, ite_self, regStore_traffic]; done)
    | split
    | dsimp only

theorem readEffect_traffic (off : Nat) (s : State) : (readEffect off s).traffic = s.traffic := by
  unfold readEffect
  repeat' first
    | with_reducible rfl
    | (simp only [State.traffic_mk, State.traffic_fold, apply_ite State.traffic, ite_self, affNext_traffic, gclRead_traffic, clearRc_traffic]; done)
    | split
    | dsimp only

theorem registerRead_traffic (off size : Nat) (s : State) : (registerRead off size s).traffic = s.traffic := by
  unfold registerRead
  simp only [State.traffic_mk, State.traffic_fold, apply_ite State.traffic, ite_self, complete_traffic, unsupported_traffic, readEffect_traffic]

theorem userRead_traffic (off size : Nat) (s : State) : (userRead off size s).traffic = s.traffic := by
  unfold userRead
  simp only [complete_traffic]

theorem cfgRead_traffic (off : Nat) (s : State) : (cfgRead off s).traffic = s.traffic := by
  unfold cfgRead
  split <;> simp only [complete_traffic, takeFree_traffic]

/-! ### The commands -/

theorem execDmaFlushTimeout_traffic {n : Fin 32} {s : State} {s' : State} (h : execDmaFlushTimeout n s = .next s') : s'.traffic = s.traffic := by
  cases h
  simp only [State.traffic_mk, State.traffic_fold, apply_ite State.traffic, ite_self, freshOut_traffic, flushTimeout_traffic]

theorem execDmaRingEnable_traffic {n : Fin 32} {v : Word32} {s : State} {s' : State} (h : execDmaRingEnable n v s = .next s') : s'.traffic = s.traffic := by
  cases h
  simp only [State.traffic_mk, State.traffic_fold, apply_ite State.traffic, ite_self, freshOut_traffic, ringCfgWrite_traffic]

theorem execDmaRingDisable_traffic {n : Fin 32} {v : Word32} {s : State} {s' : State} (h : execDmaRingDisable n v s = .next s') : s'.traffic = s.traffic := by
  cases h
  simp only [State.traffic_mk, State.traffic_fold, apply_ite State.traffic, ite_self, freshOut_traffic, ringCfgWrite_traffic]

theorem execDmaTailWrite_traffic {n : Fin 32} {v : Word32} {s : State} {s' : State} (h : execDmaTailWrite n v s = .next s') : s'.traffic = s.traffic := by
  cases h
  simp only [State.traffic_mk, State.traffic_fold, apply_ite State.traffic, ite_self, tailWrite_traffic]

theorem execBatchDone_traffic {n : Fin 32} {s : State} {s' : State} (h : execBatchDone n s = .next s') : s'.traffic = s.traffic := by
  cases h
  simp only [State.traffic_mk, State.traffic_fold, apply_ite State.traffic, ite_self, freshOut_traffic, batchDone_traffic]

theorem execDmaDescFetch_traffic {n : Fin 32} {desc data : Option Bytes} {s : State} {s' : State} (h : execDmaDescFetch n desc data s = .next s') : s'.traffic = s.traffic := by
  cases h
  simp only [freshOut_traffic, descFetch_traffic]

theorem execTimeSnap_traffic {s : State} {s' : State} (h : execTimeSnap s = .next s') : s'.traffic = s.traffic := by
  cases h
  simp only [timeSnap_traffic]

theorem execTimeIncrWrite_traffic {half : Option Bool} {w : Word64} {s : State} {s' : State} (h : execTimeIncrWrite half w s = .next s') : s'.traffic = s.traffic := by
  cases h
  simp only [incrWrite_traffic]

theorem execTimeApply_traffic {v : Word32} {s : State} {s' : State} (h : execTimeApply v s = .next s') : s'.traffic = s.traffic := by
  cases h
  simp only [State.traffic_mk, State.traffic_fold, apply_ite State.traffic, ite_self, timeCtrlWrite_traffic]

theorem execFollowCheck_traffic {s : State} {s' : State} (h : execFollowCheck s = .next s') : s'.traffic = s.traffic := by
  cases h
  simp only [followCheck_traffic]

theorem execRefclkTimeLoss_traffic {s : State} {s' : State} (h : execRefclkTimeLoss s = .next s') : s'.traffic = s.traffic := by
  cases h
  simp only [refclkTime_traffic]

theorem execRefclkTimeReturn_traffic {s : State} {s' : State} (h : execRefclkTimeReturn s = .next s') : s'.traffic = s.traffic := by
  cases h
  simp only [refclkTime_traffic]

theorem execTrigArm_traffic {i : Fin 8} {v : Word32} {s : State} {s' : State} (h : execTrigArm i v s = .next s') : s'.traffic = s.traffic := by
  cases h
  simp only [State.traffic_mk, State.traffic_fold, apply_ite State.traffic, ite_self, trigCtrlWrite_traffic]

theorem execTrigDisarm_traffic {i : Fin 8} {v : Word32} {s : State} {s' : State} (h : execTrigDisarm i v s = .next s') : s'.traffic = s.traffic := by
  cases h
  simp only [State.traffic_mk, State.traffic_fold, apply_ite State.traffic, ite_self, trigCtrlWrite_traffic]

theorem execTrigEdge_traffic {i : Fin 8} {s : State} {s' : State} (h : execTrigEdge i s = .next s') : s'.traffic = s.traffic := by
  cases h
  simp only [trigEdge_traffic]

theorem execTrigPulseEnd_traffic {i : Fin 8} {s : State} {s' : State} (h : execTrigPulseEnd i s = .next s') : s'.traffic = s.traffic := by
  cases h
  simp only [trigPulseEnd_traffic]

theorem execCaptureEdge_traffic {i : Fin 9} {rising : Bool} {s : State} {s' : State} (h : execCaptureEdge i rising s = .next s') : s'.traffic = s.traffic := by
  cases h
  simp only [captureEdge_traffic]

theorem execCapturePop_traffic {i : Fin 9} {s : State} {s' : State} (h : execCapturePop i s = .next s') : s'.traffic = s.traffic := by
  cases h
  simp only [capturePop_traffic]

theorem execPpsEdge_traffic {s : State} {s' : State} (h : execPpsEdge s = .next s') : s'.traffic = s.traffic := by
  cases h
  simp only [ppsEdge_traffic]

theorem execPpsPulseEnd_traffic {s : State} {s' : State} (h : execPpsPulseEnd s = .next s') : s'.traffic = s.traffic := by
  cases h
  simp only [ppsPulseEnd_traffic]

theorem execTs2Pop_traffic {s : State} {s' : State} (h : execTs2Pop s = .next s') : s'.traffic = s.traffic := by
  cases h
  simp only [ts2Pop_traffic]

theorem execSillageDeliver_traffic {s : State} {s' : State} (h : execSillageDeliver s = .next s') : s'.traffic = s.traffic := by
  cases h
  simp only [freshOut_traffic, sillDeliver_traffic]

theorem execDispSampleCfgWrite_traffic {v : Word32} {s : State} {s' : State} (h : execDispSampleCfgWrite v s = .next s') : s'.traffic = s.traffic := by
  unfold execDispSampleCfgWrite at h
  cases h
  simp only [State.traffic_mk, State.traffic_fold, apply_ite State.traffic, ite_self, implies_true, gated_traffic, dispCfgWrite_traffic]

theorem execPortWindowLatch_traffic {s : State} {s' : State} (h : execPortWindowLatch s = .next s') : s'.traffic = s.traffic := by
  cases h
  simp only [windowLatch_traffic]

theorem execPerfFreeze_traffic {v : Word32} {s : State} {s' : State} (h : execPerfFreeze v s = .next s') : s'.traffic = s.traffic := by
  unfold execPerfFreeze at h
  cases h
  simp only [State.traffic_mk, State.traffic_fold, apply_ite State.traffic, ite_self, implies_true, gated_traffic, freezeWrite_traffic]

theorem execPerfUnfreeze_traffic {v : Word32} {s : State} {s' : State} (h : execPerfUnfreeze v s = .next s') : s'.traffic = s.traffic := by
  unfold execPerfUnfreeze at h
  cases h
  simp only [State.traffic_mk, State.traffic_fold, apply_ite State.traffic, ite_self, implies_true, gated_traffic, freezeWrite_traffic]

theorem execPerfScheduledAct_traffic {s : State} {s' : State} (h : execPerfScheduledAct s = .next s') : s'.traffic = s.traffic := by
  cases h
  simp only [scheduledAct_traffic]

theorem execPerfClear_traffic {v : Word32} {s : State} {s' : State} (h : execPerfClear v s = .next s') : s'.traffic = s.traffic := by
  unfold execPerfClear at h
  cases h
  simp only [State.traffic_mk, State.traffic_fold, apply_ite State.traffic, ite_self, implies_true, gated_traffic, perfCtrlWrite_traffic]

theorem execPerfDump_traffic {s : State} {s' : State} (h : execPerfDump s = .next s') : s'.traffic = s.traffic := by
  cases h
  simp only [perfDump_traffic]

theorem execSieveWrite_traffic {cmd : Word32} {s : State} {s' : State} (h : execSieveWrite cmd s = .next s') : s'.traffic = s.traffic := by
  unfold execSieveWrite at h
  cases h
  simp only [State.traffic_mk, State.traffic_fold, apply_ite State.traffic, ite_self, implies_true, gated_traffic, sieveRow_traffic]

theorem execSieveInsert_traffic {cmd : Word32} {s : State} {s' : State} (h : execSieveInsert cmd s = .next s') : s'.traffic = s.traffic := by
  unfold execSieveInsert at h
  cases h
  simp only [State.traffic_mk, State.traffic_fold, apply_ite State.traffic, ite_self, implies_true, gated_traffic, sieveRow_traffic]

theorem execSieveFind_traffic {cmd : Word32} {s : State} {s' : State} (h : execSieveFind cmd s = .next s') : s'.traffic = s.traffic := by
  unfold execSieveFind at h
  cases h
  simp only [State.traffic_mk, State.traffic_fold, apply_ite State.traffic, ite_self, implies_true, gated_traffic, sieveRow_traffic]

theorem execSieveInvalidate_traffic {cmd : Word32} {s : State} {s' : State} (h : execSieveInvalidate cmd s = .next s') : s'.traffic = s.traffic := by
  unfold execSieveInvalidate at h
  cases h
  simp only [State.traffic_mk, State.traffic_fold, apply_ite State.traffic, ite_self, implies_true, gated_traffic, sieveRow_traffic]

theorem execSieveSetEm_traffic {cmd : Word32} {s : State} {s' : State} (h : execSieveSetEm cmd s = .next s') : s'.traffic = s.traffic := by
  unfold execSieveSetEm at h
  cases h
  simp only [State.traffic_mk, State.traffic_fold, apply_ite State.traffic, ite_self, implies_true, gated_traffic, sieveRow_traffic]

theorem execSieveRead_traffic {cmd : Word32} {s : State} {s' : State} (h : execSieveRead cmd s = .next s') : s'.traffic = s.traffic := by
  unfold execSieveRead at h
  cases h
  simp only [State.traffic_mk, State.traffic_fold, apply_ite State.traffic, ite_self, implies_true, gated_traffic, sieveRow_traffic]

theorem execSieveOpDone_traffic {s : State} {s' : State} (h : execSieveOpDone s = .next s') : s'.traffic = s.traffic := by
  cases h
  simp only [freshOut_traffic, sieveOpDone_traffic]

theorem execBatchSieve_traffic {n : Fin 32} {s : State} {s' : State} (h : execBatchSieve n s = .next s') : s'.traffic = s.traffic := by
  cases h
  simp only [State.traffic_mk, State.traffic_fold, apply_ite State.traffic, ite_self, batchSieve_traffic]

theorem execAccordSwap_traffic {s : State} {s' : State} (h : execAccordSwap s = .next s') : s'.traffic = s.traffic := by
  unfold execAccordSwap at h
  cases h
  simp only [State.traffic_mk, State.traffic_fold, apply_ite State.traffic, ite_self, implies_true, gated_traffic, accordSwap_traffic]

theorem execAccordTSwap_traffic {s : State} {s' : State} (h : execAccordTSwap s = .next s') : s'.traffic = s.traffic := by
  cases h
  simp only [freshOut_traffic, accordTSwap_traffic]

theorem execAccordDrained_traffic {s : State} {s' : State} (h : execAccordDrained s = .next s') : s'.traffic = s.traffic := by
  cases h
  simp only [freshOut_traffic, accordDrained_traffic]

theorem execAccordDrainTmo_traffic {s : State} {s' : State} (h : execAccordDrainTmo s = .next s') : s'.traffic = s.traffic := by
  cases h
  simp only [accordDrainTmo_traffic]

theorem execBatchSwap_traffic {n : Fin 32} {s : State} {s' : State} (h : execBatchSwap n s = .next s') : s'.traffic = s.traffic := by
  cases h
  simp only [State.traffic_mk, State.traffic_fold, apply_ite State.traffic, ite_self, freshOut_traffic, batchSwap_traffic]

theorem execBatchWaitDrained_traffic {n : Fin 32} {s : State} {s' : State} (h : execBatchWaitDrained n s = .next s') : s'.traffic = s.traffic := by
  cases h
  simp only [State.traffic_mk, State.traffic_fold, apply_ite State.traffic, ite_self, freshOut_traffic, batchWait_traffic]

theorem execBatchWaitTimeout_traffic {n : Fin 32} {s : State} {s' : State} (h : execBatchWaitTimeout n s = .next s') : s'.traffic = s.traffic := by
  cases h
  simp only [State.traffic_mk, State.traffic_fold, apply_ite State.traffic, ite_self, freshOut_traffic, batchTimeout_traffic]

theorem execOccLimitWrite_traffic {v : Word32} {s : State} {s' : State} (h : execOccLimitWrite v s = .next s') : s'.traffic = s.traffic := by
  unfold execOccLimitWrite at h
  cases h
  simp only [State.traffic_mk, State.traffic_fold, apply_ite State.traffic, ite_self, implies_true, gated_traffic, occLimitWrite_traffic]

theorem execAllowanceGrant_traffic {s : State} {s' : State} (h : execAllowanceGrant s = .next s') : s'.traffic = s.traffic := by
  cases h
  simp only [grantHead_traffic]

theorem execSlewStep_traffic {s : State} {s' : State} (h : execSlewStep s = .next s') : s'.traffic = s.traffic := by
  cases h
  simp only [slewStep_traffic]

theorem execDispStallInterval_traffic {b : Fin 4} {s : State} {s' : State} (h : execDispStallInterval b s = .next s') : s'.traffic = s.traffic := by
  cases h
  simp only [stallInterval_traffic]

theorem execNoseBurstReturn_traffic {b : Fin 4} {s : State} {s' : State} (h : execNoseBurstReturn b s = .next s') : s'.traffic = s.traffic := by
  cases h
  simp only [noseBurstReturn_traffic]

theorem execNoseInvalidate_traffic {v : Word32} {s : State} {s' : State} (h : execNoseInvalidate v s = .next s') : s'.traffic = s.traffic := by
  unfold execNoseInvalidate at h
  cases h
  simp only [State.traffic_mk, State.traffic_fold, apply_ite State.traffic, ite_self, implies_true, gated_traffic, noseInvalidate_traffic]

theorem execNoseQuiesced_traffic {g : Fin 64} {s : State} {s' : State} (h : execNoseQuiesced g s = .next s') : s'.traffic = s.traffic := by
  cases h
  simp only [noseQuiesced_traffic]

theorem execNoseValidate_traffic {v : Word32} {s : State} {s' : State} (h : execNoseValidate v s = .next s') : s'.traffic = s.traffic := by
  unfold execNoseValidate at h
  cases h
  simp only [State.traffic_mk, State.traffic_fold, apply_ite State.traffic, ite_self, implies_true, gated_traffic, noseValidate_traffic]

theorem execNoseMemWrite_traffic {v : Word32} {s : State} {s' : State} (h : execNoseMemWrite v s = .next s') : s'.traffic = s.traffic := by
  unfold execNoseMemWrite at h
  cases h
  simp only [State.traffic_mk, State.traffic_fold, apply_ite State.traffic, ite_self, implies_true, gated_traffic, noseMemWrite_traffic]

theorem execAuditLapAlarm_traffic {m : Fin 6} {s : State} {s' : State} (h : execAuditLapAlarm m s = .next s') : s'.traffic = s.traffic := by
  cases h
  simp only [lapAlarm_traffic]

theorem execCsScrub_traffic {d : Fin 16} {addr : BitVec 14} {e : EccResult} {s : State} {s' : State} (h : execCsScrub d addr e s = .next s') : s'.traffic = s.traffic := by
  cases h
  simp only [csScrub_traffic]

theorem execFecUncorrCodeword_traffic {p : Fin 64} {s : State} {s' : State} (h : execFecUncorrCodeword p s = .next s') : s'.traffic = s.traffic := by
  cases h
  simp only [fecUncorr_traffic]

theorem execNptMapValidate_traffic {m : Fin 64} {v : Word32} {s : State} {s' : State} (h : execNptMapValidate m v s = .next s') : s'.traffic = s.traffic := by
  unfold execNptMapValidate at h
  cases h
  simp only [State.traffic_mk, State.traffic_fold, apply_ite State.traffic, ite_self, implies_true, gated_traffic, nptCtlWrite_traffic]

theorem execGclDurRead_traffic {s : State} {s' : State} (h : execGclDurRead s = .next s') : s'.traffic = s.traffic := by
  cases h
  simp only [gclReadHost_traffic]

theorem execOffsetAdd_traffic {s : State} {s' : State} (h : execOffsetAdd s = .next s') : s'.traffic = s.traffic := by
  cases h
  simp only [offsetStep_traffic]

theorem execDmaStarveInterval_traffic {n : Fin 32} {s : State} {s' : State} (h : execDmaStarveInterval n s = .next s') : s'.traffic = s.traffic := by
  cases h
  simp only [starveInterval_traffic]

theorem execTethRetrain_traffic {v : Word32} {s : State} {s' : State} (h : execTethRetrain v s = .next s') : s'.traffic = s.traffic := by
  unfold execTethRetrain at h
  cases h
  simp only [State.traffic_mk, State.traffic_fold, apply_ite State.traffic, ite_self, implies_true, gated_traffic, tethCtrlWrite_traffic]

theorem execTethTrainDone_traffic {s : State} {s' : State} (h : execTethTrainDone s = .next s') : s'.traffic = s.traffic := by
  cases h
  simp only [tethTrained_traffic]

theorem execTethLaneCheck_traffic {errors : List Nat} {peer : BitVec 8} {s : State} {s' : State} (h : execTethLaneCheck errors peer s = .next s') : s'.traffic = s.traffic := by
  cases h
  simp only [laneCheck_traffic]

theorem execTethLinkUp_traffic {peer set : BitVec 8} {s : State} {s' : State} (h : execTethLinkUp peer set s = .next s') : s'.traffic = s.traffic := by
  cases h
  simp only [freshTeth_traffic, tethLinkUp_traffic]

theorem execTethReform_traffic {lane : Fin 8} {set : BitVec 8} {s : State} {s' : State} (h : execTethReform lane set s = .next s') : s'.traffic = s.traffic := by
  cases h
  simp only [freshTeth_traffic, tethReform_traffic]

theorem execTethLinkDown_traffic {s : State} {s' : State} (h : execTethLinkDown s = .next s') : s'.traffic = s.traffic := by
  cases h
  simp only [tethLinkDown_traffic]

theorem execLinkFrameRx_traffic {kind : Nat} {seq : BitVec 16} {crcOk : Bool} {ack nak : Option (BitVec 16)} {buf : SramRead} {s : State} {s' : State} (h : execLinkFrameRx kind seq crcOk ack nak buf s = .next s') : s'.traffic = s.traffic := by
  cases h
  simp only [freshTeth_traffic, linkRx_traffic]

theorem execHeartbeatSend_traffic {s : State} {s' : State} (h : execHeartbeatSend s = .next s') : s'.traffic = s.traffic := by
  cases h
  simp only [heartbeatSend_traffic]

theorem execPaceUpdate_traffic {b : Fin 4} {descs steps : Nat} {s : State} {s' : State} (h : execPaceUpdate b descs steps s = .next s') : s'.traffic = s.traffic := by
  cases h
  simp only [paceUpdate_traffic]

theorem execDomainRequest_traffic {v : Word32} {s : State} {s' : State} (h : execDomainRequest v s = .next s') : s'.traffic = s.traffic := by
  cases h
  simp only [State.traffic_mk, State.traffic_fold, apply_ite State.traffic, ite_self, domainReqWrite_traffic]

theorem execDomainRampStart_traffic {d : Fin 30} {s : State} {s' : State} (h : execDomainRampStart d s = .next s') : s'.traffic = s.traffic := by
  cases h
  simp only [rampStart_traffic]

theorem execAvsUpdate_traffic {iout : Nat} {vrmOk : Bool} {s : State} {s' : State} (h : execAvsUpdate iout vrmOk s = .next s') : s'.traffic = s.traffic := by
  cases h
  simp only [avsUpdate_traffic]

theorem execAvsRestart_traffic {v : Word32} {s : State} {s' : State} (h : execAvsRestart v s = .next s') : s'.traffic = s.traffic := by
  cases h
  simp only [State.traffic_mk, State.traffic_fold, apply_ite State.traffic, ite_self, avsCfgWrite_traffic]

theorem execQuietStall_traffic {s : State} {s' : State} (h : execQuietStall s = .next s') : s'.traffic = s.traffic := by
  cases h
  simp only [quietStall_traffic]

theorem execAllowanceRequest_traffic {u : Fin 11} {s : State} {s' : State} (h : execAllowanceRequest u s = .next s') : s'.traffic = s.traffic := by
  cases h
  simp only [State.traffic_mk, State.traffic_fold, apply_ite State.traffic, ite_self, requestAllowance_traffic]

theorem execAllowanceReturn_traffic {u : Fin 11} {s : State} {s' : State} (h : execAllowanceReturn u s = .next s') : s'.traffic = s.traffic := by
  cases h
  simp only [State.traffic_mk, State.traffic_fold, apply_ite State.traffic, ite_self, returnAllowance_traffic]

theorem execSmbTemps_traffic {pec : Bool} {s : State} {s' : State} (h : execSmbTemps pec s = .next s') : s'.traffic = s.traffic := by
  cases h
  simp only [smbAnswer_traffic]

theorem execSmbState_traffic {pec : Bool} {s : State} {s' : State} (h : execSmbState pec s = .next s') : s'.traffic = s.traffic := by
  cases h
  simp only [smbAnswer_traffic]

theorem execSmbBrown_traffic {pec : Bool} {s : State} {s' : State} (h : execSmbBrown pec s = .next s') : s'.traffic = s.traffic := by
  cases h
  simp only [smbAnswer_traffic]

theorem execSmbIout_traffic {pec : Bool} {s : State} {s' : State} (h : execSmbIout pec s = .next s') : s'.traffic = s.traffic := by
  cases h
  simp only [smbAnswer_traffic]

theorem execMboxQueuedStart_traffic {side : Bool} {s : State} {s' : State} (h : execMboxQueuedStart side s = .next s') : s'.traffic = s.traffic := by
  cases h
  simp only [mboxStart_traffic]

theorem execMboxGetIdentity_traffic {side : Bool} {s : State} {s' : State} (h : execMboxGetIdentity side s = .next s') : s'.traffic = s.traffic := by
  cases h
  simp only [getIdentity_traffic]

theorem execMboxGetChallenge_traffic {side : Bool} {s : State} {s' : State} (h : execMboxGetChallenge side s = .next s') : s'.traffic = s.traffic := by
  cases h
  simp only [getChallenge_traffic]

theorem execMboxAttest_traffic {side : Bool} {s : State} {s' : State} (h : execMboxAttest side s = .next s') : s'.traffic = s.traffic := by
  cases h
  simp only [attest_traffic]

theorem execAddSlot_traffic {blown : Bool} {s : State} {s' : State} (h : execAddSlot blown s = .next s') : s'.traffic = s.traffic := by
  cases h
  simp only [addSlot_traffic]

theorem execRevokeSlot_traffic {blown : Bool} {s : State} {s' : State} (h : execRevokeSlot blown s = .next s') : s'.traffic = s.traffic := by
  cases h
  simp only [revokeSlot_traffic]

theorem execRaiseSvn_traffic {blown : Bool} {s : State} {s' : State} (h : execRaiseSvn blown s = .next s') : s'.traffic = s.traffic := by
  cases h
  simp only [raiseSvn_traffic]

theorem execOwnerLock_traffic {blown : Bool} {s : State} {s' : State} (h : execOwnerLock blown s = .next s') : s'.traffic = s.traffic := by
  cases h
  simp only [ownerLock_traffic]

theorem execDebugUnlock_traffic {s : State} {s' : State} (h : execDebugUnlock s = .next s') : s'.traffic = s.traffic := by
  cases h
  simp only [debugUnlock_traffic]

theorem execOwnerReturn_traffic {blown : Bool} {s : State} {s' : State} (h : execOwnerReturn blown s = .next s') : s'.traffic = s.traffic := by
  cases h
  simp only [ownerReturn_traffic]

theorem execMboxProvision_traffic {blown : Bool} {s : State} {s' : State} (h : execMboxProvision blown s = .next s') : s'.traffic = s.traffic := by
  cases h
  simp only [provision_traffic]

theorem execMboxOpDone_traffic {side : Bool} {s : State} {s' : State} (h : execMboxOpDone side s = .next s') : s'.traffic = s.traffic := by
  cases h
  simp only [mboxDone_traffic]

theorem execMbOp_traffic {op : Byte} {pec : Bool} {s : State} {s' : State} (h : execMbOp op pec s = .next s') : s'.traffic = s.traffic := by
  cases h
  simp only [mbOp_traffic]

theorem execMbStatus_traffic {pec : Bool} {s : State} {s' : State} (h : execMbStatus pec s = .next s') : s'.traffic = s.traffic := by
  cases h
  simp only [mbAnswer_traffic]

theorem execMbNonce_traffic {nonce : Bytes} {pec : Bool} {s : State} {s' : State} (h : execMbNonce nonce pec s = .next s') : s'.traffic = s.traffic := by
  cases h
  simp only [mbNonce_traffic]

theorem execMbOffset_traffic {offset : BitVec 16} {pec : Bool} {s : State} {s' : State} (h : execMbOffset offset pec s = .next s') : s'.traffic = s.traffic := by
  cases h
  simp only [mbOffset_traffic]

theorem execMbRead_traffic {pec : Bool} {s : State} {s' : State} (h : execMbRead pec s = .next s') : s'.traffic = s.traffic := by
  cases h
  simp only [mbRead_traffic]

theorem execJtagBypass_traffic {trst : Bool} {bits : List Bool} {s : State} {s' : State} (h : execJtagBypass trst bits s = .next s') : s'.traffic = s.traffic := by
  unfold execJtagBypass at h
  cases h
  simp only [State.traffic_mk, State.traffic_fold, apply_ite State.traffic, ite_self, implies_true, jtagLoad_traffic, tap_traffic]

theorem execJtagIdcode_traffic {trst : Bool} {s : State} {s' : State} (h : execJtagIdcode trst s = .next s') : s'.traffic = s.traffic := by
  unfold execJtagIdcode at h
  cases h
  simp only [State.traffic_mk, State.traffic_fold, apply_ite State.traffic, ite_self, implies_true, jtagLoad_traffic, tap_traffic]

theorem execJtagSamplePreload_traffic {trst : Bool} {bits : List Bool} {s : State} {s' : State} (h : execJtagSamplePreload trst bits s = .next s') : s'.traffic = s.traffic := by
  unfold execJtagSamplePreload at h
  cases h
  simp only [State.traffic_mk, State.traffic_fold, apply_ite State.traffic, ite_self, implies_true, tap_traffic, scanBits_traffic]

theorem execJtagExtest_traffic {trst : Bool} {bits : List Bool} {s : State} {s' : State} (h : execJtagExtest trst bits s = .next s') : s'.traffic = s.traffic := by
  unfold execJtagExtest at h
  cases h
  simp only [State.traffic_mk, State.traffic_fold, apply_ite State.traffic, ite_self, implies_true, tap_traffic, scanBits_traffic]

theorem execJtagMbox_traffic {trst : Bool} {off : Nat} {w : Option Word32} {s : State} {s' : State} (h : execJtagMbox trst off w s = .next s') : s'.traffic = s.traffic := by
  unfold execJtagMbox at h
  cases h
  simp only [State.traffic_mk, State.traffic_fold, apply_ite State.traffic, ite_self, implies_true, tap_traffic, jtagMbox_traffic]

theorem execJtagDebugInstruction_traffic {trst : Bool} {code : Nat} {s : State} {s' : State} (h : execJtagDebugInstruction trst code s = .next s') : s'.traffic = s.traffic := by
  unfold execJtagDebugInstruction at h
  split at h
  · cases h
  · cases h
    exact tap_traffic _ _ _ fun _ => rfl

theorem execPushHalfConsumed_traffic {s : State} {s' : State} (h : execPushHalfConsumed s = .next s') : s'.traffic = s.traffic := by
  cases h
  simp only [halfConsumed_traffic]

theorem execMsixSend_traffic {s : State} {s' : State} (h : execMsixSend s = .next s') : s'.traffic = s.traffic := by
  cases h
  simp only [msixSend_traffic]

theorem execMsixHoldoffExpiry_traffic {s : State} {s' : State} (h : execMsixHoldoffExpiry s = .next s') : s'.traffic = s.traffic := by
  cases h
  simp only [holdoffExpiry_traffic]

theorem execMsixUnmask_traffic {func vec enable : Bool} {s : State} {s' : State} (h : execMsixUnmask func vec enable s = .next s') : s'.traffic = s.traffic := by
  cases h
  simp only [State.traffic_mk, State.traffic_fold, apply_ite State.traffic, ite_self, msixMask_traffic]

theorem execIrqEoi_traffic {v : Word32} {s : State} {s' : State} (h : execIrqEoi v s = .next s') : s'.traffic = s.traffic := by
  cases h
  simp only [State.traffic_mk, State.traffic_fold, apply_ite State.traffic, ite_self, eoiWrite_traffic]

theorem execPerstRelease_traffic {s : State} {s' : State} (h : execPerstRelease s = .next s') : s'.traffic = s.traffic := by
  cases h
  simp only [perstRelease_traffic]

theorem execPcieLinkUp_traffic {rate : Fin 8} {width : Fin 32} {s : State} {s' : State} (h : execPcieLinkUp rate width s = .next s') : s'.traffic = s.traffic := by
  cases h
  simp only [pcieLinkUp_traffic]

theorem execRcRead_traffic {off size : Nat} {s : State} {s' : State} (h : execRcRead off size s = .next s') : s'.traffic = s.traffic := by
  cases h
  simp only [State.traffic_mk, State.traffic_fold, apply_ite State.traffic, ite_self, registerRead_traffic, userRead_traffic, cfgRead_traffic]

theorem execUnsupportedRequest_traffic {off size : Nat} {write : Bool} {s : State} {s' : State} (h : execUnsupportedRequest off size write s = .next s') : s'.traffic = s.traffic := by
  cases h
  simp only [State.traffic_mk, State.traffic_fold, apply_ite State.traffic, ite_self, unsupported_traffic]

end Sys2Proof.Machine
end

