-- ==== Sys2Proof/Tests/Slice0.lean ====
section
/-!
SUPPORT. Tests on fixed values: an ill-formed operand for each check of well-formedness, the worked examples of the spec that
name a value, and for every statement with hypotheses a state and operands that meet them together.
-/
namespace Sys2Proof.Tests
open Sys2Proof.Machine

set_option Elab.async false

/-! ### Well-formedness -/

theorem test_wf_register_offset : Instr.wellFormed (.registerWrite 0x1010000 4 0) = false := by decide +kernel
theorem test_wf_register_size : Instr.wellFormed (.registerWrite 0x100 2 0) = false := by decide +kernel
theorem test_wf_read_offset : Instr.wellFormed (.rcRead 0x1011000 4) = false := by decide +kernel
theorem test_wf_read_size : Instr.wellFormed (.rcRead 0x100 16) = false := by decide +kernel
theorem test_wf_request_offset : Instr.wellFormed (.unsupportedRequest 0x1010000 4 true) = false := by decide +kernel
theorem test_wf_request_empty : Instr.wellFormed (.unsupportedRequest 0x100 0 true) = false := by decide +kernel
theorem test_wf_request_long : Instr.wellFormed (.unsupportedRequest 0x100 4097 true) = false := by decide +kernel
theorem test_wf_pace_descs : Instr.wellFormed (.paceUpdate 0 (2 ^ 34) 0) = false := by decide +kernel
theorem test_wf_pace_steps : Instr.wellFormed (.paceUpdate 0 0 (2 ^ 34)) = false := by decide +kernel
theorem test_wf_start_empty : Instr.wellFormed (.frameRxStart 0 [] false) = false := by decide +kernel
theorem test_wf_start_long (data : Bytes) (h : data.length = 65537) : Instr.wellFormed (.frameRxStart 0 data false) = false := by simp [Instr.wellFormed, h]
theorem test_wf_tail_long (data : Bytes) (h : data.length = 65537) : Instr.wellFormed (.frameRxTail 0 data true 0 []) = false := by simp [Instr.wellFormed, h]
theorem test_wf_tail_symbols : Instr.wellFormed (.frameRxTail 0 [] true 0 (List.replicate 9 0)) = false := by decide +kernel
theorem test_wf_mac_short : Instr.wellFormed (.macControlFrame 0 (List.replicate 59 0) true) = false := by decide +kernel
theorem test_wf_mac_long (data : Bytes) (h : data.length = 65537) : Instr.wellFormed (.macControlFrame 0 data true) = false := by simp [Instr.wellFormed, h]
theorem test_wf_dirty_way : Instr.wellFormed (.durableDirtyExpiry 0 393216) = false := by decide +kernel
theorem test_wf_alarm_way : Instr.wellFormed (.lockAlarm 0 393216) = false := by decide +kernel
theorem test_wf_lane_count : Instr.wellFormed (.tethLaneCheck (List.replicate 9 0) 0) = false := by decide +kernel
theorem test_wf_link_kind_low : Instr.wellFormed (.linkFrameRx 0 0 true none none ⟨.clean, 0, 0⟩) = false := by decide +kernel
theorem test_wf_link_kind_high : Instr.wellFormed (.linkFrameRx 6 0 true none none ⟨.clean, 0, 0⟩) = false := by decide +kernel
theorem test_wf_copy_long (data : Bytes) (h : data.length = 65537) : Instr.wellFormed (.tetherCopyRx [] data) = false := by simp [Instr.wellFormed, h]
theorem test_wf_vault_record : Instr.wellFormed (.vaultRequestDone (2 ^ 33) .host [] []) = false := by decide +kernel
theorem test_wf_vault_noise : Instr.wellFormed (.vaultRequestDone 0 .host (List.replicate 161 0) []) = false := by decide +kernel
theorem test_wf_vault_retry : Instr.wellFormed (.vaultRequestDone 0 .host [] (List.replicate 161 0)) = false := by decide +kernel
theorem test_wf_dimm_low : Instr.wellFormed (.dimmTempRead 0 [-129]) = false := by decide +kernel
theorem test_wf_dimm_high : Instr.wellFormed (.dimmTempRead 0 [128]) = false := by decide +kernel
theorem test_wf_parity_reads : Instr.wellFormed (.caParityAlert 0 0 true [2 ^ 33] []) = false := by decide +kernel
theorem test_wf_parity_writes : Instr.wellFormed (.caParityAlert 0 0 true [] [2 ^ 33]) = false := by decide +kernel
theorem test_wf_window_read_offset : Instr.wellFormed (.vaultWindowRead 0x4000000 4) = false := by decide +kernel
theorem test_wf_window_read_empty : Instr.wellFormed (.vaultWindowRead 0 0) = false := by decide +kernel
theorem test_wf_window_read_long : Instr.wellFormed (.vaultWindowRead 0 4097) = false := by decide +kernel
theorem test_wf_window_write_offset : Instr.wellFormed (.vaultWindowWrite 0x4000000 [0] [true]) = false := by decide +kernel
theorem test_wf_window_write_empty : Instr.wellFormed (.vaultWindowWrite 0 [] []) = false := by decide +kernel
theorem test_wf_window_write_long : Instr.wellFormed (.vaultWindowWrite 0 (List.replicate 4097 0) []) = false := by decide +kernel
theorem test_wf_window_write_enables : Instr.wellFormed (.vaultWindowWrite 0 [0] [true, true]) = false := by decide +kernel
theorem test_wf_merge_record : Instr.wellFormed (.mergeWindowExpiry 0 (2 ^ 33)) = false := by decide +kernel
theorem test_wf_audit_flips : Instr.wellFormed (.auditVisit 0 0 .clean (List.replicate 66 ⟨0, 0, 0, 0⟩)) = false := by decide +kernel
theorem test_wf_avs_current : Instr.wellFormed (.avsUpdate 4096 true) = false := by decide +kernel
theorem test_wf_sensors : Instr.wellFormed (.tempSample (List.replicate 17 0)) = false := by decide +kernel
theorem test_wf_sensor_low : Instr.wellFormed (.tempSample [-32769]) = false := by decide +kernel
theorem test_wf_sensor_high : Instr.wellFormed (.tempSample [32768]) = false := by decide +kernel
theorem test_wf_warn_mv : Instr.wellFormed (.vddCoreWarn 4096) = false := by decide +kernel
theorem test_wf_recover_mv : Instr.wellFormed (.brownoutRecover 4096) = false := by decide +kernel
theorem test_wf_reset_mv : Instr.wellFormed (.vddCoreReset 4096) = false := by decide +kernel
theorem test_wf_dimm_sensors : Instr.wellFormed (.dimmTempRead 0 (List.replicate 9 0)) = false := by decide +kernel
theorem test_wf_flash_density : Instr.wellFormed (.flashReadDone (some (2 ^ 40 + 1)) none) = false := by decide +kernel
theorem test_wf_nonce : Instr.wellFormed (.mbNonce (List.replicate 33 0) true) = false := by decide +kernel
theorem test_wf_jtag_offset : Instr.wellFormed (.jtagMbox true 0x10000 none) = false := by decide +kernel
theorem test_wf_jtag_aligned : Instr.wellFormed (.jtagMbox true 0x102 none) = false := by decide +kernel
theorem test_wf_coffer_read_offset : Instr.wellFormed (.cofferHostRead 0x4000000 8 []) = false := by decide +kernel
theorem test_wf_coffer_read_empty : Instr.wellFormed (.cofferHostRead 0 0 []) = false := by decide +kernel
theorem test_wf_coffer_read_long : Instr.wellFormed (.cofferHostRead 0 4097 []) = false := by decide +kernel
theorem test_wf_coffer_write_offset : Instr.wellFormed (.cofferHostWrite 0x4000000 [0] [true] []) = false := by decide +kernel
theorem test_wf_coffer_write_empty : Instr.wellFormed (.cofferHostWrite 0 [] [] []) = false := by decide +kernel
theorem test_wf_coffer_write_long : Instr.wellFormed (.cofferHostWrite 0 (List.replicate 4097 0) [] []) = false := by decide +kernel
theorem test_wf_coffer_write_enables : Instr.wellFormed (.cofferHostWrite 0 [0] [true, true] []) = false := by decide +kernel
theorem test_wf_coffer_set_offset : Instr.wellFormed (.cofferSetWrite 0x4000000 [0] [true] []) = false := by decide +kernel
theorem test_wf_coffer_set_empty : Instr.wellFormed (.cofferSetWrite 0 [] [] []) = false := by decide +kernel
theorem test_wf_coffer_set_long : Instr.wellFormed (.cofferSetWrite 0 (List.replicate 4097 0) [] []) = false := by decide +kernel
theorem test_wf_coffer_set_enables : Instr.wellFormed (.cofferSetWrite 0 [0] [true, true] []) = false := by decide +kernel
theorem test_wf_coffer_clear_offset : Instr.wellFormed (.cofferClearWrite 0x4000000 [0] [true] []) = false := by decide +kernel
theorem test_wf_coffer_clear_empty : Instr.wellFormed (.cofferClearWrite 0 [] [] []) = false := by decide +kernel
theorem test_wf_coffer_clear_long : Instr.wellFormed (.cofferClearWrite 0 (List.replicate 4097 0) [] []) = false := by decide +kernel
theorem test_wf_coffer_clear_enables : Instr.wellFormed (.cofferClearWrite 0 [0] [true, true] []) = false := by decide +kernel
theorem test_wf_descriptor : Instr.wellFormed (.dmaDescFetch 0 (some []) none) = false := by decide +kernel
theorem test_wf_descriptor_data (data : Bytes) (h : data.length = 65537) : Instr.wellFormed (.dmaDescFetch 0 none (some data)) = false := by simp [Instr.wellFormed, h]
theorem test_wf_inject_data (data : Bytes) (h : data.length = 65537) : Instr.wellFormed (.injectFrameRead 0 (some data)) = false := by simp [Instr.wellFormed, h]
theorem test_wf_force_offset : Instr.wellFormed (.irqForce 0x1000000 0) = false := by decide +kernel
theorem test_wf_force_aligned : Instr.wellFormed (.irqForce 0x12 0) = false := by decide +kernel

/-- More bytes than the flash holds: the check compares the length alone. -/
theorem test_wf_flash (b : Bytes) (h : 0x4000000 < b.length) : Instr.wellFormed (.flashReadDone none (some b)) = false := by
  have h : (decide (b.length ≤ 0x4000000)) = false := decide_eq_false (Nat.not_le.mpr h)
  exact h
theorem test_wf_good : Instr.wellFormed (.registerWrite 0x10100 4 6) = true := by decide

/-! ### States -/

theorem pair_eta {α β : Type} {p : α × β} {x : α} (h : p.1 = x) : p = (x, p.2) := by rw [← h]
theorem not_own (x : BitVec 384) : x ≠ ~~~x := by
  intro h
  have h := congrArg (fun y : BitVec 384 => y.getLsbD 0) h
  simp at h

/-- The manifest of an image that has the mandatory sections and one control store, one page each. -/
def smallManifest : Bytes :=
  let types := [POWER_DOMAINS, PORT_MAP, ASSAY_TEMPLATES, SIEVE_SPLIT, TILL_POLICY, VAULT_REGION_MAP, TM_QUEUES, MINT_POOLS, DESK_CSTORE]
  let entry := fun i => leBytes 2 (types.getD i 0) ++ [0xFF#8, 0] ++ leBytes 4 (0x4000 + 0x1000 * i) ++ leBytes 4 16 ++ List.replicate 52 0#8
  let head := leBytes 4 0x52544843 ++ leBytes 2 1 ++ leBytes 2 0x100 ++ leBytes 4 (0xD000 + 0x42B0) ++ leBytes 4 9 ++ leBytes 4 0x3240 ++
    List.replicate 8 0#8 ++ leBytes 4 0xD000 ++ List.replicate 224 0#8
  head ++ (List.range 9).flatMap entry ++ List.replicate (0x4000 - 0x100 - 64 * 9) 0#8

/-- Noise that breaks codeword 0 of a transfer beyond repair. -/
def badNoise : Bytes := (List.range 160).map fun i => if i % 8 = 0 then 7#8 else 0#8

/-- A probe tree whose roots lead to template 0, which takes nothing from the frame. -/
def smallTree : Bytes := List.replicate 8 0#8 |>.map fun _ => 8#8
/-- A running device: every domain on, the link to the host up, one 50GbE port 0, a second passed. -/
def live : State := {
  time := { tick := 1000000000, net := 1000000000 * 4294967296 }
  treas := { doms := (List.range 30).map (·, .on), exist := 2 ^ 30 - 1, pstate := .full }
  sec := { bootStep := 5 }
  pins := { porstLow := false, perstLow := false }
  loader := { st := .run }
  pcie := { up := true, rate := 4, width := 8 }
  portCfg := [(0, { speed := 3, fec := 2 })]
  tm := { nclass := [(0, 8)] } }

/-- The running device at another point of the loader. -/
def at_ (st : LoadState) : State := { live with loader := { st := st } }

/-- Port 0 of the running device in a state of its link. -/
def portIn (st : LinkState) : State := { live with ports := [(0, { st := st })] }

/-- Teller 127 of the running device, with a packet and an open window, about to execute the word w at address 0. -/
def atWord (w : Nat) : State := { live with
  desks := [(15, { store := [(0, BitVec.ofNat 160 w)] })]
  tellers := [(127, { st := .run, win := some 0, stack := [5], ctx := { desc := some { frame := 3 } } })]
  ledger := [(3, { ways := [(0, { rc := Rec.empty, slot := 6 })] })]
  vault := { regions := [{ base := 0, size := 256 }, { base := 256, size := 256 }], ftRegion := 1, ftLog2 := 3 } }

/-- As atWord, in a trap handler. -/
def inTrap (w : Nat) : State := { atWord w with
  tellers := [(127, { st := .run, frames := [{ f := Vector.replicate 48 0, win := none }], ctx := { desc := some { frame := 3 } } })] }

/-- The far part of the Vault in the host's window. -/
def farWindow : State := { live with
  vault := { regions := [{ base := 0, size := 256 }, { base := 256, size := 256 }], chans := (List.range 8).map fun c => (c, { st := .service }) }
  regs := [(Reg.VAULT_WIN_BASE_HI, 8#32)] }

/-! ### Worked examples of the spec -/

/-- 00, Register names: the cause register of Till slice 2. -/
theorem test_ex_till_cause : Reg.TILL_IRQ_CAUSE 2 = 0x220010 := by decide
/-- 22, the credit of Tether class 3 and the temperature of VC5. -/
theorem test_ex_class_credit : Reg.TM_CLASS_CREDIT 515 = 0x408070 := by decide
theorem test_ex_dimm_temp : Reg.VAULT_CH_TEMP 5 = 0x29A104 := by decide
/-- 09, flowEndNanoseconds of W11 1,700,000,037,250,000,000 with UTC_OFF 37. -/
theorem test_ex_ntp : ntpTime 37 1700000037250000000 = 0xE8FE6F8040000000 := by decide
/-- 17, the reserve with every domain on is 144.50 A, and the budget at reset is 160 A, in steps of 0.25 A. -/
theorem test_ex_reserve : reserveV live = 578 := by decide +kernel
/-- 15, the population of the worked example: two 64 GiB ranks on each channel, rank 15 the spare. -/
def examplePopulation : Vault := { ranks := 2, gib := 64, spare := some 15 }
theorem test_ex_vault_rank : decodeRecord examplePopulation 0x2E941D66 = (12, 0x02E941D6) := by decide +kernel
theorem test_ex_vault_bank : bankOf 0x02E941D6 = (6, 2, 224, 0x5D28) := by decide
theorem test_ex_vault_zones : zone0Records examplePopulation = 2 ^ 32 ∧ capacityRecords examplePopulation = 2 ^ 32 + 7 * 2 ^ 29 := by
  decide +kernel
/-- 03, the frame from 192.0.2.10 port 40,000 to 198.51.100.7 port 53 and its reply: DIR, and loop words 1 and 4. -/
def exampleRoles : Roles := ⟨mapped4 0xC000020A, mapped4 0xC6336407, 40000, 53, 17, 3⟩
def replyRoles : Roles := ⟨mapped4 0xC6336407, mapped4 0xC000020A, 53, 40000, 17, 3⟩
theorem test_ex_key : (canonical exampleRoles 1).2 = false ∧ keyWord (canonical exampleRoles 1).1 1 = 0x0A0200C0FFFF0000 ∧
    keyWord (canonical exampleRoles 1).1 4 = 0x030001113500409C := by decide +kernel
theorem test_ex_key_reply : (canonical replyRoles 1).2 = true ∧ (canonical replyRoles 1).1 = (canonical exampleRoles 1).1 := by
  decide +kernel
/-- 07, the microword that adds 1 to G5, loads W13 into G6 and branches to 0x123 if Z is 1. -/
def exampleWord : Nat := 0x048C8101280A0018740000001000000010000000
def afterExample (z : Bool) : Teller :=
  let s := atWord exampleWord
  (wordRow (mwSeq · == 0x2) 127 .clean (s.modTeller 127 fun x => { x with z := z })).tellerAt 127
theorem test_ex_microword : ((afterExample false).pc, gReg (afterExample false) 5, gReg (afterExample false) 6) = (1, 1, 0) := by
  decide +kernel
theorem test_ex_microword_taken : ((afterExample true).pc, gReg (afterExample true) 5, (afterExample true).z) = (0x123, 1, false) := by
  decide +kernel

/-! ### States that meet the hypotheses of the statements over all commands -/

theorem test_w_front : ∃ (c : Instr) (cs : List Instr) (s : State), s.pending = c :: cs :=
  ⟨.mintRound, [.timeSnap], { State.reset with pending := [.mintRound, .timeSnap] }, rfl⟩
theorem test_w_idle : State.reset.pending = [] := rfl
theorem test_w_step : ∃ s t : State, step s = .next t := ⟨State.reset, tick State.reset, rfl⟩
theorem test_w_fuses : ∃ (f : Fuses) (s t : State), FuseLe f s.fuses ∧ step s = .next t :=
  ⟨State.reset.fuses, State.reset, tick State.reset, ⟨id, id, id, fun _ => id, fun _ _ => rfl, fun _ => id, le_rfl, id, rfl, rfl⟩, rfl⟩
theorem test_w_programs : ∃ (c : Instr) (s t : State), programsFuses c = false ∧ exec c s = .next t := ⟨.ppsEdge, live, _, rfl, rfl⟩
theorem test_w_control : ∃ (c : Instr) (s t : State), mayChangeControl c = false ∧ exec c s = .next t := ⟨.ppsEdge, live, _, rfl, rfl⟩
theorem test_w_traffic : ∃ (c : Instr) (s t : State), leavesTraffic c = true ∧ exec c s = .next t := ⟨.timeSnap, live, _, rfl, rfl⟩
theorem test_w_flows : ∃ (c : Instr) (s t : State), leavesFlows c = true ∧ exec c s = .next t := ⟨.mintRound, live, _, rfl, rfl⟩
theorem test_w_memory : ∃ s t : State, MemoryWf s ∧ step s = .next t :=
  ⟨State.reset, tick State.reset, by unfold MemoryWf; decide, rfl⟩

/-! ### States and operands that meet the hypotheses of the clauses -/

theorem test_w_TimeBase_a3 : ∃ (v : Word32), v.getLsbD 1 = true :=
  ⟨(2#32), by decide +kernel⟩
theorem test_w_TimeBase_a4 : ∃ (s : State), s.time.followAt + 1000000 ≤ s.time.tick :=
  ⟨({ live with time := { live.time with followAt := 0 } }), by decide +kernel⟩
theorem test_w_TimeBase_a5 : ∃ (s : State), s.time.refLost = false :=
  ⟨live, by decide +kernel⟩
theorem test_w_TimeBase_a6 : ∃ (s : State), s.time.refLost = true :=
  ⟨({ live with time := { live.time with refLost := true } }), by decide +kernel⟩
theorem test_w_TimeBase_a7 : ∃ (s : State) (n : _), s.time.offset = some n :=
  ⟨({ live with time := { live.time with offset := some ⟨5, false⟩ } }), (⟨5, false⟩), by decide +kernel⟩
theorem test_w_TimeBase_a9 : ∃ (s : State), barOpen s = true :=
  ⟨live, by decide +kernel⟩
theorem test_w_TriggerCaptureAndPps_d1 : ∃ (v : Word32), v.getLsbD 31 = true :=
  ⟨(0x80000000#32), by decide +kernel⟩
theorem test_w_TriggerCaptureAndPps_d2 : ∃ (v : Word32), v.getLsbD 31 = false :=
  ⟨(0#32), by decide +kernel⟩
theorem test_w_TriggerCaptureAndPps_d3 : ∃ (s : State) (i : Fin 8) (n : _), (trigAt s i.val).next = some n ∧ n * 2 ^ 32 ≤ s.time.net :=
  ⟨({ live with time := { live.time with trigs := [(7, { next := some 9 })] } }), 7, 9, by decide +kernel⟩
theorem test_w_TriggerCaptureAndPps_d4 : ∃ (s : State) (i : Fin 8) (e : _), (trigAt s i.val).pulseEnd = some e ∧ e ≤ s.time.tick :=
  ⟨({ live with time := { live.time with trigs := [(7, { pulseEnd := some 9 })] } }), 7, 9, by decide +kernel⟩
theorem test_w_TriggerCaptureAndPps_d5 : ∃ (s : State) (i : Fin 9) (rising : Bool), flagOf s (Reg.TIME_CAP_CTRL i.val) (if rising then 0 else 1) = true :=
  ⟨(regStore (Reg.TIME_CAP_CTRL 8) 3#32 (live)), 8, false, by decide +kernel⟩
theorem test_w_TriggerCaptureAndPps_d7 : ∃ (s : State), flagOf s Reg.TIME_PPS_CFG 31 = true ∧ s.time.ppsLast ≠ some (netSec s.time.net) :=
  ⟨(regStore Reg.TIME_PPS_CFG 0x80000064#32 (live)), by decide +kernel⟩
theorem test_w_TriggerCaptureAndPps_d8 : ∃ (s : State) (e : _), s.time.ppsFall = some e ∧ e ≤ s.time.tick :=
  ⟨({ live with time := { live.time with ppsFall := some 9 } }), 9, by decide +kernel⟩
theorem test_w_Performance_e1 : ∃ (s : State), s.perf.winNext ≤ s.time.net :=
  ⟨live, by decide +kernel⟩
theorem test_w_Performance_e2 : ∃ (s : State) (v : Word32), v.getLsbD 0 = true ∧ barOpen s = true ∧ s.perf.frozen = false ∧ s.perf.sched = none ∧ v.getLsbD 2 = false :=
  ⟨live, (1#32), by decide +kernel⟩
theorem test_w_Performance_e3 : ∃ (s : State) (v : Word32), v.getLsbD 0 = false ∧ v.getLsbD 1 = true ∧ barOpen s = true ∧ s.perf.frozen = true ∧ v.getLsbD 2 = false :=
  ⟨({ live with perf := { frozen := true } }), (2#32), by decide +kernel⟩
theorem test_w_Performance_e4 : ∃ (s : State) (f : _) (n : _), s.perf.sched = some (f, n) ∧ n ≤ s.time.net :=
  ⟨({ live with perf := { sched := some (true, 5) } }), true, 5, by decide +kernel⟩
theorem test_w_Performance_e6 : ∃ (s : State), flagOf s Reg.PERF_DUMP_CFG 31 = true ∧ s.perf.dumpNext ≤ s.time.net :=
  ⟨(regStore Reg.PERF_DUMP_CFG 0x80000000#32 (live)), by decide +kernel⟩
theorem test_w_Performance_e5 : ∃ (s : State) (v : Word32), v.getLsbD 0 = true ∧ barOpen s = true ∧ s.perf.frozen = false :=
  ⟨live, (1#32), by decide +kernel⟩
theorem test_w_Performance_f1 : ∃ (s : State) (r : _) (rs : _), s.sill.buf = r :: rs ∧ flagOf s Reg.SILL_CFG 31 = true ∧ (placeRec (fieldOf s Reg.SILL_CFG 3 0) 2 (sillBytes r) (freshOut s)).1 = true ∧ s.sill.lost = [] :=
  ⟨({ live with sill := { buf := [⟨1, 2, 3, 4, 5⟩] }, regs := [(Reg.SILL_CFG, 0x80000000#32)], rings := [(0, { open_ := some ⟨4096, 4096, 0, 0, false, false, 0, 0⟩ })] }), (⟨1, 2, 3, 4, 5⟩), ([]), by decide +kernel⟩
theorem test_w_Ring_r1 : ∃ (s : State) (n : Fin 32) (o : _), s.pcie.up = true ∧ (s.ringAt n.val).open_ = some o ∧ o.fill ≠ 0 ∧ flushTicks s n.val ≤ since s o.firstAt :=
  ⟨({ live with rings := [(31, { open_ := some ⟨4096, 4096, 8, 0, false, false, 0, 0⟩ })] }), 31, (⟨4096, 4096, 8, 0, false, false, 0, 0⟩), by decide +kernel⟩
theorem test_w_Ring_r2 : ∃ (s : State) (v : Word32), v.getLsbD 31 = true ∧ s.pcie.up = true :=
  ⟨live, (0x80000000#32), by decide +kernel⟩
theorem test_w_Ring_r3 : ∃ (s : State) (v : Word32), v.getLsbD 31 = false ∧ s.pcie.up = true :=
  ⟨live, (0#32), by decide +kernel⟩
theorem test_w_Ring_r4 : ∃ (s : State), s.pcie.up = true :=
  ⟨live, by decide +kernel⟩
theorem test_w_Ring_r5 : ∃ (s : State) (n : Fin 32), canFetch s n.val = true :=
  ⟨(regStore (Reg.DMA_RING_TAIL 15) 1#32 (regStore (Reg.DMA_RING_CFG 15) 0x80000000#32 live)), 15, by decide +kernel⟩
theorem test_w_Ring_r6 : ∃ (s : State) (n : Fin 32) (x : _), s.pcie.up = true ∧ (s.ringAt n.val).batch = some x ∧ x.rest = [] :=
  ⟨({ live with rings := [(16, { batch := some ⟨[], [], 0, 0, none, 0, none, false, false⟩ })] }), 16, (⟨[], [], 0, 0, none, 0, none, false, false⟩), by decide +kernel⟩
theorem test_w_Ring_r7 : ∃ (s : State) (n : Fin 32), starved s n.val = true ∧ us 1 ≤ since s (s.ringAt n.val).starveAt :=
  ⟨({ live with rings := [(0, { span := [1#8] })] }), 0, by decide +kernel⟩
theorem test_w_Ring_r8 : ∃ (s : State) (n : Fin 32) (o : _), s.pcie.up = true ∧ n.val < 16 ∧ (s.ringAt n.val).span ≠ [] ∧ (s.ringAt n.val).open_ = some o ∧ (s.ringAt n.val).spanKind = 2 :=
  ⟨({ live with rings := [(15, { span := [1#8], spanKind := 2, open_ := some ⟨4096, 4096, 0, 0, false, false, 0, 0⟩ })] }), 15, (⟨4096, 4096, 0, 0, false, false, 0, 0⟩), by decide +kernel⟩
theorem test_w_Ring_r9 : ∃ (s : State) (n : Fin 32) (d : _) (ds : _), (s.ringAt n.val).inject = some { descs := d :: ds } ∧ runOpen (s.ringAt n.val) = false ∧ (s.ringAt n.val).err = false ∧ s.pcie.up = true ∧ running s = true ∧ ((d :: ds).map fun d => leAt d 8 2).foldl (· + ·) 0 ≤ 15996 ∧ portExists s (byteAt d 12) = true :=
  ⟨({ live with rings := [(16, { inject := some ⟨[(List.replicate 32 0#8)]⟩ })] }), 16, ((List.replicate 32 0#8)), ([]), by decide +kernel⟩
theorem test_w_ClassificationTable_s1 : ∃ (s : State) (v : Word32) (c : Instr) (k : Nat), (c, k) ∈ [(.sieveWrite v, 1), (.sieveInsert v, 2), (.sieveFind v, 3), (.sieveInvalidate v, 4), (.sieveSetEm v, 5), (.sieveRead v, 6)] ∧ bits v.toNat 3 0 = k ∧ barOpen s = true ∧ sieveBusy s = false :=
  ⟨live, (6#32), (.sieveRead 6#32), 6, by decide +kernel⟩
theorem test_w_ClassificationTable_s2 : ∃ (s : State) (v : Word32) (c : Instr) (k : Nat), (c, k) ∈ [(.sieveWrite v, 1), (.sieveInsert v, 2), (.sieveFind v, 3), (.sieveInvalidate v, 4), (.sieveSetEm v, 5), (.sieveRead v, 6)] ∧ bits v.toNat 3 0 = k ∧ barOpen s = true ∧ sieveBusy s = true :=
  ⟨({ live with sieve := { queue := List.replicate 4 ⟨.port, 6, 0, 0, 0, 0⟩, op := some (⟨.port, 6, 0, 0, 0, 0⟩, ⟨0, 0, none, none⟩) } }), (1#32), (.sieveWrite 1#32), 1, by decide +kernel⟩
theorem test_w_ClassificationTable_s3 : ∃ (s : State) (j : _) (a : _), s.sieve.op = some (j, a) ∧ s.sieve.queue = [] ∧ j.user = .port ∧ a.read = none :=
  ⟨({ live with sieve := { op := some (⟨.port, 6, 0, 0, 0, 0⟩, ⟨1, 5, none, none⟩) } }), (⟨.port, 6, 0, 0, 0, 0⟩), (⟨1, 5, none, none⟩), by decide +kernel⟩
theorem test_w_ClassificationTable_s4 : ∃ (s : State) (n : Fin 32) (x : _), s.pcie.up = true ∧ entryInHand s n.val 1 = some x ∧ s.sieve.op = none :=
  ⟨({ live with rings := [(16, { batch := some ⟨[], [1#8] ++ List.replicate 127 0#8, 0, 0, none, 0, none, false, false⟩ })] }), 16, (⟨[], [1#8] ++ List.replicate 127 0#8, 0, 0, none, 0, none, false, false⟩), by decide +kernel⟩
theorem test_w_Epoch_t1 : ∃ (s : State), barOpen s = true :=
  ⟨live, by decide +kernel⟩
theorem test_w_Epoch_t4 : ∃ (s : State), s.accord.drained = false ∧ s.accord.swapAt = none ∧ s.accord.told = false ∧ fieldOf s (Reg.SIEVE_ACCORD_DRAIN_TMO 0) 31 0 * 1000 < s.time.net / 2 ^ 32 - s.accord.lastSwap :=
  ⟨({ live with accord := { drained := false } }), by decide +kernel⟩
theorem test_w_Epoch_t2 : ∃ (s : State) (x : _), s.accord.swapAt = some x ∧ x ≤ s.time.net / 2 ^ 32 :=
  ⟨({ live with accord := { swapAt := some 7 } }), 7, by decide +kernel⟩
theorem test_w_Epoch_t3 : ∃ (s : State), oldDrained s = true :=
  ⟨({ live with accord := { drained := false } }), by decide +kernel⟩
theorem test_w_Epoch_t5 : ∃ (s : State) (n : Fin 32) (x : _), s.pcie.up = true ∧ entryInHand s n.val 3 = some x :=
  ⟨({ live with rings := [(16, { batch := some ⟨[], [3#8] ++ List.replicate 127 0#8, 0, 0, none, 0, none, false, false⟩ })] }), 16, (⟨[], [3#8] ++ List.replicate 127 0#8, 0, 0, none, 0, none, false, false⟩), by decide +kernel⟩
theorem test_w_Epoch_t6 : ∃ (s : State) (n : Fin 32) (x : _), s.pcie.up = true ∧ entryInHand s n.val 4 = some x :=
  ⟨({ live with rings := [(16, { batch := some ⟨[], [4#8] ++ List.replicate 127 0#8, 0, 0, none, 0, none, false, false⟩ })] }), 16, (⟨[], [4#8] ++ List.replicate 127 0#8, 0, 0, none, 0, none, false, false⟩), by decide +kernel⟩
theorem test_w_Epoch_t7 : ∃ (s : State) (n : Fin 32) (x : _) (d : _), s.pcie.up = true ∧ (s.ringAt n.val).batch = some x ∧ x.waitUntil = some d ∧ d ≤ s.time.tick :=
  ⟨({ live with rings := [(16, { batch := some ⟨[], [4#8] ++ List.replicate 127 0#8, 0, 0, none, 0, some 9, false, false⟩ })] }), 16, (⟨[], [4#8] ++ List.replicate 127 0#8, 0, 0, none, 0, some 9, false, false⟩), 9, by decide +kernel⟩
theorem test_w_OwnerProgramTheFuses_a1 : ∃ (s : State), commandHeld s 1 = true ∧ (s.fuses.lifecycle = .owned ∨ s.fuses.lifecycle = .locked) ∧ argSlot (commandArg s) 64 = true ∧ slotProgrammed s.fuses (byteAt (commandArg s) 0) = false ∧ fusePower s = false :=
  ⟨({ regStore Reg.SEC_MBOX_LEN 0x4320#32 { live with regs := [(Reg.SEC_MBOX_BUF 1, BitVec.ofNat 32 (1 * 65536)), (Reg.SEC_MBOX_BUF 12, 3#32)] } with fuses := { grp0 := true, grp1 := false, programmed := [(1, true), (2, true)] }, sec := { live.sec with debugOpen := false, host := { op := 4, busy := true } } }), by decide +kernel⟩
theorem test_w_OwnerProgramTheFuses_a2 : ∃ (s : State), commandHeld s 2 = true ∧ (s.fuses.lifecycle = .owned ∨ s.fuses.lifecycle = .locked) ∧ argSlot (commandArg s) 16 = true ∧ ((List.range 4).any fun i => i != byteAt (commandArg s) 0 && slotUsable s.fuses i) = true ∧ fusePower s = false :=
  ⟨({ regStore Reg.SEC_MBOX_LEN 0x4320#32 { live with regs := [(Reg.SEC_MBOX_BUF 1, BitVec.ofNat 32 (2 * 65536)), (Reg.SEC_MBOX_BUF 12, 1#32)] } with fuses := { grp0 := true, grp1 := true, programmed := [(1, true), (2, true)] }, sec := { live.sec with debugOpen := false, host := { op := 4, busy := true } } }), by decide +kernel⟩
theorem test_w_OwnerProgramTheFuses_a3 : ∃ (s : State), commandHeld s 3 = true ∧ (s.fuses.lifecycle = .owned ∨ s.fuses.lifecycle = .locked) ∧ zeros (commandArg s) 4 64 = true ∧ running s = true ∧ s.fuses.svnFloor < leAt (commandArg s) 0 4 ∧ leAt (commandArg s) 0 4 ≤ 128 ∧ leAt (commandArg s) 0 4 ≤ s.loader.runSvn ∧ fusePower s = false :=
  ⟨({ regStore Reg.SEC_MBOX_LEN 0x4320#32 { live with regs := [(Reg.SEC_MBOX_BUF 1, BitVec.ofNat 32 (3 * 65536)), (Reg.SEC_MBOX_BUF 12, 128#32)] } with fuses := { grp0 := true, grp1 := false, programmed := [(1, true), (2, true)] }, sec := { live.sec with debugOpen := false, host := { op := 4, busy := true } }, loader := { st := .run, runSvn := 200 } }), by decide +kernel⟩
theorem test_w_OwnerProgramTheFuses_a4 : ∃ (s : State), commandHeld s 4 = true ∧ s.fuses.lifecycle = .owned ∧ allZero (commandArg s) = true ∧ fusePower s = false :=
  ⟨({ regStore Reg.SEC_MBOX_LEN 0x4320#32 { live with regs := [(Reg.SEC_MBOX_BUF 1, BitVec.ofNat 32 (4 * 65536))] } with fuses := { grp0 := true, grp1 := false, programmed := [(1, true), (2, true)] }, sec := { live.sec with debugOpen := false, host := { op := 4, busy := true } } }), by decide +kernel⟩
theorem test_w_OwnerProgramTheFuses_a5 : ∃ (s : State), commandHeld s 5 = true ∧ s.fuses.lifecycle = .locked ∧ allZero (commandArg s) = true ∧ s.sec.debugOpen = false :=
  ⟨({ regStore Reg.SEC_MBOX_LEN 0x4320#32 { live with regs := [(Reg.SEC_MBOX_BUF 1, BitVec.ofNat 32 (5 * 65536))] } with fuses := { grp0 := true, grp1 := true, programmed := [(1, true), (2, true)] }, sec := { live.sec with debugOpen := false, host := { op := 4, busy := true } } }), by decide +kernel⟩
theorem test_w_OwnerProgramTheFuses_a6 : ∃ (s : State), commandHeld s 6 = true ∧ (s.fuses.lifecycle = .owned ∨ s.fuses.lifecycle = .locked) ∧ allZero (commandArg s) = true ∧ fusePower s = false :=
  ⟨({ regStore Reg.SEC_MBOX_LEN 0x4320#32 { live with regs := [(Reg.SEC_MBOX_BUF 1, BitVec.ofNat 32 (6 * 65536))] } with fuses := { grp0 := true, grp1 := false, programmed := [(1, true), (2, true)] }, sec := { live.sec with debugOpen := false, host := { op := 4, busy := true } } }), by decide +kernel⟩
theorem test_w_OwnerProgramTheFuses_a7 : ∃ (s : State), mboxRuns s false 5 = true ∧ lenIs s false 64 = true ∧ zeros (hostBuf s 64) 1 16 = true ∧ s.fuses.lifecycle = .blank ∧ byteAt (hostBuf s 64) 0 < 4 ∧ asDigest ((hostBuf s 64).drop 16) ≠ 0 ∧ slotProgrammed s.fuses (byteAt (hostBuf s 64) 0) = false ∧ fusePower s = false :=
  ⟨({ regStore Reg.SEC_MBOX_LEN 64#32 { live with regs := [(Reg.SEC_MBOX_BUF 0, 3#32), (Reg.SEC_MBOX_BUF 4, 1#32)] } with sec := { live.sec with host := { op := 5, busy := true } } }), by decide +kernel⟩
theorem test_w_Mailbox_b1 : ∃ (s : State) (side : _), mboxRuns s side 1 = true ∧ lenIs s side 0 = true ∧ s.sec.idPub ≠ [] :=
  ⟨({ live with sec := { live.sec with side := { op := 1, busy := true }, idPub := [1#8] } }), true, by decide +kernel⟩
theorem test_w_Mailbox_b2 : ∃ (s : State), mboxRuns s false 2 = true ∧ lenIs s false 0 = true :=
  ⟨({ live with sec := { live.sec with host := { op := 2, busy := true } } }), by decide +kernel⟩
theorem test_w_Mailbox_b3 : ∃ (s : State), mboxRuns s true 2 = true :=
  ⟨({ live with sec := { live.sec with side := { op := 2, busy := true } } }), by decide +kernel⟩
theorem test_w_Mailbox_b4 : ∃ (s : State) (side : _), mboxRuns s side 3 = true ∧ lenIs s side 32 = true ∧ s.sec.idBad = false :=
  ⟨({ live with sec := { live.sec with side := { op := 3, busy := true } } }), true, by decide +kernel⟩
theorem test_w_Mailbox_b5 : ∃ (s : State) (side : _) (rest : _), s.sec.queue = side :: rest ∧ engineFree s = true :=
  ⟨({ live with sec := { live.sec with queue := [true] } }), true, ([]), by decide +kernel⟩
theorem test_w_Mailbox_b6 : ∃ (s : State) (side : _) (r : _) (o : _), (mboxAt s side).done = some (r, o) ∧ (mboxAt s side).discard = false :=
  ⟨({ live with sec := { live.sec with host := { op := 1, busy := true, done := some (0, [7#8]) } } }), false, 0, ([7#8]), by decide +kernel⟩
theorem test_w_Mailbox_b8 : ∃ (s : State) (nonce : Bytes) (pec : _), mbAlive s = true ∧ pec = true ∧ nonce.length = 32 :=
  ⟨live, (List.replicate 32 1#8), true, by decide +kernel⟩
theorem test_w_Mailbox_b9 : ∃ (s : State) (pec : _), mbAlive s = true ∧ pec = true :=
  ⟨live, true, by decide +kernel⟩
theorem test_w_Mailbox_b10 : ∃ (s : State), mbAlive s = true :=
  ⟨live, by decide +kernel⟩
theorem test_w_Mailbox_b11 : ∃ (s : State), mbAlive s = true :=
  ⟨live, by decide +kernel⟩
theorem test_w_Jtag_j0 : ∃ (bs : List Bool) (off : Nat) (w : Option Word32) (code : Nat) (c : Instr), c ∈ [Instr.jtagBypass false bs, .jtagIdcode false, .jtagSamplePreload false bs, .jtagExtest false bs, .jtagMbox false off w, .jtagDebugInstruction false code] :=
  ⟨([]), 0, none, 0, (.jtagDebugInstruction false 0), by decide +kernel⟩
theorem test_w_Jtag_j5 : ∃ (s : State) (off : _), mboxReg off = true ∧ domOn s 29 = true :=
  ⟨live, (Reg.SEC_MBOX_LEN), by decide +kernel⟩
theorem test_w_Jtag_j6 : ∃ (s : State), s.sec.debugOpen = false :=
  ⟨({ live with sec := { live.sec with debugOpen := false } }), by decide +kernel⟩
theorem test_w_Jtag_j7 : ∃ (s : State), s.sec.debugOpen = true :=
  ⟨live, by decide +kernel⟩
theorem test_w_Allowance_al1 : ∃ (s : State) (u : Fin 11), userWants s u.val = true ∧ (s.userAt u.val).st = .none ∧ brownHold s = false ∧ s.treas.waitQ = [] ∧ reserveV s + grantedG s + userAmount s u.val ≤ budgetB s :=
  ⟨({ live with vault := { spareSt := .migrating, spare := some 2, regions := [{ base := 0, size := 1 }], chans := [(0, { st := .service }), (1, { st := .service })] }, regs := [(Reg.TREAS_USER 8, 4#32), (Reg.VAULT_SPARE_CFG, 0x100#32), (Reg.TREAS_BUDGET_CFG, 0x280#32)], treas := { live.treas with doms := [(0, .on)] } }), 8, by decide +kernel⟩
theorem test_w_Allowance_al2 : ∃ (s : State) (u : Fin 11), userWants s u.val = true ∧ (s.userAt u.val).st = .none ∧ (brownHold s = true ∨ budgetB s < reserveV s + userAmount s u.val) :=
  ⟨({ live with vault := { spareSt := .migrating, spare := some 2, regions := [{ base := 0, size := 1 }], chans := [(0, { st := .service }), (1, { st := .service })] }, regs := [(Reg.TREAS_USER 8, 4#32), (Reg.VAULT_SPARE_CFG, 0x100#32), (Reg.TREAS_BUDGET_CFG, 0#32)] }), 8, by decide +kernel⟩
theorem test_w_Allowance_al3 : ∃ (s : State) (u : Fin 11), userWants s u.val = true ∧ (s.userAt u.val).st = .none ∧ brownHold s = false ∧ reserveV s + userAmount s u.val ≤ budgetB s ∧ ((s.treas.waitQ ≠ [] ∨ budgetB s < reserveV s + grantedG s + userAmount s u.val)) :=
  ⟨({ live with vault := { spareSt := .migrating, spare := some 2, regions := [{ base := 0, size := 1 }], chans := [(0, { st := .service }), (1, { st := .service })] }, regs := [(Reg.TREAS_USER 8, 4#32), (Reg.VAULT_SPARE_CFG, 0x100#32), (Reg.TREAS_BUDGET_CFG, 0x280#32)], treas := { live.treas with doms := [(0, .on)], waitQ := [(3, 1)] } }), 8, by decide +kernel⟩
theorem test_w_Allowance_al4 : ∃ (s : State) (u : Fin 11), userEnds s u.val = true ∧ (s.userAt u.val).st = .granted :=
  ⟨({ live with treas := { live.treas with users := [(8, { st := .granted, grant := 4, released := 4 })] } }), 8, by decide +kernel⟩
theorem test_w_Allowance_al5 : ∃ (s : State) (u : _) (a : _) (rest : _), s.treas.waitQ = (u, a) :: rest ∧ reserveV s + grantedG s + a ≤ budgetB s :=
  ⟨({ live with regs := [(Reg.TREAS_BUDGET_CFG, 0x280#32)], treas := { live.treas with doms := [(0, .on)], waitQ := [(10, 1)] } }), 10, 1, ([]), by decide +kernel⟩
theorem test_w_Allowance_al6 : ∃ (s : State) (u : _) (rest : _), s.treas.slewQ = (u, true) :: rest ∧ 13 ≤ since s s.treas.slewAt :=
  ⟨({ live with treas := { live.treas with slewQ := [(3, true)] } }), 3, ([]), by decide +kernel⟩
theorem test_w_Allowance_al7 : ∃ (s : State) (u : _) (rest : _), s.treas.slewQ = (u, false) :: rest ∧ 13 ≤ since s s.treas.slewAt :=
  ⟨({ live with treas := { live.treas with slewQ := [(3, false)] } }), 3, ([]), by decide +kernel⟩
theorem test_w_Domain_dm1 : ∃ (s : State) (v : Word32), v.getLsbD 31 = true ∧ running s = true ∧ s.treas.pstate ≠ .quiet ∧ s.treas.exist.testBit (bits v.toNat 4 0) = true ∧ mayRequest (bits v.toNat 4 0) (bits v.toNat 9 8) = true ∧ ((bits v.toNat 4 0 ≠ 27 ∨ bits v.toNat 9 8 = 2 ∨ loadBusy s = false)) :=
  ⟨live, (0x80000201#32), by decide +kernel⟩
theorem test_w_Domain_dm2 : ∃ (s : State) (v : Word32), v.getLsbD 31 = true ∧ ((running s = false ∨ s.treas.pstate = .quiet ∨ s.treas.exist.testBit (bits v.toNat 4 0) = false ∨ mayRequest (bits v.toNat 4 0) (bits v.toNat 9 8) = false)) :=
  ⟨live, (0x80000200#32), by decide +kernel⟩
theorem test_w_Domain_dm3 : ∃ (s : State) (d : Fin 30) (rest : _), s.treas.rampQueue = d.val :: rest ∧ s.treas.ramping = none ∧ brownHold s = false ∧ rampAllowed s d.val = true :=
  ⟨({ live with treas := { live.treas with rampQueue := [29] } }), 29, ([]), by decide +kernel⟩
theorem test_w_Domain_dm4 : ∃ (s : State) (d : Fin 30) (a : _) (k : _), s.treas.ramping = some (d.val, a, k) ∧ us (max 50 (fieldOf s Reg.TREAS_RAMP 15 0)) ≤ since s a :=
  ⟨({ live with treas := { live.treas with ramping := some (29, 0, false) } }), 29, 0, false, by decide +kernel⟩
theorem test_w_Domain_dm5 : ∃ (s : State) (d : Fin 30) (x : _), s.treas.goals.find? (·.1 = d.val) = some (d.val, x) :=
  ⟨({ live with treas := { live.treas with goals := [(1, .off)] } }), 1, (.off), by decide +kernel⟩
theorem test_w_PowerState_ps1 : ∃ (s : State) (v : Word32), v.getLsbD 31 = true ∧ bits v.toNat 1 0 = 3 ∧ (s.treas.pstate = .full ∨ s.treas.pstate = .trimmed) ∧ s.loader.st = .run ∧ s.treas.trans = none ∧ brownHold s = false :=
  ⟨live, (0x80000003#32), by decide +kernel⟩
theorem test_w_PowerState_ps2 : ∃ (s : State) (v : Word32), v.getLsbD 31 = true ∧ bits v.toNat 1 0 = 3 ∧ (s.treas.pstate = .off ∨ s.treas.pstate = .quiet ∨ s.loader.st ≠ .run ∨ s.treas.trans ≠ none ∨ brownHold s = true) :=
  ⟨(State.reset), (0x80000003#32), by decide +kernel⟩
theorem test_w_PowerState_ps3 : ∃ (s : State) (a : _), s.treas.trans = some (true, a) ∧ quietTmo s ≤ since s a ∧ s.treas.ramping = none ∧ quietReady s = true :=
  ⟨({ live with treas := { live.treas with trans := some (true, 0) } }), 0, by decide +kernel⟩
theorem test_w_PowerState_ps4 : ∃ (s : State) (a : _), s.treas.trans = some (true, a) ∧ 2 * quietTmo s < since s a ∧ s.treas.stalled = false :=
  ⟨({ live with regs := [(Reg.TREAS_QUIET_TMO, 1#32)], treas := { live.treas with trans := some (true, 0) } }), 0, by decide +kernel⟩
theorem test_w_PowerState_ps5 : ∃ (s : State) (v : Word32), v.getLsbD 31 = true ∧ (bits v.toNat 1 0 = 1 ∨ bits v.toNat 1 0 = 2) ∧ s.treas.pstate = .quiet ∧ s.treas.trans = none ∧ brownHold s = false ∧ (s.treas.trip = false ∨ deviceTemp s ≤ 4 * ((fieldOf s Reg.TREAS_THERM_CFG 7 0 : Nat) : Int)) ∧ s.treas.quieted ≠ [] :=
  ⟨({ live with treas := { live.treas with pstate := .quiet, quieted := [1] } }), (0x80000001#32), by decide +kernel⟩
theorem test_w_PowerState_ps6 : ∃ (v : Word32), v.getLsbD 31 = true ∧ bits v.toNat 1 0 = 0 :=
  ⟨(0x80000000#32), by decide +kernel⟩
theorem test_w_VoltageAndTemperature_vt1 : ∃ (s : State) (b : Fin 4), domOn s (9 + b.val) = true ∧ us 1 ≤ since s (Tbl.get s.treas.paceAt b.val 0) :=
  ⟨live, 3, by decide +kernel⟩
theorem test_w_VoltageAndTemperature_vt2 : ∃ (s : State), s.treas.vrmFail = false ∧ flagOf s Reg.TREAS_AVS_CFG 31 = true ∧ us 100 ≤ since s s.treas.avsAt :=
  ⟨(regStore Reg.TREAS_AVS_CFG 0x80000000#32 (live)), by decide +kernel⟩
theorem test_w_VoltageAndTemperature_vt3 : ∃ (s : State), s.treas.vrmFail = false ∧ flagOf s Reg.TREAS_AVS_CFG 31 = true ∧ us 100 ≤ since s s.treas.avsAt :=
  ⟨(regStore Reg.TREAS_AVS_CFG 0x80000000#32 (live)), by decide +kernel⟩
theorem test_w_VoltageAndTemperature_vt4 : ∃ (v : Word32), v.getLsbD 30 = true :=
  ⟨(0x40000000#32), by decide +kernel⟩
theorem test_w_VoltageAndTemperature_vt5 : ∃ (s : State), us 100 ≤ since s s.treas.tempAt ∧ s.treas.offHeld = false :=
  ⟨live, by decide +kernel⟩
theorem test_w_Brownout_br1 : ∃ (s : State), s.pins.porstLow = false ∧ (s.treas.brown = .normal ∨ s.treas.brown = .recover) :=
  ⟨live, by decide +kernel⟩
theorem test_w_Brownout_br2 : ∃ (s : State) (mv : _), s.pins.porstLow = false ∧ mv < warnMv s ∧ (s.treas.brown = .normal ∨ s.treas.brown = .recover) :=
  ⟨live, 599, by decide +kernel⟩
theorem test_w_Brownout_br3 : ∃ (s : State) (a : _), s.treas.brown = .hold ∧ s.treas.warnSince = some a ∧ us (1000 * max 1 (fieldOf s Reg.TREAS_BROWN_CFG 31 24)) ≤ since s a :=
  ⟨({ live with treas := { live.treas with brown := .hold, warnSince := some 0 } }), 0, by decide +kernel⟩
theorem test_w_Brownout_br4 : ∃ (s : State) (mv : _), (s.treas.brown = .hold ∨ s.treas.brown = .holdSr) ∧ warnMv s + 20 < mv :=
  ⟨({ live with treas := { live.treas with brown := .holdSr } }), 721, by decide +kernel⟩
theorem test_w_Brownout_br5 : ∃ (s : State) (a : _), s.treas.brown = .recover ∧ s.treas.recoverSince = some a ∧ us (fieldOf s Reg.TREAS_BROWN_CFG 23 12) ≤ since s a :=
  ⟨({ live with treas := { live.treas with brown := .recover, recoverSince := some 0 } }), 0, by decide +kernel⟩
theorem test_w_Brownout_br6 : ∃ (mv : _), mv < 580 :=
  ⟨579, by decide +kernel⟩
theorem test_w_Brownout_br7 : ∃ (rail : Fin 4), rail.val ≠ 0 :=
  ⟨3, by decide +kernel⟩
theorem test_w_SmbusAnswer_sm1 : ∃ (s : State), smbAlive s = true :=
  ⟨live, by decide +kernel⟩
theorem test_w_SmbusAnswer_sm2 : ∃ (s : State), smbAlive s = true :=
  ⟨live, by decide +kernel⟩
theorem test_w_SmbusAnswer_sm3 : ∃ (s : State), smbAlive s = true :=
  ⟨live, by decide +kernel⟩
theorem test_w_SmbusAnswer_sm4 : ∃ (s : State), smbAlive s = true :=
  ⟨live, by decide +kernel⟩
theorem test_w_SmbusAnswer_sm5 : ∃ (s : State), smbAlive s = true ∧ flagOf s Reg.TREAS_SMB_CFG 0 = true :=
  ⟨(regStore Reg.TREAS_SMB_CFG 1#32 (live)), by decide +kernel⟩
theorem test_w_SmbusAnswer_sm6 : ∃ (s : State), smbAlive s = false :=
  ⟨(State.reset), by decide +kernel⟩
theorem test_w_SmbusAnswer_sm7 : ∃ (s : State) (pec : _), ((smbAlive s && pec) = false ∨ flagOf s Reg.TREAS_SMB_CFG 0 = false) :=
  ⟨(State.reset), false, by decide +kernel⟩
theorem test_w_Interrupt_i1 : ∃ (s : State), s.pcie.up = true ∧ msixDue s = true ∧ s.msix.masked = false :=
  ⟨({ live with regs := [(Reg.TOP_COFFER_IRQ_CAUSE, 1#32), (Reg.TOP_IRQ_CTRL, 0x40000000#32), (Reg.TOP_IRQ_SUM_MASK, 0#32)], msix := { enable := true, vecMask := false } }), by decide +kernel⟩
theorem test_w_Interrupt_i2 : ∃ (s : State), s.pcie.up = true ∧ msixDue s = true ∧ s.msix.masked = true :=
  ⟨({ live with regs := [(Reg.TOP_COFFER_IRQ_CAUSE, 1#32), (Reg.TOP_IRQ_CTRL, 0x40000000#32), (Reg.TOP_IRQ_SUM_MASK, 0#32)], msix := { enable := true } }), by decide +kernel⟩
theorem test_w_Interrupt_i3 : ∃ (s : State), (s.pcie.up = false ∨ msixDue s = false) :=
  ⟨live, by decide +kernel⟩
theorem test_w_Interrupt_i4 : ∃ (s : State), s.msix.lastSent.isSome = true :=
  ⟨({ live with msix := { lastSent := some 0 } }), by decide +kernel⟩
theorem test_w_Interrupt_i5 : ∃ (s : State) (v : Word32), s.pcie.up = true ∧ v.getLsbD 0 = true :=
  ⟨live, (1#32), by decide +kernel⟩
theorem test_w_Interrupt_i6 : ∃ (s : State) (f : _) (w : _) (e : _), s.pcie.up = true ∧ (s.msix.pba = false ∨ irqLevel s = false ∨ f = true ∨ w = true ∨ e = false) :=
  ⟨live, true, false, true, by decide +kernel⟩
theorem test_w_Interrupt_i7 : ∃ (s : State), s.pcie.up = true ∧ s.msix.pba = true ∧ irqLevel s = true :=
  ⟨({ live with regs := [(Reg.TOP_COFFER_IRQ_CAUSE, 1#32), (Reg.TOP_IRQ_CTRL, 0x40000000#32), (Reg.TOP_IRQ_SUM_MASK, 0#32)], msix := { pba := true } }), by decide +kernel⟩
theorem test_w_Interrupt_i8 : ∃ (s : State) (off : _) (b : _) (i : _) (r : _), s.pcie.up = true ∧ off ≠ 0x88 ∧ decodeOff off = some (b, i, 0x18) ∧ b ≠ .vaultCh ∧ b ≠ .dispo ∧ rowAt b 0x18 = some r ∧ existsAt s b i r = true ∧ ((r.scope ≠ .repl ∨ i = 0)) ∧ writesOpen s off = true :=
  ⟨live, (Reg.TREAS_IRQ_CAUSE + 8), (.treas), 0, ((rowAt .treas 0x18).get (by decide +kernel)), by decide +kernel⟩
theorem test_w_Interrupt_i9 : ∃ (s : State), s.pcie.up = true :=
  ⟨live, by decide +kernel⟩
theorem test_w_Pcie_p1 : ∃ (s : State), s.pins.perstLow = false ∧ s.sec.bootStep ≠ 0 :=
  ⟨live, by decide +kernel⟩
theorem test_w_Pcie_p2 : ∃ (s : State), s.pins.perstLow = true ∧ s.sec.bootStep ≠ 0 :=
  ⟨({ live with pins := { live.pins with perstLow := true } }), by decide +kernel⟩
theorem test_w_Pcie_p3 : ∃ (s : State), s.pcie.up = true :=
  ⟨live, by decide +kernel⟩
theorem test_w_Pcie_p4 : ∃ (s : State) (rate : Fin 8) (width : Fin 32), s.pcie.training = true ∧ domOn s 25 = true ∧ 1 ≤ rate.val ∧ rate.val ≤ 5 ∧ [1, 2, 4, 8].contains width.val = true :=
  ⟨({ live with pcie := { training := true } }), 5, 8, by decide +kernel⟩
theorem test_w_HostAccess_ha1 : ∃ (s : State) (off : _) (size : _), s.pcie.up = true ∧ bar0Ok off size = false :=
  ⟨live, 1, 4, by decide +kernel⟩
theorem test_w_HostAccess_ha2 : ∃ (s : State) (off : _) (size : _), s.pcie.up = true ∧ bar0Ok off size = true ∧ writesOpen s off = false :=
  ⟨(at_ .load |> fun s => { s with pcie := { up := true } }), (Reg.TM_GCL_ADDR), 4, by decide +kernel⟩
theorem test_w_HostAccess_ha3 : ∃ (s : State) (off : _), s.pcie.up = true ∧ bar0Ok off 4 = true ∧ writesOpen s off = true :=
  ⟨live, (Reg.TM_GCL_ADDR), by decide +kernel⟩
theorem test_w_HostAccess_ha4 : ∃ (s : State) (off : _), s.pcie.up = true ∧ bar0Ok off 8 = true ∧ writesOpen s off = true ∧ off ≠ Reg.TIME_INCR_LO :=
  ⟨live, (Reg.SWC_GRP_PORTS_LO), by decide +kernel⟩
theorem test_w_HostAccess_ha5 : ∃ (s : State), s.pcie.up = true :=
  ⟨live, by decide +kernel⟩
theorem test_w_HostAccess_ha6 : ∃ (s : State) (off : _) (b : _) (i : _) (rel : _) (r : _), s.pcie.up = true ∧ bar0Ok off 4 = true ∧ writesOpen s off = true ∧ decodeOff off = some (b, i, rel) ∧ rowAt b rel = some r ∧ existsAt s b i r = true ∧ ((r.scope ≠ .repl ∨ i = 0)) ∧ b ∈ [Block.treas, .time, .perf, .sill, .dma, .port, .lane, .teth, .assay, .sieve, .disp, .tell, .till, .vault, .vaultCh, .audit, .nose, .mint, .swc, .tm, .egr] ∧ (rel = 0x10 ∨ rel = 0x14) :=
  ⟨live, (Reg.TREAS_IRQ_MASK), (.treas), 0, 0x14, ((rowAt .treas 0x14).get (by decide +kernel)), by decide +kernel⟩
theorem test_w_HostAccess_ha7 : ∃ (s : State) (off : _) (size : _) (w : _), s.pcie.up = true ∧ bar0Ok off size = false ∧ cfgOk off size = false ∧ ((w = true ∨ bar4Ok off size = false)) :=
  ⟨live, 1, 4, 0, by decide +kernel⟩
theorem test_w_HostAccess_ha7b : ∃ (s : State) (off : _) (size : _), s.pcie.up = true ∧ bar0Ok off size = false ∧ cfgOk off size = false ∧ bar4Ok off size = false :=
  ⟨live, 1, 4, by decide +kernel⟩
theorem test_w_HostAccess_ha7c : ∃ (s : State) (off : _), s.pcie.up = true ∧ bar4Ok off 4 = true :=
  ⟨live, 0x1000004, by decide +kernel⟩
theorem test_w_HostAccess_ha7d : ∃ (s : State) (off : _), s.pcie.up = true ∧ bar4Ok off 8 = true :=
  ⟨live, 0x1000008, by decide +kernel⟩
theorem test_w_HostAccess_ha7e : ∃ (s : State) (off : _) (v : Nat), s.pcie.up = true ∧ cfgOk off 4 = true ∧ cfgWord (off % 0x1000) = some v :=
  ⟨live, 0x1010008, 0x2800010, by decide +kernel⟩
theorem test_w_HostAccess_ha7f : ∃ (s : State) (off : _), s.pcie.up = true ∧ cfgOk off 4 = true ∧ cfgWord (off % 0x1000) = none :=
  ⟨live, 0x1010004, by decide +kernel⟩
theorem test_w_HostAccess_ha8 : ∃ (s : State) (off : _) (b : _) (i : _) (rel : _) (r : _), s.pcie.up = true ∧ bar0Ok off 4 = true ∧ writesOpen s off = true ∧ off ≠ Reg.TM_GCL_DUR ∧ decodeOff off = some (b, i, rel) ∧ ((b ≠ .disp ∨ rel ≠ 0x184)) ∧ rowAt b rel = some r ∧ existsAt s b i r = true :=
  ⟨live, (Reg.TREAS_IRQ_MASK), (.treas), 0, 0x14, ((rowAt .treas 0x14).get (by decide +kernel)), by decide +kernel⟩
theorem test_w_HostAccess_ha9 : ∃ (s : State) (n : Fin 32) (b : _), s.pcie.up = true ∧ entryInHand s n.val 2 = some b ∧ batchOffset s b.arg = true :=
  ⟨({ live with rings := [(16, { batch := some ⟨[], [2#8, 0, 0, 0, 0x24, 0x01, 0x02, 0] ++ List.replicate 8 0#8, 0, 0, none, 0, none, false, false⟩ })] }), 16, (⟨[], [2#8, 0, 0, 0, 0x24, 0x01, 0x02, 0] ++ List.replicate 8 0#8, 0, 0, none, 0, none, false, false⟩), by decide +kernel⟩
theorem test_w_HostAccess_ha10 : ∃ (s : State) (n : Fin 32) (b : _), s.pcie.up = true ∧ entryInHand s n.val 2 = some b ∧ batchOffset s b.arg = false :=
  ⟨({ live with rings := [(16, { batch := some ⟨[], [2#8, 0, 0, 0, 2] ++ List.replicate 11 0#8, 0, 0, none, 0, none, false, false⟩ })] }), 16, (⟨[], [2#8, 0, 0, 0, 2] ++ List.replicate 11 0#8, 0, 0, none, 0, none, false, false⟩), by decide +kernel⟩
theorem test_w_CofferWritesChangeTheEnabledBytesAlone_cw : ∃ (c : Instr) (s : State) (row : _) (off : _) (data : Bytes) (be : _), writesCoffer c row off data be [] ∧ cofferTakes s row off data.length = true ∧ s.coffer.pending = [] ∧ s.coffer.poison = [] :=
  ⟨(.cofferClearWrite 0x5FFFFC [1#8, 0, 0, 0] [] []), live, 2, 0x5FFFFC, ([1#8, 0, 0, 0]), ([]), .inr (.inr ⟨rfl, rfl⟩), by decide +kernel⟩
theorem test_w_Coffer_cf1 : ∃ (s : State) (off : _) (n : _), cofferReads s off n = true ∧ s.coffer.pending = [] ∧ s.coffer.poison = [] :=
  ⟨live, 0x1FFFFF, 1, by decide +kernel⟩
theorem test_w_Coffer_cf2 : ∃ (s : State) (off : _) (n : _), cofferReads s off n = true :=
  ⟨live, 0x1FFFFF, 1, by decide +kernel⟩
theorem test_w_Coffer_cf3 : ∃ (c : Instr) (s : State) (row : _) (off : _) (data : Bytes) (be : _) (flips : _), writesCoffer c row off data be flips ∧ cofferTakes s row off data.length = true :=
  ⟨(.cofferHostWrite 0x1FFFFF [1#8] [] []), live, 0, 0x1FFFFF, ([1#8]), ([]), ([]), .inl ⟨rfl, rfl⟩, by decide +kernel⟩
theorem test_w_Coffer_cf4 : ∃ (s : State) (off : _) (n : _), cofferReads s off n = false :=
  ⟨live, 0x600000, 1, by decide +kernel⟩
theorem test_w_Coffer_cf5 : ∃ (c : Instr) (s : State) (row : _) (off : _) (data : Bytes) (be : _) (flips : _), writesCoffer c row off data be flips ∧ cofferTakes s row off data.length = false :=
  ⟨(.cofferSetWrite 0x200001 [1#8] [] []), live, 1, 0x200001, ([1#8]), ([]), ([]), .inr (.inl ⟨rfl, rfl⟩), by decide +kernel⟩
theorem test_w_Coffer_cf6 : ∃ (s : State) (q : _) (m : _), domOn s 27 = true ∧ s.coffer.pending = [q] ∧ s.coffer.poison = [] ∧ q.teller < 128 ∧ memOp s q.teller q.op = some m ∧ (m.mop = 5 ∨ m.mop = 6 ∨ m.mop = 7) :=
  ⟨({ live with coffer := { pending := [⟨262143, 127, 1, 0⟩] }, tellers := [(127, { mem := [⟨1, 7, 1, 0, none, false, 7, 0, 0, none, none, false, false⟩] })] }), (⟨262143, 127, 1, 0⟩), (⟨1, 7, 1, 0, none, false, 7, 0, 0, none, none, false, false⟩), by decide +kernel⟩
theorem test_w_Coffer_cf7 : ∃ (s : State) (q : _) (m : _), domOn s 27 = true ∧ s.coffer.pending = [q] ∧ s.coffer.poison = [] ∧ q.teller < 128 ∧ memOp s q.teller q.op = some m ∧ (m.mop = 3 ∨ m.mop = 4) :=
  ⟨({ live with coffer := { pending := [⟨262143, 127, 1, 0⟩] }, tellers := [(127, { mem := [⟨1, 3, 1, 0, none, false, 7, 0, 0, none, none, false, false⟩] })] }), (⟨262143, 127, 1, 0⟩), (⟨1, 3, 1, 0, none, false, 7, 0, 0, none, none, false, false⟩), by decide +kernel⟩
theorem test_w_Coffer_cf8 : ∃ (s : State), s.coffer.pending = [] :=
  ⟨live, by decide +kernel⟩
theorem test_w_Coffer_cf9 : ∃ (s : State) (q : _), domOn s 27 = false ∧ q ∈ s.coffer.pending :=
  ⟨({ { live with coffer := { pending := [⟨262143, 127, 1, 0⟩] }, tellers := [(127, { mem := [⟨1, 3, 1, 0, none, false, 7, 0, 0, none, none, false, false⟩] })] } with treas := {} }), (⟨262143, 127, 1, 0⟩), by decide +kernel⟩
theorem test_w_CharterControl_ch1 : ∃ (s : State) (v : Word32), v.getLsbD 0 = true ∧ v.getLsbD 1 = false ∧ v.getLsbD 4 = false ∧ (s.loader.st = .empty ∨ s.loader.st = .waitPush ∨ s.loader.st = .run ∨ s.loader.st = .failed) :=
  ⟨live, (1#32), by decide +kernel⟩
theorem test_w_CharterControl_ch2 : ∃ (s : State) (v : Word32), v.getLsbD 1 = true ∧ v.getLsbD 0 = false ∧ v.getLsbD 4 = false ∧ (s.loader.st = .empty ∨ s.loader.st = .waitPush ∨ s.loader.st = .run ∨ s.loader.st = .failed) :=
  ⟨live, (2#32), by decide +kernel⟩
theorem test_w_CharterControl_ch3 : ∃ (s : State) (v : Word32), v.getLsbD 4 = true ∧ v.getLsbD 0 = false ∧ v.getLsbD 1 = false ∧ v.getLsbD 3 = false ∧ s.loader.fallback = false ∧ (s.loader.st = .waitPush ∨ s.loader.st = .verify) :=
  ⟨(at_ .verify), (16#32), by decide +kernel⟩
theorem test_w_CharterControl_ch4 : ∃ (s : State) (v : Word32), v.getLsbD 4 = true ∧ v.getLsbD 0 = false ∧ v.getLsbD 1 = false ∧ v.getLsbD 3 = false ∧ s.loader.fallback = false ∧ (s.loader.st = .drain ∨ s.loader.st = .load ∨ s.loader.st = .init) :=
  ⟨(at_ .init), (16#32), by decide +kernel⟩
theorem test_w_CharterControl_ch5 : ∃ (s : State) (v : Word32), v.getLsbD 3 = true ∧ v.getLsbD 0 = false ∧ v.getLsbD 1 = false ∧ v.getLsbD 4 = false ∧ s.loader.st = .run :=
  ⟨live, (8#32), by decide +kernel⟩
theorem test_w_CharterLoad_cl1 : ∃ (s : State), s.loader.st = .drain ∧ s.loader.drained = false ∧ drainTicks s ≤ since s s.loader.drainStart :=
  ⟨({ live with loader := { st := .drain } }), by decide +kernel⟩
theorem test_w_CharterLoad_cl2 : ∃ (s : State), (s.loader.push = false ∨ s.loader.st = .empty ∨ s.loader.st = .run ∨ s.loader.st = .failed) :=
  ⟨live, by decide +kernel⟩
theorem test_w_CharterLoad_cl3 : ∃ (s : State) (v : Word32), s.loader.push = true ∧ s.loader.st = .load ∧ s.loader.keepErr = false ∧ s.loader.manifest.isSome = true ∧ s.loader.trailer.isSome = true ∧ bits v.toNat 20 0 ≠ 0 ∧ bits v.toNat 20 0 ≤ 0xD0000 ∧ (if bits v.toNat 24 24 = 0 then s.loader.free0 else s.loader.free1) = true ∧ s.loader.waiting = [] ∧ fieldOf s Reg.TOP_CHARTER_PUSH_OFF 25 0 = s.loader.nextOff ∧ s.loader.nextOff + bits v.toNat 20 0 ≤ imageTrailer s ∧ (bits v.toNat 20 0 % 0x1000 = 0 ∨ s.loader.nextOff + bits v.toNat 20 0 = imageTrailer s) :=
  ⟨({ live with loader := { st := .load, push := true, manifest := some (List.replicate 28 0#8 ++ [0, 0x10, 0, 0]), trailer := some [] } }), (0x1000#32), by decide +kernel⟩
theorem test_w_CharterLoad_cl4 : ∃ (s : State) (c : _) (rest : _), s.loader.waiting = c :: rest ∧ c.taken = true :=
  ⟨({ live with loader := { st := .load, waiting := [⟨1, 0, 4096, false, true⟩] } }), (⟨1, 0, 4096, false, true⟩), ([]), by decide +kernel⟩
theorem test_w_CharterLoad_cl5 : ∃ (s : State) (trl : _), s.loader.st = .verify ∧ s.loader.trailer = some trl ∧ (verifyImage s trl).1 ≠ 0 ∧ s.loader.fallback = false :=
  ⟨({ live with loader := { st := .verify, trailer := some [] } }), ([]), by decide +kernel⟩
theorem test_w_CharterLoad_cl6 : ∃ (s : State) (trl : _), s.loader.st = .verify ∧ s.loader.trailer = some trl ∧ s.loader.prev = .run :=
  ⟨({ live with loader := { st := .verify, prev := .run, trailer := some [] } }), ([]), by decide +kernel⟩
theorem test_w_CharterLoad_cl7 : ∃ (s : State) (trl : _), s.loader.st = .verify ∧ s.loader.trailer = some trl ∧ s.loader.prev ≠ .run ∧ batchRuns s = false ∧ s.loader.waiting = [] :=
  ⟨({ live with loader := { st := .verify, trailer := some [] } }), ([]), by decide +kernel⟩
theorem test_w_CharterLoad_cl8 : ∃ (s : State), s.loader.st = .drain ∧ s.loader.drained = true ∧ batchRuns s = false ∧ s.loader.waiting = [] :=
  ⟨({ live with loader := { st := .drain, drained := true } }), by decide +kernel⟩
theorem test_w_CharterLoad_cl9 : ∃ (s : State) (d : _) (m : _), s.loader.push = false ∧ s.loader.st = .verify ∧ s.loader.manifest = none ∧ flashEnd s ≤ d ∧ m.length = 0x4000 ∧ manifestError m = none :=
  ⟨(at_ .verify), 0x4000, smallManifest, by decide +kernel⟩
theorem test_w_CharterLoad_cl10 : ∃ (s : State) (d : Option Nat) (x : Option Bytes), s.loader.push = false ∧ s.loader.st = .verify ∧ s.loader.trailer = none ∧ s.loader.fallback = false ∧ ((x = none ∨ ∀ n, d = some n → n < flashEnd s)) :=
  ⟨(at_ .verify), (some 0), none, rfl, rfl, rfl, rfl, .inl rfl⟩
theorem test_w_CharterLoad_cl11 : ∃ (s : State) (d : _) (e : _) (b : Bytes), s.loader.push = false ∧ s.loader.st = .load ∧ s.loader.dir[s.loader.sectIdx]? = some e ∧ s.loader.acc = [] ∧ flashEnd s ≤ d ∧ e.offset + b.length = sectionEnd s s.loader.sectIdx :=
  ⟨({ live with loader := { st := .load, dir := [⟨9, 0, 0, 16, 0⟩, ⟨9, 0, 16, 16, 0⟩] } }), 0x2000000, (⟨9, 0, 0, 16, 0⟩), (List.replicate 16 0#8), by decide +kernel⟩
theorem test_w_CharterLoad_cl12 : ∃ (s : State) (e : _), s.loader.st = .load ∧ s.loader.dir[s.loader.sectIdx]? = some e ∧ sectionEnd s s.loader.sectIdx - e.offset ≤ s.loader.acc.length ∧ (s.loader.sectIdx = 0 ∨ loadPowered s = true) ∧ Config.sha384 (s.loader.acc.take e.length) = e.digest ∧ sectionOk e.type (s.loader.acc.take e.length) s.treas.exist = true ∧ crossError (writeSection e (s.loader.acc.take e.length) s) = none ∧ allZero ((s.loader.acc.take (sectionEnd s s.loader.sectIdx - e.offset)).drop e.length) = true ∧ s.loader.sectIdx + 1 ≠ s.loader.dir.length :=
  ⟨({ live with loader := { st := .load, dir := [⟨0xE, 0, 0, 8, Config.sha384 (List.replicate 8 0#8)⟩, ⟨0xE, 0, 16, 16, 0⟩], acc := List.replicate 16 0#8 }, treas := { live.treas with exist := 0 } }), (⟨0xE, 0, 0, 8, Config.sha384 (List.replicate 8 0#8)⟩), rfl, rfl, by decide +kernel, by decide +kernel, rfl, by decide +kernel, by decide +kernel, by decide +kernel, by decide +kernel⟩
theorem test_w_CharterLoad_cl13 : ∃ (s : State) (e : _), s.loader.st = .load ∧ s.loader.dir[s.loader.sectIdx]? = some e ∧ sectionEnd s s.loader.sectIdx - e.offset ≤ s.loader.acc.length ∧ (s.loader.sectIdx = 0 ∨ loadPowered s = true) ∧ Config.sha384 (s.loader.acc.take e.length) ≠ e.digest ∧ s.loader.fallback = false :=
  ⟨({ live with loader := { st := .load, dir := [⟨0xE, 0, 0, 8, ~~~(Config.sha384 (List.replicate 8 0#8))⟩, ⟨0xE, 0, 16, 16, 0⟩], acc := List.replicate 16 0#8 } }), (⟨0xE, 0, 0, 8, ~~~(Config.sha384 (List.replicate 8 0#8))⟩), rfl, rfl, by decide +kernel, by decide +kernel, not_own _, rfl⟩
theorem test_w_CharterLoad_cl14 : ∃ (s : State) (c : Fin 8) (spd : Spd), s.loader.st = .init ∧ (s.chanAt c.val).st = .training ∧ spdOk s spd = true :=
  ⟨({ live with loader := { st := .init }, vault := { chans := [(7, { st := .training })] } }), 7, (⟨true, 1, 32, 0⟩), by decide +kernel⟩
theorem test_w_CharterLoad_cl15 : ∃ (s : State) (c : Fin 8) (spd : Spd) (f : Option (Fin 4 × Fin 2)), s.loader.st = .init ∧ (s.chanAt c.val).st = .training ∧ ((spdOk s spd = false ∨ f ≠ none)) ∧ s.loader.fallback = false :=
  ⟨({ live with loader := { st := .init }, vault := { chans := [(7, { st := .training })] } }), 7, (⟨false, 1, 32, 0⟩), none, by decide +kernel⟩
theorem test_w_CharterLoad_cl16 : ∃ (s : State), initReady s = true ∧ regInitOk s s.loader.regInit = false ∧ s.loader.fallback = false :=
  ⟨({ live with loader := { st := .init, regInit := [1#8] }, vault := { chans := (List.range 8).map fun c => (c, { st := .service }) } }), by decide +kernel⟩
theorem test_w_CharterLoad_cl17 : ∃ (s : State), initReady s = true ∧ regInitOk s s.loader.regInit = true ∧ (applyRegInit s.loader.regInit s).loader = s.loader ∧ (applyRegInit s.loader.regInit s).sec = s.sec :=
  ⟨({ live with loader := { st := .init }, vault := { chans := (List.range 8).map fun c => (c, { st := .service }) } }), by decide +kernel⟩
theorem test_w_Reset_rs1 : ∃ (s : State) (ns : _), s.pins.porstLow = false ∧ 10000 ≤ ns :=
  ⟨live, 10000, by decide +kernel⟩
theorem test_w_Reset_rs2 : ∃ (s : State) (ns : _), (s.pins.porstLow = true ∨ ns < 100) :=
  ⟨live, 99, by decide +kernel⟩
theorem test_w_Reset_rs3 : ∃ (s : State), s.pins.porstLow = true ∧ s.pins.railHold = [] ∧ s.treas.offHeld = false ∧ s.sec.bootStep = 0 ∧ s.loader.st = .empty :=
  ⟨(State.reset), by decide +kernel⟩
theorem test_w_Reset_rs4 : ∃ (s : State), s.pins.porstLow = false :=
  ⟨live, by decide +kernel⟩
theorem test_w_Reset_rs5 : ∃ (s : State) (rail : Fin 4), s.pins.railHold.contains rail.val = true ∧ ((rail.val ≠ 0 ∨ s.treas.brown = .normal)) :=
  ⟨({ live with pins := { live.pins with railHold := [3] } }), 3, by decide +kernel⟩
theorem test_w_Reset_rs6 : ∃ (s : State) (rail : Fin 4), s.pins.railHold = [rail.val] ∧ ((rail.val ≠ 0 ∨ s.treas.brown = .normal)) ∧ s.pins.porstLow = false ∧ s.treas.offHeld = false ∧ s.sec.bootStep = 0 ∧ s.loader.st = .empty :=
  ⟨({ State.reset with pins := { porstLow := false, railHold := [3] } }), 3, by decide +kernel⟩
theorem test_w_Reset_rs7 : ∃ (s : State) (rail : Fin 4), (s.pins.railHold.contains rail.val = false ∨ (rail.val = 0 ∧ s.treas.brown ≠ .normal)) :=
  ⟨({ live with pins := { live.pins with railHold := [0] }, treas := { live.treas with brown := .hold } }), 0, by decide +kernel⟩
theorem test_w_VaultAccess_va1 : ∃ (s : State) (record : _) (noise : _), record < capacityRecords s.vault ∧ (s.chanAt (chanOf s.vault record)).merge.find? (·.record = record) = none ∧ decodeTransfer (xorBytes (cellTransfer (peekRecord s record)) noise) = .ok [] :=
  ⟨({ live with vault := { regions := [{ base := 0, size := 256 }, { base := 256, size := 256 }], chans := (List.range 8).map fun c => (c, { st := .service }) } }), 2147483647, ([]), by decide +kernel⟩
theorem test_w_VaultAccess_va2 : ∃ (s : State) (record : _) (noise : _) (retry : _) (w : _) (w2 : _), record < capacityRecords s.vault ∧ (s.chanAt (chanOf s.vault record)).merge.find? (·.record = record) = none ∧ decodeTransfer (xorBytes (cellTransfer (peekRecord s record)) noise) = .bad w ∧ (decodeTransfer (xorBytes (cellTransfer (peekRecord s record)) retry) = .bad w2 ∨ decodeTransfer (xorBytes (cellTransfer (peekRecord s record)) retry) = .poison) :=
  ⟨({ live with vault := { regions := [{ base := 0, size := 256 }, { base := 256, size := 256 }], chans := (List.range 8).map fun c => (c, { st := .service }) } }), 0, badNoise, badNoise, 1, 1, by decide +kernel⟩
theorem test_w_VaultAccess_va3 : ∃ (s : State) (record : _), capacityRecords s.vault ≤ record :=
  ⟨({ live with vault := { regions := [{ base := 0, size := 256 }, { base := 256, size := 256 }], chans := (List.range 8).map fun c => (c, { st := .service }) } }), 2147483648, by decide +kernel⟩
theorem test_w_VaultAccess_va4 : ∃ (s : State) (c : Fin 8) (record : _) (e : _), (s.chanAt c.val).merge.find? (·.record = record) = some e ∧ us 1 ≤ since s e.openAt :=
  ⟨({ live with vault := { chans := [(7, { merge := [⟨7, [], [], 0, false, []⟩] })] } }), 7, 7, (⟨7, [], [], 0, false, []⟩), by decide +kernel⟩
theorem test_w_VaultAccess_va5 : ∃ (s : State) (off : _) (len : _), (s.treas.brown = .holdSr ∨ windowReaches off len = false ∨ windowMapped s (windowAddr s off) len = false) :=
  ⟨({ live with vault := { regions := [{ base := 0, size := 256 }, { base := 256, size := 256 }], chans := (List.range 8).map fun c => (c, { st := .service }) } }), 0x1FFFFFF, 1, by decide +kernel⟩
theorem test_w_VaultAccess_va6 : ∃ (s : State) (off : _) (data : Bytes), (s.treas.brown = .holdSr ∨ windowReaches off data.length = false ∨ windowMapped s (windowAddr s off) data.length = false) :=
  ⟨({ live with vault := { regions := [{ base := 0, size := 256 }, { base := 256, size := 256 }], chans := (List.range 8).map fun c => (c, { st := .service }) } }), 0x1FFFFFF, ([1#8]), by decide +kernel⟩
theorem test_w_VaultAccess_va9 : ∃ (s : State) (off : _) (len : _), s.treas.brown ≠ .holdSr ∧ windowReaches off len = true ∧ windowMapped s (windowAddr s off) len = true ∧ (s.vault.win ≠ [] ∨ windowTurn s ⟨windowAddr s off, len, none⟩ = false) :=
  ⟨({ { live with vault := { regions := [{ base := 0, size := 256 }, { base := 256, size := 256 }], chans := (List.range 8).map fun c => (c, { st := .service }) } } with vault := { ({ live with vault := { regions := [{ base := 0, size := 256 }, { base := 256, size := 256 }], chans := (List.range 8).map fun c => (c, { st := .service }) } }).vault with win := [⟨0x100, 128, none⟩] } }), 0x2000000, 128, by decide +kernel⟩
theorem test_w_VaultAccess_va10 : ∃ (s : State) (off : _) (data : Bytes) (be : List Bool), s.treas.brown ≠ .holdSr ∧ windowReaches off data.length = true ∧ windowMapped s (windowAddr s off) data.length = true ∧ (s.vault.win ≠ [] ∨ windowTurn s ⟨windowAddr s off, data.length, some (data, be)⟩ = false) :=
  ⟨({ { live with vault := { regions := [{ base := 0, size := 256 }, { base := 256, size := 256 }], chans := (List.range 8).map fun c => (c, { st := .service }) } } with vault := { ({ live with vault := { regions := [{ base := 0, size := 256 }, { base := 256, size := 256 }], chans := (List.range 8).map fun c => (c, { st := .service }) } }).vault with win := [⟨0x100, 128, none⟩] } }), 0x2000000, ([1#8]), ([]), by decide +kernel⟩
theorem test_w_VaultAccess_va7 : ∃ (s : State) (off : _) (len : _) (r : _), s.treas.brown ≠ .holdSr ∧ windowReaches off len = true ∧ windowMapped s (windowAddr s off) len = true ∧ s.vault.win = [] ∧ windowTurn s ⟨windowAddr s off, len, none⟩ = true ∧ windowAddr s off % 128 + len ≤ 128 ∧ peekRecord s (windowAddr s off / 128) = .data r ∧ (s.chanAt (chanOf s.vault (windowAddr s off / 128))).merge.find? (·.record = windowAddr s off / 128) = none :=
  ⟨({ live with vault := { regions := [{ base := 0, size := 256 }, { base := 256, size := 256 }], chans := (List.range 8).map fun c => (c, { st := .service }) } }), 0x3FFFF80, 128, (Rec.empty), by decide +kernel⟩
theorem test_w_VaultAccess_va8 : ∃ (s : State) (off : _) (data : Bytes) (be : List Bool), s.treas.brown ≠ .holdSr ∧ windowReaches off 128 = true ∧ windowMapped s (windowAddr s off) 128 = true ∧ s.vault.win = [] ∧ windowTurn s ⟨windowAddr s off, 128, some (data, be)⟩ = true ∧ data.length = 128 ∧ ((∀ i, i < 128 → be.getD i true = true)) ∧ windowAddr s off % 128 = 0 ∧ ((∀ i r, regionOf s.vault (windowAddr s off / 128) = some (i, r) → i ≠ s.vault.ftRegion)) :=
  ⟨farWindow, (0x2000000), (List.replicate 128 1#8), ([]), by decide +kernel, by decide +kernel, by decide +kernel, by decide +kernel, by decide +kernel, by decide +kernel, by decide +kernel, by decide +kernel, by intro i r h; rw [show regionOf farWindow.vault (windowAddr farWindow 0x2000000 / 128) = some (1, ⟨256, 256, false⟩) by decide +kernel] at h; cases h; decide⟩
theorem test_w_VaultUpkeep_vu1 : ∃ (s : State) (c : Fin 8) (cs : Fin 2) (set : Fin 4), chanAwake (s.chanAt c.val) = true ∧ rankWorked s (2 * c.val + cs.val) = true ∧ (if chanHot (s.chanAt c.val) then 1950 else 3900) ≤ since s (Tbl.get (s.chanAt c.val).refAt (setNo cs.val set.val) 0) :=
  ⟨({ live with vault := { regions := [{ base := 0, size := 256 }], ranks := 2, chans := [(7, { st := .service })] } }), 7, 1, 3, by decide +kernel⟩
theorem test_w_VaultUpkeep_vu2 : ∃ (s : State) (c : Fin 8) (cs : Fin 2) (set : Fin 4), chanAwake (s.chanAt c.val) = true ∧ Tbl.get (s.chanAt c.val).debt (setNo cs.val set.val) 0 ≠ 0 ∧ setQueued s (2 * c.val + cs.val) set.val = false :=
  ⟨({ live with vault := { regions := [{ base := 0, size := 256 }], ranks := 2, chans := [(7, { st := .srEntry, debt := [(7, 1)] })] } }), 7, 1, 3, by decide +kernel⟩
theorem test_w_VaultUpkeep_vu3 : ∃ (s : State) (c : Fin 8), us 1000 ≤ since s (s.chanAt c.val).tempAt :=
  ⟨({ live with vault := { regions := [{ base := 0, size := 256 }], ranks := 2, chans := [(7, { st := .service })] } }), 7, by decide +kernel⟩
theorem test_w_VaultUpkeep_vu4 : ∃ (s : State) (c : Fin 8), us 1000 ≤ since s (s.chanAt c.val).tempAt :=
  ⟨({ live with vault := { regions := [{ base := 0, size := 256 }], ranks := 2, chans := [(7, { st := .service })] } }), 7, by decide +kernel⟩
theorem test_w_VaultUpkeep_vu5 : ∃ (s : State) (c : Fin 8), (s.chanAt c.val).st = .srEntry ∧ (s.chanAt c.val).writes = [] :=
  ⟨({ live with vault := { regions := [{ base := 0, size := 256 }], ranks := 2, chans := [(7, { st := .srEntry })] } }), 7, by decide +kernel⟩
theorem test_w_VaultUpkeep_vu6 : ∃ (s : State), s.treas.brown ≠ .holdSr :=
  ⟨({ live with vault := { regions := [{ base := 0, size := 256 }], ranks := 2, chans := [(7, { st := .srEntry })] } }), by decide +kernel⟩
theorem test_w_VaultUpkeep_vu7 : ∃ (s : State) (c : Fin 8), s.treas.brown ≠ .holdSr ∧ (s.chanAt c.val).st = .srEntry :=
  ⟨({ live with vault := { regions := [{ base := 0, size := 256 }], ranks := 2, chans := [(7, { st := .srEntry })] } }), 7, by decide +kernel⟩
theorem test_w_VaultUpkeep_vu8 : ∃ (s : State) (c : Fin 8), (s.chanAt c.val).st = .srExit :=
  ⟨({ live with vault := { regions := [{ base := 0, size := 256 }], ranks := 2, chans := [(7, { st := .srExit })] } }), 7, by decide +kernel⟩
theorem test_w_VaultUpkeep_vu9 : ∃ (s : State) (c : Fin 8) (why : _), srWanted s = some why ∧ us 1 ≤ since s (s.chanAt c.val).lastReq ∧ (s.chanAt c.val).st = .service ∧ (s.chanAt c.val).merge = [] ∧ winWaits s c.val = false :=
  ⟨({ live with treas := { live.treas with pstate := .quiet }, vault := { chans := [(7, { st := .service })] } }), 7, (.quiet), by decide +kernel⟩
theorem test_w_VaultUpkeep_vu10 : ∃ (s : State) (rank : Fin 16), (s.chanAt (rank.val / 2)).st = .service ∧ rankWorked s rank.val = true ∧ us 100000 ≤ since s (Tbl.get (s.chanAt (rank.val / 2)).zqAt (rank.val % 2) 0) :=
  ⟨({ live with vault := { regions := [{ base := 0, size := 256 }], ranks := 2, chans := [(7, { st := .service })] } }), 15, by decide +kernel⟩
theorem test_w_VaultUpkeep_vu11 : ∃ (s : State) (rank : Fin 16) (zq : _) (dqs : _), (s.chanAt (rank.val / 2)).st = .service ∧ rankWorked s rank.val = true ∧ us 100000 ≤ since s (Tbl.get (s.chanAt (rank.val / 2)).zqAt (rank.val % 2) 0) ∧ (zq && dqs) = false ∧ ¬ (s.vault.spareSt = .migrating ∧ s.vault.spare = some rank.val) :=
  ⟨({ live with vault := { regions := [{ base := 0, size := 256 }], ranks := 2, chans := [(7, { st := .service })] } }), 15, false, true, by decide +kernel⟩
theorem test_w_VaultUpkeep_vu12 : ∃ (s : State) (c : Fin 8) (rank : Fin 16), chanAwake (s.chanAt c.val) = true ∧ rank.val / 2 = c.val ∧ rankWorked s rank.val = true :=
  ⟨({ live with vault := { regions := [{ base := 0, size := 256 }], ranks := 2, chans := [(7, { st := .srEntry })] } }), 7, 15, by decide +kernel⟩
theorem test_w_VaultUpkeep_vu13 : ∃ (s : State) (c : Fin 8) (rank : Fin 16) (a : _), chanAwake (s.chanAt c.val) = true ∧ rank.val / 2 = c.val ∧ rankWorked s rank.val = true ∧ a < capacityRecords s.vault ∧ writeRanks s.vault a = [rank.val] ∧ ¬ (s.vault.spareSt = .migrating ∧ s.vault.spare = some rank.val) ∧ (s.chanAt c.val).fwl.length < 256 :=
  ⟨({ live with vault := { regions := [{ base := 0, size := 256 }, { base := 256, size := 256 }], chans := (List.range 8).map fun c => (c, { st := .service }) } }), 7, 14, 7, by decide +kernel⟩
theorem test_w_VaultUpkeep_vu14 : ∃ (s : State) (c : Fin 8), s.time.net / (60000000000 * 4294967296) ≠ (s.chanAt c.val).ceWindow :=
  ⟨({ live with time := { live.time with net := 60000000000 * 4294967296 } }), 7, by decide +kernel⟩
theorem test_w_VaultUpkeep_vu15 : ∃ (s : State) (v : Word32), v.getLsbD 31 = true ∧ barOpen s = true ∧ rankPresent s.vault (bits v.toNat 3 0) = true ∧ s.vault.spareSt = .ready ∧ s.vault.spare ≠ some (bits v.toNat 3 0) :=
  ⟨({ live with vault := { spareSt := .ready, spare := some 0 } }), (0x8000000E#32), by decide +kernel⟩
theorem test_w_VaultUpkeep_vu16 : ∃ (s : State), s.vault.spareSt = .migrating ∧ sparePaused s = false ∧ migrationTurn s = true ∧ s.vault.cursor + 1 < rankRecords s.vault ∧ (s.chanAt (chanOf s.vault (srcRecord s s.vault.cursor))).merge.find? (·.record = srcRecord s s.vault.cursor) = none :=
  ⟨({ live with regs := [(Reg.VAULT_SPARE_CFG, 0x100#32)], vault := { spareSt := .migrating, spare := some 14, chans := (List.range 8).map fun c => (c, { st := .service }) } }), by decide +kernel⟩
theorem test_w_Gate_ga1 : ∃ (s : State), barOpen s = true ∧ (s.schedAt (gclPort s)).pending = none :=
  ⟨live, by decide +kernel⟩
theorem test_w_Gate_ga2 : ∃ (s : State), barOpen s = true ∧ (s.schedAt (gclPort s)).pending ≠ none :=
  ⟨({ live with tm := { live.tm with scheds := [(0, { pending := some (5, ⟨0, 1000, [⟨1, 1000⟩]⟩) })] } }), by decide +kernel⟩
theorem test_w_Gate_ga3 : ∃ (s : State), barOpen s = true :=
  ⟨live, by decide +kernel⟩
theorem test_w_Gate_ga4 : ∃ (s : State), barOpen s = false :=
  ⟨(at_ .load), by decide +kernel⟩
theorem test_w_Gate_ga5 : ∃ (s : State) (p : Fin 64) (v : Word32), v.getLsbD 31 = true ∧ v.getLsbD 16 = true ∧ barOpen s = true ∧ (s.schedAt p.val).pending = none ∧ listOk (adminList s p.val (bits v.toNat 10 0)) (bits v.toNat 10 0) = true :=
  ⟨({ live with regs := [(Reg.TM_GATE_CYCLE_NS 63, 1000#32)], tm := { live.tm with scheds := [(63, { adminBank := [(0, ⟨1, 1000⟩)] })] } }), 63, (0x80010001#32), by decide +kernel⟩
theorem test_w_Gate_ga6 : ∃ (s : State) (p : Fin 64) (v : Word32), v.getLsbD 31 = true ∧ v.getLsbD 16 = true ∧ barOpen s = true ∧ (s.schedAt p.val).pending = none ∧ listOk (adminList s p.val (bits v.toNat 10 0)) (bits v.toNat 10 0) = false :=
  ⟨live, 63, (0x80010001#32), by decide +kernel⟩
theorem test_w_Gate_ga7 : ∃ (s : State) (p : Fin 64) (v : Word32), v.getLsbD 31 = true ∧ v.getLsbD 16 = true ∧ barOpen s = true ∧ (s.schedAt p.val).pending ≠ none :=
  ⟨({ live with tm := { live.tm with scheds := [(63, { pending := some (5, ⟨0, 1000, [⟨1, 1000⟩]⟩) })] } }), 63, (0x80010001#32), by decide +kernel⟩
theorem test_w_Gate_ga8 : ∃ (s : State) (v : Word32), v.getLsbD 31 = false ∧ barOpen s = true :=
  ⟨live, (0#32), by decide +kernel⟩
theorem test_w_Gate_ga9 : ∃ (s : State) (p : Fin 64) (sw : _) (g : _), (s.schedAt p.val).pending = some (sw, g) ∧ sw * 2 ^ 32 ≤ s.time.net :=
  ⟨({ live with tm := { live.tm with scheds := [(63, { pending := some (5, ⟨0, 1000, [⟨1, 1000⟩]⟩) })] } }), 63, 5, (⟨0, 1000, [⟨1, 1000⟩]⟩), by decide +kernel⟩
theorem test_w_FlowControlAndLink_fl1 : ∃ (s : State) (p : Fin 64) (c : Fin 8) (e : _), Tbl.find (s.schedAt p.val).pauseEnd c.val = some e ∧ e ≤ s.time.tick :=
  ⟨({ live with tm := { live.tm with scheds := [(63, { pauseEnd := [(7, 5)] })] } }), 63, 7, 5, by decide +kernel⟩
theorem test_w_FlowControlAndLink_fl2 : ∃ (s : State) (p : Fin 64) (at_ : _), portTx s p.val = .frames ∧ fcMode s p.val = 1 ∧ (s.schedAt p.val).xoff.find? (·.1 == 8) = some (8, at_) ∧ bitTimes (512 * 0x8000) (portGbps s p.val) ≤ since s at_ ∧ fcXon s p.val < fcCount s p.val 8 :=
  ⟨({ live with ports := [(0, { st := .up })], tm := { live.tm with scheds := [(0, { xoff := [(8, 0)] })] }, regs := [(Reg.TM_PORT_FC_THR 0, 0#32), (Reg.TM_PORT_CTRL 0, 0x100#32)], swc := { frames := [(3, ⟨.port 0 0, 0, 0, [], 0, false, none, [.global], false, 0, [], [], [], false, false, false, false, false, {}⟩)] } }), 0, 0, by decide +kernel⟩
theorem test_w_FlowControlAndLink_fl3 : ∃ (s : State) (p : Fin 64) (v : Word32), v.getLsbD 0 = true ∧ barOpen s = true ∧ portExists s p.val = true ∧ portReady (regStore (Reg.PORT_CTRL p.val) (v &&& 1#32) s) p.val = true ∧ (s.portAt p.val).st = .down :=
  ⟨live, 0, (1#32), by decide +kernel⟩
theorem test_w_FlowControlAndLink_fl4 : ∃ (s : State) (p : Fin 64) (v : Word32), v.getLsbD 0 = true ∧ barOpen s = true ∧ portExists s p.val = true ∧ ¬(portReady (regStore (Reg.PORT_CTRL p.val) (v &&& 1#32) s) p.val = true ∧ (s.portAt p.val).st = .down) :=
  ⟨(portIn .up), 0, (1#32), by decide +kernel⟩
theorem test_w_FlowControlAndLink_fl5 : ∃ (s : State) (p : Fin 64) (v : Word32), v.getLsbD 0 = false ∧ barOpen s = true ∧ portExists s p.val = true :=
  ⟨live, 0, (0#32), by decide +kernel⟩
theorem test_w_FlowControlAndLink_fl6 : ∃ (s : State) (p : Fin 64), (s.portAt p.val).st = .acquire ∧ portReady s p.val = true :=
  ⟨(regStore (Reg.PORT_CTRL 0) 1#32 (portIn .acquire)), 0, by decide +kernel⟩
theorem test_w_FlowControlAndLink_fl7 : ∃ (s : State) (p : Fin 64), (s.portAt p.val).st = .align ∧ portReady s p.val = true :=
  ⟨(regStore (Reg.PORT_CTRL 0) 1#32 (portIn .align)), 0, by decide +kernel⟩
theorem test_w_FlowControlAndLink_fl8 : ∃ (s : State) (p : Fin 64) (a : _), (s.portAt p.val).st = .align ∧ (s.portAt p.val).alignedAt = some a ∧ portReady s p.val = true ∧ (s.portAt p.val).localFault = false ∧ (s.portAt p.val).remoteFault = false ∧ upHold s p.val ≤ since s a :=
  ⟨(regStore (Reg.PORT_CTRL 0) 1#32 ({ live with ports := [(0, { st := .align, alignedAt := some 0 })] })), 0, 0, by decide +kernel⟩
theorem test_w_FlowControlAndLink_fl9 : ∃ (s : State) (p : Fin 64), ((s.portAt p.val).st = .up ∨ (s.portAt p.val).st = .align) ∧ us (fieldOf s (Reg.PORT_LINK_CFG p.val) 31 16) ≤ since s ((s.portAt p.val).faultAt.getD s.time.tick) :=
  ⟨({ live with ports := [(0, { st := .align, faultAt := some 0 })] }), 0, by decide +kernel⟩
theorem test_w_FlowControlAndLink_fl9b : ∃ (s : State) (p : Fin 64), ((s.portAt p.val).st = .up ∨ (s.portAt p.val).st = .align) ∧ (s.portAt p.val).faultAt = none ∧ 0 < fieldOf s (Reg.PORT_LINK_CFG p.val) 31 16 :=
  ⟨(regStore (Reg.PORT_LINK_CFG 63) 0x10000#32 ({ live with ports := [(63, { st := .up })] })), 63, by decide +kernel⟩
theorem test_w_FlowControlAndLink_fl10 : ∃ (s : State) (p : Fin 64), ((s.portAt p.val).st = .up ∨ (s.portAt p.val).st = .align) :=
  ⟨(portIn .align), 0, by decide +kernel⟩
theorem test_w_Reception_rx1 : ∃ (s : State) (p : Fin 64) (data : Bytes), macOpen s p.val = true ∧ (s.portAt p.val).rx = none ∧ (s.portAt p.val).rxDiscard = false ∧ data ≠ [] ∧ beAt data 12 2 ≠ 0x8808 :=
  ⟨(portIn .up), 0, (List.replicate 60 0#8), by decide +kernel⟩
theorem test_w_Reception_rx2 : ∃ (s : State) (p : Fin 64) (data : Bytes), macOpen s p.val = true ∧ (s.portAt p.val).rx = none ∧ (s.portAt p.val).rxDiscard = false ∧ data ≠ [] ∧ beAt data 12 2 ≠ 0x8808 :=
  ⟨(portIn .up), 0, (List.replicate 60 0#8), by decide +kernel⟩
theorem test_w_Reception_rx3 : ∃ (s : State) (p : Fin 64) (f : _), (s.portAt p.val).rx = some f :=
  ⟨({ live with ports := [(0, { st := .up, rx := some 4 })] }), 0, 4, by decide +kernel⟩
theorem test_w_Reception_rx4 : ∃ (s : State) (p : Fin 64), (s.portAt p.val).rx = none ∧ (s.portAt p.val).rxDiscard = true :=
  ⟨({ live with ports := [(0, { st := .up, rxDiscard := true })] }), 0, by decide +kernel⟩
theorem test_w_Reception_rx5 : ∃ (s : State) (r : _) (f : _) (x : _) (k : _), s.swc.cellReqs = [(r, f)] ∧ frameAt s f = some x ∧ x.refused = false ∧ grantPool s r = some k ∧ wantsCell { x with cells := x.cells ++ [k] } = false :=
  ⟨({ live with swc := { cellReqs := [(.port 0 0, 3)], frames := [(3, ⟨.port 0 0, 0, 0, [1#8], 0, false, none, [], false, 0, [], [], [], false, false, false, false, false, {}⟩)], globalSize := 1 } }), (.port 0 0), 3, (⟨.port 0 0, 0, 0, [1#8], 0, false, none, [], false, 0, [], [], [], false, false, false, false, false, {}⟩), (.global), by decide +kernel⟩
theorem test_w_Reception_rx6 : ∃ (s : State) (q : _) (f : _) (x : _), s.swc.cellReqs = [(.inject q, f)] ∧ frameAt s f = some x ∧ x.req = .inject q ∧ x.refused = false ∧ grantPool s (.inject q) = none :=
  ⟨({ live with swc := { cellReqs := [(.inject 7, 3)], frames := [(3, ⟨.inject 7, 0, 0, [1#8], 0, false, none, [], false, 0, [], [], [], false, false, false, false, false, {}⟩)] } }), 7, 3, (⟨.inject 7, 0, 0, [1#8], 0, false, none, [], false, 0, [], [], [], false, false, false, false, false, {}⟩), by decide +kernel⟩
theorem test_w_Reception_rx7 : ∃ (s : State) (p : Fin 64) (data : Bytes) (c : Nat), macOpen s p.val = true ∧ (s.portAt p.val).rx = none ∧ (s.portAt p.val).rxDiscard = false ∧ beAt data 12 2 = 0x8808 ∧ beAt data 14 2 = 0x0001 ∧ 60 ≤ data.length ∧ data.length + 4 ≤ maxFrame s p.val ∧ fcMode s p.val = 1 ∧ c < classCount s p.val :=
  ⟨({ portIn .up with regs := [(Reg.TM_PORT_CTRL 0, 0x100#32)] }), 0, (List.replicate 12 0#8 ++ [0x88, 0x08, 0, 1, 0xFF, 0xFF] ++ List.replicate 42 0#8), 7, by decide +kernel⟩
theorem test_w_Reception_rx8 : ∃ (s : State) (p : Fin 64) (data : Bytes), macOpen s p.val = true ∧ (s.portAt p.val).rx = none ∧ (s.portAt p.val).rxDiscard = false ∧ beAt data 12 2 = 0x8808 ∧ beAt data 14 2 ≠ 0x0001 ∧ beAt data 14 2 ≠ 0x0101 :=
  ⟨(portIn .up), 0, (List.replicate 12 0#8 ++ [0x88, 0x08, 0, 2, 0, 1] ++ List.replicate 42 0#8), by decide +kernel⟩
theorem test_w_SamplerAndGroup_sg1 : ∃ (s : State), barOpen s = true :=
  ⟨live, by decide +kernel⟩
theorem test_w_SamplerAndGroup_sg2 : ∃ (s : State) (p : Fin 64) (v : Word32), barOpen s = true ∧ v.getLsbD 31 = true ∧ flagOf s (Reg.SWC_SAMPLE_CFG p.val) 31 = false :=
  ⟨live, 63, (0x80000000#32), by decide +kernel⟩
theorem test_w_SamplerAndGroup_sg3 : ∃ (s : State) (p : Fin 64) (v : Word32), barOpen s = true ∧ (v.getLsbD 31 && !flagOf s (Reg.SWC_SAMPLE_CFG p.val) 31) = false :=
  ⟨live, 63, (0#32), by decide +kernel⟩
theorem test_w_SamplerAndGroup_sg4 : ∃ (s : State) (cmd : Word32), bits cmd.toNat 1 0 = 1 ∧ barOpen s = true ∧ popNat (pairOf s Reg.SWC_GRP_PORTS_LO) 64 + popNat (fieldOf s Reg.SWC_GRP_HOST 15 0) 16 ≤ 64 :=
  ⟨live, (0x1FF0001#32), by decide +kernel⟩
theorem test_w_SamplerAndGroup_sg5 : ∃ (s : State) (cmd : Word32), bits cmd.toNat 1 0 = 1 ∧ barOpen s = true ∧ 64 < popNat (pairOf s Reg.SWC_GRP_PORTS_LO) 64 + popNat (fieldOf s Reg.SWC_GRP_HOST 15 0) 16 :=
  ⟨({ live with regs := [(Reg.SWC_GRP_PORTS_LO, 0xFFFFFFFF#32), (Reg.SWC_GRP_PORTS_LO + 4, 0xFFFFFFFF#32), (Reg.SWC_GRP_HOST, 1#32)] }), (1#32), by decide +kernel⟩
theorem test_w_SamplerAndGroup_sg6 : ∃ (s : State) (cmd : Word32), bits cmd.toNat 1 0 = 2 ∧ barOpen s = true ∧ (Tbl.get s.swc.groups (bits cmd.toNat 24 16) {}).ports < 2 ^ 64 :=
  ⟨live, (0x1FF0002#32), by decide +kernel⟩
theorem test_w_SamplerAndGroup_sg7 : ∃ (s : State) (p : Fin 64), portExists s p.val = true :=
  ⟨live, 0, by decide +kernel⟩
theorem test_w_Scheduler_tq1 : ∃ (s : State) (k : Fin 66), k.val ≠ 65 ∧ ((s.schedAt k.val).sending.isSome || !outputOpen s k.val) = true :=
  ⟨live, 63, by decide +kernel⟩
theorem test_w_Scheduler_tq2 : ∃ (s : State) (k : Fin 66) (desc : SramRead) (buf : SramRead) (n : _) (u : _) (c : _) (rest : _) (x : _), k.val ≠ 65 ∧ (s.schedAt k.val).sending = none ∧ outputOpen s k.val = true ∧ pick k.val (preparePick k.val s) = (some n, u) ∧ queueAt u n = c :: rest ∧ frameAt u c.frame = some x ∧ desc.ecc = .clean ∧ buf.ecc = .clean :=
  ⟨({ live with ports := [(0, { st := .up })], swc := { frames := [(3, ⟨.port 0 0, 0, 0, List.replicate 64 0#8, 0, true, none, [.global], false, 0, [], [], [], false, false, false, false, false, {}⟩)], queues := [(0, [⟨3, .action, {}, none, [], 0, 0, 0⟩])] } }), 0, (⟨.clean, 0, 0⟩), (⟨.clean, 0, 0⟩), 0, ((pick 0 (preparePick 0 ({ live with ports := [(0, { st := .up })], swc := { frames := [(3, ⟨.port 0 0, 0, 0, List.replicate 64 0#8, 0, true, none, [.global], false, 0, [], [], [], false, false, false, false, false, {}⟩)], queues := [(0, [⟨3, .action, {}, none, [], 0, 0, 0⟩])] } }))).2), (⟨3, .action, {}, none, [], 0, 0, 0⟩), ([]), (⟨.port 0 0, 0, 0, List.replicate 64 0#8, 0, true, none, [.global], false, 0, [], [], [], false, false, false, false, false, {}⟩), by decide +kernel, by decide +kernel, by decide +kernel, pair_eta (by decide +kernel), by decide +kernel, by decide +kernel, rfl, rfl⟩
theorem test_w_Scheduler_tq3 : ∃ (s : State) (k : Fin 66) (buf : SramRead) (y : _) (x : _), k.val < 64 ∧ (s.schedAt k.val).sending = some y ∧ frameAt s y.copy.frame = some x ∧ x.tail = true ∧ sentBy s k.val y ((sentBytes y x).length + 4) = true ∧ (y.cutThrough && x.bad.isSome) = false ∧ buf.ecc = .clean :=
  ⟨({ live with ports := [(0, { st := .up })], tm := { live.tm with scheds := [(0, { sending := some ⟨⟨3, .action, {}, none, [], 0, 0, 0⟩, 0, [], 0, false, 0, 0, none⟩ })] }, swc := { frames := [(3, ⟨.port 0 0, 0, 0, List.replicate 64 0#8, 0, true, none, [.global], false, 0, [], [], [], false, false, false, false, false, {}⟩)] } }), 0, (⟨.clean, 0, 0⟩), (⟨⟨3, .action, {}, none, [], 0, 0, 0⟩, 0, [], 0, false, 0, 0, none⟩), (⟨.port 0 0, 0, 0, List.replicate 64 0#8, 0, true, none, [.global], false, 0, [], [], [], false, false, false, false, false, {}⟩), by decide +kernel⟩
theorem test_w_Scheduler_tq4 : ∃ (s : State) (k : Fin 66) (y : _) (x : _), k.val < 64 ∧ (s.schedAt k.val).sending = some y ∧ frameAt s y.copy.frame = some x ∧ y.cutThrough = true :=
  ⟨({ live with ports := [(0, { st := .up })], tm := { live.tm with scheds := [(0, { sending := some ⟨⟨3, .action, {}, none, [], 0, 0, 0⟩, 0, [], 0, true, 0, 0, none⟩ })] }, swc := { frames := [(3, ⟨.port 0 0, 0, 0, List.replicate 64 0#8, 0, true, none, [.global], false, 0, [], [], [], false, false, false, false, false, {}⟩)] } }), 0, (⟨⟨3, .action, {}, none, [], 0, 0, 0⟩, 0, [], 0, true, 0, 0, none⟩), (⟨.port 0 0, 0, 0, List.replicate 64 0#8, 0, true, none, [.global], false, 0, [], [], [], false, false, false, false, false, {}⟩), by decide +kernel⟩
theorem test_w_Scheduler_tq5 : ∃ (s : State) (n : Fin 536) (c : _), n.val < 520 ∧ queueAt s n.val = [c] ∧ holdOver s n.val = true :=
  ⟨({ live with tm := { live.tm with scheds := [(64, { frozenAt := some 0 })] }, swc := { queues := [(519, [⟨3, .action, {}, none, [], 0, 0, 0⟩])] } }), 519, (⟨3, .action, {}, none, [], 0, 0, 0⟩), by decide +kernel⟩
theorem test_w_Scheduler_tq6 : ∃ (s : State) (n : Fin 536), holdOver s n.val = false :=
  ⟨live, 535, by decide +kernel⟩
theorem test_w_Scheduler_tq7 : ∃ (s : State) (p : Fin 64) (g : _), (s.schedAt p.val).inForce = some g :=
  ⟨({ live with tm := { live.tm with scheds := [(63, { inForce := some ⟨0, 1000, [⟨1, 1000⟩]⟩ })] } }), 63, (⟨0, 1000, [⟨1, 1000⟩]⟩), by decide +kernel⟩
theorem test_w_ShaperAndPolicer_sp1 : ∃ (s : State) (k : Fin 66) (c : Fin 16), c.val < schedClasses s k.val ∧ 256 ≤ since s (s.classAt (firstQueue k.val + c.val)).updAt ∧ flagOf s (Reg.TM_CLASS_CTRL (firstQueue k.val + c.val)) 31 = true :=
  ⟨(regStore (Reg.TM_CLASS_CTRL 7) 0x80000000#32 (live)), 0, 7, by decide +kernel⟩
theorem test_w_ShaperAndPolicer_sp2 : ∃ (s : State) (n : Fin 536) (v : Word32), v.getLsbD 30 = true ∧ barOpen s = true ∧ classExists s n.val = true :=
  ⟨live, 7, (0x40000000#32), by decide +kernel⟩
theorem test_w_ShaperAndPolicer_sp5 : ∃ (s : State) (cmd : Word32), bits cmd.toNat 3 0 = 2 ∧ barOpen s = true :=
  ⟨live, (2#32), by decide +kernel⟩
theorem test_w_ShaperAndPolicer_sp6 : ∃ (s : State) (cmd : Word32), bits cmd.toNat 3 0 = 3 ∧ barOpen s = true :=
  ⟨live, (3#32), by decide +kernel⟩
theorem test_w_PolicerWritesKeepTheTokens_sp3 : ∃ (s : State) (cmd : Word32), bits cmd.toNat 3 0 = 1 ∧ barOpen s = true :=
  ⟨live, (1#32), by decide +kernel⟩
theorem test_w_PolicerWritesKeepTheTokens_sp4 : ∃ (s : State) (cmd : Word32), bits cmd.toNat 3 0 = 4 ∧ barOpen s = true :=
  ⟨live, (4#32), by decide +kernel⟩
theorem test_w_AssayerAndRewriteMap_as1 : ∃ (s : State) (b : Fin 4), (!flowing s || !domOn s (9 + b.val) || (s.assayAt b.val).held.isSome) = true :=
  ⟨(State.reset), 3, by decide +kernel⟩
theorem test_w_AssayerAndRewriteMap_as2 : ∃ (s : State) (b : Fin 4) (d : _) (rest : _), flowing s = true ∧ domOn s (9 + b.val) = true ∧ (s.assayAt b.val).held = none ∧ (s.assayAt b.val).stalled = none ∧ (s.assayAt b.val).recircQ = d :: rest ∧ (s.assayAt b.val).recircSlots < owedSlots s b.val :=
  ⟨({ live with assay := [(3, { recircQ := [({ frame := 3 } : Desc)] })] }), 3, (({ frame := 3 } : Desc)), ([]), by decide +kernel⟩
theorem test_w_AssayerAndRewriteMap_as3 : ∃ (s : State) (b : Fin 4) (d : _) (rest : _), flowing s = true ∧ domOn s (9 + b.val) = true ∧ (s.assayAt b.val).held = none ∧ (s.assayAt b.val).stalled = none ∧ (s.assayAt b.val).recircQ = [] ∧ nextSource s b.val = some 16 ∧ (s.assayAt b.val).injectQ = d :: rest :=
  ⟨({ live with assay := [(3, { injectQ := [({ frame := 3 } : Desc)] })] }), 3, (({ frame := 3 } : Desc)), ([]), by decide +kernel⟩
theorem test_w_AssayerAndRewriteMap_as4 : ∃ (s0 : State) (b : Fin 4) (f : _) (sieve : List SieveRead) (s : State) (d : _) (x : _), s = sieve.foldl (sieveRead b.val) s0 ∧ domOn s (9 + b.val) = true ∧ (s.assayAt b.val).held = none ∧ (s.assayAt b.val).stalled = none ∧ passInHand s b.val f = some d ∧ frameAt s f = some x ∧ windowDone x d.head = true ∧ (parse s d x).1.status = 0 ∧ (parse s d x).2.2 = false ∧ (parse s d x).2.1.declEnd = 0 ∧ xchFree s b.val (homeOf (parse s d x).1.hash) = true :=
  ⟨({ live with assay := [(3, { parsing := [({ frame := 3 } : Desc)] })], swc := { frames := [(3, ⟨.port 0 0, 0, 0, List.replicate 64 0#8, 0, true, none, [], false, 0, [], [], [], false, false, false, false, false, {}⟩)] }, templates := smallTree }), 3, 3, ([]), ({ live with assay := [(3, { parsing := [({ frame := 3 } : Desc)] })], swc := { frames := [(3, ⟨.port 0 0, 0, 0, List.replicate 64 0#8, 0, true, none, [], false, 0, [], [], [], false, false, false, false, false, {}⟩)] }, templates := smallTree }), (({ frame := 3 } : Desc)), (⟨.port 0 0, 0, 0, List.replicate 64 0#8, 0, true, none, [], false, 0, [], [], [], false, false, false, false, false, {}⟩), by decide +kernel⟩
theorem test_w_AssayerAndRewriteMap_as5 : ∃ (s0 : State) (b : Fin 4) (f : _) (sieve : List SieveRead) (s : State) (d : _) (x : _), s = sieve.foldl (sieveRead b.val) s0 ∧ domOn s (9 + b.val) = true ∧ (s.assayAt b.val).held = none ∧ (s.assayAt b.val).stalled = none ∧ passInHand s b.val f = some d ∧ frameAt s f = some x ∧ windowDone x d.head = false :=
  ⟨({ live with assay := [(3, { parsing := [({ frame := 3 } : Desc)] })], swc := { frames := [(3, ⟨.port 0 0, 0, 0, [], 0, false, none, [], false, 0, [], [], [], false, false, false, false, false, {}⟩)] } }), 3, 3, ([]), ({ live with assay := [(3, { parsing := [({ frame := 3 } : Desc)] })], swc := { frames := [(3, ⟨.port 0 0, 0, 0, [], 0, false, none, [], false, 0, [], [], [], false, false, false, false, false, {}⟩)] } }), (({ frame := 3 } : Desc)), (⟨.port 0 0, 0, 0, [], 0, false, none, [], false, 0, [], [], [], false, false, false, false, false, {}⟩), by decide +kernel⟩
theorem test_w_AssayerAndRewriteMap_as6 : ∃ (s : State) (b : Fin 4) (home : _) (d : _), (s.assayAt b.val).held = some (home, d) ∧ xchFree s b.val home = true :=
  ⟨({ live with assay := [(3, { held := some (2, ({ frame := 3 } : Desc)) })] }), 3, 2, (({ frame := 3 } : Desc)), by decide +kernel⟩
theorem test_w_AssayerAndRewriteMap_as7 : ∃ (s : State) (b : Fin 4), (s.assayAt b.val).held ≠ none ∧ us 1 ≤ since s (s.assayAt b.val).stallAt ∧ (s.assayAt b.val).heldTold = false ∧ us 100 ≤ since s (s.assayAt b.val).heldAt :=
  ⟨({ live with assay := [(3, { held := some (2, ({ frame := 3 } : Desc)) })] }), 3, by decide +kernel⟩
theorem test_w_AssayerAndRewriteMap_as8 : ∃ (s : State) (b : Fin 4), (s.assayAt b.val).held ≠ none ∧ us 1 ≤ since s (s.assayAt b.val).stallAt ∧ (((s.assayAt b.val).heldTold = true ∨ since s (s.assayAt b.val).heldAt < us 100)) :=
  ⟨({ live with assay := [(3, { held := some (2, ({ frame := 3 } : Desc)), heldTold := true })] }), 3, by decide +kernel⟩
theorem test_w_AssayerAndRewriteMap_as8b : ∃ (s : State) (b : Fin 4), (((s.assayAt b.val).held = none ∨ since s (s.assayAt b.val).stallAt < us 1)) :=
  ⟨live, 3, by decide +kernel⟩
theorem test_w_AssayerAndRewriteMap_as9 : ∃ (s : State) (b : Fin 4) (u : _) (d : _) (rest : _), (s.assayAt b.val).recircWait = (u, d) :: rest ∧ (s.assayAt b.val).recircQ.length < 1024 :=
  ⟨({ live with assay := [(3, { recircWait := [(5, ({ frame := 3 } : Desc))] })] }), 3, 5, (({ frame := 3 } : Desc)), ([]), by decide +kernel⟩
theorem test_w_AssayerAndRewriteMap_as10 : ∃ (s : State) (v : Word32), v.getLsbD 31 = true ∧ barOpen s = true :=
  ⟨live, (0x80000000#32), by decide +kernel⟩
theorem test_w_Exporter_ex1 : ∃ (s : State) (b : Fin 4), ((expAt s b.val).ring = [] ∨ domOn s 27 = false) :=
  ⟨live, 3, by decide +kernel⟩
theorem test_w_Exporter_ex2 : ∃ (s : State) (b : Fin 4) (n : _) (rest : _), (expAt s b.val).ring = n :: rest ∧ domOn s 27 = true ∧ (n.item = 0 ∨ n.item = 3) ∧ flagOf s (Reg.TILL_EXP_CFG 0) 1 = false ∧ fits s (expRing s) 4 128 = true :=
  ⟨({ live with ledger := [(3, { exp := { ring := [⟨0, 1, 3⟩] } })], rings := [(0, { open_ := some ⟨4096, 4096, 0, 0, false, false, 0, 0⟩ })] }), 3, (⟨0, 1, 3⟩), ([]), by decide +kernel⟩
theorem test_w_Exporter_ex3 : ∃ (s : State) (b : Fin 4) (n : _) (u : _), (expAt s b.val).ring = [n] ∧ n.item = 1 ∧ exportItem b.val n s = (2, u) :=
  ⟨({ live with ledger := [(3, { exp := { ring := [⟨0, 1, 1⟩] } })], regs := [(Reg.DISP_MAINT_ROUTINE 3, 0x10000#32)] }), 3, (⟨0, 1, 1⟩), ((exportItem 3 ⟨0, 1, 1⟩ ({ live with ledger := [(3, { exp := { ring := [⟨0, 1, 1⟩] } })], regs := [(Reg.DISP_MAINT_ROUTINE 3, 0x10000#32)] })).2), by decide +kernel, by decide +kernel, pair_eta (by decide +kernel)⟩
theorem test_w_Exporter_ex4 : ∃ (s : State) (b : Fin 4) (u : _), flushDue s b.val = true ∧ placeRec (expRing s) 5 (ipfixMessage b.val (expAt s b.val) s) (freshOut s) = (true, u) :=
  ⟨({ live with ledger := [(3, { exp := { recs := [(0, [1#8])] } })], rings := [(0, { open_ := some ⟨4096, 4096, 0, 0, false, false, 0, 0⟩ })] }), 3, ((placeRec (expRing ({ live with ledger := [(3, { exp := { recs := [(0, [1#8])] } })], rings := [(0, { open_ := some ⟨4096, 4096, 0, 0, false, false, 0, 0⟩ })] })) 5 (ipfixMessage 3 (expAt ({ live with ledger := [(3, { exp := { recs := [(0, [1#8])] } })], rings := [(0, { open_ := some ⟨4096, 4096, 0, 0, false, false, 0, 0⟩ })] }) 3) ({ live with ledger := [(3, { exp := { recs := [(0, [1#8])] } })], rings := [(0, { open_ := some ⟨4096, 4096, 0, 0, false, false, 0, 0⟩ })] })) (freshOut ({ live with ledger := [(3, { exp := { recs := [(0, [1#8])] } })], rings := [(0, { open_ := some ⟨4096, 4096, 0, 0, false, false, 0, 0⟩ })] }))).2), by decide +kernel, pair_eta (by decide +kernel)⟩
theorem test_w_Exporter_ex5 : ∃ (s : State) (b : Fin 4), flushDue s b.val = false :=
  ⟨live, 3, by decide +kernel⟩
theorem test_w_Exporter_ex6 : ∃ (s : State) (b : Fin 4), fieldOf s (Reg.TILL_EXP_TMPL 0) 15 0 ≠ 0 ∧ fieldOf s (Reg.TILL_EXP_TMPL 0) 15 0 * 1000000000 ≤ since s (expAt s b.val).tmplAt :=
  ⟨(regStore (Reg.TILL_EXP_TMPL 0) 1#32 (live)), 3, by decide +kernel⟩
theorem test_w_Auditor_au1 : ∃ (s : State) (m : Fin 6) (c : Fin 8), ((auditOn s m.val = false ∨ (m.val = 5 ∧ s.coffer.pending ≠ []) ∨ (m.val = 0 ∧ (lapNext s c.val = none ∨ auditTurn s c.val = false)))) :=
  ⟨(regStore Reg.AUDIT_CTRL 0#32 (live)), 5, 0, by decide +kernel⟩
theorem test_w_Auditor_au2 : ∃ (s : State) (m : Fin 6), m.val ≠ 0 ∧ auditOn s m.val = true ∧ ((m.val = 5 → s.coffer.pending = [])) ∧ Tbl.get s.audit.visited m.val 0 + 1 < auditPages m.val ∧ ((∀ i, i < 64 → (if m.val = 5 then cofferPage s (Tbl.get s.audit.visited 5 0) else tillPage s (m.val - 1) (Tbl.get s.audit.visited m.val 0)).held i ≠ none)) :=
  ⟨(regStore Reg.AUDIT_CTRL 4#32 (live)), 5, by decide +kernel⟩
theorem test_w_Auditor_au3 : ∃ (s : State) (m : Fin 6), fieldOf s Reg.AUDIT_LAP_LIMIT 31 0 ≠ 0 ∧ 1000 * fieldOf s Reg.AUDIT_LAP_LIMIT 31 0 < lapMs s m.val ∧ m.val ∉ s.audit.alarmed :=
  ⟨({ live with regs := [(Reg.AUDIT_LAP_LIMIT, 1#32)], audit := { lapAt := [(5, 0)] }, time := { tick := 1001000000 } }), 5, by decide +kernel⟩
theorem test_w_Auditor_au4 : ∃ (s : State) (c : Fin 8) (rank : _) (u : _), auditOn s 0 = true ∧ lapNext s c.val = some (rank, u) ∧ auditTurn s c.val = true ∧ u + 1 < rankRecords s.vault ∧ peekCell s rank u ≠ .poison ∧ ((∀ a, inService s.vault rank u = some a → (s.chanAt (chanOf s.vault a)).merge.find? (·.record = a) = none)) :=
  ⟨(regStore Reg.AUDIT_CTRL 1#32 ({ live with vault := { regions := [{ base := 0, size := 256 }, { base := 256, size := 256 }], chans := (List.range 8).map fun c => (c, { st := .service }) } })), 0, 0, 0, by decide +kernel⟩
theorem test_w_ScanEngine_no1 : ∃ (s : State) (b : Fin 4) (q : _) (rest : _), (s.noseAt b.val).run = none ∧ (s.noseAt b.val).queue = q :: rest ∧ (s.noseAt b.val).hold = false :=
  ⟨({ live with nose := [(3, { queue := [({ id := 1, teller := 0, item := 1, frame := 3, head := 0, startOff := 0, maxLen := 0, group := 0, isNew := true, monitor := false } : ScanReq)] })] }), 3, (({ id := 1, teller := 0, item := 1, frame := 3, head := 0, startOff := 0, maxLen := 0, group := 0, isNew := true, monitor := false } : ScanReq)), ([]), by decide +kernel⟩
theorem test_w_ScanEngine_no2 : ∃ (s : State) (b : Fin 4), ((s.noseAt b.val).run ≠ none ∨ (s.noseAt b.val).queue = [] ∨ (s.noseAt b.val).hold = true) :=
  ⟨live, 3, by decide +kernel⟩
theorem test_w_ScanEngine_no3 : ∃ (s : State) (b : Fin 4) (r : _), (s.noseAt b.val).run = some r ∧ (r.done || scanBad s r.req || (reqBytes s r.req).2) = true :=
  ⟨({ live with nose := [(3, { run := some ⟨({ id := 1, teller := 0, item := 1, frame := 3, head := 0, startOff := 0, maxLen := 0, group := 0, isNew := true, monitor := false } : ScanReq), 0, 0, 0, 0, false, true, 0⟩ })], swc := { frames := [(3, ⟨.port 0 0, 0, 0, [], 0, true, none, [], false, 0, [], [], [], false, false, false, false, false, {}⟩)] } }), 3, (⟨({ id := 1, teller := 0, item := 1, frame := 3, head := 0, startOff := 0, maxLen := 0, group := 0, isNew := true, monitor := false } : ScanReq), 0, 0, 0, 0, false, true, 0⟩), by decide +kernel⟩
theorem test_w_ScanEngine_no4 : ∃ (s : State) (b : Fin 4), (s.noseAt b.val).run = none :=
  ⟨live, 3, by decide +kernel⟩
theorem test_w_ScanEngine_no5 : ∃ (s : State) (b : Fin 4) (h : _) (p : _) (w : _), (s.noseAt b.val).reports = [(h, p, w)] ∧ fieldOf s (Reg.DISP_MAINT_ROUTINE b.val) 31 24 ≠ 0 ∧ placeFree s b.val 3 = true ∧ us 1 ≤ since s (s.noseAt b.val).reportAt :=
  ⟨(regStore (Reg.DISP_MAINT_ROUTINE 3) 0x1000000#32 ({ live with nose := [(3, { reports := [(5, 6, 7)] })] })), 3, 5, 6, 7, by decide +kernel⟩
theorem test_w_ScanEngine_no6 : ∃ (s : State) (b : Fin 4), (((s.noseAt b.val).reports = [] ∨ since s (s.noseAt b.val).reportAt < us 1)) :=
  ⟨live, 3, by decide +kernel⟩
theorem test_w_ScanEngine_no7 : ∃ (s : State) (b : Fin 4) (a : _), (s.noseAt b.val).zeroSince = some a ∧ backlog s b.val = 0 ∧ us 10 ≤ since s a ∧ (s.userAt b.val).st = .granted ∧ (s.userAt b.val).released = 0 :=
  ⟨({ live with nose := [(3, { zeroSince := some 0 })], treas := { live.treas with users := [(3, { st := .granted })] } }), 3, 0, by decide +kernel⟩
theorem test_w_ScanEngine_no8 : ∃ (s : State) (b : Fin 4), (s.noseAt b.val).zeroSince = none :=
  ⟨live, 3, by decide +kernel⟩
theorem test_w_ScanEngine_ng1 : ∃ (s : State) (v : Word32), barOpen s = true ∧ bits v.toNat 1 0 = 1 ∧ bits v.toNat 13 8 < s.automata.groupCount ∧ (groupAt s (bits v.toNat 13 8)).valid = true :=
  ⟨({ live with automata := { groupCount := 64, groups := [(63, { valid := true })] } }), (0x3F01#32), by decide +kernel⟩
theorem test_w_ScanEngine_ng2 : ∃ (s : State) (v : Word32), barOpen s = true ∧ bits v.toNat 1 0 = 1 ∧ (s.automata.groupCount ≤ bits v.toNat 13 8 ∨ (groupAt s (bits v.toNat 13 8)).valid = false) :=
  ⟨live, (1#32), by decide +kernel⟩
theorem test_w_ScanEngine_ng3 : ∃ (s : State) (g : Fin 64), g.val < s.automata.groupCount ∧ (groupAt s g.val).valid = false ∧ (groupAt s g.val).quiesced = false ∧ groupBusy s g.val = false :=
  ⟨({ live with automata := { groupCount := 64, groups := [(63, {  })] } }), 63, by decide +kernel⟩
theorem test_w_ScanEngine_ng4 : ∃ (s : State) (v : Word32), barOpen s = true ∧ bits v.toNat 1 0 = 2 ∧ bits v.toNat 13 8 < s.automata.groupCount ∧ (groupAt s (bits v.toNat 13 8)).valid = false ∧ (groupAt s (bits v.toNat 13 8)).quiesced = true ∧ inGroup (groupAt s (bits v.toNat 13 8)) (groupAt s (bits v.toNat 13 8)).start = true :=
  ⟨({ live with automata := { groupCount := 64, groups := [(63, { quiesced := true, limit := 1 })] } }), (0x3F02#32), by decide +kernel⟩
theorem test_w_ScanEngine_ng5 : ∃ (s : State) (v : Word32), barOpen s = true ∧ bits v.toNat 1 0 = 2 ∧ bits v.toNat 13 8 < s.automata.groupCount ∧ (groupAt s (bits v.toNat 13 8)).valid = false ∧ (groupAt s (bits v.toNat 13 8)).quiesced = false :=
  ⟨({ live with automata := { groupCount := 64, groups := [(63, {  })] } }), (0x3F02#32), by decide +kernel⟩
theorem test_w_ScanEngine_ng6 : ∃ (s : State), barOpen s = true ∧ memTaken s (4 * fieldOf s (Reg.NOSE_MEM_ADDR 0) 22 2) = false :=
  ⟨live, by decide +kernel⟩
theorem test_w_ScanEngine_ng7 : ∃ (s : State), barOpen s = true ∧ memTaken s (4 * fieldOf s (Reg.NOSE_MEM_ADDR 0) 22 2) = true ∧ 0x10000 ≤ 4 * fieldOf s (Reg.NOSE_MEM_ADDR 0) 22 2 :=
  ⟨(regStore (Reg.NOSE_MEM_ADDR 0) 0x10000#32 ({ live with automata := { groupCount := 64, groups := [(63, { quiesced := true, limit := 1 })] } })), by decide +kernel⟩
theorem test_w_Tether_te1 : ∃ (s : State) (v : Word32), v.getLsbD 31 = true ∧ domOn s 26 = true ∧ barOpen s = true :=
  ⟨live, (0x80000000#32), by decide +kernel⟩
theorem test_w_Tether_te2 : ∃ (s : State) (b : _), s.teth.trainingSince = some b ∧ s.teth.trainMs * 1000000 ≤ since s b :=
  ⟨({ live with teth := { trainingSince := some 0 } }), 0, by decide +kernel⟩
theorem test_w_Tether_te3 : ∃ (s : State), s.teth.framedIdle = true ∧ 1000000 ≤ since s s.teth.laneAt :=
  ⟨({ live with teth := { framedIdle := true } }), by decide +kernel⟩
theorem test_w_Tether_te4 : ∃ (s : State) (peer : BitVec 8) (set : BitVec 8), s.teth.framedIdle = true ∧ s.teth.up = false ∧ set ≠ 0 ∧ (if s.teth.side = 0 then laneSet (s.teth.good &&& peer.toNat &&& s.teth.lanesFitted &&& (255 - s.teth.failed % 256)) else set.toNat) = set.toNat ∧ s.teth.good &&& peer.toNat &&& s.teth.lanesFitted &&& (255 - s.teth.failed % 256) &&& set.toNat = set.toNat :=
  ⟨({ live with teth := { framedIdle := true, good := 0xFF, peerGood := 0xFF, lanesFitted := 0xFF } }), (0xFF#8), (0xFF#8), by decide +kernel⟩
theorem test_w_Tether_te4b : ∃ (s : State) (set : BitVec 8), ((s.teth.framedIdle = false ∨ s.teth.up = true ∨ set = 0)) :=
  ⟨live, (1#8), by decide +kernel⟩
theorem test_w_Tether_te5 : ∃ (s : State) (lane : Fin 8) (announced : BitVec 8) (set : Nat), s.teth.up = true ∧ s.teth.svc.testBit lane.val = true ∧ set = (if s.teth.side = 0 then laneSet (s.teth.good &&& s.teth.peerGood &&& s.teth.lanesFitted &&& (255 - (s.teth.failed ||| 2 ^ lane.val) % 256)) else announced.toNat) &&& (s.teth.good &&& s.teth.peerGood &&& s.teth.lanesFitted &&& (255 - (s.teth.failed ||| 2 ^ lane.val) % 256)) ∧ set ≠ 0 :=
  ⟨({ live with teth := { framedIdle := true, good := 0xFF, peerGood := 0xFF, lanesFitted := 0xFF, up := true, svc := 0xFF } }), 7, (0#8), 0x0F, by decide +kernel⟩
theorem test_w_Tether_te6 : ∃ (s : State) (lane : Fin 8) (announced : BitVec 8), s.teth.up = true ∧ s.teth.svc.testBit lane.val = true ∧ (if s.teth.side = 0 then laneSet (s.teth.good &&& s.teth.peerGood &&& s.teth.lanesFitted &&& (255 - (s.teth.failed ||| 2 ^ lane.val) % 256)) else announced.toNat) &&& (s.teth.good &&& s.teth.peerGood &&& s.teth.lanesFitted &&& (255 - (s.teth.failed ||| 2 ^ lane.val) % 256)) = 0 :=
  ⟨({ live with teth := { framedIdle := true, good := 0x80, peerGood := 0xFF, lanesFitted := 0xFF, up := true, svc := 0x80 } }), 7, (0#8), by decide +kernel⟩
theorem test_w_Tether_te7 : ∃ (s : State), s.teth.framedIdle = true ∧ s.teth.good &&& s.teth.peerGood &&& s.teth.lanesFitted &&& (255 - s.teth.failed % 256) = 0 :=
  ⟨({ live with teth := { framedIdle := true } }), by decide +kernel⟩
theorem test_w_Tether_te8 : ∃ (s : State) (kind : Nat) (seq : BitVec 16) (buf : SramRead), buf.ecc = .clean ∧ s.teth.up = true ∧ kind ≠ 1 ∧ seq.toNat = s.teth.rxSeq ∧ s.teth.rxSeq ∉ s.teth.rxRetry :=
  ⟨({ live with teth := { up := true, rxSeq := 65535 } }), 2, (65535#16), (⟨.clean, 0, 0⟩), by decide +kernel⟩
theorem test_w_Tether_te9 : ∃ (s : State) (buf : SramRead), buf.ecc = .clean ∧ s.teth.up = true :=
  ⟨({ live with teth := { up := true } }), (⟨.clean, 0, 0⟩), by decide +kernel⟩
theorem test_w_Tether_te10 : ∃ (s : State) (a : BitVec 16) (buf : SramRead) (e : _), buf.ecc = .clean ∧ s.teth.up = true ∧ s.teth.retry.find? (·.seq = a.toNat) = some e ∧ e.resent = false :=
  ⟨({ live with teth := { up := true, retry := [⟨5, 2, [], false⟩] } }), (5#16), (⟨.clean, 0, 0⟩), (⟨5, 2, [], false⟩), by decide +kernel⟩
theorem test_w_Tether_te11 : ∃ (s : State), s.teth.up = true ∧ 10000 ≤ since s s.teth.hbSentAt :=
  ⟨({ live with teth := { up := true } }), by decide +kernel⟩
theorem test_w_Tether_te12 : ∃ (s : State), (s.teth.up = false ∨ since s s.teth.hbSentAt < 10000) :=
  ⟨live, by decide +kernel⟩
theorem test_w_Tether_tp1 : ∃ (s : State) (msg : Bytes), s.teth.up = true ∧ ((bits (byteAt msg 0) 0 0 = s.teth.side ∨ leAt msg 1 4 ≠ pairCheck s)) :=
  ⟨({ live with teth := { up := true } }), (0#8 :: List.replicate 20 0#8), by decide +kernel⟩
theorem test_w_Tether_tp2 : ∃ (s : State) (msg : Bytes), s.teth.up = true ∧ bits (byteAt msg 0) 0 0 ≠ s.teth.side ∧ leAt msg 1 4 = pairCheck s ∧ bit (byteAt msg 0) 1 = false ∧ s.teth.recoveries = [] :=
  ⟨({ live with teth := { up := true } }), (1#8 :: List.replicate 20 0#8), by decide +kernel⟩
theorem test_w_Tether_tp3 : ∃ (s : State) (msg : Bytes), s.teth.up = true ∧ bits (byteAt msg 0) 0 0 ≠ s.teth.side ∧ leAt msg 1 4 = pairCheck s ∧ bit (byteAt msg 0) 1 = true ∧ running s = true :=
  ⟨({ live with teth := { up := true } }), (3#8 :: List.replicate 20 0#8), by decide +kernel⟩
theorem test_w_Tether_tp4 : ∃ (s : State), (s.teth.pair = .paired ∨ s.teth.pair = .peerDrain) ∧ 30000 ≤ since s s.teth.hbRxAt :=
  ⟨({ live with teth := { up := true, pair := .paired } }), by decide +kernel⟩
theorem test_w_Tether_tp5 : ∃ (s : State), ((s.teth.pair ≠ .paired ∧ s.teth.pair ≠ .peerDrain) ∨ since s s.teth.hbRxAt < 30000) :=
  ⟨live, by decide +kernel⟩
theorem test_w_Tether_tp6 : ∃ (s : State), s.teth.up = true ∧ running s = true :=
  ⟨({ live with teth := { up := true } }), by decide +kernel⟩
theorem test_w_Tether_tp7 : ∃ (s : State), (s.teth.up = false ∨ running s = false) :=
  ⟨live, by decide +kernel⟩
theorem test_w_Tether_tp8 : ∃ (s : State) (msg : Bytes) (k : _) (w : Way), s.teth.pair = .paired ∧ running s = true ∧ 1 ≤ byteAt msg 0 ∧ byteAt msg 0 ≤ 4 ∧ msg.length = 144 ∧ probe s (homeOf (BitVec.ofNat 64 (leAt msg 8 8))) (BitVec.ofNat 64 (leAt msg 8 8)) (recKey (bytesRec (msg.drop 16))) = some k ∧ wayAt s (homeOf (BitVec.ofNat 64 (leAt msg 8 8))) k = some w ∧ rcLock w.rc = true ∧ rcState w.rc < 5 :=
  ⟨({ live with teth := { up := true, pair := .paired }, ledger := [(0, { ways := [(0, { rc := setW0 (setW0 Rec.empty 35 32 2) 25 25 1, slot := 2 })] })] }), ([2#8] ++ List.replicate 143 0#8), 0, ({ rc := setW0 (setW0 Rec.empty 35 32 2) 25 25 1, slot := 2 }), by decide +kernel⟩
theorem test_w_Tether_tp9 : ∃ (s : State) (msg : Bytes) (k : _) (w : Way), s.teth.pair = .paired ∧ running s = true ∧ byteAt msg 0 = 2 ∧ msg.length = 144 ∧ probe s (homeOf (BitVec.ofNat 64 (leAt msg 8 8))) (BitVec.ofNat 64 (leAt msg 8 8)) (recKey (bytesRec (msg.drop 16))) = some k ∧ wayAt s (homeOf (BitVec.ofNat 64 (leAt msg 8 8))) k = some w ∧ rcLock w.rc = false ∧ rcDead w.rc = false ∧ rcExpired s w.rc (ledgerNow s) = false :=
  ⟨({ live with teth := { up := true, pair := .paired }, ledger := [(0, { ways := [(0, { rc := setW0 Rec.empty 35 32 2, slot := 2 })] })] }), ([2#8] ++ List.replicate 143 0#8), 0, ({ rc := setW0 Rec.empty 35 32 2, slot := 2 }), by decide +kernel⟩
theorem test_w_Tether_tp10 : ∃ (s : State), s.teth.pair = .paired ∧ s.teth.up = true ∧ running s = false :=
  ⟨({ at_ .load with teth := { up := true, pair := .paired } }), by decide +kernel⟩
theorem test_w_Tether_tp11 : ∃ (s : State) (msg : Bytes) (k : _) (w : Way), s.teth.pair = .paired ∧ s.teth.up = true ∧ running s = true ∧ byteAt msg 0 = 0 ∧ probe s (homeOf (hashOf s (BitVec.ofNat 320 (leAt msg 5 40)))) (hashOf s (BitVec.ofNat 320 (leAt msg 5 40))) (BitVec.ofNat 320 (leAt msg 5 40)) = some k ∧ wayAt s (homeOf (hashOf s (BitVec.ofNat 320 (leAt msg 5 40)))) k = some w ∧ rcDead w.rc = false ∧ rcExpired s w.rc (ledgerNow s) = false :=
  ⟨({ live with teth := { up := true, pair := .paired }, ledger := [(1, { ways := [(331536, { rc := setW0 Rec.empty 35 32 2, slot := 2 })] })] }), (List.replicate 45 0#8), 331536, ({ rc := setW0 Rec.empty 35 32 2, slot := 2 }), by decide +kernel⟩
theorem test_w_Tether_tp12 : ∃ (s : State) (msg : Bytes), s.teth.recoveries.find? (fun r => r.id == leAt msg 1 4) = none :=
  ⟨live, ([]), by decide +kernel⟩
theorem test_w_Tether_tp13 : ∃ (s : State) (msg : Bytes) (r : _) (slot : _), s.teth.recoveries.find? (fun r => r.id == leAt msg 1 4) = some r ∧ r.who = .audit slot :=
  ⟨({ live with teth := { recoveries := [⟨0, .audit 7, 0⟩] } }), (List.replicate 5 0#8), (⟨0, .audit 7, 0⟩), 7, by decide +kernel⟩
theorem test_w_Tether_tp14 : ∃ (s : State), ((∀ r ∈ s.teth.recoveries, since s r.at_ ≤ 1000 * max 1 (fieldOf s Reg.TETH_RECOVER_TMO 15 0))) :=
  ⟨({ live with teth := { recoveries := [⟨0, .audit 7, 999999999⟩] } }), by decide +kernel⟩
theorem test_w_Tether_tp15 : ∃ (s : State) (r : _) (slot : _), s.teth.recoveries = [r] ∧ r.who = .audit slot ∧ 1000 * max 1 (fieldOf s Reg.TETH_RECOVER_TMO 15 0) < since s r.at_ :=
  ⟨({ live with teth := { recoveries := [⟨0, .audit 7, 0⟩] } }), (⟨0, .audit 7, 0⟩), 7, by decide +kernel⟩
theorem test_w_Tether_tp16 : ∃ (s : State) (msg : Bytes), s.teth.pair = .paired ∧ running s = true ∧ 1 ≤ byteAt msg 0 ∧ byteAt msg 0 ≤ 4 ∧ msg.length = 144 ∧ probe s (homeOf (BitVec.ofNat 64 (leAt msg 8 8))) (BitVec.ofNat 64 (leAt msg 8 8)) (recKey (bytesRec (msg.drop 16))) = none ∧ 65536 ≤ descsHeld (s.ledgerAt (homeOf (BitVec.ofNat 64 (leAt msg 8 8)))) :=
  ⟨({ live with teth := { up := true, pair := .paired }, ledger := [(0, { ways := [], miss := [{ id := 0, key := 1, hash := 0, waiters := List.replicate 65536 .hostOp }] })] }), ([2#8] ++ List.replicate 143 0#8), by decide +kernel⟩
theorem test_w_AluAOperationsCompute_ao1 : ∃ (s : State) (t : Fin 128), wordGoes s t.val = true ∧ plainUnits (theWord s t.val) = true ∧ mwAop (theWord s t.val) = 0x1 :=
  ⟨(atWord 0x1ffbe0000000000000000000000000000), 127, by decide +kernel⟩
theorem test_w_AluAOperationsCompute_ao2 : ∃ (s : State) (t : Fin 128), wordGoes s t.val = true ∧ plainUnits (theWord s t.val) = true ∧ mwAop (theWord s t.val) = 0x2 :=
  ⟨(atWord 0x2ffbe0000000000000000000000000000), 127, by decide +kernel⟩
theorem test_w_AluAOperationsCompute_ao3 : ∃ (s : State) (t : Fin 128), wordGoes s t.val = true ∧ plainUnits (theWord s t.val) = true ∧ mwAop (theWord s t.val) = 0x3 :=
  ⟨(atWord 0x3ffbe0000000000000000000000000000), 127, by decide +kernel⟩
theorem test_w_AluAOperationsCompute_ao4 : ∃ (s : State) (t : Fin 128), wordGoes s t.val = true ∧ plainUnits (theWord s t.val) = true ∧ mwAop (theWord s t.val) = 0x4 :=
  ⟨(atWord 0x4ffbe0000000000000000000000000000), 127, by decide +kernel⟩
theorem test_w_AluAOperationsCompute_ao5 : ∃ (s : State) (t : Fin 128), wordGoes s t.val = true ∧ plainUnits (theWord s t.val) = true ∧ mwAop (theWord s t.val) = 0x5 :=
  ⟨(atWord 0x5ffbe0000000000000000000000000000), 127, by decide +kernel⟩
theorem test_w_AluAOperationsCompute_ao6 : ∃ (s : State) (t : Fin 128), wordGoes s t.val = true ∧ plainUnits (theWord s t.val) = true ∧ mwAop (theWord s t.val) = 0x6 :=
  ⟨(atWord 0x6ffbe0000000000000000000000000000), 127, by decide +kernel⟩
theorem test_w_AluAOperationsCompute_ao7 : ∃ (s : State) (t : Fin 128), wordGoes s t.val = true ∧ plainUnits (theWord s t.val) = true ∧ mwAop (theWord s t.val) = 0x7 :=
  ⟨(atWord 0x7ffbe0000000000000000000000000000), 127, by decide +kernel⟩
theorem test_w_AluAOperationsCompute_ao8 : ∃ (s : State) (t : Fin 128), wordGoes s t.val = true ∧ plainUnits (theWord s t.val) = true ∧ mwAop (theWord s t.val) = 0x8 :=
  ⟨(atWord 0x8ffbe0000000000000000000000000000), 127, by decide +kernel⟩
theorem test_w_AluAOperationsCompute_ao9 : ∃ (s : State) (t : Fin 128), wordGoes s t.val = true ∧ plainUnits (theWord s t.val) = true ∧ mwAop (theWord s t.val) = 0x9 :=
  ⟨(atWord 0x9ffbe0000000000000000000000000000), 127, by decide +kernel⟩
theorem test_w_AluAOperationsCompute_ao10 : ∃ (s : State) (t : Fin 128), wordGoes s t.val = true ∧ plainUnits (theWord s t.val) = true ∧ mwAop (theWord s t.val) = 0xa :=
  ⟨(atWord 0xaffbe0000000000000000000000000000), 127, by decide +kernel⟩
theorem test_w_AluAOperationsCompute_ao11 : ∃ (s : State) (t : Fin 128), wordGoes s t.val = true ∧ plainUnits (theWord s t.val) = true ∧ mwAop (theWord s t.val) = 0xb :=
  ⟨(atWord 0xbffbe0000000000000000000000000000), 127, by decide +kernel⟩
theorem test_w_AluAOperationsCompute_ao12 : ∃ (s : State) (t : Fin 128), wordGoes s t.val = true ∧ plainUnits (theWord s t.val) = true ∧ mwAop (theWord s t.val) = 0xc :=
  ⟨(atWord 0xcffbe0000000000000000000000000000), 127, by decide +kernel⟩
theorem test_w_AluAOperationsCompute_ao13 : ∃ (s : State) (t : Fin 128), wordGoes s t.val = true ∧ plainUnits (theWord s t.val) = true ∧ mwAop (theWord s t.val) = 0xd :=
  ⟨(atWord 0xdffbe0000000000000000000000000000), 127, by decide +kernel⟩
theorem test_w_AluAOperationsCompute_ao14 : ∃ (s : State) (t : Fin 128), wordGoes s t.val = true ∧ plainUnits (theWord s t.val) = true ∧ mwAop (theWord s t.val) = 0xe :=
  ⟨(atWord 0xeffbe0000000000000000000000000000), 127, by decide +kernel⟩
theorem test_w_AluAOperationsCompute_ao15 : ∃ (s : State) (t : Fin 128), wordGoes s t.val = true ∧ plainUnits (theWord s t.val) = true ∧ mwAop (theWord s t.val) = 0xf :=
  ⟨(atWord 0xfffbe0000000000000000000000000000), 127, by decide +kernel⟩
theorem test_w_AluAOperationsCompute_ao16 : ∃ (s : State) (t : Fin 128), wordGoes s t.val = true ∧ plainUnits (theWord s t.val) = true ∧ mwAop (theWord s t.val) = 0x10 :=
  ⟨(atWord 0x10ffbe0000000000000000000000000000), 127, by decide +kernel⟩
theorem test_w_AluAOperationsCompute_ao17 : ∃ (s : State) (t : Fin 128), wordGoes s t.val = true ∧ plainUnits (theWord s t.val) = true ∧ mwAop (theWord s t.val) = 0x11 :=
  ⟨(atWord 0x11ffbe0000000000000000000000000000), 127, by decide +kernel⟩
theorem test_w_AluAOperationsCompute_ao18 : ∃ (s : State) (t : Fin 128), wordGoes s t.val = true ∧ plainUnits (theWord s t.val) = true ∧ mwAop (theWord s t.val) = 0x12 :=
  ⟨(atWord 0x12ffbe0000000000000000000000000000), 127, by decide +kernel⟩
theorem test_w_AluAOperationsCompute_ao19 : ∃ (s : State) (t : Fin 128), wordGoes s t.val = true ∧ plainUnits (theWord s t.val) = true ∧ mwAop (theWord s t.val) = 0x13 :=
  ⟨(atWord 0x13ffbe0000000000000000000000000000), 127, by decide +kernel⟩
theorem test_w_AluAOperationsCompute_ao20 : ∃ (s : State) (t : Fin 128), wordGoes s t.val = true ∧ plainUnits (theWord s t.val) = true ∧ mwAop (theWord s t.val) = 0x14 :=
  ⟨(atWord 0x14ffbe0000000000000000000000000000), 127, by decide +kernel⟩
theorem test_w_AluAOperationsCompute_ao21 : ∃ (s : State) (t : Fin 128), wordGoes s t.val = true ∧ plainUnits (theWord s t.val) = true ∧ mwAop (theWord s t.val) = 0x15 :=
  ⟨(atWord 0x15ffbe0000000000000000000000000000), 127, by decide +kernel⟩
theorem test_w_AluAOperationsCompute_ao22 : ∃ (s : State) (t : Fin 128), wordGoes s t.val = true ∧ plainUnits (theWord s t.val) = true ∧ mwAop (theWord s t.val) = 0x16 :=
  ⟨(atWord 0x16ffbe0000000000000000000000000000), 127, by decide +kernel⟩
theorem test_w_AluAOperationsCompute_ao23 : ∃ (s : State) (t : Fin 128), wordGoes s t.val = true ∧ plainUnits (theWord s t.val) = true ∧ mwAop (theWord s t.val) = 0x17 :=
  ⟨(atWord 0x17ffbe0000000000000000000000000000), 127, by decide +kernel⟩
theorem test_w_AluAOperationsCompute_ao24 : ∃ (s : State) (t : Fin 128), wordGoes s t.val = true ∧ plainUnits (theWord s t.val) = true ∧ mwAop (theWord s t.val) = 0x18 :=
  ⟨(atWord 0x18ffbe0000000000000000000000000000), 127, by decide +kernel⟩
theorem test_w_AluAOperationsCompute_ao25 : ∃ (s : State) (t : Fin 128), wordGoes s t.val = true ∧ plainUnits (theWord s t.val) = true ∧ mwAop (theWord s t.val) = 0x19 :=
  ⟨(atWord 0x19ffbe0000000000000000000000000000), 127, by decide +kernel⟩
theorem test_w_AluAOperationsCompute_ao26 : ∃ (s : State) (t : Fin 128), wordGoes s t.val = true ∧ plainUnits (theWord s t.val) = true ∧ mwAop (theWord s t.val) = 0x1a :=
  ⟨(atWord 0x1affbe0000000000000000000000000000), 127, by decide +kernel⟩
theorem test_w_AluAOperationsCompute_ao27 : ∃ (s : State) (t : Fin 128), wordGoes s t.val = true ∧ plainUnits (theWord s t.val) = true ∧ mwAop (theWord s t.val) = 0x1b :=
  ⟨(atWord 0x1bffbe0000000000000000000000000000), 127, by decide +kernel⟩
theorem test_w_AluAOperationsCompute_ao28 : ∃ (s : State) (t : Fin 128), wordGoes s t.val = true ∧ plainUnits (theWord s t.val) = true ∧ mwAop (theWord s t.val) = 0x1c :=
  ⟨(atWord 0x1cffbe0000000000000000000000000000), 127, by decide +kernel⟩
theorem test_w_AluAOperationsCompute_ao29 : ∃ (s : State) (t : Fin 128), wordGoes s t.val = true ∧ plainUnits (theWord s t.val) = true ∧ mwAop (theWord s t.val) = 0x1d :=
  ⟨(atWord 0x1dffbe0000000000000000000000000000), 127, by decide +kernel⟩
theorem test_w_AluAOperationsCompute_ao30 : ∃ (s : State) (t : Fin 128), wordGoes s t.val = true ∧ plainUnits (theWord s t.val) = true ∧ mwAop (theWord s t.val) = 0x1e :=
  ⟨(atWord 0x1effbe0000000000000000000000000000), 127, by decide +kernel⟩
theorem test_w_AluAOperationsCompute_ao31 : ∃ (s : State) (t : Fin 128), wordGoes s t.val = true ∧ plainUnits (theWord s t.val) = true ∧ mwAop (theWord s t.val) = 0x1f :=
  ⟨(atWord 0x1fffbe0000000000000000000000000000), 127, by decide +kernel⟩
theorem test_w_AluBOperationsCompute_bo1 : ∃ (s : State) (t : Fin 128), wordGoes s t.val = true ∧ plainUnits (theWord s t.val) = true ∧ mwBop (theWord s t.val) = 0x1 :=
  ⟨(atWord 0x1ffc000000000000000000000000), 127, by decide +kernel⟩
theorem test_w_AluBOperationsCompute_bo2 : ∃ (s : State) (t : Fin 128), wordGoes s t.val = true ∧ plainUnits (theWord s t.val) = true ∧ mwBop (theWord s t.val) = 0x2 :=
  ⟨(atWord 0x2ffc000000000000000000000000), 127, by decide +kernel⟩
theorem test_w_AluBOperationsCompute_bo3 : ∃ (s : State) (t : Fin 128), wordGoes s t.val = true ∧ plainUnits (theWord s t.val) = true ∧ mwBop (theWord s t.val) = 0x3 :=
  ⟨(atWord 0x3ffc000000000000000000000000), 127, by decide +kernel⟩
theorem test_w_AluBOperationsCompute_bo4 : ∃ (s : State) (t : Fin 128), wordGoes s t.val = true ∧ plainUnits (theWord s t.val) = true ∧ mwBop (theWord s t.val) = 0x4 :=
  ⟨(atWord 0x4ffc000000000000000000000000), 127, by decide +kernel⟩
theorem test_w_AluBOperationsCompute_bo5 : ∃ (s : State) (t : Fin 128), wordGoes s t.val = true ∧ plainUnits (theWord s t.val) = true ∧ mwBop (theWord s t.val) = 0x5 :=
  ⟨(atWord 0x5ffc000000000000000000000000), 127, by decide +kernel⟩
theorem test_w_AluBOperationsCompute_bo6 : ∃ (s : State) (t : Fin 128), wordGoes s t.val = true ∧ plainUnits (theWord s t.val) = true ∧ mwBop (theWord s t.val) = 0x6 :=
  ⟨(atWord 0x6ffc000000000000000000000000), 127, by decide +kernel⟩
theorem test_w_AluBOperationsCompute_bo7 : ∃ (s : State) (t : Fin 128), wordGoes s t.val = true ∧ plainUnits (theWord s t.val) = true ∧ mwBop (theWord s t.val) = 0x7 :=
  ⟨(atWord 0x7ffc000000000000000000000000), 127, by decide +kernel⟩
theorem test_w_AluBOperationsCompute_bo8 : ∃ (s : State) (t : Fin 128), wordGoes s t.val = true ∧ plainUnits (theWord s t.val) = true ∧ mwBop (theWord s t.val) = 0x8 :=
  ⟨(atWord 0x8ffc000000000000000000000000), 127, by decide +kernel⟩
theorem test_w_AluBOperationsCompute_bo9 : ∃ (s : State) (t : Fin 128), wordGoes s t.val = true ∧ plainUnits (theWord s t.val) = true ∧ mwBop (theWord s t.val) = 0x9 :=
  ⟨(atWord 0x9ffc000000000000000000000000), 127, by decide +kernel⟩
theorem test_w_AluBOperationsCompute_bo10 : ∃ (s : State) (t : Fin 128), wordGoes s t.val = true ∧ plainUnits (theWord s t.val) = true ∧ mwBop (theWord s t.val) = 0xa :=
  ⟨(atWord 0xaffc000000000000000000000000), 127, by decide +kernel⟩
theorem test_w_AluBOperationsCompute_bo11 : ∃ (s : State) (t : Fin 128), wordGoes s t.val = true ∧ plainUnits (theWord s t.val) = true ∧ mwBop (theWord s t.val) = 0xb :=
  ⟨(atWord 0xbffc000000000000000000000000), 127, by decide +kernel⟩
theorem test_w_AluBOperationsCompute_bo12 : ∃ (s : State) (t : Fin 128), wordGoes s t.val = true ∧ plainUnits (theWord s t.val) = true ∧ mwBop (theWord s t.val) = 0xc :=
  ⟨(atWord 0xcffc000000000000000000000000), 127, by decide +kernel⟩
theorem test_w_AluBOperationsCompute_bo13 : ∃ (s : State) (t : Fin 128), wordGoes s t.val = true ∧ plainUnits (theWord s t.val) = true ∧ mwBop (theWord s t.val) = 0xd :=
  ⟨(atWord 0xdffc000000000000000000000000), 127, by decide +kernel⟩
theorem test_w_AluBOperationsCompute_bo14 : ∃ (s : State) (t : Fin 128), wordGoes s t.val = true ∧ plainUnits (theWord s t.val) = true ∧ mwBop (theWord s t.val) = 0xe :=
  ⟨(atWord 0xeffc000000000000000000000000), 127, by decide +kernel⟩
theorem test_w_AluBOperationsCompute_bo15 : ∃ (s : State) (t : Fin 128), wordGoes s t.val = true ∧ plainUnits (theWord s t.val) = true ∧ mwBop (theWord s t.val) = 0xf :=
  ⟨(atWord 0xfffc000000000000000000000000), 127, by decide +kernel⟩
theorem test_w_AluBOperationsCompute_bo16 : ∃ (s : State) (t : Fin 128), wordGoes s t.val = true ∧ plainUnits (theWord s t.val) = true ∧ mwBop (theWord s t.val) = 0x10 :=
  ⟨(atWord 0x10ffc000000000000000000000000), 127, by decide +kernel⟩
theorem test_w_AluBOperationsCompute_bo17 : ∃ (s : State) (t : Fin 128), wordGoes s t.val = true ∧ plainUnits (theWord s t.val) = true ∧ mwBop (theWord s t.val) = 0x11 :=
  ⟨(atWord 0x11ffc000000000000000000000000), 127, by decide +kernel⟩
theorem test_w_AluBOperationsCompute_bo18 : ∃ (w : MicroWord), 0x12 ≤ mwBop w :=
  ⟨(BitVec.ofNat 160 0x12000000000000000000000000000), by decide +kernel⟩
theorem test_w_HashCounterAndTimeOperationsCompute_ho1 : ∃ (s : State) (t : Fin 128), wordGoes s t.val = true ∧ plainUnits (theWord s t.val) = true ∧ mwHop (theWord s t.val) = 0x1 :=
  ⟨(atWord 0xdfc000040000000000000000000), 127, by decide +kernel⟩
theorem test_w_HashCounterAndTimeOperationsCompute_ho2 : ∃ (s : State) (t : Fin 128), wordGoes s t.val = true ∧ plainUnits (theWord s t.val) = true ∧ mwHop (theWord s t.val) = 0x2 :=
  ⟨(atWord 0xdfc000080000000000000000000), 127, by decide +kernel⟩
theorem test_w_HashCounterAndTimeOperationsCompute_ho3 : ∃ (s : State) (t : Fin 128), wordGoes s t.val = true ∧ plainUnits (theWord s t.val) = true ∧ mwHop (theWord s t.val) = 0x3 :=
  ⟨(atWord 0xdfc0000c0000000000000000000), 127, by decide +kernel⟩
theorem test_w_HashCounterAndTimeOperationsCompute_ho4 : ∃ (s : State) (t : Fin 128), wordGoes s t.val = true ∧ plainUnits (theWord s t.val) = true ∧ mwHop (theWord s t.val) = 0x4 :=
  ⟨(atWord 0xdfc000100000000000000000000), 127, by decide +kernel⟩
theorem test_w_HashCounterAndTimeOperationsCompute_ho5 : ∃ (s : State) (t : Fin 128), wordGoes s t.val = true ∧ plainUnits (theWord s t.val) = true ∧ mwHop (theWord s t.val) = 0x5 :=
  ⟨(atWord 0xdfc000140000000000000000000), 127, by decide +kernel⟩
theorem test_w_HashCounterAndTimeOperationsCompute_ho6 : ∃ (s : State) (t : Fin 128), wordGoes s t.val = true ∧ plainUnits (theWord s t.val) = true ∧ mwHop (theWord s t.val) = 0x6 :=
  ⟨(atWord 0xdfc000180000000000000000000), 127, by decide +kernel⟩
theorem test_w_HashCounterAndTimeOperationsCompute_co3 : ∃ (s : State) (t : Fin 128), wordGoes s t.val = true ∧ plainUnits (theWord s t.val) = true ∧ mwCop (theWord s t.val) = 0x3 :=
  ⟨(atWord 0x7c000000c00000000000000000), 127, by decide +kernel⟩
theorem test_w_HashCounterAndTimeOperationsCompute_co4 : ∃ (s : State) (t : Fin 128), wordGoes s t.val = true ∧ plainUnits (theWord s t.val) = true ∧ mwCop (theWord s t.val) = 0x4 :=
  ⟨(atWord 0x7c000001000000000000000000), 127, by decide +kernel⟩
theorem test_w_HashCounterAndTimeOperationsCompute_co5 : ∃ (s : State) (t : Fin 128), wordGoes s t.val = true ∧ plainUnits (theWord s t.val) = true ∧ mwCop (theWord s t.val) = 0x5 :=
  ⟨(regStore (Reg.TELL_PERM 15) 1#32 (atWord 0x7c000001400000000000000000)), 127, by decide +kernel⟩
theorem test_w_HashCounterAndTimeOperationsCompute_co6 : ∃ (s : State) (t : Fin 128), wordGoes s t.val = true ∧ plainUnits (theWord s t.val) = true ∧ mwCop (theWord s t.val) = 0x6 :=
  ⟨(atWord 0x7c000001800000000000000000), 127, by decide +kernel⟩
theorem test_w_HashCounterAndTimeOperationsCompute_to1 : ∃ (s : State) (t : Fin 128), wordGoes s t.val = true ∧ plainUnits (theWord s t.val) = true ∧ mwTop (theWord s t.val) = 0x1 :=
  ⟨(atWord 0x7c000000040000000000000000), 127, by decide +kernel⟩
theorem test_w_HashCounterAndTimeOperationsCompute_to2 : ∃ (s : State) (t : Fin 128), wordGoes s t.val = true ∧ plainUnits (theWord s t.val) = true ∧ mwTop (theWord s t.val) = 0x2 :=
  ⟨(atWord 0x7c000000080000000000000000), 127, by decide +kernel⟩
theorem test_w_HashCounterAndTimeOperationsCompute_to3 : ∃ (s : State) (t : Fin 128), wordGoes s t.val = true ∧ plainUnits (theWord s t.val) = true ∧ mwTop (theWord s t.val) = 0x3 :=
  ⟨(atWord 0x7c0000000c0000000000000000), 127, by decide +kernel⟩
theorem test_w_HashCounterAndTimeOperationsCompute_to4 : ∃ (s : State) (t : Fin 128), wordGoes s t.val = true ∧ plainUnits (theWord s t.val) = true ∧ mwTop (theWord s t.val) = 0x4 :=
  ⟨(atWord 0x7c000000100000000000000000), 127, by decide +kernel⟩
theorem test_w_HashCounterAndTimeOperationsCompute_to5 : ∃ (s : State) (t : Fin 128), wordGoes s t.val = true ∧ plainUnits (theWord s t.val) = true ∧ mwTop (theWord s t.val) = 0x5 :=
  ⟨(atWord 0x7c000000140000000000000000), 127, by decide +kernel⟩
theorem test_w_HashCounterAndTimeOperationsCompute_to6 : ∃ (s : State) (t : Fin 128), wordGoes s t.val = true ∧ plainUnits (theWord s t.val) = true ∧ mwTop (theWord s t.val) = 0x6 :=
  ⟨(atWord 0x7c000000180000000000000000), 127, by decide +kernel⟩
theorem test_w_HashCounterAndTimeOperationsCompute_fo1 : ∃ (s : State) (t : Fin 128), wordGoes s t.val = true ∧ plainUnits (theWord s t.val) = true ∧ mwFop (theWord s t.val) = 0x1 :=
  ⟨(atWord 0x7c400000000000000000000000), 127, by decide +kernel⟩
theorem test_w_HashCounterAndTimeOperationsCompute_qo1 : ∃ (s : State) (t : Fin 128), wordGoes s t.val = true ∧ plainUnits (theWord s t.val) = true ∧ mwQop (theWord s t.val) = 0x1 :=
  ⟨(atWord 0x7c000004000000000000000000), 127, by decide +kernel⟩
theorem test_w_HashCounterAndTimeOperationsCompute_qo2 : ∃ (s : State) (t : Fin 128), wordGoes s t.val = true ∧ plainUnits (theWord s t.val) = true ∧ mwQop (theWord s t.val) = 0x2 :=
  ⟨(atWord 0x7c000008000000000000000000), 127, by decide +kernel⟩
theorem test_w_HashCounterAndTimeOperationsCompute_qo11 : ∃ (s : State) (t : Fin 128), wordGoes s t.val = true ∧ plainUnits (theWord s t.val) = true ∧ mwQop (theWord s t.val) = 0xb :=
  ⟨(atWord 0x7c00002c000000000000000000), 127, by decide +kernel⟩
theorem test_w_MemoryOperationsIssue_mo1 : ∃ (s : State) (t : Fin 128), wordGoes s t.val = true ∧ plainUnits (theWord s t.val) = true ∧ mwMop (theWord s t.val) = 0x1 :=
  ⟨(atWord 0x7bc0000004000000000000000000000), 127, by decide +kernel⟩
theorem test_w_MemoryOperationsIssue_mo2 : ∃ (s : State) (t : Fin 128), wordGoes s t.val = true ∧ plainUnits (theWord s t.val) = true ∧ mwMop (theWord s t.val) = 0x2 :=
  ⟨(atWord 0x7bc0000008000000000000000000000), 127, by decide +kernel⟩
theorem test_w_MemoryOperationsIssue_mo3 : ∃ (s : State) (t : Fin 128), wordGoes s t.val = true ∧ plainUnits (theWord s t.val) = true ∧ mwMop (theWord s t.val) = 0x3 :=
  ⟨(atWord 0x7bc000000c000000000000000000000), 127, by decide +kernel⟩
theorem test_w_MemoryOperationsIssue_mo4 : ∃ (s : State) (t : Fin 128), wordGoes s t.val = true ∧ plainUnits (theWord s t.val) = true ∧ mwMop (theWord s t.val) = 0x4 :=
  ⟨(atWord 0x7bc0000010000000000000000000000), 127, by decide +kernel⟩
theorem test_w_MemoryOperationsIssue_mo5 : ∃ (s : State) (t : Fin 128), wordGoes s t.val = true ∧ plainUnits (theWord s t.val) = true ∧ mwMop (theWord s t.val) = 0x5 :=
  ⟨(atWord 0x3c0000014400000000000000000000), 127, by decide +kernel⟩
theorem test_w_MemoryOperationsIssue_mo6 : ∃ (s : State) (t : Fin 128), wordGoes s t.val = true ∧ plainUnits (theWord s t.val) = true ∧ mwMop (theWord s t.val) = 0x6 :=
  ⟨(atWord 0x3c0000018400000000000000000000), 127, by decide +kernel⟩
theorem test_w_MemoryOperationsIssue_mo7 : ∃ (s : State) (t : Fin 128), wordGoes s t.val = true ∧ plainUnits (theWord s t.val) = true ∧ mwMop (theWord s t.val) = 0x7 :=
  ⟨(atWord 0x3c000001c400000000000000000000), 127, by decide +kernel⟩
theorem test_w_MemoryOperationsIssue_mo8 : ∃ (s : State) (t : Fin 128), wordGoes s t.val = true ∧ plainUnits (theWord s t.val) = true ∧ mwMop (theWord s t.val) = 0x8 :=
  ⟨(atWord 0x3c0000020800000000000000000000), 127, by decide +kernel⟩
theorem test_w_MemoryOperationsIssue_mo9 : ∃ (s : State) (t : Fin 128), wordGoes s t.val = true ∧ plainUnits (theWord s t.val) = true ∧ mwMop (theWord s t.val) = 0x9 :=
  ⟨(atWord 0x7bc0000025400000000000060000000), 127, by decide +kernel⟩
theorem test_w_MemoryOperationsIssue_mo10 : ∃ (s : State) (t : Fin 128), wordGoes s t.val = true ∧ plainUnits (theWord s t.val) = true ∧ mwMop (theWord s t.val) = 0xa :=
  ⟨(atWord 0x7bc0000029400000000000060000000), 127, by decide +kernel⟩
theorem test_w_MemoryOperationsIssue_mo11 : ∃ (s : State) (t : Fin 128), wordGoes s t.val = true ∧ plainUnits (theWord s t.val) = true ∧ mwMop (theWord s t.val) = 0xb :=
  ⟨(atWord 0x7bc000002d400000000000060000000), 127, by decide +kernel⟩
theorem test_w_MemoryOperationsIssue_mo12 : ∃ (s : State) (t : Fin 128), wordGoes s t.val = true ∧ plainUnits (theWord s t.val) = true ∧ mwMop (theWord s t.val) = 0xc :=
  ⟨(atWord 0x7bc0000031400000000000060000000), 127, by decide +kernel⟩
theorem test_w_MemoryOperationsIssue_mo13 : ∃ (s : State) (t : Fin 128), wordGoes s t.val = true ∧ plainUnits (theWord s t.val) = true ∧ mwMop (theWord s t.val) = 0x1 ∧ mwMsel (theWord s t.val) = 3 :=
  ⟨(atWord 0x3e0000004c00000000000380000000), 127, by decide +kernel⟩
theorem test_w_MemoryOperationsIssue_mo14 : ∃ (s : State) (t : Fin 128) (fr : _) (rest : _), wordGoes s t.val = true ∧ plainUnits (theWord s t.val) = true ∧ mwMop (theWord s t.val) = 0x1 ∧ mwMsel (theWord s t.val) = 4 ∧ (s.tellerAt t.val).frames = fr :: rest :=
  ⟨(inTrap 0x3e0000005000000000001780000000), 127, ({ f := Vector.replicate 48 0, win := none }), ([]), by decide +kernel⟩
theorem test_w_MemoryOperationsIssue_mo15 : ∃ (s : State) (t : Fin 128), wordGoes s t.val = true ∧ plainUnits (theWord s t.val) = true ∧ mwMop (theWord s t.val) = 0x3 ∧ mwMsel (theWord s t.val) = 3 :=
  ⟨(atWord 0xcc00000000000380000000), 127, by decide +kernel⟩
theorem test_w_MemoryOperationsIssue_mo16 : ∃ (s : State) (t : Fin 128) (fr : _) (rest : _), wordGoes s t.val = true ∧ plainUnits (theWord s t.val) = true ∧ mwMop (theWord s t.val) = 0x3 ∧ mwMsel (theWord s t.val) = 4 ∧ (s.tellerAt t.val).frames = fr :: rest :=
  ⟨(inTrap 0xd000000000001780000000), 127, ({ f := Vector.replicate 48 0, win := none }), ([]), by decide +kernel⟩
theorem test_w_SequencerOperationsLead_so0 : ∃ (s : State) (t : Fin 128), wordGoes s t.val = true ∧ plainUnits (theWord s t.val) = true ∧ mwSeq (theWord s t.val) = 0x0 :=
  ⟨(atWord 0xfffc000000000000000000000000000000000000), 127, by decide +kernel⟩
theorem test_w_SequencerOperationsLead_so1 : ∃ (s : State) (t : Fin 128), wordGoes s t.val = true ∧ plainUnits (theWord s t.val) = true ∧ mwSeq (theWord s t.val) = 0x1 :=
  ⟨(atWord 0xfffc400000000000000000000000000000000000), 127, by decide +kernel⟩
theorem test_w_SequencerOperationsLead_so2 : ∃ (s : State) (t : Fin 128), wordGoes s t.val = true ∧ plainUnits (theWord s t.val) = true ∧ mwSeq (theWord s t.val) = 0x2 :=
  ⟨(atWord 0xfffc800000000000000000000000000000000000), 127, by decide +kernel⟩
theorem test_w_SequencerOperationsLead_so3 : ∃ (s : State) (t : Fin 128), wordGoes s t.val = true ∧ plainUnits (theWord s t.val) = true ∧ mwSeq (theWord s t.val) = 0x3 :=
  ⟨(atWord 0xfffcc00000000000000000000000000000000000), 127, by decide +kernel⟩
theorem test_w_SequencerOperationsLead_so4 : ∃ (s : State) (t : Fin 128), wordGoes s t.val = true ∧ plainUnits (theWord s t.val) = true ∧ mwSeq (theWord s t.val) = 0x4 :=
  ⟨(atWord 0xfffd000000000000000000000000000000000000), 127, by decide +kernel⟩
theorem test_w_SequencerOperationsLead_so5 : ∃ (s : State) (t : Fin 128), wordGoes s t.val = true ∧ plainUnits (theWord s t.val) = true ∧ mwSeq (theWord s t.val) = 0x5 :=
  ⟨(atWord 0xfffd400000000000000000000000000000000000), 127, by decide +kernel⟩
theorem test_w_SequencerOperationsLead_so6 : ∃ (s : State) (t : Fin 128), wordGoes s t.val = true ∧ plainUnits (theWord s t.val) = true ∧ mwSeq (theWord s t.val) = 0x6 :=
  ⟨(atWord 0xfffd800000000000000000000000000000000000), 127, by decide +kernel⟩
theorem test_w_SequencerOperationsLead_so7 : ∃ (s : State) (t : Fin 128), wordGoes s t.val = true ∧ plainUnits (theWord s t.val) = true ∧ mwSeq (theWord s t.val) = 0x7 :=
  ⟨(atWord 0xfffdc00000000000000000000000000000000000), 127, by decide +kernel⟩
theorem test_w_SequencerOperationsLead_so8 : ∃ (s : State) (t : Fin 128), wordGoes s t.val = true ∧ plainUnits (theWord s t.val) = true ∧ mwSeq (theWord s t.val) = 0x8 :=
  ⟨(atWord 0xfffe000000000000000000000000000000000000), 127, by decide +kernel⟩
theorem test_w_SequencerOperationsLead_so9 : ∃ (s : State) (t : Fin 128), wordGoes s t.val = true ∧ plainUnits (theWord s t.val) = true ∧ mwSeq (theWord s t.val) = 0x9 :=
  ⟨(atWord 0xfffe400000000000000000000000000000000000), 127, by decide +kernel⟩
theorem test_w_SequencerOperationsLead_so10 : ∃ (s : State) (t : Fin 128), wordGoes s t.val = true ∧ plainUnits (theWord s t.val) = true ∧ mwSeq (theWord s t.val) = 0xa :=
  ⟨(atWord 0xfffe800000000000000000000000000000000000), 127, by decide +kernel⟩
theorem test_w_SequencerOperationsLead_so11 : ∃ (s : State) (t : Fin 128), wordGoes s t.val = true ∧ plainUnits (theWord s t.val) = true ∧ mwSeq (theWord s t.val) = 0xb :=
  ⟨(atWord 0xfffec00000000000000000000000000000000000), 127, by decide +kernel⟩
theorem test_w_PacketVerdictsAreKept_qv3 : ∃ (s : State) (t : Fin 128), wordGoes s t.val = true ∧ plainUnits (theWord s t.val) = true ∧ mwQop (theWord s t.val) = 0x3 :=
  ⟨(atWord 0xf8000000c000000000000000000), 127, by decide +kernel⟩
theorem test_w_PacketVerdictsAreKept_qv5 : ∃ (s : State) (t : Fin 128), wordGoes s t.val = true ∧ plainUnits (theWord s t.val) = true ∧ mwQop (theWord s t.val) = 0x5 :=
  ⟨(atWord 0x14000000000000100000), 127, by decide +kernel⟩
theorem test_w_PacketVerdictsAreKept_qv6 : ∃ (s : State) (t : Fin 128), wordGoes s t.val = true ∧ plainUnits (theWord s t.val) = true ∧ mwQop (theWord s t.val) = 0x6 :=
  ⟨(atWord 0x18000000000000000000), 127, by decide +kernel⟩
theorem test_w_PacketVerdictsAreKept_qv8 : ∃ (s : State) (t : Fin 128), wordGoes s t.val = true ∧ plainUnits (theWord s t.val) = true ∧ mwQop (theWord s t.val) = 0x8 :=
  ⟨(atWord 0x20000000000001000000), 127, by decide +kernel⟩
theorem test_w_FenceAndHoldWordsAct_fw1 : ∃ (s : State) (t : Fin 128), wordGoes s t.val = true ∧ plainUnits (theWord s t.val) = true ∧ mwFence (theWord s t.val) = true :=
  ⟨(atWord 0x8000000000000000000000000000000000), 127, by decide +kernel⟩
theorem test_w_FenceAndHoldWordsAct_fw2 : ∃ (s : State) (t : Fin 128), mwFence (theWord s t.val) = true ∧ (s.tellerAt t.val).st = .run ∧ dueTrap s t.val (s.tellerAt t.val) (theWord s t.val) = none ∧ atBreak s t.val (s.tellerAt t.val) = false ∧ fieldDetails (theWord s t.val) = [] ∧ (s.tellerAt t.val).mem.find? (touchesOp (theWord s t.val)) = none ∧ opsOut (s.tellerAt t.val) = true :=
  ⟨({ atWord 0x8000000000000000000000000000000000 with tellers := [(127, { st := .run, mem := [⟨1, 1, 1, 0, none, false, 0, 0, 0, none, none, false, false⟩] })] }), 127, by decide +kernel⟩
theorem test_w_FenceAndHoldWordsAct_fw3 : ∃ (s : State) (t : Fin 128), wordGoes s t.val = true ∧ plainUnits (theWord s t.val) = true ∧ mwHold (theWord s t.val) = true ∧ (s.tellerAt t.val).full = false :=
  ⟨(atWord 0x4000000000000000000000000000000000), 127, by decide +kernel⟩
theorem test_w_Dispatcher_ds1 : ∃ (s : State) (b : Fin 4) (i : _) (rest : _) (t : Nat), noTeller s b.val = false ∧ considerOrder s b.val = i :: rest ∧ recordFree s b.val i = true ∧ (s.dispAt b.val).reqs.any (·.2 == i.id) = false ∧ (((preferred s b.val i = some t ∧ available s b.val t = true) ∨ (preferred s b.val i = none ∧ fallback s b.val none = some t))) :=
  ⟨({ live with disp := [(3, { items := [({ id := 7, g0 := 5, prio := 1 } : Item)] })] }), 3, (({ id := 7, g0 := 5, prio := 1 } : Item)), ([]), 24, by decide +kernel⟩
theorem test_w_Dispatcher_ds2 : ∃ (s : State) (b : Fin 4), noTeller s b.val = true ∧ considerOrder s b.val = [] ∧ (s.dispAt b.val).noTeller = false :=
  ⟨((List.range 4).foldl (fun s j => regStore (Reg.TELL_DESK_CTRL (12 + j)) 1#32 s) live), 3, by decide +kernel⟩
theorem test_w_Dispatcher_ds3 : ∃ (s : State) (b : Fin 4) (item : _) (i : _), (s.dispAt b.val).items.find? (fun i => i.id = item ∧ i.st = .ready ∧ i.prio = 1) = some i ∧ fieldOf s (Reg.DISP_WAIT_CFG b.val) 15 0 ≤ since s i.readyAt :=
  ⟨({ live with disp := [(3, { items := [({ id := 7, g0 := 5, prio := 1 } : Item)] })] }), 3, 7, (({ id := 7, g0 := 5, prio := 1 } : Item)), by decide +kernel⟩
theorem test_w_Dispatcher_ds4 : ∃ (s : State) (b : Fin 4) (item : _) (i : _), (s.dispAt b.val).items.find? (fun i => i.id = item ∧ i.st = .ready ∧ i.prio = 1) = some i ∧ since s i.readyAt < fieldOf s (Reg.DISP_WAIT_CFG b.val) 15 0 :=
  ⟨({ live with disp := [(3, { items := [({ id := 7, g0 := 5, prio := 1, readyAt := 1000000000 } : Item)] })] }), 3, 7, (({ id := 7, g0 := 5, prio := 1, readyAt := 1000000000 } : Item)), by decide +kernel⟩
theorem test_w_Dispatcher_ds5 : ∃ (s : State) (b : Fin 4) (i : _) (rest : _) (t : Nat), noTeller s b.val = false ∧ considerOrder s b.val = i :: rest ∧ i.prio = 1 ∧ fieldOf s (Reg.DISP_WAIT_CFG b.val) 31 16 ≤ since s i.readyAt ∧ recordFree s b.val i = true ∧ (s.dispAt b.val).reqs.any (·.2 == i.id) = false ∧ preferred s b.val i = none ∧ fallback s b.val none = none ∧ i.tries < fieldOf s (Reg.DISP_CFG b.val) 5 4 ∧ (List.range 32).find? (fun t => preemptible s b.val t && !i.declined.contains t) = some t :=
  ⟨({ live with disp := [(3, { items := [({ id := 7, g0 := 5, prio := 1 } : Item)] })], tellers := (List.range 32).map fun t => (96 + t, { st := .run, ctx := { prio := 3 } }) }), 3, (({ id := 7, g0 := 5, prio := 1 } : Item)), ([]), 0, by decide +kernel⟩
theorem test_w_Dispatcher_ds6 : ∃ (s : State) (b : Fin 4) (item : _) (i : _), (s.dispAt b.val).items.find? (fun i => i.id = item ∧ i.st = .ready ∧ i.prio = 1) = some i ∧ since s i.readyAt < fieldOf s (Reg.DISP_WAIT_CFG b.val) 31 16 :=
  ⟨({ live with disp := [(3, { items := [({ id := 7, g0 := 5, prio := 1, readyAt := 1000000000 } : Item)] })] }), 3, 7, (({ id := 7, g0 := 5, prio := 1, readyAt := 1000000000 } : Item)), by decide +kernel⟩
theorem test_w_Dispatcher_ds6b : ∃ (s : State) (b : Fin 4) (item : _) (i : _), (s.dispAt b.val).items.find? (fun i => i.id = item ∧ i.st = .ready ∧ i.prio = 1) = some i ∧ fieldOf s (Reg.DISP_WAIT_CFG b.val) 31 16 ≤ since s i.readyAt :=
  ⟨({ live with disp := [(3, { items := [({ id := 7, g0 := 5, prio := 1 } : Item)] })] }), 3, 7, (({ id := 7, g0 := 5, prio := 1 } : Item)), by decide +kernel⟩
theorem test_w_Dispatcher_ds8 : ∃ (s : State) (b : Fin 4), barOpen s = true ∧ fieldOf s (Reg.DISP_AFF_ADDR b.val) 31 31 = 0 :=
  ⟨live, 3, by decide +kernel⟩
theorem test_w_Dispatcher_ds9 : ∃ (s : State) (b : Fin 4), barOpen s = true ∧ flagOf s (Reg.DISP_AFF_ADDR b.val) 31 = false :=
  ⟨live, 3, by decide +kernel⟩
theorem test_w_Dispatcher_ds10 : ∃ (s : State) (b : Fin 4), barOpen s = true ∧ flagOf s (Reg.DISP_AFF_ADDR b.val) 31 = true :=
  ⟨(regStore (Reg.DISP_AFF_ADDR 3) 0x80000000#32 (live)), 3, by decide +kernel⟩
theorem test_w_Dispatcher_ds11 : ∃ (s : State) (b : Fin 4), barOpen s = true ∧ itemRoutine (stagedG0 s b.val) = 0 :=
  ⟨live, 3, by decide +kernel⟩
theorem test_w_Dispatcher_ds12 : ∃ (s : State) (b : Fin 4), barOpen s = true ∧ itemRoutine (stagedG0 s b.val) ≠ 0 ∧ placeFree s b.val 2 = true :=
  ⟨(regStore (Reg.DISP_HOST_ITEM 3 0) 5#32 (live)), 3, by decide +kernel⟩
theorem test_w_Dispatcher_ds13 : ∃ (s : State) (b : Fin 4), barOpen s = true ∧ itemRoutine (stagedG0 s b.val) ≠ 0 ∧ placeFree s b.val 2 = false :=
  ⟨(regStore (Reg.DISP_HOST_ITEM 3 0) 5#32 (regStore (Reg.DISP_LIST_CFG 3) 0#32 (live))), 3, by decide +kernel⟩
theorem test_w_Dispatcher_ds14 : ∃ (s : State) (b : Fin 4) (cur : _) (n : _), sweepDue s b.val = true ∧ placeFree s b.val 3 = true ∧ fieldOf s (Reg.DISP_SWEEP_CURSOR b.val) 29 0 = cur ∧ cur < quarter s.vault ∧ quarter s.vault ≤ 2 ^ 30 ∧ min (max 1 (fieldOf s (Reg.DISP_SWEEP_CFG b.val) 31 16)) (quarter s.vault - cur) = n :=
  ⟨(regStore (Reg.DISP_SWEEP_CFG 3) 0x10001#32 (regStore (Reg.DISP_MAINT_ROUTINE 3) 0x500#32 ({ live with vault := { regions := [{ base := 0, size := 256 }, { base := 256, size := 256 }], ftRegion := 1, ftLog2 := 3 } }))), 3, 0, 1, by decide +kernel⟩
theorem test_w_Dispatcher_ds15 : ∃ (s : State) (b : Fin 4), sweepDue s b.val = true ∧ placeFree s b.val 3 = false :=
  ⟨(regStore (Reg.DISP_LIST_CFG 3) 0#32 (regStore (Reg.DISP_SWEEP_CFG 3) 0x10001#32 (regStore (Reg.DISP_MAINT_ROUTINE 3) 0x500#32 ({ live with vault := { regions := [{ base := 0, size := 256 }, { base := 256, size := 256 }], ftRegion := 1, ftLog2 := 3 } })))), 3, by decide +kernel⟩
theorem test_w_TellerControl_tc1 : ∃ (s : State), barOpen s = true :=
  ⟨live, by decide +kernel⟩
theorem test_w_TellerControl_tc2 : ∃ (s : State), barOpen s = false :=
  ⟨(at_ .load), by decide +kernel⟩
theorem test_w_TellerControl_tc3 : ∃ (t : Fin 128) (a : Nat) (s : State), barOpen s = true ∧ (s.tellerAt t.val).st = .halt ∧ (s.tellerAt t.val).haltAt = some a :=
  ⟨127, 9, ({ live with tellers := [(127, { st := .halt, haltAt := some 9 })] }), by decide +kernel⟩
theorem test_w_TellerControl_tc4 : ∃ (t : Fin 128) (s : State), ((s.tellerAt t.val).st ≠ .halt ∨ (s.tellerAt t.val).haltAt = none) :=
  ⟨127, live, by decide +kernel⟩
theorem test_w_TellerControl_tc5 : ∃ (d : Fin 16) (s : State), barOpen s = true ∧ (s.deskAt d.val).reading = none :=
  ⟨15, live, by decide +kernel⟩
theorem test_w_TellerControl_tc6 : ∃ (d : Fin 16) (s : State), (barOpen s = false ∨ (s.deskAt d.val).reading ≠ none) :=
  ⟨15, (at_ .load), by decide +kernel⟩
theorem test_w_TellerControl_tc7 : ∃ (d : Fin 16) (addr : Nat) (s : State), (s.deskAt d.val).reading = some addr ∧ lifecycle s = .locked :=
  ⟨15, 5, ({ live with desks := [(15, { reading := some 5 })], fuses := { grp0 := true, grp1 := true, programmed := [(1, true), (2, true)] } }), by decide +kernel⟩
theorem test_w_TellerControl_tc8 : ∃ (d : Fin 16) (addr : Nat) (s : State), (s.deskAt d.val).reading = some addr ∧ lifecycle s ≠ .locked :=
  ⟨15, 5, ({ live with desks := [(15, { reading := some 5 })] }), by decide +kernel⟩
theorem test_w_TellerControl_tc9 : ∃ (d : Fin 16) (s : State), (s.deskAt d.val).reading = none :=
  ⟨15, live, by decide +kernel⟩
theorem test_w_TellerControl_tc11 : ∃ (t : Fin 128) (s : State), (dueTrap s t.val (s.tellerAt t.val) (wordOf s t.val (s.tellerAt t.val).pc) = none ∨ opsOut (s.tellerAt t.val) = true) :=
  ⟨127, live, by decide +kernel⟩
theorem test_w_TellerControl_tc12 : ∃ (t : Fin 128) (c : TrapCause) (s : State), dueTrap s t.val (s.tellerAt t.val) (wordOf s t.val (s.tellerAt t.val).pc) = some c ∧ opsOut (s.tellerAt t.val) = false ∧ poisonedOp (s.tellerAt t.val) c = none ∧ (s.tellerAt t.val).frames.length < 8 :=
  ⟨127, (.brk), ({ live with tellers := [(127, { st := .run, traps := [.brk] })] }), by decide +kernel⟩
theorem test_w_TellerControl_tc13 : ∃ (t : Fin 128) (s : State), lockWaitOver s (t.val / 32) t.val = none :=
  ⟨127, live, by decide +kernel⟩
theorem test_w_TellerControl_tc14 : ∃ (t : Fin 128) (k : Nat) (a : Ckey) (h : Word64) (w : Way) (s : State), lockWaitOver s (t.val / 32) t.val = some k ∧ wayAt s (t.val / 32) k = some w ∧ (s.tellerAt t.val).opening = some (a, h) ∧ (s.tellerAt t.val).traps.any ofWord = false :=
  ⟨127, 0, 0, 0, ({ rc := setW0 (setW0 Rec.empty 35 32 2) 25 25 1, slot := 2, openers := [(127, 0)] }), ({ live with tellers := [(127, { opening := some (0, 0) })], ledger := [(3, { ways := [(0, { rc := setW0 (setW0 Rec.empty 35 32 2) 25 25 1, slot := 2, openers := [(127, 0)] })] })] }), by decide +kernel⟩
theorem test_w_TellerControl_tc15 : ∃ (t : Fin 128) (op : Nat) (m : MemOp) (v : Word64) (s : State), memOp s t.val op = some m ∧ m.poisoned = false ∧ ((s.tellerAt t.val).mem.takeWhile (·.id != op)).any (sameWord m) = false ∧ ((m.msel = 1 ∧ m.mop ≠ 2 ∧ m.lo = some v ∧ m.hi = none) ∨ (m.msel = 2 ∧ v = m.lo.getD 0)) :=
  ⟨127, 1, ({ id := 1, mop := 1, msel := 1, addr := 0, dst := some (7, 0), lo := some 9 }), 9, ({ live with tellers := [(127, { mem := [{ id := 1, mop := 1, msel := 1, addr := 0, dst := some (7, 0), lo := some 9 }] })] }), by decide +kernel⟩
theorem test_w_TellerControl_tc16 : ∃ (t : Fin 128) (op : Nat) (m : MemOp) (r : Rec) (s : State), memOp s t.val op = some m ∧ m.poisoned = false ∧ ((s.tellerAt t.val).mem.takeWhile (·.id != op)).any (sameWord m) = false ∧ m.msel = 0 ∧ m.mop = 1 ∧ memServed s m = true ∧ (s.chanAt (chanOf s.vault (m.addr / 128))).merge.find? (·.record = m.addr / 128) = none ∧ peekRecord s (m.addr / 128) = .data r :=
  ⟨127, 1, ({ id := 1, mop := 1, msel := 0, addr := 0, dst := some (7, 0) }), (Rec.empty), ({ live with tellers := [(127, { mem := [{ id := 1, mop := 1, msel := 0, addr := 0, dst := some (7, 0) }] })], vault := { regions := [{ base := 0, size := 256 }, { base := 256, size := 256 }], chans := (List.range 8).map fun c => (c, { st := .service }) } }), by decide +kernel⟩
theorem test_w_TellerControl_tc17 : ∃ (t : Fin 128) (op : Nat) (s : State), ((∀ m, memOp s t.val op = some m → m.poisoned = true ∨ ((s.tellerAt t.val).mem.takeWhile (·.id != op)).any (sameWord m) = true ∨ memServed s m = false)) :=
  ⟨127, 1, live, by intro m h; rw [show memOp live (127 : Fin 128).val 1 = none from by decide +kernel] at h; cases h⟩
theorem test_w_SpecialWordsAct_wd2 : ∃ (s : State) (t : Fin 128) (k : Nat) (y : Way), wordGoes s t.val = true ∧ plainBut true false false false (theWord s t.val) = true ∧ mwFop (theWord s t.val) = 0x2 ∧ (s.tellerAt t.val).win = some k ∧ wayAt s (t.val / 32) k = some y :=
  ⟨(atWord 0x7800f80bc0000000000000000000000), 127, 0, ({ rc := Rec.empty, slot := 6 }), by decide +kernel⟩
theorem test_w_SpecialWordsAct_wd3 : ∃ (s : State) (t : Fin 128) (k : Nat) (y : Way), wordGoes s t.val = true ∧ plainBut true false false false (theWord s t.val) = true ∧ mwFop (theWord s t.val) = 0x3 ∧ (s.tellerAt t.val).win = some k ∧ wayAt s (t.val / 32) k = some y :=
  ⟨(atWord 0x7800f80fc0000000000000000000000), 127, 0, ({ rc := Rec.empty, slot := 6 }), by decide +kernel⟩
theorem test_w_SpecialWordsAct_wd4 : ∃ (s : State) (t : Fin 128) (k : Nat) (y : Way), wordGoes s t.val = true ∧ plainBut true false false false (theWord s t.val) = true ∧ mwFop (theWord s t.val) = 0x4 ∧ (s.tellerAt t.val).win = some k ∧ wayAt s (t.val / 32) k = some y :=
  ⟨(atWord 0x7800f813c0000000000000000000000), 127, 0, ({ rc := Rec.empty, slot := 6 }), by decide +kernel⟩
theorem test_w_SpecialWordsAct_wd5 : ∃ (s : State) (t : Fin 128) (k : Nat) (y : Way), wordGoes s t.val = true ∧ plainBut true false false false (theWord s t.val) = true ∧ mwFop (theWord s t.val) = 0x5 ∧ (s.tellerAt t.val).win = some k ∧ wayAt s (t.val / 32) k = some y :=
  ⟨(atWord 0x7800f817c0000000000000000000000), 127, 0, ({ rc := Rec.empty, slot := 6 }), by decide +kernel⟩
theorem test_w_SpecialWordsAct_wd6 : ∃ (s : State) (t : Fin 128) (k : Nat) (y : Way), wordGoes s t.val = true ∧ plainBut true false false false (theWord s t.val) = true ∧ mwFop (theWord s t.val) = 0x6 ∧ (s.tellerAt t.val).win = some k ∧ wayAt s (t.val / 32) k = some y :=
  ⟨(atWord 0x7800f81bc0000000000000000000000), 127, 0, ({ rc := Rec.empty, slot := 6 }), by decide +kernel⟩
theorem test_w_SpecialWordsAct_wd7 : ∃ (s : State) (t : Fin 128) (k : _) (y : _) (v : Nat), wordGoes s t.val = true ∧ plainBut true false false false (theWord s t.val) = true ∧ mwFop (theWord s t.val) = 0x7 ∧ (s.tellerAt t.val).win = some k ∧ wayAt s (t.val / 32) k = some y ∧ wbits (srcB (s.tellerAt t.val) (theWord s t.val)) 3 0 = v :=
  ⟨({ atWord 0x1c00000003000000030000000 with ledger := [(3, { ways := [(0, { rc := setW0 Rec.empty 35 32 2, slot := 2 })] })] }), 127, 0, ({ rc := setW0 Rec.empty 35 32 2, slot := 2 }), 3, by decide +kernel⟩
theorem test_w_SpecialWordsAct_wd10 : ∃ (s : State) (t : Fin 128) (k : _) (y : _), wordGoes s t.val = true ∧ plainBut true false false false (theWord s t.val) = true ∧ mwFop (theWord s t.val) = 0xA ∧ (s.tellerAt t.val).win = some k ∧ wayAt s (t.val / 32) k = some y :=
  ⟨(atWord 0x2800000000000000000000000), 127, 0, ({ rc := Rec.empty, slot := 6 }), by decide +kernel⟩
theorem test_w_SpecialWordsAct_wd8 : ∃ (s : State) (t : Fin 128) (r : _), wordGoes s t.val = true ∧ plainBut true false false false (theWord s t.val) = true ∧ mwFop (theWord s t.val) = 0x8 ∧ (s.tellerAt t.val).opened = some r :=
  ⟨({ live with desks := [(7, { store := [(0, BitVec.ofNat 160 0x2000000000000000000000000)] })], tellers := [(63, { st := .run, opened := some (some 0), ctx := { desc := some { frame := 3 } } })], ledger := [(1, { ways := [] })] }), 63, (some 0), by decide +kernel⟩
theorem test_w_SpecialWordsAct_wd11 : ∃ (s : State) (t : Fin 128) (o : _), wordGoes s t.val = true ∧ plainBut true false false false (theWord s t.val) = true ∧ mwFop (theWord s t.val) = 0x8 ∧ (s.tellerAt t.val).opened = none ∧ (s.tellerAt t.val).opening = some o :=
  ⟨({ live with desks := [(7, { store := [(0, BitVec.ofNat 160 0x2000000000000000000000000)] })], tellers := [(63, { st := .run, opening := some (0, 0), ctx := { desc := some { frame := 3 } } })], ledger := [(1, { ways := [] })] }), 63, ((0, 0)), by decide +kernel⟩
theorem test_w_SpecialWordsAct_wd12 : ∃ (s : State) (t : Fin 128) (k : _) (y : _), wordGoes s t.val = true ∧ plainBut true false false false (theWord s t.val) = true ∧ mwFop (theWord s t.val) = 0x8 ∧ (s.tellerAt t.val).opened = none ∧ (s.tellerAt t.val).opening = none ∧ probe s (t.val / 32) (hashOf s (keyOperand (s.tellerAt t.val) (theWord s t.val))) (keyOperand (s.tellerAt t.val) (theWord s t.val)) = some k ∧ wayAt s (t.val / 32) k = some y ∧ rcLock y.rc = false ∧ rcDead y.rc = false ∧ rcExpired s y.rc (ledgerNow s) = false :=
  ⟨({ live with desks := [(7, { store := [(0, BitVec.ofNat 160 0x2000000000000000000000000)] })], tellers := [(63, { st := .run, ctx := { desc := some { frame := 3 } } })], ledger := [(1, { ways := [(331536, { rc := setW0 Rec.empty 35 32 2, slot := 2 })] })] }), 63, 331536, ({ rc := setW0 Rec.empty 35 32 2, slot := 2 }), by decide +kernel⟩
theorem test_w_SpecialWordsAct_wd9 : ∃ (s : State) (t : Fin 128) (k : _) (y : _), wordGoes s t.val = true ∧ plainBut true false false false (theWord s t.val) = true ∧ mwFop (theWord s t.val) = 0x9 ∧ (s.tellerAt t.val).win = some k ∧ wayAt s (t.val / 32) k = some y ∧ quietWay y :=
  ⟨(atWord 0x2400000000000000000000000), 127, 0, ({ rc := Rec.empty, slot := 6 }), by decide +kernel, by decide +kernel, by decide +kernel, by decide +kernel, by decide +kernel, rfl, rfl, rfl, rfl, rfl⟩
theorem test_w_SpecialWordsAct_cc1 : ∃ (s : State) (t : Fin 128), wordGoes s t.val = true ∧ plainUnits (theWord s t.val) = true ∧ mwCop (theWord s t.val) = 0x1 :=
  ⟨(regStore (Reg.TELL_PERM 15) 1#32 (atWord 0xf80000000400000000000000000)), 127, by decide +kernel⟩
theorem test_w_SpecialWordsAct_cc2 : ∃ (s : State) (t : Fin 128), wordGoes s t.val = true ∧ plainUnits (theWord s t.val) = true ∧ mwCop (theWord s t.val) = 0x2 :=
  ⟨(regStore (Reg.TELL_PERM 15) 1#32 (atWord 0xf80000000800000000000000000)), 127, by decide +kernel⟩
theorem test_w_SpecialWordsAct_cc4 : ∃ (s : State) (t : Fin 128), wordGoes s t.val = true ∧ plainUnits (theWord s t.val) = true ∧ mwCop (theWord s t.val) = 0x4 :=
  ⟨(regStore (Reg.TELL_PERM 15) 1#32 (atWord 0xf80000001000000000000000000)), 127, by decide +kernel⟩
theorem test_w_SpecialWordsAct_qs4 : ∃ (s : State) (t : Fin 128) (d : _), wordGoes s t.val = true ∧ plainBut false true false false (theWord s t.val) = true ∧ mwQop (theWord s t.val) = 0x4 ∧ (s.tellerAt t.val).ctx.desc = some d :=
  ⟨(atWord 0x10000000000000f00000), 127, (({ frame := 3 } : Desc)), by decide +kernel⟩
theorem test_w_SpecialWordsAct_qs7 : ∃ (s : State) (t : Fin 128) (d : _), wordGoes s t.val = true ∧ plainBut false true false false (theWord s t.val) = true ∧ mwQop (theWord s t.val) = 0x7 ∧ (s.tellerAt t.val).ctx.desc = some d :=
  ⟨(atWord 0x1c000000000000000000), 127, (({ frame := 3 } : Desc)), by decide +kernel⟩
theorem test_w_SpecialWordsAct_qs9 : ∃ (s : State) (t : Fin 128) (d : _) (ok : _) (v : State), wordGoes s t.val = true ∧ plainBut false true false false (theWord s t.val) = true ∧ mwQop (theWord s t.val) = 0x9 ∧ mwMop (theWord s t.val) = 0 ∧ (s.tellerAt t.val).ctx.desc = some d ∧ police (t.val / 32) (wbits (srcB (s.tellerAt t.val) (theWord s t.val)) 15 0) d s = (ok, v) :=
  ⟨(atWord 0x24000000000000000000), 127, (({ frame := 3 } : Desc)), ((police 3 0 ({ frame := 3 } : Desc) (atWord 0x24000000000000000000)).1), ((police 3 0 ({ frame := 3 } : Desc) (atWord 0x24000000000000000000)).2), by decide +kernel, by decide +kernel, by decide +kernel, by decide +kernel, by decide +kernel, by rfl⟩
theorem test_w_SpecialWordsAct_qs12 : ∃ (s : State) (t : Fin 128) (d : _), wordGoes s t.val = true ∧ plainBut false true false false (theWord s t.val) = true ∧ mwQop (theWord s t.val) = 0xC ∧ mwMop (theWord s t.val) = 0 ∧ (s.tellerAt t.val).ctx.desc = some d ∧ recircFull s (t.val / 32) (s.tellerAt t.val).ctx (s.tellerAt t.val).ctx.verdict = false :=
  ⟨({ atWord 0x30000000000000000000 with tellers := [(127, { st := .run, ctx := { desc := some { frame := 3 } } })] }), 127, (({ frame := 3 } : Desc)), by decide +kernel⟩
theorem test_w_SpecialWordsAct_qs1 : ∃ (s : State) (t : Fin 128) (d : _), wordGoes s t.val = true ∧ plainBut false true false false (theWord s t.val) = true ∧ mwQop (theWord s t.val) = 0xA ∧ mwMop (theWord s t.val) = 0 ∧ (s.tellerAt t.val).ctx.desc = some d ∧ (s.tellerAt t.val).win = none ∧ domOn s (17 + t.val / 32) = false :=
  ⟨({ atWord 0x28000000000000000000 with treas := { live.treas with doms := [] }, tellers := [(127, { st := .run, ctx := { desc := some { frame := 3 } } })] }), 127, (({ frame := 3 } : Desc)), by decide +kernel⟩
theorem test_w_SpecialWordsAct_qs3 : ∃ (s : State) (t : Fin 128) (d : _), wordGoes s t.val = true ∧ plainBut false true false false (theWord s t.val) = true ∧ mwQop (theWord s t.val) = 0xA ∧ (s.tellerAt t.val).ctx.desc = some d ∧ (match issueScan (t.val / 32) t.val (s.tellerAt t.val).ctx.item d (s.tellerAt t.val).win (mwQarg (theWord s t.val)) (srcB (s.tellerAt t.val) (theWord s t.val)) s with | .wait => true | .done _ => false) = true :=
  ⟨({ atWord 0x28000000000000000000 with automata := { groupCount := 64, groups := [(0, { valid := true, limit := 1 })] }, tellers := [(127, { st := .run, ctx := { desc := some { frame := 3 } } })], nose := [(3, { queue := List.replicate 256 ({ id := 1, teller := 0, item := 1, frame := 3, head := 0, startOff := 0, maxLen := 0, group := 0, isNew := true, monitor := false } : ScanReq) })] }), 127, (({ frame := 3 } : Desc)), by decide +kernel⟩
theorem test_w_SpecialWordsAct_qs2 : ∃ (s : State) (t : Fin 128) (d : _), wordGoes s t.val = true ∧ plainBut false true false false (theWord s t.val) = true ∧ mwQop (theWord s t.val) = 0xA ∧ mwMop (theWord s t.val) = 0 ∧ (s.tellerAt t.val).ctx.desc = some d ∧ (s.tellerAt t.val).win = none ∧ (srcB (s.tellerAt t.val) (theWord s t.val)).getLsbD 23 = false ∧ noseTakes s (t.val / 32) (wbits (srcB (s.tellerAt t.val) (theWord s t.val)) 21 16) = true :=
  ⟨({ atWord 0x28000000000000000000 with automata := { groupCount := 64, groups := [(0, { valid := true, limit := 1 })] }, tellers := [(127, { st := .run, ctx := { desc := some { frame := 3 } } })] }), 127, (({ frame := 3 } : Desc)), by decide +kernel⟩
theorem test_w_SpecialWordsAct_xs2 : ∃ (s : State) (t : Fin 128) (g0 : _), wordGoes s t.val = true ∧ plainBut false false true false (theWord s t.val) = true ∧ mwXop (theWord s t.val) = 0x2 ∧ mwMop (theWord s t.val) = 0 ∧ mwCop (theWord s t.val) = 0 ∧ (srcB (s.tellerAt t.val) (theWord s t.val) &&& offeredMask) ||| BitVec.ofNat 64 (2 ^ 8 * 3 + 2 ^ 14 + 2 ^ 38 * (t.val / 32)) = g0 :=
  ⟨(atWord 0xb000000050000000), 127, ((5#64 &&& offeredMask) ||| BitVec.ofNat 64 (2 ^ 8 * 3 + 2 ^ 14 + 2 ^ 38 * 3)), by decide +kernel⟩
theorem test_w_SpecialWordsAct_xs3 : ∃ (s : State) (t : Fin 128), wordGoes s t.val = true ∧ plainBut false false true false (theWord s t.val) = true ∧ mwXop (theWord s t.val) = 0x3 ∧ mwMop (theWord s t.val) = 0 ∧ mwCop (theWord s t.val) = 0 :=
  ⟨(atWord 0xc000000000000000), 127, by decide +kernel⟩
theorem test_w_SpecialWordsAct_xs4 : ∃ (s : State) (t : Fin 128), wordGoes s t.val = true ∧ plainBut false false true false (theWord s t.val) = true ∧ mwXop (theWord s t.val) = 0x4 ∧ mwMop (theWord s t.val) = 0 ∧ mwCop (theWord s t.val) = 0 :=
  ⟨(atWord 0x10000000000000000), 127, by decide +kernel⟩
theorem test_w_SpecialWordsAct_sq14 : ∃ (s : State) (t : Fin 128), wordGoes s t.val = true ∧ plainBut false false false true (theWord s t.val) = true ∧ mwSeq (theWord s t.val) = 0xE ∧ mwMop (theWord s t.val) = 0 :=
  ⟨(atWord 0x1f800000000000000000000000000000000000), 127, by decide +kernel⟩
theorem test_w_SpecialWordsAct_sq15 : ∃ (s : State) (t : Fin 128), wordGoes s t.val = true ∧ plainBut false false false true (theWord s t.val) = true ∧ mwSeq (theWord s t.val) = 0xF ∧ mwMop (theWord s t.val) = 0 :=
  ⟨(atWord 0x3c00000000000000000000000000000000000), 127, by decide +kernel⟩
theorem test_w_SpecialWordsAct_sq13 : ∃ (s : State) (t : Fin 128) (fr : _) (rest : _), wordGoes s t.val = true ∧ plainBut false false false true (theWord s t.val) = true ∧ mwSeq (theWord s t.val) = 0xD ∧ mwMop (theWord s t.val) = 0 ∧ (s.tellerAt t.val).frames = fr :: rest ∧ handlerOf (s.tellerAt t.val) = none :=
  ⟨(inTrap 0x3400000000000000000000000000000000000), 127, ({ f := Vector.replicate 48 0, win := none }), ([]), by decide +kernel⟩
theorem test_w_SpecialWordsAct_sq12 : ∃ (s : State) (t : Fin 128) (i : Item), wordGoes s t.val = true ∧ plainBut false false false true (theWord s t.val) = true ∧ mwSeq (theWord s t.val) = 0xC ∧ mwMop (theWord s t.val) = 0 ∧ (s.tellerAt t.val).ctx.desc = none ∧ (s.tellerAt t.val).win = none ∧ (s.tellerAt t.val).parked = none ∧ itemOf s t.val = some i ∧ itemPkt i = false ∧ ((i.kind = .packet ∨ i.kind = .post ∨ i.kind = .sweep ∨ i.kind = .nose)) ∧ s.audit.waiting = [] :=
  ⟨({ atWord 0x3000000000000000000000000000000000000 with tellers := [(127, { st := .run, ctx := { item := 7 } })], disp := [(3, { items := [({ id := 7, g0 := 5, prio := 3, st := .running 31, kind := .sweep } : Item)] })] }), 127, (({ id := 7, g0 := 5, prio := 3, st := .running 31, kind := .sweep } : Item)), by decide +kernel, by decide +kernel, by decide +kernel, by decide +kernel, by decide +kernel, by decide +kernel, by decide +kernel, by decide +kernel, by decide +kernel, .inr (.inr (.inl rfl)), by decide +kernel⟩
theorem test_w_SpecialWordsAct_xs1b : ∃ (s : State) (t : Fin 128) (i : Item), wordGoes s t.val = true ∧ plainBut false false true false (theWord s t.val) = true ∧ mwXop (theWord s t.val) = 0x1 ∧ mwMop (theWord s t.val) = 0 ∧ handlerOf (s.tellerAt t.val) = some i.id ∧ (s.dispAt (t.val / 32)).items.find? (·.id = i.id) = some i ∧ i.id ≠ (s.tellerAt t.val).ctx.item :=
  ⟨({ inTrap 0x4000000000000000 with tellers := [(127, { st := .run, preempt := some (0, 7), frames := [{ f := Vector.replicate 48 0, win := none }] })], disp := [(3, { items := [({ id := 7, g0 := 5, prio := 1, st := .ready } : Item)] })] }), 127, (({ id := 7, g0 := 5, prio := 1, st := .ready } : Item)), by decide +kernel⟩
theorem test_w_Till_tp1 : ∃ (b : Fin 4) (d : Desc) (a : Word64) (rest : List (Desc × Word64)) (s : State), (s.ledgerAt b.val).heldItems = (d, a) :: rest ∧ d.entered = none ∧ placeFree s b.val (actionPrio s a) = true ∧ hashBusy s b.val d.hash = false :=
  ⟨3, (({ frame := 3 } : Desc)), 0, ([]), ({ live with ledger := [(3, { ways := [], heldItems := [({ frame := 3 }, 0)] })] }), by decide +kernel⟩
theorem test_w_Till_tp2 : ∃ (b : Fin 4) (s : State), (s.ledgerAt b.val).heldItems = [] ∧ (probeOpen s b.val = false ∨ ((s.ledgerAt b.val).stalled = none ∧ takeInput s b.val = none)) :=
  ⟨3, live, by decide +kernel⟩
theorem test_w_Till_tp3 : ∃ (b : Fin 4) (i : Nat) (d : Desc) (s : State), (s.ledgerAt b.val).heldItems = [] ∧ (s.ledgerAt b.val).stalled = none ∧ probeOpen s b.val = true ∧ takeInput s b.val = some (i, d) ∧ probe s b.val d.hash d.ckey = none ∧ descsHeld (s.ledgerAt b.val) < 65536 ∧ ((∀ e ∈ (s.ledgerAt b.val).miss, e.key ≠ d.ckey)) ∧ (s.ledgerAt b.val).miss.length < 16384 ∧ ((∀ e ∈ (s.ledgerAt b.val).miss, e.id ≠ (s.ledgerAt b.val).nextMiss)) :=
  ⟨3, 0, (({ frame := 3 } : Desc)), ({ live with assay := [(0, { out := [(3, [({ frame := 3 } : Desc)])] })] }), by decide +kernel, by decide +kernel, by decide +kernel, by decide +kernel, by decide +kernel, by decide +kernel, (fun _ h => nomatch h), by decide +kernel, (fun _ h => nomatch h)⟩
theorem test_w_Till_tcr1 : ∃ (b : Fin 4) (entry : Nat) (e : MissEntry) (second : Bool) (s : State), entryAt s b.val entry = some e ∧ e.stage = .reading second ∧ vaultReady s e.hash = true ∧ candidateTurn s e = true ∧ keyGuarded s b.val e.key = true :=
  ⟨3, 9, ({ id := 9, key := 0, hash := 0, stage := .reading true }), true, ({ live with ledger := [(3, { ways := [], miss := [{ id := 9, key := 0, hash := 0, stage := .reading true }], guards := [({ key := 0, slot := 2, teller := 97 } : Guard)] })], vault := { regions := [{ base := 0, size := 256 }, { base := 256, size := 256 }], ftRegion := 1, ftLog2 := 3, chans := (List.range 8).map fun c => (c, { st := .service }) } }), by decide +kernel⟩
theorem test_w_Till_tcr2 : ∃ (b : Fin 4) (entry : Nat) (e : MissEntry) (r : Rec) (s : State), entryAt s b.val entry = some e ∧ e.stage = .reading false ∧ vaultReady s e.hash = true ∧ candidateTurn s e = true ∧ keyGuarded s b.val e.key = false ∧ searchesBoth e = false ∧ probe s b.val e.hash e.key = none ∧ (s.chanAt (chanOf s.vault (ftRecord s.vault (cands s e.hash).1))).merge.find? (·.record = ftRecord s.vault (cands s e.hash).1) = none ∧ peekRecord s (ftRecord s.vault (cands s e.hash).1) = .data r ∧ recKey r ≠ e.key :=
  ⟨3, 9, ({ id := 9, key := 1, hash := 0 }), (Rec.empty), ({ live with ledger := [(3, { ways := [], miss := [{ id := 9, key := 1, hash := 0 }] })], vault := { regions := [{ base := 0, size := 256 }, { base := 256, size := 256 }], ftRegion := 1, ftLog2 := 3, chans := (List.range 8).map fun c => (c, { st := .service }) } }), by decide +kernel⟩
theorem test_w_Till_tcr3 : ∃ (b : Fin 4) (entry : Nat) (s : State), ((∀ e, entryAt s b.val entry = some e → vaultReady s e.hash = false ∨ candidateTurn s e = false)) :=
  ⟨3, 9, live, by intro e h; rw [show entryAt live (3 : Fin 4).val 9 = none from by decide +kernel] at h; cases h⟩
theorem test_w_Till_tfr1 : ∃ (b : Fin 4) (entry : Nat) (e : MissEntry) (s : State), entryAt s b.val entry = some e ∧ e.stage = .guarded ∧ keyGuarded s b.val e.key = false :=
  ⟨3, 9, ({ id := 9, key := 0, hash := 0, stage := .guarded }), ({ live with ledger := [(3, { ways := [], miss := [{ id := 9, key := 0, hash := 0, stage := .guarded }] })], vault := { regions := [{ base := 0, size := 256 }, { base := 256, size := 256 }], ftRegion := 1, ftLog2 := 3, chans := (List.range 8).map fun c => (c, { st := .service }) } }), by decide +kernel⟩
theorem test_w_Till_tfr2 : ∃ (b : Fin 4) (entry : Nat) (s : State), ((∀ e, entryAt s b.val entry = some e → (e.stage = .guarded ∧ keyGuarded s b.val e.key = true) ∨ e.stage = .held ∨ (∃ k, e.stage = .reading k))) :=
  ⟨3, 9, live, by intro e h; rw [show entryAt live (3 : Fin 4).val 9 = none from by decide +kernel] at h; cases h⟩
theorem test_w_Till_tol : ∃ (s : State), barOpen s = true :=
  ⟨live, by decide +kernel⟩
theorem test_w_Till_tsb : ∃ (s : State), barOpen s = true :=
  ⟨live, by decide +kernel⟩
theorem test_w_Till_tmt1 : ∃ (b : Fin 4) (entry : Nat) (frame : Nat) (e : MissEntry) (d : Desc) (t : Nat) (s : State), entryAt s b.val entry = some e ∧ e.waiters.find? (waitsOn frame) = some (.packet d t) ∧ probe s b.val e.hash e.key = none ∧ us (max 1 (fieldOf s (portAct d) 25 16)) < since s t ∧ e.setup = none :=
  ⟨3, 9, 3, ({ id := 9, key := 0, hash := 0, stage := .reading false, waiters := [.packet { frame := 3 } 0] }), (({ frame := 3 } : Desc)), 0, ({ live with ledger := [(3, { ways := [], miss := [{ id := 9, key := 0, hash := 0, stage := .reading false, waiters := [.packet { frame := 3 } 0] }] })], vault := { regions := [{ base := 0, size := 256 }, { base := 256, size := 256 }], ftRegion := 1, ftLog2 := 3, chans := (List.range 8).map fun c => (c, { st := .service }) } }), by decide +kernel⟩
theorem test_w_Till_tmt2 : ∃ (b : Fin 4) (entry : Nat) (frame : Nat) (s : State), ((∀ e, entryAt s b.val entry = some e → (∀ w ∈ e.waiters, ∀ d t, w = .packet d t → d.frame ≠ frame) ∨ (probe s b.val e.hash e.key).isSome = true)) :=
  ⟨3, 9, 3, live, by intro e h; rw [show entryAt live (3 : Fin 4).val 9 = none from by decide +kernel] at h; cases h⟩
theorem test_w_Till_tdd1 : ∃ (b : Fin 4) (way : Nat) (w : Way) (s : State), wayAt s b.val way = some w ∧ fieldOf s (Reg.TILL_DUR_CFG 0) 31 0 ≠ 0 ∧ us (fieldOf s (Reg.TILL_DUR_CFG 0) 31 0) < since s w.dirtyAt ∧ rcDirty w.rc = true ∧ rcDurable w.rc = true :=
  ⟨3, 0, ({ rc := setW0 (setW0 (setW0 Rec.empty 35 32 2) 24 24 1) 22 22 1, slot := 2 }), (regStore (Reg.TILL_DUR_CFG 0) 1#32 ({ live with ledger := [(3, { ways := [(0, { rc := setW0 (setW0 (setW0 Rec.empty 35 32 2) 24 24 1) 22 22 1, slot := 2 })] })] })), by decide +kernel⟩
theorem test_w_Till_tdd2 : ∃ (b : Fin 4) (way : Nat) (s : State), ((∀ w, wayAt s b.val way = some w → fieldOf s (Reg.TILL_DUR_CFG 0) 31 0 = 0 ∨ since s w.dirtyAt ≤ us (fieldOf s (Reg.TILL_DUR_CFG 0) 31 0) ∨ rcDirty w.rc = false ∨ rcDurable w.rc = false)) :=
  ⟨3, 0, live, by intro w h; rw [show wayAt live (3 : Fin 4).val 0 = none from by decide +kernel] at h; cases h⟩
theorem test_w_Till_tfs1 : ∃ (b : Fin 4) (v : Word32) (s : State), barOpen s = true ∧ v.getLsbD 0 = true ∧ (s.ledgerAt b.val).flush = none :=
  ⟨3, (1#32), live, by decide +kernel⟩
theorem test_w_Till_tfs2 : ∃ (b : Fin 4) (v : Word32) (s : State), barOpen s = true ∧ (v.getLsbD 0 = false ∨ (s.ledgerAt b.val).flush ≠ none) :=
  ⟨3, (2#32), live, by decide +kernel⟩
theorem test_w_Till_tfd1 : ∃ (b : Fin 4) (k : Nat) (w : Way) (s : State), (s.ledgerAt b.val).flush ≠ none ∧ flushLeft (s.ledgerAt b.val) = [k] ∧ wayAt s b.val k = some w ∧ rcDirty w.rc = true :=
  ⟨3, 0, ({ rc := setW0 (setW0 (setW0 Rec.empty 35 32 2) 24 24 1) 22 22 1, slot := 2, inst := 4 }), ({ live with ledger := [(3, { ways := [(0, { rc := setW0 (setW0 (setW0 Rec.empty 35 32 2) 24 24 1) 22 22 1, slot := 2, inst := 4 })], flush := some [(0, 4)] })] }), by decide +kernel⟩
theorem test_w_Till_tfd2 : ∃ (b : Fin 4) (s : State), (s.ledgerAt b.val).flush = none :=
  ⟨3, live, by decide +kernel⟩
theorem test_w_Till_tfd3 : ∃ (b : Fin 4) (s : State), (s.ledgerAt b.val).flush ≠ none ∧ flushLeft (s.ledgerAt b.val) = [] :=
  ⟨3, ({ live with ledger := [(3, { ways := [], flush := some [] })] }), by decide +kernel⟩
theorem test_w_Till_tla1 : ∃ (b : Fin 4) (way : Nat) (t : Nat) (w : Way) (s : State), wayAt s b.val way = some w ∧ w.owner = some t ∧ w.alarmed = false ∧ fieldOf s (Reg.TILL_LOCK_ALARM 0) 31 0 ≠ 0 ∧ us (fieldOf s (Reg.TILL_LOCK_ALARM 0) 31 0) < since s w.lockTick :=
  ⟨3, 0, 5, ({ rc := setW0 (setW0 Rec.empty 35 32 2) 25 25 1, slot := 2, owner := some 5 }), (regStore (Reg.TILL_LOCK_ALARM 0) 1#32 ({ live with ledger := [(3, { ways := [(0, { rc := setW0 (setW0 Rec.empty 35 32 2) 25 25 1, slot := 2, owner := some 5 })] })] })), by decide +kernel⟩
theorem test_w_Till_tla2 : ∃ (b : Fin 4) (way : Nat) (s : State), ((∀ w, wayAt s b.val way = some w → w.owner = none ∨ w.alarmed = true ∨ fieldOf s (Reg.TILL_LOCK_ALARM 0) 31 0 = 0 ∨ since s w.lockTick ≤ us (fieldOf s (Reg.TILL_LOCK_ALARM 0) 31 0))) :=
  ⟨3, 0, live, by intro w h; rw [show wayAt live (3 : Fin 4).val 0 = none from by decide +kernel] at h; cases h⟩
theorem test_w_Till_thb : ∃ (b : Fin 4) (s : State), (barOpen s = false ∨ (s.ledgerAt b.val).hreq.busy = true ∨ s.loader.st ≠ .run) :=
  ⟨3, (at_ .load), by decide +kernel⟩
theorem test_w_Till_tho1 : ∃ (b : Fin 4) (k : Nat) (w : Way) (s : State), barOpen s = true ∧ (s.ledgerAt b.val).hreq.busy = false ∧ s.loader.st = .run ∧ homeOf (stagedHash s b.val) = b.val ∧ domOn s (13 + b.val) = true ∧ probe s b.val (stagedHash s b.val) (recKey (stagedRec s b.val)) = some k ∧ wayAt s b.val k = some w ∧ rcDead w.rc = false ∧ ((rcExpired s w.rc (ledgerNow s) = false ∨ rcLock w.rc = true)) :=
  ⟨1, 331536, ({ rc := setW0 Rec.empty 35 32 2, slot := 2 }), ({ live with ledger := [(1, { ways := [(331536, { rc := setW0 Rec.empty 35 32 2, slot := 2 })] })], vault := { regions := [{ base := 0, size := 256 }, { base := 256, size := 256 }], ftRegion := 1, ftLog2 := 3, chans := (List.range 8).map fun c => (c, { st := .service }) } }), by decide +kernel⟩
theorem test_w_Till_tho5 : ∃ (b : Fin 4) (k : Nat) (w : Way) (s : State), barOpen s = true ∧ (s.ledgerAt b.val).hreq.busy = false ∧ s.loader.st = .run ∧ homeOf (stagedHash s b.val) = b.val ∧ domOn s (13 + b.val) = true ∧ probe s b.val (stagedHash s b.val) (recKey (stagedRec s b.val)) = some k ∧ wayAt s b.val k = some w ∧ rcDead w.rc = false ∧ ((rcExpired s w.rc (ledgerNow s) = false ∨ rcLock w.rc = true)) ∧ rcDirty w.rc = true :=
  ⟨1, 331536, ({ rc := setW0 (setW0 Rec.empty 35 32 2) 24 24 1, slot := 2 }), ({ live with ledger := [(1, { ways := [(331536, { rc := setW0 (setW0 Rec.empty 35 32 2) 24 24 1, slot := 2 })] })], vault := { regions := [{ base := 0, size := 256 }, { base := 256, size := 256 }], ftRegion := 1, ftLog2 := 3, chans := (List.range 8).map fun c => (c, { st := .service }) } }), by decide +kernel⟩
theorem test_w_Till_tho4 : ∃ (b : Fin 4) (k : Nat) (w : Way) (s : State), barOpen s = true ∧ (s.ledgerAt b.val).hreq.busy = false ∧ s.loader.st = .run ∧ homeOf (stagedHash s b.val) = b.val ∧ domOn s (13 + b.val) = true ∧ probe s b.val (stagedHash s b.val) (recKey (stagedRec s b.val)) = some k ∧ wayAt s b.val k = some w ∧ rcDead w.rc = false ∧ rcExpired s w.rc (ledgerNow s) = false ∧ rcLock w.rc = false :=
  ⟨1, 331536, ({ rc := setW0 Rec.empty 35 32 2, slot := 2 }), ({ live with ledger := [(1, { ways := [(331536, { rc := setW0 Rec.empty 35 32 2, slot := 2 })] })], vault := { regions := [{ base := 0, size := 256 }, { base := 256, size := 256 }], ftRegion := 1, ftLog2 := 3, chans := (List.range 8).map fun c => (c, { st := .service }) } }), by decide +kernel⟩
theorem test_w_Till_tho2 : ∃ (b : Fin 4) (m : BitVec 16) (k : Nat) (w : Way) (s : State), barOpen s = true ∧ (s.ledgerAt b.val).hreq.busy = false ∧ s.loader.st = .run ∧ homeOf (stagedHash s b.val) = b.val ∧ domOn s (13 + b.val) = true ∧ probe s b.val (stagedHash s b.val) (recKey (stagedRec s b.val)) = some k ∧ wayAt s b.val k = some w ∧ rcDead w.rc = false ∧ rcExpired s w.rc (ledgerNow s) = false ∧ rcLock w.rc = false ∧ badWrite m.toNat (stagedRec s b.val) w.rc = false ∧ ((m.toNat.testBit 14 = false ∨ w.scans = 0)) ∧ ((m.toNat.testBit 0 = false ∨ rcState (stagedRec s b.val) ≠ 4)) :=
  ⟨1, (0x0002#16), 331536, ({ rc := setW0 Rec.empty 35 32 2, slot := 2 }), ({ live with ledger := [(1, { ways := [(331536, { rc := setW0 Rec.empty 35 32 2, slot := 2 })] })], vault := { regions := [{ base := 0, size := 256 }, { base := 256, size := 256 }], ftRegion := 1, ftLog2 := 3, chans := (List.range 8).map fun c => (c, { st := .service }) } }), by decide +kernel⟩
theorem test_w_Till_tho6 : ∃ (b : Fin 4) (r : Rec) (s : State), barOpen s = true ∧ (s.ledgerAt b.val).hreq.busy = false ∧ s.loader.st = .run ∧ s.vault.ftLog2 ≠ 0 ∧ fieldOf s (Reg.TILL_HREQ_SLOT b.val) 29 0 < 2 ^ s.vault.ftLog2 ∧ fieldOf s (Reg.TILL_HREQ_SLOT b.val) 29 0 / quarter s.vault = b.val ∧ (s.chanAt (chanOf s.vault (ftRecord s.vault (fieldOf s (Reg.TILL_HREQ_SLOT b.val) 29 0)))).merge.find? (·.record = ftRecord s.vault (fieldOf s (Reg.TILL_HREQ_SLOT b.val) 29 0)) = none ∧ peekRecord s (ftRecord s.vault (fieldOf s (Reg.TILL_HREQ_SLOT b.val) 29 0)) = .data r :=
  ⟨0, (Rec.empty), ({ live with vault := { regions := [{ base := 0, size := 256 }, { base := 256, size := 256 }], ftRegion := 1, ftLog2 := 3, chans := (List.range 8).map fun c => (c, { st := .service }) } }), by decide +kernel⟩
theorem test_w_Till_tho3 : ∃ (b : Fin 4) (k : Nat) (n : Nat) (w : Way) (s : State), barOpen s = true ∧ (s.ledgerAt b.val).hreq.busy = false ∧ s.loader.st = .run ∧ homeOf (stagedHash s b.val) = b.val ∧ domOn s (13 + b.val) = true ∧ probe s b.val (stagedHash s b.val) (recKey (stagedRec s b.val)) = some k ∧ wayAt s b.val k = some w ∧ rcDead w.rc = true ∧ rcState w.rc < 5 ∧ rcLock w.rc = false ∧ badCreate (stagedRec s b.val) = false ∧ w.claim = some n ∧ ((∀ j y, (j, y) ∈ (s.ledgerAt b.val).ways → j ≠ k → y.slot ≠ w.slot)) :=
  ⟨1, 331536, 3, ({ rc := setW0 Rec.empty 35 32 4, slot := 2, claim := some 3 }), (regStore (Reg.TILL_HREC_DATA 1 1) 1#32 ({ live with ledger := [(1, { ways := [(331536, { rc := setW0 Rec.empty 35 32 4, slot := 2, claim := some 3 })] })], vault := { regions := [{ base := 0, size := 256 }, { base := 256, size := 256 }], ftRegion := 1, ftLog2 := 3, chans := (List.range 8).map fun c => (c, { st := .service }) } })), by decide +kernel, by decide +kernel, by decide +kernel, by decide +kernel, by decide +kernel, by decide +kernel, by decide +kernel, by decide +kernel, by decide +kernel, by decide +kernel, by decide +kernel, by decide +kernel, by intro j y h hj; cases h with | head => exact absurd rfl hj | tail _ h => nomatch h⟩
theorem test_w_Till_thd1 : ∃ (b : Fin 4) (a : HostAnswer) (s : State), (s.ledgerAt b.val).hreq.done = some a ∧ ((∀ e ∈ (s.ledgerAt b.val).miss, ¬ (e.key = recKey (stagedRec s b.val) ∧ e.stage = .held))) :=
  ⟨3, (⟨0, 1, some 2, false, none, none⟩), ({ live with ledger := [(3, { ways := [], hreq := { busy := true, done := some ⟨0, 1, some 2, false, none, none⟩ } })] }), by decide +kernel, (fun _ h => nomatch h)⟩
theorem test_w_Till_thd2 : ∃ (b : Fin 4) (s : State), (s.ledgerAt b.val).hreq.done = none :=
  ⟨3, live, by decide +kernel⟩

end Sys2Proof.Tests
end

section
/-!
PROOFS. How a Teller executes a word whose units stay inside the Teller (R156): which word it executes and when, what each
unit leaves alone, and what stands in the registers and flags at the end of the step. ALU-A (R163) and ALU-B (R164) are
read off from there.
-/
namespace Sys2Proof.Machine

/-! ### General registers -/

theorem wordAt_withWord {n : Nat} (v : Vector Word64 n) (i j : Nat) (x : Word64) :
    wordAt (withWord v i x) j = if i = j ∧ j < n then x else wordAt v j := by
  unfold wordAt withWord
  rw [Vector.toList_setIfInBounds, List.getD_eq_getElem?_getD, List.getD_eq_getElem?_getD, List.getElem?_set, Vector.length_toList]
  by_cases hij : i = j
  · subst hij
    by_cases hi : i < n <;> simp [hi]
  · simp [hij]

/-- The registers with every result of a word written, as `commit` writes them. -/
def writeResults (g : Vector Word64 32) (res : List (Nat × Word64)) : Vector Word64 32 :=
  res.foldl (fun g p => withWord g p.1 p.2) g

theorem wordAt_writeResults_of_notMem (res : List (Nat × Word64)) (g : Vector Word64 32) (r : Nat)
    (hr : r ∉ res.map Prod.fst) : wordAt (writeResults g res) r = wordAt g r := by
  induction res generalizing g with
  | nil => rfl
  | cons p res ih =>
    simp only [List.map_cons, List.mem_cons, not_or] at hr
    obtain ⟨hp, hres⟩ := hr
    calc wordAt (writeResults g (p :: res)) r
        = wordAt (withWord g p.1 p.2) r := ih _ hres
      _ = wordAt g r := by rw [wordAt_withWord, if_neg fun h => hp h.1.symm]

theorem wordAt_writeResults_of_mem (res : List (Nat × Word64)) (g : Vector Word64 32) (r : Nat) (v : Word64) (hlt : r < 32)
    (hnd : (res.map Prod.fst).Nodup) (hmem : (r, v) ∈ res) : wordAt (writeResults g res) r = v := by
  induction res generalizing g with
  | nil => cases hmem
  | cons p res ih =>
    rw [List.map_cons, List.nodup_cons] at hnd
    obtain ⟨hp, hnd⟩ := hnd
    rcases List.mem_cons.1 hmem with rfl | hmem
    · calc wordAt (writeResults g ((r, v) :: res)) r
          = wordAt (withWord g r v) r := wordAt_writeResults_of_notMem res _ r hp
        _ = v := by rw [wordAt_withWord, if_pos ⟨rfl, hlt⟩]
    · exact ih _ hnd hmem

/-! ### Fields -/

theorem mwBits_lt (w : MicroWord) (hi lo : Nat) : mwBits w hi lo < 2 ^ (hi + 1 - lo) := BitVec.isLt _

theorem mwAd_lt (w : MicroWord) : mwAd w < 32 := mwBits_lt w 117 113

theorem mwBd_lt (w : MicroWord) : mwBd w < 32 := mwBits_lt w 102 98

theorem aluAWrites_eq_nil_iff (w : MicroWord) : aluAWrites w = [] ↔ mwAop w = 0 ∨ mwAop w = 0x11 ∨ mwAop w = 0x12 := by
  unfold aluAWrites
  split <;> simp_all

/-! ### The checks of a word -/

theorem nodup_of_not_hasTwice (l : List Nat) (h : hasTwice l = false) : l.Nodup := by
  induction l with
  | nil => exact List.nodup_nil
  | cons r rs ih =>
    simp only [hasTwice, Bool.or_eq_false_iff, List.contains_eq_mem, decide_eq_false_iff_not] at h
    obtain ⟨hr, hrs⟩ := h
    exact List.nodup_cons.2 ⟨hr, ih hrs⟩

/-- A word that breaks no rule by its fields writes no register twice (R157). -/
theorem regWrites_nodup_of_fieldDetails (w : MicroWord) (h : fieldDetails w = []) : (regWrites w).Nodup := by
  refine nodup_of_not_hasTwice _ (Bool.eq_false_iff.2 fun htwice => ?_)
  simp [fieldDetails, htwice] at h

theorem fieldDetails_of_wordGate_go {s : State} {b t : Nat} {x : Teller} {w : MicroWord} (h : wordGate s b t x w = .go) :
    fieldDetails w = [] := by
  unfold wordGate at h
  split at h
  · cases h
  · assumption

theorem foldl_min_le (ds : List Nat) (d : Nat) : ds.foldl min d ≤ d := by
  induction ds generalizing d with
  | nil => exact Nat.le_refl d
  | cons e ds ih => exact (ih (min d e)).trans (Nat.min_le_left d e)

theorem foldl_min_le_of_mem (ds : List Nat) (d k : Nat) (h : k ∈ d :: ds) : ds.foldl min d ≤ k := by
  induction ds generalizing d with
  | nil => exact (List.mem_singleton.1 h).ge
  | cons e ds ih =>
    rcases List.mem_cons.1 h with rfl | h
    · exact foldl_min_le (e :: ds) k
    · rcases List.mem_cons.1 h with rfl | h
      · exact (foldl_min_le ds (min d k)).trans (Nat.min_le_right d k)
      · exact ih (min d e) (List.mem_cons_of_mem _ h)

/-- A word that breaks a rule by its fields is illegal, and DETAIL is at most the rule's code (R155, Table 7.15). -/
theorem wordGate_illegal_of_mem_fieldDetails (s : State) (b t : Nat) (x : Teller) (w : MicroWord) (k : Nat)
    (hk : k ∈ fieldDetails w) : ∃ n, wordGate s b t x w = .illegal n ∧ n ≤ k := by
  unfold wordGate
  split
  next d ds hds => exact ⟨_, rfl, foldl_min_le_of_mem ds d k (hds ▸ hk)⟩
  next hnil => rw [hnil] at hk; cases hk

theorem mem_fieldDetails_of_reservedField (w : MicroWord) (h : reservedField w = true) : 0x04 ∈ fieldDetails w := by
  simp [fieldDetails, h]

/-! ### The word that is executed -/

theorem dueTrap_eq_none_of_wordGoes {s : State} {t : Nat} (h : wordGoes s t = true) :
    dueTrap s t (s.tellerAt t) (theWord s t) = none := by
  simp only [wordGoes, Bool.and_eq_true, Option.isNone_iff_eq_none] at h
  obtain ⟨⟨⟨-, htrap⟩, -⟩, -⟩ := h
  exact htrap

theorem wordGate_of_wordGoes {s : State} {t : Nat} (h : wordGoes s t = true) :
    wordGate s (t / 32) t (s.tellerAt t) (theWord s t) = .go := by
  simp only [wordGoes, Bool.and_eq_true] at h
  obtain ⟨-, hgate⟩ := h
  split at hgate
  · assumption
  · cases hgate

theorem regWrites_nodup_of_wordGoes {s : State} {t : Nat} (h : wordGoes s t = true) : (regWrites (theWord s t)).Nodup :=
  regWrites_nodup_of_fieldDetails _ (fieldDetails_of_wordGate_go (wordGate_of_wordGoes h))

/-- A read of a control-store word that is found clean changes nothing (R154). -/
theorem csEvent_clean (d addr : Nat) (s : State) : csEvent d addr .clean s = s := rfl

/-- A Teller whose word goes passes it, fetched clean, to its units (R156). -/
theorem wordStep_of_wordGoes {s : State} {t : Nat} (h : wordGoes s t = true) :
    wordStep t .clean s = runWord (t / 32) t (theWord s t) s := by
  have htrap := dueTrap_eq_none_of_wordGoes h
  have hgate := wordGate_of_wordGoes h
  simp only [wordGoes, Bool.and_eq_true, beq_iff_eq, Bool.not_eq_true'] at h
  obtain ⟨⟨⟨hrun, -⟩, hbrk⟩, -⟩ := h
  rw [theWord] at htrap hgate
  simp [wordStep, hrun, htrap, csEvent_clean, noPage, hbrk, hgate, theWord]

/-- The units of a plain word: the record window is idle or loads, the packet unit orders nothing outside the Teller, the Dispatcher
unit is idle, and SEQ stays within the routine. -/
theorem plainUnits_iff (w : MicroWord) :
    plainUnits w = true ↔ mwFop w ≤ 1 ∧ mwQop w ∉ [4, 7, 9, 10, 12] ∧ mwXop w = 0 ∧ mwSeq w < 0xC := by
  simp [plainUnits, and_assoc]

/-- A plain word waits for no unit (R44, R166, R235). -/
theorem runWord_of_plainUnits {w : MicroWord} (h : plainUnits w = true) (b t : Nat) (s : State) :
    runWord b t w s = execWord b t w s := by
  obtain ⟨hf, hq, -, hseq⟩ := (plainUnits_iff w).1 h
  have hf8 : mwFop w ≠ 8 := by omega
  have hseqC : mwSeq w ≠ 0xC := by omega
  simp only [List.mem_cons, List.not_mem_nil, or_false, not_or] at hq
  simp [runWord, appliesVerdict, hf8, hseqC, hq]

/-! ### What the units of a plain word leave alone -/

/-- The registers, the flags and the window of a Teller. -/
def Teller.held (y : Teller) := (y.g, y.z, y.n, y.c, y.s, y.win)

/-- The step from s to u stays inside Teller t as word w allows: it leaves S and the window, every other Teller, and of the rest
of the machine all but registers and, with a memory operation, the Coffer. -/
structure StaysInside (w : MicroWord) (t : Nat) (s u : State) : Prop where
  others : ∀ q, q ≠ t → u.tellerAt q = s.tellerAt q
  sFlag : (u.tellerAt t).s = (s.tellerAt t).s
  window : (u.tellerAt t).win = (s.tellerAt t).win
  rest : u = { s with tellers := u.tellers, regs := u.regs, coffer := u.coffer }
  coffer : mwMop w = 0 → u.coffer = s.coffer

/-- The step from s to u stays inside Teller t and leaves its registers and flags as well. -/
structure UnitKeeps (w : MicroWord) (t : Nat) (s u : State) : Prop extends StaysInside w t s u where
  held : (u.tellerAt t).held = (s.tellerAt t).held

section
variable {w : MicroWord} {t : Nat} {s u v : State}

theorem StaysInside.trans (h : StaysInside w t s u) (k : StaysInside w t u v) : StaysInside w t s v where
  others q hq := (k.others q hq).trans (h.others q hq)
  sFlag := k.sFlag.trans h.sFlag
  window := k.window.trans h.window
  rest := k.rest.trans (congrArg (fun x : State => { x with tellers := v.tellers, regs := v.regs, coffer := v.coffer }) h.rest)
  coffer hm := (k.coffer hm).trans (h.coffer hm)

theorem UnitKeeps.trans (h : UnitKeeps w t s u) (k : UnitKeeps w t u v) : UnitKeeps w t s v :=
  ⟨h.toStaysInside.trans k.toStaysInside, k.held.trans h.held⟩

theorem UnitKeeps.refl (w : MicroWord) (t : Nat) (s : State) : UnitKeeps w t s s :=
  ⟨⟨fun _ _ => rfl, rfl, rfl, rfl, fun _ => rfl⟩, rfl⟩

/-- A step that changes stored registers only. -/
theorem UnitKeeps.of_regs (h : u = { s with regs := u.regs }) : UnitKeeps w t s u := by
  have htellers : ∀ q, u.tellerAt q = s.tellerAt q := fun q => by rw [h]; rfl
  refine ⟨⟨fun q _ => htellers q, by rw [htellers], by rw [htellers], ?_, fun _ => by rw [h]⟩, by rw [htellers]⟩
  rw [h]

/-- A step that changes of Teller t neither registers nor flags nor window. -/
theorem UnitKeeps.modTeller {f : Teller → Teller} (h : (f (s.tellerAt t)).held = (s.tellerAt t).held) :
    UnitKeeps w t s (s.modTeller t f) where
  others q hq := by rw [State.tellerAt_modTeller, if_neg fun e => hq e.symm]
  sFlag := by rw [State.tellerAt_modTeller_same]; exact congrArg (·.2.2.2.2.1) h
  window := by rw [State.tellerAt_modTeller_same]; exact congrArg (·.2.2.2.2.2) h
  rest := rfl
  coffer _ := rfl
  held := by rw [State.tellerAt_modTeller_same, h]

/-- A step of a memory operation that changes the Coffer only. -/
theorem UnitKeeps.of_coffer {c : Coffer} (hm : mwMop w ≠ 0) : UnitKeeps w t s { s with coffer := c } :=
  ⟨⟨fun _ _ => rfl, rfl, rfl, rfl, fun h => absurd h hm⟩, rfl⟩

end

theorem perf_keeps (w : MicroWord) (t u code : Nat) (s : State) : UnitKeeps w t s (perf u code s) := .of_regs (perf_frame ..)

theorem bump_keeps (w : MicroWord) (t off : Nat) (s : State) : UnitKeeps w t s (bump off s) := .of_regs (bump_frame ..)

theorem setPair_keeps (w : MicroWord) (t off v : Nat) (s : State) : UnitKeeps w t s (setPair off v s) := .of_regs (setPair_frame ..)

theorem queueOp_keeps (w : MicroWord) (t : Nat) (m : MemOp) (s : State) : UnitKeeps w t s (queueOp t m s) := .modTeller rfl

theorem sieveLookup_keeps (w : MicroWord) (t b : Nat) (kv : KeyVec) (tpl gen : Nat) (s : State) :
    UnitKeeps w t s (sieveLookup b kv tpl gen s).2.2 := by
  unfold sieveLookup
  dsimp only
  split
  · dsimp only
    split
    · exact (bump_keeps ..).trans (bump_keeps ..)
    · exact bump_keeps ..
  · exact (bump_keeps ..).trans (bump_keeps ..)

/-- KEYVEC and TRAPF stores change the key-vector copy or the newest trap frame (R168). -/
theorem localStore_keeps (t : Nat) (x : Teller) (w : MicroWord) (s : State) : UnitKeeps w t s (localStore t x w s) := by
  unfold localStore
  dsimp only
  split_ifs
  · exact .refl ..
  · exact .modTeller rfl
  · refine .modTeller ?_
    split <;> rfl
  · exact .refl ..

theorem mopEffect_keeps (b t : Nat) (x : Teller) (w : MicroWord) (s : State) : UnitKeeps w t s (mopEffect b t x w s) := by
  unfold mopEffect
  dsimp only
  split
  next => exact .refl ..
  next hm =>
    split
    · exact (queueOp_keeps ..).trans (perf_keeps ..)
    · exact (queueOp_keeps ..).trans (perf_keeps ..)
    · exact ((queueOp_keeps ..).trans (perf_keeps ..)).trans (.of_coffer hm)
    · exact (sieveLookup_keeps ..).trans (queueOp_keeps ..)
    · exact localStore_keeps ..

theorem copEffect_keeps (t : Nat) (x : Teller) (w : MicroWord) (s : State) : UnitKeeps w t s (copEffect t x w s) := by
  unfold copEffect
  dsimp only
  split
  case h_4 => exact .refl ..
  all_goals exact setPair_keeps ..

theorem fopEffect_of_plainUnits {w : MicroWord} (h : plainUnits w = true) (b t : Nat) (x : Teller) (s : State) :
    fopEffect b t x w s = s := by
  obtain ⟨hf, -, -, -⟩ := (plainUnits_iff w).1 h
  have hstores : fopStores (mwFop w) = false := by simp [fopStores]; omega
  unfold fopEffect
  dsimp only
  rw [if_neg (by omega), if_neg (by omega), hstores]
  split
  · rfl
  · rw [if_neg (by decide), if_neg (by omega), if_neg (by omega)]

/-- The packet unit of a plain word only notes the verdict (R171). -/
theorem qopEffect_of_plainUnits {w : MicroWord} (h : plainUnits w = true) (b t : Nat) (x : Teller) (s : State) :
    qopEffect b t x w s = (none, s.modTeller t fun y => { y with ctx := { y.ctx with verdict := nextVerdict x w } }) := by
  obtain ⟨-, hq, -, -⟩ := (plainUnits_iff w).1 h
  simp only [List.mem_cons, List.not_mem_nil, or_false, not_or] at hq
  unfold qopEffect
  dsimp only
  split
  case h_5 => rfl
  all_goals simp_all

theorem qopEffect_keeps {w : MicroWord} (h : plainUnits w = true) (b t : Nat) (x : Teller) (s : State) :
    UnitKeeps w t s (qopEffect b t x w s).2 := by
  rw [qopEffect_of_plainUnits h]
  dsimp only
  exact .modTeller rfl

theorem xopEffect_of_plainUnits {w : MicroWord} (h : plainUnits w = true) (b t : Nat) (x : Teller) (s : State) :
    xopEffect b t x w s = (none, s) := by
  obtain ⟨-, -, hx, -⟩ := (plainUnits_iff w).1 h
  simp [xopEffect, hx]

theorem seqEffect_keeps {w : MicroWord} (h : plainUnits w = true) (b t : Nat) (x : Teller) (cond : Bool) (s : State) :
    UnitKeeps w t s (seqEffect b t x w cond s) := by
  obtain ⟨-, -, -, hseq⟩ := (plainUnits_iff w).1 h
  unfold seqEffect
  dsimp only
  split
  case h_13 | h_14 | h_15 => omega
  case h_16 => simp only [imp_false] at *; omega
  case h_6 | h_8 | h_9 => split <;> exact .modTeller rfl
  all_goals exact .modTeller rfl

/-! ### The end of the step -/

/-- The registers, flags and window that `commit` leaves to the Teller whose word had the results res and the value sv of S: x is the
Teller before the word, y as the word's units have left it (R156, R163). -/
def committed (b : Nat) (x : Teller) (w : MicroWord) (res : List (Nat × Word64)) (sv : Option Bool) (s0 : State) (y : Teller) :=
  let r := aluResult s0 b x w
  let f := aluFlags (mwAop w) r.1 r.2 x
  (writeResults y.g res, f.1, f.2.1, f.2.2, sv.getD y.s, y.win)

/-- The end of a step counts in registers and then writes the Teller. -/
theorem commit_eq (b t : Nat) (x : Teller) (w : MicroWord) (res : List (Nat × Word64)) (sv : Option Bool) (s0 s : State) :
    ∃ u f, UnitKeeps w t s u ∧ commit b t x w res sv s0 s = u.modTeller t f ∧ ∀ y, (f y).held = committed b x w res sv s0 y := by
  unfold commit committed
  generalize aluResult s0 b x w = r
  obtain ⟨d, c⟩ := r
  dsimp only
  generalize aluFlags (mwAop w) d c x = f
  obtain ⟨z, n, c⟩ := f
  generalize holdAfter x w = k
  obtain ⟨hold, full, extra⟩ := k
  refine ⟨_, _, ?_, rfl, fun y => rfl⟩
  have hcount : UnitKeeps w t s (s |> bump64 (Reg.TELL_STEP_CNT_LO (deskOf t)) 1 |> perf (uDesk (deskOf t)) 0x01) :=
    (UnitKeeps.of_regs (bump64_frame ..)).trans (perf_keeps ..)
  split
  · exact (hcount.trans (bump_keeps ..)).trans (.of_regs (cause_frame ..))
  · exact hcount

theorem commit_held (b t : Nat) (x : Teller) (w : MicroWord) (res : List (Nat × Word64)) (sv : Option Bool) (s0 s : State) :
    ((commit b t x w res sv s0 s).tellerAt t).held = committed b x w res sv s0 (s.tellerAt t) := by
  obtain ⟨u, f, hu, heq, hf⟩ := commit_eq b t x w res sv s0 s
  have hheld := hu.held
  simp only [Teller.held, Prod.mk.injEq] at hheld
  obtain ⟨hg, -, -, -, hs, hwin⟩ := hheld
  rw [heq, State.tellerAt_modTeller_same, hf]
  simp only [committed, hg, hs, hwin]

/-- A word that no unit gives a value of S leaves S. -/
theorem commit_staysInside (b t : Nat) (x : Teller) (w : MicroWord) (res : List (Nat × Word64)) (s0 s : State) :
    StaysInside w t s (commit b t x w res none s0 s) := by
  have hheld := commit_held b t x w res none s0 s
  simp only [Teller.held, committed, Prod.mk.injEq] at hheld
  obtain ⟨-, -, -, -, hs, hwin⟩ := hheld
  obtain ⟨u, f, hu, heq, -⟩ := commit_eq b t x w res none s0 s
  refine hu.toStaysInside.trans ⟨fun q hq => ?_, ?_, ?_, by rw [heq]; rfl, fun _ => by rw [heq]; rfl⟩
  · rw [heq, State.tellerAt_modTeller, if_neg fun e => hq e.symm]
  · exact hs.trans hu.sFlag.symm
  · exact hwin.trans hu.window.symm

/-- A plain word's units act, its results are committed, and the sequencer leads on. -/
theorem execWord_of_plainUnits {w : MicroWord} (h : plainUnits w = true) (b t : Nat) (s : State) :
    ∃ m, UnitKeeps w t s m ∧
      UnitKeeps w t (commit b t (s.tellerAt t) w (wordResults s b t (s.tellerAt t) w) none s m) (execWord b t w s) := by
  obtain ⟨hf, hq, hx, -⟩ := (plainUnits_iff w).1 h
  have hf8 : mwFop w ≠ 8 := by omega
  have hq10 : mwQop w ≠ 0xA := by simp only [List.mem_cons] at hq; tauto
  refine ⟨copEffect t (s.tellerAt t) w (qopEffect b t (s.tellerAt t) w (mopEffect b t (s.tellerAt t) w s)).2, ?_, ?_⟩
  · exact ((mopEffect_keeps ..).trans (qopEffect_keeps h ..)).trans (copEffect_keeps ..)
  · simp only [execWord, hf8, hq10, hx, if_false, fopEffect_of_plainUnits h, qopEffect_of_plainUnits h, xopEffect_of_plainUnits h]
    exact seqEffect_keeps h ..

section
variable {w : MicroWord} (h : plainUnits w = true) (b t : Nat) (s : State)
include h

theorem execWord_staysInside : StaysInside w t s (execWord b t w s) := by
  obtain ⟨m, hm, hend⟩ := execWord_of_plainUnits h b t s
  exact (hm.toStaysInside.trans (commit_staysInside ..)).trans hend.toStaysInside

theorem execWord_held :
    ((execWord b t w s).tellerAt t).held =
      committed b (s.tellerAt t) w (wordResults s b t (s.tellerAt t) w) none s (s.tellerAt t) := by
  obtain ⟨m, hm, hend⟩ := execWord_of_plainUnits h b t s
  have hheld := hm.held
  simp only [Teller.held, Prod.mk.injEq] at hheld
  obtain ⟨hg, -, -, -, hs, hwin⟩ := hheld
  rw [hend.held, commit_held]
  simp only [committed, hg, hs, hwin]

theorem execWord_g :
    ((execWord b t w s).tellerAt t).g = writeResults (s.tellerAt t).g (wordResults s b t (s.tellerAt t) w) :=
  congrArg (·.1) (execWord_held h b t s)

theorem execWord_flags :
    let r := aluResult s b (s.tellerAt t) w
    let y := (execWord b t w s).tellerAt t
    (y.z, y.n, y.c) = aluFlags (mwAop w) r.1 r.2 (s.tellerAt t) :=
  congrArg (fun k => (k.2.1, k.2.2.1, k.2.2.2.1)) (execWord_held h b t s)

end

/-! ### The registers that a word writes -/

theorem map_fst_localLoad_sublist (x : Teller) (w : MicroWord) : ((localLoad x w).map Prod.fst).Sublist (memWrites w) := by
  unfold localLoad
  dsimp only
  split
  · exact List.nil_sublist _
  next hm =>
    rw [not_not] at hm
    have hw : memWrites w = [mwAd w] := by simp [memWrites, hm]
    rw [hw]
    repeat' split
    all_goals simp

theorem map_fst_wordResults (s : State) (b t : Nat) (x : Teller) (w : MicroWord) :
    (wordResults s b t x w).map Prod.fst = aluAWrites w ++ portBWrites w ++ (localLoad x w).map Prod.fst := by
  have halu : (if aluAWrites w = [] then [] else [(mwAd w, (aluResult s b x w).1)]).map Prod.fst = aluAWrites w := by
    unfold aluAWrites
    split <;> simp
  simp only [wordResults, portBWrites, List.map_append, halu, apply_ite (List.map Prod.fst), List.map_cons, List.map_nil,
    List.append_assoc]

/-- The results of a word go to registers that it writes, each to one of its own. -/
theorem map_fst_wordResults_subperm (s : State) (b t : Nat) (x : Teller) (w : MicroWord) :
    ((wordResults s b t x w).map Prod.fst).Subperm (regWrites w) := by
  rw [map_fst_wordResults, regWrites, List.append_assoc, List.append_assoc]
  exact (List.perm_append_comm.append_left _).subperm.trans
    (((map_fst_localLoad_sublist x w).append_right _).append_left _).subperm

theorem map_fst_wordResults_nodup (s : State) (b t : Nat) (x : Teller) (w : MicroWord) (h : (regWrites w).Nodup) :
    ((wordResults s b t x w).map Prod.fst).Nodup := by
  obtain ⟨l, hperm, hsub⟩ := map_fst_wordResults_subperm s b t x w
  exact hperm.nodup_iff.1 (h.sublist hsub)

section
variable {w : MicroWord} (h : plainUnits w = true) (b t : Nat) (s : State)
include h

/-- Each result of a word that writes no register twice stands in its register at the end of the step. -/
theorem gReg_execWord_of_mem (hnd : (regWrites w).Nodup) {r : Nat} {v : Word64} (hr : r < 32)
    (hmem : (r, v) ∈ wordResults s b t (s.tellerAt t) w) : gReg ((execWord b t w s).tellerAt t) r = v := by
  rw [gReg, execWord_g h]
  exact wordAt_writeResults_of_mem _ _ _ _ hr (map_fst_wordResults_nodup s b t _ w hnd) hmem

theorem gReg_execWord_of_notMem {r : Nat} (hr : r ∉ regWrites w) :
    gReg ((execWord b t w s).tellerAt t) r = gReg (s.tellerAt t) r := by
  rw [gReg, execWord_g h]
  exact wordAt_writeResults_of_notMem _ _ _ fun hmem => hr ((map_fst_wordResults_subperm ..).subset hmem)

/-- G[AD] takes the result of ALU-A, but for NOP, CMP and TST (R163). -/
theorem gReg_execWord_mwAd (hnd : (regWrites w).Nodup) (hop : ¬(mwAop w = 0 ∨ mwAop w = 0x11 ∨ mwAop w = 0x12)) :
    gReg ((execWord b t w s).tellerAt t) (mwAd w) = (aluResult s b (s.tellerAt t) w).1 := by
  refine gReg_execWord_of_mem h b t s hnd (mwAd_lt w) ?_
  rw [← aluAWrites_eq_nil_iff] at hop
  simp [wordResults, hop]

/-- G[BD] takes the result of ALU-B (R164). -/
theorem gReg_execWord_mwBd (hnd : (regWrites w).Nodup) (hop : mwBop w ≠ 0) :
    gReg ((execWord b t w s).tellerAt t) (mwBd w) =
      aluB (mwBop w) (srcB (s.tellerAt t) w) (gReg (s.tellerAt t) (mwBd w)) := by
  refine gReg_execWord_of_mem h b t s hnd (mwBd_lt w) ?_
  simp [wordResults, hop]

end

/-! ### Rows of plain words -/

section
variable {s : State} {t : Nat} (go : wordGoes s t = true) (plain : plainUnits (theWord s t) = true)
include plain

theorem wordFrame_execWord (b : Nat) : wordFrame s t (execWord b t (theWord s t) s) := by
  have hin := execWord_staysInside plain b t s
  refine ⟨hin.others, fun r _ => gReg_execWord_of_notMem plain b t s, hin.sFlag, hin.window, fun hop => ?_, hin.rest, fun hm => ?_⟩
  · have hflags := execWord_flags plain b t s
    simpa [hop, aluFlags] using hflags
  · have hrest := hin.rest
    rwa [hin.coffer hm] at hrest

include go

/-- The row of an operation that a plain word holds executes the word, when it goes (log entry 1). -/
theorem answers_of_wordGoes {c : Instr} {holds : MicroWord → Bool} {P : State → Prop}
    (hc : exec c s = .next (wordRow holds t .clean s)) (hop : holds (theWord s t) = true)
    (hP : P (execWord (t / 32) t (theWord s t) s)) : Answers c s P := by
  refine ⟨_, hc, ?_⟩
  rw [theWord] at hop
  rwa [wordRow, if_pos hop, wordStep_of_wordGoes go, runWord_of_plainUnits plain]

end

end Sys2Proof.Machine
end

section
/-!
PROOFS. The rows of ALU-A (Table 7.6, R163) and of ALU-B (Table 7.7, R164).
-/
namespace Sys2Proof.Machine

section
variable {s : State} {t : Nat} {c : Instr} {k : Nat} (go : wordGoes s t = true) (plain : plainUnits (theWord s t) = true)
include go plain

/-- The row of an ALU-A operation other than NOP sets Z, N and C from its result. -/
theorem aluATests_of_wordGoes {f : Word64 → Word64 → Word64 × Bool} (hop : mwAop (theWord s t) = k) (hk : k ≠ 0)
    (hc : exec c s = .next (wordRow (mwAop · == k) t .clean s)) (hf : ∀ a b old cond, aluA k a b old cond = f a b) :
    aluATests c s t f := by
  refine answers_of_wordGoes go plain hc (beq_iff_eq.2 hop) ?_
  have hflags := execWord_flags plain (t / 32) t s
  rw [aluResult, hop, hf] at hflags
  simp only [aluFlags, if_neg hk, Prod.mk.injEq] at hflags
  obtain ⟨hz, hn, hcarry⟩ := hflags
  exact ⟨hz, hn, hcarry, wordFrame_execWord plain _⟩

/-- The row of an ALU-A operation other than NOP, CMP and TST also writes G[AD]. -/
theorem aluADone_of_wordGoes {f : Word64 → Word64 → Word64 → Word64 × Bool} (hop : mwAop (theWord s t) = k)
    (hk : ¬(k = 0 ∨ k = 0x11 ∨ k = 0x12)) (hc : exec c s = .next (wordRow (mwAop · == k) t .clean s))
    (hf : ∀ a b old, aluA k a b old (condition s (t / 32) (s.tellerAt t) (theWord s t)) = f a b old) : aluADone c s t f := by
  refine answers_of_wordGoes go plain hc (beq_iff_eq.2 hop) ?_
  have hd := gReg_execWord_mwAd plain (t / 32) t s (regWrites_nodup_of_wordGoes go) (hop ▸ hk)
  have hflags := execWord_flags plain (t / 32) t s
  rw [aluResult, hop, hf] at hd hflags
  simp only [aluFlags, if_neg fun h0 => hk (.inl h0), Prod.mk.injEq] at hflags
  obtain ⟨hz, hn, hcarry⟩ := hflags
  exact ⟨hd, hz, hn, hcarry, wordFrame_execWord plain _⟩

/-- The row of an ALU-B operation other than NOP writes G[BD]. -/
theorem portBDone_of_mwBop {f : Word64 → Word64 → Word64} (hop : mwBop (theWord s t) = k) (hk : k ≠ 0)
    (hc : exec c s = .next (wordRow (mwBop · == k) t .clean s)) (hf : ∀ v old, aluB k v old = f v old) :
    portBDone c s t f := by
  refine answers_of_wordGoes go plain hc (beq_iff_eq.2 hop) ⟨?_, wordFrame_execWord plain _⟩
  rw [gReg_execWord_mwBd plain (t / 32) t s (regWrites_nodup_of_wordGoes go) (hop ▸ hk), hop, hf]

end

/-- A word with a reserved BOP is illegal, with DETAIL 4 or that of a rule before it (R155, Table 7.15). -/
theorem wordGate_illegal_of_mwBop (s : State) (b t : Nat) (x : Teller) (w : MicroWord) (h : 0x12 ≤ mwBop w) :
    ∃ n, wordGate s b t x w = .illegal n ∧ n ≤ 4 := by
  have hreserved : reservedField w = true := by simp [reservedField, h]
  exact wordGate_illegal_of_mem_fieldDetails s b t x w 4 (mem_fieldDetails_of_reservedField w hreserved)

/-- Settles O50: every clause speaks of the row of a plain word, and `aluA` gives the line of Table 7.6 for its operation; CMP and TST
(the clauses 17 and 18) write no register. -/
theorem aluAOperationsCompute : Obligations.AluAOperationsCompute := by
  unfold Obligations.AluAOperationsCompute
  and_intros <;> intro s t go plain hop
  on_goal 18 => exact aluATests_of_wordGoes go plain hop (by decide) rfl fun _ _ _ _ => rfl
  on_goal 17 => exact aluATests_of_wordGoes go plain hop (by decide) rfl fun _ _ _ _ => rfl
  all_goals exact aluADone_of_wordGoes go plain hop (by decide) rfl fun _ _ _ => rfl

/-- Settles O51: every clause but the last speaks of the row of a plain word, and `aluB` gives the line of Table 7.7 for its operation;
a word with a reserved BOP is illegal. -/
theorem aluBOperationsCompute : Obligations.AluBOperationsCompute := by
  unfold Obligations.AluBOperationsCompute
  and_intros
  on_goal 18 => exact wordGate_illegal_of_mwBop
  all_goals exact fun s t go plain hop => portBDone_of_mwBop go plain hop (by decide) rfl fun _ _ => rfl

end Sys2Proof.Machine
end

section
/-!
PROOFS. What a write to a policer leaves (R302, Table 12.6): the policer that TM_POL_CMD names, the result in TM_POL_STATUS,
and the rest of the state as it was.
-/
namespace Sys2Proof.Machine

/-! ### Policers and the stores of the traffic manager -/

@[simp] theorem policerAt_setPolicer_same (k : Nat) (x : Policer) (s : State) : policerAt (setPolicer k x s) k = x := Tbl.get_set_same ..

@[simp] theorem policerAt_regStore (o k : Nat) (v : Word32) (s : State) : policerAt (regStore o v s) k = policerAt s k := rfl

@[simp] theorem policerAt_setField (o hi lo x k : Nat) (s : State) : policerAt (setField o hi lo x s) k = policerAt s k := by
  rw [policerAt, setField_tm, policerAt]

@[simp] theorem refill_regStore (o : Nat) (v : Word32) (s : State) (x : Policer) : refill (regStore o v s) x = refill s x := rfl

/-! ### The policer that WRITE and REFILL leave -/

/-- Policer k with the data registers loaded: its tokens are brought up to now at the old rate and limited to the new burst, or
with fill set to the burst. -/
def policerWritten (k : Nat) (fill : Bool) (s : State) : Policer :=
  { refill s (policerAt s k) with
    cir := (regRead s Reg.TM_POL_CIR).toNat
    cbs := (regRead s Reg.TM_POL_CBS).toNat
    wire := flagOf s Reg.TM_POL_FLAGS 0
    tk := if fill then (((regRead s Reg.TM_POL_CBS).toNat * 65536 : Nat) : Int)
      else min (((regRead s Reg.TM_POL_CBS).toNat * 65536 : Nat) : Int) (refill s (policerAt s k)).tk }

theorem polWrite_eq_setPolicer (cmd : Nat) (fill : Bool) (s : State) :
    polWrite cmd fill s = setPolicer (polKey cmd) (policerWritten (polKey cmd) fill s) s := rfl

/-- TM_POL_CMD is none of the data registers, so its own store does not show in what is loaded. -/
theorem policerWritten_regStore_cmd (k : Nat) (fill : Bool) (v : Word32) (s : State) :
    policerWritten k fill (regStore Reg.TM_POL_CMD v s) = policerWritten k fill s := by
  have hcir := regRead_store_ne Reg.TM_POL_CMD Reg.TM_POL_CIR v s (by decide)
  have hcbs := regRead_store_ne Reg.TM_POL_CMD Reg.TM_POL_CBS v s (by decide)
  have hflags := regRead_store_ne Reg.TM_POL_CMD Reg.TM_POL_FLAGS v s (by decide)
  simp only [policerWritten, flagOf, hcir, hcbs, hflags, refill_regStore, policerAt_regStore]

/-! ### WRITE and REFILL through TM_POL_CMD -/

/-- OP of a policer write: 4 REFILL, 1 WRITE (Table 12.6). -/
def polWriteOp (fill : Bool) : Nat := if fill then 4 else 1

theorem polRow_write {fill : Bool} {cmd : Word32} {s : State} (hop : bits cmd.toNat 3 0 = polWriteOp fill) (bar : barOpen s = true) :
    polRow (polWriteOp fill) cmd s = setField Reg.TM_POL_STATUS 1 0 0
      (setPolicer (polKey cmd.toNat) (policerWritten (polKey cmd.toNat) fill s) (regStore Reg.TM_POL_CMD (cmd &&& 0xFFFF0300#32) s)) := by
  rw [polRow, if_pos hop, gated, if_pos bar, ← policerWritten_regStore_cmd _ _ (cmd &&& 0xFFFF0300#32), ← polWrite_eq_setPolicer]
  cases fill <;> simp only [polCommand, hop, polWriteOp, if_true, Bool.false_eq_true, if_false]

/-- A policer write leaves the named policer loaded and RESULT OK, and beside registers and the traffic manager changes nothing. -/
theorem answers_of_polWrite {c : Instr} {fill : Bool} {cmd : Word32} {s : State} {P : State → Prop}
    (hop : bits cmd.toNat 3 0 = polWriteOp fill) (bar : barOpen s = true) (hc : exec c s = .next (polRow (polWriteOp fill) cmd s))
    (hP : ∀ t, policerAt t (polKey cmd.toNat) = policerWritten (polKey cmd.toNat) fill s → fieldOf t Reg.TM_POL_STATUS 1 0 = 0 →
      t = { s with regs := t.regs, tm := t.tm } → P t) : Answers c s P := by
  refine ⟨_, hc, hP _ ?_ ?_ ?_⟩ <;> rw [polRow_write hop bar]
  · rw [policerAt_setField, policerAt_setPolicer_same]
  · exact fieldOf_setField_same _ _ _ _ _ (by decide) (by decide)
  · rfl

/-- Settles O44: WRITE and REFILL are the two cases of one policer write. -/
theorem policerWritesKeepTheTokens : Obligations.PolicerWritesKeepTheTokens := by
  unfold Obligations.PolicerWritesKeepTheTokens
  constructor <;> intro s cmd hop bar
  case left =>
    exact answers_of_polWrite (fill := false) hop bar rfl fun t written ok frame => ⟨written, ok, frame⟩
  case right =>
    refine answers_of_polWrite (fill := true) hop bar rfl fun t written ok frame => ?_
    rw [written]
    exact ⟨rfl, rfl, rfl, ok, frame⟩

end Sys2Proof.Machine
end

section
/-!
PROOFS. What the JTAG instruction IDCODE reads out (R492), and that it changes nothing but the pins' state.
-/
namespace Sys2Proof.Machine

/-! ### The TAP with TRST_N high -/

theorem tap_high (f : State → State) (s : State) : tap true f s = f { s with pins := { s.pins with trstLow := false } } := rfl

@[simp] theorem jtagLoad_jtagIr (ir : Nat) (drive : Bool) (out : Nat) (s : State) : (jtagLoad ir drive out s).pins.jtagIr = ir := rfl

@[simp] theorem jtagLoad_jtagDrive (ir : Nat) (drive : Bool) (out : Nat) (s : State) : (jtagLoad ir drive out s).pins.jtagDrive = drive := rfl

@[simp] theorem jtagLoad_jtagOut (ir : Nat) (drive : Bool) (out : Nat) (s : State) : (jtagLoad ir drive out s).pins.jtagOut = out := rfl

/-- Loading a JTAG instruction changes nothing but the pins. -/
theorem jtagLoad_frame (ir : Nat) (drive : Bool) (out : Nat) (s : State) :
    jtagLoad ir drive out s = { s with pins := (jtagLoad ir drive out s).pins } := rfl

/-! ### IDCODE -/

/-- With TRST_N high, IDCODE is loaded with the device's number to be read out. -/
theorem exec_jtagIdcode_high (s : State) : exec (.jtagIdcode true) s =
    .next (jtagLoad IR_IDCODE false 0x132406BB { s with pins := { s.pins with trstLow := false } }) :=
  congrArg Host.Outcome.next (tap_high _ s)

/-- The IDCODE register's word of a version, part number and manufacturer, over bit 0 at 1 (R492). -/
def idcodeWord (version part manufacturer : Nat) : Nat := version * 2 ^ 28 + part * 2 ^ 12 + manufacturer * 2 + 1

section
variable {version part manufacturer : Nat}

theorem idcodeWord_version (hp : part < 2 ^ 16) (hm : manufacturer < 2 ^ 11) :
    idcodeWord version part manufacturer / 2 ^ 28 = version := by
  unfold idcodeWord
  omega

theorem idcodeWord_part (hp : part < 2 ^ 16) (hm : manufacturer < 2 ^ 11) :
    idcodeWord version part manufacturer / 2 ^ 12 % 2 ^ 16 = part := by
  unfold idcodeWord
  omega

theorem idcodeWord_manufacturer (hm : manufacturer < 2 ^ 11) :
    idcodeWord version part manufacturer / 2 % 2 ^ 11 = manufacturer := by
  unfold idcodeWord
  omega

theorem idcodeWord_bit0 : idcodeWord version part manufacturer % 2 = 1 := by
  unfold idcodeWord
  omega

end

/-- The number that the device shifts out is the word of its version, part number and manufacturer. -/
theorem idcode_eq_idcodeWord : 0x132406BB = idcodeWord 1 0x3240 0x35D := rfl

/-- Settles O21: the row loads the device's number, which `idcodeWord` takes apart into its fields, and `jtagLoad` touches the pins
alone. -/
theorem jtagIdcodeNamesTheDevice : Obligations.JtagIdcodeNamesTheDevice := by
  unfold Obligations.JtagIdcodeNamesTheDevice
  intro s
  refine ⟨_, exec_jtagIdcode_high s, jtagLoad_jtagOut .., ?_, ?_, ?_, ?_, jtagLoad_jtagIr .., jtagLoad_jtagDrive .., jtagLoad_frame ..⟩ <;>
    rw [jtagLoad_jtagOut, idcode_eq_idcodeWord]
  · exact idcodeWord_version (by decide) (by decide)
  · exact idcodeWord_part (by decide) (by decide)
  · exact idcodeWord_manufacturer (by decide)
  · exact idcodeWord_bit0

end Sys2Proof.Machine
end


section
/-!
PROOFS. The rules over all commands: what a step does to the queue, the tick and the fuses (R431, R432, R446), and which parts of the
state whole families of commands leave alone.
-/
namespace Sys2Proof.Machine

/-! ### What each command leaves alone -/

/-- A command that programs no fuses leaves the fuses, the queue and the tick as they were. -/
theorem exec_held {c : Instr} {s t : State} (hc : programsFuses c = false) (h : exec c s = .next t) : t.held = s.held := by
  cases c with
  | registerWrite => exact execRegisterWrite_held h
  | rcRead => exact State.held_of (execRcRead_kept h)
  | unsupportedRequest => exact State.held_of (execUnsupportedRequest_kept h)
  | paceUpdate => exact State.held_of (execPaceUpdate_kept h)
  | frameRxStart => exact State.held_of (execFrameRxStart_kept h)
  | mintRound => exact State.held_of (execMintRound_kept h)
  | frameRxTail => exact State.held_of (execFrameRxTail_kept h)
  | macControlFrame => exact State.held_of (execMacControlFrame_kept h)
  | assayAdmit => exact State.held_of (execAssayAdmit_kept h)
  | parsePass => exact State.held_of (execParsePass_kept h)
  | xchHoldRelease => exact State.held_of (execXchHoldRelease_kept h)
  | xchStallInterval => exact State.held_of (execXchStallInterval_kept h)
  | recircPlaceFreed => exact State.held_of (execRecircPlaceFreed_kept h)
  | tillProbe => exact State.held_of (execTillProbe_kept h)
  | candidateReadDone => exact State.held_of (execCandidateReadDone_kept h)
  | fillRetry => exact State.held_of (execFillRetry_kept h)
  | occLimitWrite => exact State.held_of (execOccLimitWrite_kept h)
  | setupBurstWrite => exact State.held_of (execSetupBurstWrite_kept h)
  | missTimeout => exact State.held_of (execMissTimeout_kept h)
  | durableDirtyExpiry => exact State.held_of (execDurableDirtyExpiry_kept h)
  | tillFlushStart => exact State.held_of (execTillFlushStart_kept h)
  | tillFlushDone => exact State.held_of (execTillFlushDone_kept h)
  | lockWaitTimeout => exact State.held_of (execLockWaitTimeout_kept h)
  | lockAlarm => exact State.held_of (execLockAlarm_kept h)
  | tillLookup => exact State.held_of (execTillLookup_kept h)
  | tillWrite => exact State.held_of (execTillWrite_kept h)
  | tillCreate => exact State.held_of (execTillCreate_kept h)
  | tillDelete => exact State.held_of (execTillDelete_kept h)
  | tillFlush => exact State.held_of (execTillFlush_kept h)
  | tillReadSlot => exact State.held_of (execTillReadSlot_kept h)
  | hreqDone => exact State.held_of (execHreqDone_kept h)
  | sieveWrite => exact State.held_of (execSieveWrite_kept h)
  | sieveInsert => exact State.held_of (execSieveInsert_kept h)
  | sieveFind => exact State.held_of (execSieveFind_kept h)
  | sieveInvalidate => exact State.held_of (execSieveInvalidate_kept h)
  | sieveSetEm => exact State.held_of (execSieveSetEm_kept h)
  | sieveRead => exact State.held_of (execSieveRead_kept h)
  | sieveOpDone => exact State.held_of (execSieveOpDone_kept h)
  | accordSwap => exact State.held_of (execAccordSwap_kept h)
  | accordTSwap => exact State.held_of (execAccordTSwap_kept h)
  | accordDrained => exact State.held_of (execAccordDrained_kept h)
  | accordDrainTmo => exact State.held_of (execAccordDrainTmo_kept h)
  | memReply => exact State.held_of (execMemReply_kept h)
  | microTrap => exact State.held_of (execMicroTrap_kept h)
  | csScrub => exact State.held_of (execCsScrub_kept h)
  | csRead => exact State.held_of (execCsRead_kept h)
  | csReadDone => exact State.held_of (execCsReadDone_kept h)
  | tctrlStop => exact State.held_of (execTctrlStop_kept h)
  | tctrlCont => exact State.held_of (execTctrlCont_kept h)
  | mwFence => exact State.held_of (execMwFence_kept h)
  | mwHold => exact State.held_of (execMwHold_kept h)
  | seqNext => exact State.held_of (execSeqNext_kept h)
  | seqJump => exact State.held_of (execSeqJump_kept h)
  | seqBrt => exact State.held_of (execSeqBrt_kept h)
  | seqBrf => exact State.held_of (execSeqBrf_kept h)
  | seqCall => exact State.held_of (execSeqCall_kept h)
  | seqCallt => exact State.held_of (execSeqCallt_kept h)
  | seqRet => exact State.held_of (execSeqRet_kept h)
  | seqRett => exact State.held_of (execSeqRett_kept h)
  | seqLoop => exact State.held_of (execSeqLoop_kept h)
  | seqLdloop => exact State.held_of (execSeqLdloop_kept h)
  | seqLdloopg => exact State.held_of (execSeqLdloopg_kept h)
  | seqJtab => exact State.held_of (execSeqJtab_kept h)
  | seqEnd => exact State.held_of (execSeqEnd_kept h)
  | seqResume => exact State.held_of (execSeqResume_kept h)
  | seqTrapv => exact State.held_of (execSeqTrapv_kept h)
  | seqHalt => exact State.held_of (execSeqHalt_kept h)
  | aopAdd => exact State.held_of (execAopAdd_kept h)
  | aopSub => exact State.held_of (execAopSub_kept h)
  | aopAnd => exact State.held_of (execAopAnd_kept h)
  | aopOr => exact State.held_of (execAopOr_kept h)
  | aopXor => exact State.held_of (execAopXor_kept h)
  | aopAndn => exact State.held_of (execAopAndn_kept h)
  | aopMov => exact State.held_of (execAopMov_kept h)
  | aopShl => exact State.held_of (execAopShl_kept h)
  | aopShr => exact State.held_of (execAopShr_kept h)
  | aopSar => exact State.held_of (execAopSar_kept h)
  | aopRol => exact State.held_of (execAopRol_kept h)
  | aopRor => exact State.held_of (execAopRor_kept h)
  | aopMinu => exact State.held_of (execAopMinu_kept h)
  | aopMaxu => exact State.held_of (execAopMaxu_kept h)
  | aopMins => exact State.held_of (execAopMins_kept h)
  | aopMaxs => exact State.held_of (execAopMaxs_kept h)
  | aopCmp => exact State.held_of (execAopCmp_kept h)
  | aopTst => exact State.held_of (execAopTst_kept h)
  | aopMul => exact State.held_of (execAopMul_kept h)
  | aopMulhu => exact State.held_of (execAopMulhu_kept h)
  | aopAddsu => exact State.held_of (execAopAddsu_kept h)
  | aopSubsu => exact State.held_of (execAopSubsu_kept h)
  | aopExt => exact State.held_of (execAopExt_kept h)
  | aopIns => exact State.held_of (execAopIns_kept h)
  | aopPopc => exact State.held_of (execAopPopc_kept h)
  | aopClz => exact State.held_of (execAopClz_kept h)
  | aopCtz => exact State.held_of (execAopCtz_kept h)
  | aopBswap => exact State.held_of (execAopBswap_kept h)
  | aopSext => exact State.held_of (execAopSext_kept h)
  | aopZext => exact State.held_of (execAopZext_kept h)
  | aopSetc => exact State.held_of (execAopSetc_kept h)
  | bopMov => exact State.held_of (execBopMov_kept h)
  | bopAdd => exact State.held_of (execBopAdd_kept h)
  | bopSub => exact State.held_of (execBopSub_kept h)
  | bopAnd => exact State.held_of (execBopAnd_kept h)
  | bopOr => exact State.held_of (execBopOr_kept h)
  | bopXor => exact State.held_of (execBopXor_kept h)
  | bopShl => exact State.held_of (execBopShl_kept h)
  | bopShr => exact State.held_of (execBopShr_kept h)
  | bopInc => exact State.held_of (execBopInc_kept h)
  | bopDec => exact State.held_of (execBopDec_kept h)
  | bopNot => exact State.held_of (execBopNot_kept h)
  | bopZx8 => exact State.held_of (execBopZx8_kept h)
  | bopZx16 => exact State.held_of (execBopZx16_kept h)
  | bopZx32 => exact State.held_of (execBopZx32_kept h)
  | bopHi32 => exact State.held_of (execBopHi32_kept h)
  | bopLo32in => exact State.held_of (execBopLo32in_kept h)
  | bopHi32in => exact State.held_of (execBopHi32in_kept h)
  | fopLd => exact State.held_of (execFopLd_kept h)
  | fopSt => exact State.held_of (execFopSt_kept h)
  | fopAdd => exact State.held_of (execFopAdd_kept h)
  | fopOr => exact State.held_of (execFopOr_kept h)
  | fopAndn => exact State.held_of (execFopAndn_kept h)
  | fopStm => exact State.held_of (execFopStm_kept h)
  | fopSetstate => exact State.held_of (execFopSetstate_kept h)
  | fopOpen => exact State.held_of (execFopOpen_kept h)
  | fopRelwin => exact State.held_of (execFopRelwin_kept h)
  | fopFlush => exact State.held_of (execFopFlush_kept h)
  | mopLd => exact State.held_of (execMopLd_kept h)
  | mopLd2 => exact State.held_of (execMopLd2_kept h)
  | mopSt => exact State.held_of (execMopSt_kept h)
  | mopSt2 => exact State.held_of (execMopSt2_kept h)
  | mopFadd => exact State.held_of (execMopFadd_kept h)
  | mopSwap => exact State.held_of (execMopSwap_kept h)
  | mopCas => exact State.held_of (execMopCas_kept h)
  | mopLookup => exact State.held_of (execMopLookup_kept h)
  | mopGuard => exact State.held_of (execMopGuard_kept h)
  | mopFtwr => exact State.held_of (execMopFtwr_kept h)
  | mopUnguard => exact State.held_of (execMopUnguard_kept h)
  | mopSweep => exact State.held_of (execMopSweep_kept h)
  | hopFmix => exact State.held_of (execHopFmix_kept h)
  | hopFlow => exact State.held_of (execHopFlow_kept h)
  | hopCrc32c => exact State.held_of (execHopCrc32c_kept h)
  | hopRange => exact State.held_of (execHopRange_kept h)
  | hopCanda => exact State.held_of (execHopCanda_kept h)
  | hopCandb => exact State.held_of (execHopCandb_kept h)
  | qopLdpkt => exact State.held_of (execQopLdpkt_kept h)
  | qopLddesc => exact State.held_of (execQopLddesc_kept h)
  | qopSetact => exact State.held_of (execQopSetact_kept h)
  | qopParam => exact State.held_of (execQopParam_kept h)
  | qopRecirc => exact State.held_of (execQopRecirc_kept h)
  | qopPunt => exact State.held_of (execQopPunt_kept h)
  | qopMirror => exact State.held_of (execQopMirror_kept h)
  | qopDrop => exact State.held_of (execQopDrop_kept h)
  | qopPolice => exact State.held_of (execQopPolice_kept h)
  | qopScan => exact State.held_of (execQopScan_kept h)
  | qopNoseget => exact State.held_of (execQopNoseget_kept h)
  | qopRelease => exact State.held_of (execQopRelease_kept h)
  | copInc => exact State.held_of (execCopInc_kept h)
  | copAdd => exact State.held_of (execCopAdd_kept h)
  | copRd => exact State.held_of (execCopRd_kept h)
  | copRdclr => exact State.held_of (execCopRdclr_kept h)
  | copPerf => exact State.held_of (execCopPerf_kept h)
  | copTick => exact State.held_of (execCopTick_kept h)
  | topNow => exact State.held_of (execTopNow_kept h)
  | topArr => exact State.held_of (execTopArr_kept h)
  | topElapsed => exact State.held_of (execTopElapsed_kept h)
  | topLockt => exact State.held_of (execTopLockt_kept h)
  | topSec => exact State.held_of (execTopSec_kept h)
  | topNsfrac => exact State.held_of (execTopNsfrac_kept h)
  | xopYield => exact State.held_of (execXopYield_kept h)
  | xopPost => exact State.held_of (execXopPost_kept h)
  | xopTrace => exact State.held_of (execXopTrace_kept h)
  | xopNoaff => exact State.held_of (execXopNoaff_kept h)
  | dispatchDecision => exact State.held_of (execDispatchDecision_kept h)
  | affWaitExpiry => exact State.held_of (execAffWaitExpiry_kept h)
  | preemptWaitExpiry => exact State.held_of (execPreemptWaitExpiry_kept h)
  | dispStallInterval => exact State.held_of (execDispStallInterval_kept h)
  | hostItemPost => exact State.held_of (execHostItemPost_kept h)
  | sweepOffer => exact State.held_of (execSweepOffer_kept h)
  | affDataAccess => exact State.held_of (execAffDataAccess_kept h)
  | tmSelect => exact State.held_of (execTmSelect_kept h)
  | txCopyEnd => exact State.held_of (execTxCopyEnd_kept h)
  | swcGrpWrite => exact State.held_of (execSwcGrpWrite_kept h)
  | swcGrpRead => exact State.held_of (execSwcGrpRead_kept h)
  | sampleSeedWrite => exact State.held_of (execSampleSeedWrite_kept h)
  | samplerEnable => exact State.held_of (execSamplerEnable_kept h)
  | shaperUpdate => exact State.held_of (execShaperUpdate_kept h)
  | clearDebt => exact State.held_of (execClearDebt_kept h)
  | gclDurWrite => exact State.held_of (execGclDurWrite_kept h)
  | gclDurRead => exact State.held_of (execGclDurRead_kept h)
  | gateChange => exact State.held_of (execGateChange_kept h)
  | gateSwitch => exact State.held_of (execGateSwitch_kept h)
  | gateEntryBoundary => exact State.held_of (execGateEntryBoundary_kept h)
  | gateDisable => exact State.held_of (execGateDisable_kept h)
  | pauseExpiry => exact State.held_of (execPauseExpiry_kept h)
  | fcXoffRepeat => exact State.held_of (execFcXoffRepeat_kept h)
  | holdExpiry => exact State.held_of (execHoldExpiry_kept h)
  | polWrite => exact State.held_of (execPolWrite_kept h)
  | polRead => exact State.held_of (execPolRead_kept h)
  | polReadClear => exact State.held_of (execPolReadClear_kept h)
  | polRefill => exact State.held_of (execPolRefill_kept h)
  | portEnable => exact State.held_of (execPortEnable_kept h)
  | portDisable => exact State.held_of (execPortDisable_kept h)
  | portAcquireDone => exact State.held_of (execPortAcquireDone_kept h)
  | portAlignDone => exact State.held_of (execPortAlignDone_kept h)
  | portLinkUp => exact State.held_of (execPortLinkUp_kept h)
  | portLinkDown => exact State.held_of (execPortLinkDown_kept h)
  | remoteFault => exact State.held_of (execRemoteFault_kept h)
  | refclkEthLoss => exact State.held_of (execRefclkEthLoss_kept h)
  | tethRetrain => exact State.held_of (execTethRetrain_kept h)
  | tethTrainDone => exact State.held_of (execTethTrainDone_kept h)
  | tethLaneCheck => exact State.held_of (execTethLaneCheck_kept h)
  | tethLinkUp => exact State.held_of (execTethLinkUp_kept h)
  | tethReform => exact State.held_of (execTethReform_kept h)
  | tethLinkDown => exact State.held_of (execTethLinkDown_kept h)
  | linkFrameRx => exact State.held_of (execLinkFrameRx_kept h)
  | heartbeatSend => exact State.held_of (execHeartbeatSend_kept h)
  | heartbeatRx => exact State.held_of (execHeartbeatRx_kept h)
  | peerLost => exact State.held_of (execPeerLost_kept h)
  | mirrorApply => exact State.held_of (execMirrorApply_kept h)
  | tetherCopyRx => exact State.held_of (execTetherCopyRx_kept h)
  | recoveryRequestRx => exact State.held_of (execRecoveryRequestRx_kept h)
  | recoveryResponseRx => exact State.held_of (execRecoveryResponseRx_kept h)
  | recoveryTimeout => exact State.held_of (execRecoveryTimeout_kept h)
  | timeSnap => exact State.held_of (execTimeSnap_kept h)
  | timeIncrWrite => exact State.held_of (execTimeIncrWrite_kept h)
  | timeApply => exact State.held_of (execTimeApply_kept h)
  | offsetAdd => exact State.held_of (execOffsetAdd_kept h)
  | followCheck => exact State.held_of (execFollowCheck_kept h)
  | refclkTimeLoss => exact State.held_of (execRefclkTimeLoss_kept h)
  | refclkTimeReturn => exact State.held_of (execRefclkTimeReturn_kept h)
  | ts2Pop => exact State.held_of (execTs2Pop_kept h)
  | trigArm => exact State.held_of (execTrigArm_kept h)
  | trigDisarm => exact State.held_of (execTrigDisarm_kept h)
  | trigEdge => exact State.held_of (execTrigEdge_kept h)
  | trigPulseEnd => exact State.held_of (execTrigPulseEnd_kept h)
  | captureEdge => exact State.held_of (execCaptureEdge_kept h)
  | capturePop => exact State.held_of (execCapturePop_kept h)
  | ppsEdge => exact State.held_of (execPpsEdge_kept h)
  | ppsPulseEnd => exact State.held_of (execPpsPulseEnd_kept h)
  | sillageDeliver => exact State.held_of (execSillageDeliver_kept h)
  | dispSampleCfgWrite => exact State.held_of (execDispSampleCfgWrite_kept h)
  | vaultRequestDone => exact State.held_of (execVaultRequestDone_kept h)
  | refreshAccrual => exact State.held_of (execRefreshAccrual_kept h)
  | refreshIssue => exact State.held_of (execRefreshIssue_kept h)
  | dimmTempRead => exact State.held_of (execDimmTempRead_kept h)
  | srEntered => exact State.held_of (execSrEntered_kept h)
  | srRequestArrival => exact State.held_of (execSrRequestArrival_kept h)
  | srExitDone => exact State.held_of (execSrExitDone_kept h)
  | srEntryRetry => exact State.held_of (execSrEntryRetry_kept h)
  | vaultTrainingDone => exact State.held_of (execVaultTrainingDone_kept h)
  | zqCalibration => exact State.held_of (execZqCalibration_kept h)
  | caParityAlert => exact State.held_of (execCaParityAlert_kept h)
  | ceWindowEnd => exact State.held_of (execCeWindowEnd_kept h)
  | spareStart => exact State.held_of (execSpareStart_kept h)
  | migrationCopy => exact State.held_of (execMigrationCopy_kept h)
  | vaultWindowRead => exact State.held_of (execVaultWindowRead_kept h)
  | vaultWindowWrite => exact State.held_of (execVaultWindowWrite_kept h)
  | mergeWindowExpiry => exact State.held_of (execMergeWindowExpiry_kept h)
  | auditVisit => exact State.held_of (execAuditVisit_kept h)
  | auditLapAlarm => exact State.held_of (execAuditLapAlarm_kept h)
  | domainRequest => exact State.held_of (execDomainRequest_kept h)
  | domainRampStart => exact State.held_of (execDomainRampStart_kept h)
  | domainRampDone => exact State.held_of (execDomainRampDone_kept h)
  | domainPowerDown => exact State.held_of (execDomainPowerDown_kept h)
  | quietEnter => exact execQuietEnter_held h
  | quietEntryComplete => exact State.held_of (execQuietEntryComplete_kept h)
  | quietStall => exact State.held_of (execQuietStall_kept h)
  | quietExit => exact execQuietExit_held h
  | powerOffCmd => exact execPowerOffCmd_held h
  | allowanceRequest => exact State.held_of (execAllowanceRequest_kept h)
  | allowanceGrant => exact State.held_of (execAllowanceGrant_kept h)
  | allowanceReturn => exact State.held_of (execAllowanceReturn_kept h)
  | slewStep => exact State.held_of (execSlewStep_kept h)
  | avsUpdate => exact State.held_of (execAvsUpdate_kept h)
  | avsRestart => exact State.held_of (execAvsRestart_kept h)
  | tempSample => exact execTempSample_held h
  | pwrwarnAssert => exact State.held_of (execPwrwarnAssert_kept h)
  | vddCoreWarn => exact State.held_of (execVddCoreWarn_kept h)
  | brownoutSr => exact State.held_of (execBrownoutSr_kept h)
  | brownoutRecover => exact State.held_of (execBrownoutRecover_kept h)
  | brownoutNormal => exact State.held_of (execBrownoutNormal_kept h)
  | vddCoreReset => exact execVddCoreReset_held h
  | railMonitorReset => exact execRailMonitorReset_held h
  | smbTemps => exact State.held_of (execSmbTemps_kept h)
  | smbState => exact State.held_of (execSmbState_kept h)
  | smbBrown => exact State.held_of (execSmbBrown_kept h)
  | smbIout => exact State.held_of (execSmbIout_kept h)
  | smbPstate => exact execSmbPstate_held h
  | porstAssert => exact execPorstAssert_held h
  | porstRelease => exact State.held_of (execPorstRelease_kept h)
  | startPush => exact State.held_of (execStartPush_kept h)
  | startFlash => exact State.held_of (execStartFlash_kept h)
  | charterAbort => exact State.held_of (execCharterAbort_kept h)
  | charterLock => exact State.held_of (execCharterLock_kept h)
  | pushChunk => exact State.held_of (execPushChunk_kept h)
  | flashReadDone => exact State.held_of (execFlashReadDone_kept h)
  | verifyDone => exact State.held_of (execVerifyDone_kept h)
  | drainTimeout => exact State.held_of (execDrainTimeout_kept h)
  | loadStart => exact State.held_of (execLoadStart_kept h)
  | sectionDone => exact execSectionDone_held h
  | charterRun => exact execCharterRun_held h
  | mboxGetIdentity => exact State.held_of (execMboxGetIdentity_kept h)
  | mboxGetChallenge => exact State.held_of (execMboxGetChallenge_kept h)
  | mboxAttest => exact State.held_of (execMboxAttest_kept h)
  | debugUnlock => exact State.held_of (execDebugUnlock_kept h)
  | mboxQueuedStart => exact State.held_of (execMboxQueuedStart_kept h)
  | mboxOpDone => exact State.held_of (execMboxOpDone_kept h)
  | mbOp => exact State.held_of (execMbOp_kept h)
  | mbStatus => exact State.held_of (execMbStatus_kept h)
  | mbNonce => exact State.held_of (execMbNonce_kept h)
  | mbOffset => exact State.held_of (execMbOffset_kept h)
  | mbRead => exact State.held_of (execMbRead_kept h)
  | jtagBypass => exact State.held_of (execJtagBypass_kept h)
  | jtagIdcode => exact State.held_of (execJtagIdcode_kept h)
  | jtagSamplePreload => exact State.held_of (execJtagSamplePreload_kept h)
  | jtagExtest => exact State.held_of (execJtagExtest_kept h)
  | jtagMbox => exact State.held_of (execJtagMbox_kept h)
  | jtagDebugInstruction => exact State.held_of (execJtagDebugInstruction_kept h)
  | perstAssert => exact State.held_of (execPerstAssert_kept h)
  | perstRelease => exact State.held_of (execPerstRelease_kept h)
  | pcieHotReset => exact State.held_of (execPcieHotReset_kept h)
  | pcieDlDown => exact State.held_of (execPcieDlDown_kept h)
  | cofferRound => exact State.held_of (execCofferRound_kept h)
  | cofferHostRead => exact State.held_of (execCofferHostRead_kept h)
  | cofferHostWrite => exact State.held_of (execCofferHostWrite_kept h)
  | cofferSetWrite => exact State.held_of (execCofferSetWrite_kept h)
  | cofferClearWrite => exact State.held_of (execCofferClearWrite_kept h)
  | dmaRingEnable => exact State.held_of (execDmaRingEnable_kept h)
  | dmaRingDisable => exact State.held_of (execDmaRingDisable_kept h)
  | dmaTailWrite => exact State.held_of (execDmaTailWrite_kept h)
  | dmaDescFetch => exact State.held_of (execDmaDescFetch_kept h)
  | dmaRecordWrite => exact State.held_of (execDmaRecordWrite_kept h)
  | dmaFlushTimeout => exact State.held_of (execDmaFlushTimeout_kept h)
  | dmaStarveInterval => exact State.held_of (execDmaStarveInterval_kept h)
  | injectFrameRead => exact State.held_of (execInjectFrameRead_kept h)
  | batchSieve => exact State.held_of (execBatchSieve_kept h)
  | batchReg32 => exact execBatchReg32_held h
  | batchSwap => exact State.held_of (execBatchSwap_kept h)
  | batchWaitDrained => exact State.held_of (execBatchWaitDrained_kept h)
  | batchWaitTimeout => exact State.held_of (execBatchWaitTimeout_kept h)
  | batchDone => exact State.held_of (execBatchDone_kept h)
  | irqForce => exact execIrqForce_held h
  | msixSend => exact State.held_of (execMsixSend_kept h)
  | irqEoi => exact State.held_of (execIrqEoi_kept h)
  | msixHoldoffExpiry => exact State.held_of (execMsixHoldoffExpiry_kept h)
  | msixUnmask => exact State.held_of (execMsixUnmask_kept h)
  | portWindowLatch => exact State.held_of (execPortWindowLatch_kept h)
  | perfFreeze => exact State.held_of (execPerfFreeze_kept h)
  | perfUnfreeze => exact State.held_of (execPerfUnfreeze_kept h)
  | perfScheduledAct => exact State.held_of (execPerfScheduledAct_kept h)
  | perfClear => exact State.held_of (execPerfClear_kept h)
  | perfDump => exact State.held_of (execPerfDump_kept h)
  | exportTake => exact State.held_of (execExportTake_kept h)
  | exportItemRetry => exact State.held_of (execExportItemRetry_kept h)
  | ipfixFlush => exact State.held_of (execIpfixFlush_kept h)
  | ipfixTemplateResend => exact State.held_of (execIpfixTemplateResend_kept h)
  | nptMapValidate => exact State.held_of (execNptMapValidate_kept h)
  | noseRequestStart => exact State.held_of (execNoseRequestStart_kept h)
  | noseScanDone => exact State.held_of (execNoseScanDone_kept h)
  | noseReportRetry => exact State.held_of (execNoseReportRetry_kept h)
  | noseBurstReturn => exact State.held_of (execNoseBurstReturn_kept h)
  | noseInvalidate => exact State.held_of (execNoseInvalidate_kept h)
  | noseQuiesced => exact State.held_of (execNoseQuiesced_kept h)
  | noseValidate => exact State.held_of (execNoseValidate_kept h)
  | noseMemWrite => exact State.held_of (execNoseMemWrite_kept h)
  | refclkEthReturn => exact State.held_of (execRefclkEthReturn_kept h)
  | pcieLinkUp => exact State.held_of (execPcieLinkUp_kept h)
  | pushHalfConsumed => exact State.held_of (execPushHalfConsumed_kept h)
  | egressUnderrun => exact State.held_of (execEgressUnderrun_kept h)
  | fecUncorrCodeword => exact State.held_of (execFecUncorrCodeword_kept h)
  | railResetRelease => exact State.held_of (execRailResetRelease_kept h)
  | _ => cases hc

/-- A command that `mayChangeControl` does not name leaves the control plane as it was. -/
theorem exec_control {c : Instr} {s t : State} (hc : mayChangeControl c = false) (h : exec c s = .next t) : t.control = s.control := by
  cases c with
  | rcRead => exact execRcRead_control h
  | unsupportedRequest => exact execUnsupportedRequest_control h
  | paceUpdate => exact execPaceUpdate_control h
  | frameRxStart => exact execFrameRxStart_control h
  | mintRound => exact execMintRound_control h
  | frameRxTail => exact execFrameRxTail_control h
  | macControlFrame => exact execMacControlFrame_control h
  | assayAdmit => exact execAssayAdmit_control h
  | xchHoldRelease => exact execXchHoldRelease_control h
  | xchStallInterval => exact execXchStallInterval_control h
  | recircPlaceFreed => exact execRecircPlaceFreed_control h
  | tillProbe => exact execTillProbe_control h
  | candidateReadDone => exact execCandidateReadDone_control h
  | fillRetry => exact execFillRetry_control h
  | occLimitWrite => exact execOccLimitWrite_control h
  | setupBurstWrite => exact execSetupBurstWrite_control h
  | missTimeout => exact execMissTimeout_control h
  | durableDirtyExpiry => exact execDurableDirtyExpiry_control h
  | tillFlushStart => exact execTillFlushStart_control h
  | tillFlushDone => exact execTillFlushDone_control h
  | lockWaitTimeout => exact execLockWaitTimeout_control h
  | lockAlarm => exact execLockAlarm_control h
  | tillLookup => exact execTillLookup_control h
  | tillWrite => exact execTillWrite_control h
  | tillCreate => exact execTillCreate_control h
  | tillDelete => exact execTillDelete_control h
  | tillFlush => exact execTillFlush_control h
  | tillReadSlot => exact execTillReadSlot_control h
  | hreqDone => exact execHreqDone_control h
  | memReply => exact execMemReply_control h
  | microTrap => exact execMicroTrap_control h
  | csScrub => exact execCsScrub_control h
  | csRead => exact execCsRead_control h
  | csReadDone => exact execCsReadDone_control h
  | tctrlStop => exact execTctrlStop_control h
  | tctrlCont => exact execTctrlCont_control h
  | mwFence => exact execMwFence_control h
  | mwHold => exact execMwHold_control h
  | seqNext => exact execSeqNext_control h
  | seqJump => exact execSeqJump_control h
  | seqBrt => exact execSeqBrt_control h
  | seqBrf => exact execSeqBrf_control h
  | seqCall => exact execSeqCall_control h
  | seqCallt => exact execSeqCallt_control h
  | seqRet => exact execSeqRet_control h
  | seqRett => exact execSeqRett_control h
  | seqLoop => exact execSeqLoop_control h
  | seqLdloop => exact execSeqLdloop_control h
  | seqLdloopg => exact execSeqLdloopg_control h
  | seqJtab => exact execSeqJtab_control h
  | seqEnd => exact execSeqEnd_control h
  | seqResume => exact execSeqResume_control h
  | seqTrapv => exact execSeqTrapv_control h
  | seqHalt => exact execSeqHalt_control h
  | aopAdd => exact execAopAdd_control h
  | aopSub => exact execAopSub_control h
  | aopAnd => exact execAopAnd_control h
  | aopOr => exact execAopOr_control h
  | aopXor => exact execAopXor_control h
  | aopAndn => exact execAopAndn_control h
  | aopMov => exact execAopMov_control h
  | aopShl => exact execAopShl_control h
  | aopShr => exact execAopShr_control h
  | aopSar => exact execAopSar_control h
  | aopRol => exact execAopRol_control h
  | aopRor => exact execAopRor_control h
  | aopMinu => exact execAopMinu_control h
  | aopMaxu => exact execAopMaxu_control h
  | aopMins => exact execAopMins_control h
  | aopMaxs => exact execAopMaxs_control h
  | aopCmp => exact execAopCmp_control h
  | aopTst => exact execAopTst_control h
  | aopMul => exact execAopMul_control h
  | aopMulhu => exact execAopMulhu_control h
  | aopAddsu => exact execAopAddsu_control h
  | aopSubsu => exact execAopSubsu_control h
  | aopExt => exact execAopExt_control h
  | aopIns => exact execAopIns_control h
  | aopPopc => exact execAopPopc_control h
  | aopClz => exact execAopClz_control h
  | aopCtz => exact execAopCtz_control h
  | aopBswap => exact execAopBswap_control h
  | aopSext => exact execAopSext_control h
  | aopZext => exact execAopZext_control h
  | aopSetc => exact execAopSetc_control h
  | bopMov => exact execBopMov_control h
  | bopAdd => exact execBopAdd_control h
  | bopSub => exact execBopSub_control h
  | bopAnd => exact execBopAnd_control h
  | bopOr => exact execBopOr_control h
  | bopXor => exact execBopXor_control h
  | bopShl => exact execBopShl_control h
  | bopShr => exact execBopShr_control h
  | bopInc => exact execBopInc_control h
  | bopDec => exact execBopDec_control h
  | bopNot => exact execBopNot_control h
  | bopZx8 => exact execBopZx8_control h
  | bopZx16 => exact execBopZx16_control h
  | bopZx32 => exact execBopZx32_control h
  | bopHi32 => exact execBopHi32_control h
  | bopLo32in => exact execBopLo32in_control h
  | bopHi32in => exact execBopHi32in_control h
  | fopLd => exact execFopLd_control h
  | fopSt => exact execFopSt_control h
  | fopAdd => exact execFopAdd_control h
  | fopOr => exact execFopOr_control h
  | fopAndn => exact execFopAndn_control h
  | fopStm => exact execFopStm_control h
  | fopSetstate => exact execFopSetstate_control h
  | fopOpen => exact execFopOpen_control h
  | fopRelwin => exact execFopRelwin_control h
  | fopFlush => exact execFopFlush_control h
  | mopLd => exact execMopLd_control h
  | mopLd2 => exact execMopLd2_control h
  | mopSt => exact execMopSt_control h
  | mopSt2 => exact execMopSt2_control h
  | mopFadd => exact execMopFadd_control h
  | mopSwap => exact execMopSwap_control h
  | mopCas => exact execMopCas_control h
  | mopLookup => exact execMopLookup_control h
  | mopGuard => exact execMopGuard_control h
  | mopFtwr => exact execMopFtwr_control h
  | mopUnguard => exact execMopUnguard_control h
  | mopSweep => exact execMopSweep_control h
  | hopFmix => exact execHopFmix_control h
  | hopFlow => exact execHopFlow_control h
  | hopCrc32c => exact execHopCrc32c_control h
  | hopRange => exact execHopRange_control h
  | hopCanda => exact execHopCanda_control h
  | hopCandb => exact execHopCandb_control h
  | qopLdpkt => exact execQopLdpkt_control h
  | qopLddesc => exact execQopLddesc_control h
  | qopSetact => exact execQopSetact_control h
  | qopParam => exact execQopParam_control h
  | qopRecirc => exact execQopRecirc_control h
  | qopPunt => exact execQopPunt_control h
  | qopMirror => exact execQopMirror_control h
  | qopDrop => exact execQopDrop_control h
  | qopPolice => exact execQopPolice_control h
  | qopScan => exact execQopScan_control h
  | qopNoseget => exact execQopNoseget_control h
  | qopRelease => exact execQopRelease_control h
  | copInc => exact execCopInc_control h
  | copAdd => exact execCopAdd_control h
  | copRd => exact execCopRd_control h
  | copRdclr => exact execCopRdclr_control h
  | copPerf => exact execCopPerf_control h
  | copTick => exact execCopTick_control h
  | topNow => exact execTopNow_control h
  | topArr => exact execTopArr_control h
  | topElapsed => exact execTopElapsed_control h
  | topLockt => exact execTopLockt_control h
  | topSec => exact execTopSec_control h
  | topNsfrac => exact execTopNsfrac_control h
  | xopYield => exact execXopYield_control h
  | xopPost => exact execXopPost_control h
  | xopTrace => exact execXopTrace_control h
  | xopNoaff => exact execXopNoaff_control h
  | dispatchDecision => exact execDispatchDecision_control h
  | affWaitExpiry => exact execAffWaitExpiry_control h
  | preemptWaitExpiry => exact execPreemptWaitExpiry_control h
  | dispStallInterval => exact execDispStallInterval_control h
  | hostItemPost => exact execHostItemPost_control h
  | sweepOffer => exact execSweepOffer_control h
  | affDataAccess => exact execAffDataAccess_control h
  | tmSelect => exact execTmSelect_control h
  | txCopyEnd => exact execTxCopyEnd_control h
  | swcGrpWrite => exact execSwcGrpWrite_control h
  | swcGrpRead => exact execSwcGrpRead_control h
  | sampleSeedWrite => exact execSampleSeedWrite_control h
  | samplerEnable => exact execSamplerEnable_control h
  | shaperUpdate => exact execShaperUpdate_control h
  | clearDebt => exact execClearDebt_control h
  | gclDurWrite => exact execGclDurWrite_control h
  | gclDurRead => exact execGclDurRead_control h
  | gateChange => exact execGateChange_control h
  | gateSwitch => exact execGateSwitch_control h
  | gateEntryBoundary => exact execGateEntryBoundary_control h
  | gateDisable => exact execGateDisable_control h
  | pauseExpiry => exact execPauseExpiry_control h
  | fcXoffRepeat => exact execFcXoffRepeat_control h
  | holdExpiry => exact execHoldExpiry_control h
  | polWrite => exact execPolWrite_control h
  | polRead => exact execPolRead_control h
  | polReadClear => exact execPolReadClear_control h
  | polRefill => exact execPolRefill_control h
  | portEnable => exact execPortEnable_control h
  | portDisable => exact execPortDisable_control h
  | portAcquireDone => exact execPortAcquireDone_control h
  | portAlignDone => exact execPortAlignDone_control h
  | portLinkUp => exact execPortLinkUp_control h
  | portLinkDown => exact execPortLinkDown_control h
  | remoteFault => exact execRemoteFault_control h
  | refclkEthLoss => exact execRefclkEthLoss_control h
  | tethRetrain => exact execTethRetrain_control h
  | tethTrainDone => exact execTethTrainDone_control h
  | tethLaneCheck => exact execTethLaneCheck_control h
  | tethLinkUp => exact execTethLinkUp_control h
  | tethReform => exact execTethReform_control h
  | tethLinkDown => exact execTethLinkDown_control h
  | linkFrameRx => exact execLinkFrameRx_control h
  | heartbeatSend => exact execHeartbeatSend_control h
  | heartbeatRx => exact execHeartbeatRx_control h
  | peerLost => exact execPeerLost_control h
  | mirrorApply => exact execMirrorApply_control h
  | tetherCopyRx => exact execTetherCopyRx_control h
  | recoveryRequestRx => exact execRecoveryRequestRx_control h
  | recoveryResponseRx => exact execRecoveryResponseRx_control h
  | recoveryTimeout => exact execRecoveryTimeout_control h
  | timeSnap => exact execTimeSnap_control h
  | timeIncrWrite => exact execTimeIncrWrite_control h
  | timeApply => exact execTimeApply_control h
  | offsetAdd => exact execOffsetAdd_control h
  | followCheck => exact execFollowCheck_control h
  | refclkTimeLoss => exact execRefclkTimeLoss_control h
  | refclkTimeReturn => exact execRefclkTimeReturn_control h
  | ts2Pop => exact execTs2Pop_control h
  | trigArm => exact execTrigArm_control h
  | trigDisarm => exact execTrigDisarm_control h
  | trigEdge => exact execTrigEdge_control h
  | trigPulseEnd => exact execTrigPulseEnd_control h
  | captureEdge => exact execCaptureEdge_control h
  | capturePop => exact execCapturePop_control h
  | ppsEdge => exact execPpsEdge_control h
  | ppsPulseEnd => exact execPpsPulseEnd_control h
  | sillageDeliver => exact execSillageDeliver_control h
  | dispSampleCfgWrite => exact execDispSampleCfgWrite_control h
  | vaultRequestDone => exact execVaultRequestDone_control h
  | refreshAccrual => exact execRefreshAccrual_control h
  | refreshIssue => exact execRefreshIssue_control h
  | dimmTempRead => exact execDimmTempRead_control h
  | srEntered => exact execSrEntered_control h
  | srRequestArrival => exact execSrRequestArrival_control h
  | srExitDone => exact execSrExitDone_control h
  | srEntryRetry => exact execSrEntryRetry_control h
  | zqCalibration => exact execZqCalibration_control h
  | caParityAlert => exact execCaParityAlert_control h
  | ceWindowEnd => exact execCeWindowEnd_control h
  | spareStart => exact execSpareStart_control h
  | migrationCopy => exact execMigrationCopy_control h
  | vaultWindowRead => exact execVaultWindowRead_control h
  | vaultWindowWrite => exact execVaultWindowWrite_control h
  | mergeWindowExpiry => exact execMergeWindowExpiry_control h
  | auditVisit => exact execAuditVisit_control h
  | auditLapAlarm => exact execAuditLapAlarm_control h
  | domainRequest => exact execDomainRequest_control h
  | domainRampStart => exact execDomainRampStart_control h
  | domainPowerDown => exact execDomainPowerDown_control h
  | quietEntryComplete => exact execQuietEntryComplete_control h
  | quietStall => exact execQuietStall_control h
  | allowanceRequest => exact execAllowanceRequest_control h
  | allowanceGrant => exact execAllowanceGrant_control h
  | allowanceReturn => exact execAllowanceReturn_control h
  | slewStep => exact execSlewStep_control h
  | avsUpdate => exact execAvsUpdate_control h
  | avsRestart => exact execAvsRestart_control h
  | pwrwarnAssert => exact execPwrwarnAssert_control h
  | vddCoreWarn => exact execVddCoreWarn_control h
  | brownoutSr => exact execBrownoutSr_control h
  | brownoutRecover => exact execBrownoutRecover_control h
  | brownoutNormal => exact execBrownoutNormal_control h
  | smbTemps => exact execSmbTemps_control h
  | smbState => exact execSmbState_control h
  | smbBrown => exact execSmbBrown_control h
  | smbIout => exact execSmbIout_control h
  | mbStatus => exact execMbStatus_control h
  | jtagBypass => exact execJtagBypass_control h
  | jtagIdcode => exact execJtagIdcode_control h
  | jtagSamplePreload => exact execJtagSamplePreload_control h
  | jtagExtest => exact execJtagExtest_control h
  | jtagDebugInstruction => exact execJtagDebugInstruction_control h
  | cofferRound => exact execCofferRound_control h
  | cofferHostRead => exact execCofferHostRead_control h
  | dmaRingEnable => exact execDmaRingEnable_control h
  | dmaRingDisable => exact execDmaRingDisable_control h
  | dmaTailWrite => exact execDmaTailWrite_control h
  | dmaDescFetch => exact execDmaDescFetch_control h
  | dmaRecordWrite => exact execDmaRecordWrite_control h
  | dmaFlushTimeout => exact execDmaFlushTimeout_control h
  | dmaStarveInterval => exact execDmaStarveInterval_control h
  | injectFrameRead => exact execInjectFrameRead_control h
  | batchWaitDrained => exact execBatchWaitDrained_control h
  | batchWaitTimeout => exact execBatchWaitTimeout_control h
  | batchDone => exact execBatchDone_control h
  | portWindowLatch => exact execPortWindowLatch_control h
  | perfFreeze => exact execPerfFreeze_control h
  | perfUnfreeze => exact execPerfUnfreeze_control h
  | perfScheduledAct => exact execPerfScheduledAct_control h
  | perfClear => exact execPerfClear_control h
  | perfDump => exact execPerfDump_control h
  | exportTake => exact execExportTake_control h
  | exportItemRetry => exact execExportItemRetry_control h
  | ipfixFlush => exact execIpfixFlush_control h
  | ipfixTemplateResend => exact execIpfixTemplateResend_control h
  | nptMapValidate => exact execNptMapValidate_control h
  | noseRequestStart => exact execNoseRequestStart_control h
  | noseScanDone => exact execNoseScanDone_control h
  | noseReportRetry => exact execNoseReportRetry_control h
  | noseBurstReturn => exact execNoseBurstReturn_control h
  | refclkEthReturn => exact execRefclkEthReturn_control h
  | egressUnderrun => exact execEgressUnderrun_control h
  | fecUncorrCodeword => exact execFecUncorrCodeword_control h
  | _ => cases hc

/-- A command that `leavesTraffic` names leaves what packets and flows hold as it was. -/
theorem exec_traffic {c : Instr} {s t : State} (hc : leavesTraffic c = true) (h : exec c s = .next t) : t.traffic = s.traffic := by
  cases c with
  | rcRead => exact execRcRead_traffic h
  | unsupportedRequest => exact execUnsupportedRequest_traffic h
  | paceUpdate => exact execPaceUpdate_traffic h
  | occLimitWrite => exact execOccLimitWrite_traffic h
  | sieveWrite => exact execSieveWrite_traffic h
  | sieveInsert => exact execSieveInsert_traffic h
  | sieveFind => exact execSieveFind_traffic h
  | sieveInvalidate => exact execSieveInvalidate_traffic h
  | sieveSetEm => exact execSieveSetEm_traffic h
  | sieveRead => exact execSieveRead_traffic h
  | sieveOpDone => exact execSieveOpDone_traffic h
  | accordSwap => exact execAccordSwap_traffic h
  | accordTSwap => exact execAccordTSwap_traffic h
  | accordDrained => exact execAccordDrained_traffic h
  | accordDrainTmo => exact execAccordDrainTmo_traffic h
  | csScrub => exact execCsScrub_traffic h
  | dispStallInterval => exact execDispStallInterval_traffic h
  | gclDurRead => exact execGclDurRead_traffic h
  | tethRetrain => exact execTethRetrain_traffic h
  | tethTrainDone => exact execTethTrainDone_traffic h
  | tethLaneCheck => exact execTethLaneCheck_traffic h
  | tethLinkUp => exact execTethLinkUp_traffic h
  | tethReform => exact execTethReform_traffic h
  | tethLinkDown => exact execTethLinkDown_traffic h
  | linkFrameRx => exact execLinkFrameRx_traffic h
  | heartbeatSend => exact execHeartbeatSend_traffic h
  | timeSnap => exact execTimeSnap_traffic h
  | timeIncrWrite => exact execTimeIncrWrite_traffic h
  | timeApply => exact execTimeApply_traffic h
  | offsetAdd => exact execOffsetAdd_traffic h
  | followCheck => exact execFollowCheck_traffic h
  | refclkTimeLoss => exact execRefclkTimeLoss_traffic h
  | refclkTimeReturn => exact execRefclkTimeReturn_traffic h
  | ts2Pop => exact execTs2Pop_traffic h
  | trigArm => exact execTrigArm_traffic h
  | trigDisarm => exact execTrigDisarm_traffic h
  | trigEdge => exact execTrigEdge_traffic h
  | trigPulseEnd => exact execTrigPulseEnd_traffic h
  | captureEdge => exact execCaptureEdge_traffic h
  | capturePop => exact execCapturePop_traffic h
  | ppsEdge => exact execPpsEdge_traffic h
  | ppsPulseEnd => exact execPpsPulseEnd_traffic h
  | sillageDeliver => exact execSillageDeliver_traffic h
  | dispSampleCfgWrite => exact execDispSampleCfgWrite_traffic h
  | auditLapAlarm => exact execAuditLapAlarm_traffic h
  | domainRequest => exact execDomainRequest_traffic h
  | domainRampStart => exact execDomainRampStart_traffic h
  | quietStall => exact execQuietStall_traffic h
  | allowanceRequest => exact execAllowanceRequest_traffic h
  | allowanceGrant => exact execAllowanceGrant_traffic h
  | allowanceReturn => exact execAllowanceReturn_traffic h
  | slewStep => exact execSlewStep_traffic h
  | avsUpdate => exact execAvsUpdate_traffic h
  | avsRestart => exact execAvsRestart_traffic h
  | smbTemps => exact execSmbTemps_traffic h
  | smbState => exact execSmbState_traffic h
  | smbBrown => exact execSmbBrown_traffic h
  | smbIout => exact execSmbIout_traffic h
  | mboxGetIdentity => exact execMboxGetIdentity_traffic h
  | mboxGetChallenge => exact execMboxGetChallenge_traffic h
  | mboxAttest => exact execMboxAttest_traffic h
  | mboxProvision => exact execMboxProvision_traffic h
  | addSlot => exact execAddSlot_traffic h
  | revokeSlot => exact execRevokeSlot_traffic h
  | raiseSvn => exact execRaiseSvn_traffic h
  | ownerLock => exact execOwnerLock_traffic h
  | debugUnlock => exact execDebugUnlock_traffic h
  | ownerReturn => exact execOwnerReturn_traffic h
  | mboxQueuedStart => exact execMboxQueuedStart_traffic h
  | mboxOpDone => exact execMboxOpDone_traffic h
  | mbOp => exact execMbOp_traffic h
  | mbStatus => exact execMbStatus_traffic h
  | mbNonce => exact execMbNonce_traffic h
  | mbOffset => exact execMbOffset_traffic h
  | mbRead => exact execMbRead_traffic h
  | jtagBypass => exact execJtagBypass_traffic h
  | jtagIdcode => exact execJtagIdcode_traffic h
  | jtagSamplePreload => exact execJtagSamplePreload_traffic h
  | jtagExtest => exact execJtagExtest_traffic h
  | jtagMbox => exact execJtagMbox_traffic h
  | jtagDebugInstruction => exact execJtagDebugInstruction_traffic h
  | perstRelease => exact execPerstRelease_traffic h
  | dmaRingEnable => exact execDmaRingEnable_traffic h
  | dmaRingDisable => exact execDmaRingDisable_traffic h
  | dmaTailWrite => exact execDmaTailWrite_traffic h
  | dmaDescFetch => exact execDmaDescFetch_traffic h
  | dmaFlushTimeout => exact execDmaFlushTimeout_traffic h
  | dmaStarveInterval => exact execDmaStarveInterval_traffic h
  | batchSieve => exact execBatchSieve_traffic h
  | batchSwap => exact execBatchSwap_traffic h
  | batchWaitDrained => exact execBatchWaitDrained_traffic h
  | batchWaitTimeout => exact execBatchWaitTimeout_traffic h
  | batchDone => exact execBatchDone_traffic h
  | msixSend => exact execMsixSend_traffic h
  | irqEoi => exact execIrqEoi_traffic h
  | msixHoldoffExpiry => exact execMsixHoldoffExpiry_traffic h
  | msixUnmask => exact execMsixUnmask_traffic h
  | portWindowLatch => exact execPortWindowLatch_traffic h
  | perfFreeze => exact execPerfFreeze_traffic h
  | perfUnfreeze => exact execPerfUnfreeze_traffic h
  | perfScheduledAct => exact execPerfScheduledAct_traffic h
  | perfClear => exact execPerfClear_traffic h
  | perfDump => exact execPerfDump_traffic h
  | nptMapValidate => exact execNptMapValidate_traffic h
  | noseBurstReturn => exact execNoseBurstReturn_traffic h
  | noseInvalidate => exact execNoseInvalidate_traffic h
  | noseQuiesced => exact execNoseQuiesced_traffic h
  | noseValidate => exact execNoseValidate_traffic h
  | noseMemWrite => exact execNoseMemWrite_traffic h
  | pcieLinkUp => exact execPcieLinkUp_traffic h
  | pushHalfConsumed => exact execPushHalfConsumed_traffic h
  | fecUncorrCodeword => exact execFecUncorrCodeword_traffic h
  | _ => cases hc

theorem State.flows_of {s t : State} (h : t.traffic = s.traffic) : t.flows = s.flows := by
  simp only [State.traffic, Prod.mk.injEq] at h
  obtain ⟨-, -, -, -, -, -, hledger, hdisp, htellers, hdesks, hnose, hvault⟩ := h
  simp only [State.flows, hledger, hdisp, htellers, hdesks, hnose, hvault]

/-- A command that `leavesFlows` names leaves what flows hold as it was. -/
theorem exec_flows {c : Instr} {s t : State} (hc : leavesFlows c = true) (h : exec c s = .next t) : t.flows = s.flows := by
  cases c with
  | frameRxStart => exact execFrameRxStart_flows h
  | mintRound => exact execMintRound_flows h
  | macControlFrame => exact execMacControlFrame_flows h
  | xchHoldRelease => exact execXchHoldRelease_flows h
  | xchStallInterval => exact execXchStallInterval_flows h
  | tmSelect => exact execTmSelect_flows h
  | txCopyEnd => exact execTxCopyEnd_flows h
  | swcGrpWrite => exact execSwcGrpWrite_flows h
  | swcGrpRead => exact execSwcGrpRead_flows h
  | sampleSeedWrite => exact execSampleSeedWrite_flows h
  | samplerEnable => exact execSamplerEnable_flows h
  | shaperUpdate => exact execShaperUpdate_flows h
  | clearDebt => exact execClearDebt_flows h
  | gclDurWrite => exact execGclDurWrite_flows h
  | gateChange => exact execGateChange_flows h
  | gateSwitch => exact execGateSwitch_flows h
  | gateEntryBoundary => exact execGateEntryBoundary_flows h
  | gateDisable => exact execGateDisable_flows h
  | pauseExpiry => exact execPauseExpiry_flows h
  | fcXoffRepeat => exact execFcXoffRepeat_flows h
  | holdExpiry => exact execHoldExpiry_flows h
  | polWrite => exact execPolWrite_flows h
  | polRead => exact execPolRead_flows h
  | polReadClear => exact execPolReadClear_flows h
  | polRefill => exact execPolRefill_flows h
  | portEnable => exact execPortEnable_flows h
  | portDisable => exact execPortDisable_flows h
  | portAcquireDone => exact execPortAcquireDone_flows h
  | portAlignDone => exact execPortAlignDone_flows h
  | portLinkUp => exact execPortLinkUp_flows h
  | portLinkDown => exact execPortLinkDown_flows h
  | remoteFault => exact execRemoteFault_flows h
  | refclkEthLoss => exact execRefclkEthLoss_flows h
  | tetherCopyRx => exact execTetherCopyRx_flows h
  | pcieHotReset => exact execPcieHotReset_flows h
  | pcieDlDown => exact execPcieDlDown_flows h
  | dmaRecordWrite => exact execDmaRecordWrite_flows h
  | injectFrameRead => exact execInjectFrameRead_flows h
  | refclkEthReturn => exact execRefclkEthReturn_flows h
  | egressUnderrun => exact execEgressUnderrun_flows h
  | _ => exact State.flows_of (exec_traffic (by exact hc) h)

/-! ### The fuses -/

theorem FuseLe.refl (f : Fuses) : FuseLe f f where
  grp0 h := h
  grp1 h := h
  grp2 h := h
  programmed _ h := h
  slotHash _ _ := rfl
  revoked _ h := h
  svnFloor := Nat.le_refl _
  idDestroyed h := h
  idBlob := rfl
  deviceId := rfl

theorem FuseLe.trans {f g h : Fuses} (hfg : FuseLe f g) (hgh : FuseLe g h) : FuseLe f h where
  grp0 hf := hgh.grp0 (hfg.grp0 hf)
  grp1 hf := hgh.grp1 (hfg.grp1 hf)
  grp2 hf := hgh.grp2 (hfg.grp2 hf)
  programmed i hf := hgh.programmed i (hfg.programmed i hf)
  slotHash i hf := (hgh.slotHash i (hfg.programmed i hf)).trans (hfg.slotHash i hf)
  revoked i hf := hgh.revoked i (hfg.revoked i hf)
  svnFloor := hfg.svnFloor.trans hgh.svnFloor
  idDestroyed hf := hgh.idDestroyed (hfg.idDestroyed hf)
  idBlob := hgh.idBlob.trans hfg.idBlob
  deviceId := hgh.deviceId.trans hfg.deviceId

theorem fuseLe_grp0 (f : Fuses) : FuseLe f { f with grp0 := true } := { FuseLe.refl f with grp0 := fun _ => rfl }

theorem fuseLe_grp1 (f : Fuses) : FuseLe f { f with grp1 := true } := { FuseLe.refl f with grp1 := fun _ => rfl }

theorem fuseLe_grp2 (f : Fuses) : FuseLe f { f with grp2 := true } := { FuseLe.refl f with grp2 := fun _ => rfl }

theorem fuseLe_idDestroyed (f : Fuses) : FuseLe f { f with idDestroyed := true } :=
  { FuseLe.refl f with idDestroyed := fun _ => rfl }

theorem fuseLe_svnFloor {f : Fuses} {n : Nat} (h : f.svnFloor ≤ n) : FuseLe f { f with svnFloor := n } :=
  { FuseLe.refl f with svnFloor := h }

/-- Setting an entry of a table of flags clears none. -/
theorem get_set_true {p : Tbl Bool} (i : Nat) {j : Nat} (h : Tbl.get p j false = true) :
    Tbl.get (Tbl.set p i false true) j false = true := by
  rw [Tbl.get_set]
  split
  · rfl
  · exact h

theorem fuseLe_revoked (f : Fuses) (i : Nat) : FuseLe f { f with revoked := Tbl.set f.revoked i false true } :=
  { FuseLe.refl f with revoked := fun _ h => get_set_true i h }

/-- A slot takes a hash only while it is not programmed. -/
theorem fuseLe_programSlot {f : Fuses} {i : Nat} (d : BitVec 384) (h : slotProgrammed f i = false) : FuseLe f (programSlot i d f) :=
  { FuseLe.refl f with
    programmed := fun _ hj => get_set_true i hj
    slotHash := fun j hj => Tbl.get_set_ne _ _ _ _ _ _ (by rintro rfl; rw [h] at hj; cases hj) }

/-- Blowing fuses never takes the lifecycle back (Table 18.2). -/
theorem FuseLe.lifecycle {f g : Fuses} (h : FuseLe f g) : f.lifecycle.code ≤ g.lifecycle.code := by
  obtain ⟨h0, h1, h2⟩ := And.intro h.grp0 (And.intro h.grp1 h.grp2)
  unfold Fuses.lifecycle
  generalize f.grp0 = f0, f.grp1 = f1, f.grp2 = f2, g.grp0 = g0, g.grp1 = g1, g.grp2 = g2 at h0 h1 h2
  revert h0 h1 h2
  revert f0 f1 f2 g0 g1 g2
  decide

/-! ### Commands that program fuses -/

/-- The queue and the tick stand, and no fuse is cleared. -/
structure KeepsBlown (s t : State) : Prop where
  pending : t.pending = s.pending
  tick : t.time.tick = s.time.tick
  fuses : FuseLe s.fuses t.fuses

theorem keepsBlown_of_held {s t : State} (h : t.held = s.held) : KeepsBlown s t := by
  simp only [State.held, Prod.mk.injEq] at h
  obtain ⟨hpending, hfuses, htick⟩ := h
  exact ⟨hpending, htick, hfuses ▸ FuseLe.refl _⟩

theorem KeepsBlown.trans {s t u : State} (hst : KeepsBlown s t) (htu : KeepsBlown t u) : KeepsBlown s u :=
  ⟨htu.pending.trans hst.pending, htu.tick.trans hst.tick, hst.fuses.trans htu.fuses⟩

/-- A programming blows the fuses that its update blows, or where it failed perhaps none (R432). -/
theorem keepsBlown_program {s : State} {f : Fuses → Fuses} (field : Nat) (ok : Bool) (h : FuseLe s.fuses (f s.fuses)) :
    KeepsBlown s (program field ok f s) := by
  unfold program
  dsimp only
  have hfree : KeepsBlown s (if ok then (1#64, s) else takeFree s).2 := by
    split
    · exact keepsBlown_of_held rfl
    · exact keepsBlown_of_held (takeFree_held s)
  have hfuses : (if ok then (1#64, s) else takeFree s).2.fuses = s.fuses := by split <;> rfl
  generalize (if ok then (1#64, s) else takeFree s) = r at hfree hfuses
  obtain ⟨w, u⟩ := r
  have hblown : KeepsBlown u (if w.getLsbD 0 then { u with fuses := f u.fuses } else u) := by
    split
    · exact ⟨rfl, rfl, by rw [hfuses]; exact h⟩
    · exact keepsBlown_of_held rfl
  refine hfree.trans (hblown.trans (keepsBlown_of_held (State.held_of ?_)))
  rw [lifecycleChanged_kept, emit_kept]
  split
  · rfl
  · exact cause_kept ..

theorem keepsBlown_sec (s : State) (x : SecEngine) : KeepsBlown s { s with sec := x } := ⟨rfl, rfl, FuseLe.refl _⟩

theorem keepsBlown_mboxResult (side : Bool) (res : Nat) (out : Bytes) (s : State) : KeepsBlown s (mboxResult side res out s) :=
  keepsBlown_of_held (State.held_of (mboxResult_kept ..))

/-- A signed command changes what is held by its work alone, which runs once the arguments are found good (R446). -/
theorem keepsBlown_ownerCommand {code : Nat} {states : List Lifecycle} {argOk : Bytes → State → Bool} {fuses : Bool}
    {work : Bytes → State → State} {ok : Bool} {s : State}
    (h : ∀ arg u v, argOk arg u = true → v.fuses = u.fuses → KeepsBlown v (work arg v)) :
    KeepsBlown s (ownerCommand code states argOk fuses work ok s) := by
  unfold ownerCommand
  dsimp only
  generalize slice (hostBuf s commandSize) 0x30 64 = arg
  generalize (if lenIs s false commandSize = true then commandCheck s (hostBuf s commandSize) else (RES_BAD_LENGTH, 15)) = r
  obtain ⟨res, slot⟩ := r
  dsimp only
  have hsec := keepsBlown_sec s { s.sec with host := { s.sec.host with signer := slot } }
  split_ifs with hruns hres hstate hargs hpower
  · exact keepsBlown_of_held rfl
  · exact hsec.trans (keepsBlown_mboxResult ..)
  · exact hsec.trans (keepsBlown_mboxResult ..)
  · exact hsec.trans (keepsBlown_mboxResult ..)
  · exact hsec.trans (keepsBlown_mboxResult ..)
  all_goals
    rw [Bool.not_eq_true', Bool.not_eq_false] at hargs
    refine KeepsBlown.trans ?_ (keepsBlown_mboxResult ..)
    exact (hsec.trans (keepsBlown_sec ..)).trans (h _ _ _ hargs rfl)

theorem keepsBlown_addSlot (blown : Bool) (s : State) : KeepsBlown s (addSlot blown s) := by
  refine keepsBlown_ownerCommand fun arg u v hargs hfuses => keepsBlown_program _ _ (fuseLe_programSlot _ ?_)
  rw [hfuses]
  simp only [Bool.and_eq_true, Bool.not_eq_true'] at hargs
  exact hargs.2

theorem keepsBlown_revokeSlot (blown : Bool) (s : State) : KeepsBlown s (revokeSlot blown s) :=
  keepsBlown_ownerCommand fun _ _ v _ _ => keepsBlown_program _ _ (fuseLe_revoked v.fuses _)

theorem keepsBlown_raiseSvn (blown : Bool) (s : State) : KeepsBlown s (raiseSvn blown s) := by
  refine keepsBlown_ownerCommand fun arg u v hargs hfuses => keepsBlown_program _ _ (fuseLe_svnFloor ?_)
  rw [hfuses]
  simp only [Bool.and_eq_true, decide_eq_true_eq] at hargs
  exact hargs.2.1.le

theorem keepsBlown_ownerLock (blown : Bool) (s : State) : KeepsBlown s (ownerLock blown s) :=
  keepsBlown_ownerCommand fun _ _ v _ _ => keepsBlown_program _ _ (fuseLe_grp1 v.fuses)

theorem keepsBlown_ownerReturn (blown : Bool) (s : State) : KeepsBlown s (ownerReturn blown s) := by
  refine keepsBlown_ownerCommand fun arg u v _ _ => ?_
  have hgroup : KeepsBlown v (program fieldLifecycle blown (fun f => { f with grp2 := true }) v) :=
    keepsBlown_program _ _ (fuseLe_grp2 _)
  dsimp only
  generalize program fieldLifecycle blown (fun f => { f with grp2 := true }) v = u at hgroup
  split
  · exact hgroup
  · have hid : KeepsBlown u (program fieldIdDestroyed true (fun f => { f with idDestroyed := true }) u) :=
      keepsBlown_program _ _ (fuseLe_idDestroyed _)
    refine (hgroup.trans hid).trans ?_
    split
    · exact keepsBlown_of_held rfl
    · exact keepsBlown_of_held (State.held_of (identityBad_kept _))

/-- PROVISION programs a slot that is not programmed, and group 0 (R447). -/
theorem keepsBlown_provision (blown : Bool) (s : State) : KeepsBlown s (provision blown s) := by
  have hgroup : ∀ ok u, KeepsBlown u (program fieldLifecycle ok (fun f => { f with grp0 := true }) u) :=
    fun ok u => keepsBlown_program _ _ (fuseLe_grp0 _)
  unfold provision
  dsimp only
  generalize hostBuf s 64 = c, (if blown = true then RES_OK else RES_FUSE_FAIL) = res
  have hsec := keepsBlown_sec s { s.sec with host := { s.sec.host with fusing := true } }
  split_ifs with hruns hlen hformat hblank hargs hpower hheld
  · exact keepsBlown_of_held rfl
  · exact keepsBlown_mboxResult ..
  · exact keepsBlown_mboxResult ..
  · exact keepsBlown_mboxResult ..
  · exact keepsBlown_mboxResult ..
  · exact keepsBlown_mboxResult ..
  · exact (hsec.trans (hgroup _ _)).trans (keepsBlown_mboxResult ..)
  all_goals
    have hslot := keepsBlown_program (s := { s with sec := { s.sec with host := { s.sec.host with fusing := true } } })
      fieldSlot blown (fuseLe_programSlot (asDigest (List.drop 16 c)) (Bool.eq_false_iff.2 hheld))
  · exact (hsec.trans (hslot.trans (hgroup _ _))).trans (keepsBlown_mboxResult ..)
  · exact (hsec.trans hslot).trans (keepsBlown_mboxResult ..)

/-! ### Steps -/

/-- Whatever command runs, the queue and the tick stand and no fuse is cleared. -/
theorem exec_keepsBlown {c : Instr} {s t : State} (h : exec c s = .next t) : KeepsBlown s t := by
  cases hc : programsFuses c with
  | false => exact keepsBlown_of_held (exec_held hc h)
  | true =>
    cases c with
    | mboxProvision blown => cases h; exact keepsBlown_provision blown s
    | addSlot blown => cases h; exact keepsBlown_addSlot blown s
    | revokeSlot blown => cases h; exact keepsBlown_revokeSlot blown s
    | raiseSvn blown => cases h; exact keepsBlown_raiseSvn blown s
    | ownerLock blown => cases h; exact keepsBlown_ownerLock blown s
    | ownerReturn blown => cases h; exact keepsBlown_ownerReturn blown s
    | _ => cases hc

/-- An idle step moves the tick by one, and leaves queue and fuses alone. -/
theorem tick_held (s : State) : (tick s).held = (s.pending, s.fuses, s.time.tick + 1) := by
  have htick : (tick s).kept = (tickTime s).kept := by
    unfold tick
    simp only [settlePba_kept, tethTick_kept, windowTick_kept, drainWrites_kept, lasting_kept, State.kept_foldl, noseTick_kept,
      tickChannel_kept, tickBranch_kept, tickDesk_kept, implies_true, State.kept_mk, State.kept_fold, tickCount_kept, tickSnap_kept]
  exact State.held_of htick

/-- A step takes the front of the queue and, when none waits, one tick; no fuse is cleared. -/
theorem step_cases {s t : State} (h : step s = .next t) :
    (s.pending = [] ∧ t = tick s) ∨ ∃ c cs, s.pending = c :: cs ∧ exec c { s with pending := cs } = .next t := by
  unfold step at h
  split at h
  next c cs hp => exact .inr ⟨c, cs, hp, h⟩
  next hp => cases h; exact .inl ⟨hp, rfl⟩

theorem step_fuseLe {s t : State} (h : step s = .next t) : FuseLe s.fuses t.fuses := by
  obtain ⟨-, rfl⟩ | ⟨c, cs, -, h⟩ := step_cases h
  · have hheld := tick_held s
    simp only [State.held, Prod.mk.injEq] at hheld
    exact hheld.2.1 ▸ FuseLe.refl _
  · exact (exec_keepsBlown h).fuses

/-- Settles O4: a step leaves every fuse that the state before it had blown, and `FuseLe` is transitive. -/
theorem blownFusesStayBlown : Obligations.BlownFusesStayBlown := by
  unfold Obligations.BlownFusesStayBlown
  exact fun f s t hf h => hf.trans (step_fuseLe h)

/-- Settles O5: the lifecycle is read from fuse groups that are never cleared. -/
theorem lifecycleOnlyMovesForward : Obligations.LifecycleOnlyMovesForward := by
  unfold Obligations.LifecycleOnlyMovesForward
  exact fun s t h => (step_fuseLe h).lifecycle

/-- Settles O6: each other command has its own law of what it holds. -/
theorem onlyProgrammingCommandsChangeFuses : Obligations.OnlyProgrammingCommandsChangeFuses := by
  unfold Obligations.OnlyProgrammingCommandsChangeFuses
  intro c s t hc h
  have hheld := exec_held hc h
  simp only [State.held, Prod.mk.injEq] at hheld
  obtain ⟨hpending, hfuses, htick⟩ := hheld
  exact ⟨hfuses, hpending, htick⟩

/-- Settles O3: a command finds the queue without itself and leaves queue and tick; an idle step is one tick. -/
theorem waitingCommandsRunInOrder : Obligations.WaitingCommandsRunInOrder := by
  unfold Obligations.WaitingCommandsRunInOrder
  intro s t h
  obtain ⟨hp, rfl⟩ | ⟨c, cs, hp, h⟩ := step_cases h
  · have hheld := tick_held s
    simp only [State.held, Prod.mk.injEq] at hheld
    obtain ⟨hpending, -, htick⟩ := hheld
    simp [hpending, htick, hp]
  · have hkept := exec_keepsBlown h
    simp [hkept.pending, hkept.tick, hp]

/-- Settles O7: each command outside the list has its own law of the control plane. -/
theorem otherCommandsLeaveTheControlPlane : Obligations.OtherCommandsLeaveTheControlPlane := by
  unfold Obligations.OtherCommandsLeaveTheControlPlane
  exact fun c s t => exec_control

/-- Settles O8: each command named has its own law of what packets and flows hold. -/
theorem controlCommandsLeaveTraffic : Obligations.ControlCommandsLeaveTraffic := by
  unfold Obligations.ControlCommandsLeaveTraffic
  exact fun c s t => exec_traffic

/-- Settles O9: each command named has its own law of what flows hold, or leaves all of the traffic. -/
theorem lineCommandsLeaveFlows : Obligations.LineCommandsLeaveFlows := by
  unfold Obligations.LineCommandsLeaveFlows
  exact fun c s t => exec_flows

/-- Settles O1: it is how `step` reads the queue. -/
theorem stepRunsTheFrontCommand : Obligations.StepRunsTheFrontCommand := by
  unfold Obligations.StepRunsTheFrontCommand
  intro c cs s hp
  rw [step, hp]

/-- Settles O2: an idle step is `tick`. -/
theorem idleStepIsOneTick : Obligations.IdleStepIsOneTick := by
  unfold Obligations.IdleStepIsOneTick
  intro s hp
  have hheld := tick_held s
  simp only [State.held, Prod.mk.injEq] at hheld
  obtain ⟨hpending, hfuses, htick⟩ := hheld
  exact ⟨tick s, by rw [step, hp], htick, hpending.trans hp, hfuses⟩

/-- Settles O11: `State.reset` holds each field's default, and empty memory is canonical. -/
theorem resetLeavesTheStatedState : Obligations.ResetLeavesTheStatedState := by
  unfold Obligations.ResetLeavesTheStatedState
  have hwf : MemoryWf State.reset := ⟨⟨List.Pairwise.nil, fun p hp => nomatch hp⟩, ⟨List.Pairwise.nil, fun p hp => nomatch hp⟩⟩
  exact ⟨rfl, fun _ => rfl, rfl, rfl, rfl, rfl, rfl, rfl, hwf⟩

end Sys2Proof.Machine
end


section
/-!
PROOFS. Reads of stored registers after the updates of a state: fields, flags and pairs, and the parts that a step which only stores
registers and places Sillage records may change.
-/
namespace Sys2Proof.Machine

/-! ### Reads after updates of other parts -/

theorem regRead_mk (pending : List Instr) (free : Nat) (regs : Tbl Word32) (dispo : Tbl Nat) (time : TimeBase) (sill : Sillage) (msix : Msix) (perf : Perf) (treas : Treasury) (fuses : Fuses) (sec : SecEngine) (pins : Pins) (loader : Loader) (pcie : Pcie) (coffer : Coffer) (rings : Tbl Ring) (out : Outputs) (lastBatch : Nat) (ports : Tbl Port) (portCfg : Tbl PortCfg) (lanes : Tbl Lane) (laneInv : Tbl Nat) (laneTaps : Tbl Nat) (teth : Tether) (swc : SwitchCore) (tm : TrafficMgr) (templates : Bytes) (assay : Tbl Assayer) (sieve : Sieve) (accord : Accord) (ledger : Tbl Ledger) (disp : Tbl Disp) (tellers : Tbl Teller) (desks : Tbl Desk) (nose : Tbl Nose) (automata : NoseAutomata) (vault : Vault) (audit : Auditor) (p : Nat) :
    regRead ⟨pending, free, regs, dispo, time, sill, msix, perf, treas, fuses, sec, pins, loader, pcie, coffer, rings, out, lastBatch, ports, portCfg, lanes, laneInv, laneTaps, teth, swc, tm, templates, assay, sieve, accord, ledger, disp, tellers, desks, nose, automata, vault, audit⟩ p = Tbl.get regs p (resetOf p) := rfl

theorem regRead_fold (s : State) (p : Nat) : Tbl.get s.regs p (resetOf p) = regRead s p := rfl

theorem regRead_congr {s t : State} (h : t.regs = s.regs) (p : Nat) : regRead t p = regRead s p := by rw [regRead, h, regRead]

theorem fieldOf_congr {s t : State} (h : t.regs = s.regs) (p hi lo : Nat) : fieldOf t p hi lo = fieldOf s p hi lo := by
  rw [fieldOf, regRead_congr h, fieldOf]

theorem flagOf_congr {s t : State} (h : t.regs = s.regs) (p i : Nat) : flagOf t p i = flagOf s p i := by
  rw [flagOf, regRead_congr h, flagOf]

theorem pairOf_congr {s t : State} (h : t.regs = s.regs) (p : Nat) : pairOf t p = pairOf s p := by
  rw [pairOf, regRead_congr h, regRead_congr h, pairOf]

/-! ### Bits -/

theorem setBits_lt_two_pow {v hi lo x w : Nat} (h : lo ≤ hi) (hw : hi < w) (hv : v < 2 ^ w) : setBits v hi lo x < 2 ^ w := by
  unfold setBits bits
  simp only [Nat.shiftRight_eq_div_pow]
  obtain ⟨n, hwidth⟩ : ∃ n, hi + 1 = lo + n := ⟨hi + 1 - lo, by omega⟩
  obtain ⟨k, rfl⟩ : ∃ k, w = lo + n + k := ⟨w - (lo + n), by omega⟩
  rw [hwidth, Nat.add_sub_cancel_left]
  have hn : 0 < 2 ^ n := Nat.two_pow_pos n
  have hlo : 0 < 2 ^ lo := Nat.two_pow_pos lo
  have hx : x % 2 ^ n < 2 ^ n := Nat.mod_lt _ hn
  have hr : v % 2 ^ lo < 2 ^ lo := Nat.mod_lt _ hlo
  have htop : v / 2 ^ lo / 2 ^ n < 2 ^ k := by
    rw [Nat.div_div_eq_div_mul, Nat.div_lt_iff_lt_mul (Nat.mul_pos hlo hn)]
    calc v < 2 ^ (lo + n + k) := hv
      _ = 2 ^ k * (2 ^ lo * 2 ^ n) := by ring
  have hsplit : v = 2 ^ lo * (2 ^ n * (v / 2 ^ lo / 2 ^ n) + v / 2 ^ lo % 2 ^ n) + v % 2 ^ lo := by
    rw [Nat.div_add_mod, Nat.div_add_mod]
  generalize v / 2 ^ lo / 2 ^ n = a at *
  generalize v / 2 ^ lo % 2 ^ n = b at *
  generalize v % 2 ^ lo = r at *
  generalize x % 2 ^ n = y at *
  have hnew : v - b * 2 ^ lo + y * 2 ^ lo = 2 ^ lo * (2 ^ n * a + y) + r := by
    rw [hsplit, Nat.mul_add, Nat.mul_add, Nat.mul_comm b, Nat.mul_comm y]
    omega
  rw [hnew]
  calc 2 ^ lo * (2 ^ n * a + y) + r < 2 ^ lo * (2 ^ n * a + y) + 2 ^ lo := by omega
    _ = 2 ^ lo * (2 ^ n * a + y + 1) := by ring
    _ ≤ 2 ^ lo * (2 ^ n * a + 2 ^ n) := Nat.mul_le_mul_left _ (by omega)
    _ = 2 ^ lo * 2 ^ n * (a + 1) := by ring
    _ ≤ 2 ^ lo * 2 ^ n * 2 ^ k := Nat.mul_le_mul_left _ htop
    _ = 2 ^ (lo + n + k) := by ring

/-! ### Pairs and flags -/

theorem pairOf_lt (s : State) (p : Nat) : pairOf s p < 2 ^ 64 := by
  have h0 := (regRead s p).isLt
  have h1 := (regRead s (p + 4)).isLt
  unfold pairOf
  omega

/-- A pair reads as the 64-bit number that was stored. -/
theorem pairOf_setPair_same (p v : Nat) (s : State) (h : v < 2 ^ 64) : pairOf (setPair p v s) p = v := by
  have hlo : regRead (setPair p v s) p = BitVec.ofNat 32 v := by
    rw [setPair, regRead_store_ne _ _ _ _ (by omega), regRead_store_same]
  have hhi : regRead (setPair p v s) (p + 4) = BitVec.ofNat 32 (v / 2 ^ 32) := by rw [setPair, regRead_store_same]
  rw [pairOf, hlo, hhi, BitVec.toNat_ofNat, BitVec.toNat_ofNat]
  omega

theorem pairOf_emit (src kind q p : Nat) (s : State) (h : ∀ r ∈ [Reg.SILL_LOST_CNT, Reg.SILL_IRQ_CAUSE], r ≠ p ∧ r ≠ p + 4) :
    pairOf (emit src kind q s) p = pairOf s p := by
  simp only [List.mem_cons, List.not_mem_nil, or_false, forall_eq_or_imp, forall_eq] at h
  obtain ⟨⟨h1, h2⟩, h3, h4⟩ := h
  rw [pairOf, regRead_emit_ne _ _ _ _ _ h1 h3, regRead_emit_ne _ _ _ _ _ h2 h4, pairOf]

theorem pairOf_regStore_ne (o p : Nat) (v : Word32) (s : State) (h : o ≠ p) (h4 : o ≠ p + 4) :
    pairOf (regStore o v s) p = pairOf s p := by
  rw [pairOf, regRead_store_ne _ _ _ _ h, regRead_store_ne _ _ _ _ h4, pairOf]

theorem fieldOf_regStore_same (o hi lo : Nat) (v : Word32) (s : State) : fieldOf (regStore o v s) o hi lo = bits v.toNat hi lo := by
  rw [fieldOf, regRead_store_same]

theorem fieldOf_regStore_ne (o p hi lo : Nat) (v : Word32) (s : State) (h : o ≠ p) :
    fieldOf (regStore o v s) p hi lo = fieldOf s p hi lo := by
  rw [fieldOf, regRead_store_ne _ _ _ _ h, fieldOf]

theorem flagOf_regStore_ne (o p i : Nat) (v : Word32) (s : State) (h : o ≠ p) : flagOf (regStore o v s) p i = flagOf s p i := by
  rw [flagOf, regRead_store_ne _ _ _ _ h, flagOf]

theorem flagOf_cause_ne (o i p j : Nat) (s : State) (h : o ≠ p) : flagOf (cause o i s) p j = flagOf s p j := by
  rw [flagOf, regRead_cause_ne _ _ _ _ h, flagOf]

theorem flagOf_bump_ne (o p j : Nat) (s : State) (h : o ≠ p) : flagOf (bump o s) p j = flagOf s p j := by
  rw [flagOf, regRead_bump_ne _ _ _ h, flagOf]

theorem flagOf_bumpN_ne (o n p j : Nat) (s : State) (h : o ≠ p) : flagOf (bumpN o n s) p j = flagOf s p j := by
  rw [flagOf, regRead_bumpN_ne _ _ _ _ h, flagOf]

theorem flagOf_emit_ne (src kind q p j : Nat) (s : State) (h1 : Reg.SILL_LOST_CNT ≠ p) (h2 : Reg.SILL_IRQ_CAUSE ≠ p) :
    flagOf (emit src kind q s) p j = flagOf s p j := by
  rw [flagOf, regRead_emit_ne _ _ _ _ _ h1 h2, flagOf]

theorem fieldOf_emit_ne (src kind q p hi lo : Nat) (s : State) (h1 : Reg.SILL_LOST_CNT ≠ p) (h2 : Reg.SILL_IRQ_CAUSE ≠ p) :
    fieldOf (emit src kind q s) p hi lo = fieldOf s p hi lo := by
  rw [fieldOf, regRead_emit_ne _ _ _ _ _ h1 h2, fieldOf]

end Sys2Proof.Machine
end


section
/-!
PROOFS. The time base: snapshots, rate, offset and FOLLOW (R336 to R341), the two-step FIFO (R347), triggers, captures and PPS (R348
to R351), and disposition sampling (R359).
-/
namespace Sys2Proof.Machine

/-! ### Rate -/

/-- TIME_INCR reads as set (R337). -/
theorem pairOf_setIncr {v : Nat} (s : State) (h : v < 2 ^ 64) : pairOf (setIncr v s) Reg.TIME_INCR_LO = v := by
  unfold setIncr
  split
  next heq => exact heq.symm
  next => rw [pairOf_emit _ _ _ _ _ (by decide), pairOf_setPair_same _ _ _ h]

theorem setIncr_frame (v : Nat) (s : State) : setIncr v s = { s with regs := (setIncr v s).regs, sill := (setIncr v s).sill } := by
  unfold setIncr
  split
  · rfl
  · rw [emit_frame]; rfl

/-- The number that a write of TIME_INCR leaves there: all of it, or one half and the other as it stood. -/
def incrValue (half : Option Bool) (w : Word64) (s : State) : Nat :=
  match half with
  | none => w.toNat
  | some false => setBits (pairOf s Reg.TIME_INCR_LO) 31 0 w.toNat
  | some true => setBits (pairOf s Reg.TIME_INCR_LO) 63 32 w.toNat

theorem incrValue_lt (half : Option Bool) (w : Word64) (s : State) : incrValue half w s < 2 ^ 64 := by
  have hpair := pairOf_lt s Reg.TIME_INCR_LO
  match half with
  | none => exact w.isLt
  | some false => exact setBits_lt_two_pow (by decide) (by decide) hpair
  | some true => exact setBits_lt_two_pow (by decide) (by decide) hpair

theorem incrWrite_eq_setIncr (half : Option Bool) (w : Word64) (s : State) : incrWrite half w s = setIncr (incrValue half w s) s := by
  match half with
  | none | some false | some true => rfl

/-! ### Offset -/

/-- A write of TIME_CTRL with APPLY: FOLLOW is stored, SNAP noted, and an offset taken unless one is pending (R336, R338). -/
theorem timeCtrlWrite_apply {s : State} {v : Word32} (h : v.getLsbD 1 = true) : timeCtrlWrite v s =
    { regStore Reg.TIME_CTRL (v &&& 0x100#32) s with time := { s.time with
        offset := if s.time.offset.isSome then s.time.offset else some { ns := signed 64 (pairOf s Reg.TIME_OFFSET_LO), follow := false }
        snapDue := s.time.snapDue || v.getLsbD 0 } } := by
  have hpair : pairOf (regStore Reg.TIME_CTRL (v &&& 0x100#32) s) Reg.TIME_OFFSET_LO = pairOf s Reg.TIME_OFFSET_LO :=
    pairOf_regStore_ne _ _ _ _ (by decide) (by decide)
  unfold timeCtrlWrite timeApply timeSnap
  simp only [h, if_true, hpair, regStore_time]
  cases v.getLsbD 0 <;> cases hoff : s.time.offset <;> simp [hoff, regStore] <;> rw [← hoff]

/-- What the steps after an offset add keep: time and offset, every cause raised, and all but registers, the Sillage and the time
base. -/
structure KeepsStep (s t : State) : Prop where
  net : t.time.net = s.time.net
  offset : t.time.offset = s.time.offset
  causes : ∀ j, flagOf s Reg.TIME_IRQ_CAUSE j = true → flagOf t Reg.TIME_IRQ_CAUSE j = true
  rest : t = { s with regs := t.regs, sill := t.sill, time := t.time }

theorem KeepsStep.refl (s : State) : KeepsStep s s := ⟨rfl, rfl, fun _ h => h, rfl⟩

theorem KeepsStep.trans {s t u : State} (h : KeepsStep s t) (k : KeepsStep t u) : KeepsStep s u where
  net := k.net.trans h.net
  offset := k.offset.trans h.offset
  causes j hj := k.causes j (h.causes j hj)
  rest := k.rest.trans (congrArg (fun x : State => { x with regs := u.regs, sill := u.sill, time := u.time }) h.rest)

theorem keepsStep_cause (i : Nat) (s : State) : KeepsStep s (cause Reg.TIME_IRQ_CAUSE i s) :=
  ⟨rfl, rfl, fun _ h => flagOf_cause_mono _ _ _ _ _ h, rfl⟩

theorem keepsStep_emit (src kind q : Nat) (s : State) : KeepsStep s (emit src kind q s) where
  net := by rw [emit_time]
  offset := by rw [emit_time]
  causes j h := by rwa [flagOf_emit_ne _ _ _ _ _ _ (by decide) (by decide)]
  rest := by rw [emit_frame]

theorem keepsStep_bumpN {o : Nat} (n : Nat) (s : State) (h : o ≠ Reg.TIME_IRQ_CAUSE) : KeepsStep s (bumpN o n s) where
  net := by rw [bumpN_time]
  offset := by rw [bumpN_time]
  causes j hj := by rwa [flagOf_bumpN_ne _ _ _ _ _ h]
  rest := by rw [bumpN_frame]

theorem missedCnt_ne_timeCause (i : Nat) : Reg.TIME_TRIG_MISSED_CNT i ≠ Reg.TIME_IRQ_CAUSE := by
  simp only [Reg.TIME_TRIG_MISSED_CNT, Reg.TIME_IRQ_CAUSE]
  omega

theorem overrunCnt_ne_timeCause (p : Nat) : Reg.TM_GATE_OVERRUN_CNT p ≠ Reg.TIME_IRQ_CAUSE := by
  simp only [Reg.TM_GATE_OVERRUN_CNT, Reg.TIME_IRQ_CAUSE]
  omega

theorem keepsStep_setTrig (i : Nat) (x : Trigger) (s : State) : KeepsStep s (setTrig i x s) := ⟨rfl, rfl, fun _ h => h, rfl⟩

/-- A trigger follows a step of the time, and may count and tell the instants that it missed (R349). -/
theorem keepsStep_trigStep (forward : Bool) (i : Nat) (s : State) : KeepsStep s (trigStep forward i s) := by
  unfold trigStep
  dsimp only
  generalize (if forward then _ else 0) = k
  split_ifs
  · exact .refl s
  · exact keepsStep_setTrig ..
  · exact (((keepsStep_setTrig ..).trans (keepsStep_bumpN _ _ (missedCnt_ne_timeCause i))).trans (keepsStep_cause ..)).trans (keepsStep_emit ..)

theorem keepsStep_ppsStep (s : State) : KeepsStep s (ppsStep s) := by
  unfold ppsStep
  split
  · exact ⟨rfl, rfl, fun _ h => h, rfl⟩
  · exact .refl s

theorem keepsStep_foldl {α : Type} (f : State → α → State) (h : ∀ s x, KeepsStep s (f s x)) (l : List α) (s : State) :
    KeepsStep s (l.foldl f s) := by
  induction l generalizing s with
  | nil => exact .refl s
  | cons x l ih => exact (h s x).trans (ih _)

/-- A copy that a step of the time takes past its window is counted (R292). -/
theorem keepsStep_gateOverrun (p : Nat) (s : State) : KeepsStep s (gateOverrun p s) := by
  unfold gateOverrun
  dsimp only
  split
  · exact .refl s
  · split
    · exact keepsStep_bumpN _ _ (overrunCnt_ne_timeCause p)
    · exact .refl s

/-- The state once the pending offset is added and its causes are raised, before triggers and PPS follow. -/
def offsetAdded (o : OffsetAdd) (s : State) : State :=
  let s := { s with time := { s.time with
    net := (((s.time.net / 2 ^ 32 : Nat) : Int) + o.ns).toNat * 2 ^ 32 + s.time.net % 2 ^ 32, offset := none } }
  s |> cause Reg.TIME_IRQ_CAUSE 0 |> emit 0x003 0x10 (unsigned 64 o.ns + 2 ^ 64 * b2n o.follow)

/-- What follows an offset add: the cause of FOLLOW, and the steps of triggers, PPS and gates (R339, R340, R349, R292). -/
theorem offsetStep_keeps {s : State} {o : OffsetAdd} (h : s.time.offset = some o) :
    KeepsStep (if o.follow then cause Reg.TIME_IRQ_CAUSE 5 (offsetAdded o s) else offsetAdded o s) (offsetStep s) := by
  unfold offsetStep offsetAdd
  rw [h]
  dsimp only [Option.isNone_some, Bool.false_eq_true, if_false]
  refine .trans (.trans ?_ (keepsStep_foldl _ (fun s i => keepsStep_trigStep ..) _ _)) (keepsStep_foldl _ (fun s p => keepsStep_gateOverrun ..) _ _)
  unfold offsetAdded
  dsimp only
  generalize (if o.follow = true then _ else _ : State) = u
  split
  · exact .refl u
  · exact keepsStep_ppsStep u

theorem offsetAdded_frame (o : OffsetAdd) (s : State) : offsetAdded o s =
    { s with regs := (offsetAdded o s).regs, sill := (offsetAdded o s).sill, time := (offsetAdded o s).time } := by
  unfold offsetAdded
  dsimp only
  rw [emit_frame]
  rfl

theorem offsetAdded_time (o : OffsetAdd) (s : State) : (offsetAdded o s).time = { s.time with
    net := (((s.time.net / 2 ^ 32 : Nat) : Int) + o.ns).toNat * 2 ^ 32 + s.time.net % 2 ^ 32, offset := none } := by
  unfold offsetAdded
  dsimp only
  rw [emit_time]
  rfl

theorem flagOf_offsetAdded (o : OffsetAdd) (s : State) : flagOf (offsetAdded o s) Reg.TIME_IRQ_CAUSE 0 = true := by
  unfold offsetAdded
  dsimp only
  rw [flagOf_emit_ne _ _ _ _ _ _ (by decide) (by decide)]
  exact flagOf_cause_same _ _ _ (by decide)

/-- What an offset add leaves (R338 to R340). -/
theorem offsetStep_acts {s : State} {o : OffsetAdd} (h : s.time.offset = some o) : KeepsStep (offsetAdded o s) (offsetStep s) ∧
    (o.follow = true → flagOf (offsetStep s) Reg.TIME_IRQ_CAUSE 5 = true) := by
  have hkeeps := offsetStep_keeps h
  cases hf : o.follow <;> simp only [hf, Bool.false_eq_true, if_false, if_true] at hkeeps
  · exact ⟨hkeeps, fun h => nomatch h⟩
  · exact ⟨(keepsStep_cause 5 _).trans hkeeps, fun _ => hkeeps.causes 5 (flagOf_cause_same _ _ _ (by decide))⟩

/-! ### FOLLOW and the reference -/

/-- The offset that stands after the check of a follower (R340). -/
def followOffset (s : State) : Option OffsetAdd :=
  let off := signed 64 (pairOf s Reg.TETH_PEER_OFFSET_LO)
  if s.teth.side = 1 ∧ flagOf s Reg.TIME_CTRL 8 = true ∧ s.teth.pair = .paired ∧
      fieldOf s Reg.TIME_FOLLOW_THR 31 0 < off.natAbs ∧ s.time.offset.isNone = true then some { ns := off, follow := true }
  else s.time.offset

theorem followCheck_due {s : State} (h : s.time.followAt + 1000000 ≤ s.time.tick) :
    followCheck s = { s with time := { s.time with followAt := s.time.tick, offset := followOffset s } } := by
  have hdue : ¬ since s s.time.followAt < 1000000 := by unfold since; omega
  unfold followCheck followOffset
  rw [if_neg hdue]
  dsimp only
  split
  next hfollow => exact (if_pos hfollow ▸ rfl)
  next hfollow => exact (if_neg hfollow ▸ rfl)

/-- The state once a change of the reference clock is noted and told (R341). -/
def refclkChanged (lost : Bool) (s : State) : State :=
  { s with time := { s.time with refLost := lost } } |> cause Reg.TIME_IRQ_CAUSE 1 |> emit 0x003 0x14 (b2n lost)

theorem refclkTime_change {s : State} {lost : Bool} (h : s.time.refLost ≠ lost) : refclkTime lost s = refclkChanged lost s := by
  rw [refclkTime, if_neg h, refclkChanged]

theorem refclkChanged_acts (lost : Bool) (s : State) : (refclkChanged lost s).time = { s.time with refLost := lost } ∧
    flagOf (refclkChanged lost s) Reg.TIME_IRQ_CAUSE 1 = true ∧
    refclkChanged lost s = { s with regs := (refclkChanged lost s).regs, sill := (refclkChanged lost s).sill, time := (refclkChanged lost s).time } := by
  unfold refclkChanged
  refine ⟨by rw [emit_time]; rfl, ?_, by rw [emit_frame]; rfl⟩
  rw [flagOf_emit_ne _ _ _ _ _ _ (by decide) (by decide)]
  exact flagOf_cause_same _ _ _ (by decide)

/-! ### Disposition sampling -/

/-- A write of SILL_DISP_CFG restarts the count when sampling is enabled or the interval changes (R359). -/
theorem dispCfgWrite_eq (v : Word32) (s : State) : dispCfgWrite v s = { regStore Reg.SILL_DISP_CFG (v &&& 0xC0FFFFFF#32) s with
    sill := if (flagOf s Reg.SILL_DISP_CFG 31 = false ∧ v.getLsbD 31 = true) ∨ fieldOf s Reg.SILL_DISP_CFG 23 0 ≠ bits v.toNat 23 0
      then { s.sill with sampleCount := 0 } else s.sill } := by
  have hcond : ((!bit (regRead s Reg.SILL_DISP_CFG).toNat 31 && v.getLsbD 31) ||
      bits (regRead s Reg.SILL_DISP_CFG).toNat 23 0 != bits v.toNat 23 0) = true ↔
      (flagOf s Reg.SILL_DISP_CFG 31 = false ∧ v.getLsbD 31 = true) ∨ fieldOf s Reg.SILL_DISP_CFG 23 0 ≠ bits v.toNat 23 0 := by
    simp [flagOf, fieldOf, bit, BitVec.getLsbD]
  unfold dispCfgWrite
  dsimp only
  by_cases h : (flagOf s Reg.SILL_DISP_CFG 31 = false ∧ v.getLsbD 31 = true) ∨ fieldOf s Reg.SILL_DISP_CFG 23 0 ≠ bits v.toNat 23 0
  · rw [if_pos (hcond.2 h), if_pos h]; rfl
  · rw [if_neg (fun hc => h (hcond.1 hc)), if_neg h]; rfl

/-! ### Settling -/

/-- Settles O12: each command of the time base has its equation above or is its definition. -/
theorem timeBaseCommandsAct : Obligations.TimeBaseCommandsAct := by
  unfold Obligations.TimeBaseCommandsAct
  refine ⟨?_, ?_, ?_, ?_, ?_, ?_, ?_, ?_, ?_⟩
  · exact fun s => ⟨_, rfl, rfl⟩
  · intro s half w
    refine ⟨_, congrArg Host.Outcome.next (incrWrite_eq_setIncr half w s), ?_, setIncr_frame _ s⟩
    rw [pairOf_setIncr s (incrValue_lt half w s)]
    match half with
    | none | some false | some true => rfl
  · intro s v h
    refine ⟨_, (by rw [exec, execTimeApply, if_pos h, timeCtrlWrite_apply h]), ?_, ?_, ?_, ?_⟩
    · intro hnone; simp [hnone]
    · intro hsome; simp [hsome]
    · exact regRead_store_same ..
    · rfl
  · intro s hdue
    refine ⟨_, congrArg Host.Outcome.next (followCheck_due hdue), rfl, ?_, ?_, rfl⟩
    · intro hside hfollow hpair hthr hnone
      simp [followOffset, hside, hfollow, hpair, hthr, hnone]
    · intro hkeep
      rcases hkeep with hsome | hside
      · obtain ⟨o, ho⟩ := Option.isSome_iff_exists.1 hsome
        simp [followOffset, ho]
      · simp [followOffset, hside]
  · exact fun s h => ⟨_, congrArg Host.Outcome.next (refclkTime_change (by simp [h])), refclkChanged_acts ..⟩
  · exact fun s h => ⟨_, congrArg Host.Outcome.next (refclkTime_change (by simp [h])), refclkChanged_acts ..⟩
  · intro s o h
    obtain ⟨⟨hnet, hoffset, hcauses, hrest⟩, hfollow⟩ := offsetStep_acts h
    refine ⟨_, rfl, ?_, ?_, ?_, hcauses 0 (flagOf_offsetAdded o s), hfollow, ?_⟩
    · rw [hnet, offsetAdded_time]; dsimp only; omega
    · rw [hnet, offsetAdded_time]; dsimp only; omega
    · rw [hoffset, offsetAdded_time]
    · rw [hrest, offsetAdded_frame]
  · exact fun s => ⟨_, rfl, rfl⟩
  · intro s v hopen
    refine ⟨_, congrArg Host.Outcome.next (if_pos hopen), ?_, fun hoff hon => ?_, fun hn => ?_, ?_⟩ <;> rw [dispCfgWrite_eq]
    · exact regRead_store_same ..
    · rw [if_pos (.inl ⟨hoff, hon⟩)]
    · rw [if_pos (.inr hn)]
    · rfl

end Sys2Proof.Machine
end


section
/-!
PROOFS. Trigger outputs (R348, R349), captures (R350) and PPS_OUT (R351).
-/
namespace Sys2Proof.Machine

/-! ### Triggers -/

@[simp] theorem trigAt_setTrig_same (i : Nat) (x : Trigger) (s : State) : trigAt (setTrig i x s) i = x := Tbl.get_set_same ..

theorem trigAt_congr {s t : State} (h : t.time = s.time) (i : Nat) : trigAt t i = trigAt s i := by rw [trigAt, h, trigAt]

theorem setTrig_frame (i : Nat) (x : Trigger) (s : State) : setTrig i x s = { s with time := (setTrig i x s).time } := rfl

/-- A trigger's CTRL is none of the registers that give its instants. -/
theorem trigEdges_regStore_ctrl (i : Nat) (v : Word32) (s : State) :
    trigStart (regStore (Reg.TIME_TRIG_CTRL i) v s) i = trigStart s i ∧
    trigPeriod (regStore (Reg.TIME_TRIG_CTRL i) v s) i = trigPeriod s i := by
  have hsec : pairOf (regStore (Reg.TIME_TRIG_CTRL i) v s) (Reg.TIME_TRIG_START_SEC_LO i) = pairOf s (Reg.TIME_TRIG_START_SEC_LO i) :=
    pairOf_regStore_ne _ _ _ _ (by simp) (by simp only [Reg.TIME_TRIG_CTRL, Reg.TIME_TRIG_START_SEC_LO]; omega)
  have hns : fieldOf (regStore (Reg.TIME_TRIG_CTRL i) v s) (Reg.TIME_TRIG_START_NS i) 29 0 = fieldOf s (Reg.TIME_TRIG_START_NS i) 29 0 :=
    fieldOf_regStore_ne _ _ _ _ _ _ (by simp)
  have hperiod : fieldOf (regStore (Reg.TIME_TRIG_CTRL i) v s) (Reg.TIME_TRIG_PERIOD_NS i) 31 0 = fieldOf s (Reg.TIME_TRIG_PERIOD_NS i) 31 0 :=
    fieldOf_regStore_ne _ _ _ _ _ _ (by simp)
  constructor
  · rw [trigStart, hsec, hns, trigStart]
  · simp only [trigPeriod, hperiod]

/-- A trigger that is armed has its first edge, or is dead and says so (R348). -/
theorem trigArm_acts (i : Nat) (v : Word32) (s : State) :
    (trigAt (trigArm i v s) i).next = edgeFrom (trigStart s i) (trigPeriod s i) (leadTime s) ∧
    ((trigAt (trigArm i v s) i).next = none →
      (trigAt (trigArm i v s) i).dead = true ∧ flagOf (trigArm i v s) Reg.TIME_IRQ_CAUSE 2 = true) ∧
    trigArm i v s = { s with regs := (trigArm i v s).regs, time := (trigArm i v s).time } := by
  obtain ⟨hstart, hperiod⟩ := trigEdges_regStore_ctrl i (v &&& 0xC0000000#32) s
  have hlead : leadTime (regStore (Reg.TIME_TRIG_CTRL i) (v &&& 0xC0000000#32) s) = leadTime s := rfl
  unfold trigArm
  dsimp only
  rw [hstart, hperiod, hlead]
  cases edgeFrom (trigStart s i) (trigPeriod s i) (leadTime s) with
  | none =>
    simp only [Option.isNone_none, if_true]
    rw [trigAt_congr (cause_time ..), trigAt_congr (bump_time ..), trigAt_setTrig_same]
    refine ⟨rfl, fun _ => ⟨rfl, flagOf_cause_same _ _ _ (by decide)⟩, ?_⟩
    rw [cause_frame, bump_frame]
    rfl
  | some n =>
    simp only [Option.isNone_some, Bool.false_eq_true, if_false]
    rw [trigAt_setTrig_same]
    exact ⟨rfl, fun h => absurd h (Option.some_ne_none n), rfl⟩

/-- EN 0 clears a trigger (R348). -/
theorem trigDisarm_acts (i : Nat) (v : Word32) (s : State) (h : v.getLsbD 31 = false) :
    trigAt (trigDisarm i v s) i = {} ∧ flagOf (trigDisarm i v s) (Reg.TIME_TRIG_CTRL i) 31 = false ∧
    trigDisarm i v s = { s with regs := (trigDisarm i v s).regs, time := (trigDisarm i v s).time } := by
  refine ⟨trigAt_setTrig_same .., ?_, rfl⟩
  have hread : regRead (trigDisarm i v s) (Reg.TIME_TRIG_CTRL i) = v &&& 0xC0000000#32 := regRead_store_same ..
  rw [flagOf, hread, BitVec.getLsbD_and, h, Bool.false_and]

theorem trigEdge_due {i n : Nat} {s : State} (hnext : (trigAt s i).next = some n) (hdue : n * 2 ^ 32 ≤ s.time.net) :
    trigEdge i s = setTrig i { trigAt s i with
      next := if trigPeriod s i = 0 then none else some (n + trigPeriod s i)
      pulseEnd := some (s.time.tick + trigWidth s i) } s := by
  unfold trigEdge
  simp only [hnext]
  rw [if_neg (Nat.not_lt.2 hdue)]

theorem trigPulseEnd_due {i e : Nat} {s : State} (hend : (trigAt s i).pulseEnd = some e) (hdue : e ≤ s.time.tick) :
    trigPulseEnd i s = setTrig i { trigAt s i with pulseEnd := none } s := by
  unfold trigPulseEnd
  simp only [hend]
  rw [if_pos hdue]

/-! ### Captures -/

theorem capAt'_congr {s t : State} (h : t.time = s.time) (i : Nat) : capAt' t i = capAt' s i := by rw [capAt', h, capAt']

@[simp] theorem capAt'_setCap_same (i : Nat) (q : List CapEntry) (s : State) : capAt' (setCap i q s) i = q := Tbl.get_set_same ..

theorem bumpField_frame (o hi lo : Nat) (s : State) : bumpField o hi lo s = { s with regs := (bumpField o hi lo s).regs } := by
  unfold bumpField
  split
  · rfl
  · rw [setField_frame]

/-- An edge of the selected kind joins its FIFO, or is lost with the cause OVERRUN (R350). -/
theorem captureEdge_acts {i : Nat} {rising : Bool} {s : State}
    (h : flagOf s (Reg.TIME_CAP_CTRL i) (if rising then 0 else 1) = true) :
    ((capAt' s i).length < 16 → capAt' (captureEdge i rising s) i = capAt' s i ++ [{ time := s.time.net, rising := rising }]) ∧
    (16 ≤ (capAt' s i).length → capAt' (captureEdge i rising s) i = capAt' s i ∧
      flagOf (captureEdge i rising s) Reg.TIME_IRQ_CAUSE 3 = true) ∧
    captureEdge i rising s = { s with regs := (captureEdge i rising s).regs, time := (captureEdge i rising s).time, sill := (captureEdge i rising s).sill } := by
  have hselected : ¬ (!flagOf s (Reg.TIME_CAP_CTRL i) (if rising then 0 else 1)) = true := by simp [h]
  unfold captureEdge
  rw [if_neg hselected]
  by_cases hfull : 16 ≤ (capAt' s i).length
  · rw [if_pos hfull]
    refine ⟨fun hlt => absurd hfull (Nat.not_le.2 hlt), fun _ => ⟨?_, flagOf_cause_same _ _ _ (by decide)⟩, ?_⟩
    · refine capAt'_congr ?_ i
      rw [cause_time, bumpField_frame]
    · rw [cause_frame, bumpField_frame]
  · rw [if_neg hfull]
    refine ⟨fun _ => ?_, fun hle => absurd hle hfull, ?_⟩ <;> dsimp only <;> split
    · rw [capAt'_congr (emit_time ..), capAt'_setCap_same]
    · rw [capAt'_setCap_same]
    · rw [emit_frame]; rfl
    · rfl

/-! ### PPS -/

theorem ppsEdge_due {s : State} (hen : flagOf s Reg.TIME_PPS_CFG 31 = true) (hdue : s.time.ppsLast ≠ some (netSec s.time.net)) :
    ppsEdge s = { s with time := { s.time with
      ppsLast := some (netSec s.time.net)
      ppsFall := some (s.time.tick + 1000000 * min 999 (max 1 (fieldOf s Reg.TIME_PPS_CFG 9 0))) } } := by
  unfold ppsEdge
  rw [if_neg (by simp [hen, hdue])]

theorem ppsPulseEnd_due {s : State} {e : Nat} (hfall : s.time.ppsFall = some e) (hdue : e ≤ s.time.tick) :
    ppsPulseEnd s = { s with time := { s.time with ppsFall := none } } := by
  unfold ppsPulseEnd
  simp only [hfall]
  rw [if_pos hdue]

/-- Settles O13: each command is its lemma above; arming and disarming are the two writes of a trigger's CTRL. -/
theorem triggerCaptureAndPpsCommandsAct : Obligations.TriggerCaptureAndPpsCommandsAct := by
  unfold Obligations.TriggerCaptureAndPpsCommandsAct
  refine ⟨?_, ?_, ?_, ?_, ?_, ?_, ?_, ?_⟩
  · intro s i v h
    refine ⟨trigArm i.val v s, ?_, trigArm_acts ..⟩
    rw [exec, execTrigArm, if_pos h, trigCtrlWrite, if_pos h]
  · intro s i v h
    refine ⟨trigDisarm i.val v s, ?_, trigDisarm_acts _ _ _ h⟩
    have hoff : ¬ v.getLsbD 31 = true := by rw [h]; decide
    rw [exec, execTrigDisarm, if_neg hoff, trigCtrlWrite, if_neg hoff]
  · intro s i n hnext hdue
    exact ⟨_, congrArg Host.Outcome.next (trigEdge_due hnext hdue), trigAt_setTrig_same .., rfl⟩
  · intro s i e hend hdue
    exact ⟨_, congrArg Host.Outcome.next (trigPulseEnd_due hend hdue), trigAt_setTrig_same .., rfl⟩
  · exact fun s i rising h => ⟨_, rfl, captureEdge_acts h⟩
  · exact fun s i => ⟨_, rfl, capAt'_setCap_same .., rfl⟩
  · exact fun s hen hdue => ⟨_, rfl, ppsEdge_due hen hdue⟩
  · exact fun s e hfall hdue => ⟨_, rfl, ppsPulseEnd_due hfall hdue⟩

end Sys2Proof.Machine
end


section
/-!
PROOFS. The PERF block (R483 to R485), and the parts of the state that the writing of host-bound rings may change (R463).
-/
namespace Sys2Proof.Machine

/-! ### Host-bound rings -/

/-- A step of a ring changes registers, rings and what it writes to the host alone. -/
def RingStep (s t : State) : Prop := t = { s with regs := t.regs, rings := t.rings, out := t.out }

theorem RingStep.sill {s t : State} (h : RingStep s t) : t.sill = s.sill := by rw [h]

theorem RingStep.refl (s : State) : RingStep s s := rfl

theorem RingStep.trans {s t u : State} (h : RingStep s t) (k : RingStep t u) : RingStep s u :=
  Eq.trans k (congrArg (fun x : State => { x with regs := u.regs, rings := u.rings, out := u.out }) h)

theorem ringStep_of_frame {s t : State} (h : t = { s with regs := t.regs }) : RingStep s t := by rw [RingStep, h]

theorem ringStep_modRing (n : Nat) (f : Ring → Ring) (s : State) : RingStep s (s.modRing n f) := rfl

theorem ringStep_toHost (addr : Nat) (b : Bytes) (s : State) : RingStep s (toHost addr b s) := by
  unfold toHost
  rw [RingStep, perfN_frame]

theorem ringStep_advanceHead (n : Nat) (s : State) : RingStep s (advanceHead n s) := by
  unfold advanceHead
  dsimp only
  refine .trans ?_ (ringStep_of_frame (perf_frame ..))
  refine .trans ?_ (ringStep_of_frame (bump_frame ..))
  refine .trans ?_ (ringStep_of_frame (cause_frame ..))
  split
  · exact .trans (ringStep_modRing ..) (ringStep_toHost ..)
  · exact ringStep_modRing ..

theorem ringStep_closeBuffer (n : Nat) (s : State) : RingStep s (closeBuffer n s) := by
  unfold closeBuffer
  split
  · exact .refl s
  · dsimp only
    split
    · exact ringStep_modRing ..
    · exact .trans (.trans (ringStep_modRing ..) (ringStep_toHost ..)) (ringStep_advanceHead ..)

theorem ringStep_writePart (n kind : Nat) (o : OpenBuf) (body : Bytes) (start : Bool) (s : State) :
    RingStep s (writePart n kind o body start s) := by
  have hwritten (addr : Nat) (b : Bytes) (f : Ring → Ring) : RingStep s ((toHost addr b s).modRing n f) :=
    .trans (ringStep_toHost ..) (ringStep_modRing ..)
  unfold writePart
  dsimp only
  exact iteInduction (motive := RingStep s) (fun _ => .trans (hwritten ..) (ringStep_closeBuffer ..)) (fun _ => hwritten ..)

theorem ringStep_placeRec (n kind : Nat) (body : Bytes) (s : State) : RingStep s (placeRec n kind body s).2 := by
  unfold placeRec
  split
  · exact .refl s
  · split
    · exact ringStep_writePart ..
    · unfold makeRoom
      dsimp only
      split
      · exact ringStep_closeBuffer ..
      · exact .refl s

/-! ### Windows and freezing -/

/-- The state once the counters stop: the flag, its time and its cause (R484). -/
theorem freezeNow_acts (s : State) : (freezeNow s).perf = { s.perf with frozen := true, sched := none } ∧
    flagOf (freezeNow s) Reg.PERF_IRQ_CAUSE 2 = true ∧
    regRead (freezeNow s) Reg.PERF_FROZEN_NS = BitVec.ofNat 32 (netNs s.time.net) ∧
    regRead (freezeNow s) Reg.PERF_FROZEN_SEC = BitVec.ofNat 32 (netSec s.time.net) ∧
    freezeNow s = { s with regs := (freezeNow s).regs, perf := (freezeNow s).perf } := by
  refine ⟨rfl, flagOf_cause_same _ _ _ (by decide), ?_, ?_, rfl⟩
  · rw [freezeNow, regRead_cause_ne _ _ _ _ (by decide)]
    exact regRead_store_same ..
  · rw [freezeNow, regRead_cause_ne _ _ _ _ (by decide), stamp, stampAt, regRead_store_ne _ _ _ _ (by decide)]
    exact regRead_store_same ..

theorem unfreezeNow_frame (s : State) : unfreezeNow s = { s with perf := (unfreezeNow s).perf } := rfl

theorem unfreezeNow_winNext (s : State) : (unfreezeNow s).perf.winNext =
    if s.perf.winNext ≤ s.time.net then nextMultiple (winLen s) s else s.perf.winNext := by
  unfold unfreezeNow
  generalize nextMultiple (winLen s) s = next
  rfl

/-- A write without AT acts at once: no instant is scheduled. -/
theorem freezeInstant_of_atOnce {v : Word32} (s : State) (h : v.getLsbD 2 = false) :
    freezeInstant (regStore Reg.PERF_FREEZE_CTRL (v &&& 4#32) s) = none := by
  have hflag : flagOf (regStore Reg.PERF_FREEZE_CTRL (v &&& 4#32) s) Reg.PERF_FREEZE_CTRL 2 = false := by
    rw [flagOf, regRead_store_same, BitVec.getLsbD_and, h, Bool.false_and]
  unfold freezeInstant
  dsimp only
  rw [hflag]
  rfl

theorem freezeWrite_freeze {v : Word32} {s : State} (hv : v.getLsbD 0 = true) (hat : v.getLsbD 2 = false)
    (hrun : s.perf.frozen = false) (hsched : s.perf.sched = none) :
    freezeWrite v s = freezeNow (regStore Reg.PERF_FREEZE_CTRL (v &&& 4#32) s) := by
  unfold freezeWrite
  dsimp only
  rw [freezeInstant_of_atOnce s hat]
  simp only [hv, regStore_perf, hrun, hsched, Bool.not_false, Option.isNone_none, Bool.and_self, if_true]

theorem freezeWrite_unfreeze {v : Word32} {s : State} (hv : v.getLsbD 0 = false) (hv1 : v.getLsbD 1 = true) (hat : v.getLsbD 2 = false)
    (hrun : s.perf.frozen = true) :
    freezeWrite v s = unfreezeNow (regStore Reg.PERF_FREEZE_CTRL (v &&& 4#32) s) := by
  unfold freezeWrite
  dsimp only
  rw [freezeInstant_of_atOnce s hat]
  simp only [hv, hv1, regStore_perf, hrun, Bool.false_and, Bool.and_self, Bool.false_eq_true, if_false, if_true]

/-! ### Clearing -/

theorem regRead_setPair_zero {p : Nat} {s : State} (o : Nat) (h : regRead s p = 0) : regRead (setPair o 0 s) p = 0 := by
  rw [setPair, regRead_store, regRead_store]
  split_ifs
  · rfl
  · rfl
  · exact h

/-- The counters of one unit are cleared. -/
def clearUnit (s : State) (u : Nat) : State := (List.range 8).foldl (fun s k => setPair (Reg.PERF_CNT_LO u k) 0 s) s

theorem foldl_keeps {α : Type} {P : State → Prop} (f : State → α → State) (hf : ∀ s x, P s → P (f s x)) (l : List α) {s : State}
    (h : P s) : P (l.foldl f s) := by
  induction l generalizing s with
  | nil => exact h
  | cons x l ih => exact ih (hf s x h)

/-- What one element of a list brings about and every other keeps holds after all of them. -/
theorem foldl_reaches {α : Type} {P : State → Prop} (f : State → α → State) {l : List α} {a : α} (ha : a ∈ l)
    (hset : ∀ s, P (f s a)) (hf : ∀ s x, P s → P (f s x)) (s : State) : P (l.foldl f s) := by
  obtain ⟨l₁, l₂, rfl⟩ := List.append_of_mem ha
  rw [List.foldl_append, List.foldl_cons]
  exact foldl_keeps f hf l₂ (hset _)

theorem pairOf_setPair_zero {p : Nat} {s : State} (o : Nat) (h : pairOf s p = 0) : pairOf (setPair o 0 s) p = 0 := by
  have hzero (q : Nat) (hq : (regRead s q).toNat = 0) : (regRead (setPair o 0 s) q).toNat = 0 := by
    rw [regRead_setPair_zero o (BitVec.eq_of_toNat_eq hq)]
    rfl
  unfold pairOf at h ⊢
  have hlo := hzero p (by omega)
  have hhi := hzero (p + 4) (by omega)
  omega

theorem pairOf_clearUnit_zero {p : Nat} {s : State} (u : Nat) (h : pairOf s p = 0) : pairOf (clearUnit s u) p = 0 :=
  foldl_keeps (P := fun s => pairOf s p = 0) _ (fun _ _ => pairOf_setPair_zero _) _ h

theorem pairOf_clearCounters {u k : Nat} (s : State) (hu : u < 45) (hk : k < 8) : pairOf (clearCounters s) (Reg.PERF_CNT_LO u k) = 0 :=
  foldl_reaches (P := fun s => pairOf s (Reg.PERF_CNT_LO u k) = 0) clearUnit (List.mem_range.2 hu)
    (fun _ => foldl_reaches (P := fun s => pairOf s (Reg.PERF_CNT_LO u k) = 0) _ (List.mem_range.2 hk)
      (fun _ => pairOf_setPair_same _ _ _ (by decide)) (fun _ _ => pairOf_setPair_zero _) _)
    (fun _ u => pairOf_clearUnit_zero u) s

theorem clearCounters_frame (s : State) : clearCounters s = { s with regs := (clearCounters s).regs } :=
  foldl_frame clearUnit (fun _ _ => foldl_frame _ (fun _ _ => rfl) _ _) _ s

theorem perfCtrlWrite_clear {v : Word32} {s : State} (hv : v.getLsbD 0 = true) (hrun : s.perf.frozen = false) :
    perfCtrlWrite v s = clearCounters (if s.loader.locked then s else regStore Reg.PERF_CTRL (v &&& 0x80000000#32) s) := by
  have hkeep : (if s.loader.locked then s else regStore Reg.PERF_CTRL (v &&& 0x80000000#32) s).perf.frozen = false := by
    split <;> exact hrun
  unfold perfCtrlWrite
  dsimp only
  rw [hkeep, hv]
  rfl

/-! ### Dumps -/

/-- The number of the next dump. -/
def nextDumpSeq (s : State) : Nat := (fieldOf s Reg.PERF_DUMP_SEQ 31 0 + 1) % 2 ^ 32

theorem nextDumpSeq_lt (s : State) : nextDumpSeq s < 2 ^ 32 := Nat.mod_lt _ (by decide)

/-- The state once a due dump has its number and the next one its instant, before its snapshot is taken. -/
def dumpNumbered (next : Nat) (s : State) : State :=
  { regStore Reg.PERF_DUMP_SEQ (BitVec.ofNat 32 (nextDumpSeq s)) s with perf := { s.perf with dumpNext := next } }

/-- The snapshot of a due dump is taken, or skipped while one still waits for its ring. -/
def dumpTake (seq : Nat) (s : State) : State :=
  if s.perf.dump.isSome then
    { s with perf := { s.perf with dumpSkipped := true } } |> bump Reg.PERF_DUMP_SKIP_CNT |> cause Reg.PERF_IRQ_CAUSE 1
  else { s with perf := { s.perf with dump := some (dumpRecord seq s), dumpSkipped := false } }

theorem perfDump_due {s : State} (hen : flagOf s Reg.PERF_DUMP_CFG 31 = true) (hdue : s.perf.dumpNext ≤ s.time.net) :
    perfDump s = dumpTake (nextDumpSeq s) (dumpNumbered (nextMultiple (dumpPeriod s) s) s) := by
  have hstored (v : Word32) : nextMultiple (dumpPeriod (regStore Reg.PERF_DUMP_SEQ v s)) (regStore Reg.PERF_DUMP_SEQ v s) =
      nextMultiple (dumpPeriod s) s := by
    rw [nextMultiple, dumpPeriod, fieldOf_regStore_ne _ _ _ _ _ _ (by decide), regStore_time, nextMultiple, dumpPeriod]
  rw [← hstored (BitVec.ofNat 32 (nextDumpSeq s))]
  unfold perfDump
  rw [if_neg (by simp [hen, hdue])]
  rfl

theorem fieldOf_dumpNumbered (next : Nat) (s : State) : fieldOf (dumpNumbered next s) Reg.PERF_DUMP_SEQ 31 0 = nextDumpSeq s := by
  have hlt := nextDumpSeq_lt s
  have hregs : (dumpNumbered next s).regs = Tbl.set s.regs Reg.PERF_DUMP_SEQ (resetOf Reg.PERF_DUMP_SEQ) (BitVec.ofNat 32 (nextDumpSeq s)) := rfl
  rw [fieldOf, regRead, hregs, Tbl.get_set_same]
  generalize nextDumpSeq s = n at hlt
  simp only [bits, BitVec.toNat_ofNat, Nat.shiftRight_zero]
  omega

/-- What taking or skipping a snapshot leaves. -/
theorem dumpTake_acts (seq : Nat) (s : State) :
    fieldOf (dumpTake seq s) Reg.PERF_DUMP_SEQ 31 0 = fieldOf s Reg.PERF_DUMP_SEQ 31 0 ∧
    (dumpTake seq s).perf.dumpNext = s.perf.dumpNext ∧
    (s.perf.dump = none → (dumpTake seq s).perf.dump.isSome = true ∧ (dumpTake seq s).perf.dumpSkipped = false) ∧
    (s.perf.dump.isSome = true → (dumpTake seq s).perf.dump = s.perf.dump ∧ (dumpTake seq s).perf.dumpSkipped = true ∧
      flagOf (dumpTake seq s) Reg.PERF_IRQ_CAUSE 1 = true) ∧
    dumpTake seq s = { s with regs := (dumpTake seq s).regs, perf := (dumpTake seq s).perf } := by
  unfold dumpTake
  by_cases hdump : s.perf.dump.isSome = true
  · rw [if_pos hdump, cause_perf, bump_perf]
    refine ⟨?_, rfl, fun h => by simp [h] at hdump, fun _ => ⟨rfl, rfl, flagOf_cause_same _ _ _ (by decide)⟩, ?_⟩
    · rw [fieldOf, regRead_cause_ne _ _ _ _ (by decide), regRead_bump_ne _ _ _ (by decide)]
      exact fieldOf_congr rfl ..
    · rw [cause_frame, bump_frame]
  · rw [if_neg hdump]
    exact ⟨fieldOf_congr rfl .., rfl, fun _ => ⟨rfl, rfl⟩, fun h => absurd h hdump, rfl⟩

theorem dumpTake_dumpNumbered (next : Nat) (s : State) :
    fieldOf (dumpTake (nextDumpSeq s) (dumpNumbered next s)) Reg.PERF_DUMP_SEQ 31 0 = nextDumpSeq s ∧
    (dumpTake (nextDumpSeq s) (dumpNumbered next s)).perf.dumpNext = next ∧
    (s.perf.dump = none → (dumpTake (nextDumpSeq s) (dumpNumbered next s)).perf.dump.isSome = true ∧
      (dumpTake (nextDumpSeq s) (dumpNumbered next s)).perf.dumpSkipped = false) ∧
    (s.perf.dump.isSome = true → (dumpTake (nextDumpSeq s) (dumpNumbered next s)).perf.dump = s.perf.dump ∧
      (dumpTake (nextDumpSeq s) (dumpNumbered next s)).perf.dumpSkipped = true ∧
      flagOf (dumpTake (nextDumpSeq s) (dumpNumbered next s)) Reg.PERF_IRQ_CAUSE 1 = true) ∧
    dumpTake (nextDumpSeq s) (dumpNumbered next s) = { s with
      regs := (dumpTake (nextDumpSeq s) (dumpNumbered next s)).regs, perf := (dumpTake (nextDumpSeq s) (dumpNumbered next s)).perf } := by
  obtain ⟨hseq, hnext, hfree, htaken, hrest⟩ := dumpTake_acts (nextDumpSeq s) (dumpNumbered next s)
  exact ⟨hseq.trans (fieldOf_dumpNumbered next s), hnext, hfree, htaken, hrest⟩

/-! ### Records of the Sillage -/

/-- A record has left the Sillage, and is counted. -/
def sillPopped (rs : List SillRec) (s : State) : State := bump64 Reg.SILL_RECORD_CNT_LO 1 { s with sill := { s.sill with buf := rs } }

theorem sillPopped_sill (rs : List SillRec) (s : State) : (sillPopped rs s).sill = { s.sill with buf := rs } := bump64_sill ..

/-- The Sillage once its oldest record, followed by others, was offered to its ring. -/
def sillAfter (rs : List SillRec) (placed : Bool × State) : State :=
  if placed.1 then placeLosses (sillPopped rs placed.2).sill.lost (sillPopped rs placed.2) else placed.2

/-- A record that its ring takes leaves the Sillage; with no losses to tell nothing else follows (R357, R358). -/
theorem sillDeliver_taken {s : State} {r : SillRec} {rs : List SillRec} (hbuf : s.sill.buf = r :: rs) (hen : flagOf s Reg.SILL_CFG 31 = true)
    (hok : (placeRec (fieldOf s Reg.SILL_CFG 3 0) 2 (sillBytes r) s).1 = true) (hlost : s.sill.lost = []) :
    sillDeliver s = sillPopped rs (placeRec (fieldOf s Reg.SILL_CFG 3 0) 2 (sillBytes r) s).2 := by
  have hsill := (ringStep_placeRec (fieldOf s Reg.SILL_CFG 3 0) 2 (sillBytes r) s).sill
  have hstart : sillDeliver s = sillAfter rs (placeRec (fieldOf s Reg.SILL_CFG 3 0) 2 (sillBytes r) s) := by
    unfold sillDeliver
    rw [hbuf]
    exact if_neg (by rw [hen]; decide)
  rw [hstart, sillAfter, if_pos hok, sillPopped_sill, hsill, hlost, placeLosses]

/-- Settles O14: each command by its equation above. -/
theorem performanceCommandsAct : Obligations.PerformanceCommandsAct := by
  unfold Obligations.PerformanceCommandsAct
  refine ⟨?_, ?_, ?_, ?_, ?_, ?_, ?_⟩
  · intro s hdue
    refine ⟨_, rfl, ?_⟩
    unfold windowLatch
    rw [if_neg (Nat.not_lt.2 hdue)]
    generalize nextMultiple (winLen s) s = next
    generalize ledgerOf _ = bound
    cases hfrozen : s.perf.frozen with
    | true => exact ⟨rfl, fun h => (nomatch h), fun _ => rfl, rfl⟩
    | false => exact ⟨rfl, fun _ => ⟨rfl, rfl, rfl, rfl⟩, fun h => (nomatch h), rfl⟩
  · intro s v hv hopen hrun hsched hat
    obtain ⟨hperf, hflag, hns, hsec, hrest⟩ := freezeNow_acts (regStore Reg.PERF_FREEZE_CTRL (v &&& 4#32) s)
    refine ⟨_, by rw [exec, execPerfFreeze, if_pos hv, gated, if_pos hopen, freezeWrite_freeze hv hat hrun hsched], ?_, hflag, hns, hsec, hrest⟩
    rw [hperf, regStore_perf, ← hsched]
  · intro s v hv hv1 hopen hfrozen hat
    refine ⟨unfreezeNow (regStore Reg.PERF_FREEZE_CTRL (v &&& 4#32) s), ?_, rfl, rfl, ?_, ?_, rfl⟩
    · rw [exec, execPerfUnfreeze, hv, hv1, if_pos (by rfl), gated, if_pos hopen, freezeWrite_unfreeze hv hv1 hat hfrozen]
    · intro hlt
      rw [unfreezeNow_winNext, regStore_perf, regStore_time, if_neg (Nat.not_le.2 hlt)]
    · intro hle
      have hwin : winLen (regStore Reg.PERF_FREEZE_CTRL (v &&& 4#32) s) = winLen s := by
        rw [winLen, fieldOf_regStore_ne _ _ _ _ _ _ (by decide), winLen]
      rw [unfreezeNow_winNext, regStore_perf, regStore_time, if_pos hle, nextMultiple, hwin, regStore_time, nextMultiple]
  · intro s f n hsched hdue
    refine ⟨_, rfl, ?_⟩
    unfold scheduledAct
    simp only [hsched]
    rw [if_pos hdue]
    cases f with
    | true => exact ⟨rfl, rfl, rfl⟩
    | false => exact ⟨rfl, rfl, rfl⟩
  · intro s hen hdue
    refine ⟨_, congrArg Host.Outcome.next (perfDump_due hen hdue), ?_⟩
    exact dumpTake_dumpNumbered ..
  · intro s v hv hopen hrun
    refine ⟨_, by rw [exec, execPerfClear, if_pos hv, gated, if_pos hopen, perfCtrlWrite_clear hv hrun], fun u k => pairOf_clearCounters _, ?_⟩
    split
    · exact clearCounters_frame _
    · exact clearCounters_frame (regStore _ _ s)
  · intro s r rs hbuf hen hok hlost
    have hfield : fieldOf s Reg.SILL_CFG 3 0 = fieldOf (freshOut s) Reg.SILL_CFG 3 0 := (fieldOf_congr rfl ..).symm
    rw [hfield] at hok ⊢
    have htaken := sillDeliver_taken (s := freshOut s) hbuf ((flagOf_congr rfl ..).trans hen) hok hlost
    refine ⟨_, congrArg Host.Outcome.next htaken, (sillPopped_sill ..).trans ?_, bump64_out ..⟩
    rw [(ringStep_placeRec ..).sill]
    rfl

end Sys2Proof.Machine
end


section
/-!
PROOFS. The budget of the Treasury (R415 to R417): grants, refusals, returns and the slew governor.
-/
namespace Sys2Proof.Machine

theorem userAt_congr {s t : State} (h : t.treas = s.treas) (u : Nat) : t.userAt u = s.userAt u := by
  rw [State.userAt, h, State.userAt]

theorem userAt_setUser_same (s : State) (u : Nat) (x : AllowUser) : (s.setUser u x).userAt u = x := Tbl.get_set_same ..

/-- What a grant leaves in the Treasury (R415, R417). -/
theorem grantAllowance_treas (u a : Nat) (s : State) : (grantAllowance u a s).treas = { s.treas with
    users := Tbl.set s.treas.users u {} { st := .granted, grant := a, released := 0, order := s.treas.grants }
    grants := s.treas.grants + 1
    slewQ := s.treas.slewQ ++ List.replicate a (u, true) } := by
  rw [grantAllowance, noteAllowance, emit_treas]
  rfl

theorem grantAllowance_frame (u a : Nat) (s : State) : grantAllowance u a s =
    { s with treas := (grantAllowance u a s).treas, regs := (grantAllowance u a s).regs, sill := (grantAllowance u a s).sill } := by
  rw [grantAllowance, noteAllowance, emit_frame]
  rfl

theorem userAt_grantAllowance (u a : Nat) (s : State) :
    (grantAllowance u a s).userAt u = { st := .granted, grant := a, released := 0, order := s.treas.grants } := by
  have husers : (grantAllowance u a s).treas.users =
      Tbl.set s.treas.users u {} { st := .granted, grant := a, released := 0, order := s.treas.grants } := by rw [grantAllowance_treas]
  rw [State.userAt, husers, Tbl.get_set_same]

/-- What a refusal leaves (R415). -/
theorem refuseAllowance_acts (u a : Nat) (s : State) : (refuseAllowance u a s).treas = s.treas ∧
    flagOf (refuseAllowance u a s) Reg.TREAS_IRQ_CAUSE 0 = true ∧
    refuseAllowance u a s = { s with regs := (refuseAllowance u a s).regs, sill := (refuseAllowance u a s).sill } := by
  unfold refuseAllowance noteAllowance
  refine ⟨by rw [emit_treas, cause_treas, bump_treas], ?_, by rw [emit_frame, cause_frame, bump_frame]⟩
  rw [flagOf_emit_ne _ _ _ _ _ _ (by decide) (by decide)]
  exact flagOf_cause_same _ _ _ (by decide)

/-- The state once a request of user u has joined the queue (R415). -/
def waitingState (u a : Nat) (s : State) : State :=
  let t := s.setUser u { (s.userAt u) with st := .waiting }
  { t with treas := { t.treas with waitQ := s.treas.waitQ ++ [(u, a)] } }

/-- What giving an allowance up leaves in the Treasury: the current in use ramps down (R417). -/
def droppedTreas (s : State) (u : Nat) : Treasury :=
  { s.treas with
    slewQ := s.treas.slewQ.filter (·.1 ≠ u) ++ List.replicate (s.userAt u).released (u, false)
    users := Tbl.set s.treas.users u {} (if (s.userAt u).released = 0 then {} else { s.userAt u with st := .releasing }) }

theorem dropAllowance_granted {u : Nat} {s : State} (h : (s.userAt u).st = .granted) :
    dropAllowance u s = { s with treas := droppedTreas s u } := by
  unfold dropAllowance
  dsimp only
  rw [if_neg (by simp [h])]
  rfl

theorem returnAllowance_granted {u : Nat} {s : State} (h : (s.userAt u).st = .granted) :
    returnAllowance u s = { noteAllowance u 1 (s.userAt u).grant s with treas := droppedTreas s u } := by
  have htreas : (noteAllowance u 1 (s.userAt u).grant s).treas = s.treas := emit_treas ..
  have huser := userAt_congr htreas u
  unfold returnAllowance
  rw [h]
  dsimp only
  rw [dropAllowance_granted (by rw [huser, h]), droppedTreas, huser, htreas, droppedTreas]

theorem slewStep_due {s : State} {u : Nat} {up : Bool} {rest : List (Nat × Bool)} (hq : s.treas.slewQ = (u, up) :: rest)
    (hdue : 13 ≤ since s s.treas.slewAt) : slewStep s =
    ({ s with treas := { s.treas with slewQ := rest, slewAt := s.time.tick } } : State).setUser u
      (if up then { s.userAt u with released := (s.userAt u).released + 1 }
       else if (s.userAt u).released ≤ 1 then {} else { s.userAt u with released := (s.userAt u).released - 1 }) := by
  unfold slewStep
  rw [hq]
  dsimp only
  rw [if_neg (Nat.not_lt.2 hdue)]
  cases up <;> rfl

/-- Settles O22: the branches of `requestAllowance`, and one equation for each of the other commands. -/
theorem allowanceCommandsAct : Obligations.AllowanceCommandsAct := by
  unfold Obligations.AllowanceCommandsAct
  refine ⟨?_, ?_, ?_, ?_, ?_, ?_, ?_⟩
  · intro s u hwants hnone hhold hempty hfits
    have hgrant : requestAllowance u.val (userAmount s u.val) s = grantAllowance u.val (userAmount s u.val) s := by
      rw [requestAllowance, if_neg (not_not.2 hnone), if_neg (by simp only [hhold, Bool.false_eq_true, false_or]; omega), if_pos ⟨hempty, hfits⟩]
    refine ⟨_, by rw [exec, execAllowanceRequest, if_pos hwants, hgrant], userAt_grantAllowance .., ?_, ?_, grantAllowance_frame ..⟩
    · rw [grantAllowance_treas]
    · rw [grantAllowance_treas]; exact hempty
  · intro s u hwants hnone hrefused
    refine ⟨refuseAllowance u.val (userAmount s u.val) s, ?_, refuseAllowance_acts ..⟩
    rw [exec, execAllowanceRequest, if_pos hwants, requestAllowance, if_neg (not_not.2 hnone), if_pos hrefused]
  · intro s u hwants hnone hhold hsome hwaits
    have hwait : ¬ (s.treas.waitQ = [] ∧ reserveV s + grantedG s + userAmount s u.val ≤ budgetB s) := by
      rintro ⟨hempty, hfits⟩
      rcases hwaits with hq | hlt
      · exact hq hempty
      · omega
    refine ⟨waitingState u.val (userAmount s u.val) s, ?_, ?_, rfl, rfl⟩
    · rw [exec, execAllowanceRequest, if_pos hwants, requestAllowance, if_neg (not_not.2 hnone),
        if_neg (by simp only [hhold, Bool.false_eq_true, false_or]; omega), if_neg hwait]
      rfl
    · exact congrArg AllowUser.st (userAt_setUser_same s u.val { (s.userAt u.val) with st := .waiting })
  · intro s u hends hgranted
    refine ⟨{ noteAllowance u.val 1 (s.userAt u.val).grant s with treas := droppedTreas s u.val }, ?_, rfl, Tbl.get_set_same .., ?_⟩
    · rw [exec, execAllowanceReturn, if_pos hends, returnAllowance_granted hgranted]
    · rw [noteAllowance, emit_frame]
  · intro s u a rest hq hfits
    refine ⟨grantAllowance u a { s with treas := { s.treas with waitQ := rest } }, ?_, ?_, userAt_grantAllowance .., ?_⟩
    · rw [exec, execAllowanceGrant, grantHead, hq]
      exact congrArg Host.Outcome.next (if_pos hfits)
    · rw [grantAllowance_treas]
    · rw [grantAllowance_frame]
  · intro s u rest hq hdue
    exact ⟨_, congrArg Host.Outcome.next (slewStep_due hq hdue), rfl, Tbl.get_set_same .., rfl⟩
  · intro s u rest hq hdue
    exact ⟨_, congrArg Host.Outcome.next (slewStep_due hq hdue), rfl, Tbl.get_set_same .., rfl⟩

end Sys2Proof.Machine
end


section
/-!
PROOFS. Power domains (R410 to R413): what a change of a domain's state and its preparations leave in the Treasury.
-/
namespace Sys2Proof.Machine

theorem domAt_congr {s t : State} (h : t.treas = s.treas) (d : Nat) : t.domAt d = s.domAt d := by rw [State.domAt, h, State.domAt]

theorem treas_of_power {s t : State} (h : t.power = s.power) : t.treas = s.treas := congrArg Prod.fst h

theorem pins_of_power {s t : State} (h : t.power = s.power) : t.pins = s.pins := congrArg Prod.snd h

/-! ### Stores into a register of the TREAS block -/

theorem plainWrite_ne (o p : Nat) (v : Word32) (s : State) (h : o ≠ p) : regRead (plainWrite o v s) p = regRead s p := by
  unfold plainWrite
  split
  · exact regRead_store_ne _ _ _ _ h
  · rfl

/-! ### A domain's state -/

theorem setPstate_treas (p : PState) (s : State) : (setPstate p s).treas = { s.treas with pstate := p } := by
  unfold setPstate
  split
  next h => rw [← h]
  next => rw [emit_treas]

theorem setPstate_frame (p : PState) (s : State) : setPstate p s =
    { s with treas := (setPstate p s).treas, regs := (setPstate p s).regs, sill := (setPstate p s).sill } := by
  unfold setPstate
  split
  · rfl
  · rw [emit_frame]

theorem settlePstate_treas (s : State) : ∃ p, (settlePstate s).treas = { s.treas with pstate := p } := by
  unfold settlePstate
  split
  · exact ⟨_, setPstate_treas ..⟩
  · exact ⟨s.treas.pstate, rfl⟩

theorem settlePstate_frame (s : State) : settlePstate s =
    { s with treas := (settlePstate s).treas, regs := (settlePstate s).regs, sill := (settlePstate s).sill } := by
  unfold settlePstate
  split
  · exact setPstate_frame ..
  · rfl

/-- Only the states of the domains and the power state change with a domain's state. -/
theorem setDomain_treas (d : Nat) (x : DomState) (s : State) :
    ∃ ds p, (setDomain d x s).treas = { s.treas with doms := ds, pstate := p } ∧ ∀ e, Tbl.get ds e .off = if e = d then x else s.domAt e := by
  unfold setDomain
  split
  next h =>
    refine ⟨s.treas.doms, s.treas.pstate, rfl, fun e => ?_⟩
    split
    next he => rw [he]; exact h
    next => rfl
  next =>
    obtain ⟨p, hp⟩ := settlePstate_treas (emit 0x002 0x0A (d + 2 ^ 5 * x.code) (s.setDom d x))
    refine ⟨Tbl.set s.treas.doms d .off x, p, hp.trans ?_, fun e => ?_⟩
    · rw [emit_treas]; rfl
    · rw [Tbl.get_set, State.domAt]
      simp only [eq_comm]

theorem domAt_setDomain (d e : Nat) (x : DomState) (s : State) : (setDomain d x s).domAt e = if e = d then x else s.domAt e := by
  obtain ⟨ds, p, htreas, hdoms⟩ := setDomain_treas d x s
  rw [State.domAt, htreas]
  exact hdoms e

/-! ### Allowances given up -/

theorem dropAllowance_treas (u : Nat) (s : State) :
    ∃ us q, (dropAllowance u s).treas = { s.treas with users := us, slewQ := q } := by
  unfold dropAllowance
  dsimp only
  split
  · exact ⟨s.treas.users, s.treas.slewQ, rfl⟩
  · exact ⟨_, _, rfl⟩

theorem returnAllowance_treas (u : Nat) (s : State) :
    ∃ us w q, (returnAllowance u s).treas = { s.treas with users := us, waitQ := w, slewQ := q } := by
  unfold returnAllowance
  split
  · obtain ⟨us, q, h⟩ := dropAllowance_treas u (noteAllowance u 1 (s.userAt u).grant s)
    refine ⟨us, s.treas.waitQ, q, h.trans ?_⟩
    rw [noteAllowance, emit_treas]
  · exact ⟨_, _, _, rfl⟩
  · exact ⟨s.treas.users, s.treas.waitQ, s.treas.slewQ, rfl⟩

/-! ### Up and down -/

theorem domainUp_treas (d : Nat) (kept : Bool) (s : State) : (domainUp d kept s).treas = (setDomain d .on s).treas := by
  refine treas_of_power ?_
  unfold domainUp
  dsimp only
  generalize setDomain d .on s = t
  split_ifs <;>
    simp only [octetStart_power, hostRelease_power, State.modLedger_power, nosePowerUp_power, tethBringUp_power, cofferClear_power]

/-- A domain's preparations for its supply to go (R412). -/
def domainPrepare (d : Nat) (s : State) : State :=
  if 1 ≤ d ∧ d ≤ 8 then octetStop (d - 1) s
  else if 9 ≤ d ∧ d ≤ 12 then paceOff (d - 9) s
  else if 13 ≤ d ∧ d ≤ 16 then writeBackAll (d - 13) s
  else if 17 ≤ d ∧ d ≤ 20 then s |> noseOff (d - 17) |> returnAllowance (d - 17)
  else if d = 26 then tethOff s
  else s

theorem domainPrepare_treas (d : Nat) (s : State) :
    ∃ us w q, (domainPrepare d s).treas = { s.treas with users := us, waitQ := w, slewQ := q } := by
  have hkeep {t : State} (h : t.power = s.power) : ∃ us w q, t.treas = { s.treas with users := us, waitQ := w, slewQ := q } :=
    ⟨s.treas.users, s.treas.waitQ, s.treas.slewQ, treas_of_power h⟩
  unfold domainPrepare
  split_ifs
  · exact hkeep (octetStop_power ..)
  · exact hkeep (paceOff_power ..)
  · exact hkeep (writeBackAll_power ..)
  · obtain ⟨us, w, q, h⟩ := returnAllowance_treas (d - 17) (noseOff (d - 17) s)
    refine ⟨us, w, q, h.trans ?_⟩
    rw [treas_of_power (noseOff_power ..)]
  · exact hkeep (tethOff_power ..)
  · exact hkeep rfl

/-- What a domain's way down leaves in the Treasury (R412). -/
theorem domainDown_treas (d : Nat) (x : DomState) (s : State) : ∃ ds p us w q,
    (domainDown d x s).treas = { s.treas with doms := ds, pstate := p, users := us, waitQ := w, slewQ := q } ∧
    ∀ e, Tbl.get ds e .off = if e = d then x else s.domAt e := by
  have hsplit : (domainDown d x s).treas = (setDomain d x (domainPrepare d s)).treas := by
    refine treas_of_power ?_
    unfold domainDown
    dsimp only
    rw [← domainPrepare]
    generalize setDomain d x (domainPrepare d s) = t
    split_ifs <;> simp only [cofferClear_power, State.modLedger_power]
  obtain ⟨us, w, q, hprep⟩ := domainPrepare_treas d s
  obtain ⟨ds, p, htreas, hdoms⟩ := setDomain_treas d x (domainPrepare d s)
  have hdom (e : Nat) : (domainPrepare d s).domAt e = s.domAt e := by rw [State.domAt, hprep, State.domAt]
  refine ⟨ds, p, us, w, q, by rw [hsplit, htreas, hprep], fun e => ?_⟩
  rw [hdoms, hdom]

theorem domAt_domainDown (d e : Nat) (x : DomState) (s : State) : (domainDown d x s).domAt e = if e = d then x else s.domAt e := by
  obtain ⟨ds, p, us, w, q, htreas, hdoms⟩ := domainDown_treas d x s
  rw [State.domAt, htreas]
  exact hdoms e

/-- The end of an exit from QUIET changes the power state and the transition alone. -/
theorem quietLeft_treas (s : State) : ∃ p x, (quietLeft s).treas = { s.treas with pstate := p, trans := x } := by
  unfold quietLeft
  split
  · split
    · exact ⟨_, _, setPstate_treas ..⟩
    · exact ⟨s.treas.pstate, s.treas.trans, rfl⟩
  · exact ⟨s.treas.pstate, s.treas.trans, rfl⟩

/-! ### Commands -/

/-- What the checks of a domain request rest on: none of it is a register (R411, R413). -/
def domainReqOk (s : State) (d st : Nat) : Bool :=
  !(!running s || s.treas.pstate == .quiet || !s.treas.exist.testBit d || !mayRequest d st || (d == 27 && st != 2 && loadBusy s))

theorem domainReqOk_plainWrite (o : Nat) (v : Word32) (s : State) (d st : Nat) : domainReqOk (plainWrite o v s) d st = domainReqOk s d st := by
  rw [plainWrite_frame]
  rfl

theorem domainReqWrite_go {v : Word32} {s : State} (h : v.getLsbD 31 = true) : domainReqWrite v s =
    if domainReqOk s (bits v.toNat 4 0) (bits v.toNat 9 8) then
      acceptDomain (bits v.toNat 9 8) (requestedDomains (bits v.toNat 4 0)) (plainWrite Reg.TREAS_DOMAIN_REQ v s)
    else cause Reg.TREAS_IRQ_CAUSE 10 (plainWrite Reg.TREAS_DOMAIN_REQ v s) := by
  rw [← domainReqOk_plainWrite Reg.TREAS_DOMAIN_REQ v s]
  unfold domainReqWrite domainReqOk
  dsimp only
  rw [if_neg (by rw [h]; decide)]
  generalize plainWrite Reg.TREAS_DOMAIN_REQ v s = t
  cases (!running t || t.treas.pstate == .quiet || !t.treas.exist.testBit (bits v.toNat 4 0) ||
    !mayRequest (bits v.toNat 4 0) (bits v.toNat 9 8) || (bits v.toNat 4 0 == 27 && bits v.toNat 9 8 != 2 && loadBusy t)) <;> rfl

/-- The state once the ramp of domain d has begun. -/
theorem rampStart_first {s : State} {d : Nat} {rest : List Nat} (hq : s.treas.rampQueue = d :: rest) (hnone : s.treas.ramping = none)
    (hhold : brownHold s = false) (hallowed : rampAllowed s d = true) : rampStart d s =
    setDomain d .ramp { s with treas := { s.treas with rampQueue := rest, ramping := some (d, s.time.tick, s.domAt d == .retention) } } := by
  unfold rampStart
  rw [hq, hnone]
  dsimp only
  rw [if_neg (by simp [hhold, hallowed])]

/-- Settles O23: a request by its checks, ramps and power-downs by what they leave in the Treasury. -/
theorem domainCommandsAct : Obligations.DomainCommandsAct := by
  unfold Obligations.DomainCommandsAct
  refine ⟨?_, ?_, ?_, ?_, ?_⟩
  · intro s v hv hrun hquiet hexist hmay hload
    rw [exec, execDomainRequest, if_pos hv, domainReqWrite_go hv, if_pos]
    unfold domainReqOk
    simp only [hrun, hexist, hmay]
    rcases hload with h | h | h <;> simp [hquiet, h]
  · intro s v hv hbad
    refine ⟨cause Reg.TREAS_IRQ_CAUSE 10 (plainWrite Reg.TREAS_DOMAIN_REQ v s), ?_, ?_, flagOf_cause_same _ _ _ (by decide), ?_⟩
    · rw [exec, execDomainRequest, if_pos hv, domainReqWrite_go hv, if_neg]
      unfold domainReqOk
      rcases hbad with h | h | h | h <;> simp [h]
    · rw [cause_treas, plainWrite_frame]
    · rw [cause_frame, plainWrite_frame]
  · intro s d rest hq hnone hhold hallowed
    refine ⟨_, congrArg Host.Outcome.next (rampStart_first hq hnone hhold hallowed), by rw [domAt_setDomain, if_pos rfl], ?_, ?_⟩
    · obtain ⟨ds, p, htreas, -⟩ := setDomain_treas d.val .ramp
        { s with treas := { s.treas with rampQueue := rest, ramping := some (d.val, s.time.tick, s.domAt d.val == .retention) } }
      rw [htreas]
    · obtain ⟨ds, p, htreas, -⟩ := setDomain_treas d.val .ramp
        { s with treas := { s.treas with rampQueue := rest, ramping := some (d.val, s.time.tick, s.domAt d.val == .retention) } }
      rw [htreas]
  · intro s d a k hramping hdue
    refine ⟨rampEnd d.val k s, ?_, ?_⟩
    · rw [exec, execDomainRampDone, rampDone, hramping]
      exact congrArg Host.Outcome.next (if_pos ⟨rfl, hdue⟩)
    · unfold rampEnd
      generalize (if (s.userAt 10).st = .granted then _ else s : State) = t
      obtain ⟨p, x, hleft⟩ := quietLeft_treas
        (domainUp d.val k { t with treas := { t.treas with ramping := none, slewQ := t.treas.slewQ.filter (·.1 ≠ 10) } })
      obtain ⟨ds, p', htreas, hdoms⟩ := setDomain_treas d.val .on
        { t with treas := { t.treas with ramping := none, slewQ := t.treas.slewQ.filter (·.1 ≠ 10) } }
      rw [domainUp_treas, htreas] at hleft
      refine ⟨?_, by dsimp only; rw [hleft]⟩
      dsimp only
      rw [State.domAt, hleft]
      exact (hdoms d.val).trans (if_pos rfl)
  · intro s d x hgoal
    refine ⟨domainDown d.val x { s with treas := { s.treas with goals := s.treas.goals.filter (·.1 ≠ d.val) } }, ?_, ?_, ?_⟩
    · rw [exec, execDomainPowerDown, powerDown, hgoal]
    · rw [domAt_domainDown, if_pos rfl]
    · obtain ⟨ds, p, us, w, q, htreas, -⟩ := domainDown_treas d.val x { s with treas := { s.treas with goals := s.treas.goals.filter (·.1 ≠ d.val) } }
      rw [htreas]

end Sys2Proof.Machine
end


section
/-!
PROOFS. Power states (R414): entry to QUIET, its steps and its exit, and power off.
-/
namespace Sys2Proof.Machine

/-! ### Registers that a reset of the core keeps -/

/-- A filter by key reads as the table where the key passes. -/
theorem Tbl.get_filter {α : Type} (p : Nat → Bool) (t : Tbl α) (i : Nat) (d : α) :
    Tbl.get (t.filter fun e => p e.1) i d = if p i then Tbl.get t i d else d := by
  have hfind : Tbl.find (t.filter fun e => p e.1) i = if p i then Tbl.find t i else none := by
    induction t with
    | nil => simp [Tbl.find]
    | cons e t ih =>
      obtain ⟨k, v⟩ := e
      rw [List.filter_cons]
      by_cases hk : k = i
      · subst hk
        cases hp : p k <;> simp [Tbl.find, ih, hp]
      · cases hp : p k <;> simp [Tbl.find, ih, hk]
  rw [Tbl.get, hfind]
  split <;> rfl

/-- The registers that `coreReset` keeps: those of the TREAS block but the Pace status. -/
def coreKeeps (off : Nat) : Bool :=
  0x20000 ≤ off ∧ off < 0x30000 ∧ ¬(Reg.TREAS_PACE_STATUS 0 ≤ off ∧ off ≤ Reg.TREAS_PACE_STATUS 3)

theorem regRead_coreReset (s : State) (off : Nat) : regRead (coreReset s) off = if coreKeeps off then regRead s off else resetOf off :=
  Tbl.get_filter coreKeeps s.regs off (resetOf off)

theorem coreReset_treas (s : State) : (coreReset s).treas = { s.treas with
    doms := [(0, .on)], exist := 0, rampQueue := [], goals := [], ramping := none, pstate := .off, trans := none, quieted := []
    stalled := false, users := [], waitQ := [], slewQ := [], goodSince := none, paceAt := [] } := rfl

/-- Of the domains PD0 alone is ON in the table that a reset of the core leaves. -/
theorem get_pd0 (d : Nat) : Tbl.get [(0, DomState.on)] d .off = if d = 0 then .on else .off := by
  by_cases h : d = 0
  · rw [h]; rfl
  · rw [if_neg h, Tbl.get, Tbl.find, if_neg (Ne.symm h)]; rfl

/-! ### Entry to QUIET -/

theorem quietEnter_refused {s : State} (h : s.treas.pstate = .off ∨ s.treas.pstate = .quiet ∨ s.loader.st ≠ .run ∨ s.treas.trans ≠ none ∨
    brownHold s = true) : quietEnter false s = cause Reg.TREAS_IRQ_CAUSE 9 s := by
  unfold quietEnter
  rw [if_neg, if_neg (by decide)]
  rintro ⟨hp, hrun, htrans, hhold⟩
  rcases h with h | h | h | h | h
  · simp [h] at hp
  · simp [h] at hp
  · exact h hrun
  · exact h htrans
  · simp [h] at hhold

theorem quietEnter_begun {s : State} (hp : s.treas.pstate = .full ∨ s.treas.pstate = .trimmed) (hrun : s.loader.st = .run)
    (htrans : s.treas.trans = none) (hhold : brownHold s = false) :
    quietEnter false s = { s with treas := { s.treas with trans := some (true, s.time.tick), stalled := false } } :=
  if_pos ⟨hp, hrun, htrans, .inr (by rw [hhold]; rfl)⟩

/-- A power-state command is judged on the state as it stood: its register is no part of what decides. -/
theorem pstateCmdWrite_go {v : Word32} {s : State} (h : v.getLsbD 31 = true) :
    pstateCmdWrite v s = pstateCommand (bits v.toNat 1 0) (plainWrite Reg.TREAS_PSTATE_CMD v s) := if_pos h

theorem execQuietEnter_go {v : Word32} {s : State} (h : v.getLsbD 31 = true) (ht : bits v.toNat 1 0 = 3) :
    exec (.quietEnter v) s = .next (quietEnter false (plainWrite Reg.TREAS_PSTATE_CMD v s)) := by
  rw [exec, execQuietEnter, if_pos ⟨h, ht⟩, pstateCmdWrite_go h, pstateCommand, if_neg (by omega), if_pos ht]

theorem plainWrite_rest (o : Nat) (v : Word32) (s : State) : (plainWrite o v s).treas = s.treas ∧ (plainWrite o v s).loader = s.loader ∧
    (plainWrite o v s).time = s.time := by
  rw [plainWrite_frame]
  exact ⟨rfl, rfl, rfl⟩

theorem brownHold_congr {s t : State} (h : t.treas = s.treas) : brownHold t = brownHold s := by rw [brownHold, h, brownHold]

/-! ### The steps of entry -/

theorem domAt_foldl_domainDown (x : DomState) (ds : List Nat) (e : Nat) (s : State) :
    (ds.foldl (fun s d => domainDown d x s) s).domAt e = if e ∈ ds then x else s.domAt e := by
  induction ds generalizing s with
  | nil => simp
  | cons d ds ih =>
    rw [List.foldl_cons, ih, domAt_domainDown]
    by_cases hd : e = d <;> simp [hd]

/-- The domains that entry takes down to OFF, and to retention (R414). -/
def quietOffs (s : State) : List Nat := [1, 2, 3, 4, 5, 6, 7, 8, 26].filter fun d => s.domAt d != .off
def quietRets (s : State) : List Nat := [13, 14, 15, 16, 27].filter fun d => s.domAt d == .on || s.domAt d == .ramp

/-- The state once the domains of QUIET are down. -/
def quietDowned (s : State) : State :=
  let t := { s with treas := { s.treas with rampQueue := [], goals := [], ramping := none, quieted := quietRets s ++ quietOffs s } }
  (quietRets s).foldl (fun s d => domainDown d .retention s) ((quietOffs s).foldl (fun s d => domainDown d .off s) t)

theorem domAt_quietDowned (s : State) (e : Nat) :
    (quietDowned s).domAt e = if e ∈ quietRets s then .retention else if e ∈ quietOffs s then .off else s.domAt e := by
  unfold quietDowned
  rw [domAt_foldl_domainDown, domAt_foldl_domainDown]
  rfl

theorem quietSteps_treas (s : State) : (quietSteps s).treas = { (quietDowned s).treas with
    trans := none, stalled := false, vPreQuiet := fieldOf (quietDowned s) Reg.TREAS_AVS_STATUS 11 0, pstate := .quiet } := by
  obtain ⟨mv, hsplit⟩ : ∃ mv, quietSteps s = (setPstate .quiet { quietDowned s with treas := { (quietDowned s).treas with
      trans := none, stalled := false, vPreQuiet := fieldOf (quietDowned s) Reg.TREAS_AVS_STATUS 11 0 } } |> srBeginAll |> setVout mv) :=
    ⟨_, rfl⟩
  rw [hsplit, treas_of_power (setVout_power ..), treas_of_power (srBeginAll_power ..), setPstate_treas]

/-! ### Exit and power off -/

theorem deviceTemp_plainWrite {o : Nat} (v : Word32) (s : State) (h : ∀ k, o ≠ Reg.TREAS_TEMP k) : deviceTemp (plainWrite o v s) = deviceTemp s := by
  have hsensor (k : Nat) : sensor (plainWrite o v s) k = sensor s k := by
    unfold sensor flagOf fieldOf
    rw [plainWrite_ne _ _ _ _ (h k)]
  rw [deviceTemp, funext hsensor, deviceTemp]

theorem pstateCmd_ne_temp (k : Nat) : Reg.TREAS_PSTATE_CMD ≠ Reg.TREAS_TEMP k := by
  simp only [Reg.TREAS_PSTATE_CMD, Reg.TREAS_TEMP]
  omega

/-- The device is still above WARN_C after a trip: QUIET may not be left (R422). -/
def tooWarm (s : State) : Bool :=
  s.treas.trip && Decidable.decide (4 * ((fieldOf s Reg.TREAS_THERM_CFG 7 0 : Nat) : Int) < deviceTemp s)

theorem tooWarm_plainWrite (v : Word32) (s : State) : tooWarm (plainWrite Reg.TREAS_PSTATE_CMD v s) = tooWarm s := by
  rw [tooWarm, deviceTemp_plainWrite v s pstateCmd_ne_temp, (plainWrite_rest ..).1, fieldOf, plainWrite_ne _ _ _ _ (by decide), tooWarm, fieldOf]

/-- What the exit from QUIET leaves in the Treasury while domains have yet to ramp (R414). -/
theorem quietExit_treas {s : State} (hp : s.treas.pstate = .quiet) (htrans : s.treas.trans = none) (hhold : brownHold s = false)
    (hcool : tooWarm s = false) (hq : s.treas.quieted ≠ []) : (quietExit s).treas = { s.treas with
      trans := some (false, s.time.tick), trip := false, rampQueue := s.treas.quieted, quieted := [] } := by
  have hgo : ¬ (s.treas.pstate ≠ .quiet ∨ s.treas.trans ≠ none ∨ brownHold s = true ∨ tooWarm s = true) := by
    simp [hp, htrans, hhold, hcool]
  have hvout := treas_of_power (setVout_power s.treas.vPreQuiet s)
  have htick : (setVout s.treas.vPreQuiet s).time.tick = s.time.tick := congrArg (·.2.2.1) (setVout_kept s.treas.vPreQuiet s)
  unfold quietExit
  dsimp only
  rw [← tooWarm, if_neg hgo, hvout, htick]
  generalize hu : srEndAll _ = u
  have hut : u.treas = { s.treas with trans := some (false, s.time.tick), trip := false, rampQueue := s.treas.quieted, quieted := [] } := by
    rw [← hu, treas_of_power (srEndAll_power ..)]
  have hwait : ¬ (u.treas.rampQueue.isEmpty && u.treas.ramping.isNone) = true := by
    rw [hut]
    simp [hq]
  unfold quietLeft
  split
  · rw [if_neg hwait, hut]
  · exact hut

/-- Settles O24: each command by the lemma about its operation; entry by the domains that it takes down. -/
theorem powerStateCommandsAct : Obligations.PowerStateCommandsAct := by
  unfold Obligations.PowerStateCommandsAct
  refine ⟨?_, ?_, ?_, ?_, ?_, ?_⟩
  · intro s v hv ht hp hrun htrans hhold
    obtain ⟨htreas, hloader, htime⟩ := plainWrite_rest Reg.TREAS_PSTATE_CMD v s
    refine ⟨_, (execQuietEnter_go hv ht).trans (congrArg Host.Outcome.next
      (quietEnter_begun (htreas ▸ hp) (hloader ▸ hrun) (htreas ▸ htrans) ((brownHold_congr htreas).trans hhold))), ?_, ?_⟩
    · dsimp only; rw [htreas, htime]
    · rw [plainWrite_frame]
  · intro s v hv ht hbad
    obtain ⟨htreas, hloader, htime⟩ := plainWrite_rest Reg.TREAS_PSTATE_CMD v s
    refine ⟨cause Reg.TREAS_IRQ_CAUSE 9 (plainWrite Reg.TREAS_PSTATE_CMD v s), ?_, ?_, flagOf_cause_same _ _ _ (by decide), ?_⟩
    · rw [execQuietEnter_go hv ht, quietEnter_refused]
      rwa [brownHold_congr htreas, htreas, hloader]
    · rw [cause_treas, htreas]
    · rw [cause_frame, plainWrite_frame]
  · intro s a htrans hdue hramp hready
    have hcond : (quietTmo s ≤ since s a && s.treas.ramping.isNone && quietReady s) = true := by simp [hdue, hramp, hready]
    have hdom (d : Nat) : (quietSteps s).domAt d = (quietDowned s).domAt d := by rw [State.domAt, quietSteps_treas, State.domAt]
    refine ⟨quietSteps s, ?_, by rw [quietSteps_treas], by rw [quietSteps_treas], ?_, ?_, ?_⟩
    · rw [exec, execQuietEntryComplete, quietComplete, htrans]
      exact congrArg Host.Outcome.next (if_pos hcond)
    · intro d hd
      have hnot : d ∉ quietRets s := by
        simp only [quietRets, List.mem_filter, not_and_or]
        left; revert d; decide
      rw [hdom, domAt_quietDowned, if_neg hnot, quietOffs]
      by_cases hoff : s.domAt d = .off <;> simp [List.mem_filter, hd, hoff]
    · intro d hd hon
      have hmem : d ∈ quietRets s := by
        simp only [quietRets, List.mem_filter, hd, true_and]
        rcases hon with h | h <;> simp [h]
      rw [hdom, domAt_quietDowned, if_pos hmem]
    · intro d hd
      have hrets : d ∉ quietRets s := fun h => hd (by simp [quietRets] at h; simp; omega)
      have hoffs : d ∉ quietOffs s := fun h => hd (by simp [quietOffs] at h; simp; omega)
      rw [hdom, domAt_quietDowned, if_neg hrets, if_neg hoffs]
  · intro s a htrans hdue hstalled
    refine ⟨cause Reg.TREAS_IRQ_CAUSE 8 { s with treas := { s.treas with stalled := true } }, ?_, rfl, flagOf_cause_same _ _ _ (by decide), rfl⟩
    rw [exec, execQuietStall, quietStall, htrans]
    exact congrArg Host.Outcome.next (if_pos ⟨hdue, hstalled⟩)
  · intro s v hv ht hp htrans hhold hcool hq
    obtain ⟨htreas, hloader, htime⟩ := plainWrite_rest Reg.TREAS_PSTATE_CMD v s
    have hwarm : tooWarm s = false := by
      rcases hcool with h | h
      · simp [tooWarm, h]
      · simp [tooWarm]; omega
    refine ⟨quietExit (plainWrite Reg.TREAS_PSTATE_CMD v s), ?_, ?_⟩
    · rw [exec, execQuietExit, if_pos ⟨hv, ht⟩, pstateCmdWrite_go hv, pstateCommand, if_neg (by omega), if_neg (by omega)]
    · dsimp only
      rw [quietExit_treas (htreas ▸ hp) (htreas ▸ htrans) ((brownHold_congr htreas).trans hhold) ((tooWarm_plainWrite v s).trans hwarm)
        (htreas ▸ hq), htreas, htime]
  · intro s v hv ht
    refine ⟨powerOff (resetCause 4 (plainWrite Reg.TREAS_PSTATE_CMD v s)), ?_, rfl, rfl, get_pd0, ?_, ?_, ?_⟩
    · rw [exec, execPowerOffCmd, if_pos ⟨hv, ht⟩, pstateCmdWrite_go hv, pstateCommand, if_pos ht]
    · have hread : regRead (powerOff (resetCause 4 (plainWrite Reg.TREAS_PSTATE_CMD v s))) Reg.TREAS_RESET_CAUSE =
          regRead (resetCause 4 (plainWrite Reg.TREAS_PSTATE_CMD v s)) Reg.TREAS_RESET_CAUSE :=
        (regRead_coreReset _ _).trans (if_pos (by decide))
      rw [flagOf, hread]
      exact flagOf_cause_same _ _ _ (by decide)
    · exact (coreReset_held _).trans (by rw [resetCause, cause_frame, plainWrite_frame]; rfl)
    · rw [powerOff, resetCause, cause_frame, plainWrite_frame]; rfl

end Sys2Proof.Machine
end


section
/-!
PROOFS. Supplies and brownout (R424 to R427), and the reads of the SMBus sideband (R428).
-/
namespace Sys2Proof.Machine

/-! ### Brownout -/

/-- What the revocation of allowances may change of the Treasury, and that it leaves the pins. -/
structure AllowStep (s t : State) : Prop where
  treas : ∃ us w q, t.treas = { s.treas with users := us, waitQ := w, slewQ := q }
  pins : t.pins = s.pins

theorem allowStep_of_power {s t : State} (h : t.power = s.power) : AllowStep s t :=
  ⟨⟨s.treas.users, s.treas.waitQ, s.treas.slewQ, treas_of_power h⟩, pins_of_power h⟩

theorem AllowStep.trans {s t u : State} (h : AllowStep s t) (k : AllowStep t u) : AllowStep s u := by
  obtain ⟨us, w, q, htreas⟩ := h.treas
  obtain ⟨us', w', q', ktreas⟩ := k.treas
  exact ⟨⟨us', w', q', by rw [ktreas, htreas]⟩, k.pins.trans h.pins⟩

theorem allowStep_dropAllowance (u : Nat) (s : State) : AllowStep s (dropAllowance u s) := by
  obtain ⟨us, q, h⟩ := dropAllowance_treas u s
  refine ⟨⟨us, s.treas.waitQ, q, h⟩, ?_⟩
  unfold dropAllowance
  dsimp only
  split <;> rfl

theorem allowStep_revokeAllowance (u : Nat) (s : State) : AllowStep s (revokeAllowance u s) := by
  unfold revokeAllowance noteAllowance
  refine .trans (allowStep_of_power ?_) (allowStep_dropAllowance u _)
  rw [emit_power, cause_power, bump_power]

theorem allowStep_refuseAllowance (u a : Nat) (s : State) : AllowStep s (refuseAllowance u a s) := by
  unfold refuseAllowance noteAllowance
  exact allowStep_of_power (by rw [emit_power, cause_power, bump_power])

theorem allowStep_setUser (u : Nat) (x : AllowUser) (s : State) : AllowStep s (s.setUser u x) := ⟨⟨_, _, _, rfl⟩, rfl⟩

theorem allowStep_foldl {α : Type} (f : State → α → State) (h : ∀ s x, AllowStep s (f s x)) (l : List α) (s : State) :
    AllowStep s (l.foldl f s) := by
  induction l generalizing s with
  | nil => exact allowStep_of_power rfl
  | cons x l ih => exact (h s x).trans (ih _)

theorem allowStep_revokeAll (n : Nat) (s : State) : AllowStep s (revokeAll n s) := by
  induction n generalizing s with
  | zero => exact allowStep_of_power rfl
  | succ n ih =>
    unfold revokeAll
    split
    · exact (allowStep_revokeAllowance _ s).trans (ih _)
    · refine .trans (⟨⟨_, _, _, rfl⟩, rfl⟩ : AllowStep s { s with treas := { s.treas with waitQ := [] } }) (allowStep_foldl _ (fun s x => ?_) _ _)
      exact (allowStep_setUser ..).trans (allowStep_refuseAllowance ..)

theorem setBrown_treas (x : Brown) (s : State) : (setBrown x s).treas = { s.treas with brown := x } := by
  rw [setBrown, emit_treas, bump_treas]

theorem setBrown_pins (x : Brown) (s : State) : (setBrown x s).pins = s.pins := by rw [setBrown, emit_pins, bump_pins]

/-- A warning from NORMAL or RECOVER enters the hold (R425). -/
theorem brownWarn_enters {s : State} (hporst : s.pins.porstLow = false) (h : s.treas.brown = .normal ∨ s.treas.brown = .recover) :
    (∃ us w q, (brownWarn s).treas = { s.treas with brown := .hold, users := us, waitQ := w, slewQ := q }) ∧ (brownWarn s).pins = s.pins := by
  have hgo : ¬ (s.pins.porstLow = true ∨ s.treas.brown = .hold ∨ s.treas.brown = .holdSr) := by
    rw [hporst]
    rcases h with h | h <;> simp [h]
  have hstart : (cause Reg.TREAS_IRQ_CAUSE 2 (setBrown .hold s)).treas = { s.treas with brown := .hold } := by
    rw [cause_treas, setBrown_treas]
  have hpins : (cause Reg.TREAS_IRQ_CAUSE 2 (setBrown .hold s)).pins = s.pins := by rw [cause_pins, setBrown_pins]
  unfold brownWarn
  rw [if_neg hgo]
  dsimp only
  generalize cause Reg.TREAS_IRQ_CAUSE 2 (setBrown .hold s) = t at hstart hpins
  have hflush : AllowStep t (brownoutFlush ((List.range 4).foldl (fun s b => noseStop b s) (revokeAll 12 t))) :=
    (allowStep_revokeAll 12 t).trans (allowStep_of_power (by rw [brownoutFlush_power, State.power_foldl _ (fun s b => noseStop_power b s)]))
  split
  · exact ⟨⟨s.treas.users, s.treas.waitQ, s.treas.slewQ, hstart⟩, hpins⟩
  · obtain ⟨us, w, q, htreas⟩ := hflush.treas
    exact ⟨⟨us, w, q, by rw [htreas, hstart]⟩, hflush.pins.trans hpins⟩

/-- The measurement of VDD_CORE is a register of its own. -/
theorem measured_frame (mv : Nat) (s : State) : measured mv s = { s with regs := (measured mv s).regs } := setField_frame ..

theorem warnMv_measured (mv : Nat) (s : State) : warnMv (measured mv s) = warnMv s := by
  rw [warnMv, fieldOf, measured, regRead_setField_ne _ _ _ _ _ _ (by decide), warnMv, fieldOf]

theorem noseAt_foldl_resume (b : Nat) (hb : b < 4) (s : State) :
    (((List.range 4).foldl (fun s b => noseResume b s) s).noseAt b).hold = false := by
  refine foldl_reaches (P := fun s => (s.noseAt b).hold = false) _ (List.mem_range.2 hb) (fun t => ?_) (fun t c ht => ?_) s
  · rw [noseResume, State.noseAt_modNose_same]
  · rw [noseResume, State.noseAt_modNose]
    split
    · rfl
    · exact ht

theorem foldl_resume_treas (s : State) : ((List.range 4).foldl (fun s b => noseResume b s) s).treas = s.treas :=
  treas_of_power (State.power_foldl _ (fun s b => State.modNose_power ..) _ _)

/-- Settles O26: a warning, its hold and its end by the changes of state; the resets by what they keep. -/
theorem brownoutCommandsAct : Obligations.BrownoutCommandsAct := by
  unfold Obligations.BrownoutCommandsAct
  refine ⟨?_, ?_, ?_, ?_, ?_, ?_, ?_⟩
  · intro s hporst hbrown
    obtain ⟨⟨us, w, q, htreas⟩, hpins⟩ := brownWarn_enters (s := { s with
      pins := { s.pins with pwrwarnLow := true }
      treas := { s.treas with warnSince := some (s.treas.warnSince.getD s.time.tick) } }) hporst hbrown
    refine ⟨pwrwarn s, rfl, ?_, ?_, hpins⟩
    · rw [pwrwarn, htreas]
    · rw [pwrwarn, htreas]
  · intro s mv hporst hmv hbrown
    obtain ⟨⟨us, w, q, htreas⟩, hpins⟩ := brownWarn_enters
      (s := { measured mv s with treas := { (measured mv s).treas with coreLow := true } }) hporst hbrown
    refine ⟨brownWarn { measured mv s with treas := { (measured mv s).treas with coreLow := true } }, ?_, ?_, ?_, hpins⟩
    · rw [exec, execVddCoreWarn, vddWarn]
      dsimp only
      rw [warnMv_measured, if_pos hmv]
    · rw [htreas]
    · rw [htreas]
  · intro s a hbrown hsince hdue
    refine ⟨srBeginAll (setBrown .holdSr s), ?_, ?_⟩
    · rw [exec, execBrownoutSr, brownSr, hbrown, hsince]
      exact congrArg Host.Outcome.next (if_pos hdue)
    · dsimp only
      rw [treas_of_power (srBeginAll_power ..), setBrown_treas]
  · intro s mv hbrown hmv
    refine ⟨_, congrArg Host.Outcome.next (if_pos ⟨hbrown, hmv⟩), ?_, ?_⟩
    · rw [treas_of_power (srEndAll_power ..), setBrown_treas, measured_frame]
    · rw [pins_of_power (srEndAll_power ..), setBrown_pins, measured_frame]
  · intro s a hbrown hsince hdue
    refine ⟨(List.range 4).foldl (fun s b => noseResume b s) (setBrown .normal { s with treas := { s.treas with recoverSince := none } }),
      ?_, ?_, fun b hb => noseAt_foldl_resume b hb _⟩
    · rw [exec, execBrownoutNormal, brownNormal, hbrown, hsince]
      exact congrArg Host.Outcome.next (if_pos hdue)
    · rw [foldl_resume_treas, setBrown_treas]
  · intro s mv hmv
    refine ⟨vddReset mv s, rfl, ?_⟩
    unfold vddReset
    dsimp only
    rw [if_pos hmv]
    generalize ht : resetCause 1 (measured mv s) = t
    have hflag : flagOf t Reg.TREAS_RESET_CAUSE 1 = true := ht ▸ flagOf_cause_same _ _ _ (by decide)
    have hheld : t.held = s.held := by rw [← ht, resetCause, cause_frame, measured_frame]; rfl
    refine ⟨?_, ?_, ?_, ?_, ?_⟩
    · rw [flagOf_emit_ne _ _ _ _ _ _ (by decide) (by decide)]
      refine Eq.trans ?_ hflag
      exact congrArg (·.getLsbD 1) ((regRead_coreReset t Reg.TREAS_RESET_CAUSE).trans (if_pos (by decide)))
    · rw [emit_pins]
      dsimp only
      split
      next h => exact h
      next => simp
    · rw [emit_treas]; rfl
    · intro d
      rw [domAt_congr (emit_treas ..)]
      exact get_pd0 d
    · rw [emit_held]
      exact (coreReset_held t).trans hheld
  · intro s rail hrail
    refine ⟨railReset rail.val s, rfl, ?_⟩
    unfold railReset
    rw [if_neg hrail]
    dsimp only
    generalize ht : (if rail.val = 2 then regStore Reg.TREAS_RESET_CAUSE 0 s else s) = t
    have hheld : t.held = s.held := by rw [← ht]; split <;> rfl
    refine ⟨?_, ?_, ?_, ?_⟩
    · rw [flagOf_emit_ne _ _ _ _ _ _ (by decide) (by decide)]
      exact flagOf_cause_same _ _ _ (by decide)
    · rw [emit_pins, resetCause, cause_pins]
      dsimp only
      split
      next h => exact h
      next => simp
    · rw [emit_held, resetCause, cause_frame]
      exact hheld
    · rw [emit_treas, resetCause, cause_treas]; rfl

/-! ### The SMBus sideband -/

/-- Settles O27: each command is its definition, by whether the device answers. -/
theorem smbusCommandsAnswer : Obligations.SmbusCommandsAnswer := by
  have hanswer (s : State) (cmd : Nat) (data : Bytes) (pec : Bool) (h : smbAlive s = true) : smbAnswer cmd data pec s =
      { s with out := { s.out with smbAck := true, smb := data ++ (if pec then
        [crc8 ([smbAddress s false, BitVec.ofNat 8 cmd, smbAddress s true] ++ data)] else []) } } := if_neg (by rw [h]; decide)
  have hsilent (s : State) (cmd : Nat) (data : Bytes) (pec : Bool) (h : smbAlive s = false) :
      smbAnswer cmd data pec s = { s with out := { s.out with smbAck := false, smb := [] } } := if_pos (by rw [h]; rfl)
  unfold Obligations.SmbusCommandsAnswer
  refine ⟨?_, ?_, ?_, ?_, ?_, ?_, ?_⟩
  · exact fun s pec h => ⟨_, congrArg Host.Outcome.next (hanswer s 1 _ pec h), rfl, rfl, rfl⟩
  · exact fun s pec h => ⟨_, congrArg Host.Outcome.next (hanswer s 2 _ pec h), rfl, rfl, rfl⟩
  · exact fun s pec h => ⟨_, congrArg Host.Outcome.next (hanswer s 3 _ pec h), rfl, rfl, rfl⟩
  · exact fun s pec h => ⟨_, congrArg Host.Outcome.next (hanswer s 4 _ pec h), rfl, rfl, rfl⟩
  · intro s v h hcfg
    rw [exec, execSmbPstate, smbPstate, h]
    exact congrArg Host.Outcome.next (if_pos hcfg)
  · intro s pec h c hc
    simp only [List.mem_cons, List.not_mem_nil, or_false] at hc
    rcases hc with rfl | rfl | rfl | rfl
    all_goals exact ⟨_, congrArg Host.Outcome.next (hsilent s _ _ pec h), rfl⟩
  · intro s v pec h
    have hstop : ¬ (smbAlive s && pec && flagOf s Reg.TREAS_SMB_CFG 0) = true := by
      rcases h with h | h <;> simp [h]
    rw [exec, execSmbPstate, smbPstate]
    exact congrArg Host.Outcome.next (if_neg hstop)

end Sys2Proof.Machine
end


section
/-!
PROOFS. Pace (R12 to R14), voltage scaling (R418, R419) and temperature (R420 to R423).
-/
namespace Sys2Proof.Machine

/-! ### Pace -/

/-- The status of a Branch with a margin: BELOW_FLOOR, LOW, VALID and the margin in 24 bits (R12 to R14). -/
def paceWord (p : Int) : Nat :=
  2 ^ 31 * b2n (Decidable.decide (p < 0)) + 2 ^ 30 * b2n (Decidable.decide (p < 50000)) + 2 ^ 29 + unsigned 24 p

theorem unsigned_lt (w : Nat) (i : Int) : unsigned w i < 2 ^ w := by
  have hpos : (0 : Int) < ((2 ^ w : Nat) : Int) := by exact_mod_cast Nat.two_pow_pos w
  have hlt := Int.emod_lt_of_pos i hpos
  unfold unsigned
  omega

theorem signed_unsigned_24 {p : Int} (hlo : -8388608 ≤ p) (hhi : p ≤ 8388607) : signed 24 (unsigned 24 p) = p := by
  have hlt := unsigned_lt 24 p
  rw [signed, Nat.mod_eq_of_lt hlt]
  unfold unsigned at hlt ⊢
  by_cases h : (p % ((2 ^ 24 : Nat) : Int)).toNat < 2 ^ (24 - 1)
  · rw [if_pos h]; omega
  · rw [if_neg h]; omega

theorem getLsbD_ofNat_32 {i : Nat} (v : Nat) (h : i < 32) : (BitVec.ofNat 32 v).getLsbD i = Decidable.decide (v / 2 ^ i % 2 = 1) := by
  rw [BitVec.getLsbD_ofNat, Nat.testBit_eq_decide_div_mod_eq]
  simp [h]

theorem paceWord_fields {p : Int} (hlo : -8388608 ≤ p) (hhi : p ≤ 8388607) :
    (BitVec.ofNat 32 (paceWord p)).getLsbD 29 = true ∧
    (BitVec.ofNat 32 (paceWord p)).getLsbD 30 = Decidable.decide (p < 50000) ∧
    (BitVec.ofNat 32 (paceWord p)).getLsbD 31 = Decidable.decide (p < 0) ∧
    signed 24 (bits (BitVec.ofNat 32 (paceWord p)).toNat 23 0) = p := by
  have hu := unsigned_lt 24 p
  have hsign := signed_unsigned_24 hlo hhi
  unfold paceWord
  generalize unsigned 24 p = u at hu hsign
  have hbits (a b : Nat) (ha : a ≤ 1) (hb : b ≤ 1) : bits (BitVec.ofNat 32 (2 ^ 31 * a + 2 ^ 30 * b + 2 ^ 29 + u)).toNat 23 0 = u := by
    simp only [bits, BitVec.toNat_ofNat, Nat.shiftRight_zero]
    omega
  refine ⟨?_, ?_, ?_, ?_⟩
  · rw [getLsbD_ofNat_32 _ (by decide)]
    cases Decidable.decide (p < 0) <;> cases Decidable.decide (p < 50000) <;> simp [b2n] <;> omega
  · rw [getLsbD_ofNat_32 _ (by decide)]
    cases Decidable.decide (p < 0) <;> cases Decidable.decide (p < 50000) <;> simp [b2n] <;> omega
  · rw [getLsbD_ofNat_32 _ (by decide)]
    cases Decidable.decide (p < 0) <;> cases Decidable.decide (p < 50000) <;> simp [b2n] <;> omega
  · rw [hbits _ _ (by cases Decidable.decide (p < 0) <;> decide) (by cases Decidable.decide (p < 50000) <;> decide), hsign]

/-- The margin limited to 24 bits. -/
def paceClamp (descs steps : Nat) : Int := max (-8388608) (min 8388607 (paceMargin descs steps))

/-- The status is stored, and violations are counted and told. -/
def paceNoted (b : Nat) (p : Int) (was : Bool) (s : State) : State :=
  let low := Decidable.decide (p < 0)
  let s := regStore (Reg.TREAS_PACE_STATUS b) (BitVec.ofNat 32 (paceWord p)) s
  let s := if low then bump (Reg.TREAS_PACE_VIOL_CNT b) s else s
  let s := if low = was then s else emit 0x002 0x08 (b + 4 * b2n low + 8 * unsigned 24 p) s
  if low && !was then cause Reg.TREAS_IRQ_CAUSE 1 s else s

/-- The time since which all margins are good is kept. -/
def paceJudged (s : State) : State :=
  let valid := (List.range 4).filter fun i => flagOf s (Reg.TREAS_PACE_STATUS i) 29
  let good := valid ≠ [] && valid.all fun i => Decidable.decide (100000 ≤ signed 24 (fieldOf s (Reg.TREAS_PACE_STATUS i) 23 0))
  { s with treas := { s.treas with goodSince := if good then some (s.treas.goodSince.getD s.time.tick) else none } }

theorem paceUpdate_due {b descs steps : Nat} {s : State} (hon : domOn s (9 + b) = true)
    (hdue : us 1 ≤ since s (Tbl.get s.treas.paceAt b 0)) : paceUpdate b descs steps s =
    paceJudged (paceNoted b (paceClamp descs steps) (belowFloor s b) { s with treas := { s.treas with paceAt := Tbl.set s.treas.paceAt b 0 s.time.tick } }) := by
  have hgo : ¬ (!domOn s (9 + b) || Decidable.decide (since s (Tbl.get s.treas.paceAt b 0) < us 1)) = true := by simp [hon, hdue]
  unfold paceUpdate
  rw [if_neg hgo]
  rfl

/-- What noting a margin leaves: the status of its Branch, and the cause of a margin that falls below the floor (R13, R14). -/
theorem paceNoted_acts {b : Nat} (p : Int) (was : Bool) (s : State) (hb : b < 4) :
    regRead (paceNoted b p was s) (Reg.TREAS_PACE_STATUS b) = BitVec.ofNat 32 (paceWord p) ∧
    (p < 0 → was = false → flagOf (paceNoted b p was s) Reg.TREAS_IRQ_CAUSE 1 = true) := by
  have hviol : Reg.TREAS_PACE_VIOL_CNT b ≠ Reg.TREAS_PACE_STATUS b := by simp
  have hcause : Reg.TREAS_IRQ_CAUSE ≠ Reg.TREAS_PACE_STATUS b := by simp only [Reg.TREAS_IRQ_CAUSE, Reg.TREAS_PACE_STATUS]; omega
  have hlost : Reg.SILL_LOST_CNT ≠ Reg.TREAS_PACE_STATUS b := by simp only [Reg.SILL_LOST_CNT, Reg.TREAS_PACE_STATUS]; omega
  have hsill : Reg.SILL_IRQ_CAUSE ≠ Reg.TREAS_PACE_STATUS b := by simp only [Reg.SILL_IRQ_CAUSE, Reg.TREAS_PACE_STATUS]; omega
  constructor
  · unfold paceNoted
    dsimp only
    rw [apply_ite (regRead · _), regRead_cause_ne _ _ _ _ hcause, ite_self, apply_ite (regRead · _), regRead_emit_ne _ _ _ _ _ hlost hsill,
      ite_self, apply_ite (regRead · _), regRead_bump_ne _ _ _ hviol, ite_self]
    exact regRead_store_same ..
  · intro hp hwas
    have hlow : (Decidable.decide (p < 0) && !was) = true := by simp [hp, hwas]
    unfold paceNoted
    dsimp only
    rw [if_pos hlow]
    exact flagOf_cause_same _ _ _ (by decide)

/-! ### Temperature -/

/-- The readings of the sensors stand. -/
structure KeepsTemps (s t : State) : Prop where
  read : ∀ k, k < 16 → regRead t (Reg.TREAS_TEMP k) = regRead s (Reg.TREAS_TEMP k)

theorem KeepsTemps.trans {s t u : State} (h : KeepsTemps s t) (k : KeepsTemps t u) : KeepsTemps s u :=
  ⟨fun i hi => (k.read i hi).trans (h.read i hi)⟩

theorem keepsTemps_of_regs {s t : State} (h : t.regs = s.regs) : KeepsTemps s t := ⟨fun _ _ => regRead_congr h _⟩

/-- No sensor's register: it lies outside the 16 words at 0x20200. -/
def notTemp (off : Nat) : Prop := off < 0x20200 ∨ 0x20240 ≤ off

theorem ne_temp {off k : Nat} (h : notTemp off) (hk : k < 16) : off ≠ Reg.TREAS_TEMP k := by
  simp only [notTemp] at h
  simp only [Reg.TREAS_TEMP]
  omega

theorem KeepsTemps.cause {s t : State} {o : Nat} (h : KeepsTemps s t) (i : Nat) (ho : notTemp o) : KeepsTemps s (cause o i t) :=
  ⟨fun k hk => (regRead_cause_ne _ _ _ _ (ne_temp ho hk)).trans (h.read k hk)⟩

theorem KeepsTemps.bump {s t : State} {o : Nat} (h : KeepsTemps s t) (ho : notTemp o) : KeepsTemps s (bump o t) :=
  ⟨fun k hk => (regRead_bump_ne _ _ _ (ne_temp ho hk)).trans (h.read k hk)⟩

theorem KeepsTemps.emit {s t : State} (h : KeepsTemps s t) (src kind q : Nat) : KeepsTemps s (emit src kind q t) :=
  ⟨fun k hk => (regRead_emit_ne _ _ _ _ _ (ne_temp (.inr (by decide)) hk) (ne_temp (.inr (by decide)) hk)).trans (h.read k hk)⟩

theorem keepsTemps_refl (s : State) : KeepsTemps s s := keepsTemps_of_regs rfl

theorem keepsTemps_foldl {α : Type} (f : State → α → State) (h : ∀ s x, KeepsTemps s (f s x)) (l : List α) (s : State) :
    KeepsTemps s (l.foldl f s) := by
  induction l generalizing s with
  | nil => exact keepsTemps_refl s
  | cons x l ih => exact (h s x).trans (ih _)

theorem keepsTemps_crossLevel (was now : Bool) (i what : Nat) (s : State) : KeepsTemps s (crossLevel was now i what s) := by
  have hcause : KeepsTemps s (cause Reg.TREAS_IRQ_CAUSE i s) := (keepsTemps_refl s).cause i (.inl (by decide))
  unfold crossLevel noteThermal
  split_ifs
  · exact hcause.emit ..
  · exact (keepsTemps_refl s).emit ..
  · exact keepsTemps_refl s

theorem notTemp_noseCause (b : Nat) : notTemp (Reg.NOSE_IRQ_CAUSE b) := by
  simp only [notTemp, Reg.NOSE_IRQ_CAUSE]
  omega

theorem keepsTemps_noseThrottle (b : Nat) (s : State) : KeepsTemps s (noseThrottle b s) := by
  have hset (x : Nose) : KeepsTemps s (s.setNose b x) := keepsTemps_of_regs rfl
  unfold noseThrottle
  split
  · exact keepsTemps_refl s
  · dsimp only
    split
    · exact keepsTemps_refl s
    · exact ((hset _).cause 6 (notTemp_noseCause b)).emit ..

theorem dropAllowance_regs (u : Nat) (s : State) : (dropAllowance u s).regs = s.regs := by
  unfold dropAllowance
  dsimp only
  split <;> rfl

theorem keepsTemps_revokeAllowance (u : Nat) (s : State) : KeepsTemps s (revokeAllowance u s) := by
  have hbump : KeepsTemps s (bump Reg.TREAS_REVOKE_CNT s) := (keepsTemps_refl s).bump (.inr (by decide))
  have hcause := hbump.cause (o := Reg.TREAS_IRQ_CAUSE) 0 (.inl (by decide))
  unfold revokeAllowance noteAllowance
  exact (hcause.emit ..).trans (keepsTemps_of_regs (dropAllowance_regs ..))

theorem keepsTemps_revokeToFit (n : Nat) (s : State) : KeepsTemps s (revokeToFit n s) := by
  induction n generalizing s with
  | zero => exact keepsTemps_refl s
  | succ n ih =>
    unfold revokeToFit
    dsimp only
    split
    · exact keepsTemps_refl s
    · split
      · exact (keepsTemps_revokeAllowance ..).trans (ih _)
      · exact keepsTemps_refl s

theorem keepsTemps_quietEnter (s : State) : KeepsTemps s (quietEnter true s) := by
  unfold quietEnter
  split
  · exact keepsTemps_of_regs rfl
  · exact keepsTemps_refl s

theorem keepsTemps_noteTrip (s : State) : KeepsTemps s (noteTrip s) := by
  have hset : KeepsTemps s { s with treas := { s.treas with trip := true } } := keepsTemps_of_regs rfl
  have hcause := hset.cause (o := Reg.TREAS_IRQ_CAUSE) 7 (.inl (by decide))
  have hreset := hcause.cause (o := Reg.TREAS_RESET_CAUSE) 3 (.inl (by decide))
  unfold noteTrip noteThermal resetCause
  split
  · exact keepsTemps_refl s
  · exact hreset.emit ..

theorem keepsTemps_powerOff (s : State) : KeepsTemps s (powerOff s) := by
  refine ⟨fun k hk => (regRead_coreReset s _).trans (if_pos ?_)⟩
  simp only [coreKeeps, Reg.TREAS_TEMP, Reg.TREAS_PACE_STATUS, decide_eq_true_eq]
  omega

theorem keepsTemps_thermalTrip (s : State) : KeepsTemps s (thermalTrip s) := by
  unfold thermalTrip
  dsimp only
  generalize hu : (if tripLevel s < deviceTemp s then _ else _ : State) = u
  have hkeep : KeepsTemps s u := by
    rw [← hu]
    split_ifs
    · exact (keepsTemps_noteTrip s).trans (keepsTemps_quietEnter _)
    · exact keepsTemps_refl s
    · exact keepsTemps_of_regs rfl
  split
  · exact hkeep.trans (keepsTemps_powerOff u)
  · exact hkeep

/-- The levels are crossed and kept (R421). -/
def levelsKept (warn hot : Bool) (s : State) : State :=
  let t := s |> crossLevel s.treas.warned warn 5 0 |> crossLevel s.treas.hot hot 6 1
  { t with treas := { t.treas with warned := warn, hot := hot } }

theorem keepsTemps_levelsKept (warn hot : Bool) (s : State) : KeepsTemps s (levelsKept warn hot s) :=
  ((keepsTemps_crossLevel s.treas.warned warn 5 0 s).trans (keepsTemps_crossLevel s.treas.hot hot 6 1 _)).trans (keepsTemps_of_regs rfl)

theorem keepsTemps_thermalActions (s : State) : KeepsTemps s (thermalActions s) := by
  obtain ⟨warn, hot, hsplit⟩ : ∃ warn hot, thermalActions s =
      ((List.range 4).foldl (fun s b => noseThrottle b s) (levelsKept warn hot s) |> revokeToFit 11 |> thermalTrip) := ⟨_, _, rfl⟩
  rw [hsplit]
  exact (((keepsTemps_levelsKept warn hot s).trans (keepsTemps_foldl _ (fun s b => keepsTemps_noseThrottle b s) _ _)).trans
    (keepsTemps_revokeToFit 11 _)).trans (keepsTemps_thermalTrip _)

/-- Sensor k stores its reading, if it has one (R420). -/
def tempStore (temps : List Int) (s : State) (k : Nat) : State :=
  match temps[k]? with
  | some t => regStore (Reg.TREAS_TEMP k) (BitVec.ofNat 32 (2 ^ 31 + unsigned 16 t)) s
  | none => s

theorem temp_inj {j k : Nat} (h : Reg.TREAS_TEMP j = Reg.TREAS_TEMP k) : j = k := by
  simp only [Reg.TREAS_TEMP] at h
  omega

theorem regRead_tempStore (temps : List Int) (s : State) (j k : Nat) : regRead (tempStore temps s j) (Reg.TREAS_TEMP k) =
    if j = k then (match temps[k]? with
      | some t => BitVec.ofNat 32 (2 ^ 31 + unsigned 16 t)
      | none => regRead s (Reg.TREAS_TEMP k)) else regRead s (Reg.TREAS_TEMP k) := by
  unfold tempStore
  by_cases hjk : j = k
  · subst hjk
    rw [if_pos rfl]
    split <;> simp
  · rw [if_neg hjk]
    split
    · exact regRead_store_ne _ _ _ _ (fun h => hjk (temp_inj h))
    · rfl

theorem regRead_foldl_tempStore (temps : List Int) (l : List Nat) (s : State) (k : Nat) : regRead (l.foldl (tempStore temps) s) (Reg.TREAS_TEMP k) =
    if k ∈ l then (match temps[k]? with
      | some t => BitVec.ofNat 32 (2 ^ 31 + unsigned 16 t)
      | none => regRead s (Reg.TREAS_TEMP k)) else regRead s (Reg.TREAS_TEMP k) := by
  induction l generalizing s with
  | nil => rfl
  | cons j l ih =>
    rw [List.foldl_cons, ih, regRead_tempStore]
    by_cases hjk : j = k
    · cases temps[k]? <;> simp [hjk]
    · simp [hjk, Ne.symm hjk]

theorem sensor_congr {s t : State} {k : Nat} (h : regRead t (Reg.TREAS_TEMP k) = regRead s (Reg.TREAS_TEMP k)) : sensor t k = sensor s k := by
  rw [sensor, flagOf, fieldOf, h, sensor, flagOf, fieldOf]

theorem sensor_of_reading {s : State} {k : Nat} {x : Int} (hlo : -32768 ≤ x) (hhi : x ≤ 32767)
    (h : regRead s (Reg.TREAS_TEMP k) = BitVec.ofNat 32 (2 ^ 31 + unsigned 16 x)) : sensor s k = some x := by
  have hlt := unsigned_lt 16 x
  have hflag : flagOf s (Reg.TREAS_TEMP k) 31 = true := by
    rw [flagOf, h, getLsbD_ofNat_32 _ (by decide)]
    simp only [decide_eq_true_eq]
    omega
  have hfield : fieldOf s (Reg.TREAS_TEMP k) 15 0 = unsigned 16 x := by
    rw [fieldOf, h]
    simp only [bits, BitVec.toNat_ofNat, Nat.shiftRight_zero]
    omega
  rw [sensor, if_pos hflag, hfield, signed, Nat.mod_eq_of_lt hlt]
  unfold unsigned at hlt ⊢
  congr 1
  by_cases h : (x % ((2 ^ 16 : Nat) : Int)).toNat < 2 ^ (16 - 1)
  · rw [if_pos h]; omega
  · rw [if_neg h]; omega

/-- What a sample leaves of sensor k (R420). -/
theorem sensor_tempSample {temps : List Int} {s : State} {k : Nat} (hdue : us 100 ≤ since s s.treas.tempAt) (hheld : s.treas.offHeld = false)
    (hk : k < 16) : regRead (tempSample temps s) (Reg.TREAS_TEMP k) = (match temps[k]? with
      | some t => BitVec.ofNat 32 (2 ^ 31 + unsigned 16 t)
      | none => regRead s (Reg.TREAS_TEMP k)) := by
  have hgo : ¬ (since s s.treas.tempAt < us 100 ∨ s.treas.offHeld = true) := by
    rw [hheld]
    simp only [Bool.false_eq_true, or_false]
    omega
  have hsplit : tempSample temps s = thermalActions ((List.range 16).foldl (tempStore temps) { s with treas := { s.treas with tempAt := s.time.tick } }) :=
    if_neg hgo
  rw [hsplit, (keepsTemps_thermalActions _).read k hk, regRead_foldl_tempStore, if_pos (List.mem_range.2 hk)]
  rfl

/-! ### Voltage -/

theorem avsUpdate_due {iout : Nat} {ok : Bool} {s : State} (hfail : s.treas.vrmFail = false) (hen : flagOf s Reg.TREAS_AVS_CFG 31 = true)
    (hdue : us 100 ≤ since s s.treas.avsAt) : avsUpdate iout ok s =
    if ok then avsStep (setField Reg.TREAS_AVS_STATUS 27 16 (capAt 4095 iout) { s with treas := { s.treas with avsAt := s.time.tick, vrmFail := !ok } })
    else cause Reg.TREAS_IRQ_CAUSE 4 { s with treas := { s.treas with avsAt := s.time.tick, vrmFail := !ok } } := by
  have hgo : ¬ (s.treas.vrmFail = true ∨ (!flagOf s Reg.TREAS_AVS_CFG 31) = true ∨ since s s.treas.avsAt < us 100) := by
    rw [hfail, hen]
    simp only [Bool.not_true, Bool.false_eq_true, false_or]
    omega
  unfold avsUpdate
  rw [if_neg hgo]

/-- Settles O25: Pace and sensors by what their registers read afterwards; the voltage commands by their branches. -/
theorem voltageAndTemperatureCommandsAct : Obligations.VoltageAndTemperatureCommandsAct := by
  unfold Obligations.VoltageAndTemperatureCommandsAct
  refine ⟨?_, ?_, ?_, ?_, ?_⟩
  · intro s b descs steps hon hdue
    refine ⟨paceUpdate b.val descs steps s, rfl, ?_⟩
    have hlo : -8388608 ≤ paceClamp descs steps := le_max_left ..
    have hhi : paceClamp descs steps ≤ 8388607 := max_le (by decide) (min_le_left ..)
    obtain ⟨h29, h30, h31, hmargin⟩ := paceWord_fields hlo hhi
    obtain ⟨hread, hcause⟩ := paceNoted_acts (paceClamp descs steps) (belowFloor s b.val)
      { s with treas := { s.treas with paceAt := Tbl.set s.treas.paceAt b.val 0 s.time.tick } } b.isLt
    rw [paceUpdate_due hon hdue]
    refine ⟨?_, ?_, ?_, ?_, fun hneg hfloor => hcause hneg hfloor⟩
    · exact (congrArg (·.getLsbD 29) hread).trans h29
    · exact (congrArg (·.getLsbD 30) hread).trans h30
    · exact (congrArg (·.getLsbD 31) hread).trans h31
    · exact (congrArg (fun v : Word32 => signed 24 (bits v.toNat 23 0)) hread).trans hmargin
  · intro s iout hfail hen hdue
    have hkeep : ({ s.treas with avsAt := s.time.tick, vrmFail := !true } : Treasury) = { s.treas with avsAt := s.time.tick } := by
      rw [Treasury.mk.injEq]
      simp [hfail]
    rw [exec, execAvsUpdate, avsUpdate_due hfail hen hdue, if_pos rfl, hkeep]
  · intro s iout hfail hen hdue
    refine ⟨_, congrArg Host.Outcome.next ((avsUpdate_due hfail hen hdue).trans (if_neg (by decide))), rfl, flagOf_cause_same _ _ _ (by decide), rfl⟩
  · intro s v hv
    refine ⟨avsCfgWrite v s, by rw [exec, execAvsRestart, if_pos hv], ?_, ?_⟩
    · rw [avsCfgWrite]; dsimp only; rw [if_pos hv, plainWrite_frame]
    · rw [avsCfgWrite]; dsimp only; rw [if_pos hv, plainWrite_frame]
  · intro s temps hdue hheld
    refine ⟨tempSample temps s, rfl, fun k x hk hx hlo hhi => ?_, fun k hk hx => ?_⟩
    · refine sensor_of_reading hlo hhi ?_
      rw [sensor_tempSample hdue hheld hk, hx]
    · refine sensor_congr ?_
      rw [sensor_tempSample hdue hheld hk, hx]

end Sys2Proof.Machine
end


section
/-!
PROOFS. Delivery of MSI-X vector 0 and FORCE (R474, R478), and the resets of the PCIe side (R454, R498).
-/
namespace Sys2Proof.Machine

/-! ### The level -/

/-- The level is a matter of stored registers alone. -/
theorem irqLevel_congr {s t : State} (h : t.regs = s.regs) : irqLevel t = irqLevel s := by
  have hread : regRead t = regRead s := funext (regRead_congr h)
  have htell : tellSub t = tellSub s := by unfold tellSub; rw [hread]
  have htill : tillSub t = tillSub s := by unfold tillSub; rw [hread]
  have hvault : vaultSub t = vaultSub s := by unfold vaultSub; rw [hread]
  have hdma : dmaSub t = dmaSub s := by unfold dmaSub flagOf; rw [hread]
  have hsub : irqSub t = irqSub s := by unfold irqSub; rw [htell, htill, hvault, hdma]
  have hat : requestsAt t = requestsAt s := by unfold requestsAt; rw [hread, hsub]
  have hreq : requesting t = requesting s := by unfold requesting; rw [hat]
  have hsum : irqSummary t = irqSummary s := by unfold irqSummary cofferRequests; rw [hread, hreq]
  unfold irqLevel fieldOf
  rw [hread, hsum]

/-! ### Messages -/

theorem msixSend_due {s : State} (hup : s.pcie.up = true) (hdue : msixDue s = true) :
    msixSend s = if s.msix.masked then { s with msix := { s.msix with pba := true } } else msixMessage s :=
  if_neg (by rw [hup, hdue]; decide)

theorem msixSend_idle {s : State} (h : s.pcie.up = false ∨ msixDue s = false) : msixSend s = s :=
  if_pos (by rcases h with h | h <;> simp [h])

theorem settlePba_eq (s : State) : settlePba s = { s with msix := { s.msix with pba := s.msix.pba && irqLevel s } } := by
  unfold settlePba
  cases hp : s.msix.pba <;> cases hl : irqLevel s <;> simp [← hp]

/-- A change of masks sets them, and sends a pending message that nothing masks any more while the level is high. -/
theorem msixMask_eq (f w e : Bool) {s : State} (hup : s.pcie.up = true) : msixMask f w e s =
    if s.msix.pba && irqLevel s && e && !(f || w) then
      msixMessage { s with msix := { s.msix with funcMask := f, vecMask := w, enable := e, pba := s.msix.pba && irqLevel s } }
    else { s with msix := { s.msix with funcMask := f, vecMask := w, enable := e, pba := s.msix.pba && irqLevel s } } := by
  have hlevel : irqLevel { s with msix := { s.msix with funcMask := f, vecMask := w, enable := e } } = irqLevel s := irqLevel_congr rfl
  unfold msixMask msixUnpend Msix.masked
  rw [settlePba_eq, hlevel]
  dsimp only
  rw [hup, Bool.and_true]

/-! ### FORCE -/

theorem isForce_of {off : Nat} {b : Block} {i : Nat} {r : RegRow} (hd : decodeOff off = some (b, i, 0x18)) (hr : rowAt b 0x18 = some r) :
    isForce off = true := by
  unfold isForce
  rw [hd]
  simp [hr]

theorem existsAt_cond {s : State} {b : Block} {i : Nat} {r : RegRow} (hx : existsAt s b i r = true) (hrepl : r.scope ≠ .repl ∨ i = 0) :
    ¬ (!existsAt s b i r || (r.scope == .repl && i != 0)) = true := by
  rw [hx]
  rcases hrepl with h | h <;> simp [h]

/-- A write of a block's FORCE register sets causes of its block. -/
theorem forceWrite_block {s : State} {off : Nat} (v : Word32) {b : Block} {i : Nat} {r : RegRow} (hoff : off ≠ 0x88)
    (hd : decodeOff off = some (b, i, 0x18)) (hch : b ≠ .vaultCh) (hdispo : b ≠ .dispo) (hr : rowAt b 0x18 = some r)
    (hx : existsAt s b i r = true) (hrepl : r.scope ≠ .repl ∨ i = 0) (hopen : writesOpen s off = true) :
    forceWrite off v s = regStore (off - 8) (regRead s (off - 8) ||| (v &&& forceMask b i)) s := by
  have hforce : irqForce off v s = regStore (off - 8) (regRead s (off - 8) ||| (v &&& forceMask b i)) s := by
    unfold irqForce
    rw [if_neg hoff, hd]
    exact if_pos (by simp [hch, hdispo])
  have hwrite : writeReg32 off v s = irqForce off v s := by
    unfold writeReg32
    simp only [hd, hr]
    rw [if_neg (existsAt_cond hx hrepl)]
    exact if_pos (And.intro trivial hdispo)
  unfold forceWrite
  rw [if_pos (by rw [isForce_of hd hr, hopen]; decide), hwrite, hforce]

theorem forceWrite_coffer (v : Word32) (s : State) : forceWrite 0x88 v s =
    regStore Reg.TOP_COFFER_IRQ_CAUSE (regRead s Reg.TOP_COFFER_IRQ_CAUSE ||| (v &&& 3#32)) s := by
  obtain ⟨r, hr, hscope⟩ : ∃ r, rowAt .top 0x88 = some r ∧ r.scope = .per := ⟨_, rfl, rfl⟩
  have hd : decodeOff 0x88 = some (.top, 0, 0x88) := rfl
  have hx : existsAt s .top 0 r = true := by simp [existsAt]
  have hgo : (isForce 0x88 && writesOpen s 0x88) = true := by simp [isForce, writesOpen, hd, hr, alwaysOpen]
  unfold forceWrite
  rw [if_pos hgo]
  unfold writeReg32
  simp only [hd, hr]
  rw [if_neg (existsAt_cond hx (.inr rfl)), if_neg (by decide)]
  rfl

/-- Settles O28: messages by what is due, masks by `msixMask_eq`, FORCE by its two registers. -/
theorem interruptCommandsAct : Obligations.InterruptCommandsAct := by
  unfold Obligations.InterruptCommandsAct
  refine ⟨?_, ?_, ?_, ?_, ?_, ?_, ?_, ?_, ?_⟩
  · intro s hup hdue hmask
    exact ⟨_, congrArg Host.Outcome.next ((msixSend_due hup hdue).trans (if_neg (by rw [hmask]; decide))), rfl⟩
  · intro s hup hdue hmask
    exact ⟨_, congrArg Host.Outcome.next ((msixSend_due hup hdue).trans (if_pos hmask)), rfl⟩
  · intro s h
    refine ⟨congrArg Host.Outcome.next (msixSend_idle h), congrArg Host.Outcome.next ?_⟩
    unfold holdoffExpiry
    rw [msixSend_idle h, ite_self]
  · exact fun s h => congrArg Host.Outcome.next (if_pos h)
  · intro s v hup hv
    exact ⟨_, congrArg Host.Outcome.next ((if_pos hup).trans (if_pos hv)), rfl⟩
  · intro s f w e hup h
    refine ⟨_, congrArg Host.Outcome.next ((if_pos hup).trans ((msixMask_eq f w e hup).trans (if_neg ?_))), rfl⟩
    rcases h with h | h | h | h | h <;> simp [h]
  · intro s hup hpba hlevel
    refine ⟨_, congrArg Host.Outcome.next ((if_pos hup).trans ((msixMask_eq false false true hup).trans (if_pos ?_))), rfl, rfl, rfl⟩
    simp [hpba, hlevel]
  · intro s off v b i r hup hoff hd hch hdispo hr hx hrepl hopen
    exact ⟨_, congrArg Host.Outcome.next ((if_pos hup).trans (forceWrite_block v hoff hd hch hdispo hr hx hrepl hopen)), regRead_store_same .., rfl⟩
  · intro s v hup
    exact ⟨_, congrArg Host.Outcome.next ((if_pos hup).trans (forceWrite_coffer v s)), regRead_store_same .., rfl⟩

/-! ### Resets of the PCIe side -/

theorem edge_parts {s t : State} (h : t.edge = s.edge) : t.pins = s.pins ∧ t.pcie.link = s.pcie.link ∧ t.rings = s.rings ∧ t.msix = s.msix := by
  simpa only [State.edge, Prod.mk.injEq] using h

theorem notePcie_frame (s : State) : notePcie s = { s with regs := (notePcie s).regs, sill := (notePcie s).sill } := emit_frame ..

theorem linkLost_frame (s : State) : linkLost s = { s with regs := (linkLost s).regs, sill := (linkLost s).sill, pcie := (linkLost s).pcie } := by
  unfold linkLost
  split
  · rw [notePcie_frame]
  · rfl

theorem sec_of_control {s t : State} (h : t.control = s.control) : t.sec = s.sec := by
  simp only [State.control, Prod.mk.injEq] at h
  exact h.2.1

/-- The records in hand are lost, and then rings and registers of the DMA block are cleared (R454). -/
def recordsLost (s : State) : State := (List.range 16).foldl (fun s n => loseRecord n s) s

def dmaCleared (s : State) : State :=
  { s with
    rings := []
    regs := s.regs.filter fun p => !isDmaReset p.1
    sieve := { s.sieve with queue := s.sieve.queue.filter fun j => j.user == .port } }

theorem dmaReset_eq (s : State) : dmaReset s = dmaCleared (recordsLost s) := by rw [dmaReset, dmaCleared, recordsLost]

theorem dmaCleared_rest (s : State) : (dmaCleared s).pins = s.pins ∧ (dmaCleared s).msix = s.msix ∧ (dmaCleared s).sec = s.sec :=
  ⟨rfl, rfl, rfl⟩

theorem regRead_dmaCleared (s : State) (off : Nat) (h : isDmaReset off = true) : regRead (dmaCleared s) off = resetOf off :=
  (Tbl.get_filter (fun o => !isDmaReset o) s.regs off (resetOf off)).trans (if_neg (by rw [h]; decide))

/-- What the reset of the DMA block leaves of the pins, MSI-X and the security engine. -/
theorem dmaReset_rest (s : State) : (dmaReset s).pins = s.pins ∧ (dmaReset s).msix = s.msix ∧ (dmaReset s).sec = s.sec := by
  obtain ⟨hpins, -, -, hmsix⟩ := edge_parts (State.edge_foldl (fun s n => loseRecord n s) (fun s n => loseRecord_edge n s) (List.range 16) s)
  have hcontrol := State.control_foldl (fun s n => loseRecord n s) (fun s n => loseRecord_control n s) (List.range 16) s
  rw [← recordsLost] at hpins hmsix hcontrol
  have hsec : (recordsLost s).sec = s.sec := sec_of_control hcontrol
  obtain ⟨cpins, cmsix, csec⟩ := dmaCleared_rest (recordsLost s)
  rw [dmaReset_eq]
  exact ⟨cpins.trans hpins, cmsix.trans hmsix, csec.trans hsec⟩

/-- MSI-X and the link at their reset values. -/
def pcieCleared (s : State) : State := { s with msix := { lastSent := s.msix.lastSent }, pcie := { training := mayTrain s } }

theorem pcieReset_eq (s : State) : pcieReset s = pcieCleared (dmaReset (linkLost s)) := by rw [pcieReset, pcieCleared]

theorem pcieCleared_acts (s : State) : (pcieCleared s).pcie = { training := mayTrain s } ∧ (pcieCleared s).rings = s.rings ∧
    (pcieCleared s).msix = { lastSent := s.msix.lastSent } ∧ (pcieCleared s).pins = s.pins ∧
    ∀ off, regRead (pcieCleared s) off = regRead s off := ⟨rfl, rfl, rfl, rfl, fun _ => rfl⟩

/-- What the reset of the PCIe interface leaves (R454, R479). -/
theorem pcieReset_acts (s : State) : (pcieReset s).pcie = { training := mayTrain s } ∧ (pcieReset s).rings = [] ∧
    (pcieReset s).msix = { lastSent := s.msix.lastSent } ∧ (pcieReset s).pins = s.pins ∧
    ∀ off, isDmaReset off = true → regRead (pcieReset s) off = resetOf off := by
  obtain ⟨dpins, dmsix, dsec⟩ := dmaReset_rest (linkLost s)
  have lpins : (linkLost s).pins = s.pins := by rw [linkLost_frame]
  have lmsix : (linkLost s).msix = s.msix := by rw [linkLost_frame]
  have lsec : (linkLost s).sec = s.sec := by rw [linkLost_frame]
  have htrain : mayTrain (dmaReset (linkLost s)) = mayTrain s := by rw [mayTrain, dpins, dsec, lpins, lsec, mayTrain]
  obtain ⟨cpcie, crings, cmsix, cpins, cread⟩ := pcieCleared_acts (dmaReset (linkLost s))
  rw [pcieReset_eq]
  refine ⟨by rw [cpcie, htrain], by rw [crings, dmaReset_eq, dmaCleared], by rw [cmsix, dmsix, lmsix], by rw [cpins, dpins, lpins], fun off h => ?_⟩
  rw [cread, dmaReset_eq, regRead_dmaCleared _ _ h]

/-- The state once PERST_N low is noted, before the reset. -/
def perstNoted (s : State) : State := notePerst { s with pins := { s.pins with perstLow := true } }

theorem perstAssert_booted {s : State} (hhigh : s.pins.perstLow = false) (hboot : s.sec.bootStep ≠ 0) : perstAssert s =
    if (mboxPerst (pcieReset (perstNoted s))).loader.push then abortLoad (mboxPerst (pcieReset (perstNoted s)))
    else mboxPerst (pcieReset (perstNoted s)) := by
  unfold perstAssert
  rw [if_neg (by rw [hhigh]; decide)]
  dsimp only
  rw [if_neg hboot, ← perstNoted]

/-- Settles O29: PERST_N and the link's loss by the reset of the PCIe interface, release and training by their definitions. -/
theorem pcieCommandsAct : Obligations.PcieCommandsAct := by
  unfold Obligations.PcieCommandsAct
  refine ⟨?_, ?_, ?_, ?_⟩
  · intro s hhigh hboot
    obtain ⟨hpcie, hrings, hmsix, hpins, -⟩ := pcieReset_acts (perstNoted s)
    have hnoted : (perstNoted s).pins = { s.pins with perstLow := true } ∧ (perstNoted s).msix = s.msix := by
      unfold perstNoted notePerst
      exact ⟨emit_pins .., emit_msix ..⟩
    have hafter : (perstAssert s).edge = (pcieReset (perstNoted s)).edge := by
      rw [perstAssert_booted hhigh hboot, apply_ite State.edge, abortLoad_edge, ite_self, mboxPerst_edge]
    obtain ⟨apins, alink, arings, amsix⟩ := edge_parts hafter
    refine ⟨perstAssert s, rfl, by rw [apins, hpins, hnoted.1], ?_, by rw [arings, hrings], by rw [amsix, hmsix, hnoted.2]⟩
    have hlow : mayTrain (perstNoted s) = false := by simp [mayTrain, hnoted.1]
    rw [alink, hpcie, hlow]
  · intro s hlow hboot
    refine ⟨perstRelease s, rfl, ?_⟩
    have hgo : perstRelease s = notePerst { s with
        pins := { s.pins with perstLow := false }
        pcie := { s.pcie with training := mayTrain { s with pins := { s.pins with perstLow := false } } } } :=
      (if_neg (by rw [hlow]; decide)).trans (if_neg hboot)
    have htrain : mayTrain { s with pins := { s.pins with perstLow := false } } = Decidable.decide (4 ≤ s.sec.bootStep) := Bool.and_true _
    rw [hgo, htrain, notePerst]
    exact ⟨emit_pins .., emit_pcie .., by rw [emit_frame]⟩
  · intro s hup c hc
    simp only [List.mem_cons, List.not_mem_nil, or_false] at hc
    rcases hc with rfl | rfl
    · exact ⟨_, congrArg Host.Outcome.next (if_pos hup), pcieReset_acts s⟩
    · exact ⟨_, congrArg Host.Outcome.next (if_pos hup), pcieReset_acts s⟩
  · intro s rate width htrain hon hlo hhi hwidth
    have hgo : pcieLinkUp rate.val width.val s =
        notePcie { s with pcie := { s.pcie with up := true, training := false, rate := rate.val, width := width.val } } :=
      if_pos (by simp only [htrain, hon, hlo, hhi, hwidth, decide_true, Bool.and_self])
    refine ⟨_, congrArg Host.Outcome.next hgo, emit_pcie .., ?_⟩
    rw [notePcie_frame]

end Sys2Proof.Machine
end


section
/-!
PROOFS. Accesses of BAR0, the user page and configuration space (R3, R4, R6, R34, R452, R453, R456), and REG32 entries (R469).
-/
namespace Sys2Proof.Machine

/-! ### Where offsets lead -/

theorem decodeOff_lt {off : Nat} {x : Block × Nat × Nat} (h : decodeOff off = some x) : off < 0x620000 := by
  obtain ⟨span, hspan, -⟩ := Option.map_eq_some_iff.1 h
  have hmem := List.mem_of_find?_eq_some hspan
  have hlt : span.base ≤ off ∧ off < span.limit := by simpa using List.find?_some hspan
  have hlimit : ∀ b ∈ blockSpans, b.limit ≤ 0x620000 := by decide
  exact Nat.lt_of_lt_of_le hlt.2 (hlimit span hmem)

theorem bar4Ok_of_decodeOff {off : Nat} {x : Block × Nat × Nat} (size : Nat) (h : decodeOff off = some x) : bar4Ok off size = false := by
  have hlt := decodeOff_lt h
  have hbase : ¬ bar4Base ≤ off := by unfold bar4Base; omega
  simp [bar4Ok, hbase]

theorem cfgOk_of_decodeOff {off : Nat} {x : Block × Nat × Nat} (size : Nat) (h : decodeOff off = some x) : cfgOk off size = false := by
  have hlt := decodeOff_lt h
  have hbase : ¬ cfgBase ≤ off := by unfold cfgBase; omega
  simp [cfgOk, hbase]

theorem bar4Ok_of_cfgOk {off size : Nat} (h : cfgOk off size = true) (n : Nat) : bar4Ok off n = false := by
  have hge : cfgBase ≤ off := by
    simp only [cfgOk, Bool.and_eq_true, decide_eq_true_eq] at h
    exact h.1.1.1
  have hlt : ¬ off < bar4Base + 0x10000 := by unfold cfgBase at hge; unfold bar4Base; omega
  simp [bar4Ok, hlt]

/-! ### Writes -/

theorem registerWrite_bad {s : State} {off size : Nat} (data : Word64) (hup : s.pcie.up = true) (h : bar0Ok off size = false) :
    exec (.registerWrite off size data) s = .next (unsupported (freshOut s)) := by
  rw [exec, execRegisterWrite, if_pos hup, registerWrite, if_pos (by rw [h]; rfl)]

theorem writesOpen_freshOut (s : State) (off : Nat) : writesOpen (freshOut s) off = writesOpen s off := rfl

theorem registerWrite_closed {s : State} {off size : Nat} (data : Word64) (hup : s.pcie.up = true) (h : bar0Ok off size = true)
    (hopen : writesOpen s off = false) : exec (.registerWrite off size data) s = .next (complete [] (freshOut s)) := by
  rw [exec, execRegisterWrite, if_pos hup, registerWrite, if_neg (by rw [h]; decide), if_pos (by rw [writesOpen_freshOut, hopen]; rfl)]

theorem registerWrite_open {s : State} {off size : Nat} (data : Word64) (hup : s.pcie.up = true) (h : bar0Ok off size = true)
    (hopen : writesOpen s off = true) : exec (.registerWrite off size data) s =
      .next (complete [] (if size = 8 then writeReg64 off data (freshOut s) else writeReg32 off (data.extractLsb' 0 32) (freshOut s))) := by
  rw [exec, execRegisterWrite, if_pos hup, registerWrite, if_neg (by rw [h]; decide),
    if_neg (by rw [writesOpen_freshOut, hopen]; decide)]

/-- CAUSE and MASK of the blocks that keep both as plain registers: a write stores, clears and sets bits alone. -/
theorem blockWrite_cause {b : Block} {rel : Nat} (i off : Nat) (v : Word32) (s : State)
    (hb : b ∈ [Block.treas, .time, .perf, .sill, .dma, .port, .lane, .teth, .assay, .sieve, .disp, .tell, .till, .vault, .vaultCh, .audit, .nose,
      .mint, .swc, .tm, .egr]) (hrel : rel = 0x10 ∨ rel = 0x14) : blockWrite b i off rel v s = plainWrite off v s := by
  have hnot : ¬ 0x100 ≤ rel := by omega
  have hepoch : oldEpochReg s rel = false := by rcases hrel with rfl | rfl <;> simp [oldEpochReg]
  simp only [List.mem_cons, List.not_mem_nil, or_false] at hb
  rcases hb with rfl | rfl | rfl | rfl | rfl | rfl | rfl | rfl | rfl | rfl | rfl | rfl | rfl | rfl | rfl | rfl | rfl | rfl | rfl | rfl | rfl
  case inr.inr.inr.inr.inr.inr.inr.inr.inr.inl =>
    rcases hrel with rfl | rfl <;> simp [blockWrite, writeSieve, hepoch]
  all_goals
    rcases hrel with rfl | rfl <;>
      simp [blockWrite, writeTreas, writeTime, writePerf, writeDma, writeDisp, writeTell, writeTill, writeNose, writeSwc, writeTm, writeEgr]

theorem writeReg32_plain {s : State} {off : Nat} {v : Word32} {b : Block} {i rel : Nat} {r : RegRow} (hd : decodeOff off = some (b, i, rel))
    (hr : rowAt b rel = some r) (hx : existsAt s b i r = true) (hrepl : r.scope ≠ .repl ∨ i = 0) (hrel : rel ≠ 0x18)
    (hplain : blockWrite b i off rel v s = plainWrite off v s) : writeReg32 off v s = regStore off (plainValue s r (regRead s off) v) s := by
  have hrow : rowOf off = some r := by rw [rowOf, hd]; exact hr
  unfold writeReg32
  simp only [hd, hr]
  rw [if_neg (existsAt_cond hx hrepl), if_neg (fun h => hrel h.1), hplain, plainWrite, hrow]

/-! ### Reads -/

theorem rcRead_register {s : State} {off size : Nat} (hup : s.pcie.up = true) (h4 : bar4Ok off size = false) (hcfg : cfgOk off size = false) :
    exec (.rcRead off size) s = .next (registerRead off size s) := by
  rw [exec, execRcRead, if_pos hup, if_neg (by rw [h4]; decide), if_neg (by rw [hcfg]; decide)]

theorem clearRc_row {s : State} {off : Nat} {b : Block} {i rel : Nat} {r : RegRow} (hd : decodeOff off = some (b, i, rel))
    (hr : rowAt b rel = some r) (hx : existsAt s b i r = true) :
    clearRc off s = if s.perf.frozen then s else regStore off (regRead s off &&& ~~~ r.mask (· == .rc)) s := by
  unfold clearRc
  simp only [hd, hr, hx, Bool.not_true, Bool.or_false]

/-- A read but those of DISP_AFF_DATA and TM_GCL_DUR has no effect beside clearing RC fields. -/
theorem readEffect_plain {s : State} {off : Nat} {b : Block} {i rel : Nat} (hd : decodeOff off = some (b, i, rel)) (hopen : writesOpen s off = true)
    (hgcl : off ≠ Reg.TM_GCL_DUR) (haff : b ≠ .disp ∨ rel ≠ 0x184) : readEffect off s = clearRc off s := by
  unfold readEffect
  rw [if_neg (by rw [hopen]; decide), if_neg hgcl, hd]
  split
  next b' _ heq =>
    obtain ⟨rfl, rfl, rfl⟩ : b = .disp ∧ i = _ ∧ rel = 0x184 := by simpa using heq
    simp at haff
  next => rfl

/-- A read of the user page at an offset of the page. -/
def pageRead (a size : Nat) (s : State) : State :=
  let word := fun i => if flagOf s Reg.PERF_CTRL 31 then userWord s (a + 4 * i) else 0
  complete (if size = 8 then leBytes 4 (word 0) ++ leBytes 4 (word 1) else leBytes 4 (word 0)) s

theorem userRead_eq_pageRead (off size : Nat) (s : State) : userRead off size s = pageRead (off - bar4Base) size s := rfl

theorem pageRead_four (a : Nat) (s : State) :
    pageRead a 4 s = complete (leBytes 4 (if flagOf s Reg.PERF_CTRL 31 then userWord s a else 0)) s := by
  unfold pageRead
  generalize userWord s = word
  generalize flagOf s Reg.PERF_CTRL 31 = populated
  rfl

theorem pageRead_eight (a : Nat) (s : State) : pageRead a 8 s = complete (if flagOf s Reg.PERF_CTRL 31 then
    leBytes 4 (userWord s a) ++ leBytes 4 (userWord s (a + 4)) else List.replicate 8 0) s := by
  have hzero : leBytes 4 0 ++ leBytes 4 0 = List.replicate 8 0 := by decide
  unfold pageRead
  generalize userWord s = word
  cases flagOf s Reg.PERF_CTRL 31 with
  | true => rfl
  | false => exact congrArg (complete · s) hzero

/-- Settles O30: each access by the branch of its command that its size, window and target lead to. -/
theorem hostAccessCommandsAct : Obligations.HostAccessCommandsAct := by
  unfold Obligations.HostAccessCommandsAct
  refine ⟨?_, ?_, ?_, ?_, ?_, ?_, ?_, ?_, ?_, ?_, ?_, ?_, ?_, ?_, ?_⟩
  · exact fun s off size data hup h => ⟨_, registerWrite_bad data hup h, rfl, rfl⟩
  · exact fun s off size data hup h hopen => ⟨_, registerWrite_closed data hup h hopen, rfl, rfl⟩
  · exact fun s off data hup h hopen => (registerWrite_open data hup h hopen).trans (by rw [if_neg (by decide)])
  · intro s off data hup h hopen hincr
    rw [registerWrite_open data hup h hopen, if_pos rfl, writeReg64, if_neg hincr]
  · intro s data hup
    have hok : bar0Ok Reg.TIME_INCR_LO 8 = true := by decide
    have hopen : writesOpen s Reg.TIME_INCR_LO = true := rfl
    rw [registerWrite_open data hup hok hopen, if_pos rfl, writeReg64, if_pos rfl]
  · intro s off data b i rel r hup h hopen hd hr hx hrepl hb hrel
    have hplain := writeReg32_plain (s := freshOut s) (v := data.extractLsb' 0 32) hd hr hx hrepl (by omega) (blockWrite_cause i off _ _ hb hrel)
    refine ⟨_, registerWrite_open data hup h hopen, ?_, ?_⟩
    · rw [if_neg (by decide), hplain]
      exact regRead_store_same ..
    · rw [if_neg (by decide), hplain]
      rfl
  · intro s off size w hup h hcfg h4
    refine ⟨unsupported s, ?_, rfl, rfl⟩
    rw [exec, execUnsupportedRequest, if_pos]
    rcases h4 with h4 | h4 <;> simp [hup, h, hcfg, h4]
  · intro s off size hup h hcfg h4
    refine ⟨unsupported s, ?_, rfl, rfl⟩
    rw [rcRead_register hup h4 hcfg, registerRead, if_pos (by rw [h]; rfl)]
  · intro s off hup h4
    have hread : exec (.rcRead off 4) s = .next (userRead off 4 s) := by rw [exec, execRcRead, if_pos hup, if_pos h4]
    rw [userRead_eq_pageRead, pageRead_four] at hread
    exact ⟨_, hread, rfl, rfl, rfl⟩
  · intro s off hup h4
    have hread : exec (.rcRead off 8) s = .next (userRead off 8 s) := by rw [exec, execRcRead, if_pos hup, if_pos h4]
    rw [userRead_eq_pageRead, pageRead_eight] at hread
    exact ⟨_, hread, rfl, rfl, rfl⟩
  · intro s off v hup hcfg hv
    refine ⟨complete (leBytes 4 v) s, ?_, rfl, rfl, rfl⟩
    rw [exec, execRcRead, if_pos hup, if_neg (by rw [bar4Ok_of_cfgOk hcfg]; decide), if_pos hcfg, cfgRead, hv]
  · intro s off hup hcfg hv
    refine ⟨cfgRead off s, ?_, ?_⟩
    · rw [exec, execRcRead, if_pos hup, if_neg (by rw [bar4Ok_of_cfgOk hcfg]; decide), if_pos hcfg]
    · rw [cfgRead, hv]
      exact ⟨rfl, rfl⟩
  · intro s off b i rel r hup h hopen hgcl hd haff hr hx
    have hread : registerRead off 4 s = complete (leBytes 4 (readValue s off)) (clearRc off s) := by
      rw [registerRead, if_neg (by rw [h]; decide), if_neg (by decide), readHalf, if_neg hgcl, readEffect_plain hd hopen hgcl haff]
    refine ⟨_, (rcRead_register hup (bar4Ok_of_decodeOff 4 hd) (cfgOk_of_decodeOff 4 hd)).trans (congrArg Host.Outcome.next hread), rfl, rfl, ?_⟩
    rw [clearRc_row hd hr hx]
    split
    · exact ⟨rfl, rfl⟩
    · exact ⟨regRead_store_same .., rfl⟩
  · intro s n b hup hb hok
    have hb' : entryInHand (freshOut s) n.val 2 = some b := hb
    have hok' : batchOffset (freshOut s) b.arg = true := hok
    rw [exec, execBatchReg32, if_pos hup, batchReg32, hb']
    exact congrArg Host.Outcome.next (if_pos hok')
  · intro s n b hup hb hok
    have hb' : entryInHand (freshOut s) n.val 2 = some b := hb
    have hok' : ¬ batchOffset (freshOut s) b.arg = true := fun h => Bool.false_ne_true (hok.symm.trans h)
    rw [exec, execBatchReg32, if_pos hup, batchReg32, hb']
    exact congrArg Host.Outcome.next (if_neg hok')

end Sys2Proof.Machine
end


section
/-!
PROOFS. The Coffer: rounds of one word, accesses of software and rounds of the Tellers (R455 to R460).
-/
namespace Sys2Proof.Machine

/-! ### Bytes of little-endian words -/

theorem leNat_div_mod (l : Bytes) (k : Nat) : leNat l / 256 ^ k % 256 = (l.getD k 0).toNat := by
  induction l generalizing k with
  | nil => simp [leNat]
  | cons b bs ih =>
    have hb := b.isLt
    cases k with
    | zero => simp only [leNat, List.getD_cons_zero]; omega
    | succ k =>
      have hdiv : (b.toNat + 256 * leNat bs) / 256 = leNat bs := by omega
      rw [leNat, List.getD_cons_succ, ← ih k, Nat.pow_succ', ← Nat.div_div_eq_div_mul, hdiv]

/-- Byte k of the word that eight bytes make. -/
theorem extractLsb'_leNat (l : Bytes) {k : Nat} (h : k < 8) : (BitVec.ofNat 64 (leNat l)).extractLsb' (8 * k) 8 = l.getD k 0 := by
  apply BitVec.eq_of_toNat_eq
  rw [← leNat_div_mod, BitVec.extractLsb'_toNat, BitVec.toNat_ofNat, Nat.shiftRight_eq_div_pow, Nat.pow_mul]
  interval_cases k <;> omega

theorem length_leBytes (n v : Nat) : (leBytes n v).length = n := by
  induction n generalizing v with
  | zero => rfl
  | succ n ih => simp [leBytes, ih]

theorem getD_leBytes {n k : Nat} (h : k < n) (v : Nat) : (leBytes n v).getD k 0 = BitVec.ofNat 8 (v / 256 ^ k) := by
  induction n generalizing v k with
  | zero => omega
  | succ n ih =>
    cases k with
    | zero => simp [leBytes]
    | succ k =>
      rw [leBytes, List.getD_cons_succ, ih (by omega), Nat.pow_succ', Nat.div_div_eq_div_mul]

/-- Byte k of a word's eight bytes. -/
theorem getD_leBytes_word (w : Word64) {k : Nat} (h : k < 8) : (leBytes 8 w.toNat).getD k 0 = w.extractLsb' (8 * k) 8 := by
  apply BitVec.eq_of_toNat_eq
  rw [getD_leBytes h, BitVec.extractLsb'_toNat, BitVec.toNat_ofNat, Nat.shiftRight_eq_div_pow, Nat.pow_mul]

/-- Byte p of the bytes of several words. -/
theorem getD_flatMap_leBytes (f : Nat → Word64) (l : List Nat) {p : Nat} (h : p < 8 * l.length) :
    (l.flatMap fun i => leBytes 8 (f i).toNat).getD p 0 = (f (l.getD (p / 8) 0)).extractLsb' (8 * (p % 8)) 8 := by
  induction l generalizing p with
  | nil => simp at h
  | cons i l ih =>
    rw [List.flatMap_cons]
    by_cases hp : p < 8
    · rw [List.getD_append _ _ _ _ (by rw [length_leBytes]; exact hp), getD_leBytes_word _ hp]
      simp [Nat.div_eq_of_lt hp, Nat.mod_eq_of_lt hp]
    · obtain ⟨q, rfl⟩ := Nat.exists_eq_add_of_le (Nat.le_of_not_lt hp)
      rw [List.getD_append_right _ _ _ _ (by rw [length_leBytes]; omega), length_leBytes, Nat.add_sub_cancel_left,
        ih (by rw [List.length_cons] at h; omega), show (8 + q) / 8 = q / 8 + 1 by omega, show (8 + q) % 8 = q % 8 by omega,
        List.getD_cons_succ]

/-! ### A round with no flip, no lost word -/

theorem cofferHeld_of_whole {s : State} (h : s.coffer.poison = []) (i : Nat) : cofferHeld s i = some (cofferWord s i) := by
  rw [cofferHeld, h]; rfl

theorem cofferRead_clean {s : State} (h : s.coffer.poison = []) (i : Nat) : cofferRead i [] s = (some (cofferWord s i), s) := by
  have hne : i % 64 ≠ 64 := by omega
  have hread : (cofferPage s (i / 64)).readAt [] (i % 64) = .clean (cofferWord s i) := by
    unfold Page.readAt cofferPage
    simp only [if_neg hne, cofferHeld_of_whole h, Nat.div_add_mod]
    rfl
  unfold cofferRead
  simp only [hread, Page.readWord, WordRead.data]

/-- What a round of a word leaves: the word alone may differ, and the requests served are no longer pending. -/
structure WordStep (i : Nat) (w : Word64) (s t : State) : Prop where
  word : ∀ j, cofferWord t j = if j = i then w else cofferWord s j
  pending : t.coffer.pending = s.coffer.pending
  poison : t.coffer.poison = []
  rest : t = { s with coffer := t.coffer }

theorem wordStep_refl {s : State} (h : s.coffer.poison = []) (i : Nat) : WordStep i (cofferWord s i) s s where
  word j := by split <;> simp_all
  pending := rfl
  poison := h
  rest := rfl

theorem wordStep_setCofferWord {s : State} (h : s.coffer.poison = []) (i : Nat) (w : Word64) : WordStep i w s (setCofferWord i w s) where
  word j := by
    unfold cofferWord setCofferWord
    rw [Tbl.get_set]
    simp [eq_comm]
  pending := rfl
  poison := by simp [setCofferWord, h]
  rest := rfl

/-- The store at the end of a round. -/
theorem wordStep_store {s : State} (h : s.coffer.poison = []) (i : Nat) (w : Word64) :
    WordStep i w s (if some w = some (cofferWord s i) then s else cofferStore i (some w) s) := by
  by_cases hw : w = cofferWord s i
  · subst hw
    rw [if_pos rfl]
    exact wordStep_refl h i
  · rw [if_neg (by simpa using hw)]
    exact wordStep_setCofferWord h i w

/-- A round with no request pending reads the word and applies software's change. -/
theorem cofferRoundOn_idle {s : State} (hpend : s.coffer.pending = []) (hpoison : s.coffer.poison = []) (i : Nat) (reads : Bool)
    (soft : Option Word64 → Option Word64) (w : Word64) (hsoft : soft (some (cofferWord s i)) = some w) :
    ∃ t, cofferRoundOn i [] reads soft s = (some (cofferWord s i), t) ∧ WordStep i w s t := by
  refine ⟨_, ?_, wordStep_store hpoison i w⟩
  have hnone : { s with coffer := { s.coffer with pending := [] } } = s := by
    rw [← hpend]
  have horder : roundOrder s [] = [] := by simp [roundOrder]
  unfold cofferRoundOn
  simp only [hpend, roundReqs, List.any_nil, Bool.or_false, List.filter_nil, cofferRead_clean hpoison, cofferHeld_of_whole hpoison, ite_self,
    horder, List.foldl_nil, hnone, hsoft]

/-! ### Software's writes -/

/-- What software's write of word i makes of it: data byte k goes to Coffer byte a + k where enabled. -/
def softenedWord (op : Byte → Byte → Byte) (a : Nat) (data : Bytes) (be : List Bool) (i : Nat) (w : Word64) : Word64 :=
  BitVec.ofNat 64 (leNat ((List.range 8).map fun j =>
    if a ≤ 8 * i + j && 8 * i + j - a < data.length && be.getD (8 * i + j - a) true then op (w.extractLsb' (8 * j) 8) (data.getD (8 * i + j - a) 0)
    else w.extractLsb' (8 * j) 8))

theorem byte_softenedWord (op : Byte → Byte → Byte) (a : Nat) (data : Bytes) (be : List Bool) (i : Nat) (w : Word64) {j : Nat} (h : j < 8) :
    (softenedWord op a data be i w).extractLsb' (8 * j) 8 =
      if a ≤ 8 * i + j ∧ 8 * i + j - a < data.length ∧ be.getD (8 * i + j - a) true = true
      then op (w.extractLsb' (8 * j) 8) (data.getD (8 * i + j - a) 0) else w.extractLsb' (8 * j) 8 := by
  rw [softenedWord, extractLsb'_leNat _ h, List.getD_eq_getElem _ _ (by simpa using h)]
  simp [and_assoc]

theorem wordStep_softWord {s : State} (hpend : s.coffer.pending = []) (hpoison : s.coffer.poison = []) (op : Byte → Byte → Byte) (plain : Bool)
    (a : Nat) (data : Bytes) (be : List Bool) (i : Nat) :
    WordStep i (softenedWord op a data be i (cofferWord s i)) s (softWord op plain a data be [] i s) := by
  obtain ⟨t, ht, hstep⟩ := cofferRoundOn_idle hpend hpoison i
    (!(plain && (List.range 8).all fun j => a ≤ 8 * i + j && 8 * i + j - a < data.length && be.getD (8 * i + j - a) true))
    (softChange (plain && (List.range 8).all fun j => a ≤ 8 * i + j && 8 * i + j - a < data.length && be.getD (8 * i + j - a) true)
      fun j x => if a ≤ 8 * i + j && 8 * i + j - a < data.length && be.getD (8 * i + j - a) true then op x (data.getD (8 * i + j - a) 0) else x)
    (softenedWord op a data be i (cofferWord s i)) rfl
  unfold softWord
  simp only [ht]
  rw [if_neg (by simp [hstep.poison])]
  exact hstep

/-- Software's writes of several words, each of which sees its own word as it was. -/
theorem wordSteps_foldl {f : Nat → State → State} {g : Nat → Word64 → Word64}
    (hf : ∀ i s, s.coffer.pending = [] → s.coffer.poison = [] → WordStep i (g i (cofferWord s i)) s (f i s)) (l : List Nat) (hl : l.Nodup) :
    ∀ s, s.coffer.pending = [] → s.coffer.poison = [] → ∀ t, t = l.foldl (fun s i => f i s) s →
      (∀ j, cofferWord t j = if j ∈ l then g j (cofferWord s j) else cofferWord s j) ∧ t = { s with coffer := t.coffer } := by
  induction l with
  | nil => rintro s - - t rfl; exact ⟨fun j => by simp, rfl⟩
  | cons i l ih =>
    intro s hpend hpoison t ht
    obtain ⟨hi, hl⟩ := List.nodup_cons.1 hl
    have step := hf i s hpend hpoison
    obtain ⟨hword, hrest⟩ := ih hl (f i s) (step.pending.trans hpend) step.poison t ht
    refine ⟨fun j => ?_, ?_⟩
    · rw [hword, step.word]
      by_cases hj : j = i
      · subst hj; simp [hi]
      · simp [hj]
    · rw [hrest, step.rest]

theorem nodup_wordsOf (a n : Nat) : (wordsOf a n).Nodup :=
  List.Nodup.map (fun _ _ h => Nat.add_left_cancel h) List.nodup_range

theorem mem_wordsOf {a n i : Nat} : i ∈ wordsOf a n ↔ a / 8 ≤ i ∧ i < (a + n + 7) / 8 := by
  simp only [wordsOf, List.mem_map, List.mem_range]
  constructor
  · rintro ⟨k, hk, rfl⟩; omega
  · rintro ⟨hle, hlt⟩; exact ⟨i - a / 8, by omega, by omega⟩

/-- A write, set or clear of a row that the Coffer takes. -/
theorem cofferHostChange_acts {row off : Nat} {data : Bytes} {be : List Bool} {s : State} (htakes : cofferTakes s row off data.length = true)
    (hpend : s.coffer.pending = []) (hpoison : s.coffer.poison = []) (t : State) (ht : t = cofferHostChange row off data be [] s) :
    t.out.ok = true ∧ t.out.ep = false ∧ t = { s with coffer := t.coffer, out := t.out } ∧
      ∀ x, cofferByte t x = if off % 0x200000 ≤ x ∧ x - off % 0x200000 < data.length ∧ be.getD (x - off % 0x200000) true = true
        then cofferOp row (cofferByte s x) (data.getD (x - off % 0x200000) 0) else cofferByte s x := by
  have htaken : ¬(cofferRow off ≠ row ∨ !inCofferRow off data.length ∨ 512 < data.length ∨
      (row ≠ 0 ∧ (¬ (data.length = 4 ∨ data.length = 8) ∨ off % data.length ≠ 0))) ∧ domOn s 27 = true := by
    simp only [cofferTakes, Bool.and_eq_true, Bool.or_eq_true, beq_iff_eq, decide_eq_true_eq] at htakes
    obtain ⟨⟨⟨⟨hdom, hrow⟩, hin⟩, hlen⟩, halias⟩ := htakes
    refine ⟨?_, hdom⟩
    simp only [hin, hrow, not_or, not_and, not_not]
    grind
  have hchange : cofferHostChange row off data be [] s =
      complete [] ((wordsOf (off % 0x200000) data.length).foldl (fun s i => softWord (cofferOp row) (row = 0) (off % 0x200000) data be [] i s) s) := by
    unfold cofferHostChange
    rw [if_neg htaken.1, if_neg (by rw [htaken.2]; decide)]
    rfl
  generalize hfold : (wordsOf (off % 0x200000) data.length).foldl _ s = r at hchange
  obtain ⟨hword, hrest⟩ := wordSteps_foldl (fun i s hp hq => wordStep_softWord hp hq (cofferOp row) (row = 0) (off % 0x200000) data be i)
    _ (nodup_wordsOf (off % 0x200000) data.length) s hpend hpoison r hfold.symm
  rw [hchange] at ht
  subst ht
  refine ⟨rfl, rfl, by rw [hrest]; rfl, fun x => ?_⟩
  have hbyte : cofferByte (complete [] r) x = cofferByte r x := rfl
  have hx : 8 * (x / 8) + x % 8 = x := Nat.div_add_mod x 8
  rw [hbyte, cofferByte, hword]
  by_cases hmem : x / 8 ∈ wordsOf (off % 0x200000) data.length
  · rw [if_pos hmem, byte_softenedWord _ _ _ _ _ _ (Nat.mod_lt _ (by decide)), hx]
    rfl
  · rw [if_neg hmem, if_neg]
    · rfl
    · rintro ⟨hle, hlt, -⟩
      exact hmem (mem_wordsOf.2 (by omega))

/-- Settles O31: a round without pending requests changes its word alone, and the rounds of a write are of different words. -/
theorem cofferWritesChangeTheEnabledBytesAlone : Obligations.CofferWritesChangeTheEnabledBytesAlone := by
  intro c s row off data be hc htakes hpend hpoison
  obtain ⟨rfl, rfl⟩ | ⟨rfl, rfl⟩ | ⟨rfl, rfl⟩ := hc
  all_goals exact ⟨_, rfl, cofferHostChange_acts htakes hpend hpoison _ rfl⟩

end Sys2Proof.Machine
end


section
/-!
PROOFS. Reads of the Coffer, its rounds for the Tellers, and the Coffer without power (R413, R457 to R459).
-/
namespace Sys2Proof.Machine

/-! ### Software's reads -/

theorem cofferRoundOn_read {s : State} (hpend : s.coffer.pending = []) (hpoison : s.coffer.poison = []) (i : Nat) :
    cofferRoundOn i [] true id s = (some (cofferWord s i), s) := by
  have hnone : { s with coffer := { s.coffer with pending := [] } } = s := by rw [← hpend]
  have horder : roundOrder s [] = [] := by simp [roundOrder]
  unfold cofferRoundOn
  simp only [hpend, roundReqs, List.any_nil, Bool.or_false, List.filter_nil, cofferRead_clean hpoison, if_true, horder, List.foldl_nil, hnone, id]

/-- One word of a read: its bytes join those before, and a lost word is noted. -/
def readStep (flips : List WordFlips) : Bytes × Bool × State → Nat → Bytes × Bool × State := fun (vs, lost, s) i =>
  let (v, s) := cofferRoundOn i flips true id s
  let (w, s) := match v with | some w => (w, s) | none => takeFree s
  (vs ++ leBytes 8 w.toNat, lost || v.isNone, s)

theorem readStep_clean {s : State} (hpend : s.coffer.pending = []) (hpoison : s.coffer.poison = []) (vs : Bytes) (i : Nat) :
    readStep [] (vs, false, s) i = (vs ++ leBytes 8 (cofferWord s i).toNat, false, s) := by
  unfold readStep
  simp only [cofferRoundOn_read hpend hpoison, Option.isNone_some, Bool.or_false]

theorem readSteps_clean {s : State} (hpend : s.coffer.pending = []) (hpoison : s.coffer.poison = []) (l : List Nat) (vs : Bytes) :
    l.foldl (readStep []) (vs, false, s) = (vs ++ l.flatMap fun i => leBytes 8 (cofferWord s i).toNat, false, s) := by
  induction l generalizing vs with
  | nil => simp
  | cons i l ih => rw [List.foldl_cons, readStep_clean hpend hpoison, ih, List.flatMap_cons, List.append_assoc]

/-- The completion of a read with what its words gave. -/
def readEnd (a len : Nat) : Bytes × Bool × State → State := fun (vs, lost, s) =>
  let s := complete (slice vs (a % 8) len) s
  if lost then { s with out := { s.out with ep := true } } else s

theorem readEnd_ok (a len : Nat) (r : Bytes × Bool × State) : (readEnd a len r).out.ok = true := by
  unfold readEnd
  simp only
  split <;> rfl

theorem cofferHostRead_takes {s : State} {off n : Nat} (h : cofferReads s off n = true) (flips : List WordFlips) :
    cofferHostRead off n flips s = readEnd (off % 0x200000) n ((wordsOf (off % 0x200000) n).foldl (readStep flips) ([], false, s)) := by
  simp only [cofferReads, Bool.and_eq_true, decide_eq_true_eq] at h
  obtain ⟨⟨hdom, hin⟩, hlen⟩ := h
  unfold cofferHostRead
  rw [if_neg (by rw [hin]; simpa using hlen), if_neg (by rw [hdom]; decide)]
  rfl

theorem length_wordsOf (a n : Nat) : (wordsOf a n).length = (a + n + 7) / 8 - a / 8 := by simp [wordsOf]

/-- The bytes that a read takes of its words' bytes. -/
theorem slice_words (s : State) (a n : Nat) :
    slice ((wordsOf a n).flatMap fun i => leBytes 8 (cofferWord s i).toNat) (a % 8) n = (List.range n).map fun k => cofferByte s (a + k) := by
  refine List.map_congr_left fun k hk => ?_
  have hk := List.mem_range.1 hk
  have hlen : a % 8 + k < 8 * (wordsOf a n).length := by rw [length_wordsOf]; omega
  have hword : (wordsOf a n).getD ((a % 8 + k) / 8) 0 = (a + k) / 8 := by
    rw [List.getD_eq_getElem _ _ (by omega)]
    simp only [wordsOf, List.getElem_map, List.getElem_range]
    omega
  have hmod : (a % 8 + k) % 8 = (a + k) % 8 := by omega
  rw [byteAt, getD_flatMap_leBytes _ _ hlen, hword, hmod]
  exact BitVec.ofNat_toNat ..

theorem unsupported_cause_acts (reg : Nat) (i : Nat) (s : State) :
    (unsupported (cause reg i s)).out.ok = false ∧
      unsupported (cause reg i s) = { s with out := (unsupported (cause reg i s)).out, regs := (unsupported (cause reg i s)).regs } := by
  refine ⟨rfl, ?_⟩
  unfold unsupported
  rw [cause_frame]

theorem cofferHostRead_refused {s : State} {off n : Nat} (h : cofferReads s off n = false) (flips : List WordFlips) (t : State)
    (ht : t = cofferHostRead off n flips s) : t.out.ok = false ∧ t = { s with out := t.out, regs := t.regs } := by
  subst ht
  unfold cofferHostRead
  by_cases hfit : inCofferRow off n = true ∧ n ≤ 512
  · have hdom : domOn s 27 = false := by simpa [cofferReads, hfit] using h
    rw [if_neg (by simp [hfit]), if_pos (by rw [hdom]; rfl)]
    exact unsupported_cause_acts ..
  · rw [if_pos (by simpa [or_iff_not_imp_left] using hfit)]
    split
    · exact unsupported_cause_acts ..
    · exact ⟨rfl, rfl⟩

/-! ### Software's writes, and those that the Coffer does not take -/

theorem cofferHostChange_ok {row off : Nat} {data : Bytes} {s : State} (h : cofferTakes s row off data.length = true) (be : List Bool)
    (flips : List WordFlips) : (cofferHostChange row off data be flips s).out.ok = true := by
  simp only [cofferTakes, Bool.and_eq_true, Bool.or_eq_true, beq_iff_eq, decide_eq_true_eq] at h
  obtain ⟨⟨⟨⟨hdom, hrow⟩, hin⟩, hlen⟩, halias⟩ := h
  unfold cofferHostChange
  rw [if_neg (by simp only [hin, hrow, not_or, not_and, not_not]; grind), if_neg (by rw [hdom]; decide)]
  rfl

theorem cofferHostChange_refused {row off : Nat} {data : Bytes} {s : State} (h : cofferTakes s row off data.length = false) (be : List Bool)
    (flips : List WordFlips) (t : State) (ht : t = cofferHostChange row off data be flips s) :
    t.out.ok = false ∧ t = { s with out := t.out, regs := t.regs } ∧
      (row ≠ 0 → domOn s 27 = true → flagOf t Reg.TOP_COFFER_IRQ_CAUSE 1 = true) := by
  subst ht
  unfold cofferHostChange
  by_cases hbad : cofferRow off ≠ row ∨ !inCofferRow off data.length ∨ 512 < data.length ∨
      (row ≠ 0 ∧ (¬ (data.length = 4 ∨ data.length = 8) ∨ off % data.length ≠ 0))
  · rw [if_pos hbad]
    by_cases hrow : row ≠ 0
    · rw [if_pos hrow]
      obtain ⟨hok, hrest⟩ := unsupported_cause_acts Reg.TOP_COFFER_IRQ_CAUSE 1 s
      exact ⟨hok, hrest, fun _ _ => flagOf_cause_same Reg.TOP_COFFER_IRQ_CAUSE 1 s (by omega)⟩
    · rw [if_neg hrow]
      exact ⟨rfl, rfl, fun hne => absurd hne hrow⟩
  · have hdom : domOn s 27 = false := by
      by_contra hon
      rw [Bool.not_eq_false] at hon
      simp only [cofferTakes, hon, Bool.true_and] at h
      grind
    rw [if_neg hbad, if_pos (by rw [hdom]; rfl)]
    obtain ⟨hok, hrest⟩ := unsupported_cause_acts Reg.TOP_COFFER_IRQ_CAUSE 0 s
    exact ⟨hok, hrest, fun _ hon => by rw [hdom] at hon; exact absurd hon (by decide)⟩

/-! ### Rounds of the Tellers' requests -/

/-- The state at the array of a round that serves every pending request. -/
def servedAll (s : State) : State := { s with coffer := { s.coffer with pending := [] } }

theorem flatMap_range_single (q : CofferReq) (n : Nat) :
    ((List.range n).flatMap fun t => if q.teller == t then [q] else []) = if q.teller < n then [q] else [] := by
  induction n with
  | zero => rfl
  | succ n ih =>
    rw [List.range_succ, List.flatMap_append, ih, List.flatMap_singleton]
    obtain hlt | heq | hgt := Nat.lt_trichotomy q.teller n
    · rw [if_pos hlt, if_neg (by rw [beq_iff_eq]; omega), if_pos (by omega), List.append_nil]
    · rw [if_neg (by omega), if_pos (by rw [beq_iff_eq]; omega), if_pos (by omega), List.nil_append]
    · rw [if_neg (by omega), if_neg (by rw [beq_iff_eq]; omega), if_neg (by omega), List.append_nil]

theorem roundOrder_single {s : State} {q : CofferReq} (hq : q.teller < 128) (h : modifies s q = true) : roundOrder s [q] = [q] := by
  have hone : (fun t => [q].filter fun r => modifies s r && r.teller == t) = fun t => if q.teller == t then [q] else [] := by
    funext t
    simp [List.filter_cons, h]
  rw [roundOrder, hone, flatMap_range_single, if_pos hq]
  simp [h]

theorem cofferRound_single {s : State} {q : CofferReq} {m : MemOp} (hdom : domOn s 27 = true) (hpend : s.coffer.pending = [q])
    (hpoison : s.coffer.poison = []) (hq : q.teller < 128) (hm : memOp s q.teller q.op = some m) (hmod : 3 ≤ m.mop) {w : Word64} {t : State}
    (hstep : roundStep (some (cofferWord s q.word)) q (some (cofferWord s q.word)) (servedAll s) = (some w, t)) :
    cofferRound [] s = if some w = some (cofferWord s q.word) then t else cofferStore q.word (some w) t := by
  have hreqs : roundReqs q.word [q] [] = [q] := by simp [roundReqs]
  have horder : roundOrder s [q] = [q] := roundOrder_single hq (by simp [modifies, hm, hmod])
  have hserved : { s with coffer := { s.coffer with pending := [] } } = servedAll s := rfl
  unfold cofferRound
  rw [if_neg (by rw [hdom]; decide)]
  simp only [hpend]
  unfold cofferRoundOn
  simp only [hpend, hreqs, cofferRead_clean hpoison, cofferHeld_of_whole hpoison, ite_self, horder, List.filter_cons, List.filter_nil,
    List.mem_singleton, not_true, decide_false, Bool.false_eq_true, if_false, hserved, List.foldl_cons, List.foldl_nil, hstep, id]

theorem endStore_served {s : State} {q : CofferReq} (h : s.coffer.pending = []) : endStore q s = dropMem q.teller q.op s := by
  unfold endStore
  rw [h]
  rfl

/-- What a round leaves whose one request made w of its word, with the Teller's operation answered or ended. -/
theorem served_acts {s t : State} {i : Nat} {w : Word64} (hpoison : s.coffer.poison = []) (ht : t = { servedAll s with tellers := t.tellers })
    (u : State) (hu : u = if some w = some (cofferWord s i) then t else cofferStore i (some w) t) :
    u.coffer.pending = [] ∧ cofferWord u i = w ∧ (∀ j, j ≠ i → cofferWord u j = cofferWord s j) ∧
      u = { s with coffer := u.coffer, tellers := u.tellers } := by
  have hword : ∀ j, cofferWord t j = cofferWord s j := fun j => by rw [ht]; rfl
  have hstep := wordStep_store (s := t) (by rw [ht]; exact hpoison) i w
  rw [hword, ← hu] at hstep
  refine ⟨hstep.pending.trans (by rw [ht]; rfl), (hstep.word i).trans (if_pos rfl), fun j hj => ?_, ?_⟩
  · rw [hstep.word, if_neg hj, hword]
  · rw [hstep.rest, ht]; rfl

/-- What an atomic operation of a round makes of its word (R458). -/
def atomicWord (m : MemOp) (w : Word64) : Word64 :=
  if m.mop = 5 then w + m.data else if m.mop = 6 then m.data else if w = m.arg then m.data else w

theorem roundStep_atomic {s : State} {q : CofferReq} {m : MemOp} (hm : memOp s q.teller q.op = some m) (hmop : m.mop = 5 ∨ m.mop = 6 ∨ m.mop = 7)
    (w : Word64) : ∃ t, roundStep (some w) q (some w) s = (some (atomicWord m w), t) ∧ t = { s with tellers := t.tellers } := by
  unfold roundStep atomicWord
  obtain h | h | h := hmop <;> simp only [hm, h] <;> exact ⟨_, rfl, rfl⟩

theorem roundStep_store {s : State} {q : CofferReq} {m : MemOp} (hm : memOp s q.teller q.op = some m) (hmop : m.mop = 3 ∨ m.mop = 4)
    (hpend : s.coffer.pending = []) (w : Word64) :
    ∃ t, roundStep (some w) q (some w) s = (some (if q.half = 0 then m.data else m.data2), t) ∧ t = { s with tellers := t.tellers } := by
  unfold roundStep
  obtain h | h := hmop <;> simp only [hm, h, endStore_served hpend] <;> exact ⟨_, rfl, rfl⟩

/-! ### The Coffer without power -/

/-- One request ended while the Coffer is not ON. -/
def endRequest (s : State) (q : CofferReq) : State :=
  match memOp s q.teller q.op with
  | some m => if isStore m.mop then dropMem q.teller q.op s else poisonCoffer q s
  | none => s

theorem endRequest_frame (s : State) (q : CofferReq) : endRequest s q = { s with tellers := (endRequest s q).tellers } := by
  unfold endRequest
  split
  · split <;> rfl
  · rfl

theorem endRequests_frame (l : List CofferReq) (s : State) : l.foldl endRequest s = { s with tellers := (l.foldl endRequest s).tellers } := by
  induction l generalizing s with
  | nil => rfl
  | cons q l ih => rw [List.foldl_cons, ih, endRequest_frame s q]

theorem cofferOff_none {s : State} (h : s.coffer.pending = []) : cofferOff s = s := by
  have hnone : { s with coffer := { s.coffer with pending := [] } } = s := by rw [← h]
  unfold cofferOff
  rw [h]
  exact hnone

theorem cofferOff_acts {s : State} {q : CofferReq} (h : q ∈ s.coffer.pending) (t : State) (ht : t = cofferOff s) :
    t.coffer = { s.coffer with pending := [] } ∧ flagOf t Reg.TOP_COFFER_IRQ_CAUSE 0 = true ∧
      t = { s with coffer := t.coffer, tellers := t.tellers, regs := t.regs } := by
  have hsome : s.coffer.pending.isEmpty = false := by
    rw [List.isEmpty_eq_false_iff]
    exact List.ne_nil_of_mem h
  have hfold : t = s.coffer.pending.foldl endRequest (cause Reg.TOP_COFFER_IRQ_CAUSE 0 (servedAll s)) := by
    rw [ht]
    unfold cofferOff
    simp only [hsome]
    rfl
  rw [endRequests_frame] at hfold
  generalize (s.coffer.pending.foldl endRequest (cause Reg.TOP_COFFER_IRQ_CAUSE 0 (servedAll s))).tellers = x at hfold
  subst hfold
  refine ⟨?_, flagOf_cause_same Reg.TOP_COFFER_IRQ_CAUSE 0 (servedAll s) (by omega), ?_⟩ <;> rw [cause_frame] <;> rfl

/-- Settles O32: by the lemmas on reads, on rounds of one request and on the Coffer without power. -/
theorem cofferCommandsAct : Obligations.CofferCommandsAct := by
  refine ⟨?_, ?_, ?_, ?_, ?_, ?_, ?_, ?_, ?_⟩
  · intro s off n h hpend hpoison
    have hread : cofferHostRead off n [] s = complete ((List.range n).map fun k => cofferByte s (off % 0x200000 + k)) s := by
      rw [cofferHostRead_takes h, readSteps_clean hpend hpoison, List.nil_append, readEnd]
      simp only [Bool.false_eq_true, if_false, slice_words]
    exact ⟨_, congrArg Host.Outcome.next hread, rfl, rfl, rfl, rfl⟩
  · intro s off n flips h
    exact ⟨_, congrArg Host.Outcome.next (cofferHostRead_takes h flips), readEnd_ok ..⟩
  · intro c s row off data be flips hc h
    obtain ⟨rfl, rfl⟩ | ⟨rfl, rfl⟩ | ⟨rfl, rfl⟩ := hc
    all_goals exact ⟨_, rfl, cofferHostChange_ok h be flips⟩
  · intro s off n flips h
    exact ⟨_, rfl, cofferHostRead_refused h flips _ rfl⟩
  · intro c s row off data be flips hc h
    obtain ⟨rfl, rfl⟩ | ⟨rfl, rfl⟩ | ⟨rfl, rfl⟩ := hc
    all_goals exact ⟨_, rfl, cofferHostChange_refused h be flips _ rfl⟩
  · intro s q m hdom hpend hpoison hq hm hmop
    obtain ⟨t, hstep, ht⟩ := roundStep_atomic (s := servedAll s) hm hmop (cofferWord s q.word)
    exact ⟨_, congrArg Host.Outcome.next (cofferRound_single hdom hpend hpoison hq hm (by omega) hstep), served_acts hpoison ht _ rfl⟩
  · intro s q m hdom hpend hpoison hq hm hmop
    obtain ⟨t, hstep, ht⟩ := roundStep_store (s := servedAll s) hm hmop rfl (cofferWord s q.word)
    exact ⟨_, congrArg Host.Outcome.next (cofferRound_single hdom hpend hpoison hq hm (by omega) hstep), served_acts hpoison ht _ rfl⟩
  · intro s flips hpend
    have hsame : cofferRound flips s = s := by
      unfold cofferRound
      rw [cofferOff_none hpend, hpend]
      split <;> rfl
    exact congrArg Host.Outcome.next hsame
  · intro s flips q hdom hq
    have hoff : cofferRound flips s = cofferOff s := if_pos (by rw [hdom]; rfl)
    exact ⟨_, congrArg Host.Outcome.next hoff, cofferOff_acts hq _ rfl⟩

end Sys2Proof.Machine
end


section
/-!
PROOFS. Starts, ends and failures of a Charter load (R30 to R33, R40).
-/
namespace Sys2Proof.Machine

theorem loader_of_control {s t : State} (h : t.control = s.control) : t.loader = s.loader := by
  simp only [State.control, Prod.mk.injEq] at h
  obtain ⟨-, -, hloader, -⟩ := h
  exact hloader

/-! ### Entry to a state of a load -/

theorem enterLoadState_loader (x : LoadState) (s : State) : (enterLoadState x s).loader = { s.loader with st := x } := by
  unfold enterLoadState noteLoad
  rw [loader_of_control (emit_control ..)]
  cases x <;> simp only [loader_of_control (cause_control ..)]

theorem enterLoadState_sec (x : LoadState) (s : State) : (enterLoadState x s).sec = s.sec := by
  unfold enterLoadState noteLoad
  rw [sec_of_control (emit_control ..)]
  cases x <;> simp only [sec_of_control (cause_control ..)]

/-- The staging halves that are free: half h joins them. -/
def withFree (h : Nat) (l : Loader) : Loader := if h = 0 then { l with free0 := true } else { l with free1 := true }

theorem freeHalf_loader (h : Nat) (s : State) : (freeHalf h s).loader = withFree h s.loader := by
  unfold freeHalf withFree
  by_cases hh : h = 0 <;> simp only [hh, if_true, if_false]
  · by_cases hf : s.loader.free0 = true
    · rw [if_pos hf, ← hf]
    · rw [if_neg hf, loader_of_control (cause_control ..)]
  · by_cases hf : s.loader.free1 = true
    · rw [if_pos hf, ← hf]
    · rw [if_neg hf, loader_of_control (cause_control ..)]

/-- What the loader holds at the start of a load (R30, R32, R33). -/
def startedLoader (push keep : Bool) (source : Nat) (l : Loader) : Loader :=
  { l with
    prev := if l.st = .waitPush then l.prev else l.st
    source := source
    push := push
    errCode := if keep then l.errCode else 0
    errSect := if keep then l.errSect else 0xFF
    keepErr := keep
    fallback := if push then false else l.fallback
    sectDone := 0
    manifest := none
    trailer := none
    dir := []
    nextOff := 0x4000
    acc := []
    waiting := []
    sectIdx := 0
    drained := false
    laneEq := none
    regInit := []
    regInitIdx := 0xFF
    regionDigestNew := none }

/-- No load is in progress but for a push that waits. -/
def loadMayStart (l : Loader) : Prop := ¬(l.st = .verify ∨ l.st = .drain ∨ l.st = .load ∨ l.st = .init)

theorem startLoad_push_loader {s : State} (h : loadMayStart s.loader) (keep : Bool) : ∃ src,
    (startLoad true keep s).loader = { withFree 1 (withFree 0 (startedLoader true keep src s.loader)) with st := .waitPush } := by
  refine ⟨if s.sec.factory then 3 else b2n true, ?_⟩
  unfold startLoad
  simp only [if_true]
  rw [if_neg h, enterLoadState_loader, loader_of_control (acceptDomain_control ..), freeHalf_loader, freeHalf_loader]
  rfl

theorem startLoad_flash_loader {s : State} (h : loadMayStart s.loader) (keep : Bool) : ∃ src,
    (startLoad false keep s).loader = { startedLoader false keep src s.loader with st := .verify } := by
  refine ⟨if s.sec.factory then 3 else b2n false, ?_⟩
  unfold startLoad
  simp only [Bool.false_eq_true, if_false]
  rw [if_neg h, enterLoadState_loader, loader_of_control (acceptDomain_control ..)]
  rfl

theorem startLoad_sec (push keep : Bool) (s : State) : (startLoad push keep s).sec = s.sec := by
  have hfree (h : Nat) (s : State) : (freeHalf h s).sec = s.sec := by
    unfold freeHalf
    simp only [apply_ite State.sec, sec_of_control (cause_control ..), ite_self]
  unfold startLoad
  simp only [apply_ite State.sec, enterLoadState_sec, sec_of_control (acceptDomain_control ..), hfree, ite_self]

/-! ### Failures -/

theorem fallBack_loader {s : State} {l : Loader} (hl : l.fallback = false) (h : s.loader = l) : (fallBack s).loader = l := by
  rw [show fallBack s = s from if_neg (by rw [h, hl]; decide), h]

/-- A load that ends in the state before it (R30, R40), where no boot load from flash falls back to a push. -/
theorem refuseLoad_loader {s : State} (h : s.loader.fallback = false) (code sect : Nat) : (refuseLoad code sect s).loader =
    { s.loader with errCode := code, errSect := sect, st := s.loader.prev, push := false, waiting := [] } := by
  refine fallBack_loader h ?_
  unfold noteLoad
  simp only [apply_ite State.loader, loader_of_control (domainDown_control ..), ite_self, loader_of_control (emit_control ..),
    loader_of_control (cause_control ..)]
  rfl

/-- What the loader holds after a failure in DRAIN, LOAD or INIT (R30). -/
def failedLoader (code sect : Nat) (l : Loader) : Loader :=
  { l with errCode := code, errSect := sect, push := false, waiting := [], acc := [], runSvn := 0, runDigest := 0, runId := [], st := .failed }

theorem failLoad_loader {s : State} (h : s.loader.fallback = false) (code sect : Nat) :
    (failLoad code sect s).loader = failedLoader code sect s.loader := by
  refine fallBack_loader h ?_
  rw [loader_of_control (srBeginAll_control ..), enterLoadState_loader, loader_of_control (acceptDomain_control ..)]
  simp only [loader_of_control (State.control_foldl _ (fun _ _ => domainDown_control ..) _ _), loader_of_control (clearTills_control _),
    loader_of_control (discardAll_control _)]
  rfl

/-! ### Writes of TOP_CHARTER_CTRL -/

/-- The write before its commands: bit 8 of the register. -/
def ctrlBit8 (v : Word32) (s : State) : State := setField Reg.TOP_CHARTER_CTRL 8 8 (b2n (v.getLsbD 8)) s

theorem ctrlBit8_loader (v : Word32) (s : State) : (ctrlBit8 v s).loader = s.loader := loader_of_control (setField_control ..)

/-- The last command of the write, LOCK. -/
def lockInRun (v : Word32) (s : State) : State :=
  if v.getLsbD 3 ∧ s.loader.st = .run then { s with loader := { s.loader with locked := true } } else s

theorem lockInRun_loader {v : Word32} {s : State} (h : s.loader.st ≠ .run) : (lockInRun v s).loader = s.loader := by
  rw [lockInRun, if_neg fun hrun => h hrun.2]

theorem charterCtrlWrite_push {v : Word32} (h0 : v.getLsbD 0 = true) (h1 : v.getLsbD 1 = false) (h4 : v.getLsbD 4 = false) (s : State) :
    charterCtrlWrite v s = lockInRun v (startLoad true false (ctrlBit8 v s)) := by
  simp only [charterCtrlWrite, h0, h1, h4, if_true, if_false, Bool.false_eq_true]
  rfl

theorem charterCtrlWrite_flash {v : Word32} (h0 : v.getLsbD 0 = false) (h1 : v.getLsbD 1 = true) (h4 : v.getLsbD 4 = false) (s : State) :
    charterCtrlWrite v s = lockInRun v (startLoad false false (ctrlBit8 v s)) := by
  simp only [charterCtrlWrite, h0, h1, h4, if_true, if_false, Bool.false_eq_true]
  rfl

theorem charterCtrlWrite_abort {v : Word32} (h0 : v.getLsbD 0 = false) (h1 : v.getLsbD 1 = false) (h3 : v.getLsbD 3 = false)
    (h4 : v.getLsbD 4 = true) (s : State) : charterCtrlWrite v s = abortLoad (ctrlBit8 v s) := by
  simp only [charterCtrlWrite, h0, h1, h3, h4, if_true, if_false, Bool.false_eq_true, false_and]
  rfl

theorem abortLoad_before {s : State} (h : s.loader.st = .waitPush ∨ s.loader.st = .verify) : abortLoad s = refuseLoad ABORTED 0xFF s := by
  unfold abortLoad loadError
  obtain h | h := h <;> rw [h]

theorem abortLoad_during {s : State} (h : s.loader.st = .drain ∨ s.loader.st = .load ∨ s.loader.st = .init) :
    abortLoad s = failLoad ABORTED 0xFF s := by
  unfold abortLoad loadError
  obtain h | h | h := h <;> rw [h]

theorem loadMayStart_of {l : Loader} (h : l.st = .empty ∨ l.st = .waitPush ∨ l.st = .run ∨ l.st = .failed) : loadMayStart l := by
  unfold loadMayStart
  obtain h | h | h | h := h <;> rw [h] <;> decide

/-- Settles O33: a write with one command is that command, and the loader is what the command leaves. -/
theorem charterControlCommandsAct : Obligations.CharterControlCommandsAct := by
  refine ⟨?_, ?_, ?_, ?_, ?_⟩
  · intro s v h0 h1 h4 hst
    have hexec : exec (.startPush v) s = .next (lockInRun v (startLoad true false (ctrlBit8 v s))) :=
      congrArg Host.Outcome.next ((if_pos h0).trans (charterCtrlWrite_push h0 h1 h4 s))
    obtain ⟨src, hload⟩ := startLoad_push_loader (s := ctrlBit8 v s) (by rw [ctrlBit8_loader]; exact loadMayStart_of hst) false
    rw [ctrlBit8_loader] at hload
    have hfinal := (lockInRun_loader (v := v) (by rw [hload]; exact LoadState.noConfusion)).trans hload
    refine ⟨_, hexec, ?_⟩
    beta_reduce
    rw [hfinal]
    exact ⟨rfl, rfl, rfl, rfl, rfl, rfl⟩
  · intro s v h1 h0 h4 hst
    have hexec : exec (.startFlash v) s = .next (lockInRun v (startLoad false false (ctrlBit8 v s))) :=
      congrArg Host.Outcome.next ((if_pos h1).trans (charterCtrlWrite_flash h0 h1 h4 s))
    obtain ⟨src, hload⟩ := startLoad_flash_loader (s := ctrlBit8 v s) (by rw [ctrlBit8_loader]; exact loadMayStart_of hst) false
    rw [ctrlBit8_loader] at hload
    have hfinal := (lockInRun_loader (v := v) (by rw [hload]; exact LoadState.noConfusion)).trans hload
    refine ⟨_, hexec, ?_⟩
    beta_reduce
    rw [hfinal]
    exact ⟨rfl, rfl, rfl, rfl⟩
  · intro s v h4 h0 h1 h3 hfall hst
    rw [← ctrlBit8_loader v s] at hfall hst
    have hexec : exec (.charterAbort v) s = .next (refuseLoad ABORTED 0xFF (ctrlBit8 v s)) :=
      congrArg Host.Outcome.next ((if_pos h4).trans ((charterCtrlWrite_abort h0 h1 h3 h4 s).trans (abortLoad_before hst)))
    exact ⟨_, hexec, by beta_reduce; rw [refuseLoad_loader hfall, ctrlBit8_loader]⟩
  · intro s v h4 h0 h1 h3 hfall hst
    rw [← ctrlBit8_loader v s] at hfall hst
    have hexec : exec (.charterAbort v) s = .next (failLoad ABORTED 0xFF (ctrlBit8 v s)) :=
      congrArg Host.Outcome.next ((if_pos h4).trans ((charterCtrlWrite_abort h0 h1 h3 h4 s).trans (abortLoad_during hst)))
    exact ⟨_, hexec, by beta_reduce; rw [failLoad_loader hfall]; exact ⟨rfl, rfl, rfl⟩⟩
  · intro s v h3 h0 h1 h4 hst
    have hwrite : charterCtrlWrite v s = lockInRun v (ctrlBit8 v s) := by
      simp only [charterCtrlWrite, h0, h1, h4, if_false, Bool.false_eq_true]
      rfl
    have hlock : lockInRun v (ctrlBit8 v s) = { ctrlBit8 v s with loader := { (ctrlBit8 v s).loader with locked := true } } :=
      if_pos ⟨h3, (congrArg Loader.st (ctrlBit8_loader v s)).trans hst⟩
    refine ⟨_, congrArg Host.Outcome.next ((if_pos h3).trans (hwrite.trans hlock)), by rw [ctrlBit8_loader], ?_⟩
    rw [show ctrlBit8 v s = _ from setField_frame ..]

end Sys2Proof.Machine
end


section
/-!
PROOFS. The Charter load from its chunks and flash reads to RUN (R25, R29 to R40, R363, R376).
-/
namespace Sys2Proof.Machine

/-! ### Drain -/

theorem discardAll_tellers (s : State) : (discardAll s).tellers = [] := by
  have hcrew : (discardAll s).crew = (discardFlight (dropMisses s)).crew := by
    unfold discardAll settleFlow
    simp only
    rw [State.crew_foldl _ (fun _ _ => noteDrained_crew ..), State.crew_foldl _ (fun _ _ => fcUpdate_crew ..)]
  simp only [State.crew, Prod.mk.injEq] at hcrew
  exact hcrew.1

/-- Every locked record is unlocked and written back. -/
def abortLocks (s : State) : State := (List.range 4).foldl (fun s b => (s.ledgerAt b).ways.foldl (fun s (k, _) => abortLock b k s) s) s

theorem abortLocks_control (s : State) : (abortLocks s).control = s.control := by
  unfold abortLocks
  simp only [State.control_foldl, implies_true, abortLock_control]

/-- The state that the time-out leaves before DRAIN counts as done. -/
def drainedFlight (s : State) : State := discardAll (abortLocks (bumpN Reg.TOP_CHARTER_DISCARD_CNT s.swc.frames.length s))

theorem drainedFlight_loader (s : State) : (drainedFlight s).loader = s.loader :=
  loader_of_control ((discardAll_control _).trans ((abortLocks_control _).trans (bumpN_control ..)))

theorem drainedFlight_tellers (s : State) : (drainedFlight s).tellers = [] := by
  unfold drainedFlight
  rw [discardAll_tellers]

/-- DRAIN is done. -/
def drainEnd (s : State) : State := { s with loader := { s.loader with drained := true } }

theorem drainEnd_loader (s : State) : (drainEnd s).loader = { s.loader with drained := true } := rfl

theorem drainEnd_tellers (s : State) : (drainEnd s).tellers = s.tellers := rfl

theorem drainTimeout_due {s : State} (hst : s.loader.st = .drain) (hdrained : s.loader.drained = false)
    (hdue : drainTicks s ≤ since s s.loader.drainStart) : drainTimeout s = drainEnd (drainedFlight s) := by
  have hgo : ¬(s.loader.st ≠ .drain ∨ s.loader.drained ∨ since s s.loader.drainStart < drainTicks s) := by
    rw [hst, hdrained, not_or, not_or, not_not, Nat.not_lt]
    exact ⟨rfl, Bool.false_ne_true, hdue⟩
  unfold drainTimeout drainEnd drainedFlight abortLocks
  rw [if_neg hgo]

theorem enterDrain_loader (s : State) : (enterDrain s).loader = { s.loader with st := .drain, drainStart := s.time.tick, drained := false } := by
  unfold enterDrain
  simp only
  rw [loader_of_control (emit_control ..), enterLoadState_loader]

theorem enterDrain_sec (s : State) : (enterDrain s).sec = s.sec := by
  unfold enterDrain
  simp only
  rw [sec_of_control (emit_control ..), enterLoadState_sec]

/-! ### Chunks and reads -/

theorem takeChunk_first {s : State} {h len : Nat} (hwait : s.loader.waiting = [{ half := h, offset := s.loader.nextOff, length := len, bad := false, taken := false }])
    (hend : s.loader.nextOff + len ≤ imageTrailer s) (hpage : len % 0x1000 = 0 ∨ s.loader.nextOff + len = imageTrailer s) :
    ∃ b, (takeChunk s).loader = { s.loader with
      acc := s.loader.acc ++ b, nextOff := s.loader.nextOff + len,
      waiting := [{ half := h, offset := s.loader.nextOff, length := len, bad := false, taken := true }] } := by
  have hload : (stagedBytes h len s).2.loader = s.loader := loader_of_control (stagedBytes_control ..)
  refine ⟨(stagedBytes h len s).1, ?_⟩
  unfold takeChunk
  simp only [hwait, List.find?_cons, Bool.not_false]
  rw [if_neg (by simp only [Bool.false_eq_true, ne_eq, not_true, false_or]; omega)]
  simp only [hload, hwait, updFirst, Bool.not_false, if_true]

theorem pushChunk_ignored {s : State} (v : Word32) (h : s.loader.push = false ∨ s.loader.st = .empty ∨ s.loader.st = .run ∨ s.loader.st = .failed) :
    pushLenWrite v s = s := if_pos (by simpa using h)

/-- The half and length that a chunk occupies are held until it is consumed. -/
def heldChunk (h len : Nat) (s : State) : State :=
  { s with loader := { holdHalf h s.loader with
    waiting := s.loader.waiting ++ [{ half := h, offset := s.loader.nextOff, length := len, bad := false, taken := false }] } }

theorem heldChunk_nextOff (h len : Nat) (s : State) : (heldChunk h len s).loader.nextOff = s.loader.nextOff := by
  unfold heldChunk holdHalf
  split <;> rfl

theorem heldChunk_trailer (h len : Nat) (s : State) : imageTrailer (heldChunk h len s) = imageTrailer s := by
  unfold imageTrailer heldChunk holdHalf
  split <;> rfl

theorem heldChunk_waiting {s : State} (hwait : s.loader.waiting = []) (h len : Nat) : (heldChunk h len s).loader.waiting =
    [{ half := h, offset := s.loader.nextOff, length := len, bad := false, taken := false }] := by
  unfold heldChunk
  simp only [hwait, List.nil_append]

theorem handOver_load {s : State} {h len : Nat} (hst : s.loader.st = .load) (hman : s.loader.manifest.isSome = true) (htrl : s.loader.trailer.isSome = true)
    (hlen : len ≠ 0) (hmax : len ≤ 0xD0000) (hfree : (if h = 0 then s.loader.free0 else s.loader.free1) = true) :
    handOver h s.loader.nextOff len s = takeChunk (heldChunk h len s) := by
  have hgood : ¬(len = 0 ∨ 0xD0000 < len ∨ (if h = 0 then s.loader.free0 else s.loader.free1) = false) := by
    rw [hfree]
    simp only [Bool.true_eq_false, or_false]
    omega
  have hheld : (heldChunk h len s).loader.st = .load := by
    unfold heldChunk holdHalf
    split <;> exact hst
  unfold handOver
  simp only [Option.isNone_eq_false_iff.2 hman, Option.isNone_eq_false_iff.2 htrl, hst, Bool.false_eq_true, if_false, if_neg hgood, decide_eq_false hgood, reduceCtorEq]
  exact if_pos hheld

theorem takeManifest_good {m : Bytes} {s : State} (hst : s.loader.st = .verify) (h : manifestError m = none) :
    takeManifest m s = { s with loader := { s.loader with
      manifest := some m, dir := directory m, svn := leAt m 0x18 4, imageId := slice m 0x20 32, mdigest := Config.sha384 m,
      lockAtCommit := bit (byteAt m 0x0E) 0 } } := by
  unfold takeManifest
  rw [if_pos hst]
  simp only [h]

theorem imageTrailer_of_loader {s t : State} (h : t.loader.manifest = s.loader.manifest) : imageTrailer t = imageTrailer s := by
  unfold imageTrailer
  rw [h]

/-- A chunk in order is taken, and its half is held (R32). -/
theorem pushLenWrite_chunk {s : State} {v : Word32} (hpush : s.loader.push = true) (hst : s.loader.st = .load) (hkeep : s.loader.keepErr = false)
    (hman : s.loader.manifest.isSome = true) (htrl : s.loader.trailer.isSome = true) (hlen : bits v.toNat 20 0 ≠ 0) (hmax : bits v.toNat 20 0 ≤ 0xD0000)
    (hfree : (if bits v.toNat 24 24 = 0 then s.loader.free0 else s.loader.free1) = true) (hwait : s.loader.waiting = [])
    (hoff : fieldOf s Reg.TOP_CHARTER_PUSH_OFF 25 0 = s.loader.nextOff) (hend : s.loader.nextOff + bits v.toNat 20 0 ≤ imageTrailer s)
    (hpage : bits v.toNat 20 0 % 0x1000 = 0 ∨ s.loader.nextOff + bits v.toNat 20 0 = imageTrailer s) (t : State) (ht : t = pushLenWrite v s) :
    t.loader.nextOff = s.loader.nextOff + bits v.toNat 20 0 ∧
      t.loader.waiting = [{ half := bits v.toNat 24 24, offset := s.loader.nextOff, length := bits v.toNat 20 0, bad := false, taken := true }] := by
  have hload : (plainWrite Reg.TOP_CHARTER_PUSH_LEN v s).loader = s.loader := loader_of_control (plainWrite_control ..)
  have hoff' : fieldOf (plainWrite Reg.TOP_CHARTER_PUSH_LEN v s) Reg.TOP_CHARTER_PUSH_OFF 25 0 = s.loader.nextOff := by
    rw [← hoff]
    unfold fieldOf
    rw [plainWrite_ne _ _ _ _ (by decide)]
  have hwrite : pushLenWrite v s = handOver (bits v.toNat 24 24) s.loader.nextOff (bits v.toNat 20 0) (plainWrite Reg.TOP_CHARTER_PUSH_LEN v s) := by
    unfold pushLenWrite
    rw [if_neg (by rw [hpush, hst]; decide)]
    simp only [hload, hkeep, Bool.false_eq_true, if_false, hoff']
  generalize plainWrite Reg.TOP_CHARTER_PUSH_LEN v s = p at hload hwrite
  rw [← imageTrailer_of_loader (congrArg Loader.manifest hload)] at hend hpage
  rw [← hload] at hst hman htrl hfree hwait hend hpage hwrite ⊢
  rw [handOver_load hst hman htrl hlen hmax hfree] at hwrite
  obtain ⟨b, hb⟩ := takeChunk_first (s := heldChunk (bits v.toNat 24 24) (bits v.toNat 20 0) p) (h := bits v.toNat 24 24)
    (len := bits v.toNat 20 0) (by rw [heldChunk_waiting hwait, heldChunk_nextOff]) (by rw [heldChunk_nextOff, heldChunk_trailer]; exact hend)
    (by rw [heldChunk_nextOff, heldChunk_trailer]; exact hpage)
  rw [ht, hwrite, hb, heldChunk_nextOff]
  exact ⟨rfl, rfl⟩

theorem halfConsumed_taken {s : State} {c : Chunk} {rest : List Chunk} (h : s.loader.waiting = c :: rest) (hc : c.taken = true) :
    (halfConsumed s).loader = withFree c.half { s.loader with waiting := rest } := by
  unfold halfConsumed
  simp only [h, hc, if_true]
  rw [freeHalf_loader]

/-! ### Verification and the entry to LOAD -/

theorem verifyDone_failed {s : State} {trl : Bytes} (hst : s.loader.st = .verify) (htrl : s.loader.trailer = some trl)
    (hcode : (verifyImage s trl).1 ≠ 0) : ∃ u, u.loader = s.loader ∧ verifyDone s = refuseLoad (verifyImage s trl).1 0xFF u := by
  refine ⟨emit 0x001 0x71 ((verifyImage s trl).1 + 2 ^ 8 * (verifyImage s trl).2) s, loader_of_control (emit_control ..), ?_⟩
  unfold verifyDone
  simp only [hst, htrl]
  rw [if_neg fun h => hcode h.1, if_pos hcode]

/-- The record of a verification, and the slot of the image in hand. -/
def noteVerified (code slot : Nat) (s : State) : State :=
  let s := emit 0x001 0x71 (code + 2 ^ 8 * slot) s
  { s with sec := { s.sec with candidate := slot } }

/-- A verified image goes on: to DRAIN from RUN, else to LOAD. -/
theorem verifyDone_verified {s : State} {trl : Bytes} (hst : s.loader.st = .verify) (htrl : s.loader.trailer = some trl)
    (hcode : (verifyImage s trl).1 = 0) (hbatch : s.loader.prev = .run ∨ batchRuns s = false) :
    ∃ u, u.loader = s.loader ∧ u.time = s.time ∧ u.sec = { s.sec with candidate := (verifyImage s trl).2 } ∧
      verifyDone s = if s.loader.prev = .run then enterDrain u else enterLoad u := by
  refine ⟨noteVerified (verifyImage s trl).1 (verifyImage s trl).2 s, by rw [noteVerified, loader_of_control (emit_control ..)], emit_time 0x001 0x71 _ s,
    by rw [noteVerified, sec_of_control (emit_control ..)], ?_⟩
  have hgo : ¬((verifyImage s trl).1 = 0 ∧ s.loader.prev ≠ .run ∧ batchRuns s = true) := by
    rintro ⟨-, hprev, hruns⟩
    obtain h | h := hbatch
    · exact hprev h
    · rw [h] at hruns; exact Bool.false_ne_true hruns
  unfold verifyDone
  simp only [hst, htrl]
  rw [if_neg hgo, if_neg (not_not.2 hcode)]
  split <;> rfl

theorem loader_sec_of_control {s t : State} (h : t.control = s.control) : (t.loader, t.sec) = (s.loader, s.sec) := by
  rw [loader_of_control h, sec_of_control h]

/-- The loader at entry to LOAD (R35, R37). -/
def loadingLoader (l : Loader) : Loader :=
  { l with st := .load, locked := false, runSvn := 0, runDigest := 0, runId := [], acc := [], sectIdx := 0, imgPos := 0x4000 }

theorem takeChunks_none {s : State} (h : s.loader.waiting = []) : takeChunks s = s := by
  unfold takeChunks
  rw [h]
  rfl

theorem takeChunks_acts {s : State} {l : Loader} {x : SecEngine} (hwait : l.waiting = []) (hl : s.loader = l) (hx : s.sec = x) :
    (takeChunks s).loader = l ∧ (takeChunks s).sec = x := by
  subst hl hx
  rw [takeChunks_none hwait]
  exact ⟨rfl, rfl⟩

theorem enterLoad_acts {s : State} (hwait : s.loader.waiting = []) :
    (enterLoad s).loader = loadingLoader s.loader ∧ (enterLoad s).sec = { s.sec with active := 15 } := by
  unfold enterLoad
  simp only
  generalize hclear : clearTills (discardAll s) = u
  have hcontrol : u.control = s.control := by rw [← hclear, clearTills_control, discardAll_control]
  rw [← loader_of_control hcontrol, ← sec_of_control hcontrol]
  rw [← loader_of_control hcontrol] at hwait
  refine takeChunks_acts (l := loadingLoader u.loader) hwait ?_ ?_ <;>
    simp only [enterLoadState_loader, enterLoadState_sec, loader_of_control (dropLinks_control _), sec_of_control (dropLinks_control _),
      apply_ite State.loader, apply_ite State.sec, loader_of_control (setPstate_control ..), sec_of_control (setPstate_control ..), ite_self]
  rfl

theorem noseRun_acts (s : State) : (noseRun s).loader = s.loader ∧ (noseRun s).sec = s.sec := by
  unfold noseRun
  split
  · refine foldl_keeps (P := fun t => t.loader = s.loader ∧ t.sec = s.sec) _ ?_ _ ⟨rfl, rfl⟩
    intro t g h
    exact h
  · exact ⟨rfl, rfl⟩

theorem accordRun_loader (s : State) : (accordRun s).loader = s.loader := rfl

theorem accordRun_sec (s : State) : (accordRun s).sec = s.sec := rfl

/-- The state at entry to RUN before the Charter counts as running. -/
def beforeRun (s : State) : State :=
  s |> dropDomains |> assignRest |> cofferClear |> accordRun |> noseRun |> perfRun |> tokensRun

theorem beforeRun_loader (s : State) : (beforeRun s).loader = s.loader := by
  unfold beforeRun
  rw [loader_of_control (tokensRun_control _), loader_of_control (perfRun_control _), (noseRun_acts _).1, accordRun_loader, loader_of_control (cofferClear_control _), loader_of_control (assignRest_control _),
    loader_of_control (dropDomains_control s)]

theorem beforeRun_sec (s : State) : (beforeRun s).sec = s.sec := by
  unfold beforeRun
  rw [sec_of_control (tokensRun_control _), sec_of_control (perfRun_control _), (noseRun_acts _).2, accordRun_sec, sec_of_control (cofferClear_control _), sec_of_control (assignRest_control _),
    sec_of_control (dropDomains_control s)]

theorem beforeRun_fuses (s : State) : (beforeRun s).fuses = s.fuses := by
  have hkept : (beforeRun s).kept = s.kept := by
    unfold beforeRun
    rw [tokensRun_kept, perfRun_kept, noseRun_kept, accordRun_kept, cofferClear_kept, assignRest_kept, dropDomains_kept]
  simp only [State.kept, Prod.mk.injEq] at hkept
  exact hkept.2.1

/-- No policer runs. -/
def withoutPolicers (s : State) : State := { s with tm := { s.tm with policers := [] } }

/-- The Charter that is in RUN (R37, R510). -/
theorem enterRun_acts (s : State) :
    (enterRun s).loader.st = .run ∧ (enterRun s).loader.runSvn = s.loader.svn ∧ (enterRun s).loader.runDigest = s.loader.mdigest ∧
      (enterRun s).loader.runId = s.loader.imageId ∧ (enterRun s).loader.locked = (s.loader.lockAtCommit || s.fuses.lifecycle == .locked) ∧
      (enterRun s).sec.active = s.sec.candidate := by
  have hports (x : State) : ((List.range 64).foldl (fun s p => portStart p s) x).control = x.control :=
    State.control_foldl _ (fun _ _ => portStart_control ..) _ _
  have hrun : enterRun s = (List.range 64).foldl (fun s p => portStart p s)
      (enterLoadState .run (freezeRun (withoutPolicers (charterNow (beforeRun s))))) := by
    unfold enterRun beforeRun withoutPolicers
    rfl
  rw [hrun, loader_of_control (hports _), sec_of_control (hports _), enterLoadState_loader, enterLoadState_sec,
    loader_of_control (freezeRun_control _), sec_of_control (freezeRun_control _), ← beforeRun_loader s, ← beforeRun_sec s, ← beforeRun_fuses s]
  generalize beforeRun s = u
  exact ⟨rfl, rfl, rfl, rfl, rfl, rfl⟩

theorem initReady_st {s : State} (h : initReady s = true) : s.loader.st = .init := by
  simp only [initReady, Bool.and_eq_true, beq_iff_eq] at h
  exact h.1.1

/-- Settles O34: each command by the lemma on what it leaves of the loader. -/
theorem charterLoadCommandsAct : Obligations.CharterLoadCommandsAct := by
  refine ⟨?_, ?_, ?_, ?_, ?_, ?_, ?_, ?_, ?_, ?_, ?_, ?_, ?_, ?_, ?_, ?_, ?_⟩
  · intro s hst hdrained hdue
    refine ⟨_, congrArg Host.Outcome.next (drainTimeout_due hst hdrained hdue), ?_⟩
    beta_reduce
    rw [drainEnd_loader, drainEnd_tellers, drainedFlight_loader, drainedFlight_tellers]
    exact ⟨rfl, rfl⟩
  · intro s v h
    exact congrArg Host.Outcome.next (pushChunk_ignored v h)
  · intro s v hpush hst hkeep hman htrl hlen hmax hfree hwait hoff hend hpage
    exact ⟨_, rfl, pushLenWrite_chunk hpush hst hkeep hman htrl hlen hmax hfree hwait hoff hend hpage _ rfl⟩
  · intro s c rest hwait htaken
    refine ⟨_, rfl, ?_⟩
    beta_reduce
    rw [halfConsumed_taken hwait htaken, withFree]
    split <;> exact ⟨rfl, rfl⟩
  · intro s trl hst htrl hcode hfall
    obtain ⟨u, hu, hdone⟩ := verifyDone_failed hst htrl hcode
    refine ⟨_, congrArg Host.Outcome.next hdone, ?_⟩
    beta_reduce
    rw [refuseLoad_loader (by rw [hu]; exact hfall), hu]
  · intro s trl hst htrl hprev
    refine ⟨_, rfl, fun hcode => ?_⟩
    obtain ⟨u, hu, htime, hsec, hdone⟩ := verifyDone_verified hst htrl hcode (.inl hprev)
    rw [hdone, if_pos hprev, enterDrain_loader, enterDrain_sec, hu, hsec, htime]
    exact ⟨rfl, rfl⟩
  · intro s trl hst htrl hprev hbatch hwait
    refine ⟨_, rfl, fun hcode => ?_⟩
    obtain ⟨u, hu, -, hsec, hdone⟩ := verifyDone_verified hst htrl hcode (.inr hbatch)
    obtain ⟨hloader, hact⟩ := enterLoad_acts (s := u) (by rw [hu]; exact hwait)
    rw [hdone, if_neg hprev, hloader, hact, hu, hsec]
    exact ⟨rfl, rfl, rfl, rfl⟩
  · intro s hst hdrained hbatch hwait
    obtain ⟨hloader, hact⟩ := enterLoad_acts hwait
    refine ⟨_, congrArg Host.Outcome.next (if_pos ⟨hst, hdrained, hbatch⟩), hloader, hact⟩
  · intro s d m hpush hst hman hdens hlen hgood
    have hread : flashRead (some d) (some m) s = takeManifest m s := by
      unfold flashRead
      simp only [Option.any_some, decide_eq_true hdens, if_true, hpush, Bool.false_eq_true, if_false, hst, hman, Option.isNone_none, hlen]
    exact ⟨_, congrArg Host.Outcome.next hread, takeManifest_good hst hgood⟩
  · intro s d x hpush hst htrl hfall hfail
    have hnone : (if d.any (flashEnd s ≤ ·) then x else none) = none := by
      obtain rfl | hshort := hfail
      · exact ite_self _
      · cases d with
        | none => rfl
        | some n => rw [Option.any_some, decide_eq_false (Nat.not_le.2 (hshort n rfl))]; rfl
    have hread : flashRead d x s = refuseLoad FLASH_READ 0xFF s := by
      unfold flashRead
      simp only [hnone, hpush, Bool.false_eq_true, if_false, hst, htrl, Option.isNone_none, if_true]
    exact ⟨_, congrArg Host.Outcome.next hread, refuseLoad_loader hfall ..⟩
  · intro s d e b hpush hst hdir hacc hdens hlen
    have hread : flashRead (some d) (some b) s = { s with loader := { s.loader with acc := b } } := by
      unfold flashRead
      simp only [Option.any_some, decide_eq_true hdens, if_true, hpush, Bool.false_eq_true, if_false, hst, hdir, hacc, List.isEmpty_nil,
        Bool.not_true, hlen]
    exact ⟨_, congrArg Host.Outcome.next hread, rfl⟩
  · intro s e hst hdir hlen hpower hdigest hok hcross hgap hlast
    refine congrArg Host.Outcome.next ?_
    unfold sectionDone
    simp only [hst, hdir]
    rw [if_neg (by rw [not_or, not_lt, not_and, Bool.not_eq_false]; exact ⟨hlen, fun hi => hpower.resolve_left hi⟩),
      if_neg (not_not.2 hdigest), if_neg (by rw [hok]; decide), hcross]
    simp only [hgap, Bool.not_true, Bool.false_eq_true, if_false, if_neg hlast]
  · intro s e hst hdir hlen hpower hdigest hfall
    have hdone : sectionDone s = failLoad BAD_DIGEST s.loader.sectIdx s := by
      unfold sectionDone
      simp only [hst, hdir]
      rw [if_neg (by rw [not_or, not_lt, not_and, Bool.not_eq_false]; exact ⟨hlen, fun hi => hpower.resolve_left hi⟩), if_pos hdigest]
    refine ⟨_, congrArg Host.Outcome.next hdone, ?_⟩
    beta_reduce
    rw [failLoad_loader hfall]
    exact ⟨rfl, rfl, rfl⟩
  · intro s c spd hinit hst hspd
    have hdone : trainingDone c.val spd none s = s.modChan c.val fun x => { x with st := .service, lastReq := s.time.tick } := by
      unfold trainingDone
      rw [if_neg (by rw [hinit, hst]; decide), if_neg (by rw [hspd]; decide)]
    exact ⟨_, congrArg Host.Outcome.next hdone, State.chanAt_modChan_same .., rfl⟩
  · intro s c spd f hinit hst hfail hfall
    obtain ⟨u, hu, hdone⟩ : ∃ u, u.loader = s.loader ∧ trainingDone c.val spd f s = failLoad VAULT_TRAIN 0xFF u := by
      by_cases hspd : spdOk s spd = false
      · refine ⟨s, rfl, ?_⟩
        unfold trainingDone
        rw [if_neg (by rw [hinit, hst]; decide), if_pos (by rw [hspd]; rfl)]
      · obtain ⟨⟨step, cs⟩, rfl⟩ := Option.ne_none_iff_exists'.1 (hfail.resolve_left hspd)
        refine ⟨noteTrainFail (2 * c.val + cs.val) (step.val + 1) (s.modChan c.val fun x => { x with st := .failed }),
          loader_of_control (noteTrainFail_control ..), ?_⟩
        unfold trainingDone
        rw [if_neg (by rw [hinit, hst]; decide), if_neg (by simpa using hspd)]
    refine ⟨_, congrArg Host.Outcome.next hdone, ?_⟩
    beta_reduce
    rw [failLoad_loader (by rw [hu]; exact hfall)]
    exact ⟨rfl, rfl⟩
  · intro s hready hbad hfall
    have hrun : charterRun s = failLoad BAD_REG_INIT s.loader.regInitIdx s := by
      unfold charterRun
      rw [if_neg (by rw [hready]; decide), if_neg (by rw [hbad]; decide)]
    refine ⟨_, congrArg Host.Outcome.next hrun, ?_⟩
    beta_reduce
    rw [failLoad_loader hfall]
    exact ⟨rfl, rfl, rfl⟩
  · intro s hready hgood hloader hsec
    have hfuses : (applyRegInit s.loader.regInit s).fuses = s.fuses := by
      have hheld := applyRegInit_held s.loader.regInit s
      simp only [State.held, Prod.mk.injEq] at hheld
      exact hheld.2.1
    have hrun : charterRun s = enterRun (applyRegInit s.loader.regInit s) := by
      unfold charterRun
      rw [if_neg (by rw [hready]; decide), if_pos hgood]
      exact if_pos (by rw [hloader]; exact initReady_st hready)
    have hacts := enterRun_acts (applyRegInit s.loader.regInit s)
    rw [hloader, hsec, hfuses] at hacts
    exact ⟨_, congrArg Host.Outcome.next hrun, hacts⟩

end Sys2Proof.Machine
end


section
/-!
PROOFS. PORST_N, the boot ROM up to the start of a load, and rail resets (R33, R424, R436, R497, R498).
-/
namespace Sys2Proof.Machine

theorem pins_of_edge {s t : State} (h : t.edge = s.edge) : t.pins = s.pins := by
  simp only [State.edge, Prod.mk.injEq] at h
  exact h.1

theorem fuses_of_kept {s t : State} (h : t.kept = s.kept) : t.fuses = s.fuses := by
  simp only [State.kept, Prod.mk.injEq] at h
  exact h.2.1

/-! ### Reset -/

theorem regRead_hardReset {s : State} {off : Nat} (h : off ≠ Reg.TREAS_RESET_CAUSE) : regRead (hardReset s) off = resetOf off := by
  unfold hardReset
  rw [regRead_store_ne _ _ _ _ (Ne.symm h)]
  rfl

/-- PORST_N low. -/
def porstFell (s : State) : State := { s with pins := { s.pins with porstLow := true } }

theorem porstAssert_long {s : State} {ns : Nat} (h : s.pins.porstLow = false) (hns : 10000 ≤ ns) :
    porstAssert ns s = resetCause 0 (hardReset (porstFell s)) := by
  have hgo : ¬(s.pins.porstLow = true ∨ ns < 100) := by rw [h]; simp only [Bool.false_eq_true, false_or]; omega
  unfold porstAssert
  rw [if_neg hgo]
  simp only [if_neg (Nat.not_lt.2 hns)]
  rw [if_neg (by decide)]
  rfl

/-! ### The boot ROM -/

theorem warnStands_pins (s : State) : (warnStands s).pins = s.pins := by
  unfold warnStands
  split
  case isTrue h => rw [pwrwarn, pins_of_edge (brownWarn_edge _)]; simp only [← h]
  case isFalse => rfl

theorem domainUp_control {d : Nat} (h : 25 ≤ d) (hd : d ≠ 26) (kept : Bool) (s : State) : (domainUp d kept s).control = s.control := by
  unfold domainUp
  simp only
  rw [if_neg (by omega), if_neg (by omega), if_neg (by omega), if_neg hd]
  simp only [apply_ite State.control, cofferClear_control, setDomain_control, ite_self]

theorem bootRamp_control {d : Nat} (h : 25 ≤ d) (hd : d ≠ 26) (s : State) : (bootRamp d s).control = s.control := by
  unfold bootRamp
  simp only [domainUp_control h hd, apply_ite State.control, noteAllowance_control, setDomain_control, ite_self]

theorem bootRamp_edge (d : Nat) (s : State) : (bootRamp d s).edge = s.edge := by
  unfold bootRamp
  simp only [domainUp_edge, apply_ite State.edge, noteAllowance_edge, setDomain_edge, ite_self]

theorem noteBoot_control (step : Nat) (s : State) : (noteBoot step s).control = s.control := emit_control ..

theorem unwrap_acts (s : State) : (unwrap s).loader = s.loader ∧ (unwrap s).sec.bootStep = s.sec.bootStep := by
  unfold unwrap
  simp only
  split
  · rw [loader_of_control (emit_control ..), sec_of_control (emit_control ..)]
    exact ⟨rfl, rfl⟩
  · unfold identityBad
    rw [loader_of_control (emit_control ..), sec_of_control (emit_control ..), loader_of_control (cause_control ..), sec_of_control (cause_control ..)]
    exact ⟨rfl, rfl⟩

/-- The time base starts, and the debug port and the link training are as fuses and pins say (Table 18.3). -/
def bootBegin (s : State) : State := { s with
  time := { s.time with net := 0 }
  sec := { s.sec with bootStep := 4, debugOpen := s.fuses.lifecycle != .locked }
  pcie := { s.pcie with training := !s.pins.perstLow } }

/-- The domains of the boot ROM ramp. -/
def bootPowered (s : State) : State := bootBegin s |> bootRamp 29 |> bootRamp 28 |> bootRamp 25 |> bootRamp 27 |> setPstate .full

theorem bootPowered_control (s : State) : (bootPowered s).control = (bootBegin s).control := by
  unfold bootPowered
  rw [setPstate_control, bootRamp_control (by omega) (by omega), bootRamp_control (by omega) (by omega), bootRamp_control (by omega) (by omega),
    bootRamp_control (by omega) (by omega)]

theorem bootPowered_pins (s : State) : (bootPowered s).pins = s.pins := by
  unfold bootPowered
  rw [pins_of_edge (setPstate_edge ..), pins_of_edge (bootRamp_edge ..), pins_of_edge (bootRamp_edge ..), pins_of_edge (bootRamp_edge ..),
    pins_of_edge (bootRamp_edge ..)]
  rfl

theorem bootPowered_kept (s : State) : (bootPowered s).kept = s.kept := by
  unfold bootPowered
  rw [setPstate_kept, bootRamp_kept, bootRamp_kept, bootRamp_kept, bootRamp_kept]
  rfl

theorem bootEarly_eq (s : State) : bootEarly s = noteBoot 4 (noteBoot 3 (noteBoot 2 (noteBoot 1 (unwrap (bootPowered s))))) := by
  unfold bootEarly bootPowered bootBegin
  rfl

theorem bootEarly_acts (s : State) :
    (bootEarly s).loader = s.loader ∧ (bootEarly s).pins = s.pins ∧ (bootEarly s).fuses = s.fuses := by
  rw [bootEarly_eq]
  refine ⟨?_, ?_, ?_⟩
  · rw [loader_of_control (noteBoot_control ..), loader_of_control (noteBoot_control ..), loader_of_control (noteBoot_control ..),
      loader_of_control (noteBoot_control ..), (unwrap_acts _).1, loader_of_control (bootPowered_control s)]
    rfl
  · rw [pins_of_edge (noteBoot_edge ..), pins_of_edge (noteBoot_edge ..), pins_of_edge (noteBoot_edge ..), pins_of_edge (noteBoot_edge ..),
      pins_of_edge (unwrap_edge _), bootPowered_pins]
  · rw [fuses_of_kept (noteBoot_kept ..), fuses_of_kept (noteBoot_kept ..), fuses_of_kept (noteBoot_kept ..), fuses_of_kept (noteBoot_kept ..),
      fuses_of_kept (unwrap_kept _), fuses_of_kept (bootPowered_kept s)]

/-- The factory keys apply (R437): BOOT_SEL 3 in Blank or Returned. -/
def bootFactory (s : State) : Bool := s.pins.bootSel == 3 && (s.fuses.lifecycle == .blank || s.fuses.lifecycle == .returned)

/-- Step 5 before the load starts: what BOOT_SEL says is noted. -/
def bootSampled (s : State) : State :=
  let ignored := s.pins.bootSel == 3 && !(s.fuses.lifecycle == .blank || s.fuses.lifecycle == .returned)
  let s := { s with sec := { s.sec with bootSel := s.pins.bootSel, factory := bootFactory s, bootIgnored := ignored, bootStep := 5 } }
  noteBoot 5 (if ignored then cause Reg.SEC_IRQ_CAUSE 7 s else s)

/-- A load from flash falls back to a push where BOOT_SEL is 2. -/
def bootFallback (sel : Nat) (s : State) : State := { s with loader := { s.loader with fallback := sel == 2 } }

theorem bootLoad_eq (s : State) : bootLoad s =
    if s.pins.bootSel = 1 ∨ bootFactory s = true then startLoad true false (bootSampled s)
    else startLoad false false (bootFallback s.pins.bootSel (bootSampled s)) := by
  unfold bootLoad bootSampled bootFactory bootFallback
  rfl

theorem bootSampled_loader (s : State) : (bootSampled s).loader = s.loader := by
  unfold bootSampled
  simp only [loader_of_control (noteBoot_control ..), apply_ite State.loader, loader_of_control (cause_control ..), ite_self]

theorem bootSampled_sec (s : State) : (bootSampled s).sec.bootStep = 5 ∧ (bootSampled s).sec.bootSel = s.pins.bootSel := by
  unfold bootSampled
  simp only [sec_of_control (noteBoot_control ..), apply_ite State.sec, sec_of_control (cause_control ..), ite_self, and_self]

theorem bootSampled_pins (s : State) : (bootSampled s).pins = s.pins := by
  unfold bootSampled
  simp only [pins_of_edge (noteBoot_edge ..), apply_ite State.pins, pins_of_edge (cause_edge ..), ite_self]

theorem bootLoad_acts {s : State} (h : s.loader.st = .empty) :
    (bootLoad s).sec.bootStep = 5 ∧ (bootLoad s).sec.bootSel = s.pins.bootSel ∧ (bootLoad s).pins = s.pins ∧
      (bootLoad s).loader.st = if s.pins.bootSel = 1 ∨ bootFactory s = true then .waitPush else .verify := by
  have hsampled := bootSampled_loader s
  obtain ⟨hstep, hsel⟩ := bootSampled_sec s
  rw [bootLoad_eq]
  split
  · obtain ⟨src, hload⟩ := startLoad_push_loader (s := bootSampled s) (by rw [hsampled]; exact loadMayStart_of (.inl h)) false
    refine ⟨?_, ?_, ?_, ?_⟩
    · rw [startLoad_sec, hstep]
    · rw [startLoad_sec, hsel]
    · rw [pins_of_edge (startLoad_edge ..), bootSampled_pins]
    · rw [hload]
  · obtain ⟨src, hload⟩ := startLoad_flash_loader (s := bootFallback s.pins.bootSel (bootSampled s))
      (loadMayStart_of (.inl ((congrArg Loader.st hsampled).trans h))) false
    refine ⟨?_, ?_, ?_, ?_⟩
    · rw [startLoad_sec]; exact hstep
    · rw [startLoad_sec]; exact hsel
    · rw [pins_of_edge (startLoad_edge ..)]; exact bootSampled_pins s
    · rw [hload]

theorem bootRom_runs {s : State} (hporst : s.pins.porstLow = false) (hrails : s.pins.railHold = []) (hoff : s.treas.offHeld = false)
    (hstep : s.sec.bootStep = 0) (hst : s.loader.st = .empty) :
    (bootRom s).sec.bootStep = 5 ∧ (bootRom s).sec.bootSel = s.pins.bootSel ∧ (bootRom s).pins = s.pins ∧
      (bootRom s).loader.st = if s.pins.bootSel = 1 ∨ bootFactory s = true then .waitPush else .verify := by
  have hrom : bootRom s = bootLoad (bootEarly s) := by
    unfold bootRom
    rw [if_neg (by rw [hporst, hrails, hoff, hstep]; decide)]
  obtain ⟨hloader, hpins, hfuses⟩ := bootEarly_acts s
  have hfactory : bootFactory (bootEarly s) = bootFactory s := by
    unfold bootFactory
    rw [hpins, hfuses]
  have hacts := bootLoad_acts (s := bootEarly s) (by rw [hloader]; exact hst)
  rw [hpins, hfactory, ← hrom] at hacts
  exact hacts

theorem bootRom_pins (s : State) : (bootRom s).pins = s.pins := by
  have hedge (s : State) : (bootLoad s).pins = s.pins := by
    rw [bootLoad_eq]
    split
    · rw [pins_of_edge (startLoad_edge ..), bootSampled_pins]
    · rw [pins_of_edge (startLoad_edge ..)]; exact bootSampled_pins s
  unfold bootRom
  split
  · rfl
  · rw [hedge, (bootEarly_acts s).2.1]

/-! ### Releases -/

theorem resetCause_control (i : Nat) (s : State) : (resetCause i s).control = s.control := cause_control ..

theorem resetCause_rest (i : Nat) (s : State) : (resetCause i s).pins = s.pins ∧ (resetCause i s).treas = s.treas ∧ (resetCause i s).fuses = s.fuses := by
  rw [resetCause, cause_frame]
  exact ⟨rfl, rfl, rfl⟩

theorem bootFactory_iff (s : State) : (s.pins.bootSel = 1 ∨ bootFactory s = true) ↔
    (s.pins.bootSel = 1 ∨ (s.pins.bootSel = 3 ∧ (s.fuses.lifecycle = .blank ∨ s.fuses.lifecycle = .returned))) := by
  simp [bootFactory]

/-- The pins at the release of PORST_N. -/
def porstRose (sel addr : Nat) (s : State) : State := { s with pins := { s.pins with porstLow := false, bootSel := sel, smbAddr := addr } }

theorem porstRelease_low {s : State} (h : s.pins.porstLow = true) (sel addr : Nat) :
    porstRelease sel addr s = warnStands (bootRom (resetCause 0 (porstRose sel addr s))) := by
  unfold porstRelease
  rw [if_neg (by rw [h]; decide)]
  rfl

/-- A rail has returned. -/
def railRose (rail : Nat) (s : State) : State := { s with pins := { s.pins with railHold := s.pins.railHold.filter (· != rail) } }

theorem railRelease_returns {s : State} {rail : Nat} (h : s.pins.railHold.contains rail = true) (hnormal : rail ≠ 0 ∨ s.treas.brown = .normal) :
    railRelease rail s = warnStands (bootRom (railRose rail s)) := by
  have hgo : (!s.pins.railHold.contains rail || (rail == 0 && brownHold s)) = false := by
    rw [h, Bool.not_true, Bool.false_or, brownHold]
    obtain hrail | hbrown := hnormal
    · rw [beq_false_of_ne hrail, Bool.false_and]
    · rw [hbrown]; exact Bool.and_false _
  unfold railRelease
  rw [hgo]
  rfl

theorem railRelease_waits {s : State} {rail : Nat} (h : s.pins.railHold.contains rail = false ∨ (rail = 0 ∧ s.treas.brown ≠ .normal)) :
    railRelease rail s = s := by
  refine if_pos ?_
  obtain h | ⟨rfl, h⟩ := h
  · rw [h]; rfl
  · rw [brownHold, bne_iff_ne.2 h]; exact Bool.or_true _

/-- Settles O35: the reset leaves its registers and the pins; a release boots to step 5, and a warning that stands moves neither
the loader nor the pins. -/
theorem resetCommandsAct : Obligations.ResetCommandsAct := by
  refine ⟨?_, ?_, ?_, ?_, ?_, ?_, ?_⟩
  · intro s ns hporst hns
    refine ⟨_, congrArg Host.Outcome.next (porstAssert_long hporst hns), ?_⟩
    have hregs (off : Nat) (hoff : off ≠ Reg.TREAS_RESET_CAUSE) : regRead (resetCause 0 (hardReset (porstFell s))) off = resetOf off :=
      (regRead_cause_ne _ _ _ _ (Ne.symm hoff)).trans (regRead_hardReset hoff)
    have hflag : flagOf (resetCause 0 (hardReset (porstFell s))) Reg.TREAS_RESET_CAUSE 0 = true := flagOf_cause_same _ _ _ (by omega)
    have hframe : resetCause 0 (hardReset (porstFell s)) = { hardReset (porstFell s) with regs := (resetCause 0 (hardReset (porstFell s))).regs } :=
      cause_frame ..
    beta_reduce
    refine ⟨?_, ?_, ?_, ?_, ?_, ?_, ?_, ?_, ?_, hflag, hregs⟩ <;> rw [hframe] <;> rfl
  · intro s ns h
    exact congrArg Host.Outcome.next (if_pos h)
  · intro s sel addr hporst hrails hoff hstep hst
    obtain ⟨hpins, htreas, hfuses⟩ := resetCause_rest 0 (porstRose sel.toNat addr.toNat s)
    have hsec := sec_of_control (resetCause_control 0 (porstRose sel.toNat addr.toNat s))
    have hloader := loader_of_control (resetCause_control 0 (porstRose sel.toNat addr.toNat s))
    obtain ⟨h5, hsel, hp, hl⟩ := bootRom_runs (s := resetCause 0 (porstRose sel.toNat addr.toNat s)) (by rw [hpins]; rfl)
      (by rw [hpins]; exact hrails) (by rw [htreas]; exact hoff) (by rw [hsec]; exact hstep) (by rw [hloader]; exact hst)
    simp only [bootFactory_iff] at hl
    rw [hpins, hfuses] at hl
    refine ⟨_, congrArg Host.Outcome.next (porstRelease_low hporst sel.toNat addr.toNat), ?_, ?_, ?_, ?_⟩
    · rw [sec_of_control (warnStands_control _)]; exact h5
    · rw [sec_of_control (warnStands_control _), hsel, hpins]; rfl
    · rw [warnStands_pins, hp, hpins]; rfl
    · rw [loader_of_control (warnStands_control _)]; exact hl
  · intro s sel addr hporst
    exact congrArg Host.Outcome.next (if_pos (by rw [hporst]; rfl))
  · intro s rail hheld hnormal
    refine ⟨_, congrArg Host.Outcome.next (railRelease_returns hheld hnormal), ?_⟩
    beta_reduce
    rw [warnStands_pins, bootRom_pins]
    rfl
  · intro s rail hheld hnormal hporst hoff hstep hst
    have hnone : (railRose rail.val s).pins.railHold = [] := by simp [railRose, hheld]
    obtain ⟨h5, -, hp, -⟩ := bootRom_runs (s := railRose rail.val s) hporst hnone hoff hstep hst
    refine ⟨_, congrArg Host.Outcome.next (railRelease_returns (by rw [hheld]; simp) hnormal), ?_, ?_⟩
    · rw [sec_of_control (warnStands_control _)]; exact h5
    · rw [warnStands_pins, hp, ← hnone]; rfl
  · intro s rail h
    exact congrArg Host.Outcome.next (railRelease_waits h)

end Sys2Proof.Machine
end


section
/-!
PROOFS. Samplers, multicast groups and uncorrectable codewords (R263, R271, Table 13.11).
-/
namespace Sys2Proof.Machine

theorem gated_open {s : State} (h : barOpen s = true) (f : State → State) : gated f s = f s := if_pos h

/-! ### Samplers -/

theorem seedWrite_acts (p : Nat) (v : Word32) (s : State) (t : State) (ht : t = seedWrite p v s) :
    (Tbl.get t.swc.samplers p {}).lfsr = max 1 (bits v.toNat 23 0) ∧ regRead t (Reg.SWC_SAMPLE_SEED p) = (v &&& 0x0F000000#32) ∧
      t = { s with regs := t.regs, swc := t.swc } := by
  subst ht
  exact ⟨congrArg Sampler.lfsr (Tbl.get_set_same ..), regRead_store_same .., rfl⟩

theorem samplerWrite_rises {p : Nat} {v : Word32} {s : State} (h : (v.getLsbD 31 && !flagOf s (Reg.SWC_SAMPLE_CFG p) 31) = true)
    (t : State) (ht : t = samplerWrite p v s) : (Tbl.get t.swc.samplers p {}).count = 0 ∧
      regRead t (Reg.SWC_SAMPLE_CFG p) = (v &&& 0xCFFFFFFF#32) ∧ t = { s with regs := t.regs, swc := t.swc } := by
  rw [show samplerWrite p v s = _ from if_pos h] at ht
  subst ht
  exact ⟨congrArg Sampler.count (Tbl.get_set_same ..), regRead_store_same .., rfl⟩

/-! ### Groups -/

/-- The staged entry of the group table. -/
def stagedGroup (s : State) : Group :=
  { ports := pairOf s Reg.SWC_GRP_PORTS_LO, hosts := fieldOf s Reg.SWC_GRP_HOST 15 0, hairpin := flagOf s Reg.SWC_GRP_HOST 16 }

theorem stagedGroup_command (v : Word32) (s : State) : stagedGroup (regStore Reg.SWC_GRP_CMD v s) = stagedGroup s := by
  unfold stagedGroup
  rw [pairOf_regStore_ne _ _ _ _ (by decide) (by decide), fieldOf_regStore_ne _ _ _ _ _ _ (by decide), flagOf_regStore_ne _ _ _ _ _ (by decide)]

theorem grpCommand_write {cmd : Word32} (h : bits cmd.toNat 1 0 = 1) (s : State) : grpCommand cmd s =
    if 64 < popNat (stagedGroup s).ports 64 + popNat (stagedGroup s).hosts 16 then
      cause Reg.SWC_IRQ_CAUSE 4 (regStore Reg.SWC_GRP_STATUS 1#32 (regStore Reg.SWC_GRP_CMD (cmd &&& 0x01FF0000#32) s))
    else regStore Reg.SWC_GRP_STATUS 0#32 { regStore Reg.SWC_GRP_CMD (cmd &&& 0x01FF0000#32) s with
      swc := { s.swc with groups := Tbl.set s.swc.groups (bits cmd.toNat 24 16) {} (stagedGroup s) } } := by
  rw [← stagedGroup_command (cmd &&& 0x01FF0000#32) s]
  unfold grpCommand
  simp only [h]
  rfl

theorem grpCommand_read {cmd : Word32} (h : bits cmd.toNat 1 0 = 2) (s : State) : grpCommand cmd s =
    regStore Reg.SWC_GRP_STATUS 0#32 (regStore Reg.SWC_GRP_HOST
      (BitVec.ofNat 32 ((Tbl.get s.swc.groups (bits cmd.toNat 24 16) {}).hosts + 2 ^ 16 * b2n (Tbl.get s.swc.groups (bits cmd.toNat 24 16) {}).hairpin))
      (setPair Reg.SWC_GRP_PORTS_LO (Tbl.get s.swc.groups (bits cmd.toNat 24 16) {}).ports (regStore Reg.SWC_GRP_CMD (cmd &&& 0x01FF0000#32) s))) := by
  unfold grpCommand
  simp only [h]
  rfl

/-- Settles O41: each write by what it stores. -/
theorem samplerAndGroupCommandsAct : Obligations.SamplerAndGroupCommandsAct := by
  refine ⟨?_, ?_, ?_, ?_, ?_, ?_, ?_⟩
  · intro s p v hopen
    exact ⟨_, congrArg Host.Outcome.next (gated_open hopen _), seedWrite_acts p.val v s _ rfl⟩
  · intro s p v hopen hen hwas
    exact ⟨_, congrArg Host.Outcome.next (gated_open hopen _), samplerWrite_rises (by rw [hen, hwas]; rfl) _ rfl⟩
  · intro s p v hopen hflat
    exact ⟨_, congrArg Host.Outcome.next (gated_open hopen _), if_neg (by rw [hflat]; decide)⟩
  · intro s cmd hop hopen hfit
    refine ⟨_, congrArg Host.Outcome.next ((if_pos hop).trans ((gated_open hopen _).trans ((grpCommand_write hop s).trans
      (if_neg (Nat.not_lt.2 hfit))))), ?_, regRead_store_same .., rfl⟩
    exact Tbl.get_set_same ..
  · intro s cmd hop hopen hmany
    refine ⟨_, congrArg Host.Outcome.next ((if_pos hop).trans ((gated_open hopen _).trans ((grpCommand_write hop s).trans (if_pos hmany)))), ?_,
      flagOf_cause_same _ _ _ (by omega), ?_⟩
    · exact (regRead_cause_ne _ _ _ _ (by decide)).trans (regRead_store_same ..)
    · exact cause_frame ..
  · intro s cmd hop hopen hports
    refine ⟨_, congrArg Host.Outcome.next ((if_pos hop).trans ((gated_open hopen _).trans (grpCommand_read hop s))), ?_, ?_, regRead_store_same .., ?_⟩
    · rw [pairOf_regStore_ne _ _ _ _ (by decide) (by decide), pairOf_regStore_ne _ _ _ _ (by decide) (by decide), pairOf_setPair_same _ _ _ hports]
    · exact (regRead_store_ne _ _ _ _ (by decide)).trans (regRead_store_same ..)
    · rfl
  · intro s p hexists
    exact ⟨_, congrArg Host.Outcome.next (if_pos hexists), rfl⟩

end Sys2Proof.Machine
end


section
/-!
PROOFS. Shapers and policers (R285, R286, Table 12.6).
-/
namespace Sys2Proof.Machine

/-! ### READ and READ_CLEAR -/

/-- The policer that a read leaves: its tokens brought up to now, and its drops cleared where the read clears them. -/
def policerRead (k : Nat) (clear : Bool) (s : State) : Policer :=
  { refill s (policerAt s k) with drops := if clear then 0 else (refill s (policerAt s k)).drops }

/-- OP of a policer read: 3 READ_CLEAR, 2 READ (Table 12.6). -/
def polReadOp (clear : Bool) : Nat := if clear then 3 else 2

theorem polRow_read {clear : Bool} {cmd : Word32} {s : State} (hop : bits cmd.toNat 3 0 = polReadOp clear) (hopen : barOpen s = true) :
    polRow (polReadOp clear) cmd s = setField Reg.TM_POL_STATUS 1 0 0 (polRead cmd.toNat clear (regStore Reg.TM_POL_CMD (cmd &&& 0xFFFF0300#32) s)) := by
  rw [polRow, if_pos hop, gated_open hopen]
  cases clear <;> simp only [polCommand, hop, polReadOp, if_true, Bool.false_eq_true, if_false]

/-- The end of a read: STATUS is written after the data registers. -/
def readStatus (tk : Nat) (s : State) : State := setField Reg.TM_POL_STATUS 1 0 0 (setField Reg.TM_POL_STATUS 2 2 (tk / 2 ^ 32) s)

/-- The data registers that a read loads. -/
def readData (p : Policer) (tk : Nat) (s : State) : State :=
  s |> regStore Reg.TM_POL_CIR (BitVec.ofNat 32 p.cir) |> regStore Reg.TM_POL_CBS (BitVec.ofNat 32 p.cbs)
    |> regStore Reg.TM_POL_FLAGS (BitVec.ofNat 32 (b2n p.wire)) |> regStore Reg.TM_POL_TOKENS (BitVec.ofNat 32 tk)
    |> regStore Reg.TM_POL_DROPS (BitVec.ofNat 32 p.drops)

theorem regRead_readStatus {o : Nat} (h : Reg.TM_POL_STATUS ≠ o) (tk : Nat) (s : State) : regRead (readStatus tk s) o = regRead s o := by
  rw [readStatus, regRead_setField_ne _ _ _ _ _ _ h, regRead_setField_ne _ _ _ _ _ _ h]

theorem readStatus_frame (tk : Nat) (s : State) : readStatus tk s = { s with regs := (readStatus tk s).regs } := by
  rw [readStatus, setField_frame, setField_frame]

theorem readData_frame (p : Policer) (tk : Nat) (s : State) : readData p tk s = { s with regs := (readData p tk s).regs } := rfl

theorem regRead_readData (p : Policer) (tk : Nat) (s : State) :
    regRead (readData p tk s) Reg.TM_POL_CIR = BitVec.ofNat 32 p.cir ∧ regRead (readData p tk s) Reg.TM_POL_CBS = BitVec.ofNat 32 p.cbs ∧
      regRead (readData p tk s) Reg.TM_POL_DROPS = BitVec.ofNat 32 p.drops := by
  unfold readData
  refine ⟨?_, ?_, regRead_store_same ..⟩
  · rw [regRead_store_ne _ _ _ _ (by decide), regRead_store_ne _ _ _ _ (by decide), regRead_store_ne _ _ _ _ (by decide),
      regRead_store_ne _ _ _ _ (by decide), regRead_store_same]
  · rw [regRead_store_ne _ _ _ _ (by decide), regRead_store_ne _ _ _ _ (by decide), regRead_store_ne _ _ _ _ (by decide), regRead_store_same]

/-- A read of a policer that is p once its tokens are brought up to now. -/
def polReadTail (cmd : Nat) (clear : Bool) (p : Policer) (s : State) : State :=
  let tk := unsigned 33 (p.tk / 65536)
  s |> setPolicer (polKey cmd) { p with drops := if clear then 0 else p.drops }
    |> regStore Reg.TM_POL_CIR (BitVec.ofNat 32 p.cir) |> regStore Reg.TM_POL_CBS (BitVec.ofNat 32 p.cbs)
    |> regStore Reg.TM_POL_FLAGS (BitVec.ofNat 32 (b2n p.wire)) |> regStore Reg.TM_POL_TOKENS (BitVec.ofNat 32 tk)
    |> regStore Reg.TM_POL_DROPS (BitVec.ofNat 32 p.drops) |> setField Reg.TM_POL_STATUS 2 2 (tk / 2 ^ 32)

theorem polReadTail_eq (cmd : Nat) (clear : Bool) (p : Policer) (s : State) : polReadTail cmd clear p s =
    setField Reg.TM_POL_STATUS 2 2 (unsigned 33 (p.tk / 65536) / 2 ^ 32)
      (readData p (unsigned 33 (p.tk / 65536)) (setPolicer (polKey cmd) { p with drops := if clear then 0 else p.drops } s)) := by
  unfold polReadTail
  generalize unsigned 33 (p.tk / 65536) = tk
  rfl

theorem polRead_eq (cmd : Nat) (clear : Bool) (s : State) : polRead cmd clear s =
    setField Reg.TM_POL_STATUS 2 2 (unsigned 33 ((refill s (policerAt s (polKey cmd))).tk / 65536) / 2 ^ 32)
      (readData (refill s (policerAt s (polKey cmd))) (unsigned 33 ((refill s (policerAt s (polKey cmd))).tk / 65536))
        (setPolicer (polKey cmd) (policerRead (polKey cmd) clear s) s)) := by
  have htail : polRead cmd clear s = polReadTail cmd clear (refill s (policerAt s (polKey cmd))) s := by
    unfold polRead polReadTail
    rfl
  rw [htail, polReadTail_eq]
  rfl

theorem policerRead_regStore (k : Nat) (clear : Bool) (o : Nat) (v : Word32) (s : State) :
    policerRead k clear (regStore o v s) = policerRead k clear s := rfl

/-- A read leaves the policer brought up to now, and its rate, burst and drops in the data registers. -/
theorem polRow_read_acts {clear : Bool} {cmd : Word32} {s : State} (hop : bits cmd.toNat 3 0 = polReadOp clear) (hopen : barOpen s = true)
    (t : State) (ht : t = polRow (polReadOp clear) cmd s) :
    policerAt t (polKey cmd.toNat) = policerRead (polKey cmd.toNat) clear s ∧
      regRead t Reg.TM_POL_CIR = BitVec.ofNat 32 (policerAt s (polKey cmd.toNat)).cir ∧
      regRead t Reg.TM_POL_CBS = BitVec.ofNat 32 (policerAt s (polKey cmd.toNat)).cbs ∧
      regRead t Reg.TM_POL_DROPS = BitVec.ofNat 32 (policerAt s (polKey cmd.toNat)).drops ∧ t = { s with regs := t.regs, tm := t.tm } := by
  rw [polRow_read hop hopen] at ht
  rw [polRead_eq, policerRead_regStore, refill_regStore, policerAt_regStore] at ht
  generalize unsigned 33 ((refill s (policerAt s (polKey cmd.toNat))).tk / 65536) = tk at ht
  rw [← readStatus] at ht
  subst ht
  obtain ⟨hcir, hcbs, hdrops⟩ := regRead_readData (refill s (policerAt s (polKey cmd.toNat))) tk
    (setPolicer (polKey cmd.toNat) (policerRead (polKey cmd.toNat) clear s) (regStore Reg.TM_POL_CMD (cmd &&& 0xFFFF0300#32) s))
  refine ⟨?_, ?_, ?_, ?_, ?_⟩
  · rw [readStatus, policerAt_setField, policerAt_setField, readData]
    simp only [policerAt_regStore, policerAt_setPolicer_same]
  · rw [regRead_readStatus (by decide), hcir]; rfl
  · rw [regRead_readStatus (by decide), hcbs]; rfl
  · rw [regRead_readStatus (by decide), hdrops]; rfl
  · rw [readStatus_frame, readData_frame]; rfl

/-! ### The obligation -/

/-- Settles O43: an update of a shaper, a write of its control register, and the two cases of one policer read. -/
theorem shaperAndPolicerCommandsAct : Obligations.ShaperAndPolicerCommandsAct := by
  refine ⟨?_, ?_, ?_, ?_⟩
  · intro s k c hc hdue hon
    have hgo : ¬(schedClasses s k.val ≤ c.val ∨ since s (s.classAt (firstQueue k.val + c.val)).updAt < 256) := by
      rw [not_or, Nat.not_le, Nat.not_lt]
      exact ⟨hc, hdue⟩
    exact ⟨_, congrArg Host.Outcome.next ((if_neg hgo).trans (if_pos hon)), State.classAt_setClass_same .., rfl⟩
  · intro s n v hclear hopen hexists
    have hwrite : exec (.clearDebt n v) s = .next (classCtrlWrite n.val v s) := congrArg Host.Outcome.next ((if_pos hclear).trans (gated_open hopen _))
    rw [classCtrlWrite, if_neg (by rw [hexists]; decide)] at hwrite
    refine ⟨_, hwrite, ?_, ?_, ?_, rfl⟩
    · rw [State.classAt_setClass_same, hclear]; exact Bool.or_true _
    · rw [State.classAt_setClass_same]
    · exact regRead_store_same ..
  · intro s cmd hop hopen
    exact ⟨_, rfl, polRow_read_acts (clear := false) hop hopen _ rfl⟩
  · intro s cmd hop hopen
    obtain ⟨hpol, -, -, hdrops, hrest⟩ := polRow_read_acts (clear := true) hop hopen _ rfl
    exact ⟨_, rfl, hpol, hdrops, hrest⟩

end Sys2Proof.Machine
end


section
/-!
PROOFS. Gate control lists: access to the admin bank, changes and switches (R287 to R289).
-/
namespace Sys2Proof.Machine

/-! ### The admin bank -/

theorem gclNext_frame (s : State) : gclNext s = { s with regs := (gclNext s).regs } := by
  unfold gclNext
  split
  · exact setField_frame ..
  · rfl

theorem regRead_gclNext {o : Nat} (h : Reg.TM_GCL_ADDR ≠ o) (s : State) : regRead (gclNext s) o = regRead s o := by
  unfold gclNext
  split
  · exact regRead_setField_ne _ _ _ _ _ _ h
  · rfl

theorem schedAt_of_tm {s t : State} (h : t.tm = s.tm) (k : Nat) : t.schedAt k = s.schedAt k := by
  rw [State.schedAt, h, State.schedAt]

theorem gclNext_tm (s : State) : (gclNext s).tm = s.tm := by rw [gclNext_frame]

/-- MASK and a duration stand in the admin entry that TM_GCL_ADDR names. -/
def entryStored (v : Word32) (s : State) : State :=
  s.setSched (gclPort s) { s.schedAt (gclPort s) with
    adminBank := Tbl.set (s.schedAt (gclPort s)).adminBank (gclEntry s) {} ⟨fieldOf s Reg.TM_GCL_MASK 7 0, v.toNat⟩ }

theorem entryStored_entry (v : Word32) (s : State) :
    Tbl.get ((entryStored v s).schedAt (gclPort s)).adminBank (gclEntry s) {} = ⟨fieldOf s Reg.TM_GCL_MASK 7 0, v.toNat⟩ := by
  rw [entryStored, State.schedAt_setSched_same]
  exact Tbl.get_set_same ..

theorem gclWrite_free {s : State} (h : (s.schedAt (gclPort s)).pending = none) (v : Word32) : gclWrite v s = gclNext (entryStored v s) := by
  unfold gclWrite
  simp only
  rw [if_neg (by rw [h]; decide)]
  rfl

theorem gclWrite_refused {s : State} (h : (s.schedAt (gclPort s)).pending ≠ none) (v : Word32) :
    gclWrite v s = gclNext (bump Reg.TM_GCL_REFUSED_CNT s) := by
  unfold gclWrite
  simp only
  rw [if_pos (Option.isSome_iff_ne_none.2 h)]

/-! ### Changes -/

theorem adminList_ctrl (p len : Nat) (v : Word32) (s : State) : adminList (regStore (Reg.TM_GATE_CTRL p) v s) p len = adminList s p len := by
  have hsec : pairOf (regStore (Reg.TM_GATE_CTRL p) v s) (Reg.TM_GATE_BASE_SEC_LO p) = pairOf s (Reg.TM_GATE_BASE_SEC_LO p) :=
    pairOf_regStore_ne _ _ _ _ (by simp) (by simp only [Reg.TM_GATE_CTRL, Reg.TM_GATE_BASE_SEC_LO]; omega)
  have hns : fieldOf (regStore (Reg.TM_GATE_CTRL p) v s) (Reg.TM_GATE_BASE_NS p) 29 0 = fieldOf s (Reg.TM_GATE_BASE_NS p) 29 0 :=
    fieldOf_regStore_ne _ _ _ _ _ _ (by simp)
  have hcycle : fieldOf (regStore (Reg.TM_GATE_CTRL p) v s) (Reg.TM_GATE_CYCLE_NS p) 31 0 = fieldOf s (Reg.TM_GATE_CYCLE_NS p) 31 0 :=
    fieldOf_regStore_ne _ _ _ _ _ _ (by simp)
  unfold adminList
  rw [hsec, hns, hcycle]
  rfl

/-- A CHANGE with a list of this length, where none is pending. -/
def changeTaken (p len : Nat) (s : State) : State :=
  if listOk (adminList s p len) len then
    s.setSched p { s.schedAt p with pending := some (switchTime (adminList s p len) s, adminList s p len), gateErr := false }
  else cause Reg.TM_IRQ_CAUSE 1 (s.setSched p { s.schedAt p with gateErr := true })

theorem gateCtrlWrite_change {p : Nat} {v : Word32} {s : State} (hen : v.getLsbD 31 = true) (hch : v.getLsbD 16 = true) :
    gateCtrlWrite p v s = if (s.schedAt p).pending.isSome then bump Reg.TM_GCL_REFUSED_CNT (regStore (Reg.TM_GATE_CTRL p) (v &&& 0x800007FF#32) s)
      else changeTaken p (bits v.toNat 10 0) (regStore (Reg.TM_GATE_CTRL p) (v &&& 0x800007FF#32) s) := by
  unfold gateCtrlWrite changeTaken
  simp only [hen, hch, Bool.not_true, Bool.false_eq_true, if_false]
  rfl

theorem changeTaken_good {p len : Nat} {s : State} (h : listOk (adminList s p len) len = true) (t : State) (ht : t = changeTaken p len s) :
    t.schedAt p = { s.schedAt p with pending := some (switchTime (adminList s p len) s, adminList s p len), gateErr := false } ∧
      t = { s with tm := t.tm } := by
  rw [changeTaken, if_pos h] at ht
  subst ht
  exact ⟨State.schedAt_setSched_same .., rfl⟩

theorem changeTaken_bad {p len : Nat} {s : State} (h : listOk (adminList s p len) len = false) (t : State) (ht : t = changeTaken p len s) :
    t.schedAt p = { s.schedAt p with gateErr := true } ∧ flagOf t Reg.TM_IRQ_CAUSE 1 = true ∧ t = { s with regs := t.regs, tm := t.tm } := by
  rw [changeTaken, if_neg (by rw [h]; decide)] at ht
  subst ht
  exact ⟨State.schedAt_setSched_same .., flagOf_cause_same _ _ _ (by omega), rfl⟩

/-! ### Switches -/

/-- The banks exchange, and the list takes force. -/
def banksSwitched (p : Nat) (g : GateList) (s : State) : State :=
  s.setSched p { s.schedAt p with
    adminBank := (s.schedAt p).operBank, operBank := (s.schedAt p).adminBank, inForce := some g, pending := none,
    longest := (List.range 8).filterMap fun q => (longestWindow g q).map fun n => (q, n), gateIdx := gateIndex g (nowNs s) }

/-- What a switch reports. -/
def switchNoted (p sw : Nat) (s : State) : State :=
  s |> regStore (Reg.TM_GATE_CHANGE_SEC p) (BitVec.ofNat 32 (sw / 1000000000))
    |> regStore (Reg.TM_GATE_CHANGE_NS p) (BitVec.ofNat 32 (sw % 1000000000)) |> cause Reg.TM_IRQ_CAUSE 0 |> emit 0x00B 0x50 p

theorem gateSwitch_due {p sw : Nat} {g : GateList} {s : State} (h : (s.schedAt p).pending = some (sw, g)) (hdue : sw * 2 ^ 32 ≤ s.time.net) :
    gateSwitch p s = switchNoted p sw (banksSwitched p g s) := by
  unfold gateSwitch
  simp only [h]
  rw [if_neg (Nat.not_lt.2 hdue)]
  rfl

theorem switchNoted_frame (p sw : Nat) (s : State) : switchNoted p sw s = { s with regs := (switchNoted p sw s).regs, sill := (switchNoted p sw s).sill } := by
  unfold switchNoted
  rw [emit_frame, cause_frame]
  rfl

theorem switchNoted_regs (p sw : Nat) (s : State) : flagOf (switchNoted p sw s) Reg.TM_IRQ_CAUSE 0 = true ∧
    regRead (switchNoted p sw s) (Reg.TM_GATE_CHANGE_SEC p) = BitVec.ofNat 32 (sw / 1000000000) ∧
      regRead (switchNoted p sw s) (Reg.TM_GATE_CHANGE_NS p) = BitVec.ofNat 32 (sw % 1000000000) := by
  unfold switchNoted
  refine ⟨?_, ?_, ?_⟩
  · rw [flagOf_emit_ne _ _ _ _ _ _ (by decide) (by decide)]
    exact flagOf_cause_same _ _ _ (by omega)
  · rw [regRead_emit_ne _ _ _ _ _ (by simp only [Reg.SILL_LOST_CNT, Reg.TM_GATE_CHANGE_SEC]; omega) (by simp only [Reg.SILL_IRQ_CAUSE, Reg.TM_GATE_CHANGE_SEC]; omega),
      regRead_cause_ne _ _ _ _ (by simp only [Reg.TM_IRQ_CAUSE, Reg.TM_GATE_CHANGE_SEC]; omega), regRead_store_ne _ _ _ _ (by simp),
      regRead_store_same]
  · rw [regRead_emit_ne _ _ _ _ _ (by simp only [Reg.SILL_LOST_CNT, Reg.TM_GATE_CHANGE_NS]; omega) (by simp only [Reg.SILL_IRQ_CAUSE, Reg.TM_GATE_CHANGE_NS]; omega),
      regRead_cause_ne _ _ _ _ (by simp only [Reg.TM_IRQ_CAUSE, Reg.TM_GATE_CHANGE_NS]; omega), regRead_store_same]

/-- Settles O38: accesses of the admin bank, the three results of a CHANGE, a disabled port, and a switch. -/
theorem gateCommandsAct : Obligations.GateCommandsAct := by
  refine ⟨?_, ?_, ?_, ?_, ?_, ?_, ?_, ?_, ?_⟩
  · intro s v hopen hfree
    refine ⟨_, congrArg Host.Outcome.next ((gated_open hopen _).trans (gclWrite_free hfree v)), ?_, ?_⟩
    · rw [schedAt_of_tm (gclNext_tm _), entryStored_entry]
    · rw [gclNext_frame]; rfl
  · intro s v hopen hpend
    exact ⟨_, congrArg Host.Outcome.next ((gated_open hopen _).trans (gclWrite_refused hpend v)), rfl⟩
  · intro s hopen
    have hread : gclReadHost s = { (gclRead s).2 with out := { (gclRead s).2.out with ok := true, data := leBytes 4 (gclRead s).1 } } := by
      unfold gclReadHost
      rw [if_pos hopen]
    refine ⟨_, congrArg Host.Outcome.next hread, rfl, rfl, ?_, ?_⟩
    · exact (regRead_gclNext (by decide) _).trans (regRead_store_same ..)
    · rw [gclRead, gclNext_frame]; rfl
  · intro s hshut
    have hread : gclReadHost s = { s with out := { s.out with ok := true, data := leBytes 4 0 } } := by
      unfold gclReadHost
      rw [if_neg (by rw [hshut]; decide)]
    exact ⟨_, congrArg Host.Outcome.next hread, rfl, rfl, rfl⟩
  · intro s p v hen hch hopen hfree hok
    have hwrite : exec (.gateChange p v) s = .next (changeTaken p.val (bits v.toNat 10 0) (regStore (Reg.TM_GATE_CTRL p.val) (v &&& 0x800007FF#32) s)) :=
      congrArg Host.Outcome.next ((if_pos (by rw [hen, hch]; rfl)).trans ((gated_open hopen _).trans ((gateCtrlWrite_change hen hch).trans
        (if_neg (by rw [hfree]; decide)))))
    rw [← adminList_ctrl p.val _ (v &&& 0x800007FF#32)] at hok ⊢
    obtain ⟨hsched, hrest⟩ := changeTaken_good hok _ rfl
    exact ⟨_, hwrite, hsched, by rw [hrest]; rfl⟩
  · intro s p v hen hch hopen hfree hbad
    have hwrite : exec (.gateChange p v) s = .next (changeTaken p.val (bits v.toNat 10 0) (regStore (Reg.TM_GATE_CTRL p.val) (v &&& 0x800007FF#32) s)) :=
      congrArg Host.Outcome.next ((if_pos (by rw [hen, hch]; rfl)).trans ((gated_open hopen _).trans ((gateCtrlWrite_change hen hch).trans
        (if_neg (by rw [hfree]; decide)))))
    rw [← adminList_ctrl p.val _ (v &&& 0x800007FF#32)] at hbad
    obtain ⟨hsched, hflag, hrest⟩ := changeTaken_bad hbad _ rfl
    exact ⟨_, hwrite, hsched, hflag, by rw [hrest]; rfl⟩
  · intro s p v hen hch hopen hpend
    exact ⟨_, congrArg Host.Outcome.next ((if_pos (by rw [hen, hch]; rfl)).trans ((gated_open hopen _).trans ((gateCtrlWrite_change hen hch).trans
      (if_pos (Option.isSome_iff_ne_none.2 hpend))))), rfl⟩
  · intro s p v hen hopen
    have hwrite : gateCtrlWrite p.val v s = (regStore (Reg.TM_GATE_CTRL p.val) (v &&& 0x800007FF#32) s).setSched p.val
        { s.schedAt p.val with inForce := none, pending := none, longest := [], gateIdx := 0 } := if_pos (by rw [hen]; rfl)
    refine ⟨_, congrArg Host.Outcome.next ((if_pos (by rw [hen]; rfl)).trans ((gated_open hopen _).trans hwrite)), State.schedAt_setSched_same .., ?_, rfl⟩
    intro q _ n
    rw [State.schedAt_setSched_same]
    rfl
  · intro s p sw g hpend hdue
    obtain ⟨hflag, hsec, hns⟩ := switchNoted_regs p.val sw (banksSwitched p.val g s)
    have hsched : (switchNoted p.val sw (banksSwitched p.val g s)).schedAt p.val = (banksSwitched p.val g s).schedAt p.val :=
      schedAt_of_tm (by rw [switchNoted_frame]) _
    rw [banksSwitched, State.schedAt_setSched_same, ← banksSwitched] at hsched
    refine ⟨_, congrArg Host.Outcome.next (gateSwitch_due hpend hdue), ?_, ?_, ?_, ?_, hflag, hsec, hns, ?_⟩
    · rw [hsched]
    · rw [hsched]
    · rw [hsched]
    · rw [hsched]
    · rw [switchNoted_frame]; rfl

end Sys2Proof.Machine
end


section
/-!
PROOFS. The flow exporter: snapshots, their items, messages and templates (R222, R223).
-/
namespace Sys2Proof.Machine

theorem ledger_of_books {s t : State} (h : t.books = s.books) : t.ledger = s.ledger := by
  simp only [State.books, Prod.mk.injEq] at h
  exact h.1

theorem expAt_of_ledger {s t : State} (h : t.ledger = s.ledger) (b : Nat) : expAt t b = expAt s b := by
  rw [expAt, State.ledgerAt, h, expAt, State.ledgerAt]

theorem expAt_modExp (b : Nat) (f : Exporter → Exporter) (s : State) : expAt (modExp b f s) b = f (expAt s b) := by
  rw [expAt, modExp, State.ledgerAt_modLedger_same, expAt]

theorem modExp_frame (b : Nat) (f : Exporter → Exporter) (s : State) : modExp b f s = { s with ledger := (modExp b f s).ledger } := rfl

/-! ### Snapshots -/

theorem exportTake_idle {s : State} {b : Nat} (h : (expAt s b).ring = [] ∨ domOn s 27 = false) : exportTake b s = s := by
  unfold exportTake
  cases hring : (expAt s b).ring with
  | nil => rfl
  | cons n rest =>
    have hoff : domOn s 27 = false := h.resolve_left (by rw [hring]; exact List.cons_ne_nil n rest)
    exact if_pos (by rw [hoff]; rfl)

theorem exportTake_raw {s : State} {b : Nat} {n : Snapshot} {rest : List Snapshot} (hring : (expAt s b).ring = n :: rest)
    (hdom : domOn s 27 = true) (hitem : n.item = 0 ∨ n.item = 3) (hraw : flagOf s (Reg.TILL_EXP_CFG 0) 1 = false) :
    exportTake b s = takeRaw b n s := by
  unfold exportTake
  simp only [hring]
  rw [if_neg (by rw [hdom]; obtain h | h := hitem <;> rw [h] <;> decide), if_neg (by rw [hraw]; decide)]

theorem takeRaw_ring {s : State} {b : Nat} {n : Snapshot} (hfits : fits s (expRing s) 4 128 = true) :
    (expAt (takeRaw b n s) b).ring = (expAt s b).ring.tail := by
  have hbooks (r : Nat) (x : Bytes) : (placeRec r 4 x (readWords 16 (n.addr / 8) s).2).2.ledger = s.ledger :=
    ledger_of_books ((placeRec_books ..).trans (readWords_books ..))
  unfold takeRaw
  rw [if_pos hfits]
  simp only
  rw [expAt_of_ledger (ledger_of_books (bump_books ..)), dropSnapshot, expAt_modExp, expAt_of_ledger (hbooks _ _)]

/-! ### Items -/

theorem exportItemRetry_single {s u : State} {b : Nat} {n : Snapshot} (hring : (expAt s b).ring = [n]) (hitem : n.item = 1)
    (hmade : exportItem b n s = (2, u)) :
    exportItemRetry b s = modExp b (fun x => { x with ring := x.ring.map fun m => if m.num = n.num then { m with item := 2 } else m }) u := by
  unfold exportItemRetry
  rw [hring, List.foldl_cons, List.foldl_nil, if_pos hitem, hmade]

/-! ### Messages -/

/-- The message being built has gone. -/
def sentExporter (x : Exporter) : Exporter := { x with sent := (x.sent + x.recs.length) % 2 ^ 32, recs := [], withTmpl := false }

theorem sendMessage_placed {s u : State} {b : Nat} (h : placeRec (expRing s) 5 (ipfixMessage b (expAt s b) s) s = (true, u)) :
    sendMessage b s = (true, bump (Reg.TILL_EXP_MSG_CNT b) (modExp b sentExporter u)) := by
  unfold sendMessage
  simp only [h, if_true]
  rfl

theorem expAt_sent {s u : State} {b : Nat} (h : placeRec (expRing s) 5 (ipfixMessage b (expAt s b) s) s = (true, u)) :
    expAt (sendMessage b s).2 b = sentExporter (expAt s b) := by
  rw [sendMessage_placed h, expAt_of_ledger (ledger_of_books (bump_books ..)), expAt_modExp, expAt_of_ledger (ledger_of_books (placeRec_books' h))]

/-- Settles O46: each command by what it leaves of the exporter. -/
theorem exporterCommandsAct : Obligations.ExporterCommandsAct := by
  refine ⟨?_, ?_, ?_, ?_, ?_, ?_⟩
  · intro s b h
    exact ⟨_, congrArg Host.Outcome.next (exportTake_idle (s := freshOut s) h), rfl⟩
  · intro s b n rest hring hdom hitem hraw hfits
    refine ⟨_, congrArg Host.Outcome.next (exportTake_raw (s := freshOut s) hring hdom hitem hraw), ?_⟩
    exact (takeRaw_ring (s := freshOut s) hfits).trans (congrArg List.tail hring)
  · intro s b n u hring hitem hmade
    have hring' : (expAt u b.val).ring = [n] := by rw [expAt_of_ledger (ledger_of_books (exportItem_books' hmade)), hring]
    refine ⟨_, congrArg Host.Outcome.next (exportItemRetry_single hring hitem hmade), ?_, modExp_frame ..⟩
    rw [expAt_modExp]
    simp only [hring', List.map_cons, List.map_nil, if_true]
  · intro s b u hdue hplaced
    have hsent := expAt_sent (s := freshOut s) (b := b.val) hplaced
    refine ⟨_, congrArg Host.Outcome.next (if_pos hdue), ?_⟩
    beta_reduce
    rw [hsent]
    exact ⟨rfl, rfl, rfl⟩
  · intro s b hdue
    exact ⟨_, congrArg Host.Outcome.next (if_neg (by rw [show flushDue (freshOut s) b.val = flushDue s b.val from rfl, hdue]; decide)), rfl⟩
  · intro s b hperiod hdue
    refine ⟨_, congrArg Host.Outcome.next (if_pos ⟨hperiod, hdue⟩), ?_, ?_, modExp_frame ..⟩ <;> rw [expAt_modExp]

end Sys2Proof.Machine
end


section
/-!
PROOFS. The Auditor: visits that find nothing, and the alarm of a long lap (R403, R404, R407).
-/
namespace Sys2Proof.Machine

theorem Tbl.find_put_same {α : Type} (t : Tbl α) (i : Nat) (v : α) : Tbl.find (Tbl.put t i v) i = some v :=
  Tbl.find_ins_same _ _ _ (Tbl.find_del_same t i)

theorem Tbl.find_put_ne {α : Type} (t : Tbl α) {i j : Nat} (v : α) (h : i ≠ j) : Tbl.find (Tbl.put t i v) j = Tbl.find t j :=
  (Tbl.find_ins_ne _ _ _ _ h).trans (Tbl.find_del_ne _ _ _ h)

/-! ### Laps -/

theorem lapBegin_frame (m : Nat) (s : State) : lapBegin m s = { s with audit := (lapBegin m s).audit } := by
  unfold lapBegin
  simp only
  split <;> rfl

theorem lapBegin_visited (m : Nat) (s : State) : (lapBegin m s).audit.visited = s.audit.visited := by
  unfold lapBegin
  simp only
  split <;> rfl

theorem lapBegin_runs (m : Nat) (s : State) : (Tbl.find (lapBegin m s).audit.lapAt m).isSome = true := by
  unfold lapBegin
  simp only
  split
  case isTrue h => exact h
  case isFalse => rw [Tbl.find_put_same]; rfl

/-! ### Pages -/

/-- A page whose words all stand and read without an error is left as it is. -/
theorem readAll_clean {g : Page} (h : ∀ i, i < 64 → g.held i ≠ none) (s : State) : g.readAll [] s = s := by
  have hword (i : Nat) (hi : i < 65) : g.readWord [] i s = s := by
    obtain ⟨w, hw⟩ : ∃ w, g.readAt [] i = .clean w := by
      unfold Page.readAt
      split
      · exact ⟨_, rfl⟩
      · obtain ⟨w, hw⟩ := Option.ne_none_iff_exists'.1 (h i (by omega))
        rw [hw]
        exact ⟨w, rfl⟩
    unfold Page.readWord
    rw [hw]
  unfold Page.readAll
  suffices hall : ∀ l : List Nat, (∀ i ∈ l, i < 65) → l.foldl (fun s i => g.readWord [] i s) s = s from hall _ fun i hi => List.mem_range.1 hi
  intro l hl
  induction l with
  | nil => rfl
  | cons i l ih =>
    rw [List.foldl_cons, hword i (hl i List.mem_cons_self)]
    exact ih fun j hj => hl j (List.mem_cons_of_mem i hj)

theorem cofferPage_held (m g : Nat) (s : State) : (cofferPage (lapBegin m s) g).held = (cofferPage s g).held := by
  rw [lapBegin_frame]
  rfl

theorem tillPage_held (m b g : Nat) (s : State) : (tillPage (lapBegin m s) b g).held = (tillPage s b g).held := by
  rw [lapBegin_frame]
  rfl

/-- The page of memory m that a visit reads. -/
def pageOf (s : State) (m : Nat) : Page :=
  if m = 5 then cofferPage s (Tbl.get s.audit.visited 5 0) else tillPage s (m - 1) (Tbl.get s.audit.visited m 0)

theorem visitPage_clean {m : Nat} {s : State} (h : ∀ i, i < 64 → (pageOf s m).held i ≠ none) : visitPage m [] s = pageVisited m (lapBegin m s) := by
  unfold visitPage
  simp only
  by_cases hm : m = 5
  · subst hm
    rw [if_pos rfl, readAll_clean]
    intro i hi
    rw [cofferPage_held]
    exact h i hi
  · rw [if_neg hm, readAll_clean]
    intro i hi
    rw [tillPage_held]
    have hheld := h i hi
    rw [pageOf, if_neg hm] at hheld
    exact hheld

theorem pageVisited_more {m : Nat} {s : State} (h : Tbl.get s.audit.visited m 0 + 1 < auditPages m) (t : State) (ht : t = pageVisited m s) :
    Tbl.get t.audit.visited m 0 = Tbl.get s.audit.visited m 0 + 1 ∧ t.audit.lapAt = s.audit.lapAt ∧ t = { s with audit := t.audit } := by
  rw [show pageVisited m s = _ from if_pos h] at ht
  subst ht
  exact ⟨Tbl.get_set_same s.audit.visited m 0 (Tbl.get s.audit.visited m 0 + 1), rfl, rfl⟩

/-! ### Records of the Vault -/

/-- A step leaves what the Vault's cells read as: the contents, the failed writes and the population. -/
structure CellsStep (s t : State) : Prop where
  fwl : ∀ c, (t.chanAt c).fwl = (s.chanAt c).fwl
  vault : t.vault = { s.vault with chans := t.vault.chans }
  rest : t = { s with regs := t.regs, vault := t.vault }

theorem CellsStep.refl (s : State) : CellsStep s s := ⟨fun _ => rfl, rfl, rfl⟩

theorem CellsStep.trans {s t u : State} (h : CellsStep s t) (k : CellsStep t u) : CellsStep s u where
  fwl c := (k.fwl c).trans (h.fwl c)
  vault := by rw [k.vault, h.vault]
  rest := by rw [k.rest, h.rest]

theorem CellsStep.of_regs {s t : State} (h : t = { s with regs := t.regs }) : CellsStep s t := by
  rw [h]
  exact ⟨fun _ => rfl, rfl, rfl⟩

theorem CellsStep.modChan {f : VaultCh → VaultCh} (hf : ∀ x, (f x).fwl = x.fwl) (c : Nat) (s : State) : CellsStep s (s.modChan c f) where
  fwl d := by
    rw [State.chanAt_modChan]
    split
    case isTrue h => rw [hf, h]
    case isFalse => rfl
  vault := rfl
  rest := rfl

theorem CellsStep.peekCell {s t : State} (h : CellsStep s t) (rank u : Nat) : peekCell t rank u = peekCell s rank u := by
  have hcell : cellAt t.vault rank u = cellAt s.vault rank u := by rw [h.vault]; rfl
  rw [Machine.peekCell, h.fwl, hcell, Machine.peekCell]

theorem cellsStep_perf (u code : Nat) (s : State) : CellsStep s (perf u code s) := .of_regs (perf_frame u code s)

/-- A channel that has served a request other than the sweep's. -/
def servedAt (tick : Nat) (x : VaultCh) : VaultCh := { x with lastReq := tick, sweepGap := min 127 (x.sweepGap + 1) }

theorem cellsStep_noteVaultOp (c : Nat) (s : State) : CellsStep s (noteVaultOp c .granted s) :=
  (cellsStep_perf (uVault c) 0x04 s).trans (.modChan (f := servedAt (perf (uVault c) 0x04 s).time.tick) (fun _ => rfl) c _)

/-- A channel whose writes to a record's bank have been made. -/
def withoutBank (rank u : Nat) (x : VaultCh) : VaultCh := { x with writes := x.writes.filter fun w => !sameBank w.rank w.rec_ rank u }

theorem cellsStep_inOrder (rank u : Nat) (s : State) : CellsStep s (inOrder rank u s) := by
  unfold inOrder
  simp only
  split
  · have hmade := CellsStep.modChan (f := withoutBank rank u) (fun _ => rfl) (rank / 2) s
    exact (hmade.trans (.of_regs (bump_frame ..))).trans (cellsStep_perf ..)
  · exact .refl s

theorem cellsStep_chanRead (rank u : Nat) (s : State) : CellsStep s (chanRead rank u .granted s) :=
  (((cellsStep_inOrder rank u s).trans (.of_regs (bump64_frame ..))).trans (cellsStep_perf ..)).trans (cellsStep_noteVaultOp ..)

theorem settleMerge_none {a : Nat} {s : State} (h : (s.chanAt (chanOf s.vault a)).merge.find? (·.record = a) = none) : settleMerge a s = s := by
  unfold settleMerge
  simp only [h]

theorem auditRecord_clean {rank u : Nat} {s : State}
    (hmerge : ∀ a, inService s.vault rank u = some a → (s.chanAt (chanOf s.vault a)).merge.find? (·.record = a) = none) :
    auditRecord rank u .clean s = if peekCell (chanRead rank u .granted s) rank u = .poison
      then bump Reg.AUDIT_POISON_READ_CNT (chanRead rank u .granted s) else chanRead rank u .granted s := by
  unfold auditRecord
  cases ha : inService s.vault rank u with
  | none => rfl
  | some a =>
    simp only [settleMerge_none (hmerge a ha)]

/-- A clean read of a record that no merge entry holds. -/
theorem cellsStep_auditRecord {rank u : Nat} {s : State}
    (hmerge : ∀ a, inService s.vault rank u = some a → (s.chanAt (chanOf s.vault a)).merge.find? (·.record = a) = none)
    (hpoison : peekCell s rank u ≠ .poison) : CellsStep s (auditRecord rank u .clean s) := by
  have hread := cellsStep_chanRead rank u s
  rw [auditRecord_clean hmerge, if_neg (by rw [hread.peekCell]; exact hpoison)]
  exact hread

theorem peekCell_of_vault {s t : State} (h : t.vault = s.vault) (rank u : Nat) : peekCell t rank u = peekCell s rank u := by
  unfold peekCell State.chanAt
  rw [h]

theorem auditRanks_of_vault {v w : Vault} (h : w = { v with chans := w.chans }) (c : Nat) : auditRanks w c = auditRanks v c := by
  rw [h]
  rfl

theorem rankRecords_of_vault {v w : Vault} (h : w = { v with chans := w.chans }) : rankRecords w = rankRecords v := by
  have hgib : w.gib = v.gib := by rw [h]
  rw [rankRecords, hgib, rankRecords]

/-- The rank that a lap visits next on a channel is one of the channel's. -/
theorem lapNext_rank {s : State} {c rank u : Nat} (h : lapNext s c = some (rank, u)) : rank ∈ auditRanks s.vault c ∧ rank / 2 = c := by
  simp only [lapNext, Option.map_eq_some_iff, Prod.mk.injEq] at h
  obtain ⟨r, hfind, rfl, -⟩ := h
  have hmem := List.mem_of_find?_eq_some hfind
  refine ⟨hmem, ?_⟩
  have hpair : r = 2 * c ∨ r = 2 * c + 1 := by simpa using (List.mem_filter.1 hmem).1
  omega

/-- A record before the last of its rank moves its channel's mark on, and the lap goes on. -/
theorem recordVisited_more {rank u c : Nat} {s : State} (hc : c < 8) (hrank : rank ∈ auditRanks s.vault c) (hhalf : rank / 2 = c)
    (hmore : u + 1 < rankRecords s.vault) : recordVisited rank u s =
      { s with audit := { s.audit with visited := Tbl.put s.audit.visited (8 + c) (2 ^ 29 * rank + u + 1) } } := by
  unfold recordVisited
  simp only [if_pos hmore, hhalf]
  refine if_neg fun hall => ?_
  have hnone := List.all_eq_true.1 hall c (List.mem_range.2 hc)
  have hbound : u + 1 < 2 ^ 29 := by
    refine Nat.lt_of_lt_of_le hmore ?_
    unfold rankRecords
    split <;> omega
  have hmark : lapMark { s with audit := { s.audit with visited := Tbl.put s.audit.visited (8 + c) (2 ^ 29 * rank + u + 1) } } c = 2 ^ 29 * rank + u + 1 := by
    rw [lapMark, Tbl.get, Tbl.find_put_same]
    rfl
  rw [lapNext, hmark, Option.isNone_map, Option.isNone_iff_eq_none, List.find?_eq_none] at hnone
  exact hnone rank hrank (by rw [decide_eq_true_eq]; omega)

theorem recordVisited_acts {rank u c : Nat} {s : State} (hc : c < 8) (hrank : rank ∈ auditRanks s.vault c) (hhalf : rank / 2 = c)
    (hmore : u + 1 < rankRecords s.vault) (t : State) (ht : t = recordVisited rank u s) :
    Tbl.find t.audit.visited (8 + c) = some (2 ^ 29 * rank + u + 1) ∧ t.vault = s.vault ∧ t = { s with audit := t.audit } := by
  rw [recordVisited_more hc hrank hhalf hmore] at ht
  generalize 2 ^ 29 * rank + u + 1 = mark at ht ⊢
  subst ht
  exact ⟨Tbl.find_put_same s.audit.visited (8 + c) mark, rfl, rfl⟩

/-- Settles O47: visits that read nothing, a clean page, the alarm, and a clean record of the Vault. -/
theorem auditorCommandsAct : Obligations.AuditorCommandsAct := by
  refine ⟨?_, ?_, ?_, ?_⟩
  · intro s m c found flips h
    refine congrArg Host.Outcome.next ?_
    unfold auditVisit
    obtain h | h | ⟨hm, h⟩ := h
    · exact if_pos (.inl (by rw [h]; rfl))
    · exact if_pos (.inr h)
    · have hvisit : visitVault c.val found s = s := by
        unfold visitVault
        obtain h | h := h
        · rw [h]
        · cases lapNext s c.val with
          | none => rfl
          | some x => exact if_neg (by rw [h]; decide)
      rw [if_pos hm, hvisit, ite_self]
  · intro s m c found hm hon hfree hmore hheld
    have hvisit : auditVisit m.val c.val found [] s = pageVisited m.val (lapBegin m.val s) := by
      unfold auditVisit
      rw [if_neg (by rw [hon]; simpa using hfree), if_neg hm, visitPage_clean hheld]
    rw [← lapBegin_visited] at hmore ⊢
    obtain ⟨hnext, hlap, hrest⟩ := pageVisited_more hmore _ rfl
    refine ⟨_, congrArg Host.Outcome.next hvisit, hnext, ?_, ?_⟩
    · rw [hlap]; exact lapBegin_runs ..
    · rw [hrest, lapBegin_frame]
  · intro s m hlimit hlong hnew
    refine ⟨_, congrArg Host.Outcome.next (if_pos ⟨hlimit, hlong, hnew⟩), ?_, ?_, ?_⟩
    · rw [emit_audit, cause_audit]
    · exact (flagOf_emit_ne _ _ _ _ _ _ (by decide) (by decide)).trans (flagOf_cause_same _ _ _ (by omega))
    · rw [emit_frame, cause_frame]
  · intro s c flips rank u hon hnext hturn hmore hpoison hmerge
    obtain ⟨hrank, hhalf⟩ := lapNext_rank hnext
    have hbegin : lapBegin 0 s = { s with audit := (lapBegin 0 s).audit } := lapBegin_frame 0 s
    have hread : CellsStep (lapBegin 0 s) (auditRecord rank u .clean (lapBegin 0 s)) := by
      refine cellsStep_auditRecord ?_ ?_ <;> rw [hbegin]
      · exact hmerge
      · exact hpoison
    have hvault : (lapBegin 0 s).vault = s.vault := by rw [hbegin]
    obtain ⟨hmark, hsame, hdone⟩ := recordVisited_acts (s := auditRecord rank u .clean (lapBegin 0 s)) c.isLt
      (by rw [auditRanks_of_vault hread.vault, hvault]; exact hrank) hhalf (by rw [rankRecords_of_vault hread.vault, hvault]; exact hmore) _ rfl
    have hvisit : auditVisit 0 c.val .clean flips s = recordVisited rank u (auditRecord rank u .clean (lapBegin 0 s)) := by
      unfold auditVisit
      rw [if_neg (by rw [hon]; simp), if_pos rfl, visitVault, hnext]
      exact if_pos hturn
    refine ⟨_, congrArg Host.Outcome.next hvisit, hmark, fun r v => ?_, ?_⟩
    · rw [peekCell_of_vault hsame, hread.peekCell, peekCell_of_vault hvault]
    · rw [hdone, hread.rest, hbegin]

end Sys2Proof.Machine
end


section
/-!
PROOFS. The Sieve's write port and its engine (R80, R82, R469).
-/
namespace Sys2Proof.Machine

/-! ### Offers -/

/-- WR_CMD is none of the staging registers. -/
theorem stagedEntry_command (v : Word32) (s : State) : stagedEntry (regStore (Reg.SIEVE_WR_CMD 0) v s) = stagedEntry s := by
  have hdata (n : Nat) : regRead (regStore (Reg.SIEVE_WR_CMD 0) v s) (Reg.SIEVE_WR_DATA 0 n) = regRead s (Reg.SIEVE_WR_DATA 0 n) :=
    regRead_store_ne _ _ _ _ (by simp only [Reg.SIEVE_WR_CMD, Reg.SIEVE_WR_DATA]; omega)
  unfold stagedEntry
  simp only [hdata]

theorem sieveOffer_idle {s : State} (h : s.sieve.op = none) (j : SieveJob) : ∃ a, (sieveOffer j s).sieve.op = some (j, a) := by
  unfold sieveOffer
  rw [if_pos (by rw [h]; rfl)]
  exact ⟨_, rfl⟩

theorem sieveOffer_queues {s : State} (h : s.sieve.op ≠ none) (j : SieveJob) :
    sieveOffer j s = { s with sieve := { s.sieve with queue := s.sieve.queue ++ [j] } } := by
  unfold sieveOffer
  rw [if_neg (by rwa [Option.isNone_iff_eq_none])]

theorem sieveCommand_free {s : State} {v : Word32} (hbusy : sieveBusy s = false) (hop : bits v.toNat 3 0 ≠ 0) :
    sieveCommand v s = sieveOffer (portJob (bits v.toNat 3 0) v s) (regStore (Reg.SIEVE_WR_CMD 0) (BitVec.ofNat 32 (bits v.toNat 29 8 * 2 ^ 8)) s) := by
  unfold sieveCommand portJob
  rw [if_neg (by rw [hbusy]; decide), ← stagedEntry_command]
  exact if_neg hop

/-- The rows of Table 4.7 are one command with their OP. -/
theorem exec_sieveRow {v : Word32} {c : Instr} {k : Nat} (hc : (c, k) ∈ [(.sieveWrite v, 1), (.sieveInsert v, 2), (.sieveFind v, 3),
    (.sieveInvalidate v, 4), (.sieveSetEm v, 5), (.sieveRead v, 6)]) (hk : bits v.toNat 3 0 = k) {s : State} (hopen : barOpen s = true) :
    k ≠ 0 ∧ exec c s = .next (sieveCommand v s) := by
  have hrow : gated (sieveRow k v) s = sieveCommand v s := (gated_open hopen _).trans (if_pos hk)
  simp only [List.mem_cons, Prod.mk.injEq, List.not_mem_nil, or_false] at hc
  obtain ⟨rfl, rfl⟩ | ⟨rfl, rfl⟩ | ⟨rfl, rfl⟩ | ⟨rfl, rfl⟩ | ⟨rfl, rfl⟩ | ⟨rfl, rfl⟩ := hc
  all_goals exact ⟨by decide, congrArg Host.Outcome.next hrow⟩

/-! ### Completion -/

/-- Result, time and DONE of the port's operation. -/
def reportDone (a : SieveAnswer) (s : State) : State :=
  s |> regStore (Reg.SIEVE_WR_STATUS 0) (BitVec.ofNat 32 (a.index * 2 ^ 8 + a.result))
    |> stamp (Reg.SIEVE_WR_DONE_SEC 0) (Reg.SIEVE_WR_DONE_NS 0) |> cause (Reg.SIEVE_IRQ_CAUSE 0) 0

theorem reportDone_sieve (a : SieveAnswer) (s : State) : (reportDone a s).sieve = s.sieve := by
  rw [reportDone, cause_sieve, stamp_sieve, regStore_sieve]

theorem reportDone_status (a : SieveAnswer) (s : State) :
    regRead (reportDone a s) (Reg.SIEVE_WR_STATUS 0) = BitVec.ofNat 32 (a.index * 2 ^ 8 + a.result) := by
  rw [reportDone, regRead_cause_ne _ _ _ _ (by decide), stamp, stampAt, regRead_store_ne _ _ _ _ (by decide), regRead_store_ne _ _ _ _ (by decide),
    regRead_store_same]

theorem sieveReport_plain {a : SieveAnswer} (hread : a.read = none) (s : State) :
    sieveReport a s = if a.result = 0 then reportDone a s else cause (Reg.SIEVE_IRQ_CAUSE 0) 1 (reportDone a s) := by
  unfold sieveReport reportDone
  simp only [hread]

/-- The completion of the port's operation without READ's data. -/
theorem sieveReport_acts {a : SieveAnswer} (hread : a.read = none) (s t : State) (ht : t = sieveReport a s) :
    t.sieve = s.sieve ∧ regRead t (Reg.SIEVE_WR_STATUS 0) = BitVec.ofNat 32 (a.index * 2 ^ 8 + a.result) ∧
      flagOf t (Reg.SIEVE_IRQ_CAUSE 0) 0 = true ∧ (a.result ≠ 0 → flagOf t (Reg.SIEVE_IRQ_CAUSE 0) 1 = true) := by
  have hdone : flagOf (reportDone a s) (Reg.SIEVE_IRQ_CAUSE 0) 0 = true := flagOf_cause_same _ _ _ (by omega)
  rw [sieveReport_plain hread] at ht
  subst ht
  by_cases hok : a.result = 0
  · rw [if_pos hok]
    exact ⟨reportDone_sieve a s, reportDone_status a s, hdone, fun h => absurd hok h⟩
  · rw [if_neg hok]
    refine ⟨?_, ?_, flagOf_cause_mono _ _ _ _ _ hdone, fun _ => flagOf_cause_same _ _ _ (by omega)⟩
    · rw [cause_sieve, reportDone_sieve]
    · rw [regRead_cause_ne _ _ _ _ (by decide), reportDone_status]

theorem sieveOpDone_port {s : State} {j : SieveJob} {a : SieveAnswer} (hop : s.sieve.op = some (j, a)) (hqueue : s.sieve.queue = [])
    (huser : j.user = .port) (hread : a.read = none) : sieveOpDone s = sieveReport a { s with sieve := { s.sieve with op := none } } := by
  have hnone : (sieveReport a { s with sieve := { s.sieve with op := none } }).sieve.queue = [] :=
    (congrArg Sieve.queue (sieveReport_acts hread { s with sieve := { s.sieve with op := none } } _ rfl).1).trans hqueue
  unfold sieveOpDone
  simp only [hop, huser]
  split
  case h_1 => rfl
  case h_2 h => exact absurd (hnone.symm.trans h) (List.cons_ne_nil _ _).symm

/-- Settles O16: the six rows are one command; the port's completion; an entry of a batch. -/
theorem classificationTableCommandsAct : Obligations.ClassificationTableCommandsAct := by
  refine ⟨?_, ?_, ?_, ?_⟩
  · intro s v c k hc hk hopen hbusy
    obtain ⟨hne, hexec⟩ := exec_sieveRow hc hk hopen
    subst hk
    rw [sieveCommand_free hbusy hne] at hexec
    refine ⟨_, hexec, fun hidle => sieveOffer_idle (s := regStore _ _ s) hidle _, fun hruns => ?_⟩
    rw [sieveOffer_queues (s := regStore _ _ s) hruns]
    rfl
  · intro s v c k hc hk hopen hbusy
    exact (exec_sieveRow hc hk hopen).2.trans (congrArg Host.Outcome.next (if_pos hbusy))
  · intro s j a hop hqueue huser hread
    exact ⟨_, congrArg Host.Outcome.next (sieveOpDone_port (s := freshOut s) hop hqueue huser hread), sieveReport_acts hread _ _ rfl⟩
  · intro s n x hup hentry hidle
    have hbatch : batchSieve n.val s = sieveOffer ⟨.batch n.val, bits x.arg 3 0, bits x.arg 25 8, bits x.arg 27 26, bits x.arg 29 28,
        BitVec.ofNat 768 (leNat (slice (x.rest.take x.len) 8 96))⟩ (s.modRing n.val fun r => { r with batch := some { x with sieveBusy := true } }) := by
      unfold batchSieve
      rw [hentry]
    refine ⟨_, congrArg Host.Outcome.next ((if_pos hup).trans hbatch), sieveOffer_idle ?_ _⟩
    exact hidle

end Sys2Proof.Machine
end


section
/-!
PROOFS. The Accord epochs and the entries of a batch that swap and wait (R87, R88, R469).
-/
namespace Sys2Proof.Machine

theorem accord_of_control {s t : State} (h : t.control = s.control) : t.accord = s.accord := by
  simp only [State.control, Prod.mk.injEq] at h
  obtain ⟨-, -, -, -, -, haccord, -⟩ := h
  exact haccord

theorem swapBatch_control (s : State) : (swapBatch s).control = s.control := by
  unfold swapBatch
  split
  · rw [apply_ite State.control, finishEntry_control, ite_self]
  · rfl

theorem drainedBatch_control (s : State) : (drainedBatch s).control = s.control := by
  unfold drainedBatch
  split
  · rw [apply_ite State.control, finishEntry_control, ite_self]
  · rfl

/-! ### Swaps -/

/-- The first whole microsecond at least 2 µs away (R87). -/
def swapTime (s : State) : Nat := ((s.time.net + 2 ^ 32 - 1) / 2 ^ 32 + 2000 + 999) / 1000 * 1000

/-- A swap has been taken. -/
def swapTaken (s : State) : State := { s with accord := { s.accord with drained := false, swapAt := some (swapTime s), told := false } }

theorem swapTaken_ringAt (n : Nat) (s : State) : (swapTaken s).ringAt n = s.ringAt n := rfl

theorem accordSwap_drained {s : State} (h : s.accord.drained = true) : accordSwap s = swapTaken s := by
  unfold accordSwap swapTaken swapTime
  rw [if_pos h]

theorem accordSwap_refused {s : State} (h : s.accord.drained = false) : accordSwap s = cause (Reg.SIEVE_IRQ_CAUSE 0) 4 s := by
  unfold accordSwap
  rw [if_neg (by rw [h]; decide)]

theorem accordTSwap_accord {s : State} {x : Nat} (h : s.accord.swapAt = some x) (hdue : x ≤ s.time.net / 2 ^ 32) :
    (accordTSwap s).accord = { s.accord with gen := (s.accord.gen + 1) % 65536, swapAt := none, lastSwap := x } := by
  unfold accordTSwap
  simp only [h]
  rw [if_neg (Nat.not_lt.2 hdue), accord_of_control (swapBatch_control _), accord_of_control (emit_control ..),
    accord_of_control (stampAt_control ..)]

theorem accordDrained_accord {s : State} (h : oldDrained s = true) : (accordDrained s).accord = { s.accord with drained := true } := by
  unfold accordDrained
  rw [if_pos h, accord_of_control (drainedBatch_control _), accord_of_control (emit_control ..), accord_of_control (cause_control ..),
    accord_of_control (stamp_control ..)]

/-! ### Entries of a batch -/

theorem batchSwap_drained {s : State} {n : Nat} {x : Batch} (hentry : entryInHand s n 3 = some x) (h : s.accord.drained = true) :
    batchSwap n s = swapTaken (s.modRing n fun r => { r with batch := some { x with swapBusy := true } }) := by
  unfold batchSwap
  simp only [hentry]
  rw [if_pos h, accordSwap_drained (s := s.modRing n _) h]

theorem batchSwap_refused {s : State} {n : Nat} {x : Batch} (hentry : entryInHand s n 3 = some x) (h : s.accord.drained = false) :
    batchSwap n s = finishEntry n 5 0 (cause (Reg.SIEVE_IRQ_CAUSE 0) 4 s) := by
  unfold batchSwap
  simp only [hentry]
  rw [if_neg (by rw [h]; decide), accordSwap_refused h]

theorem batchWait_drained {s : State} {n : Nat} {x : Batch} (hentry : entryInHand s n 4 = some x) (h : s.accord.drained = true) :
    batchWait n s = finishEntry n 0 0 s := by
  unfold batchWait
  simp only [hentry]
  rw [if_pos h]

theorem batchWait_waits {s : State} {n : Nat} {x : Batch} (hentry : entryInHand s n 4 = some x) (h : s.accord.drained = false) :
    ((batchWait n s).ringAt n).batch = some { x with waitUntil := some (s.time.tick + us (max 1 x.arg)) } := by
  unfold batchWait
  simp only [hentry]
  rw [if_neg (by rw [h]; decide), State.ringAt_modRing_same]

/-- Settles O17: swaps and drains by what they leave of the epochs, entries of a batch by the same swap and by the entry's end. -/
theorem epochCommandsAct : Obligations.EpochCommandsAct := by
  refine ⟨?_, ?_, ?_, ?_, ?_, ?_, ?_⟩
  · intro s hopen
    exact ⟨_, congrArg Host.Outcome.next (gated_open hopen _), accordSwap_drained, accordSwap_refused⟩
  · intro s hdrained hswap htold hlong
    refine congrArg Host.Outcome.next (if_pos ?_)
    rw [hdrained, hswap, htold, decide_eq_true hlong]
    rfl
  · intro s x hswap hdue
    exact ⟨_, rfl, accordTSwap_accord (s := freshOut s) hswap hdue⟩
  · intro s hold
    exact ⟨_, rfl, accordDrained_accord (s := freshOut s) hold⟩
  · intro s n x hup hentry
    refine ⟨_, congrArg Host.Outcome.next (if_pos hup), fun hdrained => ?_, fun hdrained => ?_⟩
    · rw [batchSwap_drained (s := freshOut s) hentry hdrained]
      refine ⟨rfl, rfl, ?_⟩
      rw [swapTaken_ringAt, State.ringAt_modRing_same]
    · rw [batchSwap_refused (s := freshOut s) hentry hdrained]
      exact ⟨accord_of_control ((finishEntry_control ..).trans (cause_control ..)), rfl⟩
  · intro s n x hup hentry
    exact ⟨_, congrArg Host.Outcome.next (if_pos hup), batchWait_drained (s := freshOut s) hentry, batchWait_waits (s := freshOut s) hentry⟩
  · intro s n x d hup hbatch hwait hdue
    refine congrArg Host.Outcome.next ((if_pos hup).trans ?_)
    have hring : ((freshOut s).ringAt n.val).batch = some x := hbatch
    unfold batchTimeout
    simp only [hring, hwait]
    exact if_pos hdue

end Sys2Proof.Machine
end


section
/-!
PROOFS. The JTAG instructions (R448, R491).
-/
namespace Sys2Proof.Machine

theorem tap_low (f : State → State) (s : State) :
    tap false f s = { s with pins := { s.pins with trstLow := true, jtagIr := IR_IDCODE, jtagDrive := false } } := rfl

/-- The TAP with TRST_N high. -/
def tapHigh (s : State) : State := { s with pins := { s.pins with trstLow := false } }

/-- What the boundary-scan register captures takes one free value for each bit. -/
theorem captured_free (n : Nat) (s : State) : (captured n s).2 = { s with free := s.free + n } := by
  induction n generalizing s with
  | zero => rfl
  | succ n ih =>
    have hstep : (captured (n + 1) s).2 = (captured n (takeFree s).2).2 := rfl
    have hfree : (takeFree s).2 = { s with free := s.free + 1 } := rfl
    rw [hstep, ih, hfree]
    simp only [Nat.add_assoc, Nat.add_comm 1 n]

theorem scanBits_acts (ir : Nat) (drive : Bool) (bs : List Bool) (s t : State) (ht : t = scanBits ir drive bs s) :
    t.pins.jtagScan = bs ∧ t.pins.jtagIr = ir ∧ t.pins.jtagDrive = drive ∧ t = { s with pins := t.pins, free := s.free + bs.length } := by
  have hcapture := captured_free bs.length s
  unfold scanBits at ht
  subst ht
  refine ⟨rfl, rfl, rfl, ?_⟩
  simp only [jtagLoad, hcapture]

/-- What the host channel reads as does not depend on the pins. -/
theorem secRead_pins (p : Pins) (s : State) (off : Nat) : secRead { s with pins := p } off = secRead s off := by
  unfold secRead
  rfl

theorem jtagMbox_open {s : State} {off : Nat} (hreg : mboxReg off = true) (hdom : domOn s 29 = true) (w : Option Word32) :
    jtagMbox off w s = match w with
      | some v => secWrite off v (jtagLoad IR_MBOX false 0 s)
      | none => jtagLoad IR_MBOX false (secRead (jtagLoad IR_MBOX false 0 s) off).toNat s := by
  have hdom' : domOn (jtagLoad IR_MBOX false 0 s) 29 = true := hdom
  unfold jtagMbox
  simp only
  rw [if_neg (by rw [hreg, hdom']; decide)]
  cases w <;> rfl

/-- Settles O20: the TAP at its reset, the scans, the mailbox register and the debug instructions. -/
theorem jtagCommandsAct : Obligations.JtagCommandsAct := by
  refine ⟨?_, ?_, ?_, ?_, ?_, ?_, ?_⟩
  · intro s bs off w code c hc
    simp only [List.mem_cons, List.not_mem_nil, or_false] at hc
    obtain rfl | rfl | rfl | rfl | rfl | rfl := hc
    all_goals exact ⟨_, congrArg Host.Outcome.next (tap_low _ s), rfl⟩
  · intro s bs
    exact ⟨_, congrArg Host.Outcome.next (tap_high _ s), rfl, rfl, rfl, rfl⟩
  · intro s bs
    exact ⟨_, congrArg Host.Outcome.next (tap_high _ s), scanBits_acts IR_SAMPLE false bs (tapHigh s) _ rfl⟩
  · intro s bs
    exact ⟨_, congrArg Host.Outcome.next (tap_high _ s), scanBits_acts IR_EXTEST true bs (tapHigh s) _ rfl⟩
  · intro s off w hreg hdom
    refine ⟨_, congrArg Host.Outcome.next ((tap_high _ s).trans (jtagMbox_open (s := tapHigh s) hreg hdom w)), ?_, ?_⟩
    · rintro rfl
      exact congrArg BitVec.toNat ((secRead_pins _ s off).trans (secRead_pins _ s off).symm)
    · rintro v rfl
      exact ⟨_, rfl, rfl, rfl, rfl⟩
  · intro s code hclosed
    refine ⟨_, if_neg (by rw [hclosed]; decide), rfl⟩
  · intro s code hopen
    exact if_pos (by rw [hopen]; rfl)

end Sys2Proof.Machine
end


section
/-!
PROOFS. The rows of plain words that write G[BD] beside ALU-B (R165, R169 to R173), the sequencer's rows within a routine (R161), and
the verdicts (R171).
-/
namespace Sys2Proof.Machine

/-! ### Results in G[BD] -/

section
variable {s : State} {b t : Nat} {x : Teller} {w : MicroWord}

theorem mem_wordResults_hop (h : mwHop w ≠ 0) : (mwBd w, hashOp s x w) ∈ wordResults s b t x w := by simp [wordResults, h]

theorem mem_wordResults_cop (h : 3 ≤ mwCop w) : (mwBd w, counterResult s b t w) ∈ wordResults s b t x w := by simp [wordResults, h]

theorem mem_wordResults_top (h : mwTop w ≠ 0) : (mwBd w, timeResult s b x w) ∈ wordResults s b t x w := by simp [wordResults, h]

theorem mem_wordResults_fop {v : Word64} (h : mwFop w = 1) (hv : v = match winWay s b x with | some y => wordAt y.rc (mwFidx w) | none => 0) :
    (mwBd w, v) ∈ wordResults s b t x w := by
  subst hv
  unfold wordResults
  dsimp only
  rw [h]
  exact List.mem_append_left _ (List.mem_append_left _ (List.mem_append_left _ (List.mem_append_left _ (List.mem_append_left _
    (List.mem_append_right _ (List.mem_singleton.2 rfl))))))

theorem mem_wordResults_qop (h : mwQop w = 1 ∨ mwQop w = 2 ∨ mwQop w = 0xB) : (mwBd w, packetResult s x w) ∈ wordResults s b t x w := by
  obtain h | h | h := h <;> simp [wordResults, h]

end

section
variable {s : State} {t : Nat} {c : Instr} (go : wordGoes s t = true) (plain : plainUnits (theWord s t) = true)
include go plain

/-- The row of an operation whose result goes to G[BD]: field u of the word holds k. -/
theorem portBDone_of_result {u : MicroWord → Nat} {k : Nat} {f : Word64 → Word64 → Word64} {v : Word64} (hop : u (theWord s t) = k)
    (hmem : (mwBd (theWord s t), v) ∈ wordResults s (t / 32) t (s.tellerAt t) (theWord s t))
    (hc : exec c s = .next (wordRow (u · == k) t .clean s))
    (hf : v = f (srcB (s.tellerAt t) (theWord s t)) (gReg (s.tellerAt t) (mwBd (theWord s t)))) : portBDone c s t f := by
  refine answers_of_wordGoes go plain hc (beq_iff_eq.2 hop) ⟨?_, wordFrame_execWord plain _⟩
  rw [← hf]
  exact gReg_execWord_of_mem plain (t / 32) t s (regWrites_nodup_of_wordGoes go) (mwBd_lt _) hmem

/-- The row of a hash operation. -/
theorem portBDone_of_mwHop {f : Word64 → Word64 → Word64} {k : Nat} (hop : mwHop (theWord s t) = k)
    (hc : exec c s = .next (wordRow (mwHop · == k) t .clean s)) (hk : k ≠ 0 := by decide)
    (hf : hashOp s (s.tellerAt t) (theWord s t) = f (srcB (s.tellerAt t) (theWord s t)) (gReg (s.tellerAt t) (mwBd (theWord s t)))) :
    portBDone c s t f :=
  portBDone_of_result go plain hop (mem_wordResults_hop (hop ▸ hk)) hc hf

/-- The row of a counter operation with a result. -/
theorem portBDone_of_mwCop {f : Word64 → Word64 → Word64} {k : Nat} (hop : mwCop (theWord s t) = k)
    (hc : exec c s = .next (wordRow (mwCop · == k) t .clean s)) (hk : 3 ≤ k := by decide)
    (hf : counterResult s (t / 32) t (theWord s t) = f (srcB (s.tellerAt t) (theWord s t)) (gReg (s.tellerAt t) (mwBd (theWord s t)))) :
    portBDone c s t f :=
  portBDone_of_result go plain hop (mem_wordResults_cop (hop ▸ hk)) hc hf

/-- The row of a time operation. -/
theorem portBDone_of_mwTop {f : Word64 → Word64 → Word64} {k : Nat} (hop : mwTop (theWord s t) = k)
    (hc : exec c s = .next (wordRow (mwTop · == k) t .clean s)) (hk : k ≠ 0 := by decide)
    (hf : timeResult s (t / 32) (s.tellerAt t) (theWord s t) =
      f (srcB (s.tellerAt t) (theWord s t)) (gReg (s.tellerAt t) (mwBd (theWord s t)))) :
    portBDone c s t f :=
  portBDone_of_result go plain hop (mem_wordResults_top (hop ▸ hk)) hc hf

/-- The row of a packet operation with a result. -/
theorem portBDone_of_mwQop {f : Word64 → Word64 → Word64} {k : Nat} (hop : mwQop (theWord s t) = k)
    (hc : exec c s = .next (wordRow (mwQop · == k) t .clean s)) (hk : k = 1 ∨ k = 2 ∨ k = 0xB := by decide)
    (hf : packetResult s (s.tellerAt t) (theWord s t) = f (srcB (s.tellerAt t) (theWord s t)) (gReg (s.tellerAt t) (mwBd (theWord s t)))) :
    portBDone c s t f :=
  portBDone_of_result go plain hop (mem_wordResults_qop (hop ▸ hk)) hc hf

end

/-- Settles O52: every clause speaks of the row of a plain word whose operation has its result in G[BD]: first the hash operations,
then the counter, time, record and packet reads. -/
theorem hashCounterAndTimeOperationsCompute : Obligations.HashCounterAndTimeOperationsCompute := by
  unfold Obligations.HashCounterAndTimeOperationsCompute
  and_intros <;> intro s t go plain hop
  iterate 6 exact portBDone_of_mwHop go plain hop rfl (hf := by simp only [hashOp, hop])
  iterate 4 exact portBDone_of_mwCop go plain hop rfl (hf := by simp only [counterResult, hop])
  iterate 6 exact portBDone_of_mwTop go plain hop rfl (hf := by rw [timeResult, hop] <;> rfl)
  · exact portBDone_of_result go plain hop (mem_wordResults_fop hop rfl) rfl rfl
  iterate 3 exact portBDone_of_mwQop go plain hop rfl (hf := by simp only [packetResult, hop]; cases (s.tellerAt t).ctx.desc <;> rfl)

end Sys2Proof.Machine
end


section
/-!
PROOFS. Beside the results of a plain word: where its sequencer leads (R161), the verdict that it records (R171), the memory operation
that it issues (R159, R167, R168), and how FENCE and HOLD act (R160, R177).
-/
namespace Sys2Proof.Machine

/-! ### A plain word, unit by unit -/

/-- The state in which the memory, packet and counter units of a plain word leave s, before its results are written. -/
def plainEffects (b t : Nat) (x : Teller) (w : MicroWord) (s : State) : State :=
  copEffect t x w ((mopEffect b t x w s).modTeller t fun y => { y with ctx := { y.ctx with verdict := nextVerdict x w } })

theorem execWord_eq_of_plainUnits {w : MicroWord} (h : plainUnits w = true) (b t : Nat) (s : State) :
    execWord b t w s = seqEffect b t (s.tellerAt t) w (condition s b (s.tellerAt t) w)
      (commit b t (s.tellerAt t) w (wordResults s b t (s.tellerAt t) w) none s (plainEffects b t (s.tellerAt t) w s)) := by
  obtain ⟨hf, hq, hx, -⟩ := (plainUnits_iff w).1 h
  have hf8 : mwFop w ≠ 8 := by omega
  have hq10 : mwQop w ≠ 0xA := by simp only [List.mem_cons] at hq; tauto
  simp only [execWord, hf8, hq10, hx, if_false, fopEffect_of_plainUnits h, qopEffect_of_plainUnits h, xopEffect_of_plainUnits h,
    plainEffects]
  rfl

/-- What the memory unit changes of its Teller. -/
def Teller.issues (y : Teller) := (y.mem, y.nextMem, y.frames, y.ctx.kv)

/-- What the memory unit leaves of its Teller, beside its registers. -/
def Teller.course (y : Teller) := (y.pc, y.stack, y.lc, y.ctx.steps)

theorem tellerAt_of_tellers {s u : State} (h : u.tellers = s.tellers) (t : Nat) : u.tellerAt t = s.tellerAt t := by
  unfold State.tellerAt
  rw [h]

theorem tellerAt_of_regs {s u : State} (h : u = { s with regs := u.regs }) (t : Nat) : u.tellerAt t = s.tellerAt t :=
  tellerAt_of_tellers (by rw [h]) t

theorem sieveLookup_regs (b : Nat) (kv : KeyVec) (tpl gen : Nat) (s : State) :
    (sieveLookup b kv tpl gen s).2.2 = { s with regs := (sieveLookup b kv tpl gen s).2.2.regs } := by
  unfold sieveLookup
  dsimp only
  split
  · dsimp only
    split
    · rw [bump_frame, bump_frame (Reg.SIEVE_LOOKUP_CNT b)]
    · exact bump_frame ..
  · dsimp only
    rw [bump_frame, bump_frame (Reg.SIEVE_LOOKUP_CNT b)]

theorem copEffect_regs (t : Nat) (x : Teller) (w : MicroWord) (s : State) :
    copEffect t x w s = { s with regs := (copEffect t x w s).regs } := by
  unfold copEffect
  dsimp only
  split
  case h_4 => rfl
  all_goals exact setPair_frame ..

theorem localStore_course (t : Nat) (x : Teller) (w : MicroWord) (s : State) :
    ((localStore t x w s).tellerAt t).course = (s.tellerAt t).course := by
  unfold localStore
  dsimp only
  split_ifs
  · rfl
  · rw [State.tellerAt_modTeller_same]; rfl
  · rw [State.tellerAt_modTeller_same]; split <;> rfl
  · rfl

theorem queueOp_course (t : Nat) (m : MemOp) (s : State) : ((queueOp t m s).tellerAt t).course = (s.tellerAt t).course := by
  rw [queueOp, State.tellerAt_modTeller_same]
  rfl

theorem mopEffect_course (b t : Nat) (x : Teller) (w : MicroWord) (s : State) :
    ((mopEffect b t x w s).tellerAt t).course = (s.tellerAt t).course := by
  unfold mopEffect
  dsimp only
  split
  · rfl
  · split
    · rw [tellerAt_of_regs (perf_frame ..), queueOp_course]
    · rw [tellerAt_of_regs (perf_frame ..), queueOp_course]
    · rw [← queueOp_course t (opOf x w) s, ← tellerAt_of_regs (perf_frame (uDesk (deskOf t)) 0x08 (queueOp t (opOf x w) s))]; rfl
    · rw [queueOp_course, tellerAt_of_regs (sieveLookup_regs ..)]
    · exact localStore_course ..

section
variable (b t : Nat) (x : Teller) (w : MicroWord) (s : State)

theorem plainEffects_tellerAt : (plainEffects b t x w s).tellerAt t =
    { (mopEffect b t x w s).tellerAt t with ctx := { ((mopEffect b t x w s).tellerAt t).ctx with verdict := nextVerdict x w } } := by
  rw [plainEffects, tellerAt_of_regs (copEffect_regs ..), State.tellerAt_modTeller_same]

theorem plainEffects_coffer : (plainEffects b t x w s).coffer = (mopEffect b t x w s).coffer := by
  rw [plainEffects, copEffect_regs]
  rfl

/-- The end of a step counts it, and puts the HOLD span on (R156, R177). -/
theorem commit_acts (res : List (Nat × Word64)) (sv : Option Bool) (s0 u : State) (hu : u = commit b t x w res sv s0 s) :
    (u.tellerAt t).pc = (s.tellerAt t).pc ∧ (u.tellerAt t).stack = (s.tellerAt t).stack ∧ (u.tellerAt t).lc = (s.tellerAt t).lc ∧
    (u.tellerAt t).ctx = { (s.tellerAt t).ctx with steps := (s.tellerAt t).ctx.steps + 1 } ∧
    (u.tellerAt t).issues = (s.tellerAt t).issues ∧ (u.tellerAt t).hold = (holdAfter x w).1 ∧ (u.tellerAt t).full = (holdAfter x w).2.1 ∧
    u.coffer = s.coffer := by
  subst hu
  have hcount : ∀ v, v = (s |> bump64 (Reg.TELL_STEP_CNT_LO (deskOf t)) 1 |> perf (uDesk (deskOf t)) 0x01) →
      v = { s with regs := v.regs } := by
    rintro v rfl
    rw [perf_frame, bump64_frame]
  unfold commit
  generalize aluResult s0 b x w = r
  obtain ⟨d, c⟩ := r
  dsimp only
  generalize aluFlags (mwAop w) d c x = f
  obtain ⟨z, n, c⟩ := f
  generalize holdAfter x w = k
  obtain ⟨hold, full, extra⟩ := k
  dsimp only
  generalize hv : perf (uDesk (deskOf t)) 0x01 (bump64 (Reg.TELL_STEP_CNT_LO (deskOf t)) 1 s) = v
  have hv := hcount v hv.symm
  generalize hy : (if extra = true then cause (Reg.TELL_IRQ_CAUSE (deskOf t)) 2 (bump (Reg.TELL_HOLD_OVR_CNT (deskOf t)) v) else v) = y
  have hy : y = { s with regs := y.regs } := by
    rw [← hy]
    split
    · rw [cause_frame, bump_frame, hv]
    · exact hv
  have hcoffer : y.coffer = s.coffer := by rw [hy]
  simp only [State.tellerAt_modTeller_same, tellerAt_of_regs hy, State.modTeller_coffer, Teller.issues, hcoffer, and_self]

end

/-- The sequencer of a plain word changes PC, stack and loop counter alone. -/
theorem seqEffect_acts {w : MicroWord} (h : plainUnits w = true) (b t : Nat) (x : Teller) (cond : Bool) (s u : State)
    (hu : u = seqEffect b t x w cond s) :
    (u.tellerAt t).ctx = (s.tellerAt t).ctx ∧ (u.tellerAt t).issues = (s.tellerAt t).issues ∧ (u.tellerAt t).hold = (s.tellerAt t).hold ∧
    (u.tellerAt t).full = (s.tellerAt t).full ∧ u.coffer = s.coffer := by
  obtain ⟨-, -, -, hseq⟩ := (plainUnits_iff w).1 h
  subst hu
  unfold seqEffect
  dsimp only
  split
  case h_13 | h_14 | h_15 => omega
  case h_16 => simp only [imp_false] at *; omega
  case h_6 | h_8 | h_9 => split <;> simp [Teller.issues]
  all_goals simp [Teller.issues]

/-! ### A plain word as a whole -/

section
variable {w : MicroWord} (h : plainUnits w = true) (b t : Nat) (s u : State) (hu : u = execWord b t w s)
include h hu

/-- A plain word records its verdict and counts as a step; its HOLD state and what its memory unit makes stand. -/
theorem execWord_acts : (u.tellerAt t).ctx.verdict = nextVerdict (s.tellerAt t) w ∧
    (u.tellerAt t).ctx.steps = (s.tellerAt t).ctx.steps + 1 ∧
    (u.tellerAt t).hold = (holdAfter (s.tellerAt t) w).1 ∧ (u.tellerAt t).full = (holdAfter (s.tellerAt t) w).2.1 ∧
    (u.tellerAt t).issues = ((mopEffect b t (s.tellerAt t) w s).tellerAt t).issues ∧
    u.coffer = (mopEffect b t (s.tellerAt t) w s).coffer := by
  rw [execWord_eq_of_plainUnits h] at hu
  obtain ⟨hctx, hissues, hhold, hfull, hcoffer⟩ := seqEffect_acts h b t _ _ _ u hu
  obtain ⟨-, -, -, kctx, kissues, khold, kfull, kcoffer⟩ := commit_acts b t (s.tellerAt t) w (plainEffects b t (s.tellerAt t) w s)
    (wordResults s b t (s.tellerAt t) w) none s _ rfl
  have hcourse := mopEffect_course b t (s.tellerAt t) w s
  simp only [Teller.course, Prod.mk.injEq] at hcourse
  obtain ⟨-, -, -, hsteps⟩ := hcourse
  rw [plainEffects_tellerAt] at kctx kissues
  rw [hctx, hhold, hfull, hissues, hcoffer, kctx, khold, kfull, kissues, kcoffer, plainEffects_coffer]
  exact ⟨rfl, congrArg (· + 1) hsteps, rfl, rfl, rfl, rfl⟩

/-- The sequencer acts on the PC, stack and loop counter that the Teller had before the word. -/
theorem execWord_seq : ∃ m, u = seqEffect b t (s.tellerAt t) w (condition s b (s.tellerAt t) w) m ∧
    (m.tellerAt t).pc = (s.tellerAt t).pc ∧ (m.tellerAt t).stack = (s.tellerAt t).stack ∧ (m.tellerAt t).lc = (s.tellerAt t).lc := by
  rw [execWord_eq_of_plainUnits h] at hu
  obtain ⟨kpc, kstack, klc, -⟩ := commit_acts b t (s.tellerAt t) w (plainEffects b t (s.tellerAt t) w s)
    (wordResults s b t (s.tellerAt t) w) none s _ rfl
  have hcourse := mopEffect_course b t (s.tellerAt t) w s
  simp only [Teller.course, Prod.mk.injEq] at hcourse
  obtain ⟨hpc, hstack, hlc, -⟩ := hcourse
  rw [plainEffects_tellerAt] at kpc kstack klc
  exact ⟨_, hu, kpc.trans hpc, kstack.trans hstack, klc.trans hlc⟩

end

/-! ### The sequencer -/

section
variable {s : State} {t : Nat} {c : Instr} (go : wordGoes s t = true) (plain : plainUnits (theWord s t) = true)
include go plain

/-- The row of a SEQ operation that stays within the routine. -/
theorem seqDone_of_mwSeq {k pc lc : Nat} {stack : List Nat} (hop : mwSeq (theWord s t) = k)
    (hc : exec c s = .next (wordRow (mwSeq · == k) t .clean s))
    (hf : ∀ m, (m.tellerAt t).pc = (s.tellerAt t).pc → (m.tellerAt t).stack = (s.tellerAt t).stack →
      (m.tellerAt t).lc = (s.tellerAt t).lc → ∀ u,
      u = seqEffect (t / 32) t (s.tellerAt t) (theWord s t) (condition s (t / 32) (s.tellerAt t) (theWord s t)) m →
      (u.tellerAt t).pc = pc ∧ (u.tellerAt t).stack = stack ∧ (u.tellerAt t).lc = lc) : seqDone c s t pc stack lc := by
  refine answers_of_wordGoes go plain hc (beq_iff_eq.2 hop) ?_
  obtain ⟨m, hu, hpc, hstack, hlc⟩ := execWord_seq plain (t / 32) t s _ rfl
  obtain ⟨upc, ustack, ulc⟩ := hf m hpc hstack hlc _ hu
  exact ⟨upc, ustack, ulc, wordFrame_execWord plain _⟩

end

/-- Settles O54: every clause speaks of the row of a plain word, and `seqEffect` gives the line of Table 7.4 for its operation. -/
theorem sequencerOperationsLead : Obligations.SequencerOperationsLead := by
  unfold Obligations.SequencerOperationsLead
  and_intros <;> intro s t go plain hop <;> refine seqDone_of_mwSeq go plain hop rfl ?_ <;> rintro m hpc hstack hlc u rfl <;>
    simp only [seqEffect, hop]
  on_goal 9 =>
    split
    next h0 => simp only [State.tellerAt_modTeller_same, hstack, hlc, h0, and_self]
  on_goal 8 => split
  on_goal 6 => split
  all_goals simp only [State.tellerAt_modTeller_same, hstack, hlc, if_true, and_self, *]

end Sys2Proof.Machine
end


section
/-!
PROOFS. The rows of plain words that record a verdict (R171), FENCE and HOLD (R160, R177), and the memory operations that a plain word
issues (R159, R167, R168).
-/
namespace Sys2Proof.Machine

section
variable {s : State} {t : Nat} {c : Instr} (go : wordGoes s t = true) (plain : plainUnits (theWord s t) = true)
include go plain

/-- The row of a packet operation that records a verdict: a policed packet keeps its own. -/
theorem verdict_of_mwQop {k : Nat} {v : Verdict} (hop : mwQop (theWord s t) = k) (hc : exec c s = .next (wordRow (mwQop · == k) t .clean s))
    (hv : nextVerdict (s.tellerAt t) (theWord s t) = if (s.tellerAt t).ctx.verdict = some .policed then some .policed else some v) :
    Answers c s fun u =>
      (u.tellerAt t).ctx.verdict = (if (s.tellerAt t).ctx.verdict = some .policed then some .policed else some v) ∧ wordFrame s t u := by
  refine answers_of_wordGoes go plain hc (beq_iff_eq.2 hop) ⟨?_, wordFrame_execWord plain _⟩
  obtain ⟨hverdict, -⟩ := execWord_acts plain (t / 32) t s _ rfl
  rw [hverdict, hv]

end

/-- Settles O55: every clause speaks of the row of a plain word, and `nextVerdict` gives its line of Table 7.11. -/
theorem packetVerdictsAreKept : Obligations.PacketVerdictsAreKept := by
  unfold Obligations.PacketVerdictsAreKept
  and_intros <;> intro s t go plain hop <;> exact verdict_of_mwQop go plain hop rfl (by simp only [nextVerdict, hop])

/-! ### FENCE and HOLD -/

/-- A word passes the fence with nothing outstanding. -/
theorem idle_of_fenceGate {x : Teller} {w : MicroWord} (hf : mwFence w = true) (h : fenceGate x w = .go) : x.mem = [] ∧ x.ctx.scanBusy = false := by
  have hfences : fences w = true := by simp [fences, hf]
  unfold fenceGate at h
  rw [hfences, if_neg (by decide)] at h
  split at h
  case isTrue => cases h
  next hout =>
    split at h
    case h_1 => cases h
    next hmem => exact ⟨hmem, by simpa [opsOut, hmem] using hout⟩

theorem fenceGate_of_wordGate_go {s : State} {b t : Nat} {x : Teller} {w : MicroWord} (h : wordGate s b t x w = .go) :
    fenceGate x w = .go := by
  unfold wordGate at h
  split at h
  · cases h
  · split at h
    · split at h
      · assumption
      · exact h
    · next hpend => exact absurd h hpend

/-- A fenced word waits while something is outstanding (R160). -/
theorem wordGate_fence {s : State} {b t : Nat} {x : Teller} {w : MicroWord} (hf : mwFence w = true) (hd : fieldDetails w = [])
    (hpend : x.mem.find? (touchesOp w) = none) (hout : opsOut x = true) : wordGate s b t x w = .wait := by
  have hfences : fences w = true := by simp [fences, hf]
  have hgate : fenceGate x w = .wait := by rw [fenceGate, hfences, if_neg (by decide), if_pos hout]
  simp only [wordGate, hd, pendGate, hpend, hgate]

theorem holdAfter_of_notFull {x : Teller} {w : MicroWord} (hw : mwHold w = true) (hx : x.full = false) :
    (holdAfter x w).1 = (if x.hold = 0 then 15 else x.hold - 1) ∧ (holdAfter x w).2.1 = Decidable.decide (x.hold = 1) := by
  unfold holdAfter
  rw [hw, hx]
  by_cases h0 : x.hold = 0 <;> simp [h0]

/-- Settles O56: a fenced word that goes has passed `fenceGate`; one that may not go waits; and the HOLD span counts as `holdAfter`
says. -/
theorem fenceAndHoldWordsAct : Obligations.FenceAndHoldWordsAct := by
  unfold Obligations.FenceAndHoldWordsAct
  refine ⟨fun s t go plain hf => ?_, fun s t hf hrun htrap hbrk hd hpend hout => ?_, fun s t go plain hw hfull => ?_⟩
  · refine answers_of_wordGoes go plain rfl hf ?_
    obtain ⟨hmem, hscan⟩ := idle_of_fenceGate hf (fenceGate_of_wordGate_go (wordGate_of_wordGoes go))
    obtain ⟨-, hsteps, -⟩ := execWord_acts plain (t / 32) t s _ rfl
    exact ⟨hmem, hscan, hsteps, wordFrame_execWord plain _⟩
  · refine ⟨_, rfl, ?_⟩
    have hgate := wordGate_fence (s := s) (b := t.val / 32) (t := t.val) hf hd hpend hout
    rw [theWord] at hf htrap hgate
    rw [wordRow, if_pos hf]
    simp [wordStep, hrun, htrap, csEvent_clean, noPage, hbrk, hgate, waitWord]
  · refine answers_of_wordGoes go plain rfl hw ?_
    obtain ⟨-, -, hhold, hspan, -⟩ := execWord_acts plain (t / 32) t s _ rfl
    obtain ⟨kh, kf⟩ := holdAfter_of_notFull hw hfull
    exact ⟨hhold.trans kh, hspan.trans kf, wordFrame_execWord plain _⟩

/-! ### Memory operations -/

/-- The operation's place in the list and its number, with nothing else of the memory unit's own changed. -/
theorem queueOp_issues (t : Nat) (m : MemOp) (s : State) : ((queueOp t m s).tellerAt t).issues =
    ((s.tellerAt t).mem ++ [m], (s.tellerAt t).nextMem + 1, (s.tellerAt t).frames, (s.tellerAt t).ctx.kv) := by
  rw [queueOp, State.tellerAt_modTeller_same]
  rfl

section
variable (b t : Nat) (x : Teller) (w : MicroWord) (s : State) (hm : mwMop w ≠ 0)
include hm

theorem mopEffect_vault (hs : mwMsel w = 0 ∨ mwMsel w = 5) :
    mopEffect b t x w s = perf (uDesk (deskOf t)) 0x07 (queueOp t (opOf x w) s) := by
  have hm' : (opOf x w).mop ≠ 0 := hm
  have hs' : (opOf x w).msel = 0 ∨ (opOf x w).msel = 5 := hs
  obtain h | h := hs' <;> simp only [mopEffect, if_neg hm', h]

theorem mopEffect_coffer (hs : mwMsel w = 1) (u : State) (hu : u = mopEffect b t x w s) :
    u.tellers = (queueOp t (opOf x w) s).tellers ∧ u.coffer = { s.coffer with pending := s.coffer.pending ++
      (if isPair (opOf x w).mop then [⟨(opOf x w).addr / 8, t, (opOf x w).id, 0⟩, ⟨(opOf x w).addr / 8 + 1, t, (opOf x w).id, 1⟩]
        else [⟨(opOf x w).addr / 8, t, (opOf x w).id, 0⟩]) } := by
  have hm' : (opOf x w).mop ≠ 0 := hm
  have hs' : (opOf x w).msel = 1 := hs
  subst hu
  simp only [mopEffect, if_neg hm', hs', perf_coffer, perf_tellers]
  exact ⟨trivial, rfl⟩

theorem mopEffect_sieve (hs : mwMsel w = 2) (r : Word64 × Bool × State)
    (hr : r = sieveLookup b x.ctx.kv (wbits (opOf x w).arg 7 0) (wbits x.ctx.g0 31 16) s) :
    mopEffect b t x w s = queueOp t { opOf x w with lo := some r.1, stored := r.2.1 } r.2.2 ∧ r.2.2 = { s with regs := r.2.2.regs } := by
  have hm' : (opOf x w).mop ≠ 0 := hm
  have hs' : (opOf x w).msel = 2 := hs
  subst hr
  exact ⟨by simp only [mopEffect, if_neg hm', hs'], sieveLookup_regs ..⟩

theorem mopEffect_local (hs : mwMsel w = 3 ∨ mwMsel w = 4) : mopEffect b t x w s = localStore t x w s := by
  have hm' : (opOf x w).mop ≠ 0 := hm
  have hs' : (opOf x w).msel = 3 ∨ (opOf x w).msel = 4 := hs
  obtain h | h := hs' <;> simp only [mopEffect, if_neg hm', h]

end

section
variable {s : State} {t : Nat} {c : Instr} (go : wordGoes s t = true) (plain : plainUnits (theWord s t) = true)
include go plain

/-- The row of a memory operation. -/
theorem memIssued_of_mwMop {k : Nat} (hop : mwMop (theWord s t) = k) (hc : exec c s = .next (wordRow (mwMop · == k) t .clean s))
    (hk : k ≠ 0 := by decide) : memIssued c s t := by
  have hm : mwMop (theWord s t) ≠ 0 := hop ▸ hk
  refine answers_of_wordGoes go plain hc (beq_iff_eq.2 hop) ?_
  obtain ⟨-, -, -, -, hissues, hcoffer⟩ := execWord_acts plain (t / 32) t s _ rfl
  have hframe := wordFrame_execWord plain (t / 32)
  generalize execWord (t / 32) t (theWord s t) s = u at *
  have hvault := fun hs => mopEffect_vault (t / 32) t (s.tellerAt t) (theWord s t) s hm hs
  have hcof := fun hs => mopEffect_coffer (t / 32) t (s.tellerAt t) (theWord s t) s hm hs _ rfl
  have hsieve := fun hs => mopEffect_sieve (t / 32) t (s.tellerAt t) (theWord s t) s hm hs _ rfl
  have hqueue : ∀ m v, v.tellers = s.tellers → ((queueOp t m v).tellerAt t).issues =
      ((s.tellerAt t).mem ++ [m], (s.tellerAt t).nextMem + 1, (s.tellerAt t).frames, (s.tellerAt t).ctx.kv) := fun m v hv => by
    rw [queueOp_issues, tellerAt_of_tellers hv]
  generalize hv : mopEffect (t / 32) t (s.tellerAt t) (theWord s t) s = v at *
  have hlocal : (opOf (s.tellerAt t) (theWord s t)).msel = mwMsel (theWord s t) := rfl
  have hissued : ∀ m, (v.tellerAt t).issues = ((s.tellerAt t).mem ++ [m], (s.tellerAt t).nextMem + 1, (s.tellerAt t).frames,
      (s.tellerAt t).ctx.kv) → (u.tellerAt t).mem = (s.tellerAt t).mem ++ [m] ∧ (u.tellerAt t).nextMem = (s.tellerAt t).nextMem + 1 ∧
      (u.tellerAt t).frames = (s.tellerAt t).frames := fun m h => by
    rw [h] at hissues
    simp only [Teller.issues, Prod.mk.injEq] at hissues
    obtain ⟨hmem, hnext, hframes, -⟩ := hissues
    exact ⟨hmem, hnext, hframes⟩
  have h05 : mwMsel (theWord s t) = 0 ∨ mwMsel (theWord s t) = 5 → _ ∧ v.coffer = s.coffer := fun hs =>
    ⟨hissued _ (by rw [hvault hs, tellerAt_of_regs (perf_frame ..), hqueue _ _ rfl]), by rw [hvault hs, perf_coffer]; rfl⟩
  have h1 : mwMsel (theWord s t) = 1 → _ := fun hs =>
    hissued _ (by rw [tellerAt_of_tellers (hcof hs).1, hqueue _ _ rfl])
  have h2 : mwMsel (theWord s t) = 2 → _ ∧ v.coffer = s.coffer := fun hs =>
    ⟨hissued _ (by rw [(hsieve hs).1, hqueue _ _ (by rw [(hsieve hs).2])]), by rw [(hsieve hs).1, (hsieve hs).2]; rfl⟩
  refine ⟨fun h => ⟨(h05 h).1.1, hcoffer.trans (h05 h).2⟩, fun h => ⟨(h1 h).1, hcoffer.trans (hcof h).2⟩,
    fun h => ⟨(h2 h).1.1, hcoffer.trans (h2 h).2⟩, fun h => ?_, hframe⟩
  obtain h | h | h | h := h
  · exact (h05 (.inl h)).1.2
  · exact (h1 h).2
  · exact (h2 h).1.2
  · exact (h05 (.inr h)).1.2

/-- The row of a load from the key-vector copy or the newest trap frame: its word stands in G[AD]. -/
theorem loaded_of_mwMop {v : Word64} (hop : mwMop (theWord s t) = 1)
    (hmem : localLoad (s.tellerAt t) (theWord s t) = [(mwAd (theWord s t), v)])
    (hc : exec c s = .next (wordRow (mwMop · == 1) t .clean s)) :
    Answers c s fun u => gReg (u.tellerAt t) (mwAd (theWord s t)) = v ∧ wordFrame s t u := by
  refine answers_of_wordGoes go plain hc (beq_iff_eq.2 hop) ⟨?_, wordFrame_execWord plain _⟩
  refine gReg_execWord_of_mem plain (t / 32) t s (regWrites_nodup_of_wordGoes go) (mwAd_lt _) ?_
  unfold wordResults
  rw [hmem]
  exact List.mem_append_right _ (List.mem_singleton.2 rfl)

/-- The row of a store to the key-vector copy or the newest trap frame. -/
theorem stored_of_mwMop (hop : mwMop (theWord s t) = 3) (hs : mwMsel (theWord s t) = 3 ∨ mwMsel (theWord s t) = 4)
    (hc : exec c s = .next (wordRow (mwMop · == 3) t .clean s)) {P : Teller → Prop} (hP : ∀ y z : Teller, y.issues = z.issues → P z → P y)
    (hv : P ((localStore t (s.tellerAt t) (theWord s t) s).tellerAt t)) : Answers c s fun u => P (u.tellerAt t) ∧ wordFrame s t u := by
  refine answers_of_wordGoes go plain hc (beq_iff_eq.2 hop) ⟨?_, wordFrame_execWord plain _⟩
  obtain ⟨-, -, -, -, hissues, -⟩ := execWord_acts plain (t / 32) t s _ rfl
  rw [mopEffect_local _ _ _ _ _ (by omega) hs] at hissues
  exact hP _ _ hissues hv

end

theorem kv_of_issues {y z : Teller} (h : y.issues = z.issues) : y.ctx.kv = z.ctx.kv := congrArg (·.2.2.2) h

theorem frames_of_issues {y z : Teller} (h : y.issues = z.issues) : y.frames = z.frames := congrArg (·.2.2.1) h

/-- Settles O53: the operations are issued as `memIssued_of_mwMop` says; the loads and stores of KEYVEC and TRAPF act on their word. -/
theorem memoryOperationsIssue : Obligations.MemoryOperationsIssue := by
  unfold Obligations.MemoryOperationsIssue
  and_intros
  iterate 12 exact fun s t go plain hop => memIssued_of_mwMop go plain hop rfl
  · exact fun s t go plain hop hs => loaded_of_mwMop go plain hop (by simp [localLoad, hop, hs]) rfl
  · exact fun s t go plain hop hs fr rest hfr => loaded_of_mwMop go plain hop (by simp [localLoad, hop, hs, hfr]) rfl
  · exact fun s t go plain hop hs => stored_of_mwMop go plain hop (.inl hs) rfl (fun y z h hz => (kv_of_issues h).trans hz)
      (by simp [localStore, hop, hs])
  · exact fun s t go plain hop hs fr rest hfr => stored_of_mwMop go plain hop (.inr hs) rfl (fun y z h hz => (frames_of_issues h).trans hz)
      (by simp [localStore, hop, hs, hfr])

end Sys2Proof.Machine
end


section
/-!
PROOFS. The signed commands of the owner and PROVISION: what each programs, and that one whose checks fail programs nothing (R431 to
R434, R446, R447, Table 18.8).
-/
namespace Sys2Proof.Machine

/-! ### Programming -/

@[simp] theorem debugOpens_fuses (s : State) : (debugOpens s).fuses = s.fuses := by
  unfold debugOpens
  split
  · rfl
  · rw [emit_fuses, cause_fuses]

@[simp] theorem lifecycleChanged_fuses (old : Lifecycle) (s : State) : (lifecycleChanged old s).fuses = s.fuses := by
  unfold lifecycleChanged
  dsimp only
  split
  · rfl
  · split
    · dsimp only
      rw [emit_fuses, cause_fuses]
    · rw [debugOpens_fuses, emit_fuses, cause_fuses]
    · rw [emit_fuses, cause_fuses]

/-- A programming whose reads are good leaves the field programmed (R432). -/
@[simp] theorem program_true_fuses (field : Nat) (f : Fuses → Fuses) (s : State) : (program field true f s).fuses = f s.fuses := by
  simp [program]

theorem identityBad_fuses (s : State) : (identityBad s).fuses = s.fuses := by
  rw [identityBad, emit_fuses, cause_fuses]

theorem identityBad_idBad (s : State) : (identityBad s).sec.idBad = true := by
  rw [identityBad, emit_sec, cause_sec]

/-- The device is Returned once group 2 is blown. -/
theorem lifecycle_of_grp2 {f : Fuses} (h : f.grp2 = true) : f.lifecycle = .returned := if_pos h

/-! ### A signed command -/

/-- The state in which a signed command is judged: the slot that signed it is noted, and that it programs fuses. -/
def signedState (slot : Nat) (fusing : Bool) (s : State) : State :=
  { s with sec := { s.sec with host := { s.sec.host with signer := slot, fusing := fusing } } }

@[simp] theorem signedState_fuses (slot : Nat) (fusing : Bool) (s : State) : (signedState slot fusing s).fuses = s.fuses := rfl

@[simp] theorem signedState_debugOpen (slot : Nat) (fusing : Bool) (s : State) :
    (signedState slot fusing s).sec.debugOpen = s.sec.debugOpen := rfl

theorem mboxResult_fuses (side : Bool) (res : Nat) (out : Bytes) (s : State) : (mboxResult side res out s).fuses = s.fuses := rfl

theorem mboxResult_debugOpen (res : Nat) (out : Bytes) (s : State) : (mboxResult false res out s).sec.debugOpen = s.sec.debugOpen := rfl

theorem mboxResult_done (res : Nat) (out : Bytes) (s : State) : (mboxResult false res out s).sec.host.done = some (res, out) := rfl

/-- A signed command that passes its checks, from the judgement of its code on (R446). -/
def ownerJudged (states : List Lifecycle) (argOk : Bytes → State → Bool) (fuses : Bool) (work : Bytes → State → State) (ok : Bool)
    (arg : Bytes) (s : State) : State :=
  if !states.contains s.fuses.lifecycle then mboxResult false RES_WRONG_STATE [] s
  else if !argOk arg s then mboxResult false RES_BAD_ARG [] s
  else if fuses && fusePower s then mboxResult false RES_POWER [] s
  else mboxResult false (if ok then RES_OK else RES_FUSE_FAIL) [] (work arg (signedState s.sec.host.signer fuses s))

section
variable {code : Nat} {states : List Lifecycle} {argOk : Bytes → State → Bool} {fuses : Bool} {work : Bytes → State → State}
  {ok : Bool} {s : State} (held : commandHeld s code = true)
include held

/-- A command whose checks fail ends with the result of the first that failed (R446). -/
theorem ownerCommand_failed (h : commandResult s ≠ RES_OK) : ownerCommand code states argOk fuses work ok s =
    mboxResult false (commandResult s) [] (signedState (commandCheck s (hostBuf s commandSize)).2 s.sec.host.fusing s) := by
  simp only [commandHeld, Bool.and_eq_true] at held
  obtain ⟨hruns, hlen⟩ := held
  unfold ownerCommand
  simp only [hruns, hlen, Bool.not_true, Bool.false_eq_true, if_false, if_true]
  exact if_pos h

theorem ownerCommand_passed (h : commandResult s = RES_OK) : ∃ slot, ownerCommand code states argOk fuses work ok s =
    ownerJudged states argOk fuses work ok (commandArg s) (signedState slot s.sec.host.fusing s) := by
  simp only [commandHeld, Bool.and_eq_true] at held
  obtain ⟨hruns, hlen⟩ := held
  refine ⟨(commandCheck s (hostBuf s commandSize)).2, ?_⟩
  unfold commandResult at h
  unfold ownerCommand ownerJudged commandArg
  generalize hostBuf s commandSize = c at h ⊢
  simp only [hruns, hlen, Bool.not_true, Bool.false_eq_true, if_false, if_true]
  rw [if_neg (not_not.2 h)]
  rfl

/-- What a signed command gives whose state and arguments allow it, with power for the fuses. -/
theorem commandGives_of_work {t : State} {P : Prop} (ht : t = ownerCommand code states argOk fuses work true s)
    (hstate : states.contains s.fuses.lifecycle = true) (harg : ∀ slot fusing, argOk (commandArg s) (signedState slot fusing s) = true)
    (hpower : fuses = true → fusePower s = false)
    (hP : ∀ slot, t = mboxResult false RES_OK [] (work (commandArg s) (signedState slot fuses s)) → P) : commandGives s t P := by
  constructor <;> intro h
  case left =>
    obtain ⟨slot, hslot⟩ := ownerCommand_passed held h
    have hpower : (fuses && fusePower (signedState slot s.sec.host.fusing s)) = false := by
      rw [Bool.and_eq_false_iff, ← Bool.not_eq_true]
      exact or_iff_not_imp_left.2 fun hf => hpower (not_not.1 hf)
    have heq : t = mboxResult false RES_OK [] (work (commandArg s) (signedState slot fuses s)) := by
      rw [ht, hslot]
      generalize commandArg s = arg at harg ⊢
      simp only [ownerJudged, signedState_fuses, hstate, harg, hpower, Bool.not_true, Bool.false_eq_true, if_false, if_true]
      rfl
    refine ⟨hP slot heq, ?_⟩
    rw [heq, mboxResult_done]
  case right =>
    rw [ht, ownerCommand_failed held h, mboxResult_done, mboxResult_fuses, mboxResult_debugOpen, signedState_fuses, signedState_debugOpen]
    exact ⟨rfl, rfl, rfl⟩

end

/-- The states in which the owner commands but LOCK and DEBUG_UNLOCK are allowed. -/
theorem ownedOrLocked {x : Lifecycle} (h : x = .owned ∨ x = .locked) : ([.owned, .locked] : List Lifecycle).contains x = true := by
  obtain rfl | rfl := h <;> rfl

/-- DEBUG_UNLOCK opens the port with its cause (R448). -/
theorem debugOpens_acts {s : State} (h : s.sec.debugOpen = false) : (debugOpens s).sec.debugOpen = true ∧
    flagOf (debugOpens s) Reg.SEC_IRQ_CAUSE 4 = true := by
  rw [debugOpens, h, if_neg (by decide)]
  refine ⟨by rw [emit_sec, cause_sec], ?_⟩
  rw [flagOf_emit_ne _ _ _ _ _ _ (by decide) (by decide)]
  exact flagOf_cause_same _ _ _ (by decide)

/-- The work of RETURN: group 2 and ID_DESTROYED are blown, and the identity is unavailable (R433, R434). -/
theorem returnWork_acts (s t : State) (ht : t = (let s := program fieldLifecycle true (fun f => { f with grp2 := true }) s
      if s.fuses.lifecycle != .returned then s
      else
        let s := program fieldIdDestroyed true (fun f => { f with idDestroyed := true }) s
        if s.sec.idBad then s else identityBad s)) :
    t.fuses = { s.fuses with grp2 := true, idDestroyed := true } ∧ t.sec.idBad = true := by
  dsimp only at ht
  rw [program_true_fuses, lifecycle_of_grp2 rfl, if_neg (by decide)] at ht
  split at ht <;> rw [ht]
  next hbad => exact ⟨by rw [program_true_fuses, program_true_fuses], hbad⟩
  · exact ⟨by rw [identityBad_fuses, program_true_fuses, program_true_fuses], identityBad_idBad _⟩

/-- PROVISION of a Blank device with a new slot, with good fuse writes (R447). -/
theorem provision_acts {s : State} (hruns : mboxRuns s false 5 = true) (hlen : lenIs s false 64 = true)
    (hformat : zeros (hostBuf s 64) 1 16 = true) (hblank : s.fuses.lifecycle = .blank) (hslot : byteAt (hostBuf s 64) 0 < 4)
    (hhash : asDigest ((hostBuf s 64).drop 16) ≠ 0) (hfree : slotProgrammed s.fuses (byteAt (hostBuf s 64) 0) = false)
    (hpower : fusePower s = false) : ∃ v, v.fuses = s.fuses ∧ provision true s = mboxResult false RES_OK []
      (program fieldLifecycle true (fun f => { f with grp0 := true })
        (program fieldSlot true (programSlot (byteAt (hostBuf s 64) 0) (asDigest ((hostBuf s 64).drop 16))) v)) := by
  refine ⟨signedState s.sec.host.signer true s, rfl, ?_⟩
  unfold provision
  rw [hruns, if_neg (by decide)]
  dsimp only
  rw [hlen, if_neg (by decide), hformat, if_neg (by decide), if_neg (not_not.2 hblank), hfree,
    if_neg (by simp only [Bool.false_eq_true, false_and, or_false, not_or]; exact ⟨by omega, hhash⟩), hpower]
  simp only [Bool.false_eq_true, if_false, if_true]
  rfl

/-- Settles O18: the clauses of the six commands are `commandGives_of_work` with the work of each; PROVISION programs the slot and
group 0. -/
theorem ownerCommandsProgramTheFuses : Obligations.OwnerCommandsProgramTheFuses := by
  unfold Obligations.OwnerCommandsProgramTheFuses
  refine ⟨fun s held hst harg hfree hpower => ⟨_, rfl, commandGives_of_work held rfl (ownedOrLocked hst) (fun _ _ => ?_) (fun _ => hpower)
      fun slot ht => by rw [ht, mboxResult_fuses, program_true_fuses]; rfl⟩,
    fun s held hst harg hother hpower => ⟨_, rfl, commandGives_of_work held rfl (ownedOrLocked hst) (fun _ _ => ?_) (fun _ => hpower)
      fun slot ht => by rw [ht, mboxResult_fuses, program_true_fuses]; rfl⟩,
    fun s held hst hzero hrun hlow hmax hsvn hpower => ⟨_, rfl, commandGives_of_work held rfl (ownedOrLocked hst) (fun _ _ => ?_)
      (fun _ => hpower) fun slot ht => by rw [ht, mboxResult_fuses, program_true_fuses]; rfl⟩,
    fun s held hst hzero hpower => ⟨_, rfl, commandGives_of_work held rfl (by rw [hst]; rfl) (fun _ _ => hzero) (fun _ => hpower)
      fun slot ht => by rw [ht, mboxResult_fuses, program_true_fuses]; rfl⟩,
    fun s held hst hzero hclosed => ⟨_, rfl, commandGives_of_work held rfl (by rw [hst]; rfl) (fun _ _ => hzero) nofun fun slot ht => ?_⟩,
    fun s held hst hzero hpower => ⟨_, rfl, commandGives_of_work held rfl (ownedOrLocked hst) (fun _ _ => hzero) (fun _ => hpower)
      fun slot ht => ?_⟩, fun s hruns hlen hformat hblank hslot hhash hfree hpower => ⟨_, rfl, ?_⟩⟩
  · rw [signedState_fuses, harg, hfree]
    rfl
  · rw [signedState_fuses, harg, hother]
    rfl
  · rw [hzero]
    simp only [Bool.true_and, Bool.and_eq_true, decide_eq_true_eq]
    exact ⟨hrun, hlow, hmax, hsvn⟩
  · obtain ⟨hopen, hcause⟩ := debugOpens_acts (s := signedState slot false s) hclosed
    rw [ht]
    exact ⟨hopen, by rw [mboxResult_fuses, debugOpens_fuses]; rfl, hcause⟩
  · obtain ⟨hfuses, hbad⟩ := returnWork_acts (signedState slot true s) _ rfl
    rw [ht, mboxResult_fuses, hfuses]
    exact ⟨rfl, hbad⟩
  · obtain ⟨v, hv, heq⟩ := provision_acts hruns hlen hformat hblank hslot hhash hfree hpower
    rw [show provision true s = _ from heq, mboxResult_fuses, program_true_fuses, program_true_fuses, hv]
    exact ⟨rfl, rfl⟩

end Sys2Proof.Machine
end


section
/-!
PROOFS. The mailbox: what its operations put out, how a queued one starts and a finished one ends (R439, R442 to R445), and the sideband
channel (R449).
-/
namespace Sys2Proof.Machine

/-! ### Channels -/

@[simp] theorem mboxAt_setMbox_same (side : Bool) (c : MboxChan) (s : State) : mboxAt (setMbox side c s) side = c := by
  cases side <;> rfl

theorem mboxResult_done_same (side : Bool) (res : Nat) (out : Bytes) (s : State) :
    (mboxAt (mboxResult side res out s) side).done = some (res, out) := by
  rw [mboxResult, mboxAt_setMbox_same]

theorem setMbox_queue (side : Bool) (c : MboxChan) (s : State) : (setMbox side c s).sec.queue = s.sec.queue := by
  cases side <;> rfl

/-! ### Operations -/

theorem getIdentity_acts {s : State} {side : Bool} (hruns : mboxRuns s side 1 = true) (hlen : lenIs s side 0 = true)
    (hid : s.sec.idPub ≠ []) : getIdentity side s = mboxResult side RES_OK (identityOut s (slice s.sec.idPub 0 448)) s := by
  have hblock : identityBlock s = (slice s.sec.idPub 0 448, s) := if_neg (by rwa [List.isEmpty_iff])
  simp only [getIdentity, hruns, hlen, hblock, Bool.not_true, Bool.false_eq_true, if_false]

theorem getChallenge_host {s : State} (hruns : mboxRuns s false 2 = true) (hlen : lenIs s false 0 = true) :
    getChallenge false s = mboxResult false RES_OK (leBytes 32 (Config.random s.free).toNat)
      { s with free := s.free + 1, sec := { s.sec with challenge := some (leBytes 32 (Config.random s.free).toNat) } } := by
  simp only [getChallenge, hruns, hlen, Bool.not_true, Bool.false_eq_true, if_false]

theorem getChallenge_side {s : State} (hruns : mboxRuns s true 2 = true) : getChallenge true s = mboxResult true RES_BAD_OP [] s := by
  simp only [getChallenge, hruns, Bool.not_true, Bool.false_eq_true, if_false, if_true]

theorem attest_acts {s : State} {side : Bool} (hruns : mboxRuns s side 3 = true) (hlen : lenIs s side 32 = true)
    (hid : s.sec.idBad = false) : ∃ sig, attest side s = mboxResult side RES_OK (attestBody side (mboxInput s side 32) s ++ sig) s := by
  simp only [attest, hruns, hlen, hid, Bool.not_true, Bool.false_eq_true, if_false, List.append_assoc]
  exact ⟨_, rfl⟩

theorem mboxStart_acts {s : State} {side : Bool} {rest : List Bool} (hq : s.sec.queue = side :: rest) (hfree : engineFree s = true) :
    mboxStart side s = setMbox side { mboxAt s side with busy := true, done := none, signer := 15, fusing := false, discard := false }
      { s with sec := { s.sec with queue := rest } } := by
  have hat : mboxAt { s with sec := { s.sec with queue := rest } } side = mboxAt s side := by cases side <;> rfl
  simp only [mboxStart, hq, hfree, and_self, if_true, hat]

/-! ### The end of an operation -/

theorem mboxOutput_host_sec (b : Bytes) (s : State) : (mboxOutput false b s).sec = s.sec := by
  unfold mboxOutput
  rw [if_neg (by decide)]
  refine foldl_keeps (P := fun t : State => t.sec = s.sec) _ (fun t i h => ?_) _ rfl
  exact h

theorem mboxOutput_channel (side : Bool) (b : Bytes) (s : State) : mboxAt (mboxOutput side b s) side = mboxAt s side := by
  cases side
  · rw [mboxAt, mboxOutput_host_sec]
    rfl
  · rfl

theorem mboxAt_of_sec {s t : State} (h : t.sec = s.sec) (side : Bool) : mboxAt t side = mboxAt s side := by
  rw [mboxAt, h, mboxAt]

/-- The channel at the end of an operation that is not discarded. -/
def endedChannel (c : MboxChan) (res : Nat) (out : Bytes) : MboxChan :=
  { c with busy := false, done := none, fusing := false, discard := false, result := res, outLen := out.length }

/-- What the end of an operation does after its result and output stand (R443, R446, R450). -/
def mboxEndTail (side : Bool) (res : Nat) (c : MboxChan) (code : Nat) (s : State) : State :=
  let s := s |> cause Reg.SEC_IRQ_CAUSE (b2n side) |> emit 0x001 0x72 (b2n side + 2 * (c.op % 8) + 2 ^ 4 * res)
  if c.op = 4 ∧ side = false then
    let s := { s with sec := { s.sec with challenge := none } } |> emit 0x001 0x73 (code + 2 ^ 16 * c.signer + 2 ^ 20 * res)
    if res = RES_OK ∨ res = RES_FUSE_FAIL ∨ res = RES_ABORTED then s else cause Reg.SEC_IRQ_CAUSE 2 s
  else s

theorem mboxEnd_eq {s : State} {side : Bool} {res : Nat} {out : Bytes} (hkeep : (mboxAt s side).discard = false) :
    mboxEnd side res out s = mboxEndTail side res (mboxAt s side) (commandCode s)
      (mboxOutput side out (setMbox side (endedChannel (mboxAt s side) res out) s)) := by
  simp only [mboxEnd, mboxEndTail, hkeep, endedChannel, Bool.false_eq_true, if_false]

theorem mboxEndTail_sec (side : Bool) (res : Nat) (c : MboxChan) (code : Nat) (s : State) : (mboxEndTail side res c code s).sec =
    if c.op = 4 ∧ side = false then { s.sec with challenge := none } else s.sec := by
  unfold mboxEndTail
  dsimp only
  split
  · split <;> simp only [cause_sec, emit_sec]
  · simp only [cause_sec, emit_sec]

/-- The end of an operation that is not discarded publishes its result and the length of its output; of OWNER_CMD it also ends the
challenge (R443, R444). -/
theorem mboxEnd_acts {s : State} {side : Bool} {res : Nat} {out : Bytes} (hkeep : (mboxAt s side).discard = false) (t : State)
    (ht : t = mboxEnd side res out s) :
    mboxAt t side = endedChannel (mboxAt s side) res out ∧ ((mboxAt s side).op = 4 → side = false → t.sec.challenge = none) := by
  rw [mboxEnd_eq hkeep] at ht
  have hsec := congrArg State.sec ht
  rw [mboxEndTail_sec] at hsec
  have hchan := mboxOutput_channel side out (setMbox side (endedChannel (mboxAt s side) res out) s)
  rw [mboxAt_setMbox_same] at hchan
  refine ⟨?_, fun hop hside => by rw [hsec, if_pos ⟨hop, hside⟩]⟩
  rw [← hchan]
  generalize mboxOutput side out (setMbox side (endedChannel (mboxAt s side) res out) s) = v at hsec ⊢
  split at hsec
  · rw [mboxAt, hsec]
    rfl
  · exact mboxAt_of_sec hsec side

theorem mboxDone_acts {s : State} {side : Bool} {res : Nat} {out : Bytes} (h : (mboxAt s side).done = some (res, out)) :
    mboxDone side s = mboxEnd side res out s := by
  unfold mboxDone
  rw [h]

/-! ### The sideband channel -/

/-- An accepted write on the SMBus is acknowledged; any other is not. -/
def acked (ok : Bool) (s : State) : State := { s with out := { s.out with smbAck := ok, smb := [] } }

theorem mboxGo_out (side : Bool) (op : Nat) (s : State) : (mboxGo side op s).out = s.out := by
  unfold mboxGo
  split_ifs <;> rfl

theorem mboxGo_side {s : State} {op : Nat} (hheld : mboxHeld s true = false) (hfree : engineFree s = true) (hq : s.sec.queue = []) :
    (mboxGo true op s).sec.side.op = op ∧ (mboxGo true op s).sec.side.busy = true := by
  rw [mboxGo, if_neg (by rw [hheld]; decide), if_pos ⟨hfree, hq⟩]
  exact ⟨rfl, rfl⟩

theorem mbOp_acts (s : State) (op : Nat) (pec : Bool) (t : State) (ht : t = mbOp op pec s) : t.out.smbAck = (mbAlive s && pec) ∧
    ((mbAlive s && pec) = true → mboxHeld s true = false → engineFree s = true → s.sec.queue = [] →
      t.sec.side.op = op ∧ t.sec.side.busy = true) := by
  have ht : t = if (mbAlive s && pec) = true then mboxGo true op (acked (mbAlive s && pec) s) else acked (mbAlive s && pec) s := ht
  constructor
  · rw [ht]
    split
    · rw [mboxGo_out]
      rfl
    · rfl
  · intro hok hheld hfree hq
    rw [ht, if_pos hok]
    exact mboxGo_side (s := acked (mbAlive s && pec) s) hheld hfree hq

theorem mbNonce_acts {s : State} {nonce : Bytes} {pec : Bool} (halive : mbAlive s = true) (hpec : pec = true) (hlen : nonce.length = 32)
    (t : State) (ht : t = mbNonce nonce pec s) : t.out.smbAck = true ∧
    (mboxHeld s true = false → t.sec.sideBuf = nonce ++ s.sec.sideBuf.drop 32) ∧ (mboxHeld s true = true → t.sec = s.sec) := by
  have hok : (mbAlive s && pec && nonce.length == 32) = true := by rw [halive, hpec, hlen]; rfl
  have ht : t = if (true && !mboxHeld (acked true s) true) = true then mboxOutput true nonce (acked true s) else acked true s := by
    rw [ht, mbNonce, hok]
    rfl
  have hheld : mboxHeld (acked true s) true = mboxHeld s true := rfl
  rw [hheld] at ht
  refine ⟨?_, fun h => ?_, fun h => ?_⟩
  · rw [ht]
    split <;> rfl
  · rw [ht, if_pos (by rw [h]; rfl), ← hlen]
    rfl
  · rw [ht, h]
    rfl

theorem mbOffset_acts {s : State} {v : Nat} {pec : Bool} (halive : mbAlive s = true) (hpec : pec = true) (t : State)
    (ht : t = mbOffset v pec s) : t.out.smbAck = true ∧ t.sec = { s.sec with sideOffset := v } := by
  rw [ht, mbOffset, halive, hpec]
  exact ⟨rfl, rfl⟩

/-- The engine answers a read with its data, before a PEC. -/
theorem mbAnswer_acts {s : State} {cmd : Nat} {data : Bytes} {pec : Bool} (halive : mbAlive s = true) (t : State)
    (ht : t = mbAnswer cmd data pec s) :
    t.out.smbAck = true ∧ t.out.smb.take data.length = data ∧ t = { s with out := t.out } := by
  have hsmb : smbAlive s = true := by
    simp only [mbAlive, Bool.and_eq_true] at halive
    exact halive.1
  rw [mbAnswer, if_pos halive, smbAnswer, hsmb, if_neg (by decide)] at ht
  rw [ht]
  exact ⟨rfl, List.take_left, rfl⟩

theorem length_slice (b : Bytes) (i n : Nat) : (slice b i n).length = n := by
  rw [slice, List.length_map, List.length_range]

theorem mbRead_acts {s : State} {pec : Bool} (halive : mbAlive s = true) (t : State) (ht : t = mbRead pec s) : t.out.smbAck = true ∧
    t.sec = { s.sec with sideOffset := (s.sec.sideOffset + 32) % 2 ^ 16 } ∧ t.out.smb.take 33 =
      32#8 :: (if mboxHeld s true then List.replicate 32 0 else slice (s.sec.sideBuf.take s.sec.side.outLen) s.sec.sideOffset 32) := by
  generalize hdata : (if mboxHeld s true then List.replicate 32 0
    else slice (s.sec.sideBuf.take s.sec.side.outLen) s.sec.sideOffset 32) = data
  have hlen : (32#8 :: data).length = 33 := by
    rw [List.length_cons, ← hdata, apply_ite List.length, List.length_replicate, length_slice, ite_self]
  have ht : t = mbAnswer 0x14 (32#8 :: data) pec { s with sec := { s.sec with sideOffset := (s.sec.sideOffset + 32) % 2 ^ 16 } } := by
    rw [ht, mbRead, halive, if_neg (by decide), ← hdata]
  obtain ⟨hack, htake, hframe⟩ := mbAnswer_acts (by exact halive) t ht
  rw [hlen] at htake
  exact ⟨hack, by rw [hframe], htake⟩

/-- Settles O19: the operations' clauses read the result that `mboxResult` notes, the end of one is `mboxEnd_acts`, and the SMBus
clauses are the lemma of their command. -/
theorem mailboxCommandsAct : Obligations.MailboxCommandsAct := by
  unfold Obligations.MailboxCommandsAct
  refine ⟨fun s side hruns hlen hid => ⟨_, congrArg Host.Outcome.next (getIdentity_acts hruns hlen hid), mboxResult_done_same ..⟩,
    fun s hruns hlen => ⟨_, congrArg Host.Outcome.next (getChallenge_host hruns hlen), rfl, rfl, mboxResult_done ..⟩,
    fun s hruns => ⟨_, congrArg Host.Outcome.next (getChallenge_side hruns), mboxResult_done_same true ..⟩,
    fun s side hruns hlen hid => ?_, fun s side rest hq hfree => ⟨_, congrArg Host.Outcome.next (mboxStart_acts hq hfree), ?_⟩,
    fun s side r o hdone hkeep => ⟨_, congrArg Host.Outcome.next (mboxDone_acts hdone), ?_⟩,
    fun s op pec => ⟨_, rfl, mbOp_acts s op.toNat pec _ rfl⟩,
    fun s nonce pec halive hpec hlen => ⟨_, rfl, mbNonce_acts halive hpec hlen _ rfl⟩,
    fun s v pec halive hpec => ⟨_, rfl, mbOffset_acts halive hpec _ rfl⟩, fun s pec halive => ⟨_, rfl, ?_⟩,
    fun s pec halive => ⟨_, rfl, mbRead_acts halive _ rfl⟩⟩
  · obtain ⟨sig, heq⟩ := attest_acts hruns hlen hid
    exact ⟨_, congrArg Host.Outcome.next heq, sig, mboxResult_done_same ..⟩
  · beta_reduce
    rw [mboxAt_setMbox_same, setMbox_queue]
    exact ⟨rfl, rfl, rfl, rfl⟩
  · obtain ⟨hchan, hchallenge⟩ := mboxEnd_acts hkeep _ rfl
    rw [hchan]
    exact ⟨rfl, rfl, rfl, rfl, hchallenge⟩
  · obtain ⟨hack, htake, hframe⟩ := mbAnswer_acts halive _ rfl
    rw [length_leBytes] at htake
    exact ⟨hack, htake, hframe⟩

end Sys2Proof.Machine
end


section
/-!
PROOFS. The DMA rings: buffers and flushes (R461 to R463), descriptors (R462, R466, R471), the end of a batch (R470), starvation (R465),
and the reading of injected frames (R466, R467).
-/
namespace Sys2Proof.Machine

/-! ### Rings -/

theorem ringAt_of_rings {s t : State} (h : t.rings = s.rings) (n : Nat) : t.ringAt n = s.ringAt n := by
  rw [State.ringAt, h, State.ringAt]

@[simp] theorem toHost_rings (addr : Nat) (b : Bytes) (s : State) : (toHost addr b s).rings = s.rings := by rw [toHost, perfN_rings]

/-- HEAD moves on within the ring (R461). -/
theorem advanceHead_ring (n : Nat) (s : State) : ∃ h, h < 2 ^ 15 ∧ (advanceHead n s).ringAt n = { s.ringAt n with head := h } := by
  refine ⟨(ringHead s n + 1) % 2 ^ ringLog2 s n, ?_, ?_⟩
  · have hlog : ringLog2 s n ≤ 15 := Nat.min_le_left ..
    exact (Nat.mod_lt _ (Nat.two_pow_pos _)).trans_le (Nat.pow_le_pow_right (by decide) hlog)
  · unfold advanceHead
    dsimp only
    rw [ringAt_of_rings ((perf_rings ..).trans ((bump_rings ..).trans (cause_rings ..)))]
    split
    · rw [ringAt_of_rings (toHost_rings ..), State.ringAt_modRing_same]
    · rw [State.ringAt_modRing_same]

/-- A closed buffer is no longer open, and of the ring HEAD alone moves beside (R463). -/
theorem closeBuffer_ring (n : Nat) (s : State) : ∃ h, (closeBuffer n s).ringAt n = { s.ringAt n with open_ := none, head := h } := by
  unfold closeBuffer
  split
  next hopen => exact ⟨(s.ringAt n).head, by rw [← hopen]⟩
  · dsimp only
    split
    · exact ⟨(s.ringAt n).head, State.ringAt_modRing_same ..⟩
    · obtain ⟨h, -, heq⟩ := advanceHead_ring n (toHost (descAddr s n 0) (hostDesc _ (ledgerNow s)) (s.modRing n fun r => { r with open_ := none }))
      refine ⟨h, heq.trans ?_⟩
      rw [ringAt_of_rings (toHost_rings ..), State.ringAt_modRing_same]

theorem flushTimeout_acts {n : Nat} {s : State} {o : OpenBuf} (ho : (s.ringAt n).open_ = some o) (hfill : o.fill ≠ 0)
    (hdue : flushTicks s n ≤ since s o.firstAt) : ((flushTimeout n s).ringAt n).open_ = none := by
  obtain ⟨h, heq⟩ := closeBuffer_ring n s
  unfold flushTimeout
  simp only [ho]
  rw [if_pos ⟨hfill, hdue⟩, heq]

/-! ### Ring registers -/

/-- DMA_RING_CFG as a write leaves it: `geo` is where SIZE_LOG2 and TYPE come from. -/
def ringCfgWord (n geo : Nat) (v : Word32) : Nat :=
  b2n (v.getLsbD 31) * 2 ^ 31 + (if 16 ≤ n then bits geo 24 24 * 2 ^ 24 else 0) + bits geo 19 16 * 2 ^ 16 +
    bits v.toNat 15 8 * 2 ^ 8 + bits v.toNat 1 0

theorem ringCfgWord_parts (n geo : Nat) (v : Word32) : ∃ m, m < 2 ^ 15 ∧
    ringCfgWord n geo v = b2n (v.getLsbD 31) * 2 ^ 31 + m * 2 ^ 16 + bits v.toNat 15 8 * 2 ^ 8 + bits v.toNat 1 0 := by
  have h24 : bits geo 24 24 < 2 := Nat.mod_lt _ (by decide)
  have h19 : bits geo 19 16 < 16 := Nat.mod_lt _ (by decide)
  refine ⟨(if 16 ≤ n then bits geo 24 24 * 2 ^ 8 else 0) + bits geo 19 16, ?_, ?_⟩
  · split <;> omega
  · unfold ringCfgWord
    split <;> ring

theorem ringCfgWord_lt (n geo : Nat) (v : Word32) : ringCfgWord n geo v < 2 ^ 32 := by
  obtain ⟨m, hm, heq⟩ := ringCfgWord_parts n geo v
  have h15 : bits v.toNat 15 8 < 256 := Nat.mod_lt _ (by decide)
  have h1 : bits v.toNat 1 0 < 4 := Nat.mod_lt _ (by decide)
  have h31 : b2n (v.getLsbD 31) ≤ 1 := by cases v.getLsbD 31 <;> decide
  omega

theorem bits_ringCfgWord (n geo : Nat) (v : Word32) : bits (ringCfgWord n geo v) 15 8 = bits v.toNat 15 8 := by
  obtain ⟨m, hm, heq⟩ := ringCfgWord_parts n geo v
  have h15 : bits v.toNat 15 8 < 256 := Nat.mod_lt _ (by decide)
  have h1 : bits v.toNat 1 0 < 4 := Nat.mod_lt _ (by decide)
  have hbits : bits (ringCfgWord n geo v) 15 8 = ringCfgWord n geo v / 2 ^ 8 % 2 ^ 8 := by rw [bits, Nat.shiftRight_eq_div_pow]
  omega

theorem testBit_ringCfgWord (n geo : Nat) (v : Word32) : (ringCfgWord n geo v).testBit 31 = v.getLsbD 31 := by
  obtain ⟨m, hm, heq⟩ := ringCfgWord_parts n geo v
  have h15 : bits v.toNat 15 8 < 256 := Nat.mod_lt _ (by decide)
  have h1 : bits v.toNat 1 0 < 4 := Nat.mod_lt _ (by decide)
  have hdiv : ringCfgWord n geo v / 2 ^ 31 = b2n (v.getLsbD 31) := by omega
  rw [Nat.testBit_eq_decide_div_mod_eq, hdiv]
  cases v.getLsbD 31 <;> rfl

theorem ringEn_regStore (n geo : Nat) (v : Word32) (s : State) :
    ringEn (regStore (Reg.DMA_RING_CFG n) (BitVec.ofNat 32 (ringCfgWord n geo v)) s) n = v.getLsbD 31 := by
  rw [ringEn, flagOf, regRead_store_same, BitVec.getLsbD_ofNat, testBit_ringCfgWord]
  exact Bool.true_and _

theorem flushUs_regStore (n geo : Nat) (v : Word32) (s : State) :
    fieldOf (regStore (Reg.DMA_RING_CFG n) (BitVec.ofNat 32 (ringCfgWord n geo v)) s) (Reg.DMA_RING_CFG n) 15 8 = bits v.toNat 15 8 := by
  rw [fieldOf_regStore_same, BitVec.toNat_ofNat, Nat.mod_eq_of_lt (ringCfgWord_lt ..), bits_ringCfgWord]

theorem ringCfgWrite_enable {n : Nat} {v : Word32} (hv : v.getLsbD 31 = true) (s : State) : ∃ geo,
    ringCfgWrite n v s = regStore (Reg.DMA_RING_CFG n) (BitVec.ofNat 32 (ringCfgWord n geo v)) s := by
  unfold ringCfgWrite ringCfgWord
  dsimp only
  rw [if_pos hv]
  exact ⟨_, rfl⟩

theorem ringCfgWrite_disable {n : Nat} {v : Word32} (hv : v.getLsbD 31 = false) (s : State) : ∃ geo,
    ringCfgWrite n v s = regStore (Reg.DMA_RING_CFG n) (BitVec.ofNat 32 (ringCfgWord n geo v))
      ((closeBuffer n s).modRing n fun r => { dropRun r with err := false, errCode := 0 }) := by
  unfold ringCfgWrite ringCfgWord
  dsimp only
  rw [if_neg (by rw [hv]; decide)]
  exact ⟨_, rfl⟩

theorem dropRun_open (r : Ring) : (dropRun r).open_ = r.open_ := by
  unfold dropRun
  split
  · split <;> rfl
  · rfl

/-! ### Descriptors -/

theorem haltRing_ring (n code : Nat) (s : State) :
    (haltRing n code s).ringAt n = { s.ringAt n with err := true, errCode := code, inject := none } := by
  unfold haltRing
  rw [ringAt_of_rings ((emit_rings ..).trans (cause_rings ..)), State.ringAt_modRing_same]

theorem descFetch_none {n : Nat} {data : Option Bytes} {s : State} (h : canFetch s n = true) : descFetch n none data s = haltRing n 1 s := by
  simp only [descFetch, h, Bool.not_true, Bool.false_eq_true, if_false]

theorem descFetch_host {n : Nat} {d : Bytes} {data : Option Bytes} {s : State} (h : canFetch s n = true) (hn : n < 16) :
    descFetch n (some d) data s = fetchHost n (slice d 0 32) (fromHost 32 s) := by
  simp only [descFetch, h, Bool.not_true, Bool.false_eq_true, if_false, if_pos hn]

theorem descFetch_inject {n : Nat} {d : Bytes} {data : Option Bytes} {s : State} (h : canFetch s n = true) (hn : 16 ≤ n)
    (hinject : ringTable (fromHost 32 s) n = false) : descFetch n (some d) data s = fetchInject n (slice d 0 32) (fromHost 32 s) := by
  simp only [descFetch, h, Bool.not_true, Bool.false_eq_true, if_false, if_neg (Nat.not_lt.2 hn), hinject]

theorem fromHost_ring (k n : Nat) (s : State) : (fromHost k s).ringAt n = s.ringAt n := ringAt_of_rings (perfN_rings ..) n

theorem canFetch_freshOut (s : State) (n : Nat) : canFetch (freshOut s) n = canFetch s n := rfl

/-! ### Batches, starvation and spanning records -/

theorem batchDone_acts {n : Nat} {x : Batch} {s : State} (hx : (s.ringAt n).batch = some x) (hrest : x.rest = []) :
    ((batchDone n s).ringAt n).batch = none ∧ ((batchDone n s).ringAt n).head < 2 ^ 15 := by
  have hempty : (!x.rest.isEmpty) = false := by rw [hrest]; rfl
  simp only [batchDone, hx, hempty, Bool.false_eq_true, if_false]
  generalize batchWriteBack n _ x _ = v
  obtain ⟨h, hlt, heq⟩ := advanceHead_ring n (v.modRing n fun r => { r with batch := none })
  rw [heq, State.ringAt_modRing_same]
  exact ⟨rfl, hlt⟩

theorem starveInterval_acts {n : Nat} {s : State} (hst : starved s n = true) (hdue : us 1 ≤ since s (s.ringAt n).starveAt) (t : State)
    (ht : t = starveInterval n s) : (t.ringAt n).starveAt = s.time.tick ∧ flagOf t Reg.DMA_IRQ_CAUSE 3 = true ∧
    t = { s with regs := t.regs, rings := t.rings } := by
  simp only [starveInterval, hst, decide_eq_true hdue, Bool.and_self, if_true] at ht
  subst ht
  refine ⟨?_, flagOf_cause_same _ _ _ (by decide), ?_⟩
  · rw [ringAt_of_rings ((cause_rings ..).trans (bump_rings ..)), State.ringAt_modRing_same]
  · rw [cause_frame, bump_frame]
    rfl

/-- The rest of a record goes on into the open buffer as far as it has room (R463). -/
theorem writePart_span (n kind : Nat) (o : OpenBuf) (body : Bytes) (start : Bool) (s : State) :
    ((writePart n kind o body start s).ringAt n).span = body.drop (o.len - o.fill) := by
  have hclose : ∀ v, ((closeBuffer n v).ringAt n).span = (v.ringAt n).span := fun v => by
    obtain ⟨h, heq⟩ := closeBuffer_ring n v
    rw [heq]
  unfold writePart
  dsimp only
  refine iteInduction (motive := fun v : State => (v.ringAt n).span = _) (fun _ => ?_) (fun _ => ?_)
  · rw [hclose, State.ringAt_modRing_same]
  · rw [State.ringAt_modRing_same]

/-- The rest of a Sillage record is written on. -/
theorem recordWrite_span {n : Nat} {o : OpenBuf} {s : State} (hup : s.pcie.up = true) (hn : n < 16) (hspan : (s.ringAt n).span ≠ [])
    (ho : (s.ringAt n).open_ = some o) (hkind : (s.ringAt n).spanKind = 2) :
    ((recordWrite n s).ringAt n).span = (s.ringAt n).span.drop (o.len - o.fill) := by
  have hne : (s.ringAt n).span.isEmpty = false := by rwa [Bool.eq_false_iff, ne_eq, List.isEmpty_iff]
  have hrest : placeRest n s = writePart n 2 o (s.ringAt n).span false s := by
    simp only [placeRest, ho, hne, hkind, Bool.false_eq_true, if_false]
  have hrow : recordWrite n s = placeRest n s := by
    unfold recordWrite
    rw [hup, decide_eq_false (Nat.not_le.2 hn), if_neg (by decide)]
    simp only [hne, Bool.not_false, if_true, hkind]
    exact ite_self _
  rw [hrow, hrest, writePart_span]

/-! ### Injected frames -/

theorem injectRead_due {n : Nat} {d : Bytes} {ds : List Bytes} {data : Option Bytes} {s : State}
    (hrun : (s.ringAt n).inject = some { descs := d :: ds }) (hwhole : runOpen (s.ringAt n) = false) (herr : (s.ringAt n).err = false)
    (hup : s.pcie.up = true) (hrunning : running s = true) (hlen : ((d :: ds).map fun d => leAt d 8 2).foldl (· + ·) 0 ≤ 15996)
    (hport : portExists s (byteAt d 12) = true) : (data = none → injectRead n data s = haltRing n 1 s) ∧
    ∀ x, data = some x → injectRead n data s =
      injectFrame n (d :: ds) d (slice x 0 (((d :: ds).map fun d => leAt d 8 2).foldl (· + ·) 0))
        (fromHost (((d :: ds).map fun d => leAt d 8 2).foldl (· + ·) 0) s) := by
  have hdescs : runOf (s.ringAt n) = d :: ds := by simp only [runOf, hrun]
  generalize htotal : ((d :: ds).map fun d => leAt d 8 2).foldl (· + ·) 0 = total at hlen ⊢
  constructor
  · rintro rfl
    simp only [injectRead, hdescs, htotal, hwhole, herr, hup, hrunning, hport, Bool.not_true, Bool.or_self, Bool.false_eq_true, if_false,
      if_neg (Nat.not_lt.2 hlen)]
  · rintro x rfl
    simp only [injectRead, hdescs, htotal, hwhole, herr, hup, hrunning, hport, Bool.not_true, Bool.or_self, Bool.false_eq_true, if_false,
      if_neg (Nat.not_lt.2 hlen)]

/-- Settles O15: each clause is the lemma of its ring operation on the state with its host writes begun anew. -/
theorem ringCommandsAct : Obligations.RingCommandsAct := by
  unfold Obligations.RingCommandsAct
  refine ⟨fun s n o hup ho hfill hdue => ⟨_, congrArg Host.Outcome.next (if_pos hup), ?_⟩,
    fun s n v hv hup => ⟨_, congrArg Host.Outcome.next (if_pos (by rw [hv, hup]; rfl)), ?_⟩,
    fun s n v hv hup => ⟨_, congrArg Host.Outcome.next (if_pos (by rw [hv, hup]; rfl)), ?_⟩,
    fun s n v hup => ⟨_, congrArg Host.Outcome.next (if_pos hup), regRead_store_same .., rfl⟩,
    fun s n d data hfetch => ⟨_, rfl, ?_⟩, fun s n x hup hx hrest => ⟨_, congrArg Host.Outcome.next (if_pos hup), ?_⟩,
    fun s n hst hdue => ⟨_, rfl, starveInterval_acts hst hdue _ rfl⟩,
    fun s n o hup hn hspan ho hkind => ⟨_, rfl, recordWrite_span (s := freshOut s) hup hn hspan ho hkind⟩,
    fun s n d ds data hrun hwhole herr hup hrunning hlen hport => ⟨_, rfl, ?_⟩⟩
  · exact flushTimeout_acts (s := freshOut s) ho hfill hdue
  · obtain ⟨geo, heq⟩ := ringCfgWrite_enable (n := n) hv (freshOut s)
    rw [heq, ringEn_regStore, flushUs_regStore, regStore_rings]
    exact ⟨hv, rfl, rfl⟩
  · obtain ⟨geo, heq⟩ := ringCfgWrite_disable (n := n) hv (freshOut s)
    obtain ⟨h, hring⟩ := closeBuffer_ring n (freshOut s)
    rw [heq, ringEn_regStore, hv, ringAt_of_rings (regStore_rings ..), State.ringAt_modRing_same, hring]
    exact ⟨rfl, dropRun_open _, rfl, rfl⟩
  · have hfetch := (canFetch_freshOut s n).trans hfetch
    refine ⟨?_, ?_, ?_, ?_⟩
    · rintro rfl
      rw [descFetch_none hfetch, haltRing_ring]
      exact ⟨rfl, rfl⟩
    · rintro x rfl hn hok
      rw [descFetch_host hfetch hn, fetchHost, if_pos hok, State.ringAt_modRing_same]
    · rintro x rfl hn hbad
      rw [descFetch_host hfetch hn, fetchHost, if_neg (by rw [hbad]; decide), haltRing_ring]
      exact ⟨rfl, rfl⟩
    · rintro x rfl hn hinject hok
      rw [descFetch_inject hfetch hn hinject, fetchInject, if_pos hok, State.ringAt_modRing_same, fromHost_ring]
      rfl
  · exact batchDone_acts (s := freshOut s) hx hrest
  · obtain ⟨hnone, hsome⟩ := injectRead_due (s := freshOut s) (data := data) hrun hwhole herr hup hrunning hlen hport
    refine ⟨fun h => ?_, hsome⟩
    rw [hnone h, haltRing_ring]
    exact ⟨rfl, rfl⟩

end Sys2Proof.Machine
end


section
/-!
PROOFS. Flow control (R293 to R295), and the link states of the ports (R307, R309 to R311).
-/
namespace Sys2Proof.Machine

/-! ### Flow control -/

theorem pauseExpiry_due {p c e : Nat} {s : State} (h : Tbl.find (s.schedAt p).pauseEnd c = some e) (hdue : e ≤ s.time.tick) :
    pauseExpiry p c s = s.setSched p { s.schedAt p with pauseEnd := Tbl.del (s.schedAt p).pauseEnd c } := by
  simp only [pauseExpiry, h, if_pos hdue]

theorem emitFc_frame (p : Nat) (f : Bytes) (s : State) : emitFc p f s =
    { s with regs := (emitFc p f s).regs, perf := (emitFc p f s).perf, out := { s.out with fc := s.out.fc ++ [(p, f)] } } := by
  have hfield : ∀ v, bumpField (Reg.TM_FC_CNT p) 15 0 v = { v with regs := (bumpField (Reg.TM_FC_CNT p) 15 0 v).regs } := fun v => by
    unfold bumpField
    split
    · rfl
    · exact setField_frame ..
  have hwin : ∀ v, winCount p (f.length + 4) true v = { v with perf := (winCount p (f.length + 4) true v).perf } := fun v => by
    unfold winCount
    split <;> rfl
  unfold emitFc
  rw [hwin, perf_frame, hfield]

/-- The frame waits behind the copy under way, or leaves (R295). -/
theorem sendFc_acts (p : Nat) (f : Bytes) (s t : State) (ht : t = sendFc p f s) :
    (t.schedAt p).xoff = (s.schedAt p).xoff ∧
    (if (s.schedAt p).sending.isSome then t.out = s.out ∧ (t.schedAt p).fcQ = (s.schedAt p).fcQ ++ [f]
      else t.out.fc = s.out.fc ++ [(p, f)]) ∧ t = { s with tm := t.tm, regs := t.regs, perf := t.perf, out := t.out } := by
  unfold sendFc at ht
  split at ht
  next hsending =>
    rw [if_pos hsending]
    subst ht
    rw [State.schedAt_modSched_same]
    exact ⟨rfl, ⟨rfl, rfl⟩, rfl⟩
  next hidle =>
    rw [if_neg hidle]
    rw [emitFc_frame] at ht
    rw [ht]
    exact ⟨rfl, rfl, rfl⟩

/-- PORT's XOFF in mode 1 is repeated. -/
theorem xoffRepeat_due {p at_ : Nat} {s : State} (htx : portTx s p = .frames) (hmode : fcMode s p = 1)
    (hx : (s.schedAt p).xoff.find? (·.1 == 8) = some (8, at_)) (hdue : bitTimes (512 * 0x8000) (portGbps s p) ≤ since s at_)
    (hcount : fcXon s p < fcCount s p 8) : xoffRepeat p 8 s = sendFc p (fcFrame s p 0x0001 (beBytes 2 0xFFFF))
      (s.setSched p { s.schedAt p with xoff := (s.schedAt p).xoff.map fun e => if e.1 = 8 then (8, s.time.tick) else e }) := by
  have hkeeps : fcKeeps s p 8 = true := by rw [fcKeeps, if_pos rfl, hmode]; rfl
  unfold xoffRepeat
  dsimp only
  rw [hx]
  dsimp only
  rw [if_neg (by rw [htx, hkeeps]; simp only [ne_eq, not_true, Bool.true_eq_false, false_or, not_or]; exact ⟨Nat.not_lt.2 hdue, Nat.not_le.2 hcount⟩)]
  unfold sendX
  rw [if_pos rfl, if_pos rfl]
  rfl

theorem mem_renewed {l : List (Nat × Nat)} {at_ : Nat} (now : Nat) (h : l.find? (·.1 == 8) = some (8, at_)) :
    (8, now) ∈ l.map fun e => if e.1 = 8 then (8, now) else e :=
  List.mem_map.2 ⟨_, List.mem_of_find?_eq_some h, if_pos rfl⟩

/-! ### Ports -/

theorem ports_of_line {s t : State} (h : t.line = s.line) : t.ports = s.ports := congrArg (·.1) h

theorem portAt_of_ports {s t : State} (h : t.ports = s.ports) (p : Nat) : t.portAt p = s.portAt p := by
  rw [State.portAt, h, State.portAt]

@[simp] theorem noteLink_ports (p : Nat) (s : State) : (noteLink p s).ports = s.ports := emit_ports ..

/-- The state of a port that goes to DOWN or ACQUIRE. -/
def leftPort (x : Port) (st : LinkState) : Port :=
  { x with st := st, alignedAt := none, faultAt := none, localFault := st != .down && x.localFault }

theorem leaveTo_ports (p : Nat) (st : LinkState) (s : State) :
    (leaveTo p st s).ports = (s.setPort p (leftPort (s.portAt p) st)).ports := by
  have hlanes : ∀ v, v = (if st = .down then setLanes p (fun _ => {}) (s.setPort p (leftPort (s.portAt p) st))
      else s.setPort p (leftPort (s.portAt p) st)) → v.ports = (s.setPort p (leftPort (s.portAt p) st)).ports := by
    rintro v rfl
    split <;> rfl
  unfold leaveTo
  dsimp only
  split
  · rw [ports_of_line (freezeQueues_line ..), noteLink_ports, bump_ports, cause_ports]
    exact hlanes _ rfl
  · exact hlanes _ rfl

/-- A port that goes to DOWN or ACQUIRE changes no other port. -/
theorem leaveTo_portAt (p : Nat) (st : LinkState) (s : State) (q : Nat) :
    (leaveTo p st s).portAt q = if p = q then leftPort (s.portAt p) st else s.portAt q := by
  rw [portAt_of_ports (leaveTo_ports ..), State.portAt_setPort]

/-- A port that is not UP goes to ACQUIRE with nothing but itself changed. -/
theorem leaveTo_acquire {p : Nat} {s : State} (h : (s.portAt p).st ≠ .up) :
    leaveTo p .acquire s = s.setPort p (leftPort (s.portAt p) .acquire) := by
  unfold leaveTo
  dsimp only
  rw [if_neg h, if_neg (by decide)]
  rfl

/-- The port as it starts (R309). -/
def startedPort (x : Port) : Port := leftPort { x with localFault := true, remoteFault := false, hiBer := false } .acquire

theorem portStart_ready {p : Nat} {s : State} (hready : portReady s p = true) (hdown : (s.portAt p).st = .down) :
    portStart p s = (s.modPort p fun x => { x with localFault := true, remoteFault := false, hiBer := false }).setPort p
      (startedPort (s.portAt p)) := by
  have hst : ((s.modPort p fun x => { x with localFault := true, remoteFault := false, hiBer := false }).portAt p).st ≠ .up := by
    rw [State.portAt_modPort_same, hdown]
    nofun
  rw [portStart, if_pos ⟨hready, hdown⟩, leaveTo_acquire hst, State.portAt_modPort_same]
  rfl

theorem portStart_idle {p : Nat} {s : State} (h : ¬(portReady s p = true ∧ (s.portAt p).st = .down)) : portStart p s = s := if_neg h

/-- A start changes the ports alone. -/
theorem portStart_frame (p : Nat) (s : State) : portStart p s = { s with ports := (portStart p s).ports } := by
  by_cases h : portReady s p = true ∧ (s.portAt p).st = .down
  · rw [portStart_ready h.1 h.2]
    rfl
  · rw [portStart_idle h]

theorem portStart_portAt_ne (p : Nat) (s : State) {q : Nat} (hq : p ≠ q) : (portStart p s).portAt q = s.portAt q := by
  by_cases h : portReady s p = true ∧ (s.portAt p).st = .down
  · rw [portStart_ready h.1 h.2, State.portAt_setPort, if_neg hq, State.portAt_modPort, if_neg hq]
  · rw [portStart_idle h]

theorem portStop_portAt_ne (p : Nat) (s : State) {q : Nat} (hq : p ≠ q) : (portStop p s).portAt q = s.portAt q := by
  unfold portStop
  split
  · rfl
  · rw [leaveTo_portAt, if_neg hq]

theorem portStop_portAt_same (p : Nat) (s : State) : ((portStop p s).portAt p).st = .down := by
  unfold portStop
  split
  · assumption
  · rw [leaveTo_portAt, if_pos rfl]
    rfl

theorem portCtrlWrite_enable {p : Nat} {v : Word32} {s : State} (hv : v.getLsbD 0 = true) (hp : portExists s p = true) :
    portCtrlWrite p v s = portStart p (regStore (Reg.PORT_CTRL p) (v &&& 1#32) s) := by
  simp only [portCtrlWrite, hp, hv, Bool.not_true, Bool.false_eq_true, if_false, if_true]

theorem portCtrlWrite_disable {p : Nat} {v : Word32} {s : State} (hv : v.getLsbD 0 = false) (hp : portExists s p = true) :
    portCtrlWrite p v s = portStop p (regStore (Reg.PORT_CTRL p) (v &&& 1#32) s) := by
  simp only [portCtrlWrite, hp, hv, Bool.not_true, Bool.false_eq_true, if_false]

/-! ### Links -/

theorem linkUp_due {p a : Nat} {s : State} (hst : (s.portAt p).st = .align) (ha : (s.portAt p).alignedAt = some a)
    (hready : portReady s p = true) (hlocal : (s.portAt p).localFault = false) (hremote : (s.portAt p).remoteFault = false)
    (hdue : upHold s p ≤ since s a) : (linkUp p s).portAt p = { s.portAt p with st := .up } := by
  simp only [linkUp, hst, ha, hready, hlocal, hremote, decide_eq_true hdue, Bool.not_false, Bool.and_self, if_true]
  rw [portAt_of_ports (ports_of_line (fcUpdate_line ..)), portAt_of_ports (ports_of_line (resumeQueues_line ..)),
    portAt_of_ports ((noteLink_ports ..).trans (cause_ports ..)), State.portAt_setPort_same]

/-- The port as a loss leaves it. -/
def lossPort (x : Port) (why : LinkLoss) (now : Nat) : Port :=
  { x with
    faultAt := some (x.faultAt.getD now)
    alignedAt := if x.st = .align then none else x.alignedAt
    hiBer := x.hiBer || why == .hiBer
    remoteFault := x.remoteFault || why == .remoteFault
    localFault := x.localFault || why != .remoteFault }

/-- A loss changes its own port, the lanes, and in the registers the port's cause at most. -/
theorem noteLoss_acts (p : Nat) (why : LinkLoss) (lane : Nat) (s t : State) (ht : t = noteLoss p why lane s) :
    t.ports = (s.setPort p (lossPort (s.portAt p) why s.time.tick)).ports ∧ t = { s with ports := t.ports, lanes := t.lanes, regs := t.regs } ∧
    (∀ q hi lo, Reg.PORT_IRQ_CAUSE p ≠ q → fieldOf t q hi lo = fieldOf s q hi lo) ∧
    (why = .remoteFault → flagOf t (Reg.PORT_IRQ_CAUSE p) 2 = true) := by
  have hlanes : ∃ v, v.ports = (s.setPort p (lossPort (s.portAt p) why s.time.tick)).ports ∧ v = { s with ports := v.ports, lanes := v.lanes } ∧
      t = if why = .remoteFault then cause (Reg.PORT_IRQ_CAUSE p) 2 v else v := by
    rw [ht]
    refine ⟨if why = .signal ∧ lane < modeLanes (s.portCfgAt p).speed
        then { s.setPort p (lossPort (s.portAt p) why s.time.tick) with lanes := Tbl.set s.lanes (p + lane) {} {} }
        else s.setPort p (lossPort (s.portAt p) why s.time.tick), ?_, ?_, rfl⟩ <;> split <;> rfl
  obtain ⟨v, hports, hframe, rfl⟩ := hlanes
  have hregs : v.regs = s.regs := by rw [hframe]
  by_cases hwhy : why = .remoteFault
  · rw [if_pos hwhy]
    refine ⟨(cause_ports ..).trans hports, by rw [cause_frame, hframe], fun q hi lo hq => ?_, fun _ => flagOf_cause_same _ _ _ (by decide)⟩
    rw [fieldOf, regRead_cause_ne _ _ _ _ hq, regRead_congr hregs, fieldOf]
  · rw [if_neg hwhy]
    refine ⟨hports, by rw [hframe], fun q hi lo _ => fieldOf_congr hregs .., fun h => absurd h hwhy⟩

/-- What a loss of a port with its link up or coming up leaves of its ports before the debounce is judged, and how it goes on. -/
theorem linkDown_eq {p : Nat} {why : LinkLoss} {lane : Nat} {s : State} (hst : (s.portAt p).st = .up ∨ (s.portAt p).st = .align) :
    linkDown p why lane s =
      if us (fieldOf s (Reg.PORT_LINK_CFG p) 31 16) ≤ since s ((s.portAt p).faultAt.getD s.time.tick)
      then leaveTo p .acquire (noteLoss p why lane s) else noteLoss p why lane s := by
  obtain ⟨-, hframe, hfield, -⟩ := noteLoss_acts p why lane s _ rfl
  have htime : (noteLoss p why lane s).time = s.time := by rw [hframe]
  unfold linkDown
  dsimp only
  rw [if_pos hst, hfield _ _ _ (by simp only [Reg.PORT_IRQ_CAUSE, Reg.PORT_LINK_CFG]; omega), since, since, htime]

/-- A loss that has lasted DOWN_DEBOUNCE_US takes the port to ACQUIRE. -/
theorem linkDown_debounced {p : Nat} {why : LinkLoss} {lane : Nat} {s : State} (hst : (s.portAt p).st = .up ∨ (s.portAt p).st = .align)
    (hdue : us (fieldOf s (Reg.PORT_LINK_CFG p) 31 16) ≤ since s ((s.portAt p).faultAt.getD s.time.tick)) (q : Nat) :
    (linkDown p why lane s).portAt q =
      if p = q then leftPort (lossPort (s.portAt p) why s.time.tick) .acquire else s.portAt q := by
  obtain ⟨hports, -⟩ := noteLoss_acts p why lane s _ rfl
  rw [linkDown_eq hst, if_pos hdue, leaveTo_portAt, portAt_of_ports hports, portAt_of_ports hports, State.portAt_setPort_same]
  by_cases hq : p = q
  · rw [if_pos hq, if_pos hq]
  · rw [if_neg hq, if_neg hq, State.portAt_setPort, if_neg hq]

/-- A loss that is new waits for DOWN_DEBOUNCE_US. -/
theorem linkDown_new {p : Nat} {why : LinkLoss} {lane : Nat} {s : State} (hst : (s.portAt p).st = .up ∨ (s.portAt p).st = .align)
    (hnew : (s.portAt p).faultAt = none) (hdeb : 0 < fieldOf s (Reg.PORT_LINK_CFG p) 31 16) :
    linkDown p why lane s = noteLoss p why lane s := by
  rw [linkDown_eq hst, hnew, Option.getD_none, if_neg]
  unfold us since
  omega

/-! ### The Ethernet reference clock -/

theorem refclkEthLoss_stops (s : State) : (refclkEthLoss s).pins.refclkEthBad = true ∧ ∀ p, p < 64 → ((refclkEthLoss s).portAt p).st = .down := by
  unfold refclkEthLoss
  constructor
  · refine foldl_keeps (P := fun t : State => t.pins.refclkEthBad = true) _ (fun t p h => ?_) _ rfl
    rw [show (portStop p t).pins = t.pins from congrArg (·.2) (portStop_power p t), h]
  · intro p hp
    refine foldl_reaches (P := fun t : State => (t.portAt p).st = .down) _ (List.mem_range.2 hp) (portStop_portAt_same p) (fun t q h => ?_) _
    by_cases hq : q = p
    · rw [hq, portStop_portAt_same]
    · rw [portStop_portAt_ne _ _ hq, h]

theorem refclkEthReturn_good (s : State) : (refclkEthReturn s).pins.refclkEthBad = false := by
  unfold refclkEthReturn
  refine foldl_keeps (P := fun t : State => t.pins.refclkEthBad = false) _ (fun t p h => ?_) _ rfl
  rw [portStart_frame, h]

theorem refclkEthReturn_start {p : Nat} {s : State} (hp : p < 64) (hdown : (s.portAt p).st = .down)
    (hready : portReady { s with pins := { s.pins with refclkEthBad := false } } p = true) : ((refclkEthReturn s).portAt p).st = .acquire := by
  have hready_of : ∀ v : State, v = { s with pins := { s.pins with refclkEthBad := false }, ports := v.ports } → portReady v p = true := by
    intro v hv
    rw [hv]
    exact hready
  obtain ⟨l₁, l₂, hl⟩ := List.append_of_mem (List.mem_range.2 hp)
  have hstarted : ∀ v q, (v.portAt p).st = .acquire → ((portStart q v).portAt p).st = .acquire := by
    intro v q hv
    by_cases hq : q = p
    · rw [hq, portStart_idle (by rw [hv]; exact fun h => nomatch h.2), hv]
    · rw [portStart_portAt_ne _ _ hq, hv]
  have hwaits : ∀ v q, (v = { s with pins := { s.pins with refclkEthBad := false }, ports := v.ports } ∧
      ((v.portAt p).st = .down ∨ (v.portAt p).st = .acquire)) →
      (portStart q v = { s with pins := { s.pins with refclkEthBad := false }, ports := (portStart q v).ports } ∧
      (((portStart q v).portAt p).st = .down ∨ ((portStart q v).portAt p).st = .acquire)) := by
    intro v q ⟨hv, hst⟩
    refine ⟨by rw [portStart_frame]; exact congrArg (fun x : State => { x with ports := (portStart q v).ports }) hv, ?_⟩
    by_cases hq : q = p
    · obtain hst | hst := hst
      · rw [hq, portStart_ready (hready_of v hv) hst, State.portAt_setPort_same]
        exact .inr rfl
      · exact .inr (hstarted v q hst)
    · rw [portStart_portAt_ne _ _ hq]
      exact hst
  unfold refclkEthReturn
  rw [hl, List.foldl_append, List.foldl_cons]
  refine foldl_keeps _ hstarted l₂ ?_
  obtain ⟨hv, hst⟩ := foldl_keeps _ hwaits l₁ (s := { s with pins := { s.pins with refclkEthBad := false } }) ⟨rfl, .inl hdown⟩
  obtain hst | hst := hst
  · rw [portStart_ready (hready_of _ hv) hst, State.portAt_setPort_same]
    rfl
  · exact hstarted _ _ hst

/-- Settles O39: each clause is the lemma of its command; the clock's loss stops each of the ports, and its return starts them. -/
theorem flowControlAndLinkCommandsAct : Obligations.FlowControlAndLinkCommandsAct := by
  unfold Obligations.FlowControlAndLinkCommandsAct
  refine ⟨fun s p c e h hdue => ⟨_, congrArg Host.Outcome.next (pauseExpiry_due h hdue), State.schedAt_setSched_same .., rfl⟩,
    fun s p at_ htx hmode hx hdue hcount => ⟨_, congrArg Host.Outcome.next (xoffRepeat_due htx hmode hx hdue hcount), ?_⟩,
    fun s p v hv bar hp hready hdown => ⟨_, congrArg Host.Outcome.next ((if_pos hv).trans (gated_open bar _)), ?_⟩,
    fun s p v hv bar hp hidle => ⟨_, congrArg Host.Outcome.next ((if_pos hv).trans (gated_open bar _)), ?_⟩,
    fun s p v hv bar hp => ⟨_, congrArg Host.Outcome.next ((if_pos (by rw [hv]; rfl)).trans (gated_open bar _)), ?_⟩,
    fun s p hst hready => ⟨_, congrArg Host.Outcome.next (if_pos ⟨hst, hready⟩), ?_⟩,
    fun s p hst hready => ⟨_, congrArg Host.Outcome.next (if_pos ⟨.inl hst, hready⟩), ?_⟩,
    fun s p a hst ha hready hlocal hremote hdue => ⟨_, rfl, linkUp_due hst ha hready hlocal hremote hdue, linkUp_kept ..⟩,
    fun s p why lane hst hdue => ⟨_, rfl, ?_⟩, fun s p why lane hst hnew hdeb => ⟨_, rfl, ?_⟩,
    fun s p hst => ⟨_, congrArg Host.Outcome.next (if_pos hst), ?_⟩, fun s => ⟨_, rfl, refclkEthLoss_stops s⟩,
    fun s => ⟨_, rfl, refclkEthReturn_good s, fun p hp hdown hready => refclkEthReturn_start hp hdown hready⟩⟩
  · obtain ⟨hxoff, hout, hframe⟩ := sendFc_acts p.val (fcFrame s p.val 0x0001 (beBytes 2 0xFFFF)) (s.setSched p.val { s.schedAt p.val with
      xoff := (s.schedAt p.val).xoff.map fun e => if e.1 = 8 then (8, s.time.tick) else e }) _ rfl
    rw [State.schedAt_setSched_same] at hxoff hout
    exact ⟨hxoff ▸ mem_renewed s.time.tick hx, hout, hframe⟩
  · refine ⟨?_, ?_, portCtrlWrite_kept ..⟩ <;> rw [portCtrlWrite_enable hv hp, portStart_ready hready hdown, State.portAt_setPort_same] <;> rfl
  · exact (portCtrlWrite_enable hv hp).trans (portStart_idle hidle)
  · refine ⟨?_, fun q hq => ?_, portCtrlWrite_kept ..⟩ <;> rw [portCtrlWrite_disable hv hp]
    · exact portStop_portAt_same ..
    · exact (portStop_portAt_ne _ _ hq.symm).trans rfl
  · beta_reduce
    rw [State.portAt_modPort_same]
    exact ⟨rfl, rfl⟩
  · beta_reduce
    rw [State.portAt_setPort_same]
    exact ⟨if_neg (by rw [hst]; decide), rfl, hst, rfl⟩
  · have hport := linkDown_debounced (why := why) (lane := lane.val) hst hdue
    refine ⟨?_, ?_, ?_, fun q hq => by rw [hport, if_neg hq.symm], linkDown_kept ..⟩ <;> rw [hport, if_pos rfl] <;> rfl
  · obtain ⟨hports, hframe, -⟩ := noteLoss_acts p.val why lane.val s _ rfl
    have heq := linkDown_new (why := why) (lane := lane.val) hst hnew hdeb
    rw [show linkDown p.val why lane.val s = _ from heq, portAt_of_ports hports, State.portAt_setPort_same]
    exact ⟨rfl, congrArg (fun x => some (Option.getD x s.time.tick)) hnew, hframe⟩
  · obtain ⟨hports, hframe, -, hcause⟩ := noteLoss_acts p.val .remoteFault 0 s _ rfl
    rw [portAt_of_ports hports, State.portAt_setPort_same]
    exact ⟨Bool.or_true _, rfl, rfl, hcause rfl, hframe⟩

end Sys2Proof.Machine
end


section
/-!
PROOFS. The schedulers: how a copy starts and ends (R262, R266 to R268, R281), frozen queues (R297), and the boundaries of a gate's list
(R288, R290).
-/
namespace Sys2Proof.Machine

/-! ### Steps that leave what is being sent -/

/-- The step leaves what leaves the ports now, what each scheduler is sending, and the queues. -/
structure SendStep (s t : State) : Prop where
  tx : t.out.tx = s.out.tx
  sending : ∀ k, (t.schedAt k).sending = (s.schedAt k).sending
  queues : t.swc.queues = s.swc.queues

theorem SendStep.refl (s : State) : SendStep s s := ⟨rfl, fun _ => rfl, rfl⟩

theorem SendStep.trans {s t u : State} (h : SendStep s t) (k : SendStep t u) : SendStep s u :=
  ⟨k.tx.trans h.tx, fun i => (k.sending i).trans (h.sending i), k.queues.trans h.queues⟩

theorem SendStep.queueAt {s t : State} (h : SendStep s t) (n : Nat) : queueAt t n = queueAt s n := by
  rw [Machine.queueAt, h.queues, Machine.queueAt]

theorem schedAt_of_scheds {s t : State} (h : t.tm.scheds = s.tm.scheds) (k : Nat) : t.schedAt k = s.schedAt k := by
  rw [State.schedAt, h, State.schedAt]

theorem SendStep.of_frame {s t : State} (h : t = { s with regs := t.regs, dispo := t.dispo, sill := t.sill, perf := t.perf, time := t.time }) :
    SendStep s t :=
  ⟨by rw [h], fun k => congrArg Sched.sending (schedAt_of_scheds (by rw [h]) k), by rw [h]⟩

theorem SendStep.of_regs {s t : State} (h : t = { s with regs := t.regs }) : SendStep s t :=
  .of_frame (by rw [h])

theorem sendStep_emit (src kind p : Nat) (s : State) : SendStep s (emit src kind p s) := .of_frame (by rw [emit_frame])

theorem sendStep_cause (o i : Nat) (s : State) : SendStep s (cause o i s) := .of_regs (cause_frame ..)

theorem sendStep_bump (o : Nat) (s : State) : SendStep s (bump o s) := .of_regs (bump_frame ..)

theorem sendStep_perf (u code : Nat) (s : State) : SendStep s (perf u code s) := .of_regs (perf_frame ..)

theorem sendStep_setClass (n : Nat) (x : TmClass) (s : State) : SendStep s (s.setClass n x) := ⟨rfl, fun _ => rfl, rfl⟩

/-- A change of a scheduler that keeps what it sends. -/
theorem sendStep_setSched {k : Nat} {x : Sched} {s : State} (h : x.sending = (s.schedAt k).sending) : SendStep s (s.setSched k x) := by
  refine ⟨rfl, fun i => ?_, rfl⟩
  rw [State.schedAt_setSched]
  split
  next hk => rw [h, hk]
  · rfl

theorem sendStep_setFrame (f : Nat) (x : Frame) (s : State) : SendStep s (setFrame f x s) := ⟨rfl, fun _ => rfl, rfl⟩

theorem sendStep_dropFrame (f : Nat) (s : State) : SendStep s (dropFrame f s) := ⟨rfl, fun _ => rfl, rfl⟩

theorem sendStep_shape (n : Nat) (ended : Option Nat) (s : State) : SendStep s (shape n ended s) := by
  unfold shape
  split
  · exact sendStep_setClass ..
  · exact .refl s

theorem sendStep_settleEmpty (n : Nat) (s : State) : SendStep s (settleEmpty n s) := by
  unfold settleEmpty
  split
  · exact sendStep_setClass ..
  · exact .refl s

theorem sendStep_winCount (p len : Nat) (tx : Bool) (s : State) : SendStep s (winCount p len tx s) := by
  unfold winCount
  split
  · exact .refl s
  · exact .of_frame rfl

theorem sendStep_dispose (port cls code : Nat) (waited : Bool) (hash : Word64) (arr : Nat) (s : State) :
    SendStep s (dispose port cls code waited hash arr s) := by
  have hcount : SendStep s (dispoCount port cls code s) := by
    unfold dispoCount
    split
    · exact .refl s
    · exact .of_frame rfl
  unfold dispose
  dsimp only
  split
  · split
    · exact (hcount.trans (.of_frame rfl)).trans (sendStep_emit ..)
    · exact hcount.trans (.of_frame rfl)
  · exact hcount

theorem sendStep_countCopy (c : Copy) (code : Nat) (s : State) : SendStep s (countCopy c code s) := by
  unfold countCopy
  split
  · split
    · exact .refl s
    · exact sendStep_dispose ..
  · exact .refl s

theorem sendStep_emitFc (p : Nat) (f : Bytes) (s : State) : SendStep s (emitFc p f s) := by
  rw [emitFc_frame]
  exact ⟨rfl, fun _ => rfl, rfl⟩

theorem sendStep_sendFc (p : Nat) (f : Bytes) (s : State) : SendStep s (sendFc p f s) := by
  unfold sendFc
  split
  · exact sendStep_setSched rfl
  · exact sendStep_emitFc ..

theorem sendStep_sendX (p q : Nat) (off : Bool) (s : State) : SendStep s (sendX p q off s) := by
  unfold sendX
  dsimp only
  exact iteInduction (motive := SendStep s) (fun _ => sendStep_sendFc ..) (fun _ => sendStep_sendFc ..)

theorem sendStep_fcClass (p q : Nat) (s : State) : SendStep s (fcClass p q s) := by
  unfold fcClass
  dsimp only
  split_ifs
  · exact (sendStep_setSched (k := p) (by rfl)).trans (sendStep_sendX ..)
  · exact (sendStep_setSched (k := p) (by rfl)).trans (sendStep_sendX ..)
  · exact .refl s

theorem sendStep_fcUpdate (p : Nat) (s : State) : SendStep s (fcUpdate p s) := by
  unfold fcUpdate
  dsimp only
  generalize hv : (if (s.schedAt p).xoff.all fun e => fcKeeps s p e.1 then s
    else s.modSched p fun x => { x with xoff := x.xoff.filter fun e => fcKeeps s p e.1 }) = v
  have hv : SendStep s v := by
    rw [← hv]
    split
    · exact .refl s
    · exact sendStep_setSched rfl
  split_ifs
  · exact hv
  · exact hv.trans (sendStep_fcClass ..)
  · exact foldl_keeps (P := SendStep s) _ (fun t q h => h.trans (sendStep_fcClass ..)) _ hv
  · exact hv

theorem sendStep_release (f : Nat) (s : State) : SendStep s (release f s) := by
  unfold release
  split
  · exact .refl s
  next x _ =>
    split
    · dsimp only
      have hgone : SendStep s (if x.tail then dropFrame f (perf uMint 0x05 s)
          else setFrame f { x with refs := 0, cells := [], refused := true } (perf uMint 0x05 s)) := by
        split
        · exact (sendStep_perf ..).trans (sendStep_dropFrame ..)
        · exact (sendStep_perf ..).trans (sendStep_setFrame ..)
      split
      · exact hgone.trans (sendStep_fcUpdate ..)
      · exact hgone
    · exact sendStep_setFrame ..

theorem sendStep_discardCopy (c : Copy) (code : Nat) (s : State) : SendStep s (discardCopy c code s) := by
  unfold discardCopy
  dsimp only
  refine .trans ?_ (sendStep_release ..)
  split
  · exact (sendStep_bump ..).trans (sendStep_cause ..)
  · exact sendStep_countCopy ..

theorem sendStep_ts2Push (e : Ts2Entry) (s : State) : SendStep s (ts2Push e s) := by
  unfold ts2Push
  split
  · exact (sendStep_bump ..).trans (sendStep_cause ..)
  · exact .of_frame rfl

theorem sendStep_countRewrite (r : Rewritten) (s : State) : SendStep s (countRewrite r s) := by
  have hbump : ∀ (b : Bool) o t, SendStep s t → SendStep s (if b = true then bump o t else t) := fun b o t h => by
    split
    · exact h.trans (sendStep_bump ..)
    · exact h
  unfold countRewrite
  dsimp only
  have hcounted := hbump r.ptpSkip Reg.EGR_PTP_SKIP_CNT _ (hbump r.nptSkip Reg.EGR_NPT_SKIP_CNT _ (hbump r.mism Reg.EGR_PROFILE_MISM_CNT s (.refl s)))
  split
  · exact hcounted.trans (sendStep_ts2Push ..)
  · exact hcounted

/-! ### A copy starts -/

theorem sramRead_clean (mem : Nat) {r : SramRead} (h : r.ecc = .clean) (s : State) : sramRead mem r s = (false, s) := by
  rw [sramRead, h]
  rfl

theorem tmSelect_idle {k : Nat} {desc buf : SramRead} {s : State} (hk : k ≠ 65) (h : ((s.schedAt k).sending.isSome || !outputOpen s k) = true) :
    tmSelect k desc buf s = s := by
  unfold tmSelect
  dsimp only
  rw [if_neg hk, if_pos (by simpa using h)]

theorem popHead_queueAt (n : Nat) (s : State) : queueAt (popHead n s) n = (queueAt s n).tail := by
  rw [popHead, (sendStep_settleEmpty ..).queueAt]
  exact Tbl.get_set_same ..

/-- The head copy of queue n leaves it as `y`. -/
def sendHead (n : Nat) (r : Rewritten) (y : Sending) (s : State) : State :=
  s |> shape n none |> countRewrite r |> popHead n |> (·.modSched (schedOf n) fun z => { z with sending := some y }) |> perf uTm 0x01

theorem sendHead_acts (n : Nat) (r : Rewritten) (y : Sending) (s : State) :
    ((sendHead n r y s).schedAt (schedOf n)).sending = some y ∧ queueAt (sendHead n r y s) n = (queueAt s n).tail := by
  have hperf := sendStep_perf uTm 0x01 ((popHead n (countRewrite r (shape n none s))).modSched (schedOf n) fun z => { z with sending := some y })
  constructor
  · exact (hperf.sending _).trans (by rw [State.schedAt_modSched_same])
  · refine (hperf.queueAt n).trans ((popHead_queueAt ..).trans ?_)
    rw [((sendStep_shape n none s).trans (sendStep_countRewrite ..)).queueAt]

theorem startCopy_acts {n : Nat} {c : Copy} {rest : List Copy} {x : Frame} {s : State} (hq : queueAt s n = c :: rest)
    (hx : frameAt s c.frame = some x) (t : State) (ht : t = startCopy n s) :
    ((t.schedAt (schedOf n)).sending.map fun y => (y.copy, y.queue, y.start, y.cutThrough)) = some (c, n, s.time.tick, !x.tail) ∧
    queueAt t n = rest := by
  have hstart : ∃ r y, (y.copy, y.queue, y.start, y.cutThrough) = (c, n, s.time.tick, !x.tail) ∧
      startCopy n s = if x.tail then sendHead n r y s else perf uSwc 0x03 (sendHead n r y s) := by
    unfold startCopy
    simp only [hq, hx]
    exact ⟨_, _, rfl, rfl⟩
  obtain ⟨r, y, hy, heq⟩ := hstart
  obtain ⟨hsending, hqueue⟩ := sendHead_acts n r y s
  have hstep : SendStep (sendHead n r y s) t := by
    rw [ht, heq]
    split
    · exact .refl _
    · exact sendStep_perf ..
  rw [hstep.sending, hsending, hstep.queueAt, hqueue, hq, Option.map_some, hy]
  exact ⟨rfl, rfl⟩

theorem tmSelect_starts {k n : Nat} {desc buf : SramRead} {s u : State} (hk : k ≠ 65) (hidle : (s.schedAt k).sending = none)
    (hopen : outputOpen s k = true) (hpick : pick k (preparePick k s) = (some n, u)) (hdesc : desc.ecc = .clean) (hbuf : buf.ecc = .clean) :
    tmSelect k desc buf s = startCopy n u := by
  unfold tmSelect
  dsimp only
  rw [if_neg hk, if_neg (by simp [hidle, hopen]), hpick]
  simp only [startRead, sramRead_clean _ hdesc, sramRead_clean _ hbuf, Bool.false_eq_true, if_false, Bool.or_self]

/-! ### A copy ends -/

/-- The end of a copy leaves its scheduler with nothing under way (R279, R284). -/
theorem chargeEnd_acts (k : Nat) (y : Sending) (len : Nat) (s t : State) (ht : t = chargeEnd k y len s) :
    t.out.tx = s.out.tx ∧ (t.schedAt k).sending = none := by
  unfold chargeEnd at ht
  dsimp only at ht
  generalize hv : settleEmpty y.queue _ = v at ht
  have hv : SendStep s v := by
    rw [← hv]
    refine .trans ?_ (sendStep_settleEmpty ..)
    split
    · exact (sendStep_shape ..).trans (sendStep_setClass ..)
    · exact sendStep_shape ..
  have hflush : SendStep (v.modSched k fun z => { z with sending := none }) t := by
    rw [ht]
    unfold flushFc
    dsimp only
    exact foldl_keeps (P := SendStep _) _ (fun t f h => h.trans (sendStep_emitFc ..)) _ (sendStep_setSched rfl)
  constructor
  · exact hflush.tx.trans hv.tx
  · rw [hflush.sending, State.schedAt_modSched_same]

/-- A copy that ends good leaves its port whole (R262, R266). -/
theorem endGood_acts {k : Nat} (hk : k ≠ 64) (y : Sending) (out : Bytes) (s t : State) (ht : t = endGood k y out s) :
    t.out.tx = some (k, out ++ fcsOf out, false) ∧ (t.schedAt k).sending = none := by
  unfold endGood at ht
  dsimp only at ht
  rw [if_neg hk] at ht
  have hwin := sendStep_winCount k (out.length + 4) true { s with out := { s.out with tx := some (k, out ++ fcsOf out, false) } }
  generalize winCount k (out.length + 4) true { s with out := { s.out with tx := some (k, out ++ fcsOf out, false) } } = w at ht hwin
  obtain ⟨htx, hsending⟩ := chargeEnd_acts k y (out.length + 4) w _ rfl
  have hstep : SendStep (chargeEnd k y (out.length + 4) w) t := by
    rw [ht]
    exact (sendStep_countCopy ..).trans (sendStep_release ..)
  exact ⟨(hstep.tx.trans htx).trans hwin.tx, (hstep.sending k).trans hsending⟩

/-- A copy that ends as a bad tail leaves its port with the complement of its FCS (R268). -/
theorem endBad_acts (k : Nat) (y : Sending) (out : Bytes) (s t : State) (ht : t = endBad k y out s) :
    t.out.tx = some (k, out ++ (fcsOf out).map (~~~ ·), true) ∧ (t.schedAt k).sending = none := by
  unfold endBad at ht
  have hwin := sendStep_winCount k (out.length + 4) true { s with out := { s.out with tx := some (k, out ++ (fcsOf out).map (~~~ ·), true) } }
  generalize winCount k (out.length + 4) true { s with out := { s.out with tx := some (k, out ++ (fcsOf out).map (~~~ ·), true) } } = w at ht hwin
  obtain ⟨htx, hsending⟩ := chargeEnd_acts k y (out.length + 4) w _ rfl
  have hstep : SendStep (chargeEnd k y (out.length + 4) w) t := by
    rw [ht]
    exact ((((sendStep_countCopy ..).trans (sendStep_bump ..)).trans (sendStep_cause ..)).trans (sendStep_perf ..)).trans (sendStep_release ..)
  exact ⟨(hstep.tx.trans htx).trans hwin.tx, (hstep.sending k).trans hsending⟩

theorem txEnd_good {k : Nat} {buf : SramRead} {y : Sending} {x : Frame} {s : State} (hk : k < 64) (hy : (s.schedAt k).sending = some y)
    (hx : frameAt s y.copy.frame = some x) (htail : x.tail = true) (hsent : sentBy s k y ((sentBytes y x).length + 4) = true)
    (hgood : (y.cutThrough && x.bad.isSome) = false) (hbuf : buf.ecc = .clean) :
    ∃ v, txEnd k buf s = endGood k y (sentBytes y x) v := by
  have hwait : ¬(65 ≤ k ∨ (!x.tail) = true ∨ (!sentBy s k y ((sentBytes y x).length + 4)) = true ∨
      (k = 64 ∧ (!linkFree s ((sentBytes y x).length + 6)) = true)) := by
    rw [htail, hsent]
    simp only [Bool.not_true, Bool.false_eq_true, false_or, not_or]
    omega
  unfold txEnd
  simp only [hy, hx, if_neg hwait, sramRead_clean _ hbuf, hgood, Bool.false_and, Bool.false_or, Bool.false_eq_true, if_false]
  exact ⟨_, rfl⟩

theorem underrun_cutThrough {k : Nat} {y : Sending} {x : Frame} {s : State} (hk : k < 64) (hy : (s.schedAt k).sending = some y)
    (hx : frameAt s y.copy.frame = some x) (hcut : y.cutThrough = true) : underrun k s = endBad k y (sentBytes y x) s := by
  unfold underrun
  simp only [hy, hx]
  rw [if_neg]
  rw [hcut]
  simp only [Bool.not_true, Bool.false_eq_true, or_false]
  omega

/-! ### Frozen queues and gates -/

theorem holdExpiry_due {n : Nat} {c : Copy} {s : State} (hn : n < 520) (hq : queueAt s n = [c]) (hdue : holdOver s n = true) :
    queueAt (holdExpiry n s) n = [] := by
  unfold holdExpiry
  rw [if_pos hn, hq]
  simp only [List.length_cons, List.length_nil, holdDiscard, hq, hdue, if_true]
  rw [(((sendStep_cause ..).trans (sendStep_perf ..)).trans (sendStep_discardCopy ..)).queueAt, popHead_queueAt, hq]
  rfl

theorem holdDiscard_held (n f : Nat) {s : State} (h : holdOver s n = false) : holdDiscard n f s = s := by
  cases f with
  | zero => rfl
  | succ f =>
    unfold holdDiscard
    split
    · rfl
    · rw [if_neg (by rw [h]; decide)]

theorem holdExpiry_held {n : Nat} {s : State} (h : holdOver s n = false) : holdExpiry n s = s := by
  rw [holdExpiry, holdDiscard_held _ _ h, ite_self]

theorem gateBoundary_inForce {p : Nat} {g : GateList} {s : State} (h : (s.schedAt p).inForce = some g) :
    ((gateBoundary p s).schedAt p).gateIdx = gateIndex g (nowNs s) ∧ gateBoundary p s = { s with tm := (gateBoundary p s).tm } := by
  unfold gateBoundary
  simp only [h]
  refine foldl_keeps (P := fun t : State => (t.schedAt p).gateIdx = gateIndex g (nowNs s) ∧ t = { s with tm := t.tm }) _ (fun t n ht => ?_) _ ⟨?_, rfl⟩
  · obtain ⟨hidx, hframe⟩ := ht
    split
    · exact ⟨hidx, congrArg (fun v : State => { v with tm := (t.setClass n { t.classAt n with gateHeld := !gateAdmits t n }).tm }) hframe⟩
    · exact ⟨hidx, hframe⟩
  · rw [State.schedAt_setSched_same]

/-- Settles O42: a decision leads to `startCopy`, the end of a copy to `endGood` or `endBad`; the rest are the lemma of the command. -/
theorem schedulerCommandsAct : Obligations.SchedulerCommandsAct := by
  unfold Obligations.SchedulerCommandsAct
  refine ⟨fun s k desc buf hk h => congrArg Host.Outcome.next (tmSelect_idle hk h),
    fun s k desc buf n u c rest x hk hidle hopen hpick hq hx hdesc hbuf =>
      ⟨_, congrArg Host.Outcome.next (tmSelect_starts hk hidle hopen hpick hdesc hbuf), startCopy_acts hq hx _ rfl⟩,
    fun s k buf y x hk hy hx htail hsent hgood hbuf => ?_,
    fun s k y x hk hy hx hcut => ⟨_, congrArg Host.Outcome.next (underrun_cutThrough hk hy hx hcut), endBad_acts _ _ _ _ _ rfl⟩,
    fun s n c hn hq hdue => ⟨_, rfl, holdExpiry_due hn hq hdue⟩, fun s n h => congrArg Host.Outcome.next (holdExpiry_held h),
    fun s p g h => ⟨_, rfl, gateBoundary_inForce h⟩⟩
  obtain ⟨v, heq⟩ := txEnd_good (s := freshTeth s) hk hy hx htail hsent hgood hbuf
  exact ⟨_, congrArg Host.Outcome.next heq, endGood_acts (by omega) _ _ _ _ rfl⟩

end Sys2Proof.Machine
end


section
/-!
PROOFS. Frames as they are received (R252, R312 to R315), the Mint's rounds (R255 to R258), and pauses received (R293, R294).
-/
namespace Sys2Proof.Machine

/-! ### Performance counters -/

/-- Counting events of a unit leaves every register outside the PERF block. -/
theorem regRead_perfN_ne (u code n p : Nat) (s : State) (hcnt : ∀ k, k < 8 → Reg.PERF_CNT_LO u k ≠ p ∧ Reg.PERF_CNT_LO u k + 4 ≠ p)
    (hctrl : Reg.PERF_UNIT_CTRL u ≠ p) (hirq : Reg.PERF_IRQ_CAUSE ≠ p) : regRead (perfN u code n s) p = regRead s p := by
  have hcount : ∀ k t, k < 8 → regRead (perfCount u k n t) p = regRead t p := fun k t hk => by
    obtain ⟨hlo, hhi⟩ := hcnt k hk
    unfold perfCount
    dsimp only
    split
    · split
      · rw [regRead_cause_ne _ _ _ _ hirq, regRead_cause_ne _ _ _ _ hctrl, regRead_setPair_ne _ _ _ _ hlo hhi]
      · rw [regRead_cause_ne _ _ _ _ hctrl, regRead_setPair_ne _ _ _ _ hlo hhi]
    · exact regRead_setPair_ne _ _ _ _ hlo hhi
  unfold perfN
  split
  · rfl
  · refine List.foldlRecOn (motive := fun t => regRead t p = regRead s p) _ _ rfl fun t ht k hk => ?_
    split
    · rw [hcount k t (List.mem_range.1 hk), ht]
    · exact ht

theorem flagOf_perf_ne (u code p i : Nat) (s : State) (hcnt : ∀ k, k < 8 → Reg.PERF_CNT_LO u k ≠ p ∧ Reg.PERF_CNT_LO u k + 4 ≠ p)
    (hctrl : Reg.PERF_UNIT_CTRL u ≠ p) (hirq : Reg.PERF_IRQ_CAUSE ≠ p) : flagOf (perf u code s) p i = flagOf s p i := by
  rw [flagOf, perf, regRead_perfN_ne u code 1 p s hcnt hctrl hirq, flagOf]

/-! ### Frames arriving -/

theorem frameAt_setFrame_same (f : Nat) (x : Frame) (s : State) : frameAt (setFrame f x s) f = some x := Tbl.find_put_same ..

theorem frameAt_of_frames {s t : State} (h : t.swc.frames = s.swc.frames) (f : Nat) : frameAt t f = frameAt s f := by
  rw [frameAt, h, frameAt]

/-- A request is noted beside the frames. -/
theorem pushReq_frame (r : Requester) (f : Nat) (s : State) : (pushReq r f s).swc.frames = s.swc.frames ∧
    (pushReq r f s).swc.nextFrame = s.swc.nextFrame ∧ pushReq r f s = { s with swc := (pushReq r f s).swc } := by
  unfold pushReq
  split <;> exact ⟨rfl, rfl, rfl⟩

/-- The frame as its first bytes are stored. -/
def firstFrame (s : State) (p : Nat) (data : Bytes) : Frame :=
  { req := .port p (ingressClass s p data)
    port := p
    cls := ingressClass s p data
    data := data.take (maxFrame s p)
    arr := adjusted s.time.net (fieldOf s (Reg.TIME_PORT_RX_ADJ p) 31 0)
    sampleRef := flagOf s (Reg.SWC_SAMPLE_CFG p) 31
    refs := 1 + b2n (flagOf s (Reg.SWC_SAMPLE_CFG p) 31) }

/-- The MAC of port p takes the first bytes of a frame that is no MAC control frame. -/
def macTakes (s : State) (p : Nat) (data : Bytes) : Prop :=
  macOpen s p = true ∧ (s.portAt p).rx = none ∧ (s.portAt p).rxDiscard = false ∧ data ≠ [] ∧ beAt data 12 2 ≠ 0x8808

theorem rxStart_gate {s : State} {p : Nat} {data : Bytes} (h : macTakes s p data) :
    ¬(!macOpen s p || (s.portAt p).rx.isSome || (s.portAt p).rxDiscard || data.isEmpty || beAt data 12 2 == 0x8808) = true := by
  obtain ⟨hopen, hrx, hkeep, hne, htype⟩ := h
  simp [hopen, hrx, hkeep, hne, htype]

theorem rxStart_stored {s : State} {p : Nat} {data : Bytes} (h : macTakes s p data) (t : State) (ht : t = rxStart p data false s) :
    (t.portAt p).rx = some s.swc.nextFrame ∧ t.swc.nextFrame = s.swc.nextFrame + 1 ∧
    frameAt t s.swc.nextFrame = some (firstFrame s p data) ∧ t = { s with ports := t.ports, swc := t.swc } := by
  have heq : rxStart p data false s = pushReq (.port p (ingressClass s p data)) s.swc.nextFrame (setFrame s.swc.nextFrame (firstFrame s p data)
      { s.setPort p { s.portAt p with rx := some s.swc.nextFrame, rxLen := data.length } with
        swc := { s.swc with nextFrame := s.swc.nextFrame + 1 } }) := by
    unfold rxStart
    dsimp only
    rw [if_neg (rxStart_gate h), if_neg (by decide)]
    rfl
  rw [heq] at ht
  generalize hv : setFrame s.swc.nextFrame (firstFrame s p data) _ = v at ht
  obtain ⟨hframes, hnext, hframe⟩ := pushReq_frame (.port p (ingressClass s p data)) s.swc.nextFrame v
  subst ht
  refine ⟨?_, ?_, ?_, ?_⟩
  · rw [hframe, ← hv]
    exact congrArg Port.rx (State.portAt_setPort_same ..)
  · rw [hnext, ← hv]
    rfl
  · rw [frameAt_of_frames hframes, ← hv, frameAt_setFrame_same]
  · rw [hframe, ← hv]
    rfl

theorem rxStart_overrun {s : State} {p : Nat} {data : Bytes} (h : macTakes s p data) (t : State) (ht : t = rxStart p data true s) :
    t.portAt p = { s.portAt p with rxDiscard := true, rxLen := data.length } ∧ t.cells = s.cells := by
  have heq : rxStart p data true s = perf (uBranch (p / 16)) 0x05 (cause (Reg.PORT_IRQ_CAUSE p) 3 (bump (Reg.PORT_RX_OVERRUN_CNT p)
      (s.setPort p { s.portAt p with rxDiscard := true, rxLen := data.length }))) := by
    unfold rxStart
    dsimp only
    rw [if_neg (rxStart_gate h), if_pos rfl]
  rw [ht, heq, portAt_of_ports ((perf_ports ..).trans ((cause_ports ..).trans (bump_ports ..))), State.portAt_setPort_same, perf_frame,
    cause_frame, bump_frame]
  exact ⟨rfl, rfl⟩

/-! ### Tails -/

theorem bump64_cells (o n : Nat) (s : State) : (bump64 o n s).cells = s.cells := by
  rw [bump64_frame]
  rfl

theorem rxTail_received {s : State} {p f fec : Nat} {data : Bytes} {ok : Bool} {syms : List Nat} (hrx : (s.portAt p).rx = some f)
    (t : State) (ht : t = rxTail p data ok fec syms s) : (t.portAt p).rx = none ∧ (t.portAt p).rxDiscard = false ∧ (t.portAt p).rxLen = 0 := by
  have heq : ∃ (v : State) (bad : Bool), rxTail p data ok fec syms s =
      endFrame f bad (v.modPort p fun z => { z with rx := none, rxDiscard := false, rxLen := 0 }) := by
    unfold rxTail
    simp only [hrx, Option.isNone_some, Bool.false_and, Bool.false_eq_true, if_false]
    exact ⟨_, _, rfl⟩
  obtain ⟨v, bad, heq⟩ := heq
  rw [ht, heq, portAt_of_ports (ports_of_line (endFrame_line ..)), State.portAt_modPort_same]
  exact ⟨rfl, rfl, rfl⟩

theorem rxTail_discarded {s : State} {p fec : Nat} {data : Bytes} {ok : Bool} {syms : List Nat} (hrx : (s.portAt p).rx = none)
    (hdiscard : (s.portAt p).rxDiscard = true) (t : State) (ht : t = rxTail p data ok fec syms s) :
    t.portAt p = { s.portAt p with rxDiscard := false, rxLen := 0 } ∧ t.cells = s.cells := by
  unfold rxTail at ht
  dsimp only at ht
  rw [if_neg (by simp [hdiscard])] at ht
  split at ht
  case h_2 hrx' => exact absurd (hrx.symm.trans hrx') nofun
  rw [ht]
  refine ⟨State.portAt_setPort_same .., ?_⟩
  split
  · exact (bump_cells ..).trans ((laneSyms_cells ..).trans ((bump64_cells ..).trans (winCount_cells ..)))
  · exact (laneSyms_cells ..).trans ((bump64_cells ..).trans (winCount_cells ..))

/-! ### Rounds of the Mint -/

theorem mintRound_single (r : Requester) (f : Nat) {s : State} (h : s.swc.cellReqs = [(r, f)]) : mintRound s = decideCell (r, f) s := by
  rw [mintRound, h]
  rfl

theorem dropReq_single {r : Requester} {f : Nat} {s : State} (h : s.swc.cellReqs = [(r, f)]) : (dropReq f s).swc.cellReqs = [] := by
  simp [dropReq, h]

theorem swc_of_cells {s t : State} (h : t.cells = s.cells) : t.swc = s.swc := congrArg (·.1) h

theorem fcUpdate_swc (p : Nat) (s : State) : (fcUpdate p s).swc = s.swc := swc_of_cells (fcUpdate_cells ..)

theorem frameStored_swc (f : Nat) (x : Frame) (s : State) : (frameStored f x s).swc = s.swc := by
  unfold frameStored
  split <;> rfl

/-- A grant changes of the switch core the frame and the list of requests, when the frame needs no more. -/
theorem grantCell_swc {f : Nat} {x : Frame} {k : Pool} {s : State} (hwants : wantsCell { x with cells := x.cells ++ [k] } = false) :
    (grantCell f x k s).swc = (dropReq f (setFrame f { x with cells := x.cells ++ [k] } s)).swc := by
  unfold grantCell
  simp only [hwants, Bool.false_eq_true, if_false]
  cases x.req <;> cases k <;>
    simp only [apply_ite State.swc, fcUpdate_swc, cause_swc, perf_swc, frameStored_swc, ite_self]

/-- A grant gives the frame its cell, and a frame that needs no more asks no more (R256). -/
theorem decideCell_granted {r : Requester} {f : Nat} {x : Frame} {k : Pool} {s : State} (hreqs : s.swc.cellReqs = [(r, f)])
    (hx : frameAt s f = some x) (hrefused : x.refused = false) (hpool : grantPool s r = some k)
    (hwants : wantsCell { x with cells := x.cells ++ [k] } = false) (t : State) (ht : t = decideCell (r, f) s) :
    frameAt t f = some { x with cells := x.cells ++ [k] } ∧ t.swc.cellReqs = [] := by
  have heq : decideCell (r, f) s = grantCell f x k s := by
    simp only [decideCell, hx, hrefused, hpool, Bool.false_eq_true, if_false]
  have hswc := grantCell_swc (f := f) (s := s) hwants
  rw [ht, heq, hswc]
  refine ⟨?_, dropReq_single hreqs⟩
  rw [frameAt_of_frames (congrArg SwitchCore.frames hswc)]
  exact frameAt_setFrame_same ..

/-- A frame of the host that no pool serves is refused (R257). -/
theorem decideCell_refused {q f : Nat} {x : Frame} {s : State} (hreqs : s.swc.cellReqs = [(.inject q, f)])
    (hx : frameAt s f = some x) (hreq : x.req = .inject q) (hrefused : x.refused = false) (hpool : grantPool s (.inject q) = none)
    (t : State) (ht : t = decideCell (.inject q, f) s) :
    frameAt t f = some { x with refused := true } ∧ t.swc.cellReqs = [] ∧ flagOf t Reg.MINT_IRQ_CAUSE 0 = true := by
  have heq : decideCell (.inject q, f) s = setFrame f { x with refused := true }
      (perf uMint 0x02 (cause Reg.MINT_IRQ_CAUSE 0 (bump Reg.MINT_REFUSED_INJ_CNT (dropReq f s)))) := by
    simp only [decideCell, hx, hrefused, hpool, Bool.false_eq_true, if_false, refuseCell, hreq, refusedCnt]
  rw [ht, heq]
  refine ⟨frameAt_setFrame_same .., ?_, ?_⟩
  · exact (congrArg SwitchCore.cellReqs ((perf_swc ..).trans ((cause_swc ..).trans (bump_swc ..)))).trans (dropReq_single hreqs)
  · exact (flagOf_perf_ne _ _ _ _ _ (fun k hk => by simp only [Reg.PERF_CNT_LO, Reg.MINT_IRQ_CAUSE, uMint]; omega) (by decide) (by decide)).trans
      (flagOf_cause_same _ _ _ (by decide))

/-! ### Pauses received -/

theorem pauseClass_frame (p c quanta : Nat) (s : State) : pauseClass p c quanta s = { s with tm := (pauseClass p c quanta s).tm } := rfl

/-- The end of a pause of so many quanta from now (R294). -/
def pauseUntil (s : State) (p quanta : Nat) : Option Nat :=
  if quanta = 0 then none else some (s.time.tick + bitTimes (512 * quanta) (portGbps s p))

theorem pauseClass_same (p c quanta : Nat) (s : State) :
    Tbl.find ((pauseClass p c quanta s).schedAt p).pauseEnd c = pauseUntil s p quanta := by
  unfold pauseClass pauseUntil
  dsimp only
  rw [State.schedAt_setSched_same]
  dsimp only
  split
  · exact Tbl.find_del_same ..
  · exact Tbl.find_put_same ..

theorem pauseClass_ne (p quanta : Nat) {c d : Nat} (s : State) (h : c ≠ d) :
    Tbl.find ((pauseClass p c quanta s).schedAt p).pauseEnd d = Tbl.find (s.schedAt p).pauseEnd d := by
  unfold pauseClass
  dsimp only
  rw [State.schedAt_setSched_same]
  dsimp only
  split
  · exact Tbl.find_del_ne _ _ _ h
  · exact Tbl.find_put_ne _ _ h

/-- A PAUSE frame pauses every class of its port alike (R293). -/
theorem pauseAll_acts (p quanta : Nat) {n c : Nat} (hc : c < n) (s t : State)
    (ht : t = (List.range n).foldl (fun s c => pauseClass p c quanta s) s) :
    Tbl.find (t.schedAt p).pauseEnd c = pauseUntil s p quanta ∧ t = { s with tm := t.tm } := by
  have hframe : ∀ l : List Nat, ∀ v, v = { s with tm := v.tm } →
      l.foldl (fun s c => pauseClass p c quanta s) v = { s with tm := (l.foldl (fun s c => pauseClass p c quanta s) v).tm } := fun l v hv =>
    foldl_keeps (P := fun u : State => u = { s with tm := u.tm }) _
      (fun u c hu => (pauseClass_frame p c quanta u).trans (congrArg (fun x : State => { x with tm := (pauseClass p c quanta u).tm }) hu)) l hv
  subst ht
  refine ⟨?_, hframe _ s rfl⟩
  obtain ⟨l₁, l₂, hl⟩ := List.append_of_mem (List.mem_range.2 hc)
  have hnd : (List.range n).Nodup := List.nodup_range
  rw [hl] at hnd ⊢
  rw [List.foldl_append, List.foldl_cons]
  have hlater : ∀ d ∈ l₂, d ≠ c := fun d hd he => by
    subst he
    exact (List.nodup_cons.1 (List.nodup_append.1 hnd).2.1).1 hd
  have hv := hframe l₁ s rfl
  generalize l₁.foldl (fun s c => pauseClass p c quanta s) s = v at hv ⊢
  have huntil : pauseUntil v p quanta = pauseUntil s p quanta := by rw [hv]; rfl
  refine List.foldlRecOn (motive := fun u : State => Tbl.find (u.schedAt p).pauseEnd c = pauseUntil s p quanta) _ _
    ((pauseClass_same ..).trans huntil) fun u hu d hd => ?_
  rw [pauseClass_ne _ _ _ (hlater d hd), hu]

/-- A MAC control frame is taken: no frame is being received. -/
theorem macControl_taken {s : State} {p : Nat} {data : Bytes} {ok : Bool} (hopen : macOpen s p = true) (hrx : (s.portAt p).rx = none)
    (hkeep : (s.portAt p).rxDiscard = false) (htype : beAt data 12 2 = 0x8808) : ∃ v, v = winCount p (data.length + 4) false s ∧
    macControl p data ok s =
      if !ok || Decidable.decide (data.length + 4 < 64) || Decidable.decide (maxFrame v p < data.length + 4)
      then bump (Reg.PORT_RX_FCS_ERR_CNT p) v
      else if beAt data 14 2 = 0x0001 ∨ beAt data 14 2 = 0x0101 then v |> bumpField (Reg.PORT_RX_MACCTL_CNT p) 15 0 |> flowControl p data
      else bumpField (Reg.PORT_RX_MACCTL_CNT p) 31 16 v := by
  refine ⟨_, rfl, ?_⟩
  unfold macControl
  dsimp only
  rw [if_neg (by simp [hopen, hrx, hkeep, htype])]

theorem winCount_frame (p len : Nat) (tx : Bool) (s : State) : winCount p len tx s = { s with perf := (winCount p len tx s).perf } := by
  unfold winCount
  split <;> rfl

theorem fieldOf_bumpField_ne (o hi lo q qhi qlo : Nat) (s : State) (h : o ≠ q) :
    fieldOf (bumpField o hi lo s) q qhi qlo = fieldOf s q qhi qlo := by
  unfold bumpField
  split
  · rfl
  · rw [fieldOf, regRead_setField_ne _ _ _ _ _ _ h, fieldOf]

/-- A PAUSE frame of good length pauses the classes of a port in mode 1. -/
theorem macControl_pause {s : State} {p c : Nat} {data : Bytes} (hopen : macOpen s p = true) (hrx : (s.portAt p).rx = none)
    (hkeep : (s.portAt p).rxDiscard = false) (htype : beAt data 12 2 = 0x8808) (hop : beAt data 14 2 = 0x0001) (hmin : 60 ≤ data.length)
    (hmax : data.length + 4 ≤ maxFrame s p) (hmode : fcMode s p = 1) (hc : c < classCount s p) (t : State)
    (ht : t = macControl p data true s) :
    Tbl.find (t.schedAt p).pauseEnd c = pauseUntil s p (beAt data 16 2) ∧ t.line = s.line := by
  obtain ⟨v, hv, heq⟩ := macControl_taken (ok := true) hopen hrx hkeep htype
  have hframe : v = { s with perf := v.perf } := by rw [hv, winCount_frame]
  have hmaxv : maxFrame v p = maxFrame s p := by rw [hframe]; rfl
  rw [if_neg (by rw [hmaxv]; simp only [Bool.not_true, Bool.false_or, Bool.or_eq_true, decide_eq_true_eq]; omega), if_pos (.inl hop)] at heq
  generalize hw : bumpField (Reg.PORT_RX_MACCTL_CNT p) 15 0 v = w at heq
  have hwframe : w = { s with perf := v.perf, regs := w.regs } := by
    rw [← hw, bumpField_frame, hframe]
  have hwmode : fcMode w p = 1 := by
    rw [← hmode, fcMode, fcMode, ← hw, fieldOf_bumpField_ne _ _ _ _ _ _ _ (by simp only [Reg.PORT_RX_MACCTL_CNT, Reg.TM_PORT_CTRL]; omega), hframe]
    rfl
  have hpauses : flowControl p data w = (List.range (classCount w p)).foldl (fun s c => pauseClass p c (beAt data 16 2) s) w := by
    unfold flowControl
    dsimp only
    rw [if_pos hop, if_pos hwmode]
  have hclasses : classCount w p = classCount s p := by rw [hwframe]; rfl
  obtain ⟨hend, htframe⟩ := pauseAll_acts p (beAt data 16 2) (hclasses ▸ hc) w t (ht.trans (heq.trans hpauses))
  refine ⟨hend.trans (by rw [hwframe]; rfl), ?_⟩
  rw [htframe, hwframe]
  rfl

/-- Any other MAC control frame is only counted (R315). -/
theorem macControl_other {s : State} {p : Nat} {data : Bytes} {ok : Bool} (hopen : macOpen s p = true) (hrx : (s.portAt p).rx = none)
    (hkeep : (s.portAt p).rxDiscard = false) (htype : beAt data 12 2 = 0x8808) (hpause : beAt data 14 2 ≠ 0x0001)
    (hpfc : beAt data 14 2 ≠ 0x0101) (t : State) (ht : t = macControl p data ok s) : t = { s with regs := t.regs, perf := t.perf } := by
  obtain ⟨v, hv, heq⟩ := macControl_taken (ok := ok) hopen hrx hkeep htype
  have hframe : v = { s with perf := v.perf } := by rw [hv, winCount_frame]
  rw [if_neg (by simp [hpause, hpfc] : ¬(beAt data 14 2 = 0x0001 ∨ beAt data 14 2 = 0x0101))] at heq
  rw [ht, heq]
  split
  · rw [bump_frame, hframe]
  · rw [bumpField_frame, hframe]

/-- Settles O40: each clause is the lemma of its command, on the one request in hand for the Mint's rounds. -/
theorem receptionCommandsAct : Obligations.ReceptionCommandsAct := by
  unfold Obligations.ReceptionCommandsAct
  refine ⟨fun s p data hopen hrx hkeep hne htype => ⟨_, rfl, ?_⟩,
    fun s p data hopen hrx hkeep hne htype => ⟨_, rfl, rxStart_overrun ⟨hopen, hrx, hkeep, hne, htype⟩ _ rfl⟩,
    fun s p f data ok fec syms hrx => ⟨_, rfl, rxTail_received hrx _ rfl⟩,
    fun s p data ok fec syms hrx hdiscard => ⟨_, rfl, rxTail_discarded hrx hdiscard _ rfl⟩,
    fun s r f x k hreqs hx hrefused hpool hwants =>
      ⟨_, congrArg Host.Outcome.next (mintRound_single _ _ hreqs), decideCell_granted hreqs hx hrefused hpool hwants _ rfl⟩,
    fun s q f x hreqs hx hreq hrefused hpool =>
      ⟨_, congrArg Host.Outcome.next (mintRound_single _ _ hreqs), decideCell_refused hreqs hx hreq hrefused hpool _ rfl⟩,
    fun s p data c hopen hrx hkeep htype hop hmin hmax hmode hc =>
      ⟨_, rfl, macControl_pause hopen hrx hkeep htype hop hmin hmax hmode hc _ rfl⟩,
    fun s p data ok hopen hrx hkeep htype hpause hpfc => ⟨_, rfl, macControl_other hopen hrx hkeep htype hpause hpfc _ rfl⟩⟩
  obtain ⟨hport, hnext, hat, hframe⟩ := rxStart_stored ⟨hopen, hrx, hkeep, hne, htype⟩ _ rfl
  exact ⟨hport, hnext, congrArg (Option.map fun x : Frame => (x.req, x.data, x.tail, x.cells)) hat, hframe⟩

end Sys2Proof.Machine
end


section
/-!
PROOFS. The Assayer: admission (R42, R43), the passes that it decides (R41, R53), the Exchange (R62, R63), the places of recirculation
(R44), and the adjustment of an NPTv6 map (R215).
-/
namespace Sys2Proof.Machine

/-! ### Admission -/

theorem assayAdmit_closed {s : State} {b : Nat} (h : (!flowing s || !domOn s (9 + b) || (s.assayAt b).held.isSome) = true) :
    assayAdmit b s = s := if_pos h

/-- The Assayer of Branch b admits: frames flow, its domain is ON, and nothing stops it (R42, R63, R189). -/
def assayOpen (s : State) (b : Nat) : Prop :=
  flowing s = true ∧ domOn s (9 + b) = true ∧ (s.assayAt b).held = none ∧ (s.assayAt b).stalled = none

theorem assayAdmit_recirc {s : State} {b : Nat} {d : Desc} {rest : List Desc} (h : assayOpen s b) (hq : (s.assayAt b).recircQ = d :: rest)
    (howed : (s.assayAt b).recircSlots < owedSlots s b) : assayAdmit b s = admitRecirc b s := by
  obtain ⟨hflow, hdom, hheld, hstalled⟩ := h
  unfold assayAdmit
  simp only [hflow, hdom, hheld, hstalled, hq, decide_eq_true howed, Bool.not_true, Option.isSome_none, Bool.or_self, Bool.false_eq_true,
    if_false, List.isEmpty_cons, Bool.not_false, Bool.and_self, if_true]

theorem assayAdmit_source {s : State} {b i : Nat} (h : assayOpen s b) (hq : (s.assayAt b).recircQ = []) (hsrc : nextSource s b = some i) :
    assayAdmit b s = admitSource b i s := by
  obtain ⟨hflow, hdom, hheld, hstalled⟩ := h
  unfold assayAdmit
  simp only [hflow, hdom, hheld, hstalled, hq, hsrc, Bool.not_true, Option.isSome_none, Bool.or_self, Bool.false_eq_true, if_false,
    List.isEmpty_nil, Bool.false_and]

theorem assayAt_of_assay {s t : State} (h : t.assay = s.assay) (b : Nat) : t.assayAt b = s.assayAt b := by
  rw [State.assayAt, h, State.assayAt]

/-- A slot counted changes its counts alone. -/
theorem countSlot_queues (b recirc : Nat) (s : State) : ((countSlot b recirc s).assayAt b).recircQ = (s.assayAt b).recircQ ∧
    ((countSlot b recirc s).assayAt b).injectQ = (s.assayAt b).injectQ ∧ ((countSlot b recirc s).assayAt b).parsing = (s.assayAt b).parsing := by
  unfold countSlot
  rw [State.assayAt_modAssay_same]
  split <;> exact ⟨rfl, rfl, rfl⟩

theorem countSlot_frame (b recirc : Nat) (s : State) : countSlot b recirc s = { s with assay := (countSlot b recirc s).assay } := rfl

theorem admitRecirc_acts {s : State} {b : Nat} {d : Desc} {rest : List Desc} (hq : (s.assayAt b).recircQ = d :: rest) (t : State)
    (ht : t = admitRecirc b s) : (t.assayAt b).recircQ = rest ∧ (t.assayAt b).parsing = (s.assayAt b).parsing ++ [d] ∧
    t = { s with assay := t.assay, regs := t.regs } := by
  unfold admitRecirc at ht
  simp only [hq] at ht
  subst ht
  obtain ⟨hrecirc, -, hparsing⟩ := countSlot_queues b ((s.assayAt b).recircSlots + 1)
    (s.modAssay b fun a => { a with recircQ := rest, recircAt := s.time.tick })
  rw [State.assayAt_modAssay_same] at hrecirc hparsing
  rw [takeIn, State.assayAt_modAssay_same, assayAt_of_assay ((perf_assay ..).trans (bump_assay ..)), hrecirc, hparsing]
  refine ⟨rfl, rfl, ?_⟩
  rw [perf_frame, bump_frame, countSlot_frame]
  rfl

theorem admitInject_acts {s : State} {b : Nat} {d : Desc} {rest : List Desc} (hq : (s.assayAt b).injectQ = d :: rest) (t : State)
    (ht : t = admitInject b s) : (t.assayAt b).injectQ = rest ∧ (t.assayAt b).parsing = (s.assayAt b).parsing ++ [{ d with stamp := s.accord.gen }] ∧
    t = { s with assay := t.assay, regs := t.regs } := by
  unfold admitInject at ht
  simp only [hq] at ht
  subst ht
  rw [takeIn, State.assayAt_modAssay_same, assayAt_of_assay (perf_assay ..), State.assayAt_modAssay_same]
  refine ⟨rfl, rfl, ?_⟩
  rw [perf_frame]
  rfl

theorem admitSource_inject {s : State} {b : Nat} {d : Desc} {rest : List Desc} (hq : (s.assayAt b).injectQ = d :: rest) (t : State)
    (ht : t = admitSource b 16 s) : (t.assayAt b).injectQ = rest ∧
    (t.assayAt b).parsing = (s.assayAt b).parsing ++ [{ d with stamp := s.accord.gen }] ∧ (t.assayAt b).last = 16 ∧
    t = { s with assay := t.assay, regs := t.regs } := by
  obtain ⟨-, hinject, hparsing⟩ := countSlot_queues b (max (s.assayAt b).recircSlots (owedSlots s b)) s
  obtain ⟨kinject, kparsing, kframe⟩ := admitInject_acts (hinject.trans hq) _ rfl
  have ht : t = (admitInject b (countSlot b (max (s.assayAt b).recircSlots (owedSlots s b)) s)).modAssay b fun a => { a with last := 16 } := ht
  rw [hparsing] at kparsing
  subst ht
  rw [State.assayAt_modAssay_same]
  refine ⟨kinject, kparsing, rfl, ?_⟩
  rw [kframe]
  rfl

/-! ### Passes -/

theorem xchPut_acts (b home : Nat) (d : Desc) (s t : State) (ht : t = xchPut b home d s) :
    t.assayAt b = { s.assayAt b with out := Tbl.set (s.assayAt b).out home [] (Tbl.get (s.assayAt b).out home [] ++ [d]) } ∧
    t = { s with assay := t.assay, regs := t.regs } := by
  subst ht
  unfold xchPut
  rw [assayAt_of_assay (bump_assay ..), State.assayAt_modAssay_same, bump_frame]
  exact ⟨rfl, rfl⟩

/-- A pass whose window is complete, which its lengths and its template let pass, goes to its home Branch (R41, R53, R62). -/
theorem parsePass_routed {s : State} {b f : Nat} {d : Desc} {x : Frame} {p : Desc × Lengths × Bool} (hdom : domOn s (9 + b) = true)
    (hheld : (s.assayAt b).held = none) (hstalled : (s.assayAt b).stalled = none) (hd : passInHand s b f = some d) (hx : frameAt s f = some x)
    (hdone : windowDone x d.head = true) (hp : parse s d x = p) (hstatus : p.1.status = 0) (hstate : p.2.2 = false)
    (hdecl : p.2.1.declEnd = 0) (hfree : xchFree s b (homeOf p.1.hash) = true) (t : State) (ht : t = parsePass b f s) :
    (t.assayAt b).parsing = delFirst (·.frame == f) (s.assayAt b).parsing ∧
    Tbl.get (t.assayAt b).out (homeOf p.1.hash) [] = Tbl.get (s.assayAt b).out (homeOf p.1.hash) [] ++ [p.1] ∧
    t = { s with assay := t.assay, regs := t.regs } := by
  obtain ⟨d', l, stateless⟩ := p
  dsimp only at hstatus hstate hdecl hfree ⊢
  have heq : parsePass b f s = xchSend b d' (bump (Reg.ASSAY_TEMPLATE_HIT b d'.template)
      (s.modAssay b fun a => { a with parsing := delFirst (·.frame == f) a.parsing })) := by
    unfold parsePass
    simp only [hdom, hheld, hstalled, hd, hx, hdone, hp, Bool.not_true, Option.isSome_none, Bool.or_self, Bool.false_eq_true, if_false,
      if_true, deferEnd, hdecl, routePass, hstatus, hstate]
  generalize hv : bump (Reg.ASSAY_TEMPLATE_HIT b d'.template)
    (s.modAssay b fun a => { a with parsing := delFirst (·.frame == f) a.parsing }) = v at heq
  have hassay : v.assayAt b = { s.assayAt b with parsing := delFirst (·.frame == f) (s.assayAt b).parsing } := by
    rw [← hv, assayAt_of_assay (bump_assay ..), State.assayAt_modAssay_same]
  have hframe : v = { s with assay := v.assay, regs := v.regs } := by
    rw [← hv, bump_frame]
    rfl
  have hfree : xchFree v b (homeOf d'.hash) = true := by
    rw [xchFree, hassay]
    exact hfree
  rw [xchSend, if_pos hfree] at heq
  obtain ⟨hput, kframe⟩ := xchPut_acts b (homeOf d'.hash) d' v t (ht.trans heq)
  rw [hput, hassay]
  refine ⟨rfl, Tbl.get_set_same .., ?_⟩
  rw [kframe, hframe]

theorem parsePass_incomplete {s : State} {b f : Nat} {d : Desc} {x : Frame} (hd : passInHand s b f = some d) (hx : frameAt s f = some x)
    (hdone : windowDone x d.head = false) : parsePass b f s = s := by
  unfold parsePass
  simp only [hd, hx, hdone, Bool.false_eq_true, if_false, ite_self]

/-! ### The Exchange and recirculation -/

theorem holdRelease_free {s : State} {b home : Nat} {d : Desc} (hheld : (s.assayAt b).held = some (home, d))
    (hfree : xchFree s b home = true) (t : State) (ht : t = holdRelease b s) : (t.assayAt b).held = none ∧
    Tbl.get (t.assayAt b).out home [] = Tbl.get (s.assayAt b).out home [] ++ [d] ∧ t = { s with assay := t.assay, regs := t.regs } := by
  have heq : holdRelease b s = xchPut b home d (s.modAssay b fun a => { a with held := none, heldTold := false }) := by
    simp only [holdRelease, hheld, hfree, if_true]
  obtain ⟨hput, hframe⟩ := xchPut_acts b home d _ t (ht.trans heq)
  rw [hput, State.assayAt_modAssay_same]
  exact ⟨rfl, Tbl.get_set_same .., hframe⟩

/-- A further 1 µs of a hold is counted. -/
def stallCounted (b : Nat) (s : State) : State := (bump (Reg.ASSAY_XCH_STALL_CNT b) s).modAssay b fun a => { a with stallAt := s.time.tick }

theorem xchStall_due {s : State} {b : Nat} (hheld : (s.assayAt b).held ≠ none) (hdue : us 1 ≤ since s (s.assayAt b).stallAt) :
    xchStall b s = if !(s.assayAt b).heldTold && Decidable.decide (us 100 ≤ since s (s.assayAt b).heldAt)
      then (cause (Reg.ASSAY_IRQ_CAUSE b) 2 (stallCounted b s)).modAssay b fun a => { a with heldTold := true } else stallCounted b s := by
  have hsome : (s.assayAt b).held.isNone = false := by rwa [Bool.eq_false_iff, ne_eq, Option.isNone_iff_eq_none]
  have hsince : ∀ x, since (stallCounted b s) x = since s x := fun x => by
    unfold since
    exact congrArg (·.tick - x) (bump_time ..)
  rw [← hsince (s.assayAt b).heldAt]
  refine if_neg ?_
  rw [hsome]
  simp only [Bool.false_eq_true, false_or]
  exact Nat.not_lt.2 hdue

theorem xchStall_told {s : State} {b : Nat} (hheld : (s.assayAt b).held ≠ none) (hdue : us 1 ≤ since s (s.assayAt b).stallAt)
    (hnew : (s.assayAt b).heldTold = false) (hlong : us 100 ≤ since s (s.assayAt b).heldAt) (t : State) (ht : t = xchStall b s) :
    (t.assayAt b).heldTold = true ∧ (t.assayAt b).stallAt = s.time.tick ∧ flagOf t (Reg.ASSAY_IRQ_CAUSE b) 2 = true ∧
    t = { s with assay := t.assay, regs := t.regs } := by
  rw [xchStall_due hheld hdue, hnew, decide_eq_true hlong, if_pos (by decide)] at ht
  subst ht
  rw [State.assayAt_modAssay_same, assayAt_of_assay (cause_assay ..), stallCounted, State.assayAt_modAssay_same]
  refine ⟨rfl, rfl, flagOf_cause_same _ _ _ (by decide), ?_⟩
  rw [cause_frame, bump_frame]
  rfl

theorem xchStall_counted {s : State} {b : Nat} (hheld : (s.assayAt b).held ≠ none) (hdue : us 1 ≤ since s (s.assayAt b).stallAt)
    (htold : (s.assayAt b).heldTold = true ∨ since s (s.assayAt b).heldAt < us 100) : xchStall b s = stallCounted b s := by
  rw [xchStall_due hheld hdue, if_neg]
  obtain h | h := htold
  · rw [h]
    simp
  · rw [decide_eq_false (Nat.not_le.2 h)]
    simp

theorem xchStall_idle {s : State} {b : Nat} (h : (s.assayAt b).held = none ∨ since s (s.assayAt b).stallAt < us 1) : xchStall b s = s := by
  refine if_pos ?_
  rw [Option.isNone_iff_eq_none]
  exact h

theorem recircEnter_acts (b : Nat) (d : Desc) (s t : State) (ht : t = recircEnter b d s) :
    (t.assayAt b).recircQ = (s.assayAt b).recircQ ++ [d] ∧ (t.assayAt b).recircWait = (s.assayAt b).recircWait ∧
    t = { s with assay := t.assay, regs := t.regs } := by
  have hassay : (recircEnter b d s).assayAt b = { s.assayAt b with
      recircQ := (s.assayAt b).recircQ ++ [d], recircAt := if (s.assayAt b).recircQ.isEmpty then s.time.tick else (s.assayAt b).recircAt } := by
    unfold recircEnter
    simp only [apply_ite (State.assayAt · b), assayAt_of_assay (cause_assay ..), assayAt_of_assay (peak_assay ..),
      State.assayAt_modAssay_same, ite_self]
  subst ht
  rw [hassay]
  refine ⟨rfl, rfl, ?_⟩
  unfold recircEnter
  dsimp only
  split
  · rw [cause_frame, peak_frame]
    rfl
  · rw [peak_frame]
    rfl

theorem recircPlace_freed {s : State} {b u : Nat} {d : Desc} {rest : List (Nat × Desc)} (hwait : (s.assayAt b).recircWait = (u, d) :: rest)
    (hplace : (s.assayAt b).recircQ.length < 1024) (t : State) (ht : t = recircPlace b s) :
    (t.assayAt b).recircWait = rest ∧ (t.assayAt b).recircQ = (s.assayAt b).recircQ ++ [d] ∧ (t.tellerAt u).ctx.recircOk = true ∧
    t = { s with assay := t.assay, regs := t.regs, tellers := t.tellers } := by
  have heq : recircPlace b s = (recircEnter b d (s.setAssay b { s.assayAt b with recircWait := rest })).modTeller u fun x =>
      { x with ctx := { x.ctx with recircOk := true } } := by
    unfold recircPlace
    simp only [hwait, if_neg (Nat.not_le.2 hplace)]
  generalize hv : recircEnter b d (s.setAssay b { s.assayAt b with recircWait := rest }) = v at heq
  obtain ⟨henter, hwaiting, hframe⟩ := recircEnter_acts b d _ v hv.symm
  rw [State.assayAt_setAssay_same] at henter hwaiting
  rw [heq] at ht
  subst ht
  refine ⟨hwaiting, henter, ?_, ?_⟩
  · rw [State.tellerAt_modTeller_same]
  · rw [hframe]
    rfl

/-! ### Prefix maps -/

theorem addrRegs_regStore_ne (o off n : Nat) (v : Word32) (s : State) (h : ∀ i, i < n → o ≠ off + 4 * i) :
    addrRegs (regStore o v s) off n = addrRegs s off n := by
  unfold addrRegs
  refine List.flatMap_congr fun i hi => ?_
  rw [regRead_store_ne _ _ _ _ (h i (List.mem_range.1 hi))]

theorem nptCtlWrite_valid {m : Nat} {v : Word32} (hv : v.getLsbD 31 = true) (s t : State) (ht : t = nptCtlWrite m v s) :
    regRead t (Reg.EGR_NPT_CTL m) = (v &&& 0x800000FF#32) ∧
    fieldOf t (Reg.EGR_NPT_ADJ m) 15 0 =
      nptAdj (addrRegs s (Reg.EGR_NPT_INT m 0) 4) (addrRegs s (Reg.EGR_NPT_EXT m 0) 4) (min 128 (bits v.toNat 7 0)) % 65536 ∧
    t = { s with regs := t.regs } := by
  have hint : ∀ i, i < 4 → Reg.EGR_NPT_CTL m ≠ Reg.EGR_NPT_INT m 0 + 4 * i := by
    simp only [Reg.EGR_NPT_CTL, Reg.EGR_NPT_INT]
    omega
  have hext : ∀ i, i < 4 → Reg.EGR_NPT_CTL m ≠ Reg.EGR_NPT_EXT m 0 + 4 * i := by
    simp only [Reg.EGR_NPT_CTL, Reg.EGR_NPT_EXT]
    omega
  have hadj : Reg.EGR_NPT_CTL m ≠ Reg.EGR_NPT_ADJ m := by
    simp only [Reg.EGR_NPT_CTL, Reg.EGR_NPT_ADJ]
    omega
  have heq : nptCtlWrite m v s = setField (Reg.EGR_NPT_ADJ m) 15 0
      (nptAdj (addrRegs s (Reg.EGR_NPT_INT m 0) 4) (addrRegs s (Reg.EGR_NPT_EXT m 0) 4) (min 128 (bits v.toNat 7 0)))
      (regStore (Reg.EGR_NPT_CTL m) (v &&& 0x800000FF#32) s) := by
    simp only [nptCtlWrite, hv, if_true, addrRegs_regStore_ne _ _ _ _ _ hint, addrRegs_regStore_ne _ _ _ _ _ hext]
  subst ht
  rw [heq]
  refine ⟨?_, fieldOf_setField_same _ _ _ _ _ (by decide) (by decide), setField_frame ..⟩
  rw [regRead_setField_ne _ _ _ _ _ _ hadj.symm, regRead_store_same]

/-- Settles O45: admission by the allowance of recirculation and the source in turn; a pass by its window; the Exchange by the hold and its
times; the adjustment from the two prefixes, which the write of the control register leaves. -/
theorem assayerAndRewriteMapCommandsAct : Obligations.AssayerAndRewriteMapCommandsAct := by
  refine ⟨?_, ?_, ?_, ?_, ?_, ?_, ?_, ?_, ?_, ?_, ?_⟩
  · intro s b h
    exact congrArg Host.Outcome.next (assayAdmit_closed h)
  · intro s b d rest hflow hdom hheld hstalled hq howed
    exact ⟨_, congrArg Host.Outcome.next (assayAdmit_recirc ⟨hflow, hdom, hheld, hstalled⟩ hq howed), admitRecirc_acts hq _ rfl⟩
  · intro s b d rest hflow hdom hheld hstalled hrecirc hsrc hq
    exact ⟨_, congrArg Host.Outcome.next (assayAdmit_source ⟨hflow, hdom, hheld, hstalled⟩ hrecirc hsrc), admitSource_inject hq _ rfl⟩
  · intro s0 b f sieve s d x hs hdom hheld hstalled hd hx hdone hstatus hstate hdecl hfree
    exact ⟨_, congrArg (Host.Outcome.next <| parsePass b.val f ·) hs.symm,
      parsePass_routed hdom hheld hstalled hd hx hdone rfl hstatus hstate hdecl hfree _ rfl⟩
  · intro s0 b f sieve s d x hs hdom hheld hstalled hd hx hdone
    exact ⟨_, congrArg (Host.Outcome.next <| parsePass b.val f ·) hs.symm, parsePass_incomplete hd hx hdone⟩
  · intro s b home d hheld hfree
    exact ⟨_, rfl, holdRelease_free hheld hfree _ rfl⟩
  · intro s b hheld hdue hnew hlong
    exact ⟨_, rfl, xchStall_told hheld hdue hnew hlong _ rfl⟩
  · intro s b hheld hdue htold
    exact ⟨_, rfl, xchStall_counted hheld hdue htold⟩
  · intro s b h
    exact congrArg Host.Outcome.next (xchStall_idle h)
  · intro s b u d rest hwait hplace
    exact ⟨_, rfl, recircPlace_freed hwait hplace _ rfl⟩
  · intro s m v hv hopen
    exact ⟨_, congrArg Host.Outcome.next ((if_pos hv).trans (gated_open hopen _)), nptCtlWrite_valid hv s _ rfl⟩

end Sys2Proof.Machine
end


section
/-!
PROOFS. The Nose: how an engine starts and ends a request (R227, R232 to R237), how reports become items (R244), the return of its burst
allowance (R241), and the updates of pattern groups and their memory (R245 to R248).
-/
namespace Sys2Proof.Machine

/-! ### What keeps the running request -/

theorem noseAt_of_nose {s t : State} (h : t.nose = s.nose) (b : Nat) : t.noseAt b = s.noseAt b := by
  rw [State.noseAt, h, State.noseAt]

theorem nose_of_scans {s t : State} (h : t.scans = s.scans) : t.nose = s.nose := congrArg (·.1) h

theorem noseAt_of_scans {s t : State} (h : t.scans = s.scans) (b : Nat) : t.noseAt b = s.noseAt b := noseAt_of_nose (nose_of_scans h) b

/-- The request that engine b runs. -/
def scanning (b : Nat) (s : State) : Option NoseRun := (s.noseAt b).run

theorem scanning_of_nose {s t : State} (h : t.nose = s.nose) (b : Nat) : scanning b t = scanning b s := congrArg Nose.run (noseAt_of_nose h b)

theorem scanning_of_scans {s t : State} (h : t.scans = s.scans) (b : Nat) : scanning b t = scanning b s := scanning_of_nose (nose_of_scans h) b

theorem scanning_modNose (b : Nat) (f : Nose → Nose) (s : State) : scanning b (s.modNose b f) = (f (s.noseAt b)).run := by
  rw [scanning, State.noseAt_modNose_same]

theorem loseReport_nose (b : Nat) (hash w : Word64) (s : State) : (loseReport b hash w s).nose = s.nose := by
  unfold loseReport
  rw [emit_nose, cause_nose, bump_nose]

theorem offerReports_run (b n : Nat) (s : State) : scanning b (offerReports b n s) = scanning b s := by
  induction n generalizing s with
  | zero => rfl
  | succ n ih =>
    unfold offerReports
    split
    · rfl
    · dsimp only
      split
      · rw [ih, scanning_of_nose (loseReport_nose ..), scanning_modNose, scanning]
      · split
        · rw [ih, scanning_of_scans (addItem_scans ..), scanning_modNose, scanning]
        · rw [scanning_modNose, scanning]

theorem report_run (b : Nat) (q : ScanReq) (w : Word64) (s : State) : scanning b (report b q w s) = scanning b s := by
  unfold report
  dsimp only
  split
  · exact scanning_of_nose (loseReport_nose ..) b
  · rw [apply_ite (scanning b), offerReports_run, ite_self, scanning, State.noseAt_setNose_same, scanning]

theorem settleGaps_run (b : Nat) (s : State) : scanning b (settleGaps b s) = scanning b s := by
  unfold settleGaps
  refine (scanning_of_scans (State.scans_foldl _ (fun (t : State) (g : Nat × Nat) => setGap_scans b g.1 t) _ _) b).trans ?_
  rw [scanning, State.noseAt_setNose_same, scanning]

theorem noteBacklog_run (b : Nat) (s : State) : scanning b (noteBacklog b s) = scanning b s := by
  unfold noteBacklog
  rw [scanning_modNose, scanning]

theorem leaveRequest_run (b : Nat) (q : ScanReq) (status : Nat) (a : ScanAcc) (s : State) :
    scanning b (leaveRequest b q status a s) = scanning b s := by
  unfold leaveRequest
  cases q.way <;>
  simp only [apply_ite (scanning b), scanning_of_scans (hostResume_scans ..), noteBacklog_run, settleGaps_run, scanning_of_scans (release_scans ..),
    report_run, scanning_of_scans (giveResult_scans ..), scanning_of_scans (modWay_scans ..), scanning_of_nose (perf_nose ..),
    scanning_of_nose (perfN_nose ..), scanning_of_nose (bump_nose ..), scanning_of_nose (bump64_nose ..), ite_self]

/-! ### The end of a request -/

theorem leaveRequest_cleared (b : Nat) (q : ScanReq) (status : Nat) (a : ScanAcc) (s : State) :
    scanning b (leaveRequest b q status a (s.modNose b fun n => { n with run := none })) = none := by
  rw [leaveRequest_run, scanning_modNose]

theorem endRun_cleared (b : Nat) (r : NoseRun) (status : Nat) (a : ScanAcc) (done gap : Bool) (s : State) :
    scanning b (endRun b r status a done gap s) = none := by
  unfold endRun
  cases r.req.way <;> simp only [leaveRequest_run, scanning_of_scans (putW14_scans ..), scanning_modNose]

/-- A running request whose stream or frame has ended, or whose bytes are all there, leaves the engine (R234 to R237). -/
theorem noseDone_cleared {s : State} {b : Nat} {r : NoseRun} (hr : (s.noseAt b).run = some r)
    (hend : (r.done || scanBad s r.req || (reqBytes s r.req).2) = true) (e : EccResult) (n : Nat) : scanning b (noseDone b e n s) = none := by
  unfold noseDone
  simp only [hr]
  split
  · exact leaveRequest_cleared ..
  case isFalse hdone =>
    simp only [apply_ite (scanning b), endFault, endRun_cleared, leaveRequest_cleared]
    simp only [hdone, Bool.false_or, Bool.or_eq_true] at hend
    obtain h | h := hend <;> simp only [h, if_true, ite_self]

/-! ### The start of a request -/

theorem noseStart_acts {s : State} {b : Nat} {q : ScanReq} {rest : List ScanReq} (hrun : (s.noseAt b).run = none)
    (hq : (s.noseAt b).queue = q :: rest) (hhold : (s.noseAt b).hold = false) (t : State) (ht : t = noseStart b s) :
    t.noseAt b = { s.noseAt b with queue := rest, run := some (chooseStream s b q).1 } ∧ t = { s with nose := t.nose, regs := t.regs } := by
  have heq : noseStart b s = if (chooseStream s b q).2 then
      bump (Reg.NOSE_RESTART_CNT b) (s.setNose b { s.noseAt b with queue := rest, run := some (chooseStream s b q).1 })
      else s.setNose b { s.noseAt b with queue := rest, run := some (chooseStream s b q).1 } := by
    unfold noseStart
    simp only [hrun, hq, hhold, Bool.false_eq_true, if_false]
  subst ht
  rw [heq]
  split
  · rw [noseAt_of_nose (bump_nose ..), State.noseAt_setNose_same, bump_frame]
    exact ⟨rfl, rfl⟩
  · rw [State.noseAt_setNose_same]
    exact ⟨rfl, rfl⟩

theorem noseStart_idle {s : State} {b : Nat} (h : (s.noseAt b).run ≠ none ∨ (s.noseAt b).queue = [] ∨ (s.noseAt b).hold = true) :
    noseStart b s = s := by
  unfold noseStart
  dsimp only
  split
  case h_1 q rest hrun hq =>
    obtain h | h | h := h
    · exact absurd hrun h
    · cases hq.symm.trans h
    · exact if_pos h
  case h_2 => rfl

/-! ### Reports -/

theorem addItem_dispAt {i : Item} (hnew : i.desc.bind (·.entered) = none) (b : Nat) (s : State) :
    ((addItem b i s).dispAt b).nextId = (s.dispAt b).nextId + 1 := by
  unfold addItem
  simp only [hnew, notePeak]
  rw [State.dispAt, peak_disp]
  exact congrArg Disp.nextId (State.dispAt_setDisp_same ..)

theorem offerReports_none {s : State} {b : Nat} (h : (s.noseAt b).reports = []) (n : Nat) : offerReports b n s = s := by
  cases n with
  | zero => rfl
  | succ n => simp only [offerReports, h]

theorem reportRetry_posted {s : State} {b : Nat} {h w : Word64} {p : Nat} (hone : (s.noseAt b).reports = [(h, p, w)])
    (hroutine : fieldOf s (Reg.DISP_MAINT_ROUTINE b) 31 24 ≠ 0) (hplace : placeFree s b 3 = true)
    (hdue : us 1 ≤ since s (s.noseAt b).reportAt) :
    ((reportRetry b s).noseAt b).reports = [] ∧ ((reportRetry b s).dispAt b).nextId = (s.dispAt b).nextId + 1 := by
  rw [reportRetry, if_neg (Nat.not_lt.2 hdue), offerReports]
  simp only [hone, if_neg hroutine, hplace, if_true]
  generalize hi : ({ id := 0, g0 := _, g1 := h, g3 := w, prio := 3, kind := .nose } : Item) = i
  have hnew : i.desc.bind (·.entered) = none := by rw [← hi]; rfl
  have hempty : ((addItem b i (s.modNose b fun n => { n with reports := [] })).noseAt b).reports = [] := by
    rw [noseAt_of_scans (addItem_scans ..), State.noseAt_modNose_same]
  rw [offerReports_none hempty, addItem_dispAt hnew]
  exact ⟨hempty, rfl⟩

theorem reportRetry_idle {s : State} {b : Nat} (h : (s.noseAt b).reports = [] ∨ since s (s.noseAt b).reportAt < us 1) : reportRetry b s = s := by
  unfold reportRetry
  obtain h | h := h
  · rw [offerReports_none h, ite_self]
  · exact if_pos h

/-! ### Bursts -/

theorem noseBurstReturn_given {s : State} {b a : Nat} (hsince : (s.noseAt b).zeroSince = some a) (hzero : backlog s b = 0)
    (hlong : us 10 ≤ since s a) (hgranted : (s.userAt b).st = .granted) (hnone : (s.userAt b).released = 0) (t : State)
    (ht : t = noseBurstReturn b s) : t.userAt b = {} ∧ t = { s with treas := t.treas, regs := t.regs, sill := t.sill } := by
  have heq : noseBurstReturn b s = returnAllowance b s := by
    unfold noseBurstReturn
    simp only [hsince, if_pos (And.intro hzero hlong)]
  rw [heq, returnAllowance_granted hgranted] at ht
  subst ht
  refine ⟨?_, ?_⟩
  · rw [State.userAt, droppedTreas, if_pos hnone, Tbl.get_set_same]
  · rw [noteAllowance, emit_frame]

/-! ### Pattern groups -/

theorem groupAt_setGroup_same (g : Nat) (x : NoseGroup) (s : State) : groupAt (setGroup g x s) g = x := Tbl.get_set_same ..

theorem groupAt_of_automata {s t : State} (h : t.automata = s.automata) (g : Nat) : groupAt t g = groupAt s g := by
  rw [groupAt, h, groupAt]

theorem groupResult_acts {r : Nat} (hr : r < 8) (v : Word32) (s : State) : fieldOf (groupResult v r s) (Reg.NOSE_GRP_RESULT 0) 2 0 = r ∧
    groupResult v r s = { s with regs := (groupResult v r s).regs } := by
  unfold groupResult
  refine ⟨(fieldOf_setField_same _ _ _ _ _ (by decide) (by decide)).trans (Nat.mod_eq_of_lt hr), ?_⟩
  rw [setField_frame, setField_frame]

theorem noseInvalidate_ends {s : State} {v : Word32} (hop : bits v.toNat 1 0 = 1) (hg : bits v.toNat 13 8 < s.automata.groupCount)
    (hvalid : (groupAt s (bits v.toNat 13 8)).valid = true) : noseInvalidate v s =
    setGroup (bits v.toNat 13 8) { groupAt s (bits v.toNat 13 8) with valid := false, quiesced := false } (groupResult v 0 s) := by
  unfold noseInvalidate
  simp only [hop, ne_eq, not_true, if_false, if_neg (Nat.not_le.2 hg), hvalid, Bool.not_true, Bool.false_eq_true]

theorem noseInvalidate_refused {s : State} {v : Word32} (hop : bits v.toNat 1 0 = 1)
    (hbad : s.automata.groupCount ≤ bits v.toNat 13 8 ∨ (groupAt s (bits v.toNat 13 8)).valid = false) :
    noseInvalidate v s = groupResult v (if s.automata.groupCount ≤ bits v.toNat 13 8 then 1 else 2) s := by
  unfold noseInvalidate
  simp only [hop, ne_eq, not_true, if_false]
  split
  · rfl
  case isFalse hg => simp only [hbad.resolve_left hg, Bool.not_false, if_true]

/-- Time, cause and record of a group's change leave the automata (R245, R247). -/
theorem noteGroup_acts {g : Nat} {validated : Bool} (s t : State) (ht : t = noteGroup g validated s) : t.automata = s.automata ∧
    flagOf t (Reg.NOSE_IRQ_CAUSE 0) (b2n validated) = true ∧ t = { s with regs := t.regs, sill := t.sill } := by
  subst ht
  unfold noteGroup
  refine ⟨by rw [emit_automata, cause_automata, stamp_automata], ?_, by rw [emit_frame, cause_frame, stamp_frame]⟩
  rw [flagOf_emit_ne _ _ _ _ _ _ (by decide) (by decide)]
  exact flagOf_cause_same _ _ _ (by cases validated <;> decide)

theorem noseQuiesced_acts {s : State} {g : Nat} (hg : g < s.automata.groupCount) (hvalid : (groupAt s g).valid = false)
    (hquiesced : (groupAt s g).quiesced = false) (hbusy : groupBusy s g = false) (t : State) (ht : t = noseQuiesced g s) :
    groupAt t g = { groupAt s g with quiesced := true } ∧ flagOf t (Reg.NOSE_IRQ_CAUSE 0) 0 = true ∧
    t = { s with automata := t.automata, regs := t.regs, sill := t.sill } := by
  have heq : noseQuiesced g s = noteGroup g false (setGroup g { groupAt s g with quiesced := true } s) := by
    unfold noseQuiesced
    simp only [hg, hvalid, hquiesced, hbusy, Bool.not_false, and_self, if_true]
  obtain ⟨hautomata, hcause, hframe⟩ := noteGroup_acts _ t (ht.trans heq)
  refine ⟨(groupAt_of_automata hautomata g).trans (groupAt_setGroup_same ..), hcause, ?_⟩
  rw [hframe]
  rfl

theorem noseValidate_acts {s : State} {v : Word32} (hop : bits v.toNat 1 0 = 2) (hg : bits v.toNat 13 8 < s.automata.groupCount)
    (hvalid : (groupAt s (bits v.toNat 13 8)).valid = false) (hquiesced : (groupAt s (bits v.toNat 13 8)).quiesced = true)
    (hstart : inGroup (groupAt s (bits v.toNat 13 8)) (groupAt s (bits v.toNat 13 8)).start = true) (t : State)
    (ht : t = noseValidate v s) : groupAt t (bits v.toNat 13 8) =
      { groupAt s (bits v.toNat 13 8) with valid := true, quiesced := false, gen := ((groupAt s (bits v.toNat 13 8)).gen + 1) % 256 } ∧
    flagOf t (Reg.NOSE_IRQ_CAUSE 0) 1 = true ∧ t = { s with automata := t.automata, regs := t.regs, sill := t.sill } := by
  generalize hn : bits v.toNat 13 8 = n at *
  have heq : noseValidate v s = noteGroup n true (setGroup n
      { groupAt s n with valid := true, quiesced := false, gen := ((groupAt s n).gen + 1) % 256 } (groupResult v 0 s)) := by
    unfold noseValidate
    simp only [hn, hop, ne_eq, not_true, if_false, if_neg (Nat.not_le.2 hg), hvalid, hquiesced, hstart, Bool.not_true, Bool.false_eq_true]
  obtain ⟨hautomata, hcause, hframe⟩ := noteGroup_acts _ t (ht.trans heq)
  refine ⟨(groupAt_of_automata hautomata n).trans (groupAt_setGroup_same ..), hcause, ?_⟩
  rw [hframe, (groupResult_acts (by decide) v s).2]
  rfl

theorem noseValidate_unready {s : State} {v : Word32} (hop : bits v.toNat 1 0 = 2) (hg : bits v.toNat 13 8 < s.automata.groupCount)
    (hvalid : (groupAt s (bits v.toNat 13 8)).valid = false) (hquiesced : (groupAt s (bits v.toNat 13 8)).quiesced = false) :
    noseValidate v s = groupResult v 3 s := by
  unfold noseValidate
  simp only [hop, ne_eq, not_true, if_false, if_neg (Nat.not_le.2 hg), hvalid, hquiesced, Bool.not_false, Bool.false_eq_true, if_true]

/-! ### Pattern memory -/

/-- The address register moves on where AUTO is set (R246). -/
def memNext (a : Nat) (s : State) : State :=
  if flagOf s (Reg.NOSE_MEM_ADDR 0) 31 then setField (Reg.NOSE_MEM_ADDR 0) 22 2 ((a / 4 + 1) % 2 ^ 21) s else s

theorem memNext_frame (a : Nat) (s : State) : memNext a s = { s with regs := (memNext a s).regs } := by
  unfold memNext
  split
  · rw [setField_frame]
  · rfl

theorem memNext_flag (a o i : Nat) (s : State) (h : Reg.NOSE_MEM_ADDR 0 ≠ o) : flagOf (memNext a s) o i = flagOf s o i := by
  unfold memNext
  split
  · rw [flagOf, regRead_setField_ne _ _ _ _ _ _ h, flagOf]
  · rfl

theorem noseMemWrite_refused {s : State} {v : Word32} (h : memTaken s (4 * fieldOf s (Reg.NOSE_MEM_ADDR 0) 22 2) = false) (t : State)
    (ht : t = noseMemWrite v s) : t.automata = s.automata ∧ flagOf t (Reg.NOSE_IRQ_CAUSE 0) 7 = true ∧ t = { s with regs := t.regs } := by
  have heq : noseMemWrite v s = memNext (4 * fieldOf s (Reg.NOSE_MEM_ADDR 0) 22 2)
      (cause (Reg.NOSE_IRQ_CAUSE 0) 7 (bump (Reg.NOSE_MEM_REFUSED_CNT 0) s)) := by
    unfold noseMemWrite
    simp only [h, Bool.false_eq_true, if_false]
    rfl
  subst ht
  rw [heq]
  have hframe : ∀ a, memNext a (cause (Reg.NOSE_IRQ_CAUSE 0) 7 (bump (Reg.NOSE_MEM_REFUSED_CNT 0) s)) =
      { s with regs := (memNext a (cause (Reg.NOSE_IRQ_CAUSE 0) 7 (bump (Reg.NOSE_MEM_REFUSED_CNT 0) s))).regs } := fun a => by
    rw [memNext_frame, cause_frame, bump_frame]
  refine ⟨(congrArg State.automata (hframe _) :), ?_, hframe _⟩
  rw [memNext_flag _ _ _ _ (by decide)]
  exact flagOf_cause_same _ _ _ (by decide)

theorem noseMemWrite_node {s : State} {v : Word32} (h : memTaken s (4 * fieldOf s (Reg.NOSE_MEM_ADDR 0) 22 2) = true)
    (hnode : 0x10000 ≤ 4 * fieldOf s (Reg.NOSE_MEM_ADDR 0) 22 2) (t : State) (ht : t = noseMemWrite v s) :
    noseUnit t ((4 * fieldOf s (Reg.NOSE_MEM_ADDR 0) 22 2 - 0x10000) / 8) =
      putHalf (noseUnit s ((4 * fieldOf s (Reg.NOSE_MEM_ADDR 0) 22 2 - 0x10000) / 8))
        (Decidable.decide (4 * fieldOf s (Reg.NOSE_MEM_ADDR 0) 22 2 / 4 % 2 = 1)) v ∧
    t = { s with automata := t.automata, regs := t.regs } := by
  generalize ha : 4 * fieldOf s (Reg.NOSE_MEM_ADDR 0) 22 2 = a at *
  have heq : noseMemWrite v s = memNext a { s with automata := { s.automata with
      nodes := Tbl.set s.automata.nodes ((a - 0x10000) / 8) 0 (putHalf (noseUnit s ((a - 0x10000) / 8)) (Decidable.decide (a / 4 % 2 = 1)) v) } } := by
    unfold noseMemWrite
    simp only [ha, h, if_true, if_neg (Nat.not_lt.2 hnode)]
    rfl
  subst ht
  rw [heq, memNext_frame]
  exact ⟨Tbl.get_set_same .., rfl⟩

/-- Settles O48: requests, reports and bursts by the state of the engine, groups and memory by the state of the group. -/
theorem scanEngineCommandsAct : Obligations.ScanEngineCommandsAct := by
  refine ⟨?_, ?_, ?_, ?_, ?_, ?_, ?_, ?_, ?_, ?_, ?_, ?_, ?_, ?_, ?_⟩
  · intro s b q rest hrun hq hhold
    exact ⟨_, rfl, noseStart_acts hrun hq hhold _ rfl⟩
  · intro s b h
    exact congrArg Host.Outcome.next (noseStart_idle h)
  · intro s b r e n hr hend
    exact ⟨_, rfl, noseDone_cleared hr hend e n⟩
  · intro s b e n hr
    refine congrArg Host.Outcome.next ?_
    simp only [noseDone, hr]
  · intro s b h p w hone hroutine hplace hdue
    exact ⟨_, rfl, reportRetry_posted hone hroutine hplace hdue⟩
  · intro s b h
    exact congrArg Host.Outcome.next (reportRetry_idle h)
  · intro s b a hsince hzero hlong hgranted hnone
    exact ⟨_, rfl, noseBurstReturn_given hsince hzero hlong hgranted hnone _ rfl⟩
  · intro s b hnone
    refine congrArg Host.Outcome.next ?_
    simp only [noseBurstReturn, hnone]
  · intro s v hopen hop hg hvalid
    obtain ⟨hresult, hframe⟩ := groupResult_acts (by decide : 0 < 8) v s
    refine ⟨_, congrArg Host.Outcome.next ((gated_open hopen _).trans (noseInvalidate_ends hop hg hvalid)), groupAt_setGroup_same .., hresult, ?_⟩
    rw [hframe]
    rfl
  · intro s v hopen hop hbad
    exact ⟨_, congrArg Host.Outcome.next ((gated_open hopen _).trans (noseInvalidate_refused hop hbad)),
      groupResult_acts (by split <;> decide) v s⟩
  · intro s g hg hvalid hquiesced hbusy
    exact ⟨_, rfl, noseQuiesced_acts hg hvalid hquiesced hbusy _ rfl⟩
  · intro s v hopen hop hg hvalid hquiesced hstart
    exact ⟨_, congrArg Host.Outcome.next (gated_open hopen _), noseValidate_acts hop hg hvalid hquiesced hstart _ rfl⟩
  · intro s v hopen hop hg hvalid hquiesced
    exact ⟨_, congrArg Host.Outcome.next ((gated_open hopen _).trans (noseValidate_unready hop hg hvalid hquiesced)),
      groupResult_acts (by decide) v s⟩
  · intro s v hopen h
    exact ⟨_, congrArg Host.Outcome.next (gated_open hopen _), noseMemWrite_refused h _ rfl⟩
  · intro s v hopen h hnode
    exact ⟨_, congrArg Host.Outcome.next (gated_open hopen _), noseMemWrite_node h hnode _ rfl⟩

end Sys2Proof.Machine
end


section
/-!
PROOFS. The Vault controllers: refresh and temperature (R370 to R372), self-refresh (R373 to R375), calibration and command parity (R377,
R378), error windows and rank sparing (R379 to R382).
-/
namespace Sys2Proof.Machine

theorem chanAt_of_vault {s t : State} (h : t.vault = s.vault) (c : Nat) : t.chanAt c = s.chanAt c := by
  rw [State.chanAt, h, State.chanAt]

/-! ### Refresh -/

theorem forceRefresh_frame (c n : Nat) (s : State) : forceRefresh c n s = { s with regs := (forceRefresh c n s).regs } := by
  unfold forceRefresh
  split
  · rfl
  · rw [perfN_frame, bumpN_frame]

theorem forceRefresh_vault (c n : Nat) (s : State) : (forceRefresh c n s).vault = s.vault := (congrArg State.vault (forceRefresh_frame c n s) :)

theorem flagOf_forceRefresh_temp (c n i : Nat) (s : State) :
    flagOf (forceRefresh c n s) (Reg.VAULT_CH_TEMP c) i = flagOf s (Reg.VAULT_CH_TEMP c) i := by
  unfold forceRefresh
  split
  · rfl
  · rw [flagOf, regRead_perfN_ne _ _ _ _ _ (fun k hk => by simp only [Reg.PERF_CNT_LO, Reg.VAULT_CH_TEMP, uVault]; omega)
      (by simp only [Reg.PERF_UNIT_CTRL, Reg.VAULT_CH_TEMP, uVault]; omega) (by simp only [Reg.PERF_IRQ_CAUSE, Reg.VAULT_CH_TEMP]; omega),
      regRead_bumpN_ne _ _ _ _ (by simp only [Reg.VAULT_CH_REF_FORCED_CNT, Reg.VAULT_CH_TEMP]; omega), flagOf]

theorem refreshAccrual_due {s : State} {c cs set : Nat} (hawake : chanAwake (s.chanAt c) = true) (hwork : rankWorked s (2 * c + cs) = true)
    (hdue : (if chanHot (s.chanAt c) then 1950 else 3900) ≤ since s (Tbl.get (s.chanAt c).refAt (setNo cs set) 0)) (t : State)
    (ht : t = refreshAccrual c cs set s) : Tbl.get (t.chanAt c).debt (setNo cs set) 0 =
      (if debtLimit (s.chanAt c) ≤ Tbl.get (s.chanAt c).debt (setNo cs set) 0 then Tbl.get (s.chanAt c).debt (setNo cs set) 0
        else Tbl.get (s.chanAt c).debt (setNo cs set) 0 + 1) ∧ t = { s with vault := t.vault, regs := t.regs } := by
  unfold refreshAccrual at ht
  simp only [hawake, hwork, decide_eq_false (Nat.not_lt.2 hdue), Bool.not_true, Bool.or_self, Bool.false_eq_true, if_false] at ht
  have hlimit : ∀ r, debtLimit { s.chanAt c with refAt := r } = debtLimit (s.chanAt c) := fun _ => rfl
  rw [hlimit] at ht
  subst ht
  split
  · rw [chanAt_of_vault (forceRefresh_vault ..), State.chanAt_setChan_same, forceRefresh_frame]
    exact ⟨Tbl.get_set_same _ _ _ _, rfl⟩
  · rw [State.chanAt_setChan_same]
    refine ⟨?_, rfl⟩
    dsimp only
    rw [Tbl.get_set_same]

theorem refreshIssue_due {s : State} {c cs set : Nat} (hawake : chanAwake (s.chanAt c) = true)
    (hdebt : Tbl.get (s.chanAt c).debt (setNo cs set) 0 ≠ 0) (hfree : setQueued s (2 * c + cs) set = false) (t : State)
    (ht : t = refreshIssue c cs set s) :
    Tbl.get (t.chanAt c).debt (setNo cs set) 0 = Tbl.get (s.chanAt c).debt (setNo cs set) 0 - 1 ∧ t = { s with vault := t.vault } := by
  unfold refreshIssue at ht
  simp only [hawake, beq_eq_false_iff_ne.2 hdebt, hfree, Bool.not_true, Bool.or_self, Bool.false_eq_true, if_false] at ht
  subst ht
  rw [State.chanAt_setChan_same]
  exact ⟨Tbl.get_set_same .., rfl⟩

/-! ### Temperature -/

/-- A flag is its field of one bit. -/
theorem flagOf_setField_zero {i : Nat} (hi : i < 32) (o : Nat) (s : State) : flagOf (setField o i i 0 s) o i = false := by
  have hfield : fieldOf (setField o i i 0 s) o i i = 0 := fieldOf_setField_same o i i 0 s le_rfl hi
  rw [fieldOf, bits, Nat.add_sub_cancel_left, pow_one, Nat.shiftRight_eq_div_pow] at hfield
  rw [flagOf, BitVec.getLsbD, Nat.testBit_eq_decide_div_mod_eq, hfield]
  rfl

theorem payHot_chan (c : Nat) (s : State) :
    (payHot c s).chanAt c = { s.chanAt c with debt := (s.chanAt c).debt.map fun (m, n) => (m, min n 2) } := by
  unfold payHot
  exact (chanAt_of_vault (forceRefresh_vault ..) c).trans (State.chanAt_setChan_same ..)

theorem flagOf_payHot_temp (c i : Nat) (s : State) : flagOf (payHot c s) (Reg.VAULT_CH_TEMP c) i = flagOf s (Reg.VAULT_CH_TEMP c) i := by
  unfold payHot
  exact flagOf_forceRefresh_temp ..

/-- The cause and the record of a change of temperature leave the Vault. -/
theorem thermNoted_vault (c i : Nat) (hot fail : Bool) (x : Int) (s : State) :
    (noteTherm c hot fail x (cause (Reg.VAULT_CH_IRQ_CAUSE c) i s)).vault = s.vault := by
  rw [noteTherm, emit_vault, cause_vault]

theorem sensorFailed_acts (c : Nat) (s : State) : ((sensorFailed c s).chanAt c).sensorFails = (s.chanAt c).sensorFails + 1 ∧
    flagOf (sensorFailed c s) (Reg.VAULT_CH_TEMP c) 31 = false := by
  generalize hu : setField (Reg.VAULT_CH_TEMP c) 31 31 0 (s.setChan c { s.chanAt c with sensorFails := (s.chanAt c).sensorFails + 1 }) = u
  have hchan : (u.chanAt c).sensorFails = (s.chanAt c).sensorFails + 1 := by
    rw [← hu, chanAt_of_vault (setField_vault ..), State.chanAt_setChan_same]
  have hflag : flagOf u (Reg.VAULT_CH_TEMP c) 31 = false := by
    rw [← hu]
    exact flagOf_setField_zero (by decide) _ _
  have heq : sensorFailed c s = if (s.chanAt c).sensorFails = 1 then
      payHot c (noteTherm c (chanHot (u.chanAt c)) true (chanTemp u c) (cause (Reg.VAULT_CH_IRQ_CAUSE c) 5 u)) else u := by
    rw [← hu]
    rfl
  rw [heq]
  split
  · rw [payHot_chan, chanAt_of_vault (thermNoted_vault ..), flagOf_payHot_temp, noteTherm,
      flagOf_emit_ne _ _ _ _ _ _ (by simp only [Reg.SILL_LOST_CNT, Reg.VAULT_CH_TEMP]; omega)
        (by simp only [Reg.SILL_IRQ_CAUSE, Reg.VAULT_CH_TEMP]; omega),
      flagOf_cause_ne _ _ _ _ _ (by simp only [Reg.VAULT_CH_IRQ_CAUSE, Reg.VAULT_CH_TEMP]; omega)]
    exact ⟨hchan, hflag⟩
  · exact ⟨hchan, hflag⟩

theorem sensorRead_acts (c : Nat) (v : Int) (s : State) :
    ((sensorRead c v s).chanAt c).hot = (if 85 < v then true else if v ≤ 83 then false else (s.chanAt c).hot) ∧
    ((sensorRead c v s).chanAt c).sensorFails = 0 := by
  generalize hhot : (if 85 < v then true else if v ≤ 83 then false else (s.chanAt c).hot) = hot
  generalize hu : regStore (Reg.VAULT_CH_TEMP c) (BitVec.ofNat 32 (2 ^ 31 + unsigned 8 v))
    (s.setChan c { s.chanAt c with sensorFails := 0, hot := hot }) = u
  have hchan : (u.chanAt c).hot = hot ∧ (u.chanAt c).sensorFails = 0 := by
    rw [← hu, chanAt_of_vault (regStore_vault ..), State.chanAt_setChan_same]
    exact ⟨rfl, rfl⟩
  have heq : sensorRead c v s = if hot = (s.chanAt c).hot then u else
      if hot then payHot c (noteTherm c hot false v (cause (Reg.VAULT_CH_IRQ_CAUSE c) (if hot then 0 else 1) u))
      else noteTherm c hot false v (cause (Reg.VAULT_CH_IRQ_CAUSE c) (if hot then 0 else 1) u) := by
    rw [← hu, ← hhot]
    rfl
  rw [heq]
  split
  · exact hchan
  · split
    · rw [payHot_chan, chanAt_of_vault (thermNoted_vault ..)]
      exact hchan
    · rw [chanAt_of_vault (thermNoted_vault ..)]
      exact hchan

theorem dimmTemp_due {s : State} {c : Nat} (hdue : us 1000 ≤ since s (s.chanAt c).tempAt) (temps : List Int) : dimmTemp c temps s =
    match temps with
    | [] => sensorFailed c (s.setChan c { s.chanAt c with tempAt := s.time.tick })
    | x :: xs => sensorRead c (xs.foldl max x) (s.setChan c { s.chanAt c with tempAt := s.time.tick }) := by
  have hnot : ¬ since s (s.chanAt c).tempAt < us 1000 := Nat.not_lt.2 hdue
  cases temps
  case nil => exact if_neg hnot
  case cons x xs => exact if_neg hnot

/-! ### Self-refresh -/

/-- A self-refresh record leaves all but registers and Sillage. -/
theorem noteSr_acts (c what : Nat) (s t : State) (ht : t = noteSr c what s) : t.chanAt c = s.chanAt c ∧
    t = { s with regs := t.regs, sill := t.sill } := by
  subst ht
  unfold noteSr
  exact ⟨chanAt_of_vault (emit_vault ..) c, emit_frame ..⟩

theorem srEntered_acts {s : State} {c : Nat} (hst : (s.chanAt c).st = .srEntry) (hdrained : (s.chanAt c).writes = []) (t : State)
    (ht : t = srEntered c s) : (t.chanAt c).st = (if (srWanted s).isSome then .selfRefresh else .srExit) ∧
    t = { s with vault := t.vault, regs := t.regs, sill := t.sill } := by
  rw [srEntered, if_neg (by rw [hst, hdrained]; decide)] at ht
  obtain ⟨hchan, hframe⟩ := noteSr_acts _ _ _ t ht
  rw [hchan, State.chanAt_modChan_same]
  refine ⟨rfl, ?_⟩
  rw [hframe]
  rfl

theorem srArrival_issued (c : Nat) (s : State) :
    ((s.chanAt c).st = .srEntry ∨ (s.chanAt c).st = .selfRefresh → ((srArrival c true s).chanAt c).st = .srExit) ∧
    srArrival c true s = { s with vault := (srArrival c true s).vault } := by
  unfold srArrival
  dsimp only
  split
  case h_1 =>
    rw [if_pos rfl, State.chanAt_setChan_same]
    exact ⟨fun _ => rfl, rfl⟩
  case h_2 =>
    rw [State.chanAt_setChan_same]
    exact ⟨fun _ => rfl, rfl⟩
  case h_3 hentry hsr => exact ⟨fun h => (h.elim hentry hsr).elim, rfl⟩

theorem srArrival_early {s : State} {c : Nat} (hst : (s.chanAt c).st = .srEntry) (t : State) (ht : t = srArrival c false s) :
    (t.chanAt c).st = .service ∧ t = { s with vault := t.vault, regs := t.regs, sill := t.sill } := by
  simp only [srArrival, hst, Bool.false_eq_true, if_false] at ht
  obtain ⟨hchan, hframe⟩ := noteSr_acts _ _ _ t ht
  rw [hchan, chanAt_of_vault (bump_vault ..), State.chanAt_setChan_same]
  refine ⟨rfl, ?_⟩
  rw [hframe, bump_frame]
  rfl

theorem srExitDone_acts {s : State} {c : Nat} (hst : (s.chanAt c).st = .srExit) (t : State) (ht : t = srExitDone c s) :
    (t.chanAt c).st = .service ∧ (t.chanAt c).lastReq = s.time.tick ∧ t = { s with vault := t.vault, regs := t.regs, sill := t.sill } := by
  rw [srExitDone, if_pos hst] at ht
  obtain ⟨hchan, hframe⟩ := noteSr_acts _ _ _ t ht
  rw [hchan, State.chanAt_modChan_same]
  refine ⟨rfl, rfl, ?_⟩
  rw [hframe]
  rfl

theorem srRetry_begins {s : State} {c : Nat} {why : SrCause} (hwhy : srWanted s = some why) (hquiet : us 1 ≤ since s (s.chanAt c).lastReq)
    (hst : (s.chanAt c).st = .service) (hmerge : (s.chanAt c).merge = []) (hwin : winWaits s c = false) :
    srRetry c s = s.modChan c fun x => { x with st := .srEntry, srCause := why, debt := [] } := by
  simp only [srRetry, hwhy, hquiet, hwin, Bool.not_false, and_self, if_true, srBegin, hst, ne_eq, not_true, if_false, hmerge, List.foldl_nil]

/-! ### Candidates -/

theorem flagOf_stamp_ne (a b p i : Nat) (s : State) (ha : a ≠ p) (hb : b ≠ p) : flagOf (stamp a b s) p i = flagOf s p i := by
  unfold stamp stampAt
  rw [flagOf_regStore_ne _ _ _ _ _ hb, flagOf_regStore_ne _ _ _ _ _ ha]

/-- The flag is not one of the time stamp of a migration's start, nor one of the Sillage. -/
abbrev clearOfStart (p : Nat) : Prop :=
  Reg.VAULT_SPARE_START_SEC ≠ p ∧ Reg.VAULT_SPARE_START_NS ≠ p ∧ Reg.SILL_LOST_CNT ≠ p ∧ Reg.SILL_IRQ_CAUSE ≠ p

theorem candidate_flag {p i : Nat} (hp : clearOfStart p) (rank why : Nat) {s : State} (h : flagOf s p i = true) :
    flagOf (candidate rank why s) p i = true := by
  obtain ⟨hsec, hns, hlost, hirq⟩ := hp
  unfold candidate
  dsimp only
  split
  · rw [flagOf_emit_ne _ _ _ _ _ _ hlost hirq]
    refine flagOf_cause_mono _ _ _ _ _ ?_
    rw [flagOf_stamp_ne _ _ _ _ _ hsec hns]
    exact h
  · exact flagOf_cause_mono _ _ _ _ _ (flagOf_cause_mono _ _ _ _ _ h)

theorem chanAt_of_chans {s t : State} (h : t.vault.chans = s.vault.chans) (c : Nat) : t.chanAt c = s.chanAt c := by
  rw [State.chanAt, h, State.chanAt]

theorem candidate_chan (rank why c : Nat) (s : State) : (candidate rank why s).chanAt c =
    (s.modChan (rank / 2) fun x => { x with candidates := x.candidates ||| 2 ^ (rank % 2) }).chanAt c := by
  unfold candidate
  dsimp only
  split
  · rw [chanAt_of_vault (emit_vault ..), chanAt_of_vault (cause_vault ..), chanAt_of_vault (stamp_vault ..)]
    exact chanAt_of_chans rfl c
  · rw [chanAt_of_vault (cause_vault ..), chanAt_of_vault (cause_vault ..)]

theorem candidate_bit (rank why : Nat) (s : State) : ((candidate rank why s).chanAt (rank / 2)).candidates.testBit (rank % 2) = true := by
  rw [candidate_chan, State.chanAt_modChan_same]
  simp [Nat.testBit_two_pow_self]

theorem candidate_fwl (rank why c : Nat) (s : State) : ((candidate rank why s).chanAt c).fwl = (s.chanAt c).fwl := by
  rw [candidate_chan, State.chanAt_modChan]
  split
  case isTrue h => rw [h]
  case isFalse => rfl

/-- A candidate begins the migration where the spare is ready and software or the configuration asks for it (R379). -/
theorem candidate_begins {rank : Nat} {s : State} (hready : s.vault.spareSt = .ready) (hspare : s.vault.spare ≠ some rank) (t : State)
    (ht : t = candidate rank 5 s) : t.vault.spareSt = .migrating ∧ t.vault.spareSrc = rank ∧ t.vault.spareCause = 5 ∧ t.vault.cursor = 0 ∧
    flagOf t Reg.VAULT_IRQ_CAUSE 1 = true := by
  unfold candidate at ht
  dsimp only at ht
  rw [if_pos ⟨hready, Or.inr rfl, hspare⟩] at ht
  subst ht
  rw [emit_vault, cause_vault, stamp_vault, flagOf_emit_ne _ _ _ _ _ _ (by decide) (by decide)]
  exact ⟨rfl, rfl, rfl, rfl, flagOf_cause_same _ _ _ (by decide)⟩

/-- A lasting error of a rank that is not the target of a migration makes it a candidate. -/
theorem rankLasting_candidate {s : State} {rank : Nat} (h : ¬ (s.vault.spareSt = .migrating ∧ s.vault.spare = some rank)) (why : Nat) :
    rankLasting rank why s = candidate rank why s := if_neg h

/-! ### Calibration -/

/-- The state once a calibration of the rank has been made. -/
def calibrated (rank : Nat) (s : State) : State :=
  s.setChan (rank / 2) { s.chanAt (rank / 2) with zqAt := Tbl.set (s.chanAt (rank / 2)).zqAt (rank % 2) 0 s.time.tick }

theorem zqCalibration_due {s : State} {rank : Nat} (hst : (s.chanAt (rank / 2)).st = .service) (hwork : rankWorked s rank = true)
    (hdue : us 100000 ≤ since s (Tbl.get (s.chanAt (rank / 2)).zqAt (rank % 2) 0)) (zq dqs : Bool) : zqCalibration rank zq dqs s =
      if zq && dqs then calibrated rank s
      else rankLasting rank 4 (noteTrainFail rank (if zq then 6 else 5)
        ((calibrated rank s).modChan (rank / 2) fun x => { x with retrainFailed := true })) := by
  unfold zqCalibration
  dsimp only
  refine if_neg ?_
  rw [hst, hwork, decide_eq_false (Nat.not_lt.2 hdue)]
  decide

theorem zqCalibration_good {s : State} {rank : Nat} (hst : (s.chanAt (rank / 2)).st = .service) (hwork : rankWorked s rank = true)
    (hdue : us 100000 ≤ since s (Tbl.get (s.chanAt (rank / 2)).zqAt (rank % 2) 0)) (t : State) (ht : t = zqCalibration rank true true s) :
    Tbl.get (t.chanAt (rank / 2)).zqAt (rank % 2) 0 = s.time.tick ∧ t = { s with vault := t.vault } := by
  rw [(zqCalibration_due hst hwork hdue true true).trans (if_pos (by decide))] at ht
  subst ht
  rw [calibrated, State.chanAt_setChan_same]
  exact ⟨Tbl.get_set_same _ _ _ _, rfl⟩

theorem noteTrainFail_acts (rank step : Nat) (s : State) : (noteTrainFail rank step s).vault = s.vault ∧
    flagOf (noteTrainFail rank step s) Reg.VAULT_IRQ_CAUSE 0 = true := by
  unfold noteTrainFail
  rw [emit_vault, cause_vault, regStore_vault, flagOf_emit_ne _ _ _ _ _ _ (by decide) (by decide)]
  exact ⟨rfl, flagOf_cause_same _ _ _ (by decide)⟩

theorem zqCalibration_bad {s : State} {rank : Nat} {zq dqs : Bool} (hst : (s.chanAt (rank / 2)).st = .service) (hwork : rankWorked s rank = true)
    (hdue : us 100000 ≤ since s (Tbl.get (s.chanAt (rank / 2)).zqAt (rank % 2) 0)) (hbad : (zq && dqs) = false)
    (hsource : ¬ (s.vault.spareSt = .migrating ∧ s.vault.spare = some rank)) (t : State) (ht : t = zqCalibration rank zq dqs s) :
    flagOf t Reg.VAULT_IRQ_CAUSE 0 = true ∧ (t.chanAt (rank / 2)).candidates.testBit (rank % 2) = true := by
  rw [zqCalibration_due hst hwork hdue, if_neg (by rw [hbad]; decide)] at ht
  obtain ⟨hvault, hcause⟩ := noteTrainFail_acts rank (if zq then 6 else 5)
    ((calibrated rank s).modChan (rank / 2) fun x => { x with retrainFailed := true })
  rw [rankLasting_candidate (by rw [hvault]; exact hsource)] at ht
  subst ht
  exact ⟨candidate_flag (by decide) rank 4 hcause, candidate_bit ..⟩

/-! ### Command parity -/

theorem takeFree_frame (s : State) : (takeFree s).2 = { s with free := (takeFree s).2.free } := rfl

theorem freeRecord_frame (n : Nat) (r : Rec) (s : State) : (freeRecord n r s).2 = { s with free := (freeRecord n r s).2.free } := by
  induction n generalizing r s with
  | zero => rfl
  | succ n ih =>
    unfold freeRecord
    dsimp only
    rw [ih, takeFree_frame]

theorem setOcc_vault (b n : Nat) (s : State) : (setOcc b n s).vault = s.vault := by
  unfold setOcc
  simp only [apply_ite State.vault, cause_vault, ite_self]
  rfl

theorem setOcc_flag (b n p i : Nat) {s : State} (h : flagOf s p i = true) : flagOf (setOcc b n s) p i = true := by
  unfold setOcc
  dsimp only
  split
  · exact flagOf_cause_mono _ _ _ _ _ h
  · exact h

theorem occStep_vault (slot : Nat) (f : State → State) (s : State) : (occStep slot f s).vault = (f s).vault := by
  unfold occStep
  dsimp only
  split
  · rw [setOcc_vault]
  · rw [setOcc_vault]
  · rfl

theorem occStep_flag (slot p i : Nat) (f : State → State) {s : State} (h : flagOf (f s) p i = true) : flagOf (occStep slot f s) p i = true := by
  unfold occStep
  dsimp only
  split
  · exact setOcc_flag _ _ _ _ h
  · exact setOcc_flag _ _ _ _ h
  · exact h

/-- A failed write whose list has room: the record's content is unknown and it joins the list (R378). -/
def failCell (rank u : Nat) (s : State) : State :=
  let t := (freeRecord 16 Rec.empty s).2
  State.modChan { t with vault := setCell t.vault rank u (.data (freeRecord 16 Rec.empty s).1) } (rank / 2) fun x => { x with fwl := x.fwl ++ [cellKey rank u] }

theorem failCell_listed (rank u : Nat) (s : State) : cellKey rank u ∈ ((failCell rank u s).chanAt (rank / 2)).fwl := by
  rw [failCell, State.chanAt_modChan_same]
  exact List.mem_append_right _ (List.mem_singleton.2 rfl)

theorem failCell_regs (rank u : Nat) (s : State) : (failCell rank u s).regs = s.regs := by
  have hregs : (freeRecord 16 Rec.empty s).2.regs = s.regs := by rw [freeRecord_frame]
  unfold failCell
  generalize freeRecord 16 Rec.empty s = p at hregs
  exact hregs

theorem failCell_spare (rank u : Nat) (s : State) :
    (failCell rank u s).vault.spareSt = s.vault.spareSt ∧ (failCell rank u s).vault.spare = s.vault.spare := by
  have hvault : (freeRecord 16 Rec.empty s).2.vault = s.vault := by rw [freeRecord_frame]
  unfold failCell
  generalize freeRecord 16 Rec.empty s = p at hvault
  rw [← hvault]
  exact ⟨rfl, rfl⟩

theorem failedWrite_listed {rank a : Nat} {s : State} (hroom : (s.chanAt (rank / 2)).fwl.length < 256) :
    cellKey rank (decodeRecord s.vault a).2 ∈ ((failedWrite rank a s).chanAt (rank / 2)).fwl ∧
    (∀ p i, flagOf s p i = true → flagOf (failedWrite rank a s) p i = true) ∧
    (failedWrite rank a s).vault.spareSt = s.vault.spareSt ∧ (failedWrite rank a s).vault.spare = s.vault.spare := by
  have heq : failedWrite rank a s = if (s.chanAt (rank / 2)).fwl.contains (cellKey rank (decodeRecord s.vault a).2) then s
      else match slotOf s.vault a with
        | some slot => occStep slot (failCell rank (decodeRecord s.vault a).2) s
        | none => failCell rank (decodeRecord s.vault a).2 s := by
    unfold failedWrite
    simp only [if_neg (Nat.not_le.2 hroom)]
    rfl
  have hregs : ∀ p i, flagOf s p i = true → flagOf (failCell rank (decodeRecord s.vault a).2 s) p i = true := fun p i h =>
    (flagOf_congr (failCell_regs ..) p i).trans h
  rw [heq]
  split
  case isTrue h => exact ⟨List.contains_iff_mem.1 h, fun _ _ => id, rfl, rfl⟩
  case isFalse =>
    split
    · rw [chanAt_of_vault (occStep_vault ..), occStep_vault]
      exact ⟨failCell_listed .., fun p i h => occStep_flag _ p i _ (hregs p i h), failCell_spare ..⟩
    · exact ⟨failCell_listed .., hregs, failCell_spare ..⟩

theorem caParity_replayed {s : State} {c rank : Nat} (hawake : chanAwake (s.chanAt c) = true) (hchan : rank / 2 = c)
    (hwork : rankWorked s rank = true) (reads writes : List Nat) :
    caParity c rank true reads writes s = bump (Reg.VAULT_CH_CAPAR_CNT c) s := by
  unfold caParity
  simp only [hawake, hchan, hwork, Bool.not_true, Bool.false_eq_true, ne_eq, not_true, or_self, if_false, if_true]

/-- The count, the cause and the record of an alert whose replay has failed (R378). -/
def alertNoted (c rank a : Nat) (s : State) : State :=
  noteCaParity rank false a (cause (Reg.VAULT_CH_IRQ_CAUSE c) 2 (bump (Reg.VAULT_CH_CAPAR_LASTING_CNT c) s))

theorem alertNoted_vault (c rank a : Nat) (s : State) : (alertNoted c rank a s).vault = s.vault := by
  rw [alertNoted, noteCaParity, emit_vault, cause_vault, bump_vault]

theorem alertNoted_flag (c rank a : Nat) (s : State) : flagOf (alertNoted c rank a s) (Reg.VAULT_CH_IRQ_CAUSE c) 2 = true := by
  rw [alertNoted, noteCaParity, flagOf_emit_ne _ _ _ _ _ _ (by simp only [Reg.SILL_LOST_CNT, Reg.VAULT_CH_IRQ_CAUSE]; omega)
    (by simp only [Reg.SILL_IRQ_CAUSE, Reg.VAULT_CH_IRQ_CAUSE]; omega)]
  exact flagOf_cause_same _ _ _ (by decide)

theorem caParity_oneWrite {s : State} {c rank a : Nat} (hawake : chanAwake (s.chanAt c) = true) (hchan : rank / 2 = c)
    (hwork : rankWorked s rank = true) (hknown : a < capacityRecords s.vault) (hranks : writeRanks s.vault a = [rank]) :
    caParity c rank false [] [a] s = rankLasting rank 3 (failedWrite rank a (alertNoted c rank a s)) := by
  have hvault : (noteCaParity rank false a (cause (Reg.VAULT_CH_IRQ_CAUSE c) 2 (bump (Reg.VAULT_CH_CAPAR_LASTING_CNT c) s))).vault = s.vault :=
    alertNoted_vault c rank a s
  unfold caParity
  simp only [hawake, hchan, hwork, Bool.not_true, Bool.false_eq_true, ne_eq, not_true, or_self, if_false, List.filter_cons, List.filter_nil,
    decide_eq_true hknown, hranks, List.any_cons, List.any_nil, beq_self_eq_true, Bool.true_or, Bool.and_self, if_true, List.append_nil,
    List.headD_cons, List.foldl_cons, List.foldl_nil, hvault, alertNoted]

theorem caParity_lists {s : State} {c rank a : Nat} (hawake : chanAwake (s.chanAt c) = true) (hchan : rank / 2 = c)
    (hwork : rankWorked s rank = true) (hknown : a < capacityRecords s.vault) (hranks : writeRanks s.vault a = [rank])
    (hsource : ¬ (s.vault.spareSt = .migrating ∧ s.vault.spare = some rank)) (hroom : (s.chanAt c).fwl.length < 256) (t : State)
    (ht : t = caParity c rank false [] [a] s) : cellKey rank (decodeRecord s.vault a).2 ∈ (t.chanAt c).fwl ∧
    flagOf t (Reg.VAULT_CH_IRQ_CAUSE c) 2 = true := by
  have hvault := alertNoted_vault c rank a s
  have hflag := alertNoted_flag c rank a s
  rw [caParity_oneWrite hawake hchan hwork hknown hranks] at ht
  generalize alertNoted c rank a s = u at hvault hflag ht
  rw [← chanAt_of_vault hvault, ← hchan] at hroom
  obtain ⟨hlisted, hflags, hst, hspare⟩ := failedWrite_listed (a := a) hroom
  generalize failedWrite rank a u = w at hlisted hflags hst hspare ht
  rw [hvault] at hlisted hst hspare
  rw [rankLasting_candidate (by rw [hst, hspare]; exact hsource)] at ht
  subst ht hchan
  rw [candidate_fwl]
  refine ⟨hlisted, candidate_flag ?_ _ _ (hflags _ _ hflag)⟩
  simp only [clearOfStart, Reg.VAULT_SPARE_START_SEC, Reg.VAULT_SPARE_START_NS, Reg.SILL_LOST_CNT, Reg.SILL_IRQ_CAUSE, Reg.VAULT_CH_IRQ_CAUSE]
  omega

/-! ### Windows and sparing -/

theorem ceWindowEnd_passed {s : State} {c : Nat} (h : s.time.net / (60000000000 * 4294967296) ≠ (s.chanAt c).ceWindow) (t : State)
    (ht : t = ceWindowEnd c s) : (t.chanAt c).ce = [] ∧ (t.chanAt c).ceWindow = s.time.net / (60000000000 * 4294967296) ∧
    t = { s with vault := t.vault } := by
  unfold ceWindowEnd at ht
  dsimp only at ht
  rw [if_neg h] at ht
  subst ht
  rw [State.chanAt_setChan_same]
  exact ⟨rfl, rfl, rfl⟩

theorem spareCtrlWrite_start {s : State} {v : Word32} (hv : v.getLsbD 31 = true) (hpresent : rankPresent s.vault (bits v.toNat 3 0) = true) :
    spareCtrlWrite v s = candidate (bits v.toNat 3 0) 5 (regStore Reg.VAULT_SPARE_CTRL (v &&& 0xF#32) s) := by
  unfold spareCtrlWrite
  dsimp only
  rw [regStore_vault, hv, hpresent]
  rfl

/-- A write posted in a channel's buffer leaves contents, failed writes and population. -/
theorem cellsStep_chanWrite (rank u b : Nat) (s : State) : CellsStep s (chanWrite rank u b .granted s) := by
  have hposted := CellsStep.modChan (f := fun x => { x with writes := x.writes ++ [⟨rank, u, VClass.granted.code, b⟩] }) (fun _ => rfl) (rank / 2) s
  exact ((hposted.trans (.of_regs (bump64_frame ..))).trans (cellsStep_perf ..)).trans (cellsStep_noteVaultOp ..)


/-- A clean read of the record under the cursor gives what it reads as (R381). -/
theorem migrationRead_clean {s : State}
    (hmerge : (s.chanAt (chanOf s.vault (srcRecord s s.vault.cursor))).merge.find? (·.record = srcRecord s s.vault.cursor) = none) :
    (migrationRead .clean s).1 = peekCell s s.vault.spareSrc s.vault.cursor ∧ CellsStep s (migrationRead .clean s).2 := by
  have hread := cellsStep_chanRead s.vault.spareSrc s.vault.cursor s
  have hsame := hread.peekCell s.vault.spareSrc s.vault.cursor
  unfold migrationRead
  dsimp only
  rw [settleMerge_none hmerge, hsame]
  split
  case isTrue hpoison => exact ⟨hpoison.symm, hread.trans (.of_regs (bump_frame ..))⟩
  case isFalse hclean =>
    refine ⟨?_, hread⟩
    rw [← hsame]
    refine (if_neg fun hlisted => hclean ?_).symm
    rw [← hsame]
    exact if_pos hlisted

/-- The record goes to the spare, off both lists of failed writes, and the cursor moves on (R378, R381). -/
def copied (src dst u : Nat) (cell : VCell) (s : State) : State :=
  let t := ((chanWrite dst u 0 .granted s).modChan (src / 2) fun x => { x with fwl := x.fwl.filter (· ≠ cellKey src u) }).modChan (dst / 2) fun x =>
    { x with fwl := x.fwl.filter (· ≠ cellKey dst u) }
  { t with vault := { setCell t.vault dst u cell with cursor := u + 1 } }

theorem copied_vault (src dst u : Nat) (cell : VCell) (s : State) : (copied src dst u cell s).vault =
    { s.vault with
      chans := (copied src dst u cell s).vault.chans, mem := Tbl.set s.vault.mem (cellKey dst u) (.data Rec.empty) cell, cursor := u + 1 } := by
  have hwrite := (cellsStep_chanWrite dst u 0 s).vault
  unfold copied
  generalize chanWrite dst u 0 .granted s = w at hwrite
  dsimp only [setCell, State.modChan, State.setChan]
  rw [hwrite]

theorem migrateRecord_eq (found : AuditFound) (s : State) : migrateRecord found s =
    copied s.vault.spareSrc (s.vault.spare.getD 0) s.vault.cursor (migrationRead found s).1 (migrationRead found s).2 := by
  unfold migrateRecord
  dsimp only
  generalize migrationRead found s = p
  obtain ⟨cell, t⟩ := p
  rfl

theorem migrateRecord_clean {s : State}
    (hmerge : (s.chanAt (chanOf s.vault (srcRecord s s.vault.cursor))).merge.find? (·.record = srcRecord s s.vault.cursor) = none) (t : State)
    (ht : t = migrateRecord .clean s) : t.vault.cursor = s.vault.cursor + 1 ∧ t.vault.spareSt = s.vault.spareSt ∧ t.vault.gib = s.vault.gib ∧
    cellAt t.vault (s.vault.spare.getD 0) s.vault.cursor = peekCell s s.vault.spareSrc s.vault.cursor := by
  obtain ⟨hcell, hstep⟩ := migrationRead_clean hmerge
  rw [migrateRecord_eq, hcell] at ht
  have hvault := copied_vault s.vault.spareSrc (s.vault.spare.getD 0) s.vault.cursor (peekCell s s.vault.spareSrc s.vault.cursor) (migrationRead .clean s).2
  rw [← ht, hstep.vault] at hvault
  rw [hvault]
  exact ⟨rfl, rfl, rfl, Tbl.get_set_same ..⟩

theorem migrationCopy_clean {s : State} (hst : s.vault.spareSt = .migrating) (hpause : sparePaused s = false) (hturn : migrationTurn s = true)
    (hmore : s.vault.cursor + 1 < rankRecords s.vault)
    (hmerge : (s.chanAt (chanOf s.vault (srcRecord s s.vault.cursor))).merge.find? (·.record = srcRecord s s.vault.cursor) = none) (t : State)
    (ht : t = migrationCopy .clean s) : t.vault.cursor = s.vault.cursor + 1 ∧ t.vault.spareSt = .migrating ∧
    cellAt t.vault (s.vault.spare.getD 0) s.vault.cursor = peekCell s s.vault.spareSrc s.vault.cursor := by
  obtain ⟨hcursor, hkept, hgib, hcell⟩ := migrateRecord_clean hmerge _ rfl
  have hrecords : rankRecords (migrateRecord .clean s).vault = rankRecords s.vault := by rw [rankRecords, hgib, rankRecords]
  have heq : migrationCopy .clean s = migrateRecord .clean s := by
    unfold migrationCopy
    rw [if_neg (by rw [hst, hpause, hturn]; decide)]
    dsimp only
    rw [if_pos (Nat.lt_of_succ_lt hmore), if_neg (by rw [hrecords, hcursor]; exact Nat.not_le.2 hmore)]
  rw [ht, heq]
  exact ⟨hcursor, hkept.trans hst, hcell⟩

/-- Settles O37: refresh by the debt of a set, heat by the readings, self-refresh by the state of the channel, calibration and parity by the
rank they find failing, and sparing record by record. -/
theorem vaultUpkeepCommandsAct : Obligations.VaultUpkeepCommandsAct := by
  refine ⟨?_, ?_, ?_, ?_, ?_, ?_, ?_, ?_, ?_, ?_, ?_, ?_, ?_, ?_, ?_, ?_⟩
  · intro s c cs set hawake hwork hdue
    exact ⟨_, rfl, refreshAccrual_due hawake hwork hdue _ rfl⟩
  · intro s c cs set hawake hdebt hfree
    exact ⟨_, rfl, refreshIssue_due hawake hdebt hfree _ rfl⟩
  · intro s c x xs hdue
    refine ⟨_, congrArg Host.Outcome.next (dimmTemp_due hdue _), ?_⟩
    obtain ⟨hhot, hfails⟩ := sensorRead_acts c (xs.foldl max x) (s.setChan c { s.chanAt c with tempAt := s.time.tick })
    rw [State.chanAt_setChan_same] at hhot
    exact ⟨hhot, hfails⟩
  · intro s c hdue
    refine ⟨_, congrArg Host.Outcome.next (dimmTemp_due hdue _), ?_⟩
    obtain ⟨hfails, hvalid⟩ := sensorFailed_acts c (s.setChan c { s.chanAt c with tempAt := s.time.tick })
    rw [State.chanAt_setChan_same] at hfails
    exact ⟨hfails, hvalid⟩
  · intro s c hst hdrained
    exact ⟨_, rfl, srEntered_acts hst hdrained _ rfl⟩
  · intro s c hbrown
    exact ⟨_, congrArg Host.Outcome.next (if_neg hbrown), srArrival_issued c s⟩
  · intro s c hbrown hst
    exact ⟨_, congrArg Host.Outcome.next (if_neg hbrown), srArrival_early hst _ rfl⟩
  · intro s c hst
    exact ⟨_, rfl, srExitDone_acts hst _ rfl⟩
  · intro s c why hwhy hquiet hst hmerge hwin
    exact ⟨_, congrArg Host.Outcome.next (srRetry_begins hwhy hquiet hst hmerge hwin), State.chanAt_modChan_same .., rfl⟩
  · intro s rank hst hwork hdue
    exact ⟨_, rfl, zqCalibration_good hst hwork hdue _ rfl⟩
  · intro s rank zq dqs hst hwork hdue hbad hsource
    exact ⟨_, rfl, zqCalibration_bad hst hwork hdue hbad hsource _ rfl⟩
  · intro s c rank reads writes hawake hchan hwork
    exact ⟨_, rfl, caParity_replayed hawake hchan hwork reads writes⟩
  · intro s c rank a hawake hchan hwork hknown hranks hsource hroom
    exact ⟨_, rfl, caParity_lists hawake hchan hwork hknown hranks hsource hroom _ rfl⟩
  · intro s c h
    exact ⟨_, rfl, ceWindowEnd_passed h _ rfl⟩
  · intro s v hv hopen hpresent hready hspare
    refine ⟨_, congrArg Host.Outcome.next ((if_pos hv).trans ((gated_open hopen _).trans (spareCtrlWrite_start hv hpresent))),
      candidate_begins ?_ ?_ _ rfl⟩ <;> rw [regStore_vault]
    · exact hready
    · exact hspare
  · intro s hst hpause hturn hmore hmerge
    exact ⟨_, rfl, migrationCopy_clean hst hpause hturn hmore hmerge _ rfl⟩

end Sys2Proof.Machine
end


section
/-!
PROOFS. What controls a Teller from outside its words: STOP and CONT (R175, R182), reads and scrubs of the control store (R154), micro-traps
(R176), the end of a wait for a lock (R118), and the replies to its memory operations (R159).
-/
namespace Sys2Proof.Machine

/-! ### Steps of one Teller -/

theorem tellerAt_modTeller_ne {t q : Nat} (h : q ≠ t) (f : Teller → Teller) (s : State) : (s.modTeller t f).tellerAt q = s.tellerAt q := by
  rw [State.tellerAt_modTeller, if_neg h.symm]

theorem tellerAt_setTeller_ne {t q : Nat} (h : q ≠ t) (x : Teller) (s : State) : (s.setTeller t x).tellerAt q = s.tellerAt q := by
  rw [State.tellerAt_setTeller, if_neg h.symm]

theorem gated_same {s : State} {f : State → State} (h : barOpen s = false ∨ f s = s) : gated f s = s := by
  unfold gated
  split
  case isTrue hopen => exact h.resolve_left (by rw [hopen]; decide)
  case isFalse => rfl

theorem tellerStop_acts (t : Nat) (s : State) : (tellerStop t s).tellerAt t =
      { s.tellerAt t with traps := if (s.tellerAt t).traps.contains .brk then (s.tellerAt t).traps else (s.tellerAt t).traps ++ [.brk] } ∧
    (∀ q, q ≠ t → (tellerStop t s).tellerAt q = s.tellerAt q) ∧ tellerStop t s = { s with tellers := (tellerStop t s).tellers } := by
  refine ⟨?_, fun q hq => tellerAt_modTeller_ne hq _ s, rfl⟩
  rw [tellerStop, State.tellerAt_modTeller_same]
  split <;> rfl

theorem tellerCont_halted {t a : Nat} {s : State} (hst : (s.tellerAt t).st = .halt) (hat : (s.tellerAt t).haltAt = some a) :
    tellerCont t s = s.setTeller t { s.tellerAt t with st := .run, pc := a, haltAt := none } := by
  unfold tellerCont
  simp only [hst, hat]

theorem tellerCont_running {t : Nat} {s : State} (h : (s.tellerAt t).st ≠ .halt ∨ (s.tellerAt t).haltAt = none) : tellerCont t s = s := by
  unfold tellerCont
  dsimp only
  split
  case h_1 a hst hat => exact (h.elim (· hst) fun hnone => by cases hnone.symm.trans hat).elim
  case h_2 => rfl

/-! ### The control store -/

theorem deskAt_of_desks {s u : State} (h : u.desks = s.desks) (d : Nat) : u.deskAt d = s.deskAt d := by
  rw [State.deskAt, h, State.deskAt]

theorem flagOf_setField_one {i : Nat} (hi : i < 32) (o : Nat) (s : State) : flagOf (setField o i i 1 s) o i = true := by
  have hfield : fieldOf (setField o i i 1 s) o i i = 1 % 2 ^ (i + 1 - i) := fieldOf_setField_same o i i 1 s le_rfl hi
  rw [fieldOf, bits, Nat.add_sub_cancel_left, pow_one, Nat.shiftRight_eq_div_pow] at hfield
  rw [flagOf, BitVec.getLsbD, Nat.testBit_eq_decide_div_mod_eq, hfield]
  rfl

theorem csRead_acts {d addr : Nat} (haddr : addr < 2 ^ 14) {s : State} (hfree : (s.deskAt d).reading = none) (u : State)
    (hu : u = csRead d addr s) : u.deskAt d = { s.deskAt d with reading := some addr } ∧ fieldOf u (Reg.TELL_CS_ADDR d) 13 0 = addr ∧
    flagOf u (Reg.TELL_CS_STATUS d) 31 = true ∧ u = { s with desks := u.desks, regs := u.regs } := by
  unfold csRead at hu
  simp only [hfree, Option.isSome_none, Bool.false_eq_true, if_false] at hu
  have hne : Reg.TELL_CS_STATUS d ≠ Reg.TELL_CS_ADDR d := by
    simp only [Reg.TELL_CS_STATUS, Reg.TELL_CS_ADDR]
    omega
  have hframe : u = { s.setDesk d { s.deskAt d with reading := some addr } with regs := u.regs } := by
    rw [hu, setField_frame, setField_frame]
  refine ⟨?_, ?_, ?_, ?_⟩
  · rw [hframe]
    exact State.deskAt_setDesk_same ..
  · rw [hu, fieldOf, regRead_setField_ne _ _ _ _ _ _ hne]
    exact (fieldOf_setField_same _ _ _ _ _ (by decide) (by decide)).trans (Nat.mod_eq_of_lt haddr)
  · rw [hu]
    exact flagOf_setField_one (by decide) _ _
  · rw [hframe]
    rfl

theorem csEvent_corrected (d addr : Nat) (s : State) : flagOf (csEvent d addr .corrected s) (Reg.TELL_IRQ_CAUSE d) 0 = true ∧
    csEvent d addr .corrected s = { s with regs := (csEvent d addr .corrected s).regs, sill := (csEvent d addr .corrected s).sill } := by
  have heq : csEvent d addr .corrected s = emit (srcDesk d) 0x3A addr
    (cause (Reg.TELL_IRQ_CAUSE d) 0 (bump (Reg.TELL_CS_CORR_CNT d) (tally (Reg.AUDIT_SRAM_CE 5) s))) := rfl
  rw [heq, flagOf_emit_ne _ _ _ _ _ _ (by simp only [Reg.SILL_LOST_CNT, Reg.TELL_IRQ_CAUSE]; omega)
    (by simp only [Reg.SILL_IRQ_CAUSE, Reg.TELL_IRQ_CAUSE]; omega)]
  refine ⟨flagOf_cause_same _ _ _ (by decide), ?_⟩
  rw [emit_frame, cause_frame, bump_frame, tally_frame]

/-- The first n data registers of Desk d take a word's parts. -/
def csParts (d : Nat) (w : MicroWord) (n : Nat) (s : State) : State :=
  (List.range n).foldl (fun s i => regStore (Reg.TELL_CS_DATA d i) (w.extractLsb' (32 * i) 32) s) s

theorem csParts_succ (d : Nat) (w : MicroWord) (n : Nat) (s : State) :
    csParts d w (n + 1) s = regStore (Reg.TELL_CS_DATA d n) (w.extractLsb' (32 * n) 32) (csParts d w n s) := by
  unfold csParts
  rw [List.range_succ, List.foldl_concat]

theorem csParts_acts (d : Nat) (w : MicroWord) (n : Nat) (s : State) :
    (∀ i, i < n → regRead (csParts d w n s) (Reg.TELL_CS_DATA d i) = w.extractLsb' (32 * i) 32) ∧
    csParts d w n s = { s with regs := (csParts d w n s).regs } := by
  induction n with
  | zero => exact ⟨fun i hi => absurd hi (Nat.not_lt_zero i), rfl⟩
  | succ n ih =>
    obtain ⟨hparts, hframe⟩ := ih
    rw [csParts_succ]
    refine ⟨fun i hi => ?_, ?_⟩
    · obtain rfl | hlt := Nat.eq_or_lt_of_le (Nat.le_of_lt_succ hi)
      · exact regRead_store_same ..
      · rw [regRead_store_ne _ _ _ _ (by simp only [Reg.TELL_CS_DATA]; omega)]
        exact hparts i hlt
    · rw [regStore, hframe]

/-- A read of the control store ends with a word and its status. -/
def csAnswered (d : Nat) (w : MicroWord) (status : Word32) (s : State) : State :=
  regStore (Reg.TELL_CS_STATUS d) status (csParts d w 5 (s.setDesk d { s.deskAt d with reading := none }))

theorem csAnswered_acts (d : Nat) (w : MicroWord) (status : Word32) (s u : State) (hu : u = csAnswered d w status s) :
    u.deskAt d = { s.deskAt d with reading := none } ∧ (∀ i, i < 5 → regRead u (Reg.TELL_CS_DATA d i) = w.extractLsb' (32 * i) 32) ∧
    regRead u (Reg.TELL_CS_STATUS d) = status ∧ u = { s with desks := u.desks, regs := u.regs } := by
  obtain ⟨hparts, hframe⟩ := csParts_acts d w 5 (s.setDesk d { s.deskAt d with reading := none })
  subst hu
  unfold csAnswered
  generalize csParts d w 5 (s.setDesk d { s.deskAt d with reading := none }) = v at hparts hframe
  refine ⟨?_, fun i hi => ?_, regRead_store_same .., ?_⟩
  · rw [deskAt_of_desks (regStore_desks ..), hframe]
    exact State.deskAt_setDesk_same ..
  · rw [regRead_store_ne _ _ _ _ (by simp only [Reg.TELL_CS_DATA, Reg.TELL_CS_STATUS]; omega)]
    exact hparts i hi
  · rw [regStore, hframe]
    rfl

theorem csReadDone_locked {d addr : Nat} {s : State} (hreading : (s.deskAt d).reading = some addr) (hlocked : lifecycle s = .locked)
    (e : EccResult) : csReadDone d e s = csAnswered d 0 4 s := by
  unfold csReadDone
  simp only [hreading]
  exact if_pos hlocked

theorem csReadDone_clean {d addr : Nat} {s : State} (hreading : (s.deskAt d).reading = some addr) (hopen : lifecycle s ≠ .locked) :
    csReadDone d .clean s = csAnswered d (Tbl.get (s.deskAt d).store addr (0 : MicroWord)) 0 s := by
  unfold csReadDone
  simp only [hreading]
  exact if_neg hopen

theorem csReadDone_idle {d : Nat} {s : State} (hreading : (s.deskAt d).reading = none) (e : EccResult) : csReadDone d e s = s := by
  simp only [csReadDone, hreading]

/-! ### Micro-traps -/

theorem noteTrap_frame (t d : Nat) (x : Teller) (c : TrapCause) (s : State) :
    noteTrap t d x c s = { s with regs := (noteTrap t d x c s).regs, sill := (noteTrap t d x c s).sill } := by
  have hnoted : ∀ v, v = perf (uDesk (deskOf t)) 0x04 (bump (Reg.TELL_TRAP_CNT (deskOf t) (causeCode c)) s) → v = { s with regs := v.regs } := by
    rintro v rfl
    rw [perf_frame, bump_frame]
  unfold noteTrap
  dsimp only
  generalize hgen : perf (uDesk (deskOf t)) 0x04 (bump (Reg.TELL_TRAP_CNT (deskOf t) (causeCode c)) s) = v
  have hv := hnoted v hgen.symm
  generalize htrace : (if flagOf v (Reg.TELL_TRAP_TRACE (deskOf t)) (causeCode c) = true then
    emit (srcTeller t) 0x38 (causeCode c + 2 ^ 8 * causeDetail c + 2 ^ 16 * x.pc + 2 ^ 30 * d) v else v) = y
  have hy : y = { s with regs := y.regs, sill := y.sill } := by
    rw [← htrace]
    split
    · rw [emit_frame, hv]
    · rw [hv]
  clear htrace hgen hnoted
  split
  · rw [cause_frame, hy]
  · rw [cause_frame, hy]
  · rw [cause_frame, hy]
  · exact hy

/-- What stands in a Teller that has taken a trap with frame fr (R176). -/
structure TrapTaken (x : Teller) (c : TrapCause) (fr : TrapFrame) (y : Teller) : Prop where
  frames : y.frames = fr :: x.frames
  pc : y.pc = causeVector c
  st : y.st = .run
  stack : y.stack = []
  hold : y.hold = 0
  traps : y.traps = x.traps
  g : y.g = x.g
  win : fr.win = x.win

theorem takeTrap_acts {b t : Nat} {x : Teller} {c : TrapCause} {skip overrun : Bool} (hroom : x.frames.length < 8) (s u : State)
    (hu : u = takeTrap b t x c skip overrun s) : (∃ fr, TrapTaken x c fr (u.tellerAt t)) ∧ (∀ q, q ≠ t → u.tellerAt q = s.tellerAt q) ∧
    u = { s with tellers := u.tellers, regs := u.regs, sill := u.sill } := by
  unfold takeTrap at hu
  dsimp only at hu
  rw [if_neg (Nat.not_le.2 hroom)] at hu
  generalize hv : (if overrun = true then cause (Reg.TELL_IRQ_CAUSE (deskOf t)) 2 (bump (Reg.TELL_HOLD_OVR_CNT (deskOf t)) (s.setTeller t x))
    else s.setTeller t x) = v at hu
  have hframe : v = { s with tellers := v.tellers, regs := v.regs } := by
    rw [← hv]
    split
    · rw [cause_frame, bump_frame]
      rfl
    · rfl
  have hothers : ∀ q, q ≠ t → v.tellerAt q = s.tellerAt q := fun q hq => by
    have htellers : v.tellers = (s.setTeller t x).tellers := by
      rw [← hv]
      split
      · rw [cause_tellers, bump_tellers]
      · rfl
    rw [tellerAt_of_tellers htellers, tellerAt_setTeller_ne hq]
  subst hu
  have hnoted : ∀ z : State, (noteTrap t x.frames.length x c z).tellers = z.tellers := fun z => by rw [noteTrap_frame]
  refine ⟨⟨frameOf v b x c skip, ?_⟩, fun q hq => ?_, ?_⟩
  · rw [tellerAt_of_tellers (hnoted _), State.tellerAt_setTeller_same]
    exact ⟨rfl, rfl, rfl, rfl, rfl, rfl, rfl, rfl⟩
  · rw [tellerAt_of_tellers (hnoted _), tellerAt_setTeller_ne hq, hothers q hq]
  · rw [noteTrap_frame, hframe]
    rfl

theorem microTrap_idle {t : Nat} {s : State} (h : dueTrap s t (s.tellerAt t) (wordOf s t (s.tellerAt t).pc) = none ∨ opsOut (s.tellerAt t) = true) :
    microTrap t s = s := by
  unfold microTrap
  dsimp only
  split
  case h_1 => rfl
  case h_2 c hdue => exact if_pos (h.resolve_left (by rw [hdue]; exact Option.some_ne_none c))

theorem microTrap_taken {t : Nat} {c : TrapCause} {s : State}
    (hdue : dueTrap s t (s.tellerAt t) (wordOf s t (s.tellerAt t).pc) = some c) (hdone : opsOut (s.tellerAt t) = false)
    (hown : poisonedOp (s.tellerAt t) c = none) : microTrap t s =
    takeTrap (t / 32) t { s.tellerAt t with traps := delFirst (· == c) (s.tellerAt t).traps } c
      ((s.tellerAt t).brkSkip || !(s.tellerAt t).traps.contains c) ((s.tellerAt t).full && mwHold (wordOf s t (s.tellerAt t).pc)) s := by
  unfold microTrap
  simp only [hdue, hdone, hown, Bool.false_eq_true, if_false]

/-! ### The wait for a lock -/

theorem ledgerAt_of_ledger {s u : State} (h : u.ledger = s.ledger) (b : Nat) : u.ledgerAt b = s.ledgerAt b := by
  rw [State.ledgerAt, h, State.ledgerAt]

theorem wayAt_of_ledger {s u : State} (h : u.ledger = s.ledger) (b k : Nat) : wayAt u b k = wayAt s b k := by
  rw [wayAt, ledgerAt_of_ledger h, wayAt]

theorem wayAt_setWay_same (b k : Nat) (w : Way) (s : State) : wayAt (setWay b k w s) b k = some w := by
  rw [wayAt, setWay, State.ledgerAt_modLedger_same, Tbl.find_put_same]

theorem wayAt_setWay_ne {j k : Nat} (h : j ≠ k) (b : Nat) (w : Way) (s : State) : wayAt (setWay b k w s) b j = wayAt s b j := by
  rw [wayAt, setWay, State.ledgerAt_modLedger_same, Tbl.find_put_ne _ _ h.symm, wayAt]

theorem modWay_held {b k : Nat} {w : Way} {s : State} (hway : wayAt s b k = some w) (f : Way → Way) : modWay b k f s = setWay b k (f w) s := by
  simp only [modWay, hway]

theorem setWay_tellerAt (b k : Nat) (w : Way) (s : State) (t : Nat) : (setWay b k w s).tellerAt t = s.tellerAt t := rfl

theorem lockWaitTimeout_acts {t k : Nat} {a : Ckey} {h : Word64} {w : Way} {s : State} (hover : lockWaitOver s (t / 32) t = some k)
    (hway : wayAt s (t / 32) k = some w) (hopening : (s.tellerAt t).opening = some (a, h)) (hnone : (s.tellerAt t).traps.any ofWord = false)
    (u : State) (hu : u = lockWaitTimeout t s) :
    u.tellerAt t = { s.tellerAt t with opening := none, traps := (s.tellerAt t).traps ++ [.lockTmo h] } ∧
    wayAt u (t / 32) k = some { w with openers := w.openers.filter (·.1 != t) } ∧ (∀ q, q ≠ t → u.tellerAt q = s.tellerAt q) ∧
    (∀ j, j ≠ k → wayAt u (t / 32) j = wayAt s (t / 32) j) ∧ u = { s with tellers := u.tellers, ledger := u.ledger } := by
  simp only [lockWaitTimeout, hover, hopening, modWay_held hway] at hu
  subst hu
  refine ⟨?_, ?_, fun q hq => ?_, fun j hj => ?_, rfl⟩
  · rw [raise, State.tellerAt_modTeller_same, State.tellerAt_modTeller_same, setWay_tellerAt]
    exact if_neg (by rw [hnone]; decide)
  · exact wayAt_setWay_same ..
  · rw [raise, tellerAt_modTeller_ne hq, tellerAt_modTeller_ne hq, setWay_tellerAt]
  · exact wayAt_setWay_ne hj ..

/-! ### Replies -/

/-- A memory operation that may be answered now: not poisoned, behind no other to its word, and served (R159). -/
def opReady (s : State) (t op : Nat) (m : MemOp) : Prop :=
  memOp s t op = some m ∧ m.poisoned = false ∧ ((s.tellerAt t).mem.takeWhile (·.id != op)).any (sameWord m) = false ∧ memServed s m = true

/-- The Teller once the operation has been answered with one value. -/
def answeredWith (x : Teller) (m : MemOp) (v : Word64) (sv : Bool) : Teller :=
  { x with
    g := (match m.dst with | some (r, _) => withWord x.g r v | none => x.g)
    s := if m.setsS then sv else x.s
    mem := delFirst (fun y => y.id == m.id) x.mem }

theorem finishOp_one (t : Nat) (m : MemOp) (v : Word64) (sv : Bool) (s : State) :
    (finishOp t m [v] sv s).tellerAt t = answeredWith (s.tellerAt t) m v sv ∧
    (∀ q, q ≠ t → (finishOp t m [v] sv s).tellerAt q = s.tellerAt q) ∧
    finishOp t m [v] sv s = { s with tellers := (finishOp t m [v] sv s).tellers } := by
  refine ⟨?_, fun q hq => tellerAt_modTeller_ne hq _ s, rfl⟩
  rw [finishOp, State.tellerAt_modTeller_same, answeredWith]
  cases m.dst <;> rfl

theorem memReply_ready {s : State} {t op : Nat} {m : MemOp} (h : opReady s t op m) : memReply t op s = match m.msel with
    | 0 => vaultReply (t / 32) t m s
    | 1 => cofferReply t m s
    | 2 => finishOp t m [m.lo.getD 0] m.stored s
    | _ => slotReply (t / 32) t m s := by
  obtain ⟨hop, hclean, hfirst, hserved⟩ := h
  simp only [memReply, hop, hclean, hfirst, hserved, Bool.not_true, Bool.or_self, Bool.false_eq_true, if_false] <;> rfl

theorem memReply_waits {s : State} {t op : Nat} (h : ∀ m, memOp s t op = some m → m.poisoned = true ∨
    ((s.tellerAt t).mem.takeWhile (·.id != op)).any (sameWord m) = true ∨ memServed s m = false) : memReply t op s = s := by
  unfold memReply
  dsimp only
  split
  case h_1 => rfl
  case h_2 m hop =>
    refine if_pos ?_
    obtain h | h | h := h m hop <;> rw [h]
    · rfl
    · rw [Bool.or_true, Bool.true_or]
    · rw [Bool.not_false, Bool.or_true]

/-- The answer to a load of one word from the Coffer, or to a lookup (R159). -/
theorem memReply_local {s : State} {t op : Nat} {m : MemOp} {v : Word64} (h : opReady s t op m)
    (hvalue : (m.msel = 1 ∧ m.mop ≠ 2 ∧ m.lo = some v ∧ m.hi = none) ∨ (m.msel = 2 ∧ v = m.lo.getD 0)) :
    memReply t op s = finishOp t m [v] m.stored s := by
  rw [memReply_ready h]
  obtain ⟨hsel, hmop, hlo, hhi⟩ | ⟨hsel, hlo⟩ := hvalue
  · simp only [hsel, cofferReply, hlo, hhi, if_neg hmop]
  · simp only [hsel, hlo]

theorem memServed_local {s : State} {m : MemOp} (h0 : m.msel ≠ 0) (h5 : m.msel ≠ 5) : memServed s m = true := by
  have hneeds : opNeeds s.vault m = none := by simp [opNeeds, h0, h5]
  simp only [memServed, hneeds]

/-! ### Loads from the Vault -/

/-- A channel that has served an operation of class k. -/
def servedBy (k : VClass) (tick : Nat) (x : VaultCh) : VaultCh :=
  { x with lastReq := tick, sweepGap := if k = .sweep then 0 else min 127 (x.sweepGap + 1) }

theorem cellsStep_noteOp (c : Nat) (k : VClass) (s : State) : CellsStep s (noteVaultOp c k s) := by
  unfold noteVaultOp
  dsimp only
  generalize hv : (if k = .fill then perf (uVault c) 0x03 s else if k = .granted then perf (uVault c) 0x04 s else s) = v
  have hstep : CellsStep s v := by
    rw [← hv]
    split
    · exact cellsStep_perf ..
    · split
      · exact cellsStep_perf ..
      · exact .refl s
  exact hstep.trans (.modChan (f := servedBy k v.time.tick) (fun _ => rfl) c v)

theorem cellsStep_read (rank u : Nat) (k : VClass) (s : State) : CellsStep s (chanRead rank u k s) :=
  (((cellsStep_inOrder rank u s).trans (.of_regs (bump64_frame ..))).trans (cellsStep_perf ..)).trans (cellsStep_noteOp ..)

theorem cellsStep_countRead (a b : Nat) (k : VClass) (s : State) : CellsStep s (countRead a b k s) := by
  have hread := cellsStep_read (readRank s.vault a) (decodeRecord s.vault a).2 k s
  unfold countRead
  dsimp only
  split
  · exact hread
  · exact hread.trans (.of_regs (bump64_frame ..))

theorem dataRanks_of_vault {v w : Vault} (h : w = { v with chans := w.chans }) (c : Nat) : dataRanks w c = dataRanks v c := by
  rw [h]
  rfl

theorem decodeRecord_of_vault {v w : Vault} (h : w = { v with chans := w.chans }) (a : Nat) : decodeRecord w a = decodeRecord v a := by
  have hrecords := rankRecords_of_vault h
  have hranks : dataRanks w = dataRanks v := funext (dataRanks_of_vault h)
  unfold decodeRecord zoneK twoRankChannels
  rw [hrecords, hranks]

theorem readRank_of_vault {v w : Vault} (h : w = { v with chans := w.chans }) (a : Nat) : readRank w a = readRank v a := by
  unfold readRank
  rw [decodeRecord_of_vault h]
  generalize decodeRecord v a = p
  rw [h]
  rfl

theorem CellsStep.peekRecord {s u : State} (h : CellsStep s u) (a : Nat) : peekRecord u a = peekRecord s a := by
  rw [Machine.peekRecord, readRank_of_vault h.vault, decodeRecord_of_vault h.vault, h.peekCell, Machine.peekRecord]

/-- A read of a record with no open merge entry leaves what records read as (R367, R402). -/
theorem readRecord_acts {a : Nat} {s : State} (hmerge : (s.chanAt (chanOf s.vault a)).merge.find? (·.record = a) = none) (b : Nat) (k : VClass) :
    (readRecord a b k s).1 = peekRecord s a ∧ CellsStep s (readRecord a b k s).2 := by
  have hcount := cellsStep_countRead a b k s
  unfold readRecord
  dsimp only
  rw [settleMerge_none hmerge, hcount.peekRecord]
  refine ⟨rfl, ?_⟩
  split
  · exact hcount.trans (.of_regs (bump_frame ..))
  · exact hcount

theorem vaultReply_load {b t : Nat} {m : MemOp} {r : Rec} {s : State} (hload : m.mop = 1)
    (hmerge : (s.chanAt (chanOf s.vault (m.addr / 128))).merge.find? (·.record = m.addr / 128) = none)
    (hdata : peekRecord s (m.addr / 128) = .data r) :
    vaultReply b t m s = finishOp t m [wordAt r (m.addr % 128 / 8)] false (readRecord (m.addr / 128) b .fill s).2 := by
  have hcell := (readRecord_acts hmerge b .fill).1.trans hdata
  have hstore : isStore 1 = false := rfl
  unfold vaultReply
  simp only [hload, hcell, hstore, Bool.false_eq_true, if_false, OfNat.one_ne_ofNat]

theorem memReply_load {s : State} {t op : Nat} {m : MemOp} {r : Rec} (h : opReady s t op m) (hsel : m.msel = 0) (hload : m.mop = 1)
    (hmerge : (s.chanAt (chanOf s.vault (m.addr / 128))).merge.find? (·.record = m.addr / 128) = none)
    (hdata : peekRecord s (m.addr / 128) = .data r) (u : State) (hu : u = memReply t op s) :
    u.tellerAt t = answeredWith (s.tellerAt t) m (wordAt r (m.addr % 128 / 8)) false ∧ (∀ q, q ≠ t → u.tellerAt q = s.tellerAt q) ∧
    (∀ a, peekRecord u a = peekRecord s a) ∧ u = { s with tellers := u.tellers, vault := u.vault, regs := u.regs } := by
  have heq : memReply t op s = vaultReply (t / 32) t m s := by
    rw [memReply_ready h]
    simp only [hsel]
  have hstep := (readRecord_acts hmerge (t / 32) .fill).2
  rw [heq, vaultReply_load hload hmerge hdata] at hu
  generalize (readRecord (m.addr / 128) (t / 32) .fill s).2 = v at hstep hu
  obtain ⟨hsame, hothers, hframe⟩ := finishOp_one t m (wordAt r (m.addr % 128 / 8)) false v
  rw [← hu] at hsame hothers hframe
  have htellers : ∀ q, v.tellerAt q = s.tellerAt q := tellerAt_of_tellers (by rw [hstep.rest])
  rw [htellers] at hsame
  refine ⟨hsame, fun q hq => (hothers q hq).trans (htellers q), fun a => ?_, ?_⟩
  · rw [hframe]
    exact hstep.peekRecord a
  · rw [hframe, hstep.rest]

/-- Settles O58: each command by the state of the Teller, the Desk or the operation that it acts on. -/
theorem tellerControlCommandsAct : Obligations.TellerControlCommandsAct := by
  refine ⟨?_, ?_, ?_, ?_, ?_, ?_, ?_, ?_, ?_, ?_, ?_, ?_, ?_, ?_, ?_, ?_, ?_⟩
  · intro t s hopen
    exact ⟨_, congrArg Host.Outcome.next (gated_open hopen _), tellerStop_acts t.val s⟩
  · intro t s hclosed
    exact ⟨congrArg Host.Outcome.next (gated_same (Or.inl hclosed)), congrArg Host.Outcome.next (gated_same (Or.inl hclosed))⟩
  · intro t a s hopen hst hat
    exact ⟨_, congrArg Host.Outcome.next ((gated_open hopen _).trans (tellerCont_halted hst hat)), State.tellerAt_setTeller_same ..,
      fun q hq => tellerAt_setTeller_ne hq _ s, rfl⟩
  · intro t s h
    exact congrArg Host.Outcome.next (gated_same (Or.inr (tellerCont_running h)))
  · intro d addr s hopen hfree
    exact ⟨_, congrArg Host.Outcome.next (gated_open hopen _), csRead_acts addr.isLt hfree _ rfl⟩
  · intro d addr s h
    refine congrArg Host.Outcome.next (gated_same (h.imp_right fun hbusy => if_pos ?_))
    exact Option.isSome_iff_ne_none.2 hbusy
  · intro d e addr s hreading hlocked
    obtain ⟨hdesk, hdata, hstatus, hframe⟩ := csAnswered_acts d.val 0 4 s _ rfl
    exact ⟨_, congrArg Host.Outcome.next (csReadDone_locked hreading hlocked e), hdesk,
      fun i hi => (hdata i hi).trans (by simp), hstatus, hframe⟩
  · intro d addr s hreading hopen
    exact ⟨_, congrArg Host.Outcome.next (csReadDone_clean hreading hopen), csAnswered_acts _ _ _ s _ rfl⟩
  · intro d e s hreading
    exact congrArg Host.Outcome.next (csReadDone_idle hreading e)
  · intro d addr s
    exact ⟨rfl, _, rfl, csEvent_corrected ..⟩
  · intro t s h
    exact congrArg Host.Outcome.next (microTrap_idle h)
  · intro t c s hdue hdone hown hroom
    obtain ⟨⟨fr, htaken⟩, hothers, hframe⟩ := takeTrap_acts (x := { s.tellerAt t.val with traps := delFirst (· == c) (s.tellerAt t.val).traps })
      hroom s _ rfl
    exact ⟨_, congrArg Host.Outcome.next (microTrap_taken hdue hdone hown), fr, htaken.frames, htaken.pc, htaken.st, htaken.stack, htaken.hold,
      htaken.traps, htaken.g, htaken.win, hothers, hframe⟩
  · intro t s hnone
    refine congrArg Host.Outcome.next ?_
    simp only [lockWaitTimeout, hnone]
  · intro t k a h w s hover hway hopening hnone
    exact ⟨_, rfl, lockWaitTimeout_acts hover hway hopening hnone _ rfl⟩
  · intro t op m v s hop hclean hfirst hvalue
    have hserved : memServed s m = true :=
      memServed_local (by rcases hvalue with ⟨h, -⟩ | ⟨h, -⟩ <;> rw [h] <;> decide) (by rcases hvalue with ⟨h, -⟩ | ⟨h, -⟩ <;> rw [h] <;> decide)
    obtain ⟨hsame, hothers, hframe⟩ := finishOp_one t.val m v m.stored s
    exact ⟨_, congrArg Host.Outcome.next (memReply_local ⟨hop, hclean, hfirst, hserved⟩ hvalue), hsame, hothers, hframe⟩
  · intro t op m r s hop hclean hfirst hsel hload hserved hmerge hdata
    exact ⟨_, rfl, memReply_load ⟨hop, hclean, hfirst, hserved⟩ hsel hload hmerge hdata _ rfl⟩
  · intro t op s h
    exact congrArg Host.Outcome.next (memReply_waits h)

end Sys2Proof.Machine
end


section
/-!
PROOFS. The Dispatcher: starts and requests (R192 to R196), the waits of R194, offers of the host and of the sweep (R197, R198), and the
affinity table (R199).
-/
namespace Sys2Proof.Machine

theorem dispAt_of_disp {s t : State} (h : t.disp = s.disp) (b : Nat) : t.dispAt b = s.dispAt b := by
  rw [State.dispAt, h, State.dispAt]

/-- What is traced leaves all but the Dispatcher's sampling counts, registers and Sillage. -/
theorem trace_acts (b k : Nat) (i : Item) (teller : Nat) (pref : Option Nat) (s t : State) (ht : t = trace b k i teller pref s) :
    t.dispAt b = { s.dispAt b with seen := (t.dispAt b).seen } ∧ t = { s with disp := t.disp, regs := t.regs, sill := t.sill } := by
  unfold trace at ht
  dsimp only at ht
  subst ht
  split
  · split
    · rw [State.dispAt_modDisp_same]
      exact ⟨rfl, rfl⟩
    · rw [dispAt_of_disp (emit_disp ..), State.dispAt_modDisp_same, emit_frame]
      exact ⟨rfl, rfl⟩
  · exact ⟨rfl, rfl⟩

theorem trace_regs_ne {p : Nat} (hlost : Reg.SILL_LOST_CNT ≠ p) (hirq : Reg.SILL_IRQ_CAUSE ≠ p) (b k : Nat) (i : Item) (teller : Nat)
    (pref : Option Nat) (s : State) : regRead (trace b k i teller pref s) p = regRead s p := by
  unfold trace
  dsimp only
  split
  · split
    · rfl
    · rw [regRead_emit_ne _ _ _ _ _ hlost hirq]
      rfl
  · rfl

/-! ### What a decision rests on -/

/-- A step that leaves a Dispatcher to choose as before: of its state only whether its lack of Tellers was told has changed. -/
structure ChoiceStep (b : Nat) (s v : State) : Prop where
  disp : v.dispAt b = { s.dispAt b with noTeller := (v.dispAt b).noTeller }
  rest : v = { s with disp := v.disp }

section
variable {b : Nat} {s v : State}

theorem ChoiceStep.regs (h : ChoiceStep b s v) : v.regs = s.regs := by rw [h.rest]

theorem ChoiceStep.items (h : ChoiceStep b s v) : (v.dispAt b).items = (s.dispAt b).items := by rw [h.disp]

theorem ChoiceStep.reqs (h : ChoiceStep b s v) : (v.dispAt b).reqs = (s.dispAt b).reqs := by rw [h.disp]

theorem ChoiceStep.tellerAt (h : ChoiceStep b s v) (t : Nat) : v.tellerAt t = s.tellerAt t := tellerAt_of_tellers (by rw [h.rest]) t

theorem ChoiceStep.since (h : ChoiceStep b s v) (x : Nat) : since v x = since s x := by
  rw [Machine.since, h.rest, Machine.since]

theorem considerOrder_congr (hdisp : v.dispAt b = { s.dispAt b with noTeller := (v.dispAt b).noTeller })
    (hshares : minShares v b = minShares s b) : considerOrder v b = considerOrder s b := by
  have hready : ∀ p, readyOf v b p = readyOf s b p := fun p => by rw [readyOf, hdisp, readyOf]
  have howed : ∀ p, owedStarts v b p = owedStarts s b p := fun p => by
    rw [owedStarts, hshares, hdisp, owedStarts]
  have hhad : ∀ p, sharesHad v b p = sharesHad s b p := fun p => by rw [sharesHad, hdisp, sharesHad]
  unfold Machine.considerOrder
  simp only [hready, howed, hhad]

theorem ChoiceStep.considerOrder (h : ChoiceStep b s v) : considerOrder v b = considerOrder s b :=
  considerOrder_congr h.disp (by unfold minShares; simp only [fieldOf_congr h.regs])

theorem ChoiceStep.wayAt (h : ChoiceStep b s v) (k : Nat) : wayAt v b k = wayAt s b k := wayAt_of_ledger (by rw [h.rest]) b k

theorem ChoiceStep.recordFree (h : ChoiceStep b s v) (i : Item) : recordFree v b i = recordFree s b i := by
  have hway : Machine.wayAt v b = Machine.wayAt s b := funext h.wayAt
  rw [Machine.recordFree, hway, Machine.recordFree]

theorem ChoiceStep.available (h : ChoiceStep b s v) : available v b = available s b := funext fun t => by
  have hdesk := deskAt_of_desks (show v.desks = s.desks by rw [h.rest]) (deskOf (32 * b + t))
  unfold Machine.available
  simp only [flagOf_congr h.regs, hdesk, h.tellerAt, h.reqs]

theorem ChoiceStep.preferred (h : ChoiceStep b s v) (i : Item) : preferred v b i = preferred s b i := by
  have hway : Machine.wayAt v b = Machine.wayAt s b := funext h.wayAt
  have haff : ∀ j, affByte v b j = affByte s b j := fun j => by rw [affByte, h.disp, affByte]
  unfold Machine.preferred
  simp only [hway, haff, flagOf_congr h.regs]

theorem ChoiceStep.fallback (h : ChoiceStep b s v) (pref : Option Nat) : fallback v b pref = fallback s b pref := by
  unfold Machine.fallback
  rw [h.available, h.disp]

theorem ChoiceStep.preemptible (h : ChoiceStep b s v) (t : Nat) : preemptible v b t = preemptible s b t := by
  unfold Machine.preemptible
  simp only [h.tellerAt, flagOf_congr h.regs, h.reqs]

end

/-- While a Branch has a Teller that can become available, nothing is told (R201). -/
theorem noteNoTeller_choice {b : Nat} {s : State} (hsome : noTeller s b = false) : ChoiceStep b s (noteNoTeller b s) := by
  unfold noteNoTeller
  dsimp only
  split
  · exact ⟨rfl, rfl⟩
  case isFalse hchanged =>
    rw [hsome, Bool.false_eq, Bool.not_eq_false] at hchanged
    rw [State.dispAt_modDisp_same]
    dsimp only
    rw [if_neg (by rw [hchanged]; decide)]
    refine ⟨?_, rfl⟩
    rw [State.dispAt_modDisp_same]

theorem dispatchDecision_first {b : Nat} {s u : State} {i : Item} {rest : List Item} (hsome : noTeller s b = false)
    (horder : considerOrder s b = i :: rest) (hplace : place b i (noteNoTeller b s) = some u) : dispatchDecision b s = u := by
  unfold dispatchDecision
  dsimp only
  rw [(noteNoTeller_choice hsome).considerOrder, horder, List.findSome?_cons, hplace]
  rfl

theorem dispatchDecision_none {b : Nat} {s : State} (hnone : noTeller s b = true) (horder : considerOrder s b = [])
    (hnew : (s.dispAt b).noTeller = false) :
    dispatchDecision b s = cause (Reg.DISP_IRQ_CAUSE b) 3 (s.modDisp b fun d => { d with noTeller := true }) := by
  have hnote : noteNoTeller b s = cause (Reg.DISP_IRQ_CAUSE b) 3 (s.modDisp b fun d => { d with noTeller := !d.noTeller }) := by
    unfold noteNoTeller
    dsimp only
    rw [if_neg (by rw [hnone, hnew]; decide), State.dispAt_modDisp_same]
    dsimp only
    rw [if_pos (by rw [hnew]; decide)]
  have hflip : (s.modDisp b fun d => { d with noTeller := !d.noTeller }) = s.modDisp b fun d => { d with noTeller := true } := by
    rw [State.modDisp, hnew, State.modDisp]
    rfl
  have hempty : considerOrder (cause (Reg.DISP_IRQ_CAUSE b) 3 (s.modDisp b fun d => { d with noTeller := true })) b = [] := by
    refine (considerOrder_congr ?_ ?_).trans horder
    · rw [dispAt_of_disp (cause_disp ..), State.dispAt_modDisp_same]
    · have hshares : regRead (cause (Reg.DISP_IRQ_CAUSE b) 3 (s.modDisp b fun d => { d with noTeller := true })) (Reg.DISP_SHARE_CFG b) =
          regRead s (Reg.DISP_SHARE_CFG b) := regRead_cause_ne _ _ _ _ (by simp only [Reg.DISP_IRQ_CAUSE, Reg.DISP_SHARE_CFG]; omega)
      unfold minShares fieldOf
      rw [hshares]
  unfold dispatchDecision
  dsimp only
  rw [hnote, hflip, hempty]
  rfl

/-! ### Starts -/

theorem modWay_frame (b k : Nat) (f : Way → Way) (s : State) : modWay b k f s = { s with ledger := (modWay b k f s).ledger } := by
  unfold modWay
  split <;> rfl

theorem noteStart_frame (b t : Nat) (i : Item) (pref : Option Nat) (s : State) : noteStart b t i pref s =
    { s with disp := (noteStart b t i pref s).disp, regs := (noteStart b t i pref s).regs, sill := (noteStart b t i pref s).sill } := by
  have hcounted : ∀ (p : Nat) (code : Nat) (v : State), perf (uDisp b) code (bump p v) = { v with regs := (perf (uDisp b) code (bump p v)).regs } :=
    fun p code v => by rw [perf_frame, bump_frame]
  have htraced : ∀ k v, trace b k i (32 * b + t) pref v = { v with
      disp := (trace b k i (32 * b + t) pref v).disp, regs := (trace b k i (32 * b + t) pref v).regs, sill := (trace b k i (32 * b + t) pref v).sill } :=
    fun k v => (trace_acts b k i (32 * b + t) pref v _ rfl).2
  unfold noteStart
  dsimp only
  split
  · rw [htraced, hcounted, State.modDisp, State.setDisp, hcounted]
  · rw [htraced]
    split
    · rw [hcounted, State.modDisp, State.setDisp, hcounted]
    · rw [State.modDisp, State.setDisp, hcounted]

/-- The record of the item's window is locked for the Teller (R116). -/
def lockedFor (b t : Nat) (i : Item) (s : State) : State := match i.way with | some k => lockWay b k (32 * b + t) s | none => s

theorem lockedFor_frame (b t : Nat) (i : Item) (s : State) : lockedFor b t i s = { s with ledger := (lockedFor b t i s).ledger } := by
  unfold lockedFor
  split
  · exact modWay_frame ..
  · rfl

theorem startOn_eq (b t : Nat) (i : Item) (s : State) : startOn b t i s = modItem b i.id (fun x => { x with
      st := .running (32 * b + t), g0 := startG0 (lockedFor b t i (s.setTeller (32 * b + t) (startTeller s i (s.tellerAt (32 * b + t))))) i })
    (lockedFor b t i (s.setTeller (32 * b + t) (startTeller s i (s.tellerAt (32 * b + t))))) := rfl

theorem startOn_acts (b t : Nat) (i : Item) (s u : State) (hu : u = startOn b t i s) :
    u.tellerAt (32 * b + t) = startTeller s i (s.tellerAt (32 * b + t)) ∧ (∀ q, q ≠ 32 * b + t → u.tellerAt q = s.tellerAt q) ∧
    u = { s with disp := u.disp, ledger := u.ledger, tellers := u.tellers } := by
  rw [startOn_eq] at hu
  generalize hv : s.setTeller (32 * b + t) (startTeller s i (s.tellerAt (32 * b + t))) = v at hu
  have hframe := lockedFor_frame b t i v
  generalize lockedFor b t i v = w at hu hframe
  have htellers : u.tellers = v.tellers := by rw [hu, modItem, State.modDisp_tellers, hframe]
  rw [tellerAt_of_tellers htellers]
  refine ⟨?_, fun q hq => ?_, ?_⟩
  · rw [← hv, State.tellerAt_setTeller_same]
  · rw [tellerAt_of_tellers htellers, ← hv, tellerAt_setTeller_ne hq]
  · rw [hu, hframe, ← hv]
    rfl

/-- What a Teller holds that starts the item (R151). -/
def startsItem (i : Item) (x : Teller) : Prop :=
  x.st = .run ∧ x.pc = 0x010 + itemRoutine i.g0 ∧ x.ctx.item = i.id ∧ x.win = i.way

theorem startItem_acts (b t : Nat) (i : Item) (pref : Option Nat) (s u : State) (hu : u = startItem b t i pref s) :
    startsItem i (u.tellerAt (32 * b + t)) ∧ (∀ q, q ≠ 32 * b + t → u.tellerAt q = s.tellerAt q) ∧
    u = { s with disp := u.disp, regs := u.regs, sill := u.sill, ledger := u.ledger, tellers := u.tellers } := by
  have hnoted := noteStart_frame b t i pref s
  obtain ⟨hstart, hothers, hframe⟩ := startOn_acts b t i (noteStart b t i pref s) u hu
  rw [hstart]
  refine ⟨⟨rfl, rfl, rfl, rfl⟩, fun q hq => (hothers q hq).trans (tellerAt_of_tellers (by rw [hnoted]) q), ?_⟩
  rw [hframe, hnoted]

theorem place_starts {b t : Nat} {i : Item} {s : State} (hfree : recordFree s b i = true) (hnoreq : (s.dispAt b).reqs.any (·.2 == i.id) = false)
    (hwhere : (preferred s b i = some t ∧ available s b t = true) ∨ (preferred s b i = none ∧ fallback s b none = some t)) :
    place b i s = some (startItem b t i (preferred s b i) s) := by
  unfold place
  obtain ⟨hpref, havail⟩ | ⟨hpref, hfall⟩ := hwhere
  · simp only [hfree, hnoreq, hpref, havail, Bool.not_true, Bool.or_self, Bool.false_eq_true, if_false, if_true, Option.getD_some]
  · simp only [hfree, hnoreq, hpref, hfall, Bool.not_true, Bool.or_self, Bool.false_eq_true, if_false, Option.isSome_none, Bool.false_and]

/-- The request of an item to a Teller, which finds the trap raised (R181, R196). -/
def askedState (b t : Nat) (i : Item) (s : State) : State :=
  ((modItem b i.id (fun x => { x with tries := x.tries + 1 }) s).modDisp b fun d => { d with reqs := d.reqs ++ [(t, i.id)] }).modTeller (32 * b + t)
    fun x => { x with traps := x.traps ++ [.preempt] }

theorem askedState_frame (b t : Nat) (i : Item) (s : State) :
    askedState b t i s = { s with disp := (askedState b t i s).disp, tellers := (askedState b t i s).tellers } := rfl

theorem askedState_reqs (b t : Nat) (i : Item) (s : State) : ((askedState b t i s).dispAt b).reqs = (s.dispAt b).reqs ++ [(t, i.id)] := by
  rw [askedState, dispAt_of_disp (State.modTeller_disp ..), State.dispAt_modDisp_same, modItem, State.dispAt_modDisp_same]

/-- The Teller that is asked to give way, and the request (R196). -/
theorem place_asks {b t : Nat} {i : Item} {s : State} (hfree : recordFree s b i = true) (hnoreq : (s.dispAt b).reqs.any (·.2 == i.id) = false)
    (hprio : i.prio = 1) (hlong : fieldOf s (Reg.DISP_WAIT_CFG b) 31 16 ≤ since s i.readyAt) (hpref : preferred s b i = none)
    (hfall : fallback s b none = none) (htries : i.tries < fieldOf s (Reg.DISP_CFG b) 5 4)
    (hfind : (List.range 32).find? (fun t => preemptible s b t && !i.declined.contains t) = some t) : ∃ u, place b i s = some u ∧
    u.tellerAt (32 * b + t) = { s.tellerAt (32 * b + t) with traps := (s.tellerAt (32 * b + t)).traps ++ [.preempt] } ∧
    (u.dispAt b).reqs = (s.dispAt b).reqs ++ [(t, i.id)] ∧ (∀ q, q ≠ 32 * b + t → u.tellerAt q = s.tellerAt q) ∧
    u = { s with disp := u.disp, regs := u.regs, sill := u.sill, tellers := u.tellers } := by
  have hplace : place b i s = requestPreempt b i none s := by
    unfold place
    simp only [hfree, hnoreq, hpref, hfall, hprio, decide_eq_true hlong, Bool.not_true, Bool.or_self, Bool.false_eq_true, if_false,
      Option.isSome_none, Bool.false_and, beq_self_eq_true, Bool.and_self, Bool.or_true, if_true]
  have hask : requestPreempt b i none s = some (trace b 3 i (32 * b + t) none (perf (uDisp b) 0x04 (bump (Reg.DISP_PREEMPT_REQ_CNT b)
      (askedState b t i s)))) := by
    unfold requestPreempt
    simp only [List.nil_append, hfind, hnoreq, Nat.not_le.2 htries, Bool.false_eq_true, or_self, if_false, Option.map_some]
    rfl
  obtain ⟨hdisp, hframe⟩ := trace_acts b 3 i (32 * b + t) none (perf (uDisp b) 0x04 (bump (Reg.DISP_PREEMPT_REQ_CNT b) (askedState b t i s))) _ rfl
  refine ⟨_, hplace.trans hask, ?_⟩
  generalize trace b 3 i (32 * b + t) none (perf (uDisp b) 0x04 (bump (Reg.DISP_PREEMPT_REQ_CNT b) (askedState b t i s))) = u at hdisp hframe ⊢
  have htellers : u.tellers = (askedState b t i s).tellers := by rw [hframe, perf_tellers, bump_tellers]
  refine ⟨?_, ?_, fun q hq => ?_, ?_⟩
  · rw [tellerAt_of_tellers htellers, askedState, State.tellerAt_modTeller_same]
    rfl
  · rw [hdisp, dispAt_of_disp ((perf_disp ..).trans (bump_disp ..)), askedState_reqs]
  · rw [tellerAt_of_tellers htellers, askedState, tellerAt_modTeller_ne hq]
    rfl
  · rw [hframe, perf_frame, bump_frame, askedState_frame]

/-! ### Offers -/

/-- An item without a packet joins the ready list (R189). -/
theorem addItem_acts {i : Item} (hnew : i.desc.bind (·.entered) = none) (b : Nat) (s t : State) (ht : t = addItem b i s) :
    t.dispAt b = { s.dispAt b with
      items := (s.dispAt b).items ++ [{ i with id := (s.dispAt b).nextId, order := (s.dispAt b).nextId, readyAt := s.time.tick }]
      nextId := (s.dispAt b).nextId + 1 } ∧
    (∀ p, Reg.DISP_PEAK b ≠ p → regRead t p = regRead s p) ∧ t = { s with disp := t.disp, regs := t.regs } := by
  simp only [addItem, hnew, notePeak] at ht
  subst ht
  refine ⟨?_, fun p hp => regRead_peak_ne _ _ _ _ _ _ hp, ?_⟩
  · rw [dispAt_of_disp (peak_disp ..), State.dispAt_setDisp_same]
  · rw [peak_frame]
    rfl

/-- The item that the host has staged (R197). -/
def stagedItem (b : Nat) (s : State) : Item :=
  { id := 0, g0 := stagedG0 s b, g1 := BitVec.ofNat 64 (pairOf s (Reg.DISP_HOST_ITEM b 2)), g2 := 0,
    g3 := BitVec.ofNat 64 (pairOf s (Reg.DISP_HOST_ITEM b 6)), prio := 2, kind := .host, readyAt := s.time.tick }

theorem hostPost_eq (b : Nat) (s : State) : hostPost b s =
    if itemRoutine (stagedG0 s b) = 0 then trace b 6 (stagedItem b s) 0 none (setField (Reg.DISP_HOST_STATUS b) 1 0 2 s)
    else if placeFree s b 2 then addItem b (stagedItem b s) (setField (Reg.DISP_HOST_STATUS b) 1 0 0 s)
    else trace b 6 (stagedItem b s) 0 none (setField (Reg.DISP_HOST_STATUS b) 1 0 1 s) := rfl

/-- A refused offer of the host leaves its result, and is traced (R197). -/
theorem hostRefused_acts {b x : Nat} (hx : x < 4) (i : Item) (s t : State)
    (ht : t = trace b 6 i 0 none (setField (Reg.DISP_HOST_STATUS b) 1 0 x s)) : fieldOf t (Reg.DISP_HOST_STATUS b) 1 0 = x ∧
    (t.dispAt b).items = (s.dispAt b).items ∧ t = { s with disp := t.disp, regs := t.regs, sill := t.sill } := by
  have hfield := fieldOf_setField_same (Reg.DISP_HOST_STATUS b) 1 0 x s (by decide) (by decide)
  obtain ⟨hdisp, hframe⟩ := trace_acts b 6 i 0 none _ t ht
  refine ⟨?_, ?_, ?_⟩
  · rw [ht, fieldOf, trace_regs_ne (by simp only [Reg.SILL_LOST_CNT, Reg.DISP_HOST_STATUS]; omega)
      (by simp only [Reg.SILL_IRQ_CAUSE, Reg.DISP_HOST_STATUS]; omega)]
    exact hfield.trans (Nat.mod_eq_of_lt hx)
  · rw [hdisp, dispAt_of_disp (setField_disp ..)]
  · rw [hframe, setField_frame]

theorem hostPost_taken {b : Nat} {s : State} (hroutine : itemRoutine (stagedG0 s b) ≠ 0) (hplace : placeFree s b 2 = true) (t : State)
    (ht : t = hostPost b s) : fieldOf t (Reg.DISP_HOST_STATUS b) 1 0 = 0 ∧
    (∃ i, (t.dispAt b).items = (s.dispAt b).items ++ [i] ∧ i.g0 = stagedG0 s b ∧ i.g1 = BitVec.ofNat 64 (pairOf s (Reg.DISP_HOST_ITEM b 2)) ∧
      i.g2 = 0 ∧ i.g3 = BitVec.ofNat 64 (pairOf s (Reg.DISP_HOST_ITEM b 6)) ∧ i.prio = 2 ∧ i.kind = .host ∧ i.readyAt = s.time.tick) ∧
    t = { s with disp := t.disp, regs := t.regs } := by
  rw [hostPost_eq, if_neg hroutine, if_pos hplace] at ht
  obtain ⟨hdisp, hregs, hframe⟩ := addItem_acts (i := stagedItem b s) rfl b _ t ht
  generalize hid : ((setField (Reg.DISP_HOST_STATUS b) 1 0 0 s).dispAt b).nextId = id at hdisp
  refine ⟨?_, ⟨{ stagedItem b s with id := id, order := id, readyAt := s.time.tick }, ?_, rfl, rfl, rfl, rfl, rfl, rfl, rfl⟩, ?_⟩
  · rw [fieldOf, hregs _ (by simp only [Reg.DISP_PEAK, Reg.DISP_HOST_STATUS]; omega)]
    exact fieldOf_setField_same _ _ _ _ _ (by decide) (by decide)
  · rw [hdisp, dispAt_of_disp (setField_disp ..), setField_time]
  · rw [hframe, setField_frame]

/-! ### The sweep -/

/-- The item that the sweep generator offers, for n slots from cur on (R198). -/
def sweepItem (b cur n : Nat) (s : State) : Item :=
  { id := 0, g0 := maintG0 b (fieldOf s (Reg.DISP_MAINT_ROUTINE b) 15 8), g1 := 0, g3 := BitVec.ofNat 64 (b * quarter s.vault + cur + 2 ^ 32 * n),
    prio := 3, kind := .sweep, readyAt := s.time.tick }

/-- The sweep generator has made its offer of this period. -/
def sweepMarked (b : Nat) (s : State) : State := s.modDisp b fun d => { d with sweepAt := s.time.tick }

theorem placeFree_sweepMarked (b p : Nat) (s : State) : placeFree (sweepMarked b s) b p = placeFree s b p := by
  have hitems : ((sweepMarked b s).dispAt b).items = (s.dispAt b).items := by rw [sweepMarked, State.dispAt_modDisp_same]
  have hheld : placesHeld (sweepMarked b s) b = placesHeld s b := by
    rw [placesHeld, hitems, placesHeld]
    rfl
  have hof : ∀ q, placesOf (sweepMarked b s) b q = placesOf s b q := fun q => by
    rw [placesOf, hitems, placesOf]
    rfl
  unfold placeFree
  rw [hheld, hof, hof, hof]
  rfl

theorem sweepOffer_due {b cur n : Nat} {s : State} (hdue : sweepDue s b = true) (hcur : (if quarter s.vault ≤ fieldOf s (Reg.DISP_SWEEP_CURSOR b) 29 0
      then 0 else fieldOf s (Reg.DISP_SWEEP_CURSOR b) 29 0) = cur)
    (hn : min (max 1 (fieldOf s (Reg.DISP_SWEEP_CFG b) 31 16)) (quarter s.vault - cur) = n) : sweepOffer b s =
    if placeFree s b 3 then setField (Reg.DISP_SWEEP_CURSOR b) 29 0 ((cur + n) % quarter s.vault) (addItem b (sweepItem b cur n s) (sweepMarked b s))
    else cause (Reg.DISP_IRQ_CAUSE b) 1 (bump (Reg.DISP_POST_REFUSED_CNT b) (trace b 6 (sweepItem b cur n s) 0 none (sweepMarked b s))) := by
  simp only [sweepDue, Bool.and_eq_true, bne_iff_ne, ne_eq, decide_eq_true_eq] at hdue
  obtain ⟨⟨⟨⟨⟨hperiod, hroutine⟩, hlog⟩, hrun⟩, hgen⟩, hlate⟩ := hdue
  have hon : generatorsOn (sweepMarked b s) = true := hgen
  have hplace := placeFree_sweepMarked b 3 s
  unfold sweepOffer
  dsimp only
  rw [if_neg (by
    simp only [hperiod, hroutine, hlog, hrun, hgen, Bool.not_true, Bool.false_eq_true, false_or]
    exact Nat.not_lt.2 hlate), hcur, hn]
  have hoffer : offerMaint b (fieldOf s (Reg.DISP_MAINT_ROUTINE b) 15 8) .sweep 0 (BitVec.ofNat 64 (b * quarter s.vault + cur + 2 ^ 32 * n))
      (sweepMarked b s) = if placeFree s b 3 then (true, addItem b (sweepItem b cur n s) (sweepMarked b s))
        else (false, trace b 6 (sweepItem b cur n s) 0 none (sweepMarked b s)) := by
    unfold offerMaint
    dsimp only
    rw [if_neg (by rw [hon]; simpa using hroutine), hplace]
    rfl
  rw [sweepMarked] at hoffer
  rw [hoffer]
  split <;> rfl

/-- The offer of the sweep joins the list, and its cursor moves on (R198). -/
theorem sweepOffer_taken {b cur n : Nat} {s : State} (hdue : sweepDue s b = true) (hplace : placeFree s b 3 = true)
    (hcur : fieldOf s (Reg.DISP_SWEEP_CURSOR b) 29 0 = cur) (hin : cur < quarter s.vault) (hsize : quarter s.vault ≤ 2 ^ 30)
    (hn : min (max 1 (fieldOf s (Reg.DISP_SWEEP_CFG b) 31 16)) (quarter s.vault - cur) = n) (t : State) (ht : t = sweepOffer b s) :
    fieldOf t (Reg.DISP_SWEEP_CURSOR b) 29 0 = (cur + n) % quarter s.vault ∧
    (∃ i, (t.dispAt b).items = (s.dispAt b).items ++ [i] ∧ i.kind = .sweep ∧ i.prio = 3 ∧
      i.g3 = BitVec.ofNat 64 (b * quarter s.vault + cur + 2 ^ 32 * n)) ∧
    (t.dispAt b).sweepAt = s.time.tick ∧ t = { s with disp := t.disp, regs := t.regs } := by
  rw [sweepOffer_due hdue (by rw [hcur, if_neg (Nat.not_le.2 hin)]) hn, if_pos hplace] at ht
  obtain ⟨hdisp, -, hframe⟩ := addItem_acts (i := sweepItem b cur n s) rfl b (sweepMarked b s) _ rfl
  generalize addItem b (sweepItem b cur n s) (sweepMarked b s) = v at ht hdisp hframe
  have hmarked : (sweepMarked b s).dispAt b = { s.dispAt b with sweepAt := s.time.tick } := by rw [sweepMarked, State.dispAt_modDisp_same]
  have hsame : t.dispAt b = v.dispAt b := by rw [ht, dispAt_of_disp (setField_disp ..)]
  rw [hsame, hdisp, hmarked]
  refine ⟨?_, ⟨_, rfl, rfl, rfl, rfl⟩, rfl, ?_⟩
  · have hlt : (cur + n) % quarter s.vault < 2 ^ 30 := lt_of_lt_of_le (Nat.mod_lt _ (Nat.zero_lt_of_lt hin)) hsize
    rw [ht]
    exact (fieldOf_setField_same _ _ _ _ _ (by decide) (by decide)).trans (Nat.mod_eq_of_lt hlt)
  · rw [ht, setField_frame, hframe]
    rfl

theorem sweepOffer_refused {b : Nat} {s : State} (hdue : sweepDue s b = true) (hplace : placeFree s b 3 = false) (t : State)
    (ht : t = sweepOffer b s) : flagOf t (Reg.DISP_IRQ_CAUSE b) 1 = true ∧
    fieldOf t (Reg.DISP_SWEEP_CURSOR b) 29 0 = fieldOf s (Reg.DISP_SWEEP_CURSOR b) 29 0 ∧
    (t.dispAt b).items = (s.dispAt b).items ∧ t = { s with disp := t.disp, regs := t.regs, sill := t.sill } := by
  rw [sweepOffer_due hdue rfl rfl, if_neg (by rw [hplace]; decide)] at ht
  generalize sweepItem b _ _ s = i at ht
  obtain ⟨hdisp, hframe⟩ := trace_acts b 6 i 0 none (sweepMarked b s) _ rfl
  have hcursor := trace_regs_ne (p := Reg.DISP_SWEEP_CURSOR b) (by simp only [Reg.SILL_LOST_CNT, Reg.DISP_SWEEP_CURSOR]; omega)
    (by simp only [Reg.SILL_IRQ_CAUSE, Reg.DISP_SWEEP_CURSOR]; omega) b 6 i 0 none (sweepMarked b s)
  generalize trace b 6 i 0 none (sweepMarked b s) = v at ht hdisp hframe hcursor
  subst ht
  refine ⟨flagOf_cause_same _ _ _ (by decide), ?_, ?_, ?_⟩
  · rw [fieldOf, regRead_cause_ne _ _ _ _ (by simp only [Reg.DISP_IRQ_CAUSE, Reg.DISP_SWEEP_CURSOR]; omega),
      regRead_bump_ne _ _ _ (by simp only [Reg.DISP_POST_REFUSED_CNT, Reg.DISP_SWEEP_CURSOR]; omega), hcursor]
    rfl
  · rw [dispAt_of_disp ((cause_disp ..).trans (bump_disp ..)), hdisp, sweepMarked, State.dispAt_modDisp_same]
  · rw [cause_frame, bump_frame, hframe]
    rfl

/-! ### Affinity -/

theorem affNext_still {b : Nat} {s : State} (h : flagOf s (Reg.DISP_AFF_ADDR b) 31 = false) : affNext b s = s :=
  if_neg (by rw [h]; decide)

theorem affNext_moves {b : Nat} {s : State} (h : flagOf s (Reg.DISP_AFF_ADDR b) 31 = true) (t : State) (ht : t = affNext b s) :
    fieldOf t (Reg.DISP_AFF_ADDR b) 15 0 = (fieldOf s (Reg.DISP_AFF_ADDR b) 15 0 + 1) % 65536 ∧ t = { s with regs := t.regs } := by
  rw [affNext, if_pos h] at ht
  subst ht
  exact ⟨(fieldOf_setField_same _ _ _ _ _ (by decide) (by decide)).trans (Nat.mod_mod ..), setField_frame ..⟩

theorem flagOf_of_field {s : State} {p i : Nat} (h : fieldOf s p i i = 0) : flagOf s p i = false := by
  rw [fieldOf, bits, Nat.add_sub_cancel_left, pow_one, Nat.shiftRight_eq_div_pow] at h
  rw [flagOf, BitVec.getLsbD, Nat.testBit_eq_decide_div_mod_eq, h]
  rfl

theorem affByte_setAff_same (b i v : Nat) (s : State) : affByte (setAff b i v s) b i = v := by
  rw [affByte, setAff, State.dispAt_modDisp_same]
  dsimp only
  rw [Tbl.get_set_same]

theorem affByte_setAff_ne {i j : Nat} (h : i ≠ j) (b v : Nat) (s : State) : affByte (setAff b i v s) b j = affByte s b j := by
  rw [affByte, setAff, State.dispAt_modDisp_same]
  dsimp only
  rw [Tbl.get_set_ne _ _ _ _ _ _ h, affByte]

/-- Settles O57: decisions by the first item that is considered, offers by the places free, affinity by its index. -/
theorem dispatcherCommandsAct : Obligations.DispatcherCommandsAct := by
  refine ⟨?_, ?_, ?_, ?_, ?_, ?_, ?_, ?_, ?_, ?_, ?_, ?_, ?_, ?_, ?_, ?_⟩
  · intro s b i rest t hsome horder hfree hnoreq hwhere
    have hchoice := noteNoTeller_choice hsome
    have hplace := place_starts (b := b.val) (t := t) (i := i) (s := noteNoTeller b.val s) (by rwa [hchoice.recordFree]) (by rwa [hchoice.reqs])
      (by rwa [hchoice.preferred, hchoice.available, hchoice.fallback])
    obtain ⟨⟨hst, hpc, hitem, hwin⟩, hothers, hframe⟩ := startItem_acts b.val t i (preferred (noteNoTeller b.val s) b.val i) (noteNoTeller b.val s) _ rfl
    refine ⟨_, congrArg Host.Outcome.next (dispatchDecision_first hsome horder hplace), hst, hpc, hitem, hwin,
      fun q hq => (hothers q hq).trans (hchoice.tellerAt q), ?_⟩
    rw [hframe, hchoice.rest]
  · intro s b hnone horder hnew
    refine ⟨_, congrArg Host.Outcome.next (dispatchDecision_none hnone horder hnew), flagOf_cause_same _ _ _ (by decide), ?_, ?_⟩
    · rw [dispAt_of_disp (cause_disp ..), State.dispAt_modDisp_same]
    · rw [cause_frame]
      rfl
  · intro s b item i hi hlong
    refine ⟨_, congrArg Host.Outcome.next ?_, rfl⟩
    simp only [waitExpiry, hi, hlong, if_true]
  · intro s b item i hi hearly
    refine congrArg Host.Outcome.next ?_
    simp only [waitExpiry, hi, if_neg (Nat.not_le.2 hearly)]
  · intro s b i rest t hsome horder hprio hlong hfree hnoreq hpref hfall htries hfind
    have hchoice := noteNoTeller_choice hsome
    obtain ⟨u, hplace, htraps, hreqs, hothers, hframe⟩ := place_asks (b := b.val) (t := t) (i := i) (s := noteNoTeller b.val s)
      (by rwa [hchoice.recordFree]) (by rwa [hchoice.reqs]) hprio (by rwa [fieldOf_congr hchoice.regs, hchoice.since]) (by rwa [hchoice.preferred])
      (by rwa [hchoice.fallback]) (by rwa [fieldOf_congr hchoice.regs]) (by simpa only [hchoice.preemptible] using hfind)
    rw [hchoice.tellerAt] at htraps
    rw [hchoice.reqs] at hreqs
    refine ⟨u, congrArg Host.Outcome.next (dispatchDecision_first hsome horder hplace), htraps, hreqs,
      fun q hq => (hothers q hq).trans (hchoice.tellerAt q), ?_⟩
    rw [hframe, hchoice.rest]
  · intro s b item i hi hearly
    refine congrArg Host.Outcome.next ?_
    simp only [waitExpiry, hi, if_neg (Nat.not_le.2 hearly)]
  · intro s b item i hi hlong
    refine ⟨_, congrArg Host.Outcome.next ?_, rfl⟩
    simp only [waitExpiry, hi, hlong, if_true]
  · intro s b
    refine ⟨_, rfl, rfl, ?_⟩
    unfold stallInterval
    split
    · exact bump_frame ..
    · rfl
  · intro s b v hopen hstill
    have hstill : flagOf (setAff b.val (fieldOf s (Reg.DISP_AFF_ADDR b.val) 15 0) (v.toNat % 256 &&& 0x9F) s) (Reg.DISP_AFF_ADDR b.val) 31 = false :=
      flagOf_of_field hstill
    exact ⟨_, congrArg Host.Outcome.next ((gated_open hopen _).trans (affNext_still hstill)), affByte_setAff_same ..,
      fun j hj => affByte_setAff_ne hj.symm .., rfl⟩
  · intro s b hopen hstill
    exact ⟨_, congrArg Host.Outcome.next ((if_pos hopen).trans (affNext_still hstill)), rfl, rfl⟩
  · intro s b hopen hmoves
    obtain ⟨hfield, hframe⟩ := affNext_moves (b := b.val) (s := { s with out := { s.out with ok := true, data := leBytes 4 (affByte s b.val
      (fieldOf s (Reg.DISP_AFF_ADDR b.val) 15 0)) } }) hmoves _ rfl
    refine ⟨_, congrArg Host.Outcome.next (if_pos hopen), ?_, hfield, ?_⟩
    · rw [hframe]
    · rw [hframe]
  · intro s b hopen hroutine
    exact ⟨_, congrArg Host.Outcome.next ((gated_open hopen _).trans ((hostPost_eq ..).trans (if_pos hroutine))),
      hostRefused_acts (by decide) _ s _ rfl⟩
  · intro s b hopen hroutine hplace
    exact ⟨_, congrArg Host.Outcome.next (gated_open hopen _), hostPost_taken hroutine hplace _ rfl⟩
  · intro s b hopen hroutine hplace
    exact ⟨_, congrArg Host.Outcome.next ((gated_open hopen _).trans ((hostPost_eq ..).trans ((if_neg hroutine).trans (if_neg (by rw [hplace]; decide))))),
      hostRefused_acts (by decide) _ s _ rfl⟩
  · intro s b cur n hdue hplace hcur hin hsize hn
    exact ⟨_, rfl, sweepOffer_taken hdue hplace hcur hin hsize hn _ rfl⟩
  · intro s b hdue hplace
    exact ⟨_, rfl, sweepOffer_refused hdue hplace _ rfl⟩

end Sys2Proof.Machine
end


section
/-!
PROOFS. The ways of a Till slice: what a write-back, a close, a pin and a fill leave of a record (R106 to R109, R99, R101), locks and their
alarm (R118), flushes (R109), and the threshold of occupancy (R511).
-/
namespace Sys2Proof.Machine

/-! ### Steps that leave the ways -/

/-- The step leaves every record of the Till. -/
def SameWays (s t : State) : Prop := ∀ b k, wayAt t b k = wayAt s b k

theorem SameWays.refl (s : State) : SameWays s s := fun _ _ => rfl

theorem SameWays.trans {s t u : State} (h : SameWays s t) (g : SameWays t u) : SameWays s u := fun b k => (g b k).trans (h b k)

theorem sameWays_of_ledger {s t : State} (h : t.ledger = s.ledger) : SameWays s t := fun b k => wayAt_of_ledger h b k

theorem sameWays_modLedger {f : Ledger → Ledger} (hf : ∀ l, (f l).ways = l.ways) (b : Nat) (s : State) : SameWays s (s.modLedger b f) := fun c k => by
  rw [wayAt, State.ledgerAt_modLedger]
  split
  case isTrue h => rw [hf, h, wayAt]
  case isFalse => rfl

theorem sameWays_setOcc (b n : Nat) (s : State) : SameWays s (setOcc b n s) := by
  have hcount := sameWays_modLedger (f := fun l => { l with occ := n }) (fun _ => rfl) b s
  unfold setOcc
  dsimp only
  split
  · exact hcount.trans (sameWays_of_ledger (cause_ledger ..))
  · exact hcount

theorem sameWays_occStep (slot : Nat) (f : State → State) (s : State) : SameWays (f s) (occStep slot f s) := by
  unfold occStep
  dsimp only
  split
  · exact sameWays_setOcc _ _ _
  · exact sameWays_setOcc _ _ _
  · exact .refl _

/-! ### The Vault's copy of a record -/

theorem cellAt_setCell_same (v : Vault) (r u : Nat) (c : VCell) : cellAt (setCell v r u c) r u = c := Tbl.get_set_same ..

theorem cellAt_setCell (v : Vault) (q r u : Nat) (c : VCell) :
    cellAt (setCell v q u c) r u = if cellKey q u = cellKey r u then c else cellAt v r u := Tbl.get_set ..

theorem cellAt_setCells {ranks : List Nat} {r u : Nat} {c : VCell} {v : Vault} (h : r ∈ ranks ∨ cellAt v r u = c) :
    cellAt (ranks.foldl (fun v q => setCell v q u c) v) r u = c := by
  induction ranks generalizing v with
  | nil => exact h.resolve_left List.not_mem_nil
  | cons q rest ih =>
    refine ih ?_
    rw [cellAt_setCell]
    split
    case isTrue => exact Or.inr rfl
    case isFalse hne =>
      refine h.imp_left fun hmem => (List.mem_cons.1 hmem).resolve_left fun heq => hne ?_
      rw [heq]

/-- Reads of a record go to a copy that its writes reach (R381). -/
theorem readRank_mem_writeRanks (v : Vault) (a : Nat) : readRank v a ∈ writeRanks v a := by
  unfold readRank writeRanks
  dsimp only
  by_cases hsource : v.spareSt = .migrating ∧ remapOf v (decodeRecord v a).1 = v.spareSrc
  · obtain ⟨hst, hsrc⟩ := hsource
    rw [if_pos ⟨hst, hsrc⟩]
    split
    · exact List.mem_cons_of_mem _ (List.mem_singleton.2 rfl)
    · exact List.mem_cons_self
  · rw [if_neg hsource, if_neg fun h => hsource ⟨h.1, h.2.1⟩]
    exact List.mem_singleton.2 rfl

/-- The Vault's copy of a record, as its next read finds it written. -/
def copyOf (v : Vault) (a : Nat) (w : Vault) : VCell := cellAt w (readRank v a) (decodeRecord v a).2

/-- What a fold over channels leaves of the contents. -/
theorem foldChans_mem (g : Nat → VaultCh → VaultCh) (l : List Nat) (s : State) :
    (l.foldl (fun s r => s.modChan (r / 2) (g r)) s).vault.mem = s.vault.mem :=
  foldl_keeps (P := fun t => t.vault.mem = s.vault.mem) (fun t r => t.modChan (r / 2) (g r)) (fun _ _ h => h) l rfl

theorem foldChans_ledger (g : Nat → VaultCh → VaultCh) (l : List Nat) (s : State) :
    (l.foldl (fun s r => s.modChan (r / 2) (g r)) s).ledger = s.ledger :=
  foldl_keeps (P := fun t => t.ledger = s.ledger) (fun t r => t.modChan (r / 2) (g r)) (fun _ _ h => h) l rfl

theorem storeCell_mem (a : Nat) (c : VCell) (s : State) : (storeCell a c s).vault.mem =
    ((writeRanks s.vault a).foldl (fun v q => setCell v q (decodeRecord s.vault a).2 c) s.vault).mem := by
  unfold storeCell
  dsimp only
  exact foldChans_mem (fun r x => { x with fwl := x.fwl.filter (· ≠ cellKey r (decodeRecord s.vault a).2) }) _ _

theorem storeCell_ledger (a : Nat) (c : VCell) (s : State) : (storeCell a c s).ledger = s.ledger := by
  unfold storeCell
  dsimp only
  exact foldChans_ledger (fun r x => { x with fwl := x.fwl.filter (· ≠ cellKey r (decodeRecord s.vault a).2) }) _ _

theorem storeCell_copy (a : Nat) (c : VCell) (s : State) : copyOf s.vault a (storeCell a c s).vault = c := by
  have hcells : cellAt ((writeRanks s.vault a).foldl (fun v q => setCell v q (decodeRecord s.vault a).2 c) s.vault)
      (readRank s.vault a) (decodeRecord s.vault a).2 = c := cellAt_setCells (Or.inl (readRank_mem_writeRanks s.vault a))
  rw [copyOf, cellAt, storeCell_mem]
  exact hcells

theorem copyOf_of_vault {v w : Vault} (h : w = { v with chans := w.chans }) (a : Nat) (x : Vault) : copyOf w a x = copyOf v a x := by
  rw [copyOf, readRank_of_vault h, decodeRecord_of_vault h, copyOf]

theorem storeRecord_acts (a : Nat) (c : VCell) (s t : State) (ht : t = storeRecord a c s) :
    copyOf s.vault a t.vault = c ∧ SameWays s t := by
  have hsame : SameWays s (storeCell a c s) := sameWays_of_ledger (storeCell_ledger ..)
  have hcopy := storeCell_copy a c s
  unfold storeRecord at ht
  subst ht
  split
  · rw [occStep_vault]
    exact ⟨hcopy, hsame.trans (sameWays_occStep _ _ _)⟩
  · exact ⟨hcopy, hsame⟩

/-- A write posted in a channel's buffer leaves contents, failed writes and population. -/
theorem cellsStep_post (rank u b : Nat) (k : VClass) (s : State) : CellsStep s (chanWrite rank u b k s) := by
  have hposted := CellsStep.modChan (f := fun x => { x with writes := x.writes ++ [⟨rank, u, k.code, b⟩] }) (fun _ => rfl) (rank / 2) s
  exact ((hposted.trans (.of_regs (bump64_frame ..))).trans (cellsStep_perf ..)).trans (cellsStep_noteOp ..)

theorem cellsStep_countWrite (a b : Nat) (k : VClass) (s : State) : CellsStep s (countWrite a b k s) := by
  have hfixed : ∀ (u : Nat) (l : List Nat), CellsStep s (l.foldl (fun s r => chanWrite r u b k s) s) := fun u l =>
    foldl_keeps (P := CellsStep s) _ (fun t r h => h.trans (cellsStep_post ..)) l (.refl s)
  unfold countWrite
  dsimp only
  split
  · exact hfixed _ _
  · exact (hfixed _ _).trans (.of_regs (bump64_frame ..))

/-! ### Write-backs -/

theorem unclaim_acts {b k : Nat} {w : Way} {s : State} (hway : wayAt s b k = some w) (t : State) (ht : t = unclaim b k s) :
    wayAt t b k = some { w with claim := none } ∧ (∀ j, j ≠ k → wayAt t b j = wayAt s b j) ∧ t.vault = s.vault := by
  simp only [unclaim, hway] at ht
  subst ht
  have hset : wayAt (modWay b k (fun w => { w with claim := none }) s) b k = some { w with claim := none } ∧
      (∀ j, j ≠ k → wayAt (modWay b k (fun w => { w with claim := none }) s) b j = wayAt s b j) ∧
      (modWay b k (fun w => { w with claim := none }) s).vault = s.vault := by
    rw [modWay_held hway]
    exact ⟨wayAt_setWay_same .., fun j hj => wayAt_setWay_ne hj .., rfl⟩
  obtain ⟨hsame, hothers, hvault⟩ := hset
  split
  · exact ⟨(sameWays_occStep _ _ _ b k).trans hsame, fun j hj => (sameWays_occStep _ _ _ b j).trans (hothers j hj), (occStep_vault ..).trans hvault⟩
  case isFalse hnone =>
    refine ⟨?_, fun _ _ => rfl, rfl⟩
    rw [hway, ← Option.not_isSome_iff_eq_none.1 hnone]

/-- What a write-back leaves of the way (R109, R130). -/
def writtenBack (w : Way) : Way := { w with rc := setW0 w.rc 24 24 0, claim := none }

/-- A write-back leaves the record in its slot and clean in its way (R109). -/
structure BackStep (b k : Nat) (w : Way) (s t : State) : Prop where
  way : wayAt t b k = some (writtenBack w)
  others : ∀ j, j ≠ k → wayAt t b j = wayAt s b j
  copy : copyOf s.vault (ftRecord s.vault w.slot) t.vault = backCell w

theorem BackStep.after {b k : Nat} {w : Way} {s t u : State} (h : BackStep b k w s t) (hways : SameWays t u) (hvault : u.vault = t.vault) :
    BackStep b k w s u where
  way := (hways b k).trans h.way
  others j hj := (hways b j).trans (h.others j hj)
  copy := by rw [hvault, h.copy]

theorem writeBack_acts {b k : Nat} {w : Way} {s : State} (hway : wayAt s b k = some w) (hdirty : rcDirty w.rc = true) :
    BackStep b k w s (writeBack b k s) := by
  simp only [writeBack, hway, hdirty, if_true]
  have hpost := cellsStep_countWrite (ftRecord s.vault w.slot) b .writeBack s
  generalize countWrite (ftRecord s.vault w.slot) b .writeBack s = p at hpost ⊢
  obtain ⟨hcopy, hstored⟩ := storeRecord_acts (ftRecord s.vault w.slot) (backCell w) p _ rfl
  generalize storeRecord (ftRecord s.vault w.slot) (backCell w) p = q at hcopy hstored ⊢
  have hways : SameWays s q := (sameWays_of_ledger (by rw [hpost.rest])).trans hstored
  rw [copyOf_of_vault hpost.vault] at hcopy
  obtain ⟨hfreed, hothers, hvault⟩ := unclaim_acts ((hways b k).trans hway) _ rfl
  generalize unclaim b k q = r at hfreed hothers hvault ⊢
  rw [modWay_held hfreed]
  have hback : BackStep b k w s (setWay b k (writtenBack w) r) :=
    ⟨wayAt_setWay_same .., fun j hj => ((wayAt_setWay_ne hj ..).trans (hothers j hj)).trans (hways b j), (congrArg _ hvault).trans hcopy⟩
  have hleft : BackStep b k w s (unflush b k (setWay b k (writtenBack w) r)) :=
    hback.after (sameWays_modLedger (f := fun l => { l with flush := l.flush.map (·.filter (·.1 != k)) }) (fun _ => rfl) b _) rfl
  exact hleft.after (sameWays_of_ledger ((perf_ledger ..).trans (bump_ledger ..))) ((perf_vault ..).trans (bump_vault ..))

/-! ### Closing and pins -/

theorem exportItem_ledger (b : Nat) (n : Snapshot) (s : State) : (exportItem b n s).2.ledger = s.ledger :=
  ledger_of_books (exportItem_books b n s)

theorem storeSnapshot_ledger (i : Nat) (rc : Rec) (s : State) : (storeSnapshot i rc s).ledger = s.ledger := by
  unfold storeSnapshot
  split
  · exact foldl_keeps (P := fun t => t.ledger = s.ledger) _ (fun t _ h => (ledger_of_books (setCofferWord_books _ _ t)).trans h) _ rfl
  · exact cause_ledger ..

theorem sameWays_exportOnClose (b : Nat) (hash : Word64) (r : Rec) (expired : Bool) (s : State) : SameWays s (exportOnClose b hash r expired s) := by
  unfold exportOnClose exportRecord
  dsimp only
  split
  · split
    · refine sameWays_of_ledger ?_
      rw [emit_ledger, bump_ledger]
    · generalize hp : exportItem b _ _ = p
      have hitem : p.2.ledger = s.ledger := by
        rw [← hp, exportItem_ledger, storeSnapshot_ledger]
      refine (sameWays_of_ledger hitem).trans (.trans ?_ (sameWays_of_ledger (bump_ledger ..)))
      refine sameWays_modLedger ?_ b p.2
      exact fun _ => rfl
  · exact .refl s

theorem mirrorSend_ledger (b type : Nat) (hash : Word64) (r : Rec) (s : State) : (mirrorSend b type hash r s).ledger = s.ledger := by
  unfold mirrorSend
  dsimp only
  split
  · rw [emit_ledger, cause_ledger, bump_ledger]
  · rfl

theorem mirrorEvent_ledger (b e : Nat) (hash : Word64) (r : Rec) (s : State) : (mirrorEvent b e hash r s).2.ledger = s.ledger := by
  unfold mirrorEvent
  split
  · exact mirrorSend_ledger ..
  · rfl

/-- A step that leaves way k as y, and the slice's other ways. -/
structure WayStep (b k : Nat) (y : Way) (s t : State) : Prop where
  way : wayAt t b k = some y
  others : ∀ j, j ≠ k → wayAt t b j = wayAt s b j

theorem WayStep.after {b k : Nat} {y : Way} {s t u : State} (h : WayStep b k y s t) (g : SameWays t u) : WayStep b k y s u :=
  ⟨(g b k).trans h.way, fun j hj => (g b j).trans (h.others j hj)⟩

theorem WayStep.before {b k : Nat} {y : Way} {s t u : State} (h : WayStep b k y t u) (g : SameWays s t) : WayStep b k y s u :=
  ⟨h.way, fun j hj => (h.others j hj).trans (g b j)⟩

theorem WayStep.trans {b k : Nat} {x y : Way} {s t u : State} (h : WayStep b k x s t) (g : WayStep b k y t u) : WayStep b k y s u :=
  ⟨g.way, fun j hj => (g.others j hj).trans (h.others j hj)⟩

theorem wayStep_setWay (b k : Nat) (y : Way) (s : State) : WayStep b k y s (setWay b k y s) :=
  ⟨wayAt_setWay_same .., fun _ hj => wayAt_setWay_ne hj ..⟩

theorem WayStep.modWay {b k : Nat} {y : Way} {s t : State} (h : WayStep b k y s t) (f : Way → Way) : WayStep b k (f y) s (modWay b k f t) := by
  rw [modWay_held h.way]
  exact h.trans (wayStep_setWay ..)

theorem tick_of_kept {s t : State} (h : t.kept = s.kept) : t.time.tick = s.time.tick := congrArg (·.2.2.1) h

/-- The way of a record closed in place at tick now (R99), m the tick of its last mirror message. -/
def closedWay (now m : Nat) (w : Way) : Way := { markDirty now w with rc := setW0 (rcClosed w.rc) 24 24 1, pinEff := false, mirrorAt := m }

theorem closeWay_way {b k : Nat} {w : Way} {s : State} (hway : wayAt s b k = some w) :
    ∃ m, WayStep b k (closedWay s.time.tick m w) s (closeWay b k false false s) := by
  have hexport := sameWays_exportOnClose b (hashOf s (recKey w.rc)) w.rc false s
  have htick := tick_of_kept (exportOnClose_kept b (hashOf s (recKey w.rc)) w.rc false s)
  simp only [closeWay, hway, Bool.false_eq_true, if_false]
  generalize exportOnClose b (hashOf s (recKey w.rc)) w.rc false s = p at hexport htick ⊢
  rw [← htick]
  generalize hy : ({ markDirty p.time.tick w with rc := setW0 (rcClosed w.rc) 24 24 1, pinEff := false } : Way) = y
  have hclosed : ∀ m, { y with mirrorAt := m } = closedWay p.time.tick m w := fun m => by
    rw [← hy]
    rfl
  have hset := (wayStep_setWay b k y p).before hexport
  have hmirror := hset.after (sameWays_of_ledger (mirrorEvent_ledger b 2 (hashOf s (recKey w.rc)) (rcClosed w.rc) (setWay b k y p)))
  generalize mirrorEvent b 2 (hashOf s (recKey w.rc)) (rcClosed w.rc) (setWay b k y p) = m at hmirror ⊢
  obtain ⟨sent, q⟩ := m
  generalize hat : q.time.tick = at_
  cases sent
  case true =>
    refine ⟨at_, ?_⟩
    rw [if_pos rfl, ← hclosed]
    exact hmirror.modWay fun w => { w with mirrorAt := at_ }
  case false =>
    refine ⟨y.mirrorAt, ?_⟩
    rw [← hclosed]
    exact hmirror

/-- A record closed in place (R99). -/
def closedIn (w y : Way) : Prop := y.rc = setW0 (rcClosed w.rc) 24 24 1 ∧ y.slot = w.slot ∧ y.pinEff = false

theorem closeWay_acts {b k : Nat} {w : Way} {s : State} (hway : wayAt s b k = some w) :
    ∃ y, closedIn w y ∧ WayStep b k y s (closeWay b k false false s) := by
  obtain ⟨m, hstep⟩ := closeWay_way hway
  exact ⟨closedWay s.time.tick m w, ⟨rfl, rfl, rfl⟩, hstep⟩

theorem pinWay_acts {b k : Nat} {w : Way} {s : State} (hway : wayAt s b k = some w) :
    ∃ pin, WayStep b k { w with pinEff := pin } s (pinWay b k s) := by
  have hstays : WayStep b k w s s := ⟨hway, fun _ _ => rfl⟩
  simp only [pinWay, hway]
  split
  · split
    · exact ⟨true, wayStep_setWay ..⟩
    · exact ⟨w.pinEff, hstays.after (sameWays_of_ledger ((cause_ledger ..).trans (bump_ledger ..)))⟩
  · split
    · exact ⟨false, wayStep_setWay ..⟩
    · exact ⟨w.pinEff, hstays⟩

theorem sameWays_touchWay (b k : Nat) (s : State) : SameWays s (touchWay b k s) :=
  sameWays_modLedger (f := fun l => { l with trees := Tbl.set l.trees (k / 16) 0 (plruTouch (Tbl.get l.trees (k / 16) 0) (k % 16)) }) (fun _ => rfl) b s

/-- A record installed in a way (R106). -/
def installedIn (f : Fill) (y : Way) : Prop :=
  y.rc = setW0 (setW0 f.rc 25 25 0) 24 24 (b2n f.dirty) ∧ y.slot = f.slot ∧ y.claim = f.claim

theorem putWay_eq (b k : Nat) (f : Fill) (s : State) : ∃ y, installedIn f y ∧
    putWay b k f s = pinWay b k (touchWay b k ((setWay b k y s).modLedger b fun l => { l with nextInst := l.nextInst + 1 })) :=
  ⟨_, ⟨rfl, rfl, rfl⟩, rfl⟩

theorem putWay_acts (b k : Nat) (f : Fill) (s : State) : ∃ y, installedIn f y ∧ WayStep b k y s (putWay b k f s) := by
  obtain ⟨y, ⟨hrc, hslot, hclaim⟩, hput⟩ := putWay_eq b k f s
  rw [hput]
  have hset : WayStep b k y s (touchWay b k ((setWay b k y s).modLedger b fun l => { l with nextInst := l.nextInst + 1 })) :=
    ((wayStep_setWay b k y s).after (sameWays_modLedger (f := fun l => { l with nextInst := l.nextInst + 1 }) (fun _ => rfl) b _)).after
      (sameWays_touchWay _ _ _)
  obtain ⟨pin, hpin⟩ := pinWay_acts hset.way
  exact ⟨{ y with pinEff := pin }, ⟨hrc, hslot, hclaim⟩, hset.trans hpin⟩

end Sys2Proof.Machine
end


section
/-!
PROOFS. What locks held too long, dirty durable records, flushes, the threshold of occupancy and the setup burst leave in a Till slice
(R109, R118, R142, R511).
-/
namespace Sys2Proof.Machine

/-! ### Lock alarms -/

theorem lockAlarm_acts {b k p : Nat} {w : Way} {s : State} (hway : wayAt s b k = some w) (howner : w.owner = some p) (hnew : w.alarmed = false)
    (hon : fieldOf s (Reg.TILL_LOCK_ALARM 0) 31 0 ≠ 0) (hlong : us (fieldOf s (Reg.TILL_LOCK_ALARM 0) 31 0) < since s w.lockTick)
    (t : State) (ht : t = lockAlarm b k s) :
    WayStep b k { w with alarmed := true } s t ∧ flagOf t (Reg.TILL_IRQ_CAUSE b) 2 = true ∧
    t = { s with ledger := t.ledger, regs := t.regs, sill := t.sill } := by
  have halarm : lockAlarm b k s = emit (srcTill b) 0x29 ((hashOf s (recKey w.rc)).toNat + 2 ^ 64 * p)
      (bump (Reg.TILL_LOCK_ALARM_CNT b) (cause (Reg.TILL_IRQ_CAUSE b) 2 (setWay b k { w with alarmed := true } s))) := by
    simp only [lockAlarm, hway, howner, hnew, Bool.not_false, hlong, and_true, ne_eq, hon, not_false_iff, if_true]
  rw [halarm] at ht
  subst ht
  have hset := wayStep_setWay b k { w with alarmed := true } s
  have hframe : setWay b k { w with alarmed := true } s = { s with ledger := (setWay b k { w with alarmed := true } s).ledger } := rfl
  generalize setWay b k { w with alarmed := true } s = q at hset hframe ⊢
  refine ⟨hset.after (sameWays_of_ledger ((emit_ledger ..).trans ((bump_ledger ..).trans (cause_ledger ..)))), ?_, ?_⟩
  · have hlost : Reg.SILL_LOST_CNT ≠ Reg.TILL_IRQ_CAUSE b := by simp only [Reg.SILL_LOST_CNT, Reg.TILL_IRQ_CAUSE]; omega
    have hfull : Reg.SILL_IRQ_CAUSE ≠ Reg.TILL_IRQ_CAUSE b := by simp only [Reg.SILL_IRQ_CAUSE, Reg.TILL_IRQ_CAUSE]; omega
    refine (flagOf_emit_ne _ _ _ (Reg.TILL_IRQ_CAUSE b) 2 _ hlost hfull).trans ?_
    rw [flagOf_bump_ne _ _ _ _ (by simp only [Reg.TILL_LOCK_ALARM_CNT, Reg.TILL_IRQ_CAUSE]; omega)]
    exact flagOf_cause_same _ _ _ (by decide)
  · rw [emit_frame, bump_frame, cause_frame, hframe]

theorem lockAlarm_early {b k : Nat} {s : State} (h : ∀ w, wayAt s b k = some w → w.owner = none ∨ w.alarmed = true ∨
      fieldOf s (Reg.TILL_LOCK_ALARM 0) 31 0 = 0 ∨ since s w.lockTick ≤ us (fieldOf s (Reg.TILL_LOCK_ALARM 0) 31 0)) : lockAlarm b k s = s := by
  unfold lockAlarm
  dsimp only
  split
  · split
    · next w hway _ p howner =>
      refine if_neg ?_
      rintro ⟨hon, hnew, hlong⟩
      rcases h w hway with hnone | hold | hoff | hearly
      · rw [howner] at hnone
        cases hnone
      · rw [hold] at hnew
        cases hnew
      · exact hon hoff
      · exact absurd hlong (Nat.not_lt.2 hearly)
    · rfl
  · rfl

/-! ### Durable records -/

theorem durableExpiry_acts {b k : Nat} {w : Way} {s : State} (hway : wayAt s b k = some w) (hon : fieldOf s (Reg.TILL_DUR_CFG 0) 31 0 ≠ 0)
    (hlong : us (fieldOf s (Reg.TILL_DUR_CFG 0) 31 0) < since s w.dirtyAt) (hdirty : rcDirty w.rc = true) (hdurable : rcDurable w.rc = true) :
    BackStep b k w s (durableExpiry b k s) := by
  have hexpiry : durableExpiry b k s = bump (Reg.TILL_DUR_WB_CNT b) (writeBack b k s) := by
    simp only [durableExpiry, durableBack, hway, hlong, hdirty, hdurable, and_true, ne_eq, hon, not_false_iff, Bool.and_self, if_true]
  rw [hexpiry]
  exact (writeBack_acts hway hdirty).after (sameWays_of_ledger (bump_ledger ..)) (bump_vault ..)

theorem durableExpiry_early {b k : Nat} {s : State} (h : ∀ w, wayAt s b k = some w → fieldOf s (Reg.TILL_DUR_CFG 0) 31 0 = 0 ∨
      since s w.dirtyAt ≤ us (fieldOf s (Reg.TILL_DUR_CFG 0) 31 0) ∨ rcDirty w.rc = false ∨ rcDurable w.rc = false) : durableExpiry b k s = s := by
  unfold durableExpiry
  dsimp only
  split
  · next w hway =>
    split
    · next hdue =>
      have hclean : ¬ ((rcDirty w.rc && rcDurable w.rc) = true) := by
        rw [Bool.and_eq_true]
        rintro ⟨hdirty, hdurable⟩
        rcases h w hway with hoff | hearly | hclean | hplain
        · exact hdue.1 hoff
        · exact absurd hdue.2 (Nat.not_lt.2 hearly)
        · exact absurd hdirty (by rw [hclean]; decide)
        · exact absurd hdurable (by rw [hplain]; decide)
      rw [durableBack, hway]
      exact if_neg hclean
    · rfl
  · rfl

/-! ### Flushes -/

/-- A flush begins with the dirty records that it takes (R109). -/
theorem flushStart_acts {b : Nat} {v : Word32} {s : State} (hstart : v.getLsbD 0 = true) (hnone : (s.ledgerAt b).flush = none)
    (t : State) (ht : t = flushStart b v s) :
    (t.ledgerAt b).flush = some (((s.ledgerAt b).ways.filter fun (_, w) => rcDirty w.rc && (!v.getLsbD 1 || rcDurable w.rc)).map fun (k, w) => (k, w.inst)) ∧
    (t.ledgerAt b).flushDurable = v.getLsbD 1 ∧ SameWays s t ∧ fieldOf t (Reg.TILL_FLUSH_CTRL b) 1 1 = b2n (v.getLsbD 1) ∧
    t = { s with ledger := t.ledger, regs := t.regs } := by
  have hset : (setField (Reg.TILL_FLUSH_CTRL b) 1 1 (b2n (v.getLsbD 1)) s).ledgerAt b = s.ledgerAt b := ledgerAt_of_ledger (setField_ledger ..) b
  simp only [flushStart, hstart, hset, hnone, Option.isNone_none, and_self, if_true] at ht
  have hfield : fieldOf (setField (Reg.TILL_FLUSH_CTRL b) 1 1 (b2n (v.getLsbD 1)) s) (Reg.TILL_FLUSH_CTRL b) 1 1 = b2n (v.getLsbD 1) := by
    rw [fieldOf_setField_same _ _ _ _ _ le_rfl (by decide)]
    cases v.getLsbD 1 <;> rfl
  have hframe := setField_frame (Reg.TILL_FLUSH_CTRL b) 1 1 (b2n (v.getLsbD 1)) s
  have hways := sameWays_of_ledger (setField_ledger (Reg.TILL_FLUSH_CTRL b) 1 1 (b2n (v.getLsbD 1)) s)
  generalize setField (Reg.TILL_FLUSH_CTRL b) 1 1 (b2n (v.getLsbD 1)) s = q at ht hfield hframe hways
  subst ht
  refine ⟨?_, ?_, hways.trans (sameWays_modLedger ?_ _ _), hfield, ?_⟩
  · rw [State.ledgerAt_modLedger_same]
    rfl
  · rw [State.ledgerAt_modLedger_same]
  · exact fun _ => rfl
  · rw [hframe]
    rfl

theorem flushStart_idle {b : Nat} {v : Word32} {s : State} (h : v.getLsbD 0 = false ∨ (s.ledgerAt b).flush ≠ none) (t : State)
    (ht : t = flushStart b v s) : fieldOf t (Reg.TILL_FLUSH_CTRL b) 1 1 = b2n (v.getLsbD 1) ∧ t = { s with regs := t.regs } := by
  have hset : (setField (Reg.TILL_FLUSH_CTRL b) 1 1 (b2n (v.getLsbD 1)) s).ledgerAt b = s.ledgerAt b := ledgerAt_of_ledger (setField_ledger ..) b
  have hidle : flushStart b v s = setField (Reg.TILL_FLUSH_CTRL b) 1 1 (b2n (v.getLsbD 1)) s := by
    refine if_neg ?_
    rw [hset, Option.isNone_iff_eq_none]
    rintro ⟨hstart, hnone⟩
    rcases h with hoff | hruns
    · exact absurd hstart (by rw [hoff]; decide)
    · exact hruns hnone
  rw [ht, hidle]
  refine ⟨?_, setField_frame ..⟩
  rw [fieldOf_setField_same _ _ _ _ _ le_rfl (by decide)]
  cases v.getLsbD 1 <;> rfl

/-- The end of a flush. -/
def flushEnds (b : Nat) (s : State) : State :=
  s |> (·.modLedger b fun l => { l with flush := none }) |> stamp (Reg.TILL_FLUSH_DONE_SEC b) (Reg.TILL_FLUSH_DONE_NS b)
    |> cause (Reg.TILL_IRQ_CAUSE b) 1

theorem flushDone_eq {b : Nat} {s : State} (h : (s.ledgerAt b).flush ≠ none) :
    flushDone b s = flushEnds b ((flushLeft (s.ledgerAt b)).foldl (fun s k => writeBack b k s) s) := by
  unfold flushDone
  split
  · rfl
  · next hnone => exact absurd hnone h

theorem flushEnds_acts (b : Nat) (s t : State) (ht : t = flushEnds b s) :
    (t.ledgerAt b).flush = none ∧ SameWays s t ∧ flagOf t (Reg.TILL_IRQ_CAUSE b) 1 = true ∧ t = { s with ledger := t.ledger, regs := t.regs } := by
  unfold flushEnds at ht
  dsimp only at ht
  have hways := sameWays_modLedger (f := fun l => { l with flush := none }) (fun _ => rfl) b s
  have hnone : ((s.modLedger b fun l => { l with flush := none }).ledgerAt b).flush = none := by
    rw [State.ledgerAt_modLedger_same]
  have hframe : (s.modLedger b fun l => { l with flush := none }) =
      { s with ledger := (s.modLedger b fun l => { l with flush := none }).ledger } := rfl
  generalize s.modLedger b (fun l => { l with flush := none }) = q at ht hways hnone hframe
  have hledger := stamp_ledger (Reg.TILL_FLUSH_DONE_SEC b) (Reg.TILL_FLUSH_DONE_NS b) q
  have hregs := stamp_frame (Reg.TILL_FLUSH_DONE_SEC b) (Reg.TILL_FLUSH_DONE_NS b) q
  generalize stamp (Reg.TILL_FLUSH_DONE_SEC b) (Reg.TILL_FLUSH_DONE_NS b) q = r at ht hledger hregs
  subst ht
  refine ⟨?_, hways.trans (sameWays_of_ledger ((cause_ledger ..).trans hledger)), flagOf_cause_same _ _ _ (by decide), ?_⟩
  · rw [ledgerAt_of_ledger ((cause_ledger ..).trans hledger), hnone]
  · rw [cause_frame, hregs, hframe]

theorem flushDone_none {b : Nat} {s : State} (h : (s.ledgerAt b).flush = none) : flushDone b s = s := by
  rw [flushDone, h]

theorem flushDone_one {b k : Nat} {w : Way} {s : State} (hruns : (s.ledgerAt b).flush ≠ none) (hleft : flushLeft (s.ledgerAt b) = [k])
    (hway : wayAt s b k = some w) (hdirty : rcDirty w.rc = true) (t : State) (ht : t = flushDone b s) :
    (t.ledgerAt b).flush = none ∧ BackStep b k w s t ∧ flagOf t (Reg.TILL_IRQ_CAUSE b) 1 = true := by
  rw [flushDone_eq hruns, hleft, List.foldl_cons, List.foldl_nil] at ht
  obtain ⟨hnone, hways, hcause, hframe⟩ := flushEnds_acts b _ t ht
  exact ⟨hnone, (writeBack_acts hway hdirty).after hways (by rw [hframe]), hcause⟩

/-! ### The threshold of occupancy and the setup burst -/

/-- The alarm of a slice whose population now exceeds the threshold (R511). -/
def occAlarm (old : Nat) (s : State) (b : Nat) : State :=
  if (s.ledgerAt b).occ ≤ old ∧ occThreshold s < (s.ledgerAt b).occ then cause (Reg.TILL_FT_IRQ_CAUSE b) 5 s else s

theorem occLimitWrite_eq (v : Word32) (s : State) : occLimitWrite v s =
    (List.range 4).foldl (occAlarm (occThreshold s)) (setField (Reg.TILL_FT_OCC_LIMIT 0) 9 0 v.toNat s) := rfl

theorem occAlarm_regs (old b : Nat) (s : State) : occAlarm old s b = { s with regs := (occAlarm old s b).regs } ∧
    fieldOf (occAlarm old s b) (Reg.TILL_FT_OCC_LIMIT 0) 9 0 = fieldOf s (Reg.TILL_FT_OCC_LIMIT 0) 9 0 := by
  unfold occAlarm
  split
  · refine ⟨cause_frame .., ?_⟩
    rw [fieldOf, regRead_cause_ne _ _ _ _ (by simp only [Reg.TILL_FT_IRQ_CAUSE, Reg.TILL_FT_OCC_LIMIT]; omega), fieldOf]
  · exact ⟨rfl, rfl⟩

theorem flagOf_occAlarm (old b o i : Nat) (s : State) (h : flagOf s o i = true) : flagOf (occAlarm old s b) o i = true := by
  unfold occAlarm
  split
  · exact flagOf_cause_mono _ _ _ _ _ h
  · exact h

theorem occThreshold_of_regs {s t : State} (h : t = { s with regs := t.regs })
    (hfield : fieldOf t (Reg.TILL_FT_OCC_LIMIT 0) 9 0 = fieldOf s (Reg.TILL_FT_OCC_LIMIT 0) 9 0) : occThreshold t = occThreshold s := by
  have hvault : t.vault = s.vault := by rw [h]
  rw [occThreshold, hfield, hvault, occThreshold]

theorem occAlarms_act (old : Nat) (l : List Nat) (s t : State) (ht : t = l.foldl (occAlarm old) s) :
    t = { s with regs := t.regs } ∧ fieldOf t (Reg.TILL_FT_OCC_LIMIT 0) 9 0 = fieldOf s (Reg.TILL_FT_OCC_LIMIT 0) 9 0 ∧
    ∀ b ∈ l, (s.ledgerAt b).occ ≤ old → occThreshold s < (s.ledgerAt b).occ → flagOf t (Reg.TILL_FT_IRQ_CAUSE b) 5 = true := by
  induction l generalizing s with
  | nil =>
    rw [ht]
    exact ⟨rfl, rfl, fun _ hb => absurd hb List.not_mem_nil⟩
  | cons a l ih =>
    obtain ⟨hstep, hkept⟩ := occAlarm_regs old a s
    obtain ⟨hframe, hfield, hflags⟩ := ih (occAlarm old s a) ht
    refine ⟨by rw [hframe, hstep], hfield.trans hkept, fun b hb hbelow habove => ?_⟩
    rcases List.mem_cons.1 hb with rfl | hrest
    · have hnow : flagOf (occAlarm old s b) (Reg.TILL_FT_IRQ_CAUSE b) 5 = true := by
        rw [occAlarm, if_pos ⟨hbelow, habove⟩]
        exact flagOf_cause_same _ _ _ (by decide)
      rw [ht]
      exact foldl_keeps (P := fun u => flagOf u (Reg.TILL_FT_IRQ_CAUSE b) 5 = true) (occAlarm old) (fun _ _ h => flagOf_occAlarm _ _ _ _ _ h) l hnow
    · refine hflags b hrest ?_ ?_
      · rwa [ledgerAt_of_ledger (congrArg State.ledger hstep)]
      · rwa [ledgerAt_of_ledger (congrArg State.ledger hstep), occThreshold_of_regs hstep hkept]

theorem occLimitWrite_acts (v : Word32) (s t : State) (ht : t = occLimitWrite v s) :
    fieldOf t (Reg.TILL_FT_OCC_LIMIT 0) 9 0 = v.toNat % 1024 ∧
    (∀ b, b < 4 → (s.ledgerAt b).occ ≤ occThreshold s → occThreshold t < (s.ledgerAt b).occ → flagOf t (Reg.TILL_FT_IRQ_CAUSE b) 5 = true) ∧
    t = { s with regs := t.regs } := by
  rw [occLimitWrite_eq] at ht
  have hset := fieldOf_setField_same (Reg.TILL_FT_OCC_LIMIT 0) 9 0 v.toNat s (by decide) (by decide)
  have hregs := setField_frame (Reg.TILL_FT_OCC_LIMIT 0) 9 0 v.toNat s
  generalize setField (Reg.TILL_FT_OCC_LIMIT 0) 9 0 v.toNat s = q at ht hset hregs
  obtain ⟨hframe, hfield, hflags⟩ := occAlarms_act _ _ q t ht
  refine ⟨hfield.trans hset, fun b hb hbelow habove => ?_, by rw [hframe, hregs]⟩
  rw [occThreshold_of_regs hframe hfield] at habove
  have hledger := ledgerAt_of_ledger (congrArg State.ledger hregs) b
  refine hflags b (List.mem_range.2 hb) ?_ ?_
  · rwa [hledger]
  · rwa [hledger]

theorem setupBurstWrite_acts (b : Nat) (v : Word32) (s t : State) (ht : t = setupBurstWrite b v s) :
    fieldOf t (Reg.TILL_FT_SETUP_BURST b) 15 0 = v.toNat % 65536 ∧
    (t.ledgerAt b).tokens = min ((refillTokens b s).ledgerAt b).tokens (1000000 * max 1 (v.toNat % 65536)) ∧ (t.ledgerAt b).tokensAt = s.time.tick ∧
    SameWays s t ∧ t = { s with ledger := t.ledger, regs := t.regs } := by
  have hfill : ((refillTokens b s).ledgerAt b).tokensAt = s.time.tick := by rw [refillTokens, State.ledgerAt_modLedger_same]
  have hways : SameWays s (refillTokens b s) := sameWays_modLedger (by exact fun _ => rfl) b s
  have hframe : refillTokens b s = { s with ledger := (refillTokens b s).ledger } := rfl
  unfold setupBurstWrite at ht
  dsimp only at ht
  generalize refillTokens b s = q at ht hfill hways hframe ⊢
  have hset := fieldOf_setField_same (Reg.TILL_FT_SETUP_BURST b) 15 0 v.toNat q (by decide) (by decide)
  have hledger := setField_ledger (Reg.TILL_FT_SETUP_BURST b) 15 0 v.toNat q
  have hregs := setField_frame (Reg.TILL_FT_SETUP_BURST b) 15 0 v.toNat q
  generalize setField (Reg.TILL_FT_SETUP_BURST b) 15 0 v.toNat q = r at ht hset hledger hregs
  subst ht
  refine ⟨hset, ?_, ?_, (hways.trans (sameWays_of_ledger hledger)).trans (sameWays_modLedger (by exact fun _ => rfl) _ _), ?_⟩
  · rw [State.ledgerAt_modLedger_same, burstOf, hset, ledgerAt_of_ledger hledger]
    rfl
  · rw [State.ledgerAt_modLedger_same, ← hfill, ledgerAt_of_ledger hledger]
  · rw [hregs, hframe]
    rfl

end Sys2Proof.Machine
end


section
/-!
PROOFS. The host operations of a Till slice: how one begins, what it performs on a record of the Till or reads from the flow table, and how its
answer is published (R123 to R128).
-/
namespace Sys2Proof.Machine

/-! ### How an operation begins -/

/-- A host operation with its code and mask has begun: records and the other registers stand. -/
structure HostBegun (b op m : Nat) (s q : State) : Prop where
  ways : SameWays s q
  own : (q.ledgerAt b).ways = (s.ledgerAt b).ways
  op : (q.ledgerAt b).hreq.op = op
  mask : (q.ledgerAt b).hreq.wmask = m
  regs : ∀ p, Reg.TILL_HREQ_CMD b ≠ p → regRead q p = regRead s p
  rest : q = { s with ledger := q.ledger, regs := q.regs }

section
variable {b op m : Nat} {s q : State} (h : HostBegun b op m s q)
include h

theorem HostBegun.stagedRec : stagedRec q b = stagedRec s b := by
  unfold Machine.stagedRec pairOf
  congr 1
  funext i
  rw [h.regs _ (by simp only [Reg.TILL_HREQ_CMD, Reg.TILL_HREC_DATA]; omega), h.regs _ (by simp only [Reg.TILL_HREQ_CMD, Reg.TILL_HREC_DATA]; omega)]

theorem HostBegun.stagedHash : stagedHash q b = stagedHash s b := by
  have hvault : q.vault = s.vault := by rw [h.rest]
  rw [Machine.stagedHash, hashOf, h.stagedRec, hvault, Machine.stagedHash, hashOf]

theorem HostBegun.probe (hash : Word64) (key : Ckey) : probe q b hash key = probe s b hash key := by
  rw [Machine.probe, setWays, h.own, Machine.probe, setWays]

theorem HostBegun.ledgerNow : ledgerNow q = ledgerNow s := by
  have htime : q.time = s.time := by rw [h.rest]
  rw [Machine.ledgerNow, htime, Machine.ledgerNow]

theorem HostBegun.domOn (d : Nat) : domOn q d = domOn s d := by
  have htreas : q.treas = s.treas := by rw [h.rest]
  rw [Machine.domOn, State.domAt, htreas, Machine.domOn, State.domAt]

theorem HostBegun.fieldOf {p : Nat} (hp : Reg.TILL_HREQ_CMD b ≠ p) (hi lo : Nat) : fieldOf q p hi lo = fieldOf s p hi lo := by
  rw [Machine.fieldOf, h.regs p hp, Machine.fieldOf]

theorem HostBegun.rcTimeout (r : Rec) : rcTimeout q r = rcTimeout s r := by
  have hage : rcAge r < 8 := Nat.mod_lt _ (by decide)
  have hidle1 : Reg.TILL_HREQ_CMD b ≠ Reg.TILL_AGE_IDLE1 0 (rcAge r) := by simp only [Reg.TILL_HREQ_CMD, Reg.TILL_AGE_IDLE1]; omega
  have hidle2 : Reg.TILL_HREQ_CMD b ≠ Reg.TILL_AGE_IDLE2 0 (rcAge r) := by simp only [Reg.TILL_HREQ_CMD, Reg.TILL_AGE_IDLE2]; omega
  have hclose : Reg.TILL_HREQ_CMD b ≠ Reg.TILL_AGE_CLOSE 0 (rcAge r) := by simp only [Reg.TILL_HREQ_CMD, Reg.TILL_AGE_CLOSE]; omega
  unfold Machine.rcTimeout
  rw [h.fieldOf hidle1, h.fieldOf hidle2, h.fieldOf hclose]

theorem HostBegun.rcExpired (r : Rec) (t : Nat) : rcExpired q r t = rcExpired s r t := by
  rw [Machine.rcExpired, h.rcTimeout, Machine.rcExpired]

theorem HostBegun.modLedger {f : Ledger → Ledger} (hways : ∀ l, (f l).ways = l.ways) (hop : ∀ l, (f l).hreq.op = l.hreq.op)
    (hmask : ∀ l, (f l).hreq.wmask = l.hreq.wmask) : HostBegun b op m s (q.modLedger b f) where
  ways := h.ways.trans (sameWays_modLedger hways b q)
  own := by rw [State.ledgerAt_modLedger_same, hways, h.own]
  op := by rw [State.ledgerAt_modLedger_same, hop, h.op]
  mask := by rw [State.ledgerAt_modLedger_same, hmask, h.mask]
  regs := h.regs
  rest := by
    have hframe : q.modLedger b f = { q with ledger := (q.modLedger b f).ledger } := rfl
    generalize q.modLedger b f = r at hframe ⊢
    rw [hframe, h.rest]

end

theorem hostCommand_begins {b op m : Nat} {s : State} (hfree : (s.ledgerAt b).hreq.busy = false) (hrun : s.loader.st = .run) (hop : op ≠ 0) :
    ∃ q, HostBegun b op m s q ∧ hostCommand b op m s = hostBegin b q := by
  have hcmd : hostCommand b op m s = hostBegin b ((setField (Reg.TILL_HREQ_CMD b) 31 16 m s).modLedger b fun l =>
      { l with hreq := { op := op, wmask := m, busy := true } }) := by
    simp only [hostCommand, hfree, hrun, hop, Bool.false_eq_true, ne_eq, not_true, and_false, or_self, if_false]
  refine ⟨_, ?_, hcmd⟩
  have hframe := setField_frame (Reg.TILL_HREQ_CMD b) 31 16 m s
  have hledger := setField_ledger (Reg.TILL_HREQ_CMD b) 31 16 m s
  have hregs : ∀ p, Reg.TILL_HREQ_CMD b ≠ p → regRead (setField (Reg.TILL_HREQ_CMD b) 31 16 m s) p = regRead s p := fun p hp =>
    regRead_setField_ne _ _ _ _ _ _ hp
  generalize setField (Reg.TILL_HREQ_CMD b) 31 16 m s = r at hframe hledger hregs ⊢
  constructor
  · exact (sameWays_of_ledger hledger).trans (sameWays_modLedger (by exact fun _ => rfl) _ _)
  · rw [State.ledgerAt_modLedger_same]
    exact (congrArg Ledger.ways (ledgerAt_of_ledger hledger b) :)
  · rw [State.ledgerAt_modLedger_same]
  · rw [State.ledgerAt_modLedger_same]
  · exact hregs
  · rw [hframe]
    rfl

theorem hostCommand_refused {b op m : Nat} {s : State} (h : (s.ledgerAt b).hreq.busy = true ∨ s.loader.st ≠ .run) (hop : op ≠ 0) :
    hostCommand b op m s = s :=
  if_pos (h.imp_right fun hst => ⟨hop, hst⟩)

/-- An operation whose record stands in the slice goes to that record (R124). -/
theorem hostBegin_onTill {b op m k : Nat} {s q : State} (h : HostBegun b op m s q) (hpos : op ≠ 0) (hop : op < 6) (hhome : homeOf (stagedHash s b) = b)
    (hon : domOn s (13 + b) = true) (hhit : probe s b (stagedHash s b) (recKey (stagedRec s b)) = some k)
    (hroom : op = 3 → ∃ w n, wayAt s b k = some w ∧ w.claim = some n) :
    ∃ r, HostBegun b op m s r ∧ hostBegin b q = hostOnTill b k 1 r := by
  have hheld : HostBegun b op m s (q.modLedger b fun l => { l with hreq := { l.hreq with held := false } }) :=
    h.modLedger (by exact fun _ => rfl) (by exact fun _ => rfl) (by exact fun _ => rfl)
  have hprobe := (hheld.probe (stagedHash s b) (recKey (stagedRec s b))).trans hhit
  have hplace : (op == 3 && roomless (q.modLedger b fun l => { l with hreq := { l.hreq with held := false } }) b k
      (ledgerNow (q.modLedger b fun l => { l with hreq := { l.hreq with held := false } }))) = false := by
    by_cases hcreate : op = 3
    · obtain ⟨w, n, hway, hclaim⟩ := hroom hcreate
      have hown : ∀ t, ownSlotFree (q.modLedger b fun l => { l with hreq := { l.hreq with held := false } }) b k w t = true := fun t => by
        rw [ownSlotFree, hclaim]
        rfl
      rw [roomless, hheld.ways b k, hway]
      simp only [hown, Bool.not_true, Bool.and_false, Bool.false_and]
    · rw [beq_eq_false_iff_ne.2 hcreate, Bool.false_and]
  refine ⟨_, hheld, ?_⟩
  have hcode : ¬ (op = 0 ∨ 6 < op) := by omega
  have hsix : op ≠ 6 := by omega
  unfold hostBegin
  simp only [h.op, h.stagedRec, h.stagedHash, h.domOn, hcode, hsix, hhome, hon, hprobe, hplace, ne_eq, not_true, if_false, Bool.not_true, Bool.false_eq_true,
    Option.filter_some, Bool.not_false, if_true]

/-! ### The answer -/

theorem hostWay_acts {b k : Nat} {w : Way} {s : State} (hway : wayAt s b k = some w) (result where_ : Nat) (data : Bool) (t : State)
    (ht : t = hostWay b k result where_ data s) :
    (t.ledgerAt b).hreq.done = some { result := result, where_ := where_, slot := some w.slot, pinEff := w.pinEff, owner := if rcLock w.rc then some (w.owner.getD 0, w.lockAt) else none, data := if data then some w.rc else none } ∧
    SameWays s t ∧ t = { s with ledger := t.ledger } := by
  simp only [hostWay, hway, hostDone] at ht
  subst ht
  refine ⟨?_, sameWays_modLedger (by exact fun _ => rfl) _ _, rfl⟩
  rw [State.ledgerAt_modLedger_same]

theorem noteState_known {r : Rec} (h : rcState r < 5) (b : Nat) (hash : Word64) (s : State) : noteState b hash r s = s :=
  if_neg (Nat.not_le.2 h)

theorem rcState_of_live {r : Rec} (h : rcDead r = false) : rcState r < 4 := by
  rw [rcDead, Bool.or_eq_false_iff, decide_eq_false_iff_not] at h
  omega

/-- The answer of an operation performed on a record of the Till. -/
def answered (b slot : Nat) (t : State) : Prop :=
  ∃ a, (t.ledgerAt b).hreq.done = some a ∧ a.result = 0 ∧ a.where_ = 1 ∧ a.slot = some slot

/-- An operation on a live record that it may find. -/
structure OnLive (b k op : Nat) (w : Way) (s : State) : Prop where
  way : wayAt s b k = some w
  op : (s.ledgerAt b).hreq.op = op
  live : rcDead w.rc = false
  kept : rcExpired s w.rc (ledgerNow s) = false ∨ rcLock w.rc = true

/-- What an operation other than CREATE does with a live record. -/
theorem hostOnTill_live {b k op : Nat} {w : Way} {s : State} (h : OnLive b k op w s) (hop : op ≠ 3) :
    hostOnTill b k 1 s = if op = 1 then hostWay b k 0 1 true s
      else if op = 5 then s |> writeBack b k |> hostWay b k 0 1 false
      else if rcLock w.rc then hostWay b k 3 1 false s
      else if op = 2 then hostWrite b k 1 s
      else s |> closeWay b k false false |> hostWay b k 0 1 false := by
  obtain ⟨hway, hcode, hlive, hkept⟩ := h
  have hstands : (rcExpired s w.rc (ledgerNow s) && !rcLock w.rc) = false := by
    rcases hkept with hfresh | hlocked
    · rw [hfresh, Bool.false_and]
    · rw [hlocked, Bool.not_true, Bool.and_false]
  simp only [hostOnTill, hway, hcode, noteState_known ((rcState_of_live hlive).trans (by decide)), hstands, hop, hlive, Bool.false_eq_true,
    if_false, Bool.not_false, Bool.not_true, Bool.true_and]

theorem OnLive.of_begun {b k op m : Nat} {w : Way} {s q : State} (h : HostBegun b op m s q) (hway : wayAt s b k = some w) (hlive : rcDead w.rc = false)
    (hkept : rcExpired s w.rc (ledgerNow s) = false ∨ rcLock w.rc = true) : OnLive b k op w q :=
  ⟨(h.ways b k).trans hway, h.op, hlive, by rwa [h.rcExpired, h.ledgerNow]⟩

/-! ### LOOKUP, FLUSH, DELETE and WRITE -/

/-- An operation on a live record of the slice, before it begins. -/
structure HostReady (b k : Nat) (w : Way) (s : State) : Prop where
  idle : (s.ledgerAt b).hreq.busy = false
  run : s.loader.st = .run
  home : homeOf (stagedHash s b) = b
  dom : domOn s (13 + b) = true
  hit : probe s b (stagedHash s b) (recKey (stagedRec s b)) = some k
  way : wayAt s b k = some w

theorem HostReady.begins {b k : Nat} {w : Way} {s : State} (h : HostReady b k w s) {op : Nat} (m : Nat) (hpos : op ≠ 0) (hop : op < 6)
    (hroom : op = 3 → ∃ n, w.claim = some n) : ∃ q, HostBegun b op m s q ∧ hostCommand b op m s = hostOnTill b k 1 q := by
  obtain ⟨q, hq, hcmd⟩ := hostCommand_begins h.idle h.run hpos (m := m)
  obtain ⟨r, hr, hbegin⟩ := hostBegin_onTill hq hpos hop h.home h.dom h.hit fun hcreate => by
    obtain ⟨n, hn⟩ := hroom hcreate
    exact ⟨w, n, h.way, hn⟩
  exact ⟨r, hr, hcmd.trans hbegin⟩

theorem tillLookup_acts {b k : Nat} {w : Way} {s : State} (h : HostReady b k w s) (hlive : rcDead w.rc = false)
    (hkept : rcExpired s w.rc (ledgerNow s) = false ∨ rcLock w.rc = true) (t : State) (ht : t = hostCommand b 1 0 s) :
    (t.ledgerAt b).hreq.done = some { result := 0, where_ := 1, slot := some w.slot, pinEff := w.pinEff, owner := if rcLock w.rc then some (w.owner.getD 0, w.lockAt) else none, data := some w.rc } ∧
    SameWays s t ∧ t = { s with ledger := t.ledger, regs := t.regs } := by
  obtain ⟨q, hq, hcmd⟩ := h.begins 0 (by decide) (by decide) (fun hno => absurd hno (by decide)) (op := 1)
  rw [hcmd, hostOnTill_live (.of_begun hq h.way hlive hkept) (by decide), if_pos rfl] at ht
  obtain ⟨hdone, hways, hframe⟩ := hostWay_acts ((hq.ways b k).trans h.way) 0 1 true t ht
  exact ⟨hdone, hq.ways.trans hways, by rw [hframe, hq.rest]⟩

theorem tillFlush_acts {b k : Nat} {w : Way} {s : State} (h : HostReady b k w s) (hlive : rcDead w.rc = false)
    (hkept : rcExpired s w.rc (ledgerNow s) = false ∨ rcLock w.rc = true) (hdirty : rcDirty w.rc = true) (t : State)
    (ht : t = hostCommand b 5 0 s) : answered b w.slot t ∧ BackStep b k w s t := by
  obtain ⟨q, hq, hcmd⟩ := h.begins 0 (by decide) (by decide) (fun hno => absurd hno (by decide)) (op := 5)
  rw [hcmd, hostOnTill_live (.of_begun hq h.way hlive hkept) (by decide), if_neg (by decide), if_pos rfl] at ht
  have hvault : q.vault = s.vault := by rw [hq.rest]
  have hback := writeBack_acts ((hq.ways b k).trans h.way) hdirty
  obtain ⟨hdone, hways, hframe⟩ := hostWay_acts hback.way 0 1 false t ht
  obtain ⟨hway, hothers, hcopy⟩ := hback.after hways (by rw [hframe])
  rw [hvault] at hcopy
  exact ⟨⟨_, hdone, rfl, rfl, rfl⟩, hway, fun j hj => (hothers j hj).trans (hq.ways b j), hcopy⟩

theorem tillDelete_acts {b k : Nat} {w : Way} {s : State} (h : HostReady b k w s) (hlive : rcDead w.rc = false)
    (hfresh : rcExpired s w.rc (ledgerNow s) = false) (hfree : rcLock w.rc = false) (t : State) (ht : t = hostCommand b 4 0 s) :
    answered b w.slot t ∧ ∃ y, closedIn w y ∧ WayStep b k y s t := by
  obtain ⟨q, hq, hcmd⟩ := h.begins 0 (by decide) (by decide) (fun hno => absurd hno (by decide)) (op := 4)
  rw [hcmd, hostOnTill_live (.of_begun hq h.way hlive (Or.inl hfresh)) (by decide), if_neg (by decide), if_neg (by decide), hfree,
    if_neg Bool.false_ne_true, if_neg (by decide)] at ht
  obtain ⟨y, hclosed, hstep⟩ := closeWay_acts ((hq.ways b k).trans h.way)
  obtain ⟨hdone, hways, -⟩ := hostWay_acts hstep.way 0 1 false t ht
  exact ⟨⟨_, hdone, rfl, rfl, congrArg some hclosed.2.1⟩, y, hclosed, (hstep.after hways).before hq.ways⟩

/-- A WRITE that does not close the record. -/
theorem hostWrite_acts {b k m : Nat} {w : Way} {s : State} (hway : wayAt s b k = some w) (hmask : (s.ledgerAt b).hreq.wmask = m)
    (hlive : rcDead w.rc = false) (hgood : badWrite m (stagedRec s b) w.rc = false) (hscan : m.testBit 14 = false ∨ w.scans = 0)
    (hopen : m.testBit 0 = false ∨ rcState (stagedRec s b) ≠ 4) (t : State) (ht : t = hostWrite b k 1 s) :
    answered b w.slot t ∧ ∃ y, (y.rc = setW0 (writtenRecord m (stagedRec s b) w.rc) 24 24 1 ∧ y.slot = w.slot) ∧ WayStep b k y s t := by
  have hwait : (m.testBit 14 && w.scans != 0) = false := by
    rcases hscan with hno | hnone
    · rw [hno, Bool.false_and]
    · rw [hnone, bne_self_eq_false, Bool.and_false]
  have hgoal : ¬ ((if m.testBit 0 && rcState (stagedRec s b) != rcState w.rc then rcState (stagedRec s b) else rcState w.rc) = 4 ∧ rcState w.rc ≠ 4) := by
    have hstate := rcState_of_live hlive
    rintro ⟨hfour, -⟩
    split at hfour
    case isTrue hboth =>
      rcases hopen with hno | hne
      · rw [hno, Bool.false_and] at hboth
        cases hboth
      · exact hne hfour
    case isFalse => omega
  simp only [hostWrite, hway, hmask, hgood, hwait, Bool.false_eq_true, if_false, if_neg hgoal] at ht
  generalize hrc : (if (if m.testBit 0 && rcState (stagedRec s b) != rcState w.rc then rcState (stagedRec s b) else rcState w.rc) = 3 then
    setW0 (writeWords m (stagedRec s b) w.rc) 35 32 3 else writeWords m (stagedRec s b) w.rc) = rc at ht
  have hwritten : setW0 rc 24 24 1 = setW0 (writtenRecord m (stagedRec s b) w.rc) 24 24 1 := by rw [← hrc, writtenRecord]
  obtain ⟨x, hxrc, hslot, ht⟩ : ∃ x : Way, x.rc = setW0 rc 24 24 1 ∧ x.slot = w.slot ∧
      t = hostWay b k 0 1 false (if m.testBit 0 then pinWay b k (setWay b k x s) else setWay b k x s) := by
    refine ⟨_, ?_, ?_, ht⟩
    · split <;> rfl
    · split <;> rfl
  have hset := wayStep_setWay b k x s
  obtain ⟨y, hyrc, hyslot, hstep⟩ : ∃ y : Way, y.rc = x.rc ∧ y.slot = x.slot ∧
      WayStep b k y s (if m.testBit 0 then pinWay b k (setWay b k x s) else setWay b k x s) := by
    split
    · obtain ⟨pin, hpin⟩ := pinWay_acts hset.way
      exact ⟨{ x with pinEff := pin }, rfl, rfl, hset.trans hpin⟩
    · exact ⟨x, rfl, rfl, hset⟩
  obtain ⟨hdone, hways, -⟩ := hostWay_acts hstep.way 0 1 false t ht
  exact ⟨⟨_, hdone, rfl, rfl, congrArg some (hyslot.trans hslot)⟩, y, ⟨hyrc.trans (hxrc.trans hwritten), hyslot.trans hslot⟩, hstep.after hways⟩

theorem tillWrite_acts {b k m : Nat} {w : Way} {s : State} (h : HostReady b k w s) (hlive : rcDead w.rc = false)
    (hfresh : rcExpired s w.rc (ledgerNow s) = false) (hfree : rcLock w.rc = false) (hgood : badWrite m (stagedRec s b) w.rc = false)
    (hscan : m.testBit 14 = false ∨ w.scans = 0) (hopen : m.testBit 0 = false ∨ rcState (stagedRec s b) ≠ 4) (t : State)
    (ht : t = hostCommand b 2 m s) :
    answered b w.slot t ∧ ∃ y, (y.rc = setW0 (writtenRecord m (stagedRec s b) w.rc) 24 24 1 ∧ y.slot = w.slot) ∧ WayStep b k y s t := by
  obtain ⟨q, hq, hcmd⟩ := h.begins m (by decide) (by decide) (fun hno => absurd hno (by decide)) (op := 2)
  rw [hcmd, hostOnTill_live (.of_begun hq h.way hlive (Or.inl hfresh)) (by decide), if_neg (by decide), if_neg (by decide), hfree,
    if_neg Bool.false_ne_true, if_pos rfl] at ht
  rw [← hq.stagedRec] at hgood hopen ⊢
  obtain ⟨hdone, y, hy, hstep⟩ := hostWrite_acts ((hq.ways b k).trans h.way) hq.mask hlive hgood hscan hopen t ht
  exact ⟨hdone, y, hy, hstep.before hq.ways⟩

/-! ### CREATE over a closed record -/

theorem renewWay_acts {b k n : Nat} {w : Way} {s : State} (hclaim : w.claim = some n)
    (halone : ∀ j y, (j, y) ∈ (s.ledgerAt b).ways → j ≠ k → y.slot ≠ w.slot) (rc : Rec) (t : Nat) (v : VClass) :
    ∃ y, installedIn ⟨rc, w.slot, true, some n⟩ y ∧ WayStep b k y s (renewWay b k w rc t v s) := by
  have hnone : ((s.ledgerAt b).ways.filter fun (j, y) => j != k && y.slot == w.slot) = [] := by
    refine List.filter_eq_nil_iff.2 fun p hp hboth => ?_
    rw [Bool.and_eq_true, bne_iff_ne, beq_iff_eq] at hboth
    exact halone p.1 p.2 hp hboth.1 hboth.2
  have hown : ownSlotFree s b k w t = true := by
    rw [ownSlotFree, hclaim]
    rfl
  have hrenew : renewWay b k w rc t v s = occStep w.slot (putWay b k ⟨rc, w.slot, true, some n⟩) s := by
    simp only [renewWay, reuseSlot, hown, if_true, hnone, List.foldl_nil, claimFor, hclaim]
  obtain ⟨y, hy, hstep⟩ := putWay_acts b k ⟨rc, w.slot, true, some n⟩ s
  rw [hrenew]
  exact ⟨y, hy, hstep.after (sameWays_occStep _ _ _)⟩

theorem hostOnTill_create {b k : Nat} {w : Way} {s : State} (hway : wayAt s b k = some w) (hop : (s.ledgerAt b).hreq.op = 3)
    (hdead : rcDead w.rc = true) (hknown : rcState w.rc < 5) (hfree : rcLock w.rc = false) (hgood : badCreate (stagedRec s b) = false) :
    hostOnTill b k 1 s = hostWay b k 0 1 false (renewWay b k w (createdRecord s b) (ledgerNow s) .fill s) := by
  simp only [hostOnTill, hway, hop, noteState_known hknown, hdead, hfree, hgood, Bool.not_true, Bool.false_and, Bool.false_eq_true, if_false, if_true]

theorem tillCreate_acts {b k n : Nat} {w : Way} {s : State} (h : HostReady b k w s) (hdead : rcDead w.rc = true) (hknown : rcState w.rc < 5)
    (hfree : rcLock w.rc = false) (hgood : badCreate (stagedRec s b) = false) (hclaim : w.claim = some n)
    (halone : ∀ j y, (j, y) ∈ (s.ledgerAt b).ways → j ≠ k → y.slot ≠ w.slot) (t : State) (ht : t = hostCommand b 3 0 s) :
    answered b w.slot t ∧ ∃ y, installedIn ⟨createdRecord s b, w.slot, true, some n⟩ y ∧ WayStep b k y s t := by
  obtain ⟨q, hq, hcmd⟩ := h.begins 0 (by decide) (by decide) (fun _ => ⟨n, hclaim⟩) (op := 3)
  have hway := (hq.ways b k).trans h.way
  have haccord : q.accord = s.accord := by rw [hq.rest]
  have hcreated : createdRecord q b = createdRecord s b := by rw [createdRecord, hq.stagedRec, haccord, createdRecord]
  rw [hcmd, hostOnTill_create hway hq.op hdead hknown hfree (by rwa [hq.stagedRec]), hcreated] at ht
  obtain ⟨y, hy, hstep⟩ := renewWay_acts hclaim (by rwa [hq.own]) (createdRecord s b) (ledgerNow q) .fill
  obtain ⟨hdone, hways, -⟩ := hostWay_acts hstep.way 0 1 false t ht
  exact ⟨⟨_, hdone, rfl, rfl, congrArg some hy.2.1⟩, y, hy, (hstep.after hways).before hq.ways⟩

/-! ### READ_SLOT -/

theorem peekRecord_of_vault {s t : State} (h : t.vault = s.vault) (a : Nat) : peekRecord t a = peekRecord s a := by
  rw [peekRecord, peekCell, chanAt_of_vault h, h, peekRecord, peekCell]

theorem readSlot_acts {b slot : Nat} {r : Rec} {s : State} (hslot : fieldOf s (Reg.TILL_HREQ_SLOT b) 29 0 = slot) (hsize : s.vault.ftLog2 ≠ 0)
    (hin : slot < 2 ^ s.vault.ftLog2) (hown : slot / quarter s.vault = b)
    (hmerge : (s.chanAt (chanOf s.vault (ftRecord s.vault slot))).merge.find? (·.record = ftRecord s.vault slot) = none)
    (hdata : peekRecord s (ftRecord s.vault slot) = .data r) (t : State) (ht : t = readSlot b s) :
    (t.ledgerAt b).hreq.done = some { result := 0, where_ := 2, slot := some slot, data := some r } ∧ SameWays s t ∧
    (∀ a, peekRecord t a = peekRecord s a) ∧ t = { s with ledger := t.ledger, regs := t.regs, vault := t.vault } := by
  obtain ⟨hcell, hcells⟩ := readRecord_acts hmerge b .fill
  have hread : readSlot b s = hostDone b { result := 0, where_ := 2, slot := some slot, data := some r }
      (readRecord (ftRecord s.vault slot) b .fill s).2 := by
    have hbounds : ¬ (s.vault.ftLog2 = 0 ∨ 2 ^ s.vault.ftLog2 ≤ slot) := by
      rintro (hzero | hout)
      · exact hsize hzero
      · exact absurd hin (Nat.not_lt.2 hout)
    simp only [readSlot, hslot, hbounds, hown, hcell, hdata, ne_eq, not_true, if_false]
  rw [hread] at ht
  generalize (readRecord (ftRecord s.vault slot) b .fill s).2 = q at ht hcells
  unfold hostDone at ht
  subst ht
  refine ⟨?_, ?_, fun a => (peekRecord_of_vault rfl a).trans (hcells.peekRecord a), ?_⟩
  · rw [State.ledgerAt_modLedger_same]
  · exact (sameWays_of_ledger (by rw [hcells.rest])).trans (sameWays_modLedger (by exact fun _ => rfl) _ _)
  · rw [hcells.rest]
    rfl

theorem tillReadSlot_acts {b slot : Nat} {r : Rec} {s : State} (hidle : (s.ledgerAt b).hreq.busy = false) (hrun : s.loader.st = .run)
    (hslot : fieldOf s (Reg.TILL_HREQ_SLOT b) 29 0 = slot) (hsize : s.vault.ftLog2 ≠ 0)
    (hin : slot < 2 ^ s.vault.ftLog2) (hown : slot / quarter s.vault = b)
    (hmerge : (s.chanAt (chanOf s.vault (ftRecord s.vault slot))).merge.find? (·.record = ftRecord s.vault slot) = none)
    (hdata : peekRecord s (ftRecord s.vault slot) = .data r) (t : State) (ht : t = hostCommand b 6 0 s) :
    (t.ledgerAt b).hreq.done = some { result := 0, where_ := 2, slot := some slot, data := some r } ∧ SameWays s t ∧
    (∀ a, peekRecord t a = peekRecord s a) ∧ t = { s with ledger := t.ledger, regs := t.regs, vault := t.vault } := by
  obtain ⟨q, hq, hcmd⟩ := hostCommand_begins hidle hrun (m := 0) (op := 6) (by decide)
  have hvault : q.vault = s.vault := by rw [hq.rest]
  have hbegin : hostBegin b q = readSlot b q := by
    simp only [hostBegin, hq.op, OfNat.ofNat_ne_zero, Nat.lt_irrefl, or_self, if_false, if_true]
  rw [hcmd, hbegin] at ht
  rw [← hvault] at hsize hin hown hmerge hdata
  rw [← chanAt_of_vault hvault] at hmerge
  rw [← peekRecord_of_vault hvault] at hdata
  obtain ⟨hdone, hways, hpeek, hframe⟩ := readSlot_acts
    ((hq.fieldOf (by simp only [Reg.TILL_HREQ_CMD, Reg.TILL_HREQ_SLOT]; omega) 29 0).trans hslot) hsize hin hown hmerge hdata t ht
  refine ⟨hdone, hq.ways.trans hways, fun a => (hpeek a).trans (peekRecord_of_vault hvault a), ?_⟩
  rw [hframe, hq.rest]

/-! ### Publishing an answer -/

theorem fillHrec_frame (b : Nat) (r : Rec) (s : State) : fillHrec b r s = { s with regs := (fillHrec b r s).regs } := by
  unfold fillHrec
  refine foldl_keeps (P := fun t => t = { s with regs := t.regs }) _ (fun t i ht => ?_) _ rfl
  have hframe := setPair_frame (Reg.TILL_HREC_DATA b (2 * i)) (wordAt r i).toNat t
  generalize setPair (Reg.TILL_HREC_DATA b (2 * i)) (wordAt r i).toNat t = u at hframe ⊢
  rw [hframe, ht]

/-- The data and the slot of an answer, in their registers. -/
def answerData (b : Nat) (a : HostAnswer) (s : State) : State :=
  let s := match a.data with | some r => fillHrec b r s | none => s
  match a.slot with | some n => setField (Reg.TILL_HREQ_SLOT b) 29 0 n s | none => s

theorem answerData_frame (b : Nat) (a : HostAnswer) (s : State) : answerData b a s = { s with regs := (answerData b a s).regs } := by
  obtain ⟨_, _, slot, _, _, data⟩ := a
  cases data
  case none =>
    cases slot
    case none => rfl
    case some n => exact setField_frame (Reg.TILL_HREQ_SLOT b) 29 0 n s
  case some r =>
    have hfill := fillHrec_frame b r s
    cases slot
    case none => exact hfill
    case some n =>
      have hset := setField_frame (Reg.TILL_HREQ_SLOT b) 29 0 n (fillHrec b r s)
      change setField (Reg.TILL_HREQ_SLOT b) 29 0 n (fillHrec b r s) =
        { s with regs := (setField (Reg.TILL_HREQ_SLOT b) 29 0 n (fillHrec b r s)).regs }
      generalize setField (Reg.TILL_HREQ_SLOT b) 29 0 n (fillHrec b r s) = u at hset ⊢
      rw [hset, hfill]

/-- The word of TILL_HREQ_STATUS for an answer. -/
def statusWord (a : HostAnswer) : Word32 :=
  BitVec.ofNat 32 (a.result + 2 ^ 19 * b2n a.pinEff + 2 ^ 20 * b2n a.owner.isSome + 2 ^ 24 * a.where_)

theorem regRead_stamp_ne (a c p : Nat) (s : State) (h : a ≠ p) (h2 : c ≠ p) : regRead (stamp a c s) p = regRead s p := by
  rw [stamp, stampAt, regRead_store_ne _ _ _ _ h2, regRead_store_ne _ _ _ _ h]

/-- The other result registers of an answer. -/
def answerRegs (b : Nat) (h : Word64) (a : HostAnswer) (s : State) : State :=
  s |> regStore (Reg.TILL_HREQ_OWNER b) (match a.owner with | some (t, _) => BitVec.ofNat 32 (2 ^ 31 + t) | none => 0)
    |> setPair (Reg.TILL_HREQ_LOCKT_LO b) (match a.owner with | some (_, t) => t | none => 0)
    |> setPair (Reg.TILL_HREQ_HASH_LO b) h.toNat
    |> stamp (Reg.TILL_HREQ_DONE_SEC b) (Reg.TILL_HREQ_DONE_NS b)

theorem answerRegs_acts (b : Nat) (h : Word64) (a : HostAnswer) (s t : State) (ht : t = answerRegs b h a s) :
    regRead t (Reg.TILL_HREQ_STATUS b) = regRead s (Reg.TILL_HREQ_STATUS b) ∧ t = { s with regs := t.regs } := by
  unfold answerRegs at ht
  generalize (match a.owner with | some (t, _) => BitVec.ofNat 32 (2 ^ 31 + t) | none => (0 : Word32)) = v at ht
  have howner := regRead_store_ne (Reg.TILL_HREQ_OWNER b) (Reg.TILL_HREQ_STATUS b) v s (by simp only [Reg.TILL_HREQ_OWNER, Reg.TILL_HREQ_STATUS]; omega)
  have hf1 : regStore (Reg.TILL_HREQ_OWNER b) v s = { s with regs := (regStore (Reg.TILL_HREQ_OWNER b) v s).regs } := by rw [regStore]
  generalize regStore (Reg.TILL_HREQ_OWNER b) v s = p at ht howner hf1
  generalize (match a.owner with | some (_, t) => t | none => (0 : Nat)) = l at ht
  have hlock := regRead_setPair_ne (Reg.TILL_HREQ_LOCKT_LO b) l (Reg.TILL_HREQ_STATUS b) p
    (by simp only [Reg.TILL_HREQ_LOCKT_LO, Reg.TILL_HREQ_STATUS]; omega) (by simp only [Reg.TILL_HREQ_LOCKT_LO, Reg.TILL_HREQ_STATUS]; omega)
  have hf2 := setPair_frame (Reg.TILL_HREQ_LOCKT_LO b) l p
  generalize setPair (Reg.TILL_HREQ_LOCKT_LO b) l p = q at ht hlock hf2
  have hhash := regRead_setPair_ne (Reg.TILL_HREQ_HASH_LO b) h.toNat (Reg.TILL_HREQ_STATUS b) q
    (by simp only [Reg.TILL_HREQ_HASH_LO, Reg.TILL_HREQ_STATUS]; omega) (by simp only [Reg.TILL_HREQ_HASH_LO, Reg.TILL_HREQ_STATUS]; omega)
  have hf3 := setPair_frame (Reg.TILL_HREQ_HASH_LO b) h.toNat q
  generalize setPair (Reg.TILL_HREQ_HASH_LO b) h.toNat q = r at ht hhash hf3
  have hstamp := regRead_stamp_ne (Reg.TILL_HREQ_DONE_SEC b) (Reg.TILL_HREQ_DONE_NS b) (Reg.TILL_HREQ_STATUS b) r
    (by simp only [Reg.TILL_HREQ_DONE_SEC, Reg.TILL_HREQ_STATUS]; omega) (by simp only [Reg.TILL_HREQ_DONE_NS, Reg.TILL_HREQ_STATUS]; omega)
  have hf4 := stamp_frame (Reg.TILL_HREQ_DONE_SEC b) (Reg.TILL_HREQ_DONE_NS b) r
  rw [← ht] at hstamp hf4
  exact ⟨hstamp.trans (hhash.trans (hlock.trans howner)), by rw [hf4, hf3, hf2, hf1]⟩

/-- The state when an answer has been published. -/
def published (b : Nat) (a : HostAnswer) (s : State) : State :=
  (answerData b a s).modLedger b (fun l => { l with hreq := {} }) |> regStore (Reg.TILL_HREQ_STATUS b) (statusWord a)
    |> answerRegs b (stagedHash s b) a |> cause (Reg.TILL_IRQ_CAUSE b) 0

theorem hreqDone_eq {b : Nat} {a : HostAnswer} {s : State} (h : (s.ledgerAt b).hreq.done = some a) : hreqDone b s =
    match ((published b a s).ledgerAt b).miss.find? fun e => e.key = recKey (stagedRec s b) ∧ e.stage = .held with
    | some e => goOn b { e with stage := .reading false } false (published b a s)
    | none => published b a s := by
  rw [hreqDone, h]
  rfl

theorem published_acts (b : Nat) (a : HostAnswer) (s t : State) (ht : t = published b a s) :
    t.ledgerAt b = { s.ledgerAt b with hreq := {} } ∧ regRead t (Reg.TILL_HREQ_STATUS b) = statusWord a ∧
    flagOf t (Reg.TILL_IRQ_CAUSE b) 0 = true ∧ SameWays s t ∧ t = { s with ledger := t.ledger, regs := t.regs } := by
  have hdata := answerData_frame b a s
  unfold published at ht
  generalize answerData b a s = p at ht hdata
  have hledger : p.ledger = s.ledger := by rw [hdata]
  have hways : SameWays s (p.modLedger b fun l => { l with hreq := {} }) :=
    (sameWays_of_ledger hledger).trans (sameWays_modLedger (by exact fun _ => rfl) _ _)
  have hown : (p.modLedger b fun l => { l with hreq := {} }).ledgerAt b = { s.ledgerAt b with hreq := {} } := by
    rw [State.ledgerAt_modLedger_same, ledgerAt_of_ledger hledger]
  have hmod : (p.modLedger b fun l => { l with hreq := {} }) = { p with ledger := (p.modLedger b fun l => { l with hreq := {} }).ledger } := rfl
  generalize (p.modLedger b fun l => { l with hreq := {} }) = q at ht hways hown hmod
  have hstatus : regRead (regStore (Reg.TILL_HREQ_STATUS b) (statusWord a) q) (Reg.TILL_HREQ_STATUS b) = statusWord a := regRead_store_same ..
  have hstore : regStore (Reg.TILL_HREQ_STATUS b) (statusWord a) q = { q with regs := (regStore (Reg.TILL_HREQ_STATUS b) (statusWord a) q).regs } := by
    rw [regStore]
  generalize regStore (Reg.TILL_HREQ_STATUS b) (statusWord a) q = r at ht hstatus hstore
  obtain ⟨hread, hregs⟩ := answerRegs_acts b (stagedHash s b) a r _ rfl
  generalize answerRegs b (stagedHash s b) a r = u at ht hread hregs
  have hend : u.ledger = q.ledger := by rw [hregs, hstore]
  have hlast : t.ledger = q.ledger := by rw [ht, cause_ledger, hend]
  refine ⟨(ledgerAt_of_ledger hlast b).trans hown, ?_, ?_, hways.trans (sameWays_of_ledger hlast), ?_⟩
  · rw [ht, regRead_cause_ne _ _ _ _ (by simp only [Reg.TILL_IRQ_CAUSE, Reg.TILL_HREQ_STATUS]; omega), hread, hstatus]
  · rw [ht]
    exact flagOf_cause_same _ _ _ (by decide)
  · have hcause := cause_frame (Reg.TILL_IRQ_CAUSE b) 0 u
    rw [← ht] at hcause
    rw [hcause, hregs, hstore, hmod, hdata]

theorem hreqDone_acts {b : Nat} {a : HostAnswer} {s : State} (hdone : (s.ledgerAt b).hreq.done = some a)
    (hnone : ∀ e ∈ (s.ledgerAt b).miss, ¬ (e.key = recKey (stagedRec s b) ∧ e.stage = .held)) : hreqDone b s = published b a s := by
  obtain ⟨hledger, -⟩ := published_acts b a s _ rfl
  have hfind : ((published b a s).ledgerAt b).miss.find? (fun e => e.key = recKey (stagedRec s b) ∧ e.stage = .held) = none := by
    rw [hledger]
    exact List.find?_eq_none.2 fun e he => by
      rw [decide_eq_true_iff]
      exact hnone e he
  rw [hreqDone_eq hdone, hfind]

theorem hreqDone_none {b : Nat} {s : State} (h : (s.ledgerAt b).hreq.done = none) : hreqDone b s = s := by
  rw [hreqDone, h]

end Sys2Proof.Machine
end


section
/-!
PROOFS. The probe stage and the miss queue of a Till slice: misses, candidate reads, fills and their time-outs (R103, R107, R131, R135 to R137),
and what the Till commands leave (O60).
-/
namespace Sys2Proof.Machine

/-! ### Entries of the miss queue -/

theorem find_updFirst_id {l : List MissEntry} {id : Nat} {e x : MissEntry} (he : l.find? (·.id = id) = some x) (hid : e.id = id) :
    (updFirst (fun y => y.id == id) (fun _ => e) l).find? (·.id = id) = some e := by
  induction l with
  | nil => cases he
  | cons a l ih =>
    by_cases ha : a.id = id
    · rw [updFirst, if_pos (beq_iff_eq.2 ha)]
      exact List.find?_cons_of_pos (p := fun y : MissEntry => Decidable.decide (y.id = id)) (decide_eq_true hid)
    · rw [updFirst, if_neg (fun h => ha (beq_iff_eq.1 h)), List.find?_cons_of_neg (by rwa [decide_eq_true_iff])]
      rw [List.find?_cons_of_neg (by rwa [decide_eq_true_iff])] at he
      exact ih he

theorem entryAt_id {s : State} {b id : Nat} {e : MissEntry} (h : entryAt s b id = some e) : e.id = id :=
  of_decide_eq_true (List.find?_some (p := fun y : MissEntry => Decidable.decide (y.id = id)) h)

theorem entryAt_of_ledger {s t : State} (h : t.ledger = s.ledger) (b id : Nat) : entryAt t b id = entryAt s b id := by
  rw [entryAt, ledgerAt_of_ledger h, entryAt]

theorem entryAt_putEntry {s : State} {b id : Nat} {x e : MissEntry} (hx : entryAt s b id = some x) (hid : e.id = id) :
    entryAt (putEntry b e s) b id = some e := by
  have hany : (s.ledgerAt b).miss.any (·.id = e.id) = true :=
    List.any_eq_true.2 ⟨x, List.mem_of_find?_eq_some hx, decide_eq_true ((entryAt_id hx).trans hid.symm)⟩
  rw [entryAt, putEntry, State.ledgerAt_modLedger_same]
  dsimp only
  rw [if_pos hany, hid]
  exact find_updFirst_id hx hid

theorem putEntry_frame (b : Nat) (e : MissEntry) (s : State) : putEntry b e s = { s with ledger := (putEntry b e s).ledger } := rfl

theorem sameWays_putEntry (b : Nat) (e : MissEntry) (s : State) : SameWays s (putEntry b e s) := sameWays_modLedger (by exact fun _ => rfl) _ _

theorem putEntry_new {b : Nat} {e : MissEntry} {s : State} (h : ∀ x ∈ (s.ledgerAt b).miss, x.id ≠ e.id) :
    (putEntry b e s).ledgerAt b = { s.ledgerAt b with miss := (s.ledgerAt b).miss ++ [e] } := by
  have hany : (s.ledgerAt b).miss.any (·.id = e.id) = false :=
    List.any_eq_false.2 fun x hx => by
      rw [decide_eq_true_iff]
      exact h x hx
  rw [putEntry, State.ledgerAt_modLedger_same, hany]
  rfl

theorem noteQueue_frame (b : Nat) (s : State) : noteQueue b s = { s with regs := (noteQueue b s).regs } := by
  unfold noteQueue
  dsimp only
  have hlen := peak_frame (Reg.TILL_FT_MQ_PEAK b) 31 17 (s.ledgerAt b).miss.length s
  generalize peak (Reg.TILL_FT_MQ_PEAK b) 31 17 (s.ledgerAt b).miss.length s = t at hlen ⊢
  have hheld := peak_frame (Reg.TILL_FT_MQ_PEAK b) 16 0 (descsHeld (s.ledgerAt b)) t
  generalize peak (Reg.TILL_FT_MQ_PEAK b) 16 0 (descsHeld (s.ledgerAt b)) t = u at hheld ⊢
  rw [hheld, hlen]

/-- The entry that a waiter with no entry of its key starts (R135). -/
def newEntry (l : Ledger) (hash : Word64) (key : Ckey) (w : Waiter) : MissEntry := { id := l.nextMiss, key := key, hash := hash, waiters := [w] }

theorem attach_new {b : Nat} {hash : Word64} {key : Ckey} {w : Waiter} {s : State} (hheld : descsHeld (s.ledgerAt b) < 65536)
    (hkey : ∀ e ∈ (s.ledgerAt b).miss, e.key ≠ key) (hroom : (s.ledgerAt b).miss.length < 16384)
    (hids : ∀ e ∈ (s.ledgerAt b).miss, e.id ≠ (s.ledgerAt b).nextMiss) (hpacket : isPacket w = true) :
    ∃ t, attach b hash key w s = some t ∧
      t.ledgerAt b = { s.ledgerAt b with miss := (s.ledgerAt b).miss ++ [newEntry (s.ledgerAt b) hash key w], nextMiss := (s.ledgerAt b).nextMiss + 1 } ∧
      t = { s with ledger := t.ledger, regs := t.regs } := by
  have hfind : (s.ledgerAt b).miss.find? (·.key = key) = none := List.find?_eq_none.2 fun e he => by
    rw [decide_eq_true_iff]
    exact hkey e he
  have hattach : attach b hash key w s = some (noteQueue b (putEntry b (newEntry (s.ledgerAt b) hash key w)
      (s.modLedger b fun l => { l with nextMiss := l.nextMiss + 1 }))) := by
    simp only [attach, if_neg (Nat.not_le.2 hheld), hfind, if_neg (Nat.not_le.2 hroom), hpacket, if_true]
    rfl
  refine ⟨_, hattach, ?_, ?_⟩
  · have hown : (s.modLedger b fun l => { l with nextMiss := l.nextMiss + 1 }).ledgerAt b = { s.ledgerAt b with nextMiss := (s.ledgerAt b).nextMiss + 1 } :=
      State.ledgerAt_modLedger_same ..
    have hids' : ∀ x ∈ ((s.modLedger b fun l => { l with nextMiss := l.nextMiss + 1 }).ledgerAt b).miss, x.id ≠ (newEntry (s.ledgerAt b) hash key w).id := by
      rw [hown]
      exact hids
    have hput := putEntry_new hids'
    rw [hown] at hput
    generalize putEntry b (newEntry (s.ledgerAt b) hash key w) (s.modLedger b fun l => { l with nextMiss := l.nextMiss + 1 }) = p at hput ⊢
    rw [ledgerAt_of_ledger (show (noteQueue b p).ledger = p.ledger by rw [noteQueue_frame]), hput]
  · have hput : putEntry b (newEntry (s.ledgerAt b) hash key w) (s.modLedger b fun l => { l with nextMiss := l.nextMiss + 1 }) = { s with ledger :=
        (putEntry b (newEntry (s.ledgerAt b) hash key w) (s.modLedger b fun l => { l with nextMiss := l.nextMiss + 1 })).ledger } := rfl
    generalize putEntry b (newEntry (s.ledgerAt b) hash key w) (s.modLedger b fun l => { l with nextMiss := l.nextMiss + 1 }) = p at hput ⊢
    rw [noteQueue_frame, hput]

theorem modFrame_swc (f : Nat) (g : Frame → Frame) (s : State) : modFrame f g s = { s with swc := (modFrame f g s).swc } := by
  unfold modFrame
  split <;> rfl

/-! ### Probes -/

theorem probeRead_held {b : Nat} {flips : List WordFlips} {s : State} (h : (s.ledgerAt b).heldItems ≠ []) : probeRead b flips s = s := by
  refine if_neg ?_
  rw [List.isEmpty_eq_false_iff.2 h, Bool.and_false]
  exact Bool.false_ne_true

theorem probeRead_missing {b : Nat} {flips : List WordFlips} {s : State} (h : probeOpen s b = false ∨ (probeNext s b).bind (fun d => probe s b d.hash d.ckey) = none) :
    probeRead b flips s = s := by
  unfold probeRead
  split
  case isTrue hopen =>
    rcases h with hshut | hnone
    · rw [hshut, Bool.false_and] at hopen
      cases hopen
    · rw [hnone]
  case isFalse => rfl

/-- A held item enters the list (R189). -/
theorem tillProbe_held {b : Nat} {d : Desc} {a : Word64} {rest : List (Desc × Word64)} {s : State} (hheld : (s.ledgerAt b).heldItems = (d, a) :: rest)
    (hplace : placeFree s b (actionPrio s a) = true) (hfree : hashBusy s b d.hash = false) :
    tillProbe b s = addItem b (packetItem s b d a none false false) (s.setLedger b { s.ledgerAt b with heldItems := rest }) := by
  have hadd : addStateless b d a false (s.setLedger b { s.ledgerAt b with heldItems := rest }) =
      addItem b (packetItem s b d a none false false) (s.setLedger b { s.ledgerAt b with heldItems := rest }) :=
    if_neg (by rw [show hashBusy (s.setLedger b { s.ledgerAt b with heldItems := rest }) b d.hash = false from hfree]; decide)
  simp only [tillProbe, hheld, hplace, if_true]
  exact hadd

theorem tillProbe_held_acts {b : Nat} {d : Desc} {a : Word64} {rest : List (Desc × Word64)} {s : State} (hheld : (s.ledgerAt b).heldItems = (d, a) :: rest)
    (hnew : d.entered = none) (hplace : placeFree s b (actionPrio s a) = true) (hfree : hashBusy s b d.hash = false) (t : State) (ht : t = tillProbe b s) :
    (t.ledgerAt b).heldItems = rest ∧
    (∃ i, (t.dispAt b).items = (s.dispAt b).items ++ [i] ∧ i.desc = some d ∧ i.g3 = a ∧ i.g1 = d.hash ∧ i.st = .ready ∧ i.prio = actionPrio s a ∧ i.way = none) ∧
    t = { s with ledger := t.ledger, disp := t.disp, regs := t.regs } := by
  rw [tillProbe_held hheld hplace hfree] at ht
  have hset : (s.setLedger b { s.ledgerAt b with heldItems := rest }).ledgerAt b = { s.ledgerAt b with heldItems := rest } := State.ledgerAt_setLedger_same ..
  have hdisp : (s.setLedger b { s.ledgerAt b with heldItems := rest }).dispAt b = s.dispAt b := rfl
  have hkept : s.setLedger b { s.ledgerAt b with heldItems := rest } =
      { s with ledger := (s.setLedger b { s.ledgerAt b with heldItems := rest }).ledger } := rfl
  generalize s.setLedger b { s.ledgerAt b with heldItems := rest } = q at ht hset hdisp hkept
  obtain ⟨hitems, -, hframe⟩ := addItem_acts (i := packetItem s b d a none false false) hnew b q t ht
  refine ⟨?_, ⟨_, by rw [hitems, hdisp], rfl, rfl, rfl, rfl, rfl, rfl⟩, by rw [hframe, hkept]⟩
  rw [ledgerAt_of_ledger (show t.ledger = q.ledger by rw [hframe]), hset]

theorem tillProbe_idle {b : Nat} {s : State} (hheld : (s.ledgerAt b).heldItems = [])
    (h : probeOpen s b = false ∨ ((s.ledgerAt b).stalled = none ∧ takeInput s b = none)) : tillProbe b s = s := by
  rcases h with hshut | ⟨hnone, hinput⟩
  · cases hstalled : (s.ledgerAt b).stalled <;>
      simp only [tillProbe, hheld, hstalled, hshut, Bool.false_eq_true, if_false]
  · simp only [tillProbe, hheld, hnone, hinput, ite_self]

theorem probe_of_ways {s t : State} {b : Nat} (h : (t.ledgerAt b).ways = (s.ledgerAt b).ways) (hash : Word64) (key : Ckey) :
    probe t b hash key = probe s b hash key := by
  rw [probe, setWays, h, probe, setWays]

/-- The packet taken from input i of the Exchange. -/
def takenFrom (b i : Nat) (s : State) : State :=
  s |> (·.modAssay i fun a => { a with out := Tbl.set a.out b [] ((Tbl.get a.out b []).drop 1) })
    |> (·.modLedger b fun l => { l with last := i }) |> perf (uBranch b) 0x04

theorem takenFrom_acts (b i : Nat) (s t : State) (ht : t = takenFrom b i s) :
    t.ledgerAt b = { s.ledgerAt b with last := i } ∧ Tbl.get (t.assayAt i).out b [] = (Tbl.get (s.assayAt i).out b []).drop 1 ∧
    t = { s with ledger := t.ledger, assay := t.assay, regs := t.regs } := by
  unfold takenFrom at ht
  dsimp only at ht
  have hout : Tbl.get ((s.modAssay i fun a => { a with out := Tbl.set a.out b [] ((Tbl.get a.out b []).drop 1) }).assayAt i).out b [] =
      (Tbl.get (s.assayAt i).out b []).drop 1 := by
    rw [State.assayAt_modAssay_same]
    exact Tbl.get_set_same ..
  have hassay : (s.modAssay i fun a => { a with out := Tbl.set a.out b [] ((Tbl.get a.out b []).drop 1) }) =
      { s with assay := (s.modAssay i fun a => { a with out := Tbl.set a.out b [] ((Tbl.get a.out b []).drop 1) }).assay } := rfl
  generalize s.modAssay i (fun a => { a with out := Tbl.set a.out b [] ((Tbl.get a.out b []).drop 1) }) = p at ht hout hassay
  have hlast : (p.modLedger b fun l => { l with last := i }).ledgerAt b = { p.ledgerAt b with last := i } := State.ledgerAt_modLedger_same ..
  have hkept : (p.modLedger b fun l => { l with last := i }) = { p with ledger := (p.modLedger b fun l => { l with last := i }).ledger } := rfl
  generalize (p.modLedger b fun l => { l with last := i }) = q at ht hlast hkept
  have hregs := perf_frame (uBranch b) 0x04 q
  rw [← ht] at hregs
  refine ⟨?_, ?_, by rw [hregs, hkept, hassay]⟩
  · rw [ledgerAt_of_ledger (show t.ledger = q.ledger by rw [hregs]), hlast, ledgerAt_of_ledger (show p.ledger = s.ledger by rw [hassay])]
  · rw [assayAt_of_assay (show t.assay = p.assay by rw [hregs, hkept]), hout]

/-- A packet that misses and starts an entry (R103, R135). -/
theorem missPacket_acts {b : Nat} {d : Desc} {s : State} (hheld : descsHeld (s.ledgerAt b) < 65536)
    (hkey : ∀ e ∈ (s.ledgerAt b).miss, e.key ≠ d.ckey) (hroom : (s.ledgerAt b).miss.length < 16384)
    (hids : ∀ e ∈ (s.ledgerAt b).miss, e.id ≠ (s.ledgerAt b).nextMiss) (t : State) (ht : t = missPacket b d s) :
    t.ledgerAt b = { s.ledgerAt b with
      miss := (s.ledgerAt b).miss ++ [newEntry (s.ledgerAt b) d.hash d.ckey (.packet { d with waited := true, entered := none } s.time.tick)]
      nextMiss := (s.ledgerAt b).nextMiss + 1 } ∧
    t = { s with ledger := t.ledger, swc := t.swc, regs := t.regs } := by
  have hcount := bump64_frame (Reg.TILL_MISS_CNT_LO b) 1 s
  unfold missPacket at ht
  generalize bump64 (Reg.TILL_MISS_CNT_LO b) 1 s = p at ht hcount
  have hperf := perf_frame (uTill b) 0x02 p
  generalize perf (uTill b) 0x02 p = q at ht hperf
  have hown : q.ledgerAt b = s.ledgerAt b := ledgerAt_of_ledger (by rw [hperf, hcount]) b
  have htime : q.time = s.time := by rw [hperf, hcount]
  rw [← hown, ← htime]
  rw [← hown] at hheld hkey hroom hids
  obtain ⟨r, hattach, hledger, hframe⟩ := attach_new (w := .packet { d with waited := true, entered := none } q.time.tick) (hash := d.hash) hheld hkey hroom hids rfl
  have hjoin : t = modFrame d.frame (fun x => { x with waited := true }) r := by
    rw [ht, joinMiss, hattach]
  have hswc := modFrame_swc d.frame (fun x => { x with waited := true }) r
  rw [← hjoin] at hswc
  refine ⟨?_, by rw [hswc, hframe, hperf, hcount]⟩
  rw [ledgerAt_of_ledger (show t.ledger = r.ledger by rw [hswc]), hledger]

theorem tillProbe_miss {b i : Nat} {d : Desc} {s : State} (hheld : (s.ledgerAt b).heldItems = []) (hnone : (s.ledgerAt b).stalled = none)
    (hopen : probeOpen s b = true) (hinput : takeInput s b = some (i, d)) (hmiss : probe s b d.hash d.ckey = none) :
    tillProbe b s = missPacket b d (takenFrom b i s) := by
  have hstill : probe (takenFrom b i s) b d.hash d.ckey = none :=
    (probe_of_ways (by rw [(takenFrom_acts b i s _ rfl).1]) _ _).trans hmiss
  have hprobe : tillProbe b s = probeDesc b d (takenFrom b i s) := by
    simp only [tillProbe, hheld, hnone, hopen, hinput, if_true]
    rfl
  rw [hprobe, probeDesc, hstill]

theorem tillProbe_miss_acts {b i : Nat} {d : Desc} {s : State} (hheld : (s.ledgerAt b).heldItems = []) (hnone : (s.ledgerAt b).stalled = none)
    (hopen : probeOpen s b = true) (hinput : takeInput s b = some (i, d)) (hmiss : probe s b d.hash d.ckey = none)
    (hdescs : descsHeld (s.ledgerAt b) < 65536) (hkey : ∀ e ∈ (s.ledgerAt b).miss, e.key ≠ d.ckey) (hroom : (s.ledgerAt b).miss.length < 16384)
    (hids : ∀ e ∈ (s.ledgerAt b).miss, e.id ≠ (s.ledgerAt b).nextMiss) (t : State) (ht : t = tillProbe b s) :
    (t.ledgerAt b).miss = (s.ledgerAt b).miss ++
      [newEntry (s.ledgerAt b) d.hash d.ckey (.packet { d with waited := true, entered := none } s.time.tick)] ∧
    (t.ledgerAt b).nextMiss = (s.ledgerAt b).nextMiss + 1 ∧ (t.ledgerAt b).last = i ∧ (t.ledgerAt b).ways = (s.ledgerAt b).ways ∧
    Tbl.get (t.assayAt i).out b [] = (Tbl.get (s.assayAt i).out b []).drop 1 ∧
    t = { s with ledger := t.ledger, assay := t.assay, swc := t.swc, regs := t.regs } := by
  rw [tillProbe_miss hheld hnone hopen hinput hmiss] at ht
  obtain ⟨hledger, hout, hframe⟩ := takenFrom_acts b i s _ rfl
  generalize takenFrom b i s = q at ht hledger hout hframe
  have htime : q.time = s.time := by rw [hframe]
  obtain ⟨hown, hrest⟩ := missPacket_acts (s := q) (d := d) (b := b) (by rwa [hledger]) (by rwa [hledger]) (by rwa [hledger]) (by rwa [hledger]) t ht
  rw [hledger, htime] at hown
  rw [hown]
  refine ⟨rfl, rfl, rfl, rfl, ?_, by rw [hrest, hframe]⟩
  rw [assayAt_of_assay (show t.assay = q.assay by rw [hrest]), hout]

/-! ### Candidates -/

theorem candidateDone_eq {b id : Nat} {e : MissEntry} {s : State} (he : entryAt s b id = some e) (hready : vaultReady s e.hash = true)
    (hturn : candidateTurn s e = true) : candidateDone b id s = candidateRead b id false s := by
  simp only [candidateDone, he, hready, hturn, Bool.and_self, if_true]

theorem candidateDone_waits {b id : Nat} {s : State} (h : ∀ e, entryAt s b id = some e → vaultReady s e.hash = false ∨ candidateTurn s e = false) :
    candidateDone b id s = s := by
  unfold candidateDone
  split
  · next e he =>
    refine if_neg ?_
    rcases h e he with hno | hno
    · rw [hno, Bool.false_and]
      decide
    · rw [hno, Bool.and_false]
      decide
  · rfl

theorem candidateRead_guarded {b id : Nat} {e : MissEntry} {second : Bool} {s : State} (he : entryAt s b id = some e) (hstage : e.stage = .reading second)
    (hguard : keyGuarded s b e.key = true) : candidateRead b id false s = putEntry b { e with stage := .guarded } s := by
  simp only [candidateRead, he, hstage, hguard, if_true]

/-- A candidate of another key leads to the second (R107). -/
theorem candidateRead_other {b id : Nat} {e : MissEntry} {r : Rec} {s : State} (he : entryAt s b id = some e) (hstage : e.stage = .reading false)
    (hguard : keyGuarded s b e.key = false) (hboth : searchesBoth e = false) (hmiss : probe s b e.hash e.key = none)
    (hmerge : (s.chanAt (chanOf s.vault (ftRecord s.vault (cands s e.hash).1))).merge.find? (·.record = ftRecord s.vault (cands s e.hash).1) = none)
    (hdata : peekRecord s (ftRecord s.vault (cands s e.hash).1) = .data r) (hother : recKey r ≠ e.key) :
    candidateRead b id false s =
      putEntry b { e with stage := .reading true } (readRecord (ftRecord s.vault (cands s e.hash).1) b .fill s).2 := by
  have hcell := (readRecord_acts hmerge b .fill).1.trans hdata
  have htest : ∀ t, testSlot b (cands s e.hash).1 .fill e.hash e.key t s = (.other, (readRecord (ftRecord s.vault (cands s e.hash).1) b .fill s).2) := fun t => by
    simp only [testSlot, hcell]
    exact if_pos (Or.inr (Or.inl hother))
  simp only [candidateRead, he, hstage, hguard, hboth, hmiss, htest, Bool.false_eq_true, if_false, Option.isSome_none, Bool.or_self]
  rfl

theorem candidateRead_other_acts {b id : Nat} {e : MissEntry} {r : Rec} {s : State} (he : entryAt s b id = some e) (hstage : e.stage = .reading false)
    (hguard : keyGuarded s b e.key = false) (hboth : searchesBoth e = false) (hmiss : probe s b e.hash e.key = none)
    (hmerge : (s.chanAt (chanOf s.vault (ftRecord s.vault (cands s e.hash).1))).merge.find? (·.record = ftRecord s.vault (cands s e.hash).1) = none)
    (hdata : peekRecord s (ftRecord s.vault (cands s e.hash).1) = .data r) (hother : recKey r ≠ e.key) (t : State) (ht : t = candidateRead b id false s) :
    entryAt t b id = some { e with stage := .reading true } ∧ (∀ a, peekRecord t a = peekRecord s a) ∧
    t = { s with ledger := t.ledger, regs := t.regs, vault := t.vault } := by
  rw [candidateRead_other he hstage hguard hboth hmiss hmerge hdata hother] at ht
  have hcells := (readRecord_acts hmerge b .fill).2
  generalize (readRecord (ftRecord s.vault (cands s e.hash).1) b .fill s).2 = q at ht hcells
  have hentry : entryAt q b id = some e := (entryAt_of_ledger (by rw [hcells.rest]) b id).trans he
  subst ht
  refine ⟨entryAt_putEntry hentry (show e.id = id from entryAt_id he), fun a => (peekRecord_of_vault rfl a).trans (hcells.peekRecord a), ?_⟩
  rw [putEntry_frame, hcells.rest]

/-! ### Retries and time-outs -/

theorem fillRetry_freed {b id : Nat} {e : MissEntry} {s : State} (he : entryAt s b id = some e) (hstage : e.stage = .guarded)
    (hfree : keyGuarded s b e.key = false) : fillRetry b id s = putEntry b { e with stage := .reading false } s := by
  simp only [fillRetry, he, hstage, hfree, Bool.false_eq_true, if_false]

theorem fillRetry_waits {b id : Nat} {s : State} (h : ∀ e, entryAt s b id = some e →
      (e.stage = .guarded ∧ keyGuarded s b e.key = true) ∨ e.stage = .held ∨ (∃ k, e.stage = .reading k)) : fillRetry b id s = s := by
  unfold fillRetry
  split
  · rfl
  · next e he =>
    rcases h e he with ⟨hstage, hguard⟩ | hstage | ⟨k, hstage⟩
    · simp only [hstage, hguard, if_true]
    · simp only [hstage]
    · simp only [hstage]

/-- A packet past its miss wait leaves its entry (R137). -/
def leftEntry (frame : Nat) (e : MissEntry) : MissEntry := { e with waiters := delFirst (waitsOn frame) e.waiters }

/-- The state when a packet's miss wait has ended and it has left its entry. -/
def waitEnded (b frame : Nat) (e : MissEntry) (s : State) : State :=
  s |> bump (Reg.TILL_FT_MISS_TMO_CNT b) |> cause (Reg.TILL_FT_IRQ_CAUSE b) 0 |> perf (uTill b) 0x08 |> putEntry b (leftEntry frame e)

/-- What a time-out of a packet does with its entry. -/
def timedOut (b frame : Nat) (e : MissEntry) (s : State) : State :=
  match e.waiters.find? (waitsOn frame) with
  | some (.packet d t) =>
    if (probe s b e.hash e.key).isNone ∧ us (max 1 (fieldOf s (portAct d) 25 16)) < since s t then
      s |> bump (Reg.TILL_FT_MISS_TMO_CNT b) |> cause (Reg.TILL_FT_IRQ_CAUSE b) 0 |> perf (uTill b) 0x08
        |> afterLeave b (leftEntry frame e) |> overflowAct b DROP_MISS_TIMEOUT d
    else s
  | _ => s

theorem missTimeout_some {b id frame : Nat} {e : MissEntry} {s : State} (he : entryAt s b id = some e) :
    missTimeout b id frame s = timedOut b frame e s := by
  rw [missTimeout, he]
  rfl

theorem missTimeout_none {b id frame : Nat} {s : State} (he : entryAt s b id = none) : missTimeout b id frame s = s := by
  rw [missTimeout, he]

theorem missTimeout_eq {b id frame : Nat} {e : MissEntry} {d : Desc} {t : Nat} {s : State} (he : entryAt s b id = some e)
    (hwaits : e.waiters.find? (waitsOn frame) = some (.packet d t)) (hmiss : probe s b e.hash e.key = none)
    (hlong : us (max 1 (fieldOf s (portAct d) 25 16)) < since s t) (hnone : e.setup = none) :
    missTimeout b id frame s = overflowAct b DROP_MISS_TIMEOUT d (waitEnded b frame e s) := by
  have hstays : (leftEntry frame e).setup.isNone = true := by rw [leftEntry, hnone]; rfl
  rw [missTimeout_some he]
  simp only [timedOut, hwaits, hmiss, hlong, Option.isNone_none, and_self, if_true, afterLeave, hstays]
  rfl

theorem waitEnded_acts {b id frame : Nat} {e : MissEntry} {s : State} (he : entryAt s b id = some e) (t : State) (ht : t = waitEnded b frame e s) :
    entryAt t b id = some (leftEntry frame e) ∧ flagOf t (Reg.TILL_FT_IRQ_CAUSE b) 0 = true ∧ t = { s with ledger := t.ledger, regs := t.regs } := by
  unfold waitEnded at ht
  have hcount := bump_frame (Reg.TILL_FT_MISS_TMO_CNT b) s
  generalize bump (Reg.TILL_FT_MISS_TMO_CNT b) s = p at ht hcount
  have hflag := flagOf_cause_same (Reg.TILL_FT_IRQ_CAUSE b) 0 p (by decide)
  have hcause := cause_frame (Reg.TILL_FT_IRQ_CAUSE b) 0 p
  generalize cause (Reg.TILL_FT_IRQ_CAUSE b) 0 p = q at ht hflag hcause
  have hkeep := flagOf_perf_ne (uTill b) 0x08 (Reg.TILL_FT_IRQ_CAUSE b) 0 q (fun k hk => by
    simp only [uTill, Reg.PERF_CNT_LO, Reg.TILL_FT_IRQ_CAUSE]; omega) (by simp only [uTill, Reg.PERF_UNIT_CTRL, Reg.TILL_FT_IRQ_CAUSE]; omega)
    (by simp only [Reg.PERF_IRQ_CAUSE, Reg.TILL_FT_IRQ_CAUSE]; omega)
  have hperf := perf_frame (uTill b) 0x08 q
  generalize perf (uTill b) 0x08 q = r at ht hkeep hperf
  have hentry : entryAt r b id = some e := (entryAt_of_ledger (show r.ledger = s.ledger by rw [hperf, hcause, hcount]) b id).trans he
  subst ht
  refine ⟨entryAt_putEntry hentry (show e.id = id from entryAt_id he), hkeep.trans hflag, ?_⟩
  rw [putEntry_frame, hperf, hcause, hcount]

theorem missTimeout_waits {b id frame : Nat} {s : State} (h : ∀ e, entryAt s b id = some e →
      (∀ w ∈ e.waiters, ∀ d t, w = .packet d t → d.frame ≠ frame) ∨ (probe s b e.hash e.key).isSome = true) : missTimeout b id frame s = s := by
  cases he : entryAt s b id
  case none => exact missTimeout_none he
  case some e =>
    rw [missTimeout_some he, timedOut]
    split
    · next d t hfind =>
      rcases h e he with hnone | hthere
      · have hframe : waitsOn frame (.packet d t) = true := List.find?_some hfind
        exact absurd (beq_iff_eq.1 hframe) (hnone _ (List.mem_of_find?_eq_some hfind) d t rfl)
      · refine if_neg fun hboth => ?_
        rw [Option.isNone_iff_eq_none] at hboth
        rw [hboth.1] at hthere
        cases hthere
    · rfl

/-! ### O60 -/

/-- Settles O60: each Till command by the lemma of what it does. -/
theorem tillCommandsAct : Obligations.TillCommandsAct := by
  unfold Obligations.TillCommandsAct
  refine ⟨?_, ?_, ?_, ?_, ?_, ?_, ?_, ?_, ?_, ?_, ?_, ?_, ?_, ?_, ?_, ?_, ?_, ?_, ?_, ?_, ?_, ?_, ?_, ?_, ?_, ?_, ?_, ?_, ?_, ?_⟩
  · intro b flips d a rest s hheld hnew hplace hfree
    have hread : probeRead b.val flips s = s := probeRead_held (by rw [hheld]; exact List.cons_ne_nil _ _)
    exact ⟨_, congrArg (fun u => Host.Outcome.next (tillProbe b.val u)) hread, tillProbe_held_acts hheld hnew hplace hfree _ rfl⟩
  · intro b flips s hheld hidle
    have hread : probeRead b.val flips s = s := probeRead_missing (hidle.imp_right fun ⟨hnone, hinput⟩ => by
      simp only [probeNext, hnone, hinput, Option.map_none, Option.bind_none])
    exact congrArg Host.Outcome.next ((congrArg (tillProbe b.val) hread).trans (tillProbe_idle hheld hidle))
  · intro b flips i d s hheld hnone hopen hinput hmiss hdescs hkey hroom hids
    have hread : probeRead b.val flips s = s := probeRead_missing (Or.inr (by
      simp only [probeNext, hnone, hinput, Option.map_some, Option.bind_some, hmiss]))
    exact ⟨_, congrArg (fun u => Host.Outcome.next (tillProbe b.val u)) hread,
      tillProbe_miss_acts hheld hnone hopen hinput hmiss hdescs hkey hroom hids _ rfl⟩
  · intro b entry e second s he hstage hready hturn hguard
    exact ⟨_, congrArg Host.Outcome.next ((candidateDone_eq he hready hturn).trans (candidateRead_guarded he hstage hguard)),
      entryAt_putEntry he (show e.id = entry from entryAt_id he), putEntry_frame ..⟩
  · intro b entry e r s he hstage hready hturn hguard hboth hmiss hmerge hdata hother
    exact ⟨_, congrArg Host.Outcome.next (candidateDone_eq he hready hturn),
      candidateRead_other_acts he hstage hguard hboth hmiss hmerge hdata hother _ rfl⟩
  · intro b entry s hwaits
    exact congrArg Host.Outcome.next (candidateDone_waits hwaits)
  · intro b entry e s he hstage hfree
    exact ⟨_, congrArg Host.Outcome.next (fillRetry_freed he hstage hfree), entryAt_putEntry he (show e.id = entry from entryAt_id he), putEntry_frame ..⟩
  · intro b entry s hwaits
    exact congrArg Host.Outcome.next (fillRetry_waits hwaits)
  · intro v s hopen
    exact ⟨_, congrArg Host.Outcome.next (gated_open hopen _), occLimitWrite_acts v s _ rfl⟩
  · intro b v s hopen
    obtain ⟨hfield, htokens, hat, hways, hframe⟩ := setupBurstWrite_acts b.val v s _ rfl
    exact ⟨_, congrArg Host.Outcome.next (gated_open hopen _), hfield, htokens, hat, hways b.val, hframe⟩
  · intro b entry frame e d t s he hwaits hmiss hlong hnone
    exact ⟨_, congrArg Host.Outcome.next (missTimeout_eq he hwaits hmiss hlong hnone), _, rfl, waitEnded_acts he _ rfl⟩
  · intro b entry frame s hwaits
    exact congrArg Host.Outcome.next (missTimeout_waits hwaits)
  · intro b way w s hway hon hlong hdirty hdurable
    obtain ⟨hback, hothers, hcopy⟩ := durableExpiry_acts hway hon hlong hdirty hdurable
    exact ⟨_, rfl, hback, hothers, hcopy⟩
  · intro b way s hearly
    exact congrArg Host.Outcome.next (durableExpiry_early hearly)
  · intro b v s hopen hstart hnone
    obtain ⟨hflush, hdurable, hways, hfield, hframe⟩ := flushStart_acts hstart hnone _ rfl
    exact ⟨_, congrArg Host.Outcome.next (gated_open hopen _), hflush, hdurable, hways b.val, hfield, hframe⟩
  · intro b v s hopen hidle
    exact ⟨_, congrArg Host.Outcome.next (gated_open hopen _), flushStart_idle hidle _ rfl⟩
  · intro b k w s hruns hleft hway hdirty
    obtain ⟨hnone, ⟨hback, hothers, hcopy⟩, hcause⟩ := flushDone_one hruns hleft hway hdirty _ rfl
    exact ⟨_, rfl, hnone, hback, hothers, hcopy, hcause⟩
  · intro b s hnone
    exact congrArg Host.Outcome.next (flushDone_none hnone)
  · intro b s hruns hleft
    have hdone : flushDone b.val s = flushEnds b.val s := by rw [flushDone_eq hruns, hleft, List.foldl_nil]
    obtain ⟨hnone, hways, hcause, hframe⟩ := flushEnds_acts b.val s _ rfl
    exact ⟨_, congrArg Host.Outcome.next hdone, hnone, hways b.val, hcause, hframe⟩
  · intro b way t w s hway howner hnew hon hlong
    obtain ⟨⟨hset, hothers⟩, hcause, hframe⟩ := lockAlarm_acts hway howner hnew hon hlong _ rfl
    exact ⟨_, rfl, hset, hothers, hcause, hframe⟩
  · intro b way s hearly
    exact congrArg Host.Outcome.next (lockAlarm_early hearly)
  · intro b m s hidle
    have hrefused : ∀ op w, op ≠ 0 → gated (hostCommand b.val op w) s = s := fun op w hop =>
      gated_same (hidle.imp_right fun h => hostCommand_refused h hop)
    exact ⟨congrArg Host.Outcome.next (hrefused 1 0 (by decide)), congrArg Host.Outcome.next (hrefused 2 m.toNat (by decide)),
      congrArg Host.Outcome.next (hrefused 3 0 (by decide)), congrArg Host.Outcome.next (hrefused 4 0 (by decide)),
      congrArg Host.Outcome.next (hrefused 5 0 (by decide)), congrArg Host.Outcome.next (hrefused 6 0 (by decide))⟩
  · intro b k w s hopen hidle hrun hhome hon hhit hway hlive hkept
    obtain ⟨hdone, hways, hframe⟩ := tillLookup_acts ⟨hidle, hrun, hhome, hon, hhit, hway⟩ hlive hkept _ rfl
    exact ⟨_, congrArg Host.Outcome.next (gated_open hopen _), hdone, hways b.val, hframe⟩
  · intro b k w s hopen hidle hrun hhome hon hhit hway hlive hkept hdirty
    obtain ⟨hdone, hback, hothers, hcopy⟩ := tillFlush_acts ⟨hidle, hrun, hhome, hon, hhit, hway⟩ hlive hkept hdirty _ rfl
    exact ⟨_, congrArg Host.Outcome.next (gated_open hopen _), hdone, hback, hothers, hcopy⟩
  · intro b k w s hopen hidle hrun hhome hon hhit hway hlive hfresh hfree
    obtain ⟨hdone, y, hclosed, hset, hothers⟩ := tillDelete_acts ⟨hidle, hrun, hhome, hon, hhit, hway⟩ hlive hfresh hfree _ rfl
    exact ⟨_, congrArg Host.Outcome.next (gated_open hopen _), hdone, ⟨y, hset, hclosed⟩, hothers⟩
  · intro b m k w s hopen hidle hrun hhome hon hhit hway hlive hfresh hfree hgood hscan hstays
    obtain ⟨hdone, y, hy, hset, hothers⟩ := tillWrite_acts ⟨hidle, hrun, hhome, hon, hhit, hway⟩ hlive hfresh hfree hgood hscan hstays _ rfl
    exact ⟨_, congrArg Host.Outcome.next (gated_open hopen _), hdone, ⟨y, hset, hy⟩, hothers⟩
  · intro b r s hopen hidle hrun hsize hin hown hmerge hdata
    obtain ⟨hdone, hways, hpeek, hframe⟩ := tillReadSlot_acts hidle hrun rfl hsize hin hown hmerge hdata _ rfl
    exact ⟨_, congrArg Host.Outcome.next (gated_open hopen _), hdone, hways b.val, hpeek, hframe⟩
  · intro b k n w s hopen hidle hrun hhome hon hhit hway hdead hknown hfree hgood hclaim halone
    obtain ⟨hdone, y, hy, hset, hothers⟩ := tillCreate_acts ⟨hidle, hrun, hhome, hon, hhit, hway⟩ hdead hknown hfree hgood hclaim halone _ rfl
    exact ⟨_, congrArg Host.Outcome.next (gated_open hopen _), hdone, ⟨y, hset, hy⟩, hothers⟩
  · intro b a s hdone hnone
    obtain ⟨hledger, hstatus, hcause, hways, hframe⟩ := published_acts b.val a s _ rfl
    exact ⟨_, congrArg Host.Outcome.next (hreqDone_acts hdone hnone), by rw [hledger], hstatus, hcause, hways b.val, hframe⟩
  · intro b s hnone
    exact congrArg Host.Outcome.next (hreqDone_none hnone)

end Sys2Proof.Machine
end


section
/-!
PROOFS. A word whose units also act outside its Teller (Tables 7.4, 7.8, 7.11, 7.13): its units one by one, what the end of the step makes of
the Teller, and what it leaves whatever its units do.
-/
namespace Sys2Proof.Machine

/-! ### A word, unit by unit -/

/-- The packet unit of a word; a SCAN has been issued before the word's results are written (R235). -/
def qopDone (b t : Nat) (x : Teller) (w : MicroWord) (s : State) : Option Bool × State :=
  if mwQop w = 0xA then (none, s) else qopEffect b t x w s

/-- The state in which all units of a word but the sequencer leave s. -/
def unitsDone (b t : Nat) (x : Teller) (w : MicroWord) (s : State) : State :=
  (xopEffect b t x w (copEffect t x w (qopDone b t x w (mopEffect b t x w (fopEffect b t x w s))).2)).2

/-- The value of S that the units of a word give, if any. -/
def unitsS (b t : Nat) (x : Teller) (w : MicroWord) (s : State) : Option Bool :=
  (if mwFop w = 8 then some (x.opened.getD none).isSome else none).or
    ((qopDone b t x w (mopEffect b t x w (fopEffect b t x w s))).1.or
      (xopEffect b t x w (copEffect t x w (qopDone b t x w (mopEffect b t x w (fopEffect b t x w s))).2)).1)

/-- The end of the step of a word, before its sequencer acts. -/
def unitsEnd (b t : Nat) (w : MicroWord) (s : State) : State :=
  commit b t (s.tellerAt t) w (wordResults s b t (s.tellerAt t) w) (unitsS b t (s.tellerAt t) w s) s (unitsDone b t (s.tellerAt t) w s)

theorem execWord_eq (b t : Nat) (w : MicroWord) (s : State) : execWord b t w s =
    match mwXop w, handlerOf (s.tellerAt t) with
    | 1, some item => yieldTo b t item (unitsEnd b t w s)
    | _, _ => seqEffect b t (s.tellerAt t) w (condition s b (s.tellerAt t) w) (unitsEnd b t w s) := rfl

theorem execWord_leads {b t : Nat} {w : MicroWord} {s : State} (h : mwXop w ≠ 1 ∨ handlerOf (s.tellerAt t) = none) : execWord b t w s =
    seqEffect b t (s.tellerAt t) w (condition s b (s.tellerAt t) w) (unitsEnd b t w s) := by
  rw [execWord_eq]
  rcases h with hx | hnone
  · split
    · next hone _ => exact absurd hone hx
    · rfl
  · rw [hnone]
    split
    · next hnever => cases hnever
    · rfl

/-! ### What the end of a step makes of its Teller -/

/-- A Teller at the end of a step: its registers, flags, HOLD span and traps as the word leaves them, sv the value of S. -/
structure EndedFrom (sv : Option Bool) (y z : Teller) : Prop where
  st : z.st = .run
  sFlag : z.s = sv.getD y.s
  win : z.win = y.win
  ctx : z.ctx = { y.ctx with steps := y.ctx.steps + 1 }
  opening : z.opening = y.opening
  opened : z.opened = y.opened
  frames : z.frames = y.frames
  parked : z.parked = y.parked
  preempt : z.preempt = y.preempt
  traps : ∀ c ∈ y.traps, c ∈ z.traps

theorem commit_teller (b t : Nat) (x : Teller) (w : MicroWord) (res : List (Nat × Word64)) (sv : Option Bool) (s0 m u : State)
    (hu : u = commit b t x w res sv s0 m) :
    EndedFrom sv (m.tellerAt t) (u.tellerAt t) ∧ (u.tellerAt t).pc = (m.tellerAt t).pc ∧ (u.tellerAt t).stack = (m.tellerAt t).stack ∧
    u = { m with tellers := u.tellers, regs := u.regs } := by
  subst hu
  unfold commit
  generalize aluResult s0 b x w = r
  obtain ⟨d, c⟩ := r
  dsimp only
  generalize aluFlags (mwAop w) d c x = f
  obtain ⟨z, n, c⟩ := f
  generalize holdAfter x w = k
  obtain ⟨hold, full, extra⟩ := k
  dsimp only
  have hsteps := bump64_frame (Reg.TELL_STEP_CNT_LO (deskOf t)) 1 m
  generalize bump64 (Reg.TELL_STEP_CNT_LO (deskOf t)) 1 m = p at hsteps ⊢
  have hperf := perf_frame (uDesk (deskOf t)) 0x01 p
  generalize perf (uDesk (deskOf t)) 0x01 p = q at hperf ⊢
  have hq : q = { m with regs := q.regs } := by rw [hperf, hsteps]
  generalize hv : (if extra = true then cause (Reg.TELL_IRQ_CAUSE (deskOf t)) 2 (bump (Reg.TELL_HOLD_OVR_CNT (deskOf t)) q) else q) = v
  have hv : v = { m with regs := v.regs } := by
    rw [← hv]
    split
    · rw [cause_frame, bump_frame, hq]
    · exact hq
  have hteller : v.tellerAt t = m.tellerAt t := tellerAt_of_regs hv t
  refine ⟨?_, ?_, ?_, ?_⟩
  · rw [State.tellerAt_modTeller_same, hteller]
    refine ⟨rfl, rfl, rfl, rfl, rfl, rfl, rfl, rfl, rfl, fun c hc => ?_⟩
    dsimp only
    split
    · exact List.mem_append_left _ hc
    · exact hc
  · rw [State.tellerAt_modTeller_same, hteller]
  · rw [State.tellerAt_modTeller_same, hteller]
  · rw [hv]
    rfl

/-- The sequencer within a routine changes PC, stack and loop counter alone. -/
theorem seqEffect_sets {w : MicroWord} (hseq : mwSeq w < 0xC) (b t : Nat) (x : Teller) (cond : Bool) (s : State) :
    ∃ pc stack lc, seqEffect b t x w cond s = s.modTeller t fun y => { y with pc := pc, stack := stack, lc := lc } := by
  have hsets : ∀ (f : Teller → Teller) (pc : Nat) (stack : List Nat) (lc : Nat), f (s.tellerAt t) = { s.tellerAt t with pc := pc, stack := stack, lc := lc } →
      ∃ pc stack lc, s.modTeller t f = s.modTeller t fun y => { y with pc := pc, stack := stack, lc := lc } := fun f pc stack lc hf =>
    ⟨pc, stack, lc, congrArg (fun y => s.setTeller t y) hf⟩
  unfold seqEffect
  dsimp only
  split
  case h_13 | h_14 | h_15 => omega
  case h_16 => simp only [imp_false] at *; omega
  case h_6 | h_8 | h_9 => split <;> exact hsets _ _ _ _ rfl
  all_goals exact hsets _ _ _ _ rfl

/-- A word that stays in its routine ends its step. -/
structure WordEnd (t : Nat) (sv : Option Bool) (m u : State) : Prop where
  ended : EndedFrom sv (m.tellerAt t) (u.tellerAt t)
  rest : u = { m with tellers := u.tellers, regs := u.regs }

theorem wordEnd_of_seq {w : MicroWord} (hseq : mwSeq w < 0xC) (b t : Nat) (x : Teller) (cond : Bool) (res : List (Nat × Word64)) (sv : Option Bool)
    (s0 m : State) : WordEnd t sv m (seqEffect b t x w cond (commit b t x w res sv s0 m)) := by
  obtain ⟨⟨hst, hs, hwin, hctx, hopening, hopened, hframes, hparked, hpreempt, htraps⟩, -, -, hrest⟩ := commit_teller b t x w res sv s0 m _ rfl
  obtain ⟨pc, stack, lc, hseq⟩ := seqEffect_sets hseq b t x cond (commit b t x w res sv s0 m)
  rw [hseq]
  constructor
  · rw [State.tellerAt_modTeller_same]
    exact ⟨hst, hs, hwin, hctx, hopening, hopened, hframes, hparked, hpreempt, htraps⟩
  · generalize commit b t x w res sv s0 m = c at hrest ⊢
    rw [hrest]
    rfl

/-! ### What a word leaves aside -/

/-- The registers and flags of a Teller. -/
def Teller.results (y : Teller) := (y.g, y.z, y.n, y.c)

/-- The step leaves every other Teller, and the registers and flags of Teller t. -/
structure Beside (t : Nat) (s u : State) : Prop where
  others : ∀ q, q ≠ t → u.tellerAt q = s.tellerAt q
  own : (u.tellerAt t).results = (s.tellerAt t).results

section
variable {t : Nat} {s u v : State}

theorem Beside.trans (h : Beside t s u) (k : Beside t u v) : Beside t s v :=
  ⟨fun q hq => (k.others q hq).trans (h.others q hq), k.own.trans h.own⟩

theorem Beside.of_tellers (h : u.tellers = s.tellers) : Beside t s u :=
  ⟨fun q _ => tellerAt_of_tellers h q, by rw [tellerAt_of_tellers h]⟩

theorem Beside.refl (t : Nat) (s : State) : Beside t s s := .of_tellers rfl

theorem Beside.of_keeps {w : MicroWord} (h : UnitKeeps w t s u) : Beside t s u := by
  have hheld := h.held
  simp only [Teller.held, Prod.mk.injEq] at hheld
  obtain ⟨hg, hz, hn, hc, -⟩ := hheld
  exact ⟨h.others, by rw [Teller.results, hg, hz, hn, hc, Teller.results]⟩

theorem Beside.modTeller {f : Teller → Teller} (h : (f (s.tellerAt t)).results = (s.tellerAt t).results) : Beside t s (s.modTeller t f) :=
  ⟨fun q hq => tellerAt_modTeller_ne hq f s, by rw [State.tellerAt_modTeller_same, h]⟩

/-- A step that leaves everything but its Teller's registers and flags aside ends as R156 and R163 say. -/
theorem wordAside_of_commit {m s0 : State} {w : MicroWord} {b : Nat} {sv : Option Bool} (hw : theWord s t = w) (h0 : Beside t s s0)
    (hm : Beside t s0 m) (hu : Beside t (commit b t (s0.tellerAt t) w (wordResults s0 b t (s0.tellerAt t) w) sv s0 m) u) : wordAside s t u := by
  have hheld := commit_held b t (s0.tellerAt t) w (wordResults s0 b t (s0.tellerAt t) w) sv s0 m
  obtain ⟨c, f, hc, heq, -⟩ := commit_eq b t (s0.tellerAt t) w (wordResults s0 b t (s0.tellerAt t) w) sv s0 m
  simp only [Teller.held, committed, Prod.mk.injEq] at hheld
  obtain ⟨hg, hz, hn, hcarry, -⟩ := hheld
  have hown := hu.own
  have hbase := hm.own
  have hstart := h0.own
  simp only [Teller.results, Prod.mk.injEq] at hown hbase hstart
  obtain ⟨ug, uz, un, uc⟩ := hown
  obtain ⟨mg, -⟩ := hbase
  obtain ⟨sg, sz, sn, sc⟩ := hstart
  refine ⟨fun q hq => ?_, fun r _ hr => ?_, fun hidle => ?_⟩
  · rw [hu.others q hq, heq, tellerAt_modTeller_ne hq, hc.others q hq, hm.others q hq, h0.others q hq]
  · rw [gReg, ug, hg, mg, sg]
    exact wordAt_writeResults_of_notMem _ _ _ fun hmem => hr (hw ▸ (map_fst_wordResults_subperm ..).subset hmem)
  · rw [hw] at hidle
    rw [uz, un, uc, hz, hn, hcarry, hidle]
    exact ⟨sz, sn, sc⟩

end

theorem beside_seqEffect {w : MicroWord} (hseq : mwSeq w < 0xC) (b t : Nat) (x : Teller) (cond : Bool) (s : State) :
    Beside t s (seqEffect b t x w cond s) := by
  obtain ⟨pc, stack, lc, heq⟩ := seqEffect_sets hseq b t x cond s
  rw [heq]
  exact .modTeller rfl

theorem beside_mopEffect (b t : Nat) (x : Teller) (w : MicroWord) (s : State) : Beside t s (mopEffect b t x w s) := .of_keeps (mopEffect_keeps b t x w s)

theorem beside_copEffect (t : Nat) (x : Teller) (w : MicroWord) (s : State) : Beside t s (copEffect t x w s) := .of_keeps (copEffect_keeps t x w s)

/-- How the step of a word in its routine ends, m the state in which its units left s0. -/
theorem execWord_done {s s0 m : State} {b t : Nat} {w : MicroWord} {sv : Option Bool} (hw : theWord s t = w) (h0 : Beside t s s0) (hseq : mwSeq w < 0xC)
    (hx : mwXop w ≠ 1 ∨ handlerOf (s0.tellerAt t) = none) (hm : unitsDone b t (s0.tellerAt t) w s0 = m) (hs : unitsS b t (s0.tellerAt t) w s0 = sv)
    (hbeside : Beside t s0 m) : wordAside s t (execWord b t w s0) ∧ WordEnd t sv m (execWord b t w s0) := by
  rw [execWord_leads hx, unitsEnd, hm, hs]
  exact ⟨wordAside_of_commit hw h0 hbeside (beside_seqEffect hseq ..), wordEnd_of_seq hseq ..⟩

/-! ### Rows -/

/-- The row of an operation that a word holds runs the word, when it goes (log entry 1). -/
theorem answers_of_run {s u : State} {t : Nat} {c : Instr} {holds : MicroWord → Bool} {P : State → Prop} (go : wordGoes s t = true)
    (hc : exec c s = .next (wordRow holds t .clean s)) (hop : holds (theWord s t) = true) (hrun : runWord (t / 32) t (theWord s t) s = u) (hP : P u) :
    Answers c s P := by
  refine ⟨_, hc, ?_⟩
  rw [theWord] at hop
  rwa [wordRow, if_pos hop, wordStep_of_wordGoes go, hrun]

/-- A word that waits for none of its units executes. -/
theorem runWord_goes {w : MicroWord} {b t : Nat} {s : State} (hverdict : appliesVerdict w = false) (hfop : mwFop w ≠ 8) (hqop : mwQop w ≠ 0xA) :
    runWord b t w s = execWord b t w s := by
  simp only [runWord, hverdict, hfop, hqop, Bool.false_and, Bool.false_eq_true, false_and, if_false]

end Sys2Proof.Machine
end


section
/-!
PROOFS. The record-window words (Table 7.13, R166, R174): stores into the bound record, SETSTATE, FLUSH, OPEN and RELWIN.
-/
namespace Sys2Proof.Machine

theorem plainBut_iff (f q x sq : Bool) (w : MicroWord) : plainBut f q x sq w = true ↔
    (f = true ∨ mwFop w ≤ 1) ∧ (q = true ∨ mwQop w ∉ [4, 7, 9, 10, 12]) ∧ (x = true ∨ mwXop w = 0) ∧ (sq = true ∨ mwSeq w < 0xC) := by
  simp [plainBut, and_assoc]

/-- The packet unit only notes the verdict (R171). -/
theorem qopEffect_verdict {w : MicroWord} (hq : mwQop w ∉ [4, 7, 9, 10, 12]) (b t : Nat) (x : Teller) (s : State) :
    qopEffect b t x w s = (none, s.modTeller t fun y => { y with ctx := { y.ctx with verdict := nextVerdict x w } }) := by
  simp only [List.mem_cons, List.not_mem_nil, or_false, not_or] at hq
  obtain ⟨h4, h7, h9, -, h12⟩ := hq
  unfold qopEffect
  dsimp only
  split
  case h_5 => rfl
  case h_1 hop _ => exact absurd hop h4
  case h_2 hop _ => exact absurd hop h7
  case h_3 hop _ => exact absurd hop h9
  case h_4 hop _ => exact absurd hop h12

theorem xopEffect_idle {w : MicroWord} (hx : mwXop w = 0) (b t : Nat) (x : Teller) (s : State) : xopEffect b t x w s = (none, s) := by
  simp only [xopEffect, hx]

theorem fopEffect_idle {w : MicroWord} (hf : mwFop w ≤ 1) (b t : Nat) (x : Teller) (s : State) : fopEffect b t x w s = s := by
  have hstores : fopStores (mwFop w) = false := by
    simp only [fopStores, Bool.and_eq_false_iff, decide_eq_false_iff_not]
    omega
  unfold fopEffect
  dsimp only
  rw [if_neg (by omega), if_neg (by omega), hstores]
  split
  · rfl
  · rw [if_neg (by decide), if_neg (by omega), if_neg (by omega)]

/-- What a memory operation changes of its Teller. -/
theorem mopEffect_teller (b t : Nat) (x : Teller) (w : MicroWord) (s : State) : ∃ mem next frames kv, (mopEffect b t x w s).tellerAt t =
    { s.tellerAt t with mem := mem, nextMem := next, frames := frames, ctx := { (s.tellerAt t).ctx with kv := kv } } := by
  have hsame : ∃ mem next frames kv, s.tellerAt t =
      { s.tellerAt t with mem := mem, nextMem := next, frames := frames, ctx := { (s.tellerAt t).ctx with kv := kv } } := ⟨_, _, _, _, rfl⟩
  have hqueue : ∀ (m : MemOp) (v : State), v.tellerAt t = s.tellerAt t → ∃ mem next frames kv, (queueOp t m v).tellerAt t =
      { s.tellerAt t with mem := mem, nextMem := next, frames := frames, ctx := { (s.tellerAt t).ctx with kv := kv } } := fun m v hv => by
    rw [queueOp, State.tellerAt_modTeller_same, hv]
    exact ⟨_, _, _, _, rfl⟩
  unfold mopEffect
  dsimp only
  split
  · exact hsame
  · split
    · rw [tellerAt_of_regs (perf_frame ..)]
      exact hqueue _ s rfl
    · rw [tellerAt_of_regs (perf_frame ..)]
      exact hqueue _ s rfl
    · rw [show ∀ (v : State) (p : List CofferReq), ({ v with coffer := { v.coffer with pending := p } } : State).tellerAt t = v.tellerAt t from
        fun _ _ => rfl, tellerAt_of_regs (perf_frame ..)]
      exact hqueue _ s rfl
    · exact hqueue _ _ (tellerAt_of_regs (sieveLookup_regs ..) t)
    · unfold localStore
      dsimp only
      split_ifs
      · exact hsame
      · rw [State.tellerAt_modTeller_same]
        exact ⟨_, _, _, _, rfl⟩
      · rw [State.tellerAt_modTeller_same]
        split <;> exact ⟨_, _, _, _, rfl⟩
      · exact hsame

theorem mopEffect_rest (b t : Nat) (x : Teller) (w : MicroWord) (s : State) :
    mopEffect b t x w s = { s with tellers := (mopEffect b t x w s).tellers, regs := (mopEffect b t x w s).regs, coffer := (mopEffect b t x w s).coffer } :=
  (mopEffect_keeps b t x w s).rest

theorem mopEffect_idle {w : MicroWord} (hm : mwMop w = 0) (b t : Nat) (x : Teller) (s : State) : mopEffect b t x w s = s := if_pos hm

/-- What the units of a word do beside the record window leave it: the verdict, a memory operation and a count. -/
theorem unitsDone_fop {w : MicroWord} (h : plainBut true false false false w = true) (b t : Nat) (x : Teller) (s : State) :
    unitsDone b t x w s = plainEffects b t x w (fopEffect b t x w s) ∧
    unitsS b t x w s = if mwFop w = 8 then some (x.opened.getD none).isSome else none := by
  obtain ⟨-, hq, hx, -⟩ := (plainBut_iff ..).1 h
  have hq := hq.resolve_left Bool.false_ne_true
  have hx := hx.resolve_left Bool.false_ne_true
  have hqop : mwQop w ≠ 0xA := fun heq => hq (by rw [heq]; decide)
  constructor
  · simp only [unitsDone, qopDone, hqop, if_false, xopEffect_idle hx, qopEffect_verdict hq, plainEffects]
  · simp only [unitsS, qopDone, hqop, if_false, xopEffect_idle hx, qopEffect_verdict hq, Option.or_none]

/-- What a window word leaves, s0 the state in which its units act and v that in which the window unit left it. -/
structure FopDone (s : State) (t : Nat) (sv : Option Bool) (v u : State) : Prop where
  sFlag : (u.tellerAt t).s = sv.getD (v.tellerAt t).s
  win : (u.tellerAt t).win = (v.tellerAt t).win
  opening : (u.tellerAt t).opening = (v.tellerAt t).opening
  opened : (u.tellerAt t).opened = (v.tellerAt t).opened
  st : (u.tellerAt t).st = .run
  aside : wordAside s t u
  rest : u = { v with tellers := u.tellers, regs := u.regs, coffer := u.coffer }

theorem execWord_fop {s s0 v : State} {t : Nat} {w : MicroWord} (hw : theWord s t = w) (h : plainBut true false false false w = true)
    (h0 : Beside t s s0) (hv : v = fopEffect (t / 32) t (s0.tellerAt t) w s0) (hbeside : Beside t s0 v) :
    FopDone s t (if mwFop w = 8 then some ((s0.tellerAt t).opened.getD none).isSome else none) v (execWord (t / 32) t w s0) := by
  obtain ⟨hdone, hs⟩ := unitsDone_fop h (t / 32) t (s0.tellerAt t) s0
  obtain ⟨-, -, hx, hseq⟩ := (plainBut_iff ..).1 h
  have hseq := hseq.resolve_left Bool.false_ne_true
  have hxop : mwXop w ≠ 1 := by rw [hx.resolve_left Bool.false_ne_true]; decide
  rw [← hv] at hdone
  have hkeeps : UnitKeeps w t v (plainEffects (t / 32) t (s0.tellerAt t) w v) :=
    ((mopEffect_keeps ..).trans (.modTeller rfl)).trans (copEffect_keeps ..)
  obtain ⟨mem, next, frames, kv, hmop⟩ := mopEffect_teller (t / 32) t (s0.tellerAt t) w v
  have hteller := plainEffects_tellerAt (t / 32) t (s0.tellerAt t) w v
  rw [hmop] at hteller
  have hrest := hkeeps.rest
  have hm := hbeside.trans (.of_keeps hkeeps)
  generalize plainEffects (t / 32) t (s0.tellerAt t) w v = m at hdone hteller hm hrest
  obtain ⟨haside, ⟨hst, hs, hwin, -, hopening, hopened, -⟩, hframe⟩ := execWord_done hw h0 hseq (Or.inl hxop) hdone hs hm
  rw [hteller] at hs hwin hopening hopened
  exact ⟨hs, hwin, hopening, hopened, hst, haside, by rw [hframe, hrest]⟩

/-- A window word other than OPEN waits for nothing. -/
theorem runWord_fop {w : MicroWord} (h : plainBut true false false false w = true) (hfop : mwFop w ≠ 8) (b t : Nat) (s : State) :
    runWord b t w s = execWord b t w s := by
  obtain ⟨-, hq, -, hseq⟩ := (plainBut_iff ..).1 h
  have hq := hq.resolve_left Bool.false_ne_true
  have hseq := hseq.resolve_left Bool.false_ne_true
  have h12 : mwQop w ≠ 0xC := fun heq => hq (by rw [heq]; decide)
  refine runWord_goes ?_ hfop fun heq => hq (by rw [heq]; decide)
  rw [appliesVerdict, beq_eq_false_iff_ne.2 (by omega), beq_eq_false_iff_ne.2 h12]
  rfl

/-- The row of a window word other than OPEN. -/
theorem answers_of_fop {s v : State} {t k : Nat} {c : Instr} {P : State → Prop} (go : wordGoes s t = true)
    (plain : plainBut true false false false (theWord s t) = true) (hop : mwFop (theWord s t) = k) (hk : k ≠ 8)
    (hc : exec c s = .next (wordRow (mwFop · == k) t .clean s)) (hv : v = fopEffect (t / 32) t (s.tellerAt t) (theWord s t) s) (hbeside : Beside t s v)
    (hP : ∀ u, FopDone s t none v u → P u) : Answers c s P := by
  have hfop : mwFop (theWord s t) ≠ 8 := by rwa [hop]
  have hdone := execWord_fop rfl plain (.refl t s) hv hbeside
  rw [if_neg hfop] at hdone
  exact answers_of_run go hc (beq_iff_eq.2 hop) (runWord_fop plain hfop ..) (hP _ hdone)

/-! ### Stores into the bound record -/

theorem sameWays_of_fopDone {s v u : State} {t : Nat} {sv : Option Bool} (h : FopDone s t sv v u) : SameWays v u :=
  sameWays_of_ledger (by rw [h.rest])

/-- The way that a store into word i of its record leaves (R174). -/
def storedWay (now i : Nat) (v : Word64) (y : Way) : Way :=
  markDirty now { y with rc := withWord y.rc i v, w7Changed := y.w7Changed || (i == 7 && v != wordAt y.rc i) }

theorem pinWay_pins {b k : Nat} {w : Way} {s : State} (hway : wayAt s b k = some w) :
    (∃ p, WayStep b k { w with pinEff := p } s (pinWay b k s)) ∧ (pinWay b k s).tellers = s.tellers ∧
    pinWay b k s = { s with ledger := (pinWay b k s).ledger, regs := (pinWay b k s).regs } := by
  refine ⟨pinWay_acts hway, ?_, ?_⟩
  all_goals
    simp only [pinWay, hway]
    split
    · split
      · rfl
      · rw [cause_frame, bump_frame]
    · split <;> rfl

theorem windowStore_acts {b k op i : Nat} {src mask : Word64} {y : Way} {s : State} (hway : wayAt s b k = some y) (v : State)
    (hv : v = windowStore b k op i src mask s) :
    (∃ p, WayStep b k { storedWay s.time.tick i (fopWord op i (wordAt y.rc i) src mask) y with pinEff := p } s v ∧ (i ≠ 0 → p = y.pinEff)) ∧
    v.tellers = s.tellers ∧ v = { s with ledger := v.ledger, regs := v.regs } := by
  have hset := wayStep_setWay b k (storedWay s.time.tick i (fopWord op i (wordAt y.rc i) src mask) y) s
  have hstore : windowStore b k op i src mask s = if i = 0 ∧ reachesPin op src mask then
      pinWay b k (setWay b k (storedWay s.time.tick i (fopWord op i (wordAt y.rc i) src mask) y) s)
      else setWay b k (storedWay s.time.tick i (fopWord op i (wordAt y.rc i) src mask) y) s := by
    simp only [windowStore, hway]
    rfl
  have hkept : setWay b k (storedWay s.time.tick i (fopWord op i (wordAt y.rc i) src mask) y) s =
      { s with ledger := (setWay b k (storedWay s.time.tick i (fopWord op i (wordAt y.rc i) src mask) y) s).ledger } := rfl
  rw [hstore] at hv
  generalize setWay b k (storedWay s.time.tick i (fopWord op i (wordAt y.rc i) src mask) y) s = q at hset hv hkept
  subst hv
  split
  case isTrue hpin =>
    obtain ⟨⟨p, hp⟩, htellers, hframe⟩ := pinWay_pins hset.way
    refine ⟨⟨p, hset.trans hp, fun hne => absurd hpin.1 hne⟩, htellers.trans (by rw [hkept]), ?_⟩
    generalize pinWay b k q = r at hframe ⊢
    rw [hframe, hkept]
  case isFalse => exact ⟨⟨y.pinEff, hset, fun _ => rfl⟩, by rw [hkept], by rw [hkept]⟩

theorem windowWritten_of_fop {c : Instr} {s : State} {t op : Nat} {f : Word64 → Word64 → Word64 → Word64} (go : wordGoes s t = true)
    (plain : plainBut true false false false (theWord s t) = true) (hop : mwFop (theWord s t) = op) (hstores : fopStores op = true)
    (hc : exec c s = .next (wordRow (mwFop · == op) t .clean s)) (hf : ∀ old src mask, fopValue op old src mask = f old src mask) : windowWritten c s t f := by
  intro k y hwin hway i old v v'
  have hbounds : 2 ≤ op ∧ op ≤ 6 := by
    rw [fopStores, Bool.and_eq_true, decide_eq_true_iff, decide_eq_true_iff] at hstores
    exact hstores
  have hfop : fopEffect (t / 32) t (s.tellerAt t) (theWord s t) s =
      windowStore (t / 32) k op i (srcB (s.tellerAt t) (theWord s t)) (srcA2 (s.tellerAt t) (theWord s t)) s := by
    simp only [fopEffect, hop, if_neg (show op ≠ 8 by omega), if_neg (show op ≠ 9 by omega), hwin, hstores, if_true]
    rfl
  obtain ⟨⟨p, hstep, hp⟩, htellers, hframe⟩ := windowStore_acts (src := srcB (s.tellerAt t) (theWord s t)) (mask := srcA2 (s.tellerAt t) (theWord s t))
    (op := op) (i := i) hway _ rfl
  rw [← hfop] at hstep htellers hframe
  have hword : fopWord op i (wordAt y.rc i) (srcB (s.tellerAt t) (theWord s t)) (srcA2 (s.tellerAt t) (theWord s t)) = v' := by
    rw [fopWord, hf]
  rw [hword] at hstep
  refine answers_of_fop go plain hop (by omega) hc rfl (.of_tellers htellers) fun u hu => ?_
  have hways := sameWays_of_fopDone hu
  generalize fopEffect (t / 32) t (s.tellerAt t) (theWord s t) s = q at hu hstep htellers hframe hways
  refine ⟨⟨p, (hstep.after hways).way, hp⟩, (hstep.after hways).others, ?_, ?_, hu.aside, by rw [hu.rest, hframe]⟩
  · rw [hu.sFlag, tellerAt_of_tellers htellers]
    rfl
  · rw [hu.win, tellerAt_of_tellers htellers, hwin]

end Sys2Proof.Machine
end


section
/-!
PROOFS. SETSTATE, FLUSH, OPEN and RELWIN (R116, R166, R174, Table 7.13), and the counters of the microcode (R172).
-/
namespace Sys2Proof.Machine

theorem tellers_of_crew {s t : State} (h : t.crew = s.crew) : t.tellers = s.tellers := congrArg Prod.fst h

/-! ### SETSTATE and FLUSH -/

theorem fopEffect_setstate {s : State} {b t k : Nat} {w : MicroWord} (hop : mwFop w = 7) (hwin : (s.tellerAt t).win = some k) :
    fopEffect b t (s.tellerAt t) w s = windowState b k (wbits (srcB (s.tellerAt t) w) 3 0) s := by
  simp only [fopEffect, hop, hwin]
  rfl

theorem windowState_open {b k v : Nat} {y : Way} {s : State} (hway : wayAt s b k = some y) (hv : v ≠ 4) :
    windowState b k v s = setWay b k (markDirty s.time.tick { y with rc := setW0 y.rc 35 32 v }) s := by
  simp only [windowState, hway, hv, if_false]

theorem windowState_dead {b k : Nat} {y : Way} {s : State} (hway : wayAt s b k = some y) (hdead : rcDead y.rc = true) :
    windowState b k 4 s = setWay b k { markDirty s.time.tick y with rc := setW0 (rcClosed y.rc) 24 24 1 } s := by
  simp only [windowState, hway, hdead, if_true]

theorem windowState_live {b k : Nat} {y : Way} {s : State} (hway : wayAt s b k = some y) (hlive : rcDead y.rc = false) :
    windowState b k 4 s = closeWay b k false false s := by
  simp only [windowState, hway, hlive, Bool.false_eq_true, if_false, if_true]

theorem windowState_acts {b k v : Nat} {y : Way} {s : State} (hway : wayAt s b k = some y) (t : State) (ht : t = windowState b k v s) :
    (v ≠ 4 → wayAt t b k = some (markDirty s.time.tick { y with rc := setW0 y.rc 35 32 v }) ∧ t = { s with ledger := t.ledger }) ∧
    (v = 4 → rcDead y.rc = true → wayAt t b k = some { markDirty s.time.tick y with rc := setW0 (rcClosed y.rc) 24 24 1 }) ∧
    (v = 4 → rcDead y.rc = false → ∃ m, wayAt t b k = some (closedWay s.time.tick m y)) ∧
    (∀ j, j ≠ k → wayAt t b j = wayAt s b j) ∧ t.tellers = s.tellers := by
  by_cases hv : v = 4
  case neg =>
    rw [windowState_open hway hv] at ht
    have hset := wayStep_setWay b k (markDirty s.time.tick { y with rc := setW0 y.rc 35 32 v }) s
    have hframe : setWay b k (markDirty s.time.tick { y with rc := setW0 y.rc 35 32 v }) s =
        { s with ledger := (setWay b k (markDirty s.time.tick { y with rc := setW0 y.rc 35 32 v }) s).ledger } := rfl
    rw [← ht] at hset hframe
    exact ⟨fun _ => ⟨hset.way, hframe⟩, fun h => absurd h hv, fun h => absurd h hv, hset.others, by rw [hframe]⟩
  case pos =>
    subst hv
    cases hdead : rcDead y.rc
    case true =>
      rw [windowState_dead hway hdead] at ht
      have hset := wayStep_setWay b k { markDirty s.time.tick y with rc := setW0 (rcClosed y.rc) 24 24 1 } s
      rw [ht]
      exact ⟨fun h => absurd rfl h, fun _ _ => hset.way, fun _ h => absurd h (by decide), hset.others, rfl⟩
    case false =>
      rw [windowState_live hway hdead] at ht
      obtain ⟨m, hset⟩ := closeWay_way hway
      rw [← ht] at hset
      exact ⟨fun h => absurd rfl h, fun _ h => absurd h (by decide), fun _ _ => ⟨m, hset.way⟩, hset.others, by rw [ht, tellers_of_crew (closeWay_crew ..)]⟩

theorem fopEffect_flush {s : State} {b t k : Nat} {w : MicroWord} (hop : mwFop w = 0xA) (hwin : (s.tellerAt t).win = some k) :
    fopEffect b t (s.tellerAt t) w s = writeBack b k s := by
  simp only [fopEffect, hop, hwin]
  rfl

theorem writeBack_clean {b k : Nat} {w : Way} {s : State} (hway : wayAt s b k = some w) (hclean : rcDirty w.rc = false) : writeBack b k s = s := by
  simp only [writeBack, hway, hclean, Bool.false_eq_true, if_false]

/-! ### OPEN -/

/-- An OPEN waits for the Vault or the lock (R166). -/
theorem runWord_open_waits {b t : Nat} {w : MicroWord} {o : Ckey × Word64} {s : State} (hverdict : appliesVerdict w = false) (hop : mwFop w = 8)
    (hnone : (s.tellerAt t).opened = none) (hopening : (s.tellerAt t).opening = some o) : runWord b t w s = waitWord t s := by
  have hstep : openStep b t (keyOperand (s.tellerAt t) w) s = s := by
    simp only [openStep, hnone, hopening, Option.isSome_some, Bool.or_true, if_true]
  simp only [runWord, hverdict, hop, hstep, hnone, Option.isNone_none, Bool.false_and, Bool.false_eq_true, if_false, if_true, and_self]

theorem openStep_opened {b t : Nat} {key : Ckey} {r : Option Nat} {s : State} (h : (s.tellerAt t).opened = some r) : openStep b t key s = s := by
  simp only [openStep, h, Option.isSome_some, Bool.true_or, if_true]

/-- An OPEN with its answer executes. -/
theorem runWord_open_answered {b t : Nat} {w : MicroWord} {r : Option Nat} {s s0 : State} (hverdict : appliesVerdict w = false) (hop : mwFop w = 8)
    (hqop : mwQop w ≠ 0xA) (hstep : openStep b t (keyOperand (s.tellerAt t) w) s = s0) (hopened : (s0.tellerAt t).opened = some r) :
    runWord b t w s = execWord b t w s0 := by
  simp only [runWord, hverdict, hop, hstep, hopened, hqop, Option.isNone_some, Bool.false_and, Bool.false_eq_true, if_false, if_true, and_false]

theorem fopEffect_open {s : State} {b t : Nat} {x : Teller} {w : MicroWord} (hop : mwFop w = 8) : fopEffect b t x w s = openEnd t s := if_pos hop

theorem openEnd_teller {t : Nat} {r : Option Nat} {s : State} (h : (s.tellerAt t).opened = some r) :
    (openEnd t s).tellerAt t = { s.tellerAt t with win := r, opening := none, opened := none } := by
  rw [openEnd, State.tellerAt_modTeller_same, h]
  rfl

theorem plain_fop {w : MicroWord} (h : plainBut true false false false w = true) : appliesVerdict w = false ∧ mwQop w ≠ 0xA := by
  obtain ⟨-, hq, -, hseq⟩ := (plainBut_iff ..).1 h
  have hq := hq.resolve_left Bool.false_ne_true
  have hseq := hseq.resolve_left Bool.false_ne_true
  have h12 : mwQop w ≠ 0xC := fun heq => hq (by rw [heq]; decide)
  refine ⟨?_, fun heq => hq (by rw [heq]; decide)⟩
  rw [appliesVerdict, beq_eq_false_iff_ne.2 (by omega), beq_eq_false_iff_ne.2 h12]
  rfl

/-- An OPEN ends its step with the answer that it has, s0 the state in which it has it. -/
theorem execWord_open {s s0 : State} {t : Nat} {w : MicroWord} {r : Option Nat} (hw : theWord s t = w) (h : plainBut true false false false w = true)
    (hop : mwFop w = 8) (h0 : Beside t s s0) (hopened : (s0.tellerAt t).opened = some r) (u : State) (hu : u = execWord (t / 32) t w s0) :
    (u.tellerAt t).win = r ∧ (u.tellerAt t).s = r.isSome ∧ (u.tellerAt t).opening = none ∧ (u.tellerAt t).opened = none ∧ (u.tellerAt t).st = .run ∧
    wordAside s t u ∧ u = { s0 with tellers := u.tellers, regs := u.regs, coffer := u.coffer } := by
  have hfop : openEnd t s0 = fopEffect (t / 32) t (s0.tellerAt t) w s0 := (fopEffect_open hop).symm
  have hteller := openEnd_teller hopened
  have hbeside : Beside t s0 (openEnd t s0) := .modTeller rfl
  have hframe : openEnd t s0 = { s0 with tellers := (openEnd t s0).tellers } := rfl
  generalize openEnd t s0 = v at hfop hteller hbeside hframe
  have hdone := execWord_fop hw h h0 hfop hbeside
  rw [if_pos hop, hopened, ← hu] at hdone
  obtain ⟨hs, hwin, hopening, hnone, hst, haside, hrest⟩ := hdone
  rw [hteller] at hwin hopening hnone
  exact ⟨hwin, hs, hopening, hnone, hst, haside, by rw [hrest, hframe]⟩

/-- The state in which an OPEN has taken the lock of way k (R116, R166). -/
def openTaken (b t k : Nat) (key : Ckey) (s : State) : State :=
  answerOpen t (some k) (lockWay b k t (s.modTeller t fun x => { x with opening := some (key, hashOf s key) }))

theorem openStep_takes {b t k : Nat} {key : Ckey} {y : Way} {s : State} (hnone : (s.tellerAt t).opened = none) (hnew : (s.tellerAt t).opening = none)
    (hprobe : probe s b (hashOf s key) key = some k) (hway : wayAt s b k = some y) (hfree : rcLock y.rc = false) (hlive : rcDead y.rc = false)
    (hfresh : rcExpired s y.rc (ledgerNow s) = false) : openStep b t key s = openTaken b t k key s := by
  have hstep : openStep b t key s = openOnWay b k t (s.modTeller t fun x => { x with opening := some (key, hashOf s key) }) := by
    simp only [openStep, hnone, hnew, openTry, hprobe, Option.isSome_none, Bool.or_self, Bool.false_eq_true, if_false]
  have hway' : wayAt (s.modTeller t fun x => { x with opening := some (key, hashOf s key) }) b k = some y := hway
  have hfresh' : rcExpired (s.modTeller t fun x => { x with opening := some (key, hashOf s key) }) y.rc
    (ledgerNow (s.modTeller t fun x => { x with opening := some (key, hashOf s key) })) = false := hfresh
  rw [hstep, openTaken]
  simp only [openOnWay, hway', noteState_known ((rcState_of_live hlive).trans (by decide)), hfree, hlive, hfresh', Bool.false_eq_true, if_false]

/-- A way locked for Teller t. -/
def lockedWay (s : State) (t : Nat) (y : Way) : Way :=
  { y with rc := setW0 y.rc 25 25 1, owner := some t, lockAt := ledgerNow s, lockTick := s.time.tick, alarmed := false, w7Changed := false }

theorem openTaken_acts {b t k : Nat} {key : Ckey} {y : Way} {s : State} (hway : wayAt s b k = some y) (u : State) (hu : u = openTaken b t k key s) :
    WayStep b k (lockedWay s t y) s u ∧ (u.tellerAt t).opened = some (some k) ∧ Beside t s u ∧ u = { s with tellers := u.tellers, ledger := u.ledger } := by
  have hopening : Beside t s (s.modTeller t fun x => { x with opening := some (key, hashOf s key) }) := .modTeller rfl
  have hkept : (s.modTeller t fun x => { x with opening := some (key, hashOf s key) }) =
      { s with tellers := (s.modTeller t fun x => { x with opening := some (key, hashOf s key) }).tellers } := rfl
  unfold openTaken at hu
  generalize (s.modTeller t fun x => { x with opening := some (key, hashOf s key) }) = p at hu hopening hkept
  have hsame : SameWays s p := sameWays_of_ledger (by rw [hkept])
  have hlocked : lockedWay s t y = lockedWay p t y := by rw [hkept]; rfl
  have hlock : WayStep b k (lockedWay s t y) s (lockWay b k t p) := by
    have hstays : WayStep b k y p p := ⟨(hsame b k).trans hway, fun _ _ => rfl⟩
    rw [hlocked]
    exact (hstays.modWay _).before hsame
  have hframe : lockWay b k t p = { p with ledger := (lockWay b k t p).ledger } := modWay_frame ..
  generalize lockWay b k t p = q at hu hlock hframe
  have htellers : q.tellers = p.tellers := by rw [hframe]
  subst hu
  refine ⟨hlock.after fun _ _ => rfl, ?_, (hopening.trans (.of_tellers htellers)).trans (.modTeller rfl), ?_⟩
  · rw [answerOpen, State.tellerAt_modTeller_same]
  · rw [hframe, hkept]
    rfl

/-! ### RELWIN -/

/-- No OPEN and no packet runs on a record that none waits for. -/
theorem openersRun_quiet {b k : Nat} {y : Way} {s : State} (hway : wayAt s b k = some y) (hopeners : y.openers = []) (hchain : y.chain = []) (n : Nat) :
    openersRun n b k s = s := by
  have hchains : ∀ m, chainRun m b k s = s := fun m => by
    cases m
    case zero => rfl
    case succ m => simp only [chainRun, hway, hchain, ite_self]
  cases n
  case zero => rfl
  case succ n => simp only [openersRun, hway, hopeners, hchains, ite_self]

theorem quietWay_eta {y : Way} (hsetup : y.setupNew = false) (hw7 : y.w7Changed = false) (hlost : y.lostWords = []) :
    ({ y with setupNew := false, w7Changed := false, lostWords := [] } : Way) = y := by
  cases y
  dsimp only at hsetup hw7 hlost
  rw [hsetup, hw7, hlost]

theorem releaseLock_eq {b k : Nat} {y : Way} {s : State} (hway : wayAt (unlockWay b k s) b k = some y) (hquiet : quietWay y) :
    releaseLock b k s = setWay b k y (unlockWay b k s) := by
  obtain ⟨hsetup, hw7, hlost, hopeners, hchain⟩ := hquiet
  have hmirror : releaseMirror b y (unlockWay b k s) = (false, unlockWay b k s) := by
    simp only [releaseMirror, hsetup, hw7, Bool.false_eq_true, if_false, Bool.and_false]
  have hsame := quietWay_eta hsetup hw7 hlost
  have hset : wayAt (setWay b k y (unlockWay b k s)) b k = some y := wayAt_setWay_same ..
  simp only [releaseLock, hway, hmirror, hlost, ne_eq, not_true, if_false, Bool.false_eq_true]
  rw [hsame]
  exact openersRun_quiet hset hopeners hchain _

/-- The release of a lock that nothing waits for (R116). -/
theorem releaseLock_quiet {b k : Nat} {y : Way} {s : State} (hway : wayAt s b k = some y) (hquiet : quietWay y) (t : State) (ht : t = releaseLock b k s) :
    WayStep b k { y with rc := setW0 y.rc 25 25 0, owner := none } s t ∧ t = { s with ledger := t.ledger } := by
  have hstays : WayStep b k y s s := ⟨hway, fun _ _ => rfl⟩
  have hunlock : WayStep b k { y with rc := setW0 y.rc 25 25 0, owner := none } s (unlockWay b k s) :=
    hstays.modWay fun w => { w with rc := setW0 w.rc 25 25 0, owner := none }
  have hframe : unlockWay b k s = { s with ledger := (unlockWay b k s).ledger } := modWay_frame ..
  rw [releaseLock_eq hunlock.way hquiet] at ht
  generalize unlockWay b k s = p at ht hunlock hframe
  have hput : t = { p with ledger := t.ledger } := by rw [ht]; rfl
  refine ⟨?_, by rw [hput, hframe]⟩
  rw [ht]
  exact hunlock.trans (wayStep_setWay ..)

/-- A bound record released with its affinity written (R116, R166). -/
theorem releaseWindow_acts {b t k : Nat} {noAff : Bool} {y : Way} {s : State} (hwin : (s.tellerAt t).win = some k) (hway : wayAt s b k = some y)
    (hquiet : quietWay y) (u : State) (hu : u = releaseWindow b t noAff s) :
    WayStep b k { affinityKept s t noAff y with rc := setW0 (affinityKept s t noAff y).rc 25 25 0, owner := none } s u ∧
    (u.tellerAt t).win = none ∧ (u.tellerAt t).s = (s.tellerAt t).s ∧ Beside t s u ∧
    u = { s with tellers := u.tellers, disp := u.disp, ledger := u.ledger } := by
  simp only [releaseWindow, hwin] at hu
  generalize hx : ({ s.tellerAt t with win := none, ctx := bindVisit s b k (s.tellerAt t).ctx } : Teller) = x at hu
  have hcut : Beside t s (s.setTeller t x) := by
    rw [← hx]
    exact ⟨fun q hq => tellerAt_setTeller_ne hq _ s, by rw [State.tellerAt_setTeller_same]; rfl⟩
  have hteller : ((s.setTeller t x).tellerAt t).win = none ∧ ((s.setTeller t x).tellerAt t).s = (s.tellerAt t).s := by
    rw [State.tellerAt_setTeller_same, ← hx]
    exact ⟨rfl, rfl⟩
  have hf1 : s.setTeller t x = { s with tellers := (s.setTeller t x).tellers } := rfl
  generalize s.setTeller t x = p at hu hcut hteller hf1
  have hf2 : ∀ id f, modItem b id f p = { p with disp := (modItem b id f p).disp } := fun _ _ => rfl
  generalize hq : modItem b (s.tellerAt t).ctx.item (fun i => if i.way = some k then { i with way := none } else i) p = q at hu
  have hq : q = { p with disp := q.disp } := by rw [← hq]; exact hf2 ..
  have htick : q.time = s.time := by rw [hq, hf1]
  have hsame : SameWays s q := sameWays_of_ledger (by rw [hq, hf1])
  have hstays : WayStep b k y s q := ⟨(hsame b k).trans hway, fun j _ => hsame b j⟩
  have haff : ∀ r, r = (if noAff = true then q else modWay b k (fun y => markDirty q.time.tick
      { y with rc := withWord y.rc 15 (setWbits (setWbits (wordAt y.rc 15) 30 26 (t % 32)) 31 31 1) }) q) →
      WayStep b k (affinityKept s t noAff y) s r ∧ quietWay (affinityKept s t noAff y) ∧ r = { q with ledger := r.ledger } := fun r hr => by
    rw [hr, affinityKept, ← htick]
    cases noAff
    case true => exact ⟨hstays, hquiet, rfl⟩
    case false =>
      refine ⟨hstays.modWay fun y => markDirty q.time.tick
        { y with rc := withWord y.rc 15 (setWbits (setWbits (wordAt y.rc 15) 30 26 (t % 32)) 31 31 1) }, hquiet, ?_⟩
      exact modWay_frame ..
  generalize hr : (if noAff = true then q else modWay b k (fun y => markDirty q.time.tick
      { y with rc := withWord y.rc 15 (setWbits (setWbits (wordAt y.rc 15) 30 26 (t % 32)) 31 31 1) }) q) = r at hu
  obtain ⟨hkept, hstill, hf3⟩ := haff r hr.symm
  obtain ⟨hrel, hf4⟩ := releaseLock_quiet hkept.way hstill u hu
  have htellers : u.tellers = p.tellers := by rw [hf4, hf3, hq]
  refine ⟨hkept.trans hrel, ?_, ?_, hcut.trans (.of_tellers htellers), by rw [hf4, hf3, hq, hf1]⟩
  · rw [tellerAt_of_tellers htellers]
    exact hteller.1
  · rw [tellerAt_of_tellers htellers]
    exact hteller.2

/-! ### Counters of the microcode -/

/-- The register is of the microcode's counters of Teller t's Desk. -/
def mcReg (t p : Nat) : Prop := t < 128 ∧ 0x1C0800 + 0x1000 * (t / 8) ≤ p ∧ p < 0x1C0A00 + 0x1000 * (t / 8)

theorem mcReg_mcCounter {t : Nat} (ht : t < 128) (w : MicroWord) : mcReg t (mcCounter t w) ∧ mcReg t (mcCounter t w + 4) := by
  simp only [mcReg, mcCounter, deskOf, Reg.TELL_MC_CNT_LO]
  omega

theorem regRead_localStore (t p : Nat) (x : Teller) (w : MicroWord) (s : State) : regRead (localStore t x w s) p = regRead s p := by
  unfold localStore
  dsimp only
  split_ifs <;> rfl

section
variable {t p : Nat} (h : mcReg t p)
include h

theorem regRead_perf_mc (code : Nat) (s : State) : regRead (perf (uDesk (deskOf t)) code s) p = regRead s p := by
  obtain ⟨ht, hlo, -⟩ := h
  refine regRead_perfN_ne _ _ _ _ _ (fun k hk => ?_) ?_ ?_
  · simp only [uDesk, deskOf, Reg.PERF_CNT_LO]
    omega
  · simp only [uDesk, deskOf, Reg.PERF_UNIT_CTRL]
    omega
  · simp only [Reg.PERF_IRQ_CAUSE]
    omega

theorem regRead_sieveLookup_mc {b : Nat} (hb : b < 4) (kv : KeyVec) (tpl gen : Nat) (s : State) :
    regRead (sieveLookup b kv tpl gen s).2.2 p = regRead s p := by
  obtain ⟨-, hlo, -⟩ := h
  have hlookup : Reg.SIEVE_LOOKUP_CNT b ≠ p := by simp only [Reg.SIEVE_LOOKUP_CNT]; omega
  have htie : Reg.SIEVE_TIE_CNT b ≠ p := by simp only [Reg.SIEVE_TIE_CNT]; omega
  have hmiss : Reg.SIEVE_MISS_CNT b ≠ p := by simp only [Reg.SIEVE_MISS_CNT]; omega
  unfold sieveLookup
  dsimp only
  split
  · dsimp only
    split
    · rw [regRead_bump_ne _ _ _ htie, regRead_bump_ne _ _ _ hlookup]
    · rw [regRead_bump_ne _ _ _ hlookup]
  · rw [regRead_bump_ne _ _ _ hmiss, regRead_bump_ne _ _ _ hlookup]

theorem regRead_mopEffect_mc {b : Nat} (hb : b < 4) (x : Teller) (w : MicroWord) (s : State) : regRead (mopEffect b t x w s) p = regRead s p := by
  unfold mopEffect
  dsimp only
  split
  · rfl
  · split
    · exact regRead_perf_mc h _ (queueOp t (opOf x w) s)
    · exact regRead_perf_mc h _ (queueOp t (opOf x w) s)
    · exact regRead_perf_mc h _ (queueOp t (opOf x w) s)
    · exact regRead_sieveLookup_mc h hb ..
    · exact regRead_localStore ..

theorem regRead_commit_mc (b : Nat) (x : Teller) (w : MicroWord) (res : List (Nat × Word64)) (sv : Option Bool) (s0 s : State) :
    regRead (commit b t x w res sv s0 s) p = regRead s p := by
  have hperf := regRead_perf_mc h 0x01 (bump64 (Reg.TELL_STEP_CNT_LO (deskOf t)) 1 s)
  obtain ⟨-, hlo, hhi⟩ := h
  have hsteps := regRead_bump64_ne (Reg.TELL_STEP_CNT_LO (deskOf t)) 1 p s (by simp only [Reg.TELL_STEP_CNT_LO, deskOf]; omega)
    (by simp only [Reg.TELL_STEP_CNT_LO, deskOf]; omega)
  have hcause : Reg.TELL_IRQ_CAUSE (deskOf t) ≠ p := by simp only [Reg.TELL_IRQ_CAUSE, deskOf]; omega
  have hover : Reg.TELL_HOLD_OVR_CNT (deskOf t) ≠ p := by simp only [Reg.TELL_HOLD_OVR_CNT, deskOf]; omega
  unfold commit
  generalize aluResult s0 b x w = r
  obtain ⟨d, c⟩ := r
  dsimp only
  generalize aluFlags (mwAop w) d c x = f
  obtain ⟨z, n, c⟩ := f
  generalize holdAfter x w = k
  obtain ⟨hold, full, extra⟩ := k
  dsimp only
  generalize perf (uDesk (deskOf t)) 0x01 (bump64 (Reg.TELL_STEP_CNT_LO (deskOf t)) 1 s) = v at hperf ⊢
  change regRead (if extra = true then cause (Reg.TELL_IRQ_CAUSE (deskOf t)) 2 (bump (Reg.TELL_HOLD_OVR_CNT (deskOf t)) v) else v) p = _
  split
  · rw [regRead_cause_ne _ _ _ _ hcause, regRead_bump_ne _ _ _ hover, hperf, hsteps]
  · rw [hperf, hsteps]

end

/-- A plain word leaves the counter that it names as its counter operation does (R172). -/
theorem pairOf_execWord {w : MicroWord} (h : plainUnits w = true) {b t : Nat} (hb : b < 4) (ht : t < 128) (s : State) :
    ∃ m, pairOf (execWord b t w s) (mcCounter t w) = pairOf (copEffect t (s.tellerAt t) w m) (mcCounter t w) ∧ pairOf m (mcCounter t w) = pairOf s (mcCounter t w) := by
  obtain ⟨-, -, -, hseq⟩ := (plainUnits_iff w).1 h
  obtain ⟨hlo, hhi⟩ := mcReg_mcCounter ht w
  rw [execWord_eq_of_plainUnits h]
  obtain ⟨pc, stack, lc, heq⟩ := seqEffect_sets hseq b t (s.tellerAt t) (condition s b (s.tellerAt t) w)
    (commit b t (s.tellerAt t) w (wordResults s b t (s.tellerAt t) w) none s (plainEffects b t (s.tellerAt t) w s))
  rw [heq]
  refine ⟨(mopEffect b t (s.tellerAt t) w s).modTeller t fun y => { y with ctx := { y.ctx with verdict := nextVerdict (s.tellerAt t) w } }, ?_, ?_⟩
  · change pairOf (commit b t (s.tellerAt t) w (wordResults s b t (s.tellerAt t) w) none s (plainEffects b t (s.tellerAt t) w s)) _ = _
    rw [pairOf, regRead_commit_mc hlo, regRead_commit_mc hhi, ← pairOf, plainEffects]
  · change pairOf (mopEffect b t (s.tellerAt t) w s) _ = _
    rw [pairOf, regRead_mopEffect_mc hlo hb, regRead_mopEffect_mc hhi hb, ← pairOf]

/-- The row of a counter operation, v what it makes of the counter. -/
theorem copDone {s : State} {t : Nat} {k : Nat} {c : Instr} (go : wordGoes s t = true) (plain : plainUnits (theWord s t) = true) (ht : t < 128)
    (hop : mwCop (theWord s t) = k) (hc : exec c s = .next (wordRow (mwCop · == k) t .clean s)) {v : Nat} (hv : v < 2 ^ 64)
    (hset : ∀ m, pairOf m (mcCounter t (theWord s t)) = pairOf s (mcCounter t (theWord s t)) →
      copEffect t (s.tellerAt t) (theWord s t) m = setPair (mcCounter t (theWord s t)) v m) :
    Answers c s fun u => pairOf u (mcCounter t (theWord s t)) = v ∧ wordFrame s t u := by
  refine answers_of_wordGoes go plain hc (beq_iff_eq.2 hop) ⟨?_, wordFrame_execWord plain _⟩
  obtain ⟨m, hpair, hm⟩ := pairOf_execWord plain (b := t / 32) (by omega) ht s
  rw [hpair, hset m hm]
  exact pairOf_setPair_same _ _ _ hv

end Sys2Proof.Machine
end


section
/-!
PROOFS. The packet words PARAM, MIRROR, POLICE, RELEASE and SCAN (R44, R169 to R171, R235, Table 7.11) and the Dispatcher words POST, TRACE and
NOAFF (R188, R199, Table 7.13).
-/
namespace Sys2Proof.Machine

/-! ### Packet words -/

/-- What a packet or Dispatcher word leaves, v the state in which that unit left it. -/
structure UnitDone (s : State) (t : Nat) (sv : Option Bool) (v u : State) : Prop where
  ended : EndedFrom sv (v.tellerAt t) (u.tellerAt t)
  aside : wordAside s t u
  rest : u = { v with tellers := u.tellers, regs := u.regs }

theorem plain_qop {w : MicroWord} (h : plainBut false true false false w = true) : mwFop w ≤ 1 ∧ mwXop w = 0 ∧ mwSeq w < 0xC := by
  obtain ⟨hf, -, hx, hseq⟩ := (plainBut_iff ..).1 h
  exact ⟨hf.resolve_left Bool.false_ne_true, hx.resolve_left Bool.false_ne_true, hseq.resolve_left Bool.false_ne_true⟩

theorem execWord_qop {s s0 v : State} {t : Nat} {w : MicroWord} {sv : Option Bool} (hw : theWord s t = w) (h : plainBut false true false false w = true)
    (h0 : Beside t s s0) (hq : qopDone (t / 32) t (s0.tellerAt t) w (mopEffect (t / 32) t (s0.tellerAt t) w s0) = (sv, v)) (hbeside : Beside t s0 v) :
    UnitDone s t sv v (execWord (t / 32) t w s0) := by
  obtain ⟨hf, hx, hseq⟩ := plain_qop h
  have hxop : mwXop w ≠ 1 := by rw [hx]; decide
  have hf8 : mwFop w ≠ 8 := by omega
  have hdone : unitsDone (t / 32) t (s0.tellerAt t) w s0 = copEffect t (s0.tellerAt t) w v := by
    rw [unitsDone, fopEffect_idle hf, hq, xopEffect_idle hx]
  have hs : unitsS (t / 32) t (s0.tellerAt t) w s0 = sv := by
    rw [unitsS, fopEffect_idle hf, hq, xopEffect_idle hx, if_neg hf8, Option.or_none, Option.none_or]
  have hteller : (copEffect t (s0.tellerAt t) w v).tellerAt t = v.tellerAt t := tellerAt_of_regs (copEffect_regs ..) t
  obtain ⟨haside, hended, hframe⟩ := execWord_done hw h0 hseq (Or.inl hxop) hdone hs (hbeside.trans (beside_copEffect ..))
  rw [hteller] at hended
  refine ⟨hended, haside, ?_⟩
  rw [hframe, copEffect_regs]

/-- The row of a packet word that waits for nothing. -/
theorem answers_of_qop {s v : State} {t k : Nat} {c : Instr} {sv : Option Bool} {P : State → Prop} (go : wordGoes s t = true)
    (plain : plainBut false true false false (theWord s t) = true) (hop : mwQop (theWord s t) = k) (hk : k ≠ 0xA)
    (hroom : k = 0xC → recircFull s (t / 32) (s.tellerAt t).ctx (nextVerdict (s.tellerAt t) (theWord s t)) = false)
    (hc : exec c s = .next (wordRow (mwQop · == k) t .clean s))
    (hq : qopEffect (t / 32) t (s.tellerAt t) (theWord s t) (mopEffect (t / 32) t (s.tellerAt t) (theWord s t) s) = (sv, v)) (hbeside : Beside t s v)
    (hP : ∀ u, UnitDone s t sv v u → P u) : Answers c s P := by
  obtain ⟨hf, -, hseq⟩ := plain_qop plain
  have hf8 : mwFop (theWord s t) ≠ 8 := by omega
  have hq10 : mwQop (theWord s t) ≠ 0xA := by rwa [hop]
  have hdone := execWord_qop (v := v) (sv := sv) rfl plain (.refl t s) (by rw [qopDone, if_neg hq10, hq]) hbeside
  have hfull : (appliesVerdict (theWord s t) && recircFull s (t / 32) (s.tellerAt t).ctx (nextVerdict (s.tellerAt t) (theWord s t))) = false := by
    by_cases h12 : k = 0xC
    · rw [hroom h12, Bool.and_false]
    · rw [appliesVerdict, beq_eq_false_iff_ne.2 (by omega), hop, beq_eq_false_iff_ne.2 h12]
      rfl
  have hrun : runWord (t / 32) t (theWord s t) s = execWord (t / 32) t (theWord s t) s := by
    simp only [runWord, hfull, hf8, hq10, Bool.false_eq_true, false_and, if_false]
  exact answers_of_run go hc (beq_iff_eq.2 hop) hrun (hP _ hdone)

/-- A packet unit that changes the item's context of its Teller alone. -/
theorem ctx_modTeller (f : ItemCtx → ItemCtx) (t : Nat) (s : State) :
    Beside t s (s.modTeller t fun y => { y with ctx := f y.ctx }) ∧
    (s.modTeller t fun y => { y with ctx := f y.ctx }).tellerAt t = { s.tellerAt t with ctx := f (s.tellerAt t).ctx } :=
  ⟨.modTeller rfl, State.tellerAt_modTeller_same ..⟩

/-- A context change after the word's memory operation. -/
theorem ctxWord {s : State} {t k : Nat} {c : Instr} {P : State → Prop} (f : ItemCtx → ItemCtx) (go : wordGoes s t = true)
    (plain : plainBut false true false false (theWord s t) = true) (hop : mwQop (theWord s t) = k) (hk : k ≠ 0xA ∧ k ≠ 0xC)
    (hc : exec c s = .next (wordRow (mwQop · == k) t .clean s))
    (hq : ∀ m, qopEffect (t / 32) t (s.tellerAt t) (theWord s t) m = (none, m.modTeller t fun y => { y with ctx := f y.ctx }))
    (hP : ∀ u kv, (u.tellerAt t).ctx = { f { (s.tellerAt t).ctx with kv := kv } with steps := (f { (s.tellerAt t).ctx with kv := kv }).steps + 1 } →
      (u.tellerAt t).s = (s.tellerAt t).s → (u.tellerAt t).win = (s.tellerAt t).win → wordAside s t u →
      u = { s with tellers := u.tellers, regs := u.regs, coffer := u.coffer } → P u) : Answers c s P := by
  obtain ⟨mem, next, frames, kv, hmop⟩ := mopEffect_teller (t / 32) t (s.tellerAt t) (theWord s t) s
  have hbeside := beside_mopEffect (t / 32) t (s.tellerAt t) (theWord s t) s
  have hrest := mopEffect_rest (t / 32) t (s.tellerAt t) (theWord s t) s
  have hq := hq (mopEffect (t / 32) t (s.tellerAt t) (theWord s t) s)
  obtain ⟨hctx, hteller⟩ := ctx_modTeller f t (mopEffect (t / 32) t (s.tellerAt t) (theWord s t) s)
  refine answers_of_qop go plain hop hk.1 (fun h12 => absurd h12 hk.2) hc hq (hbeside.trans hctx) fun u hu => ?_
  obtain ⟨hended, haside, hframe⟩ := hu
  rw [hteller, hmop] at hended
  refine hP u kv hended.ctx hended.sFlag hended.win haside ?_
  generalize mopEffect (t / 32) t (s.tellerAt t) (theWord s t) s = m at hframe hrest
  rw [hframe, hrest]
  rfl

theorem nextVerdict_stays {x : Teller} {w : MicroWord} (h : mwQop w = 0xC) : nextVerdict x w = x.ctx.verdict := by
  unfold nextVerdict
  dsimp only
  split
  · next hpoliced => exact hpoliced.symm
  · simp only [h]

/-! ### POLICE -/

theorem dispose_acts (port cls code : Nat) (waited : Bool) (hash : Word64) (arr : Nat) (s : State) :
    dispose port cls code waited hash arr s =
      { s with dispo := (dispose port cls code waited hash arr s).dispo, sill := (dispose port cls code waited hash arr s).sill,
               regs := (dispose port cls code waited hash arr s).regs } := by
  have hcount : dispoCount port cls code s = { s with dispo := (dispoCount port cls code s).dispo } := by
    unfold dispoCount
    split <;> rfl
  unfold dispose
  generalize dispoCount port cls code s = p at hcount ⊢
  dsimp only
  split
  · split
    · rw [emit_frame]
      rw [hcount]
    · rw [hcount]
  · rw [hcount]

/-- What a policed packet's word leaves (R171, R179). -/
theorem qopEffect_police {b t : Nat} {x : Teller} {w : MicroWord} {d : Desc} {ok : Bool} {v : State} {s : State} (hop : mwQop w = 9)
    (hdesc : x.ctx.desc = some d) (hpolice : police b (wbits (srcB x w) 15 0) d s = (ok, v)) : qopEffect b t x w s =
    if ok ∨ x.ctx.verdict = some .policed then (some ok, v) else
      (some false, (dispose d.port d.cls DROP_POLICER d.waited d.hash d.arr v).modTeller t fun y => { y with ctx := { y.ctx with verdict := some .policed } }) := by
  simp only [qopEffect, hop, hdesc, hpolice]

theorem qopEffect_police_acts {b t : Nat} {w : MicroWord} {d : Desc} {ok : Bool} {v : State} {s : State} (hop : mwQop w = 9)
    (hdesc : (s.tellerAt t).ctx.desc = some d) (hpolice : police b (wbits (srcB (s.tellerAt t) w) 15 0) d s = (ok, v)) :
    ∃ m, qopEffect b t (s.tellerAt t) w s = (some ok, m) ∧ Beside t s m ∧ m.tellerAt t = { s.tellerAt t with ctx :=
      { (s.tellerAt t).ctx with verdict := if ok = true then (s.tellerAt t).ctx.verdict else some .policed } } ∧ m.tm = v.tm ∧ m.swc = v.swc ∧ (ok = true → m = v) := by
  have hv : v.tellers = s.tellers := tellers_of_crew (police_crew' hpolice)
  rw [qopEffect_police hop hdesc hpolice]
  cases ok
  case true =>
    rw [if_pos (Or.inl rfl)]
    exact ⟨v, rfl, .of_tellers hv, tellerAt_of_tellers hv t, rfl, rfl, fun _ => rfl⟩
  case false =>
    by_cases hold : (s.tellerAt t).ctx.verdict = some .policed
    · rw [if_pos (Or.inr hold)]
      refine ⟨v, rfl, .of_tellers hv, ?_, rfl, rfl, fun h => absurd h Bool.false_ne_true⟩
      rw [tellerAt_of_tellers hv, ← hold]
      rfl
    · rw [if_neg (fun h => h.elim Bool.false_ne_true hold)]
      have hdispose := dispose_acts d.port d.cls DROP_POLICER d.waited d.hash d.arr v
      generalize dispose d.port d.cls DROP_POLICER d.waited d.hash d.arr v = p at hdispose ⊢
      have hp : p.tellers = s.tellers := by rw [hdispose, ← hv]
      obtain ⟨hctx, hteller⟩ := ctx_modTeller (fun c => { c with verdict := some .policed }) t p
      rw [tellerAt_of_tellers hp] at hteller
      exact ⟨_, rfl, (Beside.of_tellers hp).trans hctx, hteller, by rw [State.modTeller_tm, hdispose], by rw [State.modTeller_swc, hdispose],
        fun h => absurd h Bool.false_ne_true⟩

/-! ### RELEASE -/

theorem qopEffect_release {b t : Nat} {x : Teller} {w : MicroWord} {d : Desc} (hop : mwQop w = 0xC) (hdesc : x.ctx.desc = some d) (s : State) :
    qopEffect b t x w s = (none, releasePacket b t s) := by
  simp only [qopEffect, hop, hdesc]

theorem releasePacket_acts (b t : Nat) (s v : State) (hv : v = releasePacket b t s) :
    v.tellerAt t = { s.tellerAt t with ctx := { (s.tellerAt t).ctx with released := true } } ∧ Beside t s v ∧
    v.swc = (packetEnd b (s.tellerAt t).ctx s).swc ∧ v.tm = (packetEnd b (s.tellerAt t).ctx s).tm ∧
    (v.dispAt b).items = updFirst (fun x => x.id == (s.tellerAt t).ctx.item) (fun i => { i with desc := none })
      ((packetEnd b (s.tellerAt t).ctx s).dispAt b).items := by
  have htellers : (packetEnd b (s.tellerAt t).ctx s).tellers = s.tellers := tellers_of_crew (packetEnd_crew ..)
  unfold releasePacket at hv
  dsimp only at hv
  generalize packetEnd b (s.tellerAt t).ctx s = p at hv htellers ⊢
  obtain ⟨hctx, hteller⟩ := ctx_modTeller (fun c => { c with released := true }) t p
  rw [tellerAt_of_tellers htellers] at hteller
  subst hv
  refine ⟨hteller, ((Beside.of_tellers htellers).trans hctx).trans (.of_tellers rfl), rfl, rfl, ?_⟩
  rw [modItem, State.dispAt_modDisp_same]
  rfl

end Sys2Proof.Machine
end


section
/-!
PROOFS. The packet word SCAN (R233 to R245, Table 10.4) and the Dispatcher words POST, TRACE and NOAFF (R188, R199, Table 7.13).
-/
namespace Sys2Proof.Machine

/-! ### SCAN -/

theorem runWord_scan {b t : Nat} {w : MicroWord} {d : Desc} {s : State} (plain : plainBut false true false false w = true) (hop : mwQop w = 0xA)
    (hdesc : (s.tellerAt t).ctx.desc = some d) :
    (issueScan b t (s.tellerAt t).ctx.item d (s.tellerAt t).win (mwQarg w) (srcB (s.tellerAt t) w) s = .wait → runWord b t w s = waitWord t s) ∧
    (∀ s0, issueScan b t (s.tellerAt t).ctx.item d (s.tellerAt t).win (mwQarg w) (srcB (s.tellerAt t) w) s = .done s0 →
      runWord b t w s = execWord b t w s0) := by
  obtain ⟨hf, -, hseq⟩ := plain_qop plain
  have hf8 : mwFop w ≠ 8 := by omega
  have hverdict : appliesVerdict w = false := by
    rw [appliesVerdict, beq_eq_false_iff_ne.2 (by omega), hop]
    rfl
  constructor
  · intro hwait
    simp only [runWord, hverdict, hf8, hop, hdesc, hwait, Bool.false_and, Bool.false_eq_true, false_and, if_false, if_true]
  · intro s0 hissue
    simp only [runWord, hverdict, hf8, hop, hdesc, hissue, Bool.false_and, Bool.false_eq_true, false_and, if_false, if_true]

/-- A scan word executes when its request has been issued, s0 the state after that. -/
theorem answers_of_scan {s s0 : State} {t : Nat} {d : Desc} {c : Instr} {P : State → Prop} (go : wordGoes s t = true)
    (plain : plainBut false true false false (theWord s t) = true) (hop : mwQop (theWord s t) = 0xA) (hm : mwMop (theWord s t) = 0)
    (hdesc : (s.tellerAt t).ctx.desc = some d) (hc : exec c s = .next (wordRow (mwQop · == 0xA) t .clean s))
    (hissue : issueScan (t / 32) t (s.tellerAt t).ctx.item d (s.tellerAt t).win (mwQarg (theWord s t)) (srcB (s.tellerAt t) (theWord s t)) s = .done s0)
    (h0 : Beside t s s0) (hP : ∀ u, UnitDone s t none s0 u → P u) : Answers c s P := by
  have hq : qopDone (t / 32) t (s0.tellerAt t) (theWord s t) (mopEffect (t / 32) t (s0.tellerAt t) (theWord s t) s0) = (none, s0) := by
    rw [qopDone, if_pos hop, mopEffect_idle hm]
  exact answers_of_run go hc (beq_iff_eq.2 hop) ((runWord_scan plain hop hdesc).2 s0 hissue) (hP _ (execWord_qop rfl plain h0 hq (.refl t s0)))

/-- An engine that is off answers at once (R237). -/
theorem issueScan_off {b t item qarg : Nat} {d : Desc} {src : Word64} {s : State} (hoff : domOn s (17 + b) = false) :
    ∃ q : ScanReq, issueScan b t item d none qarg src s = .done (giveResult q (bareResult 0x9) s) ∧ q.teller = t ∧ q.item = item :=
  ⟨_, if_pos (by rw [hoff]; rfl), rfl, rfl⟩

theorem giveResult_own {q : ScanReq} {t : Nat} {w : Word64} {s : State} (hteller : q.teller = t) (hitem : q.item = (s.tellerAt t).ctx.item) :
    (giveResult q w s).tellerAt t = { s.tellerAt t with ctx := { (s.tellerAt t).ctx with scan := some w, scanBusy := false } } := by
  rw [giveResult, hteller, State.tellerAt_modTeller_same, hitem]
  exact if_pos rfl

theorem beside_giveResult {q : ScanReq} {t : Nat} {w : Word64} {s : State} (hteller : q.teller = t) : Beside t s (giveResult q w s) := by
  rw [giveResult, hteller]
  refine .modTeller ?_
  split
  · rfl
  · split
    · split <;> rfl
    · rfl

/-- The state in which the engine of Branch b has taken request q of Teller t (R234). -/
def scanTaken (b t : Nat) (d : Desc) (q : ScanReq) (s : State) : State :=
  s.setNose b { s.noseAt b with queue := (s.noseAt b).queue ++ [q], nextReq := (s.noseAt b).nextReq + 1 }
    |> modFrame d.frame (fun x => { x with scanned := true })
    |> (·.modTeller t fun x => { x with ctx := { x.ctx with scan := none, scanBusy := true } })
    |> noteBacklog b |> noseBurst b

/-- The request of a SCAN without a record window (Table 10.4). -/
def scanFor (s : State) (b t item qarg : Nat) (d : Desc) (src : Word64) : ScanReq :=
  { id := (s.noseAt b).nextReq, teller := t, item := item, frame := d.frame, head := d.head, startOff := qarg, maxLen := wbits src 15 0,
    group := wbits src 21 16, isNew := src.getLsbD 22, monitor := src.getLsbD 23, hash := d.hash, port := d.port, eff := wbits src 21 16 }

theorem issueScan_takes {b t item qarg : Nat} {d : Desc} {src : Word64} {s : State} (hplain : src.getLsbD 23 = false)
    (htakes : noseTakes s b (wbits src 21 16) = true) :
    issueScan b t item d none qarg src s = .done (scanTaken b t d (scanFor s b t item qarg d src) s) := by
  simp only [noseTakes, Bool.and_eq_true, decide_eq_true_iff, Bool.not_eq_true'] at htakes
  obtain ⟨⟨⟨⟨⟨⟨hon, hfree⟩, hloaded⟩, hrange⟩, hvalid⟩, hqueue⟩, hbacklog⟩ := htakes
  have hgroup : ¬ (s.automata.groupCount ≤ wbits src 21 16 ∨ (groupAt s (wbits src 21 16)).limit ≤ (groupAt s (wbits src 21 16)).base) := by omega
  have hbusy : ¬ (256 ≤ noseQueued (s.noseAt b) ∨ 1024 * max 1 (fieldOf s (Reg.NOSE_BACKLOG_CFG 0) 15 0) ≤ backlog s b) := by omega
  have heff : effGroup s b none (wbits src 21 16) (src.getLsbD 22) = (wbits src 21 16, false) := rfl
  unfold issueScan
  dsimp only
  rw [heff]
  dsimp only
  rw [if_neg (by rw [hon]; decide), if_neg (by rw [hfree]; decide), if_neg hgroup, if_neg (by rw [hvalid]; decide), if_neg hbusy,
    if_neg (by rw [hplain]; decide)]
  rfl

theorem modFrame_swc_congr {s t : State} (h : t.swc = s.swc) (f : Nat) (g : Frame → Frame) : (modFrame f g t).swc = (modFrame f g s).swc := by
  have hframe : frameAt t f = frameAt s f := by rw [frameAt, h, frameAt]
  unfold modFrame
  rw [hframe]
  cases frameAt s f
  case none => exact h
  case some x => simp only [setFrame, h]

theorem traffic_noseBurst (b : Nat) (s : State) : (noseBurst b s).traffic = s.traffic := by
  unfold noseBurst
  dsimp only
  split
  · exact requestAllowance_traffic ..
  · rfl

theorem scanTaken_acts (b t : Nat) (d : Desc) (q : ScanReq) (s v : State) (hv : v = scanTaken b t d q s) :
    (v.noseAt b).queue = (s.noseAt b).queue ++ [q] ∧ Beside t s v ∧
    v.tellerAt t = { s.tellerAt t with ctx := { (s.tellerAt t).ctx with scan := none, scanBusy := true } } ∧
    v.ledger = s.ledger ∧ v.vault = s.vault ∧ v.swc = (modFrame d.frame (fun x => { x with scanned := true }) s).swc := by
  unfold scanTaken at hv
  dsimp only at hv
  have hqueue : ((s.setNose b { s.noseAt b with queue := (s.noseAt b).queue ++ [q], nextReq := (s.noseAt b).nextReq + 1 }).noseAt b).queue =
      (s.noseAt b).queue ++ [q] := by
    rw [State.noseAt_setNose_same]
  have hset : s.setNose b { s.noseAt b with queue := (s.noseAt b).queue ++ [q], nextReq := (s.noseAt b).nextReq + 1 } =
      { s with nose := (s.setNose b { s.noseAt b with queue := (s.noseAt b).queue ++ [q], nextReq := (s.noseAt b).nextReq + 1 }).nose } := rfl
  generalize s.setNose b { s.noseAt b with queue := (s.noseAt b).queue ++ [q], nextReq := (s.noseAt b).nextReq + 1 } = p at hv hqueue hset
  have hframes := modFrame_swc_congr (show p.swc = s.swc by rw [hset]) d.frame (fun x => { x with scanned := true })
  have hmod := modFrame_swc d.frame (fun x => { x with scanned := true }) p
  generalize modFrame d.frame (fun x => { x with scanned := true }) p = r at hv hframes hmod
  have htellers : r.tellers = s.tellers := by rw [hmod, hset]
  obtain ⟨hctx, hteller⟩ := ctx_modTeller (fun c => { c with scan := none, scanBusy := true }) t r
  rw [tellerAt_of_tellers htellers] at hteller
  have hnose : (r.modTeller t fun x => { x with ctx := { x.ctx with scan := none, scanBusy := true } }) =
      { r with tellers := (r.modTeller t fun x => { x with ctx := { x.ctx with scan := none, scanBusy := true } }).tellers } := rfl
  generalize r.modTeller t (fun x => { x with ctx := { x.ctx with scan := none, scanBusy := true } }) = y at hv hctx hteller hnose
  have hback : noteBacklog b y = { y with nose := (noteBacklog b y).nose } := rfl
  have hkept : ((noteBacklog b y).noseAt b).queue = (y.noseAt b).queue := by
    unfold noteBacklog
    dsimp only
    rw [State.noseAt_modNose_same]
  generalize noteBacklog b y = z at hv hback hkept
  have htraffic := traffic_noseBurst b z
  rw [← hv] at htraffic
  simp only [State.traffic, Prod.mk.injEq] at htraffic
  obtain ⟨-, -, -, hswc, -, -, hledger, -, hvtellers, -, hvnose, hvault⟩ := htraffic
  have hzt : v.tellers = y.tellers := by rw [hvtellers, hback]
  refine ⟨?_, ((Beside.of_tellers htellers).trans hctx).trans (.of_tellers hzt), ?_, ?_, ?_, ?_⟩
  · rw [noseAt_of_nose hvnose, hkept, noseAt_of_nose (show y.nose = p.nose by rw [hnose, hmod]), hqueue]
  · rw [tellerAt_of_tellers hzt, hteller]
  · rw [hledger, hback, hnose, hmod, hset]
  · rw [hvault, hback, hnose, hmod, hset]
  · rw [hswc, hback, hnose, hframes]

/-! ### Dispatcher words -/

theorem plain_xop {w : MicroWord} (h : plainBut false false true false w = true) :
    mwFop w ≤ 1 ∧ mwQop w ∉ [4, 7, 9, 10, 12] ∧ mwSeq w < 0xC := by
  obtain ⟨hf, hq, -, hseq⟩ := (plainBut_iff ..).1 h
  exact ⟨hf.resolve_left Bool.false_ne_true, hq.resolve_left Bool.false_ne_true, hseq.resolve_left Bool.false_ne_true⟩

/-- The state in which a word with neither memory nor counter operation has noted its verdict. -/
def verdictNoted (t : Nat) (w : MicroWord) (s : State) : State :=
  s.modTeller t fun y => { y with ctx := { y.ctx with verdict := nextVerdict (s.tellerAt t) w } }

theorem verdictNoted_rest (t : Nat) (w : MicroWord) (s : State) : verdictNoted t w s = { s with tellers := (verdictNoted t w s).tellers } := rfl

theorem verdictNoted_teller (t : Nat) (w : MicroWord) (s : State) : (verdictNoted t w s).tellerAt t =
    { s.tellerAt t with ctx := { (s.tellerAt t).ctx with verdict := nextVerdict (s.tellerAt t) w } } := State.tellerAt_modTeller_same ..

theorem beside_verdictNoted (t : Nat) (w : MicroWord) (s : State) : Beside t s (verdictNoted t w s) := .modTeller rfl

theorem copEffect_idle {w : MicroWord} (hc : mwCop w = 0) (t : Nat) (x : Teller) (s : State) : copEffect t x w s = s := by
  simp only [copEffect, hc]

/-- A word with neither memory nor counter operation, before its Dispatcher unit acts. -/
theorem unitsDone_xop {w : MicroWord} (hf : mwFop w ≤ 1) (hq : mwQop w ∉ [4, 7, 9, 10, 12]) (hm : mwMop w = 0) (hcop : mwCop w = 0) (b t : Nat) (s : State) :
    unitsDone b t (s.tellerAt t) w s = (xopEffect b t (s.tellerAt t) w (verdictNoted t w s)).2 ∧
    unitsS b t (s.tellerAt t) w s = (xopEffect b t (s.tellerAt t) w (verdictNoted t w s)).1 := by
  have hq10 : mwQop w ≠ 0xA := fun heq => hq (by rw [heq]; decide)
  have hf8 : mwFop w ≠ 8 := by omega
  have hqop : qopDone b t (s.tellerAt t) w s = (none, verdictNoted t w s) := by
    rw [qopDone, if_neg hq10, qopEffect_verdict hq, verdictNoted]
  constructor
  · rw [unitsDone, fopEffect_idle hf, mopEffect_idle hm, hqop, copEffect_idle hcop]
  · rw [unitsS, fopEffect_idle hf, mopEffect_idle hm, hqop, copEffect_idle hcop, if_neg hf8, Option.none_or, Option.none_or]

theorem plain_runs {w : MicroWord} (hf : mwFop w ≤ 1) (hq : mwQop w ∉ [4, 7, 9, 10, 12]) (hseq : mwSeq w ≠ 0xC) (b t : Nat) (s : State) :
    runWord b t w s = execWord b t w s := by
  have h12 : mwQop w ≠ 0xC := fun heq => hq (by rw [heq]; decide)
  refine runWord_goes ?_ (by omega) fun heq => hq (by rw [heq]; decide)
  rw [appliesVerdict, beq_eq_false_iff_ne.2 hseq, beq_eq_false_iff_ne.2 h12]
  rfl

/-- The row of a Dispatcher word other than YIELD. -/
theorem answers_of_xop {s v : State} {t k : Nat} {c : Instr} {sv : Option Bool} {P : State → Prop} (go : wordGoes s t = true)
    (plain : plainBut false false true false (theWord s t) = true) (hop : mwXop (theWord s t) = k) (hk : k ≠ 1) (hm : mwMop (theWord s t) = 0)
    (hcop : mwCop (theWord s t) = 0) (hc : exec c s = .next (wordRow (mwXop · == k) t .clean s))
    (hx : xopEffect (t / 32) t (s.tellerAt t) (theWord s t) (verdictNoted t (theWord s t) s) = (sv, v)) (hbeside : Beside t s v)
    (hP : ∀ u, UnitDone s t sv v u → P u) : Answers c s P := by
  obtain ⟨hf, hq, hseq⟩ := plain_xop plain
  obtain ⟨hdone, hs⟩ := unitsDone_xop hf hq hm hcop (t / 32) t s
  rw [hx] at hdone hs
  obtain ⟨haside, hended, hframe⟩ := execWord_done (s := s) rfl (.refl t s) hseq (Or.inl (by rwa [hop])) hdone hs hbeside
  exact answers_of_run go hc (beq_iff_eq.2 hop) (plain_runs hf hq (by omega) ..) (hP _ ⟨hended, haside, hframe⟩)

/-- The item that POST offers (Table 7.13). -/
def postedItem (b : Nat) (x : Teller) (w : MicroWord) (s : State) : Item :=
  { id := 0, g0 := (srcB x w &&& offeredMask) ||| BitVec.ofNat 64 (2 ^ 8 * 3 + 2 ^ 14 + 2 ^ 38 * b), g1 := gReg x (mwBs w + 1), g3 := gReg x (mwBs w + 3),
    prio := 3, kind := .post, readyAt := s.time.tick }

theorem postItem_eq (b : Nat) (x : Teller) (w : MicroWord) (s : State) : postItem b x w s =
    if itemRoutine (postedItem b x w s).g0 ≠ 0 ∧ placeFree s b 3 then (true, addItem b (postedItem b x w s) s)
    else (false, noteRefused b (postedItem b x w s) s) := rfl

theorem noteRefused_acts (b : Nat) (i : Item) (s t : State) (ht : t = noteRefused b i s) :
    (t.dispAt b).items = (s.dispAt b).items ∧ t = { s with disp := t.disp, regs := t.regs, sill := t.sill } := by
  unfold noteRefused at ht
  have hcount := bump_frame (Reg.DISP_POST_REFUSED_CNT b) s
  generalize bump (Reg.DISP_POST_REFUSED_CNT b) s = p at ht hcount
  have hcause := cause_frame (Reg.DISP_IRQ_CAUSE b) 1 p
  generalize cause (Reg.DISP_IRQ_CAUSE b) 1 p = q at ht hcause
  obtain ⟨hdisp, hframe⟩ := trace_acts b 6 i 0 none q t ht
  refine ⟨?_, by rw [hframe, hcause, hcount]⟩
  rw [hdisp, dispAt_of_disp (show q.disp = s.disp by rw [hcause, hcount])]

/-- An item offered by POST joins the ready list or is refused (R188). -/
theorem postItem_acts (b : Nat) (x : Teller) (w : MicroWord) (s : State) : ∃ v, postItem b x w s =
      (Decidable.decide (itemRoutine (postedItem b x w s).g0 ≠ 0) && placeFree s b 3, v) ∧
    (itemRoutine (postedItem b x w s).g0 ≠ 0 → placeFree s b 3 = true → (v.dispAt b).items = (s.dispAt b).items ++
      [{ postedItem b x w s with id := (s.dispAt b).nextId, order := (s.dispAt b).nextId }]) ∧
    (itemRoutine (postedItem b x w s).g0 = 0 ∨ placeFree s b 3 = false → (v.dispAt b).items = (s.dispAt b).items) ∧
    v = { s with disp := v.disp, regs := v.regs, sill := v.sill } := by
  rw [postItem_eq]
  by_cases hboth : itemRoutine (postedItem b x w s).g0 ≠ 0 ∧ placeFree s b 3 = true
  · obtain ⟨hdisp, -, hframe⟩ := addItem_acts (i := postedItem b x w s) rfl b s _ rfl
    obtain ⟨hroutine, hplace⟩ := hboth
    refine ⟨addItem b (postedItem b x w s) s, ?_, fun _ _ => ?_, fun hno => ?_, ?_⟩
    · rw [if_pos ⟨hroutine, hplace⟩, decide_eq_true hroutine, hplace]
      rfl
    · rw [hdisp]
      rfl
    · rcases hno with hzero | hfull
      · exact absurd hzero hroutine
      · rw [hfull] at hplace
        cases hplace
    · rw [hframe]
  · obtain ⟨hitems, hframe⟩ := noteRefused_acts b (postedItem b x w s) s _ rfl
    refine ⟨noteRefused b (postedItem b x w s) s, ?_, fun hroutine hplace => absurd ⟨hroutine, hplace⟩ hboth, fun _ => hitems, hframe⟩
    rw [if_neg hboth]
    congr 1
    symm
    rw [Bool.eq_false_iff]
    intro hyes
    rw [Bool.and_eq_true, decide_eq_true_iff] at hyes
    exact hboth hyes

end Sys2Proof.Machine
end


section
/-!
PROOFS. The sequencer words TRAPV, HALT, RESUME and END (R161, R180, R181, Table 7.4) and the Dispatcher word YIELD (R181, R196).
-/
namespace Sys2Proof.Machine

/-! ### A word whose other units stay inside its Teller -/

/-- The end of the step of a word with no memory operation, before the sequencer or YIELD acts: c is the state then. -/
structure StepEnd (s : State) (t : Nat) (w : MicroWord) (c : State) : Prop where
  ended : EndedFrom none ((verdictNoted t w s).tellerAt t) (c.tellerAt t)
  pc : (c.tellerAt t).pc = (s.tellerAt t).pc
  stack : (c.tellerAt t).stack = (s.tellerAt t).stack
  others : ∀ q, q ≠ t → c.tellerAt q = s.tellerAt q
  aside : ∀ u, Beside t c u → wordAside s t u
  rest : c = { s with tellers := c.tellers, regs := c.regs }

theorem xopEffect_inside {w : MicroWord} (hx : mwXop w ≤ 1) (b t : Nat) (x : Teller) (s : State) : xopEffect b t x w s = (none, s) := by
  unfold xopEffect
  split
  case h_1 hop => omega
  case h_2 hop => omega
  case h_3 hop => omega
  case h_4 => rfl

theorem stepEnd {s : State} {b t : Nat} {w : MicroWord} (hw : theWord s t = w) (hf : mwFop w ≤ 1) (hq : mwQop w ∉ [4, 7, 9, 10, 12]) (hm : mwMop w = 0)
    (hx : mwXop w ≤ 1) : StepEnd s t w (unitsEnd b t w s) := by
  have hq10 : mwQop w ≠ 0xA := fun heq => hq (by rw [heq]; decide)
  have hf8 : mwFop w ≠ 8 := by omega
  have hqop : qopDone b t (s.tellerAt t) w s = (none, verdictNoted t w s) := by
    rw [qopDone, if_neg hq10, qopEffect_verdict hq, verdictNoted]
  have hdone : unitsDone b t (s.tellerAt t) w s = copEffect t (s.tellerAt t) w (verdictNoted t w s) := by
    rw [unitsDone, fopEffect_idle hf, mopEffect_idle hm, hqop, xopEffect_inside hx]
  have hs : unitsS b t (s.tellerAt t) w s = none := by
    rw [unitsS, fopEffect_idle hf, mopEffect_idle hm, hqop, xopEffect_inside hx, if_neg hf8, Option.none_or, Option.none_or]
  have hteller : (copEffect t (s.tellerAt t) w (verdictNoted t w s)).tellerAt t = (verdictNoted t w s).tellerAt t := tellerAt_of_regs (copEffect_regs ..) t
  have hbeside : Beside t s (copEffect t (s.tellerAt t) w (verdictNoted t w s)) := (beside_verdictNoted t w s).trans (beside_copEffect ..)
  have hrest : copEffect t (s.tellerAt t) w (verdictNoted t w s) = { s with
      tellers := (verdictNoted t w s).tellers, regs := (copEffect t (s.tellerAt t) w (verdictNoted t w s)).regs } := by
    have hregs := copEffect_regs t (s.tellerAt t) w (verdictNoted t w s)
    generalize copEffect t (s.tellerAt t) w (verdictNoted t w s) = v at hregs ⊢
    rw [hregs, verdictNoted_rest]
  have haside : ∀ u, Beside t (unitsEnd b t w s) u → wordAside s t u := fun u hu => by
    rw [unitsEnd, hdone, hs] at hu
    exact wordAside_of_commit hw (.refl t s) hbeside hu
  rw [unitsEnd, hdone, hs] at haside ⊢
  generalize copEffect t (s.tellerAt t) w (verdictNoted t w s) = v at hteller hbeside hrest haside ⊢
  obtain ⟨hended, hpc, hstack, hframe⟩ := commit_teller b t (s.tellerAt t) w (wordResults s b t (s.tellerAt t) w) none s v _ rfl
  rw [hteller] at hended hpc hstack
  rw [verdictNoted_teller] at hpc hstack
  refine ⟨hended, hpc, hstack, fun q hq => ?_, haside, ?_⟩
  · obtain ⟨hothers, -⟩ := haside _ (.refl t _)
    exact hothers q hq
  · rw [hframe, hrest]

theorem plain_seq {w : MicroWord} (h : plainBut false false false true w = true) : mwFop w ≤ 1 ∧ mwQop w ∉ [4, 7, 9, 10, 12] ∧ mwXop w = 0 := by
  obtain ⟨hf, hq, hx, -⟩ := (plainBut_iff ..).1 h
  exact ⟨hf.resolve_left Bool.false_ne_true, hq.resolve_left Bool.false_ne_true, hx.resolve_left Bool.false_ne_true⟩

/-- The row of a sequencer word, c the state in which its other units have ended the step. -/
theorem answers_of_seq {s : State} {t k : Nat} {i : Instr} {P : State → Prop} (go : wordGoes s t = true)
    (plain : plainBut false false false true (theWord s t) = true) (hop : mwSeq (theWord s t) = k) (hm : mwMop (theWord s t) = 0)
    (hroom : k = 0xC → recircFull s (t / 32) (s.tellerAt t).ctx (nextVerdict (s.tellerAt t) (theWord s t)) = false)
    (hc : exec i s = .next (wordRow (mwSeq · == k) t .clean s))
    (hP : ∀ c, StepEnd s t (theWord s t) c → ∀ cond, P (seqEffect (t / 32) t (s.tellerAt t) (theWord s t) cond c)) : Answers i s P := by
  obtain ⟨hf, hq, hx⟩ := plain_seq plain
  have hf8 : mwFop (theWord s t) ≠ 8 := by omega
  have hq10 : mwQop (theWord s t) ≠ 0xA := fun heq => hq (by rw [heq]; decide)
  have h12 : mwQop (theWord s t) ≠ 0xC := fun heq => hq (by rw [heq]; decide)
  have hxop : mwXop (theWord s t) ≠ 1 := by rw [hx]; decide
  have hfull : (appliesVerdict (theWord s t) && recircFull s (t / 32) (s.tellerAt t).ctx (nextVerdict (s.tellerAt t) (theWord s t))) = false := by
    by_cases hend : k = 0xC
    · rw [hroom hend, Bool.and_false]
    · rw [appliesVerdict, hop, beq_eq_false_iff_ne.2 hend, beq_eq_false_iff_ne.2 h12]
      rfl
  have hrun : runWord (t / 32) t (theWord s t) s = execWord (t / 32) t (theWord s t) s := by
    simp only [runWord, hfull, hf8, hq10, Bool.false_eq_true, false_and, if_false]
  refine answers_of_run go hc (beq_iff_eq.2 hop) (hrun.trans (execWord_leads (Or.inl hxop))) (hP _ (stepEnd rfl hf hq hm (by omega)) _)

/-! ### TRAPV and HALT -/

theorem seqEffect_trapv {w : MicroWord} (hop : mwSeq w = 0xE) (b t : Nat) (x : Teller) (cond : Bool) (s : State) : seqEffect b t x w cond s =
    s.modTeller t fun y => { y with pc := nextPc x, traps := y.traps ++ [.soft (mwNaddr w % 16)] } := by
  simp only [seqEffect, hop]

theorem seqEffect_halt {w : MicroWord} (hop : mwSeq w = 0xF) (b t : Nat) (x : Teller) (cond : Bool) (s : State) :
    seqEffect b t x w cond s = haltTeller t w s := by
  simp only [seqEffect, hop]

theorem haltTeller_acts (t : Nat) (w : MicroWord) (s u : State) (hu : u = haltTeller t w s) :
    u.tellerAt t = { s.tellerAt t with st := .halt, haltAt := some (mwNaddr w) } ∧ Beside t s u ∧
    flagOf u (Reg.TELL_TCAUSE (deskOf t) (t % 8)) 1 = true ∧ u = { s with tellers := u.tellers, regs := u.regs } := by
  unfold haltTeller at hu
  dsimp only at hu
  have hset : (s.modTeller t fun y => { y with st := .halt, haltAt := some (mwNaddr w) }).tellerAt t =
      { s.tellerAt t with st := .halt, haltAt := some (mwNaddr w) } := State.tellerAt_modTeller_same ..
  have hbeside : Beside t s (s.modTeller t fun y => { y with st := .halt, haltAt := some (mwNaddr w) }) := .modTeller rfl
  have hkept : (s.modTeller t fun y => { y with st := .halt, haltAt := some (mwNaddr w) }) =
      { s with tellers := (s.modTeller t fun y => { y with st := .halt, haltAt := some (mwNaddr w) }).tellers } := rfl
  generalize s.modTeller t (fun y => { y with st := .halt, haltAt := some (mwNaddr w) }) = p at hu hset hbeside hkept
  subst hu
  refine ⟨?_, hbeside.trans (.of_tellers (cause_tellers ..)), flagOf_cause_same _ _ _ (by decide), ?_⟩
  · rw [tellerAt_of_tellers (cause_tellers ..), hset]
  · rw [cause_frame, hkept]

/-! ### RESUME -/

theorem seqEffect_resume {w : MicroWord} (hop : mwSeq w = 0xD) (b t : Nat) (x : Teller) (cond : Bool) (s : State) :
    seqEffect b t x w cond s = resume b t s := by
  simp only [seqEffect, hop]

theorem resume_plain {b t : Nat} {fr : TrapFrame} {rest : List TrapFrame} {s : State} (hframes : (s.tellerAt t).frames = fr :: rest)
    (hplain : handlerOf (s.tellerAt t) = none) : resume b t s = s.setTeller t { restoreFrame fr (s.tellerAt t) with frames := rest } := by
  simp only [resume, hplain, popFrame, hframes]

theorem gReg_restoreFrame (fr : TrapFrame) (x : Teller) {r : Nat} (hr : r < 32) : gReg (restoreFrame fr x) r = wordAt fr.f (16 + r) := by
  rw [gReg, restoreFrame, wordAt, List.getD_eq_getElem?_getD, Vector.getElem?_toList, Vector.getElem?_ofFn, dif_pos hr]
  rfl

/-! ### END -/

theorem seqEffect_end {w : MicroWord} (hop : mwSeq w = 0xC) (b t : Nat) (x : Teller) (cond : Bool) (s : State) :
    seqEffect b t x w cond s = endItem b t s := by
  simp only [seqEffect, hop]

theorem auditReleased_none {s : State} (h : s.audit.waiting = []) : auditReleased s = s := by
  have hsame : { s.audit with waiting := [] } = s.audit := by rw [← h]
  simp only [auditReleased, h, List.filter_nil, List.foldl_nil]
  rw [hsame]

theorem learn_acts (b t : Nat) (c : ItemCtx) (s u : State) (hu : u = learn b t c s) :
    (u.dispAt b).items = (s.dispAt b).items ∧ u = { s with disp := u.disp } := by
  unfold learn at hu
  subst hu
  split
  · refine ⟨?_, rfl⟩
    rw [setAff, State.dispAt_modDisp_same]
  · exact ⟨rfl, rfl⟩

theorem dropRequest_acts (b t : Nat) (s : State) :
    ((dropRequest b t s).dispAt b).items = (s.dispAt b).items ∧ dropRequest b t s = { s with disp := (dropRequest b t s).disp } := by
  refine ⟨?_, rfl⟩
  rw [dropRequest, State.dispAt_modDisp_same]

theorem endKind_plain {i : Item} (h : i.kind = .packet ∨ i.kind = .post ∨ i.kind = .sweep ∨ i.kind = .nose) (b t : Nat) (s : State) : endKind b t i s = s := by
  unfold endKind
  rcases h with hk | hk | hk | hk <;> rw [hk]

theorem noteDrained_frame (d : Nat) (s : State) : noteDrained d s = { s with regs := (noteDrained d s).regs } := by
  unfold noteDrained
  split
  · exact cause_frame ..
  · rfl

/-- The counts at the end of an item (R179). -/
def itemCounted (t prio : Nat) (s : State) : State :=
  let s := s |> bump64 (Reg.TELL_ITEM_CNT_LO (deskOf t)) 1 |> perf (uDesk (deskOf t)) 0x02
  if prio ≤ 1 then perf (uDesk (deskOf t)) 0x05 s else if prio = 3 then perf (uDesk (deskOf t)) 0x06 s else s

theorem itemCounted_frame (t prio : Nat) (s : State) : itemCounted t prio s = { s with regs := (itemCounted t prio s).regs } := by
  unfold itemCounted
  dsimp only
  have hcount := bump64_frame (Reg.TELL_ITEM_CNT_LO (deskOf t)) 1 s
  generalize bump64 (Reg.TELL_ITEM_CNT_LO (deskOf t)) 1 s = p at hcount ⊢
  have hperf := perf_frame (uDesk (deskOf t)) 0x02 p
  generalize perf (uDesk (deskOf t)) 0x02 p = q at hperf ⊢
  have hq : q = { s with regs := q.regs } := by rw [hperf, hcount]
  split
  · rw [perf_frame, hq]
  · split
    · rw [perf_frame, hq]
    · exact hq

/-- What the end of an item does by its kind (R179). -/
def endActs (b t : Nat) (i : Option Item) (s : State) : State :=
  match i with
  | some i => s |> endKind b t i |> wakeFlow b i
  | none => s

/-- The Teller freed at the end of an item, or its parked item resumed (R179, R181). -/
def tellerFreed (b t : Nat) (s : State) : State :=
  noteDrained (deskOf t) (match ((s.modTeller t afterItem).tellerAt t).st with
    | .run => modItem b ((s.modTeller t afterItem).tellerAt t).ctx.item (fun i => { i with st := .running t }) (s.modTeller t afterItem)
    | _ => s.modTeller t afterItem)

theorem endItem_eq (b t : Nat) (s : State) : endItem b t s =
    tellerFreed b t (itemCounted t (s.tellerAt t).ctx.prio ((if (s.tellerAt t).parked.isNone then dropGuards b t else id) (dropRequest b t
      (learn b t (s.tellerAt t).ctx (endActs b t (itemOf s t) (releaseWindow b t (s.tellerAt t).ctx.noAff
        ((packetEnd b (s.tellerAt t).ctx s).modDisp b fun l => { l with items := delFirst (fun j => j.id == (s.tellerAt t).ctx.item) l.items }))))))) := rfl

/-- The item of a Teller taken off the ready list. -/
def itemEnded (b t : Nat) (s : State) : State := s.modDisp b fun l => { l with items := delFirst (fun j => j.id == (s.tellerAt t).ctx.item) l.items }

/-- What the end of an item with no packet, window or parked item does. -/
theorem endItem_plain {b t : Nat} {i : Item} {s : State} (hdesc : (s.tellerAt t).ctx.desc = none) (hwin : (s.tellerAt t).win = none)
    (hparked : (s.tellerAt t).parked = none) (hitem : itemOf s t = some i) (hpkt : itemPkt i = false)
    (hkind : i.kind = .packet ∨ i.kind = .post ∨ i.kind = .sweep ∨ i.kind = .nose) : endItem b t s =
    tellerFreed b t (itemCounted t (s.tellerAt t).ctx.prio (dropGuards b t (dropRequest b t (learn b t (s.tellerAt t).ctx (itemEnded b t s))))) := by
  have hpacket : packetEnd b (s.tellerAt t).ctx s = s := by
    rw [packetEnd, hdesc]
  have hrelease : releaseWindow b t (s.tellerAt t).ctx.noAff (itemEnded b t s) = itemEnded b t s := by
    have hteller : (itemEnded b t s).tellerAt t = s.tellerAt t := rfl
    rw [releaseWindow, hteller]
    simp only [hwin]
  have hacts : endActs b t (some i) (itemEnded b t s) = itemEnded b t s := by
    have hwake : wakeFlow b i (itemEnded b t s) = itemEnded b t s := if_neg (by rw [hpkt, Bool.false_and, Bool.false_and]; decide)
    exact (congrArg (wakeFlow b i) (endKind_plain hkind ..)).trans hwake
  rw [endItem_eq, hpacket, ← itemEnded, hrelease, hitem, hacts, hparked]
  rfl

theorem tellerFreed_idle {b t : Nat} {s : State} (h : (s.tellerAt t).parked = none) :
    tellerFreed b t s = noteDrained (deskOf t) (s.modTeller t afterItem) := by
  have hidle : ((s.modTeller t afterItem).tellerAt t).st = .idle := by
    rw [State.tellerAt_modTeller_same, afterItem]
    simp only [h]
  rw [tellerFreed, hidle]

/-- The Teller after an item with no parked item behind it. -/
theorem afterItem_idle {x : Teller} (h : x.parked = none) : (afterItem x).st = .idle ∧ (afterItem x).win = none ∧
    (afterItem x).ctx = { moveBuf := x.ctx.moveBuf } ∧ (afterItem x).stack = [] ∧ (afterItem x).hold = 0 := by
  unfold afterItem
  simp only [h, and_self]

theorem dropGuards_acts {b t : Nat} {s : State} (h : s.audit.waiting = []) : dropGuards b t s = { s with ledger := (dropGuards b t s).ledger } := by
  have hnone : (s.modLedger b fun l => { l with guards := l.guards.filter (·.teller != t) }).audit.waiting = [] := h
  have heq : dropGuards b t s = s.modLedger b fun l => { l with guards := l.guards.filter (·.teller != t) } := auditReleased_none hnone
  rw [heq]
  rfl

theorem endItem_acts {b t : Nat} {i : Item} {s : State} (hdesc : (s.tellerAt t).ctx.desc = none) (hwin : (s.tellerAt t).win = none)
    (hparked : (s.tellerAt t).parked = none) (hitem : itemOf s t = some i) (hpkt : itemPkt i = false)
    (hkind : i.kind = .packet ∨ i.kind = .post ∨ i.kind = .sweep ∨ i.kind = .nose) (hwaiting : s.audit.waiting = []) (u : State) (hu : u = endItem b t s) :
    u.tellerAt t = afterItem (s.tellerAt t) ∧ (∀ q, q ≠ t → u.tellerAt q = s.tellerAt q) ∧
    (u.dispAt b).items = delFirst (fun j => j.id == (s.tellerAt t).ctx.item) (s.dispAt b).items ∧
    u = { s with tellers := u.tellers, regs := u.regs, disp := u.disp, ledger := u.ledger } := by
  rw [endItem_plain hdesc hwin hparked hitem hpkt hkind] at hu
  have hitems : ((itemEnded b t s).dispAt b).items = delFirst (fun j => j.id == (s.tellerAt t).ctx.item) (s.dispAt b).items := by
    rw [itemEnded, State.dispAt_modDisp_same]
  have hf1 : itemEnded b t s = { s with disp := (itemEnded b t s).disp } := rfl
  generalize itemEnded b t s = p1 at hu hitems hf1
  obtain ⟨hlearn, hf2⟩ := learn_acts b t (s.tellerAt t).ctx p1 _ rfl
  generalize learn b t (s.tellerAt t).ctx p1 = p2 at hu hlearn hf2
  obtain ⟨hdrop, hf3⟩ := dropRequest_acts b t p2
  generalize dropRequest b t p2 = p3 at hu hdrop hf3
  have hf4 := dropGuards_acts (b := b) (t := t) (s := p3) (by rw [hf3, hf2, hf1]; exact hwaiting)
  generalize dropGuards b t p3 = p4 at hu hf4
  have hf5 := itemCounted_frame t (s.tellerAt t).ctx.prio p4
  generalize itemCounted t (s.tellerAt t).ctx.prio p4 = p5 at hu hf5
  have htellers : p5.tellers = s.tellers := by rw [hf5, hf4, hf3, hf2, hf1]
  rw [tellerFreed_idle (by rw [tellerAt_of_tellers htellers, hparked])] at hu
  have hfreed : (p5.modTeller t afterItem).tellerAt t = afterItem (s.tellerAt t) := by
    rw [State.tellerAt_modTeller_same, tellerAt_of_tellers htellers]
  have hothers : ∀ q, q ≠ t → (p5.modTeller t afterItem).tellerAt q = s.tellerAt q := fun q hq => by
    rw [tellerAt_modTeller_ne hq, tellerAt_of_tellers htellers]
  have hf6 : p5.modTeller t afterItem = { p5 with tellers := (p5.modTeller t afterItem).tellers } := rfl
  generalize p5.modTeller t afterItem = p6 at hu hfreed hothers hf6
  have hf7 := noteDrained_frame (deskOf t) p6
  rw [← hu] at hf7
  have hlast : u.tellers = p6.tellers := by rw [hf7]
  refine ⟨by rw [tellerAt_of_tellers hlast, hfreed], fun q hq => by rw [tellerAt_of_tellers hlast, hothers q hq], ?_,
    by rw [hf7, hf6, hf5, hf4, hf3, hf2, hf1]⟩
  rw [dispAt_of_disp (show u.disp = p3.disp by rw [hf7, hf6, hf5, hf4]), hdrop, hlearn, hitems]

/-! ### YIELD -/

theorem find_updFirst_other {l : List Item} {id own : Nat} {i : Item} (f : Item → Item) (hf : ∀ x, (f x).id = x.id) (hne : id ≠ own)
    (hfind : l.find? (·.id = id) = some i) : (updFirst (fun x => x.id == own) f l).find? (·.id = id) = some i := by
  induction l with
  | nil => cases hfind
  | cons a l ih =>
    by_cases hown : a.id = own
    · have hno : ∀ x : Item, x.id = own → Decidable.decide (x.id = id) = false := fun x hx => decide_eq_false fun h => hne (h.symm.trans hx)
      rw [updFirst, if_pos (beq_iff_eq.2 hown), List.find?_cons, hno _ ((hf a).trans hown)]
      rwa [List.find?_cons, hno a hown] at hfind
    · rw [updFirst, if_neg (fun h => hown (beq_iff_eq.1 h))]
      rw [List.find?_cons] at hfind ⊢
      cases hid : Decidable.decide (a.id = id)
      case true =>
        rw [hid] at hfind
        exact hfind
      case false =>
        rw [hid] at hfind
        exact ih hfind

/-- A trap frame whose item is parked (R181). -/
def parkedFrame (fr : TrapFrame) : TrapFrame := { fr with f := withWord fr.f 0 (setWbits (wordAt fr.f 0) 30 30 1), parked := true }

/-- The Teller whose item is parked by YIELD. -/
def parkedTeller (x : Teller) : Teller :=
  { x with
    frames := match x.frames with | fr :: rest => parkedFrame fr :: rest | [] => []
    parked := some x.ctx, preempt := none, traps := x.traps.filter fun c => c == TrapCause.brk }

/-- The state in which the running item has been parked (R181). -/
def itemParked (b t : Nat) (s : State) : State :=
  s |> (·.setTeller t (parkedTeller (s.tellerAt t))) |> modItem b (s.tellerAt t).ctx.item (fun i => { i with st := .parked t }) |> dropRequest b t
    |> bump (Reg.DISP_PARK_CNT b)

theorem yieldTo_eq (b t item : Nat) (s : State) : yieldTo b t item s =
    match ((itemParked b t s).dispAt b).items.find? (·.id = item) with
    | some i => itemParked b t s |> trace b 5 i t (preferred (itemParked b t s) b i) |> startItem b (t % 32) i (preferred (itemParked b t s) b i)
    | none => itemParked b t s := rfl

theorem parkedTeller_frames (x : Teller) : (parkedTeller x).frames.length = x.frames.length := by
  unfold parkedTeller
  cases x.frames <;> rfl

theorem itemParked_acts {b t : Nat} {i : Item} {s : State} (hfind : (s.dispAt b).items.find? (·.id = i.id) = some i) (hne : i.id ≠ (s.tellerAt t).ctx.item)
    (u : State) (hu : u = itemParked b t s) :
    u.tellerAt t = parkedTeller (s.tellerAt t) ∧ (∀ q, q ≠ t → u.tellerAt q = s.tellerAt q) ∧ (u.dispAt b).items.find? (·.id = i.id) = some i ∧
    u = { s with tellers := u.tellers, regs := u.regs, disp := u.disp } := by
  unfold itemParked at hu
  dsimp only at hu
  have hset : (s.setTeller t (parkedTeller (s.tellerAt t))).tellerAt t = parkedTeller (s.tellerAt t) := State.tellerAt_setTeller_same ..
  have hothers : ∀ q, q ≠ t → (s.setTeller t (parkedTeller (s.tellerAt t))).tellerAt q = s.tellerAt q := fun q hq => tellerAt_setTeller_ne hq _ s
  have hf1 : s.setTeller t (parkedTeller (s.tellerAt t)) = { s with tellers := (s.setTeller t (parkedTeller (s.tellerAt t))).tellers } := rfl
  generalize s.setTeller t (parkedTeller (s.tellerAt t)) = p1 at hu hset hothers hf1
  have hkept : ((modItem b (s.tellerAt t).ctx.item (fun i => { i with st := .parked t }) p1).dispAt b).items.find? (·.id = i.id) = some i := by
    rw [modItem, State.dispAt_modDisp_same]
    refine find_updFirst_other _ ?_ hne ?_
    · exact fun _ => rfl
    · rwa [dispAt_of_disp (show p1.disp = s.disp by rw [hf1])]
  have hf2 : modItem b (s.tellerAt t).ctx.item (fun i => { i with st := .parked t }) p1 =
      { p1 with disp := (modItem b (s.tellerAt t).ctx.item (fun i => { i with st := .parked t }) p1).disp } := rfl
  generalize modItem b (s.tellerAt t).ctx.item (fun i => { i with st := .parked t }) p1 = p2 at hu hkept hf2
  obtain ⟨hdrop, hf3⟩ := dropRequest_acts b t p2
  generalize dropRequest b t p2 = p3 at hu hdrop hf3
  have hf4 := bump_frame (Reg.DISP_PARK_CNT b) p3
  rw [← hu] at hf4
  have htellers : u.tellers = p1.tellers := by rw [hf4, hf3, hf2]
  refine ⟨by rw [tellerAt_of_tellers htellers, hset], fun q hq => by rw [tellerAt_of_tellers htellers, hothers q hq], ?_,
    by rw [hf4, hf3, hf2, hf1]⟩
  rw [dispAt_of_disp (show u.disp = p3.disp by rw [hf4]), hdrop, hkept]

/-- YIELD parks the item and starts the one that asked (R181, R196). -/
theorem yieldTo_acts {t : Nat} {i : Item} {s : State} (hfind : (s.dispAt (t / 32)).items.find? (·.id = i.id) = some i)
    (hne : i.id ≠ (s.tellerAt t).ctx.item) (u : State) (hu : u = yieldTo (t / 32) t i.id s) :
    (∃ v, u.tellerAt t = startTeller v i (parkedTeller (s.tellerAt t))) ∧ (∀ q, q ≠ t → u.tellerAt q = s.tellerAt q) ∧
    u = { s with tellers := u.tellers, regs := u.regs, disp := u.disp, sill := u.sill, ledger := u.ledger } := by
  obtain ⟨hparked, hothers, hkept, hf1⟩ := itemParked_acts hfind hne _ rfl
  rw [yieldTo_eq, hkept] at hu
  generalize itemParked (t / 32) t s = p1 at hu hparked hothers hf1
  dsimp only at hu
  obtain ⟨-, hf2⟩ := trace_acts (t / 32) 5 i t (preferred p1 (t / 32) i) p1 _ rfl
  generalize preferred p1 (t / 32) i = pref at hu hf2
  generalize trace (t / 32) 5 i t pref p1 = p2 at hu hf2
  have hf3 := noteStart_frame (t / 32) (t % 32) i pref p2
  unfold startItem at hu
  generalize noteStart (t / 32) (t % 32) i pref p2 = p3 at hu hf3
  have hindex : 32 * (t / 32) + t % 32 = t := Nat.div_add_mod t 32
  obtain ⟨hstart, hrest, hf4⟩ := startOn_acts (t / 32) (t % 32) i p3 u hu
  rw [hindex] at hstart hrest
  have htellers : p3.tellers = p1.tellers := by rw [hf3, hf2]
  rw [tellerAt_of_tellers htellers, hparked] at hstart
  exact ⟨⟨p3, hstart⟩, fun q hq => by rw [hrest q hq, tellerAt_of_tellers htellers, hothers q hq], by rw [hf4, hf3, hf2, hf1]⟩

end Sys2Proof.Machine
end


section
/-!
PROOFS. What the words do that act outside their Teller (O59).
-/
namespace Sys2Proof.Machine

/-- A record leaves a Teller's packet as MIRROR notes it: one copy more (R180). -/
def mirrorNoted (session : Nat) (n : Nat) (c : ItemCtx) : ItemCtx :=
  { c with mirrors := c.mirrors ++ [⟨session, n⟩], desc := c.desc.map fun d => { d with mirrors := d.mirrors + 1 } }

theorem mirrorNoted_desc {c : ItemCtx} {d : Desc} (session n : Nat) (hdesc : c.desc = some d) :
    (mirrorNoted session n c).desc = some { d with mirrors := d.mirrors + 1 } := congrArg (Option.map _) hdesc

/-- What a record leaves of the Sillage comes from the registers, the time and the Sillage alone. -/
theorem emit_sill_congr {s t : State} (src kind payload : Nat) (hregs : t.regs = s.regs) (htime : t.time = s.time) (hsill : t.sill = s.sill) :
    (emit src kind payload t).sill = (emit src kind payload s).sill := by
  simp only [emit, emitAt, flagOf_congr hregs, htime, hsill]
  split
  · rfl
  · split
    · simp only [cause_sill, bump_sill]
    · split <;> simp only [cause_sill]

/-- Settles O59: each word by the lemma of the unit that acts outside its Teller. -/
theorem specialWordsAct : Obligations.SpecialWordsAct := by
  unfold Obligations.SpecialWordsAct
  refine ⟨?_, ?_, ?_, ?_, ?_, ?_, ?_, ?_, ?_, ?_, ?_, ?_, ?_, ?_, ?_, ?_, ?_, ?_, ?_, ?_, ?_, ?_, ?_, ?_, ?_, ?_, ?_, ?_, ?_⟩
  · exact fun s t go plain hop => windowWritten_of_fop go plain hop rfl rfl fun _ _ _ => rfl
  · exact fun s t go plain hop => windowWritten_of_fop go plain hop rfl rfl fun _ _ _ => rfl
  · exact fun s t go plain hop => windowWritten_of_fop go plain hop rfl rfl fun _ _ _ => rfl
  · exact fun s t go plain hop => windowWritten_of_fop go plain hop rfl rfl fun _ _ _ => rfl
  · exact fun s t go plain hop => windowWritten_of_fop go plain hop rfl rfl fun _ _ _ => rfl
  · intro s t k y v go plain hop hwin hway hv
    have hfop := fopEffect_setstate (b := t.val / 32) hop hwin
    rw [hv] at hfop
    obtain ⟨hopen, hdead, hlive, hothers, htellers⟩ := windowState_acts (v := v) hway _ rfl
    generalize windowState (t.val / 32) k v s = q at hfop hopen hdead hlive hothers htellers
    refine answers_of_fop go plain hop (by decide) rfl hfop.symm (.of_tellers htellers) fun u hu => ?_
    have hways := sameWays_of_fopDone hu (t.val / 32)
    refine ⟨fun hne => ?_, fun h4 h => (hways k).trans (hdead h4 h), fun h4 h => ?_, fun j hj => (hways j).trans (hothers j hj), ?_, ?_, hu.aside⟩
    · obtain ⟨hset, hframe⟩ := hopen hne
      exact ⟨(hways k).trans hset, by rw [hu.rest, hframe]⟩
    · obtain ⟨m, hset⟩ := hlive h4 h
      exact ⟨m, (hways k).trans hset⟩
    · rw [hu.sFlag, tellerAt_of_tellers htellers]
      rfl
    · rw [hu.win, tellerAt_of_tellers htellers, hwin]
  · intro s t k y go plain hop hwin hway
    have hfop := fopEffect_flush (b := t.val / 32) hop hwin
    have htellers := tellers_of_crew (writeBack_crew (t.val / 32) k s)
    have hback := fun hdirty => writeBack_acts hway hdirty
    have hclean := fun hclean => writeBack_clean hway hclean
    generalize writeBack (t.val / 32) k s = q at hfop htellers hback hclean
    refine answers_of_fop go plain hop (by decide) rfl hfop.symm (.of_tellers htellers) fun u hu => ?_
    have hways := sameWays_of_fopDone hu (t.val / 32)
    have hvault : u.vault = q.vault := by rw [hu.rest]
    refine ⟨fun hdirty => ?_, fun hno => ?_, fun j hj => ?_, ?_, ?_, hu.aside⟩
    · obtain ⟨hset, -, hcopy⟩ := hback hdirty
      exact ⟨(hways k).trans hset, by rw [hvault]; exact hcopy⟩
    · rw [hu.rest, hclean hno]
    · cases hdirty : rcDirty y.rc
      case true => exact (hways j).trans ((hback hdirty).others j hj)
      case false => rw [hways j, hclean hdirty]
    · rw [hu.sFlag, tellerAt_of_tellers htellers]
      rfl
    · rw [hu.win, tellerAt_of_tellers htellers, hwin]
  · intro s t r go plain hop hopened
    obtain ⟨hverdict, hqop⟩ := plain_fop plain
    exact answers_of_run go rfl (beq_iff_eq.2 hop) (runWord_open_answered hverdict hop hqop (openStep_opened hopened) hopened)
      (execWord_open rfl plain hop (.refl t.val s) hopened _ rfl)
  · intro s t o go plain hop hnone hopening
    obtain ⟨hverdict, -⟩ := plain_fop plain
    exact answers_of_run go rfl (beq_iff_eq.2 hop) (runWord_open_waits hverdict hop hnone hopening)
      ⟨State.tellerAt_modTeller_same .., fun q hq => tellerAt_modTeller_ne hq _ s, rfl⟩
  · intro s t k y go plain hop hnone hnew hprobe hway hfree hlive hfresh
    obtain ⟨hverdict, hqop⟩ := plain_fop plain
    have hstep := openStep_takes hnone hnew hprobe hway hfree hlive hfresh
    obtain ⟨htaken, hopened, hbeside, hframe⟩ := openTaken_acts (t := t.val) (key := keyOperand (s.tellerAt t.val) (theWord s t.val)) hway _ rfl
    generalize openTaken (t.val / 32) t.val k (keyOperand (s.tellerAt t.val) (theWord s t.val)) s = s0 at hstep htaken hopened hbeside hframe
    obtain ⟨hwin, hs, -, -, -, haside, hrest⟩ := execWord_open rfl plain hop hbeside hopened _ rfl
    generalize hu : execWord (t.val / 32) t.val (theWord s t.val) s0 = u at hwin hs haside hrest
    have hstays : WayStep (t.val / 32) k (lockedWay s t.val y) s u := htaken.after (sameWays_of_ledger (by rw [hrest]))
    exact answers_of_run go rfl (beq_iff_eq.2 hop) ((runWord_open_answered hverdict hop hqop hstep hopened).trans hu)
      ⟨hwin, hs, hstays.way, hstays.others, haside, by rw [hrest, hframe]⟩
  · intro s t k y go plain hop hwin hway hquiet
    have hxop : mwXop (theWord s t.val) = 0 := ((plainBut_iff ..).1 plain).2.2.1.resolve_left Bool.false_ne_true
    have hfop : fopEffect (t.val / 32) t.val (s.tellerAt t.val) (theWord s t.val) s = releaseWindow (t.val / 32) t.val (s.tellerAt t.val).ctx.noAff s := by
      simp only [fopEffect, hop, hxop, OfNat.zero_ne_ofNat, decide_false, Bool.or_false]
      rfl
    obtain ⟨hstep, hnone, hs, hbeside, hframe⟩ := releaseWindow_acts (noAff := (s.tellerAt t.val).ctx.noAff) hwin hway hquiet _ rfl
    generalize releaseWindow (t.val / 32) t.val (s.tellerAt t.val).ctx.noAff s = q at hfop hstep hnone hs hbeside hframe
    refine answers_of_fop go plain hop (by decide) rfl hfop.symm hbeside fun u hu => ?_
    have hstays := hstep.after (sameWays_of_fopDone hu)
    exact ⟨hu.win.trans hnone, hstays.way, hstays.others, hu.sFlag.trans hs, hu.aside, by rw [hu.rest, hframe]⟩
  · intro s t go plain hop
    refine copDone go plain t.isLt hop rfl (Nat.mod_lt _ (by decide)) fun m hm => ?_
    simp only [copEffect, hop, hm]
  · intro s t go plain hop
    refine copDone go plain t.isLt hop rfl (Nat.mod_lt _ (by decide)) fun m hm => ?_
    simp only [copEffect, hop, hm]
  · intro s t go plain hop
    refine copDone go plain t.isLt hop rfl (by decide) fun m _ => ?_
    simp only [copEffect, hop]
  · intro s t d go plain hop hdesc
    refine ctxWord (fun c => { c with params := Tbl.set c.params (mwQarg (theWord s t.val) % 16) 0 (srcB (s.tellerAt t.val) (theWord s t.val)) })
      go plain hop (by decide) rfl (fun m => ?_) fun u kv hctx hs hwin haside hrest => ?_
    · simp only [qopEffect, hop, hdesc]
    · rw [hctx]
      exact ⟨rfl, rfl, hs, hwin, haside, hrest⟩
  · intro s t d go plain hop hdesc
    refine ctxWord (fun c => mirrorNoted (wbits (srcB (s.tellerAt t.val) (theWord s t.val)) 9 0) (mwQarg (theWord s t.val) % 8) c) go plain hop (by decide) rfl (fun m => ?_) fun u kv hctx hs hwin haside hrest => ?_
    · simp only [qopEffect, hop, hdesc]
      rfl
    · rw [hctx]
      exact ⟨rfl, mirrorNoted_desc (wbits (srcB (s.tellerAt t.val) (theWord s t.val)) 9 0) (mwQarg (theWord s t.val) % 8) hdesc, rfl, hs, hwin, haside, hrest⟩
  · intro s t d ok v go plain hop hm hdesc hpolice
    obtain ⟨q, hq, hbeside, hteller, htm, hswc, hok⟩ := qopEffect_police_acts (t := t.val) hop hdesc hpolice
    refine answers_of_qop go plain hop (by decide) (fun h12 => absurd h12 (by decide)) rfl (by rw [mopEffect_idle hm]; exact hq) hbeside fun u hu => ?_
    obtain ⟨hended, haside, hrest⟩ := hu
    rw [hteller] at hended
    refine ⟨hended.sFlag, by rw [hended.ctx], ?_, ?_, fun hgood => ?_, hended.win, haside⟩
    · rw [hrest, ← htm]
    · rw [hrest, ← hswc]
    · rw [hrest, hok hgood]
  · intro s t d go plain hop hm hdesc hroom
    obtain ⟨hteller, hbeside, hswc, htm, hitems⟩ := releasePacket_acts (t.val / 32) t.val s _ rfl
    refine answers_of_qop go plain hop (by decide) (fun _ => by rwa [nextVerdict_stays hop]) rfl
      (by rw [mopEffect_idle hm]; exact qopEffect_release hop hdesc s) hbeside fun u hu => ?_
    obtain ⟨hended, haside, hrest⟩ := hu
    generalize releasePacket (t.val / 32) t.val s = q at hteller hswc htm hitems hended hrest
    rw [hteller] at hended
    refine ⟨by rw [hended.ctx], hended.sFlag, hended.win, ?_, ?_, ?_, haside⟩
    · rw [hrest, ← hswc]
    · rw [hrest, ← htm]
    · rw [dispAt_of_disp (show u.disp = q.disp by rw [hrest]), hitems]
  · intro s t d go plain hop hm hdesc hwin hoff
    obtain ⟨q, hissue, hown, hitem⟩ := issueScan_off (b := t.val / 32) (t := t.val) (item := (s.tellerAt t.val).ctx.item) (qarg := mwQarg (theWord s t.val))
      (d := d) (src := srcB (s.tellerAt t.val) (theWord s t.val)) hoff
    rw [← hwin] at hissue
    have hteller := giveResult_own (w := bareResult 0x9) hown hitem
    have hframe : giveResult q (bareResult 0x9) s = { s with tellers := (giveResult q (bareResult 0x9) s).tellers } := rfl
    refine answers_of_scan go plain hop hm hdesc rfl hissue (beside_giveResult hown) fun u hu => ?_
    obtain ⟨hended, haside, hrest⟩ := hu
    generalize giveResult q (bareResult 0x9) s = r at hteller hframe hended hrest
    rw [hteller] at hended
    exact ⟨by rw [hended.ctx], by rw [hended.ctx], hended.sFlag, hended.win.trans hwin, haside, by rw [hrest, hframe]⟩
  · intro s t d go plain hop hdesc hwait
    have hissue : issueScan (t.val / 32) t.val (s.tellerAt t.val).ctx.item d (s.tellerAt t.val).win (mwQarg (theWord s t.val))
        (srcB (s.tellerAt t.val) (theWord s t.val)) s = .wait := by
      cases hi : issueScan (t.val / 32) t.val (s.tellerAt t.val).ctx.item d (s.tellerAt t.val).win (mwQarg (theWord s t.val))
        (srcB (s.tellerAt t.val) (theWord s t.val)) s
      case wait => rfl
      case done s0 =>
        rw [hi] at hwait
        cases hwait
    exact answers_of_run go rfl (beq_iff_eq.2 hop) ((runWord_scan plain hop hdesc).1 hissue)
      ⟨State.tellerAt_modTeller_same .., fun q hq => tellerAt_modTeller_ne hq _ s, rfl⟩
  · intro s t d go plain hop hm hdesc hwin hplain htakes
    have hissue := issueScan_takes (t := t.val) (item := (s.tellerAt t.val).ctx.item) (qarg := mwQarg (theWord s t.val)) (d := d) hplain htakes
    rw [← hwin] at hissue
    obtain ⟨hqueue, hbeside, hteller, hledger, hvault, hswc⟩ := scanTaken_acts (t.val / 32) t.val d
      (scanFor s (t.val / 32) t.val (s.tellerAt t.val).ctx.item (mwQarg (theWord s t.val)) d (srcB (s.tellerAt t.val) (theWord s t.val))) s _ rfl
    refine answers_of_scan go plain hop hm hdesc rfl hissue hbeside fun u hu => ?_
    obtain ⟨hended, haside, hrest⟩ := hu
    generalize scanTaken (t.val / 32) t.val d (scanFor s (t.val / 32) t.val (s.tellerAt t.val).ctx.item (mwQarg (theWord s t.val)) d
      (srcB (s.tellerAt t.val) (theWord s t.val))) s = r at hqueue hteller hledger hvault hswc hended hrest
    rw [hteller] at hended
    have hnose := noseAt_of_nose (show u.nose = r.nose by rw [hrest]) (t.val / 32)
    refine ⟨⟨_, (congrArg _ hnose).trans hqueue, rfl, rfl, rfl, rfl, rfl, rfl, rfl, rfl, hplain, rfl⟩, by rw [hended.ctx], by rw [hended.ctx], hended.sFlag, hended.win.trans hwin, haside, ?_, ?_, ?_⟩
    · rw [hrest, ← hledger]
    · rw [hrest, ← hvault]
    · rw [hrest, ← hswc]
  · intro s t g0 go plain hop hm hcop hg0
    obtain ⟨v, hpost, htaken, hrefused, hframe⟩ := postItem_acts (t.val / 32) (s.tellerAt t.val) (theWord s t.val) (verdictNoted t.val (theWord s t.val) s)
    have hx : xopEffect (t.val / 32) t.val (s.tellerAt t.val) (theWord s t.val) (verdictNoted t.val (theWord s t.val) s) =
        (some (Decidable.decide (itemRoutine g0 ≠ 0) && placeFree s (t.val / 32) 3), v) := by
      simp only [xopEffect, hop, hpost]
      rw [← hg0]
      rfl
    have htellers : v.tellers = (verdictNoted t.val (theWord s t.val) s).tellers := by rw [hframe]
    have hteller := verdictNoted_teller t.val (theWord s t.val) s
    rw [← tellerAt_of_tellers htellers] at hteller
    refine answers_of_xop go plain hop (by decide) hm hcop rfl hx ((beside_verdictNoted ..).trans (.of_tellers htellers)) fun u hu => ?_
    obtain ⟨hended, haside, hrest⟩ := hu
    rw [hteller] at hended
    have hitems : u.dispAt (t.val / 32) = v.dispAt (t.val / 32) := dispAt_of_disp (by rw [hrest]) _
    refine ⟨hended.sFlag, fun hroutine hplace => ?_, fun hno => ?_, hended.win, haside, ?_, ?_, ?_⟩
    · rw [hitems, htaken (by rwa [← hg0] at hroutine) hplace]
      exact ⟨_, rfl, hg0, rfl, rfl, rfl, rfl, rfl, rfl⟩
    · rw [hitems, hrefused (by rwa [← hg0] at hno)]
      rfl
    · rw [hrest, hframe, verdictNoted_rest]
    · rw [hrest, hframe, verdictNoted_rest]
    · rw [hrest, hframe, verdictNoted_rest]
  · intro s t go plain hop hm hcop
    have hsill := emit_sill_congr (s := s) (t := verdictNoted t.val (theWord s t.val) s) (srcTeller t.val) 0x39 ((srcB (s.tellerAt t.val) (theWord s t.val)).toNat + 2 ^ 64 * (s.tellerAt t.val).pc) rfl rfl rfl
    have hx : xopEffect (t.val / 32) t.val (s.tellerAt t.val) (theWord s t.val) (verdictNoted t.val (theWord s t.val) s) =
        (none, emit (srcTeller t.val) 0x39 ((srcB (s.tellerAt t.val) (theWord s t.val)).toNat + 2 ^ 64 * (s.tellerAt t.val).pc) (verdictNoted t.val (theWord s t.val) s)) := by
      simp only [xopEffect, hop]
    generalize (srcB (s.tellerAt t.val) (theWord s t.val)).toNat + 2 ^ 64 * (s.tellerAt t.val).pc = payload at hsill hx ⊢
    have hframe := emit_frame (srcTeller t.val) 0x39 payload (verdictNoted t.val (theWord s t.val) s)
    generalize emit (srcTeller t.val) 0x39 payload (verdictNoted t.val (theWord s t.val) s) = v at hx hframe hsill
    have htellers : v.tellers = (verdictNoted t.val (theWord s t.val) s).tellers := by rw [hframe]
    have hteller := verdictNoted_teller t.val (theWord s t.val) s
    rw [← tellerAt_of_tellers htellers] at hteller
    refine answers_of_xop go plain hop (by decide) hm hcop rfl hx ((beside_verdictNoted ..).trans (.of_tellers htellers)) fun u hu => ?_
    obtain ⟨hended, haside, hrest⟩ := hu
    rw [hteller] at hended
    refine ⟨?_, hended.sFlag, hended.win, haside, ?_⟩
    · rw [hrest, ← hsill]
    · rw [hrest, hframe, verdictNoted_rest]
  · intro s t go plain hop hm hcop
    have hx : xopEffect (t.val / 32) t.val (s.tellerAt t.val) (theWord s t.val) (verdictNoted t.val (theWord s t.val) s) =
        (none, (verdictNoted t.val (theWord s t.val) s).modTeller t.val fun y => { y with ctx := { y.ctx with noAff := true } }) := by
      simp only [xopEffect, hop]
    obtain ⟨hbeside, hteller⟩ := ctx_modTeller (fun c => { c with noAff := true }) t.val (verdictNoted t.val (theWord s t.val) s)
    rw [verdictNoted_teller] at hteller
    refine answers_of_xop go plain hop (by decide) hm hcop rfl hx ((beside_verdictNoted ..).trans hbeside) fun u hu => ?_
    obtain ⟨hended, haside, hrest⟩ := hu
    rw [hteller] at hended
    refine ⟨by rw [hended.ctx], hended.sFlag, hended.win, haside, ?_⟩
    rw [hrest]
    rfl
  · intro s t go plain hop hm
    refine answers_of_seq go plain hop hm (fun hend => absurd hend (by decide)) rfl fun c hc cond => ?_
    rw [seqEffect_trapv hop]
    obtain ⟨hended, hpc, hstack, hothers, haside, hframe⟩ := hc
    rw [verdictNoted_teller] at hended
    have hset := State.tellerAt_modTeller_same c t.val fun y => { y with pc := nextPc (s.tellerAt t.val), traps := y.traps ++ [.soft (mwNaddr (theWord s t.val) % 16)] }
    refine ⟨by rw [hset], ?_, fun a ha => ?_, by rw [hset]; exact hstack, by rw [hset]; exact hended.sFlag, by rw [hset]; exact hended.win,
      haside _ (.modTeller rfl), ?_⟩
    · rw [hset]
      exact List.mem_append_right _ (List.mem_singleton.2 rfl)
    · rw [hset]
      exact List.mem_append_left _ (hended.traps a ha)
    · rw [hframe]
      rfl
  · intro s t go plain hop hm
    refine answers_of_seq go plain hop hm (fun hend => absurd hend (by decide)) rfl fun c hc cond => ?_
    rw [seqEffect_halt hop]
    obtain ⟨hended, hpc, hstack, hothers, haside, hframe⟩ := hc
    rw [verdictNoted_teller] at hended
    obtain ⟨hset, hbeside, hcause, hrest⟩ := haltTeller_acts t.val (theWord s t.val) c _ rfl
    generalize haltTeller t.val (theWord s t.val) c = u at hset hbeside hcause hrest
    rw [hset]
    exact ⟨rfl, rfl, hcause, hstack, hended.sFlag, hended.win, haside u hbeside, by rw [hrest, hframe]⟩
  · intro s t fr rest go plain hop hm hframes hplain
    refine answers_of_seq go plain hop hm (fun hend => absurd hend (by decide)) rfl fun c hc cond => ?_
    obtain ⟨hended, hpc, hstack, hothers, haside, hframe⟩ := hc
    rw [verdictNoted_teller] at hended
    have hheld : (c.tellerAt t.val).frames = fr :: rest := hended.frames.trans hframes
    have hnone : handlerOf (c.tellerAt t.val) = none := by
      rw [handlerOf, hended.preempt, hended.frames]
      exact hplain
    rw [seqEffect_resume hop, resume_plain hheld hnone]
    have hset := State.tellerAt_setTeller_same c t.val { restoreFrame fr (c.tellerAt t.val) with frames := rest }
    rw [hset]
    refine ⟨rfl, rfl, rfl, rfl, rfl, rfl, rfl, fun r hr => gReg_restoreFrame fr (c.tellerAt t.val) hr, rfl, rfl, hended.st, fun r hr => ?_, ?_⟩
    · rw [tellerAt_setTeller_ne hr, hothers r hr]
    · rw [hframe]
      rfl
  · intro s t i go plain hop hm hdesc hwin hparked hitem hpkt hkind hwaiting
    have hroom : recircFull s (t.val / 32) (s.tellerAt t.val).ctx (nextVerdict (s.tellerAt t.val) (theWord s t.val)) = false := by
      simp only [recircFull, hdesc]
    refine answers_of_seq go plain hop hm (fun _ => hroom) rfl fun c hc cond => ?_
    obtain ⟨hended, hpc, hstack, hothers, haside, hframe⟩ := hc
    rw [verdictNoted_teller] at hended
    have hdisp : c.disp = s.disp := by rw [hframe]
    have hown : (c.tellerAt t.val).ctx.item = (s.tellerAt t.val).ctx.item := by rw [hended.ctx]
    rw [seqEffect_end hop]
    obtain ⟨hfreed, hkept, hitems, hrest⟩ := endItem_acts (b := t.val / 32) (s := c) (t := t.val) (i := i) (by rw [hended.ctx]; exact hdesc)
      (hended.win.trans hwin) (hended.parked.trans hparked) (by rw [itemOf, dispAt_of_disp hdisp, hown]; exact hitem) hpkt hkind
      (by rw [hframe]; exact hwaiting) _ rfl
    generalize endItem (t.val / 32) t.val c = u at hfreed hkept hitems hrest
    obtain ⟨hst, hnone, hctx, hempty, hhold⟩ := afterItem_idle (hended.parked.trans hparked)
    rw [hown, dispAt_of_disp hdisp] at hitems
    rw [hfreed]
    refine ⟨hst, hnone, ?_, hempty, hhold, hitems, fun q hq => (hkept q hq).trans (hothers q hq), by rw [hrest, hframe]⟩
    rw [hctx, hended.ctx]
  · intro s t i go plain hop hm hhandler hfind hne
    obtain ⟨hf, hq, hseq⟩ := plain_xop plain
    have hrun : runWord (t.val / 32) t.val (theWord s t.val) s =
        yieldTo (t.val / 32) t.val i.id (unitsEnd (t.val / 32) t.val (theWord s t.val) s) := by
      rw [plain_runs hf hq (by omega), execWord_eq]
      simp only [hop, hhandler]
    obtain ⟨hended, hpc, hstack, hothers, haside, hframe⟩ := stepEnd (b := t.val / 32) (s := s) (t := t.val) rfl hf hq hm (by omega)
    rw [verdictNoted_teller] at hended
    generalize unitsEnd (t.val / 32) t.val (theWord s t.val) s = c at hrun hended hpc hstack hothers haside hframe
    obtain ⟨⟨v, hstart⟩, hkept, hrest⟩ := yieldTo_acts (s := c) (t := t.val) (i := i) (by rwa [dispAt_of_disp (show c.disp = s.disp by rw [hframe])])
      (by rw [hended.ctx]; exact hne) _ rfl
    refine answers_of_run go rfl (beq_iff_eq.2 hop) hrun ?_
    generalize yieldTo (t.val / 32) t.val i.id c = u at hstart hkept hrest
    rw [hstart]
    refine ⟨rfl, rfl, rfl, rfl, rfl, rfl, ?_, ?_, fun q hq => (hkept q hq).trans (hothers q hq), by rw [hrest, hframe]⟩
    · exact congrArg some hended.ctx
    · exact (parkedTeller_frames _).trans (congrArg List.length hended.frames)

end Sys2Proof.Machine
end


section
/-!
PROOFS. What leaves the cells of the Vault and the words of the Coffer as they were: the operations that every unit uses, to the on-chip errors (O10).
Each lemma says it of one operation, from the lemmas of the operations that this one is made of.
-/
namespace Sys2Proof.Machine

/-- The cells of the Vault and the words of the Coffer. -/
def State.memory (s : State) : Tbl VCell × Tbl Word64 := (s.vault.mem, s.coffer.words)

theorem State.memory_mk (pending : List Instr) (free : Nat) (regs : Tbl Word32) (dispo : Tbl Nat) (time : TimeBase) (sill : Sillage) (msix : Msix)
    (perf : Perf) (treas : Treasury) (fuses : Fuses) (sec : SecEngine) (pins : Pins) (loader : Loader) (pcie : Pcie) (coffer : Coffer) (rings : Tbl
    Ring) (out : Outputs) (lastBatch : Nat) (ports : Tbl Port) (portCfg : Tbl PortCfg) (lanes : Tbl Lane) (laneInv : Tbl Nat) (laneTaps : Tbl Nat)
    (teth : Tether) (swc : SwitchCore) (tm : TrafficMgr) (templates : Bytes) (assay : Tbl Assayer) (sieve : Sieve) (accord : Accord) (ledger : Tbl
    Ledger) (disp : Tbl Disp) (tellers : Tbl Teller) (desks : Tbl Desk) (nose : Tbl Nose) (automata : NoseAutomata) (vault : Vault) (audit :
    Auditor) : State.memory ⟨pending, free, regs, dispo, time, sill, msix, perf, treas, fuses, sec, pins, loader, pcie, coffer, rings, out,
    lastBatch, ports, portCfg, lanes, laneInv, laneTaps, teth, swc, tm, templates, assay, sieve, accord, ledger, disp, tellers, desks, nose,
    automata, vault, audit⟩ = (vault.mem, coffer.words) := (rfl)

theorem State.memory_fold (s : State) : (s.vault.mem, s.coffer.words) = s.memory := (rfl)

theorem State.memory_foldl {α : Type} (f : State → α → State) (h : ∀ s x, (f s x).memory = s.memory) (l : List α) (s : State) :
    (l.foldl f s).memory = s.memory := by
  induction l generalizing s with
  | nil => rfl
  | cons x xs ih => rw [List.foldl_cons, ih, h]

theorem State.memory_getD {o : Option State} {s d : State} (h : ∀ t, o = some t → t.memory = s.memory) (hd : d.memory = s.memory) :
    (o.getD d).memory = s.memory := by
  cases o with
  | none => exact hd
  | some t => exact h t rfl

theorem gated_memory (f : State → State) (s : State) (h : ∀ s, (f s).memory = s.memory) : (gated f s).memory = s.memory := by
  unfold gated
  split
  · exact h s
  · rfl

/-! ### State and register operations -/

theorem State.setLedger_memory (s : State) (b : Nat) (l : Ledger) : (State.setLedger s b l).memory = s.memory := by rfl

theorem State.setDisp_memory (s : State) (b : Nat) (d : Disp) : (State.setDisp s b d).memory = s.memory := by rfl

theorem State.setAssay_memory (s : State) (b : Nat) (a : Assayer) : (State.setAssay s b a).memory = s.memory := by rfl

theorem State.setNose_memory (s : State) (b : Nat) (n : Nose) : (State.setNose s b n).memory = s.memory := by rfl

theorem State.setTeller_memory (s : State) (t : Nat) (x : Teller) : (State.setTeller s t x).memory = s.memory := by rfl

theorem State.setDesk_memory (s : State) (d : Nat) (x : Desk) : (State.setDesk s d x).memory = s.memory := by rfl

theorem State.setPort_memory (s : State) (p : Nat) (x : Port) : (State.setPort s p x).memory = s.memory := by rfl

theorem State.setRing_memory (s : State) (n : Nat) (r : Ring) : (State.setRing s n r).memory = s.memory := by rfl

theorem State.setChan_memory (s : State) (c : Nat) (x : VaultCh) : (State.setChan s c x).memory = s.memory := by rfl

theorem State.setSched_memory (s : State) (k : Nat) (x : Sched) : (State.setSched s k x).memory = s.memory := by rfl

theorem State.setClass_memory (s : State) (n : Nat) (x : TmClass) : (State.setClass s n x).memory = s.memory := by rfl

theorem State.setUser_memory (s : State) (u : Nat) (x : AllowUser) : (State.setUser s u x).memory = s.memory := by rfl

theorem State.setDom_memory (s : State) (d : Nat) (x : DomState) : (State.setDom s d x).memory = s.memory := by rfl

theorem State.modLedger_memory (s : State) (b : Nat) (f : Ledger → Ledger) : (State.modLedger s b f).memory = s.memory := by
  simp only [State.modLedger, State.setLedger_memory]

theorem State.modDisp_memory (s : State) (b : Nat) (f : Disp → Disp) : (State.modDisp s b f).memory = s.memory := by
  simp only [State.modDisp, State.setDisp_memory]

theorem State.modAssay_memory (s : State) (b : Nat) (f : Assayer → Assayer) : (State.modAssay s b f).memory = s.memory := by
  simp only [State.modAssay, State.setAssay_memory]

theorem State.modNose_memory (s : State) (b : Nat) (f : Nose → Nose) : (State.modNose s b f).memory = s.memory := by
  simp only [State.modNose, State.setNose_memory]

theorem State.modTeller_memory (s : State) (t : Nat) (f : Teller → Teller) : (State.modTeller s t f).memory = s.memory := by
  simp only [State.modTeller, State.setTeller_memory]

theorem State.modPort_memory (s : State) (p : Nat) (f : Port → Port) : (State.modPort s p f).memory = s.memory := by
  simp only [State.modPort, State.setPort_memory]

theorem State.modRing_memory (s : State) (n : Nat) (f : Ring → Ring) : (State.modRing s n f).memory = s.memory := by
  simp only [State.modRing, State.setRing_memory]

theorem State.modChan_memory (s : State) (c : Nat) (f : VaultCh → VaultCh) : (State.modChan s c f).memory = s.memory := by
  simp only [State.modChan, State.setChan_memory]

theorem State.modSched_memory (s : State) (k : Nat) (f : Sched → Sched) : (State.modSched s k f).memory = s.memory := by
  simp only [State.modSched, State.setSched_memory]

theorem regStore_memory (off : Nat) (v : Word32) (s : State) : (regStore off v s).memory = s.memory := by rfl

theorem setField_memory (off hi lo x : Nat) (s : State) : (setField off hi lo x s).memory = s.memory := by
  simp only [setField, regStore_memory]

theorem setPair_memory (off v : Nat) (s : State) : (setPair off v s).memory = s.memory := by
  simp only [setPair, regStore_memory]

theorem bumpN_memory (off n : Nat) (s : State) : (bumpN off n s).memory = s.memory := by
  simp only [bumpN, apply_ite State.memory, ite_self, regStore_memory]

theorem bump_memory (off : Nat) (s : State) : (bump off s).memory = s.memory := by
  simp only [bump, bumpN_memory]

theorem tally_memory (off : Nat) (s : State) : (tally off s).memory = s.memory := by
  simp only [tally, regStore_memory]

theorem bump64_memory (off n : Nat) (s : State) : (bump64 off n s).memory = s.memory := by
  simp only [bump64, apply_ite State.memory, ite_self, setPair_memory]

theorem peak_memory (off hi lo v : Nat) (s : State) : (peak off hi lo v s).memory = s.memory := by
  simp only [peak, apply_ite State.memory, ite_self, setField_memory]

theorem cause_memory (off i : Nat) (s : State) : (cause off i s).memory = s.memory := by
  simp only [cause, regStore_memory]

theorem stampAt_memory (secOff nsOff net : Nat) (s : State) : (stampAt secOff nsOff net s).memory = s.memory := by
  simp only [stampAt, regStore_memory]

theorem stamp_memory (secOff nsOff : Nat) (s : State) : (stamp secOff nsOff s).memory = s.memory := by
  simp only [stamp, stampAt_memory]

theorem emitAt_memory (net src kind payload : Nat) (s : State) : (emitAt net src kind payload s).memory = s.memory := by
  simp only [emitAt, State.memory_mk, State.memory_fold, apply_ite State.memory, ite_self, bump_memory, cause_memory]

theorem emit_memory (src kind payload : Nat) (s : State) : (emit src kind payload s).memory = s.memory := by
  simp only [emit, emitAt_memory]

theorem perfCount_memory (u k n : Nat) (s : State) : (perfCount u k n s).memory = s.memory := by
  simp only [perfCount, apply_ite State.memory, ite_self, setPair_memory, cause_memory]

theorem perfN_memory (u code n : Nat) (s : State) : (perfN u code n s).memory = s.memory := by
  simp only [perfN, State.memory_foldl, implies_true, apply_ite State.memory, ite_self, perfCount_memory]

theorem perf_memory (u code : Nat) (s : State) : (perf u code s).memory = s.memory := by
  simp only [perf, perfN_memory]

theorem dispoCount_memory (port cls code : Nat) (s : State) : (dispoCount port cls code s).memory = s.memory := by
  simp only [dispoCount, State.memory_mk, State.memory_fold, apply_ite State.memory, ite_self]

theorem dispose_memory (port cls code : Nat) (waited : Bool) (hash : Word64) (arr : Nat) (s : State) :
    (dispose port cls code waited hash arr s).memory = s.memory := by
  simp only [dispose, State.memory_mk, State.memory_fold, apply_ite State.memory, ite_self, emit_memory, dispoCount_memory]

theorem takeFree_memory (s : State) : (takeFree s).2.memory = s.memory := by rfl

theorem plainWrite_memory (off : Nat) (v : Word32) (s : State) : (plainWrite off v s).memory = s.memory := by
  unfold plainWrite
  split <;> simp only [regStore_memory]

/-! ### DMA rings -/

theorem freshOut_memory (s : State) : (freshOut s).memory = s.memory := by rfl

theorem toHost_memory (addr : Nat) (b : Bytes) (s : State) : (toHost addr b s).memory = s.memory := by
  simp only [toHost, State.memory_mk, State.memory_fold, perfN_memory]

theorem fromHost_memory (n : Nat) (s : State) : (fromHost n s).memory = s.memory := by
  simp only [fromHost, perfN_memory]

theorem advanceHead_memory (n : Nat) (s : State) : (advanceHead n s).memory = s.memory := by
  simp only [advanceHead, apply_ite State.memory, ite_self, State.modRing_memory, bump_memory, cause_memory, perf_memory, toHost_memory]

theorem haltRing_memory (n code : Nat) (s : State) : (haltRing n code s).memory = s.memory := by
  simp only [haltRing, State.modRing_memory, cause_memory, emit_memory]

theorem closeBuffer_memory (n : Nat) (s : State) : (closeBuffer n s).memory = s.memory := by
  unfold closeBuffer
  split <;> simp only [apply_ite State.memory, ite_self, State.modRing_memory, toHost_memory, advanceHead_memory]

theorem writePart_memory (n kind : Nat) (o : OpenBuf) (body : Bytes) (start : Bool) (s : State) :
    (writePart n kind o body start s).memory = s.memory := by
  simp only [writePart, apply_ite State.memory, ite_self, State.modRing_memory, toHost_memory, closeBuffer_memory]

theorem makeRoom_memory (n : Nat) (s : State) : (makeRoom n s).memory = s.memory := by
  simp only [makeRoom, apply_ite State.memory, ite_self, closeBuffer_memory]

theorem placeRec_memory (n kind : Nat) (body : Bytes) (s : State) : (placeRec n kind body s).2.memory = s.memory := by
  unfold placeRec
  split <;> simp only [apply_ite State.memory, apply_ite Prod.snd, ite_self, writePart_memory, makeRoom_memory]

theorem placeRest_memory (n : Nat) (s : State) : (placeRest n s).memory = s.memory := by
  unfold placeRest
  dsimp only
  split <;> simp only [apply_ite State.memory, ite_self, writePart_memory]

theorem flushTimeout_memory (n : Nat) (s : State) : (flushTimeout n s).memory = s.memory := by
  unfold flushTimeout
  split <;> simp only [apply_ite State.memory, ite_self, closeBuffer_memory]

theorem ringCfgWrite_memory (n : Nat) (v : Word32) (s : State) : (ringCfgWrite n v s).memory = s.memory := by
  unfold ringCfgWrite
  simp only [apply_ite State.memory, ite_self, State.modRing_memory, regStore_memory, closeBuffer_memory]

theorem tailWrite_memory (n : Nat) (v : Word32) (s : State) : (tailWrite n v s).memory = s.memory := by
  simp only [tailWrite, regStore_memory]

theorem ringBaseWrite_memory (n : Nat) (hi : Bool) (v : Word32) (s : State) : (ringBaseWrite n hi v s).memory = s.memory := by
  simp only [ringBaseWrite, apply_ite State.memory, ite_self, regStore_memory]

theorem endEntry_memory (n res index : Nat) (s : State) : (endEntry n res index s).memory = s.memory := by
  unfold endEntry
  split <;> simp only [apply_ite State.memory, ite_self, State.modRing_memory, perf_memory, toHost_memory]

theorem skimBatch_memory (n k : Nat) (s : State) : (skimBatch n k s).memory = s.memory := by
  induction k generalizing s with
  | zero => rfl
  | succ k ih =>
    rw [skimBatch]
    repeat' split
    all_goals simp only [ih, endEntry_memory]

theorem finishEntry_memory (n res index : Nat) (s : State) : (finishEntry n res index s).memory = s.memory := by
  simp only [finishEntry, endEntry_memory, skimBatch_memory]

theorem batchWriteBack_memory (n status : Nat) (b : Batch) (s : State) : (batchWriteBack n status b s).memory = s.memory := by
  simp only [batchWriteBack, toHost_memory]

theorem batchDone_memory (n : Nat) (s : State) : (batchDone n s).memory = s.memory := by
  unfold batchDone
  repeat' split
  all_goals simp only [State.modRing_memory, cause_memory, emit_memory, advanceHead_memory, batchWriteBack_memory]

theorem fetchHost_memory (n : Nat) (d : Bytes) (s : State) : (fetchHost n d s).memory = s.memory := by
  simp only [fetchHost, apply_ite State.memory, ite_self, State.modRing_memory, haltRing_memory]

theorem fetchInject_memory (n : Nat) (d : Bytes) (s : State) : (fetchInject n d s).memory = s.memory := by
  simp only [fetchInject, apply_ite State.memory, ite_self, State.modRing_memory, haltRing_memory]

theorem fetchBatch_memory (n : Nat) (d : Bytes) (data : Option Bytes) (s : State) : (fetchBatch n d data s).memory = s.memory := by
  unfold fetchBatch
  repeat' split
  all_goals simp only [State.memory_mk, State.memory_fold, State.modRing_memory, bump_memory, cause_memory, perf_memory, fromHost_memory,
    haltRing_memory, skimBatch_memory, batchWriteBack_memory]

theorem descFetch_memory (n : Nat) (desc data : Option Bytes) (s : State) : (descFetch n desc data s).memory = s.memory := by
  unfold descFetch
  repeat' split
  all_goals simp only [apply_ite State.memory, ite_self, fromHost_memory, haltRing_memory, fetchHost_memory, fetchInject_memory, fetchBatch_memory]

/-! ### Time base -/

theorem timeSnap_memory (s : State) : (timeSnap s).memory = s.memory := by rfl

theorem latchSnap_memory (s : State) : (latchSnap s).memory = s.memory := by
  simp only [latchSnap, State.memory_mk, State.memory_fold, regStore_memory, setPair_memory]

theorem setIncr_memory (v : Nat) (s : State) : (setIncr v s).memory = s.memory := by
  simp only [setIncr, apply_ite State.memory, ite_self, setPair_memory, emit_memory]

theorem incrWrite_memory (half : Option Bool) (w : Word64) (s : State) : (incrWrite half w s).memory = s.memory := by
  unfold incrWrite
  split <;> simp only [setIncr_memory]

theorem timeApply_memory (s : State) : (timeApply s).memory = s.memory := by
  simp only [timeApply, State.memory_mk, State.memory_fold, apply_ite State.memory, ite_self]

theorem timeCtrlWrite_memory (v : Word32) (s : State) : (timeCtrlWrite v s).memory = s.memory := by
  simp only [timeCtrlWrite, apply_ite State.memory, ite_self, regStore_memory, timeSnap_memory, timeApply_memory]

theorem followCheck_memory (s : State) : (followCheck s).memory = s.memory := by
  simp only [followCheck, State.memory_mk, State.memory_fold, apply_ite State.memory, ite_self]

theorem refclkTime_memory (lost : Bool) (s : State) : (refclkTime lost s).memory = s.memory := by
  simp only [refclkTime, State.memory_mk, State.memory_fold, apply_ite State.memory, ite_self, cause_memory, emit_memory]

theorem setTrig_memory (i : Nat) (t : Trigger) (s : State) : (setTrig i t s).memory = s.memory := by rfl

theorem trigArm_memory (i : Nat) (v : Word32) (s : State) : (trigArm i v s).memory = s.memory := by
  simp only [trigArm, apply_ite State.memory, ite_self, regStore_memory, bump_memory, cause_memory, setTrig_memory]

theorem trigDisarm_memory (i : Nat) (v : Word32) (s : State) : (trigDisarm i v s).memory = s.memory := by
  simp only [trigDisarm, regStore_memory, setTrig_memory]

theorem trigCtrlWrite_memory (i : Nat) (v : Word32) (s : State) : (trigCtrlWrite i v s).memory = s.memory := by
  simp only [trigCtrlWrite, apply_ite State.memory, ite_self, trigArm_memory, trigDisarm_memory]

theorem trigEdge_memory (i : Nat) (s : State) : (trigEdge i s).memory = s.memory := by
  unfold trigEdge
  dsimp only
  split <;> simp only [apply_ite State.memory, ite_self, setTrig_memory]

theorem trigPulseEnd_memory (i : Nat) (s : State) : (trigPulseEnd i s).memory = s.memory := by
  unfold trigPulseEnd
  split <;> simp only [apply_ite State.memory, ite_self, setTrig_memory]

theorem trigStep_memory (forward : Bool) (i : Nat) (s : State) : (trigStep forward i s).memory = s.memory := by
  unfold trigStep
  simp only [apply_ite State.memory, ite_self, bumpN_memory, cause_memory, emit_memory, setTrig_memory]

theorem bumpField_memory (off hi lo : Nat) (s : State) : (bumpField off hi lo s).memory = s.memory := by
  simp only [bumpField, apply_ite State.memory, ite_self, setField_memory]

theorem setCap_memory (i : Nat) (q : List CapEntry) (s : State) : (setCap i q s).memory = s.memory := by rfl

theorem captureEdge_memory (i : Nat) (rising : Bool) (s : State) : (captureEdge i rising s).memory = s.memory := by
  simp only [captureEdge, apply_ite State.memory, ite_self, cause_memory, emit_memory, bumpField_memory, setCap_memory]

theorem capturePop_memory (i : Nat) (s : State) : (capturePop i s).memory = s.memory := by
  simp only [capturePop, setCap_memory]

theorem ppsWrite_memory (v : Word32) (s : State) : (ppsWrite v s).memory = s.memory := by
  simp only [ppsWrite, State.memory_mk, State.memory_fold, apply_ite State.memory, ite_self, regStore_memory]

theorem ppsEdge_memory (s : State) : (ppsEdge s).memory = s.memory := by
  simp only [ppsEdge, State.memory_mk, State.memory_fold, apply_ite State.memory, ite_self]

theorem ppsPulseEnd_memory (s : State) : (ppsPulseEnd s).memory = s.memory := by
  unfold ppsPulseEnd
  split <;> simp only [State.memory_mk, State.memory_fold, apply_ite State.memory, ite_self]

theorem ppsStep_memory (s : State) : (ppsStep s).memory = s.memory := by
  simp only [ppsStep, State.memory_mk, State.memory_fold, apply_ite State.memory, ite_self]

theorem offsetAdd_memory (s : State) : (offsetAdd s).memory = s.memory := by
  unfold offsetAdd
  split <;> simp only [State.memory_foldl, implies_true, State.memory_mk, State.memory_fold, apply_ite State.memory, ite_self, cause_memory,
    emit_memory, trigStep_memory, ppsStep_memory]

theorem ts2Push_memory (e : Ts2Entry) (s : State) : (ts2Push e s).memory = s.memory := by
  simp only [ts2Push, State.memory_mk, State.memory_fold, apply_ite State.memory, ite_self, bump_memory, cause_memory]

theorem ts2Pop_memory (s : State) : (ts2Pop s).memory = s.memory := by rfl

theorem placeLosses_memory (l : List (Nat × Nat)) (s : State) : (placeLosses l s).memory = s.memory := by
  induction l generalizing s with
  | nil => rfl
  | cons x l ih =>
    obtain ⟨src, n⟩ := x
    rw [placeLosses]
    split
    · rfl
    · simp only [ih, emit_memory, State.memory_mk, State.memory_fold]

theorem sillDeliver_memory (s : State) : (sillDeliver s).memory = s.memory := by
  unfold sillDeliver
  split <;> simp only [State.memory_mk, State.memory_fold, apply_ite State.memory, ite_self, bump64_memory, placeRec_memory, placeLosses_memory]

theorem dispCfgWrite_memory (v : Word32) (s : State) : (dispCfgWrite v s).memory = s.memory := by
  simp only [dispCfgWrite, State.memory_mk, State.memory_fold, apply_ite State.memory, ite_self, regStore_memory]

/-! ### Performance counters -/

theorem winCount_memory (p len : Nat) (tx : Bool) (s : State) : (winCount p len tx s).memory = s.memory := by
  simp only [winCount, State.memory_mk, State.memory_fold, apply_ite State.memory, ite_self]

theorem windowLatch_memory (s : State) : (windowLatch s).memory = s.memory := by
  simp only [windowLatch, State.memory_mk, State.memory_fold, apply_ite State.memory, ite_self]

theorem freezeNow_memory (s : State) : (freezeNow s).memory = s.memory := by
  simp only [freezeNow, State.memory_mk, State.memory_fold, cause_memory, stamp_memory]

theorem unfreezeNow_memory (s : State) : (unfreezeNow s).memory = s.memory := by
  simp only [unfreezeNow, State.memory_mk, State.memory_fold]

theorem freezeWrite_memory (v : Word32) (s : State) : (freezeWrite v s).memory = s.memory := by
  unfold freezeWrite
  dsimp only
  repeat' split
  all_goals simp only [State.memory_mk, State.memory_fold, regStore_memory, freezeNow_memory, unfreezeNow_memory]

theorem scheduledAct_memory (s : State) : (scheduledAct s).memory = s.memory := by
  unfold scheduledAct
  split <;> simp only [apply_ite State.memory, ite_self, freezeNow_memory, unfreezeNow_memory]

theorem clearCounters_memory (s : State) : (clearCounters s).memory = s.memory := by
  simp only [clearCounters, State.memory_foldl, implies_true, setPair_memory]

theorem perfCtrlWrite_memory (v : Word32) (s : State) : (perfCtrlWrite v s).memory = s.memory := by
  simp only [perfCtrlWrite, apply_ite State.memory, ite_self, regStore_memory, clearCounters_memory]

theorem perfDump_memory (s : State) : (perfDump s).memory = s.memory := by
  unfold perfDump
  split
  · rfl
  · extract_lets seq s1 p s2
    have h1 : s1.memory = s.memory := regStore_memory _ _ _
    have h2 : s2.memory = s1.memory := by simp only [s2, State.memory_mk, State.memory_fold]
    clear_value s2 s1
    split <;> simp only [cause_memory, bump_memory, State.memory_mk, State.memory_fold, h1, h2]

theorem dumpCfgWrite_memory (v : Word32) (s : State) : (dumpCfgWrite v s).memory = s.memory := by
  simp only [dumpCfgWrite, State.memory_mk, State.memory_fold, regStore_memory]

/-! ### Flow control -/

theorem emitFc_memory (p : Nat) (f : Bytes) (s : State) : (emitFc p f s).memory = s.memory := by
  simp only [emitFc, State.memory_mk, State.memory_fold, perf_memory, bumpField_memory, winCount_memory]

theorem sendFc_memory (p : Nat) (f : Bytes) (s : State) : (sendFc p f s).memory = s.memory := by
  simp only [sendFc, apply_ite State.memory, ite_self, State.modSched_memory, emitFc_memory]

theorem flushFc_memory (p : Nat) (s : State) : (flushFc p s).memory = s.memory := by
  simp only [flushFc, State.memory_foldl, implies_true, State.modSched_memory, emitFc_memory]

theorem sendX_memory (p q : Nat) (off : Bool) (s : State) : (sendX p q off s).memory = s.memory := by
  simp only [sendX, apply_ite State.memory, ite_self, sendFc_memory]

theorem fcClass_memory (p q : Nat) (s : State) : (fcClass p q s).memory = s.memory := by
  simp only [fcClass, apply_ite State.memory, ite_self, State.setSched_memory, sendX_memory]

theorem fcUpdate_memory (p : Nat) (s : State) : (fcUpdate p s).memory = s.memory := by
  simp only [fcUpdate, State.memory_foldl, implies_true, apply_ite State.memory, ite_self, State.modSched_memory, fcClass_memory]

theorem xoffRepeat_memory (p q : Nat) (s : State) : (xoffRepeat p q s).memory = s.memory := by
  unfold xoffRepeat
  dsimp only
  split <;> simp only [apply_ite State.memory, ite_self, State.setSched_memory, sendX_memory]

theorem pauseExpiry_memory (p c : Nat) (s : State) : (pauseExpiry p c s).memory = s.memory := by
  unfold pauseExpiry
  dsimp only
  split <;> simp only [apply_ite State.memory, ite_self, State.setSched_memory]

theorem pauseClass_memory (p c quanta : Nat) (s : State) : (pauseClass p c quanta s).memory = s.memory := by
  simp only [pauseClass, State.setSched_memory]

theorem flowControl_memory (p : Nat) (data : Bytes) (s : State) : (flowControl p data s).memory = s.memory := by
  simp only [flowControl, State.memory_foldl, implies_true, apply_ite State.memory, ite_self, bumpField_memory, pauseClass_memory]

/-! ### The Sieve -/

theorem sieveLookup_memory (b : Nat) (kv : KeyVec) (tpl gen : Nat) (s : State) : (sieveLookup b kv tpl gen s).2.2.memory = s.memory := by
  unfold sieveLookup
  dsimp only
  split <;> simp only [apply_ite State.memory, ite_self, bump_memory]

theorem sievePut_memory (i : Nat) (e : SieveEntry) (s : State) : (sievePut i e s).memory = s.memory := by rfl

theorem sieveWriteOp_memory (j : SieveJob) (s : State) : (sieveWriteOp j s).2.memory = s.memory := by
  unfold sieveWriteOp
  split <;> simp only [apply_ite State.memory, apply_ite Prod.snd, ite_self, sievePut_memory]

theorem sieveInsertOp_memory (j : SieveJob) (s : State) : (sieveInsertOp j s).2.memory = s.memory := by
  unfold sieveInsertOp
  repeat' split
  all_goals simp only [sievePut_memory]

theorem sieveFindOp_memory (j : SieveJob) (s : State) : (sieveFindOp j s).2.memory = s.memory := by
  unfold sieveFindOp
  repeat' split
  all_goals simp only

theorem sieveCtrlOp_memory (f : SieveTable → SieveEntry → SieveEntry) (j : SieveJob) (s : State) : (sieveCtrlOp f j s).2.memory = s.memory := by
  unfold sieveCtrlOp
  split <;> simp only [apply_ite State.memory, apply_ite Prod.snd, ite_self, sievePut_memory]

theorem sieveReadOp_memory (j : SieveJob) (s : State) : (sieveReadOp j s).2.memory = s.memory := by
  unfold sieveReadOp
  split <;> simp only [apply_ite Prod.snd, ite_self]

theorem sieveOp_memory (j : SieveJob) (s : State) : (sieveOp j s).2.memory = s.memory := by
  unfold sieveOp
  split <;> simp only [sieveWriteOp_memory, sieveInsertOp_memory, sieveFindOp_memory, sieveCtrlOp_memory, sieveReadOp_memory]

theorem sieveBegin_memory (j : SieveJob) (s : State) : (sieveBegin j s).memory = s.memory := by
  simp only [sieveBegin, State.memory_mk, State.memory_fold, sieveOp_memory]

theorem sieveOffer_memory (j : SieveJob) (s : State) : (sieveOffer j s).memory = s.memory := by
  simp only [sieveOffer, State.memory_mk, State.memory_fold, apply_ite State.memory, ite_self, sieveBegin_memory]

theorem sieveCommand_memory (cmd : Word32) (s : State) : (sieveCommand cmd s).memory = s.memory := by
  simp only [sieveCommand, apply_ite State.memory, ite_self, regStore_memory, bump_memory, sieveOffer_memory]

theorem sieveRow_memory (op : Nat) (cmd : Word32) (s : State) : (sieveRow op cmd s).memory = s.memory := by
  simp only [sieveRow, apply_ite State.memory, ite_self, sieveCommand_memory]

theorem fillData_memory (e : SieveEntry) (s : State) : (fillData e s).memory = s.memory := by
  unfold fillData
  simp only [State.memory_foldl, implies_true, regStore_memory]

theorem sieveReport_memory (a : SieveAnswer) (s : State) : (sieveReport a s).memory = s.memory := by
  unfold sieveReport
  split <;> simp only [apply_ite State.memory, ite_self, regStore_memory, cause_memory, stamp_memory, fillData_memory]

theorem batchSieveDone_memory (n op : Nat) (a : SieveAnswer) (s : State) : (batchSieveDone n op a s).memory = s.memory := by
  simp only [batchSieveDone, apply_ite State.memory, ite_self, finishEntry_memory]

theorem sieveOpDone_memory (s : State) : (sieveOpDone s).memory = s.memory := by
  unfold sieveOpDone
  dsimp only
  repeat' split
  all_goals simp only [State.memory_mk, State.memory_fold, sieveBegin_memory, sieveReport_memory, batchSieveDone_memory]

theorem batchSieve_memory (n : Nat) (s : State) : (batchSieve n s).memory = s.memory := by
  unfold batchSieve
  split <;> simp only [State.modRing_memory, sieveOffer_memory]

/-! ### Accord epochs -/

theorem accordSwap_memory (s : State) : (accordSwap s).memory = s.memory := by
  simp only [accordSwap, State.memory_mk, State.memory_fold, apply_ite State.memory, ite_self, cause_memory]

theorem swapBatch_memory (s : State) : (swapBatch s).memory = s.memory := by
  unfold swapBatch
  split <;> simp only [apply_ite State.memory, ite_self, finishEntry_memory]

theorem accordTSwap_memory (s : State) : (accordTSwap s).memory = s.memory := by
  unfold accordTSwap
  split <;> simp only [State.memory_mk, State.memory_fold, apply_ite State.memory, ite_self, stampAt_memory, emit_memory, swapBatch_memory]

theorem drainedBatch_memory (s : State) : (drainedBatch s).memory = s.memory := by
  unfold drainedBatch
  split <;> simp only [apply_ite State.memory, ite_self, finishEntry_memory]

theorem accordDrained_memory (s : State) : (accordDrained s).memory = s.memory := by
  simp only [accordDrained, State.memory_mk, State.memory_fold, apply_ite State.memory, ite_self, cause_memory, stamp_memory, emit_memory,
    drainedBatch_memory]

theorem accordDrainTmo_memory (s : State) : (accordDrainTmo s).memory = s.memory := by
  simp only [accordDrainTmo, State.memory_mk, State.memory_fold, apply_ite State.memory, ite_self, cause_memory]

theorem batchSwap_memory (n : Nat) (s : State) : (batchSwap n s).memory = s.memory := by
  unfold batchSwap
  split <;> simp only [apply_ite State.memory, ite_self, State.modRing_memory, finishEntry_memory, accordSwap_memory]

theorem batchWait_memory (n : Nat) (s : State) : (batchWait n s).memory = s.memory := by
  unfold batchWait
  split <;> simp only [apply_ite State.memory, ite_self, State.modRing_memory, finishEntry_memory]

theorem batchTimeout_memory (n : Nat) (s : State) : (batchTimeout n s).memory = s.memory := by
  unfold batchTimeout
  repeat' split
  all_goals simp only [finishEntry_memory]

/-! ### Vault -/

theorem noteVaultOp_memory (c : Nat) (k : VClass) (s : State) : (noteVaultOp c k s).memory = s.memory := by
  simp only [noteVaultOp, apply_ite State.memory, ite_self, State.modChan_memory, perf_memory]

theorem inOrder_memory (rank u : Nat) (s : State) : (inOrder rank u s).memory = s.memory := by
  simp only [inOrder, apply_ite State.memory, ite_self, State.modChan_memory, bump_memory, perf_memory]

theorem chanRead_memory (rank u : Nat) (k : VClass) (s : State) : (chanRead rank u k s).memory = s.memory := by
  simp only [chanRead, bump64_memory, perf_memory, noteVaultOp_memory, inOrder_memory]

theorem chanWrite_memory (rank u b : Nat) (k : VClass) (s : State) : (chanWrite rank u b k s).memory = s.memory := by
  simp only [chanWrite, State.modChan_memory, bump64_memory, perf_memory, noteVaultOp_memory]

theorem countRead_memory (a : Nat) (b : Nat) (k : VClass) (s : State) : (countRead a b k s).memory = s.memory := by
  simp only [countRead, apply_ite State.memory, ite_self, bump64_memory, chanRead_memory]

theorem countWrite_memory (a : Nat) (b : Nat) (k : VClass) (s : State) : (countWrite a b k s).memory = s.memory := by
  simp only [countWrite, State.memory_foldl, implies_true, apply_ite State.memory, ite_self, bump64_memory, chanWrite_memory]

theorem setOcc_memory (b n : Nat) (s : State) : (setOcc b n s).memory = s.memory := by
  simp only [setOcc, apply_ite State.memory, ite_self, State.modLedger_memory, cause_memory]

theorem occStep_memory (slot : Nat) (f : State → State) (s : State) (h : ∀ s, (f s).memory = s.memory) : (occStep slot f s).memory = s.memory := by
  unfold occStep
  dsimp only
  split <;> simp only [setOcc_memory, h]

theorem candidate_memory (rank why : Nat) (s : State) : (candidate rank why s).memory = s.memory := by
  simp only [candidate, State.memory_mk, State.memory_fold, apply_ite State.memory, ite_self, State.modChan_memory, cause_memory, stamp_memory,
    emit_memory]

theorem spareAbort_memory (s : State) : (spareAbort s).memory = s.memory := by
  simp only [spareAbort, State.memory_mk, State.memory_fold, cause_memory, emit_memory]

theorem rankLasting_memory (rank why : Nat) (s : State) : (rankLasting rank why s).memory = s.memory := by
  simp only [rankLasting, apply_ite State.memory, ite_self, candidate_memory, spareAbort_memory]

theorem aer_memory (i : Nat) (corr : Bool) (s : State) : (aer i corr s).memory = s.memory := by
  simp only [aer, State.memory_mk, State.memory_fold, emit_memory]

theorem aerInternal_memory (s : State) : (aerInternal s).memory = s.memory := by
  simp only [aerInternal, aer_memory]

theorem logUe_memory (info addr : Nat) (s : State) : (logUe info addr s).memory = s.memory := by
  simp only [logUe, regStore_memory, setPair_memory, stamp_memory]

theorem noteLasting_memory (rank a : Nat) (user : VaultAccess) (words : Nat) (s : State) : (noteLasting rank a user words s).memory = s.memory := by
  simp only [noteLasting, apply_ite State.memory, ite_self, bump_memory, tally_memory, cause_memory, emit_memory, candidate_memory,
    spareAbort_memory, logUe_memory]

theorem noteTransient_memory (rank a : Nat) (user : VaultAccess) (words : Nat) (s : State) :
    (noteTransient rank a user words s).memory = s.memory := by
  simp only [noteTransient, bump_memory, emit_memory]

theorem countFix_memory (rank dev : Nat) (s : State) : (countFix rank dev s).memory = s.memory := by
  simp only [countFix, apply_ite State.memory, ite_self, State.modChan_memory, tally_memory, cause_memory, emit_memory, perf_memory, candidate_memory]

theorem refusePartial_memory (a lo : Nat) (host : Bool) (tellers : List (Nat × Nat)) (s : State) :
    (refusePartial a lo host tellers s).memory = s.memory := by
  simp only [refusePartial, State.memory_foldl, implies_true, apply_ite State.memory, ite_self, State.modTeller_memory, setPair_memory, bump_memory,
    cause_memory, emit_memory, aerInternal_memory]

/-! ### Egress -/

theorem setFrame_memory (f : Nat) (x : Frame) (s : State) : (setFrame f x s).memory = s.memory := by rfl

theorem dropFrame_memory (f : Nat) (s : State) : (dropFrame f s).memory = s.memory := by rfl

theorem modFrame_memory (f : Nat) (g : Frame → Frame) (s : State) : (modFrame f g s).memory = s.memory := by
  unfold modFrame
  split <;> simp only [setFrame_memory]

theorem addRef_memory (f : Nat) (s : State) : (addRef f s).memory = s.memory := by
  simp only [addRef, modFrame_memory]

theorem release_memory (f : Nat) (s : State) : (release f s).memory = s.memory := by
  unfold release
  repeat' split
  all_goals simp only [perf_memory, fcUpdate_memory, setFrame_memory, dropFrame_memory]

theorem setQueue_memory (n : Nat) (q : List Copy) (s : State) : (setQueue n q s).memory = s.memory := by rfl

theorem settleEmpty_memory (n : Nat) (s : State) : (settleEmpty n s).memory = s.memory := by
  simp only [settleEmpty, apply_ite State.memory, ite_self, State.setClass_memory]

theorem countCopy_memory (c : Copy) (code : Nat) (s : State) : (countCopy c code s).memory = s.memory := by
  unfold countCopy
  repeat' split
  all_goals simp only [dispose_memory]

theorem discardCopy_memory (c : Copy) (code : Nat) (s : State) : (discardCopy c code s).memory = s.memory := by
  simp only [discardCopy, apply_ite State.memory, ite_self, bump_memory, cause_memory, release_memory, countCopy_memory]

theorem enqueue_memory (n : Nat) (c : Copy) (s : State) : (enqueue n c s).memory = s.memory := by
  unfold enqueue
  split <;> simp only [apply_ite State.memory, ite_self, bump_memory, cause_memory, perf_memory, release_memory, setQueue_memory, discardCopy_memory]

theorem makeCopy_memory (n : Nat) (c : Copy) (s : State) : (makeCopy n c s).memory = s.memory := by
  simp only [makeCopy, addRef_memory, enqueue_memory]

theorem badTarget_memory (c : Copy) (s : State) : (badTarget c s).memory = s.memory := by
  simp only [badTarget, bump_memory, cause_memory, addRef_memory, discardCopy_memory]

theorem sendTo_memory (target q : Nat) (groups : Bool) (c : Copy) (s : State) : (sendTo target q groups c s).memory = s.memory := by
  unfold sendTo
  dsimp only
  repeat' split
  all_goals simp only [State.memory_foldl, implies_true, perfN_memory, addRef_memory, discardCopy_memory, makeCopy_memory, badTarget_memory]

theorem trySample_memory (f : Nat) (s : State) : (trySample f s).memory = s.memory := by
  unfold trySample
  split <;> simp only [apply_ite State.memory, ite_self, setFrame_memory, release_memory, makeCopy_memory]

theorem passDone_memory (f : Nat) (info : CopyInfo) (s : State) : (passDone f info s).memory = s.memory := by
  simp only [passDone, modFrame_memory, release_memory, trySample_memory]

theorem dropPass_memory (d : Desc) (cls code : Nat) (s : State) : (dropPass d cls code s).memory = s.memory := by
  simp only [dropPass, dispose_memory, passDone_memory]

theorem puntPass_memory (d : Desc) (ring cls source reason : Nat) (s : State) : (puntPass d ring cls source reason s).memory = s.memory := by
  simp only [puntPass, makeCopy_memory, passDone_memory]

theorem mirrorPass_memory (d : Desc) (target q : Nat) (s : State) : (mirrorPass d target q s).memory = s.memory := by
  simp only [mirrorPass, sendTo_memory]

theorem setPolicer_memory (k : Nat) (x : Policer) (s : State) : (setPolicer k x s).memory = s.memory := by rfl

theorem police_memory (b i : Nat) (d : Desc) (s : State) : (police b i d s).2.memory = s.memory := by
  unfold police
  split <;> simp only [apply_ite State.memory, apply_ite Prod.snd, ite_self, perf_memory, setFrame_memory, setPolicer_memory]

theorem forwardPass_memory (d : Desc) (a : Word64) (params : List Word64) (s : State) : (forwardPass d a params s).memory = s.memory := by
  simp only [forwardPass, sendTo_memory, passDone_memory]

theorem takeAction_memory (d : Desc) (a : Word64) (params : List Word64) (s : State) : (takeAction d a params s).memory = s.memory := by
  simp only [takeAction, apply_ite State.memory, ite_self, dropPass_memory, puntPass_memory, forwardPass_memory]

theorem policeAction_memory (b : Nat) (d : Desc) (a : Word64) (s : State) : (policeAction b d a s).2.memory = s.memory := by
  unfold policeAction
  split <;> simp only [police_memory]

theorem applyAction_memory (b : Nat) (d : Desc) (a : Word64) (params : List Word64) (s : State) : (applyAction b d a params s).memory = s.memory := by
  simp only [applyAction, apply_ite State.memory, ite_self, dropPass_memory, takeAction_memory, policeAction_memory]

/-! ### Ports and lanes -/

theorem freshTeth_memory (s : State) : (freshTeth s).memory = s.memory := by rfl

theorem linkOut_memory (kind seq : Nat) (payload : Bytes) (s : State) : (linkOut kind seq payload s).memory = s.memory := by
  simp only [linkOut, State.memory_mk, State.memory_fold, perf_memory]

theorem linkReply_memory (seq : Nat) (ok : Bool) (s : State) : (linkReply seq ok s).memory = s.memory := by rfl

theorem linkSend_memory (kind : Nat) (payload : Bytes) (s : State) : (linkSend kind payload s).memory = s.memory := by
  simp only [linkSend, State.memory_mk, State.memory_fold, apply_ite State.memory, ite_self, linkOut_memory]

/-! ### Dispatch items -/

theorem notePeak_memory (b : Nat) (s : State) : (notePeak b s).memory = s.memory := by
  simp only [notePeak, peak_memory]

theorem trace_memory (b k : Nat) (i : Item) (teller : Nat) (pref : Option Nat) (s : State) : (trace b k i teller pref s).memory = s.memory := by
  simp only [trace, apply_ite State.memory, ite_self, State.modDisp_memory, emit_memory]

theorem addItem_memory (b : Nat) (i : Item) (s : State) : (addItem b i s).memory = s.memory := by
  unfold addItem
  split <;> simp only [State.setDisp_memory, notePeak_memory]

theorem noteWaiting_memory (b : Nat) (i : Item) (f : Nat) (s : State) : (noteWaiting b i f s).memory = s.memory := by
  simp only [noteWaiting, bump_memory, perf_memory, modFrame_memory, trace_memory]

theorem addStateless_memory (b : Nat) (d : Desc) (a : Word64) (reclass : Bool) (s : State) : (addStateless b d a reclass s).memory = s.memory := by
  simp only [addStateless, apply_ite State.memory, ite_self, addItem_memory, noteWaiting_memory]

theorem noteStall_memory (b : Nat) (i : Item) (s : State) : (noteStall b i s).memory = s.memory := by
  simp only [noteStall, cause_memory, trace_memory]

theorem noteRefused_memory (b : Nat) (i : Item) (s : State) : (noteRefused b i s).memory = s.memory := by
  simp only [noteRefused, bump_memory, cause_memory, trace_memory]

theorem offerMaint_memory (b routine : Nat) (kind : ItemFor) (hash arg : Word64) (s : State) :
    (offerMaint b routine kind hash arg s).2.memory = s.memory := by
  simp only [offerMaint, apply_ite State.memory, apply_ite Prod.snd, ite_self, trace_memory, addItem_memory]

theorem exportItem_memory (b : Nat) (n : Snapshot) (s : State) : (exportItem b n s).2.memory = s.memory := by
  simp only [exportItem, apply_ite State.memory, apply_ite Prod.snd, ite_self, offerMaint_memory]

theorem mirrorSend_memory (b type : Nat) (hash : Word64) (r : Rec) (s : State) : (mirrorSend b type hash r s).memory = s.memory := by
  simp only [mirrorSend, State.memory_mk, State.memory_fold, apply_ite State.memory, ite_self, bump_memory, cause_memory, emit_memory]

theorem mirrorEvent_memory (b e : Nat) (hash : Word64) (r : Rec) (s : State) : (mirrorEvent b e hash r s).2.memory = s.memory := by
  unfold mirrorEvent
  split <;> simp only [mirrorSend_memory]

/-! ### Till -/

theorem setWay_memory (b k : Nat) (w : Way) (s : State) : (setWay b k w s).memory = s.memory := by
  simp only [setWay, State.modLedger_memory]

theorem dropWay_memory (b k : Nat) (s : State) : (dropWay b k s).memory = s.memory := by
  simp only [dropWay, State.modLedger_memory]

theorem modWay_memory (b k : Nat) (f : Way → Way) (s : State) : (modWay b k f s).memory = s.memory := by
  unfold modWay
  split <;> simp only [setWay_memory]

theorem touchWay_memory (b k : Nat) (s : State) : (touchWay b k s).memory = s.memory := by
  simp only [touchWay, State.modLedger_memory]

theorem unclaim_memory (b k : Nat) (s : State) : (unclaim b k s).memory = s.memory := by
  unfold unclaim
  split <;> simp only [implies_true, apply_ite State.memory, ite_self, occStep_memory, modWay_memory]

theorem unflush_memory (b k : Nat) (s : State) : (unflush b k s).memory = s.memory := by
  simp only [unflush, State.modLedger_memory]

theorem pinWay_memory (b k : Nat) (s : State) : (pinWay b k s).memory = s.memory := by
  unfold pinWay
  split <;> simp only [apply_ite State.memory, ite_self, bump_memory, cause_memory, setWay_memory]

theorem noteState_memory (b : Nat) (hash : Word64) (r : Rec) (s : State) : (noteState b hash r s).memory = s.memory := by
  simp only [noteState, apply_ite State.memory, ite_self, cause_memory, emit_memory]

theorem putWay_memory (b k : Nat) (f : Fill) (s : State) : (putWay b k f s).memory = s.memory := by
  simp only [putWay, State.modLedger_memory, setWay_memory, touchWay_memory, pinWay_memory]

theorem noteNoway_memory (b : Nat) (s : State) : (noteNoway b s).memory = s.memory := by
  simp only [noteNoway, bump_memory, cause_memory]

theorem visit_memory (b k : Nat) (d : Desc) (s : State) : (visit b k d s).memory = s.memory := by
  unfold visit
  split <;> simp only [apply_ite State.memory, ite_self, setFrame_memory, mirrorSend_memory, setWay_memory, modWay_memory]

theorem tailAdd_memory (len : Nat) (a : TailAdd) (s : State) : (tailAdd len a s).memory = s.memory := by
  unfold tailAdd
  split <;> simp only [modWay_memory]

theorem lockWay_memory (b k t : Nat) (s : State) : (lockWay b k t s).memory = s.memory := by
  simp only [lockWay, modWay_memory]

theorem unlockWay_memory (b k : Nat) (s : State) : (unlockWay b k s).memory = s.memory := by
  simp only [unlockWay, modWay_memory]

theorem lockAlarm_memory (b k : Nat) (s : State) : (lockAlarm b k s).memory = s.memory := by
  unfold lockAlarm
  repeat' split
  all_goals simp only [apply_ite State.memory, ite_self, bump_memory, cause_memory, emit_memory, setWay_memory]

theorem flushStart_memory (b : Nat) (v : Word32) (s : State) : (flushStart b v s).memory = s.memory := by
  simp only [flushStart, apply_ite State.memory, ite_self, State.modLedger_memory, setField_memory]

theorem occLimitWrite_memory (v : Word32) (s : State) : (occLimitWrite v s).memory = s.memory := by
  simp only [occLimitWrite, State.memory_foldl, implies_true, apply_ite State.memory, ite_self, setField_memory, cause_memory]

/-! ### Slots -/

theorem lostRead_memory (b slot : Nat) (k : VClass) (s : State) : (lostRead b slot k s).2.memory = s.memory := by
  simp only [lostRead, bump_memory, countRead_memory]

theorem refillTokens_memory (b : Nat) (s : State) : (refillTokens b s).memory = s.memory := by
  simp only [refillTokens, State.modLedger_memory]

theorem takeToken_memory (b : Nat) (s : State) : (takeToken b s).2.memory = s.memory := by
  simp only [takeToken, apply_ite State.memory, apply_ite Prod.snd, ite_self, State.modLedger_memory, refillTokens_memory]

theorem setupBurstWrite_memory (b : Nat) (v : Word32) (s : State) : (setupBurstWrite b v s).memory = s.memory := by
  simp only [setupBurstWrite, State.modLedger_memory, setField_memory, refillTokens_memory]

theorem noteSetup_memory (b : Nat) (s : State) : (noteSetup b s).memory = s.memory := by
  simp only [noteSetup, bump64_memory, perf_memory]

theorem noteStateLost_memory (b : Nat) (hash : Word64) (slot : Nat) (s : State) : (noteStateLost b hash slot s).memory = s.memory := by
  simp only [noteStateLost, bump_memory, cause_memory, emit_memory]

theorem mirrorSetup_memory (b k : Nat) (s : State) : (mirrorSetup b k s).memory = s.memory := by
  unfold mirrorSetup
  split <;> simp only [apply_ite State.memory, ite_self, mirrorEvent_memory, modWay_memory]

/-! ### Allowances -/

theorem noteAllowance_memory (u what amount : Nat) (s : State) : (noteAllowance u what amount s).memory = s.memory := by
  simp only [noteAllowance, emit_memory]

theorem refuseAllowance_memory (u amount : Nat) (s : State) : (refuseAllowance u amount s).memory = s.memory := by
  simp only [refuseAllowance, bump_memory, cause_memory, noteAllowance_memory]

theorem grantAllowance_memory (u a : Nat) (s : State) : (grantAllowance u a s).memory = s.memory := by
  simp only [grantAllowance, State.memory_mk, State.memory_fold, State.setUser_memory, noteAllowance_memory]

theorem requestAllowance_memory (u a : Nat) (s : State) : (requestAllowance u a s).memory = s.memory := by
  simp only [requestAllowance, State.memory_mk, State.memory_fold, apply_ite State.memory, ite_self, State.setUser_memory, refuseAllowance_memory,
    grantAllowance_memory]

theorem grantHead_memory (s : State) : (grantHead s).memory = s.memory := by
  unfold grantHead
  split <;> simp only [State.memory_mk, State.memory_fold, apply_ite State.memory, ite_self, grantAllowance_memory]

theorem dropAllowance_memory (u : Nat) (s : State) : (dropAllowance u s).memory = s.memory := by
  simp only [dropAllowance, State.memory_mk, State.memory_fold, apply_ite State.memory, ite_self, State.setUser_memory]

theorem returnAllowance_memory (u : Nat) (s : State) : (returnAllowance u s).memory = s.memory := by
  unfold returnAllowance
  split <;> simp only [State.memory_mk, State.memory_fold, State.setUser_memory, noteAllowance_memory, dropAllowance_memory]

theorem revokeAllowance_memory (u : Nat) (s : State) : (revokeAllowance u s).memory = s.memory := by
  simp only [revokeAllowance, bump_memory, cause_memory, noteAllowance_memory, dropAllowance_memory]

theorem revokeToFit_memory (n : Nat) (s : State) : (revokeToFit n s).memory = s.memory := by
  induction n generalizing s with
  | zero => rfl
  | succ n ih =>
    rw [revokeToFit]
    dsimp only
    split
    · rfl
    · split <;> simp only [ih, revokeAllowance_memory]

theorem revokeAll_memory (n : Nat) (s : State) : (revokeAll n s).memory = s.memory := by
  induction n generalizing s with
  | zero => rfl
  | succ n ih =>
    rw [revokeAll]
    split
    · simp only [ih, revokeAllowance_memory]
    · simp only [State.memory_foldl, refuseAllowance_memory, State.setUser_memory, implies_true, State.memory_mk, State.memory_fold]

theorem slewStep_memory (s : State) : (slewStep s).memory = s.memory := by
  unfold slewStep
  split <;> simp only [State.memory_mk, State.memory_fold, apply_ite State.memory, ite_self, State.setUser_memory]

/-! ### Vault accesses -/

theorem drainWrite_memory (c : Nat) (s : State) : (drainWrite c s).memory = s.memory := by
  unfold drainWrite
  dsimp only
  split <;> simp only [apply_ite State.memory, ite_self, State.setChan_memory]

theorem drainWrites_memory (s : State) : (drainWrites s).memory = s.memory := by
  simp only [drainWrites, State.memory_foldl, implies_true, apply_ite State.memory, ite_self, drainWrite_memory]

/-! ### On-chip errors -/

theorem sramEvent_memory (mem branch addr : Nat) (e : EccResult) (s : State) : (sramEvent mem branch addr e s).memory = s.memory := by
  unfold sramEvent
  split <;> simp only [tally_memory, cause_memory, emit_memory, logUe_memory]

theorem sramRead_memory (mem : Nat) (r : SramRead) (s : State) : (sramRead mem r s).2.memory = s.memory := by
  simp only [sramRead, sramEvent_memory]

theorem complete_memory (data : Bytes) (s : State) : (complete data s).memory = s.memory := by rfl

theorem unsupported_memory (s : State) : (unsupported s).memory = s.memory := by rfl

theorem modMem_memory (t op : Nat) (f : MemOp → MemOp) (s : State) : (modMem t op f s).memory = s.memory := by
  simp only [modMem, State.modTeller_memory]

theorem dropMem_memory (t op : Nat) (s : State) : (dropMem t op s).memory = s.memory := by
  simp only [dropMem, State.modTeller_memory]

theorem answerCoffer_memory (q : CofferReq) (v : Word64) (s : State) : (answerCoffer q v s).memory = s.memory := by
  simp only [answerCoffer, modMem_memory]

theorem poisonCoffer_memory (q : CofferReq) (s : State) : (poisonCoffer q s).memory = s.memory := by
  simp only [poisonCoffer, modMem_memory]

theorem endStore_memory (q : CofferReq) (s : State) : (endStore q s).memory = s.memory := by
  simp only [endStore, apply_ite State.memory, ite_self, dropMem_memory]

theorem roundStep_memory (old : Option Word64) (q : CofferReq) (cur : Option Word64) (s : State) : (roundStep old q cur s).2.memory = s.memory := by
  unfold roundStep
  repeat' split
  all_goals simp only [modMem_memory, answerCoffer_memory, poisonCoffer_memory, endStore_memory]

theorem cofferOff_memory (s : State) : (cofferOff s).memory = s.memory := by
  unfold cofferOff
  dsimp only
  rw [State.memory_foldl]
  · simp only [apply_ite State.memory, cause_memory, State.memory_mk, State.memory_fold, ite_self]
  · intro t q
    split
    · split
      · exact dropMem_memory ..
      · exact poisonCoffer_memory ..
    · rfl

end Sys2Proof.Machine
end


section
/-!
PROOFS. What leaves the cells of the Vault and the words of the Coffer as they were:
Ledger, Dispatchers, Noses, Tellers, IPFIX, MAC and Assayers (O10).
-/
namespace Sys2Proof.Machine

/-! ### Ledger -/

theorem offerStateless_memory (b : Nat) (d : Desc) (a : Word64) (s : State) : (offerStateless b d a s).memory = s.memory := by
  simp only [offerStateless, apply_ite State.memory, ite_self, State.modLedger_memory, addStateless_memory, noteStall_memory]

theorem statelessAction_memory (b : Nat) (d : Desc) (a : Word64) (s : State) : (statelessAction b d a s).memory = s.memory := by
  simp only [statelessAction, apply_ite State.memory, ite_self, dropPass_memory, policeAction_memory, applyAction_memory, offerStateless_memory]

theorem defaultAct_memory (b act ring source code : Nat) (d : Desc) (s : State) : (defaultAct b act ring source code d s).memory = s.memory := by
  unfold defaultAct
  split <;> simp only [sieveLookup_memory, dropPass_memory, puntPass_memory, statelessAction_memory]

theorem overflowAct_memory (b code : Nat) (d : Desc) (s : State) : (overflowAct b code d s).memory = s.memory := by
  simp only [overflowAct, defaultAct_memory]

theorem setupAct_memory (b : Nat) (d : Desc) (s : State) : (setupAct b d s).memory = s.memory := by
  simp only [setupAct, defaultAct_memory]

theorem toItem_memory (b k : Nat) (d : Desc) (a : Word64) (setup reclass : Bool) (s : State) (s0 : State) (h0 : s0.memory = s.memory) :
    ((toItem b k d a setup reclass s).state s0).memory = s.memory := by
  unfold toItem
  dsimp only
  split
  · simp only [Decision.state_done, addItem_memory, visit_memory]
  · exact h0

theorem updateUnit_memory (b k : Nat) (d : Desc) (s : State) : (updateUnit b k d s).memory = s.memory := by
  simp only [updateUnit, bump64_memory, perf_memory, applyAction_memory, visit_memory]

theorem noteRefusedSetup_memory (b : Nat) (s : State) : (noteRefusedSetup b s).memory = s.memory := by
  simp only [noteRefusedSetup, bump_memory, cause_memory]

theorem setupPass_memory (b k : Nat) (d : Desc) (a : Word64) (s : State) (s0 : State) (h0 : s0.memory = s.memory) :
    ((setupPass b k d a s).state s0).memory = s.memory := by
  unfold setupPass
  split
  · simp only [Decision.state_done, applyAction_memory, mirrorSetup_memory, visit_memory]
  · rw [toItem_memory _ _ _ _ _ _ _ _ (h0.trans (modWay_memory ..).symm), modWay_memory]

theorem setupPass_memory' {b k : Nat} {d : Desc} {a : Word64} {s : State} {r' : State} (h' : setupPass b k d a s = .done r') :
    r'.memory = s.memory := by
  have k' := setupPass_memory b k d a s s rfl
  rw [h'] at k'
  exact k'

theorem joinChain_memory (b k : Nat) (w : Way) (d : Desc) (s : State) : (joinChain b k w d s).memory = s.memory := by
  simp only [joinChain, State.modDisp_memory, notePeak_memory, noteWaiting_memory, setWay_memory]

theorem answerOpen_memory (t : Nat) (k : Option Nat) (s : State) : (answerOpen t k s).memory = s.memory := by
  simp only [answerOpen, State.modTeller_memory]

theorem hostDone_memory (b : Nat) (a : HostAnswer) (s : State) : (hostDone b a s).memory = s.memory := by
  simp only [hostDone, State.modLedger_memory]

theorem hostWay_memory (b k result where_ : Nat) (data : Bool) (s : State) : (hostWay b k result where_ data s).memory = s.memory := by
  unfold hostWay
  split <;> simp only [hostDone_memory]

theorem mirrorIgnored_memory (s : State) : (mirrorIgnored s).memory = s.memory := by
  simp only [mirrorIgnored, bump_memory]

theorem dropEntry_memory (b id : Nat) (s : State) : (dropEntry b id s).memory = s.memory := by
  simp only [dropEntry, State.modLedger_memory]

theorem putEntry_memory (b : Nat) (e : MissEntry) (s : State) : (putEntry b e s).memory = s.memory := by
  simp only [putEntry, State.modLedger_memory]

theorem noteQueue_memory (b : Nat) (s : State) : (noteQueue b s).memory = s.memory := by
  simp only [noteQueue, peak_memory]

theorem startReloc_memory (b : Nat) (e : MissEntry) (s : State) : (startReloc b e s).2.memory = s.memory := by
  simp only [startReloc, apply_ite State.memory, apply_ite Prod.snd, ite_self, bump_memory, offerMaint_memory]

theorem noteNoslot_memory (b : Nat) (s : State) : (noteNoslot b s).memory = s.memory := by
  simp only [noteNoslot, bump_memory, cause_memory]

theorem holdEntry_memory (b : Nat) (e : MissEntry) (d : Desc) (searched : Bool) (s : State) :
    (holdEntry b e d searched s).state.memory = s.memory := by
  unfold holdEntry
  rw [EntryStep.state_wait]
  split
  · rfl
  · exact noteStall_memory ..

theorem setupTurn_memory (b k : Nat) (e : MissEntry) (d : Desc) (a : Word64) (s : State) : (setupTurn b k e d a s).state.memory = s.memory := by
  unfold setupTurn
  split
  next h => exact setupPass_memory' h
  next => exact holdEntry_memory ..

theorem setupLook_memory (b : Nat) (e : MissEntry) (d : Desc) (s : State) : (setupLook b e d s).2.2.memory = s.memory := by
  unfold setupLook
  split <;> simp only [apply_ite State.memory, apply_ite Prod.snd, ite_self, sieveLookup_memory, takeToken_memory]

theorem hostAnswered_memory (b : Nat) (a : HostAnswer) (s : State) : (hostAnswered b a s).state.memory = s.memory := by
  rw [hostAnswered, EntryStep.state_hold, hostDone_memory]

theorem searchAnew_memory (e : MissEntry) (s : State) : (searchAnew e s).state.memory = s.memory := by rfl

theorem releaseMirror_memory (b : Nat) (w : Way) (s : State) : (releaseMirror b w s).2.memory = s.memory := by
  simp only [releaseMirror, apply_ite State.memory, apply_ite Prod.snd, ite_self, mirrorEvent_memory]

theorem probeHit_memory (b k : Nat) (s : State) : (probeHit b k s).memory = s.memory := by
  simp only [probeHit, bump64_memory, perf_memory, touchWay_memory]

theorem askPeer_memory (who : RecoverFor) (s : State) : (askPeer who s).2.memory = s.memory := by
  unfold askPeer
  split <;> simp only [State.memory_mk, State.memory_fold, bump_memory]

theorem fillHrec_memory (b : Nat) (r : Rec) (s : State) : (fillHrec b r s).memory = s.memory := by
  simp only [fillHrec, State.memory_foldl, implies_true, setPair_memory]

/-! ### Dispatcher -/

theorem modItem_memory (b id : Nat) (f : Item → Item) (s : State) : (modItem b id f s).memory = s.memory := by
  simp only [modItem, State.modDisp_memory]

theorem startOn_memory (b t : Nat) (i : Item) (s : State) : (startOn b t i s).memory = s.memory := by
  unfold startOn
  split <;> simp only [State.setTeller_memory, lockWay_memory, modItem_memory]

theorem noteStart_memory (b t : Nat) (i : Item) (pref : Option Nat) (s : State) : (noteStart b t i pref s).memory = s.memory := by
  simp only [noteStart, apply_ite State.memory, ite_self, State.modDisp_memory, bump_memory, perf_memory, trace_memory]

theorem startItem_memory (b t : Nat) (i : Item) (pref : Option Nat) (s : State) : (startItem b t i pref s).memory = s.memory := by
  simp only [startItem, startOn_memory, noteStart_memory]

theorem requestPreempt_memory' {b : Nat} {i : Item} {pref : Option Nat} {s s' : State} (h : requestPreempt b i pref s = some s') :
    s'.memory = s.memory := by
  unfold requestPreempt at h
  dsimp only at h
  split at h
  · cases h
  · obtain ⟨t, -, rfl⟩ := Option.map_eq_some_iff.1 h
    simp only [trace_memory, perf_memory, bump_memory, State.modTeller_memory, State.modDisp_memory, modItem_memory]

theorem place_memory' {b : Nat} {i : Item} {s s' : State} (h : place b i s = some s') : s'.memory = s.memory := by
  unfold place at h
  extract_lets pref w here at h
  clear_value here
  split at h
  · cases h
  · split at h
    · rw [← Option.some.inj h, startItem_memory]
    · split at h
      · cases h
      · split at h
        · rw [← Option.some.inj h, startItem_memory]
        · split at h
          · exact requestPreempt_memory' h
          · cases h

theorem noteNoTeller_memory (b : Nat) (s : State) : (noteNoTeller b s).memory = s.memory := by
  simp only [noteNoTeller, apply_ite State.memory, ite_self, State.modDisp_memory, cause_memory]

theorem dispatchDecision_memory (b : Nat) (s : State) : (dispatchDecision b s).memory = s.memory := by
  unfold dispatchDecision
  dsimp only
  refine State.memory_getD (fun t h => ?_) (noteNoTeller_memory ..)
  obtain ⟨i, -, hi⟩ := List.exists_of_findSome?_eq_some h
  rw [place_memory' hi, noteNoTeller_memory]

theorem waitExpiry_memory (b item hi lo : Nat) (s : State) : (waitExpiry b item hi lo s).memory = s.memory := by
  unfold waitExpiry
  split
  · split
    · exact dispatchDecision_memory ..
    · rfl
  · rfl

theorem stallInterval_memory (b : Nat) (s : State) : (stallInterval b s).memory = s.memory := by
  simp only [stallInterval, apply_ite State.memory, ite_self, bump_memory]

theorem hostPost_memory (b : Nat) (s : State) : (hostPost b s).memory = s.memory := by
  simp only [hostPost, apply_ite State.memory, ite_self, setField_memory, trace_memory, addItem_memory]

theorem sweepOffer_memory (b : Nat) (s : State) : (sweepOffer b s).memory = s.memory := by
  simp only [sweepOffer, apply_ite State.memory, ite_self, State.modDisp_memory, setField_memory, bump_memory, cause_memory, offerMaint_memory]

theorem setAff_memory (b i v : Nat) (s : State) : (setAff b i v s).memory = s.memory := by
  simp only [setAff, State.modDisp_memory]

theorem affNext_memory (b : Nat) (s : State) : (affNext b s).memory = s.memory := by
  simp only [affNext, apply_ite State.memory, ite_self, setField_memory]

theorem affWrite_memory (b : Nat) (v : Word32) (s : State) : (affWrite b v s).memory = s.memory := by
  simp only [affWrite, setAff_memory, affNext_memory]

theorem affAccess_memory (b : Nat) (w : Option Word32) (s : State) : (affAccess b w s).memory = s.memory := by
  unfold affAccess
  split <;> simp only [implies_true, State.memory_mk, State.memory_fold, apply_ite State.memory, ite_self, gated_memory, affNext_memory,
    affWrite_memory]

/-! ### Nose -/

theorem setGroup_memory (g : Nat) (x : NoseGroup) (s : State) : (setGroup g x s).memory = s.memory := by rfl

theorem putW14_memory (b k : Nat) (v : Word64) (s : State) : (putW14 b k v s).memory = s.memory := by
  simp only [putW14, modWay_memory]

theorem setGap_memory (b k : Nat) (s : State) : (setGap b k s).memory = s.memory := by
  unfold setGap
  split <;> simp only [putW14_memory]

theorem leaveGap_memory (b : Nat) (way : Option Nat) (s : State) : (leaveGap b way s).memory = s.memory := by
  unfold leaveGap
  repeat' split
  all_goals simp only [State.modNose_memory, setGap_memory]

theorem settleGaps_memory (b : Nat) (s : State) : (settleGaps b s).memory = s.memory := by
  simp only [settleGaps, State.memory_foldl, implies_true, State.setNose_memory, setGap_memory]

theorem giveResult_memory (q : ScanReq) (w : Word64) (s : State) : (giveResult q w s).memory = s.memory := by
  simp only [giveResult, State.modTeller_memory]

theorem loseReport_memory (b : Nat) (hash w : Word64) (s : State) : (loseReport b hash w s).memory = s.memory := by
  simp only [loseReport, bump_memory, cause_memory, emit_memory]

theorem offerReports_memory (b n : Nat) (s : State) : (offerReports b n s).memory = s.memory := by
  induction n generalizing s with
  | zero => rfl
  | succ n ih =>
    rw [offerReports]
    split
    · rfl
    · dsimp only
      split
      · simp only [ih, loseReport_memory, State.modNose_memory]
      · split
        · simp only [ih, addItem_memory, State.modNose_memory]
        · exact State.modNose_memory ..

theorem report_memory (b : Nat) (q : ScanReq) (w : Word64) (s : State) : (report b q w s).memory = s.memory := by
  simp only [report, apply_ite State.memory, ite_self, State.setNose_memory, loseReport_memory, offerReports_memory]

theorem reportRetry_memory (b : Nat) (s : State) : (reportRetry b s).memory = s.memory := by
  simp only [reportRetry, apply_ite State.memory, ite_self, offerReports_memory]

theorem noseBurst_memory (b : Nat) (s : State) : (noseBurst b s).memory = s.memory := by
  simp only [noseBurst, apply_ite State.memory, ite_self, requestAllowance_memory]

theorem noteBacklog_memory (b : Nat) (s : State) : (noteBacklog b s).memory = s.memory := by
  simp only [noteBacklog, State.modNose_memory]

theorem noseTick_memory (b : Nat) (s : State) : (noseTick b s).memory = s.memory := by
  unfold noseTick
  split <;> simp only [apply_ite State.memory, ite_self, State.modNose_memory, noteBacklog_memory]

theorem noseBurstReturn_memory (b : Nat) (s : State) : (noseBurstReturn b s).memory = s.memory := by
  unfold noseBurstReturn
  split <;> simp only [apply_ite State.memory, ite_self, returnAllowance_memory]

theorem scanAtOnce_memory (b : Nat) (q : ScanReq) (status : Nat) (s : State) : (scanAtOnce b q status s).memory = s.memory := by
  simp only [scanAtOnce, leaveGap_memory, giveResult_memory]

theorem issueScan_memory (b t item : Nat) (d : Desc) (way : Option Nat) (qarg : Nat) (src : Word64) (s : State) (s0 : State)
    (h0 : s0.memory = s.memory) :
    ((issueScan b t item d way qarg src s).state s0).memory = s.memory := by
  unfold issueScan
  dsimp only
  repeat' split
  all_goals
    simp only [ScanIssue.state_done, ScanIssue.state_wait, h0, State.setNose_memory, State.modTeller_memory, bump_memory, cause_memory, perf_memory,
      modFrame_memory, addRef_memory, modWay_memory, leaveGap_memory, giveResult_memory, noseBurst_memory, noteBacklog_memory, scanAtOnce_memory]

theorem issueScan_memory' {b t item : Nat} {d : Desc} {way : Option Nat} {qarg : Nat} {src : Word64} {s : State} {r' : State}
    (h' : issueScan b t item d way qarg src s = .done r') :
    r'.memory = s.memory := by
  have k' := issueScan_memory b t item d way qarg src s s rfl
  rw [h'] at k'
  exact k'

theorem noseStart_memory (b : Nat) (s : State) : (noseStart b s).memory = s.memory := by
  unfold noseStart
  dsimp only
  split <;> simp only [apply_ite State.memory, ite_self, State.setNose_memory, bump_memory]

theorem noseMemory_memory (b addr : Nat) (e : EccResult) (s : State) : (noseMemory b addr e s).memory = s.memory := by
  unfold noseMemory
  split <;> simp only [bump_memory, cause_memory, sramEvent_memory]

theorem noseResume_memory (b : Nat) (s : State) : (noseResume b s).memory = s.memory := by
  simp only [noseResume, State.modNose_memory]

theorem noseThrottle_memory (b : Nat) (s : State) : (noseThrottle b s).memory = s.memory := by
  unfold noseThrottle
  split <;> simp only [apply_ite State.memory, ite_self, State.setNose_memory, cause_memory, emit_memory]

theorem groupResult_memory (v : Word32) (r : Nat) (s : State) : (groupResult v r s).memory = s.memory := by
  simp only [groupResult, setField_memory]

theorem noseInvalidate_memory (v : Word32) (s : State) : (noseInvalidate v s).memory = s.memory := by
  simp only [noseInvalidate, apply_ite State.memory, ite_self, setGroup_memory, groupResult_memory]

theorem noteGroup_memory (g : Nat) (validated : Bool) (s : State) : (noteGroup g validated s).memory = s.memory := by
  simp only [noteGroup, cause_memory, stamp_memory, emit_memory]

theorem noseQuiesced_memory (g : Nat) (s : State) : (noseQuiesced g s).memory = s.memory := by
  simp only [noseQuiesced, apply_ite State.memory, ite_self, setGroup_memory, noteGroup_memory]

theorem noseValidate_memory (v : Word32) (s : State) : (noseValidate v s).memory = s.memory := by
  simp only [noseValidate, apply_ite State.memory, ite_self, setGroup_memory, groupResult_memory, noteGroup_memory]

theorem noseMemWrite_memory (v : Word32) (s : State) : (noseMemWrite v s).memory = s.memory := by
  simp only [noseMemWrite, State.memory_mk, State.memory_fold, apply_ite State.memory, ite_self, setField_memory, bump_memory, cause_memory]

/-! ### Auditor -/

theorem lapBegin_memory (m : Nat) (s : State) : (lapBegin m s).memory = s.memory := by
  simp only [lapBegin, State.memory_mk, State.memory_fold, apply_ite State.memory, ite_self]

theorem lapEnd_memory (m : Nat) (s : State) : (lapEnd m s).memory = s.memory := by
  simp only [lapEnd, State.memory_mk, State.memory_fold, regStore_memory, tally_memory, emit_memory]

theorem pageVisited_memory (m : Nat) (s : State) : (pageVisited m s).memory = s.memory := by
  simp only [pageVisited, State.memory_mk, State.memory_fold, apply_ite State.memory, ite_self, lapEnd_memory]

theorem recordVisited_memory (rank u : Nat) (s : State) : (recordVisited rank u s).memory = s.memory := by
  simp only [recordVisited, State.memory_mk, State.memory_fold, apply_ite State.memory, ite_self, lapEnd_memory]

theorem lapAlarm_memory (m : Nat) (s : State) : (lapAlarm m s).memory = s.memory := by
  simp only [lapAlarm, State.memory_mk, State.memory_fold, apply_ite State.memory, ite_self, cause_memory, emit_memory]

theorem notePoisoned_memory (a : Nat) (ft asked : Bool) (s : State) : (notePoisoned a ft asked s).memory = s.memory := by
  simp only [notePoisoned, emit_memory]

theorem notePeerRepair_memory (a outcome : Nat) (s : State) : (notePeerRepair a outcome s).memory = s.memory := by
  simp only [notePeerRepair, emit_memory]

theorem peerFail_memory (slot outcome : Nat) (counted : Bool) (s : State) : (peerFail slot outcome counted s).memory = s.memory := by
  simp only [peerFail, apply_ite State.memory, ite_self, bump_memory, cause_memory, notePeerRepair_memory]

theorem auditSlot_memory (slot : Nat) (s : State) : (auditSlot slot s).memory = s.memory := by
  unfold auditSlot
  split <;> simp only [apply_ite State.memory, ite_self, modWay_memory, askPeer_memory, notePoisoned_memory, peerFail_memory]

theorem scrubRecord_memory (rank u : Nat) (s : State) : (scrubRecord rank u s).memory = s.memory := by
  unfold scrubRecord
  split <;> simp only [bump_memory, chanWrite_memory, countWrite_memory]

/-! ### Record window -/

theorem windowStore_memory (b k op i : Nat) (src mask : Word64) (s : State) : (windowStore b k op i src mask s).memory = s.memory := by
  unfold windowStore
  split <;> simp only [apply_ite State.memory, ite_self, setWay_memory, pinWay_memory]

theorem openEnd_memory (t : Nat) (s : State) : (openEnd t s).memory = s.memory := by
  simp only [openEnd, State.modTeller_memory]

/-! ### Memory operations of the Tellers -/

theorem localStore_memory (t : Nat) (x : Teller) (w : MicroWord) (s : State) : (localStore t x w s).memory = s.memory := by
  simp only [localStore, apply_ite State.memory, ite_self, State.modTeller_memory]

theorem queueOp_memory (t : Nat) (m : MemOp) (s : State) : (queueOp t m s).memory = s.memory := by
  simp only [queueOp, State.modTeller_memory]

theorem mopEffect_memory (b t : Nat) (x : Teller) (w : MicroWord) (s : State) : (mopEffect b t x w s).memory = s.memory := by
  unfold mopEffect
  dsimp only
  repeat' split
  all_goals simp only [State.memory_mk, State.memory_fold, perf_memory, sieveLookup_memory, localStore_memory, queueOp_memory]

theorem setMoveEntry_memory (t i : Nat) (r : Rec) (s : State) : (setMoveEntry t i r s).memory = s.memory := by
  simp only [setMoveEntry, State.modTeller_memory]

theorem finishOp_memory (t : Nat) (m : MemOp) (vals : List Word64) (sv : Bool) (s : State) : (finishOp t m vals sv s).memory = s.memory := by
  simp only [finishOp, State.modTeller_memory]

theorem cofferReply_memory (t : Nat) (m : MemOp) (s : State) : (cofferReply t m s).memory = s.memory := by
  unfold cofferReply
  split <;> simp only [apply_ite State.memory, ite_self, finishOp_memory]

theorem noteDrained_memory (d : Nat) (s : State) : (noteDrained d s).memory = s.memory := by
  simp only [noteDrained, apply_ite State.memory, ite_self, cause_memory]

/-! ### End of an item -/

theorem recircEnter_memory (b : Nat) (d : Desc) (s : State) : (recircEnter b d s).memory = s.memory := by
  simp only [recircEnter, apply_ite State.memory, ite_self, State.modAssay_memory, peak_memory, cause_memory]

theorem recircPass_memory (b : Nat) (d : Desc) (strip root : Nat) (entered : Bool) (s : State) :
    (recircPass b d strip root entered s).memory = s.memory := by
  simp only [recircPass, apply_ite State.memory, ite_self, bump_memory, cause_memory, dispose_memory, dropPass_memory, puntPass_memory,
    recircEnter_memory]

theorem packetEnd_memory (b : Nat) (c : ItemCtx) (s : State) : (packetEnd b c s).memory = s.memory := by
  unfold packetEnd
  repeat' split
  all_goals simp only [State.memory_foldl, implies_true, passDone_memory, dropPass_memory, puntPass_memory, mirrorPass_memory, takeAction_memory,
    recircPass_memory]

theorem recircAwait_memory (b t : Nat) (c : ItemCtx) (v : Option Verdict) (s : State) : (recircAwait b t c v s).memory = s.memory := by
  unfold recircAwait
  split <;> simp only [apply_ite State.memory, ite_self, State.modAssay_memory]

theorem releasePacket_memory (b t : Nat) (s : State) : (releasePacket b t s).memory = s.memory := by
  simp only [releasePacket, State.modTeller_memory, modItem_memory, packetEnd_memory]

theorem dropRequest_memory (b t : Nat) (s : State) : (dropRequest b t s).memory = s.memory := by
  simp only [dropRequest, State.modDisp_memory]

theorem declinePreempt_memory (b t item : Nat) (s : State) : (declinePreempt b t item s).memory = s.memory := by
  unfold declinePreempt
  dsimp only
  split
  · simp only [State.modTeller_memory, dropRequest_memory]
  · refine State.memory_getD (fun u h => (requestPreempt_memory' h).trans ?_) ?_ <;>
      simp only [trace_memory, bump_memory, modItem_memory, State.modTeller_memory, dropRequest_memory]

theorem resume_memory (b t : Nat) (s : State) : (resume b t s).memory = s.memory := by
  unfold resume
  dsimp only
  split <;> simp only [State.setTeller_memory, declinePreempt_memory]

theorem yieldTo_memory (b t item : Nat) (s : State) : (yieldTo b t item s).memory = s.memory := by
  unfold yieldTo
  dsimp only
  split <;> simp only [State.setTeller_memory, bump_memory, trace_memory, modItem_memory, startItem_memory, dropRequest_memory]

theorem wakeFlow_memory (b : Nat) (i : Item) (s : State) : (wakeFlow b i s).memory = s.memory := by
  simp only [wakeFlow, apply_ite State.memory, ite_self, State.modDisp_memory]

theorem learn_memory (b t : Nat) (c : ItemCtx) (s : State) : (learn b t c s).memory = s.memory := by
  simp only [learn, apply_ite State.memory, ite_self, setAff_memory]

theorem postItem_memory (b : Nat) (x : Teller) (w : MicroWord) (s : State) : (postItem b x w s).2.memory = s.memory := by
  simp only [postItem, apply_ite State.memory, apply_ite Prod.snd, ite_self, addItem_memory, noteRefused_memory]

/-! ### Tellers -/

theorem csEvent_memory (d addr : Nat) (e : EccResult) (s : State) : (csEvent d addr e s).memory = s.memory := by
  unfold csEvent
  split <;> simp only [bump_memory, cause_memory, emit_memory, sramEvent_memory]

theorem qopEffect_memory (b t : Nat) (x : Teller) (w : MicroWord) (s : State) : (qopEffect b t x w s).2.memory = s.memory := by
  unfold qopEffect
  split <;> simp only [apply_ite State.memory, apply_ite Prod.snd, ite_self, State.modTeller_memory, dispose_memory, police_memory,
    releasePacket_memory]

theorem copEffect_memory (t : Nat) (x : Teller) (w : MicroWord) (s : State) : (copEffect t x w s).memory = s.memory := by
  unfold copEffect
  split <;> simp only [setPair_memory]

theorem xopEffect_memory (b t : Nat) (x : Teller) (w : MicroWord) (s : State) : (xopEffect b t x w s).2.memory = s.memory := by
  unfold xopEffect
  split <;> simp only [State.modTeller_memory, emit_memory, postItem_memory]

theorem commit_memory (b t : Nat) (x : Teller) (w : MicroWord) (res : List (Nat × Word64)) (sv : Option Bool) (s0 s : State) :
    (commit b t x w res sv s0 s).memory = s.memory := by
  simp only [commit, apply_ite State.memory, ite_self, State.modTeller_memory, bump_memory, bump64_memory, cause_memory, perf_memory]

theorem haltTeller_memory (t : Nat) (w : MicroWord) (s : State) : (haltTeller t w s).memory = s.memory := by
  simp only [haltTeller, State.modTeller_memory, cause_memory]

theorem waitWord_memory (t : Nat) (s : State) : (waitWord t s).memory = s.memory := by
  simp only [waitWord, State.modTeller_memory]

theorem raise_memory (t : Nat) (c : TrapCause) (s : State) : (raise t c s).memory = s.memory := by
  simp only [raise, State.modTeller_memory]

theorem noteTrap_memory (t d : Nat) (x : Teller) (c : TrapCause) (s : State) : (noteTrap t d x c s).memory = s.memory := by
  unfold noteTrap
  split <;> simp only [apply_ite State.memory, ite_self, bump_memory, cause_memory, emit_memory, perf_memory]

theorem frameFull_memory (t : Nat) (s : State) : (frameFull t s).memory = s.memory := by
  simp only [frameFull, State.modTeller_memory, bump_memory, cause_memory]

theorem takeTrap_memory (b t : Nat) (x : Teller) (c : TrapCause) (skip overrun : Bool) (s : State) :
    (takeTrap b t x c skip overrun s).memory = s.memory := by
  simp only [takeTrap, apply_ite State.memory, ite_self, State.setTeller_memory, bump_memory, cause_memory, noteTrap_memory, frameFull_memory]

theorem microTrap_memory (t : Nat) (s : State) : (microTrap t s).memory = s.memory := by
  unfold microTrap
  dsimp only
  repeat' split
  all_goals simp only [takeTrap_memory]

theorem lockWaitTimeout_memory (t : Nat) (s : State) : (lockWaitTimeout t s).memory = s.memory := by
  unfold lockWaitTimeout
  dsimp only
  split <;> simp only [State.modTeller_memory, modWay_memory, raise_memory]

theorem tellerStop_memory (t : Nat) (s : State) : (tellerStop t s).memory = s.memory := by
  simp only [tellerStop, State.modTeller_memory]

theorem tellerCont_memory (t : Nat) (s : State) : (tellerCont t s).memory = s.memory := by
  unfold tellerCont
  dsimp only
  split <;> simp only [State.setTeller_memory]

theorem csScrub_memory (d addr : Nat) (e : EccResult) (s : State) : (csScrub d addr e s).memory = s.memory := by
  simp only [csScrub, csEvent_memory]

theorem csRead_memory (d addr : Nat) (s : State) : (csRead d addr s).memory = s.memory := by
  simp only [csRead, apply_ite State.memory, ite_self, State.setDesk_memory, setField_memory]

theorem csData_memory (d : Nat) (w : MicroWord) (s : State) : (csData d w s).memory = s.memory := by
  simp only [csData, State.memory_foldl, implies_true, regStore_memory]

theorem csReadDone_memory (d : Nat) (e : EccResult) (s : State) : (csReadDone d e s).memory = s.memory := by
  unfold csReadDone
  dsimp only
  repeat' split
  all_goals simp only [State.setDesk_memory, regStore_memory, takeFree_memory, csEvent_memory, csData_memory]

/-! ### Flow records sent -/

theorem modExp_memory (b : Nat) (f : Exporter → Exporter) (s : State) : (modExp b f s).memory = s.memory := by
  simp only [modExp, State.modLedger_memory]

theorem sendMessage_memory (b : Nat) (s : State) : (sendMessage b s).2.memory = s.memory := by
  simp only [sendMessage, apply_ite State.memory, apply_ite Prod.snd, ite_self, bump_memory, placeRec_memory, modExp_memory]

theorem addRecord_memory (b t : Nat) (r : Bytes) (s : State) : (addRecord b t r s).memory = s.memory := by
  simp only [addRecord, modExp_memory]

theorem dropSnapshot_memory (b : Nat) (s : State) : (dropSnapshot b s).memory = s.memory := by
  simp only [dropSnapshot, modExp_memory]

theorem exportItemRetry_memory (b : Nat) (s : State) : (exportItemRetry b s).memory = s.memory := by
  simp only [exportItemRetry, State.memory_foldl, implies_true, apply_ite State.memory, ite_self, exportItem_memory, modExp_memory]

theorem ipfixFlush_memory (b : Nat) (s : State) : (ipfixFlush b s).memory = s.memory := by
  simp only [ipfixFlush, apply_ite State.memory, ite_self, sendMessage_memory]

theorem templateResend_memory (b : Nat) (s : State) : (templateResend b s).memory = s.memory := by
  simp only [templateResend, apply_ite State.memory, ite_self, modExp_memory]

/-! ### MAC -/

theorem pushReq_memory (r : Requester) (f : Nat) (s : State) : (pushReq r f s).memory = s.memory := by
  simp only [pushReq, State.memory_mk, State.memory_fold, apply_ite State.memory, ite_self]

theorem dropReq_memory (f : Nat) (s : State) : (dropReq f s).memory = s.memory := by rfl

theorem frameStored_memory (f : Nat) (x : Frame) (s : State) : (frameStored f x s).memory = s.memory := by
  unfold frameStored
  split <;> simp only [State.modAssay_memory]

theorem grantCell_memory (f : Nat) (x : Frame) (k : Pool) (s : State) : (grantCell f x k s).memory = s.memory := by
  unfold grantCell
  repeat' split
  all_goals simp only [apply_ite State.memory, ite_self, cause_memory, perf_memory, fcUpdate_memory, setFrame_memory, pushReq_memory, dropReq_memory,
    frameStored_memory]

theorem refuseCell_memory (f : Nat) (x : Frame) (s : State) : (refuseCell f x s).memory = s.memory := by
  unfold refuseCell
  split <;> simp only [State.modPort_memory, bump_memory, cause_memory, perf_memory, dispose_memory, setFrame_memory, dropFrame_memory,
    dropReq_memory]

theorem decideCell_memory (q : Requester × Nat) (s : State) : (decideCell q s).memory = s.memory := by
  unfold decideCell
  repeat' split
  all_goals simp only [dropReq_memory, grantCell_memory, refuseCell_memory]

theorem mintRound_memory (s : State) : (mintRound s).memory = s.memory := by
  simp only [mintRound, State.memory_foldl, implies_true, decideCell_memory]

theorem fillCells_memory (f n : Nat) (s : State) : (fillCells f n s).memory = s.memory := by
  induction n generalizing s with
  | zero => rfl
  | succ n ih =>
    rw [fillCells]
    split
    · split
      · simp only [ih, mintRound_memory, pushReq_memory]
      · rfl
    · rfl

theorem rxStart_memory (p : Nat) (data : Bytes) (full : Bool) (s : State) : (rxStart p data full s).memory = s.memory := by
  simp only [rxStart, State.memory_mk, State.memory_fold, apply_ite State.memory, ite_self, State.setPort_memory, bump_memory, cause_memory,
    perf_memory, setFrame_memory, pushReq_memory]

theorem settlePolicer_memory (x : Frame) (t : PolTail) (s : State) : (settlePolicer x t s).memory = s.memory := by
  simp only [settlePolicer, setPolicer_memory]

theorem discardQueued_memory (f code : Nat) (s : State) : (discardQueued f code s).memory = s.memory := by
  simp only [discardQueued, State.memory_foldl, implies_true, apply_ite State.memory, ite_self, setQueue_memory, settleEmpty_memory,
    discardCopy_memory]

theorem samplerStep_memory (p : Nat) (s : State) : (samplerStep p s).2.memory = s.memory := by
  simp only [samplerStep, State.memory_mk, State.memory_fold, apply_ite State.memory, apply_ite Prod.snd, ite_self]

theorem considerSample_memory (f p : Nat) (s : State) : (considerSample f p s).memory = s.memory := by
  unfold considerSample
  split <;> simp only [apply_ite State.memory, apply_ite Prod.snd, ite_self, setFrame_memory, release_memory, trySample_memory, samplerStep_memory]

theorem endFrame_memory (f : Nat) (fcsBad : Bool) (s : State) : (endFrame f fcsBad s).memory = s.memory := by
  unfold endFrame
  dsimp only
  repeat' split
  all_goals simp only [State.memory_foldl, implies_true, bump_memory, cause_memory, setFrame_memory, dropFrame_memory, tailAdd_memory,
    settlePolicer_memory, discardQueued_memory, considerSample_memory]

theorem laneSyms_memory (p : Nat) (syms : List Nat) (s : State) : (laneSyms p syms s).memory = s.memory := by
  simp only [laneSyms, State.memory_foldl, implies_true, bumpN_memory]

theorem rxTail_memory (p : Nat) (data : Bytes) (fcsOk : Bool) (fec : Nat) (syms : List Nat) (s : State) :
    (rxTail p data fcsOk fec syms s).memory = s.memory := by
  unfold rxTail
  dsimp only
  repeat' split
  all_goals simp only [State.setPort_memory, State.modPort_memory, bump_memory, bump64_memory, winCount_memory, modFrame_memory, fillCells_memory,
    endFrame_memory, laneSyms_memory]

theorem macControl_memory (p : Nat) (data : Bytes) (fcsOk : Bool) (s : State) : (macControl p data fcsOk s).memory = s.memory := by
  simp only [macControl, apply_ite State.memory, ite_self, bump_memory, bumpField_memory, winCount_memory, flowControl_memory]

theorem fecUncorr_memory (p : Nat) (s : State) : (fecUncorr p s).memory = s.memory := by
  simp only [fecUncorr, apply_ite State.memory, ite_self, bump_memory, cause_memory]

theorem samplerWrite_memory (p : Nat) (v : Word32) (s : State) : (samplerWrite p v s).memory = s.memory := by
  simp only [samplerWrite, State.memory_mk, State.memory_fold, apply_ite State.memory, ite_self, regStore_memory]

theorem seedWrite_memory (p : Nat) (v : Word32) (s : State) : (seedWrite p v s).memory = s.memory := by
  simp only [seedWrite, State.memory_mk, State.memory_fold, regStore_memory]

theorem grpCommand_memory (cmd : Word32) (s : State) : (grpCommand cmd s).memory = s.memory := by
  unfold grpCommand
  split <;> simp only [State.memory_mk, State.memory_fold, apply_ite State.memory, ite_self, regStore_memory, setPair_memory, cause_memory]

/-! ### Assayers -/

theorem countSlot_memory (b recirc : Nat) (s : State) : (countSlot b recirc s).memory = s.memory := by
  simp only [countSlot, State.modAssay_memory]

theorem takeIn_memory (b : Nat) (d : Desc) (s : State) : (takeIn b d s).memory = s.memory := by
  simp only [takeIn, State.modAssay_memory]

theorem admitRecirc_memory (b : Nat) (s : State) : (admitRecirc b s).memory = s.memory := by
  unfold admitRecirc
  split <;> simp only [State.modAssay_memory, bump_memory, perf_memory, countSlot_memory, takeIn_memory]

theorem admitPort_memory (b i : Nat) (s : State) : (admitPort b i s).memory = s.memory := by
  unfold admitPort
  dsimp only
  repeat' split
  all_goals simp only [State.modAssay_memory, perf_memory, takeIn_memory]

theorem admitInject_memory (b : Nat) (s : State) : (admitInject b s).memory = s.memory := by
  unfold admitInject
  split <;> simp only [State.modAssay_memory, perf_memory, takeIn_memory]

theorem admitSource_memory (b i : Nat) (s : State) : (admitSource b i s).memory = s.memory := by
  unfold admitSource
  split <;> simp only [State.modAssay_memory, countSlot_memory, admitPort_memory, admitInject_memory]

theorem placeStalled_memory (b : Nat) (s : State) : (placeStalled b s).memory = s.memory := by
  unfold placeStalled
  split <;> simp only [apply_ite State.memory, ite_self, State.modAssay_memory, addStateless_memory]

theorem assayAdmit_memory (b : Nat) (s : State) : (assayAdmit b s).memory = s.memory := by
  unfold assayAdmit
  split <;> simp only [apply_ite State.memory, ite_self, admitRecirc_memory, admitSource_memory, placeStalled_memory]

theorem parseStateless_memory (b : Nat) (d : Desc) (s : State) : (parseStateless b d s).memory = s.memory := by
  simp only [parseStateless, apply_ite State.memory, ite_self, State.modAssay_memory, sieveLookup_memory, dropPass_memory, policeAction_memory,
    applyAction_memory, addStateless_memory, noteStall_memory]

theorem parseDefault_memory (b act reset code : Nat) (d : Desc) (s : State) : (parseDefault b act reset code d s).memory = s.memory := by
  unfold parseDefault
  split <;> simp only [dropPass_memory, puntPass_memory, parseStateless_memory]

theorem xchPut_memory (b home : Nat) (d : Desc) (s : State) : (xchPut b home d s).memory = s.memory := by
  simp only [xchPut, State.modAssay_memory, bump_memory]

theorem xchSend_memory (b : Nat) (d : Desc) (s : State) : (xchSend b d s).memory = s.memory := by
  simp only [xchSend, apply_ite State.memory, ite_self, State.modAssay_memory, xchPut_memory]

theorem routePass_memory (b : Nat) (d : Desc) (stateless : Bool) (s : State) : (routePass b d stateless s).memory = s.memory := by
  unfold routePass
  split <;> simp only [apply_ite State.memory, ite_self, bump_memory, parseStateless_memory, parseDefault_memory, xchSend_memory]

theorem deferEnd_memory (b : Nat) (d : Desc) (l : Lengths) (s : State) : (deferEnd b d l s).memory = s.memory := by
  simp only [deferEnd, apply_ite State.memory, ite_self, modFrame_memory]

theorem parsePass_memory (b f : Nat) (s : State) : (parsePass b f s).memory = s.memory := by
  unfold parsePass
  split <;> simp only [apply_ite State.memory, ite_self, State.modAssay_memory, bump_memory, routePass_memory, deferEnd_memory]

theorem sieveRead_memory (b : Nat) (s : State) (r : SieveRead) : (sieveRead b s r).memory = s.memory := by
  simp only [sieveRead, State.memory_mk, State.memory_fold, apply_ite State.memory, ite_self, sramEvent_memory]

theorem holdRelease_memory (b : Nat) (s : State) : (holdRelease b s).memory = s.memory := by
  unfold holdRelease
  split <;> simp only [apply_ite State.memory, ite_self, State.modAssay_memory, xchPut_memory]

theorem xchStall_memory (b : Nat) (s : State) : (xchStall b s).memory = s.memory := by
  simp only [xchStall, apply_ite State.memory, ite_self, State.modAssay_memory, bump_memory, cause_memory]

theorem recircPlace_memory (b : Nat) (s : State) : (recircPlace b s).memory = s.memory := by
  unfold recircPlace
  dsimp only
  split <;> simp only [apply_ite State.memory, ite_self, State.setAssay_memory, State.modTeller_memory, recircEnter_memory]

/-! ### Injection -/

theorem injectWriteBack_memory (n admitTime status : Nat) (l : List Bytes) (s : State) :
    (injectWriteBack n admitTime status l s).memory = s.memory := by
  induction l generalizing s with
  | nil => rfl
  | cons d ds ih =>
    rw [injectWriteBack]
    simp only [ih, advanceHead_memory, toHost_memory]

theorem injectEnd_memory (n admitTime status : Nat) (run : List Bytes) (s : State) : (injectEnd n admitTime status run s).memory = s.memory := by
  simp only [injectEnd, State.modRing_memory, injectWriteBack_memory]

theorem injectBad_memory (n reason : Nat) (run : List Bytes) (s : State) : (injectBad n reason run s).memory = s.memory := by
  simp only [injectBad, cause_memory, emit_memory, injectEnd_memory]

theorem injectAdmit_memory (f : Nat) (d : Bytes) (x : Frame) (s : State) : (injectAdmit f d x s).memory = s.memory := by
  simp only [injectAdmit, apply_ite State.memory, ite_self, State.modAssay_memory, release_memory, sendTo_memory]

theorem injectFrame_memory (n : Nat) (run : List Bytes) (d data : Bytes) (s : State) : (injectFrame n run d data s).memory = s.memory := by
  unfold injectFrame
  dsimp only
  split <;> simp only [State.memory_mk, State.memory_fold, apply_ite State.memory, ite_self, dispose_memory, setFrame_memory, dropFrame_memory,
    fillCells_memory, injectEnd_memory, injectAdmit_memory]

theorem injectRead_memory (n : Nat) (data : Option Bytes) (s : State) : (injectRead n data s).memory = s.memory := by
  unfold injectRead
  dsimp only
  repeat' split
  all_goals simp only [fromHost_memory, haltRing_memory, injectBad_memory, injectFrame_memory]

end Sys2Proof.Machine
end


section
/-!
PROOFS. What leaves the cells of the Vault and the words of the Coffer as they were:
egress, ports, Tether, upkeep of the Vault, Treasury, loads and registers (O10).
-/
namespace Sys2Proof.Machine

/-! ### Rewrite -/

theorem countRewrite_memory (r : Rewritten) (s : State) : (countRewrite r s).memory = s.memory := by
  unfold countRewrite
  dsimp only
  split <;> simp only [apply_ite State.memory, ite_self, bump_memory, ts2Push_memory]

theorem nptCtlWrite_memory (m : Nat) (v : Word32) (s : State) : (nptCtlWrite m v s).memory = s.memory := by
  simp only [nptCtlWrite, apply_ite State.memory, ite_self, regStore_memory, setField_memory]

/-! ### Gates -/

theorem gclNext_memory (s : State) : (gclNext s).memory = s.memory := by
  simp only [gclNext, apply_ite State.memory, ite_self, setField_memory]

theorem gclWrite_memory (v : Word32) (s : State) : (gclWrite v s).memory = s.memory := by
  simp only [gclWrite, apply_ite State.memory, ite_self, State.setSched_memory, bump_memory, gclNext_memory]

theorem gclRead_memory (s : State) : (gclRead s).2.memory = s.memory := by
  simp only [gclRead, regStore_memory, gclNext_memory]

theorem gclReadHost_memory (s : State) : (gclReadHost s).memory = s.memory := by
  simp only [gclReadHost, State.memory_mk, State.memory_fold, apply_ite State.memory, apply_ite Prod.snd, ite_self, gclRead_memory]

theorem gateCtrlWrite_memory (p : Nat) (v : Word32) (s : State) : (gateCtrlWrite p v s).memory = s.memory := by
  simp only [gateCtrlWrite, apply_ite State.memory, ite_self, State.setSched_memory, regStore_memory, bump_memory, cause_memory]

theorem gateSwitch_memory (p : Nat) (s : State) : (gateSwitch p s).memory = s.memory := by
  unfold gateSwitch
  dsimp only
  split <;> simp only [apply_ite State.memory, ite_self, State.setSched_memory, regStore_memory, cause_memory, emit_memory]

theorem gateOverrun_memory (p : Nat) (s : State) : (gateOverrun p s).memory = s.memory := by
  unfold gateOverrun
  dsimp only
  split <;> simp only [apply_ite State.memory, ite_self, bump_memory]

theorem offsetStep_memory (s : State) : (offsetStep s).memory = s.memory := by
  simp only [offsetStep, State.memory_foldl, implies_true, apply_ite State.memory, ite_self, offsetAdd_memory, gateOverrun_memory]

/-! ### Traffic manager -/

theorem shape_memory (n : Nat) (ended : Option Nat) (s : State) : (shape n ended s).memory = s.memory := by
  simp only [shape, apply_ite State.memory, ite_self, State.setClass_memory]

theorem shaperUpdate_memory (k c : Nat) (s : State) : (shaperUpdate k c s).memory = s.memory := by
  simp only [shaperUpdate, apply_ite State.memory, ite_self, shape_memory]

theorem classCtrlWrite_memory (n : Nat) (v : Word32) (s : State) : (classCtrlWrite n v s).memory = s.memory := by
  simp only [classCtrlWrite, apply_ite State.memory, ite_self, State.setClass_memory, regStore_memory]

theorem popHead_memory (n : Nat) (s : State) : (popHead n s).memory = s.memory := by
  simp only [popHead, setQueue_memory, settleEmpty_memory]

theorem puntExpired_memory (n source : Nat) (c : Copy) (s : State) : (puntExpired n source c s).memory = s.memory := by
  simp only [puntExpired, release_memory, makeCopy_memory, popHead_memory]

theorem cleanHeads_memory (n f : Nat) (s : State) : (cleanHeads n f s).memory = s.memory := by
  induction f generalizing s with
  | zero => rfl
  | succ f ih =>
    rw [cleanHeads]
    repeat' split
    all_goals simp only [ih, puntExpired_memory, discardCopy_memory, perf_memory, cause_memory, popHead_memory]

theorem noteClass_memory (n : Nat) (s : State) : (noteClass n s).memory = s.memory := by
  simp only [noteClass, apply_ite State.memory, ite_self, State.setClass_memory, perf_memory]

theorem drrPick_memory (k : Nat) (elig : List Nat) (f : Nat) (s : State) : (drrPick k elig f s).2.memory = s.memory := by
  induction f generalizing s with
  | zero => rfl
  | succ f ih =>
    rw [drrPick]
    dsimp only
    repeat' split
    all_goals simp only [ih, State.setClass_memory, State.setSched_memory]

theorem pick_memory (k : Nat) (s : State) : (pick k s).2.memory = s.memory := by
  unfold pick
  dsimp only
  split <;> simp only [apply_ite State.memory, apply_ite Prod.snd, ite_self, drrPick_memory]

theorem startCopy_memory (n : Nat) (s : State) : (startCopy n s).memory = s.memory := by
  unfold startCopy
  repeat' split
  all_goals simp only [State.modSched_memory, perf_memory, countRewrite_memory, shape_memory, popHead_memory]

theorem hostReturn_memory (s : State) : (hostReturn s).memory = s.memory := by
  unfold hostReturn
  split <;> simp only [apply_ite State.memory, ite_self, State.modSched_memory, setQueue_memory]

theorem preparePick_memory (k : Nat) (s : State) : (preparePick k s).memory = s.memory := by
  simp only [preparePick, State.memory_foldl, implies_true, cleanHeads_memory, noteClass_memory]

theorem loseHead_memory (n : Nat) (s : State) : (loseHead n s).memory = s.memory := by
  unfold loseHead
  split <;> simp only [discardCopy_memory, popHead_memory]

theorem startRead_memory (n : Nat) (desc buf : SramRead) (s : State) : (startRead n desc buf s).memory = s.memory := by
  simp only [startRead, apply_ite State.memory, apply_ite Prod.snd, ite_self, sramRead_memory, startCopy_memory, loseHead_memory]

theorem tmSelect_memory (k : Nat) (desc buf : SramRead) (s : State) : (tmSelect k desc buf s).memory = s.memory := by
  unfold tmSelect
  dsimp only
  have ht : (if k = 65 then hostReturn s else s).memory = s.memory := by simp only [apply_ite State.memory, hostReturn_memory, ite_self]
  generalize (if k = 65 then hostReturn s else s) = t at ht ⊢
  rw [← ht]
  split
  · rfl
  · have hk := pick_memory k (preparePick k t)
    generalize pick k (preparePick k t) = p at hk ⊢
    obtain ⟨c, w⟩ := p
    dsimp only at hk ⊢
    cases c
    · exact hk.trans (preparePick_memory ..)
    · exact (startRead_memory ..).trans (hk.trans (preparePick_memory ..))

theorem chargeEnd_memory (k : Nat) (y : Sending) (len : Nat) (s : State) : (chargeEnd k y len s).memory = s.memory := by
  simp only [chargeEnd, apply_ite State.memory, ite_self, State.setClass_memory, State.modSched_memory, flushFc_memory, settleEmpty_memory,
    shape_memory]

theorem endBad_memory (k : Nat) (y : Sending) (out : Bytes) (s : State) : (endBad k y out s).memory = s.memory := by
  simp only [endBad, State.memory_mk, State.memory_fold, bump_memory, cause_memory, perf_memory, winCount_memory, release_memory, countCopy_memory,
    chargeEnd_memory]

theorem endGood_memory (k : Nat) (y : Sending) (out : Bytes) (s : State) : (endGood k y out s).memory = s.memory := by
  simp only [endGood, State.memory_mk, State.memory_fold, apply_ite State.memory, ite_self, winCount_memory, release_memory, countCopy_memory,
    linkSend_memory, chargeEnd_memory]

theorem txEnd_memory (k : Nat) (buf : SramRead) (s : State) : (txEnd k buf s).memory = s.memory := by
  unfold txEnd
  repeat' split
  all_goals simp only [apply_ite State.memory, ite_self, discardCopy_memory, sramRead_memory, countRewrite_memory, chargeEnd_memory, endBad_memory,
    endGood_memory]

theorem underrun_memory (k : Nat) (s : State) : (underrun k s).memory = s.memory := by
  unfold underrun
  repeat' split
  all_goals simp only [endBad_memory]

theorem gateBoundary_memory (p : Nat) (s : State) : (gateBoundary p s).memory = s.memory := by
  unfold gateBoundary
  dsimp only
  split <;> simp only [State.memory_foldl, implies_true, apply_ite State.memory, ite_self, State.setSched_memory, State.setClass_memory]

theorem holdDiscard_memory (n f : Nat) (s : State) : (holdDiscard n f s).memory = s.memory := by
  induction f generalizing s with
  | zero => rfl
  | succ f ih =>
    rw [holdDiscard]
    repeat' split
    all_goals simp only [ih, discardCopy_memory, perf_memory, cause_memory, popHead_memory]

theorem holdExpiry_memory (n : Nat) (s : State) : (holdExpiry n s).memory = s.memory := by
  simp only [holdExpiry, apply_ite State.memory, ite_self, holdDiscard_memory]

theorem freezeQueues_memory (k : Nat) (s : State) : (freezeQueues k s).memory = s.memory := by
  unfold freezeQueues
  dsimp only
  rw [State.memory_foldl _ fun t n => by split; exact holdDiscard_memory ..; rfl]
  split <;> simp only [release_memory, countCopy_memory, State.memory_foldl, State.setClass_memory, State.setSched_memory, implies_true]

theorem resumeQueues_memory (k : Nat) (s : State) : (resumeQueues k s).memory = s.memory := by
  simp only [resumeQueues, State.memory_foldl, implies_true, State.setClass_memory, State.modSched_memory]

theorem polWrite_memory (cmd : Nat) (fill : Bool) (s : State) : (polWrite cmd fill s).memory = s.memory := by
  simp only [polWrite, setPolicer_memory]

theorem polRead_memory (cmd : Nat) (clear : Bool) (s : State) : (polRead cmd clear s).memory = s.memory := by
  simp only [polRead, regStore_memory, setField_memory, setPolicer_memory]

theorem polCommand_memory (v : Word32) (s : State) : (polCommand v s).memory = s.memory := by
  unfold polCommand
  dsimp only
  split <;> simp only [regStore_memory, setField_memory, polWrite_memory, polRead_memory]

theorem polRow_memory (op : Nat) (cmd : Word32) (s : State) : (polRow op cmd s).memory = s.memory := by
  simp only [polRow, implies_true, apply_ite State.memory, ite_self, gated_memory, polCommand_memory]

/-! ### DMA -/

theorem hostSkip_memory (c : Copy) (s : State) : (hostSkip c s).memory = s.memory := by
  unfold hostSkip
  split <;> simp only [apply_ite State.memory, ite_self, bump_memory]

theorem packetDone_memory (s : State) : (packetDone s).memory = s.memory := by
  unfold packetDone
  repeat' split
  all_goals simp only [State.modSched_memory, bump_memory, perf_memory, release_memory, countCopy_memory, chargeEnd_memory, hostSkip_memory]

theorem packetWrite_memory (n : Nat) (y : Sending) (s : State) : (packetWrite n y s).memory = s.memory := by
  unfold packetWrite
  split <;> simp only [apply_ite State.memory, ite_self, placeRec_memory, packetDone_memory]

theorem dumpWrite_memory (n : Nat) (b : Bytes) (s : State) : (dumpWrite n b s).memory = s.memory := by
  simp only [dumpWrite, State.memory_mk, State.memory_fold, apply_ite State.memory, ite_self, placeRec_memory]

theorem spanDone_memory (kind : Nat) (s : State) : (spanDone kind s).memory = s.memory := by
  simp only [spanDone, State.memory_mk, State.memory_fold, apply_ite State.memory, ite_self, packetDone_memory]

theorem recordWrite.dumpNext_memory (n : Nat) (s : State) : (recordWrite.dumpNext n s).memory = s.memory := by
  unfold recordWrite.dumpNext
  split
  · split
    · exact dumpWrite_memory ..
    · rfl
  · rfl

theorem recordWrite_memory (n : Nat) (s : State) : (recordWrite n s).memory = s.memory := by
  unfold recordWrite
  repeat' split
  all_goals simp only [apply_ite State.memory, ite_self, spanDone_memory, placeRest_memory, packetWrite_memory, recordWrite.dumpNext_memory]

theorem starveInterval_memory (n : Nat) (s : State) : (starveInterval n s).memory = s.memory := by
  simp only [starveInterval, apply_ite State.memory, ite_self, State.modRing_memory, bump_memory, cause_memory]

/-! ### Ports -/

theorem noteLink_memory (p : Nat) (s : State) : (noteLink p s).memory = s.memory := by
  simp only [noteLink, emit_memory]

theorem setLanes_memory (p : Nat) (f : Lane → Lane) (s : State) : (setLanes p f s).memory = s.memory := by rfl

theorem leaveTo_memory (p : Nat) (st : LinkState) (s : State) : (leaveTo p st s).memory = s.memory := by
  simp only [leaveTo, apply_ite State.memory, ite_self, State.setPort_memory, bump_memory, cause_memory, freezeQueues_memory, noteLink_memory,
    setLanes_memory]

theorem portStart_memory (p : Nat) (s : State) : (portStart p s).memory = s.memory := by
  simp only [portStart, apply_ite State.memory, ite_self, State.modPort_memory, leaveTo_memory]

theorem portStop_memory (p : Nat) (s : State) : (portStop p s).memory = s.memory := by
  simp only [portStop, apply_ite State.memory, ite_self, leaveTo_memory]

theorem portCtrlWrite_memory (p : Nat) (v : Word32) (s : State) : (portCtrlWrite p v s).memory = s.memory := by
  simp only [portCtrlWrite, apply_ite State.memory, ite_self, regStore_memory, portStart_memory, portStop_memory]

theorem acquireDone_memory (p : Nat) (s : State) : (acquireDone p s).memory = s.memory := by
  simp only [acquireDone, apply_ite State.memory, ite_self, State.modPort_memory, setLanes_memory]

theorem alignDone_memory (p : Nat) (s : State) : (alignDone p s).memory = s.memory := by
  simp only [alignDone, apply_ite State.memory, ite_self, State.setPort_memory, setLanes_memory]

theorem linkUp_memory (p : Nat) (s : State) : (linkUp p s).memory = s.memory := by
  unfold linkUp
  dsimp only
  split <;> simp only [apply_ite State.memory, ite_self, State.setPort_memory, cause_memory, fcUpdate_memory, resumeQueues_memory, noteLink_memory]

theorem noteLoss_memory (p : Nat) (why : LinkLoss) (lane : Nat) (s : State) : (noteLoss p why lane s).memory = s.memory := by
  simp only [noteLoss, State.memory_mk, State.memory_fold, apply_ite State.memory, ite_self, State.setPort_memory, cause_memory]

theorem linkDown_memory (p : Nat) (why : LinkLoss) (lane : Nat) (s : State) : (linkDown p why lane s).memory = s.memory := by
  simp only [linkDown, apply_ite State.memory, ite_self, leaveTo_memory, noteLoss_memory]

theorem remoteFault_memory (p : Nat) (s : State) : (remoteFault p s).memory = s.memory := by
  simp only [remoteFault, apply_ite State.memory, ite_self, noteLoss_memory]

theorem refclkEthLoss_memory (s : State) : (refclkEthLoss s).memory = s.memory := by
  simp only [refclkEthLoss, State.memory_foldl, implies_true, State.memory_mk, State.memory_fold, portStop_memory]

theorem refclkEthReturn_memory (s : State) : (refclkEthReturn s).memory = s.memory := by
  simp only [refclkEthReturn, State.memory_foldl, implies_true, State.memory_mk, State.memory_fold, portStart_memory]

theorem octetStop_memory (o : Nat) (s : State) : (octetStop o s).memory = s.memory := by
  simp only [octetStop, State.memory_foldl, implies_true, portStop_memory]

theorem octetStart_memory (o : Nat) (s : State) : (octetStart o s).memory = s.memory := by
  simp only [octetStart, State.memory_foldl, implies_true, portStart_memory]

/-! ### Tether -/

theorem tethBringUp_memory (s : State) : (tethBringUp s).memory = s.memory := by
  simp only [tethBringUp, State.memory_mk, State.memory_fold, apply_ite State.memory, ite_self, cause_memory]

theorem tethCtrlWrite_memory (v : Word32) (s : State) : (tethCtrlWrite v s).memory = s.memory := by
  simp only [tethCtrlWrite, apply_ite State.memory, ite_self, regStore_memory, tethBringUp_memory]

theorem tethTrained_memory (s : State) : (tethTrained s).memory = s.memory := by
  unfold tethTrained
  split <;> simp only [State.memory_mk, State.memory_fold, apply_ite State.memory, ite_self]

theorem laneCheck_memory (errors : List Nat) (peer : Nat) (s : State) : (laneCheck errors peer s).memory = s.memory := by
  simp only [laneCheck, State.memory_mk, State.memory_fold, apply_ite State.memory, ite_self]

theorem resendAll_memory (s : State) : (resendAll s).memory = s.memory := by
  simp only [resendAll, State.memory_foldl, implies_true, linkOut_memory]

theorem tethLinkUp_memory (peer set : Nat) (s : State) : (tethLinkUp peer set s).memory = s.memory := by
  simp only [tethLinkUp, State.memory_mk, State.memory_fold, apply_ite State.memory, ite_self, cause_memory, resendAll_memory]

theorem tethReform_memory (m announced : Nat) (s : State) : (tethReform m announced s).memory = s.memory := by
  simp only [tethReform, State.memory_mk, State.memory_fold, apply_ite State.memory, ite_self, bump_memory, cause_memory, emit_memory,
    tethBringUp_memory, resendAll_memory]

theorem tethLinkDown_memory (s : State) : (tethLinkDown s).memory = s.memory := by
  simp only [tethLinkDown, apply_ite State.memory, ite_self, tethBringUp_memory]

theorem linkAck_memory (n : Nat) (s : State) : (linkAck n s).memory = s.memory := by rfl

theorem linkLasting_memory (kind : Nat) (s : State) : (linkLasting kind s).memory = s.memory := by
  simp only [linkLasting, bump_memory, cause_memory, emit_memory]

theorem linkNak_memory (n : Nat) (noData : Bool) (s : State) : (linkNak n noData s).memory = s.memory := by
  unfold linkNak
  split <;> simp only [State.memory_mk, State.memory_fold, apply_ite State.memory, ite_self, bump_memory, perf_memory, linkOut_memory,
    linkAck_memory, linkLasting_memory]

theorem linkTake_memory (kind n : Nat) (ok : Bool) (s : State) : (linkTake kind n ok s).memory = s.memory := by
  simp only [linkTake, State.memory_foldl, implies_true, State.memory_mk, State.memory_fold, apply_ite State.memory, ite_self, linkReply_memory,
    linkLasting_memory]

theorem linkRx_memory (kind n : Nat) (ok : Bool) (ack nak : Option (BitVec 16)) (buf : SramRead) (s : State) :
    (linkRx kind n ok ack nak buf s).memory = s.memory := by
  unfold linkRx
  repeat' split
  all_goals simp only [perf_memory, sramRead_memory, linkAck_memory, linkNak_memory, linkTake_memory]

theorem linkQueue_memory (kind : Nat) (payload : Bytes) (s : State) : (linkQueue kind payload s).memory = s.memory := by
  simp only [linkQueue, State.memory_mk, State.memory_fold, freshTeth_memory, linkSend_memory]

theorem linkPump_memory (s : State) : (linkPump s).memory = s.memory := by
  unfold linkPump
  dsimp only
  repeat' split
  all_goals simp only [State.memory_mk, State.memory_fold, bump_memory, perf_memory, linkQueue_memory]

theorem tethTick_memory (s : State) : (tethTick s).memory = s.memory := by
  simp only [tethTick, State.memory_mk, State.memory_fold, linkPump_memory]

theorem unpair_memory (s : State) : (unpair s).memory = s.memory := by
  simp only [unpair, State.memory_mk, State.memory_fold, freezeQueues_memory]

theorem noteLost_memory (s : State) : (noteLost s).memory = s.memory := by
  simp only [noteLost, State.memory_mk, State.memory_fold, stamp_memory]

theorem heartbeatSend_memory (s : State) : (heartbeatSend s).memory = s.memory := by
  simp only [heartbeatSend, State.memory_mk, State.memory_fold, apply_ite State.memory, ite_self, linkQueue_memory]

theorem tetherCopy_memory (header data : Bytes) (s : State) : (tetherCopy header data s).memory = s.memory := by
  unfold tetherCopy
  dsimp only
  repeat' split
  all_goals simp only [State.memory_mk, State.memory_fold, bump_memory, setFrame_memory, dropFrame_memory, release_memory, makeCopy_memory,
    badTarget_memory, fillCells_memory]

/-! ### Vault upkeep -/

theorem forceRefresh_memory (c n : Nat) (s : State) : (forceRefresh c n s).memory = s.memory := by
  simp only [forceRefresh, apply_ite State.memory, ite_self, bumpN_memory, perfN_memory]

theorem refreshAccrual_memory (c cs set : Nat) (s : State) : (refreshAccrual c cs set s).memory = s.memory := by
  simp only [refreshAccrual, apply_ite State.memory, ite_self, State.setChan_memory, forceRefresh_memory]

theorem refreshIssue_memory (c cs set : Nat) (s : State) : (refreshIssue c cs set s).memory = s.memory := by
  simp only [refreshIssue, apply_ite State.memory, ite_self, State.setChan_memory]

theorem payHot_memory (c : Nat) (s : State) : (payHot c s).memory = s.memory := by
  simp only [payHot, State.setChan_memory, forceRefresh_memory]

theorem noteTherm_memory (c : Nat) (hot fail : Bool) (t : Int) (s : State) : (noteTherm c hot fail t s).memory = s.memory := by
  simp only [noteTherm, emit_memory]

theorem sensorFailed_memory (c : Nat) (s : State) : (sensorFailed c s).memory = s.memory := by
  simp only [sensorFailed, apply_ite State.memory, ite_self, State.setChan_memory, setField_memory, cause_memory, payHot_memory, noteTherm_memory]

theorem sensorRead_memory (c : Nat) (t : Int) (s : State) : (sensorRead c t s).memory = s.memory := by
  simp only [sensorRead, apply_ite State.memory, ite_self, State.setChan_memory, regStore_memory, cause_memory, payHot_memory, noteTherm_memory]

theorem dimmTemp_memory (c : Nat) (temps : List Int) (s : State) : (dimmTemp c temps s).memory = s.memory := by
  unfold dimmTemp
  split <;> simp only [apply_ite State.memory, ite_self, State.setChan_memory, sensorFailed_memory, sensorRead_memory]

theorem noteSr_memory (c what : Nat) (s : State) : (noteSr c what s).memory = s.memory := by
  simp only [noteSr, emit_memory]

theorem srEndAll_memory (s : State) : (srEndAll s).memory = s.memory := by
  simp only [srEndAll, State.memory_foldl, implies_true, apply_ite State.memory, ite_self, State.modChan_memory]

theorem srEntered_memory (c : Nat) (s : State) : (srEntered c s).memory = s.memory := by
  simp only [srEntered, apply_ite State.memory, ite_self, State.modChan_memory, noteSr_memory]

theorem srArrival_memory (c : Nat) (issued : Bool) (s : State) : (srArrival c issued s).memory = s.memory := by
  unfold srArrival
  dsimp only
  split <;> simp only [apply_ite State.memory, ite_self, State.setChan_memory, bump_memory, noteSr_memory]

theorem srExitDone_memory (c : Nat) (s : State) : (srExitDone c s).memory = s.memory := by
  simp only [srExitDone, apply_ite State.memory, ite_self, State.modChan_memory, noteSr_memory]

theorem noteTrainFail_memory (rank step : Nat) (s : State) : (noteTrainFail rank step s).memory = s.memory := by
  simp only [noteTrainFail, regStore_memory, cause_memory, emit_memory]

theorem zqCalibration_memory (rank : Nat) (zqOk dqsOk : Bool) (s : State) : (zqCalibration rank zqOk dqsOk s).memory = s.memory := by
  simp only [zqCalibration, apply_ite State.memory, ite_self, State.setChan_memory, State.modChan_memory, rankLasting_memory, noteTrainFail_memory]

theorem freeRecord_memory (n : Nat) (r : Rec) (s : State) : (freeRecord n r s).2.memory = s.memory := by
  induction n generalizing r s with
  | zero => rfl
  | succ n ih => rw [freeRecord]; simp only [ih, takeFree_memory]

theorem noteCaParity_memory (rank : Nat) (unlisted : Bool) (a : Nat) (s : State) : (noteCaParity rank unlisted a s).memory = s.memory := by
  simp only [noteCaParity, emit_memory]

theorem failedOp_memory (t : Nat) (m : MemOp) (s : State) : (failedOp t m s).memory = s.memory := by
  simp only [failedOp, apply_ite State.memory, ite_self, modMem_memory, finishOp_memory]

theorem ceWindowEnd_memory (c : Nat) (s : State) : (ceWindowEnd c s).memory = s.memory := by
  simp only [ceWindowEnd, apply_ite State.memory, ite_self, State.setChan_memory]

theorem spareCtrlWrite_memory (v : Word32) (s : State) : (spareCtrlWrite v s).memory = s.memory := by
  simp only [spareCtrlWrite, apply_ite State.memory, ite_self, regStore_memory, candidate_memory]

theorem spareSwitch_memory (s : State) : (spareSwitch s).memory = s.memory := by
  simp only [spareSwitch, State.memory_mk, State.memory_fold, cause_memory, stamp_memory, emit_memory]

theorem notePiece_memory (r : Nat) (s : State) : (notePiece r s).memory = s.memory := by
  simp only [notePiece, State.modChan_memory]

theorem windowHold_memory (q : WinReq) (s : State) : (windowHold q s).memory = s.memory := by
  simp only [windowHold, State.memory_foldl, implies_true, State.memory_mk, State.memory_fold, apply_ite State.memory, ite_self, srArrival_memory]

/-! ### Treasury -/

theorem resetCause_memory (i : Nat) (s : State) : (resetCause i s).memory = s.memory := by
  simp only [resetCause, cause_memory]

theorem paceUpdate_memory (b descs steps : Nat) (s : State) : (paceUpdate b descs steps s).memory = s.memory := by
  simp only [paceUpdate, State.memory_mk, State.memory_fold, apply_ite State.memory, ite_self, regStore_memory, bump_memory, cause_memory,
    emit_memory]

theorem paceOff_memory (b : Nat) (s : State) : (paceOff b s).memory = s.memory := by
  simp only [paceOff, apply_ite State.memory, ite_self, regStore_memory, emit_memory]

theorem setPstate_memory (p : PState) (s : State) : (setPstate p s).memory = s.memory := by
  simp only [setPstate, State.memory_mk, State.memory_fold, apply_ite State.memory, ite_self, emit_memory]

theorem settlePstate_memory (s : State) : (settlePstate s).memory = s.memory := by
  simp only [settlePstate, apply_ite State.memory, ite_self, setPstate_memory]

theorem setDomain_memory (d : Nat) (x : DomState) (s : State) : (setDomain d x s).memory = s.memory := by
  simp only [setDomain, apply_ite State.memory, ite_self, State.setDom_memory, emit_memory, settlePstate_memory]

theorem nosePowerUp_memory (s : State) : (nosePowerUp s).memory = s.memory := by rfl

theorem acceptDomain_memory (st : Nat) (ds : List Nat) (s : State) : (acceptDomain st ds s).memory = s.memory := by
  simp only [acceptDomain, State.memory_mk, State.memory_fold, apply_ite State.memory, ite_self]

theorem domainReqWrite_memory (v : Word32) (s : State) : (domainReqWrite v s).memory = s.memory := by
  simp only [domainReqWrite, apply_ite State.memory, ite_self, cause_memory, plainWrite_memory, acceptDomain_memory]

theorem rampStart_memory (d : Nat) (s : State) : (rampStart d s).memory = s.memory := by
  unfold rampStart
  split <;> simp only [State.memory_mk, State.memory_fold, apply_ite State.memory, ite_self, setDomain_memory]

theorem quietLeft_memory (s : State) : (quietLeft s).memory = s.memory := by
  unfold quietLeft
  split <;> simp only [State.memory_mk, State.memory_fold, apply_ite State.memory, ite_self, setPstate_memory]

theorem setVout_memory (mv : Nat) (s : State) : (setVout mv s).memory = s.memory := by
  simp only [setVout, State.memory_mk, State.memory_fold, apply_ite State.memory, ite_self, setField_memory, bump_memory, emit_memory]

theorem avsStep_memory (s : State) : (avsStep s).memory = s.memory := by
  unfold avsStep
  repeat' split
  all_goals simp only [apply_ite State.memory, ite_self, cause_memory, setVout_memory]

theorem avsUpdate_memory (iout : Nat) (ok : Bool) (s : State) : (avsUpdate iout ok s).memory = s.memory := by
  simp only [avsUpdate, State.memory_mk, State.memory_fold, apply_ite State.memory, ite_self, setField_memory, cause_memory, avsStep_memory]

theorem avsCfgWrite_memory (v : Word32) (s : State) : (avsCfgWrite v s).memory = s.memory := by
  simp only [avsCfgWrite, State.memory_mk, State.memory_fold, apply_ite State.memory, ite_self, plainWrite_memory]

theorem quietEnter_memory (trip : Bool) (s : State) : (quietEnter trip s).memory = s.memory := by
  simp only [quietEnter, State.memory_mk, State.memory_fold, apply_ite State.memory, ite_self, cause_memory]

theorem quietStall_memory (s : State) : (quietStall s).memory = s.memory := by
  unfold quietStall
  split <;> simp only [State.memory_mk, State.memory_fold, apply_ite State.memory, ite_self, cause_memory]

theorem quietExit_memory (s : State) : (quietExit s).memory = s.memory := by
  simp only [quietExit, State.memory_mk, State.memory_fold, apply_ite State.memory, ite_self, cause_memory, srEndAll_memory, quietLeft_memory,
    setVout_memory]

theorem noteThermal_memory (what : Nat) (s : State) : (noteThermal what s).memory = s.memory := by
  simp only [noteThermal, emit_memory]

theorem crossLevel_memory (was now : Bool) (bit_ what : Nat) (s : State) : (crossLevel was now bit_ what s).memory = s.memory := by
  simp only [crossLevel, apply_ite State.memory, ite_self, cause_memory, noteThermal_memory]

theorem noteTrip_memory (s : State) : (noteTrip s).memory = s.memory := by
  simp only [noteTrip, State.memory_mk, State.memory_fold, apply_ite State.memory, ite_self, cause_memory, resetCause_memory, noteThermal_memory]

theorem setBrown_memory (x : Brown) (s : State) : (setBrown x s).memory = s.memory := by
  simp only [setBrown, State.memory_mk, State.memory_fold, bump_memory, emit_memory]

theorem measured_memory (mv : Nat) (s : State) : (measured mv s).memory = s.memory := by
  simp only [measured, setField_memory]

theorem brownRecover_memory (mv : Nat) (s : State) : (brownRecover mv s).memory = s.memory := by
  simp only [brownRecover, State.memory_mk, State.memory_fold, apply_ite State.memory, ite_self, srEndAll_memory, setBrown_memory, measured_memory]

theorem brownNormal_memory (s : State) : (brownNormal s).memory = s.memory := by
  unfold brownNormal
  split <;> simp only [State.memory_foldl, implies_true, State.memory_mk, State.memory_fold, apply_ite State.memory, ite_self, noseResume_memory,
    setBrown_memory]

theorem smbAnswer_memory (cmd : Nat) (data : Bytes) (pec : Bool) (s : State) : (smbAnswer cmd data pec s).memory = s.memory := by
  simp only [smbAnswer, State.memory_mk, State.memory_fold, apply_ite State.memory, ite_self]

/-! ### Charter sections -/

theorem loadPower_memory (b : Bytes) (s : State) : (loadPower b s).memory = s.memory := by
  simp only [loadPower, State.memory_mk, State.memory_fold, settlePstate_memory, acceptDomain_memory]

theorem stopTaps_memory (eq : Option Bytes) (s : State) : (stopTaps eq s).memory = s.memory := by
  simp only [stopTaps, State.memory_foldl, implies_true, apply_ite State.memory, ite_self, portStop_memory, tethBringUp_memory]

theorem settleTaps_memory (s : State) : (settleTaps s).memory = s.memory := by
  simp only [settleTaps, apply_ite State.memory, ite_self, stopTaps_memory]

theorem loadAutomata_memory (b : Bytes) (s : State) : (loadAutomata b s).memory = s.memory := by rfl

theorem loadStore_memory (inst : Nat) (b : Bytes) (s : State) : (loadStore inst b s).memory = s.memory := by
  simp only [loadStore, State.memory_foldl, implies_true, State.setDesk_memory]

theorem loadQueues_memory (b : Bytes) (s : State) : (loadQueues b s).memory = s.memory := by rfl

theorem loadMint_memory (b : Bytes) (s : State) : (loadMint b s).memory = s.memory := by rfl

theorem loadRegions_memory (b : Bytes) (s : State) : (loadRegions b s).memory = s.memory := by rfl

/-! ### Security -/

theorem identityBad_memory (s : State) : (identityBad s).memory = s.memory := by
  simp only [identityBad, State.memory_mk, State.memory_fold, cause_memory, emit_memory]

theorem debugOpens_memory (s : State) : (debugOpens s).memory = s.memory := by
  simp only [debugOpens, State.memory_mk, State.memory_fold, apply_ite State.memory, ite_self, cause_memory, emit_memory]

theorem lifecycleChanged_memory (old : Lifecycle) (s : State) : (lifecycleChanged old s).memory = s.memory := by
  unfold lifecycleChanged
  dsimp only
  repeat' split
  all_goals simp only [State.memory_mk, State.memory_fold, cause_memory, emit_memory, debugOpens_memory]

theorem setMbox_memory (side : Bool) (c : MboxChan) (s : State) : (setMbox side c s).memory = s.memory := by rfl

theorem mboxGo_memory (side : Bool) (op : Nat) (s : State) : (mboxGo side op s).memory = s.memory := by
  simp only [mboxGo, State.memory_mk, State.memory_fold, apply_ite State.memory, ite_self, setMbox_memory]

theorem mboxStart_memory (side : Bool) (s : State) : (mboxStart side s).memory = s.memory := by
  unfold mboxStart
  split <;> simp only [State.memory_mk, State.memory_fold, apply_ite State.memory, ite_self, setMbox_memory]

theorem mboxOutput_memory (side : Bool) (b : Bytes) (s : State) : (mboxOutput side b s).memory = s.memory := by
  simp only [mboxOutput, State.memory_foldl, implies_true, State.memory_mk, State.memory_fold, apply_ite State.memory, ite_self, regStore_memory]

theorem mboxResult_memory (side : Bool) (res : Nat) (out : Bytes) (s : State) : (mboxResult side res out s).memory = s.memory := by
  simp only [mboxResult, setMbox_memory]

theorem freeBytes_memory (n : Nat) (s : State) : (freeBytes n s).2.memory = s.memory := by
  induction n generalizing s with
  | zero => rfl
  | succ n ih => rw [freeBytes]; simp only [ih, takeFree_memory]

theorem identityBlock_memory (s : State) : (identityBlock s).2.memory = s.memory := by
  unfold identityBlock
  split <;> simp only [freeBytes_memory]

theorem getIdentity_memory (side : Bool) (s : State) : (getIdentity side s).memory = s.memory := by
  simp only [getIdentity, apply_ite State.memory, ite_self, mboxResult_memory, identityBlock_memory]

theorem getChallenge_memory (side : Bool) (s : State) : (getChallenge side s).memory = s.memory := by
  simp only [getChallenge, State.memory_mk, State.memory_fold, apply_ite State.memory, ite_self, mboxResult_memory]

theorem attest_memory (side : Bool) (s : State) : (attest side s).memory = s.memory := by
  simp only [attest, apply_ite State.memory, ite_self, mboxResult_memory]

theorem ownerCommand_memory (code : Nat) (states : List Lifecycle) (argOk : Bytes → State → Bool) (fuses : Bool)
    (work : Bytes → State → State) (ok : Bool) (s : State) (h : ∀ b s, (work b s).memory = s.memory) :
    (ownerCommand code states argOk fuses work ok s).memory = s.memory := by
  unfold ownerCommand
  dsimp only
  repeat' split
  all_goals simp only [mboxResult_memory, h, State.memory_mk, State.memory_fold]

theorem debugUnlock_memory (s : State) : (debugUnlock s).memory = s.memory := by
  simp only [debugUnlock, implies_true, debugOpens_memory, ownerCommand_memory]

theorem mboxEnd_memory (side : Bool) (res : Nat) (out : Bytes) (s : State) : (mboxEnd side res out s).memory = s.memory := by
  simp only [mboxEnd, State.memory_mk, State.memory_fold, apply_ite State.memory, ite_self, cause_memory, emit_memory, setMbox_memory,
    mboxOutput_memory]

theorem mboxDone_memory (side : Bool) (s : State) : (mboxDone side s).memory = s.memory := by
  unfold mboxDone
  split <;> simp only [setMbox_memory, mboxEnd_memory]

theorem mboxPerst_memory (s : State) : (mboxPerst s).memory = s.memory := by
  simp only [mboxPerst, State.memory_mk, State.memory_fold, apply_ite State.memory, ite_self, mboxEnd_memory]

theorem mboxCmdWrite_memory (v : Word32) (s : State) : (mboxCmdWrite v s).memory = s.memory := by
  simp only [mboxCmdWrite, apply_ite State.memory, ite_self, plainWrite_memory, mboxGo_memory]

theorem secWrite_memory (off : Nat) (v : Word32) (s : State) : (secWrite off v s).memory = s.memory := by
  simp only [secWrite, apply_ite State.memory, ite_self, plainWrite_memory, mboxCmdWrite_memory]

theorem mbOp_memory (op : Nat) (pec : Bool) (s : State) : (mbOp op pec s).memory = s.memory := by
  simp only [mbOp, State.memory_mk, State.memory_fold, apply_ite State.memory, ite_self, mboxGo_memory]

theorem mbAnswer_memory (cmd : Nat) (data : Bytes) (pec : Bool) (s : State) : (mbAnswer cmd data pec s).memory = s.memory := by
  simp only [mbAnswer, State.memory_mk, State.memory_fold, apply_ite State.memory, ite_self, smbAnswer_memory]

theorem mbNonce_memory (nonce : Bytes) (pec : Bool) (s : State) : (mbNonce nonce pec s).memory = s.memory := by
  simp only [mbNonce, State.memory_mk, State.memory_fold, apply_ite State.memory, ite_self, mboxOutput_memory]

theorem mbOffset_memory (offset : Nat) (pec : Bool) (s : State) : (mbOffset offset pec s).memory = s.memory := by
  simp only [mbOffset, State.memory_mk, State.memory_fold, apply_ite State.memory, ite_self]

theorem mbRead_memory (pec : Bool) (s : State) : (mbRead pec s).memory = s.memory := by
  simp only [mbRead, State.memory_mk, State.memory_fold, apply_ite State.memory, ite_self, mbAnswer_memory]

theorem jtagLoad_memory (ir : Nat) (drive : Bool) (out : Nat) (s : State) : (jtagLoad ir drive out s).memory = s.memory := by rfl

theorem tap_memory (trst : Bool) (f : State → State) (s : State) (h : ∀ s, (f s).memory = s.memory) : (tap trst f s).memory = s.memory := by
  unfold tap
  dsimp only
  split
  · exact (h _).trans rfl
  · exact (jtagLoad_memory ..).trans rfl

theorem captured_memory (n : Nat) (s : State) : (captured n s).2.memory = s.memory := by
  induction n generalizing s with
  | zero => rfl
  | succ n ih => rw [captured]; simp only [ih, takeFree_memory]

theorem scanBits_memory (ir : Nat) (drive : Bool) (bits : List Bool) (s : State) : (scanBits ir drive bits s).memory = s.memory := by
  simp only [scanBits, State.memory_mk, State.memory_fold, jtagLoad_memory, captured_memory]

theorem jtagMbox_memory (off : Nat) (w : Option Word32) (s : State) : (jtagMbox off w s).memory = s.memory := by
  unfold jtagMbox
  split <;> simp only [State.memory_mk, State.memory_fold, apply_ite State.memory, ite_self, secWrite_memory, jtagLoad_memory]

/-! ### Loads and boot -/

theorem noteLoad_memory (s : State) : (noteLoad s).memory = s.memory := by
  simp only [noteLoad, emit_memory]

theorem enterLoadState_memory (x : LoadState) (s : State) : (enterLoadState x s).memory = s.memory := by
  unfold enterLoadState
  split <;> simp only [State.memory_mk, State.memory_fold, cause_memory, noteLoad_memory]

theorem setLoadError_memory (code sect : Nat) (s : State) : (setLoadError code sect s).memory = s.memory := by rfl

theorem freeHalf_memory (h : Nat) (s : State) : (freeHalf h s).memory = s.memory := by
  simp only [freeHalf, State.memory_mk, State.memory_fold, apply_ite State.memory, ite_self, cause_memory]

theorem startLoad_memory (push keep : Bool) (s : State) : (startLoad push keep s).memory = s.memory := by
  simp only [startLoad, State.memory_mk, State.memory_fold, apply_ite State.memory, ite_self, acceptDomain_memory, enterLoadState_memory,
    freeHalf_memory]

theorem fallBack_memory (s : State) : (fallBack s).memory = s.memory := by
  simp only [fallBack, apply_ite State.memory, ite_self, startLoad_memory]

theorem discardFlight_memory (s : State) : (discardFlight s).memory = s.memory := by rfl

theorem dropMissEntry_memory (b : Nat) (s : State) : (dropMissEntry b s).memory = s.memory := by
  unfold dropMissEntry
  repeat' split
  all_goals simp only [implies_true, State.modLedger_memory, occStep_memory]

theorem dropMisses_memory (s : State) : (dropMisses s).memory = s.memory := by
  simp only [dropMisses, State.memory_foldl, implies_true, dropMissEntry_memory]

theorem settleFlow_memory (s : State) : (settleFlow s).memory = s.memory := by
  simp only [settleFlow, State.memory_foldl, implies_true, fcUpdate_memory]

theorem discardAll_memory (s : State) : (discardAll s).memory = s.memory := by
  simp only [discardAll, State.memory_foldl, implies_true, noteDrained_memory, discardFlight_memory, dropMisses_memory, settleFlow_memory]

theorem enterDrain_memory (s : State) : (enterDrain s).memory = s.memory := by
  simp only [enterDrain, State.memory_mk, State.memory_fold, emit_memory, enterLoadState_memory]

theorem halfConsumed_memory (s : State) : (halfConsumed s).memory = s.memory := by
  unfold halfConsumed
  split <;> simp only [State.memory_mk, State.memory_fold, apply_ite State.memory, ite_self, freeHalf_memory]

theorem dropLinks_memory (s : State) : (dropLinks s).memory = s.memory := by
  simp only [dropLinks, State.memory_foldl, implies_true, apply_ite State.memory, ite_self, portStop_memory, tethBringUp_memory]

theorem spareAgain_memory (s : State) : (spareAgain s).memory = s.memory := by
  simp only [spareAgain, State.memory_mk, State.memory_fold, apply_ite State.memory, ite_self, emit_memory]

theorem noteBoot_memory (step : Nat) (s : State) : (noteBoot step s).memory = s.memory := by
  simp only [noteBoot, emit_memory]

theorem unwrap_memory (s : State) : (unwrap s).memory = s.memory := by
  unfold unwrap
  dsimp only
  split <;> simp only [State.memory_mk, State.memory_fold, emit_memory, identityBad_memory]

theorem bootLoad_memory (s : State) : (bootLoad s).memory = s.memory := by
  simp only [bootLoad, State.memory_mk, State.memory_fold, apply_ite State.memory, ite_self, cause_memory, startLoad_memory, noteBoot_memory]

/-! ### Interrupts -/

theorem irqForce_memory (off : Nat) (v : Word32) (s : State) : (irqForce off v s).memory = s.memory := by
  unfold irqForce
  repeat' split
  all_goals simp only [regStore_memory]

theorem msixMessage_memory (s : State) : (msixMessage s).memory = s.memory := by rfl

theorem msixSend_memory (s : State) : (msixSend s).memory = s.memory := by
  simp only [msixSend, State.memory_mk, State.memory_fold, apply_ite State.memory, ite_self, msixMessage_memory]

theorem holdoffExpiry_memory (s : State) : (holdoffExpiry s).memory = s.memory := by
  simp only [holdoffExpiry, apply_ite State.memory, ite_self, msixSend_memory]

theorem settlePba_memory (s : State) : (settlePba s).memory = s.memory := by
  simp only [settlePba, State.memory_mk, State.memory_fold, apply_ite State.memory, ite_self]

theorem msixUnpend_memory (s : State) : (msixUnpend s).memory = s.memory := by
  simp only [msixUnpend, apply_ite State.memory, ite_self, msixMessage_memory, settlePba_memory]

theorem msixMask_memory (func vec enable : Bool) (s : State) : (msixMask func vec enable s).memory = s.memory := by
  simp only [msixMask, State.memory_mk, State.memory_fold, msixUnpend_memory]

theorem eoiWrite_memory (v : Word32) (s : State) : (eoiWrite v s).memory = s.memory := by
  simp only [eoiWrite, State.memory_mk, State.memory_fold, apply_ite State.memory, ite_self]

/-! ### PCIe link -/

theorem notePcie_memory (s : State) : (notePcie s).memory = s.memory := by
  simp only [notePcie, emit_memory]

theorem linkLost_memory (s : State) : (linkLost s).memory = s.memory := by
  simp only [linkLost, State.memory_mk, State.memory_fold, apply_ite State.memory, ite_self, notePcie_memory]

theorem loseRecord_memory (n : Nat) (s : State) : (loseRecord n s).memory = s.memory := by
  simp only [loseRecord, apply_ite State.memory, ite_self, spanDone_memory]

theorem dmaReset_memory (s : State) : (dmaReset s).memory = s.memory := by
  simp only [dmaReset, State.memory_foldl, implies_true, State.memory_mk, State.memory_fold, loseRecord_memory]

theorem pcieReset_memory (s : State) : (pcieReset s).memory = s.memory := by
  simp only [pcieReset, State.memory_mk, State.memory_fold, linkLost_memory, dmaReset_memory]

theorem notePerst_memory (s : State) : (notePerst s).memory = s.memory := by
  simp only [notePerst, emit_memory]

theorem perstRelease_memory (s : State) : (perstRelease s).memory = s.memory := by
  simp only [perstRelease, State.memory_mk, State.memory_fold, apply_ite State.memory, ite_self, notePerst_memory]

theorem pcieLinkUp_memory (rate width : Nat) (s : State) : (pcieLinkUp rate width s).memory = s.memory := by
  simp only [pcieLinkUp, State.memory_mk, State.memory_fold, apply_ite State.memory, ite_self, notePcie_memory]

/-! ### Register writes -/

theorem writeTime_memory (off rel : Nat) (v : Word32) (s : State) : (writeTime off rel v s).memory = s.memory := by
  simp only [writeTime, apply_ite State.memory, ite_self, plainWrite_memory, incrWrite_memory, timeCtrlWrite_memory, trigCtrlWrite_memory,
    capturePop_memory, ppsWrite_memory, ts2Pop_memory]

theorem writePerf_memory (off rel : Nat) (v : Word32) (s : State) : (writePerf off rel v s).memory = s.memory := by
  simp only [writePerf, apply_ite State.memory, ite_self, plainWrite_memory, freezeWrite_memory, perfCtrlWrite_memory, dumpCfgWrite_memory]

theorem writeDma_memory (off rel : Nat) (v : Word32) (s : State) : (writeDma off rel v s).memory = s.memory := by
  unfold writeDma
  repeat' split
  all_goals simp only [plainWrite_memory, ringCfgWrite_memory, tailWrite_memory, ringBaseWrite_memory, msixMask_memory]

theorem writeSieve_memory (off rel : Nat) (v : Word32) (s : State) : (writeSieve off rel v s).memory = s.memory := by
  simp only [writeSieve, apply_ite State.memory, ite_self, bump_memory, cause_memory, plainWrite_memory, sieveCommand_memory, accordSwap_memory]

theorem writeDisp_memory (off b rel : Nat) (v : Word32) (s : State) : (writeDisp off b rel v s).memory = s.memory := by
  simp only [writeDisp, apply_ite State.memory, ite_self, plainWrite_memory, hostPost_memory, affWrite_memory]

theorem deskCtrlWrite_memory (d : Nat) (v : Word32) (s : State) : (deskCtrlWrite d v s).memory = s.memory := by
  simp only [deskCtrlWrite, apply_ite State.memory, ite_self, regStore_memory, noteNoTeller_memory, noteDrained_memory]

theorem tctrlWrite_memory (off t : Nat) (v : Word32) (s : State) : (tctrlWrite off t v s).memory = s.memory := by
  simp only [tctrlWrite, apply_ite State.memory, ite_self, plainWrite_memory, tellerStop_memory, tellerCont_memory]

theorem writeTell_memory (off d rel : Nat) (v : Word32) (s : State) : (writeTell off d rel v s).memory = s.memory := by
  simp only [writeTell, apply_ite State.memory, ite_self, plainWrite_memory, csRead_memory, deskCtrlWrite_memory, tctrlWrite_memory]

theorem exporterStart_memory (s : State) : (exporterStart s).memory = s.memory := by
  simp only [exporterStart, State.memory_foldl, implies_true, modExp_memory]

theorem expCfgWrite_memory (v : Word32) (s : State) : (expCfgWrite v s).memory = s.memory := by
  simp only [expCfgWrite, apply_ite State.memory, ite_self, plainWrite_memory, exporterStart_memory]

theorem noseCommand_memory (v : Word32) (s : State) : (noseCommand v s).memory = s.memory := by
  unfold noseCommand
  split <;> simp only [plainWrite_memory, noseInvalidate_memory, noseValidate_memory]

theorem noseStartWrite_memory (g : Nat) (v : Word32) (s : State) : (noseStartWrite g v s).memory = s.memory := by
  simp only [noseStartWrite, apply_ite State.memory, ite_self, setGroup_memory]

theorem writeNose_memory (off rel : Nat) (v : Word32) (s : State) : (writeNose off rel v s).memory = s.memory := by
  simp only [writeNose, apply_ite State.memory, ite_self, plainWrite_memory, noseMemWrite_memory, noseCommand_memory, noseStartWrite_memory]

theorem writeSwc_memory (off rel : Nat) (v : Word32) (s : State) : (writeSwc off rel v s).memory = s.memory := by
  simp only [writeSwc, apply_ite State.memory, ite_self, plainWrite_memory, samplerWrite_memory, seedWrite_memory, grpCommand_memory]

theorem fcModeWrite_memory (off p : Nat) (v : Word32) (s : State) : (fcModeWrite off p v s).memory = s.memory := by
  simp only [fcModeWrite, apply_ite State.memory, ite_self, State.modSched_memory, plainWrite_memory]

theorem writeTm_memory (off rel : Nat) (v : Word32) (s : State) : (writeTm off rel v s).memory = s.memory := by
  simp only [writeTm, apply_ite State.memory, ite_self, plainWrite_memory, gclWrite_memory, gateCtrlWrite_memory, classCtrlWrite_memory,
    polCommand_memory, fcModeWrite_memory]

theorem writeEgr_memory (off rel : Nat) (v : Word32) (s : State) : (writeEgr off rel v s).memory = s.memory := by
  simp only [writeEgr, apply_ite State.memory, ite_self, plainWrite_memory, nptCtlWrite_memory]

/-! ### Host reads -/

theorem clearRc_memory (off : Nat) (s : State) : (clearRc off s).memory = s.memory := by
  unfold clearRc
  repeat' split
  all_goals simp only [regStore_memory]

theorem readEffect_memory (off : Nat) (s : State) : (readEffect off s).memory = s.memory := by
  unfold readEffect
  repeat' split
  all_goals simp only [affNext_memory, gclRead_memory, clearRc_memory]

theorem registerRead_memory (off size : Nat) (s : State) : (registerRead off size s).memory = s.memory := by
  simp only [registerRead, apply_ite State.memory, ite_self, complete_memory, unsupported_memory, readEffect_memory]

theorem userRead_memory (off size : Nat) (s : State) : (userRead off size s).memory = s.memory := by
  simp only [userRead, complete_memory]

theorem cfgRead_memory (off : Nat) (s : State) : (cfgRead off s).memory = s.memory := by
  unfold cfgRead
  split <;> simp only [complete_memory, takeFree_memory]

/-! ### RUN -/

theorem assignRest_memory (s : State) : (assignRest s).memory = s.memory := by rfl

theorem accordRun_memory (s : State) : (accordRun s).memory = s.memory := by rfl

theorem noseRun_memory (s : State) : (noseRun s).memory = s.memory := by
  simp only [noseRun, State.memory_foldl, implies_true, State.memory_mk, State.memory_fold, apply_ite State.memory, ite_self, setGroup_memory]

theorem perfRun_memory (s : State) : (perfRun s).memory = s.memory := by
  simp only [perfRun, State.memory_foldl, implies_true, regStore_memory, clearCounters_memory]

theorem tokensRun_memory (s : State) : (tokensRun s).memory = s.memory := by
  simp only [tokensRun, State.memory_foldl, implies_true, State.modLedger_memory]

theorem freezeRun_memory (s : State) : (freezeRun s).memory = s.memory := by
  simp only [freezeRun, State.memory_foldl, implies_true, State.modSched_memory]

theorem charterNow_memory (s : State) : (charterNow s).memory = s.memory := by rfl

/-! ### Tick -/

theorem tickSnap_memory (s : State) : (tickSnap s).memory = s.memory := by
  simp only [tickSnap, apply_ite State.memory, ite_self, latchSnap_memory]

theorem tickCount_memory (s : State) : (tickCount s).memory = s.memory := by
  simp only [tickCount, State.memory_mk, State.memory_fold, apply_ite State.memory, ite_self]

theorem tickDesk_memory (d : Nat) (s : State) : (tickDesk d s).memory = s.memory := by
  simp only [tickDesk, apply_ite State.memory, ite_self, bump64_memory, perfN_memory]

theorem lasting_memory (dom unit code : Nat) (on : State → Bool) (s : State) : (lasting dom unit code on s).memory = s.memory := by
  simp only [lasting, apply_ite State.memory, ite_self, perf_memory]

theorem tickBranch_memory (b : Nat) (s : State) : (tickBranch b s).memory = s.memory := by
  simp only [tickBranch, lasting_memory]

theorem tickChannel_memory (c : Nat) (s : State) : (tickChannel c s).memory = s.memory := by
  simp only [tickChannel, lasting_memory]

end Sys2Proof.Machine
end


section
/-!
PROOFS. The canonical form of the Vault and the Coffer, and the operations that store into them, to the Auditor (O10).
-/
namespace Sys2Proof.Machine

/-- In both tables the addresses rise, and no entry is one that an unlisted address reads as. -/
def Canonical (m : Tbl VCell × Tbl Word64) : Prop := Tbl.wf (.data Rec.empty) m.1 ∧ Tbl.wf 0 m.2

theorem wf_nil {α : Type} [DecidableEq α] (d : α) : Tbl.wf d [] := ⟨List.Pairwise.nil, fun _ h => nomatch h⟩

theorem canonical_foldl {α : Type} {f : State → α → State} (hf : ∀ s x, Canonical s.memory → Canonical (f s x).memory) (l : List α)
    {s : State} (h : Canonical s.memory) : Canonical (l.foldl f s).memory := by
  induction l generalizing s with
  | nil => exact h
  | cons x xs ih => exact ih (hf s x h)

theorem canonical_foldl2 {α β : Type} {f : β × State → α → β × State} (hf : ∀ a x, Canonical a.2.memory → Canonical (f a x).2.memory)
    (l : List α) {a : β × State} (h : Canonical a.2.memory) : Canonical (l.foldl f a).2.memory := by
  induction l generalizing a with
  | nil => exact h
  | cons x xs ih => exact ih (hf a x h)

theorem canonical_foldl3 {α β γ : Type} {f : β × γ × State → α → β × γ × State}
    (hf : ∀ a x, Canonical a.2.2.memory → Canonical (f a x).2.2.memory) (l : List α) {a : β × γ × State} (h : Canonical a.2.2.memory) :
    Canonical (l.foldl f a).2.2.memory := by
  induction l generalizing a with
  | nil => exact h
  | cons x xs ih => exact ih (hf a x h)

theorem canonical_getD {o : Option State} {d : State} (h : ∀ t, o = some t → Canonical t.memory) (hd : Canonical d.memory) :
    Canonical (o.getD d).memory := by
  cases o with
  | none => exact hd
  | some t => exact h t rfl

/-- What leaves cells and words as they were leaves them canonical. -/
theorem Canonical.of_eq {s t : State} (hc : Canonical s.memory) (h : t.memory = s.memory) : Canonical t.memory := h ▸ hc

/-- A decision that leaves its own state canonical does so whatever the state is that stands where nothing could be done. -/
theorem Decision.state_canonical {x : Decision} {s s0 : State} (h0 : Canonical s0.memory) (h : Canonical (x.state s).memory) :
    Canonical (x.state s0).memory := by
  cases x with
  | full => exact h0
  | done | noroom => exact h

theorem canonical_setCell {s : State} (hc : Canonical s.memory) (rank u : Nat) (cell : VCell) :
    Canonical ((setCell s.vault rank u cell).mem, s.coffer.words) := ⟨Tbl.wf_set _ _ _ _ hc.1, hc.2⟩

theorem wf_setCells {v : Vault} (h : Tbl.wf (.data Rec.empty) v.mem) (u : Nat) (cell : VCell) (ranks : List Nat) :
    Tbl.wf (.data Rec.empty) (ranks.foldl (fun v r => setCell v r u cell) v).mem := by
  induction ranks generalizing v with
  | nil => exact h
  | cons r rs ih => exact ih (Tbl.wf_set _ _ _ _ h)

/-! ### Vault -/

theorem occStep_canonical {slot : Nat} {f : State → State} {s : State} (h : Canonical (f s).memory) : Canonical (occStep slot f s).memory := by
  unfold occStep
  dsimp only
  split <;> simp only [setOcc_memory, h]

/-! ### On-chip errors -/

theorem Page.readWord_canonical {g : Page} {flips : List WordFlips} {i : Nat} {s : State}
    (hp : ∀ {i w s}, Canonical s.memory → Canonical (g.put i w s).memory) (hl : ∀ {i s}, Canonical s.memory → Canonical (g.lose i s).memory)
    (hc : Canonical s.memory) : Canonical (g.readWord flips i s).memory := by
  have hs : ∀ e, Canonical (sramEvent g.mem g.branch (g.addr i) e s).memory := fun e => hc.of_eq (sramEvent_memory ..)
  unfold Page.readWord
  split
  · exact hc
  · dsimp only
    split
    · exact hp (hs _)
    · exact hs _
  · exact hs _
  · split
    · dsimp only
      split
      · exact hp (hs _)
      · exact hs _
    · dsimp only
      split
      · exact hl (hs _)
      · exact hs _

theorem Page.readAll_canonical {g : Page} {flips : List WordFlips} {s : State}
    (hp : ∀ {i w s}, Canonical s.memory → Canonical (g.put i w s).memory) (hl : ∀ {i s}, Canonical s.memory → Canonical (g.lose i s).memory)
    (hc : Canonical s.memory) : Canonical (g.readAll flips s).memory :=
  canonical_foldl (fun _ _ h => Page.readWord_canonical hp hl h) _ hc

/-! ### Vault -/

theorem storeCell_canonical {a : Nat} {cell : VCell} {s : State} (hc : Canonical s.memory) : Canonical (storeCell a cell s).memory := by
  unfold storeCell
  simp only [State.modChan_memory, State.memory_foldl, implies_true, State.memory_mk]
  exact ⟨wf_setCells hc.1 .., hc.2⟩

theorem storeRecord_canonical {a : Nat} {cell : VCell} {s : State} (hc : Canonical s.memory) : Canonical (storeRecord a cell s).memory := by
  unfold storeRecord
  split
  · exact occStep_canonical (storeCell_canonical hc)
  · exact storeCell_canonical hc

theorem writeRecord_canonical {a b : Nat} {k : VClass} {r : Rec} {s : State} (hc : Canonical s.memory) :
    Canonical (writeRecord a b k r s).memory := by
  simp only [writeRecord, countWrite_memory, storeRecord_canonical, hc]

theorem vaultLasting_canonical {a : Nat} {user : VaultAccess} {words : Nat} {s : State} (hc : Canonical s.memory) :
    Canonical (vaultLasting a user words s).memory := by
  simp only [vaultLasting, storeRecord_canonical, noteLasting_memory, hc]

theorem rmwRecord_canonical {a : Nat} {m : Tbl Byte} {have_ : List Nat} {host : Bool} {tellers : List (Nat × Nat)} {s : State}
    (hc : Canonical s.memory) :
    Canonical (rmwRecord a m have_ host tellers s).memory := by
  unfold rmwRecord
  dsimp only
  split <;> simp only [bump_memory, countRead_memory, countWrite_memory, storeRecord_canonical, refusePartial_memory, hc]

theorem closeMerge_canonical {c : Nat} {e : MergeEntry} {s : State} (hc : Canonical s.memory) : Canonical (closeMerge c e s).memory := by
  simp only [closeMerge, apply_ite State.memory, apply_ite Canonical, ite_self, State.modChan_memory, bump_memory, countWrite_memory,
    storeRecord_canonical, rmwRecord_canonical, hc]

theorem settleMerge_canonical {a : Nat} {s : State} (hc : Canonical s.memory) : Canonical (settleMerge a s).memory := by
  unfold settleMerge
  dsimp only
  split <;> simp only [closeMerge_canonical, hc]

theorem partialWrite_canonical {a off : Nat} {data : List (Option Byte)} {host : Bool} {teller : Option (Nat × Nat)} {s : State}
    (hc : Canonical s.memory) :
    Canonical (partialWrite a off data host teller s).memory := by
  unfold partialWrite
  dsimp only
  repeat' split
  all_goals simp only [State.modChan_memory, bump_memory, rmwRecord_canonical, closeMerge_canonical, hc]

theorem mergeExpiry_canonical {c record : Nat} {s : State} (hc : Canonical s.memory) : Canonical (mergeExpiry c record s).memory := by
  unfold mergeExpiry
  split <;> simp only [apply_ite State.memory, apply_ite Canonical, ite_self, closeMerge_canonical, hc]

theorem vaultRequestDone_canonical {a : Nat} {user : VaultAccess} {noise retryNoise : Bytes} {s : State} (hc : Canonical s.memory) :
    Canonical (vaultRequestDone a user noise retryNoise s).memory := by
  unfold vaultRequestDone
  dsimp only
  repeat' split
  all_goals simp only [State.memory_foldl, implies_true, bump_memory, bump64_memory, perf_memory, inOrder_memory, vaultLasting_canonical,
    noteTransient_memory, countFix_memory, settleMerge_canonical, hc]

theorem readRecord_canonical {a b : Nat} {k : VClass} {s : State} (hc : Canonical s.memory) : Canonical (readRecord a b k s).2.memory := by
  simp only [readRecord, apply_ite State.memory, ite_self, bump_memory, countRead_memory, settleMerge_canonical, hc]

/-! ### Dispatch items -/

theorem setCofferWord_canonical {i : Nat} {v : Word64} {s : State} (hc : Canonical s.memory) : Canonical (setCofferWord i v s).memory := by
  exact ⟨hc.1, Tbl.wf_set _ _ _ _ hc.2⟩

theorem storeSnapshot_canonical {i : Nat} {rc : Rec} {s : State} (hc : Canonical s.memory) : Canonical (storeSnapshot i rc s).memory := by
  unfold storeSnapshot
  split
  · exact canonical_foldl (fun _ _ h => setCofferWord_canonical h) _ hc
  · exact hc.of_eq (cause_memory ..)

theorem exportRecord_canonical {b : Nat} {hash : Word64} {r : Rec} {expired : Bool} {s : State} (hc : Canonical s.memory) :
    Canonical (exportRecord b hash r expired s).memory := by
  simp only [exportRecord, apply_ite State.memory, apply_ite Canonical, ite_self, State.modLedger_memory, bump_memory, emit_memory,
    storeSnapshot_canonical, exportItem_memory, hc]

theorem exportOnClose_canonical {b : Nat} {hash : Word64} {r : Rec} {expired : Bool} {s : State} (hc : Canonical s.memory) :
    Canonical (exportOnClose b hash r expired s).memory := by
  simp only [exportOnClose, apply_ite State.memory, apply_ite Canonical, ite_self, exportRecord_canonical, hc]

/-! ### Till -/

theorem writeBack_canonical {b k : Nat} {s : State} (hc : Canonical s.memory) : Canonical (writeBack b k s).memory := by
  unfold writeBack
  split <;> simp only [apply_ite State.memory, apply_ite Canonical, ite_self, bump_memory, perf_memory, countWrite_memory, storeRecord_canonical,
    modWay_memory, unclaim_memory, unflush_memory, hc]

theorem evict_canonical {b k : Nat} {s : State} (hc : Canonical s.memory) : Canonical (evict b k s).memory := by
  unfold evict
  split <;> simp only [bump_memory, perf_memory, dropWay_memory, writeBack_canonical, hc]

theorem closeWay_canonical {b k : Nat} {expired applied : Bool} {s : State} (hc : Canonical s.memory) :
    Canonical (closeWay b k expired applied s).memory := by
  unfold closeWay
  split <;> simp only [apply_ite State.memory, apply_ite Canonical, ite_self, bump_memory, exportOnClose_canonical, mirrorEvent_memory,
    setWay_memory, modWay_memory, hc]

theorem closeSlot_canonical {b slot : Nat} {r : Rec} {k : VClass} {s : State} (hc : Canonical s.memory) :
    Canonical (closeSlot b slot r k s).memory := by
  simp only [closeSlot, bump_memory, writeRecord_canonical, exportOnClose_canonical, mirrorEvent_memory, hc]

theorem install_canonical' {b k : Nat} {hash : Word64} {f : Fill} {s s' : State} (h : install b hash f s = some (k, s')) (hc : Canonical s.memory) :
    Canonical s'.memory := by
  unfold install at h
  dsimp only at h
  cases hv : victim s b (tillSet hash) with
  | none =>
    rw [hv] at h
    cases h
  | some i =>
    rw [hv] at h
    cases h
    rw [putWay_memory]
    exact evict_canonical hc

theorem durableBack_canonical {b k : Nat} {s : State} (hc : Canonical s.memory) : Canonical (durableBack b k s).memory := by
  unfold durableBack
  split <;> simp only [apply_ite State.memory, apply_ite Canonical, ite_self, bump_memory, writeBack_canonical, hc]

theorem durableExpiry_canonical {b k : Nat} {s : State} (hc : Canonical s.memory) : Canonical (durableExpiry b k s).memory := by
  unfold durableExpiry
  split <;> simp only [apply_ite State.memory, apply_ite Canonical, ite_self, durableBack_canonical, hc]

theorem writeBackAll_canonical {b : Nat} {s : State} (hc : Canonical s.memory) : Canonical (writeBackAll b s).memory := by
  exact canonical_foldl (fun _ _ h => writeBack_canonical h) _ hc

theorem brownoutFlush_canonical {s : State} (hc : Canonical s.memory) : Canonical (brownoutFlush s).memory := by
  exact canonical_foldl (fun _ _ h => canonical_foldl (fun _ _ h => durableBack_canonical h) _ h) _ hc

theorem flushDone_canonical {b : Nat} {s : State} (hc : Canonical s.memory) : Canonical (flushDone b s).memory := by
  unfold flushDone
  split
  · simp only [cause_memory, stamp_memory, State.modLedger_memory]
    exact canonical_foldl (fun _ _ h => writeBack_canonical h) _ hc
  · exact hc

/-! ### Slots -/

theorem testSlot_canonical {b slot : Nat} {k : VClass} {hash : Word64} {key : Ckey} {t : Nat} {s : State} (hc : Canonical s.memory) :
    Canonical (testSlot b slot k hash key t s).2.memory := by
  unfold testSlot
  dsimp only
  split <;> simp only [apply_ite State.memory, apply_ite Canonical, apply_ite Prod.snd, ite_self, bump_memory, readRecord_canonical,
    noteState_memory, closeSlot_canonical, hc]

theorem searchBoth_canonical {b : Nat} {k : VClass} {hash : Word64} {key : Ckey} {t : Nat} {s : State} (hc : Canonical s.memory) :
    Canonical (searchBoth b k hash key t s).2.2.memory := by
  unfold searchBoth
  dsimp only
  cases (testSlot b (cands s hash).1 k hash key t s).1 <;> dsimp only
  · exact testSlot_canonical hc
  · exact testSlot_canonical hc
  all_goals
    cases (testSlot b (cands s hash).2 k hash key t (testSlot b (cands s hash).1 k hash key t s).2).1 <;>
      exact testSlot_canonical (testSlot_canonical hc)

theorem searchBoth_canonical' {b : Nat} {k : VClass} {hash : Word64} {key : Ckey} {t : Nat} {s : State} {x' : _} {y' : _} {r' : State}
    (h' : searchBoth b k hash key t s = (x', y', r')) (hc : Canonical s.memory) :
    Canonical r'.memory := by
  have k' : Canonical (searchBoth b k hash key t s).2.2.memory := searchBoth_canonical hc
  rw [h'] at k'
  exact k'

theorem leaveSlot_canonical {b k t : Nat} {s : State} (hc : Canonical s.memory) : Canonical (leaveSlot b k t s).memory := by
  unfold leaveSlot
  split <;> simp only [apply_ite State.memory, apply_ite Canonical, ite_self, modWay_memory, closeWay_canonical, hc]

theorem vacate_canonical {b slot t : Nat} {v : VClass} {s : State} (hc : Canonical s.memory) : Canonical (vacate b slot t v s).memory := by
  unfold vacate
  split
  · split
    · split
      · exact closeSlot_canonical hc
      · exact hc
    · exact hc
  · exact canonical_foldl (fun _ _ h => leaveSlot_canonical h) _ hc

theorem placeSlot_canonical {b : Nat} {hash : Word64} {key : Ckey} {t : Nat} {v : VClass} {s : State} (hc : Canonical s.memory) :
    Canonical (placeSlot b hash key t v s).2.memory := by
  unfold placeSlot
  dsimp only
  split <;> simp only [vacate_canonical, hc]

theorem placeSlot_canonical' {b : Nat} {hash : Word64} {key : Ckey} {t : Nat} {v : VClass} {s : State} {x' : _} {r' : State}
    (h' : placeSlot b hash key t v s = (x', r')) (hc : Canonical s.memory) :
    Canonical r'.memory := by
  have k' : Canonical (placeSlot b hash key t v s).2.memory := placeSlot_canonical hc
  rw [h'] at k'
  exact k'

theorem reuseSlot_canonical {b k : Nat} {w : Way} {t : Nat} {v : VClass} {s : State} (hc : Canonical s.memory) :
    Canonical (reuseSlot b k w t v s).2.memory := by
  unfold reuseSlot
  split
  · exact canonical_foldl (fun _ _ h => leaveSlot_canonical h) _ hc
  · exact placeSlot_canonical hc

theorem reuseSlot_canonical' {b k : Nat} {w : Way} {t : Nat} {v : VClass} {s : State} {x' : _} {r' : State} (h' : reuseSlot b k w t v s = (x', r'))
    (hc : Canonical s.memory) :
    Canonical r'.memory := by
  have k' : Canonical (reuseSlot b k w t v s).2.memory := reuseSlot_canonical hc
  rw [h'] at k'
  exact k'

theorem leaveTill_canonical {b k t : Nat} {s : State} (hc : Canonical s.memory) : Canonical (leaveTill b k t s).memory := by
  unfold leaveTill
  split <;> simp only [apply_ite State.memory, apply_ite Canonical, ite_self, dropWay_memory, closeWay_canonical, hc]

theorem newClaim_canonical {b : Nat} {s : State} (hc : Canonical s.memory) : Canonical (newClaim b s).2.memory := by
  unfold newClaim
  repeat' split
  all_goals simp only [State.modLedger_memory, bump_memory, cause_memory, writeBack_canonical, hc]

/-! ### On-chip errors -/

theorem cofferStore_canonical {i : Nat} {v : Option Word64} {s : State} (hc : Canonical s.memory) : Canonical (cofferStore i v s).memory := by
  unfold cofferStore
  split <;> simp only [State.memory_mk, State.memory_fold, apply_ite State.memory, ite_self, setCofferWord_canonical, hc]

theorem cofferRead_canonical {i : Nat} {flips : List WordFlips} {s : State} (hc : Canonical s.memory) :
    Canonical (cofferRead i flips s).2.memory := by
  unfold cofferRead
  dsimp only
  split
  · exact Page.readAll_canonical setCofferWord_canonical cofferStore_canonical hc
  · exact Page.readWord_canonical setCofferWord_canonical cofferStore_canonical hc

theorem cofferRoundOn_canonical {i : Nat} {flips : List WordFlips} {reads : Bool} {soft : Option Word64 → Option Word64} {s : State}
    (hc : Canonical s.memory) :
    Canonical (cofferRoundOn i flips reads soft s).2.memory := by
  unfold cofferRoundOn
  extract_lets qs needs
  have hs : Canonical (if needs then cofferRead i flips s else (cofferHeld s i, s)).2.memory := by
    split
    · exact cofferRead_canonical hc
    · exact hc
  generalize (if needs then cofferRead i flips s else (cofferHeld s i, s)) = p at hs ⊢
  obtain ⟨old, t⟩ := p
  dsimp only at hs ⊢
  have hrun : ∀ u : State,
    Canonical u.memory → Canonical ((roundOrder t qs).foldl (fun (x : Option Word64 × State) q => roundStep old q x.1 x.2) (old, u)).2.memory :=
    fun u hu => canonical_foldl2 (fun _ _ h => h.of_eq (roundStep_memory ..)) _ hu
  split
  · exact hrun _ hs
  · exact cofferStore_canonical (hrun _ hs)

theorem cofferRound_canonical {flips : List WordFlips} {s : State} (hc : Canonical s.memory) : Canonical (cofferRound flips s).memory := by
  unfold cofferRound
  repeat' split
  all_goals simp only [cofferRoundOn_canonical, cofferOff_memory, hc]

theorem cofferHostRead_canonical {off len : Nat} {flips : List WordFlips} {s : State} (hc : Canonical s.memory) :
    Canonical (cofferHostRead off len flips s).memory := by
  unfold cofferHostRead
  split
  · rw [unsupported_memory]
    split
    · exact hc.of_eq (cause_memory ..)
    · exact hc
  · split
    · rw [unsupported_memory, cause_memory]
      exact hc
    · extract_lets a
      split
      next vs lost t hfold =>
        have ht : Canonical (vs, lost, t).2.2.memory := by
          rw [← hfold]
          refine canonical_foldl3 (fun x i h => ?_) _ hc
          obtain ⟨vs0, lost0, u⟩ := x
          have hr : Canonical (cofferRoundOn i flips true id u).2.memory := cofferRoundOn_canonical h
          dsimp only
          generalize cofferRoundOn i flips true id u = p at hr ⊢
          split
          · exact hr
          · exact hr.of_eq (takeFree_memory _)
        have hdone : Canonical (complete (slice vs (a % 8) len) t).memory := by
          rw [complete_memory]
          exact ht
        generalize complete (slice vs (a % 8) len) t = u at hdone ⊢
        dsimp only
        split
        · exact hdone
        · exact hdone

theorem softWord_canonical {op : Byte → Byte → Byte} {plain : Bool} {a : Nat} {data : Bytes} {be : List Bool} {flips : List WordFlips} {i : Nat}
    {s : State} (hc : Canonical s.memory) :
    Canonical (softWord op plain a data be flips i s).memory := by
  simp only [softWord, apply_ite State.memory, ite_self, aerInternal_memory, cofferRoundOn_canonical, hc]

theorem cofferHostChange_canonical {row : Nat} {off : Nat} {data : Bytes} {be : List Bool} {flips : List WordFlips} {s : State}
    (hc : Canonical s.memory) :
    Canonical (cofferHostChange row off data be flips s).memory := by
  unfold cofferHostChange
  simp only [unsupported_memory, complete_memory, cause_memory, apply_ite State.memory, apply_ite Canonical, ite_self, hc]
  simp only [canonical_foldl (fun _ _ h => softWord_canonical h) _ hc, ite_self]

theorem cofferClear_canonical {s : State} (hc : Canonical s.memory) : Canonical (cofferClear s).memory := by
  exact ⟨hc.1, wf_nil _⟩

/-! ### Ledger -/

theorem claimFor_canonical {b : Nat} {w : Way} {s : State} (hc : Canonical s.memory) : Canonical (claimFor b w s).2.memory := by
  unfold claimFor
  split <;> simp only [newClaim_canonical, hc]

theorem renewWay_canonical {b k : Nat} {w : Way} {rc : Rec} {t : Nat} {v : VClass} {s : State} (hc : Canonical s.memory) :
    Canonical (renewWay b k w rc t v s).memory := by
  unfold renewWay
  split
  next hslot =>
    have hs := reuseSlot_canonical' hslot hc
    dsimp only
    exact occStep_canonical ((claimFor_canonical hs).of_eq (putWay_memory ..))
  next hslot => exact reuseSlot_canonical' hslot hc

theorem setupInPlace_canonical {b k : Nat} {d : Desc} {s : State} (hc : Canonical s.memory) : Canonical ((setupInPlace b k d s).state s).memory := by
  unfold setupInPlace
  dsimp only
  have hs : Canonical (sieveLookup b d.key d.template d.stamp s).2.2.memory := hc.of_eq (sieveLookup_memory ..)
  split
  · exact hs.of_eq (statelessAction_memory ..)
  · have ht : Canonical (takeToken b (sieveLookup b d.key d.template d.stamp s).2.2).2.memory := hs.of_eq (takeToken_memory ..)
    split
    · rw [Decision.state_done, setupAct_memory, noteRefusedSetup_memory]
      exact ht
    · split
      · exact ht
      · refine Decision.state_canonical hc (Canonical.of_eq ?_ (setupPass_memory _ _ _ _ _ _ rfl))
        rw [noteSetup_memory]
        exact renewWay_canonical ht

theorem reclassify_canonical {b k : Nat} {d : Desc} {fast : Bool} {s : State} (hc : Canonical s.memory) :
    Canonical ((reclassify b k d fast s).state s).memory := by
  unfold reclassify
  dsimp only
  have hs : Canonical (perf (uTill b) 0x07 (bump (Reg.SIEVE_STALE_CNT b) (sieveLookup b d.key d.template d.stamp s).2.2)).memory := by
    rwa [perf_memory, bump_memory, sieveLookup_memory]
  split
  · rw [Decision.state_done, statelessAction_memory]
    exact closeWay_canonical hs
  · split
    · rw [Decision.state_done, updateUnit_memory, modWay_memory]
      exact hs
    · exact Decision.state_canonical hc ((hs.of_eq (modWay_memory ..)).of_eq (toItem_memory _ _ _ _ _ _ _ _ rfl))

theorem decideFrom2_canonical {b k : Nat} {d : Desc} {s : State} (hc : Canonical s.memory) : Canonical ((decideFrom2 b k d s).state s).memory := by
  unfold decideFrom2
  split
  · exact hc
  next w _ =>
    dsimp only
    have hs : Canonical (noteState b d.hash w.rc s).memory := hc.of_eq (noteState_memory ..)
    generalize noteState b d.hash w.rc s = t at hs ⊢
    refine Decision.state_canonical (s := t) hc ?_
    split
    · exact leaveTill_canonical hs
    · split
      · exact setupInPlace_canonical hs
      · split
        · exact Decision.state_canonical hs (setupInPlace_canonical (closeWay_canonical hs))
        · split
          · exact reclassify_canonical hs
          · split
            · exact hs.of_eq (updateUnit_memory ..)
            · exact hs.of_eq (toItem_memory _ _ _ _ _ _ _ _ rfl)

theorem decideFrom2_canonical' {b k : Nat} {d : Desc} {s : State} {r' : State} (h' : decideFrom2 b k d s = .done r') (hc : Canonical s.memory) :
    Canonical r'.memory := by
  have k' : Canonical ((decideFrom2 b k d s).state s).memory := decideFrom2_canonical hc
  rw [h'] at k'
  exact k'

theorem decideFrom2_canonicalN {b k : Nat} {d : Desc} {s : State} {r' : State} (h' : decideFrom2 b k d s = .noroom r') (hc : Canonical s.memory) :
    Canonical r'.memory := by
  have k' : Canonical ((decideFrom2 b k d s).state s).memory := decideFrom2_canonical hc
  rw [h'] at k'
  exact k'

theorem decide_canonical {b k : Nat} {d : Desc} {s : State} (hc : Canonical s.memory) : Canonical ((decide b k d s).state s).memory := by
  unfold decide
  split
  · exact hc
  · split
    · split
      · exact hc.of_eq (joinChain_memory ..)
      · exact hc
    · exact decideFrom2_canonical hc

theorem decide_canonical' {b k : Nat} {d : Desc} {s : State} {r' : State} (h' : decide b k d s = .done r') (hc : Canonical s.memory) :
    Canonical r'.memory := by
  have k' : Canonical ((decide b k d s).state s).memory := decide_canonical hc
  rw [h'] at k'
  exact k'

theorem decide_canonicalN {b k : Nat} {d : Desc} {s : State} {r' : State} (h' : decide b k d s = .noroom r') (hc : Canonical s.memory) :
    Canonical r'.memory := by
  have k' : Canonical ((decide b k d s).state s).memory := decide_canonical hc
  rw [h'] at k'
  exact k'

theorem openOnWay_canonical {b k t : Nat} {s : State} (hc : Canonical s.memory) : Canonical (openOnWay b k t s).memory := by
  unfold openOnWay
  split <;> simp only [apply_ite State.memory, apply_ite Canonical, ite_self, setWay_memory, closeWay_canonical, noteState_memory, lockWay_memory,
    answerOpen_memory, hc]

theorem hostWrite_canonical {b k where_ : Nat} {s : State} (hc : Canonical s.memory) : Canonical (hostWrite b k where_ s).memory := by
  unfold hostWrite
  split <;> simp only [apply_ite State.memory, apply_ite Canonical, ite_self, State.modLedger_memory, setWay_memory, pinWay_memory,
    closeWay_canonical, hostWay_memory, hc]

theorem hostOnTill_canonical {b k where_ : Nat} {s : State} (hc : Canonical s.memory) : Canonical (hostOnTill b k where_ s).memory := by
  unfold hostOnTill
  dsimp only
  repeat' split
  all_goals simp only [writeBack_canonical, closeWay_canonical, noteState_memory, renewWay_canonical, hostDone_memory, hostWay_memory,
    hostWrite_canonical, hc]

theorem mirrorOnTill_canonical {b k type side : Nat} {rc : Rec} {s : State} (hc : Canonical s.memory) :
    Canonical (mirrorOnTill b k type side rc s).memory := by
  unfold mirrorOnTill
  dsimp only
  repeat' split
  all_goals simp only [bump_memory, setWay_memory, pinWay_memory, closeWay_canonical, noteState_memory, renewWay_canonical, mirrorIgnored_memory, hc]

theorem finishSetup_canonical {b : Nat} {e : MissEntry} {d : Desc} {u : Setup} {slot n : Nat} {again : Bool} {s0 : State} (hc : Canonical s0.memory) :
    Canonical (finishSetup b e d u slot n again s0).state.memory := by
  unfold finishSetup
  dsimp only
  split
  · rw [EntryStep.state_wait]
    split
    · exact hc
    · exact hc.of_eq (noteNoway_memory ..)
  next hi =>
    rw [setupTurn_memory]
    refine (install_canonical' hi hc).of_eq ?_
    simp only [apply_ite State.memory, noteStateLost_memory, noteSetup_memory, ite_self]

theorem finishSetup_canonical' {b : Nat} {e : MissEntry} {d : Desc} {u : Setup} {slot n : Nat} {again : Bool} {s0 : State} {r' : EntryStep}
    (h' : finishSetup b e d u slot n again s0 = r') (hc : Canonical s0.memory) :
    Canonical r'.state.memory := by
  have k' : Canonical (finishSetup b e d u slot n again s0).state.memory := finishSetup_canonical hc
  rw [h'] at k'
  exact k'

theorem setupEntry_canonical {b : Nat} {e : MissEntry} {d : Desc} {s : State} (hc : Canonical s.memory) :
    Canonical (setupEntry b e d s).state.memory := by
  unfold setupEntry
  have hs : Canonical (setupLook b e d s).2.2.memory := hc.of_eq (setupLook_memory ..)
  generalize setupLook b e d s = p at hs ⊢
  obtain ⟨u, ok, t⟩ := p
  dsimp only at hs ⊢
  split
  · exact hs.of_eq (statelessAction_memory ..)
  · split
    · exact hs.of_eq (noteRefusedSetup_memory ..)
    · split
      next hp =>
        refine finishSetup_canonical (occStep_canonical ?_)
        rw [putEntry_memory]
        exact newClaim_canonical (placeSlot_canonical' hp hs)
      next v hp =>
        have hv : Canonical (startReloc b e v).2.memory := (placeSlot_canonical' hp hs).of_eq (startReloc_memory ..)
        split
        · exact hv
        · exact hv.of_eq (noteNoslot_memory ..)

theorem hostCreate_canonical {b : Nat} {e : MissEntry} {s : State} (hc : Canonical s.memory) : Canonical (hostCreate b e s).state.memory := by
  unfold hostCreate
  split
  · exact hc.of_eq (hostAnswered_memory ..)
  · split
    next c v hp =>
      dsimp only
      have hs := newClaim_canonical (b := b) (placeSlot_canonical' hp hc)
      split
      next hi =>
        rw [EntryStep.state_hold, hostWay_memory]
        refine install_canonical' hi (occStep_canonical ?_)
        rwa [putEntry_memory]
      next =>
        rw [EntryStep.state_wait, noteNoway_memory]
        refine occStep_canonical ?_
        rwa [putEntry_memory]
    next v hp =>
      have hv : Canonical (startReloc b e v).2.memory := (placeSlot_canonical' hp hc).of_eq (startReloc_memory ..)
      dsimp only
      split
      · exact hv
      · rw [hostAnswered_memory, noteNoslot_memory]
        exact hv

theorem hostOnRecord_canonical {b : Nat} {e : MissEntry} {slot : Nat} {r : Rec} {s : State} (hc : Canonical s.memory) :
    Canonical (hostOnRecord b e slot r s).state.memory := by
  unfold hostOnRecord
  dsimp only
  have hs : ∀ a, Canonical (hostAnswered b a s).state.memory := fun a => hc.of_eq (hostAnswered_memory ..)
  split
  · exact hs _
  · split
    · exact hs _
    · split
      · exact hs _
      · split
        · exact hs _
        · have hm := fun f => hc.of_eq (State.modLedger_memory s b f)
          split
          next h => exact hostOnTill_canonical (install_canonical' h (hm _))
          next => exact (hm _).of_eq (noteNoway_memory ..)

theorem hostOnVault_canonical {b : Nat} {e : MissEntry} {s : State} (hc : Canonical s.memory) : Canonical (hostOnVault b e s).state.memory := by
  unfold hostOnVault
  dsimp only
  repeat' split
  all_goals simp only [searchBoth_canonical, hostAnswered_memory, hostCreate_canonical, hostOnRecord_canonical, hc]

theorem mirrorOnVault_canonical {b : Nat} {e : MissEntry} {type side : Nat} {rc : Rec} {s : State} (hc : Canonical s.memory) :
    Canonical (mirrorOnVault b e type side rc s).state.memory := by
  unfold mirrorOnVault
  split
  next found poisoned t hx =>
  have ht : Canonical t.memory := searchBoth_canonical' hx hc
  split
  · split
    next h => exact mirrorOnTill_canonical (install_canonical' h ht)
    next => exact ht.of_eq (noteNoway_memory ..)
  · split
    · exact ht
    · split
      next c v hp =>
        have hs := newClaim_canonical (b := b) (placeSlot_canonical' hp ht)
        dsimp only
        split
        next hi =>
          rw [EntryStep.state_served, bump_memory]
          refine install_canonical' hi (occStep_canonical ?_)
          rwa [putEntry_memory]
        next =>
          rw [EntryStep.state_wait, noteNoway_memory]
          refine occStep_canonical ?_
          rwa [putEntry_memory]
      next v hp =>
        have hv : Canonical (startReloc b e v).2.memory := (placeSlot_canonical' hp ht).of_eq (startReloc_memory ..)
        dsimp only
        split
        · exact hv
        · rw [EntryStep.state_searched, bump_memory, noteNoslot_memory]
          exact hv

theorem packetOnTill_canonical {b k : Nat} {e : MissEntry} {d : Desc} {searched : Bool} {s : State} (hc : Canonical s.memory) :
    Canonical (packetOnTill b k e d searched s).state.memory := by
  unfold packetOnTill
  extract_lets act
  clear_value act
  cases act <;> dsimp only
  · split
    next h => exact decide_canonical' h hc
    next => exact hc.of_eq (holdEntry_memory ..)
    next h =>
      rw [searchAnew_memory]
      exact decide_canonicalN h hc
  · exact hc.of_eq (setupTurn_memory ..)

theorem serve_canonical {b : Nat} {e : MissEntry} {w : Waiter} {searched : Bool} {s : State} (hc : Canonical s.memory) :
    Canonical (serve b e w searched s).state.memory := by
  unfold serve
  have hanew : Canonical (searchAnew e s).state.memory := hc.of_eq (searchAnew_memory ..)
  split
  · exact hanew
  · split
    · split
      · rw [searchAnew_memory]
        exact leaveTill_canonical hc
      · cases w with
        | packet => exact packetOnTill_canonical hc
        | hostOp => exact hostOnTill_canonical hc
        | teller => exact openOnWay_canonical hc
        | mirror => exact mirrorOnTill_canonical hc
    · cases w with
      | packet =>
        dsimp only
        split
        · exact setupEntry_canonical hc
        · exact hanew
      | hostOp =>
        dsimp only
        split
        · exact hc
        · split
          · exact hostOnVault_canonical hc
          · exact hanew
      | teller =>
        dsimp only
        split
        · exact hc.of_eq (answerOpen_memory ..)
        · exact hanew
      | mirror =>
        dsimp only
        split
        · exact hc
        · split
          · exact mirrorOnVault_canonical hc
          · exact hanew

theorem serve_canonical' {b : Nat} {e : MissEntry} {w : Waiter} {searched : Bool} {s : State} {r' : EntryStep} (h' : serve b e w searched s = r')
    (hc : Canonical s.memory) :
    Canonical r'.state.memory := by
  have k' : Canonical (serve b e w searched s).state.memory := serve_canonical hc
  rw [h'] at k'
  exact k'

theorem runEntry_canonical {n b : Nat} {e : MissEntry} {searched : Bool} {s : State} (hc : Canonical s.memory) :
    Canonical (runEntry n b e searched s).memory := by
  induction n generalizing e searched s with
  | zero => exact hc.of_eq (putEntry_memory ..)
  | succ n ih =>
    rw [runEntry]
    split
    · exact hc.of_eq (dropEntry_memory ..)
    · split <;> rename_i h <;> have hs := serve_canonical' h hc <;> dsimp only [EntryStep.state] at hs
      · exact ih hs
      · exact ih hs
      · exact hs.of_eq (putEntry_memory ..)
      · exact hs.of_eq (putEntry_memory ..)
      · exact ih (canonical_foldl (fun _ _ h => h.of_eq (setupAct_memory ..)) _ hs)

theorem goOn_canonical {b : Nat} {e : MissEntry} {searched : Bool} {s : State} (hc : Canonical s.memory) :
    Canonical (goOn b e searched s).memory := by
  simp only [goOn, runEntry_canonical, hc]

theorem attach_canonical' {b : Nat} {hash : Word64} {key : Ckey} {w : Waiter} {s s' : State} (h : attach b hash key w s = some s')
    (hc : Canonical s.memory) :
    Canonical s'.memory := by
  unfold attach at h
  dsimp only at h
  split at h
  · cases h
  · split at h
    · cases h
      rw [noteQueue_memory, putEntry_memory]
      exact hc
    · split at h
      · cases h
      · cases h
        have hs := fun l e => (hc.of_eq (State.modLedger_memory s b l)).of_eq (putEntry_memory b e _)
        split
        · rw [noteQueue_memory]
          exact hs _ _
        · exact goOn_canonical ((hs _ _).of_eq (noteQueue_memory ..))

theorem joinMiss_canonical {b : Nat} {d : Desc} {s : State} (hc : Canonical s.memory) : Canonical (joinMiss b d s).memory := by
  unfold joinMiss
  split
  next h => exact (attach_canonical' h hc).of_eq (modFrame_memory ..)
  next => simp only [overflowAct_memory, cause_memory, bump_memory, hc]

theorem missPacket_canonical {b : Nat} {d : Desc} {s : State} (hc : Canonical s.memory) : Canonical (missPacket b d s).memory := by
  simp only [missPacket, bump64_memory, perf_memory, joinMiss_canonical, hc]

theorem chainRun_canonical {n b k : Nat} {s : State} (hc : Canonical s.memory) : Canonical (chainRun n b k s).memory := by
  induction n generalizing s with
  | zero => exact hc
  | succ n ih =>
    rw [chainRun]
    split
    · exact hc
    · split
      · exact hc
      · split
        · exact hc
        · have hs := fun w => hc.of_eq (setWay_memory b k w s)
          split
          next h => exact ih (decideFrom2_canonical' h (hs _))
          next => exact hc
          next h => exact canonical_foldl (fun _ _ h => joinMiss_canonical h) _ (decideFrom2_canonicalN h (hs _))

theorem openersRun_canonical {n b k : Nat} {s : State} (hc : Canonical s.memory) : Canonical (openersRun n b k s).memory := by
  induction n generalizing s with
  | zero => exact hc
  | succ n ih =>
    rw [openersRun]
    split
    · exact hc
    · split
      · exact hc
      · split
        · exact ih (openOnWay_canonical (hc.of_eq (setWay_memory ..)))
        · exact chainRun_canonical hc

theorem loseWay_canonical {b k : Nat} {s : State} (hc : Canonical s.memory) : Canonical (loseWay b k s).memory := by
  unfold loseWay
  split
  · exact hc
  · dsimp only
    refine canonical_foldl (fun _ _ h => missPacket_canonical h) _ ?_
    simp only [State.memory_foldl, State.modTeller_memory, implies_true]
    split
    · refine occStep_canonical (storeCell_canonical ?_)
      rw [dropWay_memory, countWrite_memory, State.modDisp_memory]
      exact hc
    · refine occStep_canonical ?_
      rw [dropWay_memory, State.modDisp_memory]
      exact hc

theorem loseWord_canonical {b k word : Nat} {s : State} (hc : Canonical s.memory) : Canonical (loseWord b k word s).memory := by
  unfold loseWord
  split <;> simp only [apply_ite State.memory, apply_ite Canonical, ite_self, setWay_memory, loseWay_canonical, hc]

theorem wayRead_canonical {b k : Nat} {flips : List WordFlips} {s : State} (hc : Canonical s.memory) : Canonical (wayRead b k flips s).memory := by
  unfold wayRead
  split
  · exact Page.readAll_canonical (fun h => h.of_eq (modWay_memory ..)) loseWord_canonical hc
  · exact hc

theorem releaseLock_canonical {b k : Nat} {s : State} (hc : Canonical s.memory) : Canonical (releaseLock b k s).memory := by
  unfold releaseLock
  dsimp only
  split <;> simp only [apply_ite State.memory, apply_ite Canonical, ite_self, unlockWay_memory, loseWay_canonical, releaseMirror_memory,
    openersRun_canonical, setWay_memory, hc]

theorem probeDesc_canonical {b : Nat} {d : Desc} {s : State} (hc : Canonical s.memory) : Canonical (probeDesc b d s).memory := by
  unfold probeDesc
  split
  · have hs := fun k => hc.of_eq (probeHit_memory b k s)
    split
    next h => exact decide_canonical' h (hs _)
    next =>
      rw [noteStall_memory, State.modLedger_memory]
      exact hc
    next h => exact joinMiss_canonical (decide_canonicalN h (hs _))
  · exact missPacket_canonical hc

theorem probeRead_canonical {b : Nat} {flips : List WordFlips} {s : State} (hc : Canonical s.memory) : Canonical (probeRead b flips s).memory := by
  unfold probeRead
  repeat' split
  all_goals simp only [wayRead_canonical, hc]

theorem tillProbe_canonical {b : Nat} {s : State} (hc : Canonical s.memory) : Canonical (tillProbe b s).memory := by
  unfold tillProbe
  dsimp only
  have hs := fun l => hc.of_eq (State.setLedger_memory s b l)
  split
  · split
    · exact (hs _).of_eq (addStateless_memory ..)
    · exact hc
  · split
    · split
      · have ht := fun k l => (hs l).of_eq (probeHit_memory b k _)
        split
        next h => exact decide_canonical' h (ht _ _)
        next => exact hc
        next h => exact joinMiss_canonical (decide_canonicalN h (ht _ _))
      · exact missPacket_canonical (hs _)
    · exact hc
  · split
    · split
      · refine probeDesc_canonical ?_
        rwa [perf_memory, State.modLedger_memory, State.modAssay_memory]
      · exact hc
    · exact hc

theorem fillFound_canonical {b : Nat} {e : MissEntry} {f : Fill} {s : State} (hc : Canonical s.memory) : Canonical (fillFound b e f s).memory := by
  unfold fillFound
  split
  · exact hc.of_eq (putEntry_memory ..)
  · split
    next h => exact goOn_canonical (install_canonical' h hc)
    next =>
      rw [putEntry_memory, noteNoway_memory]
      exact hc

theorem fillNone_canonical {b : Nat} {e : MissEntry} {s : State} (hc : Canonical s.memory) : Canonical (fillNone b e s).memory := by
  simp only [fillNone, goOn_canonical, hc]

theorem fillPoisoned_canonical {b : Nat} {e : MissEntry} {s : State} (hc : Canonical s.memory) : Canonical (fillPoisoned b e s).memory := by
  simp only [fillPoisoned, apply_ite State.memory, apply_ite Canonical, ite_self, putEntry_memory, fillNone_canonical, askPeer_memory, hc]

theorem searchEnded_canonical {b : Nat} {e : MissEntry} {s : State} (hc : Canonical s.memory) : Canonical (searchEnded b e s).memory := by
  simp only [searchEnded, apply_ite State.memory, apply_ite Canonical, ite_self, fillNone_canonical, fillPoisoned_canonical, hc]

theorem readDone_canonical {b : Nat} {e : MissEntry} {second : Bool} {slot : Nat} {f : Found} {s : State} (hc : Canonical s.memory) :
    Canonical (readDone b e second slot f s).memory := by
  unfold readDone
  dsimp only
  cases f with
  | live =>
    refine fillFound_canonical ?_
    rw [bump64_memory]
    exact hc
  | ended => exact searchEnded_canonical hc
  | _ =>
    dsimp only
    split
    · exact searchEnded_canonical hc
    · exact hc.of_eq (putEntry_memory ..)

theorem candidateRead_canonical {b id : Nat} {lost : Bool} {s : State} (hc : Canonical s.memory) : Canonical (candidateRead b id lost s).memory := by
  unfold candidateRead
  repeat' split
  all_goals simp only [putEntry_memory, goOn_canonical, readDone_canonical, lostRead_memory, testSlot_canonical, hc]

theorem candidateDone_canonical {b id : Nat} {s : State} (hc : Canonical s.memory) : Canonical (candidateDone b id s).memory := by
  unfold candidateDone
  split <;> simp only [apply_ite State.memory, apply_ite Canonical, ite_self, candidateRead_canonical, hc]

theorem retryFill_canonical {b : Nat} {e : MissEntry} {f : Fill} {s : State} (hc : Canonical s.memory) : Canonical (retryFill b e f s).memory := by
  unfold retryFill
  split
  · split
    next h => exact goOn_canonical (finishSetup_canonical' h hc)
    next h =>
      rw [putEntry_memory]
      exact finishSetup_canonical' h hc
    next => exact hc
  · split
    next h =>
      rw [putEntry_memory, hostWay_memory]
      exact install_canonical' h hc
    next => exact hc
  · split
    next h => exact goOn_canonical ((install_canonical' h hc).of_eq (bump_memory ..))
    next => exact hc
  · split
    next h => exact goOn_canonical (install_canonical' h hc)
    next => exact hc

theorem fillRetry_canonical {b id : Nat} {s : State} (hc : Canonical s.memory) : Canonical (fillRetry b id s).memory := by
  unfold fillRetry
  repeat' split
  all_goals simp only [putEntry_memory, goOn_canonical, retryFill_canonical, hc]

theorem relocEnded_canonical {b id : Nat} {freed : Option Nat} {s : State} (hc : Canonical s.memory) :
    Canonical (relocEnded b id freed s).memory := by
  unfold relocEnded
  repeat' split
  all_goals simp only [State.memory_foldl, implies_true, State.modLedger_memory, bump_memory, setupAct_memory, hostDone_memory, putEntry_memory,
    noteNoslot_memory, goOn_canonical, hc]

theorem peerAnswer_canonical {b id : Nat} {r : Option Rec} {s : State} (hc : Canonical s.memory) : Canonical (peerAnswer b id r s).memory := by
  unfold peerAnswer
  repeat' split
  all_goals simp only [bump_memory, writeRecord_canonical, fillFound_canonical, fillNone_canonical, hc]

theorem abandonSetup_canonical {b : Nat} {e : MissEntry} {s : State} (hc : Canonical s.memory) : Canonical (abandonSetup b e s).memory := by
  simp only [abandonSetup, apply_ite State.memory, apply_ite Canonical, ite_self, State.modLedger_memory, dropEntry_memory, goOn_canonical, hc]

theorem afterLeave_canonical {b : Nat} {e : MissEntry} {s : State} (hc : Canonical s.memory) : Canonical (afterLeave b e s).memory := by
  unfold afterLeave
  repeat' split
  all_goals simp only [implies_true, putEntry_memory, abandonSetup_canonical, occStep_memory, dropEntry_memory, hc]

theorem missTimeout_canonical {b id frame : Nat} {s : State} (hc : Canonical s.memory) : Canonical (missTimeout b id frame s).memory := by
  unfold missTimeout
  repeat' split
  all_goals simp only [bump_memory, cause_memory, perf_memory, overflowAct_memory, afterLeave_canonical, hc]

theorem readSlot_canonical {b : Nat} {s : State} (hc : Canonical s.memory) : Canonical (readSlot b s).memory := by
  unfold readSlot
  dsimp only
  repeat' split
  all_goals simp only [readRecord_canonical, hostDone_memory, hc]

theorem hostBegin_canonical {b : Nat} {s : State} (hc : Canonical s.memory) : Canonical (hostBegin b s).memory := by
  unfold hostBegin
  dsimp only
  have hdone := fun a => hc.of_eq (hostDone_memory b a s)
  split
  · exact hdone _
  · split
    · exact readSlot_canonical hc
    · split
      · exact hdone _
      · split
        · exact hc.of_eq (State.modLedger_memory ..)
        · have hm : Canonical (s.modLedger b fun l => { l with hreq := { l.hreq with held := false } }).memory := hc.of_eq (State.modLedger_memory ..)
          generalize (s.modLedger b fun l => { l with hreq := { l.hreq with held := false } }) = t at hm ⊢
          split
          · exact hostOnTill_canonical hm
          · refine canonical_getD (fun u h => attach_canonical' h ?_) (hm.of_eq (hostDone_memory ..))
            split
            · exact leaveTill_canonical hm
            · exact hm

theorem hostRelease_canonical {b : Nat} {s : State} (hc : Canonical s.memory) : Canonical (hostRelease b s).memory := by
  simp only [hostRelease, apply_ite State.memory, apply_ite Canonical, ite_self, hostBegin_canonical, hc]

theorem hostCommand_canonical {b op wmask : Nat} {s : State} (hc : Canonical s.memory) : Canonical (hostCommand b op wmask s).memory := by
  simp only [hostCommand, apply_ite State.memory, apply_ite Canonical, ite_self, State.modLedger_memory, setField_memory, hostBegin_canonical, hc]

theorem hreqDone_canonical {b : Nat} {s : State} (hc : Canonical s.memory) : Canonical (hreqDone b s).memory := by
  unfold hreqDone
  dsimp only
  repeat' split
  all_goals simp only [State.modLedger_memory, regStore_memory, setField_memory, setPair_memory, cause_memory, stamp_memory, goOn_canonical,
    fillHrec_memory, hc]

theorem hostResume_canonical {b k : Nat} {s : State} (hc : Canonical s.memory) : Canonical (hostResume b k s).memory := by
  simp only [hostResume, apply_ite State.memory, apply_ite Canonical, ite_self, hostOnTill_canonical, hc]

/-! ### Nose -/

theorem leaveRequest_canonical {b : Nat} {q : ScanReq} {status : Nat} {a : ScanAcc} {s : State} (hc : Canonical s.memory) :
    Canonical (leaveRequest b q status a s).memory := by
  unfold leaveRequest
  dsimp only
  split <;> simp only [apply_ite State.memory, apply_ite Canonical, ite_self, bump_memory, bump64_memory, perfN_memory, perf_memory, release_memory,
    modWay_memory, hostResume_canonical, settleGaps_memory, giveResult_memory, report_memory, noteBacklog_memory, hc]

theorem endRun_canonical {b : Nat} {r : NoseRun} {status : Nat} {a : ScanAcc} {done gap : Bool} {s : State} (hc : Canonical s.memory) :
    Canonical (endRun b r status a done gap s).memory := by
  unfold endRun
  split <;> simp only [State.modNose_memory, putW14_memory, leaveRequest_canonical, hc]

theorem endFault_canonical {b : Nat} {r : NoseRun} {a : ScanAcc} {s : State} (hc : Canonical s.memory) : Canonical (endFault b r a s).memory := by
  simp only [endFault, bump_memory, cause_memory, emit_memory, endRun_canonical, hc]

theorem noseDone_canonical {b : Nat} {mem : EccResult} {at_ : Nat} {s : State} (hc : Canonical s.memory) :
    Canonical (noseDone b mem at_ s).memory := by
  unfold noseDone
  split <;> simp only [apply_ite State.memory, apply_ite Canonical, ite_self, State.modNose_memory, leaveRequest_canonical, endRun_canonical,
    endFault_canonical, noseMemory_memory, hc]

theorem stopRun_canonical {b : Nat} {r : NoseRun} {s : State} (hc : Canonical s.memory) : Canonical (stopRun b r s).memory := by
  simp only [stopRun, apply_ite State.memory, apply_ite Canonical, ite_self, bump_memory, endRun_canonical, endFault_canonical, hc]

theorem noseStop_canonical {b : Nat} {s : State} (hc : Canonical s.memory) : Canonical (noseStop b s).memory := by
  unfold noseStop
  dsimp only
  refine canonical_foldl (fun t r h => leaveRequest_canonical ?_) _ ?_
  · rw [bump_memory]
    split
    · exact h.of_eq (setGap_memory ..)
    · exact h
  · rw [State.modNose_memory]
    split
    · exact stopRun_canonical hc
    · exact hc

theorem noseOff_canonical {b : Nat} {s : State} (hc : Canonical s.memory) : Canonical (noseOff b s).memory := by
  unfold noseOff
  refine canonical_foldl (fun t q h => leaveRequest_canonical ?_) _ (hc.of_eq (State.modNose_memory ..))
  split
  · exact h.of_eq (setGap_memory ..)
  · exact h

/-! ### Auditor -/

theorem auditReleased_canonical {s : State} (hc : Canonical s.memory) : Canonical (auditReleased s).memory := by
  unfold auditReleased
  refine canonical_foldl (fun t slot h => ?_) _ hc
  have hr : Canonical (readRecord (ftRecord t.vault slot) (slot / quarter t.vault) .granted t).2.memory := readRecord_canonical h
  dsimp only
  split
  · exact hr.of_eq (auditSlot_memory ..)
  · exact hr

theorem auditAnswer_canonical {slot : Nat} {r : Option Rec} {status : Nat} {s : State} (hc : Canonical s.memory) :
    Canonical (auditAnswer slot r status s).memory := by
  unfold auditAnswer
  split <;> simp only [apply_ite State.memory, apply_ite Canonical, ite_self, bump_memory, writeRecord_canonical, notePeerRepair_memory,
    peerFail_memory, hc]

theorem auditLasting_canonical {a words : Nat} {s : State} (hc : Canonical s.memory) : Canonical (auditLasting a words s).memory := by
  unfold auditLasting
  dsimp only
  split <;> simp only [State.memory_mk, State.memory_fold, apply_ite State.memory, ite_self, cause_memory, vaultLasting_canonical,
    notePoisoned_memory, auditSlot_memory, hc]

theorem idleLasting_canonical {rank u words : Nat} {s : State} (hc : Canonical s.memory) : Canonical (idleLasting rank u words s).memory := by
  unfold idleLasting
  have hset := fun cell => canonical_setCell hc rank u cell
  simp only [noteLasting_memory, apply_ite State.memory, chanWrite_memory, ite_self, State.memory_mk, hset]

theorem auditRecord_canonical {rank u : Nat} {found : AuditFound} {s : State} (hc : Canonical s.memory) :
    Canonical (auditRecord rank u found s).memory := by
  unfold auditRecord
  dsimp only
  repeat' split
  all_goals simp only [State.memory_foldl, implies_true, bump_memory, chanRead_memory, noteTransient_memory, countFix_memory, settleMerge_canonical,
    auditLasting_canonical, idleLasting_canonical, scrubRecord_memory, hc]

theorem visitVault_canonical {c : Nat} {found : AuditFound} {s : State} (hc : Canonical s.memory) : Canonical (visitVault c found s).memory := by
  unfold visitVault
  split <;> simp only [apply_ite State.memory, apply_ite Canonical, ite_self, lapBegin_memory, recordVisited_memory, auditRecord_canonical, hc]

theorem visitPage_canonical {m : Nat} {flips : List WordFlips} {s : State} (hc : Canonical s.memory) : Canonical (visitPage m flips s).memory := by
  unfold visitPage
  have hs := hc.of_eq (lapBegin_memory m s)
  dsimp only
  rw [pageVisited_memory]
  split
  · exact Page.readAll_canonical setCofferWord_canonical cofferStore_canonical hs
  · exact Page.readAll_canonical (fun h => h.of_eq (modWay_memory ..)) loseWord_canonical hs

theorem auditVisit_canonical {m c : Nat} {found : AuditFound} {flips : List WordFlips} {s : State} (hc : Canonical s.memory) :
    Canonical (auditVisit m c found flips s).memory := by
  simp only [auditVisit, apply_ite State.memory, apply_ite Canonical, ite_self, visitVault_canonical, visitPage_canonical, hc]

end Sys2Proof.Machine
end


section
/-!
PROOFS. The operations that store into the Vault or the Coffer: Tellers, Tether, upkeep, power, loads and registers (O10).
-/
namespace Sys2Proof.Machine

/-! ### Record window -/

theorem windowState_canonical {b k new : Nat} {s : State} (hc : Canonical s.memory) : Canonical (windowState b k new s).memory := by
  unfold windowState
  split <;> simp only [apply_ite State.memory, apply_ite Canonical, ite_self, setWay_memory, closeWay_canonical, hc]

theorem releaseWindow_canonical {b t : Nat} {noAff : Bool} {s : State} (hc : Canonical s.memory) : Canonical (releaseWindow b t noAff s).memory := by
  unfold releaseWindow
  dsimp only
  split <;> simp only [apply_ite State.memory, ite_self, State.setTeller_memory, modWay_memory, releaseLock_canonical, modItem_memory, hc]

theorem openTry_canonical {b t : Nat} {key : Ckey} {s : State} (hc : Canonical s.memory) : Canonical (openTry b t key s).memory := by
  unfold openTry
  dsimp only
  split
  · exact openOnWay_canonical (hc.of_eq (State.modTeller_memory ..))
  · split
    next h => exact (attach_canonical' h hc).of_eq (State.modTeller_memory ..)
    next => exact hc

theorem openStep_canonical {b t : Nat} {key : Ckey} {s : State} (hc : Canonical s.memory) : Canonical (openStep b t key s).memory := by
  simp only [openStep, apply_ite State.memory, apply_ite Canonical, ite_self, openTry_canonical, hc]

theorem fopEffect_canonical {b t : Nat} {x : Teller} {w : MicroWord} {s : State} (hc : Canonical s.memory) :
    Canonical (fopEffect b t x w s).memory := by
  unfold fopEffect
  split <;> simp only [apply_ite State.memory, apply_ite Canonical, ite_self, writeBack_canonical, windowStore_memory, windowState_canonical,
    releaseWindow_canonical, openEnd_memory, hc]

/-! ### Memory operations of the Tellers -/

theorem guardOp_canonical {b t slot entry : Nat} {s : State} (hc : Canonical s.memory) : Canonical (guardOp b t slot entry s).2.2.memory := by
  unfold guardOp
  dsimp only
  repeat' split
  all_goals simp only [State.modLedger_memory, readRecord_canonical, setMoveEntry_memory, hc]

theorem ftwrOp_canonical {b t slot entry : Nat} {s : State} (hc : Canonical s.memory) : Canonical (ftwrOp b t slot entry s).memory := by
  simp only [ftwrOp, apply_ite State.memory, ite_self, bump_memory, writeRecord_canonical, hc]

theorem dropGuards_canonical {b t : Nat} {s : State} (hc : Canonical s.memory) : Canonical (dropGuards b t s).memory := by
  simp only [dropGuards, State.modLedger_memory, auditReleased_canonical, hc]

theorem unguardOp_canonical {b t : Nat} {s : State} (hc : Canonical s.memory) : Canonical (unguardOp b t s).memory := by
  unfold unguardOp
  repeat' split
  all_goals simp only [relocEnded_canonical, dropGuards_canonical, hc]

theorem sweepOp_canonical {b slot : Nat} {s : State} (hc : Canonical s.memory) : Canonical (sweepOp b slot s).2.memory := by
  unfold sweepOp
  dsimp only
  repeat' split
  all_goals simp only [writeRecord_canonical, readRecord_canonical, mirrorSend_memory, modWay_memory, closeWay_canonical, noteState_memory,
    closeSlot_canonical, hc]

theorem vaultReply_canonical {b t : Nat} {m : MemOp} {s : State} (hc : Canonical s.memory) : Canonical (vaultReply b t m s).memory := by
  unfold vaultReply
  dsimp only
  repeat' split
  all_goals simp only [partialWrite_canonical, readRecord_canonical, modMem_memory, dropMem_memory, finishOp_memory, hc]

theorem slotReply_canonical {b t : Nat} {m : MemOp} {s : State} (hc : Canonical s.memory) : Canonical (slotReply b t m s).memory := by
  unfold slotReply
  dsimp only
  repeat' split
  all_goals simp only [dropMem_memory, guardOp_canonical, ftwrOp_canonical, unguardOp_canonical, sweepOp_canonical, finishOp_memory, hc]

theorem memReply_canonical {t id : Nat} {s : State} (hc : Canonical s.memory) : Canonical (memReply t id s).memory := by
  unfold memReply
  repeat' split
  all_goals simp only [finishOp_memory, vaultReply_canonical, cofferReply_memory, slotReply_canonical, hc]

/-! ### End of an item -/

theorem endKind_canonical {b t : Nat} {i : Item} {s : State} (hc : Canonical s.memory) : Canonical (endKind b t i s).memory := by
  unfold endKind
  split <;> simp only [State.modLedger_memory, bump_memory, cause_memory, stamp_memory, relocEnded_canonical, hc]

theorem endItem_canonical {b t : Nat} {s : State} (hc : Canonical s.memory) : Canonical (endItem b t s).memory := by
  unfold endItem
  extract_lets x c d item s1 s2 s3 s4 s5 s6 s7 s8
  have h3 : Canonical s3.memory := releaseWindow_canonical (by rwa [State.modDisp_memory, packetEnd_memory])
  have h4 : Canonical s4.memory := by
    simp only [s4]
    clear_value item
    cases item
    · exact h3
    · rw [wakeFlow_memory]
      exact endKind_canonical h3
  have h5 : Canonical s5.memory := by
    have hl : Canonical (dropRequest b t (learn b t c s4)).memory := by rwa [dropRequest_memory, learn_memory]
    simp only [s5, perf_memory, bump64_memory]
    split
    · exact dropGuards_canonical hl
    · exact hl
  have h6 : s6.memory = s5.memory := by
    simp only [s6, apply_ite State.memory, perf_memory, ite_self]
  have h8 : s8.memory = s6.memory := by
    simp only [s8, s7]
    split
    · simp only [modItem_memory, State.modTeller_memory]
    · simp only [State.modTeller_memory]
  rw [noteDrained_memory, h8, h6]
  exact h5

/-! ### Tellers -/

theorem seqEffect_canonical {b t : Nat} {x : Teller} {w : MicroWord} {cond : Bool} {s : State} (hc : Canonical s.memory) :
    Canonical (seqEffect b t x w cond s).memory := by
  unfold seqEffect
  split <;> simp only [apply_ite State.memory, ite_self, State.modTeller_memory, resume_memory, endItem_canonical, haltTeller_memory, hc]

theorem execWord_canonical {b t : Nat} {w : MicroWord} {s0 : State} (hc : Canonical s0.memory) : Canonical (execWord b t w s0).memory := by
  unfold execWord
  dsimp only
  split <;> simp only [apply_ite State.memory, apply_ite Prod.snd, ite_self, fopEffect_canonical, mopEffect_memory, yieldTo_memory, qopEffect_memory,
    copEffect_memory, xopEffect_memory, commit_memory, seqEffect_canonical, hc]

theorem runWord_canonical {b t : Nat} {w : MicroWord} {s : State} (hc : Canonical s.memory) : Canonical (runWord b t w s).memory := by
  unfold runWord
  dsimp only
  split
  · rw [waitWord_memory]
    split
    · exact hc
    · exact hc.of_eq (recircAwait_memory ..)
  · have hs : Canonical (if mwFop w = 8 then openStep b t (keyOperand (s.tellerAt t) w) s else s).memory := by
      split
      · exact openStep_canonical hc
      · exact hc
    generalize (if mwFop w = 8 then openStep b t (keyOperand (s.tellerAt t) w) s else s) = u at hs ⊢
    split
    · exact hs.of_eq (waitWord_memory ..)
    · split
      · split
        · split
          next => exact hs.of_eq (waitWord_memory ..)
          next h => exact execWord_canonical (hs.of_eq (issueScan_memory' h))
        · exact hs
      · exact execWord_canonical hs

theorem wordStep_canonical {t : Nat} {e : EccResult} {s : State} (hc : Canonical s.memory) : Canonical (wordStep t e s).memory := by
  unfold wordStep
  dsimp only
  repeat' split
  all_goals simp only [State.setTeller_memory, State.setDesk_memory, State.modTeller_memory, noteNoTeller_memory, csEvent_memory, waitWord_memory,
    raise_memory, runWord_canonical, hc]

/-! ### Microwords -/

theorem wordRow_canonical {holds : MicroWord → Bool} {t : Nat} {e : EccResult} {s : State} (hc : Canonical s.memory) :
    Canonical (wordRow holds t e s).memory := by
  simp only [wordRow, apply_ite State.memory, apply_ite Canonical, ite_self, wordStep_canonical, hc]

/-! ### Flow records sent -/

theorem readWords_canonical {n i : Nat} {s : State} (hc : Canonical s.memory) : Canonical (readWords n i s).2.memory := by
  induction n generalizing i s with
  | zero => exact hc
  | succ n ih =>
    rw [readWords]
    dsimp only
    have hs : Canonical (cofferRoundOn (i % 262144) [] true id s).2.memory := cofferRoundOn_canonical hc
    refine ih ?_
    split
    · exact hs
    · exact hs.of_eq (takeFree_memory _)

theorem takeRaw_canonical {b : Nat} {n : Snapshot} {s : State} (hc : Canonical s.memory) : Canonical (takeRaw b n s).memory := by
  simp only [takeRaw, apply_ite State.memory, apply_ite Canonical, ite_self, bump_memory, makeRoom_memory, placeRec_memory, readWords_canonical,
    dropSnapshot_memory, hc]

theorem takeIpfix_canonical {b : Nat} {n : Snapshot} {s : State} (hc : Canonical s.memory) : Canonical (takeIpfix b n s).memory := by
  unfold takeIpfix
  dsimp only
  split <;> simp only [apply_ite State.memory, apply_ite Canonical, ite_self, bump_memory, dropSnapshot_memory, addRecord_memory,
    readWords_canonical, sendMessage_memory, hc]

theorem exportTake_canonical {b : Nat} {s : State} (hc : Canonical s.memory) : Canonical (exportTake b s).memory := by
  unfold exportTake
  split <;> simp only [apply_ite State.memory, apply_ite Canonical, ite_self, takeRaw_canonical, takeIpfix_canonical, hc]

/-! ### Tether -/

theorem recoverFail_canonical {outcome : Nat} {r : Recovery} {s : State} (hc : Canonical s.memory) : Canonical (recoverFail outcome r s).memory := by
  unfold recoverFail
  split <;> simp only [bump_memory, peerAnswer_canonical, auditAnswer_canonical, hc]

theorem failRecoveries_canonical {p : Recovery → Bool} {outcome : Nat} {s : State} (hc : Canonical s.memory) :
    Canonical (failRecoveries p outcome s).memory := by
  exact canonical_foldl (fun _ _ h => recoverFail_canonical h) _ hc

theorem setPairState_canonical {p : PairState} {s : State} (hc : Canonical s.memory) : Canonical (setPairState p s).memory := by
  unfold setPairState
  split <;> simp only [State.memory_mk, State.memory_fold, apply_ite State.memory, apply_ite Canonical, ite_self, bump_memory, cause_memory,
    emit_memory, perf_memory, resumeQueues_memory, failRecoveries_canonical, unpair_memory, noteLost_memory, hc]

theorem heartbeatRx_canonical {msg : Bytes} {s : State} (hc : Canonical s.memory) : Canonical (heartbeatRx msg s).memory := by
  unfold heartbeatRx
  dsimp only
  repeat' split
  all_goals simp only [State.memory_mk, State.memory_fold, setPair_memory, setPairState_canonical, hc]

theorem peerLost_canonical {s : State} (hc : Canonical s.memory) : Canonical (peerLost s).memory := by
  simp only [peerLost, apply_ite State.memory, apply_ite Canonical, ite_self, setPairState_canonical, hc]

theorem mirrorApply_canonical {msg : Bytes} {s : State} (hc : Canonical s.memory) : Canonical (mirrorApply msg s).memory := by
  unfold mirrorApply
  dsimp only
  split
  · exact hc
  · split
    · exact mirrorOnTill_canonical hc
    · exact canonical_getD (fun _ h => attach_canonical' h hc) hc

theorem recoverLook_canonical {msg : Bytes} {s : State} (hc : Canonical s.memory) : Canonical (recoverLook msg s).2.memory := by
  unfold recoverLook
  dsimp only
  repeat' split
  all_goals simp only [readRecord_canonical, closeWay_canonical, noteState_memory, searchBoth_canonical, hc]

theorem recoverRequest_canonical {msg : Bytes} {s : State} (hc : Canonical s.memory) : Canonical (recoverRequest msg s).memory := by
  simp only [recoverRequest, State.memory_mk, State.memory_fold, apply_ite State.memory, apply_ite Canonical, ite_self, recoverLook_canonical, hc]

theorem recoverResponse_canonical {msg : Bytes} {s : State} (hc : Canonical s.memory) : Canonical (recoverResponse msg s).memory := by
  unfold recoverResponse
  repeat' split
  all_goals simp only [State.memory_mk, State.memory_fold, peerAnswer_canonical, auditAnswer_canonical, recoverFail_canonical, hc]

theorem recoverTimeout_canonical {s : State} (hc : Canonical s.memory) : Canonical (recoverTimeout s).memory := by
  simp only [recoverTimeout, failRecoveries_canonical, hc]

theorem tethOff_canonical {s : State} (hc : Canonical s.memory) : Canonical (tethOff s).memory := by
  simp only [tethOff, State.memory_mk, State.memory_fold, apply_ite State.memory, ite_self, cause_memory, setPairState_canonical, hc]

/-! ### Vault upkeep -/

theorem srBegin_canonical {why : SrCause} {c : Nat} {s : State} (hc : Canonical s.memory) : Canonical (srBegin why c s).memory := by
  unfold srBegin
  split
  · exact hc
  · exact (canonical_foldl (fun _ _ h => closeMerge_canonical h) _ hc).of_eq (State.modChan_memory ..)

theorem srBeginAll_canonical {s : State} (hc : Canonical s.memory) : Canonical (srBeginAll s).memory := by
  unfold srBeginAll
  split
  · exact canonical_foldl (fun _ _ h => srBegin_canonical h) _ hc
  · exact hc

theorem srRetry_canonical {c : Nat} {s : State} (hc : Canonical s.memory) : Canonical (srRetry c s).memory := by
  unfold srRetry
  split <;> simp only [apply_ite State.memory, apply_ite Canonical, ite_self, srBegin_canonical, hc]

theorem failedWrite_canonical {rank a : Nat} {s : State} (hc : Canonical s.memory) : Canonical (failedWrite rank a s).memory := by
  unfold failedWrite
  extract_lets c u full fail
  have hfail : ∀ t, Canonical t.memory → Canonical (fail t).memory := fun t h => by
    have hset := canonical_setCell (s := (freeRecord 16 Rec.empty t).2) (h.of_eq (freeRecord_memory ..)) rank u
      (.data (freeRecord 16 Rec.empty t).1)
    simp only [fail, apply_ite State.memory, State.modChan_memory, State.memory_mk, ite_self]
    exact hset
  clear_value fail
  split
  · exact hc
  · have hs : Canonical (match slotOf s.vault a with | some slot => occStep slot fail s | none => fail s).memory := by
      split
      · exact occStep_canonical (hfail _ hc)
      · exact hfail _ hc
    split
    · rw [noteCaParity_memory, cause_memory]
      exact hs
    · exact hs

theorem failedRead_canonical {a : Nat} {s : State} (hc : Canonical s.memory) : Canonical (failedRead a s).memory := by
  unfold failedRead
  dsimp only
  have hs : ∀ l : Tbl Teller, Canonical (l.foldl (fun s (t,
    x) => (x.mem.filter (readsRecord s.vault a)).foldl (fun s m => failedOp t m s) s) s).memory :=
    fun l => canonical_foldl (fun _ _ h => canonical_foldl (fun _ _ h => h.of_eq (failedOp_memory ..)) _ h) _ hc
  split
  · refine canonical_foldl (fun _ e h => ?_) _ (hs _)
    split
    next second _ =>
      split
      all_goals
        split
        · exact candidateRead_canonical h
        · exact h
    next => exact h
  · exact hs _

theorem caParity_canonical {c rank : Nat} {ok : Bool} {reads writes : List Nat} {s : State} (hc : Canonical s.memory) :
    Canonical (caParity c rank ok reads writes s).memory := by
  unfold caParity
  split
  · exact hc
  · split
    · exact hc.of_eq (bump_memory ..)
    · dsimp only
      rw [rankLasting_memory]
      refine canonical_foldl (fun _ _ h => failedRead_canonical h) _ ?_
      refine canonical_foldl (fun _ _ h => canonical_foldl (fun _ _ h => failedWrite_canonical h) _ h) _ ?_
      rw [noteCaParity_memory, cause_memory, bump_memory]
      exact hc

theorem migrationRead_canonical {found : AuditFound} {s : State} (hc : Canonical s.memory) : Canonical (migrationRead found s).2.memory := by
  unfold migrationRead
  dsimp only
  have hs : Canonical (chanRead s.vault.spareSrc s.vault.cursor .granted (settleMerge (srcRecord s s.vault.cursor) s)).memory :=
    (settleMerge_canonical hc).of_eq (chanRead_memory ..)
  split
  · exact hs.of_eq (bump_memory ..)
  · split
    · exact hs
    · exact canonical_foldl (fun _ _ h => h.of_eq (countFix_memory ..)) _ hs
    · exact hs.of_eq (noteTransient_memory ..)
    · rw [noteLasting_memory]
      exact canonical_setCell hs ..

theorem migrateRecord_canonical {found : AuditFound} {s : State} (hc : Canonical s.memory) : Canonical (migrateRecord found s).memory := by
  unfold migrateRecord
  extract_lets u src dst
  split
  next cell t hread =>
    extract_lets v
    have hv : Canonical v.memory := by
      simp only [v, State.modChan_memory, chanWrite_memory]
      have hs : Canonical (migrationRead found s).2.memory := migrationRead_canonical hc
      rwa [hread] at hs
    clear_value v
    exact canonical_setCell hv dst u cell

theorem migrationCopy_canonical {found : AuditFound} {s : State} (hc : Canonical s.memory) : Canonical (migrationCopy found s).memory := by
  simp only [migrationCopy, apply_ite State.memory, apply_ite Canonical, ite_self, spareSwitch_memory, migrateRecord_canonical, hc]

theorem windowPiece_canonical {a r : Nat} {s : State} (hc : Canonical s.memory) : Canonical (windowPiece a r s).2.2.memory := by
  unfold windowPiece
  dsimp only
  split <;> simp only [emit_memory, cause_memory, setPair_memory, bump_memory, freeRecord_memory, readRecord_canonical, notePiece_memory, hc]

theorem windowRead_canonical {a len : Nat} {s : State} (hc : Canonical s.memory) : Canonical (windowRead a len s).memory := by
  unfold windowRead
  split
  next b ep t hfold =>
    have ht : Canonical (b, ep, t).2.2.memory := by
      rw [← hfold]
      refine canonical_foldl3 (fun x r h => ?_) _ hc
      obtain ⟨b0, ep0, u⟩ := x
      have hp : Canonical (windowPiece a r u).2.2.memory := windowPiece_canonical h
      dsimp only
      generalize windowPiece a r u = p at hp ⊢
      exact hp
    have hdone : Canonical (complete (slice b (a % 128) len) t).memory := by
      rw [complete_memory]
      exact ht
    generalize complete (slice b (a % 128) len) t = u at hdone ⊢
    dsimp only
    split
    · exact hdone
    · exact hdone

theorem hostPiece_canonical {a : Nat} {data : Bytes} {be : List Bool} {r : Nat} {s : State} (hc : Canonical s.memory) :
    Canonical (hostPiece a data be r s).memory := by
  simp only [hostPiece, apply_ite State.memory, apply_ite Canonical, ite_self, countWrite_memory, storeRecord_canonical, partialWrite_canonical,
    notePiece_memory, hc]

theorem windowWrite_canonical {a : Nat} {data : Bytes} {be : List Bool} {s : State} (hc : Canonical s.memory) :
    Canonical (windowWrite a data be s).memory := by
  unfold windowWrite
  dsimp only
  rw [complete_memory]
  refine canonical_foldl (fun _ _ h => hostPiece_canonical h) _ ?_
  simp only [apply_ite State.memory, emit_memory, cause_memory, bump_memory, ite_self, hc]

theorem windowAct_canonical {q : WinReq} {s : State} (hc : Canonical s.memory) : Canonical (windowAct q s).memory := by
  unfold windowAct
  split <;> simp only [windowRead_canonical, windowWrite_canonical, hc]

theorem windowAccess_canonical {off : Nat} {q : WinReq} {s : State} (hc : Canonical s.memory) : Canonical (windowAccess off q s).memory := by
  simp only [windowAccess, apply_ite State.memory, apply_ite Canonical, ite_self, unsupported_memory, windowAct_canonical, windowHold_memory, hc]

theorem windowTick_canonical {s : State} (hc : Canonical s.memory) : Canonical (windowTick s).memory := by
  unfold windowTick
  split <;> simp only [State.memory_mk, State.memory_fold, apply_ite State.memory, apply_ite Canonical, ite_self, unsupported_memory,
    windowAct_canonical, hc]

/-! ### Treasury -/

theorem domainUp_canonical {d : Nat} {kept : Bool} {s : State} (hc : Canonical s.memory) : Canonical (domainUp d kept s).memory := by
  simp only [domainUp, apply_ite State.memory, apply_ite Canonical, ite_self, State.modLedger_memory, cofferClear_canonical, hostRelease_canonical,
    octetStart_memory, tethBringUp_memory, setDomain_memory, nosePowerUp_memory, hc]

theorem domainDown_canonical {d : Nat} {x : DomState} {s : State} (hc : Canonical s.memory) : Canonical (domainDown d x s).memory := by
  simp only [domainDown, apply_ite State.memory, apply_ite Canonical, ite_self, State.modLedger_memory, writeBackAll_canonical,
    returnAllowance_memory, cofferClear_canonical, octetStop_memory, tethOff_canonical, paceOff_memory, noseOff_canonical, setDomain_memory, hc]

theorem rampEnd_canonical {d : Nat} {kept : Bool} {s : State} (hc : Canonical s.memory) : Canonical (rampEnd d kept s).memory := by
  simp only [rampEnd, State.memory_mk, State.memory_fold, apply_ite State.memory, ite_self, State.setUser_memory, noteAllowance_memory,
    domainUp_canonical, quietLeft_memory, hc]

theorem rampDone_canonical {d : Nat} {s : State} (hc : Canonical s.memory) : Canonical (rampDone d s).memory := by
  unfold rampDone
  split <;> simp only [apply_ite State.memory, apply_ite Canonical, ite_self, rampEnd_canonical, hc]

theorem powerDown_canonical {d : Nat} {s : State} (hc : Canonical s.memory) : Canonical (powerDown d s).memory := by
  unfold powerDown
  split <;> simp only [State.memory_mk, State.memory_fold, domainDown_canonical, hc]

theorem quietSteps_canonical {s : State} (hc : Canonical s.memory) : Canonical (quietSteps s).memory := by
  unfold quietSteps
  dsimp only
  rw [setVout_memory]
  refine srBeginAll_canonical ?_
  rw [setPstate_memory]
  exact canonical_foldl (fun _ _ h => domainDown_canonical h) _ (canonical_foldl (fun _ _ h => domainDown_canonical h) _ hc)

theorem quietComplete_canonical {s : State} (hc : Canonical s.memory) : Canonical (quietComplete s).memory := by
  unfold quietComplete
  split <;> simp only [apply_ite State.memory, apply_ite Canonical, ite_self, quietSteps_canonical, hc]

theorem brownWarn_canonical {s : State} (hc : Canonical s.memory) : Canonical (brownWarn s).memory := by
  unfold brownWarn
  dsimp only
  have hs : Canonical (cause Reg.TREAS_IRQ_CAUSE 2 (setBrown .hold s)).memory := by rwa [cause_memory, setBrown_memory]
  split
  · exact hc
  · split
    · exact hs
    · exact brownoutFlush_canonical (canonical_foldl (fun _ _ h => noseStop_canonical h) _ (hs.of_eq (revokeAll_memory ..)))

theorem pwrwarn_canonical {s : State} (hc : Canonical s.memory) : Canonical (pwrwarn s).memory := by
  simp only [pwrwarn, State.memory_mk, State.memory_fold, brownWarn_canonical, hc]

theorem warnStands_canonical {s : State} (hc : Canonical s.memory) : Canonical (warnStands s).memory := by
  simp only [warnStands, apply_ite State.memory, apply_ite Canonical, ite_self, pwrwarn_canonical, hc]

theorem vddWarn_canonical {mv : Nat} {s : State} (hc : Canonical s.memory) : Canonical (vddWarn mv s).memory := by
  simp only [vddWarn, State.memory_mk, State.memory_fold, apply_ite State.memory, apply_ite Canonical, ite_self, brownWarn_canonical,
    measured_memory, hc]

theorem brownSr_canonical {s : State} (hc : Canonical s.memory) : Canonical (brownSr s).memory := by
  unfold brownSr
  split <;> simp only [apply_ite State.memory, apply_ite Canonical, ite_self, srBeginAll_canonical, setBrown_memory, hc]

/-! ### Charter sections -/

theorem loadTether_canonical {b : Bytes} {s : State} (hc : Canonical s.memory) : Canonical (loadTether b s).memory := by
  simp only [loadTether, State.memory_mk, State.memory_fold, apply_ite State.memory, apply_ite Canonical, ite_self, tethBringUp_memory,
    setPairState_canonical, hc]

/-! ### Loads and boot -/

theorem refuseLoad_canonical {code sect : Nat} {s : State} (hc : Canonical s.memory) : Canonical (refuseLoad code sect s).memory := by
  simp only [refuseLoad, State.memory_mk, State.memory_fold, apply_ite State.memory, apply_ite Canonical, ite_self, cause_memory,
    domainDown_canonical, noteLoad_memory, setLoadError_memory, fallBack_memory, hc]

theorem abortLock_canonical {b k : Nat} {s : State} (hc : Canonical s.memory) : Canonical (abortLock b k s).memory := by
  unfold abortLock
  split <;> simp only [apply_ite State.memory, apply_ite Canonical, ite_self, bump_memory, emit_memory, writeBack_canonical, unlockWay_memory, hc]

theorem drainTimeout_canonical {s : State} (hc : Canonical s.memory) : Canonical (drainTimeout s).memory := by
  unfold drainTimeout
  dsimp only
  split
  · exact hc
  · simp only [State.memory_mk, State.memory_fold, discardAll_memory]
    exact canonical_foldl (fun _ _ h => canonical_foldl (fun _ _ h => abortLock_canonical h) _ h) _ (hc.of_eq (bumpN_memory ..))

theorem clearTills_canonical {s : State} (hc : Canonical s.memory) : Canonical (clearTills s).memory := by
  unfold clearTills
  refine canonical_foldl (fun _ _ h => ?_) _ hc
  rw [State.modLedger_memory]
  exact canonical_foldl (fun _ _ h => (writeBack_canonical h).of_eq (unclaim_memory ..)) _ h

theorem failLoad_canonical {code sect : Nat} {s : State} (hc : Canonical s.memory) : Canonical (failLoad code sect s).memory := by
  unfold failLoad
  dsimp only
  rw [fallBack_memory]
  refine srBeginAll_canonical ?_
  simp only [enterLoadState_memory, acceptDomain_memory, State.memory_mk, State.memory_fold]
  refine canonical_foldl (fun _ _ h => domainDown_canonical h) _ ?_
  simp only [State.memory_mk, State.memory_fold]
  refine clearTills_canonical ?_
  rw [discardAll_memory, setLoadError_memory]
  exact hc

theorem loadError_canonical {code sect : Nat} {s : State} (hc : Canonical s.memory) : Canonical (loadError code sect s).memory := by
  unfold loadError
  split <;> simp only [refuseLoad_canonical, failLoad_canonical, hc]

theorem stagedBytes_canonical {h len : Nat} {s : State} (hc : Canonical s.memory) : Canonical (stagedBytes h len s).2.memory := by
  unfold stagedBytes
  dsimp only
  refine canonical_foldl2 (fun x i h => ?_) _ hc
  have hs : Canonical (cofferRoundOn i [] true id x.2).2.memory := cofferRoundOn_canonical h
  dsimp only
  split
  · exact hs
  · exact hs.of_eq (takeFree_memory _)

theorem takeManifest_canonical {m : Bytes} {s : State} (hc : Canonical s.memory) : Canonical (takeManifest m s).memory := by
  unfold takeManifest
  dsimp only
  split <;> simp only [State.memory_mk, State.memory_fold, apply_ite State.memory, ite_self, enterLoadState_memory, refuseLoad_canonical, hc]

theorem takeTrailer_canonical {t : Bytes} {s : State} (hc : Canonical s.memory) : Canonical (takeTrailer t s).memory := by
  unfold takeTrailer
  split <;> simp only [State.memory_mk, State.memory_fold, refuseLoad_canonical, hc]

theorem takeChunk_canonical {s : State} (hc : Canonical s.memory) : Canonical (takeChunk s).memory := by
  unfold takeChunk
  split <;> simp only [State.memory_mk, State.memory_fold, apply_ite State.memory, apply_ite Canonical, ite_self, failLoad_canonical,
    stagedBytes_canonical, hc]

theorem takeChunks_canonical {s : State} (hc : Canonical s.memory) : Canonical (takeChunks s).memory := by
  unfold takeChunks
  refine canonical_foldl (fun _ _ h => ?_) _ hc
  split
  · exact takeChunk_canonical h
  · exact h

theorem handOver_canonical {h off len : Nat} {s : State} (hc : Canonical s.memory) : Canonical (handOver h off len s).memory := by
  simp only [handOver, State.memory_mk, State.memory_fold, apply_ite State.memory, apply_ite Canonical, ite_self, refuseLoad_canonical,
    failLoad_canonical, stagedBytes_canonical, takeManifest_canonical, takeTrailer_canonical, takeChunk_canonical, hc]

theorem pushLenWrite_canonical {v : Word32} {s : State} (hc : Canonical s.memory) : Canonical (pushLenWrite v s).memory := by
  simp only [pushLenWrite, State.memory_mk, State.memory_fold, apply_ite State.memory, apply_ite Canonical, ite_self, plainWrite_memory,
    setLoadError_memory, handOver_canonical, hc]

theorem enterLoad_canonical {s : State} (hc : Canonical s.memory) : Canonical (enterLoad s).memory := by
  simp only [enterLoad, State.memory_mk, State.memory_fold, apply_ite State.memory, ite_self, setPstate_memory, enterLoadState_memory,
    discardAll_memory, clearTills_canonical, takeChunks_canonical, dropLinks_memory, hc]

theorem verifyDone_canonical {s : State} (hc : Canonical s.memory) : Canonical (verifyDone s).memory := by
  unfold verifyDone
  repeat' split
  all_goals simp only [State.memory_mk, State.memory_fold, emit_memory, refuseLoad_canonical, enterDrain_memory, enterLoad_canonical, hc]

theorem loadStart_canonical {s : State} (hc : Canonical s.memory) : Canonical (loadStart s).memory := by
  simp only [loadStart, apply_ite State.memory, apply_ite Canonical, ite_self, enterLoad_canonical, hc]

theorem flashRead_canonical {density : Option Nat} {data : Option Bytes} {s : State} (hc : Canonical s.memory) :
    Canonical (flashRead density data s).memory := by
  unfold flashRead
  dsimp only
  repeat' split
  all_goals simp only [State.memory_mk, State.memory_fold, refuseLoad_canonical, failLoad_canonical, takeManifest_canonical, takeTrailer_canonical,
    hc]

theorem newVault_canonical {s : State} (hc : Canonical s.memory) : Canonical (newVault s).memory := by
  have hnew : Canonical (([] : Tbl VCell), s.coffer.words) := ⟨wf_nil _, hc.2⟩
  unfold newVault
  simp only [State.memory_foldl, implies_true, State.memory_mk, apply_ite State.memory, ite_self, regStore_memory, setField_memory, cause_memory,
    emit_memory, hnew]

theorem trainingDone_canonical {c : Nat} {spd : Spd} {failure : Option (Fin 4 × Fin 2)} {s : State} (hc : Canonical s.memory) :
    Canonical (trainingDone c spd failure s).memory := by
  unfold trainingDone
  repeat' split
  all_goals simp only [State.modChan_memory, noteTrainFail_memory, failLoad_canonical, hc]

theorem abortLoad_canonical {s : State} (hc : Canonical s.memory) : Canonical (abortLoad s).memory := by
  simp only [abortLoad, loadError_canonical, hc]

theorem charterCtrlWrite_canonical {v : Word32} {s : State} (hc : Canonical s.memory) : Canonical (charterCtrlWrite v s).memory := by
  simp only [charterCtrlWrite, State.memory_mk, State.memory_fold, apply_ite State.memory, apply_ite Canonical, ite_self, setField_memory,
    startLoad_memory, abortLoad_canonical, hc]

theorem bootRamp_canonical {d : Nat} {s : State} (hc : Canonical s.memory) : Canonical (bootRamp d s).memory := by
  simp only [bootRamp, apply_ite State.memory, ite_self, noteAllowance_memory, setDomain_memory, domainUp_canonical, hc]

theorem bootEarly_canonical {s : State} (hc : Canonical s.memory) : Canonical (bootEarly s).memory := by
  unfold bootEarly
  simp only [noteBoot_memory, unwrap_memory, setPstate_memory]
  refine bootRamp_canonical (bootRamp_canonical (bootRamp_canonical (bootRamp_canonical ?_)))
  exact hc

theorem bootRom_canonical {s : State} (hc : Canonical s.memory) : Canonical (bootRom s).memory := by
  simp only [bootRom, apply_ite State.memory, apply_ite Canonical, ite_self, bootEarly_canonical, bootLoad_memory, hc]

theorem porstRelease_canonical {bootSel smbAddr : Nat} {s : State} (hc : Canonical s.memory) : Canonical (porstRelease bootSel smbAddr s).memory := by
  simp only [porstRelease, State.memory_mk, State.memory_fold, apply_ite State.memory, apply_ite Canonical, ite_self, resetCause_memory,
    warnStands_canonical, bootRom_canonical, hc]

theorem railRelease_canonical {rail : Nat} {s : State} (hc : Canonical s.memory) : Canonical (railRelease rail s).memory := by
  simp only [railRelease, State.memory_mk, State.memory_fold, apply_ite State.memory, apply_ite Canonical, ite_self, warnStands_canonical,
    bootRom_canonical, hc]

/-! ### PCIe link -/

theorem perstAssert_canonical {s : State} (hc : Canonical s.memory) : Canonical (perstAssert s).memory := by
  simp only [perstAssert, State.memory_mk, State.memory_fold, apply_ite State.memory, apply_ite Canonical, ite_self, mboxPerst_memory,
    abortLoad_canonical, pcieReset_memory, notePerst_memory, hc]

/-! ### Register writes -/

theorem writeTop_canonical {off : Nat} {v : Word32} {s : State} (hc : Canonical s.memory) : Canonical (writeTop off v s).memory := by
  simp only [writeTop, apply_ite State.memory, apply_ite Canonical, ite_self, plainWrite_memory, pushLenWrite_canonical, charterCtrlWrite_canonical,
    irqForce_memory, eoiWrite_memory, hc]

theorem writeTill_canonical {off b rel : Nat} {v : Word32} {s : State} (hc : Canonical s.memory) : Canonical (writeTill off b rel v s).memory := by
  simp only [writeTill, apply_ite State.memory, apply_ite Canonical, ite_self, plainWrite_memory, flushStart_memory, occLimitWrite_memory,
    refillTokens_memory, setupBurstWrite_memory, hostCommand_canonical, expCfgWrite_memory, hc]

/-! ### RUN -/

theorem dropDomains_canonical {s : State} (hc : Canonical s.memory) : Canonical (dropDomains s).memory := by
  unfold dropDomains
  rw [settlePstate_memory]
  exact canonical_foldl (fun _ _ h => domainDown_canonical h) _ hc

theorem enterRun_canonical {s : State} (hc : Canonical s.memory) : Canonical (enterRun s).memory := by
  simp only [enterRun, State.memory_foldl, implies_true, State.memory_mk, State.memory_fold, cofferClear_canonical, portStart_memory,
    enterLoadState_memory, dropDomains_canonical, assignRest_memory, accordRun_memory, noseRun_memory, perfRun_memory, tokensRun_memory,
    freezeRun_memory, charterNow_memory, hc]

end Sys2Proof.Machine
end


section
/-!
PROOFS. Resets, register writes, loads and the idle step leave the Vault and the Coffer canonical, and so does every command (O10).
-/
namespace Sys2Proof.Machine

theorem program_memory (field : Nat) (ok : Bool) (f : Fuses → Fuses) (s : State) : (program field ok f s).memory = s.memory := by
  unfold program
  dsimp only
  rw [lifecycleChanged_memory, emit_memory]
  have hfree : (if ok then (1#64, s) else takeFree s).2.memory = s.memory := by split <;> rfl
  generalize (if ok then (1#64, s) else takeFree s) = r at hfree ⊢
  simp only [apply_ite State.memory, cause_memory, State.memory_mk, State.memory_fold, ite_self, hfree]

theorem addSlot_memory (blown : Bool) (s : State) : (addSlot blown s).memory = s.memory :=
  ownerCommand_memory _ _ _ _ _ _ _ fun _ _ => program_memory ..

theorem revokeSlot_memory (blown : Bool) (s : State) : (revokeSlot blown s).memory = s.memory :=
  ownerCommand_memory _ _ _ _ _ _ _ fun _ _ => program_memory ..

theorem raiseSvn_memory (blown : Bool) (s : State) : (raiseSvn blown s).memory = s.memory :=
  ownerCommand_memory _ _ _ _ _ _ _ fun _ _ => program_memory ..

theorem ownerLock_memory (blown : Bool) (s : State) : (ownerLock blown s).memory = s.memory :=
  ownerCommand_memory _ _ _ _ _ _ _ fun _ _ => program_memory ..

theorem ownerReturn_memory (blown : Bool) (s : State) : (ownerReturn blown s).memory = s.memory := by
  refine ownerCommand_memory _ _ _ _ _ _ _ fun _ _ => ?_
  simp only [apply_ite State.memory, identityBad_memory, program_memory, ite_self]

theorem provision_memory (blown : Bool) (s : State) : (provision blown s).memory = s.memory := by
  simp only [provision, apply_ite State.memory, mboxResult_memory, program_memory, State.memory_mk, State.memory_fold, ite_self]

theorem loadPorts_memory (b : Bytes) (s : State) : (loadPorts b s).memory = s.memory := by
  simp only [loadPorts, State.memory_mk, State.memory_fold, State.memory_foldl, apply_ite State.memory, portStop_memory, ite_self, implies_true]

theorem loadTaps_memory (eq : Option Bytes) (s : State) : (loadTaps eq s).memory = s.memory := by
  simp only [loadTaps, State.memory_mk, State.memory_fold, stopTaps_memory]

theorem tickTime_memory (s : State) : (tickTime s).memory = s.memory := rfl

/-! ### Resets -/

theorem hardReset_canonical (s : State) : Canonical (hardReset s).memory := ⟨wf_nil _, wf_nil _⟩

theorem coreReset_canonical (s : State) : Canonical (coreReset s).memory := hardReset_canonical s

theorem powerOff_canonical (s : State) : Canonical (powerOff s).memory := coreReset_canonical s

theorem porstAssert_canonical {ns : Nat} {s : State} (hc : Canonical s.memory) : Canonical (porstAssert ns s).memory := by
  unfold porstAssert
  have hfree : Canonical (if ns < 10000 then takeFree s else (1#64, s)).2.memory := by
    split
    · exact hc
    · exact hc
  split
  · exact hc
  · generalize (if ns < 10000 then takeFree s else (1#64, s)) = r at hfree ⊢
    dsimp only
    split
    · exact hfree
    · exact (hardReset_canonical _).of_eq (resetCause_memory ..)

theorem vddReset_canonical {mv : Nat} {s : State} (hc : Canonical s.memory) : Canonical (vddReset mv s).memory := by
  unfold vddReset
  dsimp only
  split
  · simp only [emit_memory, State.memory_mk, State.memory_fold]
    exact coreReset_canonical _
  · exact hc.of_eq (measured_memory ..)

theorem railReset_canonical {rail : Nat} {s : State} (hc : Canonical s.memory) : Canonical (railReset rail s).memory := by
  unfold railReset
  split
  · exact hc
  · dsimp only
    simp only [emit_memory, resetCause_memory, State.memory_mk, State.memory_fold]
    exact hardReset_canonical _

theorem pstateCommand_canonical {target : Nat} {s : State} (hc : Canonical s.memory) : Canonical (pstateCommand target s).memory := by
  unfold pstateCommand
  split
  · exact powerOff_canonical _
  · split
    · exact hc.of_eq (quietEnter_memory ..)
    · exact hc.of_eq (quietExit_memory ..)

theorem pstateCmdWrite_canonical {v : Word32} {s : State} (hc : Canonical s.memory) : Canonical (pstateCmdWrite v s).memory := by
  have hs := hc.of_eq (plainWrite_memory Reg.TREAS_PSTATE_CMD v s)
  unfold pstateCmdWrite
  dsimp only
  split
  · exact pstateCommand_canonical hs
  · exact hs

theorem smbPstate_canonical {val : Byte} {pec : Bool} {s : State} (hc : Canonical s.memory) : Canonical (smbPstate val pec s).memory := by
  unfold smbPstate
  dsimp only
  split
  · exact pstateCommand_canonical hc
  · exact hc

theorem thermalTrip_canonical {s : State} (hc : Canonical s.memory) : Canonical (thermalTrip s).memory := by
  unfold thermalTrip
  extract_lets t y u
  have hu : Canonical u.memory := by
    simp only [u, apply_ite State.memory, quietEnter_memory, noteTrip_memory, State.memory_mk, State.memory_fold, ite_self, hc]
  split
  · exact powerOff_canonical _
  · exact hu

theorem thermalActions_canonical {s : State} (hc : Canonical s.memory) : Canonical (thermalActions s).memory := by
  unfold thermalActions
  dsimp only
  refine thermalTrip_canonical ?_
  simp only [revokeToFit_memory, State.memory_foldl, noseThrottle_memory, implies_true, State.memory_mk, State.memory_fold, crossLevel_memory, hc]

theorem tempSample_canonical {temps : List Int} {s : State} (hc : Canonical s.memory) : Canonical (tempSample temps s).memory := by
  unfold tempSample
  split
  · exact hc
  · refine thermalActions_canonical (canonical_foldl (fun _ _ h => ?_) _ hc)
    split
    · exact h.of_eq (regStore_memory ..)
    · exact h

/-! ### Register writes -/

theorem writeTreas_canonical {off rel : Nat} {v : Word32} {s : State} (hc : Canonical s.memory) : Canonical (writeTreas off rel v s).memory := by
  unfold writeTreas
  split
  · exact pstateCmdWrite_canonical hc
  · simp only [apply_ite State.memory, domainReqWrite_memory, avsCfgWrite_memory, revokeToFit_memory, plainWrite_memory, ite_self, hc]

theorem blockWrite_canonical {b : Block} {i off rel : Nat} {v : Word32} {s : State} (hc : Canonical s.memory) :
    Canonical (blockWrite b i off rel v s).memory := by
  cases b with
  | top => exact writeTop_canonical hc
  | treas => exact writeTreas_canonical hc
  | till => exact writeTill_canonical hc
  | _ =>
    refine hc.of_eq ?_
    simp only [blockWrite, apply_ite State.memory, secWrite_memory, writeTime_memory, writePerf_memory, dispCfgWrite_memory, writeDma_memory,
      portCtrlWrite_memory,
      tethCtrlWrite_memory, writeSieve_memory, writeDisp_memory, writeTell_memory, spareCtrlWrite_memory, writeNose_memory, writeSwc_memory,
        writeTm_memory,
      writeEgr_memory, plainWrite_memory, ite_self]

theorem writeReg32_canonical {off : Nat} {v : Word32} {s : State} (hc : Canonical s.memory) : Canonical (writeReg32 off v s).memory := by
  unfold writeReg32
  split
  · exact hc
  · split
    · exact hc
    · split
      · exact hc
      · split
        · exact hc.of_eq (irqForce_memory ..)
        · exact blockWrite_canonical hc

theorem writeReg64_canonical {off : Nat} {data : Word64} {s : State} (hc : Canonical s.memory) : Canonical (writeReg64 off data s).memory := by
  unfold writeReg64
  split
  · exact hc.of_eq (incrWrite_memory ..)
  · split
    · exact writeReg32_canonical (writeReg32_canonical hc)
    · exact writeReg32_canonical (writeReg32_canonical hc)

theorem registerWrite_canonical {off size : Nat} {data : Word64} {s : State} (hc : Canonical s.memory) :
    Canonical (registerWrite off size data s).memory := by
  unfold registerWrite
  split
  · exact hc.of_eq (unsupported_memory ..)
  · split
    · exact hc.of_eq (complete_memory ..)
    · rw [complete_memory]
      split
      · exact writeReg64_canonical hc
      · exact writeReg32_canonical hc

theorem forceWrite_canonical {off : Nat} {v : Word32} {s : State} (hc : Canonical s.memory) : Canonical (forceWrite off v s).memory := by
  unfold forceWrite
  split
  · exact writeReg32_canonical hc
  · exact hc

theorem batchReg32_canonical {n : Nat} {s : State} (hc : Canonical s.memory) : Canonical (batchReg32 n s).memory := by
  unfold batchReg32
  split
  · exact hc
  · split
    · exact (writeReg32_canonical hc).of_eq (finishEntry_memory ..)
    · exact hc.of_eq (finishEntry_memory ..)

theorem applyRegInit_canonical {b : Bytes} {s : State} (hc : Canonical s.memory) : Canonical (applyRegInit b s).memory :=
  canonical_foldl (fun _ _ h => writeReg32_canonical h) _ hc

/-! ### Loads -/

theorem charterRun_canonical {s : State} (hc : Canonical s.memory) : Canonical (charterRun s).memory := by
  unfold charterRun
  dsimp only
  split
  · exact hc
  · split
    · split
      · exact enterRun_canonical (applyRegInit_canonical hc)
      · exact applyRegInit_canonical hc
    · exact failLoad_canonical hc

theorem enterInit_canonical {s : State} (hc : Canonical s.memory) : Canonical (enterInit s).memory := by
  have hs : Canonical (enterLoadState .init (loadTaps s.loader.laneEq s)).memory := by rwa [enterLoadState_memory, loadTaps_memory]
  unfold enterInit
  simp only [State.memory_mk, State.memory_fold]
  split
  · rw [srEndAll_memory, spareAgain_memory]
    exact hs
  · exact newVault_canonical hs

theorem writeSection_canonical {e : DirEntry} {b : Bytes} {s : State} (hc : Canonical s.memory) : Canonical (writeSection e b s).memory := by
  have htether := loadTether_canonical (b := b) hc
  simp only [writeSection, apply_ite State.memory, apply_ite Canonical, loadPower_memory, settleTaps_memory, loadPorts_memory, State.memory_foldl,
    regStore_memory,
    implies_true, loadRegions_memory, loadStore_memory, loadAutomata_memory, loadQueues_memory, loadMint_memory, State.memory_mk, State.memory_fold,
      htether, hc, ite_self]

theorem sectionDone_canonical {s : State} (hc : Canonical s.memory) : Canonical (sectionDone s).memory := by
  unfold sectionDone
  dsimp only
  split
  · split
    · exact hc
    · split
      · exact failLoad_canonical hc
      · split
        · exact failLoad_canonical hc
        · split
          · exact failLoad_canonical (writeSection_canonical hc)
          · split
            · exact failLoad_canonical (writeSection_canonical hc)
            · split
              · exact enterInit_canonical (writeSection_canonical hc)
              · exact writeSection_canonical hc
  · exact hc

/-! ### An idle step -/

theorem tick_canonical {s : State} (hc : Canonical s.memory) : Canonical (tick s).memory := by
  unfold tick
  dsimp only
  rw [settlePba_memory, tethTick_memory]
  refine windowTick_canonical ?_
  simp only [drainWrites_memory, lasting_memory, State.memory_foldl, noseTick_memory, tickChannel_memory, tickBranch_memory, tickDesk_memory,
    implies_true, State.memory_mk, State.memory_fold, tickCount_memory, tickSnap_memory, tickTime_memory, hc]

theorem gated_canonical {f : State → State} {s : State} (hf : ∀ s, Canonical s.memory → Canonical (f s).memory) (hc : Canonical s.memory) :
    Canonical (gated f s).memory := by
  unfold gated
  split
  · exact hf s hc
  · exact hc

/-- Every command leaves the memories canonical: the words of the Tellers by one lemma, each other command by that of what it runs. -/
theorem exec_canonical {c : Instr} {s t : State} (hc : Canonical s.memory) (h : exec c s = .next t) : Canonical t.memory := by
  cases c with
  | mwFence | mwHold | seqNext | seqJump | seqBrt | seqBrf | seqCall | seqCallt | seqRet | seqRett | seqLoop | seqLdloop | seqLdloopg
  | seqJtab | seqEnd | seqResume | seqTrapv | seqHalt | aopAdd | aopSub | aopAnd | aopOr | aopXor | aopAndn | aopMov | aopShl | aopShr
  | aopSar | aopRol | aopRor | aopMinu | aopMaxu | aopMins | aopMaxs | aopCmp | aopTst | aopMul | aopMulhu | aopAddsu | aopSubsu | aopExt
  | aopIns | aopPopc | aopClz | aopCtz | aopBswap | aopSext | aopZext | aopSetc | bopMov | bopAdd | bopSub | bopAnd | bopOr | bopXor
  | bopShl | bopShr | bopInc | bopDec | bopNot | bopZx8 | bopZx16 | bopZx32 | bopHi32 | bopLo32in | bopHi32in | fopLd | fopSt | fopAdd
  | fopOr | fopAndn | fopStm | fopSetstate | fopOpen | fopRelwin | fopFlush | mopLd | mopLd2 | mopSt | mopSt2 | mopFadd | mopSwap | mopCas
  | mopLookup | mopGuard | mopFtwr | mopUnguard | mopSweep | hopFmix | hopFlow | hopCrc32c | hopRange | hopCanda | hopCandb | qopLdpkt
  | qopLddesc | qopSetact | qopParam | qopRecirc | qopPunt | qopMirror | qopDrop | qopPolice | qopScan | qopNoseget | qopRelease | copInc
  | copAdd | copRd | copRdclr | copPerf | copTick | topNow | topArr | topElapsed | topLockt | topSec | topNsfrac | xopYield | xopPost
  | xopTrace | xopNoaff =>
    cases h
    exact wordRow_canonical hc
  | registerWrite => cases h; simp only [apply_ite State.memory, apply_ite Canonical, ite_self, freshOut_memory, registerWrite_canonical, hc]
  | rcRead => cases h; simp only [apply_ite State.memory, ite_self, userRead_memory, cfgRead_memory, registerRead_memory, hc]
  | unsupportedRequest => cases h; simp only [apply_ite State.memory, ite_self, unsupported_memory, hc]
  | paceUpdate => cases h; simp only [paceUpdate_memory, hc]
  | frameRxStart => cases h; simp only [rxStart_memory, hc]
  | mintRound => cases h; simp only [mintRound_memory, hc]
  | frameRxTail => cases h; simp only [rxTail_memory, hc]
  | macControlFrame => cases h; simp only [macControl_memory, hc]
  | assayAdmit => cases h; simp only [assayAdmit_memory, hc]
  | parsePass => cases h; exact hc.of_eq ((parsePass_memory ..).trans (State.memory_foldl _ (fun _ _ => sieveRead_memory ..) _ _))
  | xchHoldRelease => cases h; simp only [holdRelease_memory, hc]
  | xchStallInterval => cases h; simp only [xchStall_memory, hc]
  | recircPlaceFreed => cases h; simp only [recircPlace_memory, hc]
  | tillProbe => cases h; simp only [tillProbe_canonical, probeRead_canonical, hc]
  | candidateReadDone => cases h; simp only [candidateDone_canonical, hc]
  | fillRetry => cases h; simp only [fillRetry_canonical, hc]
  | occLimitWrite => cases h; simp only [implies_true, gated_memory, occLimitWrite_memory, hc]
  | setupBurstWrite => cases h; simp only [implies_true, gated_memory, setupBurstWrite_memory, hc]
  | missTimeout => cases h; simp only [missTimeout_canonical, hc]
  | durableDirtyExpiry => cases h; simp only [durableExpiry_canonical, hc]
  | tillFlushStart => cases h; simp only [implies_true, gated_memory, flushStart_memory, hc]
  | tillFlushDone => cases h; simp only [flushDone_canonical, hc]
  | lockWaitTimeout => cases h; simp only [lockWaitTimeout_memory, hc]
  | lockAlarm => cases h; simp only [lockAlarm_memory, hc]
  | tillLookup => cases h; exact gated_canonical (fun _ h => hostCommand_canonical h) hc
  | tillWrite => cases h; exact gated_canonical (fun _ h => hostCommand_canonical h) hc
  | tillCreate => cases h; exact gated_canonical (fun _ h => hostCommand_canonical h) hc
  | tillDelete => cases h; exact gated_canonical (fun _ h => hostCommand_canonical h) hc
  | tillFlush => cases h; exact gated_canonical (fun _ h => hostCommand_canonical h) hc
  | tillReadSlot => cases h; exact gated_canonical (fun _ h => hostCommand_canonical h) hc
  | hreqDone => cases h; simp only [hreqDone_canonical, hc]
  | sieveWrite => cases h; simp only [implies_true, gated_memory, sieveRow_memory, hc]
  | sieveInsert => cases h; simp only [implies_true, gated_memory, sieveRow_memory, hc]
  | sieveFind => cases h; simp only [implies_true, gated_memory, sieveRow_memory, hc]
  | sieveInvalidate => cases h; simp only [implies_true, gated_memory, sieveRow_memory, hc]
  | sieveSetEm => cases h; simp only [implies_true, gated_memory, sieveRow_memory, hc]
  | sieveRead => cases h; simp only [implies_true, gated_memory, sieveRow_memory, hc]
  | sieveOpDone => cases h; simp only [sieveOpDone_memory, freshOut_memory, hc]
  | accordSwap => cases h; simp only [implies_true, gated_memory, accordSwap_memory, hc]
  | accordTSwap => cases h; simp only [accordTSwap_memory, freshOut_memory, hc]
  | accordDrained => cases h; simp only [accordDrained_memory, freshOut_memory, hc]
  | accordDrainTmo => cases h; simp only [accordDrainTmo_memory, hc]
  | memReply => cases h; simp only [memReply_canonical, hc]
  | microTrap => cases h; simp only [microTrap_memory, hc]
  | csScrub => cases h; simp only [csScrub_memory, hc]
  | csRead => cases h; simp only [implies_true, gated_memory, csRead_memory, hc]
  | csReadDone => cases h; simp only [csReadDone_memory, hc]
  | tctrlStop => cases h; simp only [implies_true, gated_memory, tellerStop_memory, hc]
  | tctrlCont => cases h; simp only [implies_true, gated_memory, tellerCont_memory, hc]
  | dispatchDecision => cases h; simp only [dispatchDecision_memory, hc]
  | affWaitExpiry => cases h; simp only [waitExpiry_memory, hc]
  | preemptWaitExpiry => cases h; simp only [waitExpiry_memory, hc]
  | dispStallInterval => cases h; simp only [stallInterval_memory, hc]
  | hostItemPost => cases h; simp only [implies_true, gated_memory, hostPost_memory, hc]
  | sweepOffer => cases h; simp only [sweepOffer_memory, hc]
  | affDataAccess => cases h; simp only [affAccess_memory, hc]
  | tmSelect => cases h; simp only [tmSelect_memory, hc]
  | txCopyEnd => cases h; simp only [txEnd_memory, freshTeth_memory, hc]
  | swcGrpWrite => cases h; simp only [apply_ite State.memory, ite_self, implies_true, gated_memory, grpCommand_memory, hc]
  | swcGrpRead => cases h; simp only [apply_ite State.memory, ite_self, implies_true, gated_memory, grpCommand_memory, hc]
  | sampleSeedWrite => cases h; simp only [implies_true, gated_memory, seedWrite_memory, hc]
  | samplerEnable => cases h; simp only [implies_true, gated_memory, samplerWrite_memory, hc]
  | shaperUpdate => cases h; simp only [shaperUpdate_memory, hc]
  | clearDebt => cases h; simp only [apply_ite State.memory, ite_self, implies_true, gated_memory, classCtrlWrite_memory, hc]
  | gclDurWrite => cases h; simp only [implies_true, gated_memory, gclWrite_memory, hc]
  | gclDurRead => cases h; simp only [gclReadHost_memory, hc]
  | gateChange => cases h; simp only [apply_ite State.memory, ite_self, implies_true, gated_memory, gateCtrlWrite_memory, hc]
  | gateSwitch => cases h; simp only [gateSwitch_memory, hc]
  | gateEntryBoundary => cases h; simp only [gateBoundary_memory, hc]
  | gateDisable => cases h; simp only [apply_ite State.memory, ite_self, implies_true, gated_memory, gateCtrlWrite_memory, hc]
  | pauseExpiry => cases h; simp only [pauseExpiry_memory, hc]
  | fcXoffRepeat => cases h; simp only [xoffRepeat_memory, hc]
  | holdExpiry => cases h; simp only [holdExpiry_memory, hc]
  | polWrite => cases h; simp only [polRow_memory, hc]
  | polRead => cases h; simp only [polRow_memory, hc]
  | polReadClear => cases h; simp only [polRow_memory, hc]
  | polRefill => cases h; simp only [polRow_memory, hc]
  | portEnable => cases h; simp only [apply_ite State.memory, ite_self, implies_true, gated_memory, portCtrlWrite_memory, hc]
  | portDisable => cases h; simp only [apply_ite State.memory, ite_self, implies_true, gated_memory, portCtrlWrite_memory, hc]
  | portAcquireDone => cases h; simp only [acquireDone_memory, hc]
  | portAlignDone => cases h; simp only [alignDone_memory, hc]
  | portLinkUp => cases h; simp only [linkUp_memory, hc]
  | portLinkDown => cases h; simp only [linkDown_memory, hc]
  | remoteFault => cases h; simp only [remoteFault_memory, hc]
  | refclkEthLoss =>
    rw [← Host.Outcome.next.inj h, refclkEthLoss_memory]
    exact hc
  | tethRetrain => cases h; simp only [apply_ite State.memory, ite_self, implies_true, gated_memory, tethCtrlWrite_memory, hc]
  | tethTrainDone => cases h; simp only [tethTrained_memory, hc]
  | tethLaneCheck => cases h; simp only [laneCheck_memory, hc]
  | tethLinkUp => cases h; simp only [tethLinkUp_memory, freshTeth_memory, hc]
  | tethReform => cases h; simp only [tethReform_memory, freshTeth_memory, hc]
  | tethLinkDown => cases h; simp only [tethLinkDown_memory, hc]
  | linkFrameRx => cases h; simp only [linkRx_memory, freshTeth_memory, hc]
  | heartbeatSend => cases h; simp only [heartbeatSend_memory, hc]
  | heartbeatRx => cases h; simp only [heartbeatRx_canonical, hc]
  | peerLost => cases h; simp only [peerLost_canonical, hc]
  | mirrorApply => cases h; simp only [mirrorApply_canonical, hc]
  | tetherCopyRx => cases h; simp only [tetherCopy_memory, hc]
  | recoveryRequestRx => cases h; simp only [recoverRequest_canonical, hc]
  | recoveryResponseRx => cases h; simp only [recoverResponse_canonical, hc]
  | recoveryTimeout => cases h; simp only [recoverTimeout_canonical, hc]
  | timeSnap => cases h; simp only [timeSnap_memory, hc]
  | timeIncrWrite => cases h; simp only [incrWrite_memory, hc]
  | timeApply => cases h; simp only [apply_ite State.memory, ite_self, timeCtrlWrite_memory, hc]
  | offsetAdd => cases h; simp only [offsetStep_memory, hc]
  | followCheck => cases h; simp only [followCheck_memory, hc]
  | refclkTimeLoss => cases h; simp only [refclkTime_memory, hc]
  | refclkTimeReturn => cases h; simp only [refclkTime_memory, hc]
  | ts2Pop => cases h; simp only [ts2Pop_memory, hc]
  | trigArm => cases h; simp only [apply_ite State.memory, ite_self, trigCtrlWrite_memory, hc]
  | trigDisarm => cases h; simp only [apply_ite State.memory, ite_self, trigCtrlWrite_memory, hc]
  | trigEdge => cases h; simp only [trigEdge_memory, hc]
  | trigPulseEnd => cases h; simp only [trigPulseEnd_memory, hc]
  | captureEdge => cases h; simp only [captureEdge_memory, hc]
  | capturePop => cases h; simp only [capturePop_memory, hc]
  | ppsEdge => cases h; simp only [ppsEdge_memory, hc]
  | ppsPulseEnd => cases h; simp only [ppsPulseEnd_memory, hc]
  | sillageDeliver => cases h; simp only [sillDeliver_memory, freshOut_memory, hc]
  | dispSampleCfgWrite => cases h; simp only [implies_true, gated_memory, dispCfgWrite_memory, hc]
  | vaultRequestDone => cases h; simp only [apply_ite State.memory, apply_ite Canonical, ite_self, vaultRequestDone_canonical, hc]
  | refreshAccrual => cases h; simp only [refreshAccrual_memory, hc]
  | refreshIssue => cases h; simp only [refreshIssue_memory, hc]
  | dimmTempRead => cases h; simp only [dimmTemp_memory, hc]
  | srEntered => cases h; simp only [srEntered_memory, hc]
  | srRequestArrival => cases h; simp only [apply_ite State.memory, ite_self, srArrival_memory, hc]
  | srExitDone => cases h; simp only [srExitDone_memory, hc]
  | srEntryRetry => cases h; simp only [srRetry_canonical, hc]
  | vaultTrainingDone => cases h; simp only [trainingDone_canonical, hc]
  | zqCalibration => cases h; simp only [zqCalibration_memory, hc]
  | caParityAlert => cases h; simp only [caParity_canonical, hc]
  | ceWindowEnd => cases h; simp only [ceWindowEnd_memory, hc]
  | spareStart => cases h; simp only [apply_ite State.memory, ite_self, implies_true, gated_memory, spareCtrlWrite_memory, hc]
  | migrationCopy => cases h; simp only [migrationCopy_canonical, hc]
  | vaultWindowRead => cases h; simp only [windowAccess_canonical, hc]
  | vaultWindowWrite => cases h; simp only [windowAccess_canonical, hc]
  | mergeWindowExpiry => cases h; simp only [mergeExpiry_canonical, hc]
  | auditVisit => cases h; simp only [auditVisit_canonical, hc]
  | auditLapAlarm => cases h; simp only [lapAlarm_memory, hc]
  | domainRequest => cases h; simp only [apply_ite State.memory, ite_self, domainReqWrite_memory, hc]
  | domainRampStart => cases h; simp only [rampStart_memory, hc]
  | domainRampDone => cases h; simp only [rampDone_canonical, hc]
  | domainPowerDown => cases h; simp only [powerDown_canonical, hc]
  | quietEnter => cases h; simp only [apply_ite State.memory, apply_ite Canonical, ite_self, pstateCmdWrite_canonical, hc]
  | quietEntryComplete => cases h; simp only [quietComplete_canonical, hc]
  | quietStall => cases h; simp only [quietStall_memory, hc]
  | quietExit => cases h; simp only [apply_ite State.memory, apply_ite Canonical, ite_self, pstateCmdWrite_canonical, hc]
  | powerOffCmd => cases h; simp only [apply_ite State.memory, apply_ite Canonical, ite_self, pstateCmdWrite_canonical, hc]
  | allowanceRequest => cases h; simp only [apply_ite State.memory, ite_self, requestAllowance_memory, hc]
  | allowanceGrant => cases h; simp only [grantHead_memory, hc]
  | allowanceReturn => cases h; simp only [apply_ite State.memory, ite_self, returnAllowance_memory, hc]
  | slewStep => cases h; simp only [slewStep_memory, hc]
  | avsUpdate => cases h; simp only [avsUpdate_memory, hc]
  | avsRestart => cases h; simp only [apply_ite State.memory, ite_self, avsCfgWrite_memory, hc]
  | tempSample => cases h; simp only [tempSample_canonical, hc]
  | pwrwarnAssert => cases h; simp only [pwrwarn_canonical, hc]
  | vddCoreWarn => cases h; simp only [vddWarn_canonical, hc]
  | brownoutSr => cases h; simp only [brownSr_canonical, hc]
  | brownoutRecover => cases h; simp only [brownRecover_memory, hc]
  | brownoutNormal => cases h; simp only [brownNormal_memory, hc]
  | vddCoreReset => cases h; simp only [vddReset_canonical, hc]
  | railMonitorReset => cases h; simp only [railReset_canonical, hc]
  | smbTemps => cases h; simp only [smbAnswer_memory, hc]
  | smbState => cases h; simp only [smbAnswer_memory, hc]
  | smbBrown => cases h; simp only [smbAnswer_memory, hc]
  | smbIout => cases h; simp only [smbAnswer_memory, hc]
  | smbPstate => cases h; simp only [smbPstate_canonical, hc]
  | porstAssert => cases h; simp only [porstAssert_canonical, hc]
  | porstRelease => cases h; simp only [porstRelease_canonical, hc]
  | startPush => cases h; simp only [apply_ite State.memory, apply_ite Canonical, ite_self, charterCtrlWrite_canonical, hc]
  | startFlash => cases h; simp only [apply_ite State.memory, apply_ite Canonical, ite_self, charterCtrlWrite_canonical, hc]
  | charterAbort => cases h; simp only [apply_ite State.memory, apply_ite Canonical, ite_self, charterCtrlWrite_canonical, hc]
  | charterLock => cases h; simp only [apply_ite State.memory, apply_ite Canonical, ite_self, charterCtrlWrite_canonical, hc]
  | pushChunk => cases h; simp only [pushLenWrite_canonical, hc]
  | flashReadDone => cases h; simp only [flashRead_canonical, hc]
  | verifyDone => cases h; simp only [verifyDone_canonical, hc]
  | drainTimeout => cases h; simp only [drainTimeout_canonical, hc]
  | loadStart => cases h; simp only [loadStart_canonical, hc]
  | sectionDone => cases h; simp only [sectionDone_canonical, hc]
  | charterRun => cases h; simp only [charterRun_canonical, hc]
  | mboxGetIdentity => cases h; simp only [getIdentity_memory, hc]
  | mboxGetChallenge => cases h; simp only [getChallenge_memory, hc]
  | mboxAttest => cases h; simp only [attest_memory, hc]
  | mboxProvision => cases h; simp only [provision_memory, hc]
  | addSlot => cases h; simp only [addSlot_memory, hc]
  | revokeSlot => cases h; simp only [revokeSlot_memory, hc]
  | raiseSvn => cases h; simp only [raiseSvn_memory, hc]
  | ownerLock => cases h; simp only [ownerLock_memory, hc]
  | debugUnlock => cases h; simp only [debugUnlock_memory, hc]
  | ownerReturn => cases h; simp only [ownerReturn_memory, hc]
  | mboxQueuedStart => cases h; simp only [mboxStart_memory, hc]
  | mboxOpDone => cases h; simp only [mboxDone_memory, hc]
  | mbOp => cases h; simp only [mbOp_memory, hc]
  | mbStatus => cases h; simp only [mbAnswer_memory, hc]
  | mbNonce => cases h; simp only [mbNonce_memory, hc]
  | mbOffset => cases h; simp only [mbOffset_memory, hc]
  | mbRead => cases h; simp only [mbRead_memory, hc]
  | jtagBypass => cases h; exact hc.of_eq (tap_memory _ _ _ fun _ => jtagLoad_memory ..)
  | jtagIdcode => cases h; exact hc.of_eq (tap_memory _ _ _ fun _ => jtagLoad_memory ..)
  | jtagSamplePreload => cases h; exact hc.of_eq (tap_memory _ _ _ fun _ => scanBits_memory ..)
  | jtagExtest => cases h; exact hc.of_eq (tap_memory _ _ _ fun _ => scanBits_memory ..)
  | jtagMbox => cases h; exact hc.of_eq (tap_memory _ _ _ fun _ => jtagMbox_memory ..)
  | jtagDebugInstruction =>
    simp only [exec, execJtagDebugInstruction] at h
    split at h
    · cases h
    · cases h
      exact hc.of_eq (tap_memory _ _ _ fun _ => rfl)
  | perstAssert => cases h; simp only [perstAssert_canonical, hc]
  | perstRelease => cases h; simp only [perstRelease_memory, hc]
  | pcieHotReset => cases h; simp only [apply_ite State.memory, ite_self, pcieReset_memory, hc]
  | pcieDlDown => cases h; simp only [apply_ite State.memory, ite_self, pcieReset_memory, hc]
  | cofferRound => cases h; simp only [cofferRound_canonical, hc]
  | cofferHostRead => cases h; simp only [cofferHostRead_canonical, hc]
  | cofferHostWrite => cases h; simp only [cofferHostChange_canonical, hc]
  | cofferSetWrite => cases h; simp only [cofferHostChange_canonical, hc]
  | cofferClearWrite => cases h; simp only [cofferHostChange_canonical, hc]
  | dmaRingEnable => cases h; simp only [apply_ite State.memory, ite_self, ringCfgWrite_memory, freshOut_memory, hc]
  | dmaRingDisable => cases h; simp only [apply_ite State.memory, ite_self, ringCfgWrite_memory, freshOut_memory, hc]
  | dmaTailWrite => cases h; simp only [apply_ite State.memory, ite_self, tailWrite_memory, hc]
  | dmaDescFetch => cases h; simp only [descFetch_memory, freshOut_memory, hc]
  | dmaRecordWrite => cases h; simp only [recordWrite_memory, freshOut_memory, hc]
  | dmaFlushTimeout => cases h; simp only [apply_ite State.memory, ite_self, flushTimeout_memory, freshOut_memory, hc]
  | dmaStarveInterval => cases h; simp only [starveInterval_memory, hc]
  | injectFrameRead => cases h; simp only [injectRead_memory, freshOut_memory, hc]
  | batchSieve => cases h; simp only [apply_ite State.memory, ite_self, batchSieve_memory, hc]
  | batchReg32 => cases h; simp only [apply_ite State.memory, apply_ite Canonical, ite_self, freshOut_memory, batchReg32_canonical, hc]
  | batchSwap => cases h; simp only [apply_ite State.memory, ite_self, batchSwap_memory, freshOut_memory, hc]
  | batchWaitDrained => cases h; simp only [apply_ite State.memory, ite_self, batchWait_memory, freshOut_memory, hc]
  | batchWaitTimeout => cases h; simp only [apply_ite State.memory, ite_self, batchTimeout_memory, freshOut_memory, hc]
  | batchDone => cases h; simp only [apply_ite State.memory, ite_self, batchDone_memory, freshOut_memory, hc]
  | irqForce => cases h; simp only [apply_ite State.memory, apply_ite Canonical, ite_self, forceWrite_canonical, hc]
  | msixSend => cases h; simp only [msixSend_memory, hc]
  | irqEoi => cases h; simp only [apply_ite State.memory, ite_self, eoiWrite_memory, hc]
  | msixHoldoffExpiry => cases h; simp only [holdoffExpiry_memory, hc]
  | msixUnmask => cases h; simp only [apply_ite State.memory, ite_self, msixMask_memory, hc]
  | portWindowLatch => cases h; simp only [windowLatch_memory, hc]
  | perfFreeze => cases h; simp only [apply_ite State.memory, ite_self, implies_true, gated_memory, freezeWrite_memory, hc]
  | perfUnfreeze => cases h; simp only [apply_ite State.memory, ite_self, implies_true, gated_memory, freezeWrite_memory, hc]
  | perfScheduledAct => cases h; simp only [scheduledAct_memory, hc]
  | perfClear => cases h; simp only [apply_ite State.memory, ite_self, implies_true, gated_memory, perfCtrlWrite_memory, hc]
  | perfDump => cases h; simp only [perfDump_memory, hc]
  | exportTake => cases h; simp only [freshOut_memory, exportTake_canonical, hc]
  | exportItemRetry => cases h; simp only [exportItemRetry_memory, hc]
  | ipfixFlush => cases h; simp only [ipfixFlush_memory, freshOut_memory, hc]
  | ipfixTemplateResend => cases h; simp only [templateResend_memory, hc]
  | nptMapValidate => cases h; simp only [apply_ite State.memory, ite_self, implies_true, gated_memory, nptCtlWrite_memory, hc]
  | noseRequestStart => cases h; simp only [noseStart_memory, hc]
  | noseScanDone => cases h; simp only [noseDone_canonical, hc]
  | noseReportRetry => cases h; simp only [reportRetry_memory, hc]
  | noseBurstReturn => cases h; simp only [noseBurstReturn_memory, hc]
  | noseInvalidate => cases h; simp only [implies_true, gated_memory, noseInvalidate_memory, hc]
  | noseQuiesced => cases h; simp only [noseQuiesced_memory, hc]
  | noseValidate => cases h; simp only [implies_true, gated_memory, noseValidate_memory, hc]
  | noseMemWrite => cases h; simp only [implies_true, gated_memory, noseMemWrite_memory, hc]
  | refclkEthReturn =>
    rw [← Host.Outcome.next.inj h, refclkEthReturn_memory]
    exact hc
  | pcieLinkUp => cases h; simp only [pcieLinkUp_memory, hc]
  | pushHalfConsumed => cases h; simp only [halfConsumed_memory, hc]
  | egressUnderrun => cases h; simp only [underrun_memory, hc]
  | fecUncorrCodeword => cases h; simp only [fecUncorr_memory, hc]
  | railResetRelease => cases h; simp only [railRelease_canonical, hc]

theorem memoryWf_iff (s : State) : MemoryWf s ↔ Canonical s.memory := Iff.rfl

/-- Settles O10: a step runs one command, or is one tick, and either leaves both memories canonical. -/
theorem memoryStaysCanonical : Obligations.MemoryStaysCanonical := by
  unfold Obligations.MemoryStaysCanonical
  intro s t hwf h
  have hc : Canonical s.memory := (memoryWf_iff s).1 hwf
  refine (memoryWf_iff t).2 ?_
  obtain ⟨-, rfl⟩ | ⟨c, cs, -, h⟩ := step_cases h
  · exact tick_canonical hc
  · exact exec_canonical (s := { s with pending := cs }) hc h

end Sys2Proof.Machine
end
